-- ==== Sys2Proof/Word.lean ====
section
/-! DEFINITION. The machine word and its plainest readings (spec 00 R5 to R8). -/

namespace Sys2Proof

/-- The native word, [35:0] (R5). -/
abbrev Word := BitVec 36

/-- Bits [hi:lo] of a number, both ends included. -/
def bitsOf (w hi lo : Nat) : Nat := (w >>> lo) % 2 ^ (hi + 1 - lo)

/-- Field [hi:lo] of a word. -/
def fld (w : Word) (hi lo : Nat) : Nat := bitsOf w.toNat hi lo

/-- Bit i of a word. -/
def bit (w : Word) (i : Nat) : Bool := fld w i i == 1

/-- A word whose listed fields start at the given low bits, every other bit 0. -/
def mkWord (fs : List (Nat × Nat)) : Word :=
  BitVec.ofNat 36 (fs.foldl (fun a f => a + f.2 * 2 ^ f.1) 0)

/-- A word with field [hi:lo] replaced. -/
def putFld (w : Word) (hi lo v : Nat) : Word :=
  BitVec.ofNat 36 (w.toNat - fld w hi lo * 2 ^ lo + (v % 2 ^ (hi + 1 - lo)) * 2 ^ lo)

/-- A Boolean as a field of one bit. -/
def b2n (b : Bool) : Nat := if b then 1 else 0

/-- Lane j of a word: bit 8 is the K flag, bits [7:0] the octet (R5). -/
def laneOf (w : Word) (j : Nat) : Nat := fld w (9 * j + 8) (9 * j)

/-- The octet of lane j. -/
def octetOf (w : Word) (j : Nat) : Nat := fld w (9 * j + 7) (9 * j)

/-- The larger value of a 36-bit count after adding, held at its top. -/
def satAdd (w : Word) (n : Nat) : Word :=
  BitVec.ofNat 36 (min (w.toNat + n) 0xFFFFFFFFF)

end Sys2Proof
end

