-- ==== Sys2Proof/Syntax.lean ====
section
/-! DEFINITION. The commands: one constructor for each row of spec/opcode_table.json, with its operands. -/

namespace Sys2Proof

/-- Unit U00 to U63. -/
abbrev UnitId := Fin 64
/-- An engine: 0 to 63 the unit engines, 64 the hub engine. -/
abbrev EngId := Fin 65
abbrev ClusterId := Fin 16
abbrev RegionId := Fin 4
abbrev DieId := Fin 2
abbrev CtxId := Fin 16384
abbrev PairId := Fin 2048
abbrev HqId := Fin 8
abbrev CmdRingId := Fin 4
/-- Engine register g0 to g15. -/
abbrev Reg := Fin 16
/-- Engine predicate p0 to p3. -/
abbrev Pred := Fin 4

/-- Line or system side. -/
inductive Side where
  | line
  | system
  deriving DecidableEq, Repr

/-- Slot of a bundle (R299). -/
inductive Slot where
  | a
  | b
  deriving DecidableEq, Repr

/-- The issue of one instruction: engine, slot, guarding predicate (Table 9-1). -/
structure Iss where
  eng : EngId
  slot : Slot
  pred : Pred
  deriving DecidableEq, Repr

/-- The issue of an instruction that stands only in slot A (R300). -/
structure IssA where
  eng : EngId
  pred : Pred
  deriving DecidableEq, Repr

/-- Shift amount: FN[5:0], or the low six bits of a register (Table 9-4). -/
inductive Amount where
  | imm (n : Fin 64)
  | reg (g : Reg)
  deriving DecidableEq, Repr

/-- Who issued a write that a commit window applies: a unit program, the hub image, a batch (its number in the
order of starting), or the debug port. -/
inductive Src where
  | unit (u : UnitId)
  | hub
  | batch (id : Nat)
  | debug
  deriving DecidableEq, Repr

/-- The issuer of an applied effect and the bundle address of its instruction. -/
structure Origin where
  src : Src
  bundle : Nat
  deriving DecidableEq, Repr

/-- A PROT.REQ either issues in an engine, naming the register that holds the pair, or lands in a commit window. -/
inductive ReqStep where
  | issue (i : IssA) (gA : Reg)
  | land (o : Origin) (pair : PairId)
  deriving DecidableEq, Repr

/-- A lane of one side. -/
structure LaneRef where
  side : Side
  lane : Fin 64
  deriving DecidableEq, Repr

/-- One LANE_CFG write to a lane of a quad. -/
structure LaneWrite where
  origin : Origin
  lane : Fin 4
  value : Word
  deriving DecidableEq, Repr

/-- An adapting loop of a receiver (R72). -/
inductive EqLoop where
  | ctle
  | ffe
  | dfe
  | thr
  deriving DecidableEq, Repr

/-- A SerDes reference input. -/
inductive RefName where
  | a
  | b
  deriving DecidableEq, Repr

/-- A write applied in a commit window: its issuer, the value written. -/
structure CtlWrite where
  origin : Origin
  value : Word
  deriving DecidableEq, Repr

/-- A stream descriptor: serving unit and number. -/
structure StreamRef where
  unit : UnitId
  num : Fin 160
  deriving DecidableEq, Repr

/-- One write to a set-up word (FRM_CFG to FRM_GRP) of a stream. -/
structure FrmWrite where
  origin : Origin
  word : Fin 4
  value : Word
  deriving DecidableEq, Repr


/-- A mapper port: serving unit and number. -/
structure PortRef where
  unit : UnitId
  port : Fin 192
  deriving DecidableEq, Repr

/-- One write to a set-up or run word (MAP_CFG to MAP_TX_RUN3) of a port. -/
structure MapWrite where
  origin : Origin
  word : Fin 12
  value : Word
  deriving DecidableEq, Repr

/-- One write to a run word of a port. -/
structure RunWrite where
  origin : Origin
  word : Fin 4
  value : Word
  deriving DecidableEq, Repr

/-- Receive runs are written in a commit window, or land at a server frame boundary. -/
inductive RunStep where
  | write (ws : List RunWrite)
  | land
  deriving DecidableEq, Repr

/-- A GFP core header as received: good, with one bit error, or with more (R193). -/
inductive GfpHeader where
  | good
  | single
  | bad
  deriving DecidableEq, Repr

/-- What a received GFP frame is: a data frame with its carried octets and whether its FCS or pFCS was wrong, a CSF, or
an idle frame. -/
inductive GfpRx where
  | data (bytes : List (Fin 256)) (bad : Bool)
  | csf
  | idle
  deriving DecidableEq, Repr

/-- A client queue by its 11-bit ID. -/
abbrev CqId := Fin 2048

/-- One write to a word of a queue. -/
structure QueueWrite where
  origin : Origin
  word : Fin 3
  value : Word
  deriving DecidableEq, Repr

/-- A frame from the NPU at a CHAN_IF port: its channel header octet by octet, carried octets, its end with a good or a
bad FCS (R188, R189). -/
inductive ChanStep where
  | head (octets : List (Fin 256))
  | data (octets : List (Fin 256))
  | finish (fcsOk : Bool)
  deriving DecidableEq, Repr

/-- A client or a host queue. -/
inductive QueueRef where
  | client (q : CqId)
  | host (q : HqId)
  deriving DecidableEq, Repr

/-- A carrier of output slots or grains: a mapper port, or the STM-N of a fine block (R202). -/
inductive CarrierRef where
  | port (r : PortRef)
  | block (region : RegionId) (b : Fin 64)
  deriving DecidableEq, Repr

/-- A ring of the proof store (R236). -/
abbrev RingId := Fin 4096
/-- A group (R10): 0 to 2,046. -/
abbrev GroupId := Fin 2047

/-- One write to HL_CFG, or with `rate` to HL_RATE, of a pair. -/
structure HlWrite where
  origin : Origin
  rate : Bool
  value : Word
  deriving DecidableEq, Repr

/-- RECENTRE is written, or its output frame boundary has come (R266). -/
inductive RecentreStep where
  | write (o : Origin)
  | place
  deriving DecidableEq, Repr
/-- One write to PRT_CFG, PRT_CTX or PRT_LINK of a pair. -/
structure PrtWrite where
  origin : Origin
  word : Fin 3
  value : Word
  deriving DecidableEq, Repr
/-- One captured buffer word of a received frame: field code, word, octets with their K flags. -/
structure Capture where
  field : Fin 64
  word : Fin 64
  value : Word
  deriving DecidableEq, Repr

/-- The pointer of an SDH path as interpreted: valid and equal to the one before, valid and new, invalid, with NDF, or all
ones (Table 4-16). -/
inductive Pointer where
  | same
  | fresh
  | invalid
  | ndf
  | ones
  deriving DecidableEq, Repr

/-- What a frame brings to a port: whether its Cm is out of range, idle blocks inserted and deleted, blocks replaced. -/
structure PortRx where
  port : PortRef
  cmBad : Bool
  idleIns : Nat
  idleDel : Nat
  blkErr : Nat
  deriving DecidableEq, Repr

/-- A frame written to a ring: its lines, its multiframe value and its fingerprint. -/
structure RingRx where
  ring : RingId
  lines : Nat
  mf : Fin 256
  fp : BitVec 32
  deriving DecidableEq, Repr

/-- A frame of a group member: its multiframe value, its sequence number, and its delay in ns behind the earliest member. -/
structure MemberRx where
  mfi : Fin 16777216
  sq : Fin 256
  delay : Nat
  deriving DecidableEq, Repr

/-- Codewords of a FEC anchor lane: received, corrected, uncorrectable, and symbols corrected. -/
structure FecRx where
  lane : LaneRef
  cw : Nat
  corr : Nat
  uncorr : Nat
  sym : Nat
  deriving DecidableEq, Repr

/-- A received frame of a layer. `bip`: received and computed octets of its BIP, one pair for each slice or column;
`bei`: the BEI/BIAE value of each slice. -/
structure RxFrame where
  mf : Option (Fin 256) := none
  captures : List Capture := []
  bip : List (Fin 256 × Fin 256) := []
  bei : List (Fin 16) := []
  pointer : Pointer := .same
  rpf : Bool := false
  ports : List PortRx := []
  rings : List RingRx := []
  member : Option MemberRx := none
  fec : List FecRx := []
  deriving DecidableEq, Repr
/-- What crosses an orderwire channel: an octet received from the line, a frame toward the line, a sample from the card, a
frame toward the card, or the start of a frame of its port with the measured FS in Hz (R509, R516). -/
inductive AudioMove where
  | lineRx (octet : Fin 256)
  | lineTx
  | cardRx (sample : Fin 65536)
  | cardTx
  | portFrame (fsHz : Fin 16384)
  deriving DecidableEq, Repr

/-! ### Loaves -/

/-- Figures of one context loop of an image (R322). -/
structure LoopFig where
  mask : Nat
  b : Nat
  s : Nat
  t : Nat
  deriving DecidableEq, Repr

/-- One image of a loaf (R328): its descriptor and its bundles. -/
structure Image where
  hub : Bool
  selfProfile : Bool
  grantR : Nat
  grantW : Nat
  f : Nat
  fs : Nat
  ft : Nat
  loops : List LoopFig
  bundles : List Nat
  deriving DecidableEq, Repr

/-- A loaf (R326, R327): images, the image of each unit, the hub image. -/
structure Loaf where
  version : Word
  images : List Image
  unitMap : List (Option Nat)
  hubImg : Option Nat
  digest : Nat
  /-- its length in lines, signature block included -/
  lines : Nat
  deriving DecidableEq, Repr

/-! ### Redundant pairs -/

/-- A message on the Polfen link (R402, R404, R408, R417, R574): its entries are pairs of a target and a word. -/
inductive MateMsg where
  | status (h : BitVec 72)
  | tier1 (tick wrap : Word) (entries : List (Nat × Word))
  | tier2 (tick wrap : Word) (entries : List (Nat × Word))
  | sweep (last : Bool) (loaf : Option Loaf) (entries : List (Nat × Word))
  | resyncReq
  | resyncStart (tick : Word)
  | msg (lines : List (BitVec 288))
  deriving DecidableEq, Repr

/-- A Polfen frame (Table 12-7); `msg` is the message that a frame with LAST completes. -/
structure PFrame where
  ty : Nat
  seq : Nat
  ack : Nat
  nak : Bool
  first : Bool
  last : Bool
  len : Nat
  crg : Nat
  msg : Option MateMsg
  deriving DecidableEq, Repr

/-- Tamper monitors (Table 13-8). -/
inductive Tamper where
  | voltage
  | clock
  | temperature
  | glitch
  | entropy
  deriving DecidableEq, Repr

/-- What the package measures and latches at T0: VIN in 0.1 V, input power in 0.1 W, junctions of D0, D1 and the hub in
°C. -/
structure Meas where
  vin : Fin 1024
  pIn : Fin 4096
  tj0 : Int
  tj1 : Int
  tjHub : Int
  deriving DecidableEq, Repr

/-! ### Host, guest, JTAG -/

/-- A batch buffer as fetched (Table 14-4): whether its tag verifies over the sequence expected, its fields, and whether
its reserved bytes are zero. -/
structure BatchBuf where
  tagOk : Bool
  ver : Nat
  format : Nat
  clean : Bool
  bundles : List (BitVec 72)
  data : List (BitVec 288)
  seq : Nat
  dataAt : Nat
  outAt : Nat
  outLen : Nat
  deriving DecidableEq, Repr

/-- What the buffer of a command entry holds (R472 to R475): an OPEN with its level and whether Qh is a point of the
curve, a PROOF and whether it verifies. -/
inductive CmdBuf where
  | batch (b : BatchBuf)
  | openReq (owner pointOk : Bool)
  | proof (sigOk : Bool)
  deriving DecidableEq, Repr

/-- A command entry as fetched (Table 14-3); `ty` is its TYPE byte, `clean` its reserved bytes are zero, `lenOk` LEN
agrees with its buffer. -/
structure CmdEntry where
  ty : Nat
  resp : Nat
  clean : Bool
  lenOk : Bool
  reply : Nat
  buf : CmdBuf
  deriving DecidableEq, Repr

/-- An I²C transaction at the guest port after its address: bytes written, or a read of so many bytes (R489). -/
inductive GuestIo where
  | write (bytes : List (Fin 256))
  | read (n : Nat)
  deriving DecidableEq, Repr

/-- The straps sampled at R0 (R556). -/
structure Straps where
  seat : Fin 2
  ga : Fin 4
  claimL : Bool
  vioSel : Bool
  deriving DecidableEq, Repr

/-- Severity of a PCI Express error. -/
inductive PcieErr where
  | correctable
  | uncorrectable
  deriving DecidableEq, Repr

/-- What ends a first-stage run (R549). -/
inductive VinStop where
  | uvlo
  | ovlo
  deriving DecidableEq, Repr


/-- The commands of the SY1280 block, one constructor per row of the opcode table. -/
inductive Instr where
  /-- TICK_BOUNDARY (R37). -/
  | tickBoundary (m : Meas)
  /-- PASS_START (R38). -/
  | passStart
  /-- PASS_OVERRUN (R18). -/
  | passOverrun
  /-- COMMIT_WINDOW (R43). -/
  | commitWindow
  /-- TIER1_DELTA_SEAL (R399). -/
  | tier1DeltaSeal
  /-- HEALTH_WORD_TX (R393). -/
  | healthWordTx
  /-- NOP (R310). -/
  | nop (i : Iss)
  /-- ADD (R310). -/
  | add (i : Iss) (gD gA gB : Reg)
  /-- SUB (R310). -/
  | sub (i : Iss) (gD gA gB : Reg)
  /-- AND (R310). -/
  | and (i : Iss) (gD gA gB : Reg)
  /-- OR (R310). -/
  | or (i : Iss) (gD gA gB : Reg)
  /-- XOR (R310). -/
  | xor (i : Iss) (gD gA gB : Reg)
  /-- SHL (R310). -/
  | shl (i : Iss) (gD gA : Reg) (amt : Amount)
  /-- SHR (R310). -/
  | shr (i : Iss) (gD gA : Reg) (amt : Amount)
  /-- SAR (R310). -/
  | sar (i : Iss) (gD gA : Reg) (amt : Amount)
  /-- MOV (R310). -/
  | mov (i : Iss) (gD gA : Reg)
  /-- SEL (R310). -/
  | sel (i : Iss) (gD gA gB : Reg) (p : Pred)
  /-- MIN (R310). -/
  | min (i : Iss) (gD gA gB : Reg)
  /-- MAX (R310). -/
  | max (i : Iss) (gD gA gB : Reg)
  /-- SAT_ADD (R310). -/
  | satAdd (i : Iss) (gD gA gB : Reg)
  /-- CMP_EQ (R310). -/
  | cmpEq (i : Iss) (pT pF : Pred) (gA gB : Reg)
  /-- CMP_NE (R310). -/
  | cmpNe (i : Iss) (pT pF : Pred) (gA gB : Reg)
  /-- CMP_LT (R310). -/
  | cmpLt (i : Iss) (pT pF : Pred) (gA gB : Reg)
  /-- CMP_LTU (R310). -/
  | cmpLtu (i : Iss) (pT pF : Pred) (gA gB : Reg)
  /-- MOVI (R310). -/
  | movi (i : Iss) (gD : Reg) (imm : BitVec 20)
  /-- MOVH (R310). -/
  | movh (i : Iss) (gD gA : Reg) (imm : BitVec 16)
  /-- ADD_IMMEDIATE (R310). -/
  | addImmediate (i : Iss) (gD gA : Reg) (imm : BitVec 20)
  /-- LEX (R310). -/
  | lex (i : IssA) (gD gA : Reg) (lane : Fin 4)
  /-- LINS (R310). -/
  | lins (i : IssA) (gD gA gB : Reg) (lane : Fin 4)
  /-- POPC (R310). -/
  | popc (i : IssA) (gD gA : Reg)
  /-- BIP8 (R310). -/
  | bip8 (i : IssA) (gD gA gB : Reg)
  /-- CTX_LD (R308). -/
  | ctxLd (i : IssA) (gD gA : Reg) (off : Fin 256) (word : Fin 128)
  /-- CTX_ST (R40). -/
  | ctxSt (i : IssA) (gD gA : Reg) (off : Fin 256) (word : Fin 128)
  /-- CTX_NEXT (R310). -/
  | ctxNext (i : IssA) (gD gA : Reg) (mask : BitVec 16)
  /-- CTX_ID (R310). -/
  | ctxId (i : IssA) (gD gA : Reg) (toHandle : Bool)
  /-- OH_GET (R128). -/
  | ohGet (i : IssA) (gD gA : Reg) (off : Fin 256) (field word : Fin 64)
  /-- OH_PUT (R129). -/
  | ohPut (i : IssA) (gD gA : Reg) (off : Fin 256) (field word : Fin 64)
  /-- DEF_SET (R147). -/
  | defSet (i : IssA) (gA : Reg) (off : Fin 256) (bit : Fin 64)
  /-- DEF_CLR (R147). -/
  | defClr (i : IssA) (gA : Reg) (off : Fin 256) (bit : Fin 64)
  /-- ALM (R159). -/
  | alm (i : IssA) (gA : Reg) (off : Fin 256)
  /-- PM_ADD (R156). -/
  | pmAdd (i : IssA) (gD gA : Reg) (off : Fin 256) (param : Fin 8)
  /-- PM_ROLL (R157). -/
  | pmRoll (i : IssA) (gA : Reg) (off : Fin 256) (bin suspect : Bool)
  /-- CFG_R (R41). -/
  | cfgR (i : IssA) (gD gA : Reg) (off : BitVec 16)
  /-- CFG_W (R39). -/
  | cfgW (i : IssA) (gA gB : Reg) (off : BitVec 16)
  /-- FILT_SET (R145). -/
  | filtSet (i : IssA) (gA gB : Reg) (word : Fin 2)
  /-- FILT_GET (R139). -/
  | filtGet (i : IssA) (gD gA : Reg) (word : Fin 4)
  /-- PROT_REQ_CLEAR (R285). -/
  | protReqClear (w : ReqStep)
  /-- PROT_REQ_LO (R285). -/
  | protReqLo (w : ReqStep)
  /-- PROT_REQ_FS (R285). -/
  | protReqFs (w : ReqStep)
  /-- PROT_REQ_MS_P (R285). -/
  | protReqMsP (w : ReqStep)
  /-- PROT_REQ_MS_W (R285). -/
  | protReqMsW (w : ReqStep)
  /-- PROT_REQ_EXER (R285). -/
  | protReqExer (w : ReqStep)
  /-- PROT_REQ_WTR (R290). -/
  | protReqWtr (w : ReqStep)
  /-- PROT_REQ_DNR (R285). -/
  | protReqDnr (w : ReqStep)
  /-- PROT_REQ_NR (R285). -/
  | protReqNr (w : ReqStep)
  /-- PROT_ST (R310). -/
  | protSt (i : IssA) (gD gA : Reg)
  /-- DECK_W (R211). -/
  | deckW (i : IssA) (gA gB : Reg)
  /-- DECK_RD (R211). -/
  | deckRd (i : IssA) (gD gA : Reg) (standby : Bool)
  /-- DECK_SWAP (R216). -/
  | deckSwap (i : IssA) (d0 d1 : Bool)
  /-- Q_OPEN (R313). -/
  | qOpen (i : IssA) (gA : Reg) (q : HqId)
  /-- Q_PUT (R313). -/
  | qPut (i : IssA) (gA : Reg)
  /-- Q_CLOSE (R341). -/
  | qClose (i : IssA)
  /-- Q_ABORT (R313). -/
  | qAbort (i : IssA)
  /-- CHK_SEED (R355). -/
  | chkSeed (i : IssA) (gA : Reg) (fold : Bool) (mode : Fin 6) (wait : Fin 33)
  /-- CHK_FEED (R355). -/
  | chkFeed (i : IssA) (gA : Reg) (lanes : Fin 4) (wait : Fin 33)
  /-- CHK_RES (R355). -/
  | chkRes (i : IssA) (gD : Reg) (wait : Fin 33)
  /-- PC_SEL (R366). -/
  | pcSel (i : IssA) (gA : Reg) (k : Fin 8)
  /-- PC_RD (R373). -/
  | pcRd (i : IssA) (gD : Reg) (shadow : Bool) (k : Fin 10)
  /-- SNAP (R374). -/
  | snap (i : IssA)
  /-- SNAP_IN_EDGE (R374). -/
  | snapInEdge
  /-- SNAP_CAPTURE (R374). -/
  | snapCapture (merged : Nat)
  /-- BR (R316). -/
  | br (i : Iss) (off : Fin 8192)
  /-- LOOP (R317). -/
  | loop (i : IssA) (n : Fin 4096) (last : Fin 8192)
  /-- LOOP_CONTEXT (R317). -/
  | loopContext (i : IssA) (gD : Reg) (mask : BitVec 16) (last : Fin 8192)
  /-- ENDL (R317). -/
  | endl (i : Iss)
  /-- CALL (R318). -/
  | call (i : IssA) (target : Fin 8192)
  /-- RET (R318). -/
  | ret (i : IssA)
  /-- HALT_TICK (R319). -/
  | haltTick (i : IssA)
  /-- STORE_STARTER (R464). -/
  | storeStarter (i : IssA) (gD gA gB : Reg)
  /-- STORE_FW (R464). -/
  | storeFw (i : IssA) (gD gA gB : Reg) (sigOk : Bool)
  /-- STORE_OWNER (R444). -/
  | storeOwner (i : IssA) (gD gA gB : Reg) (sigOk bindOk : Bool)
  /-- STORE_FLOORS (R441). -/
  | storeFloors (i : IssA) (gD gA gB : Reg)
  /-- STORE_PAIR (R459). -/
  | storePair (i : IssA) (gD gA gB : Reg) (sigOk : Bool)
  /-- STORE_COMPLETE (R463). -/
  | storeComplete
  /-- SEAL (R465). -/
  | seal (i : IssA) (gD : Reg)
  /-- ATTEST (R452). -/
  | attest (i : IssA) (gD gA gB : Reg)
  /-- LOAF_LOAD (R445). -/
  | loafLoad (i : IssA) (gD gA gB : Reg) (sigOk : Bool)
  /-- KEY_GEN (R467). -/
  | keyGen (i : IssA) (gD gB : Reg) (slot : Fin 4)
  /-- KEY_USE_SIGN (R467). -/
  | keyUseSign (i : IssA) (gD gA gB : Reg) (slot : Fin 4)
  /-- KEY_USE_CERTIFY (R467). -/
  | keyUseCertify (i : IssA) (gD gA gB : Reg) (slot : Fin 4)
  /-- KEY_USE_AGREE (R467). -/
  | keyUseAgree (i : IssA) (gD gA gB : Reg) (slot : Fin 4)
  /-- POWER (R525). -/
  | power (i : IssA) (gA : Reg) (ladder : Fin 8)
  /-- MATE_SEND (R574). -/
  | mateSend (i : IssA) (gD gA gB : Reg)
  /-- SESSION_CLOSE (R450). -/
  | sessionClose (i : IssA) (gD : Reg)
  /-- SESSION_RENEW (R449). -/
  | sessionRenew (i : IssA) (gD : Reg)
  /-- CQ_BASE_WRITE (R470). -/
  | cqBaseWrite (q : CmdRingId) (field : Fin 3) (v : BitVec 32)
  /-- CQ_TAIL (R471). -/
  | cqTail (q : CmdRingId) (v : BitVec 32)
  /-- COMMAND_FETCH (R471). -/
  | commandFetch (q : CmdRingId) (e : CmdEntry)
  /-- CQ_BATCH (R477). -/
  | cqBatch (q : CmdRingId)
  /-- CQ_OPEN (R446). -/
  | cqOpen (q : CmdRingId)
  /-- CQ_PROOF (R446). -/
  | cqProof (q : CmdRingId)
  /-- PROOF_TIMEOUT (R446). -/
  | proofTimeout (q : CmdRingId)
  /-- BATCH_START (R478). -/
  | batchStart
  /-- HR_HEAD (R482). -/
  | hrHead (q : HqId) (v : BitVec 32)
  /-- HQ_CREDIT (R344). -/
  | hqCredit (q : HqId) (v : BitVec 32)
  /-- HOST_RING_WRITE (R482). -/
  | hostRingWrite (q : HqId)
  /-- HR_COAL_TIMEOUT (R488). -/
  | hrCoalTimeout (q : HqId)
  /-- INT_CLR (R488). -/
  | intClr (v : BitVec 32)
  /-- REC_GO (R439). -/
  | recGo (addr : BitVec 64) (image : List (BitVec 288)) (sigOk : Bool)
  /-- BAR0_VIOLATION (R454). -/
  | bar0Violation (off : BitVec 24)
  /-- HOST_CTX_CREATE (R487). -/
  | hostCtxCreate (o : Origin) (kind : Fin 16) (id : CtxId)
  /-- HOST_CTX_DELETE (R487). -/
  | hostCtxDelete (o : Origin) (id : CtxId)
  /-- HOST_CTX_SET_KIND (R487). -/
  | hostCtxSetKind (o : Origin) (kind : Fin 16) (id : CtxId)
  /-- HOST_CTX_SET_PIN (R545). -/
  | hostCtxSetPin (o : Origin) (id : CtxId)
  /-- HOST_CTX_CLEAR_PIN (R487). -/
  | hostCtxClearPin (o : Origin) (id : CtxId)
  /-- CONTROL_WORD_WRITE (R39). -/
  | controlWordWrite (o : Origin) (addr : BitVec 24) (v : Word)
  /-- LANE_CFG (R59). -/
  | laneCfg (side : Side) (quad : Fin 16) (ws : List LaneWrite)
  /-- VCO_CAL_DONE (R61). -/
  | vcoCalDone (side : Side) (quad : Fin 16)
  /-- LANE_PLL_LOCK (R61). -/
  | lanePllLock (l : LaneRef)
  /-- LANE_CDR_LOCK (R61). -/
  | laneCdrLock (l : LaneRef)
  /-- LANE_ADAPT_DONE (R61). -/
  | laneAdaptDone (l : LaneRef) (eq : List Word) (snr : Fin 256)
  /-- LANE_DOWN (R103). -/
  | laneDown (l : LaneRef) (cdrLost sigLost : Bool)
  /-- FEC_CFG (R66). -/
  | fecCfg (l : LaneRef) (w : CtlWrite)
  /-- FEC_CNT_CLR (R70). -/
  | fecCntClr (l : LaneRef)
  /-- LANE_EQ_CTRL (R72). -/
  | laneEqCtrl (l : LaneRef) (w : CtlWrite)
  /-- LANE_TX_FFE (R78). -/
  | laneTxFfe (l : LaneRef) (i : Fin 2) (w : CtlWrite)
  /-- EQ_FENCE_HIT (R75). -/
  | eqFenceHit (l : LaneRef) (loop : EqLoop)
  /-- EQ_MARGIN_LOW (R76). -/
  | eqMarginLow (l : LaneRef) (snr : Fin 256)
  /-- LINK_TRAIN_DONE (R79). -/
  | linkTrainDone (l : LaneRef) (ffe0 ffe1 : Word)
  /-- LINK_TRAIN_FAIL (R79). -/
  | linkTrainFail (l : LaneRef)
  /-- PRBS_GEN_EN (R82). -/
  | prbsGenEn (o : Origin) (l : LaneRef) (pat : Fin 16) (inv : Bool)
  /-- PRBS_CHK_EN (R81). -/
  | prbsChkEn (o : Origin) (l : LaneRef) (pat : Fin 16)
  /-- PRBS_ERR_INJ (R80). -/
  | prbsErrInj (o : Origin) (l : LaneRef)
  /-- PRBS_LOCK (R81). -/
  | prbsLock (l : LaneRef) (bits errs : Nat)
  /-- PRBS_LOCK_LOSS (R81). -/
  | prbsLockLoss (l : LaneRef) (bits errs : Nat)
  /-- LANE_LPBK (R82). -/
  | laneLpbk (o : Origin) (l : LaneRef) (near far : Bool)
  /-- CLK_REF_CTRL (R88). -/
  | clkRefCtrl (r : RegionId) (w : CtlWrite)
  /-- REFCLK_LOSS (R85). -/
  | refclkLoss (r : RegionId) (n : RefName)
  /-- REFCLK_REQUALIFY (R85). -/
  | refclkRequalify (r : RegionId) (n : RefName)
  /-- FRM_CFG (R95). -/
  | frmCfg (r : StreamRef) (ws : List FrmWrite)
  /-- FRM_THR (R96). -/
  | frmThr (r : StreamRef) (w : CtlWrite)
  /-- FRM_TIME (R96). -/
  | frmTime (r : StreamRef) (w : CtlWrite)
  /-- FRM_CNT_CLR (R121). -/
  | frmCntClr (r : StreamRef)
  /-- CANDIDATE_OPEN (R98). -/
  | candidateOpen (r : StreamRef) (member : Fin 64) (offset mf : Nat)
  /-- CANDIDATE_CHECK (R99). -/
  | candidateCheck (r : StreamRef) (member : Fin 64) (offset : Nat) (faOk : Bool) (mf : Nat)
  /-- FRAMER_WINDOW_END (R100). -/
  | framerWindowEnd (r : StreamRef) (member : Fin 64)
  /-- OOF_DECLARE (R102). -/
  | oofDeclare (r : StreamRef) (member : Fin 64)
  /-- MF_OOM (R107). -/
  | mfOom (r : StreamRef)
  /-- MF_IM (R107). -/
  | mfIm (r : StreamRef)
  /-- LOF_SET (R108). -/
  | lofSet (r : StreamRef) (lane : Option (Fin 20))
  /-- LOF_CLR (R108). -/
  | lofClr (r : StreamRef) (lane : Option (Fin 20))
  /-- LOM_SET (R108). -/
  | lomSet (r : StreamRef)
  /-- LOM_CLR (R108). -/
  | lomClr (r : StreamRef)
  /-- LOL_CHANGE (R119). -/
  | lolChange (r : StreamRef) (idOk : Bool) (skew latest earliest locked : Nat)
  /-- FRAME_RECEIVE (R133). -/
  | frameReceive (c : CtxId) (f : RxFrame)
  /-- FILTER_OCCURRENCE (R142). -/
  | filterOccurrence (c : ClusterId) (n : Fin 2048)
  /-- FILTER_UNSTABLE (R143). -/
  | filterUnstable (c : ClusterId) (n : Fin 2048)
  /-- FC_CFG (R145). -/
  | fcCfg (c : ClusterId) (cell : Fin 2048) (word : Fin 2) (w : CtlWrite)
  /-- OH_PM_SET (R154). -/
  | ohPmSet (u : UnitId) (w : CtlWrite)
  /-- OH_ERR_CLEAR (R154). -/
  | ohErrClear (u : UnitId)
  /-- LOS_DECLARE (R147). -/
  | losDeclare (r : StreamRef)
  /-- LOS_CLEAR (R147). -/
  | losClear (r : StreamRef)
  /-- DEFECT_DECLARE (R147). -/
  | defectDeclare (c : CtxId) (d : Fin 36)
  /-- DEFECT_CLEAR (R147). -/
  | defectClear (c : CtxId) (d : Fin 36)
  /-- CONSEQUENT_ACTION_START (R150). -/
  | consequentActionStart (c : CtxId) (backward : Bool)
  /-- CONSEQUENT_ACTION_END (R150). -/
  | consequentActionEnd (c : CtxId) (backward : Bool)
  /-- MAP_CFG (R164). -/
  | mapCfg (r : PortRef) (ws : List MapWrite)
  /-- MAP_PORT_START (R166). -/
  | mapPortStart (r : PortRef)
  /-- MAP_TX_RUN (R174). -/
  | mapTxRun (r : PortRef) (ws : List RunWrite)
  /-- MAP_RX_RUN (R175). -/
  | mapRxRun (r : PortRef) (step : RunStep)
  /-- MAP_CNT_CLR (R161). -/
  | mapCntClr (r : PortRef)
  /-- CLIENT_REPLACEMENT_START (R180). -/
  | clientReplacementStart (r : PortRef) (rx : Bool)
  /-- CLIENT_REPLACEMENT_END (R180). -/
  | clientReplacementEnd (r : PortRef) (rx : Bool)
  /-- GFP_CSF_SEND (R180). -/
  | gfpCsfSend (r : PortRef)
  /-- CSF_RX_TIMEOUT (R181). -/
  | csfRxTimeout (r : PortRef)
  /-- SHIM_CAL_REQ (R185). -/
  | shimCalReq (r : PortRef) (w : CtlWrite)
  /-- FLEXE_CAL_SWITCH (R186). -/
  | flexeCalSwitch (r : PortRef)
  /-- FLEXE_CAL_TIMEOUT (R186). -/
  | flexeCalTimeout (r : PortRef)
  /-- CHAN_FRAME_RX (R188). -/
  | chanFrameRx (r : PortRef) (step : ChanStep)
  /-- CHAN_FRAME_TX (R190). -/
  | chanFrameTx (r : PortRef)
  /-- PAUSE_MSG_SEND (R192). -/
  | pauseMsgSend (q : CqId)
  /-- GFP_FRAME_RX (R193). -/
  | gfpFrameRx (r : PortRef) (h : GfpHeader) (f : GfpRx)
  /-- GFP_FRAME_START (R198). -/
  | gfpFrameStart (r : PortRef) (lines : Nat)
  /-- GFP_UNDERRUN (R198). -/
  | gfpUnderrun (r : PortRef)
  /-- CQ_CTRL (R196). -/
  | cqCtrl (q : CqId) (ws : List QueueWrite)
  /-- CLIENT_QUEUE_FLUSH (R199). -/
  | clientQueueFlush (o : Origin) (q : CqId)
  /-- QUEUE_APPEND (R343). -/
  | queueAppend (q : HqId) (item : List Word)
  /-- QUEUE_WM_WRITE (R347). -/
  | queueWmWrite (q : QueueRef) (w : CtlWrite)
  /-- HQ_CFG (R351). -/
  | hqCfg (q : HqId) (ws : List QueueWrite)
  /-- HOST_QUEUE_FLUSH (R349). -/
  | hostQueueFlush (o : Origin) (q : HqId)
  /-- DECK_OUTPUT_CHANGE (R218). -/
  | deckOutputChange (d : DieId) (c : CarrierRef) (us : Nat)
  /-- DECK_SWAP_TIMEOUT (R219). -/
  | deckSwapTimeout (d : DieId)
  /-- DECK_COPY_DONE (R220). -/
  | deckCopyDone (d : DieId)
  /-- DECK_PRBS_GEN (R234). -/
  | deckPrbsGen (d : DieId) (w : CtlWrite)
  /-- DECK_PRBS_CHK (R233). -/
  | deckPrbsChk (d : DieId) (w : CtlWrite)
  /-- FINE_BLK (R226). -/
  | fineBlk (r : RegionId) (b : Fin 64) (w : CtlWrite)
  /-- RSZ_GO (R231). -/
  | rszGo (d : DieId) (c : Fin 32) (w : CtlWrite)
  /-- RSZ_ABORT_CMD (R231). -/
  | rszAbortCmd (d : DieId) (c : Fin 32) (w : CtlWrite)
  /-- RSZ_HANDSHAKE_ACK (R230). -/
  | rszHandshakeAck (d : DieId) (c : Fin 32)
  /-- RSZ_HANDSHAKE_TIMEOUT (R231). -/
  | rszHandshakeTimeout (d : DieId) (c : Fin 32)
  /-- RSZ_RAMP_END (R231). -/
  | rszRampEnd (d : DieId) (c : Fin 32)
  /-- RSZ_CFG_DISABLE (R232). -/
  | rszCfgDisable (d : DieId) (c : Fin 32) (w : CtlWrite)
  /-- GRP_CFG (R242). -/
  | grpCfg (d : DieId) (g : GroupId) (w : CtlWrite)
  /-- HL_CFG (R260). -/
  | hlCfg (p : PairId) (ws : List HlWrite)
  /-- HL_RECENTRE (R266). -/
  | hlRecentre (p : PairId) (step : RecentreStep)
  /-- HL_CNT_CLR (R271). -/
  | hlCntClr (p : PairId)
  /-- PRF_CTRL (R244). -/
  | prfCtrl (d : DieId) (w : CtlWrite)
  /-- RING_START (R240). -/
  | ringStart (r : RingId)
  /-- RING_LINE_READ (R246). -/
  | ringLineRead (r : RingId) (ecc crc partnerOk : Bool)
  /-- RING_BREAK (R261). -/
  | ringBreak (r : RingId)
  /-- HL_ALIGN_ATTEMPT (R262). -/
  | hlAlignAttempt (p : PairId)
  /-- HL_ALIGN_CONFIRM (R263). -/
  | hlAlignConfirm (p : PairId)
  /-- HL_SEARCH_RANGE (R263). -/
  | hlSearchRange (p : PairId)
  /-- HL_MISALIGN (R264). -/
  | hlMisalign (p : PairId)
  /-- HL_SLACK_EVAL (R265). -/
  | hlSlackEval (p : PairId) (lateW earlyW lateP earlyP : Int)
  /-- MLOM_DECLARE (R251). -/
  | mlomDeclare (c : CtxId)
  /-- MLOM_CLEAR (R251). -/
  | mlomClear (c : CtxId)
  /-- GROUP_READER_PLACE (R252). -/
  | groupReaderPlace (d : DieId) (g : GroupId)
  /-- GROUP_RETIME (R253). -/
  | groupRetime (d : DieId) (g : GroupId)
  /-- LOA_CHANGE (R254). -/
  | loaChange (d : DieId) (g : GroupId)
  /-- LCAS_PACKET_RX (R257). -/
  | lcasPacketRx (c : CtxId) (crcOk : Bool) (ctrl : Fin 16) (sq : Fin 256) (rsAck : Bool) (mst : Option (Fin 8 × BitVec 32))
  /-- LCAS_PAYLOAD_CHANGE (R258). -/
  | lcasPayloadChange (d : DieId) (g : GroupId)
  /-- LCAS_TX_CHANGE (R259). -/
  | lcasTxChange (c : CtxId)
  /-- PRT_CFG (R276). -/
  | prtCfg (p : PairId) (ws : List PrtWrite)
  /-- PRT_CNT_CLR (R275). -/
  | prtCntClr (p : PairId)
  /-- HOLDOFF_START (R282). -/
  | holdoffStart (p : PairId) (protect : Bool)
  /-- HOLDOFF_EXPIRE (R282). -/
  | holdoffExpire (p : PairId) (protect : Bool)
  /-- PROT_FASTPATH_EVAL (R283). -/
  | protFastpathEval (p : PairId)
  /-- WTR_EXPIRE (R291). -/
  | wtrExpire (p : PairId)
  /-- HL_WAIT_EXPIRE (R292). -/
  | hlWaitExpire (p : PairId)
  /-- FOP_NR_DECLARE (R288). -/
  | fopNrDeclare (p : PairId)
  /-- PROT_HOLD_END (R297). -/
  | protHoldEnd (p : PairId) (limit : Bool)
  /-- GRANT_IN_CHANGE (R385). -/
  | grantInChange (level : Bool)
  /-- GRANT_PULSE_REJECT (R385). -/
  | grantPulseReject
  /-- ILK_IN_CHANGE (R387). -/
  | ilkInChange (asserted : Bool)
  /-- ILK_RESAMPLE (R387). -/
  | ilkResample
  /-- ILK_BLOCKED_RETRY (R387). -/
  | ilkBlockedRetry
  /-- ROLE_CONFLICT_DECLARE (R392). -/
  | roleConflictDeclare (mismatch : Bool)
  /-- ROLE_CONFLICT_CLEAR (R392). -/
  | roleConflictClear
  /-- STARTER_APPLY (R423). -/
  | starterApply
  /-- TAKEOVER_ACTIVE (R423). -/
  | takeoverActive (timeout : Bool)
  /-- RELEASE_TO_STANDBY (R427). -/
  | releaseToStandby
  /-- POLFEN_LOCK (R412). -/
  | polfenLock
  /-- POLFEN_LOCK_LOSS (R412). -/
  | polfenLockLoss
  /-- POLFEN_HELLO (R412). -/
  | polfenHello (seat : Fin 2) (paired : Bool) (epoch : Nat)
  /-- POLFEN_FRAME_RX (R410). -/
  | polfenFrameRx (f : PFrame) (crcOk tagOk : Bool)
  /-- POLFEN_RETX_TIMEOUT (R410). -/
  | polfenRetxTimeout
  /-- POLFEN_HOLD_EXPIRE (R413). -/
  | polfenHoldExpire
  /-- POLFEN_REKEY (R414). -/
  | polfenRekey (epoch : Nat)
  /-- POLFEN_FRAME_TX (R409). -/
  | polfenFrameTx
  /-- STATUS_MSG_RX (R397). -/
  | statusMsgRx
  /-- TIER1_MSG_RX (R403). -/
  | tier1MsgRx
  /-- TIER2_MSG_RX (R404). -/
  | tier2MsgRx
  /-- RESYNC_REQ_RX (R416). -/
  | resyncReqRx
  /-- SWEEP_START (R417). -/
  | sweepStart
  /-- SWEEP_MSG_RX (R417). -/
  | sweepMsgRx
  /-- SWEEP_COMPLETE (R417). -/
  | sweepComplete
  /-- MATE_MSG_RX (R574). -/
  | mateMsgRx
  /-- MATE_LINK_EN (R430). -/
  | mateLinkEn (w : CtlWrite)
  /-- MATE_RESTART (R413). -/
  | mateRestart (w : CtlWrite)
  /-- MATE_RESYNC (R416). -/
  | mateResync (w : CtlWrite)
  /-- MATE_YIELD (R396). -/
  | mateYield (w : CtlWrite)
  /-- MATE_CONFIRM (R425). -/
  | mateConfirm (w : CtlWrite)
  /-- MATE_CNT_CLR (R430). -/
  | mateCntClr
  /-- MATE_QUEUE_FLUSH (R431). -/
  | mateQueueFlush (o : Origin)
  /-- SELFTEST_BURST_START (R419). -/
  | selftestBurstStart
  /-- SELFTEST_BURST_END (R421). -/
  | selftestBurstEnd (pass : Bool)
  /-- SYNC_EDGE (R495). -/
  | syncEdge (input : RefName) (gap : Nat) (phase : Int) (freq : BitVec 20)
  /-- SYNC_LOSS (R496). -/
  | syncLoss (input : RefName) (gap : Nat)
  /-- SYNC_REQUALIFY (R498). -/
  | syncRequalify (input : RefName)
  /-- DPLL_SLEW_DONE (R501). -/
  | dpllSlewDone
  /-- CLK_SYNC_CTRL (R499). -/
  | clkSyncCtrl (w : CtlWrite)
  /-- REC_CLK_CFG (R505). -/
  | recClkCfg (n : Fin 2) (w : CtlWrite)
  /-- REC_CLK_SQUELCH (R506). -/
  | recClkSquelch (n : Fin 2)
  /-- REC_CLK_RESUME (R506). -/
  | recClkResume (n : Fin 2)
  /-- AUD_CFG (R54). -/
  | audCfg (p : Fin 4) (w : CtlWrite)
  /-- OW_CFG (R508). -/
  | owCfg (c : Fin 8) (w : CtlWrite)
  /-- AUD_CHANGE_LAND (R512). -/
  | audChangeLand (c : Fin 8) (tx : Bool)
  /-- AUD_CHANGE_TIMEOUT (R512). -/
  | audChangeTimeout (c : Fin 8) (tx : Bool)
  /-- AUD_SLIP (R513). -/
  | audSlip (c : Fin 8) (tx : Bool)
  /-- AUD_FORCED_SLIP (R514). -/
  | audForcedSlip (c : Fin 8) (tx : Bool)
  /-- AUD_PORT_FREEZE (R515). -/
  | audPortFreeze (p : Fin 4)
  /-- AUD_PORT_RESUME (R516). -/
  | audPortResume (p : Fin 4) (hz : Fin 16384)
  /-- AUD_MUTE_LIFT (R516). -/
  | audMuteLift (p : Fin 4)
  /-- AUD_SAMPLE (R509). -/
  | audSample (c : Fin 8) (m : AudioMove)
  /-- AUD_CNT_CLEAR (R517). -/
  | audCntClear (c : Fin 8)
  /-- PWR_DOM_REQ (R525). -/
  | pwrDomReq (d : Fin 56) (w : CtlWrite)
  /-- DOMAIN_TRANSITION_DONE (R521). -/
  | domainTransitionDone (d : Fin 56)
  /-- MODE_REQ_PROVISION (R529). -/
  | modeReqProvision (w : CtlWrite)
  /-- MODE_REQ_STANDBY (R529). -/
  | modeReqStandby (w : CtlWrite)
  /-- MODE_REQ_TEST (R529). -/
  | modeReqTest (w : CtlWrite)
  /-- PKG_RESET_REQ (R528). -/
  | pkgResetReq (w : CtlWrite)
  /-- DORMANT_ENTRY (R535). -/
  | dormantEntry (w : CtlWrite)
  /-- DORMANT_WAKE (R535). -/
  | dormantWake (grant : Bool)
  /-- VLOOP_CTRL (R543). -/
  | vloopCtrl (r : RegionId) (w : CtlWrite)
  /-- VLOOP_STEP (R542). -/
  | vloopStep (r : RegionId) (pass : Fin 1004) (aging : Fin 256)
  /-- PLACE_CTRL (R544). -/
  | placeCtrl (w : CtlWrite)
  /-- CPM_FAIL_QUARANTINE (R540). -/
  | cpmFailQuarantine (r : RegionId)
  /-- REGULATOR_FAULT (R538). -/
  | regulatorFault (d : Fin 56)
  /-- TEMP_ALARM (R539). -/
  | tempAlarm
  /-- TAMPER_TRIP (R458). -/
  | tamperTrip (m : Tamper)
  /-- CEN_CLR (R382). -/
  | cenClr (v : Word)
  /-- PC_COUNTER_WRITE (R371). -/
  | pcCounterWrite (e : EngId) (k : Fin 8) (v : Word) (inc : Fin 3)
  /-- VIN_UVLO (R549). -/
  | vinUvlo (c : VinStop)
  /-- VIN_POWER_ON (R532). -/
  | vinPowerOn
  /-- RESET_L_ASSERT (R557). -/
  | resetLAssert
  /-- RESET_RELEASE (R532). -/
  | resetRelease (st : Straps)
  /-- PUF_KEYS_DERIVED (R532). -/
  | pufKeysDerived
  /-- BOOT_FW_SELECT (R438). -/
  | bootFwSelect
  /-- FW_START (R440). -/
  | fwStart
  /-- BOOT_STARTER_LOAD (R533). -/
  | bootStarterLoad (opens sigOk : Bool)
  /-- PERST_L_ASSERT (R557). -/
  | perstLAssert
  /-- GUEST_ADDR (R490). -/
  | guestAddr (io : GuestIo)
  /-- GUEST_ATT_NONCE (R491). -/
  | guestAttNonce (io : GuestIo)
  /-- GUEST_ATT_STAT (R491). -/
  | guestAttStat (io : GuestIo)
  /-- GUEST_ATT_OFF (R489). -/
  | guestAttOff (io : GuestIo)
  /-- GUEST_SCL_TIMEOUT (R489). -/
  | guestSclTimeout
  /-- EXTEST (R492). -/
  | extest (lands tdi : List Bool)
  /-- SAMPLE_PRELOAD (R492). -/
  | samplePreload (lands tdi : List Bool)
  /-- EXTEST_PULSE (R492). -/
  | extestPulse (lands tdi : List Bool)
  /-- EXTEST_TRAIN (R492). -/
  | extestTrain (lands tdi : List Bool)
  /-- DBG_NONCE (R456). -/
  | dbgNonce
  /-- DBG_TOKEN (R457). -/
  | dbgToken (lines : List (BitVec 288)) (sigOk : Bool)
  /-- DBG_CFG (R492). -/
  | dbgCfg (write : Bool) (addr : BitVec 24) (data : Word)
  /-- DBG_TRACE (R492). -/
  | dbgTrace
  /-- TRACE_SEL (R493). -/
  | traceSel (v : Word)
  /-- BYPASS (R492). -/
  | bypass (tdi : List Bool)
  /-- PCS_ALIGN_STATUS (R114). -/
  | pcsAlignStatus (r : StreamRef) (phy : Fin 8) (up : Bool) (locked : Nat)
  /-- OVLO_RESTART (R549). -/
  | ovloRestart
  /-- PERST_L_RELEASE (R557). -/
  | perstLRelease
  /-- LOAF_LOAD_COMPLETE (R332). -/
  | loafLoadComplete
  /-- ATTEST_COMPLETE (R491). -/
  | attestComplete
  /-- PCIE_LINK_RETRAIN (R380). -/
  | pcieLinkRetrain
  /-- PCIE_ERROR (R380). -/
  | pcieError (k : PcieErr)
  deriving DecidableEq, Repr

end Sys2Proof
end

