-- ==== Sys2Proof/Machine/ControlSpace.lean ====
section
/-! DEFINITION. The control space (spec 01 R46, R47): for each word its reset value, the bits a write stores, the bits
a guest reads, and whether it is ROOT-only, as the field maps of the chapters give them. -/

namespace Sys2Proof.Machine

/-- Class PC (Tables 11-1, 9-16, 14-15): bits stored by a write, for the index within one engine's bank. -/
def pcStore (idx : Nat) : Option Nat :=
  if idx ≤ 7 then some 0xFFFFFFFFF
  else if idx ≤ 9 then some 0
  else if idx = 0x17 then some 0x7FFFFFFFF
  else if 0x10 ≤ idx && idx ≤ 0x16 then some 0xFFFFFFFFF
  else if idx = 0x18 then some 0xFFFF00000
  else if idx = 0x19 then some 0
  else if 0x20 ≤ idx && idx ≤ 0x29 then some 0
  else if 0x7F0 ≤ idx && idx ≤ 0x7F3 then some 0
  else none

/-- Class QUEUE, client queues, host queues, mate queue and slip buffers. -/
def queueStore (num idx : Nat) : Option Nat :=
  let w := idx % 4
  if num ≤ 1 then
    (match w with
    | 0 => some 0xFFFFFFFFF
    | 1 => some 0xFFFFFFFFF
    | 2 => some 0xFDFFF8000
    | _ => some 0)
  else if num = 2 then
    if idx / 4 ≤ 7 then
      if w = 0 then some 0xFFFFFFF80 else if w = 1 then some 0xFFFFFFFFF else some 0
    else none
  else if num = 3 then (if idx = 1 then some 0xFFFFFFFFF else if idx ≤ 3 then some 0 else none)
  else if num = 4 then (if idx ≤ 31 then some 0 else none)
  else none

/-- Class HOST (Table 14-10). -/
def hostStore (idx : Nat) : Option Nat :=
  if idx < 0x20 then
    match idx % 4 with
    | 0 => some 0x0FFFFFFC0
    | 1 => some 0x0FFFFFFFF
    | 2 => some 0xFFFFFFFFF
    | _ => some 0
  else if idx = 0x20 then some 0x0FFFFFFFF
  else if idx = 0x21 then some 0
  else if idx = 0x40 then some 0
  else none

/-- Class CEN (Table 11-6). -/
def cenStore (idx : Nat) : Option Nat :=
  if idx ≤ 0x83 then some 0
  else if idx = 0x84 then some 0xC00000000
  else if idx = 0x85 then some 0
  else if idx = 0x86 then some 0x800000000
  else if idx = 0x87 || idx = 0x88 then some 0
  else none

/-- Class LANE (Tables 2-5 to 2-14, 2-18); INDEX [11] is the side. -/
def laneStore (idx : Nat) : Option Nat :=
  let w := idx % 0x800
  let set := fun o => if o = 0 then 0x00003FFFF else if o = 6 then 0x007FFFFFF else 0xFFFFFFFFF
  if w = 0 then some (if idx < 0x800 then 0xFFF000000 else 0xFFF800000)
  else if w = 1 || w = 2 then some 0
  else if w = 0x10 then some 0xFFFF00000
  else if w = 0x11 then some 0
  else if 0x20 ≤ w && w ≤ 0x26 then some (set (w - 0x20))
  else if 0x28 ≤ w && w ≤ 0x2E then some (set (w - 0x28))
  else if 0x30 ≤ w && w ≤ 0x36 then some (set (w - 0x30))
  else if 0x38 ≤ w && w ≤ 0x3E then some 0
  else if w = 0x40 then some 0xFFFFFFFFF
  else if w = 0x41 then some 0x00003FFFF
  else if w = 0x50 then some 0xFFE000000
  else if 0x51 ≤ w && w ≤ 0x54 then some 0
  else if w = 0x58 then some 0xC00000000
  else none

def laneReset (idx : Nat) : Word :=
  let w := idx % 0x800
  if w = 0 then (if idx < 0x800 then 0x008000000 else 0x008800000)
  else if w = 0x10 then 0x007800000
  else 0

/-- Class FEC (Table 2-4, R70, R71). -/
def fecStore (idx : Nat) : Option Nat :=
  let w := idx % 0x800
  if w = 0 then some 0xF00000000
  else if (0x10 ≤ w && w ≤ 0x13) || (0x18 ≤ w && w ≤ 0x1B) || w = 0x1F then some 0
  else none

def fecReset (idx : Nat) : Word := if idx % 0x800 = 0 then 0x100000000 else 0

/-- Class FRAMER (Tables 3-1 to 3-15). -/
def framerStore (idx : Nat) : Option Nat :=
  if idx < 0xA00 then
    match idx % 16 with
    | 0 => some 0xFFFFFF800
    | 1 => some 0x0FFFFFFFF
    | 2 => some 0x0FFFFFFFF
    | 3 => some 0xFFFFFFF00 -- the widest of Tables 3-8 and 3-9 is masked by protocol where it is written
    | 4 => some 0xFFFFF0000
    | 5 => some 0xFFFFFFFFF
    | 14 => none
    | 15 => none
    | _ => some 0
  else none

/-- Class OH (Tables 4-11 to 4-15, 4-19). -/
def ohStore (idx : Nat) : Option Nat :=
  if idx < 0x800 then
    match idx % 4 with
    | 0 => some 0xFFFFFFFFE
    | 1 => some 0xFFFFFFFFF
    | _ => some 0
  else if idx ≤ 0x802 then some 0
  else none

/-- Class MAP (Tables 5-1 to 5-9). -/
def mapStore (idx : Nat) : Option Nat :=
  if idx < 0xC00 then
    match idx % 16 with
    | 0 => some 0xFFFFFFFFC
    | 1 => some 0xFFFFFF800
    | 2 => some 0xFFFE001C0
    | 3 => some 0x7FFFFFFFF -- MAP_RATE or SHIM_CTRL, masked by adaptation where it is written
    | 12 => some 0
    | 13 => some 0
    | 14 => some 0
    | 15 => some 0
    | _ => some 0xFFFFFFFFF
  else if (0xC00 ≤ idx && idx ≤ 0xC9F) || (0xD00 ≤ idx && idx ≤ 0xD9F) then some 0xFFFFFFFFF
  else none

/-- Class DECK (Tables 6-9, 6-11 to 6-14). -/
def deckStore (idx : Nat) : Option Nat :=
  if idx = 0 then some 0xF80000000
  else if idx ≤ 3 then some 0
  else if idx = 0x10 then some 0xFFFF80000
  else if idx = 0x11 then some 0xBFFF80000
  else if idx = 0x12 then some 0
  else if 0x100 ≤ idx && idx ≤ 0x17F then
    match idx % 4 with
    | 0 => some 0xFFFFC0000
    | 1 => some 0xFFFFFFC00
    | _ => some 0
  else none

def deckReset (idx : Nat) : Word := if idx = 0 then 0x400000000 else 0

/-- Class FINE (Table 6-8). -/
def fineStore (idx : Nat) : Option Nat := if idx < 0x40 then some 0xFFFFFFFF8 else none

/-- Class PROOF (Tables 7-7 to 7-10). -/
def proofStore (idx : Nat) : Option Nat :=
  if idx < 0x7FF then some 0xFFFFFFC00 else if idx = 0x7FF then some 0xFFFFC0000 else some 0

/-- Class PROT (Table 8-10). -/
def protStore (idx : Nat) : Option Nat := if idx ≤ 1 then some 0 else none

/-- Class PAIR: words 0 to 7 (Tables 8-1 to 8-6) and 96 to 103 (Table 7-12). -/
def pairStore (w : Nat) : Option Nat :=
  if w = 0 then some 0xFFFFFFC00
  else if w = 1 then some 0xFFFFFFF00
  else if w = 2 then some 0xFFFFFFFFF
  else if w ≤ 7 then some 0
  else if w < 96 then none
  else if w = 96 then some 0xFFFFA0000 -- RECENTRE is write-only
  else if w = 97 then some 0x0FFFFFFFF
  else if w ≤ 103 then some 0
  else none

/-- Class CLK (Tables 2-15, 2-16, 15-2 to 15-6). -/
def clkStore (num idx : Nat) : Option Nat :=
  if num = 0 then
    if idx = 0 then some 0xFFFFF0000
    else if idx ≤ 3 then some 0
    else if idx = 0x10 || idx = 0x11 then some 0xFFF800000
    else if idx = 0x12 then some 0
    else none
  else if num ≤ 4 then
    if idx = 0x200 then some 0xF80000000 else if idx = 0x201 then some 0 else none
  else none

/-- Class AUD (Table 15-10). -/
def audStore (idx : Nat) : Option Nat :=
  if idx = 0 then some 0xFFF800000
  else if idx ≤ 2 then some 0
  else if idx = 0x10 || idx = 0x11 then some 0xFFFFFFFF8
  else if idx = 0x18 || idx = 0x19 then some 0
  else none

/-- Class PWR (Tables 16-8, 16-9). -/
def pwrStore (num idx : Nat) : Option Nat :=
  if num ≤ 55 then (if idx = 0 then some 0xE00000000 else none)
  else if num = 63 then
    if idx = 0 then some 0x0F0000000 -- DEPTH and HQ; the others are write-only
    else if idx ≤ 2 then some 0
    else if 0x10 ≤ idx && idx ≤ 0x17 then some (if idx % 2 = 0 then 0xFFFFFF800 else 0)
    else if idx = 0x20 then some 0xFFFFFFFF0
    else if idx = 0x21 then some 0
    else none
  else none

def pwrReset (num idx : Nat) : Word :=
  if num = 63 then
    if idx = 0x20 then 0xFFFF00000
    else if 0x10 ≤ idx && idx ≤ 0x17 && idx % 2 = 0 then 0x963520000
    else 0
  else 0

/-- Class MATE (Table 12-12). -/
def mateStore (idx : Nat) : Option Nat :=
  if idx = 0 then some 0x97FFF8000 -- RESTART, RESYNC and CONFIRM are write-only
  else if idx ≤ 9 then some 0
  else none

/-- Class CHK (Table 10-9). -/
def chkStore (idx : Nat) : Option Nat := if idx ≤ 1 then some 0 else none

/-- Classes SEC and NVM (Table 13-12): read-only words, and the ROOT-only windows. -/
def secStore (idx : Nat) : Option Nat := if idx ≤ 2 || (0x100 ≤ idx && idx ≤ 0x1FF) then some 0 else none
def nvmStore (idx : Nat) : Option Nat := if idx = 1 || 0x800 ≤ idx then some 0 else none

/-- The bits a write stores in the control word at an address, none where class, instance or index is reserved
(Tables 1-5, 1-6). -/
def wordStore (a : Nat) : Option Nat :=
  let num := a / 4096 % 64
  let idx := a % 4096
  match a / 2 ^ 18 with
  | 0x00 => laneStore idx
  | 0x01 => fecStore idx
  | 0x02 => framerStore idx
  | 0x03 => ohStore idx
  | 0x04 => mapStore idx
  | 0x05 => if num ≤ 1 then deckStore idx else none
  | 0x06 => if num ≤ 3 then fineStore idx else none
  | 0x07 => if num ≤ 1 then proofStore idx else none
  | 0x08 => if num ≤ 15 then protStore idx else none
  | 0x09 => queueStore num idx
  | 0x0A => if num ≤ 15 then chkStore idx else none
  | 0x0B => if idx < 0x800 then pcStore idx else if num = 0 then pcStore (idx - 0x800) else none
  | 0x0C => clkStore num idx
  | 0x0D => if num ≤ 3 then audStore idx else none
  | 0x0E => pwrStore num idx
  | 0x0F => if num = 0 then mateStore idx else none
  | 0x10 => if num = 0 then hostStore idx else none
  | 0x11 => if num = 0 then secStore idx else none
  | 0x12 => if num = 0 then nvmStore idx else none
  | 0x13 => if num = 0 then cenStore idx else none
  | 0x14 => pairStore (idx % 128)
  | _ => none

/-- What a stored control word reads at reset. -/
def cwReset (a : Nat) : Word :=
  match a / 2 ^ 18 with
  | 0x00 => laneReset (a % 4096)
  | 0x01 => fecReset (a % 4096)
  | 0x05 => deckReset (a % 4096)
  | 0x0C => if a % 2 ^ 18 = 0 then 0x080000000 else 0
  | 0x0D => if a % 4096 = 0x10 || a % 4096 = 0x11 then 0x000020000 else 0
  | 0x0E => pwrReset (a / 4096 % 64) (a % 4096)
  | 0x0F => if a % 2 ^ 18 = 0 then 0x040000000 else 0
  | _ => 0

end Sys2Proof.Machine
end

