-- ==== Sys2Proof/Config.lean ====
section
/-! DEFINITION. What one part fixes, and the values that the spec leaves open (free values without a body). -/

namespace Sys2Proof.Config

/-- Ordering code: true for the C48 variant (R2). -/
opaque variantC48 : Bool

/-- A free value, fresh at each use: the step reads and advances the counter it is applied to. -/
opaque freeWord : Nat → Word

/-- The device defaults of the equaliser sets: rate code, set offset (R62); the spec leaves them to the device. -/
opaque eqDefault : Nat → Nat → Word

/-- The identity public key of this part, x then y (R434), as a number of host bytes read little-endian. -/
opaque identityKey : BitVec 768

/-- SHA-384 of host bytes (R434), its bytes read as a little-endian number. -/
opaque digest : List Nat → BitVec 384

/-- DEVICE_ID: the digest of the identity public key in uncompressed SEC1 form (R434). -/
def deviceId : BitVec 384 := digest (4 :: (List.range 96).map fun k => identityKey.toNat / 2 ^ (8 * k) % 256)

end Sys2Proof.Config
end

