-- ==== Sys2Proof/Machine/State.lean ====
section
/-! DEFINITION. The state of the SY1280: plain data, everything the spec gives the machine, and the commands that wait.
A table is a list of key and value pairs, keys rising, no entry equal to what an unlisted key reads as. -/

namespace Sys2Proof.Machine

/-- Why a command stops with a fault: none does. The spec gives every command of the table an effect on every state, be it
none. -/
inductive Fault where
  deriving DecidableEq, Repr

/-- Why a command has no meaning. -/
inductive Refusal where
  /-- Raised by nobody: the dispatch gives every command its meaning; safe. -/
  | notModelled (mnemonic : String)
  deriving DecidableEq, Repr

/-- A sparse table in canonical form. -/
abbrev Tab (α : Type) := List (Nat × α)

/-- Operating modes (R527). -/
inductive Mode where
  | sealed
  | boot
  | provision
  | active
  | standby
  | takeover
  | test
  | quarantine
  deriving DecidableEq, Repr

/-- What an engine is doing (R38). -/
inductive Running where
  | idle
  | pass
  | batch
  /-- a batch waits at an instruction with a duration (Table 9-9) -/
  | waits
  deriving DecidableEq, Repr

/-- A staged effect (R39). -/
inductive StagedOp where
  | cfgW (addr : Nat) (value : Word)
  | deckW (addr : Nat) (value : Word)
  | deckSwap (dies : Nat)
  | protReq (op : Nat) (pair : Nat)
  | ohPut (ctx field word : Nat) (value : Word)
  | defSet (ctx bit : Nat)
  | defClr (ctx bit : Nat)
  | filtSet (cell : Nat) (word : Nat) (value : Word)
  | power (dom ladder : Nat)
  deriving DecidableEq, Repr

/-- A staged effect with the bundle address of its instruction. -/
structure Staged where
  op : StagedOp
  bundle : Nat
  deriving DecidableEq, Repr

/-- One open loop of an engine (R317). -/
structure LoopFrame where
  body : Nat
  last : Nat
  left : Nat
  handles : List Nat
  gD : Nat
  context : Bool
  /-- call depth at which the loop began -/
  depth : Nat
  deriving DecidableEq, Repr

/-- A check computation in progress (R355): mode, working register, octets so far. -/
structure CheckSt where
  mode : Nat := 0
  reg : Nat := 0xFFFFFFFF
  count : Nat := 0
  deriving DecidableEq, Repr

/-- The item buffer of an engine (R313, R341). -/
structure OpenItem where
  queue : Nat
  words : List Word
  overflow : Bool
  truncated : Bool
  deriving DecidableEq, Repr

/-- The issue of one bundle so far: slot A done, operand wait, largest cost, wait for the check unit, wait of CALL
or RET, slots retired and wasted, false predicates, one of LOOP, CALL and RET executed, a branch taken. -/
structure Bundle where
  aDone : Bool := false
  stall : Nat := 0
  cost : Nat := 1
  chkWait : Nat := 0
  callWait : Nat := 0
  retired : Nat := 0
  wasted : Nat := 0
  falsePred : Nat := 0
  flow : Bool := false
  taken : Bool := false
  ctxRd : Nat := 0
  ctxWr : Nat := 0
  staged : Nat := 0
  items : Nat := 0
  lands : List (Nat × Nat) := []
  target : Option Nat := none
  halt : Bool := false
  deriving DecidableEq, Repr

/-- Slot ledger of one tick (R368, R383). -/
structure Ledger where
  retired : Nat := 0
  wasted : Nat := 0
  flow : Nat := 0
  stall : Nat := 0
  deriving DecidableEq, Repr

/-- One engine (R299 to R302). -/
structure Engine where
  running : Running := .idle
  regs : Tab Word := []
  preds : Tab Bool := []
  opRegs : Tab Word := []
  opPreds : Tab Bool := []
  bundle : Bundle := {}
  pc : Nat := 0
  loops : List LoopFrame := []
  calls : List Nat := []
  landing : Tab Nat := []
  item : Option OpenItem := none
  chk : CheckSt := {}
  staged : List Staged := []
  /-- the pass of this tick ended by HALT.TICK -/
  ended : Bool := false
  /-- a pass was started in this tick -/
  started : Bool := false
  /-- first event of ENG_ERR in this tick: cause and bundle (R335) -/
  errEvent : Option (Nat × Nat) := none
  /-- CYC, 72 bits (R362) -/
  cyc : Nat := 0
  /-- cycles of this tick already counted -/
  tickCyc : Nat := 0
  ledger : Ledger := {}
  /-- threshold counters whose occupancy stood above THR when last looked at, bit k for PCk -/
  above : Nat := 0
  deriving DecidableEq, Repr

/-- A checked or refused batch (R475). -/
structure Batch where
  ring : Nat
  resp : Nat
  reply : Nat
  seq : Nat
  outAt : Nat
  outLen : Nat
  bundles : List Nat
  deriving DecidableEq, Repr

/-- A batch that runs or has completed: the effects it staged, the reads refused so far (status, bundle), the effects
refused in its commit window, and g4 to g15 at HALT.TICK (R479, R480). -/
structure BatchRun where
  id : Nat
  batch : Batch
  staged : List Staged := []
  refusals : Nat := 0
  status : Nat := 0
  bundle : Nat := 0
  /-- a SEAL completed in this batch (R464) -/
  sealed : Bool := false
  /-- the session ends once the completion of this batch is sealed (R450) -/
  closes : Bool := false
  /-- every session ends then (R444) -/
  closesAll : Bool := false
  /-- status of a batch refused whole (R477), 0 where it ran -/
  whole : Nat := 0
  regs : List Word := []
  deriving DecidableEq, Repr

/-- A queue pointer: wrap bit and offset (R337). -/
structure Ptr where
  wrap : Bool := false
  at_ : Nat := 0
  deriving DecidableEq, Repr

/-- A host queue: its items, oldest first, each a list of words (R336 to R346). -/
structure HostQueue where
  items : List (List Word) := []
  rp : Ptr := {}
  wp : Ptr := {}
  cr : Nat := 0
  high : Bool := false
  /-- a grant was clipped in this tick (R344) -/
  clipped : Bool := false
  deriving DecidableEq, Repr

/-- A host ring (R482, R488). -/
structure HostRing where
  head : Nat := 0
  tail : Nat := 0
  /-- items written since the INT_PEND bit was last cleared -/
  items : Nat := 0
  timer : Bool := false
  deriving DecidableEq, Repr

/-- A command ring (R470, R471). -/
structure CmdRing where
  base : Nat := 0
  size : Nat := 0
  head : Nat := 0
  tail : Nat := 0
  /-- entries fetched and not yet treated, oldest first -/
  fetched : List CmdEntry := []
  /-- batches that passed the checks of R477 and wait for the hub engine -/
  waiting : List Batch := []
  deriving DecidableEq, Repr

/-- A hardware record due in the commit window of the tick (R89, R507): host queue, type, words after
the header. -/
structure Due where
  q : Nat
  ty : Nat
  ws : List Word
  deriving DecidableEq, Repr

/-- LANE_STAT.STATE (Table 2-7). -/
inductive LaneSt where
  | off
  | pllWait
  | cdrAcq
  | adapt
  | ready
  | training
  | hold
  deriving DecidableEq, Repr

/-- A lane as it runs (chapter 02). -/
structure Lane where
  st : LaneSt := .off
  sigDet : Bool := false
  cdrLock : Bool := false
  onFlex : Bool := false
  /-- TRAIN_ST: 0 idle, 1 running, 2 done, 3 failed -/
  train : Nat := 0
  snr : Nat := 0
  atBound : Nat := 0
  /-- equaliser and threshold values now held, by set offset (Table 2-11) -/
  eq : Tab Word := []
  /-- the taps the transmitter uses, by word of LANE_TX_FFE -/
  ffe : Tab Word := []
  prbsLock : Bool := false
  prbsLost : Bool := false
  prbsErr : Nat := 0
  prbsBits : Nat := 0
  /-- copies of both counts at the last capture (R374) -/
  prbsErrSnap : Nat := 0
  prbsBitsSnap : Nat := 0
  /-- tick after which EQ_FENCED and EQ_MARGIN may be recorded again (R75, R76) -/
  fencedUntil : Nat := 0
  marginUntil : Nat := 0
  /-- codewords, corrected, uncorrectable, corrected symbols of the tick under way (R71) -/
  fecCw : Nat := 0
  fecCorr : Nat := 0
  fecUncorr : Nat := 0
  fecSym : Nat := 0
  deriving DecidableEq, Repr

/-- A quad's VCO bank (R57 to R61): its family, and whether it calibrates. -/
structure Quad where
  family : Nat := 0
  calibrating : Bool := false
  deriving DecidableEq, Repr

/-- Who holds a flexible synthesiser of a region (Table 1-7). -/
inductive FlexHolder where
  | free
  | quad (side q : Nat)
  | recClk (n : Nat)
  deriving DecidableEq, Repr

/-- A recovered-clock output (R504 to R506). -/
structure RecClk where
  on : Bool := false
  lost : Bool := false
  squelched : Bool := false
  deriving DecidableEq, Repr

/-- The reference selection of a region (R85 to R88); `inUse` 0 A, 1 B, 2 the internal oscillator. -/
structure RefClk where
  aValid : Bool := false
  bValid : Bool := false
  inUse : Nat := 2
  deriving DecidableEq, Repr

/-- A candidate offset of a tracker (R98). -/
structure Cand where
  offset : Nat
  mf : Nat
  run : Nat
  mimic : Bool := false
  deriving DecidableEq, Repr

/-- The tracker of one framing layer (R97 to R102). -/
structure Tracker where
  inFrame : Bool := false
  /-- the frame offset while in frame -/
  slot0 : Nat := 0
  mf : Nat := 0
  errFa : Nat := 0
  /-- open candidates other than slot 0 -/
  cands : List Cand := []
  /-- two or more confirmed candidates stood at the last window end -/
  tie : Bool := false
  deriving DecidableEq, Repr

/-- A stream as it runs (chapter 03). -/
structure Framer where
  oof : Bool := true
  /-- LOS of the stream (Table 4-16) -/
  los : Bool := false
  lof : Bool := false
  oom : Bool := true
  lom : Bool := false
  lol : Bool := false
  lanesDown : Bool := false
  /-- last MF value read, none before the first since the multiframe process began -/
  mf : Option Nat := none
  errMf : Nat := 0
  goodMf : Nat := 0
  /-- members locked and identified, by member index -/
  laneLock : Nat := 0
  /-- logical lanes in LOF of their own (R108) -/
  laneLof : Nat := 0
  /-- members whose PCS has align_status (R114) -/
  aligned : Nat := 0
  skew : Nat := 0
  latest : Nat := 0
  earliest : Nat := 0
  events : Nat := 0
  mimics : Nat := 0
  oofCnt : Nat := 0
  ties : Nat := 0
  ovf : Nat := 0
  /-- latched with the stream at T0: NCAND and AMBIG of the tracker it reports -/
  ncand : Nat := 0
  ambig : Bool := false
  deriving DecidableEq, Repr

/-- A monitoring context as it runs (chapter 04). -/
structure Mon where
  /-- context words 8 to 11 and 30 as last sampled (R123, R125) -/
  w8 : Word := 0
  w9 : Word := 0
  w10 : Word := 0
  w11 : Word := 0
  w30 : Word := 0
  /-- the sampled words are in error: treated as TRANSPARENT (R124) -/
  bad : Bool := false
  /-- defects as they stand, seen in this tick, declared or cleared in this tick, at the bits of Table 4-17 -/
  defs : Nat := 0
  seen : Nat := 0
  chg : Nat := 0
  /-- errored, received and far-end errored blocks of this tick (R138) -/
  ebNe : Nat := 0
  tb : Nat := 0
  ebFe : Nat := 0
  /-- far-end value for the next outgoing frame (R136) -/
  bei : Nat := 0
  /-- consecutive frames that show a defect's declaring and clearing condition, by bit of Table 4-17 -/
  setRun : Tab Nat := []
  clrRun : Tab Nat := []
  /-- OMFI out of multiframe (Table 4-16) -/
  omfiOom : Bool := false
  /-- group member: MLOM with its frame runs, received SQ and MFI, delay in ns, fitting, in the payload set, packets
  discarded in the tick (R251 to R258) -/
  mlom : Bool := false
  mfGood : Nat := 0
  mfBad : Nat := 0
  mfi : Option Nat := none
  sq : Nat := 0
  delay : Nat := 0
  fit : Bool := false
  payload : Bool := false
  crcErr : Nat := 0
  /-- CTRL and SQ in force on transmit (R259) -/
  txCtrl : Word := 0
  /-- insertions in force: bit 0 downstream, bit 1 backward (R150) -/
  actions : Nat := 0
  deriving DecidableEq, Repr

/-- A filter cell as it runs (R142 to R146). -/
structure Cell where
  run : Nat := 0
  acc : Word := 0
  valid : Bool := false
  changes : Nat := 0
  unstable : Bool := false
  /-- consecutive occurrences that ended below N -/
  below : Nat := 0
  /-- the words of the previous occurrence -/
  prev : Option (List Word) := none
  /-- acceptances since the opening of the last commit window -/
  got : Nat := 0
  deriving DecidableEq, Repr

/-- A frame arriving at a CHAN_IF port (R188, R189): its client queue while it is kept, LEN, and the carried octets that
came so far. -/
structure ChanRx where
  queue : Option Nat
  len : Nat
  got : Nat
  deriving DecidableEq, Repr

/-- A frame that a GFP port has demapped and its CHAN_IF has not yet sent (R190): its octets, and whether its FCS or pFCS
was wrong. -/
structure Egress where
  bytes : List (Fin 256)
  bad : Bool
  deriving DecidableEq, Repr

/-- An item of a client queue, one frame (R197, R198): LEN, the octets written, and how far the GFP source has read. -/
structure ClientItem where
  len : Nat
  bytes : List (Fin 256) := []
  /-- lines written and lines read -/
  wrote : Nat := 0
  read : Nat := 0
  complete : Bool := false
  started : Bool := false
  /-- to be ended with an inverted FCS -/
  bad : Bool := false
  deriving DecidableEq, Repr

/-- A client queue: frames, oldest first; the newest may still be arriving (R195 to R200, R337, R338). -/
structure ClientQueue where
  items : List ClientItem := []
  rp : Ptr := {}
  wp : Ptr := {}
  /-- IS, the start of the item being written (R338) -/
  isAt : Ptr := {}
  high : Bool := false
  /-- an XOFF (true) or XON message waits for the next frame boundary of the CHAN_IF (R192) -/
  pause : Option Bool := none
  deriving DecidableEq, Repr

/-- GFP delineation (R193). -/
inductive Delin where
  | hunt
  | presync
  | sync
  deriving DecidableEq, Repr

/-- The deck of a die as it swaps (chapter 06). -/
structure DieDeck where
  /-- active page, as named from the window that arms a swap (R211): false A, true B -/
  act : Bool := false
  pending : Bool := false
  /-- the T0 after arming has passed -/
  eligible : Bool := false
  /-- carriers whose outputs read the new page -/
  changed : List Nat := []
  armedTick : Word := 0
  last : Nat := 0
  cause : Nat := 0
  lastTime : Nat := 0
  /-- first failing deck address and its cause (DECK_CHK_STAT) -/
  chk : Word := 0
  /-- a resize controller armed the pending swap -/
  byResize : Bool := false
  prbsLock : Bool := false
  prbsErr : Nat := 0
  /-- copy at the last capture (R374) -/
  prbsErrSnap : Nat := 0
  deriving DecidableEq, Repr

/-- A resize controller as it runs (Table 6-9). -/
structure Rsz where
  step : Nat := 0
  rateNow : Nat := 0
  rateOld : Nat := 0
  /-- the handshake is acknowledged and the LCR swap waits to be armed -/
  wantSwap : Bool := false
  /-- holds a timer of its port's cluster -/
  timer : Bool := false
  /-- resuming after a takeover without a timer (R426) -/
  noTimer : Bool := false
  /-- hop: the tributary slots of the port once the LCR swap has landed (R230) -/
  eff : Option (List Nat) := none
  deriving DecidableEq, Repr

/-- A mapper port as it runs (chapter 05). -/
structure Port where
  /-- started at its frame boundary (R166) -/
  on : Bool := false
  /-- transmit and receive run words in force, 0 to 3 -/
  txRuns : Tab Word := []
  rxRuns : Tab Word := []
  txPend : Bool := false
  rxPend : Bool := false
  replTx : Bool := false
  replRx : Bool := false
  delin : Delin := .hunt
  csfRx : Bool := false
  calBusy : Bool := false
  /-- calendar in use: false A, true B -/
  calUse : Bool := false
  /-- a justification value was rejected in this tick -/
  cmRange : Bool := false
  cnt0 : Word := 0
  cnt1 : Word := 0
  /-- CHAN_IF: the frame arriving, and the GFP port served last -/
  rx : Option ChanRx := none
  served : Nat := 0
  /-- GFP: frames in the egress buffer, oldest first -/
  egress : List Egress := []
  deriving DecidableEq, Repr

/-- A frame record of a ring (R239): first line, multiframe value, fingerprint, a per-frame defect, a BIP violation. -/
structure FrameRec where
  seq : Nat
  mf : Nat
  fp : Nat
  defect : Bool
  bip : Bool
  deriving DecidableEq, Repr

/-- A ring of the proof store (R235 to R243, R261). -/
structure Ring where
  pages : Nat := 0
  /-- ring rate in kbit/s -/
  rate : Nat := 0
  /-- freed in this window: still counted against the budget (R243) -/
  freed : Bool := false
  writable : Bool := false
  /-- write sequence, 48 bits -/
  wp : Nat := 0
  /-- frame records held, newest first -/
  frames : List FrameRec := []
  /-- frames written since allocation, and since the last break of continuity -/
  count : Nat := 0
  cont : Nat := 0
  /-- continuity was broken and the ring has not yet left the mapping -/
  broke : Bool := false
  deriving DecidableEq, Repr

/-- A hitless pair as it runs (R260 to R272). -/
structure Hl where
  die : Nat := 0
  wRing : Nat := 0
  pRing : Nat := 0
  /-- protect frame number less working frame number of one frame of content, while an offset stands, with the frame
  numbers at which it was found -/
  map : Option Int := none
  foundW : Nat := 0
  foundP : Nat := 0
  /-- the offset is confirmed: both rings are mapped (R263) -/
  mapped : Bool := false
  noneRun : Nat := 0
  /-- result of the last attempt: 0 none yet, 1 an offset or NONE, 4 AMBIG, 5 RANGE -/
  last : Nat := 0
  /-- OFFSET and P_LATER of the last offset found -/
  offset : Nat := 0
  pLater : Bool := false
  /-- STATE (Table 7-5) -/
  state : Nat := 0
  /-- slacks at the last output boundary in ns: late and early, working and protect (R265) -/
  lateW : Int := 0
  earlyW : Int := 0
  lateP : Int := 0
  earlyP : Int := 0
  /-- consecutive mapped frames that differ without a BIP violation (R264) -/
  diffRun : Nat := 0
  /-- a frame has been output through the rings; no alignment yet since allocation or TAKEOVER (R266) -/
  output : Bool := false
  fresh : Bool := true
  recentre : Bool := false
  hitlessSw : Nat := 0
  bounded : Nat := 0
  blind : Nat := 0
  recent : Nat := 0
  aligns : Nat := 0
  deriving DecidableEq, Repr

/-- A protection pair as it runs (chapter 08). -/
structure Pair where
  /-- governing request, its position, whether it came from the far end (Table 8-7) -/
  gov : Nat := 0
  govSig : Bool := false
  govFar : Bool := false
  /-- accepted far-end request, its position, and whether the far end bridges the normal traffic -/
  far : Nat := 0
  farSig : Bool := false
  bridged : Bool := false
  /-- hold-off timers running, working and protect, and hold-offs that are over while a defect stands (R282) -/
  hoW : Bool := false
  hoP : Bool := false
  doneW : Bool := false
  doneP : Bool := false
  /-- a WTR timer is held, its time left in µs at the last T0, and whether it expired while GOV is WTR -/
  wtr : Bool := false
  wtrUs : Nat := 0
  wtrExp : Bool := false
  fopPm : Bool := false
  fopNr : Bool := false
  /-- a SEL change waits for HITLESS_OK (R292) -/
  waits : Bool := false
  /-- held after a takeover (R297) -/
  held : Bool := false
  /-- checks of R278 that fail, bit i for the check at place i -/
  causes : Nat := 0
  /-- SEL changes in this tick and the kind of the last (Table 8-11) -/
  changes : Nat := 0
  kind : Nat := 0
  switches : Nat := 0
  rejects : Nat := 0
  farSw : Nat := 0
  noTimer : Nat := 0
  deriving DecidableEq, Repr

/-- A concatenated group as it runs (R249 to R259). -/
structure Group where
  loa : Bool := false
  /-- the reader has placed itself (R252) -/
  placed : Bool := false
  /-- delay in ns behind the earliest present member at which the reader reads a multiframe value -/
  readAt : Nat := 0
  /-- rings of the group's parts, part 0 first -/
  rings : List Nat := []
  deriving DecidableEq, Repr

/-- An orderwire channel as it runs (R508 to R516): the set-up in force in each direction and whether a change waits; the
slip buffers, samples oldest first; the last sample delivered from each, and the last outgoing linear value. -/
structure Chan where
  rxCfg : Word := 0
  txCfg : Word := 0
  rxPend : Bool := false
  txPend : Bool := false
  rx : List (Fin 65536) := []
  tx : List (Fin 65536) := []
  rxLast : Fin 65536 := 0
  txLast : Fin 65536 := 0
  rxOut : Int := 0
  txOut : Int := 0
  /-- muted since the port resumed -/
  rxHeld : Bool := false
  txHeld : Bool := false
  deriving DecidableEq, Repr

/-- An orderwire port as it runs (R508 to R516). -/
structure Audio where
  frozen : Bool := false
  /-- consistent frames since resumption -/
  good : Nat := 0
  fsHz : Nat := 0
  /-- channels of the left and the right slot -/
  left : Chan := {}
  right : Chan := {}
  deriving DecidableEq, Repr

/-- A SYNC input (R494 to R498): accepted edges so far, lost, invalid for rate, valid, accepted edges without a fault, and
the accepted periods of the last 64 in ns, newest first. -/
structure SyncIn where
  seen : Bool := false
  lost : Bool := false
  rateBad : Bool := false
  valid : Bool := false
  clean : Nat := 0
  periods : List Nat := []
  deriving DecidableEq, Repr

/-- The tick DPLL (R499 to R503): IN_USE (0 A, 1 B, 2 holdover, 3 free-run), the phase error in ns, the frequency offset,
ticks of lock behind it (to 8,000), and the input used last. -/
structure Dpll where
  inUse : Nat := 3
  slewing : Bool := false
  phase : Int := 0
  freq : Nat := 0
  locked : Nat := 0
  last : Nat := 0
  deriving DecidableEq, Repr

/-- A power domain: its state, the state it is changing to with the cause (Table 16-10), raised by a self-test burst,
FAULT, and held at L3 by the fault until a request or a mode change (R521 to R538). -/
structure Dom where
  st : Nat := 3
  goal : Nat := 3
  cause : Nat := 0
  burst : Bool := false
  fault : Bool := false
  held : Bool := false
  deriving DecidableEq, Repr

/-- The voltage loop of a region (R542, R543). -/
structure Vloop where
  vout : Nat := 0
  floor : Nat := 0
  aging : Nat := 0
  overridden : Bool := false
  /-- tick after which a POLICY_EVT may be placed again -/
  quiet : Nat := 0
  deriving DecidableEq, Repr

/-- Interlock states (R387). -/
inductive Ilk where
  | released
  | arming
  | holding
  | blocked
  deriving DecidableEq, Repr

/-- A starter bank (R398 to R401, R418): whether it holds a consistent starter, whether that came from the NVM, its
consistency point, its loaf, and its words: control words by address, context words by ID × 128 + word, holding places by
ID, buffer words by the keys of `oh`, deck entries by page × 2^18 + address, SEL, and device-state items. -/
structure Starter where
  valid : Bool := false
  fromNvm : Bool := false
  tick : Word := 0
  wrap : Word := 0
  loaf : Option Loaf := none
  cw : Tab Word := []
  ctx : Tab Word := []
  oh : Tab Word := []
  deck : Tab Word := []
  sels : Tab Bool := []
  dev : Tab Word := []
  deriving DecidableEq, Repr

/-- States of the Polfen link (R412). -/
inductive Link where
  | down
  | lock
  | key
  | up
  | hold
  deriving DecidableEq, Repr

/-- The Polfen link and the mate transmit queue (R406 to R414, R431). -/
structure Polfen where
  st : Link := .down
  clash : Bool := false
  /-- eight tear-downs within one second: DOWN until RESTART -/
  halted : Bool := false
  /-- tear-downs of the last second, by tick -/
  drops : List Nat := []
  epoch : Nat := 0
  /-- next SEQ to send and to receive -/
  txSeq : Nat := 0
  rxSeq : Nat := 0
  /-- frames sent and not acknowledged, oldest first; those to be sent again -/
  sent : List PFrame := []
  again : List PFrame := []
  /-- the next frame carries NAK -/
  nak : Bool := false
  /-- lines granted to the mate and not yet told -/
  grant : Nat := 0
  /-- messages received whole, oldest first -/
  inbox : List MateMsg := []
  /-- messages waiting, oldest first; lines of the one under way already sent -/
  queue : List MateMsg := []
  part : Nat := 0
  /-- credit balance and high state of the queue -/
  cr : Nat := 0
  high : Bool := false
  clipped : Bool := false
  /-- a frame was discarded under R415 in this tick -/
  discarded : Bool := false
  deriving DecidableEq, Repr

/-- Self-test rotation (R419 to R421): the element under test, whether the last burst was aborted, elements passed in the
coverage cycle, elements whose last burst failed, seconds since entry to STANDBY, and the states the raised domains return
to. -/
structure SelfTest where
  burst : Option Nat := none
  aborted : Bool := false
  passed : Nat := 0
  failed : Nat := 0
  secs : Nat := 0
  returns : Tab Nat := []
  deriving DecidableEq, Repr

/-- What a package does in its pair (chapter 12): GRANT_IN as accepted, ILK_IN_L as accepted, ROLE_CONFLICT, PROVISIONAL,
an interlock released whose mode has not followed (R392), the tick at which TAKEOVER began, whether its starter was too old
or absent and whether it has been applied; a sweep in progress as mate with the end of what it delivered, and as holder the
next target to send; the cause that waits for a sweep (row of Table 12-8, 0 none); the next context of tier 2; the health
word of the T0 passed, the one last sent and the mate's. -/
structure Rdn where
  grant : Bool := false
  mateIlk : Bool := false
  conflict : Bool := false
  /-- a starter is to be applied in this takeover -/
  take : Bool := false
  provisional : Bool := false
  leaving : Bool := false
  since : Nat := 0
  late : Bool := false
  applied : Bool := false
  sweepRx : Option Starter := none
  swept : Nat := 0
  sweepTx : Option Nat := none
  want : Nat := 0
  tier2 : Nat := 0
  next : BitVec 72 := 0
  own : BitVec 72 := 0
  mate : BitVec 72 := 0
  deriving DecidableEq, Repr

/-- A session of a command ring (R446 to R451). -/
structure Session where
  opened : Bool := false
  own : Bool := false
  /-- an OPEN at OWNER level waits for its PROOF -/
  mid : Bool := false
  reply : Nat := 0
  /-- sequence expected next -/
  seq : Nat := 1
  /-- renewals of its keys -/
  renewals : Nat := 0
  deriving DecidableEq, Repr

/-- An object in two NVM copies, each with its SEQ where it is valid (R462, R463). -/
structure Copies (α : Type) where
  a : Option (Nat × α) := none
  b : Option (Nat × α) := none
  deriving DecidableEq, Repr

/-- A firmware image as stored: FW_SVN and its lines; valid under R436 and R437. -/
structure FwImage where
  svn : Nat
  lines : List (BitVec 288)
  valid : Bool
  deriving DecidableEq, Repr

/-- Owner record: OWNER_SEQ and the owner key, none after a release. -/
structure OwnerRec where
  seq : Nat
  key : Option (List Nat)
  deriving DecidableEq, Repr

/-- Floors record (R441). -/
structure Floors where
  fw : Nat := 0
  pin : Nat := 0
  loaf : Nat := 0
  deriving DecidableEq, Repr

/-- What a STORE writes (Table 13-10). -/
inductive StoreJob where
  | starter (st : Starter)
  | fw (im : FwImage)
  | owner (doc : Nat) (r : OwnerRec)
  | floors (f : Floors)
  | pair (body : List (BitVec 288))
  deriving DecidableEq, Repr

/-- The NVM and what STORE shows of it (R461 to R464, Table 13-12). -/
structure Nvm where
  starter : Copies Starter := {}
  fwA : Option FwImage := none
  fwB : Option FwImage := none
  owner : Copies OwnerRec := {}
  floors : Copies Floors := {}
  pair : Copies (List (BitVec 288)) := {}
  busy : Option StoreJob := none
  target : Nat := 0
  result : Nat := 0
  stores : Nat := 0
  /-- tick count from which a STORE of a target is taken again -/
  lastAt : Tab Nat := []
  deriving DecidableEq, Repr

/-- An instruction with a duration that the hub engine waits at: SEAL until the end of the commit window, and whether that
has come (R465). -/
inductive LongOp where
  | store
  | seal
  | loaf (l : Loaf)
  deriving DecidableEq, Repr

/-- Security as it runs: keys derived, the running firmware and its bank, debug unlock and its scope, key slots holding a
key, the sealed image in the spare bank, QCAUSE, DBG_NONCE, the recovery image address, the report body as taken at the last
T0 (R452). -/
structure Sec where
  keyed : Bool := false
  fw : Option (Bool × Nat) := none
  started : Bool := false
  unlocked : Bool := false
  scope : Nat := 0
  slots : Nat := 0
  sealed : Option Starter := none
  qcause : Nat := 0
  nonce : BitVec 256 := 0
  recLo : Nat := 0
  recHi : Nat := 0
  report : List Nat := []
  deriving DecidableEq, Repr

/-- The guest port (R489 to R491): its command, address and offset, the status and bytes of its report, the tick count from
which ATT_NONCE is taken again, and the nonce of a report under way. -/
structure Guest where
  cmd : Nat := 0
  addr : Nat := 0
  off : Nat := 0
  stat : Nat := 0
  report : List Nat := []
  lastAt : Nat := 0
  nonce : List Nat := []
  deriving DecidableEq, Repr

/-- The JTAG port (R492, R493): its instruction, the boundary-scan register and its update latch, writes through DBG_CFG that
wait for the commit window, TRACE_SEL. -/
structure Jtag where
  ir : Nat := 0xFF
  bsr : List Bool := []
  upd : List Bool := []
  staged : List (Nat × Word) := []
  sel : Word := 0
  deriving DecidableEq, Repr

/-- How far the package has come (R532, R549, R557): without power, in reset, internal reset released, keys derived and
running, or in L4 DORMANT. -/
inductive Phase where
  | off
  | inReset
  | released
  | running
  | dormant
  deriving DecidableEq, Repr

/-- What crosses a land or a wire outward; the newest is first in `State.out`. The model's own record. -/
inductive Out where
  | hostRing (q : Nat) (at_ : Nat) (words : List Word)
  | reply (addr : Nat) (words : List Word)
  | msix (vector : Nat)
  /-- a GFP frame sent: unit, port, octets, and whether it was ended with inverted FCS -/
  | gfpFrame (unit port : Nat) (bytes : List (Fin 256)) (bad : Bool)
  /-- a CSF client management frame -/
  | gfpCsf (unit port : Nat)
  /-- a frame or a message sent by a CHAN_IF port toward the NPU: header octets, carried octets -/
  | chanFrame (unit port : Nat) (header : List Nat) (bytes : List (Fin 256))
  /-- an orderwire octet inserted in a line: context, byte (E1, E2, F1), octet -/
  | orderwire (ctx byte octet : Nat)
  /-- a sample sent to the card: port, slot -/
  | audio (port slot : Nat) (sample : Fin 65536)
  /-- one inverted bit of a lane's pattern generator (R80) -/
  | prbsError (side lane : Nat)
  /-- HEALTH_TX: the word of a tick (R393) -/
  | health (h : BitVec 72)
  /-- a Polfen frame -/
  | frame (f : PFrame)
  /-- a TEARDOWN frame (R413), a HELLO with SEAT and epoch (R412) -/
  | teardown
  | hello (seat epoch : Nat)
  /-- the fresh nonce of a renewed session, returned under the old keys (R449) -/
  | sessionNonce (ring : Nat) (n : Word)
  /-- bytes of a guest read with their PEC, and a NAK (R489) -/
  | guest (bytes : List Nat)
  | guestNak
  /-- what a JTAG data register shifts out -/
  | jtag (bits : List Bool)
  /-- levels driven at the lands from the boundary-scan update latch: by code of the instruction -/
  | lands (code : Nat) (bits : List Bool)
  deriving DecidableEq, Repr

/-- The machine. -/
structure State where
  /-- commands that wait, first in, first out -/
  pending : List Instr := []
  /-- uses of free values so far: the model's own counter -/
  freeUses : Nat := 0
  out : List Out := []
  mode : Mode := .sealed
  /-- cause of the last mode change (Table 16-5) -/
  modeCause : Nat := 1
  phase : Phase := .released
  straps : Straps := { seat := 1, ga := 3, claimL := true, vioSel := true }
  /-- PERST_L is low (R557) -/
  perst : Bool := false
  /-- the stop of the first stage was an overvoltage (R549) -/
  vinHigh : Bool := false
  /-- a claim was accepted: the next reset leads to BOOT with its cause (Table 16-5) -/
  claimed : Bool := false
  /-- the reset a batch asked for comes once its completion is written (R528) -/
  resetDue : Bool := false
  /-- as measured at the last T0 -/
  meas : Meas := { vin := 0, pIn := 0, tj0 := -40, tj1 := -40, tjHub := -40 }
  /-- the temperature alarm may be raised again (R539) -/
  hot : Bool := false
  tick : Word := 0
  wrap : Word := 0
  hbOut : Bool := false
  /-- control words at their stored bits -/
  cw : Tab Word := []
  /-- context words, key ID × 128 + word -/
  ctx : Tab Word := []
  /-- where a context lies, 1 + unit × 256 + handle, 0 for none (R15) -/
  ctxAt : Tab Nat := []
  engines : Tab Engine := []
  loaf : Option Loaf := none
  loafNext : Option Loaf := none
  /-- the commit window that follows the completion of its LOAF.LOAD has passed (R332) -/
  loafDue : Bool := false
  batch : Option BatchRun := none
  /-- the hub engine as a suspended batch left it (R38) -/
  suspended : Option Engine := none
  batchesDone : List BatchRun := []
  batchIds : Nat := 0
  lastRing : Nat := 3
  rings : Tab CmdRing := []
  /-- hub scratch lines, 288 bits each -/
  scratch : Tab (BitVec 288) := []
  hq : Tab HostQueue := []
  hostRing : Tab HostRing := []
  intPend : Nat := 0
  /-- MSI-X table, four 32-bit words per entry, and pending bits (R468); a set mask bit is what PCI Express resets to -/
  msixTable : Tab (BitVec 32) := []
  msixPba : Nat := 0
  /-- violation kinds recorded in this tick (R455) -/
  violated : List Nat := []
  /-- longest wait for the check-value unit of a cluster in this tick (R360) -/
  chkMax : Tab Nat := []
  /-- captures caused and not yet made (R374) -/
  captures : Nat := 0
  /-- hardware records due in this tick's commit window -/
  due : List Due := []
  /-- lanes, key side × 64 + lane -/
  lanes : Tab Lane := []
  /-- quads, key side × 16 + quad -/
  quads : Tab Quad := []
  /-- flexible synthesisers, key region × 2 + number -/
  flex : Tab FlexHolder := []
  recClk : Tab RecClk := []
  refClk : Tab RefClk := []
  ilk : Ilk := .released
  /-- trackers, key (unit × 160 + stream) × 64 + member: 0 to 31 the lanes, logical lanes or PHYs (0 the only layer of
  a single-layer stream), 32 to 63 the OTUC slices -/
  trackers : Tab Tracker := []
  /-- streams, key unit × 160 + stream -/
  framers : Tab Framer := []
  /-- monitoring contexts, key ID -/
  mons : Tab Mon := []
  /-- overhead buffers, key (ID × 64 + field code) × 64 + word (R126), and as latched at T0 (R128) -/
  oh : Tab Word := []
  ohT0 : Tab Word := []
  /-- filter cells, key cluster × 2,048 + cell -/
  cells : Tab Cell := []
  cellsT0 : Tab Cell := []
  /-- package bin clock and the load that waits for the next T0 (R153, R154) -/
  binQ : Nat := 0
  binD : Nat := 0
  binLoad : Option (Nat × Nat) := none
  /-- a starter was applied since the last T0 -/
  binRestored : Bool := false
  /-- OH_PM_TIME as latched -/
  pmTime : Word := 0
  /-- deck entries, key page × 2^18 + deck address; SEL of the selectors apart, key die × 2,048 + pair -/
  deck : Tab Word := []
  sels : Tab Bool := []
  decks : Tab DieDeck := []
  /-- resize controllers, key die × 32 + controller -/
  rsz : Tab Rsz := []
  /-- rings of the proof store, key ring ID; hitless pairs, key pair; groups, key die × 2,048 + group -/
  prfRings : Tab Ring := []
  hls : Tab Hl := []
  groups : Tab Group := []
  /-- SUBST and UNVERIFIED events of a die in this tick and the ring of the first (R247) -/
  substs : Tab Nat := []
  unverified : Tab Nat := []
  firstRing : Tab Nat := []
  /-- protection pairs, key pair -/
  pairs : Tab Pair := []
  /-- orderwire ports, key port -/
  audio : Tab Audio := []
  /-- SYNC_A and SYNC_B, the tick DPLL -/
  sync : Tab SyncIn := []
  dpll : Dpll := {}
  /-- power domains, key domain; voltage loops, key region -/
  doms : Tab Dom := []
  vloops : Tab Vloop := []
  /-- the pair (chapter 12): its signals and sweep, the current and the spare starter bank, the link, the self-test -/
  rdn : Rdn := {}
  bank : Starter := {}
  spare : Starter := {}
  link : Polfen := {}
  test : SelfTest := {}
  /-- security, the NVM, sessions by ring, the instruction with a duration under way and its gD -/
  sec : Sec := {}
  nvm : Nvm := {}
  sess : Tab Session := []
  long : Option (LongOp × Nat) := none
  guest : Guest := {}
  jtag : Jtag := {}
  /-- bundle addresses traced, oldest first (R493) -/
  trace : List Nat := []
  /-- effects of SET_PIN whose move home waits for the placement phase (R545) -/
  pinMoves : List Nat := []
  /-- control words and fields of them as latched at T0, by address -/
  words : Tab Word := []
  /-- client queues, key die × 1,024 + queue -/
  cq : Tab ClientQueue := []
  /-- mapper ports, key unit × 192 + port -/
  ports : Tab Port := []
  deriving DecidableEq, Repr

/-- The machine right after reset. -/
def State.reset : State := {}

end Sys2Proof.Machine
end

