-- ==== Sys2Proof/Machine/Put.lean ====
section
/-! DEFINITION. One update per field of the state, by which every operation writes it. -/

namespace Sys2Proof.Machine

def State.putFreeUses (s : State) (v : Nat) : State := { s with freeUses := v }
def State.putOut (s : State) (v : List Out) : State := { s with out := v }
def State.putMode (s : State) (v : Mode) : State := { s with mode := v }
def State.putModeCause (s : State) (v : Nat) : State := { s with modeCause := v }
def State.putPhase (s : State) (v : Phase) : State := { s with phase := v }
def State.putStraps (s : State) (v : Straps) : State := { s with straps := v }
def State.putPerst (s : State) (v : Bool) : State := { s with perst := v }
def State.putVinHigh (s : State) (v : Bool) : State := { s with vinHigh := v }
def State.putClaimed (s : State) (v : Bool) : State := { s with claimed := v }
def State.putResetDue (s : State) (v : Bool) : State := { s with resetDue := v }
def State.putMeas (s : State) (v : Meas) : State := { s with meas := v }
def State.putHot (s : State) (v : Bool) : State := { s with hot := v }
def State.putTick (s : State) (v : Word) : State := { s with tick := v }
def State.putWrap (s : State) (v : Word) : State := { s with wrap := v }
def State.putHbOut (s : State) (v : Bool) : State := { s with hbOut := v }
def State.putCw (s : State) (v : Tab Word) : State := { s with cw := v }
def State.putCtx (s : State) (v : Tab Word) : State := { s with ctx := v }
def State.putCtxAt (s : State) (v : Tab Nat) : State := { s with ctxAt := v }
def State.putEngines (s : State) (v : Tab Engine) : State := { s with engines := v }
def State.putLoaf (s : State) (v : Option Loaf) : State := { s with loaf := v }
def State.putLoafNext (s : State) (v : Option Loaf) : State := { s with loafNext := v }
def State.putLoafDue (s : State) (v : Bool) : State := { s with loafDue := v }
def State.putBatch (s : State) (v : Option BatchRun) : State := { s with batch := v }
def State.putSuspended (s : State) (v : Option Engine) : State := { s with suspended := v }
def State.putBatchesDone (s : State) (v : List BatchRun) : State := { s with batchesDone := v }
def State.putBatchIds (s : State) (v : Nat) : State := { s with batchIds := v }
def State.putLastRing (s : State) (v : Nat) : State := { s with lastRing := v }
def State.putRings (s : State) (v : Tab CmdRing) : State := { s with rings := v }
def State.putScratch (s : State) (v : Tab (BitVec 288)) : State := { s with scratch := v }
def State.putHq (s : State) (v : Tab HostQueue) : State := { s with hq := v }
def State.putHostRing (s : State) (v : Tab HostRing) : State := { s with hostRing := v }
def State.putIntPend (s : State) (v : Nat) : State := { s with intPend := v }
def State.putMsixPba (s : State) (v : Nat) : State := { s with msixPba := v }
def State.putViolated (s : State) (v : List Nat) : State := { s with violated := v }
def State.putChkMax (s : State) (v : Tab Nat) : State := { s with chkMax := v }
def State.putCaptures (s : State) (v : Nat) : State := { s with captures := v }
def State.putDue (s : State) (v : List Due) : State := { s with due := v }
def State.putLanes (s : State) (v : Tab Lane) : State := { s with lanes := v }
def State.putQuads (s : State) (v : Tab Quad) : State := { s with quads := v }
def State.putFlex (s : State) (v : Tab FlexHolder) : State := { s with flex := v }
def State.putRecClk (s : State) (v : Tab RecClk) : State := { s with recClk := v }
def State.putRefClk (s : State) (v : Tab RefClk) : State := { s with refClk := v }
def State.putIlk (s : State) (v : Ilk) : State := { s with ilk := v }
def State.putTrackers (s : State) (v : Tab Tracker) : State := { s with trackers := v }
def State.putFramers (s : State) (v : Tab Framer) : State := { s with framers := v }
def State.putMons (s : State) (v : Tab Mon) : State := { s with mons := v }
def State.putOh (s : State) (v : Tab Word) : State := { s with oh := v }
def State.putOhT0 (s : State) (v : Tab Word) : State := { s with ohT0 := v }
def State.putCells (s : State) (v : Tab Cell) : State := { s with cells := v }
def State.putCellsT0 (s : State) (v : Tab Cell) : State := { s with cellsT0 := v }
def State.putBinQ (s : State) (v : Nat) : State := { s with binQ := v }
def State.putBinD (s : State) (v : Nat) : State := { s with binD := v }
def State.putBinLoad (s : State) (v : Option (Nat × Nat)) : State := { s with binLoad := v }
def State.putBinRestored (s : State) (v : Bool) : State := { s with binRestored := v }
def State.putPmTime (s : State) (v : Word) : State := { s with pmTime := v }
def State.putDeck (s : State) (v : Tab Word) : State := { s with deck := v }
def State.putSels (s : State) (v : Tab Bool) : State := { s with sels := v }
def State.putDecks (s : State) (v : Tab DieDeck) : State := { s with decks := v }
def State.putRsz (s : State) (v : Tab Rsz) : State := { s with rsz := v }
def State.putPrfRings (s : State) (v : Tab Ring) : State := { s with prfRings := v }
def State.putHls (s : State) (v : Tab Hl) : State := { s with hls := v }
def State.putGroups (s : State) (v : Tab Group) : State := { s with groups := v }
def State.putSubsts (s : State) (v : Tab Nat) : State := { s with substs := v }
def State.putUnverified (s : State) (v : Tab Nat) : State := { s with unverified := v }
def State.putFirstRing (s : State) (v : Tab Nat) : State := { s with firstRing := v }
def State.putPairs (s : State) (v : Tab Pair) : State := { s with pairs := v }
def State.putAudio (s : State) (v : Tab Audio) : State := { s with audio := v }
def State.putSync (s : State) (v : Tab SyncIn) : State := { s with sync := v }
def State.putDpll (s : State) (v : Dpll) : State := { s with dpll := v }
def State.putDoms (s : State) (v : Tab Dom) : State := { s with doms := v }
def State.putVloops (s : State) (v : Tab Vloop) : State := { s with vloops := v }
def State.putRdn (s : State) (v : Rdn) : State := { s with rdn := v }
def State.putBank (s : State) (v : Starter) : State := { s with bank := v }
def State.putSpare (s : State) (v : Starter) : State := { s with spare := v }
def State.putLink (s : State) (v : Polfen) : State := { s with link := v }
def State.putTest (s : State) (v : SelfTest) : State := { s with test := v }
def State.putSec (s : State) (v : Sec) : State := { s with sec := v }
def State.putNvm (s : State) (v : Nvm) : State := { s with nvm := v }
def State.putSess (s : State) (v : Tab Session) : State := { s with sess := v }
def State.putLong (s : State) (v : Option (LongOp × Nat)) : State := { s with long := v }
def State.putGuest (s : State) (v : Guest) : State := { s with guest := v }
def State.putJtag (s : State) (v : Jtag) : State := { s with jtag := v }
def State.putTrace (s : State) (v : List Nat) : State := { s with trace := v }
def State.putPinMoves (s : State) (v : List Nat) : State := { s with pinMoves := v }
def State.putWords (s : State) (v : Tab Word) : State := { s with words := v }
def State.putCq (s : State) (v : Tab ClientQueue) : State := { s with cq := v }
def State.putPorts (s : State) (v : Tab Port) : State := { s with ports := v }

end Sys2Proof.Machine
end

