-- ==== Sys2Proof/Machine/Ops.lean ====
section
/-! DEFINITION. Named operations over tables, control words, contexts, host queues, records, census counts and
violations; every meaning reads and writes the state through them. -/

namespace Sys2Proof.Machine

/-- The outcome of a command. -/
abbrev Result := Host.Outcome State Fault Refusal

/-! ### Tables -/

/-- What a key of a table reads as; `d` is what an unlisted key reads as. -/
def tabGet {α : Type} (d : α) : Tab α → Nat → α
  | [], _ => d
  | (k, v) :: t, i => if i = k then v else tabGet d t i

/-- A table with a key listed, keys kept rising. -/
def tabPut {α : Type} (v : α) (i : Nat) : Tab α → Tab α
  | [] => [(i, v)]
  | (k, w) :: t => if i < k then (i, v) :: (k, w) :: t else if i = k then (i, v) :: t else (k, w) :: tabPut v i t

/-- A table with a key unlisted. -/
def tabDrop {α : Type} (i : Nat) : Tab α → Tab α
  | [] => []
  | (k, w) :: t => if i = k then t else (k, w) :: tabDrop i t

/-- A table with a key set; a key set to what it reads as unlisted is unlisted. -/
def tabSet {α : Type} [DecidableEq α] (d : α) (t : Tab α) (i : Nat) (v : α) : Tab α :=
  if v = d then tabDrop i t else tabPut v i t

/-- A table with every listed value changed. -/
def tabMap {α : Type} [DecidableEq α] (d : α) (f : α → α) : Tab α → Tab α
  | [] => []
  | (k, v) :: t => if f v = d then tabMap d f t else (k, f v) :: tabMap d f t

/-- Keys strictly rising. -/
def keysRise {α : Type} : Tab α → Bool
  | [] => true
  | [_] => true
  | (k, _) :: (k', v') :: t => decide (k < k') && keysRise ((k', v') :: t)

/-- The canonical form of a table whose unlisted key i reads as `d i`. -/
def tabWf {α : Type} [DecidableEq α] (d : Nat → α) (t : Tab α) : Bool :=
  keysRise t && t.all fun e => decide (e.2 ≠ d e.1)

/-! ### Geometry (R14, Table 1-2) -/

def clusterOf (u : Nat) : Nat := u / 4
def regionOf (u : Nat) : Nat := u / 16
def dieOf (u : Nat) : Nat := u / 32
/-- The home unit of a context ID (R15). -/
def homeUnit (id : Nat) : Nat := id / 256

/-! ### Control-space addresses (R47, Table 1-5) -/

def ctlAddr (cls num idx : Nat) : Nat := cls * 2 ^ 18 + num * 2 ^ 12 + idx
def ctlClass (a : Nat) : Nat := bitsOf a 23 18
def ctlNum (a : Nat) : Nat := bitsOf a 17 12
def ctlIdx (a : Nat) : Nat := bitsOf a 11 0

def clsLane : Nat := 0x00
def clsFec : Nat := 0x01
def clsFramer : Nat := 0x02
def clsOh : Nat := 0x03
def clsMap : Nat := 0x04
def clsDeck : Nat := 0x05
def clsFine : Nat := 0x06
def clsProof : Nat := 0x07
def clsProt : Nat := 0x08
def clsQueue : Nat := 0x09
def clsChk : Nat := 0x0A
def clsPc : Nat := 0x0B
def clsClk : Nat := 0x0C
def clsAud : Nat := 0x0D
def clsPwr : Nat := 0x0E
def clsMate : Nat := 0x0F
def clsHost : Nat := 0x10
def clsSec : Nat := 0x11
def clsNvm : Nat := 0x12
def clsCen : Nat := 0x13
def clsPair : Nat := 0x14

/-! ### Free values -/

/-- Spend one use of the free values. -/
def spendFree (s : State) : State := s.putFreeUses (s.freeUses + 1)

/-- The free value of this use. -/
def freeNow (s : State) : Word := Config.freeWord s.freeUses

/-- Record what leaves through a land or a wire. -/
def emit (o : Out) (s : State) : State := s.putOut (o :: s.out)

/-! ### Control words -/

/-- The stored bits of a control word. -/
def cwGet (s : State) (a : Nat) : Word := tabGet (cwReset a) s.cw a

/-- Store a control word. -/
def cwSet (a : Nat) (v : Word) (s : State) : State := s.putCw (tabSet (cwReset a) s.cw a v)

/-- Field of a stored control word. -/
def cwFld (s : State) (a hi lo : Nat) : Nat := fld (cwGet s a) hi lo

/-- Replace a field of a stored control word. -/
def cwPut (a hi lo v : Nat) (s : State) : State := cwSet a (putFld (cwGet s a) hi lo v) s

/-- A 36-bit count of a control word raised, held at its top. -/
def cwCount (a n : Nat) (s : State) : State := cwSet a (satAdd (cwGet s a) n) s

/-- An 18-bit count held in bits [hi:hi-17] of a control word, held at its top. -/
def cwCountFld (a hi lo n : Nat) (s : State) : State :=
  cwPut a hi lo (min (cwFld s a hi lo + n) (2 ^ (hi + 1 - lo) - 1)) s

/-! ### Words latched at T0 (R37) -/

/-- What a latched word or field reads before the first T0. -/
def latchReset (a : Nat) : Word :=
  match a / 2 ^ 18 with
  | 0x02 => if a % 4096 < 0xA00 && a % 16 = 6 then 0xA00000000 else 0
  | 0x08 => if a % 4096 = 0 then 0x800000000 else 0
  | 0x0C => if a % 2 ^ 18 = 1 then 0x300000000 else 0
  | 0x0E => if a % 4096 = 0 && a / 4096 % 64 ≤ 55 then 0x0C0000000
    else if a % 2 ^ 18 = 63 * 4096 + 1 then 0x0C4000000 else 0
  | 0x0F => if a % 2 ^ 18 = 1 then 0x000FFF07C else 0
  | _ => 0

/-- A control word, or the fields of it that are latched, as the last T0 left it. -/
def latched (s : State) (a : Nat) : Word := tabGet (latchReset a) s.words a

/-! ### Domains (Table 16-1) -/

/-- State of a domain at reset: the hub at L0, the rest at L3 (Table 16-3, BOOT). -/
def domReset (d : Nat) : Dom :=
  if (42 ≤ d && d ≤ 50 && d != 49) || d == 54 || d == 55 then { st := 0, goal := 0 } else {}

def domGet (s : State) (d : Nat) : Dom := tabGet (domReset d) s.doms d
def domPut (d : Nat) (k : Dom) (s : State) : State := s.putDoms (tabSet (domReset d) s.doms d k)
/-- A domain stands at L0. -/
def domRuns (s : State) (d : Nat) : Bool := (domGet s d).st == 0

/-! ### Contexts (R15, R311) -/

/-- Where a context lies: unit × 256 + handle. -/
def ctxPlace (s : State) (id : Nat) : Option Nat :=
  match tabGet 0 s.ctxAt id with
  | 0 => none
  | n + 1 => some n

/-- The context that a handle of a unit holds. -/
def ctxOfHandle (s : State) (u h : Nat) : Option Nat :=
  (s.ctxAt.find? fun e => e.2 == u * 256 + h + 1).map (·.1)

/-- A word of a context. -/
def ctxWord (s : State) (id w : Nat) : Word := tabGet 0 s.ctx (id * 128 + w)

/-- Set a word of a context. -/
def ctxSet (id w : Nat) (v : Word) (s : State) : State := s.putCtx (tabSet 0 s.ctx (id * 128 + w) v)

/-- KIND of a context (Table 9-10). -/
def ctxKind (s : State) (id : Nat) : Nat := fld (ctxWord s id 0) 35 32

/-- The unit that holds a context; its home unit where none does. -/
def ctxUnit (s : State) (id : Nat) : Nat :=
  match ctxPlace s id with
  | some p => p / 256
  | none => homeUnit id

/-! ### Census counters (R380, R381, Table 11-7) -/

/-- Modes in which the episode counters run. -/
def runningMode (m : Mode) : Bool := m == .boot || m == .takeover || m == .test || m == .quarantine

/-- The standing counters. -/
def cenStanding (n : Nat) : Bool :=
  n == 2 || n == 7 || (9 ≤ n && n ≤ 12) || n == 14 || (28 ≤ n && n ≤ 54) || (56 ≤ n && n ≤ 63)

/-! ### Interrupts (R488) -/

/-- Vector i of the MSI-X table is masked. -/
def msixMasked (s : State) (i : Nat) : Bool := (tabGet (1 : BitVec 32) s.msixTable (4 * i + 3)).toNat % 2 == 1

/-- Set a bit of INT_PEND; its vector signals the setting, or its pending bit is set while the vector is masked. -/
def intSet (i : Nat) (s : State) : State :=
  if s.intPend.testBit i then s
  else
    let s := s.putIntPend (s.intPend ||| 2 ^ i)
    if msixMasked s i then s.putMsixPba (s.msixPba ||| 2 ^ i) else emit (.msix i) s

/-- INT_L asserted (R488). -/
def intL (s : State) : Bool := decide (s.intPend &&& (cwGet s (ctlAddr clsHost 0 0x20)).toNat ≠ 0)

/-- Count one event of a census counter. -/
def cenInc (n : Nat) (s : State) : State :=
  if cenStanding n || runningMode s.mode then
    let s := cwCount (ctlAddr clsCen 0 n) 1 s
    if n ≥ 56 then intSet 26 s else s
  else s

/-! ### Host queues (R337 to R346) -/

def hqCfgAddr (q : Nat) : Nat := ctlAddr clsQueue 2 (4 * q)
def hqWmAddr (q : Nat) : Nat := ctlAddr clsQueue 2 (4 * q + 1)
def hqLostAddr (q : Nat) : Nat := ctlAddr clsQueue 2 (4 * q + 3)

def hqGet (s : State) (q : Nat) : HostQueue := tabGet {} s.hq q
def hqPut (q : Nat) (h : HostQueue) (s : State) : State := s.putHq (tabSet {} s.hq q h)

/-- HQ_CFG.EN. -/
def hqOn (s : State) (q : Nat) : Bool := cwFld s (hqCfgAddr q) 35 35 == 1
/-- Entries of a host queue: SIZE × 64 lines. -/
def hqSize (s : State) (q : Nat) : Nat := cwFld s (hqCfgAddr q) 17 7 * 64

/-- Address of a word of a client queue, by its 11-bit ID (R195). -/
def cqAddr (q w : Nat) : Nat := ctlAddr clsQueue (q / 1024) (4 * (q % 1024) + w)
/-- Entries of a client queue: SIZE × 64 lines. -/
def cqSize (s : State) (q : Nat) : Nat := cwFld s (cqAddr q 0) 16 9 * 64

/-- Advance a pointer of a queue of n entries by k entries, k at most n (R337). -/
def ptrAdvance (n : Nat) (p : Ptr) (k : Nat) : Ptr :=
  if p.at_ + k ≥ n then { wrap := !p.wrap, at_ := p.at_ + k - n } else { p with at_ := p.at_ + k }

/-- FILL of a queue of n entries (R337). -/
def ptrFill (n : Nat) (rp wp : Ptr) : Nat :=
  if rp.wrap = wp.wrap then wp.at_ - rp.at_ else n - rp.at_ + wp.at_

/-- Lines of an item of so many words (R340, R341). -/
def itemLines (ws : List Word) : Nat := (ws.length + 7) / 8

/-- The high state after a change of FILL (R346). -/
def highAfter (was : Bool) (fill high low : Nat) : Bool := if fill ≥ high then true else if fill ≤ low then false else was

/-- Re-evaluate the high state of a host queue; entering it is interrupt source 8 + q. -/
def hqLevel (q : Nat) (s : State) : State :=
  let h := hqGet s q
  let hi := highAfter h.high (ptrFill (hqSize s q) h.rp h.wp) (cwFld s (hqWmAddr q) 35 18) (cwFld s (hqWmAddr q) 17 0)
  let s := hqPut q { h with high := hi } s
  if hi && !h.high then intSet (8 + q) s else s

/-- Discard whole items, oldest first, until so many lines are free or none is left; how many were discarded (R343). -/
def hqDiscard (n need : Nat) (rp wp : Ptr) : List (List Word) → Ptr × List (List Word) × Nat
  | [] => (rp, [], 0)
  | i :: rest =>
    if need ≤ n - ptrFill n rp wp then (rp, i :: rest, 0)
    else
      let r := hqDiscard n need (ptrAdvance n rp (itemLines i)) wp rest
      (r.1, r.2.1, r.2.2 + 1)

/-- Append an item whole to a host queue (R341, R343, R344, R345). -/
def hqAppend (q : Nat) (item : List Word) (s : State) : State :=
  if !hqOn s q then cwCount (hqLostAddr q) 1 s
  else
    let h := hqGet s q
    let n := hqSize s q
    let need := itemLines item
    if cwFld s (hqCfgAddr q) 34 34 = 1 then
      if need ≤ h.cr then
        hqLevel q (hqPut q { h with items := h.items ++ [item], wp := ptrAdvance n h.wp need, cr := h.cr - need } s)
      else cwCount (hqLostAddr q) 1 s
    else
      let d := hqDiscard n need h.rp h.wp h.items
      let h := { h with rp := d.1, items := d.2.1 }
      if need ≤ n - ptrFill n h.rp h.wp then
        hqLevel q (cwCount (hqLostAddr q) d.2.2
          (hqPut q { h with items := h.items ++ [item], wp := ptrAdvance n h.wp need } s))
      else hqLevel q (cwCount (hqLostAddr q) (d.2.2 + 1) (hqPut q h s))

/-! ### Records (R485, R486) -/

/-- SRC of a hardware record, and of ROM or firmware. -/
def srcHardware : Nat := 65
def srcFirmware : Nat := 66

/-- Common record header (Table 14-7). -/
def recHeader (ty src words code : Nat) : Word := mkWord [(30, ty), (23, src), (16, words), (0, code)]

/-- Place a record of so many words after its header in a host queue. -/
def record (q ty src : Nat) (ws : List Word) (s : State) : State :=
  hqAppend q (recHeader ty src ws.length 0 :: ws) s

/-- Place a hardware record in HQ0 with one word of content and the tick counter (Table 14-8). -/
def record0 (ty src : Nat) (w1 : Word) (s : State) : State := record 0 ty src [w1, s.tick] s

/-- The source number of an issuer in a record header (R485). -/
def srcNumber : Src → Nat
  | .unit u => u.val
  | .hub => 64
  | .batch _ => 64
  | .debug => 65

/-- A hardware record is due in the commit window of the tick. -/
def dueRecord (q ty : Nat) (ws : List Word) (s : State) : State := s.putDue (s.due ++ [{ q := q, ty := ty, ws := ws }])

/-! ### Violations (R454, R455) -/

/-- SRC of a VIOLATION record (R485): a unit, the hub engine for the hub image or an instruction of a batch, hardware for a
batch whose tag fails, a session refused, and what a port presents. -/
def violCauser (kind source : Nat) : Nat :=
  if source < 64 then source
  else if source = 71 || (source < 68 && kind != 1 && kind != 7) then 64
  else srcHardware

/-- A violation of a kind (census number minus 56) by a source at an address: counted, and recorded once per kind and
tick. -/
def violation (kind source addr : Nat) (s : State) : State :=
  let s := cenInc (56 + kind) s
  if kind ∈ s.violated then s
  else
    record0 0x1C (violCauser kind source) (mkWord [(33, kind), (26, source), (2, addr)]) (s.putViolated (kind :: s.violated))

/-- The source number of an engine in a violation: a unit, the hub image, or a batch by its command ring. -/
def violSource (s : State) (e : Nat) (inBatch : Bool) : Nat :=
  if e < 64 then e else if inBatch then 64 + (match s.batch with | some b => b.batch.ring | none => 0) else 71

/-! ### Refused effects (R60, R479, R486) -/

/-- KIND of a REFUSAL record. -/
inductive RefKind where
  | word
  | deck
  | pair
  | port

/-- A refused effect: a batch counts it and keeps the first one's status and bundle; any other issuer's is recorded in
HQ0 as REFUSAL. -/
def refuse (o : Origin) (status : Nat) (k : RefKind) (addr : Nat) (s : State) : State :=
  match o.src with
  | .batch id =>
    s.putBatchesDone (s.batchesDone.map fun b =>
        if b.id = id then
          (if b.refusals = 0 then { b with refusals := 1, status := status, bundle := o.bundle }
           else { b with refusals := b.refusals + 1 })
        else b)
  | src =>
    let kind := match k with | .word => 0 | .deck => 1 | .pair => 2 | .port => 3
    record0 0x06 (srcNumber src) (mkWord [(28, status), (26, kind), (2, addr)]) s

/-- The outcome of an effect checked before it is applied: the new state, or the status that refuses it. -/
abbrev Applied := Except Nat State

/-! ### Status codes (Table 14-6) -/

namespace St
def ok : Nat := 0x00
def idRange : Nat := 0x01
def cfgRange : Nat := 0x02
def regionSpan : Nat := 0x03
def modeState : Nat := 0x04
def thrRange : Nat := 0x05
def resConflict : Nat := 0x06
def timerBusy : Nat := 0x07
def portEnabled : Nat := 0x08
def portInUse : Nat := 0x09
def batchSize : Nat := 0x0A
def batchForm : Nat := 0x0B
def passBound : Nat := 0x0C
def limitCtx : Nat := 0x10
def limitPair : Nat := 0x11
def limitGroup : Nat := 0x12
def limitRing : Nat := 0x13
def limitQueue : Nat := 0x14
def limitStarter : Nat := 0x15
def proofBudget : Nat := 0x16
def ringActive : Nat := 0x17
def quadFamily : Nat := 0x20
def quadPll : Nat := 0x21
def fecMode : Nat := 0x22
def eqRange : Nat := 0x23
def trainActive : Nat := 0x24
def laneBusy : Nat := 0x28
def groupShape : Nat := 0x29
def protoSide : Nat := 0x2A
def ctxCluster : Nat := 0x2B
def mapRef : Nat := 0x30
def mapTs : Nat := 0x31
def slotOverlap : Nat := 0x32
def mapTpn : Nat := 0x33
def mapRate : Nat := 0x34
def chanRate : Nat := 0x35
def calActive : Nat := 0x36
def calShape : Nat := 0x37
def queueSpace : Nat := 0x38
def deckBusy : Nat := 0x40
def deckFormat : Nat := 0x41
def deckCheck : Nat := 0x42
def pairDie : Nat := 0x43
def rszRuns : Nat := 0x44
def protShape : Nat := 0x48
def protOff : Nat := 0x49
def protReject : Nat := 0x4A
def loafSig : Nat := 0x50
def loafVersion : Nat := 0x51
def loafForm : Nat := 0x52
def loafEpoch : Nat := 0x53
def loafProof : Nat := 0x54
def loafBound : Nat := 0x55
def loafStaged : Nat := 0x56
def loafDelta : Nat := 0x57
def storeRate : Nat := 0x58
def storeAuth : Nat := 0x59
def storeForm : Nat := 0x5A
def sealBusy : Nat := 0x5B
def keySlot : Nat := 0x5C
def ctxExists : Nat := 0x60
def ctxAbsent : Nat := 0x61
end St

end Sys2Proof.Machine
end

