-- ==== Sys2Proof/Machine/Streams.lean ====
section
/-! DEFINITION. Lanes, streams and their set-up as the control words give them (spec 02 Tables 2-1 to 2-5, 03 Tables
3-1 to 3-11), read by every family that needs to know who uses what. -/

namespace Sys2Proof.Machine

def sideNum : Side → Nat
  | .line => 0
  | .system => 1

/-! ### Lanes -/

def laneAddr (side lane w : Nat) : Nat := ctlAddr clsLane lane (side * 0x800 + w)
def fecAddr (side lane w : Nat) : Nat := ctlAddr clsFec lane (side * 0x800 + w)

def laneKey (side lane : Nat) : Nat := side * 64 + lane
def laneGet (s : State) (k : Nat) : Lane := tabGet {} s.lanes k
def lanePut (k : Nat) (l : Lane) (s : State) : State := s.putLanes (tabSet {} s.lanes k l)

def laneCfg (s : State) (side lane : Nat) : Word := cwGet s (laneAddr side lane 0)
def laneRate (w : Word) : Nat := fld w 34 31

/-- Family of a rate code (Table 2-1). -/
def rateFamily (r : Nat) : Nat :=
  if r ≤ 4 || r = 0xB || r = 0xC then 0 else if r ≤ 8 then 1 else if r = 9 then 2 else 3

/-- Baud of a rate code in 10 kBd (Table 2-1). -/
def rateBaud (r : Nat) : Nat :=
  match r with
  | 0x0 => 125000
  | 0x1 => 248832
  | 0x2 => 995328
  | 0x3 => 1031250
  | 0x4 => 1118000
  | 0x5 => 2578125
  | 0x6 => 2795000
  | 0x7 => 3981312
  | 0x8 => 2656250
  | 0x9 => 5312500
  | 0xA => 10625000
  | 0xB => 248832
  | 0xC => 248832
  | _ => 0

/-- Modulation of a rate code is PAM4. -/
def ratePam4 (r : Nat) : Bool := 8 ≤ r && r ≤ 0xA

/-! ### Streams -/

def frmAddr (u n w : Nat) : Nat := ctlAddr clsFramer u (n * 16 + w)
def streamKey (u n : Nat) : Nat := u * 160 + n
def frmCfg (s : State) (u n : Nat) : Word := cwGet s (frmAddr u n 0)
def frmProto (w : Word) : Nat := fld w 34 31
/-- EN = 1 and PROTO ≠ 0 (R94). -/
def frmLive (w : Word) : Bool := bit w 35 && frmProto w != 0

/-- Members of a stream, bit per lane of its side. -/
def frmLanes (s : State) (u n : Nat) : Nat :=
  cwFld s (frmAddr u n 1) 31 0 * 2 ^ 32 + cwFld s (frmAddr u n 2) 31 0

/-- The lane numbers of a mask, rising. -/
def lanesOf (mask : Nat) : List Nat := (List.range 64).filter fun l => mask.testBit l

/-- Every enabled stream: unit and number. -/
def liveStreams (s : State) : List (Nat × Nat) :=
  (s.cw.filter fun e => ctlClass e.1 == clsFramer && ctlIdx e.1 % 16 == 0 && frmLive e.2).map
    fun e => (ctlNum e.1, ctlIdx e.1 / 16)

/-- The enabled streams that name a lane (R82, R93). -/
def streamsOfLane (s : State) (side lane : Nat) : List (Nat × Nat) :=
  (liveStreams s).filter fun p => fld (frmCfg s p.1 p.2) 30 30 == side && (frmLanes s p.1 p.2).testBit lane

/-- FEC mode that a PHY of rate code r needs (Table 3-3). -/
def phyFec (r : Nat) : Nat := if r = 5 then 0 else 1

/-- Lanes that an Ethernet PHY of 100, 200, 400 or 800 Gb/s (0 to 3) has at a rate code, 0 where it has no such shape. -/
def phyLanes (speed r : Nat) : Nat :=
  match speed, r with
  | 0, 5 => 4 | 0, 8 => 2 | 0, 9 => 1
  | 1, 8 => 4 | 1, 9 => 2 | 1, 0xA => 1
  | 2, 8 => 8 | 2, 9 => 4 | 2, 0xA => 2
  | 3, 9 => 8 | 3, 0xA => 4
  | _, _ => 0

/-- Lanes of one FOIC interface of a type at a rate code. -/
def foicLanes (foic r : Nat) : Nat :=
  match foic, r with
  | 0, 6 => 4 | 1, 9 => 2 | 2, 9 => 4 | 2, 0xA => 2
  | _, _ => 0

/-- The one rate code of a lane list, if it has one. -/
def commonRate (s : State) (side : Nat) : List Nat → Option Nat
  | [] => none
  | l :: ls =>
    let r := laneRate (laneCfg s side l)
    if ls.all fun k => laneRate (laneCfg s side k) == r then some r else none

/-- FEC mode that Table 3-3 gives a stream's shape: by protocol and rate code. -/
def shapeFec (proto r : Nat) : Nat :=
  match proto with
  | 1 => 2
  | 2 => 1
  | 3 => 0
  | _ => phyFec r

/-- Lanes, rates, FEC mode, interface type, n, PHY count and parent of a stream match Table 3-3 (R92). -/
def shapeOk (s : State) (u n : Nat) : Bool :=
  let c := frmCfg s u n
  let proto := frmProto c
  let side := fld c 30 30
  let ls := lanesOf (frmLanes s u n)
  let g := cwGet s (frmAddr u n 3)
  let cnt := ls.length
  if proto = 6 then
    let pc := frmCfg s (fld g 35 30) (fld g 29 22)
    let pp := frmProto pc
    cnt == 0 && frmLive pc && (pp == 1 || pp == 2 || pp == 6) && decide (fld g 29 22 < 160) && fld c 13 11 != 7
  else
    match ls, commonRate s side ls with
    | anchor :: _, some r =>
      let fec := fld (cwGet s (fecAddr side anchor 0)) 35 34
      decide (fec = shapeFec proto r) &&
        (match proto with
        | 1 => cnt == 4 && r == 6 && g == 0
        | 2 =>
          let per := foicLanes (fld g 29 28) r
          let m := cnt / per
          per != 0 && cnt % per == 0 &&
            decide (fld g 35 30 + 1 = m * (match fld g 29 28 with | 0 => 1 | 1 => 2 | _ => 4))
        | 3 => cnt == 1 && (r == 0xC || r == 0xB || r == 1 || r == 2 || r == 7) && g == 0
        | 4 => [0, 1, 2, 3].any (fun v => phyLanes v r == cnt) && g == 0
        | 5 =>
          let per := phyLanes (fld g 29 28) r
          fld g 29 28 != 3 && per != 0 && cnt % per == 0 && decide (cnt / per ≤ 8) && decide (cnt ≤ 16) &&
            fld g 35 30 == 0
        | _ => false)
    | _, _ => false

/-- Order N of a SONET/SDH line by its rate code: FA_HALF may not exceed 3 N (R113). -/
def sdhHalfMax (r : Nat) : Nat := if r = 0xC then 3 else if r = 0xB then 12 else 15

/-- Thresholds in the ranges of Table 3-10. -/
def thrOk (s : State) (u n : Nat) : Bool :=
  let c := frmCfg s u n
  let proto := frmProto c
  let t := cwGet s (frmAddr u n 4)
  if proto = 4 then true
  else
    fld t 31 28 != 1 &&
      (if proto = 5 then true
       else if proto = 3 then
         match commonRate s (fld c 30 30) (lanesOf (frmLanes s u n)) with
         | some r => decide (fld t 19 16 ≤ sdhHalfMax r)
         | none => true
       else decide (fld t 19 16 ≤ 3))

/-- The first condition of Table 3-4 that a stream set-up breaks, as its status; 0 where none is. -/
def streamStatus (s : State) (u n : Nat) : Nat :=
  let c := frmCfg s u n
  if !frmLive c then 0
  else
    let proto := frmProto c
    let side := fld c 30 30
    let ls := lanesOf (frmLanes s u n)
    let g := cwGet s (frmAddr u n 3)
    if !(ls.all fun l => l / 16 == regionOf u) || (proto == 6 && regionOf (fld g 35 30) != regionOf u) then St.regionSpan
    else if ls.any (fun l => (streamsOfLane s side l).any fun p => p != (u, n)) then St.laneBusy
    else if !shapeOk s u n then St.groupShape
    else if (side == 1 && proto != 4 && proto != 5) then St.protoSide
    else if (match ctxPlace s (fld c 27 14) with | some p => p / 256 / 4 != clusterOf u | none => true) then St.ctxCluster
    else if !thrOk s u n then St.thrRange
    else 0

/-- The enabled lower-order streams whose parent is a stream (R116). -/
def childStreams (s : State) (u n : Nat) : List (Nat × Nat) :=
  (liveStreams s).filter fun p =>
    frmProto (frmCfg s p.1 p.2) == 6 && cwFld s (frmAddr p.1 p.2 3) 35 30 == u && cwFld s (frmAddr p.1 p.2 3) 29 22 == n

/-! ### Mapper ports (Tables 5-1 to 5-5) -/

def mapAddr (u p w : Nat) : Nat := ctlAddr clsMap u (p * 16 + w)
def portKey (u p : Nat) : Nat := u * 192 + p
def portGet (s : State) (k : Nat) : Port := tabGet {} s.ports k
def portPut (k : Nat) (p : Port) (s : State) : State := s.putPorts (tabSet {} s.ports k p)
def mapCfg (s : State) (u p : Nat) : Word := cwGet s (mapAddr u p 0)
def mapAdapt (w : Word) : Nat := fld w 34 31
/-- EN = 1 and ADAPT ≠ OFF. -/
def mapLive (w : Word) : Bool := bit w 35 && mapAdapt w != 0
def mapRefUnit (s : State) (u p : Nat) : Nat := cwFld s (mapAddr u p 1) 35 30
def mapRefNum (s : State) (u p : Nat) : Nat := cwFld s (mapAddr u p 1) 29 22

/-- Every enabled port: unit and number. -/
def livePorts (s : State) : List (Nat × Nat) :=
  (s.cw.filter fun e => ctlClass e.1 == clsMap && ctlIdx e.1 < 0xC00 && ctlIdx e.1 % 16 == 0 && mapLive e.2).map
    fun e => (ctlNum e.1, ctlIdx e.1 / 16)

/-- The tributary of a parent stream is demapped: an enabled ODTU port under the parent's HO_ODU port serves its TPN
with receive runs in force (R116). -/
def tributaryUp (s : State) (pu pn tpn : Nat) : Bool :=
  (livePorts s).any fun p =>
    let c := mapCfg s p.1 p.2
    let hu := mapRefUnit s p.1 p.2
    let hp := mapRefNum s p.1 p.2
    mapAdapt c == 3 && fld c 12 4 == tpn && (portGet s (portKey p.1 p.2)).on &&
      !(portGet s (portKey p.1 p.2)).rxRuns.isEmpty &&
      mapLive (mapCfg s hu hp) && mapAdapt (mapCfg s hu hp) == 1 && mapRefUnit s hu hp == pu && mapRefNum s hu hp == pn

end Sys2Proof.Machine
end

