-- ==== Sys2Proof/Machine/Pairs.lean ====
section
/-! DEFINITION. Protection pairs: their set-up words, their running state, and the timers they hold (spec 08 R274 to R282,
R290, R294). -/

namespace Sys2Proof.Machine

/-- A word of a pair's block. -/
def pairAddr (p w : Nat) : Nat := ctlAddr clsPair (p / 32) (p % 32 * 128 + w)

def prtGet (s : State) (p : Nat) : Pair := tabGet {} s.pairs p
def prtPut (p : Nat) (k : Pair) (s : State) : State := s.putPairs (tabSet {} s.pairs p k)

def prtCfg (s : State) (p : Nat) : Word := cwGet s (pairAddr p 0)
def prtCtx (s : State) (p : Nat) : Word := cwGet s (pairAddr p 1)
def prtLink (s : State) (p : Nat) : Word := cwGet s (pairAddr p 2)

def prtOn (s : State) (p : Nat) : Bool := bit (prtCfg s p) 35
/-- SCHEME: 0 APS/PCC, 1 K1/K2, 2 K3, 3 none. -/
def prtScheme (s : State) (p : Nat) : Nat := fld (prtCfg s p) 34 33
def prtHoldoff (s : State) (p : Nat) : Nat := fld (prtCfg s p) 31 25
def prtQueue (s : State) (p : Nat) : Nat := fld (prtCfg s p) 12 10
def wCtx (s : State) (p : Nat) : Nat := fld (prtCtx s p) 35 22
def pCtx (s : State) (p : Nat) : Nat := fld (prtCtx s p) 21 8
def prtFollows (s : State) (p : Nat) : Bool := bit (prtLink s p) 11

/-- Enabled pairs. -/
def livePairs (s : State) : List Nat :=
  (s.cw.filter fun e => ctlClass e.1 == clsPair && ctlIdx e.1 % 128 == 0 && bit e.2 35).map fun e =>
    ctlNum e.1 * 32 + ctlIdx e.1 / 128

/-- The serving cluster: the one that holds P_CTX (R274). -/
def prtCluster (s : State) (p : Nat) : Nat := clusterOf (ctxUnit s (pCtx s p))

/-! ### Timers (R290, Table 1-7) -/

/-- Timers a pair holds. -/
def prtTimers (k : Pair) : Nat := b2n k.hoW + b2n k.hoP + b2n k.wtr

/-- Timers of a cluster that resize controllers hold. -/
def resizeTimers (s : State) (c : Nat) : Nat :=
  (s.rsz.filter fun e => e.2.timer && clusterOf (cwFld s (ctlAddr clsDeck (e.1 / 32) (0x100 + 4 * (e.1 % 32))) 31 26) == c).length

/-- Free timers of a cluster. -/
def freeTimers (s : State) (c : Nat) : Nat :=
  256 - resizeTimers s c - (s.pairs.foldl (fun n e => if prtCluster s e.1 = c then n + prtTimers e.2 else n) 0)

/-- A PROT_EVT record (Table 8-11). -/
def protEvt (p event : Nat) (s : State) : State :=
  dueRecord (prtQueue s p) 0x17 [mkWord [(25, p), (21, event)], s.tick] s

/-- A timer that a pair could not obtain is counted in the pair and in its cluster. -/
def countNoTimer (p : Nat) (s : State) : State :=
  let k := prtGet s p
  cwCount (ctlAddr clsProt (prtCluster s p) 1) 1 (prtPut p { k with noTimer := Nat.min (k.noTimer + 1) 0x3FFFF } s)

/-- Release every timer of a pair and end its wait. -/
def prtRelease (k : Pair) : Pair := { k with hoW := false, hoP := false, wtr := false, wtrUs := 0, wtrExp := false, waits := false }

/-- A pair whose selector entry has become valid starts afresh (R294). -/
def prtRestart (p : Nat) (s : State) : State :=
  prtPut p { prtRelease (prtGet s p) with gov := 0, govSig := false, govFar := false, fopPm := false, fopNr := false } s

/-- A pair that stops releases its timers (R294). -/
def prtStop (p : Nat) (s : State) : State := prtPut p (prtRelease (prtGet s p)) s

/-! ### Hold-off follows the paths (R282) -/

/-- Both TSF and TSD of a context have cleared: the next onset starts a new hold-off. -/
def prtClear (id : Nat) (s : State) : State :=
  (livePairs s).foldl (fun s p =>
    let k := prtGet s p
    let k := if wCtx s p = id then { k with doneW := false } else k
    prtPut p (if pCtx s p = id then { k with doneP := false } else k) s) s

/-- TSF or TSD stands on a context: with HOLDOFF 0 no hold-off runs for this onset. -/
def prtOnset (id : Nat) (s : State) : State :=
  (livePairs s).foldl (fun s p =>
    if prtHoldoff s p = 0 then
      let k := prtGet s p
      let k := if wCtx s p = id && !k.hoW then { k with doneW := true } else k
      prtPut p (if pCtx s p = id && !k.hoP then { k with doneP := true } else k) s
    else s) s

end Sys2Proof.Machine
end

