-- ==== Sys2Proof/Machine/Monitor.lean ====
section
/-! DEFINITION. Monitoring contexts: overhead buffers, filter cells, defects and their derivation (spec 04 R122 to R130,
R139 to R151). -/

namespace Sys2Proof.Machine

def monGet (s : State) (id : Nat) : Mon := tabGet {} s.mons id
def monPut (id : Nat) (m : Mon) (s : State) : State := s.putMons (tabSet {} s.mons id m)

/-! ### Set-up as sampled (Tables 4-1 to 4-5) -/

/-- LAYER of a monitoring context; 0 where it monitors nothing (R122, R124). -/
def monLayer (m : Mon) : Nat :=
  let l := fld m.w8 35 31
  if m.bad || fld m.w8 30 29 ≥ 2 || l > 0x0E then 0 else l

/-- MODE is TERMINATE. -/
def terminates (m : Mon) : Bool := monLayer m != 0 && fld m.w8 30 29 == 0
def monServer (m : Mon) : Nat := fld m.w11 35 22
def timAct (m : Mon) : Bool := bit m.w8 28

/-- The stream whose FRM_CFG.CTX is a context. -/
def streamOfCtx (s : State) (id : Nat) : Option (Nat × Nat) :=
  (liveStreams s).find? fun p => fld (frmCfg s p.1 p.2) 27 14 == id

/-- The stream at the root of a context's chain of servers; the first argument bounds the chain. -/
def rootStream : Nat → State → Nat → Option (Nat × Nat)
  | 0, _, _ => none
  | d + 1, s, id =>
    match streamOfCtx s id with
    | some p => some p
    | none => if monServer (monGet s id) = id then none else rootStream d s (monServer (monGet s id))

/-- Longest chain of servers: six tandem connections, an ODU and its OTU, and nested lower-order streams. -/
def serverDepth : Nat := 16

/-- The line runs SONET: bit 28 of the FRM_CFG of its stream. -/
def isSonet (s : State) (id : Nat) : Bool :=
  match rootStream serverDepth s id with
  | some p => bit (frmCfg s p.1 p.2) 28
  | none => false

/-! ### Overhead buffers (R126 to R130, Tables 4-6 to 4-8) -/

def ohKey (id field word : Nat) : Nat := (id * 64 + field) * 64 + word
def ohWord (s : State) (id field word : Nat) : Word := tabGet 0 s.oh (ohKey id field word)
def ohSet (id field word : Nat) (v : Word) (s : State) : State := s.putOh (tabSet 0 s.oh (ohKey id field word) v)

/-- A word is program-written in a layer (Tables 4-6 to 4-8). -/
def ohProgram (layer field word : Nat) : Bool :=
  let otn := decide (1 ≤ layer) && decide (layer ≤ 9)
  match field with
  | 0x01 => otn && decide (32 ≤ word) && decide (word ≤ 55)
  | 0x06 => otn && decide (layer ≤ 3) && word == 1
  | 0x07 => otn && decide (3 ≤ layer) && word == 1
  | 0x09 => layer == 3
  | 0x0A => otn && decide (3 ≤ layer) && word == 1
  | 0x0B => layer == 3 && word == 1
  | 0x0F => layer == 2 && (word == 2 || word == 3)
  | 0x10 => layer == 0xA && decide (32 ≤ word)
  | 0x12 => layer == 0xA && word == 1
  | 0x13 => layer == 0xA && word == 1
  | 0x15 => layer == 0xB && word == 1
  | 0x16 => layer == 0xB && decide (3 ≤ word) && decide (word ≤ 5)
  | 0x17 => layer == 0xB && word == 1
  | 0x19 => layer == 0xB && word == 1
  | 0x1A => layer == 0xC && decide (32 ≤ word)
  | 0x1E => layer == 0xC && word == 1
  | 0x20 => layer == 0xC && word == 1
  | 0x22 => (layer == 0xC || layer == 3) && word == 9
  | 0x2A => layer == 0xE && decide (4 ≤ word) && decide (word ≤ 7)
  | 0x3F => word == 0
  | _ => false

/-- A word is hardware-written in a layer (Tables 4-6 to 4-8). -/
def ohHardware (layer field word : Nat) : Bool :=
  let otn := decide (1 ≤ layer) && decide (layer ≤ 9)
  match field with
  | 0x01 => otn && decide (word ≤ 31)
  | 0x02 => otn && decide (word ≤ 1)
  | 0x03 => otn && word == 0
  | 0x04 => otn && word == 0
  | 0x05 => otn && word == 0
  | 0x06 => otn && decide (layer ≤ 3) && word == 0
  | 0x07 => otn && decide (3 ≤ layer) && word == 0
  | 0x08 => layer == 3
  | 0x0A => otn && decide (3 ≤ layer) && word == 0
  | 0x0B => layer == 3 && word == 0
  | 0x0C => otn && decide (layer ≤ 3) && decide (word ≤ 1)
  | 0x0D => layer == 3
  | 0x0E => layer == 3 && word == 0
  | 0x0F => layer == 2 && decide (word ≤ 1)
  | 0x10 => layer == 0xA && decide (word ≤ 31)
  | 0x11 => layer == 0xA && decide (word ≤ 1)
  | 0x12 => layer == 0xA && word == 0
  | 0x13 => layer == 0xA && word == 0
  | 0x14 => layer == 0xB && word == 0
  | 0x15 => layer == 0xB && word == 0
  | 0x16 => layer == 0xB && decide (word ≤ 2)
  | 0x17 => layer == 0xB && word == 0
  | 0x18 => layer == 0xB && word == 0
  | 0x19 => layer == 0xB && word == 0
  | 0x1A => layer == 0xC && decide (word ≤ 31)
  | 0x1B => layer == 0xC && decide (word ≤ 1)
  | 0x1C => layer == 0xC && word == 0
  | 0x1D => layer == 0xC && word == 0
  | 0x1E => layer == 0xC && word == 0
  | 0x1F => layer == 0xC && word == 0
  | 0x20 => layer == 0xC && word == 0
  | 0x21 => layer == 0xC && word == 0
  | 0x22 => (layer == 0xC || layer == 3) && decide (word ≤ 8)
  | 0x28 => layer == 0xD && word == 0
  | 0x29 => layer == 0xE && decide (word ≤ 7)
  | 0x2A => layer == 0xE && decide (word ≤ 3)
  | _ => false

/-- The field that carries a layer's trail trace: TTI, J0 or J1. -/
def traceField (layer : Nat) : Option Nat :=
  if 1 ≤ layer && layer ≤ 9 then some 0x01 else if layer = 0xA then some 0x10 else if layer = 0xC then some 0x1A else none

/-! ### Filter cells (R139 to R146) -/

def cellKey (c n : Nat) : Nat := c * 2048 + n
def cellGet (s : State) (k : Nat) : Cell := tabGet {} s.cells k
def cellPut (k : Nat) (c : Cell) (s : State) : State := s.putCells (tabSet {} s.cells k c)
def cellAddr (c n w : Nat) : Nat := ctlAddr clsOh (4 * c + n / 512) (4 * (n % 512) + w)
def cellCfg (s : State) (k : Nat) : Word := cwGet s (cellAddr (k / 2048) (k % 2048) 0)
def cellCtx (w : Word) : Nat := fld w 28 15

/-- N of a cell: the default of its field where it is 0 (R141). -/
def cellN (w : Word) : Nat :=
  match fld w 32 29 with
  | 0 => match fld w 14 9 with
    | 0x17 => 8
    | 0x1C => 5
    | _ => 3
  | n => n

/-- Enabled cells that watch a context. -/
def cellsOfCtx (s : State) (id : Nat) : List Nat :=
  ((s.cw.filter fun e => ctlClass e.1 == clsOh && ctlIdx e.1 < 0x800 && ctlIdx e.1 % 4 == 0 && bit e.2 35 &&
      cellCtx e.2 == id).map fun e => cellKey (ctlNum e.1 / 4) (ctlNum e.1 % 4 * 512 + ctlIdx e.1 / 4))

/-- An accepted value of a word of a field of a context, from the first enabled cell that watches it and holds one. -/
def acceptedWord (s : State) (id field word : Nat) : Option Word :=
  ((cellsOfCtx s id).find? fun k =>
    fld (cellCfg s k) 34 33 == 0 && fld (cellCfg s k) 14 9 == field && fld (cellCfg s k) 8 3 == word &&
      (cellGet s k).valid).map fun k => (cellGet s k).acc

/-- RUN of every cell of a context reset (R144). -/
def resetRuns (id : Nat) (s : State) : State :=
  (cellsOfCtx s id).foldl (fun s k => cellPut k { cellGet s k with run := 0 } s) s

/-- RUN of every cell under a stream reset while it is OOF (R144). -/
def resetRunsUnder (u n : Nat) (s : State) : State :=
  s.cells.foldl (fun s e =>
    if rootStream serverDepth s (cellCtx (cellCfg s e.1)) = some (u, n) then cellPut e.1 { cellGet s e.1 with run := 0 } s
    else s) s

/-! ### Defects (R147 to R151, Tables 4-16 to 4-18) -/

namespace Df
def los : Nat := 35
def lof : Nat := 34
def lom : Nat := 33
def lol : Nat := 32
def ais : Nat := 31
def oci : Nat := 30
def lck : Nat := 29
def ltc : Nat := 28
def bdi : Nat := 27
def tim : Nat := 26
def plm : Nat := 25
def uneq : Nat := 24
def msim : Nat := 23
def loomfi : Nat := 22
def iae : Nat := 21
def biae : Nat := 20
def lop : Nat := 19
def gidm : Nat := 18
def pidm : Nat := 17
def lf : Nat := 16
def rf : Nat := 15
def rpf : Nat := 14
def apsi : Nat := 13
def ssf : Nat := 12
def deg : Nat := 11
def exc : Nat := 10
def tsf : Nat := 9
def tsd : Nat := 8
end Df

/-- A mask with bit i set to a value. -/
def maskSet (m i : Nat) (v : Bool) : Nat := if m.testBit i = v then m else if v then m + 2 ^ i else m - 2 ^ i

def maskOf (bs : List Nat) : Nat := bs.foldl (fun m i => maskSet m i true) 0

def defOn (m : Mon) (d : Nat) : Bool := m.defs.testBit d

/-- DEF.SET and DEF.CLR may write a bit (R148). -/
def defSoftware (d : Nat) : Bool := d == Df.deg || d == Df.exc || decide (d < 8)

/-- Bits that only the loaf writes. -/
def softMask : Nat := 0xCFF

/-- Defects that make TSF in a layer (Table 4-18). -/
def tsfSet (layer : Nat) (tim : Bool) : List Nat :=
  let t := if tim then [Df.tim] else []
  if layer = 1 || layer = 2 then [Df.los, Df.lof, Df.lom, Df.lol, Df.gidm, Df.pidm] ++ t
  else if layer = 3 then [Df.ssf, Df.ais, Df.oci, Df.lck] ++ t
  else if 4 ≤ layer && layer ≤ 9 then [Df.ssf, Df.ais, Df.oci, Df.lck, Df.ltc] ++ t
  else if layer = 0xA then [Df.los, Df.lof] ++ t
  else if layer = 0xB then [Df.ssf, Df.ais, Df.exc]
  else if layer = 0xC then [Df.ssf, Df.ais, Df.lop, Df.uneq] ++ t
  else if layer = 0xD then [Df.los, Df.lof, Df.lf]
  else if layer = 0xE then [Df.los, Df.lof, Df.lom, Df.gidm, Df.pidm]
  else []

/-- The stream whose alignment a context shows: its own, or for a FlexE PHY that of its group. -/
def alignStream (s : State) (id : Nat) (m : Mon) : Option (Nat × Nat) :=
  if monLayer m = 0xE then streamOfCtx s (monServer m) else streamOfCtx s id

/-- The context that monitors the ODU of a stream: its own for an ODU_LO, else the ODU carried in its OTU (R116). -/
def oduOfStream (s : State) (u n : Nat) : Option Nat :=
  let c := frmCfg s u n
  if frmProto c = 6 then some (fld c 27 14)
  else (s.mons.find? fun e => monLayer e.2 == 3 && monServer e.2 == fld c 27 14 && e.1 != fld c 27 14).map (·.1)

/-- SSF of a context (Table 4-16). -/
def ssfNow (s : State) (id : Nat) (m : Mon) : Bool :=
  match streamOfCtx s id with
  | some p =>
    if frmProto (frmCfg s p.1 p.2) = 6 then
      match oduOfStream s (cwFld s (frmAddr p.1 p.2 3) 35 30) (cwFld s (frmAddr p.1 p.2 3) 29 22) with
      | some o =>
        let q := monGet s o
        o != id && (defOn q Df.tsf || defOn q Df.plm || defOn q Df.loomfi || defOn q Df.msim)
      | none => false
    else false
  | none => (monLayer m != 0xE) && monServer m != id && defOn (monGet s (monServer m)) Df.tsf

/-- An enabled cell with DEF_LINK that watches the context is unstable (R143). -/
def apsiNow (s : State) (id : Nat) : Bool :=
  (cellsOfCtx s id).any fun k => bit (cellCfg s k) 1 && (cellGet s k).unstable

/-- The defects of a context with those that follow something else brought up to date (R143, R147, R149); a context that
monitors nothing keeps the bits of the loaf alone. -/
def deriveDefs (s : State) (id : Nat) (m : Mon) : Nat :=
  let l := monLayer m
  if l = 0 then Nat.land m.defs softMask
  else
    let d := match alignStream s id m with
      | some p =>
        let f := tabGet ({} : Framer) s.framers (streamKey p.1 p.2)
        maskSet (maskSet (maskSet (maskSet m.defs Df.los f.los) Df.lof f.lof) Df.lom f.lom) Df.lol f.lol
      | none => maskSet (maskSet (maskSet (maskSet m.defs Df.los false) Df.lof false) Df.lom false) Df.lol false
    let d := maskSet (maskSet d Df.ssf (ssfNow s id m)) Df.apsi (l ≤ 0xB && l ≥ 3 && apsiNow s id)
    let tsf := (tsfSet l (timAct m)).any fun b => d.testBit b
    maskSet (maskSet d Df.tsf tsf) Df.tsd (d.testBit Df.deg && !tsf)

/-- Defects that hold a context's cells (R144). -/
def holdMask : Nat := 0xE80001000

/-- Give a context a new defect mask, with DEF_SEEN and DEF_CHG of the tick. -/
def defsPut (id : Nat) (d : Nat) (s : State) : State :=
  let m := monGet s id
  if m.defs = d then s
  else
    let s := monPut id { m with defs := d, seen := Nat.lor m.seen d, chg := Nat.lor m.chg (Nat.xor m.defs d) } s
    let s := if d.testBit Df.tsf || d.testBit Df.tsd then prtOnset id s else prtClear id s
    if Nat.land d holdMask ≠ 0 then resetRuns id s else s

/-- Bring every context up to date once. -/
def settlePass (s : State) : State := s.mons.foldl (fun s e => defsPut e.1 (deriveDefs s e.1 (monGet s e.1)) s) s

/-- Carry changes from servers to clients until nothing changes. -/
def settleLoop : Nat → State → State
  | 0, s => s
  | n + 1, s =>
    let t := settlePass s
    if t.mons = s.mons then s else settleLoop n t

/-- Bring every defect that follows another up to date. -/
def settleDefs (s : State) : State := settleLoop serverDepth s

/-- Declare or clear a defect of a context. -/
def setDefect (id d : Nat) (v : Bool) (s : State) : State := settleDefs (defsPut id (maskSet (monGet s id).defs d v) s)

/-- Masking order of consequent actions (R151); a defect outside the order is masked by SSF alone. -/
def maskRank (d : Nat) : Option Nat :=
  if d = Df.los then some 0 else if d = Df.lol then some 1 else if d = Df.lof then some 2 else if d = Df.lom then some 3
  else if d = Df.ais || d = Df.oci || d = Df.lck || d = Df.ltc then some 4
  else if d = Df.tim then some 5
  else if d = Df.plm || d = Df.uneq || d = Df.msim || d = Df.loomfi then some 6
  else if d = Df.deg then some 7
  else none

/-- A present defect acts: nothing earlier in the order, and no SSF, masks it (R151). -/
def acts (m : Mon) (d : Nat) : Bool :=
  defOn m d && (d == Df.ssf || (!defOn m Df.ssf &&
    (match maskRank d with
    | some r => !((List.range 36).any fun e => defOn m e && (match maskRank e with | some q => decide (q < r) | none => false))
    | none => true)))

/-- The insertion downstream is due (Table 4-18). -/
def downDue (m : Mon) : Bool :=
  let l := monLayer m
  terminates m && (!(4 ≤ l && l ≤ 9) || bit m.w8 15) &&
    (if l = 0xD then [Df.los, Df.lof, Df.lf].any (acts m)
     else (tsfSet l (timAct m) ++ (if l = 3 then [Df.plm, Df.loomfi, Df.msim] else if l = 0xC then [Df.plm] else [])).any
       (acts m))

/-- The backward indication is due (Table 4-18). -/
def backDue (m : Mon) : Bool :=
  let l := monLayer m
  terminates m && bit m.w8 14 && l != 0xA && (if l = 0xD then defOn m Df.lf else defOn m Df.tsf)

end Sys2Proof.Machine
end

