-- ==== Sys2Proof/Machine/Size.lean ====
section
/-! DEFINITION. What the starter carries, how large its image is, and effects applied or refused (spec 12 R398, R400,
14 R479). -/

namespace Sys2Proof.Machine

/-- The bits of a control word that the starter carries (Table 12-4). -/
def carriedBits (a : Nat) : Nat :=
  let idx := ctlIdx a
  let carried := match ctlClass a with
    | 0x00 => true
    | 0x01 => true
    | 0x02 => true
    | 0x03 => decide (idx < 0x800)
    | 0x04 => true
    | 0x05 => idx == 0 || decide (idx ≥ 0x100)
    | 0x06 => true
    | 0x07 => true
    | 0x09 => decide (ctlNum a ≤ 2)
    | 0x0C => decide (ctlNum a ≥ 1)
    | 0x0D => true
    | 0x14 => true
    | _ => false
  if carried then (wordStore a).getD 0 else 0

/-- A carried word that reset leaves non-zero. -/
def carriedAtReset (a : Nat) : Bool := decide (cwReset a &&& BitVec.ofNat 36 (carriedBits a) ≠ 0)

/-- Runs of at most `most` targets in a rising list, after a run of `len` targets that ends at `last` (R400). -/
def runsAfter (most : Nat) : List Nat → Nat → Nat → Nat
  | [], _, _ => 0
  | k :: t, last, len =>
    if len > 0 && k = last + 1 && len < most then runsAfter most t k (len + 1) else 1 + runsAfter most t k 1

/-- Words that the image of the starter takes for carried words: header and words of each run. -/
def runWordsFor (ks : List Nat) : Nat := ks.length + runsAfter 256 ks 0 0

/-- Size of the image of the package's own starter, in words: header; loaf; words of contexts, deck and selector entries,
pair state, always held; of the rest, the words that are not 0. -/
def starterWords (s : State) : Nat :=
  let loaf := match s.loaf with | some l => 8 * l.lines + ceil256 (8 * l.lines) | none => 0
  let ids := (s.ctxAt.filter fun e => decide (ctxKind s e.1 ≠ 0)).map (·.1)
  let contexts := 128 * ids.length + runsAfter 2 ids 0 0
  let decks := 147456 + 576
  let own := s.cw.filter fun e => decide (carriedBits e.1 ≠ 0)
  let zeroed := (own.filter fun e => carriedAtReset e.1 && decide (e.2 &&& BitVec.ofNat 36 (carriedBits e.1) = 0)).length
  let words := runWordsFor ((own.filter fun e =>
    !carriedAtReset e.1 && decide (e.2 &&& BitVec.ofNat 36 (carriedBits e.1) ≠ 0)).map (·.1))
  let linked := (own.filter fun e => ctlClass e.1 == clsPair && ctlIdx e.1 % 128 == 2 && decide (e.2 ≠ 0)).length
  let buffers := runWordsFor ((s.oh.filter fun e =>
    ohProgram (monLayer (monGet s (e.1 / 4096))) (e.1 / 64 % 64) (e.1 % 64)).map (·.1))
  let held := runWordsFor ((s.ctxAt.filter fun e => decide ((e.2 - 1) / 256 ≠ 0)).map (·.1))
  let runs := s.ports.foldl (fun n e => n + runWordsFor (e.2.txRuns.map (·.1))) 0
  8 + loaf + contexts + decks + (2 * 386 + 12 - 2 * zeroed) + words + (4096 - linked) + 4112 + buffers + held + runs +
    runWordsFor (s.rsz.map (·.1))
where
  /-- Runs of 256 in a row of n targets. -/
  ceil256 (n : Nat) : Nat := (n + 255) / 256

/-- 12 MiB of 36-bit words. -/
def starterLimit : Nat := 2796202

/-- An effect makes the image of the starter larger than 12 MiB (R32, R400). -/
def overgrows (s t : State) : Bool := decide (starterWords t > starterLimit) && decide (starterWords t > starterWords s)

/-- Apply an effect, or report why it was refused; LIMIT_STARTER where the starter would outgrow its limit (R400). -/
def settle (o : Origin) (k : RefKind) (addr : Nat) (s : State) (r : Applied) : State :=
  match r with
  | .ok t => if overgrows s t then refuse o St.limitStarter k addr s else t
  | .error st => refuse o st k addr s

end Sys2Proof.Machine
end

