-- ==== Sys2Proof/Machine/Align.lean ====
section
/-! DEFINITION. The alignment state of streams: trackers, out-of-frame holds, restarts (spec 03 R95 to R103, R110 to
R116, R119). -/

namespace Sys2Proof.Machine

def framerGet (s : State) (k : Nat) : Framer := tabGet {} s.framers k
def framerPut (k : Nat) (f : Framer) (s : State) : State := s.putFramers (tabSet {} s.framers k f)
def trackerKey (u n m : Nat) : Nat := streamKey u n * 64 + m
def trackerGet (s : State) (k : Nat) : Tracker := tabGet {} s.trackers k
def trackerPut (k : Nat) (t : Tracker) (s : State) : State := s.putTrackers (tabSet {} s.trackers k t)

/-- Set a bit of FRM_EVT (Table 3-13). -/
def frmEvent (k b : Nat) (s : State) : State :=
  framerPut k { framerGet s k with events := Nat.lor (framerGet s k).events (2 ^ b) } s

/-- A threshold field, or its default where it is 0 (R106). -/
def thrField (s : State) (u n hi lo d : Nat) : Nat :=
  match cwFld s (frmAddr u n 4) hi lo with
  | 0 => d
  | v => v

/-- OOF_N (Table 3-5): 4 for SONET, else 5. -/
def oofN (s : State) (u n : Nat) : Nat :=
  thrField s u n 35 32 (if frmProto (frmCfg s u n) = 3 && bit (frmCfg s u n) 28 then 4 else 5)
def ifN (s : State) (u n : Nat) : Nat := thrField s u n 31 28 2
/-- OOM_N (Table 3-5): 2 for FlexE, else 5. -/
def oomN (s : State) (u n : Nat) : Nat := thrField s u n 27 24 (if frmProto (frmCfg s u n) = 5 then 2 else 5)
def imN (s : State) (u n : Nat) : Nat := thrField s u n 23 20 2

/-- The trackers of the lane layer of a stream: logical lanes, FOIC lanes or PHYs (R110, R111, R115). -/
def laneMembers (s : State) (u n : Nat) : List Nat :=
  let c := frmCfg s u n
  let cnt := (lanesOf (frmLanes s u n)).length
  match frmProto c with
  | 1 => List.range 20
  | 2 => List.range cnt
  | 5 =>
    match commonRate s (fld c 30 30) (lanesOf (frmLanes s u n)) with
    | some r => List.range (cnt / Nat.max 1 (phyLanes (cwFld s (frmAddr u n 3) 29 28) r))
    | none => []
  | _ => []

/-- The trackers of the frame layer: the OTUC slices, or the one layer of a SONET/SDH or ODU_LO stream. -/
def frameMembers (s : State) (u n : Nat) : List Nat :=
  match frmProto (frmCfg s u n) with
  | 2 => (List.range (cwFld s (frmAddr u n 3) 35 30 + 1)).map (· + 32)
  | 3 => [0]
  | 6 => [0]
  | _ => []

/-- The tracker of the stream's own frame layer whose candidate gives the multiframe process its value (R100, R112). -/
def mfMember (s : State) (u n : Nat) : Option Nat :=
  match frmProto (frmCfg s u n) with
  | 2 => some 32
  | 3 => some 0
  | 6 => some 0
  | _ => none

def allInFrame (s : State) (u n : Nat) (ms : List Nat) : Bool := ms.all fun m => (trackerGet s (trackerKey u n m)).inFrame

/-- Every member lane is READY with CDR lock (R103); for an ODU_LO stream, the parent is in frame and the tributary is
demapped (R116). -/
def lanesReady (s : State) (u n : Nat) : Bool :=
  let c := frmCfg s u n
  domRuns s (clusterOf u) && if frmProto c = 6 then
    let g := cwGet s (frmAddr u n 3)
    let pu := fld g 35 30
    let pn := fld g 29 22
    frmLive (frmCfg s pu pn) && !(framerGet s (streamKey pu pn)).oof && tributaryUp s pu pn (fld g 21 13)
  else
    domRuns s (24 + regionOf u) && (lanesOf (frmLanes s u n)).all fun l =>
      let v := laneGet s (laneKey (fld c 30 30) l)
      v.st == .ready && v.cdrLock

/-- The stream is aligned (R110 to R116). -/
def streamUp (s : State) (u n : Nat) : Bool :=
  let c := frmCfg s u n
  let f := framerGet s (streamKey u n)
  frmLive c && !f.lanesDown && !f.lol && lanesReady s u n &&
    (match frmProto c with
    | 4 => bitsOf f.aligned 0 0 == 1
    | 5 => (laneMembers s u n).all (fun m => f.aligned.testBit m) && allInFrame s u n (laneMembers s u n)
    | _ => allInFrame s u n (laneMembers s u n) && allInFrame s u n (frameMembers s u n))

/-- The tracker that FRM_STAT reports (R110, Table 3-12): for an OTU4, the logical lane identified as lane 0. -/
def reportMember (s : State) (u n : Nat) : Option Nat :=
  match frmProto (frmCfg s u n) with
  | 1 => (List.range 20).find? fun m =>
      (trackerGet s (trackerKey u n m)).inFrame && (trackerGet s (trackerKey u n m)).mf % 20 == 0
  | 2 => some 32
  | 3 => some 0
  | 5 => some 0
  | 6 => some 0
  | _ => none

/-- Open candidates of a tracker, slot 0 included. -/
def candCount (t : Tracker) : Nat := t.cands.length + b2n t.inFrame

/-- Confirmed candidates of a tracker (R100). -/
def confirmed (s : State) (u n : Nat) (t : Tracker) : List Cand := t.cands.filter fun c => decide (c.run ≥ ifN s u n)

/-- Bring what FRM_STAT shows of a stream up to date with its trackers, and its OOF state with its alignment: on a
change to in frame IF_ENT is set and the multiframe process enters IM (R100); every lower-order stream under it follows
(R116). The first argument bounds the depth of nesting. -/
def refreshStream : Nat → Nat → Nat → State → State
  | 0, _, _, s => s
  | d + 1, u, n, s =>
    let k := streamKey u n
    let f := framerGet s k
    let rep := (reportMember s u n).map fun m => trackerGet s (trackerKey u n m)
    let f := { f with
      ncand := (match rep with | some t => candCount t | none => 0),
      ambig := (match rep with | some t => !t.inFrame && decide ((confirmed s u n t).length ≥ 2) | none => false) }
    let up := streamUp s u n
    if up && f.oof then
      let mf := (mfMember s u n).map fun m => (trackerGet s (trackerKey u n m)).mf
      let im := frmProto (frmCfg s u n) != 5
      let f := { f with oof := false, oom := if im then false else f.oom, mf := if im then mf else f.mf, errMf := 0,
                        goodMf := 0 }
      let s := frmEvent k 34 (framerPut k f s)
      (childStreams s u n).foldl (fun s c =>
        let kc := streamKey c.1 c.2
        let s := framerPut kc { framerGet s kc with lanesDown := !lanesReady s c.1 c.2 } s
        refreshStream d c.1 c.2 s) s
    else if !up && !f.oof then
      let s := resetRunsUnder u n (framerPut k { f with oof := true } s)
      (childStreams s u n).foldl (fun s c =>
        let kc := streamKey c.1 c.2
        let s := s.putTrackers (s.trackers.filter fun e => decide (e.1 / 64 ≠ kc))
        let s := framerPut kc { framerGet s kc with lanesDown := true } s
        refreshStream d c.1 c.2 s) s
    else framerPut k f s

/-- Depth of nested lower-order streams that a change is carried through. -/
def oduDepth : Nat := 8

/-- Close every candidate of a stream, slot 0 included (R103). -/
def closeAll (u n : Nat) (s : State) : State :=
  s.putTrackers (s.trackers.filter fun e => decide (e.1 / 64 ≠ streamKey u n))

/-- Close every candidate of the frame layer of a stream. -/
def closeFrameLayer (u n : Nat) (s : State) : State :=
  s.putTrackers (s.trackers.filter fun e => decide (e.1 / 64 ≠ streamKey u n) || decide (e.1 % 64 < 32))

/-- Hold a stream in OOF while a member lane is not READY, or its parent does not deliver it (R103, R116). -/
def holdStream (u n : Nat) (s : State) : State :=
  let k := streamKey u n
  let s := closeAll u n s
  refreshStream oduDepth u n (framerPut k { framerGet s k with lanesDown := true } s)

/-- End the hold of a stream whose lanes are all READY again. -/
def releaseStream (u n : Nat) (s : State) : State :=
  let k := streamKey u n
  refreshStream oduDepth u n (framerPut k { framerGet s k with lanesDown := !lanesReady s u n } s)

/-- A lane has left READY or lost CDR lock: every stream that names it is held (R103). -/
def laneLeft (side lane : Nat) (s : State) : State :=
  (streamsOfLane s side lane).foldl (fun s p => holdStream p.1 p.2 s) s

/-- Alignment restarts (R95, R120): candidates closed, OOF, OOM, LOF, LOM and LOL cleared, RESTART set, CEN20 to CEN23
counted; counts are kept. -/
def restartStream (u n : Nat) (s : State) : State :=
  let k := streamKey u n
  let s := closeAll u n s
  let f := framerGet s k
  let s := framerPut k { f with oof := false, oom := true, lof := false, lom := false, lol := false, mf := none, errMf := 0,
                                goodMf := 0, laneLof := 0, aligned := 0, laneLock := 0,
                                lanesDown := !lanesReady s u n } s
  cenInc (20 + regionOf u) (settleDefs (frmEvent k 23 (refreshStream oduDepth u n s)))

end Sys2Proof.Machine
end

