-- ==== Sys2Proof/Machine/Lanes.lean ====
section
/-! DEFINITION. Line and system lanes, equalisers, test patterns and SerDes references (spec 02 R56 to R89). -/

namespace Sys2Proof.Machine

/-! ### Equaliser sets (R62, R72 to R77, Table 2-11) -/

/-- A 9-bit field as a signed number. -/
def signed9 (v : Nat) : Int := if v < 256 then (v : Int) else (v : Int) - 512

/-- The low bits of the fields that a set offset has. -/
def eqFields (off : Nat) : List Nat := if off = 0 then [0, 9] else if off = 6 then [0, 9, 18] else [0, 9, 18, 27]

/-- A field value in its valid range (R77, Table 2-11). -/
def eqFieldOk (off lo v : Nat) : Bool :=
  if off = 0 then (if lo = 0 then decide (v ≤ 31) else decide (v ≤ 15)) else decide (v ≤ 127) || decide (v ≥ 385)

/-- Every field of a set word is in its valid range. -/
def eqWordOk (off : Nat) (w : Word) : Bool := (eqFields off).all fun lo => eqFieldOk off lo (fld w (lo + 8) lo)

/-- A device default brought into the valid range (R62). -/
def eqLegal (off : Nat) (w : Word) : Word :=
  mkWord ((eqFields off).map fun lo => (lo, if eqFieldOk off lo (fld w (lo + 8) lo) then fld w (lo + 8) lo else 0))

/-- Order of two field values: unsigned for the CTLE codes, two's complement otherwise. -/
def eqLess (off a b : Nat) : Bool := if off = 0 then decide (a < b) else decide (signed9 a < signed9 b)

/-- One value held between its bounds; LO rules where LO is above HI (R74). -/
def boundField (off v lo hi : Nat) : Nat :=
  if eqLess off hi lo then lo else if eqLess off v lo then lo else if eqLess off hi v then hi else v

/-- A set word held between the words of LANE_EQ_LO and LANE_EQ_HI. -/
def boundWord (off : Nat) (v lo hi : Word) : Word :=
  mkWord ((eqFields off).map fun k => (k, boundField off (fld v (k + 8) k) (fld lo (k + 8) k) (fld hi (k + 8) k)))

/-- The loop that a set offset belongs to. -/
def loopOfOffset (off : Nat) : EqLoop :=
  if off = 0 then .ctle else if off ≤ 2 then .ffe else if off ≤ 5 then .dfe else .thr

def loopCode : EqLoop → Nat
  | .ctle => 0
  | .ffe => 1
  | .dfe => 2
  | .thr => 3

/-- Mode field of a loop in LANE_EQ_CTRL: 0 ADAPT, 1 BOUND, 2 FREEZE, 3 PRESET (R72). -/
def loopMode (ctrl : Word) (l : EqLoop) : Nat := fld ctrl (35 - 2 * loopCode l) (34 - 2 * loopCode l)

def eqPreset (s : State) (side lane off : Nat) : Word := cwGet s (laneAddr side lane (0x20 + off))
def eqLo (s : State) (side lane off : Nat) : Word := cwGet s (laneAddr side lane (0x28 + off))
def eqHi (s : State) (side lane off : Nat) : Word := cwGet s (laneAddr side lane (0x30 + off))

/-- The value a loop takes for a set offset when its fence lets it move to a value (R72 to R74). -/
def fenced (s : State) (side lane off : Nat) (held moved : Word) : Word :=
  match loopMode (cwGet s (laneAddr side lane 0x10)) (loopOfOffset off) with
  | 0 => moved
  | 1 => boundWord off moved (eqLo s side lane off) (eqHi s side lane off)
  | _ => held

/-- Put a set word of a lane. -/
def eqPut (side lane off : Nat) (v : Word) (s : State) : State :=
  let l := laneGet s (laneKey side lane)
  lanePut (laneKey side lane) { l with eq := tabSet 0 l.eq off v } s

/-- Load the initial equaliser values of a rate (R62): the presets of a loop in PRESET, else the device defaults, held
between their bounds in BOUND. -/
def loadEq (side lane rate : Nat) (s : State) : State :=
  (List.range 7).foldl (fun s off =>
    let d := eqLegal off (Config.eqDefault rate off)
    let m := loopMode (cwGet s (laneAddr side lane 0x10)) (loopOfOffset off)
    eqPut side lane off
      (if m = 3 then eqPreset s side lane off
       else if m = 1 then boundWord off d (eqLo s side lane off) (eqHi s side lane off) else d) s) s

/-- Let adaptation move the loops of a lane to new values, as their fences allow. -/
def adaptEq (side lane : Nat) (vs : List Word) (s : State) : State :=
  (List.range 7).foldl (fun s off =>
    let held := tabGet 0 (laneGet s (laneKey side lane)).eq off
    match vs[off]? with
    | some v => eqPut side lane off (fenced s side lane off held v) s
    | none => s) s

/-! ### Flexible synthesisers (R61, R504, R505, Table 1-7 row 6) -/

def flexGet (s : State) (r k : Nat) : FlexHolder := tabGet .free s.flex (r * 2 + k)
def flexPut (r k : Nat) (h : FlexHolder) (s : State) : State := s.putFlex (tabSet .free s.flex (r * 2 + k) h)
def recGet (s : State) (n : Nat) : RecClk := tabGet {} s.recClk n
def recPut (n : Nat) (c : RecClk) (s : State) : State := s.putRecClk (tabSet {} s.recClk n c)
def recCfgAddr (n : Nat) : Nat := ctlAddr clsClk 0 (0x10 + n)

/-- A CLK_EVT record is due in the commit window (R507). -/
def clkEvt (event source : Nat) (s : State) : State :=
  dueRecord (cwFld s (ctlAddr clsClk 0 0) 18 16) 0x20 [mkWord [(32, event), (30, source)], s.tick] s

/-- The region of a recovered-clock output: that of the lane it names. -/
def recRegion (s : State) (n : Nat) : Nat := cwFld s (recCfgAddr n) 32 27 / 16

/-- The first synthesiser of a region that a test accepts. -/
def flexFind (s : State) (r : Nat) (p : FlexHolder → Bool) : Option Nat :=
  if p (flexGet s r 0) then some 0 else if p (flexGet s r 1) then some 1 else none

def isRec : FlexHolder → Bool
  | .recClk _ => true
  | _ => false

/-- A quad takes a synthesiser of its region: a free one, or one from a recovered-clock output, which is then held low
and flagged lost until a synthesiser is free (Table 1-7). -/
def takeFlex (side q : Nat) (s : State) : State :=
  let r := q / 4
  if (flexFind s r (· == .quad side q)).isSome then s
  else
    match flexFind s r (· == .free) with
    | some k => flexPut r k (.quad side q) s
    | none =>
      match flexFind s r isRec with
      | some k =>
        let s := match flexGet s r k with
          | .recClk n => clkEvt 7 (2 + n) (recPut n { recGet s n with on := false, lost := true } s)
          | _ => s
        record0 0x07 srcHardware (mkWord [(32, 6), (0, r)]) (flexPut r k (.quad side q) s)
      | none => s

/-- A synthesiser freed goes to a recovered-clock output of the region that was lost, if there is one. -/
def freeFlex (r k : Nat) (s : State) : State :=
  let s := flexPut r k .free s
  match [0, 1].find? fun n => (recGet s n).lost && recRegion s n == r with
  | some n => clkEvt 8 (2 + n) (flexPut r k (.recClk n) (recPut n { recGet s n with on := true, lost := false } s))
  | none => s

/-- The quad holds a flexible synthesiser. -/
def quadFlex (s : State) (side q : Nat) : Option Nat := flexFind s (q / 4) (· == .quad side q)

/-! ### Quads (R57 to R60) -/

def quadGet (s : State) (side q : Nat) : Quad := tabGet {} s.quads (side * 16 + q)
def quadPut (side q : Nat) (v : Quad) (s : State) : State := s.putQuads (tabSet {} s.quads (side * 16 + q) v)

/-- The set-up words of the enabled lanes of a quad, lowest lane first. -/
def quadLanes (s : State) (side q : Nat) : List Word :=
  ((List.range 4).map fun i => laneCfg s side (4 * q + i)).filter fun w => bit w 35

/-- One value for every element of a list. -/
def allSame (l : List Nat) : Bool := match l with | [] => true | a :: t => t.all (· == a)

/-- The status that refuses the LANE_CFG writes to a quad, 0 where the set-up is sound (R57 to R59). -/
def quadStatus (s : State) (side q : Nat) : Nat :=
  let ws := quadLanes s side q
  if !allSame (ws.map fun w => rateFamily (laneRate w)) then St.quadFamily
  else if !allSame ((ws.filter fun w => !bit w 30).map fun w => rateBaud (laneRate w)) ||
          !allSame ((ws.filter fun w => bit w 30).map fun w => rateBaud (laneRate w)) then St.quadPll
  else 0

/-- The value that a LANE_CFG write stores: reserved bits 0, IDLE_STANDBY 0 on the line side. -/
def laneCfgValue (side : Nat) (v : Word) : Word := v &&& BitVec.ofNat 36 (if side = 0 then 0xFFF000000 else 0xFFF800000)

/-- The SerDes domain of a lane (Table 16-1). -/
def laneDom (side lane : Nat) : Nat := 16 + 4 * side + lane / 16

/-- A lane whose domain stands below L0: held and powered down in L1 and L2, off in L3 (R63, Table 16-2). -/
def downLane (st : Nat) (l : Lane) : Lane :=
  { l with st := (if st ≥ 3 then .off else .hold), sigDet := false, cdrLock := false, onFlex := false, train := 0 }

/-- Start the bring-up of a lane (R61), which takes it out of READY: a family change takes a flexible synthesiser while the bank calibrates; the
lanes at the baud of the lowest-numbered enabled lane come up on it. -/
def startLane (plan : State) (side lane : Nat) (s : State) : State :=
  let q := lane / 4
  let w := laneCfg s side lane
  let fam := rateFamily (laneRate w)
  let l := laneGet s (laneKey side lane)
  if !domRuns s (laneDom side lane) then
    laneLeft side lane (lanePut (laneKey side lane) (downLane (domGet s (laneDom side lane)).st l) s)
  else
    let quad := quadGet s side q
    let s := if quad.family = fam then s else takeFlex side q (quadPut side q { family := fam, calibrating := true } s)
    let first := match quadLanes plan side q with | [] => 0 | v :: _ => rateBaud (laneRate v)
    let onFlex := (quadGet s side q).calibrating && (quadFlex s side q).isSome && rateBaud (laneRate w) == first
    laneLeft side lane (lanePut (laneKey side lane)
      { l with st := .pllWait, cdrLock := false, onFlex := onFlex, train := if bit w 25 then 1 else 0 } s)

/-- Stop a lane. -/
def stopLane (side lane : Nat) (s : State) : State :=
  let l := laneGet s (laneKey side lane)
  laneLeft side lane
    (lanePut (laneKey side lane) { l with st := .off, sigDet := false, cdrLock := false, onFlex := false, train := 0 } s)

/-- Apply one LANE_CFG write against the set-up that all writes of its window give (R59, R61, R62, R79). -/
def applyLaneCfg (plan : State) (side lane : Nat) (v : Word) (s : State) : Applied :=
  let st := quadStatus plan side (lane / 4)
  if laneRate v > 0xC then .error St.cfgRange
  else if st ≠ 0 then .error st
  else
    let old := laneCfg s side lane
    let new := laneCfgValue side v
    let s := cwSet (laneAddr side lane 0) new s
    let s := if laneRate old = laneRate new then s else loadEq side lane (laneRate new) s
    let k := laneKey side lane
    if !bit new 35 then .ok (stopLane side lane s)
    else if !bit old 35 || laneRate old ≠ laneRate new || fld old 30 30 ≠ fld new 30 30 then
      .ok (startLane plan side lane s)
    else if bit old 25 = bit new 25 then .ok s
    else .ok (lanePut k { laneGet s k with train := if bit new 25 then 1 else 0 } s)

/-- The set-up of a quad with every write of its window stored. -/
def quadPlan (side q : Nat) (ws : List LaneWrite) (s : State) : State :=
  ws.foldl (fun s w => cwSet (laneAddr side (4 * q + w.lane.val) 0) (laneCfgValue side w.value) s) s

/-- LANE_CFG: the writes of one window to a quad, checked together (R59, R60). -/
def execLaneCfg (side : Side) (quad : Fin 16) (ws : List LaneWrite) (s : State) : Result :=
  let plan := quadPlan (sideNum side) quad.val ws s
  .next (ws.foldl (fun s w =>
    let lane := 4 * quad.val + w.lane.val
    settle w.origin .word (laneAddr (sideNum side) lane 0) s (applyLaneCfg plan (sideNum side) lane w.value s)) s)

/-- VCO_CAL_DONE (R61): lanes on the flexible synthesiser move to QPLL-A, and it is released. -/
def execVcoCalDone (side : Side) (quad : Fin 16) (s : State) : Result :=
  let sd := sideNum side
  let q := quad.val
  let s := quadPut sd q { quadGet s sd q with calibrating := false } s
  let s := (List.range 4).foldl (fun s i =>
    let k := laneKey sd (4 * q + i)
    lanePut k { laneGet s k with onFlex := false } s) s
  .next (match quadFlex s sd q with
    | some f => freeFlex (q / 4) f s
    | none => s)

/-- LANE_PLL_LOCK (R61). -/
def execLanePllLock (l : LaneRef) (s : State) : Result :=
  let k := laneKey (sideNum l.side) l.lane.val
  let v := laneGet s k
  .next (if v.st = .pllWait then lanePut k { v with st := .cdrAcq } s else s)

/-- LANE_CDR_LOCK (R61, R79): adaptation starts, or training while it is asked for. -/
def execLaneCdrLock (l : LaneRef) (s : State) : Result :=
  let k := laneKey (sideNum l.side) l.lane.val
  let v := laneGet s k
  .next (if v.st = .cdrAcq then
    lanePut k { v with st := if v.train = 1 then .training else .adapt, sigDet := true, cdrLock := true } s else s)

/-- LANE_EQ_CTRL (R72 to R74): a loop entering PRESET loads its presets; one in BOUND holds its values between its
bounds; any other resumes from the values held. -/
def applyEqCtrl (side lane : Nat) (v : Word) (s : State) : Applied :=
  let old := cwGet s (laneAddr side lane 0x10)
  let new := v &&& 0xFFFF00000
  let s := cwSet (laneAddr side lane 0x10) new s
  .ok ((List.range 7).foldl (fun s off =>
    let l := loopOfOffset off
    let held := tabGet 0 (laneGet s (laneKey side lane)).eq off
    if loopMode new l = 3 && loopMode old l ≠ 3 then eqPut side lane off (eqPreset s side lane off) s
    else if loopMode new l = 1 then
      eqPut side lane off (boundWord off held (eqLo s side lane off) (eqHi s side lane off)) s
    else s) s)

def execLaneEqCtrl (l : LaneRef) (w : CtlWrite) (s : State) : Result :=
  .next (settle w.origin .word (laneAddr (sideNum l.side) l.lane.val 0x10) s
    (applyEqCtrl (sideNum l.side) l.lane.val w.value s))

/-- A write to a word of LANE_EQ_PRESET, LANE_EQ_LO or LANE_EQ_HI (R77); bounds hold at once. -/
def applyEqSet (side lane w : Nat) (v : Word) (s : State) : Applied :=
  let off := w % 8
  if !eqWordOk off v then .error St.eqRange
  else
    let s := cwSet (laneAddr side lane w)
      (v &&& BitVec.ofNat 36 (if off = 0 then 0x3FFFF else if off = 6 then 0x7FFFFFF else 0xFFFFFFFFF)) s
    let held := tabGet 0 (laneGet s (laneKey side lane)).eq off
    if w ≥ 0x28 && loopMode (cwGet s (laneAddr side lane 0x10)) (loopOfOffset off) = 1 then
      .ok (eqPut side lane off (boundWord off held (eqLo s side lane off) (eqHi s side lane off)) s)
    else .ok s

/-- The taps the transmitter uses. -/
def ffePut (side lane i : Nat) (v : Word) (s : State) : State :=
  let l := laneGet s (laneKey side lane)
  lanePut (laneKey side lane) { l with ffe := tabSet 0 l.ffe i v } s

/-- LANE_TX_FFE (R78). -/
def applyTxFfe (side lane i : Nat) (v : Word) (s : State) : Applied :=
  let t := (laneGet s (laneKey side lane)).train
  if bit (laneCfg s side lane) 25 && (t = 1 || t = 2) then .error St.trainActive
  else
    let v := if i = 0 then v else v &&& 0x3FFFF
    .ok (ffePut side lane i v (cwSet (laneAddr side lane (0x40 + i)) v s))

def execLaneTxFfe (l : LaneRef) (i : Fin 2) (w : CtlWrite) (s : State) : Result :=
  .next (settle w.origin .word (laneAddr (sideNum l.side) l.lane.val (0x40 + i.val)) s
    (applyTxFfe (sideNum l.side) l.lane.val i.val w.value s))

/-- Set an event bit of LANE_EVT (Table 2-8). -/
def laneEvent (side lane b : Nat) (s : State) : State := cwPut (laneAddr side lane 2) b b 1 s

/-- Ticks in a second (R11). -/
def ticksPerSecond : Nat := 8000

/-- Ticks since power-on, wraps included. -/
def tickCount (s : State) : Nat := s.wrap.toNat * 2 ^ 36 + s.tick.toNat

/-- EQ_FENCE_HIT (R75): at most one record per lane and second. -/
def execEqFenceHit (l : LaneRef) (loop : EqLoop) (s : State) : Result :=
  let sd := sideNum l.side
  let k := laneKey sd l.lane.val
  let s := laneEvent sd l.lane.val 34 s
  let v := laneGet s k
  .next (if tickCount s < v.fencedUntil then s
    else record0 0x0A srcHardware (mkWord [(35, sd), (29, l.lane.val), (27, loopCode loop), (19, v.snr)])
      (lanePut k { v with fencedUntil := tickCount s + ticksPerSecond } s))

/-- EQ_MARGIN_LOW (R76): the measured SNR, below EYE_WARN, sets MARGIN_LOW; at most one record per lane and second. -/
def execEqMarginLow (l : LaneRef) (snr : Fin 256) (s : State) : Result :=
  let sd := sideNum l.side
  let k := laneKey sd l.lane.val
  let s := lanePut k { laneGet s k with snr := snr.val } s
  let v := laneGet s k
  .next (if snr.val < cwFld s (laneAddr sd l.lane.val 0x10) 27 20 then
      let s := laneEvent sd l.lane.val 33 s
      if tickCount s < v.marginUntil then s
      else record0 0x0B srcHardware (mkWord [(35, sd), (29, l.lane.val), (19, v.snr)])
        (lanePut k { v with marginUntil := tickCount s + ticksPerSecond } s)
    else s)

/-- The lane takes values for both words of the TX FFE. -/
def ffeLoad (side lane : Nat) (v0 v1 : Word) (s : State) : State := ffePut side lane 1 v1 (ffePut side lane 0 v0 s)

/-- A lane whose training has ended goes on to adapt. -/
def afterTraining (v : Lane) (t : Nat) : Lane := { v with train := t, st := if v.st = .training then .adapt else v.st }

/-- LINK_TRAIN_DONE (R79): training sets the TX FFE. -/
def execLinkTrainDone (l : LaneRef) (ffe0 ffe1 : Word) (s : State) : Result :=
  let sd := sideNum l.side
  let k := laneKey sd l.lane.val
  let v := laneGet s k
  .next (if v.train = 1 then ffeLoad sd l.lane.val ffe0 (ffe1 &&& 0x3FFFF) (lanePut k (afterTraining v 2) s) else s)

/-- LINK_TRAIN_FAIL (R79): the owner's values apply. -/
def execLinkTrainFail (l : LaneRef) (s : State) : Result :=
  let sd := sideNum l.side
  let k := laneKey sd l.lane.val
  let v := laneGet s k
  .next (if v.train = 1 then
      ffeLoad sd l.lane.val (cwGet s (laneAddr sd l.lane.val 0x40)) (cwGet s (laneAddr sd l.lane.val 0x41))
        (laneEvent sd l.lane.val 32 (lanePut k (afterTraining v 3) s))
    else s)

/-! ### Test patterns and loopbacks (R80 to R84) -/

/-- A pattern code that a lane of a rate accepts (R80). -/
def patternOk (rate pat : Nat) : Bool := decide (pat ≤ 5) || (decide (pat ≤ 8) && ratePam4 rate)

/-- Modes in which the owner's test words are honoured (R83). -/
def testMode (m : Mode) : Bool := m == .provision || m == .active || m == .test

/-- The status that refuses setting a test function of a lane, 0 where none does (R82, R83). -/
def testRefusal (s : State) (side lane : Nat) : Nat :=
  if !(streamsOfLane s side lane).isEmpty then St.resConflict
  else if !testMode s.mode then St.modeState
  else 0

/-- LANE_PRBS_CTRL as it reads. -/
def prbsWord (s : State) (side lane : Nat) : Word := cwGet s (laneAddr side lane 0x50)

/-- CHK_EN written 1: LOCK, LOCK_LOST and the counts clear (R81). -/
def startChecker (side lane : Nat) (s : State) : State :=
  let k := laneKey side lane
  lanePut k { laneGet s k with prbsLock := false, prbsLost := false, prbsErr := 0, prbsBits := 0, prbsErrSnap := 0, prbsBitsSnap := 0 } s

/-- Apply a write to LANE_PRBS_CTRL (R80 to R83). -/
def applyPrbsCtrl (side lane : Nat) (v : Word) (s : State) : Applied :=
  let r := laneRate (laneCfg s side lane)
  if !patternOk r (fld v 33 30) || !patternOk r (fld v 29 26) then .error St.eqRange
  else if bit v 35 && testRefusal s side lane ≠ 0 then .error (testRefusal s side lane)
  else
    let s := cwSet (laneAddr side lane 0x50) (v &&& 0xFFE000000) s
    let k := laneKey side lane
    let s := if bit v 34 then startChecker side lane s else lanePut k { laneGet s k with prbsLock := false } s
    .ok (if bit v 24 && bit v 35 then emit (.prbsError side lane) s else s)

/-- PRBS_GEN_EN: GEN_EN set with a pattern (R80, R82, R83). -/
def execPrbsGenEn (o : Origin) (l : LaneRef) (pat : Fin 16) (inv : Bool) (s : State) : Result :=
  let sd := sideNum l.side
  .next (settle o .word (laneAddr sd l.lane.val 0x50) s
    (if !patternOk (laneRate (laneCfg s sd l.lane.val)) pat.val then .error St.eqRange
     else if testRefusal s sd l.lane.val ≠ 0 then .error (testRefusal s sd l.lane.val)
     else .ok (cwSet (laneAddr sd l.lane.val 0x50)
       (putFld (putFld (putFld (prbsWord s sd l.lane.val) 35 35 1) 33 30 pat.val) 25 25 (b2n inv)) s)))

/-- PRBS_CHK_EN: CHK_EN written 1 with a pattern clears the counts and starts checking (R81). -/
def execPrbsChkEn (o : Origin) (l : LaneRef) (pat : Fin 16) (s : State) : Result :=
  let sd := sideNum l.side
  let r := laneRate (laneCfg s sd l.lane.val)
  .next (settle o .word (laneAddr sd l.lane.val 0x50) s
    (if !patternOk r pat.val then .error St.eqRange
     else .ok (startChecker sd l.lane.val
       (cwSet (laneAddr sd l.lane.val 0x50) (putFld (putFld (prbsWord s sd l.lane.val) 34 34 1) 29 26 pat.val) s))))

/-- PRBS_ERR_INJ: one bit of the generator output is inverted (Table 2-13). -/
def execPrbsErrInj (o : Origin) (l : LaneRef) (s : State) : Result :=
  let sd := sideNum l.side
  let v := prbsWord s sd l.lane.val
  .next (settle o .word (laneAddr sd l.lane.val 0x50) s
    (if !patternOk (laneRate (laneCfg s sd l.lane.val)) (fld v 33 30) then .error St.eqRange
     else .ok (if bit v 35 then emit (.prbsError sd l.lane.val) s else s)))

/-- Bits compared and errors found by a locked checker (R81); errors also count in CEN24 to CEN27. -/
def prbsCount (side lane bits errs : Nat) (s : State) : State :=
  let k := laneKey side lane
  let v := laneGet s k
  let s := lanePut k { v with prbsErr := Nat.min (v.prbsErr + errs) 0xFFFFFFFFF, prbsBits := (v.prbsBits + bits) % 2 ^ 72 } s
  if cenStanding 24 || runningMode s.mode then cwCount (ctlAddr clsCen 0 (24 + lane / 16)) errs s else s

/-- PRBS_LOCK (R81): 256 consecutive error-free bits; the bits compared and errors since the last report follow. -/
def execPrbsLock (l : LaneRef) (bits errs : Nat) (s : State) : Result :=
  let sd := sideNum l.side
  let k := laneKey sd l.lane.val
  .next (if bit (prbsWord s sd l.lane.val) 34 then
    prbsCount sd l.lane.val bits errs (lanePut k { laneGet s k with prbsLock := true } s) else s)

/-- PRBS_LOCK_LOSS (R81): more than 256 errored bits in 1,024; the checker reseeds. -/
def execPrbsLockLoss (l : LaneRef) (bits errs : Nat) (s : State) : Result :=
  let sd := sideNum l.side
  let k := laneKey sd l.lane.val
  .next (if (laneGet s k).prbsLock then
    let s := prbsCount sd l.lane.val bits errs s
    lanePut k { laneGet s k with prbsLock := false, prbsLost := true } s else s)

/-- Apply a write to LANE_LPBK (R82, R83). -/
def applyLpbk (side lane : Nat) (v : Word) (s : State) : Applied :=
  let sets := bit v 35 || bit v 34
  if sets && testRefusal s side lane ≠ 0 then .error (testRefusal s side lane)
  else .ok (cwSet (laneAddr side lane 0x58) (v &&& 0xC00000000) s)

/-- LANE_LPBK. -/
def execLaneLpbk (o : Origin) (l : LaneRef) (near far : Bool) (s : State) : Result :=
  .next (settle o .word (laneAddr (sideNum l.side) l.lane.val 0x58) s
    (applyLpbk (sideNum l.side) l.lane.val (mkWord [(35, b2n near), (34, b2n far)]) s))

/-- A lane named by a stream that is enabled loses its test functions, with RES_PREEMPTED row 7 (R82). -/
def preemptTest (side lane : Nat) (s : State) : State :=
  if bit (prbsWord s side lane) 35 || (cwGet s (laneAddr side lane 0x58)).toNat ≠ 0 then
    record0 0x07 srcHardware (mkWord [(32, 7), (0, side * 64 + lane)])
      (cwSet (laneAddr side lane 0x58) 0 (cwPut (laneAddr side lane 0x50) 35 35 0 s))
  else s

/-- Clear the test functions of every lane on entry to TAKEOVER, with TEST_CLEARED on each lane affected (R84). -/
def clearLaneTests (s : State) : State :=
  s.cw.foldl (fun t e =>
    let w := ctlIdx e.1 % 0x800
    if ctlClass e.1 = clsLane && (w = 0x50 || w = 0x58) && fld e.2 35 34 ≠ 0 then
      let side := ctlIdx e.1 / 0x800
      let lane := ctlNum e.1
      laneEvent side lane 31 (cwPut e.1 35 34 0 t)
    else t) s

/-! ### SerDes references (R85 to R89) -/

def refGet (s : State) (r : Nat) : RefClk := tabGet {} s.refClk r
def refPut (r : Nat) (c : RefClk) (s : State) : State := s.putRefClk (tabSet {} s.refClk r c)
def refCtrlAddr (r : Nat) : Nat := ctlAddr clsClk (1 + r) 0x200

def refValid (c : RefClk) (n : Nat) : Bool := if n = 0 then c.aValid else if n = 1 then c.bValid else false

/-- A move of a region's PLLs to a source: REF_SWITCH, and REF_HOLD when it is the internal oscillator, are due in the
commit window; CEN42 counts (R89). -/
def refMove (r new : Nat) (s : State) : State :=
  let c := refGet s r
  if c.inUse = new then s
  else
    let w1 := mkWord [(34, r), (32, new)]
    let s := cenInc 42 (refPut r { c with inUse := new } s)
    let s := dueRecord 0 0x0C [w1, s.tick] s
    if new = 2 then dueRecord 0 0x0D [w1, s.tick] s else s

/-- The source after one in use is lost: the other reference if valid, else the internal oscillator (R86, R87). -/
def refFallback (c : RefClk) : Nat := if c.aValid then 0 else if c.bValid then 1 else 2

/-- Apply a write to CLK_REF_CTRL (R88): the PLLs move to PREF if it is valid and is forced or newly preferred. -/
def applyRefCtrl (r : Nat) (v : Word) (s : State) : Applied :=
  if fld v 35 34 = 3 then .error St.cfgRange
  else
    let old := cwGet s (refCtrlAddr r)
    let s := cwSet (refCtrlAddr r) (v &&& 0xF80000000) s
    let p := fld v 33 33
    if refValid (refGet s r) p && (bit v 31 || fld old 33 33 ≠ p) then .ok (refMove r p s) else .ok s

/-- CLK_REF_CTRL. -/
def execClkRefCtrl (r : RegionId) (w : CtlWrite) (s : State) : Result :=
  .next (settle w.origin .word (refCtrlAddr r.val) s (applyRefCtrl r.val w.value s))

/-- Mark a reference of a region valid or lost. -/
def refMark (r : Nat) (n : RefName) (ok : Bool) (s : State) : State :=
  let c := refGet s r
  refPut r (match n with | .a => { c with aValid := ok } | .b => { c with bValid := ok }) s

def refNum : RefName → Nat
  | .a => 0
  | .b => 1

/-- REFCLK_LOSS (R85 to R89). -/
def execRefclkLoss (r : RegionId) (n : RefName) (s : State) : Result :=
  let s := refMark r.val n false s
  let c := refGet s r.val
  .next (if c.inUse = refNum n then refMove r.val (refFallback c) s else s)

/-- REFCLK_REQUALIFY (R85, R87, R88): the PLLs leave the internal oscillator, and return to the preferred reference
under REVERT or FORCE. -/
def execRefclkRequalify (r : RegionId) (n : RefName) (s : State) : Result :=
  let s := refMark r.val n true s
  let c := refGet s r.val
  let w := cwGet s (refCtrlAddr r.val)
  .next (if c.inUse = 2 then refMove r.val (refNum n) s
    else if (bit w 32 || bit w 31) && fld w 33 33 = refNum n then refMove r.val (refNum n) s
    else s)

end Sys2Proof.Machine
end

