-- ==== Sys2Proof/Machine/Framing.lean ====
section
/-! DEFINITION. Stream set-up, the hypothesis tracker, timers and FEC words (spec 02 R66 to R71, 03 R90 to R121). -/

namespace Sys2Proof.Machine

/-! ### Set-up (R94 to R96) -/

/-- The value a set-up word stores: the reserved bits of its table read 0. -/
def frmValue (proto w : Nat) (v : Word) : Word :=
  let m := (framerStore w).getD 0
  v &&& BitVec.ofNat 36 (if w = 3 && proto = 6 then 0xFFFFFE000 else m)

/-- A stream's words with one write stored. -/
def frmStore (u n w : Nat) (v : Word) (s : State) : State :=
  cwSet (frmAddr u n w) (frmValue (frmProto (frmCfg s u n)) w v) s

/-- The bits of FRM_CFG whose change restarts alignment: PROTO, SIDE, CTX, ODU_TYPE (R95). -/
def restartBits (v : Word) : Nat := fld v 34 30 * 2 ^ 17 + fld v 27 11

/-- Apply one write to a set-up word of a stream against the set-up that its window gives (R94, R95, R82). -/
def applyFrm (plan : State) (u n w : Nat) (v : Word) (s : State) : Applied :=
  let st := streamStatus plan u n
  if st ≠ 0 then .error st
  else
    let old := cwGet s (frmAddr u n w)
    let wasLive := frmLive (frmCfg s u n)
    let s := frmStore u n w v s
    let new := cwGet s (frmAddr u n w)
    let live := frmLive (frmCfg s u n)
    if !live then
      .ok (if wasLive then
        let k := streamKey u n
        let f := framerGet s k
        settleDefs (refreshStream oduDepth u n
          (framerPut k { f with los := false, lof := false, lom := false, lol := false, oom := true } (closeAll u n s)))
       else s)
    else
      let changed := if w = 0 then restartBits old != restartBits new else w ≤ 3 && old != new
      let s := if !wasLive || changed then restartStream u n s else s
      let side := fld (frmCfg s u n) 30 30
      .ok (if w ≤ 2 then (lanesOf (frmLanes s u n)).foldl (fun s l => preemptTest side l s) s else s)

/-- The set-up of a stream with every write of its window stored. -/
def frmPlan (u n : Nat) (ws : List FrmWrite) (s : State) : State :=
  ws.foldl (fun s w => frmStore u n w.word.val w.value s) s

/-- FRM_CFG: the set-up writes of one window to a stream, judged together (R94, R95). -/
def execFrmCfg (r : StreamRef) (ws : List FrmWrite) (s : State) : Result :=
  let plan := frmPlan r.unit.val r.num.val ws s
  .next (ws.foldl (fun s w =>
    settle w.origin .word (frmAddr r.unit.val r.num.val w.word.val) s
      (applyFrm plan r.unit.val r.num.val w.word.val w.value s)) s)

/-- FRM_THR (R94, R96): each later update of a count is compared with the new threshold. -/
def execFrmThr (r : StreamRef) (w : CtlWrite) (s : State) : Result :=
  .next (settle w.origin .word (frmAddr r.unit.val r.num.val 4) s
    (applyFrm (frmStore r.unit.val r.num.val 4 w.value s) r.unit.val r.num.val 4 w.value s))

/-- FRM_TIME (R94, R96). -/
def execFrmTime (r : StreamRef) (w : CtlWrite) (s : State) : Result :=
  .next (settle w.origin .word (frmAddr r.unit.val r.num.val 5) s
    (applyFrm (frmStore r.unit.val r.num.val 5 w.value s) r.unit.val r.num.val 5 w.value s))

/-- Clear the counts of words 9 to 11. -/
def clearFrmCounts (u n : Nat) (s : State) : State :=
  let k := streamKey u n
  framerPut k { framerGet s k with mimics := 0, oofCnt := 0, ties := 0, ovf := 0 } s

/-- FRM_CNT_CLR (Table 3-15). -/
def execFrmCntClr (r : StreamRef) (s : State) : Result := .next (clearFrmCounts r.unit.val r.num.val s)

/-! ### The tracker (R97 to R103) -/

/-- The next MF value after one, for a layer that has an MF (Table 3-5). -/
def nextMf (proto member mf : Nat) : Option Nat :=
  match proto with
  | 1 => some ((mf + 20) % 240)
  | 2 => some ((mf + 1) % 256)
  | 6 => if member = 0 then some ((mf + 1) % 256) else none
  | _ => none

/-- The tracker opens and checks candidates only while neither cause of R103 stands; loss of lane alignment holds the
frame layer alone, since the lane layer must recover it. -/
def trackerHeld (s : State) (u n m : Nat) : Bool :=
  let f := framerGet s (streamKey u n)
  !frmLive (frmCfg s u n) || f.lanesDown || (f.lol && m ≥ 32)

/-- Counts of a stream that hold at their top value (R121). -/
def hold36 (n : Nat) : Nat := Nat.min n 0xFFFFFFFFF
def hold18 (n : Nat) : Nat := Nat.min n 0x3FFFF

/-- Open a candidate (R98): at most eight are open, a match beyond them is dropped and counted. -/
def openCand (u n m offset mf : Nat) (s : State) : State :=
  let k := trackerKey u n m
  let t := trackerGet s k
  if (t.inFrame && t.slot0 == offset) || t.cands.any (fun c => c.offset == offset) then s
  else if candCount t ≥ 8 then
    let f := framerGet s (streamKey u n)
    frmEvent (streamKey u n) 26 (framerPut (streamKey u n) { f with ovf := hold18 (f.ovf + 1) } s)
  else trackerPut k { t with cands := t.cands ++ [{ offset := offset, mf := mf, run := 1 }] } s

/-- CANDIDATE_OPEN (R98, R101). -/
def execCandidateOpen (r : StreamRef) (member : Fin 64) (offset mf : Nat) (s : State) : Result :=
  let u := r.unit.val
  let n := r.num.val
  .next (if trackerHeld s u n member.val then s
    else refreshStream oduDepth u n (openCand u n member.val offset mf s))

/-- A mimic: a candidate other than slot 0 whose run reaches IF_N while in frame (R101). -/
def countMimic (u n : Nat) (s : State) : State :=
  let k := streamKey u n
  let f := framerGet s k
  frmEvent k 28 (framerPut k { f with mimics := hold36 (f.mimics + 1) } s)

/-- Check a candidate (R99): its run goes on, or it closes and opens again where the FA matched. -/
def checkCand (u n m offset : Nat) (faOk : Bool) (mf : Nat) (s : State) : State :=
  let k := trackerKey u n m
  let t := trackerGet s k
  if t.inFrame && t.slot0 == offset then
    trackerPut k { t with errFa := if faOk then 0 else t.errFa + 1, mf := if faOk then mf else t.mf } s
  else
    match t.cands.find? fun c => c.offset == offset with
    | none => s
    | some c =>
      let good := faOk && (match nextMf (frmProto (frmCfg s u n)) m c.mf with | some x => x == mf | none => true)
      let keep := t.cands.filter fun d => d.offset != offset
      if good then
        let isMimic := t.inFrame && decide (c.run + 1 ≥ ifN s u n) && !c.mimic
        let c' : Cand := { offset := offset, mf := mf, run := c.run + 1, mimic := c.mimic || isMimic }
        let s := trackerPut k { t with cands := t.cands.map fun d => if d.offset = offset then c' else d } s
        if isMimic then countMimic u n s else s
      else if faOk then openCand u n m offset mf (trackerPut k { t with cands := keep } s)
      else trackerPut k { t with cands := keep } s

/-- CANDIDATE_CHECK (R99, R101, R102). -/
def execCandidateCheck (r : StreamRef) (member : Fin 64) (offset : Nat) (faOk : Bool) (mf : Nat) (s : State) : Result :=
  let u := r.unit.val
  let n := r.num.val
  .next (if trackerHeld s u n member.val then s
    else refreshStream oduDepth u n (checkCand u n member.val offset faOk mf s))

/-- The end of a window of a tracker out of frame (R100): in frame for a single confirmed candidate, a tie counted once
for two or more. -/
def windowEnd (u n m : Nat) (s : State) : State :=
  let k := trackerKey u n m
  let t := trackerGet s k
  if t.inFrame then s
  else
    match confirmed s u n t with
    | [c] =>
      trackerPut k { t with inFrame := true, slot0 := c.offset, mf := c.mf, errFa := 0, tie := false,
                            cands := t.cands.filter fun d => d.offset != c.offset } s
    | [] => trackerPut k { t with tie := false } s
    | _ =>
      let s := trackerPut k { t with tie := true } s
      if t.tie then s
      else
        let f := framerGet s (streamKey u n)
        frmEvent (streamKey u n) 27 (framerPut (streamKey u n) { f with ties := hold18 (f.ties + 1) } s)

/-- FRAMER_WINDOW_END (R100). -/
def execFramerWindowEnd (r : StreamRef) (member : Fin 64) (s : State) : Result :=
  let u := r.unit.val
  let n := r.num.val
  .next (if trackerHeld s u n member.val then s else refreshStream oduDepth u n (windowEnd u n member.val s))

/-- OOF_DECLARE (R102): the errored-FA count has reached OOF_N; the frame offset becomes an ordinary candidate and every
run restarts from 0. -/
def execOofDeclare (r : StreamRef) (member : Fin 64) (s : State) : Result :=
  let u := r.unit.val
  let n := r.num.val
  let k := trackerKey u n member.val
  let t := trackerGet s k
  .next (if t.inFrame && decide (t.errFa ≥ oofN s u n) then
      let zero := fun (c : Cand) => { c with run := 0 }
      let s := trackerPut k { t with inFrame := false, errFa := 0, tie := false,
                                     cands := { offset := t.slot0, mf := t.mf, run := 0 } :: t.cands.map zero } s
      let ks := streamKey u n
      let f := framerGet s ks
      let s := frmEvent ks 35 (framerPut ks { f with oofCnt := hold36 (f.oofCnt + 1) } s)
      refreshStream oduDepth u n s
    else s)

/-! ### Multiframe process and timers (R107 to R109) -/

/-- MF of a received frame while in frame (R107): errored and good counts; a layer without MF has none. -/
def mfFrame (u n : Nat) (mf : Nat) (s : State) : State :=
  let k := streamKey u n
  let f := framerGet s k
  if f.oof then s
  else
    let good := match f.mf with
      | some last => (last + 1) % 256 == mf
      | none => true
    framerPut k { f with mf := some mf, errMf := if good then 0 else f.errMf + 1, goodMf := if good then f.goodMf + 1 else 0 } s

/-- MF_OOM (R107). -/
def execMfOom (r : StreamRef) (s : State) : Result :=
  let k := streamKey r.unit.val r.num.val
  let f := framerGet s k
  .next (if !f.oof && decide (f.errMf ≥ oomN s r.unit.val r.num.val) then framerPut k { f with oom := true, goodMf := 0 } s
    else s)

/-- MF_IM (R107); for a FlexE group at its second OMF transition (R115). -/
def execMfIm (r : StreamRef) (s : State) : Result :=
  let k := streamKey r.unit.val r.num.val
  let f := framerGet s k
  let flexe := frmProto (frmCfg s r.unit.val r.num.val) == 5
  .next (if !f.oof && f.oom && (flexe || decide (f.goodMf ≥ imN s r.unit.val r.num.val)) then
      framerPut k { f with oom := false, errMf := 0 } s
    else s)

/-- The stream's layers have the timer: Ethernet has neither LOF nor LOM (R114). -/
def hasLof (s : State) (r : StreamRef) : Bool :=
  let c := frmCfg s r.unit.val r.num.val
  frmLive c && frmProto c != 4

/-- The frame layer has an MF. -/
def hasMf (s : State) (r : StreamRef) : Bool :=
  let p := frmProto (frmCfg s r.unit.val r.num.val)
  hasLof s r && p != 3

/-- A logical lane of an OTL4.4 stream enters or leaves its own LOF (R108). -/
def laneLofSet (k lane : Nat) (on : Bool) (s : State) : State :=
  let f := framerGet s k
  let without := f.laneLof - (if f.laneLof.testBit lane then 2 ^ lane else 0)
  framerPut k { f with laneLof := if on then without + 2 ^ lane else without } s

/-- LOF_SET (R108): the stream, or one logical lane, has been continuously OOF for LOF_SET. -/
def execLofSet (r : StreamRef) (lane : Option (Fin 20)) (s : State) : Result :=
  let k := streamKey r.unit.val r.num.val
  let f := framerGet s k
  .next (match lane with
    | some l =>
      if frmProto (frmCfg s r.unit.val r.num.val) = 1 && !(trackerGet s (trackerKey r.unit.val r.num.val l.val)).inFrame then
        laneLofSet k l.val true s else s
    | none => if hasLof s r && f.oof then settleDefs (frmEvent k 33 (framerPut k { f with lof := true } s)) else s)

/-- LOF_CLR (R108). -/
def execLofClr (r : StreamRef) (lane : Option (Fin 20)) (s : State) : Result :=
  let k := streamKey r.unit.val r.num.val
  let f := framerGet s k
  .next (match lane with
    | some l =>
      if (trackerGet s (trackerKey r.unit.val r.num.val l.val)).inFrame then laneLofSet k l.val false s else s
    | none => if !f.oof && f.lof then settleDefs (frmEvent k 32 (framerPut k { f with lof := false } s)) else s)

/-- LOM_SET (R108). -/
def execLomSet (r : StreamRef) (s : State) : Result :=
  let k := streamKey r.unit.val r.num.val
  let f := framerGet s k
  .next (if hasMf s r && f.oom then settleDefs (frmEvent k 31 (framerPut k { f with lom := true } s)) else s)

/-- LOM_CLR (R108). -/
def execLomClr (r : StreamRef) (s : State) : Result :=
  let k := streamKey r.unit.val r.num.val
  let f := framerGet s k
  .next (if !f.oom && f.lom then settleDefs (frmEvent k 30 (framerPut k { f with lom := false } s)) else s)

/-- LOL_CHANGE (R117, R119): at a frame boundary, member identity, skew in ns and the members locked and identified are
as measured; lane-alignment loss is declared or cleared from them and the member trackers. -/
def execLolChange (r : StreamRef) (idOk : Bool) (skew latest earliest locked : Nat) (s : State) : Result :=
  let u := r.unit.val
  let n := r.num.val
  let k := streamKey u n
  let f := framerGet s k
  let s := framerPut k { f with skew := skew, latest := latest % 64, earliest := earliest % 64, laneLock := locked % 2 ^ 32 } s
  let s := if idOk then s else frmEvent k 24 s
  let s := if skew > 180 then frmEvent k 25 s else s
  let eth := frmProto (frmCfg s u n) == 4
  let lol := !eth && (!idOk || decide (skew > 180) || !allInFrame s u n (laneMembers s u n))
  let f := framerGet s k
  .next (if lol && !f.lol then
      settleDefs (refreshStream oduDepth u n (closeFrameLayer u n (frmEvent k 29 (framerPut k { f with lol := true } s))))
    else if !lol && f.lol then settleDefs (refreshStream oduDepth u n (framerPut k { f with lol := false } s))
    else s)

/-- PCS_ALIGN_STATUS (R114, R115): a member PHY of an Ethernet or FlexE stream gains or loses align_status. -/
def execPcsAlignStatus (r : StreamRef) (phy : Fin 8) (up : Bool) (locked : Nat) (s : State) : Result :=
  let u := r.unit.val
  let n := r.num.val
  let k := streamKey u n
  let f := framerGet s k
  let without := f.aligned - (if f.aligned.testBit phy.val then 2 ^ phy.val else 0)
  let eth := frmProto (frmCfg s u n) == 4
  let s := framerPut k { f with aligned := if up then without + 2 ^ phy.val else without,
                                laneLock := if eth then locked % 2 ^ 32 else f.laneLock } s
  let s := if !eth && !up then trackerPut (trackerKey u n phy.val) {} s else s
  .next (refreshStream oduDepth u n s)

/-! ### Lanes reaching and leaving READY (R61, R103) -/

/-- LANE_ADAPT_DONE (R61): the lane is READY with the values its loops have reached within their fences. -/
def execLaneAdaptDone (l : LaneRef) (eq : List Word) (snr : Fin 256) (s : State) : Result :=
  let sd := sideNum l.side
  let k := laneKey sd l.lane.val
  let v := laneGet s k
  .next (if v.st = .adapt then
      let s := adaptEq sd l.lane.val eq (lanePut k { v with st := .ready, snr := snr.val } s)
      (streamsOfLane s sd l.lane.val).foldl (fun s p => releaseStream p.1 p.2 s) s
    else s)

/-- LANE_DOWN (R103): a lane leaves READY, losing CDR lock or not; CDR_LOST and CEN16 to CEN19 count the loss. -/
def execLaneDown (l : LaneRef) (cdrLost sigLost : Bool) (s : State) : Result :=
  let sd := sideNum l.side
  let k := laneKey sd l.lane.val
  let v := laneGet s k
  let s := lanePut k { v with
    st := if v.st = .ready || v.st = .adapt || v.st = .training then .cdrAcq else v.st,
    cdrLock := v.cdrLock && !cdrLost, sigDet := v.sigDet && !sigLost } s
  let s := if cdrLost && v.cdrLock then cenInc (16 + l.lane.val / 16) (laneEvent sd l.lane.val 35 s) else s
  .next (laneLeft sd l.lane.val s)

/-! ### FEC words (R66 to R71) -/

/-- The FEC modes a rate code admits (R66). -/
def fecRateOk (mode r : Nat) : Bool :=
  match mode with
  | 0 => true
  | 1 => r == 6 || r == 8 || r == 9 || r == 0xA
  | 2 => r == 6
  | _ => false

/-- The enabled streams whose anchor, their lowest lane, is a lane. -/
def anchoredStreams (s : State) (side lane : Nat) : List (Nat × Nat) :=
  (streamsOfLane s side lane).filter fun p =>
    match lanesOf (frmLanes s p.1 p.2) with
    | a :: _ => a == lane
    | [] => false

/-- A mode of FEC_CFG fits the rate and the streams of a set-up (R66). -/
def fecModeOk (plan : State) (side lane mode : Nat) : Bool :=
  let r := laneRate (laneCfg plan side lane)
  !(mode = 3 || !fecRateOk mode r ||
    (anchoredStreams plan side lane).any (fun p => shapeFec (frmProto (frmCfg plan p.1 p.2)) r != mode))

/-- Apply a write to FEC_CFG against the set-up that its window gives (R66). -/
def applyFecCfg (plan : State) (side lane : Nat) (v : Word) (s : State) : Applied :=
  if !fecModeOk plan side lane (fld v 35 34) then .error St.fecMode
  else .ok (cwSet (fecAddr side lane 0) (v &&& 0xF00000000) s)

/-- FEC_CFG (R66). -/
def execFecCfg (l : LaneRef) (w : CtlWrite) (s : State) : Result :=
  .next (settle w.origin .word (fecAddr (sideNum l.side) l.lane.val 0) s
    (applyFecCfg s (sideNum l.side) l.lane.val w.value s))

/-- Clear the running totals (R70). -/
def clearFec (side lane : Nat) (s : State) : State :=
  (List.range 4).foldl (fun s i => cwSet (fecAddr side lane (0x10 + i)) 0 s) s

/-- FEC_CNT_CLR (R70). -/
def execFecCntClr (l : LaneRef) (s : State) : Result := .next (clearFec (sideNum l.side) l.lane.val s)

end Sys2Proof.Machine
end

