-- ==== Sys2Proof/Machine/Flags.lean ====
section
/-! DEFINITION. Predicates: the conditions of CMP and the arithmetic of Table 9-4. -/

namespace Sys2Proof.Machine

/-- A word as a signed number. -/
def signed (w : Word) : Int := w.toInt

def condEq (a b : Word) : Bool := decide (a = b)
def condNe (a b : Word) : Bool := decide (a ≠ b)
/-- Signed less-than (Table 9-4, LT). -/
def condLt (a b : Word) : Bool := decide (a.toInt < b.toInt)
/-- Unsigned less-than (Table 9-4, LTU). -/
def condLtu (a b : Word) : Bool := decide (a.toNat < b.toNat)

/-- SHL: 0 for 36 and more. -/
def shiftLeft (a : Word) (n : Nat) : Word := if n < 36 then a <<< n else 0
/-- SHR: 0 for 36 and more. -/
def shiftRight (a : Word) (n : Nat) : Word := if n < 36 then a >>> n else 0
/-- SAR: the sign for 36 and more. -/
def shiftArith (a : Word) (n : Nat) : Word := a.sshiftRight (if n < 36 then n else 36)

def minU (a b : Word) : Word := if a.toNat ≤ b.toNat then a else b
def maxU (a b : Word) : Word := if a.toNat ≤ b.toNat then b else a
/-- SAT.ADD: the sum held at F_FFFF_FFFFh. -/
def sumSat (a b : Word) : Word := BitVec.ofNat 36 (min (a.toNat + b.toNat) 0xFFFFFFFFF)

/-- MOVH: IMM × 2^20 + gA[19:0]. -/
def movh (imm : BitVec 16) (a : Word) : Word := BitVec.ofNat 36 (imm.toNat * 2 ^ 20 + a.toNat % 2 ^ 20)

/-- LINS: lane j replaced by the low nine bits of a register. -/
def laneInsert (a b : Word) (j : Nat) : Word := putFld a (9 * j + 8) (9 * j) (b.toNat % 512)

/-- Number of 1 bits among the low n bits. -/
def onesBelow (x : Nat) : Nat → Nat
  | 0 => 0
  | n + 1 => onesBelow x n + bitsOf x n n

/-- POPC. -/
def popCount (a : Word) : Word := BitVec.ofNat 36 (onesBelow a.toNat 36)

/-- BIP8: gB[7:0] with the four octets of gA, K flags ignored. -/
def bip8 (a b : Word) : Word :=
  BitVec.ofNat 36 (((((b.toNat % 256) ^^^ octetOf a 0) ^^^ octetOf a 1) ^^^ octetOf a 2) ^^^ octetOf a 3)

end Sys2Proof.Machine
end

