-- ==== Sys2Proof/Machine/Operands.lean ====
section
/-! DEFINITION. Engine operands: registers, predicates, contexts named by M-form operands, grants, and the issue of a
bundle with its cycles (spec 09 R299 to R309, 11 R362 to R372). -/

namespace Sys2Proof.Machine

def engGet (s : State) (e : Nat) : Engine := tabGet {} s.engines e
def engPut (e : Nat) (E : Engine) (s : State) : State := s.putEngines (tabSet {} s.engines e E)

/-- A register reads 0 as g0 (R301). -/
def regRead (t : Tab Word) (g : Nat) : Word := if g = 0 then 0 else tabGet 0 t g
/-- A write to g0 is discarded (R301). -/
def regWrite (t : Tab Word) (g : Nat) (v : Word) : Tab Word := if g = 0 then t else tabSet 0 t g v
/-- p0 reads true (R301). -/
def predRead (t : Tab Bool) (p : Nat) : Bool := if p = 0 then true else tabGet false t p
/-- A write to p0 is discarded (R301). -/
def predWrite (t : Tab Bool) (p : Nat) (v : Bool) : Tab Bool := if p = 0 then t else tabSet false t p v

/-- Operand register of the bundle under way: both slots read before either writes (R303). -/
def operand (s : State) (e g : Nat) : Word := regRead (engGet s e).opRegs g

/-- Write a destination register. -/
def setReg (e g : Nat) (v : Word) (s : State) : State :=
  engPut e { engGet s e with regs := regWrite (engGet s e).regs g v } s

/-- Write a destination predicate. -/
def setPred (e p : Nat) (v : Bool) (s : State) : State :=
  engPut e { engGet s e with preds := predWrite (engGet s e).preds p v } s

/-! ### Counter words of an engine (Tables 11-1, 9-16) -/

/-- Address of a word of an engine's bank of class PC; the hub engine has the upper bank of INST 0 (R361). -/
def pcAddr (e idx : Nat) : Nat := if e = 64 then ctlAddr clsPc 0 (0x800 + idx) else ctlAddr clsPc e idx

/-- Count an event of ENG_ERR and keep the first of the tick (R334, R335). -/
def engErr (e cause : Nat) (s : State) : State :=
  let s := cwCount (pcAddr e 0x7F2) 1 s
  let E := engGet s e
  match E.errEvent with
  | some _ => s
  | none => engPut e { E with errEvent := some (cause, E.pc) } s

/-! ### Cycles and engine counters -/

/-- What a span of cycles counts for each event of Table 11-3. -/
structure Span where
  cycles : Nat := 0
  passCyc : Nat := 0
  bundles : Nat := 0
  retired : Nat := 0
  wasted : Nat := 0
  flow : Nat := 0
  stall : Nat := 0
  sOperand : Nat := 0
  sChk : Nat := 0
  sCall : Nat := 0
  sMulti : Nat := 0
  taken : Nat := 0
  falsePred : Nat := 0
  ctxRd : Nat := 0
  ctxWr : Nat := 0
  staged : Nat := 0
  items : Nat := 0

/-- The count of an event code below 20h (Table 11-3). -/
def spanCount (p : Span) (code : Nat) : Nat :=
  match code with
  | 0x01 => p.cycles
  | 0x02 => p.passCyc
  | 0x03 => p.bundles
  | 0x04 => p.retired
  | 0x05 => p.wasted
  | 0x06 => p.flow
  | 0x07 => p.stall
  | 0x08 => p.sOperand
  | 0x09 => p.sChk
  | 0x0A => p.sCall
  | 0x0B => p.sMulti
  | 0x0C => p.taken
  | 0x0D => p.falsePred
  | 0x0E => p.ctxRd
  | 0x0F => p.ctxWr
  | 0x10 => p.staged
  | 0x11 => p.items
  | _ => 0

/-- The occupancy a threshold event of an engine watches, for the sources that the state holds (R367, Table 11-3):
host queues from the hub engine, client queues from the hub engine and the units of their die. -/
def occupancy (s : State) (e code src : Nat) : Option Nat :=
  if code = 0x20 && e = 64 then
    some (ptrFill (hqSize s (src % 8)) (hqGet s (src % 8)).rp (hqGet s (src % 8)).wp)
  else if code = 0x21 && (e = 64 || dieOf e = bitsOf src 10 10) then
    let q := tabGet ({} : ClientQueue) s.cq src
    some (ptrFill (cqSize s src) q.rp q.wp)
  else none

/-- Set OVF of PCk (R363, R364). -/
def setOvf (e k : Nat) (s : State) : State := cwPut (pcAddr e 0x19) (28 + k) (28 + k) 1 s

/-- Add to PCk, wrapping, OVF set at each carry out of it; the state and the carries (R363, R370). -/
def pcAdd (e k add : Nat) (s : State) : State × Nat :=
  let sum := (cwGet s (pcAddr e k)).toNat + add
  let s := cwSet (pcAddr e k) (BitVec.ofNat 36 sum) s
  if sum < 0x1000000000 then (s, 0) else (setOvf e k s, sum / 0x1000000000)

/-- The count PCk takes from a span by its own event; a threshold counter also keeps whether it stood above THR. -/
def pcOwn (e k : Nat) (p : Span) (s : State) : State × Nat :=
  let sel := cwGet s (pcAddr e (0x10 + k))
  let code := fld sel 33 28
  if code < 0x20 then (s, spanCount p code)
  else
    let E := engGet s e
    let was := E.above.testBit k
    let now := (occupancy s e code (fld sel 10 0)).any fun n => decide (n > fld sel 27 11)
    let n := if bit sel 34 then b2n (now && !was) else if now then p.cycles else 0
    (if was == now then s else engPut e { E with above := Nat.xor E.above (2 ^ k) } s, n)

/-- One counter PCk over a span: events, or the carries of its lower neighbour (R363, R364, R370); the state and the
carries it delivers. -/
def pcStep (e k : Nat) (p : Span) (chained : Bool) (carry : Nat) (s : State) : State × Nat :=
  let frozen := bit (cwGet s (pcAddr e 0x18)) (28 + k)
  if frozen then (if chained && carry > 0 then setOvf e k s else s, 0)
  else if chained then pcAdd e k carry s
  else
    let r := pcOwn e k p s
    pcAdd e k r.2 r.1

/-- All eight counters over a span, lowest first. -/
def pcSteps (e : Nat) (p : Span) : List Nat → Bool → Nat → State → State
  | [], _, _, s => s
  | k :: ks, chained, carry, s =>
    let r := pcStep e k p chained carry s
    pcSteps e p ks (k < 7 && bit (cwGet s (pcAddr e (0x10 + k))) 35) r.2 r.1

/-- Let an engine's cycles pass: CYC and its counters. -/
def passCycles (e : Nat) (p : Span) (s : State) : State :=
  let E := engGet s e
  pcSteps e p [0, 1, 2, 3, 4, 5, 6, 7] false 0
    (engPut e { E with cyc := (E.cyc + p.cycles) % 2 ^ 72, tickCyc := E.tickCyc + p.cycles } s)

/-! ### End of a pass or batch (R319, R313, R454) -/

/-- Discard an item left open, which counts in ENG_ERR (R313, R335). -/
def dropItem (e : Nat) (s : State) : State :=
  match (engGet s e).item with
  | none => s
  | some _ => engErr e 3 (engPut e { engGet s e with item := none } s)

/-- The engine of a batch restored after the hub pass (R38). -/
def resumeBatch (s : State) : State :=
  match s.suspended with
  | some E =>
    let H := engGet s 64
    ((engPut 64 { E with cyc := H.cyc, tickCyc := H.tickCyc, staged := H.staged, ended := H.ended,
                         started := H.started, errEvent := H.errEvent, above := H.above, ledger := H.ledger,
                         landing := [] } s).putSuspended none)
  | none => s

/-- HALT.TICK has issued: the pass ends within budget, or the batch completes with g4 to g15 as they stand. -/
def endRun (e : Nat) (s : State) : State :=
  let s := dropItem e s
  let E := engGet s e
  match E.running with
  | .batch =>
    let s := engPut e { E with running := .idle, loops := [], calls := [], landing := [] } s
    match s.batch with
    | some b =>
      (s.putBatch none).putBatchesDone (s.batchesDone ++ [{ b with regs := (List.range 12).map fun k => regRead E.regs (k + 4) }])
    | none => s
  | _ =>
    let s := engPut e { E with running := .idle, ended := true, loops := [], calls := [], landing := [] } s
    if e = 64 then resumeBatch s else s

/-! ### Issue of a bundle -/

/-- The trace takes the address of a bundle that the selected engine issues, and keeps the last 4,096 (R493). -/
def traceBundle (e pc : Nat) (s : State) : State :=
  if bit s.jtag.sel 28 && fld s.jtag.sel 35 29 == e then
    s.putTrace ((s.trace ++ [pc % 8192]).drop (s.trace.length + 1 - 4096))
  else s

/-- Close the bundle under way: its cycles pass, results get their landing cycle, the next bundle address is taken. -/
def closeBundle (e : Nat) (s : State) : State :=
  let E := engGet s e
  let b := E.bundle
  let wait := b.stall + b.chkWait + b.callWait
  let flow := b2n (b.flow || b.taken)
  let multi := if b.flow then 0 else b.cost - 1
  let total := wait + 1 + flow + multi
  let c := E.cyc + wait
  let E1 := { E with
    bundle := {},
    landing := b.lands.foldl (fun t r => tabSet 0 t r.1 (c + r.2)) (E.landing.filter fun r => decide (r.2 > c + 1)),
    pc := match b.target with | some t => t | none => E.pc + 1,
    ledger := { retired := E.ledger.retired + b.retired, wasted := E.ledger.wasted + b.wasted,
                flow := E.ledger.flow + 2 * flow, stall := E.ledger.stall + 2 * (wait + multi) } }
  let s := passCycles e
    { cycles := total, passCyc := total, bundles := 1, retired := b.retired, wasted := b.wasted, flow := 2 * flow,
      stall := 2 * (wait + multi), sOperand := b.stall, sChk := b.chkWait, sCall := b.callWait, sMulti := multi,
      taken := b2n b.taken, falsePred := b.falsePred, ctxRd := b.ctxRd, ctxWr := b.ctxWr, staged := b.staged,
      items := b.items } (engPut e E1 (traceBundle e E.pc s))
  if b.halt then endRun e s else s

/-- Open a slot: slot A takes the operand view of a new bundle; slot B alone stands beside a NOP in slot A. -/
def openSlot (e : Nat) (slot : Slot) (s : State) : State :=
  let s := match slot with
    | .a => if (engGet s e).bundle.aDone then closeBundle e s else s
    | .b => s
  let E := engGet s e
  match slot with
  | .a => engPut e { E with opRegs := E.regs, opPreds := E.preds, bundle := { aDone := true } } s
  | .b =>
    if E.bundle.aDone then s
    else engPut e { E with opRegs := E.regs, opPreds := E.preds, bundle := { aDone := true, wasted := 1 } } s

/-- What one instruction uses: registers read and written, cycles it holds its slot, latency, wait for the check unit,
whether it is NOP, and the events of Table 11-3 it counts. -/
structure Use where
  reads : List Nat := []
  writes : List Nat := []
  cost : Nat := 1
  lat : Nat := 1
  chkWait : Nat := 0
  nop : Bool := false
  ctxRd : Nat := 0
  ctxWr : Nat := 0
  staged : Nat := 0
  items : Nat := 0

/-- Cycles until every outstanding result among the registers has landed (R304). -/
def waitFor (E : Engine) (gs : List Nat) : Nat :=
  gs.foldl (fun m g => if g = 0 then m else Nat.max m (tabGet 0 E.landing g - E.cyc)) 0

/-- Charge an instruction to its bundle (R304 to R306, R368). -/
def charge (e : Nat) (u : Use) (run : Bool) (s : State) : State :=
  let E := engGet s e
  let b := E.bundle
  engPut e { E with bundle := { b with
    stall := Nat.max b.stall (waitFor E (u.reads ++ u.writes)),
    cost := if run then Nat.max b.cost u.cost else b.cost,
    chkWait := if run then b.chkWait + u.chkWait else b.chkWait,
    retired := if run && !u.nop then b.retired + 1 else b.retired,
    wasted := if run && !u.nop then b.wasted else b.wasted + 1,
    falsePred := if run then b.falsePred else b.falsePred + 1,
    ctxRd := b.ctxRd + u.ctxRd, ctxWr := b.ctxWr + u.ctxWr,
    staged := if run then b.staged + u.staged else b.staged,
    items := if run then b.items + u.items else b.items,
    lands := if run && u.lat > 1 then b.lands ++ u.writes.map (fun g => (g, u.lat)) else b.lands } } s

/-- An engine issues to a slot: in a pass or a batch; a batch that waits at an instruction with a duration completes its
bundle. -/
def issues (s : State) (i : Iss) : Bool :=
  match (engGet s i.eng.val).running with
  | .idle => false
  | .waits => i.slot == .b
  | _ => true

/-- Issue one instruction: a false predicate leaves no effect (R306); slot B closes the bundle. -/
def issue (i : Iss) (u : Use) (body : State → State) (s : State) : State :=
  let e := i.eng.val
  if !issues s i then s
  else
    let s := openSlot e i.slot s
    let run := predRead (engGet s e).opPreds i.pred.val
    let s := charge e u run s
    let s := if run then body s else s
    match i.slot with
    | .a => s
    | .b => closeBundle e s

/-- Issue of an instruction of slot A. -/
def issueOfA (i : IssA) : Iss := { eng := i.eng, slot := .a, pred := i.pred }

/-! ### Contexts named by M-form operands (R308, R312) -/

/-- The context an M-form operand names: on a unit engine by handle, on the hub engine by ID. -/
def mContext (s : State) (e gA off : Nat) : Option Nat :=
  let a := (operand s e gA).toNat
  if e < 64 then ctxOfHandle s e ((a % 256 + off) % 256)
  else if (ctxPlace s (a % 16384)).isSome then some (a % 16384) else none

/-- Act on the context an M-form operand names; one that is not held writes nothing and counts in ENG_ERR (R312). -/
def onContext (e gA off : Nat) (f : Nat → State → State) (s : State) : State :=
  match mContext s e gA off with
  | some id => f id s
  | none => engErr e 1 s

/-- gD receives a value of the context an M-form operand names; 0 where none is held (R312). -/
def readContext (e gD gA off : Nat) (f : State → Nat → Word) (s : State) : State :=
  match mContext s e gA off with
  | some id => setReg e gD (f s id) s
  | none => setReg e gD 0 (engErr e 1 s)

/-- Latency of CTX.LD, CTX.NEXT, CTX.ID and OH.GET: 2, on the hub engine 64 (Table 9-5). -/
def ctxLatency (e : Nat) : Nat := if e = 64 then 64 else 2

/-! ### Grants (R49, R315, R573, Table 9-11) -/

/-- The image an engine runs. -/
def imageOf (s : State) (e : Nat) : Option Image :=
  match s.loaf with
  | none => none
  | some l =>
    match (if e = 64 then l.hubImg else (l.unitMap[e]?).join) with
    | some k => l.images[k]?
    | none => none

/-- The engine runs a batch, which needs no grant. -/
def inBatch (s : State) (e : Nat) : Bool := (engGet s e).running == .batch

/-- The loaf grants reading or writing of a class to the program under way. -/
def granted (s : State) (e : Nat) (write : Bool) (cls : Nat) : Bool :=
  inBatch s e || match imageOf s e with
    | some im => (if write then im.grantW else im.grantR).testBit cls
    | none => false

/-- The grant SELF_PROFILE. -/
def selfProfile (s : State) (e : Nat) : Bool :=
  inBatch s e || match imageOf s e with | some im => im.selfProfile | none => false

/-- An access outside grant or scope (R50, R573): CEN58 and a VIOLATION record. -/
def outsideGrant (e addr : Nat) (s : State) : State := violation 2 (violSource s e false) addr s

/-- Stage an effect of the program under way (R39). -/
def stage (e : Nat) (op : StagedOp) (s : State) : State :=
  let E := engGet s e
  let g : Staged := { op := op, bundle := E.pc }
  match E.running, s.batch with
  | .batch, some b => s.putBatch (some { b with staged := b.staged ++ [g] })
  | _, _ => engPut e { E with staged := E.staged ++ [g] } s

end Sys2Proof.Machine
end

