-- ==== Sys2Proof/Machine/Check.lean ====
section
/-! DEFINITION. Check computations (spec 10 R352 to R356, Table 10-8) and the CHK instructions. -/

namespace Sys2Proof.Machine

/-- Bit i of the low n bits moved to bit n-1-i. -/
def reverseBits (n x : Nat) : Nat := (List.range n).foldl (fun a i => a + bitsOf x i i * 2 ^ (n - 1 - i)) 0

/-- A polynomial of Table 10-8. -/
structure CrcForm where
  width : Nat
  poly : Nat
  init : Nat
  reflected : Bool
  final : Nat

/-- CRC-32 of IEEE 802.3. -/
def crcP0 : CrcForm := { width := 32, poly := 0x04C11DB7, init := 0xFFFFFFFF, reflected := true, final := 0xFFFFFFFF }
/-- CRC-32C. -/
def crcP1 : CrcForm := { width := 32, poly := 0x1EDC6F41, init := 0xFFFFFFFF, reflected := true, final := 0xFFFFFFFF }
/-- CRC-16 x^16+x^12+x^5+1. -/
def crcP2 : CrcForm := { width := 16, poly := 0x1021, init := 0xFFFF, reflected := false, final := 0 }
/-- CRC-8 x^8+x^2+x+1. -/
def crcP3 : CrcForm := { width := 8, poly := 0x07, init := 0, reflected := false, final := 0 }

def crcForm (mode : Nat) : CrcForm :=
  match mode with
  | 0 => crcP0
  | 1 => crcP1
  | 2 => crcP2
  | _ => crcP3

/-- n steps of a non-reflected register. -/
def crcShiftUp (w poly : Nat) : Nat → Nat → Nat
  | 0, r => r
  | n + 1, r => crcShiftUp w poly n
      (if bitsOf r (w - 1) (w - 1) = 1 then Nat.xor (r * 2 % 2 ^ w) poly else r * 2 % 2 ^ w)

/-- n steps of a reflected register; the polynomial is given reversed. -/
def crcShiftDown (rpoly : Nat) : Nat → Nat → Nat
  | 0, r => r
  | n + 1, r => crcShiftDown rpoly n (if r % 2 = 1 then Nat.xor (r / 2) rpoly else r / 2)

/-- Process one octet: bit 7 first, or bit 0 first in a reflected computation (R352). -/
def crcOctet (c : CrcForm) (r o : Nat) : Nat :=
  if c.reflected then crcShiftDown (reverseBits c.width c.poly) 8 (Nat.xor r o)
  else crcShiftUp c.width c.poly 8 (Nat.xor r (o * 2 ^ (c.width - 8)))

/-- Start a computation (R355): modes 0 to 3 are P0 to P3, 4 BIP-8, 5 BIP-16. -/
def chkStart (mode : Nat) : CheckSt := { mode := mode, reg := if mode < 4 then (crcForm mode).init else 0, count := 0 }

/-- Process one octet of a computation; BIP-16 counts octets from its start, even ones into the high octet (R353). -/
def chkOctet (c : CheckSt) (o : Nat) : CheckSt :=
  { c with
    count := c.count + 1,
    reg := if c.mode < 4 then crcOctet (crcForm c.mode) c.reg o
      else if c.mode = 4 then Nat.xor c.reg o
      else if c.count % 2 = 0 then Nat.xor c.reg (o * 256) else Nat.xor c.reg o }

def chkOctets (c : CheckSt) (os : List Nat) : CheckSt := os.foldl chkOctet c

/-- The result so far, after the final XOR (R355). -/
def chkValue (c : CheckSt) : Nat := if c.mode < 4 then Nat.xor c.reg (crcForm c.mode).final else c.reg

/-- A fold-in value as five octets, low octet first (R354). -/
def foldOctets (v : Word) : List Nat := [fld v 7 0, fld v 15 8, fld v 23 16, fld v 31 24, fld v 35 32]

/-- The octets of lanes 0 to n of a word, K flags ignored (R353). -/
def laneOctets (v : Word) (n : Nat) : List Nat := (List.range (n + 1)).map (octetOf v)

/-- A computation of a mode over octets, without fold-in. -/
def checkOf (mode : Nat) (os : List Nat) : Nat := chkValue (chkOctets (chkStart mode) os)

/-- Cycles an engine waited for its cluster's check-value unit: counted in CHK_WAIT and CHK_STAT (R314, R360); the hub
engine never waits (R356). -/
def chkWaited (e wait : Nat) (s : State) : State :=
  if e < 64 && wait > 0 then
    let c := clusterOf e
    let s := cwCount (ctlAddr clsChk c 0) wait s
    (s.putChkMax (tabSet 0 s.chkMax c (Nat.max (tabGet 0 s.chkMax c) wait)))
  else s

/-- Issue of a CHK instruction: its cost is 1 cycle and the wait. -/
def chkIssue (i : IssA) (u : Use) (wait : Nat) (body : State → State) (s : State) : State :=
  let w := if i.eng.val = 64 then 0 else wait
  issue (issueOfA i) { u with chkWait := w } (fun s => body (chkWaited i.eng.val w s)) s

/-- CHK.SEED (R355). -/
def execChkSeed (i : IssA) (gA : Reg) (fold : Bool) (mode : Fin 6) (wait : Fin 33) (s : State) : Result :=
  .next (chkIssue i { reads := if fold then [gA.val] else [] } wait.val (fun s =>
    let c := chkStart mode.val
    let c := if fold then chkOctets c (foldOctets (operand s i.eng.val gA.val)) else c
    engPut i.eng.val { engGet s i.eng.val with chk := c } s) s)

/-- CHK.FEED (R355). -/
def execChkFeed (i : IssA) (gA : Reg) (lanes : Fin 4) (wait : Fin 33) (s : State) : Result :=
  .next (chkIssue i { reads := [gA.val] } wait.val (fun s =>
    let E := engGet s i.eng.val
    engPut i.eng.val { E with chk := chkOctets E.chk (laneOctets (operand s i.eng.val gA.val) lanes.val) } s) s)

/-- CHK.RES (R355). -/
def execChkRes (i : IssA) (gD : Reg) (wait : Fin 33) (s : State) : Result :=
  .next (chkIssue i { writes := [gD.val], lat := 2 } wait.val (fun s =>
    setReg i.eng.val gD.val (BitVec.ofNat 36 (chkValue (engGet s i.eng.val).chk)) s) s)

end Sys2Proof.Machine
end

