-- ==== Sys2Proof/Machine/Slots.lean ====
section
/-! DEFINITION. Ports, slots, grains and deck entries: who owns what and which page an output reads (spec 05 R162 to
R173, R182, R183, 06 R201 to R210). -/

namespace Sys2Proof.Machine

/-! ### Rates and slots (R171, Tables 5-7, 5-8) -/

def ceilDiv (a b : Nat) : Nat := (a + b - 1) / b

/-- k of an ODUflex of rate num / den kbit/s. -/
def flexK (num den : Nat) : Nat := ceilDiv (num * 400040) (den * 524078118228)
/-- Tributary slots of an ODU4 for an ODUflex. -/
def flexTs4 (r : Nat) : Nat := ceilDiv (r * 100010) 130168296582
/-- Tributary slots of an ODUCn for an ODUflex. -/
def flexTs5 (r : Nat) : Nat := ceilDiv (r * 100010) 524078118228

/-- k of an ODU type; an ODUflex by its rate. -/
def oduK (ty rate : Nat) : Nat :=
  match ty with
  | 0 => 1
  | 1 => 2
  | 2 => 8
  | 3 => 8
  | 4 => 31
  | 5 => 80
  | 6 => flexK rate 1
  | _ => 0

/-- Tributary slots of an ODU type in an ODU4, or in an ODUCn. -/
def oduTs (quarter : Bool) (ty rate : Nat) : Nat :=
  match ty with
  | 0 => 1
  | 1 => if quarter then 1 else 2
  | 2 => if quarter then 2 else 8
  | 3 => if quarter then 2 else 8
  | 4 => if quarter then 8 else 31
  | 5 => if quarter then 20 else 0
  | 6 => if quarter then flexTs5 rate else flexTs4 rate
  | _ => 0

/-- Nominal rate of an ODU type in kbit/s (Table 7-1); an ODUflex by its rate. -/
def oduRate (ty rate : Nat) : Nat :=
  match ty with
  | 0 => 1244160
  | 1 => 2498775
  | 2 => 10037274
  | 3 => 10399525
  | 4 => 40319219
  | 5 => 104794446
  | 6 => rate
  | _ => 0

/-- Speed code of an Ethernet stream: 0 to 3 for 100 to 800GbE. -/
def ethSpeed (s : State) (u n : Nat) : Option Nat :=
  let c := frmCfg s u n
  let ls := lanesOf (frmLanes s u n)
  match commonRate s (fld c 30 30) ls with
  | some r => [0, 1, 2, 3].find? fun v => phyLanes v r == ls.length && ls.length != 0
  | none => none

/-- k of a transcoded Ethernet client (Table 5-8). -/
def impK (speed : Nat) : Nat :=
  match speed with
  | 1 => 154
  | 2 => 308
  | 3 => 616
  | _ => 0

/-! ### FlexE calendars (R182, R183) -/

/-- Entry e of calendar A or B of a unit's shim. -/
def calEntry (s : State) (u : Nat) (b : Bool) (e : Nat) : Nat :=
  laneOf (cwGet s (ctlAddr clsMap u (0xC00 + b2n b * 0x100 + e / 4))) (e % 4)

/-- Entries of a calendar that name a port. -/
def calCount (s : State) (u : Nat) (b : Bool) (p : Nat) : Nat :=
  ((List.range 640).filter fun e => calEntry s u b e == 256 + p).length

/-- The calendar in use of the shim port that a FLEXE_IMP port names. -/
def calInUse (s : State) (u p : Nat) : Bool := (portGet s (portKey (mapRefUnit s u p) (mapRefNum s u p))).calUse

/-- s of a FLEXE_IMP port (R183). -/
def flexeSlots (s : State) (u p : Nat) : Nat := calCount s u (calInUse s u p) p

/-! ### Deck entries (R205 to R211, Tables 6-1 to 6-4) -/

def deckMain (slot : Nat) : Nat := slot
def deckSel (die pair : Nat) : Nat := 0x10000 + die * 0x8000 + pair
def deckFine (region grain : Nat) : Nat := 0x20000 + region * 0x4000 + grain

/-- The die of a deck address (R14, Table 6-4). -/
def deckDie (a : Nat) : Nat :=
  if a < 0x10000 then (a % 0x4000) / 5120 else if a < 0x20000 then bitsOf a 15 15 else bitsOf a 15 14 / 2

def dieDeck (s : State) (d : Nat) : DieDeck := tabGet {} s.decks d
def dieDeckPut (d : Nat) (k : DieDeck) (s : State) : State := s.putDecks (tabSet {} s.decks d k)

/-- The key of an entry of a page: false the page that the die's act names, true the other. -/
def deckKey (s : State) (standby : Bool) (a : Nat) : Nat :=
  (if (dieDeck s (deckDie a)).act != standby then 0x40000 else 0) + a

/-- An entry of the active or the standby page. -/
def deckEntry (s : State) (standby : Bool) (a : Nat) : Word := tabGet 0 s.deck (deckKey s standby a)

def selOf (s : State) (d pair : Nat) : Bool := tabGet false s.sels (d * 2048 + pair)

/-- Every listed entry of a page of a die: deck address and word. -/
def deckEntries (s : State) (d : Nat) (standby : Bool) : List (Nat × Word) :=
  (s.deck.filter fun e => deckDie (e.1 % 0x40000) == d && e.1 == deckKey s standby (e.1 % 0x40000)).map
    fun e => (e.1 % 0x40000, e.2)

def isMainAddr (a : Nat) : Bool := a < 0x10000
def isSelAddr (a : Nat) : Bool := 0x10000 ≤ a && a < 0x20000
def isFineAddr (a : Nat) : Bool := 0x20000 ≤ a && a < 0x30000

/-- SRC of a main or fine entry with P = 0. -/
def entrySrc (a : Nat) (w : Word) : Nat := if isFineAddr a then fld w 33 20 else fld w 33 19
/-- The pair of an entry with P = 1. -/
def entryPair (a : Nat) (w : Word) : Nat := if isFineAddr a then fld w 30 20 else fld w 29 19
def entryGrp (w : Word) : Nat := fld w 18 8

/-! ### Port slots (R170 to R173) -/

/-- Tributary slots of the server of an HO_ODU port, and whether they are quarters of an OPUCn slot. -/
def serverTs (s : State) (hu hp : Nat) : Option (Nat × Bool) :=
  let u := mapRefUnit s hu hp
  let n := mapRefNum s hu hp
  let c := frmCfg s u n
  match frmProto c with
  | 1 => some (80, false)
  | 2 => some (20 * (cwFld s (frmAddr u n 3) 35 30 + 1), true)
  | 6 => if fld c 13 11 = 5 then some (80, false) else none
  | _ => none

/-- Grains of a path (Table 5-5). -/
def pathGrains (code : Nat) : Nat :=
  match code with
  | 0 => 1
  | 1 => 3
  | 2 => 12
  | 3 => 48
  | 4 => 192
  | _ => 0

/-- Output grains of a region whose active entries name a group, rising (R255). -/
def groupGrains (s : State) (region grp : Nat) : List Nat :=
  ((deckEntries s (region / 2) false).filter fun e =>
    isFineAddr e.1 && bitsOf e.1 15 14 == region && bit e.2 35 && !bit e.2 34 && entryGrp e.2 == grp).map
      fun e => e.1 % 0x4000

/-- The rate that sizes an ODUflex port: during a resize the larger of the old and the new (R228). -/
def sizingRate (s : State) (u p : Nat) : Nat :=
  let r := cwFld s (mapAddr u p 3) 31 0
  let own := (List.range 64).find? fun c =>
    let cfg := cwGet s (ctlAddr clsDeck (c / 32) (0x100 + 4 * (c % 32)))
    bit cfg 35 && fld cfg 31 26 == u && fld cfg 25 18 == p && decide (1 ≤ (tabGet ({} : Rsz) s.rsz c).step) &&
      decide ((tabGet ({} : Rsz) s.rsz c).step ≤ 3)
  match own with
  | some c => Nat.max r (tabGet ({} : Rsz) s.rsz c).rateOld
  | none => r

/-- K of a port (Table 5-5). -/
def portK (s : State) (u p : Nat) : Nat :=
  let c := mapCfg s u p
  let w2 := cwGet s (mapAddr u p 2)
  match mapAdapt c with
  | 1 => match serverTs s u p with
    | some (n, q) => if q then 4 * n else n
    | none => 0
  | 2 => 80
  | 3 => oduK (fld c 30 28) (sizingRate s u p)
  | 4 => 80
  | 5 => match ethSpeed s (mapRefUnit s u p) (mapRefNum s u p) with
    | some v => impK v
    | none => 0
  | 6 => flexK (flexeSlots s u p * 5156250 * 239) 238
  | 7 => oduK (fld c 30 28) 0
  | 8 => oduK (fld c 30 28) 0
  | 9 => oduK (fld c 30 28) (sizingRate s u p)
  | 0xA => if bit w2 35 then (groupGrains s (regionOf u) (fld w2 31 21)).length else pathGrains (fld w2 8 6)
  | _ => 0

/-- Slots that a port holds on its own account, side × 2^14 + slot: none for ODTU, packet and shim ports. -/
def portHold (s : State) (u p : Nat) : List Nat :=
  let c := mapCfg s u p
  let w2 := cwGet s (mapAddr u p 2)
  if mapAdapt c = 0 || mapAdapt c = 3 || mapAdapt c ≥ 0xA then []
  else (List.range (portK s u p)).map fun i => fld w2 35 35 * 0x4000 + fld w2 34 21 + i

/-- Grains that a GFP_SDH port holds. -/
def portGrains (s : State) (u p : Nat) : List Nat :=
  let w2 := cwGet s (mapAddr u p 2)
  if mapAdapt (mapCfg s u p) != 0xA then []
  else if bit w2 35 then groupGrains s (regionOf u) (fld w2 31 21)
  else (List.range (pathGrains (fld w2 8 6))).map fun i => fld w2 34 21 + i

/-- The runs of four run words: start and length, unused runs left out (R172). -/
def runsOf (ws : List Word) : List (Nat × Nat) :=
  (ws.flatMap fun w => [(fld w 35 26, fld w 25 18), (fld w 17 8, fld w 7 0)]).filter fun r => r.1 != 0

/-- The tributary slots of runs, in the order of the runs. -/
def tsOfRuns (rs : List (Nat × Nat)) : List Nat := rs.flatMap fun r => (List.range r.2).map fun i => r.1 + i

/-- Run words as written: 4 the receive runs, 8 the transmit runs. -/
def runWords (s : State) (u p first : Nat) : List Word := (List.range 4).map fun i => cwGet s (mapAddr u p (first + i))

/-- Run words in force, of a table of a running port. -/
def runsHeld (t : Tab Word) : List Word := (List.range 4).map fun i => tabGet 0 t i

/-- Rising order without repeats. -/
def insertRise (n : Nat) : List Nat → List Nat
  | [] => [n]
  | m :: t => if n < m then n :: m :: t else if n = m then m :: t else m :: insertRise n t

def sortRise (l : List Nat) : List Nat := l.foldl (fun t n => insertRise n t) []

/-- Slots of the server's block for tributary slots (R170). -/
def allotSlots (s : State) (hu hp : Nat) (ts : List Nat) : List Nat :=
  let w2 := cwGet s (mapAddr hu hp 2)
  let base := fld w2 35 35 * 0x4000 + fld w2 34 21
  match serverTs s hu hp with
  | some (_, true) => sortRise (ts.flatMap fun t => (List.range 4).map fun j => base + 4 * (t - 1) + j)
  | some (_, false) => sortRise (ts.map fun t => base + t - 1)
  | none => []

/-- RSZ_CFG of resize controller k, numbered 32 × die + controller. -/
def rszCfg (s : State) (k : Nat) : Word := cwGet s (ctlAddr clsDeck (k / 32) (0x100 + 4 * (k % 32)))

/-- A controller is enabled for a port. -/
def rszNames (s : State) (k u p : Nat) : Bool :=
  bit (rszCfg s k) 35 && fld (rszCfg s k) 31 26 == u && fld (rszCfg s k) 25 18 == p

/-- The tributary slots of an ODTU port in force: those of its run words, or the effective allotment of a resize whose
swap has landed (R230). -/
def allotment (s : State) (u p : Nat) (runs : Tab Word) : List Nat :=
  match (List.range 64).findSome? fun k => if rszNames s k u p then (tabGet ({} : Rsz) s.rsz k).eff else none with
  | some l => l
  | none => tsOfRuns (runsOf (runsHeld runs))

/-- Occupied output slots of a port (R173). -/
def portOut (s : State) (u p : Nat) : List Nat :=
  if mapAdapt (mapCfg s u p) = 3 then
    (allotSlots s (mapRefUnit s u p) (mapRefNum s u p)
      (allotment s u p (portGet s (portKey u p)).txRuns)).take (portK s u p)
  else if mapAdapt (mapCfg s u p) = 1 then []
  else portHold s u p

/-- Occupied input slots of a port (R173). -/
def portIn (s : State) (u p : Nat) : List Nat :=
  if mapAdapt (mapCfg s u p) = 3 then
    (allotSlots s (mapRefUnit s u p) (mapRefNum s u p)
      (allotment s u p (portGet s (portKey u p)).rxRuns)).take (portK s u p)
  else if mapAdapt (mapCfg s u p) = 1 then []
  else portHold s u p

/-! ### Fine blocks (R225) -/

def blkAddr (r b : Nat) : Nat := ctlAddr clsFine r b
/-- Grains of a fine block. -/
def blkGrains (w : Word) : Nat :=
  match fld w 33 31 with
  | 0 => 3
  | 1 => 12
  | 2 => 48
  | 3 => 192
  | 4 => 768
  | _ => 0
/-- Enabled fine blocks of a region: number and word. -/
def liveBlks (s : State) (r : Nat) : List (Nat × Word) :=
  (s.cw.filter fun e => ctlClass e.1 == clsFine && ctlNum e.1 == r && bit e.2 35).map fun e => (ctlIdx e.1, e.2)
def blkHolds (w : Word) (g : Nat) : Bool := decide (fld w 30 17 ≤ g) && decide (g < fld w 30 17 + blkGrains w)

/-! ### Carriers and pages (R202, R218) -/

def portCarrier (u p : Nat) : Nat := portKey u p
def blkCarrier (r b : Nat) : Nat := 12288 + r * 64 + b

/-- The carrier of an output, none for the tick itself. -/
def carrierOf (s : State) (a : Nat) : Option Nat :=
  if isFineAddr a then
    let r := bitsOf a 15 14
    let g := a % 0x4000
    match (liveBlks s r).find? fun b => blkHolds b.2 g with
    | some b => some (blkCarrier r b.1)
    | none => ((livePorts s).find? fun p => regionOf p.1 == r && (portGrains s p.1 p.2).contains g).map
        fun p => portCarrier p.1 p.2
  else ((livePorts s).find? fun p => (portHold s p.1 p.2).contains a).map fun p => portCarrier p.1 p.2

/-- Every carrier with outputs in a die. -/
def carriersOf (s : State) (d : Nat) : List Nat :=
  (((livePorts s).filter fun p => dieOf p.1 == d && (!(portHold s p.1 p.2).isEmpty || !(portGrains s p.1 p.2).isEmpty)).map
    fun p => portCarrier p.1 p.2) ++
  ([2 * d, 2 * d + 1].flatMap fun r => (liveBlks s r).map fun b => blkCarrier r b.1)

/-- An output reads the page that was active before the pending swap (R218). -/
def readsOldPage (s : State) (a : Nat) : Bool :=
  let k := dieDeck s (deckDie a)
  k.pending && (!k.eligible || (match carrierOf s a with | some c => !k.changed.contains c | none => false))

/-- The entry that an output now reads. -/
def outputEntry (s : State) (a : Nat) : Word := deckEntry s (readsOldPage s a) a

/-- The selector entry as an output in a page reads it. -/
def outputSelector (s : State) (a pair : Nat) : Word := deckEntry s (readsOldPage s a) (deckSel (deckDie a) pair)

/-- Every occupied input slot of enabled ports: an input slot in none of them delivers an open connection (R169). -/
def inputFilled (s : State) (slot : Nat) : Bool := (livePorts s).any fun p => (portIn s p.1 p.2).contains slot

/-- An output receives an open connection (R169, R203). -/
def openOutput (s : State) (a : Nat) : Bool :=
  let w := outputEntry s a
  !bit w 35 ||
    (if bit w 34 then
      let sel := outputSelector s a (entryPair a w)
      !bit sel 35
     else if isFineAddr a then false else !inputFilled s (entrySrc a w))

/-- A port demaps from an open connection: an occupied output slot, or a grain of a path, receives one. -/
def portOpen (s : State) (u p : Nat) : Bool :=
  (portOut s u p).any (fun a => openOutput s a) ||
    (portGrains s u p).any fun g => openOutput s (deckFine (regionOf u) g)

/-! ### Parts of a source (R210) -/

/-- The occupied input slots of the port-owned ODU whose lowest occupied input slot is a slot. -/
def sourceOdu (s : State) (slot : Nat) : Option (List Nat) :=
  ((livePorts s).find? fun p => match portIn s p.1 p.2 with | a :: _ => a == slot | [] => false).map
    fun p => portIn s p.1 p.2

/-- An input slot is owned by an enabled port. -/
def slotOwned (s : State) (slot : Nat) : Bool := inputFilled s slot

end Sys2Proof.Machine
end

