-- ==== Sys2Proof/Machine/Mapping.lean ====
section
/-! DEFINITION. Mapper ports: set-up, runs, replacement, FlexE calendars, packet channels and GFP (spec 05 R161 to R194). -/

namespace Sys2Proof.Machine

/-! ### Set-up checks (R163 to R167, Table 5-6) -/

/-- Another port of the window's set-up that a test accepts. -/
def otherPort (s : State) (u p : Nat) (f : Nat × Nat → Bool) : Bool := (livePorts s).any fun q => q != (u, p) && f q

/-- ADAPT of an enabled port, 0 where it is not enabled. -/
def liveAdapt (s : State) (u p : Nat) : Nat := if p < 192 && mapLive (mapCfg s u p) then mapAdapt (mapCfg s u p) else 0

/-- The lowest numbers shared by two lists. -/
def meet (a b : List Nat) : Bool := a.any fun x => b.contains x

/-- The STM-N of a rate code as an ODU type: ODU1, ODU2, ODU3 (Table 5-2). -/
def stmOdu (r : Nat) : Option Nat := if r = 1 then some 1 else if r = 2 then some 2 else if r = 7 then some 4 else none

/-- The bundle's STM-N as an ODU type. -/
def bundleOdu (w : Word) : Option Nat :=
  match fld w 33 31 with
  | 2 => some 1
  | 3 => some 2
  | 4 => some 4
  | _ => none

/-- Everything a port names lies where R163 requires. -/
def spanOk (s : State) (u p : Nat) : Bool :=
  let c := mapCfg s u p
  let a := mapAdapt c
  let r := regionOf u
  let base := cwFld s (mapAddr u p 2) 34 21
  (regionOf (mapRefUnit s u p) == r) && (a != 3 || clusterOf (mapRefUnit s u p) == clusterOf u) &&
    ((a != 9 && a != 0xA) || cwFld s (mapAddr u p 1) 21 21 == dieOf u) &&
    ((portHold s u p).isEmpty || (decide (r * 2560 ≤ base) && decide (base + portK s u p ≤ r * 2560 + 2560))) &&
    ((portGrains s u p).all fun g => decide (g < 12288))

/-- REF names what Table 5-2 requires, and ODU_TYPE fits the adaptation. -/
def refOk (s : State) (u p : Nat) : Bool :=
  let c := mapCfg s u p
  let ty := fld c 30 28
  let ru := mapRefUnit s u p
  let rn := mapRefNum s u p
  let f := frmCfg s ru rn
  let proto := if rn < 160 && frmLive f then frmProto f else 0
  match mapAdapt c with
  | 1 => ty == 0 && (proto == 1 || proto == 2 || (proto == 6 && fld f 13 11 == 5))
  | 2 => proto == 1 && ty == 5
  | 3 => liveAdapt s ru rn == 1 && ty != 7 &&
      !(ty == 5 && (match serverTs s ru rn with | some (_, q) => !q | none => true))
  | 4 => proto == 4 && ty == 5 && ethSpeed s ru rn == some 0
  | 5 => proto == 4 && ty == 6 && (match ethSpeed s ru rn with | some v => v != 0 | none => false)
  | 6 => liveAdapt s ru rn == 0xC && ru == u && ty == 6 &&
      (let n := flexeSlots s u p; n == 2 || n == 8 || (n != 0 && n % 5 == 0))
  | 7 => cbrOk s u ru rn c ty proto
  | 8 => cbrOk s u ru rn c ty proto
  | 9 => liveAdapt s ru rn == 0xB && (ty == 0 || ty == 6)
  | 0xA => liveAdapt s ru rn == 0xB && ty == 0 &&
      (bit (cwGet s (mapAddr u p 2)) 35 || decide (cwFld s (mapAddr u p 2) 8 6 ≤ 4))
  | 0xB => proto == 4 && ty == 0
  | 0xC => proto == 5 && ty == 0 && !otherPort s u p (fun q => q.1 == u && liveAdapt s q.1 q.2 == 0xC)
  | _ => false
where
  /-- A CBR client: an SDH line, or an enabled bundle of the region. -/
  cbrOk (s : State) (u ru rn : Nat) (c : Word) (ty proto : Nat) : Bool :=
    if bit c 2 then
      let w := cwGet s (blkAddr (regionOf u) rn)
      decide (rn < 64) && bit w 35 && bit w 34 && bundleOdu w == some ty
    else
      proto == 3 && (match commonRate s (fld (frmCfg s ru rn) 30 30) (lanesOf (frmLanes s ru rn)) with
        | some r => stmOdu r == some ty
        | none => false)

/-- The runs of an ODTU port lie in the server's range and number exactly its tributary slots; its MAP_SLOT is 0. -/
def tsOk (s : State) (u p : Nat) : Bool :=
  let c := mapCfg s u p
  if mapAdapt c != 3 then true
  else
    match serverTs s (mapRefUnit s u p) (mapRefNum s u p) with
    | none => false
    | some (n, q) =>
      cwGet s (mapAddr u p 2) == 0 &&
        [4, 8].all fun w =>
          let ts := tsOfRuns (runsOf (runWords s u p w))
          (runsOf (runWords s u p w)).all (fun r => r.2 != 0) && ts.all (fun t => decide (1 ≤ t) && decide (t ≤ n)) &&
            ts.length == oduTs q (fld c 30 28) (cwFld s (mapAddr u p 3) 31 0) && (sortRise ts).length == ts.length

/-- Tributary slots that an ODTU port holds: the runs written and those in force, of both directions. -/
def portTs (s : State) (u p : Nat) : List Nat :=
  let q := portGet s (portKey u p)
  [runWords s u p 4, runWords s u p 8, runsHeld q.txRuns, runsHeld q.rxRuns].flatMap fun w => tsOfRuns (runsOf w)

/-- Two ODTU ports of one server. -/
def sameServer (s : State) (u p : Nat) (q : Nat × Nat) : Bool :=
  liveAdapt s q.1 q.2 == 3 && mapRefUnit s q.1 q.2 == mapRefUnit s u p && mapRefNum s q.1 q.2 == mapRefNum s u p

/-- No slot, grain or tributary slot of the port is held by another. -/
def overlapFree (s : State) (u p : Nat) : Bool :=
  let c := mapCfg s u p
  let gs := portGrains s u p
  !(mapAdapt c == 3 && otherPort s u p (fun q => sameServer s u p q && meet (portTs s u p) (portTs s q.1 q.2))) &&
    !otherPort s u p (fun q => regionOf q.1 == regionOf u && meet (portHold s u p) (portHold s q.1 q.2)) &&
    !otherPort s u p (fun q => regionOf q.1 == regionOf u && meet gs (portGrains s q.1 q.2)) &&
    !(liveBlks s (regionOf u)).any (fun b => gs.any fun g => blkHolds b.2 g)

/-- RATE is non-zero exactly where required, and an ODUflex fits its server. -/
def rateOk (s : State) (u p : Nat) : Bool :=
  let c := mapCfg s u p
  let a := mapAdapt c
  let r := cwFld s (mapAddr u p 3) 31 0
  let flex := fld c 30 28 == 6 && (a == 3 || a == 9)
  (a == 0xC || (r != 0) == flex) &&
    (if flex && a == 3 then
      (match serverTs s (mapRefUnit s u p) (mapRefNum s u p) with
        | some (n, q) => decide (oduTs q 6 r ≤ n)
        | none => true)
     else true)

/-- Payload capacity of an SDH path in kbit/s: a VC-3, and the containers of a VC-4-Xc. -/
def pathRate (grains : Nat) : Nat := if grains < 3 then 48384 * grains else 149760 * (grains / 3)

/-- Server rate of a GFP port in kbit/s (R191). -/
def gfpRate (s : State) (u p : Nat) : Nat :=
  let c := mapCfg s u p
  if mapAdapt c = 9 then (if fld c 30 28 = 6 then cwFld s (mapAddr u p 3) 31 0 else 1244000)
  else pathRate (portGrains s u p).length

/-- The GFP ports of one CHAN_IF fit 95 % of its PHY rate. -/
def chanOk (s : State) (u p : Nat) : Bool :=
  let a := mapAdapt (mapCfg s u p)
  if a != 9 && a != 0xA then true
  else
    let ru := mapRefUnit s u p
    let rn := mapRefNum s u p
    let sum := ((livePorts s).filter fun q =>
      (liveAdapt s q.1 q.2 == 9 || liveAdapt s q.1 q.2 == 0xA) && mapRefUnit s q.1 q.2 == ru && mapRefNum s q.1 q.2 == rn).foldl
        (fun n q => n + gfpRate s q.1 q.2) 0
    match ethSpeed s (mapRefUnit s ru rn) (mapRefNum s ru rn) with
    | some v => decide (sum * 100 ≤ 100000000 * 2 ^ v * 95)
    | none => true

/-- The first condition of Table 5-6 that a port set-up breaks, as its status; 0 where none is. -/
def portStatus (s : State) (u p : Nat) : Nat :=
  let c := mapCfg s u p
  if !mapLive c then 0
  else if !spanOk s u p then St.regionSpan
  else if !refOk s u p then St.mapRef
  else if !tsOk s u p then St.mapTs
  else if !overlapFree s u p then St.slotOverlap
  else if mapAdapt c == 3 && (fld c 12 4 == 0 || otherPort s u p (fun q => sameServer s u p q && fld (mapCfg s q.1 q.2) 12 4 == fld c 12 4))
    then St.mapTpn
  else if !rateOk s u p then St.mapRate
  else if bit c 27 && (match ctxPlace s (fld c 26 13) with | some k => clusterOf (k / 256) != clusterOf u | none => true)
    then St.ctxCluster
  else if !chanOk s u p then St.chanRate
  else 0

/-- A resize controller is enabled for a port: MAP_RATE may then be written (R165, R231). -/
def resizing (s : State) (u p : Nat) : Bool :=
  (List.range 64).any fun c =>
    let cfg := cwGet s (ctlAddr clsDeck (c / 32) (0x100 + 4 * (c % 32)))
    bit cfg 35 && fld cfg 31 26 == u && fld cfg 25 18 == p

/-- The value a set-up word stores: its reserved bits read 0. -/
def mapValue (adapt w : Nat) (v : Word) : Word :=
  v &&& BitVec.ofNat 36 (if w = 3 then (if adapt = 0xC then 0x7F8000000 else 0x0FFFFFFFF) else (mapStore w).getD 0)

/-- A port's words with one write stored. -/
def mapStoreWord (u p w : Nat) (v : Word) (s : State) : State :=
  cwSet (mapAddr u p w) (mapValue (mapAdapt (mapCfg s u p)) w v) s

/-- The set-up of a port with every write of its window stored. -/
def mapPlan (u p : Nat) (ws : List MapWrite) (s : State) : State :=
  ws.foldl (fun s w => mapStoreWord u p w.word.val w.value s) s

/-- What refuses one write to a port whatever the rest of the window (R165, R167, R174). -/
def mapWriteStatus (before : State) (u p w : Nat) (v : Word) : Nat :=
  let old := mapCfg before u p
  if bit old 35 then
    if w = 0 then
      if mapValue (mapAdapt old) 0 v != putFld old 35 35 0 then St.portEnabled
      else if otherPort before u p (fun q =>
        let a := mapAdapt (mapCfg before q.1 q.2)
        (a == 3 || a == 6 || a == 9 || a == 0xA) && mapRefUnit before q.1 q.2 == u && mapRefNum before q.1 q.2 == p) then St.portInUse
      else 0
    else if w = 1 || w = 2 then St.portEnabled
    else if w = 3 then
      if mapAdapt old = 0xC then 0
      else if fld old 30 28 = 6 && (mapAdapt old = 3 || mapAdapt old = 9) && resizing before u p then 0 else St.portEnabled
    else if 8 ≤ w && (dieDeck before (dieOf u)).pending then St.deckBusy
    else 0
  else if 8 ≤ w && w ≤ 11 && (dieDeck before (dieOf u)).pending then St.deckBusy
  else 0

/-- What refuses one write to a port: it stands in the state before the window, and the writes already applied leave it
standing (R43, R165, R167, R174). -/
def mapRefusal (before s : State) (u p w : Nat) (v : Word) : Nat :=
  if mapWriteStatus s u p w v = 0 then 0 else mapWriteStatus before u p w v

/-- Lower-order streams follow the ports that demap them (R116). -/
def refreshTribs (s : State) : State :=
  (liveStreams s).foldl (fun s q => if frmProto (frmCfg s q.1 q.2) = 6 then releaseStream q.1 q.2 s else s) s

/-- Apply one write to a set-up or run word of a port, against the state before its window and the set-up that the window
gives (R164 to R166, R174, R175). -/
def applyMap (before plan : State) (u p w : Nat) (v : Word) (s : State) : Applied :=
  let st := match mapRefusal before s u p w v with
    | 0 => portStatus plan u p
    | n => n
  if st ≠ 0 then .error st
  else
    let was := mapLive (mapCfg s u p)
    let s := mapStoreWord u p w v s
    let k := portKey u p
    let q := portGet s k
    let live := mapLive (mapCfg s u p)
    if live && !was then
      let words := fun first => (List.range 4).foldl (fun t i => tabSet 0 t i (cwGet plan (mapAddr u p (first + i)))) []
      .ok (portPut k { q with on := false, txRuns := words 8, rxRuns := words 4, txPend := false, rxPend := false } s)
    else if mapLive (mapCfg before u p) && live && 8 ≤ w && w ≤ 11 then
      .ok (portPut k { q with txPend := !(runWords s u p 8 == runsHeld q.txRuns) } s)
    else if mapLive (mapCfg before u p) && live && 4 ≤ w && w ≤ 7 then
      .ok (portPut k { q with rxPend := !(runWords s u p 4 == runsHeld q.rxRuns) } s)
    else .ok s

/-- The writes of one window to a port, judged together. -/
def applyMapWrites (r : PortRef) (ws : List MapWrite) (s : State) : State :=
  let u := r.unit.val
  let p := r.port.val
  let plan := mapPlan u p ws s
  ws.foldl (fun t w => settle w.origin .word (mapAddr u p w.word.val) t (applyMap s plan u p w.word.val w.value t)) s

/-- MAP_CFG: the set-up writes of one window to a port (R164, R165, R166). -/
def execMapCfg (r : PortRef) (ws : List MapWrite) (s : State) : Result := .next (applyMapWrites r ws s)

/-- MAP_TX_RUN (R174): run writes 0 to 3. -/
def execMapTxRun (r : PortRef) (ws : List RunWrite) (s : State) : Result :=
  .next (applyMapWrites r (ws.map fun w => { origin := w.origin, word := ⟨8 + w.word.val, by omega⟩, value := w.value }) s)

/-- Receive runs written come into force at the server's frame boundary (R175). -/
def landRxRuns (u p : Nat) (s : State) : State :=
  let k := portKey u p
  let q := portGet s k
  refreshTribs (portPut k { q with
    rxPend := false
    rxRuns := (List.range 4).foldl (fun t i => tabSet 0 t i (cwGet s (mapAddr u p (4 + i)))) [] } s)

/-- MAP_RX_RUN (R175): the writes of a window, or the frame boundary at which they land. -/
def execMapRxRun (r : PortRef) (step : RunStep) (s : State) : Result :=
  .next (match step with
    | .write ws =>
      applyMapWrites r (ws.map fun w => { origin := w.origin, word := ⟨4 + w.word.val, by omega⟩, value := w.value }) s
    | .land => if (portGet s (portKey r.unit.val r.port.val)).rxPend then landRxRuns r.unit.val r.port.val s else s)

/-- Transmit runs that wait come into force with the swap of their die (R174, R222). -/
def landTxRuns (u p : Nat) (s : State) : State :=
  let k := portKey u p
  let q := portGet s k
  if q.txPend then
    portPut k { q with
      txPend := false
      txRuns := (List.range 4).foldl (fun t i => tabSet 0 t i (cwGet s (mapAddr u p (8 + i)))) [] } s
  else s

/-- MAP_PORT_START (R166): at its frame boundary a port starts, or stops. -/
def execMapPortStart (r : PortRef) (s : State) : Result :=
  let k := portKey r.unit.val r.port.val
  let q := portGet s k
  .next (if mapLive (mapCfg s r.unit.val r.port.val) then refreshTribs (portPut k { q with on := true } s)
    else refreshTribs (portPut k { cnt0 := q.cnt0, cnt1 := q.cnt1, calUse := q.calUse } s))

/-- MAP_CNT_CLR (Table 5-15). -/
def execMapCntClr (r : PortRef) (s : State) : Result :=
  let k := portKey r.unit.val r.port.val
  .next (portPut k { portGet s k with cnt0 := 0, cnt1 := 0 } s)

/-! ### Counts (Table 5-15) -/

/-- Add to a field of MAP_CNT0 or MAP_CNT1, held at its top. -/
def cntAdd (w : Word) (hi lo n : Nat) : Word := putFld w hi lo (min (fld w hi lo + n) (2 ^ (hi + 1 - lo) - 1))

def countPort0 (k hi lo n : Nat) (s : State) : State := portPut k { portGet s k with cnt0 := cntAdd (portGet s k).cnt0 hi lo n } s
def countPort1 (k hi lo n : Nat) (s : State) : State := portPut k { portGet s k with cnt1 := cntAdd (portGet s k).cnt1 hi lo n } s

/-! ### Failure and replacement (R168, R169, R180, R181) -/

/-- A stream is enabled and its context has no TSF. -/
def streamGood (s : State) (u n : Nat) : Bool :=
  frmLive (frmCfg s u n) && !defOn (monGet s (fld (frmCfg s u n) 27 14)) Df.tsf

/-- The client of a port has failed or is absent. -/
def clientFailed (s : State) (u p : Nat) : Bool :=
  let c := mapCfg s u p
  let ru := mapRefUnit s u p
  let rn := mapRefNum s u p
  match mapAdapt c with
  | 4 => !streamGood s ru rn
  | 5 => !streamGood s ru rn
  | 6 =>
    let su := mapRefUnit s ru rn
    let sn := mapRefNum s ru rn
    flexeSlots s u p == 0 || !frmLive (frmCfg s su sn) ||
      s.mons.any fun e => monLayer e.2 == 0xE && monServer e.2 == fld (frmCfg s su sn) 27 14 && defOn e.2 Df.tsf
  | 7 => if bit c 2 then !bit (cwGet s (blkAddr (regionOf u) rn)) 35 else !streamGood s ru rn
  | 8 => if bit c 2 then !bit (cwGet s (blkAddr (regionOf u) rn)) 35 else !streamGood s ru rn
  | 9 => !streamGood s (mapRefUnit s ru rn) (mapRefNum s ru rn)
  | 0xA => !streamGood s (mapRefUnit s ru rn) (mapRefNum s ru rn)
  | 0xB => !streamGood s ru rn
  | 0xC => !streamGood s ru rn
  | _ => false

/-- LOA stands for a group (R254). -/
def groupLoa (s : State) (d g : Nat) : Bool := (tabGet ({} : Group) s.groups (d * 2048 + g)).loa

/-- The ODU or path of a port has SSF or TSF, its server is out of frame or gone, or it receives an open connection. -/
def serverFailed (s : State) (u p : Nat) : Bool :=
  let c := mapCfg s u p
  let a := mapAdapt c
  let ru := mapRefUnit s u p
  let rn := mapRefNum s u p
  let mon := bit c 27 && (defOn (monGet s (fld c 26 13)) Df.ssf || defOn (monGet s (fld c 26 13)) Df.tsf)
  let away := fun u n => !frmLive (frmCfg s u n) || (framerGet s (streamKey u n)).oof
  mon ||
    (match a with
    | 1 => away ru rn
    | 2 => away ru rn
    | 3 => away (mapRefUnit s ru rn) (mapRefNum s ru rn)
    | _ => false) ||
    (a != 1 && a < 0xB && portOpen s u p) ||
    (a == 0xA && bit (cwGet s (mapAddr u p 2)) 35 && groupLoa s (dieOf u) (cwFld s (mapAddr u p 2) 31 21))

/-- A GFP port whose delineation is not in SYNC behaves as under R181 (R193). -/
def gfpLost (s : State) (u p : Nat) : Bool :=
  let a := mapAdapt (mapCfg s u p)
  (a == 9 || a == 0xA) && (portGet s (portKey u p)).delin != .sync

/-- A direction of a port is failed. -/
def directionFailed (s : State) (u p : Nat) (rx : Bool) : Bool :=
  if rx then serverFailed s u p || gfpLost s u p else clientFailed s u p

/-- CLIENT_REPLACEMENT_START (R180, R181): at a boundary after the failure. -/
def execClientReplacementStart (r : PortRef) (rx : Bool) (s : State) : Result :=
  let k := portKey r.unit.val r.port.val
  let q := portGet s k
  .next (if q.on && directionFailed s r.unit.val r.port.val rx then
      portPut k (if rx then { q with replRx := true } else { q with replTx := true }) s
    else s)

/-- CLIENT_REPLACEMENT_END (R180, R181): at the first boundary after it has cleared. -/
def execClientReplacementEnd (r : PortRef) (rx : Bool) (s : State) : Result :=
  let k := portKey r.unit.val r.port.val
  let q := portGet s k
  .next (if directionFailed s r.unit.val r.port.val rx then s
    else portPut k (if rx then { q with replRx := false } else { q with replTx := false }) s)

/-- GFP_CSF_SEND (R180): every 100 ms of client failure. -/
def execGfpCsfSend (r : PortRef) (s : State) : Result :=
  let a := mapAdapt (mapCfg s r.unit.val r.port.val)
  .next (if (a == 9 || a == 0xA) && (portGet s (portKey r.unit.val r.port.val)).replTx then
      emit (.gfpCsf r.unit.val r.port.val) s else s)

/-- CSF_RX_TIMEOUT (R181). -/
def execCsfRxTimeout (r : PortRef) (s : State) : Result :=
  let k := portKey r.unit.val r.port.val
  .next (portPut k { portGet s k with csfRx := false } s)

/-! ### FlexE calendars (R184 to R186) -/

/-- A write to a word of a calendar: refused for the calendar in use and while a switch is in progress (R184). -/
def applyCal (u idx : Nat) (v : Word) (s : State) : Applied :=
  match (livePorts s).find? fun q => q.1 == u && liveAdapt s q.1 q.2 == 0xC with
  | some q =>
    let pt := portGet s (portKey q.1 q.2)
    if pt.calBusy || pt.calUse == decide (idx ≥ 0xD00) then .error St.calActive
    else .ok (cwSet (ctlAddr clsMap u idx) v s)
  | none => .ok (cwSet (ctlAddr clsMap u idx) v s)

/-- The standby calendar of a shim fits its clients (R185). -/
def calShapeOk (s : State) (u p : Nat) : Bool :=
  let b := !(portGet s (portKey u p)).calUse
  let clients := (livePorts s).filter fun q => q.1 == u && liveAdapt s q.1 q.2 == 6
  clients.all (fun q => calCount s u b q.2 != 0 && calCount s u b q.2 == flexeSlots s u q.2) &&
    (List.range 640).all fun e =>
      let v := calEntry s u b e
      v < 256 || (v % 256 < 192 && mapAdapt (mapCfg s u (v % 256)) == 6)

/-- A write to SHIM_CTRL of an enabled shim (Table 5-9, R184, R185). -/
def applyShim (u p : Nat) (v : Word) (s : State) : Applied :=
  let k := portKey u p
  if bit v 35 then
    if (portGet s k).calBusy then .error St.calActive
    else if liveAdapt s u p != 0xC || !calShapeOk s u p then .error St.calShape
    else .ok (portPut k { portGet s k with calBusy := true } (mapStoreWord u p 3 v s))
  else .ok (mapStoreWord u p 3 v s)

/-- SHIM_CAL_REQ (R185, R186). -/
def execShimCalReq (r : PortRef) (w : CtlWrite) (s : State) : Result :=
  .next (settle w.origin .word (mapAddr r.unit.val r.port.val 3) s (applyShim r.unit.val r.port.val w.value s))

/-- FLEXE_CAL_SWITCH (R186): CA accepted equals the new calendar. -/
def execFlexeCalSwitch (r : PortRef) (s : State) : Result :=
  let k := portKey r.unit.val r.port.val
  let q := portGet s k
  .next (if q.calBusy then countPort0 k 35 18 1 (portPut k { q with calBusy := false, calUse := !q.calUse } s) else s)

/-- FLEXE_CAL_TIMEOUT (R186). -/
def execFlexeCalTimeout (r : PortRef) (s : State) : Result :=
  let k := portKey r.unit.val r.port.val
  let q := portGet s k
  .next (if q.calBusy then
      record0 0x0E srcHardware (mkWord [(30, r.unit.val), (22, r.port.val), (21, b2n (!q.calUse))])
        (countPort0 k 17 0 1 (portPut k { q with calBusy := false } s))
    else s)

/-! ### GFP reception (R181, R193) -/

/-- A header as received: correct, with a single-bit error, or with more. -/
def headerSound (d : Delin) (h : GfpHeader) : Bool :=
  match h with
  | .good => true
  | .single => d == .sync
  | .bad => false

/-- Delineation after a header (DELTA = 1). -/
def delinAfter (d : Delin) (h : GfpHeader) : Delin :=
  if headerSound d h then (match d with | .hunt => .presync | _ => .sync) else .hunt

/-- GFP_FRAME_RX (R193, R181): in SYNC a corrected header counts in CHEC_CORR and a lost frame in CHEC_DROP; a data frame
enters the egress buffer of two frames, a CSF sets CSF_RX. -/
def execGfpFrameRx (r : PortRef) (h : GfpHeader) (f : GfpRx) (s : State) : Result :=
  let u := r.unit.val
  let p := r.port.val
  let k := portKey u p
  let a := mapAdapt (mapCfg s u p)
  let q := portGet s k
  .next (if !q.on || !(a == 9 || a == 0xA) then s
    else
      let synced := q.delin == .sync
      let s := portPut k { q with delin := delinAfter q.delin h } s
      let s := if synced && h == .single then countPort1 k 35 18 1 s else s
      if !synced then s
      else if h == .bad then countPort1 k 17 0 1 s
      else match f with
        | .idle => s
        | .csf => portPut k { portGet s k with csfRx := true } s
        | .data bytes bad =>
          let q := portGet s k
          if q.replRx || q.egress.length ≥ 2 then s
          else portPut k { q with egress := q.egress ++ [{ bytes := bytes, bad := bad }] } s)

/-! ### The channel header (R187, R190, Table 5-10) -/

/-- HCRC of header octets 0 to 5. -/
def headerCrc (h : List Nat) : Nat := (h.take 6).foldl (fun r o => crcOctet crcP2 r o) crcP2.init

/-- A channel header. -/
def chanHeader (msg bad xoff : Bool) (chan len : Nat) : List Nat :=
  let h := [0x10 + b2n msg * 8 + bitsOf chan 10 8, bitsOf chan 7 0, bitsOf len 13 8, bitsOf len 7 0,
    b2n bad * 128 + b2n xoff * 64, 0]
  h ++ [headerCrc h / 256, headerCrc h % 256]

/-- The enabled GFP ports of a CHAN_IF port, by port key. -/
def gfpPortsOf (s : State) (u p : Nat) : List (Nat × Nat) :=
  (livePorts s).filter fun q =>
    (liveAdapt s q.1 q.2 == 9 || liveAdapt s q.1 q.2 == 0xA) && mapRefUnit s q.1 q.2 == u && mapRefNum s q.1 q.2 == p

/-- The next GFP port in round-robin order that has a frame to send. -/
def nextEgress (s : State) (u p : Nat) : Option (Nat × Nat) :=
  let ready := (gfpPortsOf s u p).filter fun q => !(portGet s (portKey q.1 q.2)).egress.isEmpty
  match ready.find? fun q => portKey q.1 q.2 > (portGet s (portKey u p)).served with
  | some q => some q
  | none => ready.head?

/-- CHAN_FRAME_TX (R190). -/
def execChanFrameTx (r : PortRef) (s : State) : Result :=
  let u := r.unit.val
  let p := r.port.val
  .next (match nextEgress s u p with
    | none => s
    | some q =>
      let k := portKey q.1 q.2
      match (portGet s k).egress with
      | [] => s
      | e :: rest =>
        let s := portPut k { portGet s k with egress := rest } s
        let s := portPut (portKey u p) { portGet s (portKey u p) with served := k } s
        emit (.chanFrame u p (chanHeader false e.bad false (cwFld s (mapAddr q.1 q.2 1) 21 11) e.bytes.length) e.bytes) s)

end Sys2Proof.Machine
end

