-- ==== Sys2Proof/Machine/Queues.lean ====
section
/-! DEFINITION. Client queues and host queues: arrival, reading, set-up, watermarks and flush (spec 05 R188 to R200, 10
R336 to R351). -/

namespace Sys2Proof.Machine

/-! ### Client queues as they run -/

def cqGet (s : State) (q : Nat) : ClientQueue := tabGet {} s.cq q
def cqPut (q : Nat) (c : ClientQueue) (s : State) : State := s.putCq (tabSet {} s.cq q c)
def cqOn (s : State) (q : Nat) : Bool := bit (cwGet s (cqAddr q 0)) 35
def cqFill (s : State) (q : Nat) : Nat := ptrFill (cqSize s q) (cqGet s q).rp (cqGet s q).wp

/-- Give a client queue a high state; a change with PAUSE_EN waits as a message (R192). -/
def cqHigh (q : Nat) (hi : Bool) (s : State) : State :=
  let c := cqGet s q
  if c.high = hi then s
  else cqPut q { c with high := hi, pause := if bit (cwGet s (cqAddr q 2)) 30 then some hi else c.pause } s

/-- Re-evaluate the high state after a change of FILL (R346). -/
def cqLevel (q : Nat) (s : State) : State :=
  cqHigh q (highAfter (cqGet s q).high (cqFill s q) (cwFld s (cqAddr q 1) 35 18) (cwFld s (cqAddr q 1) 17 0)) s

/-- FC_OUT of a flow-control group (R200, R348). -/
def fcOut (s : State) (g : Nat) : Bool :=
  s.cq.any fun e => e.2.high && cqOn s e.1 && bit (cwGet s (cqAddr e.1 2)) 35 && cwFld s (cqAddr e.1 2) 34 31 == g

/-- The GFP port that serves a client queue. -/
def gfpPortOfQueue (s : State) (q : Nat) : Option (Nat × Nat) :=
  (livePorts s).find? fun p =>
    (liveAdapt s p.1 p.2 == 9 || liveAdapt s p.1 p.2 == 0xA) && cwFld s (mapAddr p.1 p.2 1) 21 11 == q

/-- Send a frame of a client queue through its GFP port. -/
def sendFrame (q : Nat) (bytes : List (Fin 256)) (bad : Bool) (s : State) : State :=
  match gfpPortOfQueue s q with
  | some p => emit (.gfpFrame p.1 p.2 bytes bad) s
  | none => s

/-- Count an aborted frame of a client queue in its GFP port. -/
def countUnderrun (q : Nat) (s : State) : State :=
  match gfpPortOfQueue s q with
  | some p => countPort0 (portKey p.1 p.2) 35 0 1 s
  | none => s

/-- The producer drops the rest of the frame that it was writing to a queue. -/
def swallowArrival (q : Nat) (s : State) : State :=
  s.putPorts (tabMap {} (fun (k : Port) => match k.rx with
      | some r => if r.queue = some q then { k with rx := some { r with queue := none } } else k
      | none => k) s.ports)

/-- The started frame at the read end ends as an underrun (R198): octets not read become 00h, the carried FCS is inverted,
the rest of it is discarded. -/
def underrunHead (q : Nat) (s : State) : State :=
  let c := cqGet s q
  match c.items with
  | [] => s
  | i :: rest =>
    let sent := i.bytes.take (Nat.min i.len (i.read * 32))
    let n := cqSize s q
    let s := cqPut q { c with items := rest, rp := ptrAdvance n c.rp (i.wrote - i.read) } s
    let s := if i.complete then s else swallowArrival q s
    cqLevel q (countUnderrun q (sendFrame q (sent ++ List.replicate (i.len - sent.length) 0) true s))

/-- Discard the oldest complete frames that are not started until a line is free (R197, R343): frames left, RP, and how
many were discarded. -/
def cqDiscard (n : Nat) (rp wp : Ptr) : List ClientItem → Ptr × List ClientItem × Nat
  | [] => (rp, [], 0)
  | i :: rest =>
    if ptrFill n rp wp < n || i.started || !i.complete then (rp, i :: rest, 0)
    else
      let r := cqDiscard n (ptrAdvance n rp i.wrote) wp rest
      (r.1, r.2.1, r.2.2 + 1)

/-- Change the frame being written, the newest. -/
def setNewest (f : ClientItem → ClientItem) : List ClientItem → List ClientItem
  | [] => []
  | [i] => [f i]
  | i :: t => i :: setNewest f t

/-- Drop the frame being written. -/
def dropNewest (c : ClientQueue) : ClientQueue := { c with items := c.items.dropLast, wp := c.isAt }

/-- The arriving frame finds no room: it is discarded and LOST counts; one that the GFP source has started ends as an
underrun (R343, R198). -/
def loseArrival (q : Nat) (s : State) : State :=
  let s := cwCount (cqAddr q 3) 1 s
  match (cqGet s q).items.getLast? with
  | some i => if i.started then underrunHead q s else cqLevel q (swallowArrival q (cqPut q (dropNewest (cqGet s q)) s))
  | none => s

/-- Write so many lines of the arriving frame, making room line by line (R339, R343). -/
def writeLines (q : Nat) : Nat → State → State
  | 0, s => s
  | k + 1, s =>
    let c := cqGet s q
    match c.items.getLast? with
    | none => s
    | some i =>
      if i.complete then s
      else
        let n := cqSize s q
        let d := cqDiscard n c.rp c.wp c.items
        let s := cwCount (cqAddr q 3) d.2.2 (cqPut q { c with rp := d.1, items := d.2.1 } s)
        let c := cqGet s q
        if ptrFill n c.rp c.wp ≥ n then loseArrival q s
        else
          writeLines q k (cqLevel q (cqPut q { c with
            wp := ptrAdvance n c.wp 1, items := setNewest (fun i => { i with wrote := i.wrote + 1 }) c.items } s))

/-! ### Frames from the NPU (R187 to R189) -/

/-- The fields of a channel header are in order: VER, MSG, the reserved bits and HCRC. -/
def headerOk (h : List Nat) : Bool :=
  match h with
  | [b0, _, b2, _, b4, b5, c0, c1] =>
    bitsOf b0 7 4 == 1 && bitsOf b0 3 3 == 0 && bitsOf b2 7 6 == 0 && bitsOf b4 5 0 == 0 && b5 == 0 &&
      headerCrc h == c0 * 256 + c1
  | _ => false

/-- Channel ID and LEN of a header. -/
def headerChan (h : List Nat) : Nat := bitsOf (h.getD 0 0) 2 0 * 256 + h.getD 1 0
def headerLen (h : List Nat) : Nat := bitsOf (h.getD 2 0) 5 0 * 256 + h.getD 3 0

/-- The start of a frame (R188). -/
def chanHead (u p : Nat) (h : List Nat) (s : State) : State :=
  let k := portKey u p
  let drop := fun (s : State) => portPut k { portGet s k with rx := some { queue := none, len := 0, got := 0 } } s
  if !headerOk h then drop (countPort0 k 35 18 1 s)
  else
    let q := headerChan h
    let w2 := cwGet s (cqAddr q 2)
    if !cqOn s q || q / 1024 != dieOf u || fld w2 28 23 != u || fld w2 22 15 != p then drop (countPort0 k 17 0 1 s)
    else if headerLen h < 60 || headerLen h > 9600 then drop (countPort1 k 17 0 1 s)
    else
      let c := cqGet s q
      portPut k { portGet s k with rx := some { queue := some q, len := headerLen h, got := 0 } }
        (cqPut q { c with items := c.items ++ [{ len := headerLen h }], isAt := c.wp } s)

/-- Carried octets of a frame; those beyond LEN are only counted. -/
def chanData (u p : Nat) (bs : List (Fin 256)) (s : State) : State :=
  let k := portKey u p
  match (portGet s k).rx with
  | none => s
  | some r =>
    let s := portPut k { portGet s k with rx := some { r with got := r.got + bs.length } } s
    match r.queue with
    | none => s
    | some q =>
      let take := bs.take (r.len - r.got)
      let c := cqGet s q
      let s := cqPut q { c with items := setNewest (fun i => { i with bytes := i.bytes ++ take }) c.items } s
      match (cqGet s q).items.getLast? with
      | some i => writeLines q (i.bytes.length / 32 - i.wrote) s
      | none => s

/-- The frame arrived whole and sound: its last line is written and it is complete. -/
def chanComplete (q : Nat) (s : State) : State :=
  let s := match (cqGet s q).items.getLast? with
    | some i => writeLines q ((i.bytes.length + 31) / 32 - i.wrote) s
    | none => s
  match (cqGet s q).items.getLast? with
  | some i => if i.wrote * 32 ≥ i.bytes.length then
      cqPut q { cqGet s q with items := setNewest (fun i => { i with complete := true }) (cqGet s q).items } s else s
  | none => s

/-- The end of a frame (R189). -/
def chanFinish (u p : Nat) (fcsOk : Bool) (s : State) : State :=
  let k := portKey u p
  match (portGet s k).rx with
  | none => s
  | some r =>
    let s := portPut k { portGet s k with rx := none } s
    match r.queue with
    | none => s
    | some q =>
      let started := match (cqGet s q).items.getLast? with | some i => i.started | none => false
      if r.got ≠ r.len then
        let s := countPort1 k 17 0 1 s
        if started then underrunHead q s else cqLevel q (cqPut q (dropNewest (cqGet s q)) s)
      else if !fcsOk then
        let s := countPort1 k 35 18 1 s
        if started then
          let s := chanComplete q s
          cqPut q { cqGet s q with items := setNewest (fun i => { i with bad := true }) (cqGet s q).items } s
        else cqLevel q (cqPut q (dropNewest (cqGet s q)) s)
      else chanComplete q s

/-- CHAN_FRAME_RX (R188, R189). -/
def execChanFrameRx (r : PortRef) (step : ChanStep) (s : State) : Result :=
  let u := r.unit.val
  let p := r.port.val
  .next (if liveAdapt s u p != 0xB || !(portGet s (portKey u p)).on then s
    else match step with
      | .head h => chanHead u p (h.map (·.val)) s
      | .data bs => chanData u p bs s
      | .finish ok => chanFinish u p ok s)

/-- PAUSE_MSG_SEND (R192): a waiting XOFF or XON message leaves at a frame boundary of the CHAN_IF. -/
def execPauseMsgSend (q : CqId) (s : State) : Result :=
  let c := cqGet s q.val
  let w2 := cwGet s (cqAddr q.val 2)
  .next (match c.pause with
    | some x =>
      emit (.chanFrame (fld w2 28 23) (fld w2 22 15) (chanHeader true false x q.val 0) (List.replicate 52 0))
        (cqPut q.val { c with pause := none } s)
    | none => s)

/-! ### The GFP source (R198) -/

/-- The frame at the read end may start: CT lines of it are in the queue, or it is complete. -/
def mayStart (s : State) (q : Nat) (i : ClientItem) : Bool :=
  let ct := cwFld s (cqAddr q 0) 8 0
  i.complete || (ct != 0 && decide (i.wrote ≥ ct))

/-- The source reads lines of the started frame that are in the queue; the frame leaves when all of it is read. -/
def readLines (q lines : Nat) (s : State) : State :=
  let c := cqGet s q
  match c.items with
  | [] => s
  | i :: rest =>
    if !i.started then s
    else
      let k := Nat.min lines (i.wrote - i.read)
      let i := { i with read := i.read + k }
      let c := { c with rp := ptrAdvance (cqSize s q) c.rp k }
      if i.complete && i.read = i.wrote then
        cqLevel q (sendFrame q i.bytes i.bad (cqPut q { c with items := rest } s))
      else cqLevel q (cqPut q { c with items := i :: rest } s)

/-- GFP_FRAME_START (R198): a frame that may start is started, and the source reads so many of its lines; given again, it
goes on with a started frame. -/
def execGfpFrameStart (r : PortRef) (lines : Nat) (s : State) : Result :=
  let u := r.unit.val
  let p := r.port.val
  let a := liveAdapt s u p
  .next (if !(a == 9 || a == 0xA) || !(portGet s (portKey u p)).on then s
    else
      let q := cwFld s (mapAddr u p 1) 21 11
      let c := cqGet s q
      match c.items with
      | [] => s
      | i :: rest =>
        let s := if !i.started && mayStart s q i && cqOn s q then
            cqPut q { c with items := { i with started := true } :: rest } s else s
        readLines q lines s)

/-- GFP_UNDERRUN (R198): the source needs an octet of a started frame that has not arrived. -/
def execGfpUnderrun (r : PortRef) (s : State) : Result :=
  let u := r.unit.val
  let p := r.port.val
  let a := liveAdapt s u p
  let q := cwFld s (mapAddr u p 1) 21 11
  .next (if !(a == 9 || a == 0xA) then s
    else match (cqGet s q).items with
      | i :: _ => if i.started && !i.complete && i.read = i.wrote then underrunHead q s else s
      | [] => s)

/-! ### Flush (R349, R350, R199) -/

/-- The Q_FLUSH record; SRC names the engine whose instruction flushed the queue (R485). -/
def flushRecord (src inst q discarded truncated : Nat) (s : State) : State :=
  record0 0x1A src
    (mkWord [(33, inst), (23, q), (12, Nat.min discarded 0x7FF), (1, Nat.min truncated 0x7FF)]) s

/-- Flush a client queue: a started frame ends as an underrun, an arriving one is truncated. -/
def flushClient (src q : Nat) (s : State) : State :=
  let c := cqGet s q
  let started := match c.items with | i :: _ => i.started | [] => false
  let s := if started then underrunHead q s else s
  let c := cqGet s q
  let discarded := (c.items.filter (·.complete)).length
  let truncated := (c.items.filter fun i => !i.complete).length
  let s := if truncated > 0 then swallowArrival q s else s
  flushRecord src (q / 1024) (q % 1024) discarded truncated (cqLevel q (cqPut q { c with items := [], wp := c.rp } s))

/-- CLIENT_QUEUE_FLUSH (R199, R349). -/
def execClientQueueFlush (o : Origin) (q : CqId) (s : State) : Result :=
  .next (flushClient (srcNumber o.src) q.val s)

/-- Mark the open items of one engine on a queue truncated. -/
def truncateItem (q : Nat) (E : Engine) : Engine :=
  match E.item with
  | some it => if it.queue = q then { E with item := some { it with truncated := true } } else E
  | none => E

/-- An engine has an open item on a queue that is not yet truncated. -/
def itemOpen (q : Nat) (E : Engine) : Bool :=
  match E.item with
  | some it => it.queue == q && !it.truncated
  | none => false

/-- Flush a host queue: its items are discarded, items open at engines are truncated. -/
def flushHost (src q : Nat) (s : State) : State :=
  let h := hqGet s q
  let truncated := (s.engines.filter fun e => itemOpen q e.2).length +
    (match s.suspended with | some E => b2n (itemOpen q E) | none => 0)
  let s := (s.putEngines (tabMap {} (truncateItem q) s.engines)).putSuspended (s.suspended.map (truncateItem q))
  flushRecord src 2 q h.items.length truncated (hqLevel q (hqPut q { h with items := [], wp := h.rp } s))

/-- HOST_QUEUE_FLUSH (R349). -/
def execHostQueueFlush (o : Origin) (q : HqId) (s : State) : Result :=
  .next (flushHost (srcNumber o.src) q.val s)

/-! ### Set-up (R196, R347, R351) -/

/-- Lines of two enabled queues overlap. -/
def rangesMeet (a n b m : Nat) : Bool := decide (a < b + m) && decide (b < a + n)

/-- What refuses the set-up of an enabled client queue (R196). -/
def cqStatus (s : State) (q : Nat) : Nat :=
  if !cqOn s q then 0
  else
    let w := cwGet s (cqAddr q 0)
    let n := cqSize s q
    let w1 := cwGet s (cqAddr q 1)
    let w2 := cwGet s (cqAddr q 2)
    let u := fld w2 28 23
    if n = 0 || fld w 34 17 + n > 262144 ||
        (s.cw.any fun e =>
          ctlClass e.1 == clsQueue && ctlNum e.1 == q / 1024 && ctlIdx e.1 % 4 == 0 && ctlIdx e.1 / 4 != q % 1024 &&
            bit e.2 35 && rangesMeet (fld w 34 17) n (fld e.2 34 17) (fld e.2 16 9 * 64)) then St.queueSpace
    else if !(fld w1 17 0 < fld w1 35 18 && fld w1 35 18 ≤ n) then St.thrRange
    else if liveAdapt s u (fld w2 22 15) != 0xB || dieOf u != q / 1024 then St.mapRef
    else 0

/-- What refuses the set-up of an enabled host queue (R351). -/
def hqStatus (s : State) (q : Nat) : Nat :=
  if !hqOn s q then 0
  else
    let w := cwGet s (hqCfgAddr q)
    let n := hqSize s q
    let w1 := cwGet s (hqWmAddr q)
    if n = 0 || fld w 33 18 + n > 65536 ||
        ((List.range 8).any fun k => k != q && hqOn s k &&
          rangesMeet (fld w 33 18) n (cwFld s (hqCfgAddr k) 33 18) (hqSize s k)) then St.queueSpace
    else if !(fld w1 17 0 < fld w1 35 18 && fld w1 35 18 ≤ n) then St.thrRange
    else 0

/-- The audio port AP3 gives its lands to a flow-control group of 12 to 15 (Table 1-7): it mutes, releases them and is
disabled. -/
def displaceAp3 (group : Nat) (s : State) : State :=
  let a := ctlAddr clsAud 3 0
  if cwFld s a 35 35 = 1 then
    record0 0x07 srcHardware (mkWord [(32, 1), (0, group)]) (cwPut a 35 35 0 (s.putAudio (tabDrop 3 s.audio)))
  else s

/-- A word of a client queue with one write stored. -/
def cqStore (q w : Nat) (v : Word) (s : State) : State :=
  cwSet (cqAddr q w) (v &&& BitVec.ofNat 36 ((queueStore 0 w).getD 0)) s

/-- What refuses a write to a client queue for itself (R167, R196). -/
def cqWriteStatus (s : State) (q w : Nat) (v : Word) : Nat :=
  let old := cwGet s (cqAddr q 0)
  if w = 0 && bit old 35 && fld v 34 9 != fld old 34 9 then St.portEnabled
  else if w = 0 && bit old 35 && !bit v 35 && (gfpPortOfQueue s q).isSome then St.portInUse
  else 0

/-- Apply one write to a word of a client queue, against the set-up that its window gives (R167, R196, R345, R347). -/
def applyCq (src : Nat) (plan : State) (q w : Nat) (v : Word) (s : State) : Applied :=
  let old := cwGet s (cqAddr q 0)
  let st := match cqWriteStatus s q w v with
    | 0 => cqStatus plan q
    | n => n
  if st ≠ 0 then .error st
  else
    let s := if w = 0 && bit old 35 && !bit v 35 then flushClient src q s else s
    let s := cqStore q w v s
    let s := if w = 0 && !bit old 35 && bit v 35 then cqPut q {} s else s
    let s := if w = 1 && cqOn s q then cqLevel q s else s
    if w = 2 then
      let s := if bit v 35 && fld v 34 31 ≥ 12 then displaceAp3 (fld v 34 31) s else s
      .ok (if bit v 29 then flushClient src q s else s)
    else .ok s

/-- The writes of one window to a client queue, judged together. -/
def applyCqWrites (q : Nat) (ws : List QueueWrite) (s : State) : State :=
  let plan := ws.foldl (fun s w => cqStore q w.word.val w.value s) s
  ws.foldl (fun t w => settle w.origin .word (cqAddr q w.word.val) t (applyCq (srcNumber w.origin.src) plan q w.word.val w.value t)) s

/-- CQ_CTRL: the set-up and control writes of one window to a client queue (R196). -/
def execCqCtrl (q : CqId) (ws : List QueueWrite) (s : State) : Result := .next (applyCqWrites q.val ws s)

def hqAddr (q w : Nat) : Nat := ctlAddr clsQueue 2 (4 * q + w)

/-- A word of a host queue with one write stored. -/
def hqStore (q w : Nat) (v : Word) (s : State) : State :=
  cwSet (hqAddr q w) (v &&& BitVec.ofNat 36 ((queueStore 2 w).getD 0)) s

/-- What refuses a write to a host queue for itself (R351). -/
def hqWriteStatus (s : State) (q w : Nat) (v : Word) : Nat :=
  let old := cwGet s (hqAddr q 0)
  if w = 0 && bit old 35 && fld v 34 7 != fld old 34 7 then St.portEnabled else 0

/-- Apply one write to a word of a host queue, against the set-up that its window gives (R345, R347, R351). -/
def applyHq (src : Nat) (plan : State) (q w : Nat) (v : Word) (s : State) : Applied :=
  let old := cwGet s (hqAddr q 0)
  let st := match hqWriteStatus s q w v with
    | 0 => hqStatus plan q
    | n => n
  if st ≠ 0 then .error st
  else if w = 0 && bit old 35 && !bit v 35 then .ok (hqStore q 0 v (flushHost src q s))
  else
    let s := hqStore q w v s
    let s := if w = 0 && !bit old 35 && bit v 35 then hqPut q {} s else s
    let s := if w = 1 && hqOn s q then hqLevel q s else s
    .ok (if w = 2 && bit v 35 then flushHost src q s else s)

/-- The writes of one window to a host queue, judged together. -/
def applyHqWrites (q : Nat) (ws : List QueueWrite) (s : State) : State :=
  let plan := ws.foldl (fun s w => hqStore q w.word.val w.value s) s
  ws.foldl (fun t w => settle w.origin .word (hqAddr q w.word.val) t (applyHq (srcNumber w.origin.src) plan q w.word.val w.value t)) s

/-- HQ_CFG (R351). -/
def execHqCfg (q : HqId) (ws : List QueueWrite) (s : State) : Result := .next (applyHqWrites q.val ws s)

/-- QUEUE_WM_WRITE (R347): the watermark word of a client or a host queue. -/
def execQueueWmWrite (q : QueueRef) (w : CtlWrite) (s : State) : Result :=
  .next (match q with
    | .client q => applyCqWrites q.val [{ origin := w.origin, word := 1, value := w.value }] s
    | .host q => applyHqWrites q.val [{ origin := w.origin, word := 1, value := w.value }] s)

/-- QUEUE_APPEND (R343 to R346): an item appended to a host queue. -/
def execQueueAppend (q : HqId) (item : List Word) (s : State) : Result := .next (hqAppend q.val item s)

end Sys2Proof.Machine
end

