-- ==== Sys2Proof/Machine/Decks.lean ====
section
/-! DEFINITION. Decks: entry writes, swaps and their landing, slot test patterns, fine blocks (spec 06 R201 to R227, R233,
R234). -/

namespace Sys2Proof.Machine

/-! ### Engine access (R211 to R214) -/

/-- A deck address that Table 6-4 reserves. -/
def deckReserved (a : Nat) : Bool :=
  a ≥ 0x30000 || (isMainAddr a && a ≥ 0x8000) || (isSelAddr a && bitsOf a 14 11 != 0)

/-- A slot above 10,239 or a grain above 12,287 in a deck address. -/
def deckRange (a : Nat) : Bool :=
  if isMainAddr a then decide (a % 0x4000 > 10239) else if isFineAddr a then decide (a % 0x4000 > 12287) else false

/-- The address lies in the scope of a unit: its die, or its region for fine entries. -/
def deckScope (u a : Nat) : Bool := if isFineAddr a then bitsOf a 15 14 == regionOf u else deckDie a == dieOf u

/-- Grant and scope of a deck access by the program that an engine runs (R213, R573). -/
def deckGranted (s : State) (e : Nat) (write : Bool) (a : Nat) : Bool :=
  inBatch s e ||
    (!deckReserved a && granted s e write (if isFineAddr a then clsFine else clsDeck) && (e == 64 || deckScope e a))

/-- DECK.W (R211): staged. -/
def execDeckW (i : IssA) (gA gB : Reg) (s : State) : Result :=
  .next (issue (issueOfA i) { reads := [gA.val, gB.val], staged := 1 } (fun s =>
    let e := i.eng.val
    let a := fld (operand s e gA.val) 17 0
    if deckGranted s e true a then stage e (.deckW a (operand s e gB.val)) s else outsideGrant e a s) s)

/-- A read that a batch is refused: counted, the first one kept with its bundle (R479); the hub image is told by a
REFUSAL. -/
def refuseRead (e status : Nat) (k : RefKind) (addr : Nat) (s : State) : State :=
  match inBatch s e, s.batch with
  | true, some b =>
    s.putBatch (some (if b.refusals = 0 then
        { b with refusals := 1, status := status, bundle := (engGet s e).pc } else { b with refusals := b.refusals + 1 }))
  | _, _ => refuse { src := .hub, bundle := (engGet s e).pc } status k addr s

/-- An entry as DECK.RD reads it: SEL in place in a selector entry (R208, R211). -/
def deckRead (s : State) (standby : Bool) (a : Nat) : Word :=
  let w := deckEntry s standby a
  if isSelAddr a then putFld w 33 33 (b2n (selOf s (deckDie a) (a % 2048))) else w

/-- DECK.RD (R211, R213, R214). -/
def execDeckRd (i : IssA) (gD gA : Reg) (standby : Bool) (s : State) : Result :=
  .next (issue (issueOfA i) { reads := [gA.val], writes := [gD.val], lat := 24 } (fun s =>
    let e := i.eng.val
    let a := fld (operand s e gA.val) 17 0
    if !deckGranted s e false a then setReg e gD.val 0 (outsideGrant e a s)
    else if deckReserved a then setReg e gD.val 0 (refuseRead e St.deckFormat .deck a s)
    else if deckRange a then setReg e gD.val 0 (refuseRead e St.idRange .deck a s)
    else setReg e gD.val (deckRead s standby a) s) s)

/-- DECK.SWAP (R215): staged; a unit program may name its own die alone. -/
def execDeckSwap (i : IssA) (d0 d1 : Bool) (s : State) : Result :=
  .next (issue (issueOfA i) { staged := 1 } (fun s =>
    let e := i.eng.val
    let own := e == 64 || inBatch s e || !(if dieOf e = 0 then d1 else d0)
    if granted s e true clsDeck && own then stage e (.deckSwap (b2n d0 + 2 * b2n d1)) s
    else outsideGrant e (deckSel (dieOf (e % 64)) 0) s) s)

/-! ### Pairs and hitless words (Tables 7-12, 8-2) -/

def hlCfg (s : State) (p : Nat) : Word := cwGet s (pairAddr p 96)
/-- The die whose proof store holds a pair's rings, where it has them. -/
def hlDie (s : State) (p : Nat) : Option Nat := if bit (hlCfg s p) 35 then some (fld (hlCfg s p) 17 17) else none

/-- A pair is valid in either page of a die's selector table. -/
def pairValidIn (s : State) (d p : Nat) : Bool :=
  bit (deckEntry s false (deckSel d p)) 35 || bit (deckEntry s true (deckSel d p)) 35

/-! ### Deck writes (R205 to R210, Table 6-5) -/

/-- A controller of a die waits to arm its swap (R230). -/
def resizeWaits (s : State) (d : Nat) : Bool := s.rsz.any fun e => e.1 / 32 == d && e.2.wantSwap

/-- Format of a valid main or fine entry. -/
def entryFormatOk (a : Nat) (v : Word) : Bool :=
  let p := bit v 34
  let high := if isFineAddr a then fld v 33 31 else fld v 33 30
  !(isFineAddr a && bit v 19) && !(p && (high != 0 || entryGrp v != 0x7FF)) && !(entryGrp v == 0x7FF && fld v 7 0 != 0)

/-- What refuses a write to the standby page (Table 6-5); 0 where nothing does. -/
def deckWriteStatus (s : State) (a : Nat) (v : Word) : Nat :=
  let d := deckDie a
  if deckReserved a then St.deckFormat
  else if deckRange a then St.idRange
  else if (dieDeck s d).pending || resizeWaits s d then St.deckBusy
  else if !bit v 35 then 0
  else if isSelAddr a then
    let p := a % 2048
    if bit v 30 || fld v 32 31 = 3 || (bit v 34 && fld v 32 31 = 2) then St.deckFormat
    else if pairValidIn s (1 - d) p || (match hlDie s p with | some h => h != d | none => false) then St.pairDie
    else 0
  else if !bit v 34 && (if isFineAddr a then decide (fld v 33 20 > 12287) else decide (fld v 32 19 > 10239)) then St.idRange
  else if !entryFormatOk a v then St.deckFormat
  else 0

/-- The bits an entry holds. -/
def deckStoreBits (a : Nat) : Nat := if isSelAddr a then 0xDBFFFFFFF else if isFineAddr a then 0xFFFF7FFFF else 0xFFFFFFFFF

/-- Store an entry of the standby page. -/
def deckStoreEntry (a : Nat) (v : Word) (s : State) : State :=
  s.putDeck (tabSet 0 s.deck (deckKey s true a) (v &&& BitVec.ofNat 36 (deckStoreBits a)))

/-- A staged deck write applied. -/
def applyDeckW (a : Nat) (v : Word) (s : State) : Applied :=
  match deckWriteStatus s a v with
  | 0 => .ok (deckStoreEntry a v s)
  | st => .error st

/-! ### Swap checks (R217, Table 6-6) -/

/-- Valid entries of the standby page of a die that name a pair. -/
def namesPair (es : List (Nat × Word)) (p : Nat) : List Nat :=
  (es.filter fun e => !isSelAddr e.1 && bit e.2 35 && bit e.2 34 && entryPair e.1 e.2 == p).map (·.1)

/-- A source of a selector is part 0 of a source of so many parts, for main entries. -/
def mainSourceOk (s : State) (src parts : Nat) : Bool :=
  decide (src % 0x4000 ≤ 10239) &&
    (match sourceOdu s src with
    | some slots => slots.length == parts
    | none => !slotOwned s src)

/-- A source of a selector named by fine entries. -/
def fineSourceOk (src : Nat) : Bool := decide (src ≤ 12287)

/-- A member part of a group has a ring in the die. -/
def groupRing (s : State) (d g mbr : Nat) : Bool := decide (mbr < (tabGet ({} : Group) s.groups (d * 2048 + g)).rings.length)

/-- The first cause of Table 6-6 that an entry of the standby page fails; 0 where none. -/
def entryCause (s : State) (d : Nat) (es : List (Nat × Word)) (a : Nat) (w : Word) : Nat :=
  if !bit w 35 then 0
  else if isSelAddr a then
    let p := a % 2048
    let named := namesPair es p
    let fine := named.any isFineAddr
    let shapeBad := match named with
      | [] => false
      | _ => if fine then !(fineSourceOk (fld w 29 15) && fineSourceOk (fld w 14 0))
             else !(mainSourceOk s (fld w 29 15) named.length && mainSourceOk s (fld w 14 0) named.length)
    if shapeBad then 3
    else if bit w 34 && (fine || hlDie s p != some d) then 4
    else 0
  else if bit w 34 then
    let p := entryPair a w
    let named := namesPair es p
    if !bit (deckEntry s true (deckSel d p)) 35 then 1
    else if named.any (fun b => isMainAddr b != isMainAddr a || (isFineAddr a && bitsOf b 15 14 != bitsOf a 15 14)) then 2
    else 0
  else if entryGrp w != 0x7FF then
    if !groupRing s d (entryGrp w) (fld w 7 0) ||
        es.any (fun e => e.1 != a && !isSelAddr e.1 && bit e.2 35 && !bit e.2 34 && fld e.2 18 0 == fld w 18 0) then 5
    else 0
  else 0

/-- The first failing address of a die's standby pages and its cause. -/
def swapFault (s : State) (d : Nat) : Option (Nat × Nat) :=
  let es := deckEntries s d true
  match es.find? fun e => entryCause s d es e.1 e.2 != 0 with
  | some e => some (e.1, entryCause s d es e.1 e.2)
  | none => none

/-! ### Swaps (R215 to R223) -/

def deckCtrlAddr (d : Nat) : Nat := ctlAddr clsDeck d 0
def deckCntAddr (d : Nat) : Nat := ctlAddr clsDeck d 3

/-- The DECK_SWAP record of a die is due, with the tick of its arming or refusal (R220, R233). -/
def swapRecord (d : Nat) (at_ : Word) (s : State) : State :=
  let k := dieDeck s d
  if cwFld s (deckCtrlAddr d) 34 34 = 1 then
    dueRecord (cwFld s (deckCtrlAddr d) 33 31) 0x0F
      [mkWord [(35, d), (33, k.last), (29, k.cause), (17, k.lastTime)], at_] s
  else s

/-- A swap of a die is refused; its own failing check, where it has one, goes to DECK_CHK_STAT. -/
def swapRefused (d last cause : Nat) (fault : Option (Nat × Nat)) (s : State) : State :=
  let k := dieDeck s d
  let k := { k with last := last, cause := cause, lastTime := 0 }
  let k := match fault with
    | some f => { k with chk := mkWord [(18, f.1), (14, f.2)] }
    | none => k
  swapRecord d s.tick (cwCountFld (deckCntAddr d) 17 0 1 (dieDeckPut d k s))

/-- Arm the swap of a die: "active" names the new page from now on (R211). -/
def armSwap (d : Nat) (byResize : Bool) (s : State) : State :=
  let k := dieDeck s d
  dieDeckPut d { k with act := !k.act, pending := true, eligible := false, changed := [], armedTick := s.tick, lastTime := 0,
                        byResize := byResize } s

def namedDies (dies : Nat) : List Nat := [0, 1].filter fun d => dies.testBit d

/-- A staged DECK.SWAP checked and armed, against the state at the opening of the window (R216, R217). -/
def applySwap (before : State) (dies : Nat) (s : State) : State × Nat :=
  let ds := namedDies dies
  if ds.any fun d => (dieDeck before d).pending || resizeWaits before d then
    (ds.foldl (fun s d => swapRefused d 3 0 none s) s, St.deckBusy)
  else
    let ds := ds.filter fun d => !(dieDeck s d).pending
    match ds.findSome? fun d => swapFault s d with
    | some f =>
      let faults := ds.map fun d => (d, swapFault s d)
      (faults.foldl (fun s e => swapRefused e.1 2 (e.2.getD f).2 e.2 s) s, St.deckCheck)
    | none => (ds.foldl (fun s d => armSwap d false s) s, 0)

/-- The slot test generator of a die gives way on a slot that has become valid (Table 1-7, R222). -/
def displacePrbs (d : Nat) (on : Nat → Bool) (s : State) : State :=
  let a := ctlAddr clsDeck d 0x10
  let slot := cwFld s a 33 19
  if cwFld s a 35 35 = 1 && on slot && bit (deckEntry s false (deckMain slot)) 35 then
    record0 0x07 srcHardware (mkWord [(32, 5), (0, slot)]) (cwPut a 35 35 0 s)
  else s

/-- Pairs of a die whose selector is valid in the new page and was not in the old one are reset, SEL at 0; those no
longer valid stop (R209, R294). -/
def freshSels (d : Nat) (s : State) : State :=
  let t := (deckEntries s d false).foldl (fun s e =>
    if isSelAddr e.1 && bit e.2 35 && !bit (deckEntry s true e.1) 35 then
      prtRestart (e.1 % 2048) (s.putSels (tabSet false s.sels (d * 2048 + e.1 % 2048) false))
    else s) s
  (deckEntries t d true).foldl (fun s e =>
    if isSelAddr e.1 && bit e.2 35 && !bit (deckEntry s false e.1) 35 then prtStop (e.1 % 2048) s else s) t

/-- At T0 an armed swap becomes eligible, and outputs whose boundary is T0 change (R218, R202). -/
def deckEligible (d : Nat) (s : State) : State :=
  let k := dieDeck s d
  if k.pending && !k.eligible then
    let s := freshSels d (dieDeckPut d { k with eligible := true } s)
    displacePrbs d (fun slot => (carrierOf s (deckMain slot)).isNone) s
  else s

/-- The carrier that a reference names. -/
def carrierNum : CarrierRef → Nat
  | .port r => portCarrier r.unit.val r.port.val
  | .block r b => blkCarrier r.val b.val

/-- ODTU ports under an HO_ODU port. -/
def odtusUnder (s : State) (u p : Nat) : List (Nat × Nat) :=
  (livePorts s).filter fun q => liveAdapt s q.1 q.2 == 3 && mapRefUnit s q.1 q.2 == u && mapRefNum s q.1 q.2 == p

/-- A resize controller as it runs. -/
def rszGet (s : State) (k : Nat) : Rsz := tabGet {} s.rsz k
def rszPut (k : Nat) (r : Rsz) (s : State) : State := s.putRsz (tabSet {} s.rsz k r)

/-- The resize record of a controller (RSZ_ABORT 10h, RSZ_DONE 11h). -/
def rszRecord (ty k : Nat) (s : State) : State :=
  record0 ty srcHardware (mkWord [(35, k / 32), (30, k % 32), (27, (rszGet s k).step)]) s

/-- A resize is done: NORM, the timer released, RSZ_DONE (R231). -/
def rszDone (k : Nat) (s : State) : State :=
  let r := rszGet s k
  let rate := cwFld s (mapAddr (fld (rszCfg s k) 31 26) (fld (rszCfg s k) 25 18) 3) 31 0
  rszRecord 0x11 k (rszPut k { r with step := 4, timer := false, noTimer := false, rateNow := rate } s)

/-- The slots that RSZ_RUN names. -/
def rszSlots (s : State) (k : Nat) : List Nat :=
  let w := cwGet s (ctlAddr clsDeck (k / 32) (0x100 + 4 * (k % 32) + 1))
  tsOfRuns [(fld w 35 26, fld w 25 18)]

/-- The LCR swap of a hop lands: its slots join or leave the allotment (R230, Table 6-10). -/
def rszLand (k : Nat) (s : State) : State :=
  let u := fld (rszCfg s k) 31 26
  let p := fld (rszCfg s k) 25 18
  let now := allotment s u p (portGet s (portKey u p)).txRuns
  let ts := rszSlots s k
  let r := rszGet s k
  if bit (rszCfg s k) 32 then rszDone k (rszPut k { r with eff := some (now.filter (fun t => !ts.contains t)) } s)
  else rszPut k { r with step := 3, eff := some (now ++ ts.filter (fun t => !now.contains t)) } s

/-- Controllers of a die whose LCR swap is armed and whose port lies under carrier c, or under any. -/
def rszArmed (s : State) (d : Nat) (c : Option Nat) : List Nat :=
  (List.range 32).filterMap fun i =>
    let k := d * 32 + i
    let u := fld (rszCfg s k) 31 26
    let p := fld (rszCfg s k) 25 18
    if (rszGet s k).step = 2 && (match c with
      | some c => c == portCarrier (mapRefUnit s u p) (mapRefNum s u p)
      | none => true) then some k else none

/-- The outputs of one carrier change to the new page, with the transmit runs that wait and the LCR swap that a
controller armed (R218, R222, R230). -/
def changeCarrier (d c us : Nat) (s : State) : State :=
  let k := dieDeck s d
  let s := dieDeckPut d { k with changed := k.changed ++ [c], lastTime := Nat.max k.lastTime (Nat.min us 4095) } s
  let s := displacePrbs d (fun slot => carrierOf s (deckMain slot) == some c) s
  let s := if c < 12288 then (odtusUnder s (c / 192) (c % 192)).foldl (fun s q => landTxRuns q.1 q.2 s) s else s
  (rszArmed s d (some c)).foldl (fun s k => rszLand k s) s

/-- Change a carrier if its outputs have not changed yet. -/
def changeOnce (d c us : Nat) (s : State) : State :=
  let k := dieDeck s d
  if k.pending && k.eligible && (carriersOf s d).contains c && !k.changed.contains c then changeCarrier d c us s else s

/-- Every output of a die has changed. -/
def allChanged (s : State) (d : Nat) : Bool :=
  let k := dieDeck s d
  k.pending && k.eligible && (carriersOf s d).all fun c => k.changed.contains c

/-- The active pages of a die copied into the standby pages (R220). -/
def copyPages (d : Nat) (s : State) : State :=
  let k := dieDeck s d
  let act := s.deck.filter fun e => deckDie (e.1 % 0x40000) == d && e.1 == deckKey s false (e.1 % 0x40000)
  let rest := s.deck.filter fun e => !(deckDie (e.1 % 0x40000) == d && e.1 == deckKey s true (e.1 % 0x40000))
  act.foldl (fun s e => s.putDeck (tabSet 0 s.deck (deckKey s true (e.1 % 0x40000)) e.2))
    (dieDeckPut d { k with pending := false, eligible := false, changed := [], byResize := false, last := 1, cause := 0 }
      (s.putDeck rest))

/-- DECK_COPY_DONE (R220). -/
def execDeckCopyDone (d : DieId) (s : State) : Result :=
  .next (if allChanged s d.val then
      let s := (rszArmed s d.val none).foldl (fun s k => rszLand k s) s
      swapRecord d.val (dieDeck s d.val).armedTick (cwCountFld (deckCntAddr d.val) 35 18 1 (copyPages d.val s))
    else s)

/-! ### Slot test patterns (R234) -/

/-- A write to DECK_PRBS_GEN. -/
def applyDeckGen (d : Nat) (v : Word) (s : State) : Applied :=
  let slot := fld v 33 19
  if bit v 35 && !testMode s.mode then .error St.modeState
  else if bit v 35 && (slot % 0x4000 > 10239 || deckDie slot ≠ d) then .error St.idRange
  else if bit v 35 && bit (deckEntry s false (deckMain slot)) 35 then .error St.resConflict
  else .ok (cwSet (ctlAddr clsDeck d 0x10) (v &&& 0xFFFF80000) s)

/-- DECK_PRBS_GEN (R234). -/
def execDeckPrbsGen (d : DieId) (w : CtlWrite) (s : State) : Result :=
  .next (settle w.origin .word (ctlAddr clsDeck d.val 0x10) s (applyDeckGen d.val w.value s))

/-- A write to DECK_PRBS_CHK. -/
def applyDeckChk (d : Nat) (v : Word) (s : State) : Applied :=
  let a := ctlAddr clsDeck d 0x11
  let slot := fld v 33 19
  if bit v 35 && !testMode s.mode then .error St.modeState
  else if bit v 35 && (slot % 0x4000 > 10239 || deckDie slot ≠ d) then .error St.idRange
  else
    let k := dieDeck s d
    let fresh := bit v 35 && !bit (cwGet s a) 35
    let s := if fresh then dieDeckPut d { k with prbsErr := 0, prbsErrSnap := 0, prbsLock := false } s else s
    .ok (cwSet a (v &&& 0xBFFF80000) s)

/-- DECK_PRBS_CHK (Table 6-14). -/
def execDeckPrbsChk (d : DieId) (w : CtlWrite) (s : State) : Result :=
  .next (settle w.origin .word (ctlAddr clsDeck d.val 0x11) s (applyDeckChk d.val w.value s))

/-- Both EN bits of a die cleared on entry to TAKEOVER (R234). -/
def clearDeckTests (s : State) : State :=
  [0, 1].foldl (fun s d => cwPut (ctlAddr clsDeck d 0x10) 35 35 0 (cwPut (ctlAddr clsDeck d 0x11) 35 35 0 s)) s

/-! ### Fine blocks (R225, R226) -/

/-- What refuses the set-up of a fine block. -/
def blkStatus (s : State) (r b : Nat) : Nat :=
  let w := cwGet s (blkAddr r b)
  if !bit w 35 then 0
  else
    let n := blkGrains w
    let u := fld w 16 11
    let st := fld w 10 3
    if fld w 30 17 + n > 12288 ||
        (liveBlks s r).any (fun o => o.1 != b && rangesMeet (fld w 30 17) n (fld o.2 30 17) (blkGrains o.2)) ||
        (livePorts s).any (fun p => regionOf p.1 == r && (portGrains s p.1 p.2).any fun g => blkHolds w g) then St.slotOverlap
    else if n = 0 then St.mapRef
    else if !bit w 34 &&
        (regionOf u != r || decide (st ≥ 160) || frmProto (frmCfg s u st) != 3 ||
          (match commonRate s (fld (frmCfg s u st) 30 30) (lanesOf (frmLanes s u st)) with
            | some c => (match c with | 0xC => 3 | 0xB => 12 | 1 => 48 | 2 => 192 | 7 => 768 | _ => 0) != n
            | none => true)) then St.mapRef
    else 0

/-- What refuses a write to FINE_BLK for itself. -/
def blkWriteStatus (s : State) (r b : Nat) (v : Word) : Nat :=
  let old := cwGet s (blkAddr r b)
  let v := v &&& 0xFFFFFFFF8
  if bit old 35 && v != putFld old 35 35 0 && v != old then St.portEnabled else 0

/-- A write to FINE_BLK. -/
def applyBlk (plan : State) (r b : Nat) (v : Word) (s : State) : Applied :=
  let v := v &&& 0xFFFFFFFF8
  if blkWriteStatus s r b v ≠ 0 then .error (blkWriteStatus s r b v)
  else match blkStatus plan r b with
    | 0 => .ok (cwSet (blkAddr r b) v s)
    | st => .error st

/-- FINE_BLK (R226). -/
def execFineBlk (r : RegionId) (b : Fin 64) (w : CtlWrite) (s : State) : Result :=
  .next (settle w.origin .word (blkAddr r.val b.val) s
    (applyBlk (cwSet (blkAddr r.val b.val) (w.value &&& 0xFFFFFFFF8) s) r.val b.val w.value s))

end Sys2Proof.Machine
end

