-- ==== Sys2Proof/Machine/Proof.lean ====
section
/-! DEFINITION. The proof store: rings and their budget, line integrity, hitless pairs (spec 07 R235 to R248, R260 to
R273). -/

namespace Sys2Proof.Machine

/-! ### Control words (Tables 7-8, 7-10, 7-12) -/

def grpAddr (d g : Nat) : Nat := ctlAddr clsProof d g
def prfCtrlAddr (d : Nat) : Nat := ctlAddr clsProof d 0x7FF
/-- GUARD of a die in µs. -/
def guardUs (s : State) (d : Nat) : Nat := match cwFld s (prfCtrlAddr d) 35 29 with | 0 => 10 | n => n
def integMax (s : State) (d : Nat) : Nat := match cwFld s (prfCtrlAddr d) 28 21 with | 0 => 16 | n => n
def prfQueue (s : State) (d : Nat) : Nat := cwFld s (prfCtrlAddr d) 20 18

def ringGet (s : State) (r : Nat) : Ring := tabGet {} s.prfRings r
def ringPut (r : Nat) (k : Ring) (s : State) : State := s.putPrfRings (tabSet {} s.prfRings r k)
def hlGet (s : State) (p : Nat) : Hl := tabGet {} s.hls p
def hlPut (p : Nat) (h : Hl) (s : State) : State := s.putHls (tabSet {} s.hls p h)

/-! ### The budget (R241, R242, Tables 7-1, 7-2) -/

/-- A nominal rate num / den kbit/s with 100 ppm, rounded up. -/
def ringRate (num den : Nat) : Nat := ceilDiv (num * 10001) (den * 10000)

/-- Pages of a ring of so many lines. -/
def ringPages (lines : Nat) : Nat := ceilDiv lines 29127

/-- Lines of a ring of rate r kbit/s for a window of DDMAX steps of 125 µs, GUARD µs and two frames of an ODU rate. -/
def oduLines (r ddmax guard rate : Nat) : Nat :=
  ceilDiv (r * (ddmax * 125 + guard) * rate + r * 244736000) (rate * 256000)

/-- Lines of a ring of rate r kbit/s where a frame lasts 125 µs. -/
def sdhLines (r ddmax guard : Nat) : Nat := ceilDiv (r * (ddmax * 125 + guard + 250)) 256000

/-- Rings of a die that count against its limits. -/
def dieRings (s : State) (d : Nat) : List (Nat × Ring) := s.prfRings.filter fun e => e.1 / 2048 == d

/-- What refuses n further rings of a die, each of a rate and so many pages (Table 7-2). -/
def allocStatus (s : State) (d n rate pages : Nat) : Nat :=
  let rs := dieRings s d
  let sumR := rs.foldl (fun a e => a + e.2.rate) 0 + n * rate
  let sumP := rs.foldl (fun a e => a + e.2.pages) 0 + n * pages
  if sumR > 3200000000 || !(decide (sumP ≤ 15872) || (decide (sumP ≤ 24064) && Config.variantC48)) then St.proofBudget
  else if rs.length + n > 2048 then St.limitRing
  else 0

/-- The lowest ring IDs of a die that are free. -/
def freeRings (s : State) (d n : Nat) : List Nat :=
  (((List.range 2048).map (· + d * 2048)).filter fun r => (ringGet s r).pages == 0).take n

/-- Allocate rings. -/
def allocRings (rs : List Nat) (rate pages : Nat) (s : State) : State :=
  rs.foldl (fun s r => ringPut r { pages := pages, rate := rate } s) s

/-- Free rings; their pages can be allocated from the next window (R243). -/
def freeRingsOf (rs : List Nat) (s : State) : State :=
  rs.foldl (fun s r => ringPut r { pages := (ringGet s r).pages, rate := (ringGet s r).rate, freed := true } s) s

/-- Pages freed in the window that has ended can be allocated again. -/
def releaseFreed (s : State) : State := s.putPrfRings (s.prfRings.filter fun e => !e.2.freed)

/-- Any ring of a die is allocated. -/
def ringsAllocated (s : State) (d : Nat) : Bool := (dieRings s d).any fun e => !e.2.freed

/-- A write to PRF_CTRL (R244); GUARD is 4 to 100 or 0. -/
def applyPrfCtrl (d : Nat) (v : Word) (s : State) : Applied :=
  let g := fld v 35 29
  if g != cwFld s (prfCtrlAddr d) 35 29 && ringsAllocated s d then .error St.ringActive
  else if g != 0 && (g < 4 || g > 100) then .error St.thrRange
  else .ok (cwSet (prfCtrlAddr d) (v &&& 0xFFFFC0000) s)

/-- PRF_CTRL (R244). -/
def execPrfCtrl (d : DieId) (w : CtlWrite) (s : State) : Result :=
  .next (settle w.origin .word (prfCtrlAddr d.val) s (applyPrfCtrl d.val w.value s))

/-! ### Rings (R239, R240, R245 to R248, R261) -/

/-- RING_START (R240): a ring becomes writable at its signal's first frame boundary. -/
def execRingStart (r : RingId) (s : State) : Result :=
  let k := ringGet s r.val
  .next (if k.pages != 0 && !k.freed then ringPut r.val { k with writable := true } s else s)

/-- The pair that a ring belongs to. -/
def pairOfRing (s : State) (r : Nat) : Option Nat :=
  (s.hls.find? fun e => (e.2.wRing == r || e.2.pRing == r) && e.2.wRing != e.2.pRing).map (·.1)

/-- Frame number n of a ring, where its record is held. -/
def frameAt (k : Ring) (n : Int) : Option FrameRec :=
  if n < 1 || n > k.count then none else k.frames[(k.count - n.toNat)]?

/-- Two frame records show the same content. -/
def sameFrame (a b : FrameRec) : Bool := a.mf == b.mf && a.fp == b.fp

/-- Compare the frame just written to a ring of a mapped pair with the frame mapped to it (R264). -/
def compareMapped (p r : Nat) (s : State) : State :=
  let h := hlGet s p
  match h.mapped, h.map with
  | true, some c =>
    let w := ringGet s h.wRing
    let q := ringGet s h.pRing
    let nW : Int := if r = h.wRing then (w.count : Int) else (q.count : Int) - c
    match frameAt w nW, frameAt q (nW + c) with
    | some a, some b =>
      hlPut p { h with diffRun := if a.fp != b.fp && !a.bip && !b.bip then h.diffRun + 1 else 0 } s
    | _, _ => s
  | _, _ => s

/-- A frame written to a ring: its lines, its record, and its continuity (R239, R261). -/
def ringFrame (r lines mf fp : Nat) (defect bip : Bool) (s : State) : State :=
  let k := ringGet s r
  if !k.writable then s
  else
    let wp := (k.wp + lines) % 2 ^ 48
    let keep := k.frames.filter fun f => decide ((wp + 2 ^ 48 - f.seq) % 2 ^ 48 ≤ 29127 * k.pages)
    let follows := match k.frames with
      | f :: _ => (f.mf + 1) % 256 == mf
      | [] => true
    let good := !defect && (follows || k.cont == 0)
    let s := ringPut r { k with
      wp := wp, count := k.count + 1,
      frames := { seq := k.wp, mf := mf, fp := fp, defect := defect, bip := bip } :: keep,
      cont := if good then k.cont + 1 else if defect then 0 else 1,
      broke := k.broke || !good } s
    match pairOfRing s r with
    | some p => compareMapped p r s
    | none => s

/-- RING_LINE_READ (R246): the line is delivered as read or corrected, or its partner is; SUBST and UNVERIFIED count in
their die. `partnerOk`: the partner frame is held and complete and its line passes its own check. -/
def execRingLineRead (r : RingId) (ecc crc partnerOk : Bool) (s : State) : Result :=
  let d := r.val / 2048
  let pair := match pairOfRing s r.val with
    | some p => (hlGet s p).mapped
    | none => false
  .next (if ecc && crc then s
    else
      let s := if tabGet 0 s.substs d + tabGet 0 s.unverified d = 0 then
          s.putFirstRing (tabSet 0 s.firstRing d r.val) else s
      if pair && partnerOk then s.putSubsts (tabSet 0 s.substs d (tabGet 0 s.substs d + 1))
      else s.putUnverified (tabSet 0 s.unverified d (tabGet 0 s.unverified d + 1)))

/-- PROOF_INTEG of a die for a tick with events (R247); `over` above INTEG_MAX. -/
def integRecord (d : Nat) (s : State) : State :=
  let a := tabGet 0 s.substs d
  let b := tabGet 0 s.unverified d
  if a + b = 0 then s
  else record (prfQueue s d) 0x14 srcHardware
    [mkWord [(35, d), (34, b2n (decide (a + b > integMax s d))), (18, Nat.min a 0xFFFF), (0, Nat.min b 0x3FFFF)],
     mkWord [(24, tabGet 0 s.firstRing d)], s.tick] s

/-! ### Hitless pairs (R260 to R268, Table 7-5) -/

/-- Nominal rate of a pair's ODU in kbit/s. -/
def hlRateOf (s : State) (p : Nat) : Nat := oduRate (fld (hlCfg s p) 22 20) (cwFld s (pairAddr p 97) 31 0)
/-- Frame period of a pair in ns, rounded. -/
def hlPeriod (s : State) (p : Nat) : Nat := match hlRateOf s p with | 0 => 0 | r => 122368000000 / r

/-- SEL of a pair in its die. -/
def hlSel (s : State) (p : Nat) : Bool := match hlDie s p with | some d => selOf s d p | none => false

/-- The selected and the unselected ring. -/
def hlUnsel (s : State) (p : Nat) : Nat := if hlSel s p then (hlGet s p).wRing else (hlGet s p).pRing
def hlSelected (s : State) (p : Nat) : Nat := if hlSel s p then (hlGet s p).pRing else (hlGet s p).wRing

/-- Both rings are mapped. -/
def bothMapped (s : State) (p : Nat) : Bool :=
  let h := hlGet s p
  h.mapped && !(ringGet s h.wRing).broke && !(ringGet s h.pRing).broke

/-- Late and early slack of the unselected ring. -/
def unselLate (s : State) (p : Nat) : Int := if hlSel s p then (hlGet s p).lateW else (hlGet s p).lateP
def unselEarly (s : State) (p : Nat) : Int := if hlSel s p then (hlGet s p).earlyW else (hlGet s p).earlyP
def unselSlack (s : State) (p : Nat) : Int := min (unselLate s p) (unselEarly s p)

/-- HITLESS_OK as the fast path reads it (R267). -/
def hitlessOk (s : State) (p : Nat) : Bool := bothMapped s p && decide (unselSlack s p ≥ 0)

/-- STATE of a pair (Table 7-5). -/
def hlStateNow (s : State) (p : Nat) : Nat :=
  let h := hlGet s p
  let un := ringGet s (hlUnsel s p)
  let se := ringGet s (hlSelected s p)
  if !bit (hlCfg s p) 35 then 0
  else if bothMapped s p then
    let k := unselSlack s p
    if k ≥ 0 then 3 else if k ≥ -(hlPeriod s p : Int) then 6 else 5
  else if un.cont < 8 && (un.broke || decide (un.cont < un.count)) then 7
  else if un.cont < 8 || se.cont < 8 then 1
  else if h.map.isSome then 2
  else if h.last = 4 then 4
  else if h.last = 5 then 5
  else 2

/-- Bring STATE up to date: a change places HL_CHG, an entry to ALIGNED counts (R264, R273). -/
def hlRefresh (p : Nat) (s : State) : State :=
  let h := hlGet s p
  let st := hlStateNow s p
  if h.state = st then s
  else
    let s := hlPut p { h with state := st, aligns := if st = 3 then Nat.min (h.aligns + 1) 0xFFF else h.aligns } s
    dueRecord (prfQueue s h.die) 0x12 [mkWord [(25, p), (24, b2n (hitlessOk s p)), (21, st)], s.tick] s

/-- PROOF_HIT of a kind with the frames moved (Table 7-14). -/
def proofHit (d owner kind frames : Nat) (s : State) : State :=
  dueRecord (prfQueue s d) 0x13 [mkWord [(25, owner), (22, kind)], mkWord [(18, Nat.min frames 0x3FFFF)], s.tick] s

/-- Move the reader later by so many ns: late slacks grow, early slacks shrink. -/
def shiftReader (p : Nat) (ns : Int) (s : State) : State :=
  let h := hlGet s p
  hlPut p { h with lateW := h.lateW + ns, lateP := h.lateP + ns, earlyW := h.earlyW - ns, earlyP := h.earlyP - ns } s

/-- Whole frames in a span. -/
def framesIn (s : State) (p : Nat) (ns : Int) : Nat := match hlPeriod s p with | 0 => 0 | t => ceilDiv ns.natAbs t

/-- Place the reader so that the later path's late slack is GUARD (R266). -/
def placeReader (p : Nat) (counted : Bool) (s : State) : State :=
  let h := hlGet s p
  let shift := (guardUs s h.die * 1000 : Int) - min h.lateW h.lateP
  let moved := framesIn s p shift
  let s := shiftReader p shift s
  let h := hlGet s p
  let s := hlPut p { h with recentre := false, recent := if counted then Nat.min (h.recent + 1) 0xFFF else h.recent } s
  hlRefresh p (if h.output then proofHit h.die p 3 moved s else s)

/-- What refuses a write to HL_CFG (word 96) or HL_RATE (97) of a pair (R260, R272). -/
def hlWriteStatus (before plan : State) (p w : Nat) (v : Word) : Nat :=
  let old := hlCfg before p &&& 0xFFFFA0000
  if bit old 35 then
    if w = 97 then St.portEnabled
    else
      let keep := v &&& 0xFFFFA0000
      if keep = putFld old 35 35 0 then
        (if [0, 1].any fun d =>
            bit (deckEntry before false (deckSel d p)) 34 && bit (deckEntry before false (deckSel d p)) 35 ||
            bit (deckEntry before true (deckSel d p)) 34 && bit (deckEntry before true (deckSel d p)) 35 then St.portInUse else 0)
      else if keep = old then 0 else St.portEnabled
  else if w = 96 && bit v 35 then
    let d := fld v 17 17
    let rate := oduRate (fld v 22 20) (cwFld plan (pairAddr p 97) 31 0)
    let dd := fld v 34 23
    if pairValidIn before (1 - d) p then St.pairDie
    else if dd = 0 || dd > 2048 || rate = 0 then St.thrRange
    else
      let r := ringRate rate 1
      allocStatus before d 2 r (ringPages (oduLines r dd (guardUs before d) rate))
  else 0

/-- What refuses a write to HL_CFG or HL_RATE; the rate of a pair that its window enables is part of that set-up (R43). -/
def hlRefusal (before plan s : State) (p w : Nat) (v : Word) : Nat :=
  if w = 97 && !bit (hlCfg before p) 35 then 0 else hlWriteStatus s plan p w v

/-- Apply a write to HL_CFG or HL_RATE (R260). -/
def applyHl (before plan : State) (p w : Nat) (v : Word) (s : State) : Applied :=
  match hlRefusal before plan s p w v with
  | 0 =>
    if w = 97 then .ok (cwSet (pairAddr p 97) (v &&& 0x0FFFFFFFF) s)
    else
      let was := bit (hlCfg s p) 35
      let t := cwSet (pairAddr p 96) (v &&& 0xFFFFA0000) s
      let t := if bit v 18 && was && bit v 35 then hlPut p { hlGet t p with recentre := true } t else t
      if bit v 35 && !was then
        let d := fld v 17 17
        let rate := oduRate (fld v 22 20) (cwFld plan (pairAddr p 97) 31 0)
        let r := ringRate rate 1
        let pg := ringPages (oduLines r (fld v 34 23) (guardUs t d) rate)
        match freeRings t d 2 with
        | a :: b :: _ => .ok (hlRefresh p (hlPut p { hlGet t p with
            die := d, wRing := a, pRing := b, map := none, mapped := false, noneRun := 0, last := 0, fresh := true,
            output := false, recentre := false, diffRun := 0 } (allocRings [a, b] r pg t)))
        | _ => .error St.limitRing
      else if !bit v 35 && was then
        let h := hlGet t p
        .ok (hlRefresh p (hlPut p { hitlessSw := h.hitlessSw, bounded := h.bounded, blind := h.blind, recent := h.recent,
                                    aligns := h.aligns, die := h.die, state := h.state }
          (freeRingsOf [h.wRing, h.pRing] t)))
      else .ok t
  | st => .error st

/-- The hitless words written in one window, judged together. -/
def applyHlWrites (p : Nat) (ws : List HlWrite) (s : State) : State :=
  let plan := ws.foldl (fun s w => if w.rate then cwSet (pairAddr p 97) (w.value &&& 0x0FFFFFFFF) s else s) s
  let one := fun t (w : HlWrite) =>
    let n := if w.rate then 97 else 96
    settle w.origin .word (pairAddr p n) t (applyHl s plan p n w.value t)
  ws.foldl one s

/-- HL_CFG (R260, R272). -/
def execHlCfg (p : PairId) (ws : List HlWrite) (s : State) : Result := .next (applyHlWrites p.val ws s)

/-- HL_RECENTRE (R266): the write, or the output frame boundary at which the reader is placed afresh. -/
def execHlRecentre (p : PairId) (step : RecentreStep) (s : State) : Result :=
  .next (match step with
    | .write o =>
      settle o .word (pairAddr p.val 96) s (applyHl s s p.val 96 (putFld (hlCfg s p.val) 18 18 1) s)
    | .place => if (hlGet s p.val).recentre && bothMapped s p.val then placeReader p.val true s else s)

/-- HL_CNT_CLR (Table 7-12). -/
def execHlCntClr (p : PairId) (s : State) : Result :=
  .next (hlPut p.val { hlGet s p.val with hitlessSw := 0, bounded := 0, blind := 0, recent := 0, aligns := 0 } s)

/-- RING_BREAK (R261): a broken ring leaves the mapping of its pair. -/
def execRingBreak (r : RingId) (s : State) : Result :=
  let k := ringGet s r.val
  .next (if k.broke then
      let s := ringPut r.val { k with broke := false } s
      match pairOfRing s r.val with
      | some p => hlRefresh p (hlPut p { hlGet s p with map := none, mapped := false, diffRun := 0 } s)
      | none => s
    else s)

/-! ### The search (R262, R263) -/

/-- A window of eight records holds two equal fingerprints. -/
def fpRepeat : List FrameRec → Bool
  | [] => false
  | f :: t => t.any (fun g => g.fp == f.fp) || fpRepeat t

/-- The windows of eight agree frame by frame. -/
def windowsAgree (a b : List FrameRec) : Bool :=
  a.length == 8 && b.length == 8 && (a.zip b).all fun x => sameFrame x.1 x.2

/-- How far back in a ring, newest first, windows stand that agree with a window. -/
def matchesBack (a : List FrameRec) (held : List FrameRec) : List Nat :=
  (List.range (held.length - 7)).filter fun i => windowsAgree a ((held.drop i).take 8)

/-- What an attempt returns. -/
inductive Attempt where
  | none
  | ambig
  | range
  | offset (d : Int)
  deriving DecidableEq, Repr

/-- One attempt (R262). -/
def attempt (s : State) (p : Nat) : Attempt :=
  let h := hlGet s p
  let w := (ringGet s h.wRing).frames
  let q := (ringGet s h.pRing).frames
  let a := w.take 8
  let b := q.take 8
  if fpRepeat a || fpRepeat b then .ambig
  else
    let early := (matchesBack a q).map fun i => -Int.ofNat i
    let late := ((matchesBack b w).filter (· != 0)).map fun i => Int.ofNat i
    let late := if (matchesBack b w).contains 0 && !(matchesBack a q).contains 0 then 0 :: late else late
    match early ++ late with
    | [] => .none
    | [d] => if d.natAbs * 978944 > fld (hlCfg s p) 34 23 * hlRateOf s p then .range else .offset d
    | _ => .ambig

/-- HL_ALIGN_ATTEMPT (R262): while both rings are continuous for eight frames and no offset stands. -/
def execHlAlignAttempt (p : PairId) (s : State) : Result :=
  let h := hlGet s p.val
  let w := ringGet s h.wRing
  let q := ringGet s h.pRing
  .next (if !bit (hlCfg s p.val) 35 || w.cont < 8 || q.cont < 8 || h.map.isSome then s
    else
      let t := match attempt s p.val with
        | .none => hlPut p.val { h with noneRun := h.noneRun + 1, last := if h.last = 5 && h.noneRun ≥ 64 then 5 else 1 } s
        | .ambig => hlPut p.val { h with noneRun := 0, last := 4 } s
        | .range => hlPut p.val { h with noneRun := 0, last := 5 } s
        | .offset d => hlPut p.val { h with
            noneRun := 0, last := 1, map := some ((q.count : Int) - w.count + d), foundW := w.count, foundP := q.count,
            offset := d.natAbs, pLater := decide (d > 0) } s
      hlRefresh p.val t)

/-- HL_SEARCH_RANGE (R263): 64 consecutive attempts returned NONE. -/
def execHlSearchRange (p : PairId) (s : State) : Result :=
  let h := hlGet s p.val
  .next (if h.noneRun ≥ 64 then hlRefresh p.val (hlPut p.val { h with last := 5 } s) else s)

/-- How the frames after the offset was found compare with those mapped to them: none while some are still to come. -/
def confirmVerdict (s : State) (p : Nat) : Option Bool :=
  let h := hlGet s p
  let w := ringGet s h.wRing
  let q := ringGet s h.pRing
  match h.map with
  | none => none
  | some c =>
    let ofW := (List.range 8).map fun k =>
      (frameAt w ((h.foundW + k + 1 : Nat) : Int), frameAt q (((h.foundW + k + 1 : Nat) : Int) + c))
    let ofP := (List.range 8).map fun k =>
      (frameAt w (((h.foundP + k + 1 : Nat) : Int) - c), frameAt q ((h.foundP + k + 1 : Nat) : Int))
    let pairs := ofW ++ ofP
    if pairs.any fun x => match x with | (some a, some b) => !sameFrame a b | _ => false then some false
    else if pairs.all fun x => match x with | (some a, some b) => sameFrame a b | _ => false then some true
    else none

/-- HL_ALIGN_CONFIRM (R263, R266). -/
def execHlAlignConfirm (p : PairId) (s : State) : Result :=
  let h := hlGet s p.val
  .next (if h.mapped then s
    else match confirmVerdict s p.val with
      | none => s
      | some false => hlRefresh p.val (hlPut p.val { h with map := none } s)
      | some true =>
        let auto := bit (hlCfg s p.val) 19
        let s := hlPut p.val { h with mapped := true, diffRun := 0, fresh := false } s
        let s := if h.fresh && (!h.output || auto) then placeReader p.val (auto && h.output) s else s
        hlRefresh p.val s)

/-- HL_MISALIGN (R264). -/
def execHlMisalign (p : PairId) (s : State) : Result :=
  let h := hlGet s p.val
  .next (if h.mapped && decide (h.diffRun ≥ 8) then
      hlRefresh p.val (hlPut p.val { h with map := none, mapped := false, diffRun := 0, last := 1, noneRun := 0 } s)
    else s)

/-- HL_SLACK_EVAL (R265, R267): the slacks of both rings at the start of an output frame, in ns. -/
def execHlSlackEval (p : PairId) (lateW earlyW lateP earlyP : Int) (s : State) : Result :=
  .next (if bit (hlCfg s p.val) 35 then
      hlRefresh p.val (hlPut p.val { hlGet s p.val with
        lateW := lateW, earlyW := earlyW, lateP := lateP, earlyP := earlyP, output := true } s)
    else s)

/-- What a flip of SEL delivers on a hitless pair (R268, Table 7-6); SEL already shows the new ring. -/
def hlSwitch (p stateBefore : Nat) (lateBefore : Int) (s : State) : State :=
  let h := hlGet s p
  if stateBefore = 0 then s
  else if stateBefore = 3 then hlRefresh p (hlPut p { h with hitlessSw := Nat.min (h.hitlessSw + 1) 0x3FFFF } s)
  else if stateBefore = 6 then
    let repeats := decide (lateBefore < 0)
    let s := hlPut p { h with bounded := Nat.min (h.bounded + 1) 0x3FFFF } s
    let s := shiftReader p (if repeats then (hlPeriod s p : Int) else -(hlPeriod s p : Int)) s
    hlRefresh p (proofHit h.die p (if repeats then 0 else 1) 1 s)
  else
    let shift := (guardUs s h.die * 1000 : Int) - lateBefore
    let moved := framesIn s p shift
    let s := shiftReader p shift (hlPut p { h with blind := Nat.min (h.blind + 1) 0xFFF } s)
    hlRefresh p (proofHit h.die p 2 moved s)

end Sys2Proof.Machine
end

