-- ==== Sys2Proof/Machine/Groups.lean ====
section
/-! DEFINITION. Concatenated groups and LCAS (spec 07 R249 to R259, R271). -/

namespace Sys2Proof.Machine

def grpGet (s : State) (d g : Nat) : Group := tabGet {} s.groups (d * 2048 + g)
def grpPut (d g : Nat) (k : Group) (s : State) : State := s.putGroups (tabSet {} s.groups (d * 2048 + g) k)

/-! ### Types (Table 7-4) -/

/-- Parts of a member; 0 for a reserved TYPE. -/
def grpParts (ty : Nat) : Nat :=
  match ty with
  | 0 => 1
  | 1 => 3
  | 4 => 2
  | 5 => 8
  | 6 => 31
  | _ => 0

def grpMost (ty : Nat) : Nat :=
  match ty with
  | 0 => 256
  | 1 => 85
  | 4 => 128
  | 5 => 32
  | 6 => 8
  | _ => 0

def grpSdh (ty : Nat) : Bool := ty < 4

/-- Nominal rate of an ODU type of a group in kbit/s. -/
def grpOdu (ty : Nat) : Nat := oduRate (match ty with | 4 => 1 | 5 => 2 | _ => 4) 0

/-- Frame period of a group's members in ns. -/
def grpPeriod (ty : Nat) : Nat := if grpSdh ty then 125000 else 122368000000 / grpOdu ty

/-- Ring rate of one part of a member (Table 7-1). -/
def grpRate (ty : Nat) : Nat := if grpSdh ty then 51846 else ringRate (grpOdu ty) (grpParts ty)

/-- Pages of a ring of one part. -/
def grpPages (ty ddmax guard : Nat) : Nat :=
  ringPages (if grpSdh ty then sdhLines 51846 ddmax guard else oduLines (grpRate ty) ddmax guard (grpOdu ty))

/-! ### Set-up (R249, R271) -/

def grpCfg (s : State) (d g : Nat) : Word := cwGet s (grpAddr d g)
def grpOn (s : State) (d g : Nat) : Bool := bit (grpCfg s d g) 35

/-- An entry of either page, or a GFP_SDH port, names a group of a die. -/
def grpNamed (s : State) (d g : Nat) : Bool :=
  (deckEntries s d false ++ deckEntries s d true).any (fun e =>
      !isSelAddr e.1 && bit e.2 35 && !bit e.2 34 && entryGrp e.2 == g) ||
    (livePorts s).any fun p =>
      liveAdapt s p.1 p.2 == 0xA && dieOf p.1 == d && bit (cwGet s (mapAddr p.1 p.2 2)) 35 &&
        cwFld s (mapAddr p.1 p.2 2) 31 21 == g

/-- What refuses a write to GRP_CFG. -/
def grpStatus (s : State) (d g : Nat) (v : Word) : Nat :=
  let old := grpCfg s d g
  let ty := fld v 34 32
  let members := fld v 30 23 + 1
  let dd := fld v 22 11
  if bit old 35 then
    if v &&& 0xFFFFFFC00 != putFld old 35 35 0 then St.portEnabled else if grpNamed s d g then St.portInUse else 0
  else if grpOn s (1 - d) g then (if bit v 35 then St.pairDie else St.portEnabled)
  else if !bit v 35 then 0
  else if grpParts ty = 0 || members > grpMost ty || members * grpParts ty > 256 || (bit v 31 && !grpSdh ty) then
    St.groupShape
  else if dd = 0 || dd > 2048 then St.thrRange
  else allocStatus s d (members * grpParts ty) (grpRate ty) (grpPages ty dd (guardUs s d))

/-- Apply a write to GRP_CFG (R242, R243, R271). -/
def applyGrp (d g : Nat) (v : Word) (s : State) : Applied :=
  match grpStatus s d g v with
  | 0 =>
    let was := grpOn s d g
    let t := cwSet (grpAddr d g) (v &&& 0xFFFFFFC00) s
    if bit v 35 && !was then
      let ty := fld v 34 32
      let n := (fld v 30 23 + 1) * grpParts ty
      let rs := freeRings t d n
      .ok (grpPut d g { rings := rs } (allocRings rs (grpRate ty) (grpPages ty (fld v 22 11) (guardUs t d)) t))
    else if was && !bit v 35 then .ok (grpPut d g {} (freeRingsOf (grpGet t d g).rings t))
    else .ok t
  | st => .error st

/-- GRP_CFG (R242, R271). -/
def execGrpCfg (d : DieId) (g : GroupId) (w : CtlWrite) (s : State) : Result :=
  .next (settle w.origin .word (grpAddr d.val g.val) s (applyGrp d.val g.val w.value s))

/-! ### Members (R250 to R253) -/

/-- A monitoring context is linked to a group as a member (Table 7-11). -/
def linkedTo (s : State) (d g : Nat) (m : Mon) : Bool :=
  bit m.w30 35 && fld m.w30 34 24 == g && monLayer m == (if grpSdh (fld (grpCfg s d g) 34 32) then 0xC else 3)

/-- The context of a member sequence. -/
def memberCtx (s : State) (d g seq : Nat) : Option Nat :=
  (s.mons.find? fun e => linkedTo s d g e.2 && fld e.2.w30 23 16 == seq).map (·.1)

/-- Members of a group with their contexts. -/
def membersOf (s : State) (d g : Nat) : List (Nat × Option Nat) :=
  (List.range (fld (grpCfg s d g) 30 23 + 1)).map fun m => (m, memberCtx s d g m)

/-- A member is present (R251). -/
def memberPresent (s : State) (id : Nat) : Bool :=
  let m := monGet s id
  !m.mlom && !defOn m Df.tsf && !defOn m Df.ssf

/-- A port terminates a group. -/
def grpTerminated (s : State) (d g : Nat) : Bool :=
  (livePorts s).any fun p =>
    liveAdapt s p.1 p.2 == 0xA && dieOf p.1 == d && bit (cwGet s (mapAddr p.1 p.2 2)) 35 &&
      cwFld s (mapAddr p.1 p.2 2) 31 21 == g

/-- The group runs LCAS, terminated here (R256). -/
def grpLcas (s : State) (d g : Nat) : Bool := bit (grpCfg s d g) 31 && grpTerminated s d g

/-- Time that a ring of the group holds, in ns. -/
def grpSpan (s : State) (d g : Nat) : Nat :=
  match (grpGet s d g).rings with
  | r :: _ => match (ringGet s r).rate with
    | 0 => 0
    | rate => (ringGet s r).pages * 29127 * 256000000 / rate
  | [] => 0

/-- A member's rings have completed the frame being read, and will not overwrite it (R253). -/
def memberFits (s : State) (d g id : Nat) : Bool :=
  let k := grpGet s d g
  let t := grpPeriod (fld (grpCfg s d g) 34 32)
  let m := monGet s id
  memberPresent s id && k.placed && decide (m.delay ≤ k.readAt) && decide (k.readAt + 2 * t ≤ m.delay + grpSpan s d g)

/-- A member is in the payload set (R254, R258). -/
def memberPays (s : State) (d g id : Nat) : Bool := if grpLcas s d g then (monGet s id).payload else true

/-- Contexts of the payload members. -/
def payloadOf (s : State) (d g : Nat) : List Nat :=
  (membersOf s d g).filterMap fun m => match m.2 with | some id => if memberPays s d g id then some id else none | none => none

/-- MLOM_DECLARE (R251): five consecutive frames without advance. -/
def execMlomDeclare (c : CtxId) (s : State) : Result :=
  let m := monGet s c.val
  .next (if bit m.w30 35 && decide (m.mfBad ≥ 5) then monPut c.val { m with mlom := true } s else s)

/-- MLOM_CLEAR (R251): two consecutive frames that advance. -/
def execMlomClear (c : CtxId) (s : State) : Result :=
  let m := monGet s c.val
  .next (if decide (m.mfGood ≥ 2) then monPut c.val { m with mlom := false } s else s)

/-- GROUP_READER_PLACE (R252): every present member is aligned. -/
def execGroupReaderPlace (d : DieId) (g : GroupId) (s : State) : Result :=
  let k := grpGet s d.val g.val
  let w := grpCfg s d.val g.val
  let t := grpPeriod (fld w 34 32)
  let present := (membersOf s d.val g.val).filterMap fun m =>
    match m.2 with | some id => if memberPresent s id then some id else none | none => none
  .next (if bit w 35 && !k.placed && !present.isEmpty && present.all (fun id => (monGet s id).mfi.isSome) then
      let latest := (payloadOf s d.val g.val).foldl (fun n id => if present.contains id then Nat.max n (monGet s id).delay else n) 0
      let base := if bit w 10 then fld w 22 11 * 125000 else latest
      grpPut d.val g.val { k with placed := true, readAt := base + guardUs s d.val * 1000 + t } s
    else s)

/-- GROUP_RETIME (R253): a payload member too late moves the reader back by whole frames. -/
def execGroupRetime (d : DieId) (g : GroupId) (s : State) : Result :=
  let k := grpGet s d.val g.val
  let w := grpCfg s d.val g.val
  let t := grpPeriod (fld w 34 32)
  let worst := (payloadOf s d.val g.val).foldl
    (fun n id => if memberPresent s id then Nat.max n (monGet s id).delay else n) 0
  .next (if bit w 35 && k.placed && !bit w 10 && decide (worst > k.readAt) then
      let n := ceilDiv (worst - k.readAt) t
      proofHit d.val g.val 4 n (grpPut d.val g.val { k with readAt := k.readAt + n * t } s)
    else s)

/-! ### LOA (R254) -/

/-- An active entry names a part of a member. -/
def memberConnected (s : State) (d g m : Nat) : Bool :=
  let parts := grpParts (fld (grpCfg s d g) 34 32)
  (deckEntries s d false).any fun e =>
    !isSelAddr e.1 && bit e.2 35 && !bit e.2 34 && entryGrp e.2 == g && decide (parts ≠ 0) && fld e.2 7 0 / parts == m

/-- A cause of LOA stands. -/
def loaCause (s : State) (d g : Nat) : Bool :=
  if bit (grpCfg s d g) 31 then (payloadOf s d g).isEmpty
  else (membersOf s d g).any fun m =>
    !memberConnected s d g m.1 ||
      (match m.2 with
      | some id =>
        let c := monGet s id
        c.mlom || c.sq != m.1 || ((grpGet s d g).placed && !memberFits s d g id)
      | none => true)

/-- Payload members now. -/
def activeCount (s : State) (d g : Nat) : Nat := (payloadOf s d g).length

/-- LOA_CHANGE (R254): LOA is declared while a cause stands, and clears once none does and the reader has placed itself. -/
def execLoaChange (d : DieId) (g : GroupId) (s : State) : Result :=
  let k := grpGet s d.val g.val
  let cause := loaCause s d.val g.val
  let report := fun (loa : Bool) (s : State) =>
    dueRecord (prfQueue s d.val) 0x15
      [mkWord [(25, g.val), (24, b2n loa), (15, activeCount s d.val g.val)], s.tick] s
  .next (if !grpOn s d.val g.val then s
    else if cause && !k.loa then report true (grpPut d.val g.val { k with loa := true, placed := false } s)
    else if !cause && k.loa && k.placed then report false (grpPut d.val g.val { k with loa := false } s)
    else s)

/-! ### LCAS (R257 to R259, Table 7-13) -/

/-- LCAS_PACKET_RX (R257): a packet with a good CRC-8 is accepted into field 22h; `mst` is a received MST word and its
number. -/
def execLcasPacketRx (c : CtxId) (crcOk : Bool) (ctrl : Fin 16) (sq : Fin 256) (rsAck : Bool)
    (mst : Option (Fin 8 × BitVec 32)) (s : State) : Result :=
  let m := monGet s c.val
  .next (if !bit m.w30 35 then s
    else if !crcOk then monPut c.val { m with crcErr := Nat.min (m.crcErr + 1) 0xFFF } s
    else
      let s := ohSet c.val 0x22 0 (mkWord [(32, ctrl.val), (24, sq.val), (23, b2n rsAck)]) s
      let s := match mst with
        | some x => ohSet c.val 0x22 (1 + x.1.val) (BitVec.ofNat 36 x.2.toNat) s
        | none => s
      monPut c.val { m with sq := sq.val } s)

/-- CTRL codes NORM and EOS of G.7042. -/
def ctrlPays (c : Nat) : Bool := c == 2 || c == 3

/-- LCAS_PAYLOAD_CHANGE (R258): the payload set at the designated multiframe boundary. -/
def execLcasPayloadChange (d : DieId) (g : GroupId) (s : State) : Result :=
  .next (if grpLcas s d.val g.val then
      (membersOf s d.val g.val).foldl (fun s m => match m.2 with
        | some id => monPut id { monGet s id with
            payload := memberFits s d.val g.val id && ctrlPays (fld (ohWord s id 0x22 0) 35 32) } s
        | none => s) s
    else s)

/-- LCAS_TX_CHANGE (R259): transmitted CTRL and SQ take effect at the designated multiframe boundary. -/
def execLcasTxChange (c : CtxId) (s : State) : Result :=
  let m := monGet s c.val
  .next (if bit m.w30 35 then monPut c.val { m with txCtrl := ohWord s c.val 0x22 9 } s else s)

/-- GRP_STAT as it stands: LOA, payload members, the latest present member and its delay in µs (Table 7-9). -/
def grpStat (s : State) (d g : Nat) : Word :=
  let present := (membersOf s d g).filterMap fun m =>
    match m.2 with | some id => if memberPresent s id then some (m.1, (monGet s id).delay) else none | none => none
  let latest := present.foldl (fun a m => if m.2 > a.2 then m else a) (0, 0)
  mkWord [(35, b2n (grpGet s d g).loa), (26, activeCount s d g), (18, latest.1 % 256), (0, Nat.min (latest.2 / 1000) 0x3FFFF)]

end Sys2Proof.Machine
end

