-- ==== Sys2Proof/Machine/Overhead.lean ====
section
/-! DEFINITION. Overhead access, performance bins, filter set-up, defect events and consequent actions (spec 04 R122 to
R160). -/

namespace Sys2Proof.Machine

/-! ### Overhead buffers -/

/-- OH.GET (R126, R128): the word as latched at T0. -/
def execOhGet (i : IssA) (gD gA : Reg) (off : Fin 256) (field word : Fin 64) (s : State) : Result :=
  .next (issue (issueOfA i) { reads := [gA.val], writes := [gD.val], lat := ctxLatency i.eng.val, ctxRd := 1 }
    (readContext i.eng.val gD.val gA.val off.val (fun s id => tabGet 0 s.ohT0 (ohKey id field.val word.val))) s)

/-- OH.PUT (R129): staged. -/
def execOhPut (i : IssA) (gD gA : Reg) (off : Fin 256) (field word : Fin 64) (s : State) : Result :=
  .next (issue (issueOfA i) { reads := [gD.val, gA.val], staged := 1 }
    (onContext i.eng.val gA.val off.val (fun id s =>
      stage i.eng.val (.ohPut id field.val word.val (operand s i.eng.val gD.val)) s)) s)

/-- Count an event of OH_ERR in a unit (R130, R132, R148). -/
def ohErr (u : Nat) (s : State) : State := cwCount (ctlAddr clsOh u 0x802) 1 s

/-- The unit whose OH_ERR counts a misdirected effect on a context: the issuing unit, else the unit that holds it. -/
def ohErrUnit (o : Origin) (id : Nat) (s : State) : Nat :=
  match o.src with
  | .unit u => u.val
  | _ => ctxUnit s id

/-- A misdirected OH.PUT: CFG_RANGE for a batch, counted in OH_ERR for a program (R130). -/
def ohMisdirect (o : Origin) (id : Nat) (s : State) : State :=
  match o.src with
  | .batch _ => refuse o St.cfgRange .word 0 s
  | _ => ohErr (ohErrUnit o id s) s

/-- Modes that honour the FORCE word (R132). -/
def forceMode (m : Mode) : Bool := m == .provision || m == .active || m == .test

/-- The signalling field of a pair that the device itself writes (R287): 07h, 15h or 20h by LAYER. -/
def signalField (layer : Nat) : Nat := if layer = 0xB then 0x15 else if layer = 0xC then 0x20 else 0x07

/-! ### Defect writes -/

/-- DEF.SET (R147): staged. -/
def execDefSet (i : IssA) (gA : Reg) (off : Fin 256) (bit : Fin 64) (s : State) : Result :=
  .next (issue (issueOfA i) { reads := [gA.val], staged := 1 }
    (onContext i.eng.val gA.val off.val (fun id s => stage i.eng.val (.defSet id bit.val) s)) s)

/-- DEF.CLR (R147): staged. -/
def execDefClr (i : IssA) (gA : Reg) (off : Fin 256) (bit : Fin 64) (s : State) : Result :=
  .next (issue (issueOfA i) { reads := [gA.val], staged := 1 }
    (onContext i.eng.val gA.val off.val (fun id s => stage i.eng.val (.defClr id bit.val) s)) s)

/-- A staged defect write applied: a bit that is not the loaf's has no effect and counts in OH_ERR (R148). -/
def applyDef (o : Origin) (id b : Nat) (v : Bool) (s : State) : State :=
  if defSoftware b then setDefect id b v s else ohErr (ohErrUnit o id s) s

/-! ### Records and bins -/

/-- The tick that a pass reads about: the one just ended, and its wrap count (R159, R158). -/
def endTick (s : State) : Word := s.tick - 1
def endWrap (s : State) : Word := if s.tick = 0 then s.wrap - 1 else s.wrap

/-- ALM (R159). -/
def execAlm (i : IssA) (gA : Reg) (off : Fin 256) (s : State) : Result :=
  .next (issue (issueOfA i) { reads := [gA.val], cost := 6, items := 1 }
    (onContext i.eng.val gA.val off.val (fun id s =>
      let m := monGet s id
      record (fld m.w9 27 25) 0x04 i.eng.val
        [mkWord [(22, id), (17, fld m.w8 35 31)], ctxWord s id 32, ctxWord s id 36, endTick s] s)) s)

/-- Add to a counter word of a bin that starts at a context word; SAT and SAT_ANY at its top (R156). -/
def binAdd (id bin p add : Nat) (s : State) : State :=
  let w := ctxWord s id (bin + 2 + p)
  if bit w 35 then s
  else
    let sum := fld w 34 0 + add
    if sum ≤ 0x7FFFFFFFF then ctxSet id (bin + 2 + p) (BitVec.ofNat 36 sum) s
    else ctxSet id bin (putFld (ctxWord s id bin) 33 33 1) (ctxSet id (bin + 2 + p) 0xFFFFFFFFF s)

/-- PM.ADD (R156). -/
def execPmAdd (i : IssA) (gD gA : Reg) (off : Fin 256) (param : Fin 8) (s : State) : Result :=
  .next (issue (issueOfA i) { reads := [gD.val, gA.val], cost := 3, ctxWr := 1 }
    (onContext i.eng.val gA.val off.val (fun id s =>
      let v := (operand s i.eng.val gD.val).toNat
      binAdd id 84 param.val v (binAdd id 64 param.val v s))) s)

/-- Roll a bin (R157): first word of the current bin; the previous one lies ten words on. -/
def rollBin (id bin : Nat) (suspect : Bool) (s : State) : State :=
  let s := (List.range 10).foldl (fun s k => ctxSet id (bin + 10 + k) (ctxWord s id (bin + k)) s) s
  let s := ctxSet id (bin + 11) (endTick s) s
  let s := (List.range 8).foldl (fun s k => ctxSet id (bin + 2 + k) 0 s) s
  ctxSet id (bin + 1) s.tick (ctxSet id bin (mkWord [(35, 1), (34, b2n suspect)]) s)

/-- The PM record of a bin just rolled (R158). -/
def pmRecord (src id bin : Nat) (s : State) : State :=
  let m := monGet s id
  let h := ctxWord s id (bin + 10)
  record (fld m.w9 30 28) 0x03 src
    ([mkWord [(22, id), (17, fld m.w8 35 31), (16, b2n (bin == 84)), (15, fld h 34 34), (14, fld h 33 33)], endTick s,
      endWrap s] ++ (List.range 8).map fun k => ctxWord s id (bin + 12 + k)) s

/-- PM.ROLL (R157). -/
def execPmRoll (i : IssA) (gA : Reg) (off : Fin 256) (bin suspect : Bool) (s : State) : Result :=
  .next (issue (issueOfA i) { reads := [gA.val], cost := 24, items := 1 }
    (onContext i.eng.val gA.val off.val (fun id s =>
      let b := if bin then 84 else 64
      let s := rollBin id b suspect s
      if bit (monGet s id).w9 (if bin then 22 else 23) then pmRecord i.eng.val id b s else s)) s)

/-! ### Filter set-up (R139 to R145) -/

/-- The cell that gA names, by its key (R139). -/
def filtCell (e : Nat) (a : Word) : Nat :=
  if e < 64 then cellKey (clusterOf e) (fld a 10 0) else cellKey (fld a 14 11) (fld a 10 0)

/-- A unit program may reach a cell: it is disabled or watches a context that the unit holds (R140). -/
def cellOpen (s : State) (e k : Nat) : Bool :=
  !(e < 64) || !bit (cellCfg s k) 35 ||
    (match ctxPlace s (cellCtx (cellCfg s k)) with | some p => p / 256 == e | none => false)

/-- FC_STAT of a cell (Table 4-15). -/
def cellStat (c : Cell) : Word := mkWord [(35, b2n c.valid), (34, b2n c.unstable), (30, c.run), (14, c.changes)]

/-- A word of a cell as a program reads it: set-up as stored, the rest as latched at T0. -/
def cellWord (s : State) (k w : Nat) : Word :=
  if w < 2 then cwGet s (cellAddr (k / 2048) (k % 2048) w)
  else if w = 2 then (if fld (cellCfg s k) 34 33 = 0 then (tabGet ({} : Cell) s.cellsT0 k).acc else 0)
  else cellStat (tabGet ({} : Cell) s.cellsT0 k)

/-- FILT.SET (Table 9-7): staged. -/
def execFiltSet (i : IssA) (gA gB : Reg) (word : Fin 2) (s : State) : Result :=
  .next (issue (issueOfA i) { reads := [gA.val, gB.val], staged := 1 } (fun s =>
    let e := i.eng.val
    let k := filtCell e (operand s e gA.val)
    if granted s e true clsOh && cellOpen s e k then stage e (.filtSet k word.val (operand s e gB.val)) s
    else outsideGrant e (cellAddr (k / 2048) (k % 2048) word.val) s) s)

/-- FILT.GET (Table 9-7). -/
def execFiltGet (i : IssA) (gD gA : Reg) (word : Fin 4) (s : State) : Result :=
  .next (issue (issueOfA i) { reads := [gA.val], writes := [gD.val], lat := 4 } (fun s =>
    let e := i.eng.val
    let k := filtCell e (operand s e gA.val)
    if granted s e false clsOh && cellOpen s e k then setReg e gD.val (cellWord s k word.val) s
    else setReg e gD.val 0 (outsideGrant e (cellAddr (k / 2048) (k % 2048) word.val) s)) s)

/-- A write to FC_CFG (word 0) or FC_MASK (word 1) of a cell (R141, R145). -/
def applyFilt (k w : Nat) (v : Word) (s : State) : Applied :=
  if w = 0 && fld v 32 29 = 1 then .error St.thrRange
  else if w = 0 && fld v 34 33 ≥ 2 then .error St.cfgRange
  else
    let old := cellCfg s k
    let s := cwSet (cellAddr (k / 2048) (k % 2048) w) (v &&& BitVec.ofNat 36 ((ohStore w).getD 0)) s
    let new := cellCfg s k
    let c := cellGet s k
    let c := { c with run := 0 }
    let c := if fld old 34 33 != fld new 34 33 || fld old 28 3 != fld new 28 3 then { c with valid := false, acc := 0 } else c
    let c := if !bit old 35 && bit new 35 then { c with changes := 0 } else c
    .ok (settleDefs (cellPut k c s))

/-- FC_CFG: a write to a cell's set-up applied (R145). -/
def execFcCfg (c : ClusterId) (cell : Fin 2048) (word : Fin 2) (w : CtlWrite) (s : State) : Result :=
  .next (settle w.origin .word (cellAddr c.val cell.val word.val) s
    (applyFilt (cellKey c.val cell.val) word.val w.value s))

/-! ### The bin clock (R153, R154) -/

/-- A write to OH_PM_SET of a unit. -/
def applyPmSet (v : Word) (s : State) : Applied :=
  if !bit v 35 then .ok s
  else if fld v 32 10 > 7199999 || fld v 9 3 > 95 then .error St.thrRange
  else .ok (s.putBinLoad (some (fld v 32 10, fld v 9 3)))

/-- OH_PM_SET (R154). -/
def execOhPmSet (u : UnitId) (w : CtlWrite) (s : State) : Result :=
  .next (settle w.origin .word (ctlAddr clsOh u.val 0x800) s (applyPmSet w.value s))

/-- OH_ERR_CLEAR. -/
def execOhErrClear (u : UnitId) (s : State) : Result := .next (cwSet (ctlAddr clsOh u.val 0x802) 0 s)

/-- OH_PM_TIME of the tick that ends, and the bin clock of the next one (R153, R154, Table 4-19). -/
def binTick (s : State) : State :=
  let q := s.binQ
  let qEnd := q == 7199999
  let w := mkWord [(35, b2n ((q + 1) % 8000 == 0)), (34, b2n qEnd), (33, b2n (qEnd && s.binD == 95)), (10, q),
    (3, s.binD), (2, b2n s.binLoad.isSome), (1, b2n s.binRestored)]
  let next := match s.binLoad with
    | some p => p
    | none => if qEnd then (0, if s.binD = 95 then 0 else s.binD + 1) else (q + 1, s.binD)
  (s |>.putPmTime w |>.putBinQ next.1 |>.putBinD next.2 |>.putBinLoad none |>.putBinRestored false)

/-! ### Defect events (R147, Table 4-16) -/

/-- Set LOS of a stream. -/
def setLos (r : StreamRef) (v : Bool) (s : State) : State :=
  let k := streamKey r.unit.val r.num.val
  settleDefs (framerPut k { framerGet s k with los := v } s)

/-- A member lane of a stream has no signal. -/
def signalMissing (s : State) (r : StreamRef) : Bool :=
  let c := frmCfg s r.unit.val r.num.val
  (lanesOf (frmLanes s r.unit.val r.num.val)).any fun l => !(laneGet s (laneKey (fld c 30 30) l)).sigDet

/-- LOS_DECLARE: no signal on a member lane, or no transitions on a SONET/SDH stream, for LOS_T. -/
def execLosDeclare (r : StreamRef) (s : State) : Result :=
  let c := frmCfg s r.unit.val r.num.val
  .next (if frmLive c && (signalMissing s r || frmProto c == 3) then setLos r true s else s)

/-- LOS_CLEAR: signal present for 125 µs. -/
def execLosClear (r : StreamRef) (s : State) : Result :=
  .next (if frmLive (frmCfg s r.unit.val r.num.val) && !signalMissing s r then setLos r false s else s)

/-- Layers that detect a defect (Table 4-16), for the defects that these events declare. -/
def defLayer (l d : Nat) : Bool :=
  let tcm := decide (4 ≤ l) && decide (l ≤ 9)
  let odu := l == 3 || tcm
  if d = Df.ais then odu || l == 0xB || l == 0xC
  else if d = Df.oci || d = Df.lck then odu
  else if d = Df.ltc then tcm
  else if d = Df.bdi then (decide (1 ≤ l) && decide (l ≤ 9)) || l == 0xB || l == 0xC
  else if d = Df.tim then (decide (1 ≤ l) && decide (l ≤ 0xA)) || l == 0xC
  else if d = Df.plm then l == 3 || l == 0xC
  else if d = Df.uneq || d = Df.lop then l == 0xC
  else if d = Df.msim || d = Df.loomfi then l == 3
  else if d = Df.iae then l == 1 || l == 2
  else if d = Df.biae then l == 1 || l == 2 || tcm
  else if d = Df.gidm || d = Df.pidm then l == 2 || l == 0xE
  else if d = Df.lf || d = Df.rf then l == 0xD
  else if d = Df.rpf then l == 0xE
  else false

/-- Consecutive frames that declare a defect, where Table 4-16 counts frames. -/
def setFrames (sonet : Bool) (l d : Nat) : Option Nat :=
  if d = Df.ais then some (if l = 0xB && sonet then 5 else 3)
  else if d = Df.oci || d = Df.lck || d = Df.ltc || d = Df.biae || d = Df.rpf then some 3
  else if d = Df.bdi then some (if l = 0xC && sonet then 10 else 5)
  else if d = Df.iae then some 5
  else if d = Df.lop then some 8
  else none

/-- Consecutive frames that clear it. -/
def clrFrames (sonet : Bool) (l d : Nat) : Option Nat :=
  if d = Df.biae then some 2 else if d = Df.lop then some 3 else setFrames sonet l d

/-- Octet i of a run of buffer words. -/
def ohOctet (s : State) (id field word i : Nat) : Nat := octetOf (ohWord s id field (word + i / 4)) (i % 4)

/-- Octets of two runs of a buffer agree. -/
def octetsEqual (s : State) (id field a b n : Nat) : Bool :=
  (List.range n).all fun i => ohOctet s id field a i == ohOctet s id field b i

/-- The accepted trace differs from the expected one under TIM_MODE (Table 4-16). -/
def timDiffers (s : State) (id : Nat) (m : Mon) : Bool :=
  let mode := fld m.w8 27 26
  match traceField (monLayer m) with
  | some 0x01 =>
    (mode.testBit 0 && !octetsEqual s id 0x01 16 48 16) || (mode.testBit 1 && !octetsEqual s id 0x01 20 52 16)
  | some f =>
    let n := match fld m.w8 25 24 with | 0 => 1 | 1 => 16 | _ => 64
    mode != 0 && !octetsEqual s id f 16 48 n
  | none => false

/-- The accepted PT or C2 (Table 4-16). -/
def acceptedType (s : State) (id : Nat) (m : Mon) : Option Nat :=
  (acceptedWord s id (if monLayer m = 3 then 0x0D else 0x1C) 0).map fun w => octetOf w 0

/-- The criterion of Table 4-16 for declaring a defect is met, as far as the state shows it; the others are reported by
the process that watches them. -/
def declareMet (s : State) (id d : Nat) : Bool :=
  let m := monGet s id
  let l := monLayer m
  defLayer l d &&
    (if d = Df.tim then timDiffers s id m
     else if d = Df.plm then (match acceptedType s id m with | some t => t != fld m.w8 23 16 | none => false)
     else if d = Df.uneq then acceptedType s id m == some 0
     else if d = Df.loomfi then m.omfiOom
     else match setFrames (isSonet s id) l d with
      | some n => decide (tabGet 0 m.setRun d ≥ n)
      | none => true)

/-- The criterion of Table 4-16 for clearing a defect is met. -/
def clearMet (s : State) (id d : Nat) : Bool :=
  let m := monGet s id
  let l := monLayer m
  defLayer l d &&
    (if d = Df.tim then !timDiffers s id m
     else if d = Df.plm then (match acceptedType s id m with | some t => t == fld m.w8 23 16 | none => true)
     else if d = Df.uneq then acceptedType s id m != some 0
     else if d = Df.loomfi then !m.omfiOom
     else match clrFrames (isSonet s id) l d with
      | some n => decide (tabGet 0 m.clrRun d ≥ n)
      | none => true)

/-- DEFECT_DECLARE (R147, R149). -/
def execDefectDeclare (c : CtxId) (d : Fin 36) (s : State) : Result :=
  .next (if declareMet s c.val d.val then setDefect c.val d.val true s else s)

/-- DEFECT_CLEAR (R147, R149). -/
def execDefectClear (c : CtxId) (d : Fin 36) (s : State) : Result :=
  .next (if clearMet s c.val d.val then setDefect c.val d.val false s else s)

/-! ### Consequent actions (R150 to R152) -/

/-- The insertion is due: downstream, or backward. -/
def actionDue (m : Mon) (backward : Bool) : Bool := if backward then backDue m else downDue m

/-- CONSEQUENT_ACTION_START: insertion begins at its frame boundary while its cause stands. -/
def execConsequentActionStart (c : CtxId) (backward : Bool) (s : State) : Result :=
  let m := monGet s c.val
  .next (if actionDue m backward then monPut c.val { m with actions := maskSet m.actions (b2n backward) true } s else s)

/-- CONSEQUENT_ACTION_END: insertion ends at its frame boundary after its cause has cleared. -/
def execConsequentActionEnd (c : CtxId) (backward : Bool) (s : State) : Result :=
  let m := monGet s c.val
  .next (if actionDue m backward then s else monPut c.val { m with actions := maskSet m.actions (b2n backward) false } s)

/-- An insertion downstream of a context or of a server of it replaces the signal that carries its overhead (R152). -/
def replacedAbove : Nat → State → Nat → Bool
  | 0, _, _ => false
  | d + 1, s, id =>
    let sv := monServer (monGet s id)
    (streamOfCtx s id).isNone && sv != id && ((monGet s sv).actions.testBit 0 || replacedAbove d s sv)

/-- A context's backward indication is sent in the frames now going out (R152). -/
def backwardSent (s : State) (id : Nat) : Bool :=
  (monGet s id).actions.testBit 1 && !(monGet s id).actions.testBit 0 && !replacedAbove serverDepth s id

/-- The FORCE bits of a context that take effect: none beside an action of its own layer or of a server (R152). -/
def forceInEffect (s : State) (id : Nat) : Nat :=
  if forceMode s.mode && (monGet s id).actions == 0 && !replacedAbove serverDepth s id then fld (ohWord s id 0x3F 0) 35 24
  else 0

end Sys2Proof.Machine
end

