-- ==== Sys2Proof/Machine/Protection.lean ====
section
/-! DEFINITION. Protection switching: set-up, the fast path, requests, signalling and timers (spec 08 R274 to R298). -/

namespace Sys2Proof.Machine

/-! ### Where a pair lies (R208 to R210) -/

/-- The home die of a pair. -/
def homeDie (s : State) (p : Nat) : Option Nat :=
  if pairValidIn s 0 p then some 0 else if pairValidIn s 1 p then some 1 else none

/-- Its active selector entry; 0 where it has none. -/
def selEntry (s : State) (p : Nat) : Word :=
  match homeDie s p with
  | some d => deckEntry s false (deckSel d p)
  | none => 0

/-- The selector entry that the pair's output reads: of the old page until its carrier has changed (R221). -/
def selInUse (s : State) (p : Nat) : Word :=
  match homeDie s p with
  | some d =>
    match (deckEntries s d false ++ deckEntries s d true).find? fun e =>
        !isSelAddr e.1 && bit (outputEntry s e.1) 35 && bit (outputEntry s e.1) 34 && entryPair e.1 (outputEntry s e.1) == p with
    | some e => outputSelector s e.1 p
    | none => deckEntry s false (deckSel d p)
  | none => 0

/-- ARCH of a pair: 0 1+1 unidirectional, 1 1+1 bidirectional, 2 1:1. -/
def archOf (s : State) (p : Nat) : Nat := fld (selInUse s p) 32 31

/-- SEL of a pair. -/
def pairSel (s : State) (p : Nat) : Bool := match homeDie s p with | some d => selOf s d p | none => false

/-- A pair is the bridge of an enabled 1:1 pair, which drives it (R280). -/
def isDriven (s : State) (p : Nat) : Bool :=
  (livePairs s).any fun q => bit (prtLink s q) 23 && fld (prtLink s q) 22 12 == p && archOf s q == 2

/-! ### The conditions of a path (R282) -/

def pathCtx (s : State) (p : Nat) (protect : Bool) : Nat := if protect then pCtx s p else wCtx s p
def pathTsf (s : State) (p : Nat) (protect : Bool) : Bool := defOn (monGet s (pathCtx s p protect)) Df.tsf
def pathTsd (s : State) (p : Nat) (protect : Bool) : Bool := defOn (monGet s (pathCtx s p protect)) Df.tsd
/-- TSF or TSD stands. -/
def pathBad (s : State) (p : Nat) (protect : Bool) : Bool := pathTsf s p protect || pathTsd s p protect

def hoRunning (k : Pair) (protect : Bool) : Bool := if protect then k.hoP else k.hoW
def hoDone (k : Pair) (protect : Bool) : Bool := if protect then k.doneP else k.doneW
def hoPut (protect running done : Bool) (k : Pair) : Pair :=
  if protect then { k with hoP := running, doneP := done } else { k with hoW := running, doneW := done }

/-- SF and SD of a path reach the fast path: no hold-off delays them. -/
def pathOpen (s : State) (p : Nat) (protect : Bool) : Bool :=
  let k := prtGet s p
  prtOn s p && !hoRunning k protect && (prtHoldoff s p == 0 || hoDone k protect)

def pathSf (s : State) (p : Nat) (protect : Bool) : Bool := pathOpen s p protect && pathTsf s p protect
def pathSd (s : State) (p : Nat) (protect : Bool) : Bool :=
  pathOpen s p protect && pathTsd s p protect && bit (prtCfg s p) 20

/-- The pair runs: enabled, valid, not held, neither a follower nor driven. -/
def pairRuns (s : State) (p : Nat) : Bool :=
  prtOn s p && !prtFollows s p && bit (selEntry s p) 35 && !(prtGet s p).held && !isDriven s p

/-- Start a path's hold-off; where no timer is free it is taken as 0 for this onset (R290). -/
def startHoldoff (p : Nat) (protect : Bool) (s : State) : State :=
  if freeTimers s (prtCluster s p) > 0 then prtPut p (hoPut protect true false (prtGet s p)) s
  else protEvt p 6 (countNoTimer p (prtPut p (hoPut protect false true (prtGet s p)) s))

/-- HOLDOFF_START (R282, R290): the onset of TSF or TSD on a path. -/
def execHoldoffStart (p : PairId) (protect : Bool) (s : State) : Result :=
  let k := prtGet s p.val
  .next (if pairRuns s p.val && decide (prtHoldoff s p.val ≠ 0) && pathBad s p.val protect && !hoRunning k protect &&
      !hoDone k protect then startHoldoff p.val protect s else s)

/-- HOLDOFF_EXPIRE (R282): SF and SD take TSF and TSD as they stand. -/
def execHoldoffExpire (p : PairId) (protect : Bool) (s : State) : Result :=
  let k := prtGet s p.val
  .next (if hoRunning k protect then prtPut p.val (hoPut protect false (pathBad s p.val protect) k) s else s)

/-! ### Signalling (R287) -/

/-- The request nibble of a rank in G.873.1 (APS/PCC), and in G.841 (K1/K2, K3). -/
def txCode (scheme rank : Nat) : Nat :=
  if scheme = 0 then
    match rank with
    | 0xA => 0xF
    | 9 => 0xE
    | 8 => 0xD
    | 7 => 0xB
    | 6 => 0x9
    | 5 => 0x7
    | 4 => 0x5
    | 3 => 0x4
    | 2 => 0x2
    | 1 => 0x1
    | _ => 0
  else
    match rank with
    | 0xA => 0xF
    | 9 => 0xC
    | 8 => 0xE
    | 7 => 0xC
    | 6 => 0xA
    | 5 => 0x8
    | 4 => 0x6
    | 3 => 0x4
    | 2 => 0x2
    | 1 => 0x1
    | _ => 0

/-- The rank of a received request nibble; SF of the K bytes is of the path its channel names. -/
def rxRank (scheme code : Nat) (sig : Bool) : Nat :=
  if scheme = 0 then
    match code with
    | 0xF => 0xA
    | 0xE => 9
    | 0xD => 8
    | 0xB => 7
    | 0x9 => 6
    | 0x7 => 5
    | 0x5 => 4
    | 0x4 => 3
    | 0x2 => 2
    | 0x1 => 1
    | _ => 0
  else
    match code with
    | 0xF => 0xA
    | 0xE => 8
    | 0xD => if sig then 7 else 9
    | 0xC => if sig then 7 else 9
    | 0xB => 6
    | 0xA => 6
    | 0x8 => 5
    | 0x6 => 4
    | 0x4 => 3
    | 0x2 => 2
    | 0x1 => 1
    | _ => 0

/-- A buffer word of octets, K set on each. -/
def octetWord (os : List Nat) : Word := mkWord ((List.range os.length).map fun j => (9 * j, 0x100 + os.getD j 0))

/-- The bridged signal as transmitted: permanent in 1+1, the bridge pair's SEL in 1:1. -/
def bridgeState (s : State) (p : Nat) : Bool :=
  archOf s p != 2 || pairSel s (fld (prtLink s p) 22 12)

/-- Type bits of APS/PCC: A, B, D and R. -/
def apsType (s : State) (p : Nat) : Nat :=
  8 + 4 * b2n (archOf s p == 2) + 2 * b2n (archOf s p != 0) + b2n (bit (prtCfg s p) 32)

/-- The signalling that GOV, the bridge, ARCH and REVERT make (R287). -/
def txSignal (s : State) (p : Nat) : Word :=
  let k := prtGet s p
  let sch := prtScheme s p
  let code := txCode sch (if k.govFar then 2 else k.gov)
  let sig := b2n k.govSig
  let br := b2n (bridgeState s p)
  if sch = 0 then octetWord [code * 16 + apsType s p, sig, br, 0]
  else if sch = 1 then
    octetWord [code * 16 + sig, br * 16 + 8 * b2n (archOf s p == 2) + (if archOf s p = 0 then 4 else 5)]
  else octetWord [code * 16]

/-- Write the signalling word of P_CTX. -/
def signal (p : Nat) (s : State) : State :=
  match prtScheme s p with
  | 0 => ohSet (pCtx s p) 0x07 1 (txSignal s p) s
  | 1 => ohSet (pCtx s p) 0x15 1 (txSignal s p) s
  | 2 => ohSet (pCtx s p) 0x20 1 (txSignal s p) s
  | _ => s

/-- The position that a K3 request names by itself; RR answers the position requested here. -/
def k3Sig (k : Pair) (rank : Nat) : Bool := if rank = 2 then k.govSig else rank == 8 || rank == 7 || rank == 6 || rank == 5 || rank == 4 || rank == 1

/-- The architecture or direction that a far-end value shows differs from the pair's, or its K1 channel is above 1
(R288). -/
def farDiffers (s : State) (p : Nat) (v : Word) : Bool :=
  match prtScheme s p with
  | 0 => octetOf v 0 % 16 / 2 != apsType s p / 2
  | 1 =>
    let mode := octetOf v 1 % 8
    octetOf v 0 % 16 > 1 || (octetOf v 1 / 8 % 2 == 1) != (archOf s p == 2) ||
      (mode == 4 && archOf s p != 0) || (mode == 5 && archOf s p == 0)
  | _ => false

/-- An accepted far-end value (R287, R288). -/
def farAccept (p : Nat) (v : Word) (s : State) : State :=
  let k := prtGet s p
  let sch := prtScheme s p
  let code := octetOf v 0 / 16
  let sig0 := if sch = 0 then octetOf v 1 == 1 else if sch = 1 then octetOf v 0 % 16 == 1 else false
  let rank := rxRank sch code (sig0 || sch == 2)
  let sig := if sch = 2 then k3Sig k rank else sig0
  let br := if sch = 0 then octetOf v 2 == 1 else if sch = 1 then octetOf v 1 / 16 == 1 else false
  let pm := farDiffers s p v
  let s := prtPut p { k with far := rank, farSig := sig, bridged := br, fopPm := pm } s
  if pm && !k.fopPm then protEvt p 1 s else if !pm && k.fopPm then protEvt p 2 s else s

/-- The filter cell of a pair, by its key. -/
def prtCell (s : State) (p : Nat) : Nat := cellKey (prtCluster s p) (fld (prtLink s p) 34 24)

/-- A cell accepted a value: every enabled pair that it serves takes it. -/
def farAccepted (cell : Nat) (s : State) : State :=
  (livePairs s).foldl (fun s p =>
    if bit (prtLink s p) 35 && prtCell s p == cell then farAccept p (cellGet s cell).acc s else s) s

/-! ### SEL (R284, R286, R292, R293) -/

/-- Kind of a flip of a hitless pair, and of any other (Table 8-11). -/
def flipKind (s : State) (p : Nat) : Nat :=
  if !bit (selInUse s p) 34 then 0
  else match hlStateNow s p with
    | 3 => 1
    | 6 => if unselLate s p < 0 then 2 else 3
    | _ => 4

/-- Set SEL of a pair: counted, and on a hitless pair delivered as Table 7-6 gives. -/
def setSel (p : Nat) (v : Bool) (s : State) : State :=
  match homeDie s p with
  | none => s
  | some d =>
    if selOf s d p = v then s
    else
      let kind := flipKind s p
      let before := hlStateNow s p
      let late := unselLate s p
      let hitless := bit (selInUse s p) 34
      let k := prtGet s p
      let s := prtPut p { k with
        changes := k.changes + 1, kind := kind, switches := Nat.min (k.switches + 1) 0x3FFFF,
        farSw := if k.govFar then Nat.min (k.farSw + 1) 0x3FFFF else k.farSw, waits := false } s
      let s := s.putSels (tabSet false s.sels (d * 2048 + p) v)
      if hitless then hlSwitch p before late s else s

/-- Give a pair a governing request; leaving WTR releases its timer (R290, R291). -/
def setGov (p rank : Nat) (sig far : Bool) (s : State) : State :=
  let k := prtGet s p
  let k := if rank = 4 then k else { k with wtr := false, wtrUs := 0, wtrExp := false }
  prtPut p { k with gov := rank, govSig := sig, govFar := far } s

/-- A change of SEL for this cause waits for HITLESS_OK: SD, MS, NR, DNR (R292). -/
def waitCause (gov : Nat) : Bool := gov == 6 || gov == 5 || gov == 1 || gov == 0

/-- SEL of a 1+1 pair follows GOV_SIG, after the wait of R292 on a hitless pair; only LO, SF-P, FS or SF-W end a wait in
progress. -/
def followGov (p : Nat) (s : State) : State :=
  let k := prtGet s p
  if pairSel s p = k.govSig then (if k.waits then prtPut p { k with waits := false } s else s)
  else if bit (selInUse s p) 34 && (waitCause k.gov || (k.waits && k.gov < 7)) && !hitlessOk s p && decide (fld (prtCfg s p) 19 14 ≠ 0) then
    prtPut p { k with waits := true } s
  else setSel p k.govSig s

/-- SEL of a 1:1 pair: the bridge first, its own once the far end bridges the same signal (R286). -/
def followBridge (p : Nat) (s : State) : State :=
  let k := prtGet s p
  let s := setSel (fld (prtLink s p) 22 12) k.govSig s
  if k.bridged = k.govSig then setSel p k.govSig s else s

/-! ### The fast path (R283 to R289) -/

/-- H: the highest of SF-P, SF-W and SD, with its position; none of the two positions of a double SD is stated. -/
def localRequest (s : State) (p : Nat) : Nat × Option Bool :=
  if pathSf s p true then (9, some false)
  else if pathSf s p false then (7, some true)
  else if pathSd s p false then (6, if pathSd s p true then none else some true)
  else if pathSd s p true then (6, some false)
  else (0, some false)

/-- Take H where it outranks GOV. -/
def takeLocal (p : Nat) (s : State) : State :=
  let h := localRequest s p
  if h.1 > (prtGet s p).gov then
    match h.2 with
    | some sig => setGov p h.1 sig false s
    | none => spendFree (setGov p h.1 (bit (freeNow s) 0) false s)
  else s

/-- Take the far end's request where it is MS or more and outranks GOV. -/
def takeFar (p : Nat) (s : State) : State :=
  let k := prtGet s p
  if archOf s p != 0 && bit (prtLink s p) 35 && (cellGet s (prtCell s p)).valid && !k.fopPm && !k.fopNr &&
      decide (k.far ≥ 5) && decide (k.far > k.gov) then setGov p k.far k.farSig true s
  else s

/-- FOP_NR clears where both positions agree (R288). -/
def agreeNr (p : Nat) (s : State) : State :=
  let k := prtGet s p
  if k.fopNr && k.farSig == k.govSig then protEvt p 4 (prtPut p { k with fopNr := false } s) else s

/-- One evaluation of a pair that takes decisions. -/
def takeDecision (p : Nat) (s : State) : State :=
  let s := takeFar p (takeLocal p s)
  let s := if archOf s p = 2 then followBridge p s else followGov p s
  signal p (agreeNr p s)

/-- PROT_FASTPATH_EVAL (R279, R280, R283): a frame boundary of a pair's output. -/
def execProtFastpathEval (p : PairId) (s : State) : Result :=
  .next (if (prtGet s p.val).causes ≠ 0 || !prtOn s p.val || !bit (selEntry s p.val) 35 || isDriven s p.val then s
    else if prtFollows s p.val then setSel p.val (pairSel s (fld (prtLink s p.val) 10 0)) s
    else if (prtGet s p.val).held then s
    else takeDecision p.val s)

/-- HL_WAIT_EXPIRE (R292): the waiting change lands. -/
def execHlWaitExpire (p : PairId) (s : State) : Result :=
  .next (if (prtGet s p.val).waits && pairRuns s p.val && (prtGet s p.val).causes = 0 then
      setSel p.val (prtGet s p.val).govSig s
    else s)

/-- WTR_EXPIRE (R291): the time is over within the tick under way. -/
def execWtrExpire (p : PairId) (s : State) : Result :=
  let k := prtGet s p.val
  .next (if k.wtr && k.gov = 4 && decide (k.wtrUs ≤ 125) && !k.wtrExp then prtPut p.val { k with wtrExp := true, wtrUs := 0 } s
    else s)

/-- FOP_NR_DECLARE (R288). -/
def execFopNrDeclare (p : PairId) (s : State) : Result :=
  let k := prtGet s p.val
  .next (if pairRuns s p.val && archOf s p.val != 0 && k.farSig != k.govSig && k.gov ≠ 3 && k.far ≠ 3 && !k.fopNr then
      protEvt p.val 3 (prtPut p.val { k with fopNr := true } s)
    else s)

/-- The WTR timer that a starter restored goes on with its remaining time, in a timer of the serving cluster (R297). -/
def resumeWtr (p : Nat) (s : State) : State :=
  let k := prtGet s p
  if k.gov = 4 && !k.wtr && decide (k.wtrUs > 0) then
    if freeTimers s (prtCluster s p) > 0 then prtPut p { k with wtr := true } s
    else countNoTimer p (prtPut p { k with wtrUs := 0 } s)
  else s

/-- PROT_HOLD_END (R297): the hold ends, by its limit of 20 ms where the streams or the cell did not come, and hold-off
starts afresh. -/
def execProtHoldEnd (p : PairId) (limit : Bool) (s : State) : Result :=
  .next (if (prtGet s p.val).held then
      let s := prtPut p.val { prtGet s p.val with held := false, hoW := false, hoP := false, doneW := false, doneP := false } s
      let s := resumeWtr p.val (if limit then cenInc 14 s else s)
      [false, true].foldl (fun s q =>
        if pairRuns s p.val && decide (prtHoldoff s p.val ≠ 0) && pathBad s p.val q then startHoldoff p.val q s else s) s
    else s)

/-! ### Requests (R285, Table 8-8) -/

/-- Minutes of WTR. -/
def wtrMinutes (s : State) (p : Nat) : Nat := match fld (prtCfg s p) 24 21 with | 0 => 5 | n => n

/-- GOV at which Table 8-8 refuses an operation. -/
def protRejects (op gov arch : Nat) : Bool :=
  let command := gov == 0xA || gov == 8 || gov == 5 || gov == 3
  match op with
  | 2 => gov == 0xA || gov == 9
  | 3 => decide (gov > 5)
  | 4 => decide (gov > 5)
  | 5 => decide (gov > 3) || arch == 0
  | 8 => command
  | 9 => command
  | 10 => command
  | _ => false

/-- What an applied operation does to GOV. -/
def protEffect (op p : Nat) (s : State) : State :=
  let k := prtGet s p
  match op with
  | 0 => if k.gov = 0xA || k.gov = 8 || k.gov = 5 || k.gov = 3 then setGov p 0 false false s else s
  | 1 => setGov p 0xA false false s
  | 2 => setGov p 8 true false s
  | 3 => setGov p 5 true false s
  | 4 => setGov p 5 false false s
  | 5 => setGov p 3 k.govSig false s
  | 8 =>
    let s := setGov p 4 true false s
    prtPut p { prtGet s p with wtr := true, wtrExp := false, wtrUs := wtrMinutes s p * 60000000 + 123 } s
  | 9 => setGov p 1 true false s
  | _ => setGov p 0 false false s

/-- A staged PROT.REQ applied: status 0 and the state, or the status that refuses it. -/
def protApply (op p : Nat) (s : State) : State × Nat :=
  let k := prtGet s p
  if !prtOn s p || isDriven s p || k.causes ≠ 0 then (s, St.protOff)
  else if prtFollows s p then (s, 0)
  else if protRejects op k.gov (archOf s p) then
    (prtPut p { k with rejects := Nat.min (k.rejects + 1) 0x3FFFF } s, St.protReject)
  else if op = 8 && !k.wtr && freeTimers s (prtCluster s p) = 0 then (countNoTimer p s, St.timerBusy)
  else (signal p (protEffect op p s), 0)

/-- A PROT.REQ lands in a commit window. -/
def protLand (o : Origin) (op p : Nat) (s : State) : State :=
  match protApply op p s with
  | (t, 0) => t
  | (t, st) => refuse o st .pair p t

/-- The pair lies in the scope of an engine (Table 1-6): its home die, or none. -/
def pairScope (s : State) (e p : Nat) : Bool :=
  e == 64 || match homeDie s p with | some d => d == dieOf e | none => true

/-- PROT.REQ: it is staged, or lands. -/
def protReq (op : Nat) (w : ReqStep) (s : State) : Result :=
  match w with
  | .issue i gA => .next (issue (issueOfA i) { reads := [gA.val], staged := 1 } (fun s =>
      let e := i.eng.val
      let p := fld (operand s e gA.val) 10 0
      if granted s e true clsPair && (inBatch s e || pairScope s e p) then stage e (.protReq op p) s
      else outsideGrant e (pairAddr p 0) s) s)
  | .land o pair => .next (protLand o op pair.val s)

/-- PROT.REQ CLEAR. -/
def execProtReqClear (w : ReqStep) (s : State) : Result := protReq 0 w s
/-- PROT.REQ LO. -/
def execProtReqLo (w : ReqStep) (s : State) : Result := protReq 1 w s
/-- PROT.REQ FS. -/
def execProtReqFs (w : ReqStep) (s : State) : Result := protReq 2 w s
/-- PROT.REQ MS_P. -/
def execProtReqMsP (w : ReqStep) (s : State) : Result := protReq 3 w s
/-- PROT.REQ MS_W. -/
def execProtReqMsW (w : ReqStep) (s : State) : Result := protReq 4 w s
/-- PROT.REQ EXER. -/
def execProtReqExer (w : ReqStep) (s : State) : Result := protReq 5 w s
/-- PROT.REQ WTR. -/
def execProtReqWtr (w : ReqStep) (s : State) : Result := protReq 8 w s
/-- PROT.REQ DNR. -/
def execProtReqDnr (w : ReqStep) (s : State) : Result := protReq 9 w s
/-- PROT.REQ NR. -/
def execProtReqNr (w : ReqStep) (s : State) : Result := protReq 10 w s

/-! ### Status (Tables 8-4, 8-5, 8-10) -/

/-- PRT_STAT as it stands. -/
def prtStat (s : State) (p : Nat) : Word :=
  let k := prtGet s p
  mkWord [(35, b2n (pairSel s p)), (31, k.gov), (30, b2n k.govSig), (29, b2n k.govFar), (25, k.far), (24, b2n k.farSig),
    (23, b2n (pathSf s p false)), (22, b2n (pathSd s p false)), (21, b2n (pathSf s p true)), (20, b2n (pathSd s p true)),
    (19, b2n k.hoW), (18, b2n k.hoP), (17, b2n (k.wtr && !k.wtrExp)), (16, b2n k.wtrExp), (15, b2n k.fopPm),
    (14, b2n k.fopNr), (13, b2n k.bridged), (12, b2n k.waits), (11, b2n k.held), (10, b2n (decide (k.causes ≠ 0)))]

/-- PRT_WTR as it stands: steps of 100 µs, rounded up. -/
def prtWtr (k : Pair) : Word := mkWord [(13, if k.wtr && !k.wtrExp then ceilDiv k.wtrUs 100 else 0)]

/-- Pairs that have anything to show. -/
def shownPairs (s : State) : List Nat :=
  livePairs s ++ s.pairs.map (·.1) ++ s.sels.map fun e => e.1 % 2048

/-- PROT_POOL as it stands. -/
def poolWord (s : State) (c : Nat) : Word := mkWord [(27, freeTimers s c), (20, resizeTimers s c)]

/-- PROT.ST. -/
def execProtSt (i : IssA) (gD gA : Reg) (s : State) : Result :=
  .next (issue (issueOfA i) { reads := [gA.val], writes := [gD.val], lat := 4 } (fun s =>
    let e := i.eng.val
    let p := fld (operand s e gA.val) 10 0
    if granted s e false clsPair && (inBatch s e || pairScope s e p) then setReg e gD.val (latched s (pairAddr p 3)) s
    else setReg e gD.val 0 (outsideGrant e (pairAddr p 3) s)) s)

/-! ### Set-up (R276, R277) -/

/-- LAYER suits SCHEME (R276). -/
def layerSuits (scheme layer : Nat) : Bool :=
  match scheme with
  | 0 => 3 ≤ layer && layer ≤ 9
  | 1 => layer == 0xB
  | 2 => layer == 0xC
  | _ => layer != 0

/-- The field code that a scheme's cell watches. -/
def schemeField (scheme : Nat) : Nat := if scheme = 0 then 0x07 else if scheme = 1 then 0x15 else 0x20

/-- The resulting set-up of a pair is as R276 asks; judged where EN is 1. -/
def prtShapeOk (s : State) (p : Nat) : Bool :=
  let sch := prtScheme s p
  let suits := fun c => (ctxPlace s c).isSome && layerSuits sch (monLayer (monGet s c))
  let link := prtLink s p
  let cell := cellCfg s (prtCell s p)
  !prtOn s p ||
    (suits (wCtx s p) && suits (pCtx s p) && (bit link 35 == (sch != 3)) &&
     (sch == 3 || (bit cell 35 && cellCtx cell == pCtx s p && fld cell 14 9 == schemeField sch &&
       terminates (monGet s (pCtx s p)))) &&
     !(bit link 23 && fld link 22 12 == p) && !(bit link 11 && fld link 10 0 == p) &&
     !(bit link 11 && prtFollows s (fld link 10 0)) &&
     !(bit link 11 && (livePairs s).any fun q => prtFollows s q && fld (prtLink s q) 10 0 == p))

/-- Bits that each set-up word stores. -/
def prtMask (w : Nat) : Word := BitVec.ofNat 36 ((pairStore w).getD 0)

/-- What refuses a write to a set-up word for itself: a pair counts as enabled where it was so before the window and no
write of the window has cleared EN (R43, R277). -/
def prtWriteStatus (before s : State) (p w : Nat) (v : Word) : Nat :=
  let v := v &&& prtMask w
  if w = 0 && (decide (fld v 31 25 > 100) || decide (fld v 24 21 > 12)) then St.thrRange
  else if prtOn before p && prtOn s p && bit (if w = 0 then v else prtCfg s p) 35 &&
      (if w = 0 then decide (fld v 34 33 ≠ prtScheme s p) else decide (v ≠ cwGet s (pairAddr p w))) then St.portEnabled
  else 0

/-- What refuses a write to a set-up word. -/
def prtStatus (before plan s : State) (p w : Nat) (v : Word) : Nat :=
  match prtWriteStatus before s p w v with
  | 0 => if prtShapeOk (cwSet (pairAddr p w) (v &&& prtMask w) plan) p then 0 else St.protShape
  | st => st

/-- Hold-offs that do not run keep their standing conditions raised when HOLDOFF changes (R277). -/
def keepRaised (p : Nat) (s : State) : State :=
  let k := prtGet s p
  if prtOn s p && prtHoldoff s p = 0 then
    prtPut p { k with doneW := !k.hoW && pathBad s p false, doneP := !k.hoP && pathBad s p true } s
  else s

/-- A pair that is enabled takes the far-end value that its cell has accepted already (R283, R287). -/
def farTaken (p : Nat) (s : State) : State :=
  let cell := cellGet s (prtCell s p)
  if bit (prtLink s p) 35 && cell.valid then farAccept p cell.acc s else s

/-- Apply a write to PRT_CFG, PRT_CTX or PRT_LINK. -/
def applyPrt (before plan : State) (p w : Nat) (v : Word) (s : State) : Applied :=
  match prtStatus before plan s p w v with
  | 0 =>
    let t := if w = 0 then keepRaised p s else s
    let t := cwSet (pairAddr p w) (v &&& prtMask w) t
    .ok (if w ≠ 0 then t
      else if prtOn s p && !bit v 35 then prtStop p (prtPut p { prtGet t p with causes := 0 } t)
      else if !prtOn s p && bit v 35 then farTaken p t
      else t)
  | st => .error st

/-- The set-up words of a pair written in one window, judged together. -/
def applyPrtWrites (p : Nat) (ws : List PrtWrite) (s : State) : State :=
  let plan := ws.foldl (fun s w => cwSet (pairAddr p w.word.val) (w.value &&& prtMask w.word.val) s) s
  ws.foldl (fun t w => settle w.origin .word (pairAddr p w.word.val) t (applyPrt s plan p w.word.val w.value t)) s

/-- PRT_CFG (R276, R277). -/
def execPrtCfg (p : PairId) (ws : List PrtWrite) (s : State) : Result := .next (applyPrtWrites p.val ws s)

/-- PRT_CNT_CLR (Table 8-6). -/
def execPrtCntClr (p : PairId) (s : State) : Result :=
  .next (prtPut p.val { prtGet s p.val with switches := 0, rejects := 0, farSw := 0, noTimer := 0 } s)

/-! ### The commit window (R278, R298) -/

/-- The checks of R278 that fail for a pair. -/
def prtCauses (s : State) (p : Nat) : Nat :=
  let e := selEntry s p
  let arch := fld e 32 31
  let sch := prtScheme s p
  let link := prtLink s p
  let inDie := fun q => match homeDie s p with | some d => bit (deckEntry s false (deckSel d q)) 35 | none => false
  if !prtOn s p || isDriven s p then 0
  else maskOf ((List.range 7).filter fun i => match i with
    | 0 => !bit e 35
    | 1 => (arch == 1 || arch == 2) && sch == 3
    | 2 => arch == 2 && !(bit link 23 && inDie (fld link 22 12) && fld (selEntry s (fld link 22 12)) 32 31 == 2)
    | 3 => bit e 34 && arch == 2
    | 4 => sch == 2 && arch == 2
    | 5 => prtFollows s p && !(prtOn s (fld link 10 0) && inDie (fld link 10 0))
    | _ => sch != 3 && !terminates (monGet s (pCtx s p)))

/-- Check one enabled pair in the commit window. -/
def prtCheck (p : Nat) (s : State) : State :=
  let k := prtGet s p
  let c := prtCauses s p
  if k.causes = c then s
  else
    let s := prtPut p { k with causes := c } s
    if c ≠ 0 then protEvt p 5 s else s

def prtChecks (s : State) : State := (livePairs s).foldl (fun s p => prtCheck p s) s

/-- The PROT_SW record of a pair whose SEL changed in the tick is due (R298). -/
def protSw (p : Nat) (s : State) : State :=
  let k := prtGet s p
  if k.changes = 0 then s
  else
    let s := prtPut p { k with changes := 0, kind := 0 } s
    if bit (prtCfg s p) 13 then
      dueRecord (prtQueue s p) 0x16
        [mkWord [(25, p), (24, b2n (pairSel s p)), (20, k.gov), (19, b2n k.govFar), (16, k.kind), (12, Nat.min k.changes 15)],
         s.tick] s
    else s

def protSws (s : State) : State := (s.pairs.map (·.1)).foldl (fun s p => protSw p s) s

/-! ### OH.PUT in the commit window (R129, R130, R132, R287) -/

/-- The signalling word of an enabled pair, which the device itself writes. -/
def signalHeld (s : State) (id field word : Nat) : Bool :=
  (livePairs s).any fun p => prtScheme s p != 3 && pCtx s p == id && field == schemeField (prtScheme s p) && word == 1

/-- The F1 octet of a context is routed to an orderwire port (R509). -/
def f1Routed (s : State) (id field word : Nat) : Bool :=
  field == 0x12 && word == 1 && (List.range 8).any fun c =>
    let w := cwGet s (ctlAddr clsAud (c / 2) (0x10 + c % 2))
    bit w 35 && fld w 34 33 == 2 && fld w 32 19 == id

/-- A staged OH.PUT applied. -/
def applyOhPut (o : Origin) (id field word : Nat) (v : Word) (s : State) : State :=
  let layer := monLayer (monGet s id)
  if field = 0x3F && word = 0 then
    let v := v &&& 0xFFF000000
    if forceMode s.mode || v = 0 then ohSet id field word v s else ohErr (ohErrUnit o id s) s
  else if !ohProgram layer field word || signalHeld s id field word || f1Routed s id field word then ohMisdirect o id s
  else settle o .word 0 s (.ok (ohSet id field word v s))

end Sys2Proof.Machine
end

