-- ==== Sys2Proof/Machine/Resize.lean ====
section
/-! DEFINITION. Landing of swaps and hitless resizing (spec 06 R218, R219, R228 to R232; 07 R269). -/

namespace Sys2Proof.Machine

/-! ### Landing of a swap -/

/-- Pairs that the new page of a carrier names. -/
def carrierPairs (s : State) (d c : Nat) : List Nat :=
  sortRise (((deckEntries s d false).filter fun e =>
    !isSelAddr e.1 && bit e.2 35 && bit e.2 34 && carrierOf s e.1 == some c).map fun e => entryPair e.1 e.2)

/-- A swap that sets or clears HITLESS moves the output to the reader or to the direct source (R269). -/
def hitlessMove (d p : Nat) (s : State) : State :=
  let new := deckEntry s false (deckSel d p)
  let old := deckEntry s true (deckSel d p)
  let is := fun (w : Word) => bit w 35 && bit w 34
  if is new && bit old 35 && !bit old 34 then
    let late := if selOf s d p then (hlGet s p).lateP else (hlGet s p).lateW
    hlRefresh p (proofHit d p 2 1 (shiftReader p ((guardUs s d * 1000 : Int) - late) s))
  else if is old && bit new 35 && !bit new 34 then
    let late := if selOf s d p then (hlGet s p).lateP else (hlGet s p).lateW
    proofHit d p 2 (framesIn s p late) s
  else s

/-- The outputs of a carrier change, with the moves of hitless pairs. -/
def changeOutputs (d c us : Nat) (s : State) : State :=
  let k := dieDeck s d
  if k.pending && k.eligible && (carriersOf s d).contains c && !k.changed.contains c then
    (carrierPairs s d c).foldl (fun s p => hitlessMove d p s) (changeOnce d c us s)
  else s

/-- DECK_OUTPUT_CHANGE (R218): a frame boundary of a carrier, so many µs after eligibility. -/
def execDeckOutputChange (d : DieId) (c : CarrierRef) (us : Nat) (s : State) : Result :=
  .next (changeOutputs d.val (carrierNum c) us s)

/-- DECK_SWAP_TIMEOUT (R219): every output that has not changed changes now. -/
def execDeckSwapTimeout (d : DieId) (s : State) : Result :=
  .next ((carriersOf s d.val).foldl (fun s c => changeOutputs d.val c 2000 s) s)

/-! ### Resize controllers (Tables 6-9, 6-10) -/

def rszRole (s : State) (k : Nat) : Nat := fld (rszCfg s k) 34 33
def rszPort (s : State) (k : Nat) : Nat × Nat := (fld (rszCfg s k) 31 26, fld (rszCfg s k) 25 18)
def rszAddr (k w : Nat) : Nat := ctlAddr clsDeck (k / 32) (0x100 + 4 * (k % 32) + w)

/-- A timer of the port's cluster is free within the resize share (Table 1-7). -/
def rszTimerFree (s : State) (k : Nat) : Bool :=
  let c := clusterOf (rszPort s k).1
  decide (resizeTimers s c < 64) && decide (freeTimers s c > 0)

/-- No resize is under way. -/
def rszIdle (s : State) (k : Nat) : Bool := (rszGet s k).step == 0 || (rszGet s k).step == 4 || (rszGet s k).step == 5

/-- Begin a resize: the timer is taken; a source or sink that shrinks ramps first. -/
def rszStart (k : Nat) (s : State) : State :=
  let r := rszGet s k
  rszPut k { r with step := if rszRole s k != 2 && bit (rszCfg s k) 32 then 3 else 1, rateOld := r.rateNow, timer := true,
                    wantSwap := false, noTimer := false } s

/-- Abandon a resize: NORM, no change, RSZ_ABORT (R231). -/
def rszAbort (k : Nat) (s : State) : State :=
  rszRecord 0x10 k (rszPut k { rszGet s k with step := 5, timer := false, wantSwap := false, noTimer := false } s)

/-- The applied runs of a hop's port are its effective allotment (R232). -/
def rszSettled (s : State) (k : Nat) : Bool :=
  match (rszGet s k).eff with
  | some l =>
    let q := portGet s (portKey (rszPort s k).1 (rszPort s k).2)
    sortRise (tsOfRuns (runsOf (runsHeld q.txRuns))) == sortRise l && sortRise (tsOfRuns (runsOf (runsHeld q.rxRuns))) == sortRise l
  | none => true

/-- Apply a write to RSZ_CFG. -/
def applyRszCfg (k : Nat) (v : Word) (s : State) : Applied :=
  let was := bit (rszCfg s k) 35
  if fld v 34 33 = 3 then .error St.cfgRange
  else if was && !bit v 35 then
    if rszSettled s k then .ok (rszPut k {} (cwSet (rszAddr k 0) (v &&& 0xFFFFC0000) s)) else .error St.rszRuns
  else
    let t := cwSet (rszAddr k 0) (v &&& 0xFFFFC0000) s
    let t := if bit v 35 && !was then
        rszPut k { rateNow := cwFld t (mapAddr (rszPort t k).1 (rszPort t k).2 3) 31 0 } t
      else t
    if bit v 35 && bit v 16 && (rszGet t k).step = 1 then .ok (rszAbort k t)
    else if bit v 35 && bit v 17 && !bit v 16 && rszIdle t k then
      if rszTimerFree t k then .ok (rszStart k t) else .error St.timerBusy
    else .ok t

/-- Apply a write to RSZ_RUN. -/
def applyRszRun (k : Nat) (v : Word) (s : State) : Applied := .ok (cwSet (rszAddr k 1) (v &&& 0xFFFFFFC00) s)

/-- A write to RSZ_CFG lands. -/
def rszWrite (d : DieId) (c : Fin 32) (w : CtlWrite) (v : Word) (s : State) : Result :=
  let k := d.val * 32 + c.val
  .next (settle w.origin .word (rszAddr k 0) s (applyRszCfg k v s))

/-- RSZ_GO (R229, R231): a write with GO set. -/
def execRszGo (d : DieId) (c : Fin 32) (w : CtlWrite) (s : State) : Result := rszWrite d c w (putFld w.value 17 17 1) s

/-- RSZ_ABORT_CMD (R231): a write with ABORT set. -/
def execRszAbortCmd (d : DieId) (c : Fin 32) (w : CtlWrite) (s : State) : Result := rszWrite d c w (putFld w.value 16 16 1) s

/-- RSZ_CFG_DISABLE (R232): a write with EN clear. -/
def execRszCfgDisable (d : DieId) (c : Fin 32) (w : CtlWrite) (s : State) : Result := rszWrite d c w (putFld w.value 35 35 0) s

/-- RSZ_HANDSHAKE_ACK (R230, Table 6-10): a hop goes on to its swap, an end to its ramp. -/
def execRszHandshakeAck (d : DieId) (c : Fin 32) (s : State) : Result :=
  let k := d.val * 32 + c.val
  let r := rszGet s k
  .next (if bit (rszCfg s k) 35 && r.step = 1 && !r.wantSwap then
      rszPut k (if rszRole s k = 2 then { r with wantSwap := true } else { r with step := 3 }) s
    else s)

/-- RSZ_HANDSHAKE_TIMEOUT (R231). -/
def execRszHandshakeTimeout (d : DieId) (c : Fin 32) (s : State) : Result :=
  let k := d.val * 32 + c.val
  .next (if bit (rszCfg s k) 35 && (rszGet s k).step = 1 && !(rszGet s k).wantSwap then rszAbort k s else s)

/-- RSZ_RAMP_END (R231). -/
def execRszRampEnd (d : DieId) (c : Fin 32) (s : State) : Result :=
  let k := d.val * 32 + c.val
  .next (if bit (rszCfg s k) 35 && (rszGet s k).step = 3 then rszDone k s else s)

/-- In a commit window a die whose deck is free arms the swap that its controllers wait for (R230). -/
def rszArmDie (d : Nat) (s : State) : State :=
  let ks := (List.range 32).filterMap fun i => if (rszGet s (d * 32 + i)).wantSwap then some (d * 32 + i) else none
  if ks.isEmpty || (dieDeck s d).pending || (swapFault s d).isSome then s
  else armSwap d true (ks.foldl (fun s k => rszPut k { rszGet s k with step := 2, wantSwap := false } s) s)

/-- A resuming controller without a timer retries in each commit window (R426). -/
def rszRetry (s : State) : State :=
  (s.rsz.map (·.1)).foldl (fun s k =>
    let r := rszGet s k
    if r.noTimer && rszTimerFree s k then rszPut k { r with timer := true, noTimer := false } s else s) s

end Sys2Proof.Machine
end

