-- ==== Sys2Proof/Machine/Received.lean ====
section
/-! DEFINITION. Received frames: captures, errored blocks, per-frame defect criteria, filter cells (spec 02 R70, R71; 03
R107; 04 R127 to R145; 05 R176, R178; 07 R239, R251; 08 R287, R288). -/

namespace Sys2Proof.Machine

/-! ### Captures (R127, R128, Tables 4-6 to 4-8) -/

/-- A word that a frame's octets fill: hardware-written, neither computed here nor an accepted trace. -/
def capturable (layer : Nat) (c : Capture) : Bool :=
  ohHardware layer c.field.val c.word.val &&
    !(c.field.val == 0x02 || c.field.val == 0x03 || c.field.val == 0x11 || c.field.val == 0x14 || c.field.val == 0x1B) &&
    !((c.field.val == 0x01 || c.field.val == 0x10 || c.field.val == 0x1A) && decide (16 ≤ c.word.val))

def storeCaptures (id layer : Nat) (cs : List Capture) (s : State) : State :=
  cs.foldl (fun s c => if capturable layer c then ohSet id c.field.val c.word.val c.value s else s) s

/-- Bits that differ in one BIP octet. -/
def bipBits (p : Fin 256 × Fin 256) : Nat := onesBelow (Nat.xor p.1.val p.2.val) 8
/-- Violations of a frame. -/
def bipTotal (bs : List (Fin 256 × Fin 256)) : Nat := bs.foldl (fun n p => n + bipBits p) 0

/-- The BIP words of a layer. -/
def storeBip (id layer : Nat) (f : RxFrame) (s : State) : State :=
  match f.bip with
  | [] => s
  | b :: _ =>
    let two := fun field s => ohSet id field 1 (octetWord [b.2.val]) (ohSet id field 0 (octetWord [b.1.val]) s)
    if 1 ≤ layer && layer ≤ 9 then two 0x02 s
    else if layer = 0xA then two 0x11 s
    else if layer = 0xB then ohSet id 0x14 0 (BitVec.ofNat 36 (bipTotal f.bip)) s
    else if layer = 0xC then two 0x1B s
    else s

def storeBei (id layer : Nat) (f : RxFrame) (s : State) : State :=
  match f.bei with
  | [] => s
  | b :: _ => if 1 ≤ layer && layer ≤ 9 then ohSet id 0x03 0 (octetWord [b.val]) s else s

/-! ### Blocks (R133 to R138) -/

/-- Octet i of a buffer word. -/
def bufOctet (s : State) (id field word i : Nat) : Nat := octetOf (ohWord s id field word) i

/-- The far-end value of a frame marks a far-end errored block (R137). -/
def farErrored (s : State) (id layer : Nat) (f : RxFrame) : Bool :=
  if 1 ≤ layer && layer ≤ 9 then
    !defOn (monGet s id) Df.biae && f.bei.any fun b => decide (1 ≤ b.val) && decide (b.val ≤ 8)
  else if layer = 0xB then bufOctet s id 0x18 0 0 != 0 || bufOctet s id 0x18 0 1 != 0
  else if layer = 0xC then
    let v := bufOctet s id 0x1D 0 0 / 16
    decide (1 ≤ v) && decide (v ≤ 8)
  else false

/-- The far-end value for the next outgoing frame (R136). -/
def farValue (s : State) (id layer : Nat) (f : RxFrame) : Nat :=
  if 1 ≤ layer && layer ≤ 9 then
    if defOn (monGet s id) Df.iae && layer != 3 then 0xB
    else match f.bip with | b :: _ => bipBits b | [] => 0
  else if layer = 0xB then (if f.bip.length = 48 then Nat.min (bipTotal f.bip) 255 else bipTotal f.bip)
  else if layer = 0xC then Nat.min (bipTotal f.bip) 8
  else 0

/-- Count the blocks of a frame, and note the far-end value to send. -/
def countBlocks (id layer : Nat) (f : RxFrame) (s : State) : State :=
  if f.bip.isEmpty then s
  else
    let m := monGet s id
    let far := farErrored s id layer f
    let val := farValue s id layer f
    monPut id { m with
      tb := m.tb + 1,
      ebNe := if bipTotal f.bip ≠ 0 then m.ebNe + 1 else m.ebNe,
      ebFe := if far then m.ebFe + 1 else m.ebFe,
      bei := val } s

/-! ### Per-frame criteria (Table 4-16) -/

/-- Longest run that any criterion asks for. -/
def runTop : Nat := 16

/-- Bring the runs of a defect up to date with one frame. -/
def runStep (d : Nat) (set clr : Bool) (m : Mon) : Mon :=
  { m with
    setRun := tabSet 0 m.setRun d (if set then Nat.min (tabGet 0 m.setRun d + 1) runTop else 0),
    clrRun := tabSet 0 m.clrRun d (if clr then Nat.min (tabGet 0 m.clrRun d + 1) runTop else 0) }

/-- The per-frame criteria of a layer: defect, whether the frame shows it, whether it shows the clearing condition. -/
def frameShows (s : State) (id layer : Nat) (f : RxFrame) : List (Nat × Bool × Bool) :=
  let is := fun d (b : Bool) => (d, b, !b)
  let stat := bufOctet s id 0x05 0 0 % 8
  let k2 := bufOctet s id 0x15 0 1 % 8
  let biae := is Df.biae (f.bei.any fun b => b.val == 0xB)
  let bdi := is Df.bdi (bufOctet s id 0x04 0 0 % 2 == 1)
  if layer = 1 || layer = 2 then [bdi, is Df.iae (stat % 2 == 1), biae]
  else if layer = 3 then [bdi, is Df.ais (stat == 7), is Df.oci (stat == 6), is Df.lck (stat == 5)]
  else if 4 ≤ layer && layer ≤ 9 then
    [bdi, is Df.ais (stat == 7), is Df.oci (stat == 6), is Df.lck (stat == 5), is Df.ltc (stat == 0), biae]
  else if layer = 0xB then [is Df.ais (k2 == 7), is Df.bdi (k2 == 6)]
  else if layer = 0xC then
    [(Df.ais, f.pointer == .ones, f.pointer == .same || f.pointer == .fresh),
     is Df.bdi (bufOctet s id 0x1D 0 0 / 8 % 2 == 1),
     (Df.lop, f.pointer == .invalid, f.pointer == .same)]
  else if layer = 0xE then [is Df.rpf f.rpf]
  else []

/-- Where the run of frames with NDF is kept beside the run of invalid pointers. -/
def ndfRun : Nat := 40

/-- The run that declares LOP is the longer of invalid pointers and of NDF. -/
def lopRuns (f : RxFrame) (before : Nat) (m : Mon) : Mon :=
  let inv := if f.pointer = .invalid then Nat.min (before + 1) runTop else 0
  let ndf := if f.pointer = .ndf then Nat.min (tabGet 0 m.setRun ndfRun + 1) runTop else 0
  { m with setRun := tabSet 0 (tabSet 0 m.setRun ndfRun ndf) Df.lop (Nat.max inv ndf) }

/-- The multiframe of OMFI (Table 4-16): five frames out of sequence lose it, two in sequence find it. -/
def omfiStep (before after : Word) (m : Mon) : Mon :=
  if !bit before 8 then m
  else
    let good := octetOf after 0 == (octetOf before 0 + 1) % 80
    let m := runStep Df.loomfi (!good) good m
    { m with omfiOom := if m.omfiOom then decide (tabGet 0 m.clrRun Df.loomfi < 2)
                        else decide (tabGet 0 m.setRun Df.loomfi ≥ 5) }

/-- Bring every run of a context up to date with a frame. -/
def frameRuns (id layer : Nat) (f : RxFrame) (s : State) : State :=
  let m0 := monGet s id
  let invalid := if tabGet 0 m0.setRun ndfRun = 0 then tabGet 0 m0.setRun Df.lop else 0
  let m := (frameShows s id layer f).foldl (fun m r => runStep r.1 r.2.1 r.2.2 m) m0
  monPut id (if layer = 0xC then lopRuns f invalid m else m) s

/-! ### Group members, rings, ports, FEC -/

/-- Values of a member's multiframe: 2^12 in SDH, 2^24 in OTN. -/
def mfiModulus (layer : Nat) : Nat := if layer = 0xC then 4096 else 16777216

/-- A frame of a group member (R251). -/
def memberFrame (id layer : Nat) (r : MemberRx) (s : State) : State :=
  let m := monGet s id
  if !bit m.w30 35 then s
  else
    let good := match m.mfi with | some v => (v + 1) % mfiModulus layer == r.mfi.val % mfiModulus layer | none => true
    monPut id { m with
      mfi := some (r.mfi.val % mfiModulus layer), sq := r.sq.val, delay := r.delay,
      mfGood := if good then Nat.min (m.mfGood + 1) runTop else 0,
      mfBad := if good then 0 else Nat.min (m.mfBad + 1) runTop } s

/-- A path shows a per-frame defect (R239, R261). -/
def frameDefect (s : State) (id : Nat) : Bool :=
  let m := monGet s id
  defOn m Df.ais || defOn m Df.oci || defOn m Df.lck ||
    (match rootStream serverDepth s id with
    | some p => (framerGet s (streamKey p.1 p.2)).oof
    | none => false)

def ringFrames (id : Nat) (f : RxFrame) (s : State) : State :=
  f.rings.foldl (fun s r =>
    ringFrame r.ring.val r.lines r.mf.val r.fp.toNat (frameDefect s id) (decide (bipTotal f.bip ≠ 0)) s) s

/-- What a frame brings to a port (R176, R178). -/
def portFrame (r : PortRx) (s : State) : State :=
  let k := portKey r.port.unit.val r.port.port.val
  let a := liveAdapt s r.port.unit.val r.port.port.val
  if a = 5 || a = 6 then countPort1 k 35 0 r.blkErr (countPort0 k 17 0 r.idleDel (countPort0 k 35 18 r.idleIns s))
  else if r.cmBad && (a = 3 || a = 4) then
    let s := countPort0 k 35 18 1 s
    portPut k { portGet s k with cmRange := true } s
  else s

/-- Codewords of an anchor lane: running totals and the counts of the tick (R70, R71). -/
def fecFrame (r : FecRx) (s : State) : State :=
  let d := sideNum r.lane.side
  let l := r.lane.lane.val
  let s := cwCount (fecAddr d l 0x10) r.cw (cwCount (fecAddr d l 0x11) r.corr
    (cwCount (fecAddr d l 0x12) r.uncorr (cwCount (fecAddr d l 0x13) r.sym s)))
  let k := laneKey d l
  let n := laneGet s k
  lanePut k { n with fecCw := n.fecCw + r.cw, fecCorr := n.fecCorr + r.corr, fecUncorr := n.fecUncorr + r.uncorr,
                     fecSym := n.fecSym + r.sym } s

/-- The multiframe process of the stream that a context names (R107). -/
def streamMf (id : Nat) (f : RxFrame) (s : State) : State :=
  match f.mf, streamOfCtx s id with
  | some v, some p => if (framerGet s (streamKey p.1 p.2)).oof then s else mfFrame p.1 p.2 v.val s
  | _, _ => s

/-- The stream under a context is in frame. -/
def ctxInFrame (s : State) (id : Nat) : Bool :=
  match rootStream serverDepth s id with
  | some p => !(framerGet s (streamKey p.1 p.2)).oof
  | none => false

/-- The monitored part of a frame: captures, runs, blocks. -/
def monitorFrame (id : Nat) (f : RxFrame) (s : State) : State :=
  let layer := monLayer (monGet s id)
  if layer = 0 || !ctxInFrame s id then s
  else
    let omfi := ohWord s id 0x0E 0
    let s := storeBei id layer f (storeBip id layer f (storeCaptures id layer f.captures s))
    let s := frameRuns id layer f s
    let s := if layer = 3 && f.captures.any (fun c => c.field.val == 0x0E) then
        monPut id (omfiStep omfi (ohWord s id 0x0E 0) (monGet s id)) s else s
    let s := if defOn (monGet s id) Df.ssf then s else countBlocks id layer f s
    match f.member with
    | some r => memberFrame id layer r s
    | none => s

/-- FRAME_RECEIVE (R133): one received frame of the layer that a context monitors. -/
def execFrameReceive (c : CtxId) (f : RxFrame) (s : State) : Result :=
  let s := f.fec.foldl (fun s r => fecFrame r s) s
  let s := monitorFrame c.val f (streamMf c.val f s)
  .next (f.ports.foldl (fun s r => portFrame r s) (ringFrames c.val f s))

/-! ### Filter cells (R142 to R145) -/

/-- Octets of the trace that a cell of KIND 01b compares. -/
def traceOctets (s : State) (id field : Nat) : Nat :=
  if field = 0x01 then 64
  else match fld (monGet s id).w8 25 24 with | 0 => 1 | 1 => 16 | _ => 64

/-- The words of an occurrence, as a cell compares them. -/
def occurrence (s : State) (k : Nat) : List Word :=
  let c := cellCfg s k
  let id := cellCtx c
  if fld c 34 33 = 1 then
    (List.range ((traceOctets s id (fld c 14 9) + 3) / 4)).map fun i => ohWord s id (fld c 14 9) i
  else [ohWord s id (fld c 14 9) (fld c 8 3)]

/-- Two occurrences agree: under MASK, or in every octet of the trace. -/
def sameOccurrence (s : State) (k : Nat) (a b : List Word) : Bool :=
  let c := cellCfg s k
  if fld c 34 33 = 1 then
    (List.range (traceOctets s (cellCtx c) (fld c 14 9))).all fun i =>
      octetOf (a.getD (i / 4) 0) (i % 4) == octetOf (b.getD (i / 4) 0) (i % 4)
  else
    let mask := cwGet s (cellAddr (k / 2048) (k % 2048) 1)
    a.map (· &&& mask) == b.map (· &&& mask)

/-- The accepted words of a cell. -/
def acceptedWords (s : State) (k : Nat) (n : Nat) : List Word :=
  let c := cellCfg s k
  if fld c 34 33 = 1 then (List.range n).map fun i => ohWord s (cellCtx c) (fld c 14 9) (16 + i) else [(cellGet s k).acc]

/-- A cell accepts the words of an occurrence. -/
def acceptWords (k : Nat) (ws : List Word) (s : State) : State :=
  let c := cellCfg s k
  let q := cellGet s k
  let trace := decide (fld c 34 33 = 1)
  let s := cellPut k { q with
    acc := if trace then 0 else ws.headD 0, valid := true, changes := Nat.min (q.changes + 1) 0xFFFF, got := q.got + 1,
    unstable := false } s
  let s := if trace then
      (List.range ws.length).foldl (fun s i => ohSet (cellCtx c) (fld c 14 9) (16 + i) (ws.getD i 0) s) s
    else s
  farAccepted k s

/-- The watched context holds its cells (R144). -/
def cellHeld (s : State) (id : Nat) : Bool :=
  decide (Nat.land (monGet s id).defs holdMask ≠ 0) || !ctxInFrame s id

/-- FILTER_OCCURRENCE (R142, R143, R144). -/
def execFilterOccurrence (c : ClusterId) (n : Fin 2048) (s : State) : Result :=
  let k := cellKey c.val n.val
  let w := cellCfg s k
  let q := cellGet s k
  .next (if !bit w 35 then s
    else if cellHeld s (cellCtx w) then cellPut k { q with run := 0 } s
    else
      let ws := occurrence s k
      let same := match q.prev with | some p => sameOccurrence s k p ws | none => false
      let run := if same then Nat.min (q.run + 1) (cellN w) else 1
      let full := decide (run ≥ cellN w)
      let s := cellPut k { q with
        run := run, prev := some ws, below := if full then 0 else q.below + 1,
        unstable := if full then false else q.unstable } s
      let s := if full && (!q.valid || !sameOccurrence s k ws (acceptedWords s k ws.length)) then acceptWords k ws s else s
      settleDefs s)

/-- FILTER_UNSTABLE (R143): twelve consecutive occurrences ended below N. -/
def execFilterUnstable (c : ClusterId) (n : Fin 2048) (s : State) : Result :=
  let k := cellKey c.val n.val
  let q := cellGet s k
  .next (if bit (cellCfg s k) 35 && decide (q.below ≥ 12) then settleDefs (cellPut k { q with unstable := true } s) else s)

end Sys2Proof.Machine
end

