-- ==== Sys2Proof/Machine/Clocks.lean ====
section
/-! DEFINITION. SYNC monitors, the tick DPLL and recovered clocks (spec 15 R494 to R507). -/

namespace Sys2Proof.Machine

/-! ### SYNC inputs (R494 to R498) -/

def syncGet (s : State) (n : Nat) : SyncIn := tabGet {} s.sync n
def syncPut (n : Nat) (c : SyncIn) (s : State) : State := s.putSync (tabSet {} s.sync n c)

def syncCtrlAddr : Nat := ctlAddr clsClk 0 0
def syncCntAddr : Nat := ctlAddr clsClk 0 2

/-- The mean of 64 accepted periods differs from 8 kHz by more than 100 ppm (R497); periods in ns. -/
def rateOut (ps : List Nat) : Bool :=
  let sum : Nat := ps.foldl (· + ·) 0
  decide (ps.length = 64) && decide (10000 * ((8000000 : Int) - sum).natAbs > sum)

/-! ### Selection (R499) -/

/-- The input or state that the DPLL chooses; `fresh` after a write that changes PREF or FORCE. -/
def dpllChoice (s : State) (fresh : Bool) : Nat :=
  let w := cwGet s syncCtrlAddr
  let p := fld w 35 35
  let ok := fun n => (syncGet s n).valid
  if bit w 33 then (if ok p then p else 2)
  else if s.dpll.inUse = 1 - p && ok (1 - p) && !bit w 34 && !fresh then 1 - p
  else if ok p then p
  else if ok (1 - p) then 1 - p
  else 2

/-- Move the DPLL where it chooses, with the records of R507; entry to holdover or free-run is CEN43. -/
def dpllSelect (fresh : Bool) (s : State) : State :=
  let d := s.dpll
  let n := dpllChoice s fresh
  if n = 2 then
    if d.inUse ≥ 2 then s
    else if d.locked ≥ 8000 then
      clkEvt 5 d.inUse (cenInc 43 (s.putDpll { d with inUse := 2, slewing := false, locked := 0, last := d.inUse }))
    else
      clkEvt 9 d.inUse (cenInc 43 (s.putDpll { d with inUse := 3, slewing := false, locked := 0, last := d.inUse }))
  else if d.inUse = n then s
  else clkEvt (if d.inUse = 2 then 6 else 4) n (s.putDpll { d with inUse := n, slewing := true, last := n })

/-- A phase error in 17 bits, saturating. -/
def phaseHeld (p : Int) : Int := max (-65536) (min 65535 p)

/-- SYNC_EDGE (R494, R495, R497, R500): a rising edge so many ns after the last accepted one; with the tick's phase against
it and the tick frequency as measured. -/
def execSyncEdge (input : RefName) (gap : Nat) (phase : Int) (freq : BitVec 20) (s : State) : Result :=
  let n := refNum input
  let c := syncGet s n
  let k := (gap + 62500) / 125000
  let off := ((gap : Int) - k * 125000).natAbs
  .next (if c.seen && !(decide (k ≥ 1) && decide (off ≤ 2500)) then
      cenInc 41 (cwCountFld syncCntAddr (if n = 0 then 35 else 17) (if n = 0 then 18 else 0) 1
        (syncPut n { c with clean := 0 } s))
    else
      let ps := if c.seen && k = 1 then (gap :: c.periods).take 64 else c.periods
      let out := rateOut ps
      let clean := if out then 0 else if c.seen && k = 1 then Nat.min (c.clean + 1) 8000 else 1
      let s := syncPut n { c with seen := true, lost := false, periods := ps, clean := clean, rateBad := c.rateBad || out,
                                  valid := c.valid && !out } s
      let s := if out && !c.rateBad then clkEvt 2 n s else s
      let s := dpllSelect false s
      if s.dpll.inUse = n then s.putDpll { s.dpll with phase := phaseHeld phase, freq := freq.toNat } else s)

/-- SYNC_LOSS (R496, R499): three expected positions have passed without an accepted edge. -/
def execSyncLoss (input : RefName) (gap : Nat) (s : State) : Result :=
  let n := refNum input
  let c := syncGet s n
  .next (if c.seen && !c.lost && decide (gap ≥ 377500) then
      dpllSelect false (clkEvt 1 n (cenInc 40 (syncPut n { c with lost := true, valid := false, clean := 0 } s)))
    else s)

/-- SYNC_REQUALIFY (R498): 8,000 consecutive accepted edges. -/
def execSyncRequalify (input : RefName) (s : State) : Result :=
  let n := refNum input
  let c := syncGet s n
  .next (if !c.valid && decide (c.clean ≥ 8000) then
      dpllSelect false (clkEvt 3 n (syncPut n { c with lost := false, rateBad := false, valid := true } s))
    else s)

/-- DPLL_SLEW_DONE (R501): the phase error lies within 20 ns. -/
def execDpllSlewDone (s : State) : Result :=
  .next (if s.dpll.slewing && decide (-20 ≤ s.dpll.phase) && decide (s.dpll.phase ≤ 20) then
      s.putDpll { s.dpll with slewing := false }
    else s)

/-- Apply a write to CLK_SYNC_CTRL: a change of PREF or FORCE selects, a change of PHASE_OFS slews (R499, R501). -/
def applySyncCtrl (v : Word) (s : State) : Applied :=
  if fld v 32 31 = 3 then .error St.cfgRange
  else
    let old := cwGet s syncCtrlAddr
    let s := cwSet syncCtrlAddr (v &&& 0xFFFFF0000) s
    let s := dpllSelect (fld old 35 35 ≠ fld v 35 35 || (bit old 33 && !bit v 33)) s
    .ok (if fld old 30 19 ≠ fld v 30 19 && s.dpll.inUse < 2 then s.putDpll { s.dpll with slewing := true } else s)

/-- CLK_SYNC_CTRL. -/
def execClkSyncCtrl (w : CtlWrite) (s : State) : Result :=
  .next (settle w.origin .word syncCtrlAddr s (applySyncCtrl w.value s))

/-- At T0 the ticks of lock count up. -/
def dpllTick (s : State) : State :=
  if s.dpll.inUse < 2 then s.putDpll { s.dpll with locked := Nat.min (s.dpll.locked + 1) 8000 } else s

/-! ### Recovered clocks (R504 to R506) -/

/-- A recovered-clock output holds no synthesiser. -/
def recRelease (n : Nat) (s : State) : State :=
  let r := recRegion s n
  let s := recPut n {} s
  match flexFind s r (· == .recClk n) with
  | some k => freeFlex r k s
  | none => s

/-- Apply a write to REC_CLKn_CFG (R505). -/
def applyRecClk (n : Nat) (v : Word) (s : State) : Applied :=
  let a := recCfgAddr n
  let old := cwGet s a
  let v := v &&& 0xFFF800000
  if bit old 35 && putFld v 35 35 1 != old then .error St.portEnabled
  else if fld v 26 24 > 4 then .error St.cfgRange
  else if bit v 35 && !bit old 35 then
    let t := cwSet a v s
    match flexFind t (recRegion t n) (· == .free) with
    | some k => .ok (flexPut (recRegion t n) k (.recClk n) (recPut n { on := true } t))
    | none => .error St.resConflict
  else if !bit v 35 && bit old 35 then .ok (cwSet a v (recRelease n s))
  else .ok (cwSet a v s)

/-- REC_CLK_CFG (R505). -/
def execRecClkCfg (n : Fin 2) (w : CtlWrite) (s : State) : Result :=
  .next (settle w.origin .word (recCfgAddr n.val) s (applyRecClk n.val w.value s))

/-- A cause of squelching stands (R506). -/
def recCause (s : State) (n : Nat) : Bool :=
  let w := cwGet s (recCfgAddr n)
  let side := fld w 33 33
  let lane := fld w 32 27
  bit w 35 && !bit w 34 &&
    (!(laneGet s (laneKey side lane)).cdrLock ||
      (bit w 23 && (streamsOfLane s side lane).any fun p => (framerGet s (streamKey p.1 p.2)).oof))

/-- REC_CLK_SQUELCH (R506). -/
def execRecClkSquelch (n : Fin 2) (s : State) : Result :=
  .next (if recCause s n.val then recPut n.val { recGet s n.val with squelched := true } s else s)

/-- REC_CLK_RESUME (R506). -/
def execRecClkResume (n : Fin 2) (s : State) : Result :=
  .next (if !recCause s n.val then recPut n.val { recGet s n.val with squelched := false } s else s)

end Sys2Proof.Machine
end

