-- ==== Sys2Proof/Machine/Audio.lean ====
section
/-! DEFINITION. Orderwire: ports, channels, slip buffers, G.711 (spec 15 R508 to R518). -/

namespace Sys2Proof.Machine

/-! ### G.711 -/

/-- Segment of a magnitude: shifts until it is below 64, at most 7. -/
def segment (m : Nat) : Nat := ((List.range 7).filter fun i => decide (m ≥ 2 ^ (i + 6))).length

/-- A μ-law octet as a 16-bit linear value. -/
def muExpand (o : Nat) : Int :=
  let u := 255 - o % 256
  let mag := (u % 16 * 2 + 33) * 2 ^ (u / 16 % 8) - 33
  if u / 128 = 1 then -(4 * mag : Int) else 4 * mag

/-- An A-law octet as a 16-bit linear value. -/
def aExpand (o : Nat) : Int :=
  let a := Nat.xor (o % 256) 0x55
  let e := a / 16 % 8
  let mag := if e = 0 then a % 16 * 2 + 1 else (a % 16 * 2 + 33) * 2 ^ (e - 1)
  if a / 128 = 1 then 8 * mag else -(8 * mag : Int)

/-- A 16-bit linear value as a μ-law octet. -/
def muCompress (x : Int) : Nat :=
  let m := Nat.min (x.natAbs / 4) 8158 + 33
  let e := segment m
  255 - ((if x < 0 then 128 else 0) + e * 16 + m / 2 ^ (e + 1) % 16)

/-- A 16-bit linear value as an A-law octet. -/
def aCompress (x : Int) : Nat :=
  let m := Nat.min ((if x < 0 then (-x - 1).toNat else x.toNat) / 8) 4095
  let e := if m < 32 then 0 else segment m + 1
  Nat.xor ((if x < 0 then 0 else 128) + e * 16 + (if e = 0 then m / 2 % 16 else m / 2 ^ e % 16)) 0x55

/-- A 16-bit sample as a signed number, and back. -/
def sampleInt (v : Fin 65536) : Int := if v.val < 32768 then v.val else (v.val : Int) - 65536
def sampleOf (x : Int) : Fin 65536 := ⟨((x + 65536) % 65536).toNat % 65536, Nat.mod_lt _ (by decide)⟩

/-! ### Channels -/

def audioGet (s : State) (p : Nat) : Audio := tabGet {} s.audio p
def audioPut (p : Nat) (a : Audio) (s : State) : State := s.putAudio (tabSet {} s.audio p a)
def audCfgAddr (p : Nat) : Nat := ctlAddr clsAud p 0
def owCfgAddr (c : Nat) : Nat := ctlAddr clsAud (c / 2) (0x10 + c % 2)
def owCfg (s : State) (c : Nat) : Word := cwGet s (owCfgAddr c)
def slipAddr (c w : Nat) : Nat := ctlAddr clsQueue 4 (4 * c + w)

def chanGet (s : State) (c : Nat) : Chan := if c % 2 = 0 then (audioGet s (c / 2)).left else (audioGet s (c / 2)).right
def chanPut (c : Nat) (k : Chan) (s : State) : State :=
  audioPut (c / 2) (if c % 2 = 0 then { audioGet s (c / 2) with left := k } else { audioGet s (c / 2) with right := k }) s

/-- A port is enabled. -/
def portAudOn (s : State) (p : Nat) : Bool := cwFld s (audCfgAddr p) 35 35 == 1
/-- A port runs: enabled, not frozen, PD51 at L0 (R511, R515). -/
def audRuns (s : State) (p : Nat) : Bool := portAudOn s p && !(audioGet s p).frozen && domRuns s 51

/-- An AUD_EVT record is due, once per event, channel and tick (R518). -/
def audEvt (p slot event : Nat) (s : State) : State :=
  let r : Due := { q := cwFld s (audCfgAddr p) 25 23, ty := 0x21, ws := [mkWord [(34, p), (33, slot), (29, event)], s.tick] }
  if r ∈ s.due then s else s.putDue (s.due ++ [r])

/-- LAW and EXPAND of a channel. -/
def owALaw (s : State) (c : Nat) : Bool := bit (owCfg s c) 18
def owExpand (s : State) (c : Nat) : Bool := bit (owCfg s c) 17

/-- The companded octet of silence (R510). -/
def silenceOctet (s : State) (c : Nat) : Nat := if owALaw s c then 0xD5 else 0xFF
/-- Silence in a slip buffer: 0, or the octet in bits [15:8]. -/
def silence (s : State) (c : Nat) : Fin 65536 := if owExpand s c then 0 else sampleOf (silenceOctet s c * 256)

/-- An octet of the line as a sample of the buffer. -/
def expandOctet (s : State) (c o : Nat) : Fin 65536 :=
  if owExpand s c then sampleOf (if owALaw s c then aExpand o else muExpand o) else sampleOf (o * 256)

/-- A sample of the buffer as an octet of the line. -/
def compressSample (s : State) (c : Nat) (v : Fin 65536) : Nat :=
  if owExpand s c then (if owALaw s c then aCompress (sampleInt v) else muCompress (sampleInt v)) else v.val / 256

/-- The linear value by which a sample is judged (R512). -/
def linearOf (s : State) (c : Nat) (v : Fin 65536) : Int :=
  if owExpand s c then sampleInt v
  else if owALaw s c then aExpand (v.val / 256) else muExpand (v.val / 256)

/-- Near zero, after the sample before it (R512). -/
def nearZero (x before : Int) : Bool := (decide (-64 ≤ x) && decide (x ≤ 64)) || (decide (x < 0) != decide (before < 0))

/-- Gain of a direction, in 0.5 dB steps: 0 leaves a sample as it is; the spec states no rounding for the others. -/
def gainOf (tx : Bool) (w : Word) : Nat := if tx then fld w 14 9 else fld w 8 3

/-- A sample after the gain of a direction. -/
def applyGain (g : Nat) (v : Fin 65536) (s : State) : Fin 65536 × State :=
  if g = 0 || v = 0 then (v, s) else (sampleOf (fld (freeNow s) 15 0), spendFree s)

/-- The owner or the resumption of the port mutes a direction. -/
def mutedDir (k : Chan) (tx : Bool) : Bool := if tx then bit k.txCfg 16 || k.txHeld else bit k.rxCfg 15 || k.rxHeld

/-- The receive direction of a channel carries silence because its line is gone (R510). -/
def lineGone (s : State) (w : Word) : Bool :=
  let id := fld w 32 19
  defOn (monGet s id) Df.tsf || !ctxInFrame s id

/-! ### Slip buffers (R513, R514) -/

/-- Restore a buffer to 16 samples: repeats of the last one delivered, or the oldest ones discarded. -/
def slipped (last : Fin 65536) (l : List (Fin 65536)) : List (Fin 65536) :=
  if l.length ≤ 8 then List.replicate (16 - l.length) last ++ l else l.drop (l.length - 16)

def bufOf (k : Chan) (tx : Bool) : List (Fin 65536) := if tx then k.tx else k.rx
def bufPut (tx : Bool) (l : List (Fin 65536)) (k : Chan) : Chan := if tx then { k with tx := l } else { k with rx := l }
def lastOf (k : Chan) (tx : Bool) : Fin 65536 := if tx then k.txLast else k.rxLast

/-- Make the slip of a direction of a channel, counted as one repeat or one delete. -/
def makeSlip (c : Nat) (tx : Bool) (s : State) : State :=
  let k := chanGet s c
  let l := bufOf k tx
  let s := chanPut c (bufPut tx (slipped (lastOf k tx) l) k) s
  let a := slipAddr c (if tx then 2 else 1)
  if l.length ≤ 8 then cwCountFld a 35 18 1 s else cwCountFld a 17 0 1 s

/-- A forced slip (R514). -/
def forceSlip (c : Nat) (tx : Bool) (s : State) : State :=
  audEvt (c / 2) (c % 2) 4 (cwCountFld (slipAddr c 3) 35 18 1 (makeSlip c tx s))

/-- Write a sample into a buffer; a full one is slipped first. -/
def slipWrite (c : Nat) (tx : Bool) (v : Fin 65536) (s : State) : State :=
  let s := if (bufOf (chanGet s c) tx).length ≥ 32 then forceSlip c tx s else s
  let k := chanGet s c
  chanPut c (bufPut tx (bufOf k tx ++ [v]) k) s

/-- Read a sample of a buffer; an empty one is slipped first. -/
def slipRead (c : Nat) (tx : Bool) (s : State) : Fin 65536 × State :=
  let s := if (bufOf (chanGet s c) tx).isEmpty then forceSlip c tx s else s
  let k := chanGet s c
  match bufOf k tx with
  | v :: l => (v, chanPut c (if tx then { k with tx := l, txLast := v } else { k with rx := l, rxLast := v }) s)
  | [] => (lastOf k tx, s)

/-! ### Samples (R509, R510) -/

/-- Insert an octet of a channel in its line: F1 through its buffer word, E1 and E2 as the orderwire source. -/
def insertOctet (w : Word) (o : Nat) (s : State) : State :=
  let id := fld w 32 19
  let s := if fld w 34 33 = 2 then
      ohSet id 0x12 1 (putFld (putFld (ohWord s id 0x12 1) 16 9 o) 17 17 1) s
    else s
  emit (.orderwire id (fld w 34 33) o) s

/-- One frame toward the line. -/
def lineTx (c : Nat) (s : State) : State :=
  if !bit (owCfg s c) 35 then s
  else
    let k := chanGet s c
    if !audRuns s (c / 2) then insertOctet k.txCfg (silenceOctet s c) s
    else
      let r := slipRead c true s
      let k := chanGet r.2 c
      let g := applyGain (gainOf true k.txCfg) r.1 r.2
      let v := if mutedDir k true then silence g.2 c else g.1
      let s := chanPut c { chanGet g.2 c with txOut := linearOf g.2 c v } g.2
      insertOctet k.txCfg (compressSample s c v) s

/-- One frame toward the card. -/
def cardTx (c : Nat) (s : State) : State :=
  if !(audRuns s (c / 2) && bit (owCfg s c) 35) then s
  else
    let r := slipRead c false s
    let k := chanGet r.2 c
    let g := applyGain (gainOf false k.rxCfg) r.1 r.2
    let v := if mutedDir k false || lineGone g.2 k.rxCfg then silence g.2 c else g.1
    let s := chanPut c { chanGet g.2 c with rxOut := linearOf g.2 c v } g.2
    emit (.audio (c / 2) (c % 2) v) s

/-- AUD_SAMPLE (R509, R510). -/
def execAudSample (c : Fin 8) (m : AudioMove) (s : State) : Result :=
  .next (match m with
    | .lineRx o => if audRuns s (c.val / 2) && bit (owCfg s c.val) 35 then slipWrite c.val false (expandOctet s c.val o.val) s else s
    | .lineTx => lineTx c.val s
    | .cardRx v => if audRuns s (c.val / 2) && bit (owCfg s c.val) 35 then slipWrite c.val true v s else s
    | .cardTx => cardTx c.val s
    | .portFrame hz =>
      if audRuns s (c.val / 2) then
        let a := audioGet s (c.val / 2)
        audioPut (c.val / 2) { a with good := Nat.min (a.good + 1) 8, fsHz := hz.val } s
      else s)

/-- AUD_SLIP (R513): the fill has reached a threshold. -/
def execAudSlip (c : Fin 8) (tx : Bool) (s : State) : Result :=
  let n := (bufOf (chanGet s c.val) tx).length
  .next (if audRuns s (c.val / 2) && (decide (n ≤ 8) || decide (n ≥ 24)) then makeSlip c.val tx s else s)

/-- AUD_FORCED_SLIP (R514): a buffer has emptied or filled. -/
def execAudForcedSlip (c : Fin 8) (tx : Bool) (s : State) : Result :=
  let n := (bufOf (chanGet s c.val) tx).length
  .next (if audRuns s (c.val / 2) && (decide (n = 0) || decide (n ≥ 32)) then forceSlip c.val tx s else s)

/-! ### Set-up (R508, R512) -/

/-- A channel takes its set-up whole, its buffers preset to 16 silence samples. -/
def startChan (c : Nat) (s : State) : State :=
  let w := owCfg s c
  chanPut c { rxCfg := w, txCfg := w, rx := List.replicate 16 (silence s c), tx := List.replicate 16 (silence s c),
              rxLast := silence s c, txLast := silence s c } s

/-- A flow-control group of 12 to 15 is assigned (Table 1-7). -/
def fcHighAssigned (s : State) : Bool :=
  s.cw.any fun e => ctlClass e.1 == clsQueue && decide (ctlNum e.1 ≤ 1) && ctlIdx e.1 % 4 == 2 && bit e.2 35 &&
    decide (fld e.2 34 31 ≥ 12)

/-- Apply a write to AUD_CFG. -/
def applyAudCfg (p : Nat) (v : Word) (s : State) : Applied :=
  let a := audCfgAddr p
  let old := cwGet s a
  let v := v &&& 0xFFF800000
  if fld v 30 26 > 16 then .error St.thrRange
  else if bit old 35 && bit v 35 && fld old 34 31 ≠ fld v 34 31 then .error St.portEnabled
  else if fld v 34 33 = 3 then .error St.cfgRange
  else if bit v 35 && p = 3 && fcHighAssigned s then .error St.resConflict
  else
    let t := cwSet a v s
    .ok (if bit v 35 && !bit old 35 then startChan (2 * p + 1) (startChan (2 * p) (audioPut p {} t))
      else if !bit v 35 && bit old 35 then audioPut p {} t
      else t)

/-- AUD_CFG. -/
def execAudCfg (p : Fin 4) (w : CtlWrite) (s : State) : Result :=
  .next (settle w.origin .word (audCfgAddr p.val) s (applyAudCfg p.val w.value s))

/-- The layer that carries a routed byte. -/
def owLayer (b : Nat) : Nat := if b = 1 then 0xB else 0xA

/-- What refuses a write to OW_CFG (R508); routing is judged where EN is 1. -/
def owStatus (s : State) (c : Nat) (v : Word) : Nat :=
  let m := monGet s (fld v 32 19)
  if !bit v 17 && (fld v 14 9 ≠ 0 || fld v 8 3 ≠ 0) then St.thrRange
  else if !bit v 35 then 0
  else if fld v 34 33 = 3 then St.cfgRange
  else if !(terminates m && monLayer m == owLayer (fld v 34 33)) then St.mapRef
  else if (List.range 8).any fun o => o != c && bit (owCfg s o) 35 && fld (owCfg s o) 34 19 == fld v 34 19 then St.slotOverlap
  else 0

/-- The bits whose change waits for a zero crossing, transmit and receive. -/
def waitBits (tx : Bool) (w : Word) : Nat × Nat × Nat := (fld w 34 19, if tx then fld w 16 16 else fld w 15 15, gainOf tx w)

/-- Apply a write to OW_CFG (R508, R512). -/
def applyOw (c : Nat) (v : Word) (s : State) : Applied :=
  let v := v &&& 0xFFFFFFFF8
  match owStatus s c v with
  | 0 =>
    let old := owCfg s c
    let t := cwSet (owCfgAddr c) v s
    let k := chanGet t c
    .ok (if !portAudOn t (c / 2) then t
      else if bit v 35 && !bit old 35 then startChan c t
      else if !bit v 35 then chanPut c {} t
      else chanPut c { k with txPend := decide (waitBits true v ≠ waitBits true k.txCfg),
                              rxPend := decide (waitBits false v ≠ waitBits false k.rxCfg) } t)
  | st => .error st

/-- OW_CFG. -/
def execOwCfg (c : Fin 8) (w : CtlWrite) (s : State) : Result :=
  .next (settle w.origin .word (owCfgAddr c.val) s (applyOw c.val w.value s))

/-- A pending change lands. -/
def landChange (c : Nat) (tx : Bool) (s : State) : State :=
  let k := chanGet s c
  chanPut c (if tx then { k with txCfg := owCfg s c, txPend := false } else { k with rxCfg := owCfg s c, rxPend := false }) s

def changeWaits (s : State) (c : Nat) (tx : Bool) : Bool := if tx then (chanGet s c).txPend else (chanGet s c).rxPend

/-- The next outgoing sample of a direction under a set-up; a sample with gain is judged by whoever reports it. -/
def nextOut (s : State) (c : Nat) (tx : Bool) (w : Word) : Option Int :=
  let k := chanGet s c
  let muted := (if tx then bit w 16 || k.txHeld else bit w 15 || k.rxHeld) || (!tx && lineGone s w)
  if muted then some 0
  else if gainOf tx w ≠ 0 then none
  else match bufOf k tx with
    | v :: _ => some (linearOf s c v)
    | [] => some (linearOf s c (lastOf k tx))

/-- The next sample is near zero both without and with the change (R512). -/
def crossing (s : State) (c : Nat) (tx : Bool) : Bool :=
  let k := chanGet s c
  let before := if tx then k.txOut else k.rxOut
  let ok := fun w => match nextOut s c tx w with | some x => nearZero x before | none => true
  ok (if tx then k.txCfg else k.rxCfg) && ok (owCfg s c)

/-- AUD_CHANGE_LAND (R512). -/
def execAudChangeLand (c : Fin 8) (tx : Bool) (s : State) : Result :=
  .next (if changeWaits s c.val tx && crossing s c.val tx then landChange c.val tx s else s)

/-- AUD_CHANGE_TIMEOUT (R512). -/
def execAudChangeTimeout (c : Fin 8) (tx : Bool) (s : State) : Result :=
  .next (if changeWaits s c.val tx then audEvt (c.val / 2) (c.val % 2) 5 (landChange c.val tx s) else s)

/-! ### Port clocks (R515, R516) -/

/-- AUD_PORT_FREEZE (R515). -/
def execAudPortFreeze (p : Fin 4) (s : State) : Result :=
  let a := audioGet s p.val
  .next (if portAudOn s p.val && !a.frozen then
      audEvt p.val 0 1 (cwCount (ctlAddr clsAud p.val 2) 1 (audioPut p.val { a with
        frozen := true, good := 0, left := { a.left with rx := [], tx := [] }, right := { a.right with rx := [], tx := [] } } s))
    else s)

/-- A channel as its port resumes: 16 samples of silence, both directions muted. -/
def resumeChan (s : State) (c : Nat) (k : Chan) : Chan :=
  let z := List.replicate 16 (silence s c)
  { k with rx := z, tx := z, rxLast := silence s c, txLast := silence s c, rxHeld := true, txHeld := true }

/-- AUD_PORT_RESUME (R516): the first consistent frame. -/
def execAudPortResume (p : Fin 4) (hz : Fin 16384) (s : State) : Result :=
  let a := audioGet s p.val
  .next (if portAudOn s p.val && a.frozen then
      audEvt p.val 0 2 (audioPut p.val { a with
        frozen := false, good := 1, fsHz := hz.val, left := resumeChan s (2 * p.val) a.left,
        right := resumeChan s (2 * p.val + 1) a.right } s)
    else s)

/-- AUD_MUTE_LIFT (R516): after eight consistent frames. -/
def execAudMuteLift (p : Fin 4) (s : State) : Result :=
  let a := audioGet s p.val
  .next (if audRuns s p.val && decide (a.good ≥ 8) && a.left.rxHeld then
      audEvt p.val 0 3 (audioPut p.val { a with left := { a.left with rxHeld := false, txHeld := false },
                                                right := { a.right with rxHeld := false, txHeld := false } } s)
    else s)

/-- AUD_CNT_CLEAR (R517). -/
def execAudCntClear (c : Fin 8) (s : State) : Result :=
  .next (cwSet (slipAddr c.val 1) 0 (cwSet (slipAddr c.val 2) 0 (cwSet (slipAddr c.val 3) 0 s)))

end Sys2Proof.Machine
end

