-- ==== Sys2Proof/Machine/Bundles.lean ====
section
/-! DEFINITION. Instruction words as the loader reads them: the encoding rules (spec 09 R299 to R309, R312, R333), bounded
control flow (R316 to R319, R324) and the walks of the bound (R320 to R322). -/

namespace Sys2Proof.Machine

/-- Control flow of an instruction (Table 9-8). -/
inductive Flow where
  | seq
  | br (off : Nat)
  | loop (n : Nat)
  | ctxLoop (mask : Nat)
  | endl
  | call (t : Nat)
  | ret
  | halt
  deriving DecidableEq, Repr

/-- Where a program runs. -/
inductive ProgKind where
  | unit
  | hubImage
  | batch
  deriving DecidableEq, Repr

/-- What the loader knows of one instruction: flow, PRED, registers read and written, predicates written, cost charged,
latency, whether slot B takes it, whether it is hub-only and which, staged effects and tier-1 bits (Tables 9-4 to 9-11);
whether it is barred from a GUEST-level batch (R448). -/
structure Ins where
  flow : Flow := .seq
  pred : Nat := 0
  reads : List Nat := []
  writes : List Nat := []
  preds : List Nat := []
  cost : Nat := 1
  lat : Nat := 1
  slotB : Bool := false
  hubOnly : Bool := false
  power : Bool := false
  staged : Nat := 0
  t1 : Nat := 0
  ownerOnly : Bool := false

/-! ### One instruction word (R307, R308, Tables 9-1 to 9-9) -/

/-- A staged effect, 64 tier-1 bits. -/
def stagedIns (reads : List Nat) : Ins := { reads := reads, staged := 1, t1 := 64, ownerOnly := true }

/-- ALU, CMP: function code FN[15:8] (Table 9-4). -/
def decodeAlu (d a b fn : Nat) : Option Ins :=
  let c := fn / 256
  if c = 8 then some { reads := [a], writes := [d], slotB := true }
  else if 5 ≤ c && c ≤ 7 && bitsOf fn 7 7 = 1 then some { reads := [a], writes := [d], slotB := true }
  else if c ≤ 0x0C then some { reads := [a, b], writes := [d], slotB := true }
  else none

/-- LANE (Table 9-4). -/
def decodeLane (d a b fn : Nat) : Option Ins :=
  match fn / 256 with
  | 0 => some { reads := [a], writes := [d] }
  | 1 => some { reads := [a, b], writes := [d] }
  | 2 => some { reads := [a], writes := [d] }
  | 3 => some { reads := [a, b], writes := [d] }
  | _ => none

/-- FILT and DECK (Table 9-6). -/
def decodeFilt (d a b fn : Nat) : Option Ins :=
  match fn / 256 with
  | 0 => if fn % 4 ≤ 1 then some (stagedIns [a, b]) else none
  | 1 => some { reads := [a], writes := [d], lat := 4 }
  | _ => none

def decodeDeck (d a b fn : Nat) : Option Ins :=
  match fn / 256 with
  | 0 => some (stagedIns [a, b])
  | 1 => some { reads := [a], writes := [d], lat := 24 }
  | 2 => if fn % 4 = 0 then none else some (stagedIns [])
  | _ => none

/-- Q, CHK and PC (Table 9-7); the proof charges 33 cycles for CHK (R314). -/
def decodeQ (a fn : Nat) : Option Ins :=
  match fn / 256 with
  | 0 => some { reads := [a], ownerOnly := true }
  | 1 => some { reads := [a] }
  | 2 => some { cost := 2 }
  | 3 => some {}
  | _ => none

def decodeChk (d a fn : Nat) : Option Ins :=
  match fn / 256 with
  | 0 => if fn % 16 ≤ 5 then some { reads := if bitsOf fn 4 4 = 1 then [a] else [], cost := 33 } else none
  | 1 => some { reads := [a], cost := 33 }
  | 2 => some { writes := [d], cost := 33, lat := 2 }
  | _ => none

def decodePc (d a fn : Nat) : Option Ins :=
  match fn / 256 with
  | 0 => some { reads := [a] }
  | 1 => if fn % 16 ≤ 9 then some { writes := [d] } else none
  | 2 => some {}
  | _ => none

/-- LOOP (Table 9-8): counted, or over contexts. -/
def decodeLoop (d operand : Nat) : Option Ins :=
  if bitsOf operand 19 19 = 1 then
    if bitsOf operand 18 16 = 0 then some { flow := .ctxLoop (operand % 65536), writes := [d], cost := 2 } else none
  else if bitsOf operand 18 12 = 0 && operand % 4096 ≠ 0 then some { flow := .loop (operand % 4096), cost := 2 }
  else none

/-- A hub-only instruction (Tables 9-9, 13-11; R574). -/
def decodeHubOnly (op d a b fn : Nat) : Option Ins :=
  let h : Ins := { hubOnly := true, ownerOnly := true }
  match op with
  | 0x30 => if fn < 5 then some { h with reads := [a, b], writes := [d] } else none
  | 0x31 => if fn = 0 then some { h with writes := [d] } else none
  | 0x32 => if fn = 0 then some { h with reads := [a, b], writes := [d], ownerOnly := false } else none
  | 0x33 => if fn = 0 then some { h with reads := [a, b], writes := [d] } else none
  | 0x34 => if fn < 4 then some { h with reads := [b], writes := [d] } else none
  | 0x35 => if fn < 12 then some { h with reads := [a, b], writes := [d] } else none
  | 0x36 => if fn < 8 then some { h with reads := [a], power := true, staged := 1, t1 := 64 } else none
  | 0x37 => if fn = 0 then some { h with reads := [a, b], writes := [d] } else none
  | 0x38 => if fn < 2 then some { h with writes := [d] } else none
  | _ => none

/-- Context access latency on the engines (Table 9-5). -/
def ctxLat (hub : Bool) : Nat := if hub then 64 else 2

/-- M-form instructions (R308, Table 9-5): on the hub engine operand[19:12] is 0. -/
def decodeM (hub : Bool) (op d a operand : Nat) : Option Ins :=
  let index := operand % 4096
  if hub && operand / 4096 ≠ 0 then none
  else match op with
    | 0x08 => if index < 128 then some { reads := [a], writes := [d], lat := ctxLat hub } else none
    | 0x09 =>
      if index < 128 && 8 ≤ index && !(32 ≤ index && index ≤ 38) then
        some { reads := [d, a], t1 := if index < 64 then 64 else 0, ownerOnly := true }
      else none
    | 0x0E => some { reads := [a], writes := [d], lat := ctxLat hub }
    | 0x0F => some (stagedIns [d, a])
    | 0x11 => if bitsOf index 10 6 = 0 then some (stagedIns [a]) else none
    | 0x12 => if index = 0 then some { reads := [a], cost := 6 } else none
    | 0x13 => if index < 8 then some { reads := [d, a], cost := 3, ownerOnly := true } else none
    | 0x14 => if bitsOf index 11 9 = 0 && index % 128 = 0 then some { reads := [a], cost := 24 } else none
    | _ => none

/-- PROT.REQ operations of Table 8-8. -/
def protOpNamed (n : Nat) : Bool := n ≤ 5 || (8 ≤ n && n ≤ 10)

/-- An instruction word, its predicate apart; none where it breaks the rules of one instruction (R309). -/
def decodeOp (hub : Bool) (w : Nat) : Option Ins :=
  let op := bitsOf w 33 28
  let d := bitsOf w 27 24
  let a := bitsOf w 23 20
  let b := bitsOf w 19 16
  let fn := w % 65536
  let operand := w % 2 ^ 20
  match op with
  | 0x00 => if w = 0 then some { slotB := true } else none
  | 0x01 => decodeAlu d a b fn
  | 0x02 => if fn / 256 ≤ 3 then some { reads := [a, b], preds := [d / 4, d % 4], slotB := true } else none
  | 0x03 => some { writes := [d], slotB := true }
  | 0x04 => if b = 0 then some { reads := [a], writes := [d], slotB := true } else none
  | 0x05 => some { reads := [a], writes := [d], slotB := true }
  | 0x06 => decodeLane d a b fn
  | 0x0A => if b = 0 then some { reads := [a], writes := [d], lat := ctxLat hub } else none
  | 0x0B => if fn < 2 then some { reads := [a], writes := [d], lat := ctxLat hub } else none
  | 0x0C => some { reads := [a], writes := [d], lat := 64 }
  | 0x0D => some (stagedIns [a, b])
  | 0x10 => decodeFilt d a b fn
  | 0x15 => if protOpNamed (fn % 16) then some (stagedIns [a]) else none
  | 0x16 => if fn = 0 then some { reads := [a], writes := [d], lat := 4 } else none
  | 0x17 => decodeDeck d a b fn
  | 0x18 => decodeQ a fn
  | 0x19 => decodeChk d a fn
  | 0x1A => decodePc d a fn
  | 0x20 => if operand / 8192 = 0 && operand ≠ 0 then some { flow := .br operand, slotB := true } else none
  | 0x21 => decodeLoop d operand
  | 0x22 => if operand = 0 && bitsOf w 35 34 = 0 then some { flow := .endl, slotB := true } else none
  | 0x23 => if operand / 8192 = 0 then some { flow := .call operand, cost := 2 } else none
  | 0x24 => if operand = 0 then some { flow := .ret, cost := 2 } else none
  | 0x25 => if operand = 0 then some { flow := .halt } else none
  | _ => if op ≥ 0x30 then decodeHubOnly op d a b fn else decodeM hub op d a operand

/-- An instruction word with its predicate. -/
def decodeIns (hub : Bool) (w : Nat) : Option Ins :=
  (decodeOp hub w).map fun i => { i with pred := bitsOf w 35 34 }

/-! ### Bundles -/

/-- A bundle as the loader reads it: flow and its predicate, cost, registers used, results with their latency, staged
effects, tier-1 bits; barred from a GUEST-level batch. -/
structure Bun where
  flow : Flow := .seq
  pred : Nat := 0
  cost : Nat := 1
  uses : List Nat := []
  results : List (Nat × Nat) := []
  staged : Nat := 0
  t1 : Nat := 0
  ownerOnly : Bool := false
  deriving DecidableEq, Repr

/-- Two lists name one number other than 0. -/
def clash (x y : List Nat) : Bool := x.any fun n => n ≠ 0 && y.contains n

/-- The host allows an instruction (Table 9-9, R309, R324). -/
def hubOnlyOk (h : ProgKind) (i : Ins) : Bool :=
  !i.hubOnly || match h with
    | .unit => false
    | .hubImage => i.power
    | .batch => true

/-- A bundle of 72 bits; none where it breaks the encoding rules (R299, R300, R303, R309). -/
def decodeBundle (h : ProgKind) (w : Nat) : Option Bun :=
  let hub := h != .unit
  match decodeIns hub (w / 2 ^ 36), decodeIns hub (w % 2 ^ 36) with
  | some a, some b =>
    if b.slotB && !clash a.writes b.writes && !clash a.preds b.preds && (a.flow == .seq || b.flow == .seq) &&
        hubOnlyOk h a then
      let f := if a.flow == .seq then b else a
      some { flow := f.flow, pred := f.pred, cost := Nat.max a.cost b.cost, uses := a.reads ++ b.reads ++ a.writes ++ b.writes,
             results := (a.writes.map fun g => (g, a.lat)) ++ b.writes.map fun g => (g, b.lat),
             staged := a.staged + b.staged, t1 := a.t1 + b.t1, ownerOnly := a.ownerOnly || b.ownerOnly }
    else none
  | _, _ => none

/-- A program as the loader reads it: its bundles, and the ENDL of each LOOP. -/
structure Prog where
  buns : List Bun
  loops : List (Nat × Nat)
  deriving DecidableEq, Repr

def Prog.bun (p : Prog) (b : Nat) : Bun := p.buns.getD b {}
def Prog.len (p : Prog) : Nat := p.buns.length
def Prog.endOf (p : Prog) (b : Nat) : Nat := tabGet b p.loops b

/-- LOOP bundles whose bodies hold a bundle, innermost first. -/
def Prog.around (p : Prog) (b : Nat) : List Nat :=
  ((p.loops.filter fun l => decide (l.1 < b) && decide (b ≤ l.2)).map (·.1)).reverse

/-- Match each LOOP with its ENDL in bundle order (R317); what fails at an ENDL outside a loop or a LOOP without ENDL. -/
def matchLoops : List Bun → Nat → List Nat → Tab Nat → Except Nat (Tab Nat)
  | [], _, [], done => .ok done
  | [], _, l :: _, _ => .error l
  | x :: xs, b, open_, done =>
    match x.flow with
    | .loop _ => matchLoops xs (b + 1) (b :: open_) done
    | .ctxLoop _ => matchLoops xs (b + 1) (b :: open_) done
    | .endl =>
      match open_ with
      | [] => .error b
      | l :: rest => matchLoops xs (b + 1) rest (tabPut b l done)
    | _ => matchLoops xs (b + 1) open_ done

/-! ### Paths (R316 to R319) -/

/-- The bundles that may follow a bundle on a path, and whether the edge is a taken BR. -/
def Prog.nexts (p : Prog) (b : Nat) : List (Nat × Bool) :=
  let x := p.bun b
  let fall := if x.pred = 0 then [] else [(b + 1, false)]
  match x.flow with
  | .br off => (b + off, true) :: fall
  | .halt => fall
  | .ret => fall
  | .loop _ => (b + 1, false) :: if x.pred = 0 then [] else [(p.endOf b + 1, false)]
  | .ctxLoop _ => [(b + 1, false), (p.endOf b + 1, false)]
  | .endl =>
    match p.around b with
    | [] => [(b + 1, false)]
    | l :: _ =>
      match (p.bun l).flow with
      | .loop 1 => [(b + 1, false)]
      | _ => [(l + 1, false), (b + 1, false)]
  | _ => [(b + 1, false)]

/-- Bundles reached from an entry, calls passed over; each is listed once. A path runs forward but for the back edges of
loops, whose targets follow a LOOP already reached. -/
def Prog.reach (p : Prog) : Nat → List Nat → List Nat → List Nat
  | 0, _, seen => seen
  | _ + 1, [], seen => seen
  | fuel + 1, b :: todo, seen =>
    if seen.contains b || b ≥ p.len then p.reach fuel todo seen
    else p.reach fuel ((p.nexts b).map (·.1) ++ todo) (b :: seen)

/-- The region of the main program or of a routine, by its entry. -/
def Prog.region (p : Prog) (entry : Nat) : List Nat := p.reach (3 * p.len + 3) [entry] []

/-- CALLs of a list of bundles: bundle and target. -/
def Prog.calls (p : Prog) (bs : List Nat) : List (Nat × Nat) :=
  bs.filterMap fun b => match (p.bun b).flow with | .call t => some (b, t) | _ => none

/-- Keep the larger figure of an entry. -/
def raise (k v : Nat) (t : Tab Nat) : Tab Nat := tabPut (Nat.max (tabGet 0 t k) v) k t

/-- Routines entered at one more call depth, each with the loops that stand around its calls (R317, R318). -/
def Prog.deeper (p : Prog) (level : Tab Nat) : Tab Nat :=
  level.foldl (fun t e => (p.calls (p.region e.1)).foldl (fun t c => raise c.2 (e.2 + (p.around c.1).length) t) t) []

/-- Call depth levels 0 to 5 of a program: entries, each with the most loops around it. -/
def Prog.levels (p : Prog) : List (Tab Nat) :=
  let step := p.deeper
  let l0 : Tab Nat := [(0, 0)]
  let l1 := step l0
  let l2 := step l1
  let l3 := step l2
  let l4 := step l3
  [l0, l1, l2, l3, l4]

/-- Entries of all regions. -/
def Prog.entries (p : Prog) : List Nat := (p.levels.foldl (fun t l => l.foldl (fun t e => tabPut 0 e.1 t) t) ([] : Tab Nat)).map (·.1)

/-- Every member of a list is in another. -/
def subset (x y : List Nat) : Bool := x.all y.contains

/-- Bundles of a region that break the rules of paths: RET outside a routine, a path past the last bundle, a BR into a
loop, a loop body entered without its LOOP, a CALL outside the image, a context loop inside a routine. -/
def Prog.regionFails (p : Prog) (entry : Nat) : List Nat :=
  let bs := p.region entry
  bs.filter fun b =>
    let x := p.bun b
    (x.flow == .ret && entry == 0) ||
    ((p.nexts b).any fun n => decide (n.1 ≥ p.len)) ||
    (match x.flow with
      | .br off => !subset (p.around (b + off)) (p.around b)
      | .call t => decide (t ≥ p.len)
      | .ctxLoop _ => entry != 0
      | _ => false) ||
    !subset (p.around b) bs

/-- Bundles that stand in two regions (R316, R318). -/
def Prog.shared (p : Prog) : List Nat :=
  let rs := p.entries.map fun e => (e, p.region e)
  rs.foldl (fun l r => l ++ r.2.filter fun b => rs.any fun q => q.1 != r.1 && q.2.contains b) []

/-- LOOPs that nest more than four deep, with the loops of calling routines (R317). -/
def Prog.deepLoops (p : Prog) : List Nat :=
  p.levels.foldl (fun l level => level.foldl (fun l e =>
    l ++ (p.region e.1).filter fun b =>
      match (p.bun b).flow with
      | .loop _ => decide (e.2 + (p.around b).length ≥ 4)
      | .ctxLoop _ => decide (e.2 + (p.around b).length ≥ 4)
      | _ => false) l) []

/-- CALLs below four nested calls; a recursion comes to one (R318). -/
def Prog.deepCalls (p : Prog) : List Nat :=
  ((p.levels.getD 4 []).foldl (fun l e => l ++ (p.calls (p.region e.1)).map (·.1)) [])

/-- Context loops, by bundle. -/
def Prog.ctxLoops (p : Prog) : List Nat :=
  (List.range p.len).filter fun b => match (p.bun b).flow with | .ctxLoop _ => true | _ => false

/-- Context loops that break R317, R324 or R333. -/
def Prog.badCtxLoops (p : Prog) (h : ProgKind) : List Nat :=
  if h != .unit then p.ctxLoops
  else (p.ctxLoops.filter fun b => !(p.around b).isEmpty) ++ p.ctxLoops.drop 8

/-- The first failing bundle of a program, or the program as read (R309, R316 to R319, R324, R333). -/
def readProg (h : ProgKind) (ws : List Nat) : Except Nat Prog :=
  let ds := ws.map (decodeBundle h)
  let bad := (List.range ds.length).filter fun b => (ds.getD b none).isNone
  let buns := ds.map fun d => d.getD {}
  match matchLoops buns 0 [] [] with
  | .error b => .error (bad.foldl Nat.min b)
  | .ok loops =>
    let p : Prog := { buns := buns, loops := loops }
    let fails := if bad.isEmpty then
        p.badCtxLoops h ++ p.entries.foldl (fun l e => l ++ p.regionFails e) [] ++ p.shared ++ p.deepLoops ++ p.deepCalls
      else bad
    match fails with
    | [] => .ok p
    | b :: t => .error (t.foldl Nat.min b)

/-! ### Stalls (R321) -/

/-- Keep the larger remainder of each outstanding result. -/
def joinOut (x y : Tab Nat) : Tab Nat := x.foldl (fun t e => raise e.1 e.2 t) y

/-- The stall charged to a bundle with results outstanding: CALL and RET wait for every one (R318). -/
def Bun.stall (x : Bun) (st : Tab Nat) : Nat :=
  st.foldl (fun m e =>
    let waits := match x.flow with | .call _ => true | .ret => true | _ => x.uses.contains e.1
    if waits then Nat.max m e.2 else m) 0

/-- Results outstanding after a bundle: those it did not wait for, less its cost, and its own. -/
def Bun.leaves (x : Bun) (st : Tab Nat) : Tab Nat :=
  match x.flow with
  | .call _ => []
  | .ret => []
  | _ =>
    let kept := st.filterMap fun e => if x.uses.contains e.1 || e.2 ≤ x.cost then none else some (e.1, e.2 - x.cost)
    x.results.foldl (fun t r => if r.1 ≠ 0 && r.2 > x.cost then tabPut (r.2 - x.cost) r.1 t else t) kept

/-- One cycle less of each result, for a taken BR. -/
def lessOne (st : Tab Nat) : Tab Nat := st.filterMap fun e => if e.2 ≤ 1 then none else some (e.1, e.2 - 1)

/-- One sweep over the reached bundles, in order, of what stands outstanding before each. -/
def Prog.sweep (p : Prog) (reached : List Nat) (st : Tab (Tab Nat)) : Tab (Tab Nat) :=
  reached.foldl (fun st b =>
    let out := (p.bun b).leaves (tabGet [] st b)
    (p.nexts b).foldl (fun st n =>
      tabPut (joinOut (if n.2 then lessOne out else out) (tabGet [] st n.1)) n.1 st) st) st

/-- What stands outstanding before each bundle. A result is outstanding for fewer than 64 bundles, so a path that carries
it crosses fewer than 64 back edges: as many sweeps find every path. -/
def Prog.outstanding (p : Prog) : Tab (Tab Nat) :=
  let reached := (List.range p.len).filter fun b => p.entries.any fun e => (p.region e).contains b
  (List.range 64).foldl (fun st _ => p.sweep reached st) []

/-! ### The walks (R320 to R322) -/

/-- The charge of each bundle in one of the three walks: cycles, staged effects, tier-1 bits. -/
def Prog.charges (p : Prog) : List Nat × List Nat × List Nat :=
  let st := p.outstanding
  ((List.range p.len).map (fun b => (p.bun b).cost + (p.bun b).stall (tabGet [] st b)), p.buns.map (·.staged),
    p.buns.map (·.t1))

/-- Targets of the BRs that leave a loop (R316). -/
def Prog.exits (p : Prog) (l : Nat) : List Nat :=
  (List.range p.len).filterMap fun b =>
    match (p.bun b).flow with
    | .br off => if (p.around b).contains l && p.endOf l < b + off then some (b + off) else none
    | _ => none

/-- The walk from the last bundle to bundle b: the figure of each bundle from b on, first b. `rt` holds the figures of the
routines; `redirect` is what a taken BR costs more. -/
def Prog.walkFrom (p : Prog) (charge : List Nat) (redirect : Nat) (rt : Nat → Nat) : Nat → List Nat
  | 0 => []
  | k + 1 =>
    let b := p.len - (k + 1)
    let w := p.walkFrom charge redirect rt k
    let x := p.bun b
    let c := charge.getD b 0
    let inside := p.around b
    let val := fun t =>
      match inside with
      | [] => w.getD (t - (b + 1)) 0
      | l :: _ => if t > p.endOf l then 0 else w.getD (t - (b + 1)) 0
    let after := fun t => ((p.exits b).map val).foldl Nat.max (val t)
    let v := match x.flow with
      | .endl => c
      | .halt => if x.pred = 0 then c else c + val (b + 1)
      | .ret => if x.pred = 0 then c else c + val (b + 1)
      | .loop n => c + n * w.getD 0 0 + after (p.endOf b + 1)
      | .ctxLoop _ => c + after (p.endOf b + 1)
      | .call t => c + rt t + val (b + 1)
      | .br off =>
        let taken := c + redirect + val (b + off)
        if x.pred = 0 then taken else Nat.max taken (c + val (b + 1))
      | .seq => c + val (b + 1)
    v :: w

/-- A walk: the routines' figures settle within five rounds, since calls nest four deep. -/
def Prog.walk (p : Prog) (charge : List Nat) (redirect : Nat) : List Nat :=
  (List.range 5).foldl (fun w _ => p.walkFrom charge redirect (fun t => w.getD t 0) p.len) []

/-- Figures of a program (R322). -/
structure Figures where
  f : Nat
  fs : Nat
  ft : Nat
  loops : List LoopFig
  deriving DecidableEq, Repr

def Prog.figures (p : Prog) : Figures :=
  let c := p.charges
  let wc := p.walk c.1 1
  let ws := p.walk c.2.1 0
  let wt := p.walk c.2.2 0
  { f := wc.getD 0 0, fs := ws.getD 0 0, ft := wt.getD 0 0,
    loops := p.ctxLoops.map fun b =>
      { mask := match (p.bun b).flow with | .ctxLoop m => m | _ => 0,
        b := wc.getD (b + 1) 0, s := ws.getD (b + 1) 0, t := wt.getD (b + 1) 0 } }

/-- Staged effects of a program by the walk of R321. -/
def Prog.stagedCount (p : Prog) : Nat := (p.walk (p.buns.map (·.staged)) 0).getD 0 0

end Sys2Proof.Machine
end

