-- ==== Sys2Proof/Machine/Starters.lean ====
section
/-! DEFINITION. Sampling of context words, and the starter: what it carries, deltas between starters, entries applied to a
starter, a starter applied to the live blocks (spec 04 R123, R124, 12 R398 to R404, R423, R426, 07 R270, 08 R297). -/

namespace Sys2Proof.Machine

/-! ### Sampling of context words (R123, R124) -/

/-- SERVER names what Table 4-1 requires of a layer, in the same region. -/
def serverOk (s : State) (id : Nat) (w8 w11 : Word) : Bool :=
  let sv := fld w11 35 22
  let lay := fld (ctxWord s sv 8) 35 31
  let near := ctxKind s sv == 1 && regionOf (ctxUnit s sv) == regionOf (ctxUnit s id)
  match fld w8 35 31 with
  | 0x3 => (streamOfCtx s id).isSome || (near && (lay == 1 || lay == 2))
  | 0xB => near && lay == 0xA
  | 0xC => near && lay == 0xB
  | 0xE => near && (match streamOfCtx s sv with | some p => frmProto (frmCfg s p.1 p.2) == 5 | none => false)
  | l => if 4 ≤ l && l ≤ 9 then near && lay == 3 else true

/-- Sample words 8 to 11 and 30 of a context (R123, R124); words in error make it TRANSPARENT, recorded at most once for each
change. LAYER 0 is no error: it names no monitoring context. -/
def sampleCtx (id : Nat) (s : State) : State :=
  if ctxKind s id ≠ 1 then s
  else
    let m := monGet s id
    let w := ctxWord s id
    let layer := fld (w 8) 35 31
    let bad := layer != 0 && (decide (layer > 0xE) || fld (w 8) 30 29 == 3 || !serverOk s id (w 8) (w 11))
    let changed := decide (m.w8 ≠ w 8 ∨ m.w9 ≠ w 9 ∨ m.w10 ≠ w 10 ∨ m.w11 ≠ w 11)
    let s := monPut id { m with w8 := w 8, w9 := w 9, w10 := w 10, w11 := w 11, w30 := w 30, bad := bad } s
    if bad && changed then dueRecord 0 0x08 [mkWord [(22, id)], s.tick] s else s

/-- Every context sampled in a commit window. -/
def sampleAll (s : State) : State := settleDefs ((s.ctxAt.map (·.1)).foldl (fun s id => sampleCtx id s) s)

/-! ### What the starter carries (Table 12-4) -/

/-- What an unlisted control word of a starter reads as. -/
def starterReset (a : Nat) : Word := cwReset a &&& BitVec.ofNat 36 (carriedBits a)

/-- Address of the bin clock in a starter: OH_PM_SET. -/
def binAddr : Nat := ctlAddr clsOh 0 0x800

/-- Control words as carried, with PRT_STAT of every pair and the bin clock. -/
def starterCw (s : State) : Tab Word :=
  let own := s.cw.foldl (fun t e =>
    if carriedBits e.1 = 0 then t else tabSet (starterReset e.1) t e.1 (e.2 &&& BitVec.ofNat 36 (carriedBits e.1))) []
  let own := (shownPairs s).foldl (fun t p => tabSet 0 t (pairAddr p 3) (prtStat s p)) own
  tabSet 0 own binAddr (mkWord [(35, 1), (10, s.binQ), (3, s.binD)])

/-- Device-state items (Table 12-5). -/
def deckItem (d : Nat) : Nat := 0x10 + d
def wtrItem (p : Nat) : Nat := 0x1000 + p
def waitItem (p : Nat) : Nat := 0x1800 + p
def placeItem (id : Nat) : Nat := 0x2000 + id
def rszItem (k : Nat) : Nat := 0x6000 + k
def shimItem (u : Nat) : Nat := 0x6040 + u
def runItem (k w : Nat) : Nat := 0x10000 + 4 * k + w

/-- The shim port of a unit: a calendar switch under way or calendar B in use. -/
def shimWord (s : State) (u : Nat) : Word :=
  match s.ports.find? fun e => e.1 / 192 == u && (e.2.calBusy || e.2.calUse) with
  | some e => mkWord [(1, b2n e.2.calBusy), (0, b2n e.2.calUse)]
  | none => 0

/-- Ticks until the WTR timer of a pair expires. -/
def wtrTicks (k : Pair) : Nat := if k.wtr && !k.wtrExp then ceilDiv k.wtrUs 125 else 0

/-- The device state that a starter carries; ACT_PAGE stands at bit 0 of its item, PENDING at bit 1. -/
def starterDev (s : State) : Tab Word :=
  let t := [0, 1].foldl (fun t d =>
    tabSet 0 t (deckItem d) (mkWord [(1, b2n (dieDeck s d).pending), (0, b2n (dieDeck s d).act)])) []
  let t := s.pairs.foldl (fun t e =>
    let t := tabSet 0 t (waitItem e.1) (mkWord [(0, b2n e.2.waits)])
    if wtrTicks e.2 = 0 then t else tabSet 0 t (wtrItem e.1) (s.tick + BitVec.ofNat 36 (wtrTicks e.2))) t
  let t := s.ctxAt.foldl (fun t e =>
    if ctxKind s e.1 = 0 then t else tabSet 0 t (placeItem e.1) (BitVec.ofNat 36 ((e.2 - 1) / 256))) t
  let t := s.rsz.foldl (fun t e => tabSet 0 t (rszItem e.1) (mkWord [(33, e.2.step), (0, e.2.rateNow % 2 ^ 32)])) t
  let t := (List.range 64).foldl (fun t u => tabSet 0 t (shimItem u) (shimWord s u)) t
  s.ports.foldl (fun t e => e.2.txRuns.foldl (fun t r => tabSet 0 t (runItem e.1 r.1) r.2) t) t

/-- The package's own starter, as its state stands (R398, R399). -/
def starterOf (s : State) : Starter :=
  { valid := true, fromNvm := false, tick := s.tick, wrap := s.wrap,
    loaf := if s.loafNext.isSome then s.loafNext else s.loaf, cw := starterCw s,
    ctx := s.ctx.filter fun e => decide (ctxKind s (e.1 / 128) ≠ 0),
    oh := s.oh.filter fun e => ohProgram (monLayer (monGet s (e.1 / 4096))) (e.1 / 64 % 64) (e.1 % 64),
    deck := s.deck, sels := s.sels, dev := starterDev s }

/-! ### Targets (R401) and entries (R402, R403) -/

def ctxTarget (k : Nat) : Nat := 0x4000000 + k
def ohTarget (k : Nat) : Nat := 0x8000000 + k
def deckTarget (k : Nat) : Nat := 0xC000000 + k
def devTarget (k : Nat) : Nat := 0xE000000 + k
def opTarget (k : Nat) : Nat := 0xF000000 + k

/-- A deck word of a starter: a selector entry carries its SEL. -/
def starterDeckWord (st : Starter) (k : Nat) : Word :=
  let a := k % 2 ^ 18
  let w := tabGet 0 st.deck k
  if isSelAddr a then putFld w 33 33 (b2n (tabGet false st.sels (deckDie a * 2048 + a % 2048))) else w

/-- Keys whose value differs between two tables, with the new value. -/
def tabDiff {α : Type} [DecidableEq α] (d : Nat → α) (old new : Tab α) : List (Nat × α) :=
  (new.filter fun e => decide (tabGet (d e.1) old e.1 ≠ e.2)) ++
    (old.filterMap fun e => if new.any (fun f => f.1 == e.1) then none else if e.2 = d e.1 then none else some (e.1, d e.1))

/-- Exchange the page roles of a die in a starter and set PENDING (R403). -/
def starterArm (d : Nat) (st : Starter) : Starter :=
  let w := tabGet 0 st.dev (deckItem d)
  { st with dev := tabSet 0 st.dev (deckItem d) (mkWord [(1, 1), (0, 1 - fld w 0 0)]) }

/-- Copy the active pages of a die to its standby pages in a starter and clear PENDING (R220, R403). -/
def starterDone (d : Nat) (st : Starter) : Starter :=
  let w := tabGet 0 st.dev (deckItem d)
  let act := fld w 0 0
  let mine := fun (k : Nat) (page : Nat) => deckDie (k % 2 ^ 18) == d && k / 2 ^ 18 == page
  let kept := st.deck.filter fun e => !mine e.1 (1 - act)
  { st with dev := tabSet 0 st.dev (deckItem d) (mkWord [(0, act)]),
            deck := (st.deck.filter fun e => mine e.1 act).foldl (fun t e =>
              tabSet 0 t ((1 - act) * 2 ^ 18 + e.1 % 2 ^ 18) e.2) kept }

/-- Apply one entry to a starter. -/
def applyEntry (st : Starter) (e : Nat × Word) : Starter :=
  let k := e.1 % 2 ^ 26
  match e.1 / 2 ^ 26 with
  | 0 => { st with cw := tabSet (starterReset k) st.cw k e.2 }
  | 1 => { st with ctx := tabSet 0 st.ctx k e.2 }
  | 2 => { st with oh := tabSet 0 st.oh k e.2 }
  | 3 =>
    let i := k % 2 ^ 24
    (match k / 2 ^ 24 with
    | 0 =>
      let a := i % 2 ^ 18
      if isSelAddr a then
        { st with deck := tabSet 0 st.deck i (putFld e.2 33 33 0),
                  sels := tabSet false st.sels (deckDie a * 2048 + a % 2048) (bit e.2 33) }
      else { st with deck := tabSet 0 st.deck i e.2 }
    | 2 => { st with dev := tabSet 0 st.dev i e.2 }
    | 3 =>
      if i % 16 = 1 then [0, 1].foldl (fun st d => if bit e.2 d then starterArm d st else st) st
      else if i % 16 = 2 then starterDone (fld e.2 0 0) st
      else st
    | _ => st)
  | _ => st

/-- The swap operations that lead from one starter to another: an arming, a completion, of each die (R402). -/
def swapOps (old new : Starter) : List (Nat × Word) :=
  [0, 1].filterMap fun d =>
    let was := bit (tabGet 0 old.dev (deckItem d)) 1
    let now := bit (tabGet 0 new.dev (deckItem d)) 1
    if !was && now then some (opTarget 1, BitVec.ofNat 36 (2 ^ d))
    else if was && !now then some (opTarget 2, BitVec.ofNat 36 d)
    else none

/-- Words of a context that only runs carry: 33 to 38, and 64 to 127 (R402, R404). -/
def runOnly (w : Nat) : Bool := (33 ≤ w && w ≤ 38) || 64 ≤ w

/-- The tier-1 entries that lead from one starter to the next (R402): swap operations, then every changed target. -/
def deltaOf (old new : Starter) : List (Nat × Word) :=
  let ops := swapOps old new
  let base := ops.foldl applyEntry old
  let decks := (tabDiff (fun _ => 0) base.deck new.deck).map (fun e => (deckTarget e.1, starterDeckWord new e.1))
  let flips := (tabDiff (fun _ => false) base.sels new.sels).map fun e =>
    let k := deckSel (e.1 / 2048) (e.1 % 2048)
    (deckTarget k, starterDeckWord new k)
  ops ++ tabDiff starterReset base.cw new.cw ++
    ((tabDiff (fun _ => 0) base.ctx new.ctx).filter fun e => !runOnly (e.1 % 128)).map (fun e => (ctxTarget e.1, e.2)) ++
    (tabDiff (fun _ => 0) base.oh new.oh).map (fun e => (ohTarget e.1, e.2)) ++ decks ++ flips ++
    (tabDiff (fun _ => 0) base.dev new.dev).map fun e => (devTarget e.1, e.2)

/-- Every target of a starter with its word, in image order (R400, R417). -/
def imageEntries (st : Starter) : List (Nat × Word) :=
  let sels := st.sels.filterMap fun e =>
    let k := deckSel (e.1 / 2048) (e.1 % 2048)
    if st.deck.any (fun f => f.1 == k) then none else some (deckTarget k, starterDeckWord st k)
  st.cw ++ st.ctx.map (fun e => (ctxTarget e.1, e.2)) ++ st.oh.map (fun e => (ohTarget e.1, e.2)) ++
    st.deck.map (fun e => (deckTarget e.1, starterDeckWord st e.1)) ++ sels ++ st.dev.map fun e => (devTarget e.1, e.2)

/-! ### A starter applied to the live blocks (R423) -/

/-- Control words with those that the starter carries replaced; bits that it does not carry stay the package's own. -/
def mergeCw (st : Starter) (own : Tab Word) : Tab Word :=
  let put := fun (t : Tab Word) (a : Nat) (v : Word) =>
    tabSet (cwReset a) t a ((tabGet (cwReset a) own a &&& ~~~(BitVec.ofNat 36 (carriedBits a))) ||| v)
  let cleared := own.foldl (fun t e => if carriedBits e.1 = 0 then t else put t e.1 (starterReset e.1)) own
  st.cw.foldl (fun t e => if carriedBits e.1 = 0 then t else put t e.1 e.2) cleared

/-- The lowest free handle of a unit among placements made so far. -/
def freeHandle (t : Tab Nat) (u : Nat) : Option Nat :=
  (List.range 256).find? fun h => !t.any fun e => e.2 == u * 256 + h + 1

/-- Contexts placed where the relocation map says (R15). -/
def placeContexts (st : Starter) : Tab Nat :=
  (st.ctx.filter fun e => e.1 % 128 == 0 && decide (fld e.2 35 32 ≠ 0)).foldl (fun t e =>
    let id := e.1 / 128
    let u := (tabGet 0 st.dev (placeItem id)).toNat % 64
    match freeHandle t u with
    | some h => tabSet 0 t id (u * 256 + h + 1)
    | none => t) []

/-- Start every enabled lane afresh, stop the others. -/
def restartLanes (s : State) : State :=
  [0, 1].foldl (fun s side => (List.range 64).foldl (fun s l =>
    if bit (laneCfg s side l) 35 then startLane s side l s
    else if (laneGet s (laneKey side l)).st = .off then s else stopLane side l s) s) s

/-- Every enabled stream restarts its alignment (R95, R120). -/
def restartStreams (s : State) : State := (liveStreams s).foldl (fun s p => restartStream p.1 p.2 s) s

/-- A pair as its PRT_STAT and the items of its timers carry it, held (R296, R297). -/
def pairFrom (st : Starter) (tick : Word) (p : Nat) : Pair :=
  let w := tabGet 0 st.cw (pairAddr p 3)
  let x := tabGet 0 st.dev (wtrItem p)
  { gov := fld w 34 31, govSig := bit w 30, govFar := bit w 29, far := fld w 28 25, farSig := bit w 24,
    fopPm := bit w 15, fopNr := bit w 14, bridged := bit w 13, waits := bit (tabGet 0 st.dev (waitItem p)) 0, held := true,
    wtrUs := if x = 0 then 0 else (x.toNat - tick.toNat) * 125, wtrExp := bit w 16 }

/-- Allocate the rings of an enabled hitless pair, its reader on the selected ring at a late slack of GUARD (R270). -/
def allotPair (p : Nat) (s : State) : State :=
  let w := hlCfg s p
  let d := fld w 17 17
  let rate := hlRateOf s p
  let g : Int := guardUs s d * 1000
  match freeRings s d 2 with
  | a :: b :: _ =>
    let s := allocRings [a, b] (ringRate rate 1) (ringPages (oduLines (ringRate rate 1) (fld w 34 23) (guardUs s d) rate)) s
    let sel := selOf s d p
    hlRefresh p (hlPut p { hlGet s p with
      die := d, wRing := a, pRing := b, map := none, mapped := false, noneRun := 0, last := 0, fresh := true, output := false,
      recentre := false, diffRun := 0, lateW := if sel then 0 else g, lateP := if sel then g else 0 } s)
  | _ => s

/-- Allocate the rings of an enabled group (R270). -/
def allotGroup (d g : Nat) (s : State) : State :=
  let w := grpCfg s d g
  let ty := fld w 34 32
  let rs := freeRings s d ((fld w 30 23 + 1) * grpParts ty)
  grpPut d g { rings := rs } (allocRings rs (grpRate ty) (grpPages ty (fld w 22 11) (guardUs s d)) s)

/-- Keys of a class whose word has its top bit set. -/
def enabledWords (s : State) (cls : Nat) : List Nat :=
  (s.cw.filter fun e => ctlClass e.1 == cls && bit e.2 35).map (·.1)

/-- What a hitless pair keeps when its rings go: its counts. -/
def hlCounts (h : Hl) : Hl :=
  { hitlessSw := h.hitlessSw, bounded := h.bounded, blind := h.blind, recent := h.recent, aligns := h.aligns }

/-- Rings of every enabled pair and group allocated anew (R270). -/
def allotRings (s : State) : State :=
  let s := s |>.putPrfRings [] |>.putHls (tabMap {} hlCounts s.hls) |>.putGroups []
  let s := (enabledWords s clsPair).foldl (fun s a =>
    if a % 128 = 96 then allotPair (ctlNum a * 32 + ctlIdx a / 128) s else s) s
  (enabledWords s clsProof).foldl (fun s a => if ctlIdx a < 0x7FF then allotGroup (ctlNum a) (ctlIdx a) s else s) s

/-- Every enabled pair held after the entry to TAKEOVER (R297). -/
def holdPairs (s : State) : State := (livePairs s).foldl (fun s p => prtPut p { prtGet s p with held := true } s) s

/-- A resize controller as the starter carries it (R426): abandoned before its swap; else it goes on, with a timer of its
cluster where one is free. -/
def resumeRsz (st : Starter) (k : Nat) (s : State) : State :=
  let w := tabGet 0 st.dev (rszItem k)
  let s := rszPut k { step := fld w 35 33, rateNow := fld w 31 0 } s
  match fld w 35 33 with
  | 1 => rszAbort k s
  | 2 => rszPut k { rszGet s k with timer := rszTimerFree s k, noTimer := !rszTimerFree s k } s
  | 3 => rszPut k { rszGet s k with timer := rszTimerFree s k, noTimer := !rszTimerFree s k } s
  | _ => s

/-- The shim of a unit as the starter carries it (R426): a switch under way is not made. -/
def resumeShim (st : Starter) (u : Nat) (s : State) : State :=
  let w := tabGet 0 st.dev (shimItem u)
  match (livePorts s).find? fun p => p.1 == u && mapAdapt (mapCfg s p.1 p.2) == 0xC with
  | some p =>
    let k := portKey p.1 p.2
    let s := portPut k { portGet s k with calUse := bit w 0, calBusy := false } s
    if bit w 1 then
      record0 0x0E srcHardware (mkWord [(30, p.1), (22, p.2), (21, 1 - fld w 0 0)]) (countPort0 k 17 0 1 s)
    else s
  | none => s

/-- The transmit runs of a port that a starter carries (R576). -/
def runsFrom (st : Starter) (k : Nat) : Tab Word :=
  (List.range 4).foldl (fun t w => tabSet 0 t w (tabGet 0 st.dev (runItem k w))) []

/-- A port as it starts again: its runs in force, and those last written waiting where they differ (R576). -/
def resumeRuns (st : Starter) (s : State) (u p : Nat) : Port :=
  let t := runsFrom st (portKey u p)
  { txRuns := t, rxRuns := (List.range 4).foldl (fun t i => tabSet 0 t i (cwGet s (mapAddr u p (4 + i)))) [],
    txPend := mapAdapt (mapCfg s u p) == 3 && !(runWords s u p 8 == runsHeld t) }

/-- A deck as the starter carries it: with a swap pending every output is built from the new page from its first frame
(R223). -/
def resumeDeck (st : Starter) (d : Nat) (s : State) : State :=
  let w := tabGet 0 st.dev (deckItem d)
  let k := { dieDeck s d with act := bit w 0, pending := bit w 1, eligible := bit w 1, changed := [], byResize := false }
  let s := dieDeckPut d k s
  if bit w 1 then dieDeckPut d { k with changed := carriersOf s d, armedTick := s.tick } s else s

/-- The tables that an image replaces. -/
def adoptTables (st : Starter) (s : State) : State :=
  s |>.putCw (mergeCw st s.cw) |>.putCtx st.ctx |>.putCtxAt (placeContexts st) |>.putOh st.oh |>.putDeck st.deck
    |>.putSels st.sels

/-- All that an image replaces, what it does not carry as at power-up. -/
def adoptStarter (st : Starter) (s : State) : State :=
  adoptTables st s
    |>.putMons [] |>.putCells [] |>.putTrackers [] |>.putCq [] |>.putAudio [] |>.putPorts []
    |>.putLoafNext st.loaf |>.putLoafDue st.loaf.isSome |>.putLoaf (if st.loaf.isNone then none else s.loaf)
    |>.putBinQ (fld (tabGet 0 st.cw binAddr) 32 10) |>.putBinD (fld (tabGet 0 st.cw binAddr) 9 3) |>.putBinLoad none
    |>.putBinRestored true |>.putRsz [] |>.putPairs []

/-- The starter takes the place of the package's configuration and carried state (R423, Table 12-10); the tick counter
stays, the loaf runs from the next T0. -/
def applyStarter (st : Starter) (s : State) : State :=
  let s := adoptStarter st s
  let s := (livePorts s).foldl (fun s p => portPut (portKey p.1 p.2) (resumeRuns st s p.1 p.2) s) s
  let s := [0, 1].foldl (fun s d => resumeDeck st d s) s
  let s := sampleAll s
  let s := (livePairs s).foldl (fun s p => prtPut p (pairFrom st s.tick p) s) s
  let s := restartStreams (restartLanes s)
  let s := (List.range 64).foldl (fun s k => if bit (rszCfg s k) 35 then resumeRsz st k s else s) s
  let s := (List.range 64).foldl (fun s u => resumeShim st u s) s
  cenInc 5 s

end Sys2Proof.Machine
end

