-- ==== Sys2Proof/Machine/Mate.lean ====
section
/-! DEFINITION. The Polfen link, the mate transmit queue, resynchronisation, MATE_CTRL (spec 12 R402 to R418, R430 to R432). -/

namespace Sys2Proof.Machine

def mateAddr (w : Nat) : Nat := ctlAddr clsMate 0 w
def mateCtrl (s : State) : Word := cwGet s (mateAddr 0)
def linkOn (s : State) : Bool := bit (mateCtrl s) 35
def linkUp (s : State) : Bool := s.link.st == .up
/-- MAX_AGE in ms; 0 selects 1,000. -/
def maxAge (s : State) : Nat := match fld (mateCtrl s) 29 18 with | 0 => 1000 | n => n

/-- A MATE_EVT record (R432). -/
def mateEvt (event detail element : Nat) (s : State) : State :=
  dueRecord (fld (mateCtrl s) 17 15) 0x1B [mkWord [(31, event), (27, detail), (22, element)], s.tick] s

/-- The package holds and is ACTIVE: it may send starter data (R415). -/
def sendsStarter (s : State) : Bool := s.ilk == .holding && s.mode == .active

/-! ### The mate transmit queue (R411, R431) -/

/-- Lines of the mate's receive buffer and of the queue. -/
def mateLines : Nat := 32768

/-- Lines of a message (R402, R404, R408, R417). -/
def msgLines : MateMsg → Nat
  | .status _ => 2
  | .tier1 _ _ es => 1 + ceilDiv (64 * es.length) 288
  | .tier2 _ _ es => 1 + ceilDiv (es.length + runsAfter 256 (es.map (·.1)) 0 0) 8
  | .sweep _ l es => ceilDiv (es.length + runsAfter 256 (es.map (·.1)) 0 0) 8 + (match l with | some l => min l.lines 16384 | none => 0)
  | .resyncReq => 1
  | .resyncStart _ => 1
  | .msg ls => ls.length

/-- Frame type of a message (R408). -/
def msgType : MateMsg → Nat
  | .status _ => 2
  | .tier1 _ _ _ => 3
  | .tier2 _ _ _ => 4
  | .sweep _ _ _ => 5
  | .resyncReq => 6
  | .resyncStart _ => 6
  | .msg _ => 7

/-- Lines in use. -/
def mateFill (k : Polfen) : Nat := k.queue.foldl (fun n m => n + msgLines m) 0 - k.part

/-- Re-evaluate the high state of the mate queue (R346). -/
def mateLevel (s : State) : State :=
  let w := cwGet s (ctlAddr clsQueue 3 1)
  (s.putLink { s.link with high := highAfter s.link.high (mateFill s.link) (fld w 35 18) (fld w 17 0) })

/-- Append a message under the credit policy; without credit it is lost (R344, R411). -/
def mateAppend (m : MateMsg) (s : State) : State :=
  let k := s.link
  if linkUp s && msgLines m ≤ k.cr then
    mateLevel (s.putLink { k with queue := k.queue ++ [m], cr := k.cr - msgLines m })
  else cenInc 47 (cwCount (ctlAddr clsQueue 3 3) 1 s)

/-! ### Causes of resynchronisation (Table 12-8) -/

/-- A cause of resynchronisation by its row: the holder's sweep waits to start, a mate sends a request where the link is
UP; else the sweep that follows the entry to UP serves. -/
def resync (row : Nat) (s : State) : State :=
  let s := s.putRdn { s.rdn with want := row }
  if s.ilk = .holding || !linkUp s then s else mateAppend .resyncReq s

/-! ### Link states (R412, R413) -/

/-- Leave the present state of the link for DOWN, LOCK or HOLD: nothing is outstanding and no credit is left; leaving UP
is recorded with its detail. -/
def linkLeave (dest : Link) (detail : Nat) (s : State) : State :=
  let was := linkUp s
  let k := s.link
  let s := (s.putLink { k with st := dest, sent := [], again := [], nak := false, part := 0, cr := 0, grant := 0 }).putRdn { s.rdn with sweepRx := none, sweepTx := none }
  if was then intSet 24 (mateEvt 2 detail 0 s) else s

/-- The state the link takes while it may run: LOCK, or DOWN while it is disabled, halted or without power. -/
def linkSeek (s : State) : Link := if linkOn s && !s.link.halted && domRuns s 49 then .lock else .down

/-- POLFEN_LOCK: block and frame lock on both lanes. -/
def execPolfenLock (s : State) : Result :=
  .next (if s.link.st = .lock then
      emit (.hello s.straps.seat.val s.link.epoch) (s.putLink { s.link with st := .key })
    else s)

/-- POLFEN_LOCK_LOSS: from KEY or UP back to LOCK; CEN46. -/
def execPolfenLockLoss (s : State) : Result :=
  .next (if s.link.st = .key || s.link.st = .up then cenInc 46 (linkLeave .lock 0 s) else s)

/-- Link keys and epoch anew: one more than the larger epoch of the two HELLOs; SEQ restarts at 0 (R412, R460). -/
def freshEpoch (epoch : Nat) (k : Polfen) : Polfen :=
  { k with epoch := max k.epoch epoch + 1, txSeq := 0, rxSeq := 0, sent := [], again := [], nak := false }

/-- POLFEN_HELLO (R412): the mate's HELLO with its SEAT and epoch; `paired` that it is the mate the owner paired. An
accepted debug token has erased the pair key until reset, and no HELLO verifies (R457). The link comes UP with the whole
buffer granted both ways. -/
def execPolfenHello (seat : Fin 2) (paired : Bool) (epoch : Nat) (s : State) : Result :=
  .next (if s.link.st = .key then
      if !paired || s.sec.unlocked then mateEvt 2 2 0 s
      else if seat = s.straps.seat then mateEvt 2 3 0 (s.putLink { s.link with clash := true })
      else
        let k := freshEpoch epoch s.link
        let s := s.putLink { k with st := .up, clash := false, cr := mateLines - mateFill k, grant := mateLines, part := 0 }
        let s := intSet 24 (mateEvt 1 0 0 s)
        if s.ilk = .holding then resync 1 s else s
    else s)

/-- POLFEN_REKEY (R414): SEQ has reached 2^47; a HELLO exchange renews the keys without leaving UP. -/
def execPolfenRekey (epoch : Nat) (s : State) : Result :=
  .next (if linkUp s && s.link.txSeq ≥ 2 ^ 47 then
      emit (.hello s.straps.seat.val s.link.epoch) (s.putLink (freshEpoch epoch s.link))
    else s)

/-- POLFEN_HOLD_EXPIRE (R413). -/
def execPolfenHoldExpire (s : State) : Result :=
  .next (if s.link.st = .hold then s.putLink { s.link with st := linkSeek s } else s)

/-- A hostile frame (R413): TEARDOWN, HOLD, counts, a record; the eighth within a second halts the link. -/
def tearDown (s : State) : State :=
  let now := tickCount s
  let recent := now :: s.link.drops.filter fun t => decide (now < t + ticksPerSecond)
  let s := cenInc 45 (cwCountFld (mateAddr 8) 35 18 1 (emit .teardown (linkLeave .hold 1 s)))
  (s.putLink { s.link with drops := recent, halted := s.link.halted || decide (recent.length ≥ 8) })

/-- The sent frames that an ACK leaves outstanding: those after the highest sequence it acknowledges (R407, R410). -/
def afterAck (ack : Nat) (l : List PFrame) : List PFrame :=
  if l.any (fun f => f.seq % 65536 == ack) then (l.dropWhile fun f => f.seq % 65536 != ack).drop 1 else l

/-- Credits from the mate, in units of 64 lines, clipped (R344). -/
def mateGrant (crg : Nat) (s : State) : State :=
  let k := s.link
  let room := mateLines - mateFill k
  if k.cr + 64 * crg > room then s.putLink { k with cr := room, clipped := true }
  else s.putLink { k with cr := k.cr + 64 * crg }

/-- What a good frame in sequence brings: acknowledgement, credits, and the message it completes; starter data is discarded
by a holder (R415). -/
def frameIn (f : PFrame) (s : State) : State :=
  let left := afterAck f.ack s.link.sent
  let s := mateGrant f.crg (s.putLink { s.link with
    rxSeq := f.seq + 1, sent := left, again := if f.nak then left else s.link.again })
  if s.ilk = .holding && (f.ty = 3 || f.ty = 4 || f.ty = 5) then
    cwCountFld (mateAddr 8) 17 0 1 (s.putLink { s.link with discarded := true, grant := s.link.grant + f.len })
  else
    match f.last, f.msg with
    | true, some m => s.putLink { s.link with inbox := s.link.inbox ++ [m] }
    | _, _ => s

/-- POLFEN_FRAME_RX (R408, R410, R413): CRC first, then the tag, then the sequence. -/
def execPolfenFrameRx (f : PFrame) (crcOk tagOk : Bool) (s : State) : Result :=
  .next (if !linkUp s then s
    else if !crcOk || f.ty > 8 then
      cwCountFld (mateAddr 7) 17 0 1 (s.putLink { s.link with nak := true })
    else if !tagOk then tearDown s
    else if f.seq ≠ s.link.rxSeq then s
    else if f.ty = 8 then linkLeave .hold 1 s
    else frameIn f s)

/-- POLFEN_RETX_TIMEOUT (R410). -/
def execPolfenRetxTimeout (s : State) : Result :=
  .next (if linkUp s && !s.link.sent.isEmpty then s.putLink { s.link with again := s.link.sent } else s)

/-- Service rank of a message (R405). -/
def msgRank (m : MateMsg) : Nat := match msgType m with | 2 => 0 | 3 => 1 | 4 => 2 | _ => 3

/-- Bring the message to be served next to the front: the first of the lowest rank. -/
def serveFirst : List MateMsg → List MateMsg
  | [] => []
  | m :: t =>
    match serveFirst t with
    | [] => [m]
    | b :: r => if msgRank b < msgRank m then b :: m :: r else m :: b :: r

/-- Send a frame, kept until it is acknowledged. -/
def sendPolfen (f : PFrame) (s : State) : State :=
  let k := s.link
  emit (.frame f) (s.putLink { k with
    txSeq := k.txSeq + 1, sent := k.sent ++ [f], nak := false, grant := k.grant - 64 * f.crg })

/-- POLFEN_FRAME_TX (R409, R410): a frame again if one is due; nothing new while 256 are outstanding; the next frame of the
message under way or to be served next; else IDLE. -/
def execPolfenFrameTx (s : State) : Result :=
  let k := s.link
  .next (if !linkUp s then s
    else
      match k.again with
      | f :: rest =>
        cenInc 44 (cwCountFld (mateAddr 7) 35 18 1 (emit (.frame f) (s.putLink { k with again := rest, nak := false })))
      | [] =>
        if k.sent.length ≥ 256 then s
        else
          let ack := (k.rxSeq + 65535) % 65536
          let crg := min 255 (k.grant / 64)
          match (if k.part = 0 then serveFirst k.queue else k.queue) with
          | [] => sendPolfen { ty := 0, seq := k.txSeq, ack := ack, nak := k.nak, first := true, last := true, len := 0,
                               crg := crg, msg := none } s
          | m :: rest =>
            let left := msgLines m - k.part
            let f : PFrame := { ty := msgType m, seq := k.txSeq, ack := ack, nak := k.nak, first := k.part == 0,
                                last := decide (left ≤ 28), len := min 28 left, crg := crg,
                                msg := if left ≤ 28 then some m else none }
            let s := sendPolfen f s
            mateLevel (if left ≤ 28 then s.putLink { s.link with queue := rest, part := 0 }
              else s.putLink { s.link with queue := m :: rest, part := k.part + 28 }))

/-! ### Messages received -/

/-- The oldest received message taken from the inbox, its lines granted to the mate again. -/
def takeMsg (m : MateMsg) (s : State) : State :=
  s.putLink { s.link with inbox := s.link.inbox.drop 1, grant := s.link.grant + msgLines m }

/-- STATUS_MSG_RX (R397). -/
def execStatusMsgRx (s : State) : Result :=
  .next (match s.link.inbox with
    | .status h :: _ => takeMsg (.status h) (s.putRdn { s.rdn with mate := h })
    | _ => s)

/-- A starter with a tier-1 message applied in one step. -/
def starterStep (tick wrap : Word) (es : List (Nat × Word)) (st : Starter) : Starter :=
  { es.foldl applyEntry st with tick := tick, wrap := wrap }

/-- A tier-1 message (R403, R417): in sequence it is applied to the current bank, and to the spare bank for what a sweep
has delivered; out of sequence a resynchronisation is requested, once. -/
def tier1In (tick wrap : Word) (es : List (Nat × Word)) (s : State) : State :=
  let inSeq := s.bank.valid && tick == s.bank.tick + 1
  let s := if inSeq then s.putBank (starterStep tick wrap es s.bank) else s
  match s.rdn.sweepRx with
  | some sp =>
    if tick = sp.tick + 1 then
      s.putRdn { s.rdn with sweepRx := some (starterStep tick wrap (es.filter fun e => decide (e.1 < s.rdn.swept)) sp) }
    else resync 2 (s.putRdn { s.rdn with sweepRx := none })
  | none => if inSeq || s.rdn.want ≠ 0 then s else resync 2 s

/-- TIER1_MSG_RX. -/
def execTier1MsgRx (s : State) : Result :=
  .next (match s.link.inbox with
    | .tier1 t w es :: _ => tier1In t w es (takeMsg (.tier1 t w es) s)
    | _ => s)

/-- Ticks since reset that a tick and a wrap count stand for. -/
def ticksOf (tick wrap : Word) : Nat := wrap.toNat * 2 ^ 36 + tick.toNat

/-- TIER2_MSG_RX (R404): applied to a starter that is not older than the message. -/
def execTier2MsgRx (s : State) : Result :=
  .next (match s.link.inbox with
    | .tier2 t w es :: _ =>
      let s := takeMsg (.tier2 t w es) s
      if s.bank.valid && ticksOf s.bank.tick s.bank.wrap ≥ ticksOf t w then s.putBank (es.foldl applyEntry s.bank) else s
    | _ => s)

/-- RESYNC_REQ_RX (R416): the holder starts a sweep. -/
def execResyncReqRx (s : State) : Result :=
  .next (match s.link.inbox with
    | .resyncReq :: _ =>
      let s := takeMsg .resyncReq s
      if s.ilk = .holding then resync (if s.rdn.want = 0 then 2 else s.rdn.want) s else s
    | _ => s)

/-- SWEEP_START (R417): the holder sends RESYNC_START for the cause that waits, or the mate receives one and begins to
fill its spare bank. -/
def execSweepStart (s : State) : Result :=
  .next (match s.link.inbox with
    | .resyncStart t :: _ =>
      let s := takeMsg (.resyncStart t) s
      mateEvt 3 s.rdn.want 0 (s.putRdn { s.rdn with
        sweepRx := some { tick := t, wrap := s.wrap }, swept := 0, want := 0 })
    | _ =>
      if sendsStarter s && linkUp s && s.rdn.want ≠ 0 then
        mateEvt 3 s.rdn.want 0 (mateAppend (.resyncStart s.bank.tick)
          (s.putRdn { s.rdn with sweepTx := some 0, want := 0 }))
      else s)

/-- SWEEP_MSG_RX (R417): into the spare bank. -/
def execSweepMsgRx (s : State) : Result :=
  .next (match s.link.inbox, s.rdn.sweepRx with
    | .sweep false l es :: _, some sp =>
      let st := es.foldl applyEntry sp
      ((takeMsg (.sweep false l es) s).putRdn { s.rdn with
          sweepRx := some { st with loaf := if l.isSome then l else st.loaf },
          swept := es.foldl (fun n e => max n (e.1 + 1)) s.rdn.swept })
    | .sweep false l es :: _, none => takeMsg (.sweep false l es) s
    | _, _ => s)

/-- SWEEP_COMPLETE (R417): with the last sweep message the spare bank becomes the current starter. -/
def execSweepComplete (s : State) : Result :=
  .next (match s.link.inbox, s.rdn.sweepRx with
    | .sweep true l es :: _, some sp =>
      let st := es.foldl applyEntry sp
      mateEvt 4 0 0 (((takeMsg (.sweep true l es) s).putBank { st with loaf := (if l.isSome then l else st.loaf), valid := true }).putRdn { s.rdn with sweepRx := none, swept := 0, want := 0 })
    | .sweep true l es :: _, none => takeMsg (.sweep true l es) s
    | _, _ => s)

/-- MATE_MSG_RX (R574): the message has been received; the device gives it to no one and grants its lines again. -/
def execMateMsgRx (s : State) : Result :=
  .next (match s.link.inbox with
    | .msg ls :: _ => takeMsg (.msg ls) s
    | _ => s)

/-! ### MATE_CTRL and its queue (R430, R431) -/

/-- Apply a write to MATE_CTRL (Table 12-12). -/
def applyMateCtrl (v : Word) (s : State) : Applied :=
  if fld v 29 18 ≥ 4094 then .error St.thrRange
  else
    let was := linkOn s
    let s := cwSet (mateAddr 0) (v &&& 0x97FFF8000) s
    let s := if was && !bit v 35 then linkLeave .down 4 s else s
    let s := if bit v 34 && s.link.halted then s.putLink { s.link with halted := false, drops := [] } else s
    let s := if s.link.st = .down then s.putLink { s.link with st := linkSeek s } else s
    let s := if bit v 33 then resync 6 s else s
    .ok (if bit v 31 && s.rdn.provisional then mateEvt 0x0B 0 0 (s.putRdn { s.rdn with provisional := false }) else s)

/-- A write to MATE_CTRL lands. -/
def mateWrite (w : CtlWrite) (v : Word) (s : State) : Result := .next (settle w.origin .word (mateAddr 0) s (applyMateCtrl v s))

/-- MATE_LINK_EN. -/
def execMateLinkEn (w : CtlWrite) (s : State) : Result := mateWrite w w.value s
/-- MATE_RESTART: a write with RESTART set. -/
def execMateRestart (w : CtlWrite) (s : State) : Result := mateWrite w (putFld w.value 34 34 1) s
/-- MATE_RESYNC: a write with RESYNC set. -/
def execMateResync (w : CtlWrite) (s : State) : Result := mateWrite w (putFld w.value 33 33 1) s
/-- MATE_YIELD (R396). -/
def execMateYield (w : CtlWrite) (s : State) : Result := mateWrite w w.value s
/-- MATE_CONFIRM (R425): a write with CONFIRM set. -/
def execMateConfirm (w : CtlWrite) (s : State) : Result := mateWrite w (putFld w.value 31 31 1) s

/-- MATE_CNT_CLR. -/
def execMateCntClr (s : State) : Result := .next (cwSet (mateAddr 7) 0 (cwSet (mateAddr 8) 0 s))

/-- Flush the mate queue (R349, R350, R431): a message that is being sent is completed, every other one is discarded; a
holder resynchronises. -/
def flushMate (src : Nat) (s : State) : State :=
  let k := s.link
  let kept := if k.part = 0 then [] else k.queue.take 1
  let gone := k.queue.length - kept.length
  let s := flushRecord src 3 0 gone 0 (mateLevel (s.putLink { k with queue := kept }))
  if s.ilk = .holding then resync 4 s else s

/-- MATE_QUEUE_FLUSH. -/
def execMateQueueFlush (o : Origin) (s : State) : Result :=
  .next (settle o .word (ctlAddr clsQueue 3 2) s (.ok (flushMate (srcNumber o.src) s)))

/-- Apply a write to the watermark word of the mate queue (R347, R431). -/
def applyMateWm (v : Word) (s : State) : Applied :=
  if fld v 17 0 < fld v 35 18 && fld v 35 18 ≤ mateLines then .ok (mateLevel (cwSet (ctlAddr clsQueue 3 1) v s))
  else .error St.thrRange

end Sys2Proof.Machine
end

