-- ==== Sys2Proof/Machine/Domains.lean ====
section
/-! DEFINITION. Power domains: dependencies, governing states, contents, changes of state, requests (spec 16 R520 to R526,
R546). -/

namespace Sys2Proof.Machine

/-! ### Records (R546) -/

def pkgCtrlAddr : Nat := ctlAddr clsPwr 63 0
def pwrHq (s : State) : Nat := cwFld s pkgCtrlAddr 30 28
/-- STANDBY depth COOL. -/
def deepStandby (s : State) : Bool := cwFld s pkgCtrlAddr 31 31 == 1

/-- A PWR_EVT record (Table 16-10); domain 63 is the package. -/
def pwrEvt (d old new cause : Nat) (s : State) : State :=
  dueRecord (pwrHq s) 0x22 [mkWord [(30, d), (27, old), (24, new), (20, cause)], s.tick] s

/-! ### Dependencies (Table 16-1) -/

/-- The domains of a die's core. -/
def dieOfDomain (d : Nat) : Nat := if d < 16 then d / 8 else if d < 32 then d % 4 / 2 else d % 2

/-- The domains that depend on a domain; the stage-2 regulators follow their die by a rule of their own. -/
def dependants (d : Nat) : List Nat :=
  if 28 ≤ d && d ≤ 31 then (List.range 4).map (fun i => 4 * (d - 28) + i) ++ [d - 12, d - 8, d - 4]
  else if d = 36 || d = 37 then [d + 2]
  else []

/-- The domains that a domain depends on, PD52 and PD53 among them. -/
def supports (d : Nat) : List Nat :=
  let up := (List.range 42).filter fun k => (dependants k).contains d
  if d < 42 then up ++ [52 + dieOfDomain d] else up

/-- A domain that the owner may lower. -/
def lowerable (d : Nat) : Bool := d ≤ 39 || d == 51

/-- The core domains. -/
def coreDomains : List Nat := List.range 42

/-! ### Governing states (R524, Table 16-3) -/

/-- Modes in which REQ is applied. -/
def reqMode (m : Mode) : Bool := m == .provision || m == .active || m == .test

/-- The governing state of a domain other than PD52 and PD53. -/
def governing (s : State) (d : Nat) : Nat :=
  let full := reqMode s.mode || s.mode == .takeover
  let standby := s.mode == .standby
  let rest := fun n => if deepStandby s then 3 else n
  if d < 20 || (32 ≤ d && d ≤ 39) then (if full then 0 else if standby then rest 2 else 3)
  else if d < 32 then (if full then 0 else if standby then rest 1 else 3)
  else if d = 40 || d = 41 then
    (if s.mode != .sealed && s.mode != .boot && s.sec.unlocked && s.sec.scope.testBit 1 then 0 else 3)
  else if d = 49 then (if full || standby then 0 else 3)
  else if d = 51 then (if full then 0 else 3)
  else 0

def domReq (s : State) (d : Nat) : Nat := cwFld s (ctlAddr clsPwr d 0) 35 33

/-- The state a domain would take by itself: L3 where a fault holds it or a support of it (R538). -/
def ownTarget (s : State) (d : Nat) : Nat :=
  if (d :: supports d).any fun k => (domGet s k).held then 3
  else if (domGet s d).burst then 0
  else
    let g := governing s d
    if lowerable d && reqMode s.mode then max g (domReq s d) else g

/-- The state a domain takes: never more frugal than a dependant of it (R520). -/
def domTarget (s : State) (d : Nat) : Nat := (dependants d).foldl (fun n c => min n (ownTarget s c)) (ownTarget s d)

/-- PD52 and PD53 stand at L0 while a domain of their die stands above L3 (R520). -/
def regTarget (s : State) (d : Nat) : Nat :=
  if coreDomains.any fun c => dieOfDomain c == d - 52 && (decide ((domGet s c).st < 3) || decide ((domGet s c).goal < 3))
  then 0 else 3

/-! ### Contents (R521) -/

/-- The region of a domain of its lanes, FEC/PCS or clock generation. -/
def regOfDomain (d : Nat) : Nat := d % 4

/-- A control word stands in a domain. -/
def wordIn (s : State) (d a : Nat) : Bool :=
  let num := ctlNum a
  let idx := ctlIdx a
  let cls := ctlClass a
  if d < 16 then
    ((cls == clsFramer || cls == clsOh || cls == clsMap) && clusterOf num == d) ||
      (cls == clsPc && decide (idx < 0x800) && clusterOf num == d) || ((cls == clsProt || cls == clsChk) && num == d) ||
      (cls == clsPair && decide (idx % 128 < 96) && prtCluster s (num * 32 + idx / 128) == d)
  else if d < 20 then cls == clsLane && num / 16 == d - 16 && decide (idx < 0x800)
  else if d < 24 then cls == clsLane && num / 16 == d - 20 && decide (idx ≥ 0x800)
  else if d < 28 then cls == clsFec && num / 16 == d - 24
  else if d < 32 then cls == clsClk && num == d - 27
  else if d < 34 then
    (cls == clsDeck && num == d - 32) || (cls == clsFine && num / 2 == d - 32) || (cls == clsQueue && num == d - 32)
  else if d = 36 || d = 37 then
    (cls == clsProof && num == d - 36) ||
      (cls == clsPair && decide (idx % 128 ≥ 96) && cwFld s (ctlAddr clsPair num (idx / 128 * 128 + 96)) 17 17 == d - 36)
  else if d = 51 then cls == clsAud || (cls == clsQueue && num == 4)
  else false

/-- A unit of a cluster. -/
def inCluster (c u : Nat) : Bool := clusterOf u == c

/-- Contents of a cluster lost: contexts with their words, buffers, cells, streams, ports, engines. -/
def loseCluster (c : Nat) (s : State) : State :=
  let gone := (s.ctxAt.filter fun e => inCluster c ((e.2 - 1) / 256)).map (·.1)
  let s := s
      |>.putCtxAt (s.ctxAt.filter fun e => !gone.contains e.1)
      |>.putCtx (s.ctx.filter fun e => !gone.contains (e.1 / 128))
      |>.putMons (s.mons.filter fun e => !gone.contains e.1)
      |>.putOh (s.oh.filter fun e => !gone.contains (e.1 / 4096))
      |>.putOhT0 (s.ohT0.filter fun e => !gone.contains (e.1 / 4096))
      |>.putCells (s.cells.filter fun e => decide (e.1 / 2048 ≠ c))
      |>.putCellsT0 (s.cellsT0.filter fun e => decide (e.1 / 2048 ≠ c))
  let s := s
      |>.putTrackers (s.trackers.filter fun e => !inCluster c (e.1 / 64 / 160))
      |>.putFramers (s.framers.filter fun e => !inCluster c (e.1 / 160))
      |>.putPorts (s.ports.filter fun e => !inCluster c (e.1 / 192))
  ((s.putEngines (s.engines.filter fun e => e.1 == 64 || !inCluster c e.1)).putChkMax (tabSet 0 s.chkMax c 0))

/-- Contents of a bank of SerDes lost; the retained equaliser values go to hub memory and stay (R422). -/
def loseLanes (side r : Nat) (s : State) : State :=
  let mine := fun k => k / 64 == side && k % 64 / 16 == r
  (s.putLanes (s.lanes.filterMap fun e =>
      if mine e.1 then (if e.2.eq.isEmpty then none else some (e.1, { eq := e.2.eq })) else some e))

/-- What a domain holds is lost at the start of its change to L3 or lower. -/
def loseContents (d : Nat) (s : State) : State :=
  let pairsOf := (List.range 2048).filter fun p => d < 16 && prtOn s p && prtCluster s p == d
  let s := (s.putCw (s.cw.filter fun e => !wordIn s d e.1)).putWords (s.words.filter fun e => !wordIn s d e.1)
  if d < 16 then loseCluster d (s.putPairs (s.pairs.filter fun e => !pairsOf.contains e.1))
  else if d < 24 then loseLanes (d / 4 - 4) (regOfDomain d) s
  else if d < 28 then s
  else if d < 32 then
    (s
        |>.putQuads (s.quads.filter fun e => decide (e.1 % 16 / 4 ≠ d - 28))
        |>.putFlex (s.flex.filter fun e => decide (e.1 / 2 ≠ d - 28)) |>.putRefClk (tabSet {} s.refClk (d - 28) {}))
  else if d < 34 then
    (s
        |>.putDeck (s.deck.filter fun e => decide (deckDie (e.1 % 2 ^ 18) ≠ d - 32))
        |>.putDecks (tabSet {} s.decks (d - 32) {}) |>.putSels (s.sels.filter fun e => decide (e.1 / 2048 ≠ d - 32))
        |>.putRsz (s.rsz.filter fun e => decide (e.1 / 32 ≠ d - 32))
        |>.putCq (s.cq.filter fun e => decide (e.1 / 1024 ≠ d - 32)))
  else if 36 ≤ d && d ≤ 39 then
    (s
        |>.putPrfRings (s.prfRings.filter fun e => decide (e.1 / 2048 ≠ d % 2))
        |>.putHls (s.hls.filter fun e => decide (e.2.die ≠ d % 2))
        |>.putGroups (s.groups.filter fun e => decide (e.1 / 2048 ≠ d % 2)))
  else if d = 51 then s.putAudio []
  else s

/-! ### Changes of state (R521) -/

/-- Lanes of a domain of SerDes. -/
def lanesOfDomain (d : Nat) : List (Nat × Nat) :=
  if 16 ≤ d && d ≤ 23 then (List.range 16).map fun i => (d / 4 - 4, d % 4 * 16 + i) else []

/-- Streams that run in a domain: its cluster's, its lanes', its FEC/PCS's (R120). -/
def streamsIn (s : State) (d : Nat) : List (Nat × Nat) :=
  if d < 16 then (liveStreams s).filter fun p => inCluster d p.1
  else if 24 ≤ d && d ≤ 27 then (liveStreams s).filter fun p => regionOf p.1 == d - 24 && frmProto (frmCfg s p.1 p.2) != 6
  else []

/-- What stops as a domain leaves L0: lanes are held or off, streams stop. -/
def stopIn (d : Nat) (s : State) : State :=
  let s := (lanesOfDomain d).foldl (fun s l =>
    if (laneGet s (laneKey l.1 l.2)).st = .off then s
    else laneLeft l.1 l.2 (lanePut (laneKey l.1 l.2) (downLane (domGet s d).goal (laneGet s (laneKey l.1 l.2))) s)) s
  (streamsIn s d).foldl (fun s p => holdStream p.1 p.2 s) s

/-- What starts as a domain reaches L0: enabled lanes, and the alignment of its streams (R63, R120). -/
def startIn (d : Nat) (s : State) : State :=
  let s := (lanesOfDomain d).foldl (fun s l => if bit (laneCfg s l.1 l.2) 35 then startLane s l.1 l.2 s else s) s
  (streamsIn s d).foldl (fun s p => restartStream p.1 p.2 s) s

/-- Begin the change of a domain to a state. -/
def moveDomain (d goal cause : Nat) (s : State) : State :=
  let k := domGet s d
  if k.goal = goal then s
  else
    let s := domPut d { k with goal := goal, cause := cause } s
    let s := if goal > 0 && k.st = 0 then stopIn d s else s
    if goal ≥ 3 && k.goal < 3 then loseContents d s else s

/-- A request or a mode change lifts what faults hold (R538). -/
def unhold (lift : Nat → Bool) (s : State) : State :=
  (List.range 56).foldl (fun s d => if lift d then domPut d { domGet s d with held := false } s else s) s

/-- PD52 and PD53 follow their dies, but where a fault holds them. -/
def followDies (cause : Nat) (s : State) : State :=
  [52, 53].foldl (fun s d => if (domGet s d).held then s else moveDomain d (regTarget s d) cause s) s

/-- Every domain begins the change to the state it is to take; `lift` says which domains a fault holds no more. -/
def retarget (cause : Nat) (lift : Nat → Bool) (s : State) : State :=
  followDies cause ((coreDomains ++ [49, 51]).foldl (fun s d => moveDomain d (domTarget s d) cause s) (unhold lift s))

/-- A region's rail starts on a return from L3: FLOOR and rail at 850 mV (R542). -/
def startRail (r : Nat) (s : State) : State :=
  s.putVloops (tabSet {} s.vloops r { tabGet {} s.vloops r with vout := 850, floor := 850 })

/-- A region's rail stands: some domain of the region stands above L3. -/
def railOn (s : State) (r : Nat) : Bool :=
  ((List.range 4).map (fun i => 4 * r + i) ++ [16 + r, 20 + r, 24 + r, 28 + r]).any fun d => decide ((domGet s d).st < 3)

/-- A domain completes its change (R521): STATE changes, with a PWR_EVT record unless a self-test burst moves it, and CEN48
where it leaves a frugal state. -/
def landDomain (d : Nat) (s : State) : State :=
  let k := domGet s d
  if k.st = k.goal then s
  else if k.goal = 4 then domPut d { k with st := 4 } s
  else
    let up := decide (k.goal < k.st)
    let rail := fun s => if d < 32 then railOn s (if d < 16 then d / 4 else d % 4) else true
    let before := rail s
    let s := domPut d { k with st := k.goal, fault := k.fault && decide (k.goal ≠ 0) } s
    let s := if !before && rail s then startRail (if d < 16 then d / 4 else d % 4) s else s
    let s := if up then cenInc 48 s else s
    let s := if k.burst || k.cause = 8 then s else pwrEvt d k.st k.goal k.cause s
    let s := if k.goal = 0 then startIn d s else s
    let s := if d = 49 && k.goal = 0 && s.link.st = .down then s.putLink { s.link with st := linkSeek s } else s
    followDies k.cause s

/-! ### Package state (R522) -/

/-- The state a domain counts at. -/
def countedState (s : State) (d : Nat) : Nat :=
  if (domGet s d).burst then tabGet (domGet s d).st s.test.returns d else (domGet s d).st

/-- The package ladder state. -/
def pkgLadder (s : State) : Nat :=
  if s.phase = .dormant then 4
  else (List.range 20 ++ (List.range 8).map (· + 32)).foldl (fun n d => min n (countedState s d)) 3

/-! ### Requests (R525, Table 16-4) -/

/-- A region holds an enabled lane of a side. -/
def laneOn (s : State) (side r : Nat) : Bool := (List.range 16).any fun i => bit (laneCfg s side (16 * r + i)) 35
/-- A region holds an enabled stream of a side. -/
def streamOn (s : State) (r : Nat) (p : Word → Bool) : Bool :=
  (liveStreams s).any fun q => regionOf q.1 == r && p (frmCfg s q.1 q.2)
/-- A region drives an enabled REC_CLK output. -/
def recOn (s : State) (r : Nat) : Bool := [0, 1].any fun n => cwFld s (recCfgAddr n) 35 35 == 1 && recRegion s n == r

/-- Lanes or streams use a domain of the region's line, system, FEC/PCS or clock generation. -/
def regionUsed (s : State) (d : Nat) : Bool :=
  let r := d % 4
  if d < 20 then laneOn s 0 r || streamOn s r (fun w => !bit w 30)
  else if d < 24 then laneOn s 1 r || streamOn s r (fun w => bit w 30)
  else laneOn s 0 r || laneOn s 1 r || streamOn s r (fun _ => true)

/-- A die's switch store holds a valid entry in a page. -/
def storeUsed (s : State) (d : Nat) : Bool :=
  s.deck.any fun e => deckDie (e.1 % 2 ^ 18) == d && bit e.2 35

/-- A domain holds something (Table 16-4). -/
def domHolds (s : State) (d : Nat) : Bool :=
  if d < 16 then s.ctxAt.any fun e => inCluster d ((e.2 - 1) / 256) && ctxKind s e.1 != 0
  else if d < 32 then regionUsed s d || recOn s (d % 4)
  else if d = 32 || d = 33 then storeUsed s (d - 32)
  else if 36 ≤ d && d ≤ 39 then ringsAllocated s (d % 2)
  else false

/-- The die of an input slot or grain that a deck entry reads. -/
def sourceDie (a : Nat) (w : Word) : Nat := if isFineAddr a then deckDie a else entrySrc a w % 0x4000 / 5120

/-- Traffic passes through a domain (Table 16-4). -/
def domCarries (s : State) (d : Nat) : Bool :=
  if d < 16 then
    (liveStreams s).any (fun p => inCluster d p.1) || (livePorts s).any (fun p => inCluster d p.1)
  else if d < 32 then regionUsed s d || (d ≥ 28 && (livePorts s).any fun p => regionOf p.1 == d - 28)
  else if d = 32 || d = 33 then
    (liveStreams s).any (fun p => dieOf p.1 == d - 32) || (livePorts s).any (fun p => dieOf p.1 == d - 32) ||
      (List.range 1024).any (fun q => cqOn s ((d - 32) * 1024 + q))
  else if d = 34 || d = 35 then
    s.deck.any fun e => bit e.2 35 && isMainAddr (e.1 % 2 ^ 18) &&
      sourceDie (e.1 % 2 ^ 18) e.2 != deckDie (e.1 % 2 ^ 18) && (deckDie (e.1 % 2 ^ 18) == d - 34 || sourceDie (e.1 % 2 ^ 18) e.2 == d - 34)
  else if d < 40 then ringsAllocated s (d % 2)
  else false

/-- What refuses a request for a domain (Table 16-4); 0 where nothing does. A dependant counts at the state it is to take
(R520). -/
def reqStatus (s : State) (d st : Nat) : Nat :=
  if !lowerable d || st > 3 then St.cfgRange
  else if st = 3 && domHolds s d then St.portInUse
  else if s.mode = .active && st > 0 && domCarries s d then St.portInUse
  else if (dependants d).any fun c => decide (ownTarget (unhold (fun k => k == d) s) c < st) then St.portInUse
  else 0

/-- A request for a domain (R525): REQ is written, and applied in the modes that apply it. -/
def applyReq (d st : Nat) (s : State) : Applied :=
  match reqStatus s d st with
  | 0 =>
    let s := cwPut (ctlAddr clsPwr d 0) 35 33 st s
    .ok (if reqMode s.mode then retarget 1 (fun c => c == d) s else s)
  | e => .error e

/-- PWR_DOM_REQ (R525): a write to PWR_DOM.REQ. -/
def execPwrDomReq (d : Fin 56) (w : CtlWrite) (s : State) : Result :=
  .next (settle w.origin .word (ctlAddr clsPwr d.val 0) s (applyReq d.val (fld w.value 35 33) s))

/-- On entry to ACTIVE, which lifts what faults hold, every REQ below L0 is checked again; one that fails goes back to L0
(R526). -/
def recheckReqs (s : State) : State :=
  (coreDomains ++ [51]).foldl (fun s d =>
    if domReq s d > 0 && reqStatus s d (domReq s d) ≠ 0 then
      pwrEvt d (domReq s d) 0 4 (cwPut (ctlAddr clsPwr d 0) 35 33 0 s)
    else s) (unhold (fun _ => true) s)

/-- RAISED (Table 16-8). -/
def domRaised (s : State) (d : Nat) : Bool :=
  (domGet s d).burst || (s.mode == .takeover && lowerable d && decide (domReq s d > 0))

end Sys2Proof.Machine
end

