-- ==== Sys2Proof/Machine/Modes.lean ====
section
/-! DEFINITION. Operating modes, the interlock, takeover, voltage loops, faults, DORMANT, self-test (spec 12 R384 to R397,
R419 to R427, 13 R450, R451, R458, 16 R525 to R543). -/

namespace Sys2Proof.Machine

def modeCode : Mode → Nat
  | .sealed => 0
  | .boot => 1
  | .provision => 2
  | .active => 3
  | .standby => 4
  | .takeover => 5
  | .test => 6
  | .quarantine => 7

/-! ### Sessions end (R450, R451) -/

def sessGet (s : State) (q : Nat) : Session := tabGet {} s.sess q
def sessPut (q : Nat) (k : Session) (s : State) : State := s.putSess (tabSet {} s.sess q k)
def ringCmd (s : State) (q : Nat) : CmdRing := tabGet {} s.rings q
def ringCmdPut (q : Nat) (k : CmdRing) (s : State) : State := s.putRings (tabSet {} s.rings q k)

/-- Stop the batch under way: nothing of it is applied, and it gets no completion. -/
def stopBatch (s : State) : State :=
  let E := engGet s 64
  let s := if E.running = .batch || E.running = .waits then
      engPut 64 { E with running := .idle, bundle := {}, loops := [], calls := [], landing := [], item := none } s
    else s
  (s |>.putBatch none |>.putSuspended none |>.putLong none)

/-- A session ends: its entries not run are discarded, its running batch is stopped; on a reset or QUARANTINE completed
batches get no completion and none of their effects is applied. -/
def endSession (hard : Bool) (q : Nat) (s : State) : State :=
  let s := match s.batch with | some b => if b.batch.ring = q then stopBatch s else s | none => s
  let s := ringCmdPut q { ringCmd s q with fetched := [], waiting := [] } s
  let s := if hard then s.putBatchesDone (s.batchesDone.filter fun b => decide (b.batch.ring ≠ q)) else s
  sessPut q {} s

/-- Every session ends. -/
def endSessions (hard : Bool) (s : State) : State := [0, 1, 2, 3].foldl (fun s q => endSession hard q s) s

/-! ### Starter age and readiness (Table 12-3, R395) -/

/-- STARTER_AGE in ms. -/
def starterAge (s : State) : Nat :=
  if s.ilk = .holding then 0
  else if !s.bank.valid then 0xFFF
  else if s.bank.fromNvm then 0xFFE
  else min 0xFFE ((tickCount s - ticksOf s.bank.tick s.bank.wrap) / 8)

/-! ### Mode changes (R527 to R531) -/

/-- Every FORCE word cleared (R132). -/
def clearForces (s : State) : State := s.putOh (s.oh.filter fun e => decide (e.1 / 64 % 64 ≠ 0x3F))

/-- Test functions stopped (R84, R132, R234). -/
def clearTests (s : State) : State := clearForces (clearDeckTests (clearLaneTests s))

/-- Episode counters cleared (R381). -/
def clearEpisode (s : State) : State :=
  (List.range 56).foldl (fun s n => if cenStanding n then s else cwSet (ctlAddr clsCen 0 n) 0 s) s

/-- A self-test burst under way ends without a result; a takeover counts it (R420). -/
def dropBurst (aborted : Bool) (s : State) : State :=
  match s.test.burst with
  | none => s
  | some _ =>
    let s := (s.doms.map (·.1)).foldl (fun s d => domPut d { domGet s d with burst := false } s) s
    let s := s.putTest { s.test with burst := none, aborted := aborted, returns := [] }
    if aborted then cenInc 13 s else s

/-- Word 1 of a MODE_EVT record (Table 16-10). -/
def modeEvtWord (s : State) (old new cause : Nat) : Word :=
  mkWord [(33, old), (30, new), (26, cause), (22, s.sec.qcause), (21, b2n s.rdn.provisional)]

/-- The package changes its mode, with what every change brings (R528, R531, R524, R526): its record, INT_PEND bit 20,
governing states, the checks of the entry to ACTIVE. -/
def setMode (new : Mode) (cause : Nat) (s : State) : State :=
  if s.mode = new then s
  else
    let old := s.mode
    let clear := runningMode new && !runningMode old && cwFld s (ctlAddr clsCen 0 0x84) 34 34 == 1
    let s := if clear then clearEpisode s else s
    let s := (s.putMode new).putModeCause cause
    let s := if new = .boot then cenInc 0 s else if new = .takeover then cenInc 8 s else s
    let s := if old = .standby then dropBurst (new == .takeover) s else s
    let s := if new = .standby then s.putTest { failed := s.test.failed } else s
    let w := modeEvtWord s (modeCode old) (modeCode new) cause
    let s := if new = .quarantine then record (pwrHq s) 0x23 srcHardware [w, s.tick] s
      else dueRecord (pwrHq s) 0x23 [w, s.tick] s
    let s := intSet 20 s
    let s := if new = .takeover || (new = .standby && old ≠ .takeover && old ≠ .active) then clearTests s else s
    let s := if new = .active then recheckReqs s else s
    retarget (if new = .takeover then 3 else 2) (fun _ => true) s

/-! ### Interlock (R386 to R390) -/

/-- HOLDING has ended: RELEASE is recorded; the mode follows at the next T0 (R392, R427). -/
def leaveHolding (detail : Nat) (s : State) : State :=
  mateEvt 7 detail 0 (s.putRdn { s.rdn with
    leaving := s.mode == .takeover || s.mode == .active, sweepTx := none })

/-- To RELEASED (R389). -/
def releaseIlk (detail : Nat) (s : State) : State :=
  let was := s.ilk
  let s := s.putIlk .released
  if was = .holding then leaveHolding detail s else s

/-- To HOLDING; from STANDBY and PROVISION the package enters TAKEOVER (R390, R423, R424). -/
def holdIlk (s : State) : State :=
  let age := starterAge s
  let old := s.bank.valid && decide (age > maxAge s)
  let s := (s.putIlk .holding).putRdn { s.rdn with leaving := false }
  if s.mode = .standby || s.mode = .provision then
    let s := s.putRdn { s.rdn with
      since := tickCount s, late := old || !s.bank.valid, take := s.mode == .standby && s.bank.valid, applied := false,
      sweepRx := none }
    let s := setMode .takeover 5 (mateEvt 5 0 0 s)
    if old && s.rdn.take then cenInc 15 s else s
  else s

/-- Modes in which an accepted grant takes the interlock (R390). -/
def grantMode (m : Mode) : Bool := m == .provision || m == .standby || m == .active || m == .takeover

/-- GRANT_IN is accepted asserted (R386, R387, R390). -/
def acceptGrant (s : State) : State :=
  if !grantMode s.mode || s.ilk ≠ .released then s
  else if s.straps.seat = 0 then holdIlk s
  else if s.rdn.mateIlk then s.putIlk .blocked
  else s.putIlk .arming

/-- Enter a mode with what the entry itself causes (R390, R416, R427, R530, R531). -/
def enterMode (new : Mode) (cause : Nat) (s : State) : State :=
  let changed := s.mode != new
  let s := setMode new cause s
  if !changed then s
  else
    let s := if new = .test then releaseIlk 0 s else s
    let s := if new = .standby then resync 5 s else s
    if (new = .provision || new = .standby) && s.rdn.grant then acceptGrant s else s

/-- QUARANTINE (R389, R450, R458): the record first, then the interlock, the sessions, the pantry and the link; a tamper
trip clears the key slots too. -/
def quarantine (qcause cause : Nat) (trip : Bool) (s : State) : State :=
  if s.mode = .quarantine then s
  else
    let s := setMode .quarantine cause (s.putSec { s.sec with qcause := qcause })
    let s := endSessions true (releaseIlk 1 s)
    let s := s
        |>.putBank {} |>.putSpare {} |>.putSec { s.sec with sealed := none, slots := if trip then 0 else s.sec.slots }
    linkLeave .down 0 s

/-- Internal reset is released and the package runs. -/
def powered (s : State) : Bool := s.phase == .released || s.phase == .running

/-- GRANT_IN_CHANGE (R385): a level held for 1.9 µs. -/
def execGrantInChange (level : Bool) (s : State) : Result :=
  .next (if !powered s || s.rdn.grant = level then s
    else
      let s := cenInc 9 (s.putRdn { s.rdn with grant := level })
      if level then acceptGrant s else releaseIlk 0 s)

/-- GRANT_PULSE_REJECT (R385). -/
def execGrantPulseReject (s : State) : Result := .next (if powered s then cenInc 10 s else s)

/-- Seat 1 gives way (R387). -/
def giveWay (s : State) : State := leaveHolding 2 (s.putIlk .blocked)

/-- ILK_IN_CHANGE (R385, R387): a level of ILK_IN_L accepted. -/
def execIlkInChange (asserted : Bool) (s : State) : Result :=
  .next (if !powered s || s.rdn.mateIlk = asserted then s
    else
      let s := s.putRdn { s.rdn with mateIlk := asserted }
      if asserted && s.ilk = .holding && s.straps.seat = 1 then giveWay s else s)

/-- ILK_RESAMPLE (R387): 4 µs after ARMING. -/
def execIlkResample (s : State) : Result :=
  .next (if s.ilk = .arming then (if s.rdn.mateIlk then cenInc 11 (s.putIlk .blocked) else holdIlk s) else s)

/-- ILK_BLOCKED_RETRY (R387). -/
def execIlkBlockedRetry (s : State) : Result :=
  .next (if s.ilk = .blocked && s.rdn.grant && !s.rdn.mateIlk then s.putIlk .arming else s)

/-- Causes of ROLE_CONFLICT, (a) at bit 3 to (d) at bit 0 (R392); (a) is seen at the land. -/
def conflictCauses (mismatch : Bool) (s : State) : Nat :=
  8 * b2n mismatch + 4 * b2n (s.ilk == .holding && s.rdn.mateIlk) + 2 * b2n (s.ilk == .blocked && s.rdn.grant) +
    b2n ((s.mode == .active || s.mode == .takeover) && s.ilk != .holding && !s.rdn.leaving)

/-- ROLE_CONFLICT_DECLARE (R392): a cause has held for 10 µs. -/
def execRoleConflictDeclare (mismatch : Bool) (s : State) : Result :=
  .next (if conflictCauses mismatch s = 0 || s.rdn.conflict then s
    else intSet 21 (cenInc 12 (mateEvt 8 (conflictCauses mismatch s) 0 (s.putRdn { s.rdn with conflict := true }))))

/-- ROLE_CONFLICT_CLEAR (R392): no cause has held for 1 ms. -/
def execRoleConflictClear (s : State) : Result :=
  .next (if s.rdn.conflict && conflictCauses false s = 0 then mateEvt 9 0 0 (s.putRdn { s.rdn with conflict := false })
    else s)

/-- The package drives its line transmitters (R388). -/
def drivesLine (s : State) : Bool :=
  s.rdn.grant && s.ilk == .holding && !s.rdn.mateIlk && s.mode != .quarantine && !s.rdn.conflict

/-! ### Takeover (R423 to R427) -/

/-- STARTER_APPLY (R423, R270, R297): the frozen starter, where one is to be applied; then every pair is held and the rings
are allocated. -/
def execStarterApply (s : State) : Result :=
  .next (if s.mode = .takeover && s.ilk = .holding && !s.rdn.applied then
      let s := if s.rdn.take then applyStarter s.bank s else s
      ((allotRings (holdPairs s)).putRdn { s.rdn with applied := true })
    else s)

/-- Every enabled lane is READY and every enabled stream in frame. -/
def trafficUp (s : State) : Bool :=
  [0, 1].all (fun side => (List.range 64).all fun l =>
    !bit (laneCfg s side l) 35 || (laneGet s (laneKey side l)).st == .ready) &&
    (liveStreams s).all fun p => !(framerGet s (streamKey p.1 p.2)).oof

/-- TAKEOVER_ACTIVE (R423, R424): at the first T0 with the traffic up, or at G + 20 ms. -/
def execTakeoverActive (timeout : Bool) (s : State) : Result :=
  .next (if s.mode = .takeover && s.ilk = .holding && s.rdn.applied && (timeout || trafficUp s) then
      let late := s.rdn.late
      let s := s.putRdn { s.rdn with provisional := s.rdn.provisional || late }
      let s := if late then intSet 22 s else s
      setMode .active 6 (mateEvt 6 (b2n s.rdn.provisional) 0 s)
    else s)

/-- RELEASE_TO_STANDBY (R427): at the first T0 after the release; the package's own starter, as sealed last, is its current
one. -/
def execReleaseToStandby (s : State) : Result :=
  .next (if s.rdn.leaving && s.ilk ≠ .holding && (s.mode = .takeover || s.mode = .active) then
      enterMode .standby 7 (s.putRdn { s.rdn with leaving := false })
    else s)

/-! ### Mode requests, reset, DORMANT (R528, R529, R535) -/

/-- What refuses a mode request. -/
def modeReqStatus (s : State) (code : Nat) : Nat :=
  if code ≠ 2 && code ≠ 4 && code ≠ 6 then St.cfgRange
  else if (s.mode ≠ .provision && s.mode ≠ .standby && s.mode ≠ .test) || s.sec.unlocked then St.modeState
  else 0

/-- Modes that can be requested. -/
def reqModeOf (code : Nat) : Mode := if code = 2 then .provision else if code = 4 then .standby else .test

/-- What refuses a DORMANT request (Table 16-4). -/
def dormantStatus (s : State) : Nat := if s.mode = .provision || s.mode = .standby then 0 else St.modeState

/-- DORMANT is entered (R535, R537): its record, the sessions, the interlock, the link, every domain toward L4. -/
def enterDormant (s : State) : State :=
  let s := record (pwrHq s) 0x22 srcHardware
    [mkWord [(30, 63), (27, pkgLadder s), (24, 4), (20, 7)], s.tick] s
  let s := linkLeave .down 0 (releaseIlk 0 (endSessions false s))
  let s := (List.range 56).foldl (fun s d => moveDomain d 4 8 s) s
  (s.putPhase .dormant)

/-- Apply a write to PWR_PKG_CTRL (Table 16-9): refused whole where a part of it is refused; DORMANT is judged in the mode
that the write gives. -/
def applyPkgCtrl (v : Word) (s : State) : Applied :=
  let st := if bit v 32 then modeReqStatus s (fld v 35 33) else 0
  if st ≠ 0 then .error st
  else
    let deep := deepStandby s
    let s := cwSet pkgCtrlAddr (v &&& 0x0F0000000) s
    let s := if deepStandby s != deep && s.mode = .standby then retarget 2 (fun _ => false) s else s
    let s := if bit v 27 then s.putResetDue true else s
    let s := if bit v 32 then enterMode (reqModeOf (fld v 35 33)) 8 s else s
    if !bit v 26 then .ok s
    else if dormantStatus s ≠ 0 then .error (dormantStatus s)
    else .ok (enterDormant s)

/-- A write to PWR_PKG_CTRL lands. -/
def pkgWrite (w : CtlWrite) (v : Word) (s : State) : Result := .next (settle w.origin .word pkgCtrlAddr s (applyPkgCtrl v s))
/-- A value with a mode requested. -/
def withModeReq (v : Word) (code : Nat) : Word := putFld (putFld v 35 33 code) 32 32 1

/-- MODE_REQ_PROVISION (R529). -/
def execModeReqProvision (w : CtlWrite) (s : State) : Result := pkgWrite w (withModeReq w.value 2) s
/-- MODE_REQ_STANDBY (R529, R531). -/
def execModeReqStandby (w : CtlWrite) (s : State) : Result := pkgWrite w (withModeReq w.value 4) s
/-- MODE_REQ_TEST (R529, R531). -/
def execModeReqTest (w : CtlWrite) (s : State) : Result := pkgWrite w (withModeReq w.value 6) s
/-- PKG_RESET_REQ: a write with RESET set. -/
def execPkgResetReq (w : CtlWrite) (s : State) : Result := pkgWrite w (putFld w.value 27 27 1) s
/-- DORMANT_ENTRY (R535): a write with DORMANT set. -/
def execDormantEntry (w : CtlWrite) (s : State) : Result := pkgWrite w (putFld w.value 26 26 1) s

/-- A value of the DRBG of 256 bits: free. -/
def freeNonce (s : State) : BitVec 256 :=
  (List.range 8).foldl (fun (v : BitVec 256) i => (v <<< 36) ||| (Config.freeWord (s.freeUses + i)).setWidth 256) 0

/-- Census words, which a reset without a loss of power keeps (R382). -/
def censusWord (a : Nat) : Bool := ctlClass a == clsCen && (decide (ctlIdx a ≤ 0x7F) || ctlIdx a == 0x84)

/-- Volatile state ends; the NVM stands, a STORE under way is cut (R463). With power kept, the census counts, the record of
stores and the intervals between them stay. -/
def wipe (ph : Phase) (kept : Bool) (s : State) : State :=
  let n := { s.nvm with
    result := if s.nvm.busy.isSome then 4 else s.nvm.result, busy := none,
    stores := if kept then s.nvm.stores else 0,
    lastAt := if kept then (s.nvm.lastAt.map fun e => (e.1, e.2 - tickCount s)).filter fun e => decide (e.2 ≠ 0) else [] }
  { pending := s.pending, freeUses := s.freeUses + 8, out := s.out, phase := ph, straps := s.straps, nvm := n, perst := s.perst,
    claimed := kept && s.claimed,
    cw := if kept then s.cw.filter fun e => censusWord e.1 else [],
    sec := { nonce := freeNonce s }, jtag := { ir := s.jtag.ir, bsr := s.jtag.bsr, upd := s.jtag.upd } }

/-- DOMAIN_TRANSITION_DONE (R521, R535): with the last domain at L4 the entry to DORMANT is complete. -/
def execDomainTransitionDone (d : Fin 56) (s : State) : Result :=
  let s := landDomain d.val s
  .next (if s.phase = .dormant && (List.range 56).all fun d => (domGet s d).st == 4 then
      (wipe .dormant false s).putDoms ((List.range 56).foldl (fun t d => tabSet (domReset d) t d { st := 4, goal := 4 }) [])
    else s)

/-- DORMANT_WAKE (R535, R536): GRANT_IN or the reset land held for 1.9 µs; an entry in progress is completed first. -/
def execDormantWake (grant : Bool) (s : State) : Result :=
  .next (if s.phase = .dormant then
      let s := wipe .inReset false s
      (s.putRdn { s.rdn with grant := grant })
    else s)

/-! ### Voltage loops (R541 to R543) -/

def vloopAddr (r w : Nat) : Nat := ctlAddr clsPwr 63 (0x10 + 2 * r + w)
def vloopGet (s : State) (r : Nat) : Vloop := tabGet {} s.vloops r
def vloopPut (r : Nat) (k : Vloop) (s : State) : State := s.putVloops (tabSet {} s.vloops r k)

/-- The target of a region's loop, mV (R542). -/
def vloopTarget (s : State) (r : Nat) : Nat :=
  let w := cwGet s (vloopAddr r 0)
  let f := (vloopGet s r).floor
  let margin := match fld w 15 11 with | 0 => 10 | n => n
  max 600 (min 850 (max f (min (fld w 25 16) (max (fld w 35 26) (f + margin)))))

/-- OVERRIDDEN follows VMAX and FLOOR; each setting is counted, and recorded at most once per second (R543). -/
def vloopOver (r : Nat) (s : State) : State :=
  let k := vloopGet s r
  let beyond := decide (cwFld s (vloopAddr r 0) 25 16 < k.floor)
  let s := vloopPut r { k with overridden := beyond } s
  if beyond && !k.overridden then
    let s := cenInc 50 s
    if tickCount s ≥ k.quiet then
      dueRecord (pwrHq s) 0x24 [mkWord [(32, 1), (26, r), (16, k.floor)], s.tick]
        (vloopPut r { vloopGet s r with quiet := tickCount s + ticksPerSecond } s)
    else s
  else s

/-- Apply a write to VLOOP_CTRL. -/
def applyVloop (r : Nat) (v : Word) (s : State) : Applied :=
  let lo := fld v 35 26
  let hi := fld v 25 16
  if lo > hi || lo < 600 || hi > 850 then .error St.thrRange
  else .ok (vloopOver r (cwSet (vloopAddr r 0) (v &&& 0xFFFFFF800) s))

/-- VLOOP_CTRL (R543). -/
def execVloopCtrl (r : RegionId) (w : CtlWrite) (s : State) : Result :=
  .next (settle w.origin .word (vloopAddr r.val 0) s (applyVloop r.val w.value s))

/-- VLOOP_STEP (R542): a reading of the monitors, the lowest rail at which every one passes and the rise with age in mV,
and one step of 1 mV toward the target. -/
def execVloopStep (r : RegionId) (pass : Fin 1004) (aging : Fin 256) (s : State) : Result :=
  .next (if railOn s r.val then
      let s := vloopOver r.val (vloopPut r.val { vloopGet s r.val with floor := pass.val + 20, aging := aging.val } s)
      let k := vloopGet s r.val
      let t := vloopTarget s r.val
      vloopPut r.val { k with vout := if k.vout < t then k.vout + 1 else if k.vout > t then k.vout - 1 else k.vout } s
    else s)

/-- PLACE_CTRL (R544). -/
def execPlaceCtrl (w : CtlWrite) (s : State) : Result :=
  .next (settle w.origin .word (ctlAddr clsPwr 63 0x20) s (.ok (cwSet (ctlAddr clsPwr 63 0x20) (w.value &&& 0xFFFFFFFF0) s)))

/-! ### Faults (R538 to R540, R458) -/

/-- CPM_FAIL_QUARANTINE (R540): a monitor has failed for 1 ms with the rail at 0.85 V. -/
def execCpmFailQuarantine (r : RegionId) (s : State) : Result :=
  .next (if railOn s r.val && (vloopGet s r.val).vout = 850 then quarantine 1 9 false s else s)

/-- The domains that a converter fault takes down with its own. -/
def faultSet (d : Nat) : List Nat :=
  if d = 52 || d = 53 then coreDomains.filter fun c => dieOfDomain c == d - 52 else dependants d

/-- REGULATOR_FAULT (R538). -/
def execRegulatorFault (d : Fin 56) (s : State) : Result :=
  let e := d.val
  let s := cenInc 49 (pwrEvt e (domGet s e).st 3 5 s)
  let s := if (42 ≤ e && e ≠ 49 && e ≠ 51 && e ≠ 52 && e ≠ 53) then quarantine 1 9 false s else s
  .next (moveDomain e 3 5 (domPut e { domGet s e with fault := true, held := true } ((faultSet e).foldl (fun s c => moveDomain c 3 5 s) s)))

/-- TEMP_ALARM (R539): the junction has reached 110 °C, for the first time since it was below 105 °C. -/
def execTempAlarm (s : State) : Result :=
  .next (if s.hot then s
    else intSet 23 (cenInc 51 (pwrEvt 63 (pkgLadder s) (pkgLadder s) 6 (s.putHot true))))

/-- QCAUSE and census counter of a monitor (Table 13-8). -/
def tamperCodes : Tamper → Nat × Nat
  | .voltage => (1, 36)
  | .clock => (2, 37)
  | .temperature => (3, 38)
  | .glitch => (4, 39)
  | .entropy => (5, 39)

/-- TAMPER_TRIP (R458). -/
def execTamperTrip (m : Tamper) (s : State) : Result :=
  .next (if s.phase = .off then s else quarantine (tamperCodes m).1 9 true (cenInc (tamperCodes m).2 s))

/-! ### Self-test (R419 to R422, R575) -/

/-- Domains of an element with the supports they raise (Table 12-9). -/
def elementDomains (e : Nat) : List Nat :=
  if e < 16 then [e, 28 + e / 4]
  else if e < 20 then [e, 8 + e, 12 + e]
  else if e < 24 then [e, 4 + e, 8 + e]
  else if e < 26 then [8 + e, 10 + e]
  else if e < 28 then [10 + e, 12 + e]
  else if e = 28 then [28, 29, 30, 31]
  else []

/-- The rotation runs: STANDBY at L2 REST with TEST_EN. -/
def rotates (s : State) : Bool := s.mode == .standby && bit (mateCtrl s) 30 && pkgLadder s == 2

/-- SELFTEST_BURST_START (R419): once a second of the bin clock. -/
def execSelftestBurstStart (s : State) : Result :=
  .next (if rotates s && s.test.burst.isNone && s.binQ % 8000 = 0 then
      let e := s.test.secs % 30
      let ds := elementDomains e
      let s := s.putTest { s.test with
        burst := some e, aborted := false, passed := if e = 0 then 0 else s.test.passed,
        returns := ds.foldl (fun t d => tabSet 0 t d (domGet s d).st) [] }
      let s := ds.foldl (fun s d => moveDomain d 0 8 (domPut d { domGet s d with burst := true } s)) s
      [52, 53].foldl (fun s d => moveDomain d (regTarget s d) 8 s) s
    else s)

/-- The family that the current starter gives a quad: that of its first enabled lane. -/
def starterFamily (s : State) (side q : Nat) : Option Nat :=
  ((List.range 4).filterMap fun i =>
    let w := tabGet (starterReset (laneAddr side (4 * q + i) 0)) s.bank.cw (laneAddr side (4 * q + i) 0)
    if bit w 35 then some (rateFamily (laneRate w)) else none).head?

/-- Every VCO bank calibrated to the family of the current starter (R575). -/
def calibrateBanks (s : State) : State :=
  [0, 1].foldl (fun s side => (List.range 16).foldl (fun s q =>
    match starterFamily s side q with
    | some f => quadPut side q { family := f, calibrating := false } s
    | none => s) s) s

/-- SELFTEST_BURST_END (R419, R421): the element's result, and its domains return. -/
def execSelftestBurstEnd (pass : Bool) (s : State) : Result :=
  .next (match s.test.burst with
    | none => s
    | some e =>
      let t := s.test
      let s := s.putTest { t with
        burst := none, passed := if pass then maskSet t.passed e true else t.passed, failed := maskSet t.failed e (!pass) }
      let s := if pass then s else
        (if t.failed = 0 then intSet 25 else id) (mateEvt 0x0A (e % 16) e s)
      let s := if e = 28 then calibrateBanks s else s
      let s := (elementDomains e).foldl (fun s d => domPut d { domGet s d with burst := false } s) s
      let s := (elementDomains e).foldl (fun s d => moveDomain d (domTarget s d) 8 s) s
      (s.putTest { s.test with returns := [] }))

/-- TEST_ST (Table 12-3). -/
def testSt (s : State) : Nat :=
  if s.test.burst.isSome then 1 else if s.test.aborted then 2 else if rotates s then 0 else 3

/-- FIRST_FAIL. -/
def firstFail (s : State) : Nat := (((List.range 30).find? fun e => s.test.failed.testBit e)).getD 0x1F

/-- READY (R395). -/
def ready (s : State) : Bool :=
  if s.ilk = .holding then s.mode == .active
  else s.mode == .standby && linkUp s && s.bank.valid && decide (starterAge s ≤ maxAge s) && s.test.failed == 0 &&
    !s.rdn.conflict && !s.link.clash

/-- A temperature as a field: °C + 40, held between 0 and FFh. -/
def tempField (t : Int) : Nat := (max 0 (min 255 (t + 40))).toNat
/-- Highest junction. -/
def tjMax (m : Meas) : Int := max m.tj0 (max m.tj1 m.tjHub)

/-- The health word below its CRC (Table 12-3). -/
def healthBody (s : State) : Nat :=
  tempField (tjMax s.meas) * 2 ^ 56 + firstFail s * 2 ^ 51 + b2n (decide (s.test.failed ≠ 0)) * 2 ^ 50 +
    onesBelow s.test.passed 30 * 2 ^ 45 + testSt s * 2 ^ 43 + starterAge s * 2 ^ 31 + s.tick.toNat % 65536 * 2 ^ 15 +
    pkgLadder s * 2 ^ 12 + modeCode s.mode * 2 ^ 9 + s.straps.seat.val * 2 ^ 8 + b2n s.rdn.grant * 128 +
    b2n (s.ilk == .arming || s.ilk == .holding) * 64 + b2n s.rdn.mateIlk * 32 + b2n (linkUp s) * 16 + b2n (ready s) * 8 +
    b2n (bit (mateCtrl s) 32) * 4 + b2n s.rdn.provisional * 2 + b2n s.rdn.conflict

/-- The health word: CRC8 over bytes 0 to 7 (R394). -/
def healthWord (s : State) : BitVec 72 :=
  let b := healthBody s
  let crc := checkOf 3 ((List.range 8).map fun i => b / 2 ^ (8 * i) % 256)
  BitVec.ofNat 72 (crc * 2 ^ 64 + b)

/-- HEALTH_WORD_TX (R393, R397): the word of the T0 passed, to the land and to the mate. -/
def execHealthWordTx (s : State) : Result :=
  .next (if powered s then
      let s := emit (.health s.rdn.next) (s.putRdn { s.rdn with own := s.rdn.next })
      if linkOn s then mateAppend (.status s.rdn.own) s else s
    else s)

end Sys2Proof.Machine
end

