-- ==== Sys2Proof/Machine/Loader.lean ====
section
/-! DEFINITION. Loaves and proven bounds: the manifest (spec 09 R326 to R328), the loader's checks (R329 to R331), the
bound of each unit and of the package (R322 to R324), batches as checked on submission (R333, 14 R477). -/

namespace Sys2Proof.Machine

/-! ### Hub scratch (R6, R434) -/

/-- Lines of hub scratch from a line on. -/
def scratchLines (s : State) (at_ n : Nat) : List (BitVec 288) := (List.range n).map fun i => tabGet 0 s.scratch (at_ + i)

/-- Write lines of hub scratch from a line on. -/
def scratchPut (at_ : Nat) (ls : List (BitVec 288)) (s : State) : State :=
  s.putScratch ((List.range ls.length).foldl (fun t i => tabSet 0 t (at_ + i) (ls.getD i 0)) s.scratch)

/-- Batches use hub scratch lines 32,768 to 163,839 (R476). -/
def inWindow (at_ n : Nat) : Bool := 32768 ≤ at_ && at_ + n ≤ 163840

/-- A range of scratch lines does not leave the window; an empty one leaves nothing. -/
def rangeOk (at_ n : Nat) : Bool := n = 0 || inWindow at_ n

/-- Word k of lines, eight words to a line. -/
def lineWord (ls : List (BitVec 288)) (k : Nat) : Word := BitVec.ofNat 36 ((ls.getD (k / 8) 0).toNat >>> (36 * (k % 8)))

/-- Host byte k of lines, 36 bytes to a line. -/
def lineByte (ls : List (BitVec 288)) (k : Nat) : Nat := bitsOf (ls.getD (k / 36) 0).toNat (8 * (k % 36) + 7) (8 * (k % 36))

/-- n host bytes from byte k on. -/
def lineBytes (ls : List (BitVec 288)) (k n : Nat) : List Nat := (List.range n).map fun i => lineByte ls (k + i)

/-- A little-endian number of n host bytes. -/
def lineNat (ls : List (BitVec 288)) (k n : Nat) : Nat := (lineBytes ls k n).foldr (fun b v => b + 256 * v) 0

/-- Host bytes packed into lines, the last one filled with zeros. -/
def linesOf (n : Nat) (bytes : List Nat) : List (BitVec 288) :=
  (List.range n).map fun l =>
    BitVec.ofNat 288 ((List.range 36).foldl (fun v i => v + bytes.getD (36 * l + i) 0 % 256 * 2 ^ (8 * i)) 0)

/-! ### The manifest (Tables 9-13, 9-14) -/

/-- Descriptor word d of image i. -/
def descWord (ls : List (BitVec 288)) (i d : Nat) : Word := lineWord ls (32 + 24 * i + d)

def descLen (ls : List (BitVec 288)) (i : Nat) : Nat := fld (descWord ls i 0) 35 22
def descOffset (ls : List (BitVec 288)) (i : Nat) : Nat := fld (descWord ls i 0) 21 6
def descLoops (ls : List (BitVec 288)) (i : Nat) : Nat := fld (descWord ls i 4) 3 0

/-- The bundles of image i, four to a line. -/
def descBundles (ls : List (BitVec 288)) (i : Nat) : List Nat :=
  (List.range (descLen ls i)).map fun j =>
    let line := (ls.getD (descOffset ls i + j / 4) 0).toNat
    bitsOf line (72 * (j % 4) + 71) (72 * (j % 4))

/-- Figures that a descriptor declares. -/
def descFigures (ls : List (BitVec 288)) (i : Nat) : Figures :=
  { f := fld (descWord ls i 4) 35 18, fs := fld (descWord ls i 4) 17 9, ft := fld (descWord ls i 5) 35 14,
    loops := (List.range (descLoops ls i)).map fun l =>
      let a := descWord ls i (6 + 2 * l)
      let b := descWord ls i (7 + 2 * l)
      { mask := fld a 35 20, b := fld a 19 4, s := fld b 35 27, t := fld b 26 5 } }

/-- A descriptor is in range and its reserved fields are 0. -/
def descOk (ls : List (BitVec 288)) (lines hub i : Nat) : Bool :=
  let w := descWord ls i
  let n := descLoops ls i
  1 ≤ descLen ls i && descLen ls i ≤ 8192 && descOffset ls i + (descLen ls i + 3) / 4 ≤ lines &&
    fld (w 0) 5 0 == 0 && fld (w 1) 33 0 == 0 && (bit (w 1) 35 == (i == hub)) && fld (w 2) 35 21 == 0 &&
    fld (w 3) 35 21 == 0 && fld (w 4) 8 4 == 0 && n ≤ 8 && fld (w 5) 13 0 == 0 &&
    ((List.range 8).all fun l =>
      if l < n then fld (w (6 + 2 * l)) 3 0 == 0 && fld (w (7 + 2 * l)) 4 0 == 0
      else w (6 + 2 * l) == 0 && w (7 + 2 * l) == 0) && w 22 == 0 && w 23 == 0

/-- UNIT_MAP of a unit: EN and the image. -/
def unitEntry (ls : List (BitVec 288)) (u : Nat) : Nat := laneOf (lineWord ls (4 + u / 4)) (u % 4)

/-- The manifest header and the descriptors are in range, reserved fields 0, images within LINES (Table 9-15). -/
def manifestOk (ls : List (BitVec 288)) : Bool :=
  let w := lineWord ls
  let nimg := fld (w 0) 7 0
  let lines := fld (w 2) 35 20
  let hub := fld (w 2) 19 15
  fld (w 0) 35 24 == 0xA5C && fld (w 0) 23 16 == 1 && 1 ≤ nimg && nimg ≤ 24 && (hub == 0x1F || hub < nimg) &&
    fld (w 2) 14 0 == 0 && w 3 == 0 && ((List.range 12).all fun k => w (20 + k) == 0) &&
    ((List.range 64).all fun u =>
      let e := unitEntry ls u
      e < 256 || (e - 256 < nimg && e - 256 != hub)) &&
    (List.range nimg).all (descOk ls lines hub)

/-- The loaf that lines carry. -/
def parseLoaf (digest : Nat) (ls : List (BitVec 288)) : Loaf :=
  let hub := fld (lineWord ls 2) 19 15
  { version := lineWord ls 1,
    images := (List.range (fld (lineWord ls 0) 7 0)).map fun i =>
      let g := descFigures ls i
      { hub := bit (descWord ls i 1) 35, selfProfile := bit (descWord ls i 1) 34, grantR := fld (descWord ls i 2) 20 0,
        grantW := fld (descWord ls i 3) 20 0, f := g.f, fs := g.fs, ft := g.ft, loops := g.loops, bundles := descBundles ls i },
    unitMap := (List.range 64).map fun u => let e := unitEntry ls u; if e < 256 then none else some (e - 256),
    hubImg := if hub = 0x1F then none else some hub, digest := digest, lines := ls.length }

/-! ### Bounds (R322, R323) -/

/-- Contexts that a unit holds and whose KIND is in a mask. -/
def heldIn (s : State) (u mask : Nat) : Nat :=
  (s.ctxAt.filter fun e => decide ((e.2 - 1) / 256 = u) && mask.testBit (ctxKind s e.1)).length

/-- Cycles, staged effects and tier-1 bits of an image at a unit's contexts. -/
def imageBound (s : State) (u : Nat) (im : Image) : Nat × Nat × Nat :=
  im.loops.foldl (fun b l =>
    let n := heldIn s u l.mask
    (b.1 + l.b * n, b.2.1 + l.s * n, b.2.2 + l.t * n)) (im.f, im.fs, im.ft)

/-- The image of an engine in a loaf; 64 is the hub engine. -/
def loafImage (l : Loaf) (e : Nat) : Option Image :=
  match (if e = 64 then l.hubImg else (l.unitMap[e]?).join) with
  | some k => l.images[k]?
  | none => none

/-- The proven bound of an engine under a loaf; 0 where it runs no image (R324). -/
def boundOf (s : State) (l : Option Loaf) (e : Nat) : Nat × Nat × Nat :=
  match l with
  | none => (0, 0, 0)
  | some l =>
    match loafImage l e with
    | some im => if e = 64 then (im.f, im.fs, im.ft) else imageBound s e im
    | none => (0, 0, 0)

/-- Tier-1 bits of all units and the hub image together. -/
def tier1Total (s : State) (l : Option Loaf) : Nat := (List.range 65).foldl (fun n e => n + (boundOf s l e).2.2) 0

/-- Every unit's cycles and the hub image's F within R322 and R324. -/
def cyclesOk (s : State) (l : Option Loaf) : Bool :=
  ((List.range 64).all fun u => (boundOf s l u).1 ≤ 120000) && (boundOf s l 64).1 ≤ 40000

/-- Every staged count within R42 and R324. -/
def stagedOk (s : State) (l : Option Loaf) : Bool := (List.range 65).all fun e => (boundOf s l e).2.1 ≤ 256

/-- The package's tier-1 total within R322. -/
def tier1Ok (s : State) (l : Option Loaf) : Bool := tier1Total s l ≤ 2000000

/-- The loaves that bound a change: the one that runs, one accepted and one that waits for the next T0. -/
def boundLoaves (s : State) : List (Option Loaf) :=
  let next := if s.loafNext.isSome then [s.loafNext] else []
  match s.long with
  | some (.loaf l, _) => s.loaf :: some l :: next
  | _ => s.loaf :: next

/-- The bounds of the unit of a change, and the package's total, stay within their limits (R323). -/
def boundHolds (s : State) (u : Nat) : Bool :=
  (boundLoaves s).all fun l =>
    let b := boundOf s l u
    b.1 ≤ 120000 && b.2.1 ≤ 256 && tier1Ok s l

/-- ENG_STAT and ENG_T1 of an engine (Table 9-16). -/
def engStat (s : State) (e : Nat) : Word :=
  let b := boundOf s s.loaf e
  mkWord [(18, b.1), (9, b.2.1)]

def engT1 (s : State) (e : Nat) : Word := mkWord [(14, (boundOf s s.loaf e).2.2)]

/-! ### The loader's checks (Table 9-15) -/

/-- The programs of a loaf as the loader reads them; none where one breaks R309, R312 or R316 to R324. -/
def loafPrograms (l : Loaf) : Option (List Prog) :=
  l.images.foldr (fun im ps =>
    match ps, readProg (if im.hub then .hubImage else .unit) im.bundles with
    | some ps, .ok p => some (p :: ps)
    | _, _ => none) (some [])

/-- Every declared figure equals the loader's own (R330). -/
def figuresAgree (l : Loaf) (ps : List Prog) : Bool :=
  (l.images.zip ps).all fun e =>
    decide (e.2.figures = { f := e.1.f, fs := e.1.fs, ft := e.1.ft, loops := e.1.loops })

/-- Most lines of a loaf, 2 MiB (R326). -/
def loafMaxLines : Nat := 58254

/-- The status of the loader's checks of lines, in order; 0 where all pass. -/
def loaderStatus (s : State) (ls : List (BitVec 288)) (l : Loaf) : Nat :=
  let lines := fld (lineWord ls 2) 35 20
  if ls.length > loafMaxLines || lines < 76 then St.limitStarter
  else if !manifestOk ls then St.loafForm
  else if fld (lineWord ls 0) 15 8 ≠ 1 then St.loafEpoch
  else match loafPrograms l with
    | none => St.loafForm
    | some ps =>
      if !figuresAgree l ps then St.loafProof
      else if !cyclesOk s (some l) then St.loafBound
      else if !stagedOk s (some l) then St.loafStaged
      else if !tier1Ok s (some l) then St.loafDelta
      else if overgrows s (s.putLoaf (some l)) then St.limitStarter
      else 0

/-! ### Batches as checked (R333, R448, R477) -/

/-- Status and bundle that refuse a batch; 0 where it runs. `guest` is the level of its session. -/
def batchStatus (guest : Bool) (b : BatchBuf) : Nat × Nat :=
  if b.ver ≠ 1 || b.format ≠ 1 || !b.clean || b.bundles.isEmpty || b.bundles.length > 8192 || b.outLen > 16 ||
      !rangeOk b.dataAt b.data.length || !rangeOk b.outAt b.outLen then (St.batchForm, 0)
  else match readProg .batch (b.bundles.map BitVec.toNat) with
    | .error k => (St.batchForm, k)
    | .ok p =>
      let barred := (List.range p.len).filter fun k => guest && (p.bun k).ownerOnly
      match barred with
      | k :: _ => (St.batchForm, k)
      | [] => if p.stagedCount > 4096 then (St.batchSize, 0) else (0, 0)

/-- A batch of the shape that SEALED permits (R443): register set-up, then the one STORE of target OWNER, then HALT.TICK. -/
def claimShape (bs : List Nat) : Bool :=
  let setUp := fun w => w = 0 || bitsOf w 33 28 == 3 || bitsOf w 33 28 == 4 || bitsOf w 33 28 == 5
  let isStore := fun w => bitsOf w 33 28 == 0x30 && w % 65536 == 2
  let isHalt := fun w => bitsOf w 33 28 == 0x25
  match bs.reverse with
  | h :: t :: before =>
    isHalt (h / 2 ^ 36) && setUp (h % 2 ^ 36) && isStore (t / 2 ^ 36) && setUp (t % 2 ^ 36) &&
      before.all fun w => setUp (w / 2 ^ 36) && setUp (w % 2 ^ 36)
  | _ => false

end Sys2Proof.Machine
end

