-- ==== Sys2Proof/Machine/Security.lean ====
section
/-! DEFINITION. Hub-only instructions (spec 09 Table 9-9, 13 R439 to R467, 12 R574, 16 R525): power requests, the NVM, SEAL,
attestation, loaves, slot keys, sessions, messages to the mate. -/

namespace Sys2Proof.Machine

/-! ### Issue of hub-only instructions -/

/-- A hub-only instruction of a batch issues on the hub engine alone. -/
def issueHub (i : IssA) (u : Use) (body : State → State) (s : State) : State :=
  if i.eng.val = 64 && inBatch s 64 then issue (issueOfA i) u body s else s

/-- gD of the hub engine receives a status. -/
def status (gD st : Nat) (s : State) : State := setReg 64 gD (BitVec.ofNat 36 st) s

/-- The batch under way waits at an instruction with a duration. -/
def waitAt (op : LongOp) (gD : Nat) (s : State) : State :=
  engPut 64 { engGet s 64 with running := .waits } (s.putLong (some (op, gD)))

/-- The instruction with a duration ends: gD receives its status and the batch runs on. -/
def endLong (st : Nat) (s : State) : State :=
  match s.long with
  | none => s
  | some (_, gD) =>
    let done := fun (E : Engine) => { E with running := .batch, regs := regWrite E.regs gD (BitVec.ofNat 36 st) }
    let s := s.putLong none
    match s.suspended with
    | some E => s.putSuspended (some (done E))
    | none => engPut 64 (done (engGet s 64)) s

/-- The ring of the batch under way. -/
def batchRing (s : State) : Nat := match s.batch with | some b => b.batch.ring | none => 0

/-- Change the batch under way. -/
def batchMap (f : BatchRun → BatchRun) (s : State) : State := s.putBatch (s.batch.map f)

/-! ### Free octets -/

/-- n octets that the spec leaves open: drawn from the DRBG, or computed with a secret. -/
def freeBytes (s : State) (n : Nat) : List Nat := (List.range n).map fun i => (Config.freeWord (s.freeUses + i)).toNat % 256

/-- Spend n uses of the free values. -/
def spend (n : Nat) (s : State) : State := s.putFreeUses (s.freeUses + n)

/-- A signature block (Table 13-3): r and s are free, and the KIND that no rule gives a slot key. -/
def sigBlock (kind : Nat) (keyId : List Nat) (rs : List Nat) : List Nat :=
  kind % 256 :: 1 :: List.replicate 6 0 ++ keyId ++ rs ++ List.replicate 28 0

/-- A digest as 48 octets. -/
def digestBytes (d : BitVec 384) : List Nat := (List.range 48).map fun i => d.toNat / 2 ^ (8 * i) % 256

/-! ### POWER (R525) -/

/-- POWER: a staged request of the hub image or a batch. -/
def execPower (i : IssA) (gA : Reg) (ladder : Fin 8) (s : State) : Result :=
  .next (if i.eng.val = 64 then
      issue (issueOfA i) { reads := [gA.val], staged := 1 } (fun s =>
        stage 64 (.power (fld (operand s 64 gA.val) 5 0) ladder.val) s) s
    else s)

/-- A power request lands (R525, Table 16-4). -/
def landPower (o : Origin) (d st : Nat) (s : State) : State :=
  let addr := ctlAddr clsPwr d 0
  settle o .word addr s
    (if d = 63 && st = 4 then
      (if dormantStatus s ≠ 0 then .error (dormantStatus s) else .ok (enterDormant s))
    else applyReq d st s)

/-! ### The NVM (R461 to R464) -/

/-- The current copy of an object (R462). -/
def Copies.current {α : Type} (c : Copies α) : Option (Nat × α) :=
  match c.a, c.b with
  | some x, some y => if x.1 ≥ y.1 then some x else some y
  | some x, none => some x
  | none, y => y

/-- Bank or copy B is current. -/
def Copies.atB {α : Type} (c : Copies α) : Bool :=
  match c.a, c.b with
  | some x, some y => decide (x.1 < y.1)
  | none, some _ => true
  | _, none => false

/-- Write the copy that is not current, its SEQ one above the current one's (R463). -/
def Copies.store {α : Type} (c : Copies α) (v : α) : Copies α :=
  match c.current with
  | none => { c with a := some (1, v) }
  | some (n, _) => if c.atB then { c with a := some (n + 1, v) } else { c with b := some (n + 1, v) }

/-- The owner key; none where the device is unowned. -/
def ownerKey (s : State) : Option (List Nat) := (s.nvm.owner.current).bind fun r => r.2.key

/-- OWNER_SEQ of the current record. -/
def ownerSeq (s : State) : Nat := match s.nvm.owner.current with | some r => r.2.seq | none => 0

/-- Floors in force. -/
def floors (s : State) : Floors := match s.nvm.floors.current with | some r => r.2 | none => {}

/-- Ticks between STOREs of a target (Table 13-10). -/
def storeInterval (target : Nat) : Nat := if target ≤ 1 then 80000 else 8000

/-- A refused STORE: its status, and RESULT where it has a code for it (Table 13-12). -/
def refuseStore (target gD st : Nat) (s : State) : State :=
  let s := if st = St.storeRate then s.putNvm { s.nvm with target := target, result := 1 }
    else if st = St.storeAuth then s.putNvm { s.nvm with target := target, result := 2 }
    else if st = St.storeForm then s.putNvm { s.nvm with target := target, result := 3 }
    else s
  status gD st s

/-- Issue of a STORE: refused while debug is unlocked (R457) and within its interval; then what its target makes of the
input lines. -/
def execStore (target : Nat) (i : IssA) (gD gA gB : Reg) (job : State → List (BitVec 288) → Except Nat StoreJob)
    (s : State) : Result :=
  .next (issueHub i { reads := [gA.val, gB.val], writes := [gD.val] } (fun s =>
    let at_ := (operand s 64 gA.val).toNat
    let n := (operand s 64 gB.val).toNat
    if s.sec.unlocked then status gD.val St.modeState s
    else if tickCount s < tabGet 0 s.nvm.lastAt target then refuseStore target gD.val St.storeRate s
    else if target ≠ 0 && !(1 ≤ n && inWindow at_ n) then refuseStore target gD.val St.storeForm s
    else match job s (if target = 0 then [] else scratchLines s at_ n) with
      | .error st => refuseStore target gD.val st s
      | .ok j => waitAt .store gD.val (s.putNvm { s.nvm with busy := some j, target := target })) s)

/-- STORE_STARTER: the image that SEAL left, in the same batch (Table 13-10). -/
def execStoreStarter (i : IssA) (gD gA gB : Reg) (s : State) : Result :=
  execStore 0 i gD gA gB (fun s _ =>
    match s.batch, s.sec.sealed with
    | some b, some st => if b.sealed then .ok (.starter st) else .error St.storeForm
    | _, _ => .error St.storeForm) s

/-- A firmware image in lines (R437). -/
def firmwareOk (ls : List (BitVec 288)) : Bool :=
  lineByte ls 0 == 1 && lineByte ls 1 == 1 && lineNat ls 4 4 + 6 == ls.length && decide (ls.length ≤ loafMaxLines) &&
    (lineBytes ls 8 28).all (· == 0)

/-- STORE_FW (R437, Table 13-10); `sigOk`: its block is valid under the vendor key. -/
def execStoreFw (i : IssA) (gD gA gB : Reg) (sigOk : Bool) (s : State) : Result :=
  execStore 1 i gD gA gB (fun s ls =>
    if !sigOk then .error St.storeAuth
    else if !firmwareOk ls || lineNat ls 2 2 < (floors s).fw then .error St.storeForm
    else .ok (.fw { svn := lineNat ls 2 2, lines := ls, valid := true })) s

/-- The fixed bytes of an owner document (R442). -/
def ownerDocOk (ls : List (BitVec 288)) : Bool :=
  ls.length == 11 && lineByte ls 1 == 1 && (lineBytes ls 2 6).all (· == 0) && (lineBytes ls 208 8).all (· == 0) &&
    decide (BitVec.ofNat 384 (lineNat ls 16 48) = Config.deviceId)

/-- A claim (R443): SEALED, CLAIM_L low at the release of reset, the first of its device, bound to the session. -/
def claimOk (s : State) (bindOk : Bool) (ls : List (BitVec 288)) : Bool :=
  s.mode == .sealed && !s.straps.claimL && lineByte ls 0 == 1 && lineNat ls 8 8 == 1 && bindOk

/-- A transfer or a release (R444). -/
def transferOk (s : State) (ls : List (BitVec 288)) : Bool :=
  (lineByte ls 0 == 2 || lineByte ls 0 == 3) && s.mode != .sealed && (ownerKey s).isSome &&
    lineNat ls 8 8 == ownerSeq s + 1 && (lineBytes ls 160 48).all (· == 0) &&
    (lineByte ls 0 == 2 || (lineBytes ls 64 96).all (· == 0))

/-- STORE_OWNER (R442 to R444); `sigOk`: the block verifies under the new key for a claim, under the current owner key for
the others; `bindOk`: BINDING is the TH of the presenting session. -/
def execStoreOwner (i : IssA) (gD gA gB : Reg) (sigOk bindOk : Bool) (s : State) : Result :=
  execStore 2 i gD gA gB (fun s ls =>
    if !sigOk then .error St.storeAuth
    else if ownerDocOk ls && (claimOk s bindOk ls || transferOk s ls) then
      .ok (.owner (lineByte ls 0)
        { seq := lineNat ls 8 8, key := if lineByte ls 0 = 3 then none else some (lineBytes ls 64 96) })
    else .error St.storeForm) s

/-- STORE_FLOORS (R441). -/
def execStoreFloors (i : IssA) (gD gA gB : Reg) (s : State) : Result :=
  execStore 3 i gD gA gB (fun s ls =>
    let fw := fld (lineWord ls 0) 35 20
    let pin := fld (lineWord ls 0) 1 0
    let loaf := (lineWord ls 1).toNat
    let cur := floors s
    let svn := match s.sec.fw with | some r => r.2 | none => 0
    let ver := match s.loaf with | some l => l.version.toNat | none => 0
    if ls.length ≠ 1 || pin = 3 || fw < cur.fw || loaf < cur.loaf || (fw > svn && fw ≠ cur.fw) ||
        (loaf > ver && loaf ≠ cur.loaf) then .error St.storeForm
    else .ok (.floors { fw := fw, pin := pin, loaf := loaf })) s

/-- STORE_PAIR (R459). -/
def execStorePair (i : IssA) (gD gA gB : Reg) (sigOk : Bool) (s : State) : Result :=
  execStore 4 i gD gA gB (fun s ls =>
    let slot := if s.straps.seat = 0 then 8 else 104
    if !sigOk then .error St.storeAuth
    else if ls.length = 11 && lineByte ls 0 = 1 && lineByte ls 1 = 1 && (lineBytes ls 2 6).all (· == 0) &&
        (lineBytes ls 200 16).all (· == 0) && BitVec.ofNat 768 (lineNat ls slot 96) = Config.identityKey then .ok (.pair ls)
    else .error St.storeForm) s

/-- The record of a transfer or release governs at once: starters and the pair record are invalid, LOAF_FLOOR is 0, every
session closes once the batch's completion has been written (R444). -/
def changeOwner (r : OwnerRec) (s : State) : State :=
  let n := s.nvm
  let f := floors s
  batchMap (fun b => { b with closes := true, closesAll := true }) (s.putNvm { n with
    owner := Copies.store n.owner r, starter := {}, pair := {}, floors := Copies.store n.floors { f with loaf := 0 } })

/-- What a finished STORE leaves in the NVM (R443, R444, R463, R464). -/
def storeJob (j : StoreJob) (s : State) : State :=
  let n := s.nvm
  match j with
  | .starter st => s.putNvm { n with starter := Copies.store n.starter st }
  | .fw im =>
    match s.sec.fw with
    | some (true, _) => s.putNvm { n with fwA := some im }
    | some (false, _) => s.putNvm { n with fwB := some im }
    | none => s.putNvm { n with fwA := some im }
  | .owner doc r =>
    if doc = 1 then (s |>.putNvm { n with owner := Copies.store n.owner r } |>.putResetDue true |>.putClaimed true) else changeOwner r s
  | .floors f => s.putNvm { n with floors := Copies.store n.floors f }
  | .pair body => s.putNvm { n with pair := Copies.store n.pair body }

/-- STORE_COMPLETE (R463, R444). -/
def execStoreComplete (s : State) : Result :=
  .next (match s.nvm.busy with
    | none => s
    | some j =>
      let s := cenInc 7 (storeJob j s)
      let n := s.nvm
      endLong 0 (s.putNvm { n with
        busy := none, result := 0, stores := min (n.stores + 1) 0xFFFFFF,
        lastAt := tabSet 0 n.lastAt n.target (tickCount s + storeInterval n.target) }))

/-! ### SEAL (R465) -/

/-- SEAL: the batch waits until the end of the commit window. -/
def execSeal (i : IssA) (gD : Reg) (s : State) : Result :=
  .next (issueHub i { writes := [gD.val] } (fun s =>
    if s.mode = .sealed || s.mode = .boot || s.mode = .quarantine || s.sec.unlocked then status gD.val St.modeState s
    else if s.rdn.sweepRx.isSome then status gD.val St.sealBusy s
    else waitAt .seal gD.val s) s)

/-- The starter that SEAL copies: the current bank in STANDBY, else the package's own state (R465). -/
def sealedStarter (s : State) : Option Starter :=
  if s.mode = .standby && s.ilk ≠ .holding then (if s.bank.valid then some s.bank else none) else some (starterOf s)

/-- At the end of the commit window SEAL takes the current starter. -/
def takeSeal (s : State) : State :=
  match s.long with
  | some (.seal, _) =>
    endLong 0 (batchMap (fun b => { b with sealed := true }) (s.putSec { s.sec with sealed := sealedStarter s }))
  | _ => s

/-! ### Attestation (R452, R453) -/

/-- FW_HASH: of the running image; 0 while no firmware runs. -/
def fwHash (s : State) : List Nat :=
  let none_ := List.replicate 48 0
  if s.mode = .sealed || (s.mode = .quarantine && s.sec.qcause = 6) then none_
  else match s.sec.fw with
    | some (b, _) =>
      match (if b then s.nvm.fwB else s.nvm.fwA) with
      | some im => digestBytes (Config.digest (lineBytes im.lines 0 (36 * im.lines.length)))
      | none => none_
    | none => none_

/-- n little-endian octets of a number. -/
def leBytes (n v : Nat) : List Nat := (List.range n).map fun i => v / 2 ^ (8 * i) % 256

/-- The report body at a T0, the caller's nonce and the flags that hang on the caller apart (Table 13-6). -/
def reportBody (s : State) : List Nat :=
  let svn := match s.sec.fw with | some r => r.2 | none => 0
  [6, 1, modeCode s.mode, pkgLadder s, b2n s.loaf.isSome, 1,
    b2n s.rdn.provisional + 2 * b2n s.sec.unlocked, s.sec.qcause] ++
  leBytes 2 svn ++ leBytes 2 (floors s).fw ++ leBytes 4 0 ++
  leBytes 8 (match s.loaf with | some l => l.version.toNat | none => 0) ++ leBytes 8 s.tick.toNat ++ leBytes 8 s.wrap.toNat ++
  digestBytes Config.deviceId ++ fwHash s ++ leBytes 48 (match s.loaf with | some l => l.digest | none => 0) ++
  List.replicate 80 0 ++ ((List.range 8).flatMap fun k => leBytes 8 (cwGet s (ctlAddr clsCen 0 (56 + k))).toNat) ++
  List.replicate 32 0

/-- OWNER_ID: 0 where the device is unowned. -/
def ownerId (s : State) : List Nat :=
  match ownerKey s with
  | some k => digestBytes (Config.digest (4 :: k))
  | none => List.replicate 48 0

/-- The report with its signature block, 540 octets; ownership is as it stands (R444), a guest sees no violation counts
(R453). -/
def report (guest : Bool) (nonce : List Nat) (s : State) : List Nat :=
  let b := s.sec.report
  let flags := b.getD 6 0 + 4 * b2n guest + 8 * b2n (ownerKey s).isSome
  let body := (List.range 360).map fun i =>
    if i = 6 then flags
    else if 184 ≤ i && i < 232 then (ownerId s).getD (i - 184) 0
    else if 232 ≤ i && i < 264 then nonce.getD (i - 232) 0
    else if guest && 264 ≤ i then 0
    else b.getD i 0
  body ++ sigBlock 6 (digestBytes Config.deviceId) (freeBytes s 96)

/-- A session at OWNER level. -/
def sessionOwner (s : State) : Bool := (sessGet s (batchRing s)).own

/-- ATTEST of a batch: the 32 bytes of the nonce line in, fifteen lines out. -/
def execAttest (i : IssA) (gD gA gB : Reg) (s : State) : Result :=
  .next (issueHub i { reads := [gA.val, gB.val], writes := [gD.val] } (fun s =>
    let a := (operand s 64 gA.val).toNat
    let b := (operand s 64 gB.val).toNat
    if !inWindow a 1 || !inWindow b 15 then status gD.val St.cfgRange s
    else
      let r := report (!sessionOwner s) (lineBytes (scratchLines s a 1) 0 32) s
      status gD.val 0 (scratchPut b (linesOf 15 r) (spend 96 s))) s)

/-! ### LOAF.LOAD (R329 to R332, R445) -/

/-- The status of a loaf presented (Tables 13-4, 9-15); `sigOk`: its block is valid under the owner key. -/
def loafStatus (s : State) (sigOk : Bool) (ls : List (BitVec 288)) (l : Loaf) : Nat :=
  if ls.length ≠ fld (lineWord ls 2) 35 20 + 5 || !sigOk then St.loafSig
  else if l.version.toNat < (floors s).loaf then St.loafVersion
  else loaderStatus s ls l

/-- LOAF_LOAD: the loaf is checked; a refusal ends it, an accepted one takes until LOAF_LOAD_COMPLETE. -/
def execLoafLoad (i : IssA) (gD gA gB : Reg) (sigOk : Bool) (s : State) : Result :=
  .next (issueHub i { reads := [gA.val, gB.val], writes := [gD.val] } (fun s =>
    let at_ := (operand s 64 gA.val).toNat
    let n := (operand s 64 gB.val).toNat
    if n ≠ 0 && !inWindow at_ n then cenInc 2 (status gD.val St.cfgRange s)
    else
      let ls := scratchLines s at_ n
      let l := parseLoaf (Config.digest (lineBytes ls 0 (36 * n))).toNat ls
      let st := loafStatus s sigOk ls l
      if st ≠ 0 then cenInc 2 (status gD.val st s) else waitAt (.loaf l) gD.val s) s)

/-- LOAF_LOAD_COMPLETE (R332): the loaf runs from the first tick after the next commit window; a holder sweeps (Table
12-8). -/
def execLoafLoadComplete (s : State) : Result :=
  .next (match s.long with
    | some (.loaf l, _) => endLong 0 (s.putLoafNext (some l))
    | _ => s)

/-! ### Slot keys (R467) -/

/-- Slot n holds a key. -/
def slotHeld (s : State) (n : Nat) : Bool := s.sec.slots.testBit n

/-- KEY_GEN: a fresh key in the slot, its public key written out. -/
def execKeyGen (i : IssA) (gD gB : Reg) (slot : Fin 4) (s : State) : Result :=
  .next (issueHub i { reads := [gB.val], writes := [gD.val] } (fun s =>
    let b := (operand s 64 gB.val).toNat
    if !inWindow b 3 then status gD.val St.cfgRange s
    else status gD.val 0 (scratchPut b (linesOf 3 (freeBytes s 96))
      (spend 96 (s.putSec { s.sec with slots := s.sec.slots ||| 2 ^ slot.val })))) s)

/-- KEY.USE: refused on an empty slot; so many input and output lines, and the output octets. -/
def keyUse (i : IssA) (gD gA gB : Reg) (slot inLines outLines : Nat) (out : State → List Nat) (s : State) : Result :=
  .next (issueHub i { reads := [gA.val, gB.val], writes := [gD.val] } (fun s =>
    let a := (operand s 64 gA.val).toNat
    let b := (operand s 64 gB.val).toNat
    if !slotHeld s slot then status gD.val St.keySlot s
    else if !rangeOk a inLines || !inWindow b outLines then status gD.val St.cfgRange s
    else status gD.val 0 (scratchPut b (linesOf outLines (out s)) (spend 145 s))) s)

/-- KEY_USE_SIGN: a block signed by the slot key; its KIND and the slot key's digest are free. -/
def execKeyUseSign (i : IssA) (gD gA gB : Reg) (slot : Fin 4) (s : State) : Result :=
  keyUse i gD gA gB slot.val 2 5 (fun s =>
    let f := freeBytes s 145
    sigBlock (f.getD 144 0) (f.take 48) ((f.drop 48).take 96)) s

/-- KEY_USE_CERTIFY: a block signed by the identity key over the slot key. -/
def execKeyUseCertify (i : IssA) (gD gA gB : Reg) (slot : Fin 4) (s : State) : Result :=
  keyUse i gD gA gB slot.val 0 5 (fun s =>
    let f := freeBytes s 145
    sigBlock (f.getD 144 0) (digestBytes Config.deviceId) (f.take 96)) s

/-- KEY_USE_AGREE: the agreed secret of 48 bytes. -/
def execKeyUseAgree (i : IssA) (gD gA gB : Reg) (slot : Fin 4) (s : State) : Result :=
  keyUse i gD gA gB slot.val 3 2 (fun s => freeBytes s 48) s

/-! ### MATE.SEND (R574) -/

/-- MATE_SEND: scratch lines as one message, in whole or not at all. -/
def execMateSend (i : IssA) (gD gA gB : Reg) (s : State) : Result :=
  .next (issueHub i { reads := [gA.val, gB.val], writes := [gD.val] } (fun s =>
    let at_ := (operand s 64 gA.val).toNat
    let n := (operand s 64 gB.val).toNat
    if n = 0 || n > 1024 || !inWindow at_ n then status gD.val St.cfgRange s
    else
      let t := mateAppend (.msg (scratchLines s at_ n)) s
      status gD.val (if t.link.queue.length = s.link.queue.length then St.queueSpace else 0) t) s)

/-! ### SESSION (R449, R450) -/

/-- SESSION_CLOSE: the session ends once this batch's completion has been sealed. -/
def execSessionClose (i : IssA) (gD : Reg) (s : State) : Result :=
  .next (issueHub i { writes := [gD.val] } (fun s => status gD.val 0 (batchMap (fun b => { b with closes := true }) s)) s)

/-- SESSION_RENEW: new keys from a fresh nonce, the sequence from 1 again with the next batch. -/
def execSessionRenew (i : IssA) (gD : Reg) (s : State) : Result :=
  .next (issueHub i { writes := [gD.val] } (fun s =>
    let q := batchRing s
    let k := sessGet s q
    let s := emit (.sessionNonce q (freeNow s)) (sessPut q { k with renewals := k.renewals + 1, seq := 1 } (spendFree s))
    status gD.val 0 s) s)

end Sys2Proof.Machine
end

