-- ==== Sys2Proof/Machine/Contexts.lean ====
section
/-! DEFINITION. Context operations of batches (spec 14 R487) and the placement loop (01 R21, R22, 16 R544, R545). -/

namespace Sys2Proof.Machine

def hostOpAddr : Nat := ctlAddr clsHost 0 0x40
def placeCntAddr : Nat := ctlAddr clsPwr 63 0x21

/-- A KIND that a context may have (Table 9-10). -/
def kindOk (k : Nat) : Bool := k == 1 || 8 ≤ k

/-- Lay a context in a handle of a unit. -/
def layCtx (id u h : Nat) (s : State) : State := s.putCtxAt (tabSet 0 s.ctxAt id (u * 256 + h + 1))

/-- Move a context to a free handle of a unit of its cluster; its words go with it (R22). -/
def moveCtx (id u : Nat) (s : State) : State :=
  match freeHandle s.ctxAt u with
  | some h => layCtx id u h s
  | none => s

/-- The placement that the pin moves of this window leave. -/
def afterPins (s : State) : State := s.pinMoves.foldl (fun s id => moveCtx id (homeUnit id) s) s

/-- Handles of a unit that no context holds and no pin move of this window needs. -/
def handlesLeft (s : State) (u : Nat) : Nat :=
  256 - (s.ctxAt.filter fun e => decide ((e.2 - 1) / 256 = u)).length - (s.pinMoves.filter fun k => homeUnit k == u).length

/-- The bounds of a unit hold (R323), the pin moves of this window made or not. -/
def boundsHold (s : State) (u : Nat) : Bool := boundHolds s u && boundHolds (afterPins s) u

/-- The unit that takes a new context: its home, else the lowest-numbered of the cluster with a free handle (R487). -/
def createUnit (s : State) (id : Nat) : Option (Nat × Nat) :=
  let home := homeUnit id
  (home :: (List.range 4).map fun i => home / 4 * 4 + i).findSome? fun u =>
    if handlesLeft s u = 0 then none else (freeHandle s.ctxAt u).map fun h => (u, h)

/-- Header of a context with PIN clear. -/
def ctxHeader (kind id : Nat) : Word := mkWord [(32, kind), (0, id)]

/-- Every word of a context is 0 and it monitors nothing. -/
def clearCtx (id : Nat) (s : State) : State :=
  (s.putCtx (s.ctx.filter fun e => decide (e.1 / 128 ≠ id))).putMons (tabDrop id s.mons)

/-- CREATE (R487). -/
def createCtx (id kind : Nat) (s : State) : Applied :=
  if (ctxPlace s id).isSome then .error St.ctxExists
  else if !kindOk kind then .error St.cfgRange
  else match createUnit s id with
    | none => .error St.limitCtx
    | some (u, h) =>
      let s := ctxSet id 0 (ctxHeader kind id) (layCtx id u h (clearCtx id s))
      if boundsHold s u then .ok s else .error St.passBound

/-- The layers whose context names a server (Table 4-1); an ODU attached to a stream names none. -/
def usesServer (s : State) (id : Nat) : Bool :=
  match fld (ctxWord s id 8) 35 31 with
  | 3 => (streamOfCtx s id).isNone
  | l => (4 ≤ l && l ≤ 9) || l == 0xB || l == 0xC || l == 0xE

/-- Something enabled names a context (R487, DELETE). -/
def ctxNamed (s : State) (id : Nat) : Bool :=
  (streamOfCtx s id).isSome ||
  ((livePorts s).any fun p => bit (mapCfg s p.1 p.2) 27 && fld (mapCfg s p.1 p.2) 26 13 == id) ||
  ((livePairs s).any fun p => wCtx s p == id || pCtx s p == id) ||
  !(cellsOfCtx s id).isEmpty ||
  (s.ctxAt.any fun e => e.1 != id && ctxKind s e.1 == 1 && usesServer s e.1 && fld (ctxWord s e.1 11) 35 22 == id) ||
  (bit (ctxWord s id 30) 35 && [0, 1].any fun d => grpOn s d (fld (ctxWord s id 30) 34 24))

/-- DELETE (R487): its handle is free again. -/
def deleteCtx (id : Nat) (s : State) : Applied :=
  if ctxNamed s id then .error St.portInUse
  else .ok (((clearCtx id s).putCtxAt (tabDrop id s.ctxAt)).putPinMoves (s.pinMoves.filter fun k => decide (k ≠ id)))

/-- SET_KIND (R487, R323). -/
def setKind (id kind : Nat) (s : State) : Applied :=
  if !kindOk kind then .error St.cfgRange
  else
    let s := ctxSet id 0 (putFld (ctxWord s id 0) 35 32 kind) s
    if boundsHold s (ctxUnit s id) && (!s.pinMoves.contains id || boundsHold s (homeUnit id)) then .ok s
    else .error St.passBound

/-- SET_PIN (R545): pinned in place at home, else the move home waits for the placement phase. -/
def setPin (id : Nat) (s : State) : Applied :=
  let pinned := ctxSet id 0 (putFld (ctxWord s id 0) 31 31 1) s
  let home := homeUnit id
  if ctxUnit s id = home || s.pinMoves.contains id then .ok pinned
  else
    let t := afterPins s
    let counted := t.putCtxAt (tabSet 0 t.ctxAt id (home * 256 + 1))
    if !boundHolds counted home then .error St.passBound
    else if handlesLeft s home = 0 then .error St.limitCtx
    else if (s.pinMoves.filter fun k => homeUnit k == home).length ≥ 4 then .error St.resConflict
    else .ok (pinned.putPinMoves (s.pinMoves ++ [id]))

/-- CLEAR_PIN (R545): a move home that waits is not made. -/
def clearPin (id : Nat) (s : State) : State :=
  let s := ctxSet id 0 (putFld (ctxWord s id 0) 31 31 0) s
  (s.putPinMoves (s.pinMoves.filter fun k => decide (k ≠ id)))

/-- Apply a write to HOST_CTX_OP (Table 14-10). -/
def applyCtxOp (v : Word) (s : State) : Applied :=
  let id := fld v 13 0
  let kind := fld v 32 29
  match fld v 35 33 with
  | 1 => createCtx id kind s
  | 2 => if (ctxPlace s id).isNone then .error St.ctxAbsent else deleteCtx id s
  | 3 => if (ctxPlace s id).isNone then .error St.ctxAbsent else setKind id kind s
  | 4 => if (ctxPlace s id).isNone then .error St.ctxAbsent else setPin id s
  | 5 => if (ctxPlace s id).isNone then .error St.ctxAbsent else .ok (clearPin id s)
  | _ => .error St.cfgRange

/-- A context operation lands. -/
def ctxOp (o : Origin) (op kind id : Nat) (s : State) : Result :=
  .next (settle o .word hostOpAddr s (applyCtxOp (mkWord [(33, op), (29, kind), (0, id)]) s))

/-- HOST_CTX_CREATE. -/
def execHostCtxCreate (o : Origin) (kind : Fin 16) (id : CtxId) (s : State) : Result := ctxOp o 1 kind.val id.val s
/-- HOST_CTX_DELETE. -/
def execHostCtxDelete (o : Origin) (id : CtxId) (s : State) : Result := ctxOp o 2 0 id.val s
/-- HOST_CTX_SET_KIND. -/
def execHostCtxSetKind (o : Origin) (kind : Fin 16) (id : CtxId) (s : State) : Result := ctxOp o 3 kind.val id.val s
/-- HOST_CTX_SET_PIN. -/
def execHostCtxSetPin (o : Origin) (id : CtxId) (s : State) : Result := ctxOp o 4 0 id.val s
/-- HOST_CTX_CLEAR_PIN. -/
def execHostCtxClearPin (o : Origin) (id : CtxId) (s : State) : Result := ctxOp o 5 0 id.val s

/-! ### The placement phase (R544, R545) -/

/-- Moves made in this window so far, each a pair of the unit left and the unit entered. -/
abbrev Moves := List (Nat × Nat)

/-- Moves into or out of a unit. -/
def movesOf (ms : Moves) (u : Nat) : Nat := (ms.filter fun m => m.1 == u || m.2 == u).length

/-- The pins' moves home. -/
def pinPhase (s : State) : State × Moves :=
  let r := s.pinMoves.foldl (fun (r : State × Moves) id =>
    let from_ := ctxUnit r.1 id
    (cwCountFld placeCntAddr 17 0 1 (moveCtx id (homeUnit id) r.1), r.2 ++ [(from_, homeUnit id)])) (s, [])
  ((r.1.putPinMoves []), r.2)

/-- Cost of a context in its unit: B of the loops whose mask holds its KIND. -/
def ctxCost (s : State) (u id : Nat) : Nat :=
  match s.loaf.bind fun l => loafImage l u with
  | some im => (im.loops.filter fun l => l.mask.testBit (ctxKind s id)).foldl (fun n l => n + l.b) 0
  | none => 0

/-- Units of a cluster whose UNIT_MAP entry is enabled, with their bounds. -/
def placeUnits (s : State) (c : Nat) : List (Nat × Nat) :=
  ((List.range 4).map (4 * c + ·)).filterMap fun u =>
    match s.loaf.bind fun l => loafImage l u with
    | some _ => some (u, (boundOf s s.loaf u).1)
    | none => none

/-- The unit with the largest bound, and the one with the smallest; the lower number wins a tie. -/
def largest : List (Nat × Nat) → Option (Nat × Nat)
  | [] => none
  | e :: t => some (t.foldl (fun m x => if x.2 > m.2 then x else m) e)
def smallest : List (Nat × Nat) → Option (Nat × Nat)
  | [] => none
  | e :: t => some (t.foldl (fun m x => if x.2 < m.2 then x else m) e)

/-- The entry of the largest cost, the lower handle first: context, cost, handle. -/
def costliest : List (Nat × Nat × Nat) → Option Nat
  | [] => none
  | e :: t => some (t.foldl (fun m x => if x.2.1 > m.2.1 || (x.2.1 == m.2.1 && x.2.2 < m.2.2) then x else m) e).1

/-- The context the sender gives next: not pinned, not tried before, of the largest cost above 0. -/
def nextMove (s : State) (u : Nat) (tried : List Nat) : Option Nat :=
  costliest ((s.ctxAt.filter fun e => decide ((e.2 - 1) / 256 = u) && !bit (ctxWord s e.1 0) 31 && !tried.contains e.1 &&
    decide (ctxCost s u e.1 > 0)).map fun e => (e.1, ctxCost s u e.1, (e.2 - 1) % 256))

/-- HYST of PLACE_CTRL; 0 selects 4,000. -/
def placeHyst (s : State) : Nat :=
  match cwFld s (ctlAddr clsPwr 63 0x20) 19 4 with
  | 0 => 4000
  | n => n

/-- Moves from a sender to a receiver, one at a time, until the difference is within HYST or four are made. -/
def placeLoop (from_ dest : Nat) : Nat → List Nat → State × Moves → State × Moves
  | 0, _, r => r
  | n + 1, tried, r =>
    let s := r.1
    let diff := (boundOf s s.loaf from_).1 - (boundOf s s.loaf dest).1
    if diff ≤ placeHyst s || movesOf r.2 from_ ≥ 4 || movesOf r.2 dest ≥ 4 || (freeHandle s.ctxAt dest).isNone then r
    else match nextMove s from_ tried with
      | none => r
      | some id =>
        let t := moveCtx id dest s
        if boundHolds t dest then placeLoop from_ dest n (id :: tried) (cwCountFld placeCntAddr 35 18 1 t, r.2 ++ [(from_, dest)])
        else placeLoop from_ dest n (id :: tried) r

/-- One cluster of the loop. -/
def placeCluster (r : State × Moves) (c : Nat) : State × Moves :=
  if bit (cwGet r.1 (ctlAddr clsPwr 63 0x20)) (20 + c) then
    match largest (placeUnits r.1 c), smallest (placeUnits r.1 c) with
    | some a, some b => if a.2 - b.2 > placeHyst r.1 then placeLoop a.1 b.1 256 [] r else r
    | _, _ => r
  else r

/-- The placement phase of a commit window. -/
def placementPhase (s : State) : State := ((List.range 16).foldl placeCluster (pinPhase s)).1

end Sys2Proof.Machine
end

