-- ==== Sys2Proof/Machine/HostPort.lean ====
section
/-! DEFINITION. The host port (spec 14 R468 to R484, R488): doorbells, command entries, sessions, batches, completions, host
rings, interrupts; reset of the PCI Express endpoint (17 R557). -/

namespace Sys2Proof.Machine

/-! ### BAR0 (R470, Table 14-1) -/

/-- BAR0 answers: the package runs and its endpoint is out of reset. -/
def bar0Up (s : State) : Bool := powered s && !s.perst

/-- A BAR0 access outside the map, its directions or its conditions (R454). -/
def bar0Violation (off : Nat) (s : State) : State := violation 0 70 off s

/-- BAR0_VIOLATION. -/
def execBar0Violation (off : BitVec 24) (s : State) : Result :=
  .next (if bar0Up s then bar0Violation off.toNat s else s)

/-- A ring has neither a session nor one mid-establishment. -/
def ringFree (s : State) (q : Nat) : Bool := !(sessGet s q).opened && !(sessGet s q).mid

/-- A value written to CQ_BASE_LO, CQ_BASE_HI or CQ_SIZE; entries number 2 to 4,096. -/
def ringSetUp (field v : Nat) (k : CmdRing) : CmdRing :=
  let k := { k with head := 0, tail := 0 }
  match field with
  | 0 => { k with base := k.base / 2 ^ 32 * 2 ^ 32 + v / 64 * 64 }
  | 1 => { k with base := v * 2 ^ 32 + k.base % 2 ^ 32 }
  | _ => { k with size := v }

/-- CQ_BASE_WRITE (R470): head and tail return to 0. -/
def execCqBaseWrite (q : CmdRingId) (field : Fin 3) (v : BitVec 32) (s : State) : Result :=
  .next (if !bar0Up s then s
    else if !ringFree s q.val || (field = 2 && (v.toNat < 2 || v.toNat > 4096)) then
      bar0Violation (0x40 * q.val + 4 * field.val) s
    else ringCmdPut q.val (ringSetUp field.val v.toNat (ringCmd s q.val)) s)

/-- CQ_TAIL (R471). -/
def execCqTail (q : CmdRingId) (v : BitVec 32) (s : State) : Result :=
  let k := ringCmd s q.val
  .next (if !bar0Up s then s
    else if v.toNat < k.size then ringCmdPut q.val { k with tail := v.toNat } s
    else bar0Violation (0x40 * q.val + 0xC) s)

/-- COMMAND_FETCH (R471): the head advances; where it reaches the tail, INT_PEND bit 16 + q is set. -/
def execCommandFetch (q : CmdRingId) (e : CmdEntry) (s : State) : Result :=
  let k := ringCmd s q.val
  .next (if !bar0Up s || k.head = k.tail then s
    else
      let head := (k.head + 1) % k.size
      let s := ringCmdPut q.val { k with head := head, fetched := k.fetched ++ [e] } s
      if head = k.tail then intSet (16 + q.val) s else s)

/-! ### Entries (R472 to R474) -/

/-- What an entry asks for; every form that R474 names is treated as a batch whose tag fails. -/
inductive Asked where
  | batch (b : BatchBuf)
  | openReq (owner pointOk : Bool)
  | proof (sigOk : Bool)
  | bad

def asked (e : CmdEntry) : Asked :=
  if !e.clean || !e.lenOk then .bad
  else match e.ty, e.buf with
    | 1, .batch b => if e.resp ≤ 8 then .batch b else .bad
    | 2, .openReq o p => .openReq o p
    | 3, .proof g => .proof g
    | _, _ => .bad

/-- A batch whose tag fails, and what is treated as one: CEN57. -/
def tagFails (q : Nat) (s : State) : State := violation 1 (64 + q) 0 s

/-- A session establishment refused: CEN63. -/
def refuseSession (q : Nat) (s : State) : State := violation 7 (64 + q) 0 s

/-- Take the oldest fetched entry of a ring. -/
def popEntry (q : Nat) (s : State) : State := ringCmdPut q { ringCmd s q with fetched := (ringCmd s q).fetched.drop 1 } s

/-- A session opens; the one before it on its ring ends. -/
def openSession (q : Nat) (own : Bool) (reply : Nat) (s : State) : State :=
  let s := if (sessGet s q).opened then endSession false q s else s
  sessPut q { opened := true, own := own, reply := reply } s

/-- A reply of whole lines. -/
def replyLines (addr n : Nat) (bytes : List Nat) (s : State) : State :=
  if addr = 0 then s
  else emit (.reply addr ((List.range (8 * n)).map (lineWord (linesOf n bytes)))) s

/-- The reply to an OPEN (R473): Qd, Nd and r and s of the block are free. -/
def openReply (addr : Nat) (s : State) : State :=
  let f := freeBytes s 224
  spend 224 (replyLines addr 10 (List.replicate 36 0 ++ f.take 128 ++ List.replicate 16 0 ++
    sigBlock 7 (digestBytes Config.deviceId) (f.drop 128)) s)

/-- CQ_OPEN (R446, R469, R473): the oldest fetched entry, where it is an OPEN. -/
def execCqOpen (q : CmdRingId) (s : State) : Result :=
  .next (match (ringCmd s q.val).fetched with
    | e :: _ =>
      (match asked e with
      | .openReq owner pointOk =>
        let s := popEntry q.val s
        if s.mode = .quarantine || (sessGet s q.val).mid || !pointOk then refuseSession q.val s
        else if owner then openReply e.reply (sessPut q.val { sessGet s q.val with mid := true } s)
        else openReply e.reply (openSession q.val false e.reply s)
      | _ => s)
    | [] => s)

/-- CQ_PROOF (R446): within the establishment, and valid under the owner key. -/
def execCqProof (q : CmdRingId) (s : State) : Result :=
  .next (match (ringCmd s q.val).fetched with
    | e :: _ =>
      (match asked e with
      | .proof sigOk =>
        let s := popEntry q.val s
        let k := sessGet s q.val
        if k.mid && sigOk && (ownerKey s).isSome then
          replyLines e.reply 1 [] (openSession q.val true e.reply (sessPut q.val { k with mid := false } s))
        else refuseSession q.val (sessPut q.val { k with mid := false } s)
      | _ => s)
    | [] => s)

/-- PROOF_TIMEOUT: one second after the reply. -/
def execProofTimeout (q : CmdRingId) (s : State) : Result :=
  .next (if (sessGet s q.val).mid then refuseSession q.val (sessPut q.val { sessGet s q.val with mid := false } s) else s)

/-! ### Batches (R447, R475 to R478) -/

/-- The batch of an entry. -/
def batchOf (q : Nat) (e : CmdEntry) (b : BatchBuf) : Batch :=
  { ring := q, resp := e.resp, reply := e.reply, seq := b.seq, outAt := b.outAt, outLen := b.outLen,
    bundles := b.bundles.map BitVec.toNat }

/-- A batch refused whole: its completion follows in the next commit window. -/
def refuseBatch (b : Batch) (st bundle : Nat) (s : State) : State :=
  cenInc 55 ((s.putBatchesDone (s.batchesDone ++ [{ id := s.batchIds, batch := b, whole := st, bundle := bundle }])).putBatchIds (s.batchIds + 1))

/-- The checks of a fetched batch on a ring with a session, in order. -/
def checkBatch (q : Nat) (e : CmdEntry) (b : BatchBuf) (s : State) : State :=
  let k := sessGet s q
  if !b.tagOk || b.seq ≠ k.seq || k.seq ≥ 2 ^ 32 then tagFails q s
  else
    let s := sessPut q { k with seq := k.seq + 1 } s
    let bat := batchOf q e b
    if s.mode = .sealed && !claimShape bat.bundles then refuseBatch bat St.modeState 0 s
    else
      let st := batchStatus (!k.own && s.mode != .sealed) b
      if st.1 ≠ 0 then refuseBatch bat st.1 st.2 s
      else
        let r := ringCmd s q
        scratchPut b.dataAt b.data (ringCmdPut q { r with waiting := r.waiting ++ [bat] } s)

/-- CQ_BATCH (R474, R477): the oldest fetched entry, where it is neither an OPEN nor a PROOF. -/
def execCqBatch (q : CmdRingId) (s : State) : Result :=
  .next (match (ringCmd s q.val).fetched with
    | e :: _ =>
      (match asked e with
      | .batch b =>
        let s := popEntry q.val s
        if (sessGet s q.val).opened then checkBatch q.val e b s else tagFails q.val s
      | .bad => tagFails q.val (popEntry q.val s)
      | _ => s)
    | [] => s)

/-- A batch of a ring has ended that closes the session (R450). -/
def closing (s : State) (q : Nat) : Bool := s.batchesDone.any fun b => b.closesAll || (b.closes && b.batch.ring == q)

/-- The ring whose batch starts next: round robin, after the ring just served (R478). -/
def nextRing (s : State) : Option Nat :=
  ([1, 2, 3, 4].map fun i => (s.lastRing + i) % 4).find? fun q => !(ringCmd s q).waiting.isEmpty && !closing s q

/-- An engine at the start of a pass or a batch (R302). -/
def startRun (e : Nat) (run : Running) (s : State) : State :=
  let E := engGet s e
  let regs := regWrite (regWrite (regWrite [] 1 (BitVec.ofNat 36 e)) 2 s.tick) 3 s.pmTime
  engPut e { E with running := run, regs := regs, preds := [], opRegs := [], opPreds := [], bundle := {}, pc := 0, loops := [],
                    calls := [], landing := [], item := none, chk := {} } s

/-- The hub engine is free for a batch: it is idle, nothing is suspended, its pass of the tick has not overrun (R18), and
the commit window has not opened (R38). -/
def hubFree (s : State) : Bool :=
  let E := engGet s 64
  E.running == .idle && s.batch.isNone && s.suspended.isNone && (!E.started || E.ended) && decide (E.tickCyc < 122000)

/-- BATCH_START (R478). -/
def execBatchStart (s : State) : Result :=
  .next (if hubFree s then
      match nextRing s with
      | none => s
      | some q =>
        let k := ringCmd s q
        match k.waiting with
        | [] => s
        | b :: rest =>
          startRun 64 .batch ((ringCmdPut q { k with waiting := rest } s)
              |>.putBatch (some { id := s.batchIds, batch := b }) |>.putBatchIds (s.batchIds + 1) |>.putLastRing q)
    else s)

/-! ### Completions (R480, Table 14-5) -/

/-- The words of a completion as the host finds them after decryption; the tag is free. -/
def completionWords (s : State) (b : BatchRun) : List Word :=
  let st := if b.whole ≠ 0 then b.whole else b.status
  let regs := if b.whole ≠ 0 then List.replicate 12 0 else (List.range 12).map fun i => b.regs.getD i 0
  let lines := scratchLines s b.batch.outAt b.batch.outLen
  let zeros := fun n => List.replicate n (0 : Word)
  let free := fun i => Config.freeWord (s.freeUses + i)
  [recHeader 0x01 64 0x7F b.batch.ring, BitVec.ofNat 36 (8 * (5 + b.batch.outLen) - 1), BitVec.ofNat 36 b.batch.seq,
    BitVec.ofNat 36 (b.batch.seq / 2 ^ 36)] ++ zeros 4 ++
  [mkWord [(28, st), (16, min b.refusals 0xFFF), (0, if st = 0 then 0 else b.bundle)], s.tick] ++ zeros 6 ++ regs ++ zeros 4 ++
  (List.range (8 * b.batch.outLen)).map (lineWord lines) ++ [free 0, free 1, free 2, free 3 &&& 0xFFFFF] ++ zeros 4

def hrAddr (q w : Nat) : Nat := ctlAddr clsHost 0 (4 * q + w)
/-- HR_CFG.EN. -/
def hrOn (s : State) (q : Nat) : Bool := cwFld s (hrAddr q 2) 35 35 == 1
def hrSize (s : State) (q : Nat) : Nat := cwFld s (hrAddr q 2) 34 15

/-- A completion goes to its host queue, or to REPLY_ADDR, or nowhere. -/
def placeCompletion (b : BatchRun) (s : State) : State :=
  let ws := completionWords s b
  let s := spend 4 s
  if b.batch.resp < 8 && hqOn s b.batch.resp && hrOn s b.batch.resp then hqAppend b.batch.resp ws s
  else if b.batch.reply ≠ 0 then emit (.reply b.batch.reply ws) s
  else s

/-- The sessions that end with the completion of a batch (R444, R450). -/
def closeAfter (b : BatchRun) (s : State) : State :=
  if b.closesAll then endSessions false s else if b.closes then endSession false b.batch.ring s else s

/-- The completions of a commit window, in order of completion; then the sessions that end with them. -/
def placeCompletions (s : State) : State :=
  let done := s.batchesDone
  let s := done.foldl (fun s b => placeCompletion b s) (s.putBatchesDone [])
  done.foldl (fun s b => closeAfter b s) s

/-! ### Host rings (R482 to R484, R488) -/

def ringOf (s : State) (q : Nat) : HostRing := tabGet {} s.hostRing q
def ringPut_ (q : Nat) (k : HostRing) (s : State) : State := s.putHostRing (tabSet {} s.hostRing q k)

/-- Free lines of a host ring. -/
def ringFreeLines (s : State) (q : Nat) : Nat :=
  let n := hrSize s q
  let k := ringOf s q
  n - 1 - (k.tail + n - k.head) % n

/-- Items that raise the interrupt of a ring. -/
def coalN (s : State) (q : Nat) : Nat := max 1 (cwFld s (hrAddr q 2) 14 7)
def coalT (s : State) (q : Nat) : Nat := cwFld s (hrAddr q 2) 6 0

/-- HOST_RING_WRITE: the oldest item of a queue, where it fits whole. -/
def execHostRingWrite (q : HqId) (s : State) : Result :=
  .next (match (hqGet s q.val).items with
    | [] => s
    | ws :: rest =>
      let n := itemLines ws
      if !bar0Up s || !hrOn s q.val || ringFreeLines s q.val < n then s
      else
        let h := hqGet s q.val
        let k := ringOf s q.val
        let s := hqLevel q.val (hqPut q.val { h with items := rest, rp := ptrAdvance (hqSize s q.val) h.rp n } s)
        let s := emit (.hostRing q.val k.tail ws) s
        let s := ringPut_ q.val { k with tail := (k.tail + n) % hrSize s q.val, items := k.items + 1,
                                         timer := decide (coalT s q.val ≠ 0) } s
        if k.items + 1 ≥ coalN s q.val then intSet q.val s else s)

/-- HR_COAL_TIMEOUT: HR_COAL_T × 8 µs after the first item since the bit was cleared. -/
def execHrCoalTimeout (q : HqId) (s : State) : Result :=
  let k := ringOf s q.val
  .next (if k.timer && decide (k.items > 0) then intSet q.val (ringPut_ q.val { k with timer := false } s) else s)

/-- HR_HEAD. -/
def execHrHead (q : HqId) (v : BitVec 32) (s : State) : Result :=
  .next (if !bar0Up s then s
    else if v.toNat < hrSize s q.val then ringPut_ q.val { ringOf s q.val with head := v.toNat } s
    else bar0Violation (0x100 + 0x20 * q.val) s)

/-- HQ_CREDIT (R344): a grant beyond the room of the queue is clipped. -/
def execHqCredit (q : HqId) (v : BitVec 32) (s : State) : Result :=
  .next (if !bar0Up s then s
    else if hqOn s q.val && cwFld s (hqCfgAddr q.val) 34 34 = 1 then
      let h := hqGet s q.val
      let room := hqSize s q.val - ptrFill (hqSize s q.val) h.rp h.wp
      if h.cr + v.toNat > room then hqPut q.val { h with cr := room, clipped := true } s
      else hqPut q.val { h with cr := h.cr + v.toNat } s
    else bar0Violation (0x104 + 0x20 * q.val) s)

/-- INT_CLR (R488): the count of items of a ring whose bit is cleared starts again. -/
def execIntClr (v : BitVec 32) (s : State) : Result :=
  .next (if !bar0Up s then s
    else
      let s := s.putIntPend (s.intPend &&& Nat.xor 0xFFFFFFFF v.toNat)
      (List.range 8).foldl (fun s q =>
        if v.toNat.testBit q then ringPut_ q { ringOf s q with items := 0, timer := false } s else s) s)

/-! ### Recovery (R439) -/

/-- REC_GO: the image at the recovery address; in QUARANTINE without firmware a valid one goes to bank A and the package
resets, any other counts in CEN01. `sigOk`: its block is valid under the vendor key. -/
def execRecGo (addr : BitVec 64) (image : List (BitVec 288)) (sigOk : Bool) (s : State) : Result :=
  .next (if !bar0Up s then s
    else if s.mode ≠ .quarantine || s.sec.qcause ≠ 6 then bar0Violation 0x208 s
    else
      let s := s.putSec { s.sec with recLo := addr.toNat % 2 ^ 32, recHi := addr.toNat / 2 ^ 32 }
      let svn := lineNat image 2 2
      if sigOk && firmwareOk image && svn ≥ (floors s).fw then
        wipe .inReset true (s.putNvm { s.nvm with fwA := some { svn := svn, lines := image, valid := true } })
      else cenInc 1 s)

/-! ### PERST_L (R557) -/

/-- PERST_L_ASSERT: the endpoint is in reset and every session ends. -/
def execPerstLAssert (s : State) : Result := .next (endSessions false (s.putPerst true))

/-- PERST_L_RELEASE. -/
def execPerstLRelease (s : State) : Result := .next (s.putPerst false)

end Sys2Proof.Machine
end

