-- ==== Sys2Proof/Machine/Boot.lean ====
section
/-! DEFINITION. Power, reset and start-up (spec 13 R438 to R440, 16 R532, R533, 17 R549, R556, R557), and counters written
from outside (11 R371, R380, R382). -/

namespace Sys2Proof.Machine

/-! ### Supply and reset lands -/

/-- VIN_UVLO (R549): VIN below 8.0 V or above 66.0 V for 1 µs; every rail goes off and with it all volatile state. -/
def execVinUvlo (c : VinStop) (s : State) : Result :=
  .next (if s.phase = .off then s else (wipe .off false s).putVinHigh (decide (c = .ovlo)))

/-- The first stage starts: the package is in reset until its rails are good (R532). -/
def startSupply (s : State) : State := (wipe .inReset false s).putVinHigh false

/-- VIN_POWER_ON (R532): VIN rises through 8.5 V. -/
def execVinPowerOn (s : State) : Result := .next (if s.phase = .off && !s.vinHigh then startSupply s else s)

/-- OVLO_RESTART (R549): after an overvoltage stop VIN falls through 63.0 V. -/
def execOvloRestart (s : State) : Result := .next (if s.phase = .off && s.vinHigh then startSupply s else s)

/-- RESET_L_ASSERT (R557): low for 1 µs; power stands. In L4 DORMANT the land is a wake source (R535). -/
def execResetLAssert (s : State) : Result :=
  .next (if s.phase = .off || s.phase = .dormant then s else wipe .inReset true s)

/-- RESET_RELEASE (R532, R556): R0, at which the straps are sampled. -/
def execResetRelease (st : Straps) (s : State) : Result :=
  .next (if s.phase = .inReset then (s.putPhase .released).putStraps st else s)

/-- PUF_KEYS_DERIVED (R532). -/
def execPufKeysDerived (s : State) : Result :=
  .next (if s.phase = .released then s.putSec { s.sec with keyed := true } else s)

/-! ### Boot ROM (R438, R439) -/

/-- The first mode after a reset, with its record (R528, R546). -/
def firstMode (m : Mode) (cause : Nat) (s : State) : State :=
  let s := setMode m cause s
  if m = .sealed then
    intSet 20 (dueRecord (pwrHq s) 0x23 [modeEvtWord s 0 0 cause, s.tick] (s.putModeCause cause))
  else s

/-- A bank is a candidate: a valid image at or above FW_FLOOR. -/
def candidate (s : State) (im : Option FwImage) : Option FwImage :=
  im.bind fun i => if i.valid && i.svn ≥ (floors s).fw then some i else none

/-- The bank that boots: the pinned one where it is a candidate, else the higher FW_SVN, A where they are equal. -/
def bootBank (s : State) : Option (Bool × Nat) :=
  let pin := (floors s).pin
  match candidate s s.nvm.fwA, candidate s s.nvm.fwB with
  | some a, some b => if pin = 2 || (pin ≠ 1 && b.svn > a.svn) then some (true, b.svn) else some (false, a.svn)
  | some a, none => some (false, a.svn)
  | none, some b => some (true, b.svn)
  | none, none => none

/-- BOOT_FW_SELECT (R438, R439): SEALED without an owner; else BOOT, a bank chosen, or QUARANTINE with QCAUSE 6h. -/
def execBootFwSelect (s : State) : Result :=
  .next (if s.phase ≠ .released || !s.sec.keyed then s
    else if (ownerKey s).isNone then firstMode .sealed 1 ((s.putPhase .running).putClaimed false)
    else
      let s := firstMode .boot (if s.claimed then 2 else 1) ((s.putPhase .running).putClaimed false)
      let s := if (candidate s s.nvm.fwA).isNone then cenInc 1 s else s
      let s := if (candidate s s.nvm.fwB).isNone then cenInc 1 s else s
      match bootBank s with
      | some f => s.putSec { s.sec with fw := some f }
      | none => quarantine 6 0xA false s)

/-- FW_START (R440): the selected firmware runs. -/
def execFwStart (s : State) : Result :=
  .next (if s.mode = .boot && s.sec.fw.isSome then s.putSec { s.sec with started := true } else s)

/-! ### The NVM starter (R440, R533) -/

/-- The loader accepts the loaf of a starter at the contexts that the starter holds (R440, R445, Table 9-15). -/
def starterLoafOk (s : State) (st : Starter) (l : Loaf) : Bool :=
  let t := (s.putCtx st.ctx).putCtxAt (placeContexts st)
  match loafPrograms l with
  | some ps =>
    decide ((floors s).loaf ≤ l.version.toNat) && figuresAgree l ps && cyclesOk t (some l) && stagedOk t (some l) &&
      tier1Ok t (some l)
  | none => false

/-- BOOT_STARTER_LOAD (R533): a valid starter whose loaf passes the loader goes to the current bank and the package to
STANDBY; else it stays in BOOT. `opens`: the current bank decrypts with its tag intact; `sigOk`: the block of its loaf is
valid under the owner key. -/
def execBootStarterLoad (opens sigOk : Bool) (s : State) : Result :=
  .next (if s.mode ≠ .boot || !s.sec.started then s
    else match s.nvm.starter.current with
      | none => s
      | some (_, st) =>
        if !opens then cenInc 6 s
        else match st.loaf with
          | some l =>
            if sigOk && starterLoafOk s st l then
              enterMode .standby 3 (calibrateBanks ((s.putBank { st with valid := true, fromNvm := true }).putLoaf (some l)))
            else cenInc 2 s
          | none => s)

/-! ### PCI Express events (R380) -/

/-- PCIE_LINK_RETRAIN: CEN52. -/
def execPcieLinkRetrain (s : State) : Result := .next (if bar0Up s then cenInc 52 s else s)

/-- PCIE_ERROR: CEN53 or CEN54. -/
def execPcieError (k : PcieErr) (s : State) : Result :=
  .next (if bar0Up s then cenInc (match k with | .correctable => 53 | .uncorrectable => 54) s else s)

/-! ### Counters written (R371, R372, R382) -/

/-- Carries out of PCk to its chained neighbour, and on. -/
def carryOn (e : Nat) : Nat → Nat → Nat → State → State
  | 0, _, _, s => s
  | n + 1, k, c, s =>
    if c = 0 || k ≥ 7 || !bit (cwGet s (pcAddr e (0x10 + k))) 35 then s
    else if bit (cwGet s (pcAddr e 0x18)) (28 + k + 1) then setOvf e (k + 1) s
    else
      let r := pcAdd e (k + 1) c s
      carryOn e n (k + 1) r.2 r.1

/-- A counter takes the value written plus the increment of its cycle; its carry goes on. -/
def writeCounter (e k inc : Nat) (v : Word) (s : State) : State :=
  let r := pcAdd e k inc (cwSet (pcAddr e k) v s)
  carryOn e 7 k r.2 r.1

/-- PC_COUNTER_WRITE (R371): `inc` is what the counter takes in the cycle of the write; none while it is frozen. -/
def execPcCounterWrite (e : EngId) (k : Fin 8) (v : Word) (inc : Fin 3) (s : State) : Result :=
  .next (writeCounter e.val k.val (if bit (cwGet s (pcAddr e.val 0x18)) (28 + k.val) then 0 else inc.val) v s)

/-- CEN_CLR (R382). -/
def clearCensus (v : Word) (s : State) : State :=
  (List.range (if bit v 35 then 64 else 56)).foldl (fun s n => cwSet (ctlAddr clsCen 0 n) 0 s) s

def execCenClr (v : Word) (s : State) : Result := .next (clearCensus v s)

end Sys2Proof.Machine
end

