-- ==== Sys2Proof/Machine/EngineAlu.lean ====
section
/-! DEFINITION. Arithmetic, compare and lane instructions (spec 09 R310, Table 9-4). -/

namespace Sys2Proof.Machine

/-- gD receives a function of gA and gB. -/
def alu2 (i : Iss) (gD gA gB : Reg) (f : Word → Word → Word) (s : State) : State :=
  issue i { reads := [gA.val, gB.val], writes := [gD.val] }
    (fun s => setReg i.eng.val gD.val (f (operand s i.eng.val gA.val) (operand s i.eng.val gB.val)) s) s

/-- gD receives a function of gA. -/
def alu1 (i : Iss) (gD gA : Reg) (f : Word → Word) (s : State) : State :=
  issue i { reads := [gA.val], writes := [gD.val] }
    (fun s => setReg i.eng.val gD.val (f (operand s i.eng.val gA.val)) s) s

/-- The predicates PT and PF receive a condition and its inverse; a bundle never names one predicate twice but p0. -/
def cmp2 (i : Iss) (pT pF : Pred) (gA gB : Reg) (f : Word → Word → Bool) (s : State) : State :=
  issue i { reads := [gA.val, gB.val] }
    (fun s =>
      let c := f (operand s i.eng.val gA.val) (operand s i.eng.val gB.val)
      setPred i.eng.val pF.val (!c) (setPred i.eng.val pT.val c s)) s

/-- gD receives gA shifted. -/
def shift (i : Iss) (gD gA : Reg) (amt : Amount) (f : Word → Nat → Word) (s : State) : State :=
  match amt with
  | .imm n => alu1 i gD gA (fun a => f a n.val) s
  | .reg g => alu2 i gD gA g (fun a b => f a (b.toNat % 64)) s

/-- NOP (Table 9-8). -/
def execNop (i : Iss) (s : State) : Result := .next (issue i { nop := true } id s)
/-- ADD (Table 9-4). -/
def execAdd (i : Iss) (gD gA gB : Reg) (s : State) : Result := .next (alu2 i gD gA gB (· + ·) s)
/-- SUB (Table 9-4). -/
def execSub (i : Iss) (gD gA gB : Reg) (s : State) : Result := .next (alu2 i gD gA gB (· - ·) s)
/-- AND (Table 9-4). -/
def execAnd (i : Iss) (gD gA gB : Reg) (s : State) : Result := .next (alu2 i gD gA gB (· &&& ·) s)
/-- OR (Table 9-4). -/
def execOr (i : Iss) (gD gA gB : Reg) (s : State) : Result := .next (alu2 i gD gA gB (· ||| ·) s)
/-- XOR (Table 9-4). -/
def execXor (i : Iss) (gD gA gB : Reg) (s : State) : Result := .next (alu2 i gD gA gB (· ^^^ ·) s)
/-- SHL (Table 9-4). -/
def execShl (i : Iss) (gD gA : Reg) (amt : Amount) (s : State) : Result := .next (shift i gD gA amt shiftLeft s)
/-- SHR (Table 9-4). -/
def execShr (i : Iss) (gD gA : Reg) (amt : Amount) (s : State) : Result := .next (shift i gD gA amt shiftRight s)
/-- SAR (Table 9-4). -/
def execSar (i : Iss) (gD gA : Reg) (amt : Amount) (s : State) : Result := .next (shift i gD gA amt shiftArith s)
/-- MOV (Table 9-4). -/
def execMov (i : Iss) (gD gA : Reg) (s : State) : Result := .next (alu1 i gD gA id s)
/-- SEL (Table 9-4): gA if the predicate is true, else gB. -/
def execSel (i : Iss) (gD gA gB : Reg) (p : Pred) (s : State) : Result :=
  .next (issue i { reads := [gA.val, gB.val], writes := [gD.val] }
    (fun s => setReg i.eng.val gD.val
      (if predRead (engGet s i.eng.val).opPreds p.val then operand s i.eng.val gA.val else operand s i.eng.val gB.val) s) s)
/-- MIN, unsigned (R310). -/
def execMin (i : Iss) (gD gA gB : Reg) (s : State) : Result := .next (alu2 i gD gA gB minU s)
/-- MAX, unsigned (R310). -/
def execMax (i : Iss) (gD gA gB : Reg) (s : State) : Result := .next (alu2 i gD gA gB maxU s)
/-- SAT.ADD (Table 9-4). -/
def execSatAdd (i : Iss) (gD gA gB : Reg) (s : State) : Result := .next (alu2 i gD gA gB sumSat s)
/-- CMP.EQ (Table 9-4). -/
def execCmpEq (i : Iss) (pT pF : Pred) (gA gB : Reg) (s : State) : Result := .next (cmp2 i pT pF gA gB condEq s)
/-- CMP.NE (Table 9-4). -/
def execCmpNe (i : Iss) (pT pF : Pred) (gA gB : Reg) (s : State) : Result := .next (cmp2 i pT pF gA gB condNe s)
/-- CMP.LT, signed (Table 9-4). -/
def execCmpLt (i : Iss) (pT pF : Pred) (gA gB : Reg) (s : State) : Result := .next (cmp2 i pT pF gA gB condLt s)
/-- CMP.LTU, unsigned (Table 9-4). -/
def execCmpLtu (i : Iss) (pT pF : Pred) (gA gB : Reg) (s : State) : Result := .next (cmp2 i pT pF gA gB condLtu s)
/-- MOVI (Table 9-4). -/
def execMovi (i : Iss) (gD : Reg) (imm : BitVec 20) (s : State) : Result :=
  .next (issue i { writes := [gD.val] } (fun s => setReg i.eng.val gD.val (imm.signExtend 36) s) s)
/-- MOVH (Table 9-4). -/
def execMovh (i : Iss) (gD gA : Reg) (imm : BitVec 16) (s : State) : Result := .next (alu1 i gD gA (movh imm) s)
/-- ADD immediate (Table 9-4). -/
def execAddImmediate (i : Iss) (gD gA : Reg) (imm : BitVec 20) (s : State) : Result :=
  .next (alu1 i gD gA (fun a => a + imm.signExtend 36) s)
/-- LEX (Table 9-4). -/
def execLex (i : IssA) (gD gA : Reg) (lane : Fin 4) (s : State) : Result :=
  .next (alu1 (issueOfA i) gD gA (fun a => BitVec.ofNat 36 (laneOf a lane.val)) s)
/-- LINS (Table 9-4). -/
def execLins (i : IssA) (gD gA gB : Reg) (lane : Fin 4) (s : State) : Result :=
  .next (alu2 (issueOfA i) gD gA gB (fun a b => laneInsert a b lane.val) s)
/-- POPC (Table 9-4). -/
def execPopc (i : IssA) (gD gA : Reg) (s : State) : Result := .next (alu1 (issueOfA i) gD gA popCount s)
/-- BIP8 (Table 9-4). -/
def execBip8 (i : IssA) (gD gA gB : Reg) (s : State) : Result := .next (alu2 (issueOfA i) gD gA gB bip8 s)

end Sys2Proof.Machine
end

