-- ==== Sys2Proof/Machine/EngineCounters.lean ====
section
/-! DEFINITION. Counter instructions and package-wide captures (spec 11 R366, R373 to R376). -/

namespace Sys2Proof.Machine

/-- PC.SEL (R366): at once; CHAIN of PC7 reads 0. -/
def execPcSel (i : IssA) (gA : Reg) (k : Fin 8) (s : State) : Result :=
  .next (issue (issueOfA i) { reads := [gA.val] } (fun s =>
    let e := i.eng.val
    if selfProfile s e then
      let v := operand s e gA.val
      cwSet (pcAddr e (0x10 + k.val)) (if k.val = 7 then putFld v 35 35 0 else v) s
    else outsideGrant e (pcAddr e (0x10 + k.val)) s) s)

/-- A counter word of an engine as it stands: PC0 to PC7, CYC low and high. -/
def counterLive (s : State) (e k : Nat) : Word :=
  let E := engGet s e
  let c := E.cyc + E.bundle.stall
  if k < 8 then cwGet s (pcAddr e k) else if k = 8 then BitVec.ofNat 36 c else BitVec.ofNat 36 (c / 2 ^ 36)

/-- PC.RD (R373, Table 9-7). -/
def execPcRd (i : IssA) (gD : Reg) (shadow : Bool) (k : Fin 10) (s : State) : Result :=
  .next (issue (issueOfA i) { writes := [gD.val] } (fun s =>
    let e := i.eng.val
    if selfProfile s e then
      setReg e gD.val (if shadow then cwGet s (pcAddr e (0x20 + k.val)) else counterLive s e k.val) s
    else setReg e gD.val 0 (outsideGrant e (pcAddr e k.val) s)) s)

/-- SNAP (R374): a capture is caused. -/
def execSnap (i : IssA) (s : State) : Result :=
  .next (issue (issueOfA i) {} (fun s =>
    if selfProfile s i.eng.val then s.putCaptures (s.captures + 1) else outsideGrant i.eng.val 0 s) s)

/-- SNAP_IN rises (R374): a capture is caused while SNAP_IN_EN is set. -/
def execSnapInEdge (s : State) : Result :=
  .next (if cwFld s (ctlAddr clsCen 0 0x86) 35 35 = 1 then s.putCaptures (s.captures + 1) else s)

/-- Copy the counters of an engine to their shadows. -/
def captureEngine (e : Nat) (s : State) : State :=
  (List.range 10).foldl (fun s k => cwSet (pcAddr e (0x20 + k)) (counterLive s e k) s) s

/-- FRZ_SNAP of an engine becomes FREEZE (R376). -/
def freezeAtCapture (e : Nat) (s : State) : State :=
  let w := cwGet s (pcAddr e 0x18)
  cwSet (pcAddr e 0x18) (putFld (putFld w 35 28 (Nat.lor (fld w 35 28) (fld w 27 20))) 27 20 0) s

/-- One capture (R374 to R376, Table 11-4): every shadow copied, SNAP_SEQ advanced, SNAP_TICK written, FRZ_SNAP freezes
applied. -/
def capture (s : State) : State :=
  let s := (List.range 65).foldl (fun s e => freezeAtCapture e (captureEngine e s)) s
  let s := (List.range 64).foldl (fun s n => cwSet (ctlAddr clsCen 0 (0x40 + n)) (cwGet s (ctlAddr clsCen 0 n)) s) s
  let s := (s.putLanes (tabMap {} (fun (l : Lane) => { l with prbsErrSnap := l.prbsErr, prbsBitsSnap := l.prbsBits }) s.lanes)).putDecks (tabMap {} (fun (k : DieDeck) => { k with prbsErrSnap := k.prbsErr }) s.decks)
  let s := cwSet (ctlAddr clsCen 0 0x87) (cwGet s (ctlAddr clsCen 0 0x87) + 1) s
  cwSet (ctlAddr clsCen 0 0x88) s.tick s

/-- SNAP_CAPTURE: 40 ns after its cause. The causes of one cycle make one capture (R375); `merged` is their number. -/
def execSnapCapture (merged : Nat) (s : State) : Result :=
  .next (if s.captures = 0 then s else capture (s.putCaptures (s.captures - Nat.max 1 merged)))

end Sys2Proof.Machine
end

