-- ==== Sys2Proof/Machine/EngineCtx.lean ====
section
/-! DEFINITION. Context access of the engines (spec 09 R308 to R312, Table 9-5). -/

namespace Sys2Proof.Machine

/-- CTX.LD (Table 9-5); words 1 to 7 read 0 (R311). -/
def execCtxLd (i : IssA) (gD gA : Reg) (off : Fin 256) (word : Fin 128) (s : State) : Result :=
  .next (issue (issueOfA i) { reads := [gA.val], writes := [gD.val], lat := ctxLatency i.eng.val, ctxRd := 1 }
    (readContext i.eng.val gD.val gA.val off.val
      (fun s id => if 1 ≤ word.val && word.val ≤ 7 then 0 else ctxWord s id word.val)) s)

/-- Context words that no program stores to: the header, the reserved words and the defect words (R312, R333). -/
def ctxStoreBarred (w : Nat) : Bool := w ≤ 7 || (32 ≤ w && w ≤ 38)

/-- CTX.ST (Table 9-5), at once. -/
def execCtxSt (i : IssA) (gD gA : Reg) (off : Fin 256) (word : Fin 128) (s : State) : Result :=
  .next (issue (issueOfA i) { reads := [gD.val, gA.val], ctxWr := 1 }
    (onContext i.eng.val gA.val off.val (fun id s =>
      if ctxStoreBarred word.val then s else ctxSet id word.val (operand s i.eng.val gD.val) s)) s)

/-- The least number of a list, or a value where it is empty. -/
def leastOr (d : Nat) : List Nat → Nat
  | [] => d
  | n :: t => t.foldl Nat.min n

/-- CTX.NEXT (Table 9-5). -/
def execCtxNext (i : IssA) (gD gA : Reg) (mask : BitVec 16) (s : State) : Result :=
  .next (issue (issueOfA i) { reads := [gA.val], writes := [gD.val], lat := ctxLatency i.eng.val, ctxRd := 1 }
    (fun s =>
      let e := i.eng.val
      let kindIn := fun id => mask.toNat.testBit (ctxKind s id)
      let n :=
        if e < 64 then
          let lo := fld (operand s e gA.val) 8 0
          leastOr 0x100 ((s.ctxAt.filter fun p =>
            decide ((p.2 - 1) / 256 = e) && decide ((p.2 - 1) % 256 ≥ lo) && kindIn p.1).map fun p => (p.2 - 1) % 256)
        else
          let lo := fld (operand s e gA.val) 14 0
          leastOr 0x4000 ((s.ctxAt.filter fun p => decide (p.1 ≥ lo) && kindIn p.1).map (·.1))
      setReg e gD.val (BitVec.ofNat 36 n) s) s)

/-- CTX.ID (Table 9-5): translate between ID and handle. -/
def execCtxId (i : IssA) (gD gA : Reg) (toHandle : Bool) (s : State) : Result :=
  .next (issue (issueOfA i) { reads := [gA.val], writes := [gD.val], lat := ctxLatency i.eng.val }
    (fun s =>
      let e := i.eng.val
      let a := (operand s e gA.val).toNat
      let none_ := 0x800000000
      let n :=
        if e < 64 then
          if toHandle then
            match ctxPlace s (a % 16384) with
            | some p => if p / 256 = e then p % 256 else 0x100
            | none => 0x100
          else
            match ctxOfHandle s e (a % 256) with
            | some id => id
            | none => none_
        else
          match ctxPlace s (a % 16384) with
          | some p => if toHandle then p else a % 16384
          | none => none_
      setReg e gD.val (BitVec.ofNat 36 n) s) s)

end Sys2Proof.Machine
end

