-- ==== Sys2Proof/Machine/EngineFlow.lean ====
section
/-! DEFINITION. Control flow (spec 09 R316 to R319, Table 9-8). -/

namespace Sys2Proof.Machine

/-- The next bundle address of the bundle under way. -/
def goTo (e t : Nat) (s : State) : State :=
  let E := engGet s e
  engPut e { E with bundle := { E.bundle with target := some t } } s

/-- The bundle redirects the engine for one more cycle (R368). -/
def markFlow (e : Nat) (s : State) : State :=
  let E := engGet s e
  engPut e { E with bundle := { E.bundle with flow := true } } s

/-- Loops that a branch to a bundle leaves: those of the routine under way whose ENDL lies before it (R316). -/
def leaveLoops (depth t : Nat) : List LoopFrame → List LoopFrame
  | [] => []
  | f :: rest => if f.depth = depth && f.last < t then leaveLoops depth t rest else f :: rest

/-- BR (R316): forward, ending each loop it leaves. -/
def execBr (i : Iss) (off : Fin 8192) (s : State) : Result :=
  .next (issue i {} (fun s =>
    let E := engGet s i.eng.val
    let t := E.pc + off.val
    engPut i.eng.val { E with loops := leaveLoops E.calls.length t E.loops,
                              bundle := { E.bundle with target := some t, taken := true } } s) s)

/-- Skip a loop whose predicate is false to the bundle after its ENDL (R317). -/
def skipIfFalse (i : IssA) (last : Nat) (s : State) : State :=
  if predRead (engGet s i.eng.val).opPreds i.pred.val || !issues s (issueOfA i) then s
  else goTo i.eng.val (last + 1) s

/-- LOOP, counted form (R317); the program text fixes the bundle of the matching ENDL. -/
def execLoop (i : IssA) (n : Fin 4096) (last : Fin 8192) (s : State) : Result :=
  .next (skipIfFalse i last.val (issue (issueOfA i) { cost := 2 } (fun s =>
    let E := engGet s i.eng.val
    markFlow i.eng.val (engPut i.eng.val { E with loops :=
      { body := E.pc + 1, last := last.val, left := n.val - 1, handles := [], gD := 0, context := false,
        depth := E.calls.length } :: E.loops } s)) s))

/-- Insert into a rising list. -/
def insertUp (n : Nat) : List Nat → List Nat
  | [] => [n]
  | m :: t => if n ≤ m then n :: m :: t else m :: insertUp n t

/-- The handles of a unit whose context's KIND is in a mask, rising. -/
def handlesOf (s : State) (u mask : Nat) : List Nat :=
  (s.ctxAt.filter fun e => decide ((e.2 - 1) / 256 = u) && mask.testBit (ctxKind s e.1)).foldl
    (fun l e => insertUp ((e.2 - 1) % 256) l) []

/-- LOOP, context form (R317): the set is taken at the start; before each pass the handle is written to gD. -/
def execLoopContext (i : IssA) (gD : Reg) (mask : BitVec 16) (last : Fin 8192) (s : State) : Result :=
  .next (skipIfFalse i last.val (issue (issueOfA i) { writes := [gD.val], cost := 2 } (fun s =>
    let e := i.eng.val
    match handlesOf s e mask.toNat with
    | [] => markFlow e (goTo e (last.val + 1) s)
    | h :: rest =>
      let E := engGet s e
      setReg e gD.val (BitVec.ofNat 36 h) (markFlow e (engPut e { E with loops :=
        { body := E.pc + 1, last := last.val, left := 0, handles := rest, gD := gD.val, context := true,
          depth := E.calls.length } :: E.loops } s))) s))

/-- ENDL (R317): the next pass of the body, or the end of the loop. -/
def execEndl (i : Iss) (s : State) : Result :=
  .next (issue i {} (fun s =>
    let e := i.eng.val
    let E := engGet s e
    match E.loops with
    | [] => s
    | f :: rest =>
      if f.context then
        match f.handles with
        | [] => engPut e { E with loops := rest } s
        | h :: hs => setReg e f.gD (BitVec.ofNat 36 h)
            (goTo e f.body (engPut e { E with loops := { f with handles := hs } :: rest } s))
      else if f.left = 0 then engPut e { E with loops := rest } s
      else goTo e f.body (engPut e { E with loops := { f with left := f.left - 1 } :: rest } s)) s)

/-- CALL and RET wait until every outstanding result has landed (R318). -/
def waitAll (e : Nat) (s : State) : State :=
  let E := engGet s e
  let w := E.landing.foldl (fun m r => Nat.max m (r.2 - E.cyc)) 0
  engPut e { E with bundle := { E.bundle with callWait := w - E.bundle.stall } } s

/-- CALL (R318). -/
def execCall (i : IssA) (target : Fin 8192) (s : State) : Result :=
  .next (issue (issueOfA i) { cost := 2 } (fun s =>
    let e := i.eng.val
    let E := engGet s e
    waitAll e (markFlow e (goTo e target.val (engPut e { E with calls := (E.pc + 1) :: E.calls } s)))) s)

/-- RET (R318); a loop of the routine that it leaves ends. -/
def execRet (i : IssA) (s : State) : Result :=
  .next (issue (issueOfA i) { cost := 2 } (fun s =>
    let e := i.eng.val
    let E := engGet s e
    match E.calls with
    | [] => s
    | t :: rest => waitAll e (markFlow e (goTo e t (engPut e { E with calls := rest, loops := E.loops.filter fun f => decide (f.depth < E.calls.length) } s)))) s)

/-- HALT.TICK (R319): the pass or batch ends after its bundle, which here ends with slot B. -/
def execHaltTick (i : IssA) (s : State) : Result :=
  .next (issue (issueOfA i) {} (fun s =>
    let E := engGet s i.eng.val
    engPut i.eng.val { E with bundle := { E.bundle with halt := true } } s) s)

end Sys2Proof.Machine
end

