-- ==== Sys2Proof/Machine/EngineQueue.lean ====
section
/-! DEFINITION. Host queue items of the engines (spec 09 R313, 10 R341). -/

namespace Sys2Proof.Machine

/-- A fresh item of an engine: its header with code gA[15:0] and WORDS still 0. -/
def freshItem (e q code : Nat) : OpenItem :=
  { queue := q, words := [recHeader 0x02 e 0 code], overflow := false, truncated := false }

/-- Q.OPEN (R313): an item open before is discarded. -/
def execQOpen (i : IssA) (gA : Reg) (q : HqId) (s : State) : Result :=
  .next (issue (issueOfA i) { reads := [gA.val] } (fun s =>
    let e := i.eng.val
    engPut e { engGet s e with item := some (freshItem e q.val (fld (operand s e gA.val) 15 0)) } s) s)

/-- Q.PUT (R313): at most 63 words; a further one is dropped. -/
def execQPut (i : IssA) (gA : Reg) (s : State) : Result :=
  .next (issue (issueOfA i) { reads := [gA.val] } (fun s =>
    let e := i.eng.val
    match (engGet s e).item with
    | none => s
    | some it =>
      let it := if it.words.length ≥ 64 then { it with overflow := true }
        else { it with words := it.words ++ [operand s e gA.val] }
      engPut e { engGet s e with item := some it } s) s)

/-- The item with WORDS of its header filled in. -/
def closedItem (ws : List Word) : List Word :=
  match ws with
  | [] => []
  | h :: t => putFld h 22 16 t.length :: t

/-- Q.CLOSE (R313, R341, R349): the item is appended whole; one that overflowed is discarded and counts in ENG_ERR, one
truncated by a flush is dropped. -/
def execQClose (i : IssA) (s : State) : Result :=
  .next (issue (issueOfA i) { cost := 2, items := 1 } (fun s =>
    let e := i.eng.val
    match (engGet s e).item with
    | none => s
    | some it =>
      let s := engPut e { engGet s e with item := none } s
      if it.truncated then s
      else if it.overflow then engErr e 2 s
      else hqAppend it.queue (closedItem it.words) s) s)

/-- Q.ABORT (Table 9-7). -/
def execQAbort (i : IssA) (s : State) : Result :=
  .next (issue (issueOfA i) {} (fun s => engPut i.eng.val { engGet s i.eng.val with item := none } s) s)

end Sys2Proof.Machine
end

