-- ==== Sys2Proof/Machine/Words.lean ====
section
/-! DEFINITION. Writes to control words as a commit window applies them: the set-up that a window gives, and the effect of
each write by its class (spec 00 R9, R12, 01 R39, R43, R48, R52, Table 1-6). -/

namespace Sys2Proof.Machine

/-! ### Addresses -/

/-- Side and word of an index of class LANE or FEC. -/
def idxSide (idx : Nat) : Nat := idx / 0x800
def idxWord (idx : Nat) : Nat := idx % 0x800
/-- Pair and word of a class PAIR address (Table 1-6). -/
def pairOf (a : Nat) : Nat := ctlNum a * 32 + ctlIdx a / 128
/-- Filter cell of a class OH address, by its key. -/
def cellOf (num idx : Nat) : Nat := cellKey (num / 4) (num % 4 * 512 + idx / 4)
/-- Engine and index of a class PC address (R47, R361). -/
def pcEngine (num idx : Nat) : Nat := if idx < 0x800 then num else 64

/-- TRACE_SEL (R493). -/
def traceSelAddr : Nat := ctlAddr clsPc 0 0x7F4

/-- Words that only ROOT reaches: key slots, the raw NVM window (Table 13-12), and TRACE_SEL to any access but the debug
port's (R493). -/
def rootOnly (a : Nat) : Bool :=
  a == traceSelAddr || (ctlClass a == clsSec && ctlNum a == 0 && decide (0x100 ≤ ctlIdx a) && decide (ctlIdx a ≤ 0x1FF)) ||
    (ctlClass a == clsNvm && ctlNum a == 0 && decide (0x800 ≤ ctlIdx a))

/-- A reserved class, instance or index. -/
def reservedWord (a : Nat) : Bool := (wordStore a).isNone && !rootOnly a

/-- Rank of a word's category (Table 1-6, R48): protection 0, traffic 1, timing 2, management 3, test 4, observation 5. -/
def wordRank (a : Nat) : Nat :=
  let idx := ctlIdx a
  let c := ctlClass a
  if c = clsLane then (if 0x50 ≤ idxWord idx && idxWord idx ≤ 0x58 then 4 else 1)
  else if c = clsFramer then (if idx % 16 = 9 || idx % 16 = 10 || idx % 16 = 11 || idx % 16 = 13 then 5 else 1)
  else if c = clsOh then (if idx = 0x802 then 5 else 1)
  else if c = clsMap then (if idx < 0xC00 && idx % 16 ≥ 13 then 5 else 1)
  else if c = clsDeck then (if idx = 3 then 5 else if 0x10 ≤ idx && idx ≤ 0x12 then 4 else 1)
  else if c = clsProt || c = clsPair then 0
  else if c = clsChk || c = clsPc || c = clsCen then 5
  else if c = clsClk then 2
  else if c ≤ clsQueue then 1
  else 3

/-! ### The set-up that a window gives -/

/-- What refuses a write to a set-up word for itself, whatever else its window holds; 0 where nothing does. -/
def writeStatus (before s : State) (a : Nat) (v : Word) : Nat :=
  let num := ctlNum a
  let idx := ctlIdx a
  let c := ctlClass a
  if c = clsLane then (if idxWord idx = 0 && laneRate v > 0xC then St.cfgRange else 0)
  else if c = clsMap then (if idx < 0xC00 && idx % 16 < 12 then mapRefusal before s num (idx / 16) (idx % 16) v else 0)
  else if c = clsFine then blkWriteStatus s num idx v
  else if c = clsQueue then
    (if num ≤ 1 then cqWriteStatus s (num * 1024 + idx / 4) (idx % 4) v
     else if num = 2 && idx / 4 ≤ 7 then hqWriteStatus s (idx / 4) (idx % 4) v else 0)
  else if c = clsPair then
    (if idx % 128 < 3 then prtWriteStatus before s (pairOf a) (idx % 128) v
     else if idx % 128 = 97 then (if bit (hlCfg before (pairOf a)) 35 then St.portEnabled else 0) else 0)
  else 0

/-- A write to a set-up word stored, unless it is refused for itself. -/
def planWrite (before : State) (a : Nat) (v : Word) (s : State) : State :=
  let num := ctlNum a
  let idx := ctlIdx a
  let c := ctlClass a
  if writeStatus before s a v ≠ 0 then s
  else if c = clsLane then (if idxWord idx = 0 then cwSet a (laneCfgValue (idxSide idx) v) s else s)
  else if c = clsFec then (if idxWord idx = 0 then cwSet a (v &&& 0xF00000000) s else s)
  else if c = clsFramer then (if idx < 0xA00 && idx % 16 < 6 then frmStore num (idx / 16) (idx % 16) v s else s)
  else if c = clsMap then (if idx < 0xC00 && idx % 16 < 12 then mapStoreWord num (idx / 16) (idx % 16) v s else s)
  else if c = clsFine then (if num ≤ 3 && idx < 0x40 then cwSet a (v &&& 0xFFFFFFFF8) s else s)
  else if c = clsQueue then
    (if num ≤ 1 then (if idx % 4 < 3 then cqStore (num * 1024 + idx / 4) (idx % 4) v s else s)
     else if num = 2 && idx / 4 ≤ 7 && idx % 4 < 3 then hqStore (idx / 4) (idx % 4) v s else s)
  else if c = clsPair then
    (if idx % 128 < 3 then cwSet a (v &&& prtMask (idx % 128)) s
     else if idx % 128 = 97 then cwSet a (v &&& 0x0FFFFFFFF) s else s)
  else s

/-- What refuses a write because of the set-up that its window gives; 0 where nothing does. -/
def setupStatus (plan : State) (a : Nat) (v : Word) : Nat :=
  let num := ctlNum a
  let idx := ctlIdx a
  let c := ctlClass a
  if c = clsLane then (if idxWord idx = 0 then quadStatus plan (idxSide idx) (num / 4) else 0)
  else if c = clsFec then
    (if idxWord idx = 0 && !fecModeOk plan (idxSide idx) num (fld v 35 34) then St.fecMode else 0)
  else if c = clsFramer then (if idx < 0xA00 && idx % 16 < 6 then streamStatus plan num (idx / 16) else 0)
  else if c = clsMap then (if idx < 0xC00 && idx % 16 < 12 then portStatus plan num (idx / 16) else 0)
  else if c = clsFine then (if num ≤ 3 && idx < 0x40 then blkStatus plan num idx else 0)
  else if c = clsQueue then
    (if num ≤ 1 then (if idx % 4 < 3 then cqStatus plan (num * 1024 + idx / 4) else 0)
     else if num = 2 && idx / 4 ≤ 7 && idx % 4 < 3 then hqStatus plan (idx / 4) else 0)
  else if c = clsPair then (if idx % 128 < 3 && !prtShapeOk plan (pairOf a) then St.protShape else 0)
  else 0

/-! ### Effects by class -/

/-- Bits of a W1C word cleared (R9). -/
def clearOnes (a : Nat) (mask v : Word) (s : State) : State := cwSet a (cwGet s a &&& ~~~(v &&& mask)) s

/-- A word stored whole, its reserved bits 0. -/
def storeWord (a : Nat) (v : Word) (s : State) : State := cwSet a (v &&& BitVec.ofNat 36 ((wordStore a).getD 0)) s

def writeLane (plan : State) (a : Nat) (v : Word) (s : State) : Applied :=
  let lane := ctlNum a
  let side := idxSide (ctlIdx a)
  let w := idxWord (ctlIdx a)
  if w = 0 then applyLaneCfg plan side lane v s
  else if w = 2 then .ok (clearOnes a 0xF80000000 v s)
  else if w = 0x10 then applyEqCtrl side lane v s
  else if 0x20 ≤ w && w ≤ 0x36 then applyEqSet side lane w v s
  else if w = 0x40 || w = 0x41 then applyTxFfe side lane (w - 0x40) v s
  else if w = 0x50 then applyPrbsCtrl side lane v s
  else if w = 0x51 then
    .ok (if bit v 34 then lanePut (laneKey side lane) { laneGet s (laneKey side lane) with prbsLost := false } s else s)
  else if w = 0x58 then applyLpbk side lane v s
  else .ok s

def writeFec (plan : State) (a : Nat) (v : Word) (s : State) : Applied :=
  let side := idxSide (ctlIdx a)
  let w := idxWord (ctlIdx a)
  if w = 0 then applyFecCfg plan side (ctlNum a) v s
  else if w = 0x1F then .ok (clearFec side (ctlNum a) s)
  else .ok s

def writeFramer (plan : State) (a : Nat) (v : Word) (s : State) : Applied :=
  let u := ctlNum a
  let n := ctlIdx a / 16
  let w := ctlIdx a % 16
  let k := streamKey u n
  if w < 6 then applyFrm plan u n w v s
  else if w = 7 then
    .ok (framerPut k { framerGet s k with
      events := (BitVec.ofNat 36 (framerGet s k).events &&& ~~~(v &&& 0xFFF800000)).toNat } s)
  else if w = 13 then .ok (clearFrmCounts u n s)
  else .ok s

def writeOh (a : Nat) (v : Word) (s : State) : Applied :=
  let idx := ctlIdx a
  if idx < 0x800 then (if idx % 4 < 2 then applyFilt (cellOf (ctlNum a) idx) (idx % 4) v s else .ok s)
  else if idx = 0x800 then applyPmSet v s
  else if idx = 0x802 then .ok (cwSet a 0 s)
  else .ok s

def writeMap (before plan : State) (a : Nat) (v : Word) (s : State) : Applied :=
  let u := ctlNum a
  let p := ctlIdx a / 16
  let w := ctlIdx a % 16
  if ctlIdx a ≥ 0xC00 then applyCal u (ctlIdx a) v s
  else if w = 3 && bit v 35 && mapAdapt (mapCfg s u p) = 0xC then applyShim u p v s
  else if w < 12 then applyMap before plan u p w v s
  else if w = 15 then .ok (portPut (portKey u p) { portGet s (portKey u p) with cnt0 := 0, cnt1 := 0 } s)
  else .ok s

def writeDeck (a : Nat) (v : Word) (s : State) : Applied :=
  let d := ctlNum a
  let idx := ctlIdx a
  if idx = 0 then .ok (storeWord a v s)
  else if idx = 3 then .ok (cwSet a 0 s)
  else if idx = 0x10 then applyDeckGen d v s
  else if idx = 0x11 then applyDeckChk d v s
  else if 0x100 ≤ idx && idx ≤ 0x17F then
    let k := d * 32 + (idx - 0x100) / 4
    (match idx % 4 with
    | 0 => applyRszCfg k v s
    | 1 => applyRszRun k v s
    | _ => .ok s)
  else .ok s

def writeProof (a : Nat) (v : Word) (s : State) : Applied :=
  if ctlIdx a < 0x7FF then applyGrp (ctlNum a) (ctlIdx a) v s
  else if ctlIdx a = 0x7FF then applyPrfCtrl (ctlNum a) v s
  else .ok s

def writeQueue (src : Nat) (plan : State) (a : Nat) (v : Word) (s : State) : Applied :=
  let idx := ctlIdx a
  let w := idx % 4
  match ctlNum a with
  | 0 => if w < 3 then applyCq src plan (idx / 4) w v s else .ok s
  | 1 => if w < 3 then applyCq src plan (1024 + idx / 4) w v s else .ok s
  | 2 => if w < 3 then applyHq src plan (idx / 4) w v s else .ok (cwSet a 0 s)
  | 3 => if w = 1 then applyMateWm v s
    else if w = 2 then .ok (if bit v 35 then flushMate src s else s)
    else if w = 3 then .ok (cwSet a 0 s)
    else .ok s
  | _ => .ok (if w = 3 then cwSet (a - 2) 0 (cwSet (a - 1) 0 (cwSet a 0 s)) else s)

/-- Class PC: counters, selections, freezes, overflows, engine status. -/
def writePc (a : Nat) (v : Word) (s : State) : Applied :=
  let i := ctlIdx a % 0x800
  if i ≤ 7 then .ok (writeCounter (pcEngine (ctlNum a) (ctlIdx a)) i 0 v s)
  else if i = 0x19 then .ok (clearOnes a 0xFF0000000 v s)
  else if 0x10 ≤ i && i ≤ 0x18 then .ok (storeWord a v s)
  else if i = 0x7F2 || i = 0x7F3 then .ok (cwSet a 0 s)
  else .ok s

def writeClk (a : Nat) (v : Word) (s : State) : Applied :=
  let idx := ctlIdx a
  match ctlNum a with
  | 0 =>
    if idx = 0 then applySyncCtrl v s
    else if idx = 2 then .ok (cwSet a 0 s)
    else if idx = 0x10 || idx = 0x11 then applyRecClk (idx - 0x10) v s
    else .ok s
  | n + 1 => if idx = 0x200 then applyRefCtrl n v s else .ok s

def writeAud (a : Nat) (v : Word) (s : State) : Applied :=
  let p := ctlNum a
  let idx := ctlIdx a
  if idx = 0 then applyAudCfg p v s
  else if idx = 2 then .ok (cwSet a 0 s)
  else if idx = 0x10 || idx = 0x11 then applyOw (2 * p + (idx - 0x10)) v s
  else .ok s

def writePwr (a : Nat) (v : Word) (s : State) : Applied :=
  let n := ctlNum a
  let idx := ctlIdx a
  if n ≤ 55 then applyReq n (fld v 35 33) s
  else if idx = 0 then applyPkgCtrl v s
  else if 0x10 ≤ idx && idx ≤ 0x17 then (if idx % 2 = 0 then applyVloop ((idx - 0x10) / 2) v s else .ok s)
  else if idx = 0x20 then .ok (storeWord a v s)
  else if idx = 0x21 then .ok (cwSet a 0 s)
  else .ok s

/-- The words of a host ring (R484): SIZE is judged where EN is 1. -/
def writeHost (a : Nat) (v : Word) (s : State) : Applied :=
  let idx := ctlIdx a
  if idx = 0x40 then applyCtxOp v s
  else if idx = 0x20 then .ok (storeWord a v s)
  else if idx < 0x20 && idx % 4 ≤ 2 then
    let q := idx / 4
    let on := hrOn s q
    let new := v &&& BitVec.ofNat 36 ((wordStore a).getD 0)
    if on && (if idx % 4 = 2 then decide (fld new 34 15 ≠ hrSize s q) else decide (new ≠ cwGet s a)) then .error St.portEnabled
    else if idx % 4 = 2 && bit new 35 && (fld new 34 15 < 64 || fld new 34 15 > 1048575) then .error St.thrRange
    else
      let t := cwSet a new s
      .ok (if idx % 4 = 2 && bit new 35 && !on then ringPut_ q { ringOf t q with head := 0, tail := 0 } t else t)
  else .ok s

def writeCen (a : Nat) (v : Word) (s : State) : Applied :=
  let idx := ctlIdx a
  if idx = 0x84 || idx = 0x86 then .ok (storeWord a v s)
  else if idx = 0x85 then .ok (clearCensus v s)
  else .ok s

def writePair (before plan : State) (a : Nat) (v : Word) (s : State) : Applied :=
  let p := pairOf a
  let w := ctlIdx a % 128
  if w < 3 then applyPrt before plan p w v s
  else if w = 7 then
    .ok (prtPut p { prtGet s p with switches := 0, rejects := 0, farSw := 0, noTimer := 0 } s)
  else if w = 96 || w = 97 then applyHl before plan p w v s
  else if w = 103 then
    .ok (hlPut p { hlGet s p with hitlessSw := 0, bounded := 0, blind := 0, recent := 0, aligns := 0 } s)
  else .ok s

/-- Apply one write to a control word, against the state before its window and the set-up that its window gives; a reserved
address is refused (R52), a read-only word takes no write. The source is that of the records the write causes (R485). -/
def applyWord (src : Nat) (before plan : State) (a : Nat) (v : Word) (s : State) : Applied :=
  if (wordStore a).isNone then .error St.cfgRange
  else
    let c := ctlClass a
    if c = clsLane then writeLane plan a v s
    else if c = clsFec then writeFec plan a v s
    else if c = clsFramer then writeFramer plan a v s
    else if c = clsOh then writeOh a v s
    else if c = clsMap then writeMap before plan a v s
    else if c = clsDeck then writeDeck a v s
    else if c = clsFine then applyBlk plan (ctlNum a) (ctlIdx a) v s
    else if c = clsProof then writeProof a v s
    else if c = clsProt then .ok (if ctlIdx a = 1 then cwSet a 0 s else s)
    else if c = clsQueue then writeQueue src plan a v s
    else if c = clsChk then .ok (if ctlIdx a = 0 then cwSet a 0 s else s)
    else if c = clsPc then writePc a v s
    else if c = clsClk then writeClk a v s
    else if c = clsAud then writeAud a v s
    else if c = clsPwr then writePwr a v s
    else if c = clsMate then
      (if ctlIdx a = 0 then applyMateCtrl v s
       else .ok (if ctlIdx a = 9 then cwSet (mateAddr 7) 0 (cwSet (mateAddr 8) 0 s) else s))
    else if c = clsHost then writeHost a v s
    else if c = clsCen then writeCen a v s
    else if c = clsPair then writePair before plan a v s
    else .ok s

/-- CONTROL_WORD_WRITE: one write of a commit window to a word. -/
def execControlWordWrite (o : Origin) (addr : BitVec 24) (v : Word) (s : State) : Result :=
  .next (settle o .word addr.toNat s (applyWord (srcNumber o.src) s (planWrite s addr.toNat v s) addr.toNat v s))

end Sys2Proof.Machine
end

