-- ==== Sys2Proof/Machine/View.lean ====
section
/-! DEFINITION. Control words as they read: stored fields, live status, fields latched at T0, and what a guest sees of them
(spec 00 R9, R12, 01 R37, R41, the field maps of chapters 02 to 16, 14 R490). -/

namespace Sys2Proof.Machine

/-- A signed number in n bits, two's complement. -/
def twos (n : Nat) (x : Int) : Nat := (x % (2 ^ n : Int)).toNat
/-- A signed number held to n bits. -/
def holdSigned (n : Nat) (x : Int) : Int := max (-(2 ^ (n - 1) : Int)) (min (2 ^ (n - 1) - 1) x)

/-! ### Lanes -/

def laneStCode : LaneSt → Nat
  | .off => 0
  | .pllWait => 1
  | .cdrAcq => 2
  | .adapt => 3
  | .ready => 4
  | .training => 5
  | .hold => 6

/-- The transmitter of a lane drives its land (R64, R65). -/
def laneDrives (s : State) (side lane : Nat) : Bool :=
  let w := laneCfg s side lane
  let l := laneGet s (laneKey side lane)
  bit w 35 && bit w 24 && l.st != .off && l.st != .hold &&
    (if side = 0 then drivesLine s else s.ilk == .holding || bit w 23)

/-- LANE_STAT (Table 2-7). -/
def laneStat (s : State) (side lane : Nat) : Word :=
  let l := laneGet s (laneKey side lane)
  mkWord [(33, laneStCode l.st), (32, b2n l.sigDet), (31, b2n l.cdrLock), (30, b2n l.onFlex), (28, l.train),
    (27, b2n (!laneDrives s side lane))]

def readLane (s : State) (a : Nat) : Word :=
  let lane := ctlNum a
  let side := idxSide (ctlIdx a)
  let w := idxWord (ctlIdx a)
  let l := laneGet s (laneKey side lane)
  if w = 1 then laneStat s side lane
  else if w = 0x11 || (0x38 ≤ w && w ≤ 0x3E) then latched s a
  else if (w = 0x40 || w = 0x41) && bit (laneCfg s side lane) 25 && (l.train = 1 || l.train = 2) then tabGet 0 l.ffe (w - 0x40)
  else if w = 0x51 then mkWord [(35, b2n l.prbsLock), (34, b2n l.prbsLost)]
  else if w = 0x52 then BitVec.ofNat 36 l.prbsErrSnap
  else if w = 0x53 then BitVec.ofNat 36 (l.prbsBitsSnap / 2 ^ 36)
  else if w = 0x54 then BitVec.ofNat 36 l.prbsBitsSnap
  else cwGet s a

/-! ### Status words by block -/

/-- MAP_SLOT with K, the slots or grains that an enabled port occupies (Table 5-5). -/
def mapSlotWord (s : State) (u p : Nat) : Word :=
  putFld (cwGet s (mapAddr u p 2)) 20 9 (if mapLive (mapCfg s u p) then portK s u p else 0)

/-- Bits of CQ_CTRL that are stored. -/
def cqStored : Word := 0xFDFFF8000

/-- The fixed word 0 of the mate queue (R431): EN 1, POLICY 1, BASE 0, SIZE 512. -/
def mateQueueCfg : Word := mkWord [(35, 1), (34, 1), (7, 512)]

def readQueue (s : State) (a : Nat) : Word :=
  let w := ctlIdx a % 4
  match ctlNum a with
  | 0 => if w = 2 then (cwGet s a &&& cqStored) ||| latched s a else cwGet s a
  | 1 => if w = 2 then (cwGet s a &&& cqStored) ||| latched s a else cwGet s a
  | 2 => if w = 2 then latched s a else cwGet s a
  | 3 => if w = 0 then mateQueueCfg else if w = 2 then latched s a else cwGet s a
  | _ => if w = 0 then latched s a else cwGet s a

def readDeck (s : State) (a : Nat) : Word :=
  let idx := ctlIdx a
  let k := dieDeck s (ctlNum a)
  if idx = 1 || (0x100 ≤ idx && idx % 4 = 2) then latched s a
  else if idx = 2 then k.chk
  else if idx = 0x11 then putFld (cwGet s a) 34 34 (b2n k.prbsLock)
  else if idx = 0x12 then BitVec.ofNat 36 k.prbsErrSnap
  else cwGet s a

def readPc (s : State) (a : Nat) : Word :=
  let e := pcEngine (ctlNum a) (ctlIdx a)
  let i := ctlIdx a % 0x800
  if i = 8 || i = 9 then counterLive s e i
  else if i = 0x7F0 then engStat s e
  else if i = 0x7F1 then engT1 s e
  else cwGet s a

def readClk (s : State) (a : Nat) : Word :=
  let idx := ctlIdx a
  match ctlNum a with
  | 0 => if idx = 1 || idx = 3 || idx = 0x12 then latched s a else cwGet s a
  | n + 1 =>
    if idx = 0x201 then
      let c := refGet s n
      mkWord [(35, b2n c.aValid), (34, b2n c.bValid), (32, c.inUse)]
    else cwGet s a

def readAud (s : State) (a : Nat) : Word :=
  let idx := ctlIdx a
  if idx = 1 || idx = 0x18 || idx = 0x19 then latched s a else cwGet s a

def readPwr (s : State) (a : Nat) : Word :=
  let n := ctlNum a
  let idx := ctlIdx a
  if n ≤ 55 then
    cwGet s a ||| latched s a ||| mkWord [(29, b2n (domRaised s n)), (28, b2n (domGet s n).fault)]
  else if idx = 1 then latched s a
  else if idx = 2 then
    mkWord [(28, tempField (tjMax s.meas)), (20, tempField s.meas.tj0), (12, tempField s.meas.tj1), (4, tempField s.meas.tjHub)]
  else if 0x10 ≤ idx && idx ≤ 0x17 && idx % 2 = 1 then latched s a
  else cwGet s a

def linkCode : Link → Nat
  | .down => 0
  | .lock => 1
  | .key => 2
  | .up => 3
  | .hold => 4

def ilkCode : Ilk → Nat
  | .released => 0
  | .arming => 1
  | .holding => 2
  | .blocked => 3

/-- MATE_STAT (Table 12-12). -/
def mateStat (s : State) : Word :=
  mkWord [(33, linkCode s.link.st), (31, ilkCode s.ilk), (30, b2n s.rdn.grant), (29, b2n s.rdn.mateIlk),
    (28, b2n s.rdn.conflict), (27, b2n s.rdn.provisional), (26, b2n s.bank.valid),
    (25, b2n (s.rdn.sweepTx.isSome || s.rdn.sweepRx.isSome)), (24, b2n s.link.clash), (12, starterAge s),
    (7, onesBelow s.test.passed 30), (2, firstFail s), (1, b2n (decide (s.test.failed ≠ 0))), (0, s.straps.seat.val)]

def readMate (s : State) (a : Nat) : Word :=
  match ctlIdx a with
  | 1 => putFld (latched s a) 0 0 s.straps.seat.val
  | 2 => mkWord [(17, ceilDiv (starterWords s) 8)]
  | 3 => BitVec.ofNat 36 (s.rdn.own.toNat / 2 ^ 36)
  | 4 => BitVec.ofNat 36 s.rdn.own.toNat
  | 5 => latched s a
  | 6 => latched s a
  | _ => cwGet s a

def readHost (s : State) (a : Nat) : Word :=
  if ctlIdx a = 0x21 then BitVec.ofNat 36 (s.intPend % 2 ^ 32) else cwGet s a

/-- A mask of the rings whose session meets a test. -/
def sessMask (s : State) (f : Session → Bool) : Nat := maskOf ([0, 1, 2, 3].filter fun q => f (sessGet s q))

/-- SEC_STAT, SEC_FW and SEC_LOAF_FLOOR (Table 13-12). -/
def readSec (s : State) (a : Nat) : Word :=
  match ctlIdx a with
  | 0 => mkWord [(35, b2n (ownerKey s).isSome), (34, b2n s.sec.unlocked), (33, b2n (!s.straps.claimL)), (29, s.sec.qcause),
      (25, sessMask s (·.opened)), (21, sessMask s fun k => k.opened && k.own)]
  | 1 => mkWord [(20, (floors s).fw % 65536), (4, (match s.sec.fw with | some r => r.2 | none => 0) % 65536),
      (2, (floors s).pin % 4)]
  | 2 => BitVec.ofNat 36 (floors s).loaf
  | _ => 0

/-- NVM_STAT (Table 13-12). -/
def readNvm (s : State) (a : Nat) : Word :=
  let bankB := match s.sec.fw with | some r => r.1 | none => false
  if ctlIdx a = 1 then
    mkWord [(35, b2n s.nvm.busy.isSome), (32, s.nvm.target), (28, s.nvm.result), (27, b2n s.nvm.starter.atB),
      (26, b2n s.nvm.starter.current.isSome), (25, b2n bankB),
      (24, b2n (candidate s (if bankB then s.nvm.fwA else s.nvm.fwB)).isSome), (0, Nat.min s.nvm.stores 0xFFFFFF)]
  else 0

def readCen (s : State) (a : Nat) : Word :=
  let idx := ctlIdx a
  if 0x80 ≤ idx && idx ≤ 0x83 then latched s a
  else if idx = 0x84 then putFld (cwGet s a) 33 33 (b2n (runningMode s.mode))
  else cwGet s a

def readPair (s : State) (a : Nat) : Word :=
  let p := pairOf a
  let k := prtGet s p
  let h := hlGet s p
  match ctlIdx a % 128 with
  | 3 => latched s a
  | 4 => latched s a
  | 5 => mkWord [(18, Nat.min k.switches 0x3FFFF), (0, Nat.min k.rejects 0x3FFFF)]
  | 6 => mkWord [(18, Nat.min k.farSw 0x3FFFF), (0, Nat.min k.noTimer 0x3FFFF)]
  | 98 => latched s a
  | 99 => latched s a
  | 100 => mkWord [(24, h.wRing % 4096), (12, h.pRing % 4096),
      (0, (if (hlDie s p).isSome then (ringGet s h.wRing).pages else 0) % 4096)]
  | 101 => mkWord [(18, Nat.min h.hitlessSw 0x3FFFF), (0, Nat.min h.bounded 0x3FFFF)]
  | 102 => mkWord [(24, Nat.min h.blind 0xFFF), (12, Nat.min h.recent 0xFFF), (0, Nat.min h.aligns 0xFFF)]
  | _ => cwGet s a

/-- A control word as it reads; a reserved or write-only word reads 0. -/
def readWord (s : State) (a : Nat) : Word :=
  let idx := ctlIdx a
  match ctlClass a with
  | 0x00 => readLane s a
  | 0x02 =>
    if idx % 16 = 7 then BitVec.ofNat 36 (framerGet s (streamKey (ctlNum a) (idx / 16))).events
    else if 6 ≤ idx % 16 && idx % 16 ≤ 12 then latched s a
    else cwGet s a
  | 0x03 =>
    if idx < 0x800 then cellWord s (cellOf (ctlNum a) idx) (idx % 4)
    else if idx = 0x801 then s.pmTime
    else cwGet s a
  | 0x04 =>
    if idx < 0xC00 && idx % 16 = 2 then mapSlotWord s (ctlNum a) (idx / 16)
    else if idx < 0xC00 && 12 ≤ idx % 16 then latched s a
    else cwGet s a
  | 0x05 => readDeck s a
  | 0x07 => if idx ≥ 0x800 then latched s a else cwGet s a
  | 0x08 => if idx = 0 then latched s a else cwGet s a
  | 0x09 => readQueue s a
  | 0x0A => if idx = 1 then latched s a else cwGet s a
  | 0x0B => readPc s a
  | 0x0C => readClk s a
  | 0x0D => readAud s a
  | 0x0E => readPwr s a
  | 0x0F => readMate s a
  | 0x10 => readHost s a
  | 0x11 => readSec s a
  | 0x12 => readNvm s a
  | 0x13 => readCen s a
  | 0x14 => readPair s a
  | _ => cwGet s a

/-! ### What a guest sees (R379, R490) -/

/-- The G-marked bits of a control word. -/
def guestBits (a : Nat) : Nat :=
  let idx := ctlIdx a
  match ctlClass a with
  | 0x00 => if idxWord idx = 1 then 0xF08000000 else if idxWord idx = 0x11 then 0xFF0000000 else 0
  | 0x02 => if idx < 0xA00 && idx % 16 = 6 then 0xD80000000 else 0
  | 0x04 => if idx < 0xC00 && idx % 16 = 12 then 0xB00000000 else 0
  | 0x07 => if 0x800 ≤ idx && idx < 0xFFF then 0x800000000 else if idx = 0xFFF then 0x100 else 0
  | 0x0C => if ctlNum a = 0 then (if idx = 1 then 0xF00000000 else if idx = 0x12 then 0xD80000000 else 0)
    else if idx = 0x201 then 0xF00000000 else 0
  | 0x0D => if idx = 1 then 0xC00000000 else 0
  | 0x0E => if ctlNum a = 63 then (if idx = 1 then 0xFC3FF0000 else if idx = 2 then 0xFF0000000 else 0) else 0
  | 0x0F => if idx = 1 then 0xFF9FFF001 else if idx = 3 || idx = 4 then 0xFFFFFFFFF else 0
  | 0x10 => if idx = 0x21 then 0x0FFFFFFFF else 0
  | 0x11 => if idx = 0 then 0xFFE000000 else if idx = 1 then 0xFFFFFFFF0 else 0
  | 0x12 => if idx = 1 then 0x006000000 else 0
  | 0x13 => if idx ≤ 0x37 || (0x40 ≤ idx && idx ≤ 0x77) || (0x80 ≤ idx && idx ≤ 0x83) || idx = 0x87 || idx = 0x88 then 0xFFFFFFFFF
    else if idx = 0x84 then 0x200000000 else 0
  | 0x14 => if idx % 128 = 3 || idx % 128 = 98 then 0x800000000 else 0
  | _ => 0

/-- A guest may read a word: it holds a G-marked field and, in class CEN, the owner permits it (R379, R490). -/
def guestMay (s : State) (a : Nat) : Bool :=
  (wordStore a).isSome && guestBits a != 0 && (ctlClass a != clsCen || cwFld s (ctlAddr clsCen 0 0x84) 35 35 == 1)

/-- A word as a guest reads it: its G-marked fields, every other bit 0. -/
def guestWord (s : State) (a : Nat) : Word := readWord s a &&& BitVec.ofNat 36 (guestBits a)

/-! ### CFG.R and CFG.W (R41, R49 to R52, R378, R573) -/

/-- The scope of Table 1-6 for a unit program. -/
def unitScope (s : State) (u a : Nat) : Bool :=
  let num := ctlNum a
  let c := ctlClass a
  if c = clsLane || c = clsFec then num / 16 == regionOf u
  else if c = clsFramer || c = clsOh || c = clsMap then num == u
  else if c = clsPc then num == u && decide (ctlIdx a < 0x800)
  else if c = clsDeck || c = clsProof then num == dieOf u
  else if c = clsFine then num == regionOf u
  else if c = clsProt || c = clsChk then num == clusterOf u
  else if c = clsQueue then num == dieOf u
  else if c = clsClk then num == regionOf u + 1
  else if c = clsPair then (match homeDie s (pairOf a) with | some d => d == dieOf u | none => true)
  else false

/-- The counter words a unit program reaches (R378). -/
def pcReach (s : State) (e a : Nat) : Bool :=
  let i := ctlIdx a % 0x800
  ctlClass a != clsPc || e == 64 || (decide (i ≤ 0x29) && selfProfile s e) || (0x7F0 ≤ i && i ≤ 0x7F3)

/-- What becomes of a control-space access of the program that an engine runs. -/
inductive Access where
  | ok
  /-- a violation of a kind (census number less 56) -/
  | violates (kind : Nat)
  /-- refused with CFG_RANGE -/
  | refused
  deriving DecidableEq, Repr

/-- Judge an access. -/
def access (s : State) (e : Nat) (write : Bool) (a : Nat) : Access :=
  if inBatch s e then
    if rootOnly a then .violates 4
    else if !(sessGet s (batchRing s)).own && !guestMay s a then .violates 5
    else if reservedWord a then .refused
    else .ok
  else if reservedWord a then .violates 3
  else if rootOnly a then .violates 2
  else if !granted s e write (ctlClass a) || (e < 64 && !(unitScope s e a && pcReach s e a)) then .violates 2
  else .ok

/-- A control-space violation of the program under way (R455). -/
def accessViolation (kind e a : Nat) (s : State) : State := violation kind (violSource s e (inBatch s e)) a s

/-- The control-space address (gA + FN) mod 2^24 (Table 9-6). -/
def ctlTarget (s : State) (e gA off : Nat) : Nat := ((operand s e gA).toNat + off) % 2 ^ 24

/-- CFG.R (R41, R52). -/
def execCfgR (i : IssA) (gD gA : Reg) (off : BitVec 16) (s : State) : Result :=
  .next (issue (issueOfA i) { reads := [gA.val], writes := [gD.val], lat := 64 } (fun s =>
    let e := i.eng.val
    let a := ctlTarget s e gA.val off.toNat
    match access s e false a with
    | .ok =>
      setReg e gD.val (if inBatch s e && !(sessGet s (batchRing s)).own then guestWord s a else readWord s a) s
    | .violates k => setReg e gD.val 0 (accessViolation k e a s)
    | .refused => setReg e gD.val 0 (refuseRead e St.cfgRange .word a s)) s)

/-- CFG.W (R39): staged; a reserved address is refused as an effect of its batch when the window applies it (R52). -/
def execCfgW (i : IssA) (gA gB : Reg) (off : BitVec 16) (s : State) : Result :=
  .next (issue (issueOfA i) { reads := [gA.val, gB.val], staged := 1 } (fun s =>
    let e := i.eng.val
    let a := ctlTarget s e gA.val off.toNat
    match access s e true a with
    | .violates k => accessViolation k e a s
    | _ => stage e (.cfgW a (operand s e gB.val)) s) s)

end Sys2Proof.Machine
end

