-- ==== Sys2Proof/Machine/Guest.lean ====
section
/-! DEFINITION. The guest port, the JTAG port, debug tokens and the trace (spec 13 R456, R457, 14 R489 to R493). -/

namespace Sys2Proof.Machine

/-! ### Guest port (R489 to R491) -/

/-- The guest port answers: in every mode while PD48 is powered. -/
def guestUp (s : State) : Bool := powered s && domRuns s 48

def guestPut (g : Guest) (s : State) : State := s.putGuest g

/-- The address byte of a read: 58h + GA[1:0] and the R bit. -/
def guestReadByte (s : State) : Nat := (0x58 + s.straps.ga.val) * 2 + 1

/-- A read ends with its PEC over every byte of the transaction (R489). -/
def guestReply (bytes : List Nat) (s : State) : State :=
  emit (.guest (bytes ++ [checkOf 3 (guestReadByte s :: bytes)])) s

/-- A transaction of a command: a write takes its parameters where their number is right, else it is NAKed; a read is
answered where the command is the one last written. -/
def guestIo (cmd params : Nat) (io : GuestIo) (take : List Nat → State → State) (give : Nat → State → State) (s : State) :
    Result :=
  .next (if !guestUp s then s
    else match io with
      | .write bs =>
        if bs.length = params then take (bs.map (·.val)) (guestPut { s.guest with cmd := cmd } s) else emit .guestNak s
      | .read n => if s.guest.cmd = cmd then give n s else s)

/-- A little-endian number. -/
def leNat (bs : List Nat) : Nat := bs.foldr (fun b v => b + 256 * v) 0

/-- Words read from an address on; a word the guest may not see reads 0 and is a violation (R490). -/
def guestWords (a : Nat) : Nat → State → List Nat × State
  | 0, s => ([], s)
  | n + 1, s =>
    let a := a % 2 ^ 24
    let may := guestMay s a
    let r := guestWords (a + 1) n (if may then s else violation 5 68 a s)
    (leBytes 5 (if may then (guestWord s a).toNat else 0) ++ r.1, r.2)

/-- GUEST_ADDR (Table 14-11, 01h). -/
def execGuestAddr (io : GuestIo) (s : State) : Result :=
  guestIo 0x01 3 io (fun bs s => guestPut { s.guest with addr := leNat bs } s)
    (fun n s =>
      let r := guestWords s.guest.addr (ceilDiv n 5) s
      guestReply (r.1.take n) (guestPut { r.2.guest with addr := (s.guest.addr + n / 5) % 2 ^ 24 } r.2)) s

/-- GUEST_ATT_NONCE (10h, R491): within 1 s of the one taken before it is refused; it returns nothing to a read. -/
def execGuestAttNonce (io : GuestIo) (s : State) : Result :=
  guestIo 0x10 32 io
    (fun bs s =>
      if tickCount s < s.guest.lastAt then guestPut { s.guest with stat := 3 } s
      else guestPut { s.guest with stat := 1, report := [], nonce := bs, lastAt := tickCount s + ticksPerSecond } s)
    (fun _ s => emit .guestNak s) s

/-- GUEST_ATT_STAT (11h). -/
def execGuestAttStat (io : GuestIo) (s : State) : Result :=
  guestIo 0x11 0 io (fun _ s => s) (fun n s => guestReply ((s.guest.stat :: List.replicate n 0).take n) s) s

/-- GUEST_ATT_OFF (12h): report bytes from the offset on; past byte 539 they read 0. -/
def execGuestAttOff (io : GuestIo) (s : State) : Result :=
  guestIo 0x12 2 io (fun bs s => guestPut { s.guest with off := leNat bs } s)
    (fun n s => guestReply ((List.range n).map fun i => s.guest.report.getD (s.guest.off + i) 0) s) s

/-- GUEST_SCL_TIMEOUT (R489): SCL low for more than 35 ms resets the port's command, address and offset. -/
def execGuestSclTimeout (s : State) : Result := .next (guestPut { s.guest with cmd := 0, addr := 0, off := 0 } s)

/-- ATTEST_COMPLETE (R491, R453): the report that ATT_NONCE started. -/
def execAttestComplete (s : State) : Result :=
  .next (if s.guest.stat = 1 then
      spend 96 (guestPut { s.guest with stat := 2, report := report true s.guest.nonce s } s)
    else s)

/-! ### Boundary scan (R492) -/

/-- A boundary-scan instruction: the lands are captured, the register shifts out what it captured and takes what shifts in,
and the update latch takes that. -/
def scan (code : Nat) (lands tdi : List Bool) (s : State) : State :=
  emit (.jtag lands) (s.putJtag { s.jtag with ir := code, bsr := tdi, upd := tdi })

/-- The lands take the update latch under the instruction of a code. -/
def driveLands (code : Nat) (s : State) : State := emit (.lands code s.jtag.upd) s

/-- EXTEST: the lands carry the update latch. -/
def execExtest (lands tdi : List Bool) (s : State) : Result :=
  .next (if s.phase = .off then s else driveLands 0x00 (scan 0x00 lands tdi s))

/-- SAMPLE/PRELOAD: the lands keep their function. -/
def execSamplePreload (lands tdi : List Bool) (s : State) : Result :=
  .next (if s.phase = .off then s else scan 0x01 lands tdi s)

/-- EXTEST_PULSE (IEEE 1149.6). -/
def execExtestPulse (lands tdi : List Bool) (s : State) : Result :=
  .next (if s.phase = .off then s else driveLands 0x02 (scan 0x02 lands tdi s))

/-- EXTEST_TRAIN (IEEE 1149.6). -/
def execExtestTrain (lands tdi : List Bool) (s : State) : Result :=
  .next (if s.phase = .off then s else driveLands 0x03 (scan 0x03 lands tdi s))

/-- Bits shifted through the bypass register: it captures 0. -/
def throughBypass (tdi : List Bool) : List Bool := (false :: tdi).take tdi.length

/-- BYPASS. -/
def execBypass (tdi : List Bool) (s : State) : Result :=
  .next (if s.phase = .off then s else emit (.jtag (throughBypass tdi)) (s.putJtag { s.jtag with ir := 0xFF }))

/-! ### Debug (R456, R457, R492, R493) -/

/-- The low n bits of a number, least significant first. -/
def bitList (n v : Nat) : List Bool := (List.range n).map v.testBit

/-- DBG_NONCE (R456). -/
def execDbgNonce (s : State) : Result :=
  .next (if s.phase = .off then s else emit (.jtag (bitList 256 s.sec.nonce.toNat)) (s.putJtag { s.jtag with ir := 0x10 }))

/-- The body of a token is as R456 asks, for this device and its nonce. -/
def tokenBodyOk (s : State) (ls : List (BitVec 288)) : Bool :=
  ls.length == 8 && lineByte ls 0 == 1 && lineByte ls 1 == 1 && decide (lineByte ls 2 < 4) &&
    (List.range 108).all (fun i => decide (i < 3) || (decide (8 ≤ i) && decide (i < 88)) || lineByte ls i == 0) &&
    lineNat ls 56 32 == s.sec.nonce.toNat && lineNat ls 8 48 == Config.deviceId.toNat

/-- DBG_TOKEN (R457): accepted in TEST or QUARANTINE where the body is good and its block is valid under the owner key
(`sigOk`); a rejected one is a violation and DBG_NONCE takes a fresh value. -/
def execDbgToken (lines : List (BitVec 288)) (sigOk : Bool) (s : State) : Result :=
  .next (if !powered s then s
    else
      let s := s.putJtag { s.jtag with ir := 0x11 }
      if (s.mode = .test || s.mode = .quarantine) && sigOk && (ownerKey s).isSome && tokenBodyOk s lines then
        let s := endSessions true ((s.putBank {}).putSpare {})
        let s := linkLeave .down 0 (s.putSec { s.sec with
          slots := 0, sealed := none, unlocked := true, scope := lineByte lines 2 })
        retarget 2 (fun _ => false) s
      else
        let s := violation 6 69 0 s
        spend 8 (s.putSec { s.sec with nonce := freeNonce s }))

/-- The scope that a debug access needs is open. -/
def debugOpen (s : State) (bit : Nat) : Bool := s.sec.unlocked && s.sec.scope.testBit bit

/-- A use of a debug instruction outside its scope: the bypass register, and a violation of source 69 (R492). -/
def debugBarred (s : State) : State := violation 6 69 0 (emit (.jtag [false]) (s.putJtag { s.jtag with ir := 0xFF }))

/-- DBG_CFG (R492): a read, or a write that waits for the commit window, at OWNER level; TRACE_SEL needs the scope of the
trace (R493). -/
def execDbgCfg (write : Bool) (addr : BitVec 24) (data : Word) (s : State) : Result :=
  let a := addr.toNat
  .next (if !powered s then s
    else if !debugOpen s (if a = traceSelAddr then 1 else 0) then debugBarred s
    else
      let s := s.putJtag { s.jtag with ir := 0x12 }
      if a != traceSelAddr && rootOnly a then violation 4 69 a (emit (.jtag (bitList 36 0)) s)
      else if write then s.putJtag { s.jtag with staged := s.jtag.staged ++ [(a, data)] }
      else
        let v := if a = traceSelAddr then s.jtag.sel else if (wordStore a).isSome then readWord s a else 0
        emit (.jtag (bitList 36 v.toNat)) s)

/-- DBG_TRACE (R492): the addresses held, oldest first, 16 bits each. -/
def execDbgTrace (s : State) : Result :=
  .next (if !powered s then s
    else if !debugOpen s 1 then debugBarred s
    else emit (.jtag (s.trace.flatMap (bitList 16))) (s.putJtag { s.jtag with ir := 0x13 }))

/-- A write to TRACE_SEL lands (R493): an engine above 64 has no effect; setting EN clears the trace. -/
def applyTraceSel (v : Word) (s : State) : State :=
  if fld v 35 29 > 64 then s
  else (s.putJtag { s.jtag with sel := v &&& 0xFF0000000 }).putTrace (if bit v 28 then [] else s.trace)

/-- TRACE_SEL. -/
def execTraceSel (v : Word) (s : State) : Result := .next (if debugOpen s 1 then applyTraceSel v s else s)

end Sys2Proof.Machine
end

