-- ==== Sys2Proof/Machine/Tick.lean ====
section
/-! DEFINITION. The tick: passes, their overrun, the commit window, the tier-1 delta, T0 (spec 00 R9, 01 R17 to R19, R37 to
R46, 12 R398 to R405, R417). -/

namespace Sys2Proof.Machine

/-! ### Time of an engine within the tick -/

/-- Domain of an engine. -/
def engDomain (e : Nat) : Nat := if e = 64 then 46 else clusterOf e

/-- An engine has gone through n cycles of its tick: those not yet counted pass idle, or at an instruction with a duration,
where they are stall cycles (R368); an engine whose domain is below L0 has no clock (R362, Table 16-2). -/
def reachCycle (e n : Nat) (s : State) : State :=
  let E := engGet s e
  let k := n - E.tickCyc
  if k = 0 || !domRuns s (engDomain e) then s
  else if E.running = .waits then
    passCycles e { cycles := k, passCyc := k, stall := 2 * k, sMulti := k } s
  else passCycles e { cycles := k } s

/-- All engines. -/
def engineIds : List Nat := List.range 65

def reachAll (n : Nat) (s : State) : State := engineIds.foldl (fun s e => reachCycle e n s) s

/-! ### Passes (R19, R38, R302) -/

/-- A unit runs a loaf pass: it has an image, and its cluster stood at L0 at T0, not for a self-test burst only (R19, R324,
R523). -/
def unitPasses (s : State) (u : Nat) : Bool :=
  (imageOf s u).isSome && fld (latched s (ctlAddr clsPwr (clusterOf u) 0)) 32 30 == 0 && domRuns s (clusterOf u) &&
    !(domGet s (clusterOf u)).burst

/-- The hub engine has a tick pass. -/
def hubPasses (s : State) : Bool := (imageOf s 64).isSome && domRuns s 46

/-- A pass of the tick starts on an engine. -/
def startPass (e : Nat) (s : State) : State :=
  let s := startRun e .pass s
  engPut e { engGet s e with started := true, ended := false, staged := [] } s

/-- The batch under way on the hub engine is suspended (R38). -/
def suspendBatch (s : State) : State :=
  let E := engGet s 64
  if E.running = .batch || E.running = .waits then
    (engPut 64 { E with running := .idle, bundle := {}, loops := [], calls := [], landing := [], item := none } s).putSuspended (some E)
  else s

/-- PASS_START (R38): at tick +2 µs every unit pass and the hub pass start; without a hub pass the batch goes on at once. -/
def execPassStart (s : State) : Result :=
  .next (if powered s then
      let s := suspendBatch (reachAll 2000 s)
      let s := (List.range 64).foldl (fun s u => if unitPasses s u then startPass u s else s) s
      if hubPasses s then startPass 64 s else resumeBatch s
    else s)

/-- The pass of one engine is stopped at tick +122 µs: its staged effects and its open item go, and it is counted and
recorded (R18). -/
def overrunEngine (e : Nat) (s : State) : State :=
  if (engGet s e).running = .pass then
    let s := dropItem e s
    let s := engPut e { engGet s e with
      running := .idle, ended := false, staged := [], bundle := {}, loops := [], calls := [], landing := [] } s
    let s := cwCount (pcAddr e 0x7F3) 1 s
    cenInc (if e = 64 then 34 else 32 + dieOf e) (record0 0x09 srcHardware (mkWord [(29, e)]) s)
  else s

/-- PASS_OVERRUN (R18): every pass that still runs. -/
def overrunAll (s : State) : State := engineIds.foldl (fun s e => overrunEngine e s) s

def execPassOverrun (s : State) : Result := .next (if powered s then overrunAll s else s)

/-! ### Effects of a window (R39, R43, Table 1-6) -/

/-- A staged effect with its issuer. -/
abbrev Effect := Origin × StagedOp

/-- Rank of the category of an effect (R43). -/
def opRank : StagedOp → Nat
  | .cfgW a _ => wordRank a
  | .deckW _ _ => 1
  | .deckSwap _ => 1
  | .protReq _ _ => 0
  | .ohPut _ field word _ => if field = 0x3F && word = 0 then 4 else 1
  | .defSet _ _ => 0
  | .defClr _ _ => 0
  | .filtSet _ _ _ => 1
  | .power _ _ => 3

def isSwap : StagedOp → Bool
  | .deckSwap _ => true
  | _ => false

/-- Effects of one engine, of one batch, of the debug port. -/
def engineEffects (s : State) (e : Nat) : List Effect :=
  (engGet s e).staged.map fun g =>
    ({ src := if h : e < 64 then .unit ⟨e, h⟩ else .hub, bundle := g.bundle }, g.op)

def batchEffects (b : BatchRun) : List Effect := b.staged.map fun g => ({ src := .batch b.id, bundle := g.bundle }, g.op)

def debugEffects (s : State) : List Effect := s.jtag.staged.map fun w => ({ src := .debug, bundle := 0 }, .cfgW w.1 w.2)

/-- The effects of a window in the order of R43 but for the category: units, the hub image, batches by completion, the debug
port. -/
def windowEffects (s : State) : List Effect :=
  engineIds.flatMap (engineEffects s) ++ s.batchesDone.flatMap batchEffects ++ debugEffects s

/-- The set-up that the writes of a window give. -/
def planOf (s : State) (l : List Effect) : State :=
  l.foldl (fun p e => match e.2 with | .cfgW a v => planWrite s a v p | _ => p) s

/-- An effect with the set-up that it is judged against. -/
abbrev Judged := Effect × State

/-- A set-up refuses an effect. -/
def planRefuses (plan : State) (e : Effect) : Bool :=
  match e.2 with
  | .cfgW a v => setupStatus plan a v != 0
  | _ => false

/-- The effects of a window with their set-ups (R60, R94, R164): a write that the set-up of its window refuses drops out of
it, and the set-up that results judges the others; each round drops one write at least. -/
def judge : Nat → State → List (Effect × Option State) → List Judged
  | 0, _, _ => []
  | n + 1, s, l =>
    let plan := planOf s ((l.filter fun e => e.2.isNone).map (·.1))
    let drops := fun (e : Effect × Option State) => e.2.isNone && planRefuses plan e.1
    if l.any drops then judge n s (l.map fun e => if drops e then (e.1, some plan) else e)
    else l.map fun e => (e.1, e.2.getD plan)

/-- A refused DECK.SWAP names the first failing entry where a check fails. -/
def landSwap (o : Origin) (before : State) (dies : Nat) (s : State) : State :=
  let r := applySwap before dies s
  if r.2 = 0 then r.1
  else
    let at_ := match namedDies dies with
      | d :: _ => if r.2 = St.deckCheck then fld (dieDeck r.1 d).chk 35 18 else 0
      | [] => 0
    refuse o r.2 .deck at_ r.1

/-- Apply one effect (R39). -/
def applyEffect (before : State) (s : State) (f : Judged) : State :=
  let o := f.1.1
  let plan := f.2
  match f.1.2 with
  | .cfgW a v =>
    if o.src = .debug && a = traceSelAddr then (if debugOpen s 1 then applyTraceSel v s else s)
    else settle o .word a s (applyWord (srcNumber o.src) before plan a v s)
  | .deckW a v => settle o .deck a s (applyDeckW a v s)
  | .deckSwap dies => landSwap o before dies s
  | .protReq op p => protLand o op p s
  | .ohPut id field word v => applyOhPut o id field word v s
  | .defSet id b => applyDef o id b true s
  | .defClr id b => applyDef o id b false s
  | .filtSet k w v => settle o .word (cellAddr (k / 2048) (k % 2048) w) s (applyFilt k w v s)
  | .power d st => landPower o d st s

/-- The effects of one category; every DECK.SWAP comes after every DECK.W (R216). -/
def applyRank (before : State) (l : List Judged) (s : State) (rank : Nat) : State :=
  let mine := l.filter fun f => opRank f.1.2 == rank
  let s := (mine.filter fun f => !isSwap f.1.2).foldl (applyEffect before) s
  (mine.filter fun f => isSwap f.1.2).foldl (applyEffect before) s

/-- All categories, protection first. -/
def applyEffects (before : State) (l : List Judged) (s : State) : State :=
  [0, 1, 2, 3, 4, 5].foldl (applyRank before l) s

/-- What was staged is applied, and gone. -/
def clearStaged (s : State) : State :=
  engineIds.foldl (fun s e => if (engGet s e).staged.isEmpty then s else engPut e { engGet s e with staged := [] } s)
    (s.putJtag { s.jtag with staged := [] })

/-! ### Records of a window -/

/-- Filter cells that accepted a value since the last window opened, with their FILT_CHG records (R146, R160). -/
def filtRecords (s : State) : List (List Word) :=
  s.cells.filterMap fun e =>
    let w := cellCfg s e.1
    if e.2.got = 0 || !bit w 2 then none
    else
      let kind := fld w 34 33
      let id := cellCtx w
      let field := fld w 14 9
      some ([mkWord [(25, e.1 % 2048), (11, id), (5, field), (3, kind), (0, Nat.min e.2.got 7)], s.tick] ++
        (if kind = 1 then (List.range 16).map fun k => ohWord s id field (16 + k) else [e.2.acc]))

def clearGot (s : State) : State := s.putCells (tabMap {} (fun (c : Cell) => { c with got := 0 }) s.cells)

/-- ENG_FAULT of an engine (R335), whose instruction caused it (R485). -/
def engFault (e : Nat) (s : State) : State :=
  match (engGet s e).errEvent with
  | some (cause, bundle) =>
    record0 0x18 e (mkWord [(29, e), (26, cause), (13, bundle % 8192)])
      (engPut e { engGet s e with errEvent := none } s)
  | none => s

/-- CREDIT_CLIP of the host queues and of the mate queue (R344). -/
def creditClips (s : State) : State :=
  let s := (List.range 8).foldl (fun s q =>
    if (hqGet s q).clipped then
      record0 0x19 srcHardware (mkWord [(33, 2), (23, q)]) (hqPut q { hqGet s q with clipped := false } s)
    else s) s
  if s.link.clipped then
    record0 0x19 srcHardware (mkWord [(33, 3)]) (s.putLink { s.link with clipped := false })
  else s

/-- Starter frames discarded in the tick (R415). -/
def discardEvt (s : State) : State :=
  if s.link.discarded then mateEvt 0xC 0 0 (s.putLink { s.link with discarded := false }) else s

/-- Records due are placed; all but DECK_SWAP close with the tick counter of this window (R233, R486). -/
def placeDue (s : State) : State :=
  let l := s.due
  l.foldl (fun s r => record r.q r.ty srcHardware (if r.ty = 0x0F then r.ws else r.ws.dropLast ++ [s.tick]) s)
    (s.putDue [])

/-- An accepted loaf runs from the next T0; on the holder it causes a sweep (R332, Table 12-8). -/
def acceptLoaf (s : State) : State :=
  if s.loafNext.isSome && !s.loafDue then
    let s := s.putLoafDue true
    if s.ilk = .holding then resync 3 s else s
  else s

/-- What the hardware itself does in a window once the effects stand. -/
def windowChecks (s : State) : State :=
  acceptLoaf (protSws (prtChecks (rszArmDie 1 (rszArmDie 0 (rszRetry s)))))

/-- The records of a window. -/
def windowRecords (filts : List (List Word)) (s : State) : State :=
  let s := integRecord 1 (integRecord 0 (discardEvt s))
  let s := creditClips (engineIds.foldl (fun s e => engFault e s) (placeDue s))
  filts.foldl (fun s ws => record 1 0x05 srcHardware ws s) s

/-- The commit window (R38, R43, Table 1-4): overrun check, sampling of context words, staged effects by category and issuer,
records, completions, placement moves, SEAL, and the reset that a batch asked for (R528). -/
def commitWindow (s : State) : State :=
  let s := suspendBatch (reachAll 122000 (overrunAll s))
  let filts := filtRecords s
  let s := sampleAll (clearGot s)
  let l := windowEffects s
  let s := applyEffects s (judge (l.length + 1) s (l.map fun e => (e, none))) (clearStaged s)
  let s := windowRecords filts (windowChecks s)
  let s := takeSeal (placementPhase (placeCompletions s))
  if s.resetDue then wipe .inReset true s else s

/-- COMMIT_WINDOW. -/
def execCommitWindow (s : State) : Result := .next (if powered s then commitWindow s else s)

/-! ### The tier-1 delta, tier 2 and sweeps (R399, R402, R404, R417) -/

/-- The package keeps a starter of its live state: it holds, and what it took over from stands (R399, R423). -/
def keepsStarter (s : State) : Bool :=
  s.ilk == .holding && (s.mode == .active || (s.mode == .takeover && s.rdn.applied))

/-- The next three contexts of tier 2, from an ID on (R404). -/
def tier2Ids (s : State) : List Nat :=
  let ids := (s.ctxAt.map (·.1)).filter fun id => decide (ctxKind s id ≠ 0)
  ((ids.filter fun id => decide (id ≥ s.rdn.tier2)) ++ ids.filter fun id => decide (id < s.rdn.tier2)).take 3

def tier2Entries (s : State) : List (Nat × Word) :=
  (tier2Ids s).flatMap fun id => (List.range 64).map fun k => (ctxTarget (id * 128 + 64 + k), ctxWord s id (64 + k))

/-- Send the messages of a tick: tier 1, tier 2. -/
def sendTiers (es : List (Nat × Word)) (s : State) : State :=
  if sendsStarter s && linkOn s then
    let t2 := tier2Entries s
    let next := match (tier2Ids s).getLast? with | some id => (id + 1) % 16384 | none => 0
    let s := mateAppend (.tier1 s.tick s.wrap es) s
    mateAppend (.tier2 s.tick s.wrap t2) (s.putRdn { s.rdn with tier2 := next })
  else s

/-- Entries of one SWEEP message; the spec leaves its size open. -/
def sweepChunk : Nat := 65536

/-- Image entries in rising order of target. -/
def sweepEntries (st : Starter) (from_ : Nat) : List (Nat × Word) :=
  ((imageEntries st).foldl (fun t e => tabPut e.2 e.1 t) ([] : Tab Word)).filter fun e => decide (e.1 ≥ from_)

/-- One SWEEP message, read from the pantry starter as it stands, where the mate's credit takes it; the loaf goes with the
first (R417). -/
def sendSweep (s : State) : State :=
  match s.rdn.sweepTx with
  | some n =>
    let l := sweepEntries s.bank n
    let es := l.take sweepChunk
    let last := decide (l.length ≤ sweepChunk)
    let m : MateMsg := .sweep last (if n = 0 then s.bank.loaf else none) es
    if sendsStarter s && linkUp s && msgLines m ≤ s.link.cr then
      let s := mateAppend m s
      if last then mateEvt 4 0 0 (s.putRdn { s.rdn with sweepTx := none })
      else
        let next := es.foldl (fun k e => max k (e.1 + 1)) (n + 1)
        (s.putRdn { s.rdn with sweepTx := some next })
    else s
  | none => s

/-- Seal the delta of the tick, apply it to the pantry starter, queue the messages of the tick. -/
def sealDelta (s : State) : State :=
  let new := starterOf s
  let es := deltaOf s.bank new
  sendSweep ((sendTiers es s).putBank new)

/-- TIER1_DELTA_SEAL (R399). -/
def execTier1DeltaSeal (s : State) : Result := .next (if powered s && keepsStarter s then sealDelta s else s)

/-! ### T0: words latched (R37) -/

/-- Put a word in a table of latched words. -/
def latchPut (a : Nat) (v : Word) (t : Tab Word) : Tab Word := tabSet (latchReset a) t a v

/-- Latch a word for each of a list. -/
def latchEach {α : Type} (l : List α) (f : α → List (Nat × Word)) (t : Tab Word) : Tab Word :=
  l.foldl (fun t x => (f x).foldl (fun t w => latchPut w.1 w.2 t) t) t

/-- LANE_EQ_STAT and LANE_EQ_CUR of a lane (Tables 2-10, 2-11). -/
def laneLatch (k : Nat) (l : Lane) : List (Nat × Word) :=
  let a := fun w => laneAddr (k / 64) (k % 64) w
  (a 0x11, mkWord [(28, l.snr % 256), (24, l.atBound % 16)]) :: (List.range 7).map fun o => (a (0x38 + o), tabGet 0 l.eq o)

/-- FRM_STAT, FRM_SKEW, the counts and FRM_LANE_LOCK of a stream (Tables 3-12, 3-14, 3-15). -/
def frmLatch (s : State) (k : Nat) (f : Framer) : List (Nat × Word) :=
  let u := k / 160
  let n := k % 160
  let a := fun w => frmAddr u n w
  let c := frmCfg s u n
  let proto := frmProto c
  let hasMf := proto == 1 || proto == 2 || proto == 5 || proto == 6
  let oom := f.oom && (!frmLive c || hasMf)
  let up := !f.oof && (lanesOf (frmLanes s u n)).all fun l => (laneGet s (laneKey (fld c 30 30) l)).st == .ready
  let lock := if proto = 3 then b2n up else if proto = 6 then 0 else f.laneLock
  let mf := match f.mf with | some m => m % 256 | none => 0
  [(a 6, mkWord [(35, b2n f.oof), (34, b2n f.lof), (33, b2n oom), (32, b2n f.lom), (31, b2n f.lol), (30, b2n f.ambig),
      (29, b2n f.lanesDown), (24, f.ncand % 16), (16, mf)]),
    (a 8, if proto = 3 || proto = 6 then 0
      else mkWord [(28, Nat.min f.skew 255), (22, f.latest % 64), (16, f.earliest % 64)]),
    (a 9, BitVec.ofNat 36 f.mimics), (a 10, BitVec.ofNat 36 f.oofCnt),
    (a 11, mkWord [(18, hold18 f.ties), (0, hold18 f.ovf)]), (a 12, BitVec.ofNat 36 lock)]

/-- MAP_STAT and the counts of a port (Tables 5-14, 5-15). -/
def mapLatch (s : State) (u p : Nat) : List (Nat × Word) :=
  let q := portGet s (portKey u p)
  let w := mapCfg s u p
  let live := mapLive w
  let gfp := mapAdapt w == 9 || mapAdapt w == 0xA
  let cli := live && clientFailed s u p
  let srv := live && serverFailed s u p
  [(mapAddr u p 12, mkWord [(35, b2n (live && !cli && !srv)), (34, b2n q.txPend), (33, b2n cli), (32, b2n srv),
      (31, b2n q.replTx), (30, b2n q.replRx), (29, b2n (live && gfp && q.delin != .sync)), (28, b2n q.csfRx),
      (27, b2n q.calBusy), (26, b2n q.calUse), (25, b2n q.cmRange)]),
    (mapAddr u p 13, q.cnt0), (mapAddr u p 14, q.cnt1)]

/-- DECK_SWAP_STAT of a die, RSZ_STAT of a controller (Tables 6-9, 6-13). -/
def deckLatch (s : State) (d : Nat) : List (Nat × Word) :=
  let k := dieDeck s d
  [(ctlAddr clsDeck d 1, mkWord [(35, b2n k.pending), (34, b2n k.act), (32, k.last % 4), (28, k.cause % 16),
    (16, Nat.min k.lastTime 4095)])]

def rszLatch (k : Nat) (r : Rsz) : List (Nat × Word) := [(rszAddr k 2, mkWord [(33, r.step % 8), (0, r.rateNow % 2 ^ 32)])]

/-- PRF_STAT of a die (Table 7-10, R247). -/
def prfLatch (s : State) (d : Nat) : List (Nat × Word) :=
  let held := (dieRings s d).filter fun e => !e.2.freed
  let events := tabGet 0 s.substs d + tabGet 0 s.unverified d
  [(ctlAddr clsProof d 0xFFF, mkWord [(21, held.foldl (fun n e => n + e.2.pages) 0 % 32768), (9, held.length % 4096),
    (8, b2n (decide (events > integMax s d))), (0, Nat.min events 255)])]

/-- GRP_STAT of every enabled group (Table 7-9). -/
def grpLatch (s : State) : List (Nat × Word) :=
  (enabledWords s clsProof).filterMap fun a =>
    if ctlIdx a < 0x7FF then some (ctlAddr clsProof (ctlNum a) (0x800 + ctlIdx a), grpStat s (ctlNum a) (ctlIdx a)) else none

/-- FILL, CR and the high state of the queues (Tables 10-4, 10-6). -/
def cqLatch (s : State) (q : Nat) (c : ClientQueue) : List (Nat × Word) :=
  [(cqAddr q 2, mkWord [(14, b2n c.high), (0, ptrFill (cqSize s q) c.rp c.wp % 16384)])]

def hqLatch (s : State) (q : Nat) : List (Nat × Word) :=
  let h := hqGet s q
  let cr := if cwFld s (hqCfgAddr q) 34 34 = 1 then h.cr else 0
  [(hqAddr q 2, mkWord [(34, b2n h.high), (17, ptrFill (hqSize s q) h.rp h.wp % 131072), (0, cr % 131072)])]

def mateQueueLatch (s : State) : List (Nat × Word) :=
  [(ctlAddr clsQueue 3 2, mkWord [(34, b2n s.link.high), (17, mateFill s.link % 131072), (0, s.link.cr % 131072)])]

/-- Orderwire status: AUD_STAT, OW_STAT, slip buffer fills (Table 15-10, R517). -/
def audLatch (s : State) (p : Nat) : List (Nat × Word) :=
  let a := audioGet s p
  let on := portAudOn s p
  let one := fun (i : Nat) =>
    let c := 2 * p + i
    let k := chanGet s c
    let en := bit (owCfg s c) 35
    [(ctlAddr clsAud p (0x18 + i), mkWord [(35, b2n (en && mutedDir k true)),
        (34, b2n (en && (mutedDir k false || lineGone s k.rxCfg))), (33, b2n k.txPend), (32, b2n k.rxPend)]),
      (slipAddr c 0, mkWord [(30, k.rx.length % 64), (24, k.tx.length % 64)])]
  (ctlAddr clsAud p 1, mkWord [(35, b2n (on && !a.frozen)), (34, b2n a.frozen), (30, Nat.min a.good 8), (16, a.fsHz % 16384)]) ::
    (one 0 ++ one 1)

/-- Clocks: CLK_SYNC_STAT, CLK_TICK_FREQ, REC_CLK_STAT (Tables 15-3, 15-4, 15-6). -/
def clkLatch (s : State) : List (Nat × Word) :=
  let k := s.dpll
  let r := fun n => recGet s n
  [(ctlAddr clsClk 0 1, mkWord [(35, b2n (syncGet s 0).valid), (34, b2n (syncGet s 1).valid), (32, k.inUse % 4),
      (31, b2n k.slewing), (14, twos 17 (holdSigned 17 k.phase))]),
    (ctlAddr clsClk 0 3, mkWord [(16, k.freq % 2 ^ 20)]),
    (ctlAddr clsClk 0 0x12, mkWord [(35, b2n (r 0).on), (34, b2n (r 0).lost), (33, b2n (r 0).squelched),
      (32, b2n (r 1).on), (31, b2n (r 1).lost), (30, b2n (r 1).squelched)])]

/-- Power: PWR_DOM.STATE, PWR_PKG_STAT, VLOOP_STAT (Tables 16-8, 16-9). -/
def pwrLatch (s : State) : List (Nat × Word) :=
  (List.range 56).map (fun d => (ctlAddr clsPwr d 0, mkWord [(30, (domGet s d).st % 8)])) ++
  [(ctlAddr clsPwr 63 1, mkWord [(33, modeCode s.mode), (30, pkgLadder s), (26, s.modeCause % 16), (16, s.meas.vin.val),
    (4, s.meas.pIn.val)])] ++
  (List.range 4).map fun r =>
    let k := vloopGet s r
    (vloopAddr r 1, mkWord [(26, k.vout % 1024), (16, k.floor % 1024), (8, k.aging % 256), (7, b2n k.overridden)])

/-- MATE_STAT, and the mate's health word where one arrived in the tick (Table 12-12). -/
def mateLatch (s : State) : List (Nat × Word) :=
  [(mateAddr 1, putFld (mateStat s) 0 0 0), (mateAddr 5, BitVec.ofNat 36 (s.rdn.mate.toNat / 2 ^ 36)),
    (mateAddr 6, BitVec.ofNat 36 s.rdn.mate.toNat)]

/-- The slot-ledger summary (R383). -/
def ledgerLatch (s : State) : List (Nat × Word) :=
  let sum := fun (f : Ledger → Nat) =>
    BitVec.ofNat 36 ((s.engines.filter fun e => decide (e.1 < 64)).foldl (fun n e => n + f e.2.ledger) 0)
  [(ctlAddr clsCen 0 0x80, sum (·.retired)), (ctlAddr clsCen 0 0x81, sum (·.wasted)),
    (ctlAddr clsCen 0 0x82, sum (·.flow)), (ctlAddr clsCen 0 0x83, sum (·.stall))]

/-- PRT_STAT and PRT_WTR; HL_STAT and HL_POS (Tables 8-4, 8-5, 7-12). -/
def prtLatch (s : State) (p : Nat) : List (Nat × Word) :=
  [(pairAddr p 3, prtStat s p), (pairAddr p 4, prtWtr (prtGet s p))]

def hlLatch (s : State) (p : Nat) : List (Nat × Word) :=
  let h := hlGet s p
  let slack := (unselSlack s p) / 1000
  [(pairAddr p 98, mkWord [(35, b2n (hitlessOk s p)), (32, h.state % 8), (16, twos 16 (holdSigned 16 slack)),
      (15, b2n (decide (unselEarly s p < unselLate s p)))]),
    (pairAddr p 99, mkWord [(18, h.offset % 2 ^ 18), (17, b2n h.pLater)])]

/-- Every word and field latched at T0, as the state stands. -/
def latchWords (s : State) : Tab Word :=
  let t : Tab Word := []
  let t := latchEach s.lanes (fun e => laneLatch e.1 e.2) t
  let t := latchEach (liveStreams s) (fun p => frmLatch s (streamKey p.1 p.2) (framerGet s (streamKey p.1 p.2))) t
  let t := latchEach s.framers (fun e => frmLatch s e.1 e.2) t
  let t := latchEach (livePorts s) (fun p => mapLatch s p.1 p.2) t
  let t := latchEach s.ports (fun e => mapLatch s (e.1 / 192) (e.1 % 192)) t
  let t := latchEach [0, 1] (deckLatch s) t
  let t := latchEach s.rsz (fun e => rszLatch e.1 e.2) t
  let t := latchEach [0, 1] (prfLatch s) t
  let t := latchEach [grpLatch s] id t
  let t := latchEach (List.range 16) (fun c =>
    [(ctlAddr clsProt c 0, poolWord s c), (ctlAddr clsChk c 1, mkWord [(30, tabGet 0 s.chkMax c % 64)])]) t
  let t := latchEach s.cq (fun e => cqLatch s e.1 e.2) t
  let t := latchEach (List.range 8) (hqLatch s) t
  let t := latchEach (List.range 4) (audLatch s) t
  let t := latchEach [mateQueueLatch s, clkLatch s, pwrLatch s, mateLatch s, ledgerLatch s] id t
  let t := latchEach (shownPairs s) (prtLatch s) t
  latchEach s.hls (fun e => hlLatch s e.1) t

/-! ### T0: context words and counts of the tick -/

/-- The group of a member context: its die, and the ring of part 0. -/
def memberGroup (s : State) (m : Mon) : Option (Nat × Nat) :=
  let g := fld m.w30 34 24
  ([0, 1].find? fun d => grpOn s d g && linkedTo s d g m).map fun d =>
    (d, (grpGet s d g).rings.getD (fld m.w30 23 16 * grpParts (fld (grpCfg s d g) 34 32)) 0)

/-- Words 37 and 38 of a member (Table 7-11). -/
def memberWords (s : State) (id : Nat) (m : Mon) : Word × Word :=
  if !bit m.w30 35 || !(monLayer m == 0xC || monLayer m == 3) then (0, 0)
  else
    let g := fld m.w30 34 24
    let at_ := memberGroup s m
    let fit := match at_ with | some x => memberFits s x.1 g id | none => false
    let pays := match at_ with | some x => memberPays s x.1 g id | none => false
    let ring := match at_ with | some x => x.2 | none => 0
    (mkWord [(35, b2n m.mlom), (34, b2n (decide (m.sq ≠ fld m.w30 23 16))), (33, b2n fit), (32, b2n pays),
        (24, m.sq % 256), (12, ring % 4096), (0, Nat.min m.crcErr 0xFFF)],
      mkWord [(18, Nat.min (m.delay / 1000) 0x3FFFF)])

/-- Words 32 to 38 of a monitoring context (R138, R148, Tables 4-10, 4-17, 7-11), and the counts of the new tick. -/
def latchCtx (id : Nat) (s : State) : State :=
  let m := monGet s id
  let w := memberWords s id m
  let s := ctxSet id 32 (BitVec.ofNat 36 m.defs) (ctxSet id 33 (BitVec.ofNat 36 m.seen) s)
  let s := ctxSet id 34 (mkWord [(18, hold18 m.ebNe), (0, hold18 m.tb)]) (ctxSet id 35 (mkWord [(18, hold18 m.ebFe)]) s)
  let s := ctxSet id 36 (BitVec.ofNat 36 m.chg) (ctxSet id 37 w.1 (ctxSet id 38 w.2 s))
  monPut id { m with seen := m.defs, chg := 0, ebNe := 0, tb := 0, ebFe := 0, crcErr := 0 } s

/-- FEC counts of the tick just ended (R71). -/
def latchFec (k : Nat) (s : State) : State :=
  let l := laneGet s k
  let a := fun w => fecAddr (k / 64) (k % 64) w
  let s := cwSet (a 0x18) (BitVec.ofNat 36 l.fecCw) (cwSet (a 0x19) (BitVec.ofNat 36 l.fecCorr) s)
  let s := cwSet (a 0x1A) (BitVec.ofNat 36 l.fecUncorr) (cwSet (a 0x1B) (BitVec.ofNat 36 l.fecSym) s)
  lanePut k { l with fecCw := 0, fecCorr := 0, fecUncorr := 0, fecSym := 0 } s

/-- A queue that stays high repeats its XOFF message (R192). -/
def repeatXoff (s : State) : State :=
  (s.cq.map (·.1)).foldl (fun s q =>
    if (cqGet s q).high && bit (cwGet s (cqAddr q 2)) 30 then cqPut q { cqGet s q with pause := some true } s else s) s

/-- WTR timers count down (R283). -/
def wtrTick (s : State) : State :=
  s.putPairs (tabMap {} (fun (k : Pair) => if k.wtr && !k.wtrExp then { k with wtrUs := k.wtrUs - 125 } else k) s.pairs)

/-- Counts of the tick under way start again. -/
def freshTick (s : State) : State :=
  s
      |>.putEngines (tabMap {} (fun (E : Engine) => { E with tickCyc := 0, ended := false, started := false, ledger := {} }) s.engines)
      |>.putPorts (tabMap {} (fun (q : Port) => { q with cmRange := false }) s.ports) |>.putViolated []
      |>.putChkMax [] |>.putSubsts [] |>.putUnverified [] |>.putFirstRing [] |>.putRdn { s.rdn with mate := 0 }

/-! ### T0: heartbeat, loaf switch (R44, R332, R533) -/

/-- HB_OUT may toggle: every pass of the tick just ended ended within its budget, and the package is not in QUARANTINE. -/
def heartbeat (s : State) : Bool :=
  s.mode != .quarantine && s.engines.all fun e => !e.2.started || e.2.ended

def beat (s : State) : State := if heartbeat s then s.putHbOut (!s.hbOut) else cenInc 35 s

/-- Every unit and the hub switch to an accepted loaf; from BOOT the package enters PROVISION. -/
def switchLoaf (s : State) : State :=
  if s.loafDue then
    let s := s |>.putLoaf s.loafNext |>.putLoafNext none |>.putLoafDue false
    if s.mode = .boot then enterMode .provision 4 s else s
  else s

/-- The tick counter and its wrap count. -/
def nextTick (s : State) : State :=
  (s.putTick (s.tick + 1)).putWrap (if s.tick + 1 = 0 then s.wrap + 1 else s.wrap)

/-- Seconds of a standby's self-test rotation (R419). -/
def testTick (s : State) : State :=
  if s.mode = .standby && s.binQ % 8000 = 0 then s.putTest { s.test with secs := s.test.secs + 1 } else s

/-- The temperature alarm may be raised again below 105 °C (R539). -/
def coolTick (m : Meas) (s : State) : State := (s.putMeas m).putHot (s.hot && !decide (tjMax m < 105))

/-- The snapshot of T0 (R37): words, buffers, cells, contexts. -/
def latchAll (s : State) : State :=
  let s := s |>.putWords (latchWords s) |>.putOhT0 s.oh |>.putCellsT0 s.cells
  let s := (s.mons.map (·.1)).foldl (fun s id => latchCtx id s) s
  (s.lanes.map (·.1)).foldl (fun s k => latchFec k s) s

/-- T0: heartbeat, clocks and timers, the health word of the tick just ended, the new tick, the loaf that runs from now on,
armed swaps eligible, the snapshot. -/
def tickBoundary (m : Meas) (s : State) : State :=
  let s := reachAll 125000 (beat s)
  let s := wtrTick (dpllTick (binTick (testTick (coolTick m s))))
  let s := s.putRdn { s.rdn with next := healthWord s }
  let s := switchLoaf (nextTick (repeatXoff s))
  let s := deckEligible 1 (deckEligible 0 (releaseFreed s))
  let s := freshTick (latchAll s)
  (s.putSec { s.sec with report := reportBody s })

/-- TICK_BOUNDARY (R37): `m` as measured at this T0. -/
def execTickBoundary (m : Meas) (s : State) : Result := .next (if powered s then tickBoundary m s else s)

end Sys2Proof.Machine
end

