-- ==== Sys2Proof/Machine/Dispatch.lean ====
section
/-! DEFINITION. One arm per command: the meaning each one calls. -/

namespace Sys2Proof.Machine

/-- The effect of a command on everything but the queue. -/
def exec (i : Instr) (s : State) : Host.Outcome State Fault Refusal :=
  match i with
  | .tickBoundary m => Sys2Proof.Machine.execTickBoundary m s
  | .passStart => Sys2Proof.Machine.execPassStart s
  | .passOverrun => Sys2Proof.Machine.execPassOverrun s
  | .commitWindow => Sys2Proof.Machine.execCommitWindow s
  | .tier1DeltaSeal => Sys2Proof.Machine.execTier1DeltaSeal s
  | .healthWordTx => Sys2Proof.Machine.execHealthWordTx s
  | .nop iss => Sys2Proof.Machine.execNop iss s
  | .add iss gD gA gB => Sys2Proof.Machine.execAdd iss gD gA gB s
  | .sub iss gD gA gB => Sys2Proof.Machine.execSub iss gD gA gB s
  | .and iss gD gA gB => Sys2Proof.Machine.execAnd iss gD gA gB s
  | .or iss gD gA gB => Sys2Proof.Machine.execOr iss gD gA gB s
  | .xor iss gD gA gB => Sys2Proof.Machine.execXor iss gD gA gB s
  | .shl iss gD gA amt => Sys2Proof.Machine.execShl iss gD gA amt s
  | .shr iss gD gA amt => Sys2Proof.Machine.execShr iss gD gA amt s
  | .sar iss gD gA amt => Sys2Proof.Machine.execSar iss gD gA amt s
  | .mov iss gD gA => Sys2Proof.Machine.execMov iss gD gA s
  | .sel iss gD gA gB p => Sys2Proof.Machine.execSel iss gD gA gB p s
  | .min iss gD gA gB => Sys2Proof.Machine.execMin iss gD gA gB s
  | .max iss gD gA gB => Sys2Proof.Machine.execMax iss gD gA gB s
  | .satAdd iss gD gA gB => Sys2Proof.Machine.execSatAdd iss gD gA gB s
  | .cmpEq iss pT pF gA gB => Sys2Proof.Machine.execCmpEq iss pT pF gA gB s
  | .cmpNe iss pT pF gA gB => Sys2Proof.Machine.execCmpNe iss pT pF gA gB s
  | .cmpLt iss pT pF gA gB => Sys2Proof.Machine.execCmpLt iss pT pF gA gB s
  | .cmpLtu iss pT pF gA gB => Sys2Proof.Machine.execCmpLtu iss pT pF gA gB s
  | .movi iss gD imm => Sys2Proof.Machine.execMovi iss gD imm s
  | .movh iss gD gA imm => Sys2Proof.Machine.execMovh iss gD gA imm s
  | .addImmediate iss gD gA imm => Sys2Proof.Machine.execAddImmediate iss gD gA imm s
  | .lex iss gD gA lane => Sys2Proof.Machine.execLex iss gD gA lane s
  | .lins iss gD gA gB lane => Sys2Proof.Machine.execLins iss gD gA gB lane s
  | .popc iss gD gA => Sys2Proof.Machine.execPopc iss gD gA s
  | .bip8 iss gD gA gB => Sys2Proof.Machine.execBip8 iss gD gA gB s
  | .ctxLd iss gD gA off word => Sys2Proof.Machine.execCtxLd iss gD gA off word s
  | .ctxSt iss gD gA off word => Sys2Proof.Machine.execCtxSt iss gD gA off word s
  | .ctxNext iss gD gA mask => Sys2Proof.Machine.execCtxNext iss gD gA mask s
  | .ctxId iss gD gA toHandle => Sys2Proof.Machine.execCtxId iss gD gA toHandle s
  | .ohGet iss gD gA off field word => Sys2Proof.Machine.execOhGet iss gD gA off field word s
  | .ohPut iss gD gA off field word => Sys2Proof.Machine.execOhPut iss gD gA off field word s
  | .defSet iss gA off bit => Sys2Proof.Machine.execDefSet iss gA off bit s
  | .defClr iss gA off bit => Sys2Proof.Machine.execDefClr iss gA off bit s
  | .alm iss gA off => Sys2Proof.Machine.execAlm iss gA off s
  | .pmAdd iss gD gA off param => Sys2Proof.Machine.execPmAdd iss gD gA off param s
  | .pmRoll iss gA off bin suspect => Sys2Proof.Machine.execPmRoll iss gA off bin suspect s
  | .cfgR iss gD gA off => Sys2Proof.Machine.execCfgR iss gD gA off s
  | .cfgW iss gA gB off => Sys2Proof.Machine.execCfgW iss gA gB off s
  | .filtSet iss gA gB word => Sys2Proof.Machine.execFiltSet iss gA gB word s
  | .filtGet iss gD gA word => Sys2Proof.Machine.execFiltGet iss gD gA word s
  | .protReqClear w => Sys2Proof.Machine.execProtReqClear w s
  | .protReqLo w => Sys2Proof.Machine.execProtReqLo w s
  | .protReqFs w => Sys2Proof.Machine.execProtReqFs w s
  | .protReqMsP w => Sys2Proof.Machine.execProtReqMsP w s
  | .protReqMsW w => Sys2Proof.Machine.execProtReqMsW w s
  | .protReqExer w => Sys2Proof.Machine.execProtReqExer w s
  | .protReqWtr w => Sys2Proof.Machine.execProtReqWtr w s
  | .protReqDnr w => Sys2Proof.Machine.execProtReqDnr w s
  | .protReqNr w => Sys2Proof.Machine.execProtReqNr w s
  | .protSt iss gD gA => Sys2Proof.Machine.execProtSt iss gD gA s
  | .deckW iss gA gB => Sys2Proof.Machine.execDeckW iss gA gB s
  | .deckRd iss gD gA standby => Sys2Proof.Machine.execDeckRd iss gD gA standby s
  | .deckSwap iss d0 d1 => Sys2Proof.Machine.execDeckSwap iss d0 d1 s
  | .qOpen iss gA q => Sys2Proof.Machine.execQOpen iss gA q s
  | .qPut iss gA => Sys2Proof.Machine.execQPut iss gA s
  | .qClose iss => Sys2Proof.Machine.execQClose iss s
  | .qAbort iss => Sys2Proof.Machine.execQAbort iss s
  | .chkSeed iss gA fold mode wait => Sys2Proof.Machine.execChkSeed iss gA fold mode wait s
  | .chkFeed iss gA lanes wait => Sys2Proof.Machine.execChkFeed iss gA lanes wait s
  | .chkRes iss gD wait => Sys2Proof.Machine.execChkRes iss gD wait s
  | .pcSel iss gA k => Sys2Proof.Machine.execPcSel iss gA k s
  | .pcRd iss gD shadow k => Sys2Proof.Machine.execPcRd iss gD shadow k s
  | .snap iss => Sys2Proof.Machine.execSnap iss s
  | .snapInEdge => Sys2Proof.Machine.execSnapInEdge s
  | .snapCapture merged => Sys2Proof.Machine.execSnapCapture merged s
  | .br iss off => Sys2Proof.Machine.execBr iss off s
  | .loop iss n last => Sys2Proof.Machine.execLoop iss n last s
  | .loopContext iss gD mask last => Sys2Proof.Machine.execLoopContext iss gD mask last s
  | .endl iss => Sys2Proof.Machine.execEndl iss s
  | .call iss target => Sys2Proof.Machine.execCall iss target s
  | .ret iss => Sys2Proof.Machine.execRet iss s
  | .haltTick iss => Sys2Proof.Machine.execHaltTick iss s
  | .storeStarter iss gD gA gB => Sys2Proof.Machine.execStoreStarter iss gD gA gB s
  | .storeFw iss gD gA gB sigOk => Sys2Proof.Machine.execStoreFw iss gD gA gB sigOk s
  | .storeOwner iss gD gA gB sigOk bindOk => Sys2Proof.Machine.execStoreOwner iss gD gA gB sigOk bindOk s
  | .storeFloors iss gD gA gB => Sys2Proof.Machine.execStoreFloors iss gD gA gB s
  | .storePair iss gD gA gB sigOk => Sys2Proof.Machine.execStorePair iss gD gA gB sigOk s
  | .storeComplete => Sys2Proof.Machine.execStoreComplete s
  | .seal iss gD => Sys2Proof.Machine.execSeal iss gD s
  | .attest iss gD gA gB => Sys2Proof.Machine.execAttest iss gD gA gB s
  | .loafLoad iss gD gA gB sigOk => Sys2Proof.Machine.execLoafLoad iss gD gA gB sigOk s
  | .keyGen iss gD gB slot => Sys2Proof.Machine.execKeyGen iss gD gB slot s
  | .keyUseSign iss gD gA gB slot => Sys2Proof.Machine.execKeyUseSign iss gD gA gB slot s
  | .keyUseCertify iss gD gA gB slot => Sys2Proof.Machine.execKeyUseCertify iss gD gA gB slot s
  | .keyUseAgree iss gD gA gB slot => Sys2Proof.Machine.execKeyUseAgree iss gD gA gB slot s
  | .power iss gA ladder => Sys2Proof.Machine.execPower iss gA ladder s
  | .mateSend iss gD gA gB => Sys2Proof.Machine.execMateSend iss gD gA gB s
  | .sessionClose iss gD => Sys2Proof.Machine.execSessionClose iss gD s
  | .sessionRenew iss gD => Sys2Proof.Machine.execSessionRenew iss gD s
  | .cqBaseWrite q field v => Sys2Proof.Machine.execCqBaseWrite q field v s
  | .cqTail q v => Sys2Proof.Machine.execCqTail q v s
  | .commandFetch q e => Sys2Proof.Machine.execCommandFetch q e s
  | .cqBatch q => Sys2Proof.Machine.execCqBatch q s
  | .cqOpen q => Sys2Proof.Machine.execCqOpen q s
  | .cqProof q => Sys2Proof.Machine.execCqProof q s
  | .proofTimeout q => Sys2Proof.Machine.execProofTimeout q s
  | .batchStart => Sys2Proof.Machine.execBatchStart s
  | .hrHead q v => Sys2Proof.Machine.execHrHead q v s
  | .hqCredit q v => Sys2Proof.Machine.execHqCredit q v s
  | .hostRingWrite q => Sys2Proof.Machine.execHostRingWrite q s
  | .hrCoalTimeout q => Sys2Proof.Machine.execHrCoalTimeout q s
  | .intClr v => Sys2Proof.Machine.execIntClr v s
  | .recGo addr image sigOk => Sys2Proof.Machine.execRecGo addr image sigOk s
  | .bar0Violation off => Sys2Proof.Machine.execBar0Violation off s
  | .hostCtxCreate o kind id => Sys2Proof.Machine.execHostCtxCreate o kind id s
  | .hostCtxDelete o id => Sys2Proof.Machine.execHostCtxDelete o id s
  | .hostCtxSetKind o kind id => Sys2Proof.Machine.execHostCtxSetKind o kind id s
  | .hostCtxSetPin o id => Sys2Proof.Machine.execHostCtxSetPin o id s
  | .hostCtxClearPin o id => Sys2Proof.Machine.execHostCtxClearPin o id s
  | .controlWordWrite o addr v => Sys2Proof.Machine.execControlWordWrite o addr v s
  | .laneCfg side quad ws => Sys2Proof.Machine.execLaneCfg side quad ws s
  | .vcoCalDone side quad => Sys2Proof.Machine.execVcoCalDone side quad s
  | .lanePllLock l => Sys2Proof.Machine.execLanePllLock l s
  | .laneCdrLock l => Sys2Proof.Machine.execLaneCdrLock l s
  | .laneAdaptDone l eq snr => Sys2Proof.Machine.execLaneAdaptDone l eq snr s
  | .laneDown l cdrLost sigLost => Sys2Proof.Machine.execLaneDown l cdrLost sigLost s
  | .fecCfg l w => Sys2Proof.Machine.execFecCfg l w s
  | .fecCntClr l => Sys2Proof.Machine.execFecCntClr l s
  | .laneEqCtrl l w => Sys2Proof.Machine.execLaneEqCtrl l w s
  | .laneTxFfe l iss w => Sys2Proof.Machine.execLaneTxFfe l iss w s
  | .eqFenceHit l loop => Sys2Proof.Machine.execEqFenceHit l loop s
  | .eqMarginLow l snr => Sys2Proof.Machine.execEqMarginLow l snr s
  | .linkTrainDone l ffe0 ffe1 => Sys2Proof.Machine.execLinkTrainDone l ffe0 ffe1 s
  | .linkTrainFail l => Sys2Proof.Machine.execLinkTrainFail l s
  | .prbsGenEn o l pat inv => Sys2Proof.Machine.execPrbsGenEn o l pat inv s
  | .prbsChkEn o l pat => Sys2Proof.Machine.execPrbsChkEn o l pat s
  | .prbsErrInj o l => Sys2Proof.Machine.execPrbsErrInj o l s
  | .prbsLock l bits errs => Sys2Proof.Machine.execPrbsLock l bits errs s
  | .prbsLockLoss l bits errs => Sys2Proof.Machine.execPrbsLockLoss l bits errs s
  | .laneLpbk o l near far => Sys2Proof.Machine.execLaneLpbk o l near far s
  | .clkRefCtrl r w => Sys2Proof.Machine.execClkRefCtrl r w s
  | .refclkLoss r n => Sys2Proof.Machine.execRefclkLoss r n s
  | .refclkRequalify r n => Sys2Proof.Machine.execRefclkRequalify r n s
  | .frmCfg r ws => Sys2Proof.Machine.execFrmCfg r ws s
  | .frmThr r w => Sys2Proof.Machine.execFrmThr r w s
  | .frmTime r w => Sys2Proof.Machine.execFrmTime r w s
  | .frmCntClr r => Sys2Proof.Machine.execFrmCntClr r s
  | .candidateOpen r member offset mf => Sys2Proof.Machine.execCandidateOpen r member offset mf s
  | .candidateCheck r member offset faOk mf => Sys2Proof.Machine.execCandidateCheck r member offset faOk mf s
  | .framerWindowEnd r member => Sys2Proof.Machine.execFramerWindowEnd r member s
  | .oofDeclare r member => Sys2Proof.Machine.execOofDeclare r member s
  | .mfOom r => Sys2Proof.Machine.execMfOom r s
  | .mfIm r => Sys2Proof.Machine.execMfIm r s
  | .lofSet r lane => Sys2Proof.Machine.execLofSet r lane s
  | .lofClr r lane => Sys2Proof.Machine.execLofClr r lane s
  | .lomSet r => Sys2Proof.Machine.execLomSet r s
  | .lomClr r => Sys2Proof.Machine.execLomClr r s
  | .lolChange r idOk skew latest earliest locked => Sys2Proof.Machine.execLolChange r idOk skew latest earliest locked s
  | .frameReceive c f => Sys2Proof.Machine.execFrameReceive c f s
  | .filterOccurrence c n => Sys2Proof.Machine.execFilterOccurrence c n s
  | .filterUnstable c n => Sys2Proof.Machine.execFilterUnstable c n s
  | .fcCfg c cell word w => Sys2Proof.Machine.execFcCfg c cell word w s
  | .ohPmSet u w => Sys2Proof.Machine.execOhPmSet u w s
  | .ohErrClear u => Sys2Proof.Machine.execOhErrClear u s
  | .losDeclare r => Sys2Proof.Machine.execLosDeclare r s
  | .losClear r => Sys2Proof.Machine.execLosClear r s
  | .defectDeclare c d => Sys2Proof.Machine.execDefectDeclare c d s
  | .defectClear c d => Sys2Proof.Machine.execDefectClear c d s
  | .consequentActionStart c backward => Sys2Proof.Machine.execConsequentActionStart c backward s
  | .consequentActionEnd c backward => Sys2Proof.Machine.execConsequentActionEnd c backward s
  | .mapCfg r ws => Sys2Proof.Machine.execMapCfg r ws s
  | .mapPortStart r => Sys2Proof.Machine.execMapPortStart r s
  | .mapTxRun r ws => Sys2Proof.Machine.execMapTxRun r ws s
  | .mapRxRun r step => Sys2Proof.Machine.execMapRxRun r step s
  | .mapCntClr r => Sys2Proof.Machine.execMapCntClr r s
  | .clientReplacementStart r rx => Sys2Proof.Machine.execClientReplacementStart r rx s
  | .clientReplacementEnd r rx => Sys2Proof.Machine.execClientReplacementEnd r rx s
  | .gfpCsfSend r => Sys2Proof.Machine.execGfpCsfSend r s
  | .csfRxTimeout r => Sys2Proof.Machine.execCsfRxTimeout r s
  | .shimCalReq r w => Sys2Proof.Machine.execShimCalReq r w s
  | .flexeCalSwitch r => Sys2Proof.Machine.execFlexeCalSwitch r s
  | .flexeCalTimeout r => Sys2Proof.Machine.execFlexeCalTimeout r s
  | .chanFrameRx r step => Sys2Proof.Machine.execChanFrameRx r step s
  | .chanFrameTx r => Sys2Proof.Machine.execChanFrameTx r s
  | .pauseMsgSend q => Sys2Proof.Machine.execPauseMsgSend q s
  | .gfpFrameRx r h f => Sys2Proof.Machine.execGfpFrameRx r h f s
  | .gfpFrameStart r lines => Sys2Proof.Machine.execGfpFrameStart r lines s
  | .gfpUnderrun r => Sys2Proof.Machine.execGfpUnderrun r s
  | .cqCtrl q ws => Sys2Proof.Machine.execCqCtrl q ws s
  | .clientQueueFlush o q => Sys2Proof.Machine.execClientQueueFlush o q s
  | .queueAppend q item => Sys2Proof.Machine.execQueueAppend q item s
  | .queueWmWrite q w => Sys2Proof.Machine.execQueueWmWrite q w s
  | .hqCfg q ws => Sys2Proof.Machine.execHqCfg q ws s
  | .hostQueueFlush o q => Sys2Proof.Machine.execHostQueueFlush o q s
  | .deckOutputChange d c us => Sys2Proof.Machine.execDeckOutputChange d c us s
  | .deckSwapTimeout d => Sys2Proof.Machine.execDeckSwapTimeout d s
  | .deckCopyDone d => Sys2Proof.Machine.execDeckCopyDone d s
  | .deckPrbsGen d w => Sys2Proof.Machine.execDeckPrbsGen d w s
  | .deckPrbsChk d w => Sys2Proof.Machine.execDeckPrbsChk d w s
  | .fineBlk r b w => Sys2Proof.Machine.execFineBlk r b w s
  | .rszGo d c w => Sys2Proof.Machine.execRszGo d c w s
  | .rszAbortCmd d c w => Sys2Proof.Machine.execRszAbortCmd d c w s
  | .rszHandshakeAck d c => Sys2Proof.Machine.execRszHandshakeAck d c s
  | .rszHandshakeTimeout d c => Sys2Proof.Machine.execRszHandshakeTimeout d c s
  | .rszRampEnd d c => Sys2Proof.Machine.execRszRampEnd d c s
  | .rszCfgDisable d c w => Sys2Proof.Machine.execRszCfgDisable d c w s
  | .grpCfg d g w => Sys2Proof.Machine.execGrpCfg d g w s
  | .hlCfg p ws => Sys2Proof.Machine.execHlCfg p ws s
  | .hlRecentre p step => Sys2Proof.Machine.execHlRecentre p step s
  | .hlCntClr p => Sys2Proof.Machine.execHlCntClr p s
  | .prfCtrl d w => Sys2Proof.Machine.execPrfCtrl d w s
  | .ringStart r => Sys2Proof.Machine.execRingStart r s
  | .ringLineRead r ecc crc partnerOk => Sys2Proof.Machine.execRingLineRead r ecc crc partnerOk s
  | .ringBreak r => Sys2Proof.Machine.execRingBreak r s
  | .hlAlignAttempt p => Sys2Proof.Machine.execHlAlignAttempt p s
  | .hlAlignConfirm p => Sys2Proof.Machine.execHlAlignConfirm p s
  | .hlSearchRange p => Sys2Proof.Machine.execHlSearchRange p s
  | .hlMisalign p => Sys2Proof.Machine.execHlMisalign p s
  | .hlSlackEval p lateW earlyW lateP earlyP => Sys2Proof.Machine.execHlSlackEval p lateW earlyW lateP earlyP s
  | .mlomDeclare c => Sys2Proof.Machine.execMlomDeclare c s
  | .mlomClear c => Sys2Proof.Machine.execMlomClear c s
  | .groupReaderPlace d g => Sys2Proof.Machine.execGroupReaderPlace d g s
  | .groupRetime d g => Sys2Proof.Machine.execGroupRetime d g s
  | .loaChange d g => Sys2Proof.Machine.execLoaChange d g s
  | .lcasPacketRx c crcOk ctrl sq rsAck mst => Sys2Proof.Machine.execLcasPacketRx c crcOk ctrl sq rsAck mst s
  | .lcasPayloadChange d g => Sys2Proof.Machine.execLcasPayloadChange d g s
  | .lcasTxChange c => Sys2Proof.Machine.execLcasTxChange c s
  | .prtCfg p ws => Sys2Proof.Machine.execPrtCfg p ws s
  | .prtCntClr p => Sys2Proof.Machine.execPrtCntClr p s
  | .holdoffStart p protect => Sys2Proof.Machine.execHoldoffStart p protect s
  | .holdoffExpire p protect => Sys2Proof.Machine.execHoldoffExpire p protect s
  | .protFastpathEval p => Sys2Proof.Machine.execProtFastpathEval p s
  | .wtrExpire p => Sys2Proof.Machine.execWtrExpire p s
  | .hlWaitExpire p => Sys2Proof.Machine.execHlWaitExpire p s
  | .fopNrDeclare p => Sys2Proof.Machine.execFopNrDeclare p s
  | .protHoldEnd p limit => Sys2Proof.Machine.execProtHoldEnd p limit s
  | .grantInChange level => Sys2Proof.Machine.execGrantInChange level s
  | .grantPulseReject => Sys2Proof.Machine.execGrantPulseReject s
  | .ilkInChange asserted => Sys2Proof.Machine.execIlkInChange asserted s
  | .ilkResample => Sys2Proof.Machine.execIlkResample s
  | .ilkBlockedRetry => Sys2Proof.Machine.execIlkBlockedRetry s
  | .roleConflictDeclare mismatch => Sys2Proof.Machine.execRoleConflictDeclare mismatch s
  | .roleConflictClear => Sys2Proof.Machine.execRoleConflictClear s
  | .starterApply => Sys2Proof.Machine.execStarterApply s
  | .takeoverActive timeout => Sys2Proof.Machine.execTakeoverActive timeout s
  | .releaseToStandby => Sys2Proof.Machine.execReleaseToStandby s
  | .polfenLock => Sys2Proof.Machine.execPolfenLock s
  | .polfenLockLoss => Sys2Proof.Machine.execPolfenLockLoss s
  | .polfenHello seat paired epoch => Sys2Proof.Machine.execPolfenHello seat paired epoch s
  | .polfenFrameRx f crcOk tagOk => Sys2Proof.Machine.execPolfenFrameRx f crcOk tagOk s
  | .polfenRetxTimeout => Sys2Proof.Machine.execPolfenRetxTimeout s
  | .polfenHoldExpire => Sys2Proof.Machine.execPolfenHoldExpire s
  | .polfenRekey epoch => Sys2Proof.Machine.execPolfenRekey epoch s
  | .polfenFrameTx => Sys2Proof.Machine.execPolfenFrameTx s
  | .statusMsgRx => Sys2Proof.Machine.execStatusMsgRx s
  | .tier1MsgRx => Sys2Proof.Machine.execTier1MsgRx s
  | .tier2MsgRx => Sys2Proof.Machine.execTier2MsgRx s
  | .resyncReqRx => Sys2Proof.Machine.execResyncReqRx s
  | .sweepStart => Sys2Proof.Machine.execSweepStart s
  | .sweepMsgRx => Sys2Proof.Machine.execSweepMsgRx s
  | .sweepComplete => Sys2Proof.Machine.execSweepComplete s
  | .mateMsgRx => Sys2Proof.Machine.execMateMsgRx s
  | .mateLinkEn w => Sys2Proof.Machine.execMateLinkEn w s
  | .mateRestart w => Sys2Proof.Machine.execMateRestart w s
  | .mateResync w => Sys2Proof.Machine.execMateResync w s
  | .mateYield w => Sys2Proof.Machine.execMateYield w s
  | .mateConfirm w => Sys2Proof.Machine.execMateConfirm w s
  | .mateCntClr => Sys2Proof.Machine.execMateCntClr s
  | .mateQueueFlush o => Sys2Proof.Machine.execMateQueueFlush o s
  | .selftestBurstStart => Sys2Proof.Machine.execSelftestBurstStart s
  | .selftestBurstEnd pass => Sys2Proof.Machine.execSelftestBurstEnd pass s
  | .syncEdge input gap phase freq => Sys2Proof.Machine.execSyncEdge input gap phase freq s
  | .syncLoss input gap => Sys2Proof.Machine.execSyncLoss input gap s
  | .syncRequalify input => Sys2Proof.Machine.execSyncRequalify input s
  | .dpllSlewDone => Sys2Proof.Machine.execDpllSlewDone s
  | .clkSyncCtrl w => Sys2Proof.Machine.execClkSyncCtrl w s
  | .recClkCfg n w => Sys2Proof.Machine.execRecClkCfg n w s
  | .recClkSquelch n => Sys2Proof.Machine.execRecClkSquelch n s
  | .recClkResume n => Sys2Proof.Machine.execRecClkResume n s
  | .audCfg p w => Sys2Proof.Machine.execAudCfg p w s
  | .owCfg c w => Sys2Proof.Machine.execOwCfg c w s
  | .audChangeLand c tx => Sys2Proof.Machine.execAudChangeLand c tx s
  | .audChangeTimeout c tx => Sys2Proof.Machine.execAudChangeTimeout c tx s
  | .audSlip c tx => Sys2Proof.Machine.execAudSlip c tx s
  | .audForcedSlip c tx => Sys2Proof.Machine.execAudForcedSlip c tx s
  | .audPortFreeze p => Sys2Proof.Machine.execAudPortFreeze p s
  | .audPortResume p hz => Sys2Proof.Machine.execAudPortResume p hz s
  | .audMuteLift p => Sys2Proof.Machine.execAudMuteLift p s
  | .audSample c m => Sys2Proof.Machine.execAudSample c m s
  | .audCntClear c => Sys2Proof.Machine.execAudCntClear c s
  | .pwrDomReq d w => Sys2Proof.Machine.execPwrDomReq d w s
  | .domainTransitionDone d => Sys2Proof.Machine.execDomainTransitionDone d s
  | .modeReqProvision w => Sys2Proof.Machine.execModeReqProvision w s
  | .modeReqStandby w => Sys2Proof.Machine.execModeReqStandby w s
  | .modeReqTest w => Sys2Proof.Machine.execModeReqTest w s
  | .pkgResetReq w => Sys2Proof.Machine.execPkgResetReq w s
  | .dormantEntry w => Sys2Proof.Machine.execDormantEntry w s
  | .dormantWake grant => Sys2Proof.Machine.execDormantWake grant s
  | .vloopCtrl r w => Sys2Proof.Machine.execVloopCtrl r w s
  | .vloopStep r pass aging => Sys2Proof.Machine.execVloopStep r pass aging s
  | .placeCtrl w => Sys2Proof.Machine.execPlaceCtrl w s
  | .cpmFailQuarantine r => Sys2Proof.Machine.execCpmFailQuarantine r s
  | .regulatorFault d => Sys2Proof.Machine.execRegulatorFault d s
  | .tempAlarm => Sys2Proof.Machine.execTempAlarm s
  | .tamperTrip m => Sys2Proof.Machine.execTamperTrip m s
  | .cenClr v => Sys2Proof.Machine.execCenClr v s
  | .pcCounterWrite e k v inc => Sys2Proof.Machine.execPcCounterWrite e k v inc s
  | .vinUvlo c => Sys2Proof.Machine.execVinUvlo c s
  | .vinPowerOn => Sys2Proof.Machine.execVinPowerOn s
  | .resetLAssert => Sys2Proof.Machine.execResetLAssert s
  | .resetRelease st => Sys2Proof.Machine.execResetRelease st s
  | .pufKeysDerived => Sys2Proof.Machine.execPufKeysDerived s
  | .bootFwSelect => Sys2Proof.Machine.execBootFwSelect s
  | .fwStart => Sys2Proof.Machine.execFwStart s
  | .bootStarterLoad opens sigOk => Sys2Proof.Machine.execBootStarterLoad opens sigOk s
  | .perstLAssert => Sys2Proof.Machine.execPerstLAssert s
  | .guestAddr io => Sys2Proof.Machine.execGuestAddr io s
  | .guestAttNonce io => Sys2Proof.Machine.execGuestAttNonce io s
  | .guestAttStat io => Sys2Proof.Machine.execGuestAttStat io s
  | .guestAttOff io => Sys2Proof.Machine.execGuestAttOff io s
  | .guestSclTimeout => Sys2Proof.Machine.execGuestSclTimeout s
  | .extest lands tdi => Sys2Proof.Machine.execExtest lands tdi s
  | .samplePreload lands tdi => Sys2Proof.Machine.execSamplePreload lands tdi s
  | .extestPulse lands tdi => Sys2Proof.Machine.execExtestPulse lands tdi s
  | .extestTrain lands tdi => Sys2Proof.Machine.execExtestTrain lands tdi s
  | .dbgNonce => Sys2Proof.Machine.execDbgNonce s
  | .dbgToken lines sigOk => Sys2Proof.Machine.execDbgToken lines sigOk s
  | .dbgCfg write addr data => Sys2Proof.Machine.execDbgCfg write addr data s
  | .dbgTrace => Sys2Proof.Machine.execDbgTrace s
  | .traceSel v => Sys2Proof.Machine.execTraceSel v s
  | .bypass tdi => Sys2Proof.Machine.execBypass tdi s
  | .pcsAlignStatus r phy up locked => Sys2Proof.Machine.execPcsAlignStatus r phy up locked s
  | .ovloRestart => Sys2Proof.Machine.execOvloRestart s
  | .perstLRelease => Sys2Proof.Machine.execPerstLRelease s
  | .loafLoadComplete => Sys2Proof.Machine.execLoafLoadComplete s
  | .attestComplete => Sys2Proof.Machine.execAttestComplete s
  | .pcieLinkRetrain => Sys2Proof.Machine.execPcieLinkRetrain s
  | .pcieError k => Sys2Proof.Machine.execPcieError k s

end Sys2Proof.Machine
end

