-- ==== Sys2Proof/Machine/Claims.lean ====
section
/-! DEFINITION. Terms in which the statements speak: what an engine reads, when an instruction takes its effect, and what an
issue leaves unchanged. -/

namespace Sys2Proof.Machine

/-! ### Engines -/

/-- A bundle whose slot A has issued is open. -/
def bundleOpen (s : State) (e : Nat) : Bool := (engGet s e).bundle.aDone

/-- The registers an instruction reads: slot B of an open bundle reads what slot A read (R303). -/
def slotRegs (s : State) (i : Iss) : Tab Word :=
  if i.slot = .b && bundleOpen s i.eng.val then (engGet s i.eng.val).opRegs else (engGet s i.eng.val).regs

/-- The predicates an instruction reads (R303). -/
def slotPreds (s : State) (i : Iss) : Tab Bool :=
  if i.slot = .b && bundleOpen s i.eng.val then (engGet s i.eng.val).opPreds else (engGet s i.eng.val).preds

/-- A register as an instruction reads it. -/
def source (s : State) (i : Iss) (g : Reg) : Word := regRead (slotRegs s i) g.val

/-- The engine issues the instruction, its predicate reads true, and no HALT.TICK stands in the open bundle. -/
def takesEffect (s : State) (i : Iss) : Bool :=
  issues s i && !(engGet s i.eng.val).bundle.halt && predRead (slotPreds s i) i.pred.val

/-- The counter words of an engine that the passing of cycles counts: PC0 to PC7 and OVF. -/
def countsCycles (e a : Nat) : Bool := a == pcAddr e 0x19 || (List.range 8).any fun k => a == pcAddr e k

/-- The engine issues the instruction, no HALT.TICK stands in the open bundle, and its predicate reads false. -/
def barred (s : State) (i : Iss) : Bool :=
  issues s i && !(engGet s i.eng.val).bundle.halt && !predRead (slotPreds s i) i.pred.val

/-- The bundle address of an instruction: slot A takes the next one where a bundle was open. -/
def bundlePc (s : State) (i : Iss) : Nat :=
  let E := engGet s i.eng.val
  if i.slot = .a && E.bundle.aDone then E.bundle.target.getD (E.pc + 1) else E.pc

/-- t is s with engine e at E, but for the bookkeeping of the issue itself: the operand view, the open bundle, the bundle
address, result latencies, cycle and slot counts of that engine, its counter words, and the debug trace. -/
def ranOn (s t : State) (e : Nat) (E : Engine) : Prop :=
  engGet t e = { E with
    opRegs := (engGet t e).opRegs, opPreds := (engGet t e).opPreds, bundle := (engGet t e).bundle, pc := (engGet t e).pc,
    landing := (engGet t e).landing, cyc := (engGet t e).cyc, tickCyc := (engGet t e).tickCyc,
    ledger := (engGet t e).ledger, above := (engGet t e).above } ∧
  (∀ k, k ≠ e → engGet t k = engGet s k) ∧
  (∀ a, countsCycles e a = false → cwGet t a = cwGet s a) ∧
  t = { s with engines := t.engines, cw := t.cw, trace := t.trace }

/-- The command completes, and one register of the engine holds a new value (a write to g0 is discarded). -/
def writesReg (s : State) (i : Iss) (r : Result) (g : Reg) (v : Word) : Prop :=
  ∃ t, r = .next t ∧ ranOn s t i.eng.val { engGet s i.eng.val with regs := regWrite (engGet s i.eng.val).regs g.val v }

/-- The command completes, and two predicates of the engine hold a condition and its inverse. -/
def writesPreds (s : State) (i : Iss) (r : Result) (pT pF : Pred) (c : Bool) : Prop :=
  ∃ t, r = .next t ∧ ranOn s t i.eng.val { engGet s i.eng.val with
    preds := predWrite (predWrite (engGet s i.eng.val).preds pT.val c) pF.val (!c) }

/-- The bundle goes on at an address: noted in the open bundle, or taken where slot B closes it. -/
def goesTo (t : State) (i : Iss) (a : Nat) : Prop :=
  match i.slot with
  | .a => (engGet t i.eng.val).bundle.target = some a
  | .b => (engGet t i.eng.val).pc = a

/-- The command completes with one more staged effect, kept by the engine, or by its batch (R39, R478). -/
def stages (s : State) (i : IssA) (r : Result) (op : StagedOp) : Prop :=
  let e := i.eng.val
  let g : Staged := { op := op, bundle := bundlePc s (issueOfA i) }
  ∃ t, r = .next t ∧
    match (engGet s e).running, s.batch with
    | .batch, some b => ranOn (s.putBatch (some { b with staged := b.staged ++ [g] })) t e (engGet s e)
    | _, _ => ranOn s t e { engGet s e with staged := (engGet s e).staged ++ [g] }

/-- What an instruction of slot A finds: s but for the bookkeeping of the issue, its operands as `source` reads them. -/
def opened (s o : State) (i : IssA) : Prop :=
  ranOn s o i.eng.val (engGet s i.eng.val) ∧ (engGet o i.eng.val).opRegs = slotRegs s (issueOfA i) ∧
    (engGet o i.eng.val).pc = bundlePc s (issueOfA i)

/-- The context that an M-form operand names (R308): by handle on a unit, by ID on the hub engine. -/
def namedContext (s : State) (i : IssA) (gA : Reg) (off : Nat) : Option Nat :=
  let a := (source s (issueOfA i) gA).toNat
  if i.eng.val < 64 then ctxOfHandle s i.eng.val ((a % 256 + off) % 256)
  else if (ctxPlace s (a % 16384)).isSome then some (a % 16384) else none

/-- A hub-only instruction of a batch takes its effect on the hub engine. -/
def hubTakes (s : State) (i : IssA) : Bool := i.eng.val == 64 && inBatch s 64 && takesEffect s (issueOfA i)

/-- The command completes at once with a status in gD of the hub engine, on a state s but for what `base` shows. -/
def hubStatus (base : State) (r : Result) (gD : Reg) (st : Nat) : Prop :=
  ∃ t, r = .next t ∧
    ranOn base t 64 { engGet base 64 with regs := regWrite (engGet base 64).regs gD.val (BitVec.ofNat 36 st) }

/-- The command starts an instruction with a duration: the batch waits (Table 9-9). -/
def hubWaits (base : State) (r : Result) (op : LongOp) (gD : Reg) : Prop :=
  ∃ t, r = .next t ∧ ranOn { base with long := some (op, gD.val) } t 64 { engGet base 64 with running := .waits }

/-- The NVM with a STORE under way. -/
def storing (s : State) (j : StoreJob) (target : Nat) : State :=
  { s with nvm := { s.nvm with busy := some j, target := target } }

/-! ### Checked effects -/

/-- A checked effect applies: the machine goes on in a state of which P holds, unless that state's starter would outgrow its
limit, which refuses the effect with LIMIT_STARTER (R400). -/
def applies (o : Origin) (k : RefKind) (addr : Nat) (s : State) (r : Result) (P : State → Prop) : Prop :=
  ∃ t, P t ∧ r = .next (if overgrows s t then refuse o 0x15 k addr s else t)

/-- The command completes in a state of which P holds. -/
def reaches (r : Result) (P : State → Prop) : Prop := ∃ t, r = .next t ∧ P t

/-- Control words outside a list read as before. -/
def cwKept (s t : State) (as : List Nat) : Prop := ∀ a, a ∉ as → cwGet t a = cwGet s a

/-- What a getter reads at every key but those of a list is as before. -/
def keeps {α : Type} (get : State → Nat → α) (s t : State) (ks : List Nat) : Prop := ∀ k, k ∉ ks → get t k = get s k

/-- An object stored in NVM: the copy that was not current holds it, its SEQ one above the current one's, and the copy that
was current stands beside it (R463); the first one has SEQ 1. -/
def newCopy {α : Type} (c d : Copies α) (v : α) : Prop :=
  (∀ m x, c.current = some (m, x) → d.current = some (m + 1, v) ∧ (d.a = some (m, x) ∨ d.b = some (m, x))) ∧
    (c.current = none → d.current = some (1, v))

/-- The issue of a command that is an engine instruction. -/
def issueOf : Instr → Option Iss
  | .nop i => some i
  | .add i _ _ _ => some i
  | .sub i _ _ _ => some i
  | .and i _ _ _ => some i
  | .or i _ _ _ => some i
  | .xor i _ _ _ => some i
  | .shl i _ _ _ => some i
  | .shr i _ _ _ => some i
  | .sar i _ _ _ => some i
  | .mov i _ _ => some i
  | .sel i _ _ _ _ => some i
  | .min i _ _ _ => some i
  | .max i _ _ _ => some i
  | .satAdd i _ _ _ => some i
  | .cmpEq i _ _ _ _ => some i
  | .cmpNe i _ _ _ _ => some i
  | .cmpLt i _ _ _ _ => some i
  | .cmpLtu i _ _ _ _ => some i
  | .movi i _ _ => some i
  | .movh i _ _ _ => some i
  | .addImmediate i _ _ _ => some i
  | .lex i _ _ _ => some (issueOfA i)
  | .lins i _ _ _ _ => some (issueOfA i)
  | .popc i _ _ => some (issueOfA i)
  | .bip8 i _ _ _ => some (issueOfA i)
  | .ctxLd i _ _ _ _ => some (issueOfA i)
  | .ctxSt i _ _ _ _ => some (issueOfA i)
  | .ctxNext i _ _ _ => some (issueOfA i)
  | .ctxId i _ _ _ => some (issueOfA i)
  | .ohGet i _ _ _ _ _ => some (issueOfA i)
  | .ohPut i _ _ _ _ _ => some (issueOfA i)
  | .defSet i _ _ _ => some (issueOfA i)
  | .defClr i _ _ _ => some (issueOfA i)
  | .alm i _ _ => some (issueOfA i)
  | .pmAdd i _ _ _ _ => some (issueOfA i)
  | .pmRoll i _ _ _ _ => some (issueOfA i)
  | .cfgR i _ _ _ => some (issueOfA i)
  | .cfgW i _ _ _ => some (issueOfA i)
  | .filtSet i _ _ _ => some (issueOfA i)
  | .filtGet i _ _ _ => some (issueOfA i)
  | .protSt i _ _ => some (issueOfA i)
  | .deckW i _ _ => some (issueOfA i)
  | .deckRd i _ _ _ => some (issueOfA i)
  | .deckSwap i _ _ => some (issueOfA i)
  | .qOpen i _ _ => some (issueOfA i)
  | .qPut i _ => some (issueOfA i)
  | .qClose i => some (issueOfA i)
  | .qAbort i => some (issueOfA i)
  | .chkSeed i _ _ _ _ => some (issueOfA i)
  | .chkFeed i _ _ _ => some (issueOfA i)
  | .chkRes i _ _ => some (issueOfA i)
  | .pcSel i _ _ => some (issueOfA i)
  | .pcRd i _ _ _ => some (issueOfA i)
  | .snap i => some (issueOfA i)
  | .br i _ => some i
  | .loop i _ _ => some (issueOfA i)
  | .loopContext i _ _ _ => some (issueOfA i)
  | .endl i => some i
  | .call i _ => some (issueOfA i)
  | .ret i => some (issueOfA i)
  | .haltTick i => some (issueOfA i)
  | .power i _ _ => some (issueOfA i)
  | .storeStarter i _ _ _ => some (issueOfA i)
  | .storeFw i _ _ _ _ => some (issueOfA i)
  | .storeOwner i _ _ _ _ _ => some (issueOfA i)
  | .storeFloors i _ _ _ => some (issueOfA i)
  | .storePair i _ _ _ _ => some (issueOfA i)
  | .seal i _ => some (issueOfA i)
  | .attest i _ _ _ => some (issueOfA i)
  | .loafLoad i _ _ _ _ => some (issueOfA i)
  | .keyGen i _ _ _ => some (issueOfA i)
  | .keyUseSign i _ _ _ _ => some (issueOfA i)
  | .keyUseCertify i _ _ _ _ => some (issueOfA i)
  | .keyUseAgree i _ _ _ _ => some (issueOfA i)
  | .mateSend i _ _ _ => some (issueOfA i)
  | .sessionClose i _ => some (issueOfA i)
  | .sessionRenew i _ => some (issueOfA i)
  | .protReqClear (.issue i _) => some (issueOfA i)
  | .protReqLo (.issue i _) => some (issueOfA i)
  | .protReqFs (.issue i _) => some (issueOfA i)
  | .protReqMsP (.issue i _) => some (issueOfA i)
  | .protReqMsW (.issue i _) => some (issueOfA i)
  | .protReqExer (.issue i _) => some (issueOfA i)
  | .protReqWtr (.issue i _) => some (issueOfA i)
  | .protReqDnr (.issue i _) => some (issueOfA i)
  | .protReqNr (.issue i _) => some (issueOfA i)
  | _ => none

end Sys2Proof.Machine
end

