-- ==== Sys2Proof/Safety.lean ====
section
/-! DEFINITION. What counts as a safe run: no step stops, the tables of the state keep their canonical form, and the package
never drives its line transmitters without holding the interlock (R33, R388). -/

namespace Sys2Proof.Safety

open Sys2Proof.Machine

/-- Control space, contexts, engines, scratch memory, buffers, decks, domains and latched words, in canonical form. -/
def coreTables (s : State) : Bool :=
  tabWf cwReset s.cw && tabWf (fun _ => (0 : Word)) s.ctx && tabWf (fun _ => (0 : Nat)) s.ctxAt &&
    tabWf (fun _ => ({} : Engine)) s.engines && tabWf (fun _ => (0 : BitVec 288)) s.scratch &&
    tabWf (fun _ => ({} : HostQueue)) s.hq && tabWf (fun _ => (0 : Word)) s.oh && tabWf (fun _ => (0 : Word)) s.deck &&
    tabWf (fun _ => false) s.sels && tabWf domReset s.doms && tabWf latchReset s.words

/-- Lanes, frames, contexts as they run, buffers and cells, in canonical form. -/
def lineTables (s : State) : Bool :=
  tabWf (fun _ => ({} : Lane)) s.lanes && tabWf (fun _ => ({} : Quad)) s.quads &&
    tabWf (fun _ => (.free : FlexHolder)) s.flex && tabWf (fun _ => ({} : RecClk)) s.recClk &&
    tabWf (fun _ => ({} : RefClk)) s.refClk && tabWf (fun _ => ({} : Tracker)) s.trackers &&
    tabWf (fun _ => ({} : Framer)) s.framers && tabWf (fun _ => ({} : Mon)) s.mons &&
    tabWf (fun _ => (0 : Word)) s.ohT0 && tabWf (fun _ => ({} : Cell)) s.cells &&
    tabWf (fun _ => ({} : Cell)) s.cellsT0 && tabWf (fun _ => ({} : ClientQueue)) s.cq &&
    tabWf (fun _ => ({} : Port)) s.ports

/-- Rings, decks, resizes, proof, groups, pairs, audio, clocks, loops and sessions, in canonical form. -/
def unitTables (s : State) : Bool :=
  tabWf (fun _ => ({} : CmdRing)) s.rings && tabWf (fun _ => ({} : HostRing)) s.hostRing &&
    tabWf (fun _ => (1 : BitVec 32)) s.msixTable &&
    tabWf (fun _ => (0 : Nat)) s.chkMax && tabWf (fun _ => ({} : DieDeck)) s.decks &&
    tabWf (fun _ => ({} : Rsz)) s.rsz && tabWf (fun _ => ({} : Ring)) s.prfRings &&
    tabWf (fun _ => ({} : Hl)) s.hls && tabWf (fun _ => ({} : Group)) s.groups &&
    tabWf (fun _ => (0 : Nat)) s.substs && tabWf (fun _ => (0 : Nat)) s.unverified &&
    tabWf (fun _ => (0 : Nat)) s.firstRing && tabWf (fun _ => ({} : Pair)) s.pairs &&
    tabWf (fun _ => ({} : Audio)) s.audio && tabWf (fun _ => ({} : SyncIn)) s.sync &&
    tabWf (fun _ => ({} : Vloop)) s.vloops && tabWf (fun _ => ({} : Session)) s.sess

/-- Every table of the state is in canonical form. -/
def tablesOk (s : State) : Bool := coreTables s && lineTables s && unitTables s

/-- The context words, buffer words, deck entries and SEL values that a starter carries, in canonical form. -/
def starterOk (st : Starter) : Bool :=
  tabWf (fun _ => (0 : Word)) st.ctx && tabWf (fun _ => (0 : Word)) st.oh && tabWf (fun _ => (0 : Word)) st.deck &&
    tabWf (fun _ => false) st.sels

/-- A STORE under way writes no starter out of canonical form. -/
def jobOk : Option StoreJob → Bool
  | some (.starter st) => starterOk st
  | _ => true

/-- Every starter that a state holds is in canonical form: both banks, the one a sweep delivers, the one SEAL left, both NVM
banks, the one being stored. -/
def startersOk (s : State) : Bool :=
  starterOk s.bank && starterOk s.spare && s.rdn.sweepRx.all starterOk && s.sec.sealed.all starterOk &&
    s.nvm.starter.a.all (fun p => starterOk p.2) && s.nvm.starter.b.all (fun p => starterOk p.2) && jobOk s.nvm.busy

/-- The package drives its line transmitters only while it holds. -/
def oneHolder (s : State) : Bool := !drivesLine s || s.ilk == .holding

/-- A state that a safe run may reach. -/
def safe (s : State) : Bool := tablesOk s && startersOk s && oneHolder s

/-- A run of n steps that stops nowhere and stays safe. -/
def safeRun : Nat → State → Bool
  | 0, s => safe s
  | n + 1, s =>
    safe s && match step s with
      | .next t => safeRun n t
      | .fault _ => false
      | .refused _ => false

end Sys2Proof.Safety
end

