-- ==== Sys2Proof/Certificates/Slice0/Obligations.lean ====
section
/-! DEFINITION. The statements for the provers. -/

open Sys2Proof Sys2Proof.Machine

/-- A step runs the command at the front of the queue (98_reader.md). For every command c, every rest of the queue and
every state: a step of the state with c at the front is exec of c on the state with the rest, and a step on an empty
queue changes nothing (the empty queue is the model's choice, log entry 1). -/
def Obligations.StepRunsFrontCommand : Prop :=
  ∀ (c : Instr) (rest : List Instr) (s : State),
    step { s with pending := c :: rest } = exec c { s with pending := rest } ∧
    step { s with pending := [] } = .next { s with pending := [] }

/-- Arithmetic and moves write their result and nothing else (R301, R303, R310, 09_engines.md Table 9-4). On every engine,
in either slot, with a true predicate: NOP, ADD, SUB, AND, OR, XOR, SHL, SHR, SAR (both amounts), MOV, SEL, MIN, MAX,
SAT.ADD, MOVI, MOVH and ADD immediate complete with the result of Table 9-4 in gD, computed from the operands that the
slot reads; a write to g0 is discarded; no other engine, register, predicate, control word or part of the machine
changes but the bookkeeping of the issue. -/
def Obligations.ArithmeticWritesRegister : Prop :=
  ∀ (i : Iss) (gD gA gB : Reg) (p : Pred) (n : Fin 64) (m : BitVec 20) (h : BitVec 16) (s : State), takesEffect s i = true →
    let a := source s i gA
    let b := source s i gB
    let k := b.toNat % 64
    (∃ t, exec (.nop i) s = .next t ∧ ranOn s t i.eng.val (engGet s i.eng.val)) ∧
    writesReg s i (exec (.add i gD gA gB) s) gD (a + b) ∧
    writesReg s i (exec (.sub i gD gA gB) s) gD (a - b) ∧
    writesReg s i (exec (.and i gD gA gB) s) gD (a &&& b) ∧
    writesReg s i (exec (.or i gD gA gB) s) gD (a ||| b) ∧
    writesReg s i (exec (.xor i gD gA gB) s) gD (a ^^^ b) ∧
    writesReg s i (exec (.shl i gD gA (.imm n)) s) gD (if n.val < 36 then a <<< n.val else 0) ∧
    writesReg s i (exec (.shl i gD gA (.reg gB)) s) gD (if k < 36 then a <<< k else 0) ∧
    writesReg s i (exec (.shr i gD gA (.imm n)) s) gD (if n.val < 36 then a >>> n.val else 0) ∧
    writesReg s i (exec (.shr i gD gA (.reg gB)) s) gD (if k < 36 then a >>> k else 0) ∧
    writesReg s i (exec (.sar i gD gA (.imm n)) s) gD
      (if n.val < 36 then a.sshiftRight n.val else if a.msb then -1 else 0) ∧
    writesReg s i (exec (.sar i gD gA (.reg gB)) s) gD (if k < 36 then a.sshiftRight k else if a.msb then -1 else 0) ∧
    writesReg s i (exec (.mov i gD gA) s) gD a ∧
    writesReg s i (exec (.sel i gD gA gB p) s) gD (if predRead (slotPreds s i) p.val then a else b) ∧
    writesReg s i (exec (.min i gD gA gB) s) gD (if a ≤ b then a else b) ∧
    writesReg s i (exec (.max i gD gA gB) s) gD (if a ≤ b then b else a) ∧
    writesReg s i (exec (.satAdd i gD gA gB) s) gD
      (if a.toNat + b.toNat < 2 ^ 36 then a + b else 0xFFFFFFFFF) ∧
    writesReg s i (exec (.movi i gD m) s) gD (m.signExtend 36) ∧
    writesReg s i (exec (.movh i gD gA h) s) gD (h ++ a.extractLsb' 0 20) ∧
    writesReg s i (exec (.addImmediate i gD gA m) s) gD (a + m.signExtend 36)

/-- Compares write two predicates; lane instructions write their register (R301, R310, 09_engines.md Table 9-4). CMP.EQ,
CMP.NE, CMP.LT (signed) and CMP.LTU (unsigned) write the condition to PT and its inverse to PF; LEX, LINS, POPC and
BIP8 write gD as Table 9-4 says (a lane is nine bits, its octet the low eight); p0 and g0 discard; nothing else
changes but the bookkeeping of the issue. -/
def Obligations.CompareAndLaneResults : Prop :=
  ∀ (i : Iss) (j : IssA) (pT pF : Pred) (gD gA gB : Reg) (lane : Fin 4) (s : State),
    (takesEffect s i = true →
      writesPreds s i (exec (.cmpEq i pT pF gA gB) s) pT pF (decide (source s i gA = source s i gB)) ∧
      writesPreds s i (exec (.cmpNe i pT pF gA gB) s) pT pF (decide (source s i gA ≠ source s i gB)) ∧
      writesPreds s i (exec (.cmpLt i pT pF gA gB) s) pT pF ((source s i gA).slt (source s i gB)) ∧
      writesPreds s i (exec (.cmpLtu i pT pF gA gB) s) pT pF ((source s i gA).ult (source s i gB))) ∧
    (takesEffect s (issueOfA j) = true →
      let a := source s (issueOfA j) gA
      let b := source s (issueOfA j) gB
      writesReg s (issueOfA j) (exec (.lex j gD gA lane) s) gD ((a.extractLsb' (9 * lane.val) 9).setWidth 36) ∧
      writesReg s (issueOfA j) (exec (.lins j gD gA gB lane) s) gD
        ((a &&& ~~~((0x1FF : Word) <<< (9 * lane.val))) ||| ((b &&& 0x1FF) <<< (9 * lane.val))) ∧
      writesReg s (issueOfA j) (exec (.popc j gD gA) s) gD
        (BitVec.ofNat 36 (((List.range 36).filter fun k => a.getLsbD k).length)) ∧
      writesReg s (issueOfA j) (exec (.bip8 j gD gA gB) s) gD
        ((b.extractLsb' 0 8 ^^^ a.extractLsb' 0 8 ^^^ a.extractLsb' 9 8 ^^^ a.extractLsb' 18 8 ^^^
          a.extractLsb' 27 8).setWidth 36))

/-- An instruction whose predicate is false has no effect (R306, R301). For every engine instruction of the table, hub-
only ones among them, in every state in which its engine issues it with a predicate that reads false: it completes,
and nothing changes but the bookkeeping of the issue. -/
def Obligations.FalsePredicateHasNoEffect : Prop :=
  ∀ (c : Instr) (i : Iss) (s : State), issueOf c = some i → barred s i = true →
    ∃ t, exec c s = .next t ∧ ranOn s t i.eng.val (engGet s i.eng.val)

/-- Branches, loops, calls and HALT.TICK (R316, R317, R318, R319, 09_engines.md Table 9-8). BR goes to its bundle plus the
offset and ends the loops it leaves; ENDL goes back to the body while passes are left, writing the next handle in a
context loop, and ends the loop otherwise; LOOP opens a counted or a context loop (a context loop with nothing to
visit goes past its ENDL); CALL and RET push and pop the call stack; HALT.TICK marks the bundle as the last of the
pass. Nothing else changes but the bookkeeping of the issue. -/
def Obligations.BranchesAndLoopsGoWhereTheSpecSays : Prop :=
  ∀ (i : Iss) (j : IssA) (off last : Fin 8192) (n : Fin 4096) (gD : Reg) (mask : BitVec 16) (target : Fin 8192) (s : State),
    (takesEffect s i = true →
      (∃ t, exec (.br i off) s = .next t ∧ goesTo t i (bundlePc s i + off.val) ∧
        ranOn s t i.eng.val { engGet s i.eng.val with
          loops := leaveLoops (engGet s i.eng.val).calls.length (bundlePc s i + off.val) (engGet s i.eng.val).loops }) ∧
      (∀ f rest, (engGet s i.eng.val).loops = f :: rest → f.context = false → f.left = 0 →
        ∃ t, exec (.endl i) s = .next t ∧ ranOn s t i.eng.val { engGet s i.eng.val with loops := rest }) ∧
      (∀ f rest, (engGet s i.eng.val).loops = f :: rest → f.context = false → f.left ≠ 0 →
        ∃ t, exec (.endl i) s = .next t ∧ goesTo t i f.body ∧
          ranOn s t i.eng.val { engGet s i.eng.val with loops := { f with left := f.left - 1 } :: rest }) ∧
      (∀ f rest, (engGet s i.eng.val).loops = f :: rest → f.context = true → f.handles = [] →
        ∃ t, exec (.endl i) s = .next t ∧ ranOn s t i.eng.val { engGet s i.eng.val with loops := rest }) ∧
      (∀ f rest h hs, (engGet s i.eng.val).loops = f :: rest → f.context = true → f.handles = h :: hs →
        ∃ t, exec (.endl i) s = .next t ∧ goesTo t i f.body ∧
          ranOn s t i.eng.val { engGet s i.eng.val with
            loops := { f with handles := hs } :: rest,
            regs := regWrite (engGet s i.eng.val).regs f.gD (BitVec.ofNat 36 h) })) ∧
    (takesEffect s (issueOfA j) = true →
      let E := engGet s j.eng.val
      let pc := bundlePc s (issueOfA j)
      (∃ t, exec (.loop j n last) s = .next t ∧
        ranOn s t j.eng.val { E with loops :=
          { body := pc + 1, last := last.val, left := n.val - 1, handles := [], gD := 0, context := false,
            depth := E.calls.length } :: E.loops }) ∧
      (handlesOf s j.eng.val mask.toNat = [] →
        ∃ t, exec (.loopContext j gD mask last) s = .next t ∧ goesTo t (issueOfA j) (last.val + 1) ∧
          ranOn s t j.eng.val E) ∧
      (∀ h hs, handlesOf s j.eng.val mask.toNat = h :: hs →
        ∃ t, exec (.loopContext j gD mask last) s = .next t ∧
          ranOn s t j.eng.val { E with
            regs := regWrite E.regs gD.val (BitVec.ofNat 36 h),
            loops := { body := pc + 1, last := last.val, left := 0, handles := hs, gD := gD.val, context := true,
                       depth := E.calls.length } :: E.loops }) ∧
      (∃ t, exec (.call j target) s = .next t ∧ goesTo t (issueOfA j) target.val ∧
        ranOn s t j.eng.val { E with calls := (pc + 1) :: E.calls }) ∧
      (∀ a rest, E.calls = a :: rest →
        ∃ t, exec (.ret j) s = .next t ∧ goesTo t (issueOfA j) a ∧
          ranOn s t j.eng.val { E with calls := rest, loops := E.loops.filter fun f => decide (f.depth < E.calls.length) }) ∧
      (∃ t, exec (.haltTick j) s = .next t ∧ (engGet t j.eng.val).bundle.halt = true ∧ ranOn s t j.eng.val E))

/-- CTX.LD, CTX.ST, CTX.NEXT and OH.GET (R308, R311, R312, R126, 09_engines.md Table 9-5). A context named by handle (unit
engine) or ID (hub engine): CTX.LD reads its word (words 1 to 7 read 0), CTX.ST writes it at once (words that no
program stores to stay), OH.GET reads the overhead word as latched at T0; a context that is not held reads 0, stores
nothing and counts cause 1 in ENG_ERR. CTX.NEXT writes the least handle (ID) not below gA whose KIND is in the mask,
100h (4000h) where there is none. Nothing else changes but the bookkeeping of the issue. -/
def Obligations.ContextAccess : Prop :=
  ∀ (i : IssA) (gD gA : Reg) (off : Fin 256) (word : Fin 128) (field ohw : Fin 64) (mask : BitVec 16) (s : State),
    takesEffect s (issueOfA i) = true →
    let I := issueOfA i
    let e := i.eng.val
    let a := (source s I gA).toNat
    let held := fun h => ∃ p ∈ s.ctxAt, p.2 = e * 256 + h + 1 ∧ mask.toNat.testBit (ctxKind s p.1) = true
    let lives := fun id => ∃ p ∈ s.ctxAt, p.1 = id ∧ mask.toNat.testBit (ctxKind s id) = true
    (∀ id, namedContext s i gA off.val = some id →
      writesReg s I (exec (.ctxLd i gD gA off word) s) gD (if 1 ≤ word.val ∧ word.val ≤ 7 then 0 else ctxWord s id word.val) ∧
      writesReg s I (exec (.ohGet i gD gA off field ohw) s) gD (tabGet 0 s.ohT0 (ohKey id field.val ohw.val)) ∧
      (∃ t, exec (.ctxSt i gD gA off word) s = .next t ∧
        ranOn (if word.val ≤ 7 ∨ (32 ≤ word.val ∧ word.val ≤ 38) then s else ctxSet id word.val (source s I gD) s) t e
          (engGet s e))) ∧
    (namedContext s i gA off.val = none →
      (∃ o, opened s o i ∧ exec (.ctxLd i gD gA off word) s = .next (setReg e gD.val 0 (engErr e 1 o))) ∧
      (∃ o, opened s o i ∧ exec (.ohGet i gD gA off field ohw) s = .next (setReg e gD.val 0 (engErr e 1 o))) ∧
      (∃ o, opened s o i ∧ exec (.ctxSt i gD gA off word) s = .next (engErr e 1 o))) ∧
    (e < 64 → tabWf (fun _ => 0) s.ctxAt = true →
      (∀ n, n < 256 → a % 256 ≤ n → held n → (∀ m, a % 256 ≤ m → m < n → ¬ held m) →
        writesReg s I (exec (.ctxNext i gD gA mask) s) gD (BitVec.ofNat 36 n)) ∧
      ((∀ m, a % 256 ≤ m → m < 256 → ¬ held m) → writesReg s I (exec (.ctxNext i gD gA mask) s) gD 0x100)) ∧
    (e = 64 →
      (∀ n, a % 16384 ≤ n → lives n → (∀ m, a % 16384 ≤ m → m < n → ¬ lives m) →
        writesReg s I (exec (.ctxNext i gD gA mask) s) gD (BitVec.ofNat 36 n)) ∧
      ((∀ m, a % 16384 ≤ m → ¬ lives m) → writesReg s I (exec (.ctxNext i gD gA mask) s) gD 0x4000))

/-- CTX.ID translates between IDs and handles (R311, 09_engines.md Table 9-5). On a unit engine CTX.ID writes the handle
of a context that the unit holds, else 100h, or the ID that a handle holds, else 800000000h; on the hub engine the
place (unit and handle) or the ID of a context that exists, else 800000000h. Nothing else changes but the bookkeeping
of the issue. -/
def Obligations.ContextNumbersTranslate : Prop :=
  ∀ (i : IssA) (gD gA : Reg) (s : State), takesEffect s (issueOfA i) = true →
    let I := issueOfA i
    let e := i.eng.val
    let a := (source s I gA).toNat
    (e < 64 →
      (∀ p, ctxPlace s (a % 16384) = some p → p / 256 = e →
        writesReg s I (exec (.ctxId i gD gA true) s) gD (BitVec.ofNat 36 (p % 256))) ∧
      ((∀ p, ctxPlace s (a % 16384) = some p → p / 256 ≠ e) → writesReg s I (exec (.ctxId i gD gA true) s) gD 0x100) ∧
      (∀ id, ctxOfHandle s e (a % 256) = some id → writesReg s I (exec (.ctxId i gD gA false) s) gD (BitVec.ofNat 36 id)) ∧
      (ctxOfHandle s e (a % 256) = none → writesReg s I (exec (.ctxId i gD gA false) s) gD 0x800000000)) ∧
    (¬ e < 64 →
      (∀ p, ctxPlace s (a % 16384) = some p →
        writesReg s I (exec (.ctxId i gD gA true) s) gD (BitVec.ofNat 36 p) ∧
        writesReg s I (exec (.ctxId i gD gA false) s) gD (BitVec.ofNat 36 (a % 16384))) ∧
      (ctxPlace s (a % 16384) = none → ∀ h, writesReg s I (exec (.ctxId i gD gA h) s) gD 0x800000000))

/-- Effects on the outside are staged (R39, R50, R312, R454, 09_engines.md Table 9-6). OH.PUT, DEF.SET, DEF.CLR, FILT.SET,
DECK.W, DECK.SWAP, POWER (hub engine) and CFG.W add one staged effect, with its operands as the slot reads them, to
the engine or its batch, and change nothing else but the bookkeeping of the issue; a context that is not held, or an
access outside grant, scope or right, stages nothing and is counted. -/
def Obligations.EffectsAreStaged : Prop :=
  ∀ (i : IssA) (gD gA gB : Reg) (off : Fin 256) (field ohw : Fin 64) (w2 : Fin 2) (fn : BitVec 16) (d0 d1 : Bool)
    (ladder : Fin 8) (s : State), takesEffect s (issueOfA i) = true →
    let I := issueOfA i
    let e := i.eng.val
    let a := source s I gA
    (∀ id, namedContext s i gA off.val = some id →
      stages s i (exec (.ohPut i gD gA off field ohw) s) (.ohPut id field.val ohw.val (source s I gD)) ∧
      stages s i (exec (.defSet i gA off field) s) (.defSet id field.val) ∧
      stages s i (exec (.defClr i gA off field) s) (.defClr id field.val)) ∧
    (namedContext s i gA off.val = none →
      (∃ o, opened s o i ∧ exec (.ohPut i gD gA off field ohw) s = .next (engErr e 1 o)) ∧
      (∃ o, opened s o i ∧ exec (.defSet i gA off field) s = .next (engErr e 1 o)) ∧
      (∃ o, opened s o i ∧ exec (.defClr i gA off field) s = .next (engErr e 1 o))) ∧
    (granted s e true clsOh = true → cellOpen s e (filtCell e a) = true →
      stages s i (exec (.filtSet i gA gB w2) s) (.filtSet (filtCell e a) w2.val (source s I gB))) ∧
    (granted s e true clsOh = false →
      ∃ o, opened s o i ∧ exec (.filtSet i gA gB w2) s =
        .next (outsideGrant e (cellAddr (filtCell e a / 2048) (filtCell e a % 2048) w2.val) o)) ∧
    (deckGranted s e true (a.toNat % 2 ^ 18) = true →
      stages s i (exec (.deckW i gA gB) s) (.deckW (a.toNat % 2 ^ 18) (source s I gB))) ∧
    (deckGranted s e true (a.toNat % 2 ^ 18) = false →
      ∃ o, opened s o i ∧ exec (.deckW i gA gB) s = .next (outsideGrant e (a.toNat % 2 ^ 18) o)) ∧
    (granted s e true clsDeck = true → (e = 64 ∨ inBatch s e = true ∨ (if dieOf e = 0 then d1 else d0) = false) →
      stages s i (exec (.deckSwap i d0 d1) s) (.deckSwap (b2n d0 + 2 * b2n d1))) ∧
    (e = 64 → stages s i (exec (.power i gA ladder) s) (.power (a.toNat % 64) ladder.val)) ∧
    (access s e true ((a.toNat + fn.toNat) % 2 ^ 24) = .ok →
      stages s i (exec (.cfgW i gA gB fn) s) (.cfgW ((a.toNat + fn.toNat) % 2 ^ 24) (source s I gB))) ∧
    (∀ k, access s e true ((a.toNat + fn.toNat) % 2 ^ 24) = .violates k →
      ∃ o, opened s o i ∧ exec (.cfgW i gA gB fn) s = .next (accessViolation k e ((a.toNat + fn.toNat) % 2 ^ 24) o))

/-- PROT.REQ stages a request on a pair (R39, R50, 08_protection.md Table 8-8). Each of the nine PROT.REQ operations,
issued with the grant and, by a program, within its scope, stages that operation on the pair in gA[10:0]; without the
grant nothing is staged and the access is counted and recorded. -/
def Obligations.ProtectionRequestsAreStaged : Prop :=
  ∀ (i : IssA) (gA : Reg) (s : State), takesEffect s (issueOfA i) = true →
    let p := (source s (issueOfA i) gA).toNat % 2048
    (granted s i.eng.val true clsPair = true → inBatch s i.eng.val = true ∨ pairScope s i.eng.val p = true →
      stages s i (exec (.protReqClear (.issue i gA)) s) (.protReq 0 p) ∧
      stages s i (exec (.protReqLo (.issue i gA)) s) (.protReq 1 p) ∧
      stages s i (exec (.protReqFs (.issue i gA)) s) (.protReq 2 p) ∧
      stages s i (exec (.protReqMsP (.issue i gA)) s) (.protReq 3 p) ∧
      stages s i (exec (.protReqMsW (.issue i gA)) s) (.protReq 4 p) ∧
      stages s i (exec (.protReqExer (.issue i gA)) s) (.protReq 5 p) ∧
      stages s i (exec (.protReqWtr (.issue i gA)) s) (.protReq 8 p) ∧
      stages s i (exec (.protReqDnr (.issue i gA)) s) (.protReq 9 p) ∧
      stages s i (exec (.protReqNr (.issue i gA)) s) (.protReq 10 p)) ∧
    (granted s i.eng.val true clsPair = false →
      ∃ o, opened s o i ∧ exec (.protReqFs (.issue i gA)) s = .next (outsideGrant i.eng.val (pairAddr p 0) o))

/-- Q.OPEN, Q.PUT, Q.CLOSE and Q.ABORT build items and append them whole (R313, R341, 09_engines.md Table 9-7). Q.OPEN
starts an item with the header of an engine item and code gA[15:0], discarding one already open; Q.PUT adds a word,
and marks an item that holds its header and 63 words; Q.CLOSE appends the item whole with WORDS filled in, discards an
overflowed one counting cause 2 in ENG_ERR, and drops one truncated by a flush; Q.ABORT discards it. Nothing else
changes but the bookkeeping of the issue. -/
def Obligations.ItemsAreBuiltAndAppended : Prop :=
  ∀ (i : IssA) (gA : Reg) (q : HqId) (s : State), takesEffect s (issueOfA i) = true →
    let e := i.eng.val
    let E := engGet s e
    let a := source s (issueOfA i) gA
    (let it : OpenItem := { queue := q.val, words := [recHeader 0x02 e 0 (a.toNat % 65536)], overflow := false, truncated := false }
     ∃ t, exec (.qOpen i gA q) s = .next t ∧ ranOn s t e { E with item := some it }) ∧
    (∃ t, exec (.qAbort i) s = .next t ∧ ranOn s t e { E with item := none }) ∧
    (E.item = none →
      (∃ t, exec (.qPut i gA) s = .next t ∧ ranOn s t e E) ∧ (∃ t, exec (.qClose i) s = .next t ∧ ranOn s t e E)) ∧
    (∀ it, E.item = some it →
      (it.words.length < 64 → ∃ t, exec (.qPut i gA) s = .next t ∧
        ranOn s t e { E with item := some { it with words := it.words ++ [a] } }) ∧
      (64 ≤ it.words.length → ∃ t, exec (.qPut i gA) s = .next t ∧
        ranOn s t e { E with item := some { it with overflow := true } }) ∧
      (it.truncated = true → ∃ t, exec (.qClose i) s = .next t ∧ ranOn s t e { E with item := none }) ∧
      (it.truncated = false → it.overflow = true → ∃ o, opened s o i ∧
        exec (.qClose i) s = .next (engErr e 2 (engPut e { engGet o e with item := none } o))) ∧
      (∀ h ws, it.truncated = false → it.overflow = false → it.words = h :: ws → ∃ o, opened s o i ∧
        exec (.qClose i) s = .next (hqAppend it.queue (putFld h 22 16 ws.length :: ws)
          (engPut e { engGet o e with item := none } o))))

/-- ALM, PM.ADD and PM.ROLL (R156). ALM places an alarm record of the context (its index and layer, both defect words, the
tick just ended) in the queue its ALM_HQ names; PM.ADD adds to a counter of both current bins, held at its top with
SAT, the bin then with SAT_ANY; PM.ROLL moves the current bin to the previous one, stamps both, clears the counters,
and records the bin where the context asks for it. No other word of any context changes. -/
def Obligations.AlarmsAndBinsAreRecorded : Prop :=
  ∀ (i : IssA) (gD gA : Reg) (off : Fin 256) (param : Fin 8) (bin suspect : Bool) (id : Nat) (s : State),
    takesEffect s (issueOfA i) = true → namedContext s i gA off.val = some id →
    let e := i.eng.val
    let m := monGet s id
    let v := (source s (issueOfA i) gD).toNat
    let b := if bin then 84 else 64
    let last := s.tick - 1
    (∃ o, opened s o i ∧ exec (.alm i gA off) s = .next (record (fld m.w9 27 25) 0x04 e
      [mkWord [(22, id), (17, fld m.w8 35 31)], ctxWord s id 32, ctxWord s id 36, last] o)) ∧
    (tabWf (fun _ => 0) s.ctx = true →
      (∃ t, exec (.pmAdd i gD gA off param) s = .next t ∧ ranOn { s with ctx := t.ctx } t e (engGet s e) ∧
        (∀ p ∈ [66, 86],
          (let w := ctxWord s id (p + param.val)
           ctxWord t id (p + param.val) =
            if w.getLsbD 35 = true ∨ 0x7FFFFFFFF < w.toNat % 2 ^ 35 + v then
              (if w.getLsbD 35 = true then w else 0xFFFFFFFFF)
            else BitVec.ofNat 36 (w.toNat + v))) ∧
        (∀ p ∈ [64, 84],
          (let w := ctxWord s id (p + 2 + param.val)
           ctxWord t id p = if w.getLsbD 35 = false ∧ 0x7FFFFFFFF < w.toNat % 2 ^ 35 + v then putFld (ctxWord s id p) 33 33 1
             else ctxWord s id p)) ∧
        ∀ k w, k ≠ id ∨ w ∉ [64, 66 + param.val, 84, 86 + param.val] → w < 128 → ctxWord t k w = ctxWord s k w) ∧
      (∃ o t, opened s o i ∧ exec (.pmRoll i gA off bin suspect) s = .next t ∧
        t = (if (if bin then m.w9.getLsbD 22 else m.w9.getLsbD 23) then pmRecord e id b { o with ctx := t.ctx }
             else { o with ctx := t.ctx }) ∧
        (∀ k, k < 10 → k ≠ 1 → ctxWord t id (b + 10 + k) = ctxWord s id (b + k)) ∧ ctxWord t id (b + 11) = last ∧
        ctxWord t id (b + 1) = s.tick ∧ ctxWord t id b = mkWord [(35, 1), (34, b2n suspect)] ∧
        (∀ k, k < 8 → ctxWord t id (b + 2 + k) = 0) ∧
        ∀ k w, k ≠ id ∨ w < b ∨ b + 20 ≤ w → w < 128 → ctxWord t k w = ctxWord s k w))

/-- CHK.SEED, CHK.FEED and CHK.RES (R314, R352, R353, R354, R355, R360, 10_queues.md). CHK.SEED starts a computation of
its mode, over the five octets of the fold-in value where asked; CHK.FEED processes the octets of lanes 0 to n;
CHK.RES writes the result so far to gD. The wait of a unit engine for its cluster's unit is counted in CHK_WAIT.
Nothing else changes but the bookkeeping of the issue. -/
def Obligations.ChecksAreComputed : Prop :=
  ∀ (i : IssA) (gD gA : Reg) (fold : Bool) (mode : Fin 6) (lanes : Fin 4) (wait : Fin 33) (s : State),
    takesEffect s (issueOfA i) = true → Safety.tablesOk s = true →
    let e := i.eng.val
    let E := engGet s e
    let a := source s (issueOfA i) gA
    let base := if e < 64 then chkWaited e wait.val s else s
    let seeded := [0, 8, 16, 24, 32].foldl (fun c lo => chkOctet c (a.toNat / 2 ^ lo % 256)) (chkStart mode.val)
    (∃ t, exec (.chkSeed i gA fold mode wait) s = .next t ∧ ranOn base t e { E with chk := if fold then seeded else chkStart mode.val }) ∧
    (∃ t, exec (.chkFeed i gA lanes wait) s = .next t ∧ ranOn base t e { E with
      chk := (List.range (lanes.val + 1)).foldl (fun c k => chkOctet c (a.toNat / 2 ^ (9 * k) % 256)) E.chk }) ∧
    (∃ t, exec (.chkRes i gD wait) s = .next t ∧
      ranOn base t e { E with regs := regWrite E.regs gD.val (BitVec.ofNat 36 (chkValue E.chk)) }) ∧
    (e < 64 → 0 < wait.val → cwGet base (ctlAddr clsChk (e / 4) 0) = satAdd (cwGet s (ctlAddr clsChk (e / 4) 0)) wait.val)

/-- PC.SEL, PC.RD, SNAP, FILT.GET, PROT.ST, DECK.RD and CFG.R (R41, R50, R366, R373, R374, R490, 09_engines.md Table 9-7,
09_engines.md Table 9-6). With the grant: PC.SEL selects the event of a counter at once (CHAIN of PC7 reads 0), PC.RD
reads a live or a shadow counter, SNAP causes a capture, FILT.GET, PROT.ST, DECK.RD and CFG.R write the word they name
to gD, a guest's batch seeing only G-marked fields; without it gD receives 0 and the access is counted and recorded.
Nothing else changes but the bookkeeping of the issue. -/
def Obligations.ReadsWriteOneRegister : Prop :=
  ∀ (i : IssA) (gD gA : Reg) (k : Fin 8) (n : Fin 10) (w4 : Fin 4) (shadow standby : Bool) (fn : BitVec 16) (s : State),
    takesEffect s (issueOfA i) = true →
    let I := issueOfA i
    let e := i.eng.val
    let a := source s I gA
    (∃ t, exec (.snap i) s = .next t ∧
      (selfProfile s e = true → ranOn { s with captures := s.captures + 1 } t e (engGet s e))) ∧
    (selfProfile s e = true →
      (∃ o, opened s o i ∧ exec (.pcSel i gA k) s =
        .next (cwSet (pcAddr e (16 + k.val)) (if k.val = 7 then a &&& 0x7FFFFFFFF else a) o)) ∧
      writesReg s I (exec (.pcRd i gD true n) s) gD (cwGet s (pcAddr e (32 + n.val))) ∧
      (∃ o, opened s o i ∧ exec (.pcRd i gD false n) s = .next (setReg e gD.val (counterLive o e n.val) o))) ∧
    (selfProfile s e = false → ∃ o, opened s o i ∧
      exec (.pcRd i gD shadow n) s = .next (setReg e gD.val 0 (outsideGrant e (pcAddr e n.val) o))) ∧
    (granted s e false clsOh = true → cellOpen s e (filtCell e a) = true →
      writesReg s I (exec (.filtGet i gD gA w4) s) gD (cellWord s (filtCell e a) w4.val)) ∧
    (granted s e false clsPair = true → inBatch s e = true ∨ pairScope s e (a.toNat % 2048) = true →
      writesReg s I (exec (.protSt i gD gA) s) gD (latched s (pairAddr (a.toNat % 2048) 3))) ∧
    (deckGranted s e false (a.toNat % 2 ^ 18) = true → deckReserved (a.toNat % 2 ^ 18) = false →
      deckRange (a.toNat % 2 ^ 18) = false →
      writesReg s I (exec (.deckRd i gD gA standby) s) gD (deckRead s standby (a.toNat % 2 ^ 18))) ∧
    (deckGranted s e false (a.toNat % 2 ^ 18) = false → ∃ o, opened s o i ∧
      exec (.deckRd i gD gA standby) s = .next (setReg e gD.val 0 (outsideGrant e (a.toNat % 2 ^ 18) o))) ∧
    (access s e false ((a.toNat + fn.toNat) % 2 ^ 24) = .ok → ∃ o, opened s o i ∧
      exec (.cfgR i gD gA fn) s = .next (setReg e gD.val
        (if inBatch s e = true ∧ (sessGet s (batchRing s)).own = false then guestWord o ((a.toNat + fn.toNat) % 2 ^ 24)
         else readWord o ((a.toNat + fn.toNat) % 2 ^ 24)) o)) ∧
    (∀ c, access s e false ((a.toNat + fn.toNat) % 2 ^ 24) = .violates c → ∃ o, opened s o i ∧
      exec (.cfgR i gD gA fn) s = .next (setReg e gD.val 0 (accessViolation c e ((a.toNat + fn.toNat) % 2 ^ 24) o)))

/-- STORE starts on each of the five targets (R461, R463, R464, R437, R442, R441, R459, 13_security.md Table 13-10). A
STORE of a batch whose interval has passed, with debug locked, whose input lies in the scratch window and passes the
checks of its target, makes the batch wait with the job under way in the NVM; with debug unlocked it is refused with
MODE_STATE, within its interval with STORE_RATE and result 1, with an invalid signature with STORE_AUTH and result 2. -/
def Obligations.StoresStart : Prop :=
  ∀ (i : IssA) (gD gA gB : Reg) (sigOk bindOk : Bool) (s : State), hubTakes s i = true →
    let at_ := (source s (issueOfA i) gA).toNat
    let n := (source s (issueOfA i) gB).toNat
    let ls := scratchLines s at_ n
    let due := fun target => s.sec.unlocked = false ∧ tabGet 0 s.nvm.lastAt target ≤ tickCount s
    (s.sec.unlocked = true →
      hubStatus s (exec (.storeStarter i gD gA gB) s) gD 0x04 ∧ hubStatus s (exec (.storeFw i gD gA gB sigOk) s) gD 0x04 ∧
      hubStatus s (exec (.storeOwner i gD gA gB sigOk bindOk) s) gD 0x04 ∧
      hubStatus s (exec (.storeFloors i gD gA gB) s) gD 0x04 ∧ hubStatus s (exec (.storePair i gD gA gB sigOk) s) gD 0x04) ∧
    (s.sec.unlocked = false → tickCount s < tabGet 0 s.nvm.lastAt 2 →
      hubStatus { s with nvm := { s.nvm with target := 2, result := 1 } } (exec (.storeOwner i gD gA gB sigOk bindOk) s) gD 0x58) ∧
    (∀ b st, due 0 → s.batch = some b → b.sealed = true → s.sec.sealed = some st →
      hubWaits (storing s (.starter st) 0) (exec (.storeStarter i gD gA gB) s) .store gD) ∧
    (1 ≤ n → 32768 ≤ at_ → at_ + n ≤ 163840 →
      (due 1 → sigOk = true → firmwareOk ls = true → (floors s).fw ≤ lineNat ls 2 2 →
        hubWaits (storing s (.fw { svn := lineNat ls 2 2, lines := ls, valid := true }) 1)
          (exec (.storeFw i gD gA gB sigOk) s) .store gD) ∧
      (due 2 → sigOk = true → ownerDocOk ls = true → claimOk s bindOk ls = true ∨ transferOk s ls = true →
        hubWaits (storing s (.owner (lineByte ls 0)
            { seq := lineNat ls 8 8, key := if lineByte ls 0 = 3 then none else some (lineBytes ls 64 96) }) 2)
          (exec (.storeOwner i gD gA gB sigOk bindOk) s) .store gD) ∧
      (due 2 → sigOk = false → hubStatus { s with nvm := { s.nvm with target := 2, result := 2 } }
        (exec (.storeOwner i gD gA gB sigOk bindOk) s) gD 0x59) ∧
      (due 3 → n = 1 → fld (lineWord ls 0) 1 0 ≠ 3 →
        (floors s).fw = fld (lineWord ls 0) 35 20 → (floors s).loaf = (lineWord ls 1).toNat →
        hubWaits (storing s (.floors { fw := (floors s).fw, pin := fld (lineWord ls 0) 1 0, loaf := (floors s).loaf }) 3)
          (exec (.storeFloors i gD gA gB) s) .store gD) ∧
      (due 4 → sigOk = true → n = 11 → lineBytes ls 0 8 = [1, 1, 0, 0, 0, 0, 0, 0] →
        lineBytes ls 200 16 = List.replicate 16 0 →
        BitVec.ofNat 768 (lineNat ls (if s.straps.seat = 0 then 8 else 104) 96) = Config.identityKey →
        hubWaits (storing s (.pair ls) 4) (exec (.storePair i gD gA gB sigOk) s) .store gD))

/-- SEAL, ATTEST, LOAF.LOAD, KEY.GEN, KEY.USE, MATE.SEND and the SESSION instructions (R332, R445, R449, R450, R452, R465,
R467, R574, 09_engines.md Table 9-9). In a batch on the hub engine: SEAL waits for the end of the commit window;
ATTEST writes a report over the caller's nonce; LOAF.LOAD waits where every check passes and is counted and refused
with the check's status otherwise; KEY.GEN fills a slot and writes its public key; KEY.USE needs a filled slot and
writes its output; MATE.SEND queues its lines whole as one message; SESSION close and renew end or re-key the session.
Drawn and secret octets are free values. -/
def Obligations.HubInstructionsOfBatches : Prop :=
  ∀ (i : IssA) (gD gA gB : Reg) (slot : Fin 4) (sigOk : Bool) (s : State), hubTakes s i = true →
    let at_ := (source s (issueOfA i) gA).toNat
    let n := (source s (issueOfA i) gB).toNat
    let ls := scratchLines s at_ n
    let l := parseLoaf (Config.digest (lineBytes ls 0 (36 * n))).toNat ls
    let guest := !(sessGet s (batchRing s)).own
    let put := fun (b k : Nat) (bytes : List Nat) => (scratchPut b (linesOf k bytes) s).scratch
    let f := freeBytes s 145
    (s.mode ≠ .sealed → s.mode ≠ .boot → s.mode ≠ .quarantine → s.sec.unlocked = false → s.rdn.sweepRx = none →
      hubWaits s (exec (.seal i gD) s) .seal gD) ∧
    (s.mode = .sealed ∨ s.mode = .boot ∨ s.mode = .quarantine ∨ s.sec.unlocked = true →
      hubStatus s (exec (.seal i gD) s) gD 0x04) ∧
    (inWindow at_ 1 = true → inWindow n 15 = true →
      hubStatus { s with scratch := put n 15 (report guest (lineBytes (scratchLines s at_ 1) 0 32) s), freeUses := s.freeUses + 96 }
        (exec (.attest i gD gA gB) s) gD 0) ∧
    (n = 0 ∨ inWindow at_ n = true → ∃ o, opened s o i ∧ exec (.loafLoad i gD gA gB sigOk) s =
      .next (if loafStatus o sigOk ls l = 0 then waitAt (.loaf l) gD.val o
        else cenInc 2 (status gD.val (loafStatus o sigOk ls l) o))) ∧
    (n = 0 ∨ inWindow at_ n = true → bundleOpen s 64 = false → loafStatus s sigOk ls l = 0 →
      hubWaits s (exec (.loafLoad i gD gA gB sigOk) s) (.loaf l) gD) ∧
    (inWindow n 3 = true →
      hubStatus { s with scratch := put n 3 (freeBytes s 96), freeUses := s.freeUses + 96,
                         sec := { s.sec with slots := s.sec.slots ||| 2 ^ slot.val } }
        (exec (.keyGen i gD gB slot) s) gD 0) ∧
    (s.sec.slots.testBit slot.val = false →
      hubStatus s (exec (.keyUseSign i gD gA gB slot) s) gD 0x5C ∧ hubStatus s (exec (.keyUseCertify i gD gA gB slot) s) gD 0x5C ∧
      hubStatus s (exec (.keyUseAgree i gD gA gB slot) s) gD 0x5C) ∧
    (s.sec.slots.testBit slot.val = true →
      (inWindow at_ 2 = true → inWindow n 5 = true →
        hubStatus { s with scratch := put n 5 (sigBlock (f.getD 144 0) (f.take 48) ((f.drop 48).take 96)),
                           freeUses := s.freeUses + 145 } (exec (.keyUseSign i gD gA gB slot) s) gD 0) ∧
      (inWindow n 5 = true →
        hubStatus { s with scratch := put n 5 (sigBlock (f.getD 144 0) (digestBytes Config.deviceId) (f.take 96)),
                           freeUses := s.freeUses + 145 } (exec (.keyUseCertify i gD gA gB slot) s) gD 0) ∧
      (inWindow at_ 3 = true → inWindow n 2 = true →
        hubStatus { s with scratch := put n 2 (freeBytes s 48), freeUses := s.freeUses + 145 }
          (exec (.keyUseAgree i gD gA gB slot) s) gD 0)) ∧
    (1 ≤ n → n ≤ 1024 → inWindow at_ n = true → linkUp s = true → n ≤ s.link.cr →
      hubStatus (mateLevel { s with link := { s.link with queue := s.link.queue ++ [.msg ls], cr := s.link.cr - n } })
        (exec (.mateSend i gD gA gB) s) gD 0) ∧
    (n = 0 ∨ 1024 < n ∨ inWindow at_ n = false → hubStatus s (exec (.mateSend i gD gA gB) s) gD 0x02) ∧
    (∀ b, s.batch = some b →
      hubStatus { s with batch := some { b with closes := true } } (exec (.sessionClose i gD) s) gD 0) ∧
    (let k := sessGet s (batchRing s)
     hubStatus { s with sess := (sessPut (batchRing s) { k with renewals := k.renewals + 1, seq := 1 } s).sess,
                        out := .sessionNonce (batchRing s) (Config.freeWord s.freeUses) :: s.out, freeUses := s.freeUses + 1 }
       (exec (.sessionRenew i gD) s) gD 0)

/-- LANE_CFG, PLL lock and CDR lock bring a lane up (R57, R58, R59, R60, R61, R79, 02_lanes.md). LANE_CFG of a reserved
rate is refused with CFG_RANGE, writes that break the rules of their quad are all refused with its status; an accepted
write is stored, and switches the lane off, starts its bring-up on a bank of its family, or leaves it as it runs where
EN, BANK and RATE stand. PLL lock and CDR lock take the lane on through its states; each has no effect in another
state. -/
def Obligations.LaneSetUp : Prop :=
  ∀ (side : Side) (quad : Fin 16) (w : LaneWrite) (ws : List LaneWrite) (l : LaneRef) (s : State), Safety.tablesOk s = true →
    let sd := sideNum side
    let q := quad.val
    let lane := 4 * q + w.lane.val
    let a := laneAddr sd lane 0
    let new := laneCfgValue sd w.value
    let plan := cwSet a new s
    let c := exec (.laneCfg side quad [w]) s
    let k := laneKey (sideNum l.side) l.lane.val
    let v := laneGet s k
    (0xC < laneRate w.value → c = .next (refuse w.origin 0x02 .word a s)) ∧
    (∀ st, st = quadStatus (quadPlan sd q ws s) sd q → st ≠ 0 → (∀ x ∈ ws, laneRate x.value ≤ 0xC) →
      exec (.laneCfg side quad ws) s =
        .next (ws.foldl (fun u x => refuse x.origin st .word (laneAddr sd (4 * q + x.lane.val) 0) u) s)) ∧
    (laneRate w.value ≤ 0xC → quadStatus plan sd q = 0 → w.value.getLsbD 35 = false →
      applies w.origin .word a s c fun t => cwGet t a = new ∧ (laneGet t (laneKey sd lane)).st = .off ∧
        (laneGet t (laneKey sd lane)).cdrLock = false ∧ keeps laneGet s t [laneKey sd lane] ∧ cwKept s t [a] ∧
        t = { s with cw := t.cw, lanes := t.lanes, framers := t.framers, cells := t.cells, trackers := t.trackers }) ∧
    (laneRate w.value ≤ 0xC → quadStatus plan sd q = 0 → w.value.getLsbD 35 = true → (laneCfg s sd lane).getLsbD 35 = false →
      domRuns s (laneDom sd lane) = true →
      applies w.origin .word a s c fun t => cwGet t a = new ∧
        (laneGet t (laneKey sd lane)).st = .pllWait ∧
        (laneGet t (laneKey sd lane)).train = (if w.value.getLsbD 25 then 1 else 0) ∧
        (quadGet t sd q).family = rateFamily (laneRate w.value) ∧ keeps laneGet s t [laneKey sd lane]) ∧
    (laneRate w.value ≤ 0xC → quadStatus plan sd q = 0 → w.value.getLsbD 35 = true →
      fld (laneCfg s sd lane) 35 30 = fld w.value 35 30 → (laneCfg s sd lane).getLsbD 25 = w.value.getLsbD 25 →
      applies w.origin .word a s c fun t => cwGet t a = new ∧ cwKept s t [a] ∧ t = { s with cw := t.cw }) ∧
    (v.st = .pllWait → reaches (exec (.lanePllLock l) s) fun t =>
      laneGet t k = { v with st := .cdrAcq } ∧ keeps laneGet s t [k] ∧ t = { s with lanes := t.lanes }) ∧
    (v.st ≠ .pllWait → exec (.lanePllLock l) s = .next s) ∧
    (v.st = .cdrAcq → reaches (exec (.laneCdrLock l) s) fun t =>
      laneGet t k = { v with st := if v.train = 1 then .training else .adapt, sigDet := true, cdrLock := true } ∧
        keeps laneGet s t [k] ∧ t = { s with lanes := t.lanes }) ∧
    (v.st ≠ .cdrAcq → exec (.laneCdrLock l) s = .next s)

/-- Calibration, training, FENCE_HIT and MARGIN_LOW (R61, R75, R76, R79, 02_lanes.md). VCO_CAL_DONE ends calibration of a
bank, moves its lanes off the flexible synthesiser and frees it; training that is done leaves its taps, training that
fails the owner's, with TRAIN_FAIL; a fence hit sets FENCE_HIT and a measured SNR below EYE_WARN sets MARGIN_LOW, each
recorded at most once per lane and second (8,000 ticks). -/
def Obligations.LaneTrainingAndEvents : Prop :=
  ∀ (side : Side) (quad : Fin 16) (l : LaneRef) (loop : EqLoop) (snr : Fin 256) (f0 f1 : Word) (s : State),
    Safety.tablesOk s = true →
    let sd := sideNum l.side
    let lane := l.lane.val
    let k := laneKey sd lane
    let v := laneGet s k
    let evt := laneAddr sd lane 2
    let q := quad.val
    let qs := sideNum side
    (reaches (exec (.vcoCalDone side quad) s) fun t => quadGet t qs q = { quadGet s qs q with calibrating := false } ∧
      (∀ j, j < 4 → laneGet t (laneKey qs (4 * q + j)) = { laneGet s (laneKey qs (4 * q + j)) with onFlex := false }) ∧
      keeps laneGet s t ((List.range 4).map fun j => laneKey qs (4 * q + j)) ∧
      (∀ f, quadFlex s qs q = some f → (∀ n, n < 2 → (recGet s n).lost = true → recRegion s n ≠ q / 4) →
        flexGet t (q / 4) f = .free) ∧
      t = { s with quads := t.quads, lanes := t.lanes, flex := t.flex, recClk := t.recClk, due := t.due }) ∧
    (v.train = 1 →
      (reaches (exec (.linkTrainDone l f0 f1) s) fun t => (laneGet t k).train = 2 ∧
        (laneGet t k).ffe = tabSet 0 (tabSet 0 v.ffe 0 f0) 1 (f1 &&& 0x3FFFF) ∧ (laneGet t k).st = (if v.st = .training then .adapt else v.st) ∧
        keeps laneGet s t [k] ∧ t = { s with lanes := t.lanes }) ∧
      (reaches (exec (.linkTrainFail l) s) fun t => (laneGet t k).train = 3 ∧
        (laneGet t k).ffe = tabSet 0 (tabSet 0 v.ffe 0 (cwGet s (laneAddr sd lane 0x40))) 1 (cwGet s (laneAddr sd lane 0x41)) ∧ (cwGet t evt).getLsbD 32 = true ∧
        keeps laneGet s t [k] ∧ cwKept s t [evt] ∧ t = { s with lanes := t.lanes, cw := t.cw })) ∧
    (v.train ≠ 1 → exec (.linkTrainDone l f0 f1) s = .next s ∧ exec (.linkTrainFail l) s = .next s) ∧
    (∃ u, (cwGet u evt).getLsbD 34 = true ∧ keeps laneGet s u [k] ∧ cwKept s u [evt] ∧
      u = { s with cw := u.cw, lanes := u.lanes } ∧
      exec (.eqFenceHit l loop) s = .next (if tickCount s < v.fencedUntil then u
        else record0 0x0A 65 (mkWord [(35, sd), (29, lane), (27, loopCode loop), (19, v.snr)]) u) ∧
      (laneGet u k).fencedUntil = (if tickCount s < v.fencedUntil then v.fencedUntil else tickCount s + 8000)) ∧
    (let warn := cwFld s (laneAddr sd lane 0x10) 27 20
     ∃ u, (laneGet u k).snr = snr.val ∧ keeps laneGet s u [k] ∧ cwKept s u [evt] ∧
      (cwGet u evt).getLsbD 33 = ((cwGet s evt).getLsbD 33 || decide (snr.val < warn)) ∧
      u = { s with cw := u.cw, lanes := u.lanes } ∧
      exec (.eqMarginLow l snr) s = .next (if warn ≤ snr.val ∨ tickCount s < v.marginUntil then u
        else record0 0x0B 65 (mkWord [(35, sd), (29, lane), (19, snr.val)]) u) ∧
      (laneGet u k).marginUntil = (if warn ≤ snr.val ∨ tickCount s < v.marginUntil then v.marginUntil else tickCount s + 8000))

/-- LANE_EQ_CTRL, LANE_TX_FFE and LANE_LPBK (R72, R73, R74, R78, R82, R83, 02_lanes.md). LANE_EQ_CTRL stores its four loop
modes and EYE_WARN; a loop entering PRESET takes its preset, one in BOUND is held between its bounds, any other keeps
its values. LANE_TX_FFE is stored and used unless training owns it (TRAIN_ACTIVE). A loopback is set unless a stream
names the lane (RES_CONFLICT) or the mode forbids it (MODE_STATE). Nothing else changes. -/
def Obligations.LaneWordsAreStored : Prop :=
  ∀ (l : LaneRef) (i : Fin 2) (w : CtlWrite) (o : Origin) (near far : Bool) (s : State), Safety.tablesOk s = true →
    let sd := sideNum l.side
    let lane := l.lane.val
    let k := laneKey sd lane
    let v := laneGet s k
    let ctrl := laneAddr sd lane 0x10
    let tap := laneAddr sd lane (0x40 + i.val)
    let lpbk := laneAddr sd lane 0x58
    let tested := testRefusal s sd lane
    let tapValue := if i.val = 0 then w.value else w.value &&& 0x3FFFF
    (applies w.origin .word ctrl s (exec (.laneEqCtrl l w) s) fun t =>
      cwGet t ctrl = (w.value &&& 0xFFFF00000) ∧ keeps laneGet s t [k] ∧ cwKept s t [ctrl] ∧
      (laneGet t k).eq = (List.range 7).foldl (fun e off =>
        let m := loopMode (w.value &&& 0xFFFF00000) (loopOfOffset off)
        if m = 3 ∧ loopMode (cwGet s ctrl) (loopOfOffset off) ≠ 3 then tabSet 0 e off (eqPreset s sd lane off)
        else if m = 1 then tabSet 0 e off (boundWord off (tabGet 0 e off) (eqLo s sd lane off) (eqHi s sd lane off))
        else e) v.eq ∧
      t = { s with cw := t.cw, lanes := t.lanes }) ∧
    ((laneCfg s sd lane).getLsbD 25 = true → v.train = 1 ∨ v.train = 2 →
      exec (.laneTxFfe l i w) s = .next (refuse w.origin 0x24 .word tap s)) ∧
    ((laneCfg s sd lane).getLsbD 25 = false ∨ (v.train ≠ 1 ∧ v.train ≠ 2) →
      applies w.origin .word tap s (exec (.laneTxFfe l i w) s) fun t => cwGet t tap = tapValue ∧
        laneGet t k = { v with ffe := tabSet 0 v.ffe i.val tapValue } ∧ keeps laneGet s t [k] ∧ cwKept s t [tap] ∧
        t = { s with cw := t.cw, lanes := t.lanes }) ∧
    (near || far → tested ≠ 0 → exec (.laneLpbk o l near far) s = .next (refuse o tested .word lpbk s)) ∧
    (near = false ∧ far = false ∨ tested = 0 →
      applies o .word lpbk s (exec (.laneLpbk o l near far) s) fun t => cwGet t lpbk = mkWord [(35, b2n near), (34, b2n far)] ∧
        cwKept s t [lpbk] ∧ t = { s with cw := t.cw }) ∧
    (streamsOfLane s sd lane ≠ [] → tested = 0x06) ∧
    (streamsOfLane s sd lane = [] → s.mode ≠ .provision → s.mode ≠ .active → s.mode ≠ .test → tested = 0x04)

/-- Test patterns of a lane and SerDes references of a region (R80, R81, R82, R85, R86, R87, R88, 02_lanes.md). A
generator or checker is set with a pattern the lane accepts (EQ_RANGE otherwise); starting a checker clears its
counts; lock and loss of lock follow its reports, errors counting also in CEN24 to CEN27 while the mode runs them; an
injected error leaves by the lane. A lost reference in use gives way to the other one if valid, else to the internal
oscillator; a requalified one is taken from the oscillator, or as the preferred one under REVERT or FORCE;
CLK_REF_CTRL is stored and moves the PLLs to a valid preference newly set or forced. -/
def Obligations.TestPatternsAndReferences : Prop :=
  ∀ (o : Origin) (l : LaneRef) (pat : Fin 16) (inv : Bool) (bits errs : Nat) (r : RegionId) (n : RefName) (w : CtlWrite)
    (s : State), Safety.tablesOk s = true →
    let sd := sideNum l.side
    let lane := l.lane.val
    let k := laneKey sd lane
    let v := laneGet s k
    let a := laneAddr sd lane 0x50
    let rate := laneRate (laneCfg s sd lane)
    let cen := ctlAddr clsCen 0 (24 + lane / 16)
    let c := refGet s r.val
    let rc := refCtrlAddr r.val
    (patternOk rate pat.val = false → exec (.prbsGenEn o l pat inv) s = .next (refuse o 0x23 .word a s) ∧
      exec (.prbsChkEn o l pat) s = .next (refuse o 0x23 .word a s)) ∧
    (patternOk rate pat.val = true → testRefusal s sd lane = 0 →
      applies o .word a s (exec (.prbsGenEn o l pat inv) s) fun t => (cwGet t a).getLsbD 35 = true ∧
        fld (cwGet t a) 33 30 = pat.val ∧ (cwGet t a).getLsbD 25 = inv ∧ fld (cwGet t a) 29 26 = fld (cwGet s a) 29 26 ∧
        cwKept s t [a] ∧ t = { s with cw := t.cw }) ∧
    (patternOk rate pat.val = true → applies o .word a s (exec (.prbsChkEn o l pat) s) fun t =>
      (cwGet t a).getLsbD 34 = true ∧ fld (cwGet t a) 29 26 = pat.val ∧ (cwGet t a).getLsbD 35 = (cwGet s a).getLsbD 35 ∧
      laneGet t k = { v with prbsLock := false, prbsLost := false, prbsErr := 0, prbsBits := 0, prbsErrSnap := 0, prbsBitsSnap := 0 } ∧
      keeps laneGet s t [k] ∧ cwKept s t [a] ∧ t = { s with cw := t.cw, lanes := t.lanes }) ∧
    (patternOk rate (fld (cwGet s a) 33 30) = true → (cwGet s a).getLsbD 35 = true →
      applies o .word a s (exec (.prbsErrInj o l) s) fun t => t = { s with out := .prbsError sd lane :: s.out }) ∧
    ((cwGet s a).getLsbD 34 = true → reaches (exec (.prbsLock l bits errs) s) fun t =>
      laneGet t k = { v with prbsLock := true, prbsErr := min (v.prbsErr + errs) 0xFFFFFFFFF, prbsBits := (v.prbsBits + bits) % 2 ^ 72 } ∧
      cwGet t cen = (if runningMode s.mode then satAdd (cwGet s cen) errs else cwGet s cen) ∧
      keeps laneGet s t [k] ∧ cwKept s t [cen] ∧ t = { s with lanes := t.lanes, cw := t.cw }) ∧
    (v.prbsLock = true → reaches (exec (.prbsLockLoss l bits errs) s) fun t =>
      laneGet t k = { v with prbsLock := false, prbsLost := true, prbsErr := min (v.prbsErr + errs) 0xFFFFFFFFF,
                             prbsBits := (v.prbsBits + bits) % 2 ^ 72 } ∧
      keeps laneGet s t [k] ∧ cwKept s t [cen] ∧ t = { s with lanes := t.lanes, cw := t.cw }) ∧
    (fld w.value 35 34 = 3 → exec (.clkRefCtrl r w) s = .next (refuse w.origin 0x02 .word rc s)) ∧
    (fld w.value 35 34 ≠ 3 → applies w.origin .word rc s (exec (.clkRefCtrl r w) s) fun t =>
      let p := fld w.value 33 33
      cwGet t rc = (w.value &&& 0xF80000000) ∧ keeps refGet s t [r.val] ∧
      (refGet t r.val).inUse = (if refValid c p = true ∧ (w.value.getLsbD 31 = true ∨ fld (cwGet s rc) 33 33 ≠ p) then p else c.inUse)) ∧
    (reaches (exec (.refclkLoss r n) s) fun t => refValid (refGet t r.val) (refNum n) = false ∧
      (refGet t r.val).inUse = (if c.inUse = refNum n then
        (if refValid c (1 - refNum n) then 1 - refNum n else 2) else c.inUse) ∧ keeps refGet s t [r.val]) ∧
    (reaches (exec (.refclkRequalify r n) s) fun t => refValid (refGet t r.val) (refNum n) = true ∧
      (refGet t r.val).inUse = (if c.inUse = 2 ∨ (((cwGet s rc).getLsbD 32 ∨ (cwGet s rc).getLsbD 31) ∧
        fld (cwGet s rc) 33 33 = refNum n) then refNum n else c.inUse) ∧ keeps refGet s t [r.val])

/-- Set-up words of a stream and of FEC (R66, R70, R94, R95, R96, 03_framing.md). Set-up writes of a stream that together
break a rule of Table 3-4 are all refused with its status; accepted ones are stored; a stream made live, or one whose
PROTO, SIDE, CTX, ODU_TYPE or other set-up words change, restarts its alignment and its lanes end their test
functions; one no longer live closes its candidates. FRM_THR and FRM_TIME are stored without a restart; FRM_CNT_CLR
and FEC_CNT_CLR clear their counts; FEC_CFG is refused with FEC_MODE where the rate, or a stream anchored on the lane,
does not admit the mode. -/
def Obligations.StreamSetUp : Prop :=
  ∀ (r : StreamRef) (w : FrmWrite) (ws : List FrmWrite) (c : CtlWrite) (l : LaneRef) (s : State), Safety.tablesOk s = true →
    let u := r.unit.val
    let n := r.num.val
    let k := streamKey u n
    let a := frmAddr u n w.word.val
    let new := frmValue (frmProto (frmCfg s u n)) w.word.val w.value
    let plan := cwSet a new s
    let fec := fecAddr (sideNum l.side) l.lane.val
    let st := streamStatus (frmPlan u n ws s) u n
    let probe := fun (x : State) => if w.word.val = 3 then x
      else (lanesOf (frmLanes x u n)).foldl (fun z lane => preemptTest (fld (frmCfg x u n) 30 30) lane z) x
    (st ≠ 0 → exec (.frmCfg r ws) s = .next (ws.foldl (fun x y => refuse y.origin st .word (frmAddr u n y.word.val) x) s)) ∧
    (streamStatus plan u n = 0 → frmLive (frmCfg s u n) = false → frmLive (frmCfg plan u n) = false →
      applies w.origin .word a s (exec (.frmCfg r [w]) s) fun t => cwGet t a = new ∧ cwKept s t [a] ∧ t = { s with cw := t.cw }) ∧
    (streamStatus plan u n = 0 → frmLive (frmCfg s u n) = true → frmLive (frmCfg plan u n) = false →
      applies w.origin .word a s (exec (.frmCfg r [w]) s) fun t => cwGet t a = new ∧
        (∀ m, m < 64 → trackerGet t (trackerKey u n m) = {}) ∧ (framerGet t k).oom = true) ∧
    (streamStatus plan u n = 0 → frmLive (frmCfg plan u n) = true →
      frmLive (frmCfg s u n) = false ∨ (w.word.val = 0 ∧ restartBits (cwGet s a) ≠ restartBits new) ∨
        (w.word.val ≠ 0 ∧ cwGet s a ≠ new) →
      applies w.origin .word a s (exec (.frmCfg r [w]) s) fun t => t = probe (restartStream u n plan)) ∧
    (streamStatus plan u n = 0 → frmLive (frmCfg plan u n) = true → frmLive (frmCfg s u n) = true →
      (w.word.val = 0 ∧ restartBits (cwGet s a) = restartBits new) ∨ (w.word.val ≠ 0 ∧ cwGet s a = new) →
      applies w.origin .word a s (exec (.frmCfg r [w]) s) fun t => t = probe plan) ∧
    (∀ j : Nat, j = 4 ∨ j = 5 →
      let aj := frmAddr u n j
      let vj := frmValue (frmProto (frmCfg s u n)) j c.value
      let x := exec (if j = 4 then .frmThr r c else .frmTime r c) s
      (streamStatus (cwSet aj vj s) u n ≠ 0 → x = .next (refuse c.origin (streamStatus (cwSet aj vj s) u n) .word aj s)) ∧
      (streamStatus (cwSet aj vj s) u n = 0 → applies c.origin .word aj s x fun t =>
        cwGet t aj = vj ∧ cwKept s t [aj] ∧ t = { s with cw := t.cw })) ∧
    (reaches (exec (.frmCntClr r) s) fun t =>
      framerGet t k = { framerGet s k with mimics := 0, oofCnt := 0, ties := 0, ovf := 0 } ∧ keeps framerGet s t [k] ∧
      t = { s with framers := t.framers }) ∧
    (reaches (exec (.fecCntClr l) s) fun t => (∀ j, j < 4 → cwGet t (fec (16 + j)) = 0) ∧
      cwKept s t ((List.range 4).map fun j => fec (16 + j)) ∧ t = { s with cw := t.cw }) ∧
    (let mode := fld c.value 35 34
     let rate := laneRate (laneCfg s (sideNum l.side) l.lane.val)
     let suits := mode ≠ 3 ∧ fecRateOk mode rate = true ∧ ∀ p ∈ anchoredStreams s (sideNum l.side) l.lane.val,
       shapeFec (frmProto (frmCfg s p.1 p.2)) rate = mode
     (¬ suits → exec (.fecCfg l c) s = .next (refuse c.origin 0x22 .word (fec 0) s)) ∧
     (suits → applies c.origin .word (fec 0) s (exec (.fecCfg l c) s) fun t =>
       cwGet t (fec 0) = (c.value &&& 0xF00000000) ∧ cwKept s t [fec 0] ∧ t = { s with cw := t.cw }))

/-- The hypothesis tracker opens, checks, confirms and gives up candidates (R97, R98, R99, R100, R101, R102, R103, R121).
While a hold of the stream stands nothing happens. A new match opens a candidate of run 1, or is dropped and counted
beyond eight; a check of the frame offset counts consecutive errored FAs; a matching check raises a candidate's run, a
failed one closes it; at the end of a window a single confirmed candidate becomes the frame, two or more are a tie
counted once; at OOF_N the tracker goes out of frame and every run restarts. -/
def Obligations.TheTrackerFollowsItsCandidates : Prop :=
  ∀ (r : StreamRef) (m : Fin 64) (offset mf : Nat) (faOk : Bool) (s : State), Safety.tablesOk s = true →
    let u := r.unit.val
    let n := r.num.val
    let ks := streamKey u n
    let k := trackerKey u n m.val
    let t := trackerGet s k
    let f := framerGet s ks
    let up := fun (x : State) => (Host.Outcome.next (refreshStream oduDepth u n x) : Result)
    let others := t.cands.filter fun d => d.offset != offset
    let isSlot0 := t.inFrame = true ∧ t.slot0 = offset
    (trackerHeld s u n m.val = true → exec (.candidateOpen r m offset mf) s = .next s ∧
      exec (.candidateCheck r m offset faOk mf) s = .next s ∧ exec (.framerWindowEnd r m) s = .next s) ∧
    (trackerHeld s u n m.val = false →
      (isSlot0 ∨ (∃ c ∈ t.cands, c.offset = offset) → exec (.candidateOpen r m offset mf) s = up s) ∧
      (¬ isSlot0 → (∀ c ∈ t.cands, c.offset ≠ offset) → candCount t < 8 →
        exec (.candidateOpen r m offset mf) s =
          up (trackerPut k { t with cands := t.cands ++ [{ offset := offset, mf := mf, run := 1 }] } s)) ∧
      (¬ isSlot0 → (∀ c ∈ t.cands, c.offset ≠ offset) → 8 ≤ candCount t →
        exec (.candidateOpen r m offset mf) s =
          up (frmEvent ks 26 (framerPut ks { f with ovf := min (f.ovf + 1) 0x3FFFF } s))) ∧
      (isSlot0 → exec (.candidateCheck r m offset faOk mf) s = up (trackerPut k
        { t with errFa := if faOk then 0 else t.errFa + 1, mf := if faOk then mf else t.mf } s)) ∧
      (∀ c, ¬ isSlot0 → (t.cands.find? fun d => d.offset == offset) = some c →
        (faOk = false → exec (.candidateCheck r m offset faOk mf) s = up (trackerPut k { t with cands := others } s)) ∧
        (faOk = true → (∀ x, nextMf (frmProto (frmCfg s u n)) m.val c.mf = some x → x = mf) →
          t.inFrame = false ∨ c.run + 1 < ifN s u n →
          let c' : Cand := { c with mf := mf, run := c.run + 1, offset := offset }
          exec (.candidateCheck r m offset faOk mf) s =
            up (trackerPut k { t with cands := t.cands.map fun d => if d.offset = offset then c' else d } s))) ∧
      (∀ c, t.inFrame = false → confirmed s u n t = [c] →
        exec (.framerWindowEnd r m) s = up (trackerPut k { t with
          inFrame := true, slot0 := c.offset, mf := c.mf, errFa := 0, tie := false, cands := t.cands.filter fun d => d.offset != c.offset } s)) ∧
      (t.inFrame = false → 2 ≤ (confirmed s u n t).length → t.tie = false →
        exec (.framerWindowEnd r m) s = up (frmEvent ks 27 (framerPut ks { f with ties := min (f.ties + 1) 0x3FFFF }
          (trackerPut k { t with tie := true } s))))) ∧
    (t.inFrame = true → oofN s u n ≤ t.errFa →
      let kept : List Cand := { offset := t.slot0, mf := t.mf, run := 0 } :: t.cands.map fun c => { c with run := 0 }
      exec (.oofDeclare r m) s = up (frmEvent ks 35 (framerPut ks { f with oofCnt := min (f.oofCnt + 1) 0xFFFFFFFFF }
        (trackerPut k { t with inFrame := false, errFa := 0, tie := false, cands := kept } s)))) ∧
    (t.inFrame = false ∨ t.errFa < oofN s u n → exec (.oofDeclare r m) s = .next s)

/-- Multiframe, LOF, LOM, lane alignment and lanes reaching or leaving READY (R61, R103, R107, R108, R114, R115, R117,
R119). OOM is declared at OOM_N errored multiframes and IM at IM_N good ones (at once for FlexE); LOF and LOM are set
while OOF or OOM stands and cleared after it, with their event bits, Ethernet having neither and SONET/SDH no LOM;
loss of lane alignment closes the frame layer and its end reopens it; a PHY's alignment is kept by its bit; an adapted
lane is READY and releases its streams, a lane that leaves READY holds them, losing CDR lock with CDR_LOST. -/
def Obligations.AlignmentTimersAndLanes : Prop :=
  ∀ (r : StreamRef) (lane : Fin 20) (phy : Fin 8) (locked skew late early : Nat) (idOk lost sig : Bool) (l : LaneRef)
    (eq : List Word) (snr : Fin 256) (s : State), Safety.tablesOk s = true →
    let u := r.unit.val
    let n := r.num.val
    let k := streamKey u n
    let f := framerGet s k
    let proto := frmProto (frmCfg s u n)
    let live := frmLive (frmCfg s u n) = true
    let sets := fun (b : Nat) (g : Framer) => (Host.Outcome.next (settleDefs (frmEvent k b (framerPut k g s))) : Result)
    let sd := sideNum l.side
    let kl := laneKey sd l.lane.val
    let v := laneGet s kl
    (f.oof = false → oomN s u n ≤ f.errMf → exec (.mfOom r) s = .next (framerPut k { f with oom := true, goodMf := 0 } s)) ∧
    (f.oof = true ∨ f.errMf < oomN s u n → exec (.mfOom r) s = .next s) ∧
    (f.oof = false → f.oom = true → proto = 5 ∨ imN s u n ≤ f.goodMf →
      exec (.mfIm r) s = .next (framerPut k { f with oom := false, errMf := 0 } s)) ∧
    (live → proto ≠ 4 → f.oof = true →
      exec (.lofSet r none) s = sets 33 { f with lof := true }) ∧
    (f.oof = false → f.lof = true →
      exec (.lofClr r none) s = sets 32 { f with lof := false }) ∧
    (live → proto ≠ 4 → proto ≠ 3 → f.oom = true →
      exec (.lomSet r) s = sets 31 { f with lom := true }) ∧
    (f.oom = false → f.lom = true →
      exec (.lomClr r) s = sets 30 { f with lom := false }) ∧
    (proto = 1 → (trackerGet s (trackerKey u n lane.val)).inFrame = false →
      reaches (exec (.lofSet r (some lane)) s) fun t => (framerGet t k).laneLof.testBit lane.val = true ∧
        framerGet t k = { f with laneLof := (framerGet t k).laneLof } ∧ keeps framerGet s t [k] ∧ t = { s with framers := t.framers }) ∧
    ((trackerGet s (trackerKey u n lane.val)).inFrame = true →
      reaches (exec (.lofClr r (some lane)) s) fun t => (framerGet t k).laneLof.testBit lane.val = false ∧
        framerGet t k = { f with laneLof := (framerGet t k).laneLof } ∧ keeps framerGet s t [k] ∧ t = { s with framers := t.framers }) ∧
    (f.lol = false → proto ≠ 4 → skew ≤ 180 → idOk = false →
      ∃ x, exec (.lolChange r idOk skew late early locked) s =
          .next (settleDefs (refreshStream oduDepth u n (closeFrameLayer u n x))) ∧
        framerGet x k = { f with
          skew := skew, latest := late % 64, earliest := early % 64, laneLock := locked % 2 ^ 32, lol := true, events := Nat.lor (Nat.lor f.events (2 ^ 24)) (2 ^ 29) } ∧
        keeps framerGet s x [k] ∧ x = { s with framers := x.framers }) ∧
    (f.lol = true → skew ≤ 180 → idOk = true → allInFrame s u n (laneMembers s u n) = true →
      ∃ x, exec (.lolChange r idOk skew late early locked) s = .next (settleDefs (refreshStream oduDepth u n x)) ∧
        framerGet x k = { f with
          skew := skew, latest := late % 64, earliest := early % 64, laneLock := locked % 2 ^ 32, lol := false } ∧
        keeps framerGet s x [k] ∧ x = { s with framers := x.framers }) ∧
    (∃ x, exec (.pcsAlignStatus r phy true locked) s = .next (refreshStream oduDepth u n x) ∧
      (framerGet x k).aligned.testBit phy.val = true ∧ keeps framerGet s x [k] ∧ x = { s with framers := x.framers }) ∧
    (v.st = .adapt → ∃ x, exec (.laneAdaptDone l eq snr) s =
        .next ((streamsOfLane x sd l.lane.val).foldl (fun s p => releaseStream p.1 p.2 s) x) ∧
      (laneGet x kl).st = .ready ∧ (laneGet x kl).snr = snr.val ∧ keeps laneGet s x [kl] ∧ x = { s with lanes := x.lanes }) ∧
    (v.st ≠ .adapt → exec (.laneAdaptDone l eq snr) s = .next s) ∧
    (∃ x, exec (.laneDown l lost sig) s = .next (laneLeft sd l.lane.val x) ∧
      (v.st = .ready → (laneGet x kl).st = .cdrAcq) ∧ (laneGet x kl).cdrLock = (v.cdrLock && !lost) ∧
      (laneGet x kl).sigDet = (v.sigDet && !sig) ∧ keeps laneGet s x [kl] ∧
      (lost = true → v.cdrLock = true → (cwGet x (laneAddr sd l.lane.val 2)).getLsbD 35 = true) ∧
      (lost = false → x = { s with lanes := x.lanes }))

/-- Set-up, runs, start and counts of a mapper port (R163, R164, R165, R166, R167, R174, R175, 05_mapping.md). Set-up
writes of a port that together break a rule of Table 5-6 are all refused with its status, as is a write that an
enabled port does not take; accepted words are stored and a port made live takes its runs. Run writes of an enabled
port wait, for the swap of the die or the next frame boundary, and are refused with DECK_BUSY while a swap is armed;
they land there. A port starts, or stops keeping its counts, at its frame boundary; MAP_CNT_CLR clears both counts. -/
def Obligations.PortSetUpAndRuns : Prop :=
  ∀ (r : PortRef) (w : MapWrite) (ws : List MapWrite) (x : RunWrite) (s : State), Safety.tablesOk s = true →
    let u := r.unit.val
    let p := r.port.val
    let k := portKey u p
    let q := portGet s k
    let cfg := mapCfg s u p
    let a := mapAddr u p w.word.val
    let new := mapValue (mapAdapt cfg) w.word.val w.value
    let plan := cwSet a new s
    let st := portStatus (mapPlan u p ws s) u p
    let txA := mapAddr u p (8 + x.word.val)
    let rxA := mapAddr u p (4 + x.word.val)
    let txV := mapValue (mapAdapt cfg) (8 + x.word.val) x.value
    let rxV := mapValue (mapAdapt cfg) (4 + x.word.val) x.value
    let words := fun (s : State) first => (List.range 4).foldl (fun t i => tabSet 0 t i (cwGet s (mapAddr u p (first + i)))) []
    (st ≠ 0 → (∀ z ∈ ws, mapWriteStatus s u p z.word.val z.value = 0) →
      exec (.mapCfg r ws) s = .next (ws.foldl (fun t z => refuse z.origin st .word (mapAddr u p z.word.val) t) s)) ∧
    (mapWriteStatus s u p w.word.val w.value ≠ 0 →
      exec (.mapCfg r [w]) s = .next (refuse w.origin (mapWriteStatus s u p w.word.val w.value) .word a s)) ∧
    (mapLive cfg = false → mapWriteStatus s u p w.word.val w.value = 0 → portStatus plan u p = 0 →
      mapLive (mapCfg plan u p) = false →
      applies w.origin .word a s (exec (.mapCfg r [w]) s) fun t => cwGet t a = new ∧ cwKept s t [a] ∧ t = { s with cw := t.cw }) ∧
    (mapLive cfg = false → mapWriteStatus s u p w.word.val w.value = 0 → portStatus plan u p = 0 →
      mapLive (mapCfg plan u p) = true →
      applies w.origin .word a s (exec (.mapCfg r [w]) s) fun t => cwGet t a = new ∧ cwKept s t [a] ∧
        portGet t k = { q with on := false, txRuns := words plan 8, rxRuns := words plan 4, txPend := false, rxPend := false } ∧
        keeps portGet s t [k] ∧ t = { s with cw := t.cw, ports := t.ports }) ∧
    (mapLive cfg = true → (dieDeck s (dieOf u)).pending = true →
      exec (.mapTxRun r [x]) s = .next (refuse x.origin 0x40 .word txA s)) ∧
    (mapLive cfg = true → (dieDeck s (dieOf u)).pending = false → portStatus (cwSet txA txV s) u p = 0 →
      applies x.origin .word txA s (exec (.mapTxRun r [x]) s) fun t => cwGet t txA = txV ∧ cwKept s t [txA] ∧
        portGet t k = { q with txPend := !(runWords t u p 8 == runsHeld q.txRuns) } ∧ keeps portGet s t [k] ∧
        t = { s with cw := t.cw, ports := t.ports }) ∧
    (mapLive cfg = true → portStatus (cwSet rxA rxV s) u p = 0 →
      applies x.origin .word rxA s (exec (.mapRxRun r (.write [x])) s) fun t => cwGet t rxA = rxV ∧ cwKept s t [rxA] ∧
        portGet t k = { q with rxPend := !(runWords t u p 4 == runsHeld q.rxRuns) } ∧ keeps portGet s t [k] ∧
        t = { s with cw := t.cw, ports := t.ports }) ∧
    (q.rxPend = true → exec (.mapRxRun r .land) s =
      .next (refreshTribs (portPut k { q with rxPend := false, rxRuns := words s 4 } s))) ∧
    (q.rxPend = false → exec (.mapRxRun r .land) s = .next s) ∧
    (mapLive cfg = true → exec (.mapPortStart r) s = .next (refreshTribs (portPut k { q with on := true } s))) ∧
    (mapLive cfg = false → exec (.mapPortStart r) s =
      .next (refreshTribs (portPut k { cnt0 := q.cnt0, cnt1 := q.cnt1, calUse := q.calUse } s))) ∧
    (reaches (exec (.mapCntClr r) s) fun t =>
      portGet t k = { q with cnt0 := 0, cnt1 := 0 } ∧ keeps portGet s t [k] ∧ t = { s with ports := t.ports })

/-- Replacement, FlexE calendars, GFP reception and packet channels (R180, R181, R184, R185, R186, R190, R193,
05_mapping.md). A running port whose direction has failed is replaced and restored; a client-signal-fail is sent while
replacement stands and its reception ends by time-out. SHIM_CTRL is stored; a calendar request is refused with
CAL_ACTIVE or CAL_SHAPE or starts, and ends in a switch of the calendar in use or a recorded time-out, both counted.
GFP delineation follows its headers; in SYNC an accepted frame enters the egress buffer of two, a CSF sets CSF_RX; a
channel sends the oldest frame of the next port in turn under its header. -/
def Obligations.ReplacementCalendarsAndGfp : Prop :=
  ∀ (r : PortRef) (rx : Bool) (w : CtlWrite) (h : GfpHeader) (bytes : List (Fin 256)) (bad : Bool) (f : GfpRx) (s : State),
    Safety.tablesOk s = true →
    let u := r.unit.val
    let p := r.port.val
    let k := portKey u p
    let q := portGet s k
    let adapt := mapAdapt (mapCfg s u p)
    let put := fun (x : Port) => (Host.Outcome.next (portPut k x s) : Result)
    let gfp := adapt = 9 ∨ adapt = 10
    let ctrl := mapAddr u p 3
    let stored := mapValue adapt 3 w.value
    (q.on = true → directionFailed s u p rx = true →
      exec (.clientReplacementStart r rx) s = put (if rx then { q with replRx := true } else { q with replTx := true })) ∧
    (q.on = false ∨ directionFailed s u p rx = false → exec (.clientReplacementStart r rx) s = .next s) ∧
    (directionFailed s u p rx = false →
      exec (.clientReplacementEnd r rx) s = put (if rx then { q with replRx := false } else { q with replTx := false })) ∧
    (gfp → q.replTx = true → exec (.gfpCsfSend r) s = .next { s with out := .gfpCsf u p :: s.out }) ∧
    (¬ gfp ∨ q.replTx = false → exec (.gfpCsfSend r) s = .next s) ∧
    exec (.csfRxTimeout r) s = put { q with csfRx := false } ∧
    (w.value.getLsbD 35 = false → applies w.origin .word ctrl s (exec (.shimCalReq r w) s) fun t =>
      cwGet t ctrl = stored ∧ cwKept s t [ctrl] ∧ t = { s with cw := t.cw }) ∧
    (w.value.getLsbD 35 = true → q.calBusy = true → exec (.shimCalReq r w) s = .next (refuse w.origin 0x36 .word ctrl s)) ∧
    (w.value.getLsbD 35 = true → q.calBusy = false → (adapt ≠ 12 ∨ calShapeOk s u p = false) →
      exec (.shimCalReq r w) s = .next (refuse w.origin 0x37 .word ctrl s)) ∧
    (w.value.getLsbD 35 = true → q.calBusy = false → liveAdapt s u p = 12 → calShapeOk s u p = true →
      applies w.origin .word ctrl s (exec (.shimCalReq r w) s) fun t => cwGet t ctrl = stored ∧ cwKept s t [ctrl] ∧
        portGet t k = { q with calBusy := true } ∧ keeps portGet s t [k] ∧ t = { s with cw := t.cw, ports := t.ports }) ∧
    (q.calBusy = true →
      (reaches (exec (.flexeCalSwitch r) s) fun t => portGet t k = { q with
          calBusy := false, calUse := !q.calUse, cnt0 := cntAdd q.cnt0 35 18 1 } ∧
        keeps portGet s t [k] ∧ t = { s with ports := t.ports }) ∧
      (∃ x, exec (.flexeCalTimeout r) s = .next (record0 0x0E 65 (mkWord [(30, u), (22, p), (21, b2n (!q.calUse))]) x) ∧
        portGet x k = { q with calBusy := false, cnt0 := cntAdd q.cnt0 17 0 1 } ∧ keeps portGet s x [k] ∧
        x = { s with ports := x.ports })) ∧
    (q.calBusy = false → exec (.flexeCalSwitch r) s = .next s ∧ exec (.flexeCalTimeout r) s = .next s) ∧
    (q.on = true → gfp →
      (q.delin = .hunt → exec (.gfpFrameRx r h f) s = put { q with delin := if h = .good then .presync else .hunt }) ∧
      (q.delin = .presync → exec (.gfpFrameRx r h f) s = put { q with delin := if h = .good then .sync else .hunt }) ∧
      (q.delin = .sync → h = .bad → reaches (exec (.gfpFrameRx r h f) s) fun t =>
        portGet t k = { q with delin := .hunt, cnt1 := cntAdd q.cnt1 17 0 1 } ∧ keeps portGet s t [k] ∧
          t = { s with ports := t.ports }) ∧
      (q.delin = .sync → h = .good →
        (reaches (exec (.gfpFrameRx r h .csf) s) fun t =>
          portGet t k = { q with csfRx := true } ∧ keeps portGet s t [k] ∧ t = { s with ports := t.ports }) ∧
        (q.replRx = false → q.egress.length < 2 → reaches (exec (.gfpFrameRx r h (.data bytes bad)) s) fun t =>
          portGet t k = { q with egress := q.egress ++ [{ bytes := bytes, bad := bad }] } ∧ keeps portGet s t [k] ∧
            t = { s with ports := t.ports }) ∧
        (q.replRx = true ∨ 2 ≤ q.egress.length → reaches (exec (.gfpFrameRx r h (.data bytes bad)) s) fun t =>
          portGet t k = q ∧ keeps portGet s t [k] ∧ t = { s with ports := t.ports }))) ∧
    (q.on = false ∨ ¬ gfp → exec (.gfpFrameRx r h f) s = .next s) ∧
    (nextEgress s u p = none → exec (.chanFrameTx r) s = .next s) ∧
    (∀ v e rest, nextEgress s u p = some v → (portGet s (portKey v.1 v.2)).egress = e :: rest → portKey v.1 v.2 ≠ k →
      reaches (exec (.chanFrameTx r) s) fun t =>
        (portGet t (portKey v.1 v.2)).egress = rest ∧ (portGet t k).served = portKey v.1 v.2 ∧
        keeps portGet s t [k, portKey v.1 v.2] ∧ t = { s with ports := t.ports, out := t.out } ∧
        t.out = .chanFrame u p (chanHeader false e.bad false (cwFld s (mapAddr v.1 v.2 1) 21 11) e.bytes.length) e.bytes :: s.out)

/-- Frames from the NPU enter client queues (R187, R188, R189, R192, 05_mapping.md). On a running packet channel a header
that breaks its form, names no queue of the channel, or gives a length outside 60 to 9,600 drops its frame and counts
it in its own field; a sound one opens a frame at the write end of its queue; a frame that ends whole and sound is
complete, one of the wrong length is taken back and counted unless already started. A waiting XOFF or XON message
leaves once. -/
def Obligations.FramesEnterAndLeaveClientQueues : Prop :=
  ∀ (r : PortRef) (q : CqId) (h : List (Fin 256)) (bs : List (Fin 256)) (ok : Bool) (s : State), Safety.tablesOk s = true →
    let u := r.unit.val
    let p := r.port.val
    let k := portKey u p
    let v := portGet s k
    let hd := h.map (·.val)
    let n := headerChan hd
    let w2 := cwGet s (cqAddr n 2)
    let chan := liveAdapt s u p = 11 ∧ v.on = true
    let mine := cqOn s n = true ∧ n / 1024 = dieOf u ∧ fld w2 28 23 = u ∧ fld w2 22 15 = p
    let dropped := fun (t : State) => (portGet t k).rx = some { queue := none, len := 0, got := 0 } ∧ t = { s with ports := t.ports }
    (¬ chan → ∀ x, exec (.chanFrameRx r x) s = .next s) ∧
    (chan →
      (headerOk hd = false → reaches (exec (.chanFrameRx r (.head h)) s) fun t => dropped t ∧
        (portGet t k).cnt0 = cntAdd v.cnt0 35 18 1 ∧ keeps portGet s t [k]) ∧
      (headerOk hd = true → ¬ mine → reaches (exec (.chanFrameRx r (.head h)) s) fun t => dropped t ∧
        (portGet t k).cnt0 = cntAdd v.cnt0 17 0 1 ∧ keeps portGet s t [k]) ∧
      (headerOk hd = true → mine → headerLen hd < 60 ∨ 9600 < headerLen hd →
        reaches (exec (.chanFrameRx r (.head h)) s) fun t => dropped t ∧
          (portGet t k).cnt1 = cntAdd v.cnt1 17 0 1 ∧ keeps portGet s t [k]) ∧
      (headerOk hd = true → mine → 60 ≤ headerLen hd → headerLen hd ≤ 9600 →
        reaches (exec (.chanFrameRx r (.head h)) s) fun t =>
          portGet t k = { v with rx := some { queue := some n, len := headerLen hd, got := 0 } } ∧
          cqGet t n = { cqGet s n with items := (cqGet s n).items ++ [{ len := headerLen hd }], isAt := (cqGet s n).wp } ∧
          keeps portGet s t [k] ∧ keeps cqGet s t [n] ∧ t = { s with ports := t.ports, cq := t.cq }) ∧
      (v.rx = none → exec (.chanFrameRx r (.data bs)) s = .next s ∧ exec (.chanFrameRx r (.finish ok)) s = .next s) ∧
      (∀ x, v.rx = some x → x.queue = none →
        exec (.chanFrameRx r (.data bs)) s = .next (portPut k { v with rx := some { x with got := x.got + bs.length } } s) ∧
        exec (.chanFrameRx r (.finish ok)) s = .next (portPut k { v with rx := none } s)) ∧
      (∀ x m, v.rx = some x → x.queue = some m → x.got = x.len → ok = true →
        exec (.chanFrameRx r (.finish ok)) s = .next (chanComplete m (portPut k { v with rx := none } s))) ∧
      (∀ x m i, v.rx = some x → x.queue = some m → x.got ≠ x.len → (cqGet s m).items.getLast? = some i → i.started = false →
        ∃ y, exec (.chanFrameRx r (.finish ok)) s = .next (cqLevel m y) ∧
          cqGet y m = { cqGet s m with items := (cqGet s m).items.dropLast, wp := (cqGet s m).isAt } ∧
          portGet y k = { v with rx := none, cnt1 := cntAdd v.cnt1 17 0 1 } ∧
          keeps portGet s y [k] ∧ keeps cqGet s y [m] ∧ y = { s with ports := y.ports, cq := y.cq })) ∧
    (∀ x, (cqGet s q.val).pause = some x →
      let w := cwGet s (cqAddr q.val 2)
      exec (.pauseMsgSend q) s = .next (emit (.chanFrame (fld w 28 23) (fld w 22 15) (chanHeader true false x q.val 0)
        (List.replicate 52 0)) (cqPut q.val { cqGet s q.val with pause := none } s))) ∧
    ((cqGet s q.val).pause = none → exec (.pauseMsgSend q) s = .next s)

/-- The GFP source starts, reads and sends frames of its queue (R198, 05_mapping.md). The frame at the read end of the
queue of a running GFP port starts when it is complete or its cut-through threshold is in the queue; the lines asked
for that are there are read, and the frame leaves when all of it is read. A started frame whose next octet has not
arrived ends as an underrun: missing octets are 00h, the FCS is inverted, the rest is discarded, and it is counted. -/
def Obligations.FramesOfStartedQueuesAreSent : Prop :=
  ∀ (r : PortRef) (lines : Nat) (i : ClientItem) (rest : List ClientItem) (s : State), Safety.tablesOk s = true →
    let u := r.unit.val
    let p := r.port.val
    let q := cwFld s (mapAddr u p 1) 21 11
    let c := cqGet s q
    let n := cqSize s q
    let gfp := liveAdapt s u p = 9 ∨ liveAdapt s u p = 10
    let runs := gfp ∧ (portGet s (portKey u p)).on = true
    let may := i.started = true ∨ (mayStart s q i = true ∧ cqOn s q = true)
    let k := min lines (i.wrote - i.read)
    c.items = i :: rest →
    (¬ runs → exec (.gfpFrameStart r lines) s = .next s) ∧
    (runs → ¬ may → exec (.gfpFrameStart r lines) s = .next s) ∧
    (runs → may → i.complete = true → i.read + k = i.wrote →
      ∃ x, exec (.gfpFrameStart r lines) s = .next (cqLevel q (sendFrame q i.bytes i.bad x)) ∧
        cqGet x q = { c with items := rest, rp := ptrAdvance n c.rp k } ∧ keeps cqGet s x [q] ∧ x = { s with cq := x.cq }) ∧
    (runs → may → i.complete = false ∨ i.read + k ≠ i.wrote →
      ∃ x, exec (.gfpFrameStart r lines) s = .next (cqLevel q x) ∧
        cqGet x q = { c with items := { i with started := true, read := i.read + k } :: rest, rp := ptrAdvance n c.rp k } ∧
        keeps cqGet s x [q] ∧ x = { s with cq := x.cq }) ∧
    (gfp → i.started = true → i.complete = false → i.read = i.wrote → ∃ x,
      exec (.gfpUnderrun r) s = .next (cqLevel q (countUnderrun q (sendFrame q
        (i.bytes.take (min i.len (i.read * 32)) ++
          List.replicate (i.len - (i.bytes.take (min i.len (i.read * 32))).length) 0) true (swallowArrival q x)))) ∧
        (cqGet x q).items = rest ∧ keeps cqGet s x [q] ∧ x = { s with cq := x.cq }) ∧
    (i.started = false ∨ i.complete = true ∨ i.read ≠ i.wrote → exec (.gfpUnderrun r) s = .next s)

/-- Items are appended to a host queue whole, or counted as lost (R341, R343, R344, R345, R349, 10_queues.md). An item for
a disabled queue, or without credit under the credit policy, is lost and counted in LOST; with room or credit it is
appended whole and the write pointer advances by its lines; under the overwrite policy the oldest items make room for
it and are counted. A flush empties the queue, marks items open at engines truncated, and is recorded with both
counts, SRC naming the engine that flushed it. -/
def Obligations.HostQueueItems : Prop :=
  ∀ (q : HqId) (item : List Word) (o : Origin) (s : State), Safety.tablesOk s = true →
    let n := q.val
    let h := hqGet s n
    let size := hqSize s n
    let lines := (item.length + 7) / 8
    let free := size - ptrFill size h.rp h.wp
    let credit := cwFld s (hqCfgAddr n) 34 34 = 1
    let lost := hqLostAddr n
    let x := exec (.queueAppend q item) s
    let added : HostQueue := { h with items := h.items ++ [item], wp := ptrAdvance size h.wp lines }
    (hqOn s n = false → reaches x fun t => cwGet t lost = satAdd (cwGet s lost) 1 ∧ cwKept s t [lost] ∧ t = { s with cw := t.cw }) ∧
    (hqOn s n = true → credit → lines ≤ h.cr → x = .next (hqLevel n (hqPut n { added with cr := h.cr - lines } s))) ∧
    (hqOn s n = true → credit → h.cr < lines →
      reaches x fun t => cwGet t lost = satAdd (cwGet s lost) 1 ∧ cwKept s t [lost] ∧ t = { s with cw := t.cw }) ∧
    (hqOn s n = true → ¬ credit → lines ≤ free → ∃ y, x = .next (hqLevel n y) ∧ hqGet y n = added ∧
      keeps hqGet s y [n] ∧ (∀ a, cwGet y a = cwGet s a) ∧ y = { s with hq := y.hq, cw := y.cw }) ∧
    (hqOn s n = true → ¬ credit → ∀ old rest, h.items = old :: rest → free < lines →
      let rp := ptrAdvance size h.rp ((old.length + 7) / 8)
      lines ≤ size - ptrFill size rp h.wp → ∃ y, x = .next (hqLevel n y) ∧
        hqGet y n = { added with items := rest ++ [item], rp := rp } ∧ keeps hqGet s y [n] ∧
        cwGet y lost = satAdd (cwGet s lost) 1 ∧ cwKept s y [lost] ∧ y = { s with hq := y.hq, cw := y.cw }) ∧
    (∃ y, exec (.hostQueueFlush o q) s = .next (record0 0x1A (srcNumber o.src) (mkWord [(33, 2), (23, n), (12, min h.items.length 0x7FF),
        (1, min ((s.engines.filter fun e => itemOpen n e.2).length +
          (match s.suspended with | some E => b2n (itemOpen n E) | none => 0)) 0x7FF)]) (hqLevel n y)) ∧
      hqGet y n = { h with items := [], wp := h.rp } ∧ keeps hqGet s y [n] ∧
      y = { s with hq := y.hq, engines := y.engines, suspended := y.suspended })

/-- Set-up, watermarks and flush of client and host queues (R167, R196, R199, R347, R349, R351, 05_mapping.md,
10_queues.md). CQ_CTRL and HQ_CFG: BASE, SIZE and policy of an enabled queue stand (PORT_ENABLED), a client queue that
a GFP port names stays enabled (PORT_IN_USE), a set-up that breaks a rule is refused with its status; enabling starts
with an empty queue, disabling a host queue and FLUSH discard what it holds; watermarks are applied at once.
CLIENT_QUEUE_FLUSH empties the queue and is recorded with both counts, SRC naming the engine that flushed it. -/
def Obligations.QueueSetUp : Prop :=
  ∀ (q : CqId) (hq : HqId) (w : QueueWrite) (c : CtlWrite) (s : State), Safety.tablesOk s = true →
    let n := q.val
    let a := cqAddr n w.word.val
    let v := w.value &&& BitVec.ofNat 36 ((queueStore 0 w.word.val).getD 0)
    let plan := cwSet a v s
    let x := exec (.cqCtrl q [w]) s
    let m := hq.val
    let b := hqAddr m w.word.val
    let hv := w.value &&& BitVec.ofNat 36 ((queueStore 2 w.word.val).getD 0)
    let hplan := cwSet b hv s
    let y := exec (.hqCfg hq [w]) s
    (w.word.val = 0 → cqOn s n = true → fld w.value 34 9 ≠ fld (cwGet s a) 34 9 → x = .next (refuse w.origin 0x08 .word a s)) ∧
    (w.word.val = 0 → cqOn s n = true → fld w.value 34 9 = fld (cwGet s a) 34 9 → w.value.getLsbD 35 = false →
      (gfpPortOfQueue s n).isSome = true → x = .next (refuse w.origin 0x09 .word a s)) ∧
    (w.word.val ≠ 0 ∨ cqOn s n = false → cqStatus plan n ≠ 0 → x = .next (refuse w.origin (cqStatus plan n) .word a s)) ∧
    (w.word.val = 0 → cqOn s n = false → w.value.getLsbD 35 = true → cqStatus plan n = 0 →
      applies w.origin .word a s x fun t => cwGet t a = v ∧ cwKept s t [a] ∧ cqGet t n = {} ∧ keeps cqGet s t [n] ∧
        t = { s with cw := t.cw, cq := t.cq }) ∧
    (w.word.val = 0 → cqOn s n = false → w.value.getLsbD 35 = false →
      applies w.origin .word a s x fun t => cwGet t a = v ∧ cwKept s t [a] ∧ t = { s with cw := t.cw }) ∧
    (w.word.val = 1 → cqStatus plan n = 0 → applies w.origin .word a s x fun t =>
      t = if cqOn s n then cqLevel n plan else plan) ∧
    (w.word.val = 1 → c = { origin := w.origin, value := w.value } →
      exec (.queueWmWrite (.client q) c) s = x ∧ exec (.queueWmWrite (.host hq) c) s = y) ∧
    (w.word.val = 2 → cqStatus plan n = 0 → w.value.getLsbD 29 = false → w.value.getLsbD 35 = false →
      applies w.origin .word a s x fun t => t = plan) ∧
    (w.word.val = 0 → hqOn s m = true → fld w.value 34 7 ≠ fld (cwGet s b) 34 7 → y = .next (refuse w.origin 0x08 .word b s)) ∧
    (w.word.val ≠ 0 ∨ hqOn s m = false → hqStatus hplan m ≠ 0 → y = .next (refuse w.origin (hqStatus hplan m) .word b s)) ∧
    (w.word.val = 0 → hqOn s m = false → w.value.getLsbD 35 = true → hqStatus hplan m = 0 →
      applies w.origin .word b s y fun t => cwGet t b = hv ∧ cwKept s t [b] ∧ hqGet t m = {} ∧ keeps hqGet s t [m] ∧
        t = { s with cw := t.cw, hq := t.hq }) ∧
    (w.word.val = 0 → hqOn s m = true → fld w.value 34 7 = fld (cwGet s b) 34 7 → w.value.getLsbD 35 = false →
      applies w.origin .word b s y fun t => t = cwSet b hv (flushHost (srcNumber w.origin.src) m s)) ∧
    (w.word.val = 1 → hqStatus hplan m = 0 → applies w.origin .word b s y fun t =>
      t = if hqOn s m then hqLevel m hplan else hplan) ∧
    (w.word.val = 2 → w.value.getLsbD 35 = true → hqStatus hplan m = 0 → applies w.origin .word b s y fun t =>
      t = flushHost (srcNumber w.origin.src) m hplan) ∧
    (∃ z : Word × State, exec (.clientQueueFlush w.origin q) s = .next (record0 0x1A (srcNumber w.origin.src) z.1 z.2) ∧
      ((∀ i ∈ (cqGet s n).items, i.started = false) → (cqGet z.2 n).items = [] ∧ keeps cqGet s z.2 [n] ∧
        z.2 = { s with cq := z.2.cq, ports := z.2.ports } ∧
        z.1 = mkWord [(33, n / 1024), (23, n % 1024), (12, min ((cqGet s n).items.filter (·.complete)).length 0x7FF),
          (1, min ((cqGet s n).items.filter fun i => !i.complete).length 0x7FF)]))

/-- Groups, their members, LOA and LCAS (R242, R251, R254, R257, R258, R259, R271, 07_proof.md). GRP_CFG is refused with
its status, stored, allocates the rings of a group made live, or frees them. MLOM is declared after five frames
without advance and cleared after two that advance. LOA is declared while a cause stands and cleared once none does
and the reader is placed, each time recorded. An LCAS packet with a good CRC sets CTRL, SQ and the acknowledgement
(and a received MST word), one with a bad CRC is counted; transmitted control and the payload set change at their
boundary. -/
def Obligations.GroupsAndTheirMembers : Prop :=
  ∀ (d : DieId) (g : GroupId) (w : CtlWrite) (c : CtxId) (ok ack : Bool) (ctrl : Fin 16) (sq : Fin 256) (n : Fin 8)
    (x : BitVec 32) (s : State), Safety.tablesOk s = true →
    let a := grpAddr d.val g.val
    let st := grpStatus s d.val g.val w.value
    let y := exec (.grpCfg d g w) s
    let k := grpGet s d.val g.val
    let ty := fld w.value 34 32
    let m := monGet s c.val
    let cfg := grpCfg s d.val g.val
    let linked := m.w30.getLsbD 35 = true
    let report := fun (loa : Bool) (t : State) => (Host.Outcome.next (dueRecord (prfQueue t d.val) 0x15
      [mkWord [(25, g.val), (24, b2n loa), (15, activeCount t d.val g.val)], t.tick] t) : Result)
    (st ≠ 0 → y = .next (refuse w.origin st .word a s)) ∧
    (st = 0 → w.value.getLsbD 35 = false → grpOn s d.val g.val = false →
      applies w.origin .word a s y fun t => cwGet t a = (w.value &&& 0xFFFFFFC00) ∧ cwKept s t [a] ∧ t = { s with cw := t.cw }) ∧
    (st = 0 → w.value.getLsbD 35 = true → grpOn s d.val g.val = false →
      applies w.origin .word a s y fun t => cwGet t a = (w.value &&& 0xFFFFFFC00) ∧
        (grpGet t d.val g.val).placed = false ∧ (grpGet t d.val g.val).loa = false ∧
        (grpGet t d.val g.val).rings.length ≤ (fld w.value 30 23 + 1) * grpParts ty ∧
        keeps (fun u j => tabGet {} u.groups j) s t [d.val * 2048 + g.val]) ∧
    (st = 0 → w.value.getLsbD 35 = false → grpOn s d.val g.val = true →
      applies w.origin .word a s y fun t => cwGet t a = (w.value &&& 0xFFFFFFC00) ∧ grpGet t d.val g.val = {} ∧
        keeps (fun u j => tabGet {} u.groups j) s t [d.val * 2048 + g.val]) ∧
    (linked → 5 ≤ m.mfBad → exec (.mlomDeclare c) s = .next (monPut c.val { m with mlom := true } s)) ∧
    (¬ linked ∨ m.mfBad < 5 → exec (.mlomDeclare c) s = .next s) ∧
    (2 ≤ m.mfGood → exec (.mlomClear c) s = .next (monPut c.val { m with mlom := false } s)) ∧
    (m.mfGood < 2 → exec (.mlomClear c) s = .next s) ∧
    (grpOn s d.val g.val = true → loaCause s d.val g.val = true → k.loa = false →
      exec (.loaChange d g) s = report true (grpPut d.val g.val { k with loa := true, placed := false } s)) ∧
    (grpOn s d.val g.val = true → loaCause s d.val g.val = false → k.loa = true → k.placed = true →
      exec (.loaChange d g) s = report false (grpPut d.val g.val { k with loa := false } s)) ∧
    (grpOn s d.val g.val = false ∨ loaCause s d.val g.val = k.loa → exec (.loaChange d g) s = .next s) ∧
    (linked → ok = false →
      exec (.lcasPacketRx c ok ctrl sq ack none) s = .next (monPut c.val { m with crcErr := min (m.crcErr + 1) 0xFFF } s)) ∧
    (linked → ok = true → reaches (exec (.lcasPacketRx c ok ctrl sq ack (some (n, x))) s) fun t =>
      ohWord t c.val 0x22 0 = mkWord [(32, ctrl.val), (24, sq.val), (23, b2n ack)] ∧
      ohWord t c.val 0x22 (1 + n.val) = x.setWidth 36 ∧ (monGet t c.val).sq = sq.val ∧ keeps monGet s t [c.val] ∧
      t = { s with oh := t.oh, mons := t.mons }) ∧
    (¬ linked → exec (.lcasPacketRx c ok ctrl sq ack none) s = .next s) ∧
    (linked → exec (.lcasTxChange c) s = .next (monPut c.val { m with txCtrl := ohWord s c.val 0x22 9 } s)) ∧
    (¬ linked → exec (.lcasTxChange c) s = .next s) ∧
    (grpLcas s d.val g.val = false → exec (.lcasPayloadChange d g) s = .next s) ∧
    (∀ id, grpLcas s d.val g.val = true → membersOf s d.val g.val = [(0, some id)] →
      exec (.lcasPayloadChange d g) s = .next (monPut id { monGet s id with
        payload := memberFits s d.val g.val id && ctrlPays (fld (ohWord s id 0x22 0) 35 32) } s)) ∧
    (cfg.getLsbD 35 = false → exec (.groupReaderPlace d g) s = .next s ∧ exec (.groupRetime d g) s = .next s)

/-- The reader of a group is placed and retimed (R252, R253, 07_proof.md). Once every present member is aligned the reader
is placed a guard and a frame period after the fixed delay (FIXED) or after the latest present payload member; without
FIXED a payload member too late moves it back by whole frames, recorded as a proof event. -/
def Obligations.GroupReadersArePlacedAndRetimed : Prop :=
  ∀ (d : DieId) (g : GroupId) (s : State), Safety.tablesOk s = true →
    let k := grpGet s d.val g.val
    let w := grpCfg s d.val g.val
    let t := grpPeriod (fld w 34 32)
    let members := (membersOf s d.val g.val).filterMap Prod.snd
    let present := members.filter fun id => memberPresent s id
    let late := ((payloadOf s d.val g.val).filter fun id => memberPresent s id).foldl (fun n id => max n (monGet s id).delay) 0
    w.getLsbD 35 = true →
    (k.placed = false → present ≠ [] → (∀ id ∈ present, (monGet s id).mfi.isSome = true) → w.getLsbD 10 = true →
      exec (.groupReaderPlace d g) s = .next (grpPut d.val g.val
        { k with placed := true, readAt := fld w 22 11 * 125000 + guardUs s d.val * 1000 + t } s)) ∧
    (k.placed = false → present ≠ [] → (∀ id ∈ present, (monGet s id).mfi.isSome = true) → w.getLsbD 10 = false →
      exec (.groupReaderPlace d g) s = .next (grpPut d.val g.val
        { k with placed := true, readAt := late + guardUs s d.val * 1000 + t } s)) ∧
    (k.placed = true ∨ present = [] ∨ (∃ id ∈ present, (monGet s id).mfi = none) → exec (.groupReaderPlace d g) s = .next s) ∧
    (k.placed = true → w.getLsbD 10 = false → k.readAt < late →
      let n := (late - k.readAt + t - 1) / t
      exec (.groupRetime d g) s = .next (proofHit d.val g.val 4 n (grpPut d.val g.val { k with readAt := k.readAt + n * t } s))) ∧
    (k.placed = false ∨ w.getLsbD 10 = true ∨ late ≤ k.readAt → exec (.groupRetime d g) s = .next s)

/-- PRF_CTRL, rings, line integrity and the set-up of a hitless pair (R244). PRF_CTRL is refused while a ring is allocated
and GUARD would change (RING_ACTIVE), or with a GUARD outside 0 and 4 to 100; else stored. An allocated ring becomes
writable at its first frame. A line that fails a check counts as substituted where a mapped pair's partner line is
sound, else as unverified, the first ring of the tick kept. A broken ring leaves the mapping of its pair. HL_RATE of
an enabled pair stands; HL_CFG is refused with its status, stored, or allocates two rings; HL_CNT_CLR clears the
counts. -/
def Obligations.ProofSetUpAndRings : Prop :=
  ∀ (d : DieId) (r : RingId) (p : PairId) (c : CtlWrite) (o : Origin) (v : Word) (ecc crc partner : Bool) (s : State),
    Safety.tablesOk s = true →
    let a := prfCtrlAddr d.val
    let k := ringGet s r.val
    let guard := fld c.value 35 29
    let e := r.val / 2048
    let subs := tabGet 0 s.substs e
    let unv := tabGet 0 s.unverified e
    let paired := ∃ x, pairOfRing s r.val = some x ∧ (hlGet s x).mapped = true
    let h := hlGet s p.val
    let w96 := pairAddr p.val 96
    let w97 := pairAddr p.val 97
    let read := exec (.ringLineRead r ecc crc partner) s
    (guard ≠ cwFld s a 35 29 → ringsAllocated s d.val = true → exec (.prfCtrl d c) s = .next (refuse c.origin 0x17 .word a s)) ∧
    (guard = cwFld s a 35 29 ∨ ringsAllocated s d.val = false → guard ≠ 0 → guard < 4 ∨ 100 < guard →
      exec (.prfCtrl d c) s = .next (refuse c.origin 0x05 .word a s)) ∧
    (guard = cwFld s a 35 29 ∨ ringsAllocated s d.val = false → guard = 0 ∨ (4 ≤ guard ∧ guard ≤ 100) →
      applies c.origin .word a s (exec (.prfCtrl d c) s) fun t =>
        cwGet t a = (c.value &&& 0xFFFFC0000) ∧ cwKept s t [a] ∧ t = { s with cw := t.cw }) ∧
    (k.pages ≠ 0 → k.freed = false → exec (.ringStart r) s = .next (ringPut r.val { k with writable := true } s)) ∧
    (k.pages = 0 ∨ k.freed = true → exec (.ringStart r) s = .next s) ∧
    (ecc = true → crc = true → read = .next s) ∧
    (ecc = false ∨ crc = false → reaches read fun t =>
      tabGet 0 t.firstRing e = (if subs + unv = 0 then r.val else tabGet 0 s.firstRing e) ∧
      (paired → partner = true → tabGet 0 t.substs e = subs + 1 ∧ t.unverified = s.unverified) ∧
      (¬ paired ∨ partner = false → tabGet 0 t.unverified e = unv + 1 ∧ t.substs = s.substs) ∧
      t = { s with substs := t.substs, unverified := t.unverified, firstRing := t.firstRing }) ∧
    (k.broke = false → exec (.ringBreak r) s = .next s) ∧
    (k.broke = true → pairOfRing s r.val = none → exec (.ringBreak r) s = .next (ringPut r.val { k with broke := false } s)) ∧
    (∀ x, k.broke = true → pairOfRing s r.val = some x → exec (.ringBreak r) s = .next (hlRefresh x
      (hlPut x { hlGet s x with map := none, mapped := false, diffRun := 0 } (ringPut r.val { k with broke := false } s)))) ∧
    ((hlCfg s p.val).getLsbD 35 = true →
      exec (.hlCfg p [{ origin := o, rate := true, value := v }]) s = .next (refuse o 0x08 .word w97 s)) ∧
    ((hlCfg s p.val).getLsbD 35 = false →
      (applies o .word w97 s (exec (.hlCfg p [{ origin := o, rate := true, value := v }]) s) fun t =>
        cwGet t w97 = (v &&& 0x0FFFFFFFF) ∧ cwKept s t [w97] ∧ t = { s with cw := t.cw }) ∧
      (v.getLsbD 35 = false → applies o .word w96 s (exec (.hlCfg p [{ origin := o, rate := false, value := v }]) s) fun t =>
        cwGet t w96 = (v &&& 0xFFFFA0000) ∧ cwKept s t [w96] ∧ t = { s with cw := t.cw }) ∧
      (v.getLsbD 35 = true → hlWriteStatus s s p.val 96 v ≠ 0 →
        exec (.hlCfg p [{ origin := o, rate := false, value := v }]) s =
          .next (refuse o (hlWriteStatus s s p.val 96 v) .word w96 s)) ∧
      (∀ x y rest, v.getLsbD 35 = true → hlWriteStatus s s p.val 96 v = 0 → freeRings s (fld v 17 17) 2 = x :: y :: rest →
        ∃ u, u.wRing = x ∧ u.pRing = y ∧ u.die = fld v 17 17 ∧ u.map = none ∧ u.mapped = false ∧
          applies o .word w96 s (exec (.hlCfg p [{ origin := o, rate := false, value := v }]) s) fun t =>
            cwGet t w96 = (v &&& 0xFFFFA0000) ∧ ∃ z, t = hlRefresh p.val (hlPut p.val u z) ∧
              z = { s with cw := z.cw, prfRings := z.prfRings })) ∧
    (reaches (exec (.hlCntClr p) s) fun t =>
      hlGet t p.val = { h with hitlessSw := 0, bounded := 0, blind := 0, recent := 0, aligns := 0 } ∧
      keeps hlGet s t [p.val] ∧ t = { s with hls := t.hls })

/-- A hitless pair searches, confirms, misaligns and is recentred (R262, R263, R264, R265, R266, R267, 07_proof.md). While
both rings have been continuous for eight frames and no offset stands, an attempt notes what it found: nothing, an
ambiguity, an offset out of range, or an offset to confirm; 64 attempts that found nothing report SEARCH_RANGE.
Confirmation maps the rings, placing the reader where it is due, or drops the offset; eight differing frames misalign
the pair. Slacks are taken at each output frame; a recentre asked for is done at the next frame boundary. -/
def Obligations.HitlessPairsAlign : Prop :=
  ∀ (p : PairId) (o : Origin) (lw ew lp ep : Int) (s : State), Safety.tablesOk s = true →
    let n := p.val
    let h := hlGet s n
    let w := ringGet s h.wRing
    let q := ringGet s h.pRing
    let live := (hlCfg s n).getLsbD 35 = true
    let up := fun (x : Hl) => (Host.Outcome.next (hlRefresh n (hlPut n x s)) : Result)
    let ready := live ∧ 8 ≤ w.cont ∧ 8 ≤ q.cont ∧ h.map = none
    (¬ ready → exec (.hlAlignAttempt p) s = .next s) ∧
    (ready → attempt s n = .ambig ∨ fpRepeat (w.frames.take 8) = true ∨ fpRepeat (q.frames.take 8) = true →
      exec (.hlAlignAttempt p) s = up { h with noneRun := 0, last := 4 }) ∧
    (ready → attempt s n = .none → exec (.hlAlignAttempt p) s =
      up { h with noneRun := h.noneRun + 1, last := if h.last = 5 ∧ 64 ≤ h.noneRun then 5 else 1 }) ∧
    (ready → attempt s n = .range → exec (.hlAlignAttempt p) s = up { h with noneRun := 0, last := 5 }) ∧
    (∀ d, ready → attempt s n = .offset d → exec (.hlAlignAttempt p) s = up { h with
      noneRun := 0, last := 1, map := some ((q.count : Int) - w.count + d), foundW := w.count, foundP := q.count,
      offset := d.natAbs, pLater := decide (d > 0) }) ∧
    (64 ≤ h.noneRun → exec (.hlSearchRange p) s = up { h with last := 5 }) ∧
    (h.noneRun < 64 → exec (.hlSearchRange p) s = .next s) ∧
    (h.mapped = true ∨ confirmVerdict s n = none → exec (.hlAlignConfirm p) s = .next s) ∧
    (h.mapped = false → confirmVerdict s n = some false → exec (.hlAlignConfirm p) s = up { h with map := none }) ∧
    (h.mapped = false → confirmVerdict s n = some true → h.fresh = false →
      exec (.hlAlignConfirm p) s = up { h with mapped := true, diffRun := 0, fresh := false }) ∧
    (h.mapped = false → confirmVerdict s n = some true → h.fresh = true → h.output = false ∨ (hlCfg s n).getLsbD 19 = true →
      exec (.hlAlignConfirm p) s = .next (hlRefresh n (placeReader n ((hlCfg s n).getLsbD 19 && h.output)
        (hlPut n { h with mapped := true, diffRun := 0, fresh := false } s)))) ∧
    (h.mapped = true → 8 ≤ h.diffRun →
      exec (.hlMisalign p) s = up { h with map := none, mapped := false, diffRun := 0, last := 1, noneRun := 0 }) ∧
    (h.mapped = false ∨ h.diffRun < 8 → exec (.hlMisalign p) s = .next s) ∧
    (live → exec (.hlSlackEval p lw ew lp ep) s =
      up { h with lateW := lw, earlyW := ew, lateP := lp, earlyP := ep, output := true }) ∧
    (¬ live → exec (.hlSlackEval p lw ew lp ep) s = .next s) ∧
    (h.recentre = true → bothMapped s n = true → exec (.hlRecentre p .place) s = .next (placeReader n true s)) ∧
    (h.recentre = false ∨ bothMapped s n = false → exec (.hlRecentre p .place) s = .next s) ∧
    (live → applies o .word (pairAddr n 96) s (exec (.hlRecentre p (.write o)) s) fun t =>
      hlGet t n = { h with recentre := true } ∧ keeps hlGet s t [n] ∧ cwKept s t [pairAddr n 96] ∧
      t = { s with hls := t.hls, cw := t.cw })

/-- Resize controllers and the outputs of a swap (R218, R219, R228, R229, R230, R231, R232). A GO starts an idle
controller that gets a timer, ramping first at a shrinking source or sink, is refused with TIMER_BUSY without one, and
is only stored while a resize runs; an ABORT before the hop ends the resize with its record; a disable is refused with
RSZ_RUNS until the applied runs are the effective allotment. The handshake takes a hop on to its swap and an end to
its ramp, or times out into an abort; the end of a ramp completes. Each output of a pending eligible swap changes
once, at its frame boundary or when the swap times out. -/
def Obligations.ResizesRunInSteps : Prop :=
  ∀ (d : DieId) (i : Fin 32) (c : CarrierRef) (us : Nat) (w : CtlWrite) (s : State), Safety.tablesOk s = true →
    let k := d.val * 32 + i.val
    let a := rszAddr k 0
    let r := rszGet s k
    let was := (rszCfg s k).getLsbD 35 = true
    let go := putFld w.value 17 17 1
    let ab := putFld w.value 16 16 1
    let off := putFld w.value 35 35 0
    let plan := fun (v : Word) => cwSet a (v &&& 0xFFFFC0000) s
    let waits := was ∧ r.step = 1 ∧ r.wantSwap = false
    (fld w.value 34 33 = 3 → exec (.rszGo d i w) s = .next (refuse w.origin 0x02 .word a s) ∧
      exec (.rszAbortCmd d i w) s = .next (refuse w.origin 0x02 .word a s) ∧
      exec (.rszCfgDisable d i w) s = .next (refuse w.origin 0x02 .word a s)) ∧
    (fld w.value 34 33 ≠ 3 → was → w.value.getLsbD 35 = true →
      (w.value.getLsbD 16 = false → rszIdle s k = true → rszTimerFree (plan go) k = true →
        applies w.origin .word a s (exec (.rszGo d i w) s) fun t => cwGet t a = (go &&& 0xFFFFC0000) ∧ cwKept s t [a] ∧
          rszGet t k = { r with step := if fld go 34 33 ≠ 2 ∧ go.getLsbD 32 = true then 3 else 1, rateOld := r.rateNow,
                                timer := true, wantSwap := false, noTimer := false } ∧
          keeps rszGet s t [k] ∧ t = { s with cw := t.cw, rsz := t.rsz }) ∧
      (w.value.getLsbD 16 = false → rszIdle s k = true → rszTimerFree (plan go) k = false →
        exec (.rszGo d i w) s = .next (refuse w.origin 0x07 .word a s)) ∧
      (w.value.getLsbD 16 = false → rszIdle s k = false → applies w.origin .word a s (exec (.rszGo d i w) s) fun t => t = plan go) ∧
      (r.step = 1 → applies w.origin .word a s (exec (.rszAbortCmd d i w) s) fun t =>
        t = rszRecord 0x10 k (rszPut k { r with step := 5, timer := false, wantSwap := false, noTimer := false } (plan ab))) ∧
      (r.step ≠ 1 → applies w.origin .word a s (exec (.rszAbortCmd d i w) s) fun t => t = plan ab)) ∧
    (fld w.value 34 33 ≠ 3 → was → rszSettled s k = true →
      applies w.origin .word a s (exec (.rszCfgDisable d i w) s) fun t => cwGet t a = (off &&& 0xFFFFC0000) ∧ cwKept s t [a] ∧
        rszGet t k = {} ∧ keeps rszGet s t [k] ∧ t = { s with cw := t.cw, rsz := t.rsz }) ∧
    (fld w.value 34 33 ≠ 3 → was → rszSettled s k = false →
      exec (.rszCfgDisable d i w) s = .next (refuse w.origin 0x44 .word a s)) ∧
    (¬ waits → exec (.rszHandshakeAck d i) s = .next s ∧ exec (.rszHandshakeTimeout d i) s = .next s) ∧
    (waits →
      exec (.rszHandshakeAck d i) s = .next (rszPut k (if rszRole s k = 2 then { r with wantSwap := true } else { r with step := 3 }) s) ∧
      exec (.rszHandshakeTimeout d i) s =
        .next (rszRecord 0x10 k (rszPut k { r with step := 5, timer := false, wantSwap := false, noTimer := false } s))) ∧
    (was → r.step = 3 → exec (.rszRampEnd d i) s = .next (rszDone k s)) ∧
    (¬ was ∨ r.step ≠ 3 → exec (.rszRampEnd d i) s = .next s) ∧
    (let x := dieDeck s d.val
     let due := fun n => x.pending = true ∧ x.eligible = true ∧ n ∈ carriersOf s d.val ∧ n ∉ x.changed
     (¬ due (carrierNum c) → exec (.deckOutputChange d c us) s = .next s) ∧
     (due (carrierNum c) → exec (.deckOutputChange d c us) s = .next ((carrierPairs s d.val (carrierNum c)).foldl
        (fun s p => hitlessMove d.val p s) (changeOnce d.val (carrierNum c) us s))) ∧
     (x.pending = false → exec (.deckSwapTimeout d) s = .next s) ∧
     (∀ n, carriersOf s d.val = [n] → due n → exec (.deckSwapTimeout d) s = .next ((carrierPairs s d.val n).foldl
        (fun s p => hitlessMove d.val p s) (changeOnce d.val n 2000 s))))

/-- The nine requests on a pair as Table 8-8 gives them (R284, R285, R290, R291, 08_protection.md Table 8-8). A request on
a pair that is disabled, driven by another or excluded by a failed check is refused with PROT_OFF; a follower takes
none. Otherwise each operation sets GOV to its rank and position (CLEAR only over a command, WTR with a timer for its
minutes), is refused with PROT_REJECT where GOV outranks it and counted, or with TIMER_BUSY where WTR finds no timer;
the signalling is brought up to date. (The 123 µs by which WTR runs past the tick are the model's choice, log entry
144.) -/
def Obligations.ProtectionRequestsLand : Prop :=
  ∀ (o : Origin) (p : PairId) (s : State),
    let n := p.val
    let k := prtGet s n
    let takes := prtOn s n = true ∧ isDriven s n = false ∧ k.causes = 0
    let own := takes ∧ prtFollows s n = false
    let command := k.gov = 10 ∨ k.gov = 8 ∨ k.gov = 5 ∨ k.gov = 3
    let governs := fun (x : Result) (rank : Nat) (sig : Bool) => x = .next (signal n (setGov n rank sig false s))
    let rejected := fun (x : Result) =>
      x = .next (refuse o 0x4A .pair n (prtPut n { k with rejects := min (k.rejects + 1) 0x3FFFF } s))
    let clear := exec (.protReqClear (.land o p)) s
    let lo := exec (.protReqLo (.land o p)) s
    let fs := exec (.protReqFs (.land o p)) s
    let msP := exec (.protReqMsP (.land o p)) s
    let msW := exec (.protReqMsW (.land o p)) s
    let exer := exec (.protReqExer (.land o p)) s
    let wtr := exec (.protReqWtr (.land o p)) s
    let dnr := exec (.protReqDnr (.land o p)) s
    let nr := exec (.protReqNr (.land o p)) s
    (¬ takes → ∀ x ∈ [clear, lo, fs, msP, msW, exer, wtr, dnr, nr], x = .next (refuse o 0x49 .pair n s)) ∧
    (takes → prtFollows s n = true → ∀ x ∈ [clear, lo, fs, msP, msW, exer, wtr, dnr, nr], x = .next s) ∧
    (own →
      (command → governs clear 0 false) ∧ (¬ command → clear = .next (signal n s)) ∧ governs lo 10 false ∧
      (k.gov = 10 ∨ k.gov = 9 → rejected fs) ∧ (k.gov ≠ 10 → k.gov ≠ 9 → governs fs 8 true) ∧
      (5 < k.gov → rejected msP ∧ rejected msW) ∧ (k.gov ≤ 5 → governs msP 5 true ∧ governs msW 5 false) ∧
      (3 < k.gov ∨ archOf s n = 0 → rejected exer) ∧ (k.gov ≤ 3 → archOf s n ≠ 0 → governs exer 3 k.govSig) ∧
      (command → rejected wtr ∧ rejected dnr ∧ rejected nr) ∧
      (¬ command → governs dnr 1 true ∧ governs nr 0 false) ∧
      (¬ command → k.wtr = false → freeTimers s (prtCluster s n) = 0 →
        wtr = .next (refuse o 0x07 .pair n (countNoTimer n s))) ∧
      (¬ command → k.wtr = true ∨ freeTimers s (prtCluster s n) ≠ 0 → ∃ t, wtr = .next (signal n t) ∧ keeps prtGet s t [n] ∧
        t = { s with pairs := t.pairs } ∧ (Safety.tablesOk s = true → (prtGet t n).gov = 4 ∧ (prtGet t n).govSig = true ∧
          (prtGet t n).wtr = true ∧ (prtGet t n).wtrUs = wtrMinutes s n * 60000000 + 123)))

/-- Hold-off, WTR, FOP and the fast path of a pair (R279, R280, R282, R283, R284, R288, R290, R291, R292, R297). An onset
of TSF or TSD starts the path's hold-off where a timer is free, else it is taken as over; its end takes the conditions
as they stand. WTR, the hitless wait, FOP_NR and the hold after a takeover end as given. At a frame boundary a
follower takes its leader's SEL; a 1+1 pair takes the highest of its local conditions (SF-P, then SF-W) where it
outranks GOV, and SEL follows, each flip counted. -/
def Obligations.ProtectionTimersAndFastPath : Prop :=
  ∀ (p : PairId) (protect limit : Bool) (s : State), Safety.tablesOk s = true →
    let n := p.val
    let k := prtGet s n
    let onset := pairRuns s n = true ∧ prtHoldoff s n ≠ 0 ∧ pathBad s n protect = true ∧ hoRunning k protect = false ∧
      hoDone k protect = false
    let evaluates := k.causes = 0 ∧ prtOn s n = true ∧ (selEntry s n).getLsbD 35 = true ∧ isDriven s n = false
    let h := localRequest s n
    (onset → 0 < freeTimers s (prtCluster s n) → exec (.holdoffStart p protect) s = .next (prtPut n (hoPut protect true false k) s)) ∧
    (onset → freeTimers s (prtCluster s n) = 0 → exec (.holdoffStart p protect) s =
      .next (protEvt n 6 (countNoTimer n (prtPut n (hoPut protect false true k) s)))) ∧
    (¬ onset → exec (.holdoffStart p protect) s = .next s) ∧
    (hoRunning k protect = true → exec (.holdoffExpire p protect) s =
      .next (prtPut n (hoPut protect false (pathBad s n protect) k) s)) ∧
    (hoRunning k protect = false → exec (.holdoffExpire p protect) s = .next s) ∧
    (k.wtr = true → k.gov = 4 → k.wtrUs ≤ 125 → k.wtrExp = false →
      exec (.wtrExpire p) s = .next (prtPut n { k with wtrExp := true, wtrUs := 0 } s)) ∧
    (k.wtr = false ∨ k.gov ≠ 4 ∨ 125 < k.wtrUs ∨ k.wtrExp = true → exec (.wtrExpire p) s = .next s) ∧
    (k.waits = true → pairRuns s n = true → k.causes = 0 → exec (.hlWaitExpire p) s = .next (setSel n k.govSig s)) ∧
    (k.waits = false ∨ pairRuns s n = false ∨ k.causes ≠ 0 → exec (.hlWaitExpire p) s = .next s) ∧
    (pairRuns s n = true → archOf s n ≠ 0 → k.farSig ≠ k.govSig → k.gov ≠ 3 → k.far ≠ 3 → k.fopNr = false →
      exec (.fopNrDeclare p) s = .next (protEvt n 3 (prtPut n { k with fopNr := true } s))) ∧
    (archOf s n = 0 ∨ k.farSig = k.govSig ∨ k.gov = 3 ∨ k.far = 3 → exec (.fopNrDeclare p) s = .next s) ∧
    (k.held = false → exec (.protHoldEnd p limit) s = .next s) ∧
    (k.held = true → pathTsf s n false = false → pathTsd s n false = false → pathTsf s n true = false → pathTsd s n true = false →
      k.gov ≠ 4 → limit = false → exec (.protHoldEnd p limit) s = .next (prtPut n { k with
        held := false, hoW := false, hoP := false, doneW := false, doneP := false } s)) ∧
    (reaches (exec (.prtCntClr p) s) fun t => prtGet t n = { k with switches := 0, rejects := 0, farSw := 0, noTimer := 0 } ∧
      keeps prtGet s t [n] ∧ t = { s with pairs := t.pairs }) ∧
    (¬ evaluates → exec (.protFastpathEval p) s = .next s) ∧
    (evaluates → prtFollows s n = true →
      exec (.protFastpathEval p) s = .next (setSel n (pairSel s (fld (prtLink s n) 10 0)) s)) ∧
    (evaluates → prtFollows s n = false → k.held = true → exec (.protFastpathEval p) s = .next s) ∧
    (∀ sig, evaluates → prtFollows s n = false → k.held = false → archOf s n = 0 → k.gov < h.1 → h.2 = some sig →
      ∃ t, exec (.protFastpathEval p) s = .next (signal n (agreeNr n (followGov n t))) ∧ t = setGov n h.1 sig false s) ∧
    (evaluates → prtFollows s n = false → k.held = false → archOf s n = 0 → h.1 ≤ k.gov →
      exec (.protFastpathEval p) s = .next (signal n (agreeNr n (followGov n s)))) ∧
    (pathSf s n true = true → h = (9, some false)) ∧
    (pathSf s n true = false → pathSf s n false = true → h = (7, some true)) ∧
    (∀ d, homeDie s n = some d → selOf s d n ≠ k.govSig → (selInUse s n).getLsbD 34 = false →
      (selOf (followGov n s) d n = k.govSig ∧ (prtGet (followGov n s) n).switches = min (k.switches + 1) 0x3FFFF))

/-- Set-up of pairs, slot test patterns, the copy after a swap, and fine blocks (R220, R226, R234, R276, R277,
06_decks.md, 08_protection.md). A set-up word of a pair is refused with its status or stored; a pair that is enabled
takes the value its cell has accepted (log 196). A slot test pattern needs a mode that honours it (MODE_STATE), a slot
of its die (ID_RANGE) and, to generate, a free slot (RES_CONFLICT); starting the checker clears its count. Once every
output has changed the active page is copied to the standby page, the swap is counted and recorded. A fine block that
is enabled stands (PORT_ENABLED), else it is refused with its status or stored. -/
def Obligations.ProtectionAndDeckSetUp : Prop :=
  ∀ (p : PairId) (w : PrtWrite) (d : DieId) (r : RegionId) (b : Fin 64) (c : CtlWrite) (s : State), Safety.tablesOk s = true →
    let n := p.val
    let a := pairAddr n w.word.val
    let v := w.value &&& prtMask w.word.val
    let plan := cwSet a v s
    let st := prtStatus s plan s n w.word.val w.value
    let x := exec (.prtCfg p [w]) s
    let gen := ctlAddr clsDeck d.val 0x10
    let chk := ctlAddr clsDeck d.val 0x11
    let slot := fld c.value 33 19
    let slotOk := slot % 0x4000 ≤ 10239 ∧ deckDie slot = d.val
    let on := c.value.getLsbD 35 = true
    let tests := s.mode = .provision ∨ s.mode = .active ∨ s.mode = .test
    let k := dieDeck s d.val
    let ba := blkAddr r.val b.val
    let bv := c.value &&& 0xFFFFFFFF8
    let bs := blkStatus (cwSet ba bv s) r.val b.val
    (st ≠ 0 → x = .next (refuse w.origin st .word a s)) ∧
    (st = 0 → w.word.val ≠ 0 → applies w.origin .word a s x fun t =>
      cwGet t a = v ∧ cwKept s t [a] ∧ t = { s with cw := t.cw }) ∧
    (st = 0 → w.word.val = 0 → prtOn s n = false → applies w.origin .word a s x fun t =>
      let cell := cellGet s (prtCell s n)
      cwGet t a = v ∧ cwKept s t [a] ∧
      t = (if w.value.getLsbD 35 = true ∧ (prtLink s n).getLsbD 35 = true ∧ cell.valid = true then farAccept n cell.acc plan
        else plan)) ∧
    (on → ¬ tests → exec (.deckPrbsGen d c) s = .next (refuse c.origin 0x04 .word gen s) ∧
      exec (.deckPrbsChk d c) s = .next (refuse c.origin 0x04 .word chk s)) ∧
    (on → tests → ¬ slotOk → exec (.deckPrbsGen d c) s = .next (refuse c.origin 0x01 .word gen s) ∧
      exec (.deckPrbsChk d c) s = .next (refuse c.origin 0x01 .word chk s)) ∧
    (on → tests → slotOk → (deckEntry s false (deckMain slot)).getLsbD 35 = true →
      exec (.deckPrbsGen d c) s = .next (refuse c.origin 0x06 .word gen s)) ∧
    (¬ on ∨ (tests ∧ slotOk ∧ (deckEntry s false (deckMain slot)).getLsbD 35 = false) →
      applies c.origin .word gen s (exec (.deckPrbsGen d c) s) fun t =>
        cwGet t gen = (c.value &&& 0xFFFF80000) ∧ cwKept s t [gen] ∧ t = { s with cw := t.cw }) ∧
    (¬ on ∨ (tests ∧ slotOk) → applies c.origin .word chk s (exec (.deckPrbsChk d c) s) fun t =>
      cwGet t chk = (c.value &&& 0xBFFF80000) ∧ cwKept s t [chk] ∧
      dieDeck t d.val = (if on ∧ (cwGet s chk).getLsbD 35 = false then { k with prbsErr := 0, prbsErrSnap := 0, prbsLock := false }
        else k) ∧ t = { s with cw := t.cw, decks := t.decks }) ∧
    (allChanged s d.val = false → exec (.deckCopyDone d) s = .next s) ∧
    (allChanged s d.val = true → rszArmed s d.val none = [] → ∃ t, exec (.deckCopyDone d) s = .next (swapRecord d.val k.armedTick t) ∧
      (dieDeck t d.val).pending = false ∧ (dieDeck t d.val).changed = [] ∧
      (tabWf (fun _ => 0) s.deck = true → ∀ e, isMainAddr e = true → e < 0x8000 → deckDie e = d.val →
        deckEntry t true e = deckEntry s false e ∧ deckEntry t false e = deckEntry s false e) ∧
      fld (cwGet t (deckCntAddr d.val)) 35 18 = min (fld (cwGet s (deckCntAddr d.val)) 35 18 + 1) 0x3FFFF ∧
      cwKept s t [deckCntAddr d.val] ∧ t = { s with deck := t.deck, decks := t.decks, cw := t.cw }) ∧
    ((cwGet s ba).getLsbD 35 = true → bv ≠ putFld (cwGet s ba) 35 35 0 → bv ≠ cwGet s ba →
      exec (.fineBlk r b c) s = .next (refuse c.origin 0x08 .word ba s)) ∧
    ((cwGet s ba).getLsbD 35 = false → bs ≠ 0 → exec (.fineBlk r b c) s = .next (refuse c.origin bs .word ba s)) ∧
    ((cwGet s ba).getLsbD 35 = false → bs = 0 → applies c.origin .word ba s (exec (.fineBlk r b c) s) fun t =>
      cwGet t ba = bv ∧ cwKept s t [ba] ∧ t = { s with cw := t.cw })

/-- Filter cells, the bin clock, LOS, defects, consequent actions and captures (R145, R147, R149, R150, R154, R374, R375,
04_overhead.md). FC_CFG and FC_MASK are refused (a reserved kind CFG_RANGE, a count of one THR_RANGE) or stored, and
restart the cell's run. OH_PM_SET loads the bin clock within its range. LOS, the defects of Table 4-16 and the
consequent actions begin and end while their criteria stand and have no effect otherwise. A rise of SNAP_IN causes a
capture where enabled; a capture copies every counter to its shadow, advances SNAP_SEQ and notes the tick. -/
def Obligations.FiltersBinsAndDefects : Prop :=
  ∀ (c : ClusterId) (cell : Fin 2048) (word : Fin 2) (w : CtlWrite) (u : UnitId) (r : StreamRef) (x : CtxId) (d : Fin 36)
    (back : Bool) (merged : Nat) (s : State), Safety.tablesOk s = true →
    let a := cellAddr c.val cell.val word.val
    let k := cellKey c.val cell.val
    let old := cellCfg s k
    let new := w.value &&& BitVec.ofNat 36 ((ohStore word.val).getD 0)
    let y := exec (.fcCfg c cell word w) s
    let bad := word.val = 0 ∧ fld w.value 32 29 = 1
    let kind := word.val = 0 ∧ 2 ≤ fld w.value 34 33
    let pm := ctlAddr clsOh u.val 0x800
    let q := fld w.value 32 10
    let day := fld w.value 9 3
    let err := ctlAddr clsOh u.val 0x802
    let f := frmCfg s r.unit.val r.num.val
    let ks := streamKey r.unit.val r.num.val
    let los := fun (v : Bool) => (Host.Outcome.next (settleDefs (framerPut ks { framerGet s ks with los := v } s)) : Result)
    let m := monGet s x.val
    (bad → y = .next (refuse w.origin 0x05 .word a s)) ∧ (kind → ¬ bad → y = .next (refuse w.origin 0x02 .word a s)) ∧
    (¬ bad → ¬ kind → applies w.origin .word a s y fun t => ∃ v, t = settleDefs v ∧ cwGet v a = new ∧ cwKept s v [a] ∧
      (cellGet v k).run = 0 ∧ keeps cellGet s v [k] ∧ v = { s with cw := v.cw, cells := v.cells } ∧
      (word.val = 0 → fld old 34 33 = fld new 34 33 → fld old 28 3 = fld new 28 3 → (cellGet v k).acc = (cellGet s k).acc) ∧
      (word.val = 0 → fld old 28 3 ≠ fld new 28 3 → (cellGet v k).valid = false ∧ (cellGet v k).acc = 0) ∧
      (word.val = 0 → old.getLsbD 35 = false → new.getLsbD 35 = true → (cellGet v k).changes = 0)) ∧
    (w.value.getLsbD 35 = true → 7199999 < q ∨ 95 < day → exec (.ohPmSet u w) s = .next (refuse w.origin 0x05 .word pm s)) ∧
    (w.value.getLsbD 35 = true → q ≤ 7199999 → day ≤ 95 → applies w.origin .word pm s (exec (.ohPmSet u w) s) fun t =>
      t = { s with binLoad := some (q, day) }) ∧
    (w.value.getLsbD 35 = false → applies w.origin .word pm s (exec (.ohPmSet u w) s) fun t => t = s) ∧
    (reaches (exec (.ohErrClear u) s) fun t => cwGet t err = 0 ∧ cwKept s t [err] ∧ t = { s with cw := t.cw }) ∧
    (frmLive f = true → signalMissing s r = true ∨ frmProto f = 3 → exec (.losDeclare r) s = los true) ∧
    (frmLive f = false ∨ (signalMissing s r = false ∧ frmProto f ≠ 3) → exec (.losDeclare r) s = .next s) ∧
    (frmLive f = true → signalMissing s r = false → exec (.losClear r) s = los false) ∧
    (frmLive f = false ∨ signalMissing s r = true → exec (.losClear r) s = .next s) ∧
    (declareMet s x.val d.val = true → exec (.defectDeclare x d) s = .next (setDefect x.val d.val true s)) ∧
    (declareMet s x.val d.val = false → exec (.defectDeclare x d) s = .next s) ∧
    (clearMet s x.val d.val = true → exec (.defectClear x d) s = .next (setDefect x.val d.val false s)) ∧
    (clearMet s x.val d.val = false → exec (.defectClear x d) s = .next s) ∧
    (actionDue m back = true → reaches (exec (.consequentActionStart x back) s) fun t =>
      (monGet t x.val).actions.testBit (if back then 1 else 0) = true ∧ monGet t x.val = { m with actions := (monGet t x.val).actions } ∧
      keeps monGet s t [x.val] ∧ t = { s with mons := t.mons }) ∧
    (actionDue m back = false → exec (.consequentActionStart x back) s = .next s ∧
      reaches (exec (.consequentActionEnd x back) s) fun t => (monGet t x.val).actions.testBit (if back then 1 else 0) = false ∧
        monGet t x.val = { m with actions := (monGet t x.val).actions } ∧ keeps monGet s t [x.val] ∧ t = { s with mons := t.mons }) ∧
    (actionDue m back = true → exec (.consequentActionEnd x back) s = .next s) ∧
    (cwFld s (ctlAddr clsCen 0 0x86) 35 35 = 1 → exec .snapInEdge s = .next { s with captures := s.captures + 1 }) ∧
    (cwFld s (ctlAddr clsCen 0 0x86) 35 35 ≠ 1 → exec .snapInEdge s = .next s) ∧
    (s.captures = 0 → exec (.snapCapture merged) s = .next s) ∧
    (0 < s.captures → reaches (exec (.snapCapture merged) s) fun t => t.captures = s.captures - max 1 merged ∧
      cwGet t (ctlAddr clsCen 0 0x87) = cwGet s (ctlAddr clsCen 0 0x87) + 1 ∧ cwGet t (ctlAddr clsCen 0 0x88) = s.tick ∧
      (∀ n, n < 64 → cwGet t (ctlAddr clsCen 0 (0x40 + n)) = cwGet s (ctlAddr clsCen 0 n)) ∧
      (∀ e, e < 65 → ∀ j, j < 8 → cwGet t (pcAddr e (0x20 + j)) = cwGet s (pcAddr e j)) ∧
      t = { s with captures := t.captures, cw := t.cw, lanes := t.lanes, decks := t.decks })

/-- A received frame fills the buffers and counts its block, its codewords, its octets (R70, R127, R133, R134, R136,
R251). A frame of an OTN layer that its context monitors in frame stores the overhead it carries and its BIP, counts
one block, errored where the BIP differs, and gives the far-end value to send back; no other word or context changes.
A context that monitors nothing, or is not in frame, takes nothing of it. Codewords of an anchor lane add to its
running totals, ports to their counts; a group member notes its multiframe, sequence and delay. -/
def Obligations.ReceivedFramesAreMonitored : Prop :=
  ∀ (c : CtxId) (cp : Capture) (b : Fin 256 × Fin 256) (r : FecRx) (q : PortRx) (m : MemberRx) (s : State), Safety.tablesOk s = true →
    let id := c.val
    let k := monGet s id
    let layer := monLayer k
    let seen := layer ≠ 0 ∧ ctxInFrame s id = true
    let wrong := ((List.range 8).filter fun i => b.1.val.testBit i != b.2.val.testBit i).length
    let d := sideNum r.lane.side
    let l := r.lane.lane.val
    let fec := fecAddr d l
    let adapt := liveAdapt s q.port.unit.val q.port.port.val
    let kp := portKey q.port.unit.val q.port.port.val
    (seen → 1 ≤ layer → layer ≤ 9 → capturable layer cp = true → cp.field.val ≠ 0x0E → defOn k Df.ssf = false →
      reaches (exec (.frameReceive c { captures := [cp], bip := [b] }) s) fun t =>
        ohWord t id cp.field.val cp.word.val = cp.value ∧ ohWord t id 2 0 = octetWord [b.1.val] ∧
        ohWord t id 2 1 = octetWord [b.2.val] ∧
        (∀ i f w, ohKey i f w ∉ [ohKey id cp.field.val cp.word.val, ohKey id 2 0, ohKey id 2 1] → ohWord t i f w = ohWord s i f w) ∧
        (monGet t id).tb = k.tb + 1 ∧ (monGet t id).ebNe = (if wrong = 0 then k.ebNe else k.ebNe + 1) ∧
        (defOn k Df.iae = false ∨ layer = 3 → (monGet t id).bei = wrong) ∧
        (monGet t id).defs = k.defs ∧ keeps monGet s t [id] ∧ t = { s with oh := t.oh, mons := t.mons }) ∧
    (¬ seen → reaches (exec (.frameReceive c { fec := [r] }) s) fun t =>
      cwGet t (fec 0x10) = satAdd (cwGet s (fec 0x10)) r.cw ∧ cwGet t (fec 0x11) = satAdd (cwGet s (fec 0x11)) r.corr ∧
      cwGet t (fec 0x12) = satAdd (cwGet s (fec 0x12)) r.uncorr ∧ cwGet t (fec 0x13) = satAdd (cwGet s (fec 0x13)) r.sym ∧
      cwKept s t [fec 0x10, fec 0x11, fec 0x12, fec 0x13] ∧ keeps laneGet s t [laneKey d l] ∧
      t = { s with cw := t.cw, lanes := t.lanes }) ∧
    (¬ seen → reaches (exec (.frameReceive c { captures := [cp], bip := [b], member := some m }) s) fun t => t = s) ∧
    (¬ seen → adapt = 5 ∨ adapt = 6 → reaches (exec (.frameReceive c { ports := [q] }) s) fun t =>
      portGet t kp = { portGet s kp with
        cnt0 := cntAdd (cntAdd (portGet s kp).cnt0 35 18 q.idleIns) 17 0 q.idleDel, cnt1 := cntAdd (portGet s kp).cnt1 35 0 q.blkErr } ∧
      keeps portGet s t [kp] ∧ t = { s with ports := t.ports }) ∧
    (seen → 1 ≤ layer → layer ≤ 9 → k.w30.getLsbD 35 = true → reaches (exec (.frameReceive c { member := some m }) s) fun t =>
      (monGet t id).sq = m.sq.val ∧ (monGet t id).delay = m.delay ∧ (monGet t id).mfi = some (m.mfi.val % 16777216) ∧
      ((∀ v, k.mfi = some v → (v + 1) % 16777216 = m.mfi.val % 16777216) →
        (monGet t id).mfGood = min (k.mfGood + 1) 16 ∧ (monGet t id).mfBad = 0) ∧
      keeps monGet s t [id] ∧ t = { s with mons := t.mons })

/-- A filter cell accepts a value after N equal occurrences under its mask (R144). An enabled cell that is not held
compares each occurrence under MASK with the one before; N equal ones in a row make it the accepted value (VALID,
counted, a pair served by the cell takes it) unless that is the accepted value already; a held cell restarts its run;
twelve occurrences without acceptance make it unstable. -/
def Obligations.FilterCellsAcceptAfterNOccurrences : Prop :=
  ∀ (c : ClusterId) (i : Fin 2048) (s : State), Safety.tablesOk s = true →
    let k := cellKey c.val i.val
    let w := cellCfg s k
    let q := cellGet s k
    let id := cellCtx w
    let field := fld w 14 9
    let n := cellN w
    let m := monGet s id
    let held := (∃ d, d ∈ [Df.ssf, Df.los, Df.lof, Df.lom, Df.ais] ∧ defOn m d = true) ∨ ctxInFrame s id = false
    let word := ohWord s id field (fld w 8 3)
    let mask := cwGet s (cellAddr (k / 2048) (k % 2048) 1)
    let x := exec (.filterOccurrence c i) s
    let run := if q.prev.map (fun p => p.map (· &&& mask)) = some [word &&& mask] then min (q.run + 1) n else 1
    let single := w.getLsbD 35 = true ∧ ¬ held ∧ fld w 34 33 = 0
    (w.getLsbD 35 = false → x = .next s) ∧
    (w.getLsbD 35 = true → held → x = .next (cellPut k { q with run := 0 } s)) ∧
    (single → run < n → x = .next (settleDefs (cellPut k { q with run := run, prev := some [word], below := q.below + 1 } s))) ∧
    (single → n ≤ run → q.valid = true → word &&& mask = q.acc &&& mask →
      x = .next (settleDefs (cellPut k { q with run := run, prev := some [word], below := 0, unstable := false } s))) ∧
    (single → n ≤ run → q.valid = false ∨ word &&& mask ≠ q.acc &&& mask →
      ∃ y, x = .next (settleDefs (farAccepted k y)) ∧ cellGet y k = { q with
        run := run, prev := some [word], below := 0, unstable := false, acc := word, valid := true,
        changes := min (q.changes + 1) 0xFFFF, got := q.got + 1 } ∧
        keeps cellGet s y [k] ∧ y = { s with cells := y.cells }) ∧
    (w.getLsbD 35 = true → 12 ≤ q.below → exec (.filterUnstable c i) s = .next (settleDefs (cellPut k { q with unstable := true } s))) ∧
    (w.getLsbD 35 = false ∨ q.below < 12 → exec (.filterUnstable c i) s = .next s)

/-- SYNC inputs, the tick DPLL and the recovered clocks (R494, R496, R498, R499, R501, R505, R506, 15_clocks.md). An edge
off its position is rejected, counted, and breaks the run of accepted edges; an accepted one of the input in use gives
the DPLL its phase and frequency. Three missed positions lose an input, 8,000 accepted edges requalify it, each
recorded and followed by a selection; a slew ends within 20 ns. CLK_SYNC_CTRL is stored, a new phase offset slews; a
recovered-clock output that is enabled takes a synthesiser of its region, is refused without one, and is squelched
while a cause stands. -/
def Obligations.SyncInputsAndRecoveredClocks : Prop :=
  ∀ (x : RefName) (gap : Nat) (phase : Int) (freq : BitVec 20) (n : Fin 2) (w : CtlWrite) (s : State), Safety.tablesOk s = true →
    let i := refNum x
    let c := syncGet s i
    let k := (gap + 62500) / 125000
    let off := ((gap : Int) - k * 125000).natAbs
    let accepted := c.seen = false ∨ (1 ≤ k ∧ off ≤ 2500)
    let d := s.dpll
    let cnt := ctlAddr clsClk 0 2
    let ctrl := ctlAddr clsClk 0 0
    let old := cwGet s ctrl
    let a := recCfgAddr n.val
    let v := w.value &&& 0xFFF800000
    let held := cwGet s a
    let edge := exec (.syncEdge x gap phase freq) s
    (¬ accepted → ∃ y, edge = .next (cenInc 41 y) ∧ syncGet y i = { c with clean := 0 } ∧ keeps syncGet s y [i] ∧
      (let hi := if i = 0 then 35 else 17
       fld (cwGet y cnt) hi (hi - 17) = min (fld (cwGet s cnt) hi (hi - 17) + 1) 0x3FFFF) ∧ cwKept s y [cnt] ∧
      y = { s with sync := y.sync, cw := y.cw }) ∧
    (accepted → d.inUse = i → c.valid = true → rateOut (if c.seen ∧ k = 1 then (gap :: c.periods).take 64 else c.periods) = false →
      old.getLsbD 33 = false → old.getLsbD 34 = false →
      reaches edge fun t => (syncGet t i).seen = true ∧ (syncGet t i).lost = false ∧ (syncGet t i).valid = true ∧
        (syncGet t i).clean = (if c.seen ∧ k = 1 then min (c.clean + 1) 8000 else 1) ∧ keeps syncGet s t [i] ∧
        t.dpll = { d with phase := max (-65536) (min 65535 phase), freq := freq.toNat } ∧
        t = { s with sync := t.sync, dpll := t.dpll }) ∧
    (c.seen = true → c.lost = false → 377500 ≤ gap → exec (.syncLoss x gap) s =
      .next (dpllSelect false (clkEvt 1 i (cenInc 40 (syncPut i { c with lost := true, valid := false, clean := 0 } s))))) ∧
    (c.seen = false ∨ c.lost = true ∨ gap < 377500 → exec (.syncLoss x gap) s = .next s) ∧
    (c.valid = false → 8000 ≤ c.clean → exec (.syncRequalify x) s =
      .next (dpllSelect false (clkEvt 3 i (syncPut i { c with lost := false, rateBad := false, valid := true } s)))) ∧
    (c.valid = true ∨ c.clean < 8000 → exec (.syncRequalify x) s = .next s) ∧
    (d.slewing = true → -20 ≤ d.phase → d.phase ≤ 20 → exec .dpllSlewDone s = .next { s with dpll := { d with slewing := false } }) ∧
    (d.slewing = false ∨ d.phase < -20 ∨ 20 < d.phase → exec .dpllSlewDone s = .next s) ∧
    (fld w.value 32 31 = 3 → exec (.clkSyncCtrl w) s = .next (refuse w.origin 0x02 .word ctrl s)) ∧
    (fld w.value 32 31 ≠ 3 → applies w.origin .word ctrl s (exec (.clkSyncCtrl w) s) fun t => cwGet t ctrl = (w.value &&& 0xFFFFF0000) ∧
      keeps syncGet s t [] ∧
      (fld old 35 35 = fld w.value 35 35 → old.getLsbD 33 = w.value.getLsbD 33 → old.getLsbD 34 = w.value.getLsbD 34 →
        fld old 30 19 ≠ fld w.value 30 19 → d.inUse < 2 → dpllChoice s false = d.inUse →
        t.dpll = { d with slewing := true } ∧ cwKept s t [ctrl] ∧ t = { s with cw := t.cw, dpll := t.dpll })) ∧
    (held.getLsbD 35 = true → putFld v 35 35 1 ≠ held → exec (.recClkCfg n w) s = .next (refuse w.origin 0x08 .word a s)) ∧
    (held.getLsbD 35 = false → 4 < fld v 26 24 → exec (.recClkCfg n w) s = .next (refuse w.origin 0x02 .word a s)) ∧
    (held.getLsbD 35 = false → fld v 26 24 ≤ 4 → v.getLsbD 35 = false →
      applies w.origin .word a s (exec (.recClkCfg n w) s) fun t => cwGet t a = v ∧ cwKept s t [a] ∧ t = { s with cw := t.cw }) ∧
    (let r := fld v 32 27 / 16
     held.getLsbD 35 = false → fld v 26 24 ≤ 4 → v.getLsbD 35 = true →
      (flexGet s r 0 ≠ .free → flexGet s r 1 ≠ .free → exec (.recClkCfg n w) s = .next (refuse w.origin 0x06 .word a s)) ∧
      (flexGet s r 0 = .free → applies w.origin .word a s (exec (.recClkCfg n w) s) fun t => cwGet t a = v ∧ cwKept s t [a] ∧
        flexGet t r 0 = .recClk n.val ∧ recGet t n.val = { on := true } ∧ keeps recGet s t [n.val] ∧
        t = { s with cw := t.cw, flex := t.flex, recClk := t.recClk })) ∧
    (recCause s n.val = true → exec (.recClkSquelch n) s = .next (recPut n.val { recGet s n.val with squelched := true } s)) ∧
    (recCause s n.val = false → exec (.recClkSquelch n) s = .next s ∧
      exec (.recClkResume n) s = .next (recPut n.val { recGet s n.val with squelched := false } s)) ∧
    (recCause s n.val = true → exec (.recClkResume n) s = .next s)

/-- Orderwire samples pass the slip buffers, and slips restore them to 16 (R509, R510, R511, R513, R514, R517, R518). An
octet of the line enters the receive buffer, a sample of the card the transmit buffer; each outgoing sample is the
oldest of its buffer, or silence where the direction is muted or its line is gone; a routed F1 is written in its
buffer word; a port that does not run inserts silence (FFh or D5h). A fill of 8 or less is restored to 16 by repeats,
of 24 or more by discards, each counted; an emptied or full buffer counts in FORCED too, with an AUD_EVT of event 4h.
A write to word 3 clears the counts. -/
def Obligations.OrderwireSamplesMove : Prop :=
  ∀ (c : Fin 8) (o : Fin 256) (v a : Fin 65536) (l : List (Fin 65536)) (hz : Fin 16384) (s : State), Safety.tablesOk s = true →
    let n := c.val
    let p := n / 2
    let k := chanGet s n
    let w := owCfg s n
    let run := audRuns s p = true ∧ w.getLsbD 35 = true
    let due := fun (e : Nat) =>
      ({ q := fld (cwGet s (audCfgAddr p)) 25 23, ty := 0x21, ws := [mkWord [(34, p), (33, n % 2), (29, e)], s.tick] } : Due)
    let forced := fun (t : State) =>
      fld (cwGet t (slipAddr n 3)) 35 18 = min (fld (cwGet s (slipAddr n 3)) 35 18 + 1) 0x3FFFF ∧
      t = { s with audio := t.audio, cw := t.cw, due := if due 4 ∈ s.due then s.due else s.due ++ [due 4] }
    (run → k.rx.length < 32 → exec (.audSample c (.lineRx o)) s = .next (chanPut n { k with rx := k.rx ++ [expandOctet s n o.val] } s)) ∧
    (run → k.tx.length < 32 → exec (.audSample c (.cardRx v)) s = .next (chanPut n { k with tx := k.tx ++ [v] } s)) ∧
    (¬ run → exec (.audSample c (.lineRx o)) s = .next s ∧ exec (.audSample c (.cardRx v)) s = .next s ∧
      exec (.audSample c .cardTx) s = .next s) ∧
    (w.getLsbD 35 = false → exec (.audSample c .lineTx) s = .next s) ∧
    (run → k.rx = a :: l → fld k.rxCfg 8 3 = 0 →
      let x := if k.rxCfg.getLsbD 15 = true ∨ k.rxHeld = true ∨ lineGone s k.rxCfg = true then silence s n else a
      reaches (exec (.audSample c .cardTx) s) fun t => chanGet t n = { k with rx := l, rxLast := a, rxOut := linearOf s n x } ∧
        keeps chanGet s t [n] ∧ t = { s with audio := t.audio, out := .audio p (n % 2) x :: s.out }) ∧
    (run → k.tx = a :: l → fld k.txCfg 14 9 = 0 → fld k.txCfg 34 33 ≠ 2 →
      let x := if k.txCfg.getLsbD 16 = true ∨ k.txHeld = true then silence s n else a
      reaches (exec (.audSample c .lineTx) s) fun t => chanGet t n = { k with tx := l, txLast := a, txOut := linearOf s n x } ∧
        keeps chanGet s t [n] ∧
        t = { s with audio := t.audio, out := .orderwire (fld k.txCfg 32 19) (fld k.txCfg 34 33) (compressSample s n x) :: s.out }) ∧
    (w.getLsbD 35 = true → audRuns s p = false → fld k.txCfg 34 33 = 2 →
      let id := fld k.txCfg 32 19
      reaches (exec (.audSample c .lineTx) s) fun t => fld (ohWord t id 0x12 1) 16 9 = (if w.getLsbD 18 then 0xD5 else 0xFF) ∧
        (∀ i f x, ohKey i f x ≠ ohKey id 0x12 1 → ohWord t i f x = ohWord s i f x) ∧
        t = { s with oh := t.oh, out := .orderwire id 2 (if w.getLsbD 18 then 0xD5 else 0xFF) :: s.out }) ∧
    (audRuns s p = true → exec (.audSample c (.portFrame hz)) s =
      .next (audioPut p { audioGet s p with good := min ((audioGet s p).good + 1) 8, fsHz := hz.val } s)) ∧
    (audRuns s p = true → k.rx.length ≤ 8 → reaches (exec (.audSlip c false) s) fun t =>
      chanGet t n = { k with rx := List.replicate (16 - k.rx.length) k.rxLast ++ k.rx } ∧ keeps chanGet s t [n] ∧
      fld (cwGet t (slipAddr n 1)) 35 18 = min (fld (cwGet s (slipAddr n 1)) 35 18 + 1) 0x3FFFF ∧
      fld (cwGet t (slipAddr n 1)) 17 0 = fld (cwGet s (slipAddr n 1)) 17 0 ∧ cwKept s t [slipAddr n 1] ∧
      t = { s with audio := t.audio, cw := t.cw }) ∧
    (audRuns s p = true → 24 ≤ k.tx.length → reaches (exec (.audSlip c true) s) fun t =>
      chanGet t n = { k with tx := k.tx.drop (k.tx.length - 16) } ∧ keeps chanGet s t [n] ∧
      fld (cwGet t (slipAddr n 2)) 17 0 = min (fld (cwGet s (slipAddr n 2)) 17 0 + 1) 0x3FFFF ∧
      fld (cwGet t (slipAddr n 2)) 35 18 = fld (cwGet s (slipAddr n 2)) 35 18 ∧ cwKept s t [slipAddr n 2] ∧
      t = { s with audio := t.audio, cw := t.cw }) ∧
    (audRuns s p = true → 8 < k.rx.length → k.rx.length < 24 → exec (.audSlip c false) s = .next s) ∧
    (audRuns s p = true → k.tx = [] → reaches (exec (.audForcedSlip c true) s) fun t =>
      chanGet t n = { k with tx := List.replicate 16 k.txLast } ∧ keeps chanGet s t [n] ∧
      fld (cwGet t (slipAddr n 2)) 35 18 = min (fld (cwGet s (slipAddr n 2)) 35 18 + 1) 0x3FFFF ∧
      cwKept s t [slipAddr n 2, slipAddr n 3] ∧ forced t) ∧
    (audRuns s p = true → 32 ≤ k.rx.length → reaches (exec (.audForcedSlip c false) s) fun t =>
      chanGet t n = { k with rx := k.rx.drop (k.rx.length - 16) } ∧ keeps chanGet s t [n] ∧
      fld (cwGet t (slipAddr n 1)) 17 0 = min (fld (cwGet s (slipAddr n 1)) 17 0 + 1) 0x3FFFF ∧
      cwKept s t [slipAddr n 1, slipAddr n 3] ∧ forced t) ∧
    (reaches (exec (.audCntClear c) s) fun t => (∀ j, 1 ≤ j → j ≤ 3 → cwGet t (slipAddr n j) = 0) ∧
      cwKept s t [slipAddr n 1, slipAddr n 2, slipAddr n 3] ∧ t = { s with cw := t.cw })

/-- Orderwire set-ups are judged, wait for zero crossings, and ports freeze and resume (R508, R512, R515, R516, R518,
15_clocks_audio.md Tables 15-9 and 15-10). AUD_CFG refuses a timeout above 16, and a changed format while enabled; a
port enabled starts both channels with 16 samples of silence, one disabled loses them. OW_CFG refuses a gain on
companded octets, a context of another layer or mode, and a byte already routed; a channel enabled starts, a later
change waits in each direction that differs. A waiting change lands at a zero crossing, or at the timeout with event
5h. A freeze empties the buffers and counts; the first consistent frame resumes muted with 16 samples of silence, and
eight lift the mute, each recorded. -/
def Obligations.OrderwireSetUpsAndPorts : Prop :=
  ∀ (c : Fin 8) (p : Fin 4) (tx : Bool) (hz : Fin 16384) (w : CtlWrite) (s : State), Safety.tablesOk s = true →
    let n := c.val
    let k := chanGet s n
    let a := audCfgAddr p.val
    let av := w.value &&& 0xFFF800000
    let old := cwGet s a
    let port := audioGet s p.val
    let v := w.value &&& 0xFFFFFFFF8
    let o := owCfgAddr n
    let m := monGet s (fld v 32 19)
    let gain := v.getLsbD 17 = false ∧ (fld v 14 9 ≠ 0 ∨ fld v 8 3 ≠ 0)
    let routed := terminates m = true ∧ monLayer m = if fld v 34 33 = 1 then 0xB else 0xA
    let taken := ∃ x, x < 8 ∧ x ≠ n ∧ (owCfg s x).getLsbD 35 = true ∧ fld (owCfg s x) 34 19 = fld v 34 19
    let fresh := fun (t : State) (x : Nat) =>
      ({ rxCfg := owCfg t x, txCfg := owCfg t x, rx := List.replicate 16 (silence t x), tx := List.replicate 16 (silence t x),
         rxLast := silence t x, txLast := silence t x } : Chan)
    let evt := fun (q slot e : Nat) =>
      ({ q := fld (cwGet s (audCfgAddr q)) 25 23, ty := 0x21, ws := [mkWord [(34, q), (33, slot), (29, e)], s.tick] } : Due)
    let dueNow := fun (q slot e : Nat) => if evt q slot e ∈ s.due then s.due else s.due ++ [evt q slot e]
    let waits := if tx then k.txPend else k.rxPend
    let landed := if tx then { k with txCfg := owCfg s n, txPend := false } else { k with rxCfg := owCfg s n, rxPend := false }
    (16 < fld av 30 26 → exec (.audCfg p w) s = .next (refuse w.origin 0x05 .word a s)) ∧
    (fld av 30 26 ≤ 16 → old.getLsbD 35 = true → av.getLsbD 35 = true → fld old 34 31 ≠ fld av 34 31 →
      exec (.audCfg p w) s = .next (refuse w.origin 0x08 .word a s)) ∧
    (fld av 30 26 ≤ 16 → old.getLsbD 35 = false → av.getLsbD 35 = true → fld av 34 33 ≠ 3 → p.val ≠ 3 →
      applies w.origin .word a s (exec (.audCfg p w) s) fun t => cwGet t a = av ∧ cwKept s t [a] ∧ keeps audioGet s t [p.val] ∧
        (audioGet t p.val).frozen = false ∧ chanGet t (2 * p.val) = fresh t (2 * p.val) ∧
        chanGet t (2 * p.val + 1) = fresh t (2 * p.val + 1) ∧ t = { s with cw := t.cw, audio := t.audio }) ∧
    (fld av 30 26 ≤ 16 → old.getLsbD 35 = true → av.getLsbD 35 = false → fld av 34 33 ≠ 3 →
      applies w.origin .word a s (exec (.audCfg p w) s) fun t => cwGet t a = av ∧ cwKept s t [a] ∧ audioGet t p.val = {} ∧
        keeps audioGet s t [p.val] ∧ t = { s with cw := t.cw, audio := t.audio }) ∧
    (gain → exec (.owCfg c w) s = .next (refuse w.origin 0x05 .word o s)) ∧
    (¬ gain → v.getLsbD 35 = true → fld v 34 33 ≠ 3 → ¬ routed → exec (.owCfg c w) s = .next (refuse w.origin 0x30 .word o s)) ∧
    (¬ gain → v.getLsbD 35 = true → fld v 34 33 ≠ 3 → routed → taken → exec (.owCfg c w) s = .next (refuse w.origin 0x32 .word o s)) ∧
    (¬ gain → v.getLsbD 35 = true → fld v 34 33 ≠ 3 → routed → ¬ taken → portAudOn s (n / 2) = true →
      applies w.origin .word o s (exec (.owCfg c w) s) fun t => cwGet t o = v ∧ cwKept s t [o] ∧ keeps chanGet s t [n] ∧
        t = { s with cw := t.cw, audio := t.audio } ∧
        chanGet t n = if (cwGet s o).getLsbD 35 then { k with
          txPend := decide ((fld v 34 19, fld v 16 16, fld v 14 9) ≠ (fld k.txCfg 34 19, fld k.txCfg 16 16, fld k.txCfg 14 9)),
          rxPend := decide ((fld v 34 19, fld v 15 15, fld v 8 3) ≠ (fld k.rxCfg 34 19, fld k.rxCfg 15 15, fld k.rxCfg 8 3)) }
          else fresh t n) ∧
    (waits = true → crossing s n tx = true → exec (.audChangeLand c tx) s = .next (chanPut n landed s)) ∧
    (waits = false ∨ crossing s n tx = false → exec (.audChangeLand c tx) s = .next s) ∧
    (waits = true → exec (.audChangeTimeout c tx) s =
      .next { chanPut n landed s with due := dueNow (n / 2) (n % 2) 5 }) ∧
    (waits = false → exec (.audChangeTimeout c tx) s = .next s) ∧
    (portAudOn s p.val = true → port.frozen = false → reaches (exec (.audPortFreeze p) s) fun t =>
      audioGet t p.val = { port with
        frozen := true, good := 0, left := { port.left with rx := [], tx := [] }, right := { port.right with rx := [], tx := [] } } ∧
      keeps audioGet s t [p.val] ∧ cwGet t (ctlAddr 0x0D p.val 2) = satAdd (cwGet s (ctlAddr 0x0D p.val 2)) 1 ∧
      cwKept s t [ctlAddr 0x0D p.val 2] ∧ t = { s with audio := t.audio, cw := t.cw, due := dueNow p.val 0 1 }) ∧
    (portAudOn s p.val = true → port.frozen = true → reaches (exec (.audPortResume p hz) s) fun t =>
      (audioGet t p.val).frozen = false ∧ (audioGet t p.val).good = 1 ∧ (audioGet t p.val).fsHz = hz.val ∧
      (∀ x, x = 2 * p.val ∨ x = 2 * p.val + 1 → chanGet t x = { chanGet s x with
        rx := List.replicate 16 (silence s x), tx := List.replicate 16 (silence s x), rxLast := silence s x, txLast := silence s x,
        rxHeld := true, txHeld := true }) ∧
      keeps audioGet s t [p.val] ∧ t = { s with audio := t.audio, due := dueNow p.val 0 2 }) ∧
    (portAudOn s p.val = true → port.frozen = false → exec (.audPortResume p hz) s = .next s) ∧
    (audRuns s p.val = true → 8 ≤ port.good → port.left.rxHeld = true → exec (.audMuteLift p) s =
      .next { audioPut p.val { port with
        left := { port.left with rxHeld := false, txHeld := false }, right := { port.right with rxHeld := false, txHeld := false } } s with
        due := dueNow p.val 0 3 }) ∧
    (port.good < 8 → exec (.audMuteLift p) s = .next s)

/-- The link locks, pairs, renews its keys and leaves (R414). Lock brings KEY and a HELLO; the paired mate of the other
seat brings UP with keys of an epoch above both, SEQ at 0 and the whole buffer granted, recorded (a holder will
sweep); any other HELLO is recorded with its reason, the same seat as a clash. Loss of lock returns to LOCK with
nothing outstanding, recorded from UP. SEQ at 2^47 renews the keys in UP; HOLD ends in LOCK, or DOWN where the link
may not run; a time-out sends every outstanding frame again. -/
def Obligations.TheLinkPairsAndLeaves : Prop :=
  ∀ (seat : Fin 2) (epoch : Nat) (s : State), Safety.tablesOk s = true →
    let k := s.link
    let m := cwGet s (ctlAddr 0x0F 0 0)
    let rec_ := fun (ctrl : Word) (e d x : Nat) =>
      ({ q := fld ctrl 17 15, ty := 0x1B, ws := [mkWord [(31, e), (27, d), (22, x)], s.tick] } : Due)
    let left := { k with sent := [], again := [], nak := false, part := 0, cr := 0, grant := 0 }
    let again := max k.epoch epoch + 1
    (k.st = .lock → exec .polfenLock s =
      .next { s with link := { k with st := .key }, out := .hello s.straps.seat.val k.epoch :: s.out }) ∧
    (k.st ≠ .lock → exec .polfenLock s = .next s) ∧
    (k.st = .up → reaches (exec .polfenLockLoss s) fun t => t.link = { left with st := .lock } ∧
      t.rdn = { s.rdn with sweepRx := none, sweepTx := none } ∧ t.due = s.due ++ [rec_ m 2 0 0] ∧ t.intPend.testBit 24 = true ∧
      cwKept s t [ctlAddr clsCen 0 46] ∧
      t = { s with link := t.link, rdn := t.rdn, due := t.due, intPend := t.intPend, msixPba := t.msixPba, out := t.out, cw := t.cw }) ∧
    (k.st = .key → reaches (exec .polfenLockLoss s) fun t => t.link = { left with st := .lock } ∧
      t.rdn = { s.rdn with sweepRx := none, sweepTx := none } ∧ cwKept s t [ctlAddr clsCen 0 46] ∧
      t = { s with link := t.link, rdn := t.rdn, cw := t.cw }) ∧
    (k.st ≠ .key → k.st ≠ .up → exec .polfenLockLoss s = .next s) ∧
    (k.st = .key → s.sec.unlocked = false → seat ≠ s.straps.seat → reaches (exec (.polfenHello seat true epoch) s) fun t =>
      t.link = { k with
        st := .up, clash := false, epoch := again, txSeq := 0, rxSeq := 0, sent := [], again := [], nak := false,
        cr := 32768 - mateFill k, grant := 32768, part := 0 } ∧
      t.rdn = (if s.ilk = .holding then { s.rdn with want := 1 } else s.rdn) ∧ t.due = s.due ++ [rec_ m 1 0 0] ∧
      t.intPend.testBit 24 = true ∧
      t = { s with link := t.link, rdn := t.rdn, due := t.due, intPend := t.intPend, msixPba := t.msixPba, out := t.out }) ∧
    (k.st = .key → exec (.polfenHello seat false epoch) s = .next { s with due := s.due ++ [rec_ m 2 2 0] }) ∧
    (k.st = .key → s.sec.unlocked = true → exec (.polfenHello seat true epoch) s = .next { s with due := s.due ++ [rec_ m 2 2 0] }) ∧
    (k.st = .key → s.sec.unlocked = false → exec (.polfenHello s.straps.seat true epoch) s =
      .next { s with link := { k with clash := true }, due := s.due ++ [rec_ m 2 3 0] }) ∧
    (k.st ≠ .key → exec (.polfenHello seat true epoch) s = .next s) ∧
    (k.st = .up → 2 ^ 47 ≤ k.txSeq → exec (.polfenRekey epoch) s = .next { s with
      link := { k with epoch := again, txSeq := 0, rxSeq := 0, sent := [], again := [], nak := false },
      out := .hello s.straps.seat.val k.epoch :: s.out }) ∧
    (k.txSeq < 2 ^ 47 → exec (.polfenRekey epoch) s = .next s) ∧
    (k.st = .hold → exec .polfenHoldExpire s = .next { s with
      link := { k with st := if m.getLsbD 35 = true ∧ k.halted = false ∧ domRuns s 49 = true then .lock else .down } }) ∧
    (k.st ≠ .hold → exec .polfenHoldExpire s = .next s) ∧
    (k.st = .up → exec .polfenRetxTimeout s = .next (if k.sent = [] then s else { s with link := { k with again := k.sent } }))

/-- Link frames are sent once each in order, and taken in sequence (R405, R407, R408, R409, R410, R413, R415). UP, a frame
with a wrong CRC asks for a repeat and counts, a wrong tag tears the link down (HOLD, TEARDOWN sent, recorded; eight
within a second halt it), one out of sequence is dropped, TEARDOWN brings HOLD; a frame in sequence acknowledges,
grants and, with the last of a message, completes it; starter data to a holder is discarded and counted. A
transmission sends a frame due again first, nothing new while 256 are outstanding, then the message under way or the
oldest of the best rank, 28 lines a frame, else IDLE, each with the next SEQ. -/
def Obligations.LinkFramesAreSentAndTaken : Prop :=
  ∀ (f : PFrame) (s : State), Safety.tablesOk s = true →
    let k := s.link
    let m := cwGet s (ctlAddr 0x0F 0 0)
    let rec_ := fun (ctrl : Word) (e d x : Nat) =>
      ({ q := fld ctrl 17 15, ty := 0x1B, ws := [mkWord [(31, e), (27, d), (22, x)], s.tick] } : Due)
    let left := { k with sent := [], again := [], nak := false, part := 0, cr := 0, grant := 0 }
    let rx := fun (crc tag : Bool) => exec (.polfenFrameRx f crc tag) s
    let starter := s.ilk = .holding ∧ (f.ty = 3 ∨ f.ty = 4 ∨ f.ty = 5)
    let acked := afterAck f.ack k.sent
    let room := 32768 - mateFill k
    let own := fun (ty len : Nat) (first last : Bool) (msg : Option MateMsg) =>
      ({ ty := ty, seq := k.txSeq, ack := (k.rxSeq + 65535) % 65536, nak := k.nak, first := first, last := last, len := len,
         crg := min 255 (k.grant / 64), msg := msg } : PFrame)
    let sent := fun (g : PFrame) => { k with
      txSeq := k.txSeq + 1, sent := k.sent ++ [g], nak := false, grant := k.grant - 64 * g.crg }
    (k.st ≠ .up → (∀ crc tag, rx crc tag = .next s) ∧ exec .polfenFrameTx s = .next s) ∧
    (k.st = .up → (∀ tag, rx false tag = .next (cwCountFld (ctlAddr 0x0F 0 7) 17 0 1 { s with link := { k with nak := true } })) ∧
      (f.ty ≤ 8 → reaches (rx true false) fun t => t.link = { left with st := .hold, drops := t.link.drops, halted := t.link.halted } ∧
        (t.link.halted = true ↔ k.halted = true ∨ 8 ≤ t.link.drops.length) ∧
        t.link.drops = tickCount s :: k.drops.filter (fun x => decide (tickCount s < x + 8000)) ∧
        t.due = s.due ++ [rec_ m 2 1 0] ∧ t.out.head? = some .teardown ∧
        fld (cwGet t (ctlAddr 0x0F 0 8)) 35 18 = min (fld (cwGet s (ctlAddr 0x0F 0 8)) 35 18 + 1) 0x3FFFF ∧
        cwKept s t [ctlAddr 0x0F 0 8, ctlAddr clsCen 0 45] ∧ t.pending = s.pending ∧ t.ilk = s.ilk ∧ t.mode = s.mode) ∧
      (f.ty ≤ 8 → f.seq ≠ k.rxSeq → rx true true = .next s) ∧
      (f.ty = 8 → f.seq = k.rxSeq → reaches (rx true true) fun t => t.link = { left with st := .hold } ∧
        t.due = s.due ++ [rec_ m 2 1 0] ∧ t.intPend.testBit 24 = true) ∧
      (f.ty < 8 → f.seq = k.rxSeq → ¬ starter → rx true true = .next { s with link := { k with
        rxSeq := k.rxSeq + 1, sent := acked, again := if f.nak then acked else k.again, cr := min (k.cr + 64 * f.crg) room,
        clipped := k.clipped || decide (room < k.cr + 64 * f.crg),
        inbox := k.inbox ++ if f.last then f.msg.toList else [] } }) ∧
      (f.seq = k.rxSeq → starter → reaches (rx true true) fun t => t.link = { k with
        rxSeq := k.rxSeq + 1, sent := acked, again := if f.nak then acked else k.again, cr := min (k.cr + 64 * f.crg) room,
        clipped := k.clipped || decide (room < k.cr + 64 * f.crg), discarded := true, grant := k.grant + f.len } ∧
        fld (cwGet t (ctlAddr 0x0F 0 8)) 17 0 = min (fld (cwGet s (ctlAddr 0x0F 0 8)) 17 0 + 1) 0x3FFFF ∧
        cwKept s t [ctlAddr 0x0F 0 8] ∧ t = { s with link := t.link, cw := t.cw }) ∧
      (∀ g rest, k.again = g :: rest → reaches (exec .polfenFrameTx s) fun t => t.link = { k with again := rest, nak := false } ∧
        t.out = .frame g :: s.out ∧
        fld (cwGet t (ctlAddr 0x0F 0 7)) 35 18 = min (fld (cwGet s (ctlAddr 0x0F 0 7)) 35 18 + 1) 0x3FFFF ∧
        cwKept s t [ctlAddr 0x0F 0 7, ctlAddr clsCen 0 44] ∧ t = { s with link := t.link, out := t.out, cw := t.cw }) ∧
      (k.again = [] → 256 ≤ k.sent.length → exec .polfenFrameTx s = .next s) ∧
      (k.again = [] → k.sent.length < 256 → k.part = 0 → k.queue = [] →
        let g := own 0 0 true true none
        exec .polfenFrameTx s = .next { s with link := sent g, out := .frame g :: s.out }) ∧
      (k.again = [] → k.sent.length < 256 → k.part = 0 → k.queue ≠ [] → reaches (exec .polfenFrameTx s) fun t =>
        ∃ x rest, (x :: rest).Perm k.queue ∧ (∀ y, y ∈ rest → msgRank x ≤ msgRank y) ∧
          (k.queue.filter fun y => msgRank y == msgRank x).head? = some x ∧
          let done := decide (msgLines x ≤ 28)
          let g := own (msgType x) (min 28 (msgLines x)) true done (if done then some x else none)
          t.link = { sent g with queue := if done then rest else x :: rest, part := if done then 0 else 28, high := t.link.high } ∧
          t = { s with link := t.link, out := .frame g :: s.out }) ∧
      (∀ x rest, k.again = [] → k.sent.length < 256 → k.part ≠ 0 → k.queue = x :: rest → reaches (exec .polfenFrameTx s) fun t =>
        let last := decide (msgLines x - k.part ≤ 28)
        let g := own (msgType x) (min 28 (msgLines x - k.part)) false last (if last then some x else none)
        t.link = { sent g with queue := if last then rest else x :: rest, part := if last then 0 else k.part + 28, high := t.link.high } ∧
        t = { s with link := t.link, out := .frame g :: s.out }))

/-- Messages of the mate bring its status and its starter (R397, R403, R404, R416, R417, R574). A status message is the
mate's health word; a tier-1 message of the next tick is applied to the current starter, and to the part of a sweep
delivered so far; one out of sequence asks for a resynchronisation, once; a tier-2 message is applied to a starter not
older than it; a request makes a holder sweep; a sweep fills the spare bank, and its last message makes it the current
starter, recorded. Each message taken grants its lines again and changes nothing else. -/
def Obligations.MateMessagesBringTheStarter : Prop :=
  ∀ (h : BitVec 72) (tk wr : Word) (es : List (Nat × Word)) (l : Option Loaf) (ls : List (BitVec 288)) (r : List MateMsg) (s : State),
    Safety.tablesOk s = true →
    let k := s.link
    let n := s.rdn
    let m := cwGet s (ctlAddr 0x0F 0 0)
    let rec_ := fun (ctrl : Word) (e d x : Nat) =>
      ({ q := fld ctrl 17 15, ty := 0x1B, ws := [mkWord [(31, e), (27, d), (22, x)], s.tick] } : Due)
    let took := fun (x : MateMsg) => { k with inbox := r, grant := k.grant + msgLines x }
    let bank := { es.foldl applyEntry s.bank with tick := tk, wrap := wr }
    (k.inbox = [] → exec .statusMsgRx s = .next s ∧ exec .tier1MsgRx s = .next s ∧ exec .tier2MsgRx s = .next s ∧
      exec .resyncReqRx s = .next s ∧ exec .sweepMsgRx s = .next s ∧ exec .sweepComplete s = .next s ∧ exec .mateMsgRx s = .next s) ∧
    (k.inbox = .status h :: r → exec .statusMsgRx s =
      .next { s with link := took (.status h), rdn := { n with mate := h } }) ∧
    (k.inbox = .msg ls :: r → exec .mateMsgRx s = .next { s with link := took (.msg ls) }) ∧
    (k.inbox = .tier1 tk wr es :: r → s.bank.valid = true → tk = s.bank.tick + 1 → n.sweepRx = none →
      exec .tier1MsgRx s = .next { s with link := took (.tier1 tk wr es), bank := bank }) ∧
    (∀ sp, k.inbox = .tier1 tk wr es :: r → s.bank.valid = true → tk = s.bank.tick + 1 → n.sweepRx = some sp → tk = sp.tick + 1 →
      exec .tier1MsgRx s = .next { s with link := took (.tier1 tk wr es), bank := bank, rdn := { n with
        sweepRx := some { (es.filter fun e => decide (e.1 < n.swept)).foldl applyEntry sp with tick := tk, wrap := wr } } }) ∧
    (k.inbox = .tier1 tk wr es :: r → s.bank.valid = false ∨ tk ≠ s.bank.tick + 1 → n.sweepRx = none → n.want ≠ 0 →
      exec .tier1MsgRx s = .next { s with link := took (.tier1 tk wr es) }) ∧
    (k.inbox = .tier1 tk wr es :: r → s.bank.valid = false ∨ tk ≠ s.bank.tick + 1 → n.sweepRx = none → n.want = 0 →
      k.st = .up → s.ilk ≠ .holding → 1 ≤ k.cr → reaches (exec .tier1MsgRx s) fun t =>
        t.link = { took (.tier1 tk wr es) with queue := k.queue ++ [.resyncReq], cr := k.cr - 1, high := t.link.high } ∧
        t = { s with link := t.link, rdn := { n with want := 2 } }) ∧
    (k.inbox = .tier2 tk wr es :: r → exec .tier2MsgRx s = .next { s with
      link := took (.tier2 tk wr es),
      bank := if s.bank.valid && decide (ticksOf tk wr ≤ ticksOf s.bank.tick s.bank.wrap) then es.foldl applyEntry s.bank
        else s.bank }) ∧
    (k.inbox = .resyncReq :: r → s.ilk = .holding → exec .resyncReqRx s =
      .next { s with link := took .resyncReq, rdn := { n with want := if n.want = 0 then 2 else n.want } }) ∧
    (k.inbox = .resyncReq :: r → s.ilk ≠ .holding → exec .resyncReqRx s = .next { s with link := took .resyncReq }) ∧
    (k.inbox = .resyncStart tk :: r → exec .sweepStart s = .next { s with
      link := took (.resyncStart tk), due := s.due ++ [rec_ m 3 n.want 0],
      rdn := { n with sweepRx := some { tick := tk, wrap := s.wrap }, swept := 0, want := 0 } }) ∧
    (k.inbox = [] → s.ilk = .holding → s.mode = .active → k.st = .up → n.want ≠ 0 → 1 ≤ k.cr → reaches (exec .sweepStart s) fun t =>
      t.link = { k with queue := k.queue ++ [.resyncStart s.bank.tick], cr := k.cr - 1, high := t.link.high } ∧
      t = { s with link := t.link, due := s.due ++ [rec_ m 3 n.want 0], rdn := { n with sweepTx := some 0, want := 0 } }) ∧
    (k.inbox = [] → n.want = 0 → exec .sweepStart s = .next s) ∧
    (∀ sp, k.inbox = .sweep false l es :: r → n.sweepRx = some sp →
      let st := es.foldl applyEntry sp
      exec .sweepMsgRx s = .next { s with link := took (.sweep false l es), rdn := { n with
        sweepRx := some { st with loaf := if l.isSome then l else st.loaf },
        swept := es.foldl (fun b e => max b (e.1 + 1)) n.swept } }) ∧
    (k.inbox = .sweep false l es :: r → n.sweepRx = none → exec .sweepMsgRx s = .next { s with link := took (.sweep false l es) }) ∧
    (∀ sp, k.inbox = .sweep true l es :: r → n.sweepRx = some sp →
      let st := es.foldl applyEntry sp
      exec .sweepComplete s = .next { s with
        link := took (.sweep true l es), bank := { st with loaf := if l.isSome then l else st.loaf, valid := true },
        rdn := { n with sweepRx := none, swept := 0, want := 0 }, due := s.due ++ [rec_ m 4 0 0] })

/-- MATE_CTRL enables, restarts, resynchronises and confirms; a flush discards what waits (R396, R413, R416, R425, R430,
R431, R432). MATE_CTRL refuses MAX_AGE above 4,093 and keeps its stored bits; taking LINK_EN leaves the link with a
record, giving it seeks lock; RESTART ends the halt after eight tear-downs; RESYNC makes a holder sweep and another
package ask for a sweep; CONFIRM ends PROVISIONAL, recorded; a write to the counts clears them; a flush of the mate
queue keeps the message being sent only, and a holder resynchronises. -/
def Obligations.MateControlAndQueue : Prop :=
  ∀ (o : Origin) (w : CtlWrite) (s : State), Safety.tablesOk s = true →
    let k := s.link
    let n := s.rdn
    let a := ctlAddr 0x0F 0 0
    let m := cwGet s a
    let rec_ := fun (ctrl : Word) (e d x : Nat) =>
      ({ q := fld ctrl 17 15, ty := 0x1B, ws := [mkWord [(31, e), (27, d), (22, x)], s.tick] } : Due)
    let v := w.value
    let kept := v &&& 0x97FFF8000
    let calm := v.getLsbD 34 = false ∧ v.getLsbD 33 = false ∧ v.getLsbD 31 = false
    let age := fld v 29 18 < 4094
    (4094 ≤ fld v 29 18 → ∀ c, c ∈ [Instr.mateLinkEn w, .mateRestart w, .mateResync w, .mateYield w, .mateConfirm w] →
      exec c s = .next (refuse w.origin 0x05 .word a s)) ∧
    (age → calm → m.getLsbD 35 = v.getLsbD 35 → k.st ≠ .down → ∀ c, c ∈ [Instr.mateLinkEn w, .mateYield w] →
      applies w.origin .word a s (exec c s) fun t => cwGet t a = kept ∧ cwKept s t [a] ∧ t = { s with cw := t.cw }) ∧
    (age → calm → m.getLsbD 35 = true → v.getLsbD 35 = false → k.st = .up →
      applies w.origin .word a s (exec (.mateLinkEn w) s) fun t => cwGet t a = kept ∧ cwKept s t [a] ∧
        t.link = { k with st := .down, sent := [], again := [], nak := false, part := 0, cr := 0, grant := 0 } ∧
        t.due = s.due ++ [rec_ kept 2 4 0] ∧ t.intPend.testBit 24 = true) ∧
    (age → calm → m.getLsbD 35 = false → v.getLsbD 35 = true → k.st = .down → k.halted = false → domRuns s 49 = true →
      applies w.origin .word a s (exec (.mateLinkEn w) s) fun t => cwGet t a = kept ∧ cwKept s t [a] ∧
        t = { s with cw := t.cw, link := { k with st := .lock } }) ∧
    (age → v.getLsbD 33 = false → v.getLsbD 31 = false → m.getLsbD 35 = true → v.getLsbD 35 = true → k.st = .down → k.halted = true →
      domRuns s 49 = true → applies w.origin .word a s (exec (.mateRestart w) s) fun t => cwGet t a = kept ∧ cwKept s t [a] ∧
        t = { s with cw := t.cw, link := { k with st := .lock, halted := false, drops := [] } }) ∧
    (age → v.getLsbD 34 = false → v.getLsbD 31 = false → m.getLsbD 35 = true → v.getLsbD 35 = true → k.st = .up →
      (s.ilk = .holding → applies w.origin .word a s (exec (.mateResync w) s) fun t => cwGet t a = kept ∧ cwKept s t [a] ∧
        t = { s with cw := t.cw, rdn := { n with want := 6 } }) ∧
      (s.ilk ≠ .holding → 1 ≤ k.cr → applies w.origin .word a s (exec (.mateResync w) s) fun t => cwGet t a = kept ∧
        cwKept s t [a] ∧ t.link = { k with queue := k.queue ++ [.resyncReq], cr := k.cr - 1, high := t.link.high } ∧
        t = { s with cw := t.cw, link := t.link, rdn := { n with want := 6 } })) ∧
    (age → v.getLsbD 34 = false → v.getLsbD 33 = false → m.getLsbD 35 = v.getLsbD 35 → k.st ≠ .down →
      applies w.origin .word a s (exec (.mateConfirm w) s) fun t => cwGet t a = kept ∧ cwKept s t [a] ∧
        t = { s with
          cw := t.cw, rdn := { n with provisional := false },
          due := s.due ++ if n.provisional then [rec_ kept 0x0B 0 0] else [] }) ∧
    (reaches (exec .mateCntClr s) fun t => cwGet t (ctlAddr 0x0F 0 7) = 0 ∧ cwGet t (ctlAddr 0x0F 0 8) = 0 ∧
      cwKept s t [ctlAddr 0x0F 0 7, ctlAddr 0x0F 0 8] ∧ t = { s with cw := t.cw }) ∧
    (applies o .word (ctlAddr clsQueue 3 2) s (exec (.mateQueueFlush o) s) fun t =>
      t.link.queue = (if k.part = 0 then [] else k.queue.take 1) ∧ t.link.sent = k.sent ∧ t.link.st = k.st ∧ t.link.cr = k.cr ∧
      (s.ilk = .holding → t.rdn = { n with want := 4 }) ∧ t.mode = s.mode ∧ t.ilk = s.ilk ∧ t.due = s.due)

/-- Grant and interlock decide which package holds (R385, R386, R387, R388, R389, R390, R392, R423, R432). A grant makes
seat 0 hold and seat 1 arm (or block, where the mate asserts); 4 µs later an armed package holds or blocks; a blocked
one arms again once the mate lets go. Holding from STANDBY or PROVISION enters TAKEOVER, with the age of the starter
noted and both records placed. Losing the grant releases at once, and the package drives no line; seat 1 gives way to
an asserting mate. A conflict is declared with its causes, stops the drivers, and clears when no cause stands. Without
power nothing is sensed. -/
def Obligations.TheInterlockDecidesTheHolder : Prop :=
  ∀ (l : Bool) (s : State), Safety.tablesOk s = true →
    let n := s.rdn
    let rec_ := fun (e d x : Nat) =>
      ({ q := fld (cwGet s (ctlAddr 0x0F 0 0)) 17 15, ty := 0x1B, ws := [mkWord [(31, e), (27, d), (22, x)], s.tick] } : Due)
    let modeRec := fun (ctrl : Word) (old new cause prov : Nat) =>
      ({ q := fld ctrl 30 28, ty := 0x23,
         ws := [mkWord [(33, old), (30, new), (26, cause), (22, s.sec.qcause), (21, prov)], s.tick] } : Due)
    let ctrl := cwGet s pkgCtrlAddr
    let stale := s.bank.valid = true ∧ maxAge s < starterAge s
    let holds := fun (t : State) => t.ilk = .holding ∧ t.pending = s.pending ∧ t.rdn.leaving = false ∧
      (s.mode = .standby ∨ s.mode = .provision → t.mode = .takeover ∧ t.modeCause = 5 ∧ t.rdn.since = tickCount s ∧
        t.rdn.applied = false ∧ (t.rdn.take = true ↔ s.mode = .standby ∧ s.bank.valid = true) ∧
        (t.rdn.late = true ↔ stale ∨ s.bank.valid = false) ∧
        t.due = s.due ++ [rec_ 5 0 0, modeRec ctrl (modeCode s.mode) 5 5 (b2n n.provisional)]) ∧
      (s.mode ≠ .standby → s.mode ≠ .provision → t.mode = s.mode ∧ t.due = s.due)
    let takes := s.mode = .provision ∨ s.mode = .standby ∨ s.mode = .active ∨ s.mode = .takeover
    let gone := s.mode = .takeover ∨ s.mode = .active
    let causes := 8 * (if l then 1 else 0) + 4 * (if s.ilk = .holding ∧ n.mateIlk = true then 1 else 0) +
      2 * (if s.ilk = .blocked ∧ n.grant = true then 1 else 0) + (if gone ∧ s.ilk ≠ .holding ∧ n.leaving = false then 1 else 0)
    (powered s = false → exec (.grantInChange l) s = .next s ∧ exec .grantPulseReject s = .next s ∧ exec (.ilkInChange l) s = .next s) ∧
    (powered s = true →
      exec .grantPulseReject s = .next (cenInc 10 s) ∧
      (n.grant = l → exec (.grantInChange l) s = .next s) ∧
      (n.grant = false → takes → s.ilk = .released → s.straps.seat = 0 → reaches (exec (.grantInChange true) s) fun t =>
        holds t ∧ t.rdn.grant = true) ∧
      (n.grant = false → takes → s.ilk = .released → s.straps.seat = 1 → reaches (exec (.grantInChange true) s) fun t =>
        t.ilk = (if n.mateIlk then .blocked else .arming) ∧ t.rdn = { n with grant := true } ∧ cwKept s t [ctlAddr clsCen 0 9] ∧
        t = { s with ilk := t.ilk, rdn := t.rdn, cw := t.cw }) ∧
      (n.grant = false → ¬ takes ∨ s.ilk ≠ .released → reaches (exec (.grantInChange true) s) fun t =>
        t.rdn = { n with grant := true } ∧ cwKept s t [ctlAddr clsCen 0 9] ∧ t = { s with rdn := t.rdn, cw := t.cw }) ∧
      (n.grant = true → reaches (exec (.grantInChange false) s) fun t => t.ilk = .released ∧ drivesLine t = false ∧
        t.rdn = (if s.ilk = .holding then { n with grant := false, leaving := decide gone, sweepTx := none }
          else { n with grant := false }) ∧
        t.due = s.due ++ (if s.ilk = .holding then [rec_ 7 0 0] else []) ∧ cwKept s t [ctlAddr clsCen 0 9] ∧
        t = { s with ilk := t.ilk, rdn := t.rdn, due := t.due, cw := t.cw }) ∧
      (n.mateIlk = l → exec (.ilkInChange l) s = .next s) ∧
      (n.mateIlk = false → s.ilk = .holding → s.straps.seat = 1 → exec (.ilkInChange true) s = .next { s with
        ilk := .blocked, rdn := { n with mateIlk := true, leaving := decide gone, sweepTx := none }, due := s.due ++ [rec_ 7 2 0] }) ∧
      (n.mateIlk ≠ l → l = false ∨ s.ilk ≠ .holding ∨ s.straps.seat = 0 → exec (.ilkInChange l) s =
        .next { s with rdn := { n with mateIlk := l } })) ∧
    (s.ilk = .arming → n.mateIlk = true → exec .ilkResample s = .next (cenInc 11 { s with ilk := .blocked })) ∧
    (s.ilk = .arming → n.mateIlk = false → reaches (exec .ilkResample s) holds) ∧
    (s.ilk ≠ .arming → exec .ilkResample s = .next s) ∧
    (s.ilk = .blocked → n.grant = true → n.mateIlk = false → exec .ilkBlockedRetry s = .next { s with ilk := .arming }) ∧
    (s.ilk ≠ .blocked ∨ n.grant = false ∨ n.mateIlk = true → exec .ilkBlockedRetry s = .next s) ∧
    (causes = 0 ∨ n.conflict = true → exec (.roleConflictDeclare l) s = .next s) ∧
    (causes ≠ 0 → n.conflict = false → reaches (exec (.roleConflictDeclare l) s) fun t => t.rdn = { n with conflict := true } ∧
      drivesLine t = false ∧ t.due = s.due ++ [rec_ 8 causes 0] ∧ t.intPend.testBit 21 = true ∧ cwKept s t [ctlAddr clsCen 0 12] ∧
      t = { s with rdn := t.rdn, due := t.due, cw := t.cw, intPend := t.intPend, msixPba := t.msixPba, out := t.out }) ∧
    (l = false → causes = 0 → n.conflict = true → exec .roleConflictClear s = .next { s with
      rdn := { n with conflict := false }, due := s.due ++ [rec_ 9 0 0] }) ∧
    (l = false → causes ≠ 0 ∨ n.conflict = false → exec .roleConflictClear s = .next s)

/-- Takeover ends ACTIVE, modes are requested, and failures quarantine (R389, R423, R424, R427, R450, R458, R526, R528,
R529, R531, R535, R540). A takeover applies its starter once, holds every pair, and becomes ACTIVE with the traffic up
or at its timeout (PROVISIONAL if late); a release leads to STANDBY, which resynchronises; PROVISION, STANDBY and TEST
are entered on request from one another with debug locked, else refused with MODE_STATE; DORMANT is entered from
PROVISION or STANDBY only, and waking begins a reset that keeps the NVM alone; a reset is noted. A failed rail or a
tamper trip quarantines: the interlock, the sessions, the starters and the link go, and the key slots on a trip. -/
def Obligations.TakeoverEndsAndModesAreRequested : Prop :=
  ∀ (l : Bool) (r : RegionId) (w : CtlWrite) (s : State), Safety.tablesOk s = true →
    let n := s.rdn
    let rec_ := fun (e d x : Nat) =>
      ({ q := fld (cwGet s (ctlAddr 0x0F 0 0)) 17 15, ty := 0x1B, ws := [mkWord [(31, e), (27, d), (22, x)], s.tick] } : Due)
    let modeRec := fun (ctrl : Word) (old new cause prov : Nat) =>
      ({ q := fld ctrl 30 28, ty := 0x23,
         ws := [mkWord [(33, old), (30, new), (26, cause), (22, s.sec.qcause), (21, prov)], s.tick] } : Due)
    let ctrl := cwGet s pkgCtrlAddr
    let prov := n.provisional || n.late
    let applying := s.mode = .takeover ∧ s.ilk = .holding ∧ n.applied = false
    let ending := s.mode = .takeover ∧ s.ilk = .holding ∧ n.applied = true
    let leaving := n.leaving = true ∧ s.ilk ≠ .holding ∧ (s.mode = .takeover ∨ s.mode = .active)
    let v := w.value
    let a := pkgCtrlAddr
    let allowed := (s.mode = .provision ∨ s.mode = .standby ∨ s.mode = .test) ∧ s.sec.unlocked = false
    let plain := v.getLsbD 27 = false ∧ v.getLsbD 26 = false
    let sleepy := s.mode = .provision ∨ s.mode = .standby
    (applying → n.take = false → reaches (exec .starterApply s) fun t => t.rdn = { n with applied := true } ∧
      (∀ p, p ∈ livePairs s → (prtGet t p).held = true) ∧
      t = { s with rdn := t.rdn, pairs := t.pairs, groups := t.groups, hls := t.hls, prfRings := t.prfRings, due := t.due }) ∧
    (applying → n.take = true → reaches (exec .starterApply s) fun t => t.rdn = { n with applied := true } ∧
      t.bank = s.bank ∧ t.mode = .takeover ∧ t.ilk = .holding ∧ t.tick = s.tick ∧ t.nvm = s.nvm ∧ t.pending = s.pending) ∧
    (¬ applying → exec .starterApply s = .next s) ∧
    (ending → l = true ∨ trafficUp s = true → reaches (exec (.takeoverActive l) s) fun t => t.mode = .active ∧ t.modeCause = 6 ∧
      t.rdn = { n with provisional := prov } ∧ t.ilk = .holding ∧ (n.late = true → t.intPend.testBit 22 = true) ∧
      (s.due ++ [rec_ 6 (b2n prov) 0, modeRec ctrl 5 3 6 (b2n prov)]) <+: t.due) ∧
    (¬ ending ∨ (l = false ∧ trafficUp s = false) → exec (.takeoverActive l) s = .next s) ∧
    (leaving → n.grant = false → reaches (exec .releaseToStandby s) fun t => t.mode = .standby ∧ t.modeCause = 7 ∧
      t.rdn = { n with leaving := false, want := 5 } ∧ t.ilk = s.ilk ∧ t.bank = s.bank ∧
      t.due = s.due ++ [modeRec ctrl (modeCode s.mode) 4 7 (b2n n.provisional)]) ∧
    (¬ leaving → exec .releaseToStandby s = .next s) ∧
    (¬ allowed → ∀ c, c ∈ [Instr.modeReqProvision w, .modeReqStandby w, .modeReqTest w] →
      exec c s = .next (refuse w.origin 0x04 .word a s)) ∧
    (allowed → plain → n.grant = false → s.ilk ≠ .holding →
      applies w.origin .word a s (exec (.modeReqStandby w) s) (fun t => t.mode = .standby ∧ t.ilk = s.ilk ∧
        (s.mode ≠ .standby → t.modeCause = 8 ∧ t.rdn = { n with want := 5 } ∧
          t.due = s.due ++ [modeRec v (modeCode s.mode) 4 8 (b2n n.provisional)])) ∧
      applies w.origin .word a s (exec (.modeReqProvision w) s) (fun t => t.mode = .provision ∧ t.ilk = s.ilk ∧ t.rdn = n ∧
        (s.mode ≠ .provision → t.modeCause = 8 ∧ t.due = s.due ++ [modeRec v (modeCode s.mode) 2 8 (b2n n.provisional)])) ∧
      applies w.origin .word a s (exec (.modeReqTest w) s) (fun t => t.mode = .test ∧ t.rdn = n ∧
        (s.mode ≠ .test → t.ilk = .released ∧ t.modeCause = 8 ∧
          t.due = s.due ++ [modeRec v (modeCode s.mode) 6 8 (b2n n.provisional)]))) ∧
    (v.getLsbD 32 = false → v.getLsbD 26 = false → v.getLsbD 31 = ctrl.getLsbD 31 →
      applies w.origin .word a s (exec (.pkgResetReq w) s) fun t => cwGet t a = (v &&& 0x0F0000000) ∧ cwKept s t [a] ∧
        t = { s with cw := t.cw, resetDue := true }) ∧
    (v.getLsbD 32 = false → ¬ sleepy → exec (.dormantEntry w) s = .next (refuse w.origin 0x04 .word a s)) ∧
    (v.getLsbD 32 = false → v.getLsbD 27 = false → sleepy → applies w.origin .word a s (exec (.dormantEntry w) s) fun t =>
      t.phase = .dormant ∧ t.link.st = .down ∧ t.ilk = .released ∧ t.mode = s.mode ∧ (∀ q, q < 4 → sessGet t q = {}) ∧
      t.bank = s.bank ∧ t.nvm = s.nvm) ∧
    (s.phase = .dormant → reaches (exec (.dormantWake l) s) fun t => t.phase = .inReset ∧ t.rdn = { grant := l } ∧
      t.mode = State.reset.mode ∧ t.cw = [] ∧ t.ctxAt = [] ∧ t.bank = {} ∧ t.nvm.starter = s.nvm.starter ∧ t.pending = s.pending) ∧
    (s.phase ≠ .dormant → exec (.dormantWake l) s = .next s) ∧
    (let lost := fun (t : State) (q : Nat) => t.mode = .quarantine ∧ t.modeCause = 9 ∧ t.sec.qcause = q ∧ t.ilk = .released ∧
        drivesLine t = false ∧ t.bank = {} ∧ t.spare = {} ∧ t.link.st = .down ∧ (∀ i, i < 4 → sessGet t i = {})
     s.mode ≠ .quarantine →
      (railOn s r.val = true → (vloopGet s r.val).vout = 850 → reaches (exec (.cpmFailQuarantine r) s) fun t =>
        lost t 1 ∧ t.sec.slots = s.sec.slots) ∧
      (s.phase ≠ .off → (reaches (exec (.tamperTrip .voltage) s) fun t => lost t 1 ∧ t.sec.slots = 0) ∧
        (reaches (exec (.tamperTrip .clock) s) fun t => lost t 2 ∧ t.sec.slots = 0) ∧
        (reaches (exec (.tamperTrip .temperature) s) fun t => lost t 3 ∧ t.sec.slots = 0) ∧
        (reaches (exec (.tamperTrip .glitch) s) fun t => lost t 4 ∧ t.sec.slots = 0) ∧
        (reaches (exec (.tamperTrip .entropy) s) fun t => lost t 5 ∧ t.sec.slots = 0))) ∧
    (railOn s r.val = false ∨ (vloopGet s r.val).vout ≠ 850 → exec (.cpmFailQuarantine r) s = .next s) ∧
    (s.phase = .off → exec (.tamperTrip .clock) s = .next s)

/-- Domains, voltage loops, faults and the self-test (R393, R394, R397, R419, R421, R520, R525, R538, R539, R542, R543,
R546). A request for a domain is refused outside what the owner may lower, or while what it holds, carries or supports
forbids it; else it is kept, and in the modes that apply it the domain takes the state it is due. A completed change
is recorded and moves no other. Loop limits outside 600 to 850 mV or crossed are refused; the rail steps 1 mV toward
its target, and an overriding floor is counted and recorded at most once a second. Faults lower the domain and its
dependants, or quarantine; the hot junction is recorded once. A self-test burst raises its element and leaves its
result; the health word goes out every tick. -/
def Obligations.DomainsLoopsAndSelfTest : Prop :=
  ∀ (d : Fin 56) (r : RegionId) (f : Fin 1004) (g : Fin 256) (p : Bool) (w : CtlWrite) (s : State), Safety.tablesOk s = true →
    let rec_ := fun (e d x : Nat) =>
      ({ q := fld (cwGet s (ctlAddr 0x0F 0 0)) 17 15, ty := 0x1B, ws := [mkWord [(31, e), (27, d), (22, x)], s.tick] } : Due)
    let pwrRec := fun (d old new cause : Nat) =>
      ({ q := fld (cwGet s pkgCtrlAddr) 30 28, ty := 0x22, ws := [mkWord [(30, d), (27, old), (24, new), (20, cause)], s.tick] } : Due)
    let n := d.val
    let k := domGet s n
    let a := ctlAddr clsPwr n 0
    let st := fld w.value 35 33
    let lower := n ≤ 39 ∨ n = 51
    let blocked := (st = 3 ∧ domHolds s n = true) ∨ (s.mode = .active ∧ 0 < st ∧ domCarries s n = true) ∨
      ∃ c, c ∈ dependants n ∧ ownTarget (unhold (fun e => e == n) s) c < st
    let la := vloopAddr r.val 0
    let lk := vloopGet s r.val
    let lo := fld w.value 35 26
    let hi := fld w.value 25 16
    let old := cwGet s la
    let margin := if fld old 15 11 = 0 then 10 else fld old 15 11
    let target := max 600 (min 850 (max (f.val + 20) (min (fld old 25 16) (max (fld old 35 26) (f.val + 20 + margin)))))
    (¬ lower ∨ 3 < st → exec (.pwrDomReq d w) s = .next (refuse w.origin 0x02 .word a s)) ∧
    (lower → st ≤ 3 → blocked → exec (.pwrDomReq d w) s = .next (refuse w.origin 0x09 .word a s)) ∧
    (lower → st ≤ 3 → ¬ blocked → reqMode s.mode = false → applies w.origin .word a s (exec (.pwrDomReq d w) s) fun t =>
      fld (cwGet t a) 35 33 = st ∧ cwKept s t [a] ∧ t = { s with cw := t.cw }) ∧
    (lower → st ≤ 3 → ¬ blocked → reqMode s.mode = true → applies w.origin .word a s (exec (.pwrDomReq d w) s) fun t =>
      fld (cwGet t a) 35 33 = st ∧ (domGet t n).goal = domTarget t n ∧ (domGet t n).st = k.st ∧ t.mode = s.mode ∧ t.due = s.due) ∧
    (s.phase ≠ .dormant → k.st = k.goal → exec (.domainTransitionDone d) s = .next s) ∧
    (s.phase ≠ .dormant → k.st ≠ k.goal → 0 < k.goal → k.goal < 4 → reaches (exec (.domainTransitionDone d) s) fun t =>
      (domGet t n).st = k.goal ∧ (∀ e, e ≠ n → (domGet t e).st = (domGet s e).st) ∧
      t.due = s.due ++ (if k.burst = true ∨ k.cause = 8 then [] else [pwrRec n k.st k.goal k.cause]) ∧ t.mode = s.mode) ∧
    (lo > hi ∨ lo < 600 ∨ 850 < hi → exec (.vloopCtrl r w) s = .next (refuse w.origin 0x05 .word la s)) ∧
    (lo ≤ hi → 600 ≤ lo → hi ≤ 850 → lk.floor ≤ hi → applies w.origin .word la s (exec (.vloopCtrl r w) s) fun t =>
      cwGet t la = (w.value &&& 0xFFFFFF800) ∧ cwKept s t [la] ∧ vloopGet t r.val = { lk with overridden := false } ∧
      keeps vloopGet s t [r.val] ∧ t = { s with cw := t.cw, vloops := t.vloops }) ∧
    (railOn s r.val = true → reaches (exec (.vloopStep r f g) s) fun t =>
      let x := vloopGet t r.val
      x.floor = f.val + 20 ∧ x.aging = g.val ∧ (x.overridden = true ↔ fld old 25 16 < f.val + 20) ∧
      x.vout = (if lk.vout < target then lk.vout + 1 else if target < lk.vout then lk.vout - 1 else lk.vout) ∧
      keeps vloopGet s t [r.val] ∧ cwKept s t [ctlAddr clsCen 0 50] ∧
      t.due = s.due ++ (if lk.overridden = false ∧ fld old 25 16 < f.val + 20 ∧ lk.quiet ≤ tickCount s then
        [{ q := fld (cwGet s pkgCtrlAddr) 30 28, ty := 0x24, ws := [mkWord [(32, 1), (26, r.val), (16, f.val + 20)], s.tick] }] else []) ∧
      t = { s with vloops := t.vloops, cw := t.cw, due := t.due }) ∧
    (railOn s r.val = false → exec (.vloopStep r f g) s = .next s) ∧
    (applies w.origin .word (ctlAddr clsPwr 63 0x20) s (exec (.placeCtrl w) s) fun t =>
      cwGet t (ctlAddr clsPwr 63 0x20) = (w.value &&& 0xFFFFFFFF0) ∧ cwKept s t [ctlAddr clsPwr 63 0x20] ∧ t = { s with cw := t.cw }) ∧
    (n < 42 → reaches (exec (.regulatorFault d) s) fun t => (domGet t n).fault = true ∧ (domGet t n).goal = 3 ∧
      (∀ c, c ∈ dependants n → (domGet t c).goal = 3) ∧ t.due = s.due ++ [pwrRec n k.st 3 5] ∧ t.mode = s.mode) ∧
    (42 ≤ n → n ≠ 49 → n < 51 ∨ 53 < n → s.mode ≠ .quarantine → reaches (exec (.regulatorFault d) s) fun t =>
      (domGet t n).fault = true ∧ (domGet t n).goal = 3 ∧ t.mode = .quarantine ∧ t.sec.qcause = 1 ∧ t.ilk = .released) ∧
    (s.hot = true → exec .tempAlarm s = .next s) ∧
    (s.hot = false → reaches (exec .tempAlarm s) fun t => t.hot = true ∧ t.intPend.testBit 23 = true ∧
      t.due = s.due ++ [pwrRec 63 (pkgLadder s) (pkgLadder s) 6] ∧ cwKept s t [ctlAddr clsCen 0 51] ∧
      t = { s with hot := t.hot, due := t.due, cw := t.cw, intPend := t.intPend, msixPba := t.msixPba, out := t.out }) ∧
    (rotates s = true → s.test.burst = none → s.binQ % 8000 = 0 → reaches (exec .selftestBurstStart s) fun t =>
      let e := s.test.secs % 30
      t.test.burst = some e ∧ t.test.aborted = false ∧ t.test.failed = s.test.failed ∧
      (∀ x, x ∈ elementDomains e → (domGet t x).burst = true ∧ (domGet t x).goal = 0) ∧ t.mode = s.mode ∧ t.due = s.due) ∧
    (rotates s = false ∨ s.test.burst ≠ none ∨ s.binQ % 8000 ≠ 0 → exec .selftestBurstStart s = .next s) ∧
    (s.test.burst = none → exec (.selftestBurstEnd p) s = .next s) ∧
    (∀ e, s.test.burst = some e → reaches (exec (.selftestBurstEnd p) s) fun t => t.test.burst = none ∧
      t.test.failed.testBit e = !p ∧ (p = true → t.test.passed.testBit e = true) ∧
      (∀ i, i ≠ e → t.test.failed.testBit i = s.test.failed.testBit i) ∧
      (∀ x, x ∈ elementDomains e → (domGet t x).burst = false) ∧
      t.due = s.due ++ (if p then [] else [rec_ 0x0A (e % 16) e]) ∧ t.mode = s.mode) ∧
    (powered s = false → exec .healthWordTx s = .next s) ∧
    (powered s = true → linkOn s = false → exec .healthWordTx s =
      .next { s with rdn := { s.rdn with own := s.rdn.next }, out := .health s.rdn.next :: s.out }) ∧
    (powered s = true → linkOn s = true → s.link.st = .up → 2 ≤ s.link.cr → reaches (exec .healthWordTx s) fun t =>
      t.link = { s.link with queue := s.link.queue ++ [.status s.rdn.next], cr := s.link.cr - 2, high := t.link.high } ∧
      t = { s with rdn := { s.rdn with own := s.rdn.next }, out := .health s.rdn.next :: s.out, link := t.link })

/-- Doorbells, command fetches, host rings, interrupts and recovery (R439, R344, R470, R471, R482, R484, R488, R557,
14_host.md Table 14-1). While the package runs and its endpoint is out of reset, a doorbell acts where its value and
its ring allow it, and any other access is a violation: base and size move only without a session and clear head and
tail; a fetch advances the head, and says so at the tail; an item that fits goes to its host ring whole, with the
interrupt after the items set; a credit beyond the room is clipped; INT_CLR clears what it names; a valid recovery
image in QUARANTINE without firmware goes to bank A and resets. PERST ends every session. Else nothing happens. -/
def Obligations.HostRingsAndDoorbells : Prop :=
  ∀ (q : CmdRingId) (h : HqId) (f : Fin 3) (off : BitVec 24) (v : BitVec 32) (a : BitVec 64) (e : CmdEntry) (im : List (BitVec 288))
    (s : State), Safety.tablesOk s = true →
    let up := powered s = true ∧ s.perst = false
    let k := ringCmd s q.val
    let r := ringOf s h.val
    let x := hqGet s h.val
    let credit := hqOn s h.val = true ∧ fld (cwGet s (hqCfgAddr h.val)) 34 34 = 1
    let room := hqSize s h.val - ptrFill (hqSize s h.val) x.rp x.wp
    let bad := fun (o : Nat) => violation 0 70 o s
    let free := (sessGet s q.val).opened = false ∧ (sessGet s q.val).mid = false
    let setUp := match f.val with
      | 0 => { k with head := 0, tail := 0, base := k.base / 2 ^ 32 * 2 ^ 32 + v.toNat / 64 * 64 }
      | 1 => { k with head := 0, tail := 0, base := v.toNat * 2 ^ 32 + k.base % 2 ^ 32 }
      | _ => { k with head := 0, tail := 0, size := v.toNat }
    let sized := f.val = 2 → 2 ≤ v.toNat ∧ v.toNat ≤ 4096
    (¬ up → ∀ c, c ∈ [Instr.bar0Violation off, .cqBaseWrite q f v, .cqTail q v, .commandFetch q e, .hostRingWrite h, .hrHead h v,
      .hqCredit h v, .intClr v, .recGo a im true] → exec c s = .next s) ∧
    (up →
      exec (.bar0Violation off) s = .next (bad off.toNat) ∧
      (free → sized → exec (.cqBaseWrite q f v) s = .next (ringCmdPut q.val setUp s)) ∧
      (¬ (free ∧ sized) → exec (.cqBaseWrite q f v) s = .next (bad (0x40 * q.val + 4 * f.val))) ∧
      (v.toNat < k.size → exec (.cqTail q v) s = .next (ringCmdPut q.val { k with tail := v.toNat } s)) ∧
      (k.size ≤ v.toNat → exec (.cqTail q v) s = .next (bad (0x40 * q.val + 0xC))) ∧
      (k.head = k.tail → exec (.commandFetch q e) s = .next s) ∧
      (k.head ≠ k.tail → reaches (exec (.commandFetch q e) s) fun t =>
        ringCmd t q.val = { k with head := (k.head + 1) % k.size, fetched := k.fetched ++ [e] } ∧ keeps ringCmd s t [q.val] ∧
        ((k.head + 1) % k.size = k.tail → t.intPend.testBit (16 + q.val) = true) ∧
        ((k.head + 1) % k.size ≠ k.tail → t.intPend = s.intPend) ∧
        t = { s with rings := t.rings, intPend := t.intPend, msixPba := t.msixPba, out := t.out }) ∧
      (∀ ws rest, x.items = ws :: rest → hrOn s h.val = true → itemLines ws ≤ ringFreeLines s h.val →
        reaches (exec (.hostRingWrite h) s) fun t => .hostRing h.val r.tail ws ∈ t.out ∧ (hqGet t h.val).items = rest ∧
          (hqGet t h.val).rp = ptrAdvance (hqSize s h.val) x.rp (itemLines ws) ∧ keeps hqGet s t [h.val] ∧
          ringOf t h.val = { r with
            tail := (r.tail + itemLines ws) % hrSize s h.val, items := r.items + 1, timer := decide (coalT s h.val ≠ 0) } ∧
          keeps ringOf s t [h.val] ∧ (coalN s h.val ≤ r.items + 1 → t.intPend.testBit h.val = true) ∧
          t = { s with hq := t.hq, hostRing := t.hostRing, intPend := t.intPend, msixPba := t.msixPba, out := t.out }) ∧
      (∀ ws rest, x.items = ws :: rest → hrOn s h.val = false ∨ ringFreeLines s h.val < itemLines ws →
        exec (.hostRingWrite h) s = .next s) ∧
      (v.toNat < hrSize s h.val → exec (.hrHead h v) s = .next (ringPut_ h.val { r with head := v.toNat } s)) ∧
      (hrSize s h.val ≤ v.toNat → exec (.hrHead h v) s = .next (bad (0x100 + 0x20 * h.val))) ∧
      (credit → x.cr + v.toNat ≤ room → exec (.hqCredit h v) s = .next (hqPut h.val { x with cr := x.cr + v.toNat } s)) ∧
      (credit → room < x.cr + v.toNat → exec (.hqCredit h v) s = .next (hqPut h.val { x with cr := room, clipped := true } s)) ∧
      (¬ credit → exec (.hqCredit h v) s = .next (bad (0x104 + 0x20 * h.val))) ∧
      (reaches (exec (.intClr v) s) fun t =>
        (∀ i, t.intPend.testBit i = (s.intPend.testBit i && decide (i < 32) && !v.toNat.testBit i)) ∧
        (∀ i, i < 8 → ringOf t i = if v.toNat.testBit i then { ringOf s i with items := 0, timer := false } else ringOf s i) ∧
        t = { s with intPend := t.intPend, hostRing := t.hostRing }) ∧
      (s.mode ≠ .quarantine ∨ s.sec.qcause ≠ 6 → exec (.recGo a im true) s = .next (bad 0x208)) ∧
      (s.mode = .quarantine → s.sec.qcause = 6 → firmwareOk im = true → (floors s).fw ≤ lineNat im 2 2 →
        reaches (exec (.recGo a im true) s) fun t => t.phase = .inReset ∧ t.nvm.starter = s.nvm.starter ∧
          t.nvm.fwA = some { svn := lineNat im 2 2, lines := im, valid := true } ∧ t.nvm.fwB = s.nvm.fwB ∧ t.pending = s.pending) ∧
      (s.mode = .quarantine → s.sec.qcause = 6 → exec (.recGo a im false) s =
        .next (cenInc 1 { s with sec := { s.sec with recLo := a.toNat % 2 ^ 32, recHi := a.toNat / 2 ^ 32 } }))) ∧
    (x.items = [] → exec (.hostRingWrite h) s = .next s) ∧
    (r.timer = true → 0 < r.items → exec (.hrCoalTimeout h) s = .next (intSet h.val (ringPut_ h.val { r with timer := false } s))) ∧
    (r.timer = false ∨ r.items = 0 → exec (.hrCoalTimeout h) s = .next s) ∧
    (reaches (exec .perstLAssert s) fun t => t.perst = true ∧ (∀ i, i < 4 → sessGet t i = {} ∧ (ringCmd t i).fetched = [] ∧
      (ringCmd t i).waiting = []) ∧ t.mode = s.mode ∧ t.ilk = s.ilk ∧ t.cw = s.cw ∧ t.due = s.due) ∧
    exec .perstLRelease s = .next { s with perst := false }

/-- Sessions open, batches are checked in order and start round robin (R302, R332, R443, R446, R447, R473, R474, R477,
R478). An OPEN makes a guest session at once and an owner one with a valid PROOF; refused ones are violations, as is a
PROOF out of place or too late. A batch must be clean, on a session, with its tag and the next sequence number, else
it is a violation; one of wrong form (or not a claim, in SEALED) is refused whole and completed; any other waits. The
free hub engine starts the oldest batch of the next ring. A loaf loaded is the next loaf, and its batch goes on with
status 0. -/
def Obligations.SessionsAndBatchesOfARing : Prop :=
  ∀ (q : CmdRingId) (e : CmdEntry) (rest : List CmdEntry) (b : BatchBuf) (own ok : Bool) (s : State), Safety.tablesOk s = true →
    let n := q.val
    let k := sessGet s n
    let r := ringCmd s n
    let u := ringCmdPut n { r with fetched := rest } s
    let clean := e.clean = true ∧ e.lenOk = true
    let isOpen := clean ∧ e.ty = 2 ∧ e.buf = .openReq own ok
    let isProof := clean ∧ e.ty = 3 ∧ e.buf = .proof ok
    let isBatch := clean ∧ e.ty = 1 ∧ e.resp ≤ 8 ∧ e.buf = .batch b
    let inOrder := b.tagOk = true ∧ b.seq = k.seq ∧ k.seq < 2 ^ 32
    let bat : Batch := { ring := n, resp := e.resp, reply := e.reply, seq := b.seq, outAt := b.outAt, outLen := b.outLen,
                         bundles := b.bundles.map BitVec.toNat }
    let form := batchStatus (!k.own && s.mode != .sealed) b
    let refused := fun (st at_ : Nat) (t : State) =>
      t.batchesDone = s.batchesDone ++ [{ id := s.batchIds, batch := bat, whole := st, bundle := at_ }] ∧
      t.batchIds = s.batchIds + 1 ∧ sessGet t n = { k with seq := k.seq + 1 } ∧ keeps sessGet s t [n] ∧
      ringCmd t n = { r with fetched := rest } ∧ cwKept s t [ctlAddr clsCen 0 55]
    (r.fetched = [] → ∀ c, c ∈ [Instr.cqOpen q, .cqProof q, .cqBatch q] → exec c s = .next s) ∧
    (r.fetched = e :: rest → isOpen →
      (s.mode = .quarantine ∨ k.mid = true ∨ ok = false → exec (.cqOpen q) s = .next (violation 7 (64 + n) 0 u)) ∧
      (s.mode ≠ .quarantine → k.mid = false → ok = true → own = true → reaches (exec (.cqOpen q) s) fun t =>
        sessGet t n = { k with mid := true } ∧ keeps sessGet s t [n] ∧ ringCmd t n = { r with fetched := rest } ∧
        t.out.length = s.out.length + (if e.reply = 0 then 0 else 1) ∧
        t = { s with sess := t.sess, rings := t.rings, out := t.out, freeUses := t.freeUses }) ∧
      (s.mode ≠ .quarantine → k.mid = false → ok = true → own = false → reaches (exec (.cqOpen q) s) fun t =>
        sessGet t n = { opened := true, own := false, reply := e.reply } ∧ keeps sessGet s t [n] ∧
        (k.opened = true → (ringCmd t n).waiting = [])) ∧
      exec (.cqProof q) s = .next s ∧ exec (.cqBatch q) s = .next s) ∧
    (r.fetched = e :: rest → isProof →
      (k.mid = true → ok = true → (ownerKey s).isSome = true → reaches (exec (.cqProof q) s) fun t =>
        sessGet t n = { opened := true, own := true, reply := e.reply } ∧ keeps sessGet s t [n] ∧ t.mode = s.mode ∧ t.cw = s.cw) ∧
      (k.mid = false ∨ ok = false ∨ ownerKey s = none → exec (.cqProof q) s =
        .next (violation 7 (64 + n) 0 (sessPut n { k with mid := false } u)))) ∧
    (k.mid = true → exec (.proofTimeout q) s = .next (violation 7 (64 + n) 0 (sessPut n { k with mid := false } s))) ∧
    (k.mid = false → exec (.proofTimeout q) s = .next s) ∧
    (r.fetched = e :: rest → ¬ clean → exec (.cqBatch q) s = .next (violation 1 (64 + n) 0 u)) ∧
    (r.fetched = e :: rest → isBatch →
      (k.opened = false ∨ ¬ inOrder → exec (.cqBatch q) s = .next (violation 1 (64 + n) 0 u)) ∧
      (k.opened = true → inOrder → s.mode = .sealed → claimShape bat.bundles = false → reaches (exec (.cqBatch q) s) (refused 4 0)) ∧
      (k.opened = true → inOrder → s.mode ≠ .sealed ∨ claimShape bat.bundles = true → form.1 ≠ 0 → reaches (exec (.cqBatch q) s) (refused form.1 form.2)) ∧
      (k.opened = true → inOrder → s.mode ≠ .sealed ∨ claimShape bat.bundles = true → form.1 = 0 → reaches (exec (.cqBatch q) s) fun t =>
        ringCmd t n = { r with fetched := rest, waiting := r.waiting ++ [bat] } ∧ keeps ringCmd s t [n] ∧
        sessGet t n = { k with seq := k.seq + 1 } ∧ keeps sessGet s t [n] ∧
        t = { s with rings := t.rings, sess := t.sess, scratch := t.scratch })) ∧
    (hubFree s = false ∨ nextRing s = none → exec .batchStart s = .next s) ∧
    (∀ (p : Nat) (x : Batch) (l : List Batch), hubFree s = true → nextRing s = some p → (ringCmd s p).waiting = x :: l →
      reaches (exec .batchStart s) fun t => t.batch = some { id := s.batchIds, batch := x } ∧ t.batchIds = s.batchIds + 1 ∧
        t.lastRing = p ∧ ringCmd t p = { ringCmd s p with waiting := l } ∧ keeps ringCmd s t [p] ∧
        (engGet t 64).running = .batch ∧ (engGet t 64).pc = 0 ∧ regRead (engGet t 64).regs 1 = 64 ∧
        regRead (engGet t 64).regs 2 = s.tick ∧ regRead (engGet t 64).regs 3 = s.pmTime ∧ keeps engGet s t [64] ∧
        t = { s with batch := t.batch, batchIds := t.batchIds, lastRing := t.lastRing, rings := t.rings, engines := t.engines }) ∧
    (∀ l g, s.long = some (.loaf l, g) → s.suspended = none → reaches (exec .loafLoadComplete s) fun t =>
      t.loafNext = some l ∧ t.long = none ∧ engGet t 64 = { engGet s 64 with
        running := .batch, regs := regWrite (engGet s 64).regs g 0 } ∧ keeps engGet s t [64] ∧
      t = { s with loafNext := t.loafNext, long := t.long, engines := t.engines }) ∧
    (s.long = none → exec .loafLoadComplete s = .next s)

/-- Contexts are created, pinned and deleted; a control word takes a write by its class (R10, R12, R47, R52, R487, R545,
14_host.md Table 14-10). CREATE places the context at its home or in the first unit of the cluster with a free handle,
with its header set and every other word 0; DELETE clears it unless something enabled names it; SET_KIND and the pins
change the header, within the proven bound, free handles and four moves a unit; each refusal has its status. A write
to a reserved word is refused with CFG_RANGE, a read-only word takes none, a write-one-to-clear word loses the bits
written, and a set-up word does what its own command does. -/
def Obligations.ContextsAndControlWords : Prop :=
  ∀ (o : Origin) (kind : Fin 16) (c : CtxId) (p : Fin 4) (ch : Fin 8) (n : Fin 2) (d : Fin 56) (side : Fin 2) (lane : Fin 64)
    (ad : BitVec 24) (v : Word) (s : State), Safety.tablesOk s = true →
    let id := c.val
    let a := hostOpAddr
    let known := kind.val = 1 ∨ 8 ≤ kind.val
    let held := (ctxPlace s id).isSome = true
    let home := homeUnit id
    let others := fun (t : State) => ∀ i w, i * 128 + w < id * 128 ∨ id * 128 + 128 ≤ i * 128 + w → ctxWord t i w = ctxWord s i w
    let placed := fun (t : State) => ∀ i, i ≠ id → ctxPlace t i = ctxPlace s i
    let write := exec (.controlWordWrite o ad v) s
    (held → exec (.hostCtxCreate o kind c) s = .next (refuse o 0x60 .word a s)) ∧
    (¬ held → ¬ known → exec (.hostCtxCreate o kind c) s = .next (refuse o 0x02 .word a s)) ∧
    (¬ held → known → createUnit s id = none → exec (.hostCtxCreate o kind c) s = .next (refuse o 0x10 .word a s)) ∧
    (∀ u h, ¬ held → known → createUnit s id = some (u, h) → ∃ y, ctxPlace y id = some (u * 256 + h) ∧ placed y ∧
      ctxWord y id 0 = mkWord [(32, kind.val), (0, id)] ∧ (∀ w, 1 ≤ w → w < 128 → ctxWord y id w = 0) ∧ others y ∧
      monGet y id = {} ∧ keeps monGet s y [id] ∧ y = { s with ctxAt := y.ctxAt, ctx := y.ctx, mons := y.mons } ∧
      exec (.hostCtxCreate o kind c) s = .next
        (if boundsHold y u then (if overgrows s y then refuse o 0x15 .word a s else y) else refuse o 0x0C .word a s)) ∧
    (¬ held → ∀ x, x ∈ [Instr.hostCtxDelete o c, .hostCtxSetKind o kind c, .hostCtxSetPin o c, .hostCtxClearPin o c] →
      exec x s = .next (refuse o 0x61 .word a s)) ∧
    (held → ctxNamed s id = true → exec (.hostCtxDelete o c) s = .next (refuse o 0x09 .word a s)) ∧
    (held → ctxNamed s id = false → applies o .word a s (exec (.hostCtxDelete o c) s) fun t => ctxPlace t id = none ∧ placed t ∧
      (∀ w, w < 128 → ctxWord t id w = 0) ∧ others t ∧ monGet t id = {} ∧ keeps monGet s t [id] ∧ id ∉ t.pinMoves ∧
      t = { s with ctxAt := t.ctxAt, ctx := t.ctx, mons := t.mons, pinMoves := t.pinMoves }) ∧
    (held → ¬ known → exec (.hostCtxSetKind o kind c) s = .next (refuse o 0x02 .word a s)) ∧
    (held → known → ∃ y, ctxWord y id 0 = putFld (ctxWord s id 0) 35 32 kind.val ∧
      (∀ i w, i * 128 + w ≠ id * 128 → ctxWord y i w = ctxWord s i w) ∧ y = { s with ctx := y.ctx } ∧
      exec (.hostCtxSetKind o kind c) s = .next
        (if boundsHold y (ctxUnit y id) && (!y.pinMoves.contains id || boundsHold y home) then (if overgrows s y then refuse o 0x15 .word a s else y) else refuse o 0x0C .word a s)) ∧
    (held → ctxUnit s id = home ∨ id ∈ s.pinMoves → applies o .word a s (exec (.hostCtxSetPin o c) s) fun t =>
      ctxWord t id 0 = putFld (ctxWord s id 0) 31 31 1 ∧ (∀ i w, i * 128 + w ≠ id * 128 → ctxWord t i w = ctxWord s i w) ∧
      t = { s with ctx := t.ctx }) ∧
    (let counted := { afterPins s with ctxAt := tabSet 0 (afterPins s).ctxAt id (home * 256 + 1) }
     held → ctxUnit s id ≠ home → id ∉ s.pinMoves →
      (boundHolds counted home = false → exec (.hostCtxSetPin o c) s = .next (refuse o 0x0C .word a s)) ∧
      (boundHolds counted home = true → handlesLeft s home = 0 →
        exec (.hostCtxSetPin o c) s = .next (refuse o 0x10 .word a s)) ∧
      (boundHolds counted home = true → handlesLeft s home ≠ 0 →
        4 ≤ (s.pinMoves.filter fun k => homeUnit k == home).length →
        exec (.hostCtxSetPin o c) s = .next (refuse o 0x06 .word a s)) ∧
      (boundHolds counted home = true → handlesLeft s home ≠ 0 →
        (s.pinMoves.filter fun k => homeUnit k == home).length < 4 →
        applies o .word a s (exec (.hostCtxSetPin o c) s) fun t => ctxWord t id 0 = putFld (ctxWord s id 0) 31 31 1 ∧
          t = { s with ctx := t.ctx, pinMoves := s.pinMoves ++ [id] })) ∧
    (held → applies o .word a s (exec (.hostCtxClearPin o c) s) fun t => ctxWord t id 0 = putFld (ctxWord s id 0) 31 31 0 ∧
      (∀ i w, i * 128 + w ≠ id * 128 → ctxWord t i w = ctxWord s i w) ∧ id ∉ t.pinMoves ∧
      t = { s with ctx := t.ctx, pinMoves := t.pinMoves }) ∧
    (wordStore ad.toNat = none → write = .next (refuse o 0x02 .word ad.toNat s)) ∧
    (ad.toNat = laneAddr side.val lane.val 2 → applies o .word ad.toNat s write fun t =>
      cwGet t ad.toNat = cwGet s ad.toNat &&& ~~~(v &&& 0xF80000000) ∧ cwKept s t [ad.toNat] ∧ t = { s with cw := t.cw }) ∧
    (ad.toNat = ctlAddr clsCen 0 0x84 → applies o .word ad.toNat s write fun t =>
      cwGet t ad.toNat = (v &&& BitVec.ofNat 36 ((wordStore ad.toNat).getD 0)) ∧ cwKept s t [ad.toNat] ∧ t = { s with cw := t.cw }) ∧
    (ad.toNat = ctlAddr clsCen 0 1 → applies o .word ad.toNat s write fun t => t = s) ∧
    (ad.toNat = vloopAddr p.val 0 → write = exec (.vloopCtrl p ⟨o, v⟩) s) ∧
    (ad.toNat = audCfgAddr p.val → write = exec (.audCfg p ⟨o, v⟩) s) ∧
    (ad.toNat = owCfgAddr ch.val → write = exec (.owCfg ch ⟨o, v⟩) s) ∧
    (ad.toNat = recCfgAddr n.val → write = exec (.recClkCfg n ⟨o, v⟩) s) ∧
    (ad.toNat = ctlAddr clsClk 0 0 → write = exec (.clkSyncCtrl ⟨o, v⟩) s) ∧
    (ad.toNat = ctlAddr clsPwr d.val 0 → write = exec (.pwrDomReq d ⟨o, v⟩) s) ∧
    (ad.toNat = ctlAddr clsMate 0 0 → write = exec (.mateLinkEn ⟨o, v⟩) s)

/-- Power and reset lose what is volatile, start-up chooses, and a store lands in the other copy (R438, R439, R440, R443,
R463, R532, R533, R535, R549, R556, R557, R528). Loss of power, a restart and the reset land leave SEALED, RELEASED
and nothing volatile, the NVM as it stood (a store under way is reported), the census with power kept; R0 samples the
straps; keys are derived once; without an owner the package is SEALED, else it boots the pinned or newer valid bank,
or is quarantined; started firmware loads the NVM starter where it opens and its loaf passes, and STANDBY follows;
link events are counted. A finished STORE makes the copy that was not current the current one, with the next SEQ. -/
def Obligations.PowerResetAndStart : Prop :=
  ∀ (c : VinStop) (st : Straps) (x : PcieErr) (b : Bool) (s : State), Safety.tablesOk s = true →
    let n := s.nvm
    let lost := fun (t : State) => t.mode = .sealed ∧ t.ilk = .released ∧ t.ctxAt = [] ∧ t.ctx = [] ∧ t.loaf = none ∧ t.bank = {} ∧
      t.engines = [] ∧ t.sess = [] ∧ t.pending = s.pending ∧ t.nvm.busy = none ∧
      t.nvm.result = (if n.busy.isSome then 4 else n.result) ∧ t.nvm.starter = n.starter ∧ t.nvm.owner = n.owner ∧
      t.nvm.fwA = n.fwA ∧ t.nvm.fwB = n.fwB ∧ t.nvm.floors = n.floors ∧ t.nvm.pair = n.pair
    let first := fun (new cause : Nat) =>
      ({ q := fld (cwGet s pkgCtrlAddr) 30 28, ty := 0x23,
         ws := [mkWord [(33, 0), (30, new), (26, cause), (22, s.sec.qcause), (21, b2n s.rdn.provisional)], s.tick] } : Due)
    let start := if s.claimed then 2 else 1
    let ready := s.phase = .released ∧ s.sec.keyed = true
    (s.phase = .off → exec (.vinUvlo c) s = .next s) ∧
    (s.phase ≠ .off → reaches (exec (.vinUvlo c) s) fun t => t.phase = .off ∧ t.vinHigh = decide (c = .ovlo) ∧ lost t ∧ t.cw = []) ∧
    (s.phase = .off → s.vinHigh = false → reaches (exec .vinPowerOn s) fun t => t.phase = .inReset ∧ lost t ∧ t.cw = []) ∧
    (s.phase ≠ .off ∨ s.vinHigh = true → exec .vinPowerOn s = .next s) ∧
    (s.phase = .off → s.vinHigh = true → reaches (exec .ovloRestart s) fun t => t.phase = .inReset ∧ t.vinHigh = false ∧ lost t) ∧
    (s.phase ≠ .off ∨ s.vinHigh = false → exec .ovloRestart s = .next s) ∧
    (s.phase ≠ .off → s.phase ≠ .dormant → reaches (exec .resetLAssert s) fun t => t.phase = .inReset ∧ lost t ∧
      (∀ a, cwGet t a = if censusWord a then cwGet s a else cwReset a)) ∧
    (s.phase = .off ∨ s.phase = .dormant → exec .resetLAssert s = .next s) ∧
    (s.phase = .inReset → exec (.resetRelease st) s = .next { s with phase := .released, straps := st }) ∧
    (s.phase ≠ .inReset → exec (.resetRelease st) s = .next s) ∧
    (s.phase = .released → exec .pufKeysDerived s = .next { s with sec := { s.sec with keyed := true } }) ∧
    (s.phase ≠ .released → exec .pufKeysDerived s = .next s) ∧
    (¬ ready → exec .bootFwSelect s = .next s) ∧
    (ready → s.mode = .sealed → ownerKey s = none → reaches (exec .bootFwSelect s) fun t => t.mode = .sealed ∧ t.phase = .running ∧
      t.modeCause = 1 ∧ t.claimed = false ∧ t.due = s.due ++ [first 0 1] ∧ t.intPend.testBit 20 = true) ∧
    (∀ f, ready → s.mode = .sealed → (ownerKey s).isSome = true → bootBank s = some f → reaches (exec .bootFwSelect s) fun t =>
      t.mode = .boot ∧ t.phase = .running ∧ t.modeCause = start ∧ t.sec.fw = some f ∧ t.due = s.due ++ [first 1 start]) ∧
    (ready → s.mode = .sealed → (ownerKey s).isSome = true → bootBank s = none → reaches (exec .bootFwSelect s) fun t =>
      t.mode = .quarantine ∧ t.modeCause = 0xA ∧ t.sec.qcause = 6 ∧ t.ilk = .released) ∧
    (∀ u v, candidate s n.fwA = some u → candidate s n.fwB = some v →
      bootBank s = some (if (floors s).pin = 2 ∨ ((floors s).pin ≠ 1 ∧ u.svn < v.svn) then (true, v.svn) else (false, u.svn))) ∧
    (s.mode = .boot → s.sec.fw.isSome = true → exec .fwStart s = .next { s with sec := { s.sec with started := true } }) ∧
    (s.mode ≠ .boot ∨ s.sec.fw = none → exec .fwStart s = .next s) ∧
    (s.mode ≠ .boot ∨ s.sec.started = false ∨ n.starter.current = none → exec (.bootStarterLoad b b) s = .next s) ∧
    (∀ m y l, s.mode = .boot → s.sec.started = true → n.starter.current = some (m, y) →
      exec (.bootStarterLoad false b) s = .next (cenInc 6 s) ∧
      (y.loaf = some l → starterLoafOk s y l = false → exec (.bootStarterLoad true b) s = .next (cenInc 2 s)) ∧
      (y.loaf = some l → exec (.bootStarterLoad true false) s = .next (cenInc 2 s)) ∧
      (y.loaf = some l → starterLoafOk s y l = true → s.rdn.grant = false → reaches (exec (.bootStarterLoad true true) s) fun t =>
        t.mode = .standby ∧ t.modeCause = 3 ∧ t.loaf = some l ∧ t.bank = { y with valid := true, fromNvm := true } ∧
        t.rdn = { s.rdn with want := 5 })) ∧
    (powered s = true → s.perst = false → exec .pcieLinkRetrain s = .next (cenInc 52 s) ∧
      exec (.pcieError x) s = .next (cenInc (if x = .correctable then 53 else 54) s)) ∧
    (powered s = false ∨ s.perst = true → exec .pcieLinkRetrain s = .next s ∧ exec (.pcieError x) s = .next s) ∧
    (n.busy = none → exec .storeComplete s = .next s) ∧
    (∀ j, n.busy = some j → reaches (exec .storeComplete s) fun t => t.nvm.busy = none ∧ t.nvm.result = 0 ∧
      t.nvm.stores = min (n.stores + 1) 0xFFFFFF ∧
      (∀ y, j = .starter y → newCopy n.starter t.nvm.starter y ∧ t.nvm.fwA = n.fwA ∧ t.nvm.owner = n.owner) ∧
      (∀ f, j = .floors f → newCopy n.floors t.nvm.floors f ∧ t.nvm.starter = n.starter ∧ t.nvm.owner = n.owner) ∧
      (∀ l, j = .pair l → newCopy n.pair t.nvm.pair l ∧ t.nvm.starter = n.starter ∧ t.nvm.owner = n.owner) ∧
      (∀ r, j = .owner 1 r → newCopy n.owner t.nvm.owner r ∧ t.nvm.starter = n.starter ∧ t.resetDue = true ∧ t.claimed = true) ∧
      (∀ im, j = .fw im → t.nvm.starter = n.starter ∧
        (∀ v, s.sec.fw = some (true, v) → t.nvm.fwA = some im ∧ t.nvm.fwB = n.fwB) ∧
        (∀ v, s.sec.fw = some (false, v) → t.nvm.fwB = some im ∧ t.nvm.fwA = n.fwA)))

/-- Counters take what is written plus the increment; the census is cleared (R371, R382). A write to PCk leaves the value
written plus the increment of its cycle (none while frozen), wrapped past the top with OVF set and the carry given to
a chained neighbour, or lost with OVF at a frozen one. A write to CEN_CLR clears CEN00 to CEN55, and with bit 35 CEN56
to CEN63 too; the census is cleared at power-on and whenever its domain loses power. -/
def Obligations.CountersAreWrittenAndCleared : Prop :=
  ∀ (e : EngId) (k : Fin 8) (v : Word) (inc : Fin 3) (x : VinStop) (s : State), Safety.tablesOk s = true →
    let pc := fun (i : Nat) => pcAddr e.val i
    let frozen := fun (i : Nat) => (cwGet s (pc 0x18)).getLsbD (28 + i) = true
    let chained := fun (i : Nat) => (cwGet s (pc (0x10 + i))).getLsbD 35 = true
    let sum := v.toNat + inc.val
    let cen := fun (n : Nat) => ctlAddr clsCen 0 n
    (frozen k.val → reaches (exec (.pcCounterWrite e k v inc) s) fun t => cwGet t (pc k.val) = v ∧ cwKept s t [pc k.val] ∧
      t = { s with cw := t.cw }) ∧
    (¬ frozen k.val → sum < 2 ^ 36 → reaches (exec (.pcCounterWrite e k v inc) s) fun t =>
      cwGet t (pc k.val) = BitVec.ofNat 36 sum ∧ cwKept s t [pc k.val] ∧ t = { s with cw := t.cw }) ∧
    (¬ frozen k.val → 2 ^ 36 ≤ sum → reaches (exec (.pcCounterWrite e k v inc) s) fun t =>
      cwGet t (pc k.val) = BitVec.ofNat 36 (sum - 2 ^ 36) ∧ (cwGet t (pc 0x19)).getLsbD (28 + k.val) = true ∧
      (k.val < 7 → chained k.val → ¬ frozen (k.val + 1) → cwGet t (pc (k.val + 1)) = cwGet s (pc (k.val + 1)) + 1) ∧
      (k.val < 7 → chained k.val → frozen (k.val + 1) → cwGet t (pc (k.val + 1)) = cwGet s (pc (k.val + 1)) ∧
        (cwGet t (pc 0x19)).getLsbD (28 + k.val + 1) = true) ∧
      (k.val = 7 ∨ ¬ chained k.val → cwKept s t [pc k.val, pc 0x19]) ∧
      (∀ a, a ∉ pc 0x19 :: (List.range 8).map pc → cwGet t a = cwGet s a) ∧ t = { s with cw := t.cw }) ∧
    (reaches (exec (.cenClr v) s) fun t => (∀ n, n < 56 → cwGet t (cen n) = 0) ∧
      (∀ n, 56 ≤ n → n < 64 → cwGet t (cen n) = if v.getLsbD 35 then 0 else cwGet s (cen n)) ∧
      (∀ a, (∀ n, n < 64 → a ≠ cen n) → cwGet t a = cwGet s a) ∧ t = { s with cw := t.cw }) ∧
    (s.phase = .off → s.vinHigh = false → reaches (exec .vinPowerOn s) fun t => ∀ n, n < 64 → cwGet t (cen n) = 0) ∧
    (s.phase ≠ .off → reaches (exec (.vinUvlo x) s) fun t => ∀ n, n < 64 → cwGet t (cen n) = 0) ∧
    (s.phase = .dormant → reaches (exec (.dormantWake true) s) fun t => ∀ n, n < 64 → cwGet t (cen n) = 0)

/-- The guest reads what is marked for it; debug acts only within an accepted scope (R456, R457, R489, R490, R491, R492,
R493, 14_host.md Table 14-11, 14_host.md Table 14-12). A guest write of the wrong length is NAKed; the address, offset
and nonce are kept as written; a read returns the G-marked fields of the word at the address with a PEC, or zeros and
a violation, and the address moves on; a second nonce within a second is refused and the report stays; an attestation
leaves 540 bytes. Boundary scan captures the lands and, but for SAMPLE, drives them; an accepted token, in TEST or
QUARANTINE, unlocks and erases, a rejected one is a violation and the nonce changes; DBG_CFG and DBG_TRACE outside
their scope select the bypass register and are violations. -/
def Obligations.GuestAndDebugPorts : Prop :=
  ∀ (bs : List (Fin 256)) (m : Nat) (w d : List Bool) (ad : BitVec 24) (v : Word) (ls : List (BitVec 288)) (s : State),
    Safety.tablesOk s = true →
    let up := powered s = true ∧ domRuns s 48 = true
    let g := s.guest
    let bytes := bs.map (·.val)
    let nak := { s with out := .guestNak :: s.out }
    let reply := fun (t : State) (l : List Nat) => { t with out := .guest (l ++ [checkOf 3 (guestReadByte s :: l)]) :: s.out }
    let a := ad.toNat
    let bit := if a = traceSelAddr then 1 else 0
    let barred := exec (.dbgCfg true ad v) s = .next (violation 6 69 0
      { s with jtag := { s.jtag with ir := 0xFF }, out := .jtag [false] :: s.out })
    (¬ up → ∀ c, c ∈ [Instr.guestAddr (.write bs), .guestAttNonce (.write bs), .guestAttStat (.read m), .guestAttOff (.read m)] →
      exec c s = .next s) ∧
    (up →
      (bs.length ≠ 3 → exec (.guestAddr (.write bs)) s = .next nak) ∧ (bs.length ≠ 32 → exec (.guestAttNonce (.write bs)) s = .next nak) ∧
      (bs ≠ [] → exec (.guestAttStat (.write bs)) s = .next nak) ∧ (bs.length ≠ 2 → exec (.guestAttOff (.write bs)) s = .next nak) ∧
      (∀ x y z, exec (.guestAddr (.write [x, y, z])) s =
        .next { s with guest := { g with cmd := 1, addr := x.val + 256 * y.val + 65536 * z.val } }) ∧
      (∀ x y, exec (.guestAttOff (.write [x, y])) s = .next { s with guest := { g with cmd := 0x12, off := x.val + 256 * y.val } }) ∧
      exec (.guestAttStat (.write [])) s = .next { s with guest := { g with cmd := 0x11 } } ∧
      (bs.length = 32 → tickCount s < g.lastAt → exec (.guestAttNonce (.write bs)) s =
        .next { s with guest := { g with cmd := 0x10, stat := 3 } }) ∧
      (bs.length = 32 → g.lastAt ≤ tickCount s → exec (.guestAttNonce (.write bs)) s =
        .next { s with guest := { g with
          cmd := 0x10, stat := 1, report := [], nonce := bytes, lastAt := tickCount s + 8000 } }) ∧
      (g.cmd = 1 → guestMay s (g.addr % 2 ^ 24) = true → exec (.guestAddr (.read 5)) s =
        .next (reply { s with guest := { g with addr := (g.addr + 1) % 2 ^ 24 } } (leBytes 5 (guestWord s (g.addr % 2 ^ 24)).toNat))) ∧
      (g.cmd = 1 → guestMay s (g.addr % 2 ^ 24) = false → reaches (exec (.guestAddr (.read 5)) s) fun t =>
        t.guest = { g with addr := (g.addr + 1) % 2 ^ 24 } ∧ 5 ∈ t.violated ∧
        t.out.head? = some (.guest ([0, 0, 0, 0, 0] ++ [checkOf 3 [guestReadByte s, 0, 0, 0, 0, 0]]))) ∧
      (g.cmd = 0x11 → exec (.guestAttStat (.read 1)) s = .next (reply s [g.stat])) ∧
      (g.cmd = 0x12 → exec (.guestAttOff (.read m)) s =
        .next (reply s ((List.range m).map fun i => g.report.getD (g.off + i) 0))) ∧
      (g.cmd ≠ 0x12 → exec (.guestAttOff (.read m)) s = .next s)) ∧
    exec .guestSclTimeout s = .next { s with guest := { g with cmd := 0, addr := 0, off := 0 } } ∧
    (g.stat = 1 → reaches (exec .attestComplete s) fun t => t.guest = { g with stat := 2, report := t.guest.report } ∧
      t.guest.report.length = 540 ∧ t = { s with guest := t.guest, freeUses := t.freeUses }) ∧
    (g.stat ≠ 1 → exec .attestComplete s = .next s) ∧
    (s.phase = .off → ∀ c, c ∈ [Instr.extest w d, .samplePreload w d, .extestPulse w d, .extestTrain w d, .bypass d, .dbgNonce] →
      exec c s = .next s) ∧
    (s.phase ≠ .off →
      (let scanned := fun (code : Nat) (out : List Out) =>
        Host.Outcome.next (φ := Fault) (ρ := Refusal)
          { s with jtag := { s.jtag with ir := code, bsr := d, upd := d }, out := out }
       exec (.extest w d) s = scanned 0 (.lands 0 d :: .jtag w :: s.out) ∧ exec (.samplePreload w d) s = scanned 1 (.jtag w :: s.out) ∧
       exec (.extestPulse w d) s = scanned 2 (.lands 2 d :: .jtag w :: s.out) ∧
       exec (.extestTrain w d) s = scanned 3 (.lands 3 d :: .jtag w :: s.out)) ∧
      exec (.bypass d) s =
        .next { s with jtag := { s.jtag with ir := 0xFF }, out := .jtag ((false :: d).take d.length) :: s.out } ∧
      exec .dbgNonce s = .next { s with
        jtag := { s.jtag with ir := 0x10 }, out := .jtag ((List.range 256).map s.sec.nonce.toNat.testBit) :: s.out }) ∧
    (powered s = false → ∀ c, c ∈ [Instr.dbgToken ls true, .dbgCfg true ad v, .dbgTrace] → exec c s = .next s) ∧
    (powered s = true →
      (s.mode = .test ∨ s.mode = .quarantine → (ownerKey s).isSome = true → tokenBodyOk s ls = true →
        reaches (exec (.dbgToken ls true) s) fun t => t.sec.unlocked = true ∧ t.sec.scope = lineByte ls 2 ∧ t.sec.slots = 0 ∧
          t.sec.sealed = none ∧ t.bank = {} ∧ t.spare = {} ∧ t.link.st = .down ∧ (∀ q, q < 4 → sessGet t q = {}) ∧ t.mode = s.mode) ∧
      (s.mode ≠ .test ∧ s.mode ≠ .quarantine ∨ tokenBodyOk s ls = false → reaches (exec (.dbgToken ls true) s) fun t =>
        t.sec.unlocked = s.sec.unlocked ∧ t.sec.slots = s.sec.slots ∧ t.bank = s.bank ∧ 6 ∈ t.violated ∧ t.mode = s.mode) ∧
      (debugOpen s bit = false → barred) ∧
      (debugOpen s bit = true → a = traceSelAddr ∨ rootOnly a = false → exec (.dbgCfg true ad v) s =
        .next { s with jtag := { s.jtag with ir := 0x12, staged := s.jtag.staged ++ [(a, v)] } }) ∧
      (debugOpen s 0 = true → a ≠ traceSelAddr → rootOnly a = false → (wordStore a).isSome = true → exec (.dbgCfg false ad v) s =
        .next { s with
          jtag := { s.jtag with ir := 0x12 }, out := .jtag ((List.range 36).map (readWord s a).toNat.testBit) :: s.out }) ∧
      (debugOpen s 1 = true → exec .dbgTrace s = .next { s with
        jtag := { s.jtag with ir := 0x13 }, out := .jtag (s.trace.flatMap fun x => (List.range 16).map x.testBit) :: s.out }) ∧
      (debugOpen s 1 = false → exec .dbgTrace s = .next (violation 6 69 0
        { s with jtag := { s.jtag with ir := 0xFF }, out := .jtag [false] :: s.out }))) ∧
    (debugOpen s 1 = true → fld v 35 29 ≤ 64 → exec (.traceSel v) s = .next { s with
      jtag := { s.jtag with sel := v &&& 0xFF0000000 }, trace := if v.getLsbD 28 then [] else s.trace }) ∧
    (debugOpen s 1 = false ∨ 64 < fld v 35 29 → exec (.traceSel v) s = .next s)

/-- The tick counter advances, passes start and are stopped, a window leaves nothing behind (R11). At every tick boundary
the tick counter increments, wrapping to zero with the wrap count incremented; HB_OUT toggles only where every pass of
the tick ended and the mode is not QUARANTINE; an accepted loaf runs; the buffers are latched. Passes start with g1 to
g3 set; a pass that still runs at tick +122 µs is stopped, its effects and item gone, and counted. A commit window
leaves no completion, no record due and no write of the debug port, and carries out a reset asked for. A holder seals
its starter and queues tier 1 and tier 2 for the mate. -/
def Obligations.TheTickRuns : Prop :=
  ∀ (m : Meas) (s : State), Safety.tablesOk s = true →
    let up := powered s = true
    let holds := s.ilk = .holding ∧ (s.mode = .active ∨ (s.mode = .takeover ∧ s.rdn.applied = true))
    let beats := s.mode ≠ .quarantine ∧ ∀ e, e ∈ s.engines → e.2.started = true → e.2.ended = true
    let new := starterOf s
    let delta : MateMsg := .tier1 s.tick s.wrap (deltaOf s.bank new)
    let refresh : MateMsg := .tier2 s.tick s.wrap (tier2Entries s)
    (powered s = false → ∀ c, c ∈ [Instr.tickBoundary m, .passStart, .passOverrun, .commitWindow, .tier1DeltaSeal] →
      exec c s = .next s) ∧
    (up → reaches (exec (.tickBoundary m) s) fun t => t.tick = s.tick + 1 ∧
      t.wrap = (if s.tick = 0xFFFFFFFFF then s.wrap + 1 else s.wrap) ∧
      (beats → t.hbOut = !s.hbOut) ∧ (¬ beats → t.hbOut = s.hbOut) ∧ t.meas = m ∧
      (∀ e, (engGet t e).tickCyc = 0 ∧ (engGet t e).started = false ∧ (engGet t e).ended = false) ∧ t.violated = [] ∧
      (s.loafDue = true → t.loaf = s.loafNext ∧ t.loafNext = none ∧ t.loafDue = false) ∧
      (s.loafDue = false → t.loaf = s.loaf ∧ t.mode = s.mode ∧ t.ohT0 = s.oh ∧ t.oh = s.oh) ∧ t.pending = s.pending) ∧
    (up → reaches (exec .passStart s) fun t => t.mode = s.mode ∧ t.pending = s.pending ∧
      (∀ u, u < 64 → unitPasses s u = true → (engGet t u).running = .pass ∧ (engGet t u).started = true ∧
        (engGet t u).ended = false ∧ (engGet t u).pc = 0 ∧ (engGet t u).staged = [] ∧
        regRead (engGet t u).regs 1 = BitVec.ofNat 36 u ∧ regRead (engGet t u).regs 2 = s.tick ∧
        regRead (engGet t u).regs 3 = s.pmTime) ∧
      (∀ u, u < 64 → unitPasses s u = false → (engGet t u).running = (engGet s u).running ∧
        (engGet t u).regs = (engGet s u).regs ∧ (engGet t u).started = (engGet s u).started) ∧
      (hubPasses s = true → (engGet t 64).running = .pass ∧ (engGet t 64).pc = 0)) ∧
    (up → reaches (exec .passOverrun s) fun t => t.mode = s.mode ∧ t.pending = s.pending ∧
      (∀ e, e < 65 → (engGet t e).running ≠ .pass) ∧
      (∀ e, e < 65 → (engGet s e).running = .pass → (engGet t e).running = .idle ∧ (engGet t e).staged = [] ∧
        (engGet t e).item = none ∧ cwGet t (pcAddr e 0x7F3) = satAdd (cwGet s (pcAddr e 0x7F3)) 1) ∧
      (∀ e, (engGet s e).running ≠ .pass → engGet t e = engGet s e)) ∧
    (up → reaches (exec .commitWindow s) fun t => t.batchesDone = [] ∧ t.due = [] ∧ t.jtag.staged = [] ∧ t.pending = s.pending ∧
      (s.resetDue = true → t.phase = .inReset ∧ t.mode = .sealed ∧ t.tick = 0)) ∧
    (up → holds → s.rdn.sweepTx = none → linkOn s = false → exec .tier1DeltaSeal s = .next { s with bank := new }) ∧
    (up → holds → s.mode = .active → s.rdn.sweepTx = none → linkOn s = true → s.link.st = .up →
      msgLines delta + msgLines refresh ≤ s.link.cr → reaches (exec .tier1DeltaSeal s) fun t => t.bank = new ∧
        t.link = { s.link with
          queue := s.link.queue ++ [delta, refresh], cr := s.link.cr - msgLines delta - msgLines refresh, high := t.link.high } ∧
        t = { s with bank := t.bank, link := t.link, rdn := { s.rdn with tier2 := t.rdn.tier2 } }) ∧
    (¬ holds → exec .tier1DeltaSeal s = .next s)

/-- The state after reset (R389, R528, 12_redundancy.md Table 12-12, 15_clocks_audio.md Table 15-10). After reset every
table is in canonical form; the queue of commands is empty; tick and wrap count are 0; the mode is SEALED, the
interlock RELEASED, the link DOWN; nothing is pending; every control word reads the reset value of its field map, as
BW of CLK_SYNC_CTRL, EXPAND of OW_CFG and TEST_EN of MATE_CTRL show; contexts, buffers, engine registers, queues and
sessions are empty (the engine registers, contexts and buffers at 0 are the model's choice, log entry 20). -/
def Obligations.ResetState : Prop :=
  let s := State.reset
  Safety.tablesOk s = true ∧ Safety.startersOk s = true ∧ Safety.oneHolder s = true ∧ s.pending = [] ∧
    s.tick = 0 ∧ s.wrap = 0 ∧ s.mode = .sealed ∧ s.ilk = .released ∧ s.link.st = .down ∧ s.intPend = 0 ∧ s.batch = none ∧
    s.loaf = none ∧ s.bank.valid = false ∧ s.due = [] ∧
    (∀ a, cwGet s a = cwReset a) ∧ (∀ id, ctxPlace s id = none) ∧ (∀ id w, ctxWord s id w = 0) ∧
    (∀ e g, regRead (engGet s e).regs g = 0) ∧ (∀ e, (engGet s e).running = .idle) ∧ (∀ i f w, ohWord s i f w = 0) ∧
    (∀ q, (hqGet s q).items = []) ∧ (∀ q, sessGet s q = {}) ∧ (∀ p, vloopGet s p = {}) ∧
    cwGet s (ctlAddr clsClk 0 0) = 0x080000000 ∧ cwGet s (owCfgAddr 5) = 0x000020000 ∧
    cwGet s (ctlAddr clsMate 0 0) = 0x040000000

/-- Every step keeps every table in canonical form (98_reader.md). Whatever command stands at the front of the queue, a
step from a state whose tables and starters are in canonical form (keys strictly rising, nothing listed that equals
what an unlisted key reads) leaves them so: equal machines are equal data. -/
def Obligations.EveryStepKeepsTheTables : Prop :=
  ∀ (s t : State), Safety.tablesOk s = true → Safety.startersOk s = true → step s = .next t →
    Safety.tablesOk t = true ∧ Safety.startersOk t = true

/-- No command stops, none touches the queue, and no engine instruction changes a role (R36, R40, 98_reader.md). Every
command, in every state, answers a next state and leaves the queue of waiting commands alone; an engine instruction
changes neither mode nor interlock nor phase nor grant nor conflict nor the tick, so the package drives its line
exactly where it did. -/
def Obligations.EveryCommandAnswersAndLeavesTheQueue : Prop :=
  ∀ (c : Instr) (s : State), ∃ t, exec c s = .next t ∧ t.pending = s.pending ∧
    (∀ i, issueOf c = some i → t.mode = s.mode ∧ t.ilk = s.ilk ∧ t.phase = s.phase ∧ t.rdn.grant = s.rdn.grant ∧
      t.rdn.conflict = s.rdn.conflict ∧ t.tick = s.tick ∧ t.wrap = s.wrap ∧ drivesLine t = drivesLine s)

/-- QUARANTINE is left only through reset (R528). Whatever command comes to a running package in QUARANTINE, it is in
QUARANTINE afterwards, or it has begun a reset or lost its power, with the mode of a reset package. -/
def Obligations.QuarantineIsLeftOnlyThroughReset : Prop :=
  ∀ (c : Instr) (s t : State), s.phase = .running → s.mode = .quarantine → exec c s = .next t →
    t.mode = .quarantine ∨ (t.phase = .inReset ∨ t.phase = .off) ∧ t.mode = .sealed
end

