-- ==== Sys2Proof/Laws/Dispatch.lean ====
section
/-! SUPPORT. What exec runs for each command, by name. -/

namespace Sys2Proof.Machine

theorem exec_tickBoundary (m : Meas) (s : State) : exec (.tickBoundary m) s = execTickBoundary m s := rfl
theorem exec_passStart (s : State) : exec .passStart s = execPassStart s := rfl
theorem exec_passOverrun (s : State) : exec .passOverrun s = execPassOverrun s := rfl
theorem exec_commitWindow (s : State) : exec .commitWindow s = execCommitWindow s := rfl
theorem exec_tier1DeltaSeal (s : State) : exec .tier1DeltaSeal s = execTier1DeltaSeal s := rfl
theorem exec_healthWordTx (s : State) : exec .healthWordTx s = execHealthWordTx s := rfl
theorem exec_nop (i : Iss) (s : State) : exec (.nop i) s = execNop i s := rfl
theorem exec_add (i : Iss) (gD gA gB : Reg) (s : State) : exec (.add i gD gA gB) s = execAdd i gD gA gB s := rfl
theorem exec_sub (i : Iss) (gD gA gB : Reg) (s : State) : exec (.sub i gD gA gB) s = execSub i gD gA gB s := rfl
theorem exec_and (i : Iss) (gD gA gB : Reg) (s : State) : exec (.and i gD gA gB) s = execAnd i gD gA gB s := rfl
theorem exec_or (i : Iss) (gD gA gB : Reg) (s : State) : exec (.or i gD gA gB) s = execOr i gD gA gB s := rfl
theorem exec_xor (i : Iss) (gD gA gB : Reg) (s : State) : exec (.xor i gD gA gB) s = execXor i gD gA gB s := rfl
theorem exec_shl (i : Iss) (gD gA : Reg) (amt : Amount) (s : State) :
    exec (.shl i gD gA amt) s = execShl i gD gA amt s := rfl
theorem exec_shr (i : Iss) (gD gA : Reg) (amt : Amount) (s : State) :
    exec (.shr i gD gA amt) s = execShr i gD gA amt s := rfl
theorem exec_sar (i : Iss) (gD gA : Reg) (amt : Amount) (s : State) :
    exec (.sar i gD gA amt) s = execSar i gD gA amt s := rfl
theorem exec_mov (i : Iss) (gD gA : Reg) (s : State) : exec (.mov i gD gA) s = execMov i gD gA s := rfl
theorem exec_sel (i : Iss) (gD gA gB : Reg) (p : Pred) (s : State) :
    exec (.sel i gD gA gB p) s = execSel i gD gA gB p s := rfl
theorem exec_min (i : Iss) (gD gA gB : Reg) (s : State) : exec (.min i gD gA gB) s = execMin i gD gA gB s := rfl
theorem exec_max (i : Iss) (gD gA gB : Reg) (s : State) : exec (.max i gD gA gB) s = execMax i gD gA gB s := rfl
theorem exec_satAdd (i : Iss) (gD gA gB : Reg) (s : State) :
    exec (.satAdd i gD gA gB) s = execSatAdd i gD gA gB s := rfl
theorem exec_cmpEq (i : Iss) (pT pF : Pred) (gA gB : Reg) (s : State) :
    exec (.cmpEq i pT pF gA gB) s = execCmpEq i pT pF gA gB s := rfl
theorem exec_cmpNe (i : Iss) (pT pF : Pred) (gA gB : Reg) (s : State) :
    exec (.cmpNe i pT pF gA gB) s = execCmpNe i pT pF gA gB s := rfl
theorem exec_cmpLt (i : Iss) (pT pF : Pred) (gA gB : Reg) (s : State) :
    exec (.cmpLt i pT pF gA gB) s = execCmpLt i pT pF gA gB s := rfl
theorem exec_cmpLtu (i : Iss) (pT pF : Pred) (gA gB : Reg) (s : State) :
    exec (.cmpLtu i pT pF gA gB) s = execCmpLtu i pT pF gA gB s := rfl
theorem exec_movi (i : Iss) (gD : Reg) (imm : BitVec 20) (s : State) :
    exec (.movi i gD imm) s = execMovi i gD imm s := rfl
theorem exec_movh (i : Iss) (gD gA : Reg) (imm : BitVec 16) (s : State) :
    exec (.movh i gD gA imm) s = execMovh i gD gA imm s := rfl
theorem exec_addImmediate (i : Iss) (gD gA : Reg) (imm : BitVec 20) (s : State) :
    exec (.addImmediate i gD gA imm) s = execAddImmediate i gD gA imm s := rfl
theorem exec_lex (i : IssA) (gD gA : Reg) (lane : Fin 4) (s : State) :
    exec (.lex i gD gA lane) s = execLex i gD gA lane s := rfl
theorem exec_lins (i : IssA) (gD gA gB : Reg) (lane : Fin 4) (s : State) :
    exec (.lins i gD gA gB lane) s = execLins i gD gA gB lane s := rfl
theorem exec_popc (i : IssA) (gD gA : Reg) (s : State) : exec (.popc i gD gA) s = execPopc i gD gA s := rfl
theorem exec_bip8 (i : IssA) (gD gA gB : Reg) (s : State) : exec (.bip8 i gD gA gB) s = execBip8 i gD gA gB s := rfl
theorem exec_ctxLd (i : IssA) (gD gA : Reg) (off : Fin 256) (word : Fin 128) (s : State) :
    exec (.ctxLd i gD gA off word) s = execCtxLd i gD gA off word s := rfl
theorem exec_ctxSt (i : IssA) (gD gA : Reg) (off : Fin 256) (word : Fin 128) (s : State) :
    exec (.ctxSt i gD gA off word) s = execCtxSt i gD gA off word s := rfl
theorem exec_ctxNext (i : IssA) (gD gA : Reg) (mask : BitVec 16) (s : State) :
    exec (.ctxNext i gD gA mask) s = execCtxNext i gD gA mask s := rfl
theorem exec_ctxId (i : IssA) (gD gA : Reg) (toHandle : Bool) (s : State) :
    exec (.ctxId i gD gA toHandle) s = execCtxId i gD gA toHandle s := rfl
theorem exec_ohGet (i : IssA) (gD gA : Reg) (off : Fin 256) (field word : Fin 64) (s : State) :
    exec (.ohGet i gD gA off field word) s = execOhGet i gD gA off field word s := rfl
theorem exec_ohPut (i : IssA) (gD gA : Reg) (off : Fin 256) (field word : Fin 64) (s : State) :
    exec (.ohPut i gD gA off field word) s = execOhPut i gD gA off field word s := rfl
theorem exec_defSet (i : IssA) (gA : Reg) (off : Fin 256) (bit : Fin 64) (s : State) :
    exec (.defSet i gA off bit) s = execDefSet i gA off bit s := rfl
theorem exec_defClr (i : IssA) (gA : Reg) (off : Fin 256) (bit : Fin 64) (s : State) :
    exec (.defClr i gA off bit) s = execDefClr i gA off bit s := rfl
theorem exec_alm (i : IssA) (gA : Reg) (off : Fin 256) (s : State) :
    exec (.alm i gA off) s = execAlm i gA off s := rfl
theorem exec_pmAdd (i : IssA) (gD gA : Reg) (off : Fin 256) (param : Fin 8) (s : State) :
    exec (.pmAdd i gD gA off param) s = execPmAdd i gD gA off param s := rfl
theorem exec_pmRoll (i : IssA) (gA : Reg) (off : Fin 256) (bin suspect : Bool) (s : State) :
    exec (.pmRoll i gA off bin suspect) s = execPmRoll i gA off bin suspect s := rfl
theorem exec_cfgR (i : IssA) (gD gA : Reg) (off : BitVec 16) (s : State) :
    exec (.cfgR i gD gA off) s = execCfgR i gD gA off s := rfl
theorem exec_cfgW (i : IssA) (gA gB : Reg) (off : BitVec 16) (s : State) :
    exec (.cfgW i gA gB off) s = execCfgW i gA gB off s := rfl
theorem exec_filtSet (i : IssA) (gA gB : Reg) (word : Fin 2) (s : State) :
    exec (.filtSet i gA gB word) s = execFiltSet i gA gB word s := rfl
theorem exec_filtGet (i : IssA) (gD gA : Reg) (word : Fin 4) (s : State) :
    exec (.filtGet i gD gA word) s = execFiltGet i gD gA word s := rfl
theorem exec_protReqClear (w : ReqStep) (s : State) : exec (.protReqClear w) s = execProtReqClear w s := rfl
theorem exec_protReqLo (w : ReqStep) (s : State) : exec (.protReqLo w) s = execProtReqLo w s := rfl
theorem exec_protReqFs (w : ReqStep) (s : State) : exec (.protReqFs w) s = execProtReqFs w s := rfl
theorem exec_protReqMsP (w : ReqStep) (s : State) : exec (.protReqMsP w) s = execProtReqMsP w s := rfl
theorem exec_protReqMsW (w : ReqStep) (s : State) : exec (.protReqMsW w) s = execProtReqMsW w s := rfl
theorem exec_protReqExer (w : ReqStep) (s : State) : exec (.protReqExer w) s = execProtReqExer w s := rfl
theorem exec_protReqWtr (w : ReqStep) (s : State) : exec (.protReqWtr w) s = execProtReqWtr w s := rfl
theorem exec_protReqDnr (w : ReqStep) (s : State) : exec (.protReqDnr w) s = execProtReqDnr w s := rfl
theorem exec_protReqNr (w : ReqStep) (s : State) : exec (.protReqNr w) s = execProtReqNr w s := rfl
theorem exec_protSt (i : IssA) (gD gA : Reg) (s : State) : exec (.protSt i gD gA) s = execProtSt i gD gA s := rfl
theorem exec_deckW (i : IssA) (gA gB : Reg) (s : State) : exec (.deckW i gA gB) s = execDeckW i gA gB s := rfl
theorem exec_deckRd (i : IssA) (gD gA : Reg) (standby : Bool) (s : State) :
    exec (.deckRd i gD gA standby) s = execDeckRd i gD gA standby s := rfl
theorem exec_deckSwap (i : IssA) (d0 d1 : Bool) (s : State) :
    exec (.deckSwap i d0 d1) s = execDeckSwap i d0 d1 s := rfl
theorem exec_qOpen (i : IssA) (gA : Reg) (q : HqId) (s : State) : exec (.qOpen i gA q) s = execQOpen i gA q s := rfl
theorem exec_qPut (i : IssA) (gA : Reg) (s : State) : exec (.qPut i gA) s = execQPut i gA s := rfl
theorem exec_qClose (i : IssA) (s : State) : exec (.qClose i) s = execQClose i s := rfl
theorem exec_qAbort (i : IssA) (s : State) : exec (.qAbort i) s = execQAbort i s := rfl
theorem exec_chkSeed (i : IssA) (gA : Reg) (fold : Bool) (mode : Fin 6) (wait : Fin 33) (s : State) :
    exec (.chkSeed i gA fold mode wait) s = execChkSeed i gA fold mode wait s := rfl
theorem exec_chkFeed (i : IssA) (gA : Reg) (lanes : Fin 4) (wait : Fin 33) (s : State) :
    exec (.chkFeed i gA lanes wait) s = execChkFeed i gA lanes wait s := rfl
theorem exec_chkRes (i : IssA) (gD : Reg) (wait : Fin 33) (s : State) :
    exec (.chkRes i gD wait) s = execChkRes i gD wait s := rfl
theorem exec_pcSel (i : IssA) (gA : Reg) (k : Fin 8) (s : State) : exec (.pcSel i gA k) s = execPcSel i gA k s := rfl
theorem exec_pcRd (i : IssA) (gD : Reg) (shadow : Bool) (k : Fin 10) (s : State) :
    exec (.pcRd i gD shadow k) s = execPcRd i gD shadow k s := rfl
theorem exec_snap (i : IssA) (s : State) : exec (.snap i) s = execSnap i s := rfl
theorem exec_snapInEdge (s : State) : exec .snapInEdge s = execSnapInEdge s := rfl
theorem exec_snapCapture (merged : Nat) (s : State) : exec (.snapCapture merged) s = execSnapCapture merged s := rfl
theorem exec_br (i : Iss) (off : Fin 8192) (s : State) : exec (.br i off) s = execBr i off s := rfl
theorem exec_loop (i : IssA) (n : Fin 4096) (last : Fin 8192) (s : State) :
    exec (.loop i n last) s = execLoop i n last s := rfl
theorem exec_loopContext (i : IssA) (gD : Reg) (mask : BitVec 16) (last : Fin 8192) (s : State) :
    exec (.loopContext i gD mask last) s = execLoopContext i gD mask last s := rfl
theorem exec_endl (i : Iss) (s : State) : exec (.endl i) s = execEndl i s := rfl
theorem exec_call (i : IssA) (target : Fin 8192) (s : State) : exec (.call i target) s = execCall i target s := rfl
theorem exec_ret (i : IssA) (s : State) : exec (.ret i) s = execRet i s := rfl
theorem exec_haltTick (i : IssA) (s : State) : exec (.haltTick i) s = execHaltTick i s := rfl
theorem exec_storeStarter (i : IssA) (gD gA gB : Reg) (s : State) :
    exec (.storeStarter i gD gA gB) s = execStoreStarter i gD gA gB s := rfl
theorem exec_storeFw (i : IssA) (gD gA gB : Reg) (sigOk : Bool) (s : State) :
    exec (.storeFw i gD gA gB sigOk) s = execStoreFw i gD gA gB sigOk s := rfl
theorem exec_storeOwner (i : IssA) (gD gA gB : Reg) (sigOk bindOk : Bool) (s : State) :
    exec (.storeOwner i gD gA gB sigOk bindOk) s = execStoreOwner i gD gA gB sigOk bindOk s := rfl
theorem exec_storeFloors (i : IssA) (gD gA gB : Reg) (s : State) :
    exec (.storeFloors i gD gA gB) s = execStoreFloors i gD gA gB s := rfl
theorem exec_storePair (i : IssA) (gD gA gB : Reg) (sigOk : Bool) (s : State) :
    exec (.storePair i gD gA gB sigOk) s = execStorePair i gD gA gB sigOk s := rfl
theorem exec_storeComplete (s : State) : exec .storeComplete s = execStoreComplete s := rfl
theorem exec_seal (i : IssA) (gD : Reg) (s : State) : exec (.seal i gD) s = execSeal i gD s := rfl
theorem exec_attest (i : IssA) (gD gA gB : Reg) (s : State) :
    exec (.attest i gD gA gB) s = execAttest i gD gA gB s := rfl
theorem exec_loafLoad (i : IssA) (gD gA gB : Reg) (sigOk : Bool) (s : State) :
    exec (.loafLoad i gD gA gB sigOk) s = execLoafLoad i gD gA gB sigOk s := rfl
theorem exec_keyGen (i : IssA) (gD gB : Reg) (slot : Fin 4) (s : State) :
    exec (.keyGen i gD gB slot) s = execKeyGen i gD gB slot s := rfl
theorem exec_keyUseSign (i : IssA) (gD gA gB : Reg) (slot : Fin 4) (s : State) :
    exec (.keyUseSign i gD gA gB slot) s = execKeyUseSign i gD gA gB slot s := rfl
theorem exec_keyUseCertify (i : IssA) (gD gA gB : Reg) (slot : Fin 4) (s : State) :
    exec (.keyUseCertify i gD gA gB slot) s = execKeyUseCertify i gD gA gB slot s := rfl
theorem exec_keyUseAgree (i : IssA) (gD gA gB : Reg) (slot : Fin 4) (s : State) :
    exec (.keyUseAgree i gD gA gB slot) s = execKeyUseAgree i gD gA gB slot s := rfl
theorem exec_power (i : IssA) (gA : Reg) (ladder : Fin 8) (s : State) :
    exec (.power i gA ladder) s = execPower i gA ladder s := rfl
theorem exec_mateSend (i : IssA) (gD gA gB : Reg) (s : State) :
    exec (.mateSend i gD gA gB) s = execMateSend i gD gA gB s := rfl
theorem exec_sessionClose (i : IssA) (gD : Reg) (s : State) :
    exec (.sessionClose i gD) s = execSessionClose i gD s := rfl
theorem exec_sessionRenew (i : IssA) (gD : Reg) (s : State) :
    exec (.sessionRenew i gD) s = execSessionRenew i gD s := rfl
theorem exec_cqBaseWrite (q : CmdRingId) (field : Fin 3) (v : BitVec 32) (s : State) :
    exec (.cqBaseWrite q field v) s = execCqBaseWrite q field v s := rfl
theorem exec_cqTail (q : CmdRingId) (v : BitVec 32) (s : State) : exec (.cqTail q v) s = execCqTail q v s := rfl
theorem exec_commandFetch (q : CmdRingId) (e : CmdEntry) (s : State) :
    exec (.commandFetch q e) s = execCommandFetch q e s := rfl
theorem exec_cqBatch (q : CmdRingId) (s : State) : exec (.cqBatch q) s = execCqBatch q s := rfl
theorem exec_cqOpen (q : CmdRingId) (s : State) : exec (.cqOpen q) s = execCqOpen q s := rfl
theorem exec_cqProof (q : CmdRingId) (s : State) : exec (.cqProof q) s = execCqProof q s := rfl
theorem exec_proofTimeout (q : CmdRingId) (s : State) : exec (.proofTimeout q) s = execProofTimeout q s := rfl
theorem exec_batchStart (s : State) : exec .batchStart s = execBatchStart s := rfl
theorem exec_hrHead (q : HqId) (v : BitVec 32) (s : State) : exec (.hrHead q v) s = execHrHead q v s := rfl
theorem exec_hqCredit (q : HqId) (v : BitVec 32) (s : State) : exec (.hqCredit q v) s = execHqCredit q v s := rfl
theorem exec_hostRingWrite (q : HqId) (s : State) : exec (.hostRingWrite q) s = execHostRingWrite q s := rfl
theorem exec_hrCoalTimeout (q : HqId) (s : State) : exec (.hrCoalTimeout q) s = execHrCoalTimeout q s := rfl
theorem exec_intClr (v : BitVec 32) (s : State) : exec (.intClr v) s = execIntClr v s := rfl
theorem exec_recGo (addr : BitVec 64) (image : List (BitVec 288)) (sigOk : Bool) (s : State) :
    exec (.recGo addr image sigOk) s = execRecGo addr image sigOk s := rfl
theorem exec_bar0Violation (off : BitVec 24) (s : State) :
    exec (.bar0Violation off) s = execBar0Violation off s := rfl
theorem exec_hostCtxCreate (o : Origin) (kind : Fin 16) (id : CtxId) (s : State) :
    exec (.hostCtxCreate o kind id) s = execHostCtxCreate o kind id s := rfl
theorem exec_hostCtxDelete (o : Origin) (id : CtxId) (s : State) :
    exec (.hostCtxDelete o id) s = execHostCtxDelete o id s := rfl
theorem exec_hostCtxSetKind (o : Origin) (kind : Fin 16) (id : CtxId) (s : State) :
    exec (.hostCtxSetKind o kind id) s = execHostCtxSetKind o kind id s := rfl
theorem exec_hostCtxSetPin (o : Origin) (id : CtxId) (s : State) :
    exec (.hostCtxSetPin o id) s = execHostCtxSetPin o id s := rfl
theorem exec_hostCtxClearPin (o : Origin) (id : CtxId) (s : State) :
    exec (.hostCtxClearPin o id) s = execHostCtxClearPin o id s := rfl
theorem exec_controlWordWrite (o : Origin) (addr : BitVec 24) (v : Word) (s : State) :
    exec (.controlWordWrite o addr v) s = execControlWordWrite o addr v s := rfl
theorem exec_laneCfg (side : Side) (quad : Fin 16) (ws : List LaneWrite) (s : State) :
    exec (.laneCfg side quad ws) s = execLaneCfg side quad ws s := rfl
theorem exec_vcoCalDone (side : Side) (quad : Fin 16) (s : State) :
    exec (.vcoCalDone side quad) s = execVcoCalDone side quad s := rfl
theorem exec_lanePllLock (l : LaneRef) (s : State) : exec (.lanePllLock l) s = execLanePllLock l s := rfl
theorem exec_laneCdrLock (l : LaneRef) (s : State) : exec (.laneCdrLock l) s = execLaneCdrLock l s := rfl
theorem exec_laneAdaptDone (l : LaneRef) (eq : List Word) (snr : Fin 256) (s : State) :
    exec (.laneAdaptDone l eq snr) s = execLaneAdaptDone l eq snr s := rfl
theorem exec_laneDown (l : LaneRef) (cdrLost sigLost : Bool) (s : State) :
    exec (.laneDown l cdrLost sigLost) s = execLaneDown l cdrLost sigLost s := rfl
theorem exec_fecCfg (l : LaneRef) (w : CtlWrite) (s : State) : exec (.fecCfg l w) s = execFecCfg l w s := rfl
theorem exec_fecCntClr (l : LaneRef) (s : State) : exec (.fecCntClr l) s = execFecCntClr l s := rfl
theorem exec_laneEqCtrl (l : LaneRef) (w : CtlWrite) (s : State) :
    exec (.laneEqCtrl l w) s = execLaneEqCtrl l w s := rfl
theorem exec_laneTxFfe (l : LaneRef) (i : Fin 2) (w : CtlWrite) (s : State) :
    exec (.laneTxFfe l i w) s = execLaneTxFfe l i w s := rfl
theorem exec_eqFenceHit (l : LaneRef) (loop : EqLoop) (s : State) :
    exec (.eqFenceHit l loop) s = execEqFenceHit l loop s := rfl
theorem exec_eqMarginLow (l : LaneRef) (snr : Fin 256) (s : State) :
    exec (.eqMarginLow l snr) s = execEqMarginLow l snr s := rfl
theorem exec_linkTrainDone (l : LaneRef) (ffe0 ffe1 : Word) (s : State) :
    exec (.linkTrainDone l ffe0 ffe1) s = execLinkTrainDone l ffe0 ffe1 s := rfl
theorem exec_linkTrainFail (l : LaneRef) (s : State) : exec (.linkTrainFail l) s = execLinkTrainFail l s := rfl
theorem exec_prbsGenEn (o : Origin) (l : LaneRef) (pat : Fin 16) (inv : Bool) (s : State) :
    exec (.prbsGenEn o l pat inv) s = execPrbsGenEn o l pat inv s := rfl
theorem exec_prbsChkEn (o : Origin) (l : LaneRef) (pat : Fin 16) (s : State) :
    exec (.prbsChkEn o l pat) s = execPrbsChkEn o l pat s := rfl
theorem exec_prbsErrInj (o : Origin) (l : LaneRef) (s : State) :
    exec (.prbsErrInj o l) s = execPrbsErrInj o l s := rfl
theorem exec_prbsLock (l : LaneRef) (bits errs : Nat) (s : State) :
    exec (.prbsLock l bits errs) s = execPrbsLock l bits errs s := rfl
theorem exec_prbsLockLoss (l : LaneRef) (bits errs : Nat) (s : State) :
    exec (.prbsLockLoss l bits errs) s = execPrbsLockLoss l bits errs s := rfl
theorem exec_laneLpbk (o : Origin) (l : LaneRef) (near far : Bool) (s : State) :
    exec (.laneLpbk o l near far) s = execLaneLpbk o l near far s := rfl
theorem exec_clkRefCtrl (r : RegionId) (w : CtlWrite) (s : State) :
    exec (.clkRefCtrl r w) s = execClkRefCtrl r w s := rfl
theorem exec_refclkLoss (r : RegionId) (n : RefName) (s : State) :
    exec (.refclkLoss r n) s = execRefclkLoss r n s := rfl
theorem exec_refclkRequalify (r : RegionId) (n : RefName) (s : State) :
    exec (.refclkRequalify r n) s = execRefclkRequalify r n s := rfl
theorem exec_frmCfg (r : StreamRef) (ws : List FrmWrite) (s : State) :
    exec (.frmCfg r ws) s = execFrmCfg r ws s := rfl
theorem exec_frmThr (r : StreamRef) (w : CtlWrite) (s : State) : exec (.frmThr r w) s = execFrmThr r w s := rfl
theorem exec_frmTime (r : StreamRef) (w : CtlWrite) (s : State) : exec (.frmTime r w) s = execFrmTime r w s := rfl
theorem exec_frmCntClr (r : StreamRef) (s : State) : exec (.frmCntClr r) s = execFrmCntClr r s := rfl
theorem exec_candidateOpen (r : StreamRef) (member : Fin 64) (offset mf : Nat) (s : State) :
    exec (.candidateOpen r member offset mf) s = execCandidateOpen r member offset mf s := rfl
theorem exec_candidateCheck (r : StreamRef) (member : Fin 64) (offset : Nat) (faOk : Bool) (mf : Nat) (s : State) :
    exec (.candidateCheck r member offset faOk mf) s = execCandidateCheck r member offset faOk mf s := rfl
theorem exec_framerWindowEnd (r : StreamRef) (member : Fin 64) (s : State) :
    exec (.framerWindowEnd r member) s = execFramerWindowEnd r member s := rfl
theorem exec_oofDeclare (r : StreamRef) (member : Fin 64) (s : State) :
    exec (.oofDeclare r member) s = execOofDeclare r member s := rfl
theorem exec_mfOom (r : StreamRef) (s : State) : exec (.mfOom r) s = execMfOom r s := rfl
theorem exec_mfIm (r : StreamRef) (s : State) : exec (.mfIm r) s = execMfIm r s := rfl
theorem exec_lofSet (r : StreamRef) (lane : Option (Fin 20)) (s : State) :
    exec (.lofSet r lane) s = execLofSet r lane s := rfl
theorem exec_lofClr (r : StreamRef) (lane : Option (Fin 20)) (s : State) :
    exec (.lofClr r lane) s = execLofClr r lane s := rfl
theorem exec_lomSet (r : StreamRef) (s : State) : exec (.lomSet r) s = execLomSet r s := rfl
theorem exec_lomClr (r : StreamRef) (s : State) : exec (.lomClr r) s = execLomClr r s := rfl
theorem exec_lolChange (r : StreamRef) (idOk : Bool) (skew latest earliest locked : Nat) (s : State) :
    exec (.lolChange r idOk skew latest earliest locked) s = execLolChange r idOk skew latest earliest locked s := rfl
theorem exec_frameReceive (c : CtxId) (f : RxFrame) (s : State) :
    exec (.frameReceive c f) s = execFrameReceive c f s := rfl
theorem exec_filterOccurrence (c : ClusterId) (n : Fin 2048) (s : State) :
    exec (.filterOccurrence c n) s = execFilterOccurrence c n s := rfl
theorem exec_filterUnstable (c : ClusterId) (n : Fin 2048) (s : State) :
    exec (.filterUnstable c n) s = execFilterUnstable c n s := rfl
theorem exec_fcCfg (c : ClusterId) (cell : Fin 2048) (word : Fin 2) (w : CtlWrite) (s : State) :
    exec (.fcCfg c cell word w) s = execFcCfg c cell word w s := rfl
theorem exec_ohPmSet (u : UnitId) (w : CtlWrite) (s : State) : exec (.ohPmSet u w) s = execOhPmSet u w s := rfl
theorem exec_ohErrClear (u : UnitId) (s : State) : exec (.ohErrClear u) s = execOhErrClear u s := rfl
theorem exec_losDeclare (r : StreamRef) (s : State) : exec (.losDeclare r) s = execLosDeclare r s := rfl
theorem exec_losClear (r : StreamRef) (s : State) : exec (.losClear r) s = execLosClear r s := rfl
theorem exec_defectDeclare (c : CtxId) (d : Fin 36) (s : State) :
    exec (.defectDeclare c d) s = execDefectDeclare c d s := rfl
theorem exec_defectClear (c : CtxId) (d : Fin 36) (s : State) :
    exec (.defectClear c d) s = execDefectClear c d s := rfl
theorem exec_consequentActionStart (c : CtxId) (backward : Bool) (s : State) :
    exec (.consequentActionStart c backward) s = execConsequentActionStart c backward s := rfl
theorem exec_consequentActionEnd (c : CtxId) (backward : Bool) (s : State) :
    exec (.consequentActionEnd c backward) s = execConsequentActionEnd c backward s := rfl
theorem exec_mapCfg (r : PortRef) (ws : List MapWrite) (s : State) : exec (.mapCfg r ws) s = execMapCfg r ws s := rfl
theorem exec_mapPortStart (r : PortRef) (s : State) : exec (.mapPortStart r) s = execMapPortStart r s := rfl
theorem exec_mapTxRun (r : PortRef) (ws : List RunWrite) (s : State) :
    exec (.mapTxRun r ws) s = execMapTxRun r ws s := rfl
theorem exec_mapRxRun (r : PortRef) (step : RunStep) (s : State) :
    exec (.mapRxRun r step) s = execMapRxRun r step s := rfl
theorem exec_mapCntClr (r : PortRef) (s : State) : exec (.mapCntClr r) s = execMapCntClr r s := rfl
theorem exec_clientReplacementStart (r : PortRef) (rx : Bool) (s : State) :
    exec (.clientReplacementStart r rx) s = execClientReplacementStart r rx s := rfl
theorem exec_clientReplacementEnd (r : PortRef) (rx : Bool) (s : State) :
    exec (.clientReplacementEnd r rx) s = execClientReplacementEnd r rx s := rfl
theorem exec_gfpCsfSend (r : PortRef) (s : State) : exec (.gfpCsfSend r) s = execGfpCsfSend r s := rfl
theorem exec_csfRxTimeout (r : PortRef) (s : State) : exec (.csfRxTimeout r) s = execCsfRxTimeout r s := rfl
theorem exec_shimCalReq (r : PortRef) (w : CtlWrite) (s : State) :
    exec (.shimCalReq r w) s = execShimCalReq r w s := rfl
theorem exec_flexeCalSwitch (r : PortRef) (s : State) : exec (.flexeCalSwitch r) s = execFlexeCalSwitch r s := rfl
theorem exec_flexeCalTimeout (r : PortRef) (s : State) : exec (.flexeCalTimeout r) s = execFlexeCalTimeout r s := rfl
theorem exec_chanFrameRx (r : PortRef) (step : ChanStep) (s : State) :
    exec (.chanFrameRx r step) s = execChanFrameRx r step s := rfl
theorem exec_chanFrameTx (r : PortRef) (s : State) : exec (.chanFrameTx r) s = execChanFrameTx r s := rfl
theorem exec_pauseMsgSend (q : CqId) (s : State) : exec (.pauseMsgSend q) s = execPauseMsgSend q s := rfl
theorem exec_gfpFrameRx (r : PortRef) (h : GfpHeader) (f : GfpRx) (s : State) :
    exec (.gfpFrameRx r h f) s = execGfpFrameRx r h f s := rfl
theorem exec_gfpFrameStart (r : PortRef) (lines : Nat) (s : State) :
    exec (.gfpFrameStart r lines) s = execGfpFrameStart r lines s := rfl
theorem exec_gfpUnderrun (r : PortRef) (s : State) : exec (.gfpUnderrun r) s = execGfpUnderrun r s := rfl
theorem exec_cqCtrl (q : CqId) (ws : List QueueWrite) (s : State) : exec (.cqCtrl q ws) s = execCqCtrl q ws s := rfl
theorem exec_clientQueueFlush (o : Origin) (q : CqId) (s : State) :
    exec (.clientQueueFlush o q) s = execClientQueueFlush o q s := rfl
theorem exec_queueAppend (q : HqId) (item : List Word) (s : State) :
    exec (.queueAppend q item) s = execQueueAppend q item s := rfl
theorem exec_queueWmWrite (q : QueueRef) (w : CtlWrite) (s : State) :
    exec (.queueWmWrite q w) s = execQueueWmWrite q w s := rfl
theorem exec_hqCfg (q : HqId) (ws : List QueueWrite) (s : State) : exec (.hqCfg q ws) s = execHqCfg q ws s := rfl
theorem exec_hostQueueFlush (o : Origin) (q : HqId) (s : State) : exec (.hostQueueFlush o q) s = execHostQueueFlush o q s := rfl
theorem exec_deckOutputChange (d : DieId) (c : CarrierRef) (us : Nat) (s : State) :
    exec (.deckOutputChange d c us) s = execDeckOutputChange d c us s := rfl
theorem exec_deckSwapTimeout (d : DieId) (s : State) : exec (.deckSwapTimeout d) s = execDeckSwapTimeout d s := rfl
theorem exec_deckCopyDone (d : DieId) (s : State) : exec (.deckCopyDone d) s = execDeckCopyDone d s := rfl
theorem exec_deckPrbsGen (d : DieId) (w : CtlWrite) (s : State) :
    exec (.deckPrbsGen d w) s = execDeckPrbsGen d w s := rfl
theorem exec_deckPrbsChk (d : DieId) (w : CtlWrite) (s : State) :
    exec (.deckPrbsChk d w) s = execDeckPrbsChk d w s := rfl
theorem exec_fineBlk (r : RegionId) (b : Fin 64) (w : CtlWrite) (s : State) :
    exec (.fineBlk r b w) s = execFineBlk r b w s := rfl
theorem exec_rszGo (d : DieId) (c : Fin 32) (w : CtlWrite) (s : State) :
    exec (.rszGo d c w) s = execRszGo d c w s := rfl
theorem exec_rszAbortCmd (d : DieId) (c : Fin 32) (w : CtlWrite) (s : State) :
    exec (.rszAbortCmd d c w) s = execRszAbortCmd d c w s := rfl
theorem exec_rszHandshakeAck (d : DieId) (c : Fin 32) (s : State) :
    exec (.rszHandshakeAck d c) s = execRszHandshakeAck d c s := rfl
theorem exec_rszHandshakeTimeout (d : DieId) (c : Fin 32) (s : State) :
    exec (.rszHandshakeTimeout d c) s = execRszHandshakeTimeout d c s := rfl
theorem exec_rszRampEnd (d : DieId) (c : Fin 32) (s : State) : exec (.rszRampEnd d c) s = execRszRampEnd d c s := rfl
theorem exec_rszCfgDisable (d : DieId) (c : Fin 32) (w : CtlWrite) (s : State) :
    exec (.rszCfgDisable d c w) s = execRszCfgDisable d c w s := rfl
theorem exec_grpCfg (d : DieId) (g : GroupId) (w : CtlWrite) (s : State) :
    exec (.grpCfg d g w) s = execGrpCfg d g w s := rfl
theorem exec_hlCfg (p : PairId) (ws : List HlWrite) (s : State) : exec (.hlCfg p ws) s = execHlCfg p ws s := rfl
theorem exec_hlRecentre (p : PairId) (step : RecentreStep) (s : State) :
    exec (.hlRecentre p step) s = execHlRecentre p step s := rfl
theorem exec_hlCntClr (p : PairId) (s : State) : exec (.hlCntClr p) s = execHlCntClr p s := rfl
theorem exec_prfCtrl (d : DieId) (w : CtlWrite) (s : State) : exec (.prfCtrl d w) s = execPrfCtrl d w s := rfl
theorem exec_ringStart (r : RingId) (s : State) : exec (.ringStart r) s = execRingStart r s := rfl
theorem exec_ringLineRead (r : RingId) (ecc crc partnerOk : Bool) (s : State) :
    exec (.ringLineRead r ecc crc partnerOk) s = execRingLineRead r ecc crc partnerOk s := rfl
theorem exec_ringBreak (r : RingId) (s : State) : exec (.ringBreak r) s = execRingBreak r s := rfl
theorem exec_hlAlignAttempt (p : PairId) (s : State) : exec (.hlAlignAttempt p) s = execHlAlignAttempt p s := rfl
theorem exec_hlAlignConfirm (p : PairId) (s : State) : exec (.hlAlignConfirm p) s = execHlAlignConfirm p s := rfl
theorem exec_hlSearchRange (p : PairId) (s : State) : exec (.hlSearchRange p) s = execHlSearchRange p s := rfl
theorem exec_hlMisalign (p : PairId) (s : State) : exec (.hlMisalign p) s = execHlMisalign p s := rfl
theorem exec_hlSlackEval (p : PairId) (lateW earlyW lateP earlyP : Int) (s : State) :
    exec (.hlSlackEval p lateW earlyW lateP earlyP) s = execHlSlackEval p lateW earlyW lateP earlyP s := rfl
theorem exec_mlomDeclare (c : CtxId) (s : State) : exec (.mlomDeclare c) s = execMlomDeclare c s := rfl
theorem exec_mlomClear (c : CtxId) (s : State) : exec (.mlomClear c) s = execMlomClear c s := rfl
theorem exec_groupReaderPlace (d : DieId) (g : GroupId) (s : State) :
    exec (.groupReaderPlace d g) s = execGroupReaderPlace d g s := rfl
theorem exec_groupRetime (d : DieId) (g : GroupId) (s : State) :
    exec (.groupRetime d g) s = execGroupRetime d g s := rfl
theorem exec_loaChange (d : DieId) (g : GroupId) (s : State) : exec (.loaChange d g) s = execLoaChange d g s := rfl
theorem exec_lcasPacketRx (c : CtxId) (crcOk : Bool) (ctrl : Fin 16) (sq : Fin 256) (rsAck : Bool) (mst : Option (Fin 8 × BitVec 32)) (s : State) :
    exec (.lcasPacketRx c crcOk ctrl sq rsAck mst) s = execLcasPacketRx c crcOk ctrl sq rsAck mst s := rfl
theorem exec_lcasPayloadChange (d : DieId) (g : GroupId) (s : State) :
    exec (.lcasPayloadChange d g) s = execLcasPayloadChange d g s := rfl
theorem exec_lcasTxChange (c : CtxId) (s : State) : exec (.lcasTxChange c) s = execLcasTxChange c s := rfl
theorem exec_prtCfg (p : PairId) (ws : List PrtWrite) (s : State) : exec (.prtCfg p ws) s = execPrtCfg p ws s := rfl
theorem exec_prtCntClr (p : PairId) (s : State) : exec (.prtCntClr p) s = execPrtCntClr p s := rfl
theorem exec_holdoffStart (p : PairId) (protect : Bool) (s : State) :
    exec (.holdoffStart p protect) s = execHoldoffStart p protect s := rfl
theorem exec_holdoffExpire (p : PairId) (protect : Bool) (s : State) :
    exec (.holdoffExpire p protect) s = execHoldoffExpire p protect s := rfl
theorem exec_protFastpathEval (p : PairId) (s : State) :
    exec (.protFastpathEval p) s = execProtFastpathEval p s := rfl
theorem exec_wtrExpire (p : PairId) (s : State) : exec (.wtrExpire p) s = execWtrExpire p s := rfl
theorem exec_hlWaitExpire (p : PairId) (s : State) : exec (.hlWaitExpire p) s = execHlWaitExpire p s := rfl
theorem exec_fopNrDeclare (p : PairId) (s : State) : exec (.fopNrDeclare p) s = execFopNrDeclare p s := rfl
theorem exec_protHoldEnd (p : PairId) (limit : Bool) (s : State) :
    exec (.protHoldEnd p limit) s = execProtHoldEnd p limit s := rfl
theorem exec_grantInChange (level : Bool) (s : State) :
    exec (.grantInChange level) s = execGrantInChange level s := rfl
theorem exec_grantPulseReject (s : State) : exec .grantPulseReject s = execGrantPulseReject s := rfl
theorem exec_ilkInChange (asserted : Bool) (s : State) :
    exec (.ilkInChange asserted) s = execIlkInChange asserted s := rfl
theorem exec_ilkResample (s : State) : exec .ilkResample s = execIlkResample s := rfl
theorem exec_ilkBlockedRetry (s : State) : exec .ilkBlockedRetry s = execIlkBlockedRetry s := rfl
theorem exec_roleConflictDeclare (mismatch : Bool) (s : State) :
    exec (.roleConflictDeclare mismatch) s = execRoleConflictDeclare mismatch s := rfl
theorem exec_roleConflictClear (s : State) : exec .roleConflictClear s = execRoleConflictClear s := rfl
theorem exec_starterApply (s : State) : exec .starterApply s = execStarterApply s := rfl
theorem exec_takeoverActive (timeout : Bool) (s : State) :
    exec (.takeoverActive timeout) s = execTakeoverActive timeout s := rfl
theorem exec_releaseToStandby (s : State) : exec .releaseToStandby s = execReleaseToStandby s := rfl
theorem exec_polfenLock (s : State) : exec .polfenLock s = execPolfenLock s := rfl
theorem exec_polfenLockLoss (s : State) : exec .polfenLockLoss s = execPolfenLockLoss s := rfl
theorem exec_polfenHello (seat : Fin 2) (paired : Bool) (epoch : Nat) (s : State) :
    exec (.polfenHello seat paired epoch) s = execPolfenHello seat paired epoch s := rfl
theorem exec_polfenFrameRx (f : PFrame) (crcOk tagOk : Bool) (s : State) :
    exec (.polfenFrameRx f crcOk tagOk) s = execPolfenFrameRx f crcOk tagOk s := rfl
theorem exec_polfenRetxTimeout (s : State) : exec .polfenRetxTimeout s = execPolfenRetxTimeout s := rfl
theorem exec_polfenHoldExpire (s : State) : exec .polfenHoldExpire s = execPolfenHoldExpire s := rfl
theorem exec_polfenRekey (epoch : Nat) (s : State) : exec (.polfenRekey epoch) s = execPolfenRekey epoch s := rfl
theorem exec_polfenFrameTx (s : State) : exec .polfenFrameTx s = execPolfenFrameTx s := rfl
theorem exec_statusMsgRx (s : State) : exec .statusMsgRx s = execStatusMsgRx s := rfl
theorem exec_tier1MsgRx (s : State) : exec .tier1MsgRx s = execTier1MsgRx s := rfl
theorem exec_tier2MsgRx (s : State) : exec .tier2MsgRx s = execTier2MsgRx s := rfl
theorem exec_resyncReqRx (s : State) : exec .resyncReqRx s = execResyncReqRx s := rfl
theorem exec_sweepStart (s : State) : exec .sweepStart s = execSweepStart s := rfl
theorem exec_sweepMsgRx (s : State) : exec .sweepMsgRx s = execSweepMsgRx s := rfl
theorem exec_sweepComplete (s : State) : exec .sweepComplete s = execSweepComplete s := rfl
theorem exec_mateMsgRx (s : State) : exec .mateMsgRx s = execMateMsgRx s := rfl
theorem exec_mateLinkEn (w : CtlWrite) (s : State) : exec (.mateLinkEn w) s = execMateLinkEn w s := rfl
theorem exec_mateRestart (w : CtlWrite) (s : State) : exec (.mateRestart w) s = execMateRestart w s := rfl
theorem exec_mateResync (w : CtlWrite) (s : State) : exec (.mateResync w) s = execMateResync w s := rfl
theorem exec_mateYield (w : CtlWrite) (s : State) : exec (.mateYield w) s = execMateYield w s := rfl
theorem exec_mateConfirm (w : CtlWrite) (s : State) : exec (.mateConfirm w) s = execMateConfirm w s := rfl
theorem exec_mateCntClr (s : State) : exec .mateCntClr s = execMateCntClr s := rfl
theorem exec_mateQueueFlush (o : Origin) (s : State) : exec (.mateQueueFlush o) s = execMateQueueFlush o s := rfl
theorem exec_selftestBurstStart (s : State) : exec .selftestBurstStart s = execSelftestBurstStart s := rfl
theorem exec_selftestBurstEnd (pass : Bool) (s : State) :
    exec (.selftestBurstEnd pass) s = execSelftestBurstEnd pass s := rfl
theorem exec_syncEdge (input : RefName) (gap : Nat) (phase : Int) (freq : BitVec 20) (s : State) :
    exec (.syncEdge input gap phase freq) s = execSyncEdge input gap phase freq s := rfl
theorem exec_syncLoss (input : RefName) (gap : Nat) (s : State) :
    exec (.syncLoss input gap) s = execSyncLoss input gap s := rfl
theorem exec_syncRequalify (input : RefName) (s : State) :
    exec (.syncRequalify input) s = execSyncRequalify input s := rfl
theorem exec_dpllSlewDone (s : State) : exec .dpllSlewDone s = execDpllSlewDone s := rfl
theorem exec_clkSyncCtrl (w : CtlWrite) (s : State) : exec (.clkSyncCtrl w) s = execClkSyncCtrl w s := rfl
theorem exec_recClkCfg (n : Fin 2) (w : CtlWrite) (s : State) : exec (.recClkCfg n w) s = execRecClkCfg n w s := rfl
theorem exec_recClkSquelch (n : Fin 2) (s : State) : exec (.recClkSquelch n) s = execRecClkSquelch n s := rfl
theorem exec_recClkResume (n : Fin 2) (s : State) : exec (.recClkResume n) s = execRecClkResume n s := rfl
theorem exec_audCfg (p : Fin 4) (w : CtlWrite) (s : State) : exec (.audCfg p w) s = execAudCfg p w s := rfl
theorem exec_owCfg (c : Fin 8) (w : CtlWrite) (s : State) : exec (.owCfg c w) s = execOwCfg c w s := rfl
theorem exec_audChangeLand (c : Fin 8) (tx : Bool) (s : State) :
    exec (.audChangeLand c tx) s = execAudChangeLand c tx s := rfl
theorem exec_audChangeTimeout (c : Fin 8) (tx : Bool) (s : State) :
    exec (.audChangeTimeout c tx) s = execAudChangeTimeout c tx s := rfl
theorem exec_audSlip (c : Fin 8) (tx : Bool) (s : State) : exec (.audSlip c tx) s = execAudSlip c tx s := rfl
theorem exec_audForcedSlip (c : Fin 8) (tx : Bool) (s : State) :
    exec (.audForcedSlip c tx) s = execAudForcedSlip c tx s := rfl
theorem exec_audPortFreeze (p : Fin 4) (s : State) : exec (.audPortFreeze p) s = execAudPortFreeze p s := rfl
theorem exec_audPortResume (p : Fin 4) (hz : Fin 16384) (s : State) :
    exec (.audPortResume p hz) s = execAudPortResume p hz s := rfl
theorem exec_audMuteLift (p : Fin 4) (s : State) : exec (.audMuteLift p) s = execAudMuteLift p s := rfl
theorem exec_audSample (c : Fin 8) (m : AudioMove) (s : State) : exec (.audSample c m) s = execAudSample c m s := rfl
theorem exec_audCntClear (c : Fin 8) (s : State) : exec (.audCntClear c) s = execAudCntClear c s := rfl
theorem exec_pwrDomReq (d : Fin 56) (w : CtlWrite) (s : State) : exec (.pwrDomReq d w) s = execPwrDomReq d w s := rfl
theorem exec_domainTransitionDone (d : Fin 56) (s : State) :
    exec (.domainTransitionDone d) s = execDomainTransitionDone d s := rfl
theorem exec_modeReqProvision (w : CtlWrite) (s : State) :
    exec (.modeReqProvision w) s = execModeReqProvision w s := rfl
theorem exec_modeReqStandby (w : CtlWrite) (s : State) : exec (.modeReqStandby w) s = execModeReqStandby w s := rfl
theorem exec_modeReqTest (w : CtlWrite) (s : State) : exec (.modeReqTest w) s = execModeReqTest w s := rfl
theorem exec_pkgResetReq (w : CtlWrite) (s : State) : exec (.pkgResetReq w) s = execPkgResetReq w s := rfl
theorem exec_dormantEntry (w : CtlWrite) (s : State) : exec (.dormantEntry w) s = execDormantEntry w s := rfl
theorem exec_dormantWake (grant : Bool) (s : State) : exec (.dormantWake grant) s = execDormantWake grant s := rfl
theorem exec_vloopCtrl (r : RegionId) (w : CtlWrite) (s : State) :
    exec (.vloopCtrl r w) s = execVloopCtrl r w s := rfl
theorem exec_vloopStep (r : RegionId) (pass : Fin 1004) (aging : Fin 256) (s : State) :
    exec (.vloopStep r pass aging) s = execVloopStep r pass aging s := rfl
theorem exec_placeCtrl (w : CtlWrite) (s : State) : exec (.placeCtrl w) s = execPlaceCtrl w s := rfl
theorem exec_cpmFailQuarantine (r : RegionId) (s : State) :
    exec (.cpmFailQuarantine r) s = execCpmFailQuarantine r s := rfl
theorem exec_regulatorFault (d : Fin 56) (s : State) : exec (.regulatorFault d) s = execRegulatorFault d s := rfl
theorem exec_tempAlarm (s : State) : exec .tempAlarm s = execTempAlarm s := rfl
theorem exec_tamperTrip (m : Tamper) (s : State) : exec (.tamperTrip m) s = execTamperTrip m s := rfl
theorem exec_cenClr (v : Word) (s : State) : exec (.cenClr v) s = execCenClr v s := rfl
theorem exec_pcCounterWrite (e : EngId) (k : Fin 8) (v : Word) (inc : Fin 3) (s : State) :
    exec (.pcCounterWrite e k v inc) s = execPcCounterWrite e k v inc s := rfl
theorem exec_vinUvlo (c : VinStop) (s : State) : exec (.vinUvlo c) s = execVinUvlo c s := rfl
theorem exec_vinPowerOn (s : State) : exec .vinPowerOn s = execVinPowerOn s := rfl
theorem exec_resetLAssert (s : State) : exec .resetLAssert s = execResetLAssert s := rfl
theorem exec_resetRelease (st : Straps) (s : State) : exec (.resetRelease st) s = execResetRelease st s := rfl
theorem exec_pufKeysDerived (s : State) : exec .pufKeysDerived s = execPufKeysDerived s := rfl
theorem exec_bootFwSelect (s : State) : exec .bootFwSelect s = execBootFwSelect s := rfl
theorem exec_fwStart (s : State) : exec .fwStart s = execFwStart s := rfl
theorem exec_bootStarterLoad (opens sigOk : Bool) (s : State) :
    exec (.bootStarterLoad opens sigOk) s = execBootStarterLoad opens sigOk s := rfl
theorem exec_perstLAssert (s : State) : exec .perstLAssert s = execPerstLAssert s := rfl
theorem exec_guestAddr (io : GuestIo) (s : State) : exec (.guestAddr io) s = execGuestAddr io s := rfl
theorem exec_guestAttNonce (io : GuestIo) (s : State) : exec (.guestAttNonce io) s = execGuestAttNonce io s := rfl
theorem exec_guestAttStat (io : GuestIo) (s : State) : exec (.guestAttStat io) s = execGuestAttStat io s := rfl
theorem exec_guestAttOff (io : GuestIo) (s : State) : exec (.guestAttOff io) s = execGuestAttOff io s := rfl
theorem exec_guestSclTimeout (s : State) : exec .guestSclTimeout s = execGuestSclTimeout s := rfl
theorem exec_extest (lands tdi : List Bool) (s : State) : exec (.extest lands tdi) s = execExtest lands tdi s := rfl
theorem exec_samplePreload (lands tdi : List Bool) (s : State) :
    exec (.samplePreload lands tdi) s = execSamplePreload lands tdi s := rfl
theorem exec_extestPulse (lands tdi : List Bool) (s : State) :
    exec (.extestPulse lands tdi) s = execExtestPulse lands tdi s := rfl
theorem exec_extestTrain (lands tdi : List Bool) (s : State) :
    exec (.extestTrain lands tdi) s = execExtestTrain lands tdi s := rfl
theorem exec_dbgNonce (s : State) : exec .dbgNonce s = execDbgNonce s := rfl
theorem exec_dbgToken (lines : List (BitVec 288)) (sigOk : Bool) (s : State) :
    exec (.dbgToken lines sigOk) s = execDbgToken lines sigOk s := rfl
theorem exec_dbgCfg (write : Bool) (addr : BitVec 24) (data : Word) (s : State) :
    exec (.dbgCfg write addr data) s = execDbgCfg write addr data s := rfl
theorem exec_dbgTrace (s : State) : exec .dbgTrace s = execDbgTrace s := rfl
theorem exec_traceSel (v : Word) (s : State) : exec (.traceSel v) s = execTraceSel v s := rfl
theorem exec_bypass (tdi : List Bool) (s : State) : exec (.bypass tdi) s = execBypass tdi s := rfl
theorem exec_pcsAlignStatus (r : StreamRef) (phy : Fin 8) (up : Bool) (locked : Nat) (s : State) :
    exec (.pcsAlignStatus r phy up locked) s = execPcsAlignStatus r phy up locked s := rfl
theorem exec_ovloRestart (s : State) : exec .ovloRestart s = execOvloRestart s := rfl
theorem exec_perstLRelease (s : State) : exec .perstLRelease s = execPerstLRelease s := rfl
theorem exec_loafLoadComplete (s : State) : exec .loafLoadComplete s = execLoafLoadComplete s := rfl
theorem exec_attestComplete (s : State) : exec .attestComplete s = execAttestComplete s := rfl
theorem exec_pcieLinkRetrain (s : State) : exec .pcieLinkRetrain s = execPcieLinkRetrain s := rfl
theorem exec_pcieError (k : PcieErr) (s : State) : exec (.pcieError k) s = execPcieError k s := rfl

end Sys2Proof.Machine
end

