-- ==== Sys2Proof/Laws/Frame.lean ====
section
/-! SUPPORT. Frames: what an operation leaves unchanged. A view of the state that is blind to every field an operation may
write sees no difference after it; one lemma per operation follows in the files beside this one. -/

set_option linter.unusedTactic false
set_option linter.unreachableTactic false

namespace Sys2Proof.Machine

/-- π does not see the field that `put` writes. -/
abbrev Blind {α β : Type} (π : State → β) (put : State → α → State) : Prop := ∀ s v, π (put s v) = π s

/-- An effect that is checked first leaves what π sees at x. -/
def FrameE {β : Type} (π : State → β) (x : β) (r : Applied) : Prop := ∀ t, r = .ok t → π t = x
/-- The same of an outcome. -/
def FrameR {β : Type} (π : State → β) (x : β) (r : Result) : Prop := ∀ t, r = .next t → π t = x
/-- The same of an optional state. -/
def FrameO {β : Type} (π : State → β) (x : β) (r : Option State) : Prop := ∀ t, r = some t → π t = x

/-- π is blind to every field that a change of a power domain may write. -/
structure BlindDomains {β : Type} (π : State → β) : Prop where
  audio : Blind π State.putAudio
  cells : Blind π State.putCells
  cellsT0 : Blind π State.putCellsT0
  chkMax : Blind π State.putChkMax
  cq : Blind π State.putCq
  ctx : Blind π State.putCtx
  ctxAt : Blind π State.putCtxAt
  cw : Blind π State.putCw
  deck : Blind π State.putDeck
  decks : Blind π State.putDecks
  doms : Blind π State.putDoms
  engines : Blind π State.putEngines
  flex : Blind π State.putFlex
  framers : Blind π State.putFramers
  groups : Blind π State.putGroups
  hls : Blind π State.putHls
  lanes : Blind π State.putLanes
  mons : Blind π State.putMons
  oh : Blind π State.putOh
  ohT0 : Blind π State.putOhT0
  pairs : Blind π State.putPairs
  ports : Blind π State.putPorts
  prfRings : Blind π State.putPrfRings
  quads : Blind π State.putQuads
  refClk : Blind π State.putRefClk
  rsz : Blind π State.putRsz
  sels : Blind π State.putSels
  trackers : Blind π State.putTrackers
  words : Blind π State.putWords

variable {β : Type} {π : State → β} {x : β}

theorem frameE_ok {s : State} (h : π s = x) : FrameE π x (.ok s) := fun _ e => by cases e; exact h
theorem frameE_error {n : Nat} : FrameE π x (.error n) := fun _ e => by cases e
theorem frameR_next {s : State} (h : π s = x) : FrameR π x (.next s) := fun _ e => by cases e; exact h
theorem frame_ite {s t : State} {c : Prop} [Decidable c] (he : π t = x) (ht : π t = x → π s = x) :
    π (if c then s else t) = x := by
  split
  · exact ht he
  · exact he
theorem frameE_ite {s t : Applied} {c : Prop} [Decidable c] (ht : FrameE π x s) (he : FrameE π x t) :
    FrameE π x (if c then s else t) := by split <;> assumption
theorem frame_foldl {α : Type} {s : State} {f : State → α → State} {l : List α} (h : π s = x)
    (hf : ∀ t y, π t = x → π (f t y) = x) : π (l.foldl f s) = x := by
  induction l generalizing s with
  | nil => exact h
  | cons y l ih => exact ih (hf s y h)

/-- The first component of a fold over pairs. -/
theorem frame_pairs {α γ : Type} {f : State × γ → α → State × γ} {l : List α} {p : State × γ} (h : π p.1 = x)
    (hf : ∀ t a, π t.1 = x → π (f t a).1 = x) : π (l.foldl f p).1 = x := by
  induction l generalizing p with
  | nil => exact h
  | cons a l ih => exact ih (hf p a h)

end Sys2Proof.Machine
end

