-- ==== Sys2Proof/Laws/FrameOps.lean ====
section
/-! SUPPORT. What the operations of Machine/Ops.lean leave unchanged. -/

set_option linter.unusedTactic false
set_option linter.unreachableTactic false

namespace Sys2Proof.Machine

variable {β : Type} {π : State → β} {x : β}

theorem spendFree_frame (hFreeUses : Blind π State.putFreeUses) (s : State) (hk : π s = x) :
    π (spendFree s) = x := by
  unfold spendFree
  try dsimp only
  repeat' first
    | with_reducible first
      | assumption | refine (hFreeUses _ _).trans ?_ | apply frame_foldl | apply frame_ite
    | split | intro _

theorem emit_frame (hOut : Blind π State.putOut) (o : Out) (s : State) (hk : π s = x) :
    π (emit o s) = x := by
  unfold emit
  try dsimp only
  repeat' first
    | with_reducible first
      | assumption | refine (hOut _ _).trans ?_ | apply frame_foldl | apply frame_ite
    | split | intro _

theorem cwSet_frame (hCw : Blind π State.putCw) (a : Nat) (v : Word) (s : State) (hk : π s = x) :
    π (cwSet a v s) = x := by
  unfold cwSet
  try dsimp only
  repeat' first
    | with_reducible first
      | assumption | refine (hCw _ _).trans ?_ | apply frame_foldl | apply frame_ite
    | split | intro _

theorem cwPut_frame (hCw : Blind π State.putCw) (a : Nat) (hi : Nat) (lo : Nat) (v : Nat) (s : State) (hk : π s = x) :
    π (cwPut a hi lo v s) = x := by
  unfold cwPut
  try dsimp only
  repeat' first
    | with_reducible first
      | assumption | apply cwSet_frame | apply frame_foldl | apply frame_ite
    | split | intro _

theorem cwCount_frame (hCw : Blind π State.putCw) (a : Nat) (n : Nat) (s : State) (hk : π s = x) :
    π (cwCount a n s) = x := by
  unfold cwCount
  try dsimp only
  repeat' first
    | with_reducible first
      | assumption | apply cwSet_frame | apply frame_foldl | apply frame_ite
    | split | intro _

theorem cwCountFld_frame (hCw : Blind π State.putCw) (a : Nat) (hi : Nat) (lo : Nat) (n : Nat) (s : State)
    (hk : π s = x) :
    π (cwCountFld a hi lo n s) = x := by
  unfold cwCountFld
  try dsimp only
  repeat' first
    | with_reducible first
      | assumption | apply cwPut_frame | apply frame_foldl | apply frame_ite
    | split | intro _

theorem domPut_frame (hDoms : Blind π State.putDoms) (d : Nat) (k : Dom) (s : State) (hk : π s = x) :
    π (domPut d k s) = x := by
  unfold domPut
  try dsimp only
  repeat' first
    | with_reducible first
      | assumption | refine (hDoms _ _).trans ?_ | apply frame_foldl | apply frame_ite
    | split | intro _

theorem ctxSet_frame (hCtx : Blind π State.putCtx) (id : Nat) (w : Nat) (v : Word) (s : State) (hk : π s = x) :
    π (ctxSet id w v s) = x := by
  unfold ctxSet
  try dsimp only
  repeat' first
    | with_reducible first
      | assumption | refine (hCtx _ _).trans ?_ | apply frame_foldl | apply frame_ite
    | split | intro _

theorem intSet_frame (hIntPend : Blind π State.putIntPend) (hMsixPba : Blind π State.putMsixPba)
    (hOut : Blind π State.putOut) (i : Nat) (s : State) (hk : π s = x) :
    π (intSet i s) = x := by
  unfold intSet
  try dsimp only
  repeat' first
    | with_reducible first
      | assumption | refine (hIntPend _ _).trans ?_ | refine (hMsixPba _ _).trans ?_ | apply emit_frame
      | apply frame_foldl | apply frame_ite
    | split | intro _

theorem cenInc_frame (hCw : Blind π State.putCw) (hIntPend : Blind π State.putIntPend)
    (hMsixPba : Blind π State.putMsixPba) (hOut : Blind π State.putOut) (n : Nat) (s : State) (hk : π s = x) :
    π (cenInc n s) = x := by
  unfold cenInc
  try dsimp only
  repeat' first
    | with_reducible first
      | assumption | apply cwCount_frame | apply intSet_frame | apply frame_foldl | apply frame_ite
    | split | intro _

theorem hqPut_frame (hHq : Blind π State.putHq) (q : Nat) (h : HostQueue) (s : State) (hk : π s = x) :
    π (hqPut q h s) = x := by
  unfold hqPut
  try dsimp only
  repeat' first
    | with_reducible first
      | assumption | refine (hHq _ _).trans ?_ | apply frame_foldl | apply frame_ite
    | split | intro _

theorem hqLevel_frame (hHq : Blind π State.putHq) (hIntPend : Blind π State.putIntPend)
    (hMsixPba : Blind π State.putMsixPba) (hOut : Blind π State.putOut) (q : Nat) (s : State) (hk : π s = x) :
    π (hqLevel q s) = x := by
  unfold hqLevel
  try dsimp only
  repeat' first
    | with_reducible first
      | assumption | apply hqPut_frame | apply intSet_frame | apply frame_foldl | apply frame_ite
    | split | intro _

theorem hqAppend_frame (hCw : Blind π State.putCw) (hHq : Blind π State.putHq) (hIntPend : Blind π State.putIntPend)
    (hMsixPba : Blind π State.putMsixPba) (hOut : Blind π State.putOut) (q : Nat) (item : List Word) (s : State)
    (hk : π s = x) :
    π (hqAppend q item s) = x := by
  unfold hqAppend
  try dsimp only
  repeat' first
    | with_reducible first
      | assumption | apply hqLevel_frame | apply hqPut_frame | apply cwCount_frame | apply frame_foldl
      | apply frame_ite
    | split | intro _

theorem record_frame (hCw : Blind π State.putCw) (hHq : Blind π State.putHq) (hIntPend : Blind π State.putIntPend)
    (hMsixPba : Blind π State.putMsixPba) (hOut : Blind π State.putOut) (q : Nat) (ty : Nat) (src : Nat)
    (ws : List Word) (s : State) (hk : π s = x) :
    π (record q ty src ws s) = x := by
  unfold record
  try dsimp only
  repeat' first
    | with_reducible first
      | assumption | apply hqAppend_frame | apply frame_foldl | apply frame_ite
    | split | intro _

theorem record0_frame (hCw : Blind π State.putCw) (hHq : Blind π State.putHq) (hIntPend : Blind π State.putIntPend)
    (hMsixPba : Blind π State.putMsixPba) (hOut : Blind π State.putOut) (ty : Nat) (src : Nat) (w1 : Word) (s : State)
    (hk : π s = x) :
    π (record0 ty src w1 s) = x := by
  unfold record0
  try dsimp only
  repeat' first
    | with_reducible first
      | assumption | apply record_frame | apply frame_foldl | apply frame_ite
    | split | intro _

theorem dueRecord_frame (hDue : Blind π State.putDue) (q : Nat) (ty : Nat) (ws : List Word) (s : State) (hk : π s = x) :
    π (dueRecord q ty ws s) = x := by
  unfold dueRecord
  try dsimp only
  repeat' first
    | with_reducible first
      | assumption | refine (hDue _ _).trans ?_ | apply frame_foldl | apply frame_ite
    | split | intro _

theorem violation_frame (hCw : Blind π State.putCw) (hHq : Blind π State.putHq) (hIntPend : Blind π State.putIntPend)
    (hMsixPba : Blind π State.putMsixPba) (hOut : Blind π State.putOut) (hViolated : Blind π State.putViolated)
    (kind : Nat) (source : Nat) (addr : Nat) (s : State) (hk : π s = x) :
    π (violation kind source addr s) = x := by
  unfold violation
  try dsimp only
  repeat' first
    | with_reducible first
      | assumption | refine (hViolated _ _).trans ?_ | apply record0_frame | apply cenInc_frame | apply frame_foldl
      | apply frame_ite
    | split | intro _

theorem refuse_frame (hBatchesDone : Blind π State.putBatchesDone) (hCw : Blind π State.putCw)
    (hHq : Blind π State.putHq) (hIntPend : Blind π State.putIntPend) (hMsixPba : Blind π State.putMsixPba)
    (hOut : Blind π State.putOut) (o : Origin) (status : Nat) (k : RefKind) (addr : Nat) (s : State) (hk : π s = x) :
    π (refuse o status k addr s) = x := by
  unfold refuse
  try dsimp only
  repeat' first
    | with_reducible first
      | assumption | refine (hBatchesDone _ _).trans ?_ | apply record0_frame | apply frame_foldl | apply frame_ite
    | split | intro _

end Sys2Proof.Machine
end

