-- ==== Sys2Proof/Laws/FramePairs.lean ====
section
/-! SUPPORT. What the operations of Machine/Pairs.lean leave unchanged. -/

set_option linter.unusedTactic false
set_option linter.unreachableTactic false

namespace Sys2Proof.Machine

variable {β : Type} {π : State → β} {x : β}

theorem prtPut_frame (hPairs : Blind π State.putPairs) (p : Nat) (k : Pair) (s : State) (hk : π s = x) :
    π (prtPut p k s) = x := by
  unfold prtPut
  try dsimp only
  repeat' first
    | with_reducible first
      | assumption | refine (hPairs _ _).trans ?_ | apply frame_foldl | apply frame_ite
    | split | intro _

theorem protEvt_frame (hDue : Blind π State.putDue) (p : Nat) (event : Nat) (s : State) (hk : π s = x) :
    π (protEvt p event s) = x := by
  unfold protEvt
  try dsimp only
  repeat' first
    | with_reducible first
      | assumption | apply dueRecord_frame | apply frame_foldl | apply frame_ite
    | split | intro _

theorem countNoTimer_frame (hCw : Blind π State.putCw) (hPairs : Blind π State.putPairs) (p : Nat) (s : State)
    (hk : π s = x) :
    π (countNoTimer p s) = x := by
  unfold countNoTimer
  try dsimp only
  repeat' first
    | with_reducible first
      | assumption | apply cwCount_frame | apply prtPut_frame | apply frame_foldl | apply frame_ite
    | split | intro _

theorem prtRestart_frame (hPairs : Blind π State.putPairs) (p : Nat) (s : State) (hk : π s = x) :
    π (prtRestart p s) = x := by
  unfold prtRestart
  try dsimp only
  repeat' first
    | with_reducible first
      | assumption | apply prtPut_frame | apply frame_foldl | apply frame_ite
    | split | intro _

theorem prtStop_frame (hPairs : Blind π State.putPairs) (p : Nat) (s : State) (hk : π s = x) :
    π (prtStop p s) = x := by
  unfold prtStop
  try dsimp only
  repeat' first
    | with_reducible first
      | assumption | apply prtPut_frame | apply frame_foldl | apply frame_ite
    | split | intro _

theorem prtClear_frame (hPairs : Blind π State.putPairs) (id : Nat) (s : State) (hk : π s = x) :
    π (prtClear id s) = x := by
  unfold prtClear
  try dsimp only
  repeat' first
    | with_reducible first
      | assumption | apply prtPut_frame | apply frame_foldl | apply frame_ite
    | split | intro _

theorem prtOnset_frame (hPairs : Blind π State.putPairs) (id : Nat) (s : State) (hk : π s = x) :
    π (prtOnset id s) = x := by
  unfold prtOnset
  try dsimp only
  repeat' first
    | with_reducible first
      | assumption | apply prtPut_frame | apply frame_foldl | apply frame_ite
    | split | intro _

end Sys2Proof.Machine
end

