-- ==== Sys2Proof/Laws/FrameMonitor.lean ====
section
/-! SUPPORT. What the operations of Machine/Monitor.lean leave unchanged. -/

set_option linter.unusedTactic false
set_option linter.unreachableTactic false

namespace Sys2Proof.Machine

variable {β : Type} {π : State → β} {x : β}

theorem monPut_frame (hMons : Blind π State.putMons) (id : Nat) (m : Mon) (s : State) (hk : π s = x) :
    π (monPut id m s) = x := by
  unfold monPut
  try dsimp only
  repeat' first
    | with_reducible first
      | assumption | refine (hMons _ _).trans ?_ | apply frame_foldl | apply frame_ite
    | split | intro _

theorem ohSet_frame (hOh : Blind π State.putOh) (id : Nat) (field : Nat) (word : Nat) (v : Word) (s : State)
    (hk : π s = x) :
    π (ohSet id field word v s) = x := by
  unfold ohSet
  try dsimp only
  repeat' first
    | with_reducible first
      | assumption | refine (hOh _ _).trans ?_ | apply frame_foldl | apply frame_ite
    | split | intro _

theorem cellPut_frame (hCells : Blind π State.putCells) (k : Nat) (c : Cell) (s : State) (hk : π s = x) :
    π (cellPut k c s) = x := by
  unfold cellPut
  try dsimp only
  repeat' first
    | with_reducible first
      | assumption | refine (hCells _ _).trans ?_ | apply frame_foldl | apply frame_ite
    | split | intro _

theorem resetRuns_frame (hCells : Blind π State.putCells) (id : Nat) (s : State) (hk : π s = x) :
    π (resetRuns id s) = x := by
  unfold resetRuns
  try dsimp only
  repeat' first
    | with_reducible first
      | assumption | apply cellPut_frame | apply frame_foldl | apply frame_ite
    | split | intro _

theorem resetRunsUnder_frame (hCells : Blind π State.putCells) (u : Nat) (n : Nat) (s : State) (hk : π s = x) :
    π (resetRunsUnder u n s) = x := by
  unfold resetRunsUnder
  try dsimp only
  repeat' first
    | with_reducible first
      | assumption | apply cellPut_frame | apply frame_foldl | apply frame_ite
    | split | intro _

theorem defsPut_frame (hCells : Blind π State.putCells) (hMons : Blind π State.putMons)
    (hPairs : Blind π State.putPairs) (id : Nat) (d : Nat) (s : State) (hk : π s = x) :
    π (defsPut id d s) = x := by
  unfold defsPut
  try dsimp only
  repeat' first
    | with_reducible first
      | assumption | apply prtClear_frame | apply monPut_frame | apply prtOnset_frame | apply resetRuns_frame
      | apply frame_foldl | apply frame_ite
    | split | intro _

theorem settlePass_frame (hCells : Blind π State.putCells) (hMons : Blind π State.putMons)
    (hPairs : Blind π State.putPairs) (s : State) (hk : π s = x) :
    π (settlePass s) = x := by
  unfold settlePass
  try dsimp only
  repeat' first
    | with_reducible first
      | assumption | apply defsPut_frame | apply frame_foldl | apply frame_ite
    | split | intro _

theorem settleLoop_frame (hCells : Blind π State.putCells) (hMons : Blind π State.putMons)
    (hPairs : Blind π State.putPairs) (a0 : Nat) (a1 : State) (hk : π a1 = x) :
    π (settleLoop a0 a1) = x := by
  induction a0 generalizing a1 with
  | zero => exact hk
  | succ n ih =>
    unfold settleLoop
    try dsimp only
    repeat' first
      | with_reducible first
        | assumption | apply ih | apply settlePass_frame | apply frame_foldl | apply frame_ite
      | split | intro _

theorem settleDefs_frame (hCells : Blind π State.putCells) (hMons : Blind π State.putMons)
    (hPairs : Blind π State.putPairs) (s : State) (hk : π s = x) :
    π (settleDefs s) = x := by
  unfold settleDefs
  try dsimp only
  repeat' first
    | with_reducible first
      | assumption | apply settleLoop_frame | apply frame_foldl | apply frame_ite
    | split | intro _

theorem setDefect_frame (hCells : Blind π State.putCells) (hMons : Blind π State.putMons)
    (hPairs : Blind π State.putPairs) (id : Nat) (d : Nat) (v : Bool) (s : State) (hk : π s = x) :
    π (setDefect id d v s) = x := by
  unfold setDefect
  try dsimp only
  repeat' first
    | with_reducible first
      | assumption | apply defsPut_frame | apply settleDefs_frame | apply frame_foldl | apply frame_ite
    | split | intro _

end Sys2Proof.Machine
end

