-- ==== Sys2Proof/Laws/FrameAlign.lean ====
section
/-! SUPPORT. What the operations of Machine/Align.lean leave unchanged. -/

set_option linter.unusedTactic false
set_option linter.unreachableTactic false

namespace Sys2Proof.Machine

variable {β : Type} {π : State → β} {x : β}

theorem framerPut_frame (hFramers : Blind π State.putFramers) (k : Nat) (f : Framer) (s : State) (hk : π s = x) :
    π (framerPut k f s) = x := by
  unfold framerPut
  try dsimp only
  repeat' first
    | with_reducible first
      | assumption | refine (hFramers _ _).trans ?_ | apply frame_foldl | apply frame_ite
    | split | intro _

theorem trackerPut_frame (hTrackers : Blind π State.putTrackers) (k : Nat) (t : Tracker) (s : State) (hk : π s = x) :
    π (trackerPut k t s) = x := by
  unfold trackerPut
  try dsimp only
  repeat' first
    | with_reducible first
      | assumption | refine (hTrackers _ _).trans ?_ | apply frame_foldl | apply frame_ite
    | split | intro _

theorem frmEvent_frame (hFramers : Blind π State.putFramers) (k : Nat) (b : Nat) (s : State) (hk : π s = x) :
    π (frmEvent k b s) = x := by
  unfold frmEvent
  try dsimp only
  repeat' first
    | with_reducible first
      | assumption | apply framerPut_frame | apply frame_foldl | apply frame_ite
    | split | intro _

theorem refreshStream_frame (hCells : Blind π State.putCells) (hFramers : Blind π State.putFramers)
    (hTrackers : Blind π State.putTrackers) (a0 : Nat) (a1 : Nat) (a2 : Nat) (a3 : State) (hk : π a3 = x) :
    π (refreshStream a0 a1 a2 a3) = x := by
  induction a0 generalizing a1 a2 a3 with
  | zero => exact hk
  | succ n ih =>
    unfold refreshStream
    try dsimp only
    repeat' first
      | with_reducible first
        | assumption | apply ih | refine (hTrackers _ _).trans ?_ | apply frmEvent_frame | apply framerPut_frame
        | apply resetRunsUnder_frame | apply frame_foldl | apply frame_ite
      | split | intro _

theorem closeAll_frame (hTrackers : Blind π State.putTrackers) (u : Nat) (n : Nat) (s : State) (hk : π s = x) :
    π (closeAll u n s) = x := by
  unfold closeAll
  try dsimp only
  repeat' first
    | with_reducible first
      | assumption | refine (hTrackers _ _).trans ?_ | apply frame_foldl | apply frame_ite
    | split | intro _

theorem closeFrameLayer_frame (hTrackers : Blind π State.putTrackers) (u : Nat) (n : Nat) (s : State) (hk : π s = x) :
    π (closeFrameLayer u n s) = x := by
  unfold closeFrameLayer
  try dsimp only
  repeat' first
    | with_reducible first
      | assumption | refine (hTrackers _ _).trans ?_ | apply frame_foldl | apply frame_ite
    | split | intro _

theorem holdStream_frame (hCells : Blind π State.putCells) (hFramers : Blind π State.putFramers)
    (hTrackers : Blind π State.putTrackers) (u : Nat) (n : Nat) (s : State) (hk : π s = x) :
    π (holdStream u n s) = x := by
  unfold holdStream
  try dsimp only
  repeat' first
    | with_reducible first
      | assumption | apply refreshStream_frame | apply closeAll_frame | apply framerPut_frame | apply frame_foldl
      | apply frame_ite
    | split | intro _

theorem releaseStream_frame (hCells : Blind π State.putCells) (hFramers : Blind π State.putFramers)
    (hTrackers : Blind π State.putTrackers) (u : Nat) (n : Nat) (s : State) (hk : π s = x) :
    π (releaseStream u n s) = x := by
  unfold releaseStream
  try dsimp only
  repeat' first
    | with_reducible first
      | assumption | apply refreshStream_frame | apply framerPut_frame | apply frame_foldl | apply frame_ite
    | split | intro _

theorem laneLeft_frame (hCells : Blind π State.putCells) (hFramers : Blind π State.putFramers)
    (hTrackers : Blind π State.putTrackers) (side : Nat) (lane : Nat) (s : State) (hk : π s = x) :
    π (laneLeft side lane s) = x := by
  unfold laneLeft
  try dsimp only
  repeat' first
    | with_reducible first
      | assumption | apply holdStream_frame | apply frame_foldl | apply frame_ite
    | split | intro _

theorem restartStream_frame (hCells : Blind π State.putCells) (hCw : Blind π State.putCw)
    (hFramers : Blind π State.putFramers) (hIntPend : Blind π State.putIntPend) (hMons : Blind π State.putMons)
    (hMsixPba : Blind π State.putMsixPba) (hOut : Blind π State.putOut) (hPairs : Blind π State.putPairs)
    (hTrackers : Blind π State.putTrackers) (u : Nat) (n : Nat) (s : State) (hk : π s = x) :
    π (restartStream u n s) = x := by
  unfold restartStream
  try dsimp only
  repeat' first
    | with_reducible first
      | assumption | apply refreshStream_frame | apply frmEvent_frame | apply closeAll_frame | apply framerPut_frame
      | apply cenInc_frame | apply settleDefs_frame | apply frame_foldl | apply frame_ite
    | split | intro _

end Sys2Proof.Machine
end

