-- ==== Sys2Proof/Laws/FrameSize.lean ====
section
/-! SUPPORT. What the operations of Machine/Size.lean leave unchanged. -/

set_option linter.unusedTactic false
set_option linter.unreachableTactic false

namespace Sys2Proof.Machine

variable {β : Type} {π : State → β} {x : β}

theorem settle_frame (hBatchesDone : Blind π State.putBatchesDone) (hCw : Blind π State.putCw)
    (hHq : Blind π State.putHq) (hIntPend : Blind π State.putIntPend) (hMsixPba : Blind π State.putMsixPba)
    (hOut : Blind π State.putOut) (o : Origin) (k : RefKind) (addr : Nat) (s : State) (r : Applied) (hk : π s = x)
    (hr : FrameE π x r) :
    π (settle o k addr s r) = x := by
  unfold settle
  try dsimp only
  repeat' first
    | exact hr _ rfl
    | with_reducible first
      | assumption | exact frameE_error | apply refuse_frame | apply hr | apply frame_foldl | apply frame_ite
      | apply frameE_ok | apply frameE_ite
    | split | intro _

end Sys2Proof.Machine
end

