-- ==== Sys2Proof/Laws/FrameAudio.lean ====
section
/-! SUPPORT. What the operations of Machine/Audio.lean leave unchanged. -/

set_option linter.unusedTactic false
set_option linter.unreachableTactic false

namespace Sys2Proof.Machine

variable {β : Type} {π : State → β} {x : β}

theorem audioPut_frame (hAudio : Blind π State.putAudio) (p : Nat) (a : Audio) (s : State) (hk : π s = x) :
    π (audioPut p a s) = x := by
  unfold audioPut
  try dsimp only
  repeat' first
    | with_reducible first
      | assumption | refine (hAudio _ _).trans ?_ | apply frame_foldl | apply frame_ite
    | split | intro _

theorem chanPut_frame (hAudio : Blind π State.putAudio) (c : Nat) (k : Chan) (s : State) (hk : π s = x) :
    π (chanPut c k s) = x := by
  unfold chanPut
  try dsimp only
  repeat' first
    | with_reducible first
      | assumption | apply audioPut_frame | apply frame_foldl | apply frame_ite
    | split | intro _

theorem audEvt_frame (hDue : Blind π State.putDue) (p : Nat) (slot : Nat) (event : Nat) (s : State) (hk : π s = x) :
    π (audEvt p slot event s) = x := by
  unfold audEvt
  try dsimp only
  repeat' first
    | with_reducible first
      | assumption | refine (hDue _ _).trans ?_ | apply frame_foldl | apply frame_ite
    | split | intro _

theorem applyGain_frame (hFreeUses : Blind π State.putFreeUses) (g : Nat) (v : Fin 65536) (s : State) (hk : π s = x) :
    π (applyGain g v s).2 = x := by
  unfold applyGain
  try dsimp only
  repeat' first
    | with_reducible first
      | assumption | apply spendFree_frame | apply frame_foldl | apply frame_ite
    | split | intro _

theorem makeSlip_frame (hAudio : Blind π State.putAudio) (hCw : Blind π State.putCw) (c : Nat) (tx : Bool) (s : State)
    (hk : π s = x) :
    π (makeSlip c tx s) = x := by
  unfold makeSlip
  try dsimp only
  repeat' first
    | with_reducible first
      | assumption | apply chanPut_frame | apply cwCountFld_frame | apply frame_foldl | apply frame_ite
    | split | intro _

theorem forceSlip_frame (hAudio : Blind π State.putAudio) (hCw : Blind π State.putCw) (hDue : Blind π State.putDue)
    (c : Nat) (tx : Bool) (s : State) (hk : π s = x) :
    π (forceSlip c tx s) = x := by
  unfold forceSlip
  try dsimp only
  repeat' first
    | with_reducible first
      | assumption | apply makeSlip_frame | apply audEvt_frame | apply cwCountFld_frame | apply frame_foldl
      | apply frame_ite
    | split | intro _

theorem slipWrite_frame (hAudio : Blind π State.putAudio) (hCw : Blind π State.putCw) (hDue : Blind π State.putDue)
    (c : Nat) (tx : Bool) (v : Fin 65536) (s : State) (hk : π s = x) :
    π (slipWrite c tx v s) = x := by
  unfold slipWrite
  try dsimp only
  repeat' first
    | with_reducible first
      | assumption | apply chanPut_frame | apply forceSlip_frame | apply frame_foldl | apply frame_ite
    | split | intro _

theorem slipRead_frame (hAudio : Blind π State.putAudio) (hCw : Blind π State.putCw) (hDue : Blind π State.putDue)
    (c : Nat) (tx : Bool) (s : State) (hk : π s = x) :
    π (slipRead c tx s).2 = x := by
  unfold slipRead
  try dsimp only
  repeat' first
    | with_reducible first
      | assumption | apply chanPut_frame | apply forceSlip_frame | apply frame_foldl | apply frame_ite
    | split | intro _

theorem insertOctet_frame (hOh : Blind π State.putOh) (hOut : Blind π State.putOut) (w : Word) (o : Nat) (s : State)
    (hk : π s = x) :
    π (insertOctet w o s) = x := by
  unfold insertOctet
  try dsimp only
  repeat' first
    | with_reducible first
      | assumption | apply emit_frame | apply ohSet_frame | apply frame_foldl | apply frame_ite
    | split | intro _

theorem lineTx_frame (hAudio : Blind π State.putAudio) (hCw : Blind π State.putCw) (hDue : Blind π State.putDue)
    (hFreeUses : Blind π State.putFreeUses) (hOh : Blind π State.putOh) (hOut : Blind π State.putOut) (c : Nat)
    (s : State) (hk : π s = x) :
    π (lineTx c s) = x := by
  unfold lineTx
  try dsimp only
  repeat' first
    | with_reducible first
      | assumption | apply chanPut_frame | apply slipRead_frame | apply applyGain_frame | apply insertOctet_frame
      | apply frame_foldl | apply frame_ite
    | split | intro _

theorem cardTx_frame (hAudio : Blind π State.putAudio) (hCw : Blind π State.putCw) (hDue : Blind π State.putDue)
    (hFreeUses : Blind π State.putFreeUses) (hOut : Blind π State.putOut) (c : Nat) (s : State) (hk : π s = x) :
    π (cardTx c s) = x := by
  unfold cardTx
  try dsimp only
  repeat' first
    | with_reducible first
      | assumption | apply chanPut_frame | apply slipRead_frame | apply applyGain_frame | apply emit_frame
      | apply frame_foldl | apply frame_ite
    | split | intro _

theorem execAudSample_frame (hAudio : Blind π State.putAudio) (hCw : Blind π State.putCw)
    (hDue : Blind π State.putDue) (hFreeUses : Blind π State.putFreeUses) (hOh : Blind π State.putOh)
    (hOut : Blind π State.putOut) (c : Fin 8) (m : AudioMove) (s : State) (hk : π s = x) :
    FrameR π x (execAudSample c m s) := by
  unfold execAudSample
  try dsimp only
  repeat' first
    | with_reducible first
      | assumption | apply audioPut_frame | apply cardTx_frame | apply lineTx_frame | apply slipWrite_frame
      | apply frame_foldl | apply frame_ite | apply frameR_next
    | split | intro _

theorem execAudSlip_frame (hAudio : Blind π State.putAudio) (hCw : Blind π State.putCw) (c : Fin 8) (tx : Bool)
    (s : State) (hk : π s = x) :
    FrameR π x (execAudSlip c tx s) := by
  unfold execAudSlip
  try dsimp only
  repeat' first
    | with_reducible first
      | assumption | apply makeSlip_frame | apply frame_foldl | apply frame_ite | apply frameR_next
    | split | intro _

theorem execAudForcedSlip_frame (hAudio : Blind π State.putAudio) (hCw : Blind π State.putCw)
    (hDue : Blind π State.putDue) (c : Fin 8) (tx : Bool) (s : State) (hk : π s = x) :
    FrameR π x (execAudForcedSlip c tx s) := by
  unfold execAudForcedSlip
  try dsimp only
  repeat' first
    | with_reducible first
      | assumption | apply forceSlip_frame | apply frame_foldl | apply frame_ite | apply frameR_next
    | split | intro _

theorem startChan_frame (hAudio : Blind π State.putAudio) (c : Nat) (s : State) (hk : π s = x) :
    π (startChan c s) = x := by
  unfold startChan
  try dsimp only
  repeat' first
    | with_reducible first
      | assumption | apply chanPut_frame | apply frame_foldl | apply frame_ite
    | split | intro _

theorem applyAudCfg_frame (hAudio : Blind π State.putAudio) (hCw : Blind π State.putCw) (p : Nat) (v : Word)
    (s : State) (hk : π s = x) :
    FrameE π x (applyAudCfg p v s) := by
  unfold applyAudCfg
  try dsimp only
  repeat' first
    | with_reducible first
      | assumption | exact frameE_error | apply audioPut_frame | apply startChan_frame | apply cwSet_frame
      | apply frame_foldl | apply frame_ite | apply frameE_ok | apply frameE_ite
    | split | intro _

theorem execAudCfg_frame (hAudio : Blind π State.putAudio) (hBatchesDone : Blind π State.putBatchesDone)
    (hCw : Blind π State.putCw) (hHq : Blind π State.putHq) (hIntPend : Blind π State.putIntPend)
    (hMsixPba : Blind π State.putMsixPba) (hOut : Blind π State.putOut) (p : Fin 4) (w : CtlWrite) (s : State)
    (hk : π s = x) :
    FrameR π x (execAudCfg p w s) := by
  unfold execAudCfg
  try dsimp only
  repeat' first
    | with_reducible first
      | assumption | exact frameE_error | apply settle_frame | apply applyAudCfg_frame | apply frame_foldl
      | apply frame_ite | apply frameE_ok | apply frameE_ite | apply frameR_next
    | split | intro _

theorem applyOw_frame (hAudio : Blind π State.putAudio) (hCw : Blind π State.putCw) (c : Nat) (v : Word) (s : State)
    (hk : π s = x) :
    FrameE π x (applyOw c v s) := by
  unfold applyOw
  try dsimp only
  repeat' first
    | with_reducible first
      | assumption | exact frameE_error | apply chanPut_frame | apply startChan_frame | apply cwSet_frame
      | apply frame_foldl | apply frame_ite | apply frameE_ok | apply frameE_ite
    | split | intro _

theorem execOwCfg_frame (hAudio : Blind π State.putAudio) (hBatchesDone : Blind π State.putBatchesDone)
    (hCw : Blind π State.putCw) (hHq : Blind π State.putHq) (hIntPend : Blind π State.putIntPend)
    (hMsixPba : Blind π State.putMsixPba) (hOut : Blind π State.putOut) (c : Fin 8) (w : CtlWrite) (s : State)
    (hk : π s = x) :
    FrameR π x (execOwCfg c w s) := by
  unfold execOwCfg
  try dsimp only
  repeat' first
    | with_reducible first
      | assumption | exact frameE_error | apply settle_frame | apply applyOw_frame | apply frame_foldl
      | apply frame_ite | apply frameE_ok | apply frameE_ite | apply frameR_next
    | split | intro _

theorem landChange_frame (hAudio : Blind π State.putAudio) (c : Nat) (tx : Bool) (s : State) (hk : π s = x) :
    π (landChange c tx s) = x := by
  unfold landChange
  try dsimp only
  repeat' first
    | with_reducible first
      | assumption | apply chanPut_frame | apply frame_foldl | apply frame_ite
    | split | intro _

theorem execAudChangeLand_frame (hAudio : Blind π State.putAudio) (c : Fin 8) (tx : Bool) (s : State) (hk : π s = x) :
    FrameR π x (execAudChangeLand c tx s) := by
  unfold execAudChangeLand
  try dsimp only
  repeat' first
    | with_reducible first
      | assumption | apply landChange_frame | apply frame_foldl | apply frame_ite | apply frameR_next
    | split | intro _

theorem execAudChangeTimeout_frame (hAudio : Blind π State.putAudio) (hDue : Blind π State.putDue) (c : Fin 8)
    (tx : Bool) (s : State) (hk : π s = x) :
    FrameR π x (execAudChangeTimeout c tx s) := by
  unfold execAudChangeTimeout
  try dsimp only
  repeat' first
    | with_reducible first
      | assumption | apply landChange_frame | apply audEvt_frame | apply frame_foldl | apply frame_ite
      | apply frameR_next
    | split | intro _

theorem execAudPortFreeze_frame (hAudio : Blind π State.putAudio) (hCw : Blind π State.putCw)
    (hDue : Blind π State.putDue) (p : Fin 4) (s : State) (hk : π s = x) :
    FrameR π x (execAudPortFreeze p s) := by
  unfold execAudPortFreeze
  try dsimp only
  repeat' first
    | with_reducible first
      | assumption | apply audioPut_frame | apply audEvt_frame | apply cwCount_frame | apply frame_foldl
      | apply frame_ite | apply frameR_next
    | split | intro _

theorem execAudPortResume_frame (hAudio : Blind π State.putAudio) (hDue : Blind π State.putDue) (p : Fin 4)
    (hz : Fin 16384) (s : State) (hk : π s = x) :
    FrameR π x (execAudPortResume p hz s) := by
  unfold execAudPortResume
  try dsimp only
  repeat' first
    | with_reducible first
      | assumption | apply audioPut_frame | apply audEvt_frame | apply frame_foldl | apply frame_ite
      | apply frameR_next
    | split | intro _

theorem execAudMuteLift_frame (hAudio : Blind π State.putAudio) (hDue : Blind π State.putDue) (p : Fin 4) (s : State)
    (hk : π s = x) :
    FrameR π x (execAudMuteLift p s) := by
  unfold execAudMuteLift
  try dsimp only
  repeat' first
    | with_reducible first
      | assumption | apply audioPut_frame | apply audEvt_frame | apply frame_foldl | apply frame_ite
      | apply frameR_next
    | split | intro _

theorem execAudCntClear_frame (hCw : Blind π State.putCw) (c : Fin 8) (s : State) (hk : π s = x) :
    FrameR π x (execAudCntClear c s) := by
  unfold execAudCntClear
  try dsimp only
  repeat' first
    | with_reducible first
      | assumption | apply cwSet_frame | apply frame_foldl | apply frame_ite | apply frameR_next
    | split | intro _

end Sys2Proof.Machine
end

