-- ==== Sys2Proof/Laws/FrameStreams.lean ====
section
/-! SUPPORT. What the operations of Machine/Streams.lean leave unchanged. -/

set_option linter.unusedTactic false
set_option linter.unreachableTactic false

namespace Sys2Proof.Machine

variable {β : Type} {π : State → β} {x : β}

theorem lanePut_frame (hLanes : Blind π State.putLanes) (k : Nat) (l : Lane) (s : State) (hk : π s = x) :
    π (lanePut k l s) = x := by
  unfold lanePut
  try dsimp only
  repeat' first
    | with_reducible first
      | assumption | refine (hLanes _ _).trans ?_ | apply frame_foldl | apply frame_ite
    | split | intro _

theorem portPut_frame (hPorts : Blind π State.putPorts) (k : Nat) (p : Port) (s : State) (hk : π s = x) :
    π (portPut k p s) = x := by
  unfold portPut
  try dsimp only
  repeat' first
    | with_reducible first
      | assumption | refine (hPorts _ _).trans ?_ | apply frame_foldl | apply frame_ite
    | split | intro _

end Sys2Proof.Machine
end

