-- ==== Sys2Proof/Laws/FrameMapping.lean ====
section
/-! SUPPORT. What the operations of Machine/Mapping.lean leave unchanged. -/

set_option linter.unusedTactic false
set_option linter.unreachableTactic false

namespace Sys2Proof.Machine

variable {β : Type} {π : State → β} {x : β}

theorem mapStoreWord_frame (hCw : Blind π State.putCw) (u : Nat) (p : Nat) (w : Nat) (v : Word) (s : State)
    (hk : π s = x) :
    π (mapStoreWord u p w v s) = x := by
  unfold mapStoreWord
  try dsimp only
  repeat' first
    | with_reducible first
      | assumption | apply cwSet_frame | apply frame_foldl | apply frame_ite
    | split | intro _

theorem mapPlan_frame (hCw : Blind π State.putCw) (u : Nat) (p : Nat) (ws : List MapWrite) (s : State) (hk : π s = x) :
    π (mapPlan u p ws s) = x := by
  unfold mapPlan
  try dsimp only
  repeat' first
    | with_reducible first
      | assumption | apply mapStoreWord_frame | apply frame_foldl | apply frame_ite
    | split | intro _

theorem refreshTribs_frame (hCells : Blind π State.putCells) (hFramers : Blind π State.putFramers)
    (hTrackers : Blind π State.putTrackers) (s : State) (hk : π s = x) :
    π (refreshTribs s) = x := by
  unfold refreshTribs
  try dsimp only
  repeat' first
    | with_reducible first
      | assumption | apply releaseStream_frame | apply frame_foldl | apply frame_ite
    | split | intro _

theorem applyMap_frame (hCw : Blind π State.putCw) (hPorts : Blind π State.putPorts) (before : State) (plan : State)
    (u : Nat) (p : Nat) (w : Nat) (v : Word) (s : State) (hk : π s = x) :
    FrameE π x (applyMap before plan u p w v s) := by
  unfold applyMap
  try dsimp only
  repeat' first
    | with_reducible first
      | assumption | exact frameE_error | apply mapStoreWord_frame | apply portPut_frame | apply frame_foldl
      | apply frame_ite | apply frameE_ok | apply frameE_ite
    | split | intro _

theorem applyMapWrites_frame (hBatchesDone : Blind π State.putBatchesDone) (hCw : Blind π State.putCw)
    (hHq : Blind π State.putHq) (hIntPend : Blind π State.putIntPend) (hMsixPba : Blind π State.putMsixPba)
    (hOut : Blind π State.putOut) (hPorts : Blind π State.putPorts) (r : PortRef) (ws : List MapWrite) (s : State)
    (hk : π s = x) :
    π (applyMapWrites r ws s) = x := by
  unfold applyMapWrites
  try dsimp only
  repeat' first
    | with_reducible first
      | assumption | exact frameE_error | apply settle_frame | apply applyMap_frame | apply mapPlan_frame
      | apply frame_foldl | apply frame_ite | apply frameE_ok | apply frameE_ite
    | split | intro _

theorem execMapCfg_frame (hBatchesDone : Blind π State.putBatchesDone) (hCw : Blind π State.putCw)
    (hHq : Blind π State.putHq) (hIntPend : Blind π State.putIntPend) (hMsixPba : Blind π State.putMsixPba)
    (hOut : Blind π State.putOut) (hPorts : Blind π State.putPorts) (r : PortRef) (ws : List MapWrite) (s : State)
    (hk : π s = x) :
    FrameR π x (execMapCfg r ws s) := by
  unfold execMapCfg
  try dsimp only
  repeat' first
    | with_reducible first
      | assumption | apply applyMapWrites_frame | apply frame_foldl | apply frame_ite | apply frameR_next
    | split | intro _

theorem execMapTxRun_frame (hBatchesDone : Blind π State.putBatchesDone) (hCw : Blind π State.putCw)
    (hHq : Blind π State.putHq) (hIntPend : Blind π State.putIntPend) (hMsixPba : Blind π State.putMsixPba)
    (hOut : Blind π State.putOut) (hPorts : Blind π State.putPorts) (r : PortRef) (ws : List RunWrite) (s : State)
    (hk : π s = x) :
    FrameR π x (execMapTxRun r ws s) := by
  unfold execMapTxRun
  try dsimp only
  repeat' first
    | with_reducible first
      | assumption | apply applyMapWrites_frame | apply frame_foldl | apply frame_ite | apply frameR_next
    | split | intro _

theorem landRxRuns_frame (hCells : Blind π State.putCells) (hFramers : Blind π State.putFramers)
    (hPorts : Blind π State.putPorts) (hTrackers : Blind π State.putTrackers) (u : Nat) (p : Nat) (s : State)
    (hk : π s = x) :
    π (landRxRuns u p s) = x := by
  unfold landRxRuns
  try dsimp only
  repeat' first
    | with_reducible first
      | assumption | apply refreshTribs_frame | apply portPut_frame | apply frame_foldl | apply frame_ite
    | split | intro _

theorem execMapRxRun_frame (hBatchesDone : Blind π State.putBatchesDone) (hCells : Blind π State.putCells)
    (hCw : Blind π State.putCw) (hFramers : Blind π State.putFramers) (hHq : Blind π State.putHq)
    (hIntPend : Blind π State.putIntPend) (hMsixPba : Blind π State.putMsixPba) (hOut : Blind π State.putOut)
    (hPorts : Blind π State.putPorts) (hTrackers : Blind π State.putTrackers) (r : PortRef) (step : RunStep)
    (s : State) (hk : π s = x) :
    FrameR π x (execMapRxRun r step s) := by
  unfold execMapRxRun
  try dsimp only
  repeat' first
    | with_reducible first
      | assumption | apply landRxRuns_frame | apply applyMapWrites_frame | apply frame_foldl | apply frame_ite
      | apply frameR_next
    | split | intro _

theorem landTxRuns_frame (hPorts : Blind π State.putPorts) (u : Nat) (p : Nat) (s : State) (hk : π s = x) :
    π (landTxRuns u p s) = x := by
  unfold landTxRuns
  try dsimp only
  repeat' first
    | with_reducible first
      | assumption | apply portPut_frame | apply frame_foldl | apply frame_ite
    | split | intro _

theorem execMapPortStart_frame (hCells : Blind π State.putCells) (hFramers : Blind π State.putFramers)
    (hPorts : Blind π State.putPorts) (hTrackers : Blind π State.putTrackers) (r : PortRef) (s : State) (hk : π s = x) :
    FrameR π x (execMapPortStart r s) := by
  unfold execMapPortStart
  try dsimp only
  repeat' first
    | with_reducible first
      | assumption | apply refreshTribs_frame | apply portPut_frame | apply frame_foldl | apply frame_ite
      | apply frameR_next
    | split | intro _

theorem execMapCntClr_frame (hPorts : Blind π State.putPorts) (r : PortRef) (s : State) (hk : π s = x) :
    FrameR π x (execMapCntClr r s) := by
  unfold execMapCntClr
  try dsimp only
  repeat' first
    | with_reducible first
      | assumption | apply portPut_frame | apply frame_foldl | apply frame_ite | apply frameR_next
    | split | intro _

theorem countPort0_frame (hPorts : Blind π State.putPorts) (k : Nat) (hi : Nat) (lo : Nat) (n : Nat) (s : State)
    (hk : π s = x) :
    π (countPort0 k hi lo n s) = x := by
  unfold countPort0
  try dsimp only
  repeat' first
    | with_reducible first
      | assumption | apply portPut_frame | apply frame_foldl | apply frame_ite
    | split | intro _

theorem countPort1_frame (hPorts : Blind π State.putPorts) (k : Nat) (hi : Nat) (lo : Nat) (n : Nat) (s : State)
    (hk : π s = x) :
    π (countPort1 k hi lo n s) = x := by
  unfold countPort1
  try dsimp only
  repeat' first
    | with_reducible first
      | assumption | apply portPut_frame | apply frame_foldl | apply frame_ite
    | split | intro _

theorem execClientReplacementStart_frame (hPorts : Blind π State.putPorts) (r : PortRef) (rx : Bool) (s : State)
    (hk : π s = x) :
    FrameR π x (execClientReplacementStart r rx s) := by
  unfold execClientReplacementStart
  try dsimp only
  repeat' first
    | with_reducible first
      | assumption | apply portPut_frame | apply frame_foldl | apply frame_ite | apply frameR_next
    | split | intro _

theorem execClientReplacementEnd_frame (hPorts : Blind π State.putPorts) (r : PortRef) (rx : Bool) (s : State)
    (hk : π s = x) :
    FrameR π x (execClientReplacementEnd r rx s) := by
  unfold execClientReplacementEnd
  try dsimp only
  repeat' first
    | with_reducible first
      | assumption | apply portPut_frame | apply frame_foldl | apply frame_ite | apply frameR_next
    | split | intro _

theorem execGfpCsfSend_frame (hOut : Blind π State.putOut) (r : PortRef) (s : State) (hk : π s = x) :
    FrameR π x (execGfpCsfSend r s) := by
  unfold execGfpCsfSend
  try dsimp only
  repeat' first
    | with_reducible first
      | assumption | apply emit_frame | apply frame_foldl | apply frame_ite | apply frameR_next
    | split | intro _

theorem execCsfRxTimeout_frame (hPorts : Blind π State.putPorts) (r : PortRef) (s : State) (hk : π s = x) :
    FrameR π x (execCsfRxTimeout r s) := by
  unfold execCsfRxTimeout
  try dsimp only
  repeat' first
    | with_reducible first
      | assumption | apply portPut_frame | apply frame_foldl | apply frame_ite | apply frameR_next
    | split | intro _

theorem applyCal_frame (hCw : Blind π State.putCw) (u : Nat) (idx : Nat) (v : Word) (s : State) (hk : π s = x) :
    FrameE π x (applyCal u idx v s) := by
  unfold applyCal
  try dsimp only
  repeat' first
    | with_reducible first
      | assumption | exact frameE_error | apply cwSet_frame | apply frame_foldl | apply frame_ite | apply frameE_ok
      | apply frameE_ite
    | split | intro _

theorem applyShim_frame (hCw : Blind π State.putCw) (hPorts : Blind π State.putPorts) (u : Nat) (p : Nat) (v : Word)
    (s : State) (hk : π s = x) :
    FrameE π x (applyShim u p v s) := by
  unfold applyShim
  try dsimp only
  repeat' first
    | with_reducible first
      | assumption | exact frameE_error | apply mapStoreWord_frame | apply portPut_frame | apply frame_foldl
      | apply frame_ite | apply frameE_ok | apply frameE_ite
    | split | intro _

theorem execShimCalReq_frame (hBatchesDone : Blind π State.putBatchesDone) (hCw : Blind π State.putCw)
    (hHq : Blind π State.putHq) (hIntPend : Blind π State.putIntPend) (hMsixPba : Blind π State.putMsixPba)
    (hOut : Blind π State.putOut) (hPorts : Blind π State.putPorts) (r : PortRef) (w : CtlWrite) (s : State)
    (hk : π s = x) :
    FrameR π x (execShimCalReq r w s) := by
  unfold execShimCalReq
  try dsimp only
  repeat' first
    | with_reducible first
      | assumption | exact frameE_error | apply applyShim_frame | apply settle_frame | apply frame_foldl
      | apply frame_ite | apply frameE_ok | apply frameE_ite | apply frameR_next
    | split | intro _

theorem execFlexeCalSwitch_frame (hPorts : Blind π State.putPorts) (r : PortRef) (s : State) (hk : π s = x) :
    FrameR π x (execFlexeCalSwitch r s) := by
  unfold execFlexeCalSwitch
  try dsimp only
  repeat' first
    | with_reducible first
      | assumption | apply portPut_frame | apply countPort0_frame | apply frame_foldl | apply frame_ite
      | apply frameR_next
    | split | intro _

theorem execFlexeCalTimeout_frame (hCw : Blind π State.putCw) (hHq : Blind π State.putHq)
    (hIntPend : Blind π State.putIntPend) (hMsixPba : Blind π State.putMsixPba) (hOut : Blind π State.putOut)
    (hPorts : Blind π State.putPorts) (r : PortRef) (s : State) (hk : π s = x) :
    FrameR π x (execFlexeCalTimeout r s) := by
  unfold execFlexeCalTimeout
  try dsimp only
  repeat' first
    | with_reducible first
      | assumption | apply record0_frame | apply portPut_frame | apply countPort0_frame | apply frame_foldl
      | apply frame_ite | apply frameR_next
    | split | intro _

theorem execGfpFrameRx_frame (hPorts : Blind π State.putPorts) (r : PortRef) (h : GfpHeader) (f : GfpRx) (s : State)
    (hk : π s = x) :
    FrameR π x (execGfpFrameRx r h f s) := by
  unfold execGfpFrameRx
  try dsimp only
  repeat' first
    | with_reducible first
      | assumption | apply portPut_frame | apply countPort1_frame | apply frame_foldl | apply frame_ite
      | apply frameR_next
    | split | intro _

theorem execChanFrameTx_frame (hOut : Blind π State.putOut) (hPorts : Blind π State.putPorts) (r : PortRef)
    (s : State) (hk : π s = x) :
    FrameR π x (execChanFrameTx r s) := by
  unfold execChanFrameTx
  try dsimp only
  repeat' first
    | with_reducible first
      | assumption | apply emit_frame | apply portPut_frame | apply frame_foldl | apply frame_ite | apply frameR_next
    | split | intro _

end Sys2Proof.Machine
end

