-- ==== Sys2Proof/Laws/FrameOperands.lean ====
section
/-! SUPPORT. What the operations of Machine/Operands.lean leave unchanged. -/

set_option linter.unusedTactic false
set_option linter.unreachableTactic false

namespace Sys2Proof.Machine

variable {β : Type} {π : State → β} {x : β}

theorem engPut_frame (hEngines : Blind π State.putEngines) (e : Nat) (E : Engine) (s : State) (hk : π s = x) :
    π (engPut e E s) = x := by
  unfold engPut
  try dsimp only
  repeat' first
    | with_reducible first
      | assumption | refine (hEngines _ _).trans ?_ | apply frame_foldl | apply frame_ite
    | split | intro _

theorem setReg_frame (hEngines : Blind π State.putEngines) (e : Nat) (g : Nat) (v : Word) (s : State) (hk : π s = x) :
    π (setReg e g v s) = x := by
  unfold setReg
  try dsimp only
  repeat' first
    | with_reducible first
      | assumption | apply engPut_frame | apply frame_foldl | apply frame_ite
    | split | intro _

theorem setPred_frame (hEngines : Blind π State.putEngines) (e : Nat) (p : Nat) (v : Bool) (s : State) (hk : π s = x) :
    π (setPred e p v s) = x := by
  unfold setPred
  try dsimp only
  repeat' first
    | with_reducible first
      | assumption | apply engPut_frame | apply frame_foldl | apply frame_ite
    | split | intro _

theorem engErr_frame (hCw : Blind π State.putCw) (hEngines : Blind π State.putEngines) (e : Nat) (cause : Nat)
    (s : State) (hk : π s = x) :
    π (engErr e cause s) = x := by
  unfold engErr
  try dsimp only
  repeat' first
    | with_reducible first
      | assumption | apply cwCount_frame | apply engPut_frame | apply frame_foldl | apply frame_ite
    | split | intro _

theorem setOvf_frame (hCw : Blind π State.putCw) (e : Nat) (k : Nat) (s : State) (hk : π s = x) :
    π (setOvf e k s) = x := by
  unfold setOvf
  try dsimp only
  repeat' first
    | with_reducible first
      | assumption | apply cwPut_frame | apply frame_foldl | apply frame_ite
    | split | intro _

theorem pcAdd_frame (hCw : Blind π State.putCw) (e : Nat) (k : Nat) (add : Nat) (s : State) (hk : π s = x) :
    π (pcAdd e k add s).1 = x := by
  unfold pcAdd
  try dsimp only
  repeat' first
    | with_reducible first
      | assumption | apply setOvf_frame | apply cwSet_frame | apply frame_foldl | apply frame_ite
    | split | intro _

theorem pcOwn_frame (hEngines : Blind π State.putEngines) (e : Nat) (k : Nat) (p : Span) (s : State) (hk : π s = x) :
    π (pcOwn e k p s).1 = x := by
  unfold pcOwn
  try dsimp only
  repeat' first
    | with_reducible first
      | assumption | apply engPut_frame | apply frame_foldl | apply frame_ite
    | split | intro _

theorem pcStep_frame (hCw : Blind π State.putCw) (hEngines : Blind π State.putEngines) (e : Nat) (k : Nat) (p : Span)
    (chained : Bool) (carry : Nat) (s : State) (hk : π s = x) :
    π (pcStep e k p chained carry s).1 = x := by
  unfold pcStep
  try dsimp only
  repeat' first
    | with_reducible first
      | assumption | apply setOvf_frame | apply pcOwn_frame | apply pcAdd_frame | apply frame_foldl | apply frame_ite
    | split | intro _

theorem pcSteps_frame (hCw : Blind π State.putCw) (hEngines : Blind π State.putEngines) (e : Nat) (p : Span)
    (a2 : List Nat) (a3 : Bool) (a4 : Nat) (a5 : State) (hk : π a5 = x) :
    π (pcSteps e p a2 a3 a4 a5) = x := by
  induction a2 generalizing a3 a4 a5 with
  | nil => exact hk
  | cons k ks ih =>
    unfold pcSteps
    try dsimp only
    repeat' first
      | with_reducible first
        | assumption | apply ih | apply pcStep_frame | apply frame_foldl | apply frame_ite
      | split | intro _

theorem passCycles_frame (hCw : Blind π State.putCw) (hEngines : Blind π State.putEngines) (e : Nat) (p : Span)
    (s : State) (hk : π s = x) :
    π (passCycles e p s) = x := by
  unfold passCycles
  try dsimp only
  repeat' first
    | with_reducible first
      | assumption | apply pcSteps_frame | apply engPut_frame | apply frame_foldl | apply frame_ite
    | split | intro _

theorem dropItem_frame (hCw : Blind π State.putCw) (hEngines : Blind π State.putEngines) (e : Nat) (s : State)
    (hk : π s = x) :
    π (dropItem e s) = x := by
  unfold dropItem
  try dsimp only
  repeat' first
    | with_reducible first
      | assumption | apply engErr_frame | apply engPut_frame | apply frame_foldl | apply frame_ite
    | split | intro _

theorem resumeBatch_frame (hEngines : Blind π State.putEngines) (hSuspended : Blind π State.putSuspended) (s : State)
    (hk : π s = x) :
    π (resumeBatch s) = x := by
  unfold resumeBatch
  try dsimp only
  repeat' first
    | with_reducible first
      | assumption | refine (hSuspended _ _).trans ?_ | apply engPut_frame | apply frame_foldl | apply frame_ite
    | split | intro _

theorem endRun_frame (hBatch : Blind π State.putBatch) (hBatchesDone : Blind π State.putBatchesDone)
    (hCw : Blind π State.putCw) (hEngines : Blind π State.putEngines) (hSuspended : Blind π State.putSuspended)
    (e : Nat) (s : State) (hk : π s = x) :
    π (endRun e s) = x := by
  unfold endRun
  try dsimp only
  repeat' first
    | with_reducible first
      | assumption | refine (hBatchesDone _ _).trans ?_ | refine (hBatch _ _).trans ?_ | apply dropItem_frame
      | apply resumeBatch_frame | apply engPut_frame | apply frame_foldl | apply frame_ite
    | split | intro _

theorem traceBundle_frame (hTrace : Blind π State.putTrace) (e : Nat) (pc : Nat) (s : State) (hk : π s = x) :
    π (traceBundle e pc s) = x := by
  unfold traceBundle
  try dsimp only
  repeat' first
    | with_reducible first
      | assumption | refine (hTrace _ _).trans ?_ | apply frame_foldl | apply frame_ite
    | split | intro _

theorem closeBundle_frame (hBatch : Blind π State.putBatch) (hBatchesDone : Blind π State.putBatchesDone)
    (hCw : Blind π State.putCw) (hEngines : Blind π State.putEngines) (hSuspended : Blind π State.putSuspended)
    (hTrace : Blind π State.putTrace) (e : Nat) (s : State) (hk : π s = x) :
    π (closeBundle e s) = x := by
  unfold closeBundle
  try dsimp only
  repeat' first
    | with_reducible first
      | assumption | apply traceBundle_frame | apply endRun_frame | apply passCycles_frame | apply engPut_frame
      | apply frame_foldl | apply frame_ite
    | split | intro _

theorem openSlot_frame (hBatch : Blind π State.putBatch) (hBatchesDone : Blind π State.putBatchesDone)
    (hCw : Blind π State.putCw) (hEngines : Blind π State.putEngines) (hSuspended : Blind π State.putSuspended)
    (hTrace : Blind π State.putTrace) (e : Nat) (slot : Slot) (s : State) (hk : π s = x) :
    π (openSlot e slot s) = x := by
  unfold openSlot
  try dsimp only
  repeat' first
    | with_reducible first
      | assumption | apply closeBundle_frame | apply engPut_frame | apply frame_foldl | apply frame_ite
    | split | intro _

theorem charge_frame (hEngines : Blind π State.putEngines) (e : Nat) (u : Use) (run : Bool) (s : State) (hk : π s = x) :
    π (charge e u run s) = x := by
  unfold charge
  try dsimp only
  repeat' first
    | with_reducible first
      | assumption | apply engPut_frame | apply frame_foldl | apply frame_ite
    | split | intro _

theorem issue_frame (hBatch : Blind π State.putBatch) (hBatchesDone : Blind π State.putBatchesDone)
    (hCw : Blind π State.putCw) (hEngines : Blind π State.putEngines) (hSuspended : Blind π State.putSuspended)
    (hTrace : Blind π State.putTrace) (i : Iss) (u : Use) (body : State → State) (s : State) (hk : π s = x)
    (hbody : ∀ y0, π y0 = x → π (body y0) = x) :
    π (issue i u body s) = x := by
  unfold issue
  try dsimp only
  repeat' first
    | with_reducible first
      | assumption | apply closeBundle_frame | apply openSlot_frame | apply charge_frame | apply hbody
      | apply frame_foldl | apply frame_ite
    | split | intro _

theorem onContext_frame (hCw : Blind π State.putCw) (hEngines : Blind π State.putEngines) (e : Nat) (gA : Nat)
    (off : Nat) (f : Nat → State → State) (s : State) (hk : π s = x) (hf : ∀ y0 y1, π y1 = x → π (f y0 y1) = x) :
    π (onContext e gA off f s) = x := by
  unfold onContext
  try dsimp only
  repeat' first
    | with_reducible first
      | assumption | apply engErr_frame | apply hf | apply frame_foldl | apply frame_ite
    | split | intro _

theorem readContext_frame (hCw : Blind π State.putCw) (hEngines : Blind π State.putEngines) (e : Nat) (gD : Nat)
    (gA : Nat) (off : Nat) (f : State → Nat → Word) (s : State) (hk : π s = x) :
    π (readContext e gD gA off f s) = x := by
  unfold readContext
  try dsimp only
  repeat' first
    | with_reducible first
      | assumption | apply setReg_frame | apply engErr_frame | apply frame_foldl | apply frame_ite
    | split | intro _

theorem outsideGrant_frame (hCw : Blind π State.putCw) (hHq : Blind π State.putHq)
    (hIntPend : Blind π State.putIntPend) (hMsixPba : Blind π State.putMsixPba) (hOut : Blind π State.putOut)
    (hViolated : Blind π State.putViolated) (e : Nat) (addr : Nat) (s : State) (hk : π s = x) :
    π (outsideGrant e addr s) = x := by
  unfold outsideGrant
  try dsimp only
  repeat' first
    | with_reducible first
      | assumption | apply violation_frame | apply frame_foldl | apply frame_ite
    | split | intro _

theorem stage_frame (hBatch : Blind π State.putBatch) (hEngines : Blind π State.putEngines) (e : Nat) (op : StagedOp)
    (s : State) (hk : π s = x) :
    π (stage e op s) = x := by
  unfold stage
  try dsimp only
  repeat' first
    | with_reducible first
      | assumption | refine (hBatch _ _).trans ?_ | apply engPut_frame | apply frame_foldl | apply frame_ite
    | split | intro _

end Sys2Proof.Machine
end

