-- ==== Sys2Proof/Laws/FrameSlots.lean ====
section
/-! SUPPORT. What the operations of Machine/Slots.lean leave unchanged. -/

set_option linter.unusedTactic false
set_option linter.unreachableTactic false

namespace Sys2Proof.Machine

variable {β : Type} {π : State → β} {x : β}

theorem dieDeckPut_frame (hDecks : Blind π State.putDecks) (d : Nat) (k : DieDeck) (s : State) (hk : π s = x) :
    π (dieDeckPut d k s) = x := by
  unfold dieDeckPut
  try dsimp only
  repeat' first
    | with_reducible first
      | assumption | refine (hDecks _ _).trans ?_ | apply frame_foldl | apply frame_ite
    | split | intro _

end Sys2Proof.Machine
end

