-- ==== Sys2Proof/Laws/FrameDecks.lean ====
section
/-! SUPPORT. What the operations of Machine/Decks.lean leave unchanged. -/

set_option linter.unusedTactic false
set_option linter.unreachableTactic false

namespace Sys2Proof.Machine

variable {β : Type} {π : State → β} {x : β}

theorem execDeckW_frame (hBatch : Blind π State.putBatch) (hBatchesDone : Blind π State.putBatchesDone)
    (hCw : Blind π State.putCw) (hEngines : Blind π State.putEngines) (hHq : Blind π State.putHq)
    (hIntPend : Blind π State.putIntPend) (hMsixPba : Blind π State.putMsixPba) (hOut : Blind π State.putOut)
    (hSuspended : Blind π State.putSuspended) (hTrace : Blind π State.putTrace)
    (hViolated : Blind π State.putViolated) (i : IssA) (gA : Reg) (gB : Reg) (s : State) (hk : π s = x) :
    FrameR π x (execDeckW i gA gB s) := by
  unfold execDeckW
  try dsimp only
  repeat' first
    | with_reducible first
      | assumption | apply issue_frame | apply outsideGrant_frame | apply stage_frame | apply frame_foldl
      | apply frame_ite | apply frameR_next
    | split | intro _

theorem refuseRead_frame (hBatch : Blind π State.putBatch) (hBatchesDone : Blind π State.putBatchesDone)
    (hCw : Blind π State.putCw) (hHq : Blind π State.putHq) (hIntPend : Blind π State.putIntPend)
    (hMsixPba : Blind π State.putMsixPba) (hOut : Blind π State.putOut) (e : Nat) (status : Nat) (k : RefKind)
    (addr : Nat) (s : State) (hk : π s = x) :
    π (refuseRead e status k addr s) = x := by
  unfold refuseRead
  try dsimp only
  repeat' first
    | with_reducible first
      | assumption | refine (hBatch _ _).trans ?_ | apply refuse_frame | apply frame_foldl | apply frame_ite
    | split | intro _

theorem execDeckRd_frame (hBatch : Blind π State.putBatch) (hBatchesDone : Blind π State.putBatchesDone)
    (hCw : Blind π State.putCw) (hEngines : Blind π State.putEngines) (hHq : Blind π State.putHq)
    (hIntPend : Blind π State.putIntPend) (hMsixPba : Blind π State.putMsixPba) (hOut : Blind π State.putOut)
    (hSuspended : Blind π State.putSuspended) (hTrace : Blind π State.putTrace)
    (hViolated : Blind π State.putViolated) (i : IssA) (gD : Reg) (gA : Reg) (standby : Bool) (s : State)
    (hk : π s = x) :
    FrameR π x (execDeckRd i gD gA standby s) := by
  unfold execDeckRd
  try dsimp only
  repeat' first
    | with_reducible first
      | assumption | apply refuseRead_frame | apply setReg_frame | apply issue_frame | apply outsideGrant_frame
      | apply frame_foldl | apply frame_ite | apply frameR_next
    | split | intro _

theorem execDeckSwap_frame (hBatch : Blind π State.putBatch) (hBatchesDone : Blind π State.putBatchesDone)
    (hCw : Blind π State.putCw) (hEngines : Blind π State.putEngines) (hHq : Blind π State.putHq)
    (hIntPend : Blind π State.putIntPend) (hMsixPba : Blind π State.putMsixPba) (hOut : Blind π State.putOut)
    (hSuspended : Blind π State.putSuspended) (hTrace : Blind π State.putTrace)
    (hViolated : Blind π State.putViolated) (i : IssA) (d0 : Bool) (d1 : Bool) (s : State) (hk : π s = x) :
    FrameR π x (execDeckSwap i d0 d1 s) := by
  unfold execDeckSwap
  try dsimp only
  repeat' first
    | with_reducible first
      | assumption | apply issue_frame | apply outsideGrant_frame | apply stage_frame | apply frame_foldl
      | apply frame_ite | apply frameR_next
    | split | intro _

theorem deckStoreEntry_frame (hDeck : Blind π State.putDeck) (a : Nat) (v : Word) (s : State) (hk : π s = x) :
    π (deckStoreEntry a v s) = x := by
  unfold deckStoreEntry
  try dsimp only
  repeat' first
    | with_reducible first
      | assumption | refine (hDeck _ _).trans ?_ | apply frame_foldl | apply frame_ite
    | split | intro _

theorem applyDeckW_frame (hDeck : Blind π State.putDeck) (a : Nat) (v : Word) (s : State) (hk : π s = x) :
    FrameE π x (applyDeckW a v s) := by
  unfold applyDeckW
  try dsimp only
  repeat' first
    | with_reducible first
      | assumption | exact frameE_error | apply deckStoreEntry_frame | apply frame_foldl | apply frame_ite
      | apply frameE_ok | apply frameE_ite
    | split | intro _

theorem swapRecord_frame (hDue : Blind π State.putDue) (d : Nat) (at_ : Word) (s : State) (hk : π s = x) :
    π (swapRecord d at_ s) = x := by
  unfold swapRecord
  try dsimp only
  repeat' first
    | with_reducible first
      | assumption | apply dueRecord_frame | apply frame_foldl | apply frame_ite
    | split | intro _

theorem swapRefused_frame (hCw : Blind π State.putCw) (hDecks : Blind π State.putDecks) (hDue : Blind π State.putDue)
    (d : Nat) (last : Nat) (cause : Nat) (fault : Option (Nat × Nat)) (s : State) (hk : π s = x) :
    π (swapRefused d last cause fault s) = x := by
  unfold swapRefused
  try dsimp only
  repeat' first
    | with_reducible first
      | assumption | apply dieDeckPut_frame | apply cwCountFld_frame | apply swapRecord_frame | apply frame_foldl
      | apply frame_ite
    | split | intro _

theorem armSwap_frame (hDecks : Blind π State.putDecks) (d : Nat) (byResize : Bool) (s : State) (hk : π s = x) :
    π (armSwap d byResize s) = x := by
  unfold armSwap
  try dsimp only
  repeat' first
    | with_reducible first
      | assumption | apply dieDeckPut_frame | apply frame_foldl | apply frame_ite
    | split | intro _

theorem applySwap_frame (hCw : Blind π State.putCw) (hDecks : Blind π State.putDecks) (hDue : Blind π State.putDue)
    (before : State) (dies : Nat) (s : State) (hk : π s = x) :
    π (applySwap before dies s).1 = x := by
  unfold applySwap
  try dsimp only
  repeat' first
    | with_reducible first
      | assumption | apply swapRefused_frame | apply armSwap_frame | apply frame_foldl | apply frame_ite
    | split | intro _

theorem displacePrbs_frame (hCw : Blind π State.putCw) (hHq : Blind π State.putHq)
    (hIntPend : Blind π State.putIntPend) (hMsixPba : Blind π State.putMsixPba) (hOut : Blind π State.putOut)
    (d : Nat) (on : Nat → Bool) (s : State) (hk : π s = x) :
    π (displacePrbs d on s) = x := by
  unfold displacePrbs
  try dsimp only
  repeat' first
    | with_reducible first
      | assumption | apply record0_frame | apply cwPut_frame | apply frame_foldl | apply frame_ite
    | split | intro _

theorem freshSels_frame (hPairs : Blind π State.putPairs) (hSels : Blind π State.putSels) (d : Nat) (s : State)
    (hk : π s = x) :
    π (freshSels d s) = x := by
  unfold freshSels
  try dsimp only
  repeat' first
    | with_reducible first
      | assumption | refine (hSels _ _).trans ?_ | apply prtRestart_frame | apply prtStop_frame | apply frame_foldl
      | apply frame_ite
    | split | intro _

theorem deckEligible_frame (hCw : Blind π State.putCw) (hDecks : Blind π State.putDecks) (hHq : Blind π State.putHq)
    (hIntPend : Blind π State.putIntPend) (hMsixPba : Blind π State.putMsixPba) (hOut : Blind π State.putOut)
    (hPairs : Blind π State.putPairs) (hSels : Blind π State.putSels) (d : Nat) (s : State) (hk : π s = x) :
    π (deckEligible d s) = x := by
  unfold deckEligible
  try dsimp only
  repeat' first
    | with_reducible first
      | assumption | apply dieDeckPut_frame | apply displacePrbs_frame | apply freshSels_frame | apply frame_foldl
      | apply frame_ite
    | split | intro _

theorem rszPut_frame (hRsz : Blind π State.putRsz) (k : Nat) (r : Rsz) (s : State) (hk : π s = x) :
    π (rszPut k r s) = x := by
  unfold rszPut
  try dsimp only
  repeat' first
    | with_reducible first
      | assumption | refine (hRsz _ _).trans ?_ | apply frame_foldl | apply frame_ite
    | split | intro _

theorem rszRecord_frame (hCw : Blind π State.putCw) (hHq : Blind π State.putHq) (hIntPend : Blind π State.putIntPend)
    (hMsixPba : Blind π State.putMsixPba) (hOut : Blind π State.putOut) (ty : Nat) (k : Nat) (s : State)
    (hk : π s = x) :
    π (rszRecord ty k s) = x := by
  unfold rszRecord
  try dsimp only
  repeat' first
    | with_reducible first
      | assumption | apply record0_frame | apply frame_foldl | apply frame_ite
    | split | intro _

theorem rszDone_frame (hCw : Blind π State.putCw) (hHq : Blind π State.putHq) (hIntPend : Blind π State.putIntPend)
    (hMsixPba : Blind π State.putMsixPba) (hOut : Blind π State.putOut) (hRsz : Blind π State.putRsz) (k : Nat)
    (s : State) (hk : π s = x) :
    π (rszDone k s) = x := by
  unfold rszDone
  try dsimp only
  repeat' first
    | with_reducible first
      | assumption | apply rszRecord_frame | apply rszPut_frame | apply frame_foldl | apply frame_ite
    | split | intro _

theorem rszLand_frame (hCw : Blind π State.putCw) (hHq : Blind π State.putHq) (hIntPend : Blind π State.putIntPend)
    (hMsixPba : Blind π State.putMsixPba) (hOut : Blind π State.putOut) (hRsz : Blind π State.putRsz) (k : Nat)
    (s : State) (hk : π s = x) :
    π (rszLand k s) = x := by
  unfold rszLand
  try dsimp only
  repeat' first
    | with_reducible first
      | assumption | apply rszPut_frame | apply rszDone_frame | apply frame_foldl | apply frame_ite
    | split | intro _

theorem changeCarrier_frame (hCw : Blind π State.putCw) (hDecks : Blind π State.putDecks) (hHq : Blind π State.putHq)
    (hIntPend : Blind π State.putIntPend) (hMsixPba : Blind π State.putMsixPba) (hOut : Blind π State.putOut)
    (hPorts : Blind π State.putPorts) (hRsz : Blind π State.putRsz) (d : Nat) (c : Nat) (us : Nat) (s : State)
    (hk : π s = x) :
    π (changeCarrier d c us s) = x := by
  unfold changeCarrier
  try dsimp only
  repeat' first
    | with_reducible first
      | assumption | apply landTxRuns_frame | apply rszLand_frame | apply dieDeckPut_frame | apply displacePrbs_frame
      | apply frame_foldl | apply frame_ite
    | split | intro _

theorem changeOnce_frame (hCw : Blind π State.putCw) (hDecks : Blind π State.putDecks) (hHq : Blind π State.putHq)
    (hIntPend : Blind π State.putIntPend) (hMsixPba : Blind π State.putMsixPba) (hOut : Blind π State.putOut)
    (hPorts : Blind π State.putPorts) (hRsz : Blind π State.putRsz) (d : Nat) (c : Nat) (us : Nat) (s : State)
    (hk : π s = x) :
    π (changeOnce d c us s) = x := by
  unfold changeOnce
  try dsimp only
  repeat' first
    | with_reducible first
      | assumption | apply changeCarrier_frame | apply frame_foldl | apply frame_ite
    | split | intro _

theorem copyPages_frame (hDeck : Blind π State.putDeck) (hDecks : Blind π State.putDecks) (d : Nat) (s : State)
    (hk : π s = x) :
    π (copyPages d s) = x := by
  unfold copyPages
  try dsimp only
  repeat' first
    | with_reducible first
      | assumption | refine (hDeck _ _).trans ?_ | apply dieDeckPut_frame | apply frame_foldl | apply frame_ite
    | split | intro _

theorem execDeckCopyDone_frame (hCw : Blind π State.putCw) (hDeck : Blind π State.putDeck)
    (hDecks : Blind π State.putDecks) (hDue : Blind π State.putDue) (hHq : Blind π State.putHq)
    (hIntPend : Blind π State.putIntPend) (hMsixPba : Blind π State.putMsixPba) (hOut : Blind π State.putOut)
    (hRsz : Blind π State.putRsz) (d : DieId) (s : State) (hk : π s = x) :
    FrameR π x (execDeckCopyDone d s) := by
  unfold execDeckCopyDone
  try dsimp only
  repeat' first
    | with_reducible first
      | assumption | apply rszLand_frame | apply cwCountFld_frame | apply copyPages_frame | apply swapRecord_frame
      | apply frame_foldl | apply frame_ite | apply frameR_next
    | split | intro _

theorem applyDeckGen_frame (hCw : Blind π State.putCw) (d : Nat) (v : Word) (s : State) (hk : π s = x) :
    FrameE π x (applyDeckGen d v s) := by
  unfold applyDeckGen
  try dsimp only
  repeat' first
    | with_reducible first
      | assumption | exact frameE_error | apply cwSet_frame | apply frame_foldl | apply frame_ite | apply frameE_ok
      | apply frameE_ite
    | split | intro _

theorem execDeckPrbsGen_frame (hBatchesDone : Blind π State.putBatchesDone) (hCw : Blind π State.putCw)
    (hHq : Blind π State.putHq) (hIntPend : Blind π State.putIntPend) (hMsixPba : Blind π State.putMsixPba)
    (hOut : Blind π State.putOut) (d : DieId) (w : CtlWrite) (s : State) (hk : π s = x) :
    FrameR π x (execDeckPrbsGen d w s) := by
  unfold execDeckPrbsGen
  try dsimp only
  repeat' first
    | with_reducible first
      | assumption | exact frameE_error | apply settle_frame | apply applyDeckGen_frame | apply frame_foldl
      | apply frame_ite | apply frameE_ok | apply frameE_ite | apply frameR_next
    | split | intro _

theorem applyDeckChk_frame (hCw : Blind π State.putCw) (hDecks : Blind π State.putDecks) (d : Nat) (v : Word)
    (s : State) (hk : π s = x) :
    FrameE π x (applyDeckChk d v s) := by
  unfold applyDeckChk
  try dsimp only
  repeat' first
    | with_reducible first
      | assumption | exact frameE_error | apply dieDeckPut_frame | apply cwSet_frame | apply frame_foldl
      | apply frame_ite | apply frameE_ok | apply frameE_ite
    | split | intro _

theorem execDeckPrbsChk_frame (hBatchesDone : Blind π State.putBatchesDone) (hCw : Blind π State.putCw)
    (hDecks : Blind π State.putDecks) (hHq : Blind π State.putHq) (hIntPend : Blind π State.putIntPend)
    (hMsixPba : Blind π State.putMsixPba) (hOut : Blind π State.putOut) (d : DieId) (w : CtlWrite) (s : State)
    (hk : π s = x) :
    FrameR π x (execDeckPrbsChk d w s) := by
  unfold execDeckPrbsChk
  try dsimp only
  repeat' first
    | with_reducible first
      | assumption | exact frameE_error | apply settle_frame | apply applyDeckChk_frame | apply frame_foldl
      | apply frame_ite | apply frameE_ok | apply frameE_ite | apply frameR_next
    | split | intro _

theorem clearDeckTests_frame (hCw : Blind π State.putCw) (s : State) (hk : π s = x) :
    π (clearDeckTests s) = x := by
  unfold clearDeckTests
  try dsimp only
  repeat' first
    | with_reducible first
      | assumption | apply cwPut_frame | apply frame_foldl | apply frame_ite
    | split | intro _

theorem applyBlk_frame (hCw : Blind π State.putCw) (plan : State) (r : Nat) (b : Nat) (v : Word) (s : State)
    (hk : π s = x) :
    FrameE π x (applyBlk plan r b v s) := by
  unfold applyBlk
  try dsimp only
  repeat' first
    | with_reducible first
      | assumption | exact frameE_error | apply cwSet_frame | apply frame_foldl | apply frame_ite | apply frameE_ok
      | apply frameE_ite
    | split | intro _

theorem execFineBlk_frame (hBatchesDone : Blind π State.putBatchesDone) (hCw : Blind π State.putCw)
    (hHq : Blind π State.putHq) (hIntPend : Blind π State.putIntPend) (hMsixPba : Blind π State.putMsixPba)
    (hOut : Blind π State.putOut) (r : RegionId) (b : Fin 64) (w : CtlWrite) (s : State) (hk : π s = x) :
    FrameR π x (execFineBlk r b w s) := by
  unfold execFineBlk
  try dsimp only
  repeat' first
    | with_reducible first
      | assumption | exact frameE_error | apply settle_frame | apply applyBlk_frame | apply cwSet_frame
      | apply frame_foldl | apply frame_ite | apply frameE_ok | apply frameE_ite | apply frameR_next
    | split | intro _

end Sys2Proof.Machine
end

