-- ==== Sys2Proof/Laws/FrameLanes.lean ====
section
/-! SUPPORT. What the operations of Machine/Lanes.lean leave unchanged. -/

set_option linter.unusedTactic false
set_option linter.unreachableTactic false

namespace Sys2Proof.Machine

variable {β : Type} {π : State → β} {x : β}

theorem eqPut_frame (hLanes : Blind π State.putLanes) (side : Nat) (lane : Nat) (off : Nat) (v : Word) (s : State)
    (hk : π s = x) :
    π (eqPut side lane off v s) = x := by
  unfold eqPut
  try dsimp only
  repeat' first
    | with_reducible first
      | assumption | apply lanePut_frame | apply frame_foldl | apply frame_ite
    | split | intro _

theorem loadEq_frame (hLanes : Blind π State.putLanes) (side : Nat) (lane : Nat) (rate : Nat) (s : State)
    (hk : π s = x) :
    π (loadEq side lane rate s) = x := by
  unfold loadEq
  try dsimp only
  repeat' first
    | with_reducible first
      | assumption | apply eqPut_frame | apply frame_foldl | apply frame_ite
    | split | intro _

theorem adaptEq_frame (hLanes : Blind π State.putLanes) (side : Nat) (lane : Nat) (vs : List Word) (s : State)
    (hk : π s = x) :
    π (adaptEq side lane vs s) = x := by
  unfold adaptEq
  try dsimp only
  repeat' first
    | with_reducible first
      | assumption | apply eqPut_frame | apply frame_foldl | apply frame_ite
    | split | intro _

theorem flexPut_frame (hFlex : Blind π State.putFlex) (r : Nat) (k : Nat) (h : FlexHolder) (s : State) (hk : π s = x) :
    π (flexPut r k h s) = x := by
  unfold flexPut
  try dsimp only
  repeat' first
    | with_reducible first
      | assumption | refine (hFlex _ _).trans ?_ | apply frame_foldl | apply frame_ite
    | split | intro _

theorem recPut_frame (hRecClk : Blind π State.putRecClk) (n : Nat) (c : RecClk) (s : State) (hk : π s = x) :
    π (recPut n c s) = x := by
  unfold recPut
  try dsimp only
  repeat' first
    | with_reducible first
      | assumption | refine (hRecClk _ _).trans ?_ | apply frame_foldl | apply frame_ite
    | split | intro _

theorem clkEvt_frame (hDue : Blind π State.putDue) (event : Nat) (source : Nat) (s : State) (hk : π s = x) :
    π (clkEvt event source s) = x := by
  unfold clkEvt
  try dsimp only
  repeat' first
    | with_reducible first
      | assumption | apply dueRecord_frame | apply frame_foldl | apply frame_ite
    | split | intro _

theorem takeFlex_frame (hCw : Blind π State.putCw) (hDue : Blind π State.putDue) (hFlex : Blind π State.putFlex)
    (hHq : Blind π State.putHq) (hIntPend : Blind π State.putIntPend) (hMsixPba : Blind π State.putMsixPba)
    (hOut : Blind π State.putOut) (hRecClk : Blind π State.putRecClk) (side : Nat) (q : Nat) (s : State)
    (hk : π s = x) :
    π (takeFlex side q s) = x := by
  unfold takeFlex
  try dsimp only
  repeat' first
    | with_reducible first
      | assumption | apply record0_frame | apply recPut_frame | apply clkEvt_frame | apply flexPut_frame
      | apply frame_foldl | apply frame_ite
    | split | intro _

theorem freeFlex_frame (hDue : Blind π State.putDue) (hFlex : Blind π State.putFlex)
    (hRecClk : Blind π State.putRecClk) (r : Nat) (k : Nat) (s : State) (hk : π s = x) :
    π (freeFlex r k s) = x := by
  unfold freeFlex
  try dsimp only
  repeat' first
    | with_reducible first
      | assumption | apply recPut_frame | apply clkEvt_frame | apply flexPut_frame | apply frame_foldl
      | apply frame_ite
    | split | intro _

theorem quadPut_frame (hQuads : Blind π State.putQuads) (side : Nat) (q : Nat) (v : Quad) (s : State) (hk : π s = x) :
    π (quadPut side q v s) = x := by
  unfold quadPut
  try dsimp only
  repeat' first
    | with_reducible first
      | assumption | refine (hQuads _ _).trans ?_ | apply frame_foldl | apply frame_ite
    | split | intro _

theorem startLane_frame (hCells : Blind π State.putCells) (hCw : Blind π State.putCw) (hDue : Blind π State.putDue)
    (hFlex : Blind π State.putFlex) (hFramers : Blind π State.putFramers) (hHq : Blind π State.putHq)
    (hIntPend : Blind π State.putIntPend) (hLanes : Blind π State.putLanes) (hMsixPba : Blind π State.putMsixPba)
    (hOut : Blind π State.putOut) (hQuads : Blind π State.putQuads) (hRecClk : Blind π State.putRecClk)
    (hTrackers : Blind π State.putTrackers) (plan : State) (side : Nat) (lane : Nat) (s : State) (hk : π s = x) :
    π (startLane plan side lane s) = x := by
  unfold startLane
  try dsimp only
  repeat' first
    | with_reducible first
      | assumption | apply laneLeft_frame | apply lanePut_frame | apply quadPut_frame | apply takeFlex_frame
      | apply frame_foldl | apply frame_ite
    | split | intro _

theorem stopLane_frame (hCells : Blind π State.putCells) (hFramers : Blind π State.putFramers)
    (hLanes : Blind π State.putLanes) (hTrackers : Blind π State.putTrackers) (side : Nat) (lane : Nat) (s : State)
    (hk : π s = x) :
    π (stopLane side lane s) = x := by
  unfold stopLane
  try dsimp only
  repeat' first
    | with_reducible first
      | assumption | apply laneLeft_frame | apply lanePut_frame | apply frame_foldl | apply frame_ite
    | split | intro _

theorem applyLaneCfg_frame (hCells : Blind π State.putCells) (hCw : Blind π State.putCw) (hDue : Blind π State.putDue)
    (hFlex : Blind π State.putFlex) (hFramers : Blind π State.putFramers) (hHq : Blind π State.putHq)
    (hIntPend : Blind π State.putIntPend) (hLanes : Blind π State.putLanes) (hMsixPba : Blind π State.putMsixPba)
    (hOut : Blind π State.putOut) (hQuads : Blind π State.putQuads) (hRecClk : Blind π State.putRecClk)
    (hTrackers : Blind π State.putTrackers) (plan : State) (side : Nat) (lane : Nat) (v : Word) (s : State)
    (hk : π s = x) :
    FrameE π x (applyLaneCfg plan side lane v s) := by
  unfold applyLaneCfg
  try dsimp only
  repeat' first
    | with_reducible first
      | assumption | exact frameE_error | apply startLane_frame | apply stopLane_frame | apply lanePut_frame
      | apply loadEq_frame | apply cwSet_frame | apply frame_foldl | apply frame_ite | apply frameE_ok
      | apply frameE_ite
    | split | intro _

theorem quadPlan_frame (hCw : Blind π State.putCw) (side : Nat) (q : Nat) (ws : List LaneWrite) (s : State)
    (hk : π s = x) :
    π (quadPlan side q ws s) = x := by
  unfold quadPlan
  try dsimp only
  repeat' first
    | with_reducible first
      | assumption | apply cwSet_frame | apply frame_foldl | apply frame_ite
    | split | intro _

theorem execLaneCfg_frame (hBatchesDone : Blind π State.putBatchesDone) (hCells : Blind π State.putCells)
    (hCw : Blind π State.putCw) (hDue : Blind π State.putDue) (hFlex : Blind π State.putFlex)
    (hFramers : Blind π State.putFramers) (hHq : Blind π State.putHq) (hIntPend : Blind π State.putIntPend)
    (hLanes : Blind π State.putLanes) (hMsixPba : Blind π State.putMsixPba) (hOut : Blind π State.putOut)
    (hQuads : Blind π State.putQuads) (hRecClk : Blind π State.putRecClk) (hTrackers : Blind π State.putTrackers)
    (side : Side) (quad : Fin 16) (ws : List LaneWrite) (s : State) (hk : π s = x) :
    FrameR π x (execLaneCfg side quad ws s) := by
  unfold execLaneCfg
  try dsimp only
  repeat' first
    | with_reducible first
      | assumption | exact frameE_error | apply applyLaneCfg_frame | apply settle_frame | apply quadPlan_frame
      | apply frame_foldl | apply frame_ite | apply frameE_ok | apply frameE_ite | apply frameR_next
    | split | intro _

theorem execVcoCalDone_frame (hDue : Blind π State.putDue) (hFlex : Blind π State.putFlex)
    (hLanes : Blind π State.putLanes) (hQuads : Blind π State.putQuads) (hRecClk : Blind π State.putRecClk)
    (side : Side) (quad : Fin 16) (s : State) (hk : π s = x) :
    FrameR π x (execVcoCalDone side quad s) := by
  unfold execVcoCalDone
  try dsimp only
  repeat' first
    | with_reducible first
      | assumption | apply lanePut_frame | apply quadPut_frame | apply freeFlex_frame | apply frame_foldl
      | apply frame_ite | apply frameR_next
    | split | intro _

theorem execLanePllLock_frame (hLanes : Blind π State.putLanes) (l : LaneRef) (s : State) (hk : π s = x) :
    FrameR π x (execLanePllLock l s) := by
  unfold execLanePllLock
  try dsimp only
  repeat' first
    | with_reducible first
      | assumption | apply lanePut_frame | apply frame_foldl | apply frame_ite | apply frameR_next
    | split | intro _

theorem execLaneCdrLock_frame (hLanes : Blind π State.putLanes) (l : LaneRef) (s : State) (hk : π s = x) :
    FrameR π x (execLaneCdrLock l s) := by
  unfold execLaneCdrLock
  try dsimp only
  repeat' first
    | with_reducible first
      | assumption | apply lanePut_frame | apply frame_foldl | apply frame_ite | apply frameR_next
    | split | intro _

theorem applyEqCtrl_frame (hCw : Blind π State.putCw) (hLanes : Blind π State.putLanes) (side : Nat) (lane : Nat)
    (v : Word) (s : State) (hk : π s = x) :
    FrameE π x (applyEqCtrl side lane v s) := by
  unfold applyEqCtrl
  try dsimp only
  repeat' first
    | with_reducible first
      | assumption | exact frameE_error | apply eqPut_frame | apply cwSet_frame | apply frame_foldl | apply frame_ite
      | apply frameE_ok | apply frameE_ite
    | split | intro _

theorem execLaneEqCtrl_frame (hBatchesDone : Blind π State.putBatchesDone) (hCw : Blind π State.putCw)
    (hHq : Blind π State.putHq) (hIntPend : Blind π State.putIntPend) (hLanes : Blind π State.putLanes)
    (hMsixPba : Blind π State.putMsixPba) (hOut : Blind π State.putOut) (l : LaneRef) (w : CtlWrite) (s : State)
    (hk : π s = x) :
    FrameR π x (execLaneEqCtrl l w s) := by
  unfold execLaneEqCtrl
  try dsimp only
  repeat' first
    | with_reducible first
      | assumption | exact frameE_error | apply applyEqCtrl_frame | apply settle_frame | apply frame_foldl
      | apply frame_ite | apply frameE_ok | apply frameE_ite | apply frameR_next
    | split | intro _

theorem applyEqSet_frame (hCw : Blind π State.putCw) (hLanes : Blind π State.putLanes) (side : Nat) (lane : Nat)
    (w : Nat) (v : Word) (s : State) (hk : π s = x) :
    FrameE π x (applyEqSet side lane w v s) := by
  unfold applyEqSet
  try dsimp only
  repeat' first
    | with_reducible first
      | assumption | exact frameE_error | apply eqPut_frame | apply cwSet_frame | apply frame_foldl | apply frame_ite
      | apply frameE_ok | apply frameE_ite
    | split | intro _

theorem ffePut_frame (hLanes : Blind π State.putLanes) (side : Nat) (lane : Nat) (i : Nat) (v : Word) (s : State)
    (hk : π s = x) :
    π (ffePut side lane i v s) = x := by
  unfold ffePut
  try dsimp only
  repeat' first
    | with_reducible first
      | assumption | apply lanePut_frame | apply frame_foldl | apply frame_ite
    | split | intro _

theorem applyTxFfe_frame (hCw : Blind π State.putCw) (hLanes : Blind π State.putLanes) (side : Nat) (lane : Nat)
    (i : Nat) (v : Word) (s : State) (hk : π s = x) :
    FrameE π x (applyTxFfe side lane i v s) := by
  unfold applyTxFfe
  try dsimp only
  repeat' first
    | with_reducible first
      | assumption | exact frameE_error | apply ffePut_frame | apply cwSet_frame | apply frame_foldl | apply frame_ite
      | apply frameE_ok | apply frameE_ite
    | split | intro _

theorem execLaneTxFfe_frame (hBatchesDone : Blind π State.putBatchesDone) (hCw : Blind π State.putCw)
    (hHq : Blind π State.putHq) (hIntPend : Blind π State.putIntPend) (hLanes : Blind π State.putLanes)
    (hMsixPba : Blind π State.putMsixPba) (hOut : Blind π State.putOut) (l : LaneRef) (i : Fin 2) (w : CtlWrite)
    (s : State) (hk : π s = x) :
    FrameR π x (execLaneTxFfe l i w s) := by
  unfold execLaneTxFfe
  try dsimp only
  repeat' first
    | with_reducible first
      | assumption | exact frameE_error | apply applyTxFfe_frame | apply settle_frame | apply frame_foldl
      | apply frame_ite | apply frameE_ok | apply frameE_ite | apply frameR_next
    | split | intro _

theorem laneEvent_frame (hCw : Blind π State.putCw) (side : Nat) (lane : Nat) (b : Nat) (s : State) (hk : π s = x) :
    π (laneEvent side lane b s) = x := by
  unfold laneEvent
  try dsimp only
  repeat' first
    | with_reducible first
      | assumption | apply cwPut_frame | apply frame_foldl | apply frame_ite
    | split | intro _

theorem execEqFenceHit_frame (hCw : Blind π State.putCw) (hHq : Blind π State.putHq)
    (hIntPend : Blind π State.putIntPend) (hLanes : Blind π State.putLanes) (hMsixPba : Blind π State.putMsixPba)
    (hOut : Blind π State.putOut) (l : LaneRef) (loop : EqLoop) (s : State) (hk : π s = x) :
    FrameR π x (execEqFenceHit l loop s) := by
  unfold execEqFenceHit
  try dsimp only
  repeat' first
    | with_reducible first
      | assumption | apply record0_frame | apply laneEvent_frame | apply lanePut_frame | apply frame_foldl
      | apply frame_ite | apply frameR_next
    | split | intro _

theorem execEqMarginLow_frame (hCw : Blind π State.putCw) (hHq : Blind π State.putHq)
    (hIntPend : Blind π State.putIntPend) (hLanes : Blind π State.putLanes) (hMsixPba : Blind π State.putMsixPba)
    (hOut : Blind π State.putOut) (l : LaneRef) (snr : Fin 256) (s : State) (hk : π s = x) :
    FrameR π x (execEqMarginLow l snr s) := by
  unfold execEqMarginLow
  try dsimp only
  repeat' first
    | with_reducible first
      | assumption | apply record0_frame | apply laneEvent_frame | apply lanePut_frame | apply frame_foldl
      | apply frame_ite | apply frameR_next
    | split | intro _

theorem ffeLoad_frame (hLanes : Blind π State.putLanes) (side : Nat) (lane : Nat) (v0 : Word) (v1 : Word) (s : State)
    (hk : π s = x) :
    π (ffeLoad side lane v0 v1 s) = x := by
  unfold ffeLoad
  try dsimp only
  repeat' first
    | with_reducible first
      | assumption | apply ffePut_frame | apply frame_foldl | apply frame_ite
    | split | intro _

theorem execLinkTrainDone_frame (hLanes : Blind π State.putLanes) (l : LaneRef) (ffe0 : Word) (ffe1 : Word)
    (s : State) (hk : π s = x) :
    FrameR π x (execLinkTrainDone l ffe0 ffe1 s) := by
  unfold execLinkTrainDone
  try dsimp only
  repeat' first
    | with_reducible first
      | assumption | apply ffeLoad_frame | apply lanePut_frame | apply frame_foldl | apply frame_ite
      | apply frameR_next
    | split | intro _

theorem execLinkTrainFail_frame (hCw : Blind π State.putCw) (hLanes : Blind π State.putLanes) (l : LaneRef)
    (s : State) (hk : π s = x) :
    FrameR π x (execLinkTrainFail l s) := by
  unfold execLinkTrainFail
  try dsimp only
  repeat' first
    | with_reducible first
      | assumption | apply laneEvent_frame | apply ffeLoad_frame | apply lanePut_frame | apply frame_foldl
      | apply frame_ite | apply frameR_next
    | split | intro _

theorem startChecker_frame (hLanes : Blind π State.putLanes) (side : Nat) (lane : Nat) (s : State) (hk : π s = x) :
    π (startChecker side lane s) = x := by
  unfold startChecker
  try dsimp only
  repeat' first
    | with_reducible first
      | assumption | apply lanePut_frame | apply frame_foldl | apply frame_ite
    | split | intro _

theorem applyPrbsCtrl_frame (hCw : Blind π State.putCw) (hLanes : Blind π State.putLanes)
    (hOut : Blind π State.putOut) (side : Nat) (lane : Nat) (v : Word) (s : State) (hk : π s = x) :
    FrameE π x (applyPrbsCtrl side lane v s) := by
  unfold applyPrbsCtrl
  try dsimp only
  repeat' first
    | with_reducible first
      | assumption | exact frameE_error | apply lanePut_frame | apply startChecker_frame | apply emit_frame
      | apply cwSet_frame | apply frame_foldl | apply frame_ite | apply frameE_ok | apply frameE_ite
    | split | intro _

theorem execPrbsGenEn_frame (hBatchesDone : Blind π State.putBatchesDone) (hCw : Blind π State.putCw)
    (hHq : Blind π State.putHq) (hIntPend : Blind π State.putIntPend) (hMsixPba : Blind π State.putMsixPba)
    (hOut : Blind π State.putOut) (o : Origin) (l : LaneRef) (pat : Fin 16) (inv : Bool) (s : State) (hk : π s = x) :
    FrameR π x (execPrbsGenEn o l pat inv s) := by
  unfold execPrbsGenEn
  try dsimp only
  repeat' first
    | with_reducible first
      | assumption | exact frameE_error | apply settle_frame | apply cwSet_frame | apply frame_foldl | apply frame_ite
      | apply frameE_ok | apply frameE_ite | apply frameR_next
    | split | intro _

theorem execPrbsChkEn_frame (hBatchesDone : Blind π State.putBatchesDone) (hCw : Blind π State.putCw)
    (hHq : Blind π State.putHq) (hIntPend : Blind π State.putIntPend) (hLanes : Blind π State.putLanes)
    (hMsixPba : Blind π State.putMsixPba) (hOut : Blind π State.putOut) (o : Origin) (l : LaneRef) (pat : Fin 16)
    (s : State) (hk : π s = x) :
    FrameR π x (execPrbsChkEn o l pat s) := by
  unfold execPrbsChkEn
  try dsimp only
  repeat' first
    | with_reducible first
      | assumption | exact frameE_error | apply settle_frame | apply startChecker_frame | apply cwSet_frame
      | apply frame_foldl | apply frame_ite | apply frameE_ok | apply frameE_ite | apply frameR_next
    | split | intro _

theorem execPrbsErrInj_frame (hBatchesDone : Blind π State.putBatchesDone) (hCw : Blind π State.putCw)
    (hHq : Blind π State.putHq) (hIntPend : Blind π State.putIntPend) (hMsixPba : Blind π State.putMsixPba)
    (hOut : Blind π State.putOut) (o : Origin) (l : LaneRef) (s : State) (hk : π s = x) :
    FrameR π x (execPrbsErrInj o l s) := by
  unfold execPrbsErrInj
  try dsimp only
  repeat' first
    | with_reducible first
      | assumption | exact frameE_error | apply settle_frame | apply emit_frame | apply frame_foldl | apply frame_ite
      | apply frameE_ok | apply frameE_ite | apply frameR_next
    | split | intro _

theorem prbsCount_frame (hCw : Blind π State.putCw) (hLanes : Blind π State.putLanes) (side : Nat) (lane : Nat)
    (bits : Nat) (errs : Nat) (s : State) (hk : π s = x) :
    π (prbsCount side lane bits errs s) = x := by
  unfold prbsCount
  try dsimp only
  repeat' first
    | with_reducible first
      | assumption | apply lanePut_frame | apply cwCount_frame | apply frame_foldl | apply frame_ite
    | split | intro _

theorem execPrbsLock_frame (hCw : Blind π State.putCw) (hLanes : Blind π State.putLanes) (l : LaneRef) (bits : Nat)
    (errs : Nat) (s : State) (hk : π s = x) :
    FrameR π x (execPrbsLock l bits errs s) := by
  unfold execPrbsLock
  try dsimp only
  repeat' first
    | with_reducible first
      | assumption | apply lanePut_frame | apply prbsCount_frame | apply frame_foldl | apply frame_ite
      | apply frameR_next
    | split | intro _

theorem execPrbsLockLoss_frame (hCw : Blind π State.putCw) (hLanes : Blind π State.putLanes) (l : LaneRef)
    (bits : Nat) (errs : Nat) (s : State) (hk : π s = x) :
    FrameR π x (execPrbsLockLoss l bits errs s) := by
  unfold execPrbsLockLoss
  try dsimp only
  repeat' first
    | with_reducible first
      | assumption | apply lanePut_frame | apply prbsCount_frame | apply frame_foldl | apply frame_ite
      | apply frameR_next
    | split | intro _

theorem applyLpbk_frame (hCw : Blind π State.putCw) (side : Nat) (lane : Nat) (v : Word) (s : State) (hk : π s = x) :
    FrameE π x (applyLpbk side lane v s) := by
  unfold applyLpbk
  try dsimp only
  repeat' first
    | with_reducible first
      | assumption | exact frameE_error | apply cwSet_frame | apply frame_foldl | apply frame_ite | apply frameE_ok
      | apply frameE_ite
    | split | intro _

theorem execLaneLpbk_frame (hBatchesDone : Blind π State.putBatchesDone) (hCw : Blind π State.putCw)
    (hHq : Blind π State.putHq) (hIntPend : Blind π State.putIntPend) (hMsixPba : Blind π State.putMsixPba)
    (hOut : Blind π State.putOut) (o : Origin) (l : LaneRef) (near : Bool) (far : Bool) (s : State) (hk : π s = x) :
    FrameR π x (execLaneLpbk o l near far s) := by
  unfold execLaneLpbk
  try dsimp only
  repeat' first
    | with_reducible first
      | assumption | exact frameE_error | apply applyLpbk_frame | apply settle_frame | apply frame_foldl
      | apply frame_ite | apply frameE_ok | apply frameE_ite | apply frameR_next
    | split | intro _

theorem preemptTest_frame (hCw : Blind π State.putCw) (hHq : Blind π State.putHq)
    (hIntPend : Blind π State.putIntPend) (hMsixPba : Blind π State.putMsixPba) (hOut : Blind π State.putOut)
    (side : Nat) (lane : Nat) (s : State) (hk : π s = x) :
    π (preemptTest side lane s) = x := by
  unfold preemptTest
  try dsimp only
  repeat' first
    | with_reducible first
      | assumption | apply record0_frame | apply cwPut_frame | apply cwSet_frame | apply frame_foldl | apply frame_ite
    | split | intro _

theorem clearLaneTests_frame (hCw : Blind π State.putCw) (s : State) (hk : π s = x) :
    π (clearLaneTests s) = x := by
  unfold clearLaneTests
  try dsimp only
  repeat' first
    | with_reducible first
      | assumption | apply laneEvent_frame | apply cwPut_frame | apply frame_foldl | apply frame_ite
    | split | intro _

theorem refPut_frame (hRefClk : Blind π State.putRefClk) (r : Nat) (c : RefClk) (s : State) (hk : π s = x) :
    π (refPut r c s) = x := by
  unfold refPut
  try dsimp only
  repeat' first
    | with_reducible first
      | assumption | refine (hRefClk _ _).trans ?_ | apply frame_foldl | apply frame_ite
    | split | intro _

theorem refMove_frame (hCw : Blind π State.putCw) (hDue : Blind π State.putDue) (hIntPend : Blind π State.putIntPend)
    (hMsixPba : Blind π State.putMsixPba) (hOut : Blind π State.putOut) (hRefClk : Blind π State.putRefClk) (r : Nat)
    (new : Nat) (s : State) (hk : π s = x) :
    π (refMove r new s) = x := by
  unfold refMove
  try dsimp only
  repeat' first
    | with_reducible first
      | assumption | apply cenInc_frame | apply dueRecord_frame | apply refPut_frame | apply frame_foldl
      | apply frame_ite
    | split | intro _

theorem applyRefCtrl_frame (hCw : Blind π State.putCw) (hDue : Blind π State.putDue)
    (hIntPend : Blind π State.putIntPend) (hMsixPba : Blind π State.putMsixPba) (hOut : Blind π State.putOut)
    (hRefClk : Blind π State.putRefClk) (r : Nat) (v : Word) (s : State) (hk : π s = x) :
    FrameE π x (applyRefCtrl r v s) := by
  unfold applyRefCtrl
  try dsimp only
  repeat' first
    | with_reducible first
      | assumption | exact frameE_error | apply refMove_frame | apply cwSet_frame | apply frame_foldl
      | apply frame_ite | apply frameE_ok | apply frameE_ite
    | split | intro _

theorem execClkRefCtrl_frame (hBatchesDone : Blind π State.putBatchesDone) (hCw : Blind π State.putCw)
    (hDue : Blind π State.putDue) (hHq : Blind π State.putHq) (hIntPend : Blind π State.putIntPend)
    (hMsixPba : Blind π State.putMsixPba) (hOut : Blind π State.putOut) (hRefClk : Blind π State.putRefClk)
    (r : RegionId) (w : CtlWrite) (s : State) (hk : π s = x) :
    FrameR π x (execClkRefCtrl r w s) := by
  unfold execClkRefCtrl
  try dsimp only
  repeat' first
    | with_reducible first
      | assumption | exact frameE_error | apply applyRefCtrl_frame | apply settle_frame | apply frame_foldl
      | apply frame_ite | apply frameE_ok | apply frameE_ite | apply frameR_next
    | split | intro _

theorem refMark_frame (hRefClk : Blind π State.putRefClk) (r : Nat) (n : RefName) (ok : Bool) (s : State)
    (hk : π s = x) :
    π (refMark r n ok s) = x := by
  unfold refMark
  try dsimp only
  repeat' first
    | with_reducible first
      | assumption | apply refPut_frame | apply frame_foldl | apply frame_ite
    | split | intro _

theorem execRefclkLoss_frame (hCw : Blind π State.putCw) (hDue : Blind π State.putDue)
    (hIntPend : Blind π State.putIntPend) (hMsixPba : Blind π State.putMsixPba) (hOut : Blind π State.putOut)
    (hRefClk : Blind π State.putRefClk) (r : RegionId) (n : RefName) (s : State) (hk : π s = x) :
    FrameR π x (execRefclkLoss r n s) := by
  unfold execRefclkLoss
  try dsimp only
  repeat' first
    | with_reducible first
      | assumption | apply refMark_frame | apply refMove_frame | apply frame_foldl | apply frame_ite
      | apply frameR_next
    | split | intro _

theorem execRefclkRequalify_frame (hCw : Blind π State.putCw) (hDue : Blind π State.putDue)
    (hIntPend : Blind π State.putIntPend) (hMsixPba : Blind π State.putMsixPba) (hOut : Blind π State.putOut)
    (hRefClk : Blind π State.putRefClk) (r : RegionId) (n : RefName) (s : State) (hk : π s = x) :
    FrameR π x (execRefclkRequalify r n s) := by
  unfold execRefclkRequalify
  try dsimp only
  repeat' first
    | with_reducible first
      | assumption | apply refMark_frame | apply refMove_frame | apply frame_foldl | apply frame_ite
      | apply frameR_next
    | split | intro _

end Sys2Proof.Machine
end

