-- ==== Sys2Proof/Laws/FrameDomains.lean ====
section
/-! SUPPORT. What the operations of Machine/Domains.lean leave unchanged. -/

set_option linter.unusedTactic false
set_option linter.unreachableTactic false

namespace Sys2Proof.Machine

variable {β : Type} {π : State → β} {x : β}

theorem pwrEvt_frame (hDue : Blind π State.putDue) (d : Nat) (old : Nat) (new : Nat) (cause : Nat) (s : State)
    (hk : π s = x) :
    π (pwrEvt d old new cause s) = x := by
  unfold pwrEvt
  try dsimp only
  repeat' first
    | with_reducible first
      | assumption | apply dueRecord_frame | apply frame_foldl | apply frame_ite
    | split | intro _

theorem loseCluster_frame (hCells : Blind π State.putCells) (hCellsT0 : Blind π State.putCellsT0)
    (hChkMax : Blind π State.putChkMax) (hCtx : Blind π State.putCtx) (hCtxAt : Blind π State.putCtxAt)
    (hEngines : Blind π State.putEngines) (hFramers : Blind π State.putFramers) (hMons : Blind π State.putMons)
    (hOh : Blind π State.putOh) (hOhT0 : Blind π State.putOhT0) (hPorts : Blind π State.putPorts)
    (hTrackers : Blind π State.putTrackers) (c : Nat) (s : State) (hk : π s = x) :
    π (loseCluster c s) = x := by
  unfold loseCluster
  try dsimp only
  repeat' first
    | with_reducible first
      | assumption | refine (hFramers _ _).trans ?_ | refine (hCellsT0 _ _).trans ?_ | refine (hMons _ _).trans ?_
      | refine (hOh _ _).trans ?_ | refine (hChkMax _ _).trans ?_ | refine (hTrackers _ _).trans ?_
      | refine (hCtx _ _).trans ?_ | refine (hCtxAt _ _).trans ?_ | refine (hEngines _ _).trans ?_
      | refine (hPorts _ _).trans ?_ | refine (hCells _ _).trans ?_ | refine (hOhT0 _ _).trans ?_ | apply frame_foldl
      | apply frame_ite
    | split | intro _

theorem loseLanes_frame (hLanes : Blind π State.putLanes) (side : Nat) (r : Nat) (s : State) (hk : π s = x) :
    π (loseLanes side r s) = x := by
  unfold loseLanes
  try dsimp only
  repeat' first
    | with_reducible first
      | assumption | refine (hLanes _ _).trans ?_ | apply frame_foldl | apply frame_ite
    | split | intro _

theorem loseContents_frame (hAudio : Blind π State.putAudio) (hCells : Blind π State.putCells)
    (hCellsT0 : Blind π State.putCellsT0) (hChkMax : Blind π State.putChkMax) (hCq : Blind π State.putCq)
    (hCtx : Blind π State.putCtx) (hCtxAt : Blind π State.putCtxAt) (hCw : Blind π State.putCw)
    (hDeck : Blind π State.putDeck) (hDecks : Blind π State.putDecks) (hEngines : Blind π State.putEngines)
    (hFlex : Blind π State.putFlex) (hFramers : Blind π State.putFramers) (hGroups : Blind π State.putGroups)
    (hHls : Blind π State.putHls) (hLanes : Blind π State.putLanes) (hMons : Blind π State.putMons)
    (hOh : Blind π State.putOh) (hOhT0 : Blind π State.putOhT0) (hPairs : Blind π State.putPairs)
    (hPorts : Blind π State.putPorts) (hPrfRings : Blind π State.putPrfRings) (hQuads : Blind π State.putQuads)
    (hRefClk : Blind π State.putRefClk) (hRsz : Blind π State.putRsz) (hSels : Blind π State.putSels)
    (hTrackers : Blind π State.putTrackers) (hWords : Blind π State.putWords) (d : Nat) (s : State) (hk : π s = x) :
    π (loseContents d s) = x := by
  unfold loseContents
  try dsimp only
  repeat' first
    | with_reducible first
      | assumption | refine (hDeck _ _).trans ?_ | refine (hAudio _ _).trans ?_ | refine (hPairs _ _).trans ?_
      | refine (hRefClk _ _).trans ?_ | refine (hSels _ _).trans ?_ | refine (hGroups _ _).trans ?_
      | refine (hQuads _ _).trans ?_ | refine (hDecks _ _).trans ?_ | refine (hCq _ _).trans ?_
      | refine (hHls _ _).trans ?_ | refine (hWords _ _).trans ?_ | refine (hFlex _ _).trans ?_
      | refine (hRsz _ _).trans ?_ | refine (hCw _ _).trans ?_ | refine (hPrfRings _ _).trans ?_
      | apply loseCluster_frame | apply loseLanes_frame | apply frame_foldl | apply frame_ite
    | split | intro _

theorem stopIn_frame (hCells : Blind π State.putCells) (hFramers : Blind π State.putFramers)
    (hLanes : Blind π State.putLanes) (hTrackers : Blind π State.putTrackers) (d : Nat) (s : State) (hk : π s = x) :
    π (stopIn d s) = x := by
  unfold stopIn
  try dsimp only
  repeat' first
    | with_reducible first
      | assumption | apply laneLeft_frame | apply holdStream_frame | apply lanePut_frame | apply frame_foldl
      | apply frame_ite
    | split | intro _

theorem startIn_frame (hCells : Blind π State.putCells) (hCw : Blind π State.putCw) (hDue : Blind π State.putDue)
    (hFlex : Blind π State.putFlex) (hFramers : Blind π State.putFramers) (hHq : Blind π State.putHq)
    (hIntPend : Blind π State.putIntPend) (hLanes : Blind π State.putLanes) (hMons : Blind π State.putMons)
    (hMsixPba : Blind π State.putMsixPba) (hOut : Blind π State.putOut) (hPairs : Blind π State.putPairs)
    (hQuads : Blind π State.putQuads) (hRecClk : Blind π State.putRecClk) (hTrackers : Blind π State.putTrackers)
    (d : Nat) (s : State) (hk : π s = x) :
    π (startIn d s) = x := by
  unfold startIn
  try dsimp only
  repeat' first
    | with_reducible first
      | assumption | apply startLane_frame | apply restartStream_frame | apply frame_foldl | apply frame_ite
    | split | intro _

theorem moveDomain_frame (hD : BlindDomains π) (d : Nat) (goal : Nat) (cause : Nat) (s : State) (hk : π s = x) :
    π (moveDomain d goal cause s) = x := by
  obtain ⟨hAudio, hCells, hCellsT0, hChkMax, hCq, hCtx, hCtxAt, hCw, hDeck, hDecks, hDoms, hEngines, hFlex, hFramers,
    hGroups, hHls, hLanes, hMons, hOh, hOhT0, hPairs, hPorts, hPrfRings, hQuads, hRefClk, hRsz, hSels, hTrackers,
    hWords⟩ := id hD
  unfold moveDomain
  try dsimp only
  repeat' first
    | with_reducible first
      | assumption | apply domPut_frame | apply loseContents_frame | apply stopIn_frame | apply frame_foldl
      | apply frame_ite
    | split | intro _

theorem unhold_frame (hDoms : Blind π State.putDoms) (lift : Nat → Bool) (s : State) (hk : π s = x) :
    π (unhold lift s) = x :=
  frame_foldl hk fun _ _ ht => frame_ite ht fun h => domPut_frame hDoms _ _ _ h

theorem followDies_frame (hD : BlindDomains π) (cause : Nat) (s : State) (hk : π s = x) :
    π (followDies cause s) = x :=
  frame_foldl hk fun _ _ ht => by
    split
    · exact ht
    · exact moveDomain_frame hD _ _ _ _ ht

theorem retarget_frame (hD : BlindDomains π) (cause : Nat) (lift : Nat → Bool) (s : State) (hk : π s = x) :
    π (retarget cause lift s) = x := by
  obtain ⟨hAudio, hCells, hCellsT0, hChkMax, hCq, hCtx, hCtxAt, hCw, hDeck, hDecks, hDoms, hEngines, hFlex, hFramers,
    hGroups, hHls, hLanes, hMons, hOh, hOhT0, hPairs, hPorts, hPrfRings, hQuads, hRefClk, hRsz, hSels, hTrackers,
    hWords⟩ := id hD
  exact followDies_frame hD _ _ (frame_foldl (unhold_frame hDoms _ _ hk) fun _ _ h => moveDomain_frame hD _ _ _ _ h)

theorem startRail_frame (hVloops : Blind π State.putVloops) (r : Nat) (s : State) (hk : π s = x) :
    π (startRail r s) = x := by
  unfold startRail
  try dsimp only
  repeat' first
    | with_reducible first
      | assumption | refine (hVloops _ _).trans ?_ | apply frame_foldl | apply frame_ite
    | split | intro _

theorem landDomain_frame (hD : BlindDomains π) (hDue : Blind π State.putDue) (hHq : Blind π State.putHq)
    (hIntPend : Blind π State.putIntPend) (hLink : Blind π State.putLink) (hMsixPba : Blind π State.putMsixPba)
    (hOut : Blind π State.putOut) (hRecClk : Blind π State.putRecClk) (hVloops : Blind π State.putVloops) (d : Nat)
    (s : State) (hk : π s = x) :
    π (landDomain d s) = x := by
  obtain ⟨hAudio, hCells, hCellsT0, hChkMax, hCq, hCtx, hCtxAt, hCw, hDeck, hDecks, hDoms, hEngines, hFlex, hFramers,
    hGroups, hHls, hLanes, hMons, hOh, hOhT0, hPairs, hPorts, hPrfRings, hQuads, hRefClk, hRsz, hSels, hTrackers,
    hWords⟩ := id hD
  unfold landDomain
  extract_lets k up rail before s1 s2 s3 s4 s5 src s6
  split
  · exact hk
  split
  · apply domPut_frame (π := π) <;> assumption
  have h1 : π s1 = x := by apply domPut_frame (π := π) <;> assumption
  have h2 : π s2 = x := frame_ite h1 fun h => by apply startRail_frame (π := π) <;> assumption
  have h3 : π s3 = x := frame_ite h2 fun h => by apply cenInc_frame (π := π) <;> assumption
  have h4 : π s4 = x := by
    unfold s4
    split
    · exact h3
    · apply pwrEvt_frame (π := π) <;> assumption
  have h5 : π s5 = x := frame_ite h4 fun h => by apply startIn_frame (π := π) <;> assumption
  have h6 : π s6 = x := frame_ite h5 fun h => (hLink _ _).trans h
  refine frame_foldl h6 fun t y ht => ?_
  split
  · exact ht
  · apply moveDomain_frame (π := π) <;> assumption

theorem applyReq_frame (hD : BlindDomains π) (d : Nat) (st : Nat) (s : State) (hk : π s = x) :
    FrameE π x (applyReq d st s) := by
  obtain ⟨hAudio, hCells, hCellsT0, hChkMax, hCq, hCtx, hCtxAt, hCw, hDeck, hDecks, hDoms, hEngines, hFlex, hFramers,
    hGroups, hHls, hLanes, hMons, hOh, hOhT0, hPairs, hPorts, hPrfRings, hQuads, hRefClk, hRsz, hSels, hTrackers,
    hWords⟩ := id hD
  unfold applyReq
  try dsimp only
  repeat' first
    | with_reducible first
      | assumption | exact frameE_error | apply cwPut_frame | apply retarget_frame | apply frame_foldl
      | apply frame_ite | apply frameE_ok | apply frameE_ite
    | split | intro _

theorem execPwrDomReq_frame (hD : BlindDomains π) (hBatchesDone : Blind π State.putBatchesDone)
    (hHq : Blind π State.putHq) (hIntPend : Blind π State.putIntPend) (hMsixPba : Blind π State.putMsixPba)
    (hOut : Blind π State.putOut) (d : Fin 56) (w : CtlWrite) (s : State) (hk : π s = x) :
    FrameR π x (execPwrDomReq d w s) := by
  obtain ⟨hAudio, hCells, hCellsT0, hChkMax, hCq, hCtx, hCtxAt, hCw, hDeck, hDecks, hDoms, hEngines, hFlex, hFramers,
    hGroups, hHls, hLanes, hMons, hOh, hOhT0, hPairs, hPorts, hPrfRings, hQuads, hRefClk, hRsz, hSels, hTrackers,
    hWords⟩ := id hD
  unfold execPwrDomReq
  try dsimp only
  repeat' first
    | with_reducible first
      | assumption | exact frameE_error | apply settle_frame | apply applyReq_frame | apply frame_foldl
      | apply frame_ite | apply frameE_ok | apply frameE_ite | apply frameR_next
    | split | intro _

theorem recheckReqs_frame (hCw : Blind π State.putCw) (hDoms : Blind π State.putDoms) (hDue : Blind π State.putDue) (s : State) (hk : π s = x) :
    π (recheckReqs s) = x := by
  unfold recheckReqs
  try dsimp only
  repeat' first
    | with_reducible first
      | assumption | apply cwPut_frame | apply pwrEvt_frame | apply unhold_frame | apply frame_foldl | apply frame_ite
    | split | intro _

end Sys2Proof.Machine
end

