-- ==== Sys2Proof/Laws/FrameQueues.lean ====
section
/-! SUPPORT. What the operations of Machine/Queues.lean leave unchanged. -/

set_option linter.unusedTactic false
set_option linter.unreachableTactic false

namespace Sys2Proof.Machine

variable {β : Type} {π : State → β} {x : β}

theorem cqPut_frame (hCq : Blind π State.putCq) (q : Nat) (c : ClientQueue) (s : State) (hk : π s = x) :
    π (cqPut q c s) = x := by
  unfold cqPut
  try dsimp only
  repeat' first
    | with_reducible first
      | assumption | refine (hCq _ _).trans ?_ | apply frame_foldl | apply frame_ite
    | split | intro _

theorem cqHigh_frame (hCq : Blind π State.putCq) (q : Nat) (hi : Bool) (s : State) (hk : π s = x) :
    π (cqHigh q hi s) = x := by
  unfold cqHigh
  try dsimp only
  repeat' first
    | with_reducible first
      | assumption | apply cqPut_frame | apply frame_foldl | apply frame_ite
    | split | intro _

theorem cqLevel_frame (hCq : Blind π State.putCq) (q : Nat) (s : State) (hk : π s = x) :
    π (cqLevel q s) = x := by
  unfold cqLevel
  try dsimp only
  repeat' first
    | with_reducible first
      | assumption | apply cqHigh_frame | apply frame_foldl | apply frame_ite
    | split | intro _

theorem sendFrame_frame (hOut : Blind π State.putOut) (q : Nat) (bytes : List (Fin 256)) (bad : Bool) (s : State)
    (hk : π s = x) :
    π (sendFrame q bytes bad s) = x := by
  unfold sendFrame
  try dsimp only
  repeat' first
    | with_reducible first
      | assumption | apply emit_frame | apply frame_foldl | apply frame_ite
    | split | intro _

theorem countUnderrun_frame (hPorts : Blind π State.putPorts) (q : Nat) (s : State) (hk : π s = x) :
    π (countUnderrun q s) = x := by
  unfold countUnderrun
  try dsimp only
  repeat' first
    | with_reducible first
      | assumption | apply countPort0_frame | apply frame_foldl | apply frame_ite
    | split | intro _

theorem swallowArrival_frame (hPorts : Blind π State.putPorts) (q : Nat) (s : State) (hk : π s = x) :
    π (swallowArrival q s) = x := by
  unfold swallowArrival
  try dsimp only
  repeat' first
    | with_reducible first
      | assumption | refine (hPorts _ _).trans ?_ | apply frame_foldl | apply frame_ite
    | split | intro _

theorem underrunHead_frame (hCq : Blind π State.putCq) (hOut : Blind π State.putOut) (hPorts : Blind π State.putPorts)
    (q : Nat) (s : State) (hk : π s = x) :
    π (underrunHead q s) = x := by
  unfold underrunHead
  try dsimp only
  repeat' first
    | with_reducible first
      | assumption | apply cqLevel_frame | apply countUnderrun_frame | apply cqPut_frame | apply sendFrame_frame
      | apply swallowArrival_frame | apply frame_foldl | apply frame_ite
    | split | intro _

theorem loseArrival_frame (hCq : Blind π State.putCq) (hCw : Blind π State.putCw) (hOut : Blind π State.putOut)
    (hPorts : Blind π State.putPorts) (q : Nat) (s : State) (hk : π s = x) :
    π (loseArrival q s) = x := by
  unfold loseArrival
  try dsimp only
  repeat' first
    | with_reducible first
      | assumption | apply cqLevel_frame | apply cqPut_frame | apply underrunHead_frame | apply cwCount_frame
      | apply swallowArrival_frame | apply frame_foldl | apply frame_ite
    | split | intro _

theorem writeLines_frame (hCq : Blind π State.putCq) (hCw : Blind π State.putCw) (hOut : Blind π State.putOut)
    (hPorts : Blind π State.putPorts) (q : Nat) (a1 : Nat) (a2 : State) (hk : π a2 = x) :
    π (writeLines q a1 a2) = x := by
  induction a1 generalizing a2 with
  | zero => exact hk
  | succ n ih =>
    unfold writeLines
    try dsimp only
    repeat' first
      | with_reducible first
        | assumption | apply ih | apply loseArrival_frame | apply cqLevel_frame | apply cwCount_frame | apply cqPut_frame
        | apply frame_foldl | apply frame_ite
      | split | intro _

theorem chanHead_frame (hCq : Blind π State.putCq) (hPorts : Blind π State.putPorts) (u : Nat) (p : Nat)
    (h : List Nat) (s : State) (hk : π s = x) :
    π (chanHead u p h s) = x := by
  unfold chanHead
  try dsimp only
  repeat' first
    | with_reducible first
      | assumption | apply cqPut_frame | apply portPut_frame | apply countPort1_frame | apply countPort0_frame
      | apply frame_foldl | apply frame_ite
    | split | intro _

theorem chanData_frame (hCq : Blind π State.putCq) (hCw : Blind π State.putCw) (hOut : Blind π State.putOut)
    (hPorts : Blind π State.putPorts) (u : Nat) (p : Nat) (bs : List (Fin 256)) (s : State) (hk : π s = x) :
    π (chanData u p bs s) = x := by
  unfold chanData
  try dsimp only
  repeat' first
    | with_reducible first
      | assumption | apply cqPut_frame | apply portPut_frame | apply writeLines_frame | apply frame_foldl
      | apply frame_ite
    | split | intro _

theorem chanComplete_frame (hCq : Blind π State.putCq) (hCw : Blind π State.putCw) (hOut : Blind π State.putOut)
    (hPorts : Blind π State.putPorts) (q : Nat) (s : State) (hk : π s = x) :
    π (chanComplete q s) = x := by
  unfold chanComplete
  try dsimp only
  repeat' first
    | with_reducible first
      | assumption | apply cqPut_frame | apply writeLines_frame | apply frame_foldl | apply frame_ite
    | split | intro _

theorem chanFinish_frame (hCq : Blind π State.putCq) (hCw : Blind π State.putCw) (hOut : Blind π State.putOut)
    (hPorts : Blind π State.putPorts) (u : Nat) (p : Nat) (fcsOk : Bool) (s : State) (hk : π s = x) :
    π (chanFinish u p fcsOk s) = x := by
  unfold chanFinish
  try dsimp only
  repeat' first
    | with_reducible first
      | assumption | apply cqLevel_frame | apply cqPut_frame | apply chanComplete_frame | apply underrunHead_frame
      | apply portPut_frame | apply countPort1_frame | apply frame_foldl | apply frame_ite
    | split | intro _

theorem execChanFrameRx_frame (hCq : Blind π State.putCq) (hCw : Blind π State.putCw) (hOut : Blind π State.putOut)
    (hPorts : Blind π State.putPorts) (r : PortRef) (step : ChanStep) (s : State) (hk : π s = x) :
    FrameR π x (execChanFrameRx r step s) := by
  unfold execChanFrameRx
  try dsimp only
  repeat' first
    | with_reducible first
      | assumption | apply chanFinish_frame | apply chanHead_frame | apply chanData_frame | apply frame_foldl
      | apply frame_ite | apply frameR_next
    | split | intro _

theorem execPauseMsgSend_frame (hCq : Blind π State.putCq) (hOut : Blind π State.putOut) (q : CqId) (s : State)
    (hk : π s = x) :
    FrameR π x (execPauseMsgSend q s) := by
  unfold execPauseMsgSend
  try dsimp only
  repeat' first
    | with_reducible first
      | assumption | apply cqPut_frame | apply emit_frame | apply frame_foldl | apply frame_ite | apply frameR_next
    | split | intro _

theorem readLines_frame (hCq : Blind π State.putCq) (hOut : Blind π State.putOut) (q : Nat) (lines : Nat) (s : State)
    (hk : π s = x) :
    π (readLines q lines s) = x := by
  unfold readLines
  try dsimp only
  repeat' first
    | with_reducible first
      | assumption | apply cqLevel_frame | apply cqPut_frame | apply sendFrame_frame | apply frame_foldl
      | apply frame_ite
    | split | intro _

theorem execGfpFrameStart_frame (hCq : Blind π State.putCq) (hOut : Blind π State.putOut) (r : PortRef) (lines : Nat)
    (s : State) (hk : π s = x) :
    FrameR π x (execGfpFrameStart r lines s) := by
  unfold execGfpFrameStart
  try dsimp only
  repeat' first
    | with_reducible first
      | assumption | apply cqPut_frame | apply readLines_frame | apply frame_foldl | apply frame_ite
      | apply frameR_next
    | split | intro _

theorem execGfpUnderrun_frame (hCq : Blind π State.putCq) (hOut : Blind π State.putOut)
    (hPorts : Blind π State.putPorts) (r : PortRef) (s : State) (hk : π s = x) :
    FrameR π x (execGfpUnderrun r s) := by
  unfold execGfpUnderrun
  try dsimp only
  repeat' first
    | with_reducible first
      | assumption | apply underrunHead_frame | apply frame_foldl | apply frame_ite | apply frameR_next
    | split | intro _

theorem flushRecord_frame (hCw : Blind π State.putCw) (hHq : Blind π State.putHq)
    (hIntPend : Blind π State.putIntPend) (hMsixPba : Blind π State.putMsixPba) (hOut : Blind π State.putOut)
    (src : Nat) (inst : Nat) (q : Nat) (discarded : Nat) (truncated : Nat) (s : State) (hk : π s = x) :
    π (flushRecord src inst q discarded truncated s) = x := by
  unfold flushRecord
  try dsimp only
  repeat' first
    | with_reducible first
      | assumption | apply record0_frame | apply frame_foldl | apply frame_ite
    | split | intro _

theorem flushClient_frame (hCq : Blind π State.putCq) (hCw : Blind π State.putCw) (hHq : Blind π State.putHq)
    (hIntPend : Blind π State.putIntPend) (hMsixPba : Blind π State.putMsixPba) (hOut : Blind π State.putOut)
    (hPorts : Blind π State.putPorts) (src : Nat) (q : Nat) (s : State) (hk : π s = x) :
    π (flushClient src q s) = x := by
  unfold flushClient
  try dsimp only
  repeat' first
    | with_reducible first
      | assumption | apply cqLevel_frame | apply cqPut_frame | apply flushRecord_frame | apply underrunHead_frame
      | apply swallowArrival_frame | apply frame_foldl | apply frame_ite
    | split | intro _

theorem execClientQueueFlush_frame (hCq : Blind π State.putCq) (hCw : Blind π State.putCw) (hHq : Blind π State.putHq)
    (hIntPend : Blind π State.putIntPend) (hMsixPba : Blind π State.putMsixPba) (hOut : Blind π State.putOut)
    (hPorts : Blind π State.putPorts) (o : Origin) (q : CqId) (s : State) (hk : π s = x) :
    FrameR π x (execClientQueueFlush o q s) := by
  unfold execClientQueueFlush
  try dsimp only
  repeat' first
    | with_reducible first
      | assumption | apply flushClient_frame | apply frame_foldl | apply frame_ite | apply frameR_next
    | split | intro _

theorem flushHost_frame (hCw : Blind π State.putCw) (hEngines : Blind π State.putEngines) (hHq : Blind π State.putHq)
    (hIntPend : Blind π State.putIntPend) (hMsixPba : Blind π State.putMsixPba) (hOut : Blind π State.putOut)
    (hSuspended : Blind π State.putSuspended) (src : Nat) (q : Nat) (s : State) (hk : π s = x) :
    π (flushHost src q s) = x := by
  unfold flushHost
  try dsimp only
  repeat' first
    | with_reducible first
      | assumption | refine (hSuspended _ _).trans ?_ | refine (hEngines _ _).trans ?_ | apply flushRecord_frame
      | apply hqLevel_frame | apply hqPut_frame | apply frame_foldl | apply frame_ite
    | split | intro _

theorem execHostQueueFlush_frame (hCw : Blind π State.putCw) (hEngines : Blind π State.putEngines)
    (hHq : Blind π State.putHq) (hIntPend : Blind π State.putIntPend) (hMsixPba : Blind π State.putMsixPba)
    (hOut : Blind π State.putOut) (hSuspended : Blind π State.putSuspended) (o : Origin) (q : HqId) (s : State) (hk : π s = x) :
    FrameR π x (execHostQueueFlush o q s) := by
  unfold execHostQueueFlush
  try dsimp only
  repeat' first
    | with_reducible first
      | assumption | apply flushHost_frame | apply frame_foldl | apply frame_ite | apply frameR_next
    | split | intro _

theorem displaceAp3_frame (hAudio : Blind π State.putAudio) (hCw : Blind π State.putCw) (hHq : Blind π State.putHq)
    (hIntPend : Blind π State.putIntPend) (hMsixPba : Blind π State.putMsixPba) (hOut : Blind π State.putOut)
    (group : Nat) (s : State) (hk : π s = x) :
    π (displaceAp3 group s) = x := by
  unfold displaceAp3
  try dsimp only
  repeat' first
    | with_reducible first
      | assumption | refine (hAudio _ _).trans ?_ | apply record0_frame | apply cwPut_frame | apply frame_foldl
      | apply frame_ite
    | split | intro _

theorem cqStore_frame (hCw : Blind π State.putCw) (q : Nat) (w : Nat) (v : Word) (s : State) (hk : π s = x) :
    π (cqStore q w v s) = x := by
  unfold cqStore
  try dsimp only
  repeat' first
    | with_reducible first
      | assumption | apply cwSet_frame | apply frame_foldl | apply frame_ite
    | split | intro _

theorem applyCq_frame (hAudio : Blind π State.putAudio) (hCq : Blind π State.putCq) (hCw : Blind π State.putCw)
    (hHq : Blind π State.putHq) (hIntPend : Blind π State.putIntPend) (hMsixPba : Blind π State.putMsixPba)
    (hOut : Blind π State.putOut) (hPorts : Blind π State.putPorts) (src : Nat) (plan : State) (q : Nat) (w : Nat) (v : Word)
    (s : State) (hk : π s = x) :
    FrameE π x (applyCq src plan q w v s) := by
  unfold applyCq
  try dsimp only
  repeat' first
    | with_reducible first
      | assumption | exact frameE_error | apply cqLevel_frame | apply displaceAp3_frame | apply cqStore_frame
      | apply cqPut_frame | apply flushClient_frame | apply frame_foldl | apply frame_ite | apply frameE_ok
      | apply frameE_ite
    | split | intro _

theorem applyCqWrites_frame (hAudio : Blind π State.putAudio) (hBatchesDone : Blind π State.putBatchesDone)
    (hCq : Blind π State.putCq) (hCw : Blind π State.putCw) (hHq : Blind π State.putHq)
    (hIntPend : Blind π State.putIntPend) (hMsixPba : Blind π State.putMsixPba) (hOut : Blind π State.putOut)
    (hPorts : Blind π State.putPorts) (q : Nat) (ws : List QueueWrite) (s : State) (hk : π s = x) :
    π (applyCqWrites q ws s) = x := by
  unfold applyCqWrites
  try dsimp only
  repeat' first
    | with_reducible first
      | assumption | exact frameE_error | apply cqStore_frame | apply settle_frame | apply applyCq_frame
      | apply frame_foldl | apply frame_ite | apply frameE_ok | apply frameE_ite
    | split | intro _

theorem execCqCtrl_frame (hAudio : Blind π State.putAudio) (hBatchesDone : Blind π State.putBatchesDone)
    (hCq : Blind π State.putCq) (hCw : Blind π State.putCw) (hHq : Blind π State.putHq)
    (hIntPend : Blind π State.putIntPend) (hMsixPba : Blind π State.putMsixPba) (hOut : Blind π State.putOut)
    (hPorts : Blind π State.putPorts) (q : CqId) (ws : List QueueWrite) (s : State) (hk : π s = x) :
    FrameR π x (execCqCtrl q ws s) := by
  unfold execCqCtrl
  try dsimp only
  repeat' first
    | with_reducible first
      | assumption | apply applyCqWrites_frame | apply frame_foldl | apply frame_ite | apply frameR_next
    | split | intro _

theorem hqStore_frame (hCw : Blind π State.putCw) (q : Nat) (w : Nat) (v : Word) (s : State) (hk : π s = x) :
    π (hqStore q w v s) = x := by
  unfold hqStore
  try dsimp only
  repeat' first
    | with_reducible first
      | assumption | apply cwSet_frame | apply frame_foldl | apply frame_ite
    | split | intro _

theorem applyHq_frame (hCw : Blind π State.putCw) (hEngines : Blind π State.putEngines) (hHq : Blind π State.putHq)
    (hIntPend : Blind π State.putIntPend) (hMsixPba : Blind π State.putMsixPba) (hOut : Blind π State.putOut)
    (hSuspended : Blind π State.putSuspended) (src : Nat) (plan : State) (q : Nat) (w : Nat) (v : Word) (s : State) (hk : π s = x) :
    FrameE π x (applyHq src plan q w v s) := by
  unfold applyHq
  try dsimp only
  repeat' first
    | with_reducible first
      | assumption | exact frameE_error | apply hqStore_frame | apply flushHost_frame | apply hqLevel_frame
      | apply hqPut_frame | apply frame_foldl | apply frame_ite | apply frameE_ok | apply frameE_ite
    | split | intro _

theorem applyHqWrites_frame (hBatchesDone : Blind π State.putBatchesDone) (hCw : Blind π State.putCw)
    (hEngines : Blind π State.putEngines) (hHq : Blind π State.putHq) (hIntPend : Blind π State.putIntPend)
    (hMsixPba : Blind π State.putMsixPba) (hOut : Blind π State.putOut) (hSuspended : Blind π State.putSuspended)
    (q : Nat) (ws : List QueueWrite) (s : State) (hk : π s = x) :
    π (applyHqWrites q ws s) = x := by
  unfold applyHqWrites
  try dsimp only
  repeat' first
    | with_reducible first
      | assumption | exact frameE_error | apply hqStore_frame | apply applyHq_frame | apply settle_frame
      | apply frame_foldl | apply frame_ite | apply frameE_ok | apply frameE_ite
    | split | intro _

theorem execHqCfg_frame (hBatchesDone : Blind π State.putBatchesDone) (hCw : Blind π State.putCw)
    (hEngines : Blind π State.putEngines) (hHq : Blind π State.putHq) (hIntPend : Blind π State.putIntPend)
    (hMsixPba : Blind π State.putMsixPba) (hOut : Blind π State.putOut) (hSuspended : Blind π State.putSuspended)
    (q : HqId) (ws : List QueueWrite) (s : State) (hk : π s = x) :
    FrameR π x (execHqCfg q ws s) := by
  unfold execHqCfg
  try dsimp only
  repeat' first
    | with_reducible first
      | assumption | apply applyHqWrites_frame | apply frame_foldl | apply frame_ite | apply frameR_next
    | split | intro _

theorem execQueueWmWrite_frame (hAudio : Blind π State.putAudio) (hBatchesDone : Blind π State.putBatchesDone)
    (hCq : Blind π State.putCq) (hCw : Blind π State.putCw) (hEngines : Blind π State.putEngines)
    (hHq : Blind π State.putHq) (hIntPend : Blind π State.putIntPend) (hMsixPba : Blind π State.putMsixPba)
    (hOut : Blind π State.putOut) (hPorts : Blind π State.putPorts) (hSuspended : Blind π State.putSuspended)
    (q : QueueRef) (w : CtlWrite) (s : State) (hk : π s = x) :
    FrameR π x (execQueueWmWrite q w s) := by
  unfold execQueueWmWrite
  try dsimp only
  repeat' first
    | with_reducible first
      | assumption | apply applyCqWrites_frame | apply applyHqWrites_frame | apply frame_foldl | apply frame_ite
      | apply frameR_next
    | split | intro _

theorem execQueueAppend_frame (hCw : Blind π State.putCw) (hHq : Blind π State.putHq)
    (hIntPend : Blind π State.putIntPend) (hMsixPba : Blind π State.putMsixPba) (hOut : Blind π State.putOut)
    (q : HqId) (item : List Word) (s : State) (hk : π s = x) :
    FrameR π x (execQueueAppend q item s) := by
  unfold execQueueAppend
  try dsimp only
  repeat' first
    | with_reducible first
      | assumption | apply hqAppend_frame | apply frame_foldl | apply frame_ite | apply frameR_next
    | split | intro _

end Sys2Proof.Machine
end

