-- ==== Sys2Proof/Laws/FrameMate.lean ====
section
/-! SUPPORT. What the operations of Machine/Mate.lean leave unchanged. -/

set_option linter.unusedTactic false
set_option linter.unreachableTactic false

namespace Sys2Proof.Machine

variable {β : Type} {π : State → β} {x : β}

theorem mateEvt_frame (hDue : Blind π State.putDue) (event : Nat) (detail : Nat) (element : Nat) (s : State)
    (hk : π s = x) :
    π (mateEvt event detail element s) = x := by
  unfold mateEvt
  try dsimp only
  repeat' first
    | with_reducible first
      | assumption | apply dueRecord_frame | apply frame_foldl | apply frame_ite
    | split | intro _

theorem mateLevel_frame (hLink : Blind π State.putLink) (s : State) (hk : π s = x) :
    π (mateLevel s) = x := by
  unfold mateLevel
  try dsimp only
  repeat' first
    | with_reducible first
      | assumption | refine (hLink _ _).trans ?_ | apply frame_foldl | apply frame_ite
    | split | intro _

theorem mateAppend_frame (hCw : Blind π State.putCw) (hIntPend : Blind π State.putIntPend)
    (hLink : Blind π State.putLink) (hMsixPba : Blind π State.putMsixPba) (hOut : Blind π State.putOut) (m : MateMsg)
    (s : State) (hk : π s = x) :
    π (mateAppend m s) = x := by
  unfold mateAppend
  try dsimp only
  repeat' first
    | with_reducible first
      | assumption | refine (hLink _ _).trans ?_ | apply cwCount_frame | apply cenInc_frame | apply mateLevel_frame
      | apply frame_foldl | apply frame_ite
    | split | intro _

theorem resync_frame (hCw : Blind π State.putCw) (hIntPend : Blind π State.putIntPend) (hLink : Blind π State.putLink)
    (hMsixPba : Blind π State.putMsixPba) (hOut : Blind π State.putOut) (hRdn : Blind π State.putRdn) (row : Nat)
    (s : State) (hk : π s = x) :
    π (resync row s) = x := by
  unfold resync
  try dsimp only
  repeat' first
    | with_reducible first
      | assumption | refine (hRdn _ _).trans ?_ | apply mateAppend_frame | apply frame_foldl | apply frame_ite
    | split | intro _

theorem linkLeave_frame (hDue : Blind π State.putDue) (hIntPend : Blind π State.putIntPend)
    (hLink : Blind π State.putLink) (hMsixPba : Blind π State.putMsixPba) (hOut : Blind π State.putOut)
    (hRdn : Blind π State.putRdn) (dest : Link) (detail : Nat) (s : State) (hk : π s = x) :
    π (linkLeave dest detail s) = x := by
  unfold linkLeave
  try dsimp only
  repeat' first
    | with_reducible first
      | assumption | refine (hRdn _ _).trans ?_ | refine (hLink _ _).trans ?_ | apply mateEvt_frame
      | apply intSet_frame | apply frame_foldl | apply frame_ite
    | split | intro _

theorem execPolfenLock_frame (hLink : Blind π State.putLink) (hOut : Blind π State.putOut) (s : State) (hk : π s = x) :
    FrameR π x (execPolfenLock s) := by
  unfold execPolfenLock
  try dsimp only
  repeat' first
    | with_reducible first
      | assumption | refine (hLink _ _).trans ?_ | apply emit_frame | apply frame_foldl | apply frame_ite
      | apply frameR_next
    | split | intro _

theorem execPolfenLockLoss_frame (hCw : Blind π State.putCw) (hDue : Blind π State.putDue)
    (hIntPend : Blind π State.putIntPend) (hLink : Blind π State.putLink) (hMsixPba : Blind π State.putMsixPba)
    (hOut : Blind π State.putOut) (hRdn : Blind π State.putRdn) (s : State) (hk : π s = x) :
    FrameR π x (execPolfenLockLoss s) := by
  unfold execPolfenLockLoss
  try dsimp only
  repeat' first
    | with_reducible first
      | assumption | apply linkLeave_frame | apply cenInc_frame | apply frame_foldl | apply frame_ite
      | apply frameR_next
    | split | intro _

theorem execPolfenHello_frame (hCw : Blind π State.putCw) (hDue : Blind π State.putDue)
    (hIntPend : Blind π State.putIntPend) (hLink : Blind π State.putLink) (hMsixPba : Blind π State.putMsixPba)
    (hOut : Blind π State.putOut) (hRdn : Blind π State.putRdn) (seat : Fin 2) (paired : Bool) (epoch : Nat)
    (s : State) (hk : π s = x) :
    FrameR π x (execPolfenHello seat paired epoch s) := by
  unfold execPolfenHello
  try dsimp only
  repeat' first
    | with_reducible first
      | assumption | refine (hLink _ _).trans ?_ | apply mateEvt_frame | apply resync_frame | apply intSet_frame
      | apply frame_foldl | apply frame_ite | apply frameR_next
    | split | intro _

theorem execPolfenRekey_frame (hLink : Blind π State.putLink) (hOut : Blind π State.putOut) (epoch : Nat) (s : State)
    (hk : π s = x) :
    FrameR π x (execPolfenRekey epoch s) := by
  unfold execPolfenRekey
  try dsimp only
  repeat' first
    | with_reducible first
      | assumption | refine (hLink _ _).trans ?_ | apply emit_frame | apply frame_foldl | apply frame_ite
      | apply frameR_next
    | split | intro _

theorem execPolfenHoldExpire_frame (hLink : Blind π State.putLink) (s : State) (hk : π s = x) :
    FrameR π x (execPolfenHoldExpire s) := by
  unfold execPolfenHoldExpire
  try dsimp only
  repeat' first
    | with_reducible first
      | assumption | refine (hLink _ _).trans ?_ | apply frame_foldl | apply frame_ite | apply frameR_next
    | split | intro _

theorem tearDown_frame (hCw : Blind π State.putCw) (hDue : Blind π State.putDue) (hIntPend : Blind π State.putIntPend)
    (hLink : Blind π State.putLink) (hMsixPba : Blind π State.putMsixPba) (hOut : Blind π State.putOut)
    (hRdn : Blind π State.putRdn) (s : State) (hk : π s = x) :
    π (tearDown s) = x := by
  unfold tearDown
  try dsimp only
  repeat' first
    | with_reducible first
      | assumption | refine (hLink _ _).trans ?_ | apply linkLeave_frame | apply emit_frame | apply cenInc_frame
      | apply cwCountFld_frame | apply frame_foldl | apply frame_ite
    | split | intro _

theorem mateGrant_frame (hLink : Blind π State.putLink) (crg : Nat) (s : State) (hk : π s = x) :
    π (mateGrant crg s) = x := by
  unfold mateGrant
  try dsimp only
  repeat' first
    | with_reducible first
      | assumption | refine (hLink _ _).trans ?_ | apply frame_foldl | apply frame_ite
    | split | intro _

theorem frameIn_frame (hCw : Blind π State.putCw) (hLink : Blind π State.putLink) (f : PFrame) (s : State)
    (hk : π s = x) :
    π (frameIn f s) = x := by
  unfold frameIn
  try dsimp only
  repeat' first
    | with_reducible first
      | assumption | refine (hLink _ _).trans ?_ | apply mateGrant_frame | apply cwCountFld_frame | apply frame_foldl
      | apply frame_ite
    | split | intro _

theorem execPolfenFrameRx_frame (hCw : Blind π State.putCw) (hDue : Blind π State.putDue)
    (hIntPend : Blind π State.putIntPend) (hLink : Blind π State.putLink) (hMsixPba : Blind π State.putMsixPba)
    (hOut : Blind π State.putOut) (hRdn : Blind π State.putRdn) (f : PFrame) (crcOk : Bool) (tagOk : Bool) (s : State)
    (hk : π s = x) :
    FrameR π x (execPolfenFrameRx f crcOk tagOk s) := by
  unfold execPolfenFrameRx
  try dsimp only
  repeat' first
    | with_reducible first
      | assumption | refine (hLink _ _).trans ?_ | apply frameIn_frame | apply linkLeave_frame
      | apply cwCountFld_frame | apply tearDown_frame | apply frame_foldl | apply frame_ite | apply frameR_next
    | split | intro _

theorem execPolfenRetxTimeout_frame (hLink : Blind π State.putLink) (s : State) (hk : π s = x) :
    FrameR π x (execPolfenRetxTimeout s) := by
  unfold execPolfenRetxTimeout
  try dsimp only
  repeat' first
    | with_reducible first
      | assumption | refine (hLink _ _).trans ?_ | apply frame_foldl | apply frame_ite | apply frameR_next
    | split | intro _

theorem sendPolfen_frame (hLink : Blind π State.putLink) (hOut : Blind π State.putOut) (f : PFrame) (s : State)
    (hk : π s = x) :
    π (sendPolfen f s) = x := by
  unfold sendPolfen
  try dsimp only
  repeat' first
    | with_reducible first
      | assumption | refine (hLink _ _).trans ?_ | apply emit_frame | apply frame_foldl | apply frame_ite
    | split | intro _

theorem execPolfenFrameTx_frame (hCw : Blind π State.putCw) (hIntPend : Blind π State.putIntPend)
    (hLink : Blind π State.putLink) (hMsixPba : Blind π State.putMsixPba) (hOut : Blind π State.putOut) (s : State)
    (hk : π s = x) :
    FrameR π x (execPolfenFrameTx s) := by
  unfold execPolfenFrameTx
  try dsimp only
  repeat' first
    | with_reducible first
      | assumption | refine (hLink _ _).trans ?_ | apply emit_frame | apply cenInc_frame | apply sendPolfen_frame
      | apply cwCountFld_frame | apply mateLevel_frame | apply frame_foldl | apply frame_ite | apply frameR_next
    | split | intro _

theorem takeMsg_frame (hLink : Blind π State.putLink) (m : MateMsg) (s : State) (hk : π s = x) :
    π (takeMsg m s) = x := by
  unfold takeMsg
  try dsimp only
  repeat' first
    | with_reducible first
      | assumption | refine (hLink _ _).trans ?_ | apply frame_foldl | apply frame_ite
    | split | intro _

theorem execStatusMsgRx_frame (hLink : Blind π State.putLink) (hRdn : Blind π State.putRdn) (s : State) (hk : π s = x) :
    FrameR π x (execStatusMsgRx s) := by
  unfold execStatusMsgRx
  try dsimp only
  repeat' first
    | with_reducible first
      | assumption | refine (hRdn _ _).trans ?_ | apply takeMsg_frame | apply frame_foldl | apply frame_ite
      | apply frameR_next
    | split | intro _

theorem tier1In_frame (hBank : Blind π State.putBank) (hCw : Blind π State.putCw)
    (hIntPend : Blind π State.putIntPend) (hLink : Blind π State.putLink) (hMsixPba : Blind π State.putMsixPba)
    (hOut : Blind π State.putOut) (hRdn : Blind π State.putRdn) (tick : Word) (wrap : Word) (es : List (Nat × Word))
    (s : State) (hk : π s = x) :
    π (tier1In tick wrap es s) = x := by
  unfold tier1In
  try dsimp only
  repeat' first
    | with_reducible first
      | assumption | refine (hBank _ _).trans ?_ | refine (hRdn _ _).trans ?_ | apply resync_frame | apply frame_foldl
      | apply frame_ite
    | split | intro _

theorem execTier1MsgRx_frame (hBank : Blind π State.putBank) (hCw : Blind π State.putCw)
    (hIntPend : Blind π State.putIntPend) (hLink : Blind π State.putLink) (hMsixPba : Blind π State.putMsixPba)
    (hOut : Blind π State.putOut) (hRdn : Blind π State.putRdn) (s : State) (hk : π s = x) :
    FrameR π x (execTier1MsgRx s) := by
  unfold execTier1MsgRx
  try dsimp only
  repeat' first
    | with_reducible first
      | assumption | apply tier1In_frame | apply takeMsg_frame | apply frame_foldl | apply frame_ite
      | apply frameR_next
    | split | intro _

theorem execTier2MsgRx_frame (hBank : Blind π State.putBank) (hLink : Blind π State.putLink) (s : State)
    (hk : π s = x) :
    FrameR π x (execTier2MsgRx s) := by
  unfold execTier2MsgRx
  try dsimp only
  repeat' first
    | with_reducible first
      | assumption | refine (hBank _ _).trans ?_ | apply takeMsg_frame | apply frame_foldl | apply frame_ite
      | apply frameR_next
    | split | intro _

theorem execResyncReqRx_frame (hCw : Blind π State.putCw) (hIntPend : Blind π State.putIntPend)
    (hLink : Blind π State.putLink) (hMsixPba : Blind π State.putMsixPba) (hOut : Blind π State.putOut)
    (hRdn : Blind π State.putRdn) (s : State) (hk : π s = x) :
    FrameR π x (execResyncReqRx s) := by
  unfold execResyncReqRx
  try dsimp only
  repeat' first
    | with_reducible first
      | assumption | apply resync_frame | apply takeMsg_frame | apply frame_foldl | apply frame_ite
      | apply frameR_next
    | split | intro _

theorem execSweepStart_frame (hCw : Blind π State.putCw) (hDue : Blind π State.putDue)
    (hIntPend : Blind π State.putIntPend) (hLink : Blind π State.putLink) (hMsixPba : Blind π State.putMsixPba)
    (hOut : Blind π State.putOut) (hRdn : Blind π State.putRdn) (s : State) (hk : π s = x) :
    FrameR π x (execSweepStart s) := by
  unfold execSweepStart
  try dsimp only
  repeat' first
    | with_reducible first
      | assumption | refine (hRdn _ _).trans ?_ | apply mateEvt_frame | apply mateAppend_frame | apply takeMsg_frame
      | apply frame_foldl | apply frame_ite | apply frameR_next
    | split | intro _

theorem execSweepMsgRx_frame (hLink : Blind π State.putLink) (hRdn : Blind π State.putRdn) (s : State) (hk : π s = x) :
    FrameR π x (execSweepMsgRx s) := by
  unfold execSweepMsgRx
  try dsimp only
  repeat' first
    | with_reducible first
      | assumption | refine (hRdn _ _).trans ?_ | apply takeMsg_frame | apply frame_foldl | apply frame_ite
      | apply frameR_next
    | split | intro _

theorem execSweepComplete_frame (hBank : Blind π State.putBank) (hDue : Blind π State.putDue)
    (hLink : Blind π State.putLink) (hRdn : Blind π State.putRdn) (s : State) (hk : π s = x) :
    FrameR π x (execSweepComplete s) := by
  unfold execSweepComplete
  try dsimp only
  repeat' first
    | with_reducible first
      | assumption | refine (hBank _ _).trans ?_ | refine (hRdn _ _).trans ?_ | apply mateEvt_frame
      | apply takeMsg_frame | apply frame_foldl | apply frame_ite | apply frameR_next
    | split | intro _

theorem execMateMsgRx_frame (hLink : Blind π State.putLink) (s : State) (hk : π s = x) :
    FrameR π x (execMateMsgRx s) := by
  unfold execMateMsgRx
  try dsimp only
  repeat' first
    | with_reducible first
      | assumption | apply takeMsg_frame | apply frame_foldl | apply frame_ite | apply frameR_next
    | split | intro _

theorem applyMateCtrl_frame (hCw : Blind π State.putCw) (hDue : Blind π State.putDue)
    (hIntPend : Blind π State.putIntPend) (hLink : Blind π State.putLink) (hMsixPba : Blind π State.putMsixPba)
    (hOut : Blind π State.putOut) (hRdn : Blind π State.putRdn) (v : Word) (s : State) (hk : π s = x) :
    FrameE π x (applyMateCtrl v s) := by
  unfold applyMateCtrl
  try dsimp only
  repeat' first
    | with_reducible first
      | assumption | exact frameE_error | refine (hRdn _ _).trans ?_ | refine (hLink _ _).trans ?_
      | apply mateEvt_frame | apply resync_frame | apply linkLeave_frame | apply cwSet_frame | apply frame_foldl
      | apply frame_ite | apply frameE_ok | apply frameE_ite
    | split | intro _

theorem mateWrite_frame (hBatchesDone : Blind π State.putBatchesDone) (hCw : Blind π State.putCw)
    (hDue : Blind π State.putDue) (hHq : Blind π State.putHq) (hIntPend : Blind π State.putIntPend)
    (hLink : Blind π State.putLink) (hMsixPba : Blind π State.putMsixPba) (hOut : Blind π State.putOut)
    (hRdn : Blind π State.putRdn) (w : CtlWrite) (v : Word) (s : State) (hk : π s = x) :
    FrameR π x (mateWrite w v s) := by
  unfold mateWrite
  try dsimp only
  repeat' first
    | with_reducible first
      | assumption | exact frameE_error | apply applyMateCtrl_frame | apply settle_frame | apply frame_foldl
      | apply frame_ite | apply frameE_ok | apply frameE_ite | apply frameR_next
    | split | intro _

theorem execMateLinkEn_frame (hBatchesDone : Blind π State.putBatchesDone) (hCw : Blind π State.putCw)
    (hDue : Blind π State.putDue) (hHq : Blind π State.putHq) (hIntPend : Blind π State.putIntPend)
    (hLink : Blind π State.putLink) (hMsixPba : Blind π State.putMsixPba) (hOut : Blind π State.putOut)
    (hRdn : Blind π State.putRdn) (w : CtlWrite) (s : State) (hk : π s = x) :
    FrameR π x (execMateLinkEn w s) := by
  unfold execMateLinkEn
  try dsimp only
  repeat' first
    | with_reducible first
      | assumption | apply mateWrite_frame | apply frame_foldl | apply frame_ite | apply frameR_next
    | split | intro _

theorem execMateRestart_frame (hBatchesDone : Blind π State.putBatchesDone) (hCw : Blind π State.putCw)
    (hDue : Blind π State.putDue) (hHq : Blind π State.putHq) (hIntPend : Blind π State.putIntPend)
    (hLink : Blind π State.putLink) (hMsixPba : Blind π State.putMsixPba) (hOut : Blind π State.putOut)
    (hRdn : Blind π State.putRdn) (w : CtlWrite) (s : State) (hk : π s = x) :
    FrameR π x (execMateRestart w s) := by
  unfold execMateRestart
  try dsimp only
  repeat' first
    | with_reducible first
      | assumption | apply mateWrite_frame | apply frame_foldl | apply frame_ite | apply frameR_next
    | split | intro _

theorem execMateResync_frame (hBatchesDone : Blind π State.putBatchesDone) (hCw : Blind π State.putCw)
    (hDue : Blind π State.putDue) (hHq : Blind π State.putHq) (hIntPend : Blind π State.putIntPend)
    (hLink : Blind π State.putLink) (hMsixPba : Blind π State.putMsixPba) (hOut : Blind π State.putOut)
    (hRdn : Blind π State.putRdn) (w : CtlWrite) (s : State) (hk : π s = x) :
    FrameR π x (execMateResync w s) := by
  unfold execMateResync
  try dsimp only
  repeat' first
    | with_reducible first
      | assumption | apply mateWrite_frame | apply frame_foldl | apply frame_ite | apply frameR_next
    | split | intro _

theorem execMateYield_frame (hBatchesDone : Blind π State.putBatchesDone) (hCw : Blind π State.putCw)
    (hDue : Blind π State.putDue) (hHq : Blind π State.putHq) (hIntPend : Blind π State.putIntPend)
    (hLink : Blind π State.putLink) (hMsixPba : Blind π State.putMsixPba) (hOut : Blind π State.putOut)
    (hRdn : Blind π State.putRdn) (w : CtlWrite) (s : State) (hk : π s = x) :
    FrameR π x (execMateYield w s) := by
  unfold execMateYield
  try dsimp only
  repeat' first
    | with_reducible first
      | assumption | apply mateWrite_frame | apply frame_foldl | apply frame_ite | apply frameR_next
    | split | intro _

theorem execMateConfirm_frame (hBatchesDone : Blind π State.putBatchesDone) (hCw : Blind π State.putCw)
    (hDue : Blind π State.putDue) (hHq : Blind π State.putHq) (hIntPend : Blind π State.putIntPend)
    (hLink : Blind π State.putLink) (hMsixPba : Blind π State.putMsixPba) (hOut : Blind π State.putOut)
    (hRdn : Blind π State.putRdn) (w : CtlWrite) (s : State) (hk : π s = x) :
    FrameR π x (execMateConfirm w s) := by
  unfold execMateConfirm
  try dsimp only
  repeat' first
    | with_reducible first
      | assumption | apply mateWrite_frame | apply frame_foldl | apply frame_ite | apply frameR_next
    | split | intro _

theorem execMateCntClr_frame (hCw : Blind π State.putCw) (s : State) (hk : π s = x) :
    FrameR π x (execMateCntClr s) := by
  unfold execMateCntClr
  try dsimp only
  repeat' first
    | with_reducible first
      | assumption | apply cwSet_frame | apply frame_foldl | apply frame_ite | apply frameR_next
    | split | intro _

theorem flushMate_frame (hCw : Blind π State.putCw) (hHq : Blind π State.putHq) (hIntPend : Blind π State.putIntPend)
    (hLink : Blind π State.putLink) (hMsixPba : Blind π State.putMsixPba) (hOut : Blind π State.putOut)
    (hRdn : Blind π State.putRdn) (src : Nat) (s : State) (hk : π s = x) :
    π (flushMate src s) = x := by
  unfold flushMate
  try dsimp only
  repeat' first
    | with_reducible first
      | assumption | refine (hLink _ _).trans ?_ | apply resync_frame | apply flushRecord_frame
      | apply mateLevel_frame | apply frame_foldl | apply frame_ite
    | split | intro _

theorem execMateQueueFlush_frame (hBatchesDone : Blind π State.putBatchesDone) (hCw : Blind π State.putCw)
    (hHq : Blind π State.putHq) (hIntPend : Blind π State.putIntPend) (hLink : Blind π State.putLink)
    (hMsixPba : Blind π State.putMsixPba) (hOut : Blind π State.putOut) (hRdn : Blind π State.putRdn) (o : Origin)
    (s : State) (hk : π s = x) :
    FrameR π x (execMateQueueFlush o s) := by
  unfold execMateQueueFlush
  try dsimp only
  repeat' first
    | with_reducible first
      | assumption | exact frameE_error | apply settle_frame | apply flushMate_frame | apply frame_foldl
      | apply frame_ite | apply frameE_ok | apply frameE_ite | apply frameR_next
    | split | intro _

theorem applyMateWm_frame (hCw : Blind π State.putCw) (hLink : Blind π State.putLink) (v : Word) (s : State)
    (hk : π s = x) :
    FrameE π x (applyMateWm v s) := by
  unfold applyMateWm
  try dsimp only
  repeat' first
    | with_reducible first
      | assumption | exact frameE_error | apply mateLevel_frame | apply cwSet_frame | apply frame_foldl
      | apply frame_ite | apply frameE_ok | apply frameE_ite
    | split | intro _

end Sys2Proof.Machine
end

