-- ==== Sys2Proof/Laws/FrameProof.lean ====
section
/-! SUPPORT. What the operations of Machine/Proof.lean leave unchanged. -/

set_option linter.unusedTactic false
set_option linter.unreachableTactic false

namespace Sys2Proof.Machine

variable {β : Type} {π : State → β} {x : β}

theorem ringPut_frame (hPrfRings : Blind π State.putPrfRings) (r : Nat) (k : Ring) (s : State) (hk : π s = x) :
    π (ringPut r k s) = x := by
  unfold ringPut
  try dsimp only
  repeat' first
    | with_reducible first
      | assumption | refine (hPrfRings _ _).trans ?_ | apply frame_foldl | apply frame_ite
    | split | intro _

theorem hlPut_frame (hHls : Blind π State.putHls) (p : Nat) (h : Hl) (s : State) (hk : π s = x) :
    π (hlPut p h s) = x := by
  unfold hlPut
  try dsimp only
  repeat' first
    | with_reducible first
      | assumption | refine (hHls _ _).trans ?_ | apply frame_foldl | apply frame_ite
    | split | intro _

theorem allocRings_frame (hPrfRings : Blind π State.putPrfRings) (rs : List Nat) (rate : Nat) (pages : Nat)
    (s : State) (hk : π s = x) :
    π (allocRings rs rate pages s) = x := by
  unfold allocRings
  try dsimp only
  repeat' first
    | with_reducible first
      | assumption | apply ringPut_frame | apply frame_foldl | apply frame_ite
    | split | intro _

theorem freeRingsOf_frame (hPrfRings : Blind π State.putPrfRings) (rs : List Nat) (s : State) (hk : π s = x) :
    π (freeRingsOf rs s) = x := by
  unfold freeRingsOf
  try dsimp only
  repeat' first
    | with_reducible first
      | assumption | apply ringPut_frame | apply frame_foldl | apply frame_ite
    | split | intro _

theorem releaseFreed_frame (hPrfRings : Blind π State.putPrfRings) (s : State) (hk : π s = x) :
    π (releaseFreed s) = x := by
  unfold releaseFreed
  try dsimp only
  repeat' first
    | with_reducible first
      | assumption | refine (hPrfRings _ _).trans ?_ | apply frame_foldl | apply frame_ite
    | split | intro _

theorem applyPrfCtrl_frame (hCw : Blind π State.putCw) (d : Nat) (v : Word) (s : State) (hk : π s = x) :
    FrameE π x (applyPrfCtrl d v s) := by
  unfold applyPrfCtrl
  try dsimp only
  repeat' first
    | with_reducible first
      | assumption | exact frameE_error | apply cwSet_frame | apply frame_foldl | apply frame_ite | apply frameE_ok
      | apply frameE_ite
    | split | intro _

theorem execPrfCtrl_frame (hBatchesDone : Blind π State.putBatchesDone) (hCw : Blind π State.putCw)
    (hHq : Blind π State.putHq) (hIntPend : Blind π State.putIntPend) (hMsixPba : Blind π State.putMsixPba)
    (hOut : Blind π State.putOut) (d : DieId) (w : CtlWrite) (s : State) (hk : π s = x) :
    FrameR π x (execPrfCtrl d w s) := by
  unfold execPrfCtrl
  try dsimp only
  repeat' first
    | with_reducible first
      | assumption | exact frameE_error | apply settle_frame | apply applyPrfCtrl_frame | apply frame_foldl
      | apply frame_ite | apply frameE_ok | apply frameE_ite | apply frameR_next
    | split | intro _

theorem execRingStart_frame (hPrfRings : Blind π State.putPrfRings) (r : RingId) (s : State) (hk : π s = x) :
    FrameR π x (execRingStart r s) := by
  unfold execRingStart
  try dsimp only
  repeat' first
    | with_reducible first
      | assumption | apply ringPut_frame | apply frame_foldl | apply frame_ite | apply frameR_next
    | split | intro _

theorem compareMapped_frame (hHls : Blind π State.putHls) (p : Nat) (r : Nat) (s : State) (hk : π s = x) :
    π (compareMapped p r s) = x := by
  unfold compareMapped
  try dsimp only
  repeat' first
    | with_reducible first
      | assumption | apply hlPut_frame | apply frame_foldl | apply frame_ite
    | split | intro _

theorem ringFrame_frame (hHls : Blind π State.putHls) (hPrfRings : Blind π State.putPrfRings) (r : Nat) (lines : Nat)
    (mf : Nat) (fp : Nat) (defect : Bool) (bip : Bool) (s : State) (hk : π s = x) :
    π (ringFrame r lines mf fp defect bip s) = x := by
  unfold ringFrame
  try dsimp only
  repeat' first
    | with_reducible first
      | assumption | apply compareMapped_frame | apply ringPut_frame | apply frame_foldl | apply frame_ite
    | split | intro _

theorem execRingLineRead_frame (hFirstRing : Blind π State.putFirstRing) (hSubsts : Blind π State.putSubsts)
    (hUnverified : Blind π State.putUnverified) (r : RingId) (ecc : Bool) (crc : Bool) (partnerOk : Bool) (s : State)
    (hk : π s = x) :
    FrameR π x (execRingLineRead r ecc crc partnerOk s) := by
  unfold execRingLineRead
  try dsimp only
  repeat' first
    | with_reducible first
      | assumption | refine (hFirstRing _ _).trans ?_ | refine (hSubsts _ _).trans ?_
      | refine (hUnverified _ _).trans ?_ | apply frame_foldl | apply frame_ite | apply frameR_next
    | split | intro _

theorem integRecord_frame (hCw : Blind π State.putCw) (hHq : Blind π State.putHq)
    (hIntPend : Blind π State.putIntPend) (hMsixPba : Blind π State.putMsixPba) (hOut : Blind π State.putOut)
    (d : Nat) (s : State) (hk : π s = x) :
    π (integRecord d s) = x := by
  unfold integRecord
  try dsimp only
  repeat' first
    | with_reducible first
      | assumption | apply record_frame | apply frame_foldl | apply frame_ite
    | split | intro _

theorem hlRefresh_frame (hDue : Blind π State.putDue) (hHls : Blind π State.putHls) (p : Nat) (s : State)
    (hk : π s = x) :
    π (hlRefresh p s) = x := by
  unfold hlRefresh
  try dsimp only
  repeat' first
    | with_reducible first
      | assumption | apply hlPut_frame | apply dueRecord_frame | apply frame_foldl | apply frame_ite
    | split | intro _

theorem proofHit_frame (hDue : Blind π State.putDue) (d : Nat) (owner : Nat) (kind : Nat) (frames : Nat) (s : State)
    (hk : π s = x) :
    π (proofHit d owner kind frames s) = x := by
  unfold proofHit
  try dsimp only
  repeat' first
    | with_reducible first
      | assumption | apply dueRecord_frame | apply frame_foldl | apply frame_ite
    | split | intro _

theorem shiftReader_frame (hHls : Blind π State.putHls) (p : Nat) (ns : Int) (s : State) (hk : π s = x) :
    π (shiftReader p ns s) = x := by
  unfold shiftReader
  try dsimp only
  repeat' first
    | with_reducible first
      | assumption | apply hlPut_frame | apply frame_foldl | apply frame_ite
    | split | intro _

theorem placeReader_frame (hDue : Blind π State.putDue) (hHls : Blind π State.putHls) (p : Nat) (counted : Bool)
    (s : State) (hk : π s = x) :
    π (placeReader p counted s) = x := by
  unfold placeReader
  try dsimp only
  repeat' first
    | with_reducible first
      | assumption | apply hlPut_frame | apply shiftReader_frame | apply proofHit_frame | apply hlRefresh_frame
      | apply frame_foldl | apply frame_ite
    | split | intro _

theorem applyHl_frame (hCw : Blind π State.putCw) (hDue : Blind π State.putDue) (hHls : Blind π State.putHls)
    (hPrfRings : Blind π State.putPrfRings) (before : State) (plan : State) (p : Nat) (w : Nat) (v : Word) (s : State) (hk : π s = x) :
    FrameE π x (applyHl before plan p w v s) := by
  unfold applyHl
  try dsimp only
  repeat' first
    | with_reducible first
      | assumption | exact frameE_error | apply allocRings_frame | apply hlPut_frame | apply hlRefresh_frame
      | apply cwSet_frame | apply freeRingsOf_frame | apply frame_foldl | apply frame_ite | apply frameE_ok
      | apply frameE_ite
    | split | intro _

theorem applyHlWrites_frame (hBatchesDone : Blind π State.putBatchesDone) (hCw : Blind π State.putCw)
    (hDue : Blind π State.putDue) (hHls : Blind π State.putHls) (hHq : Blind π State.putHq)
    (hIntPend : Blind π State.putIntPend) (hMsixPba : Blind π State.putMsixPba) (hOut : Blind π State.putOut)
    (hPrfRings : Blind π State.putPrfRings) (p : Nat) (ws : List HlWrite) (s : State) (hk : π s = x) :
    π (applyHlWrites p ws s) = x := by
  unfold applyHlWrites
  try dsimp only
  repeat' first
    | with_reducible first
      | assumption | exact frameE_error | apply settle_frame | apply applyHl_frame | apply cwSet_frame
      | apply frame_foldl | apply frame_ite | apply frameE_ok | apply frameE_ite
    | split | intro _

theorem execHlCfg_frame (hBatchesDone : Blind π State.putBatchesDone) (hCw : Blind π State.putCw)
    (hDue : Blind π State.putDue) (hHls : Blind π State.putHls) (hHq : Blind π State.putHq)
    (hIntPend : Blind π State.putIntPend) (hMsixPba : Blind π State.putMsixPba) (hOut : Blind π State.putOut)
    (hPrfRings : Blind π State.putPrfRings) (p : PairId) (ws : List HlWrite) (s : State) (hk : π s = x) :
    FrameR π x (execHlCfg p ws s) := by
  unfold execHlCfg
  try dsimp only
  repeat' first
    | with_reducible first
      | assumption | apply applyHlWrites_frame | apply frame_foldl | apply frame_ite | apply frameR_next
    | split | intro _

theorem execHlRecentre_frame (hBatchesDone : Blind π State.putBatchesDone) (hCw : Blind π State.putCw)
    (hDue : Blind π State.putDue) (hHls : Blind π State.putHls) (hHq : Blind π State.putHq)
    (hIntPend : Blind π State.putIntPend) (hMsixPba : Blind π State.putMsixPba) (hOut : Blind π State.putOut)
    (hPrfRings : Blind π State.putPrfRings) (p : PairId) (step : RecentreStep) (s : State) (hk : π s = x) :
    FrameR π x (execHlRecentre p step s) := by
  unfold execHlRecentre
  try dsimp only
  repeat' first
    | with_reducible first
      | assumption | exact frameE_error | apply settle_frame | apply placeReader_frame | apply applyHl_frame
      | apply frame_foldl | apply frame_ite | apply frameE_ok | apply frameE_ite | apply frameR_next
    | split | intro _

theorem execHlCntClr_frame (hHls : Blind π State.putHls) (p : PairId) (s : State) (hk : π s = x) :
    FrameR π x (execHlCntClr p s) := by
  unfold execHlCntClr
  try dsimp only
  repeat' first
    | with_reducible first
      | assumption | apply hlPut_frame | apply frame_foldl | apply frame_ite | apply frameR_next
    | split | intro _

theorem execRingBreak_frame (hDue : Blind π State.putDue) (hHls : Blind π State.putHls)
    (hPrfRings : Blind π State.putPrfRings) (r : RingId) (s : State) (hk : π s = x) :
    FrameR π x (execRingBreak r s) := by
  unfold execRingBreak
  try dsimp only
  repeat' first
    | with_reducible first
      | assumption | apply hlPut_frame | apply hlRefresh_frame | apply ringPut_frame | apply frame_foldl
      | apply frame_ite | apply frameR_next
    | split | intro _

theorem execHlAlignAttempt_frame (hDue : Blind π State.putDue) (hHls : Blind π State.putHls) (p : PairId) (s : State)
    (hk : π s = x) :
    FrameR π x (execHlAlignAttempt p s) := by
  unfold execHlAlignAttempt
  try dsimp only
  repeat' first
    | with_reducible first
      | assumption | apply hlPut_frame | apply hlRefresh_frame | apply frame_foldl | apply frame_ite
      | apply frameR_next
    | split | intro _

theorem execHlSearchRange_frame (hDue : Blind π State.putDue) (hHls : Blind π State.putHls) (p : PairId) (s : State)
    (hk : π s = x) :
    FrameR π x (execHlSearchRange p s) := by
  unfold execHlSearchRange
  try dsimp only
  repeat' first
    | with_reducible first
      | assumption | apply hlPut_frame | apply hlRefresh_frame | apply frame_foldl | apply frame_ite
      | apply frameR_next
    | split | intro _

theorem execHlAlignConfirm_frame (hDue : Blind π State.putDue) (hHls : Blind π State.putHls) (p : PairId) (s : State)
    (hk : π s = x) :
    FrameR π x (execHlAlignConfirm p s) := by
  unfold execHlAlignConfirm
  try dsimp only
  repeat' first
    | with_reducible first
      | assumption | apply hlPut_frame | apply hlRefresh_frame | apply placeReader_frame | apply frame_foldl
      | apply frame_ite | apply frameR_next
    | split | intro _

theorem execHlMisalign_frame (hDue : Blind π State.putDue) (hHls : Blind π State.putHls) (p : PairId) (s : State)
    (hk : π s = x) :
    FrameR π x (execHlMisalign p s) := by
  unfold execHlMisalign
  try dsimp only
  repeat' first
    | with_reducible first
      | assumption | apply hlPut_frame | apply hlRefresh_frame | apply frame_foldl | apply frame_ite
      | apply frameR_next
    | split | intro _

theorem execHlSlackEval_frame (hDue : Blind π State.putDue) (hHls : Blind π State.putHls) (p : PairId) (lateW : Int)
    (earlyW : Int) (lateP : Int) (earlyP : Int) (s : State) (hk : π s = x) :
    FrameR π x (execHlSlackEval p lateW earlyW lateP earlyP s) := by
  unfold execHlSlackEval
  try dsimp only
  repeat' first
    | with_reducible first
      | assumption | apply hlPut_frame | apply hlRefresh_frame | apply frame_foldl | apply frame_ite
      | apply frameR_next
    | split | intro _

theorem hlSwitch_frame (hDue : Blind π State.putDue) (hHls : Blind π State.putHls) (p : Nat) (stateBefore : Nat)
    (lateBefore : Int) (s : State) (hk : π s = x) :
    π (hlSwitch p stateBefore lateBefore s) = x := by
  unfold hlSwitch
  try dsimp only
  repeat' first
    | with_reducible first
      | assumption | apply hlPut_frame | apply shiftReader_frame | apply proofHit_frame | apply hlRefresh_frame
      | apply frame_foldl | apply frame_ite
    | split | intro _

end Sys2Proof.Machine
end

