-- ==== Sys2Proof/Laws/FrameGroups.lean ====
section
/-! SUPPORT. What the operations of Machine/Groups.lean leave unchanged. -/

set_option linter.unusedTactic false
set_option linter.unreachableTactic false

namespace Sys2Proof.Machine

variable {β : Type} {π : State → β} {x : β}

theorem grpPut_frame (hGroups : Blind π State.putGroups) (d : Nat) (g : Nat) (k : Group) (s : State) (hk : π s = x) :
    π (grpPut d g k s) = x := by
  unfold grpPut
  try dsimp only
  repeat' first
    | with_reducible first
      | assumption | refine (hGroups _ _).trans ?_ | apply frame_foldl | apply frame_ite
    | split | intro _

theorem applyGrp_frame (hCw : Blind π State.putCw) (hGroups : Blind π State.putGroups)
    (hPrfRings : Blind π State.putPrfRings) (d : Nat) (g : Nat) (v : Word) (s : State) (hk : π s = x) :
    FrameE π x (applyGrp d g v s) := by
  unfold applyGrp
  try dsimp only
  repeat' first
    | with_reducible first
      | assumption | exact frameE_error | apply grpPut_frame | apply allocRings_frame | apply cwSet_frame
      | apply freeRingsOf_frame | apply frame_foldl | apply frame_ite | apply frameE_ok | apply frameE_ite
    | split | intro _

theorem execGrpCfg_frame (hBatchesDone : Blind π State.putBatchesDone) (hCw : Blind π State.putCw)
    (hGroups : Blind π State.putGroups) (hHq : Blind π State.putHq) (hIntPend : Blind π State.putIntPend)
    (hMsixPba : Blind π State.putMsixPba) (hOut : Blind π State.putOut) (hPrfRings : Blind π State.putPrfRings)
    (d : DieId) (g : GroupId) (w : CtlWrite) (s : State) (hk : π s = x) :
    FrameR π x (execGrpCfg d g w s) := by
  unfold execGrpCfg
  try dsimp only
  repeat' first
    | with_reducible first
      | assumption | exact frameE_error | apply settle_frame | apply applyGrp_frame | apply frame_foldl
      | apply frame_ite | apply frameE_ok | apply frameE_ite | apply frameR_next
    | split | intro _

theorem execMlomDeclare_frame (hMons : Blind π State.putMons) (c : CtxId) (s : State) (hk : π s = x) :
    FrameR π x (execMlomDeclare c s) := by
  unfold execMlomDeclare
  try dsimp only
  repeat' first
    | with_reducible first
      | assumption | apply monPut_frame | apply frame_foldl | apply frame_ite | apply frameR_next
    | split | intro _

theorem execMlomClear_frame (hMons : Blind π State.putMons) (c : CtxId) (s : State) (hk : π s = x) :
    FrameR π x (execMlomClear c s) := by
  unfold execMlomClear
  try dsimp only
  repeat' first
    | with_reducible first
      | assumption | apply monPut_frame | apply frame_foldl | apply frame_ite | apply frameR_next
    | split | intro _

theorem execGroupReaderPlace_frame (hGroups : Blind π State.putGroups) (d : DieId) (g : GroupId) (s : State)
    (hk : π s = x) :
    FrameR π x (execGroupReaderPlace d g s) := by
  unfold execGroupReaderPlace
  try dsimp only
  repeat' first
    | with_reducible first
      | assumption | apply grpPut_frame | apply frame_foldl | apply frame_ite | apply frameR_next
    | split | intro _

theorem execGroupRetime_frame (hDue : Blind π State.putDue) (hGroups : Blind π State.putGroups) (d : DieId)
    (g : GroupId) (s : State) (hk : π s = x) :
    FrameR π x (execGroupRetime d g s) := by
  unfold execGroupRetime
  try dsimp only
  repeat' first
    | with_reducible first
      | assumption | apply grpPut_frame | apply proofHit_frame | apply frame_foldl | apply frame_ite
      | apply frameR_next
    | split | intro _

theorem execLoaChange_frame (hDue : Blind π State.putDue) (hGroups : Blind π State.putGroups) (d : DieId)
    (g : GroupId) (s : State) (hk : π s = x) :
    FrameR π x (execLoaChange d g s) := by
  unfold execLoaChange
  try dsimp only
  repeat' first
    | with_reducible first
      | assumption | apply grpPut_frame | apply dueRecord_frame | apply frame_foldl | apply frame_ite
      | apply frameR_next
    | split | intro _

theorem execLcasPacketRx_frame (hMons : Blind π State.putMons) (hOh : Blind π State.putOh) (c : CtxId) (crcOk : Bool)
    (ctrl : Fin 16) (sq : Fin 256) (rsAck : Bool) (mst : Option (Fin 8 × BitVec 32)) (s : State) (hk : π s = x) :
    FrameR π x (execLcasPacketRx c crcOk ctrl sq rsAck mst s) := by
  unfold execLcasPacketRx
  try dsimp only
  repeat' first
    | with_reducible first
      | assumption | apply monPut_frame | apply ohSet_frame | apply frame_foldl | apply frame_ite | apply frameR_next
    | split | intro _

theorem execLcasPayloadChange_frame (hMons : Blind π State.putMons) (d : DieId) (g : GroupId) (s : State)
    (hk : π s = x) :
    FrameR π x (execLcasPayloadChange d g s) := by
  unfold execLcasPayloadChange
  try dsimp only
  repeat' first
    | with_reducible first
      | assumption | apply monPut_frame | apply frame_foldl | apply frame_ite | apply frameR_next
    | split | intro _

theorem execLcasTxChange_frame (hMons : Blind π State.putMons) (c : CtxId) (s : State) (hk : π s = x) :
    FrameR π x (execLcasTxChange c s) := by
  unfold execLcasTxChange
  try dsimp only
  repeat' first
    | with_reducible first
      | assumption | apply monPut_frame | apply frame_foldl | apply frame_ite | apply frameR_next
    | split | intro _

end Sys2Proof.Machine
end

