-- ==== Sys2Proof/Laws/FrameResize.lean ====
section
/-! SUPPORT. What the operations of Machine/Resize.lean leave unchanged. -/

set_option linter.unusedTactic false
set_option linter.unreachableTactic false

namespace Sys2Proof.Machine

variable {β : Type} {π : State → β} {x : β}

theorem hitlessMove_frame (hDue : Blind π State.putDue) (hHls : Blind π State.putHls) (d : Nat) (p : Nat) (s : State)
    (hk : π s = x) :
    π (hitlessMove d p s) = x := by
  unfold hitlessMove
  try dsimp only
  repeat' first
    | with_reducible first
      | assumption | apply shiftReader_frame | apply proofHit_frame | apply hlRefresh_frame | apply frame_foldl
      | apply frame_ite
    | split | intro _

theorem changeOutputs_frame (hCw : Blind π State.putCw) (hDecks : Blind π State.putDecks)
    (hDue : Blind π State.putDue) (hHls : Blind π State.putHls) (hHq : Blind π State.putHq)
    (hIntPend : Blind π State.putIntPend) (hMsixPba : Blind π State.putMsixPba) (hOut : Blind π State.putOut)
    (hPorts : Blind π State.putPorts) (hRsz : Blind π State.putRsz) (d : Nat) (c : Nat) (us : Nat) (s : State)
    (hk : π s = x) :
    π (changeOutputs d c us s) = x := by
  unfold changeOutputs
  try dsimp only
  repeat' first
    | with_reducible first
      | assumption | apply changeOnce_frame | apply hitlessMove_frame | apply frame_foldl | apply frame_ite
    | split | intro _

theorem execDeckOutputChange_frame (hCw : Blind π State.putCw) (hDecks : Blind π State.putDecks)
    (hDue : Blind π State.putDue) (hHls : Blind π State.putHls) (hHq : Blind π State.putHq)
    (hIntPend : Blind π State.putIntPend) (hMsixPba : Blind π State.putMsixPba) (hOut : Blind π State.putOut)
    (hPorts : Blind π State.putPorts) (hRsz : Blind π State.putRsz) (d : DieId) (c : CarrierRef) (us : Nat)
    (s : State) (hk : π s = x) :
    FrameR π x (execDeckOutputChange d c us s) := by
  unfold execDeckOutputChange
  try dsimp only
  repeat' first
    | with_reducible first
      | assumption | apply changeOutputs_frame | apply frame_foldl | apply frame_ite | apply frameR_next
    | split | intro _

theorem execDeckSwapTimeout_frame (hCw : Blind π State.putCw) (hDecks : Blind π State.putDecks)
    (hDue : Blind π State.putDue) (hHls : Blind π State.putHls) (hHq : Blind π State.putHq)
    (hIntPend : Blind π State.putIntPend) (hMsixPba : Blind π State.putMsixPba) (hOut : Blind π State.putOut)
    (hPorts : Blind π State.putPorts) (hRsz : Blind π State.putRsz) (d : DieId) (s : State) (hk : π s = x) :
    FrameR π x (execDeckSwapTimeout d s) := by
  unfold execDeckSwapTimeout
  try dsimp only
  repeat' first
    | with_reducible first
      | assumption | apply changeOutputs_frame | apply frame_foldl | apply frame_ite | apply frameR_next
    | split | intro _

theorem rszStart_frame (hRsz : Blind π State.putRsz) (k : Nat) (s : State) (hk : π s = x) :
    π (rszStart k s) = x := by
  unfold rszStart
  try dsimp only
  repeat' first
    | with_reducible first
      | assumption | apply rszPut_frame | apply frame_foldl | apply frame_ite
    | split | intro _

theorem rszAbort_frame (hCw : Blind π State.putCw) (hHq : Blind π State.putHq) (hIntPend : Blind π State.putIntPend)
    (hMsixPba : Blind π State.putMsixPba) (hOut : Blind π State.putOut) (hRsz : Blind π State.putRsz) (k : Nat)
    (s : State) (hk : π s = x) :
    π (rszAbort k s) = x := by
  unfold rszAbort
  try dsimp only
  repeat' first
    | with_reducible first
      | assumption | apply rszRecord_frame | apply rszPut_frame | apply frame_foldl | apply frame_ite
    | split | intro _

theorem applyRszCfg_frame (hCw : Blind π State.putCw) (hHq : Blind π State.putHq)
    (hIntPend : Blind π State.putIntPend) (hMsixPba : Blind π State.putMsixPba) (hOut : Blind π State.putOut)
    (hRsz : Blind π State.putRsz) (k : Nat) (v : Word) (s : State) (hk : π s = x) :
    FrameE π x (applyRszCfg k v s) := by
  unfold applyRszCfg
  try dsimp only
  repeat' first
    | with_reducible first
      | assumption | exact frameE_error | apply rszAbort_frame | apply rszPut_frame | apply rszStart_frame
      | apply cwSet_frame | apply frame_foldl | apply frame_ite | apply frameE_ok | apply frameE_ite
    | split | intro _

theorem applyRszRun_frame (hCw : Blind π State.putCw) (k : Nat) (v : Word) (s : State) (hk : π s = x) :
    FrameE π x (applyRszRun k v s) := by
  unfold applyRszRun
  try dsimp only
  repeat' first
    | with_reducible first
      | assumption | exact frameE_error | apply cwSet_frame | apply frame_foldl | apply frame_ite | apply frameE_ok
      | apply frameE_ite
    | split | intro _

theorem rszWrite_frame (hBatchesDone : Blind π State.putBatchesDone) (hCw : Blind π State.putCw)
    (hHq : Blind π State.putHq) (hIntPend : Blind π State.putIntPend) (hMsixPba : Blind π State.putMsixPba)
    (hOut : Blind π State.putOut) (hRsz : Blind π State.putRsz) (d : DieId) (c : Fin 32) (w : CtlWrite) (v : Word)
    (s : State) (hk : π s = x) :
    FrameR π x (rszWrite d c w v s) := by
  unfold rszWrite
  try dsimp only
  repeat' first
    | with_reducible first
      | assumption | exact frameE_error | apply settle_frame | apply applyRszCfg_frame | apply frame_foldl
      | apply frame_ite | apply frameE_ok | apply frameE_ite | apply frameR_next
    | split | intro _

theorem execRszGo_frame (hBatchesDone : Blind π State.putBatchesDone) (hCw : Blind π State.putCw)
    (hHq : Blind π State.putHq) (hIntPend : Blind π State.putIntPend) (hMsixPba : Blind π State.putMsixPba)
    (hOut : Blind π State.putOut) (hRsz : Blind π State.putRsz) (d : DieId) (c : Fin 32) (w : CtlWrite) (s : State)
    (hk : π s = x) :
    FrameR π x (execRszGo d c w s) := by
  unfold execRszGo
  try dsimp only
  repeat' first
    | with_reducible first
      | assumption | apply rszWrite_frame | apply frame_foldl | apply frame_ite | apply frameR_next
    | split | intro _

theorem execRszAbortCmd_frame (hBatchesDone : Blind π State.putBatchesDone) (hCw : Blind π State.putCw)
    (hHq : Blind π State.putHq) (hIntPend : Blind π State.putIntPend) (hMsixPba : Blind π State.putMsixPba)
    (hOut : Blind π State.putOut) (hRsz : Blind π State.putRsz) (d : DieId) (c : Fin 32) (w : CtlWrite) (s : State)
    (hk : π s = x) :
    FrameR π x (execRszAbortCmd d c w s) := by
  unfold execRszAbortCmd
  try dsimp only
  repeat' first
    | with_reducible first
      | assumption | apply rszWrite_frame | apply frame_foldl | apply frame_ite | apply frameR_next
    | split | intro _

theorem execRszCfgDisable_frame (hBatchesDone : Blind π State.putBatchesDone) (hCw : Blind π State.putCw)
    (hHq : Blind π State.putHq) (hIntPend : Blind π State.putIntPend) (hMsixPba : Blind π State.putMsixPba)
    (hOut : Blind π State.putOut) (hRsz : Blind π State.putRsz) (d : DieId) (c : Fin 32) (w : CtlWrite) (s : State)
    (hk : π s = x) :
    FrameR π x (execRszCfgDisable d c w s) := by
  unfold execRszCfgDisable
  try dsimp only
  repeat' first
    | with_reducible first
      | assumption | apply rszWrite_frame | apply frame_foldl | apply frame_ite | apply frameR_next
    | split | intro _

theorem execRszHandshakeAck_frame (hRsz : Blind π State.putRsz) (d : DieId) (c : Fin 32) (s : State) (hk : π s = x) :
    FrameR π x (execRszHandshakeAck d c s) := by
  unfold execRszHandshakeAck
  try dsimp only
  repeat' first
    | with_reducible first
      | assumption | apply rszPut_frame | apply frame_foldl | apply frame_ite | apply frameR_next
    | split | intro _

theorem execRszHandshakeTimeout_frame (hCw : Blind π State.putCw) (hHq : Blind π State.putHq)
    (hIntPend : Blind π State.putIntPend) (hMsixPba : Blind π State.putMsixPba) (hOut : Blind π State.putOut)
    (hRsz : Blind π State.putRsz) (d : DieId) (c : Fin 32) (s : State) (hk : π s = x) :
    FrameR π x (execRszHandshakeTimeout d c s) := by
  unfold execRszHandshakeTimeout
  try dsimp only
  repeat' first
    | with_reducible first
      | assumption | apply rszAbort_frame | apply frame_foldl | apply frame_ite | apply frameR_next
    | split | intro _

theorem execRszRampEnd_frame (hCw : Blind π State.putCw) (hHq : Blind π State.putHq)
    (hIntPend : Blind π State.putIntPend) (hMsixPba : Blind π State.putMsixPba) (hOut : Blind π State.putOut)
    (hRsz : Blind π State.putRsz) (d : DieId) (c : Fin 32) (s : State) (hk : π s = x) :
    FrameR π x (execRszRampEnd d c s) := by
  unfold execRszRampEnd
  try dsimp only
  repeat' first
    | with_reducible first
      | assumption | apply rszDone_frame | apply frame_foldl | apply frame_ite | apply frameR_next
    | split | intro _

theorem rszArmDie_frame (hDecks : Blind π State.putDecks) (hRsz : Blind π State.putRsz) (d : Nat) (s : State)
    (hk : π s = x) :
    π (rszArmDie d s) = x := by
  unfold rszArmDie
  try dsimp only
  repeat' first
    | with_reducible first
      | assumption | apply rszPut_frame | apply armSwap_frame | apply frame_foldl | apply frame_ite
    | split | intro _

theorem rszRetry_frame (hRsz : Blind π State.putRsz) (s : State) (hk : π s = x) :
    π (rszRetry s) = x := by
  unfold rszRetry
  try dsimp only
  repeat' first
    | with_reducible first
      | assumption | apply rszPut_frame | apply frame_foldl | apply frame_ite
    | split | intro _

end Sys2Proof.Machine
end

