-- ==== Sys2Proof/Laws/FrameStarters.lean ====
section
/-! SUPPORT. What the operations of Machine/Starters.lean leave unchanged. -/

set_option linter.unusedTactic false
set_option linter.unreachableTactic false

namespace Sys2Proof.Machine

variable {β : Type} {π : State → β} {x : β}

theorem sampleCtx_frame (hDue : Blind π State.putDue) (hMons : Blind π State.putMons) (id : Nat) (s : State)
    (hk : π s = x) :
    π (sampleCtx id s) = x := by
  unfold sampleCtx
  try dsimp only
  repeat' first
    | with_reducible first
      | assumption | apply monPut_frame | apply dueRecord_frame | apply frame_foldl | apply frame_ite
    | split | intro _

theorem sampleAll_frame (hCells : Blind π State.putCells) (hDue : Blind π State.putDue)
    (hMons : Blind π State.putMons) (hPairs : Blind π State.putPairs) (s : State) (hk : π s = x) :
    π (sampleAll s) = x := by
  unfold sampleAll
  try dsimp only
  repeat' first
    | with_reducible first
      | assumption | apply sampleCtx_frame | apply settleDefs_frame | apply frame_foldl | apply frame_ite
    | split | intro _

theorem restartLanes_frame (hCells : Blind π State.putCells) (hCw : Blind π State.putCw) (hDue : Blind π State.putDue)
    (hFlex : Blind π State.putFlex) (hFramers : Blind π State.putFramers) (hHq : Blind π State.putHq)
    (hIntPend : Blind π State.putIntPend) (hLanes : Blind π State.putLanes) (hMsixPba : Blind π State.putMsixPba)
    (hOut : Blind π State.putOut) (hQuads : Blind π State.putQuads) (hRecClk : Blind π State.putRecClk)
    (hTrackers : Blind π State.putTrackers) (s : State) (hk : π s = x) :
    π (restartLanes s) = x := by
  unfold restartLanes
  try dsimp only
  repeat' first
    | with_reducible first
      | assumption | apply startLane_frame | apply stopLane_frame | apply frame_foldl | apply frame_ite
    | split | intro _

theorem restartStreams_frame (hCells : Blind π State.putCells) (hCw : Blind π State.putCw)
    (hFramers : Blind π State.putFramers) (hIntPend : Blind π State.putIntPend) (hMons : Blind π State.putMons)
    (hMsixPba : Blind π State.putMsixPba) (hOut : Blind π State.putOut) (hPairs : Blind π State.putPairs)
    (hTrackers : Blind π State.putTrackers) (s : State) (hk : π s = x) :
    π (restartStreams s) = x := by
  unfold restartStreams
  try dsimp only
  repeat' first
    | with_reducible first
      | assumption | apply restartStream_frame | apply frame_foldl | apply frame_ite
    | split | intro _

theorem allotPair_frame (hDue : Blind π State.putDue) (hHls : Blind π State.putHls)
    (hPrfRings : Blind π State.putPrfRings) (p : Nat) (s : State) (hk : π s = x) :
    π (allotPair p s) = x := by
  unfold allotPair
  try dsimp only
  repeat' first
    | with_reducible first
      | assumption | apply allocRings_frame | apply hlPut_frame | apply hlRefresh_frame | apply frame_foldl
      | apply frame_ite
    | split | intro _

theorem allotGroup_frame (hGroups : Blind π State.putGroups) (hPrfRings : Blind π State.putPrfRings) (d : Nat)
    (g : Nat) (s : State) (hk : π s = x) :
    π (allotGroup d g s) = x := by
  unfold allotGroup
  try dsimp only
  repeat' first
    | with_reducible first
      | assumption | apply grpPut_frame | apply allocRings_frame | apply frame_foldl | apply frame_ite
    | split | intro _

theorem allotRings_frame (hDue : Blind π State.putDue) (hGroups : Blind π State.putGroups)
    (hHls : Blind π State.putHls) (hPrfRings : Blind π State.putPrfRings) (s : State) (hk : π s = x) :
    π (allotRings s) = x := by
  unfold allotRings
  try dsimp only
  repeat' first
    | with_reducible first
      | assumption | refine (hGroups _ _).trans ?_ | refine (hHls _ _).trans ?_ | refine (hPrfRings _ _).trans ?_
      | apply allotPair_frame | apply allotGroup_frame | apply frame_foldl | apply frame_ite
    | split | intro _

theorem holdPairs_frame (hPairs : Blind π State.putPairs) (s : State) (hk : π s = x) :
    π (holdPairs s) = x := by
  unfold holdPairs
  try dsimp only
  repeat' first
    | with_reducible first
      | assumption | apply prtPut_frame | apply frame_foldl | apply frame_ite
    | split | intro _

theorem resumeRsz_frame (hCw : Blind π State.putCw) (hHq : Blind π State.putHq) (hIntPend : Blind π State.putIntPend)
    (hMsixPba : Blind π State.putMsixPba) (hOut : Blind π State.putOut) (hRsz : Blind π State.putRsz) (st : Starter)
    (k : Nat) (s : State) (hk : π s = x) :
    π (resumeRsz st k s) = x := by
  unfold resumeRsz
  try dsimp only
  repeat' first
    | with_reducible first
      | assumption | apply rszAbort_frame | apply rszPut_frame | apply frame_foldl | apply frame_ite
    | split | intro _

theorem resumeShim_frame (hCw : Blind π State.putCw) (hHq : Blind π State.putHq) (hIntPend : Blind π State.putIntPend)
    (hMsixPba : Blind π State.putMsixPba) (hOut : Blind π State.putOut) (hPorts : Blind π State.putPorts)
    (st : Starter) (u : Nat) (s : State) (hk : π s = x) :
    π (resumeShim st u s) = x := by
  unfold resumeShim
  try dsimp only
  repeat' first
    | with_reducible first
      | assumption | apply record0_frame | apply portPut_frame | apply countPort0_frame | apply frame_foldl
      | apply frame_ite
    | split | intro _

theorem resumeDeck_frame (hDecks : Blind π State.putDecks) (st : Starter) (d : Nat) (s : State) (hk : π s = x) :
    π (resumeDeck st d s) = x := by
  unfold resumeDeck
  try dsimp only
  repeat' first
    | with_reducible first
      | assumption | apply dieDeckPut_frame | apply frame_foldl | apply frame_ite
    | split | intro _

theorem adoptTables_frame (hCtx : Blind π State.putCtx) (hCtxAt : Blind π State.putCtxAt) (hCw : Blind π State.putCw)
    (hDeck : Blind π State.putDeck) (hOh : Blind π State.putOh) (hSels : Blind π State.putSels) (st : Starter)
    (s : State) (hk : π s = x) :
    π (adoptTables st s) = x := by
  unfold adoptTables
  try dsimp only
  repeat' first
    | with_reducible first
      | assumption | refine (hDeck _ _).trans ?_ | refine (hSels _ _).trans ?_ | refine (hOh _ _).trans ?_
      | refine (hCtx _ _).trans ?_ | refine (hCtxAt _ _).trans ?_ | refine (hCw _ _).trans ?_ | apply frame_foldl
      | apply frame_ite
    | split | intro _

theorem adoptStarter_frame (hAudio : Blind π State.putAudio) (hBinD : Blind π State.putBinD)
    (hBinLoad : Blind π State.putBinLoad) (hBinQ : Blind π State.putBinQ)
    (hBinRestored : Blind π State.putBinRestored) (hCells : Blind π State.putCells) (hCq : Blind π State.putCq)
    (hCtx : Blind π State.putCtx) (hCtxAt : Blind π State.putCtxAt) (hCw : Blind π State.putCw)
    (hDeck : Blind π State.putDeck) (hLoaf : Blind π State.putLoaf) (hLoafDue : Blind π State.putLoafDue)
    (hLoafNext : Blind π State.putLoafNext) (hMons : Blind π State.putMons) (hOh : Blind π State.putOh)
    (hPairs : Blind π State.putPairs) (hPorts : Blind π State.putPorts) (hRsz : Blind π State.putRsz)
    (hSels : Blind π State.putSels) (hTrackers : Blind π State.putTrackers) (st : Starter) (s : State) (hk : π s = x) :
    π (adoptStarter st s) = x := by
  unfold adoptStarter
  try dsimp only
  repeat' first
    | with_reducible first
      | assumption | refine (hAudio _ _).trans ?_ | refine (hPairs _ _).trans ?_ | refine (hBinLoad _ _).trans ?_
      | refine (hBinRestored _ _).trans ?_ | refine (hMons _ _).trans ?_ | refine (hLoafDue _ _).trans ?_
      | refine (hCq _ _).trans ?_ | refine (hTrackers _ _).trans ?_ | refine (hBinQ _ _).trans ?_
      | refine (hRsz _ _).trans ?_ | refine (hLoafNext _ _).trans ?_ | refine (hPorts _ _).trans ?_
      | refine (hLoaf _ _).trans ?_ | refine (hCells _ _).trans ?_ | refine (hBinD _ _).trans ?_
      | apply adoptTables_frame | apply frame_foldl | apply frame_ite
    | split | intro _

theorem applyStarter_frame (hAudio : Blind π State.putAudio) (hBinD : Blind π State.putBinD)
    (hBinLoad : Blind π State.putBinLoad) (hBinQ : Blind π State.putBinQ)
    (hBinRestored : Blind π State.putBinRestored) (hCells : Blind π State.putCells) (hCq : Blind π State.putCq)
    (hCtx : Blind π State.putCtx) (hCtxAt : Blind π State.putCtxAt) (hCw : Blind π State.putCw)
    (hDeck : Blind π State.putDeck) (hDecks : Blind π State.putDecks) (hDue : Blind π State.putDue)
    (hFlex : Blind π State.putFlex) (hFramers : Blind π State.putFramers) (hHq : Blind π State.putHq)
    (hIntPend : Blind π State.putIntPend) (hLanes : Blind π State.putLanes) (hLoaf : Blind π State.putLoaf)
    (hLoafDue : Blind π State.putLoafDue) (hLoafNext : Blind π State.putLoafNext) (hMons : Blind π State.putMons)
    (hMsixPba : Blind π State.putMsixPba) (hOh : Blind π State.putOh) (hOut : Blind π State.putOut)
    (hPairs : Blind π State.putPairs) (hPorts : Blind π State.putPorts) (hQuads : Blind π State.putQuads)
    (hRecClk : Blind π State.putRecClk) (hRsz : Blind π State.putRsz) (hSels : Blind π State.putSels)
    (hTrackers : Blind π State.putTrackers) (st : Starter) (s : State) (hk : π s = x) :
    π (applyStarter st s) = x := by
  unfold applyStarter
  try dsimp only
  repeat' first
    | with_reducible first
      | assumption | apply resumeDeck_frame | apply resumeShim_frame | apply resumeRsz_frame | apply sampleAll_frame
      | apply restartStreams_frame | apply portPut_frame | apply adoptStarter_frame | apply cenInc_frame
      | apply restartLanes_frame | apply prtPut_frame | apply frame_foldl | apply frame_ite
    | split | intro _

end Sys2Proof.Machine
end

