-- ==== Sys2Proof/Laws/FrameModes.lean ====
section
/-! SUPPORT. What the operations of Machine/Modes.lean leave unchanged. -/

set_option linter.unusedTactic false
set_option linter.unreachableTactic false

namespace Sys2Proof.Machine

variable {β : Type} {π : State → β} {x : β}

theorem sessPut_frame (hSess : Blind π State.putSess) (q : Nat) (k : Session) (s : State) (hk : π s = x) :
    π (sessPut q k s) = x := by
  unfold sessPut
  try dsimp only
  repeat' first
    | with_reducible first
      | assumption | refine (hSess _ _).trans ?_ | apply frame_foldl | apply frame_ite
    | split | intro _

theorem ringCmdPut_frame (hRings : Blind π State.putRings) (q : Nat) (k : CmdRing) (s : State) (hk : π s = x) :
    π (ringCmdPut q k s) = x := by
  unfold ringCmdPut
  try dsimp only
  repeat' first
    | with_reducible first
      | assumption | refine (hRings _ _).trans ?_ | apply frame_foldl | apply frame_ite
    | split | intro _

theorem stopBatch_frame (hBatch : Blind π State.putBatch) (hEngines : Blind π State.putEngines)
    (hLong : Blind π State.putLong) (hSuspended : Blind π State.putSuspended) (s : State) (hk : π s = x) :
    π (stopBatch s) = x := by
  unfold stopBatch
  try dsimp only
  repeat' first
    | with_reducible first
      | assumption | refine (hSuspended _ _).trans ?_ | refine (hLong _ _).trans ?_ | refine (hBatch _ _).trans ?_
      | apply engPut_frame | apply frame_foldl | apply frame_ite
    | split | intro _

theorem endSession_frame (hBatch : Blind π State.putBatch) (hBatchesDone : Blind π State.putBatchesDone)
    (hEngines : Blind π State.putEngines) (hLong : Blind π State.putLong) (hRings : Blind π State.putRings)
    (hSess : Blind π State.putSess) (hSuspended : Blind π State.putSuspended) (hard : Bool) (q : Nat) (s : State)
    (hk : π s = x) :
    π (endSession hard q s) = x := by
  unfold endSession
  try dsimp only
  repeat' first
    | with_reducible first
      | assumption | refine (hBatchesDone _ _).trans ?_ | apply stopBatch_frame | apply ringCmdPut_frame
      | apply sessPut_frame | apply frame_foldl | apply frame_ite
    | split | intro _

theorem endSessions_frame (hBatch : Blind π State.putBatch) (hBatchesDone : Blind π State.putBatchesDone)
    (hEngines : Blind π State.putEngines) (hLong : Blind π State.putLong) (hRings : Blind π State.putRings)
    (hSess : Blind π State.putSess) (hSuspended : Blind π State.putSuspended) (hard : Bool) (s : State) (hk : π s = x) :
    π (endSessions hard s) = x := by
  unfold endSessions
  try dsimp only
  repeat' first
    | with_reducible first
      | assumption | apply endSession_frame | apply frame_foldl | apply frame_ite
    | split | intro _

theorem clearForces_frame (hOh : Blind π State.putOh) (s : State) (hk : π s = x) :
    π (clearForces s) = x := by
  unfold clearForces
  try dsimp only
  repeat' first
    | with_reducible first
      | assumption | refine (hOh _ _).trans ?_ | apply frame_foldl | apply frame_ite
    | split | intro _

theorem clearTests_frame (hCw : Blind π State.putCw) (hOh : Blind π State.putOh) (s : State) (hk : π s = x) :
    π (clearTests s) = x := by
  unfold clearTests
  try dsimp only
  repeat' first
    | with_reducible first
      | assumption | apply clearDeckTests_frame | apply clearLaneTests_frame | apply clearForces_frame
      | apply frame_foldl | apply frame_ite
    | split | intro _

theorem clearEpisode_frame (hCw : Blind π State.putCw) (s : State) (hk : π s = x) :
    π (clearEpisode s) = x := by
  unfold clearEpisode
  try dsimp only
  repeat' first
    | with_reducible first
      | assumption | apply cwSet_frame | apply frame_foldl | apply frame_ite
    | split | intro _

theorem dropBurst_frame (hCw : Blind π State.putCw) (hDoms : Blind π State.putDoms)
    (hIntPend : Blind π State.putIntPend) (hMsixPba : Blind π State.putMsixPba) (hOut : Blind π State.putOut)
    (hTest : Blind π State.putTest) (aborted : Bool) (s : State) (hk : π s = x) :
    π (dropBurst aborted s) = x := by
  unfold dropBurst
  try dsimp only
  repeat' first
    | with_reducible first
      | assumption | refine (hTest _ _).trans ?_ | apply domPut_frame | apply cenInc_frame | apply frame_foldl
      | apply frame_ite
    | split | intro _

theorem setMode_frame (hD : BlindDomains π) (hDue : Blind π State.putDue) (hHq : Blind π State.putHq)
    (hIntPend : Blind π State.putIntPend) (hMode : Blind π State.putMode) (hModeCause : Blind π State.putModeCause)
    (hMsixPba : Blind π State.putMsixPba) (hOut : Blind π State.putOut) (hTest : Blind π State.putTest) (new : Mode)
    (cause : Nat) (s : State) (hk : π s = x) :
    π (setMode new cause s) = x := by
  obtain ⟨hAudio, hCells, hCellsT0, hChkMax, hCq, hCtx, hCtxAt, hCw, hDeck, hDecks, hDoms, hEngines, hFlex, hFramers,
    hGroups, hHls, hLanes, hMons, hOh, hOhT0, hPairs, hPorts, hPrfRings, hQuads, hRefClk, hRsz, hSels, hTrackers,
    hWords⟩ := id hD
  unfold setMode
  try dsimp only
  repeat' first
    | with_reducible first
      | assumption | refine (hMode _ _).trans ?_ | refine (hTest _ _).trans ?_ | refine (hModeCause _ _).trans ?_
      | apply clearTests_frame | apply recheckReqs_frame | apply dropBurst_frame | apply retarget_frame
      | apply clearEpisode_frame | apply cenInc_frame | apply record_frame | apply dueRecord_frame
      | apply intSet_frame | apply frame_foldl | apply frame_ite
    | split | intro _

theorem leaveHolding_frame (hDue : Blind π State.putDue) (hRdn : Blind π State.putRdn) (detail : Nat) (s : State)
    (hk : π s = x) :
    π (leaveHolding detail s) = x := by
  unfold leaveHolding
  try dsimp only
  repeat' first
    | with_reducible first
      | assumption | refine (hRdn _ _).trans ?_ | apply mateEvt_frame | apply frame_foldl | apply frame_ite
    | split | intro _

theorem releaseIlk_frame (hDue : Blind π State.putDue) (hIlk : Blind π State.putIlk) (hRdn : Blind π State.putRdn)
    (detail : Nat) (s : State) (hk : π s = x) :
    π (releaseIlk detail s) = x := by
  unfold releaseIlk
  try dsimp only
  repeat' first
    | with_reducible first
      | assumption | refine (hIlk _ _).trans ?_ | apply leaveHolding_frame | apply frame_foldl | apply frame_ite
    | split | intro _

theorem holdIlk_frame (hD : BlindDomains π) (hDue : Blind π State.putDue) (hHq : Blind π State.putHq)
    (hIlk : Blind π State.putIlk) (hIntPend : Blind π State.putIntPend) (hMode : Blind π State.putMode)
    (hModeCause : Blind π State.putModeCause) (hMsixPba : Blind π State.putMsixPba) (hOut : Blind π State.putOut)
    (hRdn : Blind π State.putRdn) (hTest : Blind π State.putTest) (s : State) (hk : π s = x) :
    π (holdIlk s) = x := by
  obtain ⟨hAudio, hCells, hCellsT0, hChkMax, hCq, hCtx, hCtxAt, hCw, hDeck, hDecks, hDoms, hEngines, hFlex, hFramers,
    hGroups, hHls, hLanes, hMons, hOh, hOhT0, hPairs, hPorts, hPrfRings, hQuads, hRefClk, hRsz, hSels, hTrackers,
    hWords⟩ := id hD
  unfold holdIlk
  try dsimp only
  repeat' first
    | with_reducible first
      | assumption | refine (hIlk _ _).trans ?_ | refine (hRdn _ _).trans ?_ | apply mateEvt_frame
      | apply setMode_frame | apply cenInc_frame | apply frame_foldl | apply frame_ite
    | split | intro _

theorem acceptGrant_frame (hD : BlindDomains π) (hDue : Blind π State.putDue) (hHq : Blind π State.putHq)
    (hIlk : Blind π State.putIlk) (hIntPend : Blind π State.putIntPend) (hMode : Blind π State.putMode)
    (hModeCause : Blind π State.putModeCause) (hMsixPba : Blind π State.putMsixPba) (hOut : Blind π State.putOut)
    (hRdn : Blind π State.putRdn) (hTest : Blind π State.putTest) (s : State) (hk : π s = x) :
    π (acceptGrant s) = x := by
  obtain ⟨hAudio, hCells, hCellsT0, hChkMax, hCq, hCtx, hCtxAt, hCw, hDeck, hDecks, hDoms, hEngines, hFlex, hFramers,
    hGroups, hHls, hLanes, hMons, hOh, hOhT0, hPairs, hPorts, hPrfRings, hQuads, hRefClk, hRsz, hSels, hTrackers,
    hWords⟩ := id hD
  unfold acceptGrant
  try dsimp only
  repeat' first
    | with_reducible first
      | assumption | refine (hIlk _ _).trans ?_ | apply holdIlk_frame | apply frame_foldl | apply frame_ite
    | split | intro _

theorem enterMode_frame (hD : BlindDomains π) (hDue : Blind π State.putDue) (hHq : Blind π State.putHq)
    (hIlk : Blind π State.putIlk) (hIntPend : Blind π State.putIntPend) (hLink : Blind π State.putLink)
    (hMode : Blind π State.putMode) (hModeCause : Blind π State.putModeCause) (hMsixPba : Blind π State.putMsixPba)
    (hOut : Blind π State.putOut) (hRdn : Blind π State.putRdn) (hTest : Blind π State.putTest) (new : Mode)
    (cause : Nat) (s : State) (hk : π s = x) :
    π (enterMode new cause s) = x := by
  obtain ⟨hAudio, hCells, hCellsT0, hChkMax, hCq, hCtx, hCtxAt, hCw, hDeck, hDecks, hDoms, hEngines, hFlex, hFramers,
    hGroups, hHls, hLanes, hMons, hOh, hOhT0, hPairs, hPorts, hPrfRings, hQuads, hRefClk, hRsz, hSels, hTrackers,
    hWords⟩ := id hD
  unfold enterMode
  try dsimp only
  repeat' first
    | with_reducible first
      | assumption | apply resync_frame | apply acceptGrant_frame | apply releaseIlk_frame | apply setMode_frame
      | apply frame_foldl | apply frame_ite
    | split | intro _

theorem quarantine_frame (hD : BlindDomains π) (hBank : Blind π State.putBank) (hBatch : Blind π State.putBatch)
    (hBatchesDone : Blind π State.putBatchesDone) (hDue : Blind π State.putDue) (hHq : Blind π State.putHq)
    (hIlk : Blind π State.putIlk) (hIntPend : Blind π State.putIntPend) (hLink : Blind π State.putLink)
    (hLong : Blind π State.putLong) (hMode : Blind π State.putMode) (hModeCause : Blind π State.putModeCause)
    (hMsixPba : Blind π State.putMsixPba) (hOut : Blind π State.putOut) (hRdn : Blind π State.putRdn)
    (hRings : Blind π State.putRings) (hSec : Blind π State.putSec) (hSess : Blind π State.putSess)
    (hSpare : Blind π State.putSpare) (hSuspended : Blind π State.putSuspended) (hTest : Blind π State.putTest)
    (qcause : Nat) (cause : Nat) (trip : Bool) (s : State) (hk : π s = x) :
    π (quarantine qcause cause trip s) = x := by
  obtain ⟨hAudio, hCells, hCellsT0, hChkMax, hCq, hCtx, hCtxAt, hCw, hDeck, hDecks, hDoms, hEngines, hFlex, hFramers,
    hGroups, hHls, hLanes, hMons, hOh, hOhT0, hPairs, hPorts, hPrfRings, hQuads, hRefClk, hRsz, hSels, hTrackers,
    hWords⟩ := id hD
  unfold quarantine
  try dsimp only
  repeat' first
    | with_reducible first
      | assumption | refine (hSec _ _).trans ?_ | refine (hBank _ _).trans ?_ | refine (hSpare _ _).trans ?_
      | apply releaseIlk_frame | apply linkLeave_frame | apply setMode_frame | apply endSessions_frame
      | apply frame_foldl | apply frame_ite
    | split | intro _

theorem execGrantInChange_frame (hD : BlindDomains π) (hDue : Blind π State.putDue) (hHq : Blind π State.putHq)
    (hIlk : Blind π State.putIlk) (hIntPend : Blind π State.putIntPend) (hMode : Blind π State.putMode)
    (hModeCause : Blind π State.putModeCause) (hMsixPba : Blind π State.putMsixPba) (hOut : Blind π State.putOut)
    (hRdn : Blind π State.putRdn) (hTest : Blind π State.putTest) (level : Bool) (s : State) (hk : π s = x) :
    FrameR π x (execGrantInChange level s) := by
  obtain ⟨hAudio, hCells, hCellsT0, hChkMax, hCq, hCtx, hCtxAt, hCw, hDeck, hDecks, hDoms, hEngines, hFlex, hFramers,
    hGroups, hHls, hLanes, hMons, hOh, hOhT0, hPairs, hPorts, hPrfRings, hQuads, hRefClk, hRsz, hSels, hTrackers,
    hWords⟩ := id hD
  unfold execGrantInChange
  try dsimp only
  repeat' first
    | with_reducible first
      | assumption | refine (hRdn _ _).trans ?_ | apply acceptGrant_frame | apply releaseIlk_frame
      | apply cenInc_frame | apply frame_foldl | apply frame_ite | apply frameR_next
    | split | intro _

theorem execGrantPulseReject_frame (hCw : Blind π State.putCw) (hIntPend : Blind π State.putIntPend)
    (hMsixPba : Blind π State.putMsixPba) (hOut : Blind π State.putOut) (s : State) (hk : π s = x) :
    FrameR π x (execGrantPulseReject s) := by
  unfold execGrantPulseReject
  try dsimp only
  repeat' first
    | with_reducible first
      | assumption | apply cenInc_frame | apply frame_foldl | apply frame_ite | apply frameR_next
    | split | intro _

theorem giveWay_frame (hDue : Blind π State.putDue) (hIlk : Blind π State.putIlk) (hRdn : Blind π State.putRdn)
    (s : State) (hk : π s = x) :
    π (giveWay s) = x := by
  unfold giveWay
  try dsimp only
  repeat' first
    | with_reducible first
      | assumption | refine (hIlk _ _).trans ?_ | apply leaveHolding_frame | apply frame_foldl | apply frame_ite
    | split | intro _

theorem execIlkInChange_frame (hDue : Blind π State.putDue) (hIlk : Blind π State.putIlk)
    (hRdn : Blind π State.putRdn) (asserted : Bool) (s : State) (hk : π s = x) :
    FrameR π x (execIlkInChange asserted s) := by
  unfold execIlkInChange
  try dsimp only
  repeat' first
    | with_reducible first
      | assumption | refine (hRdn _ _).trans ?_ | apply giveWay_frame | apply frame_foldl | apply frame_ite
      | apply frameR_next
    | split | intro _

theorem execIlkResample_frame (hD : BlindDomains π) (hDue : Blind π State.putDue) (hHq : Blind π State.putHq)
    (hIlk : Blind π State.putIlk) (hIntPend : Blind π State.putIntPend) (hMode : Blind π State.putMode)
    (hModeCause : Blind π State.putModeCause) (hMsixPba : Blind π State.putMsixPba) (hOut : Blind π State.putOut)
    (hRdn : Blind π State.putRdn) (hTest : Blind π State.putTest) (s : State) (hk : π s = x) :
    FrameR π x (execIlkResample s) := by
  obtain ⟨hAudio, hCells, hCellsT0, hChkMax, hCq, hCtx, hCtxAt, hCw, hDeck, hDecks, hDoms, hEngines, hFlex, hFramers,
    hGroups, hHls, hLanes, hMons, hOh, hOhT0, hPairs, hPorts, hPrfRings, hQuads, hRefClk, hRsz, hSels, hTrackers,
    hWords⟩ := id hD
  unfold execIlkResample
  try dsimp only
  repeat' first
    | with_reducible first
      | assumption | refine (hIlk _ _).trans ?_ | apply cenInc_frame | apply holdIlk_frame | apply frame_foldl
      | apply frame_ite | apply frameR_next
    | split | intro _

theorem execIlkBlockedRetry_frame (hIlk : Blind π State.putIlk) (s : State) (hk : π s = x) :
    FrameR π x (execIlkBlockedRetry s) := by
  unfold execIlkBlockedRetry
  try dsimp only
  repeat' first
    | with_reducible first
      | assumption | refine (hIlk _ _).trans ?_ | apply frame_foldl | apply frame_ite | apply frameR_next
    | split | intro _

theorem execRoleConflictDeclare_frame (hCw : Blind π State.putCw) (hDue : Blind π State.putDue)
    (hIntPend : Blind π State.putIntPend) (hMsixPba : Blind π State.putMsixPba) (hOut : Blind π State.putOut)
    (hRdn : Blind π State.putRdn) (mismatch : Bool) (s : State) (hk : π s = x) :
    FrameR π x (execRoleConflictDeclare mismatch s) := by
  unfold execRoleConflictDeclare
  try dsimp only
  repeat' first
    | with_reducible first
      | assumption | refine (hRdn _ _).trans ?_ | apply mateEvt_frame | apply cenInc_frame | apply intSet_frame
      | apply frame_foldl | apply frame_ite | apply frameR_next
    | split | intro _

theorem execRoleConflictClear_frame (hDue : Blind π State.putDue) (hRdn : Blind π State.putRdn) (s : State)
    (hk : π s = x) :
    FrameR π x (execRoleConflictClear s) := by
  unfold execRoleConflictClear
  try dsimp only
  repeat' first
    | with_reducible first
      | assumption | refine (hRdn _ _).trans ?_ | apply mateEvt_frame | apply frame_foldl | apply frame_ite
      | apply frameR_next
    | split | intro _

theorem execStarterApply_frame (hAudio : Blind π State.putAudio) (hBinD : Blind π State.putBinD)
    (hBinLoad : Blind π State.putBinLoad) (hBinQ : Blind π State.putBinQ)
    (hBinRestored : Blind π State.putBinRestored) (hCells : Blind π State.putCells) (hCq : Blind π State.putCq)
    (hCtx : Blind π State.putCtx) (hCtxAt : Blind π State.putCtxAt) (hCw : Blind π State.putCw)
    (hDeck : Blind π State.putDeck) (hDecks : Blind π State.putDecks) (hDue : Blind π State.putDue)
    (hFlex : Blind π State.putFlex) (hFramers : Blind π State.putFramers) (hGroups : Blind π State.putGroups)
    (hHls : Blind π State.putHls) (hHq : Blind π State.putHq) (hIntPend : Blind π State.putIntPend)
    (hLanes : Blind π State.putLanes) (hLoaf : Blind π State.putLoaf) (hLoafDue : Blind π State.putLoafDue)
    (hLoafNext : Blind π State.putLoafNext) (hMons : Blind π State.putMons) (hMsixPba : Blind π State.putMsixPba)
    (hOh : Blind π State.putOh) (hOut : Blind π State.putOut) (hPairs : Blind π State.putPairs)
    (hPorts : Blind π State.putPorts) (hPrfRings : Blind π State.putPrfRings) (hQuads : Blind π State.putQuads)
    (hRdn : Blind π State.putRdn) (hRecClk : Blind π State.putRecClk) (hRsz : Blind π State.putRsz)
    (hSels : Blind π State.putSels) (hTrackers : Blind π State.putTrackers) (s : State) (hk : π s = x) :
    FrameR π x (execStarterApply s) := by
  unfold execStarterApply
  try dsimp only
  repeat' first
    | with_reducible first
      | assumption | refine (hRdn _ _).trans ?_ | apply applyStarter_frame | apply allotRings_frame
      | apply holdPairs_frame | apply frame_foldl | apply frame_ite | apply frameR_next
    | split | intro _

theorem execTakeoverActive_frame (hD : BlindDomains π) (hDue : Blind π State.putDue) (hHq : Blind π State.putHq)
    (hIntPend : Blind π State.putIntPend) (hMode : Blind π State.putMode) (hModeCause : Blind π State.putModeCause)
    (hMsixPba : Blind π State.putMsixPba) (hOut : Blind π State.putOut) (hRdn : Blind π State.putRdn)
    (hTest : Blind π State.putTest) (timeout : Bool) (s : State) (hk : π s = x) :
    FrameR π x (execTakeoverActive timeout s) := by
  obtain ⟨hAudio, hCells, hCellsT0, hChkMax, hCq, hCtx, hCtxAt, hCw, hDeck, hDecks, hDoms, hEngines, hFlex, hFramers,
    hGroups, hHls, hLanes, hMons, hOh, hOhT0, hPairs, hPorts, hPrfRings, hQuads, hRefClk, hRsz, hSels, hTrackers,
    hWords⟩ := id hD
  unfold execTakeoverActive
  try dsimp only
  repeat' first
    | with_reducible first
      | assumption | refine (hRdn _ _).trans ?_ | apply mateEvt_frame | apply setMode_frame | apply intSet_frame
      | apply frame_foldl | apply frame_ite | apply frameR_next
    | split | intro _

theorem execReleaseToStandby_frame (hD : BlindDomains π) (hDue : Blind π State.putDue) (hHq : Blind π State.putHq)
    (hIlk : Blind π State.putIlk) (hIntPend : Blind π State.putIntPend) (hLink : Blind π State.putLink)
    (hMode : Blind π State.putMode) (hModeCause : Blind π State.putModeCause) (hMsixPba : Blind π State.putMsixPba)
    (hOut : Blind π State.putOut) (hRdn : Blind π State.putRdn) (hTest : Blind π State.putTest) (s : State)
    (hk : π s = x) :
    FrameR π x (execReleaseToStandby s) := by
  obtain ⟨hAudio, hCells, hCellsT0, hChkMax, hCq, hCtx, hCtxAt, hCw, hDeck, hDecks, hDoms, hEngines, hFlex, hFramers,
    hGroups, hHls, hLanes, hMons, hOh, hOhT0, hPairs, hPorts, hPrfRings, hQuads, hRefClk, hRsz, hSels, hTrackers,
    hWords⟩ := id hD
  unfold execReleaseToStandby
  try dsimp only
  repeat' first
    | with_reducible first
      | assumption | refine (hRdn _ _).trans ?_ | apply enterMode_frame | apply frame_foldl | apply frame_ite
      | apply frameR_next
    | split | intro _

theorem enterDormant_frame (hD : BlindDomains π) (hBatch : Blind π State.putBatch)
    (hBatchesDone : Blind π State.putBatchesDone) (hDue : Blind π State.putDue) (hHq : Blind π State.putHq)
    (hIlk : Blind π State.putIlk) (hIntPend : Blind π State.putIntPend) (hLink : Blind π State.putLink)
    (hLong : Blind π State.putLong) (hMsixPba : Blind π State.putMsixPba) (hOut : Blind π State.putOut)
    (hPhase : Blind π State.putPhase) (hRdn : Blind π State.putRdn) (hRings : Blind π State.putRings)
    (hSess : Blind π State.putSess) (hSuspended : Blind π State.putSuspended) (s : State) (hk : π s = x) :
    π (enterDormant s) = x := by
  obtain ⟨hAudio, hCells, hCellsT0, hChkMax, hCq, hCtx, hCtxAt, hCw, hDeck, hDecks, hDoms, hEngines, hFlex, hFramers,
    hGroups, hHls, hLanes, hMons, hOh, hOhT0, hPairs, hPorts, hPrfRings, hQuads, hRefClk, hRsz, hSels, hTrackers,
    hWords⟩ := id hD
  unfold enterDormant
  try dsimp only
  repeat' first
    | with_reducible first
      | assumption | refine (hPhase _ _).trans ?_ | apply moveDomain_frame | apply releaseIlk_frame
      | apply linkLeave_frame | apply endSessions_frame | apply record_frame | apply frame_foldl | apply frame_ite
    | split | intro _

theorem applyPkgCtrl_frame (hD : BlindDomains π) (hBatch : Blind π State.putBatch)
    (hBatchesDone : Blind π State.putBatchesDone) (hDue : Blind π State.putDue) (hHq : Blind π State.putHq)
    (hIlk : Blind π State.putIlk) (hIntPend : Blind π State.putIntPend) (hLink : Blind π State.putLink)
    (hLong : Blind π State.putLong) (hMode : Blind π State.putMode) (hModeCause : Blind π State.putModeCause)
    (hMsixPba : Blind π State.putMsixPba) (hOut : Blind π State.putOut) (hPhase : Blind π State.putPhase)
    (hRdn : Blind π State.putRdn) (hResetDue : Blind π State.putResetDue) (hRings : Blind π State.putRings)
    (hSess : Blind π State.putSess) (hSuspended : Blind π State.putSuspended) (hTest : Blind π State.putTest)
    (v : Word) (s : State) (hk : π s = x) :
    FrameE π x (applyPkgCtrl v s) := by
  obtain ⟨hAudio, hCells, hCellsT0, hChkMax, hCq, hCtx, hCtxAt, hCw, hDeck, hDecks, hDoms, hEngines, hFlex, hFramers,
    hGroups, hHls, hLanes, hMons, hOh, hOhT0, hPairs, hPorts, hPrfRings, hQuads, hRefClk, hRsz, hSels, hTrackers,
    hWords⟩ := id hD
  unfold applyPkgCtrl
  try dsimp only
  repeat' first
    | with_reducible first
      | assumption | exact frameE_error | refine (hResetDue _ _).trans ?_ | apply enterDormant_frame
      | apply enterMode_frame | apply retarget_frame | apply cwSet_frame | apply frame_foldl | apply frame_ite
      | apply frameE_ok | apply frameE_ite
    | split | intro _

theorem pkgWrite_frame (hD : BlindDomains π) (hBatch : Blind π State.putBatch)
    (hBatchesDone : Blind π State.putBatchesDone) (hDue : Blind π State.putDue) (hHq : Blind π State.putHq)
    (hIlk : Blind π State.putIlk) (hIntPend : Blind π State.putIntPend) (hLink : Blind π State.putLink)
    (hLong : Blind π State.putLong) (hMode : Blind π State.putMode) (hModeCause : Blind π State.putModeCause)
    (hMsixPba : Blind π State.putMsixPba) (hOut : Blind π State.putOut) (hPhase : Blind π State.putPhase)
    (hRdn : Blind π State.putRdn) (hResetDue : Blind π State.putResetDue) (hRings : Blind π State.putRings)
    (hSess : Blind π State.putSess) (hSuspended : Blind π State.putSuspended) (hTest : Blind π State.putTest)
    (w : CtlWrite) (v : Word) (s : State) (hk : π s = x) :
    FrameR π x (pkgWrite w v s) := by
  obtain ⟨hAudio, hCells, hCellsT0, hChkMax, hCq, hCtx, hCtxAt, hCw, hDeck, hDecks, hDoms, hEngines, hFlex, hFramers,
    hGroups, hHls, hLanes, hMons, hOh, hOhT0, hPairs, hPorts, hPrfRings, hQuads, hRefClk, hRsz, hSels, hTrackers,
    hWords⟩ := id hD
  unfold pkgWrite
  try dsimp only
  repeat' first
    | with_reducible first
      | assumption | exact frameE_error | apply applyPkgCtrl_frame | apply settle_frame | apply frame_foldl
      | apply frame_ite | apply frameE_ok | apply frameE_ite | apply frameR_next
    | split | intro _

theorem execModeReqProvision_frame (hD : BlindDomains π) (hBatch : Blind π State.putBatch)
    (hBatchesDone : Blind π State.putBatchesDone) (hDue : Blind π State.putDue) (hHq : Blind π State.putHq)
    (hIlk : Blind π State.putIlk) (hIntPend : Blind π State.putIntPend) (hLink : Blind π State.putLink)
    (hLong : Blind π State.putLong) (hMode : Blind π State.putMode) (hModeCause : Blind π State.putModeCause)
    (hMsixPba : Blind π State.putMsixPba) (hOut : Blind π State.putOut) (hPhase : Blind π State.putPhase)
    (hRdn : Blind π State.putRdn) (hResetDue : Blind π State.putResetDue) (hRings : Blind π State.putRings)
    (hSess : Blind π State.putSess) (hSuspended : Blind π State.putSuspended) (hTest : Blind π State.putTest)
    (w : CtlWrite) (s : State) (hk : π s = x) :
    FrameR π x (execModeReqProvision w s) := by
  obtain ⟨hAudio, hCells, hCellsT0, hChkMax, hCq, hCtx, hCtxAt, hCw, hDeck, hDecks, hDoms, hEngines, hFlex, hFramers,
    hGroups, hHls, hLanes, hMons, hOh, hOhT0, hPairs, hPorts, hPrfRings, hQuads, hRefClk, hRsz, hSels, hTrackers,
    hWords⟩ := id hD
  unfold execModeReqProvision
  try dsimp only
  repeat' first
    | with_reducible first
      | assumption | apply pkgWrite_frame | apply frame_foldl | apply frame_ite | apply frameR_next
    | split | intro _

theorem execModeReqStandby_frame (hD : BlindDomains π) (hBatch : Blind π State.putBatch)
    (hBatchesDone : Blind π State.putBatchesDone) (hDue : Blind π State.putDue) (hHq : Blind π State.putHq)
    (hIlk : Blind π State.putIlk) (hIntPend : Blind π State.putIntPend) (hLink : Blind π State.putLink)
    (hLong : Blind π State.putLong) (hMode : Blind π State.putMode) (hModeCause : Blind π State.putModeCause)
    (hMsixPba : Blind π State.putMsixPba) (hOut : Blind π State.putOut) (hPhase : Blind π State.putPhase)
    (hRdn : Blind π State.putRdn) (hResetDue : Blind π State.putResetDue) (hRings : Blind π State.putRings)
    (hSess : Blind π State.putSess) (hSuspended : Blind π State.putSuspended) (hTest : Blind π State.putTest)
    (w : CtlWrite) (s : State) (hk : π s = x) :
    FrameR π x (execModeReqStandby w s) := by
  obtain ⟨hAudio, hCells, hCellsT0, hChkMax, hCq, hCtx, hCtxAt, hCw, hDeck, hDecks, hDoms, hEngines, hFlex, hFramers,
    hGroups, hHls, hLanes, hMons, hOh, hOhT0, hPairs, hPorts, hPrfRings, hQuads, hRefClk, hRsz, hSels, hTrackers,
    hWords⟩ := id hD
  unfold execModeReqStandby
  try dsimp only
  repeat' first
    | with_reducible first
      | assumption | apply pkgWrite_frame | apply frame_foldl | apply frame_ite | apply frameR_next
    | split | intro _

theorem execModeReqTest_frame (hD : BlindDomains π) (hBatch : Blind π State.putBatch)
    (hBatchesDone : Blind π State.putBatchesDone) (hDue : Blind π State.putDue) (hHq : Blind π State.putHq)
    (hIlk : Blind π State.putIlk) (hIntPend : Blind π State.putIntPend) (hLink : Blind π State.putLink)
    (hLong : Blind π State.putLong) (hMode : Blind π State.putMode) (hModeCause : Blind π State.putModeCause)
    (hMsixPba : Blind π State.putMsixPba) (hOut : Blind π State.putOut) (hPhase : Blind π State.putPhase)
    (hRdn : Blind π State.putRdn) (hResetDue : Blind π State.putResetDue) (hRings : Blind π State.putRings)
    (hSess : Blind π State.putSess) (hSuspended : Blind π State.putSuspended) (hTest : Blind π State.putTest)
    (w : CtlWrite) (s : State) (hk : π s = x) :
    FrameR π x (execModeReqTest w s) := by
  obtain ⟨hAudio, hCells, hCellsT0, hChkMax, hCq, hCtx, hCtxAt, hCw, hDeck, hDecks, hDoms, hEngines, hFlex, hFramers,
    hGroups, hHls, hLanes, hMons, hOh, hOhT0, hPairs, hPorts, hPrfRings, hQuads, hRefClk, hRsz, hSels, hTrackers,
    hWords⟩ := id hD
  unfold execModeReqTest
  try dsimp only
  repeat' first
    | with_reducible first
      | assumption | apply pkgWrite_frame | apply frame_foldl | apply frame_ite | apply frameR_next
    | split | intro _

theorem execPkgResetReq_frame (hD : BlindDomains π) (hBatch : Blind π State.putBatch)
    (hBatchesDone : Blind π State.putBatchesDone) (hDue : Blind π State.putDue) (hHq : Blind π State.putHq)
    (hIlk : Blind π State.putIlk) (hIntPend : Blind π State.putIntPend) (hLink : Blind π State.putLink)
    (hLong : Blind π State.putLong) (hMode : Blind π State.putMode) (hModeCause : Blind π State.putModeCause)
    (hMsixPba : Blind π State.putMsixPba) (hOut : Blind π State.putOut) (hPhase : Blind π State.putPhase)
    (hRdn : Blind π State.putRdn) (hResetDue : Blind π State.putResetDue) (hRings : Blind π State.putRings)
    (hSess : Blind π State.putSess) (hSuspended : Blind π State.putSuspended) (hTest : Blind π State.putTest)
    (w : CtlWrite) (s : State) (hk : π s = x) :
    FrameR π x (execPkgResetReq w s) := by
  obtain ⟨hAudio, hCells, hCellsT0, hChkMax, hCq, hCtx, hCtxAt, hCw, hDeck, hDecks, hDoms, hEngines, hFlex, hFramers,
    hGroups, hHls, hLanes, hMons, hOh, hOhT0, hPairs, hPorts, hPrfRings, hQuads, hRefClk, hRsz, hSels, hTrackers,
    hWords⟩ := id hD
  unfold execPkgResetReq
  try dsimp only
  repeat' first
    | with_reducible first
      | assumption | apply pkgWrite_frame | apply frame_foldl | apply frame_ite | apply frameR_next
    | split | intro _

theorem execDormantEntry_frame (hD : BlindDomains π) (hBatch : Blind π State.putBatch)
    (hBatchesDone : Blind π State.putBatchesDone) (hDue : Blind π State.putDue) (hHq : Blind π State.putHq)
    (hIlk : Blind π State.putIlk) (hIntPend : Blind π State.putIntPend) (hLink : Blind π State.putLink)
    (hLong : Blind π State.putLong) (hMode : Blind π State.putMode) (hModeCause : Blind π State.putModeCause)
    (hMsixPba : Blind π State.putMsixPba) (hOut : Blind π State.putOut) (hPhase : Blind π State.putPhase)
    (hRdn : Blind π State.putRdn) (hResetDue : Blind π State.putResetDue) (hRings : Blind π State.putRings)
    (hSess : Blind π State.putSess) (hSuspended : Blind π State.putSuspended) (hTest : Blind π State.putTest)
    (w : CtlWrite) (s : State) (hk : π s = x) :
    FrameR π x (execDormantEntry w s) := by
  obtain ⟨hAudio, hCells, hCellsT0, hChkMax, hCq, hCtx, hCtxAt, hCw, hDeck, hDecks, hDoms, hEngines, hFlex, hFramers,
    hGroups, hHls, hLanes, hMons, hOh, hOhT0, hPairs, hPorts, hPrfRings, hQuads, hRefClk, hRsz, hSels, hTrackers,
    hWords⟩ := id hD
  unfold execDormantEntry
  try dsimp only
  repeat' first
    | with_reducible first
      | assumption | apply pkgWrite_frame | apply frame_foldl | apply frame_ite | apply frameR_next
    | split | intro _

theorem vloopPut_frame (hVloops : Blind π State.putVloops) (r : Nat) (k : Vloop) (s : State) (hk : π s = x) :
    π (vloopPut r k s) = x := by
  unfold vloopPut
  try dsimp only
  repeat' first
    | with_reducible first
      | assumption | refine (hVloops _ _).trans ?_ | apply frame_foldl | apply frame_ite
    | split | intro _

theorem vloopOver_frame (hCw : Blind π State.putCw) (hDue : Blind π State.putDue)
    (hIntPend : Blind π State.putIntPend) (hMsixPba : Blind π State.putMsixPba) (hOut : Blind π State.putOut)
    (hVloops : Blind π State.putVloops) (r : Nat) (s : State) (hk : π s = x) :
    π (vloopOver r s) = x := by
  unfold vloopOver
  try dsimp only
  repeat' first
    | with_reducible first
      | assumption | apply cenInc_frame | apply dueRecord_frame | apply vloopPut_frame | apply frame_foldl
      | apply frame_ite
    | split | intro _

theorem applyVloop_frame (hCw : Blind π State.putCw) (hDue : Blind π State.putDue)
    (hIntPend : Blind π State.putIntPend) (hMsixPba : Blind π State.putMsixPba) (hOut : Blind π State.putOut)
    (hVloops : Blind π State.putVloops) (r : Nat) (v : Word) (s : State) (hk : π s = x) :
    FrameE π x (applyVloop r v s) := by
  unfold applyVloop
  try dsimp only
  repeat' first
    | with_reducible first
      | assumption | exact frameE_error | apply vloopOver_frame | apply cwSet_frame | apply frame_foldl
      | apply frame_ite | apply frameE_ok | apply frameE_ite
    | split | intro _

theorem execVloopCtrl_frame (hBatchesDone : Blind π State.putBatchesDone) (hCw : Blind π State.putCw)
    (hDue : Blind π State.putDue) (hHq : Blind π State.putHq) (hIntPend : Blind π State.putIntPend)
    (hMsixPba : Blind π State.putMsixPba) (hOut : Blind π State.putOut) (hVloops : Blind π State.putVloops)
    (r : RegionId) (w : CtlWrite) (s : State) (hk : π s = x) :
    FrameR π x (execVloopCtrl r w s) := by
  unfold execVloopCtrl
  try dsimp only
  repeat' first
    | with_reducible first
      | assumption | exact frameE_error | apply settle_frame | apply applyVloop_frame | apply frame_foldl
      | apply frame_ite | apply frameE_ok | apply frameE_ite | apply frameR_next
    | split | intro _

theorem execVloopStep_frame (hCw : Blind π State.putCw) (hDue : Blind π State.putDue)
    (hIntPend : Blind π State.putIntPend) (hMsixPba : Blind π State.putMsixPba) (hOut : Blind π State.putOut)
    (hVloops : Blind π State.putVloops) (r : RegionId) (pass : Fin 1004) (aging : Fin 256) (s : State) (hk : π s = x) :
    FrameR π x (execVloopStep r pass aging s) := by
  unfold execVloopStep
  try dsimp only
  repeat' first
    | with_reducible first
      | assumption | apply vloopOver_frame | apply vloopPut_frame | apply frame_foldl | apply frame_ite
      | apply frameR_next
    | split | intro _

theorem execPlaceCtrl_frame (hBatchesDone : Blind π State.putBatchesDone) (hCw : Blind π State.putCw)
    (hHq : Blind π State.putHq) (hIntPend : Blind π State.putIntPend) (hMsixPba : Blind π State.putMsixPba)
    (hOut : Blind π State.putOut) (w : CtlWrite) (s : State) (hk : π s = x) :
    FrameR π x (execPlaceCtrl w s) := by
  unfold execPlaceCtrl
  try dsimp only
  repeat' first
    | with_reducible first
      | assumption | exact frameE_error | apply settle_frame | apply cwSet_frame | apply frame_foldl | apply frame_ite
      | apply frameE_ok | apply frameE_ite | apply frameR_next
    | split | intro _

theorem execCpmFailQuarantine_frame (hD : BlindDomains π) (hBank : Blind π State.putBank)
    (hBatch : Blind π State.putBatch) (hBatchesDone : Blind π State.putBatchesDone) (hDue : Blind π State.putDue)
    (hHq : Blind π State.putHq) (hIlk : Blind π State.putIlk) (hIntPend : Blind π State.putIntPend)
    (hLink : Blind π State.putLink) (hLong : Blind π State.putLong) (hMode : Blind π State.putMode)
    (hModeCause : Blind π State.putModeCause) (hMsixPba : Blind π State.putMsixPba) (hOut : Blind π State.putOut)
    (hRdn : Blind π State.putRdn) (hRings : Blind π State.putRings) (hSec : Blind π State.putSec)
    (hSess : Blind π State.putSess) (hSpare : Blind π State.putSpare) (hSuspended : Blind π State.putSuspended)
    (hTest : Blind π State.putTest) (r : RegionId) (s : State) (hk : π s = x) :
    FrameR π x (execCpmFailQuarantine r s) := by
  obtain ⟨hAudio, hCells, hCellsT0, hChkMax, hCq, hCtx, hCtxAt, hCw, hDeck, hDecks, hDoms, hEngines, hFlex, hFramers,
    hGroups, hHls, hLanes, hMons, hOh, hOhT0, hPairs, hPorts, hPrfRings, hQuads, hRefClk, hRsz, hSels, hTrackers,
    hWords⟩ := id hD
  unfold execCpmFailQuarantine
  try dsimp only
  repeat' first
    | with_reducible first
      | assumption | apply quarantine_frame | apply frame_foldl | apply frame_ite | apply frameR_next
    | split | intro _

theorem execRegulatorFault_frame (hD : BlindDomains π) (hBank : Blind π State.putBank)
    (hBatch : Blind π State.putBatch) (hBatchesDone : Blind π State.putBatchesDone) (hDue : Blind π State.putDue)
    (hHq : Blind π State.putHq) (hIlk : Blind π State.putIlk) (hIntPend : Blind π State.putIntPend)
    (hLink : Blind π State.putLink) (hLong : Blind π State.putLong) (hMode : Blind π State.putMode)
    (hModeCause : Blind π State.putModeCause) (hMsixPba : Blind π State.putMsixPba) (hOut : Blind π State.putOut)
    (hRdn : Blind π State.putRdn) (hRings : Blind π State.putRings) (hSec : Blind π State.putSec)
    (hSess : Blind π State.putSess) (hSpare : Blind π State.putSpare) (hSuspended : Blind π State.putSuspended)
    (hTest : Blind π State.putTest) (d : Fin 56) (s : State) (hk : π s = x) :
    FrameR π x (execRegulatorFault d s) := by
  obtain ⟨hAudio, hCells, hCellsT0, hChkMax, hCq, hCtx, hCtxAt, hCw, hDeck, hDecks, hDoms, hEngines, hFlex, hFramers,
    hGroups, hHls, hLanes, hMons, hOh, hOhT0, hPairs, hPorts, hPrfRings, hQuads, hRefClk, hRsz, hSels, hTrackers,
    hWords⟩ := id hD
  unfold execRegulatorFault
  try dsimp only
  repeat' first
    | with_reducible first
      | assumption | apply domPut_frame | apply moveDomain_frame | apply quarantine_frame | apply pwrEvt_frame
      | apply cenInc_frame | apply frame_foldl | apply frame_ite | apply frameR_next
    | split | intro _

theorem execTempAlarm_frame (hCw : Blind π State.putCw) (hDue : Blind π State.putDue) (hHot : Blind π State.putHot)
    (hIntPend : Blind π State.putIntPend) (hMsixPba : Blind π State.putMsixPba) (hOut : Blind π State.putOut)
    (s : State) (hk : π s = x) :
    FrameR π x (execTempAlarm s) := by
  unfold execTempAlarm
  try dsimp only
  repeat' first
    | with_reducible first
      | assumption | refine (hHot _ _).trans ?_ | apply pwrEvt_frame | apply cenInc_frame | apply intSet_frame
      | apply frame_foldl | apply frame_ite | apply frameR_next
    | split | intro _

theorem execTamperTrip_frame (hD : BlindDomains π) (hBank : Blind π State.putBank) (hBatch : Blind π State.putBatch)
    (hBatchesDone : Blind π State.putBatchesDone) (hDue : Blind π State.putDue) (hHq : Blind π State.putHq)
    (hIlk : Blind π State.putIlk) (hIntPend : Blind π State.putIntPend) (hLink : Blind π State.putLink)
    (hLong : Blind π State.putLong) (hMode : Blind π State.putMode) (hModeCause : Blind π State.putModeCause)
    (hMsixPba : Blind π State.putMsixPba) (hOut : Blind π State.putOut) (hRdn : Blind π State.putRdn)
    (hRings : Blind π State.putRings) (hSec : Blind π State.putSec) (hSess : Blind π State.putSess)
    (hSpare : Blind π State.putSpare) (hSuspended : Blind π State.putSuspended) (hTest : Blind π State.putTest)
    (m : Tamper) (s : State) (hk : π s = x) :
    FrameR π x (execTamperTrip m s) := by
  obtain ⟨hAudio, hCells, hCellsT0, hChkMax, hCq, hCtx, hCtxAt, hCw, hDeck, hDecks, hDoms, hEngines, hFlex, hFramers,
    hGroups, hHls, hLanes, hMons, hOh, hOhT0, hPairs, hPorts, hPrfRings, hQuads, hRefClk, hRsz, hSels, hTrackers,
    hWords⟩ := id hD
  unfold execTamperTrip
  try dsimp only
  repeat' first
    | with_reducible first
      | assumption | apply quarantine_frame | apply cenInc_frame | apply frame_foldl | apply frame_ite
      | apply frameR_next
    | split | intro _

theorem execSelftestBurstStart_frame (hD : BlindDomains π) (hTest : Blind π State.putTest) (s : State) (hk : π s = x) :
    FrameR π x (execSelftestBurstStart s) := by
  obtain ⟨hAudio, hCells, hCellsT0, hChkMax, hCq, hCtx, hCtxAt, hCw, hDeck, hDecks, hDoms, hEngines, hFlex, hFramers,
    hGroups, hHls, hLanes, hMons, hOh, hOhT0, hPairs, hPorts, hPrfRings, hQuads, hRefClk, hRsz, hSels, hTrackers,
    hWords⟩ := id hD
  unfold execSelftestBurstStart
  try dsimp only
  repeat' first
    | with_reducible first
      | assumption | refine (hTest _ _).trans ?_ | apply domPut_frame | apply moveDomain_frame | apply frame_foldl
      | apply frame_ite | apply frameR_next
    | split | intro _

theorem calibrateBanks_frame (hQuads : Blind π State.putQuads) (s : State) (hk : π s = x) :
    π (calibrateBanks s) = x := by
  unfold calibrateBanks
  try dsimp only
  repeat' first
    | with_reducible first
      | assumption | apply quadPut_frame | apply frame_foldl | apply frame_ite
    | split | intro _

theorem execSelftestBurstEnd_frame (hD : BlindDomains π) (hDue : Blind π State.putDue)
    (hIntPend : Blind π State.putIntPend) (hMsixPba : Blind π State.putMsixPba) (hOut : Blind π State.putOut)
    (hTest : Blind π State.putTest) (pass : Bool) (s : State) (hk : π s = x) :
    FrameR π x (execSelftestBurstEnd pass s) := by
  obtain ⟨hAudio, hCells, hCellsT0, hChkMax, hCq, hCtx, hCtxAt, hCw, hDeck, hDecks, hDoms, hEngines, hFlex, hFramers,
    hGroups, hHls, hLanes, hMons, hOh, hOhT0, hPairs, hPorts, hPrfRings, hQuads, hRefClk, hRsz, hSels, hTrackers,
    hWords⟩ := id hD
  unfold execSelftestBurstEnd
  apply frameR_next
  split
  · exact hk
  · dsimp only
    refine (hTest _ _).trans (frame_foldl (frame_foldl (frame_ite ?_ fun h => ?_) fun t y ht => ?_) fun t y ht => ?_)
    · split
      · exact (hTest _ _).trans hk
      · split
        · apply intSet_frame (π := π) <;> first | assumption | skip
          apply mateEvt_frame (π := π) <;> first | assumption | exact (hTest _ _).trans hk
        · apply mateEvt_frame (π := π) <;> first | assumption | exact (hTest _ _).trans hk
    · apply calibrateBanks_frame (π := π) <;> assumption
    · apply domPut_frame (π := π) <;> assumption
    · apply moveDomain_frame (π := π) <;> assumption

theorem execHealthWordTx_frame (hCw : Blind π State.putCw) (hIntPend : Blind π State.putIntPend)
    (hLink : Blind π State.putLink) (hMsixPba : Blind π State.putMsixPba) (hOut : Blind π State.putOut)
    (hRdn : Blind π State.putRdn) (s : State) (hk : π s = x) :
    FrameR π x (execHealthWordTx s) := by
  unfold execHealthWordTx
  try dsimp only
  repeat' first
    | with_reducible first
      | assumption | refine (hRdn _ _).trans ?_ | apply emit_frame | apply mateAppend_frame | apply frame_foldl
      | apply frame_ite | apply frameR_next
    | split | intro _

end Sys2Proof.Machine
end

