-- ==== Sys2Proof/Laws/FrameBoot.lean ====
section
/-! SUPPORT. What the operations of Machine/Boot.lean leave unchanged. -/

set_option linter.unusedTactic false
set_option linter.unreachableTactic false

namespace Sys2Proof.Machine

variable {β : Type} {π : State → β} {x : β}

theorem execResetRelease_frame (hPhase : Blind π State.putPhase) (hStraps : Blind π State.putStraps) (st : Straps)
    (s : State) (hk : π s = x) :
    FrameR π x (execResetRelease st s) := by
  unfold execResetRelease
  try dsimp only
  repeat' first
    | with_reducible first
      | assumption | refine (hPhase _ _).trans ?_ | refine (hStraps _ _).trans ?_ | apply frame_foldl
      | apply frame_ite | apply frameR_next
    | split | intro _

theorem execPufKeysDerived_frame (hSec : Blind π State.putSec) (s : State) (hk : π s = x) :
    FrameR π x (execPufKeysDerived s) := by
  unfold execPufKeysDerived
  try dsimp only
  repeat' first
    | with_reducible first
      | assumption | refine (hSec _ _).trans ?_ | apply frame_foldl | apply frame_ite | apply frameR_next
    | split | intro _

theorem firstMode_frame (hD : BlindDomains π) (hDue : Blind π State.putDue) (hHq : Blind π State.putHq)
    (hIntPend : Blind π State.putIntPend) (hMode : Blind π State.putMode) (hModeCause : Blind π State.putModeCause)
    (hMsixPba : Blind π State.putMsixPba) (hOut : Blind π State.putOut) (hTest : Blind π State.putTest) (m : Mode)
    (cause : Nat) (s : State) (hk : π s = x) :
    π (firstMode m cause s) = x := by
  obtain ⟨hAudio, hCells, hCellsT0, hChkMax, hCq, hCtx, hCtxAt, hCw, hDeck, hDecks, hDoms, hEngines, hFlex, hFramers,
    hGroups, hHls, hLanes, hMons, hOh, hOhT0, hPairs, hPorts, hPrfRings, hQuads, hRefClk, hRsz, hSels, hTrackers,
    hWords⟩ := id hD
  unfold firstMode
  try dsimp only
  repeat' first
    | with_reducible first
      | assumption | refine (hModeCause _ _).trans ?_ | apply setMode_frame | apply dueRecord_frame
      | apply intSet_frame | apply frame_foldl | apply frame_ite
    | split | intro _

theorem execBootFwSelect_frame (hD : BlindDomains π) (hBank : Blind π State.putBank) (hBatch : Blind π State.putBatch)
    (hBatchesDone : Blind π State.putBatchesDone) (hClaimed : Blind π State.putClaimed) (hDue : Blind π State.putDue)
    (hHq : Blind π State.putHq) (hIlk : Blind π State.putIlk) (hIntPend : Blind π State.putIntPend)
    (hLink : Blind π State.putLink) (hLong : Blind π State.putLong) (hMode : Blind π State.putMode)
    (hModeCause : Blind π State.putModeCause) (hMsixPba : Blind π State.putMsixPba) (hOut : Blind π State.putOut)
    (hPhase : Blind π State.putPhase) (hRdn : Blind π State.putRdn) (hRings : Blind π State.putRings)
    (hSec : Blind π State.putSec) (hSess : Blind π State.putSess) (hSpare : Blind π State.putSpare)
    (hSuspended : Blind π State.putSuspended) (hTest : Blind π State.putTest) (s : State) (hk : π s = x) :
    FrameR π x (execBootFwSelect s) := by
  obtain ⟨hAudio, hCells, hCellsT0, hChkMax, hCq, hCtx, hCtxAt, hCw, hDeck, hDecks, hDoms, hEngines, hFlex, hFramers,
    hGroups, hHls, hLanes, hMons, hOh, hOhT0, hPairs, hPorts, hPrfRings, hQuads, hRefClk, hRsz, hSels, hTrackers,
    hWords⟩ := id hD
  unfold execBootFwSelect
  try dsimp only
  repeat' first
    | with_reducible first
      | assumption | refine (hPhase _ _).trans ?_ | refine (hSec _ _).trans ?_ | refine (hClaimed _ _).trans ?_
      | apply firstMode_frame | apply quarantine_frame | apply cenInc_frame | apply frame_foldl | apply frame_ite
      | apply frameR_next
    | split | intro _

theorem execFwStart_frame (hSec : Blind π State.putSec) (s : State) (hk : π s = x) :
    FrameR π x (execFwStart s) := by
  unfold execFwStart
  try dsimp only
  repeat' first
    | with_reducible first
      | assumption | refine (hSec _ _).trans ?_ | apply frame_foldl | apply frame_ite | apply frameR_next
    | split | intro _

theorem execBootStarterLoad_frame (hD : BlindDomains π) (hBank : Blind π State.putBank) (hDue : Blind π State.putDue)
    (hHq : Blind π State.putHq) (hIlk : Blind π State.putIlk) (hIntPend : Blind π State.putIntPend)
    (hLink : Blind π State.putLink) (hLoaf : Blind π State.putLoaf) (hMode : Blind π State.putMode)
    (hModeCause : Blind π State.putModeCause) (hMsixPba : Blind π State.putMsixPba) (hOut : Blind π State.putOut)
    (hRdn : Blind π State.putRdn) (hTest : Blind π State.putTest) (opens : Bool) (sigOk : Bool) (s : State)
    (hk : π s = x) :
    FrameR π x (execBootStarterLoad opens sigOk s) := by
  obtain ⟨hAudio, hCells, hCellsT0, hChkMax, hCq, hCtx, hCtxAt, hCw, hDeck, hDecks, hDoms, hEngines, hFlex, hFramers,
    hGroups, hHls, hLanes, hMons, hOh, hOhT0, hPairs, hPorts, hPrfRings, hQuads, hRefClk, hRsz, hSels, hTrackers,
    hWords⟩ := id hD
  unfold execBootStarterLoad
  try dsimp only
  repeat' first
    | with_reducible first
      | assumption | refine (hBank _ _).trans ?_ | refine (hLoaf _ _).trans ?_ | apply enterMode_frame
      | apply cenInc_frame | apply calibrateBanks_frame | apply frame_foldl | apply frame_ite | apply frameR_next
    | split | intro _

theorem execPcieLinkRetrain_frame (hCw : Blind π State.putCw) (hIntPend : Blind π State.putIntPend)
    (hMsixPba : Blind π State.putMsixPba) (hOut : Blind π State.putOut) (s : State) (hk : π s = x) :
    FrameR π x (execPcieLinkRetrain s) := by
  unfold execPcieLinkRetrain
  try dsimp only
  repeat' first
    | with_reducible first
      | assumption | apply cenInc_frame | apply frame_foldl | apply frame_ite | apply frameR_next
    | split | intro _

theorem execPcieError_frame (hCw : Blind π State.putCw) (hIntPend : Blind π State.putIntPend)
    (hMsixPba : Blind π State.putMsixPba) (hOut : Blind π State.putOut) (k : PcieErr) (s : State) (hk : π s = x) :
    FrameR π x (execPcieError k s) := by
  unfold execPcieError
  try dsimp only
  repeat' first
    | with_reducible first
      | assumption | apply cenInc_frame | apply frame_foldl | apply frame_ite | apply frameR_next
    | split | intro _

theorem carryOn_frame (hCw : Blind π State.putCw) (e : Nat) (a1 : Nat) (a2 : Nat) (a3 : Nat) (a4 : State)
    (hk : π a4 = x) :
    π (carryOn e a1 a2 a3 a4) = x := by
  induction a1 generalizing a2 a3 a4 with
  | zero => exact hk
  | succ n ih =>
    unfold carryOn
    try dsimp only
    repeat' first
      | with_reducible first
        | assumption | apply ih | apply setOvf_frame | apply pcAdd_frame | apply frame_foldl | apply frame_ite
      | split | intro _

theorem writeCounter_frame (hCw : Blind π State.putCw) (e : Nat) (k : Nat) (inc : Nat) (v : Word) (s : State)
    (hk : π s = x) :
    π (writeCounter e k inc v s) = x := by
  unfold writeCounter
  try dsimp only
  repeat' first
    | with_reducible first
      | assumption | apply carryOn_frame | apply pcAdd_frame | apply cwSet_frame | apply frame_foldl | apply frame_ite
    | split | intro _

theorem execPcCounterWrite_frame (hCw : Blind π State.putCw) (e : EngId) (k : Fin 8) (v : Word) (inc : Fin 3)
    (s : State) (hk : π s = x) :
    FrameR π x (execPcCounterWrite e k v inc s) := by
  unfold execPcCounterWrite
  try dsimp only
  repeat' first
    | with_reducible first
      | assumption | apply writeCounter_frame | apply frame_foldl | apply frame_ite | apply frameR_next
    | split | intro _

theorem clearCensus_frame (hCw : Blind π State.putCw) (v : Word) (s : State) (hk : π s = x) :
    π (clearCensus v s) = x := by
  unfold clearCensus
  try dsimp only
  repeat' first
    | with_reducible first
      | assumption | apply cwSet_frame | apply frame_foldl | apply frame_ite
    | split | intro _

theorem execCenClr_frame (hCw : Blind π State.putCw) (v : Word) (s : State) (hk : π s = x) :
    FrameR π x (execCenClr v s) := by
  unfold execCenClr
  try dsimp only
  repeat' first
    | with_reducible first
      | assumption | apply clearCensus_frame | apply frame_foldl | apply frame_ite | apply frameR_next
    | split | intro _

end Sys2Proof.Machine
end

