-- ==== Sys2Proof/Laws/FrameCheck.lean ====
section
/-! SUPPORT. What the operations of Machine/Check.lean leave unchanged. -/

set_option linter.unusedTactic false
set_option linter.unreachableTactic false

namespace Sys2Proof.Machine

variable {β : Type} {π : State → β} {x : β}

theorem chkWaited_frame (hChkMax : Blind π State.putChkMax) (hCw : Blind π State.putCw) (e : Nat) (wait : Nat)
    (s : State) (hk : π s = x) :
    π (chkWaited e wait s) = x := by
  unfold chkWaited
  try dsimp only
  repeat' first
    | with_reducible first
      | assumption | refine (hChkMax _ _).trans ?_ | apply cwCount_frame | apply frame_foldl | apply frame_ite
    | split | intro _

theorem chkIssue_frame (hBatch : Blind π State.putBatch) (hBatchesDone : Blind π State.putBatchesDone)
    (hChkMax : Blind π State.putChkMax) (hCw : Blind π State.putCw) (hEngines : Blind π State.putEngines)
    (hSuspended : Blind π State.putSuspended) (hTrace : Blind π State.putTrace) (i : IssA) (u : Use) (wait : Nat)
    (body : State → State) (s : State) (hk : π s = x) (hbody : ∀ y0, π y0 = x → π (body y0) = x) :
    π (chkIssue i u wait body s) = x := by
  unfold chkIssue
  try dsimp only
  repeat' first
    | with_reducible first
      | assumption | apply issue_frame | apply chkWaited_frame | apply hbody | apply frame_foldl | apply frame_ite
    | split | intro _

theorem execChkSeed_frame (hBatch : Blind π State.putBatch) (hBatchesDone : Blind π State.putBatchesDone)
    (hChkMax : Blind π State.putChkMax) (hCw : Blind π State.putCw) (hEngines : Blind π State.putEngines)
    (hSuspended : Blind π State.putSuspended) (hTrace : Blind π State.putTrace) (i : IssA) (gA : Reg) (fold : Bool)
    (mode : Fin 6) (wait : Fin 33) (s : State) (hk : π s = x) :
    FrameR π x (execChkSeed i gA fold mode wait s) := by
  unfold execChkSeed
  try dsimp only
  repeat' first
    | with_reducible first
      | assumption | apply chkIssue_frame | apply engPut_frame | apply frame_foldl | apply frame_ite
      | apply frameR_next
    | split | intro _

theorem execChkFeed_frame (hBatch : Blind π State.putBatch) (hBatchesDone : Blind π State.putBatchesDone)
    (hChkMax : Blind π State.putChkMax) (hCw : Blind π State.putCw) (hEngines : Blind π State.putEngines)
    (hSuspended : Blind π State.putSuspended) (hTrace : Blind π State.putTrace) (i : IssA) (gA : Reg) (lanes : Fin 4)
    (wait : Fin 33) (s : State) (hk : π s = x) :
    FrameR π x (execChkFeed i gA lanes wait s) := by
  unfold execChkFeed
  try dsimp only
  repeat' first
    | with_reducible first
      | assumption | apply chkIssue_frame | apply engPut_frame | apply frame_foldl | apply frame_ite
      | apply frameR_next
    | split | intro _

theorem execChkRes_frame (hBatch : Blind π State.putBatch) (hBatchesDone : Blind π State.putBatchesDone)
    (hChkMax : Blind π State.putChkMax) (hCw : Blind π State.putCw) (hEngines : Blind π State.putEngines)
    (hSuspended : Blind π State.putSuspended) (hTrace : Blind π State.putTrace) (i : IssA) (gD : Reg) (wait : Fin 33)
    (s : State) (hk : π s = x) :
    FrameR π x (execChkRes i gD wait s) := by
  unfold execChkRes
  try dsimp only
  repeat' first
    | with_reducible first
      | assumption | apply setReg_frame | apply chkIssue_frame | apply frame_foldl | apply frame_ite
      | apply frameR_next
    | split | intro _

end Sys2Proof.Machine
end

