-- ==== Sys2Proof/Laws/FrameClocks.lean ====
section
/-! SUPPORT. What the operations of Machine/Clocks.lean leave unchanged. -/

set_option linter.unusedTactic false
set_option linter.unreachableTactic false

namespace Sys2Proof.Machine

variable {β : Type} {π : State → β} {x : β}

theorem syncPut_frame (hSync : Blind π State.putSync) (n : Nat) (c : SyncIn) (s : State) (hk : π s = x) :
    π (syncPut n c s) = x := by
  unfold syncPut
  try dsimp only
  repeat' first
    | with_reducible first
      | assumption | refine (hSync _ _).trans ?_ | apply frame_foldl | apply frame_ite
    | split | intro _

theorem dpllSelect_frame (hCw : Blind π State.putCw) (hDpll : Blind π State.putDpll) (hDue : Blind π State.putDue)
    (hIntPend : Blind π State.putIntPend) (hMsixPba : Blind π State.putMsixPba) (hOut : Blind π State.putOut)
    (fresh : Bool) (s : State) (hk : π s = x) :
    π (dpllSelect fresh s) = x := by
  unfold dpllSelect
  try dsimp only
  repeat' first
    | with_reducible first
      | assumption | refine (hDpll _ _).trans ?_ | apply cenInc_frame | apply clkEvt_frame | apply frame_foldl
      | apply frame_ite
    | split | intro _

theorem execSyncEdge_frame (hCw : Blind π State.putCw) (hDpll : Blind π State.putDpll) (hDue : Blind π State.putDue)
    (hIntPend : Blind π State.putIntPend) (hMsixPba : Blind π State.putMsixPba) (hOut : Blind π State.putOut)
    (hSync : Blind π State.putSync) (input : RefName) (gap : Nat) (phase : Int) (freq : BitVec 20) (s : State)
    (hk : π s = x) :
    FrameR π x (execSyncEdge input gap phase freq s) := by
  unfold execSyncEdge
  try dsimp only
  repeat' first
    | with_reducible first
      | assumption | refine (hDpll _ _).trans ?_ | apply dpllSelect_frame | apply syncPut_frame | apply cenInc_frame
      | apply clkEvt_frame | apply cwCountFld_frame | apply frame_foldl | apply frame_ite | apply frameR_next
    | split | intro _

theorem execSyncLoss_frame (hCw : Blind π State.putCw) (hDpll : Blind π State.putDpll) (hDue : Blind π State.putDue)
    (hIntPend : Blind π State.putIntPend) (hMsixPba : Blind π State.putMsixPba) (hOut : Blind π State.putOut)
    (hSync : Blind π State.putSync) (input : RefName) (gap : Nat) (s : State) (hk : π s = x) :
    FrameR π x (execSyncLoss input gap s) := by
  unfold execSyncLoss
  try dsimp only
  repeat' first
    | with_reducible first
      | assumption | apply dpllSelect_frame | apply syncPut_frame | apply cenInc_frame | apply clkEvt_frame
      | apply frame_foldl | apply frame_ite | apply frameR_next
    | split | intro _

theorem execSyncRequalify_frame (hCw : Blind π State.putCw) (hDpll : Blind π State.putDpll)
    (hDue : Blind π State.putDue) (hIntPend : Blind π State.putIntPend) (hMsixPba : Blind π State.putMsixPba)
    (hOut : Blind π State.putOut) (hSync : Blind π State.putSync) (input : RefName) (s : State) (hk : π s = x) :
    FrameR π x (execSyncRequalify input s) := by
  unfold execSyncRequalify
  try dsimp only
  repeat' first
    | with_reducible first
      | assumption | apply dpllSelect_frame | apply syncPut_frame | apply clkEvt_frame | apply frame_foldl
      | apply frame_ite | apply frameR_next
    | split | intro _

theorem execDpllSlewDone_frame (hDpll : Blind π State.putDpll) (s : State) (hk : π s = x) :
    FrameR π x (execDpllSlewDone s) := by
  unfold execDpllSlewDone
  try dsimp only
  repeat' first
    | with_reducible first
      | assumption | refine (hDpll _ _).trans ?_ | apply frame_foldl | apply frame_ite | apply frameR_next
    | split | intro _

theorem applySyncCtrl_frame (hCw : Blind π State.putCw) (hDpll : Blind π State.putDpll) (hDue : Blind π State.putDue)
    (hIntPend : Blind π State.putIntPend) (hMsixPba : Blind π State.putMsixPba) (hOut : Blind π State.putOut)
    (v : Word) (s : State) (hk : π s = x) :
    FrameE π x (applySyncCtrl v s) := by
  unfold applySyncCtrl
  try dsimp only
  repeat' first
    | with_reducible first
      | assumption | exact frameE_error | refine (hDpll _ _).trans ?_ | apply dpllSelect_frame | apply cwSet_frame
      | apply frame_foldl | apply frame_ite | apply frameE_ok | apply frameE_ite
    | split | intro _

theorem execClkSyncCtrl_frame (hBatchesDone : Blind π State.putBatchesDone) (hCw : Blind π State.putCw)
    (hDpll : Blind π State.putDpll) (hDue : Blind π State.putDue) (hHq : Blind π State.putHq)
    (hIntPend : Blind π State.putIntPend) (hMsixPba : Blind π State.putMsixPba) (hOut : Blind π State.putOut)
    (w : CtlWrite) (s : State) (hk : π s = x) :
    FrameR π x (execClkSyncCtrl w s) := by
  unfold execClkSyncCtrl
  try dsimp only
  repeat' first
    | with_reducible first
      | assumption | exact frameE_error | apply settle_frame | apply applySyncCtrl_frame | apply frame_foldl
      | apply frame_ite | apply frameE_ok | apply frameE_ite | apply frameR_next
    | split | intro _

theorem dpllTick_frame (hDpll : Blind π State.putDpll) (s : State) (hk : π s = x) :
    π (dpllTick s) = x := by
  unfold dpllTick
  try dsimp only
  repeat' first
    | with_reducible first
      | assumption | refine (hDpll _ _).trans ?_ | apply frame_foldl | apply frame_ite
    | split | intro _

theorem recRelease_frame (hDue : Blind π State.putDue) (hFlex : Blind π State.putFlex)
    (hRecClk : Blind π State.putRecClk) (n : Nat) (s : State) (hk : π s = x) :
    π (recRelease n s) = x := by
  unfold recRelease
  try dsimp only
  repeat' first
    | with_reducible first
      | assumption | apply freeFlex_frame | apply recPut_frame | apply frame_foldl | apply frame_ite
    | split | intro _

theorem applyRecClk_frame (hCw : Blind π State.putCw) (hDue : Blind π State.putDue) (hFlex : Blind π State.putFlex)
    (hRecClk : Blind π State.putRecClk) (n : Nat) (v : Word) (s : State) (hk : π s = x) :
    FrameE π x (applyRecClk n v s) := by
  unfold applyRecClk
  try dsimp only
  repeat' first
    | with_reducible first
      | assumption | exact frameE_error | apply recRelease_frame | apply recPut_frame | apply flexPut_frame
      | apply cwSet_frame | apply frame_foldl | apply frame_ite | apply frameE_ok | apply frameE_ite
    | split | intro _

theorem execRecClkCfg_frame (hBatchesDone : Blind π State.putBatchesDone) (hCw : Blind π State.putCw)
    (hDue : Blind π State.putDue) (hFlex : Blind π State.putFlex) (hHq : Blind π State.putHq)
    (hIntPend : Blind π State.putIntPend) (hMsixPba : Blind π State.putMsixPba) (hOut : Blind π State.putOut)
    (hRecClk : Blind π State.putRecClk) (n : Fin 2) (w : CtlWrite) (s : State) (hk : π s = x) :
    FrameR π x (execRecClkCfg n w s) := by
  unfold execRecClkCfg
  try dsimp only
  repeat' first
    | with_reducible first
      | assumption | exact frameE_error | apply applyRecClk_frame | apply settle_frame | apply frame_foldl
      | apply frame_ite | apply frameE_ok | apply frameE_ite | apply frameR_next
    | split | intro _

theorem execRecClkSquelch_frame (hRecClk : Blind π State.putRecClk) (n : Fin 2) (s : State) (hk : π s = x) :
    FrameR π x (execRecClkSquelch n s) := by
  unfold execRecClkSquelch
  try dsimp only
  repeat' first
    | with_reducible first
      | assumption | apply recPut_frame | apply frame_foldl | apply frame_ite | apply frameR_next
    | split | intro _

theorem execRecClkResume_frame (hRecClk : Blind π State.putRecClk) (n : Fin 2) (s : State) (hk : π s = x) :
    FrameR π x (execRecClkResume n s) := by
  unfold execRecClkResume
  try dsimp only
  repeat' first
    | with_reducible first
      | assumption | apply recPut_frame | apply frame_foldl | apply frame_ite | apply frameR_next
    | split | intro _

end Sys2Proof.Machine
end

