-- ==== Sys2Proof/Laws/FrameContexts.lean ====
section
/-! SUPPORT. What the operations of Machine/Contexts.lean leave unchanged. -/

set_option linter.unusedTactic false
set_option linter.unreachableTactic false

namespace Sys2Proof.Machine

variable {β : Type} {π : State → β} {x : β}

theorem layCtx_frame (hCtxAt : Blind π State.putCtxAt) (id : Nat) (u : Nat) (h : Nat) (s : State) (hk : π s = x) :
    π (layCtx id u h s) = x := by
  unfold layCtx
  try dsimp only
  repeat' first
    | with_reducible first
      | assumption | refine (hCtxAt _ _).trans ?_ | apply frame_foldl | apply frame_ite
    | split | intro _

theorem clearCtx_frame (hCtx : Blind π State.putCtx) (hMons : Blind π State.putMons) (id : Nat) (s : State)
    (hk : π s = x) :
    π (clearCtx id s) = x := by
  unfold clearCtx
  try dsimp only
  repeat' first
    | with_reducible first
      | assumption | refine (hMons _ _).trans ?_ | refine (hCtx _ _).trans ?_ | apply frame_foldl | apply frame_ite
    | split | intro _

theorem createCtx_frame (hCtx : Blind π State.putCtx) (hCtxAt : Blind π State.putCtxAt)
    (hMons : Blind π State.putMons) (id : Nat) (kind : Nat) (s : State) (hk : π s = x) :
    FrameE π x (createCtx id kind s) := by
  unfold createCtx
  try dsimp only
  repeat' first
    | with_reducible first
      | assumption | exact frameE_error | apply ctxSet_frame | apply clearCtx_frame | apply layCtx_frame
      | apply frame_foldl | apply frame_ite | apply frameE_ok | apply frameE_ite
    | split | intro _

theorem deleteCtx_frame (hCtx : Blind π State.putCtx) (hCtxAt : Blind π State.putCtxAt)
    (hMons : Blind π State.putMons) (hPinMoves : Blind π State.putPinMoves) (id : Nat) (s : State) (hk : π s = x) :
    FrameE π x (deleteCtx id s) := by
  unfold deleteCtx
  try dsimp only
  repeat' first
    | with_reducible first
      | assumption | exact frameE_error | refine (hCtxAt _ _).trans ?_ | refine (hPinMoves _ _).trans ?_
      | apply clearCtx_frame | apply frame_foldl | apply frame_ite | apply frameE_ok | apply frameE_ite
    | split | intro _

theorem setKind_frame (hCtx : Blind π State.putCtx) (id : Nat) (kind : Nat) (s : State) (hk : π s = x) :
    FrameE π x (setKind id kind s) := by
  unfold setKind
  try dsimp only
  repeat' first
    | with_reducible first
      | assumption | exact frameE_error | apply ctxSet_frame | apply frame_foldl | apply frame_ite | apply frameE_ok
      | apply frameE_ite
    | split | intro _

theorem moveCtx_frame (hCtxAt : Blind π State.putCtxAt) (id : Nat) (u : Nat) (s : State) (hk : π s = x) :
    π (moveCtx id u s) = x := by
  unfold moveCtx
  try dsimp only
  repeat' first
    | with_reducible first
      | assumption | apply layCtx_frame | apply frame_foldl | apply frame_ite
    | split | intro _

theorem afterPins_frame (hCtxAt : Blind π State.putCtxAt) (s : State) (hk : π s = x) :
    π (afterPins s) = x := by
  unfold afterPins
  try dsimp only
  repeat' first
    | with_reducible first
      | assumption | apply moveCtx_frame | apply frame_foldl | apply frame_ite
    | split | intro _

theorem setPin_frame (hCtx : Blind π State.putCtx) (hCtxAt : Blind π State.putCtxAt)
    (hPinMoves : Blind π State.putPinMoves) (id : Nat) (s : State) (hk : π s = x) :
    FrameE π x (setPin id s) := by
  unfold setPin
  try dsimp only
  repeat' first
    | with_reducible first
      | assumption | exact frameE_error | refine (hCtxAt _ _).trans ?_ | refine (hPinMoves _ _).trans ?_
      | apply ctxSet_frame | apply afterPins_frame | apply frame_foldl | apply frame_ite | apply frameE_ok
      | apply frameE_ite
    | split | intro _

theorem clearPin_frame (hCtx : Blind π State.putCtx) (hPinMoves : Blind π State.putPinMoves) (id : Nat) (s : State)
    (hk : π s = x) :
    π (clearPin id s) = x := by
  unfold clearPin
  try dsimp only
  repeat' first
    | with_reducible first
      | assumption | refine (hPinMoves _ _).trans ?_ | apply ctxSet_frame | apply frame_foldl | apply frame_ite
    | split | intro _

theorem applyCtxOp_frame (hCtx : Blind π State.putCtx) (hCtxAt : Blind π State.putCtxAt)
    (hMons : Blind π State.putMons) (hPinMoves : Blind π State.putPinMoves) (v : Word) (s : State) (hk : π s = x) :
    FrameE π x (applyCtxOp v s) := by
  unfold applyCtxOp
  try dsimp only
  repeat' first
    | with_reducible first
      | assumption | exact frameE_error | apply setKind_frame | apply setPin_frame | apply clearPin_frame
      | apply createCtx_frame | apply deleteCtx_frame | apply frame_foldl | apply frame_ite | apply frameE_ok
      | apply frameE_ite
    | split | intro _

theorem ctxOp_frame (hBatchesDone : Blind π State.putBatchesDone) (hCtx : Blind π State.putCtx)
    (hCtxAt : Blind π State.putCtxAt) (hCw : Blind π State.putCw) (hHq : Blind π State.putHq)
    (hIntPend : Blind π State.putIntPend) (hMons : Blind π State.putMons) (hMsixPba : Blind π State.putMsixPba)
    (hOut : Blind π State.putOut) (hPinMoves : Blind π State.putPinMoves) (o : Origin) (op : Nat) (kind : Nat)
    (id : Nat) (s : State) (hk : π s = x) :
    FrameR π x (ctxOp o op kind id s) := by
  unfold ctxOp
  try dsimp only
  repeat' first
    | with_reducible first
      | assumption | exact frameE_error | apply settle_frame | apply applyCtxOp_frame | apply frame_foldl
      | apply frame_ite | apply frameE_ok | apply frameE_ite | apply frameR_next
    | split | intro _

theorem execHostCtxCreate_frame (hBatchesDone : Blind π State.putBatchesDone) (hCtx : Blind π State.putCtx)
    (hCtxAt : Blind π State.putCtxAt) (hCw : Blind π State.putCw) (hHq : Blind π State.putHq)
    (hIntPend : Blind π State.putIntPend) (hMons : Blind π State.putMons) (hMsixPba : Blind π State.putMsixPba)
    (hOut : Blind π State.putOut) (hPinMoves : Blind π State.putPinMoves) (o : Origin) (kind : Fin 16) (id : CtxId)
    (s : State) (hk : π s = x) :
    FrameR π x (execHostCtxCreate o kind id s) := by
  unfold execHostCtxCreate
  try dsimp only
  repeat' first
    | with_reducible first
      | assumption | apply ctxOp_frame | apply frame_foldl | apply frame_ite | apply frameR_next
    | split | intro _

theorem execHostCtxDelete_frame (hBatchesDone : Blind π State.putBatchesDone) (hCtx : Blind π State.putCtx)
    (hCtxAt : Blind π State.putCtxAt) (hCw : Blind π State.putCw) (hHq : Blind π State.putHq)
    (hIntPend : Blind π State.putIntPend) (hMons : Blind π State.putMons) (hMsixPba : Blind π State.putMsixPba)
    (hOut : Blind π State.putOut) (hPinMoves : Blind π State.putPinMoves) (o : Origin) (id : CtxId) (s : State)
    (hk : π s = x) :
    FrameR π x (execHostCtxDelete o id s) := by
  unfold execHostCtxDelete
  try dsimp only
  repeat' first
    | with_reducible first
      | assumption | apply ctxOp_frame | apply frame_foldl | apply frame_ite | apply frameR_next
    | split | intro _

theorem execHostCtxSetKind_frame (hBatchesDone : Blind π State.putBatchesDone) (hCtx : Blind π State.putCtx)
    (hCtxAt : Blind π State.putCtxAt) (hCw : Blind π State.putCw) (hHq : Blind π State.putHq)
    (hIntPend : Blind π State.putIntPend) (hMons : Blind π State.putMons) (hMsixPba : Blind π State.putMsixPba)
    (hOut : Blind π State.putOut) (hPinMoves : Blind π State.putPinMoves) (o : Origin) (kind : Fin 16) (id : CtxId)
    (s : State) (hk : π s = x) :
    FrameR π x (execHostCtxSetKind o kind id s) := by
  unfold execHostCtxSetKind
  try dsimp only
  repeat' first
    | with_reducible first
      | assumption | apply ctxOp_frame | apply frame_foldl | apply frame_ite | apply frameR_next
    | split | intro _

theorem execHostCtxSetPin_frame (hBatchesDone : Blind π State.putBatchesDone) (hCtx : Blind π State.putCtx)
    (hCtxAt : Blind π State.putCtxAt) (hCw : Blind π State.putCw) (hHq : Blind π State.putHq)
    (hIntPend : Blind π State.putIntPend) (hMons : Blind π State.putMons) (hMsixPba : Blind π State.putMsixPba)
    (hOut : Blind π State.putOut) (hPinMoves : Blind π State.putPinMoves) (o : Origin) (id : CtxId) (s : State)
    (hk : π s = x) :
    FrameR π x (execHostCtxSetPin o id s) := by
  unfold execHostCtxSetPin
  try dsimp only
  repeat' first
    | with_reducible first
      | assumption | apply ctxOp_frame | apply frame_foldl | apply frame_ite | apply frameR_next
    | split | intro _

theorem execHostCtxClearPin_frame (hBatchesDone : Blind π State.putBatchesDone) (hCtx : Blind π State.putCtx)
    (hCtxAt : Blind π State.putCtxAt) (hCw : Blind π State.putCw) (hHq : Blind π State.putHq)
    (hIntPend : Blind π State.putIntPend) (hMons : Blind π State.putMons) (hMsixPba : Blind π State.putMsixPba)
    (hOut : Blind π State.putOut) (hPinMoves : Blind π State.putPinMoves) (o : Origin) (id : CtxId) (s : State)
    (hk : π s = x) :
    FrameR π x (execHostCtxClearPin o id s) := by
  unfold execHostCtxClearPin
  try dsimp only
  repeat' first
    | with_reducible first
      | assumption | apply ctxOp_frame | apply frame_foldl | apply frame_ite | apply frameR_next
    | split | intro _

theorem pinPhase_frame (hCtxAt : Blind π State.putCtxAt) (hCw : Blind π State.putCw)
    (hPinMoves : Blind π State.putPinMoves) (s : State) (hk : π s = x) :
    π (pinPhase s).1 = x := by
  unfold pinPhase
  dsimp only
  refine (hPinMoves _ _).trans (frame_pairs hk fun t y ht => ?_)
  apply cwCountFld_frame (π := π) <;> first | assumption | skip
  apply moveCtx_frame (π := π) <;> assumption

theorem placeLoop_frame (hCtxAt : Blind π State.putCtxAt) (hCw : Blind π State.putCw) (a b n : Nat) (tried : List Nat)
    (r : State × Moves) (hk : π r.1 = x) :
    π (placeLoop a b n tried r).1 = x := by
  induction n generalizing tried r with
  | zero => exact hk
  | succ n ih =>
    unfold placeLoop
    dsimp only
    split
    · exact hk
    · split
      · exact hk
      · split
        · apply ih
          apply cwCountFld_frame (π := π) <;> first | assumption | skip
          apply moveCtx_frame (π := π) <;> assumption
        · exact ih _ _ hk

theorem placementPhase_frame (hCtxAt : Blind π State.putCtxAt) (hCw : Blind π State.putCw)
    (hPinMoves : Blind π State.putPinMoves) (s : State) (hk : π s = x) :
    π (placementPhase s) = x := by
  refine frame_pairs (by apply pinPhase_frame (π := π) <;> assumption) fun t y ht => ?_
  unfold placeCluster
  split
  · split
    · split
      · apply placeLoop_frame (π := π) <;> assumption
      · exact ht
    · exact ht
  · exact ht

end Sys2Proof.Machine
end

