-- ==== Sys2Proof/Laws/FrameEngineAlu.lean ====
section
/-! SUPPORT. What the operations of Machine/EngineAlu.lean leave unchanged. -/

set_option linter.unusedTactic false
set_option linter.unreachableTactic false

namespace Sys2Proof.Machine

variable {β : Type} {π : State → β} {x : β}

theorem alu2_frame (hBatch : Blind π State.putBatch) (hBatchesDone : Blind π State.putBatchesDone)
    (hCw : Blind π State.putCw) (hEngines : Blind π State.putEngines) (hSuspended : Blind π State.putSuspended)
    (hTrace : Blind π State.putTrace) (i : Iss) (gD : Reg) (gA : Reg) (gB : Reg) (f : Word → Word → Word) (s : State)
    (hk : π s = x) :
    π (alu2 i gD gA gB f s) = x := by
  unfold alu2
  try dsimp only
  repeat' first
    | with_reducible first
      | assumption | apply setReg_frame | apply issue_frame | apply frame_foldl | apply frame_ite
    | split | intro _

theorem alu1_frame (hBatch : Blind π State.putBatch) (hBatchesDone : Blind π State.putBatchesDone)
    (hCw : Blind π State.putCw) (hEngines : Blind π State.putEngines) (hSuspended : Blind π State.putSuspended)
    (hTrace : Blind π State.putTrace) (i : Iss) (gD : Reg) (gA : Reg) (f : Word → Word) (s : State) (hk : π s = x) :
    π (alu1 i gD gA f s) = x := by
  unfold alu1
  try dsimp only
  repeat' first
    | with_reducible first
      | assumption | apply setReg_frame | apply issue_frame | apply frame_foldl | apply frame_ite
    | split | intro _

theorem cmp2_frame (hBatch : Blind π State.putBatch) (hBatchesDone : Blind π State.putBatchesDone)
    (hCw : Blind π State.putCw) (hEngines : Blind π State.putEngines) (hSuspended : Blind π State.putSuspended)
    (hTrace : Blind π State.putTrace) (i : Iss) (pT : Pred) (pF : Pred) (gA : Reg) (gB : Reg) (f : Word → Word → Bool)
    (s : State) (hk : π s = x) :
    π (cmp2 i pT pF gA gB f s) = x := by
  unfold cmp2
  try dsimp only
  repeat' first
    | with_reducible first
      | assumption | apply issue_frame | apply setPred_frame | apply frame_foldl | apply frame_ite
    | split | intro _

theorem shift_frame (hBatch : Blind π State.putBatch) (hBatchesDone : Blind π State.putBatchesDone)
    (hCw : Blind π State.putCw) (hEngines : Blind π State.putEngines) (hSuspended : Blind π State.putSuspended)
    (hTrace : Blind π State.putTrace) (i : Iss) (gD : Reg) (gA : Reg) (amt : Amount) (f : Word → Nat → Word)
    (s : State) (hk : π s = x) :
    π (shift i gD gA amt f s) = x := by
  unfold shift
  try dsimp only
  repeat' first
    | with_reducible first
      | assumption | apply alu2_frame | apply alu1_frame | apply frame_foldl | apply frame_ite
    | split | intro _

theorem execNop_frame (hBatch : Blind π State.putBatch) (hBatchesDone : Blind π State.putBatchesDone)
    (hCw : Blind π State.putCw) (hEngines : Blind π State.putEngines) (hSuspended : Blind π State.putSuspended)
    (hTrace : Blind π State.putTrace) (i : Iss) (s : State) (hk : π s = x) :
    FrameR π x (execNop i s) := by
  exact frameR_next (by apply issue_frame (π := π) <;> first | assumption | exact fun _ h => h)

theorem execAdd_frame (hBatch : Blind π State.putBatch) (hBatchesDone : Blind π State.putBatchesDone)
    (hCw : Blind π State.putCw) (hEngines : Blind π State.putEngines) (hSuspended : Blind π State.putSuspended)
    (hTrace : Blind π State.putTrace) (i : Iss) (gD : Reg) (gA : Reg) (gB : Reg) (s : State) (hk : π s = x) :
    FrameR π x (execAdd i gD gA gB s) := by
  unfold execAdd
  try dsimp only
  repeat' first
    | with_reducible first
      | assumption | apply alu2_frame | apply frame_foldl | apply frame_ite | apply frameR_next
    | split | intro _

theorem execSub_frame (hBatch : Blind π State.putBatch) (hBatchesDone : Blind π State.putBatchesDone)
    (hCw : Blind π State.putCw) (hEngines : Blind π State.putEngines) (hSuspended : Blind π State.putSuspended)
    (hTrace : Blind π State.putTrace) (i : Iss) (gD : Reg) (gA : Reg) (gB : Reg) (s : State) (hk : π s = x) :
    FrameR π x (execSub i gD gA gB s) := by
  unfold execSub
  try dsimp only
  repeat' first
    | with_reducible first
      | assumption | apply alu2_frame | apply frame_foldl | apply frame_ite | apply frameR_next
    | split | intro _

theorem execAnd_frame (hBatch : Blind π State.putBatch) (hBatchesDone : Blind π State.putBatchesDone)
    (hCw : Blind π State.putCw) (hEngines : Blind π State.putEngines) (hSuspended : Blind π State.putSuspended)
    (hTrace : Blind π State.putTrace) (i : Iss) (gD : Reg) (gA : Reg) (gB : Reg) (s : State) (hk : π s = x) :
    FrameR π x (execAnd i gD gA gB s) := by
  unfold execAnd
  try dsimp only
  repeat' first
    | with_reducible first
      | assumption | apply alu2_frame | apply frame_foldl | apply frame_ite | apply frameR_next
    | split | intro _

theorem execOr_frame (hBatch : Blind π State.putBatch) (hBatchesDone : Blind π State.putBatchesDone)
    (hCw : Blind π State.putCw) (hEngines : Blind π State.putEngines) (hSuspended : Blind π State.putSuspended)
    (hTrace : Blind π State.putTrace) (i : Iss) (gD : Reg) (gA : Reg) (gB : Reg) (s : State) (hk : π s = x) :
    FrameR π x (execOr i gD gA gB s) := by
  unfold execOr
  try dsimp only
  repeat' first
    | with_reducible first
      | assumption | apply alu2_frame | apply frame_foldl | apply frame_ite | apply frameR_next
    | split | intro _

theorem execXor_frame (hBatch : Blind π State.putBatch) (hBatchesDone : Blind π State.putBatchesDone)
    (hCw : Blind π State.putCw) (hEngines : Blind π State.putEngines) (hSuspended : Blind π State.putSuspended)
    (hTrace : Blind π State.putTrace) (i : Iss) (gD : Reg) (gA : Reg) (gB : Reg) (s : State) (hk : π s = x) :
    FrameR π x (execXor i gD gA gB s) := by
  unfold execXor
  try dsimp only
  repeat' first
    | with_reducible first
      | assumption | apply alu2_frame | apply frame_foldl | apply frame_ite | apply frameR_next
    | split | intro _

theorem execShl_frame (hBatch : Blind π State.putBatch) (hBatchesDone : Blind π State.putBatchesDone)
    (hCw : Blind π State.putCw) (hEngines : Blind π State.putEngines) (hSuspended : Blind π State.putSuspended)
    (hTrace : Blind π State.putTrace) (i : Iss) (gD : Reg) (gA : Reg) (amt : Amount) (s : State) (hk : π s = x) :
    FrameR π x (execShl i gD gA amt s) := by
  unfold execShl
  try dsimp only
  repeat' first
    | with_reducible first
      | assumption | apply shift_frame | apply frame_foldl | apply frame_ite | apply frameR_next
    | split | intro _

theorem execShr_frame (hBatch : Blind π State.putBatch) (hBatchesDone : Blind π State.putBatchesDone)
    (hCw : Blind π State.putCw) (hEngines : Blind π State.putEngines) (hSuspended : Blind π State.putSuspended)
    (hTrace : Blind π State.putTrace) (i : Iss) (gD : Reg) (gA : Reg) (amt : Amount) (s : State) (hk : π s = x) :
    FrameR π x (execShr i gD gA amt s) := by
  unfold execShr
  try dsimp only
  repeat' first
    | with_reducible first
      | assumption | apply shift_frame | apply frame_foldl | apply frame_ite | apply frameR_next
    | split | intro _

theorem execSar_frame (hBatch : Blind π State.putBatch) (hBatchesDone : Blind π State.putBatchesDone)
    (hCw : Blind π State.putCw) (hEngines : Blind π State.putEngines) (hSuspended : Blind π State.putSuspended)
    (hTrace : Blind π State.putTrace) (i : Iss) (gD : Reg) (gA : Reg) (amt : Amount) (s : State) (hk : π s = x) :
    FrameR π x (execSar i gD gA amt s) := by
  unfold execSar
  try dsimp only
  repeat' first
    | with_reducible first
      | assumption | apply shift_frame | apply frame_foldl | apply frame_ite | apply frameR_next
    | split | intro _

theorem execMov_frame (hBatch : Blind π State.putBatch) (hBatchesDone : Blind π State.putBatchesDone)
    (hCw : Blind π State.putCw) (hEngines : Blind π State.putEngines) (hSuspended : Blind π State.putSuspended)
    (hTrace : Blind π State.putTrace) (i : Iss) (gD : Reg) (gA : Reg) (s : State) (hk : π s = x) :
    FrameR π x (execMov i gD gA s) := by
  unfold execMov
  try dsimp only
  repeat' first
    | with_reducible first
      | assumption | apply alu1_frame | apply frame_foldl | apply frame_ite | apply frameR_next
    | split | intro _

theorem execSel_frame (hBatch : Blind π State.putBatch) (hBatchesDone : Blind π State.putBatchesDone)
    (hCw : Blind π State.putCw) (hEngines : Blind π State.putEngines) (hSuspended : Blind π State.putSuspended)
    (hTrace : Blind π State.putTrace) (i : Iss) (gD : Reg) (gA : Reg) (gB : Reg) (p : Pred) (s : State) (hk : π s = x) :
    FrameR π x (execSel i gD gA gB p s) := by
  unfold execSel
  try dsimp only
  repeat' first
    | with_reducible first
      | assumption | apply setReg_frame | apply issue_frame | apply frame_foldl | apply frame_ite | apply frameR_next
    | split | intro _

theorem execMin_frame (hBatch : Blind π State.putBatch) (hBatchesDone : Blind π State.putBatchesDone)
    (hCw : Blind π State.putCw) (hEngines : Blind π State.putEngines) (hSuspended : Blind π State.putSuspended)
    (hTrace : Blind π State.putTrace) (i : Iss) (gD : Reg) (gA : Reg) (gB : Reg) (s : State) (hk : π s = x) :
    FrameR π x (execMin i gD gA gB s) := by
  unfold execMin
  try dsimp only
  repeat' first
    | with_reducible first
      | assumption | apply alu2_frame | apply frame_foldl | apply frame_ite | apply frameR_next
    | split | intro _

theorem execMax_frame (hBatch : Blind π State.putBatch) (hBatchesDone : Blind π State.putBatchesDone)
    (hCw : Blind π State.putCw) (hEngines : Blind π State.putEngines) (hSuspended : Blind π State.putSuspended)
    (hTrace : Blind π State.putTrace) (i : Iss) (gD : Reg) (gA : Reg) (gB : Reg) (s : State) (hk : π s = x) :
    FrameR π x (execMax i gD gA gB s) := by
  unfold execMax
  try dsimp only
  repeat' first
    | with_reducible first
      | assumption | apply alu2_frame | apply frame_foldl | apply frame_ite | apply frameR_next
    | split | intro _

theorem execSatAdd_frame (hBatch : Blind π State.putBatch) (hBatchesDone : Blind π State.putBatchesDone)
    (hCw : Blind π State.putCw) (hEngines : Blind π State.putEngines) (hSuspended : Blind π State.putSuspended)
    (hTrace : Blind π State.putTrace) (i : Iss) (gD : Reg) (gA : Reg) (gB : Reg) (s : State) (hk : π s = x) :
    FrameR π x (execSatAdd i gD gA gB s) := by
  unfold execSatAdd
  try dsimp only
  repeat' first
    | with_reducible first
      | assumption | apply alu2_frame | apply frame_foldl | apply frame_ite | apply frameR_next
    | split | intro _

theorem execCmpEq_frame (hBatch : Blind π State.putBatch) (hBatchesDone : Blind π State.putBatchesDone)
    (hCw : Blind π State.putCw) (hEngines : Blind π State.putEngines) (hSuspended : Blind π State.putSuspended)
    (hTrace : Blind π State.putTrace) (i : Iss) (pT : Pred) (pF : Pred) (gA : Reg) (gB : Reg) (s : State)
    (hk : π s = x) :
    FrameR π x (execCmpEq i pT pF gA gB s) := by
  unfold execCmpEq
  try dsimp only
  repeat' first
    | with_reducible first
      | assumption | apply cmp2_frame | apply frame_foldl | apply frame_ite | apply frameR_next
    | split | intro _

theorem execCmpNe_frame (hBatch : Blind π State.putBatch) (hBatchesDone : Blind π State.putBatchesDone)
    (hCw : Blind π State.putCw) (hEngines : Blind π State.putEngines) (hSuspended : Blind π State.putSuspended)
    (hTrace : Blind π State.putTrace) (i : Iss) (pT : Pred) (pF : Pred) (gA : Reg) (gB : Reg) (s : State)
    (hk : π s = x) :
    FrameR π x (execCmpNe i pT pF gA gB s) := by
  unfold execCmpNe
  try dsimp only
  repeat' first
    | with_reducible first
      | assumption | apply cmp2_frame | apply frame_foldl | apply frame_ite | apply frameR_next
    | split | intro _

theorem execCmpLt_frame (hBatch : Blind π State.putBatch) (hBatchesDone : Blind π State.putBatchesDone)
    (hCw : Blind π State.putCw) (hEngines : Blind π State.putEngines) (hSuspended : Blind π State.putSuspended)
    (hTrace : Blind π State.putTrace) (i : Iss) (pT : Pred) (pF : Pred) (gA : Reg) (gB : Reg) (s : State)
    (hk : π s = x) :
    FrameR π x (execCmpLt i pT pF gA gB s) := by
  unfold execCmpLt
  try dsimp only
  repeat' first
    | with_reducible first
      | assumption | apply cmp2_frame | apply frame_foldl | apply frame_ite | apply frameR_next
    | split | intro _

theorem execCmpLtu_frame (hBatch : Blind π State.putBatch) (hBatchesDone : Blind π State.putBatchesDone)
    (hCw : Blind π State.putCw) (hEngines : Blind π State.putEngines) (hSuspended : Blind π State.putSuspended)
    (hTrace : Blind π State.putTrace) (i : Iss) (pT : Pred) (pF : Pred) (gA : Reg) (gB : Reg) (s : State)
    (hk : π s = x) :
    FrameR π x (execCmpLtu i pT pF gA gB s) := by
  unfold execCmpLtu
  try dsimp only
  repeat' first
    | with_reducible first
      | assumption | apply cmp2_frame | apply frame_foldl | apply frame_ite | apply frameR_next
    | split | intro _

theorem execMovi_frame (hBatch : Blind π State.putBatch) (hBatchesDone : Blind π State.putBatchesDone)
    (hCw : Blind π State.putCw) (hEngines : Blind π State.putEngines) (hSuspended : Blind π State.putSuspended)
    (hTrace : Blind π State.putTrace) (i : Iss) (gD : Reg) (imm : BitVec 20) (s : State) (hk : π s = x) :
    FrameR π x (execMovi i gD imm s) := by
  unfold execMovi
  try dsimp only
  repeat' first
    | with_reducible first
      | assumption | apply setReg_frame | apply issue_frame | apply frame_foldl | apply frame_ite | apply frameR_next
    | split | intro _

theorem execMovh_frame (hBatch : Blind π State.putBatch) (hBatchesDone : Blind π State.putBatchesDone)
    (hCw : Blind π State.putCw) (hEngines : Blind π State.putEngines) (hSuspended : Blind π State.putSuspended)
    (hTrace : Blind π State.putTrace) (i : Iss) (gD : Reg) (gA : Reg) (imm : BitVec 16) (s : State) (hk : π s = x) :
    FrameR π x (execMovh i gD gA imm s) := by
  unfold execMovh
  try dsimp only
  repeat' first
    | with_reducible first
      | assumption | apply alu1_frame | apply frame_foldl | apply frame_ite | apply frameR_next
    | split | intro _

theorem execAddImmediate_frame (hBatch : Blind π State.putBatch) (hBatchesDone : Blind π State.putBatchesDone)
    (hCw : Blind π State.putCw) (hEngines : Blind π State.putEngines) (hSuspended : Blind π State.putSuspended)
    (hTrace : Blind π State.putTrace) (i : Iss) (gD : Reg) (gA : Reg) (imm : BitVec 20) (s : State) (hk : π s = x) :
    FrameR π x (execAddImmediate i gD gA imm s) := by
  unfold execAddImmediate
  try dsimp only
  repeat' first
    | with_reducible first
      | assumption | apply alu1_frame | apply frame_foldl | apply frame_ite | apply frameR_next
    | split | intro _

theorem execLex_frame (hBatch : Blind π State.putBatch) (hBatchesDone : Blind π State.putBatchesDone)
    (hCw : Blind π State.putCw) (hEngines : Blind π State.putEngines) (hSuspended : Blind π State.putSuspended)
    (hTrace : Blind π State.putTrace) (i : IssA) (gD : Reg) (gA : Reg) (lane : Fin 4) (s : State) (hk : π s = x) :
    FrameR π x (execLex i gD gA lane s) := by
  unfold execLex
  try dsimp only
  repeat' first
    | with_reducible first
      | assumption | apply alu1_frame | apply frame_foldl | apply frame_ite | apply frameR_next
    | split | intro _

theorem execLins_frame (hBatch : Blind π State.putBatch) (hBatchesDone : Blind π State.putBatchesDone)
    (hCw : Blind π State.putCw) (hEngines : Blind π State.putEngines) (hSuspended : Blind π State.putSuspended)
    (hTrace : Blind π State.putTrace) (i : IssA) (gD : Reg) (gA : Reg) (gB : Reg) (lane : Fin 4) (s : State)
    (hk : π s = x) :
    FrameR π x (execLins i gD gA gB lane s) := by
  unfold execLins
  try dsimp only
  repeat' first
    | with_reducible first
      | assumption | apply alu2_frame | apply frame_foldl | apply frame_ite | apply frameR_next
    | split | intro _

theorem execPopc_frame (hBatch : Blind π State.putBatch) (hBatchesDone : Blind π State.putBatchesDone)
    (hCw : Blind π State.putCw) (hEngines : Blind π State.putEngines) (hSuspended : Blind π State.putSuspended)
    (hTrace : Blind π State.putTrace) (i : IssA) (gD : Reg) (gA : Reg) (s : State) (hk : π s = x) :
    FrameR π x (execPopc i gD gA s) := by
  unfold execPopc
  try dsimp only
  repeat' first
    | with_reducible first
      | assumption | apply alu1_frame | apply frame_foldl | apply frame_ite | apply frameR_next
    | split | intro _

theorem execBip8_frame (hBatch : Blind π State.putBatch) (hBatchesDone : Blind π State.putBatchesDone)
    (hCw : Blind π State.putCw) (hEngines : Blind π State.putEngines) (hSuspended : Blind π State.putSuspended)
    (hTrace : Blind π State.putTrace) (i : IssA) (gD : Reg) (gA : Reg) (gB : Reg) (s : State) (hk : π s = x) :
    FrameR π x (execBip8 i gD gA gB s) := by
  unfold execBip8
  try dsimp only
  repeat' first
    | with_reducible first
      | assumption | apply alu2_frame | apply frame_foldl | apply frame_ite | apply frameR_next
    | split | intro _

end Sys2Proof.Machine
end

