-- ==== Sys2Proof/Laws/FrameEngineCounters.lean ====
section
/-! SUPPORT. What the operations of Machine/EngineCounters.lean leave unchanged. -/

set_option linter.unusedTactic false
set_option linter.unreachableTactic false

namespace Sys2Proof.Machine

variable {β : Type} {π : State → β} {x : β}

theorem execPcSel_frame (hBatch : Blind π State.putBatch) (hBatchesDone : Blind π State.putBatchesDone)
    (hCw : Blind π State.putCw) (hEngines : Blind π State.putEngines) (hHq : Blind π State.putHq)
    (hIntPend : Blind π State.putIntPend) (hMsixPba : Blind π State.putMsixPba) (hOut : Blind π State.putOut)
    (hSuspended : Blind π State.putSuspended) (hTrace : Blind π State.putTrace)
    (hViolated : Blind π State.putViolated) (i : IssA) (gA : Reg) (k : Fin 8) (s : State) (hk : π s = x) :
    FrameR π x (execPcSel i gA k s) := by
  unfold execPcSel
  try dsimp only
  repeat' first
    | with_reducible first
      | assumption | apply issue_frame | apply outsideGrant_frame | apply cwSet_frame | apply frame_foldl
      | apply frame_ite | apply frameR_next
    | split | intro _

theorem execPcRd_frame (hBatch : Blind π State.putBatch) (hBatchesDone : Blind π State.putBatchesDone)
    (hCw : Blind π State.putCw) (hEngines : Blind π State.putEngines) (hHq : Blind π State.putHq)
    (hIntPend : Blind π State.putIntPend) (hMsixPba : Blind π State.putMsixPba) (hOut : Blind π State.putOut)
    (hSuspended : Blind π State.putSuspended) (hTrace : Blind π State.putTrace)
    (hViolated : Blind π State.putViolated) (i : IssA) (gD : Reg) (shadow : Bool) (k : Fin 10) (s : State)
    (hk : π s = x) :
    FrameR π x (execPcRd i gD shadow k s) := by
  unfold execPcRd
  try dsimp only
  repeat' first
    | with_reducible first
      | assumption | apply setReg_frame | apply issue_frame | apply outsideGrant_frame | apply frame_foldl
      | apply frame_ite | apply frameR_next
    | split | intro _

theorem execSnap_frame (hBatch : Blind π State.putBatch) (hBatchesDone : Blind π State.putBatchesDone)
    (hCaptures : Blind π State.putCaptures) (hCw : Blind π State.putCw) (hEngines : Blind π State.putEngines)
    (hHq : Blind π State.putHq) (hIntPend : Blind π State.putIntPend) (hMsixPba : Blind π State.putMsixPba)
    (hOut : Blind π State.putOut) (hSuspended : Blind π State.putSuspended) (hTrace : Blind π State.putTrace)
    (hViolated : Blind π State.putViolated) (i : IssA) (s : State) (hk : π s = x) :
    FrameR π x (execSnap i s) := by
  unfold execSnap
  try dsimp only
  repeat' first
    | with_reducible first
      | assumption | refine (hCaptures _ _).trans ?_ | apply issue_frame | apply outsideGrant_frame
      | apply frame_foldl | apply frame_ite | apply frameR_next
    | split | intro _

theorem execSnapInEdge_frame (hCaptures : Blind π State.putCaptures) (s : State) (hk : π s = x) :
    FrameR π x (execSnapInEdge s) := by
  unfold execSnapInEdge
  try dsimp only
  repeat' first
    | with_reducible first
      | assumption | refine (hCaptures _ _).trans ?_ | apply frame_foldl | apply frame_ite | apply frameR_next
    | split | intro _

theorem captureEngine_frame (hCw : Blind π State.putCw) (e : Nat) (s : State) (hk : π s = x) :
    π (captureEngine e s) = x := by
  unfold captureEngine
  try dsimp only
  repeat' first
    | with_reducible first
      | assumption | apply cwSet_frame | apply frame_foldl | apply frame_ite
    | split | intro _

theorem freezeAtCapture_frame (hCw : Blind π State.putCw) (e : Nat) (s : State) (hk : π s = x) :
    π (freezeAtCapture e s) = x := by
  unfold freezeAtCapture
  try dsimp only
  repeat' first
    | with_reducible first
      | assumption | apply cwSet_frame | apply frame_foldl | apply frame_ite
    | split | intro _

theorem capture_frame (hCw : Blind π State.putCw) (hDecks : Blind π State.putDecks) (hLanes : Blind π State.putLanes)
    (s : State) (hk : π s = x) :
    π (capture s) = x := by
  unfold capture
  try dsimp only
  repeat' first
    | with_reducible first
      | assumption | refine (hDecks _ _).trans ?_ | refine (hLanes _ _).trans ?_ | apply freezeAtCapture_frame
      | apply captureEngine_frame | apply cwSet_frame | apply frame_foldl | apply frame_ite
    | split | intro _

theorem execSnapCapture_frame (hCaptures : Blind π State.putCaptures) (hCw : Blind π State.putCw)
    (hDecks : Blind π State.putDecks) (hLanes : Blind π State.putLanes) (merged : Nat) (s : State) (hk : π s = x) :
    FrameR π x (execSnapCapture merged s) := by
  unfold execSnapCapture
  try dsimp only
  repeat' first
    | with_reducible first
      | assumption | refine (hCaptures _ _).trans ?_ | apply capture_frame | apply frame_foldl | apply frame_ite
      | apply frameR_next
    | split | intro _

end Sys2Proof.Machine
end

