-- ==== Sys2Proof/Laws/FrameEngineCtx.lean ====
section
/-! SUPPORT. What the operations of Machine/EngineCtx.lean leave unchanged. -/

set_option linter.unusedTactic false
set_option linter.unreachableTactic false

namespace Sys2Proof.Machine

variable {β : Type} {π : State → β} {x : β}

theorem execCtxLd_frame (hBatch : Blind π State.putBatch) (hBatchesDone : Blind π State.putBatchesDone)
    (hCw : Blind π State.putCw) (hEngines : Blind π State.putEngines) (hSuspended : Blind π State.putSuspended)
    (hTrace : Blind π State.putTrace) (i : IssA) (gD : Reg) (gA : Reg) (off : Fin 256) (word : Fin 128) (s : State)
    (hk : π s = x) :
    FrameR π x (execCtxLd i gD gA off word s) := by
  unfold execCtxLd
  try dsimp only
  repeat' first
    | with_reducible first
      | assumption | apply issue_frame | apply readContext_frame | apply frame_foldl | apply frame_ite
      | apply frameR_next
    | split | intro _

theorem execCtxSt_frame (hBatch : Blind π State.putBatch) (hBatchesDone : Blind π State.putBatchesDone)
    (hCtx : Blind π State.putCtx) (hCw : Blind π State.putCw) (hEngines : Blind π State.putEngines)
    (hSuspended : Blind π State.putSuspended) (hTrace : Blind π State.putTrace) (i : IssA) (gD : Reg) (gA : Reg)
    (off : Fin 256) (word : Fin 128) (s : State) (hk : π s = x) :
    FrameR π x (execCtxSt i gD gA off word s) := by
  unfold execCtxSt
  try dsimp only
  repeat' first
    | with_reducible first
      | assumption | apply ctxSet_frame | apply issue_frame | apply onContext_frame | apply frame_foldl
      | apply frame_ite | apply frameR_next
    | split | intro _

theorem execCtxNext_frame (hBatch : Blind π State.putBatch) (hBatchesDone : Blind π State.putBatchesDone)
    (hCw : Blind π State.putCw) (hEngines : Blind π State.putEngines) (hSuspended : Blind π State.putSuspended)
    (hTrace : Blind π State.putTrace) (i : IssA) (gD : Reg) (gA : Reg) (mask : BitVec 16) (s : State) (hk : π s = x) :
    FrameR π x (execCtxNext i gD gA mask s) := by
  unfold execCtxNext
  try dsimp only
  repeat' first
    | with_reducible first
      | assumption | apply setReg_frame | apply issue_frame | apply frame_foldl | apply frame_ite | apply frameR_next
    | split | intro _

theorem execCtxId_frame (hBatch : Blind π State.putBatch) (hBatchesDone : Blind π State.putBatchesDone)
    (hCw : Blind π State.putCw) (hEngines : Blind π State.putEngines) (hSuspended : Blind π State.putSuspended)
    (hTrace : Blind π State.putTrace) (i : IssA) (gD : Reg) (gA : Reg) (toHandle : Bool) (s : State) (hk : π s = x) :
    FrameR π x (execCtxId i gD gA toHandle s) := by
  unfold execCtxId
  try dsimp only
  repeat' first
    | with_reducible first
      | assumption | apply setReg_frame | apply issue_frame | apply frame_foldl | apply frame_ite | apply frameR_next
    | split | intro _

end Sys2Proof.Machine
end

