-- ==== Sys2Proof/Laws/FrameEngineFlow.lean ====
section
/-! SUPPORT. What the operations of Machine/EngineFlow.lean leave unchanged. -/

set_option linter.unusedTactic false
set_option linter.unreachableTactic false

namespace Sys2Proof.Machine

variable {β : Type} {π : State → β} {x : β}

theorem goTo_frame (hEngines : Blind π State.putEngines) (e : Nat) (t : Nat) (s : State) (hk : π s = x) :
    π (goTo e t s) = x := by
  unfold goTo
  try dsimp only
  repeat' first
    | with_reducible first
      | assumption | apply engPut_frame | apply frame_foldl | apply frame_ite
    | split | intro _

theorem markFlow_frame (hEngines : Blind π State.putEngines) (e : Nat) (s : State) (hk : π s = x) :
    π (markFlow e s) = x := by
  unfold markFlow
  try dsimp only
  repeat' first
    | with_reducible first
      | assumption | apply engPut_frame | apply frame_foldl | apply frame_ite
    | split | intro _

theorem execBr_frame (hBatch : Blind π State.putBatch) (hBatchesDone : Blind π State.putBatchesDone)
    (hCw : Blind π State.putCw) (hEngines : Blind π State.putEngines) (hSuspended : Blind π State.putSuspended)
    (hTrace : Blind π State.putTrace) (i : Iss) (off : Fin 8192) (s : State) (hk : π s = x) :
    FrameR π x (execBr i off s) := by
  unfold execBr
  try dsimp only
  repeat' first
    | with_reducible first
      | assumption | apply issue_frame | apply engPut_frame | apply frame_foldl | apply frame_ite | apply frameR_next
    | split | intro _

theorem skipIfFalse_frame (hEngines : Blind π State.putEngines) (i : IssA) (last : Nat) (s : State) (hk : π s = x) :
    π (skipIfFalse i last s) = x := by
  unfold skipIfFalse
  try dsimp only
  repeat' first
    | with_reducible first
      | assumption | apply goTo_frame | apply frame_foldl | apply frame_ite
    | split | intro _

theorem execLoop_frame (hBatch : Blind π State.putBatch) (hBatchesDone : Blind π State.putBatchesDone)
    (hCw : Blind π State.putCw) (hEngines : Blind π State.putEngines) (hSuspended : Blind π State.putSuspended)
    (hTrace : Blind π State.putTrace) (i : IssA) (n : Fin 4096) (last : Fin 8192) (s : State) (hk : π s = x) :
    FrameR π x (execLoop i n last s) := by
  unfold execLoop
  try dsimp only
  repeat' first
    | with_reducible first
      | assumption | apply skipIfFalse_frame | apply issue_frame | apply markFlow_frame | apply engPut_frame
      | apply frame_foldl | apply frame_ite | apply frameR_next
    | split | intro _

theorem execLoopContext_frame (hBatch : Blind π State.putBatch) (hBatchesDone : Blind π State.putBatchesDone)
    (hCw : Blind π State.putCw) (hEngines : Blind π State.putEngines) (hSuspended : Blind π State.putSuspended)
    (hTrace : Blind π State.putTrace) (i : IssA) (gD : Reg) (mask : BitVec 16) (last : Fin 8192) (s : State)
    (hk : π s = x) :
    FrameR π x (execLoopContext i gD mask last s) := by
  unfold execLoopContext
  try dsimp only
  repeat' first
    | with_reducible first
      | assumption | apply goTo_frame | apply setReg_frame | apply skipIfFalse_frame | apply issue_frame
      | apply markFlow_frame | apply engPut_frame | apply frame_foldl | apply frame_ite | apply frameR_next
    | split | intro _

theorem execEndl_frame (hBatch : Blind π State.putBatch) (hBatchesDone : Blind π State.putBatchesDone)
    (hCw : Blind π State.putCw) (hEngines : Blind π State.putEngines) (hSuspended : Blind π State.putSuspended)
    (hTrace : Blind π State.putTrace) (i : Iss) (s : State) (hk : π s = x) :
    FrameR π x (execEndl i s) := by
  unfold execEndl
  try dsimp only
  repeat' first
    | with_reducible first
      | assumption | apply goTo_frame | apply setReg_frame | apply issue_frame | apply engPut_frame
      | apply frame_foldl | apply frame_ite | apply frameR_next
    | split | intro _

theorem waitAll_frame (hEngines : Blind π State.putEngines) (e : Nat) (s : State) (hk : π s = x) :
    π (waitAll e s) = x := by
  unfold waitAll
  try dsimp only
  repeat' first
    | with_reducible first
      | assumption | apply engPut_frame | apply frame_foldl | apply frame_ite
    | split | intro _

theorem execCall_frame (hBatch : Blind π State.putBatch) (hBatchesDone : Blind π State.putBatchesDone)
    (hCw : Blind π State.putCw) (hEngines : Blind π State.putEngines) (hSuspended : Blind π State.putSuspended)
    (hTrace : Blind π State.putTrace) (i : IssA) (target : Fin 8192) (s : State) (hk : π s = x) :
    FrameR π x (execCall i target s) := by
  unfold execCall
  try dsimp only
  repeat' first
    | with_reducible first
      | assumption | apply goTo_frame | apply issue_frame | apply markFlow_frame | apply waitAll_frame
      | apply engPut_frame | apply frame_foldl | apply frame_ite | apply frameR_next
    | split | intro _

theorem execRet_frame (hBatch : Blind π State.putBatch) (hBatchesDone : Blind π State.putBatchesDone)
    (hCw : Blind π State.putCw) (hEngines : Blind π State.putEngines) (hSuspended : Blind π State.putSuspended)
    (hTrace : Blind π State.putTrace) (i : IssA) (s : State) (hk : π s = x) :
    FrameR π x (execRet i s) := by
  unfold execRet
  try dsimp only
  repeat' first
    | with_reducible first
      | assumption | apply goTo_frame | apply issue_frame | apply markFlow_frame | apply waitAll_frame
      | apply engPut_frame | apply frame_foldl | apply frame_ite | apply frameR_next
    | split | intro _

theorem execHaltTick_frame (hBatch : Blind π State.putBatch) (hBatchesDone : Blind π State.putBatchesDone)
    (hCw : Blind π State.putCw) (hEngines : Blind π State.putEngines) (hSuspended : Blind π State.putSuspended)
    (hTrace : Blind π State.putTrace) (i : IssA) (s : State) (hk : π s = x) :
    FrameR π x (execHaltTick i s) := by
  unfold execHaltTick
  try dsimp only
  repeat' first
    | with_reducible first
      | assumption | apply issue_frame | apply engPut_frame | apply frame_foldl | apply frame_ite | apply frameR_next
    | split | intro _

end Sys2Proof.Machine
end

