-- ==== Sys2Proof/Laws/FrameEngineQueue.lean ====
section
/-! SUPPORT. What the operations of Machine/EngineQueue.lean leave unchanged. -/

set_option linter.unusedTactic false
set_option linter.unreachableTactic false

namespace Sys2Proof.Machine

variable {β : Type} {π : State → β} {x : β}

theorem execQOpen_frame (hBatch : Blind π State.putBatch) (hBatchesDone : Blind π State.putBatchesDone)
    (hCw : Blind π State.putCw) (hEngines : Blind π State.putEngines) (hSuspended : Blind π State.putSuspended)
    (hTrace : Blind π State.putTrace) (i : IssA) (gA : Reg) (q : HqId) (s : State) (hk : π s = x) :
    FrameR π x (execQOpen i gA q s) := by
  unfold execQOpen
  try dsimp only
  repeat' first
    | with_reducible first
      | assumption | apply issue_frame | apply engPut_frame | apply frame_foldl | apply frame_ite | apply frameR_next
    | split | intro _

theorem execQPut_frame (hBatch : Blind π State.putBatch) (hBatchesDone : Blind π State.putBatchesDone)
    (hCw : Blind π State.putCw) (hEngines : Blind π State.putEngines) (hSuspended : Blind π State.putSuspended)
    (hTrace : Blind π State.putTrace) (i : IssA) (gA : Reg) (s : State) (hk : π s = x) :
    FrameR π x (execQPut i gA s) := by
  unfold execQPut
  try dsimp only
  repeat' first
    | with_reducible first
      | assumption | apply issue_frame | apply engPut_frame | apply frame_foldl | apply frame_ite | apply frameR_next
    | split | intro _

theorem execQClose_frame (hBatch : Blind π State.putBatch) (hBatchesDone : Blind π State.putBatchesDone)
    (hCw : Blind π State.putCw) (hEngines : Blind π State.putEngines) (hHq : Blind π State.putHq)
    (hIntPend : Blind π State.putIntPend) (hMsixPba : Blind π State.putMsixPba) (hOut : Blind π State.putOut)
    (hSuspended : Blind π State.putSuspended) (hTrace : Blind π State.putTrace) (i : IssA) (s : State) (hk : π s = x) :
    FrameR π x (execQClose i s) := by
  unfold execQClose
  try dsimp only
  repeat' first
    | with_reducible first
      | assumption | apply engErr_frame | apply issue_frame | apply hqAppend_frame | apply engPut_frame
      | apply frame_foldl | apply frame_ite | apply frameR_next
    | split | intro _

theorem execQAbort_frame (hBatch : Blind π State.putBatch) (hBatchesDone : Blind π State.putBatchesDone)
    (hCw : Blind π State.putCw) (hEngines : Blind π State.putEngines) (hSuspended : Blind π State.putSuspended)
    (hTrace : Blind π State.putTrace) (i : IssA) (s : State) (hk : π s = x) :
    FrameR π x (execQAbort i s) := by
  unfold execQAbort
  try dsimp only
  repeat' first
    | with_reducible first
      | assumption | apply issue_frame | apply engPut_frame | apply frame_foldl | apply frame_ite | apply frameR_next
    | split | intro _

end Sys2Proof.Machine
end

