-- ==== Sys2Proof/Laws/FrameFraming.lean ====
section
/-! SUPPORT. What the operations of Machine/Framing.lean leave unchanged. -/

set_option linter.unusedTactic false
set_option linter.unreachableTactic false

namespace Sys2Proof.Machine

variable {β : Type} {π : State → β} {x : β}

theorem frmStore_frame (hCw : Blind π State.putCw) (u : Nat) (n : Nat) (w : Nat) (v : Word) (s : State) (hk : π s = x) :
    π (frmStore u n w v s) = x := by
  unfold frmStore
  try dsimp only
  repeat' first
    | with_reducible first
      | assumption | apply cwSet_frame | apply frame_foldl | apply frame_ite
    | split | intro _

theorem applyFrm_frame (hCells : Blind π State.putCells) (hCw : Blind π State.putCw)
    (hFramers : Blind π State.putFramers) (hHq : Blind π State.putHq) (hIntPend : Blind π State.putIntPend)
    (hMons : Blind π State.putMons) (hMsixPba : Blind π State.putMsixPba) (hOut : Blind π State.putOut)
    (hPairs : Blind π State.putPairs) (hTrackers : Blind π State.putTrackers) (plan : State) (u : Nat) (n : Nat)
    (w : Nat) (v : Word) (s : State) (hk : π s = x) :
    FrameE π x (applyFrm plan u n w v s) := by
  unfold applyFrm
  try dsimp only
  repeat' first
    | with_reducible first
      | assumption | exact frameE_error | apply refreshStream_frame | apply closeAll_frame | apply framerPut_frame
      | apply frmStore_frame | apply preemptTest_frame | apply settleDefs_frame | apply restartStream_frame
      | apply frame_foldl | apply frame_ite | apply frameE_ok | apply frameE_ite
    | split | intro _

theorem frmPlan_frame (hCw : Blind π State.putCw) (u : Nat) (n : Nat) (ws : List FrmWrite) (s : State) (hk : π s = x) :
    π (frmPlan u n ws s) = x := by
  unfold frmPlan
  try dsimp only
  repeat' first
    | with_reducible first
      | assumption | apply frmStore_frame | apply frame_foldl | apply frame_ite
    | split | intro _

theorem execFrmCfg_frame (hBatchesDone : Blind π State.putBatchesDone) (hCells : Blind π State.putCells)
    (hCw : Blind π State.putCw) (hFramers : Blind π State.putFramers) (hHq : Blind π State.putHq)
    (hIntPend : Blind π State.putIntPend) (hMons : Blind π State.putMons) (hMsixPba : Blind π State.putMsixPba)
    (hOut : Blind π State.putOut) (hPairs : Blind π State.putPairs) (hTrackers : Blind π State.putTrackers)
    (r : StreamRef) (ws : List FrmWrite) (s : State) (hk : π s = x) :
    FrameR π x (execFrmCfg r ws s) := by
  unfold execFrmCfg
  try dsimp only
  repeat' first
    | with_reducible first
      | assumption | exact frameE_error | apply frmPlan_frame | apply settle_frame | apply applyFrm_frame
      | apply frame_foldl | apply frame_ite | apply frameE_ok | apply frameE_ite | apply frameR_next
    | split | intro _

theorem execFrmThr_frame (hBatchesDone : Blind π State.putBatchesDone) (hCells : Blind π State.putCells)
    (hCw : Blind π State.putCw) (hFramers : Blind π State.putFramers) (hHq : Blind π State.putHq)
    (hIntPend : Blind π State.putIntPend) (hMons : Blind π State.putMons) (hMsixPba : Blind π State.putMsixPba)
    (hOut : Blind π State.putOut) (hPairs : Blind π State.putPairs) (hTrackers : Blind π State.putTrackers)
    (r : StreamRef) (w : CtlWrite) (s : State) (hk : π s = x) :
    FrameR π x (execFrmThr r w s) := by
  unfold execFrmThr
  try dsimp only
  repeat' first
    | with_reducible first
      | assumption | exact frameE_error | apply settle_frame | apply frmStore_frame | apply applyFrm_frame
      | apply frame_foldl | apply frame_ite | apply frameE_ok | apply frameE_ite | apply frameR_next
    | split | intro _

theorem execFrmTime_frame (hBatchesDone : Blind π State.putBatchesDone) (hCells : Blind π State.putCells)
    (hCw : Blind π State.putCw) (hFramers : Blind π State.putFramers) (hHq : Blind π State.putHq)
    (hIntPend : Blind π State.putIntPend) (hMons : Blind π State.putMons) (hMsixPba : Blind π State.putMsixPba)
    (hOut : Blind π State.putOut) (hPairs : Blind π State.putPairs) (hTrackers : Blind π State.putTrackers)
    (r : StreamRef) (w : CtlWrite) (s : State) (hk : π s = x) :
    FrameR π x (execFrmTime r w s) := by
  unfold execFrmTime
  try dsimp only
  repeat' first
    | with_reducible first
      | assumption | exact frameE_error | apply settle_frame | apply frmStore_frame | apply applyFrm_frame
      | apply frame_foldl | apply frame_ite | apply frameE_ok | apply frameE_ite | apply frameR_next
    | split | intro _

theorem clearFrmCounts_frame (hFramers : Blind π State.putFramers) (u : Nat) (n : Nat) (s : State) (hk : π s = x) :
    π (clearFrmCounts u n s) = x := by
  unfold clearFrmCounts
  try dsimp only
  repeat' first
    | with_reducible first
      | assumption | apply framerPut_frame | apply frame_foldl | apply frame_ite
    | split | intro _

theorem execFrmCntClr_frame (hFramers : Blind π State.putFramers) (r : StreamRef) (s : State) (hk : π s = x) :
    FrameR π x (execFrmCntClr r s) := by
  unfold execFrmCntClr
  try dsimp only
  repeat' first
    | with_reducible first
      | assumption | apply clearFrmCounts_frame | apply frame_foldl | apply frame_ite | apply frameR_next
    | split | intro _

theorem openCand_frame (hFramers : Blind π State.putFramers) (hTrackers : Blind π State.putTrackers) (u : Nat)
    (n : Nat) (m : Nat) (offset : Nat) (mf : Nat) (s : State) (hk : π s = x) :
    π (openCand u n m offset mf s) = x := by
  unfold openCand
  try dsimp only
  repeat' first
    | with_reducible first
      | assumption | apply frmEvent_frame | apply framerPut_frame | apply trackerPut_frame | apply frame_foldl
      | apply frame_ite
    | split | intro _

theorem execCandidateOpen_frame (hCells : Blind π State.putCells) (hFramers : Blind π State.putFramers)
    (hTrackers : Blind π State.putTrackers) (r : StreamRef) (member : Fin 64) (offset : Nat) (mf : Nat) (s : State)
    (hk : π s = x) :
    FrameR π x (execCandidateOpen r member offset mf s) := by
  unfold execCandidateOpen
  try dsimp only
  repeat' first
    | with_reducible first
      | assumption | apply refreshStream_frame | apply openCand_frame | apply frame_foldl | apply frame_ite
      | apply frameR_next
    | split | intro _

theorem countMimic_frame (hFramers : Blind π State.putFramers) (u : Nat) (n : Nat) (s : State) (hk : π s = x) :
    π (countMimic u n s) = x := by
  unfold countMimic
  try dsimp only
  repeat' first
    | with_reducible first
      | assumption | apply frmEvent_frame | apply framerPut_frame | apply frame_foldl | apply frame_ite
    | split | intro _

theorem checkCand_frame (hFramers : Blind π State.putFramers) (hTrackers : Blind π State.putTrackers) (u : Nat)
    (n : Nat) (m : Nat) (offset : Nat) (faOk : Bool) (mf : Nat) (s : State) (hk : π s = x) :
    π (checkCand u n m offset faOk mf s) = x := by
  unfold checkCand
  try dsimp only
  repeat' first
    | with_reducible first
      | assumption | apply openCand_frame | apply trackerPut_frame | apply countMimic_frame | apply frame_foldl
      | apply frame_ite
    | split | intro _

theorem execCandidateCheck_frame (hCells : Blind π State.putCells) (hFramers : Blind π State.putFramers)
    (hTrackers : Blind π State.putTrackers) (r : StreamRef) (member : Fin 64) (offset : Nat) (faOk : Bool) (mf : Nat)
    (s : State) (hk : π s = x) :
    FrameR π x (execCandidateCheck r member offset faOk mf s) := by
  unfold execCandidateCheck
  try dsimp only
  repeat' first
    | with_reducible first
      | assumption | apply refreshStream_frame | apply checkCand_frame | apply frame_foldl | apply frame_ite
      | apply frameR_next
    | split | intro _

theorem windowEnd_frame (hFramers : Blind π State.putFramers) (hTrackers : Blind π State.putTrackers) (u : Nat)
    (n : Nat) (m : Nat) (s : State) (hk : π s = x) :
    π (windowEnd u n m s) = x := by
  unfold windowEnd
  try dsimp only
  repeat' first
    | with_reducible first
      | assumption | apply frmEvent_frame | apply framerPut_frame | apply trackerPut_frame | apply frame_foldl
      | apply frame_ite
    | split | intro _

theorem execFramerWindowEnd_frame (hCells : Blind π State.putCells) (hFramers : Blind π State.putFramers)
    (hTrackers : Blind π State.putTrackers) (r : StreamRef) (member : Fin 64) (s : State) (hk : π s = x) :
    FrameR π x (execFramerWindowEnd r member s) := by
  unfold execFramerWindowEnd
  try dsimp only
  repeat' first
    | with_reducible first
      | assumption | apply refreshStream_frame | apply windowEnd_frame | apply frame_foldl | apply frame_ite
      | apply frameR_next
    | split | intro _

theorem execOofDeclare_frame (hCells : Blind π State.putCells) (hFramers : Blind π State.putFramers)
    (hTrackers : Blind π State.putTrackers) (r : StreamRef) (member : Fin 64) (s : State) (hk : π s = x) :
    FrameR π x (execOofDeclare r member s) := by
  unfold execOofDeclare
  try dsimp only
  repeat' first
    | with_reducible first
      | assumption | apply refreshStream_frame | apply frmEvent_frame | apply framerPut_frame | apply trackerPut_frame
      | apply frame_foldl | apply frame_ite | apply frameR_next
    | split | intro _

theorem mfFrame_frame (hFramers : Blind π State.putFramers) (u : Nat) (n : Nat) (mf : Nat) (s : State) (hk : π s = x) :
    π (mfFrame u n mf s) = x := by
  unfold mfFrame
  try dsimp only
  repeat' first
    | with_reducible first
      | assumption | apply framerPut_frame | apply frame_foldl | apply frame_ite
    | split | intro _

theorem execMfOom_frame (hFramers : Blind π State.putFramers) (r : StreamRef) (s : State) (hk : π s = x) :
    FrameR π x (execMfOom r s) := by
  unfold execMfOom
  try dsimp only
  repeat' first
    | with_reducible first
      | assumption | apply framerPut_frame | apply frame_foldl | apply frame_ite | apply frameR_next
    | split | intro _

theorem execMfIm_frame (hFramers : Blind π State.putFramers) (r : StreamRef) (s : State) (hk : π s = x) :
    FrameR π x (execMfIm r s) := by
  unfold execMfIm
  try dsimp only
  repeat' first
    | with_reducible first
      | assumption | apply framerPut_frame | apply frame_foldl | apply frame_ite | apply frameR_next
    | split | intro _

theorem laneLofSet_frame (hFramers : Blind π State.putFramers) (k : Nat) (lane : Nat) (on : Bool) (s : State)
    (hk : π s = x) :
    π (laneLofSet k lane on s) = x := by
  unfold laneLofSet
  try dsimp only
  repeat' first
    | with_reducible first
      | assumption | apply framerPut_frame | apply frame_foldl | apply frame_ite
    | split | intro _

theorem execLofSet_frame (hCells : Blind π State.putCells) (hFramers : Blind π State.putFramers)
    (hMons : Blind π State.putMons) (hPairs : Blind π State.putPairs) (r : StreamRef) (lane : Option (Fin 20))
    (s : State) (hk : π s = x) :
    FrameR π x (execLofSet r lane s) := by
  unfold execLofSet
  try dsimp only
  repeat' first
    | with_reducible first
      | assumption | apply frmEvent_frame | apply laneLofSet_frame | apply framerPut_frame | apply settleDefs_frame
      | apply frame_foldl | apply frame_ite | apply frameR_next
    | split | intro _

theorem execLofClr_frame (hCells : Blind π State.putCells) (hFramers : Blind π State.putFramers)
    (hMons : Blind π State.putMons) (hPairs : Blind π State.putPairs) (r : StreamRef) (lane : Option (Fin 20))
    (s : State) (hk : π s = x) :
    FrameR π x (execLofClr r lane s) := by
  unfold execLofClr
  try dsimp only
  repeat' first
    | with_reducible first
      | assumption | apply frmEvent_frame | apply laneLofSet_frame | apply framerPut_frame | apply settleDefs_frame
      | apply frame_foldl | apply frame_ite | apply frameR_next
    | split | intro _

theorem execLomSet_frame (hCells : Blind π State.putCells) (hFramers : Blind π State.putFramers)
    (hMons : Blind π State.putMons) (hPairs : Blind π State.putPairs) (r : StreamRef) (s : State) (hk : π s = x) :
    FrameR π x (execLomSet r s) := by
  unfold execLomSet
  try dsimp only
  repeat' first
    | with_reducible first
      | assumption | apply frmEvent_frame | apply framerPut_frame | apply settleDefs_frame | apply frame_foldl
      | apply frame_ite | apply frameR_next
    | split | intro _

theorem execLomClr_frame (hCells : Blind π State.putCells) (hFramers : Blind π State.putFramers)
    (hMons : Blind π State.putMons) (hPairs : Blind π State.putPairs) (r : StreamRef) (s : State) (hk : π s = x) :
    FrameR π x (execLomClr r s) := by
  unfold execLomClr
  try dsimp only
  repeat' first
    | with_reducible first
      | assumption | apply frmEvent_frame | apply framerPut_frame | apply settleDefs_frame | apply frame_foldl
      | apply frame_ite | apply frameR_next
    | split | intro _

theorem execLolChange_frame (hCells : Blind π State.putCells) (hFramers : Blind π State.putFramers)
    (hMons : Blind π State.putMons) (hPairs : Blind π State.putPairs) (hTrackers : Blind π State.putTrackers)
    (r : StreamRef) (idOk : Bool) (skew : Nat) (latest : Nat) (earliest : Nat) (locked : Nat) (s : State)
    (hk : π s = x) :
    FrameR π x (execLolChange r idOk skew latest earliest locked s) := by
  unfold execLolChange
  try dsimp only
  repeat' first
    | with_reducible first
      | assumption | apply refreshStream_frame | apply frmEvent_frame | apply framerPut_frame
      | apply closeFrameLayer_frame | apply settleDefs_frame | apply frame_foldl | apply frame_ite | apply frameR_next
    | split | intro _

theorem execPcsAlignStatus_frame (hCells : Blind π State.putCells) (hFramers : Blind π State.putFramers)
    (hTrackers : Blind π State.putTrackers) (r : StreamRef) (phy : Fin 8) (up : Bool) (locked : Nat) (s : State)
    (hk : π s = x) :
    FrameR π x (execPcsAlignStatus r phy up locked s) := by
  unfold execPcsAlignStatus
  try dsimp only
  repeat' first
    | with_reducible first
      | assumption | apply refreshStream_frame | apply framerPut_frame | apply trackerPut_frame | apply frame_foldl
      | apply frame_ite | apply frameR_next
    | split | intro _

theorem execLaneAdaptDone_frame (hCells : Blind π State.putCells) (hFramers : Blind π State.putFramers)
    (hLanes : Blind π State.putLanes) (hTrackers : Blind π State.putTrackers) (l : LaneRef) (eq : List Word)
    (snr : Fin 256) (s : State) (hk : π s = x) :
    FrameR π x (execLaneAdaptDone l eq snr s) := by
  unfold execLaneAdaptDone
  try dsimp only
  repeat' first
    | with_reducible first
      | assumption | apply releaseStream_frame | apply adaptEq_frame | apply lanePut_frame | apply frame_foldl
      | apply frame_ite | apply frameR_next
    | split | intro _

theorem execLaneDown_frame (hCells : Blind π State.putCells) (hCw : Blind π State.putCw)
    (hFramers : Blind π State.putFramers) (hIntPend : Blind π State.putIntPend) (hLanes : Blind π State.putLanes)
    (hMsixPba : Blind π State.putMsixPba) (hOut : Blind π State.putOut) (hTrackers : Blind π State.putTrackers)
    (l : LaneRef) (cdrLost : Bool) (sigLost : Bool) (s : State) (hk : π s = x) :
    FrameR π x (execLaneDown l cdrLost sigLost s) := by
  unfold execLaneDown
  try dsimp only
  repeat' first
    | with_reducible first
      | assumption | apply laneEvent_frame | apply laneLeft_frame | apply lanePut_frame | apply cenInc_frame
      | apply frame_foldl | apply frame_ite | apply frameR_next
    | split | intro _

theorem applyFecCfg_frame (hCw : Blind π State.putCw) (plan : State) (side : Nat) (lane : Nat) (v : Word) (s : State)
    (hk : π s = x) :
    FrameE π x (applyFecCfg plan side lane v s) := by
  unfold applyFecCfg
  try dsimp only
  repeat' first
    | with_reducible first
      | assumption | exact frameE_error | apply cwSet_frame | apply frame_foldl | apply frame_ite | apply frameE_ok
      | apply frameE_ite
    | split | intro _

theorem execFecCfg_frame (hBatchesDone : Blind π State.putBatchesDone) (hCw : Blind π State.putCw)
    (hHq : Blind π State.putHq) (hIntPend : Blind π State.putIntPend) (hMsixPba : Blind π State.putMsixPba)
    (hOut : Blind π State.putOut) (l : LaneRef) (w : CtlWrite) (s : State) (hk : π s = x) :
    FrameR π x (execFecCfg l w s) := by
  unfold execFecCfg
  try dsimp only
  repeat' first
    | with_reducible first
      | assumption | exact frameE_error | apply settle_frame | apply applyFecCfg_frame | apply frame_foldl
      | apply frame_ite | apply frameE_ok | apply frameE_ite | apply frameR_next
    | split | intro _

theorem clearFec_frame (hCw : Blind π State.putCw) (side : Nat) (lane : Nat) (s : State) (hk : π s = x) :
    π (clearFec side lane s) = x := by
  unfold clearFec
  try dsimp only
  repeat' first
    | with_reducible first
      | assumption | apply cwSet_frame | apply frame_foldl | apply frame_ite
    | split | intro _

theorem execFecCntClr_frame (hCw : Blind π State.putCw) (l : LaneRef) (s : State) (hk : π s = x) :
    FrameR π x (execFecCntClr l s) := by
  unfold execFecCntClr
  try dsimp only
  repeat' first
    | with_reducible first
      | assumption | apply clearFec_frame | apply frame_foldl | apply frame_ite | apply frameR_next
    | split | intro _

end Sys2Proof.Machine
end

