-- ==== Sys2Proof/Laws/FrameLoader.lean ====
section
/-! SUPPORT. What the operations of Machine/Loader.lean leave unchanged. -/

set_option linter.unusedTactic false
set_option linter.unreachableTactic false

namespace Sys2Proof.Machine

variable {β : Type} {π : State → β} {x : β}

theorem scratchPut_frame (hScratch : Blind π State.putScratch) (at_ : Nat) (ls : List (BitVec 288)) (s : State)
    (hk : π s = x) :
    π (scratchPut at_ ls s) = x := by
  unfold scratchPut
  try dsimp only
  repeat' first
    | with_reducible first
      | assumption | refine (hScratch _ _).trans ?_ | apply frame_foldl | apply frame_ite
    | split | intro _

end Sys2Proof.Machine
end

