-- ==== Sys2Proof/Laws/FrameSecurity.lean ====
section
/-! SUPPORT. What the operations of Machine/Security.lean leave unchanged. -/

set_option linter.unusedTactic false
set_option linter.unreachableTactic false

namespace Sys2Proof.Machine

variable {β : Type} {π : State → β} {x : β}

theorem issueHub_frame (hBatch : Blind π State.putBatch) (hBatchesDone : Blind π State.putBatchesDone)
    (hCw : Blind π State.putCw) (hEngines : Blind π State.putEngines) (hSuspended : Blind π State.putSuspended)
    (hTrace : Blind π State.putTrace) (i : IssA) (u : Use) (body : State → State) (s : State) (hk : π s = x)
    (hbody : ∀ y0, π y0 = x → π (body y0) = x) :
    π (issueHub i u body s) = x := by
  unfold issueHub
  try dsimp only
  repeat' first
    | with_reducible first
      | assumption | apply issue_frame | apply hbody | apply frame_foldl | apply frame_ite
    | split | intro _

theorem status_frame (hEngines : Blind π State.putEngines) (gD : Nat) (st : Nat) (s : State) (hk : π s = x) :
    π (status gD st s) = x := by
  unfold status
  try dsimp only
  repeat' first
    | with_reducible first
      | assumption | apply setReg_frame | apply frame_foldl | apply frame_ite
    | split | intro _

theorem waitAt_frame (hEngines : Blind π State.putEngines) (hLong : Blind π State.putLong) (op : LongOp) (gD : Nat)
    (s : State) (hk : π s = x) :
    π (waitAt op gD s) = x := by
  unfold waitAt
  try dsimp only
  repeat' first
    | with_reducible first
      | assumption | refine (hLong _ _).trans ?_ | apply engPut_frame | apply frame_foldl | apply frame_ite
    | split | intro _

theorem endLong_frame (hEngines : Blind π State.putEngines) (hLong : Blind π State.putLong)
    (hSuspended : Blind π State.putSuspended) (st : Nat) (s : State) (hk : π s = x) :
    π (endLong st s) = x := by
  unfold endLong
  try dsimp only
  repeat' first
    | with_reducible first
      | assumption | refine (hSuspended _ _).trans ?_ | refine (hLong _ _).trans ?_ | apply engPut_frame
      | apply frame_foldl | apply frame_ite
    | split | intro _

theorem batchMap_frame (hBatch : Blind π State.putBatch) (f : BatchRun → BatchRun) (s : State) (hk : π s = x) :
    π (batchMap f s) = x := by
  unfold batchMap
  try dsimp only
  repeat' first
    | with_reducible first
      | assumption | refine (hBatch _ _).trans ?_ | apply frame_foldl | apply frame_ite
    | split | intro _

theorem spend_frame (hFreeUses : Blind π State.putFreeUses) (n : Nat) (s : State) (hk : π s = x) :
    π (spend n s) = x := by
  unfold spend
  try dsimp only
  repeat' first
    | with_reducible first
      | assumption | refine (hFreeUses _ _).trans ?_ | apply frame_foldl | apply frame_ite
    | split | intro _

theorem execPower_frame (hBatch : Blind π State.putBatch) (hBatchesDone : Blind π State.putBatchesDone)
    (hCw : Blind π State.putCw) (hEngines : Blind π State.putEngines) (hSuspended : Blind π State.putSuspended)
    (hTrace : Blind π State.putTrace) (i : IssA) (gA : Reg) (ladder : Fin 8) (s : State) (hk : π s = x) :
    FrameR π x (execPower i gA ladder s) := by
  unfold execPower
  try dsimp only
  repeat' first
    | with_reducible first
      | assumption | apply issue_frame | apply stage_frame | apply frame_foldl | apply frame_ite | apply frameR_next
    | split | intro _

theorem landPower_frame (hD : BlindDomains π) (hBatch : Blind π State.putBatch)
    (hBatchesDone : Blind π State.putBatchesDone) (hDue : Blind π State.putDue) (hHq : Blind π State.putHq)
    (hIlk : Blind π State.putIlk) (hIntPend : Blind π State.putIntPend) (hLink : Blind π State.putLink)
    (hLong : Blind π State.putLong) (hMsixPba : Blind π State.putMsixPba) (hOut : Blind π State.putOut)
    (hPhase : Blind π State.putPhase) (hRdn : Blind π State.putRdn) (hRings : Blind π State.putRings)
    (hSess : Blind π State.putSess) (hSuspended : Blind π State.putSuspended) (o : Origin) (d : Nat) (st : Nat)
    (s : State) (hk : π s = x) :
    π (landPower o d st s) = x := by
  obtain ⟨hAudio, hCells, hCellsT0, hChkMax, hCq, hCtx, hCtxAt, hCw, hDeck, hDecks, hDoms, hEngines, hFlex, hFramers,
    hGroups, hHls, hLanes, hMons, hOh, hOhT0, hPairs, hPorts, hPrfRings, hQuads, hRefClk, hRsz, hSels, hTrackers,
    hWords⟩ := id hD
  unfold landPower
  try dsimp only
  repeat' first
    | with_reducible first
      | assumption | exact frameE_error | apply settle_frame | apply enterDormant_frame | apply applyReq_frame
      | apply frame_foldl | apply frame_ite | apply frameE_ok | apply frameE_ite
    | split | intro _

theorem refuseStore_frame (hEngines : Blind π State.putEngines) (hNvm : Blind π State.putNvm) (target : Nat)
    (gD : Nat) (st : Nat) (s : State) (hk : π s = x) :
    π (refuseStore target gD st s) = x := by
  unfold refuseStore
  try dsimp only
  repeat' first
    | with_reducible first
      | assumption | refine (hNvm _ _).trans ?_ | apply status_frame | apply frame_foldl | apply frame_ite
    | split | intro _

theorem execStore_frame (hBatch : Blind π State.putBatch) (hBatchesDone : Blind π State.putBatchesDone)
    (hCw : Blind π State.putCw) (hEngines : Blind π State.putEngines) (hLong : Blind π State.putLong)
    (hNvm : Blind π State.putNvm) (hSuspended : Blind π State.putSuspended) (hTrace : Blind π State.putTrace)
    (target : Nat) (i : IssA) (gD : Reg) (gA : Reg) (gB : Reg) (job : State → List (BitVec 288) → Except Nat StoreJob)
    (s : State) (hk : π s = x) :
    FrameR π x (execStore target i gD gA gB job s) := by
  unfold execStore
  try dsimp only
  repeat' first
    | with_reducible first
      | assumption | refine (hNvm _ _).trans ?_ | apply status_frame | apply refuseStore_frame | apply issueHub_frame
      | apply waitAt_frame | apply frame_foldl | apply frame_ite | apply frameR_next
    | split | intro _

theorem execStoreStarter_frame (hBatch : Blind π State.putBatch) (hBatchesDone : Blind π State.putBatchesDone)
    (hCw : Blind π State.putCw) (hEngines : Blind π State.putEngines) (hLong : Blind π State.putLong)
    (hNvm : Blind π State.putNvm) (hSuspended : Blind π State.putSuspended) (hTrace : Blind π State.putTrace)
    (i : IssA) (gD : Reg) (gA : Reg) (gB : Reg) (s : State) (hk : π s = x) :
    FrameR π x (execStoreStarter i gD gA gB s) := by
  unfold execStoreStarter
  try dsimp only
  repeat' first
    | with_reducible first
      | assumption | apply execStore_frame | apply frame_foldl | apply frame_ite | apply frameR_next
    | split | intro _

theorem execStoreFw_frame (hBatch : Blind π State.putBatch) (hBatchesDone : Blind π State.putBatchesDone)
    (hCw : Blind π State.putCw) (hEngines : Blind π State.putEngines) (hLong : Blind π State.putLong)
    (hNvm : Blind π State.putNvm) (hSuspended : Blind π State.putSuspended) (hTrace : Blind π State.putTrace)
    (i : IssA) (gD : Reg) (gA : Reg) (gB : Reg) (sigOk : Bool) (s : State) (hk : π s = x) :
    FrameR π x (execStoreFw i gD gA gB sigOk s) := by
  unfold execStoreFw
  try dsimp only
  repeat' first
    | with_reducible first
      | assumption | apply execStore_frame | apply frame_foldl | apply frame_ite | apply frameR_next
    | split | intro _

theorem execStoreOwner_frame (hBatch : Blind π State.putBatch) (hBatchesDone : Blind π State.putBatchesDone)
    (hCw : Blind π State.putCw) (hEngines : Blind π State.putEngines) (hLong : Blind π State.putLong)
    (hNvm : Blind π State.putNvm) (hSuspended : Blind π State.putSuspended) (hTrace : Blind π State.putTrace)
    (i : IssA) (gD : Reg) (gA : Reg) (gB : Reg) (sigOk : Bool) (bindOk : Bool) (s : State) (hk : π s = x) :
    FrameR π x (execStoreOwner i gD gA gB sigOk bindOk s) := by
  unfold execStoreOwner
  try dsimp only
  repeat' first
    | with_reducible first
      | assumption | apply execStore_frame | apply frame_foldl | apply frame_ite | apply frameR_next
    | split | intro _

theorem execStoreFloors_frame (hBatch : Blind π State.putBatch) (hBatchesDone : Blind π State.putBatchesDone)
    (hCw : Blind π State.putCw) (hEngines : Blind π State.putEngines) (hLong : Blind π State.putLong)
    (hNvm : Blind π State.putNvm) (hSuspended : Blind π State.putSuspended) (hTrace : Blind π State.putTrace)
    (i : IssA) (gD : Reg) (gA : Reg) (gB : Reg) (s : State) (hk : π s = x) :
    FrameR π x (execStoreFloors i gD gA gB s) := by
  unfold execStoreFloors
  try dsimp only
  repeat' first
    | with_reducible first
      | assumption | apply execStore_frame | apply frame_foldl | apply frame_ite | apply frameR_next
    | split | intro _

theorem execStorePair_frame (hBatch : Blind π State.putBatch) (hBatchesDone : Blind π State.putBatchesDone)
    (hCw : Blind π State.putCw) (hEngines : Blind π State.putEngines) (hLong : Blind π State.putLong)
    (hNvm : Blind π State.putNvm) (hSuspended : Blind π State.putSuspended) (hTrace : Blind π State.putTrace)
    (i : IssA) (gD : Reg) (gA : Reg) (gB : Reg) (sigOk : Bool) (s : State) (hk : π s = x) :
    FrameR π x (execStorePair i gD gA gB sigOk s) := by
  unfold execStorePair
  try dsimp only
  repeat' first
    | with_reducible first
      | assumption | apply execStore_frame | apply frame_foldl | apply frame_ite | apply frameR_next
    | split | intro _

theorem changeOwner_frame (hBatch : Blind π State.putBatch) (hNvm : Blind π State.putNvm) (r : OwnerRec) (s : State)
    (hk : π s = x) :
    π (changeOwner r s) = x := by
  unfold changeOwner
  try dsimp only
  repeat' first
    | with_reducible first
      | assumption | refine (hNvm _ _).trans ?_ | apply batchMap_frame | apply frame_foldl | apply frame_ite
    | split | intro _

theorem storeJob_frame (hBatch : Blind π State.putBatch) (hClaimed : Blind π State.putClaimed)
    (hNvm : Blind π State.putNvm) (hResetDue : Blind π State.putResetDue) (j : StoreJob) (s : State) (hk : π s = x) :
    π (storeJob j s) = x := by
  unfold storeJob
  try dsimp only
  repeat' first
    | with_reducible first
      | assumption | refine (hResetDue _ _).trans ?_ | refine (hClaimed _ _).trans ?_ | refine (hNvm _ _).trans ?_
      | apply changeOwner_frame | apply frame_foldl | apply frame_ite
    | split | intro _

theorem execStoreComplete_frame (hBatch : Blind π State.putBatch) (hClaimed : Blind π State.putClaimed)
    (hCw : Blind π State.putCw) (hEngines : Blind π State.putEngines) (hIntPend : Blind π State.putIntPend)
    (hLong : Blind π State.putLong) (hMsixPba : Blind π State.putMsixPba) (hNvm : Blind π State.putNvm)
    (hOut : Blind π State.putOut) (hResetDue : Blind π State.putResetDue) (hSuspended : Blind π State.putSuspended)
    (s : State) (hk : π s = x) :
    FrameR π x (execStoreComplete s) := by
  unfold execStoreComplete
  try dsimp only
  repeat' first
    | with_reducible first
      | assumption | refine (hNvm _ _).trans ?_ | apply endLong_frame | apply storeJob_frame | apply cenInc_frame
      | apply frame_foldl | apply frame_ite | apply frameR_next
    | split | intro _

theorem execSeal_frame (hBatch : Blind π State.putBatch) (hBatchesDone : Blind π State.putBatchesDone)
    (hCw : Blind π State.putCw) (hEngines : Blind π State.putEngines) (hLong : Blind π State.putLong)
    (hSuspended : Blind π State.putSuspended) (hTrace : Blind π State.putTrace) (i : IssA) (gD : Reg) (s : State)
    (hk : π s = x) :
    FrameR π x (execSeal i gD s) := by
  unfold execSeal
  try dsimp only
  repeat' first
    | with_reducible first
      | assumption | apply status_frame | apply issueHub_frame | apply waitAt_frame | apply frame_foldl
      | apply frame_ite | apply frameR_next
    | split | intro _

theorem takeSeal_frame (hBatch : Blind π State.putBatch) (hEngines : Blind π State.putEngines)
    (hLong : Blind π State.putLong) (hSec : Blind π State.putSec) (hSuspended : Blind π State.putSuspended)
    (s : State) (hk : π s = x) :
    π (takeSeal s) = x := by
  unfold takeSeal
  try dsimp only
  repeat' first
    | with_reducible first
      | assumption | refine (hSec _ _).trans ?_ | apply endLong_frame | apply batchMap_frame | apply frame_foldl
      | apply frame_ite
    | split | intro _

theorem execAttest_frame (hBatch : Blind π State.putBatch) (hBatchesDone : Blind π State.putBatchesDone)
    (hCw : Blind π State.putCw) (hEngines : Blind π State.putEngines) (hFreeUses : Blind π State.putFreeUses)
    (hScratch : Blind π State.putScratch) (hSuspended : Blind π State.putSuspended) (hTrace : Blind π State.putTrace)
    (i : IssA) (gD : Reg) (gA : Reg) (gB : Reg) (s : State) (hk : π s = x) :
    FrameR π x (execAttest i gD gA gB s) := by
  unfold execAttest
  try dsimp only
  repeat' first
    | with_reducible first
      | assumption | apply scratchPut_frame | apply status_frame | apply spend_frame | apply issueHub_frame
      | apply frame_foldl | apply frame_ite | apply frameR_next
    | split | intro _

theorem execLoafLoad_frame (hBatch : Blind π State.putBatch) (hBatchesDone : Blind π State.putBatchesDone)
    (hCw : Blind π State.putCw) (hEngines : Blind π State.putEngines) (hIntPend : Blind π State.putIntPend)
    (hLong : Blind π State.putLong) (hMsixPba : Blind π State.putMsixPba) (hOut : Blind π State.putOut)
    (hSuspended : Blind π State.putSuspended) (hTrace : Blind π State.putTrace) (i : IssA) (gD : Reg) (gA : Reg)
    (gB : Reg) (sigOk : Bool) (s : State) (hk : π s = x) :
    FrameR π x (execLoafLoad i gD gA gB sigOk s) := by
  unfold execLoafLoad
  try dsimp only
  repeat' first
    | with_reducible first
      | assumption | apply status_frame | apply issueHub_frame | apply cenInc_frame | apply waitAt_frame
      | apply frame_foldl | apply frame_ite | apply frameR_next
    | split | intro _

theorem execLoafLoadComplete_frame (hEngines : Blind π State.putEngines) (hLoafNext : Blind π State.putLoafNext)
    (hLong : Blind π State.putLong) (hSuspended : Blind π State.putSuspended) (s : State) (hk : π s = x) :
    FrameR π x (execLoafLoadComplete s) := by
  unfold execLoafLoadComplete
  try dsimp only
  repeat' first
    | with_reducible first
      | assumption | refine (hLoafNext _ _).trans ?_ | apply endLong_frame | apply frame_foldl | apply frame_ite
      | apply frameR_next
    | split | intro _

theorem execKeyGen_frame (hBatch : Blind π State.putBatch) (hBatchesDone : Blind π State.putBatchesDone)
    (hCw : Blind π State.putCw) (hEngines : Blind π State.putEngines) (hFreeUses : Blind π State.putFreeUses)
    (hScratch : Blind π State.putScratch) (hSec : Blind π State.putSec) (hSuspended : Blind π State.putSuspended)
    (hTrace : Blind π State.putTrace) (i : IssA) (gD : Reg) (gB : Reg) (slot : Fin 4) (s : State) (hk : π s = x) :
    FrameR π x (execKeyGen i gD gB slot s) := by
  unfold execKeyGen
  try dsimp only
  repeat' first
    | with_reducible first
      | assumption | refine (hSec _ _).trans ?_ | apply scratchPut_frame | apply status_frame | apply spend_frame
      | apply issueHub_frame | apply frame_foldl | apply frame_ite | apply frameR_next
    | split | intro _

theorem keyUse_frame (hBatch : Blind π State.putBatch) (hBatchesDone : Blind π State.putBatchesDone)
    (hCw : Blind π State.putCw) (hEngines : Blind π State.putEngines) (hFreeUses : Blind π State.putFreeUses)
    (hScratch : Blind π State.putScratch) (hSuspended : Blind π State.putSuspended) (hTrace : Blind π State.putTrace)
    (i : IssA) (gD : Reg) (gA : Reg) (gB : Reg) (slot : Nat) (inLines : Nat) (outLines : Nat) (out : State → List Nat)
    (s : State) (hk : π s = x) :
    FrameR π x (keyUse i gD gA gB slot inLines outLines out s) := by
  unfold keyUse
  try dsimp only
  repeat' first
    | with_reducible first
      | assumption | apply scratchPut_frame | apply status_frame | apply spend_frame | apply issueHub_frame
      | apply frame_foldl | apply frame_ite | apply frameR_next
    | split | intro _

theorem execKeyUseSign_frame (hBatch : Blind π State.putBatch) (hBatchesDone : Blind π State.putBatchesDone)
    (hCw : Blind π State.putCw) (hEngines : Blind π State.putEngines) (hFreeUses : Blind π State.putFreeUses)
    (hScratch : Blind π State.putScratch) (hSuspended : Blind π State.putSuspended) (hTrace : Blind π State.putTrace)
    (i : IssA) (gD : Reg) (gA : Reg) (gB : Reg) (slot : Fin 4) (s : State) (hk : π s = x) :
    FrameR π x (execKeyUseSign i gD gA gB slot s) := by
  unfold execKeyUseSign
  try dsimp only
  repeat' first
    | with_reducible first
      | assumption | apply keyUse_frame | apply frame_foldl | apply frame_ite | apply frameR_next
    | split | intro _

theorem execKeyUseCertify_frame (hBatch : Blind π State.putBatch) (hBatchesDone : Blind π State.putBatchesDone)
    (hCw : Blind π State.putCw) (hEngines : Blind π State.putEngines) (hFreeUses : Blind π State.putFreeUses)
    (hScratch : Blind π State.putScratch) (hSuspended : Blind π State.putSuspended) (hTrace : Blind π State.putTrace)
    (i : IssA) (gD : Reg) (gA : Reg) (gB : Reg) (slot : Fin 4) (s : State) (hk : π s = x) :
    FrameR π x (execKeyUseCertify i gD gA gB slot s) := by
  unfold execKeyUseCertify
  try dsimp only
  repeat' first
    | with_reducible first
      | assumption | apply keyUse_frame | apply frame_foldl | apply frame_ite | apply frameR_next
    | split | intro _

theorem execKeyUseAgree_frame (hBatch : Blind π State.putBatch) (hBatchesDone : Blind π State.putBatchesDone)
    (hCw : Blind π State.putCw) (hEngines : Blind π State.putEngines) (hFreeUses : Blind π State.putFreeUses)
    (hScratch : Blind π State.putScratch) (hSuspended : Blind π State.putSuspended) (hTrace : Blind π State.putTrace)
    (i : IssA) (gD : Reg) (gA : Reg) (gB : Reg) (slot : Fin 4) (s : State) (hk : π s = x) :
    FrameR π x (execKeyUseAgree i gD gA gB slot s) := by
  unfold execKeyUseAgree
  try dsimp only
  repeat' first
    | with_reducible first
      | assumption | apply keyUse_frame | apply frame_foldl | apply frame_ite | apply frameR_next
    | split | intro _

theorem execMateSend_frame (hBatch : Blind π State.putBatch) (hBatchesDone : Blind π State.putBatchesDone)
    (hCw : Blind π State.putCw) (hEngines : Blind π State.putEngines) (hIntPend : Blind π State.putIntPend)
    (hLink : Blind π State.putLink) (hMsixPba : Blind π State.putMsixPba) (hOut : Blind π State.putOut)
    (hSuspended : Blind π State.putSuspended) (hTrace : Blind π State.putTrace) (i : IssA) (gD : Reg) (gA : Reg)
    (gB : Reg) (s : State) (hk : π s = x) :
    FrameR π x (execMateSend i gD gA gB s) := by
  unfold execMateSend
  try dsimp only
  repeat' first
    | with_reducible first
      | assumption | apply status_frame | apply issueHub_frame | apply mateAppend_frame | apply frame_foldl
      | apply frame_ite | apply frameR_next
    | split | intro _

theorem execSessionClose_frame (hBatch : Blind π State.putBatch) (hBatchesDone : Blind π State.putBatchesDone)
    (hCw : Blind π State.putCw) (hEngines : Blind π State.putEngines) (hSuspended : Blind π State.putSuspended)
    (hTrace : Blind π State.putTrace) (i : IssA) (gD : Reg) (s : State) (hk : π s = x) :
    FrameR π x (execSessionClose i gD s) := by
  unfold execSessionClose
  try dsimp only
  repeat' first
    | with_reducible first
      | assumption | apply status_frame | apply batchMap_frame | apply issueHub_frame | apply frame_foldl
      | apply frame_ite | apply frameR_next
    | split | intro _

theorem execSessionRenew_frame (hBatch : Blind π State.putBatch) (hBatchesDone : Blind π State.putBatchesDone)
    (hCw : Blind π State.putCw) (hEngines : Blind π State.putEngines) (hFreeUses : Blind π State.putFreeUses)
    (hOut : Blind π State.putOut) (hSess : Blind π State.putSess) (hSuspended : Blind π State.putSuspended)
    (hTrace : Blind π State.putTrace) (i : IssA) (gD : Reg) (s : State) (hk : π s = x) :
    FrameR π x (execSessionRenew i gD s) := by
  unfold execSessionRenew
  try dsimp only
  repeat' first
    | with_reducible first
      | assumption | apply spendFree_frame | apply status_frame | apply emit_frame | apply issueHub_frame
      | apply sessPut_frame | apply frame_foldl | apply frame_ite | apply frameR_next
    | split | intro _

end Sys2Proof.Machine
end

