-- ==== Sys2Proof/Laws/FrameGuest.lean ====
section
/-! SUPPORT. What the operations of Machine/Guest.lean leave unchanged. -/

set_option linter.unusedTactic false
set_option linter.unreachableTactic false

namespace Sys2Proof.Machine

variable {β : Type} {π : State → β} {x : β}

theorem guestPut_frame (hGuest : Blind π State.putGuest) (g : Guest) (s : State) (hk : π s = x) :
    π (guestPut g s) = x := by
  unfold guestPut
  try dsimp only
  repeat' first
    | with_reducible first
      | assumption | refine (hGuest _ _).trans ?_ | apply frame_foldl | apply frame_ite
    | split | intro _

theorem guestReply_frame (hOut : Blind π State.putOut) (bytes : List Nat) (s : State) (hk : π s = x) :
    π (guestReply bytes s) = x := by
  unfold guestReply
  try dsimp only
  repeat' first
    | with_reducible first
      | assumption | apply emit_frame | apply frame_foldl | apply frame_ite
    | split | intro _

theorem guestIo_frame (hGuest : Blind π State.putGuest) (hOut : Blind π State.putOut) (cmd : Nat) (params : Nat)
    (io : GuestIo) (take : List Nat → State → State) (give : Nat → State → State) (s : State) (hk : π s = x)
    (htake : ∀ y0 y1, π y1 = x → π (take y0 y1) = x) (hgive : ∀ y0 y1, π y1 = x → π (give y0 y1) = x) :
    FrameR π x (guestIo cmd params io take give s) := by
  unfold guestIo
  try dsimp only
  repeat' first
    | with_reducible first
      | assumption | apply emit_frame | apply guestPut_frame | apply htake | apply hgive | apply frame_foldl
      | apply frame_ite | apply frameR_next
    | split | intro _

theorem guestWords_frame (hCw : Blind π State.putCw) (hHq : Blind π State.putHq) (hIntPend : Blind π State.putIntPend)
    (hMsixPba : Blind π State.putMsixPba) (hOut : Blind π State.putOut) (hViolated : Blind π State.putViolated)
    (a : Nat) (a1 : Nat) (a2 : State) (hk : π a2 = x) :
    π (guestWords a a1 a2).2 = x := by
  induction a1 generalizing a a2 with
  | zero => exact hk
  | succ n ih =>
    unfold guestWords
    try dsimp only
    repeat' first
      | with_reducible first
        | assumption | apply ih | apply violation_frame | apply frame_foldl | apply frame_ite
      | split | intro _

theorem execGuestAddr_frame (hCw : Blind π State.putCw) (hGuest : Blind π State.putGuest) (hHq : Blind π State.putHq)
    (hIntPend : Blind π State.putIntPend) (hMsixPba : Blind π State.putMsixPba) (hOut : Blind π State.putOut)
    (hViolated : Blind π State.putViolated) (io : GuestIo) (s : State) (hk : π s = x) :
    FrameR π x (execGuestAddr io s) := by
  unfold execGuestAddr
  try dsimp only
  repeat' first
    | with_reducible first
      | assumption | apply guestReply_frame | apply guestPut_frame | apply guestIo_frame | apply guestWords_frame
      | apply frame_foldl | apply frame_ite | apply frameR_next
    | split | intro _

theorem execGuestAttNonce_frame (hGuest : Blind π State.putGuest) (hOut : Blind π State.putOut) (io : GuestIo)
    (s : State) (hk : π s = x) :
    FrameR π x (execGuestAttNonce io s) := by
  unfold execGuestAttNonce
  try dsimp only
  repeat' first
    | with_reducible first
      | assumption | apply emit_frame | apply guestPut_frame | apply guestIo_frame | apply frame_foldl
      | apply frame_ite | apply frameR_next
    | split | intro _

theorem execGuestAttStat_frame (hGuest : Blind π State.putGuest) (hOut : Blind π State.putOut) (io : GuestIo)
    (s : State) (hk : π s = x) :
    FrameR π x (execGuestAttStat io s) := by
  unfold execGuestAttStat
  try dsimp only
  repeat' first
    | with_reducible first
      | assumption | apply guestReply_frame | apply guestIo_frame | apply frame_foldl | apply frame_ite
      | apply frameR_next
    | split | intro _

theorem execGuestAttOff_frame (hGuest : Blind π State.putGuest) (hOut : Blind π State.putOut) (io : GuestIo)
    (s : State) (hk : π s = x) :
    FrameR π x (execGuestAttOff io s) := by
  unfold execGuestAttOff
  try dsimp only
  repeat' first
    | with_reducible first
      | assumption | apply guestReply_frame | apply guestPut_frame | apply guestIo_frame | apply frame_foldl
      | apply frame_ite | apply frameR_next
    | split | intro _

theorem execGuestSclTimeout_frame (hGuest : Blind π State.putGuest) (s : State) (hk : π s = x) :
    FrameR π x (execGuestSclTimeout s) := by
  unfold execGuestSclTimeout
  try dsimp only
  repeat' first
    | with_reducible first
      | assumption | apply guestPut_frame | apply frame_foldl | apply frame_ite | apply frameR_next
    | split | intro _

theorem execAttestComplete_frame (hFreeUses : Blind π State.putFreeUses) (hGuest : Blind π State.putGuest) (s : State)
    (hk : π s = x) :
    FrameR π x (execAttestComplete s) := by
  unfold execAttestComplete
  try dsimp only
  repeat' first
    | with_reducible first
      | assumption | apply spend_frame | apply guestPut_frame | apply frame_foldl | apply frame_ite
      | apply frameR_next
    | split | intro _

theorem scan_frame (hJtag : Blind π State.putJtag) (hOut : Blind π State.putOut) (code : Nat) (lands : List Bool)
    (tdi : List Bool) (s : State) (hk : π s = x) :
    π (scan code lands tdi s) = x := by
  unfold scan
  try dsimp only
  repeat' first
    | with_reducible first
      | assumption | refine (hJtag _ _).trans ?_ | apply emit_frame | apply frame_foldl | apply frame_ite
    | split | intro _

theorem driveLands_frame (hOut : Blind π State.putOut) (code : Nat) (s : State) (hk : π s = x) :
    π (driveLands code s) = x := by
  unfold driveLands
  try dsimp only
  repeat' first
    | with_reducible first
      | assumption | apply emit_frame | apply frame_foldl | apply frame_ite
    | split | intro _

theorem execExtest_frame (hJtag : Blind π State.putJtag) (hOut : Blind π State.putOut) (lands : List Bool)
    (tdi : List Bool) (s : State) (hk : π s = x) :
    FrameR π x (execExtest lands tdi s) := by
  unfold execExtest
  try dsimp only
  repeat' first
    | with_reducible first
      | assumption | apply scan_frame | apply driveLands_frame | apply frame_foldl | apply frame_ite
      | apply frameR_next
    | split | intro _

theorem execSamplePreload_frame (hJtag : Blind π State.putJtag) (hOut : Blind π State.putOut) (lands : List Bool)
    (tdi : List Bool) (s : State) (hk : π s = x) :
    FrameR π x (execSamplePreload lands tdi s) := by
  unfold execSamplePreload
  try dsimp only
  repeat' first
    | with_reducible first
      | assumption | apply scan_frame | apply frame_foldl | apply frame_ite | apply frameR_next
    | split | intro _

theorem execExtestPulse_frame (hJtag : Blind π State.putJtag) (hOut : Blind π State.putOut) (lands : List Bool)
    (tdi : List Bool) (s : State) (hk : π s = x) :
    FrameR π x (execExtestPulse lands tdi s) := by
  unfold execExtestPulse
  try dsimp only
  repeat' first
    | with_reducible first
      | assumption | apply scan_frame | apply driveLands_frame | apply frame_foldl | apply frame_ite
      | apply frameR_next
    | split | intro _

theorem execExtestTrain_frame (hJtag : Blind π State.putJtag) (hOut : Blind π State.putOut) (lands : List Bool)
    (tdi : List Bool) (s : State) (hk : π s = x) :
    FrameR π x (execExtestTrain lands tdi s) := by
  unfold execExtestTrain
  try dsimp only
  repeat' first
    | with_reducible first
      | assumption | apply scan_frame | apply driveLands_frame | apply frame_foldl | apply frame_ite
      | apply frameR_next
    | split | intro _

theorem execBypass_frame (hJtag : Blind π State.putJtag) (hOut : Blind π State.putOut) (tdi : List Bool) (s : State)
    (hk : π s = x) :
    FrameR π x (execBypass tdi s) := by
  unfold execBypass
  try dsimp only
  repeat' first
    | with_reducible first
      | assumption | refine (hJtag _ _).trans ?_ | apply emit_frame | apply frame_foldl | apply frame_ite
      | apply frameR_next
    | split | intro _

theorem execDbgNonce_frame (hJtag : Blind π State.putJtag) (hOut : Blind π State.putOut) (s : State) (hk : π s = x) :
    FrameR π x (execDbgNonce s) := by
  unfold execDbgNonce
  try dsimp only
  repeat' first
    | with_reducible first
      | assumption | refine (hJtag _ _).trans ?_ | apply emit_frame | apply frame_foldl | apply frame_ite
      | apply frameR_next
    | split | intro _

theorem execDbgToken_frame (hD : BlindDomains π) (hBank : Blind π State.putBank) (hBatch : Blind π State.putBatch)
    (hBatchesDone : Blind π State.putBatchesDone) (hDue : Blind π State.putDue)
    (hFreeUses : Blind π State.putFreeUses) (hHq : Blind π State.putHq) (hIntPend : Blind π State.putIntPend)
    (hJtag : Blind π State.putJtag) (hLink : Blind π State.putLink) (hLong : Blind π State.putLong)
    (hMsixPba : Blind π State.putMsixPba) (hOut : Blind π State.putOut) (hRdn : Blind π State.putRdn)
    (hRings : Blind π State.putRings) (hSec : Blind π State.putSec) (hSess : Blind π State.putSess)
    (hSpare : Blind π State.putSpare) (hSuspended : Blind π State.putSuspended)
    (hViolated : Blind π State.putViolated) (lines : List (BitVec 288)) (sigOk : Bool) (s : State) (hk : π s = x) :
    FrameR π x (execDbgToken lines sigOk s) := by
  obtain ⟨hAudio, hCells, hCellsT0, hChkMax, hCq, hCtx, hCtxAt, hCw, hDeck, hDecks, hDoms, hEngines, hFlex, hFramers,
    hGroups, hHls, hLanes, hMons, hOh, hOhT0, hPairs, hPorts, hPrfRings, hQuads, hRefClk, hRsz, hSels, hTrackers,
    hWords⟩ := id hD
  unfold execDbgToken
  try dsimp only
  repeat' first
    | with_reducible first
      | assumption | refine (hSec _ _).trans ?_ | refine (hBank _ _).trans ?_ | refine (hJtag _ _).trans ?_
      | refine (hSpare _ _).trans ?_ | apply violation_frame | apply retarget_frame | apply spend_frame
      | apply linkLeave_frame | apply endSessions_frame | apply frame_foldl | apply frame_ite | apply frameR_next
    | split | intro _

theorem debugBarred_frame (hCw : Blind π State.putCw) (hHq : Blind π State.putHq)
    (hIntPend : Blind π State.putIntPend) (hJtag : Blind π State.putJtag) (hMsixPba : Blind π State.putMsixPba)
    (hOut : Blind π State.putOut) (hViolated : Blind π State.putViolated) (s : State) (hk : π s = x) :
    π (debugBarred s) = x := by
  unfold debugBarred
  try dsimp only
  repeat' first
    | with_reducible first
      | assumption | refine (hJtag _ _).trans ?_ | apply violation_frame | apply emit_frame | apply frame_foldl
      | apply frame_ite
    | split | intro _

theorem execDbgCfg_frame (hCw : Blind π State.putCw) (hHq : Blind π State.putHq) (hIntPend : Blind π State.putIntPend)
    (hJtag : Blind π State.putJtag) (hMsixPba : Blind π State.putMsixPba) (hOut : Blind π State.putOut)
    (hViolated : Blind π State.putViolated) (write : Bool) (addr : BitVec 24) (data : Word) (s : State) (hk : π s = x) :
    FrameR π x (execDbgCfg write addr data s) := by
  unfold execDbgCfg
  try dsimp only
  repeat' first
    | with_reducible first
      | assumption | refine (hJtag _ _).trans ?_ | apply violation_frame | apply debugBarred_frame | apply emit_frame
      | apply frame_foldl | apply frame_ite | apply frameR_next
    | split | intro _

theorem execDbgTrace_frame (hCw : Blind π State.putCw) (hHq : Blind π State.putHq)
    (hIntPend : Blind π State.putIntPend) (hJtag : Blind π State.putJtag) (hMsixPba : Blind π State.putMsixPba)
    (hOut : Blind π State.putOut) (hViolated : Blind π State.putViolated) (s : State) (hk : π s = x) :
    FrameR π x (execDbgTrace s) := by
  unfold execDbgTrace
  try dsimp only
  repeat' first
    | with_reducible first
      | assumption | refine (hJtag _ _).trans ?_ | apply debugBarred_frame | apply emit_frame | apply frame_foldl
      | apply frame_ite | apply frameR_next
    | split | intro _

theorem applyTraceSel_frame (hJtag : Blind π State.putJtag) (hTrace : Blind π State.putTrace) (v : Word) (s : State)
    (hk : π s = x) :
    π (applyTraceSel v s) = x := by
  unfold applyTraceSel
  try dsimp only
  repeat' first
    | with_reducible first
      | assumption | refine (hJtag _ _).trans ?_ | refine (hTrace _ _).trans ?_ | apply frame_foldl | apply frame_ite
    | split | intro _

theorem execTraceSel_frame (hJtag : Blind π State.putJtag) (hTrace : Blind π State.putTrace) (v : Word) (s : State)
    (hk : π s = x) :
    FrameR π x (execTraceSel v s) := by
  unfold execTraceSel
  try dsimp only
  repeat' first
    | with_reducible first
      | assumption | apply applyTraceSel_frame | apply frame_foldl | apply frame_ite | apply frameR_next
    | split | intro _

end Sys2Proof.Machine
end

