-- ==== Sys2Proof/Laws/FrameHostPort.lean ====
section
/-! SUPPORT. What the operations of Machine/HostPort.lean leave unchanged. -/

set_option linter.unusedTactic false
set_option linter.unreachableTactic false

namespace Sys2Proof.Machine

variable {β : Type} {π : State → β} {x : β}

theorem bar0Violation_frame (hCw : Blind π State.putCw) (hHq : Blind π State.putHq)
    (hIntPend : Blind π State.putIntPend) (hMsixPba : Blind π State.putMsixPba) (hOut : Blind π State.putOut)
    (hViolated : Blind π State.putViolated) (off : Nat) (s : State) (hk : π s = x) :
    π (bar0Violation off s) = x := by
  unfold bar0Violation
  try dsimp only
  repeat' first
    | with_reducible first
      | assumption | apply violation_frame | apply frame_foldl | apply frame_ite
    | split | intro _

theorem execBar0Violation_frame (hCw : Blind π State.putCw) (hHq : Blind π State.putHq)
    (hIntPend : Blind π State.putIntPend) (hMsixPba : Blind π State.putMsixPba) (hOut : Blind π State.putOut)
    (hViolated : Blind π State.putViolated) (off : BitVec 24) (s : State) (hk : π s = x) :
    FrameR π x (execBar0Violation off s) := by
  unfold execBar0Violation
  try dsimp only
  repeat' first
    | with_reducible first
      | assumption | apply bar0Violation_frame | apply frame_foldl | apply frame_ite | apply frameR_next
    | split | intro _

theorem execCqBaseWrite_frame (hCw : Blind π State.putCw) (hHq : Blind π State.putHq)
    (hIntPend : Blind π State.putIntPend) (hMsixPba : Blind π State.putMsixPba) (hOut : Blind π State.putOut)
    (hRings : Blind π State.putRings) (hViolated : Blind π State.putViolated) (q : CmdRingId) (field : Fin 3)
    (v : BitVec 32) (s : State) (hk : π s = x) :
    FrameR π x (execCqBaseWrite q field v s) := by
  unfold execCqBaseWrite
  try dsimp only
  repeat' first
    | with_reducible first
      | assumption | apply bar0Violation_frame | apply ringCmdPut_frame | apply frame_foldl | apply frame_ite
      | apply frameR_next
    | split | intro _

theorem execCqTail_frame (hCw : Blind π State.putCw) (hHq : Blind π State.putHq) (hIntPend : Blind π State.putIntPend)
    (hMsixPba : Blind π State.putMsixPba) (hOut : Blind π State.putOut) (hRings : Blind π State.putRings)
    (hViolated : Blind π State.putViolated) (q : CmdRingId) (v : BitVec 32) (s : State) (hk : π s = x) :
    FrameR π x (execCqTail q v s) := by
  unfold execCqTail
  try dsimp only
  repeat' first
    | with_reducible first
      | assumption | apply bar0Violation_frame | apply ringCmdPut_frame | apply frame_foldl | apply frame_ite
      | apply frameR_next
    | split | intro _

theorem execCommandFetch_frame (hIntPend : Blind π State.putIntPend) (hMsixPba : Blind π State.putMsixPba)
    (hOut : Blind π State.putOut) (hRings : Blind π State.putRings) (q : CmdRingId) (e : CmdEntry) (s : State)
    (hk : π s = x) :
    FrameR π x (execCommandFetch q e s) := by
  unfold execCommandFetch
  try dsimp only
  repeat' first
    | with_reducible first
      | assumption | apply ringCmdPut_frame | apply intSet_frame | apply frame_foldl | apply frame_ite
      | apply frameR_next
    | split | intro _

theorem tagFails_frame (hCw : Blind π State.putCw) (hHq : Blind π State.putHq) (hIntPend : Blind π State.putIntPend)
    (hMsixPba : Blind π State.putMsixPba) (hOut : Blind π State.putOut) (hViolated : Blind π State.putViolated)
    (q : Nat) (s : State) (hk : π s = x) :
    π (tagFails q s) = x := by
  unfold tagFails
  try dsimp only
  repeat' first
    | with_reducible first
      | assumption | apply violation_frame | apply frame_foldl | apply frame_ite
    | split | intro _

theorem refuseSession_frame (hCw : Blind π State.putCw) (hHq : Blind π State.putHq)
    (hIntPend : Blind π State.putIntPend) (hMsixPba : Blind π State.putMsixPba) (hOut : Blind π State.putOut)
    (hViolated : Blind π State.putViolated) (q : Nat) (s : State) (hk : π s = x) :
    π (refuseSession q s) = x := by
  unfold refuseSession
  try dsimp only
  repeat' first
    | with_reducible first
      | assumption | apply violation_frame | apply frame_foldl | apply frame_ite
    | split | intro _

theorem popEntry_frame (hRings : Blind π State.putRings) (q : Nat) (s : State) (hk : π s = x) :
    π (popEntry q s) = x := by
  unfold popEntry
  try dsimp only
  repeat' first
    | with_reducible first
      | assumption | apply ringCmdPut_frame | apply frame_foldl | apply frame_ite
    | split | intro _

theorem openSession_frame (hBatch : Blind π State.putBatch) (hBatchesDone : Blind π State.putBatchesDone)
    (hEngines : Blind π State.putEngines) (hLong : Blind π State.putLong) (hRings : Blind π State.putRings)
    (hSess : Blind π State.putSess) (hSuspended : Blind π State.putSuspended) (q : Nat) (own : Bool) (reply : Nat)
    (s : State) (hk : π s = x) :
    π (openSession q own reply s) = x := by
  unfold openSession
  try dsimp only
  repeat' first
    | with_reducible first
      | assumption | apply endSession_frame | apply sessPut_frame | apply frame_foldl | apply frame_ite
    | split | intro _

theorem replyLines_frame (hOut : Blind π State.putOut) (addr : Nat) (n : Nat) (bytes : List Nat) (s : State)
    (hk : π s = x) :
    π (replyLines addr n bytes s) = x := by
  unfold replyLines
  try dsimp only
  repeat' first
    | with_reducible first
      | assumption | apply emit_frame | apply frame_foldl | apply frame_ite
    | split | intro _

theorem openReply_frame (hFreeUses : Blind π State.putFreeUses) (hOut : Blind π State.putOut) (addr : Nat) (s : State)
    (hk : π s = x) :
    π (openReply addr s) = x := by
  unfold openReply
  try dsimp only
  repeat' first
    | with_reducible first
      | assumption | apply spend_frame | apply replyLines_frame | apply frame_foldl | apply frame_ite
    | split | intro _

theorem execCqOpen_frame (hBatch : Blind π State.putBatch) (hBatchesDone : Blind π State.putBatchesDone)
    (hCw : Blind π State.putCw) (hEngines : Blind π State.putEngines) (hFreeUses : Blind π State.putFreeUses)
    (hHq : Blind π State.putHq) (hIntPend : Blind π State.putIntPend) (hLong : Blind π State.putLong)
    (hMsixPba : Blind π State.putMsixPba) (hOut : Blind π State.putOut) (hRings : Blind π State.putRings)
    (hSess : Blind π State.putSess) (hSuspended : Blind π State.putSuspended) (hViolated : Blind π State.putViolated)
    (q : CmdRingId) (s : State) (hk : π s = x) :
    FrameR π x (execCqOpen q s) := by
  unfold execCqOpen
  try dsimp only
  repeat' first
    | with_reducible first
      | assumption | apply refuseSession_frame | apply openSession_frame | apply openReply_frame
      | apply popEntry_frame | apply sessPut_frame | apply frame_foldl | apply frame_ite | apply frameR_next
    | split | intro _

theorem execCqProof_frame (hBatch : Blind π State.putBatch) (hBatchesDone : Blind π State.putBatchesDone)
    (hCw : Blind π State.putCw) (hEngines : Blind π State.putEngines) (hHq : Blind π State.putHq)
    (hIntPend : Blind π State.putIntPend) (hLong : Blind π State.putLong) (hMsixPba : Blind π State.putMsixPba)
    (hOut : Blind π State.putOut) (hRings : Blind π State.putRings) (hSess : Blind π State.putSess)
    (hSuspended : Blind π State.putSuspended) (hViolated : Blind π State.putViolated) (q : CmdRingId) (s : State)
    (hk : π s = x) :
    FrameR π x (execCqProof q s) := by
  unfold execCqProof
  try dsimp only
  repeat' first
    | with_reducible first
      | assumption | apply refuseSession_frame | apply openSession_frame | apply replyLines_frame
      | apply popEntry_frame | apply sessPut_frame | apply frame_foldl | apply frame_ite | apply frameR_next
    | split | intro _

theorem execProofTimeout_frame (hCw : Blind π State.putCw) (hHq : Blind π State.putHq)
    (hIntPend : Blind π State.putIntPend) (hMsixPba : Blind π State.putMsixPba) (hOut : Blind π State.putOut)
    (hSess : Blind π State.putSess) (hViolated : Blind π State.putViolated) (q : CmdRingId) (s : State) (hk : π s = x) :
    FrameR π x (execProofTimeout q s) := by
  unfold execProofTimeout
  try dsimp only
  repeat' first
    | with_reducible first
      | assumption | apply refuseSession_frame | apply sessPut_frame | apply frame_foldl | apply frame_ite
      | apply frameR_next
    | split | intro _

theorem refuseBatch_frame (hBatchIds : Blind π State.putBatchIds) (hBatchesDone : Blind π State.putBatchesDone)
    (hCw : Blind π State.putCw) (hIntPend : Blind π State.putIntPend) (hMsixPba : Blind π State.putMsixPba)
    (hOut : Blind π State.putOut) (b : Batch) (st : Nat) (bundle : Nat) (s : State) (hk : π s = x) :
    π (refuseBatch b st bundle s) = x := by
  unfold refuseBatch
  try dsimp only
  repeat' first
    | with_reducible first
      | assumption | refine (hBatchesDone _ _).trans ?_ | refine (hBatchIds _ _).trans ?_ | apply cenInc_frame
      | apply frame_foldl | apply frame_ite
    | split | intro _

theorem checkBatch_frame (hBatchIds : Blind π State.putBatchIds) (hBatchesDone : Blind π State.putBatchesDone)
    (hCw : Blind π State.putCw) (hHq : Blind π State.putHq) (hIntPend : Blind π State.putIntPend)
    (hMsixPba : Blind π State.putMsixPba) (hOut : Blind π State.putOut) (hRings : Blind π State.putRings)
    (hScratch : Blind π State.putScratch) (hSess : Blind π State.putSess) (hViolated : Blind π State.putViolated)
    (q : Nat) (e : CmdEntry) (b : BatchBuf) (s : State) (hk : π s = x) :
    π (checkBatch q e b s) = x := by
  unfold checkBatch
  try dsimp only
  repeat' first
    | with_reducible first
      | assumption | apply scratchPut_frame | apply tagFails_frame | apply ringCmdPut_frame | apply sessPut_frame
      | apply refuseBatch_frame | apply frame_foldl | apply frame_ite
    | split | intro _

theorem execCqBatch_frame (hBatchIds : Blind π State.putBatchIds) (hBatchesDone : Blind π State.putBatchesDone)
    (hCw : Blind π State.putCw) (hHq : Blind π State.putHq) (hIntPend : Blind π State.putIntPend)
    (hMsixPba : Blind π State.putMsixPba) (hOut : Blind π State.putOut) (hRings : Blind π State.putRings)
    (hScratch : Blind π State.putScratch) (hSess : Blind π State.putSess) (hViolated : Blind π State.putViolated)
    (q : CmdRingId) (s : State) (hk : π s = x) :
    FrameR π x (execCqBatch q s) := by
  unfold execCqBatch
  try dsimp only
  repeat' first
    | with_reducible first
      | assumption | apply tagFails_frame | apply checkBatch_frame | apply popEntry_frame | apply frame_foldl
      | apply frame_ite | apply frameR_next
    | split | intro _

theorem startRun_frame (hEngines : Blind π State.putEngines) (e : Nat) (run : Running) (s : State) (hk : π s = x) :
    π (startRun e run s) = x := by
  unfold startRun
  try dsimp only
  repeat' first
    | with_reducible first
      | assumption | apply engPut_frame | apply frame_foldl | apply frame_ite
    | split | intro _

theorem execBatchStart_frame (hBatch : Blind π State.putBatch) (hBatchIds : Blind π State.putBatchIds)
    (hEngines : Blind π State.putEngines) (hLastRing : Blind π State.putLastRing) (hRings : Blind π State.putRings)
    (s : State) (hk : π s = x) :
    FrameR π x (execBatchStart s) := by
  unfold execBatchStart
  try dsimp only
  repeat' first
    | with_reducible first
      | assumption | refine (hBatchIds _ _).trans ?_ | refine (hBatch _ _).trans ?_ | refine (hLastRing _ _).trans ?_
      | apply ringCmdPut_frame | apply startRun_frame | apply frame_foldl | apply frame_ite | apply frameR_next
    | split | intro _

theorem placeCompletion_frame (hCw : Blind π State.putCw) (hFreeUses : Blind π State.putFreeUses)
    (hHq : Blind π State.putHq) (hIntPend : Blind π State.putIntPend) (hMsixPba : Blind π State.putMsixPba)
    (hOut : Blind π State.putOut) (b : BatchRun) (s : State) (hk : π s = x) :
    π (placeCompletion b s) = x := by
  unfold placeCompletion
  try dsimp only
  repeat' first
    | with_reducible first
      | assumption | apply spend_frame | apply emit_frame | apply hqAppend_frame | apply frame_foldl | apply frame_ite
    | split | intro _

theorem closeAfter_frame (hBatch : Blind π State.putBatch) (hBatchesDone : Blind π State.putBatchesDone)
    (hEngines : Blind π State.putEngines) (hLong : Blind π State.putLong) (hRings : Blind π State.putRings)
    (hSess : Blind π State.putSess) (hSuspended : Blind π State.putSuspended) (b : BatchRun) (s : State)
    (hk : π s = x) :
    π (closeAfter b s) = x := by
  unfold closeAfter
  try dsimp only
  repeat' first
    | with_reducible first
      | assumption | apply endSessions_frame | apply endSession_frame | apply frame_foldl | apply frame_ite
    | split | intro _

theorem placeCompletions_frame (hBatch : Blind π State.putBatch) (hBatchesDone : Blind π State.putBatchesDone)
    (hCw : Blind π State.putCw) (hEngines : Blind π State.putEngines) (hFreeUses : Blind π State.putFreeUses)
    (hHq : Blind π State.putHq) (hIntPend : Blind π State.putIntPend) (hLong : Blind π State.putLong)
    (hMsixPba : Blind π State.putMsixPba) (hOut : Blind π State.putOut) (hRings : Blind π State.putRings)
    (hSess : Blind π State.putSess) (hSuspended : Blind π State.putSuspended) (s : State) (hk : π s = x) :
    π (placeCompletions s) = x := by
  unfold placeCompletions
  try dsimp only
  repeat' first
    | with_reducible first
      | assumption | refine (hBatchesDone _ _).trans ?_ | apply closeAfter_frame | apply placeCompletion_frame
      | apply frame_foldl | apply frame_ite
    | split | intro _

theorem ringPut__frame (hHostRing : Blind π State.putHostRing) (q : Nat) (k : HostRing) (s : State) (hk : π s = x) :
    π (ringPut_ q k s) = x := by
  unfold ringPut_
  try dsimp only
  repeat' first
    | with_reducible first
      | assumption | refine (hHostRing _ _).trans ?_ | apply frame_foldl | apply frame_ite
    | split | intro _

theorem execHostRingWrite_frame (hHostRing : Blind π State.putHostRing) (hHq : Blind π State.putHq)
    (hIntPend : Blind π State.putIntPend) (hMsixPba : Blind π State.putMsixPba) (hOut : Blind π State.putOut)
    (q : HqId) (s : State) (hk : π s = x) :
    FrameR π x (execHostRingWrite q s) := by
  unfold execHostRingWrite
  try dsimp only
  repeat' first
    | with_reducible first
      | assumption | apply hqLevel_frame | apply hqPut_frame | apply emit_frame | apply ringPut__frame
      | apply intSet_frame | apply frame_foldl | apply frame_ite | apply frameR_next
    | split | intro _

theorem execHrCoalTimeout_frame (hHostRing : Blind π State.putHostRing) (hIntPend : Blind π State.putIntPend)
    (hMsixPba : Blind π State.putMsixPba) (hOut : Blind π State.putOut) (q : HqId) (s : State) (hk : π s = x) :
    FrameR π x (execHrCoalTimeout q s) := by
  unfold execHrCoalTimeout
  try dsimp only
  repeat' first
    | with_reducible first
      | assumption | apply ringPut__frame | apply intSet_frame | apply frame_foldl | apply frame_ite
      | apply frameR_next
    | split | intro _

theorem execHrHead_frame (hCw : Blind π State.putCw) (hHostRing : Blind π State.putHostRing)
    (hHq : Blind π State.putHq) (hIntPend : Blind π State.putIntPend) (hMsixPba : Blind π State.putMsixPba)
    (hOut : Blind π State.putOut) (hViolated : Blind π State.putViolated) (q : HqId) (v : BitVec 32) (s : State)
    (hk : π s = x) :
    FrameR π x (execHrHead q v s) := by
  unfold execHrHead
  try dsimp only
  repeat' first
    | with_reducible first
      | assumption | apply bar0Violation_frame | apply ringPut__frame | apply frame_foldl | apply frame_ite
      | apply frameR_next
    | split | intro _

theorem execHqCredit_frame (hCw : Blind π State.putCw) (hHq : Blind π State.putHq)
    (hIntPend : Blind π State.putIntPend) (hMsixPba : Blind π State.putMsixPba) (hOut : Blind π State.putOut)
    (hViolated : Blind π State.putViolated) (q : HqId) (v : BitVec 32) (s : State) (hk : π s = x) :
    FrameR π x (execHqCredit q v s) := by
  unfold execHqCredit
  try dsimp only
  repeat' first
    | with_reducible first
      | assumption | apply bar0Violation_frame | apply hqPut_frame | apply frame_foldl | apply frame_ite
      | apply frameR_next
    | split | intro _

theorem execIntClr_frame (hHostRing : Blind π State.putHostRing) (hIntPend : Blind π State.putIntPend) (v : BitVec 32)
    (s : State) (hk : π s = x) :
    FrameR π x (execIntClr v s) := by
  unfold execIntClr
  try dsimp only
  repeat' first
    | with_reducible first
      | assumption | refine (hIntPend _ _).trans ?_ | apply ringPut__frame | apply frame_foldl | apply frame_ite
      | apply frameR_next
    | split | intro _

theorem execPerstLAssert_frame (hBatch : Blind π State.putBatch) (hBatchesDone : Blind π State.putBatchesDone)
    (hEngines : Blind π State.putEngines) (hLong : Blind π State.putLong) (hPerst : Blind π State.putPerst)
    (hRings : Blind π State.putRings) (hSess : Blind π State.putSess) (hSuspended : Blind π State.putSuspended)
    (s : State) (hk : π s = x) :
    FrameR π x (execPerstLAssert s) := by
  unfold execPerstLAssert
  try dsimp only
  repeat' first
    | with_reducible first
      | assumption | refine (hPerst _ _).trans ?_ | apply endSessions_frame | apply frame_foldl | apply frame_ite
      | apply frameR_next
    | split | intro _

theorem execPerstLRelease_frame (hPerst : Blind π State.putPerst) (s : State) (hk : π s = x) :
    FrameR π x (execPerstLRelease s) := by
  unfold execPerstLRelease
  try dsimp only
  repeat' first
    | with_reducible first
      | assumption | refine (hPerst _ _).trans ?_ | apply frame_foldl | apply frame_ite | apply frameR_next
    | split | intro _

end Sys2Proof.Machine
end

