-- ==== Sys2Proof/Laws/FrameOverhead.lean ====
section
/-! SUPPORT. What the operations of Machine/Overhead.lean leave unchanged. -/

set_option linter.unusedTactic false
set_option linter.unreachableTactic false

namespace Sys2Proof.Machine

variable {β : Type} {π : State → β} {x : β}

theorem execOhGet_frame (hBatch : Blind π State.putBatch) (hBatchesDone : Blind π State.putBatchesDone)
    (hCw : Blind π State.putCw) (hEngines : Blind π State.putEngines) (hSuspended : Blind π State.putSuspended)
    (hTrace : Blind π State.putTrace) (i : IssA) (gD : Reg) (gA : Reg) (off : Fin 256) (field : Fin 64)
    (word : Fin 64) (s : State) (hk : π s = x) :
    FrameR π x (execOhGet i gD gA off field word s) := by
  unfold execOhGet
  try dsimp only
  repeat' first
    | with_reducible first
      | assumption | apply issue_frame | apply readContext_frame | apply frame_foldl | apply frame_ite
      | apply frameR_next
    | split | intro _

theorem execOhPut_frame (hBatch : Blind π State.putBatch) (hBatchesDone : Blind π State.putBatchesDone)
    (hCw : Blind π State.putCw) (hEngines : Blind π State.putEngines) (hSuspended : Blind π State.putSuspended)
    (hTrace : Blind π State.putTrace) (i : IssA) (gD : Reg) (gA : Reg) (off : Fin 256) (field : Fin 64)
    (word : Fin 64) (s : State) (hk : π s = x) :
    FrameR π x (execOhPut i gD gA off field word s) := by
  unfold execOhPut
  try dsimp only
  repeat' first
    | with_reducible first
      | assumption | apply issue_frame | apply onContext_frame | apply stage_frame | apply frame_foldl
      | apply frame_ite | apply frameR_next
    | split | intro _

theorem ohErr_frame (hCw : Blind π State.putCw) (u : Nat) (s : State) (hk : π s = x) :
    π (ohErr u s) = x := by
  unfold ohErr
  try dsimp only
  repeat' first
    | with_reducible first
      | assumption | apply cwCount_frame | apply frame_foldl | apply frame_ite
    | split | intro _

theorem ohMisdirect_frame (hBatchesDone : Blind π State.putBatchesDone) (hCw : Blind π State.putCw)
    (hHq : Blind π State.putHq) (hIntPend : Blind π State.putIntPend) (hMsixPba : Blind π State.putMsixPba)
    (hOut : Blind π State.putOut) (o : Origin) (id : Nat) (s : State) (hk : π s = x) :
    π (ohMisdirect o id s) = x := by
  unfold ohMisdirect
  try dsimp only
  repeat' first
    | with_reducible first
      | assumption | apply ohErr_frame | apply refuse_frame | apply frame_foldl | apply frame_ite
    | split | intro _

theorem execDefSet_frame (hBatch : Blind π State.putBatch) (hBatchesDone : Blind π State.putBatchesDone)
    (hCw : Blind π State.putCw) (hEngines : Blind π State.putEngines) (hSuspended : Blind π State.putSuspended)
    (hTrace : Blind π State.putTrace) (i : IssA) (gA : Reg) (off : Fin 256) (bit : Fin 64) (s : State) (hk : π s = x) :
    FrameR π x (execDefSet i gA off bit s) := by
  unfold execDefSet
  try dsimp only
  repeat' first
    | with_reducible first
      | assumption | apply issue_frame | apply onContext_frame | apply stage_frame | apply frame_foldl
      | apply frame_ite | apply frameR_next
    | split | intro _

theorem execDefClr_frame (hBatch : Blind π State.putBatch) (hBatchesDone : Blind π State.putBatchesDone)
    (hCw : Blind π State.putCw) (hEngines : Blind π State.putEngines) (hSuspended : Blind π State.putSuspended)
    (hTrace : Blind π State.putTrace) (i : IssA) (gA : Reg) (off : Fin 256) (bit : Fin 64) (s : State) (hk : π s = x) :
    FrameR π x (execDefClr i gA off bit s) := by
  unfold execDefClr
  try dsimp only
  repeat' first
    | with_reducible first
      | assumption | apply issue_frame | apply onContext_frame | apply stage_frame | apply frame_foldl
      | apply frame_ite | apply frameR_next
    | split | intro _

theorem applyDef_frame (hCells : Blind π State.putCells) (hCw : Blind π State.putCw) (hMons : Blind π State.putMons)
    (hPairs : Blind π State.putPairs) (o : Origin) (id : Nat) (b : Nat) (v : Bool) (s : State) (hk : π s = x) :
    π (applyDef o id b v s) = x := by
  unfold applyDef
  try dsimp only
  repeat' first
    | with_reducible first
      | assumption | apply ohErr_frame | apply setDefect_frame | apply frame_foldl | apply frame_ite
    | split | intro _

theorem execAlm_frame (hBatch : Blind π State.putBatch) (hBatchesDone : Blind π State.putBatchesDone)
    (hCw : Blind π State.putCw) (hEngines : Blind π State.putEngines) (hHq : Blind π State.putHq)
    (hIntPend : Blind π State.putIntPend) (hMsixPba : Blind π State.putMsixPba) (hOut : Blind π State.putOut)
    (hSuspended : Blind π State.putSuspended) (hTrace : Blind π State.putTrace) (i : IssA) (gA : Reg) (off : Fin 256)
    (s : State) (hk : π s = x) :
    FrameR π x (execAlm i gA off s) := by
  unfold execAlm
  try dsimp only
  repeat' first
    | with_reducible first
      | assumption | apply issue_frame | apply onContext_frame | apply record_frame | apply frame_foldl
      | apply frame_ite | apply frameR_next
    | split | intro _

theorem binAdd_frame (hCtx : Blind π State.putCtx) (id : Nat) (bin : Nat) (p : Nat) (add : Nat) (s : State)
    (hk : π s = x) :
    π (binAdd id bin p add s) = x := by
  unfold binAdd
  try dsimp only
  repeat' first
    | with_reducible first
      | assumption | apply ctxSet_frame | apply frame_foldl | apply frame_ite
    | split | intro _

theorem execPmAdd_frame (hBatch : Blind π State.putBatch) (hBatchesDone : Blind π State.putBatchesDone)
    (hCtx : Blind π State.putCtx) (hCw : Blind π State.putCw) (hEngines : Blind π State.putEngines)
    (hSuspended : Blind π State.putSuspended) (hTrace : Blind π State.putTrace) (i : IssA) (gD : Reg) (gA : Reg)
    (off : Fin 256) (param : Fin 8) (s : State) (hk : π s = x) :
    FrameR π x (execPmAdd i gD gA off param s) := by
  unfold execPmAdd
  try dsimp only
  repeat' first
    | with_reducible first
      | assumption | apply binAdd_frame | apply issue_frame | apply onContext_frame | apply frame_foldl
      | apply frame_ite | apply frameR_next
    | split | intro _

theorem rollBin_frame (hCtx : Blind π State.putCtx) (id : Nat) (bin : Nat) (suspect : Bool) (s : State) (hk : π s = x) :
    π (rollBin id bin suspect s) = x := by
  unfold rollBin
  try dsimp only
  repeat' first
    | with_reducible first
      | assumption | apply ctxSet_frame | apply frame_foldl | apply frame_ite
    | split | intro _

theorem pmRecord_frame (hCw : Blind π State.putCw) (hHq : Blind π State.putHq) (hIntPend : Blind π State.putIntPend)
    (hMsixPba : Blind π State.putMsixPba) (hOut : Blind π State.putOut) (src : Nat) (id : Nat) (bin : Nat) (s : State)
    (hk : π s = x) :
    π (pmRecord src id bin s) = x := by
  unfold pmRecord
  try dsimp only
  repeat' first
    | with_reducible first
      | assumption | apply record_frame | apply frame_foldl | apply frame_ite
    | split | intro _

theorem execPmRoll_frame (hBatch : Blind π State.putBatch) (hBatchesDone : Blind π State.putBatchesDone)
    (hCtx : Blind π State.putCtx) (hCw : Blind π State.putCw) (hEngines : Blind π State.putEngines)
    (hHq : Blind π State.putHq) (hIntPend : Blind π State.putIntPend) (hMsixPba : Blind π State.putMsixPba)
    (hOut : Blind π State.putOut) (hSuspended : Blind π State.putSuspended) (hTrace : Blind π State.putTrace)
    (i : IssA) (gA : Reg) (off : Fin 256) (bin : Bool) (suspect : Bool) (s : State) (hk : π s = x) :
    FrameR π x (execPmRoll i gA off bin suspect s) := by
  unfold execPmRoll
  try dsimp only
  repeat' first
    | with_reducible first
      | assumption | apply rollBin_frame | apply issue_frame | apply onContext_frame | apply pmRecord_frame
      | apply frame_foldl | apply frame_ite | apply frameR_next
    | split | intro _

theorem execFiltSet_frame (hBatch : Blind π State.putBatch) (hBatchesDone : Blind π State.putBatchesDone)
    (hCw : Blind π State.putCw) (hEngines : Blind π State.putEngines) (hHq : Blind π State.putHq)
    (hIntPend : Blind π State.putIntPend) (hMsixPba : Blind π State.putMsixPba) (hOut : Blind π State.putOut)
    (hSuspended : Blind π State.putSuspended) (hTrace : Blind π State.putTrace)
    (hViolated : Blind π State.putViolated) (i : IssA) (gA : Reg) (gB : Reg) (word : Fin 2) (s : State) (hk : π s = x) :
    FrameR π x (execFiltSet i gA gB word s) := by
  unfold execFiltSet
  try dsimp only
  repeat' first
    | with_reducible first
      | assumption | apply issue_frame | apply outsideGrant_frame | apply stage_frame | apply frame_foldl
      | apply frame_ite | apply frameR_next
    | split | intro _

theorem execFiltGet_frame (hBatch : Blind π State.putBatch) (hBatchesDone : Blind π State.putBatchesDone)
    (hCw : Blind π State.putCw) (hEngines : Blind π State.putEngines) (hHq : Blind π State.putHq)
    (hIntPend : Blind π State.putIntPend) (hMsixPba : Blind π State.putMsixPba) (hOut : Blind π State.putOut)
    (hSuspended : Blind π State.putSuspended) (hTrace : Blind π State.putTrace)
    (hViolated : Blind π State.putViolated) (i : IssA) (gD : Reg) (gA : Reg) (word : Fin 4) (s : State) (hk : π s = x) :
    FrameR π x (execFiltGet i gD gA word s) := by
  unfold execFiltGet
  try dsimp only
  repeat' first
    | with_reducible first
      | assumption | apply setReg_frame | apply issue_frame | apply outsideGrant_frame | apply frame_foldl
      | apply frame_ite | apply frameR_next
    | split | intro _

theorem applyFilt_frame (hCells : Blind π State.putCells) (hCw : Blind π State.putCw) (hMons : Blind π State.putMons)
    (hPairs : Blind π State.putPairs) (k : Nat) (w : Nat) (v : Word) (s : State) (hk : π s = x) :
    FrameE π x (applyFilt k w v s) := by
  unfold applyFilt
  try dsimp only
  repeat' first
    | with_reducible first
      | assumption | exact frameE_error | apply cellPut_frame | apply settleDefs_frame | apply cwSet_frame
      | apply frame_foldl | apply frame_ite | apply frameE_ok | apply frameE_ite
    | split | intro _

theorem execFcCfg_frame (hBatchesDone : Blind π State.putBatchesDone) (hCells : Blind π State.putCells)
    (hCw : Blind π State.putCw) (hHq : Blind π State.putHq) (hIntPend : Blind π State.putIntPend)
    (hMons : Blind π State.putMons) (hMsixPba : Blind π State.putMsixPba) (hOut : Blind π State.putOut)
    (hPairs : Blind π State.putPairs) (c : ClusterId) (cell : Fin 2048) (word : Fin 2) (w : CtlWrite) (s : State)
    (hk : π s = x) :
    FrameR π x (execFcCfg c cell word w s) := by
  unfold execFcCfg
  try dsimp only
  repeat' first
    | with_reducible first
      | assumption | exact frameE_error | apply applyFilt_frame | apply settle_frame | apply frame_foldl
      | apply frame_ite | apply frameE_ok | apply frameE_ite | apply frameR_next
    | split | intro _

theorem applyPmSet_frame (hBinLoad : Blind π State.putBinLoad) (v : Word) (s : State) (hk : π s = x) :
    FrameE π x (applyPmSet v s) := by
  unfold applyPmSet
  try dsimp only
  repeat' first
    | with_reducible first
      | assumption | exact frameE_error | refine (hBinLoad _ _).trans ?_ | apply frame_foldl | apply frame_ite
      | apply frameE_ok | apply frameE_ite
    | split | intro _

theorem execOhPmSet_frame (hBatchesDone : Blind π State.putBatchesDone) (hBinLoad : Blind π State.putBinLoad)
    (hCw : Blind π State.putCw) (hHq : Blind π State.putHq) (hIntPend : Blind π State.putIntPend)
    (hMsixPba : Blind π State.putMsixPba) (hOut : Blind π State.putOut) (u : UnitId) (w : CtlWrite) (s : State)
    (hk : π s = x) :
    FrameR π x (execOhPmSet u w s) := by
  unfold execOhPmSet
  try dsimp only
  repeat' first
    | with_reducible first
      | assumption | exact frameE_error | apply settle_frame | apply applyPmSet_frame | apply frame_foldl
      | apply frame_ite | apply frameE_ok | apply frameE_ite | apply frameR_next
    | split | intro _

theorem execOhErrClear_frame (hCw : Blind π State.putCw) (u : UnitId) (s : State) (hk : π s = x) :
    FrameR π x (execOhErrClear u s) := by
  unfold execOhErrClear
  try dsimp only
  repeat' first
    | with_reducible first
      | assumption | apply cwSet_frame | apply frame_foldl | apply frame_ite | apply frameR_next
    | split | intro _

theorem binTick_frame (hBinD : Blind π State.putBinD) (hBinLoad : Blind π State.putBinLoad)
    (hBinQ : Blind π State.putBinQ) (hBinRestored : Blind π State.putBinRestored) (hPmTime : Blind π State.putPmTime)
    (s : State) (hk : π s = x) :
    π (binTick s) = x := by
  unfold binTick
  try dsimp only
  repeat' first
    | with_reducible first
      | assumption | refine (hPmTime _ _).trans ?_ | refine (hBinLoad _ _).trans ?_
      | refine (hBinRestored _ _).trans ?_ | refine (hBinQ _ _).trans ?_ | refine (hBinD _ _).trans ?_
      | apply frame_foldl | apply frame_ite
    | split | intro _

theorem setLos_frame (hCells : Blind π State.putCells) (hFramers : Blind π State.putFramers)
    (hMons : Blind π State.putMons) (hPairs : Blind π State.putPairs) (r : StreamRef) (v : Bool) (s : State)
    (hk : π s = x) :
    π (setLos r v s) = x := by
  unfold setLos
  try dsimp only
  repeat' first
    | with_reducible first
      | assumption | apply framerPut_frame | apply settleDefs_frame | apply frame_foldl | apply frame_ite
    | split | intro _

theorem execLosDeclare_frame (hCells : Blind π State.putCells) (hFramers : Blind π State.putFramers)
    (hMons : Blind π State.putMons) (hPairs : Blind π State.putPairs) (r : StreamRef) (s : State) (hk : π s = x) :
    FrameR π x (execLosDeclare r s) := by
  unfold execLosDeclare
  try dsimp only
  repeat' first
    | with_reducible first
      | assumption | apply setLos_frame | apply frame_foldl | apply frame_ite | apply frameR_next
    | split | intro _

theorem execLosClear_frame (hCells : Blind π State.putCells) (hFramers : Blind π State.putFramers)
    (hMons : Blind π State.putMons) (hPairs : Blind π State.putPairs) (r : StreamRef) (s : State) (hk : π s = x) :
    FrameR π x (execLosClear r s) := by
  unfold execLosClear
  try dsimp only
  repeat' first
    | with_reducible first
      | assumption | apply setLos_frame | apply frame_foldl | apply frame_ite | apply frameR_next
    | split | intro _

theorem execDefectDeclare_frame (hCells : Blind π State.putCells) (hMons : Blind π State.putMons)
    (hPairs : Blind π State.putPairs) (c : CtxId) (d : Fin 36) (s : State) (hk : π s = x) :
    FrameR π x (execDefectDeclare c d s) := by
  unfold execDefectDeclare
  try dsimp only
  repeat' first
    | with_reducible first
      | assumption | apply setDefect_frame | apply frame_foldl | apply frame_ite | apply frameR_next
    | split | intro _

theorem execDefectClear_frame (hCells : Blind π State.putCells) (hMons : Blind π State.putMons)
    (hPairs : Blind π State.putPairs) (c : CtxId) (d : Fin 36) (s : State) (hk : π s = x) :
    FrameR π x (execDefectClear c d s) := by
  unfold execDefectClear
  try dsimp only
  repeat' first
    | with_reducible first
      | assumption | apply setDefect_frame | apply frame_foldl | apply frame_ite | apply frameR_next
    | split | intro _

theorem execConsequentActionStart_frame (hMons : Blind π State.putMons) (c : CtxId) (backward : Bool) (s : State)
    (hk : π s = x) :
    FrameR π x (execConsequentActionStart c backward s) := by
  unfold execConsequentActionStart
  try dsimp only
  repeat' first
    | with_reducible first
      | assumption | apply monPut_frame | apply frame_foldl | apply frame_ite | apply frameR_next
    | split | intro _

theorem execConsequentActionEnd_frame (hMons : Blind π State.putMons) (c : CtxId) (backward : Bool) (s : State)
    (hk : π s = x) :
    FrameR π x (execConsequentActionEnd c backward s) := by
  unfold execConsequentActionEnd
  try dsimp only
  repeat' first
    | with_reducible first
      | assumption | apply monPut_frame | apply frame_foldl | apply frame_ite | apply frameR_next
    | split | intro _

end Sys2Proof.Machine
end

