-- ==== Sys2Proof/Laws/FrameProtection.lean ====
section
/-! SUPPORT. What the operations of Machine/Protection.lean leave unchanged. -/

set_option linter.unusedTactic false
set_option linter.unreachableTactic false

namespace Sys2Proof.Machine

variable {β : Type} {π : State → β} {x : β}

theorem startHoldoff_frame (hCw : Blind π State.putCw) (hDue : Blind π State.putDue) (hPairs : Blind π State.putPairs)
    (p : Nat) (protect : Bool) (s : State) (hk : π s = x) :
    π (startHoldoff p protect s) = x := by
  unfold startHoldoff
  try dsimp only
  repeat' first
    | with_reducible first
      | assumption | apply protEvt_frame | apply countNoTimer_frame | apply prtPut_frame | apply frame_foldl
      | apply frame_ite
    | split | intro _

theorem execHoldoffStart_frame (hCw : Blind π State.putCw) (hDue : Blind π State.putDue)
    (hPairs : Blind π State.putPairs) (p : PairId) (protect : Bool) (s : State) (hk : π s = x) :
    FrameR π x (execHoldoffStart p protect s) := by
  unfold execHoldoffStart
  try dsimp only
  repeat' first
    | with_reducible first
      | assumption | apply startHoldoff_frame | apply frame_foldl | apply frame_ite | apply frameR_next
    | split | intro _

theorem execHoldoffExpire_frame (hPairs : Blind π State.putPairs) (p : PairId) (protect : Bool) (s : State)
    (hk : π s = x) :
    FrameR π x (execHoldoffExpire p protect s) := by
  unfold execHoldoffExpire
  try dsimp only
  repeat' first
    | with_reducible first
      | assumption | apply prtPut_frame | apply frame_foldl | apply frame_ite | apply frameR_next
    | split | intro _

theorem signal_frame (hOh : Blind π State.putOh) (p : Nat) (s : State) (hk : π s = x) :
    π (signal p s) = x := by
  unfold signal
  try dsimp only
  repeat' first
    | with_reducible first
      | assumption | apply ohSet_frame | apply frame_foldl | apply frame_ite
    | split | intro _

theorem farAccept_frame (hDue : Blind π State.putDue) (hPairs : Blind π State.putPairs) (p : Nat) (v : Word)
    (s : State) (hk : π s = x) :
    π (farAccept p v s) = x := by
  unfold farAccept
  try dsimp only
  repeat' first
    | with_reducible first
      | assumption | apply protEvt_frame | apply prtPut_frame | apply frame_foldl | apply frame_ite
    | split | intro _

theorem farAccepted_frame (hDue : Blind π State.putDue) (hPairs : Blind π State.putPairs) (cell : Nat) (s : State)
    (hk : π s = x) :
    π (farAccepted cell s) = x := by
  unfold farAccepted
  try dsimp only
  repeat' first
    | with_reducible first
      | assumption | apply farAccept_frame | apply frame_foldl | apply frame_ite
    | split | intro _

theorem setSel_frame (hDue : Blind π State.putDue) (hHls : Blind π State.putHls) (hPairs : Blind π State.putPairs)
    (hSels : Blind π State.putSels) (p : Nat) (v : Bool) (s : State) (hk : π s = x) :
    π (setSel p v s) = x := by
  unfold setSel
  try dsimp only
  repeat' first
    | with_reducible first
      | assumption | refine (hSels _ _).trans ?_ | apply hlSwitch_frame | apply prtPut_frame | apply frame_foldl
      | apply frame_ite
    | split | intro _

theorem setGov_frame (hPairs : Blind π State.putPairs) (p : Nat) (rank : Nat) (sig : Bool) (far : Bool) (s : State)
    (hk : π s = x) :
    π (setGov p rank sig far s) = x := by
  unfold setGov
  try dsimp only
  repeat' first
    | with_reducible first
      | assumption | apply prtPut_frame | apply frame_foldl | apply frame_ite
    | split | intro _

theorem followGov_frame (hDue : Blind π State.putDue) (hHls : Blind π State.putHls) (hPairs : Blind π State.putPairs)
    (hSels : Blind π State.putSels) (p : Nat) (s : State) (hk : π s = x) :
    π (followGov p s) = x := by
  unfold followGov
  try dsimp only
  repeat' first
    | with_reducible first
      | assumption | apply prtPut_frame | apply setSel_frame | apply frame_foldl | apply frame_ite
    | split | intro _

theorem followBridge_frame (hDue : Blind π State.putDue) (hHls : Blind π State.putHls)
    (hPairs : Blind π State.putPairs) (hSels : Blind π State.putSels) (p : Nat) (s : State) (hk : π s = x) :
    π (followBridge p s) = x := by
  unfold followBridge
  try dsimp only
  repeat' first
    | with_reducible first
      | assumption | apply setSel_frame | apply frame_foldl | apply frame_ite
    | split | intro _

theorem takeLocal_frame (hFreeUses : Blind π State.putFreeUses) (hPairs : Blind π State.putPairs) (p : Nat)
    (s : State) (hk : π s = x) :
    π (takeLocal p s) = x := by
  unfold takeLocal
  try dsimp only
  repeat' first
    | with_reducible first
      | assumption | apply spendFree_frame | apply setGov_frame | apply frame_foldl | apply frame_ite
    | split | intro _

theorem takeFar_frame (hPairs : Blind π State.putPairs) (p : Nat) (s : State) (hk : π s = x) :
    π (takeFar p s) = x := by
  unfold takeFar
  try dsimp only
  repeat' first
    | with_reducible first
      | assumption | apply setGov_frame | apply frame_foldl | apply frame_ite
    | split | intro _

theorem agreeNr_frame (hDue : Blind π State.putDue) (hPairs : Blind π State.putPairs) (p : Nat) (s : State)
    (hk : π s = x) :
    π (agreeNr p s) = x := by
  unfold agreeNr
  try dsimp only
  repeat' first
    | with_reducible first
      | assumption | apply protEvt_frame | apply prtPut_frame | apply frame_foldl | apply frame_ite
    | split | intro _

theorem takeDecision_frame (hDue : Blind π State.putDue) (hFreeUses : Blind π State.putFreeUses)
    (hHls : Blind π State.putHls) (hOh : Blind π State.putOh) (hPairs : Blind π State.putPairs)
    (hSels : Blind π State.putSels) (p : Nat) (s : State) (hk : π s = x) :
    π (takeDecision p s) = x := by
  unfold takeDecision
  try dsimp only
  repeat' first
    | with_reducible first
      | assumption | apply followGov_frame | apply signal_frame | apply takeLocal_frame | apply agreeNr_frame
      | apply takeFar_frame | apply followBridge_frame | apply frame_foldl | apply frame_ite
    | split | intro _

theorem execProtFastpathEval_frame (hDue : Blind π State.putDue) (hFreeUses : Blind π State.putFreeUses)
    (hHls : Blind π State.putHls) (hOh : Blind π State.putOh) (hPairs : Blind π State.putPairs)
    (hSels : Blind π State.putSels) (p : PairId) (s : State) (hk : π s = x) :
    FrameR π x (execProtFastpathEval p s) := by
  unfold execProtFastpathEval
  try dsimp only
  repeat' first
    | with_reducible first
      | assumption | apply takeDecision_frame | apply setSel_frame | apply frame_foldl | apply frame_ite
      | apply frameR_next
    | split | intro _

theorem execHlWaitExpire_frame (hDue : Blind π State.putDue) (hHls : Blind π State.putHls)
    (hPairs : Blind π State.putPairs) (hSels : Blind π State.putSels) (p : PairId) (s : State) (hk : π s = x) :
    FrameR π x (execHlWaitExpire p s) := by
  unfold execHlWaitExpire
  try dsimp only
  repeat' first
    | with_reducible first
      | assumption | apply setSel_frame | apply frame_foldl | apply frame_ite | apply frameR_next
    | split | intro _

theorem execWtrExpire_frame (hPairs : Blind π State.putPairs) (p : PairId) (s : State) (hk : π s = x) :
    FrameR π x (execWtrExpire p s) := by
  unfold execWtrExpire
  try dsimp only
  repeat' first
    | with_reducible first
      | assumption | apply prtPut_frame | apply frame_foldl | apply frame_ite | apply frameR_next
    | split | intro _

theorem execFopNrDeclare_frame (hDue : Blind π State.putDue) (hPairs : Blind π State.putPairs) (p : PairId)
    (s : State) (hk : π s = x) :
    FrameR π x (execFopNrDeclare p s) := by
  unfold execFopNrDeclare
  try dsimp only
  repeat' first
    | with_reducible first
      | assumption | apply protEvt_frame | apply prtPut_frame | apply frame_foldl | apply frame_ite
      | apply frameR_next
    | split | intro _

theorem resumeWtr_frame (hCw : Blind π State.putCw) (hPairs : Blind π State.putPairs) (p : Nat) (s : State)
    (hk : π s = x) :
    π (resumeWtr p s) = x := by
  unfold resumeWtr
  try dsimp only
  repeat' first
    | with_reducible first
      | assumption | apply countNoTimer_frame | apply prtPut_frame | apply frame_foldl | apply frame_ite
    | split | intro _

theorem execProtHoldEnd_frame (hCw : Blind π State.putCw) (hDue : Blind π State.putDue)
    (hIntPend : Blind π State.putIntPend) (hMsixPba : Blind π State.putMsixPba) (hOut : Blind π State.putOut)
    (hPairs : Blind π State.putPairs) (p : PairId) (limit : Bool) (s : State) (hk : π s = x) :
    FrameR π x (execProtHoldEnd p limit s) := by
  unfold execProtHoldEnd
  try dsimp only
  repeat' first
    | with_reducible first
      | assumption | apply startHoldoff_frame | apply resumeWtr_frame | apply cenInc_frame | apply prtPut_frame
      | apply frame_foldl | apply frame_ite | apply frameR_next
    | split | intro _

theorem protEffect_frame (hPairs : Blind π State.putPairs) (op : Nat) (p : Nat) (s : State) (hk : π s = x) :
    π (protEffect op p s) = x := by
  unfold protEffect
  try dsimp only
  repeat' first
    | with_reducible first
      | assumption | apply setGov_frame | apply prtPut_frame | apply frame_foldl | apply frame_ite
    | split | intro _

theorem protApply_frame (hCw : Blind π State.putCw) (hOh : Blind π State.putOh) (hPairs : Blind π State.putPairs)
    (op : Nat) (p : Nat) (s : State) (hk : π s = x) :
    π (protApply op p s).1 = x := by
  unfold protApply
  try dsimp only
  repeat' first
    | with_reducible first
      | assumption | apply signal_frame | apply protEffect_frame | apply countNoTimer_frame | apply prtPut_frame
      | apply frame_foldl | apply frame_ite
    | split | intro _

theorem protLand_frame (hBatchesDone : Blind π State.putBatchesDone) (hCw : Blind π State.putCw)
    (hHq : Blind π State.putHq) (hIntPend : Blind π State.putIntPend) (hMsixPba : Blind π State.putMsixPba)
    (hOh : Blind π State.putOh) (hOut : Blind π State.putOut) (hPairs : Blind π State.putPairs) (o : Origin)
    (op : Nat) (p : Nat) (s : State) (hk : π s = x) :
    π (protLand o op p s) = x := by
  have h : π (protApply op p s).1 = x := by
    apply protApply_frame (π := π) <;> assumption
  unfold protLand
  split
  · rename_i e; rw [e] at h; exact h
  · rename_i e; rw [e] at h; apply refuse_frame (π := π) <;> assumption

theorem protReq_frame (hBatch : Blind π State.putBatch) (hBatchesDone : Blind π State.putBatchesDone)
    (hCw : Blind π State.putCw) (hEngines : Blind π State.putEngines) (hHq : Blind π State.putHq)
    (hIntPend : Blind π State.putIntPend) (hMsixPba : Blind π State.putMsixPba) (hOh : Blind π State.putOh)
    (hOut : Blind π State.putOut) (hPairs : Blind π State.putPairs) (hSuspended : Blind π State.putSuspended)
    (hTrace : Blind π State.putTrace) (hViolated : Blind π State.putViolated) (op : Nat) (w : ReqStep) (s : State)
    (hk : π s = x) :
    FrameR π x (protReq op w s) := by
  unfold protReq
  try dsimp only
  repeat' first
    | with_reducible first
      | assumption | apply protLand_frame | apply issue_frame | apply outsideGrant_frame | apply stage_frame
      | apply frame_foldl | apply frame_ite | apply frameR_next
    | split | intro _

theorem execProtReqClear_frame (hBatch : Blind π State.putBatch) (hBatchesDone : Blind π State.putBatchesDone)
    (hCw : Blind π State.putCw) (hEngines : Blind π State.putEngines) (hHq : Blind π State.putHq)
    (hIntPend : Blind π State.putIntPend) (hMsixPba : Blind π State.putMsixPba) (hOh : Blind π State.putOh)
    (hOut : Blind π State.putOut) (hPairs : Blind π State.putPairs) (hSuspended : Blind π State.putSuspended)
    (hTrace : Blind π State.putTrace) (hViolated : Blind π State.putViolated) (w : ReqStep) (s : State) (hk : π s = x) :
    FrameR π x (execProtReqClear w s) := by
  unfold execProtReqClear
  try dsimp only
  repeat' first
    | with_reducible first
      | assumption | apply protReq_frame | apply frame_foldl | apply frame_ite | apply frameR_next
    | split | intro _

theorem execProtReqLo_frame (hBatch : Blind π State.putBatch) (hBatchesDone : Blind π State.putBatchesDone)
    (hCw : Blind π State.putCw) (hEngines : Blind π State.putEngines) (hHq : Blind π State.putHq)
    (hIntPend : Blind π State.putIntPend) (hMsixPba : Blind π State.putMsixPba) (hOh : Blind π State.putOh)
    (hOut : Blind π State.putOut) (hPairs : Blind π State.putPairs) (hSuspended : Blind π State.putSuspended)
    (hTrace : Blind π State.putTrace) (hViolated : Blind π State.putViolated) (w : ReqStep) (s : State) (hk : π s = x) :
    FrameR π x (execProtReqLo w s) := by
  unfold execProtReqLo
  try dsimp only
  repeat' first
    | with_reducible first
      | assumption | apply protReq_frame | apply frame_foldl | apply frame_ite | apply frameR_next
    | split | intro _

theorem execProtReqFs_frame (hBatch : Blind π State.putBatch) (hBatchesDone : Blind π State.putBatchesDone)
    (hCw : Blind π State.putCw) (hEngines : Blind π State.putEngines) (hHq : Blind π State.putHq)
    (hIntPend : Blind π State.putIntPend) (hMsixPba : Blind π State.putMsixPba) (hOh : Blind π State.putOh)
    (hOut : Blind π State.putOut) (hPairs : Blind π State.putPairs) (hSuspended : Blind π State.putSuspended)
    (hTrace : Blind π State.putTrace) (hViolated : Blind π State.putViolated) (w : ReqStep) (s : State) (hk : π s = x) :
    FrameR π x (execProtReqFs w s) := by
  unfold execProtReqFs
  try dsimp only
  repeat' first
    | with_reducible first
      | assumption | apply protReq_frame | apply frame_foldl | apply frame_ite | apply frameR_next
    | split | intro _

theorem execProtReqMsP_frame (hBatch : Blind π State.putBatch) (hBatchesDone : Blind π State.putBatchesDone)
    (hCw : Blind π State.putCw) (hEngines : Blind π State.putEngines) (hHq : Blind π State.putHq)
    (hIntPend : Blind π State.putIntPend) (hMsixPba : Blind π State.putMsixPba) (hOh : Blind π State.putOh)
    (hOut : Blind π State.putOut) (hPairs : Blind π State.putPairs) (hSuspended : Blind π State.putSuspended)
    (hTrace : Blind π State.putTrace) (hViolated : Blind π State.putViolated) (w : ReqStep) (s : State) (hk : π s = x) :
    FrameR π x (execProtReqMsP w s) := by
  unfold execProtReqMsP
  try dsimp only
  repeat' first
    | with_reducible first
      | assumption | apply protReq_frame | apply frame_foldl | apply frame_ite | apply frameR_next
    | split | intro _

theorem execProtReqMsW_frame (hBatch : Blind π State.putBatch) (hBatchesDone : Blind π State.putBatchesDone)
    (hCw : Blind π State.putCw) (hEngines : Blind π State.putEngines) (hHq : Blind π State.putHq)
    (hIntPend : Blind π State.putIntPend) (hMsixPba : Blind π State.putMsixPba) (hOh : Blind π State.putOh)
    (hOut : Blind π State.putOut) (hPairs : Blind π State.putPairs) (hSuspended : Blind π State.putSuspended)
    (hTrace : Blind π State.putTrace) (hViolated : Blind π State.putViolated) (w : ReqStep) (s : State) (hk : π s = x) :
    FrameR π x (execProtReqMsW w s) := by
  unfold execProtReqMsW
  try dsimp only
  repeat' first
    | with_reducible first
      | assumption | apply protReq_frame | apply frame_foldl | apply frame_ite | apply frameR_next
    | split | intro _

theorem execProtReqExer_frame (hBatch : Blind π State.putBatch) (hBatchesDone : Blind π State.putBatchesDone)
    (hCw : Blind π State.putCw) (hEngines : Blind π State.putEngines) (hHq : Blind π State.putHq)
    (hIntPend : Blind π State.putIntPend) (hMsixPba : Blind π State.putMsixPba) (hOh : Blind π State.putOh)
    (hOut : Blind π State.putOut) (hPairs : Blind π State.putPairs) (hSuspended : Blind π State.putSuspended)
    (hTrace : Blind π State.putTrace) (hViolated : Blind π State.putViolated) (w : ReqStep) (s : State) (hk : π s = x) :
    FrameR π x (execProtReqExer w s) := by
  unfold execProtReqExer
  try dsimp only
  repeat' first
    | with_reducible first
      | assumption | apply protReq_frame | apply frame_foldl | apply frame_ite | apply frameR_next
    | split | intro _

theorem execProtReqWtr_frame (hBatch : Blind π State.putBatch) (hBatchesDone : Blind π State.putBatchesDone)
    (hCw : Blind π State.putCw) (hEngines : Blind π State.putEngines) (hHq : Blind π State.putHq)
    (hIntPend : Blind π State.putIntPend) (hMsixPba : Blind π State.putMsixPba) (hOh : Blind π State.putOh)
    (hOut : Blind π State.putOut) (hPairs : Blind π State.putPairs) (hSuspended : Blind π State.putSuspended)
    (hTrace : Blind π State.putTrace) (hViolated : Blind π State.putViolated) (w : ReqStep) (s : State) (hk : π s = x) :
    FrameR π x (execProtReqWtr w s) := by
  unfold execProtReqWtr
  try dsimp only
  repeat' first
    | with_reducible first
      | assumption | apply protReq_frame | apply frame_foldl | apply frame_ite | apply frameR_next
    | split | intro _

theorem execProtReqDnr_frame (hBatch : Blind π State.putBatch) (hBatchesDone : Blind π State.putBatchesDone)
    (hCw : Blind π State.putCw) (hEngines : Blind π State.putEngines) (hHq : Blind π State.putHq)
    (hIntPend : Blind π State.putIntPend) (hMsixPba : Blind π State.putMsixPba) (hOh : Blind π State.putOh)
    (hOut : Blind π State.putOut) (hPairs : Blind π State.putPairs) (hSuspended : Blind π State.putSuspended)
    (hTrace : Blind π State.putTrace) (hViolated : Blind π State.putViolated) (w : ReqStep) (s : State) (hk : π s = x) :
    FrameR π x (execProtReqDnr w s) := by
  unfold execProtReqDnr
  try dsimp only
  repeat' first
    | with_reducible first
      | assumption | apply protReq_frame | apply frame_foldl | apply frame_ite | apply frameR_next
    | split | intro _

theorem execProtReqNr_frame (hBatch : Blind π State.putBatch) (hBatchesDone : Blind π State.putBatchesDone)
    (hCw : Blind π State.putCw) (hEngines : Blind π State.putEngines) (hHq : Blind π State.putHq)
    (hIntPend : Blind π State.putIntPend) (hMsixPba : Blind π State.putMsixPba) (hOh : Blind π State.putOh)
    (hOut : Blind π State.putOut) (hPairs : Blind π State.putPairs) (hSuspended : Blind π State.putSuspended)
    (hTrace : Blind π State.putTrace) (hViolated : Blind π State.putViolated) (w : ReqStep) (s : State) (hk : π s = x) :
    FrameR π x (execProtReqNr w s) := by
  unfold execProtReqNr
  try dsimp only
  repeat' first
    | with_reducible first
      | assumption | apply protReq_frame | apply frame_foldl | apply frame_ite | apply frameR_next
    | split | intro _

theorem execProtSt_frame (hBatch : Blind π State.putBatch) (hBatchesDone : Blind π State.putBatchesDone)
    (hCw : Blind π State.putCw) (hEngines : Blind π State.putEngines) (hHq : Blind π State.putHq)
    (hIntPend : Blind π State.putIntPend) (hMsixPba : Blind π State.putMsixPba) (hOut : Blind π State.putOut)
    (hSuspended : Blind π State.putSuspended) (hTrace : Blind π State.putTrace)
    (hViolated : Blind π State.putViolated) (i : IssA) (gD : Reg) (gA : Reg) (s : State) (hk : π s = x) :
    FrameR π x (execProtSt i gD gA s) := by
  unfold execProtSt
  try dsimp only
  repeat' first
    | with_reducible first
      | assumption | apply setReg_frame | apply issue_frame | apply outsideGrant_frame | apply frame_foldl
      | apply frame_ite | apply frameR_next
    | split | intro _

theorem keepRaised_frame (hPairs : Blind π State.putPairs) (p : Nat) (s : State) (hk : π s = x) :
    π (keepRaised p s) = x := by
  unfold keepRaised
  try dsimp only
  repeat' first
    | with_reducible first
      | assumption | apply prtPut_frame | apply frame_foldl | apply frame_ite
    | split | intro _

theorem farTaken_frame (hDue : Blind π State.putDue) (hPairs : Blind π State.putPairs) (p : Nat)
    (s : State) (hk : π s = x) :
    π (farTaken p s) = x := by
  unfold farTaken
  try dsimp only
  repeat' first
    | with_reducible first
      | assumption | apply farAccept_frame | apply frame_ite
    | split | intro _

theorem applyPrt_frame (hCw : Blind π State.putCw)
    (hDue : Blind π State.putDue) (hPairs : Blind π State.putPairs) (before : State) (plan : State) (p : Nat)
    (w : Nat) (v : Word) (s : State) (hk : π s = x) :
    FrameE π x (applyPrt before plan p w v s) := by
  unfold applyPrt
  try dsimp only
  repeat' first
    | with_reducible first
      | assumption | exact frameE_error | apply prtStop_frame | apply prtPut_frame | apply keepRaised_frame
      | apply farTaken_frame
      | apply cwSet_frame | apply frame_foldl | apply frame_ite | apply frameE_ok | apply frameE_ite
    | split | intro _

theorem applyPrtWrites_frame (hBatchesDone : Blind π State.putBatchesDone) (hCw : Blind π State.putCw)
    (hDue : Blind π State.putDue)
    (hHq : Blind π State.putHq) (hIntPend : Blind π State.putIntPend) (hMsixPba : Blind π State.putMsixPba)
    (hOut : Blind π State.putOut) (hPairs : Blind π State.putPairs) (p : Nat) (ws : List PrtWrite) (s : State)
    (hk : π s = x) :
    π (applyPrtWrites p ws s) = x := by
  unfold applyPrtWrites
  try dsimp only
  repeat' first
    | with_reducible first
      | assumption | exact frameE_error | apply settle_frame | apply applyPrt_frame | apply cwSet_frame
      | apply frame_foldl | apply frame_ite | apply frameE_ok | apply frameE_ite
    | split | intro _

theorem execPrtCfg_frame (hBatchesDone : Blind π State.putBatchesDone) (hCw : Blind π State.putCw)
    (hDue : Blind π State.putDue)
    (hHq : Blind π State.putHq) (hIntPend : Blind π State.putIntPend) (hMsixPba : Blind π State.putMsixPba)
    (hOut : Blind π State.putOut) (hPairs : Blind π State.putPairs) (p : PairId) (ws : List PrtWrite) (s : State)
    (hk : π s = x) :
    FrameR π x (execPrtCfg p ws s) := by
  unfold execPrtCfg
  try dsimp only
  repeat' first
    | with_reducible first
      | assumption | apply applyPrtWrites_frame | apply frame_foldl | apply frame_ite | apply frameR_next
    | split | intro _

theorem execPrtCntClr_frame (hPairs : Blind π State.putPairs) (p : PairId) (s : State) (hk : π s = x) :
    FrameR π x (execPrtCntClr p s) := by
  unfold execPrtCntClr
  try dsimp only
  repeat' first
    | with_reducible first
      | assumption | apply prtPut_frame | apply frame_foldl | apply frame_ite | apply frameR_next
    | split | intro _

theorem prtCheck_frame (hDue : Blind π State.putDue) (hPairs : Blind π State.putPairs) (p : Nat) (s : State)
    (hk : π s = x) :
    π (prtCheck p s) = x := by
  unfold prtCheck
  try dsimp only
  repeat' first
    | with_reducible first
      | assumption | apply protEvt_frame | apply prtPut_frame | apply frame_foldl | apply frame_ite
    | split | intro _

theorem prtChecks_frame (hDue : Blind π State.putDue) (hPairs : Blind π State.putPairs) (s : State) (hk : π s = x) :
    π (prtChecks s) = x := by
  unfold prtChecks
  try dsimp only
  repeat' first
    | with_reducible first
      | assumption | apply prtCheck_frame | apply frame_foldl | apply frame_ite
    | split | intro _

theorem protSw_frame (hDue : Blind π State.putDue) (hPairs : Blind π State.putPairs) (p : Nat) (s : State)
    (hk : π s = x) :
    π (protSw p s) = x := by
  unfold protSw
  try dsimp only
  repeat' first
    | with_reducible first
      | assumption | apply dueRecord_frame | apply prtPut_frame | apply frame_foldl | apply frame_ite
    | split | intro _

theorem protSws_frame (hDue : Blind π State.putDue) (hPairs : Blind π State.putPairs) (s : State) (hk : π s = x) :
    π (protSws s) = x := by
  unfold protSws
  try dsimp only
  repeat' first
    | with_reducible first
      | assumption | apply protSw_frame | apply frame_foldl | apply frame_ite
    | split | intro _

theorem applyOhPut_frame (hBatchesDone : Blind π State.putBatchesDone) (hCw : Blind π State.putCw)
    (hHq : Blind π State.putHq) (hIntPend : Blind π State.putIntPend) (hMsixPba : Blind π State.putMsixPba)
    (hOh : Blind π State.putOh) (hOut : Blind π State.putOut) (o : Origin) (id : Nat) (field : Nat) (word : Nat)
    (v : Word) (s : State) (hk : π s = x) :
    π (applyOhPut o id field word v s) = x := by
  unfold applyOhPut
  try dsimp only
  repeat' first
    | with_reducible first
      | assumption | exact frameE_error | apply settle_frame | apply ohErr_frame | apply ohMisdirect_frame
      | apply ohSet_frame | apply frame_foldl | apply frame_ite | apply frameE_ok | apply frameE_ite
    | split | intro _

end Sys2Proof.Machine
end

