-- ==== Sys2Proof/Laws/FrameReceived.lean ====
section
/-! SUPPORT. What the operations of Machine/Received.lean leave unchanged. -/

set_option linter.unusedTactic false
set_option linter.unreachableTactic false

namespace Sys2Proof.Machine

variable {β : Type} {π : State → β} {x : β}

theorem storeCaptures_frame (hOh : Blind π State.putOh) (id : Nat) (layer : Nat) (cs : List Capture) (s : State)
    (hk : π s = x) :
    π (storeCaptures id layer cs s) = x := by
  unfold storeCaptures
  try dsimp only
  repeat' first
    | with_reducible first
      | assumption | apply ohSet_frame | apply frame_foldl | apply frame_ite
    | split | intro _

theorem storeBip_frame (hOh : Blind π State.putOh) (id : Nat) (layer : Nat) (f : RxFrame) (s : State) (hk : π s = x) :
    π (storeBip id layer f s) = x := by
  unfold storeBip
  try dsimp only
  repeat' first
    | with_reducible first
      | assumption | apply ohSet_frame | apply frame_foldl | apply frame_ite
    | split | intro _

theorem storeBei_frame (hOh : Blind π State.putOh) (id : Nat) (layer : Nat) (f : RxFrame) (s : State) (hk : π s = x) :
    π (storeBei id layer f s) = x := by
  unfold storeBei
  try dsimp only
  repeat' first
    | with_reducible first
      | assumption | apply ohSet_frame | apply frame_foldl | apply frame_ite
    | split | intro _

theorem countBlocks_frame (hMons : Blind π State.putMons) (id : Nat) (layer : Nat) (f : RxFrame) (s : State)
    (hk : π s = x) :
    π (countBlocks id layer f s) = x := by
  unfold countBlocks
  try dsimp only
  repeat' first
    | with_reducible first
      | assumption | apply monPut_frame | apply frame_foldl | apply frame_ite
    | split | intro _

theorem frameRuns_frame (hMons : Blind π State.putMons) (id : Nat) (layer : Nat) (f : RxFrame) (s : State)
    (hk : π s = x) :
    π (frameRuns id layer f s) = x := by
  unfold frameRuns
  try dsimp only
  repeat' first
    | with_reducible first
      | assumption | apply monPut_frame | apply frame_foldl | apply frame_ite
    | split | intro _

theorem memberFrame_frame (hMons : Blind π State.putMons) (id : Nat) (layer : Nat) (r : MemberRx) (s : State)
    (hk : π s = x) :
    π (memberFrame id layer r s) = x := by
  unfold memberFrame
  try dsimp only
  repeat' first
    | with_reducible first
      | assumption | apply monPut_frame | apply frame_foldl | apply frame_ite
    | split | intro _

theorem ringFrames_frame (hHls : Blind π State.putHls) (hPrfRings : Blind π State.putPrfRings) (id : Nat)
    (f : RxFrame) (s : State) (hk : π s = x) :
    π (ringFrames id f s) = x := by
  unfold ringFrames
  try dsimp only
  repeat' first
    | with_reducible first
      | assumption | apply ringFrame_frame | apply frame_foldl | apply frame_ite
    | split | intro _

theorem portFrame_frame (hPorts : Blind π State.putPorts) (r : PortRx) (s : State) (hk : π s = x) :
    π (portFrame r s) = x := by
  unfold portFrame
  try dsimp only
  repeat' first
    | with_reducible first
      | assumption | apply portPut_frame | apply countPort1_frame | apply countPort0_frame | apply frame_foldl
      | apply frame_ite
    | split | intro _

theorem fecFrame_frame (hCw : Blind π State.putCw) (hLanes : Blind π State.putLanes) (r : FecRx) (s : State)
    (hk : π s = x) :
    π (fecFrame r s) = x := by
  unfold fecFrame
  try dsimp only
  repeat' first
    | with_reducible first
      | assumption | apply lanePut_frame | apply cwCount_frame | apply frame_foldl | apply frame_ite
    | split | intro _

theorem streamMf_frame (hFramers : Blind π State.putFramers) (id : Nat) (f : RxFrame) (s : State) (hk : π s = x) :
    π (streamMf id f s) = x := by
  unfold streamMf
  try dsimp only
  repeat' first
    | with_reducible first
      | assumption | apply mfFrame_frame | apply frame_foldl | apply frame_ite
    | split | intro _

theorem monitorFrame_frame (hMons : Blind π State.putMons) (hOh : Blind π State.putOh) (id : Nat) (f : RxFrame)
    (s : State) (hk : π s = x) :
    π (monitorFrame id f s) = x := by
  unfold monitorFrame
  try dsimp only
  repeat' first
    | with_reducible first
      | assumption | apply storeBip_frame | apply storeBei_frame | apply monPut_frame | apply countBlocks_frame
      | apply storeCaptures_frame | apply frameRuns_frame | apply memberFrame_frame | apply frame_foldl
      | apply frame_ite
    | split | intro _

theorem execFrameReceive_frame (hCw : Blind π State.putCw) (hFramers : Blind π State.putFramers)
    (hHls : Blind π State.putHls) (hLanes : Blind π State.putLanes) (hMons : Blind π State.putMons)
    (hOh : Blind π State.putOh) (hPorts : Blind π State.putPorts) (hPrfRings : Blind π State.putPrfRings) (c : CtxId)
    (f : RxFrame) (s : State) (hk : π s = x) :
    FrameR π x (execFrameReceive c f s) := by
  unfold execFrameReceive
  try dsimp only
  repeat' first
    | with_reducible first
      | assumption | apply fecFrame_frame | apply streamMf_frame | apply portFrame_frame | apply monitorFrame_frame
      | apply ringFrames_frame | apply frame_foldl | apply frame_ite | apply frameR_next
    | split | intro _

theorem acceptWords_frame (hCells : Blind π State.putCells) (hDue : Blind π State.putDue) (hOh : Blind π State.putOh)
    (hPairs : Blind π State.putPairs) (k : Nat) (ws : List Word) (s : State) (hk : π s = x) :
    π (acceptWords k ws s) = x := by
  unfold acceptWords
  try dsimp only
  repeat' first
    | with_reducible first
      | assumption | apply cellPut_frame | apply farAccepted_frame | apply ohSet_frame | apply frame_foldl
      | apply frame_ite
    | split | intro _

theorem execFilterOccurrence_frame (hCells : Blind π State.putCells) (hDue : Blind π State.putDue)
    (hMons : Blind π State.putMons) (hOh : Blind π State.putOh) (hPairs : Blind π State.putPairs) (c : ClusterId)
    (n : Fin 2048) (s : State) (hk : π s = x) :
    FrameR π x (execFilterOccurrence c n s) := by
  unfold execFilterOccurrence
  try dsimp only
  repeat' first
    | with_reducible first
      | assumption | apply acceptWords_frame | apply cellPut_frame | apply settleDefs_frame | apply frame_foldl
      | apply frame_ite | apply frameR_next
    | split | intro _

theorem execFilterUnstable_frame (hCells : Blind π State.putCells) (hMons : Blind π State.putMons)
    (hPairs : Blind π State.putPairs) (c : ClusterId) (n : Fin 2048) (s : State) (hk : π s = x) :
    FrameR π x (execFilterUnstable c n s) := by
  unfold execFilterUnstable
  try dsimp only
  repeat' first
    | with_reducible first
      | assumption | apply cellPut_frame | apply settleDefs_frame | apply frame_foldl | apply frame_ite
      | apply frameR_next
    | split | intro _

end Sys2Proof.Machine
end

