-- ==== Sys2Proof/Laws/FrameWords.lean ====
section
/-! SUPPORT. What the operations of Machine/Words.lean leave unchanged. -/

set_option linter.unusedTactic false
set_option linter.unreachableTactic false

namespace Sys2Proof.Machine

variable {β : Type} {π : State → β} {x : β}

theorem planWrite_frame (hCw : Blind π State.putCw) (before : State) (a : Nat) (v : Word) (s : State) (hk : π s = x) :
    π (planWrite before a v s) = x := by
  unfold planWrite
  try dsimp only
  repeat' first
    | with_reducible first
      | assumption | apply hqStore_frame | apply cqStore_frame | apply mapStoreWord_frame | apply frmStore_frame
      | apply cwSet_frame | apply frame_foldl | apply frame_ite
    | split | intro _

theorem clearOnes_frame (hCw : Blind π State.putCw) (a : Nat) (mask : Word) (v : Word) (s : State) (hk : π s = x) :
    π (clearOnes a mask v s) = x := by
  unfold clearOnes
  try dsimp only
  repeat' first
    | with_reducible first
      | assumption | apply cwSet_frame | apply frame_foldl | apply frame_ite
    | split | intro _

theorem storeWord_frame (hCw : Blind π State.putCw) (a : Nat) (v : Word) (s : State) (hk : π s = x) :
    π (storeWord a v s) = x := by
  unfold storeWord
  try dsimp only
  repeat' first
    | with_reducible first
      | assumption | apply cwSet_frame | apply frame_foldl | apply frame_ite
    | split | intro _

theorem writeLane_frame (hCells : Blind π State.putCells) (hCw : Blind π State.putCw) (hDue : Blind π State.putDue)
    (hFlex : Blind π State.putFlex) (hFramers : Blind π State.putFramers) (hHq : Blind π State.putHq)
    (hIntPend : Blind π State.putIntPend) (hLanes : Blind π State.putLanes) (hMsixPba : Blind π State.putMsixPba)
    (hOut : Blind π State.putOut) (hQuads : Blind π State.putQuads) (hRecClk : Blind π State.putRecClk)
    (hTrackers : Blind π State.putTrackers) (plan : State) (a : Nat) (v : Word) (s : State) (hk : π s = x) :
    FrameE π x (writeLane plan a v s) := by
  unfold writeLane
  try dsimp only
  repeat' first
    | with_reducible first
      | assumption | exact frameE_error | apply applyLpbk_frame | apply applyEqCtrl_frame | apply applyLaneCfg_frame
      | apply applyTxFfe_frame | apply clearOnes_frame | apply applyEqSet_frame | apply lanePut_frame
      | apply applyPrbsCtrl_frame | apply frame_foldl | apply frame_ite | apply frameE_ok | apply frameE_ite
    | split | intro _

theorem writeFec_frame (hCw : Blind π State.putCw) (plan : State) (a : Nat) (v : Word) (s : State) (hk : π s = x) :
    FrameE π x (writeFec plan a v s) := by
  unfold writeFec
  try dsimp only
  repeat' first
    | with_reducible first
      | assumption | exact frameE_error | apply clearFec_frame | apply applyFecCfg_frame | apply frame_foldl
      | apply frame_ite | apply frameE_ok | apply frameE_ite
    | split | intro _

theorem writeFramer_frame (hCells : Blind π State.putCells) (hCw : Blind π State.putCw)
    (hFramers : Blind π State.putFramers) (hHq : Blind π State.putHq) (hIntPend : Blind π State.putIntPend)
    (hMons : Blind π State.putMons) (hMsixPba : Blind π State.putMsixPba) (hOut : Blind π State.putOut)
    (hPairs : Blind π State.putPairs) (hTrackers : Blind π State.putTrackers) (plan : State) (a : Nat) (v : Word)
    (s : State) (hk : π s = x) :
    FrameE π x (writeFramer plan a v s) := by
  unfold writeFramer
  try dsimp only
  repeat' first
    | with_reducible first
      | assumption | exact frameE_error | apply clearFrmCounts_frame | apply framerPut_frame | apply applyFrm_frame
      | apply frame_foldl | apply frame_ite | apply frameE_ok | apply frameE_ite
    | split | intro _

theorem writeOh_frame (hBinLoad : Blind π State.putBinLoad) (hCells : Blind π State.putCells)
    (hCw : Blind π State.putCw) (hMons : Blind π State.putMons) (hPairs : Blind π State.putPairs) (a : Nat) (v : Word)
    (s : State) (hk : π s = x) :
    FrameE π x (writeOh a v s) := by
  unfold writeOh
  try dsimp only
  repeat' first
    | with_reducible first
      | assumption | exact frameE_error | apply applyFilt_frame | apply applyPmSet_frame | apply cwSet_frame
      | apply frame_foldl | apply frame_ite | apply frameE_ok | apply frameE_ite
    | split | intro _

theorem writeMap_frame (hCw : Blind π State.putCw) (hPorts : Blind π State.putPorts) (before : State) (plan : State)
    (a : Nat) (v : Word) (s : State) (hk : π s = x) :
    FrameE π x (writeMap before plan a v s) := by
  unfold writeMap
  try dsimp only
  repeat' first
    | with_reducible first
      | assumption | exact frameE_error | apply applyShim_frame | apply applyCal_frame | apply applyMap_frame
      | apply portPut_frame | apply frame_foldl | apply frame_ite | apply frameE_ok | apply frameE_ite
    | split | intro _

theorem writeDeck_frame (hCw : Blind π State.putCw) (hDecks : Blind π State.putDecks) (hHq : Blind π State.putHq)
    (hIntPend : Blind π State.putIntPend) (hMsixPba : Blind π State.putMsixPba) (hOut : Blind π State.putOut)
    (hRsz : Blind π State.putRsz) (a : Nat) (v : Word) (s : State) (hk : π s = x) :
    FrameE π x (writeDeck a v s) := by
  unfold writeDeck
  try dsimp only
  repeat' first
    | with_reducible first
      | assumption | exact frameE_error | apply applyRszRun_frame | apply applyDeckChk_frame | apply storeWord_frame
      | apply applyDeckGen_frame | apply applyRszCfg_frame | apply cwSet_frame | apply frame_foldl | apply frame_ite
      | apply frameE_ok | apply frameE_ite
    | split | intro _

theorem writeProof_frame (hCw : Blind π State.putCw) (hGroups : Blind π State.putGroups)
    (hPrfRings : Blind π State.putPrfRings) (a : Nat) (v : Word) (s : State) (hk : π s = x) :
    FrameE π x (writeProof a v s) := by
  unfold writeProof
  try dsimp only
  repeat' first
    | with_reducible first
      | assumption | exact frameE_error | apply applyGrp_frame | apply applyPrfCtrl_frame | apply frame_foldl
      | apply frame_ite | apply frameE_ok | apply frameE_ite
    | split | intro _

theorem writeQueue_frame (hAudio : Blind π State.putAudio) (hCq : Blind π State.putCq) (hCw : Blind π State.putCw)
    (hEngines : Blind π State.putEngines) (hHq : Blind π State.putHq) (hIntPend : Blind π State.putIntPend)
    (hLink : Blind π State.putLink) (hMsixPba : Blind π State.putMsixPba) (hOut : Blind π State.putOut)
    (hPorts : Blind π State.putPorts) (hRdn : Blind π State.putRdn) (hSuspended : Blind π State.putSuspended)
    (src : Nat) (plan : State) (a : Nat) (v : Word) (s : State) (hk : π s = x) :
    FrameE π x (writeQueue src plan a v s) := by
  unfold writeQueue
  try dsimp only
  repeat' first
    | with_reducible first
      | assumption | exact frameE_error | apply applyHq_frame | apply flushMate_frame | apply applyCq_frame
      | apply applyMateWm_frame | apply cwSet_frame | apply frame_foldl | apply frame_ite | apply frameE_ok
      | apply frameE_ite
    | split | intro _

theorem writePc_frame (hCw : Blind π State.putCw) (a : Nat) (v : Word) (s : State) (hk : π s = x) :
    FrameE π x (writePc a v s) := by
  unfold writePc
  try dsimp only
  repeat' first
    | with_reducible first
      | assumption | exact frameE_error | apply clearOnes_frame | apply storeWord_frame | apply writeCounter_frame
      | apply cwSet_frame | apply frame_foldl | apply frame_ite | apply frameE_ok | apply frameE_ite
    | split | intro _

theorem writeClk_frame (hCw : Blind π State.putCw) (hDpll : Blind π State.putDpll) (hDue : Blind π State.putDue)
    (hFlex : Blind π State.putFlex) (hIntPend : Blind π State.putIntPend) (hMsixPba : Blind π State.putMsixPba)
    (hOut : Blind π State.putOut) (hRecClk : Blind π State.putRecClk) (hRefClk : Blind π State.putRefClk) (a : Nat)
    (v : Word) (s : State) (hk : π s = x) :
    FrameE π x (writeClk a v s) := by
  unfold writeClk
  try dsimp only
  repeat' first
    | with_reducible first
      | assumption | exact frameE_error | apply applyRefCtrl_frame | apply applyRecClk_frame
      | apply applySyncCtrl_frame | apply cwSet_frame | apply frame_foldl | apply frame_ite | apply frameE_ok
      | apply frameE_ite
    | split | intro _

theorem writeAud_frame (hAudio : Blind π State.putAudio) (hCw : Blind π State.putCw) (a : Nat) (v : Word) (s : State)
    (hk : π s = x) :
    FrameE π x (writeAud a v s) := by
  unfold writeAud
  try dsimp only
  repeat' first
    | with_reducible first
      | assumption | exact frameE_error | apply applyOw_frame | apply applyAudCfg_frame | apply cwSet_frame
      | apply frame_foldl | apply frame_ite | apply frameE_ok | apply frameE_ite
    | split | intro _

theorem writePwr_frame (hD : BlindDomains π) (hBatch : Blind π State.putBatch)
    (hBatchesDone : Blind π State.putBatchesDone) (hDue : Blind π State.putDue) (hHq : Blind π State.putHq)
    (hIlk : Blind π State.putIlk) (hIntPend : Blind π State.putIntPend) (hLink : Blind π State.putLink)
    (hLong : Blind π State.putLong) (hMode : Blind π State.putMode) (hModeCause : Blind π State.putModeCause)
    (hMsixPba : Blind π State.putMsixPba) (hOut : Blind π State.putOut) (hPhase : Blind π State.putPhase)
    (hRdn : Blind π State.putRdn) (hResetDue : Blind π State.putResetDue) (hRings : Blind π State.putRings)
    (hSess : Blind π State.putSess) (hSuspended : Blind π State.putSuspended) (hTest : Blind π State.putTest)
    (hVloops : Blind π State.putVloops) (a : Nat) (v : Word) (s : State) (hk : π s = x) :
    FrameE π x (writePwr a v s) := by
  obtain ⟨hAudio, hCells, hCellsT0, hChkMax, hCq, hCtx, hCtxAt, hCw, hDeck, hDecks, hDoms, hEngines, hFlex, hFramers,
    hGroups, hHls, hLanes, hMons, hOh, hOhT0, hPairs, hPorts, hPrfRings, hQuads, hRefClk, hRsz, hSels, hTrackers,
    hWords⟩ := id hD
  unfold writePwr
  try dsimp only
  repeat' first
    | with_reducible first
      | assumption | exact frameE_error | apply applyPkgCtrl_frame | apply storeWord_frame | apply applyVloop_frame
      | apply applyReq_frame | apply cwSet_frame | apply frame_foldl | apply frame_ite | apply frameE_ok
      | apply frameE_ite
    | split | intro _

theorem writeHost_frame (hCtx : Blind π State.putCtx) (hCtxAt : Blind π State.putCtxAt) (hCw : Blind π State.putCw)
    (hHostRing : Blind π State.putHostRing) (hMons : Blind π State.putMons) (hPinMoves : Blind π State.putPinMoves)
    (a : Nat) (v : Word) (s : State) (hk : π s = x) :
    FrameE π x (writeHost a v s) := by
  unfold writeHost
  try dsimp only
  repeat' first
    | with_reducible first
      | assumption | exact frameE_error | apply storeWord_frame | apply applyCtxOp_frame | apply ringPut__frame
      | apply cwSet_frame | apply frame_foldl | apply frame_ite | apply frameE_ok | apply frameE_ite
    | split | intro _

theorem writeCen_frame (hCw : Blind π State.putCw) (a : Nat) (v : Word) (s : State) (hk : π s = x) :
    FrameE π x (writeCen a v s) := by
  unfold writeCen
  try dsimp only
  repeat' first
    | with_reducible first
      | assumption | exact frameE_error | apply storeWord_frame | apply clearCensus_frame | apply frame_foldl
      | apply frame_ite | apply frameE_ok | apply frameE_ite
    | split | intro _

theorem writePair_frame (hCw : Blind π State.putCw) (hDue : Blind π State.putDue) (hHls : Blind π State.putHls)
    (hPairs : Blind π State.putPairs) (hPrfRings : Blind π State.putPrfRings) (before : State) (plan : State) (a : Nat) (v : Word)
    (s : State) (hk : π s = x) :
    FrameE π x (writePair before plan a v s) := by
  unfold writePair
  try dsimp only
  repeat' first
    | with_reducible first
      | assumption | exact frameE_error | apply hlPut_frame | apply applyHl_frame | apply applyPrt_frame
      | apply prtPut_frame | apply frame_foldl | apply frame_ite | apply frameE_ok | apply frameE_ite
    | split | intro _

theorem applyWord_frame (hD : BlindDomains π) (hBatch : Blind π State.putBatch)
    (hBatchesDone : Blind π State.putBatchesDone) (hBinLoad : Blind π State.putBinLoad)
    (hDpll : Blind π State.putDpll) (hDue : Blind π State.putDue) (hHostRing : Blind π State.putHostRing)
    (hHq : Blind π State.putHq) (hIlk : Blind π State.putIlk) (hIntPend : Blind π State.putIntPend)
    (hLink : Blind π State.putLink) (hLong : Blind π State.putLong) (hMode : Blind π State.putMode)
    (hModeCause : Blind π State.putModeCause) (hMsixPba : Blind π State.putMsixPba) (hOut : Blind π State.putOut)
    (hPhase : Blind π State.putPhase) (hPinMoves : Blind π State.putPinMoves) (hRdn : Blind π State.putRdn)
    (hRecClk : Blind π State.putRecClk) (hResetDue : Blind π State.putResetDue) (hRings : Blind π State.putRings)
    (hSess : Blind π State.putSess) (hSuspended : Blind π State.putSuspended) (hTest : Blind π State.putTest)
    (hVloops : Blind π State.putVloops) (src : Nat) (before : State) (plan : State) (a : Nat) (v : Word) (s : State)
    (hk : π s = x) :
    FrameE π x (applyWord src before plan a v s) := by
  obtain ⟨hAudio, hCells, hCellsT0, hChkMax, hCq, hCtx, hCtxAt, hCw, hDeck, hDecks, hDoms, hEngines, hFlex, hFramers,
    hGroups, hHls, hLanes, hMons, hOh, hOhT0, hPairs, hPorts, hPrfRings, hQuads, hRefClk, hRsz, hSels, hTrackers,
    hWords⟩ := id hD
  unfold applyWord
  try dsimp only
  repeat' first
    | with_reducible first
      | assumption | exact frameE_error | apply writeMap_frame | apply writeProof_frame | apply applyMateCtrl_frame
      | apply writePair_frame | apply writeFec_frame | apply writeHost_frame | apply writeFramer_frame
      | apply writeOh_frame | apply writeDeck_frame | apply writeClk_frame | apply writePwr_frame
      | apply writeAud_frame | apply writeQueue_frame | apply writePc_frame | apply applyBlk_frame
      | apply writeCen_frame | apply writeLane_frame | apply cwSet_frame | apply frame_foldl | apply frame_ite
      | apply frameE_ok | apply frameE_ite
    | split | intro _

theorem execControlWordWrite_frame (hD : BlindDomains π) (hBatch : Blind π State.putBatch)
    (hBatchesDone : Blind π State.putBatchesDone) (hBinLoad : Blind π State.putBinLoad)
    (hDpll : Blind π State.putDpll) (hDue : Blind π State.putDue) (hHostRing : Blind π State.putHostRing)
    (hHq : Blind π State.putHq) (hIlk : Blind π State.putIlk) (hIntPend : Blind π State.putIntPend)
    (hLink : Blind π State.putLink) (hLong : Blind π State.putLong) (hMode : Blind π State.putMode)
    (hModeCause : Blind π State.putModeCause) (hMsixPba : Blind π State.putMsixPba) (hOut : Blind π State.putOut)
    (hPhase : Blind π State.putPhase) (hPinMoves : Blind π State.putPinMoves) (hRdn : Blind π State.putRdn)
    (hRecClk : Blind π State.putRecClk) (hResetDue : Blind π State.putResetDue) (hRings : Blind π State.putRings)
    (hSess : Blind π State.putSess) (hSuspended : Blind π State.putSuspended) (hTest : Blind π State.putTest)
    (hVloops : Blind π State.putVloops) (o : Origin) (addr : BitVec 24) (v : Word) (s : State) (hk : π s = x) :
    FrameR π x (execControlWordWrite o addr v s) := by
  obtain ⟨hAudio, hCells, hCellsT0, hChkMax, hCq, hCtx, hCtxAt, hCw, hDeck, hDecks, hDoms, hEngines, hFlex, hFramers,
    hGroups, hHls, hLanes, hMons, hOh, hOhT0, hPairs, hPorts, hPrfRings, hQuads, hRefClk, hRsz, hSels, hTrackers,
    hWords⟩ := id hD
  unfold execControlWordWrite
  try dsimp only
  repeat' first
    | with_reducible first
      | assumption | exact frameE_error | apply settle_frame | apply planWrite_frame | apply applyWord_frame
      | apply frame_foldl | apply frame_ite | apply frameE_ok | apply frameE_ite | apply frameR_next
    | split | intro _

end Sys2Proof.Machine
end

