-- ==== Sys2Proof/Laws/FrameTick.lean ====
section
/-! SUPPORT. What the operations of Machine/Tick.lean leave unchanged. -/

set_option linter.unusedTactic false
set_option linter.unreachableTactic false

namespace Sys2Proof.Machine

variable {β : Type} {π : State → β} {x : β}

theorem reachCycle_frame (hCw : Blind π State.putCw) (hEngines : Blind π State.putEngines) (e : Nat) (n : Nat)
    (s : State) (hk : π s = x) :
    π (reachCycle e n s) = x := by
  unfold reachCycle
  try dsimp only
  repeat' first
    | with_reducible first
      | assumption | apply passCycles_frame | apply frame_foldl | apply frame_ite
    | split | intro _

theorem reachAll_frame (hCw : Blind π State.putCw) (hEngines : Blind π State.putEngines) (n : Nat) (s : State)
    (hk : π s = x) :
    π (reachAll n s) = x := by
  unfold reachAll
  try dsimp only
  repeat' first
    | with_reducible first
      | assumption | apply reachCycle_frame | apply frame_foldl | apply frame_ite
    | split | intro _

theorem startPass_frame (hEngines : Blind π State.putEngines) (e : Nat) (s : State) (hk : π s = x) :
    π (startPass e s) = x := by
  unfold startPass
  try dsimp only
  repeat' first
    | with_reducible first
      | assumption | apply engPut_frame | apply startRun_frame | apply frame_foldl | apply frame_ite
    | split | intro _

theorem suspendBatch_frame (hEngines : Blind π State.putEngines) (hSuspended : Blind π State.putSuspended) (s : State)
    (hk : π s = x) :
    π (suspendBatch s) = x := by
  unfold suspendBatch
  try dsimp only
  repeat' first
    | with_reducible first
      | assumption | refine (hSuspended _ _).trans ?_ | apply engPut_frame | apply frame_foldl | apply frame_ite
    | split | intro _

theorem execPassStart_frame (hCw : Blind π State.putCw) (hEngines : Blind π State.putEngines)
    (hSuspended : Blind π State.putSuspended) (s : State) (hk : π s = x) :
    FrameR π x (execPassStart s) := by
  unfold execPassStart
  try dsimp only
  repeat' first
    | with_reducible first
      | assumption | apply reachAll_frame | apply suspendBatch_frame | apply resumeBatch_frame | apply startPass_frame
      | apply frame_foldl | apply frame_ite | apply frameR_next
    | split | intro _

theorem overrunEngine_frame (hCw : Blind π State.putCw) (hEngines : Blind π State.putEngines)
    (hHq : Blind π State.putHq) (hIntPend : Blind π State.putIntPend) (hMsixPba : Blind π State.putMsixPba)
    (hOut : Blind π State.putOut) (e : Nat) (s : State) (hk : π s = x) :
    π (overrunEngine e s) = x := by
  unfold overrunEngine
  try dsimp only
  repeat' first
    | with_reducible first
      | assumption | apply dropItem_frame | apply record0_frame | apply cwCount_frame | apply cenInc_frame
      | apply engPut_frame | apply frame_foldl | apply frame_ite
    | split | intro _

theorem overrunAll_frame (hCw : Blind π State.putCw) (hEngines : Blind π State.putEngines) (hHq : Blind π State.putHq)
    (hIntPend : Blind π State.putIntPend) (hMsixPba : Blind π State.putMsixPba) (hOut : Blind π State.putOut)
    (s : State) (hk : π s = x) :
    π (overrunAll s) = x := by
  unfold overrunAll
  try dsimp only
  repeat' first
    | with_reducible first
      | assumption | apply overrunEngine_frame | apply frame_foldl | apply frame_ite
    | split | intro _

theorem execPassOverrun_frame (hCw : Blind π State.putCw) (hEngines : Blind π State.putEngines)
    (hHq : Blind π State.putHq) (hIntPend : Blind π State.putIntPend) (hMsixPba : Blind π State.putMsixPba)
    (hOut : Blind π State.putOut) (s : State) (hk : π s = x) :
    FrameR π x (execPassOverrun s) := by
  unfold execPassOverrun
  try dsimp only
  repeat' first
    | with_reducible first
      | assumption | apply overrunAll_frame | apply frame_foldl | apply frame_ite | apply frameR_next
    | split | intro _

theorem planOf_frame (hCw : Blind π State.putCw) (s : State) (l : List Effect) (hk : π s = x) :
    π (planOf s l) = x := by
  unfold planOf
  try dsimp only
  repeat' first
    | with_reducible first
      | assumption | apply planWrite_frame | apply frame_foldl | apply frame_ite
    | split | intro _

theorem landSwap_frame (hBatchesDone : Blind π State.putBatchesDone) (hCw : Blind π State.putCw)
    (hDecks : Blind π State.putDecks) (hDue : Blind π State.putDue) (hHq : Blind π State.putHq)
    (hIntPend : Blind π State.putIntPend) (hMsixPba : Blind π State.putMsixPba) (hOut : Blind π State.putOut)
    (o : Origin) (before : State) (dies : Nat) (s : State) (hk : π s = x) :
    π (landSwap o before dies s) = x := by
  unfold landSwap
  try dsimp only
  repeat' first
    | with_reducible first
      | assumption | apply refuse_frame | apply applySwap_frame | apply frame_foldl | apply frame_ite
    | split | intro _

theorem applyEffect_frame (hD : BlindDomains π) (hBatch : Blind π State.putBatch)
    (hBatchesDone : Blind π State.putBatchesDone) (hBinLoad : Blind π State.putBinLoad)
    (hDpll : Blind π State.putDpll) (hDue : Blind π State.putDue) (hHostRing : Blind π State.putHostRing)
    (hHq : Blind π State.putHq) (hIlk : Blind π State.putIlk) (hIntPend : Blind π State.putIntPend)
    (hJtag : Blind π State.putJtag) (hLink : Blind π State.putLink) (hLong : Blind π State.putLong)
    (hMode : Blind π State.putMode) (hModeCause : Blind π State.putModeCause) (hMsixPba : Blind π State.putMsixPba)
    (hOut : Blind π State.putOut) (hPhase : Blind π State.putPhase) (hPinMoves : Blind π State.putPinMoves)
    (hRdn : Blind π State.putRdn) (hRecClk : Blind π State.putRecClk) (hResetDue : Blind π State.putResetDue)
    (hRings : Blind π State.putRings) (hSess : Blind π State.putSess) (hSuspended : Blind π State.putSuspended)
    (hTest : Blind π State.putTest) (hTrace : Blind π State.putTrace) (hVloops : Blind π State.putVloops)
    (before : State) (s : State) (f : Judged) (hk : π s = x) :
    π (applyEffect before s f) = x := by
  obtain ⟨hAudio, hCells, hCellsT0, hChkMax, hCq, hCtx, hCtxAt, hCw, hDeck, hDecks, hDoms, hEngines, hFlex, hFramers,
    hGroups, hHls, hLanes, hMons, hOh, hOhT0, hPairs, hPorts, hPrfRings, hQuads, hRefClk, hRsz, hSels, hTrackers,
    hWords⟩ := id hD
  unfold applyEffect
  try dsimp only
  repeat' first
    | with_reducible first
      | assumption | exact frameE_error | apply landSwap_frame | apply applyFilt_frame | apply applyTraceSel_frame
      | apply settle_frame | apply protLand_frame | apply applyWord_frame | apply applyDeckW_frame
      | apply applyDef_frame | apply applyOhPut_frame | apply landPower_frame | apply frame_foldl | apply frame_ite
      | apply frameE_ok | apply frameE_ite
    | split | intro _

theorem applyRank_frame (hD : BlindDomains π) (hBatch : Blind π State.putBatch)
    (hBatchesDone : Blind π State.putBatchesDone) (hBinLoad : Blind π State.putBinLoad)
    (hDpll : Blind π State.putDpll) (hDue : Blind π State.putDue) (hHostRing : Blind π State.putHostRing)
    (hHq : Blind π State.putHq) (hIlk : Blind π State.putIlk) (hIntPend : Blind π State.putIntPend)
    (hJtag : Blind π State.putJtag) (hLink : Blind π State.putLink) (hLong : Blind π State.putLong)
    (hMode : Blind π State.putMode) (hModeCause : Blind π State.putModeCause) (hMsixPba : Blind π State.putMsixPba)
    (hOut : Blind π State.putOut) (hPhase : Blind π State.putPhase) (hPinMoves : Blind π State.putPinMoves)
    (hRdn : Blind π State.putRdn) (hRecClk : Blind π State.putRecClk) (hResetDue : Blind π State.putResetDue)
    (hRings : Blind π State.putRings) (hSess : Blind π State.putSess) (hSuspended : Blind π State.putSuspended)
    (hTest : Blind π State.putTest) (hTrace : Blind π State.putTrace) (hVloops : Blind π State.putVloops)
    (before : State) (l : List Judged) (s : State) (rank : Nat) (hk : π s = x) :
    π (applyRank before l s rank) = x := by
  obtain ⟨hAudio, hCells, hCellsT0, hChkMax, hCq, hCtx, hCtxAt, hCw, hDeck, hDecks, hDoms, hEngines, hFlex, hFramers,
    hGroups, hHls, hLanes, hMons, hOh, hOhT0, hPairs, hPorts, hPrfRings, hQuads, hRefClk, hRsz, hSels, hTrackers,
    hWords⟩ := id hD
  unfold applyRank
  try dsimp only
  repeat' first
    | with_reducible first
      | assumption | apply applyEffect_frame | apply frame_foldl | apply frame_ite
    | split | intro _

theorem applyEffects_frame (hD : BlindDomains π) (hBatch : Blind π State.putBatch)
    (hBatchesDone : Blind π State.putBatchesDone) (hBinLoad : Blind π State.putBinLoad)
    (hDpll : Blind π State.putDpll) (hDue : Blind π State.putDue) (hHostRing : Blind π State.putHostRing)
    (hHq : Blind π State.putHq) (hIlk : Blind π State.putIlk) (hIntPend : Blind π State.putIntPend)
    (hJtag : Blind π State.putJtag) (hLink : Blind π State.putLink) (hLong : Blind π State.putLong)
    (hMode : Blind π State.putMode) (hModeCause : Blind π State.putModeCause) (hMsixPba : Blind π State.putMsixPba)
    (hOut : Blind π State.putOut) (hPhase : Blind π State.putPhase) (hPinMoves : Blind π State.putPinMoves)
    (hRdn : Blind π State.putRdn) (hRecClk : Blind π State.putRecClk) (hResetDue : Blind π State.putResetDue)
    (hRings : Blind π State.putRings) (hSess : Blind π State.putSess) (hSuspended : Blind π State.putSuspended)
    (hTest : Blind π State.putTest) (hTrace : Blind π State.putTrace) (hVloops : Blind π State.putVloops)
    (before : State) (l : List Judged) (s : State) (hk : π s = x) :
    π (applyEffects before l s) = x := by
  obtain ⟨hAudio, hCells, hCellsT0, hChkMax, hCq, hCtx, hCtxAt, hCw, hDeck, hDecks, hDoms, hEngines, hFlex, hFramers,
    hGroups, hHls, hLanes, hMons, hOh, hOhT0, hPairs, hPorts, hPrfRings, hQuads, hRefClk, hRsz, hSels, hTrackers,
    hWords⟩ := id hD
  unfold applyEffects
  try dsimp only
  repeat' first
    | with_reducible first
      | assumption | apply applyRank_frame | apply frame_foldl | apply frame_ite
    | split | intro _

theorem clearStaged_frame (hEngines : Blind π State.putEngines) (hJtag : Blind π State.putJtag) (s : State)
    (hk : π s = x) :
    π (clearStaged s) = x := by
  unfold clearStaged
  try dsimp only
  repeat' first
    | with_reducible first
      | assumption | refine (hJtag _ _).trans ?_ | apply engPut_frame | apply frame_foldl | apply frame_ite
    | split | intro _

theorem clearGot_frame (hCells : Blind π State.putCells) (s : State) (hk : π s = x) :
    π (clearGot s) = x := by
  unfold clearGot
  try dsimp only
  repeat' first
    | with_reducible first
      | assumption | refine (hCells _ _).trans ?_ | apply frame_foldl | apply frame_ite
    | split | intro _

theorem engFault_frame (hCw : Blind π State.putCw) (hEngines : Blind π State.putEngines) (hHq : Blind π State.putHq)
    (hIntPend : Blind π State.putIntPend) (hMsixPba : Blind π State.putMsixPba) (hOut : Blind π State.putOut)
    (e : Nat) (s : State) (hk : π s = x) :
    π (engFault e s) = x := by
  unfold engFault
  try dsimp only
  repeat' first
    | with_reducible first
      | assumption | apply record0_frame | apply engPut_frame | apply frame_foldl | apply frame_ite
    | split | intro _

theorem creditClips_frame (hCw : Blind π State.putCw) (hHq : Blind π State.putHq)
    (hIntPend : Blind π State.putIntPend) (hLink : Blind π State.putLink) (hMsixPba : Blind π State.putMsixPba)
    (hOut : Blind π State.putOut) (s : State) (hk : π s = x) :
    π (creditClips s) = x := by
  unfold creditClips
  try dsimp only
  repeat' first
    | with_reducible first
      | assumption | refine (hLink _ _).trans ?_ | apply record0_frame | apply hqPut_frame | apply frame_foldl
      | apply frame_ite
    | split | intro _

theorem discardEvt_frame (hDue : Blind π State.putDue) (hLink : Blind π State.putLink) (s : State) (hk : π s = x) :
    π (discardEvt s) = x := by
  unfold discardEvt
  try dsimp only
  repeat' first
    | with_reducible first
      | assumption | refine (hLink _ _).trans ?_ | apply mateEvt_frame | apply frame_foldl | apply frame_ite
    | split | intro _

theorem placeDue_frame (hCw : Blind π State.putCw) (hDue : Blind π State.putDue) (hHq : Blind π State.putHq)
    (hIntPend : Blind π State.putIntPend) (hMsixPba : Blind π State.putMsixPba) (hOut : Blind π State.putOut)
    (s : State) (hk : π s = x) :
    π (placeDue s) = x := by
  unfold placeDue
  try dsimp only
  repeat' first
    | with_reducible first
      | assumption | refine (hDue _ _).trans ?_ | apply record_frame | apply frame_foldl | apply frame_ite
    | split | intro _

theorem acceptLoaf_frame (hCw : Blind π State.putCw) (hIntPend : Blind π State.putIntPend)
    (hLink : Blind π State.putLink) (hLoafDue : Blind π State.putLoafDue) (hMsixPba : Blind π State.putMsixPba)
    (hOut : Blind π State.putOut) (hRdn : Blind π State.putRdn) (s : State) (hk : π s = x) :
    π (acceptLoaf s) = x := by
  unfold acceptLoaf
  try dsimp only
  repeat' first
    | with_reducible first
      | assumption | refine (hLoafDue _ _).trans ?_ | apply resync_frame | apply frame_foldl | apply frame_ite
    | split | intro _

theorem windowChecks_frame (hCw : Blind π State.putCw) (hDecks : Blind π State.putDecks) (hDue : Blind π State.putDue)
    (hIntPend : Blind π State.putIntPend) (hLink : Blind π State.putLink) (hLoafDue : Blind π State.putLoafDue)
    (hMsixPba : Blind π State.putMsixPba) (hOut : Blind π State.putOut) (hPairs : Blind π State.putPairs)
    (hRdn : Blind π State.putRdn) (hRsz : Blind π State.putRsz) (s : State) (hk : π s = x) :
    π (windowChecks s) = x := by
  unfold windowChecks
  try dsimp only
  repeat' first
    | with_reducible first
      | assumption | apply prtChecks_frame | apply rszArmDie_frame | apply acceptLoaf_frame | apply protSws_frame
      | apply rszRetry_frame | apply frame_foldl | apply frame_ite
    | split | intro _

theorem windowRecords_frame (hCw : Blind π State.putCw) (hDue : Blind π State.putDue)
    (hEngines : Blind π State.putEngines) (hHq : Blind π State.putHq) (hIntPend : Blind π State.putIntPend)
    (hLink : Blind π State.putLink) (hMsixPba : Blind π State.putMsixPba) (hOut : Blind π State.putOut)
    (filts : List (List Word)) (s : State) (hk : π s = x) :
    π (windowRecords filts s) = x := by
  unfold windowRecords
  try dsimp only
  repeat' first
    | with_reducible first
      | assumption | apply placeDue_frame | apply creditClips_frame | apply engFault_frame | apply discardEvt_frame
      | apply record_frame | apply integRecord_frame | apply frame_foldl | apply frame_ite
    | split | intro _

theorem sendTiers_frame (hCw : Blind π State.putCw) (hIntPend : Blind π State.putIntPend)
    (hLink : Blind π State.putLink) (hMsixPba : Blind π State.putMsixPba) (hOut : Blind π State.putOut)
    (hRdn : Blind π State.putRdn) (es : List (Nat × Word)) (s : State) (hk : π s = x) :
    π (sendTiers es s) = x := by
  unfold sendTiers
  try dsimp only
  repeat' first
    | with_reducible first
      | assumption | refine (hRdn _ _).trans ?_ | apply mateAppend_frame | apply frame_foldl | apply frame_ite
    | split | intro _

theorem sendSweep_frame (hCw : Blind π State.putCw) (hDue : Blind π State.putDue)
    (hIntPend : Blind π State.putIntPend) (hLink : Blind π State.putLink) (hMsixPba : Blind π State.putMsixPba)
    (hOut : Blind π State.putOut) (hRdn : Blind π State.putRdn) (s : State) (hk : π s = x) :
    π (sendSweep s) = x := by
  unfold sendSweep
  try dsimp only
  repeat' first
    | with_reducible first
      | assumption | refine (hRdn _ _).trans ?_ | apply mateEvt_frame | apply mateAppend_frame | apply frame_foldl
      | apply frame_ite
    | split | intro _

theorem sealDelta_frame (hBank : Blind π State.putBank) (hCw : Blind π State.putCw) (hDue : Blind π State.putDue)
    (hIntPend : Blind π State.putIntPend) (hLink : Blind π State.putLink) (hMsixPba : Blind π State.putMsixPba)
    (hOut : Blind π State.putOut) (hRdn : Blind π State.putRdn) (s : State) (hk : π s = x) :
    π (sealDelta s) = x := by
  unfold sealDelta
  try dsimp only
  repeat' first
    | with_reducible first
      | assumption | refine (hBank _ _).trans ?_ | apply sendTiers_frame | apply sendSweep_frame | apply frame_foldl
      | apply frame_ite
    | split | intro _

theorem execTier1DeltaSeal_frame (hBank : Blind π State.putBank) (hCw : Blind π State.putCw)
    (hDue : Blind π State.putDue) (hIntPend : Blind π State.putIntPend) (hLink : Blind π State.putLink)
    (hMsixPba : Blind π State.putMsixPba) (hOut : Blind π State.putOut) (hRdn : Blind π State.putRdn) (s : State)
    (hk : π s = x) :
    FrameR π x (execTier1DeltaSeal s) := by
  unfold execTier1DeltaSeal
  try dsimp only
  repeat' first
    | with_reducible first
      | assumption | apply sealDelta_frame | apply frame_foldl | apply frame_ite | apply frameR_next
    | split | intro _

theorem latchCtx_frame (hCtx : Blind π State.putCtx) (hMons : Blind π State.putMons) (id : Nat) (s : State)
    (hk : π s = x) :
    π (latchCtx id s) = x := by
  unfold latchCtx
  try dsimp only
  repeat' first
    | with_reducible first
      | assumption | apply ctxSet_frame | apply monPut_frame | apply frame_foldl | apply frame_ite
    | split | intro _

theorem latchFec_frame (hCw : Blind π State.putCw) (hLanes : Blind π State.putLanes) (k : Nat) (s : State)
    (hk : π s = x) :
    π (latchFec k s) = x := by
  unfold latchFec
  try dsimp only
  repeat' first
    | with_reducible first
      | assumption | apply lanePut_frame | apply cwSet_frame | apply frame_foldl | apply frame_ite
    | split | intro _

theorem repeatXoff_frame (hCq : Blind π State.putCq) (s : State) (hk : π s = x) :
    π (repeatXoff s) = x := by
  unfold repeatXoff
  try dsimp only
  repeat' first
    | with_reducible first
      | assumption | apply cqPut_frame | apply frame_foldl | apply frame_ite
    | split | intro _

theorem wtrTick_frame (hPairs : Blind π State.putPairs) (s : State) (hk : π s = x) :
    π (wtrTick s) = x := by
  unfold wtrTick
  try dsimp only
  repeat' first
    | with_reducible first
      | assumption | refine (hPairs _ _).trans ?_ | apply frame_foldl | apply frame_ite
    | split | intro _

theorem freshTick_frame (hChkMax : Blind π State.putChkMax) (hEngines : Blind π State.putEngines)
    (hFirstRing : Blind π State.putFirstRing) (hPorts : Blind π State.putPorts) (hRdn : Blind π State.putRdn)
    (hSubsts : Blind π State.putSubsts) (hUnverified : Blind π State.putUnverified)
    (hViolated : Blind π State.putViolated) (s : State) (hk : π s = x) :
    π (freshTick s) = x := by
  unfold freshTick
  try dsimp only
  repeat' first
    | with_reducible first
      | assumption | refine (hFirstRing _ _).trans ?_ | refine (hSubsts _ _).trans ?_
      | refine (hViolated _ _).trans ?_ | refine (hChkMax _ _).trans ?_ | refine (hUnverified _ _).trans ?_
      | refine (hRdn _ _).trans ?_ | refine (hEngines _ _).trans ?_ | refine (hPorts _ _).trans ?_ | apply frame_foldl
      | apply frame_ite
    | split | intro _

theorem beat_frame (hCw : Blind π State.putCw) (hHbOut : Blind π State.putHbOut) (hIntPend : Blind π State.putIntPend)
    (hMsixPba : Blind π State.putMsixPba) (hOut : Blind π State.putOut) (s : State) (hk : π s = x) :
    π (beat s) = x := by
  unfold beat
  try dsimp only
  repeat' first
    | with_reducible first
      | assumption | refine (hHbOut _ _).trans ?_ | apply cenInc_frame | apply frame_foldl | apply frame_ite
    | split | intro _

theorem switchLoaf_frame (hD : BlindDomains π) (hDue : Blind π State.putDue) (hHq : Blind π State.putHq)
    (hIlk : Blind π State.putIlk) (hIntPend : Blind π State.putIntPend) (hLink : Blind π State.putLink)
    (hLoaf : Blind π State.putLoaf) (hLoafDue : Blind π State.putLoafDue) (hLoafNext : Blind π State.putLoafNext)
    (hMode : Blind π State.putMode) (hModeCause : Blind π State.putModeCause) (hMsixPba : Blind π State.putMsixPba)
    (hOut : Blind π State.putOut) (hRdn : Blind π State.putRdn) (hTest : Blind π State.putTest) (s : State)
    (hk : π s = x) :
    π (switchLoaf s) = x := by
  obtain ⟨hAudio, hCells, hCellsT0, hChkMax, hCq, hCtx, hCtxAt, hCw, hDeck, hDecks, hDoms, hEngines, hFlex, hFramers,
    hGroups, hHls, hLanes, hMons, hOh, hOhT0, hPairs, hPorts, hPrfRings, hQuads, hRefClk, hRsz, hSels, hTrackers,
    hWords⟩ := id hD
  unfold switchLoaf
  try dsimp only
  repeat' first
    | with_reducible first
      | assumption | refine (hLoafDue _ _).trans ?_ | refine (hLoafNext _ _).trans ?_ | refine (hLoaf _ _).trans ?_
      | apply enterMode_frame | apply frame_foldl | apply frame_ite
    | split | intro _

theorem nextTick_frame (hTick : Blind π State.putTick) (hWrap : Blind π State.putWrap) (s : State) (hk : π s = x) :
    π (nextTick s) = x := by
  unfold nextTick
  try dsimp only
  repeat' first
    | with_reducible first
      | assumption | refine (hWrap _ _).trans ?_ | refine (hTick _ _).trans ?_ | apply frame_foldl | apply frame_ite
    | split | intro _

theorem testTick_frame (hTest : Blind π State.putTest) (s : State) (hk : π s = x) :
    π (testTick s) = x := by
  unfold testTick
  try dsimp only
  repeat' first
    | with_reducible first
      | assumption | refine (hTest _ _).trans ?_ | apply frame_foldl | apply frame_ite
    | split | intro _

theorem coolTick_frame (hHot : Blind π State.putHot) (hMeas : Blind π State.putMeas) (m : Meas) (s : State)
    (hk : π s = x) :
    π (coolTick m s) = x := by
  unfold coolTick
  try dsimp only
  repeat' first
    | with_reducible first
      | assumption | refine (hMeas _ _).trans ?_ | refine (hHot _ _).trans ?_ | apply frame_foldl | apply frame_ite
    | split | intro _

theorem latchAll_frame (hCellsT0 : Blind π State.putCellsT0) (hCtx : Blind π State.putCtx) (hCw : Blind π State.putCw)
    (hLanes : Blind π State.putLanes) (hMons : Blind π State.putMons) (hOhT0 : Blind π State.putOhT0)
    (hWords : Blind π State.putWords) (s : State) (hk : π s = x) :
    π (latchAll s) = x := by
  unfold latchAll
  try dsimp only
  repeat' first
    | with_reducible first
      | assumption | refine (hCellsT0 _ _).trans ?_ | refine (hWords _ _).trans ?_ | refine (hOhT0 _ _).trans ?_
      | apply latchCtx_frame | apply latchFec_frame | apply frame_foldl | apply frame_ite
    | split | intro _

theorem tickBoundary_frame (hD : BlindDomains π) (hBinD : Blind π State.putBinD) (hBinLoad : Blind π State.putBinLoad)
    (hBinQ : Blind π State.putBinQ) (hBinRestored : Blind π State.putBinRestored) (hDpll : Blind π State.putDpll)
    (hDue : Blind π State.putDue) (hFirstRing : Blind π State.putFirstRing) (hHbOut : Blind π State.putHbOut)
    (hHot : Blind π State.putHot) (hHq : Blind π State.putHq) (hIlk : Blind π State.putIlk)
    (hIntPend : Blind π State.putIntPend) (hLink : Blind π State.putLink) (hLoaf : Blind π State.putLoaf)
    (hLoafDue : Blind π State.putLoafDue) (hLoafNext : Blind π State.putLoafNext) (hMeas : Blind π State.putMeas)
    (hMode : Blind π State.putMode) (hModeCause : Blind π State.putModeCause) (hMsixPba : Blind π State.putMsixPba)
    (hOut : Blind π State.putOut) (hPmTime : Blind π State.putPmTime) (hRdn : Blind π State.putRdn)
    (hSec : Blind π State.putSec) (hSubsts : Blind π State.putSubsts) (hTest : Blind π State.putTest)
    (hTick : Blind π State.putTick) (hUnverified : Blind π State.putUnverified)
    (hViolated : Blind π State.putViolated) (hWrap : Blind π State.putWrap) (m : Meas) (s : State) (hk : π s = x) :
    π (tickBoundary m s) = x := by
  obtain ⟨hAudio, hCells, hCellsT0, hChkMax, hCq, hCtx, hCtxAt, hCw, hDeck, hDecks, hDoms, hEngines, hFlex, hFramers,
    hGroups, hHls, hLanes, hMons, hOh, hOhT0, hPairs, hPorts, hPrfRings, hQuads, hRefClk, hRsz, hSels, hTrackers,
    hWords⟩ := id hD
  unfold tickBoundary
  try dsimp only
  repeat' first
    | with_reducible first
      | assumption | refine (hSec _ _).trans ?_ | refine (hRdn _ _).trans ?_ | apply deckEligible_frame
      | apply binTick_frame | apply releaseFreed_frame | apply testTick_frame | apply nextTick_frame
      | apply freshTick_frame | apply coolTick_frame | apply reachAll_frame | apply wtrTick_frame
      | apply latchAll_frame | apply switchLoaf_frame | apply dpllTick_frame | apply repeatXoff_frame
      | apply beat_frame | apply frame_foldl | apply frame_ite
    | split | intro _

theorem execTickBoundary_frame (hD : BlindDomains π) (hBinD : Blind π State.putBinD)
    (hBinLoad : Blind π State.putBinLoad) (hBinQ : Blind π State.putBinQ)
    (hBinRestored : Blind π State.putBinRestored) (hDpll : Blind π State.putDpll) (hDue : Blind π State.putDue)
    (hFirstRing : Blind π State.putFirstRing) (hHbOut : Blind π State.putHbOut) (hHot : Blind π State.putHot)
    (hHq : Blind π State.putHq) (hIlk : Blind π State.putIlk) (hIntPend : Blind π State.putIntPend)
    (hLink : Blind π State.putLink) (hLoaf : Blind π State.putLoaf) (hLoafDue : Blind π State.putLoafDue)
    (hLoafNext : Blind π State.putLoafNext) (hMeas : Blind π State.putMeas) (hMode : Blind π State.putMode)
    (hModeCause : Blind π State.putModeCause) (hMsixPba : Blind π State.putMsixPba) (hOut : Blind π State.putOut)
    (hPmTime : Blind π State.putPmTime) (hRdn : Blind π State.putRdn) (hSec : Blind π State.putSec)
    (hSubsts : Blind π State.putSubsts) (hTest : Blind π State.putTest) (hTick : Blind π State.putTick)
    (hUnverified : Blind π State.putUnverified) (hViolated : Blind π State.putViolated)
    (hWrap : Blind π State.putWrap) (m : Meas) (s : State) (hk : π s = x) :
    FrameR π x (execTickBoundary m s) := by
  obtain ⟨hAudio, hCells, hCellsT0, hChkMax, hCq, hCtx, hCtxAt, hCw, hDeck, hDecks, hDoms, hEngines, hFlex, hFramers,
    hGroups, hHls, hLanes, hMons, hOh, hOhT0, hPairs, hPorts, hPrfRings, hQuads, hRefClk, hRsz, hSels, hTrackers,
    hWords⟩ := id hD
  unfold execTickBoundary
  try dsimp only
  repeat' first
    | with_reducible first
      | assumption | apply tickBoundary_frame | apply frame_foldl | apply frame_ite | apply frameR_next
    | split | intro _

end Sys2Proof.Machine
end

