-- ==== Sys2Proof/Laws/FrameView.lean ====
section
/-! SUPPORT. What the operations of Machine/View.lean leave unchanged. -/

set_option linter.unusedTactic false
set_option linter.unreachableTactic false

namespace Sys2Proof.Machine

variable {β : Type} {π : State → β} {x : β}

theorem accessViolation_frame (hCw : Blind π State.putCw) (hHq : Blind π State.putHq)
    (hIntPend : Blind π State.putIntPend) (hMsixPba : Blind π State.putMsixPba) (hOut : Blind π State.putOut)
    (hViolated : Blind π State.putViolated) (kind : Nat) (e : Nat) (a : Nat) (s : State) (hk : π s = x) :
    π (accessViolation kind e a s) = x := by
  unfold accessViolation
  try dsimp only
  repeat' first
    | with_reducible first
      | assumption | apply violation_frame | apply frame_foldl | apply frame_ite
    | split | intro _

theorem execCfgR_frame (hBatch : Blind π State.putBatch) (hBatchesDone : Blind π State.putBatchesDone)
    (hCw : Blind π State.putCw) (hEngines : Blind π State.putEngines) (hHq : Blind π State.putHq)
    (hIntPend : Blind π State.putIntPend) (hMsixPba : Blind π State.putMsixPba) (hOut : Blind π State.putOut)
    (hSuspended : Blind π State.putSuspended) (hTrace : Blind π State.putTrace)
    (hViolated : Blind π State.putViolated) (i : IssA) (gD : Reg) (gA : Reg) (off : BitVec 16) (s : State)
    (hk : π s = x) :
    FrameR π x (execCfgR i gD gA off s) := by
  unfold execCfgR
  try dsimp only
  repeat' first
    | with_reducible first
      | assumption | apply refuseRead_frame | apply setReg_frame | apply issue_frame | apply accessViolation_frame
      | apply frame_foldl | apply frame_ite | apply frameR_next
    | split | intro _

theorem execCfgW_frame (hBatch : Blind π State.putBatch) (hBatchesDone : Blind π State.putBatchesDone)
    (hCw : Blind π State.putCw) (hEngines : Blind π State.putEngines) (hHq : Blind π State.putHq)
    (hIntPend : Blind π State.putIntPend) (hMsixPba : Blind π State.putMsixPba) (hOut : Blind π State.putOut)
    (hSuspended : Blind π State.putSuspended) (hTrace : Blind π State.putTrace)
    (hViolated : Blind π State.putViolated) (i : IssA) (gA : Reg) (gB : Reg) (off : BitVec 16) (s : State)
    (hk : π s = x) :
    FrameR π x (execCfgW i gA gB off s) := by
  unfold execCfgW
  try dsimp only
  repeat' first
    | with_reducible first
      | assumption | apply issue_frame | apply accessViolation_frame | apply stage_frame | apply frame_foldl
      | apply frame_ite | apply frameR_next
    | split | intro _

end Sys2Proof.Machine
end

