-- ==== Sys2Proof/Laws/Tables.lean ====
section
/-! SUPPORT. Tables: what a key reads after another, or the same, was set. -/

namespace Sys2Proof.Machine

theorem tabGet_tabPut_same {α : Type} {d v : α} {i : Nat} : {t : Tab α} → tabGet d (tabPut v i t) i = v
  | [] => by simp [tabPut, tabGet]
  | (k, w) :: t => by
    simp only [tabPut]
    split
    · simp [tabGet]
    · split
      · simp [tabGet]
      · rename_i ne
        simp only [tabGet, if_neg ne]
        exact tabGet_tabPut_same

theorem tabGet_tabPut_ne {α : Type} {d v : α} {i j : Nat} (h : j ≠ i) :
    {t : Tab α} → tabGet d (tabPut v i t) j = tabGet d t j
  | [] => by simp [tabPut, tabGet, h]
  | (k, w) :: t => by
    simp only [tabPut]
    split
    · simp [tabGet, h]
    · split
      · rename_i e
        subst e
        simp [tabGet, h]
      · simp only [tabGet]
        split
        · rfl
        · exact tabGet_tabPut_ne h

theorem tabGet_tabDrop_ne {α : Type} {d : α} {i j : Nat} (h : j ≠ i) :
    {t : Tab α} → tabGet d (tabDrop i t) j = tabGet d t j
  | [] => rfl
  | (k, w) :: t => by
    simp only [tabDrop]
    split
    · rename_i e
      subst e
      simp [tabGet, h]
    · simp only [tabGet]
      split
      · rfl
      · exact tabGet_tabDrop_ne h

/-- Another key reads as before. -/
@[simp] theorem tabGet_tabSet_ne {α : Type} [DecidableEq α] {d d' v : α} {i j : Nat} {t : Tab α} (h : j ≠ i) :
    tabGet d' (tabSet d t i v) j = tabGet d' t j := by
  unfold tabSet
  split
  · exact tabGet_tabDrop_ne h
  · exact tabGet_tabPut_ne h

/-- A key set to what it does not read as unlisted reads so. -/
theorem tabGet_tabSet_of_ne {α : Type} [DecidableEq α] {d v : α} {i : Nat} {t : Tab α} (h : v ≠ d) :
    tabGet d (tabSet d t i v) i = v := by
  unfold tabSet
  rw [if_neg h]
  exact tabGet_tabPut_same

theorem tabGet_above {α : Type} {d : α} {i : Nat} : {t : Tab α} → (∀ y ∈ t, i < y.1) → tabGet d t i = d
  | [], _ => rfl
  | (k, w) :: t, h => by
    have lt := h (k, w) (by simp)
    simp only [tabGet, if_neg (Nat.ne_of_lt lt)]
    exact tabGet_above fun y m => h y (by simp [m])

theorem keysRise_all {α : Type} : {x : Nat × α} → {t : Tab α} → keysRise (x :: t) = true →
    (∀ y ∈ t, x.1 < y.1) ∧ keysRise t = true
  | _, [], _ => ⟨by simp, rfl⟩
  | x, y :: t, h => by
    simp only [keysRise, Bool.and_eq_true, decide_eq_true_eq] at h
    refine ⟨fun z m => ?_, h.2⟩
    rcases List.mem_cons.1 m with e | e
    · subst e; exact h.1
    · exact Nat.lt_trans h.1 ((keysRise_all h.2).1 z e)

theorem tabGet_tabDrop_same {α : Type} {d : α} {i : Nat} : {t : Tab α} → keysRise t = true → tabGet d (tabDrop i t) i = d
  | [], _ => rfl
  | (k, w) :: t, h => by
    have h' := keysRise_all h
    simp only [tabDrop]
    split
    · rename_i e
      subst e
      exact tabGet_above h'.1
    · rename_i ne
      simp only [tabGet, if_neg ne]
      exact tabGet_tabDrop_same h'.2

/-- In a canonical table a key that was set reads what it was set to. -/
theorem tabGet_tabSet_same {α : Type} [DecidableEq α] {d : Nat → α} {v : α} {i : Nat} {t : Tab α} (h : tabWf d t = true) :
    tabGet (d i) (tabSet (d i) t i v) i = v := by
  unfold tabSet
  split
  · rename_i e
    subst e
    simp only [tabWf, Bool.and_eq_true] at h
    exact tabGet_tabDrop_same h.1
  · exact tabGet_tabPut_same

end Sys2Proof.Machine
end

