-- ==== Sys2Proof/Laws/Issue.lean ====
section
/-! SUPPORT. The issue of an instruction that takes its effect: what opening, charging and closing a bundle leave, and what
the effects of an instruction add. -/

set_option linter.unusedTactic false
set_option linter.unreachableTactic false

namespace Sys2Proof.Machine

theorem engGet_engPut_ne {e k : Nat} {E : Engine} {s : State} (h : k ≠ e) : engGet (engPut e E s) k = engGet s k :=
  tabGet_tabSet_ne h

/-- An engine that runs reads back as put. -/
theorem engGet_engPut {e : Nat} {E : Engine} {s : State} (h : E.running ≠ .idle) : engGet (engPut e E s) e = E :=
  tabGet_tabSet_of_ne fun h' => h (by rw [h'])

theorem cwGet_cwSet_ne {a b : Nat} {v : Word} {s : State} (h : b ≠ a) : cwGet (cwSet a v s) b = cwGet s b :=
  tabGet_tabSet_ne h

/-- In canonical form a control word reads back as stored. -/
theorem cwGet_cwSet {a : Nat} {v : Word} {s : State} (h : tabWf cwReset s.cw = true) : cwGet (cwSet a v s) a = v :=
  tabGet_tabSet_same h

/-- Two engines differ only in the bookkeeping of an issue. -/
def sameRun (E F : Engine) : Prop :=
  F = { E with
    opRegs := F.opRegs, opPreds := F.opPreds, bundle := F.bundle, pc := F.pc, landing := F.landing, cyc := F.cyc,
    tickCyc := F.tickCyc, ledger := F.ledger, above := F.above }

theorem sameRun_refl (E : Engine) : sameRun E E := rfl
theorem sameRun.trans {E F G : Engine} (h : sameRun E F) (k : sameRun F G) : sameRun E G := by
  unfold sameRun at *
  rw [k, h]
theorem sameRun.running {E F : Engine} (h : sameRun E F) : F.running = E.running := by
  unfold sameRun at h; rw [h]

theorem ranOn_iff {s t : State} {e : Nat} {E : Engine} : ranOn s t e E ↔ sameRun E (engGet t e) ∧
    (∀ k, k ≠ e → engGet t k = engGet s k) ∧ (∀ a, countsCycles e a = false → cwGet t a = cwGet s a) ∧
    t = { s with engines := t.engines, cw := t.cw, trace := t.trace } := Iff.rfl

theorem ranOn_refl (s : State) (e : Nat) : ranOn s s e (engGet s e) := ⟨rfl, fun _ _ => rfl, fun _ _ => rfl, rfl⟩

theorem ranOn.trans {s t u : State} {e : Nat} {E : Engine} (h : ranOn s t e E) (k : ranOn t u e (engGet t e)) :
    ranOn s u e E := by
  obtain ⟨h1, h2, h3, h4⟩ := h
  obtain ⟨k1, k2, k3, k4⟩ := k
  refine ⟨sameRun.trans h1 k1, fun j n => (k2 j n).trans (h2 j n), fun a n => (k3 a n).trans (h3 a n), ?_⟩
  rw [k4, h4]

theorem ranOn.running {s t : State} {e : Nat} {E : Engine} (h : ranOn s t e E) : (engGet t e).running = E.running :=
  sameRun.running h.1

theorem ranOn_engPut {s t : State} {e : Nat} {E F : Engine} (h : ranOn s t e E) (hF : F.running ≠ .idle)
    {E' : Engine} (hs : sameRun E' F) : ranOn s (engPut e F t) e E' := by
  obtain ⟨-, h2, h3, h4⟩ := h
  refine ⟨by rw [engGet_engPut hF]; exact hs, fun j n => (engGet_engPut_ne n).trans (h2 j n), h3, ?_⟩
  show t.putEngines _ = _
  rw [h4]
  rfl

theorem ran_engPut {s : State} {e : Nat} {F : Engine} (hF : F.running ≠ .idle) (hs : sameRun (engGet s e) F) :
    ranOn s (engPut e F s) e (engGet s e) := ranOn_engPut (ranOn_refl s e) hF hs

theorem ran_cwSet {s : State} {e a : Nat} {v : Word} (h : countsCycles e a = true) :
    ranOn s (cwSet a v s) e (engGet s e) := by
  refine ⟨rfl, fun _ _ => rfl, fun b n => cwGet_cwSet_ne ?_, rfl⟩
  rintro rfl
  rw [h] at n
  cases n

theorem counts_ovf (e : Nat) : countsCycles e (pcAddr e 0x19) = true := by simp [countsCycles]
theorem counts_pc {e k : Nat} (h : k < 8) : countsCycles e (pcAddr e k) = true := by
  simp only [countsCycles, Bool.or_eq_true, List.any_eq_true, List.mem_range, beq_iff_eq]
  exact .inr ⟨k, h, rfl⟩

theorem ran_setOvf {s : State} {e k : Nat} : ranOn s (setOvf e k s) e (engGet s e) := ran_cwSet (counts_ovf e)

theorem ran_pcAdd {s : State} {e k n : Nat} (h : k < 8) : ranOn s (pcAdd e k n s).1 e (engGet s e) := by
  unfold pcAdd
  dsimp only
  split
  · exact ran_cwSet (counts_pc h)
  · exact (ran_cwSet (counts_pc h)).trans ran_setOvf

theorem ran_pcOwn {s : State} {e k : Nat} {p : Span} (h : (engGet s e).running ≠ .idle) :
    ranOn s (pcOwn e k p s).1 e (engGet s e) := by
  unfold pcOwn
  extract_lets sel code E was now n
  split
  · exact ranOn_refl s e
  · dsimp only
    split
    · exact ranOn_refl s e
    · exact ran_engPut (F := { E with above := Nat.xor E.above (2 ^ k) }) h rfl

theorem ran_pcStep {s : State} {e k c : Nat} {b : Bool} {p : Span} (hk : k < 8) (h : (engGet s e).running ≠ .idle) :
    ranOn s (pcStep e k p b c s).1 e (engGet s e) := by
  unfold pcStep
  dsimp only
  split
  · split
    · exact ran_setOvf
    · exact ranOn_refl s e
  · split
    · exact ran_pcAdd hk
    · exact (ran_pcOwn h).trans (ran_pcAdd hk)

theorem ran_pcSteps {e : Nat} {p : Span} : ∀ (ks : List Nat) (b : Bool) (c : Nat) (s : State), (∀ k ∈ ks, k < 8) →
    (engGet s e).running ≠ .idle → ranOn s (pcSteps e p ks b c s) e (engGet s e)
  | [], _, _, s, _, _ => ranOn_refl s e
  | k :: ks, b, c, s, hk, h => by
    unfold pcSteps
    dsimp only
    have h1 := ran_pcStep (k := k) (c := c) (b := b) (p := p) (hk k (by simp)) h
    refine h1.trans (ran_pcSteps ks _ _ _ (fun j m => hk j (by simp [m])) ?_)
    rw [h1.running]
    exact h

theorem ran_passCycles {s : State} {e : Nat} {p : Span} (h : (engGet s e).running ≠ .idle) :
    ranOn s (passCycles e p s) e (engGet s e) := by
  unfold passCycles
  extract_lets E
  have h1 : ranOn s (engPut e { E with cyc := (E.cyc + p.cycles) % 2 ^ 72, tickCyc := E.tickCyc + p.cycles } s) e
      (engGet s e) := ran_engPut h rfl
  exact h1.trans (ran_pcSteps _ _ _ _ (by decide) (by rw [h1.running]; exact h))

theorem ran_putTrace {s : State} {e : Nat} {v : List Nat} : ranOn s (s.putTrace v) e (engGet s e) :=
  ⟨rfl, fun _ _ => rfl, fun _ _ => rfl, rfl⟩

theorem ran_trace {s : State} {e p : Nat} : ranOn s (traceBundle e p s) e (engGet s e) := by
  unfold traceBundle
  split
  · exact ran_putTrace
  · exact ranOn_refl s e

/-- A bundle without HALT.TICK closes: only bookkeeping. -/
theorem ran_close {s : State} {e : Nat} (h : (engGet s e).running ≠ .idle) (hh : (engGet s e).bundle.halt = false) :
    ranOn s (closeBundle e s) e (engGet s e) := by
  unfold closeBundle
  extract_lets E b wait flow multi total c E1 s1
  have hb : b.halt = false := hh
  rw [if_neg (by rw [hb]; exact Bool.false_ne_true)]
  have h1 : ranOn s (traceBundle e E.pc s) e (engGet s e) := ran_trace
  have h2 : ranOn s (engPut e E1 (traceBundle e E.pc s)) e (engGet s e) := ranOn_engPut h1 (F := E1) h rfl
  exact h2.trans (ran_passCycles (by rw [h2.running]; exact h))

/-- The slot opens: the operand view is the one that `slotRegs` and `slotPreds` name. -/
theorem ran_open' {s : State} {i : Iss} (h1 : issues s i = true) (h2 : (engGet s i.eng.val).bundle.halt = false) :
    ranOn s (openSlot i.eng.val i.slot s) i.eng.val (engGet s i.eng.val) ∧
      (engGet (openSlot i.eng.val i.slot s) i.eng.val).opRegs = slotRegs s i ∧
      (engGet (openSlot i.eng.val i.slot s) i.eng.val).opPreds = slotPreds s i ∧
      (engGet (openSlot i.eng.val i.slot s) i.eng.val).bundle.halt = false := by
  have hr : (engGet s i.eng.val).running ≠ .idle := by
    intro h0
    simp [issues, h0] at h1
  obtain ⟨e, sl, p⟩ := i
  cases sl
  · have h3 : ranOn s (if (engGet s e.val).bundle.aDone = true then closeBundle e.val s else s) e.val (engGet s e.val) := by
      split
      · exact ran_close hr h2
      · exact ranOn_refl s e
    have hr' := h3.running
    refine ⟨h3.trans (ran_engPut ?_ rfl), ?_, ?_, ?_⟩
    · rw [hr']; exact hr
    all_goals
      unfold openSlot
      dsimp only
      rw [engGet_engPut (by dsimp only; rw [hr']; exact hr)]
    · have := h3.1
      unfold sameRun at this
      simp [slotRegs]
      rw [this]
    · have := h3.1
      simp [slotPreds]
      rw [this]
  · unfold openSlot
    dsimp only
    split
    · rename_i o
      refine ⟨ranOn_refl s e, ?_, ?_, h2⟩
      · simp [slotRegs, bundleOpen, o]
      · simp [slotPreds, bundleOpen, o]
    · rename_i o
      refine ⟨ran_engPut hr rfl, ?_, ?_, ?_⟩ <;> rw [engGet_engPut (by exact hr)]
      · simp [slotRegs, bundleOpen, o]
      · simp [slotPreds, bundleOpen, o]

theorem ran_open {s : State} {i : Iss} (h : takesEffect s i = true) :
    ranOn s (openSlot i.eng.val i.slot s) i.eng.val (engGet s i.eng.val) ∧
      (engGet (openSlot i.eng.val i.slot s) i.eng.val).opRegs = slotRegs s i ∧
      (engGet (openSlot i.eng.val i.slot s) i.eng.val).opPreds = slotPreds s i ∧
      (engGet (openSlot i.eng.val i.slot s) i.eng.val).bundle.halt = false := by
  simp only [takesEffect, Bool.and_eq_true, Bool.not_eq_true'] at h
  exact ran_open' h.1.1 h.1.2

theorem ran_charge {s : State} {e : Nat} {u : Use} {run : Bool} (h : (engGet s e).running ≠ .idle) :
    ranOn s (charge e u run s) e (engGet s e) ∧ (engGet (charge e u run s) e).opRegs = (engGet s e).opRegs ∧
      (engGet (charge e u run s) e).opPreds = (engGet s e).opPreds ∧
      (engGet (charge e u run s) e).bundle.halt = (engGet s e).bundle.halt := by
  unfold charge
  dsimp only
  refine ⟨ran_engPut h rfl, ?_, ?_, ?_⟩ <;> rw [engGet_engPut (by exact h)]

/-- What an instruction that takes its effect leaves: what its body leaves of the opened slot. -/
theorem ran_issue {s base : State} {i : Iss} {u : Use} {body : State → State} {E : Engine} (h : takesEffect s i = true)
    (hE : E.running ≠ .idle)
    (hb : ∀ o, ranOn s o i.eng.val (engGet s i.eng.val) → (engGet o i.eng.val).opRegs = slotRegs s i →
      (engGet o i.eng.val).opPreds = slotPreds s i → (engGet o i.eng.val).bundle.halt = false →
      ranOn base (body o) i.eng.val E ∧ (i.slot = .b → (engGet (body o) i.eng.val).bundle.halt = false)) :
    ranOn base (issue i u body s) i.eng.val E := by
  have ho := ran_open h
  simp only [takesEffect, Bool.and_eq_true, Bool.not_eq_true'] at h
  obtain ⟨⟨h1, h2⟩, h3⟩ := h
  have hr : (engGet s i.eng.val).running ≠ .idle := by
    intro h0
    simp [issues, h0] at h1
  unfold issue
  extract_lets e s1 run s2 s3
  rw [if_neg (by simp [h1])]
  have hrun : run = true := by
    have : run = predRead (engGet s1 e).opPreds i.pred.val := rfl
    rw [this, ho.2.2.1]
    exact h3
  have hr1 : (engGet s1 e).running ≠ .idle := by rw [ho.1.running]; exact hr
  have hc := ran_charge (u := u) (run := run) hr1
  have hs := hb s2 (ho.1.trans hc.1) (hc.2.1.trans ho.2.1) (hc.2.2.1.trans ho.2.2.1) (hc.2.2.2.trans ho.2.2.2)
  have e3 : s3 = body s2 := if_pos hrun
  rw [e3]
  split
  · exact hs.1
  · rename_i hsl
    exact hs.1.trans (ran_close (by rw [hs.1.running]; exact hE) (hs.2 hsl))

theorem takes_running {s : State} {i : Iss} (h : takesEffect s i = true) : (engGet s i.eng.val).running ≠ .idle := by
  simp only [takesEffect, Bool.and_eq_true] at h
  intro h0
  have := h.1.1
  simp [issues, h0] at this

/-! ### What the passing of cycles leaves of an engine -/

/-- f does not look at the cycle counts. -/
abbrev blindCycles {γ : Type} (f : Engine → γ) : Prop :=
  ∀ (E : Engine) c k a, f { E with cyc := c, tickCyc := k, above := a } = f E

theorem pcOwn_eng {γ : Type} {f : Engine → γ} (hf : blindCycles f) {s : State} {e k : Nat} {p : Span}
    (h : (engGet s e).running ≠ .idle) : f (engGet (pcOwn e k p s).1 e) = f (engGet s e) := by
  unfold pcOwn
  extract_lets sel code E was now n
  split
  · rfl
  · dsimp only
    split
    · rfl
    · rw [engGet_engPut (E := { E with above := Nat.xor E.above (2 ^ k) }) (by exact h)]
      exact hf E E.cyc E.tickCyc _

theorem pcStep_eng {γ : Type} {f : Engine → γ} (hf : blindCycles f) {s : State} {e k c : Nat} {b : Bool} {p : Span}
    (h : (engGet s e).running ≠ .idle) : f (engGet (pcStep e k p b c s).1 e) = f (engGet s e) := by
  unfold pcStep
  dsimp only
  split
  · split <;> rfl
  · split
    · unfold pcAdd; dsimp only; split <;> rfl
    · have h1 := pcOwn_eng hf (k := k) (p := p) h
      rw [← h1]
      unfold pcAdd; dsimp only; split <;> rfl

theorem pcSteps_eng {γ : Type} {f : Engine → γ} (hf : blindCycles f) {e : Nat} {p : Span} :
    ∀ (ks : List Nat) (b : Bool) (c : Nat) (s : State), (engGet s e).running ≠ .idle → (∀ k ∈ ks, k < 8) →
      f (engGet (pcSteps e p ks b c s) e) = f (engGet s e)
  | [], _, _, _, _, _ => rfl
  | k :: ks, b, c, s, h, hk => by
    unfold pcSteps
    dsimp only
    have h1 := ran_pcStep (k := k) (c := c) (b := b) (p := p) (hk k (by simp)) h
    rw [pcSteps_eng hf ks _ _ _ (by rw [h1.running]; exact h) fun j m => hk j (by simp [m])]
    exact pcStep_eng hf h

theorem passCycles_eng {γ : Type} {f : Engine → γ} (hf : blindCycles f) {s : State} {e : Nat} {p : Span}
    (h : (engGet s e).running ≠ .idle) : f (engGet (passCycles e p s) e) = f (engGet s e) := by
  unfold passCycles
  extract_lets E
  have h1 : engGet (engPut e { E with cyc := (E.cyc + p.cycles) % 2 ^ 72, tickCyc := E.tickCyc + p.cycles } s) e =
      { E with cyc := (E.cyc + p.cycles) % 2 ^ 72, tickCyc := E.tickCyc + p.cycles } := engGet_engPut (by exact h)
  rw [pcSteps_eng hf _ _ _ _ (by rw [h1]; exact h) (by decide), h1]
  exact hf E _ _ E.above

/-- Where a bundle without HALT.TICK leads. -/
theorem close_pc {s : State} {e : Nat} (h : (engGet s e).running ≠ .idle) (hh : (engGet s e).bundle.halt = false) :
    (engGet (closeBundle e s) e).pc = (engGet s e).bundle.target.getD ((engGet s e).pc + 1) := by
  unfold closeBundle
  extract_lets E b wait flow multi total c E1 s1
  have hb : b.halt = false := hh
  rw [if_neg (by rw [hb]; exact Bool.false_ne_true)]
  have h1 : ranOn s (traceBundle e E.pc s) e (engGet s e) := ran_trace
  have hr : (engGet (engPut e E1 (traceBundle e E.pc s)) e) = E1 := engGet_engPut (by exact h)
  have h3 : (engGet s1 e).pc = (engGet (engPut e E1 (traceBundle e E.pc s)) e).pc :=
    passCycles_eng (f := Engine.pc) (fun _ _ _ _ => rfl) (by rw [hr]; exact h)
  rw [h3, hr]
  show (match b.target with | some t => t | none => E.pc + 1) = _
  cases hbt : b.target with
  | none => simp [b, E] at hbt; simp [E]
  | some v => simp [b, E] at hbt; simp

/-- The bundle address at the opened slot. -/
theorem open_pc {s : State} {i : Iss} (h : issues s i = true) (hh : (engGet s i.eng.val).bundle.halt = false) :
    (engGet (openSlot i.eng.val i.slot s) i.eng.val).pc = bundlePc s i := by
  have hr : (engGet s i.eng.val).running ≠ .idle := by
    intro h0
    simp [issues, h0] at h
  obtain ⟨e, sl, p⟩ := i
  cases sl
  · unfold openSlot
    dsimp only
    have h3 : (engGet (if (engGet s e.val).bundle.aDone = true then closeBundle e.val s else s) e.val).running ≠ .idle := by
      split
      · rw [(ran_close hr hh).running]; exact hr
      · exact hr
    rw [engGet_engPut (by exact h3)]
    dsimp only
    unfold bundlePc
    dsimp only
    by_cases ho : (engGet s e.val).bundle.aDone = true
    · rw [if_pos ho, close_pc hr hh]
      simp [ho]
    · rw [if_neg ho]
      simp [ho]
  · unfold openSlot
    dsimp only
    split
    · simp [bundlePc]
    · rw [engGet_engPut (by exact hr)]
      simp [bundlePc]

/-- What an instruction that takes its effect does: its body on the opened slot, and the bundle closed after slot B. -/
theorem issue_form {s : State} {i : Iss} (h : takesEffect s i = true) (u : Use) :
    ∃ o, ranOn s o i.eng.val (engGet s i.eng.val) ∧ (engGet o i.eng.val).opRegs = slotRegs s i ∧
      (engGet o i.eng.val).opPreds = slotPreds s i ∧ (engGet o i.eng.val).bundle.halt = false ∧
      (engGet o i.eng.val).pc = bundlePc s i ∧
      ∀ body, issue i u body s = match i.slot with | .a => body o | .b => closeBundle i.eng.val (body o) := by
  have hr := takes_running h
  have ho := ran_open h
  have h' := h
  simp only [takesEffect, Bool.and_eq_true, Bool.not_eq_true'] at h'
  obtain ⟨⟨h1, h2⟩, h3⟩ := h'
  have hr1 : (engGet (openSlot i.eng.val i.slot s) i.eng.val).running ≠ .idle := by
    rw [ho.1.running]; exact hr
  have hrun : predRead (engGet (openSlot i.eng.val i.slot s) i.eng.val).opPreds i.pred.val = true := by
    rw [ho.2.2.1]
    exact h3
  have hc := ran_charge (u := u) (run := true) hr1
  refine ⟨charge i.eng.val u true (openSlot i.eng.val i.slot s), ho.1.trans hc.1, hc.2.1.trans ho.2.1,
    hc.2.2.1.trans ho.2.2.1, hc.2.2.2.trans ho.2.2.2, ?_, fun body => ?_⟩
  · have : (engGet (charge i.eng.val u true (openSlot i.eng.val i.slot s)) i.eng.val).pc =
        (engGet (openSlot i.eng.val i.slot s) i.eng.val).pc := by
      unfold charge
      dsimp only
      rw [engGet_engPut (by exact hr1)]
    rw [this]
    exact open_pc h1 h2
  · unfold issue
    extract_lets e s1 run s2 s3
    have e1 : run = true := hrun
    rw [if_neg (by simp [h1])]
    have e3 : s3 = body s2 := if_pos e1
    have e2 : s2 = charge e u true s1 := by
      show charge e u run s1 = _
      rw [e1]
    have e4 : charge e u true s1 = charge i.eng.val u true (openSlot i.eng.val i.slot s) := rfl
    rw [e3, e2, e4]
    all_goals
      generalize charge i.eng.val u true (openSlot i.eng.val i.slot s) = o
      cases i.slot <;> rfl

/-- An instruction of slot A that takes its effect acts on the opened slot. -/
theorem issueA_opens {s : State} {i : IssA} (h : takesEffect s (issueOfA i) = true) (u : Use) :
    ∃ o, opened s o i ∧ (engGet o i.eng.val).opPreds = slotPreds s (issueOfA i) ∧
      (engGet o i.eng.val).bundle.halt = false ∧ ∀ body, issue (issueOfA i) u body s = body o := by
  obtain ⟨o, h1, h2, h3, h4, h5, h6⟩ := issue_form h u
  exact ⟨o, ⟨h1, h2, h5⟩, h3, h4, h6⟩

/-- A body that redirects its bundle sends it there. -/
theorem issue_goes {s : State} {i : Iss} {u : Use} {body : State → State} {a : Nat} (h : takesEffect s i = true)
    (hb : ∀ o, ranOn s o i.eng.val (engGet s i.eng.val) → (engGet o i.eng.val).opRegs = slotRegs s i →
      (engGet o i.eng.val).bundle.halt = false → (engGet o i.eng.val).pc = bundlePc s i →
      (engGet (body o) i.eng.val).running ≠ .idle ∧ (engGet (body o) i.eng.val).bundle.halt = false ∧
        (engGet (body o) i.eng.val).bundle.target = some a) :
    goesTo (issue i u body s) i a := by
  obtain ⟨o, h1, h2, _, h4, h5, h6⟩ := issue_form h u
  have k := hb o h1 h2 h4 h5
  rw [h6]
  unfold goesTo
  cases hs : i.slot
  · exact k.2.2
  · dsimp only
    rw [close_pc k.1 k.2.1, k.2.2]
    rfl

/-- A false predicate leaves only the bookkeeping of the issue (R306). -/
theorem issue_barred {s : State} {i : Iss} (h : barred s i = true) (u : Use) (body : State → State) :
    ranOn s (issue i u body s) i.eng.val (engGet s i.eng.val) := by
  simp only [barred, Bool.and_eq_true, Bool.not_eq_true'] at h
  obtain ⟨⟨h1, h2⟩, h3⟩ := h
  have hr : (engGet s i.eng.val).running ≠ .idle := by
    intro h0
    simp [issues, h0] at h1
  -- opening and charging do not look at the predicate
  have ho := ran_open' h1 h2
  unfold issue
  extract_lets e s1 run s2 s3
  rw [if_neg (by simp [h1])]
  have e1 : run = false := by
    have : run = predRead (engGet s1 e).opPreds i.pred.val := rfl
    rw [this, ho.2.2.1]
    exact h3
  have hr1 : (engGet s1 e).running ≠ .idle := by rw [ho.1.running]; exact hr
  have hc := ran_charge (u := u) (run := run) hr1
  have e3 : s3 = s2 := if_neg (by rw [e1]; exact Bool.false_ne_true)
  rw [e3]
  have h2' := ho.1.trans hc.1
  split
  · exact h2'
  · exact h2'.trans (ran_close (by rw [h2'.running]; exact hr) (hc.2.2.2.trans ho.2.2.2))

/-- A destination register written. -/
theorem ran_setReg {s o : State} {e g : Nat} {v : Word} {E : Engine} (h : ranOn s o e E) (hE : E.running ≠ .idle) :
    ranOn s (setReg e g v o) e { E with regs := regWrite E.regs g v } ∧
      (engGet (setReg e g v o) e).bundle = (engGet o e).bundle := by
  have hr : (engGet o e).running ≠ .idle := by rw [h.running]; exact hE
  unfold setReg
  refine ⟨ranOn_engPut (F := { engGet o e with regs := regWrite (engGet o e).regs g v }) h hr ?_,
    by rw [engGet_engPut (by exact hr)]⟩
  have h1 := h.1
  unfold sameRun
  rw [h1]

/-- A destination predicate written. -/
theorem ran_setPred {s o : State} {e p : Nat} {v : Bool} {E : Engine} (h : ranOn s o e E) (hE : E.running ≠ .idle) :
    ranOn s (setPred e p v o) e { E with preds := predWrite E.preds p v } ∧
      (engGet (setPred e p v o) e).bundle = (engGet o e).bundle := by
  have hr : (engGet o e).running ≠ .idle := by rw [h.running]; exact hE
  unfold setPred
  refine ⟨ranOn_engPut (F := { engGet o e with preds := predWrite (engGet o e).preds p v }) h hr ?_,
    by rw [engGet_engPut (by exact hr)]⟩
  have h1 := h.1
  unfold sameRun
  rw [h1]

end Sys2Proof.Machine
end

