-- ==== Sys2Proof/Laws/Keep.lean ====
section
/-! SUPPORT. What every operation keeps: the queue of waiting commands, and the canonical form of the tables and starters
(the predicates of Safety). One lemma per operation follows in the files beside this one. -/

set_option linter.unusedTactic false
set_option linter.unreachableTactic false

namespace Sys2Proof.Machine

open Sys2Proof.Safety

/-- The canonical form of what a state stores by key, field by field. -/
structure Canon (s : State) : Prop where
  msixTable_ok : tabWf (fun _ => (1 : BitVec 32)) s.msixTable = true
  cw_ok : tabWf cwReset s.cw = true
  ctx_ok : tabWf (fun _ => (0 : Word)) s.ctx = true
  ctxAt_ok : tabWf (fun _ => (0 : Nat)) s.ctxAt = true
  engines_ok : tabWf (fun _ => ({} : Engine)) s.engines = true
  scratch_ok : tabWf (fun _ => (0 : BitVec 288)) s.scratch = true
  hq_ok : tabWf (fun _ => ({} : HostQueue)) s.hq = true
  oh_ok : tabWf (fun _ => (0 : Word)) s.oh = true
  deck_ok : tabWf (fun _ => (0 : Word)) s.deck = true
  sels_ok : tabWf (fun _ => false) s.sels = true
  doms_ok : tabWf domReset s.doms = true
  words_ok : tabWf latchReset s.words = true
  rings_ok : tabWf (fun _ => ({} : CmdRing)) s.rings = true
  hostRing_ok : tabWf (fun _ => ({} : HostRing)) s.hostRing = true
  chkMax_ok : tabWf (fun _ => (0 : Nat)) s.chkMax = true
  lanes_ok : tabWf (fun _ => ({} : Lane)) s.lanes = true
  quads_ok : tabWf (fun _ => ({} : Quad)) s.quads = true
  flex_ok : tabWf (fun _ => (.free : FlexHolder)) s.flex = true
  recClk_ok : tabWf (fun _ => ({} : RecClk)) s.recClk = true
  refClk_ok : tabWf (fun _ => ({} : RefClk)) s.refClk = true
  trackers_ok : tabWf (fun _ => ({} : Tracker)) s.trackers = true
  framers_ok : tabWf (fun _ => ({} : Framer)) s.framers = true
  mons_ok : tabWf (fun _ => ({} : Mon)) s.mons = true
  ohT0_ok : tabWf (fun _ => (0 : Word)) s.ohT0 = true
  cells_ok : tabWf (fun _ => ({} : Cell)) s.cells = true
  cellsT0_ok : tabWf (fun _ => ({} : Cell)) s.cellsT0 = true
  decks_ok : tabWf (fun _ => ({} : DieDeck)) s.decks = true
  rsz_ok : tabWf (fun _ => ({} : Rsz)) s.rsz = true
  prfRings_ok : tabWf (fun _ => ({} : Ring)) s.prfRings = true
  hls_ok : tabWf (fun _ => ({} : Hl)) s.hls = true
  groups_ok : tabWf (fun _ => ({} : Group)) s.groups = true
  substs_ok : tabWf (fun _ => (0 : Nat)) s.substs = true
  unverified_ok : tabWf (fun _ => (0 : Nat)) s.unverified = true
  firstRing_ok : tabWf (fun _ => (0 : Nat)) s.firstRing = true
  pairs_ok : tabWf (fun _ => ({} : Pair)) s.pairs = true
  audio_ok : tabWf (fun _ => ({} : Audio)) s.audio = true
  sync_ok : tabWf (fun _ => ({} : SyncIn)) s.sync = true
  vloops_ok : tabWf (fun _ => ({} : Vloop)) s.vloops = true
  sess_ok : tabWf (fun _ => ({} : Session)) s.sess = true
  cq_ok : tabWf (fun _ => ({} : ClientQueue)) s.cq = true
  ports_ok : tabWf (fun _ => ({} : Port)) s.ports = true
  bank_ok : starterOk s.bank = true
  spare_ok : starterOk s.spare = true
  sweep_ok : s.rdn.sweepRx.all starterOk = true
  sealed_ok : s.sec.sealed.all starterOk = true
  nvmA_ok : s.nvm.starter.a.all (fun p => starterOk p.2) = true
  nvmB_ok : s.nvm.starter.b.all (fun p => starterOk p.2) = true
  busy_ok : jobOk s.nvm.busy = true

/-- From `r` to `s` the queue stands and the canonical form is kept. -/
structure Keeps (r s : State) : Prop where
  pending : s.pending = r.pending
  canon : Canon r → Canon s

/-- The same of an effect that is checked first. -/
def KeepsE (r : State) (x : Applied) : Prop := ∀ t, x = .ok t → Keeps r t
/-- The same of an outcome. -/
def KeepsR (r : State) (x : Result) : Prop := ∀ t, x = .next t → Keeps r t
/-- The same of an optional state. -/
def KeepsO (r : State) (x : Option State) : Prop := ∀ t, x = some t → Keeps r t

theorem keeps_refl (s : State) : Keeps s s := ⟨rfl, id⟩
theorem Keeps.trans {r s t : State} (h : Keeps r s) (k : Keeps s t) : Keeps r t :=
  ⟨k.pending.trans h.pending, fun c => k.canon (h.canon c)⟩
theorem keepsE_ok {r s : State} (h : Keeps r s) : KeepsE r (.ok s) := fun _ e => by cases e; exact h
theorem keepsE_error {r : State} {n : Nat} : KeepsE r (.error n) := fun _ e => by cases e
theorem keepsR_next {r s : State} (h : Keeps r s) : KeepsR r (.next s) := fun _ e => by cases e; exact h
theorem keepsO_some {r s : State} (h : Keeps r s) : KeepsO r (some s) := fun _ e => by cases e; exact h
theorem keepsO_none {r : State} : KeepsO r none := fun _ e => by cases e

theorem keeps_ite {r s t : State} {c : Prop} [Decidable c] (he : Keeps r t) (ht : Keeps r t → Keeps r s) :
    Keeps r (if c then s else t) := by
  split
  · exact ht he
  · exact he
theorem keepsE_ite {r : State} {s t : Applied} {c : Prop} [Decidable c] (ht : KeepsE r s) (he : KeepsE r t) :
    KeepsE r (if c then s else t) := by split <;> assumption
theorem keepsR_ite {r : State} {s t : Result} {c : Prop} [Decidable c] (ht : KeepsR r s) (he : KeepsR r t) :
    KeepsR r (if c then s else t) := by split <;> assumption
theorem keeps_foldl {α : Type} {r s : State} {f : State → α → State} {l : List α} (h : Keeps r s)
    (hf : ∀ t x, Keeps r t → Keeps r (f t x)) : Keeps r (l.foldl f s) := by
  induction l generalizing s with
  | nil => exact h
  | cons x l ih => exact ih (hf s x h)

/-! ### Tables -/

theorem keysRise_tail {α : Type} {x : Nat × α} {t : Tab α} (h : keysRise (x :: t) = true) : keysRise t = true := by
  cases t with
  | nil => rfl
  | cons y t => simp [keysRise] at h; exact h.2

theorem keysRise_cons {α : Type} {x : Nat × α} {t : Tab α} :
    keysRise (x :: t) = true ↔ (∀ y ∈ t, x.1 < y.1) ∧ keysRise t = true := by
  induction t generalizing x with
  | nil => simp [keysRise]
  | cons y t ih =>
    constructor
    · intro h
      simp only [keysRise, Bool.and_eq_true, decide_eq_true_eq] at h
      refine ⟨fun z hz => ?_, h.2⟩
      rcases List.mem_cons.1 hz with e | e
      · subst e; exact h.1
      · exact Nat.lt_trans h.1 ((ih.1 h.2).1 z e)
    · intro h
      simp only [keysRise, Bool.and_eq_true, decide_eq_true_eq]
      exact ⟨h.1 y (by simp), h.2⟩

theorem tabWf_cons {α : Type} [DecidableEq α] {d : Nat → α} {x : Nat × α} {t : Tab α} :
    tabWf d (x :: t) = true ↔ (∀ y ∈ t, x.1 < y.1) ∧ x.2 ≠ d x.1 ∧ tabWf d t = true := by
  simp only [tabWf, Bool.and_eq_true, keysRise_cons, List.all_cons, decide_eq_true_eq]
  constructor
  · rintro ⟨⟨a, b⟩, c, e⟩; exact ⟨a, c, b, e⟩
  · rintro ⟨a, c, b, e⟩; exact ⟨⟨a, b⟩, c, e⟩

theorem tabDrop_mem {α : Type} {i : Nat} {y : Nat × α} : {t : Tab α} → y ∈ tabDrop i t → y ∈ t
  | [], h => h
  | (k, w) :: t, h => by
    simp only [tabDrop] at h
    split at h
    · exact List.mem_cons_of_mem _ h
    · rcases List.mem_cons.1 h with e | e
      · subst e; simp
      · exact List.mem_cons_of_mem _ (tabDrop_mem e)

theorem tabPut_mem {α : Type} {i : Nat} {v : α} {y : Nat × α} : {t : Tab α} → y ∈ tabPut v i t → y = (i, v) ∨ y ∈ t
  | [], h => by simpa [tabPut] using h
  | (k, w) :: t, h => by
    simp only [tabPut] at h
    split at h
    · simpa using h
    · split at h
      · rcases List.mem_cons.1 h with e | e
        · exact .inl e
        · exact .inr (List.mem_cons_of_mem _ e)
      · rcases List.mem_cons.1 h with e | e
        · exact .inr (by simp [e])
        · rcases tabPut_mem e with e | e
          · exact .inl e
          · exact .inr (List.mem_cons_of_mem _ e)

theorem tabDrop_ok {α : Type} [DecidableEq α] {d : Nat → α} {i : Nat} :
    {t : Tab α} → tabWf d t = true → tabWf d (tabDrop i t) = true
  | [], h => h
  | (k, w) :: t, h => by
    have h' := tabWf_cons.1 h
    simp only [tabDrop]
    split
    · exact h'.2.2
    · exact tabWf_cons.2 ⟨fun y m => h'.1 y (tabDrop_mem m), h'.2.1, tabDrop_ok h'.2.2⟩

theorem tabPut_ok {α : Type} [DecidableEq α] {d : Nat → α} {i : Nat} {v : α} (hv : v ≠ d i) :
    {t : Tab α} → tabWf d t = true → tabWf d (tabPut v i t) = true
  | [], _ => by simp [tabPut, tabWf, keysRise, hv]
  | (k, w) :: t, h => by
    have h' := tabWf_cons.1 h
    simp only [tabPut]
    split
    · rename_i lt
      refine tabWf_cons.2 ⟨fun y m => ?_, hv, h⟩
      rcases List.mem_cons.1 m with e | e
      · subst e; exact lt
      · exact Nat.lt_trans lt (h'.1 y e)
    · rename_i nlt
      split
      · rename_i e
        subst e
        exact tabWf_cons.2 ⟨h'.1, hv, h'.2.2⟩
      · rename_i ne
        refine tabWf_cons.2 ⟨fun y m => ?_, h'.2.1, tabPut_ok hv h'.2.2⟩
        rcases tabPut_mem m with e | e
        · subst e; exact Nat.lt_of_le_of_ne (Nat.le_of_not_lt nlt) (Ne.symm ne)
        · exact h'.1 y e

/-- Setting a key keeps the canonical form. -/
theorem tabSet_ok {α : Type} [DecidableEq α] {d : Nat → α} {i : Nat} {v : α} {t : Tab α} (h : tabWf d t = true) :
    tabWf d (tabSet (d i) t i v) = true := by
  unfold tabSet
  split
  · exact tabDrop_ok h
  · rename_i ne; exact tabPut_ok ne h

/-- The same of a table whose unlisted keys all read alike. -/
theorem tabSet_ok' {α : Type} [DecidableEq α] {d : α} {i : Nat} {v : α} {t : Tab α} (h : tabWf (fun _ => d) t = true) :
    tabWf (fun _ => d) (tabSet d t i v) = true := tabSet_ok (d := fun _ => d) h

theorem tabFilter_ok {α : Type} [DecidableEq α] {d : Nat → α} {p : Nat × α → Bool} {t : Tab α} (h : tabWf d t = true) :
    tabWf d (t.filter p) = true := by
  induction t with
  | nil => exact h
  | cons x t ih =>
    have h' := tabWf_cons.1 h
    rw [List.filter_cons]
    split
    · exact tabWf_cons.2 ⟨fun y m => h'.1 y (List.mem_filter.1 m).1, h'.2.1, ih h'.2.2⟩
    · exact ih h'.2.2

theorem tabMap_mem {α : Type} [DecidableEq α] {d : α} {f : α → α} {y : Nat × α} :
    {t : Tab α} → y ∈ tabMap d f t → ∃ z ∈ t, z.1 = y.1
  | [], h => by simp [tabMap] at h
  | (k, v) :: t, h => by
    simp only [tabMap] at h
    split at h
    · obtain ⟨z, m, e⟩ := tabMap_mem h
      exact ⟨z, List.mem_cons_of_mem _ m, e⟩
    · rcases List.mem_cons.1 h with e | e
      · subst e; exact ⟨(k, v), by simp, rfl⟩
      · obtain ⟨z, m, e⟩ := tabMap_mem e
        exact ⟨z, List.mem_cons_of_mem _ m, e⟩

theorem tabMap_ok {α : Type} [DecidableEq α] {d : α} {f : α → α} :
    {t : Tab α} → tabWf (fun _ => d) t = true → tabWf (fun _ => d) (tabMap d f t) = true
  | [], h => h
  | (k, v) :: t, h => by
    have h' := tabWf_cons.1 h
    simp only [tabMap]
    split
    · exact tabMap_ok h'.2.2
    · rename_i ne
      refine tabWf_cons.2 ⟨fun y m => ?_, ne, tabMap_ok h'.2.2⟩
      obtain ⟨z, mz, e⟩ := tabMap_mem m
      exact e ▸ h'.1 z mz

theorem tabNil_ok {α : Type} [DecidableEq α] {d : Nat → α} : tabWf d ([] : Tab α) = true := rfl

theorem tabFold_ok {α β : Type} [DecidableEq α] {d : Nat → α} {f : Tab α → β → Tab α} {l : List β} {t : Tab α}
    (h : tabWf d t = true) (hf : ∀ t x, tabWf d t = true → tabWf d (f t x) = true) : tabWf d (l.foldl f t) = true := by
  induction l generalizing t with
  | nil => exact h
  | cons x l ih => exact ih (hf t x h)

/-! ### One update -/

theorem putFreeUses_keeps {r s : State} {v : Nat} (h : Keeps r s) : Keeps r (s.putFreeUses v) :=
  ⟨h.pending, fun c => { h.canon c with }⟩
theorem putOut_keeps {r s : State} {v : List Out} (h : Keeps r s) : Keeps r (s.putOut v) :=
  ⟨h.pending, fun c => { h.canon c with }⟩
theorem putMode_keeps {r s : State} {v : Mode} (h : Keeps r s) : Keeps r (s.putMode v) :=
  ⟨h.pending, fun c => { h.canon c with }⟩
theorem putModeCause_keeps {r s : State} {v : Nat} (h : Keeps r s) : Keeps r (s.putModeCause v) :=
  ⟨h.pending, fun c => { h.canon c with }⟩
theorem putPhase_keeps {r s : State} {v : Phase} (h : Keeps r s) : Keeps r (s.putPhase v) :=
  ⟨h.pending, fun c => { h.canon c with }⟩
theorem putStraps_keeps {r s : State} {v : Straps} (h : Keeps r s) : Keeps r (s.putStraps v) :=
  ⟨h.pending, fun c => { h.canon c with }⟩
theorem putPerst_keeps {r s : State} {v : Bool} (h : Keeps r s) : Keeps r (s.putPerst v) :=
  ⟨h.pending, fun c => { h.canon c with }⟩
theorem putVinHigh_keeps {r s : State} {v : Bool} (h : Keeps r s) : Keeps r (s.putVinHigh v) :=
  ⟨h.pending, fun c => { h.canon c with }⟩
theorem putClaimed_keeps {r s : State} {v : Bool} (h : Keeps r s) : Keeps r (s.putClaimed v) :=
  ⟨h.pending, fun c => { h.canon c with }⟩
theorem putResetDue_keeps {r s : State} {v : Bool} (h : Keeps r s) : Keeps r (s.putResetDue v) :=
  ⟨h.pending, fun c => { h.canon c with }⟩
theorem putMeas_keeps {r s : State} {v : Meas} (h : Keeps r s) : Keeps r (s.putMeas v) :=
  ⟨h.pending, fun c => { h.canon c with }⟩
theorem putHot_keeps {r s : State} {v : Bool} (h : Keeps r s) : Keeps r (s.putHot v) :=
  ⟨h.pending, fun c => { h.canon c with }⟩
theorem putTick_keeps {r s : State} {v : Word} (h : Keeps r s) : Keeps r (s.putTick v) :=
  ⟨h.pending, fun c => { h.canon c with }⟩
theorem putWrap_keeps {r s : State} {v : Word} (h : Keeps r s) : Keeps r (s.putWrap v) :=
  ⟨h.pending, fun c => { h.canon c with }⟩
theorem putHbOut_keeps {r s : State} {v : Bool} (h : Keeps r s) : Keeps r (s.putHbOut v) :=
  ⟨h.pending, fun c => { h.canon c with }⟩
theorem putCw_keeps {r s : State} {v : Tab Word} (h : Keeps r s) (hv : Canon s → tabWf cwReset v = true) :
    Keeps r (s.putCw v) :=
  ⟨h.pending, fun c => { h.canon c with cw_ok := hv (h.canon c) }⟩
theorem putCw_of {r s : State} {v : Tab Word} (h : Keeps r s) (hv : Canon r → tabWf cwReset v = true) :
    Keeps r (s.putCw v) :=
  ⟨h.pending, fun c => { h.canon c with cw_ok := hv c }⟩
theorem putCtx_keeps {r s : State} {v : Tab Word} (h : Keeps r s) (hv : Canon s → tabWf (fun _ => (0 : Word)) v = true) :
    Keeps r (s.putCtx v) :=
  ⟨h.pending, fun c => { h.canon c with ctx_ok := hv (h.canon c) }⟩
theorem putCtx_of {r s : State} {v : Tab Word} (h : Keeps r s) (hv : Canon r → tabWf (fun _ => (0 : Word)) v = true) :
    Keeps r (s.putCtx v) :=
  ⟨h.pending, fun c => { h.canon c with ctx_ok := hv c }⟩
theorem putCtxAt_keeps {r s : State} {v : Tab Nat} (h : Keeps r s) (hv : Canon s → tabWf (fun _ => (0 : Nat)) v = true) :
    Keeps r (s.putCtxAt v) :=
  ⟨h.pending, fun c => { h.canon c with ctxAt_ok := hv (h.canon c) }⟩
theorem putCtxAt_of {r s : State} {v : Tab Nat} (h : Keeps r s) (hv : Canon r → tabWf (fun _ => (0 : Nat)) v = true) :
    Keeps r (s.putCtxAt v) :=
  ⟨h.pending, fun c => { h.canon c with ctxAt_ok := hv c }⟩
theorem putEngines_keeps {r s : State} {v : Tab Engine} (h : Keeps r s) (hv : Canon s → tabWf (fun _ => ({} : Engine)) v = true) :
    Keeps r (s.putEngines v) :=
  ⟨h.pending, fun c => { h.canon c with engines_ok := hv (h.canon c) }⟩
theorem putEngines_of {r s : State} {v : Tab Engine} (h : Keeps r s) (hv : Canon r → tabWf (fun _ => ({} : Engine)) v = true) :
    Keeps r (s.putEngines v) :=
  ⟨h.pending, fun c => { h.canon c with engines_ok := hv c }⟩
theorem putLoaf_keeps {r s : State} {v : Option Loaf} (h : Keeps r s) : Keeps r (s.putLoaf v) :=
  ⟨h.pending, fun c => { h.canon c with }⟩
theorem putLoafNext_keeps {r s : State} {v : Option Loaf} (h : Keeps r s) : Keeps r (s.putLoafNext v) :=
  ⟨h.pending, fun c => { h.canon c with }⟩
theorem putLoafDue_keeps {r s : State} {v : Bool} (h : Keeps r s) : Keeps r (s.putLoafDue v) :=
  ⟨h.pending, fun c => { h.canon c with }⟩
theorem putBatch_keeps {r s : State} {v : Option BatchRun} (h : Keeps r s) : Keeps r (s.putBatch v) :=
  ⟨h.pending, fun c => { h.canon c with }⟩
theorem putSuspended_keeps {r s : State} {v : Option Engine} (h : Keeps r s) : Keeps r (s.putSuspended v) :=
  ⟨h.pending, fun c => { h.canon c with }⟩
theorem putBatchesDone_keeps {r s : State} {v : List BatchRun} (h : Keeps r s) : Keeps r (s.putBatchesDone v) :=
  ⟨h.pending, fun c => { h.canon c with }⟩
theorem putBatchIds_keeps {r s : State} {v : Nat} (h : Keeps r s) : Keeps r (s.putBatchIds v) :=
  ⟨h.pending, fun c => { h.canon c with }⟩
theorem putLastRing_keeps {r s : State} {v : Nat} (h : Keeps r s) : Keeps r (s.putLastRing v) :=
  ⟨h.pending, fun c => { h.canon c with }⟩
theorem putRings_keeps {r s : State} {v : Tab CmdRing} (h : Keeps r s) (hv : Canon s → tabWf (fun _ => ({} : CmdRing)) v = true) :
    Keeps r (s.putRings v) :=
  ⟨h.pending, fun c => { h.canon c with rings_ok := hv (h.canon c) }⟩
theorem putRings_of {r s : State} {v : Tab CmdRing} (h : Keeps r s) (hv : Canon r → tabWf (fun _ => ({} : CmdRing)) v = true) :
    Keeps r (s.putRings v) :=
  ⟨h.pending, fun c => { h.canon c with rings_ok := hv c }⟩
theorem putScratch_keeps {r s : State} {v : Tab (BitVec 288)} (h : Keeps r s) (hv : Canon s → tabWf (fun _ => (0 : BitVec 288)) v = true) :
    Keeps r (s.putScratch v) :=
  ⟨h.pending, fun c => { h.canon c with scratch_ok := hv (h.canon c) }⟩
theorem putScratch_of {r s : State} {v : Tab (BitVec 288)} (h : Keeps r s) (hv : Canon r → tabWf (fun _ => (0 : BitVec 288)) v = true) :
    Keeps r (s.putScratch v) :=
  ⟨h.pending, fun c => { h.canon c with scratch_ok := hv c }⟩
theorem putHq_keeps {r s : State} {v : Tab HostQueue} (h : Keeps r s) (hv : Canon s → tabWf (fun _ => ({} : HostQueue)) v = true) :
    Keeps r (s.putHq v) :=
  ⟨h.pending, fun c => { h.canon c with hq_ok := hv (h.canon c) }⟩
theorem putHq_of {r s : State} {v : Tab HostQueue} (h : Keeps r s) (hv : Canon r → tabWf (fun _ => ({} : HostQueue)) v = true) :
    Keeps r (s.putHq v) :=
  ⟨h.pending, fun c => { h.canon c with hq_ok := hv c }⟩
theorem putHostRing_keeps {r s : State} {v : Tab HostRing} (h : Keeps r s) (hv : Canon s → tabWf (fun _ => ({} : HostRing)) v = true) :
    Keeps r (s.putHostRing v) :=
  ⟨h.pending, fun c => { h.canon c with hostRing_ok := hv (h.canon c) }⟩
theorem putHostRing_of {r s : State} {v : Tab HostRing} (h : Keeps r s) (hv : Canon r → tabWf (fun _ => ({} : HostRing)) v = true) :
    Keeps r (s.putHostRing v) :=
  ⟨h.pending, fun c => { h.canon c with hostRing_ok := hv c }⟩
theorem putIntPend_keeps {r s : State} {v : Nat} (h : Keeps r s) : Keeps r (s.putIntPend v) :=
  ⟨h.pending, fun c => { h.canon c with }⟩
theorem putMsixPba_keeps {r s : State} {v : Nat} (h : Keeps r s) : Keeps r (s.putMsixPba v) :=
  ⟨h.pending, fun c => { h.canon c with }⟩
theorem putViolated_keeps {r s : State} {v : List Nat} (h : Keeps r s) : Keeps r (s.putViolated v) :=
  ⟨h.pending, fun c => { h.canon c with }⟩
theorem putChkMax_keeps {r s : State} {v : Tab Nat} (h : Keeps r s) (hv : Canon s → tabWf (fun _ => (0 : Nat)) v = true) :
    Keeps r (s.putChkMax v) :=
  ⟨h.pending, fun c => { h.canon c with chkMax_ok := hv (h.canon c) }⟩
theorem putChkMax_of {r s : State} {v : Tab Nat} (h : Keeps r s) (hv : Canon r → tabWf (fun _ => (0 : Nat)) v = true) :
    Keeps r (s.putChkMax v) :=
  ⟨h.pending, fun c => { h.canon c with chkMax_ok := hv c }⟩
theorem putCaptures_keeps {r s : State} {v : Nat} (h : Keeps r s) : Keeps r (s.putCaptures v) :=
  ⟨h.pending, fun c => { h.canon c with }⟩
theorem putDue_keeps {r s : State} {v : List Due} (h : Keeps r s) : Keeps r (s.putDue v) :=
  ⟨h.pending, fun c => { h.canon c with }⟩
theorem putLanes_keeps {r s : State} {v : Tab Lane} (h : Keeps r s) (hv : Canon s → tabWf (fun _ => ({} : Lane)) v = true) :
    Keeps r (s.putLanes v) :=
  ⟨h.pending, fun c => { h.canon c with lanes_ok := hv (h.canon c) }⟩
theorem putLanes_of {r s : State} {v : Tab Lane} (h : Keeps r s) (hv : Canon r → tabWf (fun _ => ({} : Lane)) v = true) :
    Keeps r (s.putLanes v) :=
  ⟨h.pending, fun c => { h.canon c with lanes_ok := hv c }⟩
theorem putQuads_keeps {r s : State} {v : Tab Quad} (h : Keeps r s) (hv : Canon s → tabWf (fun _ => ({} : Quad)) v = true) :
    Keeps r (s.putQuads v) :=
  ⟨h.pending, fun c => { h.canon c with quads_ok := hv (h.canon c) }⟩
theorem putQuads_of {r s : State} {v : Tab Quad} (h : Keeps r s) (hv : Canon r → tabWf (fun _ => ({} : Quad)) v = true) :
    Keeps r (s.putQuads v) :=
  ⟨h.pending, fun c => { h.canon c with quads_ok := hv c }⟩
theorem putFlex_keeps {r s : State} {v : Tab FlexHolder} (h : Keeps r s) (hv : Canon s → tabWf (fun _ => (.free : FlexHolder)) v = true) :
    Keeps r (s.putFlex v) :=
  ⟨h.pending, fun c => { h.canon c with flex_ok := hv (h.canon c) }⟩
theorem putFlex_of {r s : State} {v : Tab FlexHolder} (h : Keeps r s) (hv : Canon r → tabWf (fun _ => (.free : FlexHolder)) v = true) :
    Keeps r (s.putFlex v) :=
  ⟨h.pending, fun c => { h.canon c with flex_ok := hv c }⟩
theorem putRecClk_keeps {r s : State} {v : Tab RecClk} (h : Keeps r s) (hv : Canon s → tabWf (fun _ => ({} : RecClk)) v = true) :
    Keeps r (s.putRecClk v) :=
  ⟨h.pending, fun c => { h.canon c with recClk_ok := hv (h.canon c) }⟩
theorem putRecClk_of {r s : State} {v : Tab RecClk} (h : Keeps r s) (hv : Canon r → tabWf (fun _ => ({} : RecClk)) v = true) :
    Keeps r (s.putRecClk v) :=
  ⟨h.pending, fun c => { h.canon c with recClk_ok := hv c }⟩
theorem putRefClk_keeps {r s : State} {v : Tab RefClk} (h : Keeps r s) (hv : Canon s → tabWf (fun _ => ({} : RefClk)) v = true) :
    Keeps r (s.putRefClk v) :=
  ⟨h.pending, fun c => { h.canon c with refClk_ok := hv (h.canon c) }⟩
theorem putRefClk_of {r s : State} {v : Tab RefClk} (h : Keeps r s) (hv : Canon r → tabWf (fun _ => ({} : RefClk)) v = true) :
    Keeps r (s.putRefClk v) :=
  ⟨h.pending, fun c => { h.canon c with refClk_ok := hv c }⟩
theorem putIlk_keeps {r s : State} {v : Ilk} (h : Keeps r s) : Keeps r (s.putIlk v) :=
  ⟨h.pending, fun c => { h.canon c with }⟩
theorem putTrackers_keeps {r s : State} {v : Tab Tracker} (h : Keeps r s) (hv : Canon s → tabWf (fun _ => ({} : Tracker)) v = true) :
    Keeps r (s.putTrackers v) :=
  ⟨h.pending, fun c => { h.canon c with trackers_ok := hv (h.canon c) }⟩
theorem putTrackers_of {r s : State} {v : Tab Tracker} (h : Keeps r s) (hv : Canon r → tabWf (fun _ => ({} : Tracker)) v = true) :
    Keeps r (s.putTrackers v) :=
  ⟨h.pending, fun c => { h.canon c with trackers_ok := hv c }⟩
theorem putFramers_keeps {r s : State} {v : Tab Framer} (h : Keeps r s) (hv : Canon s → tabWf (fun _ => ({} : Framer)) v = true) :
    Keeps r (s.putFramers v) :=
  ⟨h.pending, fun c => { h.canon c with framers_ok := hv (h.canon c) }⟩
theorem putFramers_of {r s : State} {v : Tab Framer} (h : Keeps r s) (hv : Canon r → tabWf (fun _ => ({} : Framer)) v = true) :
    Keeps r (s.putFramers v) :=
  ⟨h.pending, fun c => { h.canon c with framers_ok := hv c }⟩
theorem putMons_keeps {r s : State} {v : Tab Mon} (h : Keeps r s) (hv : Canon s → tabWf (fun _ => ({} : Mon)) v = true) :
    Keeps r (s.putMons v) :=
  ⟨h.pending, fun c => { h.canon c with mons_ok := hv (h.canon c) }⟩
theorem putMons_of {r s : State} {v : Tab Mon} (h : Keeps r s) (hv : Canon r → tabWf (fun _ => ({} : Mon)) v = true) :
    Keeps r (s.putMons v) :=
  ⟨h.pending, fun c => { h.canon c with mons_ok := hv c }⟩
theorem putOh_keeps {r s : State} {v : Tab Word} (h : Keeps r s) (hv : Canon s → tabWf (fun _ => (0 : Word)) v = true) :
    Keeps r (s.putOh v) :=
  ⟨h.pending, fun c => { h.canon c with oh_ok := hv (h.canon c) }⟩
theorem putOh_of {r s : State} {v : Tab Word} (h : Keeps r s) (hv : Canon r → tabWf (fun _ => (0 : Word)) v = true) :
    Keeps r (s.putOh v) :=
  ⟨h.pending, fun c => { h.canon c with oh_ok := hv c }⟩
theorem putOhT0_keeps {r s : State} {v : Tab Word} (h : Keeps r s) (hv : Canon s → tabWf (fun _ => (0 : Word)) v = true) :
    Keeps r (s.putOhT0 v) :=
  ⟨h.pending, fun c => { h.canon c with ohT0_ok := hv (h.canon c) }⟩
theorem putOhT0_of {r s : State} {v : Tab Word} (h : Keeps r s) (hv : Canon r → tabWf (fun _ => (0 : Word)) v = true) :
    Keeps r (s.putOhT0 v) :=
  ⟨h.pending, fun c => { h.canon c with ohT0_ok := hv c }⟩
theorem putCells_keeps {r s : State} {v : Tab Cell} (h : Keeps r s) (hv : Canon s → tabWf (fun _ => ({} : Cell)) v = true) :
    Keeps r (s.putCells v) :=
  ⟨h.pending, fun c => { h.canon c with cells_ok := hv (h.canon c) }⟩
theorem putCells_of {r s : State} {v : Tab Cell} (h : Keeps r s) (hv : Canon r → tabWf (fun _ => ({} : Cell)) v = true) :
    Keeps r (s.putCells v) :=
  ⟨h.pending, fun c => { h.canon c with cells_ok := hv c }⟩
theorem putCellsT0_keeps {r s : State} {v : Tab Cell} (h : Keeps r s) (hv : Canon s → tabWf (fun _ => ({} : Cell)) v = true) :
    Keeps r (s.putCellsT0 v) :=
  ⟨h.pending, fun c => { h.canon c with cellsT0_ok := hv (h.canon c) }⟩
theorem putCellsT0_of {r s : State} {v : Tab Cell} (h : Keeps r s) (hv : Canon r → tabWf (fun _ => ({} : Cell)) v = true) :
    Keeps r (s.putCellsT0 v) :=
  ⟨h.pending, fun c => { h.canon c with cellsT0_ok := hv c }⟩
theorem putBinQ_keeps {r s : State} {v : Nat} (h : Keeps r s) : Keeps r (s.putBinQ v) :=
  ⟨h.pending, fun c => { h.canon c with }⟩
theorem putBinD_keeps {r s : State} {v : Nat} (h : Keeps r s) : Keeps r (s.putBinD v) :=
  ⟨h.pending, fun c => { h.canon c with }⟩
theorem putBinLoad_keeps {r s : State} {v : Option (Nat × Nat)} (h : Keeps r s) : Keeps r (s.putBinLoad v) :=
  ⟨h.pending, fun c => { h.canon c with }⟩
theorem putBinRestored_keeps {r s : State} {v : Bool} (h : Keeps r s) : Keeps r (s.putBinRestored v) :=
  ⟨h.pending, fun c => { h.canon c with }⟩
theorem putPmTime_keeps {r s : State} {v : Word} (h : Keeps r s) : Keeps r (s.putPmTime v) :=
  ⟨h.pending, fun c => { h.canon c with }⟩
theorem putDeck_keeps {r s : State} {v : Tab Word} (h : Keeps r s) (hv : Canon s → tabWf (fun _ => (0 : Word)) v = true) :
    Keeps r (s.putDeck v) :=
  ⟨h.pending, fun c => { h.canon c with deck_ok := hv (h.canon c) }⟩
theorem putDeck_of {r s : State} {v : Tab Word} (h : Keeps r s) (hv : Canon r → tabWf (fun _ => (0 : Word)) v = true) :
    Keeps r (s.putDeck v) :=
  ⟨h.pending, fun c => { h.canon c with deck_ok := hv c }⟩
theorem putSels_keeps {r s : State} {v : Tab Bool} (h : Keeps r s) (hv : Canon s → tabWf (fun _ => false) v = true) :
    Keeps r (s.putSels v) :=
  ⟨h.pending, fun c => { h.canon c with sels_ok := hv (h.canon c) }⟩
theorem putSels_of {r s : State} {v : Tab Bool} (h : Keeps r s) (hv : Canon r → tabWf (fun _ => false) v = true) :
    Keeps r (s.putSels v) :=
  ⟨h.pending, fun c => { h.canon c with sels_ok := hv c }⟩
theorem putDecks_keeps {r s : State} {v : Tab DieDeck} (h : Keeps r s) (hv : Canon s → tabWf (fun _ => ({} : DieDeck)) v = true) :
    Keeps r (s.putDecks v) :=
  ⟨h.pending, fun c => { h.canon c with decks_ok := hv (h.canon c) }⟩
theorem putDecks_of {r s : State} {v : Tab DieDeck} (h : Keeps r s) (hv : Canon r → tabWf (fun _ => ({} : DieDeck)) v = true) :
    Keeps r (s.putDecks v) :=
  ⟨h.pending, fun c => { h.canon c with decks_ok := hv c }⟩
theorem putRsz_keeps {r s : State} {v : Tab Rsz} (h : Keeps r s) (hv : Canon s → tabWf (fun _ => ({} : Rsz)) v = true) :
    Keeps r (s.putRsz v) :=
  ⟨h.pending, fun c => { h.canon c with rsz_ok := hv (h.canon c) }⟩
theorem putRsz_of {r s : State} {v : Tab Rsz} (h : Keeps r s) (hv : Canon r → tabWf (fun _ => ({} : Rsz)) v = true) :
    Keeps r (s.putRsz v) :=
  ⟨h.pending, fun c => { h.canon c with rsz_ok := hv c }⟩
theorem putPrfRings_keeps {r s : State} {v : Tab Ring} (h : Keeps r s) (hv : Canon s → tabWf (fun _ => ({} : Ring)) v = true) :
    Keeps r (s.putPrfRings v) :=
  ⟨h.pending, fun c => { h.canon c with prfRings_ok := hv (h.canon c) }⟩
theorem putPrfRings_of {r s : State} {v : Tab Ring} (h : Keeps r s) (hv : Canon r → tabWf (fun _ => ({} : Ring)) v = true) :
    Keeps r (s.putPrfRings v) :=
  ⟨h.pending, fun c => { h.canon c with prfRings_ok := hv c }⟩
theorem putHls_keeps {r s : State} {v : Tab Hl} (h : Keeps r s) (hv : Canon s → tabWf (fun _ => ({} : Hl)) v = true) :
    Keeps r (s.putHls v) :=
  ⟨h.pending, fun c => { h.canon c with hls_ok := hv (h.canon c) }⟩
theorem putHls_of {r s : State} {v : Tab Hl} (h : Keeps r s) (hv : Canon r → tabWf (fun _ => ({} : Hl)) v = true) :
    Keeps r (s.putHls v) :=
  ⟨h.pending, fun c => { h.canon c with hls_ok := hv c }⟩
theorem putGroups_keeps {r s : State} {v : Tab Group} (h : Keeps r s) (hv : Canon s → tabWf (fun _ => ({} : Group)) v = true) :
    Keeps r (s.putGroups v) :=
  ⟨h.pending, fun c => { h.canon c with groups_ok := hv (h.canon c) }⟩
theorem putGroups_of {r s : State} {v : Tab Group} (h : Keeps r s) (hv : Canon r → tabWf (fun _ => ({} : Group)) v = true) :
    Keeps r (s.putGroups v) :=
  ⟨h.pending, fun c => { h.canon c with groups_ok := hv c }⟩
theorem putSubsts_keeps {r s : State} {v : Tab Nat} (h : Keeps r s) (hv : Canon s → tabWf (fun _ => (0 : Nat)) v = true) :
    Keeps r (s.putSubsts v) :=
  ⟨h.pending, fun c => { h.canon c with substs_ok := hv (h.canon c) }⟩
theorem putSubsts_of {r s : State} {v : Tab Nat} (h : Keeps r s) (hv : Canon r → tabWf (fun _ => (0 : Nat)) v = true) :
    Keeps r (s.putSubsts v) :=
  ⟨h.pending, fun c => { h.canon c with substs_ok := hv c }⟩
theorem putUnverified_keeps {r s : State} {v : Tab Nat} (h : Keeps r s) (hv : Canon s → tabWf (fun _ => (0 : Nat)) v = true) :
    Keeps r (s.putUnverified v) :=
  ⟨h.pending, fun c => { h.canon c with unverified_ok := hv (h.canon c) }⟩
theorem putUnverified_of {r s : State} {v : Tab Nat} (h : Keeps r s) (hv : Canon r → tabWf (fun _ => (0 : Nat)) v = true) :
    Keeps r (s.putUnverified v) :=
  ⟨h.pending, fun c => { h.canon c with unverified_ok := hv c }⟩
theorem putFirstRing_keeps {r s : State} {v : Tab Nat} (h : Keeps r s) (hv : Canon s → tabWf (fun _ => (0 : Nat)) v = true) :
    Keeps r (s.putFirstRing v) :=
  ⟨h.pending, fun c => { h.canon c with firstRing_ok := hv (h.canon c) }⟩
theorem putFirstRing_of {r s : State} {v : Tab Nat} (h : Keeps r s) (hv : Canon r → tabWf (fun _ => (0 : Nat)) v = true) :
    Keeps r (s.putFirstRing v) :=
  ⟨h.pending, fun c => { h.canon c with firstRing_ok := hv c }⟩
theorem putPairs_keeps {r s : State} {v : Tab Pair} (h : Keeps r s) (hv : Canon s → tabWf (fun _ => ({} : Pair)) v = true) :
    Keeps r (s.putPairs v) :=
  ⟨h.pending, fun c => { h.canon c with pairs_ok := hv (h.canon c) }⟩
theorem putPairs_of {r s : State} {v : Tab Pair} (h : Keeps r s) (hv : Canon r → tabWf (fun _ => ({} : Pair)) v = true) :
    Keeps r (s.putPairs v) :=
  ⟨h.pending, fun c => { h.canon c with pairs_ok := hv c }⟩
theorem putAudio_keeps {r s : State} {v : Tab Audio} (h : Keeps r s) (hv : Canon s → tabWf (fun _ => ({} : Audio)) v = true) :
    Keeps r (s.putAudio v) :=
  ⟨h.pending, fun c => { h.canon c with audio_ok := hv (h.canon c) }⟩
theorem putAudio_of {r s : State} {v : Tab Audio} (h : Keeps r s) (hv : Canon r → tabWf (fun _ => ({} : Audio)) v = true) :
    Keeps r (s.putAudio v) :=
  ⟨h.pending, fun c => { h.canon c with audio_ok := hv c }⟩
theorem putSync_keeps {r s : State} {v : Tab SyncIn} (h : Keeps r s) (hv : Canon s → tabWf (fun _ => ({} : SyncIn)) v = true) :
    Keeps r (s.putSync v) :=
  ⟨h.pending, fun c => { h.canon c with sync_ok := hv (h.canon c) }⟩
theorem putSync_of {r s : State} {v : Tab SyncIn} (h : Keeps r s) (hv : Canon r → tabWf (fun _ => ({} : SyncIn)) v = true) :
    Keeps r (s.putSync v) :=
  ⟨h.pending, fun c => { h.canon c with sync_ok := hv c }⟩
theorem putDpll_keeps {r s : State} {v : Dpll} (h : Keeps r s) : Keeps r (s.putDpll v) :=
  ⟨h.pending, fun c => { h.canon c with }⟩
theorem putDoms_keeps {r s : State} {v : Tab Dom} (h : Keeps r s) (hv : Canon s → tabWf domReset v = true) :
    Keeps r (s.putDoms v) :=
  ⟨h.pending, fun c => { h.canon c with doms_ok := hv (h.canon c) }⟩
theorem putDoms_of {r s : State} {v : Tab Dom} (h : Keeps r s) (hv : Canon r → tabWf domReset v = true) :
    Keeps r (s.putDoms v) :=
  ⟨h.pending, fun c => { h.canon c with doms_ok := hv c }⟩
theorem putVloops_keeps {r s : State} {v : Tab Vloop} (h : Keeps r s) (hv : Canon s → tabWf (fun _ => ({} : Vloop)) v = true) :
    Keeps r (s.putVloops v) :=
  ⟨h.pending, fun c => { h.canon c with vloops_ok := hv (h.canon c) }⟩
theorem putVloops_of {r s : State} {v : Tab Vloop} (h : Keeps r s) (hv : Canon r → tabWf (fun _ => ({} : Vloop)) v = true) :
    Keeps r (s.putVloops v) :=
  ⟨h.pending, fun c => { h.canon c with vloops_ok := hv c }⟩
theorem putRdn_keeps {r s : State} {v : Rdn} (h : Keeps r s) (hv : Canon s → v.sweepRx.all starterOk = true) :
    Keeps r (s.putRdn v) :=
  ⟨h.pending, fun c => { h.canon c with sweep_ok := hv (h.canon c) }⟩
theorem putBank_keeps {r s : State} {v : Starter} (h : Keeps r s) (hv : Canon s → starterOk v = true) :
    Keeps r (s.putBank v) :=
  ⟨h.pending, fun c => { h.canon c with bank_ok := hv (h.canon c) }⟩
theorem putSpare_keeps {r s : State} {v : Starter} (h : Keeps r s) (hv : Canon s → starterOk v = true) :
    Keeps r (s.putSpare v) :=
  ⟨h.pending, fun c => { h.canon c with spare_ok := hv (h.canon c) }⟩
theorem putLink_keeps {r s : State} {v : Polfen} (h : Keeps r s) : Keeps r (s.putLink v) :=
  ⟨h.pending, fun c => { h.canon c with }⟩
theorem putTest_keeps {r s : State} {v : SelfTest} (h : Keeps r s) : Keeps r (s.putTest v) :=
  ⟨h.pending, fun c => { h.canon c with }⟩
theorem putSec_keeps {r s : State} {v : Sec} (h : Keeps r s) (hv : Canon s → v.sealed.all starterOk = true) :
    Keeps r (s.putSec v) :=
  ⟨h.pending, fun c => { h.canon c with sealed_ok := hv (h.canon c) }⟩
theorem putNvm_keeps {r s : State} {v : Nvm} (h : Keeps r s)
    (hv : Canon s → v.starter.a.all (fun p => starterOk p.2) = true ∧ v.starter.b.all (fun p => starterOk p.2) = true ∧ jobOk v.busy = true) :
    Keeps r (s.putNvm v) :=
  ⟨h.pending, fun c => { h.canon c with nvmA_ok := (hv (h.canon c)).1, nvmB_ok := (hv (h.canon c)).2.1, busy_ok := (hv (h.canon c)).2.2 }⟩
theorem putSess_keeps {r s : State} {v : Tab Session} (h : Keeps r s) (hv : Canon s → tabWf (fun _ => ({} : Session)) v = true) :
    Keeps r (s.putSess v) :=
  ⟨h.pending, fun c => { h.canon c with sess_ok := hv (h.canon c) }⟩
theorem putSess_of {r s : State} {v : Tab Session} (h : Keeps r s) (hv : Canon r → tabWf (fun _ => ({} : Session)) v = true) :
    Keeps r (s.putSess v) :=
  ⟨h.pending, fun c => { h.canon c with sess_ok := hv c }⟩
theorem putLong_keeps {r s : State} {v : Option (LongOp × Nat)} (h : Keeps r s) : Keeps r (s.putLong v) :=
  ⟨h.pending, fun c => { h.canon c with }⟩
theorem putGuest_keeps {r s : State} {v : Guest} (h : Keeps r s) : Keeps r (s.putGuest v) :=
  ⟨h.pending, fun c => { h.canon c with }⟩
theorem putJtag_keeps {r s : State} {v : Jtag} (h : Keeps r s) : Keeps r (s.putJtag v) :=
  ⟨h.pending, fun c => { h.canon c with }⟩
theorem putTrace_keeps {r s : State} {v : List Nat} (h : Keeps r s) : Keeps r (s.putTrace v) :=
  ⟨h.pending, fun c => { h.canon c with }⟩
theorem putPinMoves_keeps {r s : State} {v : List Nat} (h : Keeps r s) : Keeps r (s.putPinMoves v) :=
  ⟨h.pending, fun c => { h.canon c with }⟩
theorem putWords_keeps {r s : State} {v : Tab Word} (h : Keeps r s) (hv : Canon s → tabWf latchReset v = true) :
    Keeps r (s.putWords v) :=
  ⟨h.pending, fun c => { h.canon c with words_ok := hv (h.canon c) }⟩
theorem putWords_of {r s : State} {v : Tab Word} (h : Keeps r s) (hv : Canon r → tabWf latchReset v = true) :
    Keeps r (s.putWords v) :=
  ⟨h.pending, fun c => { h.canon c with words_ok := hv c }⟩
theorem putCq_keeps {r s : State} {v : Tab ClientQueue} (h : Keeps r s) (hv : Canon s → tabWf (fun _ => ({} : ClientQueue)) v = true) :
    Keeps r (s.putCq v) :=
  ⟨h.pending, fun c => { h.canon c with cq_ok := hv (h.canon c) }⟩
theorem putCq_of {r s : State} {v : Tab ClientQueue} (h : Keeps r s) (hv : Canon r → tabWf (fun _ => ({} : ClientQueue)) v = true) :
    Keeps r (s.putCq v) :=
  ⟨h.pending, fun c => { h.canon c with cq_ok := hv c }⟩
theorem putPorts_keeps {r s : State} {v : Tab Port} (h : Keeps r s) (hv : Canon s → tabWf (fun _ => ({} : Port)) v = true) :
    Keeps r (s.putPorts v) :=
  ⟨h.pending, fun c => { h.canon c with ports_ok := hv (h.canon c) }⟩
theorem putPorts_of {r s : State} {v : Tab Port} (h : Keeps r s) (hv : Canon r → tabWf (fun _ => ({} : Port)) v = true) :
    Keeps r (s.putPorts v) :=
  ⟨h.pending, fun c => { h.canon c with ports_ok := hv c }⟩

/-! ### Starters -/

theorem starterOk_iff {st : Starter} : starterOk st = true ↔ tabWf (fun _ => (0 : Word)) st.ctx = true ∧
    tabWf (fun _ => (0 : Word)) st.oh = true ∧ tabWf (fun _ => (0 : Word)) st.deck = true ∧
    tabWf (fun _ => false) st.sels = true := by
  simp only [starterOk, Bool.and_eq_true, and_assoc]

theorem starterArm_ok {d : Nat} {st : Starter} (h : starterOk st = true) : starterOk (starterArm d st) = true := h

theorem starterDone_ok {d : Nat} {st : Starter} (h : starterOk st = true) : starterOk (starterDone d st) = true := by
  have k := starterOk_iff.1 h
  refine starterOk_iff.2 ⟨k.1, k.2.1, ?_, k.2.2.2⟩
  exact tabFold_ok (tabFilter_ok k.2.2.1) fun t x ht => tabSet_ok' ht

/-- Applying an entry keeps a starter in canonical form. -/
theorem applyEntry_ok {st : Starter} {e : Nat × Word} (h : starterOk st = true) : starterOk (applyEntry st e) = true := by
  have k := starterOk_iff.1 h
  unfold applyEntry
  dsimp only
  split
  · exact h
  · exact starterOk_iff.2 ⟨tabSet_ok' k.1, k.2⟩
  · exact starterOk_iff.2 ⟨k.1, tabSet_ok' k.2.1, k.2.2⟩
  · split
    · split
      · exact starterOk_iff.2 ⟨k.1, k.2.1, tabSet_ok' k.2.2.1, tabSet_ok' k.2.2.2⟩
      · exact starterOk_iff.2 ⟨k.1, k.2.1, tabSet_ok' k.2.2.1, k.2.2.2⟩
    · exact h
    · split
      · simp only [List.foldl_cons, List.foldl_nil]
        split <;> split <;> exact h
      · split
        · exact starterDone_ok h
        · exact h
    · exact h
  · exact h

theorem applyEntries_ok {es : List (Nat × Word)} {st : Starter} (h : starterOk st = true) :
    starterOk (es.foldl applyEntry st) = true := by
  induction es generalizing st with
  | nil => exact h
  | cons e es ih => exact ih (applyEntry_ok h)

theorem starterStep_ok {a b : Word} {es : List (Nat × Word)} {st : Starter} (h : starterOk st = true) :
    starterOk (starterStep a b es st) = true := applyEntries_ok (es := es) h

theorem starterOf_ok {s : State} (h : Canon s) : starterOk (starterOf s) = true :=
  starterOk_iff.2 ⟨tabFilter_ok h.ctx_ok, tabFilter_ok h.oh_ok, h.deck_ok, h.sels_ok⟩

/-- Storing a good object leaves both copies good. -/
theorem copiesStore_ok {α : Type} {p : α → Bool} {c : Copies α} {v : α} (hv : p v = true)
    (ha : c.a.all (fun x => p x.2) = true) (hb : c.b.all (fun x => p x.2) = true) :
    (Copies.store c v).a.all (fun x => p x.2) = true ∧ (Copies.store c v).b.all (fun x => p x.2) = true := by
  unfold Copies.store
  split
  · exact ⟨hv, hb⟩
  · split
    · exact ⟨hv, hb⟩
    · exact ⟨ha, hv⟩

theorem mergeCw_ok {st : Starter} {own : Tab Word} (h : tabWf cwReset own = true) : tabWf cwReset (mergeCw st own) = true := by
  unfold mergeCw
  dsimp only
  refine tabFold_ok (tabFold_ok h fun t x ht => ?_) fun t x ht => ?_ <;>
  · split
    · exact ht
    · exact tabSet_ok ht

theorem placeContexts_ok (st : Starter) : tabWf (fun _ => (0 : Nat)) (placeContexts st) = true := by
  unfold placeContexts
  refine tabFold_ok tabNil_ok fun t x ht => ?_
  dsimp only
  split
  · exact tabSet_ok' ht
  · exact ht

theorem copiesCurrent_ok {α : Type} {p : α → Bool} {c : Copies α} {n : Nat} {v : α}
    (ha : c.a.all (fun x => p x.2) = true) (hb : c.b.all (fun x => p x.2) = true) (h : c.current = some (n, v)) :
    p v = true := by
  obtain ⟨a, b⟩ := c
  rcases a with _ | x <;> rcases b with _ | y <;> simp [Copies.current] at h
  · subst h; exact hb
  · subst h; exact ha
  · split at h
    · simp at h; subst h; exact ha
    · simp at h; subst h; exact hb

theorem keeps_ite' {r s t u : State} {c : Prop} [Decidable c] (f : Keeps r u → Keeps r s) (g : Keeps r u → Keeps r t)
    (h : Keeps r u) : Keeps r (if c then s else t) := by
  split
  · exact f h
  · exact g h

/-- The first component of a fold over pairs. -/
theorem pair_foldl {α β : Type} {r : State} {f : State × β → α → State × β} {l : List α} {x : State × β}
    (h : Keeps r x.1) (hf : ∀ t a, Keeps r t.1 → Keeps r (f t a).1) : Keeps r (l.foldl f x).1 := by
  induction l generalizing x with
  | nil => exact h
  | cons a l ih => exact ih (hf x a h)

theorem tabFilterMap_ok {α : Type} [DecidableEq α] {d : α} {f : Nat × α → Option (Nat × α)} {t : Tab α}
    (hf : ∀ e y, f e = some y → y.1 = e.1 ∧ (e.2 ≠ d → y.2 ≠ d)) (h : tabWf (fun _ => d) t = true) :
    tabWf (fun _ => d) (t.filterMap f) = true := by
  induction t with
  | nil => exact h
  | cons x t ih =>
    have k := tabWf_cons.1 h
    rw [List.filterMap_cons]
    split
    · exact ih k.2.2
    · rename_i y e
      have g := hf _ _ e
      refine tabWf_cons.2 ⟨fun z m => ?_, g.2 k.2.1, ih k.2.2⟩
      obtain ⟨w, mw, ew⟩ := List.mem_filterMap.1 m
      rw [g.1, (hf _ _ ew).1]
      exact k.1 w mw

end Sys2Proof.Machine
end

