-- ==== Sys2Proof/Laws/KeepOps.lean ====
section
/-! SUPPORT. Each operation of Machine/Ops.lean leaves the waiting commands alone and keeps canonical form. -/

set_option linter.unusedTactic false
set_option linter.unreachableTactic false

namespace Sys2Proof.Machine

open Sys2Proof.Safety

theorem spendFree_keeps {r0 : State} (s : State) (hk : Keeps r0 s) :
    Keeps r0 (spendFree s) := by
  unfold spendFree
  try dsimp only
  repeat' first
    | with_reducible first
      | assumption | apply putFreeUses_keeps | apply keeps_foldl | apply keeps_ite
    | split | intro _

theorem emit_keeps {r0 : State} (o : Out) (s : State) (hk : Keeps r0 s) :
    Keeps r0 (emit o s) := by
  unfold emit
  try dsimp only
  repeat' first
    | with_reducible first
      | assumption | apply putOut_keeps | apply keeps_foldl | apply keeps_ite
    | split | intro _

theorem cwSet_keeps {r0 : State} (a : Nat) (v : Word) (s : State) (hk : Keeps r0 s) :
    Keeps r0 (cwSet a v s) := by
  unfold cwSet
  try dsimp only
  repeat' first
    | with_reducible first
      | assumption | apply putCw_keeps | apply keeps_foldl | apply keeps_ite | apply tabSet_ok | apply tabSet_ok'
       | apply tabFilter_ok | apply tabMap_ok | apply tabDrop_ok | exact tabNil_ok
    | refine fun (c : Canon _) => ?_ | exact (c.cw_ok :) | split | intro _

theorem cwPut_keeps {r0 : State} (a : Nat) (hi : Nat) (lo : Nat) (v : Nat) (s : State) (hk : Keeps r0 s) :
    Keeps r0 (cwPut a hi lo v s) := by
  unfold cwPut
  try dsimp only
  repeat' first
    | with_reducible first
      | assumption | apply cwSet_keeps | apply keeps_foldl | apply keeps_ite
    | split | intro _

theorem cwCount_keeps {r0 : State} (a : Nat) (n : Nat) (s : State) (hk : Keeps r0 s) :
    Keeps r0 (cwCount a n s) := by
  unfold cwCount
  try dsimp only
  repeat' first
    | with_reducible first
      | assumption | apply cwSet_keeps | apply keeps_foldl | apply keeps_ite
    | split | intro _

theorem cwCountFld_keeps {r0 : State} (a : Nat) (hi : Nat) (lo : Nat) (n : Nat) (s : State) (hk : Keeps r0 s) :
    Keeps r0 (cwCountFld a hi lo n s) := by
  unfold cwCountFld
  try dsimp only
  repeat' first
    | with_reducible first
      | assumption | apply cwPut_keeps | apply keeps_foldl | apply keeps_ite
    | split | intro _

theorem domPut_keeps {r0 : State} (d : Nat) (k : Dom) (s : State) (hk : Keeps r0 s) :
    Keeps r0 (domPut d k s) := by
  unfold domPut
  try dsimp only
  repeat' first
    | with_reducible first
      | assumption | apply putDoms_keeps | apply keeps_foldl | apply keeps_ite | apply tabSet_ok | apply tabSet_ok'
       | apply tabFilter_ok | apply tabMap_ok | apply tabDrop_ok | exact tabNil_ok
    | refine fun (c : Canon _) => ?_ | exact (c.doms_ok :) | split | intro _

theorem ctxSet_keeps {r0 : State} (id : Nat) (w : Nat) (v : Word) (s : State) (hk : Keeps r0 s) :
    Keeps r0 (ctxSet id w v s) := by
  unfold ctxSet
  try dsimp only
  repeat' first
    | with_reducible first
      | assumption | apply putCtx_keeps | apply keeps_foldl | apply keeps_ite | apply tabSet_ok | apply tabSet_ok'
       | apply tabFilter_ok | apply tabMap_ok | apply tabDrop_ok | exact tabNil_ok
    | refine fun (c : Canon _) => ?_ | exact (c.ctx_ok :) | split | intro _

theorem intSet_keeps {r0 : State} (i : Nat) (s : State) (hk : Keeps r0 s) :
    Keeps r0 (intSet i s) := by
  unfold intSet
  try dsimp only
  repeat' first
    | with_reducible first
      | assumption | apply emit_keeps | apply putIntPend_keeps | apply putMsixPba_keeps | apply keeps_foldl
       | apply keeps_ite
    | split | intro _

theorem cenInc_keeps {r0 : State} (n : Nat) (s : State) (hk : Keeps r0 s) :
    Keeps r0 (cenInc n s) := by
  unfold cenInc
  try dsimp only
  repeat' first
    | with_reducible first
      | assumption | apply cwCount_keeps | apply intSet_keeps | apply keeps_foldl | apply keeps_ite
    | split | intro _

theorem hqPut_keeps {r0 : State} (q : Nat) (h : HostQueue) (s : State) (hk : Keeps r0 s) :
    Keeps r0 (hqPut q h s) := by
  unfold hqPut
  try dsimp only
  repeat' first
    | with_reducible first
      | assumption | apply putHq_keeps | apply keeps_foldl | apply keeps_ite | apply tabSet_ok | apply tabSet_ok'
       | apply tabFilter_ok | apply tabMap_ok | apply tabDrop_ok | exact tabNil_ok
    | refine fun (c : Canon _) => ?_ | exact (c.hq_ok :) | split | intro _

theorem hqLevel_keeps {r0 : State} (q : Nat) (s : State) (hk : Keeps r0 s) :
    Keeps r0 (hqLevel q s) := by
  unfold hqLevel
  try dsimp only
  repeat' first
    | with_reducible first
      | assumption | apply hqPut_keeps | apply intSet_keeps | apply keeps_foldl | apply keeps_ite
    | split | intro _

theorem hqAppend_keeps {r0 : State} (q : Nat) (item : List Word) (s : State) (hk : Keeps r0 s) :
    Keeps r0 (hqAppend q item s) := by
  unfold hqAppend
  try dsimp only
  repeat' first
    | with_reducible first
      | assumption | apply hqLevel_keeps | apply hqPut_keeps | apply cwCount_keeps | apply keeps_foldl
       | apply keeps_ite
    | split | intro _

theorem record_keeps {r0 : State} (q : Nat) (ty : Nat) (src : Nat) (ws : List Word) (s : State) (hk : Keeps r0 s) :
    Keeps r0 (record q ty src ws s) := by
  unfold record
  try dsimp only
  repeat' first
    | with_reducible first
      | assumption | apply hqAppend_keeps | apply keeps_foldl | apply keeps_ite
    | split | intro _

theorem record0_keeps {r0 : State} (ty : Nat) (src : Nat) (w1 : Word) (s : State) (hk : Keeps r0 s) :
    Keeps r0 (record0 ty src w1 s) := by
  unfold record0
  try dsimp only
  repeat' first
    | with_reducible first
      | assumption | apply record_keeps | apply keeps_foldl | apply keeps_ite
    | split | intro _

theorem dueRecord_keeps {r0 : State} (q : Nat) (ty : Nat) (ws : List Word) (s : State) (hk : Keeps r0 s) :
    Keeps r0 (dueRecord q ty ws s) := by
  unfold dueRecord
  try dsimp only
  repeat' first
    | with_reducible first
      | assumption | apply putDue_keeps | apply keeps_foldl | apply keeps_ite
    | split | intro _

theorem violation_keeps {r0 : State} (kind : Nat) (source : Nat) (addr : Nat) (s : State) (hk : Keeps r0 s) :
    Keeps r0 (violation kind source addr s) := by
  unfold violation
  try dsimp only
  repeat' first
    | with_reducible first
      | assumption | apply record0_keeps | apply putViolated_keeps | apply cenInc_keeps | apply keeps_foldl
       | apply keeps_ite
    | split | intro _

theorem refuse_keeps {r0 : State} (o : Origin) (status : Nat) (k : RefKind) (addr : Nat) (s : State) (hk : Keeps r0 s) :
    Keeps r0 (refuse o status k addr s) := by
  unfold refuse
  try dsimp only
  repeat' first
    | with_reducible first
      | assumption | apply record0_keeps | apply putBatchesDone_keeps | apply keeps_foldl | apply keeps_ite
    | split | intro _

end Sys2Proof.Machine
end

