-- ==== Sys2Proof/Laws/KeepPairs.lean ====
section
/-! SUPPORT. Each operation of Machine/Pairs.lean leaves the waiting commands alone and keeps canonical form. -/

set_option linter.unusedTactic false
set_option linter.unreachableTactic false

namespace Sys2Proof.Machine

open Sys2Proof.Safety

theorem prtPut_keeps {r0 : State} (p : Nat) (k : Pair) (s : State) (hk : Keeps r0 s) :
    Keeps r0 (prtPut p k s) := by
  unfold prtPut
  try dsimp only
  repeat' first
    | with_reducible first
      | assumption | apply putPairs_keeps | apply keeps_foldl | apply keeps_ite | apply tabSet_ok | apply tabSet_ok'
       | apply tabFilter_ok | apply tabMap_ok | apply tabDrop_ok | exact tabNil_ok
    | refine fun (c : Canon _) => ?_ | exact (c.pairs_ok :) | split | intro _

theorem protEvt_keeps {r0 : State} (p : Nat) (event : Nat) (s : State) (hk : Keeps r0 s) :
    Keeps r0 (protEvt p event s) := by
  unfold protEvt
  try dsimp only
  repeat' first
    | with_reducible first
      | assumption | apply dueRecord_keeps | apply keeps_foldl | apply keeps_ite
    | split | intro _

theorem countNoTimer_keeps {r0 : State} (p : Nat) (s : State) (hk : Keeps r0 s) :
    Keeps r0 (countNoTimer p s) := by
  unfold countNoTimer
  try dsimp only
  repeat' first
    | with_reducible first
      | assumption | apply cwCount_keeps | apply prtPut_keeps | apply keeps_foldl | apply keeps_ite
    | split | intro _

theorem prtRestart_keeps {r0 : State} (p : Nat) (s : State) (hk : Keeps r0 s) :
    Keeps r0 (prtRestart p s) := by
  unfold prtRestart
  try dsimp only
  repeat' first
    | with_reducible first
      | assumption | apply prtPut_keeps | apply keeps_foldl | apply keeps_ite
    | split | intro _

theorem prtStop_keeps {r0 : State} (p : Nat) (s : State) (hk : Keeps r0 s) :
    Keeps r0 (prtStop p s) := by
  unfold prtStop
  try dsimp only
  repeat' first
    | with_reducible first
      | assumption | apply prtPut_keeps | apply keeps_foldl | apply keeps_ite
    | split | intro _

theorem prtClear_keeps {r0 : State} (id : Nat) (s : State) (hk : Keeps r0 s) :
    Keeps r0 (prtClear id s) := by
  unfold prtClear
  try dsimp only
  repeat' first
    | with_reducible first
      | assumption | apply prtPut_keeps | apply keeps_foldl | apply keeps_ite
    | split | intro _

theorem prtOnset_keeps {r0 : State} (id : Nat) (s : State) (hk : Keeps r0 s) :
    Keeps r0 (prtOnset id s) := by
  unfold prtOnset
  try dsimp only
  repeat' first
    | with_reducible first
      | assumption | apply prtPut_keeps | apply keeps_foldl | apply keeps_ite
    | split | intro _

end Sys2Proof.Machine
end

