-- ==== Sys2Proof/Laws/KeepMonitor.lean ====
section
/-! SUPPORT. Each operation of Machine/Monitor.lean leaves the waiting commands alone and keeps canonical form. -/

set_option linter.unusedTactic false
set_option linter.unreachableTactic false

namespace Sys2Proof.Machine

open Sys2Proof.Safety

theorem monPut_keeps {r0 : State} (id : Nat) (m : Mon) (s : State) (hk : Keeps r0 s) :
    Keeps r0 (monPut id m s) := by
  unfold monPut
  try dsimp only
  repeat' first
    | with_reducible first
      | assumption | apply putMons_keeps | apply keeps_foldl | apply keeps_ite | apply tabSet_ok | apply tabSet_ok'
       | apply tabFilter_ok | apply tabMap_ok | apply tabDrop_ok | exact tabNil_ok
    | refine fun (c : Canon _) => ?_ | exact (c.mons_ok :) | split | intro _

theorem ohSet_keeps {r0 : State} (id : Nat) (field : Nat) (word : Nat) (v : Word) (s : State) (hk : Keeps r0 s) :
    Keeps r0 (ohSet id field word v s) := by
  unfold ohSet
  try dsimp only
  repeat' first
    | with_reducible first
      | assumption | apply putOh_keeps | apply keeps_foldl | apply keeps_ite | apply tabSet_ok | apply tabSet_ok'
       | apply tabFilter_ok | apply tabMap_ok | apply tabDrop_ok | exact tabNil_ok
    | refine fun (c : Canon _) => ?_ | exact (c.oh_ok :) | split | intro _

theorem cellPut_keeps {r0 : State} (k : Nat) (c : Cell) (s : State) (hk : Keeps r0 s) :
    Keeps r0 (cellPut k c s) := by
  unfold cellPut
  try dsimp only
  repeat' first
    | with_reducible first
      | assumption | apply putCells_keeps | apply keeps_foldl | apply keeps_ite | apply tabSet_ok | apply tabSet_ok'
       | apply tabFilter_ok | apply tabMap_ok | apply tabDrop_ok | exact tabNil_ok
    | refine fun (c : Canon _) => ?_ | exact (c.cells_ok :) | split | intro _

theorem resetRuns_keeps {r0 : State} (id : Nat) (s : State) (hk : Keeps r0 s) :
    Keeps r0 (resetRuns id s) := by
  unfold resetRuns
  try dsimp only
  repeat' first
    | with_reducible first
      | assumption | apply cellPut_keeps | apply keeps_foldl | apply keeps_ite
    | split | intro _

theorem resetRunsUnder_keeps {r0 : State} (u : Nat) (n : Nat) (s : State) (hk : Keeps r0 s) :
    Keeps r0 (resetRunsUnder u n s) := by
  unfold resetRunsUnder
  try dsimp only
  repeat' first
    | with_reducible first
      | assumption | apply cellPut_keeps | apply keeps_foldl | apply keeps_ite
    | split | intro _

theorem defsPut_keeps {r0 : State} (id : Nat) (d : Nat) (s : State) (hk : Keeps r0 s) :
    Keeps r0 (defsPut id d s) := by
  unfold defsPut
  try dsimp only
  repeat' first
    | with_reducible first
      | assumption | apply prtClear_keeps | apply monPut_keeps | apply prtOnset_keeps | apply resetRuns_keeps
       | apply keeps_foldl | apply keeps_ite
    | split | intro _

theorem settlePass_keeps {r0 : State} (s : State) (hk : Keeps r0 s) :
    Keeps r0 (settlePass s) := by
  unfold settlePass
  try dsimp only
  repeat' first
    | with_reducible first
      | assumption | apply defsPut_keeps | apply keeps_foldl | apply keeps_ite
    | split | intro _

theorem settleLoop_keeps {r0 : State} : ∀ (n : Nat) (s : State), Keeps r0 s → Keeps r0 (settleLoop n s)
  | 0, _, h => h
  | n + 1, s, h => by
    unfold settleLoop
    dsimp only
    split
    · exact h
    · exact settleLoop_keeps n _ (settlePass_keeps _ h)

theorem settleDefs_keeps {r0 : State} (s : State) (hk : Keeps r0 s) :
    Keeps r0 (settleDefs s) := by
  unfold settleDefs
  try dsimp only
  repeat' first
    | with_reducible first
      | assumption | apply settleLoop_keeps | apply keeps_foldl | apply keeps_ite
    | split | intro _

theorem setDefect_keeps {r0 : State} (id : Nat) (d : Nat) (v : Bool) (s : State) (hk : Keeps r0 s) :
    Keeps r0 (setDefect id d v s) := by
  unfold setDefect
  try dsimp only
  repeat' first
    | with_reducible first
      | assumption | apply defsPut_keeps | apply settleDefs_keeps | apply keeps_foldl | apply keeps_ite
    | split | intro _

end Sys2Proof.Machine
end

