-- ==== Sys2Proof/Laws/KeepAlign.lean ====
section
/-! SUPPORT. Each operation of Machine/Align.lean leaves the waiting commands alone and keeps canonical form. -/

set_option linter.unusedTactic false
set_option linter.unreachableTactic false

namespace Sys2Proof.Machine

open Sys2Proof.Safety

theorem framerPut_keeps {r0 : State} (k : Nat) (f : Framer) (s : State) (hk : Keeps r0 s) :
    Keeps r0 (framerPut k f s) := by
  unfold framerPut
  try dsimp only
  repeat' first
    | with_reducible first
      | assumption | apply putFramers_keeps | apply keeps_foldl | apply keeps_ite | apply tabSet_ok | apply tabSet_ok'
       | apply tabFilter_ok | apply tabMap_ok | apply tabDrop_ok | exact tabNil_ok
    | refine fun (c : Canon _) => ?_ | exact (c.framers_ok :) | split | intro _

theorem trackerPut_keeps {r0 : State} (k : Nat) (t : Tracker) (s : State) (hk : Keeps r0 s) :
    Keeps r0 (trackerPut k t s) := by
  unfold trackerPut
  try dsimp only
  repeat' first
    | with_reducible first
      | assumption | apply putTrackers_keeps | apply keeps_foldl | apply keeps_ite | apply tabSet_ok
       | apply tabSet_ok' | apply tabFilter_ok | apply tabMap_ok | apply tabDrop_ok | exact tabNil_ok
    | refine fun (c : Canon _) => ?_ | exact (c.trackers_ok :) | split | intro _

theorem frmEvent_keeps {r0 : State} (k : Nat) (b : Nat) (s : State) (hk : Keeps r0 s) :
    Keeps r0 (frmEvent k b s) := by
  unfold frmEvent
  try dsimp only
  repeat' first
    | with_reducible first
      | assumption | apply framerPut_keeps | apply keeps_foldl | apply keeps_ite
    | split | intro _

theorem refreshStream_keeps {r0 : State} : ∀ (d u n : Nat) (s : State), Keeps r0 s → Keeps r0 (refreshStream d u n s)
  | 0, _, _, _, h => h
  | d + 1, u, n, s, h => by
    unfold refreshStream
    dsimp only
    split
    · refine keeps_foldl (frmEvent_keeps _ _ _ (framerPut_keeps _ _ _ h)) fun t c ht => ?_
      exact refreshStream_keeps d _ _ _ (framerPut_keeps _ _ _ ht)
    · split
      · refine keeps_foldl (resetRunsUnder_keeps _ _ _ (framerPut_keeps _ _ _ h)) fun t c ht => ?_
        exact refreshStream_keeps d _ _ _ (framerPut_keeps _ _ _ (putTrackers_keeps ht fun c => tabFilter_ok c.trackers_ok))
      · exact framerPut_keeps _ _ _ h

theorem closeAll_keeps {r0 : State} (u : Nat) (n : Nat) (s : State) (hk : Keeps r0 s) :
    Keeps r0 (closeAll u n s) := by
  unfold closeAll
  try dsimp only
  repeat' first
    | with_reducible first
      | assumption | apply putTrackers_keeps | apply keeps_foldl | apply keeps_ite | apply tabSet_ok
       | apply tabSet_ok' | apply tabFilter_ok | apply tabMap_ok | apply tabDrop_ok | exact tabNil_ok
    | refine fun (c : Canon _) => ?_ | exact (c.trackers_ok :) | split | intro _

theorem closeFrameLayer_keeps {r0 : State} (u : Nat) (n : Nat) (s : State) (hk : Keeps r0 s) :
    Keeps r0 (closeFrameLayer u n s) := by
  unfold closeFrameLayer
  try dsimp only
  repeat' first
    | with_reducible first
      | assumption | apply putTrackers_keeps | apply keeps_foldl | apply keeps_ite | apply tabSet_ok
       | apply tabSet_ok' | apply tabFilter_ok | apply tabMap_ok | apply tabDrop_ok | exact tabNil_ok
    | refine fun (c : Canon _) => ?_ | exact (c.trackers_ok :) | split | intro _

theorem holdStream_keeps {r0 : State} (u : Nat) (n : Nat) (s : State) (hk : Keeps r0 s) :
    Keeps r0 (holdStream u n s) := by
  unfold holdStream
  try dsimp only
  repeat' first
    | with_reducible first
      | assumption | apply refreshStream_keeps | apply closeAll_keeps | apply framerPut_keeps | apply keeps_foldl
       | apply keeps_ite
    | split | intro _

theorem releaseStream_keeps {r0 : State} (u : Nat) (n : Nat) (s : State) (hk : Keeps r0 s) :
    Keeps r0 (releaseStream u n s) := by
  unfold releaseStream
  try dsimp only
  repeat' first
    | with_reducible first
      | assumption | apply refreshStream_keeps | apply framerPut_keeps | apply keeps_foldl | apply keeps_ite
    | split | intro _

theorem laneLeft_keeps {r0 : State} (side : Nat) (lane : Nat) (s : State) (hk : Keeps r0 s) :
    Keeps r0 (laneLeft side lane s) := by
  unfold laneLeft
  try dsimp only
  repeat' first
    | with_reducible first
      | assumption | apply holdStream_keeps | apply keeps_foldl | apply keeps_ite
    | split | intro _

theorem restartStream_keeps {r0 : State} (u : Nat) (n : Nat) (s : State) (hk : Keeps r0 s) :
    Keeps r0 (restartStream u n s) := by
  unfold restartStream
  try dsimp only
  repeat' first
    | with_reducible first
      | assumption | apply refreshStream_keeps | apply frmEvent_keeps | apply closeAll_keeps | apply framerPut_keeps
       | apply cenInc_keeps | apply settleDefs_keeps | apply keeps_foldl | apply keeps_ite
    | split | intro _

end Sys2Proof.Machine
end

