-- ==== Sys2Proof/Laws/KeepSize.lean ====
section
/-! SUPPORT. Each operation of Machine/Size.lean leaves the waiting commands alone and keeps canonical form. -/

set_option linter.unusedTactic false
set_option linter.unreachableTactic false

namespace Sys2Proof.Machine

open Sys2Proof.Safety

theorem settle_keeps {r0 : State} (o : Origin) (k : RefKind) (addr : Nat) (s : State) (r : Applied) (hk : Keeps r0 s)
    (hr : KeepsE r0 r) :
    Keeps r0 (settle o k addr s r) := by
  unfold settle
  try dsimp only
  repeat' first
    | exact hr _ rfl
    | with_reducible first
      | assumption | exact keepsE_error | apply refuse_keeps | apply hr | apply keeps_foldl | apply keepsE_ok
       | apply keeps_ite | apply keepsE_ite
    | split | intro _

end Sys2Proof.Machine
end

