-- ==== Sys2Proof/Laws/KeepAudio.lean ====
section
/-! SUPPORT. Each operation of Machine/Audio.lean leaves the waiting commands alone and keeps canonical form. -/

set_option linter.unusedTactic false
set_option linter.unreachableTactic false

namespace Sys2Proof.Machine

open Sys2Proof.Safety

theorem audioPut_keeps {r0 : State} (p : Nat) (a : Audio) (s : State) (hk : Keeps r0 s) :
    Keeps r0 (audioPut p a s) := by
  unfold audioPut
  try dsimp only
  repeat' first
    | with_reducible first
      | assumption | apply putAudio_keeps | apply keeps_foldl | apply keeps_ite | apply tabSet_ok | apply tabSet_ok'
       | apply tabFilter_ok | apply tabMap_ok | apply tabDrop_ok | exact tabNil_ok
    | refine fun (c : Canon _) => ?_ | exact (c.audio_ok :) | split | intro _

theorem chanPut_keeps {r0 : State} (c : Nat) (k : Chan) (s : State) (hk : Keeps r0 s) :
    Keeps r0 (chanPut c k s) := by
  unfold chanPut
  try dsimp only
  repeat' first
    | with_reducible first
      | assumption | apply audioPut_keeps | apply keeps_foldl | apply keeps_ite
    | split | intro _

theorem audEvt_keeps {r0 : State} (p : Nat) (slot : Nat) (event : Nat) (s : State) (hk : Keeps r0 s) :
    Keeps r0 (audEvt p slot event s) := by
  unfold audEvt
  try dsimp only
  repeat' first
    | with_reducible first
      | assumption | apply putDue_keeps | apply keeps_foldl | apply keeps_ite
    | split | intro _

theorem applyGain_keeps {r0 : State} (g : Nat) (v : Fin 65536) (s : State) (hk : Keeps r0 s) :
    Keeps r0 (applyGain g v s).2 := by
  unfold applyGain
  try dsimp only
  repeat' first
    | with_reducible first
      | assumption | apply spendFree_keeps | apply keeps_foldl | apply keeps_ite
    | split | intro _

theorem makeSlip_keeps {r0 : State} (c : Nat) (tx : Bool) (s : State) (hk : Keeps r0 s) :
    Keeps r0 (makeSlip c tx s) := by
  unfold makeSlip
  try dsimp only
  repeat' first
    | with_reducible first
      | assumption | apply chanPut_keeps | apply cwCountFld_keeps | apply keeps_foldl | apply keeps_ite
    | split | intro _

theorem forceSlip_keeps {r0 : State} (c : Nat) (tx : Bool) (s : State) (hk : Keeps r0 s) :
    Keeps r0 (forceSlip c tx s) := by
  unfold forceSlip
  try dsimp only
  repeat' first
    | with_reducible first
      | assumption | apply makeSlip_keeps | apply audEvt_keeps | apply cwCountFld_keeps | apply keeps_foldl
       | apply keeps_ite
    | split | intro _

theorem slipWrite_keeps {r0 : State} (c : Nat) (tx : Bool) (v : Fin 65536) (s : State) (hk : Keeps r0 s) :
    Keeps r0 (slipWrite c tx v s) := by
  unfold slipWrite
  try dsimp only
  repeat' first
    | with_reducible first
      | assumption | apply chanPut_keeps | apply forceSlip_keeps | apply keeps_foldl | apply keeps_ite
    | split | intro _

theorem slipRead_keeps {r0 : State} (c : Nat) (tx : Bool) (s : State) (hk : Keeps r0 s) :
    Keeps r0 (slipRead c tx s).2 := by
  unfold slipRead
  try dsimp only
  repeat' first
    | with_reducible first
      | assumption | apply chanPut_keeps | apply forceSlip_keeps | apply keeps_foldl | apply keeps_ite
    | split | intro _

theorem insertOctet_keeps {r0 : State} (w : Word) (o : Nat) (s : State) (hk : Keeps r0 s) :
    Keeps r0 (insertOctet w o s) := by
  unfold insertOctet
  try dsimp only
  repeat' first
    | with_reducible first
      | assumption | apply emit_keeps | apply ohSet_keeps | apply keeps_foldl | apply keeps_ite
    | split | intro _

theorem lineTx_keeps {r0 : State} (c : Nat) (s : State) (hk : Keeps r0 s) :
    Keeps r0 (lineTx c s) := by
  unfold lineTx
  try dsimp only
  repeat' first
    | with_reducible first
      | assumption | apply chanPut_keeps | apply slipRead_keeps | apply applyGain_keeps | apply insertOctet_keeps
       | apply keeps_foldl | apply keeps_ite
    | split | intro _

theorem cardTx_keeps {r0 : State} (c : Nat) (s : State) (hk : Keeps r0 s) :
    Keeps r0 (cardTx c s) := by
  unfold cardTx
  try dsimp only
  repeat' first
    | with_reducible first
      | assumption | apply chanPut_keeps | apply slipRead_keeps | apply applyGain_keeps | apply emit_keeps
       | apply keeps_foldl | apply keeps_ite
    | split | intro _

theorem execAudSample_keeps {r0 : State} (c : Fin 8) (m : AudioMove) (s : State) (hk : Keeps r0 s) :
    KeepsR r0 (execAudSample c m s) := by
  unfold execAudSample
  try dsimp only
  repeat' first
    | with_reducible first
      | assumption | apply audioPut_keeps | apply cardTx_keeps | apply lineTx_keeps | apply slipWrite_keeps
       | apply keeps_foldl | apply keepsR_next | apply keeps_ite | apply keepsR_ite
    | split | intro _

theorem execAudSlip_keeps {r0 : State} (c : Fin 8) (tx : Bool) (s : State) (hk : Keeps r0 s) :
    KeepsR r0 (execAudSlip c tx s) := by
  unfold execAudSlip
  try dsimp only
  repeat' first
    | with_reducible first
      | assumption | apply makeSlip_keeps | apply keeps_foldl | apply keepsR_next | apply keeps_ite | apply keepsR_ite
    | split | intro _

theorem execAudForcedSlip_keeps {r0 : State} (c : Fin 8) (tx : Bool) (s : State) (hk : Keeps r0 s) :
    KeepsR r0 (execAudForcedSlip c tx s) := by
  unfold execAudForcedSlip
  try dsimp only
  repeat' first
    | with_reducible first
      | assumption | apply forceSlip_keeps | apply keeps_foldl | apply keepsR_next | apply keeps_ite
       | apply keepsR_ite
    | split | intro _

theorem startChan_keeps {r0 : State} (c : Nat) (s : State) (hk : Keeps r0 s) :
    Keeps r0 (startChan c s) := by
  unfold startChan
  try dsimp only
  repeat' first
    | with_reducible first
      | assumption | apply chanPut_keeps | apply keeps_foldl | apply keeps_ite
    | split | intro _

theorem applyAudCfg_keeps {r0 : State} (p : Nat) (v : Word) (s : State) (hk : Keeps r0 s) :
    KeepsE r0 (applyAudCfg p v s) := by
  unfold applyAudCfg
  try dsimp only
  repeat' first
    | with_reducible first
      | assumption | exact keepsE_error | apply audioPut_keeps | apply startChan_keeps | apply cwSet_keeps
       | apply keeps_foldl | apply keepsE_ok | apply keeps_ite | apply keepsE_ite
    | split | intro _

theorem execAudCfg_keeps {r0 : State} (p : Fin 4) (w : CtlWrite) (s : State) (hk : Keeps r0 s) :
    KeepsR r0 (execAudCfg p w s) := by
  unfold execAudCfg
  try dsimp only
  repeat' first
    | with_reducible first
      | assumption | exact keepsE_error | apply settle_keeps | apply applyAudCfg_keeps | apply keeps_foldl
       | apply keepsR_next | apply keepsE_ok | apply keeps_ite | apply keepsE_ite | apply keepsR_ite
    | split | intro _

theorem applyOw_keeps {r0 : State} (c : Nat) (v : Word) (s : State) (hk : Keeps r0 s) :
    KeepsE r0 (applyOw c v s) := by
  unfold applyOw
  try dsimp only
  repeat' first
    | with_reducible first
      | assumption | exact keepsE_error | apply chanPut_keeps | apply startChan_keeps | apply cwSet_keeps
       | apply keeps_foldl | apply keepsE_ok | apply keeps_ite | apply keepsE_ite
    | split | intro _

theorem execOwCfg_keeps {r0 : State} (c : Fin 8) (w : CtlWrite) (s : State) (hk : Keeps r0 s) :
    KeepsR r0 (execOwCfg c w s) := by
  unfold execOwCfg
  try dsimp only
  repeat' first
    | with_reducible first
      | assumption | exact keepsE_error | apply settle_keeps | apply applyOw_keeps | apply keeps_foldl
       | apply keepsR_next | apply keepsE_ok | apply keeps_ite | apply keepsE_ite | apply keepsR_ite
    | split | intro _

theorem landChange_keeps {r0 : State} (c : Nat) (tx : Bool) (s : State) (hk : Keeps r0 s) :
    Keeps r0 (landChange c tx s) := by
  unfold landChange
  try dsimp only
  repeat' first
    | with_reducible first
      | assumption | apply chanPut_keeps | apply keeps_foldl | apply keeps_ite
    | split | intro _

theorem execAudChangeLand_keeps {r0 : State} (c : Fin 8) (tx : Bool) (s : State) (hk : Keeps r0 s) :
    KeepsR r0 (execAudChangeLand c tx s) := by
  unfold execAudChangeLand
  try dsimp only
  repeat' first
    | with_reducible first
      | assumption | apply landChange_keeps | apply keeps_foldl | apply keepsR_next | apply keeps_ite
       | apply keepsR_ite
    | split | intro _

theorem execAudChangeTimeout_keeps {r0 : State} (c : Fin 8) (tx : Bool) (s : State) (hk : Keeps r0 s) :
    KeepsR r0 (execAudChangeTimeout c tx s) := by
  unfold execAudChangeTimeout
  try dsimp only
  repeat' first
    | with_reducible first
      | assumption | apply landChange_keeps | apply audEvt_keeps | apply keeps_foldl | apply keepsR_next
       | apply keeps_ite | apply keepsR_ite
    | split | intro _

theorem execAudPortFreeze_keeps {r0 : State} (p : Fin 4) (s : State) (hk : Keeps r0 s) :
    KeepsR r0 (execAudPortFreeze p s) := by
  unfold execAudPortFreeze
  try dsimp only
  repeat' first
    | with_reducible first
      | assumption | apply audioPut_keeps | apply audEvt_keeps | apply cwCount_keeps | apply keeps_foldl
       | apply keepsR_next | apply keeps_ite | apply keepsR_ite
    | split | intro _

theorem execAudPortResume_keeps {r0 : State} (p : Fin 4) (hz : Fin 16384) (s : State) (hk : Keeps r0 s) :
    KeepsR r0 (execAudPortResume p hz s) := by
  unfold execAudPortResume
  try dsimp only
  repeat' first
    | with_reducible first
      | assumption | apply audioPut_keeps | apply audEvt_keeps | apply keeps_foldl | apply keepsR_next
       | apply keeps_ite | apply keepsR_ite
    | split | intro _

theorem execAudMuteLift_keeps {r0 : State} (p : Fin 4) (s : State) (hk : Keeps r0 s) :
    KeepsR r0 (execAudMuteLift p s) := by
  unfold execAudMuteLift
  try dsimp only
  repeat' first
    | with_reducible first
      | assumption | apply audioPut_keeps | apply audEvt_keeps | apply keeps_foldl | apply keepsR_next
       | apply keeps_ite | apply keepsR_ite
    | split | intro _

theorem execAudCntClear_keeps {r0 : State} (c : Fin 8) (s : State) (hk : Keeps r0 s) :
    KeepsR r0 (execAudCntClear c s) := by
  unfold execAudCntClear
  try dsimp only
  repeat' first
    | with_reducible first
      | assumption | apply cwSet_keeps | apply keeps_foldl | apply keepsR_next | apply keeps_ite | apply keepsR_ite
    | split | intro _

end Sys2Proof.Machine
end

