-- ==== Sys2Proof/Laws/KeepStreams.lean ====
section
/-! SUPPORT. Each operation of Machine/Streams.lean leaves the waiting commands alone and keeps canonical form. -/

set_option linter.unusedTactic false
set_option linter.unreachableTactic false

namespace Sys2Proof.Machine

open Sys2Proof.Safety

theorem lanePut_keeps {r0 : State} (k : Nat) (l : Lane) (s : State) (hk : Keeps r0 s) :
    Keeps r0 (lanePut k l s) := by
  unfold lanePut
  try dsimp only
  repeat' first
    | with_reducible first
      | assumption | apply putLanes_keeps | apply keeps_foldl | apply keeps_ite | apply tabSet_ok | apply tabSet_ok'
       | apply tabFilter_ok | apply tabMap_ok | apply tabDrop_ok | exact tabNil_ok
    | refine fun (c : Canon _) => ?_ | exact (c.lanes_ok :) | split | intro _

theorem portPut_keeps {r0 : State} (k : Nat) (p : Port) (s : State) (hk : Keeps r0 s) :
    Keeps r0 (portPut k p s) := by
  unfold portPut
  try dsimp only
  repeat' first
    | with_reducible first
      | assumption | apply putPorts_keeps | apply keeps_foldl | apply keeps_ite | apply tabSet_ok | apply tabSet_ok'
       | apply tabFilter_ok | apply tabMap_ok | apply tabDrop_ok | exact tabNil_ok
    | refine fun (c : Canon _) => ?_ | exact (c.ports_ok :) | split | intro _

end Sys2Proof.Machine
end

