-- ==== Sys2Proof/Laws/KeepMapping.lean ====
section
/-! SUPPORT. Each operation of Machine/Mapping.lean leaves the waiting commands alone and keeps canonical form. -/

set_option linter.unusedTactic false
set_option linter.unreachableTactic false

namespace Sys2Proof.Machine

open Sys2Proof.Safety

theorem mapStoreWord_keeps {r0 : State} (u : Nat) (p : Nat) (w : Nat) (v : Word) (s : State) (hk : Keeps r0 s) :
    Keeps r0 (mapStoreWord u p w v s) := by
  unfold mapStoreWord
  try dsimp only
  repeat' first
    | with_reducible first
      | assumption | apply cwSet_keeps | apply keeps_foldl | apply keeps_ite
    | split | intro _

theorem mapPlan_keeps {r0 : State} (u : Nat) (p : Nat) (ws : List MapWrite) (s : State) (hk : Keeps r0 s) :
    Keeps r0 (mapPlan u p ws s) := by
  unfold mapPlan
  try dsimp only
  repeat' first
    | with_reducible first
      | assumption | apply mapStoreWord_keeps | apply keeps_foldl | apply keeps_ite
    | split | intro _

theorem refreshTribs_keeps {r0 : State} (s : State) (hk : Keeps r0 s) :
    Keeps r0 (refreshTribs s) := by
  unfold refreshTribs
  try dsimp only
  repeat' first
    | with_reducible first
      | assumption | apply releaseStream_keeps | apply keeps_foldl | apply keeps_ite
    | split | intro _

theorem applyMap_keeps {r0 : State} (before : State) (plan : State) (u : Nat) (p : Nat) (w : Nat) (v : Word)
    (s : State) (hk : Keeps r0 s) :
    KeepsE r0 (applyMap before plan u p w v s) := by
  unfold applyMap
  try dsimp only
  repeat' first
    | with_reducible first
      | assumption | exact keepsE_error | apply mapStoreWord_keeps | apply portPut_keeps | apply keeps_foldl
       | apply keepsE_ok | apply keeps_ite | apply keepsE_ite
    | split | intro _

theorem applyMapWrites_keeps {r0 : State} (r : PortRef) (ws : List MapWrite) (s : State) (hk : Keeps r0 s) :
    Keeps r0 (applyMapWrites r ws s) := by
  unfold applyMapWrites
  try dsimp only
  repeat' first
    | with_reducible first
      | assumption | exact keepsE_error | apply settle_keeps | apply applyMap_keeps | apply mapPlan_keeps
       | apply keeps_foldl | apply keepsE_ok | apply keeps_ite | apply keepsE_ite
    | split | intro _

theorem execMapCfg_keeps {r0 : State} (r : PortRef) (ws : List MapWrite) (s : State) (hk : Keeps r0 s) :
    KeepsR r0 (execMapCfg r ws s) := by
  unfold execMapCfg
  try dsimp only
  repeat' first
    | with_reducible first
      | assumption | apply applyMapWrites_keeps | apply keeps_foldl | apply keepsR_next | apply keeps_ite
       | apply keepsR_ite
    | split | intro _

theorem execMapTxRun_keeps {r0 : State} (r : PortRef) (ws : List RunWrite) (s : State) (hk : Keeps r0 s) :
    KeepsR r0 (execMapTxRun r ws s) := by
  unfold execMapTxRun
  try dsimp only
  repeat' first
    | with_reducible first
      | assumption | apply applyMapWrites_keeps | apply keeps_foldl | apply keepsR_next | apply keeps_ite
       | apply keepsR_ite
    | split | intro _

theorem landRxRuns_keeps {r0 : State} (u : Nat) (p : Nat) (s : State) (hk : Keeps r0 s) :
    Keeps r0 (landRxRuns u p s) := by
  unfold landRxRuns
  try dsimp only
  repeat' first
    | with_reducible first
      | assumption | apply refreshTribs_keeps | apply portPut_keeps | apply keeps_foldl | apply keeps_ite
    | split | intro _

theorem execMapRxRun_keeps {r0 : State} (r : PortRef) (step : RunStep) (s : State) (hk : Keeps r0 s) :
    KeepsR r0 (execMapRxRun r step s) := by
  unfold execMapRxRun
  try dsimp only
  repeat' first
    | with_reducible first
      | assumption | apply landRxRuns_keeps | apply applyMapWrites_keeps | apply keeps_foldl | apply keepsR_next
       | apply keeps_ite | apply keepsR_ite
    | split | intro _

theorem landTxRuns_keeps {r0 : State} (u : Nat) (p : Nat) (s : State) (hk : Keeps r0 s) :
    Keeps r0 (landTxRuns u p s) := by
  unfold landTxRuns
  try dsimp only
  repeat' first
    | with_reducible first
      | assumption | apply portPut_keeps | apply keeps_foldl | apply keeps_ite
    | split | intro _

theorem execMapPortStart_keeps {r0 : State} (r : PortRef) (s : State) (hk : Keeps r0 s) :
    KeepsR r0 (execMapPortStart r s) := by
  unfold execMapPortStart
  try dsimp only
  repeat' first
    | with_reducible first
      | assumption | apply refreshTribs_keeps | apply portPut_keeps | apply keeps_foldl | apply keepsR_next
       | apply keeps_ite | apply keepsR_ite
    | split | intro _

theorem execMapCntClr_keeps {r0 : State} (r : PortRef) (s : State) (hk : Keeps r0 s) :
    KeepsR r0 (execMapCntClr r s) := by
  unfold execMapCntClr
  try dsimp only
  repeat' first
    | with_reducible first
      | assumption | apply portPut_keeps | apply keeps_foldl | apply keepsR_next | apply keeps_ite | apply keepsR_ite
    | split | intro _

theorem countPort0_keeps {r0 : State} (k : Nat) (hi : Nat) (lo : Nat) (n : Nat) (s : State) (hk : Keeps r0 s) :
    Keeps r0 (countPort0 k hi lo n s) := by
  unfold countPort0
  try dsimp only
  repeat' first
    | with_reducible first
      | assumption | apply portPut_keeps | apply keeps_foldl | apply keeps_ite
    | split | intro _

theorem countPort1_keeps {r0 : State} (k : Nat) (hi : Nat) (lo : Nat) (n : Nat) (s : State) (hk : Keeps r0 s) :
    Keeps r0 (countPort1 k hi lo n s) := by
  unfold countPort1
  try dsimp only
  repeat' first
    | with_reducible first
      | assumption | apply portPut_keeps | apply keeps_foldl | apply keeps_ite
    | split | intro _

theorem execClientReplacementStart_keeps {r0 : State} (r : PortRef) (rx : Bool) (s : State) (hk : Keeps r0 s) :
    KeepsR r0 (execClientReplacementStart r rx s) := by
  unfold execClientReplacementStart
  try dsimp only
  repeat' first
    | with_reducible first
      | assumption | apply portPut_keeps | apply keeps_foldl | apply keepsR_next | apply keeps_ite | apply keepsR_ite
    | split | intro _

theorem execClientReplacementEnd_keeps {r0 : State} (r : PortRef) (rx : Bool) (s : State) (hk : Keeps r0 s) :
    KeepsR r0 (execClientReplacementEnd r rx s) := by
  unfold execClientReplacementEnd
  try dsimp only
  repeat' first
    | with_reducible first
      | assumption | apply portPut_keeps | apply keeps_foldl | apply keepsR_next | apply keeps_ite | apply keepsR_ite
    | split | intro _

theorem execGfpCsfSend_keeps {r0 : State} (r : PortRef) (s : State) (hk : Keeps r0 s) :
    KeepsR r0 (execGfpCsfSend r s) := by
  unfold execGfpCsfSend
  try dsimp only
  repeat' first
    | with_reducible first
      | assumption | apply emit_keeps | apply keeps_foldl | apply keepsR_next | apply keeps_ite | apply keepsR_ite
    | split | intro _

theorem execCsfRxTimeout_keeps {r0 : State} (r : PortRef) (s : State) (hk : Keeps r0 s) :
    KeepsR r0 (execCsfRxTimeout r s) := by
  unfold execCsfRxTimeout
  try dsimp only
  repeat' first
    | with_reducible first
      | assumption | apply portPut_keeps | apply keeps_foldl | apply keepsR_next | apply keeps_ite | apply keepsR_ite
    | split | intro _

theorem applyCal_keeps {r0 : State} (u : Nat) (idx : Nat) (v : Word) (s : State) (hk : Keeps r0 s) :
    KeepsE r0 (applyCal u idx v s) := by
  unfold applyCal
  try dsimp only
  repeat' first
    | with_reducible first
      | assumption | exact keepsE_error | apply cwSet_keeps | apply keeps_foldl | apply keepsE_ok | apply keeps_ite
       | apply keepsE_ite
    | split | intro _

theorem applyShim_keeps {r0 : State} (u : Nat) (p : Nat) (v : Word) (s : State) (hk : Keeps r0 s) :
    KeepsE r0 (applyShim u p v s) := by
  unfold applyShim
  try dsimp only
  repeat' first
    | with_reducible first
      | assumption | exact keepsE_error | apply mapStoreWord_keeps | apply portPut_keeps | apply keeps_foldl
       | apply keepsE_ok | apply keeps_ite | apply keepsE_ite
    | split | intro _

theorem execShimCalReq_keeps {r0 : State} (r : PortRef) (w : CtlWrite) (s : State) (hk : Keeps r0 s) :
    KeepsR r0 (execShimCalReq r w s) := by
  unfold execShimCalReq
  try dsimp only
  repeat' first
    | with_reducible first
      | assumption | exact keepsE_error | apply applyShim_keeps | apply settle_keeps | apply keeps_foldl
       | apply keepsR_next | apply keepsE_ok | apply keeps_ite | apply keepsE_ite | apply keepsR_ite
    | split | intro _

theorem execFlexeCalSwitch_keeps {r0 : State} (r : PortRef) (s : State) (hk : Keeps r0 s) :
    KeepsR r0 (execFlexeCalSwitch r s) := by
  unfold execFlexeCalSwitch
  try dsimp only
  repeat' first
    | with_reducible first
      | assumption | apply portPut_keeps | apply countPort0_keeps | apply keeps_foldl | apply keepsR_next
       | apply keeps_ite | apply keepsR_ite
    | split | intro _

theorem execFlexeCalTimeout_keeps {r0 : State} (r : PortRef) (s : State) (hk : Keeps r0 s) :
    KeepsR r0 (execFlexeCalTimeout r s) := by
  unfold execFlexeCalTimeout
  try dsimp only
  repeat' first
    | with_reducible first
      | assumption | apply record0_keeps | apply portPut_keeps | apply countPort0_keeps | apply keeps_foldl
       | apply keepsR_next | apply keeps_ite | apply keepsR_ite
    | split | intro _

theorem execGfpFrameRx_keeps {r0 : State} (r : PortRef) (h : GfpHeader) (f : GfpRx) (s : State) (hk : Keeps r0 s) :
    KeepsR r0 (execGfpFrameRx r h f s) := by
  unfold execGfpFrameRx
  try dsimp only
  repeat' first
    | with_reducible first
      | assumption | apply portPut_keeps | apply countPort1_keeps | apply keeps_foldl | apply keepsR_next
       | apply keeps_ite | apply keepsR_ite
    | split | intro _

theorem execChanFrameTx_keeps {r0 : State} (r : PortRef) (s : State) (hk : Keeps r0 s) :
    KeepsR r0 (execChanFrameTx r s) := by
  unfold execChanFrameTx
  try dsimp only
  repeat' first
    | with_reducible first
      | assumption | apply emit_keeps | apply portPut_keeps | apply keeps_foldl | apply keepsR_next | apply keeps_ite
       | apply keepsR_ite
    | split | intro _

end Sys2Proof.Machine
end

