-- ==== Sys2Proof/Laws/KeepOperands.lean ====
section
/-! SUPPORT. Each operation of Machine/Operands.lean leaves the waiting commands alone and keeps canonical form. -/

set_option linter.unusedTactic false
set_option linter.unreachableTactic false

namespace Sys2Proof.Machine

open Sys2Proof.Safety

theorem engPut_keeps {r0 : State} (e : Nat) (E : Engine) (s : State) (hk : Keeps r0 s) :
    Keeps r0 (engPut e E s) := by
  unfold engPut
  try dsimp only
  repeat' first
    | with_reducible first
      | assumption | apply putEngines_keeps | apply keeps_foldl | apply keeps_ite | apply tabSet_ok | apply tabSet_ok'
       | apply tabFilter_ok | apply tabMap_ok | apply tabDrop_ok | exact tabNil_ok
    | refine fun (c : Canon _) => ?_ | exact (c.engines_ok :) | split | intro _

theorem setReg_keeps {r0 : State} (e : Nat) (g : Nat) (v : Word) (s : State) (hk : Keeps r0 s) :
    Keeps r0 (setReg e g v s) := by
  unfold setReg
  try dsimp only
  repeat' first
    | with_reducible first
      | assumption | apply engPut_keeps | apply keeps_foldl | apply keeps_ite
    | split | intro _

theorem setPred_keeps {r0 : State} (e : Nat) (p : Nat) (v : Bool) (s : State) (hk : Keeps r0 s) :
    Keeps r0 (setPred e p v s) := by
  unfold setPred
  try dsimp only
  repeat' first
    | with_reducible first
      | assumption | apply engPut_keeps | apply keeps_foldl | apply keeps_ite
    | split | intro _

theorem engErr_keeps {r0 : State} (e : Nat) (cause : Nat) (s : State) (hk : Keeps r0 s) :
    Keeps r0 (engErr e cause s) := by
  unfold engErr
  try dsimp only
  repeat' first
    | with_reducible first
      | assumption | apply cwCount_keeps | apply engPut_keeps | apply keeps_foldl | apply keeps_ite
    | split | intro _

theorem setOvf_keeps {r0 : State} (e : Nat) (k : Nat) (s : State) (hk : Keeps r0 s) :
    Keeps r0 (setOvf e k s) := by
  unfold setOvf
  try dsimp only
  repeat' first
    | with_reducible first
      | assumption | apply cwPut_keeps | apply keeps_foldl | apply keeps_ite
    | split | intro _

theorem pcAdd_keeps {r0 : State} (e : Nat) (k : Nat) (add : Nat) (s : State) (hk : Keeps r0 s) :
    Keeps r0 (pcAdd e k add s).1 := by
  unfold pcAdd
  try dsimp only
  repeat' first
    | with_reducible first
      | assumption | apply setOvf_keeps | apply cwSet_keeps | apply keeps_foldl | apply keeps_ite
    | split | intro _

theorem pcOwn_keeps {r0 : State} (e : Nat) (k : Nat) (p : Span) (s : State) (hk : Keeps r0 s) :
    Keeps r0 (pcOwn e k p s).1 := by
  unfold pcOwn
  try dsimp only
  repeat' first
    | with_reducible first
      | assumption | apply engPut_keeps | apply keeps_foldl | apply keeps_ite
    | split | intro _

theorem pcStep_keeps {r0 : State} (e : Nat) (k : Nat) (p : Span) (chained : Bool) (carry : Nat) (s : State)
    (hk : Keeps r0 s) :
    Keeps r0 (pcStep e k p chained carry s).1 := by
  unfold pcStep
  try dsimp only
  repeat' first
    | with_reducible first
      | assumption | apply setOvf_keeps | apply pcOwn_keeps | apply pcAdd_keeps | apply keeps_foldl | apply keeps_ite
    | split | intro _

theorem pcSteps_keeps {r0 : State} (e : Nat) (p : Span) : ∀ (ks : List Nat) (c : Bool) (n : Nat) (s : State),
    Keeps r0 s → Keeps r0 (pcSteps e p ks c n s)
  | [], _, _, _, h => h
  | k :: ks, _, _, _, h => by
    unfold pcSteps
    dsimp only
    exact pcSteps_keeps e p ks _ _ _ (pcStep_keeps _ _ _ _ _ _ h)

theorem passCycles_keeps {r0 : State} (e : Nat) (p : Span) (s : State) (hk : Keeps r0 s) :
    Keeps r0 (passCycles e p s) := by
  unfold passCycles
  try dsimp only
  repeat' first
    | with_reducible first
      | assumption | apply pcSteps_keeps | apply engPut_keeps | apply keeps_foldl | apply keeps_ite
    | split | intro _

theorem dropItem_keeps {r0 : State} (e : Nat) (s : State) (hk : Keeps r0 s) :
    Keeps r0 (dropItem e s) := by
  unfold dropItem
  try dsimp only
  repeat' first
    | with_reducible first
      | assumption | apply engErr_keeps | apply engPut_keeps | apply keeps_foldl | apply keeps_ite
    | split | intro _

theorem resumeBatch_keeps {r0 : State} (s : State) (hk : Keeps r0 s) :
    Keeps r0 (resumeBatch s) := by
  unfold resumeBatch
  try dsimp only
  repeat' first
    | with_reducible first
      | assumption | apply putSuspended_keeps | apply engPut_keeps | apply keeps_foldl | apply keeps_ite
    | split | intro _

theorem endRun_keeps {r0 : State} (e : Nat) (s : State) (hk : Keeps r0 s) :
    Keeps r0 (endRun e s) := by
  unfold endRun
  try dsimp only
  repeat' first
    | with_reducible first
      | assumption | apply dropItem_keeps | apply putBatchesDone_keeps | apply putBatch_keeps
       | apply resumeBatch_keeps | apply engPut_keeps | apply keeps_foldl | apply keeps_ite
    | split | intro _

theorem traceBundle_keeps {r0 : State} (e : Nat) (pc : Nat) (s : State) (hk : Keeps r0 s) :
    Keeps r0 (traceBundle e pc s) := by
  unfold traceBundle
  try dsimp only
  repeat' first
    | with_reducible first
      | assumption | apply putTrace_keeps | apply keeps_foldl | apply keeps_ite
    | split | intro _

theorem closeBundle_keeps {r0 : State} (e : Nat) (s : State) (hk : Keeps r0 s) :
    Keeps r0 (closeBundle e s) := by
  unfold closeBundle
  try dsimp only
  repeat' first
    | with_reducible first
      | assumption | apply traceBundle_keeps | apply endRun_keeps | apply passCycles_keeps | apply engPut_keeps
       | apply keeps_foldl | apply keeps_ite
    | split | intro _

theorem openSlot_keeps {r0 : State} (e : Nat) (slot : Slot) (s : State) (hk : Keeps r0 s) :
    Keeps r0 (openSlot e slot s) := by
  unfold openSlot
  try dsimp only
  repeat' first
    | with_reducible first
      | assumption | apply closeBundle_keeps | apply engPut_keeps | apply keeps_foldl | apply keeps_ite
    | split | intro _

theorem charge_keeps {r0 : State} (e : Nat) (u : Use) (run : Bool) (s : State) (hk : Keeps r0 s) :
    Keeps r0 (charge e u run s) := by
  unfold charge
  try dsimp only
  repeat' first
    | with_reducible first
      | assumption | apply engPut_keeps | apply keeps_foldl | apply keeps_ite
    | split | intro _

theorem issue_keeps {r0 : State} (i : Iss) (u : Use) (body : State → State) (s : State) (hk : Keeps r0 s)
    (hbody : ∀ y0, Keeps r0 y0 → Keeps r0 (body y0)) :
    Keeps r0 (issue i u body s) := by
  unfold issue
  try dsimp only
  repeat' first
    | with_reducible first
      | assumption | apply closeBundle_keeps | apply openSlot_keeps | apply charge_keeps | apply hbody
       | apply keeps_foldl | apply keeps_ite
    | split | intro _

theorem onContext_keeps {r0 : State} (e : Nat) (gA : Nat) (off : Nat) (f : Nat → State → State) (s : State)
    (hk : Keeps r0 s) (hf : ∀ y0 y1, Keeps r0 y1 → Keeps r0 (f y0 y1)) :
    Keeps r0 (onContext e gA off f s) := by
  unfold onContext
  try dsimp only
  repeat' first
    | with_reducible first
      | assumption | apply engErr_keeps | apply hf | apply keeps_foldl | apply keeps_ite
    | split | intro _

theorem readContext_keeps {r0 : State} (e : Nat) (gD : Nat) (gA : Nat) (off : Nat) (f : State → Nat → Word)
    (s : State) (hk : Keeps r0 s) :
    Keeps r0 (readContext e gD gA off f s) := by
  unfold readContext
  try dsimp only
  repeat' first
    | with_reducible first
      | assumption | apply setReg_keeps | apply engErr_keeps | apply keeps_foldl | apply keeps_ite
    | split | intro _

theorem outsideGrant_keeps {r0 : State} (e : Nat) (addr : Nat) (s : State) (hk : Keeps r0 s) :
    Keeps r0 (outsideGrant e addr s) := by
  unfold outsideGrant
  try dsimp only
  repeat' first
    | with_reducible first
      | assumption | apply violation_keeps | apply keeps_foldl | apply keeps_ite
    | split | intro _

theorem stage_keeps {r0 : State} (e : Nat) (op : StagedOp) (s : State) (hk : Keeps r0 s) :
    Keeps r0 (stage e op s) := by
  unfold stage
  try dsimp only
  repeat' first
    | with_reducible first
      | assumption | apply putBatch_keeps | apply engPut_keeps | apply keeps_foldl | apply keeps_ite
    | split | intro _

end Sys2Proof.Machine
end

