-- ==== Sys2Proof/Laws/KeepSlots.lean ====
section
/-! SUPPORT. Each operation of Machine/Slots.lean leaves the waiting commands alone and keeps canonical form. -/

set_option linter.unusedTactic false
set_option linter.unreachableTactic false

namespace Sys2Proof.Machine

open Sys2Proof.Safety

theorem dieDeckPut_keeps {r0 : State} (d : Nat) (k : DieDeck) (s : State) (hk : Keeps r0 s) :
    Keeps r0 (dieDeckPut d k s) := by
  unfold dieDeckPut
  try dsimp only
  repeat' first
    | with_reducible first
      | assumption | apply putDecks_keeps | apply keeps_foldl | apply keeps_ite | apply tabSet_ok | apply tabSet_ok'
       | apply tabFilter_ok | apply tabMap_ok | apply tabDrop_ok | exact tabNil_ok
    | refine fun (c : Canon _) => ?_ | exact (c.decks_ok :) | split | intro _

end Sys2Proof.Machine
end

