-- ==== Sys2Proof/Laws/KeepDecks.lean ====
section
/-! SUPPORT. Each operation of Machine/Decks.lean leaves the waiting commands alone and keeps canonical form. -/

set_option linter.unusedTactic false
set_option linter.unreachableTactic false

namespace Sys2Proof.Machine

open Sys2Proof.Safety

theorem execDeckW_keeps {r0 : State} (i : IssA) (gA : Reg) (gB : Reg) (s : State) (hk : Keeps r0 s) :
    KeepsR r0 (execDeckW i gA gB s) := by
  unfold execDeckW
  try dsimp only
  repeat' first
    | with_reducible first
      | assumption | apply issue_keeps | apply outsideGrant_keeps | apply stage_keeps | apply keeps_foldl
       | apply keepsR_next | apply keeps_ite | apply keepsR_ite
    | split | intro _

theorem refuseRead_keeps {r0 : State} (e : Nat) (status : Nat) (k : RefKind) (addr : Nat) (s : State)
    (hk : Keeps r0 s) :
    Keeps r0 (refuseRead e status k addr s) := by
  unfold refuseRead
  try dsimp only
  repeat' first
    | with_reducible first
      | assumption | apply putBatch_keeps | apply refuse_keeps | apply keeps_foldl | apply keeps_ite
    | split | intro _

theorem execDeckRd_keeps {r0 : State} (i : IssA) (gD : Reg) (gA : Reg) (standby : Bool) (s : State) (hk : Keeps r0 s) :
    KeepsR r0 (execDeckRd i gD gA standby s) := by
  unfold execDeckRd
  try dsimp only
  repeat' first
    | with_reducible first
      | assumption | apply refuseRead_keeps | apply setReg_keeps | apply issue_keeps | apply outsideGrant_keeps
       | apply keeps_foldl | apply keepsR_next | apply keeps_ite | apply keepsR_ite
    | split | intro _

theorem execDeckSwap_keeps {r0 : State} (i : IssA) (d0 : Bool) (d1 : Bool) (s : State) (hk : Keeps r0 s) :
    KeepsR r0 (execDeckSwap i d0 d1 s) := by
  unfold execDeckSwap
  try dsimp only
  repeat' first
    | with_reducible first
      | assumption | apply issue_keeps | apply outsideGrant_keeps | apply stage_keeps | apply keeps_foldl
       | apply keepsR_next | apply keeps_ite | apply keepsR_ite
    | split | intro _

theorem deckStoreEntry_keeps {r0 : State} (a : Nat) (v : Word) (s : State) (hk : Keeps r0 s) :
    Keeps r0 (deckStoreEntry a v s) := by
  unfold deckStoreEntry
  try dsimp only
  repeat' first
    | with_reducible first
      | assumption | apply putDeck_keeps | apply keeps_foldl | apply keeps_ite | apply tabSet_ok | apply tabSet_ok'
       | apply tabFilter_ok | apply tabMap_ok | apply tabDrop_ok | exact tabNil_ok
    | refine fun (c : Canon _) => ?_ | exact (c.deck_ok :) | split | intro _

theorem applyDeckW_keeps {r0 : State} (a : Nat) (v : Word) (s : State) (hk : Keeps r0 s) :
    KeepsE r0 (applyDeckW a v s) := by
  unfold applyDeckW
  try dsimp only
  repeat' first
    | with_reducible first
      | assumption | exact keepsE_error | apply deckStoreEntry_keeps | apply keeps_foldl | apply keepsE_ok
       | apply keeps_ite | apply keepsE_ite
    | split | intro _

theorem swapRecord_keeps {r0 : State} (d : Nat) (at_ : Word) (s : State) (hk : Keeps r0 s) :
    Keeps r0 (swapRecord d at_ s) := by
  unfold swapRecord
  try dsimp only
  repeat' first
    | with_reducible first
      | assumption | apply dueRecord_keeps | apply keeps_foldl | apply keeps_ite
    | split | intro _

theorem swapRefused_keeps {r0 : State} (d : Nat) (last : Nat) (cause : Nat) (fault : Option (Nat × Nat)) (s : State)
    (hk : Keeps r0 s) :
    Keeps r0 (swapRefused d last cause fault s) := by
  unfold swapRefused
  try dsimp only
  repeat' first
    | with_reducible first
      | assumption | apply dieDeckPut_keeps | apply cwCountFld_keeps | apply swapRecord_keeps | apply keeps_foldl
       | apply keeps_ite
    | split | intro _

theorem armSwap_keeps {r0 : State} (d : Nat) (byResize : Bool) (s : State) (hk : Keeps r0 s) :
    Keeps r0 (armSwap d byResize s) := by
  unfold armSwap
  try dsimp only
  repeat' first
    | with_reducible first
      | assumption | apply dieDeckPut_keeps | apply keeps_foldl | apply keeps_ite
    | split | intro _

theorem applySwap_keeps {r0 : State} (before : State) (dies : Nat) (s : State) (hk : Keeps r0 s) :
    Keeps r0 (applySwap before dies s).1 := by
  unfold applySwap
  try dsimp only
  repeat' first
    | with_reducible first
      | assumption | apply swapRefused_keeps | apply armSwap_keeps | apply keeps_foldl | apply keeps_ite
    | split | intro _

theorem displacePrbs_keeps {r0 : State} (d : Nat) (on : Nat → Bool) (s : State) (hk : Keeps r0 s) :
    Keeps r0 (displacePrbs d on s) := by
  unfold displacePrbs
  try dsimp only
  repeat' first
    | with_reducible first
      | assumption | apply record0_keeps | apply cwPut_keeps | apply keeps_foldl | apply keeps_ite
    | split | intro _

theorem freshSels_keeps {r0 : State} (d : Nat) (s : State) (hk : Keeps r0 s) :
    Keeps r0 (freshSels d s) := by
  unfold freshSels
  try dsimp only
  repeat' first
    | with_reducible first
      | assumption | apply putSels_keeps | apply prtRestart_keeps | apply prtStop_keeps | apply keeps_foldl
       | apply keeps_ite | apply tabSet_ok | apply tabSet_ok' | apply tabFilter_ok | apply tabMap_ok
       | apply tabDrop_ok | exact tabNil_ok
    | refine fun (c : Canon _) => ?_ | exact (c.sels_ok :) | split | intro _

theorem deckEligible_keeps {r0 : State} (d : Nat) (s : State) (hk : Keeps r0 s) :
    Keeps r0 (deckEligible d s) := by
  unfold deckEligible
  try dsimp only
  repeat' first
    | with_reducible first
      | assumption | apply dieDeckPut_keeps | apply displacePrbs_keeps | apply freshSels_keeps | apply keeps_foldl
       | apply keeps_ite
    | split | intro _

theorem rszPut_keeps {r0 : State} (k : Nat) (r : Rsz) (s : State) (hk : Keeps r0 s) :
    Keeps r0 (rszPut k r s) := by
  unfold rszPut
  try dsimp only
  repeat' first
    | with_reducible first
      | assumption | apply putRsz_keeps | apply keeps_foldl | apply keeps_ite | apply tabSet_ok | apply tabSet_ok'
       | apply tabFilter_ok | apply tabMap_ok | apply tabDrop_ok | exact tabNil_ok
    | refine fun (c : Canon _) => ?_ | exact (c.rsz_ok :) | split | intro _

theorem rszRecord_keeps {r0 : State} (ty : Nat) (k : Nat) (s : State) (hk : Keeps r0 s) :
    Keeps r0 (rszRecord ty k s) := by
  unfold rszRecord
  try dsimp only
  repeat' first
    | with_reducible first
      | assumption | apply record0_keeps | apply keeps_foldl | apply keeps_ite
    | split | intro _

theorem rszDone_keeps {r0 : State} (k : Nat) (s : State) (hk : Keeps r0 s) :
    Keeps r0 (rszDone k s) := by
  unfold rszDone
  try dsimp only
  repeat' first
    | with_reducible first
      | assumption | apply rszRecord_keeps | apply rszPut_keeps | apply keeps_foldl | apply keeps_ite
    | split | intro _

theorem rszLand_keeps {r0 : State} (k : Nat) (s : State) (hk : Keeps r0 s) :
    Keeps r0 (rszLand k s) := by
  unfold rszLand
  try dsimp only
  repeat' first
    | with_reducible first
      | assumption | apply rszPut_keeps | apply rszDone_keeps | apply keeps_foldl | apply keeps_ite
    | split | intro _

theorem changeCarrier_keeps {r0 : State} (d : Nat) (c : Nat) (us : Nat) (s : State) (hk : Keeps r0 s) :
    Keeps r0 (changeCarrier d c us s) := by
  unfold changeCarrier
  try dsimp only
  repeat' first
    | with_reducible first
      | assumption | apply landTxRuns_keeps | apply rszLand_keeps | apply dieDeckPut_keeps | apply displacePrbs_keeps
       | apply keeps_foldl | apply keeps_ite
    | split | intro _

theorem changeOnce_keeps {r0 : State} (d : Nat) (c : Nat) (us : Nat) (s : State) (hk : Keeps r0 s) :
    Keeps r0 (changeOnce d c us s) := by
  unfold changeOnce
  try dsimp only
  repeat' first
    | with_reducible first
      | assumption | apply changeCarrier_keeps | apply keeps_foldl | apply keeps_ite
    | split | intro _

theorem copyPages_keeps {r0 : State} (d : Nat) (s : State) (hk : Keeps r0 s) :
    Keeps r0 (copyPages d s) := by
  unfold copyPages
  try dsimp only
  repeat' first
    | with_reducible first
      | assumption | apply putDeck_keeps | apply dieDeckPut_keeps | apply keeps_foldl | apply keeps_ite
       | apply tabSet_ok | apply tabSet_ok' | apply tabFilter_ok | apply tabMap_ok | apply tabDrop_ok
       | exact tabNil_ok
    | refine fun (c : Canon _) => ?_ | exact (c.deck_ok :) | split | intro _

theorem execDeckCopyDone_keeps {r0 : State} (d : DieId) (s : State) (hk : Keeps r0 s) :
    KeepsR r0 (execDeckCopyDone d s) := by
  unfold execDeckCopyDone
  try dsimp only
  repeat' first
    | with_reducible first
      | assumption | apply rszLand_keeps | apply cwCountFld_keeps | apply copyPages_keeps | apply swapRecord_keeps
       | apply keeps_foldl | apply keepsR_next | apply keeps_ite | apply keepsR_ite
    | split | intro _

theorem applyDeckGen_keeps {r0 : State} (d : Nat) (v : Word) (s : State) (hk : Keeps r0 s) :
    KeepsE r0 (applyDeckGen d v s) := by
  unfold applyDeckGen
  try dsimp only
  repeat' first
    | with_reducible first
      | assumption | exact keepsE_error | apply cwSet_keeps | apply keeps_foldl | apply keepsE_ok | apply keeps_ite
       | apply keepsE_ite
    | split | intro _

theorem execDeckPrbsGen_keeps {r0 : State} (d : DieId) (w : CtlWrite) (s : State) (hk : Keeps r0 s) :
    KeepsR r0 (execDeckPrbsGen d w s) := by
  unfold execDeckPrbsGen
  try dsimp only
  repeat' first
    | with_reducible first
      | assumption | exact keepsE_error | apply settle_keeps | apply applyDeckGen_keeps | apply keeps_foldl
       | apply keepsR_next | apply keepsE_ok | apply keeps_ite | apply keepsE_ite | apply keepsR_ite
    | split | intro _

theorem applyDeckChk_keeps {r0 : State} (d : Nat) (v : Word) (s : State) (hk : Keeps r0 s) :
    KeepsE r0 (applyDeckChk d v s) := by
  unfold applyDeckChk
  try dsimp only
  repeat' first
    | with_reducible first
      | assumption | exact keepsE_error | apply dieDeckPut_keeps | apply cwSet_keeps | apply keeps_foldl
       | apply keepsE_ok | apply keeps_ite | apply keepsE_ite
    | split | intro _

theorem execDeckPrbsChk_keeps {r0 : State} (d : DieId) (w : CtlWrite) (s : State) (hk : Keeps r0 s) :
    KeepsR r0 (execDeckPrbsChk d w s) := by
  unfold execDeckPrbsChk
  try dsimp only
  repeat' first
    | with_reducible first
      | assumption | exact keepsE_error | apply settle_keeps | apply applyDeckChk_keeps | apply keeps_foldl
       | apply keepsR_next | apply keepsE_ok | apply keeps_ite | apply keepsE_ite | apply keepsR_ite
    | split | intro _

theorem clearDeckTests_keeps {r0 : State} (s : State) (hk : Keeps r0 s) :
    Keeps r0 (clearDeckTests s) := by
  unfold clearDeckTests
  try dsimp only
  repeat' first
    | with_reducible first
      | assumption | apply cwPut_keeps | apply keeps_foldl | apply keeps_ite
    | split | intro _

theorem applyBlk_keeps {r0 : State} (plan : State) (r : Nat) (b : Nat) (v : Word) (s : State) (hk : Keeps r0 s) :
    KeepsE r0 (applyBlk plan r b v s) := by
  unfold applyBlk
  try dsimp only
  repeat' first
    | with_reducible first
      | assumption | exact keepsE_error | apply cwSet_keeps | apply keeps_foldl | apply keepsE_ok | apply keeps_ite
       | apply keepsE_ite
    | split | intro _

theorem execFineBlk_keeps {r0 : State} (r : RegionId) (b : Fin 64) (w : CtlWrite) (s : State) (hk : Keeps r0 s) :
    KeepsR r0 (execFineBlk r b w s) := by
  unfold execFineBlk
  try dsimp only
  repeat' first
    | with_reducible first
      | assumption | exact keepsE_error | apply settle_keeps | apply applyBlk_keeps | apply cwSet_keeps
       | apply keeps_foldl | apply keepsR_next | apply keepsE_ok | apply keeps_ite | apply keepsE_ite
       | apply keepsR_ite
    | split | intro _

end Sys2Proof.Machine
end

