-- ==== Sys2Proof/Laws/KeepLanes.lean ====
section
/-! SUPPORT. Each operation of Machine/Lanes.lean leaves the waiting commands alone and keeps canonical form. -/

set_option linter.unusedTactic false
set_option linter.unreachableTactic false

namespace Sys2Proof.Machine

open Sys2Proof.Safety

theorem eqPut_keeps {r0 : State} (side : Nat) (lane : Nat) (off : Nat) (v : Word) (s : State) (hk : Keeps r0 s) :
    Keeps r0 (eqPut side lane off v s) := by
  unfold eqPut
  try dsimp only
  repeat' first
    | with_reducible first
      | assumption | apply lanePut_keeps | apply keeps_foldl | apply keeps_ite
    | split | intro _

theorem loadEq_keeps {r0 : State} (side : Nat) (lane : Nat) (rate : Nat) (s : State) (hk : Keeps r0 s) :
    Keeps r0 (loadEq side lane rate s) := by
  unfold loadEq
  try dsimp only
  repeat' first
    | with_reducible first
      | assumption | apply eqPut_keeps | apply keeps_foldl | apply keeps_ite
    | split | intro _

theorem adaptEq_keeps {r0 : State} (side : Nat) (lane : Nat) (vs : List Word) (s : State) (hk : Keeps r0 s) :
    Keeps r0 (adaptEq side lane vs s) := by
  unfold adaptEq
  try dsimp only
  repeat' first
    | with_reducible first
      | assumption | apply eqPut_keeps | apply keeps_foldl | apply keeps_ite
    | split | intro _

theorem flexPut_keeps {r0 : State} (r : Nat) (k : Nat) (h : FlexHolder) (s : State) (hk : Keeps r0 s) :
    Keeps r0 (flexPut r k h s) := by
  unfold flexPut
  try dsimp only
  repeat' first
    | with_reducible first
      | assumption | apply putFlex_keeps | apply keeps_foldl | apply keeps_ite | apply tabSet_ok | apply tabSet_ok'
       | apply tabFilter_ok | apply tabMap_ok | apply tabDrop_ok | exact tabNil_ok
    | refine fun (c : Canon _) => ?_ | exact (c.flex_ok :) | split | intro _

theorem recPut_keeps {r0 : State} (n : Nat) (c : RecClk) (s : State) (hk : Keeps r0 s) :
    Keeps r0 (recPut n c s) := by
  unfold recPut
  try dsimp only
  repeat' first
    | with_reducible first
      | assumption | apply putRecClk_keeps | apply keeps_foldl | apply keeps_ite | apply tabSet_ok | apply tabSet_ok'
       | apply tabFilter_ok | apply tabMap_ok | apply tabDrop_ok | exact tabNil_ok
    | refine fun (c : Canon _) => ?_ | exact (c.recClk_ok :) | split | intro _

theorem clkEvt_keeps {r0 : State} (event : Nat) (source : Nat) (s : State) (hk : Keeps r0 s) :
    Keeps r0 (clkEvt event source s) := by
  unfold clkEvt
  try dsimp only
  repeat' first
    | with_reducible first
      | assumption | apply dueRecord_keeps | apply keeps_foldl | apply keeps_ite
    | split | intro _

theorem takeFlex_keeps {r0 : State} (side : Nat) (q : Nat) (s : State) (hk : Keeps r0 s) :
    Keeps r0 (takeFlex side q s) := by
  unfold takeFlex
  try dsimp only
  repeat' first
    | with_reducible first
      | assumption | apply record0_keeps | apply recPut_keeps | apply clkEvt_keeps | apply flexPut_keeps
       | apply keeps_foldl | apply keeps_ite
    | split | intro _

theorem freeFlex_keeps {r0 : State} (r : Nat) (k : Nat) (s : State) (hk : Keeps r0 s) :
    Keeps r0 (freeFlex r k s) := by
  unfold freeFlex
  try dsimp only
  repeat' first
    | with_reducible first
      | assumption | apply recPut_keeps | apply clkEvt_keeps | apply flexPut_keeps | apply keeps_foldl
       | apply keeps_ite
    | split | intro _

theorem quadPut_keeps {r0 : State} (side : Nat) (q : Nat) (v : Quad) (s : State) (hk : Keeps r0 s) :
    Keeps r0 (quadPut side q v s) := by
  unfold quadPut
  try dsimp only
  repeat' first
    | with_reducible first
      | assumption | apply putQuads_keeps | apply keeps_foldl | apply keeps_ite | apply tabSet_ok | apply tabSet_ok'
       | apply tabFilter_ok | apply tabMap_ok | apply tabDrop_ok | exact tabNil_ok
    | refine fun (c : Canon _) => ?_ | exact (c.quads_ok :) | split | intro _

theorem startLane_keeps {r0 : State} (plan : State) (side : Nat) (lane : Nat) (s : State) (hk : Keeps r0 s) :
    Keeps r0 (startLane plan side lane s) := by
  unfold startLane
  try dsimp only
  repeat' first
    | with_reducible first
      | assumption | apply laneLeft_keeps | apply lanePut_keeps | apply quadPut_keeps | apply takeFlex_keeps
       | apply keeps_foldl | apply keeps_ite
    | split | intro _

theorem stopLane_keeps {r0 : State} (side : Nat) (lane : Nat) (s : State) (hk : Keeps r0 s) :
    Keeps r0 (stopLane side lane s) := by
  unfold stopLane
  try dsimp only
  repeat' first
    | with_reducible first
      | assumption | apply laneLeft_keeps | apply lanePut_keeps | apply keeps_foldl | apply keeps_ite
    | split | intro _

theorem applyLaneCfg_keeps {r0 : State} (plan : State) (side : Nat) (lane : Nat) (v : Word) (s : State)
    (hk : Keeps r0 s) :
    KeepsE r0 (applyLaneCfg plan side lane v s) := by
  unfold applyLaneCfg
  try dsimp only
  repeat' first
    | with_reducible first
      | assumption | exact keepsE_error | apply startLane_keeps | apply stopLane_keeps | apply lanePut_keeps
       | apply loadEq_keeps | apply cwSet_keeps | apply keeps_foldl | apply keepsE_ok | apply keeps_ite
       | apply keepsE_ite
    | split | intro _

theorem quadPlan_keeps {r0 : State} (side : Nat) (q : Nat) (ws : List LaneWrite) (s : State) (hk : Keeps r0 s) :
    Keeps r0 (quadPlan side q ws s) := by
  unfold quadPlan
  try dsimp only
  repeat' first
    | with_reducible first
      | assumption | apply cwSet_keeps | apply keeps_foldl | apply keeps_ite
    | split | intro _

theorem execLaneCfg_keeps {r0 : State} (side : Side) (quad : Fin 16) (ws : List LaneWrite) (s : State)
    (hk : Keeps r0 s) :
    KeepsR r0 (execLaneCfg side quad ws s) := by
  unfold execLaneCfg
  try dsimp only
  repeat' first
    | with_reducible first
      | assumption | exact keepsE_error | apply applyLaneCfg_keeps | apply settle_keeps | apply quadPlan_keeps
       | apply keeps_foldl | apply keepsR_next | apply keepsE_ok | apply keeps_ite | apply keepsE_ite
       | apply keepsR_ite
    | split | intro _

theorem execVcoCalDone_keeps {r0 : State} (side : Side) (quad : Fin 16) (s : State) (hk : Keeps r0 s) :
    KeepsR r0 (execVcoCalDone side quad s) := by
  unfold execVcoCalDone
  try dsimp only
  repeat' first
    | with_reducible first
      | assumption | apply lanePut_keeps | apply quadPut_keeps | apply freeFlex_keeps | apply keeps_foldl
       | apply keepsR_next | apply keeps_ite | apply keepsR_ite
    | split | intro _

theorem execLanePllLock_keeps {r0 : State} (l : LaneRef) (s : State) (hk : Keeps r0 s) :
    KeepsR r0 (execLanePllLock l s) := by
  unfold execLanePllLock
  try dsimp only
  repeat' first
    | with_reducible first
      | assumption | apply lanePut_keeps | apply keeps_foldl | apply keepsR_next | apply keeps_ite | apply keepsR_ite
    | split | intro _

theorem execLaneCdrLock_keeps {r0 : State} (l : LaneRef) (s : State) (hk : Keeps r0 s) :
    KeepsR r0 (execLaneCdrLock l s) := by
  unfold execLaneCdrLock
  try dsimp only
  repeat' first
    | with_reducible first
      | assumption | apply lanePut_keeps | apply keeps_foldl | apply keepsR_next | apply keeps_ite | apply keepsR_ite
    | split | intro _

theorem applyEqCtrl_keeps {r0 : State} (side : Nat) (lane : Nat) (v : Word) (s : State) (hk : Keeps r0 s) :
    KeepsE r0 (applyEqCtrl side lane v s) := by
  unfold applyEqCtrl
  try dsimp only
  repeat' first
    | with_reducible first
      | assumption | exact keepsE_error | apply eqPut_keeps | apply cwSet_keeps | apply keeps_foldl | apply keepsE_ok
       | apply keeps_ite | apply keepsE_ite
    | split | intro _

theorem execLaneEqCtrl_keeps {r0 : State} (l : LaneRef) (w : CtlWrite) (s : State) (hk : Keeps r0 s) :
    KeepsR r0 (execLaneEqCtrl l w s) := by
  unfold execLaneEqCtrl
  try dsimp only
  repeat' first
    | with_reducible first
      | assumption | exact keepsE_error | apply applyEqCtrl_keeps | apply settle_keeps | apply keeps_foldl
       | apply keepsR_next | apply keepsE_ok | apply keeps_ite | apply keepsE_ite | apply keepsR_ite
    | split | intro _

theorem applyEqSet_keeps {r0 : State} (side : Nat) (lane : Nat) (w : Nat) (v : Word) (s : State) (hk : Keeps r0 s) :
    KeepsE r0 (applyEqSet side lane w v s) := by
  unfold applyEqSet
  try dsimp only
  repeat' first
    | with_reducible first
      | assumption | exact keepsE_error | apply eqPut_keeps | apply cwSet_keeps | apply keeps_foldl | apply keepsE_ok
       | apply keeps_ite | apply keepsE_ite
    | split | intro _

theorem ffePut_keeps {r0 : State} (side : Nat) (lane : Nat) (i : Nat) (v : Word) (s : State) (hk : Keeps r0 s) :
    Keeps r0 (ffePut side lane i v s) := by
  unfold ffePut
  try dsimp only
  repeat' first
    | with_reducible first
      | assumption | apply lanePut_keeps | apply keeps_foldl | apply keeps_ite
    | split | intro _

theorem applyTxFfe_keeps {r0 : State} (side : Nat) (lane : Nat) (i : Nat) (v : Word) (s : State) (hk : Keeps r0 s) :
    KeepsE r0 (applyTxFfe side lane i v s) := by
  unfold applyTxFfe
  try dsimp only
  repeat' first
    | with_reducible first
      | assumption | exact keepsE_error | apply ffePut_keeps | apply cwSet_keeps | apply keeps_foldl | apply keepsE_ok
       | apply keeps_ite | apply keepsE_ite
    | split | intro _

theorem execLaneTxFfe_keeps {r0 : State} (l : LaneRef) (i : Fin 2) (w : CtlWrite) (s : State) (hk : Keeps r0 s) :
    KeepsR r0 (execLaneTxFfe l i w s) := by
  unfold execLaneTxFfe
  try dsimp only
  repeat' first
    | with_reducible first
      | assumption | exact keepsE_error | apply applyTxFfe_keeps | apply settle_keeps | apply keeps_foldl
       | apply keepsR_next | apply keepsE_ok | apply keeps_ite | apply keepsE_ite | apply keepsR_ite
    | split | intro _

theorem laneEvent_keeps {r0 : State} (side : Nat) (lane : Nat) (b : Nat) (s : State) (hk : Keeps r0 s) :
    Keeps r0 (laneEvent side lane b s) := by
  unfold laneEvent
  try dsimp only
  repeat' first
    | with_reducible first
      | assumption | apply cwPut_keeps | apply keeps_foldl | apply keeps_ite
    | split | intro _

theorem execEqFenceHit_keeps {r0 : State} (l : LaneRef) (loop : EqLoop) (s : State) (hk : Keeps r0 s) :
    KeepsR r0 (execEqFenceHit l loop s) := by
  unfold execEqFenceHit
  try dsimp only
  repeat' first
    | with_reducible first
      | assumption | apply record0_keeps | apply laneEvent_keeps | apply lanePut_keeps | apply keeps_foldl
       | apply keepsR_next | apply keeps_ite | apply keepsR_ite
    | split | intro _

theorem execEqMarginLow_keeps {r0 : State} (l : LaneRef) (snr : Fin 256) (s : State) (hk : Keeps r0 s) :
    KeepsR r0 (execEqMarginLow l snr s) := by
  unfold execEqMarginLow
  try dsimp only
  repeat' first
    | with_reducible first
      | assumption | apply record0_keeps | apply laneEvent_keeps | apply lanePut_keeps | apply keeps_foldl
       | apply keepsR_next | apply keeps_ite | apply keepsR_ite
    | split | intro _

theorem ffeLoad_keeps {r0 : State} (side : Nat) (lane : Nat) (v0 : Word) (v1 : Word) (s : State) (hk : Keeps r0 s) :
    Keeps r0 (ffeLoad side lane v0 v1 s) := by
  unfold ffeLoad
  try dsimp only
  repeat' first
    | with_reducible first
      | assumption | apply ffePut_keeps | apply keeps_foldl | apply keeps_ite
    | split | intro _

theorem execLinkTrainDone_keeps {r0 : State} (l : LaneRef) (ffe0 : Word) (ffe1 : Word) (s : State) (hk : Keeps r0 s) :
    KeepsR r0 (execLinkTrainDone l ffe0 ffe1 s) := by
  unfold execLinkTrainDone
  try dsimp only
  repeat' first
    | with_reducible first
      | assumption | apply ffeLoad_keeps | apply lanePut_keeps | apply keeps_foldl | apply keepsR_next
       | apply keeps_ite | apply keepsR_ite
    | split | intro _

theorem execLinkTrainFail_keeps {r0 : State} (l : LaneRef) (s : State) (hk : Keeps r0 s) :
    KeepsR r0 (execLinkTrainFail l s) := by
  unfold execLinkTrainFail
  try dsimp only
  repeat' first
    | with_reducible first
      | assumption | apply laneEvent_keeps | apply ffeLoad_keeps | apply lanePut_keeps | apply keeps_foldl
       | apply keepsR_next | apply keeps_ite | apply keepsR_ite
    | split | intro _

theorem startChecker_keeps {r0 : State} (side : Nat) (lane : Nat) (s : State) (hk : Keeps r0 s) :
    Keeps r0 (startChecker side lane s) := by
  unfold startChecker
  try dsimp only
  repeat' first
    | with_reducible first
      | assumption | apply lanePut_keeps | apply keeps_foldl | apply keeps_ite
    | split | intro _

theorem applyPrbsCtrl_keeps {r0 : State} (side : Nat) (lane : Nat) (v : Word) (s : State) (hk : Keeps r0 s) :
    KeepsE r0 (applyPrbsCtrl side lane v s) := by
  unfold applyPrbsCtrl
  try dsimp only
  repeat' first
    | with_reducible first
      | assumption | exact keepsE_error | apply lanePut_keeps | apply startChecker_keeps | apply emit_keeps
       | apply cwSet_keeps | apply keeps_foldl | apply keepsE_ok | apply keeps_ite | apply keepsE_ite
    | split | intro _

theorem execPrbsGenEn_keeps {r0 : State} (o : Origin) (l : LaneRef) (pat : Fin 16) (inv : Bool) (s : State)
    (hk : Keeps r0 s) :
    KeepsR r0 (execPrbsGenEn o l pat inv s) := by
  unfold execPrbsGenEn
  try dsimp only
  repeat' first
    | with_reducible first
      | assumption | exact keepsE_error | apply settle_keeps | apply cwSet_keeps | apply keeps_foldl
       | apply keepsR_next | apply keepsE_ok | apply keeps_ite | apply keepsE_ite | apply keepsR_ite
    | split | intro _

theorem execPrbsChkEn_keeps {r0 : State} (o : Origin) (l : LaneRef) (pat : Fin 16) (s : State) (hk : Keeps r0 s) :
    KeepsR r0 (execPrbsChkEn o l pat s) := by
  unfold execPrbsChkEn
  try dsimp only
  repeat' first
    | with_reducible first
      | assumption | exact keepsE_error | apply settle_keeps | apply startChecker_keeps | apply cwSet_keeps
       | apply keeps_foldl | apply keepsR_next | apply keepsE_ok | apply keeps_ite | apply keepsE_ite
       | apply keepsR_ite
    | split | intro _

theorem execPrbsErrInj_keeps {r0 : State} (o : Origin) (l : LaneRef) (s : State) (hk : Keeps r0 s) :
    KeepsR r0 (execPrbsErrInj o l s) := by
  unfold execPrbsErrInj
  try dsimp only
  repeat' first
    | with_reducible first
      | assumption | exact keepsE_error | apply settle_keeps | apply emit_keeps | apply keeps_foldl
       | apply keepsR_next | apply keepsE_ok | apply keeps_ite | apply keepsE_ite | apply keepsR_ite
    | split | intro _

theorem prbsCount_keeps {r0 : State} (side : Nat) (lane : Nat) (bits : Nat) (errs : Nat) (s : State) (hk : Keeps r0 s) :
    Keeps r0 (prbsCount side lane bits errs s) := by
  unfold prbsCount
  try dsimp only
  repeat' first
    | with_reducible first
      | assumption | apply lanePut_keeps | apply cwCount_keeps | apply keeps_foldl | apply keeps_ite
    | split | intro _

theorem execPrbsLock_keeps {r0 : State} (l : LaneRef) (bits : Nat) (errs : Nat) (s : State) (hk : Keeps r0 s) :
    KeepsR r0 (execPrbsLock l bits errs s) := by
  unfold execPrbsLock
  try dsimp only
  repeat' first
    | with_reducible first
      | assumption | apply lanePut_keeps | apply prbsCount_keeps | apply keeps_foldl | apply keepsR_next
       | apply keeps_ite | apply keepsR_ite
    | split | intro _

theorem execPrbsLockLoss_keeps {r0 : State} (l : LaneRef) (bits : Nat) (errs : Nat) (s : State) (hk : Keeps r0 s) :
    KeepsR r0 (execPrbsLockLoss l bits errs s) := by
  unfold execPrbsLockLoss
  try dsimp only
  repeat' first
    | with_reducible first
      | assumption | apply lanePut_keeps | apply prbsCount_keeps | apply keeps_foldl | apply keepsR_next
       | apply keeps_ite | apply keepsR_ite
    | split | intro _

theorem applyLpbk_keeps {r0 : State} (side : Nat) (lane : Nat) (v : Word) (s : State) (hk : Keeps r0 s) :
    KeepsE r0 (applyLpbk side lane v s) := by
  unfold applyLpbk
  try dsimp only
  repeat' first
    | with_reducible first
      | assumption | exact keepsE_error | apply cwSet_keeps | apply keeps_foldl | apply keepsE_ok | apply keeps_ite
       | apply keepsE_ite
    | split | intro _

theorem execLaneLpbk_keeps {r0 : State} (o : Origin) (l : LaneRef) (near : Bool) (far : Bool) (s : State)
    (hk : Keeps r0 s) :
    KeepsR r0 (execLaneLpbk o l near far s) := by
  unfold execLaneLpbk
  try dsimp only
  repeat' first
    | with_reducible first
      | assumption | exact keepsE_error | apply applyLpbk_keeps | apply settle_keeps | apply keeps_foldl
       | apply keepsR_next | apply keepsE_ok | apply keeps_ite | apply keepsE_ite | apply keepsR_ite
    | split | intro _

theorem preemptTest_keeps {r0 : State} (side : Nat) (lane : Nat) (s : State) (hk : Keeps r0 s) :
    Keeps r0 (preemptTest side lane s) := by
  unfold preemptTest
  try dsimp only
  repeat' first
    | with_reducible first
      | assumption | apply record0_keeps | apply cwPut_keeps | apply cwSet_keeps | apply keeps_foldl | apply keeps_ite
    | split | intro _

theorem clearLaneTests_keeps {r0 : State} (s : State) (hk : Keeps r0 s) :
    Keeps r0 (clearLaneTests s) := by
  unfold clearLaneTests
  try dsimp only
  repeat' first
    | with_reducible first
      | assumption | apply laneEvent_keeps | apply cwPut_keeps | apply keeps_foldl | apply keeps_ite
    | split | intro _

theorem refPut_keeps {r0 : State} (r : Nat) (c : RefClk) (s : State) (hk : Keeps r0 s) :
    Keeps r0 (refPut r c s) := by
  unfold refPut
  try dsimp only
  repeat' first
    | with_reducible first
      | assumption | apply putRefClk_keeps | apply keeps_foldl | apply keeps_ite | apply tabSet_ok | apply tabSet_ok'
       | apply tabFilter_ok | apply tabMap_ok | apply tabDrop_ok | exact tabNil_ok
    | refine fun (c : Canon _) => ?_ | exact (c.refClk_ok :) | split | intro _

theorem refMove_keeps {r0 : State} (r : Nat) (new : Nat) (s : State) (hk : Keeps r0 s) :
    Keeps r0 (refMove r new s) := by
  unfold refMove
  try dsimp only
  repeat' first
    | with_reducible first
      | assumption | apply cenInc_keeps | apply dueRecord_keeps | apply refPut_keeps | apply keeps_foldl
       | apply keeps_ite
    | split | intro _

theorem applyRefCtrl_keeps {r0 : State} (r : Nat) (v : Word) (s : State) (hk : Keeps r0 s) :
    KeepsE r0 (applyRefCtrl r v s) := by
  unfold applyRefCtrl
  try dsimp only
  repeat' first
    | with_reducible first
      | assumption | exact keepsE_error | apply refMove_keeps | apply cwSet_keeps | apply keeps_foldl
       | apply keepsE_ok | apply keeps_ite | apply keepsE_ite
    | split | intro _

theorem execClkRefCtrl_keeps {r0 : State} (r : RegionId) (w : CtlWrite) (s : State) (hk : Keeps r0 s) :
    KeepsR r0 (execClkRefCtrl r w s) := by
  unfold execClkRefCtrl
  try dsimp only
  repeat' first
    | with_reducible first
      | assumption | exact keepsE_error | apply applyRefCtrl_keeps | apply settle_keeps | apply keeps_foldl
       | apply keepsR_next | apply keepsE_ok | apply keeps_ite | apply keepsE_ite | apply keepsR_ite
    | split | intro _

theorem refMark_keeps {r0 : State} (r : Nat) (n : RefName) (ok : Bool) (s : State) (hk : Keeps r0 s) :
    Keeps r0 (refMark r n ok s) := by
  unfold refMark
  try dsimp only
  repeat' first
    | with_reducible first
      | assumption | apply refPut_keeps | apply keeps_foldl | apply keeps_ite
    | split | intro _

theorem execRefclkLoss_keeps {r0 : State} (r : RegionId) (n : RefName) (s : State) (hk : Keeps r0 s) :
    KeepsR r0 (execRefclkLoss r n s) := by
  unfold execRefclkLoss
  try dsimp only
  repeat' first
    | with_reducible first
      | assumption | apply refMark_keeps | apply refMove_keeps | apply keeps_foldl | apply keepsR_next
       | apply keeps_ite | apply keepsR_ite
    | split | intro _

theorem execRefclkRequalify_keeps {r0 : State} (r : RegionId) (n : RefName) (s : State) (hk : Keeps r0 s) :
    KeepsR r0 (execRefclkRequalify r n s) := by
  unfold execRefclkRequalify
  try dsimp only
  repeat' first
    | with_reducible first
      | assumption | apply refMark_keeps | apply refMove_keeps | apply keeps_foldl | apply keepsR_next
       | apply keeps_ite | apply keepsR_ite
    | split | intro _

end Sys2Proof.Machine
end

