-- ==== Sys2Proof/Laws/KeepDomains.lean ====
section
/-! SUPPORT. Each operation of Machine/Domains.lean leaves the waiting commands alone and keeps canonical form. -/

set_option linter.unusedTactic false
set_option linter.unreachableTactic false

namespace Sys2Proof.Machine

open Sys2Proof.Safety

theorem pwrEvt_keeps {r0 : State} (d : Nat) (old : Nat) (new : Nat) (cause : Nat) (s : State) (hk : Keeps r0 s) :
    Keeps r0 (pwrEvt d old new cause s) := by
  unfold pwrEvt
  try dsimp only
  repeat' first
    | with_reducible first
      | assumption | apply dueRecord_keeps | apply keeps_foldl | apply keeps_ite
    | split | intro _

theorem loseCluster_keeps {r0 : State} (c : Nat) (s : State) (hk : Keeps r0 s) : Keeps r0 (loseCluster c s) := by
  unfold loseCluster
  extract_lets gone s1 s2
  have h1 : Keeps r0 s1 := putCellsT0_of (putCells_of (putOhT0_of (putOh_of (putMons_of (putCtx_of (putCtxAt_of hk
    fun k => tabFilter_ok (hk.canon k).ctxAt_ok) fun k => tabFilter_ok (hk.canon k).ctx_ok)
    fun k => tabFilter_ok (hk.canon k).mons_ok) fun k => tabFilter_ok (hk.canon k).oh_ok)
    fun k => tabFilter_ok (hk.canon k).ohT0_ok) fun k => tabFilter_ok (hk.canon k).cells_ok)
    fun k => tabFilter_ok (hk.canon k).cellsT0_ok
  clear_value s1
  have h2 : Keeps r0 s2 := putPorts_of (putFramers_of (putTrackers_of h1
    fun k => tabFilter_ok (h1.canon k).trackers_ok) fun k => tabFilter_ok (h1.canon k).framers_ok)
    fun k => tabFilter_ok (h1.canon k).ports_ok
  clear_value s2
  exact putChkMax_of (putEngines_of h2 fun k => tabFilter_ok (h2.canon k).engines_ok)
    fun k => tabSet_ok' (h2.canon k).chkMax_ok

theorem loseLanes_keeps {r0 : State} (side r : Nat) (s : State) (hk : Keeps r0 s) : Keeps r0 (loseLanes side r s) := by
  unfold loseLanes
  refine putLanes_keeps hk fun c => tabFilterMap_ok (fun e y h => ?_) c.lanes_ok
  dsimp only at h
  split at h
  · split at h
    · cases h
    · rename_i ne
      cases h
      refine ⟨rfl, fun _ k => ne ?_⟩
      have k' : e.2.eq = [] := congrArg Lane.eq k
      rw [k']; rfl
  · cases h
    exact ⟨rfl, id⟩

theorem loseContents_keeps {r0 : State} (d : Nat) (s : State) (hk : Keeps r0 s) : Keeps r0 (loseContents d s) := by
  unfold loseContents
  extract_lets pairsOf s1
  have h1 : Keeps r0 s1 := putWords_of (putCw_keeps hk fun c => tabFilter_ok c.cw_ok)
    fun c => tabFilter_ok (hk.canon c).words_ok
  clear_value s1
  split
  · exact loseCluster_keeps _ _ (putPairs_keeps h1 fun c => tabFilter_ok c.pairs_ok)
  split
  · exact loseLanes_keeps _ _ _ h1
  split
  · exact h1
  split
  · exact putRefClk_of (putFlex_of (putQuads_of h1 fun c => tabFilter_ok (h1.canon c).quads_ok)
      fun c => tabFilter_ok (h1.canon c).flex_ok) fun c => tabSet_ok' (h1.canon c).refClk_ok
  split
  · exact putCq_of (putRsz_of (putSels_of (putDecks_of (putDeck_of h1 fun c => tabFilter_ok (h1.canon c).deck_ok)
      fun c => tabSet_ok' (h1.canon c).decks_ok) fun c => tabFilter_ok (h1.canon c).sels_ok)
      fun c => tabFilter_ok (h1.canon c).rsz_ok) fun c => tabFilter_ok (h1.canon c).cq_ok
  split
  · exact putGroups_of (putHls_of (putPrfRings_of h1 fun c => tabFilter_ok (h1.canon c).prfRings_ok)
      fun c => tabFilter_ok (h1.canon c).hls_ok) fun c => tabFilter_ok (h1.canon c).groups_ok
  split
  · exact putAudio_of h1 fun _ => tabNil_ok
  · exact h1

theorem stopIn_keeps {r0 : State} (d : Nat) (s : State) (hk : Keeps r0 s) :
    Keeps r0 (stopIn d s) := by
  unfold stopIn
  try dsimp only
  repeat' first
    | with_reducible first
      | assumption | apply laneLeft_keeps | apply holdStream_keeps | apply lanePut_keeps | apply keeps_foldl
       | apply keeps_ite
    | split | intro _

theorem startIn_keeps {r0 : State} (d : Nat) (s : State) (hk : Keeps r0 s) :
    Keeps r0 (startIn d s) := by
  unfold startIn
  try dsimp only
  repeat' first
    | with_reducible first
      | assumption | apply startLane_keeps | apply restartStream_keeps | apply keeps_foldl | apply keeps_ite
    | split | intro _

theorem moveDomain_keeps {r0 : State} (d : Nat) (goal : Nat) (cause : Nat) (s : State) (hk : Keeps r0 s) :
    Keeps r0 (moveDomain d goal cause s) := by
  unfold moveDomain
  try dsimp only
  repeat' first
    | with_reducible first
      | assumption | apply domPut_keeps | apply loseContents_keeps | apply stopIn_keeps | apply keeps_foldl
       | apply keeps_ite
    | split | intro _

theorem unhold_keeps {r0 : State} (lift : Nat → Bool) (s : State) (hk : Keeps r0 s) : Keeps r0 (unhold lift s) :=
  keeps_foldl hk fun _ _ ht => keeps_ite ht fun h => domPut_keeps _ _ _ h

theorem followDies_keeps {r0 : State} (cause : Nat) (s : State) (hk : Keeps r0 s) : Keeps r0 (followDies cause s) :=
  keeps_foldl hk fun _ _ ht => by
    split
    · exact ht
    · exact moveDomain_keeps _ _ _ _ ht

theorem retarget_keeps {r0 : State} (cause : Nat) (lift : Nat → Bool) (s : State) (hk : Keeps r0 s) :
    Keeps r0 (retarget cause lift s) := by
  exact followDies_keeps _ _ (keeps_foldl (unhold_keeps _ _ hk) fun _ _ h => moveDomain_keeps _ _ _ _ h)

theorem startRail_keeps {r0 : State} (r : Nat) (s : State) (hk : Keeps r0 s) :
    Keeps r0 (startRail r s) := by
  unfold startRail
  try dsimp only
  repeat' first
    | with_reducible first
      | assumption | apply putVloops_keeps | apply keeps_foldl | apply keeps_ite | apply tabSet_ok | apply tabSet_ok'
       | apply tabFilter_ok | apply tabMap_ok | apply tabDrop_ok | exact tabNil_ok
    | refine fun (c : Canon _) => ?_ | exact (c.vloops_ok :) | split | intro _

theorem landDomain_keeps {r0 : State} (d : Nat) (s : State) (hk : Keeps r0 s) : Keeps r0 (landDomain d s) := by
  unfold landDomain
  extract_lets k up rail before s1 s2 s3 s4 s5 src s6
  split
  · exact hk
  split
  · exact domPut_keeps _ _ _ hk
  have h1 : Keeps r0 s1 := domPut_keeps _ _ _ hk
  have h2 : Keeps r0 s2 := keeps_ite h1 fun h => startRail_keeps _ _ h
  have h3 : Keeps r0 s3 := keeps_ite h2 fun h => cenInc_keeps _ _ h
  have h4 : Keeps r0 s4 := keeps_ite' (fun h => h) (fun h => pwrEvt_keeps _ _ _ _ _ h) h3
  have h5 : Keeps r0 s5 := keeps_ite h4 fun h => startIn_keeps _ _ h
  have h6 : Keeps r0 s6 := keeps_ite h5 fun h => putLink_keeps h
  exact followDies_keeps _ _ h6

theorem applyReq_keeps {r0 : State} (d : Nat) (st : Nat) (s : State) (hk : Keeps r0 s) :
    KeepsE r0 (applyReq d st s) := by
  unfold applyReq
  try dsimp only
  repeat' first
    | with_reducible first
      | assumption | exact keepsE_error | apply cwPut_keeps | apply retarget_keeps | apply keeps_foldl
       | apply keepsE_ok | apply keeps_ite | apply keepsE_ite
    | split | intro _

theorem execPwrDomReq_keeps {r0 : State} (d : Fin 56) (w : CtlWrite) (s : State) (hk : Keeps r0 s) :
    KeepsR r0 (execPwrDomReq d w s) := by
  unfold execPwrDomReq
  try dsimp only
  repeat' first
    | with_reducible first
      | assumption | exact keepsE_error | apply settle_keeps | apply applyReq_keeps | apply keeps_foldl
       | apply keepsR_next | apply keepsE_ok | apply keeps_ite | apply keepsE_ite | apply keepsR_ite
    | split | intro _

theorem recheckReqs_keeps {r0 : State} (s : State) (hk : Keeps r0 s) :
    Keeps r0 (recheckReqs s) := by
  unfold recheckReqs
  try dsimp only
  repeat' first
    | with_reducible first
      | assumption | apply cwPut_keeps | apply pwrEvt_keeps | apply unhold_keeps | apply keeps_foldl | apply keeps_ite
    | split | intro _

end Sys2Proof.Machine
end

