-- ==== Sys2Proof/Laws/KeepQueues.lean ====
section
/-! SUPPORT. Each operation of Machine/Queues.lean leaves the waiting commands alone and keeps canonical form. -/

set_option linter.unusedTactic false
set_option linter.unreachableTactic false

namespace Sys2Proof.Machine

open Sys2Proof.Safety

theorem cqPut_keeps {r0 : State} (q : Nat) (c : ClientQueue) (s : State) (hk : Keeps r0 s) :
    Keeps r0 (cqPut q c s) := by
  unfold cqPut
  try dsimp only
  repeat' first
    | with_reducible first
      | assumption | apply putCq_keeps | apply keeps_foldl | apply keeps_ite | apply tabSet_ok | apply tabSet_ok'
       | apply tabFilter_ok | apply tabMap_ok | apply tabDrop_ok | exact tabNil_ok
    | refine fun (c : Canon _) => ?_ | exact (c.cq_ok :) | split | intro _

theorem cqHigh_keeps {r0 : State} (q : Nat) (hi : Bool) (s : State) (hk : Keeps r0 s) :
    Keeps r0 (cqHigh q hi s) := by
  unfold cqHigh
  try dsimp only
  repeat' first
    | with_reducible first
      | assumption | apply cqPut_keeps | apply keeps_foldl | apply keeps_ite
    | split | intro _

theorem cqLevel_keeps {r0 : State} (q : Nat) (s : State) (hk : Keeps r0 s) :
    Keeps r0 (cqLevel q s) := by
  unfold cqLevel
  try dsimp only
  repeat' first
    | with_reducible first
      | assumption | apply cqHigh_keeps | apply keeps_foldl | apply keeps_ite
    | split | intro _

theorem sendFrame_keeps {r0 : State} (q : Nat) (bytes : List (Fin 256)) (bad : Bool) (s : State) (hk : Keeps r0 s) :
    Keeps r0 (sendFrame q bytes bad s) := by
  unfold sendFrame
  try dsimp only
  repeat' first
    | with_reducible first
      | assumption | apply emit_keeps | apply keeps_foldl | apply keeps_ite
    | split | intro _

theorem countUnderrun_keeps {r0 : State} (q : Nat) (s : State) (hk : Keeps r0 s) :
    Keeps r0 (countUnderrun q s) := by
  unfold countUnderrun
  try dsimp only
  repeat' first
    | with_reducible first
      | assumption | apply countPort0_keeps | apply keeps_foldl | apply keeps_ite
    | split | intro _

theorem swallowArrival_keeps {r0 : State} (q : Nat) (s : State) (hk : Keeps r0 s) :
    Keeps r0 (swallowArrival q s) := by
  unfold swallowArrival
  try dsimp only
  repeat' first
    | with_reducible first
      | assumption | apply putPorts_keeps | apply keeps_foldl | apply keeps_ite | apply tabSet_ok | apply tabSet_ok'
       | apply tabFilter_ok | apply tabMap_ok | apply tabDrop_ok | exact tabNil_ok
    | refine fun (c : Canon _) => ?_ | exact (c.ports_ok :) | split | intro _

theorem underrunHead_keeps {r0 : State} (q : Nat) (s : State) (hk : Keeps r0 s) :
    Keeps r0 (underrunHead q s) := by
  unfold underrunHead
  try dsimp only
  repeat' first
    | with_reducible first
      | assumption | apply cqLevel_keeps | apply countUnderrun_keeps | apply cqPut_keeps | apply sendFrame_keeps
       | apply swallowArrival_keeps | apply keeps_foldl | apply keeps_ite
    | split | intro _

theorem loseArrival_keeps {r0 : State} (q : Nat) (s : State) (hk : Keeps r0 s) :
    Keeps r0 (loseArrival q s) := by
  unfold loseArrival
  try dsimp only
  repeat' first
    | with_reducible first
      | assumption | apply cqLevel_keeps | apply cqPut_keeps | apply underrunHead_keeps | apply cwCount_keeps
       | apply swallowArrival_keeps | apply keeps_foldl | apply keeps_ite
    | split | intro _

theorem writeLines_keeps {r0 : State} (q : Nat) : ∀ (k : Nat) (s : State), Keeps r0 s → Keeps r0 (writeLines q k s)
  | 0, _, h => h
  | k + 1, s, h => by
    unfold writeLines
    dsimp only
    split
    · exact h
    · split
      · exact h
      · split
        · exact loseArrival_keeps _ _ (cwCount_keeps _ _ _ (cqPut_keeps _ _ _ h))
        · exact writeLines_keeps q k _ (cqLevel_keeps _ _ (cqPut_keeps _ _ _ (cwCount_keeps _ _ _ (cqPut_keeps _ _ _ h))))

theorem chanHead_keeps {r0 : State} (u : Nat) (p : Nat) (h : List Nat) (s : State) (hk : Keeps r0 s) :
    Keeps r0 (chanHead u p h s) := by
  unfold chanHead
  try dsimp only
  repeat' first
    | with_reducible first
      | assumption | apply cqPut_keeps | apply portPut_keeps | apply countPort1_keeps | apply countPort0_keeps
       | apply keeps_foldl | apply keeps_ite
    | split | intro _

theorem chanData_keeps {r0 : State} (u : Nat) (p : Nat) (bs : List (Fin 256)) (s : State) (hk : Keeps r0 s) :
    Keeps r0 (chanData u p bs s) := by
  unfold chanData
  try dsimp only
  repeat' first
    | with_reducible first
      | assumption | apply cqPut_keeps | apply portPut_keeps | apply writeLines_keeps | apply keeps_foldl
       | apply keeps_ite
    | split | intro _

theorem chanComplete_keeps {r0 : State} (q : Nat) (s : State) (hk : Keeps r0 s) :
    Keeps r0 (chanComplete q s) := by
  unfold chanComplete
  try dsimp only
  repeat' first
    | with_reducible first
      | assumption | apply cqPut_keeps | apply writeLines_keeps | apply keeps_foldl | apply keeps_ite
    | split | intro _

theorem chanFinish_keeps {r0 : State} (u : Nat) (p : Nat) (fcsOk : Bool) (s : State) (hk : Keeps r0 s) :
    Keeps r0 (chanFinish u p fcsOk s) := by
  unfold chanFinish
  try dsimp only
  repeat' first
    | with_reducible first
      | assumption | apply cqLevel_keeps | apply cqPut_keeps | apply chanComplete_keeps | apply underrunHead_keeps
       | apply portPut_keeps | apply countPort1_keeps | apply keeps_foldl | apply keeps_ite
    | split | intro _

theorem execChanFrameRx_keeps {r0 : State} (r : PortRef) (step : ChanStep) (s : State) (hk : Keeps r0 s) :
    KeepsR r0 (execChanFrameRx r step s) := by
  unfold execChanFrameRx
  try dsimp only
  repeat' first
    | with_reducible first
      | assumption | apply chanFinish_keeps | apply chanHead_keeps | apply chanData_keeps | apply keeps_foldl
       | apply keepsR_next | apply keeps_ite | apply keepsR_ite
    | split | intro _

theorem execPauseMsgSend_keeps {r0 : State} (q : CqId) (s : State) (hk : Keeps r0 s) :
    KeepsR r0 (execPauseMsgSend q s) := by
  unfold execPauseMsgSend
  try dsimp only
  repeat' first
    | with_reducible first
      | assumption | apply cqPut_keeps | apply emit_keeps | apply keeps_foldl | apply keepsR_next | apply keeps_ite
       | apply keepsR_ite
    | split | intro _

theorem readLines_keeps {r0 : State} (q : Nat) (lines : Nat) (s : State) (hk : Keeps r0 s) :
    Keeps r0 (readLines q lines s) := by
  unfold readLines
  try dsimp only
  repeat' first
    | with_reducible first
      | assumption | apply cqLevel_keeps | apply cqPut_keeps | apply sendFrame_keeps | apply keeps_foldl
       | apply keeps_ite
    | split | intro _

theorem execGfpFrameStart_keeps {r0 : State} (r : PortRef) (lines : Nat) (s : State) (hk : Keeps r0 s) :
    KeepsR r0 (execGfpFrameStart r lines s) := by
  unfold execGfpFrameStart
  try dsimp only
  repeat' first
    | with_reducible first
      | assumption | apply cqPut_keeps | apply readLines_keeps | apply keeps_foldl | apply keepsR_next
       | apply keeps_ite | apply keepsR_ite
    | split | intro _

theorem execGfpUnderrun_keeps {r0 : State} (r : PortRef) (s : State) (hk : Keeps r0 s) :
    KeepsR r0 (execGfpUnderrun r s) := by
  unfold execGfpUnderrun
  try dsimp only
  repeat' first
    | with_reducible first
      | assumption | apply underrunHead_keeps | apply keeps_foldl | apply keepsR_next | apply keeps_ite
       | apply keepsR_ite
    | split | intro _

theorem flushRecord_keeps {r0 : State} (src : Nat) (inst : Nat) (q : Nat) (discarded : Nat) (truncated : Nat) (s : State)
    (hk : Keeps r0 s) :
    Keeps r0 (flushRecord src inst q discarded truncated s) := by
  unfold flushRecord
  try dsimp only
  repeat' first
    | with_reducible first
      | assumption | apply record0_keeps | apply keeps_foldl | apply keeps_ite
    | split | intro _

theorem flushClient_keeps {r0 : State} (src : Nat) (q : Nat) (s : State) (hk : Keeps r0 s) :
    Keeps r0 (flushClient src q s) := by
  unfold flushClient
  try dsimp only
  repeat' first
    | with_reducible first
      | assumption | apply cqLevel_keeps | apply cqPut_keeps | apply flushRecord_keeps | apply underrunHead_keeps
       | apply swallowArrival_keeps | apply keeps_foldl | apply keeps_ite
    | split | intro _

theorem execClientQueueFlush_keeps {r0 : State} (o : Origin) (q : CqId) (s : State) (hk : Keeps r0 s) :
    KeepsR r0 (execClientQueueFlush o q s) := by
  unfold execClientQueueFlush
  try dsimp only
  repeat' first
    | with_reducible first
      | assumption | apply flushClient_keeps | apply keeps_foldl | apply keepsR_next | apply keeps_ite
       | apply keepsR_ite
    | split | intro _

theorem flushHost_keeps {r0 : State} (src : Nat) (q : Nat) (s : State) (hk : Keeps r0 s) :
    Keeps r0 (flushHost src q s) := by
  unfold flushHost
  try dsimp only
  repeat' first
    | with_reducible first
      | assumption | apply putSuspended_keeps | apply flushRecord_keeps | apply hqLevel_keeps | apply hqPut_keeps
       | apply putEngines_keeps | apply keeps_foldl | apply keeps_ite | apply tabSet_ok | apply tabSet_ok'
       | apply tabFilter_ok | apply tabMap_ok | apply tabDrop_ok | exact tabNil_ok
    | refine fun (c : Canon _) => ?_ | exact (c.engines_ok :) | split | intro _

theorem execHostQueueFlush_keeps {r0 : State} (o : Origin) (q : HqId) (s : State) (hk : Keeps r0 s) :
    KeepsR r0 (execHostQueueFlush o q s) := by
  unfold execHostQueueFlush
  try dsimp only
  repeat' first
    | with_reducible first
      | assumption | apply flushHost_keeps | apply keeps_foldl | apply keepsR_next | apply keeps_ite
       | apply keepsR_ite
    | split | intro _

theorem displaceAp3_keeps {r0 : State} (group : Nat) (s : State) (hk : Keeps r0 s) :
    Keeps r0 (displaceAp3 group s) := by
  unfold displaceAp3
  try dsimp only
  repeat' first
    | with_reducible first
      | assumption | apply putAudio_keeps | apply record0_keeps | apply cwPut_keeps | apply keeps_foldl
       | apply keeps_ite | apply tabSet_ok | apply tabSet_ok' | apply tabFilter_ok | apply tabMap_ok
       | apply tabDrop_ok | exact tabNil_ok
    | refine fun (c : Canon _) => ?_ | exact (c.audio_ok :) | split | intro _

theorem cqStore_keeps {r0 : State} (q : Nat) (w : Nat) (v : Word) (s : State) (hk : Keeps r0 s) :
    Keeps r0 (cqStore q w v s) := by
  unfold cqStore
  try dsimp only
  repeat' first
    | with_reducible first
      | assumption | apply cwSet_keeps | apply keeps_foldl | apply keeps_ite
    | split | intro _

theorem applyCq_keeps {r0 : State} (src : Nat) (plan : State) (q : Nat) (w : Nat) (v : Word) (s : State) (hk : Keeps r0 s) :
    KeepsE r0 (applyCq src plan q w v s) := by
  unfold applyCq
  try dsimp only
  repeat' first
    | with_reducible first
      | assumption | exact keepsE_error | apply cqLevel_keeps | apply displaceAp3_keeps | apply cqStore_keeps
       | apply cqPut_keeps | apply flushClient_keeps | apply keeps_foldl | apply keepsE_ok | apply keeps_ite
       | apply keepsE_ite
    | split | intro _

theorem applyCqWrites_keeps {r0 : State} (q : Nat) (ws : List QueueWrite) (s : State) (hk : Keeps r0 s) :
    Keeps r0 (applyCqWrites q ws s) := by
  unfold applyCqWrites
  try dsimp only
  repeat' first
    | with_reducible first
      | assumption | exact keepsE_error | apply cqStore_keeps | apply settle_keeps | apply applyCq_keeps
       | apply keeps_foldl | apply keepsE_ok | apply keeps_ite | apply keepsE_ite
    | split | intro _

theorem execCqCtrl_keeps {r0 : State} (q : CqId) (ws : List QueueWrite) (s : State) (hk : Keeps r0 s) :
    KeepsR r0 (execCqCtrl q ws s) := by
  unfold execCqCtrl
  try dsimp only
  repeat' first
    | with_reducible first
      | assumption | apply applyCqWrites_keeps | apply keeps_foldl | apply keepsR_next | apply keeps_ite
       | apply keepsR_ite
    | split | intro _

theorem hqStore_keeps {r0 : State} (q : Nat) (w : Nat) (v : Word) (s : State) (hk : Keeps r0 s) :
    Keeps r0 (hqStore q w v s) := by
  unfold hqStore
  try dsimp only
  repeat' first
    | with_reducible first
      | assumption | apply cwSet_keeps | apply keeps_foldl | apply keeps_ite
    | split | intro _

theorem applyHq_keeps {r0 : State} (src : Nat) (plan : State) (q : Nat) (w : Nat) (v : Word) (s : State) (hk : Keeps r0 s) :
    KeepsE r0 (applyHq src plan q w v s) := by
  unfold applyHq
  try dsimp only
  repeat' first
    | with_reducible first
      | assumption | exact keepsE_error | apply hqStore_keeps | apply flushHost_keeps | apply hqLevel_keeps
       | apply hqPut_keeps | apply keeps_foldl | apply keepsE_ok | apply keeps_ite | apply keepsE_ite
    | split | intro _

theorem applyHqWrites_keeps {r0 : State} (q : Nat) (ws : List QueueWrite) (s : State) (hk : Keeps r0 s) :
    Keeps r0 (applyHqWrites q ws s) := by
  unfold applyHqWrites
  try dsimp only
  repeat' first
    | with_reducible first
      | assumption | exact keepsE_error | apply hqStore_keeps | apply applyHq_keeps | apply settle_keeps
       | apply keeps_foldl | apply keepsE_ok | apply keeps_ite | apply keepsE_ite
    | split | intro _

theorem execHqCfg_keeps {r0 : State} (q : HqId) (ws : List QueueWrite) (s : State) (hk : Keeps r0 s) :
    KeepsR r0 (execHqCfg q ws s) := by
  unfold execHqCfg
  try dsimp only
  repeat' first
    | with_reducible first
      | assumption | apply applyHqWrites_keeps | apply keeps_foldl | apply keepsR_next | apply keeps_ite
       | apply keepsR_ite
    | split | intro _

theorem execQueueWmWrite_keeps {r0 : State} (q : QueueRef) (w : CtlWrite) (s : State) (hk : Keeps r0 s) :
    KeepsR r0 (execQueueWmWrite q w s) := by
  unfold execQueueWmWrite
  try dsimp only
  repeat' first
    | with_reducible first
      | assumption | apply applyCqWrites_keeps | apply applyHqWrites_keeps | apply keeps_foldl | apply keepsR_next
       | apply keeps_ite | apply keepsR_ite
    | split | intro _

theorem execQueueAppend_keeps {r0 : State} (q : HqId) (item : List Word) (s : State) (hk : Keeps r0 s) :
    KeepsR r0 (execQueueAppend q item s) := by
  unfold execQueueAppend
  try dsimp only
  repeat' first
    | with_reducible first
      | assumption | apply hqAppend_keeps | apply keeps_foldl | apply keepsR_next | apply keeps_ite | apply keepsR_ite
    | split | intro _

end Sys2Proof.Machine
end

