-- ==== Sys2Proof/Laws/KeepMate.lean ====
section
/-! SUPPORT. Each operation of Machine/Mate.lean leaves the waiting commands alone and keeps canonical form. -/

set_option linter.unusedTactic false
set_option linter.unreachableTactic false

namespace Sys2Proof.Machine

open Sys2Proof.Safety

theorem mateEvt_keeps {r0 : State} (event : Nat) (detail : Nat) (element : Nat) (s : State) (hk : Keeps r0 s) :
    Keeps r0 (mateEvt event detail element s) := by
  unfold mateEvt
  try dsimp only
  repeat' first
    | with_reducible first
      | assumption | apply dueRecord_keeps | apply keeps_foldl | apply keeps_ite
    | split | intro _

theorem mateLevel_keeps {r0 : State} (s : State) (hk : Keeps r0 s) :
    Keeps r0 (mateLevel s) := by
  unfold mateLevel
  try dsimp only
  repeat' first
    | with_reducible first
      | assumption | apply putLink_keeps | apply keeps_foldl | apply keeps_ite
    | split | intro _

theorem mateAppend_keeps {r0 : State} (m : MateMsg) (s : State) (hk : Keeps r0 s) :
    Keeps r0 (mateAppend m s) := by
  unfold mateAppend
  try dsimp only
  repeat' first
    | with_reducible first
      | assumption | apply cwCount_keeps | apply cenInc_keeps | apply mateLevel_keeps | apply putLink_keeps
       | apply keeps_foldl | apply keeps_ite
    | split | intro _

theorem resync_keeps {r0 : State} (row : Nat) (s : State) (hk : Keeps r0 s) :
    Keeps r0 (resync row s) := by
  unfold resync
  try dsimp only
  repeat' first
    | with_reducible first
      | assumption | apply putRdn_keeps | apply mateAppend_keeps | apply keeps_foldl | apply keeps_ite
    | refine fun (c : Canon _) => ?_ | exact (c.sweep_ok :) | exact rfl | split | intro _

theorem linkLeave_keeps {r0 : State} (dest : Link) (detail : Nat) (s : State) (hk : Keeps r0 s) :
    Keeps r0 (linkLeave dest detail s) := by
  unfold linkLeave
  try dsimp only
  repeat' first
    | with_reducible first
      | assumption | apply mateEvt_keeps | apply putRdn_keeps | apply intSet_keeps | apply putLink_keeps
       | apply keeps_foldl | apply keeps_ite
    | refine fun (c : Canon _) => ?_ | exact (c.sweep_ok :) | exact rfl | split | intro _

theorem execPolfenLock_keeps {r0 : State} (s : State) (hk : Keeps r0 s) :
    KeepsR r0 (execPolfenLock s) := by
  unfold execPolfenLock
  try dsimp only
  repeat' first
    | with_reducible first
      | assumption | apply emit_keeps | apply putLink_keeps | apply keeps_foldl | apply keepsR_next | apply keeps_ite
       | apply keepsR_ite
    | split | intro _

theorem execPolfenLockLoss_keeps {r0 : State} (s : State) (hk : Keeps r0 s) :
    KeepsR r0 (execPolfenLockLoss s) := by
  unfold execPolfenLockLoss
  try dsimp only
  repeat' first
    | with_reducible first
      | assumption | apply linkLeave_keeps | apply cenInc_keeps | apply keeps_foldl | apply keepsR_next
       | apply keeps_ite | apply keepsR_ite
    | split | intro _

theorem execPolfenHello_keeps {r0 : State} (seat : Fin 2) (paired : Bool) (epoch : Nat) (s : State) (hk : Keeps r0 s) :
    KeepsR r0 (execPolfenHello seat paired epoch s) := by
  unfold execPolfenHello
  try dsimp only
  repeat' first
    | with_reducible first
      | assumption | apply mateEvt_keeps | apply resync_keeps | apply intSet_keeps | apply putLink_keeps
       | apply keeps_foldl | apply keepsR_next | apply keeps_ite | apply keepsR_ite
    | split | intro _

theorem execPolfenRekey_keeps {r0 : State} (epoch : Nat) (s : State) (hk : Keeps r0 s) :
    KeepsR r0 (execPolfenRekey epoch s) := by
  unfold execPolfenRekey
  try dsimp only
  repeat' first
    | with_reducible first
      | assumption | apply emit_keeps | apply putLink_keeps | apply keeps_foldl | apply keepsR_next | apply keeps_ite
       | apply keepsR_ite
    | split | intro _

theorem execPolfenHoldExpire_keeps {r0 : State} (s : State) (hk : Keeps r0 s) :
    KeepsR r0 (execPolfenHoldExpire s) := by
  unfold execPolfenHoldExpire
  try dsimp only
  repeat' first
    | with_reducible first
      | assumption | apply putLink_keeps | apply keeps_foldl | apply keepsR_next | apply keeps_ite | apply keepsR_ite
    | split | intro _

theorem tearDown_keeps {r0 : State} (s : State) (hk : Keeps r0 s) :
    Keeps r0 (tearDown s) := by
  unfold tearDown
  try dsimp only
  repeat' first
    | with_reducible first
      | assumption | apply linkLeave_keeps | apply emit_keeps | apply cenInc_keeps | apply cwCountFld_keeps
       | apply putLink_keeps | apply keeps_foldl | apply keeps_ite
    | split | intro _

theorem mateGrant_keeps {r0 : State} (crg : Nat) (s : State) (hk : Keeps r0 s) :
    Keeps r0 (mateGrant crg s) := by
  unfold mateGrant
  try dsimp only
  repeat' first
    | with_reducible first
      | assumption | apply putLink_keeps | apply keeps_foldl | apply keeps_ite
    | split | intro _

theorem frameIn_keeps {r0 : State} (f : PFrame) (s : State) (hk : Keeps r0 s) :
    Keeps r0 (frameIn f s) := by
  unfold frameIn
  try dsimp only
  repeat' first
    | with_reducible first
      | assumption | apply mateGrant_keeps | apply cwCountFld_keeps | apply putLink_keeps | apply keeps_foldl
       | apply keeps_ite
    | split | intro _

theorem execPolfenFrameRx_keeps {r0 : State} (f : PFrame) (crcOk : Bool) (tagOk : Bool) (s : State) (hk : Keeps r0 s) :
    KeepsR r0 (execPolfenFrameRx f crcOk tagOk s) := by
  unfold execPolfenFrameRx
  try dsimp only
  repeat' first
    | with_reducible first
      | assumption | apply frameIn_keeps | apply linkLeave_keeps | apply cwCountFld_keeps | apply tearDown_keeps
       | apply putLink_keeps | apply keeps_foldl | apply keepsR_next | apply keeps_ite | apply keepsR_ite
    | split | intro _

theorem execPolfenRetxTimeout_keeps {r0 : State} (s : State) (hk : Keeps r0 s) :
    KeepsR r0 (execPolfenRetxTimeout s) := by
  unfold execPolfenRetxTimeout
  try dsimp only
  repeat' first
    | with_reducible first
      | assumption | apply putLink_keeps | apply keeps_foldl | apply keepsR_next | apply keeps_ite | apply keepsR_ite
    | split | intro _

theorem sendPolfen_keeps {r0 : State} (f : PFrame) (s : State) (hk : Keeps r0 s) :
    Keeps r0 (sendPolfen f s) := by
  unfold sendPolfen
  try dsimp only
  repeat' first
    | with_reducible first
      | assumption | apply emit_keeps | apply putLink_keeps | apply keeps_foldl | apply keeps_ite
    | split | intro _

theorem execPolfenFrameTx_keeps {r0 : State} (s : State) (hk : Keeps r0 s) :
    KeepsR r0 (execPolfenFrameTx s) := by
  unfold execPolfenFrameTx
  try dsimp only
  repeat' first
    | with_reducible first
      | assumption | apply emit_keeps | apply cenInc_keeps | apply sendPolfen_keeps | apply cwCountFld_keeps
       | apply mateLevel_keeps | apply putLink_keeps | apply keeps_foldl | apply keepsR_next | apply keeps_ite
       | apply keepsR_ite
    | split | intro _

theorem takeMsg_keeps {r0 : State} (m : MateMsg) (s : State) (hk : Keeps r0 s) :
    Keeps r0 (takeMsg m s) := by
  unfold takeMsg
  try dsimp only
  repeat' first
    | with_reducible first
      | assumption | apply putLink_keeps | apply keeps_foldl | apply keeps_ite
    | split | intro _

theorem execStatusMsgRx_keeps {r0 : State} (s : State) (hk : Keeps r0 s) :
    KeepsR r0 (execStatusMsgRx s) := by
  unfold execStatusMsgRx
  try dsimp only
  repeat' first
    | with_reducible first
      | assumption | apply putRdn_keeps | apply takeMsg_keeps | apply keeps_foldl | apply keepsR_next
       | apply keeps_ite | apply keepsR_ite
    | refine fun (c : Canon _) => ?_ | exact (c.sweep_ok :) | exact rfl | split | intro _

theorem tier1In_keeps {r0 : State} (tick wrap : Word) (es : List (Nat × Word)) (s : State) (hk : Keeps r0 s) :
    Keeps r0 (tier1In tick wrap es s) := by
  have h1 : Keeps r0 (if (s.bank.valid && tick == s.bank.tick + 1) = true then s.putBank (starterStep tick wrap es s.bank)
      else s) := by
    split
    · exact putBank_keeps hk fun c => starterStep_ok c.bank_ok
    · exact hk
  unfold tier1In
  dsimp only
  generalize (if (s.bank.valid && tick == s.bank.tick + 1) = true then s.putBank (starterStep tick wrap es s.bank)
      else s) = t at h1 ⊢
  split
  · rename_i sp e
    split
    · refine putRdn_keeps h1 fun c => ?_
      have k := c.sweep_ok
      rw [e] at k
      exact starterStep_ok (st := sp) k
    · exact resync_keeps _ _ (putRdn_keeps h1 fun _ => rfl)
  · split
    · exact h1
    · exact resync_keeps _ _ h1

theorem execTier1MsgRx_keeps {r0 : State} (s : State) (hk : Keeps r0 s) :
    KeepsR r0 (execTier1MsgRx s) := by
  unfold execTier1MsgRx
  try dsimp only
  repeat' first
    | with_reducible first
      | assumption | apply tier1In_keeps | apply takeMsg_keeps | apply keeps_foldl | apply keepsR_next
       | apply keeps_ite | apply keepsR_ite
    | split | intro _

theorem execTier2MsgRx_keeps {r0 : State} (s : State) (hk : Keeps r0 s) : KeepsR r0 (execTier2MsgRx s) := by
  unfold execTier2MsgRx
  apply keepsR_next
  split
  · dsimp only
    split
    · exact putBank_keeps (takeMsg_keeps _ _ hk) fun c => applyEntries_ok c.bank_ok
    · exact takeMsg_keeps _ _ hk
  · exact hk

theorem execResyncReqRx_keeps {r0 : State} (s : State) (hk : Keeps r0 s) :
    KeepsR r0 (execResyncReqRx s) := by
  unfold execResyncReqRx
  try dsimp only
  repeat' first
    | with_reducible first
      | assumption | apply resync_keeps | apply takeMsg_keeps | apply keeps_foldl | apply keepsR_next
       | apply keeps_ite | apply keepsR_ite
    | split | intro _

theorem execSweepStart_keeps {r0 : State} (s : State) (hk : Keeps r0 s) :
    KeepsR r0 (execSweepStart s) := by
  unfold execSweepStart
  try dsimp only
  repeat' first
    | with_reducible first
      | assumption | apply mateEvt_keeps | apply putRdn_keeps | apply mateAppend_keeps | apply takeMsg_keeps
       | apply keeps_foldl | apply keepsR_next | apply keeps_ite | apply keepsR_ite
    | refine fun (c : Canon _) => ?_ | exact (c.sweep_ok :) | exact rfl | split | intro _

theorem execSweepMsgRx_keeps {r0 : State} (s : State) (hk : Keeps r0 s) : KeepsR r0 (execSweepMsgRx s) := by
  unfold execSweepMsgRx
  apply keepsR_next
  split
  · rename_i l es _ sp _ e
    refine putRdn_keeps (takeMsg_keeps _ _ hk) fun c => ?_
    have k := c.sweep_ok
    have e' : (takeMsg (MateMsg.sweep false l es) s).rdn.sweepRx = some sp := e
    rw [e'] at k
    exact applyEntries_ok (es := es) (st := sp) k
  · exact takeMsg_keeps _ _ hk
  · exact hk

theorem execSweepComplete_keeps {r0 : State} (s : State) (hk : Keeps r0 s) : KeepsR r0 (execSweepComplete s) := by
  unfold execSweepComplete
  apply keepsR_next
  split
  · rename_i l es _ sp _ e
    refine mateEvt_keeps _ _ _ _ (putRdn_keeps (putBank_keeps (takeMsg_keeps _ _ hk) fun c => ?_) fun _ => rfl)
    have k := c.sweep_ok
    have e' : (takeMsg (MateMsg.sweep true l es) s).rdn.sweepRx = some sp := e
    rw [e'] at k
    exact applyEntries_ok (es := es) (st := sp) k
  · exact takeMsg_keeps _ _ hk
  · exact hk

theorem execMateMsgRx_keeps {r0 : State} (s : State) (hk : Keeps r0 s) :
    KeepsR r0 (execMateMsgRx s) := by
  unfold execMateMsgRx
  try dsimp only
  repeat' first
    | with_reducible first
      | assumption | apply takeMsg_keeps | apply keeps_foldl | apply keepsR_next | apply keeps_ite | apply keepsR_ite
    | split | intro _

theorem applyMateCtrl_keeps {r0 : State} (v : Word) (s : State) (hk : Keeps r0 s) :
    KeepsE r0 (applyMateCtrl v s) := by
  unfold applyMateCtrl
  try dsimp only
  repeat' first
    | with_reducible first
      | assumption | exact keepsE_error | apply mateEvt_keeps | apply resync_keeps | apply linkLeave_keeps
       | apply putRdn_keeps | apply cwSet_keeps | apply putLink_keeps | apply keeps_foldl | apply keepsE_ok
       | apply keeps_ite | apply keepsE_ite
    | refine fun (c : Canon _) => ?_ | exact (c.sweep_ok :) | exact rfl | split | intro _

theorem mateWrite_keeps {r0 : State} (w : CtlWrite) (v : Word) (s : State) (hk : Keeps r0 s) :
    KeepsR r0 (mateWrite w v s) := by
  unfold mateWrite
  try dsimp only
  repeat' first
    | with_reducible first
      | assumption | exact keepsE_error | apply applyMateCtrl_keeps | apply settle_keeps | apply keeps_foldl
       | apply keepsR_next | apply keepsE_ok | apply keeps_ite | apply keepsE_ite | apply keepsR_ite
    | split | intro _

theorem execMateLinkEn_keeps {r0 : State} (w : CtlWrite) (s : State) (hk : Keeps r0 s) :
    KeepsR r0 (execMateLinkEn w s) := by
  unfold execMateLinkEn
  try dsimp only
  repeat' first
    | with_reducible first
      | assumption | apply mateWrite_keeps | apply keeps_foldl | apply keepsR_next | apply keeps_ite
       | apply keepsR_ite
    | split | intro _

theorem execMateRestart_keeps {r0 : State} (w : CtlWrite) (s : State) (hk : Keeps r0 s) :
    KeepsR r0 (execMateRestart w s) := by
  unfold execMateRestart
  try dsimp only
  repeat' first
    | with_reducible first
      | assumption | apply mateWrite_keeps | apply keeps_foldl | apply keepsR_next | apply keeps_ite
       | apply keepsR_ite
    | split | intro _

theorem execMateResync_keeps {r0 : State} (w : CtlWrite) (s : State) (hk : Keeps r0 s) :
    KeepsR r0 (execMateResync w s) := by
  unfold execMateResync
  try dsimp only
  repeat' first
    | with_reducible first
      | assumption | apply mateWrite_keeps | apply keeps_foldl | apply keepsR_next | apply keeps_ite
       | apply keepsR_ite
    | split | intro _

theorem execMateYield_keeps {r0 : State} (w : CtlWrite) (s : State) (hk : Keeps r0 s) :
    KeepsR r0 (execMateYield w s) := by
  unfold execMateYield
  try dsimp only
  repeat' first
    | with_reducible first
      | assumption | apply mateWrite_keeps | apply keeps_foldl | apply keepsR_next | apply keeps_ite
       | apply keepsR_ite
    | split | intro _

theorem execMateConfirm_keeps {r0 : State} (w : CtlWrite) (s : State) (hk : Keeps r0 s) :
    KeepsR r0 (execMateConfirm w s) := by
  unfold execMateConfirm
  try dsimp only
  repeat' first
    | with_reducible first
      | assumption | apply mateWrite_keeps | apply keeps_foldl | apply keepsR_next | apply keeps_ite
       | apply keepsR_ite
    | split | intro _

theorem execMateCntClr_keeps {r0 : State} (s : State) (hk : Keeps r0 s) :
    KeepsR r0 (execMateCntClr s) := by
  unfold execMateCntClr
  try dsimp only
  repeat' first
    | with_reducible first
      | assumption | apply cwSet_keeps | apply keeps_foldl | apply keepsR_next | apply keeps_ite | apply keepsR_ite
    | split | intro _

theorem flushMate_keeps {r0 : State} (src : Nat) (s : State) (hk : Keeps r0 s) :
    Keeps r0 (flushMate src s) := by
  unfold flushMate
  try dsimp only
  repeat' first
    | with_reducible first
      | assumption | apply resync_keeps | apply flushRecord_keeps | apply mateLevel_keeps | apply putLink_keeps
       | apply keeps_foldl | apply keeps_ite
    | split | intro _

theorem execMateQueueFlush_keeps {r0 : State} (o : Origin) (s : State) (hk : Keeps r0 s) :
    KeepsR r0 (execMateQueueFlush o s) := by
  unfold execMateQueueFlush
  try dsimp only
  repeat' first
    | with_reducible first
      | assumption | exact keepsE_error | apply settle_keeps | apply flushMate_keeps | apply keeps_foldl
       | apply keepsR_next | apply keepsE_ok | apply keeps_ite | apply keepsE_ite | apply keepsR_ite
    | split | intro _

theorem applyMateWm_keeps {r0 : State} (v : Word) (s : State) (hk : Keeps r0 s) :
    KeepsE r0 (applyMateWm v s) := by
  unfold applyMateWm
  try dsimp only
  repeat' first
    | with_reducible first
      | assumption | exact keepsE_error | apply mateLevel_keeps | apply cwSet_keeps | apply keeps_foldl
       | apply keepsE_ok | apply keeps_ite | apply keepsE_ite
    | split | intro _

end Sys2Proof.Machine
end

