-- ==== Sys2Proof/Laws/KeepProof.lean ====
section
/-! SUPPORT. Each operation of Machine/Proof.lean leaves the waiting commands alone and keeps canonical form. -/

set_option linter.unusedTactic false
set_option linter.unreachableTactic false

namespace Sys2Proof.Machine

open Sys2Proof.Safety

theorem ringPut_keeps {r0 : State} (r : Nat) (k : Ring) (s : State) (hk : Keeps r0 s) :
    Keeps r0 (ringPut r k s) := by
  unfold ringPut
  try dsimp only
  repeat' first
    | with_reducible first
      | assumption | apply putPrfRings_keeps | apply keeps_foldl | apply keeps_ite | apply tabSet_ok
       | apply tabSet_ok' | apply tabFilter_ok | apply tabMap_ok | apply tabDrop_ok | exact tabNil_ok
    | refine fun (c : Canon _) => ?_ | exact (c.prfRings_ok :) | split | intro _

theorem hlPut_keeps {r0 : State} (p : Nat) (h : Hl) (s : State) (hk : Keeps r0 s) :
    Keeps r0 (hlPut p h s) := by
  unfold hlPut
  try dsimp only
  repeat' first
    | with_reducible first
      | assumption | apply putHls_keeps | apply keeps_foldl | apply keeps_ite | apply tabSet_ok | apply tabSet_ok'
       | apply tabFilter_ok | apply tabMap_ok | apply tabDrop_ok | exact tabNil_ok
    | refine fun (c : Canon _) => ?_ | exact (c.hls_ok :) | split | intro _

theorem allocRings_keeps {r0 : State} (rs : List Nat) (rate : Nat) (pages : Nat) (s : State) (hk : Keeps r0 s) :
    Keeps r0 (allocRings rs rate pages s) := by
  unfold allocRings
  try dsimp only
  repeat' first
    | with_reducible first
      | assumption | apply ringPut_keeps | apply keeps_foldl | apply keeps_ite
    | split | intro _

theorem freeRingsOf_keeps {r0 : State} (rs : List Nat) (s : State) (hk : Keeps r0 s) :
    Keeps r0 (freeRingsOf rs s) := by
  unfold freeRingsOf
  try dsimp only
  repeat' first
    | with_reducible first
      | assumption | apply ringPut_keeps | apply keeps_foldl | apply keeps_ite
    | split | intro _

theorem releaseFreed_keeps {r0 : State} (s : State) (hk : Keeps r0 s) :
    Keeps r0 (releaseFreed s) := by
  unfold releaseFreed
  try dsimp only
  repeat' first
    | with_reducible first
      | assumption | apply putPrfRings_keeps | apply keeps_foldl | apply keeps_ite | apply tabSet_ok
       | apply tabSet_ok' | apply tabFilter_ok | apply tabMap_ok | apply tabDrop_ok | exact tabNil_ok
    | refine fun (c : Canon _) => ?_ | exact (c.prfRings_ok :) | split | intro _

theorem applyPrfCtrl_keeps {r0 : State} (d : Nat) (v : Word) (s : State) (hk : Keeps r0 s) :
    KeepsE r0 (applyPrfCtrl d v s) := by
  unfold applyPrfCtrl
  try dsimp only
  repeat' first
    | with_reducible first
      | assumption | exact keepsE_error | apply cwSet_keeps | apply keeps_foldl | apply keepsE_ok | apply keeps_ite
       | apply keepsE_ite
    | split | intro _

theorem execPrfCtrl_keeps {r0 : State} (d : DieId) (w : CtlWrite) (s : State) (hk : Keeps r0 s) :
    KeepsR r0 (execPrfCtrl d w s) := by
  unfold execPrfCtrl
  try dsimp only
  repeat' first
    | with_reducible first
      | assumption | exact keepsE_error | apply settle_keeps | apply applyPrfCtrl_keeps | apply keeps_foldl
       | apply keepsR_next | apply keepsE_ok | apply keeps_ite | apply keepsE_ite | apply keepsR_ite
    | split | intro _

theorem execRingStart_keeps {r0 : State} (r : RingId) (s : State) (hk : Keeps r0 s) :
    KeepsR r0 (execRingStart r s) := by
  unfold execRingStart
  try dsimp only
  repeat' first
    | with_reducible first
      | assumption | apply ringPut_keeps | apply keeps_foldl | apply keepsR_next | apply keeps_ite | apply keepsR_ite
    | split | intro _

theorem compareMapped_keeps {r0 : State} (p : Nat) (r : Nat) (s : State) (hk : Keeps r0 s) :
    Keeps r0 (compareMapped p r s) := by
  unfold compareMapped
  try dsimp only
  repeat' first
    | with_reducible first
      | assumption | apply hlPut_keeps | apply keeps_foldl | apply keeps_ite
    | split | intro _

theorem ringFrame_keeps {r0 : State} (r : Nat) (lines : Nat) (mf : Nat) (fp : Nat) (defect : Bool) (bip : Bool)
    (s : State) (hk : Keeps r0 s) :
    Keeps r0 (ringFrame r lines mf fp defect bip s) := by
  unfold ringFrame
  try dsimp only
  repeat' first
    | with_reducible first
      | assumption | apply compareMapped_keeps | apply ringPut_keeps | apply keeps_foldl | apply keeps_ite
    | split | intro _

theorem execRingLineRead_keeps {r0 : State} (r : RingId) (ecc : Bool) (crc : Bool) (partnerOk : Bool) (s : State)
    (hk : Keeps r0 s) :
    KeepsR r0 (execRingLineRead r ecc crc partnerOk s) := by
  unfold execRingLineRead
  try dsimp only
  repeat' first
    | with_reducible first
      | assumption | apply putFirstRing_keeps | apply putSubsts_keeps | apply putUnverified_keeps | apply keeps_foldl
       | apply keepsR_next | apply keeps_ite | apply keepsR_ite | apply tabSet_ok | apply tabSet_ok'
       | apply tabFilter_ok | apply tabMap_ok | apply tabDrop_ok | exact tabNil_ok
    | refine fun (c : Canon _) => ?_ | exact (c.substs_ok :) | exact (c.unverified_ok :) | exact (c.firstRing_ok :)
    | split | intro _

theorem integRecord_keeps {r0 : State} (d : Nat) (s : State) (hk : Keeps r0 s) :
    Keeps r0 (integRecord d s) := by
  unfold integRecord
  try dsimp only
  repeat' first
    | with_reducible first
      | assumption | apply record_keeps | apply keeps_foldl | apply keeps_ite
    | split | intro _

theorem hlRefresh_keeps {r0 : State} (p : Nat) (s : State) (hk : Keeps r0 s) :
    Keeps r0 (hlRefresh p s) := by
  unfold hlRefresh
  try dsimp only
  repeat' first
    | with_reducible first
      | assumption | apply hlPut_keeps | apply dueRecord_keeps | apply keeps_foldl | apply keeps_ite
    | split | intro _

theorem proofHit_keeps {r0 : State} (d : Nat) (owner : Nat) (kind : Nat) (frames : Nat) (s : State) (hk : Keeps r0 s) :
    Keeps r0 (proofHit d owner kind frames s) := by
  unfold proofHit
  try dsimp only
  repeat' first
    | with_reducible first
      | assumption | apply dueRecord_keeps | apply keeps_foldl | apply keeps_ite
    | split | intro _

theorem shiftReader_keeps {r0 : State} (p : Nat) (ns : Int) (s : State) (hk : Keeps r0 s) :
    Keeps r0 (shiftReader p ns s) := by
  unfold shiftReader
  try dsimp only
  repeat' first
    | with_reducible first
      | assumption | apply hlPut_keeps | apply keeps_foldl | apply keeps_ite
    | split | intro _

theorem placeReader_keeps {r0 : State} (p : Nat) (counted : Bool) (s : State) (hk : Keeps r0 s) :
    Keeps r0 (placeReader p counted s) := by
  unfold placeReader
  try dsimp only
  repeat' first
    | with_reducible first
      | assumption | apply hlPut_keeps | apply shiftReader_keeps | apply proofHit_keeps | apply hlRefresh_keeps
       | apply keeps_foldl | apply keeps_ite
    | split | intro _

theorem applyHl_keeps {r0 : State} (before : State) (plan : State) (p : Nat) (w : Nat) (v : Word) (s : State) (hk : Keeps r0 s) :
    KeepsE r0 (applyHl before plan p w v s) := by
  unfold applyHl
  try dsimp only
  repeat' first
    | with_reducible first
      | assumption | exact keepsE_error | apply allocRings_keeps | apply hlPut_keeps | apply hlRefresh_keeps
       | apply cwSet_keeps | apply freeRingsOf_keeps | apply keeps_foldl | apply keepsE_ok | apply keeps_ite
       | apply keepsE_ite
    | split | intro _

theorem applyHlWrites_keeps {r0 : State} (p : Nat) (ws : List HlWrite) (s : State) (hk : Keeps r0 s) :
    Keeps r0 (applyHlWrites p ws s) := by
  unfold applyHlWrites
  try dsimp only
  repeat' first
    | with_reducible first
      | assumption | exact keepsE_error | apply settle_keeps | apply applyHl_keeps | apply cwSet_keeps
       | apply keeps_foldl | apply keepsE_ok | apply keeps_ite | apply keepsE_ite
    | split | intro _

theorem execHlCfg_keeps {r0 : State} (p : PairId) (ws : List HlWrite) (s : State) (hk : Keeps r0 s) :
    KeepsR r0 (execHlCfg p ws s) := by
  unfold execHlCfg
  try dsimp only
  repeat' first
    | with_reducible first
      | assumption | apply applyHlWrites_keeps | apply keeps_foldl | apply keepsR_next | apply keeps_ite
       | apply keepsR_ite
    | split | intro _

theorem execHlRecentre_keeps {r0 : State} (p : PairId) (step : RecentreStep) (s : State) (hk : Keeps r0 s) :
    KeepsR r0 (execHlRecentre p step s) := by
  unfold execHlRecentre
  try dsimp only
  repeat' first
    | with_reducible first
      | assumption | exact keepsE_error | apply settle_keeps | apply placeReader_keeps | apply applyHl_keeps
       | apply keeps_foldl | apply keepsR_next | apply keepsE_ok | apply keeps_ite | apply keepsE_ite
       | apply keepsR_ite
    | split | intro _

theorem execHlCntClr_keeps {r0 : State} (p : PairId) (s : State) (hk : Keeps r0 s) :
    KeepsR r0 (execHlCntClr p s) := by
  unfold execHlCntClr
  try dsimp only
  repeat' first
    | with_reducible first
      | assumption | apply hlPut_keeps | apply keeps_foldl | apply keepsR_next | apply keeps_ite | apply keepsR_ite
    | split | intro _

theorem execRingBreak_keeps {r0 : State} (r : RingId) (s : State) (hk : Keeps r0 s) :
    KeepsR r0 (execRingBreak r s) := by
  unfold execRingBreak
  try dsimp only
  repeat' first
    | with_reducible first
      | assumption | apply hlPut_keeps | apply hlRefresh_keeps | apply ringPut_keeps | apply keeps_foldl
       | apply keepsR_next | apply keeps_ite | apply keepsR_ite
    | split | intro _

theorem execHlAlignAttempt_keeps {r0 : State} (p : PairId) (s : State) (hk : Keeps r0 s) :
    KeepsR r0 (execHlAlignAttempt p s) := by
  unfold execHlAlignAttempt
  try dsimp only
  repeat' first
    | with_reducible first
      | assumption | apply hlPut_keeps | apply hlRefresh_keeps | apply keeps_foldl | apply keepsR_next
       | apply keeps_ite | apply keepsR_ite
    | split | intro _

theorem execHlSearchRange_keeps {r0 : State} (p : PairId) (s : State) (hk : Keeps r0 s) :
    KeepsR r0 (execHlSearchRange p s) := by
  unfold execHlSearchRange
  try dsimp only
  repeat' first
    | with_reducible first
      | assumption | apply hlPut_keeps | apply hlRefresh_keeps | apply keeps_foldl | apply keepsR_next
       | apply keeps_ite | apply keepsR_ite
    | split | intro _

theorem execHlAlignConfirm_keeps {r0 : State} (p : PairId) (s : State) (hk : Keeps r0 s) :
    KeepsR r0 (execHlAlignConfirm p s) := by
  unfold execHlAlignConfirm
  try dsimp only
  repeat' first
    | with_reducible first
      | assumption | apply hlPut_keeps | apply hlRefresh_keeps | apply placeReader_keeps | apply keeps_foldl
       | apply keepsR_next | apply keeps_ite | apply keepsR_ite
    | split | intro _

theorem execHlMisalign_keeps {r0 : State} (p : PairId) (s : State) (hk : Keeps r0 s) :
    KeepsR r0 (execHlMisalign p s) := by
  unfold execHlMisalign
  try dsimp only
  repeat' first
    | with_reducible first
      | assumption | apply hlPut_keeps | apply hlRefresh_keeps | apply keeps_foldl | apply keepsR_next
       | apply keeps_ite | apply keepsR_ite
    | split | intro _

theorem execHlSlackEval_keeps {r0 : State} (p : PairId) (lateW : Int) (earlyW : Int) (lateP : Int) (earlyP : Int)
    (s : State) (hk : Keeps r0 s) :
    KeepsR r0 (execHlSlackEval p lateW earlyW lateP earlyP s) := by
  unfold execHlSlackEval
  try dsimp only
  repeat' first
    | with_reducible first
      | assumption | apply hlPut_keeps | apply hlRefresh_keeps | apply keeps_foldl | apply keepsR_next
       | apply keeps_ite | apply keepsR_ite
    | split | intro _

theorem hlSwitch_keeps {r0 : State} (p : Nat) (stateBefore : Nat) (lateBefore : Int) (s : State) (hk : Keeps r0 s) :
    Keeps r0 (hlSwitch p stateBefore lateBefore s) := by
  unfold hlSwitch
  try dsimp only
  repeat' first
    | with_reducible first
      | assumption | apply hlPut_keeps | apply shiftReader_keeps | apply proofHit_keeps | apply hlRefresh_keeps
       | apply keeps_foldl | apply keeps_ite
    | split | intro _

end Sys2Proof.Machine
end

