-- ==== Sys2Proof/Laws/KeepGroups.lean ====
section
/-! SUPPORT. Each operation of Machine/Groups.lean leaves the waiting commands alone and keeps canonical form. -/

set_option linter.unusedTactic false
set_option linter.unreachableTactic false

namespace Sys2Proof.Machine

open Sys2Proof.Safety

theorem grpPut_keeps {r0 : State} (d : Nat) (g : Nat) (k : Group) (s : State) (hk : Keeps r0 s) :
    Keeps r0 (grpPut d g k s) := by
  unfold grpPut
  try dsimp only
  repeat' first
    | with_reducible first
      | assumption | apply putGroups_keeps | apply keeps_foldl | apply keeps_ite | apply tabSet_ok | apply tabSet_ok'
       | apply tabFilter_ok | apply tabMap_ok | apply tabDrop_ok | exact tabNil_ok
    | refine fun (c : Canon _) => ?_ | exact (c.groups_ok :) | split | intro _

theorem applyGrp_keeps {r0 : State} (d : Nat) (g : Nat) (v : Word) (s : State) (hk : Keeps r0 s) :
    KeepsE r0 (applyGrp d g v s) := by
  unfold applyGrp
  try dsimp only
  repeat' first
    | with_reducible first
      | assumption | exact keepsE_error | apply grpPut_keeps | apply allocRings_keeps | apply cwSet_keeps
       | apply freeRingsOf_keeps | apply keeps_foldl | apply keepsE_ok | apply keeps_ite | apply keepsE_ite
    | split | intro _

theorem execGrpCfg_keeps {r0 : State} (d : DieId) (g : GroupId) (w : CtlWrite) (s : State) (hk : Keeps r0 s) :
    KeepsR r0 (execGrpCfg d g w s) := by
  unfold execGrpCfg
  try dsimp only
  repeat' first
    | with_reducible first
      | assumption | exact keepsE_error | apply settle_keeps | apply applyGrp_keeps | apply keeps_foldl
       | apply keepsR_next | apply keepsE_ok | apply keeps_ite | apply keepsE_ite | apply keepsR_ite
    | split | intro _

theorem execMlomDeclare_keeps {r0 : State} (c : CtxId) (s : State) (hk : Keeps r0 s) :
    KeepsR r0 (execMlomDeclare c s) := by
  unfold execMlomDeclare
  try dsimp only
  repeat' first
    | with_reducible first
      | assumption | apply monPut_keeps | apply keeps_foldl | apply keepsR_next | apply keeps_ite | apply keepsR_ite
    | split | intro _

theorem execMlomClear_keeps {r0 : State} (c : CtxId) (s : State) (hk : Keeps r0 s) :
    KeepsR r0 (execMlomClear c s) := by
  unfold execMlomClear
  try dsimp only
  repeat' first
    | with_reducible first
      | assumption | apply monPut_keeps | apply keeps_foldl | apply keepsR_next | apply keeps_ite | apply keepsR_ite
    | split | intro _

theorem execGroupReaderPlace_keeps {r0 : State} (d : DieId) (g : GroupId) (s : State) (hk : Keeps r0 s) :
    KeepsR r0 (execGroupReaderPlace d g s) := by
  unfold execGroupReaderPlace
  try dsimp only
  repeat' first
    | with_reducible first
      | assumption | apply grpPut_keeps | apply keeps_foldl | apply keepsR_next | apply keeps_ite | apply keepsR_ite
    | split | intro _

theorem execGroupRetime_keeps {r0 : State} (d : DieId) (g : GroupId) (s : State) (hk : Keeps r0 s) :
    KeepsR r0 (execGroupRetime d g s) := by
  unfold execGroupRetime
  try dsimp only
  repeat' first
    | with_reducible first
      | assumption | apply grpPut_keeps | apply proofHit_keeps | apply keeps_foldl | apply keepsR_next
       | apply keeps_ite | apply keepsR_ite
    | split | intro _

theorem execLoaChange_keeps {r0 : State} (d : DieId) (g : GroupId) (s : State) (hk : Keeps r0 s) :
    KeepsR r0 (execLoaChange d g s) := by
  unfold execLoaChange
  try dsimp only
  repeat' first
    | with_reducible first
      | assumption | apply grpPut_keeps | apply dueRecord_keeps | apply keeps_foldl | apply keepsR_next
       | apply keeps_ite | apply keepsR_ite
    | split | intro _

theorem execLcasPacketRx_keeps {r0 : State} (c : CtxId) (crcOk : Bool) (ctrl : Fin 16) (sq : Fin 256) (rsAck : Bool)
    (mst : Option (Fin 8 × BitVec 32)) (s : State) (hk : Keeps r0 s) :
    KeepsR r0 (execLcasPacketRx c crcOk ctrl sq rsAck mst s) := by
  unfold execLcasPacketRx
  try dsimp only
  repeat' first
    | with_reducible first
      | assumption | apply monPut_keeps | apply ohSet_keeps | apply keeps_foldl | apply keepsR_next | apply keeps_ite
       | apply keepsR_ite
    | split | intro _

theorem execLcasPayloadChange_keeps {r0 : State} (d : DieId) (g : GroupId) (s : State) (hk : Keeps r0 s) :
    KeepsR r0 (execLcasPayloadChange d g s) := by
  unfold execLcasPayloadChange
  try dsimp only
  repeat' first
    | with_reducible first
      | assumption | apply monPut_keeps | apply keeps_foldl | apply keepsR_next | apply keeps_ite | apply keepsR_ite
    | split | intro _

theorem execLcasTxChange_keeps {r0 : State} (c : CtxId) (s : State) (hk : Keeps r0 s) :
    KeepsR r0 (execLcasTxChange c s) := by
  unfold execLcasTxChange
  try dsimp only
  repeat' first
    | with_reducible first
      | assumption | apply monPut_keeps | apply keeps_foldl | apply keepsR_next | apply keeps_ite | apply keepsR_ite
    | split | intro _

end Sys2Proof.Machine
end

