-- ==== Sys2Proof/Laws/KeepResize.lean ====
section
/-! SUPPORT. Each operation of Machine/Resize.lean leaves the waiting commands alone and keeps canonical form. -/

set_option linter.unusedTactic false
set_option linter.unreachableTactic false

namespace Sys2Proof.Machine

open Sys2Proof.Safety

theorem hitlessMove_keeps {r0 : State} (d : Nat) (p : Nat) (s : State) (hk : Keeps r0 s) :
    Keeps r0 (hitlessMove d p s) := by
  unfold hitlessMove
  try dsimp only
  repeat' first
    | with_reducible first
      | assumption | apply shiftReader_keeps | apply proofHit_keeps | apply hlRefresh_keeps | apply keeps_foldl
       | apply keeps_ite
    | split | intro _

theorem changeOutputs_keeps {r0 : State} (d : Nat) (c : Nat) (us : Nat) (s : State) (hk : Keeps r0 s) :
    Keeps r0 (changeOutputs d c us s) := by
  unfold changeOutputs
  try dsimp only
  repeat' first
    | with_reducible first
      | assumption | apply changeOnce_keeps | apply hitlessMove_keeps | apply keeps_foldl | apply keeps_ite
    | split | intro _

theorem execDeckOutputChange_keeps {r0 : State} (d : DieId) (c : CarrierRef) (us : Nat) (s : State) (hk : Keeps r0 s) :
    KeepsR r0 (execDeckOutputChange d c us s) := by
  unfold execDeckOutputChange
  try dsimp only
  repeat' first
    | with_reducible first
      | assumption | apply changeOutputs_keeps | apply keeps_foldl | apply keepsR_next | apply keeps_ite
       | apply keepsR_ite
    | split | intro _

theorem execDeckSwapTimeout_keeps {r0 : State} (d : DieId) (s : State) (hk : Keeps r0 s) :
    KeepsR r0 (execDeckSwapTimeout d s) := by
  unfold execDeckSwapTimeout
  try dsimp only
  repeat' first
    | with_reducible first
      | assumption | apply changeOutputs_keeps | apply keeps_foldl | apply keepsR_next | apply keeps_ite
       | apply keepsR_ite
    | split | intro _

theorem rszStart_keeps {r0 : State} (k : Nat) (s : State) (hk : Keeps r0 s) :
    Keeps r0 (rszStart k s) := by
  unfold rszStart
  try dsimp only
  repeat' first
    | with_reducible first
      | assumption | apply rszPut_keeps | apply keeps_foldl | apply keeps_ite
    | split | intro _

theorem rszAbort_keeps {r0 : State} (k : Nat) (s : State) (hk : Keeps r0 s) :
    Keeps r0 (rszAbort k s) := by
  unfold rszAbort
  try dsimp only
  repeat' first
    | with_reducible first
      | assumption | apply rszRecord_keeps | apply rszPut_keeps | apply keeps_foldl | apply keeps_ite
    | split | intro _

theorem applyRszCfg_keeps {r0 : State} (k : Nat) (v : Word) (s : State) (hk : Keeps r0 s) :
    KeepsE r0 (applyRszCfg k v s) := by
  unfold applyRszCfg
  try dsimp only
  repeat' first
    | with_reducible first
      | assumption | exact keepsE_error | apply rszAbort_keeps | apply rszPut_keeps | apply rszStart_keeps
       | apply cwSet_keeps | apply keeps_foldl | apply keepsE_ok | apply keeps_ite | apply keepsE_ite
    | split | intro _

theorem applyRszRun_keeps {r0 : State} (k : Nat) (v : Word) (s : State) (hk : Keeps r0 s) :
    KeepsE r0 (applyRszRun k v s) := by
  unfold applyRszRun
  try dsimp only
  repeat' first
    | with_reducible first
      | assumption | exact keepsE_error | apply cwSet_keeps | apply keeps_foldl | apply keepsE_ok | apply keeps_ite
       | apply keepsE_ite
    | split | intro _

theorem rszWrite_keeps {r0 : State} (d : DieId) (c : Fin 32) (w : CtlWrite) (v : Word) (s : State) (hk : Keeps r0 s) :
    KeepsR r0 (rszWrite d c w v s) := by
  unfold rszWrite
  try dsimp only
  repeat' first
    | with_reducible first
      | assumption | exact keepsE_error | apply settle_keeps | apply applyRszCfg_keeps | apply keeps_foldl
       | apply keepsR_next | apply keepsE_ok | apply keeps_ite | apply keepsE_ite | apply keepsR_ite
    | split | intro _

theorem execRszGo_keeps {r0 : State} (d : DieId) (c : Fin 32) (w : CtlWrite) (s : State) (hk : Keeps r0 s) :
    KeepsR r0 (execRszGo d c w s) := by
  unfold execRszGo
  try dsimp only
  repeat' first
    | with_reducible first
      | assumption | apply rszWrite_keeps | apply keeps_foldl | apply keepsR_next | apply keeps_ite | apply keepsR_ite
    | split | intro _

theorem execRszAbortCmd_keeps {r0 : State} (d : DieId) (c : Fin 32) (w : CtlWrite) (s : State) (hk : Keeps r0 s) :
    KeepsR r0 (execRszAbortCmd d c w s) := by
  unfold execRszAbortCmd
  try dsimp only
  repeat' first
    | with_reducible first
      | assumption | apply rszWrite_keeps | apply keeps_foldl | apply keepsR_next | apply keeps_ite | apply keepsR_ite
    | split | intro _

theorem execRszCfgDisable_keeps {r0 : State} (d : DieId) (c : Fin 32) (w : CtlWrite) (s : State) (hk : Keeps r0 s) :
    KeepsR r0 (execRszCfgDisable d c w s) := by
  unfold execRszCfgDisable
  try dsimp only
  repeat' first
    | with_reducible first
      | assumption | apply rszWrite_keeps | apply keeps_foldl | apply keepsR_next | apply keeps_ite | apply keepsR_ite
    | split | intro _

theorem execRszHandshakeAck_keeps {r0 : State} (d : DieId) (c : Fin 32) (s : State) (hk : Keeps r0 s) :
    KeepsR r0 (execRszHandshakeAck d c s) := by
  unfold execRszHandshakeAck
  try dsimp only
  repeat' first
    | with_reducible first
      | assumption | apply rszPut_keeps | apply keeps_foldl | apply keepsR_next | apply keeps_ite | apply keepsR_ite
    | split | intro _

theorem execRszHandshakeTimeout_keeps {r0 : State} (d : DieId) (c : Fin 32) (s : State) (hk : Keeps r0 s) :
    KeepsR r0 (execRszHandshakeTimeout d c s) := by
  unfold execRszHandshakeTimeout
  try dsimp only
  repeat' first
    | with_reducible first
      | assumption | apply rszAbort_keeps | apply keeps_foldl | apply keepsR_next | apply keeps_ite | apply keepsR_ite
    | split | intro _

theorem execRszRampEnd_keeps {r0 : State} (d : DieId) (c : Fin 32) (s : State) (hk : Keeps r0 s) :
    KeepsR r0 (execRszRampEnd d c s) := by
  unfold execRszRampEnd
  try dsimp only
  repeat' first
    | with_reducible first
      | assumption | apply rszDone_keeps | apply keeps_foldl | apply keepsR_next | apply keeps_ite | apply keepsR_ite
    | split | intro _

theorem rszArmDie_keeps {r0 : State} (d : Nat) (s : State) (hk : Keeps r0 s) :
    Keeps r0 (rszArmDie d s) := by
  unfold rszArmDie
  try dsimp only
  repeat' first
    | with_reducible first
      | assumption | apply rszPut_keeps | apply armSwap_keeps | apply keeps_foldl | apply keeps_ite
    | split | intro _

theorem rszRetry_keeps {r0 : State} (s : State) (hk : Keeps r0 s) :
    Keeps r0 (rszRetry s) := by
  unfold rszRetry
  try dsimp only
  repeat' first
    | with_reducible first
      | assumption | apply rszPut_keeps | apply keeps_foldl | apply keeps_ite
    | split | intro _

end Sys2Proof.Machine
end

