-- ==== Sys2Proof/Laws/KeepStarters.lean ====
section
/-! SUPPORT. Each operation of Machine/Starters.lean leaves the waiting commands alone and keeps canonical form. -/

set_option linter.unusedTactic false
set_option linter.unreachableTactic false

namespace Sys2Proof.Machine

open Sys2Proof.Safety

theorem sampleCtx_keeps {r0 : State} (id : Nat) (s : State) (hk : Keeps r0 s) :
    Keeps r0 (sampleCtx id s) := by
  unfold sampleCtx
  try dsimp only
  repeat' first
    | with_reducible first
      | assumption | apply monPut_keeps | apply dueRecord_keeps | apply keeps_foldl | apply keeps_ite
    | split | intro _

theorem sampleAll_keeps {r0 : State} (s : State) (hk : Keeps r0 s) :
    Keeps r0 (sampleAll s) := by
  unfold sampleAll
  try dsimp only
  repeat' first
    | with_reducible first
      | assumption | apply sampleCtx_keeps | apply settleDefs_keeps | apply keeps_foldl | apply keeps_ite
    | split | intro _

theorem restartLanes_keeps {r0 : State} (s : State) (hk : Keeps r0 s) :
    Keeps r0 (restartLanes s) := by
  unfold restartLanes
  try dsimp only
  repeat' first
    | with_reducible first
      | assumption | apply startLane_keeps | apply stopLane_keeps | apply keeps_foldl | apply keeps_ite
    | split | intro _

theorem restartStreams_keeps {r0 : State} (s : State) (hk : Keeps r0 s) :
    Keeps r0 (restartStreams s) := by
  unfold restartStreams
  try dsimp only
  repeat' first
    | with_reducible first
      | assumption | apply restartStream_keeps | apply keeps_foldl | apply keeps_ite
    | split | intro _

theorem allotPair_keeps {r0 : State} (p : Nat) (s : State) (hk : Keeps r0 s) :
    Keeps r0 (allotPair p s) := by
  unfold allotPair
  try dsimp only
  repeat' first
    | with_reducible first
      | assumption | apply allocRings_keeps | apply hlPut_keeps | apply hlRefresh_keeps | apply keeps_foldl
       | apply keeps_ite
    | split | intro _

theorem allotGroup_keeps {r0 : State} (d : Nat) (g : Nat) (s : State) (hk : Keeps r0 s) :
    Keeps r0 (allotGroup d g s) := by
  unfold allotGroup
  try dsimp only
  repeat' first
    | with_reducible first
      | assumption | apply grpPut_keeps | apply allocRings_keeps | apply keeps_foldl | apply keeps_ite
    | split | intro _

theorem allotRings_keeps {r0 : State} (s : State) (hk : Keeps r0 s) :
    Keeps r0 (allotRings s) := by
  unfold allotRings
  try dsimp only
  repeat' first
    | with_reducible first
      | assumption | apply allotPair_keeps | apply putGroups_keeps | apply putHls_keeps | apply allotGroup_keeps
       | apply putPrfRings_keeps | apply keeps_foldl | apply keeps_ite | apply tabSet_ok | apply tabSet_ok'
       | apply tabFilter_ok | apply tabMap_ok | apply tabDrop_ok | exact tabNil_ok
    | refine fun (c : Canon _) => ?_ | exact (c.prfRings_ok :) | exact (c.hls_ok :) | exact (c.groups_ok :) | split
    | intro _

theorem holdPairs_keeps {r0 : State} (s : State) (hk : Keeps r0 s) :
    Keeps r0 (holdPairs s) := by
  unfold holdPairs
  try dsimp only
  repeat' first
    | with_reducible first
      | assumption | apply prtPut_keeps | apply keeps_foldl | apply keeps_ite
    | split | intro _

theorem resumeRsz_keeps {r0 : State} (st : Starter) (k : Nat) (s : State) (hk : Keeps r0 s) :
    Keeps r0 (resumeRsz st k s) := by
  unfold resumeRsz
  try dsimp only
  repeat' first
    | with_reducible first
      | assumption | apply rszAbort_keeps | apply rszPut_keeps | apply keeps_foldl | apply keeps_ite
    | split | intro _

theorem resumeShim_keeps {r0 : State} (st : Starter) (u : Nat) (s : State) (hk : Keeps r0 s) :
    Keeps r0 (resumeShim st u s) := by
  unfold resumeShim
  try dsimp only
  repeat' first
    | with_reducible first
      | assumption | apply record0_keeps | apply portPut_keeps | apply countPort0_keeps | apply keeps_foldl
       | apply keeps_ite
    | split | intro _

theorem resumeDeck_keeps {r0 : State} (st : Starter) (d : Nat) (s : State) (hk : Keeps r0 s) :
    Keeps r0 (resumeDeck st d s) := by
  unfold resumeDeck
  try dsimp only
  repeat' first
    | with_reducible first
      | assumption | apply dieDeckPut_keeps | apply keeps_foldl | apply keeps_ite
    | split | intro _

theorem adoptTables_keeps {r0 : State} (st : Starter) (s : State) (hk : Keeps r0 s)
    (hst : Canon r0 → starterOk st = true) : Keeps r0 (adoptTables st s) := by
  have k := fun c => starterOk_iff.1 (hst c)
  have h1 : Keeps r0 (s.putCw (mergeCw st s.cw)) := putCw_keeps hk fun c => mergeCw_ok c.cw_ok
  unfold adoptTables
  generalize s.putCw (mergeCw st s.cw) = t at h1 ⊢
  have h2 : Keeps r0 (t.putCtx st.ctx) := ⟨h1.pending, fun c => { h1.canon c with ctx_ok := (k c).1 }⟩
  generalize t.putCtx st.ctx = t at h2 ⊢
  have h3 : Keeps r0 (t.putCtxAt (placeContexts st)) := putCtxAt_keeps h2 fun _ => placeContexts_ok st
  generalize t.putCtxAt (placeContexts st) = t at h3 ⊢
  have h4 : Keeps r0 (t.putOh st.oh) := ⟨h3.pending, fun c => { h3.canon c with oh_ok := (k c).2.1 }⟩
  generalize t.putOh st.oh = t at h4 ⊢
  have h5 : Keeps r0 (t.putDeck st.deck) := ⟨h4.pending, fun c => { h4.canon c with deck_ok := (k c).2.2.1 }⟩
  generalize t.putDeck st.deck = t at h5 ⊢
  exact ⟨h5.pending, fun c => { h5.canon c with sels_ok := (k c).2.2.2 }⟩

theorem adoptStarter_keeps {r0 : State} (st : Starter) (s : State) (hk : Keeps r0 s)
    (hst : Canon r0 → starterOk st = true) : Keeps r0 (adoptStarter st s) := by
  have h1 := adoptTables_keeps st s hk hst
  unfold adoptStarter
  generalize adoptTables st s = t at h1 ⊢
  exact putPairs_of (putRsz_of (putBinRestored_keeps (putBinLoad_keeps (putBinD_keeps (putBinQ_keeps (putLoaf_keeps
    (putLoafDue_keeps (putLoafNext_keeps (putPorts_of (putAudio_of (putCq_of (putTrackers_of (putCells_of
    (putMons_of h1 fun _ => tabNil_ok) fun _ => tabNil_ok) fun _ => tabNil_ok) fun _ => tabNil_ok) fun _ => tabNil_ok)
    fun _ => tabNil_ok)))))))) fun _ => tabNil_ok) fun _ => tabNil_ok

theorem applyStarter_keeps {r0 : State} (st : Starter) (s : State) (hk : Keeps r0 s)
    (hst : Canon r0 → starterOk st = true) : Keeps r0 (applyStarter st s) := by
  unfold applyStarter
  extract_lets s1 s2 s3 s4 s5 s6 s7 s8
  have h1 : Keeps r0 s1 := adoptStarter_keeps st s hk hst
  have h2 : Keeps r0 s2 := keeps_foldl h1 fun t x ht => portPut_keeps _ _ _ ht
  have h3 : Keeps r0 s3 := keeps_foldl h2 fun t x ht => resumeDeck_keeps _ _ _ ht
  have h4 : Keeps r0 s4 := sampleAll_keeps _ h3
  have h5 : Keeps r0 s5 := keeps_foldl h4 fun t x ht => prtPut_keeps _ _ _ ht
  have h6 : Keeps r0 s6 := restartStreams_keeps _ (restartLanes_keeps _ h5)
  have h7 : Keeps r0 s7 := keeps_foldl h6 fun t x ht => keeps_ite ht fun _ => resumeRsz_keeps _ _ _ ht
  exact cenInc_keeps _ _ (keeps_foldl h7 fun t x ht => resumeShim_keeps _ _ _ ht)

end Sys2Proof.Machine
end

