-- ==== Sys2Proof/Laws/KeepModes.lean ====
section
/-! SUPPORT. Each operation of Machine/Modes.lean leaves the waiting commands alone and keeps canonical form. -/

set_option linter.unusedTactic false
set_option linter.unreachableTactic false

namespace Sys2Proof.Machine

open Sys2Proof.Safety

theorem sessPut_keeps {r0 : State} (q : Nat) (k : Session) (s : State) (hk : Keeps r0 s) :
    Keeps r0 (sessPut q k s) := by
  unfold sessPut
  try dsimp only
  repeat' first
    | with_reducible first
      | assumption | apply putSess_keeps | apply keeps_foldl | apply keeps_ite | apply tabSet_ok | apply tabSet_ok'
       | apply tabFilter_ok | apply tabMap_ok | apply tabDrop_ok | exact tabNil_ok
    | refine fun (c : Canon _) => ?_ | exact (c.sess_ok :) | split | intro _

theorem ringCmdPut_keeps {r0 : State} (q : Nat) (k : CmdRing) (s : State) (hk : Keeps r0 s) :
    Keeps r0 (ringCmdPut q k s) := by
  unfold ringCmdPut
  try dsimp only
  repeat' first
    | with_reducible first
      | assumption | apply putRings_keeps | apply keeps_foldl | apply keeps_ite | apply tabSet_ok | apply tabSet_ok'
       | apply tabFilter_ok | apply tabMap_ok | apply tabDrop_ok | exact tabNil_ok
    | refine fun (c : Canon _) => ?_ | exact (c.rings_ok :) | split | intro _

theorem stopBatch_keeps {r0 : State} (s : State) (hk : Keeps r0 s) :
    Keeps r0 (stopBatch s) := by
  unfold stopBatch
  try dsimp only
  repeat' first
    | with_reducible first
      | assumption | apply putSuspended_keeps | apply putLong_keeps | apply putBatch_keeps | apply engPut_keeps
       | apply keeps_foldl | apply keeps_ite
    | split | intro _

theorem endSession_keeps {r0 : State} (hard : Bool) (q : Nat) (s : State) (hk : Keeps r0 s) :
    Keeps r0 (endSession hard q s) := by
  unfold endSession
  try dsimp only
  repeat' first
    | with_reducible first
      | assumption | apply putBatchesDone_keeps | apply stopBatch_keeps | apply ringCmdPut_keeps | apply sessPut_keeps
       | apply keeps_foldl | apply keeps_ite
    | split | intro _

theorem endSessions_keeps {r0 : State} (hard : Bool) (s : State) (hk : Keeps r0 s) :
    Keeps r0 (endSessions hard s) := by
  unfold endSessions
  try dsimp only
  repeat' first
    | with_reducible first
      | assumption | apply endSession_keeps | apply keeps_foldl | apply keeps_ite
    | split | intro _

theorem clearForces_keeps {r0 : State} (s : State) (hk : Keeps r0 s) :
    Keeps r0 (clearForces s) := by
  unfold clearForces
  try dsimp only
  repeat' first
    | with_reducible first
      | assumption | apply putOh_keeps | apply keeps_foldl | apply keeps_ite | apply tabSet_ok | apply tabSet_ok'
       | apply tabFilter_ok | apply tabMap_ok | apply tabDrop_ok | exact tabNil_ok
    | refine fun (c : Canon _) => ?_ | exact (c.oh_ok :) | split | intro _

theorem clearTests_keeps {r0 : State} (s : State) (hk : Keeps r0 s) :
    Keeps r0 (clearTests s) := by
  unfold clearTests
  try dsimp only
  repeat' first
    | with_reducible first
      | assumption | apply clearDeckTests_keeps | apply clearLaneTests_keeps | apply clearForces_keeps
       | apply keeps_foldl | apply keeps_ite
    | split | intro _

theorem clearEpisode_keeps {r0 : State} (s : State) (hk : Keeps r0 s) :
    Keeps r0 (clearEpisode s) := by
  unfold clearEpisode
  try dsimp only
  repeat' first
    | with_reducible first
      | assumption | apply cwSet_keeps | apply keeps_foldl | apply keeps_ite
    | split | intro _

theorem dropBurst_keeps {r0 : State} (aborted : Bool) (s : State) (hk : Keeps r0 s) :
    Keeps r0 (dropBurst aborted s) := by
  unfold dropBurst
  try dsimp only
  repeat' first
    | with_reducible first
      | assumption | apply domPut_keeps | apply putTest_keeps | apply cenInc_keeps | apply keeps_foldl
       | apply keeps_ite
    | split | intro _

theorem setMode_keeps {r0 : State} (new : Mode) (cause : Nat) (s : State) (hk : Keeps r0 s) :
    Keeps r0 (setMode new cause s) := by
  unfold setMode
  try dsimp only
  repeat' first
    | with_reducible first
      | assumption | apply clearTests_keeps | apply recheckReqs_keeps | apply dropBurst_keeps | apply retarget_keeps
       | apply clearEpisode_keeps | apply putMode_keeps | apply putTest_keeps | apply putModeCause_keeps
       | apply cenInc_keeps | apply record_keeps | apply dueRecord_keeps | apply intSet_keeps | apply keeps_foldl
       | apply keeps_ite
    | split | intro _

theorem leaveHolding_keeps {r0 : State} (detail : Nat) (s : State) (hk : Keeps r0 s) :
    Keeps r0 (leaveHolding detail s) := by
  unfold leaveHolding
  try dsimp only
  repeat' first
    | with_reducible first
      | assumption | apply mateEvt_keeps | apply putRdn_keeps | apply keeps_foldl | apply keeps_ite
    | refine fun (c : Canon _) => ?_ | exact (c.sweep_ok :) | exact rfl | split | intro _

theorem releaseIlk_keeps {r0 : State} (detail : Nat) (s : State) (hk : Keeps r0 s) :
    Keeps r0 (releaseIlk detail s) := by
  unfold releaseIlk
  try dsimp only
  repeat' first
    | with_reducible first
      | assumption | apply putIlk_keeps | apply leaveHolding_keeps | apply keeps_foldl | apply keeps_ite
    | split | intro _

theorem holdIlk_keeps {r0 : State} (s : State) (hk : Keeps r0 s) : Keeps r0 (holdIlk s) := by
  have h1 : Keeps r0 ((s.putIlk .holding).putRdn { s.rdn with leaving := false }) :=
    putRdn_keeps (putIlk_keeps hk) fun c => c.sweep_ok
  unfold holdIlk
  dsimp only
  split
  · have h2 := setMode_keeps .takeover 5 _ (mateEvt_keeps 5 0 0 _ (putRdn_keeps (v := {
      ((s.putIlk .holding).putRdn { s.rdn with leaving := false }).rdn with
      since := tickCount ((s.putIlk .holding).putRdn { s.rdn with leaving := false })
      late := s.bank.valid && decide (starterAge s > maxAge s) ||
        !((s.putIlk .holding).putRdn { s.rdn with leaving := false }).bank.valid
      take := ((s.putIlk .holding).putRdn { s.rdn with leaving := false }).mode == .standby &&
        ((s.putIlk .holding).putRdn { s.rdn with leaving := false }).bank.valid
      applied := false
      sweepRx := none }) h1 fun _ => rfl))
    split
    · exact cenInc_keeps _ _ h2
    · exact h2
  · exact h1

theorem acceptGrant_keeps {r0 : State} (s : State) (hk : Keeps r0 s) :
    Keeps r0 (acceptGrant s) := by
  unfold acceptGrant
  try dsimp only
  repeat' first
    | with_reducible first
      | assumption | apply putIlk_keeps | apply holdIlk_keeps | apply keeps_foldl | apply keeps_ite
    | split | intro _

theorem enterMode_keeps {r0 : State} (new : Mode) (cause : Nat) (s : State) (hk : Keeps r0 s) :
    Keeps r0 (enterMode new cause s) := by
  unfold enterMode
  try dsimp only
  repeat' first
    | with_reducible first
      | assumption | apply resync_keeps | apply acceptGrant_keeps | apply releaseIlk_keeps | apply setMode_keeps
       | apply keeps_foldl | apply keeps_ite
    | split | intro _

theorem quarantine_keeps {r0 : State} (qcause : Nat) (cause : Nat) (trip : Bool) (s : State) (hk : Keeps r0 s) :
    Keeps r0 (quarantine qcause cause trip s) := by
  unfold quarantine
  try dsimp only
  repeat' first
    | with_reducible first
      | assumption | apply putSec_keeps | apply releaseIlk_keeps | apply putBank_keeps | apply linkLeave_keeps
       | apply setMode_keeps | apply endSessions_keeps | apply putSpare_keeps | apply keeps_foldl | apply keeps_ite
    | refine fun (c : Canon _) => ?_ | exact (c.bank_ok :) | exact rfl | exact (c.spare_ok :) | exact rfl
    | exact (c.sealed_ok :) | exact rfl | split | intro _

theorem execGrantInChange_keeps {r0 : State} (level : Bool) (s : State) (hk : Keeps r0 s) :
    KeepsR r0 (execGrantInChange level s) := by
  unfold execGrantInChange
  try dsimp only
  repeat' first
    | with_reducible first
      | assumption | apply acceptGrant_keeps | apply releaseIlk_keeps | apply putRdn_keeps | apply cenInc_keeps
       | apply keeps_foldl | apply keepsR_next | apply keeps_ite | apply keepsR_ite
    | refine fun (c : Canon _) => ?_ | exact (c.sweep_ok :) | exact rfl | split | intro _

theorem execGrantPulseReject_keeps {r0 : State} (s : State) (hk : Keeps r0 s) :
    KeepsR r0 (execGrantPulseReject s) := by
  unfold execGrantPulseReject
  try dsimp only
  repeat' first
    | with_reducible first
      | assumption | apply cenInc_keeps | apply keeps_foldl | apply keepsR_next | apply keeps_ite | apply keepsR_ite
    | split | intro _

theorem giveWay_keeps {r0 : State} (s : State) (hk : Keeps r0 s) :
    Keeps r0 (giveWay s) := by
  unfold giveWay
  try dsimp only
  repeat' first
    | with_reducible first
      | assumption | apply putIlk_keeps | apply leaveHolding_keeps | apply keeps_foldl | apply keeps_ite
    | split | intro _

theorem execIlkInChange_keeps {r0 : State} (asserted : Bool) (s : State) (hk : Keeps r0 s) :
    KeepsR r0 (execIlkInChange asserted s) := by
  unfold execIlkInChange
  try dsimp only
  repeat' first
    | with_reducible first
      | assumption | apply putRdn_keeps | apply giveWay_keeps | apply keeps_foldl | apply keepsR_next
       | apply keeps_ite | apply keepsR_ite
    | refine fun (c : Canon _) => ?_ | exact (c.sweep_ok :) | exact rfl | split | intro _

theorem execIlkResample_keeps {r0 : State} (s : State) (hk : Keeps r0 s) :
    KeepsR r0 (execIlkResample s) := by
  unfold execIlkResample
  try dsimp only
  repeat' first
    | with_reducible first
      | assumption | apply putIlk_keeps | apply cenInc_keeps | apply holdIlk_keeps | apply keeps_foldl
       | apply keepsR_next | apply keeps_ite | apply keepsR_ite
    | split | intro _

theorem execIlkBlockedRetry_keeps {r0 : State} (s : State) (hk : Keeps r0 s) :
    KeepsR r0 (execIlkBlockedRetry s) := by
  unfold execIlkBlockedRetry
  try dsimp only
  repeat' first
    | with_reducible first
      | assumption | apply putIlk_keeps | apply keeps_foldl | apply keepsR_next | apply keeps_ite | apply keepsR_ite
    | split | intro _

theorem execRoleConflictDeclare_keeps {r0 : State} (mismatch : Bool) (s : State) (hk : Keeps r0 s) :
    KeepsR r0 (execRoleConflictDeclare mismatch s) := by
  unfold execRoleConflictDeclare
  try dsimp only
  repeat' first
    | with_reducible first
      | assumption | apply mateEvt_keeps | apply putRdn_keeps | apply cenInc_keeps | apply intSet_keeps
       | apply keeps_foldl | apply keepsR_next | apply keeps_ite | apply keepsR_ite
    | refine fun (c : Canon _) => ?_ | exact (c.sweep_ok :) | exact rfl | split | intro _

theorem execRoleConflictClear_keeps {r0 : State} (s : State) (hk : Keeps r0 s) :
    KeepsR r0 (execRoleConflictClear s) := by
  unfold execRoleConflictClear
  try dsimp only
  repeat' first
    | with_reducible first
      | assumption | apply mateEvt_keeps | apply putRdn_keeps | apply keeps_foldl | apply keepsR_next
       | apply keeps_ite | apply keepsR_ite
    | refine fun (c : Canon _) => ?_ | exact (c.sweep_ok :) | exact rfl | split | intro _

theorem execStarterApply_keeps {r0 : State} (s : State) (hk : Keeps r0 s) : KeepsR r0 (execStarterApply s) := by
  unfold execStarterApply
  apply keepsR_next
  split
  · extract_lets s1
    have h1 : Keeps r0 s1 := keeps_ite hk fun _ => applyStarter_keeps _ _ hk fun c => (hk.canon c).bank_ok
    clear_value s1
    have h2 := allotRings_keeps _ (holdPairs_keeps _ h1)
    generalize allotRings (holdPairs s1) = t at h2 ⊢
    exact ⟨h2.pending, fun c => { h2.canon c with sweep_ok := (h1.canon c).sweep_ok }⟩
  · exact hk

theorem execTakeoverActive_keeps {r0 : State} (timeout : Bool) (s : State) (hk : Keeps r0 s) :
    KeepsR r0 (execTakeoverActive timeout s) := by
  unfold execTakeoverActive
  try dsimp only
  repeat' first
    | with_reducible first
      | assumption | apply mateEvt_keeps | apply putRdn_keeps | apply setMode_keeps | apply intSet_keeps
       | apply keeps_foldl | apply keepsR_next | apply keeps_ite | apply keepsR_ite
    | refine fun (c : Canon _) => ?_ | exact (c.sweep_ok :) | exact rfl | split | intro _

theorem execReleaseToStandby_keeps {r0 : State} (s : State) (hk : Keeps r0 s) :
    KeepsR r0 (execReleaseToStandby s) := by
  unfold execReleaseToStandby
  try dsimp only
  repeat' first
    | with_reducible first
      | assumption | apply enterMode_keeps | apply putRdn_keeps | apply keeps_foldl | apply keepsR_next
       | apply keeps_ite | apply keepsR_ite
    | refine fun (c : Canon _) => ?_ | exact (c.sweep_ok :) | exact rfl | split | intro _

theorem enterDormant_keeps {r0 : State} (s : State) (hk : Keeps r0 s) :
    Keeps r0 (enterDormant s) := by
  unfold enterDormant
  try dsimp only
  repeat' first
    | with_reducible first
      | assumption | apply putPhase_keeps | apply moveDomain_keeps | apply releaseIlk_keeps | apply linkLeave_keeps
       | apply endSessions_keeps | apply record_keeps | apply keeps_foldl | apply keeps_ite
    | split | intro _

theorem applyPkgCtrl_keeps {r0 : State} (v : Word) (s : State) (hk : Keeps r0 s) :
    KeepsE r0 (applyPkgCtrl v s) := by
  unfold applyPkgCtrl
  try dsimp only
  repeat' first
    | with_reducible first
      | assumption | exact keepsE_error | apply enterDormant_keeps | apply putResetDue_keeps | apply enterMode_keeps
       | apply retarget_keeps | apply cwSet_keeps | apply keeps_foldl | apply keepsE_ok | apply keeps_ite
       | apply keepsE_ite
    | split | intro _

theorem pkgWrite_keeps {r0 : State} (w : CtlWrite) (v : Word) (s : State) (hk : Keeps r0 s) :
    KeepsR r0 (pkgWrite w v s) := by
  unfold pkgWrite
  try dsimp only
  repeat' first
    | with_reducible first
      | assumption | exact keepsE_error | apply applyPkgCtrl_keeps | apply settle_keeps | apply keeps_foldl
       | apply keepsR_next | apply keepsE_ok | apply keeps_ite | apply keepsE_ite | apply keepsR_ite
    | split | intro _

theorem execModeReqProvision_keeps {r0 : State} (w : CtlWrite) (s : State) (hk : Keeps r0 s) :
    KeepsR r0 (execModeReqProvision w s) := by
  unfold execModeReqProvision
  try dsimp only
  repeat' first
    | with_reducible first
      | assumption | apply pkgWrite_keeps | apply keeps_foldl | apply keepsR_next | apply keeps_ite | apply keepsR_ite
    | split | intro _

theorem execModeReqStandby_keeps {r0 : State} (w : CtlWrite) (s : State) (hk : Keeps r0 s) :
    KeepsR r0 (execModeReqStandby w s) := by
  unfold execModeReqStandby
  try dsimp only
  repeat' first
    | with_reducible first
      | assumption | apply pkgWrite_keeps | apply keeps_foldl | apply keepsR_next | apply keeps_ite | apply keepsR_ite
    | split | intro _

theorem execModeReqTest_keeps {r0 : State} (w : CtlWrite) (s : State) (hk : Keeps r0 s) :
    KeepsR r0 (execModeReqTest w s) := by
  unfold execModeReqTest
  try dsimp only
  repeat' first
    | with_reducible first
      | assumption | apply pkgWrite_keeps | apply keeps_foldl | apply keepsR_next | apply keeps_ite | apply keepsR_ite
    | split | intro _

theorem execPkgResetReq_keeps {r0 : State} (w : CtlWrite) (s : State) (hk : Keeps r0 s) :
    KeepsR r0 (execPkgResetReq w s) := by
  unfold execPkgResetReq
  try dsimp only
  repeat' first
    | with_reducible first
      | assumption | apply pkgWrite_keeps | apply keeps_foldl | apply keepsR_next | apply keeps_ite | apply keepsR_ite
    | split | intro _

theorem execDormantEntry_keeps {r0 : State} (w : CtlWrite) (s : State) (hk : Keeps r0 s) :
    KeepsR r0 (execDormantEntry w s) := by
  unfold execDormantEntry
  try dsimp only
  repeat' first
    | with_reducible first
      | assumption | apply pkgWrite_keeps | apply keeps_foldl | apply keepsR_next | apply keeps_ite | apply keepsR_ite
    | split | intro _

theorem wipe_keeps {r0 : State} (ph : Phase) (kept : Bool) (s : State) (hk : Keeps r0 s) : Keeps r0 (wipe ph kept s) := by
  refine Keeps.trans hk ⟨rfl, fun c => ?_⟩
  unfold wipe
  constructor <;> first
    | exact c.nvmA_ok
    | exact c.nvmB_ok
    | rfl
    | skip
  show tabWf cwReset (if kept = true then _ else _) = true
  split
  · exact tabFilter_ok c.cw_ok
  · rfl

theorem execDomainTransitionDone_keeps {r0 : State} (d : Fin 56) (s : State) (hk : Keeps r0 s) :
    KeepsR r0 (execDomainTransitionDone d s) := by
  unfold execDomainTransitionDone
  try dsimp only
  repeat' first
    | with_reducible first
      | assumption | apply putDoms_keeps | apply wipe_keeps | apply landDomain_keeps | apply keeps_foldl
       | apply keepsR_next | apply keeps_ite | apply keepsR_ite | apply tabSet_ok | apply tabSet_ok'
       | apply tabFilter_ok | apply tabMap_ok | apply tabDrop_ok | exact tabNil_ok
    | refine fun (c : Canon _) => ?_ | exact (c.doms_ok :) | split | intro _

theorem execDormantWake_keeps {r0 : State} (grant : Bool) (s : State) (hk : Keeps r0 s) :
    KeepsR r0 (execDormantWake grant s) := by
  unfold execDormantWake
  try dsimp only
  repeat' first
    | with_reducible first
      | assumption | apply wipe_keeps | apply putRdn_keeps | apply keeps_foldl | apply keepsR_next | apply keeps_ite
       | apply keepsR_ite
    | refine fun (c : Canon _) => ?_ | exact (c.sweep_ok :) | exact rfl | split | intro _

theorem vloopPut_keeps {r0 : State} (r : Nat) (k : Vloop) (s : State) (hk : Keeps r0 s) :
    Keeps r0 (vloopPut r k s) := by
  unfold vloopPut
  try dsimp only
  repeat' first
    | with_reducible first
      | assumption | apply putVloops_keeps | apply keeps_foldl | apply keeps_ite | apply tabSet_ok | apply tabSet_ok'
       | apply tabFilter_ok | apply tabMap_ok | apply tabDrop_ok | exact tabNil_ok
    | refine fun (c : Canon _) => ?_ | exact (c.vloops_ok :) | split | intro _

theorem vloopOver_keeps {r0 : State} (r : Nat) (s : State) (hk : Keeps r0 s) :
    Keeps r0 (vloopOver r s) := by
  unfold vloopOver
  try dsimp only
  repeat' first
    | with_reducible first
      | assumption | apply cenInc_keeps | apply dueRecord_keeps | apply vloopPut_keeps | apply keeps_foldl
       | apply keeps_ite
    | split | intro _

theorem applyVloop_keeps {r0 : State} (r : Nat) (v : Word) (s : State) (hk : Keeps r0 s) :
    KeepsE r0 (applyVloop r v s) := by
  unfold applyVloop
  try dsimp only
  repeat' first
    | with_reducible first
      | assumption | exact keepsE_error | apply vloopOver_keeps | apply cwSet_keeps | apply keeps_foldl
       | apply keepsE_ok | apply keeps_ite | apply keepsE_ite
    | split | intro _

theorem execVloopCtrl_keeps {r0 : State} (r : RegionId) (w : CtlWrite) (s : State) (hk : Keeps r0 s) :
    KeepsR r0 (execVloopCtrl r w s) := by
  unfold execVloopCtrl
  try dsimp only
  repeat' first
    | with_reducible first
      | assumption | exact keepsE_error | apply settle_keeps | apply applyVloop_keeps | apply keeps_foldl
       | apply keepsR_next | apply keepsE_ok | apply keeps_ite | apply keepsE_ite | apply keepsR_ite
    | split | intro _

theorem execVloopStep_keeps {r0 : State} (r : RegionId) (pass : Fin 1004) (aging : Fin 256) (s : State)
    (hk : Keeps r0 s) :
    KeepsR r0 (execVloopStep r pass aging s) := by
  unfold execVloopStep
  try dsimp only
  repeat' first
    | with_reducible first
      | assumption | apply vloopOver_keeps | apply vloopPut_keeps | apply keeps_foldl | apply keepsR_next
       | apply keeps_ite | apply keepsR_ite
    | split | intro _

theorem execPlaceCtrl_keeps {r0 : State} (w : CtlWrite) (s : State) (hk : Keeps r0 s) :
    KeepsR r0 (execPlaceCtrl w s) := by
  unfold execPlaceCtrl
  try dsimp only
  repeat' first
    | with_reducible first
      | assumption | exact keepsE_error | apply settle_keeps | apply cwSet_keeps | apply keeps_foldl
       | apply keepsR_next | apply keepsE_ok | apply keeps_ite | apply keepsE_ite | apply keepsR_ite
    | split | intro _

theorem execCpmFailQuarantine_keeps {r0 : State} (r : RegionId) (s : State) (hk : Keeps r0 s) :
    KeepsR r0 (execCpmFailQuarantine r s) := by
  unfold execCpmFailQuarantine
  try dsimp only
  repeat' first
    | with_reducible first
      | assumption | apply quarantine_keeps | apply keeps_foldl | apply keepsR_next | apply keeps_ite
       | apply keepsR_ite
    | split | intro _

theorem execRegulatorFault_keeps {r0 : State} (d : Fin 56) (s : State) (hk : Keeps r0 s) :
    KeepsR r0 (execRegulatorFault d s) := by
  unfold execRegulatorFault
  try dsimp only
  repeat' first
    | with_reducible first
      | assumption | apply domPut_keeps | apply moveDomain_keeps | apply quarantine_keeps | apply pwrEvt_keeps
       | apply cenInc_keeps | apply keeps_foldl | apply keepsR_next | apply keeps_ite | apply keepsR_ite
    | split | intro _

theorem execTempAlarm_keeps {r0 : State} (s : State) (hk : Keeps r0 s) :
    KeepsR r0 (execTempAlarm s) := by
  unfold execTempAlarm
  try dsimp only
  repeat' first
    | with_reducible first
      | assumption | apply pwrEvt_keeps | apply putHot_keeps | apply cenInc_keeps | apply intSet_keeps
       | apply keeps_foldl | apply keepsR_next | apply keeps_ite | apply keepsR_ite
    | split | intro _

theorem execTamperTrip_keeps {r0 : State} (m : Tamper) (s : State) (hk : Keeps r0 s) :
    KeepsR r0 (execTamperTrip m s) := by
  unfold execTamperTrip
  try dsimp only
  repeat' first
    | with_reducible first
      | assumption | apply quarantine_keeps | apply cenInc_keeps | apply keeps_foldl | apply keepsR_next
       | apply keeps_ite | apply keepsR_ite
    | split | intro _

theorem execSelftestBurstStart_keeps {r0 : State} (s : State) (hk : Keeps r0 s) :
    KeepsR r0 (execSelftestBurstStart s) := by
  unfold execSelftestBurstStart
  try dsimp only
  repeat' first
    | with_reducible first
      | assumption | apply domPut_keeps | apply moveDomain_keeps | apply putTest_keeps | apply keeps_foldl
       | apply keepsR_next | apply keeps_ite | apply keepsR_ite
    | split | intro _

theorem calibrateBanks_keeps {r0 : State} (s : State) (hk : Keeps r0 s) :
    Keeps r0 (calibrateBanks s) := by
  unfold calibrateBanks
  try dsimp only
  repeat' first
    | with_reducible first
      | assumption | apply quadPut_keeps | apply keeps_foldl | apply keeps_ite
    | split | intro _

theorem execSelftestBurstEnd_keeps {r0 : State} (pass : Bool) (s : State) (hk : Keeps r0 s) :
    KeepsR r0 (execSelftestBurstEnd pass s) := by
  unfold execSelftestBurstEnd
  apply keepsR_next
  split
  · exact hk
  · dsimp only
    refine putTest_keeps (keeps_foldl (keeps_foldl (keeps_ite ?_ fun h => calibrateBanks_keeps _ h) fun t x ht =>
      domPut_keeps _ _ _ ht) fun t x ht => moveDomain_keeps _ _ _ _ ht)
    split
    · exact putTest_keeps hk
    · split
      · exact intSet_keeps _ _ (mateEvt_keeps _ _ _ _ (putTest_keeps hk))
      · exact mateEvt_keeps _ _ _ _ (putTest_keeps hk)

theorem execHealthWordTx_keeps {r0 : State} (s : State) (hk : Keeps r0 s) :
    KeepsR r0 (execHealthWordTx s) := by
  unfold execHealthWordTx
  try dsimp only
  repeat' first
    | with_reducible first
      | assumption | apply emit_keeps | apply putRdn_keeps | apply mateAppend_keeps | apply keeps_foldl
       | apply keepsR_next | apply keeps_ite | apply keepsR_ite
    | refine fun (c : Canon _) => ?_ | exact (c.sweep_ok :) | exact rfl | split | intro _

end Sys2Proof.Machine
end

