-- ==== Sys2Proof/Laws/KeepBoot.lean ====
section
/-! SUPPORT. Each operation of Machine/Boot.lean leaves the waiting commands alone and keeps canonical form. -/

set_option linter.unusedTactic false
set_option linter.unreachableTactic false

namespace Sys2Proof.Machine

open Sys2Proof.Safety

theorem execVinUvlo_keeps {r0 : State} (c : VinStop) (s : State) (hk : Keeps r0 s) :
    KeepsR r0 (execVinUvlo c s) := by
  unfold execVinUvlo
  try dsimp only
  repeat' first
    | with_reducible first
      | assumption | apply wipe_keeps | apply putVinHigh_keeps | apply keeps_foldl | apply keepsR_next
       | apply keeps_ite | apply keepsR_ite
    | split | intro _

theorem startSupply_keeps {r0 : State} (s : State) (hk : Keeps r0 s) :
    Keeps r0 (startSupply s) := by
  unfold startSupply
  try dsimp only
  repeat' first
    | with_reducible first
      | assumption | apply wipe_keeps | apply putVinHigh_keeps | apply keeps_foldl | apply keeps_ite
    | split | intro _

theorem execVinPowerOn_keeps {r0 : State} (s : State) (hk : Keeps r0 s) :
    KeepsR r0 (execVinPowerOn s) := by
  unfold execVinPowerOn
  try dsimp only
  repeat' first
    | with_reducible first
      | assumption | apply startSupply_keeps | apply keeps_foldl | apply keepsR_next | apply keeps_ite
       | apply keepsR_ite
    | split | intro _

theorem execOvloRestart_keeps {r0 : State} (s : State) (hk : Keeps r0 s) :
    KeepsR r0 (execOvloRestart s) := by
  unfold execOvloRestart
  try dsimp only
  repeat' first
    | with_reducible first
      | assumption | apply startSupply_keeps | apply keeps_foldl | apply keepsR_next | apply keeps_ite
       | apply keepsR_ite
    | split | intro _

theorem execResetLAssert_keeps {r0 : State} (s : State) (hk : Keeps r0 s) :
    KeepsR r0 (execResetLAssert s) := by
  unfold execResetLAssert
  try dsimp only
  repeat' first
    | with_reducible first
      | assumption | apply wipe_keeps | apply keeps_foldl | apply keepsR_next | apply keeps_ite | apply keepsR_ite
    | split | intro _

theorem execResetRelease_keeps {r0 : State} (st : Straps) (s : State) (hk : Keeps r0 s) :
    KeepsR r0 (execResetRelease st s) := by
  unfold execResetRelease
  try dsimp only
  repeat' first
    | with_reducible first
      | assumption | apply putPhase_keeps | apply putStraps_keeps | apply keeps_foldl | apply keepsR_next
       | apply keeps_ite | apply keepsR_ite
    | split | intro _

theorem execPufKeysDerived_keeps {r0 : State} (s : State) (hk : Keeps r0 s) :
    KeepsR r0 (execPufKeysDerived s) := by
  unfold execPufKeysDerived
  try dsimp only
  repeat' first
    | with_reducible first
      | assumption | apply putSec_keeps | apply keeps_foldl | apply keepsR_next | apply keeps_ite | apply keepsR_ite
    | refine fun (c : Canon _) => ?_ | exact (c.sealed_ok :) | exact rfl | split | intro _

theorem firstMode_keeps {r0 : State} (m : Mode) (cause : Nat) (s : State) (hk : Keeps r0 s) :
    Keeps r0 (firstMode m cause s) := by
  unfold firstMode
  try dsimp only
  repeat' first
    | with_reducible first
      | assumption | apply putModeCause_keeps | apply setMode_keeps | apply dueRecord_keeps | apply intSet_keeps
       | apply keeps_foldl | apply keeps_ite
    | split | intro _

theorem execBootFwSelect_keeps {r0 : State} (s : State) (hk : Keeps r0 s) :
    KeepsR r0 (execBootFwSelect s) := by
  unfold execBootFwSelect
  try dsimp only
  repeat' first
    | with_reducible first
      | assumption | apply firstMode_keeps | apply putPhase_keeps | apply putSec_keeps | apply quarantine_keeps
       | apply putClaimed_keeps | apply cenInc_keeps | apply keeps_foldl | apply keepsR_next | apply keeps_ite
       | apply keepsR_ite
    | refine fun (c : Canon _) => ?_ | exact (c.sealed_ok :) | exact rfl | split | intro _

theorem execFwStart_keeps {r0 : State} (s : State) (hk : Keeps r0 s) :
    KeepsR r0 (execFwStart s) := by
  unfold execFwStart
  try dsimp only
  repeat' first
    | with_reducible first
      | assumption | apply putSec_keeps | apply keeps_foldl | apply keepsR_next | apply keeps_ite | apply keepsR_ite
    | refine fun (c : Canon _) => ?_ | exact (c.sealed_ok :) | exact rfl | split | intro _

theorem execBootStarterLoad_keeps {r0 : State} (opens sigOk : Bool) (s : State) (hk : Keeps r0 s) :
    KeepsR r0 (execBootStarterLoad opens sigOk s) := by
  unfold execBootStarterLoad
  apply keepsR_next
  split
  · exact hk
  · split
    · exact hk
    · rename_i n st e
      split
      · exact cenInc_keeps _ _ hk
      · split
        · split
          · refine enterMode_keeps _ _ _ (calibrateBanks_keeps _ (putLoaf_keeps (putBank_keeps hk fun c => ?_)))
            have k := copiesCurrent_ok (p := starterOk) c.nvmA_ok c.nvmB_ok e
            exact k
          · exact cenInc_keeps _ _ hk
        · exact hk

theorem execPcieLinkRetrain_keeps {r0 : State} (s : State) (hk : Keeps r0 s) :
    KeepsR r0 (execPcieLinkRetrain s) := by
  unfold execPcieLinkRetrain
  try dsimp only
  repeat' first
    | with_reducible first
      | assumption | apply cenInc_keeps | apply keeps_foldl | apply keepsR_next | apply keeps_ite | apply keepsR_ite
    | split | intro _

theorem execPcieError_keeps {r0 : State} (k : PcieErr) (s : State) (hk : Keeps r0 s) :
    KeepsR r0 (execPcieError k s) := by
  unfold execPcieError
  try dsimp only
  repeat' first
    | with_reducible first
      | assumption | apply cenInc_keeps | apply keeps_foldl | apply keepsR_next | apply keeps_ite | apply keepsR_ite
    | split | intro _

theorem carryOn_keeps {r0 : State} (e : Nat) : ∀ (n k c : Nat) (s : State), Keeps r0 s → Keeps r0 (carryOn e n k c s)
  | 0, _, _, _, h => h
  | n + 1, k, c, s, h => by
    unfold carryOn
    dsimp only
    split
    · exact h
    · split
      · exact setOvf_keeps _ _ _ h
      · exact carryOn_keeps e n _ _ _ (pcAdd_keeps _ _ _ _ h)

theorem writeCounter_keeps {r0 : State} (e : Nat) (k : Nat) (inc : Nat) (v : Word) (s : State) (hk : Keeps r0 s) :
    Keeps r0 (writeCounter e k inc v s) := by
  unfold writeCounter
  try dsimp only
  repeat' first
    | with_reducible first
      | assumption | apply carryOn_keeps | apply pcAdd_keeps | apply cwSet_keeps | apply keeps_foldl | apply keeps_ite
    | split | intro _

theorem execPcCounterWrite_keeps {r0 : State} (e : EngId) (k : Fin 8) (v : Word) (inc : Fin 3) (s : State)
    (hk : Keeps r0 s) :
    KeepsR r0 (execPcCounterWrite e k v inc s) := by
  unfold execPcCounterWrite
  try dsimp only
  repeat' first
    | with_reducible first
      | assumption | apply writeCounter_keeps | apply keeps_foldl | apply keepsR_next | apply keeps_ite
       | apply keepsR_ite
    | split | intro _

theorem clearCensus_keeps {r0 : State} (v : Word) (s : State) (hk : Keeps r0 s) :
    Keeps r0 (clearCensus v s) := by
  unfold clearCensus
  try dsimp only
  repeat' first
    | with_reducible first
      | assumption | apply cwSet_keeps | apply keeps_foldl | apply keeps_ite
    | split | intro _

theorem execCenClr_keeps {r0 : State} (v : Word) (s : State) (hk : Keeps r0 s) :
    KeepsR r0 (execCenClr v s) := by
  unfold execCenClr
  try dsimp only
  repeat' first
    | with_reducible first
      | assumption | apply clearCensus_keeps | apply keeps_foldl | apply keepsR_next | apply keeps_ite
       | apply keepsR_ite
    | split | intro _

end Sys2Proof.Machine
end

