-- ==== Sys2Proof/Laws/KeepCheck.lean ====
section
/-! SUPPORT. Each operation of Machine/Check.lean leaves the waiting commands alone and keeps canonical form. -/

set_option linter.unusedTactic false
set_option linter.unreachableTactic false

namespace Sys2Proof.Machine

open Sys2Proof.Safety

theorem chkWaited_keeps {r0 : State} (e : Nat) (wait : Nat) (s : State) (hk : Keeps r0 s) :
    Keeps r0 (chkWaited e wait s) := by
  unfold chkWaited
  try dsimp only
  repeat' first
    | with_reducible first
      | assumption | apply putChkMax_keeps | apply cwCount_keeps | apply keeps_foldl | apply keeps_ite
       | apply tabSet_ok | apply tabSet_ok' | apply tabFilter_ok | apply tabMap_ok | apply tabDrop_ok
       | exact tabNil_ok
    | refine fun (c : Canon _) => ?_ | exact (c.chkMax_ok :) | split | intro _

theorem chkIssue_keeps {r0 : State} (i : IssA) (u : Use) (wait : Nat) (body : State → State) (s : State)
    (hk : Keeps r0 s) (hbody : ∀ y0, Keeps r0 y0 → Keeps r0 (body y0)) :
    Keeps r0 (chkIssue i u wait body s) := by
  unfold chkIssue
  try dsimp only
  repeat' first
    | with_reducible first
      | assumption | apply issue_keeps | apply chkWaited_keeps | apply hbody | apply keeps_foldl | apply keeps_ite
    | split | intro _

theorem execChkSeed_keeps {r0 : State} (i : IssA) (gA : Reg) (fold : Bool) (mode : Fin 6) (wait : Fin 33) (s : State)
    (hk : Keeps r0 s) :
    KeepsR r0 (execChkSeed i gA fold mode wait s) := by
  unfold execChkSeed
  try dsimp only
  repeat' first
    | with_reducible first
      | assumption | apply chkIssue_keeps | apply engPut_keeps | apply keeps_foldl | apply keepsR_next
       | apply keeps_ite | apply keepsR_ite
    | split | intro _

theorem execChkFeed_keeps {r0 : State} (i : IssA) (gA : Reg) (lanes : Fin 4) (wait : Fin 33) (s : State)
    (hk : Keeps r0 s) :
    KeepsR r0 (execChkFeed i gA lanes wait s) := by
  unfold execChkFeed
  try dsimp only
  repeat' first
    | with_reducible first
      | assumption | apply chkIssue_keeps | apply engPut_keeps | apply keeps_foldl | apply keepsR_next
       | apply keeps_ite | apply keepsR_ite
    | split | intro _

theorem execChkRes_keeps {r0 : State} (i : IssA) (gD : Reg) (wait : Fin 33) (s : State) (hk : Keeps r0 s) :
    KeepsR r0 (execChkRes i gD wait s) := by
  unfold execChkRes
  try dsimp only
  repeat' first
    | with_reducible first
      | assumption | apply setReg_keeps | apply chkIssue_keeps | apply keeps_foldl | apply keepsR_next
       | apply keeps_ite | apply keepsR_ite
    | split | intro _

end Sys2Proof.Machine
end

