-- ==== Sys2Proof/Laws/KeepClocks.lean ====
section
/-! SUPPORT. Each operation of Machine/Clocks.lean leaves the waiting commands alone and keeps canonical form. -/

set_option linter.unusedTactic false
set_option linter.unreachableTactic false

namespace Sys2Proof.Machine

open Sys2Proof.Safety

theorem syncPut_keeps {r0 : State} (n : Nat) (c : SyncIn) (s : State) (hk : Keeps r0 s) :
    Keeps r0 (syncPut n c s) := by
  unfold syncPut
  try dsimp only
  repeat' first
    | with_reducible first
      | assumption | apply putSync_keeps | apply keeps_foldl | apply keeps_ite | apply tabSet_ok | apply tabSet_ok'
       | apply tabFilter_ok | apply tabMap_ok | apply tabDrop_ok | exact tabNil_ok
    | refine fun (c : Canon _) => ?_ | exact (c.sync_ok :) | split | intro _

theorem dpllSelect_keeps {r0 : State} (fresh : Bool) (s : State) (hk : Keeps r0 s) :
    Keeps r0 (dpllSelect fresh s) := by
  unfold dpllSelect
  try dsimp only
  repeat' first
    | with_reducible first
      | assumption | apply putDpll_keeps | apply cenInc_keeps | apply clkEvt_keeps | apply keeps_foldl
       | apply keeps_ite
    | split | intro _

theorem execSyncEdge_keeps {r0 : State} (input : RefName) (gap : Nat) (phase : Int) (freq : BitVec 20) (s : State)
    (hk : Keeps r0 s) :
    KeepsR r0 (execSyncEdge input gap phase freq s) := by
  unfold execSyncEdge
  try dsimp only
  repeat' first
    | with_reducible first
      | assumption | apply putDpll_keeps | apply dpllSelect_keeps | apply syncPut_keeps | apply cenInc_keeps
       | apply clkEvt_keeps | apply cwCountFld_keeps | apply keeps_foldl | apply keepsR_next | apply keeps_ite
       | apply keepsR_ite
    | split | intro _

theorem execSyncLoss_keeps {r0 : State} (input : RefName) (gap : Nat) (s : State) (hk : Keeps r0 s) :
    KeepsR r0 (execSyncLoss input gap s) := by
  unfold execSyncLoss
  try dsimp only
  repeat' first
    | with_reducible first
      | assumption | apply dpllSelect_keeps | apply syncPut_keeps | apply cenInc_keeps | apply clkEvt_keeps
       | apply keeps_foldl | apply keepsR_next | apply keeps_ite | apply keepsR_ite
    | split | intro _

theorem execSyncRequalify_keeps {r0 : State} (input : RefName) (s : State) (hk : Keeps r0 s) :
    KeepsR r0 (execSyncRequalify input s) := by
  unfold execSyncRequalify
  try dsimp only
  repeat' first
    | with_reducible first
      | assumption | apply dpllSelect_keeps | apply syncPut_keeps | apply clkEvt_keeps | apply keeps_foldl
       | apply keepsR_next | apply keeps_ite | apply keepsR_ite
    | split | intro _

theorem execDpllSlewDone_keeps {r0 : State} (s : State) (hk : Keeps r0 s) :
    KeepsR r0 (execDpllSlewDone s) := by
  unfold execDpllSlewDone
  try dsimp only
  repeat' first
    | with_reducible first
      | assumption | apply putDpll_keeps | apply keeps_foldl | apply keepsR_next | apply keeps_ite | apply keepsR_ite
    | split | intro _

theorem applySyncCtrl_keeps {r0 : State} (v : Word) (s : State) (hk : Keeps r0 s) :
    KeepsE r0 (applySyncCtrl v s) := by
  unfold applySyncCtrl
  try dsimp only
  repeat' first
    | with_reducible first
      | assumption | exact keepsE_error | apply putDpll_keeps | apply dpllSelect_keeps | apply cwSet_keeps
       | apply keeps_foldl | apply keepsE_ok | apply keeps_ite | apply keepsE_ite
    | split | intro _

theorem execClkSyncCtrl_keeps {r0 : State} (w : CtlWrite) (s : State) (hk : Keeps r0 s) :
    KeepsR r0 (execClkSyncCtrl w s) := by
  unfold execClkSyncCtrl
  try dsimp only
  repeat' first
    | with_reducible first
      | assumption | exact keepsE_error | apply settle_keeps | apply applySyncCtrl_keeps | apply keeps_foldl
       | apply keepsR_next | apply keepsE_ok | apply keeps_ite | apply keepsE_ite | apply keepsR_ite
    | split | intro _

theorem dpllTick_keeps {r0 : State} (s : State) (hk : Keeps r0 s) :
    Keeps r0 (dpllTick s) := by
  unfold dpllTick
  try dsimp only
  repeat' first
    | with_reducible first
      | assumption | apply putDpll_keeps | apply keeps_foldl | apply keeps_ite
    | split | intro _

theorem recRelease_keeps {r0 : State} (n : Nat) (s : State) (hk : Keeps r0 s) :
    Keeps r0 (recRelease n s) := by
  unfold recRelease
  try dsimp only
  repeat' first
    | with_reducible first
      | assumption | apply freeFlex_keeps | apply recPut_keeps | apply keeps_foldl | apply keeps_ite
    | split | intro _

theorem applyRecClk_keeps {r0 : State} (n : Nat) (v : Word) (s : State) (hk : Keeps r0 s) :
    KeepsE r0 (applyRecClk n v s) := by
  unfold applyRecClk
  try dsimp only
  repeat' first
    | with_reducible first
      | assumption | exact keepsE_error | apply recRelease_keeps | apply recPut_keeps | apply flexPut_keeps
       | apply cwSet_keeps | apply keeps_foldl | apply keepsE_ok | apply keeps_ite | apply keepsE_ite
    | split | intro _

theorem execRecClkCfg_keeps {r0 : State} (n : Fin 2) (w : CtlWrite) (s : State) (hk : Keeps r0 s) :
    KeepsR r0 (execRecClkCfg n w s) := by
  unfold execRecClkCfg
  try dsimp only
  repeat' first
    | with_reducible first
      | assumption | exact keepsE_error | apply applyRecClk_keeps | apply settle_keeps | apply keeps_foldl
       | apply keepsR_next | apply keepsE_ok | apply keeps_ite | apply keepsE_ite | apply keepsR_ite
    | split | intro _

theorem execRecClkSquelch_keeps {r0 : State} (n : Fin 2) (s : State) (hk : Keeps r0 s) :
    KeepsR r0 (execRecClkSquelch n s) := by
  unfold execRecClkSquelch
  try dsimp only
  repeat' first
    | with_reducible first
      | assumption | apply recPut_keeps | apply keeps_foldl | apply keepsR_next | apply keeps_ite | apply keepsR_ite
    | split | intro _

theorem execRecClkResume_keeps {r0 : State} (n : Fin 2) (s : State) (hk : Keeps r0 s) :
    KeepsR r0 (execRecClkResume n s) := by
  unfold execRecClkResume
  try dsimp only
  repeat' first
    | with_reducible first
      | assumption | apply recPut_keeps | apply keeps_foldl | apply keepsR_next | apply keeps_ite | apply keepsR_ite
    | split | intro _

end Sys2Proof.Machine
end

