-- ==== Sys2Proof/Laws/KeepContexts.lean ====
section
/-! SUPPORT. Each operation of Machine/Contexts.lean leaves the waiting commands alone and keeps canonical form. -/

set_option linter.unusedTactic false
set_option linter.unreachableTactic false

namespace Sys2Proof.Machine

open Sys2Proof.Safety

theorem layCtx_keeps {r0 : State} (id : Nat) (u : Nat) (h : Nat) (s : State) (hk : Keeps r0 s) :
    Keeps r0 (layCtx id u h s) := by
  unfold layCtx
  try dsimp only
  repeat' first
    | with_reducible first
      | assumption | apply putCtxAt_keeps | apply keeps_foldl | apply keeps_ite | apply tabSet_ok | apply tabSet_ok'
       | apply tabFilter_ok | apply tabMap_ok | apply tabDrop_ok | exact tabNil_ok
    | refine fun (c : Canon _) => ?_ | exact (c.ctxAt_ok :) | split | intro _

theorem clearCtx_keeps {r0 : State} (id : Nat) (s : State) (hk : Keeps r0 s) :
    Keeps r0 (clearCtx id s) := by
  unfold clearCtx
  try dsimp only
  repeat' first
    | with_reducible first
      | assumption | apply putMons_keeps | apply putCtx_keeps | apply keeps_foldl | apply keeps_ite | apply tabSet_ok
       | apply tabSet_ok' | apply tabFilter_ok | apply tabMap_ok | apply tabDrop_ok | exact tabNil_ok
    | refine fun (c : Canon _) => ?_ | exact (c.ctx_ok :) | exact (c.mons_ok :) | split | intro _

theorem createCtx_keeps {r0 : State} (id : Nat) (kind : Nat) (s : State) (hk : Keeps r0 s) :
    KeepsE r0 (createCtx id kind s) := by
  unfold createCtx
  try dsimp only
  repeat' first
    | with_reducible first
      | assumption | exact keepsE_error | apply ctxSet_keeps | apply clearCtx_keeps | apply layCtx_keeps
       | apply keeps_foldl | apply keepsE_ok | apply keeps_ite | apply keepsE_ite
    | split | intro _

theorem deleteCtx_keeps {r0 : State} (id : Nat) (s : State) (hk : Keeps r0 s) : KeepsE r0 (deleteCtx id s) := by
  unfold deleteCtx
  split
  · exact keepsE_error
  · refine keepsE_ok (putPinMoves_keeps (putCtxAt_keeps (clearCtx_keeps _ _ hk) fun c => ?_))
    exact tabDrop_ok (t := (clearCtx id s).ctxAt) c.ctxAt_ok

theorem setKind_keeps {r0 : State} (id : Nat) (kind : Nat) (s : State) (hk : Keeps r0 s) :
    KeepsE r0 (setKind id kind s) := by
  unfold setKind
  try dsimp only
  repeat' first
    | with_reducible first
      | assumption | exact keepsE_error | apply ctxSet_keeps | apply keeps_foldl | apply keepsE_ok | apply keeps_ite
       | apply keepsE_ite
    | split | intro _

theorem moveCtx_keeps {r0 : State} (id : Nat) (u : Nat) (s : State) (hk : Keeps r0 s) :
    Keeps r0 (moveCtx id u s) := by
  unfold moveCtx
  try dsimp only
  repeat' first
    | with_reducible first
      | assumption | apply layCtx_keeps | apply keeps_foldl | apply keeps_ite
    | split | intro _

theorem afterPins_keeps {r0 : State} (s : State) (hk : Keeps r0 s) :
    Keeps r0 (afterPins s) := by
  unfold afterPins
  try dsimp only
  repeat' first
    | with_reducible first
      | assumption | apply moveCtx_keeps | apply keeps_foldl | apply keeps_ite
    | split | intro _

theorem setPin_keeps {r0 : State} (id : Nat) (s : State) (hk : Keeps r0 s) :
    KeepsE r0 (setPin id s) := by
  unfold setPin
  try dsimp only
  repeat' first
    | with_reducible first
      | assumption | exact keepsE_error | apply ctxSet_keeps | apply putCtxAt_keeps | apply putPinMoves_keeps
       | apply afterPins_keeps | apply keeps_foldl | apply keepsE_ok | apply keeps_ite | apply keepsE_ite
       | apply tabSet_ok | apply tabSet_ok' | apply tabFilter_ok | apply tabMap_ok | apply tabDrop_ok
       | exact tabNil_ok
    | refine fun (c : Canon _) => ?_ | exact (c.ctxAt_ok :) | split | intro _

theorem clearPin_keeps {r0 : State} (id : Nat) (s : State) (hk : Keeps r0 s) :
    Keeps r0 (clearPin id s) := by
  unfold clearPin
  try dsimp only
  repeat' first
    | with_reducible first
      | assumption | apply ctxSet_keeps | apply putPinMoves_keeps | apply keeps_foldl | apply keeps_ite
    | split | intro _

theorem applyCtxOp_keeps {r0 : State} (v : Word) (s : State) (hk : Keeps r0 s) :
    KeepsE r0 (applyCtxOp v s) := by
  unfold applyCtxOp
  try dsimp only
  repeat' first
    | with_reducible first
      | assumption | exact keepsE_error | apply setKind_keeps | apply setPin_keeps | apply clearPin_keeps
       | apply createCtx_keeps | apply deleteCtx_keeps | apply keeps_foldl | apply keepsE_ok | apply keeps_ite
       | apply keepsE_ite
    | split | intro _

theorem ctxOp_keeps {r0 : State} (o : Origin) (op : Nat) (kind : Nat) (id : Nat) (s : State) (hk : Keeps r0 s) :
    KeepsR r0 (ctxOp o op kind id s) := by
  unfold ctxOp
  try dsimp only
  repeat' first
    | with_reducible first
      | assumption | exact keepsE_error | apply settle_keeps | apply applyCtxOp_keeps | apply keeps_foldl
       | apply keepsR_next | apply keepsE_ok | apply keeps_ite | apply keepsE_ite | apply keepsR_ite
    | split | intro _

theorem execHostCtxCreate_keeps {r0 : State} (o : Origin) (kind : Fin 16) (id : CtxId) (s : State) (hk : Keeps r0 s) :
    KeepsR r0 (execHostCtxCreate o kind id s) := by
  unfold execHostCtxCreate
  try dsimp only
  repeat' first
    | with_reducible first
      | assumption | apply ctxOp_keeps | apply keeps_foldl | apply keepsR_next | apply keeps_ite | apply keepsR_ite
    | split | intro _

theorem execHostCtxDelete_keeps {r0 : State} (o : Origin) (id : CtxId) (s : State) (hk : Keeps r0 s) :
    KeepsR r0 (execHostCtxDelete o id s) := by
  unfold execHostCtxDelete
  try dsimp only
  repeat' first
    | with_reducible first
      | assumption | apply ctxOp_keeps | apply keeps_foldl | apply keepsR_next | apply keeps_ite | apply keepsR_ite
    | split | intro _

theorem execHostCtxSetKind_keeps {r0 : State} (o : Origin) (kind : Fin 16) (id : CtxId) (s : State) (hk : Keeps r0 s) :
    KeepsR r0 (execHostCtxSetKind o kind id s) := by
  unfold execHostCtxSetKind
  try dsimp only
  repeat' first
    | with_reducible first
      | assumption | apply ctxOp_keeps | apply keeps_foldl | apply keepsR_next | apply keeps_ite | apply keepsR_ite
    | split | intro _

theorem execHostCtxSetPin_keeps {r0 : State} (o : Origin) (id : CtxId) (s : State) (hk : Keeps r0 s) :
    KeepsR r0 (execHostCtxSetPin o id s) := by
  unfold execHostCtxSetPin
  try dsimp only
  repeat' first
    | with_reducible first
      | assumption | apply ctxOp_keeps | apply keeps_foldl | apply keepsR_next | apply keeps_ite | apply keepsR_ite
    | split | intro _

theorem execHostCtxClearPin_keeps {r0 : State} (o : Origin) (id : CtxId) (s : State) (hk : Keeps r0 s) :
    KeepsR r0 (execHostCtxClearPin o id s) := by
  unfold execHostCtxClearPin
  try dsimp only
  repeat' first
    | with_reducible first
      | assumption | apply ctxOp_keeps | apply keeps_foldl | apply keepsR_next | apply keeps_ite | apply keepsR_ite
    | split | intro _

theorem pinPhase_keeps {r0 : State} (s : State) (hk : Keeps r0 s) : Keeps r0 (pinPhase s).1 := by
  unfold pinPhase
  dsimp only
  refine putPinMoves_keeps (pair_foldl hk fun t x ht => ?_)
  exact cwCountFld_keeps _ _ _ _ _ (moveCtx_keeps _ _ _ ht)

theorem placeLoop_keeps {r0 : State} (a b : Nat) : ∀ (n : Nat) (tried : List Nat) (r : State × Moves),
    Keeps r0 r.1 → Keeps r0 (placeLoop a b n tried r).1
  | 0, _, _, h => h
  | n + 1, tried, r, h => by
    unfold placeLoop
    dsimp only
    split
    · exact h
    · split
      · exact h
      · split
        · exact placeLoop_keeps a b n _ _ (cwCountFld_keeps _ _ _ _ _ (moveCtx_keeps _ _ _ h))
        · exact placeLoop_keeps a b n _ _ h

theorem placeCluster_keeps {r0 : State} (r : State × Moves) (c : Nat) (h : Keeps r0 r.1) :
    Keeps r0 (placeCluster r c).1 := by
  unfold placeCluster
  split
  · split
    · split
      · exact placeLoop_keeps _ _ _ _ _ h
      · exact h
    · exact h
  · exact h

theorem placementPhase_keeps {r0 : State} (s : State) (hk : Keeps r0 s) : Keeps r0 (placementPhase s) :=
  pair_foldl (pinPhase_keeps s hk) fun t x ht => placeCluster_keeps t x ht

end Sys2Proof.Machine
end

