-- ==== Sys2Proof/Laws/KeepEngineAlu.lean ====
section
/-! SUPPORT. Each operation of Machine/EngineAlu.lean leaves the waiting commands alone and keeps canonical form. -/

set_option linter.unusedTactic false
set_option linter.unreachableTactic false

namespace Sys2Proof.Machine

open Sys2Proof.Safety

theorem alu2_keeps {r0 : State} (i : Iss) (gD : Reg) (gA : Reg) (gB : Reg) (f : Word → Word → Word) (s : State)
    (hk : Keeps r0 s) :
    Keeps r0 (alu2 i gD gA gB f s) := by
  unfold alu2
  try dsimp only
  repeat' first
    | with_reducible first
      | assumption | apply setReg_keeps | apply issue_keeps | apply keeps_foldl | apply keeps_ite
    | split | intro _

theorem alu1_keeps {r0 : State} (i : Iss) (gD : Reg) (gA : Reg) (f : Word → Word) (s : State) (hk : Keeps r0 s) :
    Keeps r0 (alu1 i gD gA f s) := by
  unfold alu1
  try dsimp only
  repeat' first
    | with_reducible first
      | assumption | apply setReg_keeps | apply issue_keeps | apply keeps_foldl | apply keeps_ite
    | split | intro _

theorem cmp2_keeps {r0 : State} (i : Iss) (pT : Pred) (pF : Pred) (gA : Reg) (gB : Reg) (f : Word → Word → Bool)
    (s : State) (hk : Keeps r0 s) :
    Keeps r0 (cmp2 i pT pF gA gB f s) := by
  unfold cmp2
  try dsimp only
  repeat' first
    | with_reducible first
      | assumption | apply issue_keeps | apply setPred_keeps | apply keeps_foldl | apply keeps_ite
    | split | intro _

theorem shift_keeps {r0 : State} (i : Iss) (gD : Reg) (gA : Reg) (amt : Amount) (f : Word → Nat → Word) (s : State)
    (hk : Keeps r0 s) :
    Keeps r0 (shift i gD gA amt f s) := by
  unfold shift
  try dsimp only
  repeat' first
    | with_reducible first
      | assumption | apply alu2_keeps | apply alu1_keeps | apply keeps_foldl | apply keeps_ite
    | split | intro _

theorem execNop_keeps {r0 : State} (i : Iss) (s : State) (hk : Keeps r0 s) : KeepsR r0 (execNop i s) :=
  keepsR_next (issue_keeps _ _ _ _ hk fun _ h => h)

theorem execAdd_keeps {r0 : State} (i : Iss) (gD : Reg) (gA : Reg) (gB : Reg) (s : State) (hk : Keeps r0 s) :
    KeepsR r0 (execAdd i gD gA gB s) := by
  unfold execAdd
  try dsimp only
  repeat' first
    | with_reducible first
      | assumption | apply alu2_keeps | apply keeps_foldl | apply keepsR_next | apply keeps_ite | apply keepsR_ite
    | split | intro _

theorem execSub_keeps {r0 : State} (i : Iss) (gD : Reg) (gA : Reg) (gB : Reg) (s : State) (hk : Keeps r0 s) :
    KeepsR r0 (execSub i gD gA gB s) := by
  unfold execSub
  try dsimp only
  repeat' first
    | with_reducible first
      | assumption | apply alu2_keeps | apply keeps_foldl | apply keepsR_next | apply keeps_ite | apply keepsR_ite
    | split | intro _

theorem execAnd_keeps {r0 : State} (i : Iss) (gD : Reg) (gA : Reg) (gB : Reg) (s : State) (hk : Keeps r0 s) :
    KeepsR r0 (execAnd i gD gA gB s) := by
  unfold execAnd
  try dsimp only
  repeat' first
    | with_reducible first
      | assumption | apply alu2_keeps | apply keeps_foldl | apply keepsR_next | apply keeps_ite | apply keepsR_ite
    | split | intro _

theorem execOr_keeps {r0 : State} (i : Iss) (gD : Reg) (gA : Reg) (gB : Reg) (s : State) (hk : Keeps r0 s) :
    KeepsR r0 (execOr i gD gA gB s) := by
  unfold execOr
  try dsimp only
  repeat' first
    | with_reducible first
      | assumption | apply alu2_keeps | apply keeps_foldl | apply keepsR_next | apply keeps_ite | apply keepsR_ite
    | split | intro _

theorem execXor_keeps {r0 : State} (i : Iss) (gD : Reg) (gA : Reg) (gB : Reg) (s : State) (hk : Keeps r0 s) :
    KeepsR r0 (execXor i gD gA gB s) := by
  unfold execXor
  try dsimp only
  repeat' first
    | with_reducible first
      | assumption | apply alu2_keeps | apply keeps_foldl | apply keepsR_next | apply keeps_ite | apply keepsR_ite
    | split | intro _

theorem execShl_keeps {r0 : State} (i : Iss) (gD : Reg) (gA : Reg) (amt : Amount) (s : State) (hk : Keeps r0 s) :
    KeepsR r0 (execShl i gD gA amt s) := by
  unfold execShl
  try dsimp only
  repeat' first
    | with_reducible first
      | assumption | apply shift_keeps | apply keeps_foldl | apply keepsR_next | apply keeps_ite | apply keepsR_ite
    | split | intro _

theorem execShr_keeps {r0 : State} (i : Iss) (gD : Reg) (gA : Reg) (amt : Amount) (s : State) (hk : Keeps r0 s) :
    KeepsR r0 (execShr i gD gA amt s) := by
  unfold execShr
  try dsimp only
  repeat' first
    | with_reducible first
      | assumption | apply shift_keeps | apply keeps_foldl | apply keepsR_next | apply keeps_ite | apply keepsR_ite
    | split | intro _

theorem execSar_keeps {r0 : State} (i : Iss) (gD : Reg) (gA : Reg) (amt : Amount) (s : State) (hk : Keeps r0 s) :
    KeepsR r0 (execSar i gD gA amt s) := by
  unfold execSar
  try dsimp only
  repeat' first
    | with_reducible first
      | assumption | apply shift_keeps | apply keeps_foldl | apply keepsR_next | apply keeps_ite | apply keepsR_ite
    | split | intro _

theorem execMov_keeps {r0 : State} (i : Iss) (gD : Reg) (gA : Reg) (s : State) (hk : Keeps r0 s) :
    KeepsR r0 (execMov i gD gA s) := by
  unfold execMov
  try dsimp only
  repeat' first
    | with_reducible first
      | assumption | apply alu1_keeps | apply keeps_foldl | apply keepsR_next | apply keeps_ite | apply keepsR_ite
    | split | intro _

theorem execSel_keeps {r0 : State} (i : Iss) (gD : Reg) (gA : Reg) (gB : Reg) (p : Pred) (s : State) (hk : Keeps r0 s) :
    KeepsR r0 (execSel i gD gA gB p s) := by
  unfold execSel
  try dsimp only
  repeat' first
    | with_reducible first
      | assumption | apply setReg_keeps | apply issue_keeps | apply keeps_foldl | apply keepsR_next | apply keeps_ite
       | apply keepsR_ite
    | split | intro _

theorem execMin_keeps {r0 : State} (i : Iss) (gD : Reg) (gA : Reg) (gB : Reg) (s : State) (hk : Keeps r0 s) :
    KeepsR r0 (execMin i gD gA gB s) := by
  unfold execMin
  try dsimp only
  repeat' first
    | with_reducible first
      | assumption | apply alu2_keeps | apply keeps_foldl | apply keepsR_next | apply keeps_ite | apply keepsR_ite
    | split | intro _

theorem execMax_keeps {r0 : State} (i : Iss) (gD : Reg) (gA : Reg) (gB : Reg) (s : State) (hk : Keeps r0 s) :
    KeepsR r0 (execMax i gD gA gB s) := by
  unfold execMax
  try dsimp only
  repeat' first
    | with_reducible first
      | assumption | apply alu2_keeps | apply keeps_foldl | apply keepsR_next | apply keeps_ite | apply keepsR_ite
    | split | intro _

theorem execSatAdd_keeps {r0 : State} (i : Iss) (gD : Reg) (gA : Reg) (gB : Reg) (s : State) (hk : Keeps r0 s) :
    KeepsR r0 (execSatAdd i gD gA gB s) := by
  unfold execSatAdd
  try dsimp only
  repeat' first
    | with_reducible first
      | assumption | apply alu2_keeps | apply keeps_foldl | apply keepsR_next | apply keeps_ite | apply keepsR_ite
    | split | intro _

theorem execCmpEq_keeps {r0 : State} (i : Iss) (pT : Pred) (pF : Pred) (gA : Reg) (gB : Reg) (s : State)
    (hk : Keeps r0 s) :
    KeepsR r0 (execCmpEq i pT pF gA gB s) := by
  unfold execCmpEq
  try dsimp only
  repeat' first
    | with_reducible first
      | assumption | apply cmp2_keeps | apply keeps_foldl | apply keepsR_next | apply keeps_ite | apply keepsR_ite
    | split | intro _

theorem execCmpNe_keeps {r0 : State} (i : Iss) (pT : Pred) (pF : Pred) (gA : Reg) (gB : Reg) (s : State)
    (hk : Keeps r0 s) :
    KeepsR r0 (execCmpNe i pT pF gA gB s) := by
  unfold execCmpNe
  try dsimp only
  repeat' first
    | with_reducible first
      | assumption | apply cmp2_keeps | apply keeps_foldl | apply keepsR_next | apply keeps_ite | apply keepsR_ite
    | split | intro _

theorem execCmpLt_keeps {r0 : State} (i : Iss) (pT : Pred) (pF : Pred) (gA : Reg) (gB : Reg) (s : State)
    (hk : Keeps r0 s) :
    KeepsR r0 (execCmpLt i pT pF gA gB s) := by
  unfold execCmpLt
  try dsimp only
  repeat' first
    | with_reducible first
      | assumption | apply cmp2_keeps | apply keeps_foldl | apply keepsR_next | apply keeps_ite | apply keepsR_ite
    | split | intro _

theorem execCmpLtu_keeps {r0 : State} (i : Iss) (pT : Pred) (pF : Pred) (gA : Reg) (gB : Reg) (s : State)
    (hk : Keeps r0 s) :
    KeepsR r0 (execCmpLtu i pT pF gA gB s) := by
  unfold execCmpLtu
  try dsimp only
  repeat' first
    | with_reducible first
      | assumption | apply cmp2_keeps | apply keeps_foldl | apply keepsR_next | apply keeps_ite | apply keepsR_ite
    | split | intro _

theorem execMovi_keeps {r0 : State} (i : Iss) (gD : Reg) (imm : BitVec 20) (s : State) (hk : Keeps r0 s) :
    KeepsR r0 (execMovi i gD imm s) := by
  unfold execMovi
  try dsimp only
  repeat' first
    | with_reducible first
      | assumption | apply setReg_keeps | apply issue_keeps | apply keeps_foldl | apply keepsR_next | apply keeps_ite
       | apply keepsR_ite
    | split | intro _

theorem execMovh_keeps {r0 : State} (i : Iss) (gD : Reg) (gA : Reg) (imm : BitVec 16) (s : State) (hk : Keeps r0 s) :
    KeepsR r0 (execMovh i gD gA imm s) := by
  unfold execMovh
  try dsimp only
  repeat' first
    | with_reducible first
      | assumption | apply alu1_keeps | apply keeps_foldl | apply keepsR_next | apply keeps_ite | apply keepsR_ite
    | split | intro _

theorem execAddImmediate_keeps {r0 : State} (i : Iss) (gD : Reg) (gA : Reg) (imm : BitVec 20) (s : State)
    (hk : Keeps r0 s) :
    KeepsR r0 (execAddImmediate i gD gA imm s) := by
  unfold execAddImmediate
  try dsimp only
  repeat' first
    | with_reducible first
      | assumption | apply alu1_keeps | apply keeps_foldl | apply keepsR_next | apply keeps_ite | apply keepsR_ite
    | split | intro _

theorem execLex_keeps {r0 : State} (i : IssA) (gD : Reg) (gA : Reg) (lane : Fin 4) (s : State) (hk : Keeps r0 s) :
    KeepsR r0 (execLex i gD gA lane s) := by
  unfold execLex
  try dsimp only
  repeat' first
    | with_reducible first
      | assumption | apply alu1_keeps | apply keeps_foldl | apply keepsR_next | apply keeps_ite | apply keepsR_ite
    | split | intro _

theorem execLins_keeps {r0 : State} (i : IssA) (gD : Reg) (gA : Reg) (gB : Reg) (lane : Fin 4) (s : State)
    (hk : Keeps r0 s) :
    KeepsR r0 (execLins i gD gA gB lane s) := by
  unfold execLins
  try dsimp only
  repeat' first
    | with_reducible first
      | assumption | apply alu2_keeps | apply keeps_foldl | apply keepsR_next | apply keeps_ite | apply keepsR_ite
    | split | intro _

theorem execPopc_keeps {r0 : State} (i : IssA) (gD : Reg) (gA : Reg) (s : State) (hk : Keeps r0 s) :
    KeepsR r0 (execPopc i gD gA s) := by
  unfold execPopc
  try dsimp only
  repeat' first
    | with_reducible first
      | assumption | apply alu1_keeps | apply keeps_foldl | apply keepsR_next | apply keeps_ite | apply keepsR_ite
    | split | intro _

theorem execBip8_keeps {r0 : State} (i : IssA) (gD : Reg) (gA : Reg) (gB : Reg) (s : State) (hk : Keeps r0 s) :
    KeepsR r0 (execBip8 i gD gA gB s) := by
  unfold execBip8
  try dsimp only
  repeat' first
    | with_reducible first
      | assumption | apply alu2_keeps | apply keeps_foldl | apply keepsR_next | apply keeps_ite | apply keepsR_ite
    | split | intro _

end Sys2Proof.Machine
end

