-- ==== Sys2Proof/Laws/KeepEngineCounters.lean ====
section
/-! SUPPORT. Each operation of Machine/EngineCounters.lean leaves the waiting commands alone and keeps canonical form. -/

set_option linter.unusedTactic false
set_option linter.unreachableTactic false

namespace Sys2Proof.Machine

open Sys2Proof.Safety

theorem execPcSel_keeps {r0 : State} (i : IssA) (gA : Reg) (k : Fin 8) (s : State) (hk : Keeps r0 s) :
    KeepsR r0 (execPcSel i gA k s) := by
  unfold execPcSel
  try dsimp only
  repeat' first
    | with_reducible first
      | assumption | apply issue_keeps | apply outsideGrant_keeps | apply cwSet_keeps | apply keeps_foldl
       | apply keepsR_next | apply keeps_ite | apply keepsR_ite
    | split | intro _

theorem execPcRd_keeps {r0 : State} (i : IssA) (gD : Reg) (shadow : Bool) (k : Fin 10) (s : State) (hk : Keeps r0 s) :
    KeepsR r0 (execPcRd i gD shadow k s) := by
  unfold execPcRd
  try dsimp only
  repeat' first
    | with_reducible first
      | assumption | apply setReg_keeps | apply issue_keeps | apply outsideGrant_keeps | apply keeps_foldl
       | apply keepsR_next | apply keeps_ite | apply keepsR_ite
    | split | intro _

theorem execSnap_keeps {r0 : State} (i : IssA) (s : State) (hk : Keeps r0 s) :
    KeepsR r0 (execSnap i s) := by
  unfold execSnap
  try dsimp only
  repeat' first
    | with_reducible first
      | assumption | apply issue_keeps | apply putCaptures_keeps | apply outsideGrant_keeps | apply keeps_foldl
       | apply keepsR_next | apply keeps_ite | apply keepsR_ite
    | split | intro _

theorem execSnapInEdge_keeps {r0 : State} (s : State) (hk : Keeps r0 s) :
    KeepsR r0 (execSnapInEdge s) := by
  unfold execSnapInEdge
  try dsimp only
  repeat' first
    | with_reducible first
      | assumption | apply putCaptures_keeps | apply keeps_foldl | apply keepsR_next | apply keeps_ite
       | apply keepsR_ite
    | split | intro _

theorem captureEngine_keeps {r0 : State} (e : Nat) (s : State) (hk : Keeps r0 s) :
    Keeps r0 (captureEngine e s) := by
  unfold captureEngine
  try dsimp only
  repeat' first
    | with_reducible first
      | assumption | apply cwSet_keeps | apply keeps_foldl | apply keeps_ite
    | split | intro _

theorem freezeAtCapture_keeps {r0 : State} (e : Nat) (s : State) (hk : Keeps r0 s) :
    Keeps r0 (freezeAtCapture e s) := by
  unfold freezeAtCapture
  try dsimp only
  repeat' first
    | with_reducible first
      | assumption | apply cwSet_keeps | apply keeps_foldl | apply keeps_ite
    | split | intro _

theorem capture_keeps {r0 : State} (s : State) (hk : Keeps r0 s) : Keeps r0 (capture s) := by
  unfold capture
  extract_lets s1 s2 s3 s4
  have h1 : Keeps r0 s1 := keeps_foldl hk fun t e ht => freezeAtCapture_keeps _ _ (captureEngine_keeps _ _ ht)
  clear_value s1
  have h2 : Keeps r0 s2 := keeps_foldl h1 fun t e ht => cwSet_keeps _ _ _ ht
  clear_value s2
  have h3 : Keeps r0 s3 := putDecks_of (putLanes_of h2 fun c => tabMap_ok (h2.canon c).lanes_ok)
    fun c => tabMap_ok (h2.canon c).decks_ok
  clear_value s3
  exact cwSet_keeps _ _ _ (cwSet_keeps _ _ _ h3)

theorem execSnapCapture_keeps {r0 : State} (merged : Nat) (s : State) (hk : Keeps r0 s) :
    KeepsR r0 (execSnapCapture merged s) := by
  unfold execSnapCapture
  try dsimp only
  repeat' first
    | with_reducible first
      | assumption | apply putCaptures_keeps | apply capture_keeps | apply keeps_foldl | apply keepsR_next
       | apply keeps_ite | apply keepsR_ite
    | split | intro _

end Sys2Proof.Machine
end

