-- ==== Sys2Proof/Laws/KeepEngineCtx.lean ====
section
/-! SUPPORT. Each operation of Machine/EngineCtx.lean leaves the waiting commands alone and keeps canonical form. -/

set_option linter.unusedTactic false
set_option linter.unreachableTactic false

namespace Sys2Proof.Machine

open Sys2Proof.Safety

theorem execCtxLd_keeps {r0 : State} (i : IssA) (gD : Reg) (gA : Reg) (off : Fin 256) (word : Fin 128) (s : State)
    (hk : Keeps r0 s) :
    KeepsR r0 (execCtxLd i gD gA off word s) := by
  unfold execCtxLd
  try dsimp only
  repeat' first
    | with_reducible first
      | assumption | apply issue_keeps | apply readContext_keeps | apply keeps_foldl | apply keepsR_next
       | apply keeps_ite | apply keepsR_ite
    | split | intro _

theorem execCtxSt_keeps {r0 : State} (i : IssA) (gD : Reg) (gA : Reg) (off : Fin 256) (word : Fin 128) (s : State)
    (hk : Keeps r0 s) :
    KeepsR r0 (execCtxSt i gD gA off word s) := by
  unfold execCtxSt
  try dsimp only
  repeat' first
    | with_reducible first
      | assumption | apply ctxSet_keeps | apply issue_keeps | apply onContext_keeps | apply keeps_foldl
       | apply keepsR_next | apply keeps_ite | apply keepsR_ite
    | split | intro _

theorem execCtxNext_keeps {r0 : State} (i : IssA) (gD : Reg) (gA : Reg) (mask : BitVec 16) (s : State)
    (hk : Keeps r0 s) :
    KeepsR r0 (execCtxNext i gD gA mask s) := by
  unfold execCtxNext
  try dsimp only
  repeat' first
    | with_reducible first
      | assumption | apply setReg_keeps | apply issue_keeps | apply keeps_foldl | apply keepsR_next | apply keeps_ite
       | apply keepsR_ite
    | split | intro _

theorem execCtxId_keeps {r0 : State} (i : IssA) (gD : Reg) (gA : Reg) (toHandle : Bool) (s : State) (hk : Keeps r0 s) :
    KeepsR r0 (execCtxId i gD gA toHandle s) := by
  unfold execCtxId
  try dsimp only
  repeat' first
    | with_reducible first
      | assumption | apply setReg_keeps | apply issue_keeps | apply keeps_foldl | apply keepsR_next | apply keeps_ite
       | apply keepsR_ite
    | split | intro _

end Sys2Proof.Machine
end

