-- ==== Sys2Proof/Laws/KeepEngineFlow.lean ====
section
/-! SUPPORT. Each operation of Machine/EngineFlow.lean leaves the waiting commands alone and keeps canonical form. -/

set_option linter.unusedTactic false
set_option linter.unreachableTactic false

namespace Sys2Proof.Machine

open Sys2Proof.Safety

theorem goTo_keeps {r0 : State} (e : Nat) (t : Nat) (s : State) (hk : Keeps r0 s) :
    Keeps r0 (goTo e t s) := by
  unfold goTo
  try dsimp only
  repeat' first
    | with_reducible first
      | assumption | apply engPut_keeps | apply keeps_foldl | apply keeps_ite
    | split | intro _

theorem markFlow_keeps {r0 : State} (e : Nat) (s : State) (hk : Keeps r0 s) :
    Keeps r0 (markFlow e s) := by
  unfold markFlow
  try dsimp only
  repeat' first
    | with_reducible first
      | assumption | apply engPut_keeps | apply keeps_foldl | apply keeps_ite
    | split | intro _

theorem execBr_keeps {r0 : State} (i : Iss) (off : Fin 8192) (s : State) (hk : Keeps r0 s) :
    KeepsR r0 (execBr i off s) := by
  unfold execBr
  try dsimp only
  repeat' first
    | with_reducible first
      | assumption | apply issue_keeps | apply engPut_keeps | apply keeps_foldl | apply keepsR_next | apply keeps_ite
       | apply keepsR_ite
    | split | intro _

theorem skipIfFalse_keeps {r0 : State} (i : IssA) (last : Nat) (s : State) (hk : Keeps r0 s) :
    Keeps r0 (skipIfFalse i last s) := by
  unfold skipIfFalse
  try dsimp only
  repeat' first
    | with_reducible first
      | assumption | apply goTo_keeps | apply keeps_foldl | apply keeps_ite
    | split | intro _

theorem execLoop_keeps {r0 : State} (i : IssA) (n : Fin 4096) (last : Fin 8192) (s : State) (hk : Keeps r0 s) :
    KeepsR r0 (execLoop i n last s) := by
  unfold execLoop
  try dsimp only
  repeat' first
    | with_reducible first
      | assumption | apply skipIfFalse_keeps | apply issue_keeps | apply markFlow_keeps | apply engPut_keeps
       | apply keeps_foldl | apply keepsR_next | apply keeps_ite | apply keepsR_ite
    | split | intro _

theorem execLoopContext_keeps {r0 : State} (i : IssA) (gD : Reg) (mask : BitVec 16) (last : Fin 8192) (s : State)
    (hk : Keeps r0 s) :
    KeepsR r0 (execLoopContext i gD mask last s) := by
  unfold execLoopContext
  try dsimp only
  repeat' first
    | with_reducible first
      | assumption | apply goTo_keeps | apply setReg_keeps | apply skipIfFalse_keeps | apply issue_keeps
       | apply markFlow_keeps | apply engPut_keeps | apply keeps_foldl | apply keepsR_next | apply keeps_ite
       | apply keepsR_ite
    | split | intro _

theorem execEndl_keeps {r0 : State} (i : Iss) (s : State) (hk : Keeps r0 s) :
    KeepsR r0 (execEndl i s) := by
  unfold execEndl
  try dsimp only
  repeat' first
    | with_reducible first
      | assumption | apply goTo_keeps | apply setReg_keeps | apply issue_keeps | apply engPut_keeps
       | apply keeps_foldl | apply keepsR_next | apply keeps_ite | apply keepsR_ite
    | split | intro _

theorem waitAll_keeps {r0 : State} (e : Nat) (s : State) (hk : Keeps r0 s) :
    Keeps r0 (waitAll e s) := by
  unfold waitAll
  try dsimp only
  repeat' first
    | with_reducible first
      | assumption | apply engPut_keeps | apply keeps_foldl | apply keeps_ite
    | split | intro _

theorem execCall_keeps {r0 : State} (i : IssA) (target : Fin 8192) (s : State) (hk : Keeps r0 s) :
    KeepsR r0 (execCall i target s) := by
  unfold execCall
  try dsimp only
  repeat' first
    | with_reducible first
      | assumption | apply goTo_keeps | apply issue_keeps | apply markFlow_keeps | apply waitAll_keeps
       | apply engPut_keeps | apply keeps_foldl | apply keepsR_next | apply keeps_ite | apply keepsR_ite
    | split | intro _

theorem execRet_keeps {r0 : State} (i : IssA) (s : State) (hk : Keeps r0 s) :
    KeepsR r0 (execRet i s) := by
  unfold execRet
  try dsimp only
  repeat' first
    | with_reducible first
      | assumption | apply goTo_keeps | apply issue_keeps | apply markFlow_keeps | apply waitAll_keeps
       | apply engPut_keeps | apply keeps_foldl | apply keepsR_next | apply keeps_ite | apply keepsR_ite
    | split | intro _

theorem execHaltTick_keeps {r0 : State} (i : IssA) (s : State) (hk : Keeps r0 s) :
    KeepsR r0 (execHaltTick i s) := by
  unfold execHaltTick
  try dsimp only
  repeat' first
    | with_reducible first
      | assumption | apply issue_keeps | apply engPut_keeps | apply keeps_foldl | apply keepsR_next | apply keeps_ite
       | apply keepsR_ite
    | split | intro _

end Sys2Proof.Machine
end

