-- ==== Sys2Proof/Laws/KeepEngineQueue.lean ====
section
/-! SUPPORT. Each operation of Machine/EngineQueue.lean leaves the waiting commands alone and keeps canonical form. -/

set_option linter.unusedTactic false
set_option linter.unreachableTactic false

namespace Sys2Proof.Machine

open Sys2Proof.Safety

theorem execQOpen_keeps {r0 : State} (i : IssA) (gA : Reg) (q : HqId) (s : State) (hk : Keeps r0 s) :
    KeepsR r0 (execQOpen i gA q s) := by
  unfold execQOpen
  try dsimp only
  repeat' first
    | with_reducible first
      | assumption | apply issue_keeps | apply engPut_keeps | apply keeps_foldl | apply keepsR_next | apply keeps_ite
       | apply keepsR_ite
    | split | intro _

theorem execQPut_keeps {r0 : State} (i : IssA) (gA : Reg) (s : State) (hk : Keeps r0 s) :
    KeepsR r0 (execQPut i gA s) := by
  unfold execQPut
  try dsimp only
  repeat' first
    | with_reducible first
      | assumption | apply issue_keeps | apply engPut_keeps | apply keeps_foldl | apply keepsR_next | apply keeps_ite
       | apply keepsR_ite
    | split | intro _

theorem execQClose_keeps {r0 : State} (i : IssA) (s : State) (hk : Keeps r0 s) :
    KeepsR r0 (execQClose i s) := by
  unfold execQClose
  try dsimp only
  repeat' first
    | with_reducible first
      | assumption | apply engErr_keeps | apply issue_keeps | apply hqAppend_keeps | apply engPut_keeps
       | apply keeps_foldl | apply keepsR_next | apply keeps_ite | apply keepsR_ite
    | split | intro _

theorem execQAbort_keeps {r0 : State} (i : IssA) (s : State) (hk : Keeps r0 s) :
    KeepsR r0 (execQAbort i s) := by
  unfold execQAbort
  try dsimp only
  repeat' first
    | with_reducible first
      | assumption | apply issue_keeps | apply engPut_keeps | apply keeps_foldl | apply keepsR_next | apply keeps_ite
       | apply keepsR_ite
    | split | intro _

end Sys2Proof.Machine
end

