-- ==== Sys2Proof/Laws/KeepFraming.lean ====
section
/-! SUPPORT. Each operation of Machine/Framing.lean leaves the waiting commands alone and keeps canonical form. -/

set_option linter.unusedTactic false
set_option linter.unreachableTactic false

namespace Sys2Proof.Machine

open Sys2Proof.Safety

theorem frmStore_keeps {r0 : State} (u : Nat) (n : Nat) (w : Nat) (v : Word) (s : State) (hk : Keeps r0 s) :
    Keeps r0 (frmStore u n w v s) := by
  unfold frmStore
  try dsimp only
  repeat' first
    | with_reducible first
      | assumption | apply cwSet_keeps | apply keeps_foldl | apply keeps_ite
    | split | intro _

theorem applyFrm_keeps {r0 : State} (plan : State) (u : Nat) (n : Nat) (w : Nat) (v : Word) (s : State)
    (hk : Keeps r0 s) :
    KeepsE r0 (applyFrm plan u n w v s) := by
  unfold applyFrm
  try dsimp only
  repeat' first
    | with_reducible first
      | assumption | exact keepsE_error | apply refreshStream_keeps | apply closeAll_keeps | apply framerPut_keeps
       | apply frmStore_keeps | apply preemptTest_keeps | apply settleDefs_keeps | apply restartStream_keeps
       | apply keeps_foldl | apply keepsE_ok | apply keeps_ite | apply keepsE_ite
    | split | intro _

theorem frmPlan_keeps {r0 : State} (u : Nat) (n : Nat) (ws : List FrmWrite) (s : State) (hk : Keeps r0 s) :
    Keeps r0 (frmPlan u n ws s) := by
  unfold frmPlan
  try dsimp only
  repeat' first
    | with_reducible first
      | assumption | apply frmStore_keeps | apply keeps_foldl | apply keeps_ite
    | split | intro _

theorem execFrmCfg_keeps {r0 : State} (r : StreamRef) (ws : List FrmWrite) (s : State) (hk : Keeps r0 s) :
    KeepsR r0 (execFrmCfg r ws s) := by
  unfold execFrmCfg
  try dsimp only
  repeat' first
    | with_reducible first
      | assumption | exact keepsE_error | apply frmPlan_keeps | apply settle_keeps | apply applyFrm_keeps
       | apply keeps_foldl | apply keepsR_next | apply keepsE_ok | apply keeps_ite | apply keepsE_ite
       | apply keepsR_ite
    | split | intro _

theorem execFrmThr_keeps {r0 : State} (r : StreamRef) (w : CtlWrite) (s : State) (hk : Keeps r0 s) :
    KeepsR r0 (execFrmThr r w s) := by
  unfold execFrmThr
  try dsimp only
  repeat' first
    | with_reducible first
      | assumption | exact keepsE_error | apply settle_keeps | apply frmStore_keeps | apply applyFrm_keeps
       | apply keeps_foldl | apply keepsR_next | apply keepsE_ok | apply keeps_ite | apply keepsE_ite
       | apply keepsR_ite
    | split | intro _

theorem execFrmTime_keeps {r0 : State} (r : StreamRef) (w : CtlWrite) (s : State) (hk : Keeps r0 s) :
    KeepsR r0 (execFrmTime r w s) := by
  unfold execFrmTime
  try dsimp only
  repeat' first
    | with_reducible first
      | assumption | exact keepsE_error | apply settle_keeps | apply frmStore_keeps | apply applyFrm_keeps
       | apply keeps_foldl | apply keepsR_next | apply keepsE_ok | apply keeps_ite | apply keepsE_ite
       | apply keepsR_ite
    | split | intro _

theorem clearFrmCounts_keeps {r0 : State} (u : Nat) (n : Nat) (s : State) (hk : Keeps r0 s) :
    Keeps r0 (clearFrmCounts u n s) := by
  unfold clearFrmCounts
  try dsimp only
  repeat' first
    | with_reducible first
      | assumption | apply framerPut_keeps | apply keeps_foldl | apply keeps_ite
    | split | intro _

theorem execFrmCntClr_keeps {r0 : State} (r : StreamRef) (s : State) (hk : Keeps r0 s) :
    KeepsR r0 (execFrmCntClr r s) := by
  unfold execFrmCntClr
  try dsimp only
  repeat' first
    | with_reducible first
      | assumption | apply clearFrmCounts_keeps | apply keeps_foldl | apply keepsR_next | apply keeps_ite
       | apply keepsR_ite
    | split | intro _

theorem openCand_keeps {r0 : State} (u : Nat) (n : Nat) (m : Nat) (offset : Nat) (mf : Nat) (s : State)
    (hk : Keeps r0 s) :
    Keeps r0 (openCand u n m offset mf s) := by
  unfold openCand
  try dsimp only
  repeat' first
    | with_reducible first
      | assumption | apply frmEvent_keeps | apply framerPut_keeps | apply trackerPut_keeps | apply keeps_foldl
       | apply keeps_ite
    | split | intro _

theorem execCandidateOpen_keeps {r0 : State} (r : StreamRef) (member : Fin 64) (offset : Nat) (mf : Nat) (s : State)
    (hk : Keeps r0 s) :
    KeepsR r0 (execCandidateOpen r member offset mf s) := by
  unfold execCandidateOpen
  try dsimp only
  repeat' first
    | with_reducible first
      | assumption | apply refreshStream_keeps | apply openCand_keeps | apply keeps_foldl | apply keepsR_next
       | apply keeps_ite | apply keepsR_ite
    | split | intro _

theorem countMimic_keeps {r0 : State} (u : Nat) (n : Nat) (s : State) (hk : Keeps r0 s) :
    Keeps r0 (countMimic u n s) := by
  unfold countMimic
  try dsimp only
  repeat' first
    | with_reducible first
      | assumption | apply frmEvent_keeps | apply framerPut_keeps | apply keeps_foldl | apply keeps_ite
    | split | intro _

theorem checkCand_keeps {r0 : State} (u : Nat) (n : Nat) (m : Nat) (offset : Nat) (faOk : Bool) (mf : Nat) (s : State)
    (hk : Keeps r0 s) :
    Keeps r0 (checkCand u n m offset faOk mf s) := by
  unfold checkCand
  try dsimp only
  repeat' first
    | with_reducible first
      | assumption | apply openCand_keeps | apply trackerPut_keeps | apply countMimic_keeps | apply keeps_foldl
       | apply keeps_ite
    | split | intro _

theorem execCandidateCheck_keeps {r0 : State} (r : StreamRef) (member : Fin 64) (offset : Nat) (faOk : Bool)
    (mf : Nat) (s : State) (hk : Keeps r0 s) :
    KeepsR r0 (execCandidateCheck r member offset faOk mf s) := by
  unfold execCandidateCheck
  try dsimp only
  repeat' first
    | with_reducible first
      | assumption | apply refreshStream_keeps | apply checkCand_keeps | apply keeps_foldl | apply keepsR_next
       | apply keeps_ite | apply keepsR_ite
    | split | intro _

theorem windowEnd_keeps {r0 : State} (u : Nat) (n : Nat) (m : Nat) (s : State) (hk : Keeps r0 s) :
    Keeps r0 (windowEnd u n m s) := by
  unfold windowEnd
  try dsimp only
  repeat' first
    | with_reducible first
      | assumption | apply frmEvent_keeps | apply framerPut_keeps | apply trackerPut_keeps | apply keeps_foldl
       | apply keeps_ite
    | split | intro _

theorem execFramerWindowEnd_keeps {r0 : State} (r : StreamRef) (member : Fin 64) (s : State) (hk : Keeps r0 s) :
    KeepsR r0 (execFramerWindowEnd r member s) := by
  unfold execFramerWindowEnd
  try dsimp only
  repeat' first
    | with_reducible first
      | assumption | apply refreshStream_keeps | apply windowEnd_keeps | apply keeps_foldl | apply keepsR_next
       | apply keeps_ite | apply keepsR_ite
    | split | intro _

theorem execOofDeclare_keeps {r0 : State} (r : StreamRef) (member : Fin 64) (s : State) (hk : Keeps r0 s) :
    KeepsR r0 (execOofDeclare r member s) := by
  unfold execOofDeclare
  try dsimp only
  repeat' first
    | with_reducible first
      | assumption | apply refreshStream_keeps | apply frmEvent_keeps | apply framerPut_keeps | apply trackerPut_keeps
       | apply keeps_foldl | apply keepsR_next | apply keeps_ite | apply keepsR_ite
    | split | intro _

theorem mfFrame_keeps {r0 : State} (u : Nat) (n : Nat) (mf : Nat) (s : State) (hk : Keeps r0 s) :
    Keeps r0 (mfFrame u n mf s) := by
  unfold mfFrame
  try dsimp only
  repeat' first
    | with_reducible first
      | assumption | apply framerPut_keeps | apply keeps_foldl | apply keeps_ite
    | split | intro _

theorem execMfOom_keeps {r0 : State} (r : StreamRef) (s : State) (hk : Keeps r0 s) :
    KeepsR r0 (execMfOom r s) := by
  unfold execMfOom
  try dsimp only
  repeat' first
    | with_reducible first
      | assumption | apply framerPut_keeps | apply keeps_foldl | apply keepsR_next | apply keeps_ite
       | apply keepsR_ite
    | split | intro _

theorem execMfIm_keeps {r0 : State} (r : StreamRef) (s : State) (hk : Keeps r0 s) :
    KeepsR r0 (execMfIm r s) := by
  unfold execMfIm
  try dsimp only
  repeat' first
    | with_reducible first
      | assumption | apply framerPut_keeps | apply keeps_foldl | apply keepsR_next | apply keeps_ite
       | apply keepsR_ite
    | split | intro _

theorem laneLofSet_keeps {r0 : State} (k : Nat) (lane : Nat) (on : Bool) (s : State) (hk : Keeps r0 s) :
    Keeps r0 (laneLofSet k lane on s) := by
  unfold laneLofSet
  try dsimp only
  repeat' first
    | with_reducible first
      | assumption | apply framerPut_keeps | apply keeps_foldl | apply keeps_ite
    | split | intro _

theorem execLofSet_keeps {r0 : State} (r : StreamRef) (lane : Option (Fin 20)) (s : State) (hk : Keeps r0 s) :
    KeepsR r0 (execLofSet r lane s) := by
  unfold execLofSet
  try dsimp only
  repeat' first
    | with_reducible first
      | assumption | apply frmEvent_keeps | apply laneLofSet_keeps | apply framerPut_keeps | apply settleDefs_keeps
       | apply keeps_foldl | apply keepsR_next | apply keeps_ite | apply keepsR_ite
    | split | intro _

theorem execLofClr_keeps {r0 : State} (r : StreamRef) (lane : Option (Fin 20)) (s : State) (hk : Keeps r0 s) :
    KeepsR r0 (execLofClr r lane s) := by
  unfold execLofClr
  try dsimp only
  repeat' first
    | with_reducible first
      | assumption | apply frmEvent_keeps | apply laneLofSet_keeps | apply framerPut_keeps | apply settleDefs_keeps
       | apply keeps_foldl | apply keepsR_next | apply keeps_ite | apply keepsR_ite
    | split | intro _

theorem execLomSet_keeps {r0 : State} (r : StreamRef) (s : State) (hk : Keeps r0 s) :
    KeepsR r0 (execLomSet r s) := by
  unfold execLomSet
  try dsimp only
  repeat' first
    | with_reducible first
      | assumption | apply frmEvent_keeps | apply framerPut_keeps | apply settleDefs_keeps | apply keeps_foldl
       | apply keepsR_next | apply keeps_ite | apply keepsR_ite
    | split | intro _

theorem execLomClr_keeps {r0 : State} (r : StreamRef) (s : State) (hk : Keeps r0 s) :
    KeepsR r0 (execLomClr r s) := by
  unfold execLomClr
  try dsimp only
  repeat' first
    | with_reducible first
      | assumption | apply frmEvent_keeps | apply framerPut_keeps | apply settleDefs_keeps | apply keeps_foldl
       | apply keepsR_next | apply keeps_ite | apply keepsR_ite
    | split | intro _

theorem execLolChange_keeps {r0 : State} (r : StreamRef) (idOk : Bool) (skew : Nat) (latest : Nat) (earliest : Nat)
    (locked : Nat) (s : State) (hk : Keeps r0 s) :
    KeepsR r0 (execLolChange r idOk skew latest earliest locked s) := by
  unfold execLolChange
  try dsimp only
  repeat' first
    | with_reducible first
      | assumption | apply refreshStream_keeps | apply frmEvent_keeps | apply framerPut_keeps
       | apply closeFrameLayer_keeps | apply settleDefs_keeps | apply keeps_foldl | apply keepsR_next
       | apply keeps_ite | apply keepsR_ite
    | split | intro _

theorem execPcsAlignStatus_keeps {r0 : State} (r : StreamRef) (phy : Fin 8) (up : Bool) (locked : Nat) (s : State)
    (hk : Keeps r0 s) :
    KeepsR r0 (execPcsAlignStatus r phy up locked s) := by
  unfold execPcsAlignStatus
  try dsimp only
  repeat' first
    | with_reducible first
      | assumption | apply refreshStream_keeps | apply framerPut_keeps | apply trackerPut_keeps | apply keeps_foldl
       | apply keepsR_next | apply keeps_ite | apply keepsR_ite
    | split | intro _

theorem execLaneAdaptDone_keeps {r0 : State} (l : LaneRef) (eq : List Word) (snr : Fin 256) (s : State)
    (hk : Keeps r0 s) :
    KeepsR r0 (execLaneAdaptDone l eq snr s) := by
  unfold execLaneAdaptDone
  try dsimp only
  repeat' first
    | with_reducible first
      | assumption | apply releaseStream_keeps | apply adaptEq_keeps | apply lanePut_keeps | apply keeps_foldl
       | apply keepsR_next | apply keeps_ite | apply keepsR_ite
    | split | intro _

theorem execLaneDown_keeps {r0 : State} (l : LaneRef) (cdrLost : Bool) (sigLost : Bool) (s : State) (hk : Keeps r0 s) :
    KeepsR r0 (execLaneDown l cdrLost sigLost s) := by
  unfold execLaneDown
  try dsimp only
  repeat' first
    | with_reducible first
      | assumption | apply laneEvent_keeps | apply laneLeft_keeps | apply lanePut_keeps | apply cenInc_keeps
       | apply keeps_foldl | apply keepsR_next | apply keeps_ite | apply keepsR_ite
    | split | intro _

theorem applyFecCfg_keeps {r0 : State} (plan : State) (side : Nat) (lane : Nat) (v : Word) (s : State)
    (hk : Keeps r0 s) :
    KeepsE r0 (applyFecCfg plan side lane v s) := by
  unfold applyFecCfg
  try dsimp only
  repeat' first
    | with_reducible first
      | assumption | exact keepsE_error | apply cwSet_keeps | apply keeps_foldl | apply keepsE_ok | apply keeps_ite
       | apply keepsE_ite
    | split | intro _

theorem execFecCfg_keeps {r0 : State} (l : LaneRef) (w : CtlWrite) (s : State) (hk : Keeps r0 s) :
    KeepsR r0 (execFecCfg l w s) := by
  unfold execFecCfg
  try dsimp only
  repeat' first
    | with_reducible first
      | assumption | exact keepsE_error | apply settle_keeps | apply applyFecCfg_keeps | apply keeps_foldl
       | apply keepsR_next | apply keepsE_ok | apply keeps_ite | apply keepsE_ite | apply keepsR_ite
    | split | intro _

theorem clearFec_keeps {r0 : State} (side : Nat) (lane : Nat) (s : State) (hk : Keeps r0 s) :
    Keeps r0 (clearFec side lane s) := by
  unfold clearFec
  try dsimp only
  repeat' first
    | with_reducible first
      | assumption | apply cwSet_keeps | apply keeps_foldl | apply keeps_ite
    | split | intro _

theorem execFecCntClr_keeps {r0 : State} (l : LaneRef) (s : State) (hk : Keeps r0 s) :
    KeepsR r0 (execFecCntClr l s) := by
  unfold execFecCntClr
  try dsimp only
  repeat' first
    | with_reducible first
      | assumption | apply clearFec_keeps | apply keeps_foldl | apply keepsR_next | apply keeps_ite | apply keepsR_ite
    | split | intro _

end Sys2Proof.Machine
end

