-- ==== Sys2Proof/Laws/KeepLoader.lean ====
section
/-! SUPPORT. Each operation of Machine/Loader.lean leaves the waiting commands alone and keeps canonical form. -/

set_option linter.unusedTactic false
set_option linter.unreachableTactic false

namespace Sys2Proof.Machine

open Sys2Proof.Safety

theorem scratchPut_keeps {r0 : State} (at_ : Nat) (ls : List (BitVec 288)) (s : State) (hk : Keeps r0 s) :
    Keeps r0 (scratchPut at_ ls s) :=
  putScratch_keeps hk fun c => tabFold_ok c.scratch_ok fun _ _ ht => tabSet_ok' ht

end Sys2Proof.Machine
end

