-- ==== Sys2Proof/Laws/KeepSecurity.lean ====
section
/-! SUPPORT. Each operation of Machine/Security.lean leaves the waiting commands alone and keeps canonical form. -/

set_option linter.unusedTactic false
set_option linter.unreachableTactic false

namespace Sys2Proof.Machine

open Sys2Proof.Safety

theorem issueHub_keeps {r0 : State} (i : IssA) (u : Use) (body : State → State) (s : State) (hk : Keeps r0 s)
    (hbody : ∀ y0, Keeps r0 y0 → Keeps r0 (body y0)) :
    Keeps r0 (issueHub i u body s) := by
  unfold issueHub
  try dsimp only
  repeat' first
    | with_reducible first
      | assumption | apply issue_keeps | apply hbody | apply keeps_foldl | apply keeps_ite
    | split | intro _

theorem status_keeps {r0 : State} (gD : Nat) (st : Nat) (s : State) (hk : Keeps r0 s) :
    Keeps r0 (status gD st s) := by
  unfold status
  try dsimp only
  repeat' first
    | with_reducible first
      | assumption | apply setReg_keeps | apply keeps_foldl | apply keeps_ite
    | split | intro _

theorem waitAt_keeps {r0 : State} (op : LongOp) (gD : Nat) (s : State) (hk : Keeps r0 s) :
    Keeps r0 (waitAt op gD s) := by
  unfold waitAt
  try dsimp only
  repeat' first
    | with_reducible first
      | assumption | apply putLong_keeps | apply engPut_keeps | apply keeps_foldl | apply keeps_ite
    | split | intro _

theorem endLong_keeps {r0 : State} (st : Nat) (s : State) (hk : Keeps r0 s) :
    Keeps r0 (endLong st s) := by
  unfold endLong
  try dsimp only
  repeat' first
    | with_reducible first
      | assumption | apply putSuspended_keeps | apply putLong_keeps | apply engPut_keeps | apply keeps_foldl
       | apply keeps_ite
    | split | intro _

theorem batchMap_keeps {r0 : State} (f : BatchRun → BatchRun) (s : State) (hk : Keeps r0 s) :
    Keeps r0 (batchMap f s) := by
  unfold batchMap
  try dsimp only
  repeat' first
    | with_reducible first
      | assumption | apply putBatch_keeps | apply keeps_foldl | apply keeps_ite
    | split | intro _

theorem spend_keeps {r0 : State} (n : Nat) (s : State) (hk : Keeps r0 s) :
    Keeps r0 (spend n s) := by
  unfold spend
  try dsimp only
  repeat' first
    | with_reducible first
      | assumption | apply putFreeUses_keeps | apply keeps_foldl | apply keeps_ite
    | split | intro _

theorem execPower_keeps {r0 : State} (i : IssA) (gA : Reg) (ladder : Fin 8) (s : State) (hk : Keeps r0 s) :
    KeepsR r0 (execPower i gA ladder s) := by
  unfold execPower
  try dsimp only
  repeat' first
    | with_reducible first
      | assumption | apply issue_keeps | apply stage_keeps | apply keeps_foldl | apply keepsR_next | apply keeps_ite
       | apply keepsR_ite
    | split | intro _

theorem landPower_keeps {r0 : State} (o : Origin) (d : Nat) (st : Nat) (s : State) (hk : Keeps r0 s) :
    Keeps r0 (landPower o d st s) := by
  unfold landPower
  try dsimp only
  repeat' first
    | with_reducible first
      | assumption | exact keepsE_error | apply settle_keeps | apply enterDormant_keeps | apply applyReq_keeps
       | apply keeps_foldl | apply keepsE_ok | apply keeps_ite | apply keepsE_ite
    | split | intro _

theorem refuseStore_keeps {r0 : State} (target : Nat) (gD : Nat) (st : Nat) (s : State) (hk : Keeps r0 s) :
    Keeps r0 (refuseStore target gD st s) := by
  unfold refuseStore
  try dsimp only
  repeat' first
    | with_reducible first
      | assumption | apply status_keeps | apply putNvm_keeps | apply keeps_foldl | apply keeps_ite
    | refine fun (c : Canon _) => ?_ | exact ⟨c.nvmA_ok, c.nvmB_ok, c.busy_ok⟩ | split | intro _

theorem execStore_keeps {r0 : State} (target : Nat) (i : IssA) (gD gA gB : Reg)
    (job : State → List (BitVec 288) → Except Nat StoreJob) (s : State) (hk : Keeps r0 s)
    (hj : ∀ t ls j, Canon t → job t ls = .ok j → jobOk (some j) = true) :
    KeepsR r0 (execStore target i gD gA gB job s) := by
  unfold execStore
  refine keepsR_next (issueHub_keeps _ _ _ _ hk fun t ht => ?_)
  dsimp only
  split
  · exact status_keeps _ _ _ ht
  split
  · exact refuseStore_keeps _ _ _ _ ht
  split
  · exact refuseStore_keeps _ _ _ _ ht
  split
  · exact refuseStore_keeps _ _ _ _ ht
  · rename_i e
    exact waitAt_keeps _ _ _ (putNvm_keeps ht fun c => ⟨c.nvmA_ok, c.nvmB_ok, hj _ _ _ c e⟩)

theorem execStoreStarter_keeps {r0 : State} (i : IssA) (gD gA gB : Reg) (s : State) (hk : Keeps r0 s) :
    KeepsR r0 (execStoreStarter i gD gA gB s) := by
  unfold execStoreStarter
  refine execStore_keeps _ _ _ _ _ _ _ hk fun t ls j c h => ?_
  try dsimp only at h
  split at h
  · rename_i b st _ e
    split at h
    · cases h
      have k := c.sealed_ok
      rw [e] at k
      exact k
    · cases h
  · cases h

theorem execStoreFw_keeps {r0 : State} (i : IssA) (gD gA gB : Reg) (sigOk : Bool) (s : State) (hk : Keeps r0 s) :
    KeepsR r0 (execStoreFw i gD gA gB sigOk s) := by
  unfold execStoreFw
  refine execStore_keeps _ _ _ _ _ _ _ hk fun t ls j c h => ?_
  try dsimp only at h
  repeat' split at h
  all_goals cases h
  all_goals rfl

theorem execStoreOwner_keeps {r0 : State} (i : IssA) (gD gA gB : Reg) (sigOk bindOk : Bool) (s : State) (hk : Keeps r0 s) :
    KeepsR r0 (execStoreOwner i gD gA gB sigOk bindOk s) := by
  unfold execStoreOwner
  refine execStore_keeps _ _ _ _ _ _ _ hk fun t ls j c h => ?_
  try dsimp only at h
  repeat' split at h
  all_goals cases h
  all_goals rfl

theorem execStoreFloors_keeps {r0 : State} (i : IssA) (gD gA gB : Reg) (s : State) (hk : Keeps r0 s) :
    KeepsR r0 (execStoreFloors i gD gA gB s) := by
  unfold execStoreFloors
  refine execStore_keeps _ _ _ _ _ _ _ hk fun t ls j c h => ?_
  try dsimp only at h
  repeat' split at h
  all_goals cases h
  all_goals rfl

theorem execStorePair_keeps {r0 : State} (i : IssA) (gD gA gB : Reg) (sigOk : Bool) (s : State) (hk : Keeps r0 s) :
    KeepsR r0 (execStorePair i gD gA gB sigOk s) := by
  unfold execStorePair
  refine execStore_keeps _ _ _ _ _ _ _ hk fun t ls j c h => ?_
  try dsimp only at h
  repeat' split at h
  all_goals cases h
  all_goals rfl

theorem changeOwner_keeps {r0 : State} (r : OwnerRec) (s : State) (hk : Keeps r0 s) : Keeps r0 (changeOwner r s) :=
  batchMap_keeps _ _ (putNvm_keeps hk fun c => ⟨rfl, rfl, c.busy_ok⟩)

theorem storeJob_keeps {r0 : State} (j : StoreJob) (s : State) (hk : Keeps r0 s) (hj : Canon s → jobOk (some j) = true) :
    Keeps r0 (storeJob j s) := by
  unfold storeJob
  dsimp only
  split
  · refine putNvm_keeps hk fun c => ?_
    have k := copiesStore_ok (p := starterOk) (hj c) c.nvmA_ok c.nvmB_ok
    exact ⟨k.1, k.2, c.busy_ok⟩
  · split <;> exact putNvm_keeps hk fun c => ⟨c.nvmA_ok, c.nvmB_ok, c.busy_ok⟩
  · split
    · exact putClaimed_keeps (putResetDue_keeps (putNvm_keeps hk fun c => ⟨c.nvmA_ok, c.nvmB_ok, c.busy_ok⟩))
    · exact changeOwner_keeps _ _ hk
  · exact putNvm_keeps hk fun c => ⟨c.nvmA_ok, c.nvmB_ok, c.busy_ok⟩
  · exact putNvm_keeps hk fun c => ⟨c.nvmA_ok, c.nvmB_ok, c.busy_ok⟩

theorem execStoreComplete_keeps {r0 : State} (s : State) (hk : Keeps r0 s) : KeepsR r0 (execStoreComplete s) := by
  unfold execStoreComplete
  apply keepsR_next
  split
  · exact hk
  · rename_i j e
    refine endLong_keeps _ _ (putNvm_keeps (cenInc_keeps _ _ (storeJob_keeps _ _ hk fun c => ?_))
      fun c => ⟨c.nvmA_ok, c.nvmB_ok, rfl⟩)
    have k := c.busy_ok
    rwa [e] at k

theorem execSeal_keeps {r0 : State} (i : IssA) (gD : Reg) (s : State) (hk : Keeps r0 s) :
    KeepsR r0 (execSeal i gD s) := by
  unfold execSeal
  try dsimp only
  repeat' first
    | with_reducible first
      | assumption | apply status_keeps | apply issueHub_keeps | apply waitAt_keeps | apply keeps_foldl
       | apply keepsR_next | apply keeps_ite | apply keepsR_ite
    | split | intro _

theorem takeSeal_keeps {r0 : State} (s : State) (hk : Keeps r0 s) : Keeps r0 (takeSeal s) := by
  unfold takeSeal
  split
  · refine endLong_keeps _ _ (batchMap_keeps _ _ (putSec_keeps hk fun c => ?_))
    unfold sealedStarter
    dsimp only
    split
    · split
      · exact c.bank_ok
      · rfl
    · exact starterOf_ok c
  · exact hk

theorem execAttest_keeps {r0 : State} (i : IssA) (gD : Reg) (gA : Reg) (gB : Reg) (s : State) (hk : Keeps r0 s) :
    KeepsR r0 (execAttest i gD gA gB s) := by
  unfold execAttest
  try dsimp only
  repeat' first
    | with_reducible first
      | assumption | apply scratchPut_keeps | apply status_keeps | apply spend_keeps | apply issueHub_keeps
       | apply keeps_foldl | apply keepsR_next | apply keeps_ite | apply keepsR_ite
    | split | intro _

theorem execLoafLoad_keeps {r0 : State} (i : IssA) (gD : Reg) (gA : Reg) (gB : Reg) (sigOk : Bool) (s : State)
    (hk : Keeps r0 s) :
    KeepsR r0 (execLoafLoad i gD gA gB sigOk s) := by
  unfold execLoafLoad
  try dsimp only
  repeat' first
    | with_reducible first
      | assumption | apply status_keeps | apply issueHub_keeps | apply cenInc_keeps | apply waitAt_keeps
       | apply keeps_foldl | apply keepsR_next | apply keeps_ite | apply keepsR_ite
    | split | intro _

theorem execLoafLoadComplete_keeps {r0 : State} (s : State) (hk : Keeps r0 s) :
    KeepsR r0 (execLoafLoadComplete s) := by
  unfold execLoafLoadComplete
  try dsimp only
  repeat' first
    | with_reducible first
      | assumption | apply endLong_keeps | apply putLoafNext_keeps | apply keeps_foldl | apply keepsR_next
       | apply keeps_ite | apply keepsR_ite
    | split | intro _

theorem execKeyGen_keeps {r0 : State} (i : IssA) (gD : Reg) (gB : Reg) (slot : Fin 4) (s : State) (hk : Keeps r0 s) :
    KeepsR r0 (execKeyGen i gD gB slot s) := by
  unfold execKeyGen
  try dsimp only
  repeat' first
    | with_reducible first
      | assumption | apply putSec_keeps | apply scratchPut_keeps | apply status_keeps | apply spend_keeps
       | apply issueHub_keeps | apply keeps_foldl | apply keepsR_next | apply keeps_ite | apply keepsR_ite
    | refine fun (c : Canon _) => ?_ | exact (c.sealed_ok :) | exact rfl | split | intro _

theorem keyUse_keeps {r0 : State} (i : IssA) (gD : Reg) (gA : Reg) (gB : Reg) (slot : Nat) (inLines : Nat)
    (outLines : Nat) (out : State → List Nat) (s : State) (hk : Keeps r0 s) :
    KeepsR r0 (keyUse i gD gA gB slot inLines outLines out s) := by
  unfold keyUse
  try dsimp only
  repeat' first
    | with_reducible first
      | assumption | apply scratchPut_keeps | apply status_keeps | apply spend_keeps | apply issueHub_keeps
       | apply keeps_foldl | apply keepsR_next | apply keeps_ite | apply keepsR_ite
    | split | intro _

theorem execKeyUseSign_keeps {r0 : State} (i : IssA) (gD : Reg) (gA : Reg) (gB : Reg) (slot : Fin 4) (s : State)
    (hk : Keeps r0 s) :
    KeepsR r0 (execKeyUseSign i gD gA gB slot s) := by
  unfold execKeyUseSign
  try dsimp only
  repeat' first
    | with_reducible first
      | assumption | apply keyUse_keeps | apply keeps_foldl | apply keepsR_next | apply keeps_ite | apply keepsR_ite
    | split | intro _

theorem execKeyUseCertify_keeps {r0 : State} (i : IssA) (gD : Reg) (gA : Reg) (gB : Reg) (slot : Fin 4) (s : State)
    (hk : Keeps r0 s) :
    KeepsR r0 (execKeyUseCertify i gD gA gB slot s) := by
  unfold execKeyUseCertify
  try dsimp only
  repeat' first
    | with_reducible first
      | assumption | apply keyUse_keeps | apply keeps_foldl | apply keepsR_next | apply keeps_ite | apply keepsR_ite
    | split | intro _

theorem execKeyUseAgree_keeps {r0 : State} (i : IssA) (gD : Reg) (gA : Reg) (gB : Reg) (slot : Fin 4) (s : State)
    (hk : Keeps r0 s) :
    KeepsR r0 (execKeyUseAgree i gD gA gB slot s) := by
  unfold execKeyUseAgree
  try dsimp only
  repeat' first
    | with_reducible first
      | assumption | apply keyUse_keeps | apply keeps_foldl | apply keepsR_next | apply keeps_ite | apply keepsR_ite
    | split | intro _

theorem execMateSend_keeps {r0 : State} (i : IssA) (gD : Reg) (gA : Reg) (gB : Reg) (s : State) (hk : Keeps r0 s) :
    KeepsR r0 (execMateSend i gD gA gB s) := by
  unfold execMateSend
  try dsimp only
  repeat' first
    | with_reducible first
      | assumption | apply status_keeps | apply issueHub_keeps | apply mateAppend_keeps | apply keeps_foldl
       | apply keepsR_next | apply keeps_ite | apply keepsR_ite
    | split | intro _

theorem execSessionClose_keeps {r0 : State} (i : IssA) (gD : Reg) (s : State) (hk : Keeps r0 s) :
    KeepsR r0 (execSessionClose i gD s) := by
  unfold execSessionClose
  try dsimp only
  repeat' first
    | with_reducible first
      | assumption | apply status_keeps | apply batchMap_keeps | apply issueHub_keeps | apply keeps_foldl
       | apply keepsR_next | apply keeps_ite | apply keepsR_ite
    | split | intro _

theorem execSessionRenew_keeps {r0 : State} (i : IssA) (gD : Reg) (s : State) (hk : Keeps r0 s) :
    KeepsR r0 (execSessionRenew i gD s) := by
  unfold execSessionRenew
  try dsimp only
  repeat' first
    | with_reducible first
      | assumption | apply spendFree_keeps | apply status_keeps | apply emit_keeps | apply issueHub_keeps
       | apply sessPut_keeps | apply keeps_foldl | apply keepsR_next | apply keeps_ite | apply keepsR_ite
    | split | intro _

end Sys2Proof.Machine
end

