-- ==== Sys2Proof/Laws/KeepGuest.lean ====
section
/-! SUPPORT. Each operation of Machine/Guest.lean leaves the waiting commands alone and keeps canonical form. -/

set_option linter.unusedTactic false
set_option linter.unreachableTactic false

namespace Sys2Proof.Machine

open Sys2Proof.Safety

theorem guestPut_keeps {r0 : State} (g : Guest) (s : State) (hk : Keeps r0 s) :
    Keeps r0 (guestPut g s) := by
  unfold guestPut
  try dsimp only
  repeat' first
    | with_reducible first
      | assumption | apply putGuest_keeps | apply keeps_foldl | apply keeps_ite
    | split | intro _

theorem guestReply_keeps {r0 : State} (bytes : List Nat) (s : State) (hk : Keeps r0 s) :
    Keeps r0 (guestReply bytes s) := by
  unfold guestReply
  try dsimp only
  repeat' first
    | with_reducible first
      | assumption | apply emit_keeps | apply keeps_foldl | apply keeps_ite
    | split | intro _

theorem guestIo_keeps {r0 : State} (cmd : Nat) (params : Nat) (io : GuestIo) (take : List Nat → State → State)
    (give : Nat → State → State) (s : State) (hk : Keeps r0 s) (htake : ∀ y0 y1, Keeps r0 y1 → Keeps r0 (take y0 y1))
    (hgive : ∀ y0 y1, Keeps r0 y1 → Keeps r0 (give y0 y1)) :
    KeepsR r0 (guestIo cmd params io take give s) := by
  unfold guestIo
  try dsimp only
  repeat' first
    | with_reducible first
      | assumption | apply emit_keeps | apply guestPut_keeps | apply htake | apply hgive | apply keeps_foldl
       | apply keepsR_next | apply keeps_ite | apply keepsR_ite
    | split | intro _

theorem guestWords_keeps {r0 : State} : ∀ (a n : Nat) (s : State), Keeps r0 s → Keeps r0 (guestWords a n s).2
  | _, 0, _, h => h
  | a, n + 1, s, h => by
    unfold guestWords
    dsimp only
    refine guestWords_keeps _ n _ ?_
    split
    · exact h
    · exact violation_keeps _ _ _ _ h

theorem execGuestAddr_keeps {r0 : State} (io : GuestIo) (s : State) (hk : Keeps r0 s) :
    KeepsR r0 (execGuestAddr io s) := by
  unfold execGuestAddr
  try dsimp only
  repeat' first
    | with_reducible first
      | assumption | apply guestReply_keeps | apply guestPut_keeps | apply guestIo_keeps | apply guestWords_keeps
       | apply keeps_foldl | apply keepsR_next | apply keeps_ite | apply keepsR_ite
    | split | intro _

theorem execGuestAttNonce_keeps {r0 : State} (io : GuestIo) (s : State) (hk : Keeps r0 s) :
    KeepsR r0 (execGuestAttNonce io s) := by
  unfold execGuestAttNonce
  try dsimp only
  repeat' first
    | with_reducible first
      | assumption | apply emit_keeps | apply guestPut_keeps | apply guestIo_keeps | apply keeps_foldl
       | apply keepsR_next | apply keeps_ite | apply keepsR_ite
    | split | intro _

theorem execGuestAttStat_keeps {r0 : State} (io : GuestIo) (s : State) (hk : Keeps r0 s) :
    KeepsR r0 (execGuestAttStat io s) := by
  unfold execGuestAttStat
  try dsimp only
  repeat' first
    | with_reducible first
      | assumption | apply guestReply_keeps | apply guestIo_keeps | apply keeps_foldl | apply keepsR_next
       | apply keeps_ite | apply keepsR_ite
    | split | intro _

theorem execGuestAttOff_keeps {r0 : State} (io : GuestIo) (s : State) (hk : Keeps r0 s) :
    KeepsR r0 (execGuestAttOff io s) := by
  unfold execGuestAttOff
  try dsimp only
  repeat' first
    | with_reducible first
      | assumption | apply guestReply_keeps | apply guestPut_keeps | apply guestIo_keeps | apply keeps_foldl
       | apply keepsR_next | apply keeps_ite | apply keepsR_ite
    | split | intro _

theorem execGuestSclTimeout_keeps {r0 : State} (s : State) (hk : Keeps r0 s) :
    KeepsR r0 (execGuestSclTimeout s) := by
  unfold execGuestSclTimeout
  try dsimp only
  repeat' first
    | with_reducible first
      | assumption | apply guestPut_keeps | apply keeps_foldl | apply keepsR_next | apply keeps_ite | apply keepsR_ite
    | split | intro _

theorem execAttestComplete_keeps {r0 : State} (s : State) (hk : Keeps r0 s) :
    KeepsR r0 (execAttestComplete s) := by
  unfold execAttestComplete
  try dsimp only
  repeat' first
    | with_reducible first
      | assumption | apply spend_keeps | apply guestPut_keeps | apply keeps_foldl | apply keepsR_next
       | apply keeps_ite | apply keepsR_ite
    | split | intro _

theorem scan_keeps {r0 : State} (code : Nat) (lands : List Bool) (tdi : List Bool) (s : State) (hk : Keeps r0 s) :
    Keeps r0 (scan code lands tdi s) := by
  unfold scan
  try dsimp only
  repeat' first
    | with_reducible first
      | assumption | apply emit_keeps | apply putJtag_keeps | apply keeps_foldl | apply keeps_ite
    | split | intro _

theorem driveLands_keeps {r0 : State} (code : Nat) (s : State) (hk : Keeps r0 s) :
    Keeps r0 (driveLands code s) := by
  unfold driveLands
  try dsimp only
  repeat' first
    | with_reducible first
      | assumption | apply emit_keeps | apply keeps_foldl | apply keeps_ite
    | split | intro _

theorem execExtest_keeps {r0 : State} (lands : List Bool) (tdi : List Bool) (s : State) (hk : Keeps r0 s) :
    KeepsR r0 (execExtest lands tdi s) := by
  unfold execExtest
  try dsimp only
  repeat' first
    | with_reducible first
      | assumption | apply scan_keeps | apply driveLands_keeps | apply keeps_foldl | apply keepsR_next
       | apply keeps_ite | apply keepsR_ite
    | split | intro _

theorem execSamplePreload_keeps {r0 : State} (lands : List Bool) (tdi : List Bool) (s : State) (hk : Keeps r0 s) :
    KeepsR r0 (execSamplePreload lands tdi s) := by
  unfold execSamplePreload
  try dsimp only
  repeat' first
    | with_reducible first
      | assumption | apply scan_keeps | apply keeps_foldl | apply keepsR_next | apply keeps_ite | apply keepsR_ite
    | split | intro _

theorem execExtestPulse_keeps {r0 : State} (lands : List Bool) (tdi : List Bool) (s : State) (hk : Keeps r0 s) :
    KeepsR r0 (execExtestPulse lands tdi s) := by
  unfold execExtestPulse
  try dsimp only
  repeat' first
    | with_reducible first
      | assumption | apply scan_keeps | apply driveLands_keeps | apply keeps_foldl | apply keepsR_next
       | apply keeps_ite | apply keepsR_ite
    | split | intro _

theorem execExtestTrain_keeps {r0 : State} (lands : List Bool) (tdi : List Bool) (s : State) (hk : Keeps r0 s) :
    KeepsR r0 (execExtestTrain lands tdi s) := by
  unfold execExtestTrain
  try dsimp only
  repeat' first
    | with_reducible first
      | assumption | apply scan_keeps | apply driveLands_keeps | apply keeps_foldl | apply keepsR_next
       | apply keeps_ite | apply keepsR_ite
    | split | intro _

theorem execBypass_keeps {r0 : State} (tdi : List Bool) (s : State) (hk : Keeps r0 s) :
    KeepsR r0 (execBypass tdi s) := by
  unfold execBypass
  try dsimp only
  repeat' first
    | with_reducible first
      | assumption | apply emit_keeps | apply putJtag_keeps | apply keeps_foldl | apply keepsR_next | apply keeps_ite
       | apply keepsR_ite
    | split | intro _

theorem execDbgNonce_keeps {r0 : State} (s : State) (hk : Keeps r0 s) :
    KeepsR r0 (execDbgNonce s) := by
  unfold execDbgNonce
  try dsimp only
  repeat' first
    | with_reducible first
      | assumption | apply emit_keeps | apply putJtag_keeps | apply keeps_foldl | apply keepsR_next | apply keeps_ite
       | apply keepsR_ite
    | split | intro _

theorem execDbgToken_keeps {r0 : State} (lines : List (BitVec 288)) (sigOk : Bool) (s : State) (hk : Keeps r0 s) :
    KeepsR r0 (execDbgToken lines sigOk s) := by
  unfold execDbgToken
  try dsimp only
  repeat' first
    | with_reducible first
      | assumption | apply putSec_keeps | apply violation_keeps | apply retarget_keeps | apply putBank_keeps
       | apply spend_keeps | apply linkLeave_keeps | apply endSessions_keeps | apply putJtag_keeps
       | apply putSpare_keeps | apply keeps_foldl | apply keepsR_next | apply keeps_ite | apply keepsR_ite
    | refine fun (c : Canon _) => ?_ | exact (c.bank_ok :) | exact rfl | exact (c.spare_ok :) | exact rfl
    | exact (c.sealed_ok :) | exact rfl | split | intro _

theorem debugBarred_keeps {r0 : State} (s : State) (hk : Keeps r0 s) :
    Keeps r0 (debugBarred s) := by
  unfold debugBarred
  try dsimp only
  repeat' first
    | with_reducible first
      | assumption | apply violation_keeps | apply emit_keeps | apply putJtag_keeps | apply keeps_foldl
       | apply keeps_ite
    | split | intro _

theorem execDbgCfg_keeps {r0 : State} (write : Bool) (addr : BitVec 24) (data : Word) (s : State) (hk : Keeps r0 s) :
    KeepsR r0 (execDbgCfg write addr data s) := by
  unfold execDbgCfg
  try dsimp only
  repeat' first
    | with_reducible first
      | assumption | apply violation_keeps | apply debugBarred_keeps | apply emit_keeps | apply putJtag_keeps
       | apply keeps_foldl | apply keepsR_next | apply keeps_ite | apply keepsR_ite
    | split | intro _

theorem execDbgTrace_keeps {r0 : State} (s : State) (hk : Keeps r0 s) :
    KeepsR r0 (execDbgTrace s) := by
  unfold execDbgTrace
  try dsimp only
  repeat' first
    | with_reducible first
      | assumption | apply debugBarred_keeps | apply emit_keeps | apply putJtag_keeps | apply keeps_foldl
       | apply keepsR_next | apply keeps_ite | apply keepsR_ite
    | split | intro _

theorem applyTraceSel_keeps {r0 : State} (v : Word) (s : State) (hk : Keeps r0 s) :
    Keeps r0 (applyTraceSel v s) := by
  unfold applyTraceSel
  try dsimp only
  repeat' first
    | with_reducible first
      | assumption | apply putJtag_keeps | apply putTrace_keeps | apply keeps_foldl | apply keeps_ite
    | split | intro _

theorem execTraceSel_keeps {r0 : State} (v : Word) (s : State) (hk : Keeps r0 s) :
    KeepsR r0 (execTraceSel v s) := by
  unfold execTraceSel
  try dsimp only
  repeat' first
    | with_reducible first
      | assumption | apply applyTraceSel_keeps | apply keeps_foldl | apply keepsR_next | apply keeps_ite
       | apply keepsR_ite
    | split | intro _

end Sys2Proof.Machine
end

