-- ==== Sys2Proof/Laws/KeepHostPort.lean ====
section
/-! SUPPORT. Each operation of Machine/HostPort.lean leaves the waiting commands alone and keeps canonical form. -/

set_option linter.unusedTactic false
set_option linter.unreachableTactic false

namespace Sys2Proof.Machine

open Sys2Proof.Safety

theorem bar0Violation_keeps {r0 : State} (off : Nat) (s : State) (hk : Keeps r0 s) :
    Keeps r0 (bar0Violation off s) := by
  unfold bar0Violation
  try dsimp only
  repeat' first
    | with_reducible first
      | assumption | apply violation_keeps | apply keeps_foldl | apply keeps_ite
    | split | intro _

theorem execBar0Violation_keeps {r0 : State} (off : BitVec 24) (s : State) (hk : Keeps r0 s) :
    KeepsR r0 (execBar0Violation off s) := by
  unfold execBar0Violation
  try dsimp only
  repeat' first
    | with_reducible first
      | assumption | apply bar0Violation_keeps | apply keeps_foldl | apply keepsR_next | apply keeps_ite
       | apply keepsR_ite
    | split | intro _

theorem execCqBaseWrite_keeps {r0 : State} (q : CmdRingId) (field : Fin 3) (v : BitVec 32) (s : State)
    (hk : Keeps r0 s) :
    KeepsR r0 (execCqBaseWrite q field v s) := by
  unfold execCqBaseWrite
  try dsimp only
  repeat' first
    | with_reducible first
      | assumption | apply bar0Violation_keeps | apply ringCmdPut_keeps | apply keeps_foldl | apply keepsR_next
       | apply keeps_ite | apply keepsR_ite
    | split | intro _

theorem execCqTail_keeps {r0 : State} (q : CmdRingId) (v : BitVec 32) (s : State) (hk : Keeps r0 s) :
    KeepsR r0 (execCqTail q v s) := by
  unfold execCqTail
  try dsimp only
  repeat' first
    | with_reducible first
      | assumption | apply bar0Violation_keeps | apply ringCmdPut_keeps | apply keeps_foldl | apply keepsR_next
       | apply keeps_ite | apply keepsR_ite
    | split | intro _

theorem execCommandFetch_keeps {r0 : State} (q : CmdRingId) (e : CmdEntry) (s : State) (hk : Keeps r0 s) :
    KeepsR r0 (execCommandFetch q e s) := by
  unfold execCommandFetch
  try dsimp only
  repeat' first
    | with_reducible first
      | assumption | apply ringCmdPut_keeps | apply intSet_keeps | apply keeps_foldl | apply keepsR_next
       | apply keeps_ite | apply keepsR_ite
    | split | intro _

theorem tagFails_keeps {r0 : State} (q : Nat) (s : State) (hk : Keeps r0 s) :
    Keeps r0 (tagFails q s) := by
  unfold tagFails
  try dsimp only
  repeat' first
    | with_reducible first
      | assumption | apply violation_keeps | apply keeps_foldl | apply keeps_ite
    | split | intro _

theorem refuseSession_keeps {r0 : State} (q : Nat) (s : State) (hk : Keeps r0 s) :
    Keeps r0 (refuseSession q s) := by
  unfold refuseSession
  try dsimp only
  repeat' first
    | with_reducible first
      | assumption | apply violation_keeps | apply keeps_foldl | apply keeps_ite
    | split | intro _

theorem popEntry_keeps {r0 : State} (q : Nat) (s : State) (hk : Keeps r0 s) :
    Keeps r0 (popEntry q s) := by
  unfold popEntry
  try dsimp only
  repeat' first
    | with_reducible first
      | assumption | apply ringCmdPut_keeps | apply keeps_foldl | apply keeps_ite
    | split | intro _

theorem openSession_keeps {r0 : State} (q : Nat) (own : Bool) (reply : Nat) (s : State) (hk : Keeps r0 s) :
    Keeps r0 (openSession q own reply s) := by
  unfold openSession
  try dsimp only
  repeat' first
    | with_reducible first
      | assumption | apply endSession_keeps | apply sessPut_keeps | apply keeps_foldl | apply keeps_ite
    | split | intro _

theorem replyLines_keeps {r0 : State} (addr : Nat) (n : Nat) (bytes : List Nat) (s : State) (hk : Keeps r0 s) :
    Keeps r0 (replyLines addr n bytes s) := by
  unfold replyLines
  try dsimp only
  repeat' first
    | with_reducible first
      | assumption | apply emit_keeps | apply keeps_foldl | apply keeps_ite
    | split | intro _

theorem openReply_keeps {r0 : State} (addr : Nat) (s : State) (hk : Keeps r0 s) :
    Keeps r0 (openReply addr s) := by
  unfold openReply
  try dsimp only
  repeat' first
    | with_reducible first
      | assumption | apply spend_keeps | apply replyLines_keeps | apply keeps_foldl | apply keeps_ite
    | split | intro _

theorem execCqOpen_keeps {r0 : State} (q : CmdRingId) (s : State) (hk : Keeps r0 s) :
    KeepsR r0 (execCqOpen q s) := by
  unfold execCqOpen
  try dsimp only
  repeat' first
    | with_reducible first
      | assumption | apply refuseSession_keeps | apply openSession_keeps | apply openReply_keeps
       | apply popEntry_keeps | apply sessPut_keeps | apply keeps_foldl | apply keepsR_next | apply keeps_ite
       | apply keepsR_ite
    | split | intro _

theorem execCqProof_keeps {r0 : State} (q : CmdRingId) (s : State) (hk : Keeps r0 s) :
    KeepsR r0 (execCqProof q s) := by
  unfold execCqProof
  try dsimp only
  repeat' first
    | with_reducible first
      | assumption | apply refuseSession_keeps | apply openSession_keeps | apply replyLines_keeps
       | apply popEntry_keeps | apply sessPut_keeps | apply keeps_foldl | apply keepsR_next | apply keeps_ite
       | apply keepsR_ite
    | split | intro _

theorem execProofTimeout_keeps {r0 : State} (q : CmdRingId) (s : State) (hk : Keeps r0 s) :
    KeepsR r0 (execProofTimeout q s) := by
  unfold execProofTimeout
  try dsimp only
  repeat' first
    | with_reducible first
      | assumption | apply refuseSession_keeps | apply sessPut_keeps | apply keeps_foldl | apply keepsR_next
       | apply keeps_ite | apply keepsR_ite
    | split | intro _

theorem refuseBatch_keeps {r0 : State} (b : Batch) (st : Nat) (bundle : Nat) (s : State) (hk : Keeps r0 s) :
    Keeps r0 (refuseBatch b st bundle s) := by
  unfold refuseBatch
  try dsimp only
  repeat' first
    | with_reducible first
      | assumption | apply putBatchesDone_keeps | apply putBatchIds_keeps | apply cenInc_keeps | apply keeps_foldl
       | apply keeps_ite
    | split | intro _

theorem checkBatch_keeps {r0 : State} (q : Nat) (e : CmdEntry) (b : BatchBuf) (s : State) (hk : Keeps r0 s) :
    Keeps r0 (checkBatch q e b s) := by
  unfold checkBatch
  try dsimp only
  repeat' first
    | with_reducible first
      | assumption | apply scratchPut_keeps | apply tagFails_keeps | apply ringCmdPut_keeps | apply sessPut_keeps
       | apply refuseBatch_keeps | apply keeps_foldl | apply keeps_ite
    | split | intro _

theorem execCqBatch_keeps {r0 : State} (q : CmdRingId) (s : State) (hk : Keeps r0 s) :
    KeepsR r0 (execCqBatch q s) := by
  unfold execCqBatch
  try dsimp only
  repeat' first
    | with_reducible first
      | assumption | apply tagFails_keeps | apply checkBatch_keeps | apply popEntry_keeps | apply keeps_foldl
       | apply keepsR_next | apply keeps_ite | apply keepsR_ite
    | split | intro _

theorem startRun_keeps {r0 : State} (e : Nat) (run : Running) (s : State) (hk : Keeps r0 s) :
    Keeps r0 (startRun e run s) := by
  unfold startRun
  try dsimp only
  repeat' first
    | with_reducible first
      | assumption | apply engPut_keeps | apply keeps_foldl | apply keeps_ite
    | split | intro _

theorem execBatchStart_keeps {r0 : State} (s : State) (hk : Keeps r0 s) :
    KeepsR r0 (execBatchStart s) := by
  unfold execBatchStart
  try dsimp only
  repeat' first
    | with_reducible first
      | assumption | apply putBatchIds_keeps | apply putBatch_keeps | apply putLastRing_keeps | apply ringCmdPut_keeps
       | apply startRun_keeps | apply keeps_foldl | apply keepsR_next | apply keeps_ite | apply keepsR_ite
    | split | intro _

theorem placeCompletion_keeps {r0 : State} (b : BatchRun) (s : State) (hk : Keeps r0 s) :
    Keeps r0 (placeCompletion b s) := by
  unfold placeCompletion
  try dsimp only
  repeat' first
    | with_reducible first
      | assumption | apply spend_keeps | apply emit_keeps | apply hqAppend_keeps | apply keeps_foldl | apply keeps_ite
    | split | intro _

theorem closeAfter_keeps {r0 : State} (b : BatchRun) (s : State) (hk : Keeps r0 s) :
    Keeps r0 (closeAfter b s) := by
  unfold closeAfter
  try dsimp only
  repeat' first
    | with_reducible first
      | assumption | apply endSessions_keeps | apply endSession_keeps | apply keeps_foldl | apply keeps_ite
    | split | intro _

theorem placeCompletions_keeps {r0 : State} (s : State) (hk : Keeps r0 s) :
    Keeps r0 (placeCompletions s) := by
  unfold placeCompletions
  try dsimp only
  repeat' first
    | with_reducible first
      | assumption | apply putBatchesDone_keeps | apply closeAfter_keeps | apply placeCompletion_keeps
       | apply keeps_foldl | apply keeps_ite
    | split | intro _

theorem ringPut__keeps {r0 : State} (q : Nat) (k : HostRing) (s : State) (hk : Keeps r0 s) :
    Keeps r0 (ringPut_ q k s) := by
  unfold ringPut_
  try dsimp only
  repeat' first
    | with_reducible first
      | assumption | apply putHostRing_keeps | apply keeps_foldl | apply keeps_ite | apply tabSet_ok
       | apply tabSet_ok' | apply tabFilter_ok | apply tabMap_ok | apply tabDrop_ok | exact tabNil_ok
    | refine fun (c : Canon _) => ?_ | exact (c.hostRing_ok :) | split | intro _

theorem execHostRingWrite_keeps {r0 : State} (q : HqId) (s : State) (hk : Keeps r0 s) :
    KeepsR r0 (execHostRingWrite q s) := by
  unfold execHostRingWrite
  try dsimp only
  repeat' first
    | with_reducible first
      | assumption | apply hqLevel_keeps | apply hqPut_keeps | apply emit_keeps | apply ringPut__keeps
       | apply intSet_keeps | apply keeps_foldl | apply keepsR_next | apply keeps_ite | apply keepsR_ite
    | split | intro _

theorem execHrCoalTimeout_keeps {r0 : State} (q : HqId) (s : State) (hk : Keeps r0 s) :
    KeepsR r0 (execHrCoalTimeout q s) := by
  unfold execHrCoalTimeout
  try dsimp only
  repeat' first
    | with_reducible first
      | assumption | apply ringPut__keeps | apply intSet_keeps | apply keeps_foldl | apply keepsR_next
       | apply keeps_ite | apply keepsR_ite
    | split | intro _

theorem execHrHead_keeps {r0 : State} (q : HqId) (v : BitVec 32) (s : State) (hk : Keeps r0 s) :
    KeepsR r0 (execHrHead q v s) := by
  unfold execHrHead
  try dsimp only
  repeat' first
    | with_reducible first
      | assumption | apply bar0Violation_keeps | apply ringPut__keeps | apply keeps_foldl | apply keepsR_next
       | apply keeps_ite | apply keepsR_ite
    | split | intro _

theorem execHqCredit_keeps {r0 : State} (q : HqId) (v : BitVec 32) (s : State) (hk : Keeps r0 s) :
    KeepsR r0 (execHqCredit q v s) := by
  unfold execHqCredit
  try dsimp only
  repeat' first
    | with_reducible first
      | assumption | apply bar0Violation_keeps | apply hqPut_keeps | apply keeps_foldl | apply keepsR_next
       | apply keeps_ite | apply keepsR_ite
    | split | intro _

theorem execIntClr_keeps {r0 : State} (v : BitVec 32) (s : State) (hk : Keeps r0 s) :
    KeepsR r0 (execIntClr v s) := by
  unfold execIntClr
  try dsimp only
  repeat' first
    | with_reducible first
      | assumption | apply putIntPend_keeps | apply ringPut__keeps | apply keeps_foldl | apply keepsR_next
       | apply keeps_ite | apply keepsR_ite
    | split | intro _

theorem execRecGo_keeps {r0 : State} (addr : BitVec 64) (image : List (BitVec 288)) (sigOk : Bool) (s : State)
    (hk : Keeps r0 s) :
    KeepsR r0 (execRecGo addr image sigOk s) := by
  unfold execRecGo
  try dsimp only
  repeat' first
    | with_reducible first
      | assumption | apply putSec_keeps | apply wipe_keeps | apply bar0Violation_keeps | apply putNvm_keeps
       | apply cenInc_keeps | apply keeps_foldl | apply keepsR_next | apply keeps_ite | apply keepsR_ite
    | refine fun (c : Canon _) => ?_ | exact (c.sealed_ok :) | exact rfl | exact ⟨c.nvmA_ok, c.nvmB_ok, c.busy_ok⟩
    | split | intro _

theorem execPerstLAssert_keeps {r0 : State} (s : State) (hk : Keeps r0 s) :
    KeepsR r0 (execPerstLAssert s) := by
  unfold execPerstLAssert
  try dsimp only
  repeat' first
    | with_reducible first
      | assumption | apply endSessions_keeps | apply putPerst_keeps | apply keeps_foldl | apply keepsR_next
       | apply keeps_ite | apply keepsR_ite
    | split | intro _

theorem execPerstLRelease_keeps {r0 : State} (s : State) (hk : Keeps r0 s) :
    KeepsR r0 (execPerstLRelease s) := by
  unfold execPerstLRelease
  try dsimp only
  repeat' first
    | with_reducible first
      | assumption | apply putPerst_keeps | apply keeps_foldl | apply keepsR_next | apply keeps_ite | apply keepsR_ite
    | split | intro _

end Sys2Proof.Machine
end

