-- ==== Sys2Proof/Laws/KeepOverhead.lean ====
section
/-! SUPPORT. Each operation of Machine/Overhead.lean leaves the waiting commands alone and keeps canonical form. -/

set_option linter.unusedTactic false
set_option linter.unreachableTactic false

namespace Sys2Proof.Machine

open Sys2Proof.Safety

theorem execOhGet_keeps {r0 : State} (i : IssA) (gD : Reg) (gA : Reg) (off : Fin 256) (field : Fin 64) (word : Fin 64)
    (s : State) (hk : Keeps r0 s) :
    KeepsR r0 (execOhGet i gD gA off field word s) := by
  unfold execOhGet
  try dsimp only
  repeat' first
    | with_reducible first
      | assumption | apply issue_keeps | apply readContext_keeps | apply keeps_foldl | apply keepsR_next
       | apply keeps_ite | apply keepsR_ite
    | split | intro _

theorem execOhPut_keeps {r0 : State} (i : IssA) (gD : Reg) (gA : Reg) (off : Fin 256) (field : Fin 64) (word : Fin 64)
    (s : State) (hk : Keeps r0 s) :
    KeepsR r0 (execOhPut i gD gA off field word s) := by
  unfold execOhPut
  try dsimp only
  repeat' first
    | with_reducible first
      | assumption | apply issue_keeps | apply onContext_keeps | apply stage_keeps | apply keeps_foldl
       | apply keepsR_next | apply keeps_ite | apply keepsR_ite
    | split | intro _

theorem ohErr_keeps {r0 : State} (u : Nat) (s : State) (hk : Keeps r0 s) :
    Keeps r0 (ohErr u s) := by
  unfold ohErr
  try dsimp only
  repeat' first
    | with_reducible first
      | assumption | apply cwCount_keeps | apply keeps_foldl | apply keeps_ite
    | split | intro _

theorem ohMisdirect_keeps {r0 : State} (o : Origin) (id : Nat) (s : State) (hk : Keeps r0 s) :
    Keeps r0 (ohMisdirect o id s) := by
  unfold ohMisdirect
  try dsimp only
  repeat' first
    | with_reducible first
      | assumption | apply ohErr_keeps | apply refuse_keeps | apply keeps_foldl | apply keeps_ite
    | split | intro _

theorem execDefSet_keeps {r0 : State} (i : IssA) (gA : Reg) (off : Fin 256) (bit : Fin 64) (s : State)
    (hk : Keeps r0 s) :
    KeepsR r0 (execDefSet i gA off bit s) := by
  unfold execDefSet
  try dsimp only
  repeat' first
    | with_reducible first
      | assumption | apply issue_keeps | apply onContext_keeps | apply stage_keeps | apply keeps_foldl
       | apply keepsR_next | apply keeps_ite | apply keepsR_ite
    | split | intro _

theorem execDefClr_keeps {r0 : State} (i : IssA) (gA : Reg) (off : Fin 256) (bit : Fin 64) (s : State)
    (hk : Keeps r0 s) :
    KeepsR r0 (execDefClr i gA off bit s) := by
  unfold execDefClr
  try dsimp only
  repeat' first
    | with_reducible first
      | assumption | apply issue_keeps | apply onContext_keeps | apply stage_keeps | apply keeps_foldl
       | apply keepsR_next | apply keeps_ite | apply keepsR_ite
    | split | intro _

theorem applyDef_keeps {r0 : State} (o : Origin) (id : Nat) (b : Nat) (v : Bool) (s : State) (hk : Keeps r0 s) :
    Keeps r0 (applyDef o id b v s) := by
  unfold applyDef
  try dsimp only
  repeat' first
    | with_reducible first
      | assumption | apply ohErr_keeps | apply setDefect_keeps | apply keeps_foldl | apply keeps_ite
    | split | intro _

theorem execAlm_keeps {r0 : State} (i : IssA) (gA : Reg) (off : Fin 256) (s : State) (hk : Keeps r0 s) :
    KeepsR r0 (execAlm i gA off s) := by
  unfold execAlm
  try dsimp only
  repeat' first
    | with_reducible first
      | assumption | apply issue_keeps | apply onContext_keeps | apply record_keeps | apply keeps_foldl
       | apply keepsR_next | apply keeps_ite | apply keepsR_ite
    | split | intro _

theorem binAdd_keeps {r0 : State} (id : Nat) (bin : Nat) (p : Nat) (add : Nat) (s : State) (hk : Keeps r0 s) :
    Keeps r0 (binAdd id bin p add s) := by
  unfold binAdd
  try dsimp only
  repeat' first
    | with_reducible first
      | assumption | apply ctxSet_keeps | apply keeps_foldl | apply keeps_ite
    | split | intro _

theorem execPmAdd_keeps {r0 : State} (i : IssA) (gD : Reg) (gA : Reg) (off : Fin 256) (param : Fin 8) (s : State)
    (hk : Keeps r0 s) :
    KeepsR r0 (execPmAdd i gD gA off param s) := by
  unfold execPmAdd
  try dsimp only
  repeat' first
    | with_reducible first
      | assumption | apply binAdd_keeps | apply issue_keeps | apply onContext_keeps | apply keeps_foldl
       | apply keepsR_next | apply keeps_ite | apply keepsR_ite
    | split | intro _

theorem rollBin_keeps {r0 : State} (id : Nat) (bin : Nat) (suspect : Bool) (s : State) (hk : Keeps r0 s) :
    Keeps r0 (rollBin id bin suspect s) := by
  unfold rollBin
  try dsimp only
  repeat' first
    | with_reducible first
      | assumption | apply ctxSet_keeps | apply keeps_foldl | apply keeps_ite
    | split | intro _

theorem pmRecord_keeps {r0 : State} (src : Nat) (id : Nat) (bin : Nat) (s : State) (hk : Keeps r0 s) :
    Keeps r0 (pmRecord src id bin s) := by
  unfold pmRecord
  try dsimp only
  repeat' first
    | with_reducible first
      | assumption | apply record_keeps | apply keeps_foldl | apply keeps_ite
    | split | intro _

theorem execPmRoll_keeps {r0 : State} (i : IssA) (gA : Reg) (off : Fin 256) (bin : Bool) (suspect : Bool) (s : State)
    (hk : Keeps r0 s) :
    KeepsR r0 (execPmRoll i gA off bin suspect s) := by
  unfold execPmRoll
  try dsimp only
  repeat' first
    | with_reducible first
      | assumption | apply rollBin_keeps | apply issue_keeps | apply onContext_keeps | apply pmRecord_keeps
       | apply keeps_foldl | apply keepsR_next | apply keeps_ite | apply keepsR_ite
    | split | intro _

theorem execFiltSet_keeps {r0 : State} (i : IssA) (gA : Reg) (gB : Reg) (word : Fin 2) (s : State) (hk : Keeps r0 s) :
    KeepsR r0 (execFiltSet i gA gB word s) := by
  unfold execFiltSet
  try dsimp only
  repeat' first
    | with_reducible first
      | assumption | apply issue_keeps | apply outsideGrant_keeps | apply stage_keeps | apply keeps_foldl
       | apply keepsR_next | apply keeps_ite | apply keepsR_ite
    | split | intro _

theorem execFiltGet_keeps {r0 : State} (i : IssA) (gD : Reg) (gA : Reg) (word : Fin 4) (s : State) (hk : Keeps r0 s) :
    KeepsR r0 (execFiltGet i gD gA word s) := by
  unfold execFiltGet
  try dsimp only
  repeat' first
    | with_reducible first
      | assumption | apply setReg_keeps | apply issue_keeps | apply outsideGrant_keeps | apply keeps_foldl
       | apply keepsR_next | apply keeps_ite | apply keepsR_ite
    | split | intro _

theorem applyFilt_keeps {r0 : State} (k : Nat) (w : Nat) (v : Word) (s : State) (hk : Keeps r0 s) :
    KeepsE r0 (applyFilt k w v s) := by
  unfold applyFilt
  try dsimp only
  repeat' first
    | with_reducible first
      | assumption | exact keepsE_error | apply cellPut_keeps | apply settleDefs_keeps | apply cwSet_keeps
       | apply keeps_foldl | apply keepsE_ok | apply keeps_ite | apply keepsE_ite
    | split | intro _

theorem execFcCfg_keeps {r0 : State} (c : ClusterId) (cell : Fin 2048) (word : Fin 2) (w : CtlWrite) (s : State)
    (hk : Keeps r0 s) :
    KeepsR r0 (execFcCfg c cell word w s) := by
  unfold execFcCfg
  try dsimp only
  repeat' first
    | with_reducible first
      | assumption | exact keepsE_error | apply applyFilt_keeps | apply settle_keeps | apply keeps_foldl
       | apply keepsR_next | apply keepsE_ok | apply keeps_ite | apply keepsE_ite | apply keepsR_ite
    | split | intro _

theorem applyPmSet_keeps {r0 : State} (v : Word) (s : State) (hk : Keeps r0 s) :
    KeepsE r0 (applyPmSet v s) := by
  unfold applyPmSet
  try dsimp only
  repeat' first
    | with_reducible first
      | assumption | exact keepsE_error | apply putBinLoad_keeps | apply keeps_foldl | apply keepsE_ok
       | apply keeps_ite | apply keepsE_ite
    | split | intro _

theorem execOhPmSet_keeps {r0 : State} (u : UnitId) (w : CtlWrite) (s : State) (hk : Keeps r0 s) :
    KeepsR r0 (execOhPmSet u w s) := by
  unfold execOhPmSet
  try dsimp only
  repeat' first
    | with_reducible first
      | assumption | exact keepsE_error | apply settle_keeps | apply applyPmSet_keeps | apply keeps_foldl
       | apply keepsR_next | apply keepsE_ok | apply keeps_ite | apply keepsE_ite | apply keepsR_ite
    | split | intro _

theorem execOhErrClear_keeps {r0 : State} (u : UnitId) (s : State) (hk : Keeps r0 s) :
    KeepsR r0 (execOhErrClear u s) := by
  unfold execOhErrClear
  try dsimp only
  repeat' first
    | with_reducible first
      | assumption | apply cwSet_keeps | apply keeps_foldl | apply keepsR_next | apply keeps_ite | apply keepsR_ite
    | split | intro _

theorem binTick_keeps {r0 : State} (s : State) (hk : Keeps r0 s) :
    Keeps r0 (binTick s) := by
  unfold binTick
  try dsimp only
  repeat' first
    | with_reducible first
      | assumption | apply putPmTime_keeps | apply putBinLoad_keeps | apply putBinRestored_keeps | apply putBinQ_keeps
       | apply putBinD_keeps | apply keeps_foldl | apply keeps_ite
    | split | intro _

theorem setLos_keeps {r0 : State} (r : StreamRef) (v : Bool) (s : State) (hk : Keeps r0 s) :
    Keeps r0 (setLos r v s) := by
  unfold setLos
  try dsimp only
  repeat' first
    | with_reducible first
      | assumption | apply framerPut_keeps | apply settleDefs_keeps | apply keeps_foldl | apply keeps_ite
    | split | intro _

theorem execLosDeclare_keeps {r0 : State} (r : StreamRef) (s : State) (hk : Keeps r0 s) :
    KeepsR r0 (execLosDeclare r s) := by
  unfold execLosDeclare
  try dsimp only
  repeat' first
    | with_reducible first
      | assumption | apply setLos_keeps | apply keeps_foldl | apply keepsR_next | apply keeps_ite | apply keepsR_ite
    | split | intro _

theorem execLosClear_keeps {r0 : State} (r : StreamRef) (s : State) (hk : Keeps r0 s) :
    KeepsR r0 (execLosClear r s) := by
  unfold execLosClear
  try dsimp only
  repeat' first
    | with_reducible first
      | assumption | apply setLos_keeps | apply keeps_foldl | apply keepsR_next | apply keeps_ite | apply keepsR_ite
    | split | intro _

theorem execDefectDeclare_keeps {r0 : State} (c : CtxId) (d : Fin 36) (s : State) (hk : Keeps r0 s) :
    KeepsR r0 (execDefectDeclare c d s) := by
  unfold execDefectDeclare
  try dsimp only
  repeat' first
    | with_reducible first
      | assumption | apply setDefect_keeps | apply keeps_foldl | apply keepsR_next | apply keeps_ite
       | apply keepsR_ite
    | split | intro _

theorem execDefectClear_keeps {r0 : State} (c : CtxId) (d : Fin 36) (s : State) (hk : Keeps r0 s) :
    KeepsR r0 (execDefectClear c d s) := by
  unfold execDefectClear
  try dsimp only
  repeat' first
    | with_reducible first
      | assumption | apply setDefect_keeps | apply keeps_foldl | apply keepsR_next | apply keeps_ite
       | apply keepsR_ite
    | split | intro _

theorem execConsequentActionStart_keeps {r0 : State} (c : CtxId) (backward : Bool) (s : State) (hk : Keeps r0 s) :
    KeepsR r0 (execConsequentActionStart c backward s) := by
  unfold execConsequentActionStart
  try dsimp only
  repeat' first
    | with_reducible first
      | assumption | apply monPut_keeps | apply keeps_foldl | apply keepsR_next | apply keeps_ite | apply keepsR_ite
    | split | intro _

theorem execConsequentActionEnd_keeps {r0 : State} (c : CtxId) (backward : Bool) (s : State) (hk : Keeps r0 s) :
    KeepsR r0 (execConsequentActionEnd c backward s) := by
  unfold execConsequentActionEnd
  try dsimp only
  repeat' first
    | with_reducible first
      | assumption | apply monPut_keeps | apply keeps_foldl | apply keepsR_next | apply keeps_ite | apply keepsR_ite
    | split | intro _

end Sys2Proof.Machine
end

