-- ==== Sys2Proof/Laws/KeepProtection.lean ====
section
/-! SUPPORT. Each operation of Machine/Protection.lean leaves the waiting commands alone and keeps canonical form. -/

set_option linter.unusedTactic false
set_option linter.unreachableTactic false

namespace Sys2Proof.Machine

open Sys2Proof.Safety

theorem startHoldoff_keeps {r0 : State} (p : Nat) (protect : Bool) (s : State) (hk : Keeps r0 s) :
    Keeps r0 (startHoldoff p protect s) := by
  unfold startHoldoff
  try dsimp only
  repeat' first
    | with_reducible first
      | assumption | apply protEvt_keeps | apply countNoTimer_keeps | apply prtPut_keeps | apply keeps_foldl
       | apply keeps_ite
    | split | intro _

theorem execHoldoffStart_keeps {r0 : State} (p : PairId) (protect : Bool) (s : State) (hk : Keeps r0 s) :
    KeepsR r0 (execHoldoffStart p protect s) := by
  unfold execHoldoffStart
  try dsimp only
  repeat' first
    | with_reducible first
      | assumption | apply startHoldoff_keeps | apply keeps_foldl | apply keepsR_next | apply keeps_ite
       | apply keepsR_ite
    | split | intro _

theorem execHoldoffExpire_keeps {r0 : State} (p : PairId) (protect : Bool) (s : State) (hk : Keeps r0 s) :
    KeepsR r0 (execHoldoffExpire p protect s) := by
  unfold execHoldoffExpire
  try dsimp only
  repeat' first
    | with_reducible first
      | assumption | apply prtPut_keeps | apply keeps_foldl | apply keepsR_next | apply keeps_ite | apply keepsR_ite
    | split | intro _

theorem signal_keeps {r0 : State} (p : Nat) (s : State) (hk : Keeps r0 s) :
    Keeps r0 (signal p s) := by
  unfold signal
  try dsimp only
  repeat' first
    | with_reducible first
      | assumption | apply ohSet_keeps | apply keeps_foldl | apply keeps_ite
    | split | intro _

theorem farAccept_keeps {r0 : State} (p : Nat) (v : Word) (s : State) (hk : Keeps r0 s) :
    Keeps r0 (farAccept p v s) := by
  unfold farAccept
  try dsimp only
  repeat' first
    | with_reducible first
      | assumption | apply protEvt_keeps | apply prtPut_keeps | apply keeps_foldl | apply keeps_ite
    | split | intro _

theorem farAccepted_keeps {r0 : State} (cell : Nat) (s : State) (hk : Keeps r0 s) :
    Keeps r0 (farAccepted cell s) := by
  unfold farAccepted
  try dsimp only
  repeat' first
    | with_reducible first
      | assumption | apply farAccept_keeps | apply keeps_foldl | apply keeps_ite
    | split | intro _

theorem setSel_keeps {r0 : State} (p : Nat) (v : Bool) (s : State) (hk : Keeps r0 s) :
    Keeps r0 (setSel p v s) := by
  unfold setSel
  try dsimp only
  repeat' first
    | with_reducible first
      | assumption | apply putSels_keeps | apply hlSwitch_keeps | apply prtPut_keeps | apply keeps_foldl
       | apply keeps_ite | apply tabSet_ok | apply tabSet_ok' | apply tabFilter_ok | apply tabMap_ok
       | apply tabDrop_ok | exact tabNil_ok
    | refine fun (c : Canon _) => ?_ | exact (c.sels_ok :) | split | intro _

theorem setGov_keeps {r0 : State} (p : Nat) (rank : Nat) (sig : Bool) (far : Bool) (s : State) (hk : Keeps r0 s) :
    Keeps r0 (setGov p rank sig far s) := by
  unfold setGov
  try dsimp only
  repeat' first
    | with_reducible first
      | assumption | apply prtPut_keeps | apply keeps_foldl | apply keeps_ite
    | split | intro _

theorem followGov_keeps {r0 : State} (p : Nat) (s : State) (hk : Keeps r0 s) :
    Keeps r0 (followGov p s) := by
  unfold followGov
  try dsimp only
  repeat' first
    | with_reducible first
      | assumption | apply prtPut_keeps | apply setSel_keeps | apply keeps_foldl | apply keeps_ite
    | split | intro _

theorem followBridge_keeps {r0 : State} (p : Nat) (s : State) (hk : Keeps r0 s) :
    Keeps r0 (followBridge p s) := by
  unfold followBridge
  try dsimp only
  repeat' first
    | with_reducible first
      | assumption | apply setSel_keeps | apply keeps_foldl | apply keeps_ite
    | split | intro _

theorem takeLocal_keeps {r0 : State} (p : Nat) (s : State) (hk : Keeps r0 s) :
    Keeps r0 (takeLocal p s) := by
  unfold takeLocal
  try dsimp only
  repeat' first
    | with_reducible first
      | assumption | apply spendFree_keeps | apply setGov_keeps | apply keeps_foldl | apply keeps_ite
    | split | intro _

theorem takeFar_keeps {r0 : State} (p : Nat) (s : State) (hk : Keeps r0 s) :
    Keeps r0 (takeFar p s) := by
  unfold takeFar
  try dsimp only
  repeat' first
    | with_reducible first
      | assumption | apply setGov_keeps | apply keeps_foldl | apply keeps_ite
    | split | intro _

theorem agreeNr_keeps {r0 : State} (p : Nat) (s : State) (hk : Keeps r0 s) :
    Keeps r0 (agreeNr p s) := by
  unfold agreeNr
  try dsimp only
  repeat' first
    | with_reducible first
      | assumption | apply protEvt_keeps | apply prtPut_keeps | apply keeps_foldl | apply keeps_ite
    | split | intro _

theorem takeDecision_keeps {r0 : State} (p : Nat) (s : State) (hk : Keeps r0 s) :
    Keeps r0 (takeDecision p s) := by
  unfold takeDecision
  try dsimp only
  repeat' first
    | with_reducible first
      | assumption | apply followGov_keeps | apply signal_keeps | apply takeLocal_keeps | apply agreeNr_keeps
       | apply takeFar_keeps | apply followBridge_keeps | apply keeps_foldl | apply keeps_ite
    | split | intro _

theorem execProtFastpathEval_keeps {r0 : State} (p : PairId) (s : State) (hk : Keeps r0 s) :
    KeepsR r0 (execProtFastpathEval p s) := by
  unfold execProtFastpathEval
  try dsimp only
  repeat' first
    | with_reducible first
      | assumption | apply takeDecision_keeps | apply setSel_keeps | apply keeps_foldl | apply keepsR_next
       | apply keeps_ite | apply keepsR_ite
    | split | intro _

theorem execHlWaitExpire_keeps {r0 : State} (p : PairId) (s : State) (hk : Keeps r0 s) :
    KeepsR r0 (execHlWaitExpire p s) := by
  unfold execHlWaitExpire
  try dsimp only
  repeat' first
    | with_reducible first
      | assumption | apply setSel_keeps | apply keeps_foldl | apply keepsR_next | apply keeps_ite | apply keepsR_ite
    | split | intro _

theorem execWtrExpire_keeps {r0 : State} (p : PairId) (s : State) (hk : Keeps r0 s) :
    KeepsR r0 (execWtrExpire p s) := by
  unfold execWtrExpire
  try dsimp only
  repeat' first
    | with_reducible first
      | assumption | apply prtPut_keeps | apply keeps_foldl | apply keepsR_next | apply keeps_ite | apply keepsR_ite
    | split | intro _

theorem execFopNrDeclare_keeps {r0 : State} (p : PairId) (s : State) (hk : Keeps r0 s) :
    KeepsR r0 (execFopNrDeclare p s) := by
  unfold execFopNrDeclare
  try dsimp only
  repeat' first
    | with_reducible first
      | assumption | apply protEvt_keeps | apply prtPut_keeps | apply keeps_foldl | apply keepsR_next
       | apply keeps_ite | apply keepsR_ite
    | split | intro _

theorem resumeWtr_keeps {r0 : State} (p : Nat) (s : State) (hk : Keeps r0 s) :
    Keeps r0 (resumeWtr p s) := by
  unfold resumeWtr
  try dsimp only
  repeat' first
    | with_reducible first
      | assumption | apply countNoTimer_keeps | apply prtPut_keeps | apply keeps_foldl | apply keeps_ite
    | split | intro _

theorem execProtHoldEnd_keeps {r0 : State} (p : PairId) (limit : Bool) (s : State) (hk : Keeps r0 s) :
    KeepsR r0 (execProtHoldEnd p limit s) := by
  unfold execProtHoldEnd
  try dsimp only
  repeat' first
    | with_reducible first
      | assumption | apply startHoldoff_keeps | apply resumeWtr_keeps | apply cenInc_keeps | apply prtPut_keeps
       | apply keeps_foldl | apply keepsR_next | apply keeps_ite | apply keepsR_ite
    | split | intro _

theorem protEffect_keeps {r0 : State} (op : Nat) (p : Nat) (s : State) (hk : Keeps r0 s) :
    Keeps r0 (protEffect op p s) := by
  unfold protEffect
  try dsimp only
  repeat' first
    | with_reducible first
      | assumption | apply setGov_keeps | apply prtPut_keeps | apply keeps_foldl | apply keeps_ite
    | split | intro _

theorem protApply_keeps {r0 : State} (op : Nat) (p : Nat) (s : State) (hk : Keeps r0 s) :
    Keeps r0 (protApply op p s).1 := by
  unfold protApply
  try dsimp only
  repeat' first
    | with_reducible first
      | assumption | apply signal_keeps | apply protEffect_keeps | apply countNoTimer_keeps | apply prtPut_keeps
       | apply keeps_foldl | apply keeps_ite
    | split | intro _

theorem protLand_keeps {r0 : State} (o : Origin) (op p : Nat) (s : State) (hk : Keeps r0 s) :
    Keeps r0 (protLand o op p s) := by
  have h := protApply_keeps op p s hk
  unfold protLand
  split
  · rename_i e; rw [e] at h; exact h
  · rename_i e; rw [e] at h; exact refuse_keeps _ _ _ _ _ h

theorem protReq_keeps {r0 : State} (op : Nat) (w : ReqStep) (s : State) (hk : Keeps r0 s) :
    KeepsR r0 (protReq op w s) := by
  unfold protReq
  try dsimp only
  repeat' first
    | with_reducible first
      | assumption | apply protLand_keeps | apply issue_keeps | apply outsideGrant_keeps | apply stage_keeps
       | apply keeps_foldl | apply keepsR_next | apply keeps_ite | apply keepsR_ite
    | split | intro _

theorem execProtReqClear_keeps {r0 : State} (w : ReqStep) (s : State) (hk : Keeps r0 s) :
    KeepsR r0 (execProtReqClear w s) := by
  unfold execProtReqClear
  try dsimp only
  repeat' first
    | with_reducible first
      | assumption | apply protReq_keeps | apply keeps_foldl | apply keepsR_next | apply keeps_ite | apply keepsR_ite
    | split | intro _

theorem execProtReqLo_keeps {r0 : State} (w : ReqStep) (s : State) (hk : Keeps r0 s) :
    KeepsR r0 (execProtReqLo w s) := by
  unfold execProtReqLo
  try dsimp only
  repeat' first
    | with_reducible first
      | assumption | apply protReq_keeps | apply keeps_foldl | apply keepsR_next | apply keeps_ite | apply keepsR_ite
    | split | intro _

theorem execProtReqFs_keeps {r0 : State} (w : ReqStep) (s : State) (hk : Keeps r0 s) :
    KeepsR r0 (execProtReqFs w s) := by
  unfold execProtReqFs
  try dsimp only
  repeat' first
    | with_reducible first
      | assumption | apply protReq_keeps | apply keeps_foldl | apply keepsR_next | apply keeps_ite | apply keepsR_ite
    | split | intro _

theorem execProtReqMsP_keeps {r0 : State} (w : ReqStep) (s : State) (hk : Keeps r0 s) :
    KeepsR r0 (execProtReqMsP w s) := by
  unfold execProtReqMsP
  try dsimp only
  repeat' first
    | with_reducible first
      | assumption | apply protReq_keeps | apply keeps_foldl | apply keepsR_next | apply keeps_ite | apply keepsR_ite
    | split | intro _

theorem execProtReqMsW_keeps {r0 : State} (w : ReqStep) (s : State) (hk : Keeps r0 s) :
    KeepsR r0 (execProtReqMsW w s) := by
  unfold execProtReqMsW
  try dsimp only
  repeat' first
    | with_reducible first
      | assumption | apply protReq_keeps | apply keeps_foldl | apply keepsR_next | apply keeps_ite | apply keepsR_ite
    | split | intro _

theorem execProtReqExer_keeps {r0 : State} (w : ReqStep) (s : State) (hk : Keeps r0 s) :
    KeepsR r0 (execProtReqExer w s) := by
  unfold execProtReqExer
  try dsimp only
  repeat' first
    | with_reducible first
      | assumption | apply protReq_keeps | apply keeps_foldl | apply keepsR_next | apply keeps_ite | apply keepsR_ite
    | split | intro _

theorem execProtReqWtr_keeps {r0 : State} (w : ReqStep) (s : State) (hk : Keeps r0 s) :
    KeepsR r0 (execProtReqWtr w s) := by
  unfold execProtReqWtr
  try dsimp only
  repeat' first
    | with_reducible first
      | assumption | apply protReq_keeps | apply keeps_foldl | apply keepsR_next | apply keeps_ite | apply keepsR_ite
    | split | intro _

theorem execProtReqDnr_keeps {r0 : State} (w : ReqStep) (s : State) (hk : Keeps r0 s) :
    KeepsR r0 (execProtReqDnr w s) := by
  unfold execProtReqDnr
  try dsimp only
  repeat' first
    | with_reducible first
      | assumption | apply protReq_keeps | apply keeps_foldl | apply keepsR_next | apply keeps_ite | apply keepsR_ite
    | split | intro _

theorem execProtReqNr_keeps {r0 : State} (w : ReqStep) (s : State) (hk : Keeps r0 s) :
    KeepsR r0 (execProtReqNr w s) := by
  unfold execProtReqNr
  try dsimp only
  repeat' first
    | with_reducible first
      | assumption | apply protReq_keeps | apply keeps_foldl | apply keepsR_next | apply keeps_ite | apply keepsR_ite
    | split | intro _

theorem execProtSt_keeps {r0 : State} (i : IssA) (gD : Reg) (gA : Reg) (s : State) (hk : Keeps r0 s) :
    KeepsR r0 (execProtSt i gD gA s) := by
  unfold execProtSt
  try dsimp only
  repeat' first
    | with_reducible first
      | assumption | apply setReg_keeps | apply issue_keeps | apply outsideGrant_keeps | apply keeps_foldl
       | apply keepsR_next | apply keeps_ite | apply keepsR_ite
    | split | intro _

theorem keepRaised_keeps {r0 : State} (p : Nat) (s : State) (hk : Keeps r0 s) :
    Keeps r0 (keepRaised p s) := by
  unfold keepRaised
  try dsimp only
  repeat' first
    | with_reducible first
      | assumption | apply prtPut_keeps | apply keeps_foldl | apply keeps_ite
    | split | intro _

theorem farTaken_keeps {r0 : State} (p : Nat) (s : State) (hk : Keeps r0 s) :
    Keeps r0 (farTaken p s) := by
  unfold farTaken
  try dsimp only
  repeat' first
    | with_reducible first
      | assumption | apply farAccept_keeps | apply keeps_ite
    | split | intro _

theorem applyPrt_keeps {r0 : State} (before : State) (plan : State) (p : Nat) (w : Nat) (v : Word) (s : State) (hk : Keeps r0 s) :
    KeepsE r0 (applyPrt before plan p w v s) := by
  unfold applyPrt
  try dsimp only
  repeat' first
    | with_reducible first
      | assumption | exact keepsE_error | apply prtStop_keeps | apply prtPut_keeps | apply keepRaised_keeps
       | apply farTaken_keeps | apply cwSet_keeps | apply keeps_foldl | apply keepsE_ok | apply keeps_ite | apply keepsE_ite
    | split | intro _

theorem applyPrtWrites_keeps {r0 : State} (p : Nat) (ws : List PrtWrite) (s : State) (hk : Keeps r0 s) :
    Keeps r0 (applyPrtWrites p ws s) := by
  unfold applyPrtWrites
  try dsimp only
  repeat' first
    | with_reducible first
      | assumption | exact keepsE_error | apply settle_keeps | apply applyPrt_keeps | apply cwSet_keeps
       | apply keeps_foldl | apply keepsE_ok | apply keeps_ite | apply keepsE_ite
    | split | intro _

theorem execPrtCfg_keeps {r0 : State} (p : PairId) (ws : List PrtWrite) (s : State) (hk : Keeps r0 s) :
    KeepsR r0 (execPrtCfg p ws s) := by
  unfold execPrtCfg
  try dsimp only
  repeat' first
    | with_reducible first
      | assumption | apply applyPrtWrites_keeps | apply keeps_foldl | apply keepsR_next | apply keeps_ite
       | apply keepsR_ite
    | split | intro _

theorem execPrtCntClr_keeps {r0 : State} (p : PairId) (s : State) (hk : Keeps r0 s) :
    KeepsR r0 (execPrtCntClr p s) := by
  unfold execPrtCntClr
  try dsimp only
  repeat' first
    | with_reducible first
      | assumption | apply prtPut_keeps | apply keeps_foldl | apply keepsR_next | apply keeps_ite | apply keepsR_ite
    | split | intro _

theorem prtCheck_keeps {r0 : State} (p : Nat) (s : State) (hk : Keeps r0 s) :
    Keeps r0 (prtCheck p s) := by
  unfold prtCheck
  try dsimp only
  repeat' first
    | with_reducible first
      | assumption | apply protEvt_keeps | apply prtPut_keeps | apply keeps_foldl | apply keeps_ite
    | split | intro _

theorem prtChecks_keeps {r0 : State} (s : State) (hk : Keeps r0 s) :
    Keeps r0 (prtChecks s) := by
  unfold prtChecks
  try dsimp only
  repeat' first
    | with_reducible first
      | assumption | apply prtCheck_keeps | apply keeps_foldl | apply keeps_ite
    | split | intro _

theorem protSw_keeps {r0 : State} (p : Nat) (s : State) (hk : Keeps r0 s) :
    Keeps r0 (protSw p s) := by
  unfold protSw
  try dsimp only
  repeat' first
    | with_reducible first
      | assumption | apply dueRecord_keeps | apply prtPut_keeps | apply keeps_foldl | apply keeps_ite
    | split | intro _

theorem protSws_keeps {r0 : State} (s : State) (hk : Keeps r0 s) :
    Keeps r0 (protSws s) := by
  unfold protSws
  try dsimp only
  repeat' first
    | with_reducible first
      | assumption | apply protSw_keeps | apply keeps_foldl | apply keeps_ite
    | split | intro _

theorem applyOhPut_keeps {r0 : State} (o : Origin) (id : Nat) (field : Nat) (word : Nat) (v : Word) (s : State)
    (hk : Keeps r0 s) :
    Keeps r0 (applyOhPut o id field word v s) := by
  unfold applyOhPut
  try dsimp only
  repeat' first
    | with_reducible first
      | assumption | exact keepsE_error | apply settle_keeps | apply ohErr_keeps | apply ohMisdirect_keeps
       | apply ohSet_keeps | apply keeps_foldl | apply keepsE_ok | apply keeps_ite | apply keepsE_ite
    | split | intro _

end Sys2Proof.Machine
end

