-- ==== Sys2Proof/Laws/KeepReceived.lean ====
section
/-! SUPPORT. Each operation of Machine/Received.lean leaves the waiting commands alone and keeps canonical form. -/

set_option linter.unusedTactic false
set_option linter.unreachableTactic false

namespace Sys2Proof.Machine

open Sys2Proof.Safety

theorem storeCaptures_keeps {r0 : State} (id : Nat) (layer : Nat) (cs : List Capture) (s : State) (hk : Keeps r0 s) :
    Keeps r0 (storeCaptures id layer cs s) := by
  unfold storeCaptures
  try dsimp only
  repeat' first
    | with_reducible first
      | assumption | apply ohSet_keeps | apply keeps_foldl | apply keeps_ite
    | split | intro _

theorem storeBip_keeps {r0 : State} (id : Nat) (layer : Nat) (f : RxFrame) (s : State) (hk : Keeps r0 s) :
    Keeps r0 (storeBip id layer f s) := by
  unfold storeBip
  try dsimp only
  repeat' first
    | with_reducible first
      | assumption | apply ohSet_keeps | apply keeps_foldl | apply keeps_ite
    | split | intro _

theorem storeBei_keeps {r0 : State} (id : Nat) (layer : Nat) (f : RxFrame) (s : State) (hk : Keeps r0 s) :
    Keeps r0 (storeBei id layer f s) := by
  unfold storeBei
  try dsimp only
  repeat' first
    | with_reducible first
      | assumption | apply ohSet_keeps | apply keeps_foldl | apply keeps_ite
    | split | intro _

theorem countBlocks_keeps {r0 : State} (id : Nat) (layer : Nat) (f : RxFrame) (s : State) (hk : Keeps r0 s) :
    Keeps r0 (countBlocks id layer f s) := by
  unfold countBlocks
  try dsimp only
  repeat' first
    | with_reducible first
      | assumption | apply monPut_keeps | apply keeps_foldl | apply keeps_ite
    | split | intro _

theorem frameRuns_keeps {r0 : State} (id : Nat) (layer : Nat) (f : RxFrame) (s : State) (hk : Keeps r0 s) :
    Keeps r0 (frameRuns id layer f s) := by
  unfold frameRuns
  try dsimp only
  repeat' first
    | with_reducible first
      | assumption | apply monPut_keeps | apply keeps_foldl | apply keeps_ite
    | split | intro _

theorem memberFrame_keeps {r0 : State} (id : Nat) (layer : Nat) (r : MemberRx) (s : State) (hk : Keeps r0 s) :
    Keeps r0 (memberFrame id layer r s) := by
  unfold memberFrame
  try dsimp only
  repeat' first
    | with_reducible first
      | assumption | apply monPut_keeps | apply keeps_foldl | apply keeps_ite
    | split | intro _

theorem ringFrames_keeps {r0 : State} (id : Nat) (f : RxFrame) (s : State) (hk : Keeps r0 s) :
    Keeps r0 (ringFrames id f s) := by
  unfold ringFrames
  try dsimp only
  repeat' first
    | with_reducible first
      | assumption | apply ringFrame_keeps | apply keeps_foldl | apply keeps_ite
    | split | intro _

theorem portFrame_keeps {r0 : State} (r : PortRx) (s : State) (hk : Keeps r0 s) :
    Keeps r0 (portFrame r s) := by
  unfold portFrame
  try dsimp only
  repeat' first
    | with_reducible first
      | assumption | apply portPut_keeps | apply countPort1_keeps | apply countPort0_keeps | apply keeps_foldl
       | apply keeps_ite
    | split | intro _

theorem fecFrame_keeps {r0 : State} (r : FecRx) (s : State) (hk : Keeps r0 s) :
    Keeps r0 (fecFrame r s) := by
  unfold fecFrame
  try dsimp only
  repeat' first
    | with_reducible first
      | assumption | apply lanePut_keeps | apply cwCount_keeps | apply keeps_foldl | apply keeps_ite
    | split | intro _

theorem streamMf_keeps {r0 : State} (id : Nat) (f : RxFrame) (s : State) (hk : Keeps r0 s) :
    Keeps r0 (streamMf id f s) := by
  unfold streamMf
  try dsimp only
  repeat' first
    | with_reducible first
      | assumption | apply mfFrame_keeps | apply keeps_foldl | apply keeps_ite
    | split | intro _

theorem monitorFrame_keeps {r0 : State} (id : Nat) (f : RxFrame) (s : State) (hk : Keeps r0 s) :
    Keeps r0 (monitorFrame id f s) := by
  unfold monitorFrame
  try dsimp only
  repeat' first
    | with_reducible first
      | assumption | apply storeBip_keeps | apply storeBei_keeps | apply monPut_keeps | apply countBlocks_keeps
       | apply storeCaptures_keeps | apply frameRuns_keeps | apply memberFrame_keeps | apply keeps_foldl
       | apply keeps_ite
    | split | intro _

theorem execFrameReceive_keeps {r0 : State} (c : CtxId) (f : RxFrame) (s : State) (hk : Keeps r0 s) :
    KeepsR r0 (execFrameReceive c f s) := by
  unfold execFrameReceive
  try dsimp only
  repeat' first
    | with_reducible first
      | assumption | apply fecFrame_keeps | apply streamMf_keeps | apply portFrame_keeps | apply monitorFrame_keeps
       | apply ringFrames_keeps | apply keeps_foldl | apply keepsR_next | apply keeps_ite | apply keepsR_ite
    | split | intro _

theorem acceptWords_keeps {r0 : State} (k : Nat) (ws : List Word) (s : State) (hk : Keeps r0 s) :
    Keeps r0 (acceptWords k ws s) := by
  unfold acceptWords
  try dsimp only
  repeat' first
    | with_reducible first
      | assumption | apply cellPut_keeps | apply farAccepted_keeps | apply ohSet_keeps | apply keeps_foldl
       | apply keeps_ite
    | split | intro _

theorem execFilterOccurrence_keeps {r0 : State} (c : ClusterId) (n : Fin 2048) (s : State) (hk : Keeps r0 s) :
    KeepsR r0 (execFilterOccurrence c n s) := by
  unfold execFilterOccurrence
  try dsimp only
  repeat' first
    | with_reducible first
      | assumption | apply acceptWords_keeps | apply cellPut_keeps | apply settleDefs_keeps | apply keeps_foldl
       | apply keepsR_next | apply keeps_ite | apply keepsR_ite
    | split | intro _

theorem execFilterUnstable_keeps {r0 : State} (c : ClusterId) (n : Fin 2048) (s : State) (hk : Keeps r0 s) :
    KeepsR r0 (execFilterUnstable c n s) := by
  unfold execFilterUnstable
  try dsimp only
  repeat' first
    | with_reducible first
      | assumption | apply cellPut_keeps | apply settleDefs_keeps | apply keeps_foldl | apply keepsR_next
       | apply keeps_ite | apply keepsR_ite
    | split | intro _

end Sys2Proof.Machine
end

