-- ==== Sys2Proof/Laws/KeepWords.lean ====
section
/-! SUPPORT. Each operation of Machine/Words.lean leaves the waiting commands alone and keeps canonical form. -/

set_option linter.unusedTactic false
set_option linter.unreachableTactic false

namespace Sys2Proof.Machine

open Sys2Proof.Safety

theorem planWrite_keeps {r0 : State} (before : State) (a : Nat) (v : Word) (s : State) (hk : Keeps r0 s) :
    Keeps r0 (planWrite before a v s) := by
  unfold planWrite
  try dsimp only
  repeat' first
    | with_reducible first
      | assumption | apply hqStore_keeps | apply cqStore_keeps | apply mapStoreWord_keeps | apply frmStore_keeps
       | apply cwSet_keeps | apply keeps_foldl | apply keeps_ite
    | split | intro _

theorem clearOnes_keeps {r0 : State} (a : Nat) (mask : Word) (v : Word) (s : State) (hk : Keeps r0 s) :
    Keeps r0 (clearOnes a mask v s) := by
  unfold clearOnes
  try dsimp only
  repeat' first
    | with_reducible first
      | assumption | apply cwSet_keeps | apply keeps_foldl | apply keeps_ite
    | split | intro _

theorem storeWord_keeps {r0 : State} (a : Nat) (v : Word) (s : State) (hk : Keeps r0 s) :
    Keeps r0 (storeWord a v s) := by
  unfold storeWord
  try dsimp only
  repeat' first
    | with_reducible first
      | assumption | apply cwSet_keeps | apply keeps_foldl | apply keeps_ite
    | split | intro _

theorem writeLane_keeps {r0 : State} (plan : State) (a : Nat) (v : Word) (s : State) (hk : Keeps r0 s) :
    KeepsE r0 (writeLane plan a v s) := by
  unfold writeLane
  try dsimp only
  repeat' first
    | with_reducible first
      | assumption | exact keepsE_error | apply applyLpbk_keeps | apply applyEqCtrl_keeps | apply applyLaneCfg_keeps
       | apply applyTxFfe_keeps | apply clearOnes_keeps | apply applyEqSet_keeps | apply lanePut_keeps
       | apply applyPrbsCtrl_keeps | apply keeps_foldl | apply keepsE_ok | apply keeps_ite | apply keepsE_ite
    | split | intro _

theorem writeFec_keeps {r0 : State} (plan : State) (a : Nat) (v : Word) (s : State) (hk : Keeps r0 s) :
    KeepsE r0 (writeFec plan a v s) := by
  unfold writeFec
  try dsimp only
  repeat' first
    | with_reducible first
      | assumption | exact keepsE_error | apply clearFec_keeps | apply applyFecCfg_keeps | apply keeps_foldl
       | apply keepsE_ok | apply keeps_ite | apply keepsE_ite
    | split | intro _

theorem writeFramer_keeps {r0 : State} (plan : State) (a : Nat) (v : Word) (s : State) (hk : Keeps r0 s) :
    KeepsE r0 (writeFramer plan a v s) := by
  unfold writeFramer
  try dsimp only
  repeat' first
    | with_reducible first
      | assumption | exact keepsE_error | apply clearFrmCounts_keeps | apply framerPut_keeps | apply applyFrm_keeps
       | apply keeps_foldl | apply keepsE_ok | apply keeps_ite | apply keepsE_ite
    | split | intro _

theorem writeOh_keeps {r0 : State} (a : Nat) (v : Word) (s : State) (hk : Keeps r0 s) :
    KeepsE r0 (writeOh a v s) := by
  unfold writeOh
  try dsimp only
  repeat' first
    | with_reducible first
      | assumption | exact keepsE_error | apply applyFilt_keeps | apply applyPmSet_keeps | apply cwSet_keeps
       | apply keeps_foldl | apply keepsE_ok | apply keeps_ite | apply keepsE_ite
    | split | intro _

theorem writeMap_keeps {r0 : State} (before : State) (plan : State) (a : Nat) (v : Word) (s : State) (hk : Keeps r0 s) :
    KeepsE r0 (writeMap before plan a v s) := by
  unfold writeMap
  try dsimp only
  repeat' first
    | with_reducible first
      | assumption | exact keepsE_error | apply applyShim_keeps | apply applyCal_keeps | apply applyMap_keeps
       | apply portPut_keeps | apply keeps_foldl | apply keepsE_ok | apply keeps_ite | apply keepsE_ite
    | split | intro _

theorem writeDeck_keeps {r0 : State} (a : Nat) (v : Word) (s : State) (hk : Keeps r0 s) :
    KeepsE r0 (writeDeck a v s) := by
  unfold writeDeck
  try dsimp only
  repeat' first
    | with_reducible first
      | assumption | exact keepsE_error | apply applyRszRun_keeps | apply applyDeckChk_keeps | apply storeWord_keeps
       | apply applyDeckGen_keeps | apply applyRszCfg_keeps | apply cwSet_keeps | apply keeps_foldl | apply keepsE_ok
       | apply keeps_ite | apply keepsE_ite
    | split | intro _

theorem writeProof_keeps {r0 : State} (a : Nat) (v : Word) (s : State) (hk : Keeps r0 s) :
    KeepsE r0 (writeProof a v s) := by
  unfold writeProof
  try dsimp only
  repeat' first
    | with_reducible first
      | assumption | exact keepsE_error | apply applyGrp_keeps | apply applyPrfCtrl_keeps | apply keeps_foldl
       | apply keepsE_ok | apply keeps_ite | apply keepsE_ite
    | split | intro _

theorem writeQueue_keeps {r0 : State} (src : Nat) (plan : State) (a : Nat) (v : Word) (s : State) (hk : Keeps r0 s) :
    KeepsE r0 (writeQueue src plan a v s) := by
  unfold writeQueue
  try dsimp only
  repeat' first
    | with_reducible first
      | assumption | exact keepsE_error | apply applyHq_keeps | apply flushMate_keeps | apply applyCq_keeps
       | apply applyMateWm_keeps | apply cwSet_keeps | apply keeps_foldl | apply keepsE_ok | apply keeps_ite
       | apply keepsE_ite
    | split | intro _

theorem writePc_keeps {r0 : State} (a : Nat) (v : Word) (s : State) (hk : Keeps r0 s) :
    KeepsE r0 (writePc a v s) := by
  unfold writePc
  try dsimp only
  repeat' first
    | with_reducible first
      | assumption | exact keepsE_error | apply clearOnes_keeps | apply storeWord_keeps | apply writeCounter_keeps
       | apply cwSet_keeps | apply keeps_foldl | apply keepsE_ok | apply keeps_ite | apply keepsE_ite
    | split | intro _

theorem writeClk_keeps {r0 : State} (a : Nat) (v : Word) (s : State) (hk : Keeps r0 s) :
    KeepsE r0 (writeClk a v s) := by
  unfold writeClk
  try dsimp only
  repeat' first
    | with_reducible first
      | assumption | exact keepsE_error | apply applyRefCtrl_keeps | apply applyRecClk_keeps
       | apply applySyncCtrl_keeps | apply cwSet_keeps | apply keeps_foldl | apply keepsE_ok | apply keeps_ite
       | apply keepsE_ite
    | split | intro _

theorem writeAud_keeps {r0 : State} (a : Nat) (v : Word) (s : State) (hk : Keeps r0 s) :
    KeepsE r0 (writeAud a v s) := by
  unfold writeAud
  try dsimp only
  repeat' first
    | with_reducible first
      | assumption | exact keepsE_error | apply applyOw_keeps | apply applyAudCfg_keeps | apply cwSet_keeps
       | apply keeps_foldl | apply keepsE_ok | apply keeps_ite | apply keepsE_ite
    | split | intro _

theorem writePwr_keeps {r0 : State} (a : Nat) (v : Word) (s : State) (hk : Keeps r0 s) :
    KeepsE r0 (writePwr a v s) := by
  unfold writePwr
  try dsimp only
  repeat' first
    | with_reducible first
      | assumption | exact keepsE_error | apply applyPkgCtrl_keeps | apply storeWord_keeps | apply applyVloop_keeps
       | apply applyReq_keeps | apply cwSet_keeps | apply keeps_foldl | apply keepsE_ok | apply keeps_ite
       | apply keepsE_ite
    | split | intro _

theorem writeHost_keeps {r0 : State} (a : Nat) (v : Word) (s : State) (hk : Keeps r0 s) :
    KeepsE r0 (writeHost a v s) := by
  unfold writeHost
  try dsimp only
  repeat' first
    | with_reducible first
      | assumption | exact keepsE_error | apply storeWord_keeps | apply applyCtxOp_keeps | apply ringPut__keeps
       | apply cwSet_keeps | apply keeps_foldl | apply keepsE_ok | apply keeps_ite | apply keepsE_ite
    | split | intro _

theorem writeCen_keeps {r0 : State} (a : Nat) (v : Word) (s : State) (hk : Keeps r0 s) :
    KeepsE r0 (writeCen a v s) := by
  unfold writeCen
  try dsimp only
  repeat' first
    | with_reducible first
      | assumption | exact keepsE_error | apply storeWord_keeps | apply clearCensus_keeps | apply keeps_foldl
       | apply keepsE_ok | apply keeps_ite | apply keepsE_ite
    | split | intro _

theorem writePair_keeps {r0 : State} (before : State) (plan : State) (a : Nat) (v : Word) (s : State) (hk : Keeps r0 s) :
    KeepsE r0 (writePair before plan a v s) := by
  unfold writePair
  try dsimp only
  repeat' first
    | with_reducible first
      | assumption | exact keepsE_error | apply hlPut_keeps | apply applyHl_keeps | apply applyPrt_keeps
       | apply prtPut_keeps | apply keeps_foldl | apply keepsE_ok | apply keeps_ite | apply keepsE_ite
    | split | intro _

theorem applyWord_keeps {r0 : State} (src : Nat) (before : State) (plan : State) (a : Nat) (v : Word) (s : State)
    (hk : Keeps r0 s) :
    KeepsE r0 (applyWord src before plan a v s) := by
  unfold applyWord
  try dsimp only
  repeat' first
    | with_reducible first
      | assumption | exact keepsE_error | apply writeMap_keeps | apply writeProof_keeps | apply applyMateCtrl_keeps
       | apply writePair_keeps | apply writeFec_keeps | apply writeHost_keeps | apply writeFramer_keeps
       | apply writeOh_keeps | apply writeDeck_keeps | apply writeClk_keeps | apply writePwr_keeps
       | apply writeAud_keeps | apply writeQueue_keeps | apply writePc_keeps | apply applyBlk_keeps
       | apply writeCen_keeps | apply writeLane_keeps | apply cwSet_keeps | apply keeps_foldl | apply keepsE_ok
       | apply keeps_ite | apply keepsE_ite
    | split | intro _

theorem execControlWordWrite_keeps {r0 : State} (o : Origin) (addr : BitVec 24) (v : Word) (s : State)
    (hk : Keeps r0 s) :
    KeepsR r0 (execControlWordWrite o addr v s) := by
  unfold execControlWordWrite
  try dsimp only
  repeat' first
    | with_reducible first
      | assumption | exact keepsE_error | apply settle_keeps | apply planWrite_keeps | apply applyWord_keeps
       | apply keeps_foldl | apply keepsR_next | apply keepsE_ok | apply keeps_ite | apply keepsE_ite
       | apply keepsR_ite
    | split | intro _

end Sys2Proof.Machine
end

