-- ==== Sys2Proof/Laws/KeepTick.lean ====
section
/-! SUPPORT. Each operation of Machine/Tick.lean leaves the waiting commands alone and keeps canonical form. -/

set_option linter.unusedTactic false
set_option linter.unreachableTactic false

namespace Sys2Proof.Machine

open Sys2Proof.Safety

theorem reachCycle_keeps {r0 : State} (e : Nat) (n : Nat) (s : State) (hk : Keeps r0 s) :
    Keeps r0 (reachCycle e n s) := by
  unfold reachCycle
  try dsimp only
  repeat' first
    | with_reducible first
      | assumption | apply passCycles_keeps | apply keeps_foldl | apply keeps_ite
    | split | intro _

theorem reachAll_keeps {r0 : State} (n : Nat) (s : State) (hk : Keeps r0 s) :
    Keeps r0 (reachAll n s) := by
  unfold reachAll
  try dsimp only
  repeat' first
    | with_reducible first
      | assumption | apply reachCycle_keeps | apply keeps_foldl | apply keeps_ite
    | split | intro _

theorem startPass_keeps {r0 : State} (e : Nat) (s : State) (hk : Keeps r0 s) :
    Keeps r0 (startPass e s) := by
  unfold startPass
  try dsimp only
  repeat' first
    | with_reducible first
      | assumption | apply engPut_keeps | apply startRun_keeps | apply keeps_foldl | apply keeps_ite
    | split | intro _

theorem suspendBatch_keeps {r0 : State} (s : State) (hk : Keeps r0 s) :
    Keeps r0 (suspendBatch s) := by
  unfold suspendBatch
  try dsimp only
  repeat' first
    | with_reducible first
      | assumption | apply putSuspended_keeps | apply engPut_keeps | apply keeps_foldl | apply keeps_ite
    | split | intro _

theorem execPassStart_keeps {r0 : State} (s : State) (hk : Keeps r0 s) :
    KeepsR r0 (execPassStart s) := by
  unfold execPassStart
  try dsimp only
  repeat' first
    | with_reducible first
      | assumption | apply reachAll_keeps | apply suspendBatch_keeps | apply resumeBatch_keeps | apply startPass_keeps
       | apply keeps_foldl | apply keepsR_next | apply keeps_ite | apply keepsR_ite
    | split | intro _

theorem overrunEngine_keeps {r0 : State} (e : Nat) (s : State) (hk : Keeps r0 s) :
    Keeps r0 (overrunEngine e s) := by
  unfold overrunEngine
  try dsimp only
  repeat' first
    | with_reducible first
      | assumption | apply dropItem_keeps | apply record0_keeps | apply cwCount_keeps | apply cenInc_keeps
       | apply engPut_keeps | apply keeps_foldl | apply keeps_ite
    | split | intro _

theorem overrunAll_keeps {r0 : State} (s : State) (hk : Keeps r0 s) :
    Keeps r0 (overrunAll s) := by
  unfold overrunAll
  try dsimp only
  repeat' first
    | with_reducible first
      | assumption | apply overrunEngine_keeps | apply keeps_foldl | apply keeps_ite
    | split | intro _

theorem execPassOverrun_keeps {r0 : State} (s : State) (hk : Keeps r0 s) :
    KeepsR r0 (execPassOverrun s) := by
  unfold execPassOverrun
  try dsimp only
  repeat' first
    | with_reducible first
      | assumption | apply overrunAll_keeps | apply keeps_foldl | apply keepsR_next | apply keeps_ite
       | apply keepsR_ite
    | split | intro _

theorem planOf_keeps {r0 : State} (s : State) (l : List Effect) (hk : Keeps r0 s) :
    Keeps r0 (planOf s l) := by
  unfold planOf
  try dsimp only
  repeat' first
    | with_reducible first
      | assumption | apply planWrite_keeps | apply keeps_foldl | apply keeps_ite
    | split | intro _

theorem landSwap_keeps {r0 : State} (o : Origin) (before : State) (dies : Nat) (s : State) (hk : Keeps r0 s) :
    Keeps r0 (landSwap o before dies s) := by
  unfold landSwap
  try dsimp only
  repeat' first
    | with_reducible first
      | assumption | apply refuse_keeps | apply applySwap_keeps | apply keeps_foldl | apply keeps_ite
    | split | intro _

theorem applyEffect_keeps {r0 : State} (before : State) (s : State) (f : Judged) (hk : Keeps r0 s) :
    Keeps r0 (applyEffect before s f) := by
  unfold applyEffect
  try dsimp only
  repeat' first
    | with_reducible first
      | assumption | exact keepsE_error | apply landSwap_keeps | apply applyFilt_keeps | apply applyTraceSel_keeps
       | apply settle_keeps | apply protLand_keeps | apply applyWord_keeps | apply applyDeckW_keeps
       | apply applyDef_keeps | apply applyOhPut_keeps | apply landPower_keeps | apply keeps_foldl | apply keepsE_ok
       | apply keeps_ite | apply keepsE_ite
    | split | intro _

theorem applyRank_keeps {r0 : State} (before : State) (l : List Judged) (s : State) (rank : Nat)
    (hk : Keeps r0 s) :
    Keeps r0 (applyRank before l s rank) := by
  unfold applyRank
  try dsimp only
  repeat' first
    | with_reducible first
      | assumption | apply applyEffect_keeps | apply keeps_foldl | apply keeps_ite
    | split | intro _

theorem applyEffects_keeps {r0 : State} (before : State) (l : List Judged) (s : State)
    (hk : Keeps r0 s) :
    Keeps r0 (applyEffects before l s) := by
  unfold applyEffects
  try dsimp only
  repeat' first
    | with_reducible first
      | assumption | apply applyRank_keeps | apply keeps_foldl | apply keeps_ite
    | split | intro _

theorem clearStaged_keeps {r0 : State} (s : State) (hk : Keeps r0 s) :
    Keeps r0 (clearStaged s) := by
  unfold clearStaged
  try dsimp only
  repeat' first
    | with_reducible first
      | assumption | apply putJtag_keeps | apply engPut_keeps | apply keeps_foldl | apply keeps_ite
    | split | intro _

theorem clearGot_keeps {r0 : State} (s : State) (hk : Keeps r0 s) :
    Keeps r0 (clearGot s) := by
  unfold clearGot
  try dsimp only
  repeat' first
    | with_reducible first
      | assumption | apply putCells_keeps | apply keeps_foldl | apply keeps_ite | apply tabSet_ok | apply tabSet_ok'
       | apply tabFilter_ok | apply tabMap_ok | apply tabDrop_ok | exact tabNil_ok
    | refine fun (c : Canon _) => ?_ | exact (c.cells_ok :) | split | intro _

theorem engFault_keeps {r0 : State} (e : Nat) (s : State) (hk : Keeps r0 s) :
    Keeps r0 (engFault e s) := by
  unfold engFault
  try dsimp only
  repeat' first
    | with_reducible first
      | assumption | apply record0_keeps | apply engPut_keeps | apply keeps_foldl | apply keeps_ite
    | split | intro _

theorem creditClips_keeps {r0 : State} (s : State) (hk : Keeps r0 s) :
    Keeps r0 (creditClips s) := by
  unfold creditClips
  try dsimp only
  repeat' first
    | with_reducible first
      | assumption | apply record0_keeps | apply hqPut_keeps | apply putLink_keeps | apply keeps_foldl
       | apply keeps_ite
    | split | intro _

theorem discardEvt_keeps {r0 : State} (s : State) (hk : Keeps r0 s) :
    Keeps r0 (discardEvt s) := by
  unfold discardEvt
  try dsimp only
  repeat' first
    | with_reducible first
      | assumption | apply mateEvt_keeps | apply putLink_keeps | apply keeps_foldl | apply keeps_ite
    | split | intro _

theorem placeDue_keeps {r0 : State} (s : State) (hk : Keeps r0 s) :
    Keeps r0 (placeDue s) := by
  unfold placeDue
  try dsimp only
  repeat' first
    | with_reducible first
      | assumption | apply record_keeps | apply putDue_keeps | apply keeps_foldl | apply keeps_ite
    | split | intro _

theorem acceptLoaf_keeps {r0 : State} (s : State) (hk : Keeps r0 s) :
    Keeps r0 (acceptLoaf s) := by
  unfold acceptLoaf
  try dsimp only
  repeat' first
    | with_reducible first
      | assumption | apply resync_keeps | apply putLoafDue_keeps | apply keeps_foldl | apply keeps_ite
    | split | intro _

theorem windowChecks_keeps {r0 : State} (s : State) (hk : Keeps r0 s) :
    Keeps r0 (windowChecks s) := by
  unfold windowChecks
  try dsimp only
  repeat' first
    | with_reducible first
      | assumption | apply prtChecks_keeps | apply rszArmDie_keeps | apply acceptLoaf_keeps | apply protSws_keeps
       | apply rszRetry_keeps | apply keeps_foldl | apply keeps_ite
    | split | intro _

theorem windowRecords_keeps {r0 : State} (filts : List (List Word)) (s : State) (hk : Keeps r0 s) :
    Keeps r0 (windowRecords filts s) := by
  unfold windowRecords
  try dsimp only
  repeat' first
    | with_reducible first
      | assumption | apply placeDue_keeps | apply creditClips_keeps | apply engFault_keeps | apply discardEvt_keeps
       | apply record_keeps | apply integRecord_keeps | apply keeps_foldl | apply keeps_ite
    | split | intro _

theorem commitWindow_keeps {r0 : State} (s : State) (hk : Keeps r0 s) :
    Keeps r0 (commitWindow s) := by
  unfold commitWindow
  try dsimp only
  repeat' first
    | with_reducible first
      | assumption | apply wipe_keeps | apply placementPhase_keeps | apply takeSeal_keeps | apply clearStaged_keeps
       | apply windowRecords_keeps | apply placeCompletions_keeps | apply windowChecks_keeps | apply reachAll_keeps
       | apply suspendBatch_keeps | apply sampleAll_keeps | apply planOf_keeps | apply overrunAll_keeps
       | apply applyEffects_keeps | apply clearGot_keeps | apply keeps_foldl | apply keeps_ite
    | split | intro _

theorem execCommitWindow_keeps {r0 : State} (s : State) (hk : Keeps r0 s) :
    KeepsR r0 (execCommitWindow s) := by
  unfold execCommitWindow
  try dsimp only
  repeat' first
    | with_reducible first
      | assumption | apply commitWindow_keeps | apply keeps_foldl | apply keepsR_next | apply keeps_ite
       | apply keepsR_ite
    | split | intro _

theorem sendTiers_keeps {r0 : State} (es : List (Nat × Word)) (s : State) (hk : Keeps r0 s) :
    Keeps r0 (sendTiers es s) := by
  unfold sendTiers
  try dsimp only
  repeat' first
    | with_reducible first
      | assumption | apply putRdn_keeps | apply mateAppend_keeps | apply keeps_foldl | apply keeps_ite
    | refine fun (c : Canon _) => ?_ | exact (c.sweep_ok :) | exact rfl | split | intro _

theorem sendSweep_keeps {r0 : State} (s : State) (hk : Keeps r0 s) :
    Keeps r0 (sendSweep s) := by
  unfold sendSweep
  try dsimp only
  repeat' first
    | with_reducible first
      | assumption | apply mateEvt_keeps | apply putRdn_keeps | apply mateAppend_keeps | apply keeps_foldl
       | apply keeps_ite
    | refine fun (c : Canon _) => ?_ | exact (c.sweep_ok :) | exact rfl | split | intro _

theorem sealDelta_keeps {r0 : State} (s : State) (hk : Keeps r0 s) : Keeps r0 (sealDelta s) :=
  sendSweep_keeps _ (Keeps.trans hk ⟨(sendTiers_keeps _ s (keeps_refl s)).pending, fun c =>
    (putBank_keeps (sendTiers_keeps _ s (keeps_refl s)) fun _ => starterOf_ok c).canon c⟩)

theorem execTier1DeltaSeal_keeps {r0 : State} (s : State) (hk : Keeps r0 s) :
    KeepsR r0 (execTier1DeltaSeal s) := by
  unfold execTier1DeltaSeal
  try dsimp only
  repeat' first
    | with_reducible first
      | assumption | apply sealDelta_keeps | apply keeps_foldl | apply keepsR_next | apply keeps_ite
       | apply keepsR_ite
    | split | intro _

theorem latchCtx_keeps {r0 : State} (id : Nat) (s : State) (hk : Keeps r0 s) :
    Keeps r0 (latchCtx id s) := by
  unfold latchCtx
  try dsimp only
  repeat' first
    | with_reducible first
      | assumption | apply ctxSet_keeps | apply monPut_keeps | apply keeps_foldl | apply keeps_ite
    | split | intro _

theorem latchFec_keeps {r0 : State} (k : Nat) (s : State) (hk : Keeps r0 s) :
    Keeps r0 (latchFec k s) := by
  unfold latchFec
  try dsimp only
  repeat' first
    | with_reducible first
      | assumption | apply lanePut_keeps | apply cwSet_keeps | apply keeps_foldl | apply keeps_ite
    | split | intro _

theorem repeatXoff_keeps {r0 : State} (s : State) (hk : Keeps r0 s) :
    Keeps r0 (repeatXoff s) := by
  unfold repeatXoff
  try dsimp only
  repeat' first
    | with_reducible first
      | assumption | apply cqPut_keeps | apply keeps_foldl | apply keeps_ite
    | split | intro _

theorem wtrTick_keeps {r0 : State} (s : State) (hk : Keeps r0 s) :
    Keeps r0 (wtrTick s) := by
  unfold wtrTick
  try dsimp only
  repeat' first
    | with_reducible first
      | assumption | apply putPairs_keeps | apply keeps_foldl | apply keeps_ite | apply tabSet_ok | apply tabSet_ok'
       | apply tabFilter_ok | apply tabMap_ok | apply tabDrop_ok | exact tabNil_ok
    | refine fun (c : Canon _) => ?_ | exact (c.pairs_ok :) | split | intro _

theorem freshTick_keeps {r0 : State} (s : State) (hk : Keeps r0 s) : Keeps r0 (freshTick s) := by
  have h1 := putPorts_keeps (putEngines_keeps hk fun c => tabMap_ok
    (f := fun E => { E with tickCyc := 0, ended := false, started := false, ledger := {} }) c.engines_ok)
    fun c => tabMap_ok (f := fun q => { q with cmRange := false }) c.ports_ok
  exact putRdn_keeps (putFirstRing_keeps (putUnverified_keeps (putSubsts_keeps (putChkMax_keeps (putViolated_keeps h1)
    fun _ => tabNil_ok) fun _ => tabNil_ok) fun _ => tabNil_ok) fun _ => tabNil_ok) fun c => c.sweep_ok

theorem beat_keeps {r0 : State} (s : State) (hk : Keeps r0 s) :
    Keeps r0 (beat s) := by
  unfold beat
  try dsimp only
  repeat' first
    | with_reducible first
      | assumption | apply cenInc_keeps | apply putHbOut_keeps | apply keeps_foldl | apply keeps_ite
    | split | intro _

theorem switchLoaf_keeps {r0 : State} (s : State) (hk : Keeps r0 s) :
    Keeps r0 (switchLoaf s) := by
  unfold switchLoaf
  try dsimp only
  repeat' first
    | with_reducible first
      | assumption | apply enterMode_keeps | apply putLoafDue_keeps | apply putLoafNext_keeps | apply putLoaf_keeps
       | apply keeps_foldl | apply keeps_ite
    | split | intro _

theorem nextTick_keeps {r0 : State} (s : State) (hk : Keeps r0 s) :
    Keeps r0 (nextTick s) := by
  unfold nextTick
  try dsimp only
  repeat' first
    | with_reducible first
      | assumption | apply putWrap_keeps | apply putTick_keeps | apply keeps_foldl | apply keeps_ite
    | split | intro _

theorem testTick_keeps {r0 : State} (s : State) (hk : Keeps r0 s) :
    Keeps r0 (testTick s) := by
  unfold testTick
  try dsimp only
  repeat' first
    | with_reducible first
      | assumption | apply putTest_keeps | apply keeps_foldl | apply keeps_ite
    | split | intro _

theorem coolTick_keeps {r0 : State} (m : Meas) (s : State) (hk : Keeps r0 s) :
    Keeps r0 (coolTick m s) := by
  unfold coolTick
  try dsimp only
  repeat' first
    | with_reducible first
      | assumption | apply putMeas_keeps | apply putHot_keeps | apply keeps_foldl | apply keeps_ite
    | split | intro _

theorem latchEach_ok {α : Type} {l : List α} {f : α → List (Nat × Word)} {t : Tab Word} (h : tabWf latchReset t = true) :
    tabWf latchReset (latchEach l f t) = true :=
  tabFold_ok h fun _ _ ht => tabFold_ok ht fun _ _ hu => tabSet_ok hu

theorem latchWords_ok (s : State) : tabWf latchReset (latchWords s) = true := by
  unfold latchWords
  iterate 16 refine latchEach_ok ?_
  rfl

theorem latchAll_keeps {r0 : State} (s : State) (hk : Keeps r0 s) : Keeps r0 (latchAll s) := by
  have h1 := putWords_keeps hk fun _ => latchWords_ok s
  have h2 : Keeps r0 ((s.putWords (latchWords s)).putOhT0 s.oh) :=
    ⟨h1.pending, fun c => { h1.canon c with ohT0_ok := (hk.canon c).oh_ok }⟩
  have h3 : Keeps r0 (((s.putWords (latchWords s)).putOhT0 s.oh).putCellsT0 s.cells) :=
    ⟨h2.pending, fun c => { h2.canon c with cellsT0_ok := (hk.canon c).cells_ok }⟩
  exact keeps_foldl (keeps_foldl h3 fun _ _ ht => latchCtx_keeps _ _ ht) fun _ _ ht => latchFec_keeps _ _ ht

theorem tickBoundary_keeps {r0 : State} (m : Meas) (s : State) (hk : Keeps r0 s) : Keeps r0 (tickBoundary m s) := by
  unfold tickBoundary
  extract_lets s1 s2 src s3 s4 s5 s6
  have h1 : Keeps r0 s1 := reachAll_keeps _ _ (beat_keeps _ hk)
  clear_value s1
  have h2 : Keeps r0 s2 := wtrTick_keeps _ (dpllTick_keeps _ (binTick_keeps _ (testTick_keeps _ (coolTick_keeps _ _ h1))))
  clear_value s2
  have h3 : Keeps r0 s3 := putRdn_keeps h2 fun c => c.sweep_ok
  clear_value s3
  have h4 : Keeps r0 s4 := switchLoaf_keeps _ (nextTick_keeps _ (repeatXoff_keeps _ h3))
  clear_value s4
  have h5 : Keeps r0 s5 := deckEligible_keeps _ _ (deckEligible_keeps _ _ (releaseFreed_keeps _ h4))
  clear_value s5
  have h6 : Keeps r0 s6 := freshTick_keeps _ (latchAll_keeps _ h5)
  clear_value s6
  exact putSec_keeps h6 fun c => c.sealed_ok

theorem execTickBoundary_keeps {r0 : State} (m : Meas) (s : State) (hk : Keeps r0 s) :
    KeepsR r0 (execTickBoundary m s) := by
  unfold execTickBoundary
  try dsimp only
  repeat' first
    | with_reducible first
      | assumption | apply tickBoundary_keeps | apply keeps_foldl | apply keepsR_next | apply keeps_ite
       | apply keepsR_ite
    | split | intro _

end Sys2Proof.Machine
end

