-- ==== Sys2Proof/Laws/KeepView.lean ====
section
/-! SUPPORT. Each operation of Machine/View.lean leaves the waiting commands alone and keeps canonical form. -/

set_option linter.unusedTactic false
set_option linter.unreachableTactic false

namespace Sys2Proof.Machine

open Sys2Proof.Safety

theorem accessViolation_keeps {r0 : State} (kind : Nat) (e : Nat) (a : Nat) (s : State) (hk : Keeps r0 s) :
    Keeps r0 (accessViolation kind e a s) := by
  unfold accessViolation
  try dsimp only
  repeat' first
    | with_reducible first
      | assumption | apply violation_keeps | apply keeps_foldl | apply keeps_ite
    | split | intro _

theorem execCfgR_keeps {r0 : State} (i : IssA) (gD : Reg) (gA : Reg) (off : BitVec 16) (s : State) (hk : Keeps r0 s) :
    KeepsR r0 (execCfgR i gD gA off s) := by
  unfold execCfgR
  try dsimp only
  repeat' first
    | with_reducible first
      | assumption | apply refuseRead_keeps | apply setReg_keeps | apply issue_keeps | apply accessViolation_keeps
       | apply keeps_foldl | apply keepsR_next | apply keeps_ite | apply keepsR_ite
    | split | intro _

theorem execCfgW_keeps {r0 : State} (i : IssA) (gA : Reg) (gB : Reg) (off : BitVec 16) (s : State) (hk : Keeps r0 s) :
    KeepsR r0 (execCfgW i gA gB off s) := by
  unfold execCfgW
  try dsimp only
  repeat' first
    | with_reducible first
      | assumption | apply issue_keeps | apply accessViolation_keeps | apply stage_keeps | apply keeps_foldl
       | apply keepsR_next | apply keeps_ite | apply keepsR_ite
    | split | intro _

end Sys2Proof.Machine
end

