-- ==== Sys2Proof/Laws/State.lean ====
section
/-! SUPPORT. Every update of State, field by field: the field an update sets holds the value, every other field reads as
before. -/

namespace Sys2Proof.Machine

@[simp] theorem State.putFreeUses_freeUses (s : State) (v : Nat) : (s.putFreeUses v).freeUses = v := rfl
@[simp] theorem State.putFreeUses_frame (s : State) (v : Nat) :
    (s.putFreeUses v).pending = s.pending ∧ (s.putFreeUses v).out = s.out ∧ (s.putFreeUses v).mode = s.mode ∧
    (s.putFreeUses v).modeCause = s.modeCause ∧ (s.putFreeUses v).phase = s.phase ∧ (s.putFreeUses v).straps = s.straps ∧
    (s.putFreeUses v).perst = s.perst ∧ (s.putFreeUses v).vinHigh = s.vinHigh ∧ (s.putFreeUses v).claimed = s.claimed ∧
    (s.putFreeUses v).resetDue = s.resetDue ∧ (s.putFreeUses v).meas = s.meas ∧ (s.putFreeUses v).hot = s.hot ∧
    (s.putFreeUses v).tick = s.tick ∧ (s.putFreeUses v).wrap = s.wrap ∧ (s.putFreeUses v).hbOut = s.hbOut ∧ (s.putFreeUses
    v).cw = s.cw ∧ (s.putFreeUses v).ctx = s.ctx ∧ (s.putFreeUses v).ctxAt = s.ctxAt ∧ (s.putFreeUses v).engines =
    s.engines ∧ (s.putFreeUses v).loaf = s.loaf ∧ (s.putFreeUses v).loafNext = s.loafNext ∧ (s.putFreeUses v).loafDue =
    s.loafDue ∧ (s.putFreeUses v).batch = s.batch ∧ (s.putFreeUses v).suspended = s.suspended ∧ (s.putFreeUses
    v).batchesDone = s.batchesDone ∧ (s.putFreeUses v).batchIds = s.batchIds ∧ (s.putFreeUses v).lastRing = s.lastRing ∧
    (s.putFreeUses v).rings = s.rings ∧ (s.putFreeUses v).scratch = s.scratch ∧ (s.putFreeUses v).hq = s.hq ∧
    (s.putFreeUses v).hostRing = s.hostRing ∧ (s.putFreeUses v).intPend = s.intPend ∧ (s.putFreeUses v).msixTable =
    s.msixTable ∧ (s.putFreeUses v).msixPba = s.msixPba ∧ (s.putFreeUses v).violated = s.violated ∧ (s.putFreeUses
    v).chkMax = s.chkMax ∧ (s.putFreeUses v).captures = s.captures ∧ (s.putFreeUses v).due = s.due ∧ (s.putFreeUses
    v).lanes = s.lanes ∧ (s.putFreeUses v).quads = s.quads ∧ (s.putFreeUses v).flex = s.flex ∧ (s.putFreeUses v).recClk =
    s.recClk ∧ (s.putFreeUses v).refClk = s.refClk ∧ (s.putFreeUses v).ilk = s.ilk ∧ (s.putFreeUses v).trackers =
    s.trackers ∧ (s.putFreeUses v).framers = s.framers ∧ (s.putFreeUses v).mons = s.mons ∧ (s.putFreeUses v).oh = s.oh ∧
    (s.putFreeUses v).ohT0 = s.ohT0 ∧ (s.putFreeUses v).cells = s.cells ∧ (s.putFreeUses v).cellsT0 = s.cellsT0 ∧
    (s.putFreeUses v).binQ = s.binQ ∧ (s.putFreeUses v).binD = s.binD ∧ (s.putFreeUses v).binLoad = s.binLoad ∧
    (s.putFreeUses v).binRestored = s.binRestored ∧ (s.putFreeUses v).pmTime = s.pmTime ∧ (s.putFreeUses v).deck = s.deck
    ∧ (s.putFreeUses v).sels = s.sels ∧ (s.putFreeUses v).decks = s.decks ∧ (s.putFreeUses v).rsz = s.rsz ∧ (s.putFreeUses
    v).prfRings = s.prfRings ∧ (s.putFreeUses v).hls = s.hls ∧ (s.putFreeUses v).groups = s.groups ∧ (s.putFreeUses
    v).substs = s.substs ∧ (s.putFreeUses v).unverified = s.unverified ∧ (s.putFreeUses v).firstRing = s.firstRing ∧
    (s.putFreeUses v).pairs = s.pairs ∧ (s.putFreeUses v).audio = s.audio ∧ (s.putFreeUses v).sync = s.sync ∧
    (s.putFreeUses v).dpll = s.dpll ∧ (s.putFreeUses v).doms = s.doms ∧ (s.putFreeUses v).vloops = s.vloops ∧
    (s.putFreeUses v).rdn = s.rdn ∧ (s.putFreeUses v).bank = s.bank ∧ (s.putFreeUses v).spare = s.spare ∧ (s.putFreeUses
    v).link = s.link ∧ (s.putFreeUses v).test = s.test ∧ (s.putFreeUses v).sec = s.sec ∧ (s.putFreeUses v).nvm = s.nvm ∧
    (s.putFreeUses v).sess = s.sess ∧ (s.putFreeUses v).long = s.long ∧ (s.putFreeUses v).guest = s.guest ∧ (s.putFreeUses
    v).jtag = s.jtag ∧ (s.putFreeUses v).trace = s.trace ∧ (s.putFreeUses v).pinMoves = s.pinMoves ∧ (s.putFreeUses
    v).words = s.words ∧ (s.putFreeUses v).cq = s.cq ∧ (s.putFreeUses v).ports = s.ports := by
  and_intros <;> rfl

@[simp] theorem State.putOut_out (s : State) (v : List Out) : (s.putOut v).out = v := rfl
@[simp] theorem State.putOut_frame (s : State) (v : List Out) :
    (s.putOut v).pending = s.pending ∧ (s.putOut v).freeUses = s.freeUses ∧ (s.putOut v).mode = s.mode ∧ (s.putOut
    v).modeCause = s.modeCause ∧ (s.putOut v).phase = s.phase ∧ (s.putOut v).straps = s.straps ∧ (s.putOut v).perst =
    s.perst ∧ (s.putOut v).vinHigh = s.vinHigh ∧ (s.putOut v).claimed = s.claimed ∧ (s.putOut v).resetDue = s.resetDue ∧
    (s.putOut v).meas = s.meas ∧ (s.putOut v).hot = s.hot ∧ (s.putOut v).tick = s.tick ∧ (s.putOut v).wrap = s.wrap ∧
    (s.putOut v).hbOut = s.hbOut ∧ (s.putOut v).cw = s.cw ∧ (s.putOut v).ctx = s.ctx ∧ (s.putOut v).ctxAt = s.ctxAt ∧
    (s.putOut v).engines = s.engines ∧ (s.putOut v).loaf = s.loaf ∧ (s.putOut v).loafNext = s.loafNext ∧ (s.putOut
    v).loafDue = s.loafDue ∧ (s.putOut v).batch = s.batch ∧ (s.putOut v).suspended = s.suspended ∧ (s.putOut
    v).batchesDone = s.batchesDone ∧ (s.putOut v).batchIds = s.batchIds ∧ (s.putOut v).lastRing = s.lastRing ∧ (s.putOut
    v).rings = s.rings ∧ (s.putOut v).scratch = s.scratch ∧ (s.putOut v).hq = s.hq ∧ (s.putOut v).hostRing = s.hostRing ∧
    (s.putOut v).intPend = s.intPend ∧ (s.putOut v).msixTable = s.msixTable ∧ (s.putOut v).msixPba = s.msixPba ∧ (s.putOut
    v).violated = s.violated ∧ (s.putOut v).chkMax = s.chkMax ∧ (s.putOut v).captures = s.captures ∧ (s.putOut v).due =
    s.due ∧ (s.putOut v).lanes = s.lanes ∧ (s.putOut v).quads = s.quads ∧ (s.putOut v).flex = s.flex ∧ (s.putOut v).recClk
    = s.recClk ∧ (s.putOut v).refClk = s.refClk ∧ (s.putOut v).ilk = s.ilk ∧ (s.putOut v).trackers = s.trackers ∧
    (s.putOut v).framers = s.framers ∧ (s.putOut v).mons = s.mons ∧ (s.putOut v).oh = s.oh ∧ (s.putOut v).ohT0 = s.ohT0 ∧
    (s.putOut v).cells = s.cells ∧ (s.putOut v).cellsT0 = s.cellsT0 ∧ (s.putOut v).binQ = s.binQ ∧ (s.putOut v).binD =
    s.binD ∧ (s.putOut v).binLoad = s.binLoad ∧ (s.putOut v).binRestored = s.binRestored ∧ (s.putOut v).pmTime = s.pmTime
    ∧ (s.putOut v).deck = s.deck ∧ (s.putOut v).sels = s.sels ∧ (s.putOut v).decks = s.decks ∧ (s.putOut v).rsz = s.rsz ∧
    (s.putOut v).prfRings = s.prfRings ∧ (s.putOut v).hls = s.hls ∧ (s.putOut v).groups = s.groups ∧ (s.putOut v).substs =
    s.substs ∧ (s.putOut v).unverified = s.unverified ∧ (s.putOut v).firstRing = s.firstRing ∧ (s.putOut v).pairs =
    s.pairs ∧ (s.putOut v).audio = s.audio ∧ (s.putOut v).sync = s.sync ∧ (s.putOut v).dpll = s.dpll ∧ (s.putOut v).doms =
    s.doms ∧ (s.putOut v).vloops = s.vloops ∧ (s.putOut v).rdn = s.rdn ∧ (s.putOut v).bank = s.bank ∧ (s.putOut v).spare =
    s.spare ∧ (s.putOut v).link = s.link ∧ (s.putOut v).test = s.test ∧ (s.putOut v).sec = s.sec ∧ (s.putOut v).nvm =
    s.nvm ∧ (s.putOut v).sess = s.sess ∧ (s.putOut v).long = s.long ∧ (s.putOut v).guest = s.guest ∧ (s.putOut v).jtag =
    s.jtag ∧ (s.putOut v).trace = s.trace ∧ (s.putOut v).pinMoves = s.pinMoves ∧ (s.putOut v).words = s.words ∧ (s.putOut
    v).cq = s.cq ∧ (s.putOut v).ports = s.ports := by
  and_intros <;> rfl

@[simp] theorem State.putMode_mode (s : State) (v : Mode) : (s.putMode v).mode = v := rfl
@[simp] theorem State.putMode_frame (s : State) (v : Mode) :
    (s.putMode v).pending = s.pending ∧ (s.putMode v).freeUses = s.freeUses ∧ (s.putMode v).out = s.out ∧ (s.putMode
    v).modeCause = s.modeCause ∧ (s.putMode v).phase = s.phase ∧ (s.putMode v).straps = s.straps ∧ (s.putMode v).perst =
    s.perst ∧ (s.putMode v).vinHigh = s.vinHigh ∧ (s.putMode v).claimed = s.claimed ∧ (s.putMode v).resetDue = s.resetDue
    ∧ (s.putMode v).meas = s.meas ∧ (s.putMode v).hot = s.hot ∧ (s.putMode v).tick = s.tick ∧ (s.putMode v).wrap = s.wrap
    ∧ (s.putMode v).hbOut = s.hbOut ∧ (s.putMode v).cw = s.cw ∧ (s.putMode v).ctx = s.ctx ∧ (s.putMode v).ctxAt = s.ctxAt
    ∧ (s.putMode v).engines = s.engines ∧ (s.putMode v).loaf = s.loaf ∧ (s.putMode v).loafNext = s.loafNext ∧ (s.putMode
    v).loafDue = s.loafDue ∧ (s.putMode v).batch = s.batch ∧ (s.putMode v).suspended = s.suspended ∧ (s.putMode
    v).batchesDone = s.batchesDone ∧ (s.putMode v).batchIds = s.batchIds ∧ (s.putMode v).lastRing = s.lastRing ∧
    (s.putMode v).rings = s.rings ∧ (s.putMode v).scratch = s.scratch ∧ (s.putMode v).hq = s.hq ∧ (s.putMode v).hostRing =
    s.hostRing ∧ (s.putMode v).intPend = s.intPend ∧ (s.putMode v).msixTable = s.msixTable ∧ (s.putMode v).msixPba =
    s.msixPba ∧ (s.putMode v).violated = s.violated ∧ (s.putMode v).chkMax = s.chkMax ∧ (s.putMode v).captures =
    s.captures ∧ (s.putMode v).due = s.due ∧ (s.putMode v).lanes = s.lanes ∧ (s.putMode v).quads = s.quads ∧ (s.putMode
    v).flex = s.flex ∧ (s.putMode v).recClk = s.recClk ∧ (s.putMode v).refClk = s.refClk ∧ (s.putMode v).ilk = s.ilk ∧
    (s.putMode v).trackers = s.trackers ∧ (s.putMode v).framers = s.framers ∧ (s.putMode v).mons = s.mons ∧ (s.putMode
    v).oh = s.oh ∧ (s.putMode v).ohT0 = s.ohT0 ∧ (s.putMode v).cells = s.cells ∧ (s.putMode v).cellsT0 = s.cellsT0 ∧
    (s.putMode v).binQ = s.binQ ∧ (s.putMode v).binD = s.binD ∧ (s.putMode v).binLoad = s.binLoad ∧ (s.putMode
    v).binRestored = s.binRestored ∧ (s.putMode v).pmTime = s.pmTime ∧ (s.putMode v).deck = s.deck ∧ (s.putMode v).sels =
    s.sels ∧ (s.putMode v).decks = s.decks ∧ (s.putMode v).rsz = s.rsz ∧ (s.putMode v).prfRings = s.prfRings ∧ (s.putMode
    v).hls = s.hls ∧ (s.putMode v).groups = s.groups ∧ (s.putMode v).substs = s.substs ∧ (s.putMode v).unverified =
    s.unverified ∧ (s.putMode v).firstRing = s.firstRing ∧ (s.putMode v).pairs = s.pairs ∧ (s.putMode v).audio = s.audio ∧
    (s.putMode v).sync = s.sync ∧ (s.putMode v).dpll = s.dpll ∧ (s.putMode v).doms = s.doms ∧ (s.putMode v).vloops =
    s.vloops ∧ (s.putMode v).rdn = s.rdn ∧ (s.putMode v).bank = s.bank ∧ (s.putMode v).spare = s.spare ∧ (s.putMode
    v).link = s.link ∧ (s.putMode v).test = s.test ∧ (s.putMode v).sec = s.sec ∧ (s.putMode v).nvm = s.nvm ∧ (s.putMode
    v).sess = s.sess ∧ (s.putMode v).long = s.long ∧ (s.putMode v).guest = s.guest ∧ (s.putMode v).jtag = s.jtag ∧
    (s.putMode v).trace = s.trace ∧ (s.putMode v).pinMoves = s.pinMoves ∧ (s.putMode v).words = s.words ∧ (s.putMode v).cq
    = s.cq ∧ (s.putMode v).ports = s.ports := by
  and_intros <;> rfl

@[simp] theorem State.putModeCause_modeCause (s : State) (v : Nat) : (s.putModeCause v).modeCause = v := rfl
@[simp] theorem State.putModeCause_frame (s : State) (v : Nat) :
    (s.putModeCause v).pending = s.pending ∧ (s.putModeCause v).freeUses = s.freeUses ∧ (s.putModeCause v).out = s.out ∧
    (s.putModeCause v).mode = s.mode ∧ (s.putModeCause v).phase = s.phase ∧ (s.putModeCause v).straps = s.straps ∧
    (s.putModeCause v).perst = s.perst ∧ (s.putModeCause v).vinHigh = s.vinHigh ∧ (s.putModeCause v).claimed = s.claimed ∧
    (s.putModeCause v).resetDue = s.resetDue ∧ (s.putModeCause v).meas = s.meas ∧ (s.putModeCause v).hot = s.hot ∧
    (s.putModeCause v).tick = s.tick ∧ (s.putModeCause v).wrap = s.wrap ∧ (s.putModeCause v).hbOut = s.hbOut ∧
    (s.putModeCause v).cw = s.cw ∧ (s.putModeCause v).ctx = s.ctx ∧ (s.putModeCause v).ctxAt = s.ctxAt ∧ (s.putModeCause
    v).engines = s.engines ∧ (s.putModeCause v).loaf = s.loaf ∧ (s.putModeCause v).loafNext = s.loafNext ∧ (s.putModeCause
    v).loafDue = s.loafDue ∧ (s.putModeCause v).batch = s.batch ∧ (s.putModeCause v).suspended = s.suspended ∧
    (s.putModeCause v).batchesDone = s.batchesDone ∧ (s.putModeCause v).batchIds = s.batchIds ∧ (s.putModeCause
    v).lastRing = s.lastRing ∧ (s.putModeCause v).rings = s.rings ∧ (s.putModeCause v).scratch = s.scratch ∧
    (s.putModeCause v).hq = s.hq ∧ (s.putModeCause v).hostRing = s.hostRing ∧ (s.putModeCause v).intPend = s.intPend ∧
    (s.putModeCause v).msixTable = s.msixTable ∧ (s.putModeCause v).msixPba = s.msixPba ∧ (s.putModeCause v).violated =
    s.violated ∧ (s.putModeCause v).chkMax = s.chkMax ∧ (s.putModeCause v).captures = s.captures ∧ (s.putModeCause v).due
    = s.due ∧ (s.putModeCause v).lanes = s.lanes ∧ (s.putModeCause v).quads = s.quads ∧ (s.putModeCause v).flex = s.flex ∧
    (s.putModeCause v).recClk = s.recClk ∧ (s.putModeCause v).refClk = s.refClk ∧ (s.putModeCause v).ilk = s.ilk ∧
    (s.putModeCause v).trackers = s.trackers ∧ (s.putModeCause v).framers = s.framers ∧ (s.putModeCause v).mons = s.mons ∧
    (s.putModeCause v).oh = s.oh ∧ (s.putModeCause v).ohT0 = s.ohT0 ∧ (s.putModeCause v).cells = s.cells ∧ (s.putModeCause
    v).cellsT0 = s.cellsT0 ∧ (s.putModeCause v).binQ = s.binQ ∧ (s.putModeCause v).binD = s.binD ∧ (s.putModeCause
    v).binLoad = s.binLoad ∧ (s.putModeCause v).binRestored = s.binRestored ∧ (s.putModeCause v).pmTime = s.pmTime ∧
    (s.putModeCause v).deck = s.deck ∧ (s.putModeCause v).sels = s.sels ∧ (s.putModeCause v).decks = s.decks ∧
    (s.putModeCause v).rsz = s.rsz ∧ (s.putModeCause v).prfRings = s.prfRings ∧ (s.putModeCause v).hls = s.hls ∧
    (s.putModeCause v).groups = s.groups ∧ (s.putModeCause v).substs = s.substs ∧ (s.putModeCause v).unverified =
    s.unverified ∧ (s.putModeCause v).firstRing = s.firstRing ∧ (s.putModeCause v).pairs = s.pairs ∧ (s.putModeCause
    v).audio = s.audio ∧ (s.putModeCause v).sync = s.sync ∧ (s.putModeCause v).dpll = s.dpll ∧ (s.putModeCause v).doms =
    s.doms ∧ (s.putModeCause v).vloops = s.vloops ∧ (s.putModeCause v).rdn = s.rdn ∧ (s.putModeCause v).bank = s.bank ∧
    (s.putModeCause v).spare = s.spare ∧ (s.putModeCause v).link = s.link ∧ (s.putModeCause v).test = s.test ∧
    (s.putModeCause v).sec = s.sec ∧ (s.putModeCause v).nvm = s.nvm ∧ (s.putModeCause v).sess = s.sess ∧ (s.putModeCause
    v).long = s.long ∧ (s.putModeCause v).guest = s.guest ∧ (s.putModeCause v).jtag = s.jtag ∧ (s.putModeCause v).trace =
    s.trace ∧ (s.putModeCause v).pinMoves = s.pinMoves ∧ (s.putModeCause v).words = s.words ∧ (s.putModeCause v).cq = s.cq
    ∧ (s.putModeCause v).ports = s.ports := by
  and_intros <;> rfl

@[simp] theorem State.putPhase_phase (s : State) (v : Phase) : (s.putPhase v).phase = v := rfl
@[simp] theorem State.putPhase_frame (s : State) (v : Phase) :
    (s.putPhase v).pending = s.pending ∧ (s.putPhase v).freeUses = s.freeUses ∧ (s.putPhase v).out = s.out ∧ (s.putPhase
    v).mode = s.mode ∧ (s.putPhase v).modeCause = s.modeCause ∧ (s.putPhase v).straps = s.straps ∧ (s.putPhase v).perst =
    s.perst ∧ (s.putPhase v).vinHigh = s.vinHigh ∧ (s.putPhase v).claimed = s.claimed ∧ (s.putPhase v).resetDue =
    s.resetDue ∧ (s.putPhase v).meas = s.meas ∧ (s.putPhase v).hot = s.hot ∧ (s.putPhase v).tick = s.tick ∧ (s.putPhase
    v).wrap = s.wrap ∧ (s.putPhase v).hbOut = s.hbOut ∧ (s.putPhase v).cw = s.cw ∧ (s.putPhase v).ctx = s.ctx ∧
    (s.putPhase v).ctxAt = s.ctxAt ∧ (s.putPhase v).engines = s.engines ∧ (s.putPhase v).loaf = s.loaf ∧ (s.putPhase
    v).loafNext = s.loafNext ∧ (s.putPhase v).loafDue = s.loafDue ∧ (s.putPhase v).batch = s.batch ∧ (s.putPhase
    v).suspended = s.suspended ∧ (s.putPhase v).batchesDone = s.batchesDone ∧ (s.putPhase v).batchIds = s.batchIds ∧
    (s.putPhase v).lastRing = s.lastRing ∧ (s.putPhase v).rings = s.rings ∧ (s.putPhase v).scratch = s.scratch ∧
    (s.putPhase v).hq = s.hq ∧ (s.putPhase v).hostRing = s.hostRing ∧ (s.putPhase v).intPend = s.intPend ∧ (s.putPhase
    v).msixTable = s.msixTable ∧ (s.putPhase v).msixPba = s.msixPba ∧ (s.putPhase v).violated = s.violated ∧ (s.putPhase
    v).chkMax = s.chkMax ∧ (s.putPhase v).captures = s.captures ∧ (s.putPhase v).due = s.due ∧ (s.putPhase v).lanes =
    s.lanes ∧ (s.putPhase v).quads = s.quads ∧ (s.putPhase v).flex = s.flex ∧ (s.putPhase v).recClk = s.recClk ∧
    (s.putPhase v).refClk = s.refClk ∧ (s.putPhase v).ilk = s.ilk ∧ (s.putPhase v).trackers = s.trackers ∧ (s.putPhase
    v).framers = s.framers ∧ (s.putPhase v).mons = s.mons ∧ (s.putPhase v).oh = s.oh ∧ (s.putPhase v).ohT0 = s.ohT0 ∧
    (s.putPhase v).cells = s.cells ∧ (s.putPhase v).cellsT0 = s.cellsT0 ∧ (s.putPhase v).binQ = s.binQ ∧ (s.putPhase
    v).binD = s.binD ∧ (s.putPhase v).binLoad = s.binLoad ∧ (s.putPhase v).binRestored = s.binRestored ∧ (s.putPhase
    v).pmTime = s.pmTime ∧ (s.putPhase v).deck = s.deck ∧ (s.putPhase v).sels = s.sels ∧ (s.putPhase v).decks = s.decks ∧
    (s.putPhase v).rsz = s.rsz ∧ (s.putPhase v).prfRings = s.prfRings ∧ (s.putPhase v).hls = s.hls ∧ (s.putPhase v).groups
    = s.groups ∧ (s.putPhase v).substs = s.substs ∧ (s.putPhase v).unverified = s.unverified ∧ (s.putPhase v).firstRing =
    s.firstRing ∧ (s.putPhase v).pairs = s.pairs ∧ (s.putPhase v).audio = s.audio ∧ (s.putPhase v).sync = s.sync ∧
    (s.putPhase v).dpll = s.dpll ∧ (s.putPhase v).doms = s.doms ∧ (s.putPhase v).vloops = s.vloops ∧ (s.putPhase v).rdn =
    s.rdn ∧ (s.putPhase v).bank = s.bank ∧ (s.putPhase v).spare = s.spare ∧ (s.putPhase v).link = s.link ∧ (s.putPhase
    v).test = s.test ∧ (s.putPhase v).sec = s.sec ∧ (s.putPhase v).nvm = s.nvm ∧ (s.putPhase v).sess = s.sess ∧
    (s.putPhase v).long = s.long ∧ (s.putPhase v).guest = s.guest ∧ (s.putPhase v).jtag = s.jtag ∧ (s.putPhase v).trace =
    s.trace ∧ (s.putPhase v).pinMoves = s.pinMoves ∧ (s.putPhase v).words = s.words ∧ (s.putPhase v).cq = s.cq ∧
    (s.putPhase v).ports = s.ports := by
  and_intros <;> rfl

@[simp] theorem State.putStraps_straps (s : State) (v : Straps) : (s.putStraps v).straps = v := rfl
@[simp] theorem State.putStraps_frame (s : State) (v : Straps) :
    (s.putStraps v).pending = s.pending ∧ (s.putStraps v).freeUses = s.freeUses ∧ (s.putStraps v).out = s.out ∧
    (s.putStraps v).mode = s.mode ∧ (s.putStraps v).modeCause = s.modeCause ∧ (s.putStraps v).phase = s.phase ∧
    (s.putStraps v).perst = s.perst ∧ (s.putStraps v).vinHigh = s.vinHigh ∧ (s.putStraps v).claimed = s.claimed ∧
    (s.putStraps v).resetDue = s.resetDue ∧ (s.putStraps v).meas = s.meas ∧ (s.putStraps v).hot = s.hot ∧ (s.putStraps
    v).tick = s.tick ∧ (s.putStraps v).wrap = s.wrap ∧ (s.putStraps v).hbOut = s.hbOut ∧ (s.putStraps v).cw = s.cw ∧
    (s.putStraps v).ctx = s.ctx ∧ (s.putStraps v).ctxAt = s.ctxAt ∧ (s.putStraps v).engines = s.engines ∧ (s.putStraps
    v).loaf = s.loaf ∧ (s.putStraps v).loafNext = s.loafNext ∧ (s.putStraps v).loafDue = s.loafDue ∧ (s.putStraps v).batch
    = s.batch ∧ (s.putStraps v).suspended = s.suspended ∧ (s.putStraps v).batchesDone = s.batchesDone ∧ (s.putStraps
    v).batchIds = s.batchIds ∧ (s.putStraps v).lastRing = s.lastRing ∧ (s.putStraps v).rings = s.rings ∧ (s.putStraps
    v).scratch = s.scratch ∧ (s.putStraps v).hq = s.hq ∧ (s.putStraps v).hostRing = s.hostRing ∧ (s.putStraps v).intPend =
    s.intPend ∧ (s.putStraps v).msixTable = s.msixTable ∧ (s.putStraps v).msixPba = s.msixPba ∧ (s.putStraps v).violated =
    s.violated ∧ (s.putStraps v).chkMax = s.chkMax ∧ (s.putStraps v).captures = s.captures ∧ (s.putStraps v).due = s.due ∧
    (s.putStraps v).lanes = s.lanes ∧ (s.putStraps v).quads = s.quads ∧ (s.putStraps v).flex = s.flex ∧ (s.putStraps
    v).recClk = s.recClk ∧ (s.putStraps v).refClk = s.refClk ∧ (s.putStraps v).ilk = s.ilk ∧ (s.putStraps v).trackers =
    s.trackers ∧ (s.putStraps v).framers = s.framers ∧ (s.putStraps v).mons = s.mons ∧ (s.putStraps v).oh = s.oh ∧
    (s.putStraps v).ohT0 = s.ohT0 ∧ (s.putStraps v).cells = s.cells ∧ (s.putStraps v).cellsT0 = s.cellsT0 ∧ (s.putStraps
    v).binQ = s.binQ ∧ (s.putStraps v).binD = s.binD ∧ (s.putStraps v).binLoad = s.binLoad ∧ (s.putStraps v).binRestored =
    s.binRestored ∧ (s.putStraps v).pmTime = s.pmTime ∧ (s.putStraps v).deck = s.deck ∧ (s.putStraps v).sels = s.sels ∧
    (s.putStraps v).decks = s.decks ∧ (s.putStraps v).rsz = s.rsz ∧ (s.putStraps v).prfRings = s.prfRings ∧ (s.putStraps
    v).hls = s.hls ∧ (s.putStraps v).groups = s.groups ∧ (s.putStraps v).substs = s.substs ∧ (s.putStraps v).unverified =
    s.unverified ∧ (s.putStraps v).firstRing = s.firstRing ∧ (s.putStraps v).pairs = s.pairs ∧ (s.putStraps v).audio =
    s.audio ∧ (s.putStraps v).sync = s.sync ∧ (s.putStraps v).dpll = s.dpll ∧ (s.putStraps v).doms = s.doms ∧ (s.putStraps
    v).vloops = s.vloops ∧ (s.putStraps v).rdn = s.rdn ∧ (s.putStraps v).bank = s.bank ∧ (s.putStraps v).spare = s.spare ∧
    (s.putStraps v).link = s.link ∧ (s.putStraps v).test = s.test ∧ (s.putStraps v).sec = s.sec ∧ (s.putStraps v).nvm =
    s.nvm ∧ (s.putStraps v).sess = s.sess ∧ (s.putStraps v).long = s.long ∧ (s.putStraps v).guest = s.guest ∧ (s.putStraps
    v).jtag = s.jtag ∧ (s.putStraps v).trace = s.trace ∧ (s.putStraps v).pinMoves = s.pinMoves ∧ (s.putStraps v).words =
    s.words ∧ (s.putStraps v).cq = s.cq ∧ (s.putStraps v).ports = s.ports := by
  and_intros <;> rfl

@[simp] theorem State.putPerst_perst (s : State) (v : Bool) : (s.putPerst v).perst = v := rfl
@[simp] theorem State.putPerst_frame (s : State) (v : Bool) :
    (s.putPerst v).pending = s.pending ∧ (s.putPerst v).freeUses = s.freeUses ∧ (s.putPerst v).out = s.out ∧ (s.putPerst
    v).mode = s.mode ∧ (s.putPerst v).modeCause = s.modeCause ∧ (s.putPerst v).phase = s.phase ∧ (s.putPerst v).straps =
    s.straps ∧ (s.putPerst v).vinHigh = s.vinHigh ∧ (s.putPerst v).claimed = s.claimed ∧ (s.putPerst v).resetDue =
    s.resetDue ∧ (s.putPerst v).meas = s.meas ∧ (s.putPerst v).hot = s.hot ∧ (s.putPerst v).tick = s.tick ∧ (s.putPerst
    v).wrap = s.wrap ∧ (s.putPerst v).hbOut = s.hbOut ∧ (s.putPerst v).cw = s.cw ∧ (s.putPerst v).ctx = s.ctx ∧
    (s.putPerst v).ctxAt = s.ctxAt ∧ (s.putPerst v).engines = s.engines ∧ (s.putPerst v).loaf = s.loaf ∧ (s.putPerst
    v).loafNext = s.loafNext ∧ (s.putPerst v).loafDue = s.loafDue ∧ (s.putPerst v).batch = s.batch ∧ (s.putPerst
    v).suspended = s.suspended ∧ (s.putPerst v).batchesDone = s.batchesDone ∧ (s.putPerst v).batchIds = s.batchIds ∧
    (s.putPerst v).lastRing = s.lastRing ∧ (s.putPerst v).rings = s.rings ∧ (s.putPerst v).scratch = s.scratch ∧
    (s.putPerst v).hq = s.hq ∧ (s.putPerst v).hostRing = s.hostRing ∧ (s.putPerst v).intPend = s.intPend ∧ (s.putPerst
    v).msixTable = s.msixTable ∧ (s.putPerst v).msixPba = s.msixPba ∧ (s.putPerst v).violated = s.violated ∧ (s.putPerst
    v).chkMax = s.chkMax ∧ (s.putPerst v).captures = s.captures ∧ (s.putPerst v).due = s.due ∧ (s.putPerst v).lanes =
    s.lanes ∧ (s.putPerst v).quads = s.quads ∧ (s.putPerst v).flex = s.flex ∧ (s.putPerst v).recClk = s.recClk ∧
    (s.putPerst v).refClk = s.refClk ∧ (s.putPerst v).ilk = s.ilk ∧ (s.putPerst v).trackers = s.trackers ∧ (s.putPerst
    v).framers = s.framers ∧ (s.putPerst v).mons = s.mons ∧ (s.putPerst v).oh = s.oh ∧ (s.putPerst v).ohT0 = s.ohT0 ∧
    (s.putPerst v).cells = s.cells ∧ (s.putPerst v).cellsT0 = s.cellsT0 ∧ (s.putPerst v).binQ = s.binQ ∧ (s.putPerst
    v).binD = s.binD ∧ (s.putPerst v).binLoad = s.binLoad ∧ (s.putPerst v).binRestored = s.binRestored ∧ (s.putPerst
    v).pmTime = s.pmTime ∧ (s.putPerst v).deck = s.deck ∧ (s.putPerst v).sels = s.sels ∧ (s.putPerst v).decks = s.decks ∧
    (s.putPerst v).rsz = s.rsz ∧ (s.putPerst v).prfRings = s.prfRings ∧ (s.putPerst v).hls = s.hls ∧ (s.putPerst v).groups
    = s.groups ∧ (s.putPerst v).substs = s.substs ∧ (s.putPerst v).unverified = s.unverified ∧ (s.putPerst v).firstRing =
    s.firstRing ∧ (s.putPerst v).pairs = s.pairs ∧ (s.putPerst v).audio = s.audio ∧ (s.putPerst v).sync = s.sync ∧
    (s.putPerst v).dpll = s.dpll ∧ (s.putPerst v).doms = s.doms ∧ (s.putPerst v).vloops = s.vloops ∧ (s.putPerst v).rdn =
    s.rdn ∧ (s.putPerst v).bank = s.bank ∧ (s.putPerst v).spare = s.spare ∧ (s.putPerst v).link = s.link ∧ (s.putPerst
    v).test = s.test ∧ (s.putPerst v).sec = s.sec ∧ (s.putPerst v).nvm = s.nvm ∧ (s.putPerst v).sess = s.sess ∧
    (s.putPerst v).long = s.long ∧ (s.putPerst v).guest = s.guest ∧ (s.putPerst v).jtag = s.jtag ∧ (s.putPerst v).trace =
    s.trace ∧ (s.putPerst v).pinMoves = s.pinMoves ∧ (s.putPerst v).words = s.words ∧ (s.putPerst v).cq = s.cq ∧
    (s.putPerst v).ports = s.ports := by
  and_intros <;> rfl

@[simp] theorem State.putVinHigh_vinHigh (s : State) (v : Bool) : (s.putVinHigh v).vinHigh = v := rfl
@[simp] theorem State.putVinHigh_frame (s : State) (v : Bool) :
    (s.putVinHigh v).pending = s.pending ∧ (s.putVinHigh v).freeUses = s.freeUses ∧ (s.putVinHigh v).out = s.out ∧
    (s.putVinHigh v).mode = s.mode ∧ (s.putVinHigh v).modeCause = s.modeCause ∧ (s.putVinHigh v).phase = s.phase ∧
    (s.putVinHigh v).straps = s.straps ∧ (s.putVinHigh v).perst = s.perst ∧ (s.putVinHigh v).claimed = s.claimed ∧
    (s.putVinHigh v).resetDue = s.resetDue ∧ (s.putVinHigh v).meas = s.meas ∧ (s.putVinHigh v).hot = s.hot ∧ (s.putVinHigh
    v).tick = s.tick ∧ (s.putVinHigh v).wrap = s.wrap ∧ (s.putVinHigh v).hbOut = s.hbOut ∧ (s.putVinHigh v).cw = s.cw ∧
    (s.putVinHigh v).ctx = s.ctx ∧ (s.putVinHigh v).ctxAt = s.ctxAt ∧ (s.putVinHigh v).engines = s.engines ∧ (s.putVinHigh
    v).loaf = s.loaf ∧ (s.putVinHigh v).loafNext = s.loafNext ∧ (s.putVinHigh v).loafDue = s.loafDue ∧ (s.putVinHigh
    v).batch = s.batch ∧ (s.putVinHigh v).suspended = s.suspended ∧ (s.putVinHigh v).batchesDone = s.batchesDone ∧
    (s.putVinHigh v).batchIds = s.batchIds ∧ (s.putVinHigh v).lastRing = s.lastRing ∧ (s.putVinHigh v).rings = s.rings ∧
    (s.putVinHigh v).scratch = s.scratch ∧ (s.putVinHigh v).hq = s.hq ∧ (s.putVinHigh v).hostRing = s.hostRing ∧
    (s.putVinHigh v).intPend = s.intPend ∧ (s.putVinHigh v).msixTable = s.msixTable ∧ (s.putVinHigh v).msixPba = s.msixPba
    ∧ (s.putVinHigh v).violated = s.violated ∧ (s.putVinHigh v).chkMax = s.chkMax ∧ (s.putVinHigh v).captures = s.captures
    ∧ (s.putVinHigh v).due = s.due ∧ (s.putVinHigh v).lanes = s.lanes ∧ (s.putVinHigh v).quads = s.quads ∧ (s.putVinHigh
    v).flex = s.flex ∧ (s.putVinHigh v).recClk = s.recClk ∧ (s.putVinHigh v).refClk = s.refClk ∧ (s.putVinHigh v).ilk =
    s.ilk ∧ (s.putVinHigh v).trackers = s.trackers ∧ (s.putVinHigh v).framers = s.framers ∧ (s.putVinHigh v).mons = s.mons
    ∧ (s.putVinHigh v).oh = s.oh ∧ (s.putVinHigh v).ohT0 = s.ohT0 ∧ (s.putVinHigh v).cells = s.cells ∧ (s.putVinHigh
    v).cellsT0 = s.cellsT0 ∧ (s.putVinHigh v).binQ = s.binQ ∧ (s.putVinHigh v).binD = s.binD ∧ (s.putVinHigh v).binLoad =
    s.binLoad ∧ (s.putVinHigh v).binRestored = s.binRestored ∧ (s.putVinHigh v).pmTime = s.pmTime ∧ (s.putVinHigh v).deck
    = s.deck ∧ (s.putVinHigh v).sels = s.sels ∧ (s.putVinHigh v).decks = s.decks ∧ (s.putVinHigh v).rsz = s.rsz ∧
    (s.putVinHigh v).prfRings = s.prfRings ∧ (s.putVinHigh v).hls = s.hls ∧ (s.putVinHigh v).groups = s.groups ∧
    (s.putVinHigh v).substs = s.substs ∧ (s.putVinHigh v).unverified = s.unverified ∧ (s.putVinHigh v).firstRing =
    s.firstRing ∧ (s.putVinHigh v).pairs = s.pairs ∧ (s.putVinHigh v).audio = s.audio ∧ (s.putVinHigh v).sync = s.sync ∧
    (s.putVinHigh v).dpll = s.dpll ∧ (s.putVinHigh v).doms = s.doms ∧ (s.putVinHigh v).vloops = s.vloops ∧ (s.putVinHigh
    v).rdn = s.rdn ∧ (s.putVinHigh v).bank = s.bank ∧ (s.putVinHigh v).spare = s.spare ∧ (s.putVinHigh v).link = s.link ∧
    (s.putVinHigh v).test = s.test ∧ (s.putVinHigh v).sec = s.sec ∧ (s.putVinHigh v).nvm = s.nvm ∧ (s.putVinHigh v).sess =
    s.sess ∧ (s.putVinHigh v).long = s.long ∧ (s.putVinHigh v).guest = s.guest ∧ (s.putVinHigh v).jtag = s.jtag ∧
    (s.putVinHigh v).trace = s.trace ∧ (s.putVinHigh v).pinMoves = s.pinMoves ∧ (s.putVinHigh v).words = s.words ∧
    (s.putVinHigh v).cq = s.cq ∧ (s.putVinHigh v).ports = s.ports := by
  and_intros <;> rfl

@[simp] theorem State.putClaimed_claimed (s : State) (v : Bool) : (s.putClaimed v).claimed = v := rfl
@[simp] theorem State.putClaimed_frame (s : State) (v : Bool) :
    (s.putClaimed v).pending = s.pending ∧ (s.putClaimed v).freeUses = s.freeUses ∧ (s.putClaimed v).out = s.out ∧
    (s.putClaimed v).mode = s.mode ∧ (s.putClaimed v).modeCause = s.modeCause ∧ (s.putClaimed v).phase = s.phase ∧
    (s.putClaimed v).straps = s.straps ∧ (s.putClaimed v).perst = s.perst ∧ (s.putClaimed v).vinHigh = s.vinHigh ∧
    (s.putClaimed v).resetDue = s.resetDue ∧ (s.putClaimed v).meas = s.meas ∧ (s.putClaimed v).hot = s.hot ∧ (s.putClaimed
    v).tick = s.tick ∧ (s.putClaimed v).wrap = s.wrap ∧ (s.putClaimed v).hbOut = s.hbOut ∧ (s.putClaimed v).cw = s.cw ∧
    (s.putClaimed v).ctx = s.ctx ∧ (s.putClaimed v).ctxAt = s.ctxAt ∧ (s.putClaimed v).engines = s.engines ∧ (s.putClaimed
    v).loaf = s.loaf ∧ (s.putClaimed v).loafNext = s.loafNext ∧ (s.putClaimed v).loafDue = s.loafDue ∧ (s.putClaimed
    v).batch = s.batch ∧ (s.putClaimed v).suspended = s.suspended ∧ (s.putClaimed v).batchesDone = s.batchesDone ∧
    (s.putClaimed v).batchIds = s.batchIds ∧ (s.putClaimed v).lastRing = s.lastRing ∧ (s.putClaimed v).rings = s.rings ∧
    (s.putClaimed v).scratch = s.scratch ∧ (s.putClaimed v).hq = s.hq ∧ (s.putClaimed v).hostRing = s.hostRing ∧
    (s.putClaimed v).intPend = s.intPend ∧ (s.putClaimed v).msixTable = s.msixTable ∧ (s.putClaimed v).msixPba = s.msixPba
    ∧ (s.putClaimed v).violated = s.violated ∧ (s.putClaimed v).chkMax = s.chkMax ∧ (s.putClaimed v).captures = s.captures
    ∧ (s.putClaimed v).due = s.due ∧ (s.putClaimed v).lanes = s.lanes ∧ (s.putClaimed v).quads = s.quads ∧ (s.putClaimed
    v).flex = s.flex ∧ (s.putClaimed v).recClk = s.recClk ∧ (s.putClaimed v).refClk = s.refClk ∧ (s.putClaimed v).ilk =
    s.ilk ∧ (s.putClaimed v).trackers = s.trackers ∧ (s.putClaimed v).framers = s.framers ∧ (s.putClaimed v).mons = s.mons
    ∧ (s.putClaimed v).oh = s.oh ∧ (s.putClaimed v).ohT0 = s.ohT0 ∧ (s.putClaimed v).cells = s.cells ∧ (s.putClaimed
    v).cellsT0 = s.cellsT0 ∧ (s.putClaimed v).binQ = s.binQ ∧ (s.putClaimed v).binD = s.binD ∧ (s.putClaimed v).binLoad =
    s.binLoad ∧ (s.putClaimed v).binRestored = s.binRestored ∧ (s.putClaimed v).pmTime = s.pmTime ∧ (s.putClaimed v).deck
    = s.deck ∧ (s.putClaimed v).sels = s.sels ∧ (s.putClaimed v).decks = s.decks ∧ (s.putClaimed v).rsz = s.rsz ∧
    (s.putClaimed v).prfRings = s.prfRings ∧ (s.putClaimed v).hls = s.hls ∧ (s.putClaimed v).groups = s.groups ∧
    (s.putClaimed v).substs = s.substs ∧ (s.putClaimed v).unverified = s.unverified ∧ (s.putClaimed v).firstRing =
    s.firstRing ∧ (s.putClaimed v).pairs = s.pairs ∧ (s.putClaimed v).audio = s.audio ∧ (s.putClaimed v).sync = s.sync ∧
    (s.putClaimed v).dpll = s.dpll ∧ (s.putClaimed v).doms = s.doms ∧ (s.putClaimed v).vloops = s.vloops ∧ (s.putClaimed
    v).rdn = s.rdn ∧ (s.putClaimed v).bank = s.bank ∧ (s.putClaimed v).spare = s.spare ∧ (s.putClaimed v).link = s.link ∧
    (s.putClaimed v).test = s.test ∧ (s.putClaimed v).sec = s.sec ∧ (s.putClaimed v).nvm = s.nvm ∧ (s.putClaimed v).sess =
    s.sess ∧ (s.putClaimed v).long = s.long ∧ (s.putClaimed v).guest = s.guest ∧ (s.putClaimed v).jtag = s.jtag ∧
    (s.putClaimed v).trace = s.trace ∧ (s.putClaimed v).pinMoves = s.pinMoves ∧ (s.putClaimed v).words = s.words ∧
    (s.putClaimed v).cq = s.cq ∧ (s.putClaimed v).ports = s.ports := by
  and_intros <;> rfl

@[simp] theorem State.putResetDue_resetDue (s : State) (v : Bool) : (s.putResetDue v).resetDue = v := rfl
@[simp] theorem State.putResetDue_frame (s : State) (v : Bool) :
    (s.putResetDue v).pending = s.pending ∧ (s.putResetDue v).freeUses = s.freeUses ∧ (s.putResetDue v).out = s.out ∧
    (s.putResetDue v).mode = s.mode ∧ (s.putResetDue v).modeCause = s.modeCause ∧ (s.putResetDue v).phase = s.phase ∧
    (s.putResetDue v).straps = s.straps ∧ (s.putResetDue v).perst = s.perst ∧ (s.putResetDue v).vinHigh = s.vinHigh ∧
    (s.putResetDue v).claimed = s.claimed ∧ (s.putResetDue v).meas = s.meas ∧ (s.putResetDue v).hot = s.hot ∧
    (s.putResetDue v).tick = s.tick ∧ (s.putResetDue v).wrap = s.wrap ∧ (s.putResetDue v).hbOut = s.hbOut ∧ (s.putResetDue
    v).cw = s.cw ∧ (s.putResetDue v).ctx = s.ctx ∧ (s.putResetDue v).ctxAt = s.ctxAt ∧ (s.putResetDue v).engines =
    s.engines ∧ (s.putResetDue v).loaf = s.loaf ∧ (s.putResetDue v).loafNext = s.loafNext ∧ (s.putResetDue v).loafDue =
    s.loafDue ∧ (s.putResetDue v).batch = s.batch ∧ (s.putResetDue v).suspended = s.suspended ∧ (s.putResetDue
    v).batchesDone = s.batchesDone ∧ (s.putResetDue v).batchIds = s.batchIds ∧ (s.putResetDue v).lastRing = s.lastRing ∧
    (s.putResetDue v).rings = s.rings ∧ (s.putResetDue v).scratch = s.scratch ∧ (s.putResetDue v).hq = s.hq ∧
    (s.putResetDue v).hostRing = s.hostRing ∧ (s.putResetDue v).intPend = s.intPend ∧ (s.putResetDue v).msixTable =
    s.msixTable ∧ (s.putResetDue v).msixPba = s.msixPba ∧ (s.putResetDue v).violated = s.violated ∧ (s.putResetDue
    v).chkMax = s.chkMax ∧ (s.putResetDue v).captures = s.captures ∧ (s.putResetDue v).due = s.due ∧ (s.putResetDue
    v).lanes = s.lanes ∧ (s.putResetDue v).quads = s.quads ∧ (s.putResetDue v).flex = s.flex ∧ (s.putResetDue v).recClk =
    s.recClk ∧ (s.putResetDue v).refClk = s.refClk ∧ (s.putResetDue v).ilk = s.ilk ∧ (s.putResetDue v).trackers =
    s.trackers ∧ (s.putResetDue v).framers = s.framers ∧ (s.putResetDue v).mons = s.mons ∧ (s.putResetDue v).oh = s.oh ∧
    (s.putResetDue v).ohT0 = s.ohT0 ∧ (s.putResetDue v).cells = s.cells ∧ (s.putResetDue v).cellsT0 = s.cellsT0 ∧
    (s.putResetDue v).binQ = s.binQ ∧ (s.putResetDue v).binD = s.binD ∧ (s.putResetDue v).binLoad = s.binLoad ∧
    (s.putResetDue v).binRestored = s.binRestored ∧ (s.putResetDue v).pmTime = s.pmTime ∧ (s.putResetDue v).deck = s.deck
    ∧ (s.putResetDue v).sels = s.sels ∧ (s.putResetDue v).decks = s.decks ∧ (s.putResetDue v).rsz = s.rsz ∧ (s.putResetDue
    v).prfRings = s.prfRings ∧ (s.putResetDue v).hls = s.hls ∧ (s.putResetDue v).groups = s.groups ∧ (s.putResetDue
    v).substs = s.substs ∧ (s.putResetDue v).unverified = s.unverified ∧ (s.putResetDue v).firstRing = s.firstRing ∧
    (s.putResetDue v).pairs = s.pairs ∧ (s.putResetDue v).audio = s.audio ∧ (s.putResetDue v).sync = s.sync ∧
    (s.putResetDue v).dpll = s.dpll ∧ (s.putResetDue v).doms = s.doms ∧ (s.putResetDue v).vloops = s.vloops ∧
    (s.putResetDue v).rdn = s.rdn ∧ (s.putResetDue v).bank = s.bank ∧ (s.putResetDue v).spare = s.spare ∧ (s.putResetDue
    v).link = s.link ∧ (s.putResetDue v).test = s.test ∧ (s.putResetDue v).sec = s.sec ∧ (s.putResetDue v).nvm = s.nvm ∧
    (s.putResetDue v).sess = s.sess ∧ (s.putResetDue v).long = s.long ∧ (s.putResetDue v).guest = s.guest ∧ (s.putResetDue
    v).jtag = s.jtag ∧ (s.putResetDue v).trace = s.trace ∧ (s.putResetDue v).pinMoves = s.pinMoves ∧ (s.putResetDue
    v).words = s.words ∧ (s.putResetDue v).cq = s.cq ∧ (s.putResetDue v).ports = s.ports := by
  and_intros <;> rfl

@[simp] theorem State.putMeas_meas (s : State) (v : Meas) : (s.putMeas v).meas = v := rfl
@[simp] theorem State.putMeas_frame (s : State) (v : Meas) :
    (s.putMeas v).pending = s.pending ∧ (s.putMeas v).freeUses = s.freeUses ∧ (s.putMeas v).out = s.out ∧ (s.putMeas
    v).mode = s.mode ∧ (s.putMeas v).modeCause = s.modeCause ∧ (s.putMeas v).phase = s.phase ∧ (s.putMeas v).straps =
    s.straps ∧ (s.putMeas v).perst = s.perst ∧ (s.putMeas v).vinHigh = s.vinHigh ∧ (s.putMeas v).claimed = s.claimed ∧
    (s.putMeas v).resetDue = s.resetDue ∧ (s.putMeas v).hot = s.hot ∧ (s.putMeas v).tick = s.tick ∧ (s.putMeas v).wrap =
    s.wrap ∧ (s.putMeas v).hbOut = s.hbOut ∧ (s.putMeas v).cw = s.cw ∧ (s.putMeas v).ctx = s.ctx ∧ (s.putMeas v).ctxAt =
    s.ctxAt ∧ (s.putMeas v).engines = s.engines ∧ (s.putMeas v).loaf = s.loaf ∧ (s.putMeas v).loafNext = s.loafNext ∧
    (s.putMeas v).loafDue = s.loafDue ∧ (s.putMeas v).batch = s.batch ∧ (s.putMeas v).suspended = s.suspended ∧ (s.putMeas
    v).batchesDone = s.batchesDone ∧ (s.putMeas v).batchIds = s.batchIds ∧ (s.putMeas v).lastRing = s.lastRing ∧
    (s.putMeas v).rings = s.rings ∧ (s.putMeas v).scratch = s.scratch ∧ (s.putMeas v).hq = s.hq ∧ (s.putMeas v).hostRing =
    s.hostRing ∧ (s.putMeas v).intPend = s.intPend ∧ (s.putMeas v).msixTable = s.msixTable ∧ (s.putMeas v).msixPba =
    s.msixPba ∧ (s.putMeas v).violated = s.violated ∧ (s.putMeas v).chkMax = s.chkMax ∧ (s.putMeas v).captures =
    s.captures ∧ (s.putMeas v).due = s.due ∧ (s.putMeas v).lanes = s.lanes ∧ (s.putMeas v).quads = s.quads ∧ (s.putMeas
    v).flex = s.flex ∧ (s.putMeas v).recClk = s.recClk ∧ (s.putMeas v).refClk = s.refClk ∧ (s.putMeas v).ilk = s.ilk ∧
    (s.putMeas v).trackers = s.trackers ∧ (s.putMeas v).framers = s.framers ∧ (s.putMeas v).mons = s.mons ∧ (s.putMeas
    v).oh = s.oh ∧ (s.putMeas v).ohT0 = s.ohT0 ∧ (s.putMeas v).cells = s.cells ∧ (s.putMeas v).cellsT0 = s.cellsT0 ∧
    (s.putMeas v).binQ = s.binQ ∧ (s.putMeas v).binD = s.binD ∧ (s.putMeas v).binLoad = s.binLoad ∧ (s.putMeas
    v).binRestored = s.binRestored ∧ (s.putMeas v).pmTime = s.pmTime ∧ (s.putMeas v).deck = s.deck ∧ (s.putMeas v).sels =
    s.sels ∧ (s.putMeas v).decks = s.decks ∧ (s.putMeas v).rsz = s.rsz ∧ (s.putMeas v).prfRings = s.prfRings ∧ (s.putMeas
    v).hls = s.hls ∧ (s.putMeas v).groups = s.groups ∧ (s.putMeas v).substs = s.substs ∧ (s.putMeas v).unverified =
    s.unverified ∧ (s.putMeas v).firstRing = s.firstRing ∧ (s.putMeas v).pairs = s.pairs ∧ (s.putMeas v).audio = s.audio ∧
    (s.putMeas v).sync = s.sync ∧ (s.putMeas v).dpll = s.dpll ∧ (s.putMeas v).doms = s.doms ∧ (s.putMeas v).vloops =
    s.vloops ∧ (s.putMeas v).rdn = s.rdn ∧ (s.putMeas v).bank = s.bank ∧ (s.putMeas v).spare = s.spare ∧ (s.putMeas
    v).link = s.link ∧ (s.putMeas v).test = s.test ∧ (s.putMeas v).sec = s.sec ∧ (s.putMeas v).nvm = s.nvm ∧ (s.putMeas
    v).sess = s.sess ∧ (s.putMeas v).long = s.long ∧ (s.putMeas v).guest = s.guest ∧ (s.putMeas v).jtag = s.jtag ∧
    (s.putMeas v).trace = s.trace ∧ (s.putMeas v).pinMoves = s.pinMoves ∧ (s.putMeas v).words = s.words ∧ (s.putMeas v).cq
    = s.cq ∧ (s.putMeas v).ports = s.ports := by
  and_intros <;> rfl

@[simp] theorem State.putHot_hot (s : State) (v : Bool) : (s.putHot v).hot = v := rfl
@[simp] theorem State.putHot_frame (s : State) (v : Bool) :
    (s.putHot v).pending = s.pending ∧ (s.putHot v).freeUses = s.freeUses ∧ (s.putHot v).out = s.out ∧ (s.putHot v).mode =
    s.mode ∧ (s.putHot v).modeCause = s.modeCause ∧ (s.putHot v).phase = s.phase ∧ (s.putHot v).straps = s.straps ∧
    (s.putHot v).perst = s.perst ∧ (s.putHot v).vinHigh = s.vinHigh ∧ (s.putHot v).claimed = s.claimed ∧ (s.putHot
    v).resetDue = s.resetDue ∧ (s.putHot v).meas = s.meas ∧ (s.putHot v).tick = s.tick ∧ (s.putHot v).wrap = s.wrap ∧
    (s.putHot v).hbOut = s.hbOut ∧ (s.putHot v).cw = s.cw ∧ (s.putHot v).ctx = s.ctx ∧ (s.putHot v).ctxAt = s.ctxAt ∧
    (s.putHot v).engines = s.engines ∧ (s.putHot v).loaf = s.loaf ∧ (s.putHot v).loafNext = s.loafNext ∧ (s.putHot
    v).loafDue = s.loafDue ∧ (s.putHot v).batch = s.batch ∧ (s.putHot v).suspended = s.suspended ∧ (s.putHot
    v).batchesDone = s.batchesDone ∧ (s.putHot v).batchIds = s.batchIds ∧ (s.putHot v).lastRing = s.lastRing ∧ (s.putHot
    v).rings = s.rings ∧ (s.putHot v).scratch = s.scratch ∧ (s.putHot v).hq = s.hq ∧ (s.putHot v).hostRing = s.hostRing ∧
    (s.putHot v).intPend = s.intPend ∧ (s.putHot v).msixTable = s.msixTable ∧ (s.putHot v).msixPba = s.msixPba ∧ (s.putHot
    v).violated = s.violated ∧ (s.putHot v).chkMax = s.chkMax ∧ (s.putHot v).captures = s.captures ∧ (s.putHot v).due =
    s.due ∧ (s.putHot v).lanes = s.lanes ∧ (s.putHot v).quads = s.quads ∧ (s.putHot v).flex = s.flex ∧ (s.putHot v).recClk
    = s.recClk ∧ (s.putHot v).refClk = s.refClk ∧ (s.putHot v).ilk = s.ilk ∧ (s.putHot v).trackers = s.trackers ∧
    (s.putHot v).framers = s.framers ∧ (s.putHot v).mons = s.mons ∧ (s.putHot v).oh = s.oh ∧ (s.putHot v).ohT0 = s.ohT0 ∧
    (s.putHot v).cells = s.cells ∧ (s.putHot v).cellsT0 = s.cellsT0 ∧ (s.putHot v).binQ = s.binQ ∧ (s.putHot v).binD =
    s.binD ∧ (s.putHot v).binLoad = s.binLoad ∧ (s.putHot v).binRestored = s.binRestored ∧ (s.putHot v).pmTime = s.pmTime
    ∧ (s.putHot v).deck = s.deck ∧ (s.putHot v).sels = s.sels ∧ (s.putHot v).decks = s.decks ∧ (s.putHot v).rsz = s.rsz ∧
    (s.putHot v).prfRings = s.prfRings ∧ (s.putHot v).hls = s.hls ∧ (s.putHot v).groups = s.groups ∧ (s.putHot v).substs =
    s.substs ∧ (s.putHot v).unverified = s.unverified ∧ (s.putHot v).firstRing = s.firstRing ∧ (s.putHot v).pairs =
    s.pairs ∧ (s.putHot v).audio = s.audio ∧ (s.putHot v).sync = s.sync ∧ (s.putHot v).dpll = s.dpll ∧ (s.putHot v).doms =
    s.doms ∧ (s.putHot v).vloops = s.vloops ∧ (s.putHot v).rdn = s.rdn ∧ (s.putHot v).bank = s.bank ∧ (s.putHot v).spare =
    s.spare ∧ (s.putHot v).link = s.link ∧ (s.putHot v).test = s.test ∧ (s.putHot v).sec = s.sec ∧ (s.putHot v).nvm =
    s.nvm ∧ (s.putHot v).sess = s.sess ∧ (s.putHot v).long = s.long ∧ (s.putHot v).guest = s.guest ∧ (s.putHot v).jtag =
    s.jtag ∧ (s.putHot v).trace = s.trace ∧ (s.putHot v).pinMoves = s.pinMoves ∧ (s.putHot v).words = s.words ∧ (s.putHot
    v).cq = s.cq ∧ (s.putHot v).ports = s.ports := by
  and_intros <;> rfl

@[simp] theorem State.putTick_tick (s : State) (v : Word) : (s.putTick v).tick = v := rfl
@[simp] theorem State.putTick_frame (s : State) (v : Word) :
    (s.putTick v).pending = s.pending ∧ (s.putTick v).freeUses = s.freeUses ∧ (s.putTick v).out = s.out ∧ (s.putTick
    v).mode = s.mode ∧ (s.putTick v).modeCause = s.modeCause ∧ (s.putTick v).phase = s.phase ∧ (s.putTick v).straps =
    s.straps ∧ (s.putTick v).perst = s.perst ∧ (s.putTick v).vinHigh = s.vinHigh ∧ (s.putTick v).claimed = s.claimed ∧
    (s.putTick v).resetDue = s.resetDue ∧ (s.putTick v).meas = s.meas ∧ (s.putTick v).hot = s.hot ∧ (s.putTick v).wrap =
    s.wrap ∧ (s.putTick v).hbOut = s.hbOut ∧ (s.putTick v).cw = s.cw ∧ (s.putTick v).ctx = s.ctx ∧ (s.putTick v).ctxAt =
    s.ctxAt ∧ (s.putTick v).engines = s.engines ∧ (s.putTick v).loaf = s.loaf ∧ (s.putTick v).loafNext = s.loafNext ∧
    (s.putTick v).loafDue = s.loafDue ∧ (s.putTick v).batch = s.batch ∧ (s.putTick v).suspended = s.suspended ∧ (s.putTick
    v).batchesDone = s.batchesDone ∧ (s.putTick v).batchIds = s.batchIds ∧ (s.putTick v).lastRing = s.lastRing ∧
    (s.putTick v).rings = s.rings ∧ (s.putTick v).scratch = s.scratch ∧ (s.putTick v).hq = s.hq ∧ (s.putTick v).hostRing =
    s.hostRing ∧ (s.putTick v).intPend = s.intPend ∧ (s.putTick v).msixTable = s.msixTable ∧ (s.putTick v).msixPba =
    s.msixPba ∧ (s.putTick v).violated = s.violated ∧ (s.putTick v).chkMax = s.chkMax ∧ (s.putTick v).captures =
    s.captures ∧ (s.putTick v).due = s.due ∧ (s.putTick v).lanes = s.lanes ∧ (s.putTick v).quads = s.quads ∧ (s.putTick
    v).flex = s.flex ∧ (s.putTick v).recClk = s.recClk ∧ (s.putTick v).refClk = s.refClk ∧ (s.putTick v).ilk = s.ilk ∧
    (s.putTick v).trackers = s.trackers ∧ (s.putTick v).framers = s.framers ∧ (s.putTick v).mons = s.mons ∧ (s.putTick
    v).oh = s.oh ∧ (s.putTick v).ohT0 = s.ohT0 ∧ (s.putTick v).cells = s.cells ∧ (s.putTick v).cellsT0 = s.cellsT0 ∧
    (s.putTick v).binQ = s.binQ ∧ (s.putTick v).binD = s.binD ∧ (s.putTick v).binLoad = s.binLoad ∧ (s.putTick
    v).binRestored = s.binRestored ∧ (s.putTick v).pmTime = s.pmTime ∧ (s.putTick v).deck = s.deck ∧ (s.putTick v).sels =
    s.sels ∧ (s.putTick v).decks = s.decks ∧ (s.putTick v).rsz = s.rsz ∧ (s.putTick v).prfRings = s.prfRings ∧ (s.putTick
    v).hls = s.hls ∧ (s.putTick v).groups = s.groups ∧ (s.putTick v).substs = s.substs ∧ (s.putTick v).unverified =
    s.unverified ∧ (s.putTick v).firstRing = s.firstRing ∧ (s.putTick v).pairs = s.pairs ∧ (s.putTick v).audio = s.audio ∧
    (s.putTick v).sync = s.sync ∧ (s.putTick v).dpll = s.dpll ∧ (s.putTick v).doms = s.doms ∧ (s.putTick v).vloops =
    s.vloops ∧ (s.putTick v).rdn = s.rdn ∧ (s.putTick v).bank = s.bank ∧ (s.putTick v).spare = s.spare ∧ (s.putTick
    v).link = s.link ∧ (s.putTick v).test = s.test ∧ (s.putTick v).sec = s.sec ∧ (s.putTick v).nvm = s.nvm ∧ (s.putTick
    v).sess = s.sess ∧ (s.putTick v).long = s.long ∧ (s.putTick v).guest = s.guest ∧ (s.putTick v).jtag = s.jtag ∧
    (s.putTick v).trace = s.trace ∧ (s.putTick v).pinMoves = s.pinMoves ∧ (s.putTick v).words = s.words ∧ (s.putTick v).cq
    = s.cq ∧ (s.putTick v).ports = s.ports := by
  and_intros <;> rfl

@[simp] theorem State.putWrap_wrap (s : State) (v : Word) : (s.putWrap v).wrap = v := rfl
@[simp] theorem State.putWrap_frame (s : State) (v : Word) :
    (s.putWrap v).pending = s.pending ∧ (s.putWrap v).freeUses = s.freeUses ∧ (s.putWrap v).out = s.out ∧ (s.putWrap
    v).mode = s.mode ∧ (s.putWrap v).modeCause = s.modeCause ∧ (s.putWrap v).phase = s.phase ∧ (s.putWrap v).straps =
    s.straps ∧ (s.putWrap v).perst = s.perst ∧ (s.putWrap v).vinHigh = s.vinHigh ∧ (s.putWrap v).claimed = s.claimed ∧
    (s.putWrap v).resetDue = s.resetDue ∧ (s.putWrap v).meas = s.meas ∧ (s.putWrap v).hot = s.hot ∧ (s.putWrap v).tick =
    s.tick ∧ (s.putWrap v).hbOut = s.hbOut ∧ (s.putWrap v).cw = s.cw ∧ (s.putWrap v).ctx = s.ctx ∧ (s.putWrap v).ctxAt =
    s.ctxAt ∧ (s.putWrap v).engines = s.engines ∧ (s.putWrap v).loaf = s.loaf ∧ (s.putWrap v).loafNext = s.loafNext ∧
    (s.putWrap v).loafDue = s.loafDue ∧ (s.putWrap v).batch = s.batch ∧ (s.putWrap v).suspended = s.suspended ∧ (s.putWrap
    v).batchesDone = s.batchesDone ∧ (s.putWrap v).batchIds = s.batchIds ∧ (s.putWrap v).lastRing = s.lastRing ∧
    (s.putWrap v).rings = s.rings ∧ (s.putWrap v).scratch = s.scratch ∧ (s.putWrap v).hq = s.hq ∧ (s.putWrap v).hostRing =
    s.hostRing ∧ (s.putWrap v).intPend = s.intPend ∧ (s.putWrap v).msixTable = s.msixTable ∧ (s.putWrap v).msixPba =
    s.msixPba ∧ (s.putWrap v).violated = s.violated ∧ (s.putWrap v).chkMax = s.chkMax ∧ (s.putWrap v).captures =
    s.captures ∧ (s.putWrap v).due = s.due ∧ (s.putWrap v).lanes = s.lanes ∧ (s.putWrap v).quads = s.quads ∧ (s.putWrap
    v).flex = s.flex ∧ (s.putWrap v).recClk = s.recClk ∧ (s.putWrap v).refClk = s.refClk ∧ (s.putWrap v).ilk = s.ilk ∧
    (s.putWrap v).trackers = s.trackers ∧ (s.putWrap v).framers = s.framers ∧ (s.putWrap v).mons = s.mons ∧ (s.putWrap
    v).oh = s.oh ∧ (s.putWrap v).ohT0 = s.ohT0 ∧ (s.putWrap v).cells = s.cells ∧ (s.putWrap v).cellsT0 = s.cellsT0 ∧
    (s.putWrap v).binQ = s.binQ ∧ (s.putWrap v).binD = s.binD ∧ (s.putWrap v).binLoad = s.binLoad ∧ (s.putWrap
    v).binRestored = s.binRestored ∧ (s.putWrap v).pmTime = s.pmTime ∧ (s.putWrap v).deck = s.deck ∧ (s.putWrap v).sels =
    s.sels ∧ (s.putWrap v).decks = s.decks ∧ (s.putWrap v).rsz = s.rsz ∧ (s.putWrap v).prfRings = s.prfRings ∧ (s.putWrap
    v).hls = s.hls ∧ (s.putWrap v).groups = s.groups ∧ (s.putWrap v).substs = s.substs ∧ (s.putWrap v).unverified =
    s.unverified ∧ (s.putWrap v).firstRing = s.firstRing ∧ (s.putWrap v).pairs = s.pairs ∧ (s.putWrap v).audio = s.audio ∧
    (s.putWrap v).sync = s.sync ∧ (s.putWrap v).dpll = s.dpll ∧ (s.putWrap v).doms = s.doms ∧ (s.putWrap v).vloops =
    s.vloops ∧ (s.putWrap v).rdn = s.rdn ∧ (s.putWrap v).bank = s.bank ∧ (s.putWrap v).spare = s.spare ∧ (s.putWrap
    v).link = s.link ∧ (s.putWrap v).test = s.test ∧ (s.putWrap v).sec = s.sec ∧ (s.putWrap v).nvm = s.nvm ∧ (s.putWrap
    v).sess = s.sess ∧ (s.putWrap v).long = s.long ∧ (s.putWrap v).guest = s.guest ∧ (s.putWrap v).jtag = s.jtag ∧
    (s.putWrap v).trace = s.trace ∧ (s.putWrap v).pinMoves = s.pinMoves ∧ (s.putWrap v).words = s.words ∧ (s.putWrap v).cq
    = s.cq ∧ (s.putWrap v).ports = s.ports := by
  and_intros <;> rfl

@[simp] theorem State.putHbOut_hbOut (s : State) (v : Bool) : (s.putHbOut v).hbOut = v := rfl
@[simp] theorem State.putHbOut_frame (s : State) (v : Bool) :
    (s.putHbOut v).pending = s.pending ∧ (s.putHbOut v).freeUses = s.freeUses ∧ (s.putHbOut v).out = s.out ∧ (s.putHbOut
    v).mode = s.mode ∧ (s.putHbOut v).modeCause = s.modeCause ∧ (s.putHbOut v).phase = s.phase ∧ (s.putHbOut v).straps =
    s.straps ∧ (s.putHbOut v).perst = s.perst ∧ (s.putHbOut v).vinHigh = s.vinHigh ∧ (s.putHbOut v).claimed = s.claimed ∧
    (s.putHbOut v).resetDue = s.resetDue ∧ (s.putHbOut v).meas = s.meas ∧ (s.putHbOut v).hot = s.hot ∧ (s.putHbOut v).tick
    = s.tick ∧ (s.putHbOut v).wrap = s.wrap ∧ (s.putHbOut v).cw = s.cw ∧ (s.putHbOut v).ctx = s.ctx ∧ (s.putHbOut v).ctxAt
    = s.ctxAt ∧ (s.putHbOut v).engines = s.engines ∧ (s.putHbOut v).loaf = s.loaf ∧ (s.putHbOut v).loafNext = s.loafNext ∧
    (s.putHbOut v).loafDue = s.loafDue ∧ (s.putHbOut v).batch = s.batch ∧ (s.putHbOut v).suspended = s.suspended ∧
    (s.putHbOut v).batchesDone = s.batchesDone ∧ (s.putHbOut v).batchIds = s.batchIds ∧ (s.putHbOut v).lastRing =
    s.lastRing ∧ (s.putHbOut v).rings = s.rings ∧ (s.putHbOut v).scratch = s.scratch ∧ (s.putHbOut v).hq = s.hq ∧
    (s.putHbOut v).hostRing = s.hostRing ∧ (s.putHbOut v).intPend = s.intPend ∧ (s.putHbOut v).msixTable = s.msixTable ∧
    (s.putHbOut v).msixPba = s.msixPba ∧ (s.putHbOut v).violated = s.violated ∧ (s.putHbOut v).chkMax = s.chkMax ∧
    (s.putHbOut v).captures = s.captures ∧ (s.putHbOut v).due = s.due ∧ (s.putHbOut v).lanes = s.lanes ∧ (s.putHbOut
    v).quads = s.quads ∧ (s.putHbOut v).flex = s.flex ∧ (s.putHbOut v).recClk = s.recClk ∧ (s.putHbOut v).refClk =
    s.refClk ∧ (s.putHbOut v).ilk = s.ilk ∧ (s.putHbOut v).trackers = s.trackers ∧ (s.putHbOut v).framers = s.framers ∧
    (s.putHbOut v).mons = s.mons ∧ (s.putHbOut v).oh = s.oh ∧ (s.putHbOut v).ohT0 = s.ohT0 ∧ (s.putHbOut v).cells =
    s.cells ∧ (s.putHbOut v).cellsT0 = s.cellsT0 ∧ (s.putHbOut v).binQ = s.binQ ∧ (s.putHbOut v).binD = s.binD ∧
    (s.putHbOut v).binLoad = s.binLoad ∧ (s.putHbOut v).binRestored = s.binRestored ∧ (s.putHbOut v).pmTime = s.pmTime ∧
    (s.putHbOut v).deck = s.deck ∧ (s.putHbOut v).sels = s.sels ∧ (s.putHbOut v).decks = s.decks ∧ (s.putHbOut v).rsz =
    s.rsz ∧ (s.putHbOut v).prfRings = s.prfRings ∧ (s.putHbOut v).hls = s.hls ∧ (s.putHbOut v).groups = s.groups ∧
    (s.putHbOut v).substs = s.substs ∧ (s.putHbOut v).unverified = s.unverified ∧ (s.putHbOut v).firstRing = s.firstRing ∧
    (s.putHbOut v).pairs = s.pairs ∧ (s.putHbOut v).audio = s.audio ∧ (s.putHbOut v).sync = s.sync ∧ (s.putHbOut v).dpll =
    s.dpll ∧ (s.putHbOut v).doms = s.doms ∧ (s.putHbOut v).vloops = s.vloops ∧ (s.putHbOut v).rdn = s.rdn ∧ (s.putHbOut
    v).bank = s.bank ∧ (s.putHbOut v).spare = s.spare ∧ (s.putHbOut v).link = s.link ∧ (s.putHbOut v).test = s.test ∧
    (s.putHbOut v).sec = s.sec ∧ (s.putHbOut v).nvm = s.nvm ∧ (s.putHbOut v).sess = s.sess ∧ (s.putHbOut v).long = s.long
    ∧ (s.putHbOut v).guest = s.guest ∧ (s.putHbOut v).jtag = s.jtag ∧ (s.putHbOut v).trace = s.trace ∧ (s.putHbOut
    v).pinMoves = s.pinMoves ∧ (s.putHbOut v).words = s.words ∧ (s.putHbOut v).cq = s.cq ∧ (s.putHbOut v).ports = s.ports := by
  and_intros <;> rfl

@[simp] theorem State.putCw_cw (s : State) (v : Tab Word) : (s.putCw v).cw = v := rfl
@[simp] theorem State.putCw_frame (s : State) (v : Tab Word) :
    (s.putCw v).pending = s.pending ∧ (s.putCw v).freeUses = s.freeUses ∧ (s.putCw v).out = s.out ∧ (s.putCw v).mode =
    s.mode ∧ (s.putCw v).modeCause = s.modeCause ∧ (s.putCw v).phase = s.phase ∧ (s.putCw v).straps = s.straps ∧ (s.putCw
    v).perst = s.perst ∧ (s.putCw v).vinHigh = s.vinHigh ∧ (s.putCw v).claimed = s.claimed ∧ (s.putCw v).resetDue =
    s.resetDue ∧ (s.putCw v).meas = s.meas ∧ (s.putCw v).hot = s.hot ∧ (s.putCw v).tick = s.tick ∧ (s.putCw v).wrap =
    s.wrap ∧ (s.putCw v).hbOut = s.hbOut ∧ (s.putCw v).ctx = s.ctx ∧ (s.putCw v).ctxAt = s.ctxAt ∧ (s.putCw v).engines =
    s.engines ∧ (s.putCw v).loaf = s.loaf ∧ (s.putCw v).loafNext = s.loafNext ∧ (s.putCw v).loafDue = s.loafDue ∧ (s.putCw
    v).batch = s.batch ∧ (s.putCw v).suspended = s.suspended ∧ (s.putCw v).batchesDone = s.batchesDone ∧ (s.putCw
    v).batchIds = s.batchIds ∧ (s.putCw v).lastRing = s.lastRing ∧ (s.putCw v).rings = s.rings ∧ (s.putCw v).scratch =
    s.scratch ∧ (s.putCw v).hq = s.hq ∧ (s.putCw v).hostRing = s.hostRing ∧ (s.putCw v).intPend = s.intPend ∧ (s.putCw
    v).msixTable = s.msixTable ∧ (s.putCw v).msixPba = s.msixPba ∧ (s.putCw v).violated = s.violated ∧ (s.putCw v).chkMax
    = s.chkMax ∧ (s.putCw v).captures = s.captures ∧ (s.putCw v).due = s.due ∧ (s.putCw v).lanes = s.lanes ∧ (s.putCw
    v).quads = s.quads ∧ (s.putCw v).flex = s.flex ∧ (s.putCw v).recClk = s.recClk ∧ (s.putCw v).refClk = s.refClk ∧
    (s.putCw v).ilk = s.ilk ∧ (s.putCw v).trackers = s.trackers ∧ (s.putCw v).framers = s.framers ∧ (s.putCw v).mons =
    s.mons ∧ (s.putCw v).oh = s.oh ∧ (s.putCw v).ohT0 = s.ohT0 ∧ (s.putCw v).cells = s.cells ∧ (s.putCw v).cellsT0 =
    s.cellsT0 ∧ (s.putCw v).binQ = s.binQ ∧ (s.putCw v).binD = s.binD ∧ (s.putCw v).binLoad = s.binLoad ∧ (s.putCw
    v).binRestored = s.binRestored ∧ (s.putCw v).pmTime = s.pmTime ∧ (s.putCw v).deck = s.deck ∧ (s.putCw v).sels = s.sels
    ∧ (s.putCw v).decks = s.decks ∧ (s.putCw v).rsz = s.rsz ∧ (s.putCw v).prfRings = s.prfRings ∧ (s.putCw v).hls = s.hls
    ∧ (s.putCw v).groups = s.groups ∧ (s.putCw v).substs = s.substs ∧ (s.putCw v).unverified = s.unverified ∧ (s.putCw
    v).firstRing = s.firstRing ∧ (s.putCw v).pairs = s.pairs ∧ (s.putCw v).audio = s.audio ∧ (s.putCw v).sync = s.sync ∧
    (s.putCw v).dpll = s.dpll ∧ (s.putCw v).doms = s.doms ∧ (s.putCw v).vloops = s.vloops ∧ (s.putCw v).rdn = s.rdn ∧
    (s.putCw v).bank = s.bank ∧ (s.putCw v).spare = s.spare ∧ (s.putCw v).link = s.link ∧ (s.putCw v).test = s.test ∧
    (s.putCw v).sec = s.sec ∧ (s.putCw v).nvm = s.nvm ∧ (s.putCw v).sess = s.sess ∧ (s.putCw v).long = s.long ∧ (s.putCw
    v).guest = s.guest ∧ (s.putCw v).jtag = s.jtag ∧ (s.putCw v).trace = s.trace ∧ (s.putCw v).pinMoves = s.pinMoves ∧
    (s.putCw v).words = s.words ∧ (s.putCw v).cq = s.cq ∧ (s.putCw v).ports = s.ports := by
  and_intros <;> rfl

@[simp] theorem State.putCtx_ctx (s : State) (v : Tab Word) : (s.putCtx v).ctx = v := rfl
@[simp] theorem State.putCtx_frame (s : State) (v : Tab Word) :
    (s.putCtx v).pending = s.pending ∧ (s.putCtx v).freeUses = s.freeUses ∧ (s.putCtx v).out = s.out ∧ (s.putCtx v).mode =
    s.mode ∧ (s.putCtx v).modeCause = s.modeCause ∧ (s.putCtx v).phase = s.phase ∧ (s.putCtx v).straps = s.straps ∧
    (s.putCtx v).perst = s.perst ∧ (s.putCtx v).vinHigh = s.vinHigh ∧ (s.putCtx v).claimed = s.claimed ∧ (s.putCtx
    v).resetDue = s.resetDue ∧ (s.putCtx v).meas = s.meas ∧ (s.putCtx v).hot = s.hot ∧ (s.putCtx v).tick = s.tick ∧
    (s.putCtx v).wrap = s.wrap ∧ (s.putCtx v).hbOut = s.hbOut ∧ (s.putCtx v).cw = s.cw ∧ (s.putCtx v).ctxAt = s.ctxAt ∧
    (s.putCtx v).engines = s.engines ∧ (s.putCtx v).loaf = s.loaf ∧ (s.putCtx v).loafNext = s.loafNext ∧ (s.putCtx
    v).loafDue = s.loafDue ∧ (s.putCtx v).batch = s.batch ∧ (s.putCtx v).suspended = s.suspended ∧ (s.putCtx
    v).batchesDone = s.batchesDone ∧ (s.putCtx v).batchIds = s.batchIds ∧ (s.putCtx v).lastRing = s.lastRing ∧ (s.putCtx
    v).rings = s.rings ∧ (s.putCtx v).scratch = s.scratch ∧ (s.putCtx v).hq = s.hq ∧ (s.putCtx v).hostRing = s.hostRing ∧
    (s.putCtx v).intPend = s.intPend ∧ (s.putCtx v).msixTable = s.msixTable ∧ (s.putCtx v).msixPba = s.msixPba ∧ (s.putCtx
    v).violated = s.violated ∧ (s.putCtx v).chkMax = s.chkMax ∧ (s.putCtx v).captures = s.captures ∧ (s.putCtx v).due =
    s.due ∧ (s.putCtx v).lanes = s.lanes ∧ (s.putCtx v).quads = s.quads ∧ (s.putCtx v).flex = s.flex ∧ (s.putCtx v).recClk
    = s.recClk ∧ (s.putCtx v).refClk = s.refClk ∧ (s.putCtx v).ilk = s.ilk ∧ (s.putCtx v).trackers = s.trackers ∧
    (s.putCtx v).framers = s.framers ∧ (s.putCtx v).mons = s.mons ∧ (s.putCtx v).oh = s.oh ∧ (s.putCtx v).ohT0 = s.ohT0 ∧
    (s.putCtx v).cells = s.cells ∧ (s.putCtx v).cellsT0 = s.cellsT0 ∧ (s.putCtx v).binQ = s.binQ ∧ (s.putCtx v).binD =
    s.binD ∧ (s.putCtx v).binLoad = s.binLoad ∧ (s.putCtx v).binRestored = s.binRestored ∧ (s.putCtx v).pmTime = s.pmTime
    ∧ (s.putCtx v).deck = s.deck ∧ (s.putCtx v).sels = s.sels ∧ (s.putCtx v).decks = s.decks ∧ (s.putCtx v).rsz = s.rsz ∧
    (s.putCtx v).prfRings = s.prfRings ∧ (s.putCtx v).hls = s.hls ∧ (s.putCtx v).groups = s.groups ∧ (s.putCtx v).substs =
    s.substs ∧ (s.putCtx v).unverified = s.unverified ∧ (s.putCtx v).firstRing = s.firstRing ∧ (s.putCtx v).pairs =
    s.pairs ∧ (s.putCtx v).audio = s.audio ∧ (s.putCtx v).sync = s.sync ∧ (s.putCtx v).dpll = s.dpll ∧ (s.putCtx v).doms =
    s.doms ∧ (s.putCtx v).vloops = s.vloops ∧ (s.putCtx v).rdn = s.rdn ∧ (s.putCtx v).bank = s.bank ∧ (s.putCtx v).spare =
    s.spare ∧ (s.putCtx v).link = s.link ∧ (s.putCtx v).test = s.test ∧ (s.putCtx v).sec = s.sec ∧ (s.putCtx v).nvm =
    s.nvm ∧ (s.putCtx v).sess = s.sess ∧ (s.putCtx v).long = s.long ∧ (s.putCtx v).guest = s.guest ∧ (s.putCtx v).jtag =
    s.jtag ∧ (s.putCtx v).trace = s.trace ∧ (s.putCtx v).pinMoves = s.pinMoves ∧ (s.putCtx v).words = s.words ∧ (s.putCtx
    v).cq = s.cq ∧ (s.putCtx v).ports = s.ports := by
  and_intros <;> rfl

@[simp] theorem State.putCtxAt_ctxAt (s : State) (v : Tab Nat) : (s.putCtxAt v).ctxAt = v := rfl
@[simp] theorem State.putCtxAt_frame (s : State) (v : Tab Nat) :
    (s.putCtxAt v).pending = s.pending ∧ (s.putCtxAt v).freeUses = s.freeUses ∧ (s.putCtxAt v).out = s.out ∧ (s.putCtxAt
    v).mode = s.mode ∧ (s.putCtxAt v).modeCause = s.modeCause ∧ (s.putCtxAt v).phase = s.phase ∧ (s.putCtxAt v).straps =
    s.straps ∧ (s.putCtxAt v).perst = s.perst ∧ (s.putCtxAt v).vinHigh = s.vinHigh ∧ (s.putCtxAt v).claimed = s.claimed ∧
    (s.putCtxAt v).resetDue = s.resetDue ∧ (s.putCtxAt v).meas = s.meas ∧ (s.putCtxAt v).hot = s.hot ∧ (s.putCtxAt v).tick
    = s.tick ∧ (s.putCtxAt v).wrap = s.wrap ∧ (s.putCtxAt v).hbOut = s.hbOut ∧ (s.putCtxAt v).cw = s.cw ∧ (s.putCtxAt
    v).ctx = s.ctx ∧ (s.putCtxAt v).engines = s.engines ∧ (s.putCtxAt v).loaf = s.loaf ∧ (s.putCtxAt v).loafNext =
    s.loafNext ∧ (s.putCtxAt v).loafDue = s.loafDue ∧ (s.putCtxAt v).batch = s.batch ∧ (s.putCtxAt v).suspended =
    s.suspended ∧ (s.putCtxAt v).batchesDone = s.batchesDone ∧ (s.putCtxAt v).batchIds = s.batchIds ∧ (s.putCtxAt
    v).lastRing = s.lastRing ∧ (s.putCtxAt v).rings = s.rings ∧ (s.putCtxAt v).scratch = s.scratch ∧ (s.putCtxAt v).hq =
    s.hq ∧ (s.putCtxAt v).hostRing = s.hostRing ∧ (s.putCtxAt v).intPend = s.intPend ∧ (s.putCtxAt v).msixTable =
    s.msixTable ∧ (s.putCtxAt v).msixPba = s.msixPba ∧ (s.putCtxAt v).violated = s.violated ∧ (s.putCtxAt v).chkMax =
    s.chkMax ∧ (s.putCtxAt v).captures = s.captures ∧ (s.putCtxAt v).due = s.due ∧ (s.putCtxAt v).lanes = s.lanes ∧
    (s.putCtxAt v).quads = s.quads ∧ (s.putCtxAt v).flex = s.flex ∧ (s.putCtxAt v).recClk = s.recClk ∧ (s.putCtxAt
    v).refClk = s.refClk ∧ (s.putCtxAt v).ilk = s.ilk ∧ (s.putCtxAt v).trackers = s.trackers ∧ (s.putCtxAt v).framers =
    s.framers ∧ (s.putCtxAt v).mons = s.mons ∧ (s.putCtxAt v).oh = s.oh ∧ (s.putCtxAt v).ohT0 = s.ohT0 ∧ (s.putCtxAt
    v).cells = s.cells ∧ (s.putCtxAt v).cellsT0 = s.cellsT0 ∧ (s.putCtxAt v).binQ = s.binQ ∧ (s.putCtxAt v).binD = s.binD
    ∧ (s.putCtxAt v).binLoad = s.binLoad ∧ (s.putCtxAt v).binRestored = s.binRestored ∧ (s.putCtxAt v).pmTime = s.pmTime ∧
    (s.putCtxAt v).deck = s.deck ∧ (s.putCtxAt v).sels = s.sels ∧ (s.putCtxAt v).decks = s.decks ∧ (s.putCtxAt v).rsz =
    s.rsz ∧ (s.putCtxAt v).prfRings = s.prfRings ∧ (s.putCtxAt v).hls = s.hls ∧ (s.putCtxAt v).groups = s.groups ∧
    (s.putCtxAt v).substs = s.substs ∧ (s.putCtxAt v).unverified = s.unverified ∧ (s.putCtxAt v).firstRing = s.firstRing ∧
    (s.putCtxAt v).pairs = s.pairs ∧ (s.putCtxAt v).audio = s.audio ∧ (s.putCtxAt v).sync = s.sync ∧ (s.putCtxAt v).dpll =
    s.dpll ∧ (s.putCtxAt v).doms = s.doms ∧ (s.putCtxAt v).vloops = s.vloops ∧ (s.putCtxAt v).rdn = s.rdn ∧ (s.putCtxAt
    v).bank = s.bank ∧ (s.putCtxAt v).spare = s.spare ∧ (s.putCtxAt v).link = s.link ∧ (s.putCtxAt v).test = s.test ∧
    (s.putCtxAt v).sec = s.sec ∧ (s.putCtxAt v).nvm = s.nvm ∧ (s.putCtxAt v).sess = s.sess ∧ (s.putCtxAt v).long = s.long
    ∧ (s.putCtxAt v).guest = s.guest ∧ (s.putCtxAt v).jtag = s.jtag ∧ (s.putCtxAt v).trace = s.trace ∧ (s.putCtxAt
    v).pinMoves = s.pinMoves ∧ (s.putCtxAt v).words = s.words ∧ (s.putCtxAt v).cq = s.cq ∧ (s.putCtxAt v).ports = s.ports := by
  and_intros <;> rfl

@[simp] theorem State.putEngines_engines (s : State) (v : Tab Engine) : (s.putEngines v).engines = v := rfl
@[simp] theorem State.putEngines_frame (s : State) (v : Tab Engine) :
    (s.putEngines v).pending = s.pending ∧ (s.putEngines v).freeUses = s.freeUses ∧ (s.putEngines v).out = s.out ∧
    (s.putEngines v).mode = s.mode ∧ (s.putEngines v).modeCause = s.modeCause ∧ (s.putEngines v).phase = s.phase ∧
    (s.putEngines v).straps = s.straps ∧ (s.putEngines v).perst = s.perst ∧ (s.putEngines v).vinHigh = s.vinHigh ∧
    (s.putEngines v).claimed = s.claimed ∧ (s.putEngines v).resetDue = s.resetDue ∧ (s.putEngines v).meas = s.meas ∧
    (s.putEngines v).hot = s.hot ∧ (s.putEngines v).tick = s.tick ∧ (s.putEngines v).wrap = s.wrap ∧ (s.putEngines
    v).hbOut = s.hbOut ∧ (s.putEngines v).cw = s.cw ∧ (s.putEngines v).ctx = s.ctx ∧ (s.putEngines v).ctxAt = s.ctxAt ∧
    (s.putEngines v).loaf = s.loaf ∧ (s.putEngines v).loafNext = s.loafNext ∧ (s.putEngines v).loafDue = s.loafDue ∧
    (s.putEngines v).batch = s.batch ∧ (s.putEngines v).suspended = s.suspended ∧ (s.putEngines v).batchesDone =
    s.batchesDone ∧ (s.putEngines v).batchIds = s.batchIds ∧ (s.putEngines v).lastRing = s.lastRing ∧ (s.putEngines
    v).rings = s.rings ∧ (s.putEngines v).scratch = s.scratch ∧ (s.putEngines v).hq = s.hq ∧ (s.putEngines v).hostRing =
    s.hostRing ∧ (s.putEngines v).intPend = s.intPend ∧ (s.putEngines v).msixTable = s.msixTable ∧ (s.putEngines
    v).msixPba = s.msixPba ∧ (s.putEngines v).violated = s.violated ∧ (s.putEngines v).chkMax = s.chkMax ∧ (s.putEngines
    v).captures = s.captures ∧ (s.putEngines v).due = s.due ∧ (s.putEngines v).lanes = s.lanes ∧ (s.putEngines v).quads =
    s.quads ∧ (s.putEngines v).flex = s.flex ∧ (s.putEngines v).recClk = s.recClk ∧ (s.putEngines v).refClk = s.refClk ∧
    (s.putEngines v).ilk = s.ilk ∧ (s.putEngines v).trackers = s.trackers ∧ (s.putEngines v).framers = s.framers ∧
    (s.putEngines v).mons = s.mons ∧ (s.putEngines v).oh = s.oh ∧ (s.putEngines v).ohT0 = s.ohT0 ∧ (s.putEngines v).cells
    = s.cells ∧ (s.putEngines v).cellsT0 = s.cellsT0 ∧ (s.putEngines v).binQ = s.binQ ∧ (s.putEngines v).binD = s.binD ∧
    (s.putEngines v).binLoad = s.binLoad ∧ (s.putEngines v).binRestored = s.binRestored ∧ (s.putEngines v).pmTime =
    s.pmTime ∧ (s.putEngines v).deck = s.deck ∧ (s.putEngines v).sels = s.sels ∧ (s.putEngines v).decks = s.decks ∧
    (s.putEngines v).rsz = s.rsz ∧ (s.putEngines v).prfRings = s.prfRings ∧ (s.putEngines v).hls = s.hls ∧ (s.putEngines
    v).groups = s.groups ∧ (s.putEngines v).substs = s.substs ∧ (s.putEngines v).unverified = s.unverified ∧ (s.putEngines
    v).firstRing = s.firstRing ∧ (s.putEngines v).pairs = s.pairs ∧ (s.putEngines v).audio = s.audio ∧ (s.putEngines
    v).sync = s.sync ∧ (s.putEngines v).dpll = s.dpll ∧ (s.putEngines v).doms = s.doms ∧ (s.putEngines v).vloops =
    s.vloops ∧ (s.putEngines v).rdn = s.rdn ∧ (s.putEngines v).bank = s.bank ∧ (s.putEngines v).spare = s.spare ∧
    (s.putEngines v).link = s.link ∧ (s.putEngines v).test = s.test ∧ (s.putEngines v).sec = s.sec ∧ (s.putEngines v).nvm
    = s.nvm ∧ (s.putEngines v).sess = s.sess ∧ (s.putEngines v).long = s.long ∧ (s.putEngines v).guest = s.guest ∧
    (s.putEngines v).jtag = s.jtag ∧ (s.putEngines v).trace = s.trace ∧ (s.putEngines v).pinMoves = s.pinMoves ∧
    (s.putEngines v).words = s.words ∧ (s.putEngines v).cq = s.cq ∧ (s.putEngines v).ports = s.ports := by
  and_intros <;> rfl

@[simp] theorem State.putLoaf_loaf (s : State) (v : Option Loaf) : (s.putLoaf v).loaf = v := rfl
@[simp] theorem State.putLoaf_frame (s : State) (v : Option Loaf) :
    (s.putLoaf v).pending = s.pending ∧ (s.putLoaf v).freeUses = s.freeUses ∧ (s.putLoaf v).out = s.out ∧ (s.putLoaf
    v).mode = s.mode ∧ (s.putLoaf v).modeCause = s.modeCause ∧ (s.putLoaf v).phase = s.phase ∧ (s.putLoaf v).straps =
    s.straps ∧ (s.putLoaf v).perst = s.perst ∧ (s.putLoaf v).vinHigh = s.vinHigh ∧ (s.putLoaf v).claimed = s.claimed ∧
    (s.putLoaf v).resetDue = s.resetDue ∧ (s.putLoaf v).meas = s.meas ∧ (s.putLoaf v).hot = s.hot ∧ (s.putLoaf v).tick =
    s.tick ∧ (s.putLoaf v).wrap = s.wrap ∧ (s.putLoaf v).hbOut = s.hbOut ∧ (s.putLoaf v).cw = s.cw ∧ (s.putLoaf v).ctx =
    s.ctx ∧ (s.putLoaf v).ctxAt = s.ctxAt ∧ (s.putLoaf v).engines = s.engines ∧ (s.putLoaf v).loafNext = s.loafNext ∧
    (s.putLoaf v).loafDue = s.loafDue ∧ (s.putLoaf v).batch = s.batch ∧ (s.putLoaf v).suspended = s.suspended ∧ (s.putLoaf
    v).batchesDone = s.batchesDone ∧ (s.putLoaf v).batchIds = s.batchIds ∧ (s.putLoaf v).lastRing = s.lastRing ∧
    (s.putLoaf v).rings = s.rings ∧ (s.putLoaf v).scratch = s.scratch ∧ (s.putLoaf v).hq = s.hq ∧ (s.putLoaf v).hostRing =
    s.hostRing ∧ (s.putLoaf v).intPend = s.intPend ∧ (s.putLoaf v).msixTable = s.msixTable ∧ (s.putLoaf v).msixPba =
    s.msixPba ∧ (s.putLoaf v).violated = s.violated ∧ (s.putLoaf v).chkMax = s.chkMax ∧ (s.putLoaf v).captures =
    s.captures ∧ (s.putLoaf v).due = s.due ∧ (s.putLoaf v).lanes = s.lanes ∧ (s.putLoaf v).quads = s.quads ∧ (s.putLoaf
    v).flex = s.flex ∧ (s.putLoaf v).recClk = s.recClk ∧ (s.putLoaf v).refClk = s.refClk ∧ (s.putLoaf v).ilk = s.ilk ∧
    (s.putLoaf v).trackers = s.trackers ∧ (s.putLoaf v).framers = s.framers ∧ (s.putLoaf v).mons = s.mons ∧ (s.putLoaf
    v).oh = s.oh ∧ (s.putLoaf v).ohT0 = s.ohT0 ∧ (s.putLoaf v).cells = s.cells ∧ (s.putLoaf v).cellsT0 = s.cellsT0 ∧
    (s.putLoaf v).binQ = s.binQ ∧ (s.putLoaf v).binD = s.binD ∧ (s.putLoaf v).binLoad = s.binLoad ∧ (s.putLoaf
    v).binRestored = s.binRestored ∧ (s.putLoaf v).pmTime = s.pmTime ∧ (s.putLoaf v).deck = s.deck ∧ (s.putLoaf v).sels =
    s.sels ∧ (s.putLoaf v).decks = s.decks ∧ (s.putLoaf v).rsz = s.rsz ∧ (s.putLoaf v).prfRings = s.prfRings ∧ (s.putLoaf
    v).hls = s.hls ∧ (s.putLoaf v).groups = s.groups ∧ (s.putLoaf v).substs = s.substs ∧ (s.putLoaf v).unverified =
    s.unverified ∧ (s.putLoaf v).firstRing = s.firstRing ∧ (s.putLoaf v).pairs = s.pairs ∧ (s.putLoaf v).audio = s.audio ∧
    (s.putLoaf v).sync = s.sync ∧ (s.putLoaf v).dpll = s.dpll ∧ (s.putLoaf v).doms = s.doms ∧ (s.putLoaf v).vloops =
    s.vloops ∧ (s.putLoaf v).rdn = s.rdn ∧ (s.putLoaf v).bank = s.bank ∧ (s.putLoaf v).spare = s.spare ∧ (s.putLoaf
    v).link = s.link ∧ (s.putLoaf v).test = s.test ∧ (s.putLoaf v).sec = s.sec ∧ (s.putLoaf v).nvm = s.nvm ∧ (s.putLoaf
    v).sess = s.sess ∧ (s.putLoaf v).long = s.long ∧ (s.putLoaf v).guest = s.guest ∧ (s.putLoaf v).jtag = s.jtag ∧
    (s.putLoaf v).trace = s.trace ∧ (s.putLoaf v).pinMoves = s.pinMoves ∧ (s.putLoaf v).words = s.words ∧ (s.putLoaf v).cq
    = s.cq ∧ (s.putLoaf v).ports = s.ports := by
  and_intros <;> rfl

@[simp] theorem State.putLoafNext_loafNext (s : State) (v : Option Loaf) : (s.putLoafNext v).loafNext = v := rfl
@[simp] theorem State.putLoafNext_frame (s : State) (v : Option Loaf) :
    (s.putLoafNext v).pending = s.pending ∧ (s.putLoafNext v).freeUses = s.freeUses ∧ (s.putLoafNext v).out = s.out ∧
    (s.putLoafNext v).mode = s.mode ∧ (s.putLoafNext v).modeCause = s.modeCause ∧ (s.putLoafNext v).phase = s.phase ∧
    (s.putLoafNext v).straps = s.straps ∧ (s.putLoafNext v).perst = s.perst ∧ (s.putLoafNext v).vinHigh = s.vinHigh ∧
    (s.putLoafNext v).claimed = s.claimed ∧ (s.putLoafNext v).resetDue = s.resetDue ∧ (s.putLoafNext v).meas = s.meas ∧
    (s.putLoafNext v).hot = s.hot ∧ (s.putLoafNext v).tick = s.tick ∧ (s.putLoafNext v).wrap = s.wrap ∧ (s.putLoafNext
    v).hbOut = s.hbOut ∧ (s.putLoafNext v).cw = s.cw ∧ (s.putLoafNext v).ctx = s.ctx ∧ (s.putLoafNext v).ctxAt = s.ctxAt ∧
    (s.putLoafNext v).engines = s.engines ∧ (s.putLoafNext v).loaf = s.loaf ∧ (s.putLoafNext v).loafDue = s.loafDue ∧
    (s.putLoafNext v).batch = s.batch ∧ (s.putLoafNext v).suspended = s.suspended ∧ (s.putLoafNext v).batchesDone =
    s.batchesDone ∧ (s.putLoafNext v).batchIds = s.batchIds ∧ (s.putLoafNext v).lastRing = s.lastRing ∧ (s.putLoafNext
    v).rings = s.rings ∧ (s.putLoafNext v).scratch = s.scratch ∧ (s.putLoafNext v).hq = s.hq ∧ (s.putLoafNext v).hostRing
    = s.hostRing ∧ (s.putLoafNext v).intPend = s.intPend ∧ (s.putLoafNext v).msixTable = s.msixTable ∧ (s.putLoafNext
    v).msixPba = s.msixPba ∧ (s.putLoafNext v).violated = s.violated ∧ (s.putLoafNext v).chkMax = s.chkMax ∧
    (s.putLoafNext v).captures = s.captures ∧ (s.putLoafNext v).due = s.due ∧ (s.putLoafNext v).lanes = s.lanes ∧
    (s.putLoafNext v).quads = s.quads ∧ (s.putLoafNext v).flex = s.flex ∧ (s.putLoafNext v).recClk = s.recClk ∧
    (s.putLoafNext v).refClk = s.refClk ∧ (s.putLoafNext v).ilk = s.ilk ∧ (s.putLoafNext v).trackers = s.trackers ∧
    (s.putLoafNext v).framers = s.framers ∧ (s.putLoafNext v).mons = s.mons ∧ (s.putLoafNext v).oh = s.oh ∧ (s.putLoafNext
    v).ohT0 = s.ohT0 ∧ (s.putLoafNext v).cells = s.cells ∧ (s.putLoafNext v).cellsT0 = s.cellsT0 ∧ (s.putLoafNext v).binQ
    = s.binQ ∧ (s.putLoafNext v).binD = s.binD ∧ (s.putLoafNext v).binLoad = s.binLoad ∧ (s.putLoafNext v).binRestored =
    s.binRestored ∧ (s.putLoafNext v).pmTime = s.pmTime ∧ (s.putLoafNext v).deck = s.deck ∧ (s.putLoafNext v).sels =
    s.sels ∧ (s.putLoafNext v).decks = s.decks ∧ (s.putLoafNext v).rsz = s.rsz ∧ (s.putLoafNext v).prfRings = s.prfRings ∧
    (s.putLoafNext v).hls = s.hls ∧ (s.putLoafNext v).groups = s.groups ∧ (s.putLoafNext v).substs = s.substs ∧
    (s.putLoafNext v).unverified = s.unverified ∧ (s.putLoafNext v).firstRing = s.firstRing ∧ (s.putLoafNext v).pairs =
    s.pairs ∧ (s.putLoafNext v).audio = s.audio ∧ (s.putLoafNext v).sync = s.sync ∧ (s.putLoafNext v).dpll = s.dpll ∧
    (s.putLoafNext v).doms = s.doms ∧ (s.putLoafNext v).vloops = s.vloops ∧ (s.putLoafNext v).rdn = s.rdn ∧ (s.putLoafNext
    v).bank = s.bank ∧ (s.putLoafNext v).spare = s.spare ∧ (s.putLoafNext v).link = s.link ∧ (s.putLoafNext v).test =
    s.test ∧ (s.putLoafNext v).sec = s.sec ∧ (s.putLoafNext v).nvm = s.nvm ∧ (s.putLoafNext v).sess = s.sess ∧
    (s.putLoafNext v).long = s.long ∧ (s.putLoafNext v).guest = s.guest ∧ (s.putLoafNext v).jtag = s.jtag ∧ (s.putLoafNext
    v).trace = s.trace ∧ (s.putLoafNext v).pinMoves = s.pinMoves ∧ (s.putLoafNext v).words = s.words ∧ (s.putLoafNext
    v).cq = s.cq ∧ (s.putLoafNext v).ports = s.ports := by
  and_intros <;> rfl

@[simp] theorem State.putLoafDue_loafDue (s : State) (v : Bool) : (s.putLoafDue v).loafDue = v := rfl
@[simp] theorem State.putLoafDue_frame (s : State) (v : Bool) :
    (s.putLoafDue v).pending = s.pending ∧ (s.putLoafDue v).freeUses = s.freeUses ∧ (s.putLoafDue v).out = s.out ∧
    (s.putLoafDue v).mode = s.mode ∧ (s.putLoafDue v).modeCause = s.modeCause ∧ (s.putLoafDue v).phase = s.phase ∧
    (s.putLoafDue v).straps = s.straps ∧ (s.putLoafDue v).perst = s.perst ∧ (s.putLoafDue v).vinHigh = s.vinHigh ∧
    (s.putLoafDue v).claimed = s.claimed ∧ (s.putLoafDue v).resetDue = s.resetDue ∧ (s.putLoafDue v).meas = s.meas ∧
    (s.putLoafDue v).hot = s.hot ∧ (s.putLoafDue v).tick = s.tick ∧ (s.putLoafDue v).wrap = s.wrap ∧ (s.putLoafDue
    v).hbOut = s.hbOut ∧ (s.putLoafDue v).cw = s.cw ∧ (s.putLoafDue v).ctx = s.ctx ∧ (s.putLoafDue v).ctxAt = s.ctxAt ∧
    (s.putLoafDue v).engines = s.engines ∧ (s.putLoafDue v).loaf = s.loaf ∧ (s.putLoafDue v).loafNext = s.loafNext ∧
    (s.putLoafDue v).batch = s.batch ∧ (s.putLoafDue v).suspended = s.suspended ∧ (s.putLoafDue v).batchesDone =
    s.batchesDone ∧ (s.putLoafDue v).batchIds = s.batchIds ∧ (s.putLoafDue v).lastRing = s.lastRing ∧ (s.putLoafDue
    v).rings = s.rings ∧ (s.putLoafDue v).scratch = s.scratch ∧ (s.putLoafDue v).hq = s.hq ∧ (s.putLoafDue v).hostRing =
    s.hostRing ∧ (s.putLoafDue v).intPend = s.intPend ∧ (s.putLoafDue v).msixTable = s.msixTable ∧ (s.putLoafDue
    v).msixPba = s.msixPba ∧ (s.putLoafDue v).violated = s.violated ∧ (s.putLoafDue v).chkMax = s.chkMax ∧ (s.putLoafDue
    v).captures = s.captures ∧ (s.putLoafDue v).due = s.due ∧ (s.putLoafDue v).lanes = s.lanes ∧ (s.putLoafDue v).quads =
    s.quads ∧ (s.putLoafDue v).flex = s.flex ∧ (s.putLoafDue v).recClk = s.recClk ∧ (s.putLoafDue v).refClk = s.refClk ∧
    (s.putLoafDue v).ilk = s.ilk ∧ (s.putLoafDue v).trackers = s.trackers ∧ (s.putLoafDue v).framers = s.framers ∧
    (s.putLoafDue v).mons = s.mons ∧ (s.putLoafDue v).oh = s.oh ∧ (s.putLoafDue v).ohT0 = s.ohT0 ∧ (s.putLoafDue v).cells
    = s.cells ∧ (s.putLoafDue v).cellsT0 = s.cellsT0 ∧ (s.putLoafDue v).binQ = s.binQ ∧ (s.putLoafDue v).binD = s.binD ∧
    (s.putLoafDue v).binLoad = s.binLoad ∧ (s.putLoafDue v).binRestored = s.binRestored ∧ (s.putLoafDue v).pmTime =
    s.pmTime ∧ (s.putLoafDue v).deck = s.deck ∧ (s.putLoafDue v).sels = s.sels ∧ (s.putLoafDue v).decks = s.decks ∧
    (s.putLoafDue v).rsz = s.rsz ∧ (s.putLoafDue v).prfRings = s.prfRings ∧ (s.putLoafDue v).hls = s.hls ∧ (s.putLoafDue
    v).groups = s.groups ∧ (s.putLoafDue v).substs = s.substs ∧ (s.putLoafDue v).unverified = s.unverified ∧ (s.putLoafDue
    v).firstRing = s.firstRing ∧ (s.putLoafDue v).pairs = s.pairs ∧ (s.putLoafDue v).audio = s.audio ∧ (s.putLoafDue
    v).sync = s.sync ∧ (s.putLoafDue v).dpll = s.dpll ∧ (s.putLoafDue v).doms = s.doms ∧ (s.putLoafDue v).vloops =
    s.vloops ∧ (s.putLoafDue v).rdn = s.rdn ∧ (s.putLoafDue v).bank = s.bank ∧ (s.putLoafDue v).spare = s.spare ∧
    (s.putLoafDue v).link = s.link ∧ (s.putLoafDue v).test = s.test ∧ (s.putLoafDue v).sec = s.sec ∧ (s.putLoafDue v).nvm
    = s.nvm ∧ (s.putLoafDue v).sess = s.sess ∧ (s.putLoafDue v).long = s.long ∧ (s.putLoafDue v).guest = s.guest ∧
    (s.putLoafDue v).jtag = s.jtag ∧ (s.putLoafDue v).trace = s.trace ∧ (s.putLoafDue v).pinMoves = s.pinMoves ∧
    (s.putLoafDue v).words = s.words ∧ (s.putLoafDue v).cq = s.cq ∧ (s.putLoafDue v).ports = s.ports := by
  and_intros <;> rfl

@[simp] theorem State.putBatch_batch (s : State) (v : Option BatchRun) : (s.putBatch v).batch = v := rfl
@[simp] theorem State.putBatch_frame (s : State) (v : Option BatchRun) :
    (s.putBatch v).pending = s.pending ∧ (s.putBatch v).freeUses = s.freeUses ∧ (s.putBatch v).out = s.out ∧ (s.putBatch
    v).mode = s.mode ∧ (s.putBatch v).modeCause = s.modeCause ∧ (s.putBatch v).phase = s.phase ∧ (s.putBatch v).straps =
    s.straps ∧ (s.putBatch v).perst = s.perst ∧ (s.putBatch v).vinHigh = s.vinHigh ∧ (s.putBatch v).claimed = s.claimed ∧
    (s.putBatch v).resetDue = s.resetDue ∧ (s.putBatch v).meas = s.meas ∧ (s.putBatch v).hot = s.hot ∧ (s.putBatch v).tick
    = s.tick ∧ (s.putBatch v).wrap = s.wrap ∧ (s.putBatch v).hbOut = s.hbOut ∧ (s.putBatch v).cw = s.cw ∧ (s.putBatch
    v).ctx = s.ctx ∧ (s.putBatch v).ctxAt = s.ctxAt ∧ (s.putBatch v).engines = s.engines ∧ (s.putBatch v).loaf = s.loaf ∧
    (s.putBatch v).loafNext = s.loafNext ∧ (s.putBatch v).loafDue = s.loafDue ∧ (s.putBatch v).suspended = s.suspended ∧
    (s.putBatch v).batchesDone = s.batchesDone ∧ (s.putBatch v).batchIds = s.batchIds ∧ (s.putBatch v).lastRing =
    s.lastRing ∧ (s.putBatch v).rings = s.rings ∧ (s.putBatch v).scratch = s.scratch ∧ (s.putBatch v).hq = s.hq ∧
    (s.putBatch v).hostRing = s.hostRing ∧ (s.putBatch v).intPend = s.intPend ∧ (s.putBatch v).msixTable = s.msixTable ∧
    (s.putBatch v).msixPba = s.msixPba ∧ (s.putBatch v).violated = s.violated ∧ (s.putBatch v).chkMax = s.chkMax ∧
    (s.putBatch v).captures = s.captures ∧ (s.putBatch v).due = s.due ∧ (s.putBatch v).lanes = s.lanes ∧ (s.putBatch
    v).quads = s.quads ∧ (s.putBatch v).flex = s.flex ∧ (s.putBatch v).recClk = s.recClk ∧ (s.putBatch v).refClk =
    s.refClk ∧ (s.putBatch v).ilk = s.ilk ∧ (s.putBatch v).trackers = s.trackers ∧ (s.putBatch v).framers = s.framers ∧
    (s.putBatch v).mons = s.mons ∧ (s.putBatch v).oh = s.oh ∧ (s.putBatch v).ohT0 = s.ohT0 ∧ (s.putBatch v).cells =
    s.cells ∧ (s.putBatch v).cellsT0 = s.cellsT0 ∧ (s.putBatch v).binQ = s.binQ ∧ (s.putBatch v).binD = s.binD ∧
    (s.putBatch v).binLoad = s.binLoad ∧ (s.putBatch v).binRestored = s.binRestored ∧ (s.putBatch v).pmTime = s.pmTime ∧
    (s.putBatch v).deck = s.deck ∧ (s.putBatch v).sels = s.sels ∧ (s.putBatch v).decks = s.decks ∧ (s.putBatch v).rsz =
    s.rsz ∧ (s.putBatch v).prfRings = s.prfRings ∧ (s.putBatch v).hls = s.hls ∧ (s.putBatch v).groups = s.groups ∧
    (s.putBatch v).substs = s.substs ∧ (s.putBatch v).unverified = s.unverified ∧ (s.putBatch v).firstRing = s.firstRing ∧
    (s.putBatch v).pairs = s.pairs ∧ (s.putBatch v).audio = s.audio ∧ (s.putBatch v).sync = s.sync ∧ (s.putBatch v).dpll =
    s.dpll ∧ (s.putBatch v).doms = s.doms ∧ (s.putBatch v).vloops = s.vloops ∧ (s.putBatch v).rdn = s.rdn ∧ (s.putBatch
    v).bank = s.bank ∧ (s.putBatch v).spare = s.spare ∧ (s.putBatch v).link = s.link ∧ (s.putBatch v).test = s.test ∧
    (s.putBatch v).sec = s.sec ∧ (s.putBatch v).nvm = s.nvm ∧ (s.putBatch v).sess = s.sess ∧ (s.putBatch v).long = s.long
    ∧ (s.putBatch v).guest = s.guest ∧ (s.putBatch v).jtag = s.jtag ∧ (s.putBatch v).trace = s.trace ∧ (s.putBatch
    v).pinMoves = s.pinMoves ∧ (s.putBatch v).words = s.words ∧ (s.putBatch v).cq = s.cq ∧ (s.putBatch v).ports = s.ports := by
  and_intros <;> rfl

@[simp] theorem State.putSuspended_suspended (s : State) (v : Option Engine) : (s.putSuspended v).suspended = v := rfl
@[simp] theorem State.putSuspended_frame (s : State) (v : Option Engine) :
    (s.putSuspended v).pending = s.pending ∧ (s.putSuspended v).freeUses = s.freeUses ∧ (s.putSuspended v).out = s.out ∧
    (s.putSuspended v).mode = s.mode ∧ (s.putSuspended v).modeCause = s.modeCause ∧ (s.putSuspended v).phase = s.phase ∧
    (s.putSuspended v).straps = s.straps ∧ (s.putSuspended v).perst = s.perst ∧ (s.putSuspended v).vinHigh = s.vinHigh ∧
    (s.putSuspended v).claimed = s.claimed ∧ (s.putSuspended v).resetDue = s.resetDue ∧ (s.putSuspended v).meas = s.meas ∧
    (s.putSuspended v).hot = s.hot ∧ (s.putSuspended v).tick = s.tick ∧ (s.putSuspended v).wrap = s.wrap ∧ (s.putSuspended
    v).hbOut = s.hbOut ∧ (s.putSuspended v).cw = s.cw ∧ (s.putSuspended v).ctx = s.ctx ∧ (s.putSuspended v).ctxAt =
    s.ctxAt ∧ (s.putSuspended v).engines = s.engines ∧ (s.putSuspended v).loaf = s.loaf ∧ (s.putSuspended v).loafNext =
    s.loafNext ∧ (s.putSuspended v).loafDue = s.loafDue ∧ (s.putSuspended v).batch = s.batch ∧ (s.putSuspended
    v).batchesDone = s.batchesDone ∧ (s.putSuspended v).batchIds = s.batchIds ∧ (s.putSuspended v).lastRing = s.lastRing ∧
    (s.putSuspended v).rings = s.rings ∧ (s.putSuspended v).scratch = s.scratch ∧ (s.putSuspended v).hq = s.hq ∧
    (s.putSuspended v).hostRing = s.hostRing ∧ (s.putSuspended v).intPend = s.intPend ∧ (s.putSuspended v).msixTable =
    s.msixTable ∧ (s.putSuspended v).msixPba = s.msixPba ∧ (s.putSuspended v).violated = s.violated ∧ (s.putSuspended
    v).chkMax = s.chkMax ∧ (s.putSuspended v).captures = s.captures ∧ (s.putSuspended v).due = s.due ∧ (s.putSuspended
    v).lanes = s.lanes ∧ (s.putSuspended v).quads = s.quads ∧ (s.putSuspended v).flex = s.flex ∧ (s.putSuspended v).recClk
    = s.recClk ∧ (s.putSuspended v).refClk = s.refClk ∧ (s.putSuspended v).ilk = s.ilk ∧ (s.putSuspended v).trackers =
    s.trackers ∧ (s.putSuspended v).framers = s.framers ∧ (s.putSuspended v).mons = s.mons ∧ (s.putSuspended v).oh = s.oh
    ∧ (s.putSuspended v).ohT0 = s.ohT0 ∧ (s.putSuspended v).cells = s.cells ∧ (s.putSuspended v).cellsT0 = s.cellsT0 ∧
    (s.putSuspended v).binQ = s.binQ ∧ (s.putSuspended v).binD = s.binD ∧ (s.putSuspended v).binLoad = s.binLoad ∧
    (s.putSuspended v).binRestored = s.binRestored ∧ (s.putSuspended v).pmTime = s.pmTime ∧ (s.putSuspended v).deck =
    s.deck ∧ (s.putSuspended v).sels = s.sels ∧ (s.putSuspended v).decks = s.decks ∧ (s.putSuspended v).rsz = s.rsz ∧
    (s.putSuspended v).prfRings = s.prfRings ∧ (s.putSuspended v).hls = s.hls ∧ (s.putSuspended v).groups = s.groups ∧
    (s.putSuspended v).substs = s.substs ∧ (s.putSuspended v).unverified = s.unverified ∧ (s.putSuspended v).firstRing =
    s.firstRing ∧ (s.putSuspended v).pairs = s.pairs ∧ (s.putSuspended v).audio = s.audio ∧ (s.putSuspended v).sync =
    s.sync ∧ (s.putSuspended v).dpll = s.dpll ∧ (s.putSuspended v).doms = s.doms ∧ (s.putSuspended v).vloops = s.vloops ∧
    (s.putSuspended v).rdn = s.rdn ∧ (s.putSuspended v).bank = s.bank ∧ (s.putSuspended v).spare = s.spare ∧
    (s.putSuspended v).link = s.link ∧ (s.putSuspended v).test = s.test ∧ (s.putSuspended v).sec = s.sec ∧ (s.putSuspended
    v).nvm = s.nvm ∧ (s.putSuspended v).sess = s.sess ∧ (s.putSuspended v).long = s.long ∧ (s.putSuspended v).guest =
    s.guest ∧ (s.putSuspended v).jtag = s.jtag ∧ (s.putSuspended v).trace = s.trace ∧ (s.putSuspended v).pinMoves =
    s.pinMoves ∧ (s.putSuspended v).words = s.words ∧ (s.putSuspended v).cq = s.cq ∧ (s.putSuspended v).ports = s.ports := by
  and_intros <;> rfl

@[simp] theorem State.putBatchesDone_batchesDone (s : State) (v : List BatchRun) : (s.putBatchesDone v).batchesDone = v := rfl
@[simp] theorem State.putBatchesDone_frame (s : State) (v : List BatchRun) :
    (s.putBatchesDone v).pending = s.pending ∧ (s.putBatchesDone v).freeUses = s.freeUses ∧ (s.putBatchesDone v).out =
    s.out ∧ (s.putBatchesDone v).mode = s.mode ∧ (s.putBatchesDone v).modeCause = s.modeCause ∧ (s.putBatchesDone v).phase
    = s.phase ∧ (s.putBatchesDone v).straps = s.straps ∧ (s.putBatchesDone v).perst = s.perst ∧ (s.putBatchesDone
    v).vinHigh = s.vinHigh ∧ (s.putBatchesDone v).claimed = s.claimed ∧ (s.putBatchesDone v).resetDue = s.resetDue ∧
    (s.putBatchesDone v).meas = s.meas ∧ (s.putBatchesDone v).hot = s.hot ∧ (s.putBatchesDone v).tick = s.tick ∧
    (s.putBatchesDone v).wrap = s.wrap ∧ (s.putBatchesDone v).hbOut = s.hbOut ∧ (s.putBatchesDone v).cw = s.cw ∧
    (s.putBatchesDone v).ctx = s.ctx ∧ (s.putBatchesDone v).ctxAt = s.ctxAt ∧ (s.putBatchesDone v).engines = s.engines ∧
    (s.putBatchesDone v).loaf = s.loaf ∧ (s.putBatchesDone v).loafNext = s.loafNext ∧ (s.putBatchesDone v).loafDue =
    s.loafDue ∧ (s.putBatchesDone v).batch = s.batch ∧ (s.putBatchesDone v).suspended = s.suspended ∧ (s.putBatchesDone
    v).batchIds = s.batchIds ∧ (s.putBatchesDone v).lastRing = s.lastRing ∧ (s.putBatchesDone v).rings = s.rings ∧
    (s.putBatchesDone v).scratch = s.scratch ∧ (s.putBatchesDone v).hq = s.hq ∧ (s.putBatchesDone v).hostRing = s.hostRing
    ∧ (s.putBatchesDone v).intPend = s.intPend ∧ (s.putBatchesDone v).msixTable = s.msixTable ∧ (s.putBatchesDone
    v).msixPba = s.msixPba ∧ (s.putBatchesDone v).violated = s.violated ∧ (s.putBatchesDone v).chkMax = s.chkMax ∧
    (s.putBatchesDone v).captures = s.captures ∧ (s.putBatchesDone v).due = s.due ∧ (s.putBatchesDone v).lanes = s.lanes ∧
    (s.putBatchesDone v).quads = s.quads ∧ (s.putBatchesDone v).flex = s.flex ∧ (s.putBatchesDone v).recClk = s.recClk ∧
    (s.putBatchesDone v).refClk = s.refClk ∧ (s.putBatchesDone v).ilk = s.ilk ∧ (s.putBatchesDone v).trackers = s.trackers
    ∧ (s.putBatchesDone v).framers = s.framers ∧ (s.putBatchesDone v).mons = s.mons ∧ (s.putBatchesDone v).oh = s.oh ∧
    (s.putBatchesDone v).ohT0 = s.ohT0 ∧ (s.putBatchesDone v).cells = s.cells ∧ (s.putBatchesDone v).cellsT0 = s.cellsT0 ∧
    (s.putBatchesDone v).binQ = s.binQ ∧ (s.putBatchesDone v).binD = s.binD ∧ (s.putBatchesDone v).binLoad = s.binLoad ∧
    (s.putBatchesDone v).binRestored = s.binRestored ∧ (s.putBatchesDone v).pmTime = s.pmTime ∧ (s.putBatchesDone v).deck
    = s.deck ∧ (s.putBatchesDone v).sels = s.sels ∧ (s.putBatchesDone v).decks = s.decks ∧ (s.putBatchesDone v).rsz =
    s.rsz ∧ (s.putBatchesDone v).prfRings = s.prfRings ∧ (s.putBatchesDone v).hls = s.hls ∧ (s.putBatchesDone v).groups =
    s.groups ∧ (s.putBatchesDone v).substs = s.substs ∧ (s.putBatchesDone v).unverified = s.unverified ∧ (s.putBatchesDone
    v).firstRing = s.firstRing ∧ (s.putBatchesDone v).pairs = s.pairs ∧ (s.putBatchesDone v).audio = s.audio ∧
    (s.putBatchesDone v).sync = s.sync ∧ (s.putBatchesDone v).dpll = s.dpll ∧ (s.putBatchesDone v).doms = s.doms ∧
    (s.putBatchesDone v).vloops = s.vloops ∧ (s.putBatchesDone v).rdn = s.rdn ∧ (s.putBatchesDone v).bank = s.bank ∧
    (s.putBatchesDone v).spare = s.spare ∧ (s.putBatchesDone v).link = s.link ∧ (s.putBatchesDone v).test = s.test ∧
    (s.putBatchesDone v).sec = s.sec ∧ (s.putBatchesDone v).nvm = s.nvm ∧ (s.putBatchesDone v).sess = s.sess ∧
    (s.putBatchesDone v).long = s.long ∧ (s.putBatchesDone v).guest = s.guest ∧ (s.putBatchesDone v).jtag = s.jtag ∧
    (s.putBatchesDone v).trace = s.trace ∧ (s.putBatchesDone v).pinMoves = s.pinMoves ∧ (s.putBatchesDone v).words =
    s.words ∧ (s.putBatchesDone v).cq = s.cq ∧ (s.putBatchesDone v).ports = s.ports := by
  and_intros <;> rfl

@[simp] theorem State.putBatchIds_batchIds (s : State) (v : Nat) : (s.putBatchIds v).batchIds = v := rfl
@[simp] theorem State.putBatchIds_frame (s : State) (v : Nat) :
    (s.putBatchIds v).pending = s.pending ∧ (s.putBatchIds v).freeUses = s.freeUses ∧ (s.putBatchIds v).out = s.out ∧
    (s.putBatchIds v).mode = s.mode ∧ (s.putBatchIds v).modeCause = s.modeCause ∧ (s.putBatchIds v).phase = s.phase ∧
    (s.putBatchIds v).straps = s.straps ∧ (s.putBatchIds v).perst = s.perst ∧ (s.putBatchIds v).vinHigh = s.vinHigh ∧
    (s.putBatchIds v).claimed = s.claimed ∧ (s.putBatchIds v).resetDue = s.resetDue ∧ (s.putBatchIds v).meas = s.meas ∧
    (s.putBatchIds v).hot = s.hot ∧ (s.putBatchIds v).tick = s.tick ∧ (s.putBatchIds v).wrap = s.wrap ∧ (s.putBatchIds
    v).hbOut = s.hbOut ∧ (s.putBatchIds v).cw = s.cw ∧ (s.putBatchIds v).ctx = s.ctx ∧ (s.putBatchIds v).ctxAt = s.ctxAt ∧
    (s.putBatchIds v).engines = s.engines ∧ (s.putBatchIds v).loaf = s.loaf ∧ (s.putBatchIds v).loafNext = s.loafNext ∧
    (s.putBatchIds v).loafDue = s.loafDue ∧ (s.putBatchIds v).batch = s.batch ∧ (s.putBatchIds v).suspended = s.suspended
    ∧ (s.putBatchIds v).batchesDone = s.batchesDone ∧ (s.putBatchIds v).lastRing = s.lastRing ∧ (s.putBatchIds v).rings =
    s.rings ∧ (s.putBatchIds v).scratch = s.scratch ∧ (s.putBatchIds v).hq = s.hq ∧ (s.putBatchIds v).hostRing =
    s.hostRing ∧ (s.putBatchIds v).intPend = s.intPend ∧ (s.putBatchIds v).msixTable = s.msixTable ∧ (s.putBatchIds
    v).msixPba = s.msixPba ∧ (s.putBatchIds v).violated = s.violated ∧ (s.putBatchIds v).chkMax = s.chkMax ∧
    (s.putBatchIds v).captures = s.captures ∧ (s.putBatchIds v).due = s.due ∧ (s.putBatchIds v).lanes = s.lanes ∧
    (s.putBatchIds v).quads = s.quads ∧ (s.putBatchIds v).flex = s.flex ∧ (s.putBatchIds v).recClk = s.recClk ∧
    (s.putBatchIds v).refClk = s.refClk ∧ (s.putBatchIds v).ilk = s.ilk ∧ (s.putBatchIds v).trackers = s.trackers ∧
    (s.putBatchIds v).framers = s.framers ∧ (s.putBatchIds v).mons = s.mons ∧ (s.putBatchIds v).oh = s.oh ∧ (s.putBatchIds
    v).ohT0 = s.ohT0 ∧ (s.putBatchIds v).cells = s.cells ∧ (s.putBatchIds v).cellsT0 = s.cellsT0 ∧ (s.putBatchIds v).binQ
    = s.binQ ∧ (s.putBatchIds v).binD = s.binD ∧ (s.putBatchIds v).binLoad = s.binLoad ∧ (s.putBatchIds v).binRestored =
    s.binRestored ∧ (s.putBatchIds v).pmTime = s.pmTime ∧ (s.putBatchIds v).deck = s.deck ∧ (s.putBatchIds v).sels =
    s.sels ∧ (s.putBatchIds v).decks = s.decks ∧ (s.putBatchIds v).rsz = s.rsz ∧ (s.putBatchIds v).prfRings = s.prfRings ∧
    (s.putBatchIds v).hls = s.hls ∧ (s.putBatchIds v).groups = s.groups ∧ (s.putBatchIds v).substs = s.substs ∧
    (s.putBatchIds v).unverified = s.unverified ∧ (s.putBatchIds v).firstRing = s.firstRing ∧ (s.putBatchIds v).pairs =
    s.pairs ∧ (s.putBatchIds v).audio = s.audio ∧ (s.putBatchIds v).sync = s.sync ∧ (s.putBatchIds v).dpll = s.dpll ∧
    (s.putBatchIds v).doms = s.doms ∧ (s.putBatchIds v).vloops = s.vloops ∧ (s.putBatchIds v).rdn = s.rdn ∧ (s.putBatchIds
    v).bank = s.bank ∧ (s.putBatchIds v).spare = s.spare ∧ (s.putBatchIds v).link = s.link ∧ (s.putBatchIds v).test =
    s.test ∧ (s.putBatchIds v).sec = s.sec ∧ (s.putBatchIds v).nvm = s.nvm ∧ (s.putBatchIds v).sess = s.sess ∧
    (s.putBatchIds v).long = s.long ∧ (s.putBatchIds v).guest = s.guest ∧ (s.putBatchIds v).jtag = s.jtag ∧ (s.putBatchIds
    v).trace = s.trace ∧ (s.putBatchIds v).pinMoves = s.pinMoves ∧ (s.putBatchIds v).words = s.words ∧ (s.putBatchIds
    v).cq = s.cq ∧ (s.putBatchIds v).ports = s.ports := by
  and_intros <;> rfl

@[simp] theorem State.putLastRing_lastRing (s : State) (v : Nat) : (s.putLastRing v).lastRing = v := rfl
@[simp] theorem State.putLastRing_frame (s : State) (v : Nat) :
    (s.putLastRing v).pending = s.pending ∧ (s.putLastRing v).freeUses = s.freeUses ∧ (s.putLastRing v).out = s.out ∧
    (s.putLastRing v).mode = s.mode ∧ (s.putLastRing v).modeCause = s.modeCause ∧ (s.putLastRing v).phase = s.phase ∧
    (s.putLastRing v).straps = s.straps ∧ (s.putLastRing v).perst = s.perst ∧ (s.putLastRing v).vinHigh = s.vinHigh ∧
    (s.putLastRing v).claimed = s.claimed ∧ (s.putLastRing v).resetDue = s.resetDue ∧ (s.putLastRing v).meas = s.meas ∧
    (s.putLastRing v).hot = s.hot ∧ (s.putLastRing v).tick = s.tick ∧ (s.putLastRing v).wrap = s.wrap ∧ (s.putLastRing
    v).hbOut = s.hbOut ∧ (s.putLastRing v).cw = s.cw ∧ (s.putLastRing v).ctx = s.ctx ∧ (s.putLastRing v).ctxAt = s.ctxAt ∧
    (s.putLastRing v).engines = s.engines ∧ (s.putLastRing v).loaf = s.loaf ∧ (s.putLastRing v).loafNext = s.loafNext ∧
    (s.putLastRing v).loafDue = s.loafDue ∧ (s.putLastRing v).batch = s.batch ∧ (s.putLastRing v).suspended = s.suspended
    ∧ (s.putLastRing v).batchesDone = s.batchesDone ∧ (s.putLastRing v).batchIds = s.batchIds ∧ (s.putLastRing v).rings =
    s.rings ∧ (s.putLastRing v).scratch = s.scratch ∧ (s.putLastRing v).hq = s.hq ∧ (s.putLastRing v).hostRing =
    s.hostRing ∧ (s.putLastRing v).intPend = s.intPend ∧ (s.putLastRing v).msixTable = s.msixTable ∧ (s.putLastRing
    v).msixPba = s.msixPba ∧ (s.putLastRing v).violated = s.violated ∧ (s.putLastRing v).chkMax = s.chkMax ∧
    (s.putLastRing v).captures = s.captures ∧ (s.putLastRing v).due = s.due ∧ (s.putLastRing v).lanes = s.lanes ∧
    (s.putLastRing v).quads = s.quads ∧ (s.putLastRing v).flex = s.flex ∧ (s.putLastRing v).recClk = s.recClk ∧
    (s.putLastRing v).refClk = s.refClk ∧ (s.putLastRing v).ilk = s.ilk ∧ (s.putLastRing v).trackers = s.trackers ∧
    (s.putLastRing v).framers = s.framers ∧ (s.putLastRing v).mons = s.mons ∧ (s.putLastRing v).oh = s.oh ∧ (s.putLastRing
    v).ohT0 = s.ohT0 ∧ (s.putLastRing v).cells = s.cells ∧ (s.putLastRing v).cellsT0 = s.cellsT0 ∧ (s.putLastRing v).binQ
    = s.binQ ∧ (s.putLastRing v).binD = s.binD ∧ (s.putLastRing v).binLoad = s.binLoad ∧ (s.putLastRing v).binRestored =
    s.binRestored ∧ (s.putLastRing v).pmTime = s.pmTime ∧ (s.putLastRing v).deck = s.deck ∧ (s.putLastRing v).sels =
    s.sels ∧ (s.putLastRing v).decks = s.decks ∧ (s.putLastRing v).rsz = s.rsz ∧ (s.putLastRing v).prfRings = s.prfRings ∧
    (s.putLastRing v).hls = s.hls ∧ (s.putLastRing v).groups = s.groups ∧ (s.putLastRing v).substs = s.substs ∧
    (s.putLastRing v).unverified = s.unverified ∧ (s.putLastRing v).firstRing = s.firstRing ∧ (s.putLastRing v).pairs =
    s.pairs ∧ (s.putLastRing v).audio = s.audio ∧ (s.putLastRing v).sync = s.sync ∧ (s.putLastRing v).dpll = s.dpll ∧
    (s.putLastRing v).doms = s.doms ∧ (s.putLastRing v).vloops = s.vloops ∧ (s.putLastRing v).rdn = s.rdn ∧ (s.putLastRing
    v).bank = s.bank ∧ (s.putLastRing v).spare = s.spare ∧ (s.putLastRing v).link = s.link ∧ (s.putLastRing v).test =
    s.test ∧ (s.putLastRing v).sec = s.sec ∧ (s.putLastRing v).nvm = s.nvm ∧ (s.putLastRing v).sess = s.sess ∧
    (s.putLastRing v).long = s.long ∧ (s.putLastRing v).guest = s.guest ∧ (s.putLastRing v).jtag = s.jtag ∧ (s.putLastRing
    v).trace = s.trace ∧ (s.putLastRing v).pinMoves = s.pinMoves ∧ (s.putLastRing v).words = s.words ∧ (s.putLastRing
    v).cq = s.cq ∧ (s.putLastRing v).ports = s.ports := by
  and_intros <;> rfl

@[simp] theorem State.putRings_rings (s : State) (v : Tab CmdRing) : (s.putRings v).rings = v := rfl
@[simp] theorem State.putRings_frame (s : State) (v : Tab CmdRing) :
    (s.putRings v).pending = s.pending ∧ (s.putRings v).freeUses = s.freeUses ∧ (s.putRings v).out = s.out ∧ (s.putRings
    v).mode = s.mode ∧ (s.putRings v).modeCause = s.modeCause ∧ (s.putRings v).phase = s.phase ∧ (s.putRings v).straps =
    s.straps ∧ (s.putRings v).perst = s.perst ∧ (s.putRings v).vinHigh = s.vinHigh ∧ (s.putRings v).claimed = s.claimed ∧
    (s.putRings v).resetDue = s.resetDue ∧ (s.putRings v).meas = s.meas ∧ (s.putRings v).hot = s.hot ∧ (s.putRings v).tick
    = s.tick ∧ (s.putRings v).wrap = s.wrap ∧ (s.putRings v).hbOut = s.hbOut ∧ (s.putRings v).cw = s.cw ∧ (s.putRings
    v).ctx = s.ctx ∧ (s.putRings v).ctxAt = s.ctxAt ∧ (s.putRings v).engines = s.engines ∧ (s.putRings v).loaf = s.loaf ∧
    (s.putRings v).loafNext = s.loafNext ∧ (s.putRings v).loafDue = s.loafDue ∧ (s.putRings v).batch = s.batch ∧
    (s.putRings v).suspended = s.suspended ∧ (s.putRings v).batchesDone = s.batchesDone ∧ (s.putRings v).batchIds =
    s.batchIds ∧ (s.putRings v).lastRing = s.lastRing ∧ (s.putRings v).scratch = s.scratch ∧ (s.putRings v).hq = s.hq ∧
    (s.putRings v).hostRing = s.hostRing ∧ (s.putRings v).intPend = s.intPend ∧ (s.putRings v).msixTable = s.msixTable ∧
    (s.putRings v).msixPba = s.msixPba ∧ (s.putRings v).violated = s.violated ∧ (s.putRings v).chkMax = s.chkMax ∧
    (s.putRings v).captures = s.captures ∧ (s.putRings v).due = s.due ∧ (s.putRings v).lanes = s.lanes ∧ (s.putRings
    v).quads = s.quads ∧ (s.putRings v).flex = s.flex ∧ (s.putRings v).recClk = s.recClk ∧ (s.putRings v).refClk =
    s.refClk ∧ (s.putRings v).ilk = s.ilk ∧ (s.putRings v).trackers = s.trackers ∧ (s.putRings v).framers = s.framers ∧
    (s.putRings v).mons = s.mons ∧ (s.putRings v).oh = s.oh ∧ (s.putRings v).ohT0 = s.ohT0 ∧ (s.putRings v).cells =
    s.cells ∧ (s.putRings v).cellsT0 = s.cellsT0 ∧ (s.putRings v).binQ = s.binQ ∧ (s.putRings v).binD = s.binD ∧
    (s.putRings v).binLoad = s.binLoad ∧ (s.putRings v).binRestored = s.binRestored ∧ (s.putRings v).pmTime = s.pmTime ∧
    (s.putRings v).deck = s.deck ∧ (s.putRings v).sels = s.sels ∧ (s.putRings v).decks = s.decks ∧ (s.putRings v).rsz =
    s.rsz ∧ (s.putRings v).prfRings = s.prfRings ∧ (s.putRings v).hls = s.hls ∧ (s.putRings v).groups = s.groups ∧
    (s.putRings v).substs = s.substs ∧ (s.putRings v).unverified = s.unverified ∧ (s.putRings v).firstRing = s.firstRing ∧
    (s.putRings v).pairs = s.pairs ∧ (s.putRings v).audio = s.audio ∧ (s.putRings v).sync = s.sync ∧ (s.putRings v).dpll =
    s.dpll ∧ (s.putRings v).doms = s.doms ∧ (s.putRings v).vloops = s.vloops ∧ (s.putRings v).rdn = s.rdn ∧ (s.putRings
    v).bank = s.bank ∧ (s.putRings v).spare = s.spare ∧ (s.putRings v).link = s.link ∧ (s.putRings v).test = s.test ∧
    (s.putRings v).sec = s.sec ∧ (s.putRings v).nvm = s.nvm ∧ (s.putRings v).sess = s.sess ∧ (s.putRings v).long = s.long
    ∧ (s.putRings v).guest = s.guest ∧ (s.putRings v).jtag = s.jtag ∧ (s.putRings v).trace = s.trace ∧ (s.putRings
    v).pinMoves = s.pinMoves ∧ (s.putRings v).words = s.words ∧ (s.putRings v).cq = s.cq ∧ (s.putRings v).ports = s.ports := by
  and_intros <;> rfl

@[simp] theorem State.putScratch_scratch (s : State) (v : Tab (BitVec 288)) : (s.putScratch v).scratch = v := rfl
@[simp] theorem State.putScratch_frame (s : State) (v : Tab (BitVec 288)) :
    (s.putScratch v).pending = s.pending ∧ (s.putScratch v).freeUses = s.freeUses ∧ (s.putScratch v).out = s.out ∧
    (s.putScratch v).mode = s.mode ∧ (s.putScratch v).modeCause = s.modeCause ∧ (s.putScratch v).phase = s.phase ∧
    (s.putScratch v).straps = s.straps ∧ (s.putScratch v).perst = s.perst ∧ (s.putScratch v).vinHigh = s.vinHigh ∧
    (s.putScratch v).claimed = s.claimed ∧ (s.putScratch v).resetDue = s.resetDue ∧ (s.putScratch v).meas = s.meas ∧
    (s.putScratch v).hot = s.hot ∧ (s.putScratch v).tick = s.tick ∧ (s.putScratch v).wrap = s.wrap ∧ (s.putScratch
    v).hbOut = s.hbOut ∧ (s.putScratch v).cw = s.cw ∧ (s.putScratch v).ctx = s.ctx ∧ (s.putScratch v).ctxAt = s.ctxAt ∧
    (s.putScratch v).engines = s.engines ∧ (s.putScratch v).loaf = s.loaf ∧ (s.putScratch v).loafNext = s.loafNext ∧
    (s.putScratch v).loafDue = s.loafDue ∧ (s.putScratch v).batch = s.batch ∧ (s.putScratch v).suspended = s.suspended ∧
    (s.putScratch v).batchesDone = s.batchesDone ∧ (s.putScratch v).batchIds = s.batchIds ∧ (s.putScratch v).lastRing =
    s.lastRing ∧ (s.putScratch v).rings = s.rings ∧ (s.putScratch v).hq = s.hq ∧ (s.putScratch v).hostRing = s.hostRing ∧
    (s.putScratch v).intPend = s.intPend ∧ (s.putScratch v).msixTable = s.msixTable ∧ (s.putScratch v).msixPba = s.msixPba
    ∧ (s.putScratch v).violated = s.violated ∧ (s.putScratch v).chkMax = s.chkMax ∧ (s.putScratch v).captures = s.captures
    ∧ (s.putScratch v).due = s.due ∧ (s.putScratch v).lanes = s.lanes ∧ (s.putScratch v).quads = s.quads ∧ (s.putScratch
    v).flex = s.flex ∧ (s.putScratch v).recClk = s.recClk ∧ (s.putScratch v).refClk = s.refClk ∧ (s.putScratch v).ilk =
    s.ilk ∧ (s.putScratch v).trackers = s.trackers ∧ (s.putScratch v).framers = s.framers ∧ (s.putScratch v).mons = s.mons
    ∧ (s.putScratch v).oh = s.oh ∧ (s.putScratch v).ohT0 = s.ohT0 ∧ (s.putScratch v).cells = s.cells ∧ (s.putScratch
    v).cellsT0 = s.cellsT0 ∧ (s.putScratch v).binQ = s.binQ ∧ (s.putScratch v).binD = s.binD ∧ (s.putScratch v).binLoad =
    s.binLoad ∧ (s.putScratch v).binRestored = s.binRestored ∧ (s.putScratch v).pmTime = s.pmTime ∧ (s.putScratch v).deck
    = s.deck ∧ (s.putScratch v).sels = s.sels ∧ (s.putScratch v).decks = s.decks ∧ (s.putScratch v).rsz = s.rsz ∧
    (s.putScratch v).prfRings = s.prfRings ∧ (s.putScratch v).hls = s.hls ∧ (s.putScratch v).groups = s.groups ∧
    (s.putScratch v).substs = s.substs ∧ (s.putScratch v).unverified = s.unverified ∧ (s.putScratch v).firstRing =
    s.firstRing ∧ (s.putScratch v).pairs = s.pairs ∧ (s.putScratch v).audio = s.audio ∧ (s.putScratch v).sync = s.sync ∧
    (s.putScratch v).dpll = s.dpll ∧ (s.putScratch v).doms = s.doms ∧ (s.putScratch v).vloops = s.vloops ∧ (s.putScratch
    v).rdn = s.rdn ∧ (s.putScratch v).bank = s.bank ∧ (s.putScratch v).spare = s.spare ∧ (s.putScratch v).link = s.link ∧
    (s.putScratch v).test = s.test ∧ (s.putScratch v).sec = s.sec ∧ (s.putScratch v).nvm = s.nvm ∧ (s.putScratch v).sess =
    s.sess ∧ (s.putScratch v).long = s.long ∧ (s.putScratch v).guest = s.guest ∧ (s.putScratch v).jtag = s.jtag ∧
    (s.putScratch v).trace = s.trace ∧ (s.putScratch v).pinMoves = s.pinMoves ∧ (s.putScratch v).words = s.words ∧
    (s.putScratch v).cq = s.cq ∧ (s.putScratch v).ports = s.ports := by
  and_intros <;> rfl

@[simp] theorem State.putHq_hq (s : State) (v : Tab HostQueue) : (s.putHq v).hq = v := rfl
@[simp] theorem State.putHq_frame (s : State) (v : Tab HostQueue) :
    (s.putHq v).pending = s.pending ∧ (s.putHq v).freeUses = s.freeUses ∧ (s.putHq v).out = s.out ∧ (s.putHq v).mode =
    s.mode ∧ (s.putHq v).modeCause = s.modeCause ∧ (s.putHq v).phase = s.phase ∧ (s.putHq v).straps = s.straps ∧ (s.putHq
    v).perst = s.perst ∧ (s.putHq v).vinHigh = s.vinHigh ∧ (s.putHq v).claimed = s.claimed ∧ (s.putHq v).resetDue =
    s.resetDue ∧ (s.putHq v).meas = s.meas ∧ (s.putHq v).hot = s.hot ∧ (s.putHq v).tick = s.tick ∧ (s.putHq v).wrap =
    s.wrap ∧ (s.putHq v).hbOut = s.hbOut ∧ (s.putHq v).cw = s.cw ∧ (s.putHq v).ctx = s.ctx ∧ (s.putHq v).ctxAt = s.ctxAt ∧
    (s.putHq v).engines = s.engines ∧ (s.putHq v).loaf = s.loaf ∧ (s.putHq v).loafNext = s.loafNext ∧ (s.putHq v).loafDue
    = s.loafDue ∧ (s.putHq v).batch = s.batch ∧ (s.putHq v).suspended = s.suspended ∧ (s.putHq v).batchesDone =
    s.batchesDone ∧ (s.putHq v).batchIds = s.batchIds ∧ (s.putHq v).lastRing = s.lastRing ∧ (s.putHq v).rings = s.rings ∧
    (s.putHq v).scratch = s.scratch ∧ (s.putHq v).hostRing = s.hostRing ∧ (s.putHq v).intPend = s.intPend ∧ (s.putHq
    v).msixTable = s.msixTable ∧ (s.putHq v).msixPba = s.msixPba ∧ (s.putHq v).violated = s.violated ∧ (s.putHq v).chkMax
    = s.chkMax ∧ (s.putHq v).captures = s.captures ∧ (s.putHq v).due = s.due ∧ (s.putHq v).lanes = s.lanes ∧ (s.putHq
    v).quads = s.quads ∧ (s.putHq v).flex = s.flex ∧ (s.putHq v).recClk = s.recClk ∧ (s.putHq v).refClk = s.refClk ∧
    (s.putHq v).ilk = s.ilk ∧ (s.putHq v).trackers = s.trackers ∧ (s.putHq v).framers = s.framers ∧ (s.putHq v).mons =
    s.mons ∧ (s.putHq v).oh = s.oh ∧ (s.putHq v).ohT0 = s.ohT0 ∧ (s.putHq v).cells = s.cells ∧ (s.putHq v).cellsT0 =
    s.cellsT0 ∧ (s.putHq v).binQ = s.binQ ∧ (s.putHq v).binD = s.binD ∧ (s.putHq v).binLoad = s.binLoad ∧ (s.putHq
    v).binRestored = s.binRestored ∧ (s.putHq v).pmTime = s.pmTime ∧ (s.putHq v).deck = s.deck ∧ (s.putHq v).sels = s.sels
    ∧ (s.putHq v).decks = s.decks ∧ (s.putHq v).rsz = s.rsz ∧ (s.putHq v).prfRings = s.prfRings ∧ (s.putHq v).hls = s.hls
    ∧ (s.putHq v).groups = s.groups ∧ (s.putHq v).substs = s.substs ∧ (s.putHq v).unverified = s.unverified ∧ (s.putHq
    v).firstRing = s.firstRing ∧ (s.putHq v).pairs = s.pairs ∧ (s.putHq v).audio = s.audio ∧ (s.putHq v).sync = s.sync ∧
    (s.putHq v).dpll = s.dpll ∧ (s.putHq v).doms = s.doms ∧ (s.putHq v).vloops = s.vloops ∧ (s.putHq v).rdn = s.rdn ∧
    (s.putHq v).bank = s.bank ∧ (s.putHq v).spare = s.spare ∧ (s.putHq v).link = s.link ∧ (s.putHq v).test = s.test ∧
    (s.putHq v).sec = s.sec ∧ (s.putHq v).nvm = s.nvm ∧ (s.putHq v).sess = s.sess ∧ (s.putHq v).long = s.long ∧ (s.putHq
    v).guest = s.guest ∧ (s.putHq v).jtag = s.jtag ∧ (s.putHq v).trace = s.trace ∧ (s.putHq v).pinMoves = s.pinMoves ∧
    (s.putHq v).words = s.words ∧ (s.putHq v).cq = s.cq ∧ (s.putHq v).ports = s.ports := by
  and_intros <;> rfl

@[simp] theorem State.putHostRing_hostRing (s : State) (v : Tab HostRing) : (s.putHostRing v).hostRing = v := rfl
@[simp] theorem State.putHostRing_frame (s : State) (v : Tab HostRing) :
    (s.putHostRing v).pending = s.pending ∧ (s.putHostRing v).freeUses = s.freeUses ∧ (s.putHostRing v).out = s.out ∧
    (s.putHostRing v).mode = s.mode ∧ (s.putHostRing v).modeCause = s.modeCause ∧ (s.putHostRing v).phase = s.phase ∧
    (s.putHostRing v).straps = s.straps ∧ (s.putHostRing v).perst = s.perst ∧ (s.putHostRing v).vinHigh = s.vinHigh ∧
    (s.putHostRing v).claimed = s.claimed ∧ (s.putHostRing v).resetDue = s.resetDue ∧ (s.putHostRing v).meas = s.meas ∧
    (s.putHostRing v).hot = s.hot ∧ (s.putHostRing v).tick = s.tick ∧ (s.putHostRing v).wrap = s.wrap ∧ (s.putHostRing
    v).hbOut = s.hbOut ∧ (s.putHostRing v).cw = s.cw ∧ (s.putHostRing v).ctx = s.ctx ∧ (s.putHostRing v).ctxAt = s.ctxAt ∧
    (s.putHostRing v).engines = s.engines ∧ (s.putHostRing v).loaf = s.loaf ∧ (s.putHostRing v).loafNext = s.loafNext ∧
    (s.putHostRing v).loafDue = s.loafDue ∧ (s.putHostRing v).batch = s.batch ∧ (s.putHostRing v).suspended = s.suspended
    ∧ (s.putHostRing v).batchesDone = s.batchesDone ∧ (s.putHostRing v).batchIds = s.batchIds ∧ (s.putHostRing v).lastRing
    = s.lastRing ∧ (s.putHostRing v).rings = s.rings ∧ (s.putHostRing v).scratch = s.scratch ∧ (s.putHostRing v).hq = s.hq
    ∧ (s.putHostRing v).intPend = s.intPend ∧ (s.putHostRing v).msixTable = s.msixTable ∧ (s.putHostRing v).msixPba =
    s.msixPba ∧ (s.putHostRing v).violated = s.violated ∧ (s.putHostRing v).chkMax = s.chkMax ∧ (s.putHostRing v).captures
    = s.captures ∧ (s.putHostRing v).due = s.due ∧ (s.putHostRing v).lanes = s.lanes ∧ (s.putHostRing v).quads = s.quads ∧
    (s.putHostRing v).flex = s.flex ∧ (s.putHostRing v).recClk = s.recClk ∧ (s.putHostRing v).refClk = s.refClk ∧
    (s.putHostRing v).ilk = s.ilk ∧ (s.putHostRing v).trackers = s.trackers ∧ (s.putHostRing v).framers = s.framers ∧
    (s.putHostRing v).mons = s.mons ∧ (s.putHostRing v).oh = s.oh ∧ (s.putHostRing v).ohT0 = s.ohT0 ∧ (s.putHostRing
    v).cells = s.cells ∧ (s.putHostRing v).cellsT0 = s.cellsT0 ∧ (s.putHostRing v).binQ = s.binQ ∧ (s.putHostRing v).binD
    = s.binD ∧ (s.putHostRing v).binLoad = s.binLoad ∧ (s.putHostRing v).binRestored = s.binRestored ∧ (s.putHostRing
    v).pmTime = s.pmTime ∧ (s.putHostRing v).deck = s.deck ∧ (s.putHostRing v).sels = s.sels ∧ (s.putHostRing v).decks =
    s.decks ∧ (s.putHostRing v).rsz = s.rsz ∧ (s.putHostRing v).prfRings = s.prfRings ∧ (s.putHostRing v).hls = s.hls ∧
    (s.putHostRing v).groups = s.groups ∧ (s.putHostRing v).substs = s.substs ∧ (s.putHostRing v).unverified =
    s.unverified ∧ (s.putHostRing v).firstRing = s.firstRing ∧ (s.putHostRing v).pairs = s.pairs ∧ (s.putHostRing v).audio
    = s.audio ∧ (s.putHostRing v).sync = s.sync ∧ (s.putHostRing v).dpll = s.dpll ∧ (s.putHostRing v).doms = s.doms ∧
    (s.putHostRing v).vloops = s.vloops ∧ (s.putHostRing v).rdn = s.rdn ∧ (s.putHostRing v).bank = s.bank ∧ (s.putHostRing
    v).spare = s.spare ∧ (s.putHostRing v).link = s.link ∧ (s.putHostRing v).test = s.test ∧ (s.putHostRing v).sec = s.sec
    ∧ (s.putHostRing v).nvm = s.nvm ∧ (s.putHostRing v).sess = s.sess ∧ (s.putHostRing v).long = s.long ∧ (s.putHostRing
    v).guest = s.guest ∧ (s.putHostRing v).jtag = s.jtag ∧ (s.putHostRing v).trace = s.trace ∧ (s.putHostRing v).pinMoves
    = s.pinMoves ∧ (s.putHostRing v).words = s.words ∧ (s.putHostRing v).cq = s.cq ∧ (s.putHostRing v).ports = s.ports := by
  and_intros <;> rfl

@[simp] theorem State.putIntPend_intPend (s : State) (v : Nat) : (s.putIntPend v).intPend = v := rfl
@[simp] theorem State.putIntPend_frame (s : State) (v : Nat) :
    (s.putIntPend v).pending = s.pending ∧ (s.putIntPend v).freeUses = s.freeUses ∧ (s.putIntPend v).out = s.out ∧
    (s.putIntPend v).mode = s.mode ∧ (s.putIntPend v).modeCause = s.modeCause ∧ (s.putIntPend v).phase = s.phase ∧
    (s.putIntPend v).straps = s.straps ∧ (s.putIntPend v).perst = s.perst ∧ (s.putIntPend v).vinHigh = s.vinHigh ∧
    (s.putIntPend v).claimed = s.claimed ∧ (s.putIntPend v).resetDue = s.resetDue ∧ (s.putIntPend v).meas = s.meas ∧
    (s.putIntPend v).hot = s.hot ∧ (s.putIntPend v).tick = s.tick ∧ (s.putIntPend v).wrap = s.wrap ∧ (s.putIntPend
    v).hbOut = s.hbOut ∧ (s.putIntPend v).cw = s.cw ∧ (s.putIntPend v).ctx = s.ctx ∧ (s.putIntPend v).ctxAt = s.ctxAt ∧
    (s.putIntPend v).engines = s.engines ∧ (s.putIntPend v).loaf = s.loaf ∧ (s.putIntPend v).loafNext = s.loafNext ∧
    (s.putIntPend v).loafDue = s.loafDue ∧ (s.putIntPend v).batch = s.batch ∧ (s.putIntPend v).suspended = s.suspended ∧
    (s.putIntPend v).batchesDone = s.batchesDone ∧ (s.putIntPend v).batchIds = s.batchIds ∧ (s.putIntPend v).lastRing =
    s.lastRing ∧ (s.putIntPend v).rings = s.rings ∧ (s.putIntPend v).scratch = s.scratch ∧ (s.putIntPend v).hq = s.hq ∧
    (s.putIntPend v).hostRing = s.hostRing ∧ (s.putIntPend v).msixTable = s.msixTable ∧ (s.putIntPend v).msixPba =
    s.msixPba ∧ (s.putIntPend v).violated = s.violated ∧ (s.putIntPend v).chkMax = s.chkMax ∧ (s.putIntPend v).captures =
    s.captures ∧ (s.putIntPend v).due = s.due ∧ (s.putIntPend v).lanes = s.lanes ∧ (s.putIntPend v).quads = s.quads ∧
    (s.putIntPend v).flex = s.flex ∧ (s.putIntPend v).recClk = s.recClk ∧ (s.putIntPend v).refClk = s.refClk ∧
    (s.putIntPend v).ilk = s.ilk ∧ (s.putIntPend v).trackers = s.trackers ∧ (s.putIntPend v).framers = s.framers ∧
    (s.putIntPend v).mons = s.mons ∧ (s.putIntPend v).oh = s.oh ∧ (s.putIntPend v).ohT0 = s.ohT0 ∧ (s.putIntPend v).cells
    = s.cells ∧ (s.putIntPend v).cellsT0 = s.cellsT0 ∧ (s.putIntPend v).binQ = s.binQ ∧ (s.putIntPend v).binD = s.binD ∧
    (s.putIntPend v).binLoad = s.binLoad ∧ (s.putIntPend v).binRestored = s.binRestored ∧ (s.putIntPend v).pmTime =
    s.pmTime ∧ (s.putIntPend v).deck = s.deck ∧ (s.putIntPend v).sels = s.sels ∧ (s.putIntPend v).decks = s.decks ∧
    (s.putIntPend v).rsz = s.rsz ∧ (s.putIntPend v).prfRings = s.prfRings ∧ (s.putIntPend v).hls = s.hls ∧ (s.putIntPend
    v).groups = s.groups ∧ (s.putIntPend v).substs = s.substs ∧ (s.putIntPend v).unverified = s.unverified ∧ (s.putIntPend
    v).firstRing = s.firstRing ∧ (s.putIntPend v).pairs = s.pairs ∧ (s.putIntPend v).audio = s.audio ∧ (s.putIntPend
    v).sync = s.sync ∧ (s.putIntPend v).dpll = s.dpll ∧ (s.putIntPend v).doms = s.doms ∧ (s.putIntPend v).vloops =
    s.vloops ∧ (s.putIntPend v).rdn = s.rdn ∧ (s.putIntPend v).bank = s.bank ∧ (s.putIntPend v).spare = s.spare ∧
    (s.putIntPend v).link = s.link ∧ (s.putIntPend v).test = s.test ∧ (s.putIntPend v).sec = s.sec ∧ (s.putIntPend v).nvm
    = s.nvm ∧ (s.putIntPend v).sess = s.sess ∧ (s.putIntPend v).long = s.long ∧ (s.putIntPend v).guest = s.guest ∧
    (s.putIntPend v).jtag = s.jtag ∧ (s.putIntPend v).trace = s.trace ∧ (s.putIntPend v).pinMoves = s.pinMoves ∧
    (s.putIntPend v).words = s.words ∧ (s.putIntPend v).cq = s.cq ∧ (s.putIntPend v).ports = s.ports := by
  and_intros <;> rfl

@[simp] theorem State.putMsixPba_msixPba (s : State) (v : Nat) : (s.putMsixPba v).msixPba = v := rfl
@[simp] theorem State.putMsixPba_frame (s : State) (v : Nat) :
    (s.putMsixPba v).pending = s.pending ∧ (s.putMsixPba v).freeUses = s.freeUses ∧ (s.putMsixPba v).out = s.out ∧
    (s.putMsixPba v).mode = s.mode ∧ (s.putMsixPba v).modeCause = s.modeCause ∧ (s.putMsixPba v).phase = s.phase ∧
    (s.putMsixPba v).straps = s.straps ∧ (s.putMsixPba v).perst = s.perst ∧ (s.putMsixPba v).vinHigh = s.vinHigh ∧
    (s.putMsixPba v).claimed = s.claimed ∧ (s.putMsixPba v).resetDue = s.resetDue ∧ (s.putMsixPba v).meas = s.meas ∧
    (s.putMsixPba v).hot = s.hot ∧ (s.putMsixPba v).tick = s.tick ∧ (s.putMsixPba v).wrap = s.wrap ∧ (s.putMsixPba
    v).hbOut = s.hbOut ∧ (s.putMsixPba v).cw = s.cw ∧ (s.putMsixPba v).ctx = s.ctx ∧ (s.putMsixPba v).ctxAt = s.ctxAt ∧
    (s.putMsixPba v).engines = s.engines ∧ (s.putMsixPba v).loaf = s.loaf ∧ (s.putMsixPba v).loafNext = s.loafNext ∧
    (s.putMsixPba v).loafDue = s.loafDue ∧ (s.putMsixPba v).batch = s.batch ∧ (s.putMsixPba v).suspended = s.suspended ∧
    (s.putMsixPba v).batchesDone = s.batchesDone ∧ (s.putMsixPba v).batchIds = s.batchIds ∧ (s.putMsixPba v).lastRing =
    s.lastRing ∧ (s.putMsixPba v).rings = s.rings ∧ (s.putMsixPba v).scratch = s.scratch ∧ (s.putMsixPba v).hq = s.hq ∧
    (s.putMsixPba v).hostRing = s.hostRing ∧ (s.putMsixPba v).intPend = s.intPend ∧ (s.putMsixPba v).msixTable =
    s.msixTable ∧ (s.putMsixPba v).violated = s.violated ∧ (s.putMsixPba v).chkMax = s.chkMax ∧ (s.putMsixPba v).captures
    = s.captures ∧ (s.putMsixPba v).due = s.due ∧ (s.putMsixPba v).lanes = s.lanes ∧ (s.putMsixPba v).quads = s.quads ∧
    (s.putMsixPba v).flex = s.flex ∧ (s.putMsixPba v).recClk = s.recClk ∧ (s.putMsixPba v).refClk = s.refClk ∧
    (s.putMsixPba v).ilk = s.ilk ∧ (s.putMsixPba v).trackers = s.trackers ∧ (s.putMsixPba v).framers = s.framers ∧
    (s.putMsixPba v).mons = s.mons ∧ (s.putMsixPba v).oh = s.oh ∧ (s.putMsixPba v).ohT0 = s.ohT0 ∧ (s.putMsixPba v).cells
    = s.cells ∧ (s.putMsixPba v).cellsT0 = s.cellsT0 ∧ (s.putMsixPba v).binQ = s.binQ ∧ (s.putMsixPba v).binD = s.binD ∧
    (s.putMsixPba v).binLoad = s.binLoad ∧ (s.putMsixPba v).binRestored = s.binRestored ∧ (s.putMsixPba v).pmTime =
    s.pmTime ∧ (s.putMsixPba v).deck = s.deck ∧ (s.putMsixPba v).sels = s.sels ∧ (s.putMsixPba v).decks = s.decks ∧
    (s.putMsixPba v).rsz = s.rsz ∧ (s.putMsixPba v).prfRings = s.prfRings ∧ (s.putMsixPba v).hls = s.hls ∧ (s.putMsixPba
    v).groups = s.groups ∧ (s.putMsixPba v).substs = s.substs ∧ (s.putMsixPba v).unverified = s.unverified ∧ (s.putMsixPba
    v).firstRing = s.firstRing ∧ (s.putMsixPba v).pairs = s.pairs ∧ (s.putMsixPba v).audio = s.audio ∧ (s.putMsixPba
    v).sync = s.sync ∧ (s.putMsixPba v).dpll = s.dpll ∧ (s.putMsixPba v).doms = s.doms ∧ (s.putMsixPba v).vloops =
    s.vloops ∧ (s.putMsixPba v).rdn = s.rdn ∧ (s.putMsixPba v).bank = s.bank ∧ (s.putMsixPba v).spare = s.spare ∧
    (s.putMsixPba v).link = s.link ∧ (s.putMsixPba v).test = s.test ∧ (s.putMsixPba v).sec = s.sec ∧ (s.putMsixPba v).nvm
    = s.nvm ∧ (s.putMsixPba v).sess = s.sess ∧ (s.putMsixPba v).long = s.long ∧ (s.putMsixPba v).guest = s.guest ∧
    (s.putMsixPba v).jtag = s.jtag ∧ (s.putMsixPba v).trace = s.trace ∧ (s.putMsixPba v).pinMoves = s.pinMoves ∧
    (s.putMsixPba v).words = s.words ∧ (s.putMsixPba v).cq = s.cq ∧ (s.putMsixPba v).ports = s.ports := by
  and_intros <;> rfl

@[simp] theorem State.putViolated_violated (s : State) (v : List Nat) : (s.putViolated v).violated = v := rfl
@[simp] theorem State.putViolated_frame (s : State) (v : List Nat) :
    (s.putViolated v).pending = s.pending ∧ (s.putViolated v).freeUses = s.freeUses ∧ (s.putViolated v).out = s.out ∧
    (s.putViolated v).mode = s.mode ∧ (s.putViolated v).modeCause = s.modeCause ∧ (s.putViolated v).phase = s.phase ∧
    (s.putViolated v).straps = s.straps ∧ (s.putViolated v).perst = s.perst ∧ (s.putViolated v).vinHigh = s.vinHigh ∧
    (s.putViolated v).claimed = s.claimed ∧ (s.putViolated v).resetDue = s.resetDue ∧ (s.putViolated v).meas = s.meas ∧
    (s.putViolated v).hot = s.hot ∧ (s.putViolated v).tick = s.tick ∧ (s.putViolated v).wrap = s.wrap ∧ (s.putViolated
    v).hbOut = s.hbOut ∧ (s.putViolated v).cw = s.cw ∧ (s.putViolated v).ctx = s.ctx ∧ (s.putViolated v).ctxAt = s.ctxAt ∧
    (s.putViolated v).engines = s.engines ∧ (s.putViolated v).loaf = s.loaf ∧ (s.putViolated v).loafNext = s.loafNext ∧
    (s.putViolated v).loafDue = s.loafDue ∧ (s.putViolated v).batch = s.batch ∧ (s.putViolated v).suspended = s.suspended
    ∧ (s.putViolated v).batchesDone = s.batchesDone ∧ (s.putViolated v).batchIds = s.batchIds ∧ (s.putViolated v).lastRing
    = s.lastRing ∧ (s.putViolated v).rings = s.rings ∧ (s.putViolated v).scratch = s.scratch ∧ (s.putViolated v).hq = s.hq
    ∧ (s.putViolated v).hostRing = s.hostRing ∧ (s.putViolated v).intPend = s.intPend ∧ (s.putViolated v).msixTable =
    s.msixTable ∧ (s.putViolated v).msixPba = s.msixPba ∧ (s.putViolated v).chkMax = s.chkMax ∧ (s.putViolated v).captures
    = s.captures ∧ (s.putViolated v).due = s.due ∧ (s.putViolated v).lanes = s.lanes ∧ (s.putViolated v).quads = s.quads ∧
    (s.putViolated v).flex = s.flex ∧ (s.putViolated v).recClk = s.recClk ∧ (s.putViolated v).refClk = s.refClk ∧
    (s.putViolated v).ilk = s.ilk ∧ (s.putViolated v).trackers = s.trackers ∧ (s.putViolated v).framers = s.framers ∧
    (s.putViolated v).mons = s.mons ∧ (s.putViolated v).oh = s.oh ∧ (s.putViolated v).ohT0 = s.ohT0 ∧ (s.putViolated
    v).cells = s.cells ∧ (s.putViolated v).cellsT0 = s.cellsT0 ∧ (s.putViolated v).binQ = s.binQ ∧ (s.putViolated v).binD
    = s.binD ∧ (s.putViolated v).binLoad = s.binLoad ∧ (s.putViolated v).binRestored = s.binRestored ∧ (s.putViolated
    v).pmTime = s.pmTime ∧ (s.putViolated v).deck = s.deck ∧ (s.putViolated v).sels = s.sels ∧ (s.putViolated v).decks =
    s.decks ∧ (s.putViolated v).rsz = s.rsz ∧ (s.putViolated v).prfRings = s.prfRings ∧ (s.putViolated v).hls = s.hls ∧
    (s.putViolated v).groups = s.groups ∧ (s.putViolated v).substs = s.substs ∧ (s.putViolated v).unverified =
    s.unverified ∧ (s.putViolated v).firstRing = s.firstRing ∧ (s.putViolated v).pairs = s.pairs ∧ (s.putViolated v).audio
    = s.audio ∧ (s.putViolated v).sync = s.sync ∧ (s.putViolated v).dpll = s.dpll ∧ (s.putViolated v).doms = s.doms ∧
    (s.putViolated v).vloops = s.vloops ∧ (s.putViolated v).rdn = s.rdn ∧ (s.putViolated v).bank = s.bank ∧ (s.putViolated
    v).spare = s.spare ∧ (s.putViolated v).link = s.link ∧ (s.putViolated v).test = s.test ∧ (s.putViolated v).sec = s.sec
    ∧ (s.putViolated v).nvm = s.nvm ∧ (s.putViolated v).sess = s.sess ∧ (s.putViolated v).long = s.long ∧ (s.putViolated
    v).guest = s.guest ∧ (s.putViolated v).jtag = s.jtag ∧ (s.putViolated v).trace = s.trace ∧ (s.putViolated v).pinMoves
    = s.pinMoves ∧ (s.putViolated v).words = s.words ∧ (s.putViolated v).cq = s.cq ∧ (s.putViolated v).ports = s.ports := by
  and_intros <;> rfl

@[simp] theorem State.putChkMax_chkMax (s : State) (v : Tab Nat) : (s.putChkMax v).chkMax = v := rfl
@[simp] theorem State.putChkMax_frame (s : State) (v : Tab Nat) :
    (s.putChkMax v).pending = s.pending ∧ (s.putChkMax v).freeUses = s.freeUses ∧ (s.putChkMax v).out = s.out ∧
    (s.putChkMax v).mode = s.mode ∧ (s.putChkMax v).modeCause = s.modeCause ∧ (s.putChkMax v).phase = s.phase ∧
    (s.putChkMax v).straps = s.straps ∧ (s.putChkMax v).perst = s.perst ∧ (s.putChkMax v).vinHigh = s.vinHigh ∧
    (s.putChkMax v).claimed = s.claimed ∧ (s.putChkMax v).resetDue = s.resetDue ∧ (s.putChkMax v).meas = s.meas ∧
    (s.putChkMax v).hot = s.hot ∧ (s.putChkMax v).tick = s.tick ∧ (s.putChkMax v).wrap = s.wrap ∧ (s.putChkMax v).hbOut =
    s.hbOut ∧ (s.putChkMax v).cw = s.cw ∧ (s.putChkMax v).ctx = s.ctx ∧ (s.putChkMax v).ctxAt = s.ctxAt ∧ (s.putChkMax
    v).engines = s.engines ∧ (s.putChkMax v).loaf = s.loaf ∧ (s.putChkMax v).loafNext = s.loafNext ∧ (s.putChkMax
    v).loafDue = s.loafDue ∧ (s.putChkMax v).batch = s.batch ∧ (s.putChkMax v).suspended = s.suspended ∧ (s.putChkMax
    v).batchesDone = s.batchesDone ∧ (s.putChkMax v).batchIds = s.batchIds ∧ (s.putChkMax v).lastRing = s.lastRing ∧
    (s.putChkMax v).rings = s.rings ∧ (s.putChkMax v).scratch = s.scratch ∧ (s.putChkMax v).hq = s.hq ∧ (s.putChkMax
    v).hostRing = s.hostRing ∧ (s.putChkMax v).intPend = s.intPend ∧ (s.putChkMax v).msixTable = s.msixTable ∧
    (s.putChkMax v).msixPba = s.msixPba ∧ (s.putChkMax v).violated = s.violated ∧ (s.putChkMax v).captures = s.captures ∧
    (s.putChkMax v).due = s.due ∧ (s.putChkMax v).lanes = s.lanes ∧ (s.putChkMax v).quads = s.quads ∧ (s.putChkMax v).flex
    = s.flex ∧ (s.putChkMax v).recClk = s.recClk ∧ (s.putChkMax v).refClk = s.refClk ∧ (s.putChkMax v).ilk = s.ilk ∧
    (s.putChkMax v).trackers = s.trackers ∧ (s.putChkMax v).framers = s.framers ∧ (s.putChkMax v).mons = s.mons ∧
    (s.putChkMax v).oh = s.oh ∧ (s.putChkMax v).ohT0 = s.ohT0 ∧ (s.putChkMax v).cells = s.cells ∧ (s.putChkMax v).cellsT0
    = s.cellsT0 ∧ (s.putChkMax v).binQ = s.binQ ∧ (s.putChkMax v).binD = s.binD ∧ (s.putChkMax v).binLoad = s.binLoad ∧
    (s.putChkMax v).binRestored = s.binRestored ∧ (s.putChkMax v).pmTime = s.pmTime ∧ (s.putChkMax v).deck = s.deck ∧
    (s.putChkMax v).sels = s.sels ∧ (s.putChkMax v).decks = s.decks ∧ (s.putChkMax v).rsz = s.rsz ∧ (s.putChkMax
    v).prfRings = s.prfRings ∧ (s.putChkMax v).hls = s.hls ∧ (s.putChkMax v).groups = s.groups ∧ (s.putChkMax v).substs =
    s.substs ∧ (s.putChkMax v).unverified = s.unverified ∧ (s.putChkMax v).firstRing = s.firstRing ∧ (s.putChkMax v).pairs
    = s.pairs ∧ (s.putChkMax v).audio = s.audio ∧ (s.putChkMax v).sync = s.sync ∧ (s.putChkMax v).dpll = s.dpll ∧
    (s.putChkMax v).doms = s.doms ∧ (s.putChkMax v).vloops = s.vloops ∧ (s.putChkMax v).rdn = s.rdn ∧ (s.putChkMax v).bank
    = s.bank ∧ (s.putChkMax v).spare = s.spare ∧ (s.putChkMax v).link = s.link ∧ (s.putChkMax v).test = s.test ∧
    (s.putChkMax v).sec = s.sec ∧ (s.putChkMax v).nvm = s.nvm ∧ (s.putChkMax v).sess = s.sess ∧ (s.putChkMax v).long =
    s.long ∧ (s.putChkMax v).guest = s.guest ∧ (s.putChkMax v).jtag = s.jtag ∧ (s.putChkMax v).trace = s.trace ∧
    (s.putChkMax v).pinMoves = s.pinMoves ∧ (s.putChkMax v).words = s.words ∧ (s.putChkMax v).cq = s.cq ∧ (s.putChkMax
    v).ports = s.ports := by
  and_intros <;> rfl

@[simp] theorem State.putCaptures_captures (s : State) (v : Nat) : (s.putCaptures v).captures = v := rfl
@[simp] theorem State.putCaptures_frame (s : State) (v : Nat) :
    (s.putCaptures v).pending = s.pending ∧ (s.putCaptures v).freeUses = s.freeUses ∧ (s.putCaptures v).out = s.out ∧
    (s.putCaptures v).mode = s.mode ∧ (s.putCaptures v).modeCause = s.modeCause ∧ (s.putCaptures v).phase = s.phase ∧
    (s.putCaptures v).straps = s.straps ∧ (s.putCaptures v).perst = s.perst ∧ (s.putCaptures v).vinHigh = s.vinHigh ∧
    (s.putCaptures v).claimed = s.claimed ∧ (s.putCaptures v).resetDue = s.resetDue ∧ (s.putCaptures v).meas = s.meas ∧
    (s.putCaptures v).hot = s.hot ∧ (s.putCaptures v).tick = s.tick ∧ (s.putCaptures v).wrap = s.wrap ∧ (s.putCaptures
    v).hbOut = s.hbOut ∧ (s.putCaptures v).cw = s.cw ∧ (s.putCaptures v).ctx = s.ctx ∧ (s.putCaptures v).ctxAt = s.ctxAt ∧
    (s.putCaptures v).engines = s.engines ∧ (s.putCaptures v).loaf = s.loaf ∧ (s.putCaptures v).loafNext = s.loafNext ∧
    (s.putCaptures v).loafDue = s.loafDue ∧ (s.putCaptures v).batch = s.batch ∧ (s.putCaptures v).suspended = s.suspended
    ∧ (s.putCaptures v).batchesDone = s.batchesDone ∧ (s.putCaptures v).batchIds = s.batchIds ∧ (s.putCaptures v).lastRing
    = s.lastRing ∧ (s.putCaptures v).rings = s.rings ∧ (s.putCaptures v).scratch = s.scratch ∧ (s.putCaptures v).hq = s.hq
    ∧ (s.putCaptures v).hostRing = s.hostRing ∧ (s.putCaptures v).intPend = s.intPend ∧ (s.putCaptures v).msixTable =
    s.msixTable ∧ (s.putCaptures v).msixPba = s.msixPba ∧ (s.putCaptures v).violated = s.violated ∧ (s.putCaptures
    v).chkMax = s.chkMax ∧ (s.putCaptures v).due = s.due ∧ (s.putCaptures v).lanes = s.lanes ∧ (s.putCaptures v).quads =
    s.quads ∧ (s.putCaptures v).flex = s.flex ∧ (s.putCaptures v).recClk = s.recClk ∧ (s.putCaptures v).refClk = s.refClk
    ∧ (s.putCaptures v).ilk = s.ilk ∧ (s.putCaptures v).trackers = s.trackers ∧ (s.putCaptures v).framers = s.framers ∧
    (s.putCaptures v).mons = s.mons ∧ (s.putCaptures v).oh = s.oh ∧ (s.putCaptures v).ohT0 = s.ohT0 ∧ (s.putCaptures
    v).cells = s.cells ∧ (s.putCaptures v).cellsT0 = s.cellsT0 ∧ (s.putCaptures v).binQ = s.binQ ∧ (s.putCaptures v).binD
    = s.binD ∧ (s.putCaptures v).binLoad = s.binLoad ∧ (s.putCaptures v).binRestored = s.binRestored ∧ (s.putCaptures
    v).pmTime = s.pmTime ∧ (s.putCaptures v).deck = s.deck ∧ (s.putCaptures v).sels = s.sels ∧ (s.putCaptures v).decks =
    s.decks ∧ (s.putCaptures v).rsz = s.rsz ∧ (s.putCaptures v).prfRings = s.prfRings ∧ (s.putCaptures v).hls = s.hls ∧
    (s.putCaptures v).groups = s.groups ∧ (s.putCaptures v).substs = s.substs ∧ (s.putCaptures v).unverified =
    s.unverified ∧ (s.putCaptures v).firstRing = s.firstRing ∧ (s.putCaptures v).pairs = s.pairs ∧ (s.putCaptures v).audio
    = s.audio ∧ (s.putCaptures v).sync = s.sync ∧ (s.putCaptures v).dpll = s.dpll ∧ (s.putCaptures v).doms = s.doms ∧
    (s.putCaptures v).vloops = s.vloops ∧ (s.putCaptures v).rdn = s.rdn ∧ (s.putCaptures v).bank = s.bank ∧ (s.putCaptures
    v).spare = s.spare ∧ (s.putCaptures v).link = s.link ∧ (s.putCaptures v).test = s.test ∧ (s.putCaptures v).sec = s.sec
    ∧ (s.putCaptures v).nvm = s.nvm ∧ (s.putCaptures v).sess = s.sess ∧ (s.putCaptures v).long = s.long ∧ (s.putCaptures
    v).guest = s.guest ∧ (s.putCaptures v).jtag = s.jtag ∧ (s.putCaptures v).trace = s.trace ∧ (s.putCaptures v).pinMoves
    = s.pinMoves ∧ (s.putCaptures v).words = s.words ∧ (s.putCaptures v).cq = s.cq ∧ (s.putCaptures v).ports = s.ports := by
  and_intros <;> rfl

@[simp] theorem State.putDue_due (s : State) (v : List Due) : (s.putDue v).due = v := rfl
@[simp] theorem State.putDue_frame (s : State) (v : List Due) :
    (s.putDue v).pending = s.pending ∧ (s.putDue v).freeUses = s.freeUses ∧ (s.putDue v).out = s.out ∧ (s.putDue v).mode =
    s.mode ∧ (s.putDue v).modeCause = s.modeCause ∧ (s.putDue v).phase = s.phase ∧ (s.putDue v).straps = s.straps ∧
    (s.putDue v).perst = s.perst ∧ (s.putDue v).vinHigh = s.vinHigh ∧ (s.putDue v).claimed = s.claimed ∧ (s.putDue
    v).resetDue = s.resetDue ∧ (s.putDue v).meas = s.meas ∧ (s.putDue v).hot = s.hot ∧ (s.putDue v).tick = s.tick ∧
    (s.putDue v).wrap = s.wrap ∧ (s.putDue v).hbOut = s.hbOut ∧ (s.putDue v).cw = s.cw ∧ (s.putDue v).ctx = s.ctx ∧
    (s.putDue v).ctxAt = s.ctxAt ∧ (s.putDue v).engines = s.engines ∧ (s.putDue v).loaf = s.loaf ∧ (s.putDue v).loafNext =
    s.loafNext ∧ (s.putDue v).loafDue = s.loafDue ∧ (s.putDue v).batch = s.batch ∧ (s.putDue v).suspended = s.suspended ∧
    (s.putDue v).batchesDone = s.batchesDone ∧ (s.putDue v).batchIds = s.batchIds ∧ (s.putDue v).lastRing = s.lastRing ∧
    (s.putDue v).rings = s.rings ∧ (s.putDue v).scratch = s.scratch ∧ (s.putDue v).hq = s.hq ∧ (s.putDue v).hostRing =
    s.hostRing ∧ (s.putDue v).intPend = s.intPend ∧ (s.putDue v).msixTable = s.msixTable ∧ (s.putDue v).msixPba =
    s.msixPba ∧ (s.putDue v).violated = s.violated ∧ (s.putDue v).chkMax = s.chkMax ∧ (s.putDue v).captures = s.captures ∧
    (s.putDue v).lanes = s.lanes ∧ (s.putDue v).quads = s.quads ∧ (s.putDue v).flex = s.flex ∧ (s.putDue v).recClk =
    s.recClk ∧ (s.putDue v).refClk = s.refClk ∧ (s.putDue v).ilk = s.ilk ∧ (s.putDue v).trackers = s.trackers ∧ (s.putDue
    v).framers = s.framers ∧ (s.putDue v).mons = s.mons ∧ (s.putDue v).oh = s.oh ∧ (s.putDue v).ohT0 = s.ohT0 ∧ (s.putDue
    v).cells = s.cells ∧ (s.putDue v).cellsT0 = s.cellsT0 ∧ (s.putDue v).binQ = s.binQ ∧ (s.putDue v).binD = s.binD ∧
    (s.putDue v).binLoad = s.binLoad ∧ (s.putDue v).binRestored = s.binRestored ∧ (s.putDue v).pmTime = s.pmTime ∧
    (s.putDue v).deck = s.deck ∧ (s.putDue v).sels = s.sels ∧ (s.putDue v).decks = s.decks ∧ (s.putDue v).rsz = s.rsz ∧
    (s.putDue v).prfRings = s.prfRings ∧ (s.putDue v).hls = s.hls ∧ (s.putDue v).groups = s.groups ∧ (s.putDue v).substs =
    s.substs ∧ (s.putDue v).unverified = s.unverified ∧ (s.putDue v).firstRing = s.firstRing ∧ (s.putDue v).pairs =
    s.pairs ∧ (s.putDue v).audio = s.audio ∧ (s.putDue v).sync = s.sync ∧ (s.putDue v).dpll = s.dpll ∧ (s.putDue v).doms =
    s.doms ∧ (s.putDue v).vloops = s.vloops ∧ (s.putDue v).rdn = s.rdn ∧ (s.putDue v).bank = s.bank ∧ (s.putDue v).spare =
    s.spare ∧ (s.putDue v).link = s.link ∧ (s.putDue v).test = s.test ∧ (s.putDue v).sec = s.sec ∧ (s.putDue v).nvm =
    s.nvm ∧ (s.putDue v).sess = s.sess ∧ (s.putDue v).long = s.long ∧ (s.putDue v).guest = s.guest ∧ (s.putDue v).jtag =
    s.jtag ∧ (s.putDue v).trace = s.trace ∧ (s.putDue v).pinMoves = s.pinMoves ∧ (s.putDue v).words = s.words ∧ (s.putDue
    v).cq = s.cq ∧ (s.putDue v).ports = s.ports := by
  and_intros <;> rfl

@[simp] theorem State.putLanes_lanes (s : State) (v : Tab Lane) : (s.putLanes v).lanes = v := rfl
@[simp] theorem State.putLanes_frame (s : State) (v : Tab Lane) :
    (s.putLanes v).pending = s.pending ∧ (s.putLanes v).freeUses = s.freeUses ∧ (s.putLanes v).out = s.out ∧ (s.putLanes
    v).mode = s.mode ∧ (s.putLanes v).modeCause = s.modeCause ∧ (s.putLanes v).phase = s.phase ∧ (s.putLanes v).straps =
    s.straps ∧ (s.putLanes v).perst = s.perst ∧ (s.putLanes v).vinHigh = s.vinHigh ∧ (s.putLanes v).claimed = s.claimed ∧
    (s.putLanes v).resetDue = s.resetDue ∧ (s.putLanes v).meas = s.meas ∧ (s.putLanes v).hot = s.hot ∧ (s.putLanes v).tick
    = s.tick ∧ (s.putLanes v).wrap = s.wrap ∧ (s.putLanes v).hbOut = s.hbOut ∧ (s.putLanes v).cw = s.cw ∧ (s.putLanes
    v).ctx = s.ctx ∧ (s.putLanes v).ctxAt = s.ctxAt ∧ (s.putLanes v).engines = s.engines ∧ (s.putLanes v).loaf = s.loaf ∧
    (s.putLanes v).loafNext = s.loafNext ∧ (s.putLanes v).loafDue = s.loafDue ∧ (s.putLanes v).batch = s.batch ∧
    (s.putLanes v).suspended = s.suspended ∧ (s.putLanes v).batchesDone = s.batchesDone ∧ (s.putLanes v).batchIds =
    s.batchIds ∧ (s.putLanes v).lastRing = s.lastRing ∧ (s.putLanes v).rings = s.rings ∧ (s.putLanes v).scratch =
    s.scratch ∧ (s.putLanes v).hq = s.hq ∧ (s.putLanes v).hostRing = s.hostRing ∧ (s.putLanes v).intPend = s.intPend ∧
    (s.putLanes v).msixTable = s.msixTable ∧ (s.putLanes v).msixPba = s.msixPba ∧ (s.putLanes v).violated = s.violated ∧
    (s.putLanes v).chkMax = s.chkMax ∧ (s.putLanes v).captures = s.captures ∧ (s.putLanes v).due = s.due ∧ (s.putLanes
    v).quads = s.quads ∧ (s.putLanes v).flex = s.flex ∧ (s.putLanes v).recClk = s.recClk ∧ (s.putLanes v).refClk =
    s.refClk ∧ (s.putLanes v).ilk = s.ilk ∧ (s.putLanes v).trackers = s.trackers ∧ (s.putLanes v).framers = s.framers ∧
    (s.putLanes v).mons = s.mons ∧ (s.putLanes v).oh = s.oh ∧ (s.putLanes v).ohT0 = s.ohT0 ∧ (s.putLanes v).cells =
    s.cells ∧ (s.putLanes v).cellsT0 = s.cellsT0 ∧ (s.putLanes v).binQ = s.binQ ∧ (s.putLanes v).binD = s.binD ∧
    (s.putLanes v).binLoad = s.binLoad ∧ (s.putLanes v).binRestored = s.binRestored ∧ (s.putLanes v).pmTime = s.pmTime ∧
    (s.putLanes v).deck = s.deck ∧ (s.putLanes v).sels = s.sels ∧ (s.putLanes v).decks = s.decks ∧ (s.putLanes v).rsz =
    s.rsz ∧ (s.putLanes v).prfRings = s.prfRings ∧ (s.putLanes v).hls = s.hls ∧ (s.putLanes v).groups = s.groups ∧
    (s.putLanes v).substs = s.substs ∧ (s.putLanes v).unverified = s.unverified ∧ (s.putLanes v).firstRing = s.firstRing ∧
    (s.putLanes v).pairs = s.pairs ∧ (s.putLanes v).audio = s.audio ∧ (s.putLanes v).sync = s.sync ∧ (s.putLanes v).dpll =
    s.dpll ∧ (s.putLanes v).doms = s.doms ∧ (s.putLanes v).vloops = s.vloops ∧ (s.putLanes v).rdn = s.rdn ∧ (s.putLanes
    v).bank = s.bank ∧ (s.putLanes v).spare = s.spare ∧ (s.putLanes v).link = s.link ∧ (s.putLanes v).test = s.test ∧
    (s.putLanes v).sec = s.sec ∧ (s.putLanes v).nvm = s.nvm ∧ (s.putLanes v).sess = s.sess ∧ (s.putLanes v).long = s.long
    ∧ (s.putLanes v).guest = s.guest ∧ (s.putLanes v).jtag = s.jtag ∧ (s.putLanes v).trace = s.trace ∧ (s.putLanes
    v).pinMoves = s.pinMoves ∧ (s.putLanes v).words = s.words ∧ (s.putLanes v).cq = s.cq ∧ (s.putLanes v).ports = s.ports := by
  and_intros <;> rfl

@[simp] theorem State.putQuads_quads (s : State) (v : Tab Quad) : (s.putQuads v).quads = v := rfl
@[simp] theorem State.putQuads_frame (s : State) (v : Tab Quad) :
    (s.putQuads v).pending = s.pending ∧ (s.putQuads v).freeUses = s.freeUses ∧ (s.putQuads v).out = s.out ∧ (s.putQuads
    v).mode = s.mode ∧ (s.putQuads v).modeCause = s.modeCause ∧ (s.putQuads v).phase = s.phase ∧ (s.putQuads v).straps =
    s.straps ∧ (s.putQuads v).perst = s.perst ∧ (s.putQuads v).vinHigh = s.vinHigh ∧ (s.putQuads v).claimed = s.claimed ∧
    (s.putQuads v).resetDue = s.resetDue ∧ (s.putQuads v).meas = s.meas ∧ (s.putQuads v).hot = s.hot ∧ (s.putQuads v).tick
    = s.tick ∧ (s.putQuads v).wrap = s.wrap ∧ (s.putQuads v).hbOut = s.hbOut ∧ (s.putQuads v).cw = s.cw ∧ (s.putQuads
    v).ctx = s.ctx ∧ (s.putQuads v).ctxAt = s.ctxAt ∧ (s.putQuads v).engines = s.engines ∧ (s.putQuads v).loaf = s.loaf ∧
    (s.putQuads v).loafNext = s.loafNext ∧ (s.putQuads v).loafDue = s.loafDue ∧ (s.putQuads v).batch = s.batch ∧
    (s.putQuads v).suspended = s.suspended ∧ (s.putQuads v).batchesDone = s.batchesDone ∧ (s.putQuads v).batchIds =
    s.batchIds ∧ (s.putQuads v).lastRing = s.lastRing ∧ (s.putQuads v).rings = s.rings ∧ (s.putQuads v).scratch =
    s.scratch ∧ (s.putQuads v).hq = s.hq ∧ (s.putQuads v).hostRing = s.hostRing ∧ (s.putQuads v).intPend = s.intPend ∧
    (s.putQuads v).msixTable = s.msixTable ∧ (s.putQuads v).msixPba = s.msixPba ∧ (s.putQuads v).violated = s.violated ∧
    (s.putQuads v).chkMax = s.chkMax ∧ (s.putQuads v).captures = s.captures ∧ (s.putQuads v).due = s.due ∧ (s.putQuads
    v).lanes = s.lanes ∧ (s.putQuads v).flex = s.flex ∧ (s.putQuads v).recClk = s.recClk ∧ (s.putQuads v).refClk =
    s.refClk ∧ (s.putQuads v).ilk = s.ilk ∧ (s.putQuads v).trackers = s.trackers ∧ (s.putQuads v).framers = s.framers ∧
    (s.putQuads v).mons = s.mons ∧ (s.putQuads v).oh = s.oh ∧ (s.putQuads v).ohT0 = s.ohT0 ∧ (s.putQuads v).cells =
    s.cells ∧ (s.putQuads v).cellsT0 = s.cellsT0 ∧ (s.putQuads v).binQ = s.binQ ∧ (s.putQuads v).binD = s.binD ∧
    (s.putQuads v).binLoad = s.binLoad ∧ (s.putQuads v).binRestored = s.binRestored ∧ (s.putQuads v).pmTime = s.pmTime ∧
    (s.putQuads v).deck = s.deck ∧ (s.putQuads v).sels = s.sels ∧ (s.putQuads v).decks = s.decks ∧ (s.putQuads v).rsz =
    s.rsz ∧ (s.putQuads v).prfRings = s.prfRings ∧ (s.putQuads v).hls = s.hls ∧ (s.putQuads v).groups = s.groups ∧
    (s.putQuads v).substs = s.substs ∧ (s.putQuads v).unverified = s.unverified ∧ (s.putQuads v).firstRing = s.firstRing ∧
    (s.putQuads v).pairs = s.pairs ∧ (s.putQuads v).audio = s.audio ∧ (s.putQuads v).sync = s.sync ∧ (s.putQuads v).dpll =
    s.dpll ∧ (s.putQuads v).doms = s.doms ∧ (s.putQuads v).vloops = s.vloops ∧ (s.putQuads v).rdn = s.rdn ∧ (s.putQuads
    v).bank = s.bank ∧ (s.putQuads v).spare = s.spare ∧ (s.putQuads v).link = s.link ∧ (s.putQuads v).test = s.test ∧
    (s.putQuads v).sec = s.sec ∧ (s.putQuads v).nvm = s.nvm ∧ (s.putQuads v).sess = s.sess ∧ (s.putQuads v).long = s.long
    ∧ (s.putQuads v).guest = s.guest ∧ (s.putQuads v).jtag = s.jtag ∧ (s.putQuads v).trace = s.trace ∧ (s.putQuads
    v).pinMoves = s.pinMoves ∧ (s.putQuads v).words = s.words ∧ (s.putQuads v).cq = s.cq ∧ (s.putQuads v).ports = s.ports := by
  and_intros <;> rfl

@[simp] theorem State.putFlex_flex (s : State) (v : Tab FlexHolder) : (s.putFlex v).flex = v := rfl
@[simp] theorem State.putFlex_frame (s : State) (v : Tab FlexHolder) :
    (s.putFlex v).pending = s.pending ∧ (s.putFlex v).freeUses = s.freeUses ∧ (s.putFlex v).out = s.out ∧ (s.putFlex
    v).mode = s.mode ∧ (s.putFlex v).modeCause = s.modeCause ∧ (s.putFlex v).phase = s.phase ∧ (s.putFlex v).straps =
    s.straps ∧ (s.putFlex v).perst = s.perst ∧ (s.putFlex v).vinHigh = s.vinHigh ∧ (s.putFlex v).claimed = s.claimed ∧
    (s.putFlex v).resetDue = s.resetDue ∧ (s.putFlex v).meas = s.meas ∧ (s.putFlex v).hot = s.hot ∧ (s.putFlex v).tick =
    s.tick ∧ (s.putFlex v).wrap = s.wrap ∧ (s.putFlex v).hbOut = s.hbOut ∧ (s.putFlex v).cw = s.cw ∧ (s.putFlex v).ctx =
    s.ctx ∧ (s.putFlex v).ctxAt = s.ctxAt ∧ (s.putFlex v).engines = s.engines ∧ (s.putFlex v).loaf = s.loaf ∧ (s.putFlex
    v).loafNext = s.loafNext ∧ (s.putFlex v).loafDue = s.loafDue ∧ (s.putFlex v).batch = s.batch ∧ (s.putFlex v).suspended
    = s.suspended ∧ (s.putFlex v).batchesDone = s.batchesDone ∧ (s.putFlex v).batchIds = s.batchIds ∧ (s.putFlex
    v).lastRing = s.lastRing ∧ (s.putFlex v).rings = s.rings ∧ (s.putFlex v).scratch = s.scratch ∧ (s.putFlex v).hq = s.hq
    ∧ (s.putFlex v).hostRing = s.hostRing ∧ (s.putFlex v).intPend = s.intPend ∧ (s.putFlex v).msixTable = s.msixTable ∧
    (s.putFlex v).msixPba = s.msixPba ∧ (s.putFlex v).violated = s.violated ∧ (s.putFlex v).chkMax = s.chkMax ∧ (s.putFlex
    v).captures = s.captures ∧ (s.putFlex v).due = s.due ∧ (s.putFlex v).lanes = s.lanes ∧ (s.putFlex v).quads = s.quads ∧
    (s.putFlex v).recClk = s.recClk ∧ (s.putFlex v).refClk = s.refClk ∧ (s.putFlex v).ilk = s.ilk ∧ (s.putFlex v).trackers
    = s.trackers ∧ (s.putFlex v).framers = s.framers ∧ (s.putFlex v).mons = s.mons ∧ (s.putFlex v).oh = s.oh ∧ (s.putFlex
    v).ohT0 = s.ohT0 ∧ (s.putFlex v).cells = s.cells ∧ (s.putFlex v).cellsT0 = s.cellsT0 ∧ (s.putFlex v).binQ = s.binQ ∧
    (s.putFlex v).binD = s.binD ∧ (s.putFlex v).binLoad = s.binLoad ∧ (s.putFlex v).binRestored = s.binRestored ∧
    (s.putFlex v).pmTime = s.pmTime ∧ (s.putFlex v).deck = s.deck ∧ (s.putFlex v).sels = s.sels ∧ (s.putFlex v).decks =
    s.decks ∧ (s.putFlex v).rsz = s.rsz ∧ (s.putFlex v).prfRings = s.prfRings ∧ (s.putFlex v).hls = s.hls ∧ (s.putFlex
    v).groups = s.groups ∧ (s.putFlex v).substs = s.substs ∧ (s.putFlex v).unverified = s.unverified ∧ (s.putFlex
    v).firstRing = s.firstRing ∧ (s.putFlex v).pairs = s.pairs ∧ (s.putFlex v).audio = s.audio ∧ (s.putFlex v).sync =
    s.sync ∧ (s.putFlex v).dpll = s.dpll ∧ (s.putFlex v).doms = s.doms ∧ (s.putFlex v).vloops = s.vloops ∧ (s.putFlex
    v).rdn = s.rdn ∧ (s.putFlex v).bank = s.bank ∧ (s.putFlex v).spare = s.spare ∧ (s.putFlex v).link = s.link ∧
    (s.putFlex v).test = s.test ∧ (s.putFlex v).sec = s.sec ∧ (s.putFlex v).nvm = s.nvm ∧ (s.putFlex v).sess = s.sess ∧
    (s.putFlex v).long = s.long ∧ (s.putFlex v).guest = s.guest ∧ (s.putFlex v).jtag = s.jtag ∧ (s.putFlex v).trace =
    s.trace ∧ (s.putFlex v).pinMoves = s.pinMoves ∧ (s.putFlex v).words = s.words ∧ (s.putFlex v).cq = s.cq ∧ (s.putFlex
    v).ports = s.ports := by
  and_intros <;> rfl

@[simp] theorem State.putRecClk_recClk (s : State) (v : Tab RecClk) : (s.putRecClk v).recClk = v := rfl
@[simp] theorem State.putRecClk_frame (s : State) (v : Tab RecClk) :
    (s.putRecClk v).pending = s.pending ∧ (s.putRecClk v).freeUses = s.freeUses ∧ (s.putRecClk v).out = s.out ∧
    (s.putRecClk v).mode = s.mode ∧ (s.putRecClk v).modeCause = s.modeCause ∧ (s.putRecClk v).phase = s.phase ∧
    (s.putRecClk v).straps = s.straps ∧ (s.putRecClk v).perst = s.perst ∧ (s.putRecClk v).vinHigh = s.vinHigh ∧
    (s.putRecClk v).claimed = s.claimed ∧ (s.putRecClk v).resetDue = s.resetDue ∧ (s.putRecClk v).meas = s.meas ∧
    (s.putRecClk v).hot = s.hot ∧ (s.putRecClk v).tick = s.tick ∧ (s.putRecClk v).wrap = s.wrap ∧ (s.putRecClk v).hbOut =
    s.hbOut ∧ (s.putRecClk v).cw = s.cw ∧ (s.putRecClk v).ctx = s.ctx ∧ (s.putRecClk v).ctxAt = s.ctxAt ∧ (s.putRecClk
    v).engines = s.engines ∧ (s.putRecClk v).loaf = s.loaf ∧ (s.putRecClk v).loafNext = s.loafNext ∧ (s.putRecClk
    v).loafDue = s.loafDue ∧ (s.putRecClk v).batch = s.batch ∧ (s.putRecClk v).suspended = s.suspended ∧ (s.putRecClk
    v).batchesDone = s.batchesDone ∧ (s.putRecClk v).batchIds = s.batchIds ∧ (s.putRecClk v).lastRing = s.lastRing ∧
    (s.putRecClk v).rings = s.rings ∧ (s.putRecClk v).scratch = s.scratch ∧ (s.putRecClk v).hq = s.hq ∧ (s.putRecClk
    v).hostRing = s.hostRing ∧ (s.putRecClk v).intPend = s.intPend ∧ (s.putRecClk v).msixTable = s.msixTable ∧
    (s.putRecClk v).msixPba = s.msixPba ∧ (s.putRecClk v).violated = s.violated ∧ (s.putRecClk v).chkMax = s.chkMax ∧
    (s.putRecClk v).captures = s.captures ∧ (s.putRecClk v).due = s.due ∧ (s.putRecClk v).lanes = s.lanes ∧ (s.putRecClk
    v).quads = s.quads ∧ (s.putRecClk v).flex = s.flex ∧ (s.putRecClk v).refClk = s.refClk ∧ (s.putRecClk v).ilk = s.ilk ∧
    (s.putRecClk v).trackers = s.trackers ∧ (s.putRecClk v).framers = s.framers ∧ (s.putRecClk v).mons = s.mons ∧
    (s.putRecClk v).oh = s.oh ∧ (s.putRecClk v).ohT0 = s.ohT0 ∧ (s.putRecClk v).cells = s.cells ∧ (s.putRecClk v).cellsT0
    = s.cellsT0 ∧ (s.putRecClk v).binQ = s.binQ ∧ (s.putRecClk v).binD = s.binD ∧ (s.putRecClk v).binLoad = s.binLoad ∧
    (s.putRecClk v).binRestored = s.binRestored ∧ (s.putRecClk v).pmTime = s.pmTime ∧ (s.putRecClk v).deck = s.deck ∧
    (s.putRecClk v).sels = s.sels ∧ (s.putRecClk v).decks = s.decks ∧ (s.putRecClk v).rsz = s.rsz ∧ (s.putRecClk
    v).prfRings = s.prfRings ∧ (s.putRecClk v).hls = s.hls ∧ (s.putRecClk v).groups = s.groups ∧ (s.putRecClk v).substs =
    s.substs ∧ (s.putRecClk v).unverified = s.unverified ∧ (s.putRecClk v).firstRing = s.firstRing ∧ (s.putRecClk v).pairs
    = s.pairs ∧ (s.putRecClk v).audio = s.audio ∧ (s.putRecClk v).sync = s.sync ∧ (s.putRecClk v).dpll = s.dpll ∧
    (s.putRecClk v).doms = s.doms ∧ (s.putRecClk v).vloops = s.vloops ∧ (s.putRecClk v).rdn = s.rdn ∧ (s.putRecClk v).bank
    = s.bank ∧ (s.putRecClk v).spare = s.spare ∧ (s.putRecClk v).link = s.link ∧ (s.putRecClk v).test = s.test ∧
    (s.putRecClk v).sec = s.sec ∧ (s.putRecClk v).nvm = s.nvm ∧ (s.putRecClk v).sess = s.sess ∧ (s.putRecClk v).long =
    s.long ∧ (s.putRecClk v).guest = s.guest ∧ (s.putRecClk v).jtag = s.jtag ∧ (s.putRecClk v).trace = s.trace ∧
    (s.putRecClk v).pinMoves = s.pinMoves ∧ (s.putRecClk v).words = s.words ∧ (s.putRecClk v).cq = s.cq ∧ (s.putRecClk
    v).ports = s.ports := by
  and_intros <;> rfl

@[simp] theorem State.putRefClk_refClk (s : State) (v : Tab RefClk) : (s.putRefClk v).refClk = v := rfl
@[simp] theorem State.putRefClk_frame (s : State) (v : Tab RefClk) :
    (s.putRefClk v).pending = s.pending ∧ (s.putRefClk v).freeUses = s.freeUses ∧ (s.putRefClk v).out = s.out ∧
    (s.putRefClk v).mode = s.mode ∧ (s.putRefClk v).modeCause = s.modeCause ∧ (s.putRefClk v).phase = s.phase ∧
    (s.putRefClk v).straps = s.straps ∧ (s.putRefClk v).perst = s.perst ∧ (s.putRefClk v).vinHigh = s.vinHigh ∧
    (s.putRefClk v).claimed = s.claimed ∧ (s.putRefClk v).resetDue = s.resetDue ∧ (s.putRefClk v).meas = s.meas ∧
    (s.putRefClk v).hot = s.hot ∧ (s.putRefClk v).tick = s.tick ∧ (s.putRefClk v).wrap = s.wrap ∧ (s.putRefClk v).hbOut =
    s.hbOut ∧ (s.putRefClk v).cw = s.cw ∧ (s.putRefClk v).ctx = s.ctx ∧ (s.putRefClk v).ctxAt = s.ctxAt ∧ (s.putRefClk
    v).engines = s.engines ∧ (s.putRefClk v).loaf = s.loaf ∧ (s.putRefClk v).loafNext = s.loafNext ∧ (s.putRefClk
    v).loafDue = s.loafDue ∧ (s.putRefClk v).batch = s.batch ∧ (s.putRefClk v).suspended = s.suspended ∧ (s.putRefClk
    v).batchesDone = s.batchesDone ∧ (s.putRefClk v).batchIds = s.batchIds ∧ (s.putRefClk v).lastRing = s.lastRing ∧
    (s.putRefClk v).rings = s.rings ∧ (s.putRefClk v).scratch = s.scratch ∧ (s.putRefClk v).hq = s.hq ∧ (s.putRefClk
    v).hostRing = s.hostRing ∧ (s.putRefClk v).intPend = s.intPend ∧ (s.putRefClk v).msixTable = s.msixTable ∧
    (s.putRefClk v).msixPba = s.msixPba ∧ (s.putRefClk v).violated = s.violated ∧ (s.putRefClk v).chkMax = s.chkMax ∧
    (s.putRefClk v).captures = s.captures ∧ (s.putRefClk v).due = s.due ∧ (s.putRefClk v).lanes = s.lanes ∧ (s.putRefClk
    v).quads = s.quads ∧ (s.putRefClk v).flex = s.flex ∧ (s.putRefClk v).recClk = s.recClk ∧ (s.putRefClk v).ilk = s.ilk ∧
    (s.putRefClk v).trackers = s.trackers ∧ (s.putRefClk v).framers = s.framers ∧ (s.putRefClk v).mons = s.mons ∧
    (s.putRefClk v).oh = s.oh ∧ (s.putRefClk v).ohT0 = s.ohT0 ∧ (s.putRefClk v).cells = s.cells ∧ (s.putRefClk v).cellsT0
    = s.cellsT0 ∧ (s.putRefClk v).binQ = s.binQ ∧ (s.putRefClk v).binD = s.binD ∧ (s.putRefClk v).binLoad = s.binLoad ∧
    (s.putRefClk v).binRestored = s.binRestored ∧ (s.putRefClk v).pmTime = s.pmTime ∧ (s.putRefClk v).deck = s.deck ∧
    (s.putRefClk v).sels = s.sels ∧ (s.putRefClk v).decks = s.decks ∧ (s.putRefClk v).rsz = s.rsz ∧ (s.putRefClk
    v).prfRings = s.prfRings ∧ (s.putRefClk v).hls = s.hls ∧ (s.putRefClk v).groups = s.groups ∧ (s.putRefClk v).substs =
    s.substs ∧ (s.putRefClk v).unverified = s.unverified ∧ (s.putRefClk v).firstRing = s.firstRing ∧ (s.putRefClk v).pairs
    = s.pairs ∧ (s.putRefClk v).audio = s.audio ∧ (s.putRefClk v).sync = s.sync ∧ (s.putRefClk v).dpll = s.dpll ∧
    (s.putRefClk v).doms = s.doms ∧ (s.putRefClk v).vloops = s.vloops ∧ (s.putRefClk v).rdn = s.rdn ∧ (s.putRefClk v).bank
    = s.bank ∧ (s.putRefClk v).spare = s.spare ∧ (s.putRefClk v).link = s.link ∧ (s.putRefClk v).test = s.test ∧
    (s.putRefClk v).sec = s.sec ∧ (s.putRefClk v).nvm = s.nvm ∧ (s.putRefClk v).sess = s.sess ∧ (s.putRefClk v).long =
    s.long ∧ (s.putRefClk v).guest = s.guest ∧ (s.putRefClk v).jtag = s.jtag ∧ (s.putRefClk v).trace = s.trace ∧
    (s.putRefClk v).pinMoves = s.pinMoves ∧ (s.putRefClk v).words = s.words ∧ (s.putRefClk v).cq = s.cq ∧ (s.putRefClk
    v).ports = s.ports := by
  and_intros <;> rfl

@[simp] theorem State.putIlk_ilk (s : State) (v : Ilk) : (s.putIlk v).ilk = v := rfl
@[simp] theorem State.putIlk_frame (s : State) (v : Ilk) :
    (s.putIlk v).pending = s.pending ∧ (s.putIlk v).freeUses = s.freeUses ∧ (s.putIlk v).out = s.out ∧ (s.putIlk v).mode =
    s.mode ∧ (s.putIlk v).modeCause = s.modeCause ∧ (s.putIlk v).phase = s.phase ∧ (s.putIlk v).straps = s.straps ∧
    (s.putIlk v).perst = s.perst ∧ (s.putIlk v).vinHigh = s.vinHigh ∧ (s.putIlk v).claimed = s.claimed ∧ (s.putIlk
    v).resetDue = s.resetDue ∧ (s.putIlk v).meas = s.meas ∧ (s.putIlk v).hot = s.hot ∧ (s.putIlk v).tick = s.tick ∧
    (s.putIlk v).wrap = s.wrap ∧ (s.putIlk v).hbOut = s.hbOut ∧ (s.putIlk v).cw = s.cw ∧ (s.putIlk v).ctx = s.ctx ∧
    (s.putIlk v).ctxAt = s.ctxAt ∧ (s.putIlk v).engines = s.engines ∧ (s.putIlk v).loaf = s.loaf ∧ (s.putIlk v).loafNext =
    s.loafNext ∧ (s.putIlk v).loafDue = s.loafDue ∧ (s.putIlk v).batch = s.batch ∧ (s.putIlk v).suspended = s.suspended ∧
    (s.putIlk v).batchesDone = s.batchesDone ∧ (s.putIlk v).batchIds = s.batchIds ∧ (s.putIlk v).lastRing = s.lastRing ∧
    (s.putIlk v).rings = s.rings ∧ (s.putIlk v).scratch = s.scratch ∧ (s.putIlk v).hq = s.hq ∧ (s.putIlk v).hostRing =
    s.hostRing ∧ (s.putIlk v).intPend = s.intPend ∧ (s.putIlk v).msixTable = s.msixTable ∧ (s.putIlk v).msixPba =
    s.msixPba ∧ (s.putIlk v).violated = s.violated ∧ (s.putIlk v).chkMax = s.chkMax ∧ (s.putIlk v).captures = s.captures ∧
    (s.putIlk v).due = s.due ∧ (s.putIlk v).lanes = s.lanes ∧ (s.putIlk v).quads = s.quads ∧ (s.putIlk v).flex = s.flex ∧
    (s.putIlk v).recClk = s.recClk ∧ (s.putIlk v).refClk = s.refClk ∧ (s.putIlk v).trackers = s.trackers ∧ (s.putIlk
    v).framers = s.framers ∧ (s.putIlk v).mons = s.mons ∧ (s.putIlk v).oh = s.oh ∧ (s.putIlk v).ohT0 = s.ohT0 ∧ (s.putIlk
    v).cells = s.cells ∧ (s.putIlk v).cellsT0 = s.cellsT0 ∧ (s.putIlk v).binQ = s.binQ ∧ (s.putIlk v).binD = s.binD ∧
    (s.putIlk v).binLoad = s.binLoad ∧ (s.putIlk v).binRestored = s.binRestored ∧ (s.putIlk v).pmTime = s.pmTime ∧
    (s.putIlk v).deck = s.deck ∧ (s.putIlk v).sels = s.sels ∧ (s.putIlk v).decks = s.decks ∧ (s.putIlk v).rsz = s.rsz ∧
    (s.putIlk v).prfRings = s.prfRings ∧ (s.putIlk v).hls = s.hls ∧ (s.putIlk v).groups = s.groups ∧ (s.putIlk v).substs =
    s.substs ∧ (s.putIlk v).unverified = s.unverified ∧ (s.putIlk v).firstRing = s.firstRing ∧ (s.putIlk v).pairs =
    s.pairs ∧ (s.putIlk v).audio = s.audio ∧ (s.putIlk v).sync = s.sync ∧ (s.putIlk v).dpll = s.dpll ∧ (s.putIlk v).doms =
    s.doms ∧ (s.putIlk v).vloops = s.vloops ∧ (s.putIlk v).rdn = s.rdn ∧ (s.putIlk v).bank = s.bank ∧ (s.putIlk v).spare =
    s.spare ∧ (s.putIlk v).link = s.link ∧ (s.putIlk v).test = s.test ∧ (s.putIlk v).sec = s.sec ∧ (s.putIlk v).nvm =
    s.nvm ∧ (s.putIlk v).sess = s.sess ∧ (s.putIlk v).long = s.long ∧ (s.putIlk v).guest = s.guest ∧ (s.putIlk v).jtag =
    s.jtag ∧ (s.putIlk v).trace = s.trace ∧ (s.putIlk v).pinMoves = s.pinMoves ∧ (s.putIlk v).words = s.words ∧ (s.putIlk
    v).cq = s.cq ∧ (s.putIlk v).ports = s.ports := by
  and_intros <;> rfl

@[simp] theorem State.putTrackers_trackers (s : State) (v : Tab Tracker) : (s.putTrackers v).trackers = v := rfl
@[simp] theorem State.putTrackers_frame (s : State) (v : Tab Tracker) :
    (s.putTrackers v).pending = s.pending ∧ (s.putTrackers v).freeUses = s.freeUses ∧ (s.putTrackers v).out = s.out ∧
    (s.putTrackers v).mode = s.mode ∧ (s.putTrackers v).modeCause = s.modeCause ∧ (s.putTrackers v).phase = s.phase ∧
    (s.putTrackers v).straps = s.straps ∧ (s.putTrackers v).perst = s.perst ∧ (s.putTrackers v).vinHigh = s.vinHigh ∧
    (s.putTrackers v).claimed = s.claimed ∧ (s.putTrackers v).resetDue = s.resetDue ∧ (s.putTrackers v).meas = s.meas ∧
    (s.putTrackers v).hot = s.hot ∧ (s.putTrackers v).tick = s.tick ∧ (s.putTrackers v).wrap = s.wrap ∧ (s.putTrackers
    v).hbOut = s.hbOut ∧ (s.putTrackers v).cw = s.cw ∧ (s.putTrackers v).ctx = s.ctx ∧ (s.putTrackers v).ctxAt = s.ctxAt ∧
    (s.putTrackers v).engines = s.engines ∧ (s.putTrackers v).loaf = s.loaf ∧ (s.putTrackers v).loafNext = s.loafNext ∧
    (s.putTrackers v).loafDue = s.loafDue ∧ (s.putTrackers v).batch = s.batch ∧ (s.putTrackers v).suspended = s.suspended
    ∧ (s.putTrackers v).batchesDone = s.batchesDone ∧ (s.putTrackers v).batchIds = s.batchIds ∧ (s.putTrackers v).lastRing
    = s.lastRing ∧ (s.putTrackers v).rings = s.rings ∧ (s.putTrackers v).scratch = s.scratch ∧ (s.putTrackers v).hq = s.hq
    ∧ (s.putTrackers v).hostRing = s.hostRing ∧ (s.putTrackers v).intPend = s.intPend ∧ (s.putTrackers v).msixTable =
    s.msixTable ∧ (s.putTrackers v).msixPba = s.msixPba ∧ (s.putTrackers v).violated = s.violated ∧ (s.putTrackers
    v).chkMax = s.chkMax ∧ (s.putTrackers v).captures = s.captures ∧ (s.putTrackers v).due = s.due ∧ (s.putTrackers
    v).lanes = s.lanes ∧ (s.putTrackers v).quads = s.quads ∧ (s.putTrackers v).flex = s.flex ∧ (s.putTrackers v).recClk =
    s.recClk ∧ (s.putTrackers v).refClk = s.refClk ∧ (s.putTrackers v).ilk = s.ilk ∧ (s.putTrackers v).framers = s.framers
    ∧ (s.putTrackers v).mons = s.mons ∧ (s.putTrackers v).oh = s.oh ∧ (s.putTrackers v).ohT0 = s.ohT0 ∧ (s.putTrackers
    v).cells = s.cells ∧ (s.putTrackers v).cellsT0 = s.cellsT0 ∧ (s.putTrackers v).binQ = s.binQ ∧ (s.putTrackers v).binD
    = s.binD ∧ (s.putTrackers v).binLoad = s.binLoad ∧ (s.putTrackers v).binRestored = s.binRestored ∧ (s.putTrackers
    v).pmTime = s.pmTime ∧ (s.putTrackers v).deck = s.deck ∧ (s.putTrackers v).sels = s.sels ∧ (s.putTrackers v).decks =
    s.decks ∧ (s.putTrackers v).rsz = s.rsz ∧ (s.putTrackers v).prfRings = s.prfRings ∧ (s.putTrackers v).hls = s.hls ∧
    (s.putTrackers v).groups = s.groups ∧ (s.putTrackers v).substs = s.substs ∧ (s.putTrackers v).unverified =
    s.unverified ∧ (s.putTrackers v).firstRing = s.firstRing ∧ (s.putTrackers v).pairs = s.pairs ∧ (s.putTrackers v).audio
    = s.audio ∧ (s.putTrackers v).sync = s.sync ∧ (s.putTrackers v).dpll = s.dpll ∧ (s.putTrackers v).doms = s.doms ∧
    (s.putTrackers v).vloops = s.vloops ∧ (s.putTrackers v).rdn = s.rdn ∧ (s.putTrackers v).bank = s.bank ∧ (s.putTrackers
    v).spare = s.spare ∧ (s.putTrackers v).link = s.link ∧ (s.putTrackers v).test = s.test ∧ (s.putTrackers v).sec = s.sec
    ∧ (s.putTrackers v).nvm = s.nvm ∧ (s.putTrackers v).sess = s.sess ∧ (s.putTrackers v).long = s.long ∧ (s.putTrackers
    v).guest = s.guest ∧ (s.putTrackers v).jtag = s.jtag ∧ (s.putTrackers v).trace = s.trace ∧ (s.putTrackers v).pinMoves
    = s.pinMoves ∧ (s.putTrackers v).words = s.words ∧ (s.putTrackers v).cq = s.cq ∧ (s.putTrackers v).ports = s.ports := by
  and_intros <;> rfl

@[simp] theorem State.putFramers_framers (s : State) (v : Tab Framer) : (s.putFramers v).framers = v := rfl
@[simp] theorem State.putFramers_frame (s : State) (v : Tab Framer) :
    (s.putFramers v).pending = s.pending ∧ (s.putFramers v).freeUses = s.freeUses ∧ (s.putFramers v).out = s.out ∧
    (s.putFramers v).mode = s.mode ∧ (s.putFramers v).modeCause = s.modeCause ∧ (s.putFramers v).phase = s.phase ∧
    (s.putFramers v).straps = s.straps ∧ (s.putFramers v).perst = s.perst ∧ (s.putFramers v).vinHigh = s.vinHigh ∧
    (s.putFramers v).claimed = s.claimed ∧ (s.putFramers v).resetDue = s.resetDue ∧ (s.putFramers v).meas = s.meas ∧
    (s.putFramers v).hot = s.hot ∧ (s.putFramers v).tick = s.tick ∧ (s.putFramers v).wrap = s.wrap ∧ (s.putFramers
    v).hbOut = s.hbOut ∧ (s.putFramers v).cw = s.cw ∧ (s.putFramers v).ctx = s.ctx ∧ (s.putFramers v).ctxAt = s.ctxAt ∧
    (s.putFramers v).engines = s.engines ∧ (s.putFramers v).loaf = s.loaf ∧ (s.putFramers v).loafNext = s.loafNext ∧
    (s.putFramers v).loafDue = s.loafDue ∧ (s.putFramers v).batch = s.batch ∧ (s.putFramers v).suspended = s.suspended ∧
    (s.putFramers v).batchesDone = s.batchesDone ∧ (s.putFramers v).batchIds = s.batchIds ∧ (s.putFramers v).lastRing =
    s.lastRing ∧ (s.putFramers v).rings = s.rings ∧ (s.putFramers v).scratch = s.scratch ∧ (s.putFramers v).hq = s.hq ∧
    (s.putFramers v).hostRing = s.hostRing ∧ (s.putFramers v).intPend = s.intPend ∧ (s.putFramers v).msixTable =
    s.msixTable ∧ (s.putFramers v).msixPba = s.msixPba ∧ (s.putFramers v).violated = s.violated ∧ (s.putFramers v).chkMax
    = s.chkMax ∧ (s.putFramers v).captures = s.captures ∧ (s.putFramers v).due = s.due ∧ (s.putFramers v).lanes = s.lanes
    ∧ (s.putFramers v).quads = s.quads ∧ (s.putFramers v).flex = s.flex ∧ (s.putFramers v).recClk = s.recClk ∧
    (s.putFramers v).refClk = s.refClk ∧ (s.putFramers v).ilk = s.ilk ∧ (s.putFramers v).trackers = s.trackers ∧
    (s.putFramers v).mons = s.mons ∧ (s.putFramers v).oh = s.oh ∧ (s.putFramers v).ohT0 = s.ohT0 ∧ (s.putFramers v).cells
    = s.cells ∧ (s.putFramers v).cellsT0 = s.cellsT0 ∧ (s.putFramers v).binQ = s.binQ ∧ (s.putFramers v).binD = s.binD ∧
    (s.putFramers v).binLoad = s.binLoad ∧ (s.putFramers v).binRestored = s.binRestored ∧ (s.putFramers v).pmTime =
    s.pmTime ∧ (s.putFramers v).deck = s.deck ∧ (s.putFramers v).sels = s.sels ∧ (s.putFramers v).decks = s.decks ∧
    (s.putFramers v).rsz = s.rsz ∧ (s.putFramers v).prfRings = s.prfRings ∧ (s.putFramers v).hls = s.hls ∧ (s.putFramers
    v).groups = s.groups ∧ (s.putFramers v).substs = s.substs ∧ (s.putFramers v).unverified = s.unverified ∧ (s.putFramers
    v).firstRing = s.firstRing ∧ (s.putFramers v).pairs = s.pairs ∧ (s.putFramers v).audio = s.audio ∧ (s.putFramers
    v).sync = s.sync ∧ (s.putFramers v).dpll = s.dpll ∧ (s.putFramers v).doms = s.doms ∧ (s.putFramers v).vloops =
    s.vloops ∧ (s.putFramers v).rdn = s.rdn ∧ (s.putFramers v).bank = s.bank ∧ (s.putFramers v).spare = s.spare ∧
    (s.putFramers v).link = s.link ∧ (s.putFramers v).test = s.test ∧ (s.putFramers v).sec = s.sec ∧ (s.putFramers v).nvm
    = s.nvm ∧ (s.putFramers v).sess = s.sess ∧ (s.putFramers v).long = s.long ∧ (s.putFramers v).guest = s.guest ∧
    (s.putFramers v).jtag = s.jtag ∧ (s.putFramers v).trace = s.trace ∧ (s.putFramers v).pinMoves = s.pinMoves ∧
    (s.putFramers v).words = s.words ∧ (s.putFramers v).cq = s.cq ∧ (s.putFramers v).ports = s.ports := by
  and_intros <;> rfl

@[simp] theorem State.putMons_mons (s : State) (v : Tab Mon) : (s.putMons v).mons = v := rfl
@[simp] theorem State.putMons_frame (s : State) (v : Tab Mon) :
    (s.putMons v).pending = s.pending ∧ (s.putMons v).freeUses = s.freeUses ∧ (s.putMons v).out = s.out ∧ (s.putMons
    v).mode = s.mode ∧ (s.putMons v).modeCause = s.modeCause ∧ (s.putMons v).phase = s.phase ∧ (s.putMons v).straps =
    s.straps ∧ (s.putMons v).perst = s.perst ∧ (s.putMons v).vinHigh = s.vinHigh ∧ (s.putMons v).claimed = s.claimed ∧
    (s.putMons v).resetDue = s.resetDue ∧ (s.putMons v).meas = s.meas ∧ (s.putMons v).hot = s.hot ∧ (s.putMons v).tick =
    s.tick ∧ (s.putMons v).wrap = s.wrap ∧ (s.putMons v).hbOut = s.hbOut ∧ (s.putMons v).cw = s.cw ∧ (s.putMons v).ctx =
    s.ctx ∧ (s.putMons v).ctxAt = s.ctxAt ∧ (s.putMons v).engines = s.engines ∧ (s.putMons v).loaf = s.loaf ∧ (s.putMons
    v).loafNext = s.loafNext ∧ (s.putMons v).loafDue = s.loafDue ∧ (s.putMons v).batch = s.batch ∧ (s.putMons v).suspended
    = s.suspended ∧ (s.putMons v).batchesDone = s.batchesDone ∧ (s.putMons v).batchIds = s.batchIds ∧ (s.putMons
    v).lastRing = s.lastRing ∧ (s.putMons v).rings = s.rings ∧ (s.putMons v).scratch = s.scratch ∧ (s.putMons v).hq = s.hq
    ∧ (s.putMons v).hostRing = s.hostRing ∧ (s.putMons v).intPend = s.intPend ∧ (s.putMons v).msixTable = s.msixTable ∧
    (s.putMons v).msixPba = s.msixPba ∧ (s.putMons v).violated = s.violated ∧ (s.putMons v).chkMax = s.chkMax ∧ (s.putMons
    v).captures = s.captures ∧ (s.putMons v).due = s.due ∧ (s.putMons v).lanes = s.lanes ∧ (s.putMons v).quads = s.quads ∧
    (s.putMons v).flex = s.flex ∧ (s.putMons v).recClk = s.recClk ∧ (s.putMons v).refClk = s.refClk ∧ (s.putMons v).ilk =
    s.ilk ∧ (s.putMons v).trackers = s.trackers ∧ (s.putMons v).framers = s.framers ∧ (s.putMons v).oh = s.oh ∧ (s.putMons
    v).ohT0 = s.ohT0 ∧ (s.putMons v).cells = s.cells ∧ (s.putMons v).cellsT0 = s.cellsT0 ∧ (s.putMons v).binQ = s.binQ ∧
    (s.putMons v).binD = s.binD ∧ (s.putMons v).binLoad = s.binLoad ∧ (s.putMons v).binRestored = s.binRestored ∧
    (s.putMons v).pmTime = s.pmTime ∧ (s.putMons v).deck = s.deck ∧ (s.putMons v).sels = s.sels ∧ (s.putMons v).decks =
    s.decks ∧ (s.putMons v).rsz = s.rsz ∧ (s.putMons v).prfRings = s.prfRings ∧ (s.putMons v).hls = s.hls ∧ (s.putMons
    v).groups = s.groups ∧ (s.putMons v).substs = s.substs ∧ (s.putMons v).unverified = s.unverified ∧ (s.putMons
    v).firstRing = s.firstRing ∧ (s.putMons v).pairs = s.pairs ∧ (s.putMons v).audio = s.audio ∧ (s.putMons v).sync =
    s.sync ∧ (s.putMons v).dpll = s.dpll ∧ (s.putMons v).doms = s.doms ∧ (s.putMons v).vloops = s.vloops ∧ (s.putMons
    v).rdn = s.rdn ∧ (s.putMons v).bank = s.bank ∧ (s.putMons v).spare = s.spare ∧ (s.putMons v).link = s.link ∧
    (s.putMons v).test = s.test ∧ (s.putMons v).sec = s.sec ∧ (s.putMons v).nvm = s.nvm ∧ (s.putMons v).sess = s.sess ∧
    (s.putMons v).long = s.long ∧ (s.putMons v).guest = s.guest ∧ (s.putMons v).jtag = s.jtag ∧ (s.putMons v).trace =
    s.trace ∧ (s.putMons v).pinMoves = s.pinMoves ∧ (s.putMons v).words = s.words ∧ (s.putMons v).cq = s.cq ∧ (s.putMons
    v).ports = s.ports := by
  and_intros <;> rfl

@[simp] theorem State.putOh_oh (s : State) (v : Tab Word) : (s.putOh v).oh = v := rfl
@[simp] theorem State.putOh_frame (s : State) (v : Tab Word) :
    (s.putOh v).pending = s.pending ∧ (s.putOh v).freeUses = s.freeUses ∧ (s.putOh v).out = s.out ∧ (s.putOh v).mode =
    s.mode ∧ (s.putOh v).modeCause = s.modeCause ∧ (s.putOh v).phase = s.phase ∧ (s.putOh v).straps = s.straps ∧ (s.putOh
    v).perst = s.perst ∧ (s.putOh v).vinHigh = s.vinHigh ∧ (s.putOh v).claimed = s.claimed ∧ (s.putOh v).resetDue =
    s.resetDue ∧ (s.putOh v).meas = s.meas ∧ (s.putOh v).hot = s.hot ∧ (s.putOh v).tick = s.tick ∧ (s.putOh v).wrap =
    s.wrap ∧ (s.putOh v).hbOut = s.hbOut ∧ (s.putOh v).cw = s.cw ∧ (s.putOh v).ctx = s.ctx ∧ (s.putOh v).ctxAt = s.ctxAt ∧
    (s.putOh v).engines = s.engines ∧ (s.putOh v).loaf = s.loaf ∧ (s.putOh v).loafNext = s.loafNext ∧ (s.putOh v).loafDue
    = s.loafDue ∧ (s.putOh v).batch = s.batch ∧ (s.putOh v).suspended = s.suspended ∧ (s.putOh v).batchesDone =
    s.batchesDone ∧ (s.putOh v).batchIds = s.batchIds ∧ (s.putOh v).lastRing = s.lastRing ∧ (s.putOh v).rings = s.rings ∧
    (s.putOh v).scratch = s.scratch ∧ (s.putOh v).hq = s.hq ∧ (s.putOh v).hostRing = s.hostRing ∧ (s.putOh v).intPend =
    s.intPend ∧ (s.putOh v).msixTable = s.msixTable ∧ (s.putOh v).msixPba = s.msixPba ∧ (s.putOh v).violated = s.violated
    ∧ (s.putOh v).chkMax = s.chkMax ∧ (s.putOh v).captures = s.captures ∧ (s.putOh v).due = s.due ∧ (s.putOh v).lanes =
    s.lanes ∧ (s.putOh v).quads = s.quads ∧ (s.putOh v).flex = s.flex ∧ (s.putOh v).recClk = s.recClk ∧ (s.putOh v).refClk
    = s.refClk ∧ (s.putOh v).ilk = s.ilk ∧ (s.putOh v).trackers = s.trackers ∧ (s.putOh v).framers = s.framers ∧ (s.putOh
    v).mons = s.mons ∧ (s.putOh v).ohT0 = s.ohT0 ∧ (s.putOh v).cells = s.cells ∧ (s.putOh v).cellsT0 = s.cellsT0 ∧
    (s.putOh v).binQ = s.binQ ∧ (s.putOh v).binD = s.binD ∧ (s.putOh v).binLoad = s.binLoad ∧ (s.putOh v).binRestored =
    s.binRestored ∧ (s.putOh v).pmTime = s.pmTime ∧ (s.putOh v).deck = s.deck ∧ (s.putOh v).sels = s.sels ∧ (s.putOh
    v).decks = s.decks ∧ (s.putOh v).rsz = s.rsz ∧ (s.putOh v).prfRings = s.prfRings ∧ (s.putOh v).hls = s.hls ∧ (s.putOh
    v).groups = s.groups ∧ (s.putOh v).substs = s.substs ∧ (s.putOh v).unverified = s.unverified ∧ (s.putOh v).firstRing =
    s.firstRing ∧ (s.putOh v).pairs = s.pairs ∧ (s.putOh v).audio = s.audio ∧ (s.putOh v).sync = s.sync ∧ (s.putOh v).dpll
    = s.dpll ∧ (s.putOh v).doms = s.doms ∧ (s.putOh v).vloops = s.vloops ∧ (s.putOh v).rdn = s.rdn ∧ (s.putOh v).bank =
    s.bank ∧ (s.putOh v).spare = s.spare ∧ (s.putOh v).link = s.link ∧ (s.putOh v).test = s.test ∧ (s.putOh v).sec = s.sec
    ∧ (s.putOh v).nvm = s.nvm ∧ (s.putOh v).sess = s.sess ∧ (s.putOh v).long = s.long ∧ (s.putOh v).guest = s.guest ∧
    (s.putOh v).jtag = s.jtag ∧ (s.putOh v).trace = s.trace ∧ (s.putOh v).pinMoves = s.pinMoves ∧ (s.putOh v).words =
    s.words ∧ (s.putOh v).cq = s.cq ∧ (s.putOh v).ports = s.ports := by
  and_intros <;> rfl

@[simp] theorem State.putOhT0_ohT0 (s : State) (v : Tab Word) : (s.putOhT0 v).ohT0 = v := rfl
@[simp] theorem State.putOhT0_frame (s : State) (v : Tab Word) :
    (s.putOhT0 v).pending = s.pending ∧ (s.putOhT0 v).freeUses = s.freeUses ∧ (s.putOhT0 v).out = s.out ∧ (s.putOhT0
    v).mode = s.mode ∧ (s.putOhT0 v).modeCause = s.modeCause ∧ (s.putOhT0 v).phase = s.phase ∧ (s.putOhT0 v).straps =
    s.straps ∧ (s.putOhT0 v).perst = s.perst ∧ (s.putOhT0 v).vinHigh = s.vinHigh ∧ (s.putOhT0 v).claimed = s.claimed ∧
    (s.putOhT0 v).resetDue = s.resetDue ∧ (s.putOhT0 v).meas = s.meas ∧ (s.putOhT0 v).hot = s.hot ∧ (s.putOhT0 v).tick =
    s.tick ∧ (s.putOhT0 v).wrap = s.wrap ∧ (s.putOhT0 v).hbOut = s.hbOut ∧ (s.putOhT0 v).cw = s.cw ∧ (s.putOhT0 v).ctx =
    s.ctx ∧ (s.putOhT0 v).ctxAt = s.ctxAt ∧ (s.putOhT0 v).engines = s.engines ∧ (s.putOhT0 v).loaf = s.loaf ∧ (s.putOhT0
    v).loafNext = s.loafNext ∧ (s.putOhT0 v).loafDue = s.loafDue ∧ (s.putOhT0 v).batch = s.batch ∧ (s.putOhT0 v).suspended
    = s.suspended ∧ (s.putOhT0 v).batchesDone = s.batchesDone ∧ (s.putOhT0 v).batchIds = s.batchIds ∧ (s.putOhT0
    v).lastRing = s.lastRing ∧ (s.putOhT0 v).rings = s.rings ∧ (s.putOhT0 v).scratch = s.scratch ∧ (s.putOhT0 v).hq = s.hq
    ∧ (s.putOhT0 v).hostRing = s.hostRing ∧ (s.putOhT0 v).intPend = s.intPend ∧ (s.putOhT0 v).msixTable = s.msixTable ∧
    (s.putOhT0 v).msixPba = s.msixPba ∧ (s.putOhT0 v).violated = s.violated ∧ (s.putOhT0 v).chkMax = s.chkMax ∧ (s.putOhT0
    v).captures = s.captures ∧ (s.putOhT0 v).due = s.due ∧ (s.putOhT0 v).lanes = s.lanes ∧ (s.putOhT0 v).quads = s.quads ∧
    (s.putOhT0 v).flex = s.flex ∧ (s.putOhT0 v).recClk = s.recClk ∧ (s.putOhT0 v).refClk = s.refClk ∧ (s.putOhT0 v).ilk =
    s.ilk ∧ (s.putOhT0 v).trackers = s.trackers ∧ (s.putOhT0 v).framers = s.framers ∧ (s.putOhT0 v).mons = s.mons ∧
    (s.putOhT0 v).oh = s.oh ∧ (s.putOhT0 v).cells = s.cells ∧ (s.putOhT0 v).cellsT0 = s.cellsT0 ∧ (s.putOhT0 v).binQ =
    s.binQ ∧ (s.putOhT0 v).binD = s.binD ∧ (s.putOhT0 v).binLoad = s.binLoad ∧ (s.putOhT0 v).binRestored = s.binRestored ∧
    (s.putOhT0 v).pmTime = s.pmTime ∧ (s.putOhT0 v).deck = s.deck ∧ (s.putOhT0 v).sels = s.sels ∧ (s.putOhT0 v).decks =
    s.decks ∧ (s.putOhT0 v).rsz = s.rsz ∧ (s.putOhT0 v).prfRings = s.prfRings ∧ (s.putOhT0 v).hls = s.hls ∧ (s.putOhT0
    v).groups = s.groups ∧ (s.putOhT0 v).substs = s.substs ∧ (s.putOhT0 v).unverified = s.unverified ∧ (s.putOhT0
    v).firstRing = s.firstRing ∧ (s.putOhT0 v).pairs = s.pairs ∧ (s.putOhT0 v).audio = s.audio ∧ (s.putOhT0 v).sync =
    s.sync ∧ (s.putOhT0 v).dpll = s.dpll ∧ (s.putOhT0 v).doms = s.doms ∧ (s.putOhT0 v).vloops = s.vloops ∧ (s.putOhT0
    v).rdn = s.rdn ∧ (s.putOhT0 v).bank = s.bank ∧ (s.putOhT0 v).spare = s.spare ∧ (s.putOhT0 v).link = s.link ∧
    (s.putOhT0 v).test = s.test ∧ (s.putOhT0 v).sec = s.sec ∧ (s.putOhT0 v).nvm = s.nvm ∧ (s.putOhT0 v).sess = s.sess ∧
    (s.putOhT0 v).long = s.long ∧ (s.putOhT0 v).guest = s.guest ∧ (s.putOhT0 v).jtag = s.jtag ∧ (s.putOhT0 v).trace =
    s.trace ∧ (s.putOhT0 v).pinMoves = s.pinMoves ∧ (s.putOhT0 v).words = s.words ∧ (s.putOhT0 v).cq = s.cq ∧ (s.putOhT0
    v).ports = s.ports := by
  and_intros <;> rfl

@[simp] theorem State.putCells_cells (s : State) (v : Tab Cell) : (s.putCells v).cells = v := rfl
@[simp] theorem State.putCells_frame (s : State) (v : Tab Cell) :
    (s.putCells v).pending = s.pending ∧ (s.putCells v).freeUses = s.freeUses ∧ (s.putCells v).out = s.out ∧ (s.putCells
    v).mode = s.mode ∧ (s.putCells v).modeCause = s.modeCause ∧ (s.putCells v).phase = s.phase ∧ (s.putCells v).straps =
    s.straps ∧ (s.putCells v).perst = s.perst ∧ (s.putCells v).vinHigh = s.vinHigh ∧ (s.putCells v).claimed = s.claimed ∧
    (s.putCells v).resetDue = s.resetDue ∧ (s.putCells v).meas = s.meas ∧ (s.putCells v).hot = s.hot ∧ (s.putCells v).tick
    = s.tick ∧ (s.putCells v).wrap = s.wrap ∧ (s.putCells v).hbOut = s.hbOut ∧ (s.putCells v).cw = s.cw ∧ (s.putCells
    v).ctx = s.ctx ∧ (s.putCells v).ctxAt = s.ctxAt ∧ (s.putCells v).engines = s.engines ∧ (s.putCells v).loaf = s.loaf ∧
    (s.putCells v).loafNext = s.loafNext ∧ (s.putCells v).loafDue = s.loafDue ∧ (s.putCells v).batch = s.batch ∧
    (s.putCells v).suspended = s.suspended ∧ (s.putCells v).batchesDone = s.batchesDone ∧ (s.putCells v).batchIds =
    s.batchIds ∧ (s.putCells v).lastRing = s.lastRing ∧ (s.putCells v).rings = s.rings ∧ (s.putCells v).scratch =
    s.scratch ∧ (s.putCells v).hq = s.hq ∧ (s.putCells v).hostRing = s.hostRing ∧ (s.putCells v).intPend = s.intPend ∧
    (s.putCells v).msixTable = s.msixTable ∧ (s.putCells v).msixPba = s.msixPba ∧ (s.putCells v).violated = s.violated ∧
    (s.putCells v).chkMax = s.chkMax ∧ (s.putCells v).captures = s.captures ∧ (s.putCells v).due = s.due ∧ (s.putCells
    v).lanes = s.lanes ∧ (s.putCells v).quads = s.quads ∧ (s.putCells v).flex = s.flex ∧ (s.putCells v).recClk = s.recClk
    ∧ (s.putCells v).refClk = s.refClk ∧ (s.putCells v).ilk = s.ilk ∧ (s.putCells v).trackers = s.trackers ∧ (s.putCells
    v).framers = s.framers ∧ (s.putCells v).mons = s.mons ∧ (s.putCells v).oh = s.oh ∧ (s.putCells v).ohT0 = s.ohT0 ∧
    (s.putCells v).cellsT0 = s.cellsT0 ∧ (s.putCells v).binQ = s.binQ ∧ (s.putCells v).binD = s.binD ∧ (s.putCells
    v).binLoad = s.binLoad ∧ (s.putCells v).binRestored = s.binRestored ∧ (s.putCells v).pmTime = s.pmTime ∧ (s.putCells
    v).deck = s.deck ∧ (s.putCells v).sels = s.sels ∧ (s.putCells v).decks = s.decks ∧ (s.putCells v).rsz = s.rsz ∧
    (s.putCells v).prfRings = s.prfRings ∧ (s.putCells v).hls = s.hls ∧ (s.putCells v).groups = s.groups ∧ (s.putCells
    v).substs = s.substs ∧ (s.putCells v).unverified = s.unverified ∧ (s.putCells v).firstRing = s.firstRing ∧ (s.putCells
    v).pairs = s.pairs ∧ (s.putCells v).audio = s.audio ∧ (s.putCells v).sync = s.sync ∧ (s.putCells v).dpll = s.dpll ∧
    (s.putCells v).doms = s.doms ∧ (s.putCells v).vloops = s.vloops ∧ (s.putCells v).rdn = s.rdn ∧ (s.putCells v).bank =
    s.bank ∧ (s.putCells v).spare = s.spare ∧ (s.putCells v).link = s.link ∧ (s.putCells v).test = s.test ∧ (s.putCells
    v).sec = s.sec ∧ (s.putCells v).nvm = s.nvm ∧ (s.putCells v).sess = s.sess ∧ (s.putCells v).long = s.long ∧
    (s.putCells v).guest = s.guest ∧ (s.putCells v).jtag = s.jtag ∧ (s.putCells v).trace = s.trace ∧ (s.putCells
    v).pinMoves = s.pinMoves ∧ (s.putCells v).words = s.words ∧ (s.putCells v).cq = s.cq ∧ (s.putCells v).ports = s.ports := by
  and_intros <;> rfl

@[simp] theorem State.putCellsT0_cellsT0 (s : State) (v : Tab Cell) : (s.putCellsT0 v).cellsT0 = v := rfl
@[simp] theorem State.putCellsT0_frame (s : State) (v : Tab Cell) :
    (s.putCellsT0 v).pending = s.pending ∧ (s.putCellsT0 v).freeUses = s.freeUses ∧ (s.putCellsT0 v).out = s.out ∧
    (s.putCellsT0 v).mode = s.mode ∧ (s.putCellsT0 v).modeCause = s.modeCause ∧ (s.putCellsT0 v).phase = s.phase ∧
    (s.putCellsT0 v).straps = s.straps ∧ (s.putCellsT0 v).perst = s.perst ∧ (s.putCellsT0 v).vinHigh = s.vinHigh ∧
    (s.putCellsT0 v).claimed = s.claimed ∧ (s.putCellsT0 v).resetDue = s.resetDue ∧ (s.putCellsT0 v).meas = s.meas ∧
    (s.putCellsT0 v).hot = s.hot ∧ (s.putCellsT0 v).tick = s.tick ∧ (s.putCellsT0 v).wrap = s.wrap ∧ (s.putCellsT0
    v).hbOut = s.hbOut ∧ (s.putCellsT0 v).cw = s.cw ∧ (s.putCellsT0 v).ctx = s.ctx ∧ (s.putCellsT0 v).ctxAt = s.ctxAt ∧
    (s.putCellsT0 v).engines = s.engines ∧ (s.putCellsT0 v).loaf = s.loaf ∧ (s.putCellsT0 v).loafNext = s.loafNext ∧
    (s.putCellsT0 v).loafDue = s.loafDue ∧ (s.putCellsT0 v).batch = s.batch ∧ (s.putCellsT0 v).suspended = s.suspended ∧
    (s.putCellsT0 v).batchesDone = s.batchesDone ∧ (s.putCellsT0 v).batchIds = s.batchIds ∧ (s.putCellsT0 v).lastRing =
    s.lastRing ∧ (s.putCellsT0 v).rings = s.rings ∧ (s.putCellsT0 v).scratch = s.scratch ∧ (s.putCellsT0 v).hq = s.hq ∧
    (s.putCellsT0 v).hostRing = s.hostRing ∧ (s.putCellsT0 v).intPend = s.intPend ∧ (s.putCellsT0 v).msixTable =
    s.msixTable ∧ (s.putCellsT0 v).msixPba = s.msixPba ∧ (s.putCellsT0 v).violated = s.violated ∧ (s.putCellsT0 v).chkMax
    = s.chkMax ∧ (s.putCellsT0 v).captures = s.captures ∧ (s.putCellsT0 v).due = s.due ∧ (s.putCellsT0 v).lanes = s.lanes
    ∧ (s.putCellsT0 v).quads = s.quads ∧ (s.putCellsT0 v).flex = s.flex ∧ (s.putCellsT0 v).recClk = s.recClk ∧
    (s.putCellsT0 v).refClk = s.refClk ∧ (s.putCellsT0 v).ilk = s.ilk ∧ (s.putCellsT0 v).trackers = s.trackers ∧
    (s.putCellsT0 v).framers = s.framers ∧ (s.putCellsT0 v).mons = s.mons ∧ (s.putCellsT0 v).oh = s.oh ∧ (s.putCellsT0
    v).ohT0 = s.ohT0 ∧ (s.putCellsT0 v).cells = s.cells ∧ (s.putCellsT0 v).binQ = s.binQ ∧ (s.putCellsT0 v).binD = s.binD
    ∧ (s.putCellsT0 v).binLoad = s.binLoad ∧ (s.putCellsT0 v).binRestored = s.binRestored ∧ (s.putCellsT0 v).pmTime =
    s.pmTime ∧ (s.putCellsT0 v).deck = s.deck ∧ (s.putCellsT0 v).sels = s.sels ∧ (s.putCellsT0 v).decks = s.decks ∧
    (s.putCellsT0 v).rsz = s.rsz ∧ (s.putCellsT0 v).prfRings = s.prfRings ∧ (s.putCellsT0 v).hls = s.hls ∧ (s.putCellsT0
    v).groups = s.groups ∧ (s.putCellsT0 v).substs = s.substs ∧ (s.putCellsT0 v).unverified = s.unverified ∧ (s.putCellsT0
    v).firstRing = s.firstRing ∧ (s.putCellsT0 v).pairs = s.pairs ∧ (s.putCellsT0 v).audio = s.audio ∧ (s.putCellsT0
    v).sync = s.sync ∧ (s.putCellsT0 v).dpll = s.dpll ∧ (s.putCellsT0 v).doms = s.doms ∧ (s.putCellsT0 v).vloops =
    s.vloops ∧ (s.putCellsT0 v).rdn = s.rdn ∧ (s.putCellsT0 v).bank = s.bank ∧ (s.putCellsT0 v).spare = s.spare ∧
    (s.putCellsT0 v).link = s.link ∧ (s.putCellsT0 v).test = s.test ∧ (s.putCellsT0 v).sec = s.sec ∧ (s.putCellsT0 v).nvm
    = s.nvm ∧ (s.putCellsT0 v).sess = s.sess ∧ (s.putCellsT0 v).long = s.long ∧ (s.putCellsT0 v).guest = s.guest ∧
    (s.putCellsT0 v).jtag = s.jtag ∧ (s.putCellsT0 v).trace = s.trace ∧ (s.putCellsT0 v).pinMoves = s.pinMoves ∧
    (s.putCellsT0 v).words = s.words ∧ (s.putCellsT0 v).cq = s.cq ∧ (s.putCellsT0 v).ports = s.ports := by
  and_intros <;> rfl

@[simp] theorem State.putBinQ_binQ (s : State) (v : Nat) : (s.putBinQ v).binQ = v := rfl
@[simp] theorem State.putBinQ_frame (s : State) (v : Nat) :
    (s.putBinQ v).pending = s.pending ∧ (s.putBinQ v).freeUses = s.freeUses ∧ (s.putBinQ v).out = s.out ∧ (s.putBinQ
    v).mode = s.mode ∧ (s.putBinQ v).modeCause = s.modeCause ∧ (s.putBinQ v).phase = s.phase ∧ (s.putBinQ v).straps =
    s.straps ∧ (s.putBinQ v).perst = s.perst ∧ (s.putBinQ v).vinHigh = s.vinHigh ∧ (s.putBinQ v).claimed = s.claimed ∧
    (s.putBinQ v).resetDue = s.resetDue ∧ (s.putBinQ v).meas = s.meas ∧ (s.putBinQ v).hot = s.hot ∧ (s.putBinQ v).tick =
    s.tick ∧ (s.putBinQ v).wrap = s.wrap ∧ (s.putBinQ v).hbOut = s.hbOut ∧ (s.putBinQ v).cw = s.cw ∧ (s.putBinQ v).ctx =
    s.ctx ∧ (s.putBinQ v).ctxAt = s.ctxAt ∧ (s.putBinQ v).engines = s.engines ∧ (s.putBinQ v).loaf = s.loaf ∧ (s.putBinQ
    v).loafNext = s.loafNext ∧ (s.putBinQ v).loafDue = s.loafDue ∧ (s.putBinQ v).batch = s.batch ∧ (s.putBinQ v).suspended
    = s.suspended ∧ (s.putBinQ v).batchesDone = s.batchesDone ∧ (s.putBinQ v).batchIds = s.batchIds ∧ (s.putBinQ
    v).lastRing = s.lastRing ∧ (s.putBinQ v).rings = s.rings ∧ (s.putBinQ v).scratch = s.scratch ∧ (s.putBinQ v).hq = s.hq
    ∧ (s.putBinQ v).hostRing = s.hostRing ∧ (s.putBinQ v).intPend = s.intPend ∧ (s.putBinQ v).msixTable = s.msixTable ∧
    (s.putBinQ v).msixPba = s.msixPba ∧ (s.putBinQ v).violated = s.violated ∧ (s.putBinQ v).chkMax = s.chkMax ∧ (s.putBinQ
    v).captures = s.captures ∧ (s.putBinQ v).due = s.due ∧ (s.putBinQ v).lanes = s.lanes ∧ (s.putBinQ v).quads = s.quads ∧
    (s.putBinQ v).flex = s.flex ∧ (s.putBinQ v).recClk = s.recClk ∧ (s.putBinQ v).refClk = s.refClk ∧ (s.putBinQ v).ilk =
    s.ilk ∧ (s.putBinQ v).trackers = s.trackers ∧ (s.putBinQ v).framers = s.framers ∧ (s.putBinQ v).mons = s.mons ∧
    (s.putBinQ v).oh = s.oh ∧ (s.putBinQ v).ohT0 = s.ohT0 ∧ (s.putBinQ v).cells = s.cells ∧ (s.putBinQ v).cellsT0 =
    s.cellsT0 ∧ (s.putBinQ v).binD = s.binD ∧ (s.putBinQ v).binLoad = s.binLoad ∧ (s.putBinQ v).binRestored =
    s.binRestored ∧ (s.putBinQ v).pmTime = s.pmTime ∧ (s.putBinQ v).deck = s.deck ∧ (s.putBinQ v).sels = s.sels ∧
    (s.putBinQ v).decks = s.decks ∧ (s.putBinQ v).rsz = s.rsz ∧ (s.putBinQ v).prfRings = s.prfRings ∧ (s.putBinQ v).hls =
    s.hls ∧ (s.putBinQ v).groups = s.groups ∧ (s.putBinQ v).substs = s.substs ∧ (s.putBinQ v).unverified = s.unverified ∧
    (s.putBinQ v).firstRing = s.firstRing ∧ (s.putBinQ v).pairs = s.pairs ∧ (s.putBinQ v).audio = s.audio ∧ (s.putBinQ
    v).sync = s.sync ∧ (s.putBinQ v).dpll = s.dpll ∧ (s.putBinQ v).doms = s.doms ∧ (s.putBinQ v).vloops = s.vloops ∧
    (s.putBinQ v).rdn = s.rdn ∧ (s.putBinQ v).bank = s.bank ∧ (s.putBinQ v).spare = s.spare ∧ (s.putBinQ v).link = s.link
    ∧ (s.putBinQ v).test = s.test ∧ (s.putBinQ v).sec = s.sec ∧ (s.putBinQ v).nvm = s.nvm ∧ (s.putBinQ v).sess = s.sess ∧
    (s.putBinQ v).long = s.long ∧ (s.putBinQ v).guest = s.guest ∧ (s.putBinQ v).jtag = s.jtag ∧ (s.putBinQ v).trace =
    s.trace ∧ (s.putBinQ v).pinMoves = s.pinMoves ∧ (s.putBinQ v).words = s.words ∧ (s.putBinQ v).cq = s.cq ∧ (s.putBinQ
    v).ports = s.ports := by
  and_intros <;> rfl

@[simp] theorem State.putBinD_binD (s : State) (v : Nat) : (s.putBinD v).binD = v := rfl
@[simp] theorem State.putBinD_frame (s : State) (v : Nat) :
    (s.putBinD v).pending = s.pending ∧ (s.putBinD v).freeUses = s.freeUses ∧ (s.putBinD v).out = s.out ∧ (s.putBinD
    v).mode = s.mode ∧ (s.putBinD v).modeCause = s.modeCause ∧ (s.putBinD v).phase = s.phase ∧ (s.putBinD v).straps =
    s.straps ∧ (s.putBinD v).perst = s.perst ∧ (s.putBinD v).vinHigh = s.vinHigh ∧ (s.putBinD v).claimed = s.claimed ∧
    (s.putBinD v).resetDue = s.resetDue ∧ (s.putBinD v).meas = s.meas ∧ (s.putBinD v).hot = s.hot ∧ (s.putBinD v).tick =
    s.tick ∧ (s.putBinD v).wrap = s.wrap ∧ (s.putBinD v).hbOut = s.hbOut ∧ (s.putBinD v).cw = s.cw ∧ (s.putBinD v).ctx =
    s.ctx ∧ (s.putBinD v).ctxAt = s.ctxAt ∧ (s.putBinD v).engines = s.engines ∧ (s.putBinD v).loaf = s.loaf ∧ (s.putBinD
    v).loafNext = s.loafNext ∧ (s.putBinD v).loafDue = s.loafDue ∧ (s.putBinD v).batch = s.batch ∧ (s.putBinD v).suspended
    = s.suspended ∧ (s.putBinD v).batchesDone = s.batchesDone ∧ (s.putBinD v).batchIds = s.batchIds ∧ (s.putBinD
    v).lastRing = s.lastRing ∧ (s.putBinD v).rings = s.rings ∧ (s.putBinD v).scratch = s.scratch ∧ (s.putBinD v).hq = s.hq
    ∧ (s.putBinD v).hostRing = s.hostRing ∧ (s.putBinD v).intPend = s.intPend ∧ (s.putBinD v).msixTable = s.msixTable ∧
    (s.putBinD v).msixPba = s.msixPba ∧ (s.putBinD v).violated = s.violated ∧ (s.putBinD v).chkMax = s.chkMax ∧ (s.putBinD
    v).captures = s.captures ∧ (s.putBinD v).due = s.due ∧ (s.putBinD v).lanes = s.lanes ∧ (s.putBinD v).quads = s.quads ∧
    (s.putBinD v).flex = s.flex ∧ (s.putBinD v).recClk = s.recClk ∧ (s.putBinD v).refClk = s.refClk ∧ (s.putBinD v).ilk =
    s.ilk ∧ (s.putBinD v).trackers = s.trackers ∧ (s.putBinD v).framers = s.framers ∧ (s.putBinD v).mons = s.mons ∧
    (s.putBinD v).oh = s.oh ∧ (s.putBinD v).ohT0 = s.ohT0 ∧ (s.putBinD v).cells = s.cells ∧ (s.putBinD v).cellsT0 =
    s.cellsT0 ∧ (s.putBinD v).binQ = s.binQ ∧ (s.putBinD v).binLoad = s.binLoad ∧ (s.putBinD v).binRestored =
    s.binRestored ∧ (s.putBinD v).pmTime = s.pmTime ∧ (s.putBinD v).deck = s.deck ∧ (s.putBinD v).sels = s.sels ∧
    (s.putBinD v).decks = s.decks ∧ (s.putBinD v).rsz = s.rsz ∧ (s.putBinD v).prfRings = s.prfRings ∧ (s.putBinD v).hls =
    s.hls ∧ (s.putBinD v).groups = s.groups ∧ (s.putBinD v).substs = s.substs ∧ (s.putBinD v).unverified = s.unverified ∧
    (s.putBinD v).firstRing = s.firstRing ∧ (s.putBinD v).pairs = s.pairs ∧ (s.putBinD v).audio = s.audio ∧ (s.putBinD
    v).sync = s.sync ∧ (s.putBinD v).dpll = s.dpll ∧ (s.putBinD v).doms = s.doms ∧ (s.putBinD v).vloops = s.vloops ∧
    (s.putBinD v).rdn = s.rdn ∧ (s.putBinD v).bank = s.bank ∧ (s.putBinD v).spare = s.spare ∧ (s.putBinD v).link = s.link
    ∧ (s.putBinD v).test = s.test ∧ (s.putBinD v).sec = s.sec ∧ (s.putBinD v).nvm = s.nvm ∧ (s.putBinD v).sess = s.sess ∧
    (s.putBinD v).long = s.long ∧ (s.putBinD v).guest = s.guest ∧ (s.putBinD v).jtag = s.jtag ∧ (s.putBinD v).trace =
    s.trace ∧ (s.putBinD v).pinMoves = s.pinMoves ∧ (s.putBinD v).words = s.words ∧ (s.putBinD v).cq = s.cq ∧ (s.putBinD
    v).ports = s.ports := by
  and_intros <;> rfl

@[simp] theorem State.putBinLoad_binLoad (s : State) (v : Option (Nat × Nat)) : (s.putBinLoad v).binLoad = v := rfl
@[simp] theorem State.putBinLoad_frame (s : State) (v : Option (Nat × Nat)) :
    (s.putBinLoad v).pending = s.pending ∧ (s.putBinLoad v).freeUses = s.freeUses ∧ (s.putBinLoad v).out = s.out ∧
    (s.putBinLoad v).mode = s.mode ∧ (s.putBinLoad v).modeCause = s.modeCause ∧ (s.putBinLoad v).phase = s.phase ∧
    (s.putBinLoad v).straps = s.straps ∧ (s.putBinLoad v).perst = s.perst ∧ (s.putBinLoad v).vinHigh = s.vinHigh ∧
    (s.putBinLoad v).claimed = s.claimed ∧ (s.putBinLoad v).resetDue = s.resetDue ∧ (s.putBinLoad v).meas = s.meas ∧
    (s.putBinLoad v).hot = s.hot ∧ (s.putBinLoad v).tick = s.tick ∧ (s.putBinLoad v).wrap = s.wrap ∧ (s.putBinLoad
    v).hbOut = s.hbOut ∧ (s.putBinLoad v).cw = s.cw ∧ (s.putBinLoad v).ctx = s.ctx ∧ (s.putBinLoad v).ctxAt = s.ctxAt ∧
    (s.putBinLoad v).engines = s.engines ∧ (s.putBinLoad v).loaf = s.loaf ∧ (s.putBinLoad v).loafNext = s.loafNext ∧
    (s.putBinLoad v).loafDue = s.loafDue ∧ (s.putBinLoad v).batch = s.batch ∧ (s.putBinLoad v).suspended = s.suspended ∧
    (s.putBinLoad v).batchesDone = s.batchesDone ∧ (s.putBinLoad v).batchIds = s.batchIds ∧ (s.putBinLoad v).lastRing =
    s.lastRing ∧ (s.putBinLoad v).rings = s.rings ∧ (s.putBinLoad v).scratch = s.scratch ∧ (s.putBinLoad v).hq = s.hq ∧
    (s.putBinLoad v).hostRing = s.hostRing ∧ (s.putBinLoad v).intPend = s.intPend ∧ (s.putBinLoad v).msixTable =
    s.msixTable ∧ (s.putBinLoad v).msixPba = s.msixPba ∧ (s.putBinLoad v).violated = s.violated ∧ (s.putBinLoad v).chkMax
    = s.chkMax ∧ (s.putBinLoad v).captures = s.captures ∧ (s.putBinLoad v).due = s.due ∧ (s.putBinLoad v).lanes = s.lanes
    ∧ (s.putBinLoad v).quads = s.quads ∧ (s.putBinLoad v).flex = s.flex ∧ (s.putBinLoad v).recClk = s.recClk ∧
    (s.putBinLoad v).refClk = s.refClk ∧ (s.putBinLoad v).ilk = s.ilk ∧ (s.putBinLoad v).trackers = s.trackers ∧
    (s.putBinLoad v).framers = s.framers ∧ (s.putBinLoad v).mons = s.mons ∧ (s.putBinLoad v).oh = s.oh ∧ (s.putBinLoad
    v).ohT0 = s.ohT0 ∧ (s.putBinLoad v).cells = s.cells ∧ (s.putBinLoad v).cellsT0 = s.cellsT0 ∧ (s.putBinLoad v).binQ =
    s.binQ ∧ (s.putBinLoad v).binD = s.binD ∧ (s.putBinLoad v).binRestored = s.binRestored ∧ (s.putBinLoad v).pmTime =
    s.pmTime ∧ (s.putBinLoad v).deck = s.deck ∧ (s.putBinLoad v).sels = s.sels ∧ (s.putBinLoad v).decks = s.decks ∧
    (s.putBinLoad v).rsz = s.rsz ∧ (s.putBinLoad v).prfRings = s.prfRings ∧ (s.putBinLoad v).hls = s.hls ∧ (s.putBinLoad
    v).groups = s.groups ∧ (s.putBinLoad v).substs = s.substs ∧ (s.putBinLoad v).unverified = s.unverified ∧ (s.putBinLoad
    v).firstRing = s.firstRing ∧ (s.putBinLoad v).pairs = s.pairs ∧ (s.putBinLoad v).audio = s.audio ∧ (s.putBinLoad
    v).sync = s.sync ∧ (s.putBinLoad v).dpll = s.dpll ∧ (s.putBinLoad v).doms = s.doms ∧ (s.putBinLoad v).vloops =
    s.vloops ∧ (s.putBinLoad v).rdn = s.rdn ∧ (s.putBinLoad v).bank = s.bank ∧ (s.putBinLoad v).spare = s.spare ∧
    (s.putBinLoad v).link = s.link ∧ (s.putBinLoad v).test = s.test ∧ (s.putBinLoad v).sec = s.sec ∧ (s.putBinLoad v).nvm
    = s.nvm ∧ (s.putBinLoad v).sess = s.sess ∧ (s.putBinLoad v).long = s.long ∧ (s.putBinLoad v).guest = s.guest ∧
    (s.putBinLoad v).jtag = s.jtag ∧ (s.putBinLoad v).trace = s.trace ∧ (s.putBinLoad v).pinMoves = s.pinMoves ∧
    (s.putBinLoad v).words = s.words ∧ (s.putBinLoad v).cq = s.cq ∧ (s.putBinLoad v).ports = s.ports := by
  and_intros <;> rfl

@[simp] theorem State.putBinRestored_binRestored (s : State) (v : Bool) : (s.putBinRestored v).binRestored = v := rfl
@[simp] theorem State.putBinRestored_frame (s : State) (v : Bool) :
    (s.putBinRestored v).pending = s.pending ∧ (s.putBinRestored v).freeUses = s.freeUses ∧ (s.putBinRestored v).out =
    s.out ∧ (s.putBinRestored v).mode = s.mode ∧ (s.putBinRestored v).modeCause = s.modeCause ∧ (s.putBinRestored v).phase
    = s.phase ∧ (s.putBinRestored v).straps = s.straps ∧ (s.putBinRestored v).perst = s.perst ∧ (s.putBinRestored
    v).vinHigh = s.vinHigh ∧ (s.putBinRestored v).claimed = s.claimed ∧ (s.putBinRestored v).resetDue = s.resetDue ∧
    (s.putBinRestored v).meas = s.meas ∧ (s.putBinRestored v).hot = s.hot ∧ (s.putBinRestored v).tick = s.tick ∧
    (s.putBinRestored v).wrap = s.wrap ∧ (s.putBinRestored v).hbOut = s.hbOut ∧ (s.putBinRestored v).cw = s.cw ∧
    (s.putBinRestored v).ctx = s.ctx ∧ (s.putBinRestored v).ctxAt = s.ctxAt ∧ (s.putBinRestored v).engines = s.engines ∧
    (s.putBinRestored v).loaf = s.loaf ∧ (s.putBinRestored v).loafNext = s.loafNext ∧ (s.putBinRestored v).loafDue =
    s.loafDue ∧ (s.putBinRestored v).batch = s.batch ∧ (s.putBinRestored v).suspended = s.suspended ∧ (s.putBinRestored
    v).batchesDone = s.batchesDone ∧ (s.putBinRestored v).batchIds = s.batchIds ∧ (s.putBinRestored v).lastRing =
    s.lastRing ∧ (s.putBinRestored v).rings = s.rings ∧ (s.putBinRestored v).scratch = s.scratch ∧ (s.putBinRestored v).hq
    = s.hq ∧ (s.putBinRestored v).hostRing = s.hostRing ∧ (s.putBinRestored v).intPend = s.intPend ∧ (s.putBinRestored
    v).msixTable = s.msixTable ∧ (s.putBinRestored v).msixPba = s.msixPba ∧ (s.putBinRestored v).violated = s.violated ∧
    (s.putBinRestored v).chkMax = s.chkMax ∧ (s.putBinRestored v).captures = s.captures ∧ (s.putBinRestored v).due = s.due
    ∧ (s.putBinRestored v).lanes = s.lanes ∧ (s.putBinRestored v).quads = s.quads ∧ (s.putBinRestored v).flex = s.flex ∧
    (s.putBinRestored v).recClk = s.recClk ∧ (s.putBinRestored v).refClk = s.refClk ∧ (s.putBinRestored v).ilk = s.ilk ∧
    (s.putBinRestored v).trackers = s.trackers ∧ (s.putBinRestored v).framers = s.framers ∧ (s.putBinRestored v).mons =
    s.mons ∧ (s.putBinRestored v).oh = s.oh ∧ (s.putBinRestored v).ohT0 = s.ohT0 ∧ (s.putBinRestored v).cells = s.cells ∧
    (s.putBinRestored v).cellsT0 = s.cellsT0 ∧ (s.putBinRestored v).binQ = s.binQ ∧ (s.putBinRestored v).binD = s.binD ∧
    (s.putBinRestored v).binLoad = s.binLoad ∧ (s.putBinRestored v).pmTime = s.pmTime ∧ (s.putBinRestored v).deck = s.deck
    ∧ (s.putBinRestored v).sels = s.sels ∧ (s.putBinRestored v).decks = s.decks ∧ (s.putBinRestored v).rsz = s.rsz ∧
    (s.putBinRestored v).prfRings = s.prfRings ∧ (s.putBinRestored v).hls = s.hls ∧ (s.putBinRestored v).groups = s.groups
    ∧ (s.putBinRestored v).substs = s.substs ∧ (s.putBinRestored v).unverified = s.unverified ∧ (s.putBinRestored
    v).firstRing = s.firstRing ∧ (s.putBinRestored v).pairs = s.pairs ∧ (s.putBinRestored v).audio = s.audio ∧
    (s.putBinRestored v).sync = s.sync ∧ (s.putBinRestored v).dpll = s.dpll ∧ (s.putBinRestored v).doms = s.doms ∧
    (s.putBinRestored v).vloops = s.vloops ∧ (s.putBinRestored v).rdn = s.rdn ∧ (s.putBinRestored v).bank = s.bank ∧
    (s.putBinRestored v).spare = s.spare ∧ (s.putBinRestored v).link = s.link ∧ (s.putBinRestored v).test = s.test ∧
    (s.putBinRestored v).sec = s.sec ∧ (s.putBinRestored v).nvm = s.nvm ∧ (s.putBinRestored v).sess = s.sess ∧
    (s.putBinRestored v).long = s.long ∧ (s.putBinRestored v).guest = s.guest ∧ (s.putBinRestored v).jtag = s.jtag ∧
    (s.putBinRestored v).trace = s.trace ∧ (s.putBinRestored v).pinMoves = s.pinMoves ∧ (s.putBinRestored v).words =
    s.words ∧ (s.putBinRestored v).cq = s.cq ∧ (s.putBinRestored v).ports = s.ports := by
  and_intros <;> rfl

@[simp] theorem State.putPmTime_pmTime (s : State) (v : Word) : (s.putPmTime v).pmTime = v := rfl
@[simp] theorem State.putPmTime_frame (s : State) (v : Word) :
    (s.putPmTime v).pending = s.pending ∧ (s.putPmTime v).freeUses = s.freeUses ∧ (s.putPmTime v).out = s.out ∧
    (s.putPmTime v).mode = s.mode ∧ (s.putPmTime v).modeCause = s.modeCause ∧ (s.putPmTime v).phase = s.phase ∧
    (s.putPmTime v).straps = s.straps ∧ (s.putPmTime v).perst = s.perst ∧ (s.putPmTime v).vinHigh = s.vinHigh ∧
    (s.putPmTime v).claimed = s.claimed ∧ (s.putPmTime v).resetDue = s.resetDue ∧ (s.putPmTime v).meas = s.meas ∧
    (s.putPmTime v).hot = s.hot ∧ (s.putPmTime v).tick = s.tick ∧ (s.putPmTime v).wrap = s.wrap ∧ (s.putPmTime v).hbOut =
    s.hbOut ∧ (s.putPmTime v).cw = s.cw ∧ (s.putPmTime v).ctx = s.ctx ∧ (s.putPmTime v).ctxAt = s.ctxAt ∧ (s.putPmTime
    v).engines = s.engines ∧ (s.putPmTime v).loaf = s.loaf ∧ (s.putPmTime v).loafNext = s.loafNext ∧ (s.putPmTime
    v).loafDue = s.loafDue ∧ (s.putPmTime v).batch = s.batch ∧ (s.putPmTime v).suspended = s.suspended ∧ (s.putPmTime
    v).batchesDone = s.batchesDone ∧ (s.putPmTime v).batchIds = s.batchIds ∧ (s.putPmTime v).lastRing = s.lastRing ∧
    (s.putPmTime v).rings = s.rings ∧ (s.putPmTime v).scratch = s.scratch ∧ (s.putPmTime v).hq = s.hq ∧ (s.putPmTime
    v).hostRing = s.hostRing ∧ (s.putPmTime v).intPend = s.intPend ∧ (s.putPmTime v).msixTable = s.msixTable ∧
    (s.putPmTime v).msixPba = s.msixPba ∧ (s.putPmTime v).violated = s.violated ∧ (s.putPmTime v).chkMax = s.chkMax ∧
    (s.putPmTime v).captures = s.captures ∧ (s.putPmTime v).due = s.due ∧ (s.putPmTime v).lanes = s.lanes ∧ (s.putPmTime
    v).quads = s.quads ∧ (s.putPmTime v).flex = s.flex ∧ (s.putPmTime v).recClk = s.recClk ∧ (s.putPmTime v).refClk =
    s.refClk ∧ (s.putPmTime v).ilk = s.ilk ∧ (s.putPmTime v).trackers = s.trackers ∧ (s.putPmTime v).framers = s.framers ∧
    (s.putPmTime v).mons = s.mons ∧ (s.putPmTime v).oh = s.oh ∧ (s.putPmTime v).ohT0 = s.ohT0 ∧ (s.putPmTime v).cells =
    s.cells ∧ (s.putPmTime v).cellsT0 = s.cellsT0 ∧ (s.putPmTime v).binQ = s.binQ ∧ (s.putPmTime v).binD = s.binD ∧
    (s.putPmTime v).binLoad = s.binLoad ∧ (s.putPmTime v).binRestored = s.binRestored ∧ (s.putPmTime v).deck = s.deck ∧
    (s.putPmTime v).sels = s.sels ∧ (s.putPmTime v).decks = s.decks ∧ (s.putPmTime v).rsz = s.rsz ∧ (s.putPmTime
    v).prfRings = s.prfRings ∧ (s.putPmTime v).hls = s.hls ∧ (s.putPmTime v).groups = s.groups ∧ (s.putPmTime v).substs =
    s.substs ∧ (s.putPmTime v).unverified = s.unverified ∧ (s.putPmTime v).firstRing = s.firstRing ∧ (s.putPmTime v).pairs
    = s.pairs ∧ (s.putPmTime v).audio = s.audio ∧ (s.putPmTime v).sync = s.sync ∧ (s.putPmTime v).dpll = s.dpll ∧
    (s.putPmTime v).doms = s.doms ∧ (s.putPmTime v).vloops = s.vloops ∧ (s.putPmTime v).rdn = s.rdn ∧ (s.putPmTime v).bank
    = s.bank ∧ (s.putPmTime v).spare = s.spare ∧ (s.putPmTime v).link = s.link ∧ (s.putPmTime v).test = s.test ∧
    (s.putPmTime v).sec = s.sec ∧ (s.putPmTime v).nvm = s.nvm ∧ (s.putPmTime v).sess = s.sess ∧ (s.putPmTime v).long =
    s.long ∧ (s.putPmTime v).guest = s.guest ∧ (s.putPmTime v).jtag = s.jtag ∧ (s.putPmTime v).trace = s.trace ∧
    (s.putPmTime v).pinMoves = s.pinMoves ∧ (s.putPmTime v).words = s.words ∧ (s.putPmTime v).cq = s.cq ∧ (s.putPmTime
    v).ports = s.ports := by
  and_intros <;> rfl

@[simp] theorem State.putDeck_deck (s : State) (v : Tab Word) : (s.putDeck v).deck = v := rfl
@[simp] theorem State.putDeck_frame (s : State) (v : Tab Word) :
    (s.putDeck v).pending = s.pending ∧ (s.putDeck v).freeUses = s.freeUses ∧ (s.putDeck v).out = s.out ∧ (s.putDeck
    v).mode = s.mode ∧ (s.putDeck v).modeCause = s.modeCause ∧ (s.putDeck v).phase = s.phase ∧ (s.putDeck v).straps =
    s.straps ∧ (s.putDeck v).perst = s.perst ∧ (s.putDeck v).vinHigh = s.vinHigh ∧ (s.putDeck v).claimed = s.claimed ∧
    (s.putDeck v).resetDue = s.resetDue ∧ (s.putDeck v).meas = s.meas ∧ (s.putDeck v).hot = s.hot ∧ (s.putDeck v).tick =
    s.tick ∧ (s.putDeck v).wrap = s.wrap ∧ (s.putDeck v).hbOut = s.hbOut ∧ (s.putDeck v).cw = s.cw ∧ (s.putDeck v).ctx =
    s.ctx ∧ (s.putDeck v).ctxAt = s.ctxAt ∧ (s.putDeck v).engines = s.engines ∧ (s.putDeck v).loaf = s.loaf ∧ (s.putDeck
    v).loafNext = s.loafNext ∧ (s.putDeck v).loafDue = s.loafDue ∧ (s.putDeck v).batch = s.batch ∧ (s.putDeck v).suspended
    = s.suspended ∧ (s.putDeck v).batchesDone = s.batchesDone ∧ (s.putDeck v).batchIds = s.batchIds ∧ (s.putDeck
    v).lastRing = s.lastRing ∧ (s.putDeck v).rings = s.rings ∧ (s.putDeck v).scratch = s.scratch ∧ (s.putDeck v).hq = s.hq
    ∧ (s.putDeck v).hostRing = s.hostRing ∧ (s.putDeck v).intPend = s.intPend ∧ (s.putDeck v).msixTable = s.msixTable ∧
    (s.putDeck v).msixPba = s.msixPba ∧ (s.putDeck v).violated = s.violated ∧ (s.putDeck v).chkMax = s.chkMax ∧ (s.putDeck
    v).captures = s.captures ∧ (s.putDeck v).due = s.due ∧ (s.putDeck v).lanes = s.lanes ∧ (s.putDeck v).quads = s.quads ∧
    (s.putDeck v).flex = s.flex ∧ (s.putDeck v).recClk = s.recClk ∧ (s.putDeck v).refClk = s.refClk ∧ (s.putDeck v).ilk =
    s.ilk ∧ (s.putDeck v).trackers = s.trackers ∧ (s.putDeck v).framers = s.framers ∧ (s.putDeck v).mons = s.mons ∧
    (s.putDeck v).oh = s.oh ∧ (s.putDeck v).ohT0 = s.ohT0 ∧ (s.putDeck v).cells = s.cells ∧ (s.putDeck v).cellsT0 =
    s.cellsT0 ∧ (s.putDeck v).binQ = s.binQ ∧ (s.putDeck v).binD = s.binD ∧ (s.putDeck v).binLoad = s.binLoad ∧ (s.putDeck
    v).binRestored = s.binRestored ∧ (s.putDeck v).pmTime = s.pmTime ∧ (s.putDeck v).sels = s.sels ∧ (s.putDeck v).decks =
    s.decks ∧ (s.putDeck v).rsz = s.rsz ∧ (s.putDeck v).prfRings = s.prfRings ∧ (s.putDeck v).hls = s.hls ∧ (s.putDeck
    v).groups = s.groups ∧ (s.putDeck v).substs = s.substs ∧ (s.putDeck v).unverified = s.unverified ∧ (s.putDeck
    v).firstRing = s.firstRing ∧ (s.putDeck v).pairs = s.pairs ∧ (s.putDeck v).audio = s.audio ∧ (s.putDeck v).sync =
    s.sync ∧ (s.putDeck v).dpll = s.dpll ∧ (s.putDeck v).doms = s.doms ∧ (s.putDeck v).vloops = s.vloops ∧ (s.putDeck
    v).rdn = s.rdn ∧ (s.putDeck v).bank = s.bank ∧ (s.putDeck v).spare = s.spare ∧ (s.putDeck v).link = s.link ∧
    (s.putDeck v).test = s.test ∧ (s.putDeck v).sec = s.sec ∧ (s.putDeck v).nvm = s.nvm ∧ (s.putDeck v).sess = s.sess ∧
    (s.putDeck v).long = s.long ∧ (s.putDeck v).guest = s.guest ∧ (s.putDeck v).jtag = s.jtag ∧ (s.putDeck v).trace =
    s.trace ∧ (s.putDeck v).pinMoves = s.pinMoves ∧ (s.putDeck v).words = s.words ∧ (s.putDeck v).cq = s.cq ∧ (s.putDeck
    v).ports = s.ports := by
  and_intros <;> rfl

@[simp] theorem State.putSels_sels (s : State) (v : Tab Bool) : (s.putSels v).sels = v := rfl
@[simp] theorem State.putSels_frame (s : State) (v : Tab Bool) :
    (s.putSels v).pending = s.pending ∧ (s.putSels v).freeUses = s.freeUses ∧ (s.putSels v).out = s.out ∧ (s.putSels
    v).mode = s.mode ∧ (s.putSels v).modeCause = s.modeCause ∧ (s.putSels v).phase = s.phase ∧ (s.putSels v).straps =
    s.straps ∧ (s.putSels v).perst = s.perst ∧ (s.putSels v).vinHigh = s.vinHigh ∧ (s.putSels v).claimed = s.claimed ∧
    (s.putSels v).resetDue = s.resetDue ∧ (s.putSels v).meas = s.meas ∧ (s.putSels v).hot = s.hot ∧ (s.putSels v).tick =
    s.tick ∧ (s.putSels v).wrap = s.wrap ∧ (s.putSels v).hbOut = s.hbOut ∧ (s.putSels v).cw = s.cw ∧ (s.putSels v).ctx =
    s.ctx ∧ (s.putSels v).ctxAt = s.ctxAt ∧ (s.putSels v).engines = s.engines ∧ (s.putSels v).loaf = s.loaf ∧ (s.putSels
    v).loafNext = s.loafNext ∧ (s.putSels v).loafDue = s.loafDue ∧ (s.putSels v).batch = s.batch ∧ (s.putSels v).suspended
    = s.suspended ∧ (s.putSels v).batchesDone = s.batchesDone ∧ (s.putSels v).batchIds = s.batchIds ∧ (s.putSels
    v).lastRing = s.lastRing ∧ (s.putSels v).rings = s.rings ∧ (s.putSels v).scratch = s.scratch ∧ (s.putSels v).hq = s.hq
    ∧ (s.putSels v).hostRing = s.hostRing ∧ (s.putSels v).intPend = s.intPend ∧ (s.putSels v).msixTable = s.msixTable ∧
    (s.putSels v).msixPba = s.msixPba ∧ (s.putSels v).violated = s.violated ∧ (s.putSels v).chkMax = s.chkMax ∧ (s.putSels
    v).captures = s.captures ∧ (s.putSels v).due = s.due ∧ (s.putSels v).lanes = s.lanes ∧ (s.putSels v).quads = s.quads ∧
    (s.putSels v).flex = s.flex ∧ (s.putSels v).recClk = s.recClk ∧ (s.putSels v).refClk = s.refClk ∧ (s.putSels v).ilk =
    s.ilk ∧ (s.putSels v).trackers = s.trackers ∧ (s.putSels v).framers = s.framers ∧ (s.putSels v).mons = s.mons ∧
    (s.putSels v).oh = s.oh ∧ (s.putSels v).ohT0 = s.ohT0 ∧ (s.putSels v).cells = s.cells ∧ (s.putSels v).cellsT0 =
    s.cellsT0 ∧ (s.putSels v).binQ = s.binQ ∧ (s.putSels v).binD = s.binD ∧ (s.putSels v).binLoad = s.binLoad ∧ (s.putSels
    v).binRestored = s.binRestored ∧ (s.putSels v).pmTime = s.pmTime ∧ (s.putSels v).deck = s.deck ∧ (s.putSels v).decks =
    s.decks ∧ (s.putSels v).rsz = s.rsz ∧ (s.putSels v).prfRings = s.prfRings ∧ (s.putSels v).hls = s.hls ∧ (s.putSels
    v).groups = s.groups ∧ (s.putSels v).substs = s.substs ∧ (s.putSels v).unverified = s.unverified ∧ (s.putSels
    v).firstRing = s.firstRing ∧ (s.putSels v).pairs = s.pairs ∧ (s.putSels v).audio = s.audio ∧ (s.putSels v).sync =
    s.sync ∧ (s.putSels v).dpll = s.dpll ∧ (s.putSels v).doms = s.doms ∧ (s.putSels v).vloops = s.vloops ∧ (s.putSels
    v).rdn = s.rdn ∧ (s.putSels v).bank = s.bank ∧ (s.putSels v).spare = s.spare ∧ (s.putSels v).link = s.link ∧
    (s.putSels v).test = s.test ∧ (s.putSels v).sec = s.sec ∧ (s.putSels v).nvm = s.nvm ∧ (s.putSels v).sess = s.sess ∧
    (s.putSels v).long = s.long ∧ (s.putSels v).guest = s.guest ∧ (s.putSels v).jtag = s.jtag ∧ (s.putSels v).trace =
    s.trace ∧ (s.putSels v).pinMoves = s.pinMoves ∧ (s.putSels v).words = s.words ∧ (s.putSels v).cq = s.cq ∧ (s.putSels
    v).ports = s.ports := by
  and_intros <;> rfl

@[simp] theorem State.putDecks_decks (s : State) (v : Tab DieDeck) : (s.putDecks v).decks = v := rfl
@[simp] theorem State.putDecks_frame (s : State) (v : Tab DieDeck) :
    (s.putDecks v).pending = s.pending ∧ (s.putDecks v).freeUses = s.freeUses ∧ (s.putDecks v).out = s.out ∧ (s.putDecks
    v).mode = s.mode ∧ (s.putDecks v).modeCause = s.modeCause ∧ (s.putDecks v).phase = s.phase ∧ (s.putDecks v).straps =
    s.straps ∧ (s.putDecks v).perst = s.perst ∧ (s.putDecks v).vinHigh = s.vinHigh ∧ (s.putDecks v).claimed = s.claimed ∧
    (s.putDecks v).resetDue = s.resetDue ∧ (s.putDecks v).meas = s.meas ∧ (s.putDecks v).hot = s.hot ∧ (s.putDecks v).tick
    = s.tick ∧ (s.putDecks v).wrap = s.wrap ∧ (s.putDecks v).hbOut = s.hbOut ∧ (s.putDecks v).cw = s.cw ∧ (s.putDecks
    v).ctx = s.ctx ∧ (s.putDecks v).ctxAt = s.ctxAt ∧ (s.putDecks v).engines = s.engines ∧ (s.putDecks v).loaf = s.loaf ∧
    (s.putDecks v).loafNext = s.loafNext ∧ (s.putDecks v).loafDue = s.loafDue ∧ (s.putDecks v).batch = s.batch ∧
    (s.putDecks v).suspended = s.suspended ∧ (s.putDecks v).batchesDone = s.batchesDone ∧ (s.putDecks v).batchIds =
    s.batchIds ∧ (s.putDecks v).lastRing = s.lastRing ∧ (s.putDecks v).rings = s.rings ∧ (s.putDecks v).scratch =
    s.scratch ∧ (s.putDecks v).hq = s.hq ∧ (s.putDecks v).hostRing = s.hostRing ∧ (s.putDecks v).intPend = s.intPend ∧
    (s.putDecks v).msixTable = s.msixTable ∧ (s.putDecks v).msixPba = s.msixPba ∧ (s.putDecks v).violated = s.violated ∧
    (s.putDecks v).chkMax = s.chkMax ∧ (s.putDecks v).captures = s.captures ∧ (s.putDecks v).due = s.due ∧ (s.putDecks
    v).lanes = s.lanes ∧ (s.putDecks v).quads = s.quads ∧ (s.putDecks v).flex = s.flex ∧ (s.putDecks v).recClk = s.recClk
    ∧ (s.putDecks v).refClk = s.refClk ∧ (s.putDecks v).ilk = s.ilk ∧ (s.putDecks v).trackers = s.trackers ∧ (s.putDecks
    v).framers = s.framers ∧ (s.putDecks v).mons = s.mons ∧ (s.putDecks v).oh = s.oh ∧ (s.putDecks v).ohT0 = s.ohT0 ∧
    (s.putDecks v).cells = s.cells ∧ (s.putDecks v).cellsT0 = s.cellsT0 ∧ (s.putDecks v).binQ = s.binQ ∧ (s.putDecks
    v).binD = s.binD ∧ (s.putDecks v).binLoad = s.binLoad ∧ (s.putDecks v).binRestored = s.binRestored ∧ (s.putDecks
    v).pmTime = s.pmTime ∧ (s.putDecks v).deck = s.deck ∧ (s.putDecks v).sels = s.sels ∧ (s.putDecks v).rsz = s.rsz ∧
    (s.putDecks v).prfRings = s.prfRings ∧ (s.putDecks v).hls = s.hls ∧ (s.putDecks v).groups = s.groups ∧ (s.putDecks
    v).substs = s.substs ∧ (s.putDecks v).unverified = s.unverified ∧ (s.putDecks v).firstRing = s.firstRing ∧ (s.putDecks
    v).pairs = s.pairs ∧ (s.putDecks v).audio = s.audio ∧ (s.putDecks v).sync = s.sync ∧ (s.putDecks v).dpll = s.dpll ∧
    (s.putDecks v).doms = s.doms ∧ (s.putDecks v).vloops = s.vloops ∧ (s.putDecks v).rdn = s.rdn ∧ (s.putDecks v).bank =
    s.bank ∧ (s.putDecks v).spare = s.spare ∧ (s.putDecks v).link = s.link ∧ (s.putDecks v).test = s.test ∧ (s.putDecks
    v).sec = s.sec ∧ (s.putDecks v).nvm = s.nvm ∧ (s.putDecks v).sess = s.sess ∧ (s.putDecks v).long = s.long ∧
    (s.putDecks v).guest = s.guest ∧ (s.putDecks v).jtag = s.jtag ∧ (s.putDecks v).trace = s.trace ∧ (s.putDecks
    v).pinMoves = s.pinMoves ∧ (s.putDecks v).words = s.words ∧ (s.putDecks v).cq = s.cq ∧ (s.putDecks v).ports = s.ports := by
  and_intros <;> rfl

@[simp] theorem State.putRsz_rsz (s : State) (v : Tab Rsz) : (s.putRsz v).rsz = v := rfl
@[simp] theorem State.putRsz_frame (s : State) (v : Tab Rsz) :
    (s.putRsz v).pending = s.pending ∧ (s.putRsz v).freeUses = s.freeUses ∧ (s.putRsz v).out = s.out ∧ (s.putRsz v).mode =
    s.mode ∧ (s.putRsz v).modeCause = s.modeCause ∧ (s.putRsz v).phase = s.phase ∧ (s.putRsz v).straps = s.straps ∧
    (s.putRsz v).perst = s.perst ∧ (s.putRsz v).vinHigh = s.vinHigh ∧ (s.putRsz v).claimed = s.claimed ∧ (s.putRsz
    v).resetDue = s.resetDue ∧ (s.putRsz v).meas = s.meas ∧ (s.putRsz v).hot = s.hot ∧ (s.putRsz v).tick = s.tick ∧
    (s.putRsz v).wrap = s.wrap ∧ (s.putRsz v).hbOut = s.hbOut ∧ (s.putRsz v).cw = s.cw ∧ (s.putRsz v).ctx = s.ctx ∧
    (s.putRsz v).ctxAt = s.ctxAt ∧ (s.putRsz v).engines = s.engines ∧ (s.putRsz v).loaf = s.loaf ∧ (s.putRsz v).loafNext =
    s.loafNext ∧ (s.putRsz v).loafDue = s.loafDue ∧ (s.putRsz v).batch = s.batch ∧ (s.putRsz v).suspended = s.suspended ∧
    (s.putRsz v).batchesDone = s.batchesDone ∧ (s.putRsz v).batchIds = s.batchIds ∧ (s.putRsz v).lastRing = s.lastRing ∧
    (s.putRsz v).rings = s.rings ∧ (s.putRsz v).scratch = s.scratch ∧ (s.putRsz v).hq = s.hq ∧ (s.putRsz v).hostRing =
    s.hostRing ∧ (s.putRsz v).intPend = s.intPend ∧ (s.putRsz v).msixTable = s.msixTable ∧ (s.putRsz v).msixPba =
    s.msixPba ∧ (s.putRsz v).violated = s.violated ∧ (s.putRsz v).chkMax = s.chkMax ∧ (s.putRsz v).captures = s.captures ∧
    (s.putRsz v).due = s.due ∧ (s.putRsz v).lanes = s.lanes ∧ (s.putRsz v).quads = s.quads ∧ (s.putRsz v).flex = s.flex ∧
    (s.putRsz v).recClk = s.recClk ∧ (s.putRsz v).refClk = s.refClk ∧ (s.putRsz v).ilk = s.ilk ∧ (s.putRsz v).trackers =
    s.trackers ∧ (s.putRsz v).framers = s.framers ∧ (s.putRsz v).mons = s.mons ∧ (s.putRsz v).oh = s.oh ∧ (s.putRsz
    v).ohT0 = s.ohT0 ∧ (s.putRsz v).cells = s.cells ∧ (s.putRsz v).cellsT0 = s.cellsT0 ∧ (s.putRsz v).binQ = s.binQ ∧
    (s.putRsz v).binD = s.binD ∧ (s.putRsz v).binLoad = s.binLoad ∧ (s.putRsz v).binRestored = s.binRestored ∧ (s.putRsz
    v).pmTime = s.pmTime ∧ (s.putRsz v).deck = s.deck ∧ (s.putRsz v).sels = s.sels ∧ (s.putRsz v).decks = s.decks ∧
    (s.putRsz v).prfRings = s.prfRings ∧ (s.putRsz v).hls = s.hls ∧ (s.putRsz v).groups = s.groups ∧ (s.putRsz v).substs =
    s.substs ∧ (s.putRsz v).unverified = s.unverified ∧ (s.putRsz v).firstRing = s.firstRing ∧ (s.putRsz v).pairs =
    s.pairs ∧ (s.putRsz v).audio = s.audio ∧ (s.putRsz v).sync = s.sync ∧ (s.putRsz v).dpll = s.dpll ∧ (s.putRsz v).doms =
    s.doms ∧ (s.putRsz v).vloops = s.vloops ∧ (s.putRsz v).rdn = s.rdn ∧ (s.putRsz v).bank = s.bank ∧ (s.putRsz v).spare =
    s.spare ∧ (s.putRsz v).link = s.link ∧ (s.putRsz v).test = s.test ∧ (s.putRsz v).sec = s.sec ∧ (s.putRsz v).nvm =
    s.nvm ∧ (s.putRsz v).sess = s.sess ∧ (s.putRsz v).long = s.long ∧ (s.putRsz v).guest = s.guest ∧ (s.putRsz v).jtag =
    s.jtag ∧ (s.putRsz v).trace = s.trace ∧ (s.putRsz v).pinMoves = s.pinMoves ∧ (s.putRsz v).words = s.words ∧ (s.putRsz
    v).cq = s.cq ∧ (s.putRsz v).ports = s.ports := by
  and_intros <;> rfl

@[simp] theorem State.putPrfRings_prfRings (s : State) (v : Tab Ring) : (s.putPrfRings v).prfRings = v := rfl
@[simp] theorem State.putPrfRings_frame (s : State) (v : Tab Ring) :
    (s.putPrfRings v).pending = s.pending ∧ (s.putPrfRings v).freeUses = s.freeUses ∧ (s.putPrfRings v).out = s.out ∧
    (s.putPrfRings v).mode = s.mode ∧ (s.putPrfRings v).modeCause = s.modeCause ∧ (s.putPrfRings v).phase = s.phase ∧
    (s.putPrfRings v).straps = s.straps ∧ (s.putPrfRings v).perst = s.perst ∧ (s.putPrfRings v).vinHigh = s.vinHigh ∧
    (s.putPrfRings v).claimed = s.claimed ∧ (s.putPrfRings v).resetDue = s.resetDue ∧ (s.putPrfRings v).meas = s.meas ∧
    (s.putPrfRings v).hot = s.hot ∧ (s.putPrfRings v).tick = s.tick ∧ (s.putPrfRings v).wrap = s.wrap ∧ (s.putPrfRings
    v).hbOut = s.hbOut ∧ (s.putPrfRings v).cw = s.cw ∧ (s.putPrfRings v).ctx = s.ctx ∧ (s.putPrfRings v).ctxAt = s.ctxAt ∧
    (s.putPrfRings v).engines = s.engines ∧ (s.putPrfRings v).loaf = s.loaf ∧ (s.putPrfRings v).loafNext = s.loafNext ∧
    (s.putPrfRings v).loafDue = s.loafDue ∧ (s.putPrfRings v).batch = s.batch ∧ (s.putPrfRings v).suspended = s.suspended
    ∧ (s.putPrfRings v).batchesDone = s.batchesDone ∧ (s.putPrfRings v).batchIds = s.batchIds ∧ (s.putPrfRings v).lastRing
    = s.lastRing ∧ (s.putPrfRings v).rings = s.rings ∧ (s.putPrfRings v).scratch = s.scratch ∧ (s.putPrfRings v).hq = s.hq
    ∧ (s.putPrfRings v).hostRing = s.hostRing ∧ (s.putPrfRings v).intPend = s.intPend ∧ (s.putPrfRings v).msixTable =
    s.msixTable ∧ (s.putPrfRings v).msixPba = s.msixPba ∧ (s.putPrfRings v).violated = s.violated ∧ (s.putPrfRings
    v).chkMax = s.chkMax ∧ (s.putPrfRings v).captures = s.captures ∧ (s.putPrfRings v).due = s.due ∧ (s.putPrfRings
    v).lanes = s.lanes ∧ (s.putPrfRings v).quads = s.quads ∧ (s.putPrfRings v).flex = s.flex ∧ (s.putPrfRings v).recClk =
    s.recClk ∧ (s.putPrfRings v).refClk = s.refClk ∧ (s.putPrfRings v).ilk = s.ilk ∧ (s.putPrfRings v).trackers =
    s.trackers ∧ (s.putPrfRings v).framers = s.framers ∧ (s.putPrfRings v).mons = s.mons ∧ (s.putPrfRings v).oh = s.oh ∧
    (s.putPrfRings v).ohT0 = s.ohT0 ∧ (s.putPrfRings v).cells = s.cells ∧ (s.putPrfRings v).cellsT0 = s.cellsT0 ∧
    (s.putPrfRings v).binQ = s.binQ ∧ (s.putPrfRings v).binD = s.binD ∧ (s.putPrfRings v).binLoad = s.binLoad ∧
    (s.putPrfRings v).binRestored = s.binRestored ∧ (s.putPrfRings v).pmTime = s.pmTime ∧ (s.putPrfRings v).deck = s.deck
    ∧ (s.putPrfRings v).sels = s.sels ∧ (s.putPrfRings v).decks = s.decks ∧ (s.putPrfRings v).rsz = s.rsz ∧ (s.putPrfRings
    v).hls = s.hls ∧ (s.putPrfRings v).groups = s.groups ∧ (s.putPrfRings v).substs = s.substs ∧ (s.putPrfRings
    v).unverified = s.unverified ∧ (s.putPrfRings v).firstRing = s.firstRing ∧ (s.putPrfRings v).pairs = s.pairs ∧
    (s.putPrfRings v).audio = s.audio ∧ (s.putPrfRings v).sync = s.sync ∧ (s.putPrfRings v).dpll = s.dpll ∧ (s.putPrfRings
    v).doms = s.doms ∧ (s.putPrfRings v).vloops = s.vloops ∧ (s.putPrfRings v).rdn = s.rdn ∧ (s.putPrfRings v).bank =
    s.bank ∧ (s.putPrfRings v).spare = s.spare ∧ (s.putPrfRings v).link = s.link ∧ (s.putPrfRings v).test = s.test ∧
    (s.putPrfRings v).sec = s.sec ∧ (s.putPrfRings v).nvm = s.nvm ∧ (s.putPrfRings v).sess = s.sess ∧ (s.putPrfRings
    v).long = s.long ∧ (s.putPrfRings v).guest = s.guest ∧ (s.putPrfRings v).jtag = s.jtag ∧ (s.putPrfRings v).trace =
    s.trace ∧ (s.putPrfRings v).pinMoves = s.pinMoves ∧ (s.putPrfRings v).words = s.words ∧ (s.putPrfRings v).cq = s.cq ∧
    (s.putPrfRings v).ports = s.ports := by
  and_intros <;> rfl

@[simp] theorem State.putHls_hls (s : State) (v : Tab Hl) : (s.putHls v).hls = v := rfl
@[simp] theorem State.putHls_frame (s : State) (v : Tab Hl) :
    (s.putHls v).pending = s.pending ∧ (s.putHls v).freeUses = s.freeUses ∧ (s.putHls v).out = s.out ∧ (s.putHls v).mode =
    s.mode ∧ (s.putHls v).modeCause = s.modeCause ∧ (s.putHls v).phase = s.phase ∧ (s.putHls v).straps = s.straps ∧
    (s.putHls v).perst = s.perst ∧ (s.putHls v).vinHigh = s.vinHigh ∧ (s.putHls v).claimed = s.claimed ∧ (s.putHls
    v).resetDue = s.resetDue ∧ (s.putHls v).meas = s.meas ∧ (s.putHls v).hot = s.hot ∧ (s.putHls v).tick = s.tick ∧
    (s.putHls v).wrap = s.wrap ∧ (s.putHls v).hbOut = s.hbOut ∧ (s.putHls v).cw = s.cw ∧ (s.putHls v).ctx = s.ctx ∧
    (s.putHls v).ctxAt = s.ctxAt ∧ (s.putHls v).engines = s.engines ∧ (s.putHls v).loaf = s.loaf ∧ (s.putHls v).loafNext =
    s.loafNext ∧ (s.putHls v).loafDue = s.loafDue ∧ (s.putHls v).batch = s.batch ∧ (s.putHls v).suspended = s.suspended ∧
    (s.putHls v).batchesDone = s.batchesDone ∧ (s.putHls v).batchIds = s.batchIds ∧ (s.putHls v).lastRing = s.lastRing ∧
    (s.putHls v).rings = s.rings ∧ (s.putHls v).scratch = s.scratch ∧ (s.putHls v).hq = s.hq ∧ (s.putHls v).hostRing =
    s.hostRing ∧ (s.putHls v).intPend = s.intPend ∧ (s.putHls v).msixTable = s.msixTable ∧ (s.putHls v).msixPba =
    s.msixPba ∧ (s.putHls v).violated = s.violated ∧ (s.putHls v).chkMax = s.chkMax ∧ (s.putHls v).captures = s.captures ∧
    (s.putHls v).due = s.due ∧ (s.putHls v).lanes = s.lanes ∧ (s.putHls v).quads = s.quads ∧ (s.putHls v).flex = s.flex ∧
    (s.putHls v).recClk = s.recClk ∧ (s.putHls v).refClk = s.refClk ∧ (s.putHls v).ilk = s.ilk ∧ (s.putHls v).trackers =
    s.trackers ∧ (s.putHls v).framers = s.framers ∧ (s.putHls v).mons = s.mons ∧ (s.putHls v).oh = s.oh ∧ (s.putHls
    v).ohT0 = s.ohT0 ∧ (s.putHls v).cells = s.cells ∧ (s.putHls v).cellsT0 = s.cellsT0 ∧ (s.putHls v).binQ = s.binQ ∧
    (s.putHls v).binD = s.binD ∧ (s.putHls v).binLoad = s.binLoad ∧ (s.putHls v).binRestored = s.binRestored ∧ (s.putHls
    v).pmTime = s.pmTime ∧ (s.putHls v).deck = s.deck ∧ (s.putHls v).sels = s.sels ∧ (s.putHls v).decks = s.decks ∧
    (s.putHls v).rsz = s.rsz ∧ (s.putHls v).prfRings = s.prfRings ∧ (s.putHls v).groups = s.groups ∧ (s.putHls v).substs =
    s.substs ∧ (s.putHls v).unverified = s.unverified ∧ (s.putHls v).firstRing = s.firstRing ∧ (s.putHls v).pairs =
    s.pairs ∧ (s.putHls v).audio = s.audio ∧ (s.putHls v).sync = s.sync ∧ (s.putHls v).dpll = s.dpll ∧ (s.putHls v).doms =
    s.doms ∧ (s.putHls v).vloops = s.vloops ∧ (s.putHls v).rdn = s.rdn ∧ (s.putHls v).bank = s.bank ∧ (s.putHls v).spare =
    s.spare ∧ (s.putHls v).link = s.link ∧ (s.putHls v).test = s.test ∧ (s.putHls v).sec = s.sec ∧ (s.putHls v).nvm =
    s.nvm ∧ (s.putHls v).sess = s.sess ∧ (s.putHls v).long = s.long ∧ (s.putHls v).guest = s.guest ∧ (s.putHls v).jtag =
    s.jtag ∧ (s.putHls v).trace = s.trace ∧ (s.putHls v).pinMoves = s.pinMoves ∧ (s.putHls v).words = s.words ∧ (s.putHls
    v).cq = s.cq ∧ (s.putHls v).ports = s.ports := by
  and_intros <;> rfl

@[simp] theorem State.putGroups_groups (s : State) (v : Tab Group) : (s.putGroups v).groups = v := rfl
@[simp] theorem State.putGroups_frame (s : State) (v : Tab Group) :
    (s.putGroups v).pending = s.pending ∧ (s.putGroups v).freeUses = s.freeUses ∧ (s.putGroups v).out = s.out ∧
    (s.putGroups v).mode = s.mode ∧ (s.putGroups v).modeCause = s.modeCause ∧ (s.putGroups v).phase = s.phase ∧
    (s.putGroups v).straps = s.straps ∧ (s.putGroups v).perst = s.perst ∧ (s.putGroups v).vinHigh = s.vinHigh ∧
    (s.putGroups v).claimed = s.claimed ∧ (s.putGroups v).resetDue = s.resetDue ∧ (s.putGroups v).meas = s.meas ∧
    (s.putGroups v).hot = s.hot ∧ (s.putGroups v).tick = s.tick ∧ (s.putGroups v).wrap = s.wrap ∧ (s.putGroups v).hbOut =
    s.hbOut ∧ (s.putGroups v).cw = s.cw ∧ (s.putGroups v).ctx = s.ctx ∧ (s.putGroups v).ctxAt = s.ctxAt ∧ (s.putGroups
    v).engines = s.engines ∧ (s.putGroups v).loaf = s.loaf ∧ (s.putGroups v).loafNext = s.loafNext ∧ (s.putGroups
    v).loafDue = s.loafDue ∧ (s.putGroups v).batch = s.batch ∧ (s.putGroups v).suspended = s.suspended ∧ (s.putGroups
    v).batchesDone = s.batchesDone ∧ (s.putGroups v).batchIds = s.batchIds ∧ (s.putGroups v).lastRing = s.lastRing ∧
    (s.putGroups v).rings = s.rings ∧ (s.putGroups v).scratch = s.scratch ∧ (s.putGroups v).hq = s.hq ∧ (s.putGroups
    v).hostRing = s.hostRing ∧ (s.putGroups v).intPend = s.intPend ∧ (s.putGroups v).msixTable = s.msixTable ∧
    (s.putGroups v).msixPba = s.msixPba ∧ (s.putGroups v).violated = s.violated ∧ (s.putGroups v).chkMax = s.chkMax ∧
    (s.putGroups v).captures = s.captures ∧ (s.putGroups v).due = s.due ∧ (s.putGroups v).lanes = s.lanes ∧ (s.putGroups
    v).quads = s.quads ∧ (s.putGroups v).flex = s.flex ∧ (s.putGroups v).recClk = s.recClk ∧ (s.putGroups v).refClk =
    s.refClk ∧ (s.putGroups v).ilk = s.ilk ∧ (s.putGroups v).trackers = s.trackers ∧ (s.putGroups v).framers = s.framers ∧
    (s.putGroups v).mons = s.mons ∧ (s.putGroups v).oh = s.oh ∧ (s.putGroups v).ohT0 = s.ohT0 ∧ (s.putGroups v).cells =
    s.cells ∧ (s.putGroups v).cellsT0 = s.cellsT0 ∧ (s.putGroups v).binQ = s.binQ ∧ (s.putGroups v).binD = s.binD ∧
    (s.putGroups v).binLoad = s.binLoad ∧ (s.putGroups v).binRestored = s.binRestored ∧ (s.putGroups v).pmTime = s.pmTime
    ∧ (s.putGroups v).deck = s.deck ∧ (s.putGroups v).sels = s.sels ∧ (s.putGroups v).decks = s.decks ∧ (s.putGroups
    v).rsz = s.rsz ∧ (s.putGroups v).prfRings = s.prfRings ∧ (s.putGroups v).hls = s.hls ∧ (s.putGroups v).substs =
    s.substs ∧ (s.putGroups v).unverified = s.unverified ∧ (s.putGroups v).firstRing = s.firstRing ∧ (s.putGroups v).pairs
    = s.pairs ∧ (s.putGroups v).audio = s.audio ∧ (s.putGroups v).sync = s.sync ∧ (s.putGroups v).dpll = s.dpll ∧
    (s.putGroups v).doms = s.doms ∧ (s.putGroups v).vloops = s.vloops ∧ (s.putGroups v).rdn = s.rdn ∧ (s.putGroups v).bank
    = s.bank ∧ (s.putGroups v).spare = s.spare ∧ (s.putGroups v).link = s.link ∧ (s.putGroups v).test = s.test ∧
    (s.putGroups v).sec = s.sec ∧ (s.putGroups v).nvm = s.nvm ∧ (s.putGroups v).sess = s.sess ∧ (s.putGroups v).long =
    s.long ∧ (s.putGroups v).guest = s.guest ∧ (s.putGroups v).jtag = s.jtag ∧ (s.putGroups v).trace = s.trace ∧
    (s.putGroups v).pinMoves = s.pinMoves ∧ (s.putGroups v).words = s.words ∧ (s.putGroups v).cq = s.cq ∧ (s.putGroups
    v).ports = s.ports := by
  and_intros <;> rfl

@[simp] theorem State.putSubsts_substs (s : State) (v : Tab Nat) : (s.putSubsts v).substs = v := rfl
@[simp] theorem State.putSubsts_frame (s : State) (v : Tab Nat) :
    (s.putSubsts v).pending = s.pending ∧ (s.putSubsts v).freeUses = s.freeUses ∧ (s.putSubsts v).out = s.out ∧
    (s.putSubsts v).mode = s.mode ∧ (s.putSubsts v).modeCause = s.modeCause ∧ (s.putSubsts v).phase = s.phase ∧
    (s.putSubsts v).straps = s.straps ∧ (s.putSubsts v).perst = s.perst ∧ (s.putSubsts v).vinHigh = s.vinHigh ∧
    (s.putSubsts v).claimed = s.claimed ∧ (s.putSubsts v).resetDue = s.resetDue ∧ (s.putSubsts v).meas = s.meas ∧
    (s.putSubsts v).hot = s.hot ∧ (s.putSubsts v).tick = s.tick ∧ (s.putSubsts v).wrap = s.wrap ∧ (s.putSubsts v).hbOut =
    s.hbOut ∧ (s.putSubsts v).cw = s.cw ∧ (s.putSubsts v).ctx = s.ctx ∧ (s.putSubsts v).ctxAt = s.ctxAt ∧ (s.putSubsts
    v).engines = s.engines ∧ (s.putSubsts v).loaf = s.loaf ∧ (s.putSubsts v).loafNext = s.loafNext ∧ (s.putSubsts
    v).loafDue = s.loafDue ∧ (s.putSubsts v).batch = s.batch ∧ (s.putSubsts v).suspended = s.suspended ∧ (s.putSubsts
    v).batchesDone = s.batchesDone ∧ (s.putSubsts v).batchIds = s.batchIds ∧ (s.putSubsts v).lastRing = s.lastRing ∧
    (s.putSubsts v).rings = s.rings ∧ (s.putSubsts v).scratch = s.scratch ∧ (s.putSubsts v).hq = s.hq ∧ (s.putSubsts
    v).hostRing = s.hostRing ∧ (s.putSubsts v).intPend = s.intPend ∧ (s.putSubsts v).msixTable = s.msixTable ∧
    (s.putSubsts v).msixPba = s.msixPba ∧ (s.putSubsts v).violated = s.violated ∧ (s.putSubsts v).chkMax = s.chkMax ∧
    (s.putSubsts v).captures = s.captures ∧ (s.putSubsts v).due = s.due ∧ (s.putSubsts v).lanes = s.lanes ∧ (s.putSubsts
    v).quads = s.quads ∧ (s.putSubsts v).flex = s.flex ∧ (s.putSubsts v).recClk = s.recClk ∧ (s.putSubsts v).refClk =
    s.refClk ∧ (s.putSubsts v).ilk = s.ilk ∧ (s.putSubsts v).trackers = s.trackers ∧ (s.putSubsts v).framers = s.framers ∧
    (s.putSubsts v).mons = s.mons ∧ (s.putSubsts v).oh = s.oh ∧ (s.putSubsts v).ohT0 = s.ohT0 ∧ (s.putSubsts v).cells =
    s.cells ∧ (s.putSubsts v).cellsT0 = s.cellsT0 ∧ (s.putSubsts v).binQ = s.binQ ∧ (s.putSubsts v).binD = s.binD ∧
    (s.putSubsts v).binLoad = s.binLoad ∧ (s.putSubsts v).binRestored = s.binRestored ∧ (s.putSubsts v).pmTime = s.pmTime
    ∧ (s.putSubsts v).deck = s.deck ∧ (s.putSubsts v).sels = s.sels ∧ (s.putSubsts v).decks = s.decks ∧ (s.putSubsts
    v).rsz = s.rsz ∧ (s.putSubsts v).prfRings = s.prfRings ∧ (s.putSubsts v).hls = s.hls ∧ (s.putSubsts v).groups =
    s.groups ∧ (s.putSubsts v).unverified = s.unverified ∧ (s.putSubsts v).firstRing = s.firstRing ∧ (s.putSubsts v).pairs
    = s.pairs ∧ (s.putSubsts v).audio = s.audio ∧ (s.putSubsts v).sync = s.sync ∧ (s.putSubsts v).dpll = s.dpll ∧
    (s.putSubsts v).doms = s.doms ∧ (s.putSubsts v).vloops = s.vloops ∧ (s.putSubsts v).rdn = s.rdn ∧ (s.putSubsts v).bank
    = s.bank ∧ (s.putSubsts v).spare = s.spare ∧ (s.putSubsts v).link = s.link ∧ (s.putSubsts v).test = s.test ∧
    (s.putSubsts v).sec = s.sec ∧ (s.putSubsts v).nvm = s.nvm ∧ (s.putSubsts v).sess = s.sess ∧ (s.putSubsts v).long =
    s.long ∧ (s.putSubsts v).guest = s.guest ∧ (s.putSubsts v).jtag = s.jtag ∧ (s.putSubsts v).trace = s.trace ∧
    (s.putSubsts v).pinMoves = s.pinMoves ∧ (s.putSubsts v).words = s.words ∧ (s.putSubsts v).cq = s.cq ∧ (s.putSubsts
    v).ports = s.ports := by
  and_intros <;> rfl

@[simp] theorem State.putUnverified_unverified (s : State) (v : Tab Nat) : (s.putUnverified v).unverified = v := rfl
@[simp] theorem State.putUnverified_frame (s : State) (v : Tab Nat) :
    (s.putUnverified v).pending = s.pending ∧ (s.putUnverified v).freeUses = s.freeUses ∧ (s.putUnverified v).out = s.out
    ∧ (s.putUnverified v).mode = s.mode ∧ (s.putUnverified v).modeCause = s.modeCause ∧ (s.putUnverified v).phase =
    s.phase ∧ (s.putUnverified v).straps = s.straps ∧ (s.putUnverified v).perst = s.perst ∧ (s.putUnverified v).vinHigh =
    s.vinHigh ∧ (s.putUnverified v).claimed = s.claimed ∧ (s.putUnverified v).resetDue = s.resetDue ∧ (s.putUnverified
    v).meas = s.meas ∧ (s.putUnverified v).hot = s.hot ∧ (s.putUnverified v).tick = s.tick ∧ (s.putUnverified v).wrap =
    s.wrap ∧ (s.putUnverified v).hbOut = s.hbOut ∧ (s.putUnverified v).cw = s.cw ∧ (s.putUnverified v).ctx = s.ctx ∧
    (s.putUnverified v).ctxAt = s.ctxAt ∧ (s.putUnverified v).engines = s.engines ∧ (s.putUnverified v).loaf = s.loaf ∧
    (s.putUnverified v).loafNext = s.loafNext ∧ (s.putUnverified v).loafDue = s.loafDue ∧ (s.putUnverified v).batch =
    s.batch ∧ (s.putUnverified v).suspended = s.suspended ∧ (s.putUnverified v).batchesDone = s.batchesDone ∧
    (s.putUnverified v).batchIds = s.batchIds ∧ (s.putUnverified v).lastRing = s.lastRing ∧ (s.putUnverified v).rings =
    s.rings ∧ (s.putUnverified v).scratch = s.scratch ∧ (s.putUnverified v).hq = s.hq ∧ (s.putUnverified v).hostRing =
    s.hostRing ∧ (s.putUnverified v).intPend = s.intPend ∧ (s.putUnverified v).msixTable = s.msixTable ∧ (s.putUnverified
    v).msixPba = s.msixPba ∧ (s.putUnverified v).violated = s.violated ∧ (s.putUnverified v).chkMax = s.chkMax ∧
    (s.putUnverified v).captures = s.captures ∧ (s.putUnverified v).due = s.due ∧ (s.putUnverified v).lanes = s.lanes ∧
    (s.putUnverified v).quads = s.quads ∧ (s.putUnverified v).flex = s.flex ∧ (s.putUnverified v).recClk = s.recClk ∧
    (s.putUnverified v).refClk = s.refClk ∧ (s.putUnverified v).ilk = s.ilk ∧ (s.putUnverified v).trackers = s.trackers ∧
    (s.putUnverified v).framers = s.framers ∧ (s.putUnverified v).mons = s.mons ∧ (s.putUnverified v).oh = s.oh ∧
    (s.putUnverified v).ohT0 = s.ohT0 ∧ (s.putUnverified v).cells = s.cells ∧ (s.putUnverified v).cellsT0 = s.cellsT0 ∧
    (s.putUnverified v).binQ = s.binQ ∧ (s.putUnverified v).binD = s.binD ∧ (s.putUnverified v).binLoad = s.binLoad ∧
    (s.putUnverified v).binRestored = s.binRestored ∧ (s.putUnverified v).pmTime = s.pmTime ∧ (s.putUnverified v).deck =
    s.deck ∧ (s.putUnverified v).sels = s.sels ∧ (s.putUnverified v).decks = s.decks ∧ (s.putUnverified v).rsz = s.rsz ∧
    (s.putUnverified v).prfRings = s.prfRings ∧ (s.putUnverified v).hls = s.hls ∧ (s.putUnverified v).groups = s.groups ∧
    (s.putUnverified v).substs = s.substs ∧ (s.putUnverified v).firstRing = s.firstRing ∧ (s.putUnverified v).pairs =
    s.pairs ∧ (s.putUnverified v).audio = s.audio ∧ (s.putUnverified v).sync = s.sync ∧ (s.putUnverified v).dpll = s.dpll
    ∧ (s.putUnverified v).doms = s.doms ∧ (s.putUnverified v).vloops = s.vloops ∧ (s.putUnverified v).rdn = s.rdn ∧
    (s.putUnverified v).bank = s.bank ∧ (s.putUnverified v).spare = s.spare ∧ (s.putUnverified v).link = s.link ∧
    (s.putUnverified v).test = s.test ∧ (s.putUnverified v).sec = s.sec ∧ (s.putUnverified v).nvm = s.nvm ∧
    (s.putUnverified v).sess = s.sess ∧ (s.putUnverified v).long = s.long ∧ (s.putUnverified v).guest = s.guest ∧
    (s.putUnverified v).jtag = s.jtag ∧ (s.putUnverified v).trace = s.trace ∧ (s.putUnverified v).pinMoves = s.pinMoves ∧
    (s.putUnverified v).words = s.words ∧ (s.putUnverified v).cq = s.cq ∧ (s.putUnverified v).ports = s.ports := by
  and_intros <;> rfl

@[simp] theorem State.putFirstRing_firstRing (s : State) (v : Tab Nat) : (s.putFirstRing v).firstRing = v := rfl
@[simp] theorem State.putFirstRing_frame (s : State) (v : Tab Nat) :
    (s.putFirstRing v).pending = s.pending ∧ (s.putFirstRing v).freeUses = s.freeUses ∧ (s.putFirstRing v).out = s.out ∧
    (s.putFirstRing v).mode = s.mode ∧ (s.putFirstRing v).modeCause = s.modeCause ∧ (s.putFirstRing v).phase = s.phase ∧
    (s.putFirstRing v).straps = s.straps ∧ (s.putFirstRing v).perst = s.perst ∧ (s.putFirstRing v).vinHigh = s.vinHigh ∧
    (s.putFirstRing v).claimed = s.claimed ∧ (s.putFirstRing v).resetDue = s.resetDue ∧ (s.putFirstRing v).meas = s.meas ∧
    (s.putFirstRing v).hot = s.hot ∧ (s.putFirstRing v).tick = s.tick ∧ (s.putFirstRing v).wrap = s.wrap ∧ (s.putFirstRing
    v).hbOut = s.hbOut ∧ (s.putFirstRing v).cw = s.cw ∧ (s.putFirstRing v).ctx = s.ctx ∧ (s.putFirstRing v).ctxAt =
    s.ctxAt ∧ (s.putFirstRing v).engines = s.engines ∧ (s.putFirstRing v).loaf = s.loaf ∧ (s.putFirstRing v).loafNext =
    s.loafNext ∧ (s.putFirstRing v).loafDue = s.loafDue ∧ (s.putFirstRing v).batch = s.batch ∧ (s.putFirstRing
    v).suspended = s.suspended ∧ (s.putFirstRing v).batchesDone = s.batchesDone ∧ (s.putFirstRing v).batchIds = s.batchIds
    ∧ (s.putFirstRing v).lastRing = s.lastRing ∧ (s.putFirstRing v).rings = s.rings ∧ (s.putFirstRing v).scratch =
    s.scratch ∧ (s.putFirstRing v).hq = s.hq ∧ (s.putFirstRing v).hostRing = s.hostRing ∧ (s.putFirstRing v).intPend =
    s.intPend ∧ (s.putFirstRing v).msixTable = s.msixTable ∧ (s.putFirstRing v).msixPba = s.msixPba ∧ (s.putFirstRing
    v).violated = s.violated ∧ (s.putFirstRing v).chkMax = s.chkMax ∧ (s.putFirstRing v).captures = s.captures ∧
    (s.putFirstRing v).due = s.due ∧ (s.putFirstRing v).lanes = s.lanes ∧ (s.putFirstRing v).quads = s.quads ∧
    (s.putFirstRing v).flex = s.flex ∧ (s.putFirstRing v).recClk = s.recClk ∧ (s.putFirstRing v).refClk = s.refClk ∧
    (s.putFirstRing v).ilk = s.ilk ∧ (s.putFirstRing v).trackers = s.trackers ∧ (s.putFirstRing v).framers = s.framers ∧
    (s.putFirstRing v).mons = s.mons ∧ (s.putFirstRing v).oh = s.oh ∧ (s.putFirstRing v).ohT0 = s.ohT0 ∧ (s.putFirstRing
    v).cells = s.cells ∧ (s.putFirstRing v).cellsT0 = s.cellsT0 ∧ (s.putFirstRing v).binQ = s.binQ ∧ (s.putFirstRing
    v).binD = s.binD ∧ (s.putFirstRing v).binLoad = s.binLoad ∧ (s.putFirstRing v).binRestored = s.binRestored ∧
    (s.putFirstRing v).pmTime = s.pmTime ∧ (s.putFirstRing v).deck = s.deck ∧ (s.putFirstRing v).sels = s.sels ∧
    (s.putFirstRing v).decks = s.decks ∧ (s.putFirstRing v).rsz = s.rsz ∧ (s.putFirstRing v).prfRings = s.prfRings ∧
    (s.putFirstRing v).hls = s.hls ∧ (s.putFirstRing v).groups = s.groups ∧ (s.putFirstRing v).substs = s.substs ∧
    (s.putFirstRing v).unverified = s.unverified ∧ (s.putFirstRing v).pairs = s.pairs ∧ (s.putFirstRing v).audio = s.audio
    ∧ (s.putFirstRing v).sync = s.sync ∧ (s.putFirstRing v).dpll = s.dpll ∧ (s.putFirstRing v).doms = s.doms ∧
    (s.putFirstRing v).vloops = s.vloops ∧ (s.putFirstRing v).rdn = s.rdn ∧ (s.putFirstRing v).bank = s.bank ∧
    (s.putFirstRing v).spare = s.spare ∧ (s.putFirstRing v).link = s.link ∧ (s.putFirstRing v).test = s.test ∧
    (s.putFirstRing v).sec = s.sec ∧ (s.putFirstRing v).nvm = s.nvm ∧ (s.putFirstRing v).sess = s.sess ∧ (s.putFirstRing
    v).long = s.long ∧ (s.putFirstRing v).guest = s.guest ∧ (s.putFirstRing v).jtag = s.jtag ∧ (s.putFirstRing v).trace =
    s.trace ∧ (s.putFirstRing v).pinMoves = s.pinMoves ∧ (s.putFirstRing v).words = s.words ∧ (s.putFirstRing v).cq = s.cq
    ∧ (s.putFirstRing v).ports = s.ports := by
  and_intros <;> rfl

@[simp] theorem State.putPairs_pairs (s : State) (v : Tab Pair) : (s.putPairs v).pairs = v := rfl
@[simp] theorem State.putPairs_frame (s : State) (v : Tab Pair) :
    (s.putPairs v).pending = s.pending ∧ (s.putPairs v).freeUses = s.freeUses ∧ (s.putPairs v).out = s.out ∧ (s.putPairs
    v).mode = s.mode ∧ (s.putPairs v).modeCause = s.modeCause ∧ (s.putPairs v).phase = s.phase ∧ (s.putPairs v).straps =
    s.straps ∧ (s.putPairs v).perst = s.perst ∧ (s.putPairs v).vinHigh = s.vinHigh ∧ (s.putPairs v).claimed = s.claimed ∧
    (s.putPairs v).resetDue = s.resetDue ∧ (s.putPairs v).meas = s.meas ∧ (s.putPairs v).hot = s.hot ∧ (s.putPairs v).tick
    = s.tick ∧ (s.putPairs v).wrap = s.wrap ∧ (s.putPairs v).hbOut = s.hbOut ∧ (s.putPairs v).cw = s.cw ∧ (s.putPairs
    v).ctx = s.ctx ∧ (s.putPairs v).ctxAt = s.ctxAt ∧ (s.putPairs v).engines = s.engines ∧ (s.putPairs v).loaf = s.loaf ∧
    (s.putPairs v).loafNext = s.loafNext ∧ (s.putPairs v).loafDue = s.loafDue ∧ (s.putPairs v).batch = s.batch ∧
    (s.putPairs v).suspended = s.suspended ∧ (s.putPairs v).batchesDone = s.batchesDone ∧ (s.putPairs v).batchIds =
    s.batchIds ∧ (s.putPairs v).lastRing = s.lastRing ∧ (s.putPairs v).rings = s.rings ∧ (s.putPairs v).scratch =
    s.scratch ∧ (s.putPairs v).hq = s.hq ∧ (s.putPairs v).hostRing = s.hostRing ∧ (s.putPairs v).intPend = s.intPend ∧
    (s.putPairs v).msixTable = s.msixTable ∧ (s.putPairs v).msixPba = s.msixPba ∧ (s.putPairs v).violated = s.violated ∧
    (s.putPairs v).chkMax = s.chkMax ∧ (s.putPairs v).captures = s.captures ∧ (s.putPairs v).due = s.due ∧ (s.putPairs
    v).lanes = s.lanes ∧ (s.putPairs v).quads = s.quads ∧ (s.putPairs v).flex = s.flex ∧ (s.putPairs v).recClk = s.recClk
    ∧ (s.putPairs v).refClk = s.refClk ∧ (s.putPairs v).ilk = s.ilk ∧ (s.putPairs v).trackers = s.trackers ∧ (s.putPairs
    v).framers = s.framers ∧ (s.putPairs v).mons = s.mons ∧ (s.putPairs v).oh = s.oh ∧ (s.putPairs v).ohT0 = s.ohT0 ∧
    (s.putPairs v).cells = s.cells ∧ (s.putPairs v).cellsT0 = s.cellsT0 ∧ (s.putPairs v).binQ = s.binQ ∧ (s.putPairs
    v).binD = s.binD ∧ (s.putPairs v).binLoad = s.binLoad ∧ (s.putPairs v).binRestored = s.binRestored ∧ (s.putPairs
    v).pmTime = s.pmTime ∧ (s.putPairs v).deck = s.deck ∧ (s.putPairs v).sels = s.sels ∧ (s.putPairs v).decks = s.decks ∧
    (s.putPairs v).rsz = s.rsz ∧ (s.putPairs v).prfRings = s.prfRings ∧ (s.putPairs v).hls = s.hls ∧ (s.putPairs v).groups
    = s.groups ∧ (s.putPairs v).substs = s.substs ∧ (s.putPairs v).unverified = s.unverified ∧ (s.putPairs v).firstRing =
    s.firstRing ∧ (s.putPairs v).audio = s.audio ∧ (s.putPairs v).sync = s.sync ∧ (s.putPairs v).dpll = s.dpll ∧
    (s.putPairs v).doms = s.doms ∧ (s.putPairs v).vloops = s.vloops ∧ (s.putPairs v).rdn = s.rdn ∧ (s.putPairs v).bank =
    s.bank ∧ (s.putPairs v).spare = s.spare ∧ (s.putPairs v).link = s.link ∧ (s.putPairs v).test = s.test ∧ (s.putPairs
    v).sec = s.sec ∧ (s.putPairs v).nvm = s.nvm ∧ (s.putPairs v).sess = s.sess ∧ (s.putPairs v).long = s.long ∧
    (s.putPairs v).guest = s.guest ∧ (s.putPairs v).jtag = s.jtag ∧ (s.putPairs v).trace = s.trace ∧ (s.putPairs
    v).pinMoves = s.pinMoves ∧ (s.putPairs v).words = s.words ∧ (s.putPairs v).cq = s.cq ∧ (s.putPairs v).ports = s.ports := by
  and_intros <;> rfl

@[simp] theorem State.putAudio_audio (s : State) (v : Tab Audio) : (s.putAudio v).audio = v := rfl
@[simp] theorem State.putAudio_frame (s : State) (v : Tab Audio) :
    (s.putAudio v).pending = s.pending ∧ (s.putAudio v).freeUses = s.freeUses ∧ (s.putAudio v).out = s.out ∧ (s.putAudio
    v).mode = s.mode ∧ (s.putAudio v).modeCause = s.modeCause ∧ (s.putAudio v).phase = s.phase ∧ (s.putAudio v).straps =
    s.straps ∧ (s.putAudio v).perst = s.perst ∧ (s.putAudio v).vinHigh = s.vinHigh ∧ (s.putAudio v).claimed = s.claimed ∧
    (s.putAudio v).resetDue = s.resetDue ∧ (s.putAudio v).meas = s.meas ∧ (s.putAudio v).hot = s.hot ∧ (s.putAudio v).tick
    = s.tick ∧ (s.putAudio v).wrap = s.wrap ∧ (s.putAudio v).hbOut = s.hbOut ∧ (s.putAudio v).cw = s.cw ∧ (s.putAudio
    v).ctx = s.ctx ∧ (s.putAudio v).ctxAt = s.ctxAt ∧ (s.putAudio v).engines = s.engines ∧ (s.putAudio v).loaf = s.loaf ∧
    (s.putAudio v).loafNext = s.loafNext ∧ (s.putAudio v).loafDue = s.loafDue ∧ (s.putAudio v).batch = s.batch ∧
    (s.putAudio v).suspended = s.suspended ∧ (s.putAudio v).batchesDone = s.batchesDone ∧ (s.putAudio v).batchIds =
    s.batchIds ∧ (s.putAudio v).lastRing = s.lastRing ∧ (s.putAudio v).rings = s.rings ∧ (s.putAudio v).scratch =
    s.scratch ∧ (s.putAudio v).hq = s.hq ∧ (s.putAudio v).hostRing = s.hostRing ∧ (s.putAudio v).intPend = s.intPend ∧
    (s.putAudio v).msixTable = s.msixTable ∧ (s.putAudio v).msixPba = s.msixPba ∧ (s.putAudio v).violated = s.violated ∧
    (s.putAudio v).chkMax = s.chkMax ∧ (s.putAudio v).captures = s.captures ∧ (s.putAudio v).due = s.due ∧ (s.putAudio
    v).lanes = s.lanes ∧ (s.putAudio v).quads = s.quads ∧ (s.putAudio v).flex = s.flex ∧ (s.putAudio v).recClk = s.recClk
    ∧ (s.putAudio v).refClk = s.refClk ∧ (s.putAudio v).ilk = s.ilk ∧ (s.putAudio v).trackers = s.trackers ∧ (s.putAudio
    v).framers = s.framers ∧ (s.putAudio v).mons = s.mons ∧ (s.putAudio v).oh = s.oh ∧ (s.putAudio v).ohT0 = s.ohT0 ∧
    (s.putAudio v).cells = s.cells ∧ (s.putAudio v).cellsT0 = s.cellsT0 ∧ (s.putAudio v).binQ = s.binQ ∧ (s.putAudio
    v).binD = s.binD ∧ (s.putAudio v).binLoad = s.binLoad ∧ (s.putAudio v).binRestored = s.binRestored ∧ (s.putAudio
    v).pmTime = s.pmTime ∧ (s.putAudio v).deck = s.deck ∧ (s.putAudio v).sels = s.sels ∧ (s.putAudio v).decks = s.decks ∧
    (s.putAudio v).rsz = s.rsz ∧ (s.putAudio v).prfRings = s.prfRings ∧ (s.putAudio v).hls = s.hls ∧ (s.putAudio v).groups
    = s.groups ∧ (s.putAudio v).substs = s.substs ∧ (s.putAudio v).unverified = s.unverified ∧ (s.putAudio v).firstRing =
    s.firstRing ∧ (s.putAudio v).pairs = s.pairs ∧ (s.putAudio v).sync = s.sync ∧ (s.putAudio v).dpll = s.dpll ∧
    (s.putAudio v).doms = s.doms ∧ (s.putAudio v).vloops = s.vloops ∧ (s.putAudio v).rdn = s.rdn ∧ (s.putAudio v).bank =
    s.bank ∧ (s.putAudio v).spare = s.spare ∧ (s.putAudio v).link = s.link ∧ (s.putAudio v).test = s.test ∧ (s.putAudio
    v).sec = s.sec ∧ (s.putAudio v).nvm = s.nvm ∧ (s.putAudio v).sess = s.sess ∧ (s.putAudio v).long = s.long ∧
    (s.putAudio v).guest = s.guest ∧ (s.putAudio v).jtag = s.jtag ∧ (s.putAudio v).trace = s.trace ∧ (s.putAudio
    v).pinMoves = s.pinMoves ∧ (s.putAudio v).words = s.words ∧ (s.putAudio v).cq = s.cq ∧ (s.putAudio v).ports = s.ports := by
  and_intros <;> rfl

@[simp] theorem State.putSync_sync (s : State) (v : Tab SyncIn) : (s.putSync v).sync = v := rfl
@[simp] theorem State.putSync_frame (s : State) (v : Tab SyncIn) :
    (s.putSync v).pending = s.pending ∧ (s.putSync v).freeUses = s.freeUses ∧ (s.putSync v).out = s.out ∧ (s.putSync
    v).mode = s.mode ∧ (s.putSync v).modeCause = s.modeCause ∧ (s.putSync v).phase = s.phase ∧ (s.putSync v).straps =
    s.straps ∧ (s.putSync v).perst = s.perst ∧ (s.putSync v).vinHigh = s.vinHigh ∧ (s.putSync v).claimed = s.claimed ∧
    (s.putSync v).resetDue = s.resetDue ∧ (s.putSync v).meas = s.meas ∧ (s.putSync v).hot = s.hot ∧ (s.putSync v).tick =
    s.tick ∧ (s.putSync v).wrap = s.wrap ∧ (s.putSync v).hbOut = s.hbOut ∧ (s.putSync v).cw = s.cw ∧ (s.putSync v).ctx =
    s.ctx ∧ (s.putSync v).ctxAt = s.ctxAt ∧ (s.putSync v).engines = s.engines ∧ (s.putSync v).loaf = s.loaf ∧ (s.putSync
    v).loafNext = s.loafNext ∧ (s.putSync v).loafDue = s.loafDue ∧ (s.putSync v).batch = s.batch ∧ (s.putSync v).suspended
    = s.suspended ∧ (s.putSync v).batchesDone = s.batchesDone ∧ (s.putSync v).batchIds = s.batchIds ∧ (s.putSync
    v).lastRing = s.lastRing ∧ (s.putSync v).rings = s.rings ∧ (s.putSync v).scratch = s.scratch ∧ (s.putSync v).hq = s.hq
    ∧ (s.putSync v).hostRing = s.hostRing ∧ (s.putSync v).intPend = s.intPend ∧ (s.putSync v).msixTable = s.msixTable ∧
    (s.putSync v).msixPba = s.msixPba ∧ (s.putSync v).violated = s.violated ∧ (s.putSync v).chkMax = s.chkMax ∧ (s.putSync
    v).captures = s.captures ∧ (s.putSync v).due = s.due ∧ (s.putSync v).lanes = s.lanes ∧ (s.putSync v).quads = s.quads ∧
    (s.putSync v).flex = s.flex ∧ (s.putSync v).recClk = s.recClk ∧ (s.putSync v).refClk = s.refClk ∧ (s.putSync v).ilk =
    s.ilk ∧ (s.putSync v).trackers = s.trackers ∧ (s.putSync v).framers = s.framers ∧ (s.putSync v).mons = s.mons ∧
    (s.putSync v).oh = s.oh ∧ (s.putSync v).ohT0 = s.ohT0 ∧ (s.putSync v).cells = s.cells ∧ (s.putSync v).cellsT0 =
    s.cellsT0 ∧ (s.putSync v).binQ = s.binQ ∧ (s.putSync v).binD = s.binD ∧ (s.putSync v).binLoad = s.binLoad ∧ (s.putSync
    v).binRestored = s.binRestored ∧ (s.putSync v).pmTime = s.pmTime ∧ (s.putSync v).deck = s.deck ∧ (s.putSync v).sels =
    s.sels ∧ (s.putSync v).decks = s.decks ∧ (s.putSync v).rsz = s.rsz ∧ (s.putSync v).prfRings = s.prfRings ∧ (s.putSync
    v).hls = s.hls ∧ (s.putSync v).groups = s.groups ∧ (s.putSync v).substs = s.substs ∧ (s.putSync v).unverified =
    s.unverified ∧ (s.putSync v).firstRing = s.firstRing ∧ (s.putSync v).pairs = s.pairs ∧ (s.putSync v).audio = s.audio ∧
    (s.putSync v).dpll = s.dpll ∧ (s.putSync v).doms = s.doms ∧ (s.putSync v).vloops = s.vloops ∧ (s.putSync v).rdn =
    s.rdn ∧ (s.putSync v).bank = s.bank ∧ (s.putSync v).spare = s.spare ∧ (s.putSync v).link = s.link ∧ (s.putSync v).test
    = s.test ∧ (s.putSync v).sec = s.sec ∧ (s.putSync v).nvm = s.nvm ∧ (s.putSync v).sess = s.sess ∧ (s.putSync v).long =
    s.long ∧ (s.putSync v).guest = s.guest ∧ (s.putSync v).jtag = s.jtag ∧ (s.putSync v).trace = s.trace ∧ (s.putSync
    v).pinMoves = s.pinMoves ∧ (s.putSync v).words = s.words ∧ (s.putSync v).cq = s.cq ∧ (s.putSync v).ports = s.ports := by
  and_intros <;> rfl

@[simp] theorem State.putDpll_dpll (s : State) (v : Dpll) : (s.putDpll v).dpll = v := rfl
@[simp] theorem State.putDpll_frame (s : State) (v : Dpll) :
    (s.putDpll v).pending = s.pending ∧ (s.putDpll v).freeUses = s.freeUses ∧ (s.putDpll v).out = s.out ∧ (s.putDpll
    v).mode = s.mode ∧ (s.putDpll v).modeCause = s.modeCause ∧ (s.putDpll v).phase = s.phase ∧ (s.putDpll v).straps =
    s.straps ∧ (s.putDpll v).perst = s.perst ∧ (s.putDpll v).vinHigh = s.vinHigh ∧ (s.putDpll v).claimed = s.claimed ∧
    (s.putDpll v).resetDue = s.resetDue ∧ (s.putDpll v).meas = s.meas ∧ (s.putDpll v).hot = s.hot ∧ (s.putDpll v).tick =
    s.tick ∧ (s.putDpll v).wrap = s.wrap ∧ (s.putDpll v).hbOut = s.hbOut ∧ (s.putDpll v).cw = s.cw ∧ (s.putDpll v).ctx =
    s.ctx ∧ (s.putDpll v).ctxAt = s.ctxAt ∧ (s.putDpll v).engines = s.engines ∧ (s.putDpll v).loaf = s.loaf ∧ (s.putDpll
    v).loafNext = s.loafNext ∧ (s.putDpll v).loafDue = s.loafDue ∧ (s.putDpll v).batch = s.batch ∧ (s.putDpll v).suspended
    = s.suspended ∧ (s.putDpll v).batchesDone = s.batchesDone ∧ (s.putDpll v).batchIds = s.batchIds ∧ (s.putDpll
    v).lastRing = s.lastRing ∧ (s.putDpll v).rings = s.rings ∧ (s.putDpll v).scratch = s.scratch ∧ (s.putDpll v).hq = s.hq
    ∧ (s.putDpll v).hostRing = s.hostRing ∧ (s.putDpll v).intPend = s.intPend ∧ (s.putDpll v).msixTable = s.msixTable ∧
    (s.putDpll v).msixPba = s.msixPba ∧ (s.putDpll v).violated = s.violated ∧ (s.putDpll v).chkMax = s.chkMax ∧ (s.putDpll
    v).captures = s.captures ∧ (s.putDpll v).due = s.due ∧ (s.putDpll v).lanes = s.lanes ∧ (s.putDpll v).quads = s.quads ∧
    (s.putDpll v).flex = s.flex ∧ (s.putDpll v).recClk = s.recClk ∧ (s.putDpll v).refClk = s.refClk ∧ (s.putDpll v).ilk =
    s.ilk ∧ (s.putDpll v).trackers = s.trackers ∧ (s.putDpll v).framers = s.framers ∧ (s.putDpll v).mons = s.mons ∧
    (s.putDpll v).oh = s.oh ∧ (s.putDpll v).ohT0 = s.ohT0 ∧ (s.putDpll v).cells = s.cells ∧ (s.putDpll v).cellsT0 =
    s.cellsT0 ∧ (s.putDpll v).binQ = s.binQ ∧ (s.putDpll v).binD = s.binD ∧ (s.putDpll v).binLoad = s.binLoad ∧ (s.putDpll
    v).binRestored = s.binRestored ∧ (s.putDpll v).pmTime = s.pmTime ∧ (s.putDpll v).deck = s.deck ∧ (s.putDpll v).sels =
    s.sels ∧ (s.putDpll v).decks = s.decks ∧ (s.putDpll v).rsz = s.rsz ∧ (s.putDpll v).prfRings = s.prfRings ∧ (s.putDpll
    v).hls = s.hls ∧ (s.putDpll v).groups = s.groups ∧ (s.putDpll v).substs = s.substs ∧ (s.putDpll v).unverified =
    s.unverified ∧ (s.putDpll v).firstRing = s.firstRing ∧ (s.putDpll v).pairs = s.pairs ∧ (s.putDpll v).audio = s.audio ∧
    (s.putDpll v).sync = s.sync ∧ (s.putDpll v).doms = s.doms ∧ (s.putDpll v).vloops = s.vloops ∧ (s.putDpll v).rdn =
    s.rdn ∧ (s.putDpll v).bank = s.bank ∧ (s.putDpll v).spare = s.spare ∧ (s.putDpll v).link = s.link ∧ (s.putDpll v).test
    = s.test ∧ (s.putDpll v).sec = s.sec ∧ (s.putDpll v).nvm = s.nvm ∧ (s.putDpll v).sess = s.sess ∧ (s.putDpll v).long =
    s.long ∧ (s.putDpll v).guest = s.guest ∧ (s.putDpll v).jtag = s.jtag ∧ (s.putDpll v).trace = s.trace ∧ (s.putDpll
    v).pinMoves = s.pinMoves ∧ (s.putDpll v).words = s.words ∧ (s.putDpll v).cq = s.cq ∧ (s.putDpll v).ports = s.ports := by
  and_intros <;> rfl

@[simp] theorem State.putDoms_doms (s : State) (v : Tab Dom) : (s.putDoms v).doms = v := rfl
@[simp] theorem State.putDoms_frame (s : State) (v : Tab Dom) :
    (s.putDoms v).pending = s.pending ∧ (s.putDoms v).freeUses = s.freeUses ∧ (s.putDoms v).out = s.out ∧ (s.putDoms
    v).mode = s.mode ∧ (s.putDoms v).modeCause = s.modeCause ∧ (s.putDoms v).phase = s.phase ∧ (s.putDoms v).straps =
    s.straps ∧ (s.putDoms v).perst = s.perst ∧ (s.putDoms v).vinHigh = s.vinHigh ∧ (s.putDoms v).claimed = s.claimed ∧
    (s.putDoms v).resetDue = s.resetDue ∧ (s.putDoms v).meas = s.meas ∧ (s.putDoms v).hot = s.hot ∧ (s.putDoms v).tick =
    s.tick ∧ (s.putDoms v).wrap = s.wrap ∧ (s.putDoms v).hbOut = s.hbOut ∧ (s.putDoms v).cw = s.cw ∧ (s.putDoms v).ctx =
    s.ctx ∧ (s.putDoms v).ctxAt = s.ctxAt ∧ (s.putDoms v).engines = s.engines ∧ (s.putDoms v).loaf = s.loaf ∧ (s.putDoms
    v).loafNext = s.loafNext ∧ (s.putDoms v).loafDue = s.loafDue ∧ (s.putDoms v).batch = s.batch ∧ (s.putDoms v).suspended
    = s.suspended ∧ (s.putDoms v).batchesDone = s.batchesDone ∧ (s.putDoms v).batchIds = s.batchIds ∧ (s.putDoms
    v).lastRing = s.lastRing ∧ (s.putDoms v).rings = s.rings ∧ (s.putDoms v).scratch = s.scratch ∧ (s.putDoms v).hq = s.hq
    ∧ (s.putDoms v).hostRing = s.hostRing ∧ (s.putDoms v).intPend = s.intPend ∧ (s.putDoms v).msixTable = s.msixTable ∧
    (s.putDoms v).msixPba = s.msixPba ∧ (s.putDoms v).violated = s.violated ∧ (s.putDoms v).chkMax = s.chkMax ∧ (s.putDoms
    v).captures = s.captures ∧ (s.putDoms v).due = s.due ∧ (s.putDoms v).lanes = s.lanes ∧ (s.putDoms v).quads = s.quads ∧
    (s.putDoms v).flex = s.flex ∧ (s.putDoms v).recClk = s.recClk ∧ (s.putDoms v).refClk = s.refClk ∧ (s.putDoms v).ilk =
    s.ilk ∧ (s.putDoms v).trackers = s.trackers ∧ (s.putDoms v).framers = s.framers ∧ (s.putDoms v).mons = s.mons ∧
    (s.putDoms v).oh = s.oh ∧ (s.putDoms v).ohT0 = s.ohT0 ∧ (s.putDoms v).cells = s.cells ∧ (s.putDoms v).cellsT0 =
    s.cellsT0 ∧ (s.putDoms v).binQ = s.binQ ∧ (s.putDoms v).binD = s.binD ∧ (s.putDoms v).binLoad = s.binLoad ∧ (s.putDoms
    v).binRestored = s.binRestored ∧ (s.putDoms v).pmTime = s.pmTime ∧ (s.putDoms v).deck = s.deck ∧ (s.putDoms v).sels =
    s.sels ∧ (s.putDoms v).decks = s.decks ∧ (s.putDoms v).rsz = s.rsz ∧ (s.putDoms v).prfRings = s.prfRings ∧ (s.putDoms
    v).hls = s.hls ∧ (s.putDoms v).groups = s.groups ∧ (s.putDoms v).substs = s.substs ∧ (s.putDoms v).unverified =
    s.unverified ∧ (s.putDoms v).firstRing = s.firstRing ∧ (s.putDoms v).pairs = s.pairs ∧ (s.putDoms v).audio = s.audio ∧
    (s.putDoms v).sync = s.sync ∧ (s.putDoms v).dpll = s.dpll ∧ (s.putDoms v).vloops = s.vloops ∧ (s.putDoms v).rdn =
    s.rdn ∧ (s.putDoms v).bank = s.bank ∧ (s.putDoms v).spare = s.spare ∧ (s.putDoms v).link = s.link ∧ (s.putDoms v).test
    = s.test ∧ (s.putDoms v).sec = s.sec ∧ (s.putDoms v).nvm = s.nvm ∧ (s.putDoms v).sess = s.sess ∧ (s.putDoms v).long =
    s.long ∧ (s.putDoms v).guest = s.guest ∧ (s.putDoms v).jtag = s.jtag ∧ (s.putDoms v).trace = s.trace ∧ (s.putDoms
    v).pinMoves = s.pinMoves ∧ (s.putDoms v).words = s.words ∧ (s.putDoms v).cq = s.cq ∧ (s.putDoms v).ports = s.ports := by
  and_intros <;> rfl

@[simp] theorem State.putVloops_vloops (s : State) (v : Tab Vloop) : (s.putVloops v).vloops = v := rfl
@[simp] theorem State.putVloops_frame (s : State) (v : Tab Vloop) :
    (s.putVloops v).pending = s.pending ∧ (s.putVloops v).freeUses = s.freeUses ∧ (s.putVloops v).out = s.out ∧
    (s.putVloops v).mode = s.mode ∧ (s.putVloops v).modeCause = s.modeCause ∧ (s.putVloops v).phase = s.phase ∧
    (s.putVloops v).straps = s.straps ∧ (s.putVloops v).perst = s.perst ∧ (s.putVloops v).vinHigh = s.vinHigh ∧
    (s.putVloops v).claimed = s.claimed ∧ (s.putVloops v).resetDue = s.resetDue ∧ (s.putVloops v).meas = s.meas ∧
    (s.putVloops v).hot = s.hot ∧ (s.putVloops v).tick = s.tick ∧ (s.putVloops v).wrap = s.wrap ∧ (s.putVloops v).hbOut =
    s.hbOut ∧ (s.putVloops v).cw = s.cw ∧ (s.putVloops v).ctx = s.ctx ∧ (s.putVloops v).ctxAt = s.ctxAt ∧ (s.putVloops
    v).engines = s.engines ∧ (s.putVloops v).loaf = s.loaf ∧ (s.putVloops v).loafNext = s.loafNext ∧ (s.putVloops
    v).loafDue = s.loafDue ∧ (s.putVloops v).batch = s.batch ∧ (s.putVloops v).suspended = s.suspended ∧ (s.putVloops
    v).batchesDone = s.batchesDone ∧ (s.putVloops v).batchIds = s.batchIds ∧ (s.putVloops v).lastRing = s.lastRing ∧
    (s.putVloops v).rings = s.rings ∧ (s.putVloops v).scratch = s.scratch ∧ (s.putVloops v).hq = s.hq ∧ (s.putVloops
    v).hostRing = s.hostRing ∧ (s.putVloops v).intPend = s.intPend ∧ (s.putVloops v).msixTable = s.msixTable ∧
    (s.putVloops v).msixPba = s.msixPba ∧ (s.putVloops v).violated = s.violated ∧ (s.putVloops v).chkMax = s.chkMax ∧
    (s.putVloops v).captures = s.captures ∧ (s.putVloops v).due = s.due ∧ (s.putVloops v).lanes = s.lanes ∧ (s.putVloops
    v).quads = s.quads ∧ (s.putVloops v).flex = s.flex ∧ (s.putVloops v).recClk = s.recClk ∧ (s.putVloops v).refClk =
    s.refClk ∧ (s.putVloops v).ilk = s.ilk ∧ (s.putVloops v).trackers = s.trackers ∧ (s.putVloops v).framers = s.framers ∧
    (s.putVloops v).mons = s.mons ∧ (s.putVloops v).oh = s.oh ∧ (s.putVloops v).ohT0 = s.ohT0 ∧ (s.putVloops v).cells =
    s.cells ∧ (s.putVloops v).cellsT0 = s.cellsT0 ∧ (s.putVloops v).binQ = s.binQ ∧ (s.putVloops v).binD = s.binD ∧
    (s.putVloops v).binLoad = s.binLoad ∧ (s.putVloops v).binRestored = s.binRestored ∧ (s.putVloops v).pmTime = s.pmTime
    ∧ (s.putVloops v).deck = s.deck ∧ (s.putVloops v).sels = s.sels ∧ (s.putVloops v).decks = s.decks ∧ (s.putVloops
    v).rsz = s.rsz ∧ (s.putVloops v).prfRings = s.prfRings ∧ (s.putVloops v).hls = s.hls ∧ (s.putVloops v).groups =
    s.groups ∧ (s.putVloops v).substs = s.substs ∧ (s.putVloops v).unverified = s.unverified ∧ (s.putVloops v).firstRing =
    s.firstRing ∧ (s.putVloops v).pairs = s.pairs ∧ (s.putVloops v).audio = s.audio ∧ (s.putVloops v).sync = s.sync ∧
    (s.putVloops v).dpll = s.dpll ∧ (s.putVloops v).doms = s.doms ∧ (s.putVloops v).rdn = s.rdn ∧ (s.putVloops v).bank =
    s.bank ∧ (s.putVloops v).spare = s.spare ∧ (s.putVloops v).link = s.link ∧ (s.putVloops v).test = s.test ∧
    (s.putVloops v).sec = s.sec ∧ (s.putVloops v).nvm = s.nvm ∧ (s.putVloops v).sess = s.sess ∧ (s.putVloops v).long =
    s.long ∧ (s.putVloops v).guest = s.guest ∧ (s.putVloops v).jtag = s.jtag ∧ (s.putVloops v).trace = s.trace ∧
    (s.putVloops v).pinMoves = s.pinMoves ∧ (s.putVloops v).words = s.words ∧ (s.putVloops v).cq = s.cq ∧ (s.putVloops
    v).ports = s.ports := by
  and_intros <;> rfl

@[simp] theorem State.putRdn_rdn (s : State) (v : Rdn) : (s.putRdn v).rdn = v := rfl
@[simp] theorem State.putRdn_frame (s : State) (v : Rdn) :
    (s.putRdn v).pending = s.pending ∧ (s.putRdn v).freeUses = s.freeUses ∧ (s.putRdn v).out = s.out ∧ (s.putRdn v).mode =
    s.mode ∧ (s.putRdn v).modeCause = s.modeCause ∧ (s.putRdn v).phase = s.phase ∧ (s.putRdn v).straps = s.straps ∧
    (s.putRdn v).perst = s.perst ∧ (s.putRdn v).vinHigh = s.vinHigh ∧ (s.putRdn v).claimed = s.claimed ∧ (s.putRdn
    v).resetDue = s.resetDue ∧ (s.putRdn v).meas = s.meas ∧ (s.putRdn v).hot = s.hot ∧ (s.putRdn v).tick = s.tick ∧
    (s.putRdn v).wrap = s.wrap ∧ (s.putRdn v).hbOut = s.hbOut ∧ (s.putRdn v).cw = s.cw ∧ (s.putRdn v).ctx = s.ctx ∧
    (s.putRdn v).ctxAt = s.ctxAt ∧ (s.putRdn v).engines = s.engines ∧ (s.putRdn v).loaf = s.loaf ∧ (s.putRdn v).loafNext =
    s.loafNext ∧ (s.putRdn v).loafDue = s.loafDue ∧ (s.putRdn v).batch = s.batch ∧ (s.putRdn v).suspended = s.suspended ∧
    (s.putRdn v).batchesDone = s.batchesDone ∧ (s.putRdn v).batchIds = s.batchIds ∧ (s.putRdn v).lastRing = s.lastRing ∧
    (s.putRdn v).rings = s.rings ∧ (s.putRdn v).scratch = s.scratch ∧ (s.putRdn v).hq = s.hq ∧ (s.putRdn v).hostRing =
    s.hostRing ∧ (s.putRdn v).intPend = s.intPend ∧ (s.putRdn v).msixTable = s.msixTable ∧ (s.putRdn v).msixPba =
    s.msixPba ∧ (s.putRdn v).violated = s.violated ∧ (s.putRdn v).chkMax = s.chkMax ∧ (s.putRdn v).captures = s.captures ∧
    (s.putRdn v).due = s.due ∧ (s.putRdn v).lanes = s.lanes ∧ (s.putRdn v).quads = s.quads ∧ (s.putRdn v).flex = s.flex ∧
    (s.putRdn v).recClk = s.recClk ∧ (s.putRdn v).refClk = s.refClk ∧ (s.putRdn v).ilk = s.ilk ∧ (s.putRdn v).trackers =
    s.trackers ∧ (s.putRdn v).framers = s.framers ∧ (s.putRdn v).mons = s.mons ∧ (s.putRdn v).oh = s.oh ∧ (s.putRdn
    v).ohT0 = s.ohT0 ∧ (s.putRdn v).cells = s.cells ∧ (s.putRdn v).cellsT0 = s.cellsT0 ∧ (s.putRdn v).binQ = s.binQ ∧
    (s.putRdn v).binD = s.binD ∧ (s.putRdn v).binLoad = s.binLoad ∧ (s.putRdn v).binRestored = s.binRestored ∧ (s.putRdn
    v).pmTime = s.pmTime ∧ (s.putRdn v).deck = s.deck ∧ (s.putRdn v).sels = s.sels ∧ (s.putRdn v).decks = s.decks ∧
    (s.putRdn v).rsz = s.rsz ∧ (s.putRdn v).prfRings = s.prfRings ∧ (s.putRdn v).hls = s.hls ∧ (s.putRdn v).groups =
    s.groups ∧ (s.putRdn v).substs = s.substs ∧ (s.putRdn v).unverified = s.unverified ∧ (s.putRdn v).firstRing =
    s.firstRing ∧ (s.putRdn v).pairs = s.pairs ∧ (s.putRdn v).audio = s.audio ∧ (s.putRdn v).sync = s.sync ∧ (s.putRdn
    v).dpll = s.dpll ∧ (s.putRdn v).doms = s.doms ∧ (s.putRdn v).vloops = s.vloops ∧ (s.putRdn v).bank = s.bank ∧
    (s.putRdn v).spare = s.spare ∧ (s.putRdn v).link = s.link ∧ (s.putRdn v).test = s.test ∧ (s.putRdn v).sec = s.sec ∧
    (s.putRdn v).nvm = s.nvm ∧ (s.putRdn v).sess = s.sess ∧ (s.putRdn v).long = s.long ∧ (s.putRdn v).guest = s.guest ∧
    (s.putRdn v).jtag = s.jtag ∧ (s.putRdn v).trace = s.trace ∧ (s.putRdn v).pinMoves = s.pinMoves ∧ (s.putRdn v).words =
    s.words ∧ (s.putRdn v).cq = s.cq ∧ (s.putRdn v).ports = s.ports := by
  and_intros <;> rfl

@[simp] theorem State.putBank_bank (s : State) (v : Starter) : (s.putBank v).bank = v := rfl
@[simp] theorem State.putBank_frame (s : State) (v : Starter) :
    (s.putBank v).pending = s.pending ∧ (s.putBank v).freeUses = s.freeUses ∧ (s.putBank v).out = s.out ∧ (s.putBank
    v).mode = s.mode ∧ (s.putBank v).modeCause = s.modeCause ∧ (s.putBank v).phase = s.phase ∧ (s.putBank v).straps =
    s.straps ∧ (s.putBank v).perst = s.perst ∧ (s.putBank v).vinHigh = s.vinHigh ∧ (s.putBank v).claimed = s.claimed ∧
    (s.putBank v).resetDue = s.resetDue ∧ (s.putBank v).meas = s.meas ∧ (s.putBank v).hot = s.hot ∧ (s.putBank v).tick =
    s.tick ∧ (s.putBank v).wrap = s.wrap ∧ (s.putBank v).hbOut = s.hbOut ∧ (s.putBank v).cw = s.cw ∧ (s.putBank v).ctx =
    s.ctx ∧ (s.putBank v).ctxAt = s.ctxAt ∧ (s.putBank v).engines = s.engines ∧ (s.putBank v).loaf = s.loaf ∧ (s.putBank
    v).loafNext = s.loafNext ∧ (s.putBank v).loafDue = s.loafDue ∧ (s.putBank v).batch = s.batch ∧ (s.putBank v).suspended
    = s.suspended ∧ (s.putBank v).batchesDone = s.batchesDone ∧ (s.putBank v).batchIds = s.batchIds ∧ (s.putBank
    v).lastRing = s.lastRing ∧ (s.putBank v).rings = s.rings ∧ (s.putBank v).scratch = s.scratch ∧ (s.putBank v).hq = s.hq
    ∧ (s.putBank v).hostRing = s.hostRing ∧ (s.putBank v).intPend = s.intPend ∧ (s.putBank v).msixTable = s.msixTable ∧
    (s.putBank v).msixPba = s.msixPba ∧ (s.putBank v).violated = s.violated ∧ (s.putBank v).chkMax = s.chkMax ∧ (s.putBank
    v).captures = s.captures ∧ (s.putBank v).due = s.due ∧ (s.putBank v).lanes = s.lanes ∧ (s.putBank v).quads = s.quads ∧
    (s.putBank v).flex = s.flex ∧ (s.putBank v).recClk = s.recClk ∧ (s.putBank v).refClk = s.refClk ∧ (s.putBank v).ilk =
    s.ilk ∧ (s.putBank v).trackers = s.trackers ∧ (s.putBank v).framers = s.framers ∧ (s.putBank v).mons = s.mons ∧
    (s.putBank v).oh = s.oh ∧ (s.putBank v).ohT0 = s.ohT0 ∧ (s.putBank v).cells = s.cells ∧ (s.putBank v).cellsT0 =
    s.cellsT0 ∧ (s.putBank v).binQ = s.binQ ∧ (s.putBank v).binD = s.binD ∧ (s.putBank v).binLoad = s.binLoad ∧ (s.putBank
    v).binRestored = s.binRestored ∧ (s.putBank v).pmTime = s.pmTime ∧ (s.putBank v).deck = s.deck ∧ (s.putBank v).sels =
    s.sels ∧ (s.putBank v).decks = s.decks ∧ (s.putBank v).rsz = s.rsz ∧ (s.putBank v).prfRings = s.prfRings ∧ (s.putBank
    v).hls = s.hls ∧ (s.putBank v).groups = s.groups ∧ (s.putBank v).substs = s.substs ∧ (s.putBank v).unverified =
    s.unverified ∧ (s.putBank v).firstRing = s.firstRing ∧ (s.putBank v).pairs = s.pairs ∧ (s.putBank v).audio = s.audio ∧
    (s.putBank v).sync = s.sync ∧ (s.putBank v).dpll = s.dpll ∧ (s.putBank v).doms = s.doms ∧ (s.putBank v).vloops =
    s.vloops ∧ (s.putBank v).rdn = s.rdn ∧ (s.putBank v).spare = s.spare ∧ (s.putBank v).link = s.link ∧ (s.putBank
    v).test = s.test ∧ (s.putBank v).sec = s.sec ∧ (s.putBank v).nvm = s.nvm ∧ (s.putBank v).sess = s.sess ∧ (s.putBank
    v).long = s.long ∧ (s.putBank v).guest = s.guest ∧ (s.putBank v).jtag = s.jtag ∧ (s.putBank v).trace = s.trace ∧
    (s.putBank v).pinMoves = s.pinMoves ∧ (s.putBank v).words = s.words ∧ (s.putBank v).cq = s.cq ∧ (s.putBank v).ports =
    s.ports := by
  and_intros <;> rfl

@[simp] theorem State.putSpare_spare (s : State) (v : Starter) : (s.putSpare v).spare = v := rfl
@[simp] theorem State.putSpare_frame (s : State) (v : Starter) :
    (s.putSpare v).pending = s.pending ∧ (s.putSpare v).freeUses = s.freeUses ∧ (s.putSpare v).out = s.out ∧ (s.putSpare
    v).mode = s.mode ∧ (s.putSpare v).modeCause = s.modeCause ∧ (s.putSpare v).phase = s.phase ∧ (s.putSpare v).straps =
    s.straps ∧ (s.putSpare v).perst = s.perst ∧ (s.putSpare v).vinHigh = s.vinHigh ∧ (s.putSpare v).claimed = s.claimed ∧
    (s.putSpare v).resetDue = s.resetDue ∧ (s.putSpare v).meas = s.meas ∧ (s.putSpare v).hot = s.hot ∧ (s.putSpare v).tick
    = s.tick ∧ (s.putSpare v).wrap = s.wrap ∧ (s.putSpare v).hbOut = s.hbOut ∧ (s.putSpare v).cw = s.cw ∧ (s.putSpare
    v).ctx = s.ctx ∧ (s.putSpare v).ctxAt = s.ctxAt ∧ (s.putSpare v).engines = s.engines ∧ (s.putSpare v).loaf = s.loaf ∧
    (s.putSpare v).loafNext = s.loafNext ∧ (s.putSpare v).loafDue = s.loafDue ∧ (s.putSpare v).batch = s.batch ∧
    (s.putSpare v).suspended = s.suspended ∧ (s.putSpare v).batchesDone = s.batchesDone ∧ (s.putSpare v).batchIds =
    s.batchIds ∧ (s.putSpare v).lastRing = s.lastRing ∧ (s.putSpare v).rings = s.rings ∧ (s.putSpare v).scratch =
    s.scratch ∧ (s.putSpare v).hq = s.hq ∧ (s.putSpare v).hostRing = s.hostRing ∧ (s.putSpare v).intPend = s.intPend ∧
    (s.putSpare v).msixTable = s.msixTable ∧ (s.putSpare v).msixPba = s.msixPba ∧ (s.putSpare v).violated = s.violated ∧
    (s.putSpare v).chkMax = s.chkMax ∧ (s.putSpare v).captures = s.captures ∧ (s.putSpare v).due = s.due ∧ (s.putSpare
    v).lanes = s.lanes ∧ (s.putSpare v).quads = s.quads ∧ (s.putSpare v).flex = s.flex ∧ (s.putSpare v).recClk = s.recClk
    ∧ (s.putSpare v).refClk = s.refClk ∧ (s.putSpare v).ilk = s.ilk ∧ (s.putSpare v).trackers = s.trackers ∧ (s.putSpare
    v).framers = s.framers ∧ (s.putSpare v).mons = s.mons ∧ (s.putSpare v).oh = s.oh ∧ (s.putSpare v).ohT0 = s.ohT0 ∧
    (s.putSpare v).cells = s.cells ∧ (s.putSpare v).cellsT0 = s.cellsT0 ∧ (s.putSpare v).binQ = s.binQ ∧ (s.putSpare
    v).binD = s.binD ∧ (s.putSpare v).binLoad = s.binLoad ∧ (s.putSpare v).binRestored = s.binRestored ∧ (s.putSpare
    v).pmTime = s.pmTime ∧ (s.putSpare v).deck = s.deck ∧ (s.putSpare v).sels = s.sels ∧ (s.putSpare v).decks = s.decks ∧
    (s.putSpare v).rsz = s.rsz ∧ (s.putSpare v).prfRings = s.prfRings ∧ (s.putSpare v).hls = s.hls ∧ (s.putSpare v).groups
    = s.groups ∧ (s.putSpare v).substs = s.substs ∧ (s.putSpare v).unverified = s.unverified ∧ (s.putSpare v).firstRing =
    s.firstRing ∧ (s.putSpare v).pairs = s.pairs ∧ (s.putSpare v).audio = s.audio ∧ (s.putSpare v).sync = s.sync ∧
    (s.putSpare v).dpll = s.dpll ∧ (s.putSpare v).doms = s.doms ∧ (s.putSpare v).vloops = s.vloops ∧ (s.putSpare v).rdn =
    s.rdn ∧ (s.putSpare v).bank = s.bank ∧ (s.putSpare v).link = s.link ∧ (s.putSpare v).test = s.test ∧ (s.putSpare
    v).sec = s.sec ∧ (s.putSpare v).nvm = s.nvm ∧ (s.putSpare v).sess = s.sess ∧ (s.putSpare v).long = s.long ∧
    (s.putSpare v).guest = s.guest ∧ (s.putSpare v).jtag = s.jtag ∧ (s.putSpare v).trace = s.trace ∧ (s.putSpare
    v).pinMoves = s.pinMoves ∧ (s.putSpare v).words = s.words ∧ (s.putSpare v).cq = s.cq ∧ (s.putSpare v).ports = s.ports := by
  and_intros <;> rfl

@[simp] theorem State.putLink_link (s : State) (v : Polfen) : (s.putLink v).link = v := rfl
@[simp] theorem State.putLink_frame (s : State) (v : Polfen) :
    (s.putLink v).pending = s.pending ∧ (s.putLink v).freeUses = s.freeUses ∧ (s.putLink v).out = s.out ∧ (s.putLink
    v).mode = s.mode ∧ (s.putLink v).modeCause = s.modeCause ∧ (s.putLink v).phase = s.phase ∧ (s.putLink v).straps =
    s.straps ∧ (s.putLink v).perst = s.perst ∧ (s.putLink v).vinHigh = s.vinHigh ∧ (s.putLink v).claimed = s.claimed ∧
    (s.putLink v).resetDue = s.resetDue ∧ (s.putLink v).meas = s.meas ∧ (s.putLink v).hot = s.hot ∧ (s.putLink v).tick =
    s.tick ∧ (s.putLink v).wrap = s.wrap ∧ (s.putLink v).hbOut = s.hbOut ∧ (s.putLink v).cw = s.cw ∧ (s.putLink v).ctx =
    s.ctx ∧ (s.putLink v).ctxAt = s.ctxAt ∧ (s.putLink v).engines = s.engines ∧ (s.putLink v).loaf = s.loaf ∧ (s.putLink
    v).loafNext = s.loafNext ∧ (s.putLink v).loafDue = s.loafDue ∧ (s.putLink v).batch = s.batch ∧ (s.putLink v).suspended
    = s.suspended ∧ (s.putLink v).batchesDone = s.batchesDone ∧ (s.putLink v).batchIds = s.batchIds ∧ (s.putLink
    v).lastRing = s.lastRing ∧ (s.putLink v).rings = s.rings ∧ (s.putLink v).scratch = s.scratch ∧ (s.putLink v).hq = s.hq
    ∧ (s.putLink v).hostRing = s.hostRing ∧ (s.putLink v).intPend = s.intPend ∧ (s.putLink v).msixTable = s.msixTable ∧
    (s.putLink v).msixPba = s.msixPba ∧ (s.putLink v).violated = s.violated ∧ (s.putLink v).chkMax = s.chkMax ∧ (s.putLink
    v).captures = s.captures ∧ (s.putLink v).due = s.due ∧ (s.putLink v).lanes = s.lanes ∧ (s.putLink v).quads = s.quads ∧
    (s.putLink v).flex = s.flex ∧ (s.putLink v).recClk = s.recClk ∧ (s.putLink v).refClk = s.refClk ∧ (s.putLink v).ilk =
    s.ilk ∧ (s.putLink v).trackers = s.trackers ∧ (s.putLink v).framers = s.framers ∧ (s.putLink v).mons = s.mons ∧
    (s.putLink v).oh = s.oh ∧ (s.putLink v).ohT0 = s.ohT0 ∧ (s.putLink v).cells = s.cells ∧ (s.putLink v).cellsT0 =
    s.cellsT0 ∧ (s.putLink v).binQ = s.binQ ∧ (s.putLink v).binD = s.binD ∧ (s.putLink v).binLoad = s.binLoad ∧ (s.putLink
    v).binRestored = s.binRestored ∧ (s.putLink v).pmTime = s.pmTime ∧ (s.putLink v).deck = s.deck ∧ (s.putLink v).sels =
    s.sels ∧ (s.putLink v).decks = s.decks ∧ (s.putLink v).rsz = s.rsz ∧ (s.putLink v).prfRings = s.prfRings ∧ (s.putLink
    v).hls = s.hls ∧ (s.putLink v).groups = s.groups ∧ (s.putLink v).substs = s.substs ∧ (s.putLink v).unverified =
    s.unverified ∧ (s.putLink v).firstRing = s.firstRing ∧ (s.putLink v).pairs = s.pairs ∧ (s.putLink v).audio = s.audio ∧
    (s.putLink v).sync = s.sync ∧ (s.putLink v).dpll = s.dpll ∧ (s.putLink v).doms = s.doms ∧ (s.putLink v).vloops =
    s.vloops ∧ (s.putLink v).rdn = s.rdn ∧ (s.putLink v).bank = s.bank ∧ (s.putLink v).spare = s.spare ∧ (s.putLink
    v).test = s.test ∧ (s.putLink v).sec = s.sec ∧ (s.putLink v).nvm = s.nvm ∧ (s.putLink v).sess = s.sess ∧ (s.putLink
    v).long = s.long ∧ (s.putLink v).guest = s.guest ∧ (s.putLink v).jtag = s.jtag ∧ (s.putLink v).trace = s.trace ∧
    (s.putLink v).pinMoves = s.pinMoves ∧ (s.putLink v).words = s.words ∧ (s.putLink v).cq = s.cq ∧ (s.putLink v).ports =
    s.ports := by
  and_intros <;> rfl

@[simp] theorem State.putTest_test (s : State) (v : SelfTest) : (s.putTest v).test = v := rfl
@[simp] theorem State.putTest_frame (s : State) (v : SelfTest) :
    (s.putTest v).pending = s.pending ∧ (s.putTest v).freeUses = s.freeUses ∧ (s.putTest v).out = s.out ∧ (s.putTest
    v).mode = s.mode ∧ (s.putTest v).modeCause = s.modeCause ∧ (s.putTest v).phase = s.phase ∧ (s.putTest v).straps =
    s.straps ∧ (s.putTest v).perst = s.perst ∧ (s.putTest v).vinHigh = s.vinHigh ∧ (s.putTest v).claimed = s.claimed ∧
    (s.putTest v).resetDue = s.resetDue ∧ (s.putTest v).meas = s.meas ∧ (s.putTest v).hot = s.hot ∧ (s.putTest v).tick =
    s.tick ∧ (s.putTest v).wrap = s.wrap ∧ (s.putTest v).hbOut = s.hbOut ∧ (s.putTest v).cw = s.cw ∧ (s.putTest v).ctx =
    s.ctx ∧ (s.putTest v).ctxAt = s.ctxAt ∧ (s.putTest v).engines = s.engines ∧ (s.putTest v).loaf = s.loaf ∧ (s.putTest
    v).loafNext = s.loafNext ∧ (s.putTest v).loafDue = s.loafDue ∧ (s.putTest v).batch = s.batch ∧ (s.putTest v).suspended
    = s.suspended ∧ (s.putTest v).batchesDone = s.batchesDone ∧ (s.putTest v).batchIds = s.batchIds ∧ (s.putTest
    v).lastRing = s.lastRing ∧ (s.putTest v).rings = s.rings ∧ (s.putTest v).scratch = s.scratch ∧ (s.putTest v).hq = s.hq
    ∧ (s.putTest v).hostRing = s.hostRing ∧ (s.putTest v).intPend = s.intPend ∧ (s.putTest v).msixTable = s.msixTable ∧
    (s.putTest v).msixPba = s.msixPba ∧ (s.putTest v).violated = s.violated ∧ (s.putTest v).chkMax = s.chkMax ∧ (s.putTest
    v).captures = s.captures ∧ (s.putTest v).due = s.due ∧ (s.putTest v).lanes = s.lanes ∧ (s.putTest v).quads = s.quads ∧
    (s.putTest v).flex = s.flex ∧ (s.putTest v).recClk = s.recClk ∧ (s.putTest v).refClk = s.refClk ∧ (s.putTest v).ilk =
    s.ilk ∧ (s.putTest v).trackers = s.trackers ∧ (s.putTest v).framers = s.framers ∧ (s.putTest v).mons = s.mons ∧
    (s.putTest v).oh = s.oh ∧ (s.putTest v).ohT0 = s.ohT0 ∧ (s.putTest v).cells = s.cells ∧ (s.putTest v).cellsT0 =
    s.cellsT0 ∧ (s.putTest v).binQ = s.binQ ∧ (s.putTest v).binD = s.binD ∧ (s.putTest v).binLoad = s.binLoad ∧ (s.putTest
    v).binRestored = s.binRestored ∧ (s.putTest v).pmTime = s.pmTime ∧ (s.putTest v).deck = s.deck ∧ (s.putTest v).sels =
    s.sels ∧ (s.putTest v).decks = s.decks ∧ (s.putTest v).rsz = s.rsz ∧ (s.putTest v).prfRings = s.prfRings ∧ (s.putTest
    v).hls = s.hls ∧ (s.putTest v).groups = s.groups ∧ (s.putTest v).substs = s.substs ∧ (s.putTest v).unverified =
    s.unverified ∧ (s.putTest v).firstRing = s.firstRing ∧ (s.putTest v).pairs = s.pairs ∧ (s.putTest v).audio = s.audio ∧
    (s.putTest v).sync = s.sync ∧ (s.putTest v).dpll = s.dpll ∧ (s.putTest v).doms = s.doms ∧ (s.putTest v).vloops =
    s.vloops ∧ (s.putTest v).rdn = s.rdn ∧ (s.putTest v).bank = s.bank ∧ (s.putTest v).spare = s.spare ∧ (s.putTest
    v).link = s.link ∧ (s.putTest v).sec = s.sec ∧ (s.putTest v).nvm = s.nvm ∧ (s.putTest v).sess = s.sess ∧ (s.putTest
    v).long = s.long ∧ (s.putTest v).guest = s.guest ∧ (s.putTest v).jtag = s.jtag ∧ (s.putTest v).trace = s.trace ∧
    (s.putTest v).pinMoves = s.pinMoves ∧ (s.putTest v).words = s.words ∧ (s.putTest v).cq = s.cq ∧ (s.putTest v).ports =
    s.ports := by
  and_intros <;> rfl

@[simp] theorem State.putSec_sec (s : State) (v : Sec) : (s.putSec v).sec = v := rfl
@[simp] theorem State.putSec_frame (s : State) (v : Sec) :
    (s.putSec v).pending = s.pending ∧ (s.putSec v).freeUses = s.freeUses ∧ (s.putSec v).out = s.out ∧ (s.putSec v).mode =
    s.mode ∧ (s.putSec v).modeCause = s.modeCause ∧ (s.putSec v).phase = s.phase ∧ (s.putSec v).straps = s.straps ∧
    (s.putSec v).perst = s.perst ∧ (s.putSec v).vinHigh = s.vinHigh ∧ (s.putSec v).claimed = s.claimed ∧ (s.putSec
    v).resetDue = s.resetDue ∧ (s.putSec v).meas = s.meas ∧ (s.putSec v).hot = s.hot ∧ (s.putSec v).tick = s.tick ∧
    (s.putSec v).wrap = s.wrap ∧ (s.putSec v).hbOut = s.hbOut ∧ (s.putSec v).cw = s.cw ∧ (s.putSec v).ctx = s.ctx ∧
    (s.putSec v).ctxAt = s.ctxAt ∧ (s.putSec v).engines = s.engines ∧ (s.putSec v).loaf = s.loaf ∧ (s.putSec v).loafNext =
    s.loafNext ∧ (s.putSec v).loafDue = s.loafDue ∧ (s.putSec v).batch = s.batch ∧ (s.putSec v).suspended = s.suspended ∧
    (s.putSec v).batchesDone = s.batchesDone ∧ (s.putSec v).batchIds = s.batchIds ∧ (s.putSec v).lastRing = s.lastRing ∧
    (s.putSec v).rings = s.rings ∧ (s.putSec v).scratch = s.scratch ∧ (s.putSec v).hq = s.hq ∧ (s.putSec v).hostRing =
    s.hostRing ∧ (s.putSec v).intPend = s.intPend ∧ (s.putSec v).msixTable = s.msixTable ∧ (s.putSec v).msixPba =
    s.msixPba ∧ (s.putSec v).violated = s.violated ∧ (s.putSec v).chkMax = s.chkMax ∧ (s.putSec v).captures = s.captures ∧
    (s.putSec v).due = s.due ∧ (s.putSec v).lanes = s.lanes ∧ (s.putSec v).quads = s.quads ∧ (s.putSec v).flex = s.flex ∧
    (s.putSec v).recClk = s.recClk ∧ (s.putSec v).refClk = s.refClk ∧ (s.putSec v).ilk = s.ilk ∧ (s.putSec v).trackers =
    s.trackers ∧ (s.putSec v).framers = s.framers ∧ (s.putSec v).mons = s.mons ∧ (s.putSec v).oh = s.oh ∧ (s.putSec
    v).ohT0 = s.ohT0 ∧ (s.putSec v).cells = s.cells ∧ (s.putSec v).cellsT0 = s.cellsT0 ∧ (s.putSec v).binQ = s.binQ ∧
    (s.putSec v).binD = s.binD ∧ (s.putSec v).binLoad = s.binLoad ∧ (s.putSec v).binRestored = s.binRestored ∧ (s.putSec
    v).pmTime = s.pmTime ∧ (s.putSec v).deck = s.deck ∧ (s.putSec v).sels = s.sels ∧ (s.putSec v).decks = s.decks ∧
    (s.putSec v).rsz = s.rsz ∧ (s.putSec v).prfRings = s.prfRings ∧ (s.putSec v).hls = s.hls ∧ (s.putSec v).groups =
    s.groups ∧ (s.putSec v).substs = s.substs ∧ (s.putSec v).unverified = s.unverified ∧ (s.putSec v).firstRing =
    s.firstRing ∧ (s.putSec v).pairs = s.pairs ∧ (s.putSec v).audio = s.audio ∧ (s.putSec v).sync = s.sync ∧ (s.putSec
    v).dpll = s.dpll ∧ (s.putSec v).doms = s.doms ∧ (s.putSec v).vloops = s.vloops ∧ (s.putSec v).rdn = s.rdn ∧ (s.putSec
    v).bank = s.bank ∧ (s.putSec v).spare = s.spare ∧ (s.putSec v).link = s.link ∧ (s.putSec v).test = s.test ∧ (s.putSec
    v).nvm = s.nvm ∧ (s.putSec v).sess = s.sess ∧ (s.putSec v).long = s.long ∧ (s.putSec v).guest = s.guest ∧ (s.putSec
    v).jtag = s.jtag ∧ (s.putSec v).trace = s.trace ∧ (s.putSec v).pinMoves = s.pinMoves ∧ (s.putSec v).words = s.words ∧
    (s.putSec v).cq = s.cq ∧ (s.putSec v).ports = s.ports := by
  and_intros <;> rfl

@[simp] theorem State.putNvm_nvm (s : State) (v : Nvm) : (s.putNvm v).nvm = v := rfl
@[simp] theorem State.putNvm_frame (s : State) (v : Nvm) :
    (s.putNvm v).pending = s.pending ∧ (s.putNvm v).freeUses = s.freeUses ∧ (s.putNvm v).out = s.out ∧ (s.putNvm v).mode =
    s.mode ∧ (s.putNvm v).modeCause = s.modeCause ∧ (s.putNvm v).phase = s.phase ∧ (s.putNvm v).straps = s.straps ∧
    (s.putNvm v).perst = s.perst ∧ (s.putNvm v).vinHigh = s.vinHigh ∧ (s.putNvm v).claimed = s.claimed ∧ (s.putNvm
    v).resetDue = s.resetDue ∧ (s.putNvm v).meas = s.meas ∧ (s.putNvm v).hot = s.hot ∧ (s.putNvm v).tick = s.tick ∧
    (s.putNvm v).wrap = s.wrap ∧ (s.putNvm v).hbOut = s.hbOut ∧ (s.putNvm v).cw = s.cw ∧ (s.putNvm v).ctx = s.ctx ∧
    (s.putNvm v).ctxAt = s.ctxAt ∧ (s.putNvm v).engines = s.engines ∧ (s.putNvm v).loaf = s.loaf ∧ (s.putNvm v).loafNext =
    s.loafNext ∧ (s.putNvm v).loafDue = s.loafDue ∧ (s.putNvm v).batch = s.batch ∧ (s.putNvm v).suspended = s.suspended ∧
    (s.putNvm v).batchesDone = s.batchesDone ∧ (s.putNvm v).batchIds = s.batchIds ∧ (s.putNvm v).lastRing = s.lastRing ∧
    (s.putNvm v).rings = s.rings ∧ (s.putNvm v).scratch = s.scratch ∧ (s.putNvm v).hq = s.hq ∧ (s.putNvm v).hostRing =
    s.hostRing ∧ (s.putNvm v).intPend = s.intPend ∧ (s.putNvm v).msixTable = s.msixTable ∧ (s.putNvm v).msixPba =
    s.msixPba ∧ (s.putNvm v).violated = s.violated ∧ (s.putNvm v).chkMax = s.chkMax ∧ (s.putNvm v).captures = s.captures ∧
    (s.putNvm v).due = s.due ∧ (s.putNvm v).lanes = s.lanes ∧ (s.putNvm v).quads = s.quads ∧ (s.putNvm v).flex = s.flex ∧
    (s.putNvm v).recClk = s.recClk ∧ (s.putNvm v).refClk = s.refClk ∧ (s.putNvm v).ilk = s.ilk ∧ (s.putNvm v).trackers =
    s.trackers ∧ (s.putNvm v).framers = s.framers ∧ (s.putNvm v).mons = s.mons ∧ (s.putNvm v).oh = s.oh ∧ (s.putNvm
    v).ohT0 = s.ohT0 ∧ (s.putNvm v).cells = s.cells ∧ (s.putNvm v).cellsT0 = s.cellsT0 ∧ (s.putNvm v).binQ = s.binQ ∧
    (s.putNvm v).binD = s.binD ∧ (s.putNvm v).binLoad = s.binLoad ∧ (s.putNvm v).binRestored = s.binRestored ∧ (s.putNvm
    v).pmTime = s.pmTime ∧ (s.putNvm v).deck = s.deck ∧ (s.putNvm v).sels = s.sels ∧ (s.putNvm v).decks = s.decks ∧
    (s.putNvm v).rsz = s.rsz ∧ (s.putNvm v).prfRings = s.prfRings ∧ (s.putNvm v).hls = s.hls ∧ (s.putNvm v).groups =
    s.groups ∧ (s.putNvm v).substs = s.substs ∧ (s.putNvm v).unverified = s.unverified ∧ (s.putNvm v).firstRing =
    s.firstRing ∧ (s.putNvm v).pairs = s.pairs ∧ (s.putNvm v).audio = s.audio ∧ (s.putNvm v).sync = s.sync ∧ (s.putNvm
    v).dpll = s.dpll ∧ (s.putNvm v).doms = s.doms ∧ (s.putNvm v).vloops = s.vloops ∧ (s.putNvm v).rdn = s.rdn ∧ (s.putNvm
    v).bank = s.bank ∧ (s.putNvm v).spare = s.spare ∧ (s.putNvm v).link = s.link ∧ (s.putNvm v).test = s.test ∧ (s.putNvm
    v).sec = s.sec ∧ (s.putNvm v).sess = s.sess ∧ (s.putNvm v).long = s.long ∧ (s.putNvm v).guest = s.guest ∧ (s.putNvm
    v).jtag = s.jtag ∧ (s.putNvm v).trace = s.trace ∧ (s.putNvm v).pinMoves = s.pinMoves ∧ (s.putNvm v).words = s.words ∧
    (s.putNvm v).cq = s.cq ∧ (s.putNvm v).ports = s.ports := by
  and_intros <;> rfl

@[simp] theorem State.putSess_sess (s : State) (v : Tab Session) : (s.putSess v).sess = v := rfl
@[simp] theorem State.putSess_frame (s : State) (v : Tab Session) :
    (s.putSess v).pending = s.pending ∧ (s.putSess v).freeUses = s.freeUses ∧ (s.putSess v).out = s.out ∧ (s.putSess
    v).mode = s.mode ∧ (s.putSess v).modeCause = s.modeCause ∧ (s.putSess v).phase = s.phase ∧ (s.putSess v).straps =
    s.straps ∧ (s.putSess v).perst = s.perst ∧ (s.putSess v).vinHigh = s.vinHigh ∧ (s.putSess v).claimed = s.claimed ∧
    (s.putSess v).resetDue = s.resetDue ∧ (s.putSess v).meas = s.meas ∧ (s.putSess v).hot = s.hot ∧ (s.putSess v).tick =
    s.tick ∧ (s.putSess v).wrap = s.wrap ∧ (s.putSess v).hbOut = s.hbOut ∧ (s.putSess v).cw = s.cw ∧ (s.putSess v).ctx =
    s.ctx ∧ (s.putSess v).ctxAt = s.ctxAt ∧ (s.putSess v).engines = s.engines ∧ (s.putSess v).loaf = s.loaf ∧ (s.putSess
    v).loafNext = s.loafNext ∧ (s.putSess v).loafDue = s.loafDue ∧ (s.putSess v).batch = s.batch ∧ (s.putSess v).suspended
    = s.suspended ∧ (s.putSess v).batchesDone = s.batchesDone ∧ (s.putSess v).batchIds = s.batchIds ∧ (s.putSess
    v).lastRing = s.lastRing ∧ (s.putSess v).rings = s.rings ∧ (s.putSess v).scratch = s.scratch ∧ (s.putSess v).hq = s.hq
    ∧ (s.putSess v).hostRing = s.hostRing ∧ (s.putSess v).intPend = s.intPend ∧ (s.putSess v).msixTable = s.msixTable ∧
    (s.putSess v).msixPba = s.msixPba ∧ (s.putSess v).violated = s.violated ∧ (s.putSess v).chkMax = s.chkMax ∧ (s.putSess
    v).captures = s.captures ∧ (s.putSess v).due = s.due ∧ (s.putSess v).lanes = s.lanes ∧ (s.putSess v).quads = s.quads ∧
    (s.putSess v).flex = s.flex ∧ (s.putSess v).recClk = s.recClk ∧ (s.putSess v).refClk = s.refClk ∧ (s.putSess v).ilk =
    s.ilk ∧ (s.putSess v).trackers = s.trackers ∧ (s.putSess v).framers = s.framers ∧ (s.putSess v).mons = s.mons ∧
    (s.putSess v).oh = s.oh ∧ (s.putSess v).ohT0 = s.ohT0 ∧ (s.putSess v).cells = s.cells ∧ (s.putSess v).cellsT0 =
    s.cellsT0 ∧ (s.putSess v).binQ = s.binQ ∧ (s.putSess v).binD = s.binD ∧ (s.putSess v).binLoad = s.binLoad ∧ (s.putSess
    v).binRestored = s.binRestored ∧ (s.putSess v).pmTime = s.pmTime ∧ (s.putSess v).deck = s.deck ∧ (s.putSess v).sels =
    s.sels ∧ (s.putSess v).decks = s.decks ∧ (s.putSess v).rsz = s.rsz ∧ (s.putSess v).prfRings = s.prfRings ∧ (s.putSess
    v).hls = s.hls ∧ (s.putSess v).groups = s.groups ∧ (s.putSess v).substs = s.substs ∧ (s.putSess v).unverified =
    s.unverified ∧ (s.putSess v).firstRing = s.firstRing ∧ (s.putSess v).pairs = s.pairs ∧ (s.putSess v).audio = s.audio ∧
    (s.putSess v).sync = s.sync ∧ (s.putSess v).dpll = s.dpll ∧ (s.putSess v).doms = s.doms ∧ (s.putSess v).vloops =
    s.vloops ∧ (s.putSess v).rdn = s.rdn ∧ (s.putSess v).bank = s.bank ∧ (s.putSess v).spare = s.spare ∧ (s.putSess
    v).link = s.link ∧ (s.putSess v).test = s.test ∧ (s.putSess v).sec = s.sec ∧ (s.putSess v).nvm = s.nvm ∧ (s.putSess
    v).long = s.long ∧ (s.putSess v).guest = s.guest ∧ (s.putSess v).jtag = s.jtag ∧ (s.putSess v).trace = s.trace ∧
    (s.putSess v).pinMoves = s.pinMoves ∧ (s.putSess v).words = s.words ∧ (s.putSess v).cq = s.cq ∧ (s.putSess v).ports =
    s.ports := by
  and_intros <;> rfl

@[simp] theorem State.putLong_long (s : State) (v : Option (LongOp × Nat)) : (s.putLong v).long = v := rfl
@[simp] theorem State.putLong_frame (s : State) (v : Option (LongOp × Nat)) :
    (s.putLong v).pending = s.pending ∧ (s.putLong v).freeUses = s.freeUses ∧ (s.putLong v).out = s.out ∧ (s.putLong
    v).mode = s.mode ∧ (s.putLong v).modeCause = s.modeCause ∧ (s.putLong v).phase = s.phase ∧ (s.putLong v).straps =
    s.straps ∧ (s.putLong v).perst = s.perst ∧ (s.putLong v).vinHigh = s.vinHigh ∧ (s.putLong v).claimed = s.claimed ∧
    (s.putLong v).resetDue = s.resetDue ∧ (s.putLong v).meas = s.meas ∧ (s.putLong v).hot = s.hot ∧ (s.putLong v).tick =
    s.tick ∧ (s.putLong v).wrap = s.wrap ∧ (s.putLong v).hbOut = s.hbOut ∧ (s.putLong v).cw = s.cw ∧ (s.putLong v).ctx =
    s.ctx ∧ (s.putLong v).ctxAt = s.ctxAt ∧ (s.putLong v).engines = s.engines ∧ (s.putLong v).loaf = s.loaf ∧ (s.putLong
    v).loafNext = s.loafNext ∧ (s.putLong v).loafDue = s.loafDue ∧ (s.putLong v).batch = s.batch ∧ (s.putLong v).suspended
    = s.suspended ∧ (s.putLong v).batchesDone = s.batchesDone ∧ (s.putLong v).batchIds = s.batchIds ∧ (s.putLong
    v).lastRing = s.lastRing ∧ (s.putLong v).rings = s.rings ∧ (s.putLong v).scratch = s.scratch ∧ (s.putLong v).hq = s.hq
    ∧ (s.putLong v).hostRing = s.hostRing ∧ (s.putLong v).intPend = s.intPend ∧ (s.putLong v).msixTable = s.msixTable ∧
    (s.putLong v).msixPba = s.msixPba ∧ (s.putLong v).violated = s.violated ∧ (s.putLong v).chkMax = s.chkMax ∧ (s.putLong
    v).captures = s.captures ∧ (s.putLong v).due = s.due ∧ (s.putLong v).lanes = s.lanes ∧ (s.putLong v).quads = s.quads ∧
    (s.putLong v).flex = s.flex ∧ (s.putLong v).recClk = s.recClk ∧ (s.putLong v).refClk = s.refClk ∧ (s.putLong v).ilk =
    s.ilk ∧ (s.putLong v).trackers = s.trackers ∧ (s.putLong v).framers = s.framers ∧ (s.putLong v).mons = s.mons ∧
    (s.putLong v).oh = s.oh ∧ (s.putLong v).ohT0 = s.ohT0 ∧ (s.putLong v).cells = s.cells ∧ (s.putLong v).cellsT0 =
    s.cellsT0 ∧ (s.putLong v).binQ = s.binQ ∧ (s.putLong v).binD = s.binD ∧ (s.putLong v).binLoad = s.binLoad ∧ (s.putLong
    v).binRestored = s.binRestored ∧ (s.putLong v).pmTime = s.pmTime ∧ (s.putLong v).deck = s.deck ∧ (s.putLong v).sels =
    s.sels ∧ (s.putLong v).decks = s.decks ∧ (s.putLong v).rsz = s.rsz ∧ (s.putLong v).prfRings = s.prfRings ∧ (s.putLong
    v).hls = s.hls ∧ (s.putLong v).groups = s.groups ∧ (s.putLong v).substs = s.substs ∧ (s.putLong v).unverified =
    s.unverified ∧ (s.putLong v).firstRing = s.firstRing ∧ (s.putLong v).pairs = s.pairs ∧ (s.putLong v).audio = s.audio ∧
    (s.putLong v).sync = s.sync ∧ (s.putLong v).dpll = s.dpll ∧ (s.putLong v).doms = s.doms ∧ (s.putLong v).vloops =
    s.vloops ∧ (s.putLong v).rdn = s.rdn ∧ (s.putLong v).bank = s.bank ∧ (s.putLong v).spare = s.spare ∧ (s.putLong
    v).link = s.link ∧ (s.putLong v).test = s.test ∧ (s.putLong v).sec = s.sec ∧ (s.putLong v).nvm = s.nvm ∧ (s.putLong
    v).sess = s.sess ∧ (s.putLong v).guest = s.guest ∧ (s.putLong v).jtag = s.jtag ∧ (s.putLong v).trace = s.trace ∧
    (s.putLong v).pinMoves = s.pinMoves ∧ (s.putLong v).words = s.words ∧ (s.putLong v).cq = s.cq ∧ (s.putLong v).ports =
    s.ports := by
  and_intros <;> rfl

@[simp] theorem State.putGuest_guest (s : State) (v : Guest) : (s.putGuest v).guest = v := rfl
@[simp] theorem State.putGuest_frame (s : State) (v : Guest) :
    (s.putGuest v).pending = s.pending ∧ (s.putGuest v).freeUses = s.freeUses ∧ (s.putGuest v).out = s.out ∧ (s.putGuest
    v).mode = s.mode ∧ (s.putGuest v).modeCause = s.modeCause ∧ (s.putGuest v).phase = s.phase ∧ (s.putGuest v).straps =
    s.straps ∧ (s.putGuest v).perst = s.perst ∧ (s.putGuest v).vinHigh = s.vinHigh ∧ (s.putGuest v).claimed = s.claimed ∧
    (s.putGuest v).resetDue = s.resetDue ∧ (s.putGuest v).meas = s.meas ∧ (s.putGuest v).hot = s.hot ∧ (s.putGuest v).tick
    = s.tick ∧ (s.putGuest v).wrap = s.wrap ∧ (s.putGuest v).hbOut = s.hbOut ∧ (s.putGuest v).cw = s.cw ∧ (s.putGuest
    v).ctx = s.ctx ∧ (s.putGuest v).ctxAt = s.ctxAt ∧ (s.putGuest v).engines = s.engines ∧ (s.putGuest v).loaf = s.loaf ∧
    (s.putGuest v).loafNext = s.loafNext ∧ (s.putGuest v).loafDue = s.loafDue ∧ (s.putGuest v).batch = s.batch ∧
    (s.putGuest v).suspended = s.suspended ∧ (s.putGuest v).batchesDone = s.batchesDone ∧ (s.putGuest v).batchIds =
    s.batchIds ∧ (s.putGuest v).lastRing = s.lastRing ∧ (s.putGuest v).rings = s.rings ∧ (s.putGuest v).scratch =
    s.scratch ∧ (s.putGuest v).hq = s.hq ∧ (s.putGuest v).hostRing = s.hostRing ∧ (s.putGuest v).intPend = s.intPend ∧
    (s.putGuest v).msixTable = s.msixTable ∧ (s.putGuest v).msixPba = s.msixPba ∧ (s.putGuest v).violated = s.violated ∧
    (s.putGuest v).chkMax = s.chkMax ∧ (s.putGuest v).captures = s.captures ∧ (s.putGuest v).due = s.due ∧ (s.putGuest
    v).lanes = s.lanes ∧ (s.putGuest v).quads = s.quads ∧ (s.putGuest v).flex = s.flex ∧ (s.putGuest v).recClk = s.recClk
    ∧ (s.putGuest v).refClk = s.refClk ∧ (s.putGuest v).ilk = s.ilk ∧ (s.putGuest v).trackers = s.trackers ∧ (s.putGuest
    v).framers = s.framers ∧ (s.putGuest v).mons = s.mons ∧ (s.putGuest v).oh = s.oh ∧ (s.putGuest v).ohT0 = s.ohT0 ∧
    (s.putGuest v).cells = s.cells ∧ (s.putGuest v).cellsT0 = s.cellsT0 ∧ (s.putGuest v).binQ = s.binQ ∧ (s.putGuest
    v).binD = s.binD ∧ (s.putGuest v).binLoad = s.binLoad ∧ (s.putGuest v).binRestored = s.binRestored ∧ (s.putGuest
    v).pmTime = s.pmTime ∧ (s.putGuest v).deck = s.deck ∧ (s.putGuest v).sels = s.sels ∧ (s.putGuest v).decks = s.decks ∧
    (s.putGuest v).rsz = s.rsz ∧ (s.putGuest v).prfRings = s.prfRings ∧ (s.putGuest v).hls = s.hls ∧ (s.putGuest v).groups
    = s.groups ∧ (s.putGuest v).substs = s.substs ∧ (s.putGuest v).unverified = s.unverified ∧ (s.putGuest v).firstRing =
    s.firstRing ∧ (s.putGuest v).pairs = s.pairs ∧ (s.putGuest v).audio = s.audio ∧ (s.putGuest v).sync = s.sync ∧
    (s.putGuest v).dpll = s.dpll ∧ (s.putGuest v).doms = s.doms ∧ (s.putGuest v).vloops = s.vloops ∧ (s.putGuest v).rdn =
    s.rdn ∧ (s.putGuest v).bank = s.bank ∧ (s.putGuest v).spare = s.spare ∧ (s.putGuest v).link = s.link ∧ (s.putGuest
    v).test = s.test ∧ (s.putGuest v).sec = s.sec ∧ (s.putGuest v).nvm = s.nvm ∧ (s.putGuest v).sess = s.sess ∧
    (s.putGuest v).long = s.long ∧ (s.putGuest v).jtag = s.jtag ∧ (s.putGuest v).trace = s.trace ∧ (s.putGuest v).pinMoves
    = s.pinMoves ∧ (s.putGuest v).words = s.words ∧ (s.putGuest v).cq = s.cq ∧ (s.putGuest v).ports = s.ports := by
  and_intros <;> rfl

@[simp] theorem State.putJtag_jtag (s : State) (v : Jtag) : (s.putJtag v).jtag = v := rfl
@[simp] theorem State.putJtag_frame (s : State) (v : Jtag) :
    (s.putJtag v).pending = s.pending ∧ (s.putJtag v).freeUses = s.freeUses ∧ (s.putJtag v).out = s.out ∧ (s.putJtag
    v).mode = s.mode ∧ (s.putJtag v).modeCause = s.modeCause ∧ (s.putJtag v).phase = s.phase ∧ (s.putJtag v).straps =
    s.straps ∧ (s.putJtag v).perst = s.perst ∧ (s.putJtag v).vinHigh = s.vinHigh ∧ (s.putJtag v).claimed = s.claimed ∧
    (s.putJtag v).resetDue = s.resetDue ∧ (s.putJtag v).meas = s.meas ∧ (s.putJtag v).hot = s.hot ∧ (s.putJtag v).tick =
    s.tick ∧ (s.putJtag v).wrap = s.wrap ∧ (s.putJtag v).hbOut = s.hbOut ∧ (s.putJtag v).cw = s.cw ∧ (s.putJtag v).ctx =
    s.ctx ∧ (s.putJtag v).ctxAt = s.ctxAt ∧ (s.putJtag v).engines = s.engines ∧ (s.putJtag v).loaf = s.loaf ∧ (s.putJtag
    v).loafNext = s.loafNext ∧ (s.putJtag v).loafDue = s.loafDue ∧ (s.putJtag v).batch = s.batch ∧ (s.putJtag v).suspended
    = s.suspended ∧ (s.putJtag v).batchesDone = s.batchesDone ∧ (s.putJtag v).batchIds = s.batchIds ∧ (s.putJtag
    v).lastRing = s.lastRing ∧ (s.putJtag v).rings = s.rings ∧ (s.putJtag v).scratch = s.scratch ∧ (s.putJtag v).hq = s.hq
    ∧ (s.putJtag v).hostRing = s.hostRing ∧ (s.putJtag v).intPend = s.intPend ∧ (s.putJtag v).msixTable = s.msixTable ∧
    (s.putJtag v).msixPba = s.msixPba ∧ (s.putJtag v).violated = s.violated ∧ (s.putJtag v).chkMax = s.chkMax ∧ (s.putJtag
    v).captures = s.captures ∧ (s.putJtag v).due = s.due ∧ (s.putJtag v).lanes = s.lanes ∧ (s.putJtag v).quads = s.quads ∧
    (s.putJtag v).flex = s.flex ∧ (s.putJtag v).recClk = s.recClk ∧ (s.putJtag v).refClk = s.refClk ∧ (s.putJtag v).ilk =
    s.ilk ∧ (s.putJtag v).trackers = s.trackers ∧ (s.putJtag v).framers = s.framers ∧ (s.putJtag v).mons = s.mons ∧
    (s.putJtag v).oh = s.oh ∧ (s.putJtag v).ohT0 = s.ohT0 ∧ (s.putJtag v).cells = s.cells ∧ (s.putJtag v).cellsT0 =
    s.cellsT0 ∧ (s.putJtag v).binQ = s.binQ ∧ (s.putJtag v).binD = s.binD ∧ (s.putJtag v).binLoad = s.binLoad ∧ (s.putJtag
    v).binRestored = s.binRestored ∧ (s.putJtag v).pmTime = s.pmTime ∧ (s.putJtag v).deck = s.deck ∧ (s.putJtag v).sels =
    s.sels ∧ (s.putJtag v).decks = s.decks ∧ (s.putJtag v).rsz = s.rsz ∧ (s.putJtag v).prfRings = s.prfRings ∧ (s.putJtag
    v).hls = s.hls ∧ (s.putJtag v).groups = s.groups ∧ (s.putJtag v).substs = s.substs ∧ (s.putJtag v).unverified =
    s.unverified ∧ (s.putJtag v).firstRing = s.firstRing ∧ (s.putJtag v).pairs = s.pairs ∧ (s.putJtag v).audio = s.audio ∧
    (s.putJtag v).sync = s.sync ∧ (s.putJtag v).dpll = s.dpll ∧ (s.putJtag v).doms = s.doms ∧ (s.putJtag v).vloops =
    s.vloops ∧ (s.putJtag v).rdn = s.rdn ∧ (s.putJtag v).bank = s.bank ∧ (s.putJtag v).spare = s.spare ∧ (s.putJtag
    v).link = s.link ∧ (s.putJtag v).test = s.test ∧ (s.putJtag v).sec = s.sec ∧ (s.putJtag v).nvm = s.nvm ∧ (s.putJtag
    v).sess = s.sess ∧ (s.putJtag v).long = s.long ∧ (s.putJtag v).guest = s.guest ∧ (s.putJtag v).trace = s.trace ∧
    (s.putJtag v).pinMoves = s.pinMoves ∧ (s.putJtag v).words = s.words ∧ (s.putJtag v).cq = s.cq ∧ (s.putJtag v).ports =
    s.ports := by
  and_intros <;> rfl

@[simp] theorem State.putTrace_trace (s : State) (v : List Nat) : (s.putTrace v).trace = v := rfl
@[simp] theorem State.putTrace_frame (s : State) (v : List Nat) :
    (s.putTrace v).pending = s.pending ∧ (s.putTrace v).freeUses = s.freeUses ∧ (s.putTrace v).out = s.out ∧ (s.putTrace
    v).mode = s.mode ∧ (s.putTrace v).modeCause = s.modeCause ∧ (s.putTrace v).phase = s.phase ∧ (s.putTrace v).straps =
    s.straps ∧ (s.putTrace v).perst = s.perst ∧ (s.putTrace v).vinHigh = s.vinHigh ∧ (s.putTrace v).claimed = s.claimed ∧
    (s.putTrace v).resetDue = s.resetDue ∧ (s.putTrace v).meas = s.meas ∧ (s.putTrace v).hot = s.hot ∧ (s.putTrace v).tick
    = s.tick ∧ (s.putTrace v).wrap = s.wrap ∧ (s.putTrace v).hbOut = s.hbOut ∧ (s.putTrace v).cw = s.cw ∧ (s.putTrace
    v).ctx = s.ctx ∧ (s.putTrace v).ctxAt = s.ctxAt ∧ (s.putTrace v).engines = s.engines ∧ (s.putTrace v).loaf = s.loaf ∧
    (s.putTrace v).loafNext = s.loafNext ∧ (s.putTrace v).loafDue = s.loafDue ∧ (s.putTrace v).batch = s.batch ∧
    (s.putTrace v).suspended = s.suspended ∧ (s.putTrace v).batchesDone = s.batchesDone ∧ (s.putTrace v).batchIds =
    s.batchIds ∧ (s.putTrace v).lastRing = s.lastRing ∧ (s.putTrace v).rings = s.rings ∧ (s.putTrace v).scratch =
    s.scratch ∧ (s.putTrace v).hq = s.hq ∧ (s.putTrace v).hostRing = s.hostRing ∧ (s.putTrace v).intPend = s.intPend ∧
    (s.putTrace v).msixTable = s.msixTable ∧ (s.putTrace v).msixPba = s.msixPba ∧ (s.putTrace v).violated = s.violated ∧
    (s.putTrace v).chkMax = s.chkMax ∧ (s.putTrace v).captures = s.captures ∧ (s.putTrace v).due = s.due ∧ (s.putTrace
    v).lanes = s.lanes ∧ (s.putTrace v).quads = s.quads ∧ (s.putTrace v).flex = s.flex ∧ (s.putTrace v).recClk = s.recClk
    ∧ (s.putTrace v).refClk = s.refClk ∧ (s.putTrace v).ilk = s.ilk ∧ (s.putTrace v).trackers = s.trackers ∧ (s.putTrace
    v).framers = s.framers ∧ (s.putTrace v).mons = s.mons ∧ (s.putTrace v).oh = s.oh ∧ (s.putTrace v).ohT0 = s.ohT0 ∧
    (s.putTrace v).cells = s.cells ∧ (s.putTrace v).cellsT0 = s.cellsT0 ∧ (s.putTrace v).binQ = s.binQ ∧ (s.putTrace
    v).binD = s.binD ∧ (s.putTrace v).binLoad = s.binLoad ∧ (s.putTrace v).binRestored = s.binRestored ∧ (s.putTrace
    v).pmTime = s.pmTime ∧ (s.putTrace v).deck = s.deck ∧ (s.putTrace v).sels = s.sels ∧ (s.putTrace v).decks = s.decks ∧
    (s.putTrace v).rsz = s.rsz ∧ (s.putTrace v).prfRings = s.prfRings ∧ (s.putTrace v).hls = s.hls ∧ (s.putTrace v).groups
    = s.groups ∧ (s.putTrace v).substs = s.substs ∧ (s.putTrace v).unverified = s.unverified ∧ (s.putTrace v).firstRing =
    s.firstRing ∧ (s.putTrace v).pairs = s.pairs ∧ (s.putTrace v).audio = s.audio ∧ (s.putTrace v).sync = s.sync ∧
    (s.putTrace v).dpll = s.dpll ∧ (s.putTrace v).doms = s.doms ∧ (s.putTrace v).vloops = s.vloops ∧ (s.putTrace v).rdn =
    s.rdn ∧ (s.putTrace v).bank = s.bank ∧ (s.putTrace v).spare = s.spare ∧ (s.putTrace v).link = s.link ∧ (s.putTrace
    v).test = s.test ∧ (s.putTrace v).sec = s.sec ∧ (s.putTrace v).nvm = s.nvm ∧ (s.putTrace v).sess = s.sess ∧
    (s.putTrace v).long = s.long ∧ (s.putTrace v).guest = s.guest ∧ (s.putTrace v).jtag = s.jtag ∧ (s.putTrace v).pinMoves
    = s.pinMoves ∧ (s.putTrace v).words = s.words ∧ (s.putTrace v).cq = s.cq ∧ (s.putTrace v).ports = s.ports := by
  and_intros <;> rfl

@[simp] theorem State.putPinMoves_pinMoves (s : State) (v : List Nat) : (s.putPinMoves v).pinMoves = v := rfl
@[simp] theorem State.putPinMoves_frame (s : State) (v : List Nat) :
    (s.putPinMoves v).pending = s.pending ∧ (s.putPinMoves v).freeUses = s.freeUses ∧ (s.putPinMoves v).out = s.out ∧
    (s.putPinMoves v).mode = s.mode ∧ (s.putPinMoves v).modeCause = s.modeCause ∧ (s.putPinMoves v).phase = s.phase ∧
    (s.putPinMoves v).straps = s.straps ∧ (s.putPinMoves v).perst = s.perst ∧ (s.putPinMoves v).vinHigh = s.vinHigh ∧
    (s.putPinMoves v).claimed = s.claimed ∧ (s.putPinMoves v).resetDue = s.resetDue ∧ (s.putPinMoves v).meas = s.meas ∧
    (s.putPinMoves v).hot = s.hot ∧ (s.putPinMoves v).tick = s.tick ∧ (s.putPinMoves v).wrap = s.wrap ∧ (s.putPinMoves
    v).hbOut = s.hbOut ∧ (s.putPinMoves v).cw = s.cw ∧ (s.putPinMoves v).ctx = s.ctx ∧ (s.putPinMoves v).ctxAt = s.ctxAt ∧
    (s.putPinMoves v).engines = s.engines ∧ (s.putPinMoves v).loaf = s.loaf ∧ (s.putPinMoves v).loafNext = s.loafNext ∧
    (s.putPinMoves v).loafDue = s.loafDue ∧ (s.putPinMoves v).batch = s.batch ∧ (s.putPinMoves v).suspended = s.suspended
    ∧ (s.putPinMoves v).batchesDone = s.batchesDone ∧ (s.putPinMoves v).batchIds = s.batchIds ∧ (s.putPinMoves v).lastRing
    = s.lastRing ∧ (s.putPinMoves v).rings = s.rings ∧ (s.putPinMoves v).scratch = s.scratch ∧ (s.putPinMoves v).hq = s.hq
    ∧ (s.putPinMoves v).hostRing = s.hostRing ∧ (s.putPinMoves v).intPend = s.intPend ∧ (s.putPinMoves v).msixTable =
    s.msixTable ∧ (s.putPinMoves v).msixPba = s.msixPba ∧ (s.putPinMoves v).violated = s.violated ∧ (s.putPinMoves
    v).chkMax = s.chkMax ∧ (s.putPinMoves v).captures = s.captures ∧ (s.putPinMoves v).due = s.due ∧ (s.putPinMoves
    v).lanes = s.lanes ∧ (s.putPinMoves v).quads = s.quads ∧ (s.putPinMoves v).flex = s.flex ∧ (s.putPinMoves v).recClk =
    s.recClk ∧ (s.putPinMoves v).refClk = s.refClk ∧ (s.putPinMoves v).ilk = s.ilk ∧ (s.putPinMoves v).trackers =
    s.trackers ∧ (s.putPinMoves v).framers = s.framers ∧ (s.putPinMoves v).mons = s.mons ∧ (s.putPinMoves v).oh = s.oh ∧
    (s.putPinMoves v).ohT0 = s.ohT0 ∧ (s.putPinMoves v).cells = s.cells ∧ (s.putPinMoves v).cellsT0 = s.cellsT0 ∧
    (s.putPinMoves v).binQ = s.binQ ∧ (s.putPinMoves v).binD = s.binD ∧ (s.putPinMoves v).binLoad = s.binLoad ∧
    (s.putPinMoves v).binRestored = s.binRestored ∧ (s.putPinMoves v).pmTime = s.pmTime ∧ (s.putPinMoves v).deck = s.deck
    ∧ (s.putPinMoves v).sels = s.sels ∧ (s.putPinMoves v).decks = s.decks ∧ (s.putPinMoves v).rsz = s.rsz ∧ (s.putPinMoves
    v).prfRings = s.prfRings ∧ (s.putPinMoves v).hls = s.hls ∧ (s.putPinMoves v).groups = s.groups ∧ (s.putPinMoves
    v).substs = s.substs ∧ (s.putPinMoves v).unverified = s.unverified ∧ (s.putPinMoves v).firstRing = s.firstRing ∧
    (s.putPinMoves v).pairs = s.pairs ∧ (s.putPinMoves v).audio = s.audio ∧ (s.putPinMoves v).sync = s.sync ∧
    (s.putPinMoves v).dpll = s.dpll ∧ (s.putPinMoves v).doms = s.doms ∧ (s.putPinMoves v).vloops = s.vloops ∧
    (s.putPinMoves v).rdn = s.rdn ∧ (s.putPinMoves v).bank = s.bank ∧ (s.putPinMoves v).spare = s.spare ∧ (s.putPinMoves
    v).link = s.link ∧ (s.putPinMoves v).test = s.test ∧ (s.putPinMoves v).sec = s.sec ∧ (s.putPinMoves v).nvm = s.nvm ∧
    (s.putPinMoves v).sess = s.sess ∧ (s.putPinMoves v).long = s.long ∧ (s.putPinMoves v).guest = s.guest ∧ (s.putPinMoves
    v).jtag = s.jtag ∧ (s.putPinMoves v).trace = s.trace ∧ (s.putPinMoves v).words = s.words ∧ (s.putPinMoves v).cq = s.cq
    ∧ (s.putPinMoves v).ports = s.ports := by
  and_intros <;> rfl

@[simp] theorem State.putWords_words (s : State) (v : Tab Word) : (s.putWords v).words = v := rfl
@[simp] theorem State.putWords_frame (s : State) (v : Tab Word) :
    (s.putWords v).pending = s.pending ∧ (s.putWords v).freeUses = s.freeUses ∧ (s.putWords v).out = s.out ∧ (s.putWords
    v).mode = s.mode ∧ (s.putWords v).modeCause = s.modeCause ∧ (s.putWords v).phase = s.phase ∧ (s.putWords v).straps =
    s.straps ∧ (s.putWords v).perst = s.perst ∧ (s.putWords v).vinHigh = s.vinHigh ∧ (s.putWords v).claimed = s.claimed ∧
    (s.putWords v).resetDue = s.resetDue ∧ (s.putWords v).meas = s.meas ∧ (s.putWords v).hot = s.hot ∧ (s.putWords v).tick
    = s.tick ∧ (s.putWords v).wrap = s.wrap ∧ (s.putWords v).hbOut = s.hbOut ∧ (s.putWords v).cw = s.cw ∧ (s.putWords
    v).ctx = s.ctx ∧ (s.putWords v).ctxAt = s.ctxAt ∧ (s.putWords v).engines = s.engines ∧ (s.putWords v).loaf = s.loaf ∧
    (s.putWords v).loafNext = s.loafNext ∧ (s.putWords v).loafDue = s.loafDue ∧ (s.putWords v).batch = s.batch ∧
    (s.putWords v).suspended = s.suspended ∧ (s.putWords v).batchesDone = s.batchesDone ∧ (s.putWords v).batchIds =
    s.batchIds ∧ (s.putWords v).lastRing = s.lastRing ∧ (s.putWords v).rings = s.rings ∧ (s.putWords v).scratch =
    s.scratch ∧ (s.putWords v).hq = s.hq ∧ (s.putWords v).hostRing = s.hostRing ∧ (s.putWords v).intPend = s.intPend ∧
    (s.putWords v).msixTable = s.msixTable ∧ (s.putWords v).msixPba = s.msixPba ∧ (s.putWords v).violated = s.violated ∧
    (s.putWords v).chkMax = s.chkMax ∧ (s.putWords v).captures = s.captures ∧ (s.putWords v).due = s.due ∧ (s.putWords
    v).lanes = s.lanes ∧ (s.putWords v).quads = s.quads ∧ (s.putWords v).flex = s.flex ∧ (s.putWords v).recClk = s.recClk
    ∧ (s.putWords v).refClk = s.refClk ∧ (s.putWords v).ilk = s.ilk ∧ (s.putWords v).trackers = s.trackers ∧ (s.putWords
    v).framers = s.framers ∧ (s.putWords v).mons = s.mons ∧ (s.putWords v).oh = s.oh ∧ (s.putWords v).ohT0 = s.ohT0 ∧
    (s.putWords v).cells = s.cells ∧ (s.putWords v).cellsT0 = s.cellsT0 ∧ (s.putWords v).binQ = s.binQ ∧ (s.putWords
    v).binD = s.binD ∧ (s.putWords v).binLoad = s.binLoad ∧ (s.putWords v).binRestored = s.binRestored ∧ (s.putWords
    v).pmTime = s.pmTime ∧ (s.putWords v).deck = s.deck ∧ (s.putWords v).sels = s.sels ∧ (s.putWords v).decks = s.decks ∧
    (s.putWords v).rsz = s.rsz ∧ (s.putWords v).prfRings = s.prfRings ∧ (s.putWords v).hls = s.hls ∧ (s.putWords v).groups
    = s.groups ∧ (s.putWords v).substs = s.substs ∧ (s.putWords v).unverified = s.unverified ∧ (s.putWords v).firstRing =
    s.firstRing ∧ (s.putWords v).pairs = s.pairs ∧ (s.putWords v).audio = s.audio ∧ (s.putWords v).sync = s.sync ∧
    (s.putWords v).dpll = s.dpll ∧ (s.putWords v).doms = s.doms ∧ (s.putWords v).vloops = s.vloops ∧ (s.putWords v).rdn =
    s.rdn ∧ (s.putWords v).bank = s.bank ∧ (s.putWords v).spare = s.spare ∧ (s.putWords v).link = s.link ∧ (s.putWords
    v).test = s.test ∧ (s.putWords v).sec = s.sec ∧ (s.putWords v).nvm = s.nvm ∧ (s.putWords v).sess = s.sess ∧
    (s.putWords v).long = s.long ∧ (s.putWords v).guest = s.guest ∧ (s.putWords v).jtag = s.jtag ∧ (s.putWords v).trace =
    s.trace ∧ (s.putWords v).pinMoves = s.pinMoves ∧ (s.putWords v).cq = s.cq ∧ (s.putWords v).ports = s.ports := by
  and_intros <;> rfl

@[simp] theorem State.putCq_cq (s : State) (v : Tab ClientQueue) : (s.putCq v).cq = v := rfl
@[simp] theorem State.putCq_frame (s : State) (v : Tab ClientQueue) :
    (s.putCq v).pending = s.pending ∧ (s.putCq v).freeUses = s.freeUses ∧ (s.putCq v).out = s.out ∧ (s.putCq v).mode =
    s.mode ∧ (s.putCq v).modeCause = s.modeCause ∧ (s.putCq v).phase = s.phase ∧ (s.putCq v).straps = s.straps ∧ (s.putCq
    v).perst = s.perst ∧ (s.putCq v).vinHigh = s.vinHigh ∧ (s.putCq v).claimed = s.claimed ∧ (s.putCq v).resetDue =
    s.resetDue ∧ (s.putCq v).meas = s.meas ∧ (s.putCq v).hot = s.hot ∧ (s.putCq v).tick = s.tick ∧ (s.putCq v).wrap =
    s.wrap ∧ (s.putCq v).hbOut = s.hbOut ∧ (s.putCq v).cw = s.cw ∧ (s.putCq v).ctx = s.ctx ∧ (s.putCq v).ctxAt = s.ctxAt ∧
    (s.putCq v).engines = s.engines ∧ (s.putCq v).loaf = s.loaf ∧ (s.putCq v).loafNext = s.loafNext ∧ (s.putCq v).loafDue
    = s.loafDue ∧ (s.putCq v).batch = s.batch ∧ (s.putCq v).suspended = s.suspended ∧ (s.putCq v).batchesDone =
    s.batchesDone ∧ (s.putCq v).batchIds = s.batchIds ∧ (s.putCq v).lastRing = s.lastRing ∧ (s.putCq v).rings = s.rings ∧
    (s.putCq v).scratch = s.scratch ∧ (s.putCq v).hq = s.hq ∧ (s.putCq v).hostRing = s.hostRing ∧ (s.putCq v).intPend =
    s.intPend ∧ (s.putCq v).msixTable = s.msixTable ∧ (s.putCq v).msixPba = s.msixPba ∧ (s.putCq v).violated = s.violated
    ∧ (s.putCq v).chkMax = s.chkMax ∧ (s.putCq v).captures = s.captures ∧ (s.putCq v).due = s.due ∧ (s.putCq v).lanes =
    s.lanes ∧ (s.putCq v).quads = s.quads ∧ (s.putCq v).flex = s.flex ∧ (s.putCq v).recClk = s.recClk ∧ (s.putCq v).refClk
    = s.refClk ∧ (s.putCq v).ilk = s.ilk ∧ (s.putCq v).trackers = s.trackers ∧ (s.putCq v).framers = s.framers ∧ (s.putCq
    v).mons = s.mons ∧ (s.putCq v).oh = s.oh ∧ (s.putCq v).ohT0 = s.ohT0 ∧ (s.putCq v).cells = s.cells ∧ (s.putCq
    v).cellsT0 = s.cellsT0 ∧ (s.putCq v).binQ = s.binQ ∧ (s.putCq v).binD = s.binD ∧ (s.putCq v).binLoad = s.binLoad ∧
    (s.putCq v).binRestored = s.binRestored ∧ (s.putCq v).pmTime = s.pmTime ∧ (s.putCq v).deck = s.deck ∧ (s.putCq v).sels
    = s.sels ∧ (s.putCq v).decks = s.decks ∧ (s.putCq v).rsz = s.rsz ∧ (s.putCq v).prfRings = s.prfRings ∧ (s.putCq v).hls
    = s.hls ∧ (s.putCq v).groups = s.groups ∧ (s.putCq v).substs = s.substs ∧ (s.putCq v).unverified = s.unverified ∧
    (s.putCq v).firstRing = s.firstRing ∧ (s.putCq v).pairs = s.pairs ∧ (s.putCq v).audio = s.audio ∧ (s.putCq v).sync =
    s.sync ∧ (s.putCq v).dpll = s.dpll ∧ (s.putCq v).doms = s.doms ∧ (s.putCq v).vloops = s.vloops ∧ (s.putCq v).rdn =
    s.rdn ∧ (s.putCq v).bank = s.bank ∧ (s.putCq v).spare = s.spare ∧ (s.putCq v).link = s.link ∧ (s.putCq v).test =
    s.test ∧ (s.putCq v).sec = s.sec ∧ (s.putCq v).nvm = s.nvm ∧ (s.putCq v).sess = s.sess ∧ (s.putCq v).long = s.long ∧
    (s.putCq v).guest = s.guest ∧ (s.putCq v).jtag = s.jtag ∧ (s.putCq v).trace = s.trace ∧ (s.putCq v).pinMoves =
    s.pinMoves ∧ (s.putCq v).words = s.words ∧ (s.putCq v).ports = s.ports := by
  and_intros <;> rfl

@[simp] theorem State.putPorts_ports (s : State) (v : Tab Port) : (s.putPorts v).ports = v := rfl
@[simp] theorem State.putPorts_frame (s : State) (v : Tab Port) :
    (s.putPorts v).pending = s.pending ∧ (s.putPorts v).freeUses = s.freeUses ∧ (s.putPorts v).out = s.out ∧ (s.putPorts
    v).mode = s.mode ∧ (s.putPorts v).modeCause = s.modeCause ∧ (s.putPorts v).phase = s.phase ∧ (s.putPorts v).straps =
    s.straps ∧ (s.putPorts v).perst = s.perst ∧ (s.putPorts v).vinHigh = s.vinHigh ∧ (s.putPorts v).claimed = s.claimed ∧
    (s.putPorts v).resetDue = s.resetDue ∧ (s.putPorts v).meas = s.meas ∧ (s.putPorts v).hot = s.hot ∧ (s.putPorts v).tick
    = s.tick ∧ (s.putPorts v).wrap = s.wrap ∧ (s.putPorts v).hbOut = s.hbOut ∧ (s.putPorts v).cw = s.cw ∧ (s.putPorts
    v).ctx = s.ctx ∧ (s.putPorts v).ctxAt = s.ctxAt ∧ (s.putPorts v).engines = s.engines ∧ (s.putPorts v).loaf = s.loaf ∧
    (s.putPorts v).loafNext = s.loafNext ∧ (s.putPorts v).loafDue = s.loafDue ∧ (s.putPorts v).batch = s.batch ∧
    (s.putPorts v).suspended = s.suspended ∧ (s.putPorts v).batchesDone = s.batchesDone ∧ (s.putPorts v).batchIds =
    s.batchIds ∧ (s.putPorts v).lastRing = s.lastRing ∧ (s.putPorts v).rings = s.rings ∧ (s.putPorts v).scratch =
    s.scratch ∧ (s.putPorts v).hq = s.hq ∧ (s.putPorts v).hostRing = s.hostRing ∧ (s.putPorts v).intPend = s.intPend ∧
    (s.putPorts v).msixTable = s.msixTable ∧ (s.putPorts v).msixPba = s.msixPba ∧ (s.putPorts v).violated = s.violated ∧
    (s.putPorts v).chkMax = s.chkMax ∧ (s.putPorts v).captures = s.captures ∧ (s.putPorts v).due = s.due ∧ (s.putPorts
    v).lanes = s.lanes ∧ (s.putPorts v).quads = s.quads ∧ (s.putPorts v).flex = s.flex ∧ (s.putPorts v).recClk = s.recClk
    ∧ (s.putPorts v).refClk = s.refClk ∧ (s.putPorts v).ilk = s.ilk ∧ (s.putPorts v).trackers = s.trackers ∧ (s.putPorts
    v).framers = s.framers ∧ (s.putPorts v).mons = s.mons ∧ (s.putPorts v).oh = s.oh ∧ (s.putPorts v).ohT0 = s.ohT0 ∧
    (s.putPorts v).cells = s.cells ∧ (s.putPorts v).cellsT0 = s.cellsT0 ∧ (s.putPorts v).binQ = s.binQ ∧ (s.putPorts
    v).binD = s.binD ∧ (s.putPorts v).binLoad = s.binLoad ∧ (s.putPorts v).binRestored = s.binRestored ∧ (s.putPorts
    v).pmTime = s.pmTime ∧ (s.putPorts v).deck = s.deck ∧ (s.putPorts v).sels = s.sels ∧ (s.putPorts v).decks = s.decks ∧
    (s.putPorts v).rsz = s.rsz ∧ (s.putPorts v).prfRings = s.prfRings ∧ (s.putPorts v).hls = s.hls ∧ (s.putPorts v).groups
    = s.groups ∧ (s.putPorts v).substs = s.substs ∧ (s.putPorts v).unverified = s.unverified ∧ (s.putPorts v).firstRing =
    s.firstRing ∧ (s.putPorts v).pairs = s.pairs ∧ (s.putPorts v).audio = s.audio ∧ (s.putPorts v).sync = s.sync ∧
    (s.putPorts v).dpll = s.dpll ∧ (s.putPorts v).doms = s.doms ∧ (s.putPorts v).vloops = s.vloops ∧ (s.putPorts v).rdn =
    s.rdn ∧ (s.putPorts v).bank = s.bank ∧ (s.putPorts v).spare = s.spare ∧ (s.putPorts v).link = s.link ∧ (s.putPorts
    v).test = s.test ∧ (s.putPorts v).sec = s.sec ∧ (s.putPorts v).nvm = s.nvm ∧ (s.putPorts v).sess = s.sess ∧
    (s.putPorts v).long = s.long ∧ (s.putPorts v).guest = s.guest ∧ (s.putPorts v).jtag = s.jtag ∧ (s.putPorts v).trace =
    s.trace ∧ (s.putPorts v).pinMoves = s.pinMoves ∧ (s.putPorts v).words = s.words ∧ (s.putPorts v).cq = s.cq := by
  and_intros <;> rfl

end Sys2Proof.Machine
end

