-- ==== Sys2Proof/WellFormed.lean ====
section
/-! DEFINITION. Which commands are well formed: operands within what the spec gives the thing they name. A command that the
block can meet is well formed; the meanings are total on the others too. -/

namespace Sys2Proof

/-- A bundle address lies in the program memory (R299). -/
def originOk (o : Origin) : Bool := decide (o.bundle < 8192)

def reqOk : ReqStep → Bool
  | .issue _ _ => true
  | .land o _ => originOk o

def recentreOk : RecentreStep → Bool
  | .write o => originOk o
  | .place => true

def runOk : RunStep → Bool
  | .write ws => !ws.isEmpty && ws.all fun x => originOk x.origin
  | .land => true

/-- A channel header has 8 octets (R189). -/
def chanOk : ChanStep → Bool
  | .head h => decide (h.length = 8)
  | .data _ => true
  | .finish _ => true

/-- Fields of a Polfen frame (Table 12-7). -/
def frameOk (f : PFrame) : Bool :=
  decide (f.ty < 16) && decide (f.seq < 2 ^ 48) && decide (f.ack < 2 ^ 16) && decide (f.len ≤ 28) && decide (f.crg < 256)

/-- Fields of a batch buffer and of a command entry (Tables 14-3, 14-4). -/
def bufOk : CmdBuf → Bool
  | .batch b => decide (b.ver < 256) && decide (b.format < 256) && decide (b.seq < 2 ^ 64)
  | .openReq _ _ => true
  | .proof _ => true

def entryOk (e : CmdEntry) : Bool := decide (e.ty < 256) && decide (e.resp < 256) && decide (e.reply < 2 ^ 64) && bufOk e.buf

/-- A received frame: codeword counts that can be. -/
def rxOk (f : RxFrame) : Bool := f.fec.all fun x => decide (x.corr + x.uncorr ≤ x.cw)

/-- Well-formed commands. -/
def Instr.wellFormed : Instr → Bool
  | .nop _ => true
  | .add _ _ _ _ => true
  | .sub _ _ _ _ => true
  | .and _ _ _ _ => true
  | .or _ _ _ _ => true
  | .xor _ _ _ _ => true
  | .shl _ _ _ _ => true
  | .shr _ _ _ _ => true
  | .sar _ _ _ _ => true
  | .mov _ _ _ => true
  | .sel _ _ _ _ _ => true
  | .min _ _ _ _ => true
  | .max _ _ _ _ => true
  | .satAdd _ _ _ _ => true
  | .cmpEq _ _ _ _ _ => true
  | .cmpNe _ _ _ _ _ => true
  | .cmpLt _ _ _ _ _ => true
  | .cmpLtu _ _ _ _ _ => true
  | .movi _ _ _ => true
  | .movh _ _ _ _ => true
  | .addImmediate _ _ _ _ => true
  | .lex _ _ _ _ => true
  | .lins _ _ _ _ _ => true
  | .popc _ _ _ => true
  | .bip8 _ _ _ _ => true
  | .ctxLd _ _ _ _ _ => true
  | .ctxSt _ _ _ _ _ => true
  | .ctxNext _ _ _ _ => true
  | .ctxId _ _ _ _ => true
  | .ohGet _ _ _ _ _ _ => true
  | .ohPut _ _ _ _ _ _ => true
  | .defSet _ _ _ _ => true
  | .defClr _ _ _ _ => true
  | .alm _ _ _ => true
  | .pmAdd _ _ _ _ _ => true
  | .pmRoll _ _ _ _ _ => true
  | .cfgR _ _ _ _ => true
  | .cfgW _ _ _ _ => true
  | .filtSet _ _ _ _ => true
  | .filtGet _ _ _ _ => true
  | .protReqClear w => reqOk w
  | .protReqLo w => reqOk w
  | .protReqFs w => reqOk w
  | .protReqMsP w => reqOk w
  | .protReqMsW w => reqOk w
  | .protReqExer w => reqOk w
  | .protReqWtr w => reqOk w
  | .protReqDnr w => reqOk w
  | .protReqNr w => reqOk w
  | .protSt _ _ _ => true
  | .deckW _ _ _ => true
  | .deckRd _ _ _ _ => true
  | .deckSwap _ _ _ => true
  | .qOpen _ _ _ => true
  | .qPut _ _ => true
  | .qClose _ => true
  | .qAbort _ => true
  | .chkSeed _ _ _ _ _ => true
  | .chkFeed _ _ _ _ => true
  | .chkRes _ _ _ => true
  | .pcSel _ _ _ => true
  | .pcRd _ _ _ _ => true
  | .snap _ => true
  | .br _ _ => true
  | .loop _ _ _ => true
  | .loopContext _ _ _ _ => true
  | .endl _ => true
  | .call _ _ => true
  | .ret _ => true
  | .haltTick _ => true
  | .snapInEdge => true
  | .snapCapture _ => true
  | .laneCfg _ _ ws => !ws.isEmpty && ws.all fun x => originOk x.origin
  | .vcoCalDone _ _ => true
  | .lanePllLock _ => true
  | .laneCdrLock _ => true
  | .laneEqCtrl _ w => originOk w.origin
  | .laneTxFfe _ _ w => originOk w.origin
  | .eqFenceHit _ _ => true
  | .eqMarginLow _ _ => true
  | .linkTrainDone _ _ _ => true
  | .linkTrainFail _ => true
  | .prbsGenEn o _ _ _ => originOk o
  | .prbsChkEn o _ _ => originOk o
  | .prbsErrInj o _ => originOk o
  | .prbsLock _ bits errs => decide (errs ≤ bits)
  | .prbsLockLoss _ bits errs => decide (errs ≤ bits)
  | .laneLpbk o _ _ _ => originOk o
  | .clkRefCtrl _ w => originOk w.origin
  | .refclkLoss _ _ => true
  | .refclkRequalify _ _ => true
  | .frmCfg _ ws => !ws.isEmpty && ws.all fun x => originOk x.origin
  | .frmThr _ w => originOk w.origin
  | .frmTime _ w => originOk w.origin
  | .frmCntClr _ => true
  | .candidateOpen _ _ offset mf => decide (offset < 2 ^ 32) && decide (mf < 256)
  | .candidateCheck _ _ offset _ mf => decide (offset < 2 ^ 32) && decide (mf < 256)
  | .framerWindowEnd _ _ => true
  | .oofDeclare _ _ => true
  | .mfOom _ => true
  | .mfIm _ => true
  | .lofSet _ _ => true
  | .lofClr _ _ => true
  | .lomSet _ => true
  | .lomClr _ => true
  | .lolChange _ _ _ latest earliest locked => decide (latest < 64) && decide (earliest < 64) && decide (locked < 2 ^ 32)
  | .pcsAlignStatus _ _ _ locked => decide (locked < 2 ^ 32)
  | .laneAdaptDone _ eq _ => decide (eq.length = 7)
  | .laneDown _ _ _ => true
  | .fecCfg _ w => originOk w.origin
  | .fecCntClr _ => true
  | .fcCfg _ _ _ w => originOk w.origin
  | .ohPmSet _ w => originOk w.origin
  | .ohErrClear _ => true
  | .losDeclare _ => true
  | .losClear _ => true
  | .defectDeclare _ _ => true
  | .defectClear _ _ => true
  | .consequentActionStart _ _ => true
  | .consequentActionEnd _ _ => true
  | .mapCfg _ ws => !ws.isEmpty && ws.all fun x => originOk x.origin
  | .mapPortStart _ => true
  | .mapTxRun _ ws => !ws.isEmpty && ws.all fun x => originOk x.origin
  | .mapRxRun _ step => runOk step
  | .mapCntClr _ => true
  | .clientReplacementStart _ _ => true
  | .clientReplacementEnd _ _ => true
  | .gfpCsfSend _ => true
  | .csfRxTimeout _ => true
  | .shimCalReq _ w => originOk w.origin
  | .flexeCalSwitch _ => true
  | .flexeCalTimeout _ => true
  | .chanFrameTx _ => true
  | .gfpFrameRx _ _ _ => true
  | .chanFrameRx _ step => chanOk step
  | .pauseMsgSend _ => true
  | .gfpFrameStart _ _ => true
  | .gfpUnderrun _ => true
  | .cqCtrl _ ws => !ws.isEmpty && ws.all fun x => originOk x.origin
  | .clientQueueFlush o _ => originOk o
  | .queueAppend _ item => !item.isEmpty
  | .queueWmWrite _ w => originOk w.origin
  | .hqCfg _ ws => !ws.isEmpty && ws.all fun x => originOk x.origin
  | .hostQueueFlush o _ => originOk o
  | .deckCopyDone _ => true
  | .deckPrbsGen _ w => originOk w.origin
  | .deckPrbsChk _ w => originOk w.origin
  | .fineBlk _ _ w => originOk w.origin
  | .grpCfg _ _ w => originOk w.origin
  | .hlCfg _ ws => !ws.isEmpty && ws.all fun x => originOk x.origin
  | .hlRecentre _ step => recentreOk step
  | .hlCntClr _ => true
  | .prfCtrl _ w => originOk w.origin
  | .ringStart _ => true
  | .ringLineRead _ _ _ _ => true
  | .ringBreak _ => true
  | .hlAlignAttempt _ => true
  | .hlAlignConfirm _ => true
  | .hlSearchRange _ => true
  | .hlMisalign _ => true
  | .hlSlackEval _ _ _ _ _ => true
  | .mlomDeclare _ => true
  | .mlomClear _ => true
  | .groupReaderPlace _ _ => true
  | .groupRetime _ _ => true
  | .loaChange _ _ => true
  | .lcasPacketRx _ _ _ _ _ _ => true
  | .lcasPayloadChange _ _ => true
  | .lcasTxChange _ => true
  | .prtCfg _ ws => !ws.isEmpty && ws.all fun x => originOk x.origin
  | .prtCntClr _ => true
  | .holdoffStart _ _ => true
  | .holdoffExpire _ _ => true
  | .protFastpathEval _ => true
  | .wtrExpire _ => true
  | .hlWaitExpire _ => true
  | .fopNrDeclare _ => true
  | .protHoldEnd _ _ => true
  | .deckOutputChange _ _ us => decide (us ≤ 2000)
  | .deckSwapTimeout _ => true
  | .rszGo _ _ w => originOk w.origin
  | .rszAbortCmd _ _ w => originOk w.origin
  | .rszCfgDisable _ _ w => originOk w.origin
  | .rszHandshakeAck _ _ => true
  | .rszHandshakeTimeout _ _ => true
  | .rszRampEnd _ _ => true
  | .frameReceive _ f => rxOk f
  | .filterOccurrence _ _ => true
  | .filterUnstable _ _ => true
  | .syncEdge _ _ _ _ => true
  | .syncLoss _ _ => true
  | .syncRequalify _ => true
  | .dpllSlewDone => true
  | .clkSyncCtrl w => originOk w.origin
  | .recClkCfg _ w => originOk w.origin
  | .recClkSquelch _ => true
  | .recClkResume _ => true
  | .audCfg _ w => originOk w.origin
  | .owCfg _ w => originOk w.origin
  | .audChangeLand _ _ => true
  | .audChangeTimeout _ _ => true
  | .audSlip _ _ => true
  | .audForcedSlip _ _ => true
  | .audPortFreeze _ => true
  | .audPortResume _ _ => true
  | .audMuteLift _ => true
  | .audSample _ _ => true
  | .audCntClear _ => true
  | .polfenLock => true
  | .polfenLockLoss => true
  | .polfenHello _ _ epoch => decide (epoch < 2 ^ 32)
  | .polfenRekey epoch => decide (epoch < 2 ^ 32)
  | .polfenHoldExpire => true
  | .polfenFrameRx f _ _ => frameOk f
  | .polfenRetxTimeout => true
  | .polfenFrameTx => true
  | .statusMsgRx => true
  | .tier1MsgRx => true
  | .tier2MsgRx => true
  | .resyncReqRx => true
  | .sweepStart => true
  | .sweepMsgRx => true
  | .sweepComplete => true
  | .mateMsgRx => true
  | .mateLinkEn w => originOk w.origin
  | .mateRestart w => originOk w.origin
  | .mateResync w => originOk w.origin
  | .mateYield w => originOk w.origin
  | .mateConfirm w => originOk w.origin
  | .mateCntClr => true
  | .mateQueueFlush o => originOk o
  | .pwrDomReq _ w => originOk w.origin
  | .grantInChange _ => true
  | .grantPulseReject => true
  | .ilkInChange _ => true
  | .ilkResample => true
  | .ilkBlockedRetry => true
  | .roleConflictDeclare _ => true
  | .roleConflictClear => true
  | .starterApply => true
  | .takeoverActive _ => true
  | .releaseToStandby => true
  | .modeReqProvision w => originOk w.origin
  | .modeReqStandby w => originOk w.origin
  | .modeReqTest w => originOk w.origin
  | .pkgResetReq w => originOk w.origin
  | .dormantEntry w => originOk w.origin
  | .domainTransitionDone _ => true
  | .dormantWake _ => true
  | .vloopCtrl _ w => originOk w.origin
  | .vloopStep _ _ _ => true
  | .placeCtrl w => originOk w.origin
  | .cpmFailQuarantine _ => true
  | .regulatorFault _ => true
  | .tempAlarm => true
  | .tamperTrip _ => true
  | .selftestBurstStart => true
  | .selftestBurstEnd _ => true
  | .healthWordTx => true
  | .power _ _ _ => true
  | .storeStarter _ _ _ _ => true
  | .storeFw _ _ _ _ _ => true
  | .storeOwner _ _ _ _ _ _ => true
  | .storeFloors _ _ _ _ => true
  | .storePair _ _ _ _ _ => true
  | .storeComplete => true
  | .seal _ _ => true
  | .attest _ _ _ _ => true
  | .loafLoad _ _ _ _ _ => true
  | .loafLoadComplete => true
  | .keyGen _ _ _ _ => true
  | .keyUseSign _ _ _ _ _ => true
  | .keyUseCertify _ _ _ _ _ => true
  | .keyUseAgree _ _ _ _ _ => true
  | .mateSend _ _ _ _ => true
  | .sessionClose _ _ => true
  | .sessionRenew _ _ => true
  | .hostCtxCreate o _ _ => originOk o
  | .hostCtxDelete o _ => originOk o
  | .hostCtxSetKind o _ _ => originOk o
  | .hostCtxSetPin o _ => originOk o
  | .hostCtxClearPin o _ => originOk o
  | .bar0Violation _ => true
  | .cqBaseWrite _ _ _ => true
  | .cqTail _ _ => true
  | .commandFetch _ e => entryOk e
  | .cqOpen _ => true
  | .cqProof _ => true
  | .proofTimeout _ => true
  | .cqBatch _ => true
  | .batchStart => true
  | .hostRingWrite _ => true
  | .hrCoalTimeout _ => true
  | .hrHead _ _ => true
  | .hqCredit _ _ => true
  | .intClr _ => true
  | .recGo _ _ _ => true
  | .perstLAssert => true
  | .perstLRelease => true
  | .vinUvlo _ => true
  | .vinPowerOn => true
  | .ovloRestart => true
  | .resetLAssert => true
  | .resetRelease _ => true
  | .pufKeysDerived => true
  | .bootFwSelect => true
  | .fwStart => true
  | .bootStarterLoad _ _ => true
  | .pcieLinkRetrain => true
  | .pcieError _ => true
  | .pcCounterWrite _ _ _ _ => true
  | .cenClr _ => true
  | .guestAddr _ => true
  | .guestAttNonce _ => true
  | .guestAttStat _ => true
  | .guestAttOff _ => true
  | .guestSclTimeout => true
  | .attestComplete => true
  | .extest lands tdi => decide (lands.length = tdi.length)
  | .samplePreload lands tdi => decide (lands.length = tdi.length)
  | .extestPulse lands tdi => decide (lands.length = tdi.length)
  | .extestTrain lands tdi => decide (lands.length = tdi.length)
  | .bypass _ => true
  | .dbgNonce => true
  | .dbgToken _ _ => true
  | .dbgCfg _ _ _ => true
  | .dbgTrace => true
  | .traceSel _ => true
  | .controlWordWrite o _ _ => originOk o
  | .passStart => true
  | .passOverrun => true
  | .commitWindow => true
  | .tier1DeltaSeal => true
  | .tickBoundary _ => true

end Sys2Proof
end

