-- ==== Sys2Proof/Tests/Slice0.lean ====
section
/-! SUPPORT. Tests: an ill-formed command for each check of well-formedness, worked examples of the spec, and for each
obligation states and operands that meet its hypotheses, clause by clause (the theorems test_meets_<obligation>). -/

namespace Sys2Proof.Tests
open Sys2Proof.Machine

set_option Elab.async false

/-! ### Ill-formed commands -/

/-- An issuer beyond the program memory. -/
def far : Origin := { src := .hub, bundle := 8192 }

def owner : Origin := { src := .batch 9, bundle := 5 }

theorem test_illFormed_1 :
    (Instr.protReqClear (.land far 0)).wellFormed = false ∧
    (Instr.protReqLo (.land far 0)).wellFormed = false ∧
    (Instr.protReqFs (.land far 0)).wellFormed = false ∧
    (Instr.protReqMsP (.land far 0)).wellFormed = false ∧
    (Instr.protReqMsW (.land far 0)).wellFormed = false ∧
    (Instr.protReqExer (.land far 0)).wellFormed = false ∧
    (Instr.protReqWtr (.land far 0)).wellFormed = false ∧
    (Instr.protReqDnr (.land far 0)).wellFormed = false ∧
    (Instr.protReqNr (.land far 0)).wellFormed = false := by
  decide

theorem test_illFormed_2 :
    (Instr.laneCfg .line 0 []).wellFormed = false ∧
    (Instr.laneCfg .line 0 [{ origin := far, lane := 0, value := 0 }]).wellFormed = false ∧
    (Instr.laneEqCtrl { side := .line, lane := 0 } { origin := far, value := 0 }).wellFormed = false ∧
    (Instr.laneTxFfe { side := .line, lane := 0 } 0 { origin := far, value := 0 }).wellFormed = false ∧
    (Instr.prbsGenEn far { side := .line, lane := 0 } 0 false).wellFormed = false ∧
    (Instr.prbsChkEn far { side := .line, lane := 0 } 0).wellFormed = false ∧
    (Instr.prbsErrInj far { side := .line, lane := 0 }).wellFormed = false ∧
    (Instr.prbsLock { side := .line, lane := 0 } 0 1).wellFormed = false ∧
    (Instr.prbsLockLoss { side := .line, lane := 0 } 0 1).wellFormed = false := by
  decide

theorem test_illFormed_3 :
    (Instr.laneLpbk far { side := .line, lane := 0 } false false).wellFormed = false ∧
    (Instr.clkRefCtrl 0 { origin := far, value := 0 }).wellFormed = false ∧
    (Instr.frmCfg { unit := 0, num := 0 } []).wellFormed = false ∧
    (Instr.frmCfg { unit := 0, num := 0 } [{ origin := far, word := 0, value := 0 }]).wellFormed = false ∧
    (Instr.frmThr { unit := 0, num := 0 } { origin := far, value := 0 }).wellFormed = false ∧
    (Instr.frmTime { unit := 0, num := 0 } { origin := far, value := 0 }).wellFormed = false ∧
    (Instr.candidateOpen { unit := 0, num := 0 } 0 (2 ^ 32) 0).wellFormed = false ∧
    (Instr.candidateOpen { unit := 0, num := 0 } 0 0 256).wellFormed = false ∧
    (Instr.candidateCheck { unit := 0, num := 0 } 0 (2 ^ 32) false 0).wellFormed = false := by
  decide

theorem test_illFormed_4 :
    (Instr.candidateCheck { unit := 0, num := 0 } 0 0 false 256).wellFormed = false ∧
    (Instr.lolChange { unit := 0, num := 0 } false 0 64 0 0).wellFormed = false ∧
    (Instr.lolChange { unit := 0, num := 0 } false 0 0 64 0).wellFormed = false ∧
    (Instr.lolChange { unit := 0, num := 0 } false 0 0 0 (2 ^ 32)).wellFormed = false ∧
    (Instr.pcsAlignStatus { unit := 0, num := 0 } 0 false (2 ^ 32)).wellFormed = false ∧
    (Instr.laneAdaptDone { side := .line, lane := 0 } [] 0).wellFormed = false ∧
    (Instr.fecCfg { side := .line, lane := 0 } { origin := far, value := 0 }).wellFormed = false ∧
    (Instr.fcCfg 0 0 0 { origin := far, value := 0 }).wellFormed = false ∧
    (Instr.ohPmSet 0 { origin := far, value := 0 }).wellFormed = false := by
  decide

theorem test_illFormed_5 :
    (Instr.mapCfg { unit := 0, port := 0 } []).wellFormed = false ∧
    (Instr.mapCfg { unit := 0, port := 0 } [{ origin := far, word := 0, value := 0 }]).wellFormed = false ∧
    (Instr.mapTxRun { unit := 0, port := 0 } []).wellFormed = false ∧
    (Instr.mapTxRun { unit := 0, port := 0 } [{ origin := far, word := 0, value := 0 }]).wellFormed = false ∧
    (Instr.mapRxRun { unit := 0, port := 0 } (.write [])).wellFormed = false ∧
    (Instr.mapRxRun { unit := 0, port := 0 } (.write [{ origin := far, word := 0, value := 0 }])).wellFormed = false ∧
    (Instr.shimCalReq { unit := 0, port := 0 } { origin := far, value := 0 }).wellFormed = false ∧
    (Instr.chanFrameRx { unit := 0, port := 0 } (.head [])).wellFormed = false ∧
    (Instr.cqCtrl 0 []).wellFormed = false := by
  decide

theorem test_illFormed_6 :
    (Instr.cqCtrl 0 [{ origin := far, word := 0, value := 0 }]).wellFormed = false ∧
    (Instr.clientQueueFlush far 0).wellFormed = false ∧
    (Instr.queueAppend 0 []).wellFormed = false ∧
    (Instr.queueWmWrite (.host 0) { origin := far, value := 0 }).wellFormed = false ∧
    (Instr.hqCfg 0 []).wellFormed = false ∧
    (Instr.hqCfg 0 [{ origin := far, word := 0, value := 0 }]).wellFormed = false ∧
    (Instr.hostQueueFlush far 0).wellFormed = false ∧
    (Instr.deckPrbsGen 0 { origin := far, value := 0 }).wellFormed = false ∧
    (Instr.deckPrbsChk 0 { origin := far, value := 0 }).wellFormed = false := by
  decide

theorem test_illFormed_7 :
    (Instr.fineBlk 0 0 { origin := far, value := 0 }).wellFormed = false ∧
    (Instr.grpCfg 0 0 { origin := far, value := 0 }).wellFormed = false ∧
    (Instr.hlCfg 0 []).wellFormed = false ∧
    (Instr.hlCfg 0 [{ origin := far, rate := false, value := 0 }]).wellFormed = false ∧
    (Instr.hlRecentre 0 (.write far)).wellFormed = false ∧
    (Instr.prfCtrl 0 { origin := far, value := 0 }).wellFormed = false ∧
    (Instr.prtCfg 0 []).wellFormed = false ∧
    (Instr.prtCfg 0 [{ origin := far, word := 0, value := 0 }]).wellFormed = false ∧
    (Instr.deckOutputChange 0 (.port { unit := 0, port := 0 }) 2001).wellFormed = false := by
  decide

theorem test_illFormed_8 :
    (Instr.rszGo 0 0 { origin := far, value := 0 }).wellFormed = false ∧
    (Instr.rszAbortCmd 0 0 { origin := far, value := 0 }).wellFormed = false ∧
    (Instr.rszCfgDisable 0 0 { origin := far, value := 0 }).wellFormed = false ∧
    (Instr.frameReceive 0 { fec := [{ lane := { side := .line, lane := 0 }, cw := 1, corr := 1, uncorr := 1, sym := 0 }] }).wellFormed = false ∧
    (Instr.clkSyncCtrl { origin := far, value := 0 }).wellFormed = false ∧
    (Instr.recClkCfg 0 { origin := far, value := 0 }).wellFormed = false ∧
    (Instr.audCfg 0 { origin := far, value := 0 }).wellFormed = false ∧
    (Instr.owCfg 0 { origin := far, value := 0 }).wellFormed = false ∧
    (Instr.polfenHello 0 false (2 ^ 32)).wellFormed = false := by
  decide

theorem test_illFormed_9 :
    (Instr.polfenRekey (2 ^ 32)).wellFormed = false ∧
    (Instr.polfenFrameRx { ty := 16, seq := 0, ack := 0, nak := false, first := true, last := true, len := 0, crg := 0, msg := none } false false).wellFormed = false ∧
    (Instr.polfenFrameRx { ty := 0, seq := 2 ^ 48, ack := 0, nak := false, first := true, last := true, len := 0, crg := 0, msg := none } false false).wellFormed = false ∧
    (Instr.polfenFrameRx { ty := 0, seq := 0, ack := 2 ^ 16, nak := false, first := true, last := true, len := 0, crg := 0, msg := none } false false).wellFormed = false ∧
    (Instr.polfenFrameRx { ty := 0, seq := 0, ack := 0, nak := false, first := true, last := true, len := 29, crg := 0, msg := none } false false).wellFormed = false ∧
    (Instr.polfenFrameRx { ty := 0, seq := 0, ack := 0, nak := false, first := true, last := true, len := 0, crg := 256, msg := none } false false).wellFormed = false ∧
    (Instr.mateLinkEn { origin := far, value := 0 }).wellFormed = false ∧
    (Instr.mateRestart { origin := far, value := 0 }).wellFormed = false ∧
    (Instr.mateResync { origin := far, value := 0 }).wellFormed = false := by
  decide

theorem test_illFormed_10 :
    (Instr.mateYield { origin := far, value := 0 }).wellFormed = false ∧
    (Instr.mateConfirm { origin := far, value := 0 }).wellFormed = false ∧
    (Instr.mateQueueFlush far).wellFormed = false ∧
    (Instr.pwrDomReq 0 { origin := far, value := 0 }).wellFormed = false ∧
    (Instr.modeReqProvision { origin := far, value := 0 }).wellFormed = false ∧
    (Instr.modeReqStandby { origin := far, value := 0 }).wellFormed = false ∧
    (Instr.modeReqTest { origin := far, value := 0 }).wellFormed = false ∧
    (Instr.pkgResetReq { origin := far, value := 0 }).wellFormed = false ∧
    (Instr.dormantEntry { origin := far, value := 0 }).wellFormed = false := by
  decide

theorem test_illFormed_11 :
    (Instr.vloopCtrl 0 { origin := far, value := 0 }).wellFormed = false ∧
    (Instr.placeCtrl { origin := far, value := 0 }).wellFormed = false ∧
    (Instr.hostCtxCreate far 0 0).wellFormed = false ∧
    (Instr.hostCtxDelete far 0).wellFormed = false ∧
    (Instr.hostCtxSetKind far 0 0).wellFormed = false ∧
    (Instr.hostCtxSetPin far 0).wellFormed = false ∧
    (Instr.hostCtxClearPin far 0).wellFormed = false ∧
    (Instr.commandFetch 0 { ty := 256, resp := 0, clean := true, lenOk := true, reply := 0, buf := .proof true }).wellFormed = false ∧
    (Instr.commandFetch 0 { ty := 0, resp := 256, clean := true, lenOk := true, reply := 0, buf := .proof true }).wellFormed = false := by
  decide

theorem test_illFormed_12 :
    (Instr.commandFetch 0 { ty := 0, resp := 0, clean := true, lenOk := true, reply := 2 ^ 64, buf := .proof true }).wellFormed = false ∧
    (Instr.commandFetch 0 { ty := 0, resp := 0, clean := true, lenOk := true, reply := 0, buf := .batch { tagOk := true, ver := 256, format := 0, clean := true, bundles := [], data := [], seq := 0, dataAt := 0, outAt := 0, outLen := 0 } }).wellFormed = false ∧
    (Instr.commandFetch 0 { ty := 0, resp := 0, clean := true, lenOk := true, reply := 0, buf := .batch { tagOk := true, ver := 0, format := 256, clean := true, bundles := [], data := [], seq := 0, dataAt := 0, outAt := 0, outLen := 0 } }).wellFormed = false ∧
    (Instr.commandFetch 0 { ty := 0, resp := 0, clean := true, lenOk := true, reply := 0, buf := .batch { tagOk := true, ver := 0, format := 0, clean := true, bundles := [], data := [], seq := 2 ^ 64, dataAt := 0, outAt := 0, outLen := 0 } }).wellFormed = false ∧
    (Instr.extest [true] []).wellFormed = false ∧
    (Instr.samplePreload [true] []).wellFormed = false ∧
    (Instr.extestPulse [true] []).wellFormed = false ∧
    (Instr.extestTrain [true] []).wellFormed = false ∧
    (Instr.controlWordWrite far 0 0).wellFormed = false := by
  decide

/-! ### States -/

/-- An image with every grant. -/
def image (hub : Bool) : Image :=
  { hub := hub, selfProfile := true, grantR := 0x1FFFFF, grantW := 0x1FFFFF, f := 100, fs := 0, ft := 0, loops := [],
    bundles := [] }

/-- A loaf of one unit image, used by every unit, and a hub image. -/
def loaf : Loaf :=
  { version := 1, images := [image false, image true], unitMap := List.replicate 64 (some 0), hubImg := some 1, digest := 0,
    lines := 100 }

/-- A machine at work: mode ACTIVE, the interlock held, a loaf running. -/
def up : State :=
  { State.reset with
    mode := .active, phase := .running, ilk := .holding, loaf := some loaf,
    sec := { State.reset.sec with keyed := true, started := true } }

/-- The registers g1 to g5 of an engine at given values, and the engine in its pass. -/
def inPass (e : Nat) (vs : List Word) (s : State) : State :=
  engPut e { engGet s e with
    running := .pass, started := true,
    regs := (vs.zipIdx 1).foldl (fun t p => regWrite t p.2 p.1) (engGet s e).regs } s

/-- Contexts 5 and 9 on unit 3 (handles 7 and 200), context 300 on unit 4 (handle 1). -/
def withContexts (s : State) : State :=
  ctxSet 300 0 0x80000012C (ctxSet 9 0 0x800000009 (ctxSet 5 0 0x100000005
    { s with ctxAt := [(5, 3 * 256 + 7 + 1), (9, 3 * 256 + 200 + 1), (300, 4 * 256 + 1 + 1)] }))

/-- Unit 3 in its pass, with values in g1 on. -/
def unit3 (vs : List Word) : State := inPass 3 vs (withContexts up)

/-- The hub engine in its pass. -/
def hubPass (vs : List Word) : State := inPass 64 vs (withContexts up)

/-- The hub engine in a batch of ring 1, whose session is open and the owner's. -/
def hubBatch (vs : List Word) : State :=
  let s := hubPass vs
  let s := engPut 64 { engGet s 64 with running := .batch } s
  { s with
    sess := tabSet {} s.sess 1 { opened := true, own := true },
    batch := some { id := 4, batch := { ring := 1, resp := 0, reply := 0, seq := 3, outAt := 32768, outLen := 0,
                                        bundles := [] } } }

/-- The images of the loaf without grants. -/
def noGrants (s : State) : State :=
  { s with loaf := some { loaf with images := loaf.images.map fun i => { i with grantR := 0, grantW := 0 } } }

/-- The issue of slot A by an engine, on p0. -/
def a3 : IssA := { eng := 3, pred := 0 }
def a64 : IssA := { eng := 64, pred := 0 }
def b3 : Iss := { eng := 3, slot := .b, pred := 0 }

/-- Unit 3 in a loop, inside a routine called from bundle 8. -/
def looping (f : LoopFrame) : State :=
  let s := unit3 []
  engPut 3 { engGet s 3 with loops := [f], calls := [9] } s

/-- Unit 3 with an item open. -/
def withItem (it : OpenItem) : State :=
  let s := unit3 [1]
  engPut 3 { engGet s 3 with item := some it } s

/-- Control words at given values. -/
def withCw (l : List (Nat × Word)) (s : State) : State := l.foldl (fun s p => cwSet p.1 p.2 s) s

/-- Power domains at L0. -/
def atL0 (l : List Nat) (s : State) : State := l.foldl (fun s d => domPut d { st := 0, goal := 0 } s) s

/-- A line-side lane at 25.78125 GBd, enabled, with its set-up and state. -/
def withLane (l : Nat) (w : Word) (v : Lane) (s : State) : State :=
  cwSet (laneAddr 0 l 0) w (lanePut (laneKey 0 l) v s)

/-- Line lane 8 at OTU2 rate, READY, with a context of cluster 0 for a stream of unit 1. -/
def readyLane : State := withLane 8 0x900000000 { st := .ready, sigDet := true, cdrLock := true } (withContexts up)

/-- An OTU2 stream of unit 1 on line lane 8. -/
def streaming : State := withCw [(frmAddr 1 0 0, 0x980014000), (frmAddr 1 0 2, 0x100)] readyLane

/-- The OTU2 stream with its framer and its tracker at given values. -/
def tracking (f : Framer) (t : Tracker) : State :=
  framerPut (streamKey 1 0) f (trackerPut (trackerKey 1 0 0) t streaming)

/-- An OTL4.10 stream of unit 1 on line lanes 0 to 9, with its framer and the tracker of logical lane 0 at given values. -/
def tracking4 (f : Framer) (t : Tracker) : State :=
  framerPut (streamKey 1 0) f (trackerPut (trackerKey 1 0 0) t
    (withCw ([(frmAddr 1 0 0, 0x880014000), (frmAddr 1 0 2, 0x3FF)] ++ (List.range 10).map fun l => (laneAddr 0 l 0, 0xB00000000))
      (withContexts up)))

/-- A batch with lines in hub scratch, their place in g1 and their number in g2. -/
def withScratch (at_ : Nat) (ls : List (BitVec 288)) (s : State) : State :=
  scratchPut at_ ls (inPass 64 [BitVec.ofNat 36 at_, BitVec.ofNat 36 ls.length] s)

/-- A batch that may run: its engine stands in the batch again. -/
def batchWith (at_ : Nat) (ls : List (BitVec 288)) (f : State → State) : State :=
  let s := withScratch at_ ls (hubBatch [])
  f (engPut 64 { engGet s 64 with running := .batch } s)

/-- A firmware image of six framing lines and one line of code. -/
def firmwareLines : List (BitVec 288) := linesOf 7 [1, 1, 0, 0, 1, 0, 0, 0]

/-- A batch with values in g1 and g2. -/
def batchAt (a b : Nat) (f : State → State) : State :=
  let s := inPass 64 [BitVec.ofNat 36 a, BitVec.ofNat 36 b] (hubBatch [])
  f (engPut 64 { engGet s 64 with running := .batch } s)

/-- A line of eight words, the first lowest. -/
def lineWords (l : List Nat) : BitVec 288 := BitVec.ofNat 288 (l.foldr (fun w v => w + 2 ^ 36 * v) 0)

/-- The smallest loaf: one image of one bundle, HALT.TICK beside NOP, in 76 lines and five of its signature. -/
def haltLoaf : List (BitVec 288) :=
  [lineWords [0xA5C010101, 1, 76 * 2 ^ 20 + 0x1F * 2 ^ 15]] ++ List.replicate 3 0 ++
  [lineWords [2 ^ 22 + 75 * 2 ^ 6, 0, 0, 0, 2 ^ 18]] ++ List.replicate 70 0 ++
  [BitVec.ofNat 288 (0x250000000 * 2 ^ 36)] ++ List.replicate 5 0

/-- An Ethernet stream 1 of unit 20, and port 6 of unit 20 as CHAN_IF on it. -/
def channel : State :=
  withCw [(frmAddr 20 1 0, 0xA40000000), (frmAddr 20 1 2, 0x300000), (laneAddr 1 20 0, 0xD00000000),
    (laneAddr 1 21 0, 0xD00000000), (mapAddr 20 6 0, 0xD80000000), (mapAddr 20 6 1, 0x500400000)] (withContexts up)

/-- Port 5 of unit 20 as GFP-F from client queue 7 through CHAN_IF port 6, client queue 7 enabled, port states at given values. -/
def framed (v6 v5 : Port) : State :=
  portPut (portKey 20 6) v6 (portPut (portKey 20 5) v5 (withCw [(mapAddr 20 5 0, 0xC80000000), (mapAddr 20 5 1, 0x501803800),
    (cqAddr 7 0, 0x800000201), (cqAddr 7 1, 0x000A0000A), (cqAddr 7 2, 0x00A030000)] channel))

/-- Port 0 of unit 20 as FlexE shim. -/
def shim (v : Port) : State := portPut (portKey 20 0) v (withCw [(mapAddr 20 0 0, 0xE00000000)] channel)

/-- The same with client queue 7 at a given value. -/
def queued (v6 v5 : Port) (q : ClientQueue) : State := cqPut 7 q (framed v6 v5)

/-- The channel header of a frame of a client queue, with its check. -/
def goodHeader (q len : Nat) : List (Fin 256) := (chanHeader false false false q len).map fun b => Fin.ofNat 256 b

/-- Host queue 3 with its set-up word at a given value. -/
def hosted (w : Word) (v : HostQueue) : State :=
  hqPut 3 v (withCw [(hqCfgAddr 3, w), (hqWmAddr 3, 0x000A00005)] up)

/-- Group 25 of die 0 with its set-up word, and context 5 as its first member. -/
def grouped (w : Word) (v : Group) (m : Mon) : State :=
  grpPut 0 25 v (monPut 5 m (withCw [(grpAddr 0 25, w)] (withContexts up)))

/-- The same with the member connected by an entry of the active page of die 0, and its ring. -/
def linkGroup (_ : Nat) (v : Group) (m : Mon) : State :=
  let s := ringPut 0 { pages := 1, rate := 51846 } (grouped 0x800000800 v m)
  s.putDeck (tabSet 0 s.deck (deckKey s false 0) 0x800001900)

/-- Group 25 under LCAS, terminated by GFP_SDH port 3 of unit 20. -/
def sdhGroup (m : Mon) : State :=
  withCw [(mapAddr 20 3 0, 0xD00000000), (mapAddr 20 3 2, 0x803200000)] (grouped 0x880000800 {} m)

/-- Eight frames, the newest first, with fingerprints from a value on. -/
def frames (n fp : Nat) : List FrameRec :=
  (List.range n).map fun i => { seq := n - i, mf := (n - i) % 256, fp := fp + (n - i), defect := false, bip := false }

/-- Pair 313 as a hitless pair with its rings 0 and 1. -/
def hitless (w : Word) (h : Hl) (wf pf : List FrameRec) : State :=
  hlPut 313 h (ringPut 0 { pages := 20, count := wf.length, cont := wf.length, frames := wf }
    (ringPut 1 { pages := 20, count := pf.length, cont := pf.length, frames := pf } (withCw [(pairAddr 313 96, w)] up)))

/-- A resize controller, number 3 of die 0, that names port 1 of unit 20. -/
def resizing3 (w : Word) (v : Rsz) : State := rszPut 3 v (withCw [(rszAddr 3 0, w)] channel)

/-- 64 controllers hold their timers. -/
def crowded (v : Rsz) : State :=
  (List.range 64).foldl (fun s k => rszPut (if k < 3 then k else k + 1) { timer := true }
    (withCw [(rszAddr (if k < 3 then k else k + 1) 0, 0x950040000)] s)) (resizing3 0x950040000 v)

/-- Port 1 of unit 20 is HO_ODU of an OTUC stream on line lanes 16 and 17: the one carrier of die 0. -/
def carrying : State :=
  withCw [(frmAddr 20 0 0, 0x900000000), (frmAddr 20 0 2, 0x30000), (frmAddr 20 0 3, 0x0E0000000), (laneAddr 0 16 0, 0xD00000000),
    (laneAddr 0 17 0, 0xD00000000), (mapAddr 20 1 0, 0x880000000), (mapAddr 20 1 1, 0x500000000), (mapAddr 20 1 2, 0x140028000)]
    channel

/-- Pair 512 of die 0 over contexts 1024 (working, unit 4) and 9216 (protection, unit 36), with its set-up words, its selector
entry, its state, and the defects of its paths. -/
def protecting (w0 w2 sel : Word) (k : Pair) (dW dP : Nat) : State :=
  let s := withCw [(pairAddr 512 0, w0), (pairAddr 512 1, 0x100240000), (pairAddr 512 2, w2)]
    { up with ctxAt := [(1024, 4 * 256 + 1), (9216, 36 * 256 + 1)] }
  let s := s.putDeck (tabSet 0 s.deck (deckKey s false (deckSel 0 512)) sel)
  prtPut 512 k (monPut 1024 { w8 := 0x180000000, defs := dW } (monPut 9216 { w8 := 0x180000000, defs := dP } s))

/-- A pair at rest, SCHEME APS with REV, selector entry 1+1. -/
def pairUp (k : Pair) : State := protecting 0x900B02800 0 0x880000000 k 0 0

/-- 258 timers of the cluster that serves pair 512, whose protection context is now context 0, run. -/
def noTimers (s : State) : State :=
  withCw [(pairAddr 512 1, 0x100000000)]
    { s with pairs := s.pairs ++ (List.range 86).map fun i => (600 + i, { hoW := true, hoP := true, wtr := true }) }

/-- Context 5 over the OTU2 stream in frame, its monitor, and filter cell 2047 of cluster 0 at given values. -/
def watched (m : Mon) (w : Word) (c : Cell) : State :=
  cellPut 2047 c (withCw [(cellAddr 0 2047 0, w), (cellAddr 0 2047 1, 0xFFFFFFFFF)]
    (monPut 5 m (tracking { oof := false, oom := false } {})))

/-- Synchronisation input B and the DPLL at given values. -/
def syncing (w : Word) (c : SyncIn) (d : Dpll) : State := syncPut 1 c (withCw [(ctlAddr clsClk 0 0, w)] { up with dpll := d })

/-- Orderwire port 3 enabled, its two slots set up, its left slot at a given value. -/
def orderwire (w : Word) (a : Audio) : State :=
  audioPut 3 a (withCw [(audCfgAddr 3, 0x800000000), (owCfgAddr 6, w)] (atL0 [51] (tracking { oof := false } {})))

/-- The machine at work with its POLFEN link at a given value. -/
def linked (k : Polfen) : State := { up with link := k }

/-- The same, not holding. -/
def blocked (k : Polfen) : State := { linked k with mode := .standby, ilk := .blocked }

/-- The machine with its redundancy state at a given value. -/
def redundant (m : Mode) (i : Ilk) (n : Rdn) : State := { up with mode := m, ilk := i, rdn := n }

/-- A batch as the host hands it over: one bundle, HALT.TICK beside NOP, with the sequence number of its ring. -/
def haltBatch (ver seq : Nat) : BatchBuf :=
  { tagOk := true, ver := ver, format := 1, clean := true, bundles := [0x250000000000000000], data := [], seq := seq,
    dataAt := 32768, outAt := 32768, outLen := 0 }

/-- An entry of a command ring. -/
def entry (ty : Nat) (b : CmdBuf) : CmdEntry := { ty := ty, resp := 8, clean := true, lenOk := true, reply := 0, buf := b }

/-- Ring 3 with an entry fetched, and its session. -/
def ringed (e : CmdEntry) (k : Session) (s : State) : State := ringCmdPut 3 { size := 16, fetched := [e] } (sessPut 3 k s)

/-- Contexts of another cluster fill units 0 to n - 1. -/
def filled (n : Nat) (s : State) : State := { s with ctxAt := (List.range (256 * n)).map fun i => (1024 + i, i + 1) }

/-- Owned, with firmware images of the two banks. -/
def banked (a b : Option FwImage) (s : State) : State :=
  { s with nvm := { s.nvm with owner := { a := some (1, { seq := 1, key := some [5] }) }, fwA := a, fwB := b } }

/-- In BOOT with a starter in NVM. -/
def booting (y : Starter) : State :=
  { up with mode := .boot, phase := .running, nvm := { up.nvm with starter := { a := some (1, y) } } }

/-- Debug access unlocked with a scope. -/
def unlocked (scope : Nat) : State := { up with mode := .test, sec := { up.sec with unlocked := true, scope := scope } }

theorem freeHandle_filled (n u : Nat) (s : State) (h : u < n) : freeHandle (filled n s).ctxAt u = none := by
  unfold freeHandle
  rw [List.find?_eq_none]
  intro k hk
  simp only [List.mem_range] at hk
  simp only [filled, Bool.not_eq_true', Bool.not_eq_false, List.any_map, List.any_eq_true, List.mem_range, Function.comp_apply,
    beq_iff_eq]
  exact ⟨256 * u + k, by omega, by omega⟩

/-- A cluster whose units are full has no place for a context. -/
theorem createUnit_filled : createUnit (filled 4 up) 0 = none := by
  simp [createUnit, homeUnit, freeHandle_filled, List.range, List.range.loop]

/-! Lines packed from bytes read back as those bytes, whatever the bytes are: the witnesses of the documents that carry the
device ID or the identity key, of which nothing is known. -/

/-- The low n bytes of a number, the lowest first. -/
def bytesOf (n x : Nat) : List Nat := (List.range n).map fun i => x / 256 ^ i % 256

theorem sum_of_bytes (f : Nat → Nat) (n : Nat) :
    (List.range n).foldl (fun v i => v + f i % 256 * 2 ^ (8 * i)) 0 < 2 ^ (8 * n) ∧
      ∀ j, j < n → ((List.range n).foldl (fun v i => v + f i % 256 * 2 ^ (8 * i)) 0) / 2 ^ (8 * j) % 256 = f j % 256 := by
  induction n with
  | zero => simp
  | succ n ih =>
    obtain ⟨hlt, hd⟩ := ih
    rw [List.range_succ, List.foldl_append]
    simp only [List.foldl_cons, List.foldl_nil]
    generalize hS : (List.range n).foldl (fun v i => v + f i % 256 * 2 ^ (8 * i)) 0 = S at *
    have hp : 2 ^ (8 * (n + 1)) = 256 * 2 ^ (8 * n) := by rw [Nat.mul_add, Nat.pow_add]; omega
    have hb : f n % 256 < 256 := Nat.mod_lt _ (by decide)
    refine ⟨?_, ?_⟩
    · rw [hp]
      calc S + f n % 256 * 2 ^ (8 * n) < 2 ^ (8 * n) + f n % 256 * 2 ^ (8 * n) := by omega
        _ = (f n % 256 + 1) * 2 ^ (8 * n) := by rw [Nat.add_mul]; omega
        _ ≤ 256 * 2 ^ (8 * n) := Nat.mul_le_mul_right _ hb
    · intro j hj
      rcases Nat.lt_or_ge j n with h | h
      · have e : 2 ^ (8 * n) = 2 ^ (8 * j) * (256 * 2 ^ (8 * (n - j - 1))) := by
          rw [show (256 : Nat) = 2 ^ 8 from rfl, ← Nat.pow_add, ← Nat.pow_add]; congr 1; omega
        rw [e, show f n % 256 * (2 ^ (8 * j) * (256 * 2 ^ (8 * (n - j - 1)))) =
          2 ^ (8 * j) * (256 * (f n % 256 * 2 ^ (8 * (n - j - 1)))) by ac_rfl,
          Nat.add_mul_div_left _ _ (Nat.two_pow_pos _), Nat.add_mul_mod_self_left]
        exact hd j h
      · have : j = n := by omega
        subst this
        rw [Nat.add_mul_div_right _ _ (Nat.two_pow_pos _), Nat.div_eq_of_lt hlt, Nat.zero_add]
        omega

/-- A byte of packed lines. -/
theorem lineByte_linesOf (n k : Nat) (bs : List Nat) (h : k < 36 * n) : lineByte (linesOf n bs) k = bs.getD k 0 % 256 := by
  have hq : k / 36 < n := by omega
  have hr : k % 36 < 36 := Nat.mod_lt _ (by decide)
  have := (sum_of_bytes (fun i => bs.getD (36 * (k / 36) + i) 0) 36).2 (k % 36) hr
  unfold lineByte linesOf bitsOf
  rw [List.getD_eq_getElem?_getD, List.getElem?_eq_getElem (by simpa using hq), Option.getD_some]
  simp only [List.getElem_map, List.getElem_range, BitVec.toNat_ofNat]
  rw [Nat.mod_eq_of_lt (sum_of_bytes (fun i => bs.getD (36 * (k / 36) + i) 0) 36).1, Nat.shiftRight_eq_div_pow,
    show 8 * (k % 36) + 7 + 1 - 8 * (k % 36) = 8 by omega, show (2 ^ 8 : Nat) = 256 from rfl, this,
    show 36 * (k / 36) + k % 36 = k from Nat.div_add_mod k 36]

theorem lineNat_of_bytes (x m : Nat) (f : Nat → Nat) (h : ∀ i, i < m → f i = x / 256 ^ i % 256) :
    ((List.range m).map f).foldr (fun b v => b + 256 * v) 0 = x % 256 ^ m := by
  induction m generalizing x f with
  | zero => simp [Nat.mod_one]
  | succ m ih =>
    rw [List.range_succ_eq_map, List.map_cons, List.map_map, List.foldr_cons,
      ih (x / 256) (f ∘ Nat.succ) (fun i hi => by
        have := h (i + 1) (by omega)
        simp only [Function.comp_apply, Nat.succ_eq_add_one]
        rw [this, Nat.pow_succ, Nat.mul_comm, Nat.div_div_eq_div_mul]),
      h 0 (by omega), Nat.pow_zero, Nat.div_one, Nat.pow_succ, Nat.mul_comm (256 ^ m), Nat.mod_mul]

/-- A number of packed lines, from the bytes that stand there. -/
theorem lineNat_linesOf (n k m x : Nat) (bs : List Nat) (hk : k + m ≤ 36 * n)
    (h : ∀ i, i < m → bs.getD (k + i) 0 = x / 256 ^ i % 256) : lineNat (linesOf n bs) k m = x % 256 ^ m := by
  unfold lineNat lineBytes
  exact lineNat_of_bytes x m _ fun i hi => by rw [lineByte_linesOf n _ bs (by omega), h i hi]; omega

/-- Several bytes of packed lines. -/
theorem lineBytes_linesOf (n k m : Nat) (bs : List Nat) (h : k + m ≤ 36 * n) :
    lineBytes (linesOf n bs) k m = (List.range m).map fun i => bs.getD (k + i) 0 % 256 :=
  List.map_congr_left fun i hi => lineByte_linesOf n _ bs (by simp only [List.mem_range] at hi; omega)

/-- Lines written to scratch read back. -/
theorem scratchLines_scratchPut (at_ n : Nat) (ls : List (BitVec 288)) (s t : State) (h : s.scratch = [])
    (ht : t.scratch = (scratchPut at_ ls s).scratch) (hn : ls.length = n) : scratchLines t at_ n = ls := by
  subst hn
  have key : ∀ n, tabWf (fun _ => 0)
        ((List.range n).foldl (fun t i => tabSet 0 t (at_ + i) (ls.getD i 0)) ([] : Tab (BitVec 288))) = true ∧
      ∀ j, j < n → tabGet 0 ((List.range n).foldl (fun t i => tabSet 0 t (at_ + i) (ls.getD i 0)) []) (at_ + j) = ls.getD j 0 := by
    intro n
    induction n with
    | zero => exact ⟨rfl, by simp⟩
    | succ n ih =>
      rw [List.range_succ, List.foldl_append]
      simp only [List.foldl_cons, List.foldl_nil]
      refine ⟨tabSet_ok' ih.1, fun j hj => ?_⟩
      rcases Nat.lt_or_ge j n with hlt | hge
      · rw [tabGet_tabSet_ne (by omega)]; exact ih.2 j hlt
      · have : j = n := by omega
        subst this
        exact tabGet_tabSet_same ih.1
  unfold scratchLines
  rw [ht]
  unfold scratchPut
  apply List.ext_getElem (by simp)
  intro i h1 h2
  simp only [List.getElem_map, List.getElem_range, h]
  have := (key ls.length).2 i h2
  rw [List.getD_eq_getElem?_getD, List.getElem?_eq_getElem h2, Option.getD_some] at this
  exact this

theorem bytesOf_among (pre post : List Nat) (m x i : Nat) (h : i < m) :
    (pre ++ (bytesOf m x ++ post)).getD (pre.length + i) 0 = x / 256 ^ i % 256 := by
  rw [List.getD_eq_getElem?_getD, List.getElem?_append_right (by omega), show pre.length + i - pre.length = i by omega,
    List.getElem?_append_left (by simpa [bytesOf] using h)]
  simp [bytesOf, h]

theorem pow256 (m : Nat) : 256 ^ m = 2 ^ (8 * m) := by rw [Nat.pow_mul]

/-- A claim of the owner for this device. -/
def claimBytes : List Nat :=
  [1, 1, 0, 0, 0, 0, 0, 0, 1, 0, 0, 0, 0, 0, 0, 0] ++ (bytesOf 48 Config.deviceId.toNat ++ List.replicate 332 0)

/-- A pairing document whose key of seat 0 is this device's identity key. -/
def pairBytes : List Nat := [1, 1, 0, 0, 0, 0, 0, 0] ++ (bytesOf 96 Config.identityKey.toNat ++ List.replicate 292 0)

/-- A debug token of this device for the nonce in force. -/
def tokenBytes : List Nat := [1, 1, 3, 0, 0, 0, 0, 0] ++ (bytesOf 48 Config.deviceId.toNat ++ List.replicate 232 0)

theorem claimLines_device : BitVec.ofNat 384 (lineNat (linesOf 11 claimBytes) 16 48) = Config.deviceId := by
  rw [lineNat_linesOf 11 16 48 Config.deviceId.toNat claimBytes (by decide) fun i hi => bytesOf_among _ _ 48 _ i hi,
    pow256, Nat.mod_eq_of_lt Config.deviceId.isLt, BitVec.ofNat_toNat, BitVec.setWidth_eq]

theorem pairLines_key : BitVec.ofNat 768 (lineNat (linesOf 11 pairBytes) 8 96) = Config.identityKey := by
  rw [lineNat_linesOf 11 8 96 Config.identityKey.toNat pairBytes (by decide) fun i hi => bytesOf_among _ _ 96 _ i hi,
    pow256, Nat.mod_eq_of_lt Config.identityKey.isLt, BitVec.ofNat_toNat, BitVec.setWidth_eq]

theorem tokenLines_device : lineNat (linesOf 8 tokenBytes) 8 48 = Config.deviceId.toNat := by
  rw [lineNat_linesOf 8 8 48 Config.deviceId.toNat tokenBytes (by decide) fun i hi => bytesOf_among _ _ 48 _ i hi,
    pow256, Nat.mod_eq_of_lt Config.deviceId.isLt]

theorem claimLines_ok : ownerDocOk (linesOf 11 claimBytes) = true := by
  unfold ownerDocOk
  rw [lineByte_linesOf _ _ _ (by decide), lineBytes_linesOf _ _ _ _ (by decide), lineBytes_linesOf _ _ _ _ (by decide),
    claimLines_device, decide_eq_true rfl, Bool.and_true]
  decide +kernel

/-- A claim waits to be stored in SEALED, with CLAIM_L low. -/
def claiming : State :=
  batchWith 32768 (linesOf 11 claimBytes) fun s => { s with mode := .sealed, straps := { s.straps with claimL := false } }

theorem claiming_lines : scratchLines claiming 32768 11 = linesOf 11 claimBytes :=
  scratchLines_scratchPut 32768 11 (linesOf 11 claimBytes)
    (inPass 64 [BitVec.ofNat 36 32768, BitVec.ofNat 36 (linesOf 11 claimBytes).length] (hubBatch [])) claiming rfl
    (by simp only [claiming, batchWith, withScratch, engPut, State.putEngines]) (by simp [linesOf])

theorem claiming_ok : claimOk claiming true (linesOf 11 claimBytes) = true := by
  unfold claimOk
  rw [lineByte_linesOf _ _ _ (by decide)]
  unfold lineNat
  rw [lineBytes_linesOf _ _ _ _ (by decide)]
  decide +kernel

theorem test_meets_StoresStart_owner : ∃ (i : IssA) (gA gB : Reg) (sigOk bindOk : Bool) (s : State),
    let at_ := (source s (issueOfA i) gA).toNat
    let n := (source s (issueOfA i) gB).toNat
    let ls := scratchLines s at_ n
    hubTakes s i = true ∧ 1 ≤ n ∧ 32768 ≤ at_ ∧ at_ + n ≤ 163840 ∧
      (s.sec.unlocked = false ∧ tabGet 0 s.nvm.lastAt 2 ≤ tickCount s) ∧ sigOk = true ∧ ownerDocOk ls = true ∧
      (claimOk s bindOk ls = true ∨ transferOk s ls = true) := by
  refine ⟨a64, 1, 2, true, true, claiming, ?_⟩
  have ha : (source claiming (issueOfA a64) 1).toNat = 32768 := by decide +kernel
  have hn : (source claiming (issueOfA a64) 2).toNat = 11 := by decide +kernel
  simp only [ha, hn, claiming_lines]
  exact ⟨by decide +kernel, by decide, by decide, by decide, by decide +kernel, trivial, claimLines_ok, .inl claiming_ok⟩

/-- A pairing document waits to be stored. -/
def pairing : State :=
  batchWith 32768 (linesOf 11 pairBytes) fun s => { s with straps := { s.straps with seat := 0 } }

theorem pairing_lines : scratchLines pairing 32768 11 = linesOf 11 pairBytes :=
  scratchLines_scratchPut 32768 11 (linesOf 11 pairBytes)
    (inPass 64 [BitVec.ofNat 36 32768, BitVec.ofNat 36 (linesOf 11 pairBytes).length] (hubBatch [])) pairing rfl
    (by simp only [pairing, batchWith, withScratch, engPut, State.putEngines]) (by simp [linesOf])

theorem test_meets_StoresStart_pair : ∃ (i : IssA) (gA gB : Reg) (sigOk : Bool) (s : State),
    let at_ := (source s (issueOfA i) gA).toNat
    let n := (source s (issueOfA i) gB).toNat
    let ls := scratchLines s at_ n
    hubTakes s i = true ∧ 1 ≤ n ∧ 32768 ≤ at_ ∧ at_ + n ≤ 163840 ∧
      (s.sec.unlocked = false ∧ tabGet 0 s.nvm.lastAt 4 ≤ tickCount s) ∧ sigOk = true ∧ n = 11 ∧
      lineBytes ls 0 8 = [1, 1, 0, 0, 0, 0, 0, 0] ∧ lineBytes ls 200 16 = List.replicate 16 0 ∧
      BitVec.ofNat 768 (lineNat ls (if s.straps.seat = 0 then 8 else 104) 96) = Config.identityKey := by
  refine ⟨a64, 1, 2, true, pairing, ?_⟩
  have ha : (source pairing (issueOfA a64) 1).toNat = 32768 := by decide +kernel
  have hn : (source pairing (issueOfA a64) 2).toNat = 11 := by decide +kernel
  have hs : pairing.straps.seat = 0 := rfl
  simp only [ha, hn, pairing_lines, hs, if_true]
  refine ⟨by decide +kernel, by decide, by decide, by decide, by decide +kernel, trivial, trivial, ?_, ?_, pairLines_key⟩
  · rw [lineBytes_linesOf _ _ _ _ (by decide)]; decide +kernel
  · rw [lineBytes_linesOf _ _ _ _ (by decide)]; decide +kernel

theorem tokenLines_ok : tokenBodyOk { up with mode := .test } (linesOf 8 tokenBytes) = true := by
  have hb : ∀ i, i < 108 → lineByte (linesOf 8 tokenBytes) i = tokenBytes.getD i 0 % 256 := fun i hi =>
    lineByte_linesOf 8 i tokenBytes (by omega)
  have ha : (List.range 108).all (fun i => decide (i < 3) || (decide (8 ≤ i) && decide (i < 88)) ||
      lineByte (linesOf 8 tokenBytes) i == 0) = true := by
    rw [List.all_eq_true]
    intro i hi
    rw [hb i (by simpa using hi)]
    revert i
    decide +kernel
  have hn : lineNat (linesOf 8 tokenBytes) 56 32 = 0 := by
    unfold lineNat
    rw [lineBytes_linesOf _ _ _ _ (by decide)]
    decide +kernel
  unfold tokenBodyOk
  rw [hb 0 (by decide), hb 1 (by decide), hb 2 (by decide), ha, hn, tokenLines_device, beq_self_eq_true, Bool.and_true]
  decide +kernel

theorem test_meets_GuestAndDebugPorts_token : ∃ (ls : List (BitVec 288)) (s : State), Safety.tablesOk s = true ∧ powered s = true ∧
    (s.mode = .test ∨ s.mode = .quarantine) ∧ (ownerKey s).isSome = true ∧ tokenBodyOk s ls = true :=
  ⟨linesOf 8 tokenBytes, banked none none { up with mode := .test }, by decide +kernel, by decide, by decide, by decide,
    tokenLines_ok⟩

/-! ### The spec's worked examples -/

/-- A command completes in a state of which a proposition holds. -/
def after (r : Result) (p : State → Prop) [∀ t, Decidable (p t)] : Bool :=
  match r with
  | .next t => decide (p t)
  | _ => false

/-- Word addresses (01_architecture.md, the worked example of the control space). -/
theorem test_addresses : ctlAddr clsDeck 1 0x10 = 0x141010 ∧ laneAddr 1 0x25 0x24 = 0x025824 ∧ pairAddr 1000 40 = 0x51F428 := by
  decide

/-- A set-up of mixed families in line quad LQ5 is refused whole (02_lanes.md, the worked example). -/
theorem test_quadFamily : after (exec (.laneCfg .line 5 [{ origin := owner, lane := 0, value := 0xD09000000 },
      { origin := owner, lane := 1, value := 0xD09000000 }, { origin := owner, lane := 2, value := 0xC89000000 }]) up)
    (fun t => laneCfg t 0 20 = laneCfg up 0 20 ∧ laneCfg t 0 21 = laneCfg up 0 21 ∧ laneCfg t 0 22 = laneCfg up 0 22) = true := by
  decide +kernel

/-- Without the third write the two are applied (02_lanes.md, the worked example). -/
theorem test_quadSetUp : after (exec (.laneCfg .line 5 [{ origin := owner, lane := 0, value := 0xD09000000 },
      { origin := owner, lane := 1, value := 0xD09000000 }]) (atL0 [17] up))
    (fun t => laneCfg t 0 20 = 0xD09000000 ∧ laneCfg t 0 21 = 0xD09000000) = true := by
  decide +kernel

/-- MOVH forms the entry of Table 6-16 from g6 = 7_FF00h (14_host.md, the worked example). -/
theorem test_movh : after (exec (.movh { eng := 3, slot := .a, pred := 0 } 6 6 0x8032) (inPass 3 [0, 0, 0, 0, 0, 0x7FF00] up))
    (fun t => regRead (engGet t 3).regs 6 = 0x80327FF00) = true := by
  decide +kernel

/-- The CRC-32C of "123456789" (10_queues_checks.md, the worked example). -/
theorem test_crc32c : chkValue (chkOctets (chkStart 1) [0x31, 0x32, 0x33, 0x34, 0x35, 0x36, 0x37, 0x38, 0x39]) = 0xE3069283 := by
  decide +kernel

/-- The batch item of 64 words discards items A and B and is written at offsets 36 to 43 (Table 10-5). -/
theorem test_overwriteOldest : after (exec (.queueAppend 3 (List.replicate 64 0)) (hosted 0x810000080
      { items := [List.replicate 24 1, List.replicate 64 2, [3]], rp := { wrap := false, at_ := 40 },
        wp := { wrap := true, at_ := 36 } }))
    (fun t => (hqGet t 3).rp = { wrap := false, at_ := 51 } ∧ (hqGet t 3).wp = { wrap := true, at_ := 44 } ∧
        cwGet t (hqLostAddr 3) = 2) = true := by
  decide +kernel

/-- VMAX 700 below a floor of 712 is overridden (Tables 16-11, 16-12). -/
theorem test_vloopCap : after (exec (.vloopCtrl 2 { origin := owner, value := 0x962BC0000 })
      (vloopPut 2 { vout := 722, floor := 712 } up))
    (fun t => cwGet t (vloopAddr 2 0) = 0x962BC0000 ∧ vloopTarget t 2 = 712 ∧ (vloopGet t 2).overridden = true) = true := by
  decide +kernel

/-- The junction temperatures of the last example of 17_electrical.md as PWR_TEMP shows them (Table 17-8). -/
theorem test_pwrTemp : after (exec (.tickBoundary { vin := 480, pIn := 3000, tj0 := 97, tj1 := 98, tjHub := 80 }) up)
    (fun t => readWord t 0x3BF002 = 0x8A898A780) = true := by
  decide +kernel

/-- SYNC_A is lost 377.5 µs after its last edge, and the DPLL moves to SYNC_B (Table 15-7). -/
theorem test_syncLoss : after (exec (.syncLoss .a 377500) (syncPut 0 { seen := true, valid := true, clean := 8000 }
      (syncPut 1 { seen := true, valid := true, clean := 8000 } { up with dpll := { inUse := 0, locked := 8000 } })))
    (fun t => (syncGet t 0).lost = true ∧ t.dpll.inUse = 1 ∧ t.dpll.slewing = true) = true := by
  decide +kernel

/-- ENG_STAT and ENG_T1 of U21 with 200 monitoring contexts (09_engines.md, the worked example). -/
theorem test_engineBound : imageBound { up with
      ctxAt := (List.range 200).map fun h => (5376 + h, 21 * 256 + h + 1),
      ctx := (List.range 200).map fun h => ((5376 + h) * 128, 0x100000000) } 21
    { image false with f := 1510, fs := 32, ft := 2048, loops := [{ mask := 2, b := 247, s := 1, t := 64 }] } =
    (50910, 232, 14848) := by
  decide +kernel


/-- A pair whose cell has accepted FS for the protection signal before the pair is enabled (R283, R287). -/
def apsHeld : State :=
  let s := withCw [(cellAddr 9 5 0, 0x812000E00)] (protecting 0 0x805000000 0x880000000 {} 0 0)
  cellPut (cellKey 9 5) { valid := true, acc := 0x2DA } s

/-- Enabling that pair takes the accepted value: FAR is FS, FAR_SIG protection, no FOP_PM. -/
theorem test_farTaken : after (exec (.prtCfg 512 [{ origin := owner, word := 0, value := 0x900B02800 }]) apsHeld)
    (fun t => (prtGet t 512).far = 8 ∧ (prtGet t 512).farSig = true ∧ (prtGet t 512).fopPm = false) = true := by
  decide +kernel

/-- A flush of HQ3 by unit 7 is recorded with SRC 7 (R350, R485). -/
theorem test_flushSource : after (exec (.hostQueueFlush { src := .unit 7, bundle := 0 } 3) (withCw [(hqCfgAddr 0, 0x800000080)] up))
    (fun t => (hqGet t 0).items = [[0x683820000, 0x401800000, 0]]) = true := by
  decide +kernel

/-- One window sets up a lane, its FEC and the 100GbE stream on it, in any order (R66, R92). -/
theorem test_windowSetUp : after (exec .commitWindow { withContexts up with jtag := { up.jtag with staged :=
      [(frmAddr 1 0 0, 0xA00014000), (frmAddr 1 0 2, 0x100), (fecAddr 0 8 0, 0x400000000), (laneAddr 0 8 0, 0xC80000000)] } })
    (fun t => frmCfg t 1 0 = 0xA00014000 ∧ frmLanes t 1 0 = 0x100 ∧ cwGet t (fecAddr 0 8 0) = 0x400000000) = true := by
  decide +kernel
/-! ### States and operands that meet the hypotheses of the obligations -/

theorem test_meets_ArithmeticWritesRegister : ∃ (i : Iss) (s : State),
    takesEffect s i = true :=
  ⟨b3, unit3 [0xFFFFFFFFF, 1], by decide +kernel⟩

theorem test_meets_CompareAndLaneResults : ∃ (i : Iss) (j : IssA) (s : State),
    takesEffect s i = true ∧ takesEffect s (issueOfA j) = true :=
  ⟨b3, a3, unit3 [0x800000000, 1], by decide +kernel⟩

theorem test_meets_FalsePredicateHasNoEffect : ∃ (c : Instr) (i : Iss) (s : State),
    issueOf c = some i ∧ barred s i = true :=
  ⟨.nop { b3 with pred := 1 }, { b3 with pred := 1 }, unit3 [], by decide +kernel⟩

theorem test_meets_BranchesAndLoopsGoWhereTheSpecSays : ∃ (i : Iss) (j : IssA) (mask : BitVec 16) (s : State),
    let f := { body := 11, last := 20, left := 0, handles := [], gD := 4, context := false, depth := 1 }
    let rest := []
    let h := 7
    let hs := []
    takesEffect s i = true ∧ (engGet s i.eng.val).loops = f :: rest ∧ f.context = false ∧ f.left = 0 ∧ takesEffect s
      (issueOfA j) = true ∧ handlesOf s j.eng.val mask.toNat = h :: hs :=
  ⟨b3, a3, 2, looping { body := 11, last := 20, left := 0, handles := [], gD := 4, context := false, depth := 1 },
    by decide +kernel⟩

theorem test_meets_BranchesAndLoopsGoWhereTheSpecSays_2 : ∃ (i : Iss) (s : State),
    let f := { body := 11, last := 20, left := 1, handles := [], gD := 4, context := false, depth := 1 }
    let rest := []
    takesEffect s i = true ∧ (engGet s i.eng.val).loops = f :: rest ∧ f.context = false ∧ f.left ≠ 0 :=
  ⟨b3, looping { body := 11, last := 20, left := 1, handles := [], gD := 4, context := false, depth := 1 },
    by decide +kernel⟩

theorem test_meets_BranchesAndLoopsGoWhereTheSpecSays_3 : ∃ (i : Iss) (s : State),
    let f := { body := 11, last := 20, left := 0, handles := [], gD := 4, context := true, depth := 1 }
    let rest := []
    takesEffect s i = true ∧ (engGet s i.eng.val).loops = f :: rest ∧ f.context = true ∧ f.handles = [] :=
  ⟨b3, looping { body := 11, last := 20, left := 0, handles := [], gD := 4, context := true, depth := 1 }, by decide +kernel⟩

theorem test_meets_BranchesAndLoopsGoWhereTheSpecSays_4 : ∃ (i : Iss) (j : IssA) (mask : BitVec 16) (s : State),
    let f := { body := 11, last := 20, left := 0, handles := [8], gD := 4, context := true, depth := 1 }
    let rest := []
    let h := 8
    let hs := []
    takesEffect s i = true ∧ (engGet s i.eng.val).loops = f :: rest ∧ f.context = true ∧ f.handles = h :: hs ∧ takesEffect s
      (issueOfA j) = true ∧ handlesOf s j.eng.val mask.toNat = [] :=
  ⟨b3, a3, 0, looping { body := 11, last := 20, left := 0, handles := [8], gD := 4, context := true, depth := 1 },
    by decide +kernel⟩

theorem test_meets_BranchesAndLoopsGoWhereTheSpecSays_5 : ∃ (j : IssA) (s : State),
    let E := engGet s j.eng.val
    let a := 9
    let rest := ([] : List Nat)
    takesEffect s (issueOfA j) = true ∧ E.calls = a :: rest :=
  ⟨a3, looping { body := 11, last := 20, left := 0, handles := [], gD := 4, context := false, depth := 1 },
    by decide +kernel⟩

theorem test_meets_ContextNumbersTranslate : ∃ (i : IssA) (gA : Reg) (s : State),
    let I := issueOfA i
    let e := i.eng.val
    let a := (source s I gA).toNat
    let p := 775
    takesEffect s (issueOfA i) = true ∧ e < 64 ∧ ctxPlace s (a % 16384) = some p ∧ p / 256 = e ∧ ctxOfHandle s e (a % 256) =
      none :=
  ⟨a3, 1, unit3 [5], by decide +kernel⟩

theorem test_meets_ContextNumbersTranslate_2 : ∃ (i : IssA) (gA : Reg) (s : State),
    let I := issueOfA i
    let e := i.eng.val
    let a := (source s I gA).toNat
    let id := 5
    takesEffect s (issueOfA i) = true ∧ e < 64 ∧ (∀ p, ctxPlace s (a % 16384) = some p → p / 256 ≠ e) ∧ ctxOfHandle s e (a %
      256) = some id :=
  ⟨a3, 1, unit3 [7], by decide +kernel⟩

theorem test_meets_ContextNumbersTranslate_3 : ∃ (i : IssA) (gA : Reg) (s : State),
    let I := issueOfA i
    let e := i.eng.val
    let a := (source s I gA).toNat
    let p := 1025
    takesEffect s (issueOfA i) = true ∧ (¬ e < 64) ∧ ctxPlace s (a % 16384) = some p :=
  ⟨a64, 1, hubPass [300], by decide +kernel⟩

theorem test_meets_ContextNumbersTranslate_4 : ∃ (i : IssA) (gA : Reg) (s : State),
    let I := issueOfA i
    let e := i.eng.val
    let a := (source s I gA).toNat
    takesEffect s (issueOfA i) = true ∧ (¬ e < 64) ∧ ctxPlace s (a % 16384) = none :=
  ⟨a64, 1, hubPass [16383], by decide +kernel⟩

theorem test_meets_ContextAccess : ∃ (i : IssA) (gA : Reg) (off : Fin 256) (s : State),
    let id := 5
    takesEffect s (issueOfA i) = true ∧ namedContext s i gA off.val = some id :=
  ⟨a3, 1, 255, unit3 [8], by decide +kernel⟩

theorem test_meets_ContextAccess_2 : ∃ (i : IssA) (gA : Reg) (off : Fin 256) (s : State),
    takesEffect s (issueOfA i) = true ∧ namedContext s i gA off.val = none :=
  ⟨a3, 1, 0, unit3 [8], by decide +kernel⟩

theorem test_meets_ContextAccess_3 : ∃ (i : IssA) (gA : Reg) (mask : BitVec 16) (s : State),
    let I := issueOfA i
    let e := i.eng.val
    let a := (source s I gA).toNat
    let held := fun h => ∃ p ∈ s.ctxAt, p.2 = e * 256 + h + 1 ∧ mask.toNat.testBit (ctxKind s p.1) = true
    let n := 7
    takesEffect s (issueOfA i) = true ∧ e < 64 ∧ (tabWf (fun _ => 0) s.ctxAt = true) ∧ n < 256 ∧ a % 256 ≤ n ∧ held n ∧ (∀
      m, a % 256 ≤ m → m < n → ¬ held m) :=
  ⟨a3, 1, 2, unit3 [7],
    by decide +kernel, by decide +kernel, by decide +kernel, by decide +kernel, by decide +kernel, by decide +kernel, (fun m h1 h2 => absurd h1 (Nat.not_le.mpr (Nat.lt_of_lt_of_le h2 (by decide +kernel))))⟩

theorem test_meets_ContextAccess_4 : ∃ (i : IssA) (gA : Reg) (mask : BitVec 16) (s : State),
    let I := issueOfA i
    let e := i.eng.val
    let a := (source s I gA).toNat
    let lives := fun id => ∃ p ∈ s.ctxAt, p.1 = id ∧ mask.toNat.testBit (ctxKind s id) = true
    let n := 300
    takesEffect s (issueOfA i) = true ∧ e = 64 ∧ a % 16384 ≤ n ∧ lives n ∧ (∀ m, a % 16384 ≤ m → m < n → ¬ lives m) :=
  ⟨a64, 1, 0x100, hubPass [300],
    by decide +kernel, by decide +kernel, by decide +kernel, by decide +kernel, (fun m h1 h2 => absurd h1 (Nat.not_le.mpr (Nat.lt_of_lt_of_le h2 (by decide +kernel))))⟩

theorem test_meets_ContextAccess_5 : ∃ (i : IssA) (gA : Reg) (mask : BitVec 16) (s : State),
    let I := issueOfA i
    let e := i.eng.val
    let a := (source s I gA).toNat
    let held := fun h => ∃ p ∈ s.ctxAt, p.2 = e * 256 + h + 1 ∧ mask.toNat.testBit (ctxKind s p.1) = true
    takesEffect s (issueOfA i) = true ∧ e < 64 ∧ (tabWf (fun _ => 0) s.ctxAt = true) ∧ (∀ m, a % 256 ≤ m → m < 256 → ¬ held
      m) :=
  ⟨a3, 1, 0, unit3 [255], by decide +kernel, by decide +kernel, by decide +kernel, (fun m _ _ ⟨p, _, _, h⟩ => by simp at h)⟩

theorem test_meets_ContextAccess_6 : ∃ (i : IssA) (gA : Reg) (mask : BitVec 16) (s : State),
    let I := issueOfA i
    let e := i.eng.val
    let a := (source s I gA).toNat
    let lives := fun id => ∃ p ∈ s.ctxAt, p.1 = id ∧ mask.toNat.testBit (ctxKind s id) = true
    takesEffect s (issueOfA i) = true ∧ e = 64 ∧ (∀ m, a % 16384 ≤ m → ¬ lives m) :=
  ⟨a64, 1, 0, hubPass [16383], by decide +kernel, by decide +kernel, (fun m _ ⟨p, _, _, h⟩ => by simp at h)⟩

theorem test_meets_EffectsAreStaged : ∃ (i : IssA) (gA : Reg) (off : Fin 256) (fn : BitVec 16) (s : State),
    let I := issueOfA i
    let e := i.eng.val
    let a := source s I gA
    takesEffect s (issueOfA i) = true ∧ namedContext s i gA off.val = none ∧ granted s e true clsOh = true ∧ cellOpen s e
      (filtCell e a) = true ∧ deckGranted s e true (a.toNat % 2 ^ 18) = false ∧ access s e true ((a.toNat + fn.toNat) % 2 ^
      24) = .ok :=
  ⟨a3, 1, 0, 0x20, unit3 [BitVec.ofNat 36 (pcAddr 3 0)], by decide +kernel⟩

theorem test_meets_EffectsAreStaged_2 : ∃ (i : IssA) (gA : Reg) (fn : BitVec 16) (d0 d1 : Bool) (s : State),
    let I := issueOfA i
    let e := i.eng.val
    let a := source s I gA
    let k := 3
    takesEffect s (issueOfA i) = true ∧ deckGranted s e true (a.toNat % 2 ^ 18) = true ∧ granted s e true clsDeck = true ∧
      (e = 64 ∨ inBatch s e = true ∨ (if dieOf e = 0 then d1 else d0) = false) ∧ access s e true ((a.toNat + fn.toNat) % 2 ^
      24) = .violates k :=
  ⟨a3, 1, 0, false, false, unit3 [5], by decide +kernel⟩

theorem test_meets_EffectsAreStaged_3 : ∃ (i : IssA) (s : State),
    let e := i.eng.val
    takesEffect s (issueOfA i) = true ∧ granted s e true clsOh = false :=
  ⟨a3, noGrants (unit3 [8]), by decide +kernel⟩

theorem test_meets_EffectsAreStaged_4 : ∃ (i : IssA) (s : State),
    let e := i.eng.val
    takesEffect s (issueOfA i) = true ∧ e = 64 :=
  ⟨a64, hubPass [16383], by decide +kernel⟩

theorem test_meets_EffectsAreStaged_5 : ∃ (i : IssA) (gA : Reg) (off : Fin 256) (s : State),
    let id := 5
    takesEffect s (issueOfA i) = true ∧ namedContext s i gA off.val = some id :=
  ⟨a3, 1, 2, unit3 [5], by decide +kernel⟩

theorem test_meets_ProtectionRequestsAreStaged : ∃ (i : IssA) (gA : Reg) (s : State),
    let p := (source s (issueOfA i) gA).toNat % 2048
    takesEffect s (issueOfA i) = true ∧ granted s i.eng.val true clsPair = true ∧ (inBatch s i.eng.val = true ∨ pairScope s
      i.eng.val p = true) :=
  ⟨a64, 1, hubBatch [1023], by decide +kernel⟩

theorem test_meets_ProtectionRequestsAreStaged_2 : ∃ (i : IssA) (s : State),
    takesEffect s (issueOfA i) = true ∧ granted s i.eng.val true clsPair = false :=
  ⟨a3, noGrants (unit3 [1023]), by decide +kernel⟩

theorem test_meets_ItemsAreBuiltAndAppended : ∃ (i : IssA) (s : State),
    let e := i.eng.val
    let E := engGet s e
    let it := { queue := 2, words := [5], overflow := false, truncated := false }
    let h := 5
    let ws := []
    takesEffect s (issueOfA i) = true ∧ E.item = some it ∧ it.words.length < 64 ∧ it.truncated = false ∧ it.overflow = false
      ∧ it.words = h :: ws :=
  ⟨a3, withItem { queue := 2, words := [5], overflow := false, truncated := false }, by decide +kernel⟩

theorem test_meets_ItemsAreBuiltAndAppended_2 : ∃ (i : IssA) (s : State),
    let e := i.eng.val
    let E := engGet s e
    let it := { queue := 2, words := (List.replicate 64 7), overflow := false, truncated := false }
    takesEffect s (issueOfA i) = true ∧ E.item = some it ∧ 64 ≤ it.words.length :=
  ⟨a3, withItem { queue := 2, words := (List.replicate 64 7), overflow := false, truncated := false }, by decide +kernel⟩

theorem test_meets_ItemsAreBuiltAndAppended_3 : ∃ (i : IssA) (s : State),
    let e := i.eng.val
    let E := engGet s e
    let it := { queue := 2, words := [5], overflow := true, truncated := false }
    takesEffect s (issueOfA i) = true ∧ E.item = some it ∧ it.truncated = false ∧ it.overflow = true :=
  ⟨a3, withItem { queue := 2, words := [5], overflow := true, truncated := false }, by decide +kernel⟩

theorem test_meets_ItemsAreBuiltAndAppended_4 : ∃ (i : IssA) (s : State),
    let e := i.eng.val
    let E := engGet s e
    let it := { queue := 2, words := [5], overflow := false, truncated := true }
    takesEffect s (issueOfA i) = true ∧ E.item = some it ∧ it.truncated = true :=
  ⟨a3, withItem { queue := 2, words := [5], overflow := false, truncated := true }, by decide +kernel⟩

theorem test_meets_ItemsAreBuiltAndAppended_5 : ∃ (i : IssA) (s : State),
    let e := i.eng.val
    let E := engGet s e
    takesEffect s (issueOfA i) = true ∧ E.item = none :=
  ⟨a3, unit3 [65535], by decide +kernel⟩

theorem test_meets_AlarmsAndBinsAreRecorded : ∃ (i : IssA) (gA : Reg) (off : Fin 256) (id : Nat) (s : State),
    takesEffect s (issueOfA i) = true ∧ namedContext s i gA off.val = some id ∧ (tabWf (fun _ => 0) s.ctx = true) :=
  ⟨a3, 1, 0, 5, unit3 [7], by decide +kernel⟩

theorem test_meets_ChecksAreComputed : ∃ (i : IssA) (wait : Fin 33) (s : State),
    let e := i.eng.val
    Safety.tablesOk s = true ∧ takesEffect s (issueOfA i) = true ∧ e < 64 ∧ 0 < wait.val :=
  ⟨a3, 32, unit3 [0x123456789], by decide +kernel⟩

theorem test_meets_ReadsWriteOneRegister : ∃ (i : IssA) (gA : Reg) (fn : BitVec 16) (s : State),
    let e := i.eng.val
    let I := issueOfA i
    let a := source s I gA
    takesEffect s (issueOfA i) = true ∧ selfProfile s e = true ∧ granted s e false clsOh = true ∧ cellOpen s e (filtCell e
      a) = true ∧ granted s e false clsPair = true ∧ (inBatch s e = true ∨ pairScope s e (a.toNat % 2048) = true) ∧
      deckGranted s e false (a.toNat % 2 ^ 18) = false ∧ access s e false ((a.toNat + fn.toNat) % 2 ^ 24) = .ok :=
  ⟨a3, 1, 0, unit3 [BitVec.ofNat 36 (pcAddr 3 0)], by decide +kernel⟩

theorem test_meets_ReadsWriteOneRegister_2 : ∃ (i : IssA) (gA : Reg) (s : State),
    let I := issueOfA i
    let e := i.eng.val
    let a := source s I gA
    takesEffect s (issueOfA i) = true ∧ deckGranted s e false (a.toNat % 2 ^ 18) = true ∧ deckReserved (a.toNat % 2 ^ 18) =
      false ∧ deckRange (a.toNat % 2 ^ 18) = false :=
  ⟨a3, 1, unit3 [0x0C0000], by decide +kernel⟩

theorem test_meets_ReadsWriteOneRegister_3 : ∃ (i : IssA) (s : State),
    let e := i.eng.val
    takesEffect s (issueOfA i) = true ∧ selfProfile s e = false :=
  ⟨a3,
    { unit3 [0x0C0000] with loaf := some { loaf with images := [{ image false with selfProfile := false, grantR := 0 }] } },
    by decide +kernel⟩

theorem test_meets_ReadsWriteOneRegister_4 : ∃ (i : IssA) (gA : Reg) (fn : BitVec 16) (s : State),
    let I := issueOfA i
    let e := i.eng.val
    let a := source s I gA
    let c := 3
    takesEffect s (issueOfA i) = true ∧ access s e false ((a.toNat + fn.toNat) % 2 ^ 24) = .violates c :=
  ⟨a3, 1, 0, unit3 [0xFC0000], by decide +kernel⟩

theorem test_meets_LaneSetUp : ∃ (w : LaneWrite) (l : LaneRef) (s : State),
    let k := laneKey (sideNum l.side) l.lane.val
    let v := laneGet s k
    Safety.tablesOk s = true ∧ 0xC < laneRate w.value ∧ v.st = .pllWait ∧ v.st ≠ .cdrAcq :=
  ⟨{ origin := owner, lane := 1, value := 0xE80000000 }, { side := .line, lane := 8 },
    withLane 8 0x880000000 { st := .pllWait } up, by decide +kernel⟩

theorem test_meets_LaneSetUp_2 : ∃ (side : Side) (quad : Fin 16) (ws : List LaneWrite) (l : LaneRef) (s : State),
    let sd := sideNum side
    let q := quad.val
    let st := St.quadFamily
    let k := laneKey (sideNum l.side) l.lane.val
    let v := laneGet s k
    Safety.tablesOk s = true ∧ st = quadStatus (quadPlan sd q ws s) sd q ∧ st ≠ 0 ∧ (∀ x ∈ ws, laneRate x.value ≤ 0xC) ∧
      v.st ≠ .pllWait ∧ v.st = .cdrAcq :=
  ⟨.line, 2, [{ origin := owner, lane := 1, value := 0xA80000000 }], { side := .line, lane := 8 },
    withLane 8 0x880000000 { st := .cdrAcq } up, by decide +kernel⟩

theorem test_meets_LaneSetUp_3 : ∃ (side : Side) (quad : Fin 16) (w : LaneWrite) (s : State),
    let sd := sideNum side
    let q := quad.val
    let lane := 4 * q + w.lane.val
    let a := laneAddr sd lane 0
    let new := laneCfgValue sd w.value
    let plan := cwSet a new s
    Safety.tablesOk s = true ∧ laneRate w.value ≤ 0xC ∧ quadStatus plan sd q = 0 ∧ w.value.getLsbD 35 = false :=
  ⟨.line, 2, { origin := owner, lane := 1, value := 0x080000000 }, atL0 [16] up, by decide +kernel⟩

theorem test_meets_LaneSetUp_4 : ∃ (side : Side) (quad : Fin 16) (w : LaneWrite) (s : State),
    let sd := sideNum side
    let q := quad.val
    let lane := 4 * q + w.lane.val
    let a := laneAddr sd lane 0
    let new := laneCfgValue sd w.value
    let plan := cwSet a new s
    Safety.tablesOk s = true ∧ laneRate w.value ≤ 0xC ∧ quadStatus plan sd q = 0 ∧ w.value.getLsbD 35 = true ∧ (laneCfg s sd
      lane).getLsbD 35 = false ∧ domRuns s (laneDom sd lane) = true :=
  ⟨.line, 2, { origin := owner, lane := 1, value := 0xE00000000 }, atL0 [16] up, by decide +kernel⟩

theorem test_meets_LaneSetUp_5 : ∃ (side : Side) (quad : Fin 16) (w : LaneWrite) (s : State),
    let sd := sideNum side
    let q := quad.val
    let lane := 4 * q + w.lane.val
    let a := laneAddr sd lane 0
    let new := laneCfgValue sd w.value
    let plan := cwSet a new s
    Safety.tablesOk s = true ∧ laneRate w.value ≤ 0xC ∧ quadStatus plan sd q = 0 ∧ w.value.getLsbD 35 = true ∧ fld (laneCfg
      s sd lane) 35 30 = fld w.value 35 30 ∧ (laneCfg s sd lane).getLsbD 25 = w.value.getLsbD 25 :=
  ⟨.line, 2, { origin := owner, lane := 1, value := 0x880000000 }, withLane 9 0x880000000 { st := .ready } up,
    by decide +kernel⟩

theorem test_meets_LaneTrainingAndEvents : ∃ (l : LaneRef) (s : State),
    let sd := sideNum l.side
    let lane := l.lane.val
    let k := laneKey sd lane
    let v := laneGet s k
    Safety.tablesOk s = true ∧ v.train = 1 :=
  ⟨{ side := .line, lane := 8 }, withLane 8 0x880000000 { st := .training, train := 1 } up, by decide +kernel⟩

theorem test_meets_LaneTrainingAndEvents_2 : ∃ (l : LaneRef) (s : State),
    let sd := sideNum l.side
    let lane := l.lane.val
    let k := laneKey sd lane
    let v := laneGet s k
    Safety.tablesOk s = true ∧ v.train ≠ 1 :=
  ⟨{ side := .line, lane := 8 }, up, by decide +kernel⟩

theorem test_meets_LaneWordsAreStored : ∃ (l : LaneRef) (near far : Bool) (s : State),
    let sd := sideNum l.side
    let lane := l.lane.val
    let k := laneKey sd lane
    let v := laneGet s k
    let tested := testRefusal s sd lane
    Safety.tablesOk s = true ∧ (laneCfg s sd lane).getLsbD 25 = true ∧ (v.train = 1 ∨ v.train = 2) ∧ near || far ∧ tested ≠
      0 ∧ streamsOfLane s sd lane = [] ∧ s.mode ≠ .provision ∧ s.mode ≠ .active ∧ s.mode ≠ .test :=
  ⟨{ side := .line, lane := 8 }, true, true,
    withLane 8 0x882000000 { st := .training, train := 2 } { up with mode := .standby }, by decide +kernel⟩

theorem test_meets_LaneWordsAreStored_2 : ∃ (l : LaneRef) (near far : Bool) (s : State),
    let sd := sideNum l.side
    let lane := l.lane.val
    let k := laneKey sd lane
    let v := laneGet s k
    let tested := testRefusal s sd lane
    Safety.tablesOk s = true ∧ ((laneCfg s sd lane).getLsbD 25 = false ∨ (v.train ≠ 1 ∧ v.train ≠ 2)) ∧ (near = false ∧ far
      = false ∨ tested = 0) :=
  ⟨{ side := .line, lane := 8 }, false, false, up, by decide +kernel⟩

theorem test_meets_LaneWordsAreStored_3 : ∃ (l : LaneRef) (s : State),
    let sd := sideNum l.side
    let lane := l.lane.val
    Safety.tablesOk s = true ∧ streamsOfLane s sd lane ≠ [] :=
  ⟨{ side := .line, lane := 8 }, streaming, by decide +kernel⟩

theorem test_meets_TestPatternsAndReferences : ∃ (l : LaneRef) (pat : Fin 16) (w : CtlWrite) (s : State),
    let sd := sideNum l.side
    let lane := l.lane.val
    let rate := laneRate (laneCfg s sd lane)
    Safety.tablesOk s = true ∧ patternOk rate pat.val = false ∧ fld w.value 35 34 = 3 :=
  ⟨{ side := .line, lane := 8 }, 9, { origin := owner, value := 0xC00000000 }, up, by decide +kernel⟩

theorem test_meets_TestPatternsAndReferences_2 : ∃ (l : LaneRef) (pat : Fin 16) (w : CtlWrite) (s : State),
    let sd := sideNum l.side
    let lane := l.lane.val
    let rate := laneRate (laneCfg s sd lane)
    let a := laneAddr sd lane 0x50
    let k := laneKey sd lane
    let v := laneGet s k
    Safety.tablesOk s = true ∧ patternOk rate pat.val = true ∧ testRefusal s sd lane = 0 ∧ patternOk rate (fld (cwGet s a)
      33 30) = true ∧ (cwGet s a).getLsbD 35 = true ∧ (cwGet s a).getLsbD 34 = true ∧ v.prbsLock = true ∧ fld w.value 35 34
      ≠ 3 :=
  ⟨{ side := .line, lane := 8 }, 5, { origin := owner, value := 0x800000000 },
    withCw [(laneAddr 0 8 0x50, 0xD00000000)] (withLane 8 0x880000000 { st := .ready, prbsLock := true } up),
    by decide +kernel⟩

theorem test_meets_StreamSetUp : ∃ (r : StreamRef) (w : FrmWrite) (c : CtlWrite) (l : LaneRef) (s : State),
    let u := r.unit.val
    let n := r.num.val
    let a := frmAddr u n w.word.val
    let new := frmValue (frmProto (frmCfg s u n)) w.word.val w.value
    let plan := cwSet a new s
    let j := 4
    let aj := frmAddr u n j
    let vj := frmValue (frmProto (frmCfg s u n)) j c.value
    let mode := fld c.value 35 34
    let rate := laneRate (laneCfg s (sideNum l.side) l.lane.val)
    let suits := mode ≠ 3 ∧ fecRateOk mode rate = true ∧ ∀ p ∈ anchoredStreams s (sideNum l.side) l.lane.val, shapeFec
      (frmProto (frmCfg s p.1 p.2)) rate = mode
    Safety.tablesOk s = true ∧ streamStatus plan u n = 0 ∧ frmLive (frmCfg plan u n) = true ∧ frmLive (frmCfg s u n) = true
      ∧ ((w.word.val = 0 ∧ restartBits (cwGet s a) = restartBits new) ∨ (w.word.val ≠ 0 ∧ cwGet s a = new)) ∧ (j = 4 ∨ j =
      5) ∧ streamStatus (cwSet aj vj s) u n = 0 ∧ suits :=
  ⟨{ unit := 1, num := 0 }, { origin := owner, word := 0, value := 0x980014000 }, { origin := owner, value := 0x000000000 },
    { side := .line, lane := 8 }, streaming, by decide +kernel⟩

theorem test_meets_StreamSetUp_2 : ∃ (r : StreamRef) (w : FrmWrite) (c : CtlWrite) (l : LaneRef) (s : State),
    let u := r.unit.val
    let n := r.num.val
    let a := frmAddr u n w.word.val
    let new := frmValue (frmProto (frmCfg s u n)) w.word.val w.value
    let plan := cwSet a new s
    let mode := fld c.value 35 34
    let rate := laneRate (laneCfg s (sideNum l.side) l.lane.val)
    let suits := mode ≠ 3 ∧ fecRateOk mode rate = true ∧ ∀ p ∈ anchoredStreams s (sideNum l.side) l.lane.val, shapeFec
      (frmProto (frmCfg s p.1 p.2)) rate = mode
    Safety.tablesOk s = true ∧ streamStatus plan u n = 0 ∧ frmLive (frmCfg s u n) = true ∧ frmLive (frmCfg plan u n) = false
      ∧ (¬ suits) :=
  ⟨{ unit := 1, num := 0 }, { origin := owner, word := 0, value := 0x180014000 }, { origin := owner, value := 0xC00000000 },
    { side := .line, lane := 8 }, streaming, by decide +kernel⟩

theorem test_meets_StreamSetUp_3 : ∃ (r : StreamRef) (w : FrmWrite) (s : State),
    let u := r.unit.val
    let n := r.num.val
    let a := frmAddr u n w.word.val
    let new := frmValue (frmProto (frmCfg s u n)) w.word.val w.value
    let plan := cwSet a new s
    Safety.tablesOk s = true ∧ streamStatus plan u n = 0 ∧ frmLive (frmCfg s u n) = false ∧ frmLive (frmCfg plan u n) =
      false :=
  ⟨{ unit := 1, num := 0 }, { origin := owner, word := 0, value := 0x180014000 }, readyLane, by decide +kernel⟩

theorem test_meets_StreamSetUp_4 : ∃ (r : StreamRef) (ws : List FrmWrite) (s : State),
    let u := r.unit.val
    let n := r.num.val
    let st := streamStatus (frmPlan u n ws s) u n
    Safety.tablesOk s = true ∧ st ≠ 0 :=
  ⟨{ unit := 1, num := 0 }, [{ origin := owner, word := 0, value := 0x980000000 }], streaming, by decide +kernel⟩

theorem test_meets_StreamSetUp_5 : ∃ (r : StreamRef) (w : FrmWrite) (s : State),
    let u := r.unit.val
    let n := r.num.val
    let a := frmAddr u n w.word.val
    let new := frmValue (frmProto (frmCfg s u n)) w.word.val w.value
    let plan := cwSet a new s
    Safety.tablesOk s = true ∧ streamStatus plan u n = 0 ∧ frmLive (frmCfg plan u n) = true ∧ (frmLive (frmCfg s u n) =
      false ∨ (w.word.val = 0 ∧ restartBits (cwGet s a) ≠ restartBits new) ∨ (w.word.val ≠ 0 ∧ cwGet s a ≠ new)) :=
  ⟨{ unit := 1, num := 0 }, { origin := owner, word := 0, value := 0x980014000 },
    withCw [(frmAddr 1 0 0, 0x180014000)] streaming, by decide +kernel⟩

theorem test_meets_StreamSetUp_6 : ∃ (r : StreamRef) (c : CtlWrite) (s : State),
    let u := r.unit.val
    let n := r.num.val
    let j := 5
    let aj := frmAddr u n j
    let vj := frmValue (frmProto (frmCfg s u n)) j c.value
    Safety.tablesOk s = true ∧ (j = 4 ∨ j = 5) ∧ streamStatus (cwSet aj vj s) u n ≠ 0 :=
  ⟨{ unit := 1, num := 0 }, { origin := owner, value := 0 }, withCw [(frmAddr 1 0 0, 0x980000000)] readyLane,
    by decide +kernel⟩

theorem test_meets_TheTrackerFollowsItsCandidates : ∃ (r : StreamRef) (m : Fin 64) (s : State),
    let u := r.unit.val
    let n := r.num.val
    let k := trackerKey u n m.val
    let t := trackerGet s k
    Safety.tablesOk s = true ∧ trackerHeld s u n m.val = true ∧ (t.inFrame = false ∨ t.errFa < oofN s u n) :=
  ⟨{ unit := 1, num := 0 }, 63,
    tracking { oof := true, lanesDown := true } { inFrame := false, slot0 := 0, mf := 0, errFa := 0, cands := [] },
    by decide +kernel⟩

theorem test_meets_TheTrackerFollowsItsCandidates_2 : ∃ (r : StreamRef) (m : Fin 64) (offset : Nat) (s : State),
    let u := r.unit.val
    let n := r.num.val
    let k := trackerKey u n m.val
    let t := trackerGet s k
    let isSlot0 := t.inFrame = true ∧ t.slot0 = offset
    Safety.tablesOk s = true ∧ trackerHeld s u n m.val = false ∧ (isSlot0 ∨ (∃ c ∈ t.cands, c.offset = offset)) ∧ isSlot0 ∧
      t.inFrame = true ∧ oofN s u n ≤ t.errFa :=
  ⟨{ unit := 1, num := 0 }, 0, 100, tracking {} { inFrame := true, slot0 := 100, mf := 0, errFa := 15, cands := [] },
    by decide +kernel⟩

theorem test_meets_TheTrackerFollowsItsCandidates_3 : ∃ (r : StreamRef) (m : Fin 64) (offset : Nat) (faOk : Bool) (s : State),
    let u := r.unit.val
    let n := r.num.val
    let k := trackerKey u n m.val
    let t := trackerGet s k
    let isSlot0 := t.inFrame = true ∧ t.slot0 = offset
    let c := { offset := 100, mf := 0, run := 0 }
    Safety.tablesOk s = true ∧ trackerHeld s u n m.val = false ∧ (¬ isSlot0) ∧ ((t.cands.find? fun d => d.offset == offset)
      = some c) ∧ faOk = false :=
  ⟨{ unit := 1, num := 0 }, 0, 100, false,
    tracking {} { inFrame := false, slot0 := 0, mf := 0, errFa := 0, cands := [{ offset := 100, mf := 0, run := 0 }] },
    by decide +kernel⟩

theorem test_meets_TheTrackerFollowsItsCandidates_4 : ∃ (r : StreamRef) (m : Fin 64) (offset mf : Nat) (faOk : Bool) (s : State),
    let u := r.unit.val
    let n := r.num.val
    let k := trackerKey u n m.val
    let t := trackerGet s k
    let isSlot0 := t.inFrame = true ∧ t.slot0 = offset
    let c := { offset := 100, mf := 0, run := 0 }
    Safety.tablesOk s = true ∧ trackerHeld s u n m.val = false ∧ (¬ isSlot0) ∧ ((t.cands.find? fun d => d.offset == offset)
      = some c) ∧ faOk = true ∧ (∀ x, nextMf (frmProto (frmCfg s u n)) m.val c.mf = some x → x = mf) ∧ (t.inFrame = false ∨
      c.run + 1 < ifN s u n) :=
  ⟨{ unit := 1, num := 0 }, 0, 100, 0, true,
    tracking {} { inFrame := false, slot0 := 0, mf := 0, errFa := 0, cands := [{ offset := 100, mf := 0, run := 0 }] },
    by decide +kernel, by decide +kernel, by decide +kernel, by decide +kernel, by decide +kernel, (fun x h => by cases h), by decide +kernel⟩

theorem test_meets_TheTrackerFollowsItsCandidates_5 : ∃ (r : StreamRef) (m : Fin 64) (s : State),
    let u := r.unit.val
    let n := r.num.val
    let k := trackerKey u n m.val
    let t := trackerGet s k
    let c := { offset := 100, mf := 0, run := 4 }
    Safety.tablesOk s = true ∧ trackerHeld s u n m.val = false ∧ t.inFrame = false ∧ confirmed s u n t = [c] :=
  ⟨{ unit := 1, num := 0 }, 0,
    tracking {} { inFrame := false, slot0 := 0, mf := 0, errFa := 0, cands := [{ offset := 100, mf := 0, run := 4 }] },
    by decide +kernel⟩

theorem test_meets_TheTrackerFollowsItsCandidates_6 : ∃ (r : StreamRef) (m : Fin 64) (s : State),
    let u := r.unit.val
    let n := r.num.val
    let k := trackerKey u n m.val
    let t := trackerGet s k
    Safety.tablesOk s = true ∧ trackerHeld s u n m.val = false ∧ t.inFrame = false ∧ 2 ≤ (confirmed s u n t).length ∧ t.tie
      = false :=
  ⟨{ unit := 1, num := 0 }, 0,
    tracking {} { inFrame := false, slot0 := 0, mf := 0, errFa := 0, cands := [{ offset := 100, mf := 0, run := 4 }, { offset := 130000, mf := 0, run := 4 }] },
    by decide +kernel⟩

theorem test_meets_TheTrackerFollowsItsCandidates_7 : ∃ (r : StreamRef) (m : Fin 64) (offset : Nat) (s : State),
    let u := r.unit.val
    let n := r.num.val
    let k := trackerKey u n m.val
    let t := trackerGet s k
    let isSlot0 := t.inFrame = true ∧ t.slot0 = offset
    Safety.tablesOk s = true ∧ trackerHeld s u n m.val = false ∧ (¬ isSlot0) ∧ (∀ c ∈ t.cands, c.offset ≠ offset) ∧ 8 ≤
      candCount t :=
  ⟨{ unit := 1, num := 0 }, 0, 100,
    tracking {} { inFrame := false, slot0 := 0, mf := 0, errFa := 0, cands := (List.range 8).map fun i => { offset := 1000 + i, mf := 0, run := 0 } },
    by decide +kernel⟩

theorem test_meets_TheTrackerFollowsItsCandidates_8 : ∃ (r : StreamRef) (m : Fin 64) (offset : Nat) (s : State),
    let u := r.unit.val
    let n := r.num.val
    let k := trackerKey u n m.val
    let t := trackerGet s k
    let isSlot0 := t.inFrame = true ∧ t.slot0 = offset
    Safety.tablesOk s = true ∧ trackerHeld s u n m.val = false ∧ (¬ isSlot0) ∧ (∀ c ∈ t.cands, c.offset ≠ offset) ∧
      candCount t < 8 :=
  ⟨{ unit := 1, num := 0 }, 0, 130559,
    tracking {} { inFrame := true, slot0 := 100, mf := 0, errFa := 0, cands := (List.range 6).map fun i => { offset := 1000 + i, mf := 0, run := 0 } },
    by decide +kernel⟩

theorem test_meets_AlignmentTimersAndLanes : ∃ (r : StreamRef) (skew : Nat) (idOk : Bool) (l : LaneRef) (s : State),
    let u := r.unit.val
    let n := r.num.val
    let k := streamKey u n
    let f := framerGet s k
    let proto := frmProto (frmCfg s u n)
    let live := frmLive (frmCfg s u n) = true
    let sd := sideNum l.side
    let kl := laneKey sd l.lane.val
    let v := laneGet s kl
    Safety.tablesOk s = true ∧ (f.oof = true ∨ f.errMf < oomN s u n) ∧ live ∧ proto ≠ 4 ∧ f.oof = true ∧ f.lol = false ∧
      skew ≤ 180 ∧ idOk = false ∧ v.st ≠ .adapt :=
  ⟨{ unit := 1, num := 0 }, 180, false, { side := .line, lane := 8 },
    tracking { errMf := 15, goodMf := 15, oom := true, lof := true, lom := true } { inFrame := true }, by decide +kernel⟩

theorem test_meets_AlignmentTimersAndLanes_2 : ∃ (r : StreamRef) (skew : Nat) (idOk : Bool) (s : State),
    let u := r.unit.val
    let n := r.num.val
    let k := streamKey u n
    let f := framerGet s k
    Safety.tablesOk s = true ∧ f.lol = true ∧ skew ≤ 180 ∧ idOk = true ∧ allInFrame s u n (laneMembers s u n) = true :=
  ⟨{ unit := 1, num := 0 }, 0, true, tracking { oof := true, lol := true, lom := true, oom := true } {}, by decide +kernel⟩

theorem test_meets_AlignmentTimersAndLanes_3 : ∃ (r : StreamRef) (lane : Fin 20) (s : State),
    let u := r.unit.val
    let n := r.num.val
    Safety.tablesOk s = true ∧ (trackerGet s (trackerKey u n lane.val)).inFrame = true :=
  ⟨{ unit := 1, num := 0 }, 0, tracking { oof := true, lol := true, lom := true, oom := true } { inFrame := true },
    by decide +kernel⟩

theorem test_meets_AlignmentTimersAndLanes_4 : ∃ (r : StreamRef) (lane : Fin 20) (s : State),
    let u := r.unit.val
    let n := r.num.val
    let k := streamKey u n
    let f := framerGet s k
    let proto := frmProto (frmCfg s u n)
    let live := frmLive (frmCfg s u n) = true
    Safety.tablesOk s = true ∧ live ∧ proto ≠ 4 ∧ proto ≠ 3 ∧ f.oom = true ∧ proto = 1 ∧ (trackerGet s (trackerKey u n
      lane.val)).inFrame = false :=
  ⟨{ unit := 1, num := 0 }, 0, tracking4 { lom := true } {}, by decide +kernel⟩

theorem test_meets_AlignmentTimersAndLanes_5 : ∃ (l : LaneRef) (s : State),
    let sd := sideNum l.side
    let kl := laneKey sd l.lane.val
    let v := laneGet s kl
    Safety.tablesOk s = true ∧ v.st = .adapt :=
  ⟨{ side := .line, lane := 8 },
    withLane 8 0x900000000 { st := .adapt } (tracking { errMf := 15, oom := true, goodMf := 3 } {}), by decide +kernel⟩

theorem test_meets_AlignmentTimersAndLanes_6 : ∃ (r : StreamRef) (s : State),
    let u := r.unit.val
    let n := r.num.val
    let k := streamKey u n
    let f := framerGet s k
    let proto := frmProto (frmCfg s u n)
    Safety.tablesOk s = true ∧ f.oof = false ∧ oomN s u n ≤ f.errMf ∧ f.oom = true ∧ (proto = 5 ∨ imN s u n ≤ f.goodMf) ∧
      f.lof = true :=
  ⟨{ unit := 1, num := 0 },
    tracking { oof := false, errMf := 15, oom := true, goodMf := 15, lof := true } { inFrame := true }, by decide +kernel⟩

theorem test_meets_AlignmentTimersAndLanes_7 : ∃ (r : StreamRef) (s : State),
    let u := r.unit.val
    let n := r.num.val
    let k := streamKey u n
    let f := framerGet s k
    Safety.tablesOk s = true ∧ f.oom = false ∧ f.lom = true :=
  ⟨{ unit := 1, num := 0 },
    tracking { oof := false, oom := false, errMf := 15, lom := true, lof := true } { inFrame := true }, by decide +kernel⟩

theorem test_meets_StoresStart : ∃ (i : IssA) (s : State),
    hubTakes s i = true ∧ s.sec.unlocked = true :=
  ⟨a64, batchWith 32768 [] fun s => { s with sec := { s.sec with unlocked := true } }, by decide +kernel⟩

theorem test_meets_StoresStart_2 : ∃ (i : IssA) (s : State),
    hubTakes s i = true ∧ s.sec.unlocked = false ∧ tickCount s < tabGet 0 s.nvm.lastAt 2 :=
  ⟨a64, batchWith 32768 [] fun s => { s with nvm := { s.nvm with lastAt := [(2, 5000)] } }, by decide +kernel⟩

theorem test_meets_StoresStart_3 : ∃ (i : IssA) (gA gB : Reg) (sigOk : Bool) (s : State),
    let at_ := (source s (issueOfA i) gA).toNat
    let n := (source s (issueOfA i) gB).toNat
    let ls := scratchLines s at_ n
    let due := fun target => s.sec.unlocked = false ∧ tabGet 0 s.nvm.lastAt target ≤ tickCount s
    hubTakes s i = true ∧ 1 ≤ n ∧ 32768 ≤ at_ ∧ at_ + n ≤ 163840 ∧ due 1 ∧ sigOk = true ∧ firmwareOk ls = true ∧ (floors
      s).fw ≤ lineNat ls 2 2 :=
  ⟨a64, 1, 2, true, batchWith 32768 firmwareLines id, by decide +kernel⟩

theorem test_meets_StoresStart_4 : ∃ (i : IssA) (gA gB : Reg) (sigOk : Bool) (s : State),
    let at_ := (source s (issueOfA i) gA).toNat
    let n := (source s (issueOfA i) gB).toNat
    let due := fun target => s.sec.unlocked = false ∧ tabGet 0 s.nvm.lastAt target ≤ tickCount s
    let ls := scratchLines s at_ n
    hubTakes s i = true ∧ 1 ≤ n ∧ 32768 ≤ at_ ∧ at_ + n ≤ 163840 ∧ due 2 ∧ sigOk = false ∧ due 3 ∧ n = 1 ∧ fld (lineWord ls
      0) 1 0 ≠ 3 ∧ (floors s).fw = fld (lineWord ls 0) 35 20 ∧ (floors s).loaf = (lineWord ls 1).toNat :=
  ⟨a64, 1, 2, false, batchWith 32768 [0] id, by decide +kernel⟩

theorem test_meets_StoresStart_5 : ∃ (i : IssA) (s : State),
    let due := fun target => s.sec.unlocked = false ∧ tabGet 0 s.nvm.lastAt target ≤ tickCount s
    let b :=
      { id := 4, batch := { ring := 1, resp := 0, reply := 0, seq := 3, outAt := 32768, outLen := 0, bundles := [] }, sealed := true }
    let st := {}
    hubTakes s i = true ∧ due 0 ∧ s.batch = some b ∧ b.sealed = true ∧ s.sec.sealed = some st :=
  ⟨a64,
    batchWith 32768 [] fun s => { s with batch := s.batch.map fun b => { b with sealed := true }, sec := { s.sec with sealed := some {} } },
    by decide +kernel⟩

theorem test_meets_HubInstructionsOfBatches : ∃ (i : IssA) (gA gB : Reg) (slot : Fin 4) (s : State),
    let at_ := (source s (issueOfA i) gA).toNat
    let n := (source s (issueOfA i) gB).toNat
    let b :=
      { id := 4, batch := { ring := 1, resp := 0, reply := 0, seq := 3, outAt := 32768, outLen := 0, bundles := [] } }
    hubTakes s i = true ∧ s.mode ≠ .sealed ∧ s.mode ≠ .boot ∧ s.mode ≠ .quarantine ∧ s.sec.unlocked = false ∧ s.rdn.sweepRx
      = none ∧ inWindow at_ 1 = true ∧ inWindow n 15 = true ∧ inWindow n 3 = true ∧ s.sec.slots.testBit slot.val = false ∧
      (n = 0 ∨ 1024 < n ∨ inWindow at_ n = false) ∧ s.batch = some b :=
  ⟨a64, 1, 2, 3, batchAt 32768 163825 id, by decide +kernel⟩

theorem test_meets_HubInstructionsOfBatches_2 : ∃ (i : IssA) (gA gB : Reg) (s : State),
    let at_ := (source s (issueOfA i) gA).toNat
    let n := (source s (issueOfA i) gB).toNat
    hubTakes s i = true ∧ (n = 0 ∨ inWindow at_ n = true) :=
  ⟨a64, 1, 2, batchAt 163836 1 id, by decide +kernel⟩

theorem test_meets_HubInstructionsOfBatches_3 : ∃ (i : IssA) (s : State),
    hubTakes s i = true ∧ (s.mode = .sealed ∨ s.mode = .boot ∨ s.mode = .quarantine ∨ s.sec.unlocked = true) :=
  ⟨a64, batchAt 32768 0 fun s => { s with mode := .sealed }, by decide +kernel⟩

theorem test_meets_HubInstructionsOfBatches_4 : ∃ (i : IssA) (gA gB : Reg) (s : State),
    let at_ := (source s (issueOfA i) gA).toNat
    let n := (source s (issueOfA i) gB).toNat
    hubTakes s i = true ∧ 1 ≤ n ∧ n ≤ 1024 ∧ inWindow at_ n = true ∧ linkUp s = true ∧ n ≤ s.link.cr :=
  ⟨a64, 1, 2, batchAt 162816 1024 fun s => { s with link := { s.link with st := .up, cr := 1024 } }, by decide +kernel⟩

theorem test_meets_HubInstructionsOfBatches_5 : ∃ (i : IssA) (gA gB : Reg) (slot : Fin 4) (s : State),
    let at_ := (source s (issueOfA i) gA).toNat
    let n := (source s (issueOfA i) gB).toNat
    hubTakes s i = true ∧ s.sec.slots.testBit slot.val = true ∧ inWindow at_ 2 = true ∧ inWindow n 5 = true ∧ inWindow at_ 3
      = true ∧ inWindow n 2 = true :=
  ⟨a64, 1, 2, 0, batchAt 32768 163835 fun s => { s with sec := { s.sec with slots := 1 } }, by decide +kernel⟩

theorem test_meets_HubInstructionsOfBatches_6 : ∃ (i : IssA) (gA gB : Reg) (sigOk : Bool) (s : State),
    let at_ := (source s (issueOfA i) gA).toNat
    let n := (source s (issueOfA i) gB).toNat
    let ls := scratchLines s at_ n
    let l := parseLoaf (Config.digest (lineBytes ls 0 (36 * n))).toNat ls
    hubTakes s i = true ∧ (n = 0 ∨ inWindow at_ n = true) ∧ bundleOpen s 64 = false ∧ loafStatus s sigOk ls l = 0 :=
  ⟨a64, 1, 2, true, batchWith 32768 haltLoaf id, by decide +kernel⟩

theorem test_meets_PortSetUpAndRuns : ∃ (r : PortRef) (ws : List MapWrite) (s : State),
    let u := r.unit.val
    let p := r.port.val
    let st := portStatus (mapPlan u p ws s) u p
    let k := portKey u p
    let q := portGet s k
    let cfg := mapCfg s u p
    Safety.tablesOk s = true ∧ st ≠ 0 ∧ (∀ z ∈ ws, mapWriteStatus s u p z.word.val z.value = 0) ∧ q.rxPend = false ∧ mapLive
      cfg = false :=
  ⟨{ unit := 20, port := 6 }, [{ origin := owner, word := 0, value := 0xD80000000 }],
    withCw [(mapAddr 20 6 0, 0), (mapAddr 20 6 1, 0)] channel, by decide +kernel⟩

theorem test_meets_PortSetUpAndRuns_2 : ∃ (r : PortRef) (w : MapWrite) (s : State),
    let u := r.unit.val
    let p := r.port.val
    let cfg := mapCfg s u p
    let a := mapAddr u p w.word.val
    let new := mapValue (mapAdapt cfg) w.word.val w.value
    let plan := cwSet a new s
    let k := portKey u p
    let q := portGet s k
    Safety.tablesOk s = true ∧ mapLive cfg = false ∧ mapWriteStatus s u p w.word.val w.value = 0 ∧ portStatus plan u p = 0 ∧
      mapLive (mapCfg plan u p) = true ∧ q.rxPend = true :=
  ⟨{ unit := 20, port := 6 }, { origin := owner, word := 0, value := 0xD80000000 },
    portPut (portKey 20 6) { rxPend := true } (withCw [(mapAddr 20 6 0, 0)] channel), by decide +kernel⟩

theorem test_meets_PortSetUpAndRuns_3 : ∃ (r : PortRef) (w : MapWrite) (x : RunWrite) (s : State),
    let u := r.unit.val
    let p := r.port.val
    let cfg := mapCfg s u p
    let txA := mapAddr u p (8 + x.word.val)
    let txV := mapValue (mapAdapt cfg) (8 + x.word.val) x.value
    let rxA := mapAddr u p (4 + x.word.val)
    let rxV := mapValue (mapAdapt cfg) (4 + x.word.val) x.value
    Safety.tablesOk s = true ∧ mapWriteStatus s u p w.word.val w.value ≠ 0 ∧ mapLive cfg = true ∧ (dieDeck s (dieOf
      u)).pending = false ∧ portStatus (cwSet txA txV s) u p = 0 ∧ portStatus (cwSet rxA rxV s) u p = 0 :=
  ⟨{ unit := 20, port := 6 }, { origin := owner, word := 1, value := 0 }, { origin := owner, word := 3, value := 0 },
    channel, by decide +kernel⟩

theorem test_meets_PortSetUpAndRuns_4 : ∃ (r : PortRef) (s : State),
    let u := r.unit.val
    let p := r.port.val
    let cfg := mapCfg s u p
    Safety.tablesOk s = true ∧ mapLive cfg = true ∧ (dieDeck s (dieOf u)).pending = true :=
  ⟨{ unit := 20, port := 6 }, dieDeckPut 0 { dieDeck channel 0 with pending := true } channel, by decide +kernel⟩

theorem test_meets_PortSetUpAndRuns_5 : ∃ (r : PortRef) (w : MapWrite) (s : State),
    let u := r.unit.val
    let p := r.port.val
    let cfg := mapCfg s u p
    let a := mapAddr u p w.word.val
    let new := mapValue (mapAdapt cfg) w.word.val w.value
    let plan := cwSet a new s
    Safety.tablesOk s = true ∧ mapLive cfg = false ∧ mapWriteStatus s u p w.word.val w.value = 0 ∧ portStatus plan u p = 0 ∧
      mapLive (mapCfg plan u p) = false :=
  ⟨{ unit := 20, port := 6 }, { origin := owner, word := 3, value := 0 }, up, by decide +kernel⟩

theorem test_meets_ReplacementCalendarsAndGfp : ∃ (r : PortRef) (rx : Bool) (w : CtlWrite) (s : State),
    let u := r.unit.val
    let p := r.port.val
    let k := portKey u p
    let q := portGet s k
    let adapt := mapAdapt (mapCfg s u p)
    let gfp := adapt = 9 ∨ adapt = 10
    Safety.tablesOk s = true ∧ (q.on = false ∨ directionFailed s u p rx = false) ∧ directionFailed s u p rx = false ∧ (¬ gfp
      ∨ q.replTx = false) ∧ w.value.getLsbD 35 = false ∧ q.calBusy = false ∧ q.on = true ∧ gfp ∧ q.delin = .hunt ∧
      nextEgress s u p = none :=
  ⟨{ unit := 20, port := 5 }, false, { origin := owner, value := 0 }, framed {} { on := true, delin := .hunt },
    by decide +kernel⟩

theorem test_meets_ReplacementCalendarsAndGfp_2 : ∃ (r : PortRef) (s : State),
    let u := r.unit.val
    let p := r.port.val
    let k := portKey u p
    let q := portGet s k
    let adapt := mapAdapt (mapCfg s u p)
    let gfp := adapt = 9 ∨ adapt = 10
    Safety.tablesOk s = true ∧ q.on = true ∧ gfp ∧ q.delin = .presync :=
  ⟨{ unit := 20, port := 5 }, framed {} { on := true, delin := .presync }, by decide +kernel⟩

theorem test_meets_ReplacementCalendarsAndGfp_3 : ∃ (r : PortRef) (h : GfpHeader) (s : State),
    let u := r.unit.val
    let p := r.port.val
    let k := portKey u p
    let q := portGet s k
    let adapt := mapAdapt (mapCfg s u p)
    let gfp := adapt = 9 ∨ adapt = 10
    Safety.tablesOk s = true ∧ q.on = true ∧ gfp ∧ q.delin = .sync ∧ h = .bad :=
  ⟨{ unit := 20, port := 5 }, .bad, framed {} { on := true, delin := .sync }, by decide +kernel⟩

theorem test_meets_ReplacementCalendarsAndGfp_4 : ∃ (r : PortRef) (h : GfpHeader) (s : State),
    let u := r.unit.val
    let p := r.port.val
    let k := portKey u p
    let q := portGet s k
    let adapt := mapAdapt (mapCfg s u p)
    let gfp := adapt = 9 ∨ adapt = 10
    Safety.tablesOk s = true ∧ q.on = true ∧ gfp ∧ q.delin = .sync ∧ h = .good ∧ q.replRx = false ∧ q.egress.length < 2 :=
  ⟨{ unit := 20, port := 5 }, .good, framed {} { on := true, delin := .sync }, by decide +kernel⟩

theorem test_meets_ReplacementCalendarsAndGfp_5 : ∃ (r : PortRef) (h : GfpHeader) (s : State),
    let u := r.unit.val
    let p := r.port.val
    let k := portKey u p
    let q := portGet s k
    let adapt := mapAdapt (mapCfg s u p)
    let gfp := adapt = 9 ∨ adapt = 10
    Safety.tablesOk s = true ∧ q.on = true ∧ gfp ∧ q.delin = .sync ∧ h = .good ∧ (q.replRx = true ∨ 2 ≤ q.egress.length) :=
  ⟨{ unit := 20, port := 5 }, .good, framed {} { on := true, delin := .sync, replRx := true }, by decide +kernel⟩

theorem test_meets_ReplacementCalendarsAndGfp_6 : ∃ (r : PortRef) (s : State),
    let u := r.unit.val
    let p := r.port.val
    let k := portKey u p
    let q := portGet s k
    let adapt := mapAdapt (mapCfg s u p)
    let gfp := adapt = 9 ∨ adapt = 10
    Safety.tablesOk s = true ∧ gfp ∧ q.replTx = true :=
  ⟨{ unit := 20, port := 5 }, framed {} { on := true, delin := .sync, replTx := true }, by decide +kernel⟩

theorem test_meets_ReplacementCalendarsAndGfp_7 : ∃ (r : PortRef) (rx : Bool) (s : State),
    let u := r.unit.val
    let p := r.port.val
    let k := portKey u p
    let q := portGet s k
    Safety.tablesOk s = true ∧ q.on = true ∧ directionFailed s u p rx = true :=
  ⟨{ unit := 20, port := 5 }, true, framed {} { on := true }, by decide +kernel⟩

theorem test_meets_ReplacementCalendarsAndGfp_8 : ∃ (r : PortRef) (s : State),
    let u := r.unit.val
    let p := r.port.val
    let k := portKey u p
    let q := portGet s k
    let adapt := mapAdapt (mapCfg s u p)
    let gfp := adapt = 9 ∨ adapt = 10
    Safety.tablesOk s = true ∧ (q.on = false ∨ ¬ gfp) :=
  ⟨{ unit := 20, port := 5 }, framed {} {}, by decide +kernel⟩

theorem test_meets_ReplacementCalendarsAndGfp_9 : ∃ (r : PortRef) (w : CtlWrite) (s : State),
    let u := r.unit.val
    let p := r.port.val
    let k := portKey u p
    let q := portGet s k
    Safety.tablesOk s = true ∧ w.value.getLsbD 35 = true ∧ q.calBusy = true :=
  ⟨{ unit := 20, port := 0 }, { origin := owner, value := 0x800000000 }, shim { calBusy := true }, by decide +kernel⟩

theorem test_meets_ReplacementCalendarsAndGfp_10 : ∃ (r : PortRef) (w : CtlWrite) (s : State),
    let u := r.unit.val
    let p := r.port.val
    let k := portKey u p
    let q := portGet s k
    Safety.tablesOk s = true ∧ w.value.getLsbD 35 = true ∧ q.calBusy = false ∧ liveAdapt s u p = 12 ∧ calShapeOk s u p =
      true :=
  ⟨{ unit := 20, port := 0 }, { origin := owner, value := 0x800000000 }, shim {}, by decide +kernel⟩

theorem test_meets_ReplacementCalendarsAndGfp_11 : ∃ (r : PortRef) (w : CtlWrite) (s : State),
    let u := r.unit.val
    let p := r.port.val
    let k := portKey u p
    let q := portGet s k
    let adapt := mapAdapt (mapCfg s u p)
    Safety.tablesOk s = true ∧ w.value.getLsbD 35 = true ∧ q.calBusy = false ∧ (adapt ≠ 12 ∨ calShapeOk s u p = false) :=
  ⟨{ unit := 20, port := 5 }, { origin := owner, value := 0x800000000 }, framed {} {}, by decide +kernel⟩

theorem test_meets_ReplacementCalendarsAndGfp_12 : ∃ (r : PortRef) (s : State),
    let u := r.unit.val
    let p := r.port.val
    let k := portKey u p
    let v := (20, 5)
    let e := { bytes := [1], bad := false }
    let rest := []
    Safety.tablesOk s = true ∧ nextEgress s u p = some v ∧ (portGet s (portKey v.1 v.2)).egress = e :: rest ∧ portKey v.1
      v.2 ≠ k :=
  ⟨{ unit := 20, port := 6 }, framed {} { egress := [{ bytes := [1], bad := false }] }, by decide +kernel⟩

theorem test_meets_FramesEnterAndLeaveClientQueues : ∃ (r : PortRef) (s : State),
    let u := r.unit.val
    let p := r.port.val
    let k := portKey u p
    let v := portGet s k
    let chan := liveAdapt s u p = 11 ∧ v.on = true
    Safety.tablesOk s = true ∧ (¬ chan) :=
  ⟨{ unit := 20, port := 6 }, channel, by decide +kernel⟩

theorem test_meets_FramesEnterAndLeaveClientQueues_2 : ∃ (r : PortRef) (q : CqId) (h : List (Fin 256)) (s : State),
    let u := r.unit.val
    let p := r.port.val
    let k := portKey u p
    let v := portGet s k
    let hd := h.map (·.val)
    let chan := liveAdapt s u p = 11 ∧ v.on = true
    Safety.tablesOk s = true ∧ chan ∧ headerOk hd = false ∧ v.rx = none ∧ (cqGet s q.val).pause = none :=
  ⟨{ unit := 20, port := 6 }, 7, [1, 2, 3], framed { on := true } {}, by decide +kernel⟩

theorem test_meets_FramesEnterAndLeaveClientQueues_3 : ∃ (r : PortRef) (h : List (Fin 256)) (s : State),
    let u := r.unit.val
    let p := r.port.val
    let k := portKey u p
    let v := portGet s k
    let hd := h.map (·.val)
    let n := headerChan hd
    let w2 := cwGet s (cqAddr n 2)
    let chan := liveAdapt s u p = 11 ∧ v.on = true
    let mine := cqOn s n = true ∧ n / 1024 = dieOf u ∧ fld w2 28 23 = u ∧ fld w2 22 15 = p
    Safety.tablesOk s = true ∧ chan ∧ headerOk hd = true ∧ (¬ mine) :=
  ⟨{ unit := 20, port := 6 }, goodHeader 8 60, framed { on := true } {}, by decide +kernel⟩

theorem test_meets_FramesEnterAndLeaveClientQueues_4 : ∃ (r : PortRef) (h : List (Fin 256)) (s : State),
    let u := r.unit.val
    let p := r.port.val
    let k := portKey u p
    let v := portGet s k
    let hd := h.map (·.val)
    let n := headerChan hd
    let w2 := cwGet s (cqAddr n 2)
    let chan := liveAdapt s u p = 11 ∧ v.on = true
    let mine := cqOn s n = true ∧ n / 1024 = dieOf u ∧ fld w2 28 23 = u ∧ fld w2 22 15 = p
    Safety.tablesOk s = true ∧ chan ∧ headerOk hd = true ∧ mine ∧ (headerLen hd < 60 ∨ 9600 < headerLen hd) :=
  ⟨{ unit := 20, port := 6 }, goodHeader 7 59, framed { on := true } {}, by decide +kernel⟩

theorem test_meets_FramesEnterAndLeaveClientQueues_5 : ∃ (r : PortRef) (h : List (Fin 256)) (s : State),
    let u := r.unit.val
    let p := r.port.val
    let k := portKey u p
    let v := portGet s k
    let hd := h.map (·.val)
    let n := headerChan hd
    let w2 := cwGet s (cqAddr n 2)
    let chan := liveAdapt s u p = 11 ∧ v.on = true
    let mine := cqOn s n = true ∧ n / 1024 = dieOf u ∧ fld w2 28 23 = u ∧ fld w2 22 15 = p
    Safety.tablesOk s = true ∧ chan ∧ headerOk hd = true ∧ mine ∧ 60 ≤ headerLen hd ∧ headerLen hd ≤ 9600 :=
  ⟨{ unit := 20, port := 6 }, goodHeader 7 60, framed { on := true } {}, by decide +kernel⟩

theorem test_meets_FramesEnterAndLeaveClientQueues_6 : ∃ (r : PortRef) (s : State),
    let u := r.unit.val
    let p := r.port.val
    let k := portKey u p
    let v := portGet s k
    let chan := liveAdapt s u p = 11 ∧ v.on = true
    let x := ({ queue := none, len := 0, got := 0 } : ChanRx)
    Safety.tablesOk s = true ∧ chan ∧ v.rx = some x ∧ x.queue = none :=
  ⟨{ unit := 20, port := 6 }, framed { on := true, rx := some { queue := none, len := 0, got := 0 } } {}, by decide +kernel⟩

theorem test_meets_FramesEnterAndLeaveClientQueues_7 : ∃ (r : PortRef) (ok : Bool) (s : State),
    let u := r.unit.val
    let p := r.port.val
    let k := portKey u p
    let v := portGet s k
    let chan := liveAdapt s u p = 11 ∧ v.on = true
    let x := ({ queue := some 7, len := 64, got := 64 } : ChanRx)
    let m := 7
    Safety.tablesOk s = true ∧ chan ∧ v.rx = some x ∧ x.queue = some m ∧ x.got = x.len ∧ ok = true :=
  ⟨{ unit := 20, port := 6 }, true, framed { on := true, rx := some { queue := some 7, len := 64, got := 64 } } {},
    by decide +kernel⟩

theorem test_meets_FramesEnterAndLeaveClientQueues_8 : ∃ (r : PortRef) (s : State),
    let u := r.unit.val
    let p := r.port.val
    let k := portKey u p
    let v := portGet s k
    let chan := liveAdapt s u p = 11 ∧ v.on = true
    let x := ({ queue := some 7, len := 64, got := 63 } : ChanRx)
    let m := 7
    let i := { len := 64, bytes := [], wrote := 0, read := 0, complete := false, started := false, bad := false }
    Safety.tablesOk s = true ∧ chan ∧ v.rx = some x ∧ x.queue = some m ∧ x.got ≠ x.len ∧ (cqGet s m).items.getLast? = some i
      ∧ i.started = false :=
  ⟨{ unit := 20, port := 6 },
    queued { on := true, rx := some { queue := some 7, len := 64, got := 63 } } {} { items := [{ len := 64, bytes := [], wrote := 0, read := 0, complete := false, started := false, bad := false }] },
    by decide +kernel⟩

theorem test_meets_FramesEnterAndLeaveClientQueues_9 : ∃ (q : CqId) (s : State),
    let x := true
    Safety.tablesOk s = true ∧ (cqGet s q.val).pause = some x :=
  ⟨7, queued {} {} { pause := some true }, by decide +kernel⟩

theorem test_meets_FramesOfStartedQueuesAreSent : ∃ (r : PortRef) (i : ClientItem) (rest : List ClientItem) (s : State),
    let u := r.unit.val
    let p := r.port.val
    let q := cwFld s (mapAddr u p 1) 21 11
    let c := cqGet s q
    let gfp := liveAdapt s u p = 9 ∨ liveAdapt s u p = 10
    let runs := gfp ∧ (portGet s (portKey u p)).on = true
    Safety.tablesOk s = true ∧ c.items = i :: rest ∧ (¬ runs) ∧ (i.started = false ∨ i.complete = true ∨ i.read ≠ i.wrote)
      :=
  ⟨{ unit := 20, port := 5 },
    { len := 64, bytes := [], wrote := 0, read := 0, complete := false, started := false, bad := false }, [],
    queued {} {} { items := [{ len := 64, bytes := [], wrote := 0, read := 0, complete := false, started := false, bad := false }] },
    by decide +kernel⟩

theorem test_meets_FramesOfStartedQueuesAreSent_2 : ∃ (r : PortRef) (i : ClientItem) (rest : List ClientItem) (s : State),
    let u := r.unit.val
    let p := r.port.val
    let q := cwFld s (mapAddr u p 1) 21 11
    let c := cqGet s q
    let gfp := liveAdapt s u p = 9 ∨ liveAdapt s u p = 10
    let runs := gfp ∧ (portGet s (portKey u p)).on = true
    let may := i.started = true ∨ (mayStart s q i = true ∧ cqOn s q = true)
    Safety.tablesOk s = true ∧ c.items = i :: rest ∧ runs ∧ (¬ may) :=
  ⟨{ unit := 20, port := 5 },
    { len := 64, bytes := [], wrote := 0, read := 0, complete := false, started := false, bad := false }, [],
    queued {} { on := true } { items := [{ len := 64, bytes := [], wrote := 0, read := 0, complete := false, started := false, bad := false }] },
    by decide +kernel⟩

theorem test_meets_FramesOfStartedQueuesAreSent_3 : ∃ (r : PortRef) (lines : Nat) (i : ClientItem) (rest : List ClientItem) (s :
  State),
    let u := r.unit.val
    let p := r.port.val
    let q := cwFld s (mapAddr u p 1) 21 11
    let c := cqGet s q
    let gfp := liveAdapt s u p = 9 ∨ liveAdapt s u p = 10
    let runs := gfp ∧ (portGet s (portKey u p)).on = true
    let may := i.started = true ∨ (mayStart s q i = true ∧ cqOn s q = true)
    let k := min lines (i.wrote - i.read)
    Safety.tablesOk s = true ∧ c.items = i :: rest ∧ runs ∧ may ∧ i.complete = true ∧ i.read + k = i.wrote :=
  ⟨{ unit := 20, port := 5 }, 2,
    { len := 64, bytes := [], wrote := 2, read := 0, complete := true, started := false, bad := false }, [],
    queued {} { on := true } { items := [{ len := 64, bytes := [], wrote := 2, read := 0, complete := true, started := false, bad := false }] },
    by decide +kernel⟩

theorem test_meets_FramesOfStartedQueuesAreSent_4 : ∃ (r : PortRef) (lines : Nat) (i : ClientItem) (rest : List ClientItem) (s :
  State),
    let u := r.unit.val
    let p := r.port.val
    let q := cwFld s (mapAddr u p 1) 21 11
    let c := cqGet s q
    let gfp := liveAdapt s u p = 9 ∨ liveAdapt s u p = 10
    let runs := gfp ∧ (portGet s (portKey u p)).on = true
    let may := i.started = true ∨ (mayStart s q i = true ∧ cqOn s q = true)
    let k := min lines (i.wrote - i.read)
    Safety.tablesOk s = true ∧ c.items = i :: rest ∧ runs ∧ may ∧ (i.complete = false ∨ i.read + k ≠ i.wrote) ∧ gfp ∧
      i.started = true ∧ i.complete = false ∧ i.read = i.wrote :=
  ⟨{ unit := 20, port := 5 }, 0,
    { len := 64, bytes := [], wrote := 2, read := 2, complete := false, started := true, bad := false }, [],
    queued {} { on := true } { items := [{ len := 64, bytes := [], wrote := 2, read := 2, complete := false, started := true, bad := false }] },
    by decide +kernel⟩

theorem test_meets_HostQueueItems : ∃ (q : HqId) (s : State),
    let n := q.val
    Safety.tablesOk s = true ∧ hqOn s n = false :=
  ⟨3, up, by decide +kernel⟩

theorem test_meets_HostQueueItems_2 : ∃ (q : HqId) (item : List Word) (s : State),
    let n := q.val
    let h := hqGet s n
    let lines := (item.length + 7) / 8
    let credit := cwFld s (hqCfgAddr n) 34 34 = 1
    Safety.tablesOk s = true ∧ hqOn s n = true ∧ credit ∧ lines ≤ h.cr :=
  ⟨3, List.replicate 64 1, hosted 0xC00000080 { cr := 8 }, by decide +kernel⟩

theorem test_meets_HostQueueItems_3 : ∃ (q : HqId) (item : List Word) (s : State),
    let n := q.val
    let h := hqGet s n
    let lines := (item.length + 7) / 8
    let credit := cwFld s (hqCfgAddr n) 34 34 = 1
    Safety.tablesOk s = true ∧ hqOn s n = true ∧ credit ∧ h.cr < lines :=
  ⟨3, List.replicate 64 1, hosted 0xC00000080 { cr := 7 }, by decide +kernel⟩

theorem test_meets_HostQueueItems_4 : ∃ (q : HqId) (item : List Word) (s : State),
    let n := q.val
    let h := hqGet s n
    let size := hqSize s n
    let lines := (item.length + 7) / 8
    let free := size - ptrFill size h.rp h.wp
    let credit := cwFld s (hqCfgAddr n) 34 34 = 1
    Safety.tablesOk s = true ∧ hqOn s n = true ∧ (¬ credit) ∧ lines ≤ free :=
  ⟨3, List.replicate 64 1, hosted 0x800000080 {}, by decide +kernel⟩

theorem test_meets_HostQueueItems_5 : ∃ (q : HqId) (item : List Word) (s : State),
    let n := q.val
    let h := hqGet s n
    let size := hqSize s n
    let lines := (item.length + 7) / 8
    let free := size - ptrFill size h.rp h.wp
    let credit := cwFld s (hqCfgAddr n) 34 34 = 1
    let old := List.replicate 64 2
    let rest := []
    let rp := ptrAdvance size h.rp ((old.length + 7) / 8)
    Safety.tablesOk s = true ∧ hqOn s n = true ∧ (¬ credit) ∧ h.items = old :: rest ∧ free < lines ∧ lines ≤ size - ptrFill
      size rp h.wp :=
  ⟨3, List.replicate 64 1,
    hosted 0x800000080 { items := [List.replicate 64 2], rp := { wrap := false, at_ := 63 }, wp := { wrap := true, at_ := 63 } },
    by decide +kernel⟩

theorem test_meets_QueueSetUp : ∃ (q : CqId) (hq : HqId) (w : QueueWrite) (s : State),
    let n := q.val
    let a := cqAddr n w.word.val
    let m := hq.val
    let b := hqAddr m w.word.val
    let hv := w.value &&& BitVec.ofNat 36 ((queueStore 2 w.word.val).getD 0)
    let hplan := cwSet b hv s
    Safety.tablesOk s = true ∧ w.word.val = 0 ∧ cqOn s n = true ∧ fld w.value 34 9 ≠ fld (cwGet s a) 34 9 ∧ (w.word.val ≠ 0
      ∨ hqOn s m = false) ∧ hqStatus hplan m ≠ 0 :=
  ⟨7, 3, { origin := owner, word := 0, value := 0x800000401 }, framed {} {}, by decide +kernel⟩

theorem test_meets_QueueSetUp_2 : ∃ (q : CqId) (w : QueueWrite) (s : State),
    let n := q.val
    let a := cqAddr n w.word.val
    Safety.tablesOk s = true ∧ w.word.val = 0 ∧ cqOn s n = true ∧ fld w.value 34 9 = fld (cwGet s a) 34 9 ∧ w.value.getLsbD
      35 = false ∧ (gfpPortOfQueue s n).isSome = true :=
  ⟨7, { origin := owner, word := 0, value := 0x000000201 }, framed {} {}, by decide +kernel⟩

theorem test_meets_QueueSetUp_3 : ∃ (q : CqId) (w : QueueWrite) (s : State),
    let n := q.val
    let a := cqAddr n w.word.val
    let v := w.value &&& BitVec.ofNat 36 ((queueStore 0 w.word.val).getD 0)
    let plan := cwSet a v s
    Safety.tablesOk s = true ∧ w.word.val = 0 ∧ cqOn s n = false ∧ w.value.getLsbD 35 = true ∧ cqStatus plan n = 0 :=
  ⟨7, { origin := owner, word := 0, value := 0x800000200 }, withCw [(cqAddr 7 0, 0)] (framed {} {}), by decide +kernel⟩

theorem test_meets_QueueSetUp_4 : ∃ (q : CqId) (w : QueueWrite) (s : State),
    let n := q.val
    let a := cqAddr n w.word.val
    let v := w.value &&& BitVec.ofNat 36 ((queueStore 0 w.word.val).getD 0)
    let plan := cwSet a v s
    Safety.tablesOk s = true ∧ (w.word.val ≠ 0 ∨ cqOn s n = false) ∧ cqStatus plan n ≠ 0 :=
  ⟨7, { origin := owner, word := 0, value := 0x800000000 }, withCw [(cqAddr 7 0, 0)] (framed {} {}), by decide +kernel⟩

theorem test_meets_QueueSetUp_5 : ∃ (q : CqId) (w : QueueWrite) (s : State),
    let n := q.val
    Safety.tablesOk s = true ∧ w.word.val = 0 ∧ cqOn s n = false ∧ w.value.getLsbD 35 = false :=
  ⟨7, { origin := owner, word := 0, value := 0 }, up, by decide +kernel⟩

theorem test_meets_QueueSetUp_6 : ∃ (q : CqId) (hq : HqId) (w : QueueWrite) (c : CtlWrite) (s : State),
    let n := q.val
    let a := cqAddr n w.word.val
    let v := w.value &&& BitVec.ofNat 36 ((queueStore 0 w.word.val).getD 0)
    let plan := cwSet a v s
    let m := hq.val
    let b := hqAddr m w.word.val
    let hv := w.value &&& BitVec.ofNat 36 ((queueStore 2 w.word.val).getD 0)
    let hplan := cwSet b hv s
    Safety.tablesOk s = true ∧ w.word.val = 1 ∧ cqStatus plan n = 0 ∧ c = { origin := w.origin, value := w.value } ∧
      hqStatus hplan m = 0 :=
  ⟨7, 3, { origin := owner, word := 1, value := 0x000A0000A }, { origin := owner, value := 0x000A0000A }, framed {} {},
    by decide +kernel⟩

theorem test_meets_QueueSetUp_7 : ∃ (q : CqId) (w : QueueWrite) (s : State),
    let n := q.val
    let a := cqAddr n w.word.val
    let v := w.value &&& BitVec.ofNat 36 ((queueStore 0 w.word.val).getD 0)
    let plan := cwSet a v s
    Safety.tablesOk s = true ∧ w.word.val = 2 ∧ cqStatus plan n = 0 ∧ w.value.getLsbD 29 = false ∧ w.value.getLsbD 35 =
      false :=
  ⟨7, { origin := owner, word := 2, value := 0x00A030000 }, framed {} {}, by decide +kernel⟩

theorem test_meets_QueueSetUp_8 : ∃ (hq : HqId) (w : QueueWrite) (s : State),
    let m := hq.val
    let b := hqAddr m w.word.val
    Safety.tablesOk s = true ∧ w.word.val = 0 ∧ hqOn s m = true ∧ fld w.value 34 7 ≠ fld (cwGet s b) 34 7 :=
  ⟨3, { origin := owner, word := 0, value := 0x800000100 }, hosted 0x800000080 {}, by decide +kernel⟩

theorem test_meets_QueueSetUp_9 : ∃ (hq : HqId) (w : QueueWrite) (s : State),
    let m := hq.val
    let b := hqAddr m w.word.val
    Safety.tablesOk s = true ∧ w.word.val = 0 ∧ hqOn s m = true ∧ fld w.value 34 7 = fld (cwGet s b) 34 7 ∧ w.value.getLsbD
      35 = false :=
  ⟨3, { origin := owner, word := 0, value := 0x000000080 }, hosted 0x800000080 {}, by decide +kernel⟩

theorem test_meets_QueueSetUp_10 : ∃ (hq : HqId) (w : QueueWrite) (s : State),
    let m := hq.val
    let b := hqAddr m w.word.val
    let hv := w.value &&& BitVec.ofNat 36 ((queueStore 2 w.word.val).getD 0)
    let hplan := cwSet b hv s
    Safety.tablesOk s = true ∧ w.word.val = 0 ∧ hqOn s m = false ∧ w.value.getLsbD 35 = true ∧ hqStatus hplan m = 0 :=
  ⟨3, { origin := owner, word := 0, value := 0x800000080 }, hosted 0x000000080 {}, by decide +kernel⟩

theorem test_meets_QueueSetUp_11 : ∃ (hq : HqId) (w : QueueWrite) (s : State),
    let m := hq.val
    let b := hqAddr m w.word.val
    let hv := w.value &&& BitVec.ofNat 36 ((queueStore 2 w.word.val).getD 0)
    let hplan := cwSet b hv s
    Safety.tablesOk s = true ∧ w.word.val = 2 ∧ w.value.getLsbD 35 = true ∧ hqStatus hplan m = 0 :=
  ⟨3, { origin := owner, word := 2, value := 0x800000000 }, hosted 0x800000080 {}, by decide +kernel⟩

theorem test_meets_GroupsAndTheirMembers : ∃ (d : DieId) (g : GroupId) (w : CtlWrite) (c : CtxId) (s : State),
    let st := grpStatus s d.val g.val w.value
    let m := monGet s c.val
    let linked := m.w30.getLsbD 35 = true
    let k := grpGet s d.val g.val
    let cfg := grpCfg s d.val g.val
    Safety.tablesOk s = true ∧ st ≠ 0 ∧ (¬ linked ∨ m.mfBad < 5) ∧ m.mfGood < 2 ∧ (grpOn s d.val g.val = false ∨ loaCause s
      d.val g.val = k.loa) ∧ (¬ linked) ∧ grpLcas s d.val g.val = false ∧ cfg.getLsbD 35 = false :=
  ⟨0, 25, { origin := owner, value := 0x800000000 }, 5, grouped 0 {} {}, by decide +kernel⟩

theorem test_meets_GroupsAndTheirMembers_2 : ∃ (d : DieId) (g : GroupId) (w : CtlWrite) (s : State),
    let st := grpStatus s d.val g.val w.value
    Safety.tablesOk s = true ∧ st = 0 ∧ w.value.getLsbD 35 = false ∧ grpOn s d.val g.val = false :=
  ⟨0, 25, { origin := owner, value := 0x000000000 }, grouped 0 {} {}, by decide +kernel⟩

theorem test_meets_GroupsAndTheirMembers_3 : ∃ (d : DieId) (g : GroupId) (w : CtlWrite) (s : State),
    let st := grpStatus s d.val g.val w.value
    Safety.tablesOk s = true ∧ st = 0 ∧ w.value.getLsbD 35 = true ∧ grpOn s d.val g.val = false :=
  ⟨0, 25, { origin := owner, value := 0x800000800 }, grouped 0 {} {}, by decide +kernel⟩

theorem test_meets_GroupsAndTheirMembers_4 : ∃ (d : DieId) (g : GroupId) (w : CtlWrite) (c : CtxId) (ok : Bool) (s : State),
    let st := grpStatus s d.val g.val w.value
    let m := monGet s c.val
    let linked := m.w30.getLsbD 35 = true
    let k := grpGet s d.val g.val
    Safety.tablesOk s = true ∧ st = 0 ∧ w.value.getLsbD 35 = false ∧ grpOn s d.val g.val = true ∧ linked ∧ 5 ≤ m.mfBad ∧ 2 ≤
      m.mfGood ∧ loaCause s d.val g.val = true ∧ k.loa = false ∧ ok = false :=
  ⟨0, 25, { origin := owner, value := 0x000000800 }, 5, false,
    grouped 0x800000800 { loa := false } { w30 := 0x819000000, w8 := 0x600000000, mlom := true, mfGood := 2, mfBad := 5 },
    by decide +kernel⟩

theorem test_meets_GroupsAndTheirMembers_5 : ∃ (d : DieId) (g : GroupId) (c : CtxId) (ok : Bool) (s : State),
    let k := grpGet s d.val g.val
    let m := monGet s c.val
    let linked := m.w30.getLsbD 35 = true
    Safety.tablesOk s = true ∧ grpOn s d.val g.val = true ∧ loaCause s d.val g.val = false ∧ k.loa = true ∧ k.placed = true
      ∧ linked ∧ ok = true :=
  ⟨0, 25, 5, true,
    linkGroup 0 { loa := true, placed := true, rings := [0], readAt := 0 } { w30 := 0x819000000, w8 := 0x600000000, mlom := false, mfGood := 2, mfBad := 5 },
    by decide +kernel⟩

theorem test_meets_GroupsAndTheirMembers_6 : ∃ (d : DieId) (g : GroupId) (s : State),
    let id := 5
    Safety.tablesOk s = true ∧ grpLcas s d.val g.val = true ∧ membersOf s d.val g.val = [(0, some id)] :=
  ⟨0, 25, sdhGroup { w30 := 0x819000000, w8 := 0x600000000, payload := true, mlom := false }, by decide +kernel⟩

theorem test_meets_GroupReadersArePlacedAndRetimed : ∃ (d : DieId) (g : GroupId) (s : State),
    let k := grpGet s d.val g.val
    let w := grpCfg s d.val g.val
    let members := (membersOf s d.val g.val).filterMap Prod.snd
    let present := members.filter fun id => memberPresent s id
    let late := ((payloadOf s d.val g.val).filter fun id => memberPresent s id).foldl (fun n id => max n (monGet s
      id).delay) 0
    Safety.tablesOk s = true ∧ w.getLsbD 35 = true ∧ k.placed = false ∧ present ≠ [] ∧ (∀ id ∈ present, (monGet s
      id).mfi.isSome = true) ∧ w.getLsbD 10 = true ∧ (k.placed = false ∨ w.getLsbD 10 = true ∨ late ≤ k.readAt) :=
  ⟨0, 25, grouped 0x800000C00 {} { w30 := 0x819000000, w8 := 0x600000000, mlom := false, mfi := some 1, delay := 250000 },
    by decide +kernel⟩

theorem test_meets_GroupReadersArePlacedAndRetimed_2 : ∃ (d : DieId) (g : GroupId) (s : State),
    let k := grpGet s d.val g.val
    let w := grpCfg s d.val g.val
    let members := (membersOf s d.val g.val).filterMap Prod.snd
    let present := members.filter fun id => memberPresent s id
    Safety.tablesOk s = true ∧ w.getLsbD 35 = true ∧ k.placed = false ∧ present ≠ [] ∧ (∀ id ∈ present, (monGet s
      id).mfi.isSome = true) ∧ w.getLsbD 10 = false :=
  ⟨0, 25, grouped 0x800000800 {} { w30 := 0x819000000, w8 := 0x600000000, mlom := false, mfi := some 1, delay := 250000 },
    by decide +kernel⟩

theorem test_meets_GroupReadersArePlacedAndRetimed_3 : ∃ (d : DieId) (g : GroupId) (s : State),
    let k := grpGet s d.val g.val
    let w := grpCfg s d.val g.val
    let members := (membersOf s d.val g.val).filterMap Prod.snd
    let present := members.filter fun id => memberPresent s id
    let late := ((payloadOf s d.val g.val).filter fun id => memberPresent s id).foldl (fun n id => max n (monGet s
      id).delay) 0
    Safety.tablesOk s = true ∧ w.getLsbD 35 = true ∧ (k.placed = true ∨ present = [] ∨ (∃ id ∈ present, (monGet s id).mfi =
      none)) ∧ k.placed = true ∧ w.getLsbD 10 = false ∧ k.readAt < late :=
  ⟨0, 25,
    grouped 0x800000800 { placed := true, readAt := 0 } { w30 := 0x819000000, w8 := 0x600000000, mlom := false, mfi := some 1, delay := 250000 },
    by decide +kernel⟩

theorem test_meets_ProofSetUpAndRings : ∃ (d : DieId) (r : RingId) (p : PairId) (c : CtlWrite) (ecc crc : Bool) (s : State),
    let a := prfCtrlAddr d.val
    let guard := fld c.value 35 29
    let k := ringGet s r.val
    Safety.tablesOk s = true ∧ guard ≠ cwFld s a 35 29 ∧ ringsAllocated s d.val = true ∧ k.pages ≠ 0 ∧ k.freed = false ∧ ecc
      = true ∧ crc = true ∧ k.broke = false ∧ (hlCfg s p.val).getLsbD 35 = true :=
  ⟨0, 0, 313, { origin := owner, value := 0xC80000000 }, true, true, hitless 0x880200000 { wRing := 0, pRing := 1 } [] [],
    by decide +kernel⟩

theorem test_meets_ProofSetUpAndRings_2 : ∃ (d : DieId) (r : RingId) (p : PairId) (c : CtlWrite) (v : Word) (ecc crc : Bool) (s :
  State),
    let a := prfCtrlAddr d.val
    let guard := fld c.value 35 29
    let k := ringGet s r.val
    Safety.tablesOk s = true ∧ (guard = cwFld s a 35 29 ∨ ringsAllocated s d.val = false) ∧ guard ≠ 0 ∧ (guard < 4 ∨ 100 <
      guard) ∧ (k.pages = 0 ∨ k.freed = true) ∧ (ecc = false ∨ crc = false) ∧ (hlCfg s p.val).getLsbD 35 = false ∧ v.getLsbD
      35 = false :=
  ⟨0, 0, 313, { origin := owner, value := 0x060000000 }, 0x7FFFFFFFF, false, true, up, by decide +kernel⟩

theorem test_meets_ProofSetUpAndRings_3 : ∃ (d : DieId) (p : PairId) (c : CtlWrite) (v : Word) (s : State),
    let a := prfCtrlAddr d.val
    let guard := fld c.value 35 29
    let x := 0
    let y := 1
    let rest := []
    Safety.tablesOk s = true ∧ (guard = cwFld s a 35 29 ∨ ringsAllocated s d.val = false) ∧ (guard = 0 ∨ (4 ≤ guard ∧ guard
      ≤ 100)) ∧ (hlCfg s p.val).getLsbD 35 = false ∧ v.getLsbD 35 = true ∧ hlWriteStatus s s p.val 96 v = 0 ∧ freeRings s
      (fld v 17 17) 2 = x :: y :: rest :=
  ⟨0, 313, { origin := owner, value := 0x080000000 }, 0x880200000, up, by decide +kernel⟩

theorem test_meets_ProofSetUpAndRings_4 : ∃ (r : RingId) (s : State),
    let k := ringGet s r.val
    Safety.tablesOk s = true ∧ k.broke = true ∧ pairOfRing s r.val = none :=
  ⟨4095, ringPut 4095 { broke := true } up, by decide +kernel⟩

theorem test_meets_ProofSetUpAndRings_5 : ∃ (p : PairId) (v : Word) (s : State),
    Safety.tablesOk s = true ∧ (hlCfg s p.val).getLsbD 35 = false ∧ v.getLsbD 35 = true ∧ hlWriteStatus s s p.val 96 v ≠ 0
      :=
  ⟨313, 0x800000000, hitless 0 { wRing := 0, pRing := 1 } [] [], by decide +kernel⟩

theorem test_meets_ProofSetUpAndRings_6 : ∃ (r : RingId) (s : State),
    let k := ringGet s r.val
    let x := 313
    Safety.tablesOk s = true ∧ k.broke = true ∧ pairOfRing s r.val = some x :=
  ⟨0, ringPut 0 { broke := true, pages := 1 } (hitless 0 { wRing := 0, pRing := 1 } [] []), by decide +kernel⟩

theorem test_meets_HitlessPairsAlign : ∃ (p : PairId) (s : State),
    let n := p.val
    let h := hlGet s n
    let w := ringGet s h.wRing
    let q := ringGet s h.pRing
    let live := (hlCfg s n).getLsbD 35 = true
    let ready := live ∧ 8 ≤ w.cont ∧ 8 ≤ q.cont ∧ h.map = none
    let d := 0
    Safety.tablesOk s = true ∧ ready ∧ attempt s n = .offset d ∧ h.noneRun < 64 ∧ (h.mapped = true ∨ confirmVerdict s n =
      none) ∧ (h.mapped = false ∨ h.diffRun < 8) ∧ live ∧ (h.recentre = false ∨ bothMapped s n = false) :=
  ⟨313, hitless 0x880200000 { wRing := 0, pRing := 1 } (frames 8 100) (frames 8 100), by decide +kernel⟩

theorem test_meets_HitlessPairsAlign_2 : ∃ (p : PairId) (s : State),
    let n := p.val
    let h := hlGet s n
    let w := ringGet s h.wRing
    let q := ringGet s h.pRing
    let live := (hlCfg s n).getLsbD 35 = true
    let ready := live ∧ 8 ≤ w.cont ∧ 8 ≤ q.cont ∧ h.map = none
    Safety.tablesOk s = true ∧ ready ∧ attempt s n = .none ∧ 64 ≤ h.noneRun :=
  ⟨313, hitless 0x880200000 { wRing := 0, pRing := 1, noneRun := 64 } (frames 8 100) (frames 8 200), by decide +kernel⟩

theorem test_meets_HitlessPairsAlign_3 : ∃ (p : PairId) (s : State),
    let n := p.val
    let h := hlGet s n
    let w := ringGet s h.wRing
    let q := ringGet s h.pRing
    let live := (hlCfg s n).getLsbD 35 = true
    let ready := live ∧ 8 ≤ w.cont ∧ 8 ≤ q.cont ∧ h.map = none
    Safety.tablesOk s = true ∧ ready ∧ attempt s n = .range ∧ h.mapped = true ∧ 8 ≤ h.diffRun :=
  ⟨313, hitless 0x800200000 { wRing := 0, pRing := 1, mapped := true, diffRun := 8 } (frames 9 100) (frames 8 100),
    by decide +kernel⟩

theorem test_meets_HitlessPairsAlign_4 : ∃ (p : PairId) (s : State),
    let n := p.val
    let h := hlGet s n
    let w := ringGet s h.wRing
    let q := ringGet s h.pRing
    let live := (hlCfg s n).getLsbD 35 = true
    let ready := live ∧ 8 ≤ w.cont ∧ 8 ≤ q.cont ∧ h.map = none
    Safety.tablesOk s = true ∧ ready ∧ (attempt s n = .ambig ∨ fpRepeat (w.frames.take 8) = true ∨ fpRepeat (q.frames.take
      8) = true) ∧ h.recentre = true ∧ bothMapped s n = true :=
  ⟨313,
    hitless 0x880200000 { wRing := 0, pRing := 1, mapped := true, diffRun := 7, recentre := true } (frames 8 100 |>.map fun f => { f with fp := 7 }) (frames 8 100),
    by decide +kernel⟩

theorem test_meets_HitlessPairsAlign_5 : ∃ (p : PairId) (s : State),
    let n := p.val
    let h := hlGet s n
    let w := ringGet s h.wRing
    let q := ringGet s h.pRing
    let live := (hlCfg s n).getLsbD 35 = true
    let ready := live ∧ 8 ≤ w.cont ∧ 8 ≤ q.cont ∧ h.map = none
    Safety.tablesOk s = true ∧ (¬ ready) ∧ (¬ live) :=
  ⟨313, hitless 0 { wRing := 0, pRing := 1 } (frames 8 100) (frames 8 100), by decide +kernel⟩

theorem test_meets_HitlessPairsAlign_6 : ∃ (p : PairId) (s : State),
    let n := p.val
    let h := hlGet s n
    Safety.tablesOk s = true ∧ h.mapped = false ∧ confirmVerdict s n = some true ∧ h.fresh = true ∧ (h.output = false ∨
      (hlCfg s n).getLsbD 19 = true) :=
  ⟨313,
    hitless 0x880200000 { wRing := 0, pRing := 1, map := some 0, foundW := 2, foundP := 2 } (frames 10 100) (frames 10 100),
    by decide +kernel⟩

theorem test_meets_HitlessPairsAlign_7 : ∃ (p : PairId) (s : State),
    let n := p.val
    let h := hlGet s n
    Safety.tablesOk s = true ∧ h.mapped = false ∧ confirmVerdict s n = some false :=
  ⟨313,
    hitless 0x880200000 { wRing := 0, pRing := 1, map := some 0, foundW := 2, foundP := 2 } (frames 10 100) (frames 10 200),
    by decide +kernel⟩

theorem test_meets_HitlessPairsAlign_8 : ∃ (p : PairId) (s : State),
    let n := p.val
    let h := hlGet s n
    Safety.tablesOk s = true ∧ h.mapped = false ∧ confirmVerdict s n = some true ∧ h.fresh = false :=
  ⟨313,
    hitless 0x880200000 { wRing := 0, pRing := 1, map := some 0, foundW := 2, foundP := 2, fresh := false } (frames 10 100) (frames 10 100),
    by decide +kernel⟩

theorem test_meets_ResizesRunInSteps : ∃ (d : DieId) (i : Fin 32) (c : CarrierRef) (w : CtlWrite) (s : State),
    let k := d.val * 32 + i.val
    let r := rszGet s k
    let was := (rszCfg s k).getLsbD 35 = true
    let waits := was ∧ r.step = 1 ∧ r.wantSwap = false
    let x := dieDeck s d.val
    let due := fun n => x.pending = true ∧ x.eligible = true ∧ n ∈ carriersOf s d.val ∧ n ∉ x.changed
    Safety.tablesOk s = true ∧ fld w.value 34 33 = 3 ∧ (¬ waits) ∧ (¬ was ∨ r.step ≠ 3) ∧ (¬ due (carrierNum c)) ∧ x.pending
      = false :=
  ⟨0, 3, .port { unit := 20, port := 1 }, { origin := owner, value := 0xE00000000 }, resizing3 0 {}, by decide +kernel⟩

theorem test_meets_ResizesRunInSteps_2 : ∃ (d : DieId) (i : Fin 32) (w : CtlWrite) (s : State),
    let k := d.val * 32 + i.val
    let a := rszAddr k 0
    let was := (rszCfg s k).getLsbD 35 = true
    let go := putFld w.value 17 17 1
    let plan := fun (v : Word) => cwSet a (v &&& 0xFFFFC0000) s
    let r := rszGet s k
    Safety.tablesOk s = true ∧ fld w.value 34 33 ≠ 3 ∧ was ∧ w.value.getLsbD 35 = true ∧ w.value.getLsbD 16 = false ∧
      rszIdle s k = true ∧ rszTimerFree (plan go) k = true ∧ r.step ≠ 1 ∧ rszSettled s k = true :=
  ⟨0, 3, { origin := owner, value := 0x950060000 }, resizing3 0x950040000 {}, by decide +kernel⟩

theorem test_meets_ResizesRunInSteps_3 : ∃ (d : DieId) (i : Fin 32) (w : CtlWrite) (s : State),
    let k := d.val * 32 + i.val
    let was := (rszCfg s k).getLsbD 35 = true
    let r := rszGet s k
    let waits := was ∧ r.step = 1 ∧ r.wantSwap = false
    Safety.tablesOk s = true ∧ fld w.value 34 33 ≠ 3 ∧ was ∧ w.value.getLsbD 35 = true ∧ w.value.getLsbD 16 = false ∧
      rszIdle s k = false ∧ r.step = 1 ∧ waits :=
  ⟨0, 3, { origin := owner, value := 0x950060000 }, resizing3 0x950040000 { step := 1 }, by decide +kernel⟩

theorem test_meets_ResizesRunInSteps_4 : ∃ (d : DieId) (i : Fin 32) (w : CtlWrite) (s : State),
    let k := d.val * 32 + i.val
    let was := (rszCfg s k).getLsbD 35 = true
    let r := rszGet s k
    Safety.tablesOk s = true ∧ fld w.value 34 33 ≠ 3 ∧ was ∧ rszSettled s k = false ∧ r.step = 3 :=
  ⟨0, 3, { origin := owner, value := 0x950050000 }, resizing3 0x950040000 { step := 3, eff := some [1] }, by decide +kernel⟩

theorem test_meets_ResizesRunInSteps_5 : ∃ (d : DieId) (i : Fin 32) (w : CtlWrite) (s : State),
    let k := d.val * 32 + i.val
    let a := rszAddr k 0
    let was := (rszCfg s k).getLsbD 35 = true
    let go := putFld w.value 17 17 1
    let plan := fun (v : Word) => cwSet a (v &&& 0xFFFFC0000) s
    Safety.tablesOk s = true ∧ fld w.value 34 33 ≠ 3 ∧ was ∧ w.value.getLsbD 35 = true ∧ w.value.getLsbD 16 = false ∧
      rszIdle s k = true ∧ rszTimerFree (plan go) k = false :=
  ⟨0, 3, { origin := owner, value := 0x950060000 }, crowded { eff := some [] }, by decide +kernel⟩

theorem test_meets_ResizesRunInSteps_6 : ∃ (d : DieId) (c : CarrierRef) (s : State),
    let x := dieDeck s d.val
    let due := fun n => x.pending = true ∧ x.eligible = true ∧ n ∈ carriersOf s d.val ∧ n ∉ x.changed
    let n := portCarrier 20 1
    Safety.tablesOk s = true ∧ due (carrierNum c) ∧ carriersOf s d.val = [n] ∧ due n :=
  ⟨0, .port { unit := 20, port := 1 },
    dieDeckPut 0 { dieDeck (carrying) 0 with pending := true, eligible := true } carrying, by decide +kernel⟩

theorem test_meets_ProtectionRequestsLand : ∃ (p : PairId) (s : State),
    let n := p.val
    let k := prtGet s n
    let takes := prtOn s n = true ∧ isDriven s n = false ∧ k.causes = 0
    (¬ takes) :=
  ⟨512, up, by decide +kernel⟩

theorem test_meets_ProtectionRequestsLand_2 : ∃ (p : PairId) (s : State),
    let n := p.val
    let k := prtGet s n
    let takes := prtOn s n = true ∧ isDriven s n = false ∧ k.causes = 0
    takes ∧ prtFollows s n = true :=
  ⟨512, protecting 0x900B02800 0x000000800 0x880000000 {} 0 0, by decide +kernel⟩

theorem test_meets_ProtectionRequestsLand_3 : ∃ (p : PairId) (s : State),
    let n := p.val
    let k := prtGet s n
    let takes := prtOn s n = true ∧ isDriven s n = false ∧ k.causes = 0
    let own := takes ∧ prtFollows s n = false
    let command := k.gov = 10 ∨ k.gov = 8 ∨ k.gov = 5 ∨ k.gov = 3
    own ∧ (¬ command) ∧ k.gov ≠ 10 ∧ k.gov ≠ 9 ∧ k.gov ≤ 5 ∧ k.gov ≤ 3 ∧ archOf s n ≠ 0 ∧ (k.wtr = true ∨ freeTimers s
      (prtCluster s n) ≠ 0) :=
  ⟨512, pairUp { gov := 0 }, by decide +kernel⟩

theorem test_meets_ProtectionRequestsLand_4 : ∃ (p : PairId) (s : State),
    let n := p.val
    let k := prtGet s n
    let takes := prtOn s n = true ∧ isDriven s n = false ∧ k.causes = 0
    let own := takes ∧ prtFollows s n = false
    let command := k.gov = 10 ∨ k.gov = 8 ∨ k.gov = 5 ∨ k.gov = 3
    own ∧ command :=
  ⟨512, noTimers (pairUp { gov := 3 , wtr := false }), by decide +kernel⟩

theorem test_meets_ProtectionRequestsLand_5 : ∃ (p : PairId) (s : State),
    let n := p.val
    let k := prtGet s n
    let takes := prtOn s n = true ∧ isDriven s n = false ∧ k.causes = 0
    let own := takes ∧ prtFollows s n = false
    let command := k.gov = 10 ∨ k.gov = 8 ∨ k.gov = 5 ∨ k.gov = 3
    own ∧ (¬ command) ∧ k.wtr = false ∧ freeTimers s (prtCluster s n) = 0 :=
  ⟨512, noTimers (pairUp { gov := 0 , wtr := false }), by decide +kernel⟩

theorem test_meets_ProtectionRequestsLand_6 : ∃ (p : PairId) (s : State),
    let n := p.val
    let k := prtGet s n
    let takes := prtOn s n = true ∧ isDriven s n = false ∧ k.causes = 0
    let own := takes ∧ prtFollows s n = false
    own ∧ (k.gov = 10 ∨ k.gov = 9) ∧ 5 < k.gov ∧ (3 < k.gov ∨ archOf s n = 0) :=
  ⟨512, pairUp { gov := 10 }, by decide +kernel⟩

theorem test_meets_ProtectionTimersAndFastPath : ∃ (p : PairId) (protect : Bool) (s : State),
    let n := p.val
    let k := prtGet s n
    let onset := pairRuns s n = true ∧ prtHoldoff s n ≠ 0 ∧ pathBad s n protect = true ∧ hoRunning k protect = false ∧
      hoDone k protect = false
    Safety.tablesOk s = true ∧ onset ∧ 0 < freeTimers s (prtCluster s n) ∧ hoRunning k protect = false ∧ (k.wtr = false ∨
      k.gov ≠ 4 ∨ 125 < k.wtrUs ∨ k.wtrExp = true) ∧ (k.waits = false ∨ pairRuns s n = false ∨ k.causes ≠ 0) ∧ (archOf s n =
      0 ∨ k.farSig = k.govSig ∨ k.gov = 3 ∨ k.far = 3) ∧ k.held = false :=
  ⟨512, false, protecting 0x904B02800 0 0x880000000 { held := false } (2 ^ Df.tsf) 0, by decide +kernel⟩

theorem test_meets_ProtectionTimersAndFastPath_2 : ∃ (p : PairId) (protect : Bool) (s : State),
    let n := p.val
    let k := prtGet s n
    let onset := pairRuns s n = true ∧ prtHoldoff s n ≠ 0 ∧ pathBad s n protect = true ∧ hoRunning k protect = false ∧
      hoDone k protect = false
    Safety.tablesOk s = true ∧ onset ∧ freeTimers s (prtCluster s n) = 0 :=
  ⟨512, false, noTimers (protecting 0x904B02800 0 0x880000000 { held := false } (2 ^ Df.tsf) 0), by decide +kernel⟩

theorem test_meets_ProtectionTimersAndFastPath_3 : ∃ (p : PairId) (protect : Bool) (s : State),
    let n := p.val
    let k := prtGet s n
    let onset := pairRuns s n = true ∧ prtHoldoff s n ≠ 0 ∧ pathBad s n protect = true ∧ hoRunning k protect = false ∧
      hoDone k protect = false
    Safety.tablesOk s = true ∧ (¬ onset) ∧ hoRunning k protect = true ∧ k.wtr = true ∧ k.gov = 4 ∧ k.wtrUs ≤ 125 ∧ k.wtrExp
      = false ∧ k.waits = true ∧ pairRuns s n = true ∧ k.causes = 0 ∧ archOf s n ≠ 0 ∧ k.farSig ≠ k.govSig ∧ k.gov ≠ 3 ∧
      k.far ≠ 3 ∧ k.fopNr = false :=
  ⟨512, true, pairUp { hoP := true, wtr := true, gov := 4, wtrUs := 125, held := false, waits := true, farSig := true },
    by decide +kernel⟩

theorem test_meets_ProtectionTimersAndFastPath_4 : ∃ (p : PairId) (s : State),
    let n := p.val
    let k := prtGet s n
    let evaluates := k.causes = 0 ∧ prtOn s n = true ∧ (selEntry s n).getLsbD 35 = true ∧ isDriven s n = false
    Safety.tablesOk s = true ∧ (¬ evaluates) :=
  ⟨512, up, by decide +kernel⟩

theorem test_meets_ProtectionTimersAndFastPath_5 : ∃ (p : PairId) (limit : Bool) (s : State),
    let n := p.val
    let k := prtGet s n
    let evaluates := k.causes = 0 ∧ prtOn s n = true ∧ (selEntry s n).getLsbD 35 = true ∧ isDriven s n = false
    Safety.tablesOk s = true ∧ k.held = true ∧ pathTsf s n false = false ∧ pathTsd s n false = false ∧ pathTsf s n true =
      false ∧ pathTsd s n true = false ∧ k.gov ≠ 4 ∧ limit = false ∧ evaluates ∧ prtFollows s n = false :=
  ⟨512, false, pairUp { held := true, gov := 5 }, by decide +kernel⟩

theorem test_meets_ProtectionTimersAndFastPath_6 : ∃ (p : PairId) (s : State),
    let n := p.val
    let k := prtGet s n
    let evaluates := k.causes = 0 ∧ prtOn s n = true ∧ (selEntry s n).getLsbD 35 = true ∧ isDriven s n = false
    Safety.tablesOk s = true ∧ evaluates ∧ prtFollows s n = true :=
  ⟨512, protecting 0x900B02800 0x000000800 0x880000000 { held := false } 0 0, by decide +kernel⟩

theorem test_meets_ProtectionTimersAndFastPath_7 : ∃ (p : PairId) (s : State),
    let n := p.val
    let k := prtGet s n
    let evaluates := k.causes = 0 ∧ prtOn s n = true ∧ (selEntry s n).getLsbD 35 = true ∧ isDriven s n = false
    let h := localRequest s n
    let sig := true
    let d := 0
    Safety.tablesOk s = true ∧ evaluates ∧ prtFollows s n = false ∧ k.held = false ∧ archOf s n = 0 ∧ k.gov < h.1 ∧ h.2 =
      some sig ∧ pathSf s n true = false ∧ pathSf s n false = true ∧ homeDie s n = some d ∧ selOf s d n ≠ k.govSig ∧
      (selInUse s n).getLsbD 34 = false :=
  ⟨512, protecting 0x900B02800 0 0x800000000 { held := false, govSig := true } (2 ^ Df.tsf) 0, by decide +kernel⟩

theorem test_meets_ProtectionTimersAndFastPath_8 : ∃ (p : PairId) (s : State),
    let n := p.val
    let k := prtGet s n
    let evaluates := k.causes = 0 ∧ prtOn s n = true ∧ (selEntry s n).getLsbD 35 = true ∧ isDriven s n = false
    let h := localRequest s n
    Safety.tablesOk s = true ∧ evaluates ∧ prtFollows s n = false ∧ k.held = false ∧ archOf s n = 0 ∧ h.1 ≤ k.gov ∧ pathSf s
      n true = true :=
  ⟨512, protecting 0x900B02800 0 0x800000000 { held := false, gov := 9 } 0 (2 ^ Df.tsf), by decide +kernel⟩

theorem test_meets_ProtectionAndDeckSetUp : ∃ (p : PairId) (w : PrtWrite) (d : DieId) (r : RegionId) (b : Fin 64) (c : CtlWrite) (s
  : State),
    let n := p.val
    let a := pairAddr n w.word.val
    let v := w.value &&& prtMask w.word.val
    let plan := cwSet a v s
    let st := prtStatus s plan s n w.word.val w.value
    let slot := fld c.value 33 19
    let slotOk := slot % 0x4000 ≤ 10239 ∧ deckDie slot = d.val
    let on := c.value.getLsbD 35 = true
    let tests := s.mode = .provision ∨ s.mode = .active ∨ s.mode = .test
    let ba := blkAddr r.val b.val
    let bv := c.value &&& 0xFFFFFFFF8
    let bs := blkStatus (cwSet ba bv s) r.val b.val
    Safety.tablesOk s = true ∧ st ≠ 0 ∧ (¬ on ∨ (tests ∧ slotOk ∧ (deckEntry s false (deckMain slot)).getLsbD 35 = false)) ∧
      (¬ on ∨ (tests ∧ slotOk)) ∧ allChanged s d.val = false ∧ (cwGet s ba).getLsbD 35 = false ∧ bs = 0 :=
  ⟨512, { origin := owner, word := 0, value := 0xFFFFFFFFF }, 0, 0, 0, { origin := owner, value := 0 }, up,
    by decide +kernel⟩

theorem test_meets_ProtectionAndDeckSetUp_2 : ∃ (p : PairId) (w : PrtWrite) (r : RegionId) (b : Fin 64) (c : CtlWrite) (s : State),
    let n := p.val
    let a := pairAddr n w.word.val
    let v := w.value &&& prtMask w.word.val
    let plan := cwSet a v s
    let st := prtStatus s plan s n w.word.val w.value
    let on := c.value.getLsbD 35 = true
    let tests := s.mode = .provision ∨ s.mode = .active ∨ s.mode = .test
    let ba := blkAddr r.val b.val
    let bv := c.value &&& 0xFFFFFFFF8
    let bs := blkStatus (cwSet ba bv s) r.val b.val
    Safety.tablesOk s = true ∧ st = 0 ∧ w.word.val ≠ 0 ∧ on ∧ (¬ tests) ∧ (cwGet s ba).getLsbD 35 = false ∧ bs ≠ 0 :=
  ⟨512, { origin := owner, word := 2, value := 0 }, 0, 0, { origin := owner, value := 0x800000000 },
    { up with mode := .standby }, by decide +kernel⟩

theorem test_meets_ProtectionAndDeckSetUp_3 : ∃ (p : PairId) (w : PrtWrite) (d : DieId) (c : CtlWrite) (s : State),
    let n := p.val
    let a := pairAddr n w.word.val
    let v := w.value &&& prtMask w.word.val
    let plan := cwSet a v s
    let st := prtStatus s plan s n w.word.val w.value
    let slot := fld c.value 33 19
    let slotOk := slot % 0x4000 ≤ 10239 ∧ deckDie slot = d.val
    let on := c.value.getLsbD 35 = true
    let tests := s.mode = .provision ∨ s.mode = .active ∨ s.mode = .test
    Safety.tablesOk s = true ∧ st = 0 ∧ w.word.val = 0 ∧ prtOn s n = false ∧ on ∧ tests ∧ (¬ slotOk) :=
  ⟨512, { origin := owner, word := 0, value := 0 }, 0, { origin := owner, value := 0x9400FFFFF }, up, by decide +kernel⟩

theorem test_meets_ProtectionAndDeckSetUp_4 : ∃ (d : DieId) (s : State),
    Safety.tablesOk s = true ∧ allChanged s d.val = true ∧ rszArmed s d.val none = [] :=
  ⟨0, dieDeckPut 0 { dieDeck up 0 with pending := true, eligible := true } up, by decide +kernel⟩

theorem test_meets_ProtectionAndDeckSetUp_5 : ∃ (d : DieId) (c : CtlWrite) (s : State),
    let slot := fld c.value 33 19
    let slotOk := slot % 0x4000 ≤ 10239 ∧ deckDie slot = d.val
    let on := c.value.getLsbD 35 = true
    let tests := s.mode = .provision ∨ s.mode = .active ∨ s.mode = .test
    Safety.tablesOk s = true ∧ on ∧ tests ∧ slotOk ∧ (deckEntry s false (deckMain slot)).getLsbD 35 = true :=
  ⟨0, { origin := owner, value := 0x800000000 }, up.putDeck (tabSet 0 up.deck (deckKey up false (deckMain 0)) 0x800000000),
    by decide +kernel⟩

theorem test_meets_ProtectionAndDeckSetUp_6 : ∃ (r : RegionId) (b : Fin 64) (c : CtlWrite) (s : State),
    let ba := blkAddr r.val b.val
    let bv := c.value &&& 0xFFFFFFFF8
    Safety.tablesOk s = true ∧ (cwGet s ba).getLsbD 35 = true ∧ bv ≠ putFld (cwGet s ba) 35 35 0 ∧ bv ≠ cwGet s ba :=
  ⟨0, 63, { origin := owner, value := 0xC00000008 }, withCw [(blkAddr 0 63, 0xC00000010)] up, by decide +kernel⟩

theorem test_meets_FiltersBinsAndDefects : ∃ (word : Fin 2) (w : CtlWrite) (r : StreamRef) (x : CtxId) (d : Fin 36) (back : Bool)
  (s : State),
    let bad := word.val = 0 ∧ fld w.value 32 29 = 1
    let q := fld w.value 32 10
    let day := fld w.value 9 3
    let f := frmCfg s r.unit.val r.num.val
    let m := monGet s x.val
    Safety.tablesOk s = true ∧ bad ∧ w.value.getLsbD 35 = true ∧ q ≤ 7199999 ∧ day ≤ 95 ∧ (frmLive f = false ∨
      (signalMissing s r = false ∧ frmProto f ≠ 3)) ∧ (frmLive f = false ∨ signalMissing s r = true) ∧ declareMet s x.val
      d.val = false ∧ clearMet s x.val d.val = false ∧ actionDue m back = false ∧ cwFld s (ctlAddr clsCen 0 0x86) 35 35 ≠ 1
      ∧ s.captures = 0 :=
  ⟨0, { origin := owner, value := 0x820000000 }, { unit := 1, num := 0 }, 5, 0, true, up, by decide +kernel⟩

theorem test_meets_FiltersBinsAndDefects_2 : ∃ (word : Fin 2) (w : CtlWrite) (s : State),
    let bad := word.val = 0 ∧ fld w.value 32 29 = 1
    let kind := word.val = 0 ∧ 2 ≤ fld w.value 34 33
    Safety.tablesOk s = true ∧ kind ∧ (¬ bad) ∧ w.value.getLsbD 35 = false :=
  ⟨0, { origin := owner, value := 0x400000000 }, up, by decide +kernel⟩

theorem test_meets_FiltersBinsAndDefects_3 : ∃ (word : Fin 2) (w : CtlWrite) (r : StreamRef) (s : State),
    let bad := word.val = 0 ∧ fld w.value 32 29 = 1
    let kind := word.val = 0 ∧ 2 ≤ fld w.value 34 33
    let q := fld w.value 32 10
    let day := fld w.value 9 3
    let f := frmCfg s r.unit.val r.num.val
    Safety.tablesOk s = true ∧ (¬ bad) ∧ (¬ kind) ∧ w.value.getLsbD 35 = true ∧ (7199999 < q ∨ 95 < day) ∧ frmLive f = true
      ∧ (signalMissing s r = true ∨ frmProto f = 3) ∧ signalMissing s r = false :=
  ⟨0, { origin := owner, value := 0x9B7740000 }, { unit := 1, num := 0 }, streaming, by decide +kernel⟩

theorem test_meets_FiltersBinsAndDefects_4 : ∃ (s : State),
    Safety.tablesOk s = true ∧ 0 < s.captures :=
  ⟨{ withCw [(frmAddr 1 0 0, 0x880014000)] streaming with captures := 3 }, by decide +kernel⟩

theorem test_meets_FiltersBinsAndDefects_5 : ∃ (x : CtxId) (d : Fin 36) (s : State),
    Safety.tablesOk s = true ∧ clearMet s x.val d.val = true ∧ cwFld s (ctlAddr clsCen 0 0x86) 35 35 = 1 :=
  ⟨5, ⟨Df.tim, by decide⟩, withCw [(ctlAddr clsCen 0 0x86, 0x800000000)] (monPut 5 { w8 := 0x180000000 } streaming),
    by decide +kernel⟩

theorem test_meets_FiltersBinsAndDefects_6 : ∃ (x : CtxId) (back : Bool) (s : State),
    let m := monGet s x.val
    Safety.tablesOk s = true ∧ actionDue m back = true :=
  ⟨5, false, monPut 5 { w8 := 0x180000000, defs := 2 ^ Df.ais } streaming, by decide +kernel⟩

theorem test_meets_FiltersBinsAndDefects_7 : ∃ (x : CtxId) (d : Fin 36) (s : State),
    Safety.tablesOk s = true ∧ declareMet s x.val d.val = true :=
  ⟨5, ⟨Df.bdi, by decide⟩,
    monPut 5 { w8 := 0x80000000, setRun := (List.range 36).map fun i => (i, 255), clrRun := (List.range 36).map fun i => (i, 255) } streaming,
    by decide +kernel⟩

theorem test_meets_ReceivedFramesAreMonitored : ∃ (c : CtxId) (cp : Capture) (s : State),
    let id := c.val
    let k := monGet s id
    let layer := monLayer k
    let seen := layer ≠ 0 ∧ ctxInFrame s id = true
    Safety.tablesOk s = true ∧ seen ∧ 1 ≤ layer ∧ layer ≤ 9 ∧ capturable layer cp = true ∧ cp.field.val ≠ 0x0E ∧ defOn k
      Df.ssf = false ∧ k.w30.getLsbD 35 = true :=
  ⟨5, { field := 7, word := 0, value := 1 }, watched { w8 := 0x180000000, w30 := 0x800000000 } 0 {}, by decide +kernel⟩

theorem test_meets_ReceivedFramesAreMonitored_2 : ∃ (c : CtxId) (q : PortRx) (s : State),
    let id := c.val
    let k := monGet s id
    let layer := monLayer k
    let seen := layer ≠ 0 ∧ ctxInFrame s id = true
    let adapt := liveAdapt s q.port.unit.val q.port.port.val
    Safety.tablesOk s = true ∧ (¬ seen) ∧ (adapt = 5 ∨ adapt = 6) :=
  ⟨5, { port := { unit := 20, port := 6 }, cmBad := true, idleIns := 1, idleDel := 1, blkErr := 1 },
    withCw [(mapAddr 20 6 0, 0xA80000000)] up, by decide +kernel⟩

theorem test_meets_FilterCellsAcceptAfterNOccurrences : ∃ (c : ClusterId) (i : Fin 2048) (s : State),
    let k := cellKey c.val i.val
    let w := cellCfg s k
    let q := cellGet s k
    Safety.tablesOk s = true ∧ w.getLsbD 35 = false ∧ (w.getLsbD 35 = false ∨ q.below < 12) :=
  ⟨0, 2047, watched { w8 := 0x180000000 } 0x060028E00 {}, by decide +kernel⟩

theorem test_meets_FilterCellsAcceptAfterNOccurrences_2 : ∃ (c : ClusterId) (i : Fin 2048) (s : State),
    let k := cellKey c.val i.val
    let w := cellCfg s k
    let id := cellCtx w
    let m := monGet s id
    let held := (∃ d, d ∈ [Df.ssf, Df.los, Df.lof, Df.lom, Df.ais] ∧ defOn m d = true) ∨ ctxInFrame s id = false
    let q := cellGet s k
    Safety.tablesOk s = true ∧ w.getLsbD 35 = true ∧ held ∧ 12 ≤ q.below :=
  ⟨0, 2047, watched { w8 := 0x180000000 } 0x8600A8E00 { below := 12 }, by decide +kernel⟩

theorem test_meets_FilterCellsAcceptAfterNOccurrences_3 : ∃ (c : ClusterId) (i : Fin 2048) (s : State),
    let k := cellKey c.val i.val
    let w := cellCfg s k
    let q := cellGet s k
    let id := cellCtx w
    let field := fld w 14 9
    let n := cellN w
    let m := monGet s id
    let held := (∃ d, d ∈ [Df.ssf, Df.los, Df.lof, Df.lom, Df.ais] ∧ defOn m d = true) ∨ ctxInFrame s id = false
    let word := ohWord s id field (fld w 8 3)
    let mask := cwGet s (cellAddr (k / 2048) (k % 2048) 1)
    let run := if q.prev.map (fun p => p.map (· &&& mask)) = some [word &&& mask] then min (q.run + 1) n else 1
    let single := w.getLsbD 35 = true ∧ ¬ held ∧ fld w 34 33 = 0
    Safety.tablesOk s = true ∧ single ∧ run < n :=
  ⟨0, 2047, watched { w8 := 0x180000000 } 0x860028E00 { run := 1, prev := some [0] }, by decide +kernel⟩

theorem test_meets_FilterCellsAcceptAfterNOccurrences_4 : ∃ (c : ClusterId) (i : Fin 2048) (s : State),
    let k := cellKey c.val i.val
    let w := cellCfg s k
    let q := cellGet s k
    let id := cellCtx w
    let field := fld w 14 9
    let n := cellN w
    let m := monGet s id
    let held := (∃ d, d ∈ [Df.ssf, Df.los, Df.lof, Df.lom, Df.ais] ∧ defOn m d = true) ∨ ctxInFrame s id = false
    let word := ohWord s id field (fld w 8 3)
    let mask := cwGet s (cellAddr (k / 2048) (k % 2048) 1)
    let run := if q.prev.map (fun p => p.map (· &&& mask)) = some [word &&& mask] then min (q.run + 1) n else 1
    let single := w.getLsbD 35 = true ∧ ¬ held ∧ fld w 34 33 = 0
    Safety.tablesOk s = true ∧ single ∧ n ≤ run ∧ q.valid = true ∧ word &&& mask = q.acc &&& mask :=
  ⟨0, 2047, watched { w8 := 0x180000000 } 0x860028E00 { run := 2, prev := some [0], valid := true }, by decide +kernel⟩

theorem test_meets_FilterCellsAcceptAfterNOccurrences_5 : ∃ (c : ClusterId) (i : Fin 2048) (s : State),
    let k := cellKey c.val i.val
    let w := cellCfg s k
    let q := cellGet s k
    let id := cellCtx w
    let field := fld w 14 9
    let n := cellN w
    let m := monGet s id
    let held := (∃ d, d ∈ [Df.ssf, Df.los, Df.lof, Df.lom, Df.ais] ∧ defOn m d = true) ∨ ctxInFrame s id = false
    let word := ohWord s id field (fld w 8 3)
    let mask := cwGet s (cellAddr (k / 2048) (k % 2048) 1)
    let run := if q.prev.map (fun p => p.map (· &&& mask)) = some [word &&& mask] then min (q.run + 1) n else 1
    let single := w.getLsbD 35 = true ∧ ¬ held ∧ fld w 34 33 = 0
    Safety.tablesOk s = true ∧ single ∧ n ≤ run ∧ (q.valid = false ∨ word &&& mask ≠ q.acc &&& mask) :=
  ⟨0, 2047, watched { w8 := 0x180000000 } 0x860028E00 { run := 2, prev := some [0], valid := false }, by decide +kernel⟩

theorem test_meets_SyncInputsAndRecoveredClocks : ∃ (x : RefName) (gap : Nat) (n : Fin 2) (w : CtlWrite) (s : State),
    let i := refNum x
    let c := syncGet s i
    let k := (gap + 62500) / 125000
    let off := ((gap : Int) - k * 125000).natAbs
    let accepted := c.seen = false ∨ (1 ≤ k ∧ off ≤ 2500)
    let d := s.dpll
    let a := recCfgAddr n.val
    let v := w.value &&& 0xFFF800000
    let held := cwGet s a
    Safety.tablesOk s = true ∧ (¬ accepted) ∧ (c.seen = false ∨ c.lost = true ∨ gap < 377500) ∧ c.valid = false ∧ 8000 ≤
      c.clean ∧ d.slewing = true ∧ -20 ≤ d.phase ∧ d.phase ≤ 20 ∧ fld w.value 32 31 ≠ 3 ∧ held.getLsbD 35 = false ∧ fld v 26
      24 ≤ 4 ∧ v.getLsbD 35 = false ∧ recCause s n.val = false :=
  ⟨.b, 122499, 0, { origin := owner, value := 0 },
    syncing 0 { seen := true, lost := true, clean := 8000 } { inUse := 1, phase := 20, slewing := true }, by decide +kernel⟩

theorem test_meets_SyncInputsAndRecoveredClocks_2 : ∃ (x : RefName) (gap : Nat) (s : State),
    let i := refNum x
    let c := syncGet s i
    let k := (gap + 62500) / 125000
    let off := ((gap : Int) - k * 125000).natAbs
    let accepted := c.seen = false ∨ (1 ≤ k ∧ off ≤ 2500)
    let d := s.dpll
    let ctrl := ctlAddr clsClk 0 0
    let old := cwGet s ctrl
    Safety.tablesOk s = true ∧ accepted ∧ d.inUse = i ∧ c.valid = true ∧ rateOut (if c.seen ∧ k = 1 then (gap ::
      c.periods).take 64 else c.periods) = false ∧ old.getLsbD 33 = false ∧ old.getLsbD 34 = false ∧ (c.valid = true ∨
      c.clean < 8000) ∧ (d.slewing = false ∨ d.phase < -20 ∨ 20 < d.phase) :=
  ⟨.b, 122500, syncing 0 { seen := true, valid := true, clean := 7999 } { inUse := 1, phase := 21, slewing := true },
    by decide +kernel⟩

theorem test_meets_SyncInputsAndRecoveredClocks_3 : ∃ (w : CtlWrite) (s : State),
    Safety.tablesOk s = true ∧ fld w.value 32 31 = 3 :=
  ⟨{ origin := owner, value := 0x180000000 },
    syncing 0 { seen := true, valid := true, clean := 7999 } { inUse := 1, phase := -20, slewing := true },
    by decide +kernel⟩

theorem test_meets_SyncInputsAndRecoveredClocks_4 : ∃ (x : RefName) (gap : Nat) (n : Fin 2) (w : CtlWrite) (s : State),
    let i := refNum x
    let c := syncGet s i
    let a := recCfgAddr n.val
    let v := w.value &&& 0xFFF800000
    let held := cwGet s a
    Safety.tablesOk s = true ∧ c.seen = true ∧ c.lost = false ∧ 377500 ≤ gap ∧ held.getLsbD 35 = false ∧ 4 < fld v 26 24 :=
  ⟨.b, 377500, 0, { origin := owner, value := 0x005000000 },
    syncing 0 { seen := true, valid := true, clean := 7999 } { inUse := 1, phase := -21, slewing := true },
    by decide +kernel⟩

theorem test_meets_SyncInputsAndRecoveredClocks_5 : ∃ (n : Fin 2) (w : CtlWrite) (s : State),
    let a := recCfgAddr n.val
    let v := w.value &&& 0xFFF800000
    let held := cwGet s a
    Safety.tablesOk s = true ∧ held.getLsbD 35 = true ∧ putFld v 35 35 1 ≠ held ∧ recCause s n.val = true :=
  ⟨0, { origin := owner, value := 0x800000000 }, withCw [(recCfgAddr 0, 0x840000000)] up, by decide +kernel⟩

theorem test_meets_SyncInputsAndRecoveredClocks_6 : ∃ (n : Fin 2) (w : CtlWrite) (s : State),
    let a := recCfgAddr n.val
    let v := w.value &&& 0xFFF800000
    let held := cwGet s a
    let r := fld v 32 27 / 16
    Safety.tablesOk s = true ∧ held.getLsbD 35 = false ∧ fld v 26 24 ≤ 4 ∧ v.getLsbD 35 = true ∧ flexGet s r 0 ≠ .free ∧
      flexGet s r 1 ≠ .free :=
  ⟨0, { origin := owner, value := 0x804000000 }, flexPut 0 1 (.quad 0 1) (flexPut 0 0 (.quad 0 0) up), by decide +kernel⟩

theorem test_meets_SyncInputsAndRecoveredClocks_7 : ∃ (n : Fin 2) (w : CtlWrite) (s : State),
    let a := recCfgAddr n.val
    let v := w.value &&& 0xFFF800000
    let held := cwGet s a
    let r := fld v 32 27 / 16
    Safety.tablesOk s = true ∧ held.getLsbD 35 = false ∧ fld v 26 24 ≤ 4 ∧ v.getLsbD 35 = true ∧ flexGet s r 0 = .free :=
  ⟨0, { origin := owner, value := 0x804000000 }, withCw [(recCfgAddr 0, 0)] up, by decide +kernel⟩

theorem test_meets_OrderwireSamplesMove : ∃ (c : Fin 8) (a : Fin 65536) (l : List (Fin 65536)) (s : State),
    let n := c.val
    let p := n / 2
    let k := chanGet s n
    let w := owCfg s n
    let run := audRuns s p = true ∧ w.getLsbD 35 = true
    Safety.tablesOk s = true ∧ run ∧ k.rx.length < 32 ∧ k.tx.length < 32 ∧ k.rx = a :: l ∧ fld k.rxCfg 8 3 = 0 ∧ k.tx = a ::
      l ∧ fld k.txCfg 14 9 = 0 ∧ fld k.txCfg 34 33 ≠ 2 ∧ audRuns s p = true ∧ k.rx.length ≤ 8 :=
  ⟨6, 1, [], orderwire 0x800280000 { left := { rx := [1], tx := [1] } }, by decide +kernel⟩

theorem test_meets_OrderwireSamplesMove_2 : ∃ (c : Fin 8) (s : State),
    let n := c.val
    let p := n / 2
    let k := chanGet s n
    Safety.tablesOk s = true ∧ audRuns s p = true ∧ 24 ≤ k.tx.length :=
  ⟨6, orderwire 0x800280000 { left := { rx := List.replicate 31 1, tx := List.replicate 31 1 } }, by decide +kernel⟩

theorem test_meets_OrderwireSamplesMove_3 : ∃ (c : Fin 8) (s : State),
    let n := c.val
    let p := n / 2
    let k := chanGet s n
    Safety.tablesOk s = true ∧ audRuns s p = true ∧ 8 < k.rx.length ∧ k.rx.length < 24 :=
  ⟨6, orderwire 0x800280000 { left := { rx := List.replicate 9 1, tx := List.replicate 23 1 } }, by decide +kernel⟩

theorem test_meets_OrderwireSamplesMove_4 : ∃ (c : Fin 8) (s : State),
    let n := c.val
    let p := n / 2
    let k := chanGet s n
    Safety.tablesOk s = true ∧ audRuns s p = true ∧ k.tx = [] ∧ 32 ≤ k.rx.length :=
  ⟨6, orderwire 0x800280000 { left := { rx := List.replicate 32 1, tx := [] } }, by decide +kernel⟩

theorem test_meets_OrderwireSamplesMove_5 : ∃ (c : Fin 8) (s : State),
    let n := c.val
    let p := n / 2
    let w := owCfg s n
    let run := audRuns s p = true ∧ w.getLsbD 35 = true
    Safety.tablesOk s = true ∧ (¬ run) ∧ w.getLsbD 35 = false :=
  ⟨6, orderwire 0 { frozen := true, left := { txCfg := 0x400000000 } }, by decide +kernel⟩

theorem test_meets_OrderwireSamplesMove_6 : ∃ (c : Fin 8) (s : State),
    let n := c.val
    let p := n / 2
    let k := chanGet s n
    let w := owCfg s n
    Safety.tablesOk s = true ∧ w.getLsbD 35 = true ∧ audRuns s p = false ∧ fld k.txCfg 34 33 = 2 :=
  ⟨6, orderwire 0x800280000 { frozen := true, left := { txCfg := 0x400000000 } }, by decide +kernel⟩

theorem test_meets_OrderwireSetUpsAndPorts : ∃ (c : Fin 8) (p : Fin 4) (tx : Bool) (w : CtlWrite) (s : State),
    let av := w.value &&& 0xFFF800000
    let v := w.value &&& 0xFFFFFFFF8
    let m := monGet s (fld v 32 19)
    let gain := v.getLsbD 17 = false ∧ (fld v 14 9 ≠ 0 ∨ fld v 8 3 ≠ 0)
    let routed := terminates m = true ∧ monLayer m = if fld v 34 33 = 1 then 0xB else 0xA
    let n := c.val
    let k := chanGet s n
    let waits := if tx then k.txPend else k.rxPend
    let port := audioGet s p.val
    Safety.tablesOk s = true ∧ 16 < fld av 30 26 ∧ (¬ gain) ∧ v.getLsbD 35 = true ∧ fld v 34 33 ≠ 3 ∧ (¬ routed) ∧ (waits =
      false ∨ crossing s n tx = false) ∧ waits = false ∧ port.good < 8 :=
  ⟨6, 0, true, { origin := owner, value := 0x844000000 }, up, by decide +kernel⟩

theorem test_meets_OrderwireSetUpsAndPorts_2 : ∃ (p : Fin 4) (w : CtlWrite) (s : State),
    let a := audCfgAddr p.val
    let av := w.value &&& 0xFFF800000
    let old := cwGet s a
    let port := audioGet s p.val
    Safety.tablesOk s = true ∧ fld av 30 26 ≤ 16 ∧ old.getLsbD 35 = true ∧ av.getLsbD 35 = true ∧ fld old 34 31 ≠ fld av 34
      31 ∧ portAudOn s p.val = true ∧ port.frozen = false :=
  ⟨0, { origin := owner, value := 0xA00000000 }, withCw [(audCfgAddr 0, 0x800000000)] up, by decide +kernel⟩

theorem test_meets_OrderwireSetUpsAndPorts_3 : ∃ (p : Fin 4) (w : CtlWrite) (s : State),
    let a := audCfgAddr p.val
    let av := w.value &&& 0xFFF800000
    let old := cwGet s a
    Safety.tablesOk s = true ∧ fld av 30 26 ≤ 16 ∧ old.getLsbD 35 = false ∧ av.getLsbD 35 = true ∧ fld av 34 33 ≠ 3 ∧ p.val
      ≠ 3 :=
  ⟨0, { origin := owner, value := 0x840000000 }, up, by decide +kernel⟩

theorem test_meets_OrderwireSetUpsAndPorts_4 : ∃ (p : Fin 4) (w : CtlWrite) (s : State),
    let a := audCfgAddr p.val
    let av := w.value &&& 0xFFF800000
    let old := cwGet s a
    Safety.tablesOk s = true ∧ fld av 30 26 ≤ 16 ∧ old.getLsbD 35 = true ∧ av.getLsbD 35 = false ∧ fld av 34 33 ≠ 3 :=
  ⟨0, { origin := owner, value := 0x040000000 }, withCw [(audCfgAddr 0, 0x800000000)] up, by decide +kernel⟩

theorem test_meets_OrderwireSetUpsAndPorts_5 : ∃ (w : CtlWrite) (s : State),
    let v := w.value &&& 0xFFFFFFFF8
    let gain := v.getLsbD 17 = false ∧ (fld v 14 9 ≠ 0 ∨ fld v 8 3 ≠ 0)
    Safety.tablesOk s = true ∧ gain :=
  ⟨{ origin := owner, value := 0x200000008 }, up, by decide +kernel⟩

theorem test_meets_OrderwireSetUpsAndPorts_6 : ∃ (c : Fin 8) (w : CtlWrite) (s : State),
    let n := c.val
    let v := w.value &&& 0xFFFFFFFF8
    let m := monGet s (fld v 32 19)
    let gain := v.getLsbD 17 = false ∧ (fld v 14 9 ≠ 0 ∨ fld v 8 3 ≠ 0)
    let routed := terminates m = true ∧ monLayer m = if fld v 34 33 = 1 then 0xB else 0xA
    let taken := ∃ x, x < 8 ∧ x ≠ n ∧ (owCfg s x).getLsbD 35 = true ∧ fld (owCfg s x) 34 19 = fld v 34 19
    Safety.tablesOk s = true ∧ (¬ gain) ∧ v.getLsbD 35 = true ∧ fld v 34 33 ≠ 3 ∧ routed ∧ taken :=
  ⟨6, { origin := owner, value := 0x800280000 }, withCw [(owCfgAddr 0, 0x800280000)] (monPut 5 { w8 := 0x500000000 } up),
    by decide +kernel, by decide +kernel, by decide +kernel, by decide +kernel, by decide +kernel, ⟨0, by decide⟩⟩

theorem test_meets_OrderwireSetUpsAndPorts_7 : ∃ (c : Fin 8) (p : Fin 4) (tx : Bool) (s : State),
    let n := c.val
    let k := chanGet s n
    let waits := if tx then k.txPend else k.rxPend
    let port := audioGet s p.val
    Safety.tablesOk s = true ∧ waits = true ∧ crossing s n tx = true ∧ audRuns s p.val = true ∧ 8 ≤ port.good ∧
      port.left.rxHeld = true :=
  ⟨6, 3, true, monPut 5 { w8 := 0x500000000 } (orderwire 0 { good := 8, left := { txPend := true, rxHeld := true } }),
    by decide +kernel⟩

theorem test_meets_OrderwireSetUpsAndPorts_8 : ∃ (p : Fin 4) (s : State),
    let port := audioGet s p.val
    Safety.tablesOk s = true ∧ portAudOn s p.val = true ∧ port.frozen = true :=
  ⟨3,
    monPut 5 { w8 := 0x500000000 } (orderwire 0x800280000 { good := 7, frozen := true, left := { txPend := true, rxHeld := true } }),
    by decide +kernel⟩

theorem test_meets_OrderwireSetUpsAndPorts_9 : ∃ (c : Fin 8) (w : CtlWrite) (s : State),
    let n := c.val
    let v := w.value &&& 0xFFFFFFFF8
    let m := monGet s (fld v 32 19)
    let gain := v.getLsbD 17 = false ∧ (fld v 14 9 ≠ 0 ∨ fld v 8 3 ≠ 0)
    let routed := terminates m = true ∧ monLayer m = if fld v 34 33 = 1 then 0xB else 0xA
    let taken := ∃ x, x < 8 ∧ x ≠ n ∧ (owCfg s x).getLsbD 35 = true ∧ fld (owCfg s x) 34 19 = fld v 34 19
    Safety.tablesOk s = true ∧ (¬ gain) ∧ v.getLsbD 35 = true ∧ fld v 34 33 ≠ 3 ∧ routed ∧ (¬ taken) ∧ portAudOn s (n / 2) =
      true :=
  ⟨6, { origin := owner, value := 0x800280000 }, monPut 5 { w8 := 0x500000000 } (orderwire 0 {}),
    by decide +kernel, by decide +kernel, by decide +kernel, by decide +kernel, by decide +kernel, (fun ⟨x, hx, h⟩ => by revert h; revert hx; revert x; decide), by decide +kernel⟩

theorem test_meets_TheLinkPairsAndLeaves : ∃ (s : State),
    let k := s.link
    Safety.tablesOk s = true ∧ k.st = .lock ∧ k.st ≠ .key ∧ k.st ≠ .up ∧ k.txSeq < 2 ^ 47 ∧ k.st ≠ .hold :=
  ⟨linked { st := .lock }, by decide +kernel⟩

theorem test_meets_TheLinkPairsAndLeaves_2 : ∃ (s : State),
    let k := s.link
    Safety.tablesOk s = true ∧ k.st ≠ .lock ∧ k.st = .up ∧ 2 ^ 47 ≤ k.txSeq :=
  ⟨linked { st := .up, txSeq := 2 ^ 47 }, by decide +kernel⟩

theorem test_meets_TheLinkPairsAndLeaves_3 : ∃ (s : State),
    let k := s.link
    Safety.tablesOk s = true ∧ k.st = .key ∧ s.sec.unlocked = false :=
  ⟨linked { st := .key }, by decide +kernel⟩

theorem test_meets_TheLinkPairsAndLeaves_4 : ∃ (s : State),
    let k := s.link
    Safety.tablesOk s = true ∧ k.st = .key ∧ s.sec.unlocked = true :=
  ⟨{ linked { st := .key, txSeq := 2 ^ 47 - 1 } with sec := { up.sec with unlocked := true } }, by decide +kernel⟩

theorem test_meets_TheLinkPairsAndLeaves_5 : ∃ (s : State),
    let k := s.link
    Safety.tablesOk s = true ∧ k.st = .hold :=
  ⟨linked { st := .hold }, by decide +kernel⟩

theorem test_meets_TheLinkPairsAndLeaves_6 : ∃ (seat : Fin 2) (s : State),
    let k := s.link
    Safety.tablesOk s = true ∧ k.st = .key ∧ s.sec.unlocked = false ∧ seat ≠ s.straps.seat :=
  ⟨0, linked { st := .key }, by decide +kernel⟩

theorem test_meets_LinkFramesAreSentAndTaken : ∃ (s : State),
    let k := s.link
    Safety.tablesOk s = true ∧ k.st ≠ .up :=
  ⟨linked {}, by decide +kernel⟩

theorem test_meets_LinkFramesAreSentAndTaken_2 : ∃ (f : PFrame) (s : State),
    let k := s.link
    Safety.tablesOk s = true ∧ k.st = .up ∧ f.ty ≤ 8 ∧ f.seq ≠ k.rxSeq ∧ k.again = [] ∧ k.sent.length < 256 ∧ k.part = 0 ∧
      k.queue = [] :=
  ⟨{ ty := 8, seq := 1, ack := 0, nak := false, first := true, last := true, len := 0, crg := 0, msg := none },
    linked { st := .up }, by decide +kernel⟩

theorem test_meets_LinkFramesAreSentAndTaken_3 : ∃ (f : PFrame) (s : State),
    let k := s.link
    Safety.tablesOk s = true ∧ k.st = .up ∧ f.ty = 8 ∧ f.seq = k.rxSeq ∧ k.again = [] ∧ k.sent.length < 256 ∧ k.part = 0 ∧
      k.queue ≠ [] :=
  ⟨{ ty := 8, seq := 0, ack := 0, nak := false, first := true, last := true, len := 0, crg := 0, msg := none },
    linked { st := .up, queue := [.resyncReq] }, by decide +kernel⟩

theorem test_meets_LinkFramesAreSentAndTaken_4 : ∃ (f : PFrame) (s : State),
    let k := s.link
    let starter := s.ilk = .holding ∧ (f.ty = 3 ∨ f.ty = 4 ∨ f.ty = 5)
    let x := .resyncReq
    let rest := []
    Safety.tablesOk s = true ∧ k.st = .up ∧ f.ty < 8 ∧ f.seq = k.rxSeq ∧ (¬ starter) ∧ k.again = [] ∧ k.sent.length < 256 ∧
      k.part ≠ 0 ∧ k.queue = x :: rest :=
  ⟨{ ty := 7, seq := 0, ack := 0, nak := false, first := true, last := true, len := 0, crg := 0, msg := none },
    linked { st := .up, queue := [.resyncReq], part := 1 }, by decide +kernel⟩

theorem test_meets_LinkFramesAreSentAndTaken_5 : ∃ (f : PFrame) (s : State),
    let k := s.link
    let starter := s.ilk = .holding ∧ (f.ty = 3 ∨ f.ty = 4 ∨ f.ty = 5)
    let g := { ty := 0, seq := 0, ack := 0, nak := false, first := true, last := true, len := 0, crg := 0, msg := none }
    let rest := ([] : List PFrame)
    Safety.tablesOk s = true ∧ k.st = .up ∧ f.seq = k.rxSeq ∧ starter ∧ k.again = g :: rest :=
  ⟨{ ty := 3, seq := 65535, ack := 0, nak := false, first := true, last := true, len := 0, crg := 0, msg := none },
    linked { st := .up, rxSeq := 65535, again := [{ ty := 0, seq := 0, ack := 0, nak := false, first := true, last := true, len := 0, crg := 0, msg := none }] },
    by decide +kernel⟩

theorem test_meets_LinkFramesAreSentAndTaken_6 : ∃ (s : State),
    let k := s.link
    Safety.tablesOk s = true ∧ k.st = .up ∧ k.again = [] ∧ 256 ≤ k.sent.length :=
  ⟨linked { st := .up, sent := List.replicate 256 { ty := 0, seq := 0, ack := 0, nak := false, first := true, last := true, len := 0, crg := 0, msg := none } },
    by decide +kernel⟩

theorem test_meets_MateMessagesBringTheStarter : ∃ (h : BitVec 72) (r : List MateMsg) (s : State),
    let k := s.link
    Safety.tablesOk s = true ∧ k.inbox = .status h :: r :=
  ⟨0, [], linked { inbox := [.status 0] }, by decide +kernel⟩

theorem test_meets_MateMessagesBringTheStarter_2 : ∃ (ls : List (BitVec 288)) (r : List MateMsg) (s : State),
    let k := s.link
    Safety.tablesOk s = true ∧ k.inbox = .msg ls :: r :=
  ⟨[], [], linked { inbox := [.msg []] }, by decide +kernel⟩

theorem test_meets_MateMessagesBringTheStarter_3 : ∃ (tk wr : Word) (es : List (Nat × Word)) (r : List MateMsg) (s : State),
    let k := s.link
    let n := s.rdn
    Safety.tablesOk s = true ∧ k.inbox = .tier1 tk wr es :: r ∧ s.bank.valid = true ∧ tk = s.bank.tick + 1 ∧ n.sweepRx =
      none :=
  ⟨1, 0, [], [],
    { blocked { st := .up, cr := 1, inbox := [.tier1 1 0 []] } with bank := { valid := true, tick := 0 }, rdn := { sweepRx := none, want := 0 } },
    by decide +kernel⟩

theorem test_meets_MateMessagesBringTheStarter_4 : ∃ (tk wr : Word) (es : List (Nat × Word)) (r : List MateMsg) (s : State),
    let k := s.link
    let n := s.rdn
    let sp := {}
    Safety.tablesOk s = true ∧ k.inbox = .tier1 tk wr es :: r ∧ s.bank.valid = true ∧ tk = s.bank.tick + 1 ∧ n.sweepRx =
      some sp ∧ tk = sp.tick + 1 :=
  ⟨1, 0, [], [],
    { blocked { st := .up, cr := 1, inbox := [.tier1 1 0 []] } with bank := { valid := true, tick := 0 }, rdn := { sweepRx := some {}, want := 0 } },
    by decide +kernel⟩

theorem test_meets_MateMessagesBringTheStarter_5 : ∃ (tk wr : Word) (es : List (Nat × Word)) (r : List MateMsg) (s : State),
    let k := s.link
    let n := s.rdn
    Safety.tablesOk s = true ∧ k.inbox = .tier1 tk wr es :: r ∧ (s.bank.valid = false ∨ tk ≠ s.bank.tick + 1) ∧ n.sweepRx =
      none ∧ n.want ≠ 0 :=
  ⟨2, 0, [], [],
    { blocked { st := .up, cr := 1, inbox := [.tier1 2 0 []] } with bank := { valid := true, tick := 0 }, rdn := { sweepRx := none, want := 1 } },
    by decide +kernel⟩

theorem test_meets_MateMessagesBringTheStarter_6 : ∃ (tk wr : Word) (es : List (Nat × Word)) (r : List MateMsg) (s : State),
    let k := s.link
    let n := s.rdn
    Safety.tablesOk s = true ∧ k.inbox = .tier1 tk wr es :: r ∧ (s.bank.valid = false ∨ tk ≠ s.bank.tick + 1) ∧ n.sweepRx =
      none ∧ n.want = 0 ∧ k.st = .up ∧ s.ilk ≠ .holding ∧ 1 ≤ k.cr :=
  ⟨2, 0, [], [],
    { blocked { st := .up, cr := 1, inbox := [.tier1 2 0 []] } with bank := { valid := false, tick := 0 }, rdn := { sweepRx := none, want := 0 } },
    by decide +kernel⟩

theorem test_meets_MateMessagesBringTheStarter_7 : ∃ (tk wr : Word) (es : List (Nat × Word)) (r : List MateMsg) (s : State),
    let k := s.link
    Safety.tablesOk s = true ∧ k.inbox = .tier2 tk wr es :: r :=
  ⟨1, 0, [], [], linked { inbox := [.tier2 1 0 []] }, by decide +kernel⟩

theorem test_meets_MateMessagesBringTheStarter_8 : ∃ (r : List MateMsg) (s : State),
    let k := s.link
    Safety.tablesOk s = true ∧ k.inbox = .resyncReq :: r ∧ s.ilk = .holding :=
  ⟨[], linked { inbox := [.resyncReq] }, by decide +kernel⟩

theorem test_meets_MateMessagesBringTheStarter_9 : ∃ (r : List MateMsg) (s : State),
    let k := s.link
    Safety.tablesOk s = true ∧ k.inbox = .resyncReq :: r ∧ s.ilk ≠ .holding :=
  ⟨[], blocked { inbox := [.resyncReq] }, by decide +kernel⟩

theorem test_meets_MateMessagesBringTheStarter_10 : ∃ (tk : Word) (r : List MateMsg) (s : State),
    let k := s.link
    Safety.tablesOk s = true ∧ k.inbox = .resyncStart tk :: r :=
  ⟨1, [], blocked { inbox := [.resyncStart 1] }, by decide +kernel⟩

theorem test_meets_MateMessagesBringTheStarter_11 : ∃ (s : State),
    let k := s.link
    let n := s.rdn
    Safety.tablesOk s = true ∧ k.inbox = [] ∧ s.ilk = .holding ∧ s.mode = .active ∧ k.st = .up ∧ n.want ≠ 0 ∧ 1 ≤ k.cr :=
  ⟨{ linked { st := .up, cr := 1, inbox := [] } with rdn := { want := 1 } }, by decide +kernel⟩

theorem test_meets_MateMessagesBringTheStarter_12 : ∃ (es : List (Nat × Word)) (l : Option Loaf) (r : List MateMsg) (s : State),
    let k := s.link
    let n := s.rdn
    let sp := {}
    Safety.tablesOk s = true ∧ k.inbox = .sweep true l es :: r ∧ n.sweepRx = some sp :=
  ⟨[], none, [],
    { blocked { st := .up, cr := 1, inbox := [.sweep true none []] } with bank := { valid := true, tick := 0 }, rdn := { sweepRx := some {}, want := 0 } },
    by decide +kernel⟩

theorem test_meets_MateMessagesBringTheStarter_13 : ∃ (es : List (Nat × Word)) (l : Option Loaf) (r : List MateMsg) (s : State),
    let k := s.link
    let n := s.rdn
    let sp := {}
    Safety.tablesOk s = true ∧ k.inbox = .sweep false l es :: r ∧ n.sweepRx = some sp :=
  ⟨[], none, [],
    { blocked { st := .up, cr := 1, inbox := [.sweep false none []] } with bank := { valid := true, tick := 0 }, rdn := { sweepRx := some {}, want := 0 } },
    by decide +kernel⟩

theorem test_meets_MateMessagesBringTheStarter_14 : ∃ (es : List (Nat × Word)) (l : Option Loaf) (r : List MateMsg) (s : State),
    let k := s.link
    let n := s.rdn
    Safety.tablesOk s = true ∧ k.inbox = .sweep false l es :: r ∧ n.sweepRx = none :=
  ⟨[], none, [],
    { blocked { st := .up, cr := 1, inbox := [.sweep false none []] } with bank := { valid := true, tick := 0 }, rdn := { sweepRx := none, want := 0 } },
    by decide +kernel⟩

theorem test_meets_MateMessagesBringTheStarter_15 : ∃ (s : State),
    let k := s.link
    let n := s.rdn
    Safety.tablesOk s = true ∧ k.inbox = [] ∧ n.want = 0 :=
  ⟨linked { inbox := [] }, by decide +kernel⟩

theorem test_meets_MateControlAndQueue : ∃ (w : CtlWrite) (s : State),
    let v := w.value
    let c := Instr.mateLinkEn { origin := owner, value := 0x3FF80000 }
    Safety.tablesOk s = true ∧ 4094 ≤ fld v 29 18 ∧ c ∈
      [Instr.mateLinkEn w, .mateRestart w, .mateResync w, .mateYield w, .mateConfirm w] :=
  ⟨{ origin := owner, value := 0x3FF80000 }, up, by decide +kernel, by decide +kernel, (by simp)⟩

theorem test_meets_MateControlAndQueue_2 : ∃ (w : CtlWrite) (s : State),
    let k := s.link
    let a := ctlAddr 0x0F 0 0
    let m := cwGet s a
    let v := w.value
    let calm := v.getLsbD 34 = false ∧ v.getLsbD 33 = false ∧ v.getLsbD 31 = false
    let age := fld v 29 18 < 4094
    let c := Instr.mateLinkEn { origin := owner, value := 0x83FF40000 }
    Safety.tablesOk s = true ∧ age ∧ calm ∧ m.getLsbD 35 = v.getLsbD 35 ∧ k.st ≠ .down ∧ c ∈
      [Instr.mateLinkEn w, .mateYield w] ∧ v.getLsbD 34 = false ∧ v.getLsbD 31 = false ∧ m.getLsbD 35 = true ∧ v.getLsbD 35
      = true ∧ k.st = .up ∧ s.ilk = .holding ∧ v.getLsbD 33 = false :=
  ⟨{ origin := owner, value := 0x83FF40000 }, withCw [(ctlAddr 0x0F 0 0, 0x800000000)] (linked { st := .up }),
    by decide +kernel, by decide +kernel, by decide +kernel, by decide +kernel, by decide +kernel, (by simp), by decide +kernel, by decide +kernel, by decide +kernel, by decide +kernel, by decide +kernel, by decide +kernel, by decide +kernel⟩

theorem test_meets_MateControlAndQueue_3 : ∃ (w : CtlWrite) (s : State),
    let k := s.link
    let a := ctlAddr 0x0F 0 0
    let m := cwGet s a
    let v := w.value
    let calm := v.getLsbD 34 = false ∧ v.getLsbD 33 = false ∧ v.getLsbD 31 = false
    let age := fld v 29 18 < 4094
    Safety.tablesOk s = true ∧ age ∧ calm ∧ m.getLsbD 35 = true ∧ v.getLsbD 35 = false ∧ k.st = .up :=
  ⟨{ origin := owner, value := 0 }, withCw [(ctlAddr 0x0F 0 0, 0x800000000)] (linked { st := .up }), by decide +kernel⟩

theorem test_meets_MateControlAndQueue_4 : ∃ (w : CtlWrite) (s : State),
    let k := s.link
    let a := ctlAddr 0x0F 0 0
    let m := cwGet s a
    let v := w.value
    let calm := v.getLsbD 34 = false ∧ v.getLsbD 33 = false ∧ v.getLsbD 31 = false
    let age := fld v 29 18 < 4094
    Safety.tablesOk s = true ∧ age ∧ calm ∧ m.getLsbD 35 = false ∧ v.getLsbD 35 = true ∧ k.st = .down ∧ k.halted = false ∧
      domRuns s 49 = true :=
  ⟨{ origin := owner, value := 0x800000000 }, atL0 [49] (linked {}), by decide +kernel⟩

theorem test_meets_MateControlAndQueue_5 : ∃ (w : CtlWrite) (s : State),
    let k := s.link
    let a := ctlAddr 0x0F 0 0
    let m := cwGet s a
    let v := w.value
    let age := fld v 29 18 < 4094
    Safety.tablesOk s = true ∧ age ∧ v.getLsbD 33 = false ∧ v.getLsbD 31 = false ∧ m.getLsbD 35 = true ∧ v.getLsbD 35 = true
      ∧ k.st = .down ∧ k.halted = true ∧ domRuns s 49 = true :=
  ⟨{ origin := owner, value := 0xC00000000 },
    atL0 [49] (withCw [(ctlAddr 0x0F 0 0, 0x800000000)] (linked { halted := true })), by decide +kernel⟩

theorem test_meets_MateControlAndQueue_6 : ∃ (w : CtlWrite) (s : State),
    let k := s.link
    let a := ctlAddr 0x0F 0 0
    let m := cwGet s a
    let v := w.value
    let age := fld v 29 18 < 4094
    Safety.tablesOk s = true ∧ age ∧ v.getLsbD 34 = false ∧ v.getLsbD 31 = false ∧ m.getLsbD 35 = true ∧ v.getLsbD 35 = true
      ∧ k.st = .up ∧ s.ilk ≠ .holding ∧ 1 ≤ k.cr :=
  ⟨{ origin := owner, value := 0xA00000000 },
    atL0 [49] (withCw [(ctlAddr 0x0F 0 0, 0x800000000)] (blocked { st := .up, cr := 1 })), by decide +kernel⟩

theorem test_meets_TheInterlockDecidesTheHolder : ∃ (l : Bool) (s : State),
    let n := s.rdn
    let gone := s.mode = .takeover ∨ s.mode = .active
    let causes := 8 * (if l then 1 else 0) + 4 * (if s.ilk = .holding ∧ n.mateIlk = true then 1 else 0) + 2 * (if s.ilk =
      .blocked ∧ n.grant = true then 1 else 0) + (if gone ∧ s.ilk ≠ .holding ∧ n.leaving = false then 1 else 0)
    Safety.tablesOk s = true ∧ powered s = false ∧ s.ilk ≠ .arming ∧ (s.ilk ≠ .blocked ∨ n.grant = false ∨ n.mateIlk = true)
      ∧ causes ≠ 0 ∧ n.conflict = false :=
  ⟨true, { up with phase := .inReset }, by decide +kernel⟩

theorem test_meets_TheInterlockDecidesTheHolder_2 : ∃ (l : Bool) (s : State),
    let n := s.rdn
    let takes := s.mode = .provision ∨ s.mode = .standby ∨ s.mode = .active ∨ s.mode = .takeover
    let gone := s.mode = .takeover ∨ s.mode = .active
    let causes := 8 * (if l then 1 else 0) + 4 * (if s.ilk = .holding ∧ n.mateIlk = true then 1 else 0) + 2 * (if s.ilk =
      .blocked ∧ n.grant = true then 1 else 0) + (if gone ∧ s.ilk ≠ .holding ∧ n.leaving = false then 1 else 0)
    Safety.tablesOk s = true ∧ powered s = true ∧ n.grant = l ∧ n.grant = false ∧ takes ∧ s.ilk = .released ∧ s.straps.seat
      = 0 ∧ n.mateIlk = l ∧ (causes = 0 ∨ n.conflict = true) ∧ l = false ∧ (causes ≠ 0 ∨ n.conflict = false) :=
  ⟨false, { redundant .standby .released {} with straps := { up.straps with seat := 0 } }, by decide +kernel⟩

theorem test_meets_TheInterlockDecidesTheHolder_3 : ∃ (l : Bool) (s : State),
    let n := s.rdn
    let takes := s.mode = .provision ∨ s.mode = .standby ∨ s.mode = .active ∨ s.mode = .takeover
    Safety.tablesOk s = true ∧ powered s = true ∧ n.grant = false ∧ takes ∧ s.ilk = .released ∧ s.straps.seat = 1 ∧
      n.mateIlk ≠ l ∧ (l = false ∨ s.ilk ≠ .holding ∨ s.straps.seat = 0) :=
  ⟨true, { redundant .standby .released {} with straps := { up.straps with seat := 1 } }, by decide +kernel⟩

theorem test_meets_TheInterlockDecidesTheHolder_4 : ∃ (s : State),
    let n := s.rdn
    let takes := s.mode = .provision ∨ s.mode = .standby ∨ s.mode = .active ∨ s.mode = .takeover
    Safety.tablesOk s = true ∧ powered s = true ∧ n.grant = false ∧ (¬ takes ∨ s.ilk ≠ .released) ∧ n.mateIlk = false ∧
      s.ilk = .holding ∧ s.straps.seat = 1 :=
  ⟨redundant .standby .holding {}, by decide +kernel⟩

theorem test_meets_TheInterlockDecidesTheHolder_5 : ∃ (s : State),
    let n := s.rdn
    Safety.tablesOk s = true ∧ powered s = true ∧ n.grant = true :=
  ⟨{ redundant .active .holding { grant := true, mateIlk := true } with straps := { up.straps with seat := 1 } },
    by decide +kernel⟩

theorem test_meets_TheInterlockDecidesTheHolder_6 : ∃ (s : State),
    let n := s.rdn
    Safety.tablesOk s = true ∧ s.ilk = .arming ∧ n.mateIlk = true :=
  ⟨redundant .standby .arming { mateIlk := true }, by decide +kernel⟩

theorem test_meets_TheInterlockDecidesTheHolder_7 : ∃ (s : State),
    let n := s.rdn
    Safety.tablesOk s = true ∧ s.ilk = .arming ∧ n.mateIlk = false :=
  ⟨redundant .standby .arming {}, by decide +kernel⟩

theorem test_meets_TheInterlockDecidesTheHolder_8 : ∃ (s : State),
    let n := s.rdn
    Safety.tablesOk s = true ∧ s.ilk = .blocked ∧ n.grant = true ∧ n.mateIlk = false :=
  ⟨redundant .standby .blocked { grant := true, mateIlk := false }, by decide +kernel⟩

theorem test_meets_TheInterlockDecidesTheHolder_9 : ∃ (l : Bool) (s : State),
    let n := s.rdn
    let gone := s.mode = .takeover ∨ s.mode = .active
    let causes := 8 * (if l then 1 else 0) + 4 * (if s.ilk = .holding ∧ n.mateIlk = true then 1 else 0) + 2 * (if s.ilk =
      .blocked ∧ n.grant = true then 1 else 0) + (if gone ∧ s.ilk ≠ .holding ∧ n.leaving = false then 1 else 0)
    Safety.tablesOk s = true ∧ l = false ∧ causes = 0 ∧ n.conflict = true :=
  ⟨false, redundant .active .holding { conflict := true }, by decide +kernel⟩

theorem test_meets_TakeoverEndsAndModesAreRequested : ∃ (l : Bool) (r : RegionId) (w : CtlWrite) (s : State),
    let n := s.rdn
    let applying := s.mode = .takeover ∧ s.ilk = .holding ∧ n.applied = false
    let ending := s.mode = .takeover ∧ s.ilk = .holding ∧ n.applied = true
    let leaving := n.leaving = true ∧ s.ilk ≠ .holding ∧ (s.mode = .takeover ∨ s.mode = .active)
    let allowed := (s.mode = .provision ∨ s.mode = .standby ∨ s.mode = .test) ∧ s.sec.unlocked = false
    let c := Instr.modeReqProvision { origin := owner, value := 0 }
    let ctrl := cwGet s pkgCtrlAddr
    let v := w.value
    let sleepy := s.mode = .provision ∨ s.mode = .standby
    Safety.tablesOk s = true ∧ applying ∧ n.take = false ∧ (¬ ending ∨ (l = false ∧ trafficUp s = false)) ∧ (¬ leaving) ∧ (¬
      allowed) ∧ c ∈ [Instr.modeReqProvision w, .modeReqStandby w, .modeReqTest w] ∧ v.getLsbD 32 = false ∧ v.getLsbD 26 =
      false ∧ v.getLsbD 31 = ctrl.getLsbD 31 ∧ (¬ sleepy) ∧ s.phase ≠ .dormant ∧ s.mode ≠ .quarantine ∧ s.phase ≠ .off ∧
      (railOn s r.val = false ∨ (vloopGet s r.val).vout ≠ 850) :=
  ⟨true, 0, { origin := owner, value := 0 }, redundant .takeover .holding { take := false },
    by decide +kernel, by decide +kernel, by decide +kernel, by decide +kernel, by decide +kernel, by decide +kernel, (by simp), by decide +kernel, by decide +kernel, by decide +kernel, by decide +kernel, by decide +kernel, by decide +kernel, by decide +kernel, by decide +kernel⟩

theorem test_meets_TakeoverEndsAndModesAreRequested_2 : ∃ (s : State),
    let n := s.rdn
    let applying := s.mode = .takeover ∧ s.ilk = .holding ∧ n.applied = false
    Safety.tablesOk s = true ∧ applying ∧ n.take = true :=
  ⟨redundant .takeover .holding { take := true }, by decide +kernel⟩

theorem test_meets_TakeoverEndsAndModesAreRequested_3 : ∃ (l : Bool) (s : State),
    let n := s.rdn
    let applying := s.mode = .takeover ∧ s.ilk = .holding ∧ n.applied = false
    let ending := s.mode = .takeover ∧ s.ilk = .holding ∧ n.applied = true
    Safety.tablesOk s = true ∧ (¬ applying) ∧ ending ∧ (l = true ∨ trafficUp s = true) :=
  ⟨true, redundant .takeover .holding { applied := true }, by decide +kernel⟩

theorem test_meets_TakeoverEndsAndModesAreRequested_4 : ∃ (s : State),
    let n := s.rdn
    let leaving := n.leaving = true ∧ s.ilk ≠ .holding ∧ (s.mode = .takeover ∨ s.mode = .active)
    Safety.tablesOk s = true ∧ leaving ∧ n.grant = false :=
  ⟨redundant .takeover .blocked { leaving := true, grant := false }, by decide +kernel⟩

theorem test_meets_TakeoverEndsAndModesAreRequested_5 : ∃ (w : CtlWrite) (s : State),
    let n := s.rdn
    let v := w.value
    let allowed := (s.mode = .provision ∨ s.mode = .standby ∨ s.mode = .test) ∧ s.sec.unlocked = false
    let plain := v.getLsbD 27 = false ∧ v.getLsbD 26 = false
    let sleepy := s.mode = .provision ∨ s.mode = .standby
    Safety.tablesOk s = true ∧ allowed ∧ plain ∧ n.grant = false ∧ s.ilk ≠ .holding ∧ v.getLsbD 32 = false ∧ v.getLsbD 27 =
      false ∧ sleepy :=
  ⟨{ origin := owner, value := 0 }, redundant .standby .released {}, by decide +kernel⟩

theorem test_meets_TakeoverEndsAndModesAreRequested_6 : ∃ (s : State),
    Safety.tablesOk s = true ∧ s.phase = .off :=
  ⟨{ redundant .standby .released {} with phase := .off }, by decide +kernel⟩

theorem test_meets_TakeoverEndsAndModesAreRequested_7 : ∃ (s : State),
    Safety.tablesOk s = true ∧ s.phase = .dormant :=
  ⟨{ redundant .quarantine .released {} with phase := .dormant }, by decide +kernel⟩

theorem test_meets_TakeoverEndsAndModesAreRequested_8 : ∃ (r : RegionId) (s : State),
    Safety.tablesOk s = true ∧ s.mode ≠ .quarantine ∧ railOn s r.val = true ∧ (vloopGet s r.val).vout = 850 :=
  ⟨0, vloopPut 0 { vout := 850 } (atL0 [0] (redundant .standby .released {})), by decide +kernel⟩

theorem test_meets_DomainsLoopsAndSelfTest : ∃ (d : Fin 56) (r : RegionId) (w : CtlWrite) (s : State),
    let n := d.val
    let st := fld w.value 35 33
    let lower := n ≤ 39 ∨ n = 51
    let k := domGet s n
    let lo := fld w.value 35 26
    let hi := fld w.value 25 16
    Safety.tablesOk s = true ∧ (¬ lower ∨ 3 < st) ∧ s.phase ≠ .dormant ∧ k.st = k.goal ∧ (lo > hi ∨ lo < 600 ∨ 850 < hi) ∧
      railOn s r.val = false ∧ n < 42 ∧ s.hot = false ∧ (rotates s = false ∨ s.test.burst ≠ none ∨ s.binQ % 8000 ≠ 0) ∧
      s.test.burst = none ∧ powered s = false :=
  ⟨40, 0, { origin := owner, value := 0 }, { up with phase := .inReset }, by decide +kernel⟩

theorem test_meets_DomainsLoopsAndSelfTest_2 : ∃ (r : RegionId) (w : CtlWrite) (s : State),
    let lk := vloopGet s r.val
    let lo := fld w.value 35 26
    let hi := fld w.value 25 16
    Safety.tablesOk s = true ∧ lo ≤ hi ∧ 600 ≤ lo ∧ hi ≤ 850 ∧ lk.floor ≤ hi ∧ s.hot = true ∧ powered s = true ∧ linkOn s =
      false :=
  ⟨0, { origin := owner, value := 0x963520000 }, { up with hot := true, rdn := {} }, by decide +kernel⟩

theorem test_meets_DomainsLoopsAndSelfTest_3 : ∃ (s : State),
    let e := 0
    Safety.tablesOk s = true ∧ s.test.burst = some e :=
  ⟨{ linked { st := .up, cr := 2 } with test := { up.test with burst := some 0 } }, by decide +kernel⟩

theorem test_meets_DomainsLoopsAndSelfTest_4 : ∃ (d : Fin 56) (r : RegionId) (w : CtlWrite) (s : State),
    let n := d.val
    let st := fld w.value 35 33
    let lower := n ≤ 39 ∨ n = 51
    let blocked := (st = 3 ∧ domHolds s n = true) ∨ (s.mode = .active ∧ 0 < st ∧ domCarries s n = true) ∨ ∃ c, c ∈
      dependants n ∧ ownTarget (unhold (fun e => e == n) s) c < st
    let k := domGet s n
    Safety.tablesOk s = true ∧ lower ∧ st ≤ 3 ∧ (¬ blocked) ∧ reqMode s.mode = true ∧ s.phase ≠ .dormant ∧ k.st ≠ k.goal ∧ 0
      < k.goal ∧ k.goal < 4 ∧ railOn s r.val = true :=
  ⟨16, 0, { origin := owner, value := 0x200000000 }, domPut 16 { st := 1, goal := 3 } up, by decide +kernel⟩

theorem test_meets_DomainsLoopsAndSelfTest_5 : ∃ (d : Fin 56) (s : State),
    let n := d.val
    Safety.tablesOk s = true ∧ 42 ≤ n ∧ n ≠ 49 ∧ (n < 51 ∨ 53 < n) ∧ s.mode ≠ .quarantine :=
  ⟨55, atL0 [0] up, by decide +kernel⟩

theorem test_meets_DomainsLoopsAndSelfTest_6 : ∃ (d : Fin 56) (w : CtlWrite) (s : State),
    let n := d.val
    let st := fld w.value 35 33
    let lower := n ≤ 39 ∨ n = 51
    let blocked := (st = 3 ∧ domHolds s n = true) ∨ (s.mode = .active ∧ 0 < st ∧ domCarries s n = true) ∨ ∃ c, c ∈
      dependants n ∧ ownTarget (unhold (fun e => e == n) s) c < st
    Safety.tablesOk s = true ∧ lower ∧ st ≤ 3 ∧ blocked :=
  ⟨0, { origin := owner, value := 0x600000000 }, readyLane, by decide +kernel⟩

theorem test_meets_DomainsLoopsAndSelfTest_7 : ∃ (d : Fin 56) (w : CtlWrite) (s : State),
    let n := d.val
    let st := fld w.value 35 33
    let lower := n ≤ 39 ∨ n = 51
    let blocked := (st = 3 ∧ domHolds s n = true) ∨ (s.mode = .active ∧ 0 < st ∧ domCarries s n = true) ∨ ∃ c, c ∈
      dependants n ∧ ownTarget (unhold (fun e => e == n) s) c < st
    Safety.tablesOk s = true ∧ lower ∧ st ≤ 3 ∧ (¬ blocked) ∧ reqMode s.mode = false :=
  ⟨0, { origin := owner, value := 0 }, { up with mode := .quarantine }, by decide +kernel⟩

theorem test_meets_DomainsLoopsAndSelfTest_8 : ∃ (s : State),
    Safety.tablesOk s = true ∧ powered s = true ∧ linkOn s = true ∧ s.link.st = .up ∧ 2 ≤ s.link.cr :=
  ⟨{ withCw [(ctlAddr 0x0F 0 0, 0x840000000)] (linked { st := .up, cr := 2 }) with mode := .standby, binQ := 8000 },
    by decide +kernel⟩

theorem test_meets_DomainsLoopsAndSelfTest_9 : ∃ (s : State),
    Safety.tablesOk s = true ∧ rotates s = true ∧ s.test.burst = none ∧ s.binQ % 8000 = 0 :=
  ⟨{ (List.range 20).foldl (fun s d => domPut d { st := 2, goal := 2 } s) (withCw [(ctlAddr 0x0F 0 0, 0x840000000)] (linked { st := .up, cr := 2 })) with mode := .standby, binQ := 8000 },
    by decide +kernel⟩

theorem test_meets_HostRingsAndDoorbells : ∃ (q : CmdRingId) (h : HqId) (f : Fin 3) (off : BitVec 24) (v : BitVec 32) (a : BitVec
  64) (e : CmdEntry) (im : List (BitVec 288)) (s : State),
    let up := powered s = true ∧ s.perst = false
    let c := Instr.cqTail 3 2
    let x := hqGet s h.val
    let r := ringOf s h.val
    Safety.tablesOk s = true ∧ (¬ up) ∧ c ∈
      [Instr.bar0Violation off, .cqBaseWrite q f v, .cqTail q v, .commandFetch q e, .hostRingWrite h, .hrHead h v, .hqCredit h v, .intClr v, .recGo a im true]
      ∧ x.items = [] ∧ (r.timer = false ∨ r.items = 0) :=
  ⟨3, 7, 2, 0, 2, 64, { ty := 1, resp := 0, clean := true, lenOk := true, reply := 0, buf := .proof true }, [],
    { up with perst := true }, by decide +kernel, by decide +kernel, (by simp), by decide +kernel, by decide +kernel⟩

theorem test_meets_HostRingsAndDoorbells_2 : ∃ (q : CmdRingId) (h : HqId) (f : Fin 3) (v : BitVec 32) (s : State),
    let up := powered s = true ∧ s.perst = false
    let free := (sessGet s q.val).opened = false ∧ (sessGet s q.val).mid = false
    let sized := f.val = 2 → 2 ≤ v.toNat ∧ v.toNat ≤ 4096
    let k := ringCmd s q.val
    let credit := hqOn s h.val = true ∧ fld (cwGet s (hqCfgAddr h.val)) 34 34 = 1
    Safety.tablesOk s = true ∧ up ∧ free ∧ sized ∧ k.size ≤ v.toNat ∧ k.head = k.tail ∧ hrSize s h.val ≤ v.toNat ∧ (¬
      credit) ∧ (s.mode ≠ .quarantine ∨ s.sec.qcause ≠ 6) :=
  ⟨3, 7, 2, 4096, hosted 0 {}, by decide +kernel⟩

theorem test_meets_HostRingsAndDoorbells_3 : ∃ (q : CmdRingId) (v : BitVec 32) (s : State),
    let up := powered s = true ∧ s.perst = false
    let k := ringCmd s q.val
    Safety.tablesOk s = true ∧ up ∧ v.toNat < k.size ∧ k.head ≠ k.tail :=
  ⟨3, 0, ringCmdPut 3 { size := 16, head := 1, tail := 2 } up, by decide +kernel⟩

theorem test_meets_HostRingsAndDoorbells_4 : ∃ (q : CmdRingId) (f : Fin 3) (v : BitVec 32) (s : State),
    let up := powered s = true ∧ s.perst = false
    let free := (sessGet s q.val).opened = false ∧ (sessGet s q.val).mid = false
    let sized := f.val = 2 → 2 ≤ v.toNat ∧ v.toNat ≤ 4096
    Safety.tablesOk s = true ∧ up ∧ (¬ (free ∧ sized)) :=
  ⟨3, 2, 1, { up with sess := tabSet {} up.sess 3 { opened := true } }, by decide +kernel⟩

theorem test_meets_HostRingsAndDoorbells_5 : ∃ (h : HqId) (s : State),
    let up := powered s = true ∧ s.perst = false
    let x := hqGet s h.val
    let ws := [1]
    let rest := []
    Safety.tablesOk s = true ∧ up ∧ x.items = ws :: rest ∧ (hrOn s h.val = false ∨ ringFreeLines s h.val < itemLines ws) :=
  ⟨7,
    { withCw [(hqCfgAddr 7, 0xC00000080), (hqWmAddr 7, 0x000A00005), (hrAddr 7 2, 0x800000000)] (hqPut 7 { items := [[1]] } up) with hostRing := [] },
    by decide +kernel⟩

theorem test_meets_HostRingsAndDoorbells_6 : ∃ (h : HqId) (v : BitVec 32) (s : State),
    let up := powered s = true ∧ s.perst = false
    let x := hqGet s h.val
    let ws := [1]
    let rest := []
    let credit := hqOn s h.val = true ∧ fld (cwGet s (hqCfgAddr h.val)) 34 34 = 1
    let room := hqSize s h.val - ptrFill (hqSize s h.val) x.rp x.wp
    let r := ringOf s h.val
    Safety.tablesOk s = true ∧ up ∧ x.items = ws :: rest ∧ hrOn s h.val = true ∧ itemLines ws ≤ ringFreeLines s h.val ∧
      v.toNat < hrSize s h.val ∧ credit ∧ x.cr + v.toNat ≤ room ∧ r.timer = true ∧ 0 < r.items :=
  ⟨7, 15,
    { withCw [(hqCfgAddr 7, 0xC00000080), (hqWmAddr 7, 0x000A00005), (hrAddr 7 2, 0x800080000)] (hqPut 7 { items := [[1]], cr := 49 } up) with hostRing := [(7, { items := 1, timer := true })] },
    by decide +kernel⟩

theorem test_meets_HostRingsAndDoorbells_7 : ∃ (h : HqId) (v : BitVec 32) (s : State),
    let up := powered s = true ∧ s.perst = false
    let x := hqGet s h.val
    let credit := hqOn s h.val = true ∧ fld (cwGet s (hqCfgAddr h.val)) 34 34 = 1
    let room := hqSize s h.val - ptrFill (hqSize s h.val) x.rp x.wp
    Safety.tablesOk s = true ∧ up ∧ credit ∧ room < x.cr + v.toNat :=
  ⟨7, 15,
    { withCw [(hqCfgAddr 7, 0xC00000080), (hqWmAddr 7, 0x000A00005), (hrAddr 7 2, 0x800078000)] (hqPut 7 { items := [[1]], cr := 50 } up) with hostRing := [] },
    by decide +kernel⟩

theorem test_meets_HostRingsAndDoorbells_8 : ∃ (im : List (BitVec 288)) (s : State),
    let up := powered s = true ∧ s.perst = false
    Safety.tablesOk s = true ∧ up ∧ s.mode = .quarantine ∧ s.sec.qcause = 6 ∧ firmwareOk im = true ∧ (floors s).fw ≤ lineNat
      im 2 2 :=
  ⟨firmwareLines, { up with mode := .quarantine, sec := { up.sec with qcause := 6 } }, by decide +kernel⟩

theorem test_meets_SessionsAndBatchesOfARing : ∃ (q : CmdRingId) (s : State),
    let n := q.val
    let r := ringCmd s n
    let c := Instr.cqOpen 3
    let k := sessGet s n
    Safety.tablesOk s = true ∧ r.fetched = [] ∧ c ∈ [Instr.cqOpen q, .cqProof q, .cqBatch q] ∧ k.mid = false ∧ (hubFree s =
      false ∨ nextRing s = none) ∧ s.long = none :=
  ⟨3, up, by decide +kernel, by decide +kernel, (by simp), by decide +kernel, by decide +kernel, by decide +kernel⟩

theorem test_meets_SessionsAndBatchesOfARing_2 : ∃ (q : CmdRingId) (e : CmdEntry) (rest : List CmdEntry) (own ok : Bool) (s :
  State),
    let n := q.val
    let k := sessGet s n
    let r := ringCmd s n
    let clean := e.clean = true ∧ e.lenOk = true
    let isOpen := clean ∧ e.ty = 2 ∧ e.buf = .openReq own ok
    Safety.tablesOk s = true ∧ r.fetched = e :: rest ∧ isOpen ∧ (s.mode = .quarantine ∨ k.mid = true ∨ ok = false) :=
  ⟨3, entry 2 (.openReq true true), [], true, true,
    ringed (entry 2 (.openReq true true)) {} { up with mode := .quarantine }, by decide +kernel⟩

theorem test_meets_SessionsAndBatchesOfARing_3 : ∃ (q : CmdRingId) (e : CmdEntry) (rest : List CmdEntry) (own ok : Bool) (s :
  State),
    let n := q.val
    let k := sessGet s n
    let r := ringCmd s n
    let clean := e.clean = true ∧ e.lenOk = true
    let isOpen := clean ∧ e.ty = 2 ∧ e.buf = .openReq own ok
    Safety.tablesOk s = true ∧ r.fetched = e :: rest ∧ isOpen ∧ s.mode ≠ .quarantine ∧ k.mid = false ∧ ok = true ∧ own =
      true :=
  ⟨3, entry 2 (.openReq true true), [], true, true, ringed (entry 2 (.openReq true true)) {} up, by decide +kernel⟩

theorem test_meets_SessionsAndBatchesOfARing_4 : ∃ (q : CmdRingId) (e : CmdEntry) (rest : List CmdEntry) (own ok : Bool) (s :
  State),
    let n := q.val
    let k := sessGet s n
    let r := ringCmd s n
    let clean := e.clean = true ∧ e.lenOk = true
    let isOpen := clean ∧ e.ty = 2 ∧ e.buf = .openReq own ok
    Safety.tablesOk s = true ∧ r.fetched = e :: rest ∧ isOpen ∧ s.mode ≠ .quarantine ∧ k.mid = false ∧ ok = true ∧ own =
      false :=
  ⟨3, entry 2 (.openReq false true), [], false, true, ringed (entry 2 (.openReq false true)) {} up, by decide +kernel⟩

theorem test_meets_SessionsAndBatchesOfARing_5 : ∃ (q : CmdRingId) (e : CmdEntry) (rest : List CmdEntry) (ok : Bool) (s : State),
    let n := q.val
    let k := sessGet s n
    let r := ringCmd s n
    let clean := e.clean = true ∧ e.lenOk = true
    let isProof := clean ∧ e.ty = 3 ∧ e.buf = .proof ok
    Safety.tablesOk s = true ∧ r.fetched = e :: rest ∧ isProof ∧ k.mid = true ∧ ok = true ∧ (ownerKey s).isSome = true :=
  ⟨3, entry 3 (.proof true), [], true, banked none none (ringed (entry 3 (.proof true)) { mid := true } up),
    by decide +kernel⟩

theorem test_meets_SessionsAndBatchesOfARing_6 : ∃ (q : CmdRingId) (e : CmdEntry) (rest : List CmdEntry) (ok : Bool) (s : State),
    let n := q.val
    let k := sessGet s n
    let r := ringCmd s n
    let clean := e.clean = true ∧ e.lenOk = true
    let isProof := clean ∧ e.ty = 3 ∧ e.buf = .proof ok
    Safety.tablesOk s = true ∧ r.fetched = e :: rest ∧ isProof ∧ (k.mid = false ∨ ok = false ∨ ownerKey s = none) :=
  ⟨3, entry 3 (.proof true), [], true, ringed (entry 3 (.proof true)) { mid := true } up, by decide +kernel⟩

theorem test_meets_SessionsAndBatchesOfARing_7 : ∃ (q : CmdRingId) (e : CmdEntry) (rest : List CmdEntry) (s : State),
    let n := q.val
    let r := ringCmd s n
    let clean := e.clean = true ∧ e.lenOk = true
    Safety.tablesOk s = true ∧ r.fetched = e :: rest ∧ (¬ clean) :=
  ⟨3, { entry 1 (.batch (haltBatch 1 17)) with clean := false }, [],
    ringed { entry 1 (.batch (haltBatch 1 17)) with clean := false } { opened := true, seq := 17 } up, by decide +kernel⟩

theorem test_meets_SessionsAndBatchesOfARing_8 : ∃ (q : CmdRingId) (e : CmdEntry) (rest : List CmdEntry) (b : BatchBuf) (s :
  State),
    let n := q.val
    let k := sessGet s n
    let r := ringCmd s n
    let clean := e.clean = true ∧ e.lenOk = true
    let isBatch := clean ∧ e.ty = 1 ∧ e.resp ≤ 8 ∧ e.buf = .batch b
    let inOrder := b.tagOk = true ∧ b.seq = k.seq ∧ k.seq < 2 ^ 32
    Safety.tablesOk s = true ∧ r.fetched = e :: rest ∧ isBatch ∧ (k.opened = false ∨ ¬ inOrder) :=
  ⟨3, entry 1 (.batch (haltBatch 1 17)), [], haltBatch 1 17,
    ringed (entry 1 (.batch (haltBatch 1 17))) { opened := false } (up), by decide +kernel⟩

theorem test_meets_SessionsAndBatchesOfARing_9 : ∃ (q : CmdRingId) (e : CmdEntry) (rest : List CmdEntry) (b : BatchBuf) (s :
  State),
    let n := q.val
    let k := sessGet s n
    let r := ringCmd s n
    let clean := e.clean = true ∧ e.lenOk = true
    let isBatch := clean ∧ e.ty = 1 ∧ e.resp ≤ 8 ∧ e.buf = .batch b
    let inOrder := b.tagOk = true ∧ b.seq = k.seq ∧ k.seq < 2 ^ 32
    let bat : Batch :=
      { ring := n, resp := e.resp, reply := e.reply, seq := b.seq, outAt := b.outAt, outLen := b.outLen, bundles := b.bundles.map BitVec.toNat }
    Safety.tablesOk s = true ∧ r.fetched = e :: rest ∧ isBatch ∧ k.opened = true ∧ inOrder ∧ s.mode = .sealed ∧ claimShape
      bat.bundles = false :=
  ⟨3, entry 1 (.batch (haltBatch 1 17)), [], haltBatch 1 17,
    ringed (entry 1 (.batch (haltBatch 1 17))) { opened := true, own := true, seq := 17 } ({ up with mode := .sealed }),
    by decide +kernel⟩

theorem test_meets_SessionsAndBatchesOfARing_10 : ∃ (q : CmdRingId) (e : CmdEntry) (rest : List CmdEntry) (b : BatchBuf) (s :
  State),
    let n := q.val
    let k := sessGet s n
    let r := ringCmd s n
    let clean := e.clean = true ∧ e.lenOk = true
    let isBatch := clean ∧ e.ty = 1 ∧ e.resp ≤ 8 ∧ e.buf = .batch b
    let inOrder := b.tagOk = true ∧ b.seq = k.seq ∧ k.seq < 2 ^ 32
    let bat : Batch :=
      { ring := n, resp := e.resp, reply := e.reply, seq := b.seq, outAt := b.outAt, outLen := b.outLen, bundles := b.bundles.map BitVec.toNat }
    let form := batchStatus (!k.own && s.mode != .sealed) b
    Safety.tablesOk s = true ∧ r.fetched = e :: rest ∧ isBatch ∧ k.opened = true ∧ inOrder ∧ (s.mode ≠ .sealed ∨ claimShape
      bat.bundles = true) ∧ form.1 ≠ 0 :=
  ⟨3, entry 1 (.batch (haltBatch 2 17)), [], haltBatch 2 17,
    ringed (entry 1 (.batch (haltBatch 2 17))) { opened := true, own := true, seq := 17 } (up), by decide +kernel⟩

theorem test_meets_SessionsAndBatchesOfARing_11 : ∃ (q : CmdRingId) (e : CmdEntry) (rest : List CmdEntry) (b : BatchBuf) (s :
  State),
    let n := q.val
    let k := sessGet s n
    let r := ringCmd s n
    let clean := e.clean = true ∧ e.lenOk = true
    let isBatch := clean ∧ e.ty = 1 ∧ e.resp ≤ 8 ∧ e.buf = .batch b
    let inOrder := b.tagOk = true ∧ b.seq = k.seq ∧ k.seq < 2 ^ 32
    let bat : Batch :=
      { ring := n, resp := e.resp, reply := e.reply, seq := b.seq, outAt := b.outAt, outLen := b.outLen, bundles := b.bundles.map BitVec.toNat }
    let form := batchStatus (!k.own && s.mode != .sealed) b
    Safety.tablesOk s = true ∧ r.fetched = e :: rest ∧ isBatch ∧ k.opened = true ∧ inOrder ∧ (s.mode ≠ .sealed ∨ claimShape
      bat.bundles = true) ∧ form.1 = 0 :=
  ⟨3, entry 1 (.batch (haltBatch 1 17)), [], haltBatch 1 17,
    ringed (entry 1 (.batch (haltBatch 1 17))) { opened := true, own := true, seq := 17 } (up), by decide +kernel⟩

theorem test_meets_SessionsAndBatchesOfARing_12 : ∃ (s : State),
    let p : Nat := 3
    let x : Batch := { ring := 3, resp := 0, reply := 0, seq := 0, outAt := 32768, outLen := 0, bundles := [] }
    let l : List Batch := []
    Safety.tablesOk s = true ∧ hubFree s = true ∧ nextRing s = some p ∧ (ringCmd s p).waiting = x :: l :=
  ⟨ringCmdPut 3 { size := 16, waiting := [{ ring := 3, resp := 0, reply := 0, seq := 0, outAt := 32768, outLen := 0, bundles := [] }] } up,
    by decide +kernel⟩

theorem test_meets_SessionsAndBatchesOfARing_13 : ∃ (s : State),
    let l := loaf
    let g := 5
    Safety.tablesOk s = true ∧ s.long = some (.loaf l, g) ∧ s.suspended = none :=
  ⟨{ up with long := some (.loaf loaf, 5) }, by decide +kernel⟩

theorem test_meets_ContextsAndControlWords : ∃ (kind : Fin 16) (c : CtxId) (ad : BitVec 24) (s : State),
    let id := c.val
    let held := (ctxPlace s id).isSome = true
    let known := kind.val = 1 ∨ 8 ≤ kind.val
    let home := homeUnit id
    let counted := { afterPins s with ctxAt := tabSet 0 (afterPins s).ctxAt id (home * 256 + 1) }
    Safety.tablesOk s = true ∧ held ∧ ctxNamed s id = false ∧ known ∧ ctxUnit s id ≠ home ∧ id ∉ s.pinMoves ∧ boundHolds
      counted home = true ∧ handlesLeft s home ≠ 0 ∧ ((s.pinMoves.filter fun k => homeUnit k == home).length < 4) ∧
      wordStore ad.toNat = none :=
  ⟨8, 9, BitVec.ofNat 24 (0xFFFFFF), withContexts up, by decide +kernel⟩

theorem test_meets_ContextsAndControlWords_2 : ∃ (kind : Fin 16) (c : CtxId) (s : State),
    let id := c.val
    let held := (ctxPlace s id).isSome = true
    let known := kind.val = 1 ∨ 8 ≤ kind.val
    Safety.tablesOk s = true ∧ held ∧ ctxNamed s id = true ∧ (¬ known) :=
  ⟨7, 9, withCw [(pairAddr 700 0, 0x800000000), (pairAddr 700 1, 0x002400500)] (withContexts up), by decide +kernel⟩

theorem test_meets_ContextsAndControlWords_3 : ∃ (c : CtxId) (s : State),
    let id := c.val
    let held := (ctxPlace s id).isSome = true
    let home := homeUnit id
    Safety.tablesOk s = true ∧ held ∧ (ctxUnit s id = home ∨ id ∈ s.pinMoves) :=
  ⟨9, { withContexts up with pinMoves := [9] }, by decide +kernel⟩

theorem test_meets_ContextsAndControlWords_4 : ∃ (o : Origin) (kind : Fin 16) (c : CtxId) (s : State),
    let id := c.val
    let known := kind.val = 1 ∨ 8 ≤ kind.val
    let held := (ctxPlace s id).isSome = true
    let x := Instr.hostCtxDelete owner 16383
    Safety.tablesOk s = true ∧ (¬ held) ∧ (¬ known) ∧ x ∈
      [Instr.hostCtxDelete o c, .hostCtxSetKind o kind c, .hostCtxSetPin o c, .hostCtxClearPin o c] :=
  ⟨owner, 7, 16383, up, by decide +kernel, by decide +kernel, by decide +kernel, (by simp)⟩

theorem test_meets_ContextsAndControlWords_5 : ∃ (kind : Fin 16) (c : CtxId) (s : State),
    let id := c.val
    let known := kind.val = 1 ∨ 8 ≤ kind.val
    let held := (ctxPlace s id).isSome = true
    let u := 63
    let h := 0
    Safety.tablesOk s = true ∧ (¬ held) ∧ known ∧ createUnit s id = some (u, h) :=
  ⟨15, 16383, up, by decide +kernel⟩

theorem test_meets_ContextsAndControlWords_6 : ∃ (kind : Fin 16) (c : CtxId) (s : State),
    let id := c.val
    let known := kind.val = 1 ∨ 8 ≤ kind.val
    let held := (ctxPlace s id).isSome = true
    Safety.tablesOk s = true ∧ (¬ held) ∧ known ∧ createUnit s id = none :=
  ⟨1, 0, filled 4 up, by decide +kernel, by decide +kernel, by decide +kernel, createUnit_filled⟩

theorem test_meets_ContextsAndControlWords_7 : ∃ (c : CtxId) (s : State),
    let id := c.val
    let held := (ctxPlace s id).isSome = true
    let home := homeUnit id
    let counted := { afterPins s with ctxAt := tabSet 0 (afterPins s).ctxAt id (home * 256 + 1) }
    Safety.tablesOk s = true ∧ held ∧ ctxUnit s id ≠ home ∧ id ∉ s.pinMoves ∧ boundHolds counted home = false :=
  ⟨9, { withContexts up with loaf := some { loaf with images := [{ image false with f := 120001 }] } }, by decide +kernel⟩

theorem test_meets_ContextsAndControlWords_8 : ∃ (c : CtxId) (s : State),
    let id := c.val
    let held := (ctxPlace s id).isSome = true
    let home := homeUnit id
    let counted := { afterPins s with ctxAt := tabSet 0 (afterPins s).ctxAt id (home * 256 + 1) }
    Safety.tablesOk s = true ∧ held ∧ ctxUnit s id ≠ home ∧ id ∉ s.pinMoves ∧ boundHolds counted home = true ∧ handlesLeft s
      home = 0 :=
  ⟨1280, { up with ctxAt := ((List.range 256).map fun i => (1024 + i, 5 * 256 + i + 1)) ++ [(1280, 4 * 256 + 1)] },
    by decide +kernel⟩

theorem test_meets_ContextsAndControlWords_9 : ∃ (c : CtxId) (s : State),
    let id := c.val
    let held := (ctxPlace s id).isSome = true
    let home := homeUnit id
    let counted := { afterPins s with ctxAt := tabSet 0 (afterPins s).ctxAt id (home * 256 + 1) }
    Safety.tablesOk s = true ∧ held ∧ ctxUnit s id ≠ home ∧ id ∉ s.pinMoves ∧ boundHolds counted home = true ∧ handlesLeft s
      home ≠ 0 ∧ (4 ≤ (s.pinMoves.filter fun k => homeUnit k == home).length) :=
  ⟨9, { withContexts up with pinMoves := [41, 42, 43, 44] }, by decide +kernel⟩

theorem test_meets_ContextsAndControlWords_10 : ∃ (side : Fin 2) (lane : Fin 64) (ad : BitVec 24) (s : State),
    Safety.tablesOk s = true ∧ ad.toNat = laneAddr side.val lane.val 2 :=
  ⟨1, 63, BitVec.ofNat 24 (laneAddr 1 63 2), withContexts up, by decide +kernel⟩

theorem test_meets_ContextsAndControlWords_11 : ∃ (ad : BitVec 24) (s : State),
    Safety.tablesOk s = true ∧ ad.toNat = ctlAddr clsCen 0 0x84 :=
  ⟨BitVec.ofNat 24 (ctlAddr clsCen 0 0x84), withContexts up, by decide +kernel⟩

theorem test_meets_ContextsAndControlWords_12 : ∃ (ad : BitVec 24) (s : State),
    Safety.tablesOk s = true ∧ ad.toNat = ctlAddr clsCen 0 1 :=
  ⟨BitVec.ofNat 24 (ctlAddr clsCen 0 1), withContexts up, by decide +kernel⟩

theorem test_meets_ContextsAndControlWords_13 : ∃ (p : Fin 4) (ad : BitVec 24) (s : State),
    Safety.tablesOk s = true ∧ ad.toNat = vloopAddr p.val 0 :=
  ⟨3, BitVec.ofNat 24 (vloopAddr 3 0), withContexts up, by decide +kernel⟩

theorem test_meets_ContextsAndControlWords_14 : ∃ (p : Fin 4) (ad : BitVec 24) (s : State),
    Safety.tablesOk s = true ∧ ad.toNat = audCfgAddr p.val :=
  ⟨3, BitVec.ofNat 24 (audCfgAddr 3), withContexts up, by decide +kernel⟩

theorem test_meets_ContextsAndControlWords_15 : ∃ (ch : Fin 8) (ad : BitVec 24) (s : State),
    Safety.tablesOk s = true ∧ ad.toNat = owCfgAddr ch.val :=
  ⟨7, BitVec.ofNat 24 (owCfgAddr 7), withContexts up, by decide +kernel⟩

theorem test_meets_ContextsAndControlWords_16 : ∃ (n : Fin 2) (ad : BitVec 24) (s : State),
    Safety.tablesOk s = true ∧ ad.toNat = recCfgAddr n.val :=
  ⟨1, BitVec.ofNat 24 (recCfgAddr 1), withContexts up, by decide +kernel⟩

theorem test_meets_ContextsAndControlWords_17 : ∃ (ad : BitVec 24) (s : State),
    Safety.tablesOk s = true ∧ ad.toNat = ctlAddr clsClk 0 0 :=
  ⟨BitVec.ofNat 24 (ctlAddr clsClk 0 0), withContexts up, by decide +kernel⟩

theorem test_meets_ContextsAndControlWords_18 : ∃ (d : Fin 56) (ad : BitVec 24) (s : State),
    Safety.tablesOk s = true ∧ ad.toNat = ctlAddr clsPwr d.val 0 :=
  ⟨55, BitVec.ofNat 24 (ctlAddr clsPwr 55 0), withContexts up, by decide +kernel⟩

theorem test_meets_ContextsAndControlWords_19 : ∃ (ad : BitVec 24) (s : State),
    Safety.tablesOk s = true ∧ ad.toNat = ctlAddr clsMate 0 0 :=
  ⟨BitVec.ofNat 24 (ctlAddr clsMate 0 0), withContexts up, by decide +kernel⟩

theorem test_meets_PowerResetAndStart : ∃ (s : State),
    let ready := s.phase = .released ∧ s.sec.keyed = true
    let n := s.nvm
    Safety.tablesOk s = true ∧ s.phase = .off ∧ s.vinHigh = false ∧ (s.phase ≠ .off ∨ s.vinHigh = false) ∧ (s.phase = .off ∨
      s.phase = .dormant) ∧ s.phase ≠ .inReset ∧ s.phase ≠ .released ∧ (¬ ready) ∧ (s.mode ≠ .boot ∨ s.sec.fw = none) ∧
      (s.mode ≠ .boot ∨ s.sec.started = false ∨ n.starter.current = none) ∧ (powered s = false ∨ s.perst = true) ∧ n.busy =
      none :=
  ⟨{ up with phase := .off, vinHigh := false }, by decide +kernel⟩

theorem test_meets_PowerResetAndStart_2 : ∃ (s : State),
    Safety.tablesOk s = true ∧ (s.phase ≠ .off ∨ s.vinHigh = true) ∧ s.phase = .off ∧ s.vinHigh = true :=
  ⟨{ up with phase := .off, vinHigh := true }, by decide +kernel⟩

theorem test_meets_PowerResetAndStart_3 : ∃ (s : State),
    Safety.tablesOk s = true ∧ s.phase ≠ .off :=
  ⟨{ up with phase := .dormant, perst := true }, by decide +kernel⟩

theorem test_meets_PowerResetAndStart_4 : ∃ (s : State),
    Safety.tablesOk s = true ∧ s.phase ≠ .off ∧ s.phase ≠ .dormant ∧ s.phase = .inReset :=
  ⟨{ up with phase := .inReset }, by decide +kernel⟩

theorem test_meets_PowerResetAndStart_5 : ∃ (s : State),
    let ready := s.phase = .released ∧ s.sec.keyed = true
    Safety.tablesOk s = true ∧ s.phase = .released ∧ ready ∧ s.mode = .sealed ∧ ownerKey s = none ∧ powered s = true ∧
      s.perst = false :=
  ⟨{ up with phase := .released, mode := .sealed }, by decide +kernel⟩

theorem test_meets_PowerResetAndStart_6 : ∃ (s : State),
    let ready := s.phase = .released ∧ s.sec.keyed = true
    let f := (true, 4)
    let n := s.nvm
    let u := { svn := 2, lines := [], valid := true }
    let v := { svn := 4, lines := [], valid := true }
    Safety.tablesOk s = true ∧ ready ∧ s.mode = .sealed ∧ (ownerKey s).isSome = true ∧ bootBank s = some f ∧ candidate s
      n.fwA = some u ∧ candidate s n.fwB = some v :=
  ⟨banked (some { svn := 2, lines := [], valid := true }) (some { svn := 4, lines := [], valid := true }) { up with phase := .released, mode := .sealed },
    by decide +kernel⟩

theorem test_meets_PowerResetAndStart_7 : ∃ (s : State),
    let ready := s.phase = .released ∧ s.sec.keyed = true
    Safety.tablesOk s = true ∧ ready ∧ s.mode = .sealed ∧ (ownerKey s).isSome = true ∧ bootBank s = none :=
  ⟨banked none none { up with phase := .released, mode := .sealed }, by decide +kernel⟩

theorem test_meets_PowerResetAndStart_8 : ∃ (s : State),
    Safety.tablesOk s = true ∧ s.mode = .boot ∧ s.sec.fw.isSome = true :=
  ⟨{ up with mode := .boot, sec := { up.sec with fw := some (true, 3) } }, by decide +kernel⟩

theorem test_meets_PowerResetAndStart_9 : ∃ (s : State),
    let n := s.nvm
    let m := 1
    let y := { valid := true, loaf := some loaf }
    let l := loaf
    Safety.tablesOk s = true ∧ s.mode = .boot ∧ s.sec.started = true ∧ n.starter.current = some (m, y) ∧ y.loaf = some l ∧
      starterLoafOk s y l = false :=
  ⟨booting { valid := true, loaf := some loaf }, by decide +kernel⟩

theorem test_meets_PowerResetAndStart_10 : ∃ (s : State),
    let n := s.nvm
    let j := .pair [4]
    Safety.tablesOk s = true ∧ n.busy = some j :=
  ⟨{ up with nvm := { up.nvm with busy := some (.pair [4]) } }, by decide +kernel⟩

theorem test_meets_PowerResetAndStart_11 : ∃ (s : State),
    let n := s.nvm
    let m := 1
    let y := { valid := true, loaf := some (parseLoaf 0 haltLoaf) }
    let l := parseLoaf 0 haltLoaf
    Safety.tablesOk s = true ∧ s.mode = .boot ∧ s.sec.started = true ∧ n.starter.current = some (m, y) ∧ y.loaf = some l ∧
      starterLoafOk s y l = true ∧ s.rdn.grant = false :=
  ⟨booting { valid := true, loaf := some (parseLoaf 0 haltLoaf) }, by decide +kernel⟩

theorem test_meets_CountersAreWrittenAndCleared : ∃ (e : EngId) (k : Fin 8) (s : State),
    let pc := fun (i : Nat) => pcAddr e.val i
    let frozen := fun (i : Nat) => (cwGet s (pc 0x18)).getLsbD (28 + i) = true
    Safety.tablesOk s = true ∧ frozen k.val ∧ s.phase ≠ .off ∧ s.phase = .dormant :=
  ⟨64, 7, withCw [(pcAddr 64 0x18, 0x800000000)] { up with phase := .dormant }, by decide +kernel⟩

theorem test_meets_CountersAreWrittenAndCleared_2 : ∃ (e : EngId) (k : Fin 8) (v : Word) (inc : Fin 3) (s : State),
    let pc := fun (i : Nat) => pcAddr e.val i
    let frozen := fun (i : Nat) => (cwGet s (pc 0x18)).getLsbD (28 + i) = true
    let sum := v.toNat + inc.val
    Safety.tablesOk s = true ∧ (¬ frozen k.val) ∧ sum < 2 ^ 36 ∧ s.phase = .off ∧ s.vinHigh = false :=
  ⟨64, 0, 0xFFFFFFFFF, 0, { up with phase := .off, vinHigh := false }, by decide +kernel⟩

theorem test_meets_CountersAreWrittenAndCleared_3 : ∃ (e : EngId) (k : Fin 8) (v : Word) (inc : Fin 3) (s : State),
    let pc := fun (i : Nat) => pcAddr e.val i
    let frozen := fun (i : Nat) => (cwGet s (pc 0x18)).getLsbD (28 + i) = true
    let sum := v.toNat + inc.val
    Safety.tablesOk s = true ∧ (¬ frozen k.val) ∧ 2 ^ 36 ≤ sum :=
  ⟨64, 0, 0xFFFFFFFFF, 1, up, by decide +kernel⟩

theorem test_meets_GuestAndDebugPorts : ∃ (bs : List (Fin 256)) (m : Nat) (v : Word) (s : State),
    let up := powered s = true ∧ domRuns s 48 = true
    let c := Instr.guestAttOff (.read 539)
    let g := s.guest
    Safety.tablesOk s = true ∧ (¬ up) ∧ c ∈
      [Instr.guestAddr (.write bs), .guestAttNonce (.write bs), .guestAttStat (.read m), .guestAttOff (.read m)] ∧ g.stat ≠
      1 ∧ (debugOpen s 1 = false ∨ 64 < fld v 35 29) :=
  ⟨[], 539, 0, { up with phase := .off },
    by decide +kernel, by decide +kernel, (by simp), by decide +kernel, by decide +kernel⟩

theorem test_meets_GuestAndDebugPorts_2 : ∃ (bs : List (Fin 256)) (s : State),
    let up := powered s = true ∧ domRuns s 48 = true
    let g := s.guest
    Safety.tablesOk s = true ∧ up ∧ bs.length ≠ 3 ∧ bs.length ≠ 32 ∧ bs ≠ [] ∧ bs.length ≠ 2 ∧ g.cmd ≠ 0x12 ∧ g.stat = 1 :=
  ⟨[1], { atL0 [48] up with guest := { stat := 1 } }, by decide +kernel⟩

theorem test_meets_GuestAndDebugPorts_3 : ∃ (s : State),
    let up := powered s = true ∧ domRuns s 48 = true
    Safety.tablesOk s = true ∧ up :=
  ⟨atL0 [48] up, by decide +kernel⟩

theorem test_meets_GuestAndDebugPorts_4 : ∃ (s : State),
    let up := powered s = true ∧ domRuns s 48 = true
    Safety.tablesOk s = true ∧ up :=
  ⟨atL0 [48] up, by decide +kernel⟩

theorem test_meets_GuestAndDebugPorts_5 : ∃ (bs : List (Fin 256)) (s : State),
    let up := powered s = true ∧ domRuns s 48 = true
    let g := s.guest
    Safety.tablesOk s = true ∧ up ∧ bs.length = 32 ∧ tickCount s < g.lastAt :=
  ⟨List.replicate 32 255, { atL0 [48] up with guest := { lastAt := tickCount up + 1 } }, by decide +kernel⟩

theorem test_meets_GuestAndDebugPorts_6 : ∃ (bs : List (Fin 256)) (s : State),
    let up := powered s = true ∧ domRuns s 48 = true
    let g := s.guest
    Safety.tablesOk s = true ∧ up ∧ bs.length = 32 ∧ g.lastAt ≤ tickCount s :=
  ⟨List.replicate 32 255, { atL0 [48] up with guest := { lastAt := tickCount up } }, by decide +kernel⟩

theorem test_meets_GuestAndDebugPorts_7 : ∃ (s : State),
    let up := powered s = true ∧ domRuns s 48 = true
    let g := s.guest
    Safety.tablesOk s = true ∧ up ∧ g.cmd = 1 ∧ guestMay s (g.addr % 2 ^ 24) = true :=
  ⟨withCw [(ctlAddr clsCen 0 0x84, 0x800000000)] { atL0 [48] up with guest := { cmd := 1, addr := 0x400021 } },
    by decide +kernel⟩

theorem test_meets_GuestAndDebugPorts_8 : ∃ (s : State),
    let up := powered s = true ∧ domRuns s 48 = true
    let g := s.guest
    Safety.tablesOk s = true ∧ up ∧ g.cmd = 1 ∧ guestMay s (g.addr % 2 ^ 24) = false :=
  ⟨{ atL0 [48] up with guest := { cmd := 1, addr := 0x3C0000 } }, by decide +kernel⟩

theorem test_meets_GuestAndDebugPorts_9 : ∃ (s : State),
    let up := powered s = true ∧ domRuns s 48 = true
    let g := s.guest
    Safety.tablesOk s = true ∧ up ∧ g.cmd = 0x11 :=
  ⟨{ atL0 [48] up with guest := { cmd := 0x11 } }, by decide +kernel⟩

theorem test_meets_GuestAndDebugPorts_10 : ∃ (s : State),
    let up := powered s = true ∧ domRuns s 48 = true
    let g := s.guest
    Safety.tablesOk s = true ∧ up ∧ g.cmd = 0x12 :=
  ⟨{ atL0 [48] up with guest := { cmd := 0x12 } }, by decide +kernel⟩

theorem test_meets_GuestAndDebugPorts_11 : ∃ (w d : List Bool) (s : State),
    let c := Instr.dbgNonce
    Safety.tablesOk s = true ∧ s.phase = .off ∧ c ∈
      [Instr.extest w d, .samplePreload w d, .extestPulse w d, .extestTrain w d, .bypass d, .dbgNonce] :=
  ⟨[true], [], { up with phase := .off }, by decide +kernel, by decide +kernel, (by simp)⟩

theorem test_meets_GuestAndDebugPorts_12 : ∃ (ad : BitVec 24) (v : Word) (ls : List (BitVec 288)) (s : State),
    let c := Instr.dbgTrace
    Safety.tablesOk s = true ∧ powered s = false ∧ c ∈ [Instr.dbgToken ls true, .dbgCfg true ad v, .dbgTrace] :=
  ⟨0, 0, [], { up with phase := .off }, by decide +kernel, by decide +kernel, (by simp)⟩

theorem test_meets_GuestAndDebugPorts_13 : ∃ (ad : BitVec 24) (v : Word) (ls : List (BitVec 288)) (s : State),
    let a := ad.toNat
    let bit := if a = traceSelAddr then 1 else 0
    Safety.tablesOk s = true ∧ powered s = true ∧ (s.mode ≠ .test ∧ s.mode ≠ .quarantine ∨ tokenBodyOk s ls = false) ∧
      debugOpen s bit = true ∧ (a = traceSelAddr ∨ rootOnly a = false) ∧ debugOpen s 1 = true ∧ fld v 35 29 ≤ 64 :=
  ⟨BitVec.ofNat 24 traceSelAddr, 0, [], unlocked 3, by decide +kernel⟩

theorem test_meets_GuestAndDebugPorts_14 : ∃ (ad : BitVec 24) (s : State),
    let a := ad.toNat
    Safety.tablesOk s = true ∧ powered s = true ∧ debugOpen s 0 = true ∧ a ≠ traceSelAddr ∧ rootOnly a = false ∧ (wordStore
      a).isSome = true :=
  ⟨BitVec.ofNat 24 (laneAddr 0 8 0), unlocked 3, by decide +kernel⟩

theorem test_meets_GuestAndDebugPorts_15 : ∃ (ad : BitVec 24) (s : State),
    let a := ad.toNat
    let bit := if a = traceSelAddr then 1 else 0
    Safety.tablesOk s = true ∧ s.phase ≠ .off ∧ powered s = true ∧ debugOpen s bit = false ∧ debugOpen s 1 = false :=
  ⟨0, up, by decide +kernel⟩

theorem test_meets_TheTickRuns : ∃ (m : Meas) (s : State),
    let c := Instr.passStart
    Safety.tablesOk s = true ∧ powered s = false ∧ c ∈
      [Instr.tickBoundary m, .passStart, .passOverrun, .commitWindow, .tier1DeltaSeal] :=
  ⟨{ vin := 480, pIn := 0, tj0 := 40, tj1 := 41, tjHub := 39 }, { up with phase := .off },
    by decide +kernel, by decide +kernel, (by simp)⟩

theorem test_meets_TheTickRuns_2 : ∃ (s : State),
    let up := powered s = true
    let holds := s.ilk = .holding ∧ (s.mode = .active ∨ (s.mode = .takeover ∧ s.rdn.applied = true))
    Safety.tablesOk s = true ∧ up ∧ holds ∧ s.rdn.sweepTx = none ∧ linkOn s = false :=
  ⟨up, by decide +kernel⟩

theorem test_meets_TheTickRuns_3 : ∃ (s : State),
    let up := powered s = true
    let holds := s.ilk = .holding ∧ (s.mode = .active ∨ (s.mode = .takeover ∧ s.rdn.applied = true))
    let new := starterOf s
    let delta : MateMsg := .tier1 s.tick s.wrap (deltaOf s.bank new)
    let refresh : MateMsg := .tier2 s.tick s.wrap (tier2Entries s)
    Safety.tablesOk s = true ∧ up ∧ holds ∧ s.mode = .active ∧ s.rdn.sweepTx = none ∧ linkOn s = true ∧ s.link.st = .up ∧
      msgLines delta + msgLines refresh ≤ s.link.cr :=
  ⟨withCw [(ctlAddr clsMate 0 0, 0x800000000)] (linked { st := .up, cr := 32768 }), by decide +kernel⟩

theorem test_meets_TheTickRuns_4 : ∃ (s : State),
    let holds := s.ilk = .holding ∧ (s.mode = .active ∨ (s.mode = .takeover ∧ s.rdn.applied = true))
    Safety.tablesOk s = true ∧ (¬ holds) :=
  ⟨{ up with mode := .standby }, by decide +kernel⟩

theorem test_meets_QuarantineIsLeftOnlyThroughReset : ∃ (c : Instr) (s t : State),
    s.phase = .running ∧ s.mode = .quarantine ∧ exec c s = .next t :=
  ⟨.vinPowerOn, { up with mode := .quarantine }, { up with mode := .quarantine }, by decide +kernel, by decide +kernel, rfl⟩

theorem test_meets_EveryStepKeepsTheTables : ∃ (s t : State),
    Safety.tablesOk s = true ∧ Safety.startersOk s = true ∧ step s = .next t :=
  ⟨{ up with pending := [.vinPowerOn] }, up, by decide +kernel, by decide +kernel, rfl⟩

end Sys2Proof.Tests
end

section
/-! PROOFS. Fields of words, addresses of control words, and what a write to a control word runs. -/

namespace Sys2Proof.Machine

/-! ### Fields and addresses -/

theorem fld_eq (v : Word) (hi lo : Nat) : fld v hi lo = v.toNat / 2 ^ lo % 2 ^ (hi + 1 - lo) := by
  simp [fld, bitsOf, Nat.shiftRight_eq_div_pow]

theorem bitsOf_eq (w hi lo : Nat) : bitsOf w hi lo = w / 2 ^ lo % 2 ^ (hi + 1 - lo) := by
  simp [bitsOf, Nat.shiftRight_eq_div_pow]

section Address
variable {c n i : Nat} (hc : c < 64) (hn : n < 64) (hi : i < 4096)
include hn hi

theorem ctlAddr_div : ctlAddr c n i / 2 ^ 18 = c := by unfold ctlAddr; omega
theorem ctlAddr_num : ctlAddr c n i / 4096 % 64 = n := by unfold ctlAddr; omega
omit hn in
theorem ctlAddr_idx : ctlAddr c n i % 4096 = i := by unfold ctlAddr; omega

theorem ctlNum_ctlAddr : ctlNum (ctlAddr c n i) = n := by simp only [ctlNum, bitsOf_eq, ctlAddr]; omega
omit hn in
theorem ctlIdx_ctlAddr : ctlIdx (ctlAddr c n i) = i := by simp only [ctlIdx, bitsOf_eq, ctlAddr]; omega
include hc in
theorem ctlClass_ctlAddr : ctlClass (ctlAddr c n i) = c := by simp only [ctlClass, bitsOf_eq, ctlAddr]; omega

theorem wordStore_lane : wordStore (ctlAddr clsLane n i) = laneStore i := by
  simp only [wordStore, ctlAddr_div hn hi, ctlAddr_idx hi]; rfl
theorem wordStore_clk : wordStore (ctlAddr clsClk n i) = clkStore n i := by
  simp only [wordStore, ctlAddr_div hn hi, ctlAddr_num hn hi, ctlAddr_idx hi]; rfl
theorem wordStore_aud : wordStore (ctlAddr clsAud n i) = if n ≤ 3 then audStore i else none := by
  simp only [wordStore, ctlAddr_div hn hi, ctlAddr_num hn hi, ctlAddr_idx hi]; rfl
theorem wordStore_pwr : wordStore (ctlAddr clsPwr n i) = pwrStore n i := by
  simp only [wordStore, ctlAddr_div hn hi, ctlAddr_num hn hi, ctlAddr_idx hi]; rfl
end Address

/-! ### A write by its class -/

section Class
variable {src n i : Nat} {b p s : State} {v : Word} (hn : n < 64) (hi : i < 4096)
include hn hi

theorem applyWord_lane (h : laneStore i ≠ none) :
    applyWord src b p (ctlAddr clsLane n i) v s = writeLane p (ctlAddr clsLane n i) v s := by
  unfold applyWord
  rw [wordStore_lane hn hi, ctlClass_ctlAddr (by decide) hn hi, if_neg (by simpa using h)]; rfl
theorem applyWord_clk (h : clkStore n i ≠ none) :
    applyWord src b p (ctlAddr clsClk n i) v s = writeClk (ctlAddr clsClk n i) v s := by
  unfold applyWord
  rw [wordStore_clk hn hi, ctlClass_ctlAddr (by decide) hn hi, if_neg (by simpa using h)]; rfl
theorem applyWord_aud (h : n ≤ 3) (h' : audStore i ≠ none) :
    applyWord src b p (ctlAddr clsAud n i) v s = writeAud (ctlAddr clsAud n i) v s := by
  unfold applyWord
  rw [wordStore_aud hn hi, ctlClass_ctlAddr (by decide) hn hi, if_pos h, if_neg (by simpa using h')]; rfl
theorem applyWord_pwr (h : pwrStore n i ≠ none) :
    applyWord src b p (ctlAddr clsPwr n i) v s = writePwr (ctlAddr clsPwr n i) v s := by
  unfold applyWord
  rw [wordStore_pwr hn hi, ctlClass_ctlAddr (by decide) hn hi, if_neg (by simpa using h)]; rfl
end Class

end Sys2Proof.Machine
end

section
/-! PROOFS. Contexts: what a context reads after it is created, changed or deleted, and the operations of HOST_CTX_OP. -/

namespace Sys2Proof.Machine

/-! ### Tables -/

/-- A table filtered by key reads as before where the key is kept, and as unlisted elsewhere. -/
theorem tabGet_filter_key {α : Type} (d : α) (q : Nat → Bool) (i : Nat) :
    (t : Tab α) → tabGet d (t.filter fun e => q e.1) i = if q i then tabGet d t i else d
  | [] => by simp [tabGet]
  | (k, v) :: t => by
    have ih := tabGet_filter_key d q i t
    by_cases e : i = k
    · subst e
      by_cases hq : q i = true <;> simp_all [tabGet]
    · by_cases hq : q k = true <;> simp [tabGet, hq, e, ih]

section Canonical
variable {s : State} (h : Safety.tablesOk s = true)
include h

theorem tablesOk_cw : tabWf cwReset s.cw = true := by
  simp only [Safety.tablesOk, Safety.coreTables, Bool.and_eq_true] at h; tauto
theorem tablesOk_ctx : tabWf (fun _ => (0 : Word)) s.ctx = true := by
  simp only [Safety.tablesOk, Safety.coreTables, Bool.and_eq_true] at h; tauto
theorem tablesOk_ctxAt : tabWf (fun _ => (0 : Nat)) s.ctxAt = true := by
  simp only [Safety.tablesOk, Safety.coreTables, Bool.and_eq_true] at h; tauto
theorem tablesOk_engines : tabWf (fun _ => ({} : Engine)) s.engines = true := by
  simp only [Safety.tablesOk, Safety.coreTables, Bool.and_eq_true] at h; tauto
theorem tablesOk_mons : tabWf (fun _ => ({} : Mon)) s.mons = true := by
  simp only [Safety.tablesOk, Safety.lineTables, Bool.and_eq_true] at h; tauto

omit h in
theorem keysRise_of_tabWf {α : Type} [DecidableEq α] {d : Nat → α} {t : Tab α} (h : tabWf d t = true) :
    keysRise t = true := by
  simp only [tabWf, Bool.and_eq_true] at h
  exact h.1
end Canonical

/-! ### Words and places of a context -/

theorem ctxPlace_eq_some {s : State} {id n : Nat} (h : tabGet 0 s.ctxAt id = n + 1) : ctxPlace s id = some n := by
  simp only [ctxPlace, h]
theorem ctxPlace_eq_none {s : State} {id : Nat} (h : tabGet 0 s.ctxAt id = 0) : ctxPlace s id = none := by
  simp only [ctxPlace, h]
theorem ctxPlace_congr {s t : State} {id : Nat} (h : tabGet 0 t.ctxAt id = tabGet 0 s.ctxAt id) :
    ctxPlace t id = ctxPlace s id := by
  simp only [ctxPlace, h]

/-- Other words than the one set read as before. -/
theorem ctxWord_ctxSet_ne {id w i j : Nat} {v : Word} {s : State} (h : i * 128 + j ≠ id * 128 + w) :
    ctxWord (ctxSet id w v s) i j = ctxWord s i j := tabGet_tabSet_ne h

/-- In canonical form a context word reads back as set. -/
theorem ctxWord_ctxSet {id w : Nat} {v : Word} {s : State} (h : tabWf (fun _ => (0 : Word)) s.ctx = true) :
    ctxWord (ctxSet id w v s) id w = v := tabGet_tabSet_same (d := fun _ => 0) h

/-- A cleared context reads 0 everywhere, every other one as before. -/
theorem ctxWord_clearCtx (id i w : Nat) (s : State) :
    ctxWord (clearCtx id s) i w = if (i * 128 + w) / 128 = id then 0 else ctxWord s i w := by
  have h := tabGet_filter_key (0 : Word) (fun k => decide (k / 128 ≠ id)) (i * 128 + w) s.ctx
  show tabGet 0 (s.ctx.filter _) _ = _
  rw [h]
  by_cases e : (i * 128 + w) / 128 = id <;> simp [e, ctxWord]

theorem clearCtx_ctx_ok {id : Nat} {s : State} (h : tabWf (fun _ => (0 : Word)) s.ctx = true) :
    tabWf (fun _ => (0 : Word)) (clearCtx id s).ctx = true := tabFilter_ok h

theorem monGet_tabDrop_same {id : Nat} {s t : State} (h : Safety.tablesOk s = true) (ht : t.mons = tabDrop id s.mons) :
    monGet t id = {} := by
  unfold monGet
  rw [ht]
  exact tabGet_tabDrop_same (keysRise_of_tabWf (tablesOk_mons h))

theorem monGet_tabDrop_ne {id : Nat} {s t : State} (ht : t.mons = tabDrop id s.mons) : keeps monGet s t [id] := by
  intro k hk
  unfold monGet
  rw [ht]
  exact tabGet_tabDrop_ne (by simpa using hk)

/-! ### Operations of HOST_CTX_OP -/

theorem fld_ctxOpWord {op kind id : Nat} (ho : op < 8) (hk : kind < 16) (hi : id < 16384) :
    fld (mkWord [(33, op), (29, kind), (0, id)]) 35 33 = op ∧ fld (mkWord [(33, op), (29, kind), (0, id)]) 32 29 = kind ∧
      fld (mkWord [(33, op), (29, kind), (0, id)]) 13 0 = id := by
  simp only [fld_eq, mkWord, List.foldl, BitVec.toNat_ofNat]
  omega

theorem kindOk_iff (k : Nat) : kindOk k = true ↔ k = 1 ∨ 8 ≤ k := by simp [kindOk]

section Ops
variable (o : Origin) (kind : Fin 16) (c : CtxId) (s : State)

theorem exec_hostCtxCreate_eq :
    exec (.hostCtxCreate o kind c) s = .next (settle o .word hostOpAddr s (createCtx c.val kind.val s)) := by
  obtain ⟨h1, h2, h3⟩ := fld_ctxOpWord (op := 1) (by decide) kind.isLt c.isLt
  simp only [exec_hostCtxCreate, execHostCtxCreate, ctxOp, applyCtxOp, h1, h2, h3]

theorem exec_hostCtxDelete_eq : exec (.hostCtxDelete o c) s = .next (settle o .word hostOpAddr s
    (if (ctxPlace s c.val).isNone then .error St.ctxAbsent else deleteCtx c.val s)) := by
  obtain ⟨h1, -, h3⟩ := fld_ctxOpWord (op := 2) (kind := 0) (by decide) (by decide) c.isLt
  simp only [exec_hostCtxDelete, execHostCtxDelete, ctxOp, applyCtxOp, h1, h3]
theorem exec_hostCtxSetKind_eq : exec (.hostCtxSetKind o kind c) s = .next (settle o .word hostOpAddr s
    (if (ctxPlace s c.val).isNone then .error St.ctxAbsent else setKind c.val kind.val s)) := by
  obtain ⟨h1, h2, h3⟩ := fld_ctxOpWord (op := 3) (by decide) kind.isLt c.isLt
  simp only [exec_hostCtxSetKind, execHostCtxSetKind, ctxOp, applyCtxOp, h1, h2, h3]
theorem exec_hostCtxSetPin_eq : exec (.hostCtxSetPin o c) s = .next (settle o .word hostOpAddr s
    (if (ctxPlace s c.val).isNone then .error St.ctxAbsent else setPin c.val s)) := by
  obtain ⟨h1, -, h3⟩ := fld_ctxOpWord (op := 4) (kind := 0) (by decide) (by decide) c.isLt
  simp only [exec_hostCtxSetPin, execHostCtxSetPin, ctxOp, applyCtxOp, h1, h3]
theorem exec_hostCtxClearPin_eq : exec (.hostCtxClearPin o c) s = .next (settle o .word hostOpAddr s
    (if (ctxPlace s c.val).isNone then .error St.ctxAbsent else .ok (clearPin c.val s))) := by
  obtain ⟨h1, -, h3⟩ := fld_ctxOpWord (op := 5) (kind := 0) (by decide) (by decide) c.isLt
  simp only [exec_hostCtxClearPin, execHostCtxClearPin, ctxOp, applyCtxOp, h1, h3]
end Ops

/-- An effect that passes its checks applies. -/
theorem applies_ok {o : Origin} {k : RefKind} {a : Nat} {s t : State} {P : State → Prop} (h : P t) :
    applies o k a s (.next (settle o k a s (.ok t))) P := ⟨t, h, rfl⟩

end Sys2Proof.Machine
end

section
/-! PROOFS. O52: contexts created, deleted and changed by HOST_CTX_OP, and control words written by their class. -/

namespace Sys2Proof.Machine

/-! ### CREATE -/

/-- The state in which CREATE has laid a context. -/
def created (id kind u h : Nat) (s : State) : State := ctxSet id 0 (ctxHeader kind id) (layCtx id u h (clearCtx id s))

theorem createCtx_of_unit {id kind u h : Nat} {s : State} (hheld : (ctxPlace s id).isSome ≠ true)
    (hk : kindOk kind = true) (hu : createUnit s id = some (u, h)) :
    createCtx id kind s =
      if boundsHold (created id kind u h s) u then .ok (created id kind u h s) else .error St.passBound := by
  simp only [createCtx, if_neg hheld, hk, hu]
  rfl

/-- What CREATE has laid: the place, the header, every other word 0, nothing else. -/
theorem created_spec {id kind u h : Nat} {s : State} (hs : Safety.tablesOk s = true) :
    let y := created id kind u h s
    ctxPlace y id = some (u * 256 + h) ∧ (∀ i, i ≠ id → ctxPlace y i = ctxPlace s i) ∧
      ctxWord y id 0 = ctxHeader kind id ∧ (∀ w, 1 ≤ w → w < 128 → ctxWord y id w = 0) ∧
      (∀ i w, i * 128 + w < id * 128 ∨ id * 128 + 128 ≤ i * 128 + w → ctxWord y i w = ctxWord s i w) ∧
      monGet y id = {} ∧ keeps monGet s y [id] ∧ y = { s with ctxAt := y.ctxAt, ctx := y.ctx, mons := y.mons } := by
  have hword : ∀ i w, i * 128 + w ≠ id * 128 → ctxWord (created id kind u h s) i w = ctxWord (clearCtx id s) i w :=
    fun i w n => ctxWord_ctxSet_ne (by omega)
  have hat : (created id kind u h s).ctxAt = tabSet 0 s.ctxAt id (u * 256 + h + 1) := rfl
  refine ⟨?_, ?_, ctxWord_ctxSet (clearCtx_ctx_ok (tablesOk_ctx hs)), ?_, ?_, monGet_tabDrop_same hs rfl,
    monGet_tabDrop_ne rfl, rfl⟩
  · exact ctxPlace_eq_some (by rw [hat, tabGet_tabSet_of_ne (by omega)])
  · exact fun i hi => ctxPlace_congr (by rw [hat, tabGet_tabSet_ne hi])
  · intro w h1 h2
    rw [hword _ _ (by omega), ctxWord_clearCtx, if_pos (by omega)]
  · intro i w hiw
    rw [hword _ _ (by omega), ctxWord_clearCtx, if_neg (by omega)]

/-! ### DELETE -/

/-- The state in which DELETE has cleared a context. -/
def deleted (id : Nat) (s : State) : State :=
  ((clearCtx id s).putCtxAt (tabDrop id s.ctxAt)).putPinMoves (s.pinMoves.filter fun k => decide (k ≠ id))

theorem deleted_spec {id : Nat} {s : State} (hs : Safety.tablesOk s = true) :
    let t := deleted id s
    ctxPlace t id = none ∧ (∀ i, i ≠ id → ctxPlace t i = ctxPlace s i) ∧ (∀ w, w < 128 → ctxWord t id w = 0) ∧
      (∀ i w, i * 128 + w < id * 128 ∨ id * 128 + 128 ≤ i * 128 + w → ctxWord t i w = ctxWord s i w) ∧
      monGet t id = {} ∧ keeps monGet s t [id] ∧ id ∉ t.pinMoves ∧
      t = { s with ctxAt := t.ctxAt, ctx := t.ctx, mons := t.mons, pinMoves := t.pinMoves } := by
  have hword : ∀ i w, ctxWord (deleted id s) i w = ctxWord (clearCtx id s) i w := fun _ _ => rfl
  refine ⟨?_, ?_, ?_, ?_, monGet_tabDrop_same hs rfl, monGet_tabDrop_ne rfl, ?_, rfl⟩
  · exact ctxPlace_eq_none (tabGet_tabDrop_same (t := s.ctxAt) (keysRise_of_tabWf (tablesOk_ctxAt hs)))
  · exact fun i hi => ctxPlace_congr (tabGet_tabDrop_ne (t := s.ctxAt) hi)
  · intro w hw
    rw [hword, ctxWord_clearCtx, if_pos (by omega)]
  · intro i w hiw
    rw [hword, ctxWord_clearCtx, if_neg (by omega)]
  · simp [deleted]

/-! ### SET_KIND and the pins -/

/-- A header written: no other word of any context, and nothing else of the state, changes. -/
theorem ctxSet_header_spec {id : Nat} {v : Word} {s : State} (hs : Safety.tablesOk s = true) :
    let t := ctxSet id 0 v s
    ctxWord t id 0 = v ∧ (∀ i w, i * 128 + w ≠ id * 128 → ctxWord t i w = ctxWord s i w) ∧ t = { s with ctx := t.ctx } :=
  ⟨ctxWord_ctxSet (tablesOk_ctx hs), fun _ _ n => ctxWord_ctxSet_ne (by omega), rfl⟩

theorem setPin_in_place {id : Nat} {s : State} (h : ctxUnit s id = homeUnit id ∨ id ∈ s.pinMoves) :
    setPin id s = .ok (ctxSet id 0 (putFld (ctxWord s id 0) 31 31 1) s) := by
  unfold setPin
  exact if_pos (by simpa using h)

/-- The placement against which a pin's move home is judged: the moves of the window made, this one counted. -/
def pinCounted (id : Nat) (s : State) : State :=
  { afterPins s with ctxAt := tabSet 0 (afterPins s).ctxAt id (homeUnit id * 256 + 1) }

theorem setPin_moves {id : Nat} {s : State} (h : ctxUnit s id ≠ homeUnit id) (h' : id ∉ s.pinMoves) :
    setPin id s =
      if boundHolds (pinCounted id s) (homeUnit id) = false then .error St.passBound
      else if handlesLeft s (homeUnit id) = 0 then .error St.limitCtx
      else if 4 ≤ (s.pinMoves.filter fun k => homeUnit k == homeUnit id).length then .error St.resConflict
      else .ok ((ctxSet id 0 (putFld (ctxWord s id 0) 31 31 1) s).putPinMoves (s.pinMoves ++ [id])) := by
  unfold setPin
  rw [if_neg (by simp [h, h'])]
  simp [pinCounted, State.putCtxAt]


/-- A header and the moves of the window written. -/
theorem ctxSet_putPinMoves_spec {id : Nat} {v : Word} {l : List Nat} {s : State} (hs : Safety.tablesOk s = true) :
    let t := (ctxSet id 0 v s).putPinMoves l
    ctxWord t id 0 = v ∧ (∀ i w, i * 128 + w ≠ id * 128 → ctxWord t i w = ctxWord s i w) ∧ t.pinMoves = l ∧
      t = { s with ctx := t.ctx, pinMoves := l } := by
  obtain ⟨h1, h2, -⟩ := ctxSet_header_spec (id := id) (v := v) hs
  exact ⟨h1, h2, rfl, rfl⟩

theorem clearPin_spec {id : Nat} {s : State} (hs : Safety.tablesOk s = true) :
    let t := clearPin id s
    ctxWord t id 0 = putFld (ctxWord s id 0) 31 31 0 ∧
      (∀ i w, i * 128 + w ≠ id * 128 → ctxWord t i w = ctxWord s i w) ∧ id ∉ t.pinMoves ∧
      t = { s with ctx := t.ctx, pinMoves := t.pinMoves } := by
  unfold clearPin
  obtain ⟨h1, h2, h3, h4⟩ := ctxSet_putPinMoves_spec (id := id) (v := putFld (ctxWord s id 0) 31 31 0)
    (l := (ctxSet id 0 (putFld (ctxWord s id 0) 31 31 0) s).pinMoves.filter fun k => decide (k ≠ id)) hs
  refine ⟨h1, h2, ?_, h4⟩
  rw [h3]
  simp

end Sys2Proof.Machine
end

section
namespace Sys2Proof.Machine

/-! ### Control words written by their class -/

section Writes
variable {o : Origin} {ad : BitVec 24} {v : Word} {s : State}

/-- A write to an address lands as what its class writes there. -/
theorem exec_controlWordWrite_at {a : Nat} {r : Applied} (h : ad.toNat = a)
    (hr : ∀ plan, applyWord (srcNumber o.src) s plan a v s = r) :
    exec (.controlWordWrite o ad v) s = .next (settle o .word a s r) := by
  rw [exec_controlWordWrite, execControlWordWrite, h, hr]

theorem controlWordWrite_reserved (h : wordStore ad.toNat = none) :
    exec (.controlWordWrite o ad v) s = .next (refuse o 0x02 .word ad.toNat s) :=
  exec_controlWordWrite_at rfl fun _ => if_pos (by rw [h]; rfl)

/-- A stored word changed alone. -/
theorem cwSet_spec {a : Nat} {x : Word} (hs : Safety.tablesOk s = true) :
    cwGet (cwSet a x s) a = x ∧ cwKept s (cwSet a x s) [a] ∧ cwSet a x s = { s with cw := (cwSet a x s).cw } :=
  ⟨cwGet_cwSet (tablesOk_cw hs), fun _ hb => cwGet_cwSet_ne (by simpa using hb), rfl⟩

theorem controlWordWrite_laneEvents {side : Fin 2} {lane : Fin 64} (hs : Safety.tablesOk s = true)
    (h : ad.toNat = laneAddr side.val lane.val 2) :
    applies o .word ad.toNat s (exec (.controlWordWrite o ad v) s) fun t =>
      cwGet t ad.toNat = cwGet s ad.toNat &&& ~~~(v &&& 0xF80000000) ∧ cwKept s t [ad.toNat] ∧
        t = { s with cw := t.cw } := by
  have hi : side.val * 0x800 + 2 < 4096 := by omega
  have hw : idxWord (side.val * 0x800 + 2) = 2 := by simp only [idxWord]; omega
  rw [exec_controlWordWrite_at (r := .ok (clearOnes ad.toNat 0xF80000000 v s)) rfl]
  · exact applies_ok (cwSet_spec hs)
  intro plan
  rw [h, laneAddr, applyWord_lane lane.isLt hi]
  · simp only [writeLane, ctlIdx_ctlAddr hi, hw]
    rfl
  · have hm : (side.val * 0x800 + 2) % 0x800 = 2 := hw
    simp [laneStore, hm]

theorem controlWordWrite_censusCtrl (hs : Safety.tablesOk s = true) (h : ad.toNat = ctlAddr clsCen 0 0x84) :
    applies o .word ad.toNat s (exec (.controlWordWrite o ad v) s) fun t =>
      cwGet t ad.toNat = (v &&& BitVec.ofNat 36 ((wordStore ad.toNat).getD 0)) ∧ cwKept s t [ad.toNat] ∧
        t = { s with cw := t.cw } := by
  rw [exec_controlWordWrite_at (r := .ok (storeWord ad.toNat v s)) rfl]
  · exact applies_ok (cwSet_spec hs)
  · intro plan
    rw [h]
    rfl

theorem controlWordWrite_census (h : ad.toNat = ctlAddr clsCen 0 1) :
    applies o .word ad.toNat s (exec (.controlWordWrite o ad v) s) fun t => t = s := by
  rw [exec_controlWordWrite_at (r := .ok s) rfl]
  · exact applies_ok rfl
  · intro plan
    rw [h]
    rfl

theorem controlWordWrite_vloop {p : Fin 4} (h : ad.toNat = vloopAddr p.val 0) :
    exec (.controlWordWrite o ad v) s = exec (.vloopCtrl p ⟨o, v⟩) s := by
  rw [exec_vloopCtrl, execVloopCtrl]
  refine exec_controlWordWrite_at h fun plan => ?_
  have hi : 0x10 + 2 * p.val + 0 < 4096 := by omega
  rw [vloopAddr, applyWord_pwr (by decide) hi]
  · simp only [writePwr, ctlNum_ctlAddr (n := 63) (by decide) hi, ctlIdx_ctlAddr hi]
    simp only [show ¬ (63 ≤ 55) by decide, show ¬ (0x10 + 2 * p.val + 0 = 0) by omega,
      show (0x10 + 2 * p.val + 0) % 2 = 0 by omega, show (0x10 + 2 * p.val + 0 - 0x10) / 2 = p.val by omega, if_false, if_true]
    rw [if_pos (by simp; omega)]
  · have h1 : ¬ (0x10 + 2 * p.val ≤ 2) := by omega
    have h2 : 0x10 + 2 * p.val ≤ 0x17 := by omega
    simp [pwrStore, h1, h2]

theorem controlWordWrite_audCfg {p : Fin 4} (h : ad.toNat = audCfgAddr p.val) :
    exec (.controlWordWrite o ad v) s = exec (.audCfg p ⟨o, v⟩) s := by
  rw [exec_audCfg, execAudCfg]
  refine exec_controlWordWrite_at h fun plan => ?_
  rw [audCfgAddr, applyWord_aud (by omega) (by decide) (by omega) (by decide), writeAud, ctlNum_ctlAddr (by omega) (by decide),
    ctlIdx_ctlAddr (by decide)]
  rfl

theorem controlWordWrite_owCfg {c : Fin 8} (h : ad.toNat = owCfgAddr c.val) :
    exec (.controlWordWrite o ad v) s = exec (.owCfg c ⟨o, v⟩) s := by
  rw [exec_owCfg, execOwCfg]
  refine exec_controlWordWrite_at h fun plan => ?_
  have hn : c.val / 2 < 64 := by omega
  have hi : 0x10 + c.val % 2 < 4096 := by omega
  rw [owCfgAddr, applyWord_aud hn hi (by omega), writeAud, ctlNum_ctlAddr hn hi, ctlIdx_ctlAddr hi]
  · simp only [show ¬ (0x10 + c.val % 2 = 0) by omega, show ¬ (0x10 + c.val % 2 = 2) by omega, if_false,
      show 2 * (c.val / 2) + (0x10 + c.val % 2 - 0x10) = c.val by omega]
    exact if_pos (by simp; omega)
  · obtain e | e : c.val % 2 = 0 ∨ c.val % 2 = 1 := by omega
    all_goals rw [e]; decide

theorem controlWordWrite_recClk {n : Fin 2} (h : ad.toNat = recCfgAddr n.val) :
    exec (.controlWordWrite o ad v) s = exec (.recClkCfg n ⟨o, v⟩) s := by
  rw [exec_recClkCfg, execRecClkCfg]
  refine exec_controlWordWrite_at h fun plan => ?_
  have hi : 0x10 + n.val < 4096 := by omega
  rw [recCfgAddr, applyWord_clk (by decide) hi, writeClk, ctlNum_ctlAddr (by decide) hi, ctlIdx_ctlAddr hi]
  · simp only [show ¬ (0x10 + n.val = 0) by omega, show ¬ (0x10 + n.val = 2) by omega, if_false,
      Nat.add_sub_cancel_left]
    exact if_pos (by simp; omega)
  · obtain e | e : n.val = 0 ∨ n.val = 1 := by omega
    all_goals rw [e]; decide

theorem controlWordWrite_syncCtrl (h : ad.toNat = ctlAddr clsClk 0 0) :
    exec (.controlWordWrite o ad v) s = exec (.clkSyncCtrl ⟨o, v⟩) s :=
  exec_controlWordWrite_at h fun _ => rfl

theorem controlWordWrite_domReq {d : Fin 56} (h : ad.toNat = ctlAddr clsPwr d.val 0) :
    exec (.controlWordWrite o ad v) s = exec (.pwrDomReq d ⟨o, v⟩) s := by
  rw [exec_pwrDomReq, execPwrDomReq]
  refine exec_controlWordWrite_at h fun plan => ?_
  have hd : d.val ≤ 55 := by omega
  rw [applyWord_pwr (by omega) (by decide) (by simp [pwrStore, hd]), writePwr, ctlNum_ctlAddr (by omega) (by decide)]
  exact if_pos hd

theorem controlWordWrite_mateCtrl (h : ad.toNat = ctlAddr clsMate 0 0) :
    exec (.controlWordWrite o ad v) s = exec (.mateLinkEn ⟨o, v⟩) s :=
  exec_controlWordWrite_at h fun _ => rfl

end Writes

/-! ### The statement -/

section Operations
variable {o : Origin} {kind : Fin 16} {c : CtxId} {s : State}

theorem hostCtxCreate_of_held (h : (ctxPlace s c.val).isSome = true) :
    exec (.hostCtxCreate o kind c) s = .next (refuse o 0x60 .word hostOpAddr s) := by
  simp only [exec_hostCtxCreate_eq, createCtx, h, if_true]
  rfl

theorem hostCtxCreate_of_kind (h : ¬ (ctxPlace s c.val).isSome = true) (hk : ¬ (kind.val = 1 ∨ 8 ≤ kind.val)) :
    exec (.hostCtxCreate o kind c) s = .next (refuse o 0x02 .word hostOpAddr s) := by
  rw [← kindOk_iff, Bool.not_eq_true] at hk
  simp only [exec_hostCtxCreate_eq, createCtx, if_neg h, hk]
  rfl

theorem hostCtxCreate_of_full (h : ¬ (ctxPlace s c.val).isSome = true) (hk : kind.val = 1 ∨ 8 ≤ kind.val)
    (hu : createUnit s c.val = none) :
    exec (.hostCtxCreate o kind c) s = .next (refuse o 0x10 .word hostOpAddr s) := by
  rw [← kindOk_iff] at hk
  simp only [exec_hostCtxCreate_eq, createCtx, if_neg h, hk, hu]
  rfl

/-- Where an effect is judged, what it settles to. -/
theorem settle_ite {a : Nat} {b : Bool} {st : Nat} {y : State} :
    settle o .word a s (if b then .ok y else .error st) =
      if b then (if overgrows s y then refuse o St.limitStarter .word a s else y) else refuse o st .word a s := by
  cases b <;> rfl

theorem hostCtxCreate_of_unit {u h : Nat} (hs : Safety.tablesOk s = true) (hheld : ¬ (ctxPlace s c.val).isSome = true)
    (hk : kind.val = 1 ∨ 8 ≤ kind.val) (hu : createUnit s c.val = some (u, h)) :
    ∃ y, ctxPlace y c.val = some (u * 256 + h) ∧ (∀ i, i ≠ c.val → ctxPlace y i = ctxPlace s i) ∧
      ctxWord y c.val 0 = mkWord [(32, kind.val), (0, c.val)] ∧ (∀ w, 1 ≤ w → w < 128 → ctxWord y c.val w = 0) ∧
      (∀ i w, i * 128 + w < c.val * 128 ∨ c.val * 128 + 128 ≤ i * 128 + w → ctxWord y i w = ctxWord s i w) ∧
      monGet y c.val = {} ∧ keeps monGet s y [c.val] ∧ y = { s with ctxAt := y.ctxAt, ctx := y.ctx, mons := y.mons } ∧
      exec (.hostCtxCreate o kind c) s = .next
        (if boundsHold y u then (if overgrows s y then refuse o 0x15 .word hostOpAddr s else y)
          else refuse o 0x0C .word hostOpAddr s) := by
  obtain ⟨h1, h2, h3, h4, h5, h6, h7, h8⟩ := created_spec (id := c.val) (kind := kind.val) (u := u) (h := h) hs
  refine ⟨_, h1, h2, h3, h4, h5, h6, h7, h8, ?_⟩
  rw [exec_hostCtxCreate_eq, createCtx_of_unit hheld ((kindOk_iff _).2 hk) hu, settle_ite]
  rfl

theorem hostCtxOp_of_absent (h : ¬ (ctxPlace s c.val).isSome = true) : ∀ x, x ∈ [Instr.hostCtxDelete o c,
    .hostCtxSetKind o kind c, .hostCtxSetPin o c, .hostCtxClearPin o c] →
      exec x s = .next (refuse o 0x61 .word hostOpAddr s) := by
  have hn : (ctxPlace s c.val).isNone = true := by simpa using h
  intro x hx
  simp only [List.mem_cons, List.not_mem_nil, or_false] at hx
  obtain rfl | rfl | rfl | rfl := hx
  · rw [exec_hostCtxDelete_eq, if_pos hn]; rfl
  · rw [exec_hostCtxSetKind_eq, if_pos hn]; rfl
  · rw [exec_hostCtxSetPin_eq, if_pos hn]; rfl
  · rw [exec_hostCtxClearPin_eq, if_pos hn]; rfl

section Held
variable (h : (ctxPlace s c.val).isSome = true)
include h

theorem not_isNone_of_held : ¬ (ctxPlace s c.val).isNone = true := by
  simpa [Option.ne_none_iff_isSome] using h

theorem hostCtxDelete_of_named (hn : ctxNamed s c.val = true) :
    exec (.hostCtxDelete o c) s = .next (refuse o 0x09 .word hostOpAddr s) := by
  rw [exec_hostCtxDelete_eq, if_neg (not_isNone_of_held h), deleteCtx, if_pos hn]
  rfl

theorem hostCtxDelete_of_free (hn : ctxNamed s c.val = false) :
    exec (.hostCtxDelete o c) s = .next (settle o .word hostOpAddr s (.ok (deleted c.val s))) := by
  rw [exec_hostCtxDelete_eq, if_neg (not_isNone_of_held h), deleteCtx, if_neg (by simp [hn]), deleted]

theorem hostCtxSetKind_of_kind (hk : ¬ (kind.val = 1 ∨ 8 ≤ kind.val)) :
    exec (.hostCtxSetKind o kind c) s = .next (refuse o 0x02 .word hostOpAddr s) := by
  rw [← kindOk_iff, Bool.not_eq_true] at hk
  simp only [exec_hostCtxSetKind_eq, if_neg (not_isNone_of_held h), setKind, hk]
  rfl

theorem hostCtxSetKind_of_known (hs : Safety.tablesOk s = true) (hk : kind.val = 1 ∨ 8 ≤ kind.val) :
    ∃ y, ctxWord y c.val 0 = putFld (ctxWord s c.val 0) 35 32 kind.val ∧
      (∀ i w, i * 128 + w ≠ c.val * 128 → ctxWord y i w = ctxWord s i w) ∧ y = { s with ctx := y.ctx } ∧
      exec (.hostCtxSetKind o kind c) s = .next
        (if boundsHold y (ctxUnit y c.val) && (!y.pinMoves.contains c.val || boundsHold y (homeUnit c.val)) then
          (if overgrows s y then refuse o 0x15 .word hostOpAddr s else y) else refuse o 0x0C .word hostOpAddr s) := by
  obtain ⟨h1, h2, h3⟩ := ctxSet_header_spec (id := c.val) (v := putFld (ctxWord s c.val 0) 35 32 kind.val) hs
  refine ⟨_, h1, h2, h3, ?_⟩
  rw [← kindOk_iff] at hk
  rw [exec_hostCtxSetKind_eq, if_neg (not_isNone_of_held h), setKind, if_neg (by simp [hk]), settle_ite]
  rfl

theorem hostCtxSetPin_of_held : exec (.hostCtxSetPin o c) s = .next (settle o .word hostOpAddr s (setPin c.val s)) := by
  rw [exec_hostCtxSetPin_eq, if_neg (not_isNone_of_held h)]

theorem hostCtxClearPin_of_held :
    exec (.hostCtxClearPin o c) s = .next (settle o .word hostOpAddr s (.ok (clearPin c.val s))) := by
  rw [exec_hostCtxClearPin_eq, if_neg (not_isNone_of_held h)]
end Held

/-- A pin whose context must move home: judged by the bound, the free handles and the moves of the window. -/
theorem hostCtxSetPin_moves (hs : Safety.tablesOk s = true) (h : (ctxPlace s c.val).isSome = true)
    (hu : ctxUnit s c.val ≠ homeUnit c.val) (hp : c.val ∉ s.pinMoves) :
    (boundHolds (pinCounted c.val s) (homeUnit c.val) = false →
      exec (.hostCtxSetPin o c) s = .next (refuse o 0x0C .word hostOpAddr s)) ∧
    (boundHolds (pinCounted c.val s) (homeUnit c.val) = true → handlesLeft s (homeUnit c.val) = 0 →
      exec (.hostCtxSetPin o c) s = .next (refuse o 0x10 .word hostOpAddr s)) ∧
    (boundHolds (pinCounted c.val s) (homeUnit c.val) = true → handlesLeft s (homeUnit c.val) ≠ 0 →
      4 ≤ (s.pinMoves.filter fun k => homeUnit k == homeUnit c.val).length →
      exec (.hostCtxSetPin o c) s = .next (refuse o 0x06 .word hostOpAddr s)) ∧
    (boundHolds (pinCounted c.val s) (homeUnit c.val) = true → handlesLeft s (homeUnit c.val) ≠ 0 →
      (s.pinMoves.filter fun k => homeUnit k == homeUnit c.val).length < 4 →
      applies o .word hostOpAddr s (exec (.hostCtxSetPin o c) s) fun t =>
        ctxWord t c.val 0 = putFld (ctxWord s c.val 0) 31 31 1 ∧
          t = { s with ctx := t.ctx, pinMoves := s.pinMoves ++ [c.val] }) := by
  rw [hostCtxSetPin_of_held h, setPin_moves hu hp]
  refine ⟨fun hb => ?_, fun hb hl => ?_, fun hb hl hm => ?_, fun hb hl hm => ?_⟩
  · rw [if_pos hb]; rfl
  · rw [if_neg (by simp [hb]), if_pos hl]; rfl
  · rw [if_neg (by simp [hb]), if_neg hl, if_pos hm]; rfl
  · rw [if_neg (by simp [hb]), if_neg hl, if_neg (by omega)]
    obtain ⟨h1, -, -, h4⟩ := ctxSet_putPinMoves_spec (id := c.val) (v := putFld (ctxWord s c.val 0) 31 31 1)
      (l := s.pinMoves ++ [c.val]) hs
    exact applies_ok ⟨h1, h4⟩

end Operations

/-- Settles O52: each operation of HOST_CTX_OP by its refusals and by what it leaves, each write by the class of its word. -/
theorem contextsAndControlWords : Obligations.ContextsAndControlWords := by
  unfold Obligations.ContextsAndControlWords
  intro o kind c p ch n d side lane ad v s hs id a known held home others placed write
  refine ⟨hostCtxCreate_of_held, hostCtxCreate_of_kind, hostCtxCreate_of_full, fun u h hh hk hu =>
      hostCtxCreate_of_unit hs hh hk hu, hostCtxOp_of_absent, hostCtxDelete_of_named, fun hh hn => ?_,
    hostCtxSetKind_of_kind, fun hh hk => hostCtxSetKind_of_known hh hs hk, fun hh hm => ?_,
    fun hh hu hp => hostCtxSetPin_moves hs hh hu hp, fun hh => ?_, controlWordWrite_reserved,
    controlWordWrite_laneEvents hs, controlWordWrite_censusCtrl hs, controlWordWrite_census, controlWordWrite_vloop,
    controlWordWrite_audCfg, controlWordWrite_owCfg, controlWordWrite_recClk, controlWordWrite_syncCtrl,
    controlWordWrite_domReq, controlWordWrite_mateCtrl⟩
  · rw [hostCtxDelete_of_free hh hn]
    exact applies_ok (deleted_spec hs)
  · rw [hostCtxSetPin_of_held hh, setPin_in_place hm]
    exact applies_ok (ctxSet_header_spec hs)
  · rw [hostCtxClearPin_of_held hh]
    exact applies_ok (clearPin_spec hs)
end Sys2Proof.Machine
end

section
/-! PROOFS. Engines: what the passing of cycles, the start of a pass and its overrun leave of each engine. -/

namespace Sys2Proof.Machine

/-! ### Engines as put -/

/-- The table of engines is in canonical form. -/
abbrev EnginesOk (s : State) : Prop := tabWf (fun _ => ({} : Engine)) s.engines = true

theorem engGet_congr {s t : State} (h : t.engines = s.engines) (k : Nat) : engGet t k = engGet s k := by
  unfold engGet; rw [h]

theorem engPut_enginesOk {e : Nat} {E : Engine} {s : State} (h : EnginesOk s) : EnginesOk (engPut e E s) := tabSet_ok' h

/-- In canonical form an engine reads back as put. -/
theorem engGet_engPut_same {e : Nat} {E : Engine} {s : State} (h : EnginesOk s) : engGet (engPut e E s) e = E := by
  unfold engGet engPut
  exact tabGet_tabSet_same (d := fun _ => ({} : Engine)) h

/-! ### Cycles that pass (R362) -/

/-- Two engines differ only in the cycles counted. -/
def sameButCycles (E F : Engine) : Prop := F = { E with cyc := F.cyc, tickCyc := F.tickCyc, above := F.above }

theorem sameButCycles.trans {E F G : Engine} (h : sameButCycles E F) (k : sameButCycles F G) : sameButCycles E G := by
  unfold sameButCycles at *
  rw [k, h]

/-- From s to t cycles pass, and nothing else happens to any engine. -/
structure CyclesPass (s t : State) : Prop where
  ok : EnginesOk t
  eng : ∀ k, sameButCycles (engGet s k) (engGet t k)

theorem CyclesPass.trans {r s t : State} (h : CyclesPass r s) (k : CyclesPass s t) : CyclesPass r t :=
  ⟨k.ok, fun e => (h.eng e).trans (k.eng e)⟩

theorem cyclesPass_of_engines {s t : State} (hs : EnginesOk s) (h : t.engines = s.engines) : CyclesPass s t :=
  ⟨by unfold EnginesOk; rw [h]; exact hs, fun k => by rw [engGet_congr h]; rfl⟩

theorem cyclesPass_engPut {s : State} {e : Nat} {E : Engine} (hs : EnginesOk s) (h : sameButCycles (engGet s e) E) :
    CyclesPass s (engPut e E s) := by
  refine ⟨engPut_enginesOk hs, fun k => ?_⟩
  by_cases hk : k = e
  · subst hk
    rw [engGet_engPut_same hs]
    exact h
  · rw [engGet_engPut_ne hk]
    rfl

theorem cyclesPass_pcAdd {s : State} {e k n : Nat} (hs : EnginesOk s) : CyclesPass s (pcAdd e k n s).1 :=
  cyclesPass_of_engines hs (pcAdd_frame (π := State.engines) (fun _ _ => rfl) e k n s rfl)

theorem cyclesPass_pcOwn {s : State} {e k : Nat} {p : Span} (hs : EnginesOk s) : CyclesPass s (pcOwn e k p s).1 := by
  unfold pcOwn
  extract_lets sel code E was now n
  split
  · exact cyclesPass_of_engines hs rfl
  · dsimp only
    split
    · exact cyclesPass_of_engines hs rfl
    · exact cyclesPass_engPut hs rfl

theorem cyclesPass_pcStep {s : State} {e k c : Nat} {p : Span} {b : Bool} (hs : EnginesOk s) :
    CyclesPass s (pcStep e k p b c s).1 := by
  have hovf : CyclesPass s (setOvf e k s) := cyclesPass_of_engines hs rfl
  unfold pcStep
  dsimp only
  split
  · split
    · exact hovf
    · exact cyclesPass_of_engines hs rfl
  · split
    · exact cyclesPass_pcAdd hs
    · exact (cyclesPass_pcOwn hs).trans (cyclesPass_pcAdd (cyclesPass_pcOwn hs).ok)

theorem cyclesPass_pcSteps {e : Nat} {p : Span} (ks : List Nat) : ∀ (b : Bool) (c : Nat) (s : State), EnginesOk s →
    CyclesPass s (pcSteps e p ks b c s) := by
  induction ks with
  | nil => exact fun _ _ _ hs => cyclesPass_of_engines hs rfl
  | cons k ks ih => exact fun b c s hs => (cyclesPass_pcStep hs).trans (ih _ _ _ (cyclesPass_pcStep hs).ok)

theorem cyclesPass_passCycles {s : State} {e : Nat} {p : Span} (hs : EnginesOk s) : CyclesPass s (passCycles e p s) := by
  unfold passCycles
  extract_lets E
  have h := cyclesPass_engPut (E := { E with cyc := (E.cyc + p.cycles) % 2 ^ 72, tickCyc := E.tickCyc + p.cycles }) hs rfl
  exact h.trans (cyclesPass_pcSteps _ _ _ _ h.ok)

theorem cyclesPass_reachCycle {s : State} {e n : Nat} (hs : EnginesOk s) : CyclesPass s (reachCycle e n s) := by
  unfold reachCycle
  dsimp only
  split
  · exact cyclesPass_of_engines hs rfl
  · split <;> exact cyclesPass_passCycles hs

theorem cyclesPass_foldl {n : Nat} (l : List Nat) : ∀ s : State, EnginesOk s →
    CyclesPass s (l.foldl (fun s e => reachCycle e n s) s) := by
  induction l with
  | nil => exact fun _ hs => cyclesPass_of_engines hs rfl
  | cons e l ih => exact fun s hs => (cyclesPass_reachCycle hs).trans (ih _ (cyclesPass_reachCycle hs).ok)

theorem cyclesPass_reachAll {s : State} {n : Nat} (hs : EnginesOk s) : CyclesPass s (reachAll n s) :=
  cyclesPass_foldl _ s hs

/-! ### One engine after the other -/

/-- A fold over engines in which each step touches its own engine alone: an engine not listed reads as before, one listed
reads what its own step leaves. `rd` is what is read of an engine, `Inv` what every step keeps. -/
theorem foldl_engine {α : Type} {rd : State → Nat → α} {Inv : State → Prop} {f : State → Nat → State} (l : List Nat)
    (hInv : ∀ t e, Inv t → Inv (f t e)) (hf : ∀ t e k, e ∈ l → k ≠ e → rd (f t e) k = rd t k) :
    ∀ s, Inv s → Inv (l.foldl f s) ∧ (∀ k, k ∉ l → rd (l.foldl f s) k = rd s k) ∧
      (l.Nodup → ∀ k, k ∈ l → ∃ t, Inv t ∧ rd t k = rd s k ∧ rd (l.foldl f s) k = rd (f t k) k) := by
  induction l with
  | nil => exact fun s hs => ⟨hs, fun _ _ => rfl, fun _ _ hk => by cases hk⟩
  | cons e l ih =>
    intro s hs
    have hfe : ∀ k, k ≠ e → rd (f s e) k = rd s k := fun k => hf s e k List.mem_cons_self
    obtain ⟨h1, h2, h3⟩ := ih (fun t j k hj => hf t j k (List.mem_cons_of_mem _ hj)) (f s e) (hInv s e hs)
    refine ⟨h1, fun k hk => ?_, fun hl k hk => ?_⟩
    · rw [List.mem_cons, not_or] at hk
      exact (h2 k hk.2).trans (hfe k hk.1)
    · rw [List.nodup_cons] at hl
      obtain rfl | hk := List.mem_cons.1 hk
      · exact ⟨s, hs, rfl, h2 _ hl.1⟩
      · obtain ⟨t, ht, h4, h5⟩ := h3 hl.2 k hk
        exact ⟨t, ht, h4.trans (hfe k fun h => hl.1 (h ▸ hk)), h5⟩

/-! ### Passes start (R38, R302) -/

theorem engGet_startPass_ne {e k : Nat} {s : State} (h : k ≠ e) : engGet (startPass e s) k = engGet s k :=
  (engGet_engPut_ne h).trans (engGet_engPut_ne h)

theorem startPass_enginesOk {e : Nat} {s : State} (h : EnginesOk s) : EnginesOk (startPass e s) :=
  engPut_enginesOk (engPut_enginesOk h)

/-- Registers in canonical form read back as written, but for g0. -/
theorem regRead_regWrite_same {t : Tab Word} {g : Nat} {v : Word} (h : tabWf (fun _ => (0 : Word)) t = true)
    (hg : g ≠ 0) : regRead (regWrite t g v) g = v := by
  simp only [regRead, regWrite, if_neg hg]
  exact tabGet_tabSet_same (d := fun _ => (0 : Word)) h

theorem regRead_regWrite_ne {t : Tab Word} {g k : Nat} {v : Word} (h : k ≠ g) :
    regRead (regWrite t g v) k = regRead t k := by
  unfold regRead regWrite
  by_cases hg : g = 0
  · rw [if_pos hg]
  · rw [if_neg hg, tabGet_tabSet_ne h]

theorem regWrite_ok {t : Tab Word} {g : Nat} {v : Word} (h : tabWf (fun _ => (0 : Word)) t = true) :
    tabWf (fun _ => (0 : Word)) (regWrite t g v) = true := by
  unfold regWrite
  split
  · exact h
  · exact tabSet_ok' h

/-- An engine at the start of its pass: g1 is its number, g2 the tick, g3 the bin clock (R302). -/
theorem startPass_spec {e : Nat} {s : State} (h : EnginesOk s) :
    let E := engGet (startPass e s) e
    E.running = .pass ∧ E.started = true ∧ E.ended = false ∧ E.pc = 0 ∧ E.staged = [] ∧
      regRead E.regs 1 = BitVec.ofNat 36 e ∧ regRead E.regs 2 = s.tick ∧ regRead E.regs 3 = s.pmTime := by
  have h1 : engGet (startPass e s) e = _ := engGet_engPut_same (engPut_enginesOk h)
  have h2 : engGet (startRun e .pass s) e = _ := engGet_engPut_same h
  rw [h1, h2]
  have hempty : tabWf (fun _ => (0 : Word)) [] = true := rfl
  refine ⟨rfl, rfl, rfl, rfl, rfl, ?_, ?_, ?_⟩
  · show regRead (regWrite (regWrite (regWrite [] 1 _) 2 _) 3 _) 1 = _
    rw [regRead_regWrite_ne (by decide), regRead_regWrite_ne (by decide), regRead_regWrite_same hempty (by decide)]
  · show regRead (regWrite (regWrite (regWrite [] 1 _) 2 _) 3 _) 2 = _
    rw [regRead_regWrite_ne (by decide), regRead_regWrite_same (regWrite_ok hempty) (by decide)]
  · exact regRead_regWrite_same (regWrite_ok (regWrite_ok hempty)) (by decide)

/-- What decides which passes start, and what their registers hold. -/
def passView (s : State) : Option Loaf × Tab Word × Tab Dom × Word × Word := (s.loaf, s.words, s.doms, s.tick, s.pmTime)

theorem imageOf_congr {s t : State} (h : t.loaf = s.loaf) (e : Nat) : imageOf t e = imageOf s e := by
  unfold imageOf; rw [h]

theorem unitPasses_congr {s t : State} (h : passView t = passView s) (u : Nat) : unitPasses t u = unitPasses s u := by
  simp only [passView, Prod.mk.injEq] at h
  obtain ⟨h1, h2, h3, -, -⟩ := h
  simp only [unitPasses, imageOf_congr h1, latched, domRuns, domGet, h2, h3]

theorem hubPasses_congr {s t : State} (h : passView t = passView s) : hubPasses t = hubPasses s := by
  simp only [passView, Prod.mk.injEq] at h
  obtain ⟨h1, -, h3, -, -⟩ := h
  simp only [hubPasses, imageOf_congr h1, domRuns, domGet, h3]

/-- The passes of the units start. -/
def startUnits (s : State) : State := (List.range 64).foldl (fun s u => if unitPasses s u then startPass u s else s) s

/-- The hub pass starts, or the batch goes on. -/
def startHub (s : State) : State := if hubPasses s then startPass 64 s else resumeBatch s

theorem execPassStart_eq {s : State} (h : powered s = true) :
    execPassStart s = .next (startHub (startUnits (suspendBatch (reachAll 2000 s)))) := by
  unfold execPassStart
  rw [if_pos h]
  rfl

theorem suspendBatch_enginesOk {s : State} (h : EnginesOk s) : EnginesOk (suspendBatch s) := by
  unfold suspendBatch
  dsimp only
  split
  · exact engPut_enginesOk h
  · exact h

theorem engGet_suspendBatch_ne {s : State} {k : Nat} (h : k ≠ 64) : engGet (suspendBatch s) k = engGet s k := by
  unfold suspendBatch
  dsimp only
  split
  · exact engGet_engPut_ne h
  · rfl

theorem engGet_startHub_ne {s : State} {k : Nat} (h : k ≠ 64) : engGet (startHub s) k = engGet s k := by
  unfold startHub resumeBatch
  split
  · exact engGet_startPass_ne h
  · split
    · exact engGet_engPut_ne h
    · rfl

/-- The units whose pass starts are as `startPass` leaves them, every other engine is as it was. -/
theorem startUnits_spec {s : State} (hs : EnginesOk s) :
    (EnginesOk (startUnits s) ∧ passView (startUnits s) = passView s) ∧
      (∀ u, u < 64 → unitPasses s u = true →
        ∃ t, EnginesOk t ∧ passView t = passView s ∧ engGet (startUnits s) u = engGet (startPass u t) u) ∧
      ∀ u, ¬ (u < 64 ∧ unitPasses s u = true) → engGet (startUnits s) u = engGet s u := by
  obtain ⟨h1, h2, h3⟩ := foldl_engine (rd := engGet) (Inv := fun t => EnginesOk t ∧ passView t = passView s)
    (f := fun s u => if unitPasses s u then startPass u s else s) (List.range 64)
    (fun t e ht => by
      split
      · exact ⟨startPass_enginesOk ht.1, ht.2⟩
      · exact ht)
    (fun t e k _ hk => by
      split
      · exact engGet_startPass_ne hk
      · rfl) s ⟨hs, rfl⟩
  refine ⟨h1, fun u hu hp => ?_, fun u hu => ?_⟩
  · obtain ⟨t, ⟨ht, hv⟩, -, h5⟩ := h3 List.nodup_range u (List.mem_range.2 hu)
    rw [if_pos (by rw [unitPasses_congr hv]; exact hp)] at h5
    exact ⟨t, ht, hv, h5⟩
  · by_cases hm : u < 64
    · obtain ⟨t, ⟨ht, hv⟩, h4, h5⟩ := h3 List.nodup_range u (List.mem_range.2 hm)
      rw [if_neg (by rw [unitPasses_congr hv]; exact fun hp => hu ⟨hm, hp⟩)] at h5
      exact h5.trans h4
    · exact h2 u (by simpa using hm)

/-- PASS_START (R38): which passes start and how; every other unit is as it was but for its cycles. -/
theorem passStart_spec {s : State} (hs : EnginesOk s) :
    let t := startHub (startUnits (suspendBatch (reachAll 2000 s)))
    (∀ u, u < 64 → unitPasses s u = true → (engGet t u).running = .pass ∧ (engGet t u).started = true ∧
      (engGet t u).ended = false ∧ (engGet t u).pc = 0 ∧ (engGet t u).staged = [] ∧
      regRead (engGet t u).regs 1 = BitVec.ofNat 36 u ∧ regRead (engGet t u).regs 2 = s.tick ∧
      regRead (engGet t u).regs 3 = s.pmTime) ∧
    (∀ u, u < 64 → unitPasses s u = false → (engGet t u).running = (engGet s u).running ∧
      (engGet t u).regs = (engGet s u).regs ∧ (engGet t u).started = (engGet s u).started) ∧
    (hubPasses s = true → (engGet t 64).running = .pass ∧ (engGet t 64).pc = 0) := by
  have hc : CyclesPass s (reachAll 2000 s) := cyclesPass_reachAll hs
  have hv : passView (suspendBatch (reachAll 2000 s)) = passView s :=
    suspendBatch_frame (fun _ _ => rfl) (fun _ _ => rfl) _
      (reachAll_frame (fun _ _ => rfl) (fun _ _ => rfl) _ _ rfl)
  obtain ⟨⟨hok, hv'⟩, h1, h2⟩ := startUnits_spec (suspendBatch_enginesOk hc.ok)
  refine ⟨fun u hu hp => ?_, fun u hu hp => ?_, fun hp => ?_⟩
  · obtain ⟨t, ht, hvt, h5⟩ := h1 u hu (by rw [unitPasses_congr hv]; exact hp)
    have hview := hvt.trans hv
    simp only [passView, Prod.mk.injEq] at hview
    obtain ⟨-, -, -, htick, hpm⟩ := hview
    rw [engGet_startHub_ne (by omega), h5, ← htick, ← hpm]
    exact startPass_spec ht
  · have h := hc.eng u
    rw [engGet_startHub_ne (by omega), h2 u (by rw [unitPasses_congr hv]; simp [hp]), engGet_suspendBatch_ne (by omega)]
    unfold sameButCycles at h
    rw [h]
    exact ⟨rfl, rfl, rfl⟩
  · have hhub : hubPasses (startUnits (suspendBatch (reachAll 2000 s))) = true := by
      rw [hubPasses_congr (hv'.trans hv)]
      exact hp
    rw [startHub, if_pos hhub]
    obtain ⟨k1, -, -, k2, -⟩ := startPass_spec (e := 64) hok
    exact ⟨k1, k2⟩

end Sys2Proof.Machine
end

section
/-! PROOFS. The overrun of a pass (R18): its engine stops, its effects and its item go, and it is counted. -/

namespace Sys2Proof.Machine

/-! ### Control words that counts and records leave alone -/

theorem cwGet_congr {s t : State} (h : t.cw = s.cw) (a : Nat) : cwGet t a = cwGet s a := by
  unfold cwGet; rw [h]

theorem cwGet_cwCount_ne {a b n : Nat} {s : State} (h : b ≠ a) : cwGet (cwCount a n s) b = cwGet s b := cwGet_cwSet_ne h

/-- A record in a host queue counts in its LOST word alone. -/
theorem cwGet_hqAppend_ne {q b : Nat} {ws : List Word} {s : State} (h : b ≠ hqLostAddr q) :
    cwGet (hqAppend q ws s) b = cwGet s b := by
  have hlevel : ∀ t, cwGet (hqLevel q t) b = cwGet t b := fun t => cwGet_congr
    (hqLevel_frame (π := State.cw) (fun _ _ => rfl) (fun _ _ => rfl) (fun _ _ => rfl) (fun _ _ => rfl) q t rfl) b
  unfold hqAppend
  dsimp only
  split
  · exact cwGet_cwCount_ne h
  · split
    · split
      · exact hlevel _
      · exact cwGet_cwCount_ne h
    · split
      · exact (hlevel _).trans (cwGet_cwCount_ne h)
      · exact (hlevel _).trans (cwGet_cwCount_ne h)

theorem cwGet_cenInc_ne {n b : Nat} {s : State} (h : b ≠ ctlAddr clsCen 0 n) : cwGet (cenInc n s) b = cwGet s b := by
  have hint : ∀ t, cwGet (intSet 26 t) b = cwGet t b := fun t => cwGet_congr
    (intSet_frame (π := State.cw) (fun _ _ => rfl) (fun _ _ => rfl) (fun _ _ => rfl) 26 t rfl) b
  unfold cenInc
  dsimp only
  split
  · split
    · exact (hint _).trans (cwGet_cwCount_ne h)
    · exact cwGet_cwCount_ne h
  · rfl

theorem cwGet_dropItem_ne {e b : Nat} {s : State} (h : b ≠ pcAddr e 0x7F2) : cwGet (dropItem e s) b = cwGet s b := by
  unfold dropItem engErr
  split
  · rfl
  · dsimp only
    split
    · exact cwGet_cwCount_ne h
    · exact cwGet_cwCount_ne (s := engPut e _ s) h

/-! ### An item dropped -/

theorem engGet_dropItem_ne {e k : Nat} {s : State} (h : k ≠ e) : engGet (dropItem e s) k = engGet s k := by
  unfold dropItem engErr
  split
  · rfl
  · dsimp only
    split
    · exact engGet_engPut_ne h
    · exact (engGet_engPut_ne h).trans (engGet_engPut_ne (s := s) h)

theorem dropItem_enginesOk {e : Nat} {s : State} (h : EnginesOk s) : EnginesOk (dropItem e s) := by
  unfold dropItem engErr
  split
  · exact h
  · dsimp only
    split
    · exact engPut_enginesOk h
    · exact engPut_enginesOk (s := cwCount _ _ _) (engPut_enginesOk (s := s) h)

theorem dropItem_item {e : Nat} {s : State} (h : EnginesOk s) : (engGet (dropItem e s) e).item = none := by
  have hput : ∀ E : Engine, engGet (cwCount (pcAddr e 0x7F2) 1 (engPut e E s)) e = E := fun E => engGet_engPut_same h
  unfold dropItem engErr
  split
  · assumption
  · dsimp only
    split
    · rw [hput]
    · have hok : EnginesOk (cwCount (pcAddr e 0x7F2) 1 (engPut e { engGet s e with item := none } s)) :=
        engPut_enginesOk (s := s) h
      rw [engGet_engPut_same hok, hput]

/-! ### The overrun of one engine -/

/-- The state in which the engine of an overrun pass has been stopped, before the pass is counted. -/
def stopPass (e : Nat) (s : State) : State :=
  let s := dropItem e s
  engPut e { engGet s e with
    running := .idle, ended := false, staged := [], bundle := {}, loops := [], calls := [], landing := [] } s

/-- The census counter of the overruns of an engine. -/
def overrunCensus (e : Nat) : Nat := if e = 64 then 34 else 32 + dieOf e

theorem overrunEngine_of_pass {e : Nat} {s : State} (h : (engGet s e).running = .pass) :
    overrunEngine e s = cenInc (overrunCensus e) (record0 0x09 srcHardware (mkWord [(29, e)])
      (cwCount (pcAddr e 0x7F3) 1 (stopPass e s))) := if_pos h

theorem overrunEngine_of_not_pass {e : Nat} {s : State} (h : (engGet s e).running ≠ .pass) : overrunEngine e s = s :=
  if_neg h

/-- Counting and recording an overrun touches no engine. -/
theorem overrunEngine_engines {e : Nat} {s : State} (h : (engGet s e).running = .pass) :
    (overrunEngine e s).engines = (stopPass e s).engines := by
  rw [overrunEngine_of_pass h]
  refine cenInc_frame (fun _ _ => rfl) (fun _ _ => rfl) (fun _ _ => rfl) (fun _ _ => rfl) _ _ ?_
  refine record0_frame (fun _ _ => rfl) (fun _ _ => rfl) (fun _ _ => rfl) (fun _ _ => rfl) (fun _ _ => rfl) _ _ _ _ ?_
  rfl

theorem overrunEngine_enginesOk {e : Nat} {s : State} (h : EnginesOk s) : EnginesOk (overrunEngine e s) := by
  by_cases hp : (engGet s e).running = .pass
  · unfold EnginesOk
    rw [overrunEngine_engines hp]
    exact engPut_enginesOk (dropItem_enginesOk h)
  · rw [overrunEngine_of_not_pass hp]
    exact h

theorem engGet_overrunEngine_ne {e k : Nat} {s : State} (h : k ≠ e) : engGet (overrunEngine e s) k = engGet s k := by
  by_cases hp : (engGet s e).running = .pass
  · rw [engGet_congr (overrunEngine_engines hp)]
    exact (engGet_engPut_ne h).trans (engGet_dropItem_ne h)
  · rw [overrunEngine_of_not_pass hp]

theorem overrunEngine_stops {e : Nat} {s : State} (h : EnginesOk s) (hp : (engGet s e).running = .pass) :
    (engGet (overrunEngine e s) e).running = .idle ∧ (engGet (overrunEngine e s) e).staged = [] ∧
      (engGet (overrunEngine e s) e).item = none := by
  rw [engGet_congr (overrunEngine_engines hp), stopPass, engGet_engPut_same (dropItem_enginesOk h)]
  exact ⟨rfl, rfl, dropItem_item h⟩

/-- The word that counts the overruns of an engine. -/
abbrev overrunAddr (e : Nat) : Nat := pcAddr e 0x7F3

theorem pcAddr_eq (e i : Nat) : pcAddr e i = clsPc * 2 ^ 18 + (if e = 64 then 0x800 + i else e * 4096 + i) := by
  unfold pcAddr ctlAddr
  split <;> omega

theorem overrunAddr_injective {e k : Nat} (h : k ≠ e) : overrunAddr k ≠ overrunAddr e := by
  simp only [overrunAddr, pcAddr_eq]
  split <;> split <;> omega

/-- The counts of an overrun but for its own word lie elsewhere. -/
theorem overrunAddr_ne (e k n : Nat) (hn : n < 64) :
    overrunAddr k ≠ pcAddr e 0x7F2 ∧ overrunAddr k ≠ hqLostAddr 0 ∧ overrunAddr k ≠ ctlAddr clsCen 0 n := by
  simp only [overrunAddr, pcAddr_eq, hqLostAddr, ctlAddr, clsPc, clsQueue, clsCen]
  refine ⟨?_, ?_, ?_⟩
  · split <;> split <;> omega
  · split <;> omega
  · split <;> omega

theorem overrunCensus_lt {e : Nat} (h : e < 65) : overrunCensus e < 64 := by
  unfold overrunCensus dieOf
  split <;> omega

theorem cwGet_overrunEngine {e k : Nat} {s : State} (he : e < 65) (hp : (engGet s e).running = .pass) :
    cwGet (overrunEngine e s) (overrunAddr k) = cwGet (cwCount (overrunAddr e) 1 (stopPass e s)) (overrunAddr k) := by
  obtain ⟨-, h2, h3⟩ := overrunAddr_ne e k _ (overrunCensus_lt he)
  rw [overrunEngine_of_pass hp, cwGet_cenInc_ne h3]
  exact cwGet_hqAppend_ne h2

theorem cwGet_stopPass (e k : Nat) (s : State) : cwGet (stopPass e s) (overrunAddr k) = cwGet s (overrunAddr k) :=
  cwGet_dropItem_ne (overrunAddr_ne e k 0 (by decide)).1

theorem cwGet_overrunEngine_ne {e k : Nat} {s : State} (he : e < 65) (h : k ≠ e) :
    cwGet (overrunEngine e s) (overrunAddr k) = cwGet s (overrunAddr k) := by
  by_cases hp : (engGet s e).running = .pass
  · rw [cwGet_overrunEngine he hp, cwGet_cwCount_ne (overrunAddr_injective h), cwGet_stopPass]
  · rw [overrunEngine_of_not_pass hp]

theorem satAdd_one_ne_zero (w : Word) : satAdd w 1 ≠ 0 := by
  intro h
  have h0 : min (w.toNat + 1) 0xFFFFFFFFF % 2 ^ 36 = 0 := congrArg BitVec.toNat h
  rw [Nat.mod_eq_of_lt (by omega)] at h0
  omega

theorem cwReset_overrunAddr {e : Nat} (h : e < 65) : cwReset (overrunAddr e) = 0 := by
  have hd : overrunAddr e / 2 ^ 18 = clsPc := by
    simp only [overrunAddr, pcAddr_eq]
    split <;> omega
  simp only [cwReset, hd]
  rfl

theorem cwGet_overrunEngine_same {e : Nat} {s : State} (he : e < 65) (hp : (engGet s e).running = .pass) :
    cwGet (overrunEngine e s) (overrunAddr e) = satAdd (cwGet s (overrunAddr e)) 1 := by
  rw [cwGet_overrunEngine he hp, cwCount, cwGet_stopPass]
  exact tabGet_tabSet_of_ne (by rw [cwReset_overrunAddr he]; exact satAdd_one_ne_zero _)

/-! ### Every pass that still runs (R18) -/

/-- What the overrun of an engine may change: the engine, and the word that counts its overruns. -/
def overrunView (s : State) (e : Nat) : Engine × Word := (engGet s e, cwGet s (overrunAddr e))

/-- The engines that `overrunAll` visits are stopped one by one, each by its own overrun. -/
theorem overrunAll_spec {s : State} (hs : EnginesOk s) :
    let t := overrunAll s
    (∀ e, (engGet s e).running ≠ .pass → engGet t e = engGet s e) ∧
      ∀ e, e < 65 → (engGet s e).running = .pass → (engGet t e).running = .idle ∧ (engGet t e).staged = [] ∧
        (engGet t e).item = none ∧ cwGet t (overrunAddr e) = satAdd (cwGet s (overrunAddr e)) 1 := by
  obtain ⟨-, h2, h3⟩ := foldl_engine (rd := overrunView) (Inv := EnginesOk) (f := fun s e => overrunEngine e s) engineIds
    (fun t e ht => overrunEngine_enginesOk ht)
    (fun t e k he hk => Prod.ext (engGet_overrunEngine_ne hk) (cwGet_overrunEngine_ne (List.mem_range.1 he) hk)) s hs
  have hat : ∀ e, e < 65 → ∃ t, EnginesOk t ∧ engGet t e = engGet s e ∧ cwGet t (overrunAddr e) = cwGet s (overrunAddr e) ∧
      engGet (overrunAll s) e = engGet (overrunEngine e t) e ∧
      cwGet (overrunAll s) (overrunAddr e) = cwGet (overrunEngine e t) (overrunAddr e) := by
    intro e he
    obtain ⟨t, ht, h4, h5⟩ := h3 List.nodup_range e (List.mem_range.2 he)
    simp only [overrunView, Prod.mk.injEq] at h4 h5
    exact ⟨t, ht, h4.1, h4.2, h5.1, h5.2⟩
  refine ⟨fun e hp => ?_, fun e he hp => ?_⟩
  · by_cases he : e < 65
    · obtain ⟨t, -, h4, -, h5, -⟩ := hat e he
      rw [h5, overrunEngine_of_not_pass (by rw [h4]; exact hp), h4]
    · have hout : e ∉ engineIds := fun hm => he (List.mem_range.1 hm)
      have h := h2 e hout
      simp only [overrunView, Prod.mk.injEq] at h
      exact h.1
  · obtain ⟨t, ht, h4, h4', h5, h6⟩ := hat e he
    have hp' : (engGet t e).running = .pass := by rw [h4]; exact hp
    obtain ⟨k1, k2, k3⟩ := overrunEngine_stops ht hp'
    rw [h5, h6, cwGet_overrunEngine_same he hp', h4']
    exact ⟨k1, k2, k3, rfl⟩

end Sys2Proof.Machine
end

section
/-! PROOFS. The tick boundary (R37): what each part of T0 leaves, and what the whole leaves. -/

namespace Sys2Proof.Machine

/-! ### The parts of T0 -/

/-- T0 up to the new tick: clocks and timers of the tick just ended. -/
def tickEnds (m : Meas) (s : State) : State :=
  let s := wtrTick (dpllTick (binTick (testTick (coolTick m (reachAll 125000 s)))))
  repeatXoff (s.putRdn { s.rdn with next := healthWord s })

/-- T0 once the loaf that runs is known: swaps eligible, and the pages freed. -/
def tickArms (s : State) : State := deckEligible 1 (deckEligible 0 (releaseFreed s))

/-- T0 to its end: the snapshot, and counts of the tick that start again. -/
def tickLatches (s : State) : State :=
  let s := freshTick (latchAll s)
  s.putSec { s.sec with report := reportBody s }

theorem tickBoundary_eq (m : Meas) (s : State) :
    tickBoundary m s = tickLatches (tickArms (switchLoaf (nextTick (tickEnds m (beat s))))) := by
  dsimp only [tickBoundary, tickLatches, tickArms, tickEnds]

/-! ### What each part leaves alone -/

/-- The tick, the heartbeat and the measurements. -/
def clockView (s : State) : Word × Word × Bool × Meas := (s.tick, s.wrap, s.hbOut, s.meas)
/-- The loaf that runs and the one that waits. -/
def loafView (s : State) : Option Loaf × Option Loaf × Bool := (s.loaf, s.loafNext, s.loafDue)
/-- All that a statement about T0 reads but engines, violations and the snapshot. -/
def t0View (s : State) : (Word × Word × Bool × Meas) × (Option Loaf × Option Loaf × Bool) × Mode × Tab Word :=
  (clockView s, loafView s, s.mode, s.oh)
/-- The same with the buffers of the snapshot. -/
def snapView (s : State) : ((Word × Word × Bool × Meas) × (Option Loaf × Option Loaf × Bool) × Mode × Tab Word) × Tab Word :=
  (t0View s, s.ohT0)

theorem beat_view (s : State) : t0View (beat s) = t0View (s.putHbOut (if heartbeat s then !s.hbOut else s.hbOut)) := by
  unfold beat
  split
  · rfl
  · exact cenInc_frame (π := t0View) (fun _ _ => rfl) (fun _ _ => rfl) (fun _ _ => rfl) (fun _ _ => rfl) 35 s rfl

theorem coolTick_reachAll_view (m : Meas) (n : Nat) (s : State) :
    t0View (coolTick m (reachAll n s)) = t0View (s.putMeas m) := by
  have hcool : ∀ t, t0View (coolTick m t) = t0View (t.putMeas m) := fun _ => rfl
  rw [hcool]
  exact reachAll_frame (π := fun t => t0View (t.putMeas m)) (fun _ _ => rfl) (fun _ _ => rfl) n s rfl

theorem tickEnds_view (m : Meas) (s : State) : t0View (tickEnds m s) = t0View (s.putMeas m) := by
  have hrdn : ∀ (t : State) r, t0View (t.putRdn r) = t0View t := fun _ _ => rfl
  unfold tickEnds
  refine repeatXoff_frame (π := t0View) (fun _ _ => rfl) _ ?_
  rw [hrdn]
  refine wtrTick_frame (π := t0View) (fun _ _ => rfl) _ ?_
  refine dpllTick_frame (π := t0View) (fun _ _ => rfl) _ ?_
  refine binTick_frame (π := t0View) (fun _ _ => rfl) (fun _ _ => rfl) (fun _ _ => rfl) (fun _ _ => rfl) (fun _ _ => rfl) _ ?_
  exact testTick_frame (π := t0View) (fun _ _ => rfl) _ (coolTick_reachAll_view m _ s)

theorem nextTick_view (s : State) : (nextTick s).tick = s.tick + 1 ∧ (nextTick s).hbOut = s.hbOut ∧
    (nextTick s).meas = s.meas ∧ loafView (nextTick s) = loafView s ∧ (nextTick s).mode = s.mode ∧
    (nextTick s).oh = s.oh := ⟨rfl, rfl, rfl, rfl, rfl, rfl⟩

theorem nextTick_wrap (s : State) :
    (nextTick s).wrap = if s.tick = 0xFFFFFFFFF then s.wrap + 1 else s.wrap := by
  have h : s.tick + 1 = 0 ↔ s.tick = 0xFFFFFFFFF := by
    constructor <;> intro h <;> bv_omega
  show (if s.tick + 1 = 0 then s.wrap + 1 else s.wrap) = _
  simp only [h]

/-- The switch of the loaf, and the entry to PROVISION that it may cause, leave the clock. -/
theorem switchLoaf_clock (s : State) : clockView (switchLoaf s) = clockView s := by
  have hD : BlindDomains clockView := by constructor <;> exact fun _ _ => rfl
  apply switchLoaf_frame hD
  case hk => rfl
  all_goals exact fun _ _ => rfl

theorem switchLoaf_of_due {s : State} (h : s.loafDue = true) : loafView (switchLoaf s) = (s.loafNext, none, false) := by
  have hD : BlindDomains loafView := by constructor <;> exact fun _ _ => rfl
  unfold switchLoaf
  rw [if_pos h]
  dsimp only
  split
  · apply enterMode_frame hD
    case hk => rfl
    all_goals exact fun _ _ => rfl
  · rfl

theorem switchLoaf_of_not_due {s : State} (h : s.loafDue = false) : switchLoaf s = s := if_neg (by simp [h])

theorem deckEligible_view (d : Nat) (s : State) : t0View (deckEligible d s) = t0View s :=
  deckEligible_frame (fun _ _ => rfl) (fun _ _ => rfl) (fun _ _ => rfl) (fun _ _ => rfl) (fun _ _ => rfl)
    (fun _ _ => rfl) (fun _ _ => rfl) (fun _ _ => rfl) d s rfl

theorem tickArms_view (s : State) : t0View (tickArms s) = t0View s :=
  (deckEligible_view 1 _).trans (deckEligible_view 0 _)

/-- The snapshot takes the buffers as they stand, and changes nothing else that a statement about T0 reads. -/
theorem latchAll_view (s : State) : snapView (latchAll s) = (t0View s, s.oh) := by
  have hctx : ∀ t id, snapView t = (t0View s, s.oh) → snapView (latchCtx id t) = (t0View s, s.oh) := fun t id ht =>
    latchCtx_frame (fun _ _ => rfl) (fun _ _ => rfl) id t ht
  have hfec : ∀ t k, snapView t = (t0View s, s.oh) → snapView (latchFec k t) = (t0View s, s.oh) := fun t k ht =>
    latchFec_frame (fun _ _ => rfl) (fun _ _ => rfl) k t ht
  have hwords : ∀ (t : State) v, t0View (t.putWords v) = t0View t := fun _ _ => rfl
  have hoh : ∀ (t : State) v, snapView (t.putOhT0 v) = (t0View t, v) := fun _ _ => rfl
  have hcells : ∀ (t : State) v, snapView (t.putCellsT0 v) = snapView t := fun _ _ => rfl
  unfold latchAll
  dsimp only
  refine frame_foldl (frame_foldl ?_ hctx) hfec
  rw [hcells, hoh, hwords]

/-- What holds of the value unlisted keys read, and of every value a map gives, holds of what a mapped table reads. -/
theorem tabGet_tabMap_of {α : Type} [DecidableEq α] {P : α → Prop} {d : α} {f : α → α} (hd : P d) (hf : ∀ v, P (f v))
    (i : Nat) : (t : Tab α) → P (tabGet d (tabMap d f t) i)
  | [] => hd
  | (k, v) :: t => by
    unfold tabMap
    split
    · exact tabGet_tabMap_of hd hf i t
    · unfold tabGet
      split
      · exact hf v
      · exact tabGet_tabMap_of hd hf i t

/-- The counts of the tick start again. -/
theorem freshTick_spec (s : State) : (freshTick s).violated = [] ∧ ∀ e, (engGet (freshTick s) e).tickCyc = 0 ∧
    (engGet (freshTick s) e).started = false ∧ (engGet (freshTick s) e).ended = false :=
  ⟨rfl, fun e => tabGet_tabMap_of (P := fun E : Engine => E.tickCyc = 0 ∧ E.started = false ∧ E.ended = false)
    ⟨rfl, rfl, rfl⟩ (fun _ => ⟨rfl, rfl, rfl⟩) e _⟩

theorem freshTick_view (s : State) : snapView (freshTick s) = snapView s :=
  freshTick_frame (fun _ _ => rfl) (fun _ _ => rfl) (fun _ _ => rfl) (fun _ _ => rfl) (fun _ _ => rfl)
    (fun _ _ => rfl) (fun _ _ => rfl) (fun _ _ => rfl) s rfl

theorem tickLatches_spec (s : State) : (tickLatches s).violated = [] ∧ ∀ e, (engGet (tickLatches s) e).tickCyc = 0 ∧
    (engGet (tickLatches s) e).started = false ∧ (engGet (tickLatches s) e).ended = false := by
  have hsec : ∀ (t : State) x, (t.putSec x).violated = t.violated ∧ ∀ e, engGet (t.putSec x) e = engGet t e :=
    fun _ _ => ⟨rfl, fun _ => rfl⟩
  unfold tickLatches
  simp only [hsec]
  exact freshTick_spec (latchAll s)

theorem tickLatches_view (s : State) : snapView (tickLatches s) = (t0View s, s.oh) := by
  have hsec : ∀ (t : State) x, snapView (t.putSec x) = snapView t := fun _ _ => rfl
  unfold tickLatches
  rw [hsec, freshTick_view, latchAll_view]

/-! ### The whole of T0 -/

theorem heartbeat_iff (s : State) : heartbeat s = true ↔
    s.mode ≠ .quarantine ∧ ∀ e, e ∈ s.engines → e.2.started = true → e.2.ended = true := by
  simp only [heartbeat, Bool.and_eq_true, bne_iff_ne, List.all_eq_true, Bool.or_eq_true, Bool.not_eq_true']
  refine and_congr_right fun _ => forall_congr' fun e => forall_congr' fun _ => ?_
  cases e.2.started <;> simp

/-- The state in which T0 decides which loaf runs. -/
def tickTurned (m : Meas) (s : State) : State := nextTick (tickEnds m (beat s))

theorem tickEnds_beat_view (m : Meas) (s : State) : t0View (tickEnds m (beat s)) =
    t0View ((s.putHbOut (if heartbeat s then !s.hbOut else s.hbOut)).putMeas m) := by
  have h : ∀ t u : State, t0View t = t0View u → t0View (t.putMeas m) = t0View (u.putMeas m) := by
    intro t u htu
    simp only [t0View, clockView, Prod.mk.injEq] at htu ⊢
    obtain ⟨⟨h1, h2, h3, -⟩, h4, h5, h6⟩ := htu
    exact ⟨⟨h1, h2, h3, rfl⟩, h4, h5, h6⟩
  exact (tickEnds_view m _).trans (h _ _ (beat_view s))

/-- The clock turns; loaf, mode and buffers stand. -/
theorem tickTurned_spec (m : Meas) (s : State) : clockView (tickTurned m s) =
      (s.tick + 1, if s.tick = 0xFFFFFFFFF then s.wrap + 1 else s.wrap, if heartbeat s then !s.hbOut else s.hbOut, m) ∧
    loafView (tickTurned m s) = loafView s ∧ (tickTurned m s).mode = s.mode ∧ (tickTurned m s).oh = s.oh := by
  have h := tickEnds_beat_view m s
  have hw := nextTick_wrap (tickEnds m (beat s))
  obtain ⟨n1, n2, n3, n4, n5, n6⟩ := nextTick_view (tickEnds m (beat s))
  simp only [t0View, clockView, Prod.mk.injEq] at h
  obtain ⟨⟨h1, h2, h3, h4⟩, h5, h6, h7⟩ := h
  rw [h1] at n1 hw
  rw [h2] at hw
  unfold tickTurned clockView
  rw [n1, hw, n2, h3, n3, h4, n4, h5, n5, h6, n6, h7]
  exact ⟨rfl, rfl, rfl, rfl⟩

theorem tickBoundary_view (m : Meas) (s : State) :
    snapView (tickBoundary m s) = (t0View (switchLoaf (tickTurned m s)), (switchLoaf (tickTurned m s)).oh) := by
  have h := tickArms_view (switchLoaf (tickTurned m s))
  have hoh : (tickArms (switchLoaf (tickTurned m s))).oh = (switchLoaf (tickTurned m s)).oh := by
    simp only [t0View, Prod.mk.injEq] at h
    exact h.2.2.2
  rw [tickBoundary_eq, tickLatches_view, ← h, ← hoh]
  rfl

/-- TICK_BOUNDARY (R37): the clock, the heartbeat, the loaf, the snapshot, and the counts of the tick. -/
theorem tickBoundary_spec (m : Meas) (s : State) :
    let t := tickBoundary m s
    clockView t = (s.tick + 1, if s.tick = 0xFFFFFFFFF then s.wrap + 1 else s.wrap,
      if heartbeat s then !s.hbOut else s.hbOut, m) ∧
    (s.loafDue = true → loafView t = (s.loafNext, none, false)) ∧
    (s.loafDue = false → loafView t = loafView s ∧ t.mode = s.mode ∧ t.oh = s.oh ∧ t.ohT0 = s.oh) := by
  intro t
  have hv := tickBoundary_view m s
  simp only [snapView, t0View, Prod.mk.injEq] at hv
  obtain ⟨⟨h1, h2, h3, h4⟩, h5⟩ := hv
  obtain ⟨k1, k2, k3, k4⟩ := tickTurned_spec m s
  have hl := k2
  simp only [loafView, Prod.mk.injEq] at hl
  obtain ⟨-, l2, l3⟩ := hl
  refine ⟨h1.trans ((switchLoaf_clock _).trans k1), fun hd => ?_, fun hd => ?_⟩
  · rw [h2, switchLoaf_of_due (l3.trans hd), l2]
  · rw [switchLoaf_of_not_due (l3.trans hd)] at h2 h3 h4 h5
    exact ⟨h2.trans k2, h3.trans k3, h4.trans k4, h5.trans k4⟩

end Sys2Proof.Machine
end

section
/-! PROOFS. The commit window (R38, R39, R43): what it leaves behind. -/

namespace Sys2Proof.Machine

/-! ### What a window keeps while its effects are applied -/

/-- The debug port has no write staged, and a reset that was asked for (`r`) stays asked for. -/
def windowKept (r : Bool) (s : State) : Prop := s.jtag.staged = [] ∧ (r = true → s.resetDue = true)

section Kept
variable {r : Bool} {s : State} (h : windowKept r s = True)

theorem blindDomains_windowKept : BlindDomains (windowKept r) := by constructor <;> exact fun _ _ => rfl

include h

/-- A window only ever asks for the reset. -/
theorem putResetDue_kept : windowKept r (s.putResetDue true) = True := by
  obtain ⟨h1, -⟩ := of_eq_true h
  exact eq_true ⟨h1, fun _ => rfl⟩

/-- TRACE_SEL stages nothing. -/
theorem applyTraceSel_kept (v : Word) : windowKept r (applyTraceSel v s) = True := by
  unfold applyTraceSel
  split
  · exact h
  · exact h

theorem applyPkgCtrl_kept (v : Word) : FrameE (windowKept r) True (applyPkgCtrl v s) := by
  have hD := blindDomains_windowKept (r := r)
  unfold applyPkgCtrl
  extract_lets st
  split
  · exact frameE_error
  rename_i deep s1 s2 s3 s4 _
  have h1 : windowKept r s1 = True := h
  have h2 : windowKept r s2 = True := frame_ite h1 (retarget_frame hD _ _ _)
  have h3 : windowKept r s3 = True := frame_ite h2 putResetDue_kept
  have h4 : windowKept r s4 = True := frame_ite h3 fun k => by
    apply enterMode_frame hD
    case hk => exact k
    all_goals exact fun _ _ => rfl
  split
  · exact frameE_ok h4
  split
  · exact frameE_error
  · refine frameE_ok ?_
    apply enterDormant_frame hD
    case hk => exact h4
    all_goals exact fun _ _ => rfl

theorem writePwr_kept (a : Nat) (v : Word) : FrameE (windowKept r) True (writePwr a v s) := by
  have hD := blindDomains_windowKept (r := r)
  unfold writePwr
  dsimp only
  refine frameE_ite (applyReq_frame hD _ _ _ h) (frameE_ite (applyPkgCtrl_kept h v) (frameE_ite (frameE_ite ?_ ?_)
    (frameE_ite (frameE_ok h) (frameE_ite (frameE_ok h) (frameE_ok h)))))
  · exact applyVloop_frame (fun _ _ => rfl) (fun _ _ => rfl) (fun _ _ => rfl) (fun _ _ => rfl) (fun _ _ => rfl)
      (fun _ _ => rfl) _ _ _ h
  · exact frameE_ok h

theorem applyWord_kept (src : Nat) (before plan : State) (a : Nat) (v : Word) :
    FrameE (windowKept r) True (applyWord src before plan a v s) := by
  unfold applyWord
  dsimp only
  repeat' with_reducible apply frameE_ite
  · exact frameE_error
  · apply writeLane_frame (hk := h) <;> exact fun _ _ => rfl
  · exact writeFec_frame (fun _ _ => rfl) plan a v s h
  · apply writeFramer_frame (hk := h) <;> exact fun _ _ => rfl
  · apply writeOh_frame (hk := h) <;> exact fun _ _ => rfl
  · apply writeMap_frame (hk := h) <;> exact fun _ _ => rfl
  · apply writeDeck_frame (hk := h) <;> exact fun _ _ => rfl
  · exact applyBlk_frame (fun _ _ => rfl) plan _ _ v s h
  · apply writeProof_frame (hk := h) <;> exact fun _ _ => rfl
  · exact frameE_ok (frame_ite h fun _ => h)
  · apply writeQueue_frame (hk := h) <;> exact fun _ _ => rfl
  · exact frameE_ok (frame_ite h fun _ => h)
  · exact writePc_frame (fun _ _ => rfl) a v s h
  · apply writeClk_frame (hk := h) <;> exact fun _ _ => rfl
  · apply writeAud_frame (hk := h) <;> exact fun _ _ => rfl
  · exact writePwr_kept h a v
  · apply applyMateCtrl_frame (hk := h) <;> exact fun _ _ => rfl
  · exact frameE_ok (frame_ite h fun _ => h)
  · apply writeHost_frame (hk := h) <;> exact fun _ _ => rfl
  · exact writeCen_frame (fun _ _ => rfl) a v s h
  · apply writePair_frame (hk := h) <;> exact fun _ _ => rfl
  · exact frameE_ok h

theorem settle_kept {o : Origin} {k : RefKind} {a : Nat} {x : Applied} (hx : FrameE (windowKept r) True x) :
    windowKept r (settle o k a s x) = True :=
  settle_frame (fun _ _ => rfl) (fun _ _ => rfl) (fun _ _ => rfl) (fun _ _ => rfl) (fun _ _ => rfl) (fun _ _ => rfl)
    o k a s x h hx

theorem applyEffect_kept (before : State) (f : Judged) : windowKept r (applyEffect before s f) = True := by
  obtain ⟨⟨o, op⟩, plan⟩ := f
  cases op with
  | cfgW a v =>
    refine frame_ite ?_ fun _ => frame_ite h fun _ => applyTraceSel_kept h v
    exact settle_kept h (applyWord_kept h _ _ _ _ _)
  | deckW a v => exact settle_kept h (applyDeckW_frame (fun _ _ => rfl) a v s h)
  | deckSwap dies => apply landSwap_frame (hk := h) <;> exact fun _ _ => rfl
  | protReq op p => apply protLand_frame (hk := h) <;> exact fun _ _ => rfl
  | ohPut id field word v => apply applyOhPut_frame (hk := h) <;> exact fun _ _ => rfl
  | defSet id b => apply applyDef_frame (hk := h) <;> exact fun _ _ => rfl
  | defClr id b => apply applyDef_frame (hk := h) <;> exact fun _ _ => rfl
  | filtSet k w v =>
    refine settle_kept h ?_
    apply applyFilt_frame (hk := h) <;> exact fun _ _ => rfl
  | power d st =>
    apply landPower_frame (hk := h)
    · exact blindDomains_windowKept
    all_goals exact fun _ _ => rfl

theorem applyEffects_kept (before : State) (l : List Judged) : windowKept r (applyEffects before l s) = True := by
  have hfold : ∀ (t : State) (l : List Judged), windowKept r t = True →
      windowKept r (l.foldl (applyEffect before) t) = True := fun t l ht =>
    frame_foldl ht fun t f ht => applyEffect_kept ht before f
  exact frame_foldl h fun t rank ht => hfold _ _ (hfold _ _ ht)
end Kept

/-! ### The parts of a window -/

/-- The window up to its effects: passes over, context words sampled. -/
def windowOpened (s : State) : State := sampleAll (clearGot (suspendBatch (reachAll 122000 (overrunAll s))))

/-- The window once the staged effects stand. -/
def windowApplied (s : State) : State :=
  let s := windowOpened s
  let l := windowEffects s
  applyEffects s (judge (l.length + 1) s (l.map fun e => (e, none))) (clearStaged s)

/-- The window once its records are placed. -/
def windowRecorded (s : State) : State :=
  windowRecords (filtRecords (suspendBatch (reachAll 122000 (overrunAll s)))) (windowChecks (windowApplied s))

/-- The window to its end, but for the reset. -/
def windowEnded (s : State) : State := takeSeal (placementPhase (placeCompletions (windowRecorded s)))

theorem commitWindow_eq (s : State) :
    commitWindow s = if (windowEnded s).resetDue then wipe .inReset true (windowEnded s) else windowEnded s := by
  dsimp only [commitWindow, windowEnded, windowRecorded, windowApplied, windowOpened]
  rfl

theorem windowOpened_resetDue (s : State) : (windowOpened s).resetDue = s.resetDue := by
  unfold windowOpened
  apply sampleAll_frame (π := State.resetDue)
  case hk =>
    refine clearGot_frame (fun _ _ => rfl) _ ?_
    refine suspendBatch_frame (fun _ _ => rfl) (fun _ _ => rfl) _ ?_
    refine reachAll_frame (fun _ _ => rfl) (fun _ _ => rfl) _ _ ?_
    apply overrunAll_frame (hk := rfl) <;> exact fun _ _ => rfl
  all_goals exact fun _ _ => rfl

theorem clearStaged_kept (s : State) : windowKept s.resetDue (clearStaged s) = True := by
  have hstart : windowKept s.resetDue (s.putJtag { s.jtag with staged := [] }) = True := eq_true ⟨rfl, id⟩
  exact frame_foldl hstart fun t e ht => frame_ite ht fun _ => ht

theorem windowApplied_kept (s : State) : windowKept s.resetDue (windowApplied s) = True := by
  have h := clearStaged_kept (windowOpened s)
  rw [windowOpened_resetDue] at h
  exact applyEffects_kept h _ _

/-- Records due are placed, and nothing after that makes another one due. -/
theorem windowRecords_due (filts : List (List Word)) (s : State) : (windowRecords filts s).due = [] := by
  have hplace : ∀ t : State, (placeDue t).due = [] := fun t => by
    unfold placeDue
    refine frame_foldl (π := State.due) rfl fun t r ht => ?_
    exact record_frame (fun _ _ => rfl) (fun _ _ => rfl) (fun _ _ => rfl) (fun _ _ => rfl) (fun _ _ => rfl) _ _ _ _ t ht
  unfold windowRecords
  dsimp only
  refine frame_foldl (π := State.due) ?_ fun t ws ht =>
    record_frame (fun _ _ => rfl) (fun _ _ => rfl) (fun _ _ => rfl) (fun _ _ => rfl) (fun _ _ => rfl) _ _ _ _ t ht
  apply creditClips_frame (π := State.due)
  case hk =>
    refine frame_foldl (hplace _) fun t e ht => ?_
    apply engFault_frame (hk := ht) <;> exact fun _ _ => rfl
  all_goals exact fun _ _ => rfl

/-- A session that ends with a completion leaves the completed batches. -/
theorem endSession_batchesDone (q : Nat) (s : State) : (endSession false q s).batchesDone = s.batchesDone := by
  have hstop : (stopBatch s).batchesDone = s.batchesDone := by
    apply stopBatch_frame (π := State.batchesDone) (hk := rfl) <;> exact fun _ _ => rfl
  unfold endSession
  extract_lets s1 s2 s3
  have h1 : s1.batchesDone = s.batchesDone := by
    unfold s1
    split
    · exact frame_ite (π := State.batchesDone) rfl fun _ => hstop
    · rfl
  exact h1

/-- Every completion is placed; the sessions that end with them take none away. -/
theorem placeCompletions_batchesDone (s : State) : (placeCompletions s).batchesDone = [] := by
  have hclose : ∀ (t : State) b, t.batchesDone = [] → (closeAfter b t).batchesDone = [] := fun t b ht => by
    unfold closeAfter
    refine frame_ite (π := State.batchesDone) (frame_ite ht fun _ => (endSession_batchesDone _ _).trans ht) fun _ => ?_
    exact frame_foldl (π := State.batchesDone) ht fun t q ht => (endSession_batchesDone q t).trans ht
  unfold placeCompletions
  dsimp only
  refine frame_foldl (π := State.batchesDone) (frame_foldl (π := State.batchesDone) rfl fun t b ht => ?_) hclose
  apply placeCompletion_frame (hk := ht) <;> exact fun _ _ => rfl

/-- The moves of contexts and the SEAL that end a window leave the completions, the records due and the debug port. -/
theorem takeSeal_placementPhase_frame {β : Type} {π : State → β} (hBatch : Blind π State.putBatch)
    (hEngines : Blind π State.putEngines) (hLong : Blind π State.putLong) (hSec : Blind π State.putSec)
    (hSuspended : Blind π State.putSuspended) (hCtxAt : Blind π State.putCtxAt) (hCw : Blind π State.putCw)
    (hPinMoves : Blind π State.putPinMoves) (s : State) : π (takeSeal (placementPhase s)) = π s :=
  takeSeal_frame hBatch hEngines hLong hSec hSuspended _ (placementPhase_frame hCtxAt hCw hPinMoves s rfl)

theorem windowEnded_batchesDone (s : State) : (windowEnded s).batchesDone = [] := by
  refine Eq.trans ?_ (placeCompletions_batchesDone (windowRecorded s))
  unfold windowEnded
  apply takeSeal_placementPhase_frame (π := State.batchesDone) <;> exact fun _ _ => rfl

theorem windowEnded_due (s : State) : (windowEnded s).due = [] := by
  have hrecords : (windowRecorded s).due = [] := by
    unfold windowRecorded
    exact windowRecords_due _ _
  have h : (placeCompletions (windowRecorded s)).due = [] := by
    apply placeCompletions_frame (π := State.due) (hk := hrecords) <;> exact fun _ _ => rfl
  refine Eq.trans ?_ h
  unfold windowEnded
  apply takeSeal_placementPhase_frame (π := State.due) <;> exact fun _ _ => rfl

theorem windowEnded_kept (s : State) : windowKept s.resetDue (windowEnded s) = True := by
  have hchecks : windowKept s.resetDue (windowChecks (windowApplied s)) = True := by
    apply windowChecks_frame (hk := windowApplied_kept s) <;> exact fun _ _ => rfl
  have hrecords : windowKept s.resetDue (windowRecorded s) = True := by
    unfold windowRecorded
    apply windowRecords_frame (hk := hchecks) <;> exact fun _ _ => rfl
  have hdone : windowKept s.resetDue (placeCompletions (windowRecorded s)) = True := by
    apply placeCompletions_frame (hk := hrecords) <;> exact fun _ _ => rfl
  refine Eq.trans ?_ hdone
  unfold windowEnded
  apply takeSeal_placementPhase_frame (π := windowKept s.resetDue) <;> exact fun _ _ => rfl

/-- COMMIT_WINDOW (R38): no completion, no record due, no write of the debug port stays; a reset asked for is carried out. -/
theorem commitWindow_spec (s : State) : let t := commitWindow s
    t.batchesDone = [] ∧ t.due = [] ∧ t.jtag.staged = [] ∧
      (s.resetDue = true → t.phase = .inReset ∧ t.mode = .sealed ∧ t.tick = 0) := by
  obtain ⟨hjtag, hreset⟩ := of_eq_true (windowEnded_kept s)
  have hwipe : ∀ u : State, (wipe .inReset true u).batchesDone = [] ∧ (wipe .inReset true u).due = [] ∧
      (wipe .inReset true u).jtag.staged = [] ∧ (wipe .inReset true u).phase = .inReset ∧
      (wipe .inReset true u).mode = .sealed ∧ (wipe .inReset true u).tick = 0 := fun _ => ⟨rfl, rfl, rfl, rfl, rfl, rfl⟩
  rw [commitWindow_eq]
  split
  next =>
    obtain ⟨h1, h2, h3, h4⟩ := hwipe (windowEnded s)
    exact ⟨h1, h2, h3, fun _ => h4⟩
  next hr => exact ⟨windowEnded_batchesDone s, windowEnded_due s, hjtag, fun h => absurd (hreset h) hr⟩

end Sys2Proof.Machine
end

section
/-! PROOFS. O56: the tier-1 delta sealed (R399, R402, R404), and the rows of the tick together. -/

namespace Sys2Proof.Machine

/-! ### The delta sealed -/

theorem keepsStarter_iff (s : State) : keepsStarter s = true ↔
    s.ilk = .holding ∧ (s.mode = .active ∨ (s.mode = .takeover ∧ s.rdn.applied = true)) := by
  simp [keepsStarter]

theorem execTier1DeltaSeal_of_holds {s : State} (hp : powered s = true) (h : keepsStarter s = true) :
    execTier1DeltaSeal s = .next (sealDelta s) := by
  unfold execTier1DeltaSeal
  rw [if_pos (by rw [hp, h]; rfl)]

theorem execTier1DeltaSeal_of_not_holds {s : State} (h : ¬ keepsStarter s = true) : execTier1DeltaSeal s = .next s := by
  unfold execTier1DeltaSeal
  rw [if_neg (by simp [h])]

theorem sendSweep_of_none {s : State} (h : s.rdn.sweepTx = none) : sendSweep s = s := by
  unfold sendSweep
  rw [h]

/-- With the link disabled a holder seals its starter and sends nothing. -/
theorem sealDelta_of_off {s : State} (hsw : s.rdn.sweepTx = none) (hl : linkOn s = false) :
    sealDelta s = { s with bank := starterOf s } := by
  have htiers : sendTiers (deltaOf s.bank (starterOf s)) s = s := if_neg (by simp [hl])
  unfold sealDelta
  dsimp only
  rw [htiers]
  exact sendSweep_of_none hsw

/-- The link with a message more in its queue, its lines taken from the credit. -/
def queued (m : MateMsg) (high : Bool) (k : Polfen) : Polfen :=
  { k with queue := k.queue ++ [m], cr := k.cr - msgLines m, high := high }

theorem queued_queued (m n : MateMsg) (a b : Bool) (k : Polfen) : queued n b (queued m a k) =
    { k with queue := k.queue ++ [m, n], cr := k.cr - msgLines m - msgLines n, high := b } := by
  simp [queued]

/-- A message that the credit covers goes to the end of the mate queue. -/
theorem mateAppend_of_credit {m : MateMsg} {s : State} (hu : s.link.st = .up) (hc : msgLines m ≤ s.link.cr) :
    ∃ high, mateAppend m s = s.putLink (queued m high s.link) := by
  unfold mateAppend
  dsimp only
  rw [if_pos (by simp [linkUp, hu, hc])]
  exact ⟨_, rfl⟩

/-- A holder in ACTIVE queues tier 1 and tier 2 where the credit covers both. -/
theorem sendTiers_of_credit {es : List (Nat × Word)} {s : State} (hi : s.ilk = .holding) (hm : s.mode = .active)
    (hl : linkOn s = true) (hu : s.link.st = .up)
    (hc : msgLines (.tier1 s.tick s.wrap es) + msgLines (.tier2 s.tick s.wrap (tier2Entries s)) ≤ s.link.cr) :
    ∃ next a b, sendTiers es s = (s.putRdn { s.rdn with tier2 := next }).putLink
      (queued (.tier2 s.tick s.wrap (tier2Entries s)) b (queued (.tier1 s.tick s.wrap es) a s.link)) := by
  obtain ⟨a, h1⟩ := mateAppend_of_credit (m := .tier1 s.tick s.wrap es) hu (by omega)
  unfold sendTiers
  rw [if_pos (by simp [sendsStarter, hi, hm, hl])]
  extract_lets t2 next s1
  have hs1 : s1 = s.putLink (queued (.tier1 s.tick s.wrap es) a s.link) := h1
  clear_value s1 next
  subst hs1
  obtain ⟨b, h2⟩ := mateAppend_of_credit (m := .tier2 s.tick s.wrap (tier2Entries s))
    (s := (s.putRdn { s.rdn with tier2 := next }).putLink (queued (.tier1 s.tick s.wrap es) a s.link)) hu
    (Nat.le_sub_of_add_le (by rw [Nat.add_comm]; exact hc))
  exact ⟨next, a, b, h2⟩

/-- The delta sealed with the credit for both messages: the starter, the queue of the link, the place of tier 2. -/
theorem sealDelta_of_credit {s : State} (hi : s.ilk = .holding) (hm : s.mode = .active) (hsw : s.rdn.sweepTx = none)
    (hl : linkOn s = true) (hu : s.link.st = .up)
    (hc : msgLines (.tier1 s.tick s.wrap (deltaOf s.bank (starterOf s))) +
      msgLines (.tier2 s.tick s.wrap (tier2Entries s)) ≤ s.link.cr) :
    ∃ next a b, sealDelta s = ((s.putRdn { s.rdn with tier2 := next }).putLink
      (queued (.tier2 s.tick s.wrap (tier2Entries s)) b
        (queued (.tier1 s.tick s.wrap (deltaOf s.bank (starterOf s))) a s.link))).putBank (starterOf s) := by
  obtain ⟨next, a, b, h⟩ := sendTiers_of_credit hi hm hl hu hc
  refine ⟨next, a, b, ?_⟩
  unfold sealDelta
  dsimp only
  rw [h]
  exact sendSweep_of_none hsw

/-! ### Without power -/

/-- Without power no row of the tick has an effect. -/
theorem tickRows_of_unpowered {m : Meas} {s : State} (h : powered s = false) :
    ∀ c, c ∈ [Instr.tickBoundary m, .passStart, .passOverrun, .commitWindow, .tier1DeltaSeal] → exec c s = .next s := by
  intro c hc
  simp only [List.mem_cons, List.not_mem_nil, or_false] at hc
  obtain rfl | rfl | rfl | rfl | rfl := hc
  · rw [exec_tickBoundary, execTickBoundary, h]; rfl
  · rw [exec_passStart, execPassStart, h]; rfl
  · rw [exec_passOverrun, execPassOverrun, h]; rfl
  · rw [exec_commitWindow, execCommitWindow, h]; rfl
  · rw [exec_tier1DeltaSeal, execTier1DeltaSeal, h]; rfl

/-! ### The statement -/

section Powered
variable {s : State} (hs : Safety.tablesOk s = true) (hp : powered s = true)
include hp

theorem tickBoundary_next (m : Meas) : exec (.tickBoundary m) s = .next (tickBoundary m s) := by
  rw [exec_tickBoundary, execTickBoundary, if_pos hp]
theorem passStart_next :
    exec .passStart s = .next (startHub (startUnits (suspendBatch (reachAll 2000 s)))) := by
  rw [exec_passStart, execPassStart_eq hp]
theorem passOverrun_next : exec .passOverrun s = .next (overrunAll s) := by
  rw [exec_passOverrun, execPassOverrun, if_pos hp]
theorem commitWindow_next : exec .commitWindow s = .next (commitWindow s) := by
  rw [exec_commitWindow, execCommitWindow, if_pos hp]

theorem tickBoundary_reaches (m : Meas) :
    let beats := s.mode ≠ .quarantine ∧ ∀ e, e ∈ s.engines → e.2.started = true → e.2.ended = true
    reaches (exec (.tickBoundary m) s) fun t => t.tick = s.tick + 1 ∧
      t.wrap = (if s.tick = 0xFFFFFFFFF then s.wrap + 1 else s.wrap) ∧
      (beats → t.hbOut = !s.hbOut) ∧ (¬ beats → t.hbOut = s.hbOut) ∧ t.meas = m ∧
      (∀ e, (engGet t e).tickCyc = 0 ∧ (engGet t e).started = false ∧ (engGet t e).ended = false) ∧ t.violated = [] ∧
      (s.loafDue = true → t.loaf = s.loafNext ∧ t.loafNext = none ∧ t.loafDue = false) ∧
      (s.loafDue = false → t.loaf = s.loaf ∧ t.mode = s.mode ∧ t.ohT0 = s.oh ∧ t.oh = s.oh) ∧ t.pending = s.pending := by
  obtain ⟨hclock, hdue, hnot⟩ := tickBoundary_spec m s
  have hpend : (tickBoundary m s).pending = s.pending := (tickBoundary_keeps m s (keeps_refl s)).pending
  have hlatch := tickLatches_spec (tickArms (switchLoaf (nextTick (tickEnds m (beat s)))))
  rw [← tickBoundary_eq] at hlatch
  obtain ⟨hviol, heng⟩ := hlatch
  simp only [clockView, Prod.mk.injEq] at hclock
  obtain ⟨h1, h2, h3, h4⟩ := hclock
  refine ⟨_, tickBoundary_next hp m, h1, h2, fun hb => ?_, fun hb => ?_, h4, heng, hviol, fun hd => ?_, fun hd => ?_, hpend⟩
  · rw [h3, if_pos ((heartbeat_iff s).2 hb)]
  · rw [h3, if_neg fun h => hb ((heartbeat_iff s).1 h)]
  · simpa only [loafView, Prod.mk.injEq] using hdue hd
  · obtain ⟨k1, k2, k3, k4⟩ := hnot hd
    simp only [loafView, Prod.mk.injEq] at k1
    exact ⟨k1.1, k2, k4, k3⟩

include hs

theorem passStart_reaches : reaches (exec .passStart s) fun t => t.mode = s.mode ∧ t.pending = s.pending ∧
    (∀ u, u < 64 → unitPasses s u = true → (engGet t u).running = .pass ∧ (engGet t u).started = true ∧
      (engGet t u).ended = false ∧ (engGet t u).pc = 0 ∧ (engGet t u).staged = [] ∧
      regRead (engGet t u).regs 1 = BitVec.ofNat 36 u ∧ regRead (engGet t u).regs 2 = s.tick ∧
      regRead (engGet t u).regs 3 = s.pmTime) ∧
    (∀ u, u < 64 → unitPasses s u = false → (engGet t u).running = (engGet s u).running ∧
      (engGet t u).regs = (engGet s u).regs ∧ (engGet t u).started = (engGet s u).started) ∧
    (hubPasses s = true → (engGet t 64).running = .pass ∧ (engGet t 64).pc = 0) := by
  have hmode := execPassStart_frame (π := State.mode) (fun _ _ => rfl) (fun _ _ => rfl) (fun _ _ => rfl) s rfl
    _ (execPassStart_eq hp)
  have hpend := execPassStart_frame (π := State.pending) (fun _ _ => rfl) (fun _ _ => rfl) (fun _ _ => rfl) s rfl
    _ (execPassStart_eq hp)
  exact ⟨_, passStart_next hp, hmode, hpend, passStart_spec (tablesOk_engines hs)⟩

theorem passOverrun_reaches : reaches (exec .passOverrun s) fun t => t.mode = s.mode ∧ t.pending = s.pending ∧
    (∀ e, e < 65 → (engGet t e).running ≠ .pass) ∧
    (∀ e, e < 65 → (engGet s e).running = .pass → (engGet t e).running = .idle ∧ (engGet t e).staged = [] ∧
      (engGet t e).item = none ∧ cwGet t (pcAddr e 0x7F3) = satAdd (cwGet s (pcAddr e 0x7F3)) 1) ∧
    (∀ e, (engGet s e).running ≠ .pass → engGet t e = engGet s e) := by
  obtain ⟨hkept, hstop⟩ := overrunAll_spec (tablesOk_engines hs)
  refine ⟨_, passOverrun_next hp, ?_, ?_, fun e he => ?_, hstop, hkept⟩
  · apply overrunAll_frame (π := State.mode) (hk := rfl) <;> exact fun _ _ => rfl
  · apply overrunAll_frame (π := State.pending) (hk := rfl) <;> exact fun _ _ => rfl
  · by_cases h : (engGet s e).running = .pass
    · rw [(hstop e he h).1]
      exact Running.noConfusion
    · rw [hkept e h]
      exact h

omit hs

theorem commitWindow_reaches : reaches (exec .commitWindow s) fun t => t.batchesDone = [] ∧ t.due = [] ∧
    t.jtag.staged = [] ∧ t.pending = s.pending ∧ (s.resetDue = true → t.phase = .inReset ∧ t.mode = .sealed ∧ t.tick = 0) := by
  obtain ⟨h1, h2, h3, h4⟩ := commitWindow_spec s
  have hpend : (commitWindow s).pending = s.pending :=
    (execCommitWindow_keeps s (keeps_refl s) _ (by rw [execCommitWindow, if_pos hp])).pending
  exact ⟨_, commitWindow_next hp, h1, h2, h3, hpend, h4⟩

end Powered

/-- Settles O56: each row of the tick by what it leaves, and none of them without power. -/
theorem theTickRuns : Obligations.TheTickRuns := by
  unfold Obligations.TheTickRuns
  intro m s hs up holds beats new delta refresh
  refine ⟨tickRows_of_unpowered, fun hp => tickBoundary_reaches hp m, passStart_reaches hs, passOverrun_reaches hs,
    commitWindow_reaches, fun hp hh hsw hl => ?_, fun hp hh hm hsw hl hu hc => ?_, fun hh => ?_⟩
  · rw [exec_tier1DeltaSeal, execTier1DeltaSeal_of_holds hp ((keepsStarter_iff s).2 hh), sealDelta_of_off hsw hl]
  · obtain ⟨next, a, b, h⟩ := sealDelta_of_credit hh.1 hm hsw hl hu hc
    refine ⟨sealDelta s, ?_, ?_⟩
    · rw [exec_tier1DeltaSeal, execTier1DeltaSeal_of_holds hp ((keepsStarter_iff s).2 hh)]
    · rw [h, queued_queued]
      exact ⟨rfl, rfl, rfl⟩
  · rw [exec_tier1DeltaSeal, execTier1DeltaSeal_of_not_holds fun h => hh ((keepsStarter_iff s).1 h)]

end Sys2Proof.Machine
end

section
/-! PROOFS. O59: every command answers, none touches the queue, and an engine instruction changes no role. -/

namespace Sys2Proof.Machine

/-! ### Every command answers -/

theorem protReq_answers (op : Nat) (w : ReqStep) (s : State) : ∃ t, protReq op w s = .next t := by
  cases w <;> exact ⟨_, rfl⟩

/-- Every arm of the dispatch ends in a next state: by its definition, and for PROT.REQ by either step of it. -/
theorem exec_answers (c : Instr) (s : State) : ∃ t, exec c s = .next t := by
  cases c with
  | protReqClear w => exact protReq_answers 0 w s
  | protReqLo w => exact protReq_answers 1 w s
  | protReqFs w => exact protReq_answers 2 w s
  | protReqMsP w => exact protReq_answers 3 w s
  | protReqMsW w => exact protReq_answers 4 w s
  | protReqExer w => exact protReq_answers 5 w s
  | protReqWtr w => exact protReq_answers 8 w s
  | protReqDnr w => exact protReq_answers 9 w s
  | protReqNr w => exact protReq_answers 10 w s
  | _ => exact ⟨_, rfl⟩

/-! ### Every command keeps the queue and canonical form -/

theorem exec_keeps (s : State) : ∀ c : Instr, KeepsR s (exec c s)
  | .tickBoundary m => execTickBoundary_keeps m s (keeps_refl s)
  | .passStart => execPassStart_keeps s (keeps_refl s)
  | .passOverrun => execPassOverrun_keeps s (keeps_refl s)
  | .commitWindow => execCommitWindow_keeps s (keeps_refl s)
  | .tier1DeltaSeal => execTier1DeltaSeal_keeps s (keeps_refl s)
  | .healthWordTx => execHealthWordTx_keeps s (keeps_refl s)
  | .nop iss => execNop_keeps iss s (keeps_refl s)
  | .add iss gD gA gB => execAdd_keeps iss gD gA gB s (keeps_refl s)
  | .sub iss gD gA gB => execSub_keeps iss gD gA gB s (keeps_refl s)
  | .and iss gD gA gB => execAnd_keeps iss gD gA gB s (keeps_refl s)
  | .or iss gD gA gB => execOr_keeps iss gD gA gB s (keeps_refl s)
  | .xor iss gD gA gB => execXor_keeps iss gD gA gB s (keeps_refl s)
  | .shl iss gD gA amt => execShl_keeps iss gD gA amt s (keeps_refl s)
  | .shr iss gD gA amt => execShr_keeps iss gD gA amt s (keeps_refl s)
  | .sar iss gD gA amt => execSar_keeps iss gD gA amt s (keeps_refl s)
  | .mov iss gD gA => execMov_keeps iss gD gA s (keeps_refl s)
  | .sel iss gD gA gB p => execSel_keeps iss gD gA gB p s (keeps_refl s)
  | .min iss gD gA gB => execMin_keeps iss gD gA gB s (keeps_refl s)
  | .max iss gD gA gB => execMax_keeps iss gD gA gB s (keeps_refl s)
  | .satAdd iss gD gA gB => execSatAdd_keeps iss gD gA gB s (keeps_refl s)
  | .cmpEq iss pT pF gA gB => execCmpEq_keeps iss pT pF gA gB s (keeps_refl s)
  | .cmpNe iss pT pF gA gB => execCmpNe_keeps iss pT pF gA gB s (keeps_refl s)
  | .cmpLt iss pT pF gA gB => execCmpLt_keeps iss pT pF gA gB s (keeps_refl s)
  | .cmpLtu iss pT pF gA gB => execCmpLtu_keeps iss pT pF gA gB s (keeps_refl s)
  | .movi iss gD imm => execMovi_keeps iss gD imm s (keeps_refl s)
  | .movh iss gD gA imm => execMovh_keeps iss gD gA imm s (keeps_refl s)
  | .addImmediate iss gD gA imm => execAddImmediate_keeps iss gD gA imm s (keeps_refl s)
  | .lex iss gD gA lane => execLex_keeps iss gD gA lane s (keeps_refl s)
  | .lins iss gD gA gB lane => execLins_keeps iss gD gA gB lane s (keeps_refl s)
  | .popc iss gD gA => execPopc_keeps iss gD gA s (keeps_refl s)
  | .bip8 iss gD gA gB => execBip8_keeps iss gD gA gB s (keeps_refl s)
  | .ctxLd iss gD gA off word => execCtxLd_keeps iss gD gA off word s (keeps_refl s)
  | .ctxSt iss gD gA off word => execCtxSt_keeps iss gD gA off word s (keeps_refl s)
  | .ctxNext iss gD gA mask => execCtxNext_keeps iss gD gA mask s (keeps_refl s)
  | .ctxId iss gD gA toHandle => execCtxId_keeps iss gD gA toHandle s (keeps_refl s)
  | .ohGet iss gD gA off field word => execOhGet_keeps iss gD gA off field word s (keeps_refl s)
  | .ohPut iss gD gA off field word => execOhPut_keeps iss gD gA off field word s (keeps_refl s)
  | .defSet iss gA off bit => execDefSet_keeps iss gA off bit s (keeps_refl s)
  | .defClr iss gA off bit => execDefClr_keeps iss gA off bit s (keeps_refl s)
  | .alm iss gA off => execAlm_keeps iss gA off s (keeps_refl s)
  | .pmAdd iss gD gA off param => execPmAdd_keeps iss gD gA off param s (keeps_refl s)
  | .pmRoll iss gA off bin suspect => execPmRoll_keeps iss gA off bin suspect s (keeps_refl s)
  | .cfgR iss gD gA off => execCfgR_keeps iss gD gA off s (keeps_refl s)
  | .cfgW iss gA gB off => execCfgW_keeps iss gA gB off s (keeps_refl s)
  | .filtSet iss gA gB word => execFiltSet_keeps iss gA gB word s (keeps_refl s)
  | .filtGet iss gD gA word => execFiltGet_keeps iss gD gA word s (keeps_refl s)
  | .protReqClear w => execProtReqClear_keeps w s (keeps_refl s)
  | .protReqLo w => execProtReqLo_keeps w s (keeps_refl s)
  | .protReqFs w => execProtReqFs_keeps w s (keeps_refl s)
  | .protReqMsP w => execProtReqMsP_keeps w s (keeps_refl s)
  | .protReqMsW w => execProtReqMsW_keeps w s (keeps_refl s)
  | .protReqExer w => execProtReqExer_keeps w s (keeps_refl s)
  | .protReqWtr w => execProtReqWtr_keeps w s (keeps_refl s)
  | .protReqDnr w => execProtReqDnr_keeps w s (keeps_refl s)
  | .protReqNr w => execProtReqNr_keeps w s (keeps_refl s)
  | .protSt iss gD gA => execProtSt_keeps iss gD gA s (keeps_refl s)
  | .deckW iss gA gB => execDeckW_keeps iss gA gB s (keeps_refl s)
  | .deckRd iss gD gA standby => execDeckRd_keeps iss gD gA standby s (keeps_refl s)
  | .deckSwap iss d0 d1 => execDeckSwap_keeps iss d0 d1 s (keeps_refl s)
  | .qOpen iss gA q => execQOpen_keeps iss gA q s (keeps_refl s)
  | .qPut iss gA => execQPut_keeps iss gA s (keeps_refl s)
  | .qClose iss => execQClose_keeps iss s (keeps_refl s)
  | .qAbort iss => execQAbort_keeps iss s (keeps_refl s)
  | .chkSeed iss gA fold mode wait => execChkSeed_keeps iss gA fold mode wait s (keeps_refl s)
  | .chkFeed iss gA lanes wait => execChkFeed_keeps iss gA lanes wait s (keeps_refl s)
  | .chkRes iss gD wait => execChkRes_keeps iss gD wait s (keeps_refl s)
  | .pcSel iss gA k => execPcSel_keeps iss gA k s (keeps_refl s)
  | .pcRd iss gD shadow k => execPcRd_keeps iss gD shadow k s (keeps_refl s)
  | .snap iss => execSnap_keeps iss s (keeps_refl s)
  | .snapInEdge => execSnapInEdge_keeps s (keeps_refl s)
  | .snapCapture merged => execSnapCapture_keeps merged s (keeps_refl s)
  | .br iss off => execBr_keeps iss off s (keeps_refl s)
  | .loop iss n last => execLoop_keeps iss n last s (keeps_refl s)
  | .loopContext iss gD mask last => execLoopContext_keeps iss gD mask last s (keeps_refl s)
  | .endl iss => execEndl_keeps iss s (keeps_refl s)
  | .call iss target => execCall_keeps iss target s (keeps_refl s)
  | .ret iss => execRet_keeps iss s (keeps_refl s)
  | .haltTick iss => execHaltTick_keeps iss s (keeps_refl s)
  | .storeStarter iss gD gA gB => execStoreStarter_keeps iss gD gA gB s (keeps_refl s)
  | .storeFw iss gD gA gB sigOk => execStoreFw_keeps iss gD gA gB sigOk s (keeps_refl s)
  | .storeOwner iss gD gA gB sigOk bindOk => execStoreOwner_keeps iss gD gA gB sigOk bindOk s (keeps_refl s)
  | .storeFloors iss gD gA gB => execStoreFloors_keeps iss gD gA gB s (keeps_refl s)
  | .storePair iss gD gA gB sigOk => execStorePair_keeps iss gD gA gB sigOk s (keeps_refl s)
  | .storeComplete => execStoreComplete_keeps s (keeps_refl s)
  | .seal iss gD => execSeal_keeps iss gD s (keeps_refl s)
  | .attest iss gD gA gB => execAttest_keeps iss gD gA gB s (keeps_refl s)
  | .loafLoad iss gD gA gB sigOk => execLoafLoad_keeps iss gD gA gB sigOk s (keeps_refl s)
  | .keyGen iss gD gB slot => execKeyGen_keeps iss gD gB slot s (keeps_refl s)
  | .keyUseSign iss gD gA gB slot => execKeyUseSign_keeps iss gD gA gB slot s (keeps_refl s)
  | .keyUseCertify iss gD gA gB slot => execKeyUseCertify_keeps iss gD gA gB slot s (keeps_refl s)
  | .keyUseAgree iss gD gA gB slot => execKeyUseAgree_keeps iss gD gA gB slot s (keeps_refl s)
  | .power iss gA ladder => execPower_keeps iss gA ladder s (keeps_refl s)
  | .mateSend iss gD gA gB => execMateSend_keeps iss gD gA gB s (keeps_refl s)
  | .sessionClose iss gD => execSessionClose_keeps iss gD s (keeps_refl s)
  | .sessionRenew iss gD => execSessionRenew_keeps iss gD s (keeps_refl s)
  | .cqBaseWrite q field v => execCqBaseWrite_keeps q field v s (keeps_refl s)
  | .cqTail q v => execCqTail_keeps q v s (keeps_refl s)
  | .commandFetch q e => execCommandFetch_keeps q e s (keeps_refl s)
  | .cqBatch q => execCqBatch_keeps q s (keeps_refl s)
  | .cqOpen q => execCqOpen_keeps q s (keeps_refl s)
  | .cqProof q => execCqProof_keeps q s (keeps_refl s)
  | .proofTimeout q => execProofTimeout_keeps q s (keeps_refl s)
  | .batchStart => execBatchStart_keeps s (keeps_refl s)
  | .hrHead q v => execHrHead_keeps q v s (keeps_refl s)
  | .hqCredit q v => execHqCredit_keeps q v s (keeps_refl s)
  | .hostRingWrite q => execHostRingWrite_keeps q s (keeps_refl s)
  | .hrCoalTimeout q => execHrCoalTimeout_keeps q s (keeps_refl s)
  | .intClr v => execIntClr_keeps v s (keeps_refl s)
  | .recGo addr image sigOk => execRecGo_keeps addr image sigOk s (keeps_refl s)
  | .bar0Violation off => execBar0Violation_keeps off s (keeps_refl s)
  | .hostCtxCreate o kind id => execHostCtxCreate_keeps o kind id s (keeps_refl s)
  | .hostCtxDelete o id => execHostCtxDelete_keeps o id s (keeps_refl s)
  | .hostCtxSetKind o kind id => execHostCtxSetKind_keeps o kind id s (keeps_refl s)
  | .hostCtxSetPin o id => execHostCtxSetPin_keeps o id s (keeps_refl s)
  | .hostCtxClearPin o id => execHostCtxClearPin_keeps o id s (keeps_refl s)
  | .controlWordWrite o addr v => execControlWordWrite_keeps o addr v s (keeps_refl s)
  | .laneCfg side quad ws => execLaneCfg_keeps side quad ws s (keeps_refl s)
  | .vcoCalDone side quad => execVcoCalDone_keeps side quad s (keeps_refl s)
  | .lanePllLock l => execLanePllLock_keeps l s (keeps_refl s)
  | .laneCdrLock l => execLaneCdrLock_keeps l s (keeps_refl s)
  | .laneAdaptDone l eq snr => execLaneAdaptDone_keeps l eq snr s (keeps_refl s)
  | .laneDown l cdrLost sigLost => execLaneDown_keeps l cdrLost sigLost s (keeps_refl s)
  | .fecCfg l w => execFecCfg_keeps l w s (keeps_refl s)
  | .fecCntClr l => execFecCntClr_keeps l s (keeps_refl s)
  | .laneEqCtrl l w => execLaneEqCtrl_keeps l w s (keeps_refl s)
  | .laneTxFfe l iss w => execLaneTxFfe_keeps l iss w s (keeps_refl s)
  | .eqFenceHit l loop => execEqFenceHit_keeps l loop s (keeps_refl s)
  | .eqMarginLow l snr => execEqMarginLow_keeps l snr s (keeps_refl s)
  | .linkTrainDone l ffe0 ffe1 => execLinkTrainDone_keeps l ffe0 ffe1 s (keeps_refl s)
  | .linkTrainFail l => execLinkTrainFail_keeps l s (keeps_refl s)
  | .prbsGenEn o l pat inv => execPrbsGenEn_keeps o l pat inv s (keeps_refl s)
  | .prbsChkEn o l pat => execPrbsChkEn_keeps o l pat s (keeps_refl s)
  | .prbsErrInj o l => execPrbsErrInj_keeps o l s (keeps_refl s)
  | .prbsLock l bits errs => execPrbsLock_keeps l bits errs s (keeps_refl s)
  | .prbsLockLoss l bits errs => execPrbsLockLoss_keeps l bits errs s (keeps_refl s)
  | .laneLpbk o l near far => execLaneLpbk_keeps o l near far s (keeps_refl s)
  | .clkRefCtrl r w => execClkRefCtrl_keeps r w s (keeps_refl s)
  | .refclkLoss r n => execRefclkLoss_keeps r n s (keeps_refl s)
  | .refclkRequalify r n => execRefclkRequalify_keeps r n s (keeps_refl s)
  | .frmCfg r ws => execFrmCfg_keeps r ws s (keeps_refl s)
  | .frmThr r w => execFrmThr_keeps r w s (keeps_refl s)
  | .frmTime r w => execFrmTime_keeps r w s (keeps_refl s)
  | .frmCntClr r => execFrmCntClr_keeps r s (keeps_refl s)
  | .candidateOpen r member offset mf => execCandidateOpen_keeps r member offset mf s (keeps_refl s)
  | .candidateCheck r member offset faOk mf => execCandidateCheck_keeps r member offset faOk mf s (keeps_refl s)
  | .framerWindowEnd r member => execFramerWindowEnd_keeps r member s (keeps_refl s)
  | .oofDeclare r member => execOofDeclare_keeps r member s (keeps_refl s)
  | .mfOom r => execMfOom_keeps r s (keeps_refl s)
  | .mfIm r => execMfIm_keeps r s (keeps_refl s)
  | .lofSet r lane => execLofSet_keeps r lane s (keeps_refl s)
  | .lofClr r lane => execLofClr_keeps r lane s (keeps_refl s)
  | .lomSet r => execLomSet_keeps r s (keeps_refl s)
  | .lomClr r => execLomClr_keeps r s (keeps_refl s)
  | .lolChange r idOk skew latest earliest locked =>
    execLolChange_keeps r idOk skew latest earliest locked s (keeps_refl s)
  | .frameReceive c f => execFrameReceive_keeps c f s (keeps_refl s)
  | .filterOccurrence c n => execFilterOccurrence_keeps c n s (keeps_refl s)
  | .filterUnstable c n => execFilterUnstable_keeps c n s (keeps_refl s)
  | .fcCfg c cell word w => execFcCfg_keeps c cell word w s (keeps_refl s)
  | .ohPmSet u w => execOhPmSet_keeps u w s (keeps_refl s)
  | .ohErrClear u => execOhErrClear_keeps u s (keeps_refl s)
  | .losDeclare r => execLosDeclare_keeps r s (keeps_refl s)
  | .losClear r => execLosClear_keeps r s (keeps_refl s)
  | .defectDeclare c d => execDefectDeclare_keeps c d s (keeps_refl s)
  | .defectClear c d => execDefectClear_keeps c d s (keeps_refl s)
  | .consequentActionStart c backward => execConsequentActionStart_keeps c backward s (keeps_refl s)
  | .consequentActionEnd c backward => execConsequentActionEnd_keeps c backward s (keeps_refl s)
  | .mapCfg r ws => execMapCfg_keeps r ws s (keeps_refl s)
  | .mapPortStart r => execMapPortStart_keeps r s (keeps_refl s)
  | .mapTxRun r ws => execMapTxRun_keeps r ws s (keeps_refl s)
  | .mapRxRun r step => execMapRxRun_keeps r step s (keeps_refl s)
  | .mapCntClr r => execMapCntClr_keeps r s (keeps_refl s)
  | .clientReplacementStart r rx => execClientReplacementStart_keeps r rx s (keeps_refl s)
  | .clientReplacementEnd r rx => execClientReplacementEnd_keeps r rx s (keeps_refl s)
  | .gfpCsfSend r => execGfpCsfSend_keeps r s (keeps_refl s)
  | .csfRxTimeout r => execCsfRxTimeout_keeps r s (keeps_refl s)
  | .shimCalReq r w => execShimCalReq_keeps r w s (keeps_refl s)
  | .flexeCalSwitch r => execFlexeCalSwitch_keeps r s (keeps_refl s)
  | .flexeCalTimeout r => execFlexeCalTimeout_keeps r s (keeps_refl s)
  | .chanFrameRx r step => execChanFrameRx_keeps r step s (keeps_refl s)
  | .chanFrameTx r => execChanFrameTx_keeps r s (keeps_refl s)
  | .pauseMsgSend q => execPauseMsgSend_keeps q s (keeps_refl s)
  | .gfpFrameRx r h f => execGfpFrameRx_keeps r h f s (keeps_refl s)
  | .gfpFrameStart r lines => execGfpFrameStart_keeps r lines s (keeps_refl s)
  | .gfpUnderrun r => execGfpUnderrun_keeps r s (keeps_refl s)
  | .cqCtrl q ws => execCqCtrl_keeps q ws s (keeps_refl s)
  | .clientQueueFlush o q => execClientQueueFlush_keeps o q s (keeps_refl s)
  | .queueAppend q item => execQueueAppend_keeps q item s (keeps_refl s)
  | .queueWmWrite q w => execQueueWmWrite_keeps q w s (keeps_refl s)
  | .hqCfg q ws => execHqCfg_keeps q ws s (keeps_refl s)
  | .hostQueueFlush o q => execHostQueueFlush_keeps o q s (keeps_refl s)
  | .deckOutputChange d c us => execDeckOutputChange_keeps d c us s (keeps_refl s)
  | .deckSwapTimeout d => execDeckSwapTimeout_keeps d s (keeps_refl s)
  | .deckCopyDone d => execDeckCopyDone_keeps d s (keeps_refl s)
  | .deckPrbsGen d w => execDeckPrbsGen_keeps d w s (keeps_refl s)
  | .deckPrbsChk d w => execDeckPrbsChk_keeps d w s (keeps_refl s)
  | .fineBlk r b w => execFineBlk_keeps r b w s (keeps_refl s)
  | .rszGo d c w => execRszGo_keeps d c w s (keeps_refl s)
  | .rszAbortCmd d c w => execRszAbortCmd_keeps d c w s (keeps_refl s)
  | .rszHandshakeAck d c => execRszHandshakeAck_keeps d c s (keeps_refl s)
  | .rszHandshakeTimeout d c => execRszHandshakeTimeout_keeps d c s (keeps_refl s)
  | .rszRampEnd d c => execRszRampEnd_keeps d c s (keeps_refl s)
  | .rszCfgDisable d c w => execRszCfgDisable_keeps d c w s (keeps_refl s)
  | .grpCfg d g w => execGrpCfg_keeps d g w s (keeps_refl s)
  | .hlCfg p ws => execHlCfg_keeps p ws s (keeps_refl s)
  | .hlRecentre p step => execHlRecentre_keeps p step s (keeps_refl s)
  | .hlCntClr p => execHlCntClr_keeps p s (keeps_refl s)
  | .prfCtrl d w => execPrfCtrl_keeps d w s (keeps_refl s)
  | .ringStart r => execRingStart_keeps r s (keeps_refl s)
  | .ringLineRead r ecc crc partnerOk => execRingLineRead_keeps r ecc crc partnerOk s (keeps_refl s)
  | .ringBreak r => execRingBreak_keeps r s (keeps_refl s)
  | .hlAlignAttempt p => execHlAlignAttempt_keeps p s (keeps_refl s)
  | .hlAlignConfirm p => execHlAlignConfirm_keeps p s (keeps_refl s)
  | .hlSearchRange p => execHlSearchRange_keeps p s (keeps_refl s)
  | .hlMisalign p => execHlMisalign_keeps p s (keeps_refl s)
  | .hlSlackEval p lateW earlyW lateP earlyP => execHlSlackEval_keeps p lateW earlyW lateP earlyP s (keeps_refl s)
  | .mlomDeclare c => execMlomDeclare_keeps c s (keeps_refl s)
  | .mlomClear c => execMlomClear_keeps c s (keeps_refl s)
  | .groupReaderPlace d g => execGroupReaderPlace_keeps d g s (keeps_refl s)
  | .groupRetime d g => execGroupRetime_keeps d g s (keeps_refl s)
  | .loaChange d g => execLoaChange_keeps d g s (keeps_refl s)
  | .lcasPacketRx c crcOk ctrl sq rsAck mst => execLcasPacketRx_keeps c crcOk ctrl sq rsAck mst s (keeps_refl s)
  | .lcasPayloadChange d g => execLcasPayloadChange_keeps d g s (keeps_refl s)
  | .lcasTxChange c => execLcasTxChange_keeps c s (keeps_refl s)
  | .prtCfg p ws => execPrtCfg_keeps p ws s (keeps_refl s)
  | .prtCntClr p => execPrtCntClr_keeps p s (keeps_refl s)
  | .holdoffStart p protect => execHoldoffStart_keeps p protect s (keeps_refl s)
  | .holdoffExpire p protect => execHoldoffExpire_keeps p protect s (keeps_refl s)
  | .protFastpathEval p => execProtFastpathEval_keeps p s (keeps_refl s)
  | .wtrExpire p => execWtrExpire_keeps p s (keeps_refl s)
  | .hlWaitExpire p => execHlWaitExpire_keeps p s (keeps_refl s)
  | .fopNrDeclare p => execFopNrDeclare_keeps p s (keeps_refl s)
  | .protHoldEnd p limit => execProtHoldEnd_keeps p limit s (keeps_refl s)
  | .grantInChange level => execGrantInChange_keeps level s (keeps_refl s)
  | .grantPulseReject => execGrantPulseReject_keeps s (keeps_refl s)
  | .ilkInChange asserted => execIlkInChange_keeps asserted s (keeps_refl s)
  | .ilkResample => execIlkResample_keeps s (keeps_refl s)
  | .ilkBlockedRetry => execIlkBlockedRetry_keeps s (keeps_refl s)
  | .roleConflictDeclare mismatch => execRoleConflictDeclare_keeps mismatch s (keeps_refl s)
  | .roleConflictClear => execRoleConflictClear_keeps s (keeps_refl s)
  | .starterApply => execStarterApply_keeps s (keeps_refl s)
  | .takeoverActive timeout => execTakeoverActive_keeps timeout s (keeps_refl s)
  | .releaseToStandby => execReleaseToStandby_keeps s (keeps_refl s)
  | .polfenLock => execPolfenLock_keeps s (keeps_refl s)
  | .polfenLockLoss => execPolfenLockLoss_keeps s (keeps_refl s)
  | .polfenHello seat paired epoch => execPolfenHello_keeps seat paired epoch s (keeps_refl s)
  | .polfenFrameRx f crcOk tagOk => execPolfenFrameRx_keeps f crcOk tagOk s (keeps_refl s)
  | .polfenRetxTimeout => execPolfenRetxTimeout_keeps s (keeps_refl s)
  | .polfenHoldExpire => execPolfenHoldExpire_keeps s (keeps_refl s)
  | .polfenRekey epoch => execPolfenRekey_keeps epoch s (keeps_refl s)
  | .polfenFrameTx => execPolfenFrameTx_keeps s (keeps_refl s)
  | .statusMsgRx => execStatusMsgRx_keeps s (keeps_refl s)
  | .tier1MsgRx => execTier1MsgRx_keeps s (keeps_refl s)
  | .tier2MsgRx => execTier2MsgRx_keeps s (keeps_refl s)
  | .resyncReqRx => execResyncReqRx_keeps s (keeps_refl s)
  | .sweepStart => execSweepStart_keeps s (keeps_refl s)
  | .sweepMsgRx => execSweepMsgRx_keeps s (keeps_refl s)
  | .sweepComplete => execSweepComplete_keeps s (keeps_refl s)
  | .mateMsgRx => execMateMsgRx_keeps s (keeps_refl s)
  | .mateLinkEn w => execMateLinkEn_keeps w s (keeps_refl s)
  | .mateRestart w => execMateRestart_keeps w s (keeps_refl s)
  | .mateResync w => execMateResync_keeps w s (keeps_refl s)
  | .mateYield w => execMateYield_keeps w s (keeps_refl s)
  | .mateConfirm w => execMateConfirm_keeps w s (keeps_refl s)
  | .mateCntClr => execMateCntClr_keeps s (keeps_refl s)
  | .mateQueueFlush o => execMateQueueFlush_keeps o s (keeps_refl s)
  | .selftestBurstStart => execSelftestBurstStart_keeps s (keeps_refl s)
  | .selftestBurstEnd pass => execSelftestBurstEnd_keeps pass s (keeps_refl s)
  | .syncEdge input gap phase freq => execSyncEdge_keeps input gap phase freq s (keeps_refl s)
  | .syncLoss input gap => execSyncLoss_keeps input gap s (keeps_refl s)
  | .syncRequalify input => execSyncRequalify_keeps input s (keeps_refl s)
  | .dpllSlewDone => execDpllSlewDone_keeps s (keeps_refl s)
  | .clkSyncCtrl w => execClkSyncCtrl_keeps w s (keeps_refl s)
  | .recClkCfg n w => execRecClkCfg_keeps n w s (keeps_refl s)
  | .recClkSquelch n => execRecClkSquelch_keeps n s (keeps_refl s)
  | .recClkResume n => execRecClkResume_keeps n s (keeps_refl s)
  | .audCfg p w => execAudCfg_keeps p w s (keeps_refl s)
  | .owCfg c w => execOwCfg_keeps c w s (keeps_refl s)
  | .audChangeLand c tx => execAudChangeLand_keeps c tx s (keeps_refl s)
  | .audChangeTimeout c tx => execAudChangeTimeout_keeps c tx s (keeps_refl s)
  | .audSlip c tx => execAudSlip_keeps c tx s (keeps_refl s)
  | .audForcedSlip c tx => execAudForcedSlip_keeps c tx s (keeps_refl s)
  | .audPortFreeze p => execAudPortFreeze_keeps p s (keeps_refl s)
  | .audPortResume p hz => execAudPortResume_keeps p hz s (keeps_refl s)
  | .audMuteLift p => execAudMuteLift_keeps p s (keeps_refl s)
  | .audSample c m => execAudSample_keeps c m s (keeps_refl s)
  | .audCntClear c => execAudCntClear_keeps c s (keeps_refl s)
  | .pwrDomReq d w => execPwrDomReq_keeps d w s (keeps_refl s)
  | .domainTransitionDone d => execDomainTransitionDone_keeps d s (keeps_refl s)
  | .modeReqProvision w => execModeReqProvision_keeps w s (keeps_refl s)
  | .modeReqStandby w => execModeReqStandby_keeps w s (keeps_refl s)
  | .modeReqTest w => execModeReqTest_keeps w s (keeps_refl s)
  | .pkgResetReq w => execPkgResetReq_keeps w s (keeps_refl s)
  | .dormantEntry w => execDormantEntry_keeps w s (keeps_refl s)
  | .dormantWake grant => execDormantWake_keeps grant s (keeps_refl s)
  | .vloopCtrl r w => execVloopCtrl_keeps r w s (keeps_refl s)
  | .vloopStep r pass aging => execVloopStep_keeps r pass aging s (keeps_refl s)
  | .placeCtrl w => execPlaceCtrl_keeps w s (keeps_refl s)
  | .cpmFailQuarantine r => execCpmFailQuarantine_keeps r s (keeps_refl s)
  | .regulatorFault d => execRegulatorFault_keeps d s (keeps_refl s)
  | .tempAlarm => execTempAlarm_keeps s (keeps_refl s)
  | .tamperTrip m => execTamperTrip_keeps m s (keeps_refl s)
  | .cenClr v => execCenClr_keeps v s (keeps_refl s)
  | .pcCounterWrite e k v inc => execPcCounterWrite_keeps e k v inc s (keeps_refl s)
  | .vinUvlo c => execVinUvlo_keeps c s (keeps_refl s)
  | .vinPowerOn => execVinPowerOn_keeps s (keeps_refl s)
  | .resetLAssert => execResetLAssert_keeps s (keeps_refl s)
  | .resetRelease st => execResetRelease_keeps st s (keeps_refl s)
  | .pufKeysDerived => execPufKeysDerived_keeps s (keeps_refl s)
  | .bootFwSelect => execBootFwSelect_keeps s (keeps_refl s)
  | .fwStart => execFwStart_keeps s (keeps_refl s)
  | .bootStarterLoad opens sigOk => execBootStarterLoad_keeps opens sigOk s (keeps_refl s)
  | .perstLAssert => execPerstLAssert_keeps s (keeps_refl s)
  | .guestAddr io => execGuestAddr_keeps io s (keeps_refl s)
  | .guestAttNonce io => execGuestAttNonce_keeps io s (keeps_refl s)
  | .guestAttStat io => execGuestAttStat_keeps io s (keeps_refl s)
  | .guestAttOff io => execGuestAttOff_keeps io s (keeps_refl s)
  | .guestSclTimeout => execGuestSclTimeout_keeps s (keeps_refl s)
  | .extest lands tdi => execExtest_keeps lands tdi s (keeps_refl s)
  | .samplePreload lands tdi => execSamplePreload_keeps lands tdi s (keeps_refl s)
  | .extestPulse lands tdi => execExtestPulse_keeps lands tdi s (keeps_refl s)
  | .extestTrain lands tdi => execExtestTrain_keeps lands tdi s (keeps_refl s)
  | .dbgNonce => execDbgNonce_keeps s (keeps_refl s)
  | .dbgToken lines sigOk => execDbgToken_keeps lines sigOk s (keeps_refl s)
  | .dbgCfg write addr data => execDbgCfg_keeps write addr data s (keeps_refl s)
  | .dbgTrace => execDbgTrace_keeps s (keeps_refl s)
  | .traceSel v => execTraceSel_keeps v s (keeps_refl s)
  | .bypass tdi => execBypass_keeps tdi s (keeps_refl s)
  | .pcsAlignStatus r phy up locked => execPcsAlignStatus_keeps r phy up locked s (keeps_refl s)
  | .ovloRestart => execOvloRestart_keeps s (keeps_refl s)
  | .perstLRelease => execPerstLRelease_keeps s (keeps_refl s)
  | .loafLoadComplete => execLoafLoadComplete_keeps s (keeps_refl s)
  | .attestComplete => execAttestComplete_keeps s (keeps_refl s)
  | .pcieLinkRetrain => execPcieLinkRetrain_keeps s (keeps_refl s)
  | .pcieError k => execPcieError_keeps k s (keeps_refl s)

/-! ### Engine instructions and roles (R36, R40) -/

/-- What says which package drives the line, and when: mode, interlock, phase, redundancy, and the tick with its wraps. -/
def roles (s : State) : Mode × Ilk × Phase × Rdn × Word × Word := (s.mode, s.ilk, s.phase, s.rdn, s.tick, s.wrap)

theorem roles_eq_iff {s t : State} : roles t = roles s ↔
    t.mode = s.mode ∧ t.ilk = s.ilk ∧ t.phase = s.phase ∧ t.rdn = s.rdn ∧ t.tick = s.tick ∧ t.wrap = s.wrap := by
  simp only [roles, Prod.mk.injEq]

theorem drivesLine_of_roles {s t : State} (h : roles t = roles s) : drivesLine t = drivesLine s := by
  obtain ⟨hmode, hilk, -, hrdn, -, -⟩ := roles_eq_iff.1 h
  simp only [drivesLine, hmode, hilk, hrdn]

/-- No engine instruction writes a field that `roles` sees: the frame of each one, at that view. -/
theorem exec_roles {c : Instr} {s : State} {i : Iss} (h : issueOf c = some i) : FrameR roles (roles s) (exec c s) := by
  cases c with
  | nop => apply execNop_frame (hk := rfl) <;> exact fun _ _ => rfl
  | add => apply execAdd_frame (hk := rfl) <;> exact fun _ _ => rfl
  | sub => apply execSub_frame (hk := rfl) <;> exact fun _ _ => rfl
  | and => apply execAnd_frame (hk := rfl) <;> exact fun _ _ => rfl
  | or => apply execOr_frame (hk := rfl) <;> exact fun _ _ => rfl
  | xor => apply execXor_frame (hk := rfl) <;> exact fun _ _ => rfl
  | shl => apply execShl_frame (hk := rfl) <;> exact fun _ _ => rfl
  | shr => apply execShr_frame (hk := rfl) <;> exact fun _ _ => rfl
  | sar => apply execSar_frame (hk := rfl) <;> exact fun _ _ => rfl
  | mov => apply execMov_frame (hk := rfl) <;> exact fun _ _ => rfl
  | sel => apply execSel_frame (hk := rfl) <;> exact fun _ _ => rfl
  | min => apply execMin_frame (hk := rfl) <;> exact fun _ _ => rfl
  | max => apply execMax_frame (hk := rfl) <;> exact fun _ _ => rfl
  | satAdd => apply execSatAdd_frame (hk := rfl) <;> exact fun _ _ => rfl
  | cmpEq => apply execCmpEq_frame (hk := rfl) <;> exact fun _ _ => rfl
  | cmpNe => apply execCmpNe_frame (hk := rfl) <;> exact fun _ _ => rfl
  | cmpLt => apply execCmpLt_frame (hk := rfl) <;> exact fun _ _ => rfl
  | cmpLtu => apply execCmpLtu_frame (hk := rfl) <;> exact fun _ _ => rfl
  | movi => apply execMovi_frame (hk := rfl) <;> exact fun _ _ => rfl
  | movh => apply execMovh_frame (hk := rfl) <;> exact fun _ _ => rfl
  | addImmediate => apply execAddImmediate_frame (hk := rfl) <;> exact fun _ _ => rfl
  | lex => apply execLex_frame (hk := rfl) <;> exact fun _ _ => rfl
  | lins => apply execLins_frame (hk := rfl) <;> exact fun _ _ => rfl
  | popc => apply execPopc_frame (hk := rfl) <;> exact fun _ _ => rfl
  | bip8 => apply execBip8_frame (hk := rfl) <;> exact fun _ _ => rfl
  | ctxLd => apply execCtxLd_frame (hk := rfl) <;> exact fun _ _ => rfl
  | ctxSt => apply execCtxSt_frame (hk := rfl) <;> exact fun _ _ => rfl
  | ctxNext => apply execCtxNext_frame (hk := rfl) <;> exact fun _ _ => rfl
  | ctxId => apply execCtxId_frame (hk := rfl) <;> exact fun _ _ => rfl
  | ohGet => apply execOhGet_frame (hk := rfl) <;> exact fun _ _ => rfl
  | ohPut => apply execOhPut_frame (hk := rfl) <;> exact fun _ _ => rfl
  | defSet => apply execDefSet_frame (hk := rfl) <;> exact fun _ _ => rfl
  | defClr => apply execDefClr_frame (hk := rfl) <;> exact fun _ _ => rfl
  | alm => apply execAlm_frame (hk := rfl) <;> exact fun _ _ => rfl
  | pmAdd => apply execPmAdd_frame (hk := rfl) <;> exact fun _ _ => rfl
  | pmRoll => apply execPmRoll_frame (hk := rfl) <;> exact fun _ _ => rfl
  | cfgR => apply execCfgR_frame (hk := rfl) <;> exact fun _ _ => rfl
  | cfgW => apply execCfgW_frame (hk := rfl) <;> exact fun _ _ => rfl
  | filtSet => apply execFiltSet_frame (hk := rfl) <;> exact fun _ _ => rfl
  | filtGet => apply execFiltGet_frame (hk := rfl) <;> exact fun _ _ => rfl
  | protSt => apply execProtSt_frame (hk := rfl) <;> exact fun _ _ => rfl
  | deckW => apply execDeckW_frame (hk := rfl) <;> exact fun _ _ => rfl
  | deckRd => apply execDeckRd_frame (hk := rfl) <;> exact fun _ _ => rfl
  | deckSwap => apply execDeckSwap_frame (hk := rfl) <;> exact fun _ _ => rfl
  | qOpen => apply execQOpen_frame (hk := rfl) <;> exact fun _ _ => rfl
  | qPut => apply execQPut_frame (hk := rfl) <;> exact fun _ _ => rfl
  | qClose => apply execQClose_frame (hk := rfl) <;> exact fun _ _ => rfl
  | qAbort => apply execQAbort_frame (hk := rfl) <;> exact fun _ _ => rfl
  | chkSeed => apply execChkSeed_frame (hk := rfl) <;> exact fun _ _ => rfl
  | chkFeed => apply execChkFeed_frame (hk := rfl) <;> exact fun _ _ => rfl
  | chkRes => apply execChkRes_frame (hk := rfl) <;> exact fun _ _ => rfl
  | pcSel => apply execPcSel_frame (hk := rfl) <;> exact fun _ _ => rfl
  | pcRd => apply execPcRd_frame (hk := rfl) <;> exact fun _ _ => rfl
  | snap => apply execSnap_frame (hk := rfl) <;> exact fun _ _ => rfl
  | br => apply execBr_frame (hk := rfl) <;> exact fun _ _ => rfl
  | loop => apply execLoop_frame (hk := rfl) <;> exact fun _ _ => rfl
  | loopContext => apply execLoopContext_frame (hk := rfl) <;> exact fun _ _ => rfl
  | endl => apply execEndl_frame (hk := rfl) <;> exact fun _ _ => rfl
  | call => apply execCall_frame (hk := rfl) <;> exact fun _ _ => rfl
  | ret => apply execRet_frame (hk := rfl) <;> exact fun _ _ => rfl
  | haltTick => apply execHaltTick_frame (hk := rfl) <;> exact fun _ _ => rfl
  | power => apply execPower_frame (hk := rfl) <;> exact fun _ _ => rfl
  | storeStarter => apply execStoreStarter_frame (hk := rfl) <;> exact fun _ _ => rfl
  | storeFw => apply execStoreFw_frame (hk := rfl) <;> exact fun _ _ => rfl
  | storeOwner => apply execStoreOwner_frame (hk := rfl) <;> exact fun _ _ => rfl
  | storeFloors => apply execStoreFloors_frame (hk := rfl) <;> exact fun _ _ => rfl
  | storePair => apply execStorePair_frame (hk := rfl) <;> exact fun _ _ => rfl
  | attest => apply execAttest_frame (hk := rfl) <;> exact fun _ _ => rfl
  | loafLoad => apply execLoafLoad_frame (hk := rfl) <;> exact fun _ _ => rfl
  | keyGen => apply execKeyGen_frame (hk := rfl) <;> exact fun _ _ => rfl
  | keyUseSign => apply execKeyUseSign_frame (hk := rfl) <;> exact fun _ _ => rfl
  | keyUseCertify => apply execKeyUseCertify_frame (hk := rfl) <;> exact fun _ _ => rfl
  | keyUseAgree => apply execKeyUseAgree_frame (hk := rfl) <;> exact fun _ _ => rfl
  | mateSend => apply execMateSend_frame (hk := rfl) <;> exact fun _ _ => rfl
  | sessionClose => apply execSessionClose_frame (hk := rfl) <;> exact fun _ _ => rfl
  | sessionRenew => apply execSessionRenew_frame (hk := rfl) <;> exact fun _ _ => rfl
  | protReqClear => apply execProtReqClear_frame (hk := rfl) <;> exact fun _ _ => rfl
  | protReqLo => apply execProtReqLo_frame (hk := rfl) <;> exact fun _ _ => rfl
  | protReqFs => apply execProtReqFs_frame (hk := rfl) <;> exact fun _ _ => rfl
  | protReqMsP => apply execProtReqMsP_frame (hk := rfl) <;> exact fun _ _ => rfl
  | protReqMsW => apply execProtReqMsW_frame (hk := rfl) <;> exact fun _ _ => rfl
  | protReqExer => apply execProtReqExer_frame (hk := rfl) <;> exact fun _ _ => rfl
  | protReqWtr => apply execProtReqWtr_frame (hk := rfl) <;> exact fun _ _ => rfl
  | protReqDnr => apply execProtReqDnr_frame (hk := rfl) <;> exact fun _ _ => rfl
  | protReqNr => apply execProtReqNr_frame (hk := rfl) <;> exact fun _ _ => rfl
  -- A command with no issue goes by `h`; what `h` leaves is SEAL, whose name is a keyword and cannot head an alternative.
  | _ => cases h <;> apply execSeal_frame (hk := rfl) <;> exact fun _ _ => rfl

/-- Settles O59: by the dispatch, by what every command keeps, and by the frames of the engine instructions. -/
theorem everyCommandAnswersAndLeavesTheQueue : Obligations.EveryCommandAnswersAndLeavesTheQueue := by
  unfold Obligations.EveryCommandAnswersAndLeavesTheQueue
  intro c s
  obtain ⟨t, ht⟩ := exec_answers c s
  refine ⟨t, ht, (exec_keeps s c t ht).pending, fun i hi => ?_⟩
  have hroles : roles t = roles s := exec_roles hi t ht
  obtain ⟨hmode, hilk, hphase, hrdn, htick, hwrap⟩ := roles_eq_iff.1 hroles
  exact ⟨hmode, hilk, hphase, congrArg Rdn.grant hrdn, congrArg Rdn.conflict hrdn, htick, hwrap,
    drivesLine_of_roles hroles⟩

end Sys2Proof.Machine
end

section
/-! PROOFS. The slot that an instruction of slot A opens: it reads as the machine did, and what an instruction
does there. -/

namespace Sys2Proof.Machine

/-! ### Words that no cycle counts -/

theorem pcAddr_div {e k : Nat} (he : e < 65) (hk : k < 0x800) : pcAddr e k / 2 ^ 18 = clsPc := by
  unfold pcAddr ctlAddr clsPc
  split <;> omega

theorem pcAddr_inj {e j k : Nat} (h : pcAddr e j = pcAddr e k) : j = k := by
  unfold pcAddr ctlAddr at h
  split at h <;> omega

/-- A counter word is in class PC. -/
theorem countsCycles_of_class {e a : Nat} (he : e < 65) (ha : a / 2 ^ 18 ≠ clsPc) : countsCycles e a = false := by
  by_contra h
  simp only [countsCycles, Bool.not_eq_false, Bool.or_eq_true, beq_iff_eq, List.any_eq_true, List.mem_range] at h
  obtain rfl | ⟨k, hk, rfl⟩ := h
  · exact ha (pcAddr_div he (by decide))
  · exact ha (pcAddr_div he (by omega))

/-- Above PC7, only OVF. -/
theorem countsCycles_pcAddr {e k : Nat} (h8 : 8 ≤ k) (hk : k ≠ 0x19) : countsCycles e (pcAddr e k) = false := by
  by_contra h
  simp only [countsCycles, Bool.not_eq_false, Bool.or_eq_true, beq_iff_eq, List.any_eq_true, List.mem_range] at h
  obtain h | ⟨j, hj, h⟩ := h
  · exact hk (pcAddr_inj h)
  · have := pcAddr_inj h
    omega

theorem fld_low (v : Word) (hi : Nat) : fld v hi 0 = v.toNat % 2 ^ (hi + 1) := by simp [fld_eq]

theorem filtCell_lt {e : Nat} (he : e < 65) (a : Word) : filtCell e a < 2 ^ 15 := by
  unfold filtCell cellKey clusterOf
  simp only [fld_eq]
  split <;> omega

theorem cellAddr_div {k w : Nat} (hk : k < 2 ^ 15) (hw : w < 4) : cellAddr (k / 2048) (k % 2048) w / 2 ^ 18 = clsOh := by
  unfold cellAddr ctlAddr clsOh
  omega

/-! ### What reads alike before and after the bookkeeping of an issue -/

/-- A view blind to the tables that the bookkeeping writes. -/
theorem ranOn.blind {β : Type} {π : State → β} {s t : State} {e : Nat} {E : Engine} (h : ranOn s t e E)
    (hEngines : Blind π State.putEngines) (hCw : Blind π State.putCw) (hTrace : Blind π State.putTrace) :
    π t = π s := by
  obtain ⟨-, -, -, ht⟩ := h
  calc π t = π (((s.putEngines t.engines).putCw t.cw).putTrace t.trace) := congrArg π ht
    _ = π ((s.putEngines t.engines).putCw t.cw) := hTrace _ _
    _ = π (s.putEngines t.engines) := hCw _ _
    _ = π s := hEngines _ _

theorem ranOn.putBatch {s t : State} {e : Nat} {E : Engine} (h : ranOn s t e E) (b : Option BatchRun) :
    ranOn (s.putBatch b) (t.putBatch b) e E := by
  obtain ⟨heng, hothers, hcw, ht⟩ := h
  refine ⟨heng, hothers, hcw, ?_⟩
  rw [ht]
  rfl

theorem ranOn.putCaptures {s t : State} {e : Nat} {E : Engine} (h : ranOn s t e E) (n : Nat) :
    ranOn (s.putCaptures n) (t.putCaptures n) e E := by
  obtain ⟨heng, hothers, hcw, ht⟩ := h
  refine ⟨heng, hothers, hcw, ?_⟩
  rw [ht]
  rfl

/-! ### Staging -/

theorem stage_of_batch {s : State} {e : Nat} {op : StagedOp} {b : BatchRun} (hr : (engGet s e).running = .batch)
    (hb : s.batch = some b) : stage e op s =
      s.putBatch (some { b with staged := b.staged ++ [{ op := op, bundle := (engGet s e).pc }] }) := by
  unfold stage
  dsimp only
  rw [hr, hb]

theorem stage_of_engine {s : State} {e : Nat} {op : StagedOp}
    (h : ∀ b, (engGet s e).running = .batch → s.batch = some b → False) : stage e op s =
      engPut e { engGet s e with staged := (engGet s e).staged ++ [{ op := op, bundle := (engGet s e).pc }] } s := by
  unfold stage
  dsimp only
  split
  next b hr hb => exact (h b hr hb).elim
  next => rfl

theorem sameRun_staged {E F : Engine} (h : sameRun E F) (g : Staged) :
    sameRun { E with staged := E.staged ++ [g] } { F with staged := F.staged ++ [g] } := by
  unfold sameRun at h ⊢
  rw [h]

/-! ### The opened slot -/

section Opened
variable {s o : State} {i : IssA} (ho : opened s o i)
include ho

theorem opened_operand (g : Reg) : operand o i.eng.val g.val = source s (issueOfA i) g := by
  obtain ⟨-, hregs, -⟩ := ho
  unfold operand source
  rw [hregs]

theorem opened_blind {β : Type} {π : State → β} (hEngines : Blind π State.putEngines) (hCw : Blind π State.putCw)
    (hTrace : Blind π State.putTrace) : π o = π s := ho.1.blind hEngines hCw hTrace

theorem opened_cwGet {a : Nat} (ha : a / 2 ^ 18 ≠ clsPc) : cwGet o a = cwGet s a := by
  obtain ⟨⟨-, -, hcw, -⟩, -, -⟩ := ho
  exact hcw a (countsCycles_of_class i.eng.isLt ha)

theorem opened_cwGet_pc {k : Nat} (h8 : 8 ≤ k) (hk : k ≠ 0x19) :
    cwGet o (pcAddr i.eng.val k) = cwGet s (pcAddr i.eng.val k) := by
  obtain ⟨⟨-, -, hcw, -⟩, -, -⟩ := ho
  exact hcw _ (countsCycles_pcAddr h8 hk)

theorem opened_inBatch : inBatch o i.eng.val = inBatch s i.eng.val := by
  unfold inBatch
  rw [ho.1.running]

theorem opened_imageOf : imageOf o i.eng.val = imageOf s i.eng.val :=
  opened_blind (π := fun s => imageOf s i.eng.val) ho (fun _ _ => rfl) (fun _ _ => rfl) fun _ _ => rfl

theorem opened_granted (w : Bool) (c : Nat) : granted o i.eng.val w c = granted s i.eng.val w c := by
  unfold granted
  rw [opened_inBatch ho, opened_imageOf ho]

theorem opened_selfProfile : selfProfile o i.eng.val = selfProfile s i.eng.val := by
  unfold selfProfile
  rw [opened_inBatch ho, opened_imageOf ho]

theorem opened_deckGranted (w : Bool) (a : Nat) : deckGranted o i.eng.val w a = deckGranted s i.eng.val w a := by
  unfold deckGranted
  rw [opened_inBatch ho, opened_granted ho]

theorem opened_pairScope (p : Nat) : pairScope o i.eng.val p = pairScope s i.eng.val p :=
  opened_blind (π := fun s => pairScope s i.eng.val p) ho (fun _ _ => rfl) (fun _ _ => rfl) fun _ _ => rfl

theorem opened_unitScope (a : Nat) : unitScope o i.eng.val a = unitScope s i.eng.val a :=
  opened_blind (π := fun s => unitScope s i.eng.val a) ho (fun _ _ => rfl) (fun _ _ => rfl) fun _ _ => rfl

/-- The session of the batch under way, with the level of its owner. -/
theorem opened_own : (sessGet o (batchRing o)).own = (sessGet s (batchRing s)).own :=
  opened_blind (π := fun s => (sessGet s (batchRing s)).own) ho (fun _ _ => rfl) (fun _ _ => rfl) fun _ _ => rfl

theorem opened_guestMay (a : Nat) : guestMay o a = guestMay s a := by
  unfold guestMay cwFld
  rw [opened_cwGet ho (by decide)]

theorem opened_pcReach (a : Nat) : pcReach o i.eng.val a = pcReach s i.eng.val a := by
  unfold pcReach
  rw [opened_selfProfile ho]

theorem opened_access (w : Bool) (a : Nat) : access o i.eng.val w a = access s i.eng.val w a := by
  unfold access
  rw [opened_inBatch ho, opened_own ho, opened_guestMay ho, opened_granted ho, opened_unitScope ho, opened_pcReach ho]

theorem opened_ctlTarget (g : Reg) (off : Nat) :
    ctlTarget o i.eng.val g.val off = ((source s (issueOfA i) g).toNat + off) % 2 ^ 24 := by
  unfold ctlTarget
  rw [opened_operand ho]

theorem opened_ctxPlace (id : Nat) : ctxPlace o id = ctxPlace s id :=
  opened_blind (π := fun s => ctxPlace s id) ho (fun _ _ => rfl) (fun _ _ => rfl) fun _ _ => rfl

theorem opened_mContext (gA : Reg) (off : Nat) : mContext o i.eng.val gA.val off = namedContext s i gA off := by
  have hh (u h : Nat) : ctxOfHandle o u h = ctxOfHandle s u h :=
    opened_blind (π := fun s => ctxOfHandle s u h) ho (fun _ _ => rfl) (fun _ _ => rfl) fun _ _ => rfl
  simp only [mContext, namedContext, opened_operand ho, opened_ctxPlace ho, hh]

theorem opened_cellCfg {k : Nat} (hk : k < 2 ^ 15) : cellCfg o k = cellCfg s k :=
  opened_cwGet ho (by rw [cellAddr_div hk (by decide)]; decide)

theorem opened_cellOpen {k : Nat} (hk : k < 2 ^ 15) : cellOpen o i.eng.val k = cellOpen s i.eng.val k := by
  unfold cellOpen
  rw [opened_cellCfg ho hk, opened_ctxPlace ho]

theorem opened_cellWord {k w : Nat} (hk : k < 2 ^ 15) (hw : w < 4) : cellWord o k w = cellWord s k w := by
  have hT0 : o.cellsT0 = s.cellsT0 :=
    opened_blind (π := State.cellsT0) ho (fun _ _ => rfl) (fun _ _ => rfl) fun _ _ => rfl
  unfold cellWord
  rw [opened_cwGet ho (by rw [cellAddr_div hk hw]; decide), opened_cellCfg ho hk, hT0]

theorem opened_latched (a : Nat) : latched o a = latched s a :=
  opened_blind (π := fun s => latched s a) ho (fun _ _ => rfl) (fun _ _ => rfl) fun _ _ => rfl

theorem opened_deckRead (standby : Bool) (a : Nat) : deckRead o standby a = deckRead s standby a :=
  opened_blind (π := fun s => deckRead s standby a) ho (fun _ _ => rfl) (fun _ _ => rfl) fun _ _ => rfl

theorem opened_onContext_some {gA : Reg} {off id : Nat} (h : namedContext s i gA off = some id)
    (f : Nat → State → State) : onContext i.eng.val gA.val off f o = f id o := by
  unfold onContext
  rw [opened_mContext ho, h]

theorem opened_onContext_none {gA : Reg} {off : Nat} (h : namedContext s i gA off = none)
    (f : Nat → State → State) : onContext i.eng.val gA.val off f o = engErr i.eng.val 1 o := by
  unfold onContext
  rw [opened_mContext ho, h]

/-- A staged effect goes to the batch that the engine runs, else to the engine (R39, R478). -/
theorem opened_stage (hr : (engGet s i.eng.val).running ≠ .idle) (op : StagedOp) :
    stages s i (.next (stage i.eng.val op o)) op := by
  have hbatch : o.batch = s.batch :=
    opened_blind (π := State.batch) ho (fun _ _ => rfl) (fun _ _ => rfl) fun _ _ => rfl
  obtain ⟨hran, -, hpc⟩ := ho
  have hrun := hran.running
  refine ⟨_, rfl, ?_⟩
  split
  next b hR hB =>
    rw [stage_of_batch (hrun.trans hR) (hbatch.trans hB), hpc]
    exact hran.putBatch _
  next h =>
    rw [stage_of_engine fun b hR hB => h b (hrun.symm.trans hR) (hbatch.symm.trans hB), hpc]
    exact ranOn_engPut hran (by rw [hrun]; exact hr) (sameRun_staged hran.1 _)

end Opened

/-! ### What an instruction of slot A does, by what its body does on the opened slot -/

section Issued
variable {s : State} {i : IssA} {u : Use} {body : State → State} (ht : takesEffect s (issueOfA i) = true)
include ht

theorem issueA_does {f : State → State} (hb : ∀ o, opened s o i → body o = f o) :
    ∃ o, opened s o i ∧ (.next (issue (issueOfA i) u body s) : Result) = .next (f o) := by
  obtain ⟨o, ho, -, -, hi⟩ := issueA_opens ht u
  exact ⟨o, ho, by rw [hi, hb o ho]⟩

theorem issueA_stages {op : StagedOp} (hb : ∀ o, opened s o i → body o = stage i.eng.val op o) :
    stages s i (.next (issue (issueOfA i) u body s)) op := by
  obtain ⟨o, ho, h⟩ := issueA_does (u := u) ht hb
  rw [h]
  exact opened_stage ho (takes_running ht) op

theorem issueA_writesReg {g : Reg} {v : Word} (hb : ∀ o, opened s o i → body o = setReg i.eng.val g.val v o) :
    writesReg s (issueOfA i) (.next (issue (issueOfA i) u body s)) g v := by
  obtain ⟨o, ho, h⟩ := issueA_does (u := u) ht hb
  exact ⟨_, h, (ran_setReg ho.1 (takes_running ht)).1⟩

end Issued

end Sys2Proof.Machine
end

section
/-! PROOFS. O8 and O9: effects on the outside are staged, or the access is counted. -/

namespace Sys2Proof.Machine

section Staging
variable {i : IssA} {gD gA gB : Reg} {off : Fin 256} {field ohw : Fin 64} {w2 : Fin 2} {fn : BitVec 16} {d0 d1 : Bool}
  {ladder : Fin 8} {s : State} (ht : takesEffect s (issueOfA i) = true)
include ht

/-! ### Effects on a context (R312) -/

theorem ohPut_stages {id : Nat} (h : namedContext s i gA off.val = some id) :
    stages s i (exec (.ohPut i gD gA off field ohw) s) (.ohPut id field.val ohw.val (source s (issueOfA i) gD)) :=
  issueA_stages ht fun _ ho => by rw [opened_onContext_some ho h, opened_operand ho]

theorem ohPut_absent (h : namedContext s i gA off.val = none) :
    ∃ o, opened s o i ∧ exec (.ohPut i gD gA off field ohw) s = .next (engErr i.eng.val 1 o) :=
  issueA_does ht fun _ ho => opened_onContext_none ho h _

theorem defSet_stages {id : Nat} (h : namedContext s i gA off.val = some id) :
    stages s i (exec (.defSet i gA off field) s) (.defSet id field.val) :=
  issueA_stages ht fun _ ho => opened_onContext_some ho h _

theorem defSet_absent (h : namedContext s i gA off.val = none) :
    ∃ o, opened s o i ∧ exec (.defSet i gA off field) s = .next (engErr i.eng.val 1 o) :=
  issueA_does ht fun _ ho => opened_onContext_none ho h _

theorem defClr_stages {id : Nat} (h : namedContext s i gA off.val = some id) :
    stages s i (exec (.defClr i gA off field) s) (.defClr id field.val) :=
  issueA_stages ht fun _ ho => opened_onContext_some ho h _

theorem defClr_absent (h : namedContext s i gA off.val = none) :
    ∃ o, opened s o i ∧ exec (.defClr i gA off field) s = .next (engErr i.eng.val 1 o) :=
  issueA_does ht fun _ ho => opened_onContext_none ho h _

/-! ### Filter cells and decks (R50, Table 9-6) -/

theorem filtSet_stages (hg : granted s i.eng.val true clsOh = true)
    (hc : cellOpen s i.eng.val (filtCell i.eng.val (source s (issueOfA i) gA)) = true) :
    stages s i (exec (.filtSet i gA gB w2) s)
      (.filtSet (filtCell i.eng.val (source s (issueOfA i) gA)) w2.val (source s (issueOfA i) gB)) :=
  issueA_stages ht fun _ ho => by
    simp only [opened_operand ho, opened_granted ho, opened_cellOpen ho (filtCell_lt i.eng.isLt _), hg, hc, Bool.and_self,
      if_true]

theorem filtSet_ungranted (hg : granted s i.eng.val true clsOh = false) :
    let k := filtCell i.eng.val (source s (issueOfA i) gA)
    ∃ o, opened s o i ∧
      exec (.filtSet i gA gB w2) s = .next (outsideGrant i.eng.val (cellAddr (k / 2048) (k % 2048) w2.val) o) :=
  issueA_does ht fun _ ho => by
    simp only [opened_operand ho, opened_granted ho, hg, Bool.false_and, Bool.false_eq_true, if_false]

theorem deckW_stages (h : deckGranted s i.eng.val true ((source s (issueOfA i) gA).toNat % 2 ^ 18) = true) :
    stages s i (exec (.deckW i gA gB) s)
      (.deckW ((source s (issueOfA i) gA).toNat % 2 ^ 18) (source s (issueOfA i) gB)) :=
  issueA_stages ht fun _ ho => by
    simp only [opened_operand ho, fld_low, opened_deckGranted ho, h, if_true]

theorem deckW_ungranted (h : deckGranted s i.eng.val true ((source s (issueOfA i) gA).toNat % 2 ^ 18) = false) :
    ∃ o, opened s o i ∧ exec (.deckW i gA gB) s =
      .next (outsideGrant i.eng.val ((source s (issueOfA i) gA).toNat % 2 ^ 18) o) :=
  issueA_does ht fun _ ho => by
    simp only [opened_operand ho, fld_low, opened_deckGranted ho, h, Bool.false_eq_true, if_false]

theorem deckSwap_stages (hg : granted s i.eng.val true clsDeck = true)
    (hown : i.eng.val = 64 ∨ inBatch s i.eng.val = true ∨ (if dieOf i.eng.val = 0 then d1 else d0) = false) :
    stages s i (exec (.deckSwap i d0 d1) s) (.deckSwap (b2n d0 + 2 * b2n d1)) :=
  issueA_stages ht fun _ ho => by
    refine if_pos ?_
    simp only [opened_granted ho, opened_inBatch ho, hg, Bool.true_and, Bool.or_eq_true, beq_iff_eq, Bool.not_eq_true',
      or_assoc]
    exact hown

/-! ### POWER and CFG.W -/

theorem power_stages (he : i.eng.val = 64) :
    stages s i (exec (.power i gA ladder) s) (.power ((source s (issueOfA i) gA).toNat % 64) ladder.val) := by
  rw [exec_power, execPower, if_pos he]
  refine issueA_stages ht fun o ho => ?_
  have hop : operand o 64 gA.val = source s (issueOfA i) gA := he ▸ opened_operand ho gA
  simp only [hop, fld_low, Nat.reduceAdd, Nat.reducePow, he]

theorem cfgW_stages (h : access s i.eng.val true (((source s (issueOfA i) gA).toNat + fn.toNat) % 2 ^ 24) = .ok) :
    stages s i (exec (.cfgW i gA gB fn) s)
      (.cfgW (((source s (issueOfA i) gA).toNat + fn.toNat) % 2 ^ 24) (source s (issueOfA i) gB)) :=
  issueA_stages ht fun _ ho => by
    simp only [opened_ctlTarget ho, opened_access ho, opened_operand ho, h]

theorem cfgW_violates {k : Nat}
    (h : access s i.eng.val true (((source s (issueOfA i) gA).toNat + fn.toNat) % 2 ^ 24) = .violates k) :
    ∃ o, opened s o i ∧ exec (.cfgW i gA gB fn) s =
      .next (accessViolation k i.eng.val (((source s (issueOfA i) gA).toNat + fn.toNat) % 2 ^ 24) o) :=
  issueA_does ht fun _ ho => by
    simp only [opened_ctlTarget ho, opened_access ho, h]

/-! ### PROT.REQ (Table 8-8) -/

theorem protReq_stages (op : Nat) (hg : granted s i.eng.val true clsPair = true)
    (hs : inBatch s i.eng.val = true ∨ pairScope s i.eng.val ((source s (issueOfA i) gA).toNat % 2048) = true) :
    stages s i (protReq op (.issue i gA) s) (.protReq op ((source s (issueOfA i) gA).toNat % 2048)) :=
  issueA_stages ht fun _ ho => by
    simp only [opened_operand ho, fld_low, Nat.reduceAdd, Nat.reducePow, opened_granted ho, opened_inBatch ho,
      opened_pairScope ho, hg, Bool.true_and, Bool.or_eq_true, hs, if_true]

theorem protReq_ungranted (op : Nat) (hg : granted s i.eng.val true clsPair = false) :
    ∃ o, opened s o i ∧ protReq op (.issue i gA) s =
      .next (outsideGrant i.eng.val (pairAddr ((source s (issueOfA i) gA).toNat % 2048) 0) o) :=
  issueA_does ht fun _ ho => by
    simp only [opened_operand ho, fld_low, Nat.reduceAdd, Nat.reducePow, opened_granted ho, hg, Bool.false_and,
      Bool.false_eq_true, if_false]

end Staging

/-- Settles O8: each staging instruction by its effect, and by what it counts instead. -/
theorem effectsAreStaged : Obligations.EffectsAreStaged := by
  unfold Obligations.EffectsAreStaged
  intro i gD gA gB off field ohw w2 fn d0 d1 ladder s ht I e a
  exact ⟨fun id h => ⟨ohPut_stages ht h, defSet_stages ht h, defClr_stages ht h⟩,
    fun h => ⟨ohPut_absent ht h, defSet_absent ht h, defClr_absent ht h⟩,
    filtSet_stages ht, filtSet_ungranted ht, deckW_stages ht, deckW_ungranted ht, deckSwap_stages ht, power_stages ht,
    cfgW_stages ht, fun k => cfgW_violates ht⟩

/-- Settles O9: the nine operations are one instruction with its number. -/
theorem protectionRequestsAreStaged : Obligations.ProtectionRequestsAreStaged := by
  unfold Obligations.ProtectionRequestsAreStaged
  intro i gA s ht p
  refine ⟨fun hg hs => ?_, protReq_ungranted ht 2⟩
  have stages_op (op : Nat) : stages s i (protReq op (.issue i gA) s) (.protReq op p) := protReq_stages ht op hg hs
  exact ⟨stages_op 0, stages_op 1, stages_op 2, stages_op 3, stages_op 4, stages_op 5, stages_op 8, stages_op 9,
    stages_op 10⟩

end Sys2Proof.Machine
end

section
/-! PROOFS. O13: reads write one register, PC.SEL selects at once, SNAP causes a capture. -/

namespace Sys2Proof.Machine

/-- A word without its top bit. -/
theorem putFld_top (v : Word) : putFld v 35 35 0 = v &&& 0x7FFFFFFFF := by
  have hv := v.isLt
  apply BitVec.eq_of_toNat_eq
  have hmask : (v &&& 0x7FFFFFFFF).toNat = v.toNat % 2 ^ 35 := by
    rw [BitVec.toNat_and]
    exact Nat.and_two_pow_sub_one_eq_mod v.toNat 35
  rw [hmask]
  simp only [putFld, fld_eq, BitVec.toNat_ofNat]
  omega

section Reading
variable {i : IssA} {gD gA : Reg} {k : Fin 8} {n : Fin 10} {w4 : Fin 4} {shadow standby : Bool} {fn : BitVec 16} {s : State}
  (ht : takesEffect s (issueOfA i) = true)
include ht

/-! ### Counters (R366, R373, R374) -/

theorem snap_captures : ∃ t, exec (.snap i) s = .next t ∧ (selfProfile s i.eng.val = true →
    ranOn { s with captures := s.captures + 1 } t i.eng.val (engGet s i.eng.val)) := by
  obtain ⟨o, ho, -, -, hi⟩ := issueA_opens ht {}
  refine ⟨_, congrArg Host.Outcome.next (hi _), fun hp => ?_⟩
  have hcap : o.captures = s.captures :=
    opened_blind (π := State.captures) ho (fun _ _ => rfl) (fun _ _ => rfl) fun _ _ => rfl
  rw [opened_selfProfile ho, hp, if_pos rfl, hcap]
  obtain ⟨hran, -, -⟩ := ho
  exact hran.putCaptures _

theorem pcSel_selects (hp : selfProfile s i.eng.val = true) : ∃ o, opened s o i ∧ exec (.pcSel i gA k) s =
    .next (cwSet (pcAddr i.eng.val (16 + k.val))
      (if k.val = 7 then source s (issueOfA i) gA &&& 0x7FFFFFFFF else source s (issueOfA i) gA) o) :=
  issueA_does ht fun _ ho => by
    simp only [opened_selfProfile ho, hp, if_true, opened_operand ho, putFld_top]

theorem pcRd_shadow (hp : selfProfile s i.eng.val = true) :
    writesReg s (issueOfA i) (exec (.pcRd i gD true n) s) gD (cwGet s (pcAddr i.eng.val (32 + n.val))) :=
  issueA_writesReg ht fun _ ho => by
    simp only [opened_selfProfile ho, hp, if_true, opened_cwGet_pc ho (k := 32 + n.val) (by omega) (by omega)]

theorem pcRd_live (hp : selfProfile s i.eng.val = true) : ∃ o, opened s o i ∧
    exec (.pcRd i gD false n) s = .next (setReg i.eng.val gD.val (counterLive o i.eng.val n.val) o) :=
  issueA_does ht fun _ ho => by
    simp only [opened_selfProfile ho, hp, if_true, Bool.false_eq_true, if_false]

theorem pcRd_ungranted (hp : selfProfile s i.eng.val = false) : ∃ o, opened s o i ∧ exec (.pcRd i gD shadow n) s =
    .next (setReg i.eng.val gD.val 0 (outsideGrant i.eng.val (pcAddr i.eng.val n.val) o)) :=
  issueA_does ht fun _ ho => by
    simp only [opened_selfProfile ho, hp, Bool.false_eq_true, if_false]

/-! ### Filter cells, pairs and decks (Table 9-6) -/

theorem filtGet_writes (hg : granted s i.eng.val false clsOh = true)
    (hc : cellOpen s i.eng.val (filtCell i.eng.val (source s (issueOfA i) gA)) = true) :
    writesReg s (issueOfA i) (exec (.filtGet i gD gA w4) s) gD
      (cellWord s (filtCell i.eng.val (source s (issueOfA i) gA)) w4.val) :=
  issueA_writesReg ht fun _ ho => by
    have hk := filtCell_lt i.eng.isLt (source s (issueOfA i) gA)
    simp only [opened_operand ho, opened_granted ho, opened_cellOpen ho hk, opened_cellWord ho hk w4.isLt, hg, hc,
      Bool.and_self, if_true]

theorem protSt_writes (hg : granted s i.eng.val false clsPair = true)
    (hs : inBatch s i.eng.val = true ∨ pairScope s i.eng.val ((source s (issueOfA i) gA).toNat % 2048) = true) :
    writesReg s (issueOfA i) (exec (.protSt i gD gA) s) gD
      (latched s (pairAddr ((source s (issueOfA i) gA).toNat % 2048) 3)) :=
  issueA_writesReg ht fun _ ho => by
    simp only [opened_operand ho, fld_low, Nat.reduceAdd, Nat.reducePow, opened_granted ho, opened_inBatch ho,
      opened_pairScope ho, opened_latched ho, hg, Bool.true_and, Bool.or_eq_true, hs, if_true]

theorem deckRd_writes (hg : deckGranted s i.eng.val false ((source s (issueOfA i) gA).toNat % 2 ^ 18) = true)
    (hr : deckReserved ((source s (issueOfA i) gA).toNat % 2 ^ 18) = false)
    (hn : deckRange ((source s (issueOfA i) gA).toNat % 2 ^ 18) = false) :
    writesReg s (issueOfA i) (exec (.deckRd i gD gA standby) s) gD
      (deckRead s standby ((source s (issueOfA i) gA).toNat % 2 ^ 18)) :=
  issueA_writesReg ht fun _ ho => by
    simp only [opened_operand ho, fld_low, opened_deckGranted ho, opened_deckRead ho, hg, hr, hn, Bool.not_true,
      Bool.false_eq_true, if_false]

theorem deckRd_ungranted (hg : deckGranted s i.eng.val false ((source s (issueOfA i) gA).toNat % 2 ^ 18) = false) :
    ∃ o, opened s o i ∧ exec (.deckRd i gD gA standby) s =
      .next (setReg i.eng.val gD.val 0 (outsideGrant i.eng.val ((source s (issueOfA i) gA).toNat % 2 ^ 18) o)) :=
  issueA_does ht fun _ ho => by
    simp only [opened_operand ho, fld_low, opened_deckGranted ho, hg, Bool.not_false, if_true]

/-! ### CFG.R (R41, R490) -/

theorem cfgR_reads (h : access s i.eng.val false (((source s (issueOfA i) gA).toNat + fn.toNat) % 2 ^ 24) = .ok) :
    let a := ((source s (issueOfA i) gA).toNat + fn.toNat) % 2 ^ 24
    ∃ o, opened s o i ∧ exec (.cfgR i gD gA fn) s = .next (setReg i.eng.val gD.val
      (if inBatch s i.eng.val = true ∧ (sessGet s (batchRing s)).own = false then guestWord o a else readWord o a) o) :=
  issueA_does ht fun _ ho => by
    simp only [opened_ctlTarget ho, opened_access ho, h, opened_inBatch ho, opened_own ho, Bool.and_eq_true,
      Bool.not_eq_true']

theorem cfgR_violates {c : Nat}
    (h : access s i.eng.val false (((source s (issueOfA i) gA).toNat + fn.toNat) % 2 ^ 24) = .violates c) :
    let a := ((source s (issueOfA i) gA).toNat + fn.toNat) % 2 ^ 24
    ∃ o, opened s o i ∧ exec (.cfgR i gD gA fn) s =
      .next (setReg i.eng.val gD.val 0 (accessViolation c i.eng.val a o)) :=
  issueA_does ht fun _ ho => by
    simp only [opened_ctlTarget ho, opened_access ho, h]

end Reading

/-- Settles O13: each instruction by what it writes with the grant, and by the access it counts without it. -/
theorem readsWriteOneRegister : Obligations.ReadsWriteOneRegister := by
  unfold Obligations.ReadsWriteOneRegister
  intro i gD gA k n w4 shadow standby fn s ht I e a
  exact ⟨snap_captures ht, fun hp => ⟨pcSel_selects ht hp, pcRd_shadow ht hp, pcRd_live ht hp⟩, pcRd_ungranted ht,
    filtGet_writes ht, protSt_writes ht, deckRd_writes ht, deckRd_ungranted ht, cfgR_reads ht, fun c => cfgR_violates ht⟩

end Sys2Proof.Machine
end

section
/-! PROOFS. Bits and fields of a word: what a replaced or masked field leaves. -/

namespace Sys2Proof.Machine

theorem testBit_fld (w : Word) (hi lo j : Nat) :
    (fld w hi lo).testBit j = (decide (j < hi + 1 - lo) && w.getLsbD (lo + j)) := by
  rw [fld, bitsOf, Nat.testBit_mod_two_pow, Nat.testBit_shiftRight, BitVec.getLsbD]

@[simp] theorem bit_eq_getLsbD (w : Word) (i : Nat) : bit w i = w.getLsbD i := by
  have h := testBit_fld w i i 0
  have hlt : fld w i i < 2 := by
    have := Nat.mod_lt (w.toNat >>> i) (y := 2 ^ (i + 1 - i)) (by positivity)
    simpa [fld, bitsOf] using this
  rw [Nat.testBit_zero] at h
  simp only [Nat.add_sub_cancel_left, Nat.lt_one_iff, decide_true, Bool.true_and, Nat.add_zero] at h
  rw [← h, bit]
  interval_cases fld w i i <;> rfl

theorem fld_congr {v w : Word} {hi lo : Nat} (h : ∀ i, lo ≤ i → i ≤ hi → v.getLsbD i = w.getLsbD i) :
    fld v hi lo = fld w hi lo := by
  refine Nat.eq_of_testBit_eq fun j => ?_
  rw [testBit_fld, testBit_fld]
  by_cases hj : j < hi + 1 - lo
  · rw [h (lo + j) (by omega) (by omega)]
  · simp [hj]

/-- A field that a mask lets through. -/
theorem fld_and {v m : Word} {hi lo : Nat} (h : ∀ i < hi + 1, lo ≤ i → m.getLsbD i = true) :
    fld (v &&& m) hi lo = fld v hi lo :=
  fld_congr fun i h1 h2 => by rw [BitVec.getLsbD_and, h i (by omega) h1, Bool.and_true]

theorem getLsbD_and_of_set {v m : Word} {i : Nat} (h : m.getLsbD i = true) : (v &&& m).getLsbD i = v.getLsbD i := by
  rw [BitVec.getLsbD_and, h, Bool.and_true]

theorem toNat_split (w : Word) {hi lo : Nat} (h : lo ≤ hi) :
    w.toNat = 2 ^ lo * (2 ^ (hi + 1 - lo) * (w.toNat / 2 ^ (hi + 1)) + fld w hi lo) + w.toNat % 2 ^ lo := by
  have h1 := Nat.div_add_mod w.toNat (2 ^ lo)
  have h2 := Nat.div_add_mod (w.toNat / 2 ^ lo) (2 ^ (hi + 1 - lo))
  rw [Nat.div_div_eq_div_mul, ← Nat.pow_add, Nat.add_sub_cancel' (by omega)] at h2
  rw [fld_eq, h2, h1]

theorem getLsbD_putFld {w : Word} {hi lo v i : Nat} (h : lo ≤ hi) (hw : hi < 36) :
    (putFld w hi lo v).getLsbD i = if lo ≤ i ∧ i ≤ hi then v.testBit (i - lo) else w.getLsbD i := by
  have hs := toNat_split w h
  have hlow : w.toNat % 2 ^ lo < 2 ^ lo := Nat.mod_lt _ (by positivity)
  have hF : fld w hi lo < 2 ^ (hi + 1 - lo) := by rw [fld_eq]; exact Nat.mod_lt _ (by positivity)
  have hV : v % 2 ^ (hi + 1 - lo) < 2 ^ (hi + 1 - lo) := Nat.mod_lt _ (by positivity)
  have hn : w.toNat - fld w hi lo * 2 ^ lo + v % 2 ^ (hi + 1 - lo) * 2 ^ lo =
      2 ^ lo * (2 ^ (hi + 1 - lo) * (w.toNat / 2 ^ (hi + 1)) + v % 2 ^ (hi + 1 - lo)) + w.toNat % 2 ^ lo := by
    rw [Nat.mul_add] at hs ⊢
    rw [Nat.mul_comm (fld w hi lo), Nat.mul_comm (v % _)]
    omega
  have hread : w.getLsbD i = w.toNat.testBit i := rfl
  rw [putFld, BitVec.getLsbD_ofNat, hn, Nat.testBit_two_pow_mul_add _ hlow, Nat.testBit_two_pow_mul_add _ hV,
    Nat.testBit_mod_two_pow, hread]
  conv_rhs => rw [hs, Nat.testBit_two_pow_mul_add _ hlow, Nat.testBit_two_pow_mul_add _ hF]
  by_cases h36 : i < 36
  · by_cases h1 : i < lo
    · simp [h36, h1]
    · by_cases h2 : i ≤ hi
      · have : i - lo < hi + 1 - lo := by omega
        simp [h36, h1, h2, this]
      · have : ¬ i - lo < hi + 1 - lo := by omega
        simp [h36, h1, h2, this]
  · have hout : w.getLsbD i = false := BitVec.getLsbD_of_ge _ _ (by omega)
    rw [hread, hs, Nat.testBit_two_pow_mul_add _ hlow, Nat.testBit_two_pow_mul_add _ hF] at hout
    rw [hout]
    simp [h36]
    omega

theorem fld_putFld {w : Word} {hi lo v : Nat} (h : lo ≤ hi) (hw : hi < 36) (hv : v < 2 ^ (hi + 1 - lo)) :
    fld (putFld w hi lo v) hi lo = v := by
  refine Nat.eq_of_testBit_eq fun j => ?_
  rw [testBit_fld, getLsbD_putFld h hw]
  by_cases hj : j < hi + 1 - lo
  · simp [hj, show lo + j ≤ hi by omega]
  · have : v.testBit j = false := Nat.testBit_lt_two_pow (hv.trans_le (Nat.pow_le_pow_right (by decide) (by omega)))
    simp [hj, this]

/-- A field beside the one replaced. -/
theorem fld_putFld_of_disjoint {w : Word} {hi lo v hi' lo' : Nat} (h : lo ≤ hi) (hw : hi < 36) (hd : hi' < lo ∨ hi < lo') :
    fld (putFld w hi lo v) hi' lo' = fld w hi' lo' :=
  fld_congr fun i h1 h2 => by rw [getLsbD_putFld h hw, if_neg (by omega)]

theorem getLsbD_putFld_bit {w : Word} {i v : Nat} (hw : i < 36) : (putFld w i i v).getLsbD i = v.testBit 0 := by
  rw [getLsbD_putFld (Nat.le_refl i) hw, if_pos (by omega), Nat.sub_self]

theorem getLsbD_putFld_of_disjoint {w : Word} {hi lo v i : Nat} (h : lo ≤ hi) (hw : hi < 36) (hd : i < lo ∨ hi < i) :
    (putFld w hi lo v).getLsbD i = w.getLsbD i := by
  rw [getLsbD_putFld h hw, if_neg (by omega)]

theorem testBit_b2n (b : Bool) : (b2n b).testBit 0 = b := by cases b <;> rfl

end Sys2Proof.Machine
end

section
/-! PROOFS. Lanes, streams, monitors and buffers: what a key reads after a put, and what else stays. -/

namespace Sys2Proof.Machine

/-! ### Canonical tables -/

section Canonical
variable {s : State} (h : Safety.tablesOk s = true)
include h

theorem tablesOk_lanes : tabWf (fun _ => ({} : Lane)) s.lanes = true := by
  simp only [Safety.tablesOk, Safety.lineTables, Bool.and_eq_true] at h; tauto
theorem tablesOk_quads : tabWf (fun _ => ({} : Quad)) s.quads = true := by
  simp only [Safety.tablesOk, Safety.lineTables, Bool.and_eq_true] at h; tauto
theorem tablesOk_flex : tabWf (fun _ => (.free : FlexHolder)) s.flex = true := by
  simp only [Safety.tablesOk, Safety.lineTables, Bool.and_eq_true] at h; tauto
theorem tablesOk_refClk : tabWf (fun _ => ({} : RefClk)) s.refClk = true := by
  simp only [Safety.tablesOk, Safety.lineTables, Bool.and_eq_true] at h; tauto
theorem tablesOk_framers : tabWf (fun _ => ({} : Framer)) s.framers = true := by
  simp only [Safety.tablesOk, Safety.lineTables, Bool.and_eq_true] at h; tauto
theorem tablesOk_ports : tabWf (fun _ => ({} : Port)) s.ports = true := by
  simp only [Safety.tablesOk, Safety.lineTables, Bool.and_eq_true] at h; tauto
theorem tablesOk_oh : tabWf (fun _ => (0 : Word)) s.oh = true := by
  simp only [Safety.tablesOk, Safety.coreTables, Bool.and_eq_true] at h; tauto

end Canonical

/-! ### What is kept, one change after another -/

theorem keeps.trans {α : Type} {get : State → Nat → α} {s t u : State} {ks : List Nat} (h : keeps get s t ks)
    (h' : keeps get t u ks) : keeps get s u ks := fun k hk => (h' k hk).trans (h k hk)

theorem keeps_of_eq {α : Type} {get : State → Nat → α} {s t : State} {ks : List Nat} (h : ∀ k, get t k = get s k) :
    keeps get s t ks := fun k _ => h k

theorem cwKept.trans {s t u : State} {as : List Nat} (h : cwKept s t as) (h' : cwKept t u as) : cwKept s u as :=
  fun a ha => (h' a ha).trans (h a ha)

theorem cwKept_cwSet {a : Nat} {v : Word} {s : State} : cwKept s (cwSet a v s) [a] :=
  fun _ hb => cwGet_cwSet_ne (by simpa using hb)

theorem cwSet_ok {a : Nat} {v : Word} {s : State} (h : tabWf cwReset s.cw = true) : tabWf cwReset (cwSet a v s).cw = true :=
  tabSet_ok h

/-- Two changes of one part of the state are one change of it. -/
theorem only_trans {α : Type} {put : State → α → State} {get : State → α} {s t u : State}
    (hput : ∀ s a b, put (put s a) b = put s b) (h : t = put s (get t)) (h' : u = put t (get u)) : u = put s (get u) := by
  rw [h, hput] at h'
  exact h'

/-! ### Lanes -/

/-- The lanes of a state are in canonical form. -/
abbrev LanesOk (s : State) : Prop := tabWf (fun _ => ({} : Lane)) s.lanes = true

theorem lanePut_ok {k : Nat} {v : Lane} {s : State} (h : LanesOk s) : LanesOk (lanePut k v s) := tabSet_ok' h

theorem laneGet_lanePut {k : Nat} {v : Lane} {s : State} (h : LanesOk s) : laneGet (lanePut k v s) k = v :=
  tabGet_tabSet_same (d := fun _ => ({} : Lane)) h

theorem laneGet_lanePut_ne {j k : Nat} {v : Lane} {s : State} (h : j ≠ k) : laneGet (lanePut k v s) j = laneGet s j :=
  tabGet_tabSet_ne h

theorem keeps_lanePut {k : Nat} {v : Lane} {s : State} : keeps laneGet s (lanePut k v s) [k] :=
  fun _ hj => laneGet_lanePut_ne (by simpa using hj)

/-- A lane changed alone. -/
theorem lanePut_spec {k : Nat} {v : Lane} {s : State} (h : LanesOk s) :
    laneGet (lanePut k v s) k = v ∧ keeps laneGet s (lanePut k v s) [k] ∧
      lanePut k v s = { s with lanes := (lanePut k v s).lanes } :=
  ⟨laneGet_lanePut h, keeps_lanePut, rfl⟩

theorem sideNum_le (x : Side) : sideNum x ≤ 1 := by cases x <;> decide

theorem laneAddr_ne {sd lane w w' : Nat} (h : w ≠ w') : laneAddr sd lane w ≠ laneAddr sd lane w' := by
  unfold laneAddr ctlAddr; omega

theorem laneAddr_div {sd lane w : Nat} (hs : sd ≤ 1) (hl : lane < 64) (hw : w < 0x800) :
    laneAddr sd lane w / 2 ^ 18 = clsLane := ctlAddr_div hl (by omega)

/-- A control word of one class is none of another. -/
theorem ne_of_class {a b : Nat} (h : a / 2 ^ 18 ≠ b / 2 ^ 18) : a ≠ b := fun e => h (by rw [e])

theorem laneGet_congr {s t : State} (h : t.lanes = s.lanes) (k : Nat) : laneGet t k = laneGet s k := by
  unfold laneGet; rw [h]

@[simp] theorem cwGet_lanePut (k : Nat) (v : Lane) (s : State) (a : Nat) : cwGet (lanePut k v s) a = cwGet s a :=
  cwGet_congr (t := lanePut k v s) rfl a

@[simp] theorem laneGet_cwSet (a : Nat) (w : Word) (s : State) (k : Nat) : laneGet (cwSet a w s) k = laneGet s k :=
  laneGet_congr (t := cwSet a w s) rfl k

/-! ### Work on one lane and its control words -/

/-- From s to t one lane becomes v and control words of a list may change, and nothing else does. -/
structure LaneWork (k : Nat) (as : List Nat) (s t : State) (v : Lane) : Prop where
  lane : laneGet t k = v
  lanes : keeps laneGet s t [k]
  words : cwKept s t as
  rest : t = { s with cw := t.cw, lanes := t.lanes }
  lanesOk : LanesOk t
  cwOk : tabWf cwReset t.cw = true

theorem LaneWork.refl {k : Nat} {as : List Nat} {s : State} (hs : Safety.tablesOk s = true) :
    LaneWork k as s s (laneGet s k) :=
  ⟨rfl, fun _ _ => rfl, fun _ _ => rfl, rfl, tablesOk_lanes hs, tablesOk_cw hs⟩

section Step
variable {k : Nat} {as : List Nat} {s t : State} {v : Lane} (h : LaneWork k as s t v)
include h

theorem LaneWork.rest_of {t' : State} (h' : t' = { t with cw := t'.cw, lanes := t'.lanes }) :
    t' = { s with cw := t'.cw, lanes := t'.lanes } :=
  only_trans (put := fun s (p : Tab Word × Tab Lane) => (s.putCw p.1).putLanes p.2) (get := fun s => (s.cw, s.lanes))
    (fun _ _ _ => rfl) h.rest h'

/-- Where no control word changes, the lanes alone do. -/
theorem LaneWork.rest_lanes (hcw : t.cw = s.cw) : t = { s with lanes := t.lanes } := by
  have hrest := h.rest
  rw [hcw] at hrest
  exact hrest

theorem LaneWork.lanePut (v' : Lane) : LaneWork k as s (lanePut k v' t) v' where
  lane := laneGet_lanePut h.lanesOk
  lanes := h.lanes.trans keeps_lanePut
  words := fun a ha => (cwGet_lanePut _ _ _ _).trans (h.words a ha)
  rest := h.rest_of rfl
  lanesOk := lanePut_ok h.lanesOk
  cwOk := h.cwOk

theorem LaneWork.cwSet {a : Nat} (w : Word) (ha : a ∈ as) : LaneWork k as s (cwSet a w t) v where
  lane := (laneGet_cwSet _ _ _ _).trans h.lane
  lanes := fun j hj => (laneGet_cwSet _ _ _ _).trans (h.lanes j hj)
  words := fun b hb => (cwGet_cwSet_ne fun e => hb (by rw [e]; exact ha)).trans (h.words b hb)
  rest := h.rest_of rfl
  lanesOk := h.lanesOk
  cwOk := cwSet_ok h.cwOk

end Step

/-! ### Equaliser words of a lane -/

/-- From s to t the equaliser words of one lane become e, and nothing else changes. -/
def eqMoved (k : Nat) (s t : State) (e : Tab Word) : Prop :=
  laneGet t k = { laneGet s k with eq := e } ∧ keeps laneGet s t [k] ∧ t = { s with lanes := t.lanes } ∧ LanesOk t

theorem eqMoved_refl {k : Nat} {s : State} (h : LanesOk s) : eqMoved k s s (laneGet s k).eq :=
  ⟨rfl, fun _ _ => rfl, rfl, h⟩

theorem eqMoved.cw {k : Nat} {s t : State} {e : Tab Word} (h : eqMoved k s t e) : t.cw = s.cw := by
  obtain ⟨-, -, h, -⟩ := h
  rw [h]

theorem eqMoved.eqPut {side lane off : Nat} {v : Word} {s t : State} {e : Tab Word}
    (h : eqMoved (laneKey side lane) s t e) :
    eqMoved (laneKey side lane) s (eqPut side lane off v t) (tabSet 0 e off v) := by
  obtain ⟨hl, hk, ht, hok⟩ := h
  refine ⟨?_, hk.trans keeps_lanePut, ?_, lanePut_ok hok⟩
  · rw [Machine.eqPut, laneGet_lanePut hok, hl]
  · conv_lhs => rw [Machine.eqPut, ht]
    rfl

theorem eqMoved.foldl {k : Nat} {s : State} {f : State → Nat → State} {g : Tab Word → Nat → Tab Word}
    (hf : ∀ t e off, eqMoved k s t e → eqMoved k s (f t off) (g e off)) (l : List Nat) :
    ∀ {t e}, eqMoved k s t e → eqMoved k s (l.foldl f t) (l.foldl g e) := by
  induction l with
  | nil => exact fun h => h
  | cons off l ih => exact fun h => ih (hf _ _ off h)

theorem LaneWork.eqMoved {k : Nat} {as : List Nat} {s t t' : State} {v : Lane} {e : Tab Word} (h : LaneWork k as s t v)
    (h' : eqMoved k t t' e) : LaneWork k as s t' { v with eq := e } := by
  have hcw := h'.cw
  obtain ⟨hlane, hkeeps, hrest, hok⟩ := h'
  refine ⟨by rw [hlane, h.lane], h.lanes.trans hkeeps, fun a ha => (cwGet_congr hcw a).trans (h.words a ha),
    h.rest_of ?_, hok, by rw [hcw]; exact h.cwOk⟩
  rw [hcw]
  exact hrest

/-! ### Effects that are checked -/

/-- An effect refused by its check. -/
theorem settle_error {o : Origin} {k : RefKind} {a st : Nat} {s : State} : settle o k a s (.error st) = refuse o st k a s :=
  rfl

end Sys2Proof.Machine
end

section
/-! PROOFS. O18: the equaliser modes, the TX FFE taps and the loopbacks of a lane. -/

namespace Sys2Proof.Machine

/-! ### LANE_EQ_CTRL (R72 to R74) -/

/-- One set offset after LANE_EQ_CTRL: a loop entering PRESET takes its preset, one in BOUND is held, the rest stay. -/
def eqCtrlWord (s : State) (sd lane : Nat) (old new : Word) (e : Tab Word) (off : Nat) : Tab Word :=
  if loopMode new (loopOfOffset off) = 3 ∧ loopMode old (loopOfOffset off) ≠ 3 then
    tabSet 0 e off (eqPreset s sd lane off)
  else if loopMode new (loopOfOffset off) = 1 then
    tabSet 0 e off (boundWord off (tabGet 0 e off) (eqLo s sd lane off) (eqHi s sd lane off))
  else e

theorem applyEqCtrl_spec {sd lane : Nat} {v : Word} {s : State} (hs : Safety.tablesOk s = true) :
    let ctrl := laneAddr sd lane 0x10
    let k := laneKey sd lane
    ∃ t, applyEqCtrl sd lane v s = .ok t ∧
      eqMoved k (cwSet ctrl (v &&& 0xFFFF00000) s) t
        ((List.range 7).foldl (eqCtrlWord s sd lane (cwGet s ctrl) (v &&& 0xFFFF00000)) (laneGet s k).eq) := by
  intro ctrl k
  have hstart : eqMoved k (cwSet ctrl (v &&& 0xFFFF00000) s) (cwSet ctrl (v &&& 0xFFFF00000) s) (laneGet s k).eq :=
    eqMoved_refl (tablesOk_lanes (s := s) hs)
  refine ⟨_, rfl, eqMoved.foldl (fun t e off h => ?_) _ hstart⟩
  have hword (w : Nat) (hw : 0x10 < w) : cwGet t (laneAddr sd lane w) = cwGet s (laneAddr sd lane w) :=
    (cwGet_congr h.cw _).trans (cwGet_cwSet_ne (laneAddr_ne (by omega)))
  obtain rfl : (laneGet t k).eq = e := by rw [h.1]
  simp only [eqCtrlWord, eqPreset, eqLo, eqHi, hword _ (show 0x10 < 0x20 + off by omega),
    hword _ (show 0x10 < 0x28 + off by omega), hword _ (show 0x10 < 0x30 + off by omega), Bool.and_eq_true,
    decide_eq_true_eq]
  split
  · exact h.eqPut
  · split
    · exact h.eqPut
    · exact h

theorem laneEqCtrl_applies {l : LaneRef} {w : CtlWrite} {s : State} (hs : Safety.tablesOk s = true) :
    let sd := sideNum l.side
    let lane := l.lane.val
    let ctrl := laneAddr sd lane 0x10
    let k := laneKey sd lane
    applies w.origin .word ctrl s (exec (.laneEqCtrl l w) s) fun t =>
      cwGet t ctrl = (w.value &&& 0xFFFF00000) ∧ keeps laneGet s t [k] ∧ cwKept s t [ctrl] ∧
      (laneGet t k).eq = (List.range 7).foldl (eqCtrlWord s sd lane (cwGet s ctrl) (w.value &&& 0xFFFF00000)) (laneGet s k).eq ∧
      t = { s with cw := t.cw, lanes := t.lanes } := by
  intro sd lane ctrl k
  obtain ⟨t, ht, h⟩ := applyEqCtrl_spec (sd := sd) (lane := lane) (v := w.value) hs
  have hwork := ((LaneWork.refl (k := k) (as := [ctrl]) hs).cwSet _ (List.mem_singleton_self ctrl)).eqMoved h
  rw [exec_laneEqCtrl, execLaneEqCtrl, ht]
  exact applies_ok ⟨(cwGet_congr h.cw _).trans (cwGet_cwSet (tablesOk_cw hs)), hwork.lanes, hwork.words,
    congrArg Lane.eq hwork.lane, hwork.rest⟩

/-! ### LANE_TX_FFE (R78) -/

theorem laneTxFfe_of_training {l : LaneRef} {i : Fin 2} {w : CtlWrite} {s : State}
    (hc : (laneCfg s (sideNum l.side) l.lane.val).getLsbD 25 = true)
    (ht : (laneGet s (laneKey (sideNum l.side) l.lane.val)).train = 1 ∨
      (laneGet s (laneKey (sideNum l.side) l.lane.val)).train = 2) :
    exec (.laneTxFfe l i w) s =
      .next (refuse w.origin 0x24 .word (laneAddr (sideNum l.side) l.lane.val (0x40 + i.val)) s) := by
  rw [exec_laneTxFfe, execLaneTxFfe, applyTxFfe, if_pos (by simpa [hc] using ht)]
  rfl

theorem laneTxFfe_of_owner {l : LaneRef} {i : Fin 2} {w : CtlWrite} {s : State} (hs : Safety.tablesOk s = true)
    (hc : (laneCfg s (sideNum l.side) l.lane.val).getLsbD 25 = false ∨
      ((laneGet s (laneKey (sideNum l.side) l.lane.val)).train ≠ 1 ∧
        (laneGet s (laneKey (sideNum l.side) l.lane.val)).train ≠ 2)) :
    let k := laneKey (sideNum l.side) l.lane.val
    let tap := laneAddr (sideNum l.side) l.lane.val (0x40 + i.val)
    let tapValue := if i.val = 0 then w.value else w.value &&& 0x3FFFF
    applies w.origin .word tap s (exec (.laneTxFfe l i w) s) fun t => cwGet t tap = tapValue ∧
      laneGet t k = { laneGet s k with ffe := tabSet 0 (laneGet s k).ffe i.val tapValue } ∧
      keeps laneGet s t [k] ∧ cwKept s t [tap] ∧ t = { s with cw := t.cw, lanes := t.lanes } := by
  intro k tap tapValue
  rw [exec_laneTxFfe, execLaneTxFfe, applyTxFfe, if_neg (by
    simp only [bit_eq_getLsbD, Bool.and_eq_true, Bool.or_eq_true, decide_eq_true_eq, not_and, not_or]
    exact fun h => hc.resolve_left (by rw [h]; decide))]
  have hok : LanesOk (cwSet tap tapValue s) := tablesOk_lanes (s := s) hs
  exact applies_ok ⟨cwGet_cwSet (tablesOk_cw hs), laneGet_lanePut hok, keeps_lanePut, cwKept_cwSet, rfl⟩

/-! ### LANE_LPBK (R82, R83) -/

/-- The word of a loopback reads back as its two bits. -/
theorem lpbkWord_bits (near far : Bool) :
    let v := mkWord [(35, b2n near), (34, b2n far)]
    (bit v 35 || bit v 34) = (near || far) ∧ v &&& 0xC00000000 = v := by
  cases near <;> cases far <;> decide

theorem laneLpbk_of_refused {o : Origin} {l : LaneRef} {near far : Bool} {s : State} (h : (near || far) = true)
    (ht : testRefusal s (sideNum l.side) l.lane.val ≠ 0) :
    exec (.laneLpbk o l near far) s = .next (refuse o (testRefusal s (sideNum l.side) l.lane.val) .word
      (laneAddr (sideNum l.side) l.lane.val 0x58) s) := by
  rw [exec_laneLpbk, execLaneLpbk, applyLpbk, (lpbkWord_bits near far).1, if_pos (by simp [h, ht])]
  rfl

theorem laneLpbk_of_free {o : Origin} {l : LaneRef} {near far : Bool} {s : State} (hs : Safety.tablesOk s = true)
    (h : near = false ∧ far = false ∨ testRefusal s (sideNum l.side) l.lane.val = 0) :
    let lpbk := laneAddr (sideNum l.side) l.lane.val 0x58
    applies o .word lpbk s (exec (.laneLpbk o l near far) s) fun t =>
      cwGet t lpbk = mkWord [(35, b2n near), (34, b2n far)] ∧ cwKept s t [lpbk] ∧ t = { s with cw := t.cw } := by
  intro lpbk
  obtain ⟨hbits, hword⟩ := lpbkWord_bits near far
  rw [exec_laneLpbk, execLaneLpbk, applyLpbk, hbits, hword, if_neg (by
    rcases h with ⟨rfl, rfl⟩ | h
    · simp
    · simp [h])]
  exact applies_ok (cwSet_spec hs)

theorem testRefusal_of_stream {s : State} {sd lane : Nat} (h : streamsOfLane s sd lane ≠ []) :
    testRefusal s sd lane = 0x06 :=
  if_pos (by simpa using h)

theorem testRefusal_of_mode {s : State} {sd lane : Nat} (h : streamsOfLane s sd lane = []) (hp : s.mode ≠ .provision)
    (ha : s.mode ≠ .active) (ht : s.mode ≠ .test) : testRefusal s sd lane = 0x04 := by
  rw [testRefusal, if_neg (by simp [h]), if_pos (by simp [testMode, hp, ha, ht])]
  rfl

/-- Settles O18: each word by what it stores, and by what refuses it. -/
theorem laneWordsAreStored : Obligations.LaneWordsAreStored := by
  unfold Obligations.LaneWordsAreStored
  intro l i w o near far s hs sd lane k v ctrl tap lpbk tested tapValue
  exact ⟨laneEqCtrl_applies hs, laneTxFfe_of_training, laneTxFfe_of_owner hs, laneLpbk_of_refused, laneLpbk_of_free hs,
    testRefusal_of_stream, testRefusal_of_mode⟩

end Sys2Proof.Machine
end

section
/-! PROOFS. O17: calibration, training, fence hits and low margins of a lane. -/

namespace Sys2Proof.Machine

/-! ### VCO_CAL_DONE (R61) -/

theorem quadGet_quadPut {sd q : Nat} {v : Quad} {s : State} (h : tabWf (fun _ => ({} : Quad)) s.quads = true) :
    quadGet (quadPut sd q v s) sd q = v := tabGet_tabSet_same (d := fun _ => ({} : Quad)) h

theorem flexGet_flexPut {r k : Nat} {x : FlexHolder} {s : State} (h : tabWf (fun _ => (.free : FlexHolder)) s.flex = true) :
    flexGet (flexPut r k x s) r k = x := tabGet_tabSet_same (d := fun _ => (.free : FlexHolder)) h

theorem quadFlex_congr {s t : State} (h : t.flex = s.flex) (sd q : Nat) : quadFlex t sd q = quadFlex s sd q := by
  unfold quadFlex flexFind flexGet
  rw [h]

/-- Lanes moved off the flexible synthesiser. -/
def lanesOff (key : Nat → Nat) (l : List Nat) (s : State) : State :=
  l.foldl (fun s i => lanePut (key i) { laneGet s (key i) with onFlex := false } s) s

theorem lanesOff_spec (key : Nat → Nat) (l : List Nat) : ∀ {s : State}, LanesOk s →
    (∀ k, laneGet (lanesOff key l s) k =
      if k ∈ l.map key then { laneGet s k with onFlex := false } else laneGet s k) ∧
    lanesOff key l s = { s with lanes := (lanesOff key l s).lanes } := by
  induction l with
  | nil => exact fun _ => ⟨fun _ => by simp [lanesOff], rfl⟩
  | cons i l ih =>
    intro s h
    obtain ⟨hget, hrest⟩ := ih (lanePut_ok (k := key i) (v := { laneGet s (key i) with onFlex := false }) h)
    refine ⟨fun k => (hget k).trans ?_, hrest.trans rfl⟩
    by_cases hk : k = key i
    · subst hk
      rw [laneGet_lanePut h]
      simp
    · rw [laneGet_lanePut_ne hk]
      simp [hk]

/-- The synthesiser of a quad released, if it holds one. -/
def releaseBank (sd q : Nat) (s : State) : State :=
  match quadFlex s sd q with
  | some f => freeFlex (q / 4) f s
  | none => s

/-- A state without what VCO_CAL_DONE may change. -/
def hideBank (s : State) : State := { s with quads := [], lanes := [], flex := [], recClk := [], due := [] }

theorem releaseBank_hide (sd q : Nat) (s : State) : hideBank (releaseBank sd q s) = hideBank s := by
  unfold releaseBank
  split
  · exact freeFlex_frame (fun _ _ => rfl) (fun _ _ => rfl) (fun _ _ => rfl) _ _ s rfl
  · rfl

theorem releaseBank_tables (sd q : Nat) (s : State) :
    (releaseBank sd q s).lanes = s.lanes ∧ (releaseBank sd q s).quads = s.quads := by
  unfold releaseBank
  split
  · exact ⟨freeFlex_frame (π := State.lanes) (fun _ _ => rfl) (fun _ _ => rfl) (fun _ _ => rfl) _ _ s rfl,
      freeFlex_frame (π := State.quads) (fun _ _ => rfl) (fun _ _ => rfl) (fun _ _ => rfl) _ _ s rfl⟩
  · exact ⟨rfl, rfl⟩

theorem flexGet_freeFlex {r k : Nat} {s : State} (hs : tabWf (fun _ => (.free : FlexHolder)) s.flex = true)
    (h : ∀ n, n < 2 → (recGet s n).lost = true → recRegion s n ≠ r) : flexGet (freeFlex r k s) r k = .free := by
  have hnone : ([0, 1].find? fun n => (recGet (flexPut r k .free s) n).lost && recRegion (flexPut r k .free s) n == r)
      = none := by
    rw [List.find?_eq_none]
    intro n hn hb
    rw [Bool.and_eq_true, beq_iff_eq] at hb
    exact h n (by simp at hn; omega) hb.1 hb.2
  rw [freeFlex, hnone]
  exact flexGet_flexPut hs

theorem releaseBank_frees {sd q f : Nat} {s : State} (hs : tabWf (fun _ => (.free : FlexHolder)) s.flex = true)
    (hf : quadFlex s sd q = some f) (h : ∀ n, n < 2 → (recGet s n).lost = true → recRegion s n ≠ q / 4) :
    flexGet (releaseBank sd q s) (q / 4) f = .free := by
  simp only [releaseBank, hf]
  exact flexGet_freeFlex hs h

theorem vcoCalDone_spec {side : Side} {quad : Fin 16} {s : State} (hs : Safety.tablesOk s = true) :
    let q := quad.val
    let qs := sideNum side
    reaches (exec (.vcoCalDone side quad) s) fun t => quadGet t qs q = { quadGet s qs q with calibrating := false } ∧
      (∀ j, j < 4 → laneGet t (laneKey qs (4 * q + j)) = { laneGet s (laneKey qs (4 * q + j)) with onFlex := false }) ∧
      keeps laneGet s t ((List.range 4).map fun j => laneKey qs (4 * q + j)) ∧
      (∀ f, quadFlex s qs q = some f → (∀ n, n < 2 → (recGet s n).lost = true → recRegion s n ≠ q / 4) →
        flexGet t (q / 4) f = .free) ∧
      t = { s with quads := t.quads, lanes := t.lanes, flex := t.flex, recClk := t.recClk, due := t.due } := by
  intro q qs
  obtain ⟨a, ha⟩ : ∃ a, a = quadPut qs q { quadGet s qs q with calibrating := false } s := ⟨_, rfl⟩
  obtain ⟨b, hb⟩ : ∃ b, b = lanesOff (fun j => laneKey qs (4 * q + j)) (List.range 4) a := ⟨_, rfl⟩
  have hlanesA : a.lanes = s.lanes := by rw [ha]; rfl
  obtain ⟨hlane, hrest⟩ := lanesOff_spec (fun j => laneKey qs (4 * q + j)) (List.range 4) (s := a)
    (by rw [LanesOk, hlanesA]; exact tablesOk_lanes hs)
  rw [← hb] at hlane hrest
  obtain ⟨hl, hq⟩ := releaseBank_tables qs q b
  have hget (k : Nat) : laneGet (releaseBank qs q b) k =
      if k ∈ (List.range 4).map (fun j => laneKey qs (4 * q + j)) then { laneGet s k with onFlex := false }
      else laneGet s k := by
    have h1 : laneGet (releaseBank qs q b) k = laneGet b k := by rw [laneGet, hl, laneGet]
    have h2 : laneGet a k = laneGet s k := by rw [laneGet, hlanesA, laneGet]
    rw [h1, hlane, h2]
  have hhide : hideBank (releaseBank qs q b) = hideBank s := by
    rw [releaseBank_hide, hrest, ha]
    rfl
  refine ⟨releaseBank qs q b, by rw [hb, ha]; rfl, ?_, fun j hj => ?_, fun k hk => ?_, fun f hf hlost => ?_, ?_⟩
  · have h : (releaseBank qs q b).quads = a.quads := by rw [hq, hrest]
    rw [quadGet, h, ha]
    exact quadGet_quadPut (tablesOk_quads hs)
  · rw [hget, if_pos (List.mem_map_of_mem (by simpa using hj))]
  · rw [hget, if_neg hk]
  · have hflex : b.flex = s.flex := by rw [hrest, ha]; rfl
    refine releaseBank_frees (by rw [hflex]; exact tablesOk_flex hs) ((quadFlex_congr hflex _ _).trans hf) ?_
    rw [hrest, ha]
    exact hlost
  · exact congrArg (fun x : State => { x with
      quads := (releaseBank qs q b).quads, lanes := (releaseBank qs q b).lanes, flex := (releaseBank qs q b).flex,
      recClk := (releaseBank qs q b).recClk, due := (releaseBank qs q b).due }) hhide

/-! ### Events and taps of a lane -/

section Step
variable {sd lane : Nat} {as : List Nat} {s t : State} {v : Lane} (h : LaneWork (laneKey sd lane) as s t v)
include h

theorem LaneWork.laneEvent (b : Nat) (ha : laneAddr sd lane 2 ∈ as) :
    LaneWork (laneKey sd lane) as s (laneEvent sd lane b t) v := h.cwSet _ ha

theorem LaneWork.getLsbD_laneEvent {b : Nat} (hb : b < 36) :
    (cwGet (Machine.laneEvent sd lane b t) (laneAddr sd lane 2)).getLsbD b = true := by
  rw [Machine.laneEvent, cwPut, cwGet_cwSet h.cwOk, getLsbD_putFld_bit hb]
  rfl

theorem LaneWork.ffePut (i : Nat) (w : Word) :
    LaneWork (laneKey sd lane) as s (ffePut sd lane i w t) { v with ffe := tabSet 0 v.ffe i w } := by
  unfold Machine.ffePut
  rw [h.lane]
  exact h.lanePut _

theorem LaneWork.ffeLoad (w0 w1 : Word) :
    LaneWork (laneKey sd lane) as s (ffeLoad sd lane w0 w1 t) { v with ffe := tabSet 0 (tabSet 0 v.ffe 0 w0) 1 w1 } :=
  (h.ffePut 0 w0).ffePut 1 w1

end Step

theorem cw_ffeLoad (sd lane : Nat) (w0 w1 : Word) (s : State) : (ffeLoad sd lane w0 w1 s).cw = s.cw := rfl

theorem laneEvent_clock (sd lane b : Nat) (s : State) :
    (laneEvent sd lane b s).tick = s.tick ∧ (laneEvent sd lane b s).wrap = s.wrap := ⟨rfl, rfl⟩

theorem lanePut_clock (k : Nat) (v : Lane) (s : State) :
    (lanePut k v s).tick = s.tick ∧ (lanePut k v s).wrap = s.wrap := ⟨rfl, rfl⟩

theorem tickCount_congr {s t : State} (h : t.tick = s.tick) (h' : t.wrap = s.wrap) : tickCount t = tickCount s := by
  unfold tickCount; rw [h, h']

@[simp] theorem tickCount_laneEvent (sd lane b : Nat) (s : State) : tickCount (laneEvent sd lane b s) = tickCount s :=
  tickCount_congr (laneEvent_clock sd lane b s).1 (laneEvent_clock sd lane b s).2

@[simp] theorem tickCount_lanePut (k : Nat) (v : Lane) (s : State) : tickCount (lanePut k v s) = tickCount s :=
  tickCount_congr (lanePut_clock k v s).1 (lanePut_clock k v s).2

/-! ### Link training (R79) -/

section Training
variable {l : LaneRef} {f0 f1 : Word} {s : State}

theorem linkTrainDone_spec (hs : Safety.tablesOk s = true) :
    let k := laneKey (sideNum l.side) l.lane.val
    let v := laneGet s k
    v.train = 1 → reaches (exec (.linkTrainDone l f0 f1) s) fun t => (laneGet t k).train = 2 ∧
      (laneGet t k).ffe = tabSet 0 (tabSet 0 v.ffe 0 f0) 1 (f1 &&& 0x3FFFF) ∧
      (laneGet t k).st = (if v.st = .training then .adapt else v.st) ∧
      keeps laneGet s t [k] ∧ t = { s with lanes := t.lanes } := by
  intro k v hv
  have h := ((LaneWork.refl (k := k) (as := []) hs).lanePut (afterTraining v 2)).ffeLoad f0 (f1 &&& 0x3FFFF)
  refine ⟨_, by rw [exec_linkTrainDone, execLinkTrainDone, if_pos hv], ?_⟩
  exact ⟨congrArg Lane.train h.lane, congrArg Lane.ffe h.lane, congrArg Lane.st h.lane, h.lanes, h.rest_lanes (cw_ffeLoad _ _ _ _ _)⟩

theorem linkTrainFail_spec (hs : Safety.tablesOk s = true) :
    let k := laneKey (sideNum l.side) l.lane.val
    let v := laneGet s k
    let evt := laneAddr (sideNum l.side) l.lane.val 2
    v.train = 1 → reaches (exec (.linkTrainFail l) s) fun t => (laneGet t k).train = 3 ∧
      (laneGet t k).ffe = tabSet 0 (tabSet 0 v.ffe 0 (cwGet s (laneAddr (sideNum l.side) l.lane.val 0x40))) 1
        (cwGet s (laneAddr (sideNum l.side) l.lane.val 0x41)) ∧ (cwGet t evt).getLsbD 32 = true ∧
      keeps laneGet s t [k] ∧ cwKept s t [evt] ∧ t = { s with lanes := t.lanes, cw := t.cw } := by
  intro k v evt hv
  have hfail := (LaneWork.refl (k := k) (as := [evt]) hs).lanePut (afterTraining v 3)
  have h := (hfail.laneEvent 32 (List.mem_singleton_self _)).ffeLoad
    (cwGet s (laneAddr (sideNum l.side) l.lane.val 0x40)) (cwGet s (laneAddr (sideNum l.side) l.lane.val 0x41))
  refine ⟨_, by rw [exec_linkTrainFail, execLinkTrainFail, if_pos hv], ?_⟩
  refine ⟨congrArg Lane.train h.lane, congrArg Lane.ffe h.lane, ?_, h.lanes, h.words, h.rest⟩
  rw [cwGet_congr (cw_ffeLoad _ _ _ _ _)]
  exact hfail.getLsbD_laneEvent (by decide)

theorem linkTrain_idle (hv : (laneGet s (laneKey (sideNum l.side) l.lane.val)).train ≠ 1) :
    exec (.linkTrainDone l f0 f1) s = .next s ∧ exec (.linkTrainFail l) s = .next s :=
  ⟨by rw [exec_linkTrainDone, execLinkTrainDone, if_neg hv], by rw [exec_linkTrainFail, execLinkTrainFail, if_neg hv]⟩

end Training

/-! ### FENCE_HIT and MARGIN_LOW (R75, R76) -/

theorem eqFenceHit_spec {l : LaneRef} {loop : EqLoop} {s : State} (hs : Safety.tablesOk s = true) :
    let sd := sideNum l.side
    let lane := l.lane.val
    let k := laneKey sd lane
    let v := laneGet s k
    let evt := laneAddr sd lane 2
    ∃ u, (cwGet u evt).getLsbD 34 = true ∧ keeps laneGet s u [k] ∧ cwKept s u [evt] ∧
      u = { s with cw := u.cw, lanes := u.lanes } ∧
      exec (.eqFenceHit l loop) s = .next (if tickCount s < v.fencedUntil then u
        else record0 0x0A 65 (mkWord [(35, sd), (29, lane), (27, loopCode loop), (19, v.snr)]) u) ∧
      (laneGet u k).fencedUntil = (if tickCount s < v.fencedUntil then v.fencedUntil else tickCount s + 8000) := by
  intro sd lane k v evt
  have hstart := LaneWork.refl (k := k) (as := [evt]) hs
  have hev := hstart.laneEvent 34 (List.mem_singleton_self _)
  have hbit := hstart.getLsbD_laneEvent (b := 34) (by decide)
  have hexec : exec (.eqFenceHit l loop) s = .next (if tickCount s < v.fencedUntil then laneEvent sd lane 34 s
      else record0 0x0A 65 (mkWord [(35, sd), (29, lane), (27, loopCode loop), (19, v.snr)])
        (lanePut k { v with fencedUntil := tickCount s + 8000 } (laneEvent sd lane 34 s))) := by
    simp only [exec_eqFenceHit, execEqFenceHit, hev.lane, sd, lane, k, v,
      tickCount_laneEvent, ticksPerSecond, srcHardware]
  by_cases h : tickCount s < v.fencedUntil
  · simp only [if_pos h] at hexec ⊢
    exact ⟨_, hbit, hev.lanes, hev.words, hev.rest, hexec, by rw [hev.lane]⟩
  · simp only [if_neg h] at hexec ⊢
    have hput := hev.lanePut { v with fencedUntil := tickCount s + 8000 }
    refine ⟨_, ?_, hput.lanes, hput.words, hput.rest, hexec, by rw [hput.lane]⟩
    rw [cwGet_lanePut]
    exact hbit

section Margin
variable {l : LaneRef} {snr : Fin 256} {s : State} (hs : Safety.tablesOk s = true)

theorem eqMarginLow_of_clear (h : ¬ snr.val < cwFld s (laneAddr (sideNum l.side) l.lane.val 0x10) 27 20) :
    let k := laneKey (sideNum l.side) l.lane.val
    exec (.eqMarginLow l snr) s = .next (lanePut k { laneGet s k with snr := snr.val } s) := by
  simp only [exec_eqMarginLow, execEqMarginLow, cwFld, cwGet_lanePut]
  exact congrArg _ (if_neg h)

include hs

theorem eqMarginLow_of_low (h : snr.val < cwFld s (laneAddr (sideNum l.side) l.lane.val 0x10) 27 20) :
    let k := laneKey (sideNum l.side) l.lane.val
    let low := { laneGet s k with snr := snr.val }
    let u := laneEvent (sideNum l.side) l.lane.val 33 (lanePut k low s)
    exec (.eqMarginLow l snr) s = .next (if tickCount s < low.marginUntil then u
      else record0 0x0B 65 (mkWord [(35, sideNum l.side), (29, l.lane.val), (19, snr.val)])
        (lanePut k { low with marginUntil := tickCount s + ticksPerSecond } u)) := by
  intro k low u
  unfold cwFld at h
  simp only [exec_eqMarginLow, execEqMarginLow, cwFld, cwGet_lanePut, laneGet_lanePut (tablesOk_lanes hs), if_pos h,
    tickCount_laneEvent, tickCount_lanePut, srcHardware, k, low, u]

theorem eqMarginLow_spec :
    let sd := sideNum l.side
    let lane := l.lane.val
    let k := laneKey sd lane
    let v := laneGet s k
    let evt := laneAddr sd lane 2
    let warn := cwFld s (laneAddr sd lane 0x10) 27 20
    ∃ u, (laneGet u k).snr = snr.val ∧ keeps laneGet s u [k] ∧ cwKept s u [evt] ∧
      (cwGet u evt).getLsbD 33 = ((cwGet s evt).getLsbD 33 || decide (snr.val < warn)) ∧
      u = { s with cw := u.cw, lanes := u.lanes } ∧
      exec (.eqMarginLow l snr) s = .next (if warn ≤ snr.val ∨ tickCount s < v.marginUntil then u
        else record0 0x0B 65 (mkWord [(35, sd), (29, lane), (19, snr.val)]) u) ∧
      (laneGet u k).marginUntil = (if warn ≤ snr.val ∨ tickCount s < v.marginUntil then v.marginUntil else tickCount s + 8000) := by
  intro sd lane k v evt warn
  rw [show (8000 : Nat) = ticksPerSecond from rfl]
  have hsnr := (LaneWork.refl (k := k) (as := [evt]) hs).lanePut { v with snr := snr.val }
  by_cases hwarn : snr.val < warn
  · have hev := hsnr.laneEvent 33 (List.mem_singleton_self _)
    have hbit := hsnr.getLsbD_laneEvent (b := 33) (by decide)
    have hexec : exec (.eqMarginLow l snr) s = _ := eqMarginLow_of_low hs hwarn
    rw [decide_eq_true hwarn, Bool.or_true]
    by_cases h : tickCount s < v.marginUntil
    · rw [if_pos h] at hexec
      simp only [if_pos (show warn ≤ snr.val ∨ tickCount s < v.marginUntil from .inr h)]
      exact ⟨_, by rw [hev.lane], hev.lanes, hev.words, hbit, hev.rest, hexec, by rw [hev.lane]⟩
    · rw [if_neg h] at hexec
      have hnot : ¬ (warn ≤ snr.val ∨ tickCount s < v.marginUntil) := by omega
      have hput := hev.lanePut { v with snr := snr.val, marginUntil := tickCount s + ticksPerSecond }
      simp only [if_neg hnot]
      refine ⟨_, by rw [hput.lane], hput.lanes, hput.words, ?_, hput.rest, hexec, by rw [hput.lane]⟩
      rw [cwGet_lanePut]
      exact hbit
  · simp only [if_pos (show warn ≤ snr.val ∨ tickCount s < v.marginUntil from .inl (Nat.le_of_not_lt hwarn)),
      decide_eq_false hwarn, Bool.or_false]
    exact ⟨_, by rw [hsnr.lane], hsnr.lanes, hsnr.words, by rw [cwGet_lanePut], hsnr.rest, eqMarginLow_of_clear hwarn,
      by rw [hsnr.lane]⟩

end Margin

/-- Settles O17: the bank released, training ended either way, and the two events with their records. -/
theorem laneTrainingAndEvents : Obligations.LaneTrainingAndEvents := by
  unfold Obligations.LaneTrainingAndEvents
  intro side quad l loop snr f0 f1 s hs sd lane k v evt q qs
  exact ⟨vcoCalDone_spec hs, fun hv => ⟨linkTrainDone_spec hs hv, linkTrainFail_spec hs hv⟩, linkTrain_idle,
    eqFenceHit_spec hs, eqMarginLow_spec hs⟩

end Sys2Proof.Machine
end

section
/-! PROOFS. O19: test patterns of a lane. -/

namespace Sys2Proof.Machine

theorem natMin_eq (a b : Nat) : Nat.min a b = min a b := rfl

/-! ### The checker of a lane -/

section Step
variable {sd lane : Nat} {as : List Nat} {s t : State} {v : Lane} (h : LaneWork (laneKey sd lane) as s t v)
include h

theorem LaneWork.startChecker : LaneWork (laneKey sd lane) as s (startChecker sd lane t) { v with
    prbsLock := false, prbsLost := false, prbsErr := 0, prbsBits := 0, prbsErrSnap := 0, prbsBitsSnap := 0 } := by
  simp only [Machine.startChecker, h.lane]
  exact h.lanePut _

/-- Bits and errors reported go into the counts of the lane; errors also into its census count while that runs. -/
theorem LaneWork.prbsCount (bits errs : Nat) (ha : ctlAddr clsCen 0 (24 + lane / 16) ∈ as) :
    LaneWork (laneKey sd lane) as s (prbsCount sd lane bits errs t) { v with
      prbsErr := min (v.prbsErr + errs) 0xFFFFFFFFF, prbsBits := (v.prbsBits + bits) % 2 ^ 72 } := by
  have hput := h.lanePut { v with prbsErr := min (v.prbsErr + errs) 0xFFFFFFFFF, prbsBits := (v.prbsBits + bits) % 2 ^ 72 }
  simp only [Machine.prbsCount, h.lane, natMin_eq]
  split
  · exact hput.cwSet _ ha
  · exact hput

theorem LaneWork.cwGet_prbsCount (bits errs : Nat) :
    let cen := ctlAddr clsCen 0 (24 + lane / 16)
    cwGet (Machine.prbsCount sd lane bits errs t) cen =
      if runningMode t.mode then satAdd (cwGet t cen) errs else cwGet t cen := by
  have hstand : cenStanding 24 = false := by decide
  have hmode (w : Lane) : (Machine.lanePut (laneKey sd lane) w t).mode = t.mode := rfl
  simp only [Machine.prbsCount, hstand, Bool.false_or, hmode]
  split
  · rw [cwCount, cwGet_cwSet (h.lanePut _).cwOk, cwGet_lanePut]
  · exact cwGet_lanePut _ _ _ _

end Step

@[simp] theorem cwGet_startChecker (sd lane : Nat) (s : State) (a : Nat) :
    cwGet (startChecker sd lane s) a = cwGet s a := cwGet_congr (t := startChecker sd lane s) rfl a

section Patterns
variable {o : Origin} {l : LaneRef} {pat : Fin 16} {inv : Bool} {bits errs : Nat} {s : State}

/-! ### Generators and checkers (R80, R81) -/

theorem prbs_of_pattern_refused (h : patternOk (laneRate (laneCfg s (sideNum l.side) l.lane.val)) pat.val = false) :
    exec (.prbsGenEn o l pat inv) s = .next (refuse o 0x23 .word (laneAddr (sideNum l.side) l.lane.val 0x50) s) ∧
      exec (.prbsChkEn o l pat) s = .next (refuse o 0x23 .word (laneAddr (sideNum l.side) l.lane.val 0x50) s) := by
  constructor
  · rw [exec_prbsGenEn, execPrbsGenEn, if_pos (by simp [h])]
    rfl
  · rw [exec_prbsChkEn, execPrbsChkEn, if_pos (by simp [h])]
    rfl

theorem prbsGenEn_spec (hs : Safety.tablesOk s = true)
    (h : patternOk (laneRate (laneCfg s (sideNum l.side) l.lane.val)) pat.val = true)
    (ht : testRefusal s (sideNum l.side) l.lane.val = 0) :
    let a := laneAddr (sideNum l.side) l.lane.val 0x50
    applies o .word a s (exec (.prbsGenEn o l pat inv) s) fun t => (cwGet t a).getLsbD 35 = true ∧
      fld (cwGet t a) 33 30 = pat.val ∧ (cwGet t a).getLsbD 25 = inv ∧ fld (cwGet t a) 29 26 = fld (cwGet s a) 29 26 ∧
      cwKept s t [a] ∧ t = { s with cw := t.cw } := by
  intro a
  rw [exec_prbsGenEn, execPrbsGenEn, if_neg (by simp [h]), if_neg (by simp [ht])]
  obtain ⟨hget, hkept, hrest⟩ := cwSet_spec (a := a) (x := putFld (putFld (putFld (prbsWord s (sideNum l.side) l.lane.val)
    35 35 1) 33 30 pat.val) 25 25 (b2n inv)) hs
  refine applies_ok ⟨?_, ?_, ?_, ?_, hkept, hrest⟩ <;> rw [hget]
  · rw [getLsbD_putFld_of_disjoint (by decide) (by decide) (by decide),
      getLsbD_putFld_of_disjoint (by decide) (by decide) (by decide), getLsbD_putFld_bit (by decide)]
    rfl
  · rw [fld_putFld_of_disjoint (by decide) (by decide) (by decide), fld_putFld (by decide) (by decide) pat.isLt]
  · rw [getLsbD_putFld_bit (by decide), testBit_b2n]
  · rw [fld_putFld_of_disjoint (by decide) (by decide) (by decide),
      fld_putFld_of_disjoint (by decide) (by decide) (by decide),
      fld_putFld_of_disjoint (by decide) (by decide) (by decide), prbsWord]

theorem prbsChkEn_spec (hs : Safety.tablesOk s = true)
    (h : patternOk (laneRate (laneCfg s (sideNum l.side) l.lane.val)) pat.val = true) :
    let k := laneKey (sideNum l.side) l.lane.val
    let a := laneAddr (sideNum l.side) l.lane.val 0x50
    applies o .word a s (exec (.prbsChkEn o l pat) s) fun t =>
      (cwGet t a).getLsbD 34 = true ∧ fld (cwGet t a) 29 26 = pat.val ∧ (cwGet t a).getLsbD 35 = (cwGet s a).getLsbD 35 ∧
      laneGet t k = { laneGet s k with
        prbsLock := false, prbsLost := false, prbsErr := 0, prbsBits := 0, prbsErrSnap := 0, prbsBitsSnap := 0 } ∧
      keeps laneGet s t [k] ∧ cwKept s t [a] ∧ t = { s with cw := t.cw, lanes := t.lanes } := by
  intro k a
  rw [exec_prbsChkEn, execPrbsChkEn, if_neg (by simp [h])]
  have hword := (LaneWork.refl (k := k) (as := [a]) hs).cwSet
    (putFld (putFld (prbsWord s (sideNum l.side) l.lane.val) 34 34 1) 29 26 pat.val) (List.mem_singleton_self a)
  have hwork := hword.startChecker
  refine applies_ok ⟨?_, ?_, ?_, hwork.lane, hwork.lanes, hwork.words, hwork.rest⟩ <;>
    rw [cwGet_startChecker, cwGet_cwSet (tablesOk_cw hs)]
  · rw [getLsbD_putFld_of_disjoint (by decide) (by decide) (by decide), getLsbD_putFld_bit (by decide)]
    rfl
  · exact fld_putFld (by decide) (by decide) pat.isLt
  · rw [getLsbD_putFld_of_disjoint (by decide) (by decide) (by decide),
      getLsbD_putFld_of_disjoint (by decide) (by decide) (by decide), prbsWord]

theorem prbsErrInj_spec
    (h : patternOk (laneRate (laneCfg s (sideNum l.side) l.lane.val))
      (fld (cwGet s (laneAddr (sideNum l.side) l.lane.val 0x50)) 33 30) = true)
    (hg : (cwGet s (laneAddr (sideNum l.side) l.lane.val 0x50)).getLsbD 35 = true) :
    applies o .word (laneAddr (sideNum l.side) l.lane.val 0x50) s (exec (.prbsErrInj o l) s) fun t =>
      t = { s with out := .prbsError (sideNum l.side) l.lane.val :: s.out } := by
  simp only [exec_prbsErrInj, execPrbsErrInj, prbsWord, h, bit_eq_getLsbD, hg, Bool.not_true, Bool.false_eq_true, if_false,
    if_true]
  exact applies_ok rfl

/-! ### What a checker reports (R81) -/

theorem prbsLock_spec (hs : Safety.tablesOk s = true)
    (hc : (cwGet s (laneAddr (sideNum l.side) l.lane.val 0x50)).getLsbD 34 = true) :
    let k := laneKey (sideNum l.side) l.lane.val
    let cen := ctlAddr clsCen 0 (24 + l.lane.val / 16)
    let v := laneGet s k
    reaches (exec (.prbsLock l bits errs) s) fun t =>
      laneGet t k = { v with
        prbsLock := true, prbsErr := min (v.prbsErr + errs) 0xFFFFFFFFF, prbsBits := (v.prbsBits + bits) % 2 ^ 72 } ∧
      cwGet t cen = (if runningMode s.mode then satAdd (cwGet s cen) errs else cwGet s cen) ∧
      keeps laneGet s t [k] ∧ cwKept s t [cen] ∧ t = { s with lanes := t.lanes, cw := t.cw } := by
  intro k cen v
  have hlock := (LaneWork.refl (k := k) (as := [cen]) hs).lanePut { v with prbsLock := true }
  have hcount := hlock.prbsCount bits errs (List.mem_singleton_self cen)
  refine ⟨_, by rw [exec_prbsLock, execPrbsLock, prbsWord, bit_eq_getLsbD, if_pos hc], hcount.lane, ?_, hcount.lanes,
    hcount.words, hcount.rest⟩
  have hcen := hlock.cwGet_prbsCount bits errs
  simp only [cwGet_lanePut] at hcen
  exact hcen

theorem prbsLockLoss_spec (hs : Safety.tablesOk s = true) :
    let k := laneKey (sideNum l.side) l.lane.val
    let cen := ctlAddr clsCen 0 (24 + l.lane.val / 16)
    let v := laneGet s k
    v.prbsLock = true → reaches (exec (.prbsLockLoss l bits errs) s) fun t =>
      laneGet t k = { v with
        prbsLock := false, prbsLost := true, prbsErr := min (v.prbsErr + errs) 0xFFFFFFFFF,
        prbsBits := (v.prbsBits + bits) % 2 ^ 72 } ∧
      keeps laneGet s t [k] ∧ cwKept s t [cen] ∧ t = { s with lanes := t.lanes, cw := t.cw } := by
  intro k cen v hv
  have hcount := (LaneWork.refl (k := k) (as := [cen]) hs).prbsCount bits errs (List.mem_singleton_self cen)
  have hlost := hcount.lanePut { v with
    prbsErr := min (v.prbsErr + errs) 0xFFFFFFFFF, prbsBits := (v.prbsBits + bits) % 2 ^ 72,
    prbsLock := false, prbsLost := true }
  refine ⟨_, ?_, hlost.lane, hlost.lanes, hlost.words, hlost.rest⟩
  rw [exec_prbsLockLoss, execPrbsLockLoss, if_pos hv]
  simp only [hcount.lane, k, v]

end Patterns

end Sys2Proof.Machine
end

section
/-! PROOFS. O19: SerDes references of a region. -/

namespace Sys2Proof.Machine

section References
variable {r new : Nat} {n : RefName} {s : State}

theorem refGet_congr {t : State} (h : t.refClk = s.refClk) (j : Nat) : refGet t j = refGet s j := by
  unfold refGet; rw [h]

theorem refGet_refPut {c : RefClk} (h : tabWf (fun _ => ({} : RefClk)) s.refClk = true) : refGet (refPut r c s) r = c :=
  tabGet_tabSet_same (d := fun _ => ({} : RefClk)) h

theorem keeps_refPut {c : RefClk} : keeps refGet s (refPut r c s) [r] :=
  fun _ hj => tabGet_tabSet_ne (by simpa using hj)

theorem refMove_refClk : (refMove r new s).refClk =
    if (refGet s r).inUse = new then s.refClk else (refPut r { refGet s r with inUse := new } s).refClk := by
  have hcen (t : State) : (cenInc 42 t).refClk = t.refClk :=
    cenInc_frame (π := State.refClk) (fun _ _ => rfl) (fun _ _ => rfl) (fun _ _ => rfl) (fun _ _ => rfl) 42 t rfl
  unfold refMove
  dsimp only
  split
  · rfl
  · split
    · exact hcen _
    · exact hcen _

/-- A move of the PLLs, or none where they are on the source already. -/
theorem refGet_refMove (h : tabWf (fun _ => ({} : RefClk)) s.refClk = true) :
    refGet (refMove r new s) r = { refGet s r with inUse := new } := by
  have hclk := refMove_refClk (r := r) (new := new) (s := s)
  split at hclk
  next he => rw [refGet_congr hclk, ← he]
  next => rw [refGet_congr hclk, refGet_refPut h]

theorem keeps_refMove : keeps refGet s (refMove r new s) [r] := fun j hj => by
  have hclk := refMove_refClk (r := r) (new := new) (s := s)
  split at hclk
  · exact refGet_congr hclk j
  · exact (refGet_congr hclk j).trans (keeps_refPut j hj)

theorem cwGet_refMove_ne {a : Nat} (h : a ≠ ctlAddr clsCen 0 42) : cwGet (refMove r new s) a = cwGet s a := by
  unfold refMove
  dsimp only
  split
  · rfl
  · split
    · exact cwGet_cenInc_ne h
    · exact cwGet_cenInc_ne h

theorem refMark_spec {ok : Bool} (h : tabWf (fun _ => ({} : RefClk)) s.refClk = true) :
    let t := refMark r n ok s
    refGet t r = (match n with | .a => { refGet s r with aValid := ok } | .b => { refGet s r with bValid := ok }) ∧
      keeps refGet s t [r] ∧ t.cw = s.cw ∧ tabWf (fun _ => ({} : RefClk)) t.refClk = true :=
  ⟨refGet_refPut h, keeps_refPut, rfl, tabSet_ok' h⟩

end References

section Region
variable {r : RegionId} {n : RefName} {w : CtlWrite} {s : State}

theorem clkRefCtrl_of_reserved (h : fld w.value 35 34 = 3) :
    exec (.clkRefCtrl r w) s = .next (refuse w.origin 0x02 .word (refCtrlAddr r.val) s) := by
  rw [exec_clkRefCtrl, execClkRefCtrl, applyRefCtrl, if_pos h]
  rfl

theorem refCtrlAddr_ne_cen (r : RegionId) : refCtrlAddr r.val ≠ ctlAddr clsCen 0 42 := by
  unfold refCtrlAddr ctlAddr clsClk clsCen
  omega

theorem applyRefCtrl_of_freq {r : Nat} {v : Word} (h : fld v 35 34 ≠ 3) :
    let p := fld v 33 33
    let t := cwSet (refCtrlAddr r) (v &&& 0xF80000000) s
    applyRefCtrl r v s = .ok (if refValid (refGet s r) p = true ∧
      (v.getLsbD 31 = true ∨ fld (cwGet s (refCtrlAddr r)) 33 33 ≠ p) then refMove r p t else t) := by
  intro p t
  have hget : refGet t r = refGet s r := refGet_congr rfl r
  rw [applyRefCtrl, if_neg h]
  simp only [show cwSet (refCtrlAddr r) (v &&& 0xF80000000) s = t from rfl, hget, bit_eq_getLsbD, Bool.and_eq_true,
    Bool.or_eq_true, decide_eq_true_eq]
  split <;> rfl

theorem clkRefCtrl_spec (hs : Safety.tablesOk s = true) (h : fld w.value 35 34 ≠ 3) :
    let c := refGet s r.val
    let rc := refCtrlAddr r.val
    let p := fld w.value 33 33
    applies w.origin .word rc s (exec (.clkRefCtrl r w) s) fun t =>
      cwGet t rc = (w.value &&& 0xF80000000) ∧ keeps refGet s t [r.val] ∧
      (refGet t r.val).inUse =
        (if refValid c p = true ∧ (w.value.getLsbD 31 = true ∨ fld (cwGet s rc) 33 33 ≠ p) then p else c.inUse) := by
  intro c rc p
  have hget (j : Nat) : refGet (cwSet rc (w.value &&& 0xF80000000) s) j = refGet s j :=
    refGet_congr (t := cwSet rc (w.value &&& 0xF80000000) s) rfl j
  have hword : cwGet (cwSet rc (w.value &&& 0xF80000000) s) rc = (w.value &&& 0xF80000000) := cwGet_cwSet (tablesOk_cw hs)
  rw [exec_clkRefCtrl, execClkRefCtrl, applyRefCtrl_of_freq h]
  refine applies_ok ?_
  by_cases hmove : refValid c p = true ∧ (w.value.getLsbD 31 = true ∨ fld (cwGet s rc) 33 33 ≠ p)
  · rw [if_pos hmove, if_pos hmove]
    have hok : tabWf (fun _ => ({} : RefClk)) (cwSet rc (w.value &&& 0xF80000000) s).refClk = true :=
      tablesOk_refClk (s := s) hs
    exact ⟨(cwGet_refMove_ne (refCtrlAddr_ne_cen r)).trans hword, (keeps_of_eq hget).trans keeps_refMove,
      congrArg RefClk.inUse (refGet_refMove hok)⟩
  · rw [if_neg hmove, if_neg hmove]
    exact ⟨hword, keeps_of_eq hget, by rw [hget]⟩

theorem refclkLoss_spec (hs : Safety.tablesOk s = true) :
    let c := refGet s r.val
    reaches (exec (.refclkLoss r n) s) fun t => refValid (refGet t r.val) (refNum n) = false ∧
      (refGet t r.val).inUse = (if c.inUse = refNum n then
        (if refValid c (1 - refNum n) then 1 - refNum n else 2) else c.inUse) ∧ keeps refGet s t [r.val] := by
  intro c
  obtain ⟨hget, hkeeps, -, hok⟩ := refMark_spec (r := r.val) (n := n) (ok := false) (tablesOk_refClk hs)
  refine ⟨_, by rw [exec_refclkLoss, execRefclkLoss], ?_⟩
  generalize refMark r.val n false s = x at *
  have huse : (refGet x r.val).inUse = c.inUse := by rw [hget]; cases n <;> rfl
  by_cases hlost : c.inUse = refNum n
  · rw [if_pos (huse.trans hlost), if_pos hlost, refGet_refMove hok]
    refine ⟨?_, ?_, hkeeps.trans keeps_refMove⟩
    · rw [hget]; cases n <;> rfl
    · rw [hget]; cases n <;> rfl
  · rw [if_neg (huse ▸ hlost), if_neg hlost]
    exact ⟨by rw [hget]; cases n <;> rfl, huse, hkeeps⟩

theorem refclkRequalify_spec (hs : Safety.tablesOk s = true) :
    let c := refGet s r.val
    let rc := refCtrlAddr r.val
    reaches (exec (.refclkRequalify r n) s) fun t => refValid (refGet t r.val) (refNum n) = true ∧
      (refGet t r.val).inUse = (if c.inUse = 2 ∨ (((cwGet s rc).getLsbD 32 ∨ (cwGet s rc).getLsbD 31) ∧
        fld (cwGet s rc) 33 33 = refNum n) then refNum n else c.inUse) ∧ keeps refGet s t [r.val] := by
  intro c rc
  obtain ⟨hget, hkeeps, hcw, hok⟩ := refMark_spec (r := r.val) (n := n) (ok := true) (tablesOk_refClk hs)
  refine ⟨_, by rw [exec_refclkRequalify, execRefclkRequalify], ?_⟩
  generalize refMark r.val n true s = x at *
  have huse : (refGet x r.val).inUse = c.inUse := by rw [hget]; cases n <;> rfl
  have hvalid : refValid (refGet x r.val) (refNum n) = true := by rw [hget]; cases n <;> rfl
  have hmoved : refValid (refGet (refMove r.val (refNum n) x) r.val) (refNum n) = true ∧
      (refGet (refMove r.val (refNum n) x) r.val).inUse = refNum n ∧ keeps refGet s (refMove r.val (refNum n) x) [r.val] := by
    rw [refGet_refMove hok]
    exact ⟨hvalid, rfl, hkeeps.trans keeps_refMove⟩
  simp only [huse, cwGet_congr hcw, bit_eq_getLsbD, Bool.and_eq_true, Bool.or_eq_true, decide_eq_true_eq]
  by_cases h2 : c.inUse = 2
  · rw [if_pos h2, if_pos (.inl h2)]
    exact hmoved
  · rw [if_neg h2]
    by_cases hpref : ((cwGet s rc).getLsbD 32 = true ∨ (cwGet s rc).getLsbD 31 = true) ∧ fld (cwGet s rc) 33 33 = refNum n
    · rw [if_pos hpref, if_pos (.inr hpref)]
      exact hmoved
    · rw [if_neg hpref, if_neg (not_or.2 ⟨h2, hpref⟩)]
      exact ⟨hvalid, huse, hkeeps⟩

end Region

/-- Settles O19: generators, checkers and their reports, then the references of a region. -/
theorem testPatternsAndReferences : Obligations.TestPatternsAndReferences := by
  unfold Obligations.TestPatternsAndReferences
  intro o l pat inv bits errs r n w s hs sd lane k v a rate cen c rc
  exact ⟨prbs_of_pattern_refused, prbsGenEn_spec hs, prbsChkEn_spec hs, prbsErrInj_spec, prbsLock_spec hs,
    prbsLockLoss_spec hs, clkRefCtrl_of_reserved, clkRefCtrl_spec hs, refclkLoss_spec hs, refclkRequalify_spec hs⟩

end Sys2Proof.Machine
end

section
/-! PROOFS. O16: LANE_CFG, PLL lock and CDR lock. -/

namespace Sys2Proof.Machine

theorem getLsbD_of_fld_eq {v w : Word} {hi lo i : Nat} (h : fld v hi lo = fld w hi lo) (hlo : lo ≤ i) (hhi : i ≤ hi) :
    v.getLsbD i = w.getLsbD i := by
  have hbit := congrArg (fun n => n.testBit (i - lo)) h
  simp only [testBit_fld, Nat.add_sub_cancel' hlo, decide_eq_true (show i - lo < hi + 1 - lo by omega),
    Bool.true_and] at hbit
  exact hbit

/-! ### The word that LANE_CFG stores -/

theorem getLsbD_laneCfgMask {sd i : Nat} (h : 24 ≤ i) (hi : i < 36) :
    (BitVec.ofNat 36 (if sd = 0 then 0xFFF000000 else 0xFFF800000)).getLsbD i = true := by
  split <;> interval_cases i <;> rfl

theorem getLsbD_laneCfgValue {sd i : Nat} {v : Word} (h : 24 ≤ i) (hi : i < 36) :
    (laneCfgValue sd v).getLsbD i = v.getLsbD i := getLsbD_and_of_set (getLsbD_laneCfgMask h hi)

theorem fld_laneCfgValue {sd hi lo : Nat} {v : Word} (h : 24 ≤ lo) (hi36 : hi < 36) :
    fld (laneCfgValue sd v) hi lo = fld v hi lo :=
  fld_congr fun i h1 h2 => getLsbD_laneCfgValue (h.trans h1) (by omega)

theorem laneRate_laneCfgValue (sd : Nat) (v : Word) : laneRate (laneCfgValue sd v) = laneRate v :=
  fld_laneCfgValue (by decide) (by decide)

/-! ### A lane stopped or started -/

theorem laneLeft_tables (sd lane : Nat) (s : State) : let t := laneLeft sd lane s
    t.lanes = s.lanes ∧ t.cw = s.cw ∧ t.quads = s.quads :=
  ⟨laneLeft_frame (π := State.lanes) (fun _ _ => rfl) (fun _ _ => rfl) (fun _ _ => rfl) sd lane s rfl,
    laneLeft_frame (π := State.cw) (fun _ _ => rfl) (fun _ _ => rfl) (fun _ _ => rfl) sd lane s rfl,
    laneLeft_frame (π := State.quads) (fun _ _ => rfl) (fun _ _ => rfl) (fun _ _ => rfl) sd lane s rfl⟩

theorem takeFlex_tables (sd q : Nat) (s : State) : let t := takeFlex sd q s
    t.lanes = s.lanes ∧ t.quads = s.quads :=
  ⟨takeFlex_frame (π := State.lanes) (fun _ _ => rfl) (fun _ _ => rfl) (fun _ _ => rfl) (fun _ _ => rfl) (fun _ _ => rfl)
      (fun _ _ => rfl) (fun _ _ => rfl) (fun _ _ => rfl) sd q s rfl,
    takeFlex_frame (π := State.quads) (fun _ _ => rfl) (fun _ _ => rfl) (fun _ _ => rfl) (fun _ _ => rfl) (fun _ _ => rfl)
      (fun _ _ => rfl) (fun _ _ => rfl) (fun _ _ => rfl) sd q s rfl⟩

/-- A synthesiser taken from a recovered clock is recorded in HQ0; no other control word changes. -/
theorem cwGet_takeFlex_ne {sd q a : Nat} {s : State} (h : a ≠ hqLostAddr 0) : cwGet (takeFlex sd q s) a = cwGet s a := by
  unfold takeFlex
  dsimp only
  split
  · rfl
  · split
    · rfl
    · split
      · refine (cwGet_hqAppend_ne h).trans (cwGet_congr ?_ a)
        show (match flexGet s (q / 4) _ with
          | .recClk n => clkEvt 7 (2 + n) (recPut n { recGet s n with on := false, lost := true } s)
          | _ => s).cw = s.cw
        split <;> rfl
      · rfl

theorem stopLane_spec {sd lane : Nat} {s : State} (h : LanesOk s) : let t := stopLane sd lane s
    let k := laneKey sd lane
    (laneGet t k).st = .off ∧ (laneGet t k).cdrLock = false ∧ keeps laneGet s t [k] ∧ t.cw = s.cw := by
  intro t k
  obtain ⟨hlanes, hcw, -⟩ := laneLeft_tables sd lane (lanePut k { laneGet s k with
    st := .off, sigDet := false, cdrLock := false, onFlex := false, train := 0 } s)
  have hget (j : Nat) := laneGet_congr hlanes j
  refine ⟨?_, ?_, fun j hj => (hget j).trans (keeps_lanePut j hj), hcw⟩
  · exact congrArg Lane.st ((hget k).trans (laneGet_lanePut h))
  · exact congrArg Lane.cdrLock ((hget k).trans (laneGet_lanePut h))

/-- The bank of a quad brought to a family: a change of family takes a flexible synthesiser while the bank calibrates. -/
def bankTo (sd q fam : Nat) (s : State) : State :=
  if (quadGet s sd q).family = fam then s else takeFlex sd q (quadPut sd q { family := fam, calibrating := true } s)

theorem bankTo_spec {sd q fam : Nat} {s : State} (hq : tabWf (fun _ => ({} : Quad)) s.quads = true) :
    let u := bankTo sd q fam s
    u.lanes = s.lanes ∧ (quadGet u sd q).family = fam ∧ ∀ a, a ≠ hqLostAddr 0 → cwGet u a = cwGet s a := by
  dsimp only [bankTo]
  split
  next he => exact ⟨rfl, he, fun _ _ => rfl⟩
  next =>
    obtain ⟨hlanes, hquads⟩ := takeFlex_tables sd q (quadPut sd q { family := fam, calibrating := true } s)
    refine ⟨hlanes, ?_, fun a ha => cwGet_takeFlex_ne ha⟩
    rw [quadGet, hquads]
    exact congrArg Quad.family (quadGet_quadPut hq)

theorem startLane_eq {plan : State} {sd lane : Nat} {s : State} (hd : domRuns s (laneDom sd lane) = true) :
    ∃ onFlex, startLane plan sd lane s = laneLeft sd lane (lanePut (laneKey sd lane)
      { laneGet s (laneKey sd lane) with
        st := .pllWait, cdrLock := false, onFlex := onFlex, train := if bit (laneCfg s sd lane) 25 then 1 else 0 }
      (bankTo sd (lane / 4) (rateFamily (laneRate (laneCfg s sd lane))) s)) := by
  unfold startLane
  rw [if_neg (by simp [hd])]
  exact ⟨_, rfl⟩

theorem startLane_spec {plan : State} {sd lane : Nat} {s : State} (h : LanesOk s)
    (hq : tabWf (fun _ => ({} : Quad)) s.quads = true) (hd : domRuns s (laneDom sd lane) = true) :
    let t := startLane plan sd lane s
    let k := laneKey sd lane
    let w := laneCfg s sd lane
    (laneGet t k).st = .pllWait ∧ (laneGet t k).train = (if bit w 25 then 1 else 0) ∧
      (quadGet t sd (lane / 4)).family = rateFamily (laneRate w) ∧ keeps laneGet s t [k] ∧
      ∀ a, a ≠ hqLostAddr 0 → cwGet t a = cwGet s a := by
  intro t k w
  obtain ⟨onFlex, ht⟩ := startLane_eq (plan := plan) hd
  obtain ⟨hlanes, hfamily, hcw⟩ := bankTo_spec (sd := sd) (q := lane / 4) (fam := rateFamily (laneRate w)) hq
  rw [show t = _ from ht]
  generalize bankTo sd (lane / 4) (rateFamily (laneRate (laneCfg s sd lane))) s = u at *
  obtain ⟨hl, hc, hquads⟩ := laneLeft_tables sd lane (lanePut k { laneGet s k with
    st := .pllWait, cdrLock := false, onFlex := onFlex, train := if bit w 25 then 1 else 0 } u)
  have hget := (laneGet_congr hl k).trans (laneGet_lanePut (s := u) (by rw [LanesOk, hlanes]; exact h))
  refine ⟨congrArg Lane.st hget, congrArg Lane.train hget, ?_, fun j hj => ?_, fun a ha => ?_⟩
  · rw [quadGet, hquads]
    exact hfamily
  · exact (laneGet_congr hl j).trans ((keeps_lanePut j hj).trans (laneGet_congr hlanes j))
  · exact (cwGet_congr hc a).trans (hcw a ha)

/-! ### LANE_CFG (R59, R60, R61) -/

/-- The write stored, and the equaliser values of a new rate loaded. -/
def laneStored (sd lane : Nat) (new : Word) (s : State) : State :=
  let t := cwSet (laneAddr sd lane 0) new s
  if laneRate (laneCfg s sd lane) = laneRate new then t else loadEq sd lane (laneRate new) t

theorem loadEq_moves {sd lane rate : Nat} {s : State} (h : LanesOk s) :
    ∃ e, eqMoved (laneKey sd lane) s (loadEq sd lane rate s) e := by
  unfold loadEq
  refine List.foldlRecOn (motive := fun t => ∃ e, eqMoved (laneKey sd lane) s t e) _ _ ⟨_, eqMoved_refl h⟩ ?_
  rintro t ⟨e, ht⟩ off -
  exact ⟨_, ht.eqPut⟩

theorem laneStored_spec {sd lane : Nat} {new : Word} {s : State} (hs : Safety.tablesOk s = true) :
    let a := laneAddr sd lane 0
    let k := laneKey sd lane
    let t := laneStored sd lane new s
    cwGet t a = new ∧ cwKept s t [a] ∧ keeps laneGet s t [k] ∧ LanesOk t ∧ t = { s with cw := t.cw, lanes := t.lanes } := by
  intro a k t
  have hok := tablesOk_lanes hs
  have hstart := (LaneWork.refl (k := k) (as := [a]) hs).cwSet new (List.mem_singleton_self a)
  have hword : cwGet (cwSet a new s) a = new := cwGet_cwSet (tablesOk_cw hs)
  by_cases hr : laneRate (laneCfg s sd lane) = laneRate new
  · rw [show t = cwSet a new s from if_pos hr]
    exact ⟨hword, hstart.words, hstart.lanes, hstart.lanesOk, hstart.rest⟩
  · rw [show t = loadEq sd lane (laneRate new) (cwSet a new s) from if_neg hr]
    obtain ⟨e, h⟩ := loadEq_moves (sd := sd) (lane := lane) (rate := laneRate new) hstart.lanesOk
    have hwork := hstart.eqMoved h
    exact ⟨(cwGet_congr h.cw a).trans hword, hwork.words, hwork.lanes, hwork.lanesOk, hwork.rest⟩

section Write
variable {side : Side} {quad : Fin 16} {w : LaneWrite} {s : State}

theorem laneCfg_single : exec (.laneCfg side quad [w]) s =
    .next (settle w.origin .word (laneAddr (sideNum side) (4 * quad.val + w.lane.val) 0) s
      (applyLaneCfg (cwSet (laneAddr (sideNum side) (4 * quad.val + w.lane.val) 0) (laneCfgValue (sideNum side) w.value) s)
        (sideNum side) (4 * quad.val + w.lane.val) w.value s)) := exec_laneCfg _ _ _ _

theorem quadOfLane (q : Nat) (i : Fin 4) : (4 * q + i.val) / 4 = q := by omega

theorem laneCfg_of_rate (h : 0xC < laneRate w.value) : exec (.laneCfg side quad [w]) s =
    .next (refuse w.origin 0x02 .word (laneAddr (sideNum side) (4 * quad.val + w.lane.val) 0) s) := by
  rw [laneCfg_single, applyLaneCfg, if_pos h]
  rfl

theorem laneCfg_of_quad {ws : List LaneWrite} {st : Nat}
    (hst : st = quadStatus (quadPlan (sideNum side) quad.val ws s) (sideNum side) quad.val) (h0 : st ≠ 0)
    (hr : ∀ x ∈ ws, laneRate x.value ≤ 0xC) :
    exec (.laneCfg side quad ws) s = .next (ws.foldl (fun u x =>
      refuse x.origin st .word (laneAddr (sideNum side) (4 * quad.val + x.lane.val) 0) u) s) := by
  rw [exec_laneCfg, execLaneCfg]
  refine congrArg _ (List.foldl_ext _ _ _ fun u x hx => ?_)
  have hrate := hr x hx
  have hrefused : applyLaneCfg (quadPlan (sideNum side) quad.val ws s) (sideNum side) (4 * quad.val + x.lane.val)
      x.value u = .error st := by
    rw [applyLaneCfg, if_neg (by omega), quadOfLane, ← hst, if_pos h0]
  exact congrArg (settle x.origin .word (laneAddr (sideNum side) (4 * quad.val + x.lane.val) 0) u) hrefused

/-- A sound write: stored, then the lane stopped, started or left as it runs. -/
theorem applyLaneCfg_of_sound {plan : State} {sd lane : Nat} {v : Word} (hr : laneRate v ≤ 0xC)
    (hq : quadStatus plan sd (lane / 4) = 0) :
    let old := laneCfg s sd lane
    let new := laneCfgValue sd v
    let t := laneStored sd lane new s
    let k := laneKey sd lane
    applyLaneCfg plan sd lane v s =
      if !bit new 35 then .ok (stopLane sd lane t)
      else if !bit old 35 || laneRate old ≠ laneRate new || fld old 30 30 ≠ fld new 30 30 then .ok (startLane plan sd lane t)
      else if bit old 25 = bit new 25 then .ok t
      else .ok (lanePut k { laneGet t k with train := if bit new 25 then 1 else 0 } t) := by
  intro old new t k
  rw [applyLaneCfg, if_neg (by omega), if_neg (by simp [hq])]
  rfl

/-- A state without what LANE_CFG may change where it stops a lane. -/
def hideLane (s : State) : State := { s with cw := [], lanes := [], framers := [], cells := [], trackers := [] }

theorem stopLane_hide (sd lane : Nat) (s : State) : hideLane (stopLane sd lane s) = hideLane s :=
  stopLane_frame (fun _ _ => rfl) (fun _ _ => rfl) (fun _ _ => rfl) (fun _ _ => rfl) sd lane s rfl

section Sound
variable (hr : laneRate w.value ≤ 0xC)
  (hq : quadStatus (cwSet (laneAddr (sideNum side) (4 * quad.val + w.lane.val) 0) (laneCfgValue (sideNum side) w.value) s)
    (sideNum side) quad.val = 0)
  (hs : Safety.tablesOk s = true)
include hr hq hs

theorem laneCfg_stops (he : w.value.getLsbD 35 = false) :
    let sd := sideNum side
    let lane := 4 * quad.val + w.lane.val
    let a := laneAddr sd lane 0
    applies w.origin .word a s (exec (.laneCfg side quad [w]) s) fun t =>
      cwGet t a = laneCfgValue sd w.value ∧ (laneGet t (laneKey sd lane)).st = .off ∧
        (laneGet t (laneKey sd lane)).cdrLock = false ∧ keeps laneGet s t [laneKey sd lane] ∧ cwKept s t [a] ∧
        t = { s with cw := t.cw, lanes := t.lanes, framers := t.framers, cells := t.cells, trackers := t.trackers } := by
  intro sd lane a
  obtain ⟨hword, hkept, hkeeps, hok, hrest⟩ := laneStored_spec (sd := sd) (lane := lane)
    (new := laneCfgValue sd w.value) hs
  have hoff : bit (laneCfgValue sd w.value) 35 = false := by
    rw [bit_eq_getLsbD, getLsbD_laneCfgValue (by decide) (by decide), he]
  rw [laneCfg_single, applyLaneCfg_of_sound hr (by rw [quadOfLane]; exact hq), if_pos (by rw [hoff]; rfl)]
  generalize laneStored sd lane (laneCfgValue sd w.value) s = x at *
  obtain ⟨hst, hcdr, hlanes, hcw⟩ := stopLane_spec (sd := sd) (lane := lane) hok
  have hhide : hideLane (stopLane sd lane x) = hideLane s := by
    rw [stopLane_hide, hrest]
    rfl
  exact applies_ok ⟨(cwGet_congr hcw a).trans hword, hst, hcdr, hkeeps.trans hlanes,
    fun b hb => (cwGet_congr hcw b).trans (hkept b hb),
    congrArg (fun y : State => { y with
      cw := (stopLane sd lane x).cw, lanes := (stopLane sd lane x).lanes, framers := (stopLane sd lane x).framers,
      cells := (stopLane sd lane x).cells, trackers := (stopLane sd lane x).trackers }) hhide⟩

theorem laneCfg_starts (he : w.value.getLsbD 35 = true)
    (ho : (laneCfg s (sideNum side) (4 * quad.val + w.lane.val)).getLsbD 35 = false)
    (hd : domRuns s (laneDom (sideNum side) (4 * quad.val + w.lane.val)) = true) :
    let sd := sideNum side
    let lane := 4 * quad.val + w.lane.val
    let a := laneAddr sd lane 0
    applies w.origin .word a s (exec (.laneCfg side quad [w]) s) fun t =>
      cwGet t a = laneCfgValue sd w.value ∧ (laneGet t (laneKey sd lane)).st = .pllWait ∧
        (laneGet t (laneKey sd lane)).train = (if w.value.getLsbD 25 then 1 else 0) ∧
        (quadGet t sd quad.val).family = rateFamily (laneRate w.value) ∧ keeps laneGet s t [laneKey sd lane] := by
  intro sd lane a
  obtain ⟨hword, -, hkeeps, hok, hrest⟩ := laneStored_spec (sd := sd) (lane := lane)
    (new := laneCfgValue sd w.value) hs
  have hon : bit (laneCfgValue sd w.value) 35 = true := by
    rw [bit_eq_getLsbD, getLsbD_laneCfgValue (by decide) (by decide), he]
  have hold : bit (laneCfg s sd lane) 35 = false := by rw [bit_eq_getLsbD, ho]
  rw [laneCfg_single, applyLaneCfg_of_sound hr (by rw [quadOfLane]; exact hq), if_neg (by rw [hon]; decide),
    if_pos (by rw [hold]; rfl)]
  generalize laneStored sd lane (laneCfgValue sd w.value) s = x at *
  have hnew : laneCfg x sd lane = laneCfgValue sd w.value := hword
  obtain ⟨hst, htrain, hfamily, hlanes, hcw⟩ := startLane_spec (sd := sd) (lane := lane) (s := x)
    (plan := cwSet (laneAddr (sideNum side) (4 * quad.val + w.lane.val) 0) (laneCfgValue (sideNum side) w.value) s) hok
    (by rw [hrest]; exact tablesOk_quads (s := s) hs) (by rw [hrest]; exact hd)
  rw [hnew, bit_eq_getLsbD, getLsbD_laneCfgValue (by decide) (by decide)] at htrain
  rw [hnew, laneRate_laneCfgValue, quadOfLane] at hfamily
  refine applies_ok ⟨(hcw a (ne_of_class ?_)).trans hword, hst, htrain, hfamily, hkeeps.trans hlanes⟩
  rw [laneAddr_div (sideNum_le side) (by omega) (by decide)]
  decide

theorem laneCfg_stays (he : w.value.getLsbD 35 = true)
    (hf : fld (laneCfg s (sideNum side) (4 * quad.val + w.lane.val)) 35 30 = fld w.value 35 30)
    (ht : (laneCfg s (sideNum side) (4 * quad.val + w.lane.val)).getLsbD 25 = w.value.getLsbD 25) :
    let sd := sideNum side
    let lane := 4 * quad.val + w.lane.val
    let a := laneAddr sd lane 0
    applies w.origin .word a s (exec (.laneCfg side quad [w]) s) fun t =>
      cwGet t a = laneCfgValue sd w.value ∧ cwKept s t [a] ∧ t = { s with cw := t.cw } := by
  intro sd lane a
  have hsame (i : Nat) (h1 : 30 ≤ i) (h2 : i ≤ 35) :
      (laneCfg s sd lane).getLsbD i = (laneCfgValue sd w.value).getLsbD i := by
    rw [getLsbD_laneCfgValue (by omega) (by omega)]
    exact getLsbD_of_fld_eq hf h1 h2
  have hrate : laneRate (laneCfg s sd lane) = laneRate (laneCfgValue sd w.value) :=
    fld_congr fun i h1 h2 => hsame i (by omega) (by omega)
  have hbank : fld (laneCfg s sd lane) 30 30 = fld (laneCfgValue sd w.value) 30 30 :=
    fld_congr fun i h1 h2 => hsame i h1 (by omega)
  have hon : bit (laneCfgValue sd w.value) 35 = true := by
    rw [bit_eq_getLsbD, getLsbD_laneCfgValue (by decide) (by decide), he]
  have hold : bit (laneCfg s sd lane) 35 = true := by
    rw [bit_eq_getLsbD, hsame 35 (by decide) (by decide), ← bit_eq_getLsbD, hon]
  have hnot : (!bit (laneCfg s sd lane) 35 || decide (laneRate (laneCfg s sd lane) ≠ laneRate (laneCfgValue sd w.value)) ||
      decide (fld (laneCfg s sd lane) 30 30 ≠ fld (laneCfgValue sd w.value) 30 30)) = false := by
    rw [hold, hrate, hbank]
    simp
  have htrain : bit (laneCfg s sd lane) 25 = bit (laneCfgValue sd w.value) 25 := by
    rw [bit_eq_getLsbD, bit_eq_getLsbD, getLsbD_laneCfgValue (by decide) (by decide)]
    exact ht
  rw [laneCfg_single, applyLaneCfg_of_sound hr (by rw [quadOfLane]; exact hq), if_neg (by rw [hon]; decide),
    if_neg fun hc => Bool.false_ne_true (hnot.symm.trans hc), if_pos htrain, laneStored, if_pos hrate]
  exact applies_ok (cwSet_spec hs)

end Sound

end Write

/-! ### PLL lock and CDR lock (R61, R79) -/

section Locks
variable {l : LaneRef} {s : State}

theorem lanePllLock_spec (hs : Safety.tablesOk s = true) :
    let k := laneKey (sideNum l.side) l.lane.val
    let v := laneGet s k
    v.st = .pllWait → reaches (exec (.lanePllLock l) s) fun t =>
      laneGet t k = { v with st := .cdrAcq } ∧ keeps laneGet s t [k] ∧ t = { s with lanes := t.lanes } := by
  intro k v hv
  exact ⟨_, by rw [exec_lanePllLock, execLanePllLock, if_pos hv], lanePut_spec (tablesOk_lanes hs)⟩

theorem lanePllLock_idle (h : (laneGet s (laneKey (sideNum l.side) l.lane.val)).st ≠ .pllWait) :
    exec (.lanePllLock l) s = .next s := by
  rw [exec_lanePllLock, execLanePllLock, if_neg h]

theorem laneCdrLock_spec (hs : Safety.tablesOk s = true) :
    let k := laneKey (sideNum l.side) l.lane.val
    let v := laneGet s k
    v.st = .cdrAcq → reaches (exec (.laneCdrLock l) s) fun t =>
      laneGet t k = { v with st := if v.train = 1 then .training else .adapt, sigDet := true, cdrLock := true } ∧
        keeps laneGet s t [k] ∧ t = { s with lanes := t.lanes } := by
  intro k v hv
  exact ⟨_, by rw [exec_laneCdrLock, execLaneCdrLock, if_pos hv], lanePut_spec (tablesOk_lanes hs)⟩

theorem laneCdrLock_idle (h : (laneGet s (laneKey (sideNum l.side) l.lane.val)).st ≠ .cdrAcq) :
    exec (.laneCdrLock l) s = .next s := by
  rw [exec_laneCdrLock, execLaneCdrLock, if_neg h]

end Locks

/-- Settles O16: LANE_CFG by its refusals and by what a sound write does to its lane, then the two locks. -/
theorem laneSetUp : Obligations.LaneSetUp := by
  unfold Obligations.LaneSetUp
  intro side quad w ws l s hs sd q lane a new plan c k v
  exact ⟨laneCfg_of_rate, fun st => laneCfg_of_quad, fun hr hq => laneCfg_stops hr hq hs,
    fun hr hq => laneCfg_starts hr hq hs, fun hr hq => laneCfg_stays hr hq hs, lanePllLock_spec hs, lanePllLock_idle,
    laneCdrLock_spec hs, laneCdrLock_idle⟩

end Sys2Proof.Machine
end

section
/-! PROOFS. O22: the multiframe process, LOF and LOM, lane alignment, and lanes that reach or leave READY. -/

namespace Sys2Proof.Machine

/-! ### Framers -/

/-- The framers of a state are in canonical form. -/
abbrev FramersOk (s : State) : Prop := tabWf (fun _ => ({} : Framer)) s.framers = true

theorem framerGet_framerPut {k : Nat} {f : Framer} {s : State} (h : FramersOk s) : framerGet (framerPut k f s) k = f :=
  tabGet_tabSet_same (d := fun _ => ({} : Framer)) h

theorem keeps_framerPut {k : Nat} {f : Framer} {s : State} : keeps framerGet s (framerPut k f s) [k] :=
  fun _ hj => tabGet_tabSet_ne (by simpa using hj)

theorem cwGet_eq {s t : State} (h : t.cw = s.cw) : cwGet t = cwGet s := funext (cwGet_congr h)

theorem frmCfg_congr {s t : State} (h : t.cw = s.cw) (u n : Nat) : frmCfg t u n = frmCfg s u n := cwGet_congr h _

theorem cwFld_eq {s t : State} (h : t.cw = s.cw) : cwFld t = cwFld s := by
  funext a hi lo
  rw [cwFld, cwGet_eq h, cwFld]

theorem frmLanes_eq {s t : State} (h : t.cw = s.cw) : frmLanes t = frmLanes s := by
  funext u n
  rw [frmLanes, cwFld_eq h, frmLanes]

theorem commonRate_eq {s t : State} (h : t.cw = s.cw) : commonRate t = commonRate s := by
  funext side ls
  unfold commonRate laneCfg
  rw [cwGet_eq h]

theorem laneMembers_congr {s t : State} (h : t.cw = s.cw) (u n : Nat) : laneMembers t u n = laneMembers s u n := by
  unfold laneMembers
  rw [frmCfg_congr h, frmLanes_eq h, commonRate_eq h, cwFld_eq h]

theorem allInFrame_congr {s t : State} (h : t.trackers = s.trackers) (u n : Nat) (ms : List Nat) :
    allInFrame t u n ms = allInFrame s u n ms := by
  unfold allInFrame trackerGet
  rw [h]

/-- From s to t the framer of one stream becomes f, and nothing else changes. -/
structure FrmWork (k : Nat) (s t : State) (f : Framer) : Prop where
  framer : framerGet t k = f
  framers : keeps framerGet s t [k]
  rest : t = { s with framers := t.framers }
  ok : FramersOk t

theorem FrmWork.refl {k : Nat} {s : State} (hs : Safety.tablesOk s = true) : FrmWork k s s (framerGet s k) :=
  ⟨rfl, fun _ _ => rfl, rfl, tablesOk_framers hs⟩

section Step
variable {k : Nat} {s t : State} {f : Framer} (h : FrmWork k s t f)
include h

theorem FrmWork.framerPut (f' : Framer) : FrmWork k s (framerPut k f' t) f' where
  framer := framerGet_framerPut h.ok
  framers := h.framers.trans keeps_framerPut
  rest := only_trans (put := State.putFramers) (get := State.framers) (fun _ _ _ => rfl) h.rest rfl
  ok := tabSet_ok' h.ok

theorem FrmWork.frmEvent (b : Nat) :
    FrmWork k s (frmEvent k b t) { f with events := Nat.lor f.events (2 ^ b) } := by
  unfold Machine.frmEvent
  rw [h.framer]
  exact h.framerPut _

theorem FrmWork.cw : t.cw = s.cw := by rw [h.rest]
theorem FrmWork.trackers : t.trackers = s.trackers := by rw [h.rest]
theorem FrmWork.frmCfg (u n : Nat) : frmCfg t u n = frmCfg s u n := cwGet_congr h.cw _

end Step

/-! ### One bit of a mask -/

/-- A mask without bit i. -/
theorem testBit_without (m i : Nat) : (m - if m.testBit i then 2 ^ i else 0).testBit i = false := by
  by_cases h : m.testBit i = true
  · have hdiv := h
    rw [Nat.testBit_eq_decide_div_mod_eq, decide_eq_true_eq] at hdiv
    have hle : 2 ^ i * 1 ≤ m := by
      rw [Nat.mul_one]
      exact Nat.ge_two_pow_of_testBit h
    rw [if_pos h, Nat.testBit_eq_decide_div_mod_eq, decide_eq_false_iff_not]
    have hsub := Nat.sub_mul_div m (2 ^ i) 1
    rw [Nat.mul_one] at hsub
    rw [hsub]
    omega
  · rw [if_neg h, Nat.sub_zero]
    simpa using h

theorem testBit_with (m i : Nat) : ((m - if m.testBit i then 2 ^ i else 0) + 2 ^ i).testBit i = true := by
  rw [Nat.add_comm, Nat.testBit_two_pow_add_eq, testBit_without]
  rfl

/-! ### The multiframe process and its timers (R107, R108) -/

section Timers
variable {r : StreamRef} {s : State}

theorem mfOom_of_errors (h : (framerGet s (streamKey r.unit.val r.num.val)).oof = false)
    (he : oomN s r.unit.val r.num.val ≤ (framerGet s (streamKey r.unit.val r.num.val)).errMf) :
    exec (.mfOom r) s = .next (framerPut (streamKey r.unit.val r.num.val)
      { framerGet s (streamKey r.unit.val r.num.val) with oom := true, goodMf := 0 } s) := by
  rw [exec_mfOom, execMfOom, if_pos (by simp [h, he])]

theorem mfOom_idle (h : (framerGet s (streamKey r.unit.val r.num.val)).oof = true ∨
    (framerGet s (streamKey r.unit.val r.num.val)).errMf < oomN s r.unit.val r.num.val) :
    exec (.mfOom r) s = .next s := by
  rw [exec_mfOom, execMfOom, if_neg]
  rcases h with h | h
  · simp [h]
  · simp [h]

theorem mfIm_spec (h : (framerGet s (streamKey r.unit.val r.num.val)).oof = false)
    (ho : (framerGet s (streamKey r.unit.val r.num.val)).oom = true)
    (hg : frmProto (frmCfg s r.unit.val r.num.val) = 5 ∨
      imN s r.unit.val r.num.val ≤ (framerGet s (streamKey r.unit.val r.num.val)).goodMf) :
    exec (.mfIm r) s = .next (framerPut (streamKey r.unit.val r.num.val)
      { framerGet s (streamKey r.unit.val r.num.val) with oom := false, errMf := 0 } s) := by
  rw [exec_mfIm, execMfIm, if_pos (by simp [h, ho, hg])]

/-- A stream event after its framer was written, and the defects that follow it. -/
abbrev settledEvent (r : StreamRef) (b : Nat) (f : Framer) (s : State) : Result :=
  .next (settleDefs (frmEvent (streamKey r.unit.val r.num.val) b (framerPut (streamKey r.unit.val r.num.val) f s)))

theorem lofSet_spec (hl : frmLive (frmCfg s r.unit.val r.num.val) = true)
    (hp : frmProto (frmCfg s r.unit.val r.num.val) ≠ 4) (h : (framerGet s (streamKey r.unit.val r.num.val)).oof = true) :
    exec (.lofSet r none) s = settledEvent r 33 { framerGet s (streamKey r.unit.val r.num.val) with lof := true } s := by
  simp only [exec_lofSet, execLofSet]
  rw [if_pos (by simp [hasLof, hl, hp, h])]

theorem lofClr_spec (h : (framerGet s (streamKey r.unit.val r.num.val)).oof = false)
    (hf : (framerGet s (streamKey r.unit.val r.num.val)).lof = true) :
    exec (.lofClr r none) s = settledEvent r 32 { framerGet s (streamKey r.unit.val r.num.val) with lof := false } s := by
  simp only [exec_lofClr, execLofClr]
  rw [if_pos (by simp [h, hf])]

theorem lomSet_spec (hl : frmLive (frmCfg s r.unit.val r.num.val) = true)
    (hp : frmProto (frmCfg s r.unit.val r.num.val) ≠ 4) (hp3 : frmProto (frmCfg s r.unit.val r.num.val) ≠ 3)
    (h : (framerGet s (streamKey r.unit.val r.num.val)).oom = true) :
    exec (.lomSet r) s = settledEvent r 31 { framerGet s (streamKey r.unit.val r.num.val) with lom := true } s := by
  rw [exec_lomSet, execLomSet, if_pos (by simp [hasMf, hasLof, hl, hp, hp3, h])]

theorem lomClr_spec (h : (framerGet s (streamKey r.unit.val r.num.val)).oom = false)
    (hf : (framerGet s (streamKey r.unit.val r.num.val)).lom = true) :
    exec (.lomClr r) s = settledEvent r 30 { framerGet s (streamKey r.unit.val r.num.val) with lom := false } s := by
  rw [exec_lomClr, execLomClr, if_pos (by simp [h, hf])]

/-! ### LOF of one logical lane (R108) -/

theorem laneLofSet_spec {k lane : Nat} {on : Bool} (hs : Safety.tablesOk s = true) :
    let t := laneLofSet k lane on s
    (framerGet t k).laneLof.testBit lane = on ∧
      framerGet t k = { framerGet s k with laneLof := (framerGet t k).laneLof } ∧ keeps framerGet s t [k] ∧
      t = { s with framers := t.framers } := by
  intro t
  obtain ⟨m, hm, h⟩ : ∃ m : Nat, m.testBit lane = on ∧ FrmWork k s t { framerGet s k with laneLof := m } := by
    refine ⟨_, ?_, (FrmWork.refl hs).framerPut _⟩
    cases on with
    | true => exact testBit_with _ _
    | false => exact testBit_without _ _
  refine ⟨?_, ?_, h.framers, h.rest⟩
  · rw [h.framer]
    exact hm
  · rw [h.framer]

theorem lofSet_lane {lane : Fin 20} (hs : Safety.tablesOk s = true) (hp : frmProto (frmCfg s r.unit.val r.num.val) = 1)
    (h : (trackerGet s (trackerKey r.unit.val r.num.val lane.val)).inFrame = false) :
    let k := streamKey r.unit.val r.num.val
    reaches (exec (.lofSet r (some lane)) s) fun t => (framerGet t k).laneLof.testBit lane.val = true ∧
      framerGet t k = { framerGet s k with laneLof := (framerGet t k).laneLof } ∧ keeps framerGet s t [k] ∧
      t = { s with framers := t.framers } := by
  intro k
  refine ⟨laneLofSet k lane.val true s, ?_, laneLofSet_spec hs⟩
  simp only [exec_lofSet, execLofSet]
  rw [if_pos (by simp [hp, h])]

theorem lofClr_lane {lane : Fin 20} (hs : Safety.tablesOk s = true)
    (h : (trackerGet s (trackerKey r.unit.val r.num.val lane.val)).inFrame = true) :
    let k := streamKey r.unit.val r.num.val
    reaches (exec (.lofClr r (some lane)) s) fun t => (framerGet t k).laneLof.testBit lane.val = false ∧
      framerGet t k = { framerGet s k with laneLof := (framerGet t k).laneLof } ∧ keeps framerGet s t [k] ∧
      t = { s with framers := t.framers } := by
  intro k
  refine ⟨laneLofSet k lane.val false s, ?_, laneLofSet_spec hs⟩
  simp only [exec_lofClr, execLofClr]
  rw [if_pos h]

end Timers

/-! ### Lane alignment (R117, R119) -/

/-- Skew, arrivals and locked members as LOL_CHANGE measures them. -/
def measured (f : Framer) (skew late early locked : Nat) : Framer :=
  { f with skew := skew, latest := late % 64, earliest := early % 64, laneLock := locked % 2 ^ 32 }

/-- What LOL_CHANGE stores before it judges: the measured values, and the events of a wrong identity or a high skew. -/
def lolMeasured (k : Nat) (idOk : Bool) (skew late early locked : Nat) (s : State) : State :=
  let s := framerPut k (measured (framerGet s k) skew late early locked) s
  let s := if idOk then s else frmEvent k 24 s
  if skew > 180 then frmEvent k 25 s else s

section Alignment
variable {r : StreamRef} {skew late early locked : Nat} {idOk : Bool} {s : State}

theorem lolChange_eq :
    let u := r.unit.val
    let n := r.num.val
    let k := streamKey u n
    let x := lolMeasured k idOk skew late early locked s
    let lol := !(frmProto (frmCfg x u n) == 4) && (!idOk || decide (skew > 180) || !allInFrame x u n (laneMembers x u n))
    exec (.lolChange r idOk skew late early locked) s = .next (
      if lol && !(framerGet x k).lol then
        settleDefs (refreshStream oduDepth u n (closeFrameLayer u n
          (frmEvent k 29 (framerPut k { framerGet x k with lol := true } x))))
      else if !lol && (framerGet x k).lol then
        settleDefs (refreshStream oduDepth u n (framerPut k { framerGet x k with lol := false } x))
      else x) := by
  rw [exec_lolChange]
  rfl

theorem lolMeasured_spec {k : Nat} (hs : Safety.tablesOk s = true) (hk : skew ≤ 180) :
    FrmWork k s (lolMeasured k true skew late early locked s) (measured (framerGet s k) skew late early locked) ∧
      FrmWork k s (lolMeasured k false skew late early locked s) { measured (framerGet s k) skew late early locked with
        events := Nat.lor (framerGet s k).events (2 ^ 24) } := by
  have h := (FrmWork.refl (k := k) hs).framerPut (measured (framerGet s k) skew late early locked)
  have hhigh : ¬ skew > 180 := by omega
  simp only [lolMeasured, if_neg hhigh, if_true, Bool.false_eq_true, if_false]
  exact ⟨h, h.frmEvent 24⟩

theorem lolChange_lost (hs : Safety.tablesOk s = true) (hf : (framerGet s (streamKey r.unit.val r.num.val)).lol = false)
    (hp : frmProto (frmCfg s r.unit.val r.num.val) ≠ 4) (hk : skew ≤ 180) (hid : idOk = false) :
    let u := r.unit.val
    let n := r.num.val
    let k := streamKey u n
    let f := framerGet s k
    ∃ x, exec (.lolChange r idOk skew late early locked) s =
        .next (settleDefs (refreshStream oduDepth u n (closeFrameLayer u n x))) ∧
      framerGet x k = { f with
        skew := skew, latest := late % 64, earliest := early % 64, laneLock := locked % 2 ^ 32, lol := true,
        events := Nat.lor (Nat.lor f.events (2 ^ 24)) (2 ^ 29) } ∧
      keeps framerGet s x [k] ∧ x = { s with framers := x.framers } := by
  intro u n k f
  subst hid
  obtain ⟨-, hx⟩ := lolMeasured_spec (k := k) (late := late) (early := early) (locked := locked) hs hk
  have hlol := (hx.framerPut { framerGet (lolMeasured k false skew late early locked s) k with lol := true }).frmEvent 29
  have hproto : frmProto (frmCfg (lolMeasured k false skew late early locked s) u n) ≠ 4 := by
    rw [hx.frmCfg]
    exact hp
  have hlol0 : (framerGet (lolMeasured k false skew late early locked s) k).lol = false := by
    rw [hx.framer]
    exact hf
  refine ⟨_, ?_, ?_, hlol.framers, hlol.rest⟩
  · rw [lolChange_eq, if_pos]
    change (!(frmProto (frmCfg (lolMeasured k false skew late early locked s) u n) == 4) && _ &&
      !(framerGet (lolMeasured k false skew late early locked s) k).lol) = true
    rw [hlol0]
    simp [hproto]
  · rw [hlol.framer, hx.framer]
    rfl

theorem lolChange_found (hs : Safety.tablesOk s = true) (hf : (framerGet s (streamKey r.unit.val r.num.val)).lol = true)
    (hk : skew ≤ 180) (hid : idOk = true)
    (ha : allInFrame s r.unit.val r.num.val (laneMembers s r.unit.val r.num.val) = true) :
    let u := r.unit.val
    let n := r.num.val
    let k := streamKey u n
    let f := framerGet s k
    ∃ x, exec (.lolChange r idOk skew late early locked) s = .next (settleDefs (refreshStream oduDepth u n x)) ∧
      framerGet x k = { f with
        skew := skew, latest := late % 64, earliest := early % 64, laneLock := locked % 2 ^ 32, lol := false } ∧
      keeps framerGet s x [k] ∧ x = { s with framers := x.framers } := by
  intro u n k f
  subst hid
  obtain ⟨hx, -⟩ := lolMeasured_spec (k := k) (late := late) (early := early) (locked := locked) hs hk
  have hlol := hx.framerPut { framerGet (lolMeasured k true skew late early locked s) k with lol := false }
  have hhigh : ¬ skew > 180 := by omega
  have hall : allInFrame (lolMeasured k true skew late early locked s) u n
      (laneMembers (lolMeasured k true skew late early locked s) u n) = true := by
    rw [laneMembers_congr hx.cw, allInFrame_congr hx.trackers]
    exact ha
  have hlol0 : (framerGet (lolMeasured k true skew late early locked s) k).lol = true := by
    rw [hx.framer]
    exact hf
  refine ⟨_, ?_, ?_, hlol.framers, hlol.rest⟩
  · rw [lolChange_eq, if_neg, if_pos]
    · rw [hall, hlol0]
      simp [hhigh]
    · rw [hall]
      simp [hhigh]
  · rw [hlol.framer, hx.framer]
    rfl

/-! ### A PHY of an Ethernet or FlexE stream (R114, R115) -/

theorem pcsAlignStatus_up {phy : Fin 8} (hs : Safety.tablesOk s = true) :
    let u := r.unit.val
    let n := r.num.val
    let k := streamKey u n
    ∃ x, exec (.pcsAlignStatus r phy true locked) s = .next (refreshStream oduDepth u n x) ∧
      (framerGet x k).aligned.testBit phy.val = true ∧ keeps framerGet s x [k] ∧ x = { s with framers := x.framers } := by
  intro u n k
  obtain ⟨f, hf, hexec⟩ : ∃ f : Framer, f.aligned.testBit phy.val = true ∧
      exec (.pcsAlignStatus r phy true locked) s = .next (refreshStream oduDepth u n (framerPut k f s)) := by
    rw [exec_pcsAlignStatus, execPcsAlignStatus]
    simp only [Bool.not_true, Bool.and_false, Bool.false_eq_true, if_false, if_true]
    exact ⟨_, testBit_with _ _, rfl⟩
  have h := (FrmWork.refl (k := k) hs).framerPut f
  exact ⟨_, hexec, by rw [h.framer]; exact hf, h.framers, h.rest⟩

end Alignment

/-! ### Lanes reaching and leaving READY (R61, R103) -/

section Ready
variable {l : LaneRef} {eq : List Word} {snr : Fin 256} {lost sig : Bool} {s : State}

theorem adaptEq_moves {sd lane : Nat} {vs : List Word} (h : LanesOk s) :
    ∃ e, eqMoved (laneKey sd lane) s (adaptEq sd lane vs s) e := by
  unfold adaptEq
  refine List.foldlRecOn (motive := fun t => ∃ e, eqMoved (laneKey sd lane) s t e) _ _ ⟨_, eqMoved_refl h⟩ ?_
  rintro t ⟨e, ht⟩ off -
  dsimp only
  split
  · exact ⟨_, ht.eqPut⟩
  · exact ⟨_, ht⟩

theorem laneAdaptDone_spec (hs : Safety.tablesOk s = true) :
    let sd := sideNum l.side
    let kl := laneKey sd l.lane.val
    (laneGet s kl).st = .adapt → ∃ x, exec (.laneAdaptDone l eq snr) s =
        .next ((streamsOfLane x sd l.lane.val).foldl (fun s p => releaseStream p.1 p.2 s) x) ∧
      (laneGet x kl).st = .ready ∧ (laneGet x kl).snr = snr.val ∧ keeps laneGet s x [kl] ∧
      x = { s with lanes := x.lanes } := by
  intro sd kl hv
  have hready := (LaneWork.refl (k := kl) (as := []) hs).lanePut { laneGet s kl with st := .ready, snr := snr.val }
  obtain ⟨e, he⟩ := adaptEq_moves (sd := sd) (lane := l.lane.val) (vs := eq) hready.lanesOk
  have h := hready.eqMoved he
  exact ⟨_, by rw [exec_laneAdaptDone, execLaneAdaptDone, if_pos hv], congrArg Lane.st h.lane, congrArg Lane.snr h.lane,
    h.lanes, h.rest_lanes he.cw⟩

theorem laneAdaptDone_idle (h : (laneGet s (laneKey (sideNum l.side) l.lane.val)).st ≠ .adapt) :
    exec (.laneAdaptDone l eq snr) s = .next s := by
  rw [exec_laneAdaptDone, execLaneAdaptDone, if_neg h]

/-- A lane that has left READY, with what it lost. -/
def fallen (v : Lane) (lost sig : Bool) : Lane :=
  { v with
    st := if v.st = .ready || v.st = .adapt || v.st = .training then .cdrAcq else v.st,
    cdrLock := v.cdrLock && !lost, sigDet := v.sigDet && !sig }

theorem laneDown_eq : let sd := sideNum l.side
    let kl := laneKey sd l.lane.val
    let x := lanePut kl (fallen (laneGet s kl) lost sig) s
    exec (.laneDown l lost sig) s = .next (laneLeft sd l.lane.val (
      if lost && (laneGet s kl).cdrLock then cenInc (16 + l.lane.val / 16) (laneEvent sd l.lane.val 35 x) else x)) := by
  rw [exec_laneDown]
  rfl

theorem cenInc_lanes (n : Nat) (s : State) : (cenInc n s).lanes = s.lanes :=
  cenInc_frame (π := State.lanes) (fun _ _ => rfl) (fun _ _ => rfl) (fun _ _ => rfl) (fun _ _ => rfl) n s rfl

theorem laneDown_spec (hs : Safety.tablesOk s = true) :
    let sd := sideNum l.side
    let kl := laneKey sd l.lane.val
    let v := laneGet s kl
    ∃ x, exec (.laneDown l lost sig) s = .next (laneLeft sd l.lane.val x) ∧
      (v.st = .ready → (laneGet x kl).st = .cdrAcq) ∧ (laneGet x kl).cdrLock = (v.cdrLock && !lost) ∧
      (laneGet x kl).sigDet = (v.sigDet && !sig) ∧ keeps laneGet s x [kl] ∧
      (lost = true → v.cdrLock = true → (cwGet x (laneAddr sd l.lane.val 2)).getLsbD 35 = true) ∧
      (lost = false → x = { s with lanes := x.lanes }) := by
  intro sd kl v
  have hdown := (LaneWork.refl (k := kl) (as := [laneAddr sd l.lane.val 2]) hs).lanePut (fallen v lost sig)
  have hst : v.st = .ready → (fallen v lost sig).st = .cdrAcq := fun h => by simp [fallen, h]
  by_cases hc : (lost && v.cdrLock) = true
  · have hev := hdown.laneEvent 35 (List.mem_singleton_self _)
    have hlanes := laneGet_congr (cenInc_lanes (16 + l.lane.val / 16)
      (laneEvent sd l.lane.val 35 (lanePut kl (fallen v lost sig) s)))
    have hlane := (hlanes kl).trans hev.lane
    refine ⟨_, by rw [laneDown_eq, if_pos hc], fun h => (congrArg Lane.st hlane).trans (hst h),
      congrArg Lane.cdrLock hlane, congrArg Lane.sigDet hlane, fun j hj => (hlanes j).trans (hev.lanes j hj), ?_, ?_⟩
    · intro _ _
      rw [cwGet_cenInc_ne (ne_of_class ?_)]
      · exact hdown.getLsbD_laneEvent (by decide)
      · rw [laneAddr_div (sideNum_le _) l.lane.isLt (by decide), ctlAddr_div (by decide) (by omega)]
        decide
    · rintro rfl
      simp at hc
  · refine ⟨_, by rw [laneDown_eq, if_neg hc], fun h => (congrArg Lane.st hdown.lane).trans (hst h),
      congrArg Lane.cdrLock hdown.lane, congrArg Lane.sigDet hdown.lane, hdown.lanes, ?_, fun _ => rfl⟩
    intro hl hv
    exact absurd (by rw [hl, hv]; rfl) hc

end Ready

/-- Settles O22: the multiframe process and its timers, lane alignment, and lanes at READY, each by its rule. -/
theorem alignmentTimersAndLanes : Obligations.AlignmentTimersAndLanes := by
  unfold Obligations.AlignmentTimersAndLanes
  intro r lane phy locked skew late early idOk lost sig l eq snr s hs u n k f proto live sets sd kl v
  exact ⟨mfOom_of_errors, mfOom_idle, mfIm_spec, lofSet_spec, lofClr_spec, lomSet_spec, lomClr_spec, lofSet_lane hs,
    lofClr_lane hs, lolChange_lost hs, lolChange_found hs, pcsAlignStatus_up hs, laneAdaptDone_spec hs, laneAdaptDone_idle,
    laneDown_spec hs⟩

end Sys2Proof.Machine
end

section
/-! PROOFS. O20: set-up words of a stream, their checks and what they restart, and the words of FEC. -/

namespace Sys2Proof.Machine

/-! ### Trackers -/

theorem trackerGet_congr {s t : State} (h : t.trackers = s.trackers) (k : Nat) : trackerGet t k = trackerGet s k := by
  unfold trackerGet
  rw [h]

/-- Trackers dropped by their key: the dropped ones read as reset, the others as before. -/
theorem trackerGet_filter (q : Nat → Bool) (s : State) (k : Nat) :
    trackerGet (s.putTrackers (s.trackers.filter fun e => q e.1)) k = if q k then trackerGet s k else {} := by
  unfold trackerGet
  exact tabGet_filter_key _ q k s.trackers

theorem trackerGet_closeAll {u n m : Nat} {s : State} (hm : m < 64) : trackerGet (closeAll u n s) (trackerKey u n m) = {} := by
  have h := trackerGet_filter (fun i => decide (i / 64 ≠ streamKey u n)) s (trackerKey u n m)
  have hkey : trackerKey u n m / 64 = streamKey u n := by
    unfold trackerKey
    omega
  rw [if_neg (by simp [hkey])] at h
  exact h

/-- Refreshing a stream opens no tracker. -/
theorem refreshStream_keeps_closed {k : Nat} (d : Nat) :
    ∀ {u n : Nat} {s : State}, trackerGet s k = {} → trackerGet (refreshStream d u n s) k = {} := by
  have hput : ∀ (j : Nat) (f : Framer) (t : State), trackerGet t k = {} → trackerGet (framerPut j f t) k = {} :=
    fun j f t ht => (trackerGet_congr (t := framerPut j f t) rfl k).trans ht
  induction d with
  | zero => exact fun h => h
  | succ d ih =>
    intro u n s h
    unfold refreshStream
    dsimp only
    split
    · refine List.foldlRecOn (motive := fun t => trackerGet t k = {}) _ _ (hput _ _ _ (hput _ _ _ h)) fun t ht c _ => ?_
      exact ih (hput _ _ _ ht)
    · split
      · refine List.foldlRecOn (motive := fun t => trackerGet t k = {}) _ _ ?_ fun t ht c _ => ih (hput _ _ _ ?_)
        · refine (trackerGet_congr ?_ k).trans h
          exact resetRunsUnder_frame (π := State.trackers) (fun _ _ => rfl) _ _ _ rfl
        · rw [trackerGet_filter fun i => decide (i / 64 ≠ streamKey c.1 c.2), ht, ite_self]
      · exact hput _ _ _ h

/-! ### A stream that is not aligned stays out of multiframe -/

/-- The framers are canonical, and one of them is out of multiframe. -/
def OutOfMf (k : Nat) (s : State) : Prop := FramersOk s ∧ (framerGet s k).oom = true

theorem OutOfMf.congr {k : Nat} {s t : State} (h : OutOfMf k s) (ht : t.framers = s.framers) : OutOfMf k t := by
  unfold OutOfMf FramersOk framerGet at *
  rw [ht]
  exact h

theorem OutOfMf.framerPut {k j : Nat} {f : Framer} {s : State} (h : OutOfMf k s) (hf : f.oom = (framerGet s j).oom) :
    OutOfMf k (framerPut j f s) := by
  obtain ⟨hok, hoom⟩ := h
  refine ⟨tabSet_ok' hok, ?_⟩
  by_cases hj : k = j
  · subst hj
    rw [framerGet_framerPut hok, hf]
    exact hoom
  · exact (congrArg Framer.oom (tabGet_tabSet_ne hj)).trans hoom

theorem streamUp_lanesDown {u n : Nat} {f : Framer} {s : State} (h : FramersOk s) (hf : f.lanesDown = true) :
    streamUp (framerPut (streamKey u n) f s) u n = false := by
  unfold streamUp
  simp [framerGet_framerPut h, hf]

/-- Refreshing a stream that is not aligned clears no OOM: the streams under it are held with it. -/
theorem OutOfMf.refreshStream {k : Nat} (d : Nat) :
    ∀ {u n : Nat} {s : State}, OutOfMf k s → streamUp s u n = false → OutOfMf k (refreshStream d u n s) := by
  induction d with
  | zero => exact fun h _ => h
  | succ d ih =>
    intro u n s h hup
    unfold Machine.refreshStream
    simp only [hup, Bool.false_and, Bool.false_eq_true, if_false, Bool.not_false, Bool.true_and]
    split
    · refine List.foldlRecOn (motive := OutOfMf k) _ _ ?_ fun t ht c _ => ?_
      · refine (h.framerPut ?_).congr (resetRunsUnder_frame (π := State.framers) (fun _ _ => rfl) _ _ _ rfl)
        rfl
      · have hclosed : OutOfMf k (t.putTrackers (t.trackers.filter fun e => decide (e.1 / 64 ≠ streamKey c.1 c.2))) :=
          ht.congr rfl
        exact ih (hclosed.framerPut rfl) (streamUp_lanesDown hclosed.1 rfl)
    · exact h.framerPut rfl

/-! ### What a set-up write does (R94, R95) -/

/-- The test functions on the lanes of a stream end after a write to word 0, 1 or 2 (R82). -/
def frmProbe (u n w : Nat) (s : State) : State :=
  if w ≤ 2 then (lanesOf (frmLanes s u n)).foldl (fun z lane => preemptTest (fld (frmCfg s u n) 30 30) lane z) s else s

/-- A write to a set-up word changes what restarts alignment (R95). -/
def frmChanged (w : Nat) (old new : Word) : Bool :=
  if w = 0 then restartBits old != restartBits new else w ≤ 3 && old != new

/-- A stream that a write ended: its candidates closed, its defects cleared. -/
def frmEnd (u n : Nat) (s : State) : State :=
  settleDefs (refreshStream oduDepth u n (framerPut (streamKey u n)
    { framerGet s (streamKey u n) with los := false, lof := false, lom := false, lol := false, oom := true } (closeAll u n s)))

section Apply
variable {u n w st : Nat} {v : Word} {plan s t : State}

theorem applyFrm_error (h : streamStatus plan u n = st) (h0 : st ≠ 0) : applyFrm plan u n w v s = .error st := by
  subst h
  exact if_pos h0

section Stored
variable (h : streamStatus plan u n = 0) (ht : frmStore u n w v s = t)
include h ht

theorem applyFrm_dead (hl : frmLive (frmCfg t u n) = false) (hw : frmLive (frmCfg s u n) = false) :
    applyFrm plan u n w v s = .ok t := by
  subst ht
  simp only [applyFrm, h, hl, hw, ne_eq, not_true_eq_false, if_false, Bool.not_false, if_true, Bool.false_eq_true]

theorem applyFrm_ended (hl : frmLive (frmCfg t u n) = false) (hw : frmLive (frmCfg s u n) = true) :
    applyFrm plan u n w v s = .ok (frmEnd u n t) := by
  subst ht
  simp only [applyFrm, h, hl, hw, ne_eq, not_true_eq_false, if_false, Bool.not_false, if_true]
  rfl

theorem applyFrm_live (hl : frmLive (frmCfg t u n) = true) :
    applyFrm plan u n w v s = .ok (frmProbe u n w (if !frmLive (frmCfg s u n) ||
      frmChanged w (cwGet s (frmAddr u n w)) (cwGet t (frmAddr u n w)) then restartStream u n t else t)) := by
  subst ht
  have hlive : ¬ (!frmLive (frmCfg (frmStore u n w v s) u n)) = true := by simp [hl]
  unfold applyFrm
  rw [if_neg (not_not_intro h)]
  exact if_neg hlive

end Stored

/-- A stream that a write ended keeps its words, has no candidate and is out of multiframe. -/
theorem frmEnd_spec (hf : FramersOk s) (hl : frmLive (frmCfg s u n) = false) :
    (frmEnd u n s).cw = s.cw ∧ (∀ m, m < 64 → trackerGet (frmEnd u n s) (trackerKey u n m) = {}) ∧
      (framerGet (frmEnd u n s) (streamKey u n)).oom = true := by
  unfold frmEnd
  generalize hx : framerPut (streamKey u n) { framerGet s (streamKey u n) with
    los := false, lof := false, lom := false, lol := false, oom := true } (closeAll u n s) = x
  have hcw : x.cw = s.cw := by rw [← hx]; rfl
  have hclosed : ∀ m, m < 64 → trackerGet x (trackerKey u n m) = {} := fun m hm =>
    (trackerGet_congr (by rw [← hx]; rfl) _).trans (trackerGet_closeAll (s := s) hm)
  have hoom : OutOfMf (streamKey u n) x := by
    rw [← hx]
    exact ⟨tabSet_ok' hf, congrArg Framer.oom (framerGet_framerPut hf)⟩
  have hup : streamUp x u n = false := by
    unfold streamUp
    simp only [frmCfg_congr hcw, hl, Bool.false_and]
  generalize hy : refreshStream oduDepth u n x = y
  have hycw : y.cw = s.cw := by
    rw [← hy]
    exact refreshStream_frame (π := State.cw) (fun _ _ => rfl) (fun _ _ => rfl) (fun _ _ => rfl) _ _ _ _ hcw
  refine ⟨settleDefs_frame (π := State.cw) (fun _ _ => rfl) (fun _ _ => rfl) (fun _ _ => rfl) _ hycw, fun m hm => ?_, ?_⟩
  · refine (trackerGet_congr
      (settleDefs_frame (π := State.trackers) (fun _ _ => rfl) (fun _ _ => rfl) (fun _ _ => rfl) _ rfl) _).trans ?_
    rw [← hy]
    exact refreshStream_keeps_closed _ (hclosed m hm)
  · have hyoom : OutOfMf (streamKey u n) y := hy ▸ hoom.refreshStream _ hup
    exact (hyoom.congr
      (settleDefs_frame (π := State.framers) (fun _ _ => rfl) (fun _ _ => rfl) (fun _ _ => rfl) _ rfl)).2

end Apply

/-! ### FRM_CFG -/

section Setup
variable {r : StreamRef} {w : FrmWrite} {ws : List FrmWrite} {s : State}

/-- The writes of a window to a stream whose set-up would break a rule are all refused. -/
theorem frmCfg_refused {st : Nat} (hst : streamStatus (frmPlan r.unit.val r.num.val ws s) r.unit.val r.num.val = st)
    (h0 : st ≠ 0) :
    exec (.frmCfg r ws) s = .next (ws.foldl (fun x y =>
      refuse y.origin st .word (frmAddr r.unit.val r.num.val y.word.val) x) s) := by
  rw [exec_frmCfg, execFrmCfg]
  refine congrArg _ (List.foldl_ext _ _ _ fun x y _ => ?_)
  exact congrArg (settle y.origin .word (frmAddr r.unit.val r.num.val y.word.val) x) (applyFrm_error hst h0)

/-- The state in which one set-up write is stored. -/
def frmStored (r : StreamRef) (w : FrmWrite) (s : State) : State :=
  frmStore r.unit.val r.num.val w.word.val w.value s

theorem cwGet_frmStored (hs : Safety.tablesOk s = true) : cwGet (frmStored r w s) (frmAddr r.unit.val r.num.val w.word.val) =
    frmValue (frmProto (frmCfg s r.unit.val r.num.val)) w.word.val w.value := cwGet_cwSet (tablesOk_cw hs)

theorem frmCfg_single : exec (.frmCfg r [w]) s =
    .next (settle w.origin .word (frmAddr r.unit.val r.num.val w.word.val) s
      (applyFrm (frmStored r w s) r.unit.val r.num.val w.word.val w.value s)) := by
  rw [exec_frmCfg]
  rfl

theorem frmProbe_word (u n : Nat) (i : Fin 4) (x : State) : frmProbe u n i.val x = if i.val = 3 then x
    else (lanesOf (frmLanes x u n)).foldl (fun z lane => preemptTest (fld (frmCfg x u n) 30 30) lane z) x := by
  unfold frmProbe
  by_cases h : i.val = 3
  · rw [if_pos h, if_neg (by omega)]
  · rw [if_neg h, if_pos (by omega)]

section Sound
variable (hst : streamStatus (frmStored r w s) r.unit.val r.num.val = 0)
include hst

theorem frmCfg_dead (hw : frmLive (frmCfg s r.unit.val r.num.val) = false)
    (hl : frmLive (frmCfg (frmStored r w s) r.unit.val r.num.val) = false) (hs : Safety.tablesOk s = true) :
    let a := frmAddr r.unit.val r.num.val w.word.val
    applies w.origin .word a s (exec (.frmCfg r [w]) s) fun t =>
      cwGet t a = frmValue (frmProto (frmCfg s r.unit.val r.num.val)) w.word.val w.value ∧ cwKept s t [a] ∧
        t = { s with cw := t.cw } := by
  intro a
  rw [frmCfg_single, applyFrm_dead hst rfl hl hw]
  exact applies_ok (cwSet_spec hs)

theorem frmCfg_ended (hw : frmLive (frmCfg s r.unit.val r.num.val) = true)
    (hl : frmLive (frmCfg (frmStored r w s) r.unit.val r.num.val) = false) (hs : Safety.tablesOk s = true) :
    let u := r.unit.val
    let n := r.num.val
    let a := frmAddr u n w.word.val
    applies w.origin .word a s (exec (.frmCfg r [w]) s) fun t =>
      cwGet t a = frmValue (frmProto (frmCfg s u n)) w.word.val w.value ∧
        (∀ m, m < 64 → trackerGet t (trackerKey u n m) = {}) ∧ (framerGet t (streamKey u n)).oom = true := by
  intro u n a
  rw [frmCfg_single, applyFrm_ended hst rfl hl hw]
  obtain ⟨hcw, hclosed, hoom⟩ := frmEnd_spec (s := frmStored r w s) (tablesOk_framers (s := s) hs) hl
  exact applies_ok ⟨(cwGet_congr hcw a).trans (cwGet_frmStored hs), hclosed, hoom⟩

/-- A write to a live stream: its alignment restarts where the stream became live or its set-up changed. -/
theorem frmCfg_live (hl : frmLive (frmCfg (frmStored r w s) r.unit.val r.num.val) = true) (hs : Safety.tablesOk s = true) :
    let u := r.unit.val
    let n := r.num.val
    let a := frmAddr u n w.word.val
    applies w.origin .word a s (exec (.frmCfg r [w]) s) fun t => t = frmProbe u n w.word.val
      (if !frmLive (frmCfg s u n) || frmChanged w.word.val (cwGet s a)
          (frmValue (frmProto (frmCfg s u n)) w.word.val w.value)
        then restartStream u n (frmStored r w s) else frmStored r w s) := by
  intro u n a
  rw [frmCfg_single, applyFrm_live hst (show _ = frmStored r w s from rfl) hl, cwGet_frmStored hs]
  exact applies_ok rfl

end Sound

theorem frmChanged_iff {i : Fin 4} {old new : Word} : frmChanged i.val old new = true ↔
    (i.val = 0 ∧ restartBits old ≠ restartBits new) ∨ (i.val ≠ 0 ∧ old ≠ new) := by
  unfold frmChanged
  have hle : i.val ≤ 3 := by omega
  by_cases h : i.val = 0
  · simp [h]
  · simp [h, hle]

end Setup

/-! ### FRM_THR and FRM_TIME (R96) -/

theorem frmAddr_ne {u n j j' : Nat} (h : j ≠ j') : frmAddr u n j ≠ frmAddr u n j' := by
  unfold frmAddr ctlAddr
  omega

/-- A threshold or time word restarts nothing and ends no test function. -/
theorem applyFrm_threshold {u n j : Nat} {v : Word} {plan s : State} (h : streamStatus plan u n = 0) (hj : 3 < j) :
    applyFrm plan u n j v s = .ok (frmStore u n j v s) := by
  have hcfg : frmCfg (frmStore u n j v s) u n = frmCfg s u n := cwGet_cwSet_ne (frmAddr_ne (by omega))
  cases hl : frmLive (frmCfg s u n) with
  | false => exact applyFrm_dead h rfl (by rw [hcfg, hl]) hl
  | true =>
    have hsame : ∀ old new, frmChanged j old new = false := fun old new => by
      rw [frmChanged, if_neg (by omega), decide_eq_false (by omega), Bool.false_and]
    rw [applyFrm_live h rfl (by rw [hcfg, hl]), hl, hsame, frmProbe, if_neg (by omega)]
    rfl

section Thresholds
variable {r : StreamRef} {c : CtlWrite} {s : State}

theorem frmThreshold_spec (hs : Safety.tablesOk s = true) (j : Nat) (hj : j = 4 ∨ j = 5) :
    let u := r.unit.val
    let n := r.num.val
    let aj := frmAddr u n j
    let vj := frmValue (frmProto (frmCfg s u n)) j c.value
    let x := exec (if j = 4 then .frmThr r c else .frmTime r c) s
    (streamStatus (cwSet aj vj s) u n ≠ 0 → x = .next (refuse c.origin (streamStatus (cwSet aj vj s) u n) .word aj s)) ∧
    (streamStatus (cwSet aj vj s) u n = 0 → applies c.origin .word aj s x fun t =>
      cwGet t aj = vj ∧ cwKept s t [aj] ∧ t = { s with cw := t.cw }) := by
  intro u n aj vj x
  have hx : x = .next (settle c.origin .word aj s (applyFrm (cwSet aj vj s) u n j c.value s)) := by
    obtain rfl | rfl := hj
    · exact exec_frmThr _ _ _
    · exact exec_frmTime _ _ _
  refine ⟨fun h => ?_, fun h => ?_⟩
  · rw [hx, applyFrm_error rfl h]
    rfl
  · rw [hx, applyFrm_threshold h (by omega)]
    exact applies_ok (cwSet_spec hs)

end Thresholds

/-! ### Counts cleared -/

theorem frmCntClr_spec {r : StreamRef} {s : State} (hs : Safety.tablesOk s = true) :
    let k := streamKey r.unit.val r.num.val
    reaches (exec (.frmCntClr r) s) fun t =>
      framerGet t k = { framerGet s k with mimics := 0, oofCnt := 0, ties := 0, ovf := 0 } ∧ keeps framerGet s t [k] ∧
        t = { s with framers := t.framers } := by
  intro k
  have h := (FrmWork.refl (k := k) hs).framerPut { framerGet s k with mimics := 0, oofCnt := 0, ties := 0, ovf := 0 }
  exact ⟨_, exec_frmCntClr _ _, h.framer, h.framers, h.rest⟩

/-- Control words of a list cleared, nothing else changed. -/
structure WordsCleared (as : List Nat) (s t : State) : Prop where
  cleared : ∀ a ∈ as, cwGet t a = 0
  kept : cwKept s t as
  rest : t = { s with cw := t.cw }
  ok : tabWf cwReset t.cw = true

theorem wordsCleared_foldl {f : Nat → Nat} {s : State} (l : List Nat) :
    ∀ {as : List Nat} {t : State}, WordsCleared as s t →
      WordsCleared (as ++ l.map f) s (l.foldl (fun s i => cwSet (f i) 0 s) t) := by
  induction l with
  | nil => exact fun h => by simpa using h
  | cons i l ih =>
    intro as t h
    have hstep : WordsCleared (as ++ [f i]) s (cwSet (f i) 0 t) := by
      refine ⟨fun a ha => ?_, fun a ha => ?_, only_trans (put := State.putCw) (get := State.cw) (fun _ _ _ => rfl) h.rest rfl,
        cwSet_ok h.ok⟩
      · by_cases hi : a = f i
        · rw [hi]
          exact cwGet_cwSet h.ok
        · rw [cwGet_cwSet_ne hi]
          exact h.cleared a (by simpa [hi] using ha)
      · rw [List.mem_append, not_or] at ha
        rw [cwGet_cwSet_ne (by simpa using ha.2)]
        exact h.kept a ha.1
    simpa using ih hstep

theorem fecCntClr_spec {l : LaneRef} {s : State} (hs : Safety.tablesOk s = true) :
    let fec := fecAddr (sideNum l.side) l.lane.val
    reaches (exec (.fecCntClr l) s) fun t => (∀ j, j < 4 → cwGet t (fec (16 + j)) = 0) ∧
      cwKept s t ((List.range 4).map fun j => fec (16 + j)) ∧ t = { s with cw := t.cw } := by
  intro fec
  have h := wordsCleared_foldl (f := fun j => fec (16 + j)) (List.range 4)
    (as := []) (t := s) ⟨by simp, fun _ _ => rfl, rfl, tablesOk_cw hs⟩
  refine ⟨_, exec_fecCntClr _ _, fun j hj => h.cleared _ ?_, h.kept, h.rest⟩
  exact List.mem_map_of_mem (List.mem_range.2 hj)

/-! ### FEC_CFG (R66) -/

theorem fecModeOk_iff {s : State} {sd lane mode : Nat} : fecModeOk s sd lane mode = true ↔
    let rate := laneRate (laneCfg s sd lane)
    mode ≠ 3 ∧ fecRateOk mode rate = true ∧
      ∀ p ∈ anchoredStreams s sd lane, shapeFec (frmProto (frmCfg s p.1 p.2)) rate = mode := by
  simp [fecModeOk, and_assoc]

theorem fecCfg_spec {l : LaneRef} {c : CtlWrite} {s : State} (hs : Safety.tablesOk s = true) :
    let sd := sideNum l.side
    let a := fecAddr sd l.lane.val 0
    let mode := fld c.value 35 34
    let rate := laneRate (laneCfg s sd l.lane.val)
    let suits := mode ≠ 3 ∧ fecRateOk mode rate = true ∧
      ∀ p ∈ anchoredStreams s sd l.lane.val, shapeFec (frmProto (frmCfg s p.1 p.2)) rate = mode
    (¬ suits → exec (.fecCfg l c) s = .next (refuse c.origin 0x22 .word a s)) ∧
    (suits → applies c.origin .word a s (exec (.fecCfg l c) s) fun t =>
      cwGet t a = (c.value &&& 0xF00000000) ∧ cwKept s t [a] ∧ t = { s with cw := t.cw }) := by
  intro sd a mode rate suits
  have hiff : fecModeOk s sd l.lane.val mode = true ↔ suits := fecModeOk_iff
  rw [exec_fecCfg, execFecCfg, applyFecCfg]
  refine ⟨fun h => ?_, fun h => ?_⟩
  · rw [Bool.eq_false_iff.2 (mt hiff.1 h)]
    rfl
  · rw [hiff.2 h]
    exact applies_ok (cwSet_spec hs)

/-- Settles O20: a set-up write judged by its plan, stored, and what it ends or restarts; thresholds, counts and FEC. -/
theorem streamSetUp : Obligations.StreamSetUp := by
  unfold Obligations.StreamSetUp
  intro r w ws c l s hs u n k a new plan fec st probe
  refine ⟨frmCfg_refused rfl, fun hst hw hl => frmCfg_dead hst hw hl hs, fun hst hw hl => frmCfg_ended hst hw hl hs,
    fun hst hl hc => ?_, fun hst hl hw hc => ?_, frmThreshold_spec hs, frmCntClr_spec hs, fecCntClr_spec hs, fecCfg_spec hs⟩
  · have hrestart : (!frmLive (frmCfg s u n) || frmChanged w.word.val (cwGet s a) new) = true := by
      rw [Bool.or_eq_true, frmChanged_iff, Bool.not_eq_true']
      exact hc
    have h := frmCfg_live hst hl hs
    simp only [frmProbe_word] at h
    rw [if_pos hrestart] at h
    exact h
  · have hkept : ¬ (!frmLive (frmCfg s u n) || frmChanged w.word.val (cwGet s a) new) = true := by
      rw [Bool.or_eq_true, frmChanged_iff, hw]
      rcases hc with ⟨h0, h⟩ | ⟨h0, h⟩ <;> simp [h0, h]
    have h := frmCfg_live hst hl hs
    simp only [frmProbe_word] at h
    rw [if_neg hkept] at h
    exact h

end Sys2Proof.Machine
end

section
/-! PROOFS. O38: a received frame fills the buffers, counts its block and its codewords, and marks its group member. -/

namespace Sys2Proof.Machine

/-! ### Overhead buffers -/

/-- The buffers of a state are in canonical form. -/
abbrev OhOk (s : State) : Prop := tabWf (fun _ => (0 : Word)) s.oh = true

theorem ohSet_ok {i f w : Nat} {v : Word} {s : State} (h : OhOk s) : OhOk (ohSet i f w v s) := tabSet_ok' h

theorem ohWord_ohSet {i f w : Nat} {v : Word} {s : State} (h : OhOk s) : ohWord (ohSet i f w v s) i f w = v :=
  tabGet_tabSet_same (d := fun _ => (0 : Word)) h

theorem ohWord_ohSet_ne {i f w i' f' w' : Nat} {v : Word} {s : State} (h : ohKey i' f' w' ≠ ohKey i f w) :
    ohWord (ohSet i f w v s) i' f' w' = ohWord s i' f' w' := tabGet_tabSet_ne h

theorem ohWord_congr {s t : State} (h : t.oh = s.oh) (i f w : Nat) : ohWord t i f w = ohWord s i f w := by
  unfold ohWord
  rw [h]

theorem ohKey_ne {i f w f' w' : Nat} (hw : w < 64) (hw' : w' < 64) (h : f ≠ f' ∨ w ≠ w') :
    ohKey i f w ≠ ohKey i f' w' := by
  unfold ohKey
  omega

/-! ### Monitors -/

/-- The monitors of a state are in canonical form. -/
abbrev MonsOk (s : State) : Prop := tabWf (fun _ => ({} : Mon)) s.mons = true

theorem monGet_monPut {k : Nat} {m : Mon} {s : State} (h : MonsOk s) : monGet (monPut k m s) k = m :=
  tabGet_tabSet_same (d := fun _ => ({} : Mon)) h

theorem monGet_congr {s t : State} (h : t.mons = s.mons) (k : Nat) : monGet t k = monGet s k := by
  unfold monGet
  rw [h]

/-- From s to t the monitor of one context becomes m, and nothing else changes. -/
structure MonWork (k : Nat) (s t : State) (m : Mon) : Prop where
  mon : monGet t k = m
  mons : keeps monGet s t [k]
  rest : t = { s with mons := t.mons }
  ok : MonsOk t

theorem MonWork.refl {k : Nat} {s : State} (h : MonsOk s) : MonWork k s s (monGet s k) :=
  ⟨rfl, fun _ _ => rfl, rfl, h⟩

/-- Runs brought up to date change the runs of a monitor alone. -/
theorem runSteps_spec (l : List (Nat × Bool × Bool)) : ∀ m : Mon,
    ∃ a b, l.foldl (fun m r => runStep r.1 r.2.1 r.2.2 m) m = { m with setRun := a, clrRun := b } := by
  induction l with
  | nil => exact fun m => ⟨m.setRun, m.clrRun, rfl⟩
  | cons r l ih =>
    intro m
    obtain ⟨a, b, h⟩ := ih (runStep r.1 r.2.1 r.2.2 m)
    exact ⟨a, b, h⟩

section Step
variable {k : Nat} {s t : State} {m : Mon} (h : MonWork k s t m)
include h

theorem MonWork.monPut (m' : Mon) : MonWork k s (monPut k m' t) m' where
  mon := monGet_monPut h.ok
  mons := h.mons.trans fun _ hj => tabGet_tabSet_ne (by simpa using hj)
  rest := only_trans (put := State.putMons) (get := State.mons) (fun _ _ _ => rfl) h.rest rfl
  ok := tabSet_ok' h.ok

theorem MonWork.frameRuns {layer : Nat} (f : RxFrame) (hl : layer ≠ 0xC) :
    ∃ a b, MonWork k s (frameRuns k layer f t) { m with setRun := a, clrRun := b } := by
  obtain ⟨a, b, hrun⟩ := runSteps_spec (frameShows t k layer f) (monGet t k)
  refine ⟨a, b, ?_⟩
  rw [Machine.frameRuns, if_neg hl, hrun, h.mon]
  exact h.monPut _

/-- The frame of a group member, by whether its multiframe number follows the one before. -/
theorem MonWork.memberFrame {layer : Nat} (r : MemberRx) (hm : m.w30.getLsbD 35 = true) :
    let good := match m.mfi with | some v => (v + 1) % mfiModulus layer == r.mfi.val % mfiModulus layer | none => true
    MonWork k s (memberFrame k layer r t) { m with
      mfi := some (r.mfi.val % mfiModulus layer), sq := r.sq.val, delay := r.delay,
      mfGood := if good then Nat.min (m.mfGood + 1) runTop else 0,
      mfBad := if good then 0 else Nat.min (m.mfBad + 1) runTop } := by
  intro good
  rw [Machine.memberFrame, h.mon, bit_eq_getLsbD, hm]
  exact h.monPut _

end Step

/-! ### Which contexts take a frame -/

/-- Two states name the same live streams with the same set-up. -/
structure SameStreams (s t : State) : Prop where
  live : liveStreams t = liveStreams s
  cfg : ∀ u n, frmCfg t u n = frmCfg s u n

theorem SameStreams.trans {s t u : State} (h : SameStreams s t) (h' : SameStreams t u) : SameStreams s u :=
  ⟨h'.live.trans h.live, fun a b => (h'.cfg a b).trans (h.cfg a b)⟩

/-- A key that a filter drops whatever it reads changes nothing of what the filter keeps. -/
theorem filter_tabSet {α : Type} [DecidableEq α] {d v : α} {i : Nat} {q : Nat × α → Bool} (hq : ∀ x, q (i, x) = false)
    (t : Tab α) : (tabSet d t i v).filter q = t.filter q := by
  have hput : (tabPut v i t).filter q = t.filter q := by
    induction t with
    | nil => simp [tabPut, hq]
    | cons e t ih =>
      unfold tabPut
      split
      · simp [hq]
      · split
        next h => subst h; simp [hq]
        next => simp [List.filter_cons, ih]
  have hdrop : (tabDrop i t).filter q = t.filter q := by
    clear hput
    induction t with
    | nil => rfl
    | cons e t ih =>
      unfold tabDrop
      split
      next h => subst h; simp [hq]
      next => simp [List.filter_cons, ih]
  unfold tabSet
  split
  · exact hdrop
  · exact hput

/-- A word of a class below the framers' is no word of a stream. -/
theorem sameStreams_cwSet {a : Nat} {v : Word} {s : State} (h : a / 2 ^ 18 < clsFramer) : SameStreams s (cwSet a v s) where
  live := by
    have hclass : (ctlClass a == clsFramer) = false := by
      rw [beq_eq_false_iff_ne, ctlClass, bitsOf_eq]
      unfold clsFramer at *
      omega
    refine congrArg (List.map _) (filter_tabSet (fun x => ?_) _)
    rw [hclass]
    rfl
  cfg u n := by
    refine cwGet_cwSet_ne fun e => ?_
    subst e
    unfold frmAddr ctlAddr clsFramer at *
    omega

theorem ctxInFrame_congr {s t : State} (h : SameStreams s t) (hm : t.mons = s.mons) (hf : t.framers = s.framers) (id : Nat) :
    ctxInFrame t id = ctxInFrame s id := by
  have hstream : ∀ id, streamOfCtx t id = streamOfCtx s id := fun id => by
    unfold streamOfCtx
    simp only [h.live, h.cfg]
  have hroot : ∀ d id, rootStream d t id = rootStream d s id := by
    intro d
    induction d with
    | zero => exact fun _ => rfl
    | succ d ih =>
      intro id
      unfold rootStream
      rw [hstream, monGet_congr hm, ih]
  have hframer : ∀ k, framerGet t k = framerGet s k := fun k => by
    unfold framerGet
    rw [hf]
  unfold ctxInFrame
  simp only [hroot, hframer]

/-! ### Violations of a frame (R133) -/

theorem onesBelow_eq (x n : Nat) : onesBelow x n = ((List.range n).filter fun i => x.testBit i).length := by
  induction n with
  | zero => rfl
  | succ n ih =>
    have hbit : bitsOf x n n = if x.testBit n then 1 else 0 := by
      rw [bitsOf_eq, Nat.testBit_eq_decide_div_mod_eq, show n + 1 - n = 1 by omega, Nat.pow_one]
      by_cases h : x / 2 ^ n % 2 = 1
      · rw [decide_eq_true h, h]
        rfl
      · rw [decide_eq_false h, if_neg Bool.false_ne_true]
        omega
    rw [onesBelow, ih, hbit, List.range_succ, List.filter_append, List.length_append, List.filter_singleton]
    cases x.testBit n <;> rfl

/-- The bits in which the received and the computed octet of a BIP differ. -/
theorem bipBits_eq (b : Fin 256 × Fin 256) :
    bipBits b = ((List.range 8).filter fun i => b.1.val.testBit i != b.2.val.testBit i).length := by
  have hxor : ∀ i, (Nat.xor b.1.val b.2.val).testBit i = (b.1.val.testBit i != b.2.val.testBit i) :=
    fun i => Nat.testBit_xor b.1.val b.2.val i
  rw [bipBits, onesBelow_eq]
  simp only [hxor]

/-! ### Which frames a context takes (R133) -/

section Receive
variable {c : CtxId} {f : RxFrame} {s : State}

theorem monitorFrame_of_unseen {id : Nat} (h : ¬ (monLayer (monGet s id) ≠ 0 ∧ ctxInFrame s id = true)) :
    monitorFrame id f s = s := by
  refine if_pos ?_
  rw [Bool.or_eq_true, decide_eq_true_eq, Bool.not_eq_true']
  by_cases h0 : monLayer (monGet s id) = 0
  · exact Or.inl h0
  · exact Or.inr (Bool.eq_false_iff.2 fun hin => h ⟨h0, hin⟩)

/-- The buffers after a frame: its captures, its BIP, its far-end values. -/
def buffered (id layer : Nat) (f : RxFrame) (s : State) : State :=
  storeBei id layer f (storeBip id layer f (storeCaptures id layer f.captures s))

/-- The runs after a frame, and its blocks where SSF does not stand. -/
def counted (id layer : Nat) (f : RxFrame) (s : State) : State :=
  if defOn (monGet (frameRuns id layer f s) id) Df.ssf then frameRuns id layer f s
  else countBlocks id layer f (frameRuns id layer f s)

/-- A frame that is monitored and brings no OMFI. -/
theorem monitorFrame_of_seen {id layer : Nat} (hl : monLayer (monGet s id) = layer) (h0 : layer ≠ 0)
    (hin : ctxInFrame s id = true) (hc : f.captures.any (fun c => c.field.val == 0x0E) = false) :
    let t := counted id layer f (buffered id layer f s)
    monitorFrame id f s = match f.member with | some r => memberFrame id layer r t | none => t := by
  subst hl
  have hseen : ¬ (decide (monLayer (monGet s id) = 0) || !ctxInFrame s id) = true := by simp [h0, hin]
  have homfi : ¬ (decide (monLayer (monGet s id) = 3) && f.captures.any fun c => c.field.val == 0x0E) = true := by
    rw [hc, Bool.and_false]
    exact Bool.false_ne_true
  unfold monitorFrame
  refine (if_neg hseen).trans ?_
  dsimp only
  rw [if_neg homfi]
  rfl

/-- A frame without codewords, rings and ports. -/
theorem frameReceive_monitored (hfec : f.fec = []) (hmf : f.mf = none) (hrings : f.rings = []) (hports : f.ports = []) :
    exec (.frameReceive c f) s = .next (monitorFrame c.val f s) := by
  rw [exec_frameReceive, execFrameReceive, ringFrames, streamMf, hfec, hmf, hrings, hports]
  rfl

/-! ### A frame with one capture and one BIP -/

section Block
variable {cp : Capture} {b : Fin 256 × Fin 256} {id layer : Nat}

theorem capturable_field (h : capturable layer cp = true) : cp.field.val ≠ 2 := by
  intro h2
  simp [capturable, h2] at h

/-- One captured word and the two octets of one BIP, stored. -/
def blockBuffers (id : Nat) (cp : Capture) (b : Fin 256 × Fin 256) (s : State) : State :=
  ohSet id 2 1 (octetWord [b.2.val])
    (ohSet id 2 0 (octetWord [b.1.val]) (ohSet id cp.field.val cp.word.val cp.value s))

theorem buffered_block (hc : capturable layer cp = true) (h1 : 1 ≤ layer) (h9 : layer ≤ 9) :
    buffered id layer { captures := [cp], bip := [b] } s = blockBuffers id cp b s := by
  have hotn : (decide (1 ≤ layer) && decide (layer ≤ 9)) = true := by simp [h1, h9]
  have hstore : storeCaptures id layer [cp] s = ohSet id cp.field.val cp.word.val cp.value s := if_pos hc
  unfold buffered storeBip
  rw [hstore, hotn]
  rfl

/-- The words that such a frame leaves in the buffers. -/
theorem blockBuffers_words (hs : Safety.tablesOk s = true) (hf : cp.field.val ≠ 2) :
    let t := blockBuffers id cp b s
    ohWord t id cp.field.val cp.word.val = cp.value ∧ ohWord t id 2 0 = octetWord [b.1.val] ∧
      ohWord t id 2 1 = octetWord [b.2.val] ∧
      ∀ i f w, ohKey i f w ∉ [ohKey id cp.field.val cp.word.val, ohKey id 2 0, ohKey id 2 1] →
        ohWord t i f w = ohWord s i f w := by
  unfold blockBuffers
  intro t
  have hok0 : OhOk (ohSet id cp.field.val cp.word.val cp.value s) := ohSet_ok (tablesOk_oh hs)
  have hcap0 : ohKey id cp.field.val cp.word.val ≠ ohKey id 2 0 := ohKey_ne cp.word.isLt (by decide) (Or.inl hf)
  have hcap1 : ohKey id cp.field.val cp.word.val ≠ ohKey id 2 1 := ohKey_ne cp.word.isLt (by decide) (Or.inl hf)
  have h01 : ohKey id 2 0 ≠ ohKey id 2 1 := ohKey_ne (by decide) (by decide) (Or.inr (by decide))
  refine ⟨?_, ?_, ohWord_ohSet (ohSet_ok hok0), fun i f w hk => ?_⟩
  · rw [ohWord_ohSet_ne hcap1, ohWord_ohSet_ne hcap0, ohWord_ohSet (tablesOk_oh hs)]
  · rw [ohWord_ohSet_ne h01, ohWord_ohSet hok0]
  · simp only [List.mem_cons, List.not_mem_nil, or_false, not_or] at hk
    obtain ⟨hkc, hk0, hk1⟩ := hk
    rw [ohWord_ohSet_ne hk1, ohWord_ohSet_ne hk0, ohWord_ohSet_ne hkc]

theorem farValue_block {g : List Capture} (h1 : 1 ≤ layer) (h9 : layer ≤ 9)
    (hf : defOn (monGet s id) Df.iae = false ∨ layer = 3) : farValue s id layer { captures := g, bip := [b] } = bipBits b := by
  have hotn : (decide (1 ≤ layer) && decide (layer ≤ 9)) = true := by simp [h1, h9]
  have hown : ¬ (defOn (monGet s id) Df.iae && layer != 3) = true := by
    rcases hf with h | h <;> simp [h]
  unfold farValue
  rw [hotn, if_pos rfl, if_neg hown]

/-- One block counted, errored where its BIP differs. -/
theorem countBlocks_block {t : State} {m : Mon} {g : List Capture} (h : MonWork id s t m) (h1 : 1 ≤ layer) (h9 : layer ≤ 9) :
    ∃ fe bei, MonWork id s (countBlocks id layer { captures := g, bip := [b] } t) { m with
        tb := m.tb + 1, ebNe := (if bipBits b = 0 then m.ebNe else m.ebNe + 1), ebFe := fe, bei := bei } ∧
      (defOn m Df.iae = false ∨ layer = 3 → bei = bipBits b) := by
  have htotal : bipTotal [b] = bipBits b := Nat.zero_add _
  refine ⟨if farErrored t id layer { captures := g, bip := [b] } then m.ebFe + 1 else m.ebFe, _, ?_,
    fun hf => farValue_block (s := t) (g := g) h1 h9 (by rw [h.mon]; exact hf)⟩
  unfold countBlocks
  simp only [List.isEmpty_cons, Bool.false_eq_true, if_false, h.mon, htotal, ne_eq, ite_not]
  exact h.monPut _

/-- The runs and the block of such a frame. -/
theorem counted_block {t : State} {m : Mon} {g : List Capture} (h : MonWork id s t m) (hssf : defOn m Df.ssf = false)
    (h1 : 1 ≤ layer) (h9 : layer ≤ 9) :
    ∃ setRun clrRun fe bei, MonWork id s (counted id layer { captures := g, bip := [b] } t) { m with
        tb := m.tb + 1, ebNe := (if bipBits b = 0 then m.ebNe else m.ebNe + 1), ebFe := fe, bei := bei,
        setRun := setRun, clrRun := clrRun } ∧ (defOn m Df.iae = false ∨ layer = 3 → bei = bipBits b) := by
  obtain ⟨setRun, clrRun, hruns⟩ := h.frameRuns { captures := g, bip := [b] } (layer := layer) (by omega)
  obtain ⟨fe, bei, hblock, hbei⟩ := countBlocks_block (b := b) (g := g) hruns h1 h9
  refine ⟨setRun, clrRun, fe, bei, ?_, hbei⟩
  have hopen : defOn (monGet (frameRuns id layer { captures := g, bip := [b] } t) id) Df.ssf = false := by
    rw [hruns.mon]
    exact hssf
  rw [counted, if_neg (ne_true_of_eq_false hopen)]
  exact hblock

theorem frameReceive_block (hs : Safety.tablesOk s = true) : let id := c.val
    let k := monGet s id
    let layer := monLayer k
    let wrong := ((List.range 8).filter fun i => b.1.val.testBit i != b.2.val.testBit i).length
    layer ≠ 0 ∧ ctxInFrame s id = true → 1 ≤ layer → layer ≤ 9 → capturable layer cp = true →
      cp.field.val ≠ 0x0E → defOn k Df.ssf = false → reaches (exec (.frameReceive c { captures := [cp], bip := [b] }) s) fun t =>
        ohWord t id cp.field.val cp.word.val = cp.value ∧ ohWord t id 2 0 = octetWord [b.1.val] ∧
        ohWord t id 2 1 = octetWord [b.2.val] ∧
        (∀ i f w, ohKey i f w ∉ [ohKey id cp.field.val cp.word.val, ohKey id 2 0, ohKey id 2 1] →
          ohWord t i f w = ohWord s i f w) ∧
        (monGet t id).tb = k.tb + 1 ∧ (monGet t id).ebNe = (if wrong = 0 then k.ebNe else k.ebNe + 1) ∧
        (defOn k Df.iae = false ∨ layer = 3 → (monGet t id).bei = wrong) ∧
        (monGet t id).defs = k.defs ∧ keeps monGet s t [id] ∧ t = { s with oh := t.oh, mons := t.mons } := by
  intro id k layer wrong hseen h1 h9 hcap hfield hssf
  obtain ⟨h0, hin⟩ := hseen
  have hwords := blockBuffers_words (id := id) (b := b) hs (capturable_field hcap)
  have hexec := monitorFrame_of_seen (f := { captures := [cp], bip := [b] }) (id := id) rfl h0 hin (by simpa using hfield)
  rw [buffered_block hcap h1 h9] at hexec
  have hrest : blockBuffers id cp b s = { s with oh := (blockBuffers id cp b s).oh } := rfl
  generalize blockBuffers id cp b s = x at hwords hexec hrest
  have hmons : x.mons = s.mons := by rw [hrest]
  have hstart := MonWork.refl (k := id) (s := x) (by rw [MonsOk, hmons]; exact tablesOk_mons hs)
  rw [monGet_congr hmons] at hstart
  obtain ⟨setRun, clrRun, fe, bei, hblock, hbei⟩ := counted_block (b := b) (g := [cp]) hstart hssf h1 h9
  rw [bipBits_eq] at hblock hbei
  generalize counted id layer { captures := [cp], bip := [b] } x = t at hexec hblock
  have hoh : t.oh = x.oh := by rw [hblock.rest]
  obtain ⟨hcp, hbip0, hbip1, hothers⟩ := hwords
  refine ⟨t, (frameReceive_monitored rfl rfl rfl rfl).trans (congrArg _ hexec), (ohWord_congr hoh _ _ _).trans hcp,
    (ohWord_congr hoh _ _ _).trans hbip0, (ohWord_congr hoh _ _ _).trans hbip1,
    fun i f w hk => (ohWord_congr hoh _ _ _).trans (hothers i f w hk), congrArg Mon.tb hblock.mon,
    congrArg Mon.ebNe hblock.mon, fun hf => (congrArg Mon.bei hblock.mon).trans (hbei hf),
    (congrArg Mon.defs hblock.mon).trans rfl,
    fun j hj => (hblock.mons j hj).trans (monGet_congr hmons j), ?_⟩
  conv_lhs => rw [hblock.rest, hrest, ← hoh]

end Block

/-! ### Codewords of an anchor lane (R70) -/

theorem fecAddr_div {sd lane w : Nat} (hs : sd ≤ 1) (hl : lane < 64) (hw : w < 0x800) : fecAddr sd lane w / 2 ^ 18 = clsFec :=
  ctlAddr_div hl (by omega)

theorem fecAddr_ne {sd lane w w' : Nat} (h : w ≠ w') : fecAddr sd lane w ≠ fecAddr sd lane w' := by
  unfold fecAddr ctlAddr
  omega

theorem cwGet_cwCount {a n : Nat} {s : State} (h : tabWf cwReset s.cw = true) :
    cwGet (cwCount a n s) a = satAdd (cwGet s a) n := cwGet_cwSet h

/-- The running totals of an anchor lane after a frame's codewords. -/
def fecTotals (r : FecRx) (s : State) : State :=
  let a := fecAddr (sideNum r.lane.side) r.lane.lane.val
  cwCount (a 0x10) r.cw (cwCount (a 0x11) r.corr (cwCount (a 0x12) r.uncorr (cwCount (a 0x13) r.sym s)))

/-- The counts of an anchor lane in this tick, with a frame's codewords. -/
def fecTick (r : FecRx) (v : Lane) : Lane :=
  { v with fecCw := v.fecCw + r.cw, fecCorr := v.fecCorr + r.corr, fecUncorr := v.fecUncorr + r.uncorr,
           fecSym := v.fecSym + r.sym }

theorem fecTotals_words (r : FecRx) (hs : Safety.tablesOk s = true) :
    let a := fecAddr (sideNum r.lane.side) r.lane.lane.val
    let t := fecTotals r s
    cwGet t (a 0x10) = satAdd (cwGet s (a 0x10)) r.cw ∧ cwGet t (a 0x11) = satAdd (cwGet s (a 0x11)) r.corr ∧
      cwGet t (a 0x12) = satAdd (cwGet s (a 0x12)) r.uncorr ∧ cwGet t (a 0x13) = satAdd (cwGet s (a 0x13)) r.sym := by
  intro a t
  have hok3 : tabWf cwReset (cwCount (a 0x13) r.sym s).cw = true := cwSet_ok (tablesOk_cw hs)
  have hok2 : tabWf cwReset (cwCount (a 0x12) r.uncorr (cwCount (a 0x13) r.sym s)).cw = true := cwSet_ok hok3
  have hok1 : tabWf cwReset (cwCount (a 0x11) r.corr (cwCount (a 0x12) r.uncorr (cwCount (a 0x13) r.sym s))).cw = true :=
    cwSet_ok hok2
  have hne : ∀ {i j : Nat}, i ≠ j → a i ≠ a j := fecAddr_ne
  refine ⟨?_, ?_, ?_, ?_⟩
  · rw [show t = cwCount (a 0x10) r.cw _ from rfl, cwGet_cwCount hok1, cwGet_cwCount_ne (hne (by decide)),
      cwGet_cwCount_ne (hne (by decide)), cwGet_cwCount_ne (hne (by decide))]
  · rw [show t = cwCount (a 0x10) r.cw _ from rfl, cwGet_cwCount_ne (hne (by decide)), cwGet_cwCount hok2,
      cwGet_cwCount_ne (hne (by decide)), cwGet_cwCount_ne (hne (by decide))]
  · rw [show t = cwCount (a 0x10) r.cw _ from rfl, cwGet_cwCount_ne (hne (by decide)),
      cwGet_cwCount_ne (hne (by decide)), cwGet_cwCount hok3, cwGet_cwCount_ne (hne (by decide))]
  · rw [show t = cwCount (a 0x10) r.cw _ from rfl, cwGet_cwCount_ne (hne (by decide)),
      cwGet_cwCount_ne (hne (by decide)), cwGet_cwCount_ne (hne (by decide)), cwGet_cwCount (tablesOk_cw hs)]

theorem fecTotals_work (r : FecRx) (hs : Safety.tablesOk s = true) :
    let a := fecAddr (sideNum r.lane.side) r.lane.lane.val
    let k := laneKey (sideNum r.lane.side) r.lane.lane.val
    LaneWork k [a 0x10, a 0x11, a 0x12, a 0x13] s (fecTotals r s) (laneGet s k) := by
  intro a k
  have hstart := LaneWork.refl (k := k) (as := [a 0x10, a 0x11, a 0x12, a 0x13]) hs
  have hmem : ∀ i ∈ [0x10, 0x11, 0x12, 0x13], a i ∈ [a 0x10, a 0x11, a 0x12, a 0x13] := fun _ => List.mem_map_of_mem
  exact (((hstart.cwSet _ (hmem 0x13 (by decide))).cwSet _ (hmem 0x12 (by decide))).cwSet _ (hmem 0x11 (by decide))).cwSet _
    (hmem 0x10 (by decide))

theorem sameStreams_fecTotals (r : FecRx) (s : State) : SameStreams s (fecTotals r s) := by
  have hword : ∀ (i n : Nat) (t : State), i < 0x800 →
      SameStreams t (cwCount (fecAddr (sideNum r.lane.side) r.lane.lane.val i) n t) := fun i n t hi =>
    sameStreams_cwSet (by rw [fecAddr_div (sideNum_le _) r.lane.lane.isLt hi]; decide)
  exact (((hword _ _ _ (by decide)).trans (hword _ _ _ (by decide))).trans (hword _ _ _ (by decide))).trans
    (hword _ _ _ (by decide))

theorem frameReceive_fec (r : FecRx) (hs : Safety.tablesOk s = true) : let id := c.val
    let d := sideNum r.lane.side
    let l := r.lane.lane.val
    let fec := fecAddr d l
    ¬ (monLayer (monGet s id) ≠ 0 ∧ ctxInFrame s id = true) →
      reaches (exec (.frameReceive c { fec := [r] }) s) fun t =>
        cwGet t (fec 0x10) = satAdd (cwGet s (fec 0x10)) r.cw ∧ cwGet t (fec 0x11) = satAdd (cwGet s (fec 0x11)) r.corr ∧
        cwGet t (fec 0x12) = satAdd (cwGet s (fec 0x12)) r.uncorr ∧ cwGet t (fec 0x13) = satAdd (cwGet s (fec 0x13)) r.sym ∧
        cwKept s t [fec 0x10, fec 0x11, fec 0x12, fec 0x13] ∧ keeps laneGet s t [laneKey d l] ∧
        t = { s with cw := t.cw, lanes := t.lanes } := by
  intro id d l fec hunseen
  obtain ⟨hcw, hcorr, huncorr, hsym⟩ := fecTotals_words r hs
  have hwork := (fecTotals_work r hs).lanePut (fecTick r (laneGet (fecTotals r s) (laneKey d l)))
  have hsame := sameStreams_fecTotals r s
  obtain ⟨t, ht⟩ : ∃ t, t = lanePut (laneKey d l) (fecTick r (laneGet (fecTotals r s) (laneKey d l))) (fecTotals r s) :=
    ⟨_, rfl⟩
  have htcw : t.cw = (fecTotals r s).cw := by rw [ht]; rfl
  rw [← ht] at hwork
  have hstreams : SameStreams s t := ⟨by rw [← hsame.live, liveStreams, htcw, liveStreams],
    fun u n => (frmCfg_congr htcw u n).trans (hsame.cfg u n)⟩
  have hstays : monitorFrame id { fec := [r] } t = t := by
    refine monitorFrame_of_unseen ?_
    rw [monGet_congr (by rw [hwork.rest]), ctxInFrame_congr hstreams (by rw [hwork.rest]) (by rw [hwork.rest])]
    exact hunseen
  have hexec : exec (.frameReceive c { fec := [r] }) s = .next (monitorFrame id { fec := [r] } t) := by
    rw [exec_frameReceive, ht]
    rfl
  exact ⟨t, by rw [hexec, hstays], (cwGet_congr htcw _).trans hcw, (cwGet_congr htcw _).trans hcorr,
    (cwGet_congr htcw _).trans huncorr, (cwGet_congr htcw _).trans hsym, hwork.words, hwork.lanes, hwork.rest⟩

theorem frameReceive_unseen {cp : Capture} {b : Fin 256 × Fin 256} {m : MemberRx}
    (h : ¬ (monLayer (monGet s c.val) ≠ 0 ∧ ctxInFrame s c.val = true)) :
    reaches (exec (.frameReceive c { captures := [cp], bip := [b], member := some m }) s) fun t => t = s :=
  ⟨s, (frameReceive_monitored rfl rfl rfl rfl).trans (congrArg _ (monitorFrame_of_unseen h)), rfl⟩

/-! ### Counts of a port (R176, R178) -/

/-- From s to t one port becomes p, and nothing else changes. -/
structure PortWork (k : Nat) (s t : State) (p : Port) : Prop where
  port : portGet t k = p
  ports : keeps portGet s t [k]
  rest : t = { s with ports := t.ports }
  ok : tabWf (fun _ => ({} : Port)) t.ports = true

theorem PortWork.refl {k : Nat} {s : State} (hs : Safety.tablesOk s = true) : PortWork k s s (portGet s k) :=
  ⟨rfl, fun _ _ => rfl, rfl, tablesOk_ports hs⟩

theorem PortWork.portPut {k : Nat} {s t : State} {p : Port} (h : PortWork k s t p) (p' : Port) :
    PortWork k s (portPut k p' t) p' where
  port := tabGet_tabSet_same (d := fun _ => ({} : Port)) h.ok
  ports := h.ports.trans fun _ hj => tabGet_tabSet_ne (by simpa using hj)
  rest := only_trans (put := State.putPorts) (get := State.ports) (fun _ _ _ => rfl) h.rest rfl
  ok := tabSet_ok' h.ok

theorem PortWork.countPort0 {k hi lo n : Nat} {s t : State} {p : Port} (h : PortWork k s t p) :
    PortWork k s (countPort0 k hi lo n t) { p with cnt0 := cntAdd p.cnt0 hi lo n } := by
  rw [Machine.countPort0, h.port]
  exact h.portPut _

theorem PortWork.countPort1 {k hi lo n : Nat} {s t : State} {p : Port} (h : PortWork k s t p) :
    PortWork k s (countPort1 k hi lo n t) { p with cnt1 := cntAdd p.cnt1 hi lo n } := by
  rw [Machine.countPort1, h.port]
  exact h.portPut _

theorem frameReceive_port {q : PortRx} (hs : Safety.tablesOk s = true) : let id := c.val
    let adapt := liveAdapt s q.port.unit.val q.port.port.val
    let kp := portKey q.port.unit.val q.port.port.val
    ¬ (monLayer (monGet s id) ≠ 0 ∧ ctxInFrame s id = true) → adapt = 5 ∨ adapt = 6 →
      reaches (exec (.frameReceive c { ports := [q] }) s) fun t =>
        portGet t kp = { portGet s kp with
          cnt0 := cntAdd (cntAdd (portGet s kp).cnt0 35 18 q.idleIns) 17 0 q.idleDel,
          cnt1 := cntAdd (portGet s kp).cnt1 35 0 q.blkErr } ∧
        keeps portGet s t [kp] ∧ t = { s with ports := t.ports } := by
  intro id adapt kp hunseen hadapt
  have hcounts : (decide (adapt = 5) || decide (adapt = 6)) = true := by simpa using hadapt
  have hexec : exec (.frameReceive c { ports := [q] }) s = .next (portFrame q s) := by
    rw [exec_frameReceive]
    exact congrArg (fun t => Host.Outcome.next (portFrame q t)) (monitorFrame_of_unseen (f := { ports := [q] }) hunseen)
  have hport : portFrame q s = countPort1 kp 35 0 q.blkErr (countPort0 kp 17 0 q.idleDel (countPort0 kp 35 18 q.idleIns s)) :=
    if_pos hcounts
  have h := (((PortWork.refl (k := kp) hs).countPort0 (hi := 35) (lo := 18) (n := q.idleIns)).countPort0
    (hi := 17) (lo := 0) (n := q.idleDel)).countPort1 (hi := 35) (lo := 0) (n := q.blkErr)
  exact ⟨_, by rw [hexec, hport], h.port, h.ports, h.rest⟩

/-! ### A frame of a group member (R251) -/

theorem frameReceive_member {m : MemberRx} (hs : Safety.tablesOk s = true) : let id := c.val
    let k := monGet s id
    let layer := monLayer k
    layer ≠ 0 ∧ ctxInFrame s id = true → 1 ≤ layer → layer ≤ 9 → k.w30.getLsbD 35 = true →
      reaches (exec (.frameReceive c { member := some m }) s) fun t =>
        (monGet t id).sq = m.sq.val ∧ (monGet t id).delay = m.delay ∧ (monGet t id).mfi = some (m.mfi.val % 16777216) ∧
        ((∀ v, k.mfi = some v → (v + 1) % 16777216 = m.mfi.val % 16777216) →
          (monGet t id).mfGood = min (k.mfGood + 1) 16 ∧ (monGet t id).mfBad = 0) ∧
        keeps monGet s t [id] ∧ t = { s with mons := t.mons } := by
  intro id k layer hseen h1 h9 hmember
  obtain ⟨h0, hin⟩ := hseen
  have hexec := monitorFrame_of_seen (f := { member := some m }) (id := id) rfl h0 hin rfl
  have hcounted : counted id layer { member := some m } s = frameRuns id layer { member := some m } s := ite_self _
  obtain ⟨a, b, hruns⟩ := (MonWork.refl (k := id) (tablesOk_mons hs)).frameRuns { member := some m }
    (layer := layer) (by omega)
  have h := hruns.memberFrame (layer := layer) m hmember
  have hmod : mfiModulus layer = 16777216 := if_neg (by omega)
  rw [hmod] at h
  refine ⟨_, (frameReceive_monitored rfl rfl rfl rfl).trans (congrArg _ (hexec.trans ?_)), congrArg Mon.sq h.mon,
    congrArg Mon.delay h.mon, congrArg Mon.mfi h.mon, fun hnext => ?_, h.mons, h.rest⟩
  · exact congrArg (memberFrame id layer m) hcounted
  · have hgood : (match k.mfi with | some v => (v + 1) % 16777216 == m.mfi.val % 16777216 | none => true) = true := by
      cases hk : k.mfi with
      | none => rfl
      | some v => exact beq_iff_eq.2 (hnext v hk)
    exact ⟨(congrArg Mon.mfGood h.mon).trans (if_pos hgood), (congrArg Mon.mfBad h.mon).trans (if_pos hgood)⟩

end Receive

/-- Settles O38: a monitored frame fills its buffers and counts its block; codewords, ports and members take their part. -/
theorem receivedFramesAreMonitored : Obligations.ReceivedFramesAreMonitored := by
  unfold Obligations.ReceivedFramesAreMonitored
  intro c cp b r q m s hs id k layer seen wrong d l fec adapt kp
  exact ⟨frameReceive_block hs, frameReceive_fec r hs, frameReceive_unseen, frameReceive_port hs, frameReceive_member hs⟩

end Sys2Proof.Machine
end

section
/-! PROOFS. O21: the hypothesis tracker, from opening a candidate to declaring the stream out of frame. -/

namespace Sys2Proof.Machine

section Tracking
variable {u n m offset mf : Nat} {s : State} {t : Tracker} (ht : trackerGet s (trackerKey u n m) = t)
include ht

/-! ### Opening a candidate (R98, R101) -/

theorem openCand_known (h : (t.inFrame = true ∧ t.slot0 = offset) ∨ ∃ c ∈ t.cands, c.offset = offset) :
    openCand u n m offset mf s = s := by
  subst ht
  exact if_pos (by simpa using h)

/-- A match at no known offset is appended, or dropped and counted where eight candidates are open. -/
theorem openCand_unknown (h0 : ¬ (t.inFrame = true ∧ t.slot0 = offset)) (hnew : ∀ c ∈ t.cands, c.offset ≠ offset) :
    openCand u n m offset mf s = if 8 ≤ candCount t then
        frmEvent (streamKey u n) 26 (framerPut (streamKey u n) { framerGet s (streamKey u n) with
          ovf := min ((framerGet s (streamKey u n)).ovf + 1) 0x3FFFF } s)
      else trackerPut (trackerKey u n m) { t with cands := t.cands ++ [{ offset := offset, mf := mf, run := 1 }] } s := by
  subst ht
  exact if_neg (by simpa using ⟨not_and.1 h0, hnew⟩)

/-! ### Checking a candidate (R99, R101, R102) -/

theorem checkCand_slot0 {faOk : Bool} (h0 : t.inFrame = true ∧ t.slot0 = offset) :
    checkCand u n m offset faOk mf s = trackerPut (trackerKey u n m)
      { t with errFa := if faOk then 0 else t.errFa + 1, mf := if faOk then mf else t.mf } s := by
  subst ht
  exact if_pos (by simpa using h0)

section Other
variable {c : Cand} (h0 : ¬ (t.inFrame = true ∧ t.slot0 = offset))
  (hc : (t.cands.find? fun d => d.offset == offset) = some c)
include h0 hc

theorem checkCand_errored : checkCand u n m offset false mf s =
    trackerPut (trackerKey u n m) { t with cands := t.cands.filter fun d => d.offset != offset } s := by
  subst ht
  unfold checkCand
  rw [if_neg (by simpa using h0), hc]
  rfl

/-- A matching check whose MF is the next one raises the run; the candidate is no new mimic while the tracker is out of
frame or the run is still short of IF_N. -/
theorem checkCand_matched (hmf : ∀ x, nextMf (frmProto (frmCfg s u n)) m c.mf = some x → x = mf)
    (hrun : t.inFrame = false ∨ c.run + 1 < ifN s u n) :
    checkCand u n m offset true mf s = trackerPut (trackerKey u n m) { t with
      cands := t.cands.map fun d =>
        if d.offset = offset then { c with mf := mf, run := c.run + 1, offset := offset } else d } s := by
  subst ht
  have hgood : (match nextMf (frmProto (frmCfg s u n)) m c.mf with | some x => x == mf | none => true) = true := by
    cases hx : nextMf (frmProto (frmCfg s u n)) m c.mf with
    | none => rfl
    | some x => exact beq_iff_eq.2 (hmf x hx)
  have hmimic : ((trackerGet s (trackerKey u n m)).inFrame && decide (c.run + 1 ≥ ifN s u n)) = false := by
    rcases hrun with h | h
    · rw [h, Bool.false_and]
    · rw [decide_eq_false (Nat.not_le.2 h), Bool.and_false]
  unfold checkCand
  rw [if_neg (by simpa using h0), hc]
  simp only [hmimic, Bool.true_and, Bool.false_and, Bool.or_false, Bool.false_eq_true, if_false]
  exact if_pos hgood

end Other

/-! ### The end of a window (R100) -/

section Window
variable (hout : t.inFrame = false)
include hout

theorem windowEnd_single {c : Cand} (hc : confirmed s u n t = [c]) :
    windowEnd u n m s = trackerPut (trackerKey u n m) { t with
      inFrame := true, slot0 := c.offset, mf := c.mf, errFa := 0, tie := false,
      cands := t.cands.filter fun d => d.offset != c.offset } s := by
  subst ht
  unfold windowEnd
  rw [if_neg (ne_true_of_eq_false hout), hc]

/-- A tie is counted where none stood at the window end before. -/
theorem windowEnd_tie (hc : 2 ≤ (confirmed s u n t).length) (htie : t.tie = false) :
    windowEnd u n m s = frmEvent (streamKey u n) 27 (framerPut (streamKey u n) { framerGet s (streamKey u n) with
      ties := min ((framerGet s (streamKey u n)).ties + 1) 0x3FFFF }
        (trackerPut (trackerKey u n m) { t with tie := true } s)) := by
  subst ht
  unfold windowEnd
  rw [if_neg (ne_true_of_eq_false hout)]
  match confirmed s u n (trackerGet s (trackerKey u n m)), hc with
  | _ :: _ :: _, _ => exact if_neg (ne_true_of_eq_false htie)

end Window
end Tracking

section Instructions
variable {r : StreamRef} {m : Fin 64} {offset mf : Nat} {faOk : Bool} {s : State}

/-! ### A hold of the stream, and the work outside it (R103) -/

theorem tracker_idle_of_held (h : trackerHeld s r.unit.val r.num.val m.val = true) :
    exec (.candidateOpen r m offset mf) s = .next s ∧ exec (.candidateCheck r m offset faOk mf) s = .next s ∧
      exec (.framerWindowEnd r m) s = .next s := by
  rw [exec_candidateOpen, exec_candidateCheck, exec_framerWindowEnd]
  exact ⟨congrArg _ (if_pos h), congrArg _ (if_pos h), congrArg _ (if_pos h)⟩

/-- The outcome of an instruction that changed a tracker: what the stream shows follows it. -/
abbrev refreshed (r : StreamRef) (s : State) : Result := .next (refreshStream oduDepth r.unit.val r.num.val s)

section Unheld
variable (h : trackerHeld s r.unit.val r.num.val m.val = false)
include h

theorem candidateOpen_unheld :
    exec (.candidateOpen r m offset mf) s = refreshed r (openCand r.unit.val r.num.val m.val offset mf s) := by
  rw [exec_candidateOpen]
  exact congrArg _ (if_neg (ne_true_of_eq_false h))

theorem candidateCheck_unheld :
    exec (.candidateCheck r m offset faOk mf) s = refreshed r (checkCand r.unit.val r.num.val m.val offset faOk mf s) := by
  rw [exec_candidateCheck]
  exact congrArg _ (if_neg (ne_true_of_eq_false h))

theorem framerWindowEnd_unheld :
    exec (.framerWindowEnd r m) s = refreshed r (windowEnd r.unit.val r.num.val m.val s) := by
  rw [exec_framerWindowEnd]
  exact congrArg _ (if_neg (ne_true_of_eq_false h))

end Unheld

/-! ### Out of frame (R102) -/

theorem oofDeclare_spec : let u := r.unit.val
    let n := r.num.val
    let k := trackerKey u n m.val
    let ks := streamKey u n
    let t := trackerGet s k
    let f := framerGet s ks
    t.inFrame = true → oofN s u n ≤ t.errFa →
      exec (.oofDeclare r m) s = refreshed r (frmEvent ks 35 (framerPut ks
        { f with oofCnt := min (f.oofCnt + 1) 0xFFFFFFFFF }
        (trackerPut k { t with
          inFrame := false, errFa := 0, tie := false,
          cands := { offset := t.slot0, mf := t.mf, run := 0 } :: t.cands.map fun c => { c with run := 0 } } s))) := by
  intro u n k ks t f hin herr
  have hdue : (t.inFrame && decide (t.errFa ≥ oofN s u n)) = true := by simp [hin, herr]
  rw [exec_oofDeclare]
  exact congrArg _ (if_pos hdue)

theorem oofDeclare_idle (h : (trackerGet s (trackerKey r.unit.val r.num.val m.val)).inFrame = false ∨
    (trackerGet s (trackerKey r.unit.val r.num.val m.val)).errFa < oofN s r.unit.val r.num.val) :
    exec (.oofDeclare r m) s = .next s := by
  rw [exec_oofDeclare]
  refine congrArg _ (if_neg ?_)
  rcases h with h | h
  · simp [h]
  · simp [h]

end Instructions

/-- Settles O21: while no hold stands each instruction does its step on the tracker, and the stream follows. -/
theorem theTrackerFollowsItsCandidates : Obligations.TheTrackerFollowsItsCandidates := by
  unfold Obligations.TheTrackerFollowsItsCandidates
  intro r m offset mf faOk s _ u n ks k t f up others isSlot0
  refine ⟨tracker_idle_of_held, fun hheld => ?_, oofDeclare_spec, oofDeclare_idle⟩
  have hopen := candidateOpen_unheld (offset := offset) (mf := mf) hheld
  have hcheck := candidateCheck_unheld (offset := offset) (faOk := faOk) (mf := mf) hheld
  have hwindow := framerWindowEnd_unheld hheld
  refine ⟨fun hknown => ?_, fun h0 hnew hfew => ?_, fun h0 hnew hfull => ?_, fun h0 => ?_, fun c h0 hc => ?_,
    fun c hout hc => ?_, fun hout htwo htie => ?_⟩
  · rw [hopen, openCand_known rfl hknown]
  · rw [hopen, openCand_unknown rfl h0 hnew, if_neg (Nat.not_le.2 hfew)]
  · rw [hopen, openCand_unknown rfl h0 hnew, if_pos hfull]
  · rw [hcheck, checkCand_slot0 rfl h0]
  · refine ⟨fun hbad => ?_, fun hok hmf hrun => ?_⟩
    · rw [hcheck, hbad, checkCand_errored rfl h0 hc]
    · rw [hcheck, hok]
      exact congrArg (refreshed r) (checkCand_matched rfl h0 hc hmf hrun)
  · rw [hwindow, windowEnd_single rfl hout hc]
  · rw [hwindow, windowEnd_tie rfl hout htwo htie]

end Sys2Proof.Machine
end

section
/-! PROOFS. O11: alarm records, counts added to the bins of a context, and bins rolled. -/

namespace Sys2Proof.Machine

/-! ### Words of one context that change -/

/-- The words of contexts are in canonical form. -/
abbrev CtxOk (s : State) : Prop := tabWf (fun _ => (0 : Word)) s.ctx = true

theorem ctxWord_congr {s t : State} (h : t.ctx = s.ctx) (k w : Nat) : ctxWord t k w = ctxWord s k w := by
  unfold ctxWord
  rw [h]

/-- From s to t words of a set may change in one context, and nothing else does. -/
structure CtxWork (id : Nat) (ws : Set Nat) (s t : State) : Prop where
  words : ∀ k w, k ≠ id ∨ w ∉ ws → w < 128 → ctxWord t k w = ctxWord s k w
  rest : t = { s with ctx := t.ctx }
  ok : CtxOk t

theorem CtxWork.refl {id : Nat} {ws : Set Nat} {s : State} (h : CtxOk s) : CtxWork id ws s s :=
  ⟨fun _ _ _ _ => rfl, rfl, h⟩

section Step
variable {id : Nat} {ws : Set Nat} {s t : State} (h : CtxWork id ws s t)
include h

theorem CtxWork.trans {u : State} (h' : CtxWork id ws t u) : CtxWork id ws s u where
  words := fun k w hw h128 => (h'.words k w hw h128).trans (h.words k w hw h128)
  rest := only_trans (put := State.putCtx) (get := State.ctx) (fun _ _ _ => rfl) h.rest h'.rest
  ok := h'.ok

theorem CtxWork.mono {ws' : Set Nat} (hws : ws ⊆ ws') : CtxWork id ws' s t where
  words := fun k w hw h128 => h.words k w (hw.imp_right fun hn hm => hn (hws hm)) h128
  rest := h.rest
  ok := h.ok

theorem CtxWork.ctxSet {w : Nat} (hw : w ∈ ws) (h128 : w < 128) (v : Word) : CtxWork id ws s (ctxSet id w v t) := by
  refine h.trans ⟨fun k j hj hj128 => ctxWord_ctxSet_ne ?_, rfl, tabSet_ok' h.ok⟩
  rcases hj with hk | hj
  · omega
  · have : j ≠ w := fun e => hj (e ▸ hw)
    omega

end Step

/-- A run of words set one after the other, each to a value that the run itself leaves alone. -/
theorem ctxSets_spec {id d : Nat} {val : State → Nat → Word} {s : State} (hs : CtxOk s) {N : Nat} (h128 : d + N ≤ 128)
    (hval : ∀ t, CtxWork id (Set.Ico d (d + N)) s t → ∀ k < N, val t k = val s k) {n : Nat} (hn : n ≤ N) :
    let t := (List.range n).foldl (fun s k => ctxSet id (d + k) (val s k) s) s
    CtxWork id (Set.Ico d (d + N)) s t ∧ ∀ k < n, ctxWord t id (d + k) = val s k := by
  induction n with
  | zero => exact ⟨.refl hs, fun k hk => by omega⟩
  | succ n ih =>
    obtain ⟨hwork, hread⟩ := ih (by omega)
    rw [List.range_succ, List.foldl_append]
    refine ⟨hwork.ctxSet (by rw [Set.mem_Ico]; omega) (by omega) _, fun k hk => ?_⟩
    simp only [List.foldl_cons, List.foldl_nil]
    rcases Nat.lt_succ_iff_lt_or_eq.1 hk with hk | rfl
    · rw [ctxWord_ctxSet_ne (by omega), hread k hk]
    · rw [ctxWord_ctxSet hwork.ok, hval _ hwork k (by omega)]

/-! ### PM.ADD (R156) -/

/-- A counter of a bin after an addition, held at its top. -/
def binSum (w : Word) (v : Nat) : Word :=
  if w.getLsbD 35 = true ∨ 0x7FFFFFFFF < w.toNat % 2 ^ 35 + v then
    (if w.getLsbD 35 = true then w else 0xFFFFFFFFF)
  else BitVec.ofNat 36 (w.toNat + v)

/-- The first word of a bin after an addition to a counter w. -/
def binHead (h w : Word) (v : Nat) : Word :=
  if w.getLsbD 35 = false ∧ 0x7FFFFFFFF < w.toNat % 2 ^ 35 + v then putFld h 33 33 1 else h

theorem toNat_mod_of_top_clear {w : Word} (h : w.getLsbD 35 = false) : w.toNat % 2 ^ 35 = w.toNat := by
  have hlt := w.isLt
  have hbit : w.toNat.testBit 35 = false := h
  rw [Nat.testBit_eq_decide_div_mod_eq, decide_eq_false_iff_not] at hbit
  omega

theorem binAdd_spec {id b p v : Nat} {s : State} (hs : CtxOk s) (hp : p < 8) (hb : b + 10 ≤ 128) :
    let w := ctxWord s id (b + 2 + p)
    let t := binAdd id b p v s
    ctxWord t id (b + 2 + p) = binSum w v ∧ ctxWord t id b = binHead (ctxWord s id b) w v ∧
      CtxWork id {b, b + 2 + p} s t := by
  intro w t
  by_cases hsat : w.getLsbD 35 = true
  · have ht : t = s := if_pos (by rwa [bit_eq_getLsbD])
    rw [ht]
    exact ⟨by rw [binSum, if_pos (.inl hsat), if_pos hsat], by simp [binHead, hsat], .refl hs⟩
  · have hclear : w.getLsbD 35 = false := by simpa using hsat
    have ht : t = if w.toNat % 2 ^ 35 + v ≤ 0x7FFFFFFFF then
        ctxSet id (b + 2 + p) (BitVec.ofNat 36 (w.toNat % 2 ^ 35 + v)) s
        else ctxSet id b (putFld (ctxWord s id b) 33 33 1) (ctxSet id (b + 2 + p) 0xFFFFFFFFF s) := by
      rw [← fld_low w 34]
      exact if_neg (by rwa [bit_eq_getLsbD])
    by_cases hsum : w.toNat % 2 ^ 35 + v ≤ 0x7FFFFFFFF
    · rw [if_pos hsum] at ht
      rw [ht]
      refine ⟨?_, ?_, (CtxWork.refl hs).ctxSet (by simp) (by omega) _⟩
      · rw [ctxWord_ctxSet hs, binSum, if_neg (by rw [not_or]; exact ⟨hsat, Nat.not_lt.2 hsum⟩),
          toNat_mod_of_top_clear hclear]
      · rw [ctxWord_ctxSet_ne (by omega), binHead, if_neg (by rw [not_and]; exact fun _ => Nat.not_lt.2 hsum)]
    · rw [if_neg hsum] at ht
      have hcount := (CtxWork.refl (id := id) (ws := {b, b + 2 + p}) hs).ctxSet (w := b + 2 + p) (by simp) (by omega)
        0xFFFFFFFFF
      rw [ht]
      refine ⟨?_, ?_, hcount.ctxSet (by simp) (by omega) _⟩
      · rw [ctxWord_ctxSet_ne (by omega), ctxWord_ctxSet hs, binSum, if_pos (.inr (Nat.not_le.1 hsum)), if_neg hsat]
      · rw [ctxWord_ctxSet hcount.ok, binHead, if_pos ⟨hclear, Nat.not_le.1 hsum⟩]

/-! ### PM.ROLL (R157) -/

/-- A bin whose current words are moved to the previous ones, the end stamped. -/
def binMoved (id b : Nat) (s : State) : State :=
  let s := (List.range 10).foldl (fun s k => ctxSet id (b + 10 + k) (ctxWord s id (b + k)) s) s
  ctxSet id (b + 11) (endTick s) s

/-- A bin begun anew: its counters cleared, its first word and its start written. -/
def binBegun (id b : Nat) (suspect : Bool) (s : State) : State :=
  let s := (List.range 8).foldl (fun s k => ctxSet id (b + 2 + k) 0 s) s
  ctxSet id (b + 1) s.tick (ctxSet id b (mkWord [(35, 1), (34, b2n suspect)]) s)

theorem rollBin_eq (id b : Nat) (suspect : Bool) (s : State) :
    rollBin id b suspect s = binBegun id b suspect (binMoved id b s) := rfl

theorem binMoved_spec {id b : Nat} {s : State} (hs : CtxOk s) (hb : b + 20 ≤ 128) :
    let t := binMoved id b s
    CtxWork id (Set.Ico (b + 10) (b + 10 + 10)) s t ∧
      (∀ k, k < 10 → k ≠ 1 → ctxWord t id (b + 10 + k) = ctxWord s id (b + k)) ∧ ctxWord t id (b + 11) = s.tick - 1 := by
  obtain ⟨hwork, hread⟩ := ctxSets_spec (id := id) (d := b + 10) (val := fun s k => ctxWord s id (b + k)) hs (N := 10)
    (by omega) (fun t h k hk => h.words _ _ (.inr (by rw [Set.mem_Ico]; omega)) (by omega)) (Nat.le_refl 10)
  refine ⟨hwork.ctxSet (by rw [Set.mem_Ico]; omega) (by omega) _, fun k hk h1 => ?_, ?_⟩
  · exact (ctxWord_ctxSet_ne (by omega)).trans (hread k hk)
  · rw [binMoved, ctxWord_ctxSet hwork.ok, endTick, hwork.rest]

theorem binBegun_spec {id b : Nat} {suspect : Bool} {s : State} (hs : CtxOk s) (hb : b + 10 ≤ 128) :
    let t := binBegun id b suspect s
    CtxWork id (Set.Ico b (b + 10)) s t ∧ ctxWord t id (b + 1) = s.tick ∧
      ctxWord t id b = mkWord [(35, 1), (34, b2n suspect)] ∧ ∀ k, k < 8 → ctxWord t id (b + 2 + k) = 0 := by
  obtain ⟨hwork, hnull⟩ := ctxSets_spec (id := id) (d := b + 2) (val := fun _ _ => 0) hs (N := 8) (by omega)
    (fun _ _ _ _ => rfl) (Nat.le_refl 8)
  have hclear := hwork.mono (Set.Ico_subset_Ico (show b ≤ b + 2 by omega) (show b + 2 + 8 ≤ b + 10 by omega))
  have hhead := hclear.ctxSet (w := b) (by simp) (by omega) (mkWord [(35, 1), (34, b2n suspect)])
  refine ⟨hhead.ctxSet (by simp) (by omega) _, ?_, ?_, fun k hk => ?_⟩
  · rw [binBegun, ctxWord_ctxSet hhead.ok, hwork.rest]
  · rw [binBegun, ctxWord_ctxSet_ne (by omega), ctxWord_ctxSet hwork.ok]
  · rw [binBegun, ctxWord_ctxSet_ne (by omega), ctxWord_ctxSet_ne (by omega)]
    exact hnull k hk

theorem rollBin_spec {id b : Nat} {suspect : Bool} {s : State} (hs : CtxOk s) (hb : b + 20 ≤ 128) :
    let t := rollBin id b suspect s
    CtxWork id (Set.Ico b (b + 20)) s t ∧
      (∀ k, k < 10 → k ≠ 1 → ctxWord t id (b + 10 + k) = ctxWord s id (b + k)) ∧ ctxWord t id (b + 11) = s.tick - 1 ∧
      ctxWord t id (b + 1) = s.tick ∧ ctxWord t id b = mkWord [(35, 1), (34, b2n suspect)] ∧
      ∀ k, k < 8 → ctxWord t id (b + 2 + k) = 0 := by
  rw [rollBin_eq]
  obtain ⟨hmoved, hprev, hend⟩ := binMoved_spec (id := id) hs hb
  obtain ⟨hbegun, hstart, hrest⟩ := binBegun_spec (id := id) (b := b) (suspect := suspect) hmoved.ok (by omega)
  have hkept (w : Nat) (h10 : 10 ≤ w) (h20 : w < 20) : ctxWord (binBegun id b suspect (binMoved id b s)) id (b + w) =
      ctxWord (binMoved id b s) id (b + w) := hbegun.words _ _ (.inr (by rw [Set.mem_Ico]; omega)) (by omega)
  refine ⟨?_, fun k hk h1 => ?_, (hkept 11 (by decide) (by decide)).trans hend, ?_, hrest⟩
  · exact (hmoved.mono (Set.Ico_subset_Ico (by omega) (by omega))).trans
      (hbegun.mono (Set.Ico_subset_Ico (by omega) (by omega)))
  · rw [Nat.add_assoc, hkept _ (by omega) (by omega), ← Nat.add_assoc]
    exact hprev k hk h1
  · rw [hstart, hmoved.rest]

/-! ### The instructions on the opened slot -/

theorem ranOn.putCtx {s t : State} {e : Nat} {E : Engine} (h : ranOn s t e E) (c : Tab Word) :
    ranOn (s.putCtx c) (t.putCtx c) e E := by
  obtain ⟨heng, hothers, hcw, ht⟩ := h
  refine ⟨heng, hothers, hcw, ?_⟩
  rw [ht]
  rfl

section Opened
variable {s o : State} {i : IssA} (ho : opened s o i)
include ho

theorem opened_ctx : o.ctx = s.ctx := opened_blind (π := State.ctx) ho (fun _ _ => rfl) (fun _ _ => rfl) fun _ _ => rfl
theorem opened_tick : o.tick = s.tick := opened_blind (π := State.tick) ho (fun _ _ => rfl) (fun _ _ => rfl) fun _ _ => rfl
theorem opened_monGet (k : Nat) : monGet o k = monGet s k :=
  opened_blind (π := fun s => monGet s k) ho (fun _ _ => rfl) (fun _ _ => rfl) fun _ _ => rfl
theorem opened_ctxWord (k w : Nat) : ctxWord o k w = ctxWord s k w := ctxWord_congr (opened_ctx ho) k w

end Opened

section Bins
variable {i : IssA} {gD gA : Reg} {off : Fin 256} {param : Fin 8} {bin suspect : Bool} {id : Nat} {s : State}
  (ht : takesEffect s (issueOfA i) = true) (hid : namedContext s i gA off.val = some id)
include ht hid

theorem alm_records : ∃ o, opened s o i ∧ exec (.alm i gA off) s =
    .next (record (fld (monGet s id).w9 27 25) 0x04 i.eng.val
      [mkWord [(22, id), (17, fld (monGet s id).w8 35 31)], ctxWord s id 32, ctxWord s id 36, s.tick - 1] o) :=
  issueA_does ht fun _ ho => by
    simp only [opened_onContext_some ho hid, opened_monGet ho, opened_ctxWord ho, endTick, opened_tick ho]

theorem pmAdd_adds (hs : CtxOk s) :
    let v := (source s (issueOfA i) gD).toNat
    ∃ t, exec (.pmAdd i gD gA off param) s = .next t ∧ ranOn { s with ctx := t.ctx } t i.eng.val (engGet s i.eng.val) ∧
      (∀ p ∈ [66, 86], ctxWord t id (p + param.val) = binSum (ctxWord s id (p + param.val)) v) ∧
      (∀ p ∈ [64, 84], ctxWord t id p = binHead (ctxWord s id p) (ctxWord s id (p + 2 + param.val)) v) ∧
      ∀ k w, k ≠ id ∨ w ∉ [64, 66 + param.val, 84, 86 + param.val] → w < 128 → ctxWord t k w = ctxWord s k w := by
  intro v
  obtain ⟨o, ho, hexec⟩ : ∃ o, opened s o i ∧
      exec (.pmAdd i gD gA off param) s = .next (binAdd id 84 param.val v (binAdd id 64 param.val v o)) :=
    issueA_does ht fun o ho => by rw [opened_onContext_some ho hid, opened_operand ho]
  have hok : CtxOk o := by rw [CtxOk, opened_ctx ho]; exact hs
  obtain ⟨hcount, hhead, hwork⟩ := binAdd_spec (id := id) (b := 64) (v := v) hok param.isLt (by omega)
  obtain ⟨hcount', hhead', hwork'⟩ := binAdd_spec (id := id) (b := 84) (v := v) hwork.ok param.isLt (by omega)
  have hfirst {w : Nat} (h : w < 84) : ctxWord (binAdd id 84 param.val v (binAdd id 64 param.val v o)) id w =
      ctxWord (binAdd id 64 param.val v o) id w :=
    hwork'.words _ _ (.inr (by simp only [Set.mem_insert_iff, Set.mem_singleton_iff]; omega)) (by omega)
  have hsecond {w : Nat} (h : 84 ≤ w) (h128 : w < 128) : ctxWord (binAdd id 64 param.val v o) id w = ctxWord s id w :=
    (hwork.words _ _ (.inr (by simp only [Set.mem_insert_iff, Set.mem_singleton_iff]; omega)) h128).trans
      (opened_ctxWord ho _ _)
  have hboth : CtxWork id {w | w ∈ [64, 66 + param.val, 84, 86 + param.val]} o
      (binAdd id 84 param.val v (binAdd id 64 param.val v o)) :=
    (hwork.mono (Set.pair_subset (by simp) (by simp))).trans (hwork'.mono (Set.pair_subset (by simp) (by simp)))
  refine ⟨_, hexec, ?_, ?_, ?_, fun k w hw h128 => (hboth.words k w hw h128).trans (opened_ctxWord ho _ _)⟩
  · have hran := ho.1.putCtx (binAdd id 84 param.val v (binAdd id 64 param.val v o)).ctx
    exact hboth.rest ▸ hran
  · simp only [List.forall_mem_cons, List.not_mem_nil, false_imp_iff, implies_true, and_true]
    exact ⟨by rw [hfirst (by omega), hcount, opened_ctxWord ho], by rw [hcount', hsecond (by omega) (by omega)]⟩
  · simp only [List.forall_mem_cons, List.not_mem_nil, false_imp_iff, implies_true, and_true]
    refine ⟨by rw [hfirst (by omega), hhead, opened_ctxWord ho, opened_ctxWord ho], ?_⟩
    rw [hhead', hsecond (by omega) (by omega), hsecond (by omega) (by omega)]

theorem pmRoll_rolls (hs : CtxOk s) :
    let m := monGet s id
    let e := i.eng.val
    let b := if bin then 84 else 64
    ∃ o t, opened s o i ∧ exec (.pmRoll i gA off bin suspect) s = .next t ∧
      t = (if (if bin then m.w9.getLsbD 22 else m.w9.getLsbD 23) then pmRecord e id b { o with ctx := t.ctx }
           else { o with ctx := t.ctx }) ∧
      (∀ k, k < 10 → k ≠ 1 → ctxWord t id (b + 10 + k) = ctxWord s id (b + k)) ∧ ctxWord t id (b + 11) = s.tick - 1 ∧
      ctxWord t id (b + 1) = s.tick ∧ ctxWord t id b = mkWord [(35, 1), (34, b2n suspect)] ∧
      (∀ k, k < 8 → ctxWord t id (b + 2 + k) = 0) ∧
      ∀ k w, k ≠ id ∨ w < b ∨ b + 20 ≤ w → w < 128 → ctxWord t k w = ctxWord s k w := by
  intro m e b
  have hb : b + 20 ≤ 128 := by cases bin <;> decide
  obtain ⟨o, ho, hexec⟩ : ∃ o, opened s o i ∧ exec (.pmRoll i gA off bin suspect) s =
      .next (if bit (monGet (rollBin id b suspect o) id).w9 (if bin then 22 else 23) then
        pmRecord e id b (rollBin id b suspect o) else rollBin id b suspect o) :=
    issueA_does ht fun o ho => opened_onContext_some ho hid _
  have hok : CtxOk o := by rw [CtxOk, opened_ctx ho]; exact hs
  obtain ⟨hwork, hprev, hend, hstart, hhead, hnull⟩ := rollBin_spec (id := id) (b := b) (suspect := suspect) hok hb
  obtain ⟨r, hr⟩ : ∃ r, r = rollBin id b suspect o := ⟨_, rfl⟩
  rw [← hr] at hwork hprev hend hstart hhead hnull
  have hflag : bit (monGet r id).w9 (if bin then 22 else 23) = (if bin then m.w9.getLsbD 22 else m.w9.getLsbD 23) := by
    have hmon : monGet r id = m := (monGet_congr (by rw [hwork.rest]) id).trans (opened_monGet ho id)
    rw [hmon, bit_eq_getLsbD]
    cases bin <;> rfl
  rw [← hr, hflag] at hexec
  have hctx (flag : Bool) : (if flag then pmRecord e id b r else r).ctx = r.ctx := by
    cases flag
    · rfl
    · exact pmRecord_frame (π := State.ctx) (fun _ _ => rfl) (fun _ _ => rfl) (fun _ _ => rfl) (fun _ _ => rfl)
        (fun _ _ => rfl) e id b r rfl
  have hword := ctxWord_congr (hctx (if bin then m.w9.getLsbD 22 else m.w9.getLsbD 23))
  refine ⟨o, _, ho, hexec, ?_, ?_⟩
  · rw [hctx, ← hwork.rest]
  · simp only [hword, hend, hstart, hhead, opened_tick ho, true_and]
    refine ⟨fun k hk h1 => (hprev k hk h1).trans (opened_ctxWord ho _ _), hnull, fun k w hw h128 => ?_⟩
    exact (hwork.words k w (hw.imp_right fun h => by rw [Set.mem_Ico]; omega) h128).trans (opened_ctxWord ho _ _)

end Bins

/-- Settles O11: each instruction by what it leaves of the slot it opens. -/
theorem alarmsAndBinsAreRecorded : Obligations.AlarmsAndBinsAreRecorded := by
  unfold Obligations.AlarmsAndBinsAreRecorded
  intro i gD gA off param bin suspect id s ht hid e m v b last
  exact ⟨alm_records ht hid, fun hs => ⟨pmAdd_adds ht hid hs, pmRoll_rolls ht hid hs⟩⟩

end Sys2Proof.Machine
end

section
/-! PROOFS. O39: occurrences that a filter cell compares, and the values it accepts. -/

namespace Sys2Proof.Machine

/-! ### Cells -/

/-- The cells of a state are in canonical form. -/
abbrev CellsOk (s : State) : Prop := tabWf (fun _ => ({} : Cell)) s.cells = true

theorem tablesOk_cells {s : State} (h : Safety.tablesOk s = true) : CellsOk s := by
  simp only [Safety.tablesOk, Safety.lineTables, Bool.and_eq_true] at h; tauto

theorem cellGet_cellPut {k : Nat} {c : Cell} {s : State} (h : CellsOk s) : cellGet (cellPut k c s) k = c :=
  tabGet_tabSet_same (d := fun _ => ({} : Cell)) h

theorem keeps_cellPut {k : Nat} {c : Cell} {s : State} : keeps cellGet s (cellPut k c s) [k] :=
  fun _ hj => tabGet_tabSet_ne (by simpa using hj)

/-- A cell put over a cell put. -/
theorem cellPut_twice {k : Nat} {c d : Cell} {s : State} (h : CellsOk s) :
    cellGet (cellPut k d (cellPut k c s)) k = d ∧ keeps cellGet s (cellPut k d (cellPut k c s)) [k] ∧
      cellPut k d (cellPut k c s) = { s with cells := (cellPut k d (cellPut k c s)).cells } :=
  ⟨cellGet_cellPut (tabSet_ok' h), keeps_cellPut.trans keeps_cellPut, rfl⟩

/-! ### What a cell compares (R142) -/

section Single
variable {s : State} {k : Nat} (h : fld (cellCfg s k) 34 33 = 0)
include h

theorem occurrence_single :
    occurrence s k = [ohWord s (cellCtx (cellCfg s k)) (fld (cellCfg s k) 14 9) (fld (cellCfg s k) 8 3)] :=
  if_neg (by rw [h]; decide)

theorem sameOccurrence_single (a b : List Word) : sameOccurrence s k a b =
    (a.map (· &&& cwGet s (cellAddr (k / 2048) (k % 2048) 1)) == b.map (· &&& cwGet s (cellAddr (k / 2048) (k % 2048) 1))) :=
  if_neg (by rw [h]; decide)

theorem acceptedWords_single (n : Nat) : acceptedWords s k n = [(cellGet s k).acc] := if_neg (by rw [h]; decide)

theorem acceptWords_single (v : Word) : acceptWords k [v] s = farAccepted k (cellPut k { cellGet s k with
    acc := v, valid := true, changes := min ((cellGet s k).changes + 1) 0xFFFF, got := (cellGet s k).got + 1,
    unstable := false } s) := by
  simp only [acceptWords, h, Nat.zero_ne_one, decide_false, Bool.false_eq_true, if_false]
  rfl

end Single

/-! ### Contexts that hold their cells (R144) -/

theorem testBit_holdMask (i : Nat) : holdMask.testBit i = true ↔ i ∈ [Df.ssf, Df.los, Df.lof, Df.lom, Df.ais] := by
  by_cases hi : i < 36
  · revert i
    decide
  · have hlt : holdMask < 2 ^ i := 
      Nat.lt_of_lt_of_le (m := 2 ^ 36) (by decide) (Nat.pow_le_pow_right (by decide) (by omega))
    rw [Nat.testBit_lt_two_pow hlt]
    simp only [List.mem_cons, List.not_mem_nil, Df.ssf, Df.los, Df.lof, Df.lom, Df.ais, Bool.false_eq_true, false_iff,
      or_false]
    omega

theorem cellHeld_iff {s : State} {id : Nat} : cellHeld s id = true ↔
    (∃ d, d ∈ [Df.ssf, Df.los, Df.lof, Df.lom, Df.ais] ∧ defOn (monGet s id) d = true) ∨ ctxInFrame s id = false := by
  have hmask : Nat.land (monGet s id).defs holdMask ≠ 0 ↔
      ∃ d, d ∈ [Df.ssf, Df.los, Df.lof, Df.lom, Df.ais] ∧ defOn (monGet s id) d = true := by
    have hbit (d : Nat) : (Nat.land (monGet s id).defs holdMask).testBit d =
        (defOn (monGet s id) d && holdMask.testBit d) := Nat.testBit_and _ _ _
    constructor
    · intro h
      obtain ⟨d, hd⟩ := Nat.exists_testBit_of_ne_zero h
      rw [hbit, Bool.and_eq_true, testBit_holdMask] at hd
      exact ⟨d, hd.2, hd.1⟩
    · rintro ⟨d, hd, hon⟩ h0
      have hset := hbit d
      rw [h0, hon, (testBit_holdMask d).2 hd, Nat.zero_testBit] at hset
      cases hset
  rw [cellHeld, Bool.or_eq_true, decide_eq_true_eq, hmask, Bool.not_eq_true']

/-! ### FILTER_OCCURRENCE (R144) -/

/-- What an occurrence leaves at a cell that is not held, once it has brought the run to a length. -/
def ranTo (k run : Nat) (ws : List Word) (s : State) : State :=
  let q := cellGet s k
  let full := decide (run ≥ cellN (cellCfg s k))
  let t := cellPut k { q with run := run, prev := some ws, below := if full then 0 else q.below + 1,
                              unstable := if full then false else q.unstable } s
  if full && (!q.valid || !sameOccurrence t k ws (acceptedWords t k ws.length)) then acceptWords k ws t else t

/-- The run of a cell after an occurrence of one word. -/
def runAfter (q : Cell) (mask word : Word) (n : Nat) : Nat :=
  if q.prev.map (fun p => p.map (· &&& mask)) = some [word &&& mask] then min (q.run + 1) n else 1

/-- A cell after an occurrence of one word that brings its run to a length, N being n. -/
def cellAfter (q : Cell) (word : Word) (n run : Nat) : Cell :=
  { q with run := run, prev := some [word], below := if n ≤ run then 0 else q.below + 1,
           unstable := if n ≤ run then false else q.unstable }

theorem cellAfter_of_short {q : Cell} {word : Word} {n run : Nat} (h : run < n) :
    cellAfter q word n run = { q with run := run, prev := some [word], below := q.below + 1 } := by
  rw [cellAfter, if_neg (Nat.not_le.2 h), if_neg (Nat.not_le.2 h)]

theorem cellAfter_of_full {q : Cell} {word : Word} {n run : Nat} (h : n ≤ run) :
    cellAfter q word n run = { q with run := run, prev := some [word], below := 0, unstable := false } := by
  rw [cellAfter, if_pos h, if_pos h]

section Single
variable {s : State} {k : Nat} (hkind : fld (cellCfg s k) 34 33 = 0)
include hkind

theorem runAfter_single (word : Word) (n : Nat) :
    (if (cellGet s k).prev.any (sameOccurrence s k · [word]) then Nat.min ((cellGet s k).run + 1) n else 1) =
      runAfter (cellGet s k) (cwGet s (cellAddr (k / 2048) (k % 2048) 1)) word n := by
  unfold runAfter
  cases (cellGet s k).prev with
  | none => rfl
  | some p => simp only [Option.any_some, sameOccurrence_single hkind, Option.map_some, Option.some_inj, beq_iff_eq,
      List.map_cons, List.map_nil, natMin_eq]

theorem ranTo_single (hs : CellsOk s) (word : Word) (run : Nat) :
    let q := cellGet s k
    let n := cellN (cellCfg s k)
    let mask := cwGet s (cellAddr (k / 2048) (k % 2048) 1)
    let t := cellPut k (cellAfter q word n run) s
    ranTo k run [word] s =
      if n ≤ run ∧ (q.valid = false ∨ word &&& mask ≠ q.acc &&& mask) then acceptWords k [word] t else t := by
  intro q n mask t
  have hsame : sameOccurrence t k [word] (acceptedWords t k 1) = (word &&& mask == q.acc &&& mask) := by
    have hacc : (cellGet t k).acc = q.acc := by rw [cellGet_cellPut hs]; rfl
    rw [acceptedWords_single (s := t) hkind, sameOccurrence_single (s := t) hkind, hacc]
    simp [mask, t, cellPut, cwGet]
  unfold ranTo
  simp only [ge_iff_le, decide_eq_true_eq]
  change (if (decide (n ≤ run) && (!q.valid || !sameOccurrence t k [word] (acceptedWords t k 1))) = true then _ else _) = _
  simp only [hsame, Bool.and_eq_true, Bool.or_eq_true, Bool.not_eq_true', beq_eq_false_iff_ne, decide_eq_true_eq]
  rfl

end Single

section Occurrence
variable {c : ClusterId} {i : Fin 2048} {s : State}

theorem filterOccurrence_off (h : (cellCfg s (cellKey c.val i.val)).getLsbD 35 = false) :
    exec (.filterOccurrence c i) s = .next s := by
  rw [exec_filterOccurrence]
  exact congrArg _ (if_pos (by rw [bit_eq_getLsbD, h]; rfl))

section Enabled
variable (hw : (cellCfg s (cellKey c.val i.val)).getLsbD 35 = true)
include hw

theorem filterOccurrence_held (h : cellHeld s (cellCtx (cellCfg s (cellKey c.val i.val))) = true) :
    exec (.filterOccurrence c i) s = .next (cellPut (cellKey c.val i.val)
      { cellGet s (cellKey c.val i.val) with run := 0 } s) := by
  rw [exec_filterOccurrence]
  exact congrArg _ ((if_neg (by rw [bit_eq_getLsbD, hw]; decide)).trans (if_pos h))

theorem filterOccurrence_free (hheld : cellHeld s (cellCtx (cellCfg s (cellKey c.val i.val))) = false) :
    let k := cellKey c.val i.val
    let q := cellGet s k
    let ws := occurrence s k
    exec (.filterOccurrence c i) s = .next (settleDefs (ranTo k
      (if q.prev.any (sameOccurrence s k · ws) then Nat.min (q.run + 1) (cellN (cellCfg s k)) else 1) ws s)) := by
  rw [exec_filterOccurrence]
  refine congrArg _ ((if_neg (by rw [bit_eq_getLsbD, hw]; decide)).trans ((if_neg (by rw [hheld]; decide)).trans ?_))
  dsimp only
  cases (cellGet s (cellKey c.val i.val)).prev <;> rfl

end Enabled

/-! ### FILTER_UNSTABLE (R143) -/

theorem filterUnstable_of_due (hw : (cellCfg s (cellKey c.val i.val)).getLsbD 35 = true)
    (h : 12 ≤ (cellGet s (cellKey c.val i.val)).below) : exec (.filterUnstable c i) s =
      .next (settleDefs (cellPut (cellKey c.val i.val) { cellGet s (cellKey c.val i.val) with unstable := true } s)) := by
  rw [exec_filterUnstable]
  exact congrArg _ (if_pos (by rw [bit_eq_getLsbD, hw, decide_eq_true h]; rfl))

theorem filterUnstable_idle (h : (cellCfg s (cellKey c.val i.val)).getLsbD 35 = false ∨
    (cellGet s (cellKey c.val i.val)).below < 12) : exec (.filterUnstable c i) s = .next s := by
  rw [exec_filterUnstable]
  refine congrArg _ (if_neg ?_)
  rw [bit_eq_getLsbD, Bool.and_eq_true, decide_eq_true_eq]
  rintro ⟨hw, hdue⟩
  rcases h with h | h
  · rw [h] at hw
    cases hw
  · omega

end Occurrence

/-- Settles O39: an occurrence at a cell by its enable, its context's hold and the run it reaches. -/
theorem filterCellsAcceptAfterNOccurrences : Obligations.FilterCellsAcceptAfterNOccurrences := by
  unfold Obligations.FilterCellsAcceptAfterNOccurrences
  intro c i s hs k w q id field n m held word mask x run single
  have hcells := tablesOk_cells hs
  have hstep (h : single) : x = .next (settleDefs (if n ≤ run ∧ (q.valid = false ∨ word &&& mask ≠ q.acc &&& mask) then
      acceptWords k [word] (cellPut k (cellAfter q word n run) s) else cellPut k (cellAfter q word n run) s)) := by
    obtain ⟨hw, hheld, hkind⟩ := h
    have hfree := filterOccurrence_free hw (by rw [← Bool.not_eq_true, cellHeld_iff]; exact hheld)
    dsimp only at hfree
    rw [occurrence_single hkind, runAfter_single hkind, ranTo_single hkind hcells] at hfree
    exact hfree
  refine ⟨filterOccurrence_off, fun hw hheld => filterOccurrence_held hw (cellHeld_iff.2 hheld), fun h hlt => ?_,
    fun h hfull hvalid heq => ?_, fun h hfull hnew => ?_, filterUnstable_of_due, filterUnstable_idle⟩
  · rw [hstep h, if_neg fun hc => Nat.not_le.2 hlt hc.1, cellAfter_of_short hlt]
  · have hsame : ¬ (n ≤ run ∧ (q.valid = false ∨ word &&& mask ≠ q.acc &&& mask)) := by simp [hvalid, heq]
    rw [hstep h, if_neg hsame, cellAfter_of_full hfull]
  · rw [hstep h, if_pos ⟨hfull, hnew⟩, acceptWords_single (s := cellPut k _ s) h.2.2, cellGet_cellPut hcells,
      cellAfter_of_full hfull]
    exact ⟨_, rfl, cellPut_twice hcells⟩

end Sys2Proof.Machine
end

section
/-! PROOFS. O37: filter cells set up, the bin clock, LOS, defects and consequent actions. -/

namespace Sys2Proof.Machine

/-! ### FC_CFG and FC_MASK (R141, R145) -/

theorem cellAddr_cellKey (c : ClusterId) (cell : Fin 2048) (w : Nat) :
    cellAddr (cellKey c.val cell.val / 2048) (cellKey c.val cell.val % 2048) w = cellAddr c.val cell.val w := by
  have hdiv : cellKey c.val cell.val / 2048 = c.val := by unfold cellKey; omega
  have hmod : cellKey c.val cell.val % 2048 = cell.val := by unfold cellKey; omega
  rw [hdiv, hmod]

/-- A cell whose set-up goes from one word to another. -/
def restarted (old new : Word) (c : Cell) : Cell :=
  let c := { c with run := 0 }
  let c := if fld old 34 33 != fld new 34 33 || fld old 28 3 != fld new 28 3 then { c with valid := false, acc := 0 } else c
  if !bit old 35 && bit new 35 then { c with changes := 0 } else c

theorem restarted_run (old new : Word) (c : Cell) : (restarted old new c).run = 0 := by
  unfold restarted
  dsimp only
  split <;> split <;> rfl

theorem restarted_acc {old new : Word} {c : Cell} (hkind : fld old 34 33 = fld new 34 33) (hword : fld old 28 3 = fld new 28 3) :
    (restarted old new c).acc = c.acc := by
  simp only [restarted, hkind, hword, bne_self_eq_false, Bool.or_self, Bool.false_eq_true, if_false]
  split <;> rfl

theorem restarted_word {old new : Word} {c : Cell} (hword : fld old 28 3 ≠ fld new 28 3) :
    (restarted old new c).valid = false ∧ (restarted old new c).acc = 0 := by
  have hmoved : (fld old 34 33 != fld new 34 33 || fld old 28 3 != fld new 28 3) = true := by simp [hword]
  simp only [restarted, hmoved, if_true]
  split <;> exact ⟨rfl, rfl⟩

theorem restarted_changes {old new : Word} {c : Cell} (hold : old.getLsbD 35 = false) (hnew : new.getLsbD 35 = true) :
    (restarted old new c).changes = 0 := by
  simp only [restarted, bit_eq_getLsbD, hold, hnew, Bool.not_false, Bool.and_self, if_true]

section FilterSetUp
variable {c : ClusterId} {cell : Fin 2048} {word : Fin 2} {w : CtlWrite} {s : State}

theorem fcCfg_of_count (h : word.val = 0 ∧ fld w.value 32 29 = 1) :
    exec (.fcCfg c cell word w) s = .next (refuse w.origin 0x05 .word (cellAddr c.val cell.val word.val) s) := by
  rw [exec_fcCfg, execFcCfg, applyFilt, if_pos (by simp [h.1, h.2])]
  rfl

theorem fcCfg_of_kind (h : word.val = 0 ∧ 2 ≤ fld w.value 34 33) (hn : ¬ (word.val = 0 ∧ fld w.value 32 29 = 1)) :
    exec (.fcCfg c cell word w) s = .next (refuse w.origin 0x02 .word (cellAddr c.val cell.val word.val) s) := by
  rw [exec_fcCfg, execFcCfg, applyFilt, if_neg (by simpa using hn), if_pos (by simp [h.1, h.2])]
  rfl

theorem fcCfg_stored (hs : Safety.tablesOk s = true) (hn : ¬ (word.val = 0 ∧ fld w.value 32 29 = 1))
    (hk : ¬ (word.val = 0 ∧ 2 ≤ fld w.value 34 33)) :
    let a := cellAddr c.val cell.val word.val
    let k := cellKey c.val cell.val
    let old := cellCfg s k
    let new := w.value &&& BitVec.ofNat 36 ((ohStore word.val).getD 0)
    applies w.origin .word a s (exec (.fcCfg c cell word w) s) fun t => ∃ v, t = settleDefs v ∧ cwGet v a = new ∧
      cwKept s v [a] ∧ (cellGet v k).run = 0 ∧ keeps cellGet s v [k] ∧ v = { s with cw := v.cw, cells := v.cells } ∧
      (word.val = 0 → fld old 34 33 = fld new 34 33 → fld old 28 3 = fld new 28 3 → (cellGet v k).acc = (cellGet s k).acc) ∧
      (word.val = 0 → fld old 28 3 ≠ fld new 28 3 → (cellGet v k).valid = false ∧ (cellGet v k).acc = 0) ∧
      (word.val = 0 → old.getLsbD 35 = false → new.getLsbD 35 = true → (cellGet v k).changes = 0) := by
  intro a k old new
  obtain ⟨stored, hstored⟩ : ∃ u, u = cwSet a new s := ⟨_, rfl⟩
  obtain ⟨v, hv⟩ : ∃ v, v = cellPut k (restarted old (cellCfg stored k) (cellGet s k)) stored := ⟨_, rfl⟩
  have happly : applyFilt k word.val w.value s = .ok (settleDefs v) := by
    rw [applyFilt, if_neg (by simpa using hn), if_neg (by simpa using hk), hv, hstored, cellAddr_cellKey]
    rfl
  obtain ⟨hget, hkept, -⟩ := cwSet_spec (a := a) (x := new) hs
  have hcells : CellsOk stored := by rw [hstored]; exact tablesOk_cells (s := s) hs
  have hcell : cellGet v k = restarted old (cellCfg stored k) (cellGet s k) := by rw [hv]; exact cellGet_cellPut hcells
  have hnew (h0 : word.val = 0) : cellCfg stored k = new := by
    rw [hstored, cellCfg, cellAddr_cellKey, ← h0]
    exact hget
  rw [exec_fcCfg, execFcCfg, happly]
  refine applies_ok ⟨v, rfl, ?_, ?_, by rw [hcell, restarted_run], ?_, ?_, fun h0 hkind hword => ?_, fun h0 hword => ?_,
    fun h0 hold hon => ?_⟩
  · rw [hv, hstored]
    exact hget
  · rw [hv, hstored]
    exact hkept
  · rw [hv, hstored]
    exact keeps_cellPut
  · rw [hv, hstored]
    rfl
  · rw [hcell, hnew h0, restarted_acc hkind hword]
  · rw [hcell, hnew h0]
    exact restarted_word hword
  · rw [hcell, hnew h0, restarted_changes hold hon]

end FilterSetUp

/-! ### The bin clock (R154) -/

section BinClock
variable {u : UnitId} {w : CtlWrite} {s : State}

theorem ohPmSet_of_range (hset : w.value.getLsbD 35 = true) (h : 7199999 < fld w.value 32 10 ∨ 95 < fld w.value 9 3) :
    exec (.ohPmSet u w) s = .next (refuse w.origin 0x05 .word (ctlAddr clsOh u.val 0x800) s) := by
  rw [exec_ohPmSet, execOhPmSet, applyPmSet, if_neg (by rw [bit_eq_getLsbD, hset]; decide), if_pos (by simpa using h)]
  rfl

theorem ohPmSet_loads (hset : w.value.getLsbD 35 = true) (hq : fld w.value 32 10 ≤ 7199999) (hd : fld w.value 9 3 ≤ 95) :
    applies w.origin .word (ctlAddr clsOh u.val 0x800) s (exec (.ohPmSet u w) s) fun t =>
      t = { s with binLoad := some (fld w.value 32 10, fld w.value 9 3) } := by
  rw [exec_ohPmSet, execOhPmSet, applyPmSet, if_neg (by rw [bit_eq_getLsbD, hset]; decide), if_neg (by
    simp only [gt_iff_lt, Bool.or_eq_true, decide_eq_true_eq]; omega)]
  exact applies_ok rfl

theorem ohPmSet_idle (hset : w.value.getLsbD 35 = false) :
    applies w.origin .word (ctlAddr clsOh u.val 0x800) s (exec (.ohPmSet u w) s) fun t => t = s := by
  rw [exec_ohPmSet, execOhPmSet, applyPmSet, if_pos (by rw [bit_eq_getLsbD, hset]; rfl)]
  exact applies_ok rfl

end BinClock

/-! ### LOS and the defects of Table 4-16 (R147, R149) -/

section Defects
variable {r : StreamRef} {x : CtxId} {d : Fin 36} {s : State}

theorem losDeclare_of_missing (hl : frmLive (frmCfg s r.unit.val r.num.val) = true)
    (h : signalMissing s r = true ∨ frmProto (frmCfg s r.unit.val r.num.val) = 3) :
    exec (.losDeclare r) s = .next (setLos r true s) := by
  rw [exec_losDeclare]
  exact congrArg _ (if_pos (by simpa [hl] using h))

theorem losDeclare_idle (h : frmLive (frmCfg s r.unit.val r.num.val) = false ∨
    (signalMissing s r = false ∧ frmProto (frmCfg s r.unit.val r.num.val) ≠ 3)) :
    exec (.losDeclare r) s = .next s := by
  rw [exec_losDeclare]
  refine congrArg _ (if_neg ?_)
  rcases h with h | ⟨h, h3⟩
  · simp [h]
  · simp [h, h3]

theorem losClear_of_present (hl : frmLive (frmCfg s r.unit.val r.num.val) = true) (h : signalMissing s r = false) :
    exec (.losClear r) s = .next (setLos r false s) := by
  rw [exec_losClear]
  exact congrArg _ (if_pos (by simp [hl, h]))

theorem losClear_idle (h : frmLive (frmCfg s r.unit.val r.num.val) = false ∨ signalMissing s r = true) :
    exec (.losClear r) s = .next s := by
  rw [exec_losClear]
  refine congrArg _ (if_neg ?_)
  rcases h with h | h <;> simp [h]

theorem defectDeclare_of_met (h : declareMet s x.val d.val = true) :
    exec (.defectDeclare x d) s = .next (setDefect x.val d.val true s) := by
  rw [exec_defectDeclare]
  exact congrArg _ (if_pos h)

theorem defectDeclare_idle (h : declareMet s x.val d.val = false) : exec (.defectDeclare x d) s = .next s := by
  rw [exec_defectDeclare]
  exact congrArg _ (if_neg (by simp [h]))

theorem defectClear_of_met (h : clearMet s x.val d.val = true) :
    exec (.defectClear x d) s = .next (setDefect x.val d.val false s) := by
  rw [exec_defectClear]
  exact congrArg _ (if_pos h)

theorem defectClear_idle (h : clearMet s x.val d.val = false) : exec (.defectClear x d) s = .next s := by
  rw [exec_defectClear]
  exact congrArg _ (if_neg (by simp [h]))

end Defects

/-! ### Consequent actions (R150) -/

theorem testBit_maskSet (m i : Nat) (v : Bool) : (maskSet m i v).testBit i = v := by
  unfold maskSet
  by_cases h : m.testBit i = v
  · rw [if_pos h, h]
  · rw [if_neg h]
    cases v with
    | true => simpa [h] using testBit_with m i
    | false =>
      have hset : m.testBit i = true := by simpa using h
      simpa [hset] using testBit_without m i

/-- The insertion of a context in a direction begun or ended. -/
theorem actions_put {id : Nat} {back v : Bool} {s : State} (hs : Safety.tablesOk s = true) :
    let m := monGet s id
    let t := monPut id { m with actions := maskSet m.actions (b2n back) v } s
    (monGet t id).actions.testBit (if back then 1 else 0) = v ∧ monGet t id = { m with actions := (monGet t id).actions } ∧
      keeps monGet s t [id] ∧ t = { s with mons := t.mons } := by
  intro m t
  obtain ⟨hmon, hkeeps, hrest, -⟩ := (MonWork.refl (k := id) (tablesOk_mons hs)).monPut
    { m with actions := maskSet m.actions (b2n back) v }
  refine ⟨?_, ?_, hkeeps, hrest⟩
  · rw [hmon]
    exact testBit_maskSet _ _ _
  · rw [hmon]

section Actions
variable {x : CtxId} {back : Bool} {s : State}

theorem consequentActionStart_of_due (hs : Safety.tablesOk s = true) (h : actionDue (monGet s x.val) back = true) :
    reaches (exec (.consequentActionStart x back) s) fun t =>
      (monGet t x.val).actions.testBit (if back then 1 else 0) = true ∧
      monGet t x.val = { monGet s x.val with actions := (monGet t x.val).actions } ∧ keeps monGet s t [x.val] ∧
      t = { s with mons := t.mons } := by
  rw [exec_consequentActionStart]
  exact ⟨_, congrArg Host.Outcome.next (if_pos h), actions_put hs⟩

theorem consequentActionEnd_of_past (hs : Safety.tablesOk s = true) (h : actionDue (monGet s x.val) back = false) :
    reaches (exec (.consequentActionEnd x back) s) fun t =>
      (monGet t x.val).actions.testBit (if back then 1 else 0) = false ∧
      monGet t x.val = { monGet s x.val with actions := (monGet t x.val).actions } ∧ keeps monGet s t [x.val] ∧
      t = { s with mons := t.mons } := by
  rw [exec_consequentActionEnd]
  exact ⟨_, congrArg Host.Outcome.next (if_neg (by rw [h]; decide)), actions_put hs⟩

theorem consequentActionStart_idle (h : actionDue (monGet s x.val) back = false) :
    exec (.consequentActionStart x back) s = .next s := by
  rw [exec_consequentActionStart]
  exact congrArg _ (if_neg (by rw [h]; decide))

theorem consequentActionEnd_idle (h : actionDue (monGet s x.val) back = true) :
    exec (.consequentActionEnd x back) s = .next s := by
  rw [exec_consequentActionEnd]
  exact congrArg _ (if_pos h)

end Actions

end Sys2Proof.Machine
end

section
/-! PROOFS. O37: captures of the counters into their shadows. -/

namespace Sys2Proof.Machine

/-! ### Control words copied -/

/-- From s to t only control words of a set change, and each copy of a relation (from, to) has been made. -/
structure CopyWork (as : Set Nat) (copy : Nat → Nat → Prop) (s t : State) : Prop where
  kept : ∀ a, a ∉ as → cwGet t a = cwGet s a
  copied : ∀ a b, copy a b → cwGet t b = cwGet s a
  ok : tabWf cwReset t.cw = true

theorem copyWork_cwSet {as : Set Nat} {a b : Nat} {s : State} (h : tabWf cwReset s.cw = true) (hb : b ∈ as) :
    CopyWork as (fun x y => x = a ∧ y = b) s (cwSet b (cwGet s a) s) where
  kept := fun x hx => cwGet_cwSet_ne fun e => hx (e ▸ hb)
  copied := by
    rintro x y ⟨rfl, rfl⟩
    exact cwGet_cwSet h
  ok := cwSet_ok h

/-- Steps that copy one after the other, where none touches what another copies from or to. -/
theorem copyWork_foldl {f : State → Nat → State} {as : Nat → Set Nat} {copy : Nat → Nat → Nat → Prop} {s : State}
    (hs : tabWf cwReset s.cw = true) {n : Nat}
    (hf : ∀ t i, i < n → tabWf cwReset t.cw = true → CopyWork (as i) (copy i) t (f t i))
    (hfrom : ∀ i j a b, i < n → j < n → i ≠ j → copy i a b → a ∉ as j)
    (hto : ∀ i j a b, i < n → j < n → i ≠ j → copy i a b → b ∉ as j) :
    CopyWork {a | ∃ i < n, a ∈ as i} (fun a b => ∃ i < n, copy i a b) s ((List.range n).foldl f s) := by
  induction n with
  | zero => exact ⟨fun _ _ => rfl, fun a b ⟨i, hi, _⟩ => absurd hi (Nat.not_lt_zero i), hs⟩
  | succ n ih =>
    have hrest := ih (fun t i hi => hf t i (by omega)) (fun i j a b hi hj => hfrom i j a b (by omega) (by omega))
      (fun i j a b hi hj => hto i j a b (by omega) (by omega))
    have hlast := hf _ n (Nat.lt_succ_self n) hrest.ok
    rw [List.range_succ, List.foldl_append]
    refine ⟨fun a ha => ?_, fun a b hab => ?_, hlast.ok⟩
    · refine (hlast.kept a fun h => ha ⟨n, Nat.lt_succ_self n, h⟩).trans (hrest.kept a ?_)
      rintro ⟨i, hi, h⟩
      exact ha ⟨i, by omega, h⟩
    · obtain ⟨i, hi, hcopy⟩ := hab
      rcases Nat.lt_succ_iff_lt_or_eq.1 hi with hlt | rfl
      · exact (hlast.kept b (hto i n a b hi (Nat.lt_succ_self n) (by omega) hcopy)).trans (hrest.copied a b ⟨i, hlt, hcopy⟩)
      · refine (hlast.copied a b hcopy).trans (hrest.kept a ?_)
        rintro ⟨j, hj, h⟩
        exact hfrom i j a b hi (by omega) (by omega) hcopy h

/-! ### The counters of one engine (R374, R376) -/

theorem pcAddr_inj_engine {e e' j k : Nat} (hj : j < 0x800) (hk : k < 0x800)
    (h : pcAddr e j = pcAddr e' k) : e = e' := by
  unfold pcAddr ctlAddr at h
  split at h <;> split at h <;> omega

/-- The words that a capture writes in the bank of an engine: its shadows, and FREEZE. -/
def captureWords (e : Nat) : Set Nat := {a | ∃ k, 0x18 ≤ k ∧ k < 0x30 ∧ a = pcAddr e k}

/-- A counter of an engine and its shadow. -/
def shadowOf (e a b : Nat) : Prop := ∃ j < 8, a = pcAddr e j ∧ b = pcAddr e (0x20 + j)

theorem captureEngine_copies {e : Nat} {s : State} (h : tabWf cwReset s.cw = true) :
    CopyWork {a | ∃ k < 10, a = pcAddr e (0x20 + k)} (shadowOf e) s (captureEngine e s) := by
  have hfold := copyWork_foldl (f := fun s k => cwSet (pcAddr e (0x20 + k)) (counterLive s e k) s)
    (as := fun k => {pcAddr e (0x20 + k)}) (copy := fun k a b => k < 8 ∧ a = pcAddr e k ∧ b = pcAddr e (0x20 + k))
    h (n := 10) (fun t k _ ht => ⟨fun a ha => cwGet_cwSet_ne ha, ?_, cwSet_ok ht⟩) ?_ ?_
  · obtain ⟨hkept, hcopied, hok⟩ := hfold
    exact ⟨hkept, fun a b ⟨j, hj, hab⟩ => hcopied a b ⟨j, by omega, hj, hab⟩, hok⟩
  · rintro a b ⟨hk, rfl, rfl⟩
    rw [cwGet_cwSet ht, counterLive, if_pos hk]
  · rintro i j a b hi hj hne ⟨hk, rfl, rfl⟩ hmem
    have := pcAddr_inj (Set.mem_singleton_iff.1 hmem)
    omega
  · rintro i j a b hi hj hne ⟨hk, rfl, rfl⟩ hmem
    have := pcAddr_inj (Set.mem_singleton_iff.1 hmem)
    omega

theorem captureOne_copies {e : Nat} {s : State} (h : tabWf cwReset s.cw = true) :
    CopyWork (captureWords e) (shadowOf e) s (freezeAtCapture e (captureEngine e s)) := by
  obtain ⟨hkept, hcopied, hok⟩ := captureEngine_copies (e := e) h
  refine ⟨fun a ha => ?_, fun a b hab => ?_, cwSet_ok hok⟩
  · refine (cwGet_cwSet_ne fun e => ha ⟨0x18, by decide, by decide, e⟩).trans (hkept a ?_)
    rintro ⟨k, hk, rfl⟩
    exact ha ⟨0x20 + k, by omega, by omega, rfl⟩
  · refine (cwGet_cwSet_ne ?_).trans (hcopied a b hab)
    obtain ⟨j, -, -, rfl⟩ := hab
    intro h
    have := pcAddr_inj h
    omega

/-! ### A capture as a whole -/

/-- The counters of every engine captured. -/
def capturedEngines (s : State) : State := (List.range 65).foldl (fun s e => freezeAtCapture e (captureEngine e s)) s

/-- The census counters captured. -/
def capturedCensus (s : State) : State :=
  (List.range 64).foldl (fun s n => cwSet (ctlAddr clsCen 0 (0x40 + n)) (cwGet s (ctlAddr clsCen 0 n)) s) s

theorem capturedEngines_copies {s : State} (h : tabWf cwReset s.cw = true) :
    CopyWork {a | ∃ e < 65, a ∈ captureWords e} (fun a b => ∃ e < 65, shadowOf e a b) s (capturedEngines s) := by
  refine copyWork_foldl h (fun t e _ ht => captureOne_copies ht) ?_ ?_
  · rintro i j a b hi hj hne ⟨k, hk, rfl, rfl⟩ ⟨l, -, hl, hmem⟩
    exact hne (pcAddr_inj_engine (by omega) (by omega) hmem)
  · rintro i j a b hi hj hne ⟨k, hk, rfl, rfl⟩ ⟨l, -, hl, hmem⟩
    exact hne (pcAddr_inj_engine (by omega) (by omega) hmem)

theorem ctlAddr_inj_idx {c n i j : Nat} (h : ctlAddr c n i = ctlAddr c n j) : i = j := by
  unfold ctlAddr at h
  omega

theorem capturedCensus_copies {s : State} (h : tabWf cwReset s.cw = true) :
    CopyWork {a | ∃ n < 64, a ∈ ({ctlAddr clsCen 0 (0x40 + n)} : Set Nat)}
      (fun a b => ∃ n < 64, a = ctlAddr clsCen 0 n ∧ b = ctlAddr clsCen 0 (0x40 + n)) s (capturedCensus s) := by
  refine copyWork_foldl h (fun t n _ ht => copyWork_cwSet ht rfl) ?_ ?_
  · rintro i j a b hi hj hne ⟨rfl, rfl⟩ hmem
    have := ctlAddr_inj_idx (Set.mem_singleton_iff.1 hmem)
    omega
  · rintro i j a b hi hj hne ⟨rfl, rfl⟩ hmem
    have := ctlAddr_inj_idx (Set.mem_singleton_iff.1 hmem)
    omega

theorem pcAddr_class {e k : Nat} (he : e < 65) (hk : k < 0x800) (j : Nat) (hj : j < 4096) :
    pcAddr e k ≠ ctlAddr clsCen 0 j :=
  ne_of_class (by rw [pcAddr_div he hk, ctlAddr_div (by decide) hj]; decide)

/-- A census word is none of the words captured for the engines. -/
theorem census_not_captured {j : Nat} (hj : j < 4096) : ctlAddr clsCen 0 j ∉ {a | ∃ e < 65, a ∈ captureWords e} := by
  rintro ⟨e, he, k, -, hk, h⟩
  exact pcAddr_class he (by omega) j hj h.symm

/-- The words of a state once the engines and the census are captured. -/
theorem captured_words {s : State} (h : tabWf cwReset s.cw = true) : let t := capturedCensus (capturedEngines s)
    (∀ e, e < 65 → ∀ j, j < 8 → cwGet t (pcAddr e (0x20 + j)) = cwGet s (pcAddr e j)) ∧
      (∀ n, n < 64 → cwGet t (ctlAddr clsCen 0 (0x40 + n)) = cwGet s (ctlAddr clsCen 0 n)) ∧
      (∀ j, 0x80 ≤ j → j < 4096 → cwGet t (ctlAddr clsCen 0 j) = cwGet s (ctlAddr clsCen 0 j)) ∧
      tabWf cwReset t.cw = true := by
  intro t
  obtain ⟨hkept, hcopied, hok⟩ := capturedEngines_copies h
  obtain ⟨hkept', hcopied', hok'⟩ := capturedCensus_copies hok
  refine ⟨fun e he j hj => ?_, fun n hn => ?_, fun j hj h4096 => ?_, hok'⟩
  · refine (hkept' _ ?_).trans (hcopied _ _ ⟨e, he, j, hj, rfl, rfl⟩)
    rintro ⟨n, hn, hmem⟩
    exact pcAddr_class he (by omega) _ (by omega) (Set.mem_singleton_iff.1 hmem)
  · exact (hcopied' _ _ ⟨n, hn, rfl, rfl⟩).trans (hkept _ (census_not_captured (by omega)))
  · refine (hkept' _ ?_).trans (hkept _ (census_not_captured h4096))
    rintro ⟨n, hn, hmem⟩
    have := ctlAddr_inj_idx (Set.mem_singleton_iff.1 hmem)
    omega

/-- A state without what a capture may change. -/
def hideCounters (s : State) : State := { s with captures := 0, cw := [], lanes := [], decks := [] }

theorem capture_hide (s : State) : hideCounters (capture s) = hideCounters s :=
  capture_frame (π := hideCounters) (fun _ _ => rfl) (fun _ _ => rfl) (fun _ _ => rfl) s rfl

theorem rest_of_hideCounters {s t : State} (h : hideCounters t = hideCounters s) :
    t = { s with captures := t.captures, cw := t.cw, lanes := t.lanes, decks := t.decks } :=
  congrArg (fun x : State => { x with captures := t.captures, cw := t.cw, lanes := t.lanes, decks := t.decks }) h

/-- The counts of test patterns captured. -/
def capturedPatterns (s : State) : State :=
  (s.putLanes (tabMap {} (fun (l : Lane) => { l with prbsErrSnap := l.prbsErr, prbsBitsSnap := l.prbsBits }) s.lanes)).putDecks
    (tabMap {} (fun (k : DieDeck) => { k with prbsErrSnap := k.prbsErr }) s.decks)

/-- A capture noted in SNAP_SEQ and SNAP_TICK. -/
def captureNoted (s : State) : State :=
  let s := cwSet (ctlAddr clsCen 0 0x87) (cwGet s (ctlAddr clsCen 0 0x87) + 1) s
  cwSet (ctlAddr clsCen 0 0x88) s.tick s

theorem capture_eq (s : State) : capture s = captureNoted (capturedPatterns (capturedCensus (capturedEngines s))) := rfl

theorem captureNoted_words {s : State} (h : tabWf cwReset s.cw = true) : let t := captureNoted s
    cwGet t (ctlAddr clsCen 0 0x87) = cwGet s (ctlAddr clsCen 0 0x87) + 1 ∧ cwGet t (ctlAddr clsCen 0 0x88) = t.tick ∧
      ∀ a, a ≠ ctlAddr clsCen 0 0x87 → a ≠ ctlAddr clsCen 0 0x88 → cwGet t a = cwGet s a := by
  refine ⟨?_, cwGet_cwSet (cwSet_ok h), fun a h87 h88 => (cwGet_cwSet_ne h88).trans (cwGet_cwSet_ne h87)⟩
  exact (cwGet_cwSet_ne (by decide)).trans (cwGet_cwSet h)

/-- Control words after a capture. -/
theorem capture_words {s : State} (h : tabWf cwReset s.cw = true) : let t := capture s
    cwGet t (ctlAddr clsCen 0 0x87) = cwGet s (ctlAddr clsCen 0 0x87) + 1 ∧ cwGet t (ctlAddr clsCen 0 0x88) = t.tick ∧
      (∀ n, n < 64 → cwGet t (ctlAddr clsCen 0 (0x40 + n)) = cwGet s (ctlAddr clsCen 0 n)) ∧
      ∀ e, e < 65 → ∀ j, j < 8 → cwGet t (pcAddr e (0x20 + j)) = cwGet s (pcAddr e j) := by
  obtain ⟨hengines, hcensus, hkept, hok⟩ := captured_words h
  rw [capture_eq]
  obtain ⟨x, hx⟩ : ∃ x, x = capturedCensus (capturedEngines s) := ⟨_, rfl⟩
  rw [← hx] at hengines hcensus hkept hok ⊢
  obtain ⟨hseq, htick, hother⟩ := captureNoted_words (s := capturedPatterns x) hok
  have hsame : ∀ a, cwGet (capturedPatterns x) a = cwGet x a := cwGet_congr rfl
  refine ⟨by rw [hseq, hsame, hkept _ (by decide) (by decide)], htick, fun n hn => ?_, fun e he j hj => ?_⟩
  · have hne (k : Nat) (hk : 0x80 ≤ k) : ctlAddr clsCen 0 (0x40 + n) ≠ ctlAddr clsCen 0 k := fun e => by
      have := ctlAddr_inj_idx e
      omega
    rw [hother _ (hne _ (by decide)) (hne _ (by decide)), hsame, hcensus n hn]
  · have hne := pcAddr_class he (show 0x20 + j < 0x800 by omega)
    rw [hother _ (hne _ (by decide)) (hne _ (by decide)), hsame, hengines e he j hj]

section Capture
variable {s : State}

theorem snapInEdge_of_enabled (h : cwFld s (ctlAddr clsCen 0 0x86) 35 35 = 1) :
    exec .snapInEdge s = .next { s with captures := s.captures + 1 } := by
  rw [exec_snapInEdge]
  exact congrArg _ (if_pos h)

theorem snapInEdge_idle (h : cwFld s (ctlAddr clsCen 0 0x86) 35 35 ≠ 1) : exec .snapInEdge s = .next s := by
  rw [exec_snapInEdge]
  exact congrArg _ (if_neg h)

theorem snapCapture_idle {merged : Nat} (h : s.captures = 0) : exec (.snapCapture merged) s = .next s := by
  rw [exec_snapCapture]
  exact congrArg _ (if_pos h)

theorem snapCapture_captures {merged : Nat} (hs : Safety.tablesOk s = true) (h : 0 < s.captures) :
    reaches (exec (.snapCapture merged) s) fun t => t.captures = s.captures - max 1 merged ∧
      cwGet t (ctlAddr clsCen 0 0x87) = cwGet s (ctlAddr clsCen 0 0x87) + 1 ∧ cwGet t (ctlAddr clsCen 0 0x88) = s.tick ∧
      (∀ n, n < 64 → cwGet t (ctlAddr clsCen 0 (0x40 + n)) = cwGet s (ctlAddr clsCen 0 n)) ∧
      (∀ e, e < 65 → ∀ j, j < 8 → cwGet t (pcAddr e (0x20 + j)) = cwGet s (pcAddr e j)) ∧
      t = { s with captures := t.captures, cw := t.cw, lanes := t.lanes, decks := t.decks } := by
  obtain ⟨u, hu⟩ : ∃ u, u = s.putCaptures (s.captures - Nat.max 1 merged) := ⟨_, rfl⟩
  have hcw : u.cw = s.cw := by rw [hu]; rfl
  have hget := cwGet_eq hcw
  obtain ⟨hseq, htick, hcensus, hengines⟩ := capture_words (s := u) (by rw [hcw]; exact tablesOk_cw hs)
  have hhide : hideCounters (capture u) = hideCounters s := by
    rw [capture_hide, hu]
    rfl
  have hrest := rest_of_hideCounters hhide
  have hcaptures : (capture u).captures = u.captures :=
    capture_frame (π := State.captures) (fun _ _ => rfl) (fun _ _ => rfl) (fun _ _ => rfl) u rfl
  rw [hget] at hseq hcensus hengines
  refine ⟨capture u, ?_, by rw [hcaptures, hu]; rfl, hseq, ?_, hcensus, hengines, hrest⟩
  · rw [exec_snapCapture, hu]
    exact congrArg Host.Outcome.next (if_neg (by omega))
  · rw [htick, hrest]

end Capture

/-- Settles O37: each instruction by what its criterion lets it do. -/
theorem filtersBinsAndDefects : Obligations.FiltersBinsAndDefects := by
  unfold Obligations.FiltersBinsAndDefects
  intro c cell word w u r x d back merged s hs a k old new y bad kind pm q day err f ks los m
  exact ⟨fcCfg_of_count, fcCfg_of_kind, fcCfg_stored hs, ohPmSet_of_range, ohPmSet_loads, ohPmSet_idle,
    ⟨_, exec_ohErrClear u s, cwSet_spec hs⟩, losDeclare_of_missing, losDeclare_idle, losClear_of_present, losClear_idle,
    defectDeclare_of_met, defectDeclare_idle, defectClear_of_met, defectClear_idle, consequentActionStart_of_due hs,
    fun h => ⟨consequentActionStart_idle h, consequentActionEnd_of_past hs h⟩, consequentActionEnd_idle,
    snapInEdge_of_enabled, snapInEdge_idle, snapCapture_idle, snapCapture_captures hs⟩

end Sys2Proof.Machine
end

section
/-! PROOFS. Client queues and ports: what a key reads after a put, and what else stays. -/

namespace Sys2Proof.Machine

/-! ### Ports -/

theorem PortWork.cq {k : Nat} {s t : State} {p : Port} (h : PortWork k s t p) : t.cq = s.cq := by rw [h.rest]

/-- A port changed alone. -/
theorem portPut_spec {k : Nat} {p : Port} {s : State} (hs : Safety.tablesOk s = true) :
    portGet (portPut k p s) k = p ∧ keeps portGet s (portPut k p s) [k] ∧
      portPut k p s = { s with ports := (portPut k p s).ports } :=
  have h := (PortWork.refl (k := k) hs).portPut p
  ⟨h.port, h.ports, h.rest⟩

/-- A control word and a port changed, nothing else. -/
theorem portPut_cwSet_spec {k a : Nat} {p : Port} {v : Word} {s : State} (hs : Safety.tablesOk s = true) :
    let t := portPut k p (cwSet a v s)
    cwGet t a = v ∧ cwKept s t [a] ∧ portGet t k = p ∧ keeps portGet s t [k] ∧
      t = { s with cw := t.cw, ports := t.ports } := by
  obtain ⟨hport, hkeeps, -⟩ := portPut_spec (k := k) (p := p) hs
  exact ⟨cwGet_cwSet (tablesOk_cw hs), cwKept_cwSet, hport, hkeeps, rfl⟩

/-! ### Client queues -/

/-- The client queues of a state are in canonical form. -/
abbrev CqOk (s : State) : Prop := tabWf (fun _ => ({} : ClientQueue)) s.cq = true

theorem tablesOk_cq {s : State} (h : Safety.tablesOk s = true) : CqOk s := by
  simp only [Safety.tablesOk, Safety.lineTables, Bool.and_eq_true] at h; tauto

theorem cqGet_eq {s t : State} (h : t.cq = s.cq) : cqGet t = cqGet s := by
  funext q
  rw [cqGet, h, cqGet]

/-- From s to t one client queue becomes c, and nothing else changes. -/
structure CqWork (q : Nat) (s t : State) (c : ClientQueue) : Prop where
  queue : cqGet t q = c
  queues : keeps cqGet s t [q]
  rest : t = { s with cq := t.cq }
  ok : CqOk t

theorem CqWork.refl {q : Nat} {s : State} (h : CqOk s) : CqWork q s s (cqGet s q) :=
  ⟨rfl, fun _ _ => rfl, rfl, h⟩

theorem CqWork.cqPut {q : Nat} {s t : State} {c : ClientQueue} (h : CqWork q s t c) (c' : ClientQueue) :
    CqWork q s (cqPut q c' t) c' where
  queue := tabGet_tabSet_same (d := fun _ => ({} : ClientQueue)) h.ok
  queues := h.queues.trans fun _ hj => tabGet_tabSet_ne (by simpa using hj)
  rest := only_trans (put := State.putCq) (get := State.cq) (fun _ _ _ => rfl) h.rest rfl
  ok := tabSet_ok' h.ok

/-- A new high state changes that and the message that waits. -/
theorem CqWork.cqHigh {q : Nat} {s t : State} {c : ClientQueue} (h : CqWork q s t c) (hi : Bool) :
    ∃ x y, CqWork q s (cqHigh q hi t) { c with high := x, pause := y } := by
  obtain rfl := h.queue
  by_cases hsame : (cqGet t q).high = hi
  · refine ⟨(cqGet t q).high, (cqGet t q).pause, ?_⟩
    rw [Machine.cqHigh, if_pos hsame]
    exact h
  · refine ⟨hi, if bit (cwGet t (cqAddr q 2)) 30 then some hi else (cqGet t q).pause, ?_⟩
    rw [Machine.cqHigh, if_neg hsame]
    exact h.cqPut _

theorem CqWork.cqLevel {q : Nat} {s t : State} {c : ClientQueue} (h : CqWork q s t c) :
    ∃ x y, CqWork q s (cqLevel q t) { c with high := x, pause := y } := h.cqHigh _

theorem CqWork.cw {q : Nat} {s t : State} {c : ClientQueue} (h : CqWork q s t c) : t.cw = s.cw := by rw [h.rest]

end Sys2Proof.Machine
end

section
/-! PROOFS. O23: set-up and run writes of a mapper port, its start and its counts. -/

namespace Sys2Proof.Machine

theorem mapAddr_ne {u p w w' : Nat} (h : w ≠ w') : mapAddr u p w ≠ mapAddr u p w' := by
  unfold mapAddr ctlAddr
  omega

/-! ### What refuses a write (R165, R167, R174) -/

/-- Against its own state a write is refused by its own status. -/
theorem mapRefusal_self (s : State) (u p w : Nat) (v : Word) : mapRefusal s s u p w v = mapWriteStatus s u p w v := by
  unfold mapRefusal
  split
  next h => exact h.symm
  next => rfl

theorem mapRefusal_of_free {before s : State} {u p w : Nat} {v : Word} (h : mapWriteStatus before u p w v = 0) :
    mapRefusal before s u p w v = 0 := by
  rw [mapRefusal, h, ite_self]

theorem enabled_of_mapLive {w : Word} (h : mapLive w = true) : bit w 35 = true := by
  rw [mapLive, Bool.and_eq_true] at h
  exact h.1

/-- Run words of an enabled port: transmit runs are refused while a swap of the die is armed, receive runs never. -/
theorem mapWriteStatus_run {s : State} {u p w : Nat} {v : Word} (hl : mapLive (mapCfg s u p) = true) (hw : 4 ≤ w) :
    mapWriteStatus s u p w v = if 8 ≤ w ∧ (dieDeck s (dieOf u)).pending = true then 0x40 else 0 := by
  unfold mapWriteStatus
  simp only [enabled_of_mapLive hl, if_true, show w ≠ 0 by omega, show w ≠ 1 by omega, show w ≠ 2 by omega,
    show w ≠ 3 by omega, Bool.and_eq_true, decide_eq_true_eq, if_false, Bool.or_self, decide_false, Bool.false_eq_true]
  rfl

/-! ### One write applied -/

section Apply
variable {before plan s : State} {u p w st : Nat} {v : Word}

theorem applyMap_refused (h : mapRefusal before s u p w v = st) (h0 : st ≠ 0) :
    applyMap before plan u p w v s = .error st := by
  unfold applyMap
  cases st with
  | zero => exact absurd rfl h0
  | succ n => rw [h]; rfl

theorem applyMap_unsound (h : mapRefusal before s u p w v = 0) (hst : portStatus plan u p = st) (h0 : st ≠ 0) :
    applyMap before plan u p w v s = .error st := by
  unfold applyMap
  rw [h, hst]
  exact if_pos h0

theorem mapCfg_mapStoreWord (hw : w ≠ 0) : mapCfg (mapStoreWord u p w v s) u p = mapCfg s u p :=
  cwGet_cwSet_ne (mapAddr_ne hw.symm)

/-- The runs of a port as its words hold them. -/
def wordRuns (s : State) (u p first : Nat) : Tab Word :=
  (List.range 4).foldl (fun t i => tabSet 0 t i (cwGet s (mapAddr u p (first + i)))) []

section Sound
variable (h : mapRefusal s s u p w v = 0) (hst : portStatus plan u p = 0)
include h hst

theorem applyMap_dead (hw : mapLive (mapCfg s u p) = false) (hl : mapLive (mapCfg (mapStoreWord u p w v s) u p) = false) :
    applyMap s plan u p w v s = .ok (mapStoreWord u p w v s) := by
  unfold applyMap
  simp [h, hst, hw, hl]

theorem applyMap_enables (hw : mapLive (mapCfg s u p) = false) (hl : mapLive (mapCfg (mapStoreWord u p w v s) u p) = true) :
    applyMap s plan u p w v s = .ok (portPut (portKey u p) { portGet s (portKey u p) with
      on := false, txRuns := wordRuns plan u p 8, rxRuns := wordRuns plan u p 4, txPend := false, rxPend := false }
      (mapStoreWord u p w v s)) := by
  unfold applyMap
  simp [h, hst, hw, hl]
  rfl

theorem applyMap_txRun (hl : mapLive (mapCfg s u p) = true) (h8 : 8 ≤ w) (h11 : w ≤ 11) :
    applyMap s plan u p w v s = .ok (portPut (portKey u p) { portGet s (portKey u p) with
      txPend := !(runWords (mapStoreWord u p w v s) u p 8 == runsHeld (portGet s (portKey u p)).txRuns) }
      (mapStoreWord u p w v s)) := by
  unfold applyMap
  simp [h, hst, hl, mapCfg_mapStoreWord (s := s) (show w ≠ 0 by omega), h8, h11]
  rfl

theorem applyMap_rxRun (hl : mapLive (mapCfg s u p) = true) (h4 : 4 ≤ w) (h7 : w ≤ 7) :
    applyMap s plan u p w v s = .ok (portPut (portKey u p) { portGet s (portKey u p) with
      rxPend := !(runWords (mapStoreWord u p w v s) u p 4 == runsHeld (portGet s (portKey u p)).rxRuns) }
      (mapStoreWord u p w v s)) := by
  unfold applyMap
  simp [h, hst, hl, mapCfg_mapStoreWord (s := s) (show w ≠ 0 by omega), h4, h7, show ¬ 8 ≤ w by omega]
  rfl

end Sound
end Apply

/-! ### MAP_CFG, MAP_TX_RUN and MAP_RX_RUN -/

section Writes
variable {r : PortRef} {w : MapWrite} {x : RunWrite} {s : State}

/-- Writes of a window none of which is refused by itself, but whose set-up breaks a rule, are all refused. -/
theorem mapCfg_of_unsound {ws : List MapWrite}
    (hst : portStatus (mapPlan r.unit.val r.port.val ws s) r.unit.val r.port.val ≠ 0)
    (hw : ∀ z ∈ ws, mapWriteStatus s r.unit.val r.port.val z.word.val z.value = 0) :
    exec (.mapCfg r ws) s = .next (ws.foldl (fun t z =>
      refuse z.origin (portStatus (mapPlan r.unit.val r.port.val ws s) r.unit.val r.port.val) .word
        (mapAddr r.unit.val r.port.val z.word.val) t) s) := by
  rw [exec_mapCfg, execMapCfg]
  refine congrArg _ (List.foldl_ext _ _ _ fun t z hz => ?_)
  exact congrArg (settle z.origin .word (mapAddr r.unit.val r.port.val z.word.val) t)
    (applyMap_unsound (mapRefusal_of_free (hw z hz)) rfl hst)

theorem mapCfg_single : exec (.mapCfg r [w]) s =
    .next (settle w.origin .word (mapAddr r.unit.val r.port.val w.word.val) s
      (applyMap s (mapStoreWord r.unit.val r.port.val w.word.val w.value s) r.unit.val r.port.val w.word.val w.value s)) :=
  rfl

theorem mapCfg_of_refused (h : mapWriteStatus s r.unit.val r.port.val w.word.val w.value ≠ 0) :
    exec (.mapCfg r [w]) s = .next (refuse w.origin (mapWriteStatus s r.unit.val r.port.val w.word.val w.value) .word
      (mapAddr r.unit.val r.port.val w.word.val) s) := by
  rw [mapCfg_single, applyMap_refused (mapRefusal_self _ _ _ _ _) h, settle_error]

section SetUp
variable (hs : Safety.tablesOk s = true) (hw : mapLive (mapCfg s r.unit.val r.port.val) = false)
  (h : mapWriteStatus s r.unit.val r.port.val w.word.val w.value = 0)
  (hst : portStatus (mapStoreWord r.unit.val r.port.val w.word.val w.value s) r.unit.val r.port.val = 0)
include hs hw h hst

theorem mapCfg_stores
    (hl : mapLive (mapCfg (mapStoreWord r.unit.val r.port.val w.word.val w.value s) r.unit.val r.port.val) = false) :
    let u := r.unit.val
    let p := r.port.val
    let a := mapAddr u p w.word.val
    applies w.origin .word a s (exec (.mapCfg r [w]) s) fun t =>
      cwGet t a = mapValue (mapAdapt (mapCfg s u p)) w.word.val w.value ∧ cwKept s t [a] ∧ t = { s with cw := t.cw } := by
  intro u p a
  rw [mapCfg_single, applyMap_dead (mapRefusal_of_free h) hst hw hl]
  exact applies_ok (cwSet_spec hs)

theorem mapCfg_enables
    (hl : mapLive (mapCfg (mapStoreWord r.unit.val r.port.val w.word.val w.value s) r.unit.val r.port.val) = true) :
    let u := r.unit.val
    let p := r.port.val
    let a := mapAddr u p w.word.val
    let k := portKey u p
    let plan := mapStoreWord u p w.word.val w.value s
    applies w.origin .word a s (exec (.mapCfg r [w]) s) fun t =>
      cwGet t a = mapValue (mapAdapt (mapCfg s u p)) w.word.val w.value ∧ cwKept s t [a] ∧
        portGet t k = { portGet s k with
          on := false, txRuns := wordRuns plan u p 8, rxRuns := wordRuns plan u p 4, txPend := false, rxPend := false } ∧
        keeps portGet s t [k] ∧ t = { s with cw := t.cw, ports := t.ports } := by
  intro u p a k plan
  rw [mapCfg_single, applyMap_enables (mapRefusal_of_free h) hst hw hl]
  exact applies_ok (portPut_cwSet_spec hs)

end SetUp

section Runs
variable (hl : mapLive (mapCfg s r.unit.val r.port.val) = true)
include hl

theorem mapTxRun_of_armed (hd : (dieDeck s (dieOf r.unit.val)).pending = true) :
    exec (.mapTxRun r [x]) s = .next (refuse x.origin 0x40 .word (mapAddr r.unit.val r.port.val (8 + x.word.val)) s) := by
  have hstatus : mapWriteStatus s r.unit.val r.port.val (8 + x.word.val) x.value = 0x40 := by
    rw [mapWriteStatus_run hl (by omega), if_pos ⟨by omega, hd⟩]
  have h := mapCfg_of_refused (r := r) (w := { origin := x.origin, word := ⟨8 + x.word.val, by omega⟩, value := x.value })
    (s := s) (by rw [hstatus]; decide)
  rw [hstatus] at h
  exact h

theorem mapTxRun_stores (hs : Safety.tablesOk s = true) (hd : (dieDeck s (dieOf r.unit.val)).pending = false)
    (hst : portStatus (mapStoreWord r.unit.val r.port.val (8 + x.word.val) x.value s) r.unit.val r.port.val = 0) :
    let u := r.unit.val
    let p := r.port.val
    let a := mapAddr u p (8 + x.word.val)
    let k := portKey u p
    let q := portGet s k
    applies x.origin .word a s (exec (.mapTxRun r [x]) s) fun t =>
      cwGet t a = mapValue (mapAdapt (mapCfg s u p)) (8 + x.word.val) x.value ∧ cwKept s t [a] ∧
        portGet t k = { q with txPend := !(runWords t u p 8 == runsHeld q.txRuns) } ∧ keeps portGet s t [k] ∧
        t = { s with cw := t.cw, ports := t.ports } := by
  intro u p a k q
  have hfree : mapRefusal s s u p (8 + x.word.val) x.value = 0 := by
    rw [mapRefusal_self, mapWriteStatus_run hl (by omega), if_neg (by simp [hd])]
  have hexec : exec (.mapTxRun r [x]) s = .next (settle x.origin .word a s
      (applyMap s (mapStoreWord u p (8 + x.word.val) x.value s) u p (8 + x.word.val) x.value s)) := rfl
  rw [hexec, applyMap_txRun hfree hst hl (by omega) (by omega)]
  exact applies_ok (portPut_cwSet_spec hs)

theorem mapRxRun_stores (hs : Safety.tablesOk s = true)
    (hst : portStatus (mapStoreWord r.unit.val r.port.val (4 + x.word.val) x.value s) r.unit.val r.port.val = 0) :
    let u := r.unit.val
    let p := r.port.val
    let a := mapAddr u p (4 + x.word.val)
    let k := portKey u p
    let q := portGet s k
    applies x.origin .word a s (exec (.mapRxRun r (.write [x])) s) fun t =>
      cwGet t a = mapValue (mapAdapt (mapCfg s u p)) (4 + x.word.val) x.value ∧ cwKept s t [a] ∧
        portGet t k = { q with rxPend := !(runWords t u p 4 == runsHeld q.rxRuns) } ∧ keeps portGet s t [k] ∧
        t = { s with cw := t.cw, ports := t.ports } := by
  intro u p a k q
  have hfree : mapRefusal s s u p (4 + x.word.val) x.value = 0 := by
    rw [mapRefusal_self, mapWriteStatus_run hl (by omega), if_neg (by omega)]
  have hexec : exec (.mapRxRun r (.write [x])) s = .next (settle x.origin .word a s
      (applyMap s (mapStoreWord u p (4 + x.word.val) x.value s) u p (4 + x.word.val) x.value s)) := rfl
  rw [hexec, applyMap_rxRun hfree hst hl (by omega) (by omega)]
  exact applies_ok (portPut_cwSet_spec hs)

end Runs
end Writes

/-! ### Frame boundaries (R166, R175) and counts -/

section Boundary
variable {r : PortRef} {s : State}

theorem mapRxRun_lands (h : (portGet s (portKey r.unit.val r.port.val)).rxPend = true) :
    let k := portKey r.unit.val r.port.val
    exec (.mapRxRun r .land) s = .next (refreshTribs (portPut k { portGet s k with
      rxPend := false, rxRuns := wordRuns s r.unit.val r.port.val 4 } s)) := by
  intro k
  rw [exec_mapRxRun]
  exact congrArg _ (if_pos h)

theorem mapRxRun_idle (h : (portGet s (portKey r.unit.val r.port.val)).rxPend = false) :
    exec (.mapRxRun r .land) s = .next s := by
  rw [exec_mapRxRun]
  exact congrArg _ (if_neg (by simp [h]))

theorem mapPortStart_of_live (h : mapLive (mapCfg s r.unit.val r.port.val) = true) :
    let k := portKey r.unit.val r.port.val
    exec (.mapPortStart r) s = .next (refreshTribs (portPut k { portGet s k with on := true } s)) := by
  intro k
  rw [exec_mapPortStart]
  exact congrArg _ (if_pos h)

theorem mapPortStart_of_dead (h : mapLive (mapCfg s r.unit.val r.port.val) = false) :
    let k := portKey r.unit.val r.port.val
    let q := portGet s k
    exec (.mapPortStart r) s = .next (refreshTribs (portPut k { cnt0 := q.cnt0, cnt1 := q.cnt1, calUse := q.calUse } s)) := by
  intro k q
  rw [exec_mapPortStart]
  exact congrArg _ (if_neg (by simp [h]))

end Boundary

/-- Settles O23: each write by what refuses it and what it stores, then the boundaries and the counts. -/
theorem portSetUpAndRuns : Obligations.PortSetUpAndRuns := by
  unfold Obligations.PortSetUpAndRuns
  intro r w ws x s hs u p k q cfg a new plan st txA rxA txV rxV words
  exact ⟨mapCfg_of_unsound, mapCfg_of_refused, fun hw h hst => mapCfg_stores hs hw h hst,
    fun hw h hst => mapCfg_enables hs hw h hst, mapTxRun_of_armed, fun hl hd hst => mapTxRun_stores hl hs hd hst,
    fun hl hst => mapRxRun_stores hl hs hst, mapRxRun_lands, mapRxRun_idle, mapPortStart_of_live, mapPortStart_of_dead,
    ⟨_, exec_mapCntClr r s, portPut_spec hs⟩⟩

end Sys2Proof.Machine
end


section
/-! PROOFS. O24: replacement, FlexE calendars, GFP reception and the frames that a packet channel sends. -/

namespace Sys2Proof.Machine

section Port
variable {r : PortRef} {s : State}

/-! ### Replacement and client-signal-fail (R180, R181) -/

theorem clientReplacementStart_of_failed {rx : Bool} (hon : (portGet s (portKey r.unit.val r.port.val)).on = true)
    (hf : directionFailed s r.unit.val r.port.val rx = true) :
    let k := portKey r.unit.val r.port.val
    let q := portGet s k
    exec (.clientReplacementStart r rx) s =
      .next (portPut k (if rx then { q with replRx := true } else { q with replTx := true }) s) := by
  intro k q
  rw [exec_clientReplacementStart]
  exact congrArg _ (if_pos (by rw [hon, hf]; rfl))

theorem clientReplacementStart_idle {rx : Bool} (h : (portGet s (portKey r.unit.val r.port.val)).on = false ∨
    directionFailed s r.unit.val r.port.val rx = false) : exec (.clientReplacementStart r rx) s = .next s := by
  rw [exec_clientReplacementStart]
  refine congrArg _ (if_neg ?_)
  rcases h with h | h <;> simp [h]

theorem clientReplacementEnd_of_good {rx : Bool} (h : directionFailed s r.unit.val r.port.val rx = false) :
    let k := portKey r.unit.val r.port.val
    let q := portGet s k
    exec (.clientReplacementEnd r rx) s =
      .next (portPut k (if rx then { q with replRx := false } else { q with replTx := false }) s) := by
  intro k q
  rw [exec_clientReplacementEnd]
  exact congrArg _ (if_neg (by rw [h]; decide))

/-- The two adaptations of GFP, as the model tests for them. -/
theorem gfpAdapt_iff {a : Nat} : (a == 9 || a == 0xA) = true ↔ a = 9 ∨ a = 10 := by simp

theorem gfpCsfSend_of_replaced
    (hg : mapAdapt (mapCfg s r.unit.val r.port.val) = 9 ∨ mapAdapt (mapCfg s r.unit.val r.port.val) = 10)
    (h : (portGet s (portKey r.unit.val r.port.val)).replTx = true) :
    exec (.gfpCsfSend r) s = .next { s with out := .gfpCsf r.unit.val r.port.val :: s.out } := by
  rw [exec_gfpCsfSend]
  exact congrArg _ (if_pos (by rw [gfpAdapt_iff.2 hg, h]; rfl))

theorem gfpCsfSend_idle
    (h : ¬ (mapAdapt (mapCfg s r.unit.val r.port.val) = 9 ∨ mapAdapt (mapCfg s r.unit.val r.port.val) = 10) ∨
      (portGet s (portKey r.unit.val r.port.val)).replTx = false) :
    exec (.gfpCsfSend r) s = .next s := by
  rw [exec_gfpCsfSend]
  refine congrArg _ (if_neg ?_)
  rw [Bool.and_eq_true, gfpAdapt_iff]
  rintro ⟨hg, ht⟩
  rcases h with h | h
  · exact h hg
  · exact Bool.false_ne_true (h.symm.trans ht)

/-! ### SHIM_CTRL and calendars (R184 to R186) -/

theorem liveAdapt_ne {u p n : Nat} (h0 : n ≠ 0) (h : mapAdapt (mapCfg s u p) ≠ n) : liveAdapt s u p ≠ n := by
  unfold liveAdapt
  split
  · exact h
  · exact h0.symm

section Shim
variable {w : CtlWrite}

theorem shimCalReq_eq : exec (.shimCalReq r w) s = .next (settle w.origin .word (mapAddr r.unit.val r.port.val 3) s
    (applyShim r.unit.val r.port.val w.value s)) := exec_shimCalReq r w s

theorem shimCalReq_stores (hs : Safety.tablesOk s = true) (h : w.value.getLsbD 35 = false) :
    let ctrl := mapAddr r.unit.val r.port.val 3
    applies w.origin .word ctrl s (exec (.shimCalReq r w) s) fun t =>
      cwGet t ctrl = mapValue (mapAdapt (mapCfg s r.unit.val r.port.val)) 3 w.value ∧ cwKept s t [ctrl] ∧
        t = { s with cw := t.cw } := by
  intro ctrl
  rw [shimCalReq_eq, applyShim, if_neg (by rw [bit_eq_getLsbD, h]; decide)]
  exact applies_ok (cwSet_spec hs)

variable (h : w.value.getLsbD 35 = true)
include h

theorem shimCalReq_of_busy (hb : (portGet s (portKey r.unit.val r.port.val)).calBusy = true) :
    exec (.shimCalReq r w) s = .next (refuse w.origin 0x36 .word (mapAddr r.unit.val r.port.val 3) s) := by
  rw [shimCalReq_eq, applyShim, if_pos (by rw [bit_eq_getLsbD, h]), if_pos hb, settle_error]
  rfl

variable (hb : (portGet s (portKey r.unit.val r.port.val)).calBusy = false)
include hb

theorem shimCalReq_of_shape
    (hc : mapAdapt (mapCfg s r.unit.val r.port.val) ≠ 12 ∨ calShapeOk s r.unit.val r.port.val = false) :
    exec (.shimCalReq r w) s = .next (refuse w.origin 0x37 .word (mapAddr r.unit.val r.port.val 3) s) := by
  have hbad : (liveAdapt s r.unit.val r.port.val != 0xC || !calShapeOk s r.unit.val r.port.val) = true := by
    rw [Bool.or_eq_true, bne_iff_ne, Bool.not_eq_true']
    exact hc.imp (liveAdapt_ne (by decide)) id
  rw [shimCalReq_eq, applyShim, if_pos (by rw [bit_eq_getLsbD, h]), if_neg (by rw [hb]; decide), if_pos hbad, settle_error]
  rfl

theorem shimCalReq_starts (hs : Safety.tablesOk s = true) (ha : liveAdapt s r.unit.val r.port.val = 12)
    (hc : calShapeOk s r.unit.val r.port.val = true) :
    let ctrl := mapAddr r.unit.val r.port.val 3
    let k := portKey r.unit.val r.port.val
    applies w.origin .word ctrl s (exec (.shimCalReq r w) s) fun t =>
      cwGet t ctrl = mapValue (mapAdapt (mapCfg s r.unit.val r.port.val)) 3 w.value ∧ cwKept s t [ctrl] ∧
        portGet t k = { portGet s k with calBusy := true } ∧ keeps portGet s t [k] ∧
        t = { s with cw := t.cw, ports := t.ports } := by
  intro ctrl k
  rw [shimCalReq_eq, applyShim, if_pos (by rw [bit_eq_getLsbD, h]), if_neg (by rw [hb]; decide),
    if_neg (by rw [ha, hc]; decide)]
  exact applies_ok (portPut_cwSet_spec hs)

end Shim

theorem flexeCalSwitch_spec (hs : Safety.tablesOk s = true)
    (h : (portGet s (portKey r.unit.val r.port.val)).calBusy = true) :
    let k := portKey r.unit.val r.port.val
    let q := portGet s k
    reaches (exec (.flexeCalSwitch r) s) fun t =>
      portGet t k = { q with calBusy := false, calUse := !q.calUse, cnt0 := cntAdd q.cnt0 35 18 1 } ∧
        keeps portGet s t [k] ∧ t = { s with ports := t.ports } := by
  intro k q
  have hwork := ((PortWork.refl (k := k) hs).portPut { q with calBusy := false, calUse := !q.calUse }).countPort0
    (hi := 35) (lo := 18) (n := 1)
  exact ⟨_, (exec_flexeCalSwitch r s).trans (congrArg Host.Outcome.next (if_pos h)), hwork.port, hwork.ports, hwork.rest⟩

theorem flexeCalTimeout_spec (hs : Safety.tablesOk s = true)
    (h : (portGet s (portKey r.unit.val r.port.val)).calBusy = true) :
    let k := portKey r.unit.val r.port.val
    let q := portGet s k
    ∃ x, exec (.flexeCalTimeout r) s =
        .next (record0 0x0E 65 (mkWord [(30, r.unit.val), (22, r.port.val), (21, b2n (!q.calUse))]) x) ∧
      portGet x k = { q with calBusy := false, cnt0 := cntAdd q.cnt0 17 0 1 } ∧ keeps portGet s x [k] ∧
      x = { s with ports := x.ports } := by
  intro k q
  have hwork := ((PortWork.refl (k := k) hs).portPut { q with calBusy := false }).countPort0 (hi := 17) (lo := 0) (n := 1)
  exact ⟨_, (exec_flexeCalTimeout r s).trans (congrArg Host.Outcome.next (if_pos h)), hwork.port, hwork.ports, hwork.rest⟩

theorem flexeCal_idle (h : (portGet s (portKey r.unit.val r.port.val)).calBusy = false) :
    exec (.flexeCalSwitch r) s = .next s ∧ exec (.flexeCalTimeout r) s = .next s :=
  ⟨(exec_flexeCalSwitch r s).trans (congrArg Host.Outcome.next (if_neg (by rw [h]; decide))),
    (exec_flexeCalTimeout r s).trans (congrArg Host.Outcome.next (if_neg (by rw [h]; decide)))⟩

/-! ### GFP reception (R181, R193) -/

theorem gfpFrameRx_idle {h : GfpHeader} {f : GfpRx} (hq : (portGet s (portKey r.unit.val r.port.val)).on = false ∨
    ¬ (mapAdapt (mapCfg s r.unit.val r.port.val) = 9 ∨ mapAdapt (mapCfg s r.unit.val r.port.val) = 10)) :
    exec (.gfpFrameRx r h f) s = .next s := by
  rw [exec_gfpFrameRx]
  refine congrArg _ (if_pos ?_)
  rw [Bool.or_eq_true, Bool.not_eq_true', Bool.not_eq_true', ← Bool.not_eq_true (_ || _), gfpAdapt_iff]
  exact hq

/-- What a frame delivered in SYNC does to its port. -/
def deliverGfp (k : Nat) (f : GfpRx) (s : State) : State :=
  match f with
  | .idle => s
  | .csf => portPut k { portGet s k with csfRx := true } s
  | .data bytes bad =>
    if (portGet s k).replRx || (portGet s k).egress.length ≥ 2 then s
    else portPut k { portGet s k with egress := (portGet s k).egress ++ [{ bytes := bytes, bad := bad }] } s

/-- A frame after its header moved the delineation: nothing more out of SYNC, in SYNC counted or delivered. -/
def gfpTaken (k : Nat) (synced : Bool) (h : GfpHeader) (f : GfpRx) (moved : State) : State :=
  let s := if synced && h == .single then countPort1 k 35 18 1 moved else moved
  if !synced then s else if h == .bad then countPort1 k 17 0 1 s else deliverGfp k f s

section Running
variable {h : GfpHeader} {f : GfpRx} (hon : (portGet s (portKey r.unit.val r.port.val)).on = true)
  (hg : mapAdapt (mapCfg s r.unit.val r.port.val) = 9 ∨ mapAdapt (mapCfg s r.unit.val r.port.val) = 10)
include hon hg

theorem gfpFrameRx_of_running :
    let k := portKey r.unit.val r.port.val
    let q := portGet s k
    exec (.gfpFrameRx r h f) s =
      .next (gfpTaken k (q.delin == .sync) h f (portPut k { q with delin := delinAfter q.delin h } s)) := by
  intro k q
  rw [exec_gfpFrameRx]
  exact congrArg Host.Outcome.next (if_neg (by rw [hon, gfpAdapt_iff.2 hg]; decide))

theorem gfpFrameRx_of_hunt (hd : (portGet s (portKey r.unit.val r.port.val)).delin = .hunt) :
    let k := portKey r.unit.val r.port.val
    exec (.gfpFrameRx r h f) s =
      .next (portPut k { portGet s k with delin := if h = .good then .presync else .hunt } s) := by
  intro k
  rw [gfpFrameRx_of_running hon hg, hd]
  cases h <;> rfl

theorem gfpFrameRx_of_presync (hd : (portGet s (portKey r.unit.val r.port.val)).delin = .presync) :
    let k := portKey r.unit.val r.port.val
    exec (.gfpFrameRx r h f) s =
      .next (portPut k { portGet s k with delin := if h = .good then .sync else .hunt } s) := by
  intro k
  rw [gfpFrameRx_of_running hon hg, hd]
  cases h <;> rfl

variable (hs : Safety.tablesOk s = true) (hd : (portGet s (portKey r.unit.val r.port.val)).delin = .sync)
include hs hd

theorem gfpFrameRx_loses :
    let k := portKey r.unit.val r.port.val
    let q := portGet s k
    reaches (exec (.gfpFrameRx r .bad f) s) fun t =>
      portGet t k = { q with delin := .hunt, cnt1 := cntAdd q.cnt1 17 0 1 } ∧ keeps portGet s t [k] ∧
        t = { s with ports := t.ports } := by
  intro k q
  have hwork := ((PortWork.refl (k := k) hs).portPut { q with delin := .hunt }).countPort1 (hi := 17) (lo := 0) (n := 1)
  exact ⟨_, by rw [gfpFrameRx_of_running hon hg, hd]; rfl, hwork.port, hwork.ports, hwork.rest⟩

/-- In SYNC a frame with a good header is delivered to a port that is otherwise as it was. -/
theorem gfpFrameRx_delivers :
    let k := portKey r.unit.val r.port.val
    ∃ x, exec (.gfpFrameRx r .good f) s = .next (deliverGfp k f x) ∧ PortWork k s x (portGet s k) := by
  intro k
  refine ⟨portPut k (portGet s k) s, ?_, (PortWork.refl hs).portPut _⟩
  have hsame : { portGet s k with delin := delinAfter .sync .good } = portGet s k := by
    rw [show delinAfter .sync .good = (portGet s k).delin from hd.symm]
  rw [gfpFrameRx_of_running hon hg, hd, hsame]
  rfl

theorem gfpFrameRx_csf :
    let k := portKey r.unit.val r.port.val
    reaches (exec (.gfpFrameRx r .good .csf) s) fun t =>
      portGet t k = { portGet s k with csfRx := true } ∧ keeps portGet s t [k] ∧ t = { s with ports := t.ports } := by
  intro k
  obtain ⟨x, hx, hwork⟩ := gfpFrameRx_delivers (f := .csf) hon hg hs hd
  have hput := hwork.portPut { portGet s k with csfRx := true }
  exact ⟨_, by rw [hx, deliverGfp, hwork.port], hput.port, hput.ports, hput.rest⟩

variable {bytes : List (Fin 256)} {bad : Bool}

theorem gfpFrameRx_data (hr : (portGet s (portKey r.unit.val r.port.val)).replRx = false)
    (he : (portGet s (portKey r.unit.val r.port.val)).egress.length < 2) :
    let k := portKey r.unit.val r.port.val
    let q := portGet s k
    reaches (exec (.gfpFrameRx r .good (.data bytes bad)) s) fun t =>
      portGet t k = { q with egress := q.egress ++ [{ bytes := bytes, bad := bad }] } ∧ keeps portGet s t [k] ∧
        t = { s with ports := t.ports } := by
  intro k q
  obtain ⟨x, hx, hwork⟩ := gfpFrameRx_delivers (f := .data bytes bad) hon hg hs hd
  have hput := hwork.portPut { q with egress := q.egress ++ [{ bytes := bytes, bad := bad }] }
  refine ⟨_, ?_, hput.port, hput.ports, hput.rest⟩
  rw [hx, deliverGfp, hwork.port, if_neg (by simp [hr, he])]

theorem gfpFrameRx_full (h : (portGet s (portKey r.unit.val r.port.val)).replRx = true ∨
    2 ≤ (portGet s (portKey r.unit.val r.port.val)).egress.length) :
    let k := portKey r.unit.val r.port.val
    reaches (exec (.gfpFrameRx r .good (.data bytes bad)) s) fun t =>
      portGet t k = portGet s k ∧ keeps portGet s t [k] ∧ t = { s with ports := t.ports } := by
  intro k
  obtain ⟨x, hx, hwork⟩ := gfpFrameRx_delivers (f := .data bytes bad) hon hg hs hd
  refine ⟨x, ?_, hwork.port, hwork.ports, hwork.rest⟩
  rw [hx, deliverGfp, hwork.port, if_pos (by simpa using h)]

end Running

/-! ### CHAN_FRAME_TX (R190) -/

theorem chanFrameTx_idle (h : nextEgress s r.unit.val r.port.val = none) : exec (.chanFrameTx r) s = .next s := by
  rw [exec_chanFrameTx, execChanFrameTx]
  simp only [h]

/-- The oldest frame of a GFP port taken from its egress buffer, that port served last. -/
def egressTaken (k kv : Nat) (rest : List Egress) (s : State) : State :=
  let s := portPut kv { portGet s kv with egress := rest } s
  portPut k { portGet s k with served := kv } s

theorem emit_portPut_rest {o : Out} {k : Nat} {p : Port} {x : State} (h : x = { s with ports := x.ports }) :
    let t := emit o (portPut k p x)
    t = { s with ports := t.ports, out := t.out } ∧ t.out = o :: s.out := by
  obtain ⟨ps, rfl⟩ : ∃ ps, x = { s with ports := ps } := ⟨_, h⟩
  exact ⟨rfl, rfl⟩

theorem emit_egressTaken_spec {o : Out} {k kv : Nat} {rest : List Egress} (hs : Safety.tablesOk s = true) (hk : kv ≠ k) :
    let t := emit o (egressTaken k kv rest s)
    (portGet t kv).egress = rest ∧ (portGet t k).served = kv ∧ keeps portGet s t [k, kv] ∧
      t = { s with ports := t.ports, out := t.out } ∧ t.out = o :: s.out := by
  have hsent := (PortWork.refl (k := kv) hs).portPut { portGet s kv with egress := rest }
  have hkept : ∀ (p : Port) (x : State), keeps portGet x (portPut k p x) [k] :=
    fun _ _ _ hj => tabGet_tabSet_ne (by simpa using hj)
  refine ⟨?_, ?_, fun j hj => ?_, emit_portPut_rest hsent.rest⟩
  · exact congrArg Port.egress ((hkept _ _ _ (by simpa using hk)).trans hsent.port)
  · exact congrArg Port.served (tabGet_tabSet_same (d := fun _ => ({} : Port)) hsent.ok)
  · rw [List.mem_cons, not_or] at hj
    exact (hkept _ _ j (by simpa using hj.1)).trans (hsent.ports j hj.2)

theorem chanFrameTx_sends {v : Nat × Nat} {e : Egress} {rest : List Egress} (hs : Safety.tablesOk s = true)
    (h : nextEgress s r.unit.val r.port.val = some v) (he : (portGet s (portKey v.1 v.2)).egress = e :: rest)
    (hk : portKey v.1 v.2 ≠ portKey r.unit.val r.port.val) :
    let u := r.unit.val
    let p := r.port.val
    let k := portKey u p
    reaches (exec (.chanFrameTx r) s) fun t =>
      (portGet t (portKey v.1 v.2)).egress = rest ∧ (portGet t k).served = portKey v.1 v.2 ∧
      keeps portGet s t [k, portKey v.1 v.2] ∧ t = { s with ports := t.ports, out := t.out } ∧
      t.out = .chanFrame u p (chanHeader false e.bad false (cwFld s (mapAddr v.1 v.2 1) 21 11) e.bytes.length) e.bytes ::
        s.out := by
  intro u p k
  have hexec : exec (.chanFrameTx r) s = .next (emit (.chanFrame u p (chanHeader false e.bad false
      (cwFld (egressTaken k (portKey v.1 v.2) rest s) (mapAddr v.1 v.2 1) 21 11) e.bytes.length) e.bytes)
      (egressTaken k (portKey v.1 v.2) rest s)) := by
    rw [exec_chanFrameTx, execChanFrameTx]
    simp only [h, he]
    rfl
  rw [cwFld_eq (t := egressTaken k (portKey v.1 v.2) rest s) rfl] at hexec
  exact ⟨_, hexec, emit_egressTaken_spec hs hk⟩

end Port

/-- Settles O24: each instruction by the state of its port that lets it act. -/
theorem replacementCalendarsAndGfp : Obligations.ReplacementCalendarsAndGfp := by
  unfold Obligations.ReplacementCalendarsAndGfp
  intro r rx w h bytes bad f s hs u p k q adapt put gfp ctrl stored
  exact ⟨clientReplacementStart_of_failed, clientReplacementStart_idle, clientReplacementEnd_of_good,
    gfpCsfSend_of_replaced, gfpCsfSend_idle, exec_csfRxTimeout r s, shimCalReq_stores hs, shimCalReq_of_busy,
    shimCalReq_of_shape, fun hw hb ha hc => shimCalReq_starts hw hb hs ha hc,
    fun hb => ⟨flexeCalSwitch_spec hs hb, flexeCalTimeout_spec hs hb⟩, flexeCal_idle,
    fun hon hg => ⟨gfpFrameRx_of_hunt hon hg, gfpFrameRx_of_presync hon hg,
      fun hd hbad => hbad ▸ gfpFrameRx_loses hon hg hs hd, fun hd hgood => hgood ▸
        ⟨gfpFrameRx_csf hon hg hs hd, gfpFrameRx_data hon hg hs hd, gfpFrameRx_full hon hg hs hd⟩⟩,
    gfpFrameRx_idle, chanFrameTx_idle, fun v e rest => chanFrameTx_sends hs⟩

end Sys2Proof.Machine
end


section
/-! PROOFS. O25: frames from the NPU into client queues, and the XOFF and XON messages to it. -/

namespace Sys2Proof.Machine

/-- A client queue changed after work on one port. -/
theorem PortWork.cqPut_spec {k m : Nat} {s t : State} {p : Port} {c : ClientQueue} (hs : Safety.tablesOk s = true)
    (h : PortWork k s t p) :
    let y := cqPut m c t
    cqGet y m = c ∧ portGet y k = p ∧ keeps portGet s y [k] ∧ keeps cqGet s y [m] ∧
      y = { s with ports := y.ports, cq := y.cq } := by
  have hok : CqOk t := by
    rw [CqOk, h.cq]
    exact tablesOk_cq hs
  refine ⟨tabGet_tabSet_same (d := fun _ => ({} : ClientQueue)) hok, h.port, h.ports, fun j hj => ?_, ?_⟩
  · exact (tabGet_tabSet_ne (by simpa using hj)).trans (congrFun (cqGet_eq h.cq) j)
  · have hrest := h.rest
    obtain ⟨ps, rfl⟩ : ∃ ps, t = { s with ports := ps } := ⟨_, hrest⟩
    rfl

/-! ### Which ports take frames -/

section Port
variable {r : PortRef} {s : State}

theorem chanFrameRx_idle
    (h : ¬ (liveAdapt s r.unit.val r.port.val = 11 ∧ (portGet s (portKey r.unit.val r.port.val)).on = true)) (x : ChanStep) : exec (.chanFrameRx r x) s = .next s := by
  rw [exec_chanFrameRx]
  refine congrArg _ (if_pos ?_)
  rw [Bool.or_eq_true, bne_iff_ne, Bool.not_eq_true', ← Bool.not_eq_true, ← not_and_or]
  exact h

section Chan
variable (hc : liveAdapt s r.unit.val r.port.val = 11 ∧ (portGet s (portKey r.unit.val r.port.val)).on = true)
include hc

/-- A running packet channel takes each part of a frame. -/
theorem chanFrameRx_of_running (x : ChanStep) : exec (.chanFrameRx r x) s = .next (match x with
    | .head h => chanHead r.unit.val r.port.val (h.map (·.val)) s
    | .data bs => chanData r.unit.val r.port.val bs s
    | .finish ok => chanFinish r.unit.val r.port.val ok s) := by
  obtain ⟨ha, hon⟩ := hc
  rw [exec_chanFrameRx]
  exact congrArg Host.Outcome.next (if_neg (by rw [ha, hon]; decide))

end Chan
end Port

/-! ### The start of a frame (R187, R188) -/

section Head
variable {u p : Nat} {hd : List Nat} {s : State}

/-- The frame arriving at a port is dropped. -/
def dropRx (k : Nat) (s : State) : State :=
  portPut k { portGet s k with rx := some { queue := none, len := 0, got := 0 } } s

theorem PortWork.dropRx {k : Nat} {s t : State} {q : Port} (h : PortWork k s t q) :
    PortWork k s (dropRx k t) { q with rx := some { queue := none, len := 0, got := 0 } } := by
  rw [Machine.dropRx, h.port]
  exact h.portPut _

/-- The queue that a header names is an enabled queue of the channel. -/
def headerMine (s : State) (u p n : Nat) : Prop :=
  cqOn s n = true ∧ n / 1024 = dieOf u ∧ fld (cwGet s (cqAddr n 2)) 28 23 = u ∧ fld (cwGet s (cqAddr n 2)) 22 15 = p

theorem headerForeign_iff {n : Nat} : (!cqOn s n || n / 1024 != dieOf u || fld (cwGet s (cqAddr n 2)) 28 23 != u ||
    fld (cwGet s (cqAddr n 2)) 22 15 != p) = true ↔ ¬ headerMine s u p n := by
  simp only [headerMine, Bool.or_eq_true, Bool.not_eq_true', bne_iff_ne, ← Bool.not_eq_true, not_and_or, or_assoc]

theorem chanHead_of_form (h : headerOk hd = false) :
    chanHead u p hd s = dropRx (portKey u p) (countPort0 (portKey u p) 35 18 1 s) := if_pos (by rw [h]; rfl)

variable (hok : headerOk hd = true)
include hok

theorem chanHead_of_foreign (h : ¬ headerMine s u p (headerChan hd)) :
    chanHead u p hd s = dropRx (portKey u p) (countPort0 (portKey u p) 17 0 1 s) :=
  (if_neg (by rw [hok]; decide)).trans (if_pos (headerForeign_iff.2 h))

variable (hm : headerMine s u p (headerChan hd))
include hm

theorem chanHead_of_length (h : headerLen hd < 60 ∨ 9600 < headerLen hd) :
    chanHead u p hd s = dropRx (portKey u p) (countPort1 (portKey u p) 17 0 1 s) :=
  (if_neg (by rw [hok]; decide)).trans ((if_neg (mt headerForeign_iff.1 (not_not_intro hm))).trans
    (if_pos (by simpa using h)))

theorem chanHead_of_sound (h60 : 60 ≤ headerLen hd) (h9600 : headerLen hd ≤ 9600) :
    let n := headerChan hd
    let k := portKey u p
    chanHead u p hd s = portPut k { portGet s k with rx := some { queue := some n, len := headerLen hd, got := 0 } }
      (cqPut n { cqGet s n with items := (cqGet s n).items ++ [{ len := headerLen hd }], isAt := (cqGet s n).wp } s) :=
  (if_neg (by rw [hok]; decide)).trans ((if_neg (mt headerForeign_iff.1 (not_not_intro hm))).trans
    (if_neg (by simp; omega)))

end Head

/-! ### Octets and the end of a frame (R189) -/

section Body
variable {u p : Nat} {s : State}

theorem chanData_of_none {bs : List (Fin 256)} (h : (portGet s (portKey u p)).rx = none) : chanData u p bs s = s := by
  simp only [chanData, h]

theorem chanFinish_of_none {ok : Bool} (h : (portGet s (portKey u p)).rx = none) : chanFinish u p ok s = s := by
  simp only [chanFinish, h]

variable {x : ChanRx} (h : (portGet s (portKey u p)).rx = some x)
include h

theorem chanData_of_dropped {bs : List (Fin 256)} (hq : x.queue = none) :
    let k := portKey u p
    chanData u p bs s = portPut k { portGet s k with rx := some { x with got := x.got + bs.length } } s := by
  simp only [chanData, h, hq]

theorem chanFinish_of_dropped {ok : Bool} (hq : x.queue = none) :
    let k := portKey u p
    chanFinish u p ok s = portPut k { portGet s k with rx := none } s := by
  simp only [chanFinish, h, hq]

variable {m : Nat} (hq : x.queue = some m)
include hq

theorem chanFinish_of_whole (hlen : x.got = x.len) :
    let k := portKey u p
    chanFinish u p true s = chanComplete m (portPut k { portGet s k with rx := none } s) := by
  simp only [chanFinish, h, hq, hlen, ne_eq, not_true_eq_false, if_false, Bool.not_true, Bool.false_eq_true]

/-- A frame of the wrong length that has not started is taken back from its queue. -/
theorem chanFinish_of_wrong {ok : Bool} {i : ClientItem} (hlen : x.got ≠ x.len)
    (hi : (cqGet s m).items.getLast? = some i) (hst : i.started = false) :
    let k := portKey u p
    chanFinish u p ok s = cqLevel m (cqPut m (dropNewest (cqGet s m))
      (countPort1 k 17 0 1 (portPut k { portGet s k with rx := none } s))) := by
  have hget : cqGet (portPut (portKey u p) { portGet s (portKey u p) with rx := none } s) = cqGet s := cqGet_eq rfl
  have hget' : cqGet (countPort1 (portKey u p) 17 0 1 (portPut (portKey u p) { portGet s (portKey u p) with rx := none } s)) =
    cqGet s := cqGet_eq rfl
  simp only [chanFinish, h, hq, hget, hget', hi, hst, ne_eq, hlen, not_false_eq_true, if_true, Bool.false_eq_true, if_false]

end Body

section Frames
variable {r : PortRef} {s : State}
  (hc : liveAdapt s r.unit.val r.port.val = 11 ∧ (portGet s (portKey r.unit.val r.port.val)).on = true)
include hc

section Start
variable {h : List (Fin 256)}

/-- A header that is refused drops its frame; the field it is counted in reads as counted. -/
theorem chanFrameRx_drops {x : State} {q : Port} {f : Port → Word}
    (hh : chanHead r.unit.val r.port.val (h.map (·.val)) s = dropRx (portKey r.unit.val r.port.val) x)
    (hwork : PortWork (portKey r.unit.val r.port.val) s x q)
    (hf : f { q with rx := some { queue := none, len := 0, got := 0 } } = f q) :
    let k := portKey r.unit.val r.port.val
    reaches (exec (.chanFrameRx r (.head h)) s) fun t =>
      ((portGet t k).rx = some { queue := none, len := 0, got := 0 } ∧ t = { s with ports := t.ports }) ∧
        f (portGet t k) = f q ∧ keeps portGet s t [k] := by
  intro k
  have hdrop := hwork.dropRx
  exact ⟨_, (chanFrameRx_of_running hc _).trans (congrArg _ hh), ⟨congrArg Port.rx hdrop.port, hdrop.rest⟩,
    (congrArg f hdrop.port).trans hf, hdrop.ports⟩

theorem chanFrameRx_opens (hs : Safety.tablesOk s = true) (hok : headerOk (h.map (·.val)) = true)
    (hm : headerMine s r.unit.val r.port.val (headerChan (h.map (·.val)))) (h60 : 60 ≤ headerLen (h.map (·.val)))
    (h9600 : headerLen (h.map (·.val)) ≤ 9600) :
    let hd := h.map (·.val)
    let n := headerChan hd
    let k := portKey r.unit.val r.port.val
    reaches (exec (.chanFrameRx r (.head h)) s) fun t =>
      portGet t k = { portGet s k with rx := some { queue := some n, len := headerLen hd, got := 0 } } ∧
      cqGet t n = { cqGet s n with items := (cqGet s n).items ++ [{ len := headerLen hd }], isAt := (cqGet s n).wp } ∧
      keeps portGet s t [k] ∧ keeps cqGet s t [n] ∧ t = { s with ports := t.ports, cq := t.cq } := by
  intro hd n k
  have hq := (CqWork.refl (q := n) (tablesOk_cq hs)).cqPut { cqGet s n with
    items := (cqGet s n).items ++ [{ len := headerLen hd }], isAt := (cqGet s n).wp }
  obtain ⟨hport, hports, -⟩ := portPut_spec (k := k)
    (p := { portGet s k with rx := some { queue := some n, len := headerLen hd, got := 0 } }) hs
  exact ⟨_, (chanFrameRx_of_running hc _).trans (congrArg _ (chanHead_of_sound hok hm h60 h9600)), hport, hq.queue, hports,
    hq.queues, rfl⟩

end Start

theorem chanFrameRx_takesBack (hs : Safety.tablesOk s = true) {ok : Bool} {x : ChanRx} {m : Nat} {i : ClientItem}
    (hx : (portGet s (portKey r.unit.val r.port.val)).rx = some x) (hq : x.queue = some m) (hlen : x.got ≠ x.len)
    (hi : (cqGet s m).items.getLast? = some i) (hst : i.started = false) :
    let k := portKey r.unit.val r.port.val
    let v := portGet s k
    ∃ y, exec (.chanFrameRx r (.finish ok)) s = .next (cqLevel m y) ∧
      cqGet y m = { cqGet s m with items := (cqGet s m).items.dropLast, wp := (cqGet s m).isAt } ∧
      portGet y k = { v with rx := none, cnt1 := cntAdd v.cnt1 17 0 1 } ∧ keeps portGet s y [k] ∧ keeps cqGet s y [m] ∧
      y = { s with ports := y.ports, cq := y.cq } := by
  intro k v
  have hwork := ((PortWork.refl (k := k) hs).portPut { v with rx := none }).countPort1 (hi := 17) (lo := 0) (n := 1)
  exact ⟨_, (chanFrameRx_of_running hc _).trans (congrArg _ (chanFinish_of_wrong hx hq hlen hi hst)),
    hwork.cqPut_spec hs⟩

end Frames

/-! ### PAUSE_MSG_SEND (R192) -/

theorem pauseMsgSend_of_waiting {q : CqId} {s : State} {x : Bool} (h : (cqGet s q.val).pause = some x) :
    let w := cwGet s (cqAddr q.val 2)
    exec (.pauseMsgSend q) s = .next (emit (.chanFrame (fld w 28 23) (fld w 22 15) (chanHeader true false x q.val 0)
      (List.replicate 52 0)) (cqPut q.val { cqGet s q.val with pause := none } s)) := by
  intro w
  rw [exec_pauseMsgSend, execPauseMsgSend]
  simp only [h, w]

theorem pauseMsgSend_idle {q : CqId} {s : State} (h : (cqGet s q.val).pause = none) :
    exec (.pauseMsgSend q) s = .next s := by
  rw [exec_pauseMsgSend, execPauseMsgSend]
  simp only [h]

/-- Settles O25: a header by what is wrong with it, octets and ends by the frame they belong to, then the messages. -/
theorem framesEnterAndLeaveClientQueues : Obligations.FramesEnterAndLeaveClientQueues := by
  unfold Obligations.FramesEnterAndLeaveClientQueues
  intro r q h bs ok s hs u p k v hd n w2 chan mine dropped
  have hrun (hc : chan) := chanFrameRx_of_running hc
  have hstart := PortWork.refl (k := k) hs
  refine ⟨chanFrameRx_idle, fun hc => ⟨
    fun hf => chanFrameRx_drops (f := Port.cnt0) hc (chanHead_of_form hf) hstart.countPort0 rfl,
    fun hok hm => chanFrameRx_drops (f := Port.cnt0) hc (chanHead_of_foreign hok hm) hstart.countPort0 rfl,
    fun hok hm hl => chanFrameRx_drops (f := Port.cnt1) hc (chanHead_of_length hok hm hl) hstart.countPort1 rfl,
    fun hok hm h60 h9600 => chanFrameRx_opens hc hs hok hm h60 h9600, fun hx => ⟨?_, ?_⟩, fun x hx hq => ⟨?_, ?_⟩,
    fun x m hx hq hlen hk => ?_, fun x m i hx hq hlen hi hst => chanFrameRx_takesBack hc hs hx hq hlen hi hst⟩,
    fun x => pauseMsgSend_of_waiting, pauseMsgSend_idle⟩
  · exact (hrun hc _).trans (congrArg _ (chanData_of_none hx))
  · exact (hrun hc _).trans (congrArg _ (chanFinish_of_none hx))
  · exact (hrun hc _).trans (congrArg _ (chanData_of_dropped hx hq))
  · exact (hrun hc _).trans (congrArg _ (chanFinish_of_dropped hx hq))
  · subst hk
    exact (hrun hc _).trans (congrArg _ (chanFinish_of_whole hx hq hlen))

end Sys2Proof.Machine
end


section
/-! PROOFS. O26: the GFP source starts, reads and sends the frames of its queue, and ends one that runs dry. -/

namespace Sys2Proof.Machine

/-! ### The frame at the read end (R198) -/

section Read
variable {q lines : Nat} {t : State} {c : ClientQueue} {i : ClientItem} {rest : List ClientItem}
  (hc : cqGet t q = c) (hi : c.items = i :: rest)
include hc hi

theorem readLines_idle (hst : i.started = false) : readLines q lines t = t := by
  simp only [readLines, hc, hi, hst, Bool.not_false, if_true]

variable (hst : i.started = true)
include hst

theorem readLines_whole (hw : i.complete = true) (hr : i.read + min lines (i.wrote - i.read) = i.wrote) :
    readLines q lines t = cqLevel q (sendFrame q i.bytes i.bad (cqPut q { c with
      items := rest, rp := ptrAdvance (cqSize t q) c.rp (min lines (i.wrote - i.read)) } t)) := by
  simp only [readLines, hc, hi, hst, Bool.not_true, Bool.false_eq_true, if_false]
  exact if_pos (by rw [hw, Bool.true_and, decide_eq_true_eq]; exact hr)

theorem readLines_part (h : i.complete = false ∨ i.read + min lines (i.wrote - i.read) ≠ i.wrote) :
    readLines q lines t = cqLevel q (cqPut q { c with
      items := { i with read := i.read + min lines (i.wrote - i.read) } :: rest,
      rp := ptrAdvance (cqSize t q) c.rp (min lines (i.wrote - i.read)) } t) := by
  simp only [readLines, hc, hi, hst, Bool.not_true, Bool.false_eq_true, if_false]
  refine if_neg ?_
  rw [Bool.and_eq_true, decide_eq_true_eq]
  rintro ⟨hw, hr⟩
  rcases h with h | h
  · exact Bool.false_ne_true (h.symm.trans hw)
  · exact h hr

end Read

theorem cqSize_congr {s t : State} (h : t.cw = s.cw) (q : Nat) : cqSize t q = cqSize s q := by
  rw [cqSize, cwFld_eq h, cqSize]

/-! ### GFP_FRAME_START -/

section Start
variable {r : PortRef} {lines : Nat} {i : ClientItem} {rest : List ClientItem} {s : State}

/-- The queue that a GFP port serves. -/
def gfpQueue (s : State) (r : PortRef) : Nat := cwFld s (mapAddr r.unit.val r.port.val 1) 21 11

theorem gfpFrameStart_stopped (h : ¬ ((liveAdapt s r.unit.val r.port.val = 9 ∨ liveAdapt s r.unit.val r.port.val = 10) ∧
    (portGet s (portKey r.unit.val r.port.val)).on = true)) : exec (.gfpFrameStart r lines) s = .next s := by
  rw [exec_gfpFrameStart]
  refine congrArg _ (if_pos ?_)
  rw [Bool.or_eq_true, Bool.not_eq_true', Bool.not_eq_true', ← Bool.not_eq_true, ← Bool.not_eq_true, gfpAdapt_iff,
    ← not_and_or]
  exact h

/-- The frame at the read end started, where it may. -/
def headStarted (q : Nat) (i : ClientItem) (rest : List ClientItem) (s : State) : State :=
  if !i.started && mayStart s q i && cqOn s q then
    cqPut q { cqGet s q with items := { i with started := true } :: rest } s else s

variable (hrun : (liveAdapt s r.unit.val r.port.val = 9 ∨ liveAdapt s r.unit.val r.port.val = 10) ∧
  (portGet s (portKey r.unit.val r.port.val)).on = true) (hi : (cqGet s (gfpQueue s r)).items = i :: rest)
include hi

/-- A frame that is started, or may start, stands started at the read end; nothing else changes. -/
theorem headStarted_work (hs : Safety.tablesOk s = true)
    (hmay : i.started = true ∨ (mayStart s (gfpQueue s r) i = true ∧ cqOn s (gfpQueue s r) = true)) :
    let q := gfpQueue s r
    CqWork q s (headStarted q i rest s) { cqGet s q with items := { i with started := true } :: rest } := by
  intro q
  have hwork := CqWork.refl (q := q) (tablesOk_cq hs)
  by_cases hst : i.started = true
  · have hsame : { cqGet s q with items := { i with started := true } :: rest } = cqGet s q := by
      rw [← hst, ← hi]
    rw [headStarted, if_neg (by simp [hst]), hsame]
    exact hwork
  · obtain ⟨hm, hon⟩ := hmay.resolve_left hst
    rw [headStarted, if_pos (by simp [q, hst, hm, hon])]
    exact hwork.cqPut _

include hrun

/-- A running GFP port starts the frame at the read end of its queue where it may, and reads it. -/
theorem gfpFrameStart_of_running : exec (.gfpFrameStart r lines) s =
    .next (readLines (gfpQueue s r) lines (headStarted (gfpQueue s r) i rest s)) := by
  obtain ⟨hg, hon⟩ := hrun
  rw [exec_gfpFrameStart]
  refine congrArg Host.Outcome.next ((if_neg (by rw [gfpAdapt_iff.2 hg, hon]; decide)).trans ?_)
  rw [gfpQueue] at hi
  simp only [hi]
  rfl

theorem gfpFrameStart_waits
    (hmay : ¬ (i.started = true ∨ (mayStart s (gfpQueue s r) i = true ∧ cqOn s (gfpQueue s r) = true))) :
    exec (.gfpFrameStart r lines) s = .next s := by
  rw [not_or, Bool.not_eq_true, ← Bool.and_eq_true] at hmay
  obtain ⟨hst, hm⟩ := hmay
  have hstays : headStarted (gfpQueue s r) i rest s = s :=
    if_neg (by rw [Bool.and_assoc, Bool.and_eq_true]; exact fun h => hm h.2)
  rw [gfpFrameStart_of_running hrun hi, hstays, readLines_idle rfl hi hst]

variable (hs : Safety.tablesOk s = true)
  (hmay : i.started = true ∨ (mayStart s (gfpQueue s r) i = true ∧ cqOn s (gfpQueue s r) = true))
include hs hmay

theorem gfpFrameStart_sends (hw : i.complete = true) (hr : i.read + min lines (i.wrote - i.read) = i.wrote) :
    let q := gfpQueue s r
    let c := cqGet s q
    ∃ x, exec (.gfpFrameStart r lines) s = .next (cqLevel q (sendFrame q i.bytes i.bad x)) ∧
      cqGet x q = { c with items := rest, rp := ptrAdvance (cqSize s q) c.rp (min lines (i.wrote - i.read)) } ∧
      keeps cqGet s x [q] ∧ x = { s with cq := x.cq } := by
  intro q c
  have hstart := headStarted_work hi hs hmay
  have hread := hstart.cqPut { c with
    items := rest, rp := ptrAdvance (cqSize s q) c.rp (min lines (i.wrote - i.read)) }
  refine ⟨_, ?_, hread.queue, hread.queues, hread.rest⟩
  rw [gfpFrameStart_of_running hrun hi, readLines_whole hstart.queue rfl rfl hw hr, cqSize_congr hstart.cw]

theorem gfpFrameStart_reads (h : i.complete = false ∨ i.read + min lines (i.wrote - i.read) ≠ i.wrote) :
    let q := gfpQueue s r
    let c := cqGet s q
    let k := min lines (i.wrote - i.read)
    ∃ x, exec (.gfpFrameStart r lines) s = .next (cqLevel q x) ∧
      cqGet x q = { c with items := { i with started := true, read := i.read + k } :: rest,
                           rp := ptrAdvance (cqSize s q) c.rp k } ∧
      keeps cqGet s x [q] ∧ x = { s with cq := x.cq } := by
  intro q c k
  have hstart := headStarted_work hi hs hmay
  have hread := hstart.cqPut { c with items := { i with started := true, read := i.read + k } :: rest,
                                      rp := ptrAdvance (cqSize s q) c.rp k }
  refine ⟨_, ?_, hread.queue, hread.queues, hread.rest⟩
  rw [gfpFrameStart_of_running hrun hi, readLines_part hstart.queue rfl rfl h, cqSize_congr hstart.cw]

end Start

/-! ### GFP_UNDERRUN -/

theorem underrunHead_of_arriving {q : Nat} {i : ClientItem} {rest : List ClientItem} {s : State}
    (hi : (cqGet s q).items = i :: rest) (hw : i.complete = false) :
    let sent := i.bytes.take (min i.len (i.read * 32))
    underrunHead q s = cqLevel q (countUnderrun q (sendFrame q (sent ++ List.replicate (i.len - sent.length) 0) true
      (swallowArrival q (cqPut q { cqGet s q with
        items := rest, rp := ptrAdvance (cqSize s q) (cqGet s q).rp (i.wrote - i.read) } s)))) := by
  intro sent
  simp only [underrunHead, hi, hw, Bool.false_eq_true, if_false]
  rfl

section Underrun
variable {r : PortRef} {i : ClientItem} {rest : List ClientItem} {s : State}
  (hi : (cqGet s (gfpQueue s r)).items = i :: rest)
include hi

theorem gfpUnderrun_ends (hs : Safety.tablesOk s = true)
    (hg : liveAdapt s r.unit.val r.port.val = 9 ∨ liveAdapt s r.unit.val r.port.val = 10) (hst : i.started = true)
    (hw : i.complete = false) (hr : i.read = i.wrote) :
    let q := gfpQueue s r
    let sent := i.bytes.take (min i.len (i.read * 32))
    ∃ x, exec (.gfpUnderrun r) s = .next (cqLevel q (countUnderrun q (sendFrame q
        (sent ++ List.replicate (i.len - sent.length) 0) true (swallowArrival q x)))) ∧
      (cqGet x q).items = rest ∧ keeps cqGet s x [q] ∧ x = { s with cq := x.cq } := by
  intro q sent
  have hwork := (CqWork.refl (q := q) (tablesOk_cq hs)).cqPut { cqGet s q with
    items := rest, rp := ptrAdvance (cqSize s q) (cqGet s q).rp (i.wrote - i.read) }
  refine ⟨_, ?_, congrArg ClientQueue.items hwork.queue, hwork.queues, hwork.rest⟩
  rw [← underrunHead_of_arriving hi hw, exec_gfpUnderrun]
  refine congrArg Host.Outcome.next ((if_neg (by rw [gfpAdapt_iff.2 hg]; decide)).trans ?_)
  rw [gfpQueue] at hi
  simp only [hi, hst, hw, hr]
  rfl

theorem gfpUnderrun_idle (h : i.started = false ∨ i.complete = true ∨ i.read ≠ i.wrote) :
    exec (.gfpUnderrun r) s = .next s := by
  rw [exec_gfpUnderrun, execGfpUnderrun]
  rw [gfpQueue] at hi
  simp only [hi]
  split
  · rfl
  · refine congrArg _ (if_neg ?_)
    rcases h with h | h | h <;> simp [h]

end Underrun

/-- Settles O26: the frame at the read end by whether it may start, how much of it is there, and whether it runs dry. -/
theorem framesOfStartedQueuesAreSent : Obligations.FramesOfStartedQueuesAreSent := by
  unfold Obligations.FramesOfStartedQueuesAreSent
  intro r lines i rest s hs u p q c n gfp runs may k hi
  exact ⟨gfpFrameStart_stopped, fun hrun => gfpFrameStart_waits hrun hi,
    fun hrun hmay => gfpFrameStart_sends hrun hi hs hmay, fun hrun hmay => gfpFrameStart_reads hrun hi hs hmay,
    gfpUnderrun_ends hi hs, gfpUnderrun_idle hi⟩

end Sys2Proof.Machine
end


section
/-! PROOFS. O28: set-up, watermarks and flush of client and host queues. -/

namespace Sys2Proof.Machine

/-! ### Client queues: what refuses a write (R167, R196) -/

theorem cqAddr_ne {q w w' : Nat} (h : w ≠ w') : cqAddr q w ≠ cqAddr q w' := by
  unfold cqAddr ctlAddr
  omega

section Client
variable {src q w st : Nat} {v : Word} {plan s : State}

theorem cqWriteStatus_of_layout (hw : w = 0) (hon : cqOn s q = true)
    (hf : fld v 34 9 ≠ fld (cwGet s (cqAddr q w)) 34 9) : cqWriteStatus s q w v = 0x08 := by
  subst hw
  exact if_pos (by rw [show bit (cwGet s (cqAddr q 0)) 35 = true from hon, bne_iff_ne.2 hf]; rfl)

theorem cqWriteStatus_of_port (hw : w = 0) (hon : cqOn s q = true) (hf : fld v 34 9 = fld (cwGet s (cqAddr q w)) 34 9)
    (hv : v.getLsbD 35 = false) (hp : (gfpPortOfQueue s q).isSome = true) : cqWriteStatus s q w v = 0x09 := by
  subst hw
  refine (if_neg ?_).trans (if_pos ?_)
  · rw [bne_eq_false_iff_eq.2 hf, Bool.and_false]
    decide
  · rw [show bit (cwGet s (cqAddr q 0)) 35 = true from hon, bit_eq_getLsbD, hv, hp]
    rfl

/-- A word other than CQ_CTRL, or any word of a disabled queue, is refused by its set-up alone. -/
theorem cqWriteStatus_of_free (h : w ≠ 0 ∨ cqOn s q = false) : cqWriteStatus s q w v = 0 := by
  have hno : (decide (w = 0) && bit (cwGet s (cqAddr q 0)) 35) = false := by
    rcases h with h | h
    · rw [decide_eq_false h, Bool.false_and]
    · rw [show bit (cwGet s (cqAddr q 0)) 35 = false from h, Bool.and_false]
  unfold cqWriteStatus
  simp only [hno, Bool.false_and, Bool.false_eq_true, if_false]

/-! ### Client queues: one write applied -/

theorem applyCq_refused (h : cqWriteStatus s q w v = st) (h0 : st ≠ 0) : applyCq src plan q w v s = .error st := by
  unfold applyCq
  cases st with
  | zero => exact absurd rfl h0
  | succ n => rw [h]; rfl

theorem applyCq_unsound (h : w ≠ 0 ∨ cqOn s q = false) (h0 : cqStatus plan q ≠ 0) :
    applyCq src plan q w v s = .error (cqStatus plan q) := by
  unfold applyCq
  rw [cqWriteStatus_of_free h]
  exact if_pos h0

theorem cqOn_cqStore (hs : Safety.tablesOk s = true) : cqOn (cqStore q 0 v s) q = v.getLsbD 35 := by
  rw [cqOn, cqStore, cwGet_cwSet (tablesOk_cw hs), bit_eq_getLsbD]
  exact getLsbD_and_of_set (by decide)

theorem cqOn_cqStore_ne (hw : w ≠ 0) : cqOn (cqStore q w v s) q = cqOn s q := by
  rw [cqOn, cqStore, cwGet_cwSet_ne (cqAddr_ne hw.symm), cqOn]

section Sound
variable (hst : cqStatus plan q = 0)
include hst

/-- A sound write to CQ_CTRL: a queue disabled is flushed, one enabled starts empty. -/
theorem applyCq_ctrl (h : cqWriteStatus s q 0 v = 0) : applyCq src plan q 0 v s = .ok
    (let t := cqStore q 0 v (if cqOn s q && !bit v 35 then flushClient src q s else s)
     if !cqOn s q && bit v 35 then cqPut q {} t else t) := by
  unfold applyCq
  rw [h]
  exact if_neg (not_not_intro hst)

theorem applyCq_enables (hw : w = 0) (hoff : cqOn s q = false) (hv : v.getLsbD 35 = true) :
    applyCq src plan q w v s = .ok (cqPut q {} (cqStore q w v s)) := by
  subst hw
  rw [applyCq_ctrl hst (cqWriteStatus_of_free (.inr hoff)), hoff, bit_eq_getLsbD, hv]
  rfl

theorem applyCq_stays_off (hw : w = 0) (hoff : cqOn s q = false) (hv : v.getLsbD 35 = false) :
    applyCq src plan q w v s = .ok (cqStore q w v s) := by
  subst hw
  rw [applyCq_ctrl hst (cqWriteStatus_of_free (.inr hoff)), hoff, bit_eq_getLsbD, hv]
  rfl

theorem applyCq_watermarks (hw : w = 1) :
    applyCq src plan q w v s = .ok (if cqOn s q then cqLevel q (cqStore q w v s) else cqStore q w v s) := by
  subst hw
  rw [← cqOn_cqStore_ne (s := s) (v := v) (show 1 ≠ 0 by decide)]
  unfold applyCq
  rw [cqWriteStatus_of_free (.inl (by decide))]
  exact if_neg (not_not_intro hst)

theorem applyCq_flow (hw : w = 2) (h29 : v.getLsbD 29 = false) (h35 : v.getLsbD 35 = false) :
    applyCq src plan q w v s = .ok (cqStore q w v s) := by
  subst hw
  unfold applyCq
  rw [cqWriteStatus_of_free (.inl (by decide)), bit_eq_getLsbD v, bit_eq_getLsbD v, h29, h35]
  exact if_neg (not_not_intro hst)

end Sound
end Client

/-! ### CQ_CTRL -/

section CqCtrl
variable {q : CqId} {w : QueueWrite} {s : State}

theorem cqCtrl_refused {st : Nat}
    (h : applyCq (srcNumber w.origin.src) (cqStore q.val w.word.val w.value s) q.val w.word.val w.value s = .error st) :
    exec (.cqCtrl q [w]) s = .next (refuse w.origin st .word (cqAddr q.val w.word.val) s) := by
  rw [← settle_error, ← h]
  exact exec_cqCtrl _ _ _

theorem cqCtrl_applies {t : State} {P : State → Prop} (hp : P t)
    (h : applyCq (srcNumber w.origin.src) (cqStore q.val w.word.val w.value s) q.val w.word.val w.value s = .ok t) :
    applies w.origin .word (cqAddr q.val w.word.val) s (exec (.cqCtrl q [w]) s) P := by
  have hexec : exec (.cqCtrl q [w]) s = .next (settle w.origin .word (cqAddr q.val w.word.val) s (.ok t)) := by
    rw [← h]
    exact exec_cqCtrl _ _ _
  rw [hexec]
  exact applies_ok hp

theorem cqStatus_of_off (h : cqOn s q.val = false) : cqStatus s q.val = 0 := if_pos (by rw [h]; rfl)

/-- A control word written and a client queue changed, nothing else. -/
theorem cqPut_cwSet_spec {n a : Nat} {c : ClientQueue} {v : Word} (hs : Safety.tablesOk s = true) :
    let t := cqPut n c (cwSet a v s)
    cwGet t a = v ∧ cwKept s t [a] ∧ cqGet t n = c ∧ keeps cqGet s t [n] ∧ t = { s with cw := t.cw, cq := t.cq } := by
  have hput := (CqWork.refl (q := n) (tablesOk_cq hs)).cqPut c
  exact ⟨cwGet_cwSet (tablesOk_cw hs), cwKept_cwSet, hput.queue, hput.queues, rfl⟩

end CqCtrl

/-! ### Host queues (R345, R347, R351) -/

section Host
variable {src q w st : Nat} {v : Word} {plan s : State}

theorem tablesOk_hq (h : Safety.tablesOk s = true) : tabWf (fun _ => ({} : HostQueue)) s.hq = true := by
  simp only [Safety.tablesOk, Safety.coreTables, Bool.and_eq_true] at h; tauto

theorem hqAddr_ne {w' : Nat} (h : w ≠ w') : hqAddr q w ≠ hqAddr q w' := by
  unfold hqAddr ctlAddr
  omega

theorem hqOn_eq (s : State) (q : Nat) : hqOn s q = bit (cwGet s (hqAddr q 0)) 35 := rfl

theorem hqOn_hqStore (hs : Safety.tablesOk s = true) : hqOn (hqStore q 0 v s) q = v.getLsbD 35 := by
  rw [hqOn_eq, hqStore, cwGet_cwSet (tablesOk_cw hs), bit_eq_getLsbD]
  exact getLsbD_and_of_set (by decide)

theorem hqOn_hqStore_ne (hw : w ≠ 0) : hqOn (hqStore q w v s) q = hqOn s q := by
  rw [hqOn_eq, hqStore, cwGet_cwSet_ne (hqAddr_ne hw.symm), hqOn_eq]

theorem hqStatus_of_off (h : hqOn s q = false) : hqStatus s q = 0 := if_pos (by rw [h]; rfl)

theorem hqWriteStatus_of_layout (hw : w = 0) (hon : hqOn s q = true)
    (hf : fld v 34 7 ≠ fld (cwGet s (hqAddr q w)) 34 7) : hqWriteStatus s q w v = 0x08 := by
  subst hw
  rw [hqOn_eq] at hon
  exact if_pos (by rw [hon, bne_iff_ne.2 hf]; rfl)

theorem hqWriteStatus_of_free (h : w ≠ 0 ∨ hqOn s q = false ∨ fld v 34 7 = fld (cwGet s (hqAddr q 0)) 34 7) :
    hqWriteStatus s q w v = 0 := by
  refine if_neg ?_
  rw [Bool.and_eq_true, Bool.and_eq_true, decide_eq_true_eq, bne_iff_ne]
  rintro ⟨⟨hw, hon⟩, hf⟩
  rcases h with h | h | h
  · exact h hw
  · rw [hqOn_eq] at h
    exact Bool.false_ne_true (h.symm.trans hon)
  · exact hf h

theorem applyHq_refused (h : hqWriteStatus s q w v = st) (h0 : st ≠ 0) : applyHq src plan q w v s = .error st := by
  unfold applyHq
  cases st with
  | zero => exact absurd rfl h0
  | succ n => rw [h]; rfl

theorem applyHq_unsound (h : w ≠ 0 ∨ hqOn s q = false) (h0 : hqStatus plan q ≠ 0) :
    applyHq src plan q w v s = .error (hqStatus plan q) := by
  unfold applyHq
  rw [hqWriteStatus_of_free (h.imp id .inl)]
  exact if_pos h0

section Sound
variable (hst : hqStatus plan q = 0)
include hst

/-- A sound write to HQ_CFG: a queue disabled is flushed, one enabled starts empty. -/
theorem applyHq_ctrl (h : hqWriteStatus s q 0 v = 0) : applyHq src plan q 0 v s =
    if hqOn s q && !bit v 35 then .ok (hqStore q 0 v (flushHost src q s))
    else .ok (if !hqOn s q && bit v 35 then hqPut q {} (hqStore q 0 v s) else hqStore q 0 v s) := by
  unfold applyHq
  rw [h]
  exact if_neg (not_not_intro hst)

theorem applyHq_enables (hw : w = 0) (hoff : hqOn s q = false) (hv : v.getLsbD 35 = true) :
    applyHq src plan q w v s = .ok (hqPut q {} (hqStore q w v s)) := by
  subst hw
  rw [applyHq_ctrl hst (hqWriteStatus_of_free (.inr (.inl hoff))), hoff, bit_eq_getLsbD, hv]
  rfl

theorem applyHq_disables (hw : w = 0) (hon : hqOn s q = true) (hf : fld v 34 7 = fld (cwGet s (hqAddr q w)) 34 7)
    (hv : v.getLsbD 35 = false) : applyHq src plan q w v s = .ok (hqStore q w v (flushHost src q s)) := by
  subst hw
  rw [applyHq_ctrl hst (hqWriteStatus_of_free (.inr (.inr hf))), hon, bit_eq_getLsbD, hv]
  rfl

theorem applyHq_watermarks (hw : w = 1) :
    applyHq src plan q w v s = .ok (if hqOn s q then hqLevel q (hqStore q w v s) else hqStore q w v s) := by
  subst hw
  rw [← hqOn_hqStore_ne (s := s) (v := v) (show 1 ≠ 0 by decide)]
  unfold applyHq
  rw [hqWriteStatus_of_free (.inl (by decide))]
  exact if_neg (not_not_intro hst)

theorem applyHq_flushes (hw : w = 2) (hv : v.getLsbD 35 = true) :
    applyHq src plan q w v s = .ok (flushHost src q (hqStore q w v s)) := by
  subst hw
  unfold applyHq
  rw [hqWriteStatus_of_free (.inl (by decide)), bit_eq_getLsbD v, hv]
  exact if_neg (not_not_intro hst)

end Sound
end Host

section HqCfg
variable {q : HqId} {w : QueueWrite} {s : State}

theorem hqCfg_refused {st : Nat}
    (h : applyHq (srcNumber w.origin.src) (hqStore q.val w.word.val w.value s) q.val w.word.val w.value s = .error st) :
    exec (.hqCfg q [w]) s = .next (refuse w.origin st .word (hqAddr q.val w.word.val) s) := by
  rw [← settle_error, ← h]
  exact exec_hqCfg _ _ _

theorem hqCfg_applies {t : State} {P : State → Prop} (hp : P t)
    (h : applyHq (srcNumber w.origin.src) (hqStore q.val w.word.val w.value s) q.val w.word.val w.value s = .ok t) :
    applies w.origin .word (hqAddr q.val w.word.val) s (exec (.hqCfg q [w]) s) P := by
  have hexec : exec (.hqCfg q [w]) s = .next (settle w.origin .word (hqAddr q.val w.word.val) s (.ok t)) := by
    rw [← h]
    exact exec_hqCfg _ _ _
  rw [hexec]
  exact applies_ok hp

/-- A control word written and a host queue changed, nothing else. -/
theorem hqPut_cwSet_spec {n a : Nat} {c : HostQueue} {v : Word} (hs : Safety.tablesOk s = true) :
    let t := hqPut n c (cwSet a v s)
    cwGet t a = v ∧ cwKept s t [a] ∧ hqGet t n = c ∧ keeps hqGet s t [n] ∧ t = { s with cw := t.cw, hq := t.hq } :=
  ⟨cwGet_cwSet (tablesOk_cw hs), cwKept_cwSet, tabGet_tabSet_same (d := fun _ => ({} : HostQueue)) (tablesOk_hq (s := s) hs),
    fun _ hj => tabGet_tabSet_ne (by simpa using hj), rfl⟩

end HqCfg

/-- QUEUE_WM_WRITE writes word 1 of a client or a host queue. -/
theorem queueWmWrite_eq {q : CqId} {hq : HqId} {w : QueueWrite} {c : CtlWrite} {s : State} (hw : w.word.val = 1)
    (hc : c = { origin := w.origin, value := w.value }) :
    exec (.queueWmWrite (.client q) c) s = exec (.cqCtrl q [w]) s ∧
      exec (.queueWmWrite (.host hq) c) s = exec (.hqCfg hq [w]) s := by
  obtain ⟨o, j, v⟩ := w
  obtain rfl : j = 1 := Fin.ext hw
  subst hc
  exact ⟨rfl, rfl⟩

/-! ### CLIENT_QUEUE_FLUSH (R199, R349) -/

section Flush
variable {q : Nat} {s : State}

/-- The oldest frame of a queue is started. -/
def headIsStarted (s : State) (q : Nat) : Bool := match (cqGet s q).items with | i :: _ => i.started | [] => false

/-- A started frame of a flushed queue ended as an underrun. -/
def headEnded (q : Nat) (s : State) : State := if headIsStarted s q then underrunHead q s else s

/-- The counts of a flush: whole frames discarded, arriving frames truncated. -/
def flushCounts (q : Nat) (s : State) : Word :=
  mkWord [(33, q / 1024), (23, q % 1024), (12, min ((cqGet s q).items.filter (·.complete)).length 0x7FF),
    (1, min ((cqGet s q).items.filter fun i => !i.complete).length 0x7FF)]

/-- The frame arriving for a flushed queue, swallowed. -/
def arrivalEnded (q : Nat) (s : State) : State :=
  if ((cqGet s q).items.filter fun i => !i.complete).length > 0 then swallowArrival q s else s

/-- A queue with its frames discarded. -/
def queueEmptied (q : Nat) (s : State) : State :=
  cqLevel q (cqPut q { cqGet s q with items := [], wp := (cqGet s q).rp } (arrivalEnded q s))

theorem clientQueueFlush_eq {o : Origin} {q : CqId} : exec (.clientQueueFlush o q) s =
    .next (record0 0x1A (srcNumber o.src) (flushCounts q.val (headEnded q.val s)) (queueEmptied q.val (headEnded q.val s))) :=
  rfl

theorem headEnded_of_unstarted (h : ∀ i ∈ (cqGet s q).items, i.started = false) : headEnded q s = s := by
  refine if_neg ?_
  unfold headIsStarted
  cases hi : (cqGet s q).items with
  | nil => exact Bool.false_ne_true
  | cons i rest =>
    exact Bool.eq_false_iff.1 (h i (by simp [hi]))

theorem arrivalEnded_ports (q : Nat) (s : State) : ∃ ps, arrivalEnded q s = { s with ports := ps } := by
  unfold arrivalEnded
  split <;> exact ⟨_, rfl⟩

theorem queueEmptied_spec (hs : Safety.tablesOk s = true) :
    let t := queueEmptied q s
    (cqGet t q).items = [] ∧ keeps cqGet s t [q] ∧ t = { s with cq := t.cq, ports := t.ports } := by
  obtain ⟨ps, hps⟩ := arrivalEnded_ports q s
  have hok : CqOk { s with ports := ps } := tablesOk_cq (s := s) hs
  obtain ⟨hi, m, hwork⟩ := ((CqWork.refl (q := q) hok).cqPut { cqGet s q with
    items := [], wp := (cqGet s q).rp }).cqLevel
  unfold queueEmptied
  rw [hps]
  refine ⟨congrArg ClientQueue.items hwork.queue, hwork.queues, ?_⟩
  have hrest := hwork.rest
  generalize cqLevel q _ = t at hrest ⊢
  obtain ⟨c, rfl⟩ : ∃ c, t = { s with cq := c, ports := ps } := ⟨_, hrest⟩
  rfl

end Flush

/-- Settles O28: each write by what refuses it and what it leaves, then the flush of a client queue. -/
theorem queueSetUp : Obligations.QueueSetUp := by
  unfold Obligations.QueueSetUp
  intro q hq w c s hs n a v plan x m b hv hplan y
  refine ⟨fun hw hon hf => cqCtrl_refused (applyCq_refused (cqWriteStatus_of_layout hw hon hf) (by decide)),
    fun hw hon hf he hp => cqCtrl_refused (applyCq_refused (cqWriteStatus_of_port hw hon hf he hp) (by decide)),
    fun hfree hst => cqCtrl_refused (applyCq_unsound hfree hst),
    fun hw hoff he hst => cqCtrl_applies (cqPut_cwSet_spec hs) (applyCq_enables hst hw hoff he),
    fun hw hoff he => cqCtrl_applies (cwSet_spec hs) (applyCq_stays_off (cqStatus_of_off ?_) hw hoff he),
    fun hw hst => cqCtrl_applies rfl (applyCq_watermarks hst hw), queueWmWrite_eq,
    fun hw hst h29 h35 => cqCtrl_applies rfl (applyCq_flow hst hw h29 h35),
    fun hw hon hf => hqCfg_refused (applyHq_refused (hqWriteStatus_of_layout hw hon hf) (by decide)),
    fun hfree hst => hqCfg_refused (applyHq_unsound hfree hst),
    fun hw hoff he hst => hqCfg_applies (hqPut_cwSet_spec hs) (applyHq_enables hst hw hoff he),
    fun hw hon hf he => hqCfg_applies rfl (applyHq_disables (hqStatus_of_off ?_) hw hon hf he),
    fun hw hst => hqCfg_applies rfl (applyHq_watermarks hst hw),
    fun hw he hst => hqCfg_applies rfl (applyHq_flushes hst hw he), ⟨⟨_, _⟩, clientQueueFlush_eq, fun hnone => ?_⟩⟩
  · rw [hw, cqOn_cqStore hs, he]
  · rw [hw, hqOn_hqStore hs, he]
  · obtain ⟨hitems, hkept, hrest⟩ := queueEmptied_spec (q := q.val) hs
    rw [headEnded_of_unstarted hnone]
    exact ⟨hitems, hkept, hrest, rfl⟩

end Sys2Proof.Machine
end

section
/-! PROOFS. Decks and resize controllers: what a table reads once filled from another, what a key reads after a put. -/

namespace Sys2Proof.Machine

/-! ### Tables and words -/

/-- A table filled key by key reads elsewhere as before. -/
theorem tabGet_foldl_tabSet_ne {α : Type} [DecidableEq α] {d : α} {g : Nat → Nat} {j : Nat} :
    {l m : Tab α} → (∀ e ∈ l, j ≠ g e.1) →
      tabGet d (l.foldl (fun m e => tabSet d m (g e.1) e.2) m) j = tabGet d m j
  | [], _, _ => rfl
  | e :: _, _, h => (tabGet_foldl_tabSet_ne fun x hx => h x (List.mem_cons_of_mem e hx)).trans
      (tabGet_tabSet_ne (h e List.mem_cons_self))

/-- A canonical table copied to other keys, none of them met twice, reads there as it did, where nothing stood before. -/
theorem tabGet_foldl_tabSet {α : Type} [DecidableEq α] {d : α} {g : Nat → Nat} {i : Nat} {l m : Tab α}
    (hwf : tabWf (fun _ => d) l = true) (hinj : ∀ e ∈ l, g i = g e.1 → e.1 = i) (hm : tabGet d m (g i) = d) :
    tabGet d (l.foldl (fun m e => tabSet d m (g e.1) e.2) m) (g i) = tabGet d l i := by
  induction l generalizing m with
  | nil => exact hm
  | cons e l ih =>
    obtain ⟨habove, hne, hl⟩ := tabWf_cons.1 hwf
    have hinj' := fun x hx => hinj x (List.mem_cons_of_mem e hx)
    by_cases hk : i = e.1
    · have hother : ∀ x ∈ l, g i ≠ g x.1 := fun x hx hg => by
        have := habove x hx
        have := hinj' x hx hg
        omega
      rw [List.foldl_cons, tabGet_foldl_tabSet_ne hother, ← hk, tabGet_tabSet_of_ne hne, tabGet, if_pos hk]
    · have hg : g i ≠ g e.1 := fun hg => hk (hinj e List.mem_cons_self hg).symm
      rw [List.foldl_cons, ih hl hinj' ((tabGet_tabSet_ne hg).trans hm), tabGet, if_neg hk]

/-- A count in a field of a word raised, and nothing else changed. -/
theorem cwCountFld_spec {a hi lo n : Nat} {s : State} (h : tabWf cwReset s.cw = true) (hlo : lo ≤ hi) (hhi : hi < 36) :
    let t := cwCountFld a hi lo n s
    fld (cwGet t a) hi lo = min (fld (cwGet s a) hi lo + n) (2 ^ (hi + 1 - lo) - 1) ∧ cwKept s t [a] ∧
      t = { s with cw := t.cw } := by
  refine ⟨?_, cwKept_cwSet, rfl⟩
  have hpos : 0 < 2 ^ (hi + 1 - lo) := by positivity
  rw [cwCountFld, cwPut, cwGet_cwSet h, fld_putFld hlo hhi (by omega), cwFld]

/-! ### Decks and resize controllers -/

section Canonical
variable {s : State} (h : Safety.tablesOk s = true)
include h

theorem tablesOk_decks : tabWf (fun _ => ({} : DieDeck)) s.decks = true := by
  simp only [Safety.tablesOk, Safety.unitTables, Bool.and_eq_true] at h; tauto
theorem tablesOk_rsz : tabWf (fun _ => ({} : Rsz)) s.rsz = true := by
  simp only [Safety.tablesOk, Safety.unitTables, Bool.and_eq_true] at h; tauto
end Canonical

theorem dieDeck_dieDeckPut {d : Nat} {k : DieDeck} {s : State} (h : tabWf (fun _ => ({} : DieDeck)) s.decks = true) :
    dieDeck (dieDeckPut d k s) d = k := tabGet_tabSet_same (d := fun _ => ({} : DieDeck)) h

/-- A control word written and a resize controller changed, nothing else. -/
theorem rszPut_cwSet_spec {k a : Nat} {r : Rsz} {v : Word} {s : State} (hs : Safety.tablesOk s = true) :
    let t := rszPut k r (cwSet a v s)
    cwGet t a = v ∧ cwKept s t [a] ∧ rszGet t k = r ∧ keeps rszGet s t [k] ∧ t = { s with cw := t.cw, rsz := t.rsz } :=
  ⟨cwGet_cwSet (tablesOk_cw hs), cwKept_cwSet, tabGet_tabSet_same (d := fun _ => ({} : Rsz)) (tablesOk_rsz (s := s) hs),
    fun _ hj => tabGet_tabSet_ne (by simpa using hj), rfl⟩

end Sys2Proof.Machine
end

section
/-! PROOFS. O33: the writes to a resize controller, its steps, and the outputs of a pending swap. -/

namespace Sys2Proof.Machine

/-! ### A write to RSZ_CFG (R229, R231, R232) -/

section Apply
variable {k : Nat} {v : Word} {s : State}

/-- The set-up word of a controller as a write of v leaves it. -/
def rszStored (k : Nat) (v : Word) (s : State) : State := cwSet (rszAddr k 0) (v &&& 0xFFFFC0000) s

theorem rszCfg_rszStored (hs : Safety.tablesOk s = true) : rszCfg (rszStored k v s) k = v &&& 0xFFFFC0000 :=
  cwGet_cwSet (tablesOk_cw hs)

theorem applyRszCfg_reserved (h : fld v 34 33 = 3) : applyRszCfg k v s = .error St.cfgRange := if_pos h

section Sound
variable (hr : fld v 34 33 ≠ 3) (hwas : (rszCfg s k).getLsbD 35 = true)
include hr hwas

theorem applyRszCfg_disables (hv : v.getLsbD 35 = false) :
    applyRszCfg k v s = if rszSettled s k then .ok (rszPut k {} (rszStored k v s)) else .error St.rszRuns := by
  rw [applyRszCfg, if_neg hr, if_pos (by rw [bit_eq_getLsbD, bit_eq_getLsbD, hwas, hv]; rfl)]
  rfl

/-- A write that leaves an enabled controller enabled: an ABORT before the hop, a GO while idle, or the word alone. -/
theorem applyRszCfg_enabled (hv : v.getLsbD 35 = true) : applyRszCfg k v s =
    if v.getLsbD 16 && decide ((rszGet s k).step = 1) then .ok (rszAbort k (rszStored k v s))
    else if v.getLsbD 17 && !v.getLsbD 16 && rszIdle s k then
      if rszTimerFree (rszStored k v s) k then .ok (rszStart k (rszStored k v s)) else .error St.timerBusy
    else .ok (rszStored k v s) := by
  unfold applyRszCfg
  simp only [bit_eq_getLsbD, hwas, hv, if_neg hr, Bool.not_true, Bool.and_false, Bool.false_eq_true, if_false, Bool.true_and]
  rfl

theorem applyRszCfg_go (hv : v.getLsbD 35 = true) (h17 : v.getLsbD 17 = true) (h16 : v.getLsbD 16 = false) :
    applyRszCfg k v s = if rszIdle s k then
      if rszTimerFree (rszStored k v s) k then .ok (rszStart k (rszStored k v s)) else .error St.timerBusy
    else .ok (rszStored k v s) := by
  rw [applyRszCfg_enabled hr hwas hv, h17, h16]
  rfl

theorem applyRszCfg_abort (hv : v.getLsbD 35 = true) (h16 : v.getLsbD 16 = true) :
    applyRszCfg k v s = if (rszGet s k).step = 1 then .ok (rszAbort k (rszStored k v s)) else .ok (rszStored k v s) := by
  rw [applyRszCfg_enabled hr hwas hv, h16]
  simp

end Sound

/-- The controller as a GO of v starts it. -/
def rszStarted (v : Word) (r : Rsz) : Rsz :=
  { r with step := if fld v 34 33 ≠ 2 ∧ v.getLsbD 32 = true then 3 else 1, rateOld := r.rateNow, timer := true,
           wantSwap := false, noTimer := false }

theorem rszStart_rszStored (hs : Safety.tablesOk s = true) :
    rszStart k (rszStored k v s) = rszPut k (rszStarted v (rszGet s k)) (rszStored k v s) := by
  have hrole : fld (v &&& 0xFFFFC0000) 34 33 = fld v 34 33 := fld_and (by decide)
  have hdown : (v &&& 0xFFFFC0000).getLsbD 32 = v.getLsbD 32 := getLsbD_and_of_set (by decide)
  unfold rszStart rszStarted rszRole
  simp only [rszCfg_rszStored hs, bit_eq_getLsbD, hrole, hdown, Bool.and_eq_true, bne_iff_ne]
  rfl

end Apply

/-! ### RSZ_GO, RSZ_ABORT_CMD and RSZ_CFG_DISABLE -/

section Writes
variable {d : DieId} {i : Fin 32} {w : CtlWrite} {s : State}

/-- The three commands are one write to RSZ_CFG, with GO set, with ABORT set, or with EN clear. -/
theorem rszWrite_eq {v : Word} {r : Applied} (h : applyRszCfg (d.val * 32 + i.val) v s = r) :
    rszWrite d i w v s = .next (settle w.origin .word (rszAddr (d.val * 32 + i.val) 0) s r) := by
  rw [← h]; rfl

theorem rszWrites_of_reserved (h : fld w.value 34 33 = 3) :
    let refused := refuse w.origin 0x02 .word (rszAddr (d.val * 32 + i.val) 0) s
    exec (.rszGo d i w) s = .next refused ∧ exec (.rszAbortCmd d i w) s = .next refused ∧
      exec (.rszCfgDisable d i w) s = .next refused := by
  refine ⟨rszWrite_eq (applyRszCfg_reserved ?_), rszWrite_eq (applyRszCfg_reserved ?_),
    rszWrite_eq (applyRszCfg_reserved ?_)⟩ <;>
    rw [fld_putFld_of_disjoint (by decide) (by decide) (by decide), h]

section Sound
variable (hr : fld w.value 34 33 ≠ 3) (hwas : (rszCfg s (d.val * 32 + i.val)).getLsbD 35 = true)
include hr hwas

section Enabled
variable (hv : w.value.getLsbD 35 = true)
include hv

section Go
variable (h16 : w.value.getLsbD 16 = false)
include h16

theorem rszGo_eq : let k := d.val * 32 + i.val
    let go := putFld w.value 17 17 1
    exec (.rszGo d i w) s = .next (settle w.origin .word (rszAddr k 0) s (if rszIdle s k then
      if rszTimerFree (rszStored k go s) k then .ok (rszStart k (rszStored k go s)) else .error St.timerBusy
    else .ok (rszStored k go s))) := by
  refine rszWrite_eq (applyRszCfg_go ?_ hwas ?_ ?_ ?_)
  · rwa [fld_putFld_of_disjoint (by decide) (by decide) (by decide)]
  · rwa [getLsbD_putFld_of_disjoint (by decide) (by decide) (by decide)]
  · rw [getLsbD_putFld_bit (by decide)]; rfl
  · rwa [getLsbD_putFld_of_disjoint (by decide) (by decide) (by decide)]

theorem rszGo_starts (hs : Safety.tablesOk s = true) (hidle : rszIdle s (d.val * 32 + i.val) = true)
    (hfree : rszTimerFree (rszStored (d.val * 32 + i.val) (putFld w.value 17 17 1) s) (d.val * 32 + i.val) = true) :
    let k := d.val * 32 + i.val
    let a := rszAddr k 0
    let go := putFld w.value 17 17 1
    applies w.origin .word a s (exec (.rszGo d i w) s) fun t => cwGet t a = (go &&& 0xFFFFC0000) ∧ cwKept s t [a] ∧
      rszGet t k = rszStarted go (rszGet s k) ∧ keeps rszGet s t [k] ∧ t = { s with cw := t.cw, rsz := t.rsz } := by
  intro k a go
  rw [rszGo_eq hr hwas hv h16, if_pos hidle, if_pos hfree, rszStart_rszStored hs]
  exact applies_ok (rszPut_cwSet_spec hs)

theorem rszGo_of_busy (hidle : rszIdle s (d.val * 32 + i.val) = true)
    (hfree : rszTimerFree (rszStored (d.val * 32 + i.val) (putFld w.value 17 17 1) s) (d.val * 32 + i.val) = false) :
    exec (.rszGo d i w) s = .next (refuse w.origin 0x07 .word (rszAddr (d.val * 32 + i.val) 0) s) := by
  rw [rszGo_eq hr hwas hv h16, if_pos hidle, if_neg (by rw [hfree]; decide), settle_error]
  rfl

theorem rszGo_of_running (hidle : rszIdle s (d.val * 32 + i.val) = false) : let k := d.val * 32 + i.val
    applies w.origin .word (rszAddr k 0) s (exec (.rszGo d i w) s) fun t =>
      t = rszStored k (putFld w.value 17 17 1) s := by
  rw [rszGo_eq hr hwas hv h16, if_neg (by rw [hidle]; decide)]
  exact applies_ok rfl

end Go

theorem rszAbortCmd_eq : let k := d.val * 32 + i.val
    let ab := putFld w.value 16 16 1
    exec (.rszAbortCmd d i w) s = .next (settle w.origin .word (rszAddr k 0) s
      (if (rszGet s k).step = 1 then .ok (rszAbort k (rszStored k ab s)) else .ok (rszStored k ab s))) := by
  refine rszWrite_eq (applyRszCfg_abort ?_ hwas ?_ ?_)
  · rwa [fld_putFld_of_disjoint (by decide) (by decide) (by decide)]
  · rwa [getLsbD_putFld_of_disjoint (by decide) (by decide) (by decide)]
  · rw [getLsbD_putFld_bit (by decide)]; rfl

theorem rszAbortCmd_ends (h1 : (rszGet s (d.val * 32 + i.val)).step = 1) : let k := d.val * 32 + i.val
    applies w.origin .word (rszAddr k 0) s (exec (.rszAbortCmd d i w) s) fun t =>
      t = rszAbort k (rszStored k (putFld w.value 16 16 1) s) := by
  rw [rszAbortCmd_eq hr hwas hv, if_pos h1]
  exact applies_ok rfl

theorem rszAbortCmd_late (h1 : (rszGet s (d.val * 32 + i.val)).step ≠ 1) : let k := d.val * 32 + i.val
    applies w.origin .word (rszAddr k 0) s (exec (.rszAbortCmd d i w) s) fun t =>
      t = rszStored k (putFld w.value 16 16 1) s := by
  rw [rszAbortCmd_eq hr hwas hv, if_neg h1]
  exact applies_ok rfl

end Enabled

theorem rszCfgDisable_eq : let k := d.val * 32 + i.val
    exec (.rszCfgDisable d i w) s = .next (settle w.origin .word (rszAddr k 0) s
      (if rszSettled s k then .ok (rszPut k {} (rszStored k (putFld w.value 35 35 0) s)) else .error St.rszRuns)) := by
  refine rszWrite_eq (applyRszCfg_disables ?_ hwas ?_)
  · rwa [fld_putFld_of_disjoint (by decide) (by decide) (by decide)]
  · rw [getLsbD_putFld_bit (by decide)]; rfl

theorem rszCfgDisable_of_settled (hs : Safety.tablesOk s = true) (hset : rszSettled s (d.val * 32 + i.val) = true) :
    let k := d.val * 32 + i.val
    let a := rszAddr k 0
    applies w.origin .word a s (exec (.rszCfgDisable d i w) s) fun t =>
      cwGet t a = (putFld w.value 35 35 0 &&& 0xFFFFC0000) ∧ cwKept s t [a] ∧ rszGet t k = {} ∧ keeps rszGet s t [k] ∧
        t = { s with cw := t.cw, rsz := t.rsz } := by
  intro k a
  rw [rszCfgDisable_eq hr hwas, if_pos hset]
  exact applies_ok (rszPut_cwSet_spec hs)

theorem rszCfgDisable_of_unsettled (hset : rszSettled s (d.val * 32 + i.val) = false) :
    exec (.rszCfgDisable d i w) s = .next (refuse w.origin 0x44 .word (rszAddr (d.val * 32 + i.val) 0) s) := by
  rw [rszCfgDisable_eq hr hwas, if_neg (by rw [hset]; decide), settle_error]
  rfl

end Sound
end Writes

/-! ### The steps of a resize (R230, R231) -/

section Steps
variable {d : DieId} {i : Fin 32} {s : State}

/-- A controller waits for its handshake. -/
def rszWaits (s : State) (k : Nat) : Prop :=
  (rszCfg s k).getLsbD 35 = true ∧ (rszGet s k).step = 1 ∧ (rszGet s k).wantSwap = false

theorem rszWaits_iff {k : Nat} :
    (bit (rszCfg s k) 35 && decide ((rszGet s k).step = 1) && !(rszGet s k).wantSwap) = true ↔ rszWaits s k := by
  simp [rszWaits, and_assoc]

theorem rszHandshake_of_waiting (h : rszWaits s (d.val * 32 + i.val)) : let k := d.val * 32 + i.val
    let r := rszGet s k
    exec (.rszHandshakeAck d i) s =
        .next (rszPut k (if rszRole s k = 2 then { r with wantSwap := true } else { r with step := 3 }) s) ∧
      exec (.rszHandshakeTimeout d i) s = .next (rszAbort k s) :=
  ⟨congrArg Host.Outcome.next (if_pos (rszWaits_iff.2 h)), congrArg Host.Outcome.next (if_pos (rszWaits_iff.2 h))⟩

theorem rszHandshake_idle (h : ¬ rszWaits s (d.val * 32 + i.val)) :
    exec (.rszHandshakeAck d i) s = .next s ∧ exec (.rszHandshakeTimeout d i) s = .next s :=
  ⟨congrArg Host.Outcome.next (if_neg (mt rszWaits_iff.1 h)), congrArg Host.Outcome.next (if_neg (mt rszWaits_iff.1 h))⟩

theorem rszRampEnd_of_ramping (hwas : (rszCfg s (d.val * 32 + i.val)).getLsbD 35 = true)
    (h3 : (rszGet s (d.val * 32 + i.val)).step = 3) :
    exec (.rszRampEnd d i) s = .next (rszDone (d.val * 32 + i.val) s) :=
  congrArg Host.Outcome.next (if_pos (by simp [hwas, h3]))

theorem rszRampEnd_idle (h : ¬ (rszCfg s (d.val * 32 + i.val)).getLsbD 35 = true ∨
    (rszGet s (d.val * 32 + i.val)).step ≠ 3) : exec (.rszRampEnd d i) s = .next s :=
  congrArg Host.Outcome.next (if_neg (by simpa [imp_iff_not_or] using h))

end Steps

/-! ### The outputs of a swap (R218, R219) -/

section Outputs
variable {d n us : Nat} {s : State}

/-- The outputs of carrier n are still to change in the pending eligible swap of die d. -/
def outputDue (s : State) (d n : Nat) : Prop :=
  (dieDeck s d).pending = true ∧ (dieDeck s d).eligible = true ∧ n ∈ carriersOf s d ∧ n ∉ (dieDeck s d).changed

theorem outputDue_iff : ((dieDeck s d).pending && (dieDeck s d).eligible && (carriersOf s d).contains n &&
    !(dieDeck s d).changed.contains n) = true ↔ outputDue s d n := by
  simp [outputDue, and_assoc]

theorem changeOutputs_of_due (h : outputDue s d n) : changeOutputs d n us s =
    (carrierPairs s d n).foldl (fun s p => hitlessMove d p s) (changeOnce d n us s) := if_pos (outputDue_iff.2 h)

theorem changeOutputs_idle (h : ¬ outputDue s d n) : changeOutputs d n us s = s := if_neg (mt outputDue_iff.1 h)

/-- Without a pending swap no output changes, of however many carriers. -/
theorem changeOutputs_foldl_idle (h : (dieDeck s d).pending = false) :
    (l : List Nat) → l.foldl (fun s c => changeOutputs d c us s) s = s
  | [] => rfl
  | n :: l => by
    rw [List.foldl_cons, changeOutputs_idle fun hdue => by simp [hdue.1] at h]
    exact changeOutputs_foldl_idle h l

theorem deckSwapTimeout_of_one {d : DieId} (hc : carriersOf s d.val = [n]) (h : outputDue s d.val n) :
    exec (.deckSwapTimeout d) s = .next ((carrierPairs s d.val n).foldl (fun s p => hitlessMove d.val p s)
      (changeOnce d.val n 2000 s)) := by
  rw [exec_deckSwapTimeout, execDeckSwapTimeout, hc, List.foldl_cons, List.foldl_nil, changeOutputs_of_due h]

end Outputs

/-- Settles O33: each write to RSZ_CFG by the branch it takes, each step by its condition, each output while it is due. -/
theorem resizesRunInSteps : Obligations.ResizesRunInSteps := by
  unfold Obligations.ResizesRunInSteps
  intro d i c us w s hs k a r was go ab off plan waits
  exact ⟨rszWrites_of_reserved,
    fun hr hwas hv => ⟨fun h16 => rszGo_starts hr hwas hv h16 hs, rszGo_of_busy hr hwas hv, rszGo_of_running hr hwas hv,
      rszAbortCmd_ends hr hwas hv, rszAbortCmd_late hr hwas hv⟩,
    fun hr hwas => rszCfgDisable_of_settled hr hwas hs, rszCfgDisable_of_unsettled, rszHandshake_idle,
    rszHandshake_of_waiting, rszRampEnd_of_ramping, rszRampEnd_idle,
    fun hidle => congrArg Host.Outcome.next (changeOutputs_idle hidle),
    fun hdue => congrArg Host.Outcome.next (changeOutputs_of_due hdue),
    fun hp => congrArg Host.Outcome.next (changeOutputs_foldl_idle hp _), fun _ => deckSwapTimeout_of_one⟩

end Sys2Proof.Machine
end
section
/-! PROOFS. O36: the set-up of a pair, the slot test patterns, the copy after a swap, and fine blocks. -/

namespace Sys2Proof.Machine

/-! ### The set-up words of a pair (R276, R277, R283) -/

theorem pairAddr_ne {p w w' : Nat} (h : w ≠ w') : pairAddr p w ≠ pairAddr p w' := by
  unfold pairAddr ctlAddr
  omega

section Pair
variable {p w st : Nat} {v : Word} {before plan s : State}

theorem applyPrt_refused (h : prtStatus before plan s p w v = st) (h0 : st ≠ 0) :
    applyPrt before plan p w v s = .error st := by
  unfold applyPrt
  rw [h]
  cases st with
  | zero => exact absurd rfl h0
  | succ n => rfl

section Sound
variable (h : prtStatus before plan s p w v = 0)
include h

theorem applyPrt_stores (hw : w ≠ 0) :
    applyPrt before plan p w v s = .ok (cwSet (pairAddr p w) (v &&& prtMask w) s) := by
  unfold applyPrt
  rw [h]
  simp only [if_neg hw, if_pos hw]

/-- PRT_CFG of a disabled pair: stored, and a pair enabled by it takes the far end's value. -/
theorem applyPrt_off (hw : w = 0) (hoff : prtOn s p = false) : applyPrt before plan p w v s =
    .ok (if v.getLsbD 35 = true then farTaken p (cwSet (pairAddr p w) (v &&& prtMask w) s)
      else cwSet (pairAddr p w) (v &&& prtMask w) s) := by
  subst hw
  have hraised : keepRaised p s = s := if_neg (by simp [hoff])
  unfold applyPrt
  rw [h]
  simp [hraised, hoff]

end Sound

/-- PRT_CFG decides neither the link of a pair nor the cell that it takes its far end from. -/
theorem prtLink_cwSet : prtLink (cwSet (pairAddr p 0) v s) p = prtLink s p := cwGet_cwSet_ne (pairAddr_ne (by decide))

theorem prtCell_cwSet : prtCell (cwSet (pairAddr p 0) v s) p = prtCell s p := by
  have hctx : prtCtx (cwSet (pairAddr p 0) v s) p = prtCtx s p := cwGet_cwSet_ne (pairAddr_ne (by decide))
  unfold prtCell prtCluster pCtx
  rw [prtLink_cwSet, hctx]
  rfl

theorem farTaken_cwSet : farTaken p (cwSet (pairAddr p 0) v s) =
    if (prtLink s p).getLsbD 35 = true ∧ (cellGet s (prtCell s p)).valid = true then
      farAccept p (cellGet s (prtCell s p)).acc (cwSet (pairAddr p 0) v s)
    else cwSet (pairAddr p 0) v s := by
  have hcell (c : Nat) : cellGet (cwSet (pairAddr p 0) v s) c = cellGet s c := rfl
  unfold farTaken
  simp only [prtLink_cwSet, prtCell_cwSet, hcell, bit_eq_getLsbD, Bool.and_eq_true]

theorem farTaken_cw (s : State) : (farTaken p s).cw = s.cw :=
  farTaken_frame (π := State.cw) (fun _ _ => rfl) (fun _ _ => rfl) p s rfl

end Pair

section PrtCfg
variable {p : PairId} {w : PrtWrite} {s : State}

/-- One set-up word written alone. -/
theorem prtCfg_single {r : Applied} (h : applyPrt s (cwSet (pairAddr p.val w.word.val) (w.value &&& prtMask w.word.val) s)
      p.val w.word.val w.value s = r) :
    exec (.prtCfg p [w]) s = .next (settle w.origin .word (pairAddr p.val w.word.val) s r) := by
  rw [← h]
  rfl

/-- What a write judged beside its own plan is refused with. -/
def prtOwnStatus (s : State) (p : Nat) (w : PrtWrite) : Nat :=
  prtStatus s (cwSet (pairAddr p w.word.val) (w.value &&& prtMask w.word.val) s) s p w.word.val w.value

theorem prtCfg_refused (h0 : prtOwnStatus s p.val w ≠ 0) : exec (.prtCfg p [w]) s =
    .next (refuse w.origin (prtOwnStatus s p.val w) .word (pairAddr p.val w.word.val) s) :=
  prtCfg_single (applyPrt_refused rfl h0)

theorem prtCfg_stores (hs : Safety.tablesOk s = true) (h : prtOwnStatus s p.val w = 0) (hw : w.word.val ≠ 0) :
    let a := pairAddr p.val w.word.val
    applies w.origin .word a s (exec (.prtCfg p [w]) s) fun t =>
      cwGet t a = (w.value &&& prtMask w.word.val) ∧ cwKept s t [a] ∧ t = { s with cw := t.cw } := by
  intro a
  rw [prtCfg_single (applyPrt_stores h hw)]
  exact applies_ok (cwSet_spec hs)

theorem prtCfg_of_off (hs : Safety.tablesOk s = true) (h : prtOwnStatus s p.val w = 0) (hw : w.word.val = 0)
    (hoff : prtOn s p.val = false) : let a := pairAddr p.val w.word.val
    let v := w.value &&& prtMask w.word.val
    let cell := cellGet s (prtCell s p.val)
    applies w.origin .word a s (exec (.prtCfg p [w]) s) fun t => cwGet t a = v ∧ cwKept s t [a] ∧
      t = if w.value.getLsbD 35 = true ∧ (prtLink s p.val).getLsbD 35 = true ∧ cell.valid = true then
          farAccept p.val cell.acc (cwSet a v s)
        else cwSet a v s := by
  intro a v cell
  obtain ⟨hget, hkept, -⟩ := cwSet_spec (a := a) (x := v) hs
  have hcw : (if w.value.getLsbD 35 = true then farTaken p.val (cwSet a v s) else cwSet a v s).cw = (cwSet a v s).cw := by
    split
    · exact farTaken_cw _
    · rfl
  rw [prtCfg_single (applyPrt_off h hw hoff)]
  refine applies_ok ⟨(cwGet_congr hcw a).trans hget, fun b hb => (cwGet_congr hcw b).trans (hkept b hb), ?_⟩
  rw [hw, farTaken_cwSet]
  simp only [ite_and, a, v, cell, hw]

end PrtCfg

/-! ### Slot test patterns (R234, Table 6-14) -/

section Patterns
variable {d : DieId} {c : CtlWrite} {s : State}

/-- A mode that honours test patterns. -/
def testing (s : State) : Prop := s.mode = .provision ∨ s.mode = .active ∨ s.mode = .test

theorem testMode_iff : testMode s.mode = true ↔ testing s := by simp [testMode, testing, or_assoc]

/-- A slot of die d. -/
def slotOfDie (d slot : Nat) : Prop := slot % 0x4000 ≤ 10239 ∧ deckDie slot = d

theorem slotRefused_iff {v : Word} {d : Nat} : (bit v 35 && (decide (fld v 33 19 % 0x4000 > 10239) ||
    decide (deckDie (fld v 33 19) ≠ d))) = true ↔ v.getLsbD 35 = true ∧ ¬ slotOfDie d (fld v 33 19) := by
  simp [slotOfDie, imp_iff_not_or]

theorem modeRefused_iff {v : Word} :
    (bit v 35 && !testMode s.mode) = true ↔ v.getLsbD 35 = true ∧ ¬ testing s := by
  rw [← testMode_iff]
  simp

theorem deckPrbsGen_settles {r : Applied} (h : applyDeckGen d.val c.value s = r) :
    exec (.deckPrbsGen d c) s = .next (settle c.origin .word (ctlAddr clsDeck d.val 0x10) s r) := by
  rw [← h]
  rfl

theorem deckPrbsChk_settles {r : Applied} (h : applyDeckChk d.val c.value s = r) :
    exec (.deckPrbsChk d c) s = .next (settle c.origin .word (ctlAddr clsDeck d.val 0x11) s r) := by
  rw [← h]
  rfl

section Enabled
variable (hon : c.value.getLsbD 35 = true)
include hon

theorem deckPrbs_of_mode (hm : ¬ testing s) :
    exec (.deckPrbsGen d c) s = .next (refuse c.origin 0x04 .word (ctlAddr clsDeck d.val 0x10) s) ∧
      exec (.deckPrbsChk d c) s = .next (refuse c.origin 0x04 .word (ctlAddr clsDeck d.val 0x11) s) :=
  ⟨deckPrbsGen_settles (if_pos (modeRefused_iff.2 ⟨hon, hm⟩)), deckPrbsChk_settles (if_pos (modeRefused_iff.2 ⟨hon, hm⟩))⟩

variable (hm : testing s)
include hm

theorem deckPrbs_of_slot (hslot : ¬ slotOfDie d.val (fld c.value 33 19)) :
    exec (.deckPrbsGen d c) s = .next (refuse c.origin 0x01 .word (ctlAddr clsDeck d.val 0x10) s) ∧
      exec (.deckPrbsChk d c) s = .next (refuse c.origin 0x01 .word (ctlAddr clsDeck d.val 0x11) s) := by
  have hmode := mt (modeRefused_iff (s := s) (v := c.value)).1 (by simp [hm])
  have hid := slotRefused_iff.2 ⟨hon, hslot⟩
  exact ⟨deckPrbsGen_settles ((if_neg hmode).trans (if_pos hid)), deckPrbsChk_settles ((if_neg hmode).trans (if_pos hid))⟩

theorem deckPrbsGen_of_held (hslot : slotOfDie d.val (fld c.value 33 19))
    (hheld : (deckEntry s false (deckMain (fld c.value 33 19))).getLsbD 35 = true) :
    exec (.deckPrbsGen d c) s = .next (refuse c.origin 0x06 .word (ctlAddr clsDeck d.val 0x10) s) := by
  have hmode := mt (modeRefused_iff (s := s) (v := c.value)).1 (by simp [hm])
  have hid := mt (slotRefused_iff (v := c.value) (d := d.val)).1 (by simp [hslot])
  exact deckPrbsGen_settles ((if_neg hmode).trans ((if_neg hid).trans (if_pos (by simp [hon, hheld]))))

end Enabled

theorem deckPrbsGen_stores (hs : Safety.tablesOk s = true) (h : ¬ c.value.getLsbD 35 = true ∨
    (testing s ∧ slotOfDie d.val (fld c.value 33 19) ∧
      (deckEntry s false (deckMain (fld c.value 33 19))).getLsbD 35 = false)) :
    let gen := ctlAddr clsDeck d.val 0x10
    applies c.origin .word gen s (exec (.deckPrbsGen d c) s) fun t =>
      cwGet t gen = (c.value &&& 0xFFFF80000) ∧ cwKept s t [gen] ∧ t = { s with cw := t.cw } := by
  intro gen
  have hmode := mt (modeRefused_iff (s := s) (v := c.value)).1 (by tauto)
  have hid := mt (slotRefused_iff (v := c.value) (d := d.val)).1 (by tauto)
  have hfree : ¬ (bit c.value 35 && bit (deckEntry s false (deckMain (fld c.value 33 19))) 35) = true := by
    rw [bit_eq_getLsbD, bit_eq_getLsbD, Bool.and_eq_true]
    rintro ⟨hon, hheld⟩
    obtain hoff | ⟨-, -, hfree⟩ := h
    · exact hoff hon
    · exact Bool.false_ne_true (hfree.symm.trans hheld)
  rw [deckPrbsGen_settles ((if_neg hmode).trans ((if_neg hid).trans (if_neg hfree)))]
  exact applies_ok (cwSet_spec hs)

/-- The checker of a die afresh. -/
def prbsCleared (k : DieDeck) : DieDeck := { k with prbsErr := 0, prbsErrSnap := 0, prbsLock := false }

theorem deckPrbsChk_stores (hs : Safety.tablesOk s = true)
    (h : ¬ c.value.getLsbD 35 = true ∨ (testing s ∧ slotOfDie d.val (fld c.value 33 19))) :
    let chk := ctlAddr clsDeck d.val 0x11
    applies c.origin .word chk s (exec (.deckPrbsChk d c) s) fun t =>
      cwGet t chk = (c.value &&& 0xBFFF80000) ∧ cwKept s t [chk] ∧
        dieDeck t d.val = (if c.value.getLsbD 35 = true ∧ (cwGet s chk).getLsbD 35 = false then prbsCleared (dieDeck s d.val)
          else dieDeck s d.val) ∧ t = { s with cw := t.cw, decks := t.decks } := by
  intro chk
  have hmode := mt (modeRefused_iff (s := s) (v := c.value)).1 (by tauto)
  have hid := mt (slotRefused_iff (v := c.value) (d := d.val)).1 (by tauto)
  rw [deckPrbsChk_settles ((if_neg hmode).trans (if_neg hid))]
  refine applies_ok ?_
  by_cases hfresh : c.value.getLsbD 35 = true ∧ (cwGet s chk).getLsbD 35 = false
  · rw [if_pos hfresh, if_pos (by simpa using hfresh)]
    exact ⟨cwGet_cwSet (tablesOk_cw (s := s) hs), cwKept_cwSet, dieDeck_dieDeckPut (tablesOk_decks (s := s) hs), rfl⟩
  · rw [if_neg hfresh, if_neg (by simpa using hfresh)]
    exact ⟨cwGet_cwSet (tablesOk_cw hs), cwKept_cwSet, rfl, rfl⟩

end Patterns

/-! ### The copy after a swap (R220) -/

section Copy
variable {d a : Nat} {standby : Bool} {s : State}

/-- A key of the deck table lies in a page of die d. -/
def onPage (s : State) (d : Nat) (standby : Bool) (key : Nat) : Bool :=
  deckDie (key % 0x40000) == d && key == deckKey s standby (key % 0x40000)

theorem deckKey_mod (h : a < 0x40000) : deckKey s standby a % 0x40000 = a := by
  unfold deckKey
  split <;> omega

theorem deckKey_pages_ne : deckKey s false a ≠ deckKey s true a := by
  unfold deckKey
  cases (dieDeck s (deckDie a)).act <;> simp

/-- Two keys of pages that agree name one address. -/
theorem addr_eq_of_deckKey_eq {b : Nat} {x y : Bool} (ha : a < 0x40000) (hb : b < 0x40000)
    (h : deckKey s x a = deckKey s y b) : a = b := by
  rw [← deckKey_mod (s := s) (standby := x) ha, h, deckKey_mod hb]

theorem deckKey_congr {t : State} (h : ∀ e, (dieDeck t e).act = (dieDeck s e).act) : deckKey t = deckKey s := by
  funext standby a
  unfold deckKey
  rw [h]

/-- The deck table once the active page of die d is its standby page too. -/
def copiedDeck (s : State) (d : Nat) : Tab Word :=
  (s.deck.filter fun e => onPage s d false e.1).foldl (fun m e => tabSet 0 m (deckKey s true (e.1 % 0x40000)) e.2)
    (s.deck.filter fun e => !onPage s d true e.1)

/-- A die at the end of its swap. -/
def swapEnded (k : DieDeck) : DieDeck :=
  { k with pending := false, eligible := false, changed := [], byResize := false, last := 1, cause := 0 }

theorem foldl_putDeck (l : List (Nat × Word)) (t : State) :
    l.foldl (fun s e => s.putDeck (tabSet 0 s.deck (deckKey s true (e.1 % 0x40000)) e.2)) t =
      t.putDeck (l.foldl (fun m e => tabSet 0 m (deckKey t true (e.1 % 0x40000)) e.2) t.deck) := by
  induction l generalizing t with
  | nil => rfl
  | cons e l ih => exact ih _

section Canonical
variable (hs : Safety.tablesOk s = true)
include hs

theorem deckKey_dieDeckPut {k : DieDeck} (h : k.act = (dieDeck s d).act) : deckKey (dieDeckPut d k s) = deckKey s :=
  deckKey_congr fun e => by
    by_cases he : e = d
    · rw [he, dieDeck_dieDeckPut (tablesOk_decks hs), h]
    · exact congrArg DieDeck.act (tabGet_tabSet_ne he)

theorem copyPages_eq : copyPages d s = (dieDeckPut d (swapEnded (dieDeck s d)) s).putDeck (copiedDeck s d) := by
  have hfold := foldl_putDeck (s.deck.filter fun e => onPage s d false e.1)
    (dieDeckPut d (swapEnded (dieDeck s d)) (s.putDeck (s.deck.filter fun e => !onPage s d true e.1)))
  have hkey : deckKey (dieDeckPut d (swapEnded (dieDeck s d)) (s.putDeck (s.deck.filter fun e => !onPage s d true e.1))) =
      deckKey s := deckKey_dieDeckPut hs rfl
  rw [hkey] at hfold
  exact hfold

/-- What the copy leaves: the swap ended, the deck table copied, all else as before. -/
theorem copyPages_spec : let t := copyPages d s
    dieDeck t d = swapEnded (dieDeck s d) ∧ deckKey t = deckKey s ∧ t.deck = copiedDeck s d ∧ t.cw = s.cw ∧
      t = { s with deck := t.deck, decks := t.decks } := by
  rw [copyPages_eq hs]
  exact ⟨dieDeck_dieDeckPut (tablesOk_decks hs), deckKey_dieDeckPut hs rfl, rfl, rfl, rfl⟩

end Canonical

/-- The standby page reads as the active page. -/
theorem tabGet_copiedDeck_standby (hd : tabWf (fun _ => (0 : Word)) s.deck = true) (ha : a < 0x40000) (hdie : deckDie a = d) :
    tabGet 0 (copiedDeck s d) (deckKey s true a) = deckEntry s false a := by
  have hmod : deckKey s false a % 0x40000 = a := deckKey_mod ha
  have hact : onPage s d false (deckKey s false a) = true := by simp [onPage, hmod, hdie]
  have hold : onPage s d true (deckKey s true a) = true := by simp [onPage, deckKey_mod ha, hdie]
  have hone : ∀ e ∈ s.deck.filter fun e => onPage s d false e.1,
      deckKey s true (deckKey s false a % 0x40000) = deckKey s true (e.1 % 0x40000) → e.1 = deckKey s false a := by
    intro e he hkey
    obtain ⟨-, hpage⟩ := (Bool.and_eq_true _ _).mp (List.mem_filter.1 he).2
    have haddr : a = e.1 % 0x40000 :=
      addr_eq_of_deckKey_eq ha (Nat.mod_lt _ (by decide)) (by rwa [hmod] at hkey)
    rw [haddr]
    exact eq_of_beq hpage
  have hcleared : tabGet 0 (s.deck.filter fun e => !onPage s d true e.1) (deckKey s true a) = 0 :=
    (tabGet_filter_key 0 (fun key => !onPage s d true key) _ _).trans (if_neg (by simp [hold]))
  have hcopy := tabGet_foldl_tabSet (d := 0) (g := fun key => deckKey s true (key % 0x40000)) (i := deckKey s false a)
    (m := s.deck.filter fun e => !onPage s d true e.1) (tabFilter_ok hd) hone
  rw [hmod, tabGet_filter_key 0 (onPage s d false), hact] at hcopy
  exact hcopy hcleared

/-- The active page reads as before. -/
theorem tabGet_copiedDeck_active (ha : a < 0x40000) :
    tabGet 0 (copiedDeck s d) (deckKey s false a) = deckEntry s false a := by
  have hother (b : Nat) (hb : b < 0x40000) : deckKey s false a ≠ deckKey s true b := fun h => by
    obtain rfl := addr_eq_of_deckKey_eq ha hb h
    exact deckKey_pages_ne h
  have hrest : onPage s d true (deckKey s false a) = false := by
    rw [onPage, beq_eq_false_iff_ne.2 (hother _ (Nat.mod_lt _ (by decide))), Bool.and_false]
  exact (tabGet_foldl_tabSet_ne (g := fun key => deckKey s true (key % 0x40000)) fun e _ =>
    hother _ (Nat.mod_lt e.1 (by decide))).trans
      ((tabGet_filter_key 0 (fun key => !onPage s d true key) _ _).trans (if_pos (by simp [hrest])))

end Copy

section CopyDone
variable {d : DieId} {s : State}

theorem deckCopyDone_idle (h : allChanged s d.val = false) : exec (.deckCopyDone d) s = .next s :=
  congrArg Host.Outcome.next (if_neg (by rw [h]; decide))

theorem deckCopyDone_copies (hs : Safety.tablesOk s = true) (h : allChanged s d.val = true)
    (hnone : rszArmed s d.val none = []) : let cnt := deckCntAddr d.val
    ∃ t, exec (.deckCopyDone d) s = .next (swapRecord d.val (dieDeck s d.val).armedTick t) ∧
      (dieDeck t d.val).pending = false ∧ (dieDeck t d.val).changed = [] ∧
      (tabWf (fun _ => 0) s.deck = true → ∀ e, isMainAddr e = true → e < 0x8000 → deckDie e = d.val →
        deckEntry t true e = deckEntry s false e ∧ deckEntry t false e = deckEntry s false e) ∧
      fld (cwGet t cnt) 35 18 = min (fld (cwGet s cnt) 35 18 + 1) 0x3FFFF ∧ cwKept s t [cnt] ∧
      t = { s with deck := t.deck, decks := t.decks, cw := t.cw } := by
  intro cnt
  have hexec : exec (.deckCopyDone d) s = .next (swapRecord d.val (dieDeck s d.val).armedTick
      (cwCountFld cnt 35 18 1 (copyPages d.val s))) := by
    rw [exec_deckCopyDone, execDeckCopyDone, if_pos h, hnone]
    rfl
  obtain ⟨hdie, hkey, hdeck, hcw, hrest⟩ := copyPages_spec (d := d.val) hs
  generalize copyPages d.val s = u at hexec hdie hkey hdeck hcw hrest
  obtain ⟨hcount, hkept, honly⟩ := cwCountFld_spec (a := cnt) (n := 1) (hi := 35) (lo := 18) (s := u)
    (hcw ▸ tablesOk_cw hs) (by decide) (by decide)
  generalize cwCountFld cnt 35 18 1 u = t at hexec hcount hkept honly
  obtain ⟨c, rfl⟩ : ∃ c, t = { u with cw := c } := ⟨_, honly⟩
  have hentry (standby : Bool) (e : Nat) : deckEntry { u with cw := c } standby e =
      tabGet 0 (copiedDeck s d.val) (deckKey s standby e) := by
    rw [← hdeck, ← hkey]
    rfl
  refine ⟨_, hexec, congrArg DieDeck.pending hdie, congrArg DieDeck.changed hdie, fun hd e _ hlt he => ⟨?_, ?_⟩, ?_,
    fun b hb => (hkept b hb).trans (cwGet_congr hcw b), ?_⟩
  · rw [hentry, tabGet_copiedDeck_standby hd (by omega) he]
  · rw [hentry, tabGet_copiedDeck_active (by omega)]
  · rw [hcount, cwGet_congr hcw, show 2 ^ (35 + 1 - 18) - 1 = 0x3FFFF from rfl]
  · rw [hrest]

end CopyDone

/-! ### Fine blocks (R226) -/

section Fine
variable {r : RegionId} {b : Fin 64} {c : CtlWrite} {s : State}

theorem fineBlk_settles {x : Applied} (h : applyBlk (cwSet (blkAddr r.val b.val) (c.value &&& 0xFFFFFFFF8) s) r.val b.val
      c.value s = x) :
    exec (.fineBlk r b c) s = .next (settle c.origin .word (blkAddr r.val b.val) s x) := by
  rw [← h]
  rfl

theorem blkWriteStatus_mask {r b : Nat} {v : Word} : blkWriteStatus s r b (v &&& 0xFFFFFFFF8) = blkWriteStatus s r b v := by
  unfold blkWriteStatus
  simp only [BitVec.and_assoc, BitVec.and_self]

theorem fineBlk_of_enabled (hon : (cwGet s (blkAddr r.val b.val)).getLsbD 35 = true)
    (hoff : c.value &&& 0xFFFFFFFF8 ≠ putFld (cwGet s (blkAddr r.val b.val)) 35 35 0)
    (hnew : c.value &&& 0xFFFFFFFF8 ≠ cwGet s (blkAddr r.val b.val)) :
    exec (.fineBlk r b c) s = .next (refuse c.origin 0x08 .word (blkAddr r.val b.val) s) := by
  have hst : blkWriteStatus s r.val b.val c.value = St.portEnabled :=
    if_pos (by rw [bit_eq_getLsbD, hon, bne_iff_ne.2 hoff, bne_iff_ne.2 hnew]; rfl)
  refine fineBlk_settles (x := .error St.portEnabled) ?_
  rw [applyBlk, blkWriteStatus_mask, hst]
  rfl

section Off
variable (hoff : (cwGet s (blkAddr r.val b.val)).getLsbD 35 = false)
include hoff

theorem applyBlk_of_off {plan : State} {v : Word} {st : Nat} (h : blkStatus plan r.val b.val = st) :
    applyBlk plan r.val b.val v s =
      if st = 0 then .ok (cwSet (blkAddr r.val b.val) (v &&& 0xFFFFFFFF8) s) else .error st := by
  have hst : blkWriteStatus s r.val b.val v = 0 :=
    if_neg (by rw [bit_eq_getLsbD, hoff, Bool.false_and, Bool.false_and]; decide)
  rw [applyBlk, blkWriteStatus_mask, hst, h]
  cases st <;> rfl

theorem fineBlk_refused (h0 : blkStatus (cwSet (blkAddr r.val b.val) (c.value &&& 0xFFFFFFFF8) s) r.val b.val ≠ 0) :
    exec (.fineBlk r b c) s = .next (refuse c.origin
      (blkStatus (cwSet (blkAddr r.val b.val) (c.value &&& 0xFFFFFFFF8) s) r.val b.val) .word (blkAddr r.val b.val) s) :=
  fineBlk_settles ((applyBlk_of_off hoff rfl).trans (if_neg h0))

theorem fineBlk_stores (hs : Safety.tablesOk s = true)
    (h0 : blkStatus (cwSet (blkAddr r.val b.val) (c.value &&& 0xFFFFFFFF8) s) r.val b.val = 0) :
    let a := blkAddr r.val b.val
    applies c.origin .word a s (exec (.fineBlk r b c) s) fun t =>
      cwGet t a = (c.value &&& 0xFFFFFFFF8) ∧ cwKept s t [a] ∧ t = { s with cw := t.cw } := by
  intro a
  rw [fineBlk_settles ((applyBlk_of_off hoff h0).trans (if_pos rfl))]
  exact applies_ok (cwSet_spec hs)

end Off
end Fine

/-- Settles O36: each set-up word by its status, the patterns by what refuses them, the copy, and each fine block. -/
theorem protectionAndDeckSetUp : Obligations.ProtectionAndDeckSetUp := by
  unfold Obligations.ProtectionAndDeckSetUp
  intro p w d r b c s hs n a v plan st x gen chk slot slotOk on tests k ba bv bs
  exact ⟨prtCfg_refused, prtCfg_stores hs, prtCfg_of_off hs, deckPrbs_of_mode, deckPrbs_of_slot,
    deckPrbsGen_of_held, deckPrbsGen_stores hs, deckPrbsChk_stores hs, deckCopyDone_idle, deckCopyDone_copies hs,
    fineBlk_of_enabled, fineBlk_refused, fun hoff => fineBlk_stores hoff hs⟩

end Sys2Proof.Machine
end

section
/-! PROOFS. O30: the reader of a group, placed once its present members are aligned and moved back by whole frames. -/

namespace Sys2Proof.Machine

/-! ### The members of a group that count (R251, R254) -/

/-- Contexts of the members of a group. -/
def memberIds (s : State) (d g : Nat) : List Nat := (membersOf s d g).filterMap Prod.snd

/-- Contexts of its present members. -/
def presentIds (s : State) (d g : Nat) : List Nat := (memberIds s d g).filter fun id => memberPresent s id

/-- The latest delay of its present payload members. -/
def latestDelay (s : State) (d g : Nat) : Nat :=
  ((payloadOf s d g).filter fun id => memberPresent s id).foldl (fun n id => max n (monGet s id).delay) 0

/-- Members chosen by a test of their context are the contexts of the members, filtered. -/
theorem filterMap_members {f : Nat × Option Nat → Option Nat} {q : Nat → Bool} (hnone : ∀ m, f (m, none) = none)
    (hsome : ∀ m id, f (m, some id) = if q id then some id else none) :
    (l : List (Nat × Option Nat)) → l.filterMap f = (l.filterMap Prod.snd).filter q
  | [] => rfl
  | (m, none) :: l => by
    rw [List.filterMap_cons_none (hnone m), List.filterMap_cons_none rfl, filterMap_members hnone hsome l]
  | (m, some id) :: l => by
    rw [List.filterMap_cons_some (f := Prod.snd) rfl, List.filter_cons, ← filterMap_members hnone hsome l,
      List.filterMap_cons, hsome]
    cases q id <;> rfl

theorem payloadOf_eq (s : State) (d g : Nat) : payloadOf s d g = (memberIds s d g).filter (memberPays s d g) :=
  filterMap_members (fun _ => rfl) (fun _ _ => rfl) _

theorem mem_presentIds_of_payload {s : State} {d g id : Nat} (h : id ∈ payloadOf s d g) :
    id ∈ presentIds s d g ↔ memberPresent s id = true := by
  rw [payloadOf_eq] at h
  rw [presentIds, List.mem_filter, and_iff_right (List.mem_filter.1 h).1]

/-- Skipping the absent payload members keeps the latest delay. -/
theorem foldl_delay_eq {s : State} {d g : Nat} {q : Nat → Bool}
    (hq : ∀ id ∈ payloadOf s d g, q id = memberPresent s id) :
    (payloadOf s d g).foldl (fun n id => if q id then Nat.max n (monGet s id).delay else n) 0 = latestDelay s d g := by
  rw [latestDelay, List.foldl_filter]
  refine List.foldl_ext _ _ _ fun n id hid => ?_
  rw [hq id hid]

/-! ### The reader (R252, R253) -/

section Reader
variable {d : DieId} {g : GroupId} {s : State}

/-- The reader of a group waits to be placed and may be. -/
def readerReady (s : State) (d g : Nat) : Prop :=
  (grpGet s d g).placed = false ∧ presentIds s d g ≠ [] ∧ ∀ id ∈ presentIds s d g, (monGet s id).mfi.isSome = true

theorem not_readerReady_iff {d g : Nat} : ¬ readerReady s d g ↔ (grpGet s d g).placed = true ∨ presentIds s d g = [] ∨
    ∃ id ∈ presentIds s d g, (monGet s id).mfi = none := by
  simp [readerReady, imp_iff_not_or]

/-- GROUP_READER_PLACE of an enabled group. -/
theorem groupReaderPlace_eq (hon : (grpCfg s d.val g.val).getLsbD 35 = true) :
    exec (.groupReaderPlace d g) s = .next (if !(grpGet s d.val g.val).placed && !(presentIds s d.val g.val).isEmpty &&
        (presentIds s d.val g.val).all (fun id => (monGet s id).mfi.isSome) then
      grpPut d.val g.val { grpGet s d.val g.val with
        placed := true
        readAt := (if (grpCfg s d.val g.val).getLsbD 10 then fld (grpCfg s d.val g.val) 22 11 * 125000
            else latestDelay s d.val g.val) +
          guardUs s d.val * 1000 + grpPeriod (fld (grpCfg s d.val g.val) 34 32) } s
    else s) := by
  have hlate := foldl_delay_eq (s := s) (d := d.val) (g := g.val) (q := (presentIds s d.val g.val).contains)
    fun id hid => Bool.eq_iff_iff.2 (List.contains_iff_mem.trans (mem_presentIds_of_payload hid))
  rw [exec_groupReaderPlace, execGroupReaderPlace]
  simp only [bit_eq_getLsbD, hon, Bool.true_and, ← hlate]
  rw [filterMap_members (q := memberPresent s)]
  · rfl
  · exact fun _ => rfl
  · exact fun _ _ => rfl

theorem groupReaderPlace_of_ready (hon : (grpCfg s d.val g.val).getLsbD 35 = true) (h : readerReady s d.val g.val) :
    exec (.groupReaderPlace d g) s = .next (grpPut d.val g.val { grpGet s d.val g.val with
      placed := true
      readAt := (if (grpCfg s d.val g.val).getLsbD 10 then fld (grpCfg s d.val g.val) 22 11 * 125000
          else latestDelay s d.val g.val) +
        guardUs s d.val * 1000 + grpPeriod (fld (grpCfg s d.val g.val) 34 32) } s) := by
  obtain ⟨hp, hne, hal⟩ := h
  rw [groupReaderPlace_eq hon, if_pos]
  simpa [hp, hne] using hal

theorem groupReaderPlace_idle (hon : (grpCfg s d.val g.val).getLsbD 35 = true) (h : ¬ readerReady s d.val g.val) :
    exec (.groupReaderPlace d g) s = .next s := by
  rw [groupReaderPlace_eq hon, if_neg]
  simpa [readerReady, and_assoc] using h

/-- GROUP_RETIME of an enabled group. -/
theorem groupRetime_eq (hon : (grpCfg s d.val g.val).getLsbD 35 = true) : let k := grpGet s d.val g.val
    let w := grpCfg s d.val g.val
    let n := ceilDiv (latestDelay s d.val g.val - k.readAt) (grpPeriod (fld w 34 32))
    exec (.groupRetime d g) s = .next (
      if k.placed && !w.getLsbD 10 && decide (k.readAt < latestDelay s d.val g.val) then
        proofHit d.val g.val 4 n (grpPut d.val g.val { k with readAt := k.readAt + n * grpPeriod (fld w 34 32) } s)
      else s) := by
  have hlate := foldl_delay_eq (s := s) (d := d.val) (g := g.val) (q := memberPresent s) fun _ _ => rfl
  rw [exec_groupRetime, execGroupRetime]
  simp only [bit_eq_getLsbD, hon, Bool.true_and, ← hlate, gt_iff_lt]

end Reader

/-- Settles O30: the reader by whether it may be placed, then by whether the latest payload member is too late for it. -/
theorem groupReadersArePlacedAndRetimed : Obligations.GroupReadersArePlacedAndRetimed := by
  unfold Obligations.GroupReadersArePlacedAndRetimed
  intro d g s _ k w t members present late hon
  refine ⟨fun hp hne hal hfix => ?_, fun hp hne hal hfix => ?_,
    fun h => groupReaderPlace_idle hon (not_readerReady_iff.2 h), fun hp hfix hlt => ?_, fun h => ?_⟩
  · rw [groupReaderPlace_of_ready hon ⟨hp, hne, hal⟩, if_pos hfix]
  · rw [groupReaderPlace_of_ready hon ⟨hp, hne, hal⟩, if_neg (ne_true_of_eq_false hfix)]
    rfl
  · have hlate : (grpGet s d.val g.val).readAt < latestDelay s d.val g.val := hlt
    rw [groupRetime_eq hon, if_pos (by simpa [hlate] using ⟨hp, hfix⟩)]
    rfl
  · have hnot : ¬ (k.placed = true ∧ w.getLsbD 10 = false ∧ k.readAt < late) := by
      rintro ⟨hp, hfix, hlt⟩
      obtain h | h | h := h
      · exact Bool.false_ne_true (h.symm.trans hp)
      · exact Bool.false_ne_true (hfix.symm.trans h)
      · exact Nat.not_lt.2 h hlt
    rw [groupRetime_eq hon, if_neg]
    simp only [Bool.and_eq_true, Bool.not_eq_true', decide_eq_true_eq, and_assoc]
    exact hnot

end Sys2Proof.Machine
end

section
/-! PROOFS. Rings and hitless pairs: what a key reads after a put, and the writes to HL_CFG and HL_RATE by what refuses them
and what they leave. -/

namespace Sys2Proof.Machine

section Canonical
variable {s : State} (h : Safety.tablesOk s = true)
include h

theorem tablesOk_hls : tabWf (fun _ => ({} : Hl)) s.hls = true := by
  simp only [Safety.tablesOk, Safety.unitTables, Bool.and_eq_true] at h; tauto
theorem tablesOk_substs : tabWf (fun _ => (0 : Nat)) s.substs = true := by
  simp only [Safety.tablesOk, Safety.unitTables, Bool.and_eq_true] at h; tauto
theorem tablesOk_unverified : tabWf (fun _ => (0 : Nat)) s.unverified = true := by
  simp only [Safety.tablesOk, Safety.unitTables, Bool.and_eq_true] at h; tauto
theorem tablesOk_firstRing : tabWf (fun _ => (0 : Nat)) s.firstRing = true := by
  simp only [Safety.tablesOk, Safety.unitTables, Bool.and_eq_true] at h; tauto
end Canonical

/-- A hitless pair changed alone. -/
theorem hlPut_spec {p : Nat} {h : Hl} {s : State} (hs : Safety.tablesOk s = true) : let t := hlPut p h s
    hlGet t p = h ∧ keeps hlGet s t [p] ∧ t = { s with hls := t.hls } :=
  ⟨tabGet_tabSet_same (d := fun _ => ({} : Hl)) (tablesOk_hls hs), fun _ hj => tabGet_tabSet_ne (by simpa using hj), rfl⟩

/-- A control word written and a hitless pair changed, nothing else. -/
theorem hlPut_cwSet_spec {p a : Nat} {h : Hl} {v : Word} {s : State} (hs : Safety.tablesOk s = true) :
    let t := hlPut p h (cwSet a v s)
    hlGet t p = h ∧ keeps hlGet s t [p] ∧ cwKept s t [a] ∧ t = { s with hls := t.hls, cw := t.cw } :=
  ⟨tabGet_tabSet_same (d := fun _ => ({} : Hl)) (tablesOk_hls (s := s) hs),
    fun _ hj => tabGet_tabSet_ne (by simpa using hj), cwKept_cwSet, rfl⟩

/-- A control word written and two rings allocated, nothing else. -/
theorem allocRings_cwSet_spec {x y rate pages a : Nat} {v : Word} {s : State} (hs : Safety.tablesOk s = true) :
    let t := allocRings [x, y] rate pages (cwSet a v s)
    cwGet t a = v ∧ t = { s with cw := t.cw, prfRings := t.prfRings } := ⟨cwGet_cwSet (tablesOk_cw hs), rfl⟩

theorem hlRefresh_hlPut_cw (p : Nat) (h : Hl) (s : State) : (hlRefresh p (hlPut p h s)).cw = s.cw :=
  hlRefresh_frame (π := State.cw) (fun _ _ => rfl) (fun _ _ => rfl) p (hlPut p h s) rfl

/-! ### What refuses a write (R260, R272) -/

section Status
variable {p : Nat} {v : Word} {before plan s : State}

theorem hlRefusal_rate_of_off (hoff : (hlCfg before p).getLsbD 35 = false) : hlRefusal before plan s p 97 v = 0 :=
  if_pos (by rw [bit_eq_getLsbD, hoff]; rfl)

theorem hlRefusal_rate_of_on (hon : (hlCfg s p).getLsbD 35 = true) : hlRefusal s plan s p 97 v = St.portEnabled := by
  have hold : (hlCfg s p &&& 0xFFFFA0000).getLsbD 35 = true := (getLsbD_and_of_set (by decide)).trans hon
  rw [hlRefusal, if_neg (by rw [bit_eq_getLsbD, hon]; decide), hlWriteStatus]
  simp only [bit_eq_getLsbD, hold, if_true]

theorem hlRefusal_cfg : hlRefusal before plan s p 96 v = hlWriteStatus s plan p 96 v := if_neg (by simp)

theorem hlWriteStatus_of_off (hoff : (hlCfg before p).getLsbD 35 = false) (hv : v.getLsbD 35 = false) :
    hlWriteStatus before plan p 96 v = 0 := by
  have hold : (hlCfg before p &&& 0xFFFFA0000).getLsbD 35 = false := (getLsbD_and_of_set (by decide)).trans hoff
  simp only [hlWriteStatus, bit_eq_getLsbD, hold, hv, Bool.and_false, Bool.false_eq_true, if_false]

/-- A write that leaves the set-up of an enabled pair as it is. -/
theorem hlWriteStatus_of_same (hon : (hlCfg before p).getLsbD 35 = true)
    (hv : v &&& 0xFFFFA0000 = hlCfg before p &&& 0xFFFFA0000) : hlWriteStatus before plan p 96 v = 0 := by
  have hold : (hlCfg before p &&& 0xFFFFA0000).getLsbD 35 = true := (getLsbD_and_of_set (by decide)).trans hon
  have hne : hlCfg before p &&& 0xFFFFA0000 ≠ putFld (hlCfg before p &&& 0xFFFFA0000) 35 35 0 := fun h => by
    rw [h, getLsbD_putFld_bit (by decide)] at hold
    exact absurd hold (by decide)
  simp only [hlWriteStatus, bit_eq_getLsbD, hold, hv, if_neg hne, if_true]
  rfl

end Status

/-! ### One write applied -/

section Apply
variable {p st : Nat} {v : Word} {before plan s : State}

theorem applyHl_refused {w : Nat} (h : hlRefusal before plan s p w v = st) (h0 : st ≠ 0) :
    applyHl before plan p w v s = .error st := by
  unfold applyHl
  rw [h]
  cases st with
  | zero => exact absurd rfl h0
  | succ n => rfl

theorem applyHl_rate (h : hlRefusal before plan s p 97 v = 0) :
    applyHl before plan p 97 v s = .ok (cwSet (pairAddr p 97) (v &&& 0x0FFFFFFFF) s) := by
  unfold applyHl
  rw [h]
  rfl

/-- The set-up word of a pair as a write of v leaves it. -/
def hlStored (p : Nat) (v : Word) (s : State) : State := cwSet (pairAddr p 96) (v &&& 0xFFFFA0000) s

/-- A pair as its set-up by v leaves it, with rings x and y. -/
def hlSetUp (x y : Nat) (v : Word) (h : Hl) : Hl :=
  { h with die := fld v 17 17, wRing := x, pRing := y, map := none, mapped := false, noneRun := 0, last := 0, fresh := true,
           output := false, recentre := false, diffRun := 0 }

/-- The nominal rate that a write of v sets up, in kbit/s. -/
def hlSetRate (plan : State) (p : Nat) (v : Word) : Nat := oduRate (fld v 22 20) (cwFld plan (pairAddr p 97) 31 0)

/-- The pages of each of its rings. -/
def hlSetPages (plan : State) (p : Nat) (v : Word) (s : State) : Nat :=
  ringPages (oduLines (ringRate (hlSetRate plan p v) 1) (fld v 34 23) (guardUs (hlStored p v s) (fld v 17 17))
    (hlSetRate plan p v))

section Sound
variable (h : hlRefusal before plan s p 96 v = 0)
include h

theorem applyHl_stays_off (hoff : (hlCfg s p).getLsbD 35 = false) (hv : v.getLsbD 35 = false) :
    applyHl before plan p 96 v s = .ok (hlStored p v s) := by
  unfold applyHl
  rw [h]
  simp only [bit_eq_getLsbD, hoff, hv, Bool.and_false, Bool.false_and, Bool.false_eq_true, if_false]
  rfl

theorem applyHl_setsUp {x y : Nat} {rest : List Nat} (hoff : (hlCfg s p).getLsbD 35 = false) (hv : v.getLsbD 35 = true)
    (hfree : freeRings s (fld v 17 17) 2 = x :: y :: rest) : applyHl before plan p 96 v s =
      .ok (hlRefresh p (hlPut p (hlSetUp x y v (hlGet s p)) (allocRings [x, y]
        (ringRate (hlSetRate plan p v) 1) (hlSetPages plan p v s) (hlStored p v s)))) := by
  have hstored : freeRings (cwSet (pairAddr p 96) (v &&& 0xFFFFA0000) s) (fld v 17 17) 2 = x :: y :: rest := hfree
  unfold applyHl
  rw [h]
  simp only [bit_eq_getLsbD, hoff, hv, Bool.and_false, Bool.not_false, Bool.and_true, if_true,
    Bool.false_eq_true, if_false, hstored]
  rfl

theorem applyHl_recentres (hon : (hlCfg s p).getLsbD 35 = true) (hv : v.getLsbD 35 = true) (h18 : v.getLsbD 18 = true) :
    applyHl before plan p 96 v s = .ok (hlPut p { hlGet s p with recentre := true } (hlStored p v s)) := by
  unfold applyHl
  rw [h]
  simp only [bit_eq_getLsbD, hon, hv, h18, Bool.and_true, Bool.not_true, Bool.and_false, Bool.false_eq_true,
    if_false, if_true]
  rfl

end Sound
end Apply

end Sys2Proof.Machine
end

section
/-! PROOFS. O31: PRF_CTRL, rings from their first frame to a break, line integrity, and the set-up of a hitless pair. -/

namespace Sys2Proof.Machine

/-! ### PRF_CTRL (R244) -/

section PrfCtrl
variable {d : DieId} {c : CtlWrite} {s : State}

/-- A write would change GUARD while a ring of the die is allocated. -/
theorem guardHeld_iff {d : Nat} {v : Word} :
    ((fld v 35 29 != cwFld s (prfCtrlAddr d) 35 29) && ringsAllocated s d) = true ↔
    ¬ (fld v 35 29 = cwFld s (prfCtrlAddr d) 35 29 ∨ ringsAllocated s d = false) := by
  simp

theorem guardRange_iff {g : Nat} :
    ((g != 0) && (decide (g < 4) || decide (g > 100))) = true ↔ g ≠ 0 ∧ (g < 4 ∨ 100 < g) := by
  simp

theorem prfCtrl_settles {r : Applied} (h : applyPrfCtrl d.val c.value s = r) :
    exec (.prfCtrl d c) s = .next (settle c.origin .word (prfCtrlAddr d.val) s r) := by
  rw [exec_prfCtrl, execPrfCtrl, h]

theorem prfCtrl_of_active (hg : fld c.value 35 29 ≠ cwFld s (prfCtrlAddr d.val) 35 29)
    (hr : ringsAllocated s d.val = true) :
    exec (.prfCtrl d c) s = .next (refuse c.origin 0x17 .word (prfCtrlAddr d.val) s) :=
  prfCtrl_settles (if_pos (guardHeld_iff.2 (by simp [hg, hr])))

section Free
variable (h : fld c.value 35 29 = cwFld s (prfCtrlAddr d.val) 35 29 ∨ ringsAllocated s d.val = false)
include h

theorem prfCtrl_of_range (h0 : fld c.value 35 29 ≠ 0) (hr : fld c.value 35 29 < 4 ∨ 100 < fld c.value 35 29) :
    exec (.prfCtrl d c) s = .next (refuse c.origin 0x05 .word (prfCtrlAddr d.val) s) :=
  prfCtrl_settles ((if_neg (mt guardHeld_iff.1 (not_not_intro h))).trans (if_pos (guardRange_iff.2 ⟨h0, hr⟩)))

theorem prfCtrl_stores (hs : Safety.tablesOk s = true)
    (hr : fld c.value 35 29 = 0 ∨ 4 ≤ fld c.value 35 29 ∧ fld c.value 35 29 ≤ 100) : let a := prfCtrlAddr d.val
    applies c.origin .word a s (exec (.prfCtrl d c) s) fun t =>
      cwGet t a = (c.value &&& 0xFFFFC0000) ∧ cwKept s t [a] ∧ t = { s with cw := t.cw } := by
  intro a
  rw [prfCtrl_settles ((if_neg (mt guardHeld_iff.1 (not_not_intro h))).trans (if_neg (mt guardRange_iff.1 (by omega))))]
  exact applies_ok (cwSet_spec hs)

end Free
end PrfCtrl

/-! ### Rings (R240, R261) -/

section Rings
variable {r : RingId} {s : State}

theorem ringStart_of_allocated (hp : (ringGet s r.val).pages ≠ 0) (hf : (ringGet s r.val).freed = false) :
    exec (.ringStart r) s = .next (ringPut r.val { ringGet s r.val with writable := true } s) :=
  congrArg Host.Outcome.next (if_pos (by simp [hp, hf]))

theorem ringStart_idle (h : (ringGet s r.val).pages = 0 ∨ (ringGet s r.val).freed = true) :
    exec (.ringStart r) s = .next s :=
  congrArg Host.Outcome.next (if_neg (by simpa [imp_iff_not_or] using h))

theorem ringBreak_idle (h : (ringGet s r.val).broke = false) : exec (.ringBreak r) s = .next s :=
  congrArg Host.Outcome.next (if_neg (by simp [h]))

section Broken
variable (h : (ringGet s r.val).broke = true)
include h

theorem ringBreak_of_unpaired (hp : pairOfRing s r.val = none) :
    exec (.ringBreak r) s = .next (ringPut r.val { ringGet s r.val with broke := false } s) := by
  have hput : pairOfRing (ringPut r.val { ringGet s r.val with broke := false } s) r.val = none := hp
  rw [exec_ringBreak, execRingBreak]
  simp only [h, if_true, hput]

theorem ringBreak_of_paired {x : Nat} (hp : pairOfRing s r.val = some x) :
    exec (.ringBreak r) s = .next (hlRefresh x (hlPut x { hlGet s x with map := none, mapped := false, diffRun := 0 }
      (ringPut r.val { ringGet s r.val with broke := false } s))) := by
  have hput : pairOfRing (ringPut r.val { ringGet s r.val with broke := false } s) r.val = some x := hp
  rw [exec_ringBreak, execRingBreak]
  simp only [h, if_true, hput]
  rfl

end Broken
end Rings

/-! ### Line integrity (R246) -/

section Line
variable {r : RingId} {ecc crc partner : Bool} {s : State}

/-- Lines of die e that failed a check in this tick. -/
def failedLines (s : State) (e : Nat) : Nat := tabGet 0 s.substs e + tabGet 0 s.unverified e

/-- The first ring of the tick noted for its die. -/
def firstNoted (r : Nat) (s : State) : State :=
  if failedLines s (r / 2048) = 0 then s.putFirstRing (tabSet 0 s.firstRing (r / 2048) r) else s

theorem firstNoted_spec {r : Nat} (hs : Safety.tablesOk s = true) : let t := firstNoted r s
    tabGet 0 t.firstRing (r / 2048) =
        (if failedLines s (r / 2048) = 0 then r else tabGet 0 s.firstRing (r / 2048)) ∧
      t = { s with firstRing := t.firstRing } := by
  unfold firstNoted
  split
  · exact ⟨tabGet_tabSet_same (d := fun _ => (0 : Nat)) (tablesOk_firstRing hs), rfl⟩
  · exact ⟨rfl, rfl⟩

/-- A ring belongs to a mapped pair. -/
def ringMapped (s : State) (r : Nat) : Bool := (pairOfRing s r).any fun p => (hlGet s p).mapped

theorem ringMapped_iff {r : Nat} : ringMapped s r = true ↔ ∃ x, pairOfRing s r = some x ∧ (hlGet s x).mapped = true := by
  simp [ringMapped, Option.any_eq_true]

/-- A line that failed counted for its die. -/
def lineCounted (r : Nat) (subst : Bool) (s : State) : State :=
  if subst then s.putSubsts (tabSet 0 s.substs (r / 2048) (tabGet 0 s.substs (r / 2048) + 1))
  else s.putUnverified (tabSet 0 s.unverified (r / 2048) (tabGet 0 s.unverified (r / 2048) + 1))

theorem ringLineRead_sound (he : ecc = true) (hc : crc = true) : exec (.ringLineRead r ecc crc partner) s = .next s :=
  congrArg Host.Outcome.next (if_pos (by rw [he, hc]; rfl))

theorem ringLineRead_failed (h : ecc = false ∨ crc = false) : exec (.ringLineRead r ecc crc partner) s =
    .next (lineCounted r.val (ringMapped s r.val && partner) (firstNoted r.val s)) := by
  have hbad : ¬ (ecc && crc) = true := by simpa [imp_iff_not_or] using h
  rw [exec_ringLineRead, execRingLineRead, if_neg hbad, ringMapped]
  cases pairOfRing s r.val <;> rfl

theorem lineCounted_substituted {r : Nat} (hs : tabWf (fun _ => (0 : Nat)) s.substs = true) :
    tabGet 0 (lineCounted r true s).substs (r / 2048) = tabGet 0 s.substs (r / 2048) + 1 := by
  rw [lineCounted, if_pos rfl, State.putSubsts_substs]
  exact tabGet_tabSet_same (d := fun _ => (0 : Nat)) hs

theorem lineCounted_unverified {r : Nat} (hs : tabWf (fun _ => (0 : Nat)) s.unverified = true) :
    tabGet 0 (lineCounted r false s).unverified (r / 2048) = tabGet 0 s.unverified (r / 2048) + 1 := by
  rw [lineCounted, if_neg Bool.false_ne_true, State.putUnverified_unverified]
  exact tabGet_tabSet_same (d := fun _ => (0 : Nat)) hs

theorem ringLineRead_counts (hs : Safety.tablesOk s = true) (h : ecc = false ∨ crc = false) : let e := r.val / 2048
    let paired := ∃ x, pairOfRing s r.val = some x ∧ (hlGet s x).mapped = true
    reaches (exec (.ringLineRead r ecc crc partner) s) fun t =>
      tabGet 0 t.firstRing e = (if failedLines s e = 0 then r.val else tabGet 0 s.firstRing e) ∧
      (paired → partner = true → tabGet 0 t.substs e = tabGet 0 s.substs e + 1 ∧ t.unverified = s.unverified) ∧
      (¬ paired ∨ partner = false → tabGet 0 t.unverified e = tabGet 0 s.unverified e + 1 ∧ t.substs = s.substs) ∧
      t = { s with substs := t.substs, unverified := t.unverified, firstRing := t.firstRing } := by
  intro e paired
  have hpair : ringMapped s r.val = true ↔ paired := ringMapped_iff
  obtain ⟨hfirst, honly⟩ := firstNoted_spec (r := r.val) hs
  refine ⟨_, ringLineRead_failed h, ?_⟩
  generalize firstNoted r.val s = u at hfirst honly
  obtain ⟨f, rfl⟩ : ∃ f, u = { s with firstRing := f } := ⟨_, honly⟩
  by_cases hsub : (ringMapped s r.val && partner) = true
  · obtain ⟨hmapped, hpartner⟩ := Bool.and_eq_true_iff.1 hsub
    rw [hsub]
    refine ⟨hfirst,
      fun _ _ => ⟨lineCounted_substituted (s := { s with firstRing := f }) (tablesOk_substs (s := s) hs), rfl⟩, fun hnot => ?_, rfl⟩
    exact absurd hnot (by simp [hpair.1 hmapped, hpartner])
  · rw [Bool.eq_false_of_not_eq_true hsub]
    refine ⟨hfirst, fun hp hpartner => absurd (Bool.and_eq_true_iff.2 ⟨hpair.2 hp, hpartner⟩) hsub, fun _ =>
      ⟨lineCounted_unverified (s := { s with firstRing := f }) (tablesOk_unverified (s := s) hs), rfl⟩, rfl⟩

end Line

/-! ### The set-up of a hitless pair (R260, R272) -/

section HlCfg
variable {p : PairId} {o : Origin} {v : Word} {s : State}

/-- HL_RATE written alone. -/
theorem hlCfg_rate {r : Applied}
    (h : applyHl s (cwSet (pairAddr p.val 97) (v &&& 0x0FFFFFFFF) s) p.val 97 v s = r) :
    exec (.hlCfg p [{ origin := o, rate := true, value := v }]) s =
      .next (settle o .word (pairAddr p.val 97) s r) := by
  rw [← h]
  rfl

/-- HL_CFG written alone. -/
theorem hlCfg_word {r : Applied} (h : applyHl s s p.val 96 v s = r) :
    exec (.hlCfg p [{ origin := o, rate := false, value := v }]) s =
      .next (settle o .word (pairAddr p.val 96) s r) := by
  rw [← h]
  rfl

theorem hlCfg_rate_of_on (hon : (hlCfg s p.val).getLsbD 35 = true) :
    exec (.hlCfg p [{ origin := o, rate := true, value := v }]) s =
      .next (refuse o 0x08 .word (pairAddr p.val 97) s) :=
  hlCfg_rate (applyHl_refused (hlRefusal_rate_of_on hon) (by decide))

theorem hlCfg_refused (h0 : hlWriteStatus s s p.val 96 v ≠ 0) :
    exec (.hlCfg p [{ origin := o, rate := false, value := v }]) s =
      .next (refuse o (hlWriteStatus s s p.val 96 v) .word (pairAddr p.val 96) s) :=
  hlCfg_word (applyHl_refused hlRefusal_cfg h0)

section Off
variable (hs : Safety.tablesOk s = true) (hoff : (hlCfg s p.val).getLsbD 35 = false)
include hs hoff

theorem hlCfg_rate_of_off : let a := pairAddr p.val 97
    applies o .word a s (exec (.hlCfg p [{ origin := o, rate := true, value := v }]) s) fun t =>
      cwGet t a = (v &&& 0x0FFFFFFFF) ∧ cwKept s t [a] ∧ t = { s with cw := t.cw } := by
  intro a
  rw [hlCfg_rate (applyHl_rate (hlRefusal_rate_of_off hoff))]
  exact applies_ok (cwSet_spec hs)

theorem hlCfg_stays_off (hv : v.getLsbD 35 = false) : let a := pairAddr p.val 96
    applies o .word a s (exec (.hlCfg p [{ origin := o, rate := false, value := v }]) s) fun t =>
      cwGet t a = (v &&& 0xFFFFA0000) ∧ cwKept s t [a] ∧ t = { s with cw := t.cw } := by
  intro a
  rw [hlCfg_word (applyHl_stays_off (hlRefusal_cfg.trans (hlWriteStatus_of_off hoff hv)) hoff hv)]
  exact applies_ok (cwSet_spec hs)

theorem hlCfg_setsUp {x y : Nat} {rest : List Nat} (hv : v.getLsbD 35 = true) (h0 : hlWriteStatus s s p.val 96 v = 0)
    (hfree : freeRings s (fld v 17 17) 2 = x :: y :: rest) : let a := pairAddr p.val 96
    ∃ u, u.wRing = x ∧ u.pRing = y ∧ u.die = fld v 17 17 ∧ u.map = none ∧ u.mapped = false ∧
      applies o .word a s (exec (.hlCfg p [{ origin := o, rate := false, value := v }]) s) fun t =>
        cwGet t a = (v &&& 0xFFFFA0000) ∧ ∃ z, t = hlRefresh p.val (hlPut p.val u z) ∧
          z = { s with cw := z.cw, prfRings := z.prfRings } := by
  intro a
  refine ⟨hlSetUp x y v (hlGet s p.val), rfl, rfl, rfl, rfl, rfl, ?_⟩
  rw [hlCfg_word (applyHl_setsUp (hlRefusal_cfg.trans h0) hoff hv hfree)]
  obtain ⟨hget, honly⟩ := allocRings_cwSet_spec (x := x) (y := y) (a := a) (v := v &&& 0xFFFFA0000)
    (rate := ringRate (hlSetRate s p.val v) 1) (pages := hlSetPages s p.val v s) hs
  refine applies_ok ⟨(cwGet_congr (hlRefresh_hlPut_cw _ _ _) a).trans hget, _, rfl, honly⟩

end Off

theorem hlCntClr_clears (hs : Safety.tablesOk s = true) : reaches (exec (.hlCntClr p) s) fun t =>
    hlGet t p.val = { hlGet s p.val with hitlessSw := 0, bounded := 0, blind := 0, recent := 0, aligns := 0 } ∧
      keeps hlGet s t [p.val] ∧ t = { s with hls := t.hls } :=
  ⟨_, rfl, hlPut_spec hs⟩

end HlCfg

/-- Settles O31: PRF_CTRL by what refuses it, each ring by its state, a line by its checks, then the words of a pair. -/
theorem proofSetUpAndRings : Obligations.ProofSetUpAndRings := by
  unfold Obligations.ProofSetUpAndRings
  intro d r p c o v ecc crc partner s hs a k guard e subs unv paired h w96 w97 read
  exact ⟨prfCtrl_of_active, prfCtrl_of_range, fun hfree => prfCtrl_stores hfree hs, ringStart_of_allocated, ringStart_idle,
    ringLineRead_sound, ringLineRead_counts hs, ringBreak_idle, ringBreak_of_unpaired,
    fun _ hb => ringBreak_of_paired hb, hlCfg_rate_of_on,
    fun hoff => ⟨hlCfg_rate_of_off hs hoff, hlCfg_stays_off hs hoff, fun _ => hlCfg_refused,
      fun _ _ _ => hlCfg_setsUp hs hoff⟩,
    hlCntClr_clears hs⟩

end Sys2Proof.Machine
end

section
/-! PROOFS. O32: a hitless pair from its search to its alignment, its misalignment, its slacks and its reader. -/

namespace Sys2Proof.Machine

section Pair
variable {p : PairId} {s : State}

/-! ### The search (R262, R263) -/

/-- A pair searches: enabled, both rings continuous for eight frames, and no offset found. -/
def hlSearches (s : State) (n : Nat) : Prop :=
  (hlCfg s n).getLsbD 35 = true ∧ 8 ≤ (ringGet s (hlGet s n).wRing).cont ∧ 8 ≤ (ringGet s (hlGet s n).pRing).cont ∧
    (hlGet s n).map = none

theorem not_hlSearches_iff {n : Nat} : (!bit (hlCfg s n) 35 || decide ((ringGet s (hlGet s n).wRing).cont < 8) ||
    decide ((ringGet s (hlGet s n).pRing).cont < 8) || (hlGet s n).map.isSome) = true ↔ ¬ hlSearches s n := by
  simp only [hlSearches, bit_eq_getLsbD, Bool.or_eq_true, Bool.not_eq_true', decide_eq_true_eq, not_and_or, not_le,
    Bool.not_eq_true, or_assoc, ← Option.isSome_iff_ne_none]

/-- A pair as an attempt that returned a leaves it. -/
def hlNoted (s : State) (n : Nat) (a : Attempt) : Hl :=
  let h := hlGet s n
  match a with
  | .none => { h with noneRun := h.noneRun + 1, last := if h.last = 5 ∧ 64 ≤ h.noneRun then 5 else 1 }
  | .ambig => { h with noneRun := 0, last := 4 }
  | .range => { h with noneRun := 0, last := 5 }
  | .offset d => { h with
      noneRun := 0, last := 1, map := some (((ringGet s h.pRing).count : Int) - (ringGet s h.wRing).count + d),
      foundW := (ringGet s h.wRing).count, foundP := (ringGet s h.pRing).count, offset := d.natAbs,
      pLater := decide (d > 0) }

theorem hlAlignAttempt_idle (h : ¬ hlSearches s p.val) : exec (.hlAlignAttempt p) s = .next s :=
  congrArg Host.Outcome.next (if_pos (not_hlSearches_iff.2 h))

theorem hlAlignAttempt_notes {a : Attempt} (h : hlSearches s p.val) (ha : attempt s p.val = a) :
    exec (.hlAlignAttempt p) s = .next (hlRefresh p.val (hlPut p.val (hlNoted s p.val a) s)) := by
  rw [exec_hlAlignAttempt, execHlAlignAttempt, if_neg fun hn => not_hlSearches_iff.1 hn h, ha]
  cases a with
  | none => simp only [hlNoted, Bool.and_eq_true, decide_eq_true_eq, ge_iff_le]
  | ambig => rfl
  | range => rfl
  | offset d => rfl

/-- A fingerprint met twice in a window is an ambiguity. -/
theorem attempt_of_repeat {n : Nat} (h : attempt s n = .ambig ∨
    fpRepeat ((ringGet s (hlGet s n).wRing).frames.take 8) = true ∨
    fpRepeat ((ringGet s (hlGet s n).pRing).frames.take 8) = true) : attempt s n = .ambig := by
  obtain h | h := h
  · exact h
  · rw [← Bool.or_eq_true] at h
    rw [attempt, if_pos h]

theorem hlSearchRange_reports (h : 64 ≤ (hlGet s p.val).noneRun) : exec (.hlSearchRange p) s =
    .next (hlRefresh p.val (hlPut p.val { hlGet s p.val with last := 5 } s)) := congrArg Host.Outcome.next (if_pos h)

theorem hlSearchRange_idle (h : (hlGet s p.val).noneRun < 64) : exec (.hlSearchRange p) s = .next s :=
  congrArg Host.Outcome.next (if_neg (Nat.not_le.2 h))

/-! ### Confirmation and misalignment (R263, R264, R266) -/

theorem hlAlignConfirm_idle (h : (hlGet s p.val).mapped = true ∨ confirmVerdict s p.val = none) :
    exec (.hlAlignConfirm p) s = .next s := by
  rw [exec_hlAlignConfirm, execHlAlignConfirm]
  obtain h | h := h
  · rw [if_pos h]
  · rw [h, ite_self]

section Unmapped
variable (h : (hlGet s p.val).mapped = false)
include h

theorem hlAlignConfirm_drops (hv : confirmVerdict s p.val = some false) : exec (.hlAlignConfirm p) s =
    .next (hlRefresh p.val (hlPut p.val { hlGet s p.val with map := none } s)) := by
  rw [exec_hlAlignConfirm, execHlAlignConfirm, if_neg (ne_true_of_eq_false h), hv]

section Confirmed
variable (hv : confirmVerdict s p.val = some true)
include hv

/-- A confirmed pair is mapped, and a reader that is due is placed. -/
theorem hlAlignConfirm_maps : let x := hlGet s p.val
    let auto := (hlCfg s p.val).getLsbD 19
    let t := hlPut p.val { x with mapped := true, diffRun := 0, fresh := false } s
    exec (.hlAlignConfirm p) s = .next (hlRefresh p.val
      (if x.fresh && (!x.output || auto) then placeReader p.val (auto && x.output) t else t)) := by
  rw [exec_hlAlignConfirm, execHlAlignConfirm, if_neg (ne_true_of_eq_false h), hv]
  simp only [bit_eq_getLsbD]

theorem hlAlignConfirm_of_settled (hf : (hlGet s p.val).fresh = false) : exec (.hlAlignConfirm p) s =
    .next (hlRefresh p.val (hlPut p.val { hlGet s p.val with mapped := true, diffRun := 0, fresh := false } s)) := by
  rw [hlAlignConfirm_maps h hv, hf]
  rfl

theorem hlAlignConfirm_places (hf : (hlGet s p.val).fresh = true)
    (hdue : (hlGet s p.val).output = false ∨ (hlCfg s p.val).getLsbD 19 = true) : exec (.hlAlignConfirm p) s =
    .next (hlRefresh p.val (placeReader p.val ((hlCfg s p.val).getLsbD 19 && (hlGet s p.val).output)
      (hlPut p.val { hlGet s p.val with mapped := true, diffRun := 0, fresh := false } s))) := by
  rw [hlAlignConfirm_maps h hv, if_pos (by rw [hf, Bool.true_and, Bool.or_eq_true, Bool.not_eq_true']; exact hdue)]

end Confirmed
end Unmapped

theorem hlMisalign_of_eight (hm : (hlGet s p.val).mapped = true) (h8 : 8 ≤ (hlGet s p.val).diffRun) :
    exec (.hlMisalign p) s = .next (hlRefresh p.val (hlPut p.val
      { hlGet s p.val with map := none, mapped := false, diffRun := 0, last := 1, noneRun := 0 } s)) :=
  congrArg Host.Outcome.next (if_pos (by rw [hm, Bool.true_and]; exact decide_eq_true h8))

theorem hlMisalign_idle (h : (hlGet s p.val).mapped = false ∨ (hlGet s p.val).diffRun < 8) :
    exec (.hlMisalign p) s = .next s :=
  congrArg Host.Outcome.next (if_neg (by simpa [imp_iff_not_or] using h))

/-! ### Slacks and the reader (R265, R266, R267) -/

theorem hlSlackEval_of_on {lw ew lp ep : Int} (h : (hlCfg s p.val).getLsbD 35 = true) :
    exec (.hlSlackEval p lw ew lp ep) s = .next (hlRefresh p.val (hlPut p.val
      { hlGet s p.val with lateW := lw, earlyW := ew, lateP := lp, earlyP := ep, output := true } s)) :=
  congrArg Host.Outcome.next (if_pos (by rwa [bit_eq_getLsbD]))

theorem hlSlackEval_idle {lw ew lp ep : Int} (h : ¬ (hlCfg s p.val).getLsbD 35 = true) :
    exec (.hlSlackEval p lw ew lp ep) s = .next s :=
  congrArg Host.Outcome.next (if_neg (by rwa [bit_eq_getLsbD]))

theorem hlRecentre_places (hr : (hlGet s p.val).recentre = true) (hm : bothMapped s p.val = true) :
    exec (.hlRecentre p .place) s = .next (placeReader p.val true s) :=
  congrArg Host.Outcome.next (if_pos (by rw [hr, hm]; rfl))

theorem hlRecentre_idle (h : (hlGet s p.val).recentre = false ∨ bothMapped s p.val = false) :
    exec (.hlRecentre p .place) s = .next s :=
  congrArg Host.Outcome.next (if_neg (by simpa [imp_iff_not_or] using h))

/-- RECENTRE is no stored bit: a write of it alone asks for the placing and leaves the set-up. -/
theorem hlRecentre_asks {o : Origin} (hs : Safety.tablesOk s = true) (hon : (hlCfg s p.val).getLsbD 35 = true) :
    let a := pairAddr p.val 96
    applies o .word a s (exec (.hlRecentre p (.write o)) s) fun t =>
      hlGet t p.val = { hlGet s p.val with recentre := true } ∧ keeps hlGet s t [p.val] ∧ cwKept s t [a] ∧
        t = { s with hls := t.hls, cw := t.cw } := by
  intro a
  have hsame : putFld (hlCfg s p.val) 18 18 1 &&& 0xFFFFA0000 = hlCfg s p.val &&& 0xFFFFA0000 := by
    refine BitVec.eq_of_getLsbD_eq fun i hi => ?_
    rw [BitVec.getLsbD_and, BitVec.getLsbD_and]
    by_cases h18 : i = 18
    · have hmask : (0xFFFFA0000 : Word).getLsbD 18 = false := rfl
      rw [h18, hmask, Bool.and_false, Bool.and_false]
    · rw [getLsbD_putFld_of_disjoint (by decide) (by decide) (by omega)]
  have h35 : (putFld (hlCfg s p.val) 18 18 1).getLsbD 35 = true :=
    (getLsbD_putFld_of_disjoint (by decide) (by decide) (by decide)).trans hon
  have h18 : (putFld (hlCfg s p.val) 18 18 1).getLsbD 18 = true := getLsbD_putFld_bit (by decide)
  rw [exec_hlRecentre, execHlRecentre]
  dsimp only
  rw [applyHl_recentres (hlRefusal_cfg.trans (hlWriteStatus_of_same hon hsame)) hon h35 h18]
  exact applies_ok (hlPut_cwSet_spec hs)

end Pair

/-- Settles O32: an attempt by what it returns, a confirmation by its verdict, then the reader by what is asked of it. -/
theorem hitlessPairsAlign : Obligations.HitlessPairsAlign := by
  unfold Obligations.HitlessPairsAlign
  intro p o lw ew lp ep s hs n h w q live up ready
  exact ⟨hlAlignAttempt_idle, fun hr ha => hlAlignAttempt_notes hr (attempt_of_repeat ha), hlAlignAttempt_notes,
    hlAlignAttempt_notes, fun _ => hlAlignAttempt_notes, hlSearchRange_reports, hlSearchRange_idle, hlAlignConfirm_idle,
    hlAlignConfirm_drops, hlAlignConfirm_of_settled, hlAlignConfirm_places, hlMisalign_of_eight, hlMisalign_idle,
    hlSlackEval_of_on, hlSlackEval_idle, hlRecentre_places, hlRecentre_idle, hlRecentre_asks hs⟩

end Sys2Proof.Machine
end

section
/-! PROOFS. Protection pairs: what a key reads after a put, and what a change of the governing request leaves. -/

namespace Sys2Proof.Machine

section Canonical
variable {s : State} (h : Safety.tablesOk s = true)
include h

theorem tablesOk_pairs : tabWf (fun _ => ({} : Pair)) s.pairs = true := by
  simp only [Safety.tablesOk, Safety.unitTables, Bool.and_eq_true] at h; tauto
theorem tablesOk_sels : tabWf (fun _ => false) s.sels = true := by
  simp only [Safety.tablesOk, Safety.coreTables, Bool.and_eq_true] at h; tauto
end Canonical

section Put
variable {p : Nat} {k : Pair} {s : State}

theorem prtGet_prtPut (h : tabWf (fun _ => ({} : Pair)) s.pairs = true) : prtGet (prtPut p k s) p = k :=
  tabGet_tabSet_same (d := fun _ => ({} : Pair)) h

theorem keeps_prtPut : keeps prtGet s (prtPut p k s) [p] := fun _ hj => tabGet_tabSet_ne (by simpa using hj)

theorem prtPut_ok (h : tabWf (fun _ => ({} : Pair)) s.pairs = true) :
    tabWf (fun _ => ({} : Pair)) (prtPut p k s).pairs = true := tabSet_ok' h

/-- A pair changed alone. -/
theorem prtPut_spec (hs : Safety.tablesOk s = true) : let t := prtPut p k s
    prtGet t p = k ∧ keeps prtGet s t [p] ∧ t = { s with pairs := t.pairs } :=
  ⟨prtGet_prtPut (tablesOk_pairs hs), keeps_prtPut, rfl⟩

end Put

/-- A pair given a governing request: leaving WTR ends its timer (R290, R291). -/
def governed (rank : Nat) (sig far : Bool) (k : Pair) : Pair :=
  { (if rank = 4 then k else { k with wtr := false, wtrUs := 0, wtrExp := false }) with gov := rank, govSig := sig, govFar := far }

theorem setGov_eq (p rank : Nat) (sig far : Bool) (s : State) :
    setGov p rank sig far s = prtPut p (governed rank sig far (prtGet s p)) s := rfl

end Sys2Proof.Machine
end

section
/-! PROOFS. O34: the nine requests on a pair, each by who may ask and by what governs. -/

namespace Sys2Proof.Machine

/-! ### Which pairs take requests (R284, R285) -/

/-- A pair takes requests: enabled, driven by no other, and no check of it failed. -/
def takesRequests (s : State) (p : Nat) : Prop :=
  prtOn s p = true ∧ isDriven s p = false ∧ (prtGet s p).causes = 0

/-- The rank of a command: LO, FS, MS or EXER. -/
def isCommand (gov : Nat) : Prop := gov = 10 ∨ gov = 8 ∨ gov = 5 ∨ gov = 3

theorem isCommand_iff {gov : Nat} :
    (decide (gov = 10) || decide (gov = 8) || decide (gov = 5) || decide (gov = 3)) = true ↔ isCommand gov := by
  simp only [isCommand, Bool.or_eq_true, decide_eq_true_eq, or_assoc]

theorem not_takesRequests_iff {s : State} {p : Nat} :
    (!prtOn s p || isDriven s p || decide ((prtGet s p).causes ≠ 0)) = true ↔ ¬ takesRequests s p := by
  simp only [takesRequests, Bool.or_eq_true, Bool.not_eq_true', decide_eq_true_eq, not_and_or, Bool.not_eq_true,
    Bool.not_eq_false, or_assoc]

/-! ### What governs a pair refuses a request (Table 8-8) -/

section Rejects
variable {gov arch : Nat}

theorem protRejects_fs : protRejects 2 gov arch = true ↔ gov = 10 ∨ gov = 9 := by simp [protRejects]

theorem protRejects_ms {op : Nat} (h : op = 3 ∨ op = 4) : protRejects op gov arch = true ↔ 5 < gov := by
  obtain rfl | rfl := h <;> exact decide_eq_true_iff

theorem protRejects_exer : protRejects 5 gov arch = true ↔ 3 < gov ∨ arch = 0 := by simp [protRejects]

theorem protRejects_command {op : Nat} (h : op = 8 ∨ op = 9 ∨ op = 10) :
    protRejects op gov arch = true ↔ isCommand gov := by
  obtain rfl | rfl | rfl := h <;> exact isCommand_iff

end Rejects

/-! ### A request lands -/

section Land
variable {o : Origin} {p op : Nat} {s : State}

/-- A request as what it leaves and its status: 0, or what refuses it. -/
theorem protLand_of {t : State} {st : Nat} (h : protApply op p s = (t, st)) :
    protLand o op p s = if st = 0 then t else refuse o st .pair p t := by
  unfold protLand
  rw [h]
  cases st with
  | zero => rfl
  | succ n => rfl

theorem protLand_excluded (h : ¬ takesRequests s p) : protLand o op p s = refuse o 0x49 .pair p s :=
  protLand_of (if_pos (not_takesRequests_iff.2 h))

section Takes
variable (h : takesRequests s p)
include h

theorem protApply_of_takes : protApply op p s =
    if prtFollows s p = true then (s, 0)
    else if protRejects op (prtGet s p).gov (archOf s p) = true then
      (prtPut p { prtGet s p with rejects := min ((prtGet s p).rejects + 1) 0x3FFFF } s, St.protReject)
    else if (decide (op = 8) && !(prtGet s p).wtr && decide (freeTimers s (prtCluster s p) = 0)) = true then
      (countNoTimer p s, St.timerBusy)
    else (signal p (protEffect op p s), 0) :=
  if_neg fun hn => not_takesRequests_iff.1 hn h

theorem protLand_follower (hf : prtFollows s p = true) : protLand o op p s = s :=
  protLand_of ((protApply_of_takes h).trans (if_pos hf))

section Own
variable (hf : prtFollows s p = false)
include hf

theorem protLand_rejected (hr : protRejects op (prtGet s p).gov (archOf s p) = true) : protLand o op p s =
    refuse o 0x4A .pair p (prtPut p { prtGet s p with rejects := min ((prtGet s p).rejects + 1) 0x3FFFF } s) := by
  have happly := protApply_of_takes (op := op) h
  rw [if_neg (ne_true_of_eq_false hf), if_pos hr] at happly
  exact protLand_of happly

section Stands
variable (hr : ¬ protRejects op (prtGet s p).gov (archOf s p) = true)
include hr

theorem protLand_without_timer (h8 : op = 8) (hw : (prtGet s p).wtr = false)
    (hfree : freeTimers s (prtCluster s p) = 0) : protLand o op p s = refuse o 0x07 .pair p (countNoTimer p s) := by
  have happly := protApply_of_takes (op := op) h
  rw [if_neg (ne_true_of_eq_false hf), if_neg hr, if_pos (by simp [h8, hw, hfree])] at happly
  exact protLand_of happly

theorem protLand_applies (ht : op ≠ 8 ∨ (prtGet s p).wtr = true ∨ freeTimers s (prtCluster s p) ≠ 0) :
    protLand o op p s = signal p (protEffect op p s) := by
  have happly := protApply_of_takes (op := op) h
  rw [if_neg (ne_true_of_eq_false hf), if_neg hr,
    if_neg (by simpa [imp_iff_not_or, or_assoc] using ht)] at happly
  exact protLand_of happly

end Stands
end Own
end Takes

/-! ### What a request does to GOV -/

theorem protEffect_clear_of_command (h : isCommand (prtGet s p).gov) : protEffect 0 p s = setGov p 0 false false s :=
  if_pos (isCommand_iff.2 h)

theorem protEffect_clear_idle (h : ¬ isCommand (prtGet s p).gov) : protEffect 0 p s = s := if_neg (mt isCommand_iff.1 h)

/-- WTR governs, with its timer set to the minutes of the pair. -/
theorem protEffect_wtr_spec : let t := protEffect 8 p s
    keeps prtGet s t [p] ∧ t = { s with pairs := t.pairs } ∧ (Safety.tablesOk s = true → (prtGet t p).gov = 4 ∧
      (prtGet t p).govSig = true ∧ (prtGet t p).wtr = true ∧ (prtGet t p).wtrUs = wtrMinutes s p * 60000000 + 123) := by
  refine ⟨fun j hj => (keeps_prtPut j hj).trans (keeps_prtPut j hj), rfl, fun hs => ?_⟩
  have hpairs := tablesOk_pairs hs
  have hgov := prtGet_prtPut (p := p) (k := governed 4 true false (prtGet s p)) hpairs
  rw [protEffect, setGov_eq, prtGet_prtPut (prtPut_ok hpairs), hgov]
  exact ⟨rfl, rfl, rfl, rfl⟩

end Land

/-! ### The nine requests -/

section Requests
variable {o : Origin} {p : PairId} {s : State}

/-- What every operation does, each of the nine requests does. -/
theorem protReqs_all {t : State} (h : ∀ op, protLand o op p.val s = t) :
    ∀ x ∈ [exec (.protReqClear (.land o p)) s, exec (.protReqLo (.land o p)) s, exec (.protReqFs (.land o p)) s,
      exec (.protReqMsP (.land o p)) s, exec (.protReqMsW (.land o p)) s, exec (.protReqExer (.land o p)) s,
      exec (.protReqWtr (.land o p)) s, exec (.protReqDnr (.land o p)) s, exec (.protReqNr (.land o p)) s], x = .next t := by
  intro x hx
  have hx : x ∈ [0, 1, 2, 3, 4, 5, 8, 9, 10].map fun op => (Host.Outcome.next (protLand o op p.val s) : Result) := hx
  obtain ⟨op, -, rfl⟩ := List.mem_map.1 hx
  exact congrArg Host.Outcome.next (h op)

end Requests

/-- Settles O34: a pair that takes no request, a follower, then each operation by what governs the pair. -/
theorem protectionRequestsLand : Obligations.ProtectionRequestsLand := by
  unfold Obligations.ProtectionRequestsLand
  intro o p s n k takes own command governs rejected clear lo fs msP msW exer wtr dnr nr
  refine ⟨fun h => protReqs_all fun _ => protLand_excluded h, fun h hf => protReqs_all fun _ => protLand_follower h hf, ?_⟩
  rintro ⟨h, hf⟩
  have rejects {op : Nat} (hr : protRejects op k.gov (archOf s n) = true) :=
    congrArg (Host.Outcome.next : State → Result) (protLand_rejected (o := o) h hf hr)
  have applied {op : Nat} (hr : ¬ protRejects op k.gov (archOf s n) = true) (h8 : op ≠ 8) :=
    congrArg (Host.Outcome.next : State → Result) (protLand_applies (o := o) h hf hr (.inl h8))
  have clears := applied (op := 0) Bool.false_ne_true (by decide)
  refine ⟨fun hc => ?_, fun hc => ?_, applied (op := 1) Bool.false_ne_true (by decide), fun hg => rejects (protRejects_fs.2 hg),
    fun h10 h9 => applied (fun hr => (protRejects_fs.1 hr).elim h10 h9) (by decide),
    fun hg => ⟨rejects ((protRejects_ms (.inl rfl)).2 hg), rejects ((protRejects_ms (.inr rfl)).2 hg)⟩,
    fun hg => ⟨applied (mt (protRejects_ms (.inl rfl)).1 (Nat.not_lt.2 hg)) (by decide),
      applied (mt (protRejects_ms (.inr rfl)).1 (Nat.not_lt.2 hg)) (by decide)⟩,
    fun hg => rejects (protRejects_exer.2 hg),
    fun hg ha => applied (fun hr => (protRejects_exer.1 hr).elim (Nat.not_lt.2 hg) ha) (by decide),
    fun hc => ⟨rejects ((protRejects_command (.inl rfl)).2 hc), rejects ((protRejects_command (.inr (.inl rfl))).2 hc),
      rejects ((protRejects_command (.inr (.inr rfl))).2 hc)⟩,
    fun hc => ⟨applied (mt (protRejects_command (.inr (.inl rfl))).1 hc) (by decide),
      applied (mt (protRejects_command (.inr (.inr rfl))).1 hc) (by decide)⟩,
    fun hc hw hfree => congrArg Host.Outcome.next
      (protLand_without_timer h hf (mt (protRejects_command (.inl rfl)).1 hc) rfl hw hfree),
    fun hc ht => ⟨_, congrArg Host.Outcome.next
      (protLand_applies h hf (mt (protRejects_command (.inl rfl)).1 hc) (.inr ht)), protEffect_wtr_spec⟩⟩
  · rwa [protEffect_clear_of_command hc] at clears
  · rwa [protEffect_clear_idle hc] at clears

end Sys2Proof.Machine
end

section
/-! PROOFS. Slots, carriers and decks read no running state of a pair: ARCH stays as the request that governs changes. -/

namespace Sys2Proof.Machine

section Pairs
variable {s : State} {v : Tab Pair}

theorem cwGet_putPairs : cwGet (s.putPairs v) = cwGet s := rfl
theorem mapCfg_putPairs : mapCfg (s.putPairs v) = mapCfg s := rfl
theorem deckEntry_putPairs : deckEntry (s.putPairs v) = deckEntry s := rfl
theorem deckEntries_putPairs : deckEntries (s.putPairs v) = deckEntries s := rfl
theorem livePorts_putPairs : livePorts (s.putPairs v) = livePorts s := rfl
theorem liveBlks_putPairs : liveBlks (s.putPairs v) = liveBlks s := rfl
theorem portGrains_putPairs : portGrains (s.putPairs v) = portGrains s := rfl

theorem ethSpeed_putPairs : ethSpeed (s.putPairs v) = ethSpeed s := by
  have hcfg : frmCfg (s.putPairs v) = frmCfg s := rfl
  have hlanes : frmLanes (s.putPairs v) = frmLanes s := rfl
  have hrate : commonRate (s.putPairs v) = commonRate s := rfl
  unfold ethSpeed
  rw [hcfg, hlanes, hrate]

theorem portK_putPairs : portK (s.putPairs v) = portK s := by
  have hunit : mapRefUnit (s.putPairs v) = mapRefUnit s := rfl
  have hnum : mapRefNum (s.putPairs v) = mapRefNum s := rfl
  have hserver : serverTs (s.putPairs v) = serverTs s := rfl
  have hrate : sizingRate (s.putPairs v) = sizingRate s := rfl
  have hslots : flexeSlots (s.putPairs v) = flexeSlots s := rfl
  have hgrains : groupGrains (s.putPairs v) = groupGrains s := rfl
  unfold portK
  rw [cwGet_putPairs, mapCfg_putPairs, hunit, hnum, hserver, hrate, hslots, hgrains, ethSpeed_putPairs]

theorem portHold_putPairs : portHold (s.putPairs v) = portHold s := by
  unfold portHold
  rw [cwGet_putPairs, mapCfg_putPairs, portK_putPairs]

theorem readsOldPage_putPairs : readsOldPage (s.putPairs v) = readsOldPage s := by
  have hdeck : dieDeck (s.putPairs v) = dieDeck s := rfl
  unfold readsOldPage carrierOf
  rw [hdeck, livePorts_putPairs, liveBlks_putPairs, portHold_putPairs, portGrains_putPairs]

theorem archOf_putPairs : archOf (s.putPairs v) = archOf s := by
  unfold archOf selInUse homeDie pairValidIn outputEntry outputSelector
  rw [deckEntry_putPairs, deckEntries_putPairs, readsOldPage_putPairs]

end Pairs

theorem archOf_setGov {p rank n : Nat} {sig far : Bool} {s : State} : archOf (setGov p rank sig far s) n = archOf s n := by
  rw [setGov_eq, prtPut, archOf_putPairs]

end Sys2Proof.Machine
end

section
/-! PROOFS. O35: the timers of a pair, its hold after a takeover, and its decision at a frame boundary. -/

namespace Sys2Proof.Machine

/-! ### Hold-off (R282, R290) -/

section Holdoff
variable {p : PairId} {protect : Bool} {s : State}

/-- The onset of TSF or TSD on a path of a running pair, for which no hold-off has run. -/
def holdoffDue (s : State) (p : Nat) (protect : Bool) : Prop :=
  pairRuns s p = true ∧ prtHoldoff s p ≠ 0 ∧ pathBad s p protect = true ∧ hoRunning (prtGet s p) protect = false ∧
    hoDone (prtGet s p) protect = false

theorem holdoffDue_iff {p : Nat} : (pairRuns s p && decide (prtHoldoff s p ≠ 0) && pathBad s p protect &&
    !hoRunning (prtGet s p) protect && !hoDone (prtGet s p) protect) = true ↔ holdoffDue s p protect := by
  simp only [holdoffDue, Bool.and_eq_true, Bool.not_eq_true', decide_eq_true_eq, and_assoc]

theorem holdoffStart_of_due (h : holdoffDue s p.val protect) :
    exec (.holdoffStart p protect) s = .next (startHoldoff p.val protect s) :=
  congrArg Host.Outcome.next (if_pos (holdoffDue_iff.2 h))

theorem holdoffStart_idle (h : ¬ holdoffDue s p.val protect) : exec (.holdoffStart p protect) s = .next s :=
  congrArg Host.Outcome.next (if_neg (mt holdoffDue_iff.1 h))

theorem startHoldoff_of_free {p : Nat} (h : 0 < freeTimers s (prtCluster s p)) :
    startHoldoff p protect s = prtPut p (hoPut protect true false (prtGet s p)) s := if_pos h

theorem startHoldoff_without_timer {p : Nat} (h : freeTimers s (prtCluster s p) = 0) : startHoldoff p protect s =
    protEvt p 6 (countNoTimer p (prtPut p (hoPut protect false true (prtGet s p)) s)) := if_neg (Nat.not_lt.2 h.le)

theorem holdoffExpire_of_running (h : hoRunning (prtGet s p.val) protect = true) : exec (.holdoffExpire p protect) s =
    .next (prtPut p.val (hoPut protect false (pathBad s p.val protect) (prtGet s p.val)) s) :=
  congrArg Host.Outcome.next (if_pos h)

theorem holdoffExpire_idle (h : hoRunning (prtGet s p.val) protect = false) : exec (.holdoffExpire p protect) s = .next s :=
  congrArg Host.Outcome.next (if_neg (ne_true_of_eq_false h))

end Holdoff

/-! ### WTR, the hitless wait and FOP_NR (R288, R291, R292) -/

section Timers
variable {p : PairId} {s : State}

theorem wtrExpire_of_over (hw : (prtGet s p.val).wtr = true) (hg : (prtGet s p.val).gov = 4)
    (hus : (prtGet s p.val).wtrUs ≤ 125) (he : (prtGet s p.val).wtrExp = false) :
    exec (.wtrExpire p) s = .next (prtPut p.val { prtGet s p.val with wtrExp := true, wtrUs := 0 } s) :=
  congrArg Host.Outcome.next (if_pos (by simp [hw, hg, hus, he]))

theorem wtrExpire_idle (h : (prtGet s p.val).wtr = false ∨ (prtGet s p.val).gov ≠ 4 ∨ 125 < (prtGet s p.val).wtrUs ∨
    (prtGet s p.val).wtrExp = true) : exec (.wtrExpire p) s = .next s :=
  congrArg Host.Outcome.next (if_neg (by simpa [imp_iff_not_or, or_assoc] using h))

theorem hlWaitExpire_lands (hw : (prtGet s p.val).waits = true) (hr : pairRuns s p.val = true)
    (hc : (prtGet s p.val).causes = 0) : exec (.hlWaitExpire p) s = .next (setSel p.val (prtGet s p.val).govSig s) :=
  congrArg Host.Outcome.next (if_pos (by simp [hw, hr, hc]))

theorem hlWaitExpire_idle (h : (prtGet s p.val).waits = false ∨ pairRuns s p.val = false ∨ (prtGet s p.val).causes ≠ 0) :
    exec (.hlWaitExpire p) s = .next s :=
  congrArg Host.Outcome.next (if_neg (by simpa [imp_iff_not_or, or_assoc] using h))

theorem fopNrDeclare_of_differing (hr : pairRuns s p.val = true) (ha : archOf s p.val ≠ 0)
    (hsig : (prtGet s p.val).farSig ≠ (prtGet s p.val).govSig) (hg : (prtGet s p.val).gov ≠ 3)
    (hf : (prtGet s p.val).far ≠ 3) (hn : (prtGet s p.val).fopNr = false) : exec (.fopNrDeclare p) s =
    .next (protEvt p.val 3 (prtPut p.val { prtGet s p.val with fopNr := true } s)) :=
  congrArg Host.Outcome.next (if_pos (by simp [hr, ha, hsig, hg, hf, hn]))

theorem fopNrDeclare_idle (h : archOf s p.val = 0 ∨ (prtGet s p.val).farSig = (prtGet s p.val).govSig ∨
    (prtGet s p.val).gov = 3 ∨ (prtGet s p.val).far = 3) : exec (.fopNrDeclare p) s = .next s :=
  congrArg Host.Outcome.next (if_neg fun hn => by
    simp only [Bool.and_eq_true, bne_iff_ne, decide_eq_true_eq, and_assoc] at hn
    obtain ⟨-, ha, hsig, hg, hf, -⟩ := hn
    tauto)

theorem prtCntClr_clears (hs : Safety.tablesOk s = true) : reaches (exec (.prtCntClr p) s) fun t =>
    prtGet t p.val = { prtGet s p.val with switches := 0, rejects := 0, farSw := 0, noTimer := 0 } ∧
      keeps prtGet s t [p.val] ∧ t = { s with pairs := t.pairs } := ⟨_, rfl, prtPut_spec hs⟩

end Timers

/-! ### The hold after a takeover (R297) -/

section Hold
variable {p : PairId} {limit : Bool} {s : State}

/-- A pair whose hold has ended, its hold-offs to start afresh. -/
def released (k : Pair) : Pair := { k with held := false, hoW := false, hoP := false, doneW := false, doneP := false }

theorem resumeWtr_idle {p : Nat} (h : (prtGet s p).gov ≠ 4) : resumeWtr p s = s := if_neg (by simp [h])

theorem protHoldEnd_idle (h : (prtGet s p.val).held = false) : exec (.protHoldEnd p limit) s = .next s :=
  congrArg Host.Outcome.next (if_neg (ne_true_of_eq_false h))

theorem pathBad_eq_false {n : Nat} {protect : Bool} (hsf : pathTsf s n protect = false) (hsd : pathTsd s n protect = false) :
    pathBad s n protect = false := by rw [pathBad, hsf, hsd, Bool.or_self]

/-- Hold-offs start afresh on the paths of a pair whose defects stand. -/
def restartHoldoffs (p : Nat) (s : State) : State :=
  [false, true].foldl (fun s q =>
    if pairRuns s p && decide (prtHoldoff s p ≠ 0) && pathBad s p q then startHoldoff p q s else s) s

theorem restartHoldoffs_idle {n : Nat} (h : ∀ protect, pathBad s n protect = false) : restartHoldoffs n s = s := by
  simp only [restartHoldoffs, List.foldl_cons, List.foldl_nil, h, Bool.and_false, Bool.false_eq_true, if_false]

theorem protHoldEnd_in_time (h : (prtGet s p.val).held = true) : exec (.protHoldEnd p false) s =
    .next (restartHoldoffs p.val (resumeWtr p.val (prtPut p.val (released (prtGet s p.val)) s))) :=
  congrArg Host.Outcome.next (if_pos h)

/-- The hold of a pair without defects ends in time: nothing starts with it. -/
theorem protHoldEnd_of_sound (hs : Safety.tablesOk s = true) (hheld : (prtGet s p.val).held = true)
    (hbad : ∀ protect, pathBad s p.val protect = false) (hg : (prtGet s p.val).gov ≠ 4) (hl : limit = false) :
    exec (.protHoldEnd p limit) s = .next (prtPut p.val (released (prtGet s p.val)) s) := by
  have hgov : (prtGet (prtPut p.val (released (prtGet s p.val)) s) p.val).gov ≠ 4 := by
    rwa [prtGet_prtPut (tablesOk_pairs hs)]
  rw [hl, protHoldEnd_in_time hheld, resumeWtr_idle hgov, restartHoldoffs_idle]
  exact hbad

end Hold

/-! ### The highest local condition (R282, R283) -/

section Local
variable {n : Nat} {s : State}

theorem localRequest_of_sfP (h : pathSf s n true = true) : localRequest s n = (9, some false) := if_pos h

theorem localRequest_of_sfW (hp : pathSf s n true = false) (hw : pathSf s n false = true) :
    localRequest s n = (7, some true) := (if_neg (ne_true_of_eq_false hp)).trans (if_pos hw)

theorem takeLocal_of_higher {sig : Bool} (h : (prtGet s n).gov < (localRequest s n).1)
    (hsig : (localRequest s n).2 = some sig) : takeLocal n s = setGov n (localRequest s n).1 sig false s := by
  rw [takeLocal]
  simp only [if_pos h, hsig]

theorem takeLocal_idle (h : (localRequest s n).1 ≤ (prtGet s n).gov) : takeLocal n s = s := if_neg (Nat.not_lt.2 h)

theorem takeFar_of_unidirectional (h : archOf s n = 0) : takeFar n s = s := if_neg (by simp [h])

/-- A 1+1 pair without a far end decides by its local conditions alone. -/
theorem takeDecision_of_unidirectional (h : archOf (takeLocal n s) n = 0) :
    takeDecision n s = signal n (agreeNr n (followGov n (takeLocal n s))) := by
  rw [takeDecision, takeFar_of_unidirectional h, if_neg (by rw [h]; decide)]

end Local

/-! ### SEL follows GOV (R284, R292) -/

section Sel
variable {n d : Nat} {s : State}

theorem pairSel_of_home (h : homeDie s n = some d) : pairSel s n = selOf s d n := by rw [pairSel, h]

section Flip
variable {v : Bool} (hd : homeDie s n = some d) (hne : selOf s d n ≠ v) (hhit : (selInUse s n).getLsbD 34 = false)
include hd hne hhit

/-- A flip of a pair that is not hitless: the selector set and the change counted. -/
theorem setSel_flips : setSel n v s = State.putSels (prtPut n
    { prtGet s n with
      changes := (prtGet s n).changes + 1, kind := flipKind s n, switches := min ((prtGet s n).switches + 1) 0x3FFFF,
      farSw := if (prtGet s n).govFar then min ((prtGet s n).farSw + 1) 0x3FFFF else (prtGet s n).farSw, waits := false } s)
    (tabSet false s.sels (d * 2048 + n) v) := by
  rw [setSel, hd]
  simp only [if_neg hne, bit_eq_getLsbD, hhit, Bool.false_eq_true, if_false]
  rfl

theorem setSel_counts (hs : Safety.tablesOk s = true) :
    selOf (setSel n v s) d n = v ∧ (prtGet (setSel n v s) n).switches = min ((prtGet s n).switches + 1) 0x3FFFF := by
  rw [setSel_flips hd hne hhit]
  refine ⟨tabGet_tabSet_same (d := fun _ => false) (tablesOk_sels hs), ?_⟩
  exact congrArg Pair.switches (prtGet_prtPut (tablesOk_pairs hs))

end Flip

theorem followGov_flips (hd : homeDie s n = some d) (hne : selOf s d n ≠ (prtGet s n).govSig)
    (hhit : (selInUse s n).getLsbD 34 = false) : followGov n s = setSel n (prtGet s n).govSig s := by
  rw [followGov, pairSel_of_home hd]
  simp only [if_neg hne, bit_eq_getLsbD, hhit, Bool.false_and, Bool.false_eq_true, if_false]

end Sel

/-! ### The fast path (R279, R280, R283) -/

section FastPath
variable {p : PairId} {s : State}

/-- A pair evaluates at its frame boundary: enabled, its entry valid, its checks met, driven by no other. -/
def prtEvaluates (s : State) (p : Nat) : Prop :=
  (prtGet s p).causes = 0 ∧ prtOn s p = true ∧ (selEntry s p).getLsbD 35 = true ∧ isDriven s p = false

theorem not_prtEvaluates_iff {n : Nat} : (decide ((prtGet s n).causes ≠ 0) || !prtOn s n || !bit (selEntry s n) 35 ||
    isDriven s n) = true ↔ ¬ prtEvaluates s n := by
  simp only [prtEvaluates, bit_eq_getLsbD, Bool.or_eq_true, Bool.not_eq_true', decide_eq_true_eq, not_and_or,
    Bool.not_eq_true, Bool.not_eq_false, or_assoc, ne_eq]

theorem protFastpathEval_idle (h : ¬ prtEvaluates s p.val) : exec (.protFastpathEval p) s = .next s :=
  congrArg Host.Outcome.next (if_pos (not_prtEvaluates_iff.2 h))

section Evaluates
variable (h : prtEvaluates s p.val)
include h

theorem protFastpathEval_of_evaluates : exec (.protFastpathEval p) s =
    .next (if prtFollows s p.val = true then setSel p.val (pairSel s (fld (prtLink s p.val) 10 0)) s
      else if (prtGet s p.val).held = true then s else takeDecision p.val s) :=
  congrArg Host.Outcome.next (if_neg fun hn => not_prtEvaluates_iff.1 hn h)

theorem protFastpathEval_follower (hf : prtFollows s p.val = true) : exec (.protFastpathEval p) s =
    .next (setSel p.val (pairSel s (fld (prtLink s p.val) 10 0)) s) := by
  rw [protFastpathEval_of_evaluates h, if_pos hf]

section Leads
variable (hf : prtFollows s p.val = false)
include hf

theorem protFastpathEval_held (hh : (prtGet s p.val).held = true) : exec (.protFastpathEval p) s = .next s := by
  rw [protFastpathEval_of_evaluates h, if_neg (ne_true_of_eq_false hf), if_pos hh]

section Unidirectional
variable (hh : (prtGet s p.val).held = false) (ha : archOf s p.val = 0)
include hh ha

theorem protFastpathEval_decides {t : State} (ht : takeLocal p.val s = t) (hat : archOf t p.val = archOf s p.val) :
    exec (.protFastpathEval p) s = .next (signal p.val (agreeNr p.val (followGov p.val t))) := by
  rw [protFastpathEval_of_evaluates h, if_neg (ne_true_of_eq_false hf), if_neg (ne_true_of_eq_false hh),
    takeDecision_of_unidirectional (by rw [ht, hat, ha]), ht]

theorem protFastpathEval_takes {sig : Bool} (hgov : (prtGet s p.val).gov < (localRequest s p.val).1)
    (hsig : (localRequest s p.val).2 = some sig) : exec (.protFastpathEval p) s =
    .next (signal p.val (agreeNr p.val (followGov p.val (setGov p.val (localRequest s p.val).1 sig false s)))) :=
  protFastpathEval_decides h hf hh ha (takeLocal_of_higher hgov hsig) archOf_setGov

theorem protFastpathEval_stays (hgov : (localRequest s p.val).1 ≤ (prtGet s p.val).gov) : exec (.protFastpathEval p) s =
    .next (signal p.val (agreeNr p.val (followGov p.val s))) :=
  protFastpathEval_decides h hf hh ha (takeLocal_idle hgov) rfl

end Unidirectional
end Leads
end Evaluates
end FastPath

/-- Settles O35: each timer by whether it is due, the hold by what stands, then the frame boundary by who decides. -/
theorem protectionTimersAndFastPath : Obligations.ProtectionTimersAndFastPath := by
  unfold Obligations.ProtectionTimersAndFastPath
  intro p protect limit s hs n k onset evaluates h
  refine ⟨fun hdue hfree => ?_, fun hdue hfree => ?_, holdoffStart_idle, holdoffExpire_of_running, holdoffExpire_idle,
    wtrExpire_of_over, wtrExpire_idle, hlWaitExpire_lands, hlWaitExpire_idle, fopNrDeclare_of_differing, fopNrDeclare_idle,
    protHoldEnd_idle, fun hheld hsfW hsdW hsfP hsdP => protHoldEnd_of_sound hs hheld fun protect => ?_, prtCntClr_clears hs,
    protFastpathEval_idle, protFastpathEval_follower, protFastpathEval_held,
    fun _ he hf hh ha hgov hsig => ⟨_, protFastpathEval_takes he hf hh ha hgov hsig, rfl⟩, protFastpathEval_stays,
    localRequest_of_sfP, localRequest_of_sfW, fun d hd hne hhit => ?_⟩
  · rw [holdoffStart_of_due hdue, startHoldoff_of_free hfree]
  · rw [holdoffStart_of_due hdue, startHoldoff_without_timer hfree]
  · cases protect with
    | false => exact pathBad_eq_false hsfW hsdW
    | true => exact pathBad_eq_false hsfP hsdP
  · rw [followGov_flips hd hne hhit]
    exact setSel_counts hd hne hhit hs

end Sys2Proof.Machine
end

section
/-! PROOFS. O27: an item enters a host queue whole or is counted in LOST, and the flush of a host queue. -/

namespace Sys2Proof.Machine

theorem satAdd_zero (w : Word) : satAdd w 0 = w := by
  apply BitVec.eq_of_toNat_eq
  have hw := w.isLt
  rw [satAdd, BitVec.toNat_ofNat]
  omega

/-- A host queue changed, nothing else. -/
theorem hqPut_spec {n : Nat} {c : HostQueue} {s : State} (hs : tabWf (fun _ => ({} : HostQueue)) s.hq = true) :
    hqGet (hqPut n c s) n = c ∧ keeps hqGet s (hqPut n c s) [n] :=
  ⟨tabGet_tabSet_same (d := fun _ => ({} : HostQueue)) hs, fun _ hj => tabGet_tabSet_ne (by simpa using hj)⟩

/-! ### The room that the oldest items give up (R343) -/

section Discard
variable {n need : Nat} {rp wp : Ptr} {items : List (List Word)}

theorem hqDiscard_of_room (h : need ≤ n - ptrFill n rp wp) : hqDiscard n need rp wp items = (rp, items, 0) := by
  cases items with
  | nil => rfl
  | cons i rest => exact if_pos h

theorem hqDiscard_oldest {old : List Word} (h : n - ptrFill n rp wp < need)
    (hroom : need ≤ n - ptrFill n (ptrAdvance n rp (itemLines old)) wp) :
    hqDiscard n need rp wp (old :: items) = (ptrAdvance n rp (itemLines old), items, 1) := by
  rw [hqDiscard, if_neg (Nat.not_le.2 h), hqDiscard_of_room hroom]

end Discard

/-! ### An item for a host queue (R341, R343, R344, R345) -/

section Append
variable {q : Nat} {item : List Word} {s : State}

/-- A host queue with an item at its write end. -/
def withItem (size : Nat) (item : List Word) (h : HostQueue) : HostQueue :=
  { h with items := h.items ++ [item], wp := ptrAdvance size h.wp (itemLines item) }

theorem hqAppend_of_off (hoff : hqOn s q = false) : hqAppend q item s = cwCount (hqLostAddr q) 1 s :=
  if_pos (by rw [hoff]; rfl)

section Enabled
variable (hon : hqOn s q = true)
include hon

theorem hqAppend_of_credit (hp : cwFld s (hqCfgAddr q) 34 34 = 1) : hqAppend q item s =
    if itemLines item ≤ (hqGet s q).cr then
      hqLevel q (hqPut q { withItem (hqSize s q) item (hqGet s q) with cr := (hqGet s q).cr - itemLines item } s)
    else cwCount (hqLostAddr q) 1 s :=
  (if_neg (by rw [hon]; decide)).trans (if_pos hp)

/-- Under the overwrite policy an item enters once the discarded items leave room for it. -/
theorem hqAppend_of_room {rp : Ptr} {items : List (List Word)} {k : Nat} (hp : cwFld s (hqCfgAddr q) 34 34 ≠ 1)
    (hd : hqDiscard (hqSize s q) (itemLines item) (hqGet s q).rp (hqGet s q).wp (hqGet s q).items = (rp, items, k))
    (hroom : itemLines item ≤ hqSize s q - ptrFill (hqSize s q) rp (hqGet s q).wp) : hqAppend q item s =
    hqLevel q (cwCount (hqLostAddr q) k
      (hqPut q (withItem (hqSize s q) item { hqGet s q with rp := rp, items := items }) s)) := by
  refine (if_neg (by rw [hon]; decide)).trans ((if_neg hp).trans ?_)
  rw [hd]
  exact if_pos hroom

end Enabled

/-- Lost items counted and a host queue changed, nothing else. -/
theorem cwCount_hqPut_spec {n a k : Nat} {c : HostQueue} (hs : Safety.tablesOk s = true) :
    let t := cwCount a k (hqPut n c s)
    cwGet t a = satAdd (cwGet s a) k ∧ cwKept s t [a] ∧ hqGet t n = c ∧ keeps hqGet s t [n] ∧
      t = { s with cw := t.cw, hq := t.hq } :=
  hqPut_cwSet_spec hs

theorem cwCount_zero_kept {a : Nat} {t : State} (hget : cwGet t a = satAdd (cwGet s a) 0) (hkept : cwKept s t [a]) (b : Nat) :
    cwGet t b = cwGet s b := by
  by_cases hb : b = a
  · rw [hb, hget, satAdd_zero]
  · exact hkept b (by simpa using hb)

/-- One more item counted as lost, nothing else changed. -/
theorem reaches_cwCount {a : Nat} {x : Result} (hs : Safety.tablesOk s = true) (hx : x = .next (cwCount a 1 s)) :
    reaches x fun t => cwGet t a = satAdd (cwGet s a) 1 ∧ cwKept s t [a] ∧ t = { s with cw := t.cw } :=
  ⟨_, hx, cwSet_spec hs⟩

end Append

/-! ### HOST_QUEUE_FLUSH (R349) -/

/-- The items open at engines on a flushed queue, marked truncated. -/
def itemsTruncated (q : Nat) (s : State) : State :=
  (s.putEngines (tabMap {} (truncateItem q) s.engines)).putSuspended (s.suspended.map (truncateItem q))

/-- The counts of a flush: items discarded, open items truncated. -/
def hostFlushCounts (q : Nat) (s : State) : Word :=
  mkWord [(33, 2), (23, q), (12, min (hqGet s q).items.length 0x7FF),
    (1, min ((s.engines.filter fun e => itemOpen q e.2).length +
      (match s.suspended with | some E => b2n (itemOpen q E) | none => 0)) 0x7FF)]

theorem hostQueueFlush_eq {o : Origin} {q : HqId} {s : State} : exec (.hostQueueFlush o q) s =
    .next (record0 0x1A (srcNumber o.src) (hostFlushCounts q.val s) (hqLevel q.val
      (hqPut q.val { hqGet s q.val with items := [], wp := (hqGet s q.val).rp } (itemsTruncated q.val s)))) := rfl

/-- Settles O27: an item by the state of its queue and the policy, then the flush. -/
theorem hostQueueItems : Obligations.HostQueueItems := by
  unfold Obligations.HostQueueItems
  intro q item o s hs n h size lines free credit lost x added
  refine ⟨fun hoff => reaches_cwCount hs (congrArg _ (hqAppend_of_off hoff)),
    fun hon hp hcr => congrArg _ ((hqAppend_of_credit hon hp).trans (if_pos hcr)),
    fun hon hp hcr => reaches_cwCount hs (congrArg _ ((hqAppend_of_credit hon hp).trans (if_neg (Nat.not_le.2 hcr)))),
    fun hon hp hroom => ?_, fun hon hp old rest hitems hfull => ?_, ⟨_, hostQueueFlush_eq, ?_⟩⟩
  · obtain ⟨hlost, hkept, hqueue, hqueues, hrest⟩ := cwCount_hqPut_spec (n := n) (a := lost) (k := 0) (c := added) hs
    exact ⟨_, congrArg _ (hqAppend_of_room hon hp (hqDiscard_of_room hroom) hroom), hqueue, hqueues,
      cwCount_zero_kept hlost hkept, hrest⟩
  · intro rp hroom
    have hd := hqDiscard_oldest (items := rest) hfull hroom
    rw [← hitems] at hd
    obtain ⟨hlost, hkept, hqueue, hqueues, hrest⟩ := cwCount_hqPut_spec (n := n) (a := lost) (k := 1)
      (c := { added with items := rest ++ [item], rp := rp }) hs
    exact ⟨_, congrArg _ (hqAppend_of_room hon hp hd hroom), hqueue, hqueues, hlost, hkept, hrest⟩
  · obtain ⟨hqueue, hqueues⟩ := hqPut_spec (s := itemsTruncated n s) (n := n)
      (c := { h with items := [], wp := h.rp }) (tablesOk_hq (s := s) hs)
    exact ⟨hqueue, hqueues, rfl⟩

end Sys2Proof.Machine
end

section
/-! PROOFS. O1, O57 and O58: the step and the front command, the state after reset, and canonical form. -/

namespace Sys2Proof.Machine

/-- Settles O1: both are the definition of a step. -/
theorem stepRunsFrontCommand : Obligations.StepRunsFrontCommand := fun _ _ _ => ⟨rfl, rfl⟩

/-! ### Canonical form -/

theorem canon_iff (s : State) : Canon s ↔ Safety.tablesOk s = true ∧ Safety.startersOk s = true := by
  simp only [Safety.tablesOk, Safety.coreTables, Safety.lineTables, Safety.unitTables, Safety.startersOk, Bool.and_eq_true]
  constructor
  · intro h
    cases h
    and_intros <;> assumption
  · intro h
    constructor <;> tauto

/-- Settles O58: the command at the front keeps canonical form, and the queue has no part in it. -/
theorem everyStepKeepsTheTables : Obligations.EveryStepKeepsTheTables := by
  unfold Obligations.EveryStepKeepsTheTables
  intro s t hs hst hstep
  rw [← canon_iff]
  unfold step at hstep
  split at hstep
  next => exact (Host.Outcome.next.inj hstep) ▸ (canon_iff s).2 ⟨hs, hst⟩
  next c rest _ =>
    exact (exec_keeps _ c t hstep).canon ((canon_iff { s with pending := rest }).2 ⟨hs, hst⟩)

/-- Settles O57: each part of the reset state by its definition. -/
theorem resetState : Obligations.ResetState := by
  unfold Obligations.ResetState
  intro s
  have hregs : ∀ e g, regRead (engGet s e).regs g = 0 := fun e g => by
    show (if g = 0 then (0 : Word) else 0) = 0
    exact ite_self _
  exact ⟨by decide, by decide, by decide, rfl, rfl, rfl, rfl, rfl, rfl, rfl, rfl, rfl, rfl, rfl, fun _ => rfl, fun _ => rfl,
    fun _ _ => rfl, hregs, fun _ => rfl, fun _ _ _ => rfl, fun _ => rfl, fun _ => rfl, fun _ => rfl, by decide, by decide,
    by decide⟩

end Sys2Proof.Machine
end

section
/-! PROOFS. Work on control words alone, and O54: counters written, the census cleared. -/

namespace Sys2Proof.Machine

/-! ### Work on control words -/

/-- From s to t control words of a list may change, and nothing else does. -/
structure CwWork (as : List Nat) (s t : State) : Prop where
  words : cwKept s t as
  rest : t = { s with cw := t.cw }
  cwOk : tabWf cwReset t.cw = true

theorem CwWork.refl {as : List Nat} {s : State} (hs : tabWf cwReset s.cw = true) : CwWork as s s :=
  ⟨fun _ _ => rfl, rfl, hs⟩

section Step
variable {as : List Nat} {s t : State} (h : CwWork as s t)
include h

theorem CwWork.trans {u : State} (h' : CwWork as t u) : CwWork as s u :=
  ⟨h.words.trans h'.words, only_trans (put := State.putCw) (get := State.cw) (fun _ _ _ => rfl) h.rest h'.rest, h'.cwOk⟩

theorem CwWork.cwSet {a : Nat} (v : Word) (ha : a ∈ as) : CwWork as s (cwSet a v t) :=
  h.trans ⟨fun _ hb => cwGet_cwSet_ne fun e => hb (e ▸ ha), rfl, cwSet_ok h.cwOk⟩

theorem CwWork.mono {bs : List Nat} (hsub : as ⊆ bs) : CwWork bs s t :=
  ⟨fun a ha => h.words a fun hm => ha (hsub hm), h.rest, h.cwOk⟩
end Step

/-! ### Counters that wrap (R363, R370) -/

section Counter
variable {e k add : Nat} {s : State}

theorem pcAdd_of_lt (h : (cwGet s (pcAddr e k)).toNat + add < 2 ^ 36) :
    pcAdd e k add s = (cwSet (pcAddr e k) (BitVec.ofNat 36 ((cwGet s (pcAddr e k)).toNat + add)) s, 0) := by
  unfold pcAdd
  exact if_pos h

theorem pcAdd_of_carry (h : 2 ^ 36 ≤ (cwGet s (pcAddr e k)).toNat + add) (hadd : add ≤ 2 ^ 36) :
    pcAdd e k add s =
      (setOvf e k (cwSet (pcAddr e k) (BitVec.ofNat 36 ((cwGet s (pcAddr e k)).toNat + add)) s), 1) := by
  have hlt := (cwGet s (pcAddr e k)).isLt
  unfold pcAdd
  refine (if_neg (by omega)).trans ?_
  rw [show ((cwGet s (pcAddr e k)).toNat + add) / 0x1000000000 = 1 by omega]

/-- OVF set stays set. -/
theorem setOvf_getLsbD (hs : tabWf cwReset s.cw = true) (hk : k < 8) (i : Nat) :
    (cwGet (setOvf e k s) (pcAddr e 0x19)).getLsbD i = (decide (i = 28 + k) || (cwGet s (pcAddr e 0x19)).getLsbD i) := by
  rw [setOvf, cwPut, cwGet_cwSet hs]
  by_cases h : i = 28 + k
  · subst h
    rw [getLsbD_putFld_bit (by omega)]
    simp
  · rw [getLsbD_putFld_of_disjoint (Nat.le_refl _) (by omega) (by omega)]
    simp [h]

/-- What a counter of an engine may write beyond its own word: the counters above it, and OVF. -/
abbrev carryWords (e k : Nat) : List Nat := pcAddr e 0x19 :: ((List.range 8).filter fun j => k < j).map (pcAddr e)

theorem mem_carryWords {j : Nat} (hk : k < j) (hj : j < 8) : pcAddr e j ∈ carryWords e k := by
  simp only [List.mem_cons, List.mem_map, List.mem_filter, List.mem_range, decide_eq_true_eq]
  exact .inr ⟨j, ⟨hj, hk⟩, rfl⟩

theorem not_mem_carryWords {j : Nat} (hj : j ≤ k) (hk : k < 8) : pcAddr e j ∉ carryWords e k := by
  simp only [List.mem_cons, List.mem_map, List.mem_filter, List.mem_range, decide_eq_true_eq, not_or, not_exists]
  refine ⟨fun h => ?_, fun i hi => ?_⟩
  · have := pcAddr_inj h
    omega
  · have := pcAddr_inj hi.2
    omega

/-- A carry goes to counters above, and leaves every OVF that is set. -/
theorem carryOn_spec (e : Nat) : ∀ (n k c : Nat) (s : State), tabWf cwReset s.cw = true →
    CwWork (carryWords e k) s (carryOn e n k c s) ∧
      ∀ i, (cwGet s (pcAddr e 0x19)).getLsbD i = true → (cwGet (carryOn e n k c s) (pcAddr e 0x19)).getLsbD i = true
  | 0, _, _, _, hs => ⟨.refl hs, fun _ h => h⟩
  | n + 1, k, c, s, hs => by
    have hovf : pcAddr e 0x19 ∈ carryWords e k := List.mem_cons_self
    unfold carryOn
    split
    · exact ⟨.refl hs, fun _ h => h⟩
    rename_i hgo
    have hk : k + 1 < 8 := by simp only [Bool.or_eq_true, decide_eq_true_eq] at hgo; omega
    have hset : ∀ t, tabWf cwReset t.cw = true → ∀ i, (cwGet t (pcAddr e 0x19)).getLsbD i = true →
        (cwGet (setOvf e (k + 1) t) (pcAddr e 0x19)).getLsbD i = true := fun t ht i hi => by
      rw [setOvf_getLsbD ht hk, hi, Bool.or_true]
    split
    · exact ⟨(CwWork.refl hs).cwSet _ hovf, hset s hs⟩
    have hone : CwWork (carryWords e k) s (pcAdd e (k + 1) c s).1 ∧ ∀ i, (cwGet s (pcAddr e 0x19)).getLsbD i = true →
        (cwGet (pcAdd e (k + 1) c s).1 (pcAddr e 0x19)).getLsbD i = true := by
      have hw := (CwWork.refl (as := carryWords e k) hs).cwSet
        (BitVec.ofNat 36 ((cwGet s (pcAddr e (k + 1))).toNat + c)) (mem_carryWords (Nat.lt_succ_self k) hk)
      have hb : cwGet (cwSet (pcAddr e (k + 1)) (BitVec.ofNat 36 ((cwGet s (pcAddr e (k + 1))).toNat + c)) s) (pcAddr e 0x19) =
          cwGet s (pcAddr e 0x19) := cwGet_cwSet_ne fun h => by have := pcAddr_inj h; omega
      unfold pcAdd
      dsimp only
      split
      · exact ⟨hw, fun i hi => by rw [hb]; exact hi⟩
      · exact ⟨hw.cwSet _ hovf, fun i hi => hset _ hw.cwOk i (by rw [hb]; exact hi)⟩
    obtain ⟨hw, hbits⟩ := carryOn_spec e n (k + 1) (pcAdd e (k + 1) c s).2 (pcAdd e (k + 1) c s).1 hone.1.cwOk
    have hsub : carryWords e (k + 1) ⊆ carryWords e k := by
      refine List.cons_subset_cons _ (List.map_subset _ fun j hj => ?_)
      simp only [List.mem_filter, decide_eq_true_eq] at hj ⊢
      exact ⟨hj.1, by omega⟩
    exact ⟨hone.1.trans (hw.mono hsub), fun i hi => hbits i (hone.2 i hi)⟩

/-- A counter takes what is added, modulo its width. -/
theorem cwGet_pcAdd (hs : tabWf cwReset s.cw = true) (hk : k < 8) :
    cwGet (pcAdd e k add s).1 (pcAddr e k) = cwGet s (pcAddr e k) + BitVec.ofNat 36 add := by
  have hsum : BitVec.ofNat 36 ((cwGet s (pcAddr e k)).toNat + add) = cwGet s (pcAddr e k) + BitVec.ofNat 36 add := by
    rw [BitVec.ofNat_add, BitVec.ofNat_toNat, BitVec.setWidth_eq]
  unfold pcAdd
  dsimp only
  split
  · rw [cwGet_cwSet hs, hsum]
  · rw [setOvf, cwPut, cwGet_cwSet_ne (fun h => by have := pcAddr_inj h; omega), cwGet_cwSet hs, hsum]

theorem pcAdd_work (hs : tabWf cwReset s.cw = true) : CwWork [pcAddr e k, pcAddr e 0x19] s (pcAdd e k add s).1 := by
  have hw := (CwWork.refl hs).cwSet (a := pcAddr e k) (as := [pcAddr e k, pcAddr e 0x19])
    (BitVec.ofNat 36 ((cwGet s (pcAddr e k)).toNat + add)) List.mem_cons_self
  unfold pcAdd
  dsimp only
  split
  · exact hw
  · exact hw.cwSet _ (by simp)

section Carry
variable {n : Nat}

theorem carryOn_of_stop (h : k = 7 ∨ ¬ (cwGet s (pcAddr e (0x10 + k))).getLsbD 35 = true) : carryOn e (n + 1) k 1 s = s := by
  refine if_pos ?_
  obtain rfl | h := h
  · simp
  · rw [bit_eq_getLsbD, Bool.eq_false_iff.2 h]
    simp

variable (hk : k < 7) (hc : (cwGet s (pcAddr e (0x10 + k))).getLsbD 35 = true)
include hk hc

theorem carryOn_of_frozen (hf : (cwGet s (pcAddr e 0x18)).getLsbD (28 + (k + 1)) = true) :
    carryOn e (n + 1) k 1 s = setOvf e (k + 1) s := by
  refine (if_neg ?_).trans (if_pos ?_)
  · simp [hc]; omega
  · simpa [Nat.add_assoc] using hf

theorem carryOn_of_chained (hf : ¬ (cwGet s (pcAddr e 0x18)).getLsbD (28 + (k + 1)) = true) :
    carryOn e (n + 1) k 1 s = carryOn e n (k + 1) (pcAdd e (k + 1) 1 s).2 (pcAdd e (k + 1) 1 s).1 := by
  refine (if_neg ?_).trans (if_neg ?_)
  · simp [hc]; omega
  · simpa [Nat.add_assoc] using hf
end Carry
end Counter

/-! ### A counter written (R371) -/

section Written
variable {e k inc : Nat} {v : Word} {s : State} (hs : tabWf cwReset s.cw = true) (hk : k < 8)
include hs

theorem writeCounter_of_lt (h : v.toNat + inc < 2 ^ 36) :
    cwGet (writeCounter e k inc v s) (pcAddr e k) = BitVec.ofNat 36 (v.toNat + inc) ∧
      CwWork [pcAddr e k] s (writeCounter e k inc v s) := by
  have hv : cwGet (cwSet (pcAddr e k) v s) (pcAddr e k) = v := cwGet_cwSet hs
  have heq : writeCounter e k inc v s = cwSet (pcAddr e k) (BitVec.ofNat 36 (v.toNat + inc)) (cwSet (pcAddr e k) v s) := by
    unfold writeCounter
    rw [pcAdd_of_lt (by rw [hv]; exact h), hv]
    exact if_pos rfl
  rw [heq]
  exact ⟨cwGet_cwSet (cwSet_ok hs), ((CwWork.refl hs).cwSet _ (by simp)).cwSet _ (by simp)⟩

/-- The machine once a written counter has wrapped, before its carry goes on. -/
def wrapped (e k sum : Nat) (v : Word) (s : State) : State :=
  setOvf e k (cwSet (pcAddr e k) (BitVec.ofNat 36 sum) (cwSet (pcAddr e k) v s))

theorem wrapped_work (sum : Nat) : CwWork [pcAddr e k, pcAddr e 0x19] s (wrapped e k sum v s) :=
  (((CwWork.refl hs).cwSet _ (by simp)).cwSet _ (by simp)).cwSet _ (by simp)

theorem writeCounter_of_carry (h : 2 ^ 36 ≤ v.toNat + inc) (hinc : inc ≤ 2 ^ 36) :
    writeCounter e k inc v s = carryOn e 7 k 1 (wrapped e k (v.toNat + inc) v s) := by
  have hv : cwGet (cwSet (pcAddr e k) v s) (pcAddr e k) = v := cwGet_cwSet hs
  unfold writeCounter
  rw [pcAdd_of_carry (by rw [hv]; exact h) hinc, hv]
  rfl

include hk

theorem wrapped_words (sum : Nat) : cwGet (wrapped e k sum v s) (pcAddr e k) = BitVec.ofNat 36 sum ∧
    (cwGet (wrapped e k sum v s) (pcAddr e 0x19)).getLsbD (28 + k) = true := by
  constructor
  · rw [wrapped, setOvf, cwPut, cwGet_cwSet_ne (fun h => by have := pcAddr_inj h; omega), cwGet_cwSet (cwSet_ok hs)]
  · rw [wrapped, setOvf_getLsbD (cwSet_ok (cwSet_ok hs)) hk]
    simp

/-- A written counter that wraps: its word, its OVF, what its chained neighbour takes, and what else stays. -/
theorem writeCounter_wraps (h : 2 ^ 36 ≤ v.toNat + inc) (hinc : inc ≤ 2 ^ 36) :
    let t := writeCounter e k inc v s
    let chained := (cwGet s (pcAddr e (0x10 + k))).getLsbD 35 = true
    let frozen := (cwGet s (pcAddr e 0x18)).getLsbD (28 + (k + 1)) = true
    cwGet t (pcAddr e k) = BitVec.ofNat 36 (v.toNat + inc - 2 ^ 36) ∧
      (cwGet t (pcAddr e 0x19)).getLsbD (28 + k) = true ∧
      (k < 7 → chained → ¬ frozen → cwGet t (pcAddr e (k + 1)) = cwGet s (pcAddr e (k + 1)) + 1) ∧
      (k < 7 → chained → frozen → cwGet t (pcAddr e (k + 1)) = cwGet s (pcAddr e (k + 1)) ∧
        (cwGet t (pcAddr e 0x19)).getLsbD (28 + (k + 1)) = true) ∧
      (k = 7 ∨ ¬ chained → cwKept s t [pcAddr e k, pcAddr e 0x19]) ∧
      (∀ a, a ∉ pcAddr e 0x19 :: (List.range 8).map (pcAddr e) → cwGet t a = cwGet s a) ∧ t = { s with cw := t.cw } := by
  intro t chained frozen
  have ht : t = carryOn e 7 k 1 (wrapped e k (v.toNat + inc) v s) := writeCounter_of_carry hs h hinc
  have hu := wrapped_work (e := e) (k := k) (v := v) hs (v.toNat + inc)
  obtain ⟨hword, hovf⟩ := wrapped_words (e := e) (v := v) hs hk (v.toNat + inc)
  generalize wrapped e k (v.toNat + inc) v s = u at ht hu hword hovf
  obtain ⟨hw, hbits⟩ := carryOn_spec e 7 k 1 u hu.cwOk
  rw [← ht] at hw hbits
  have hother : ∀ j, j ≠ k → j ≠ 0x19 → cwGet u (pcAddr e j) = cwGet s (pcAddr e j) := fun j h1 h2 => hu.words _ (by
    simp only [List.mem_cons, List.not_mem_nil, or_false, not_or]
    exact ⟨fun he => h1 (pcAddr_inj he), fun he => h2 (pcAddr_inj he)⟩)
  have hchain := hother (0x10 + k) (by omega) (by omega)
  have hfreeze := hother 0x18 (by omega) (by omega)
  have hnext := hother (k + 1) (by omega) (by omega)
  have hall : CwWork (pcAddr e 0x19 :: (List.range 8).map (pcAddr e)) s t := by
    refine (hu.mono ?_).trans (hw.mono (List.cons_subset_cons _ (List.map_subset _ (List.filter_subset_self _))))
    simp only [List.cons_subset, List.nil_subset, and_true, List.mem_cons, true_or]
    exact .inr (List.mem_map_of_mem (List.mem_range.2 hk))
  refine ⟨?_, hbits _ hovf, fun h1 h2 h3 => ?_, fun h1 h2 h3 => ?_, fun h1 => ?_, hall.words, hall.rest⟩
  · rw [hw.words _ (not_mem_carryWords (Nat.le_refl k) hk), hword]
    have := v.isLt
    exact BitVec.eq_of_toNat_eq (by simp only [BitVec.toNat_ofNat]; omega)
  · rw [ht, carryOn_of_chained h1 (by rw [hchain]; exact h2) (by rw [hfreeze]; exact h3)]
    have hadd := pcAdd_work (e := e) (k := k + 1) (add := 1) hu.cwOk
    obtain ⟨hrest, -⟩ := carryOn_spec e 6 (k + 1) (pcAdd e (k + 1) 1 u).2 (pcAdd e (k + 1) 1 u).1 hadd.cwOk
    rw [hrest.words _ (not_mem_carryWords (Nat.le_refl _) (by omega)), cwGet_pcAdd hu.cwOk (by omega), hnext]
    rfl
  · have hset := carryOn_of_frozen (n := 6) h1 (by rw [hchain]; exact h2) (by rw [hfreeze]; exact h3)
    rw [ht, hset, setOvf_getLsbD hu.cwOk (by omega), setOvf, cwPut,
      cwGet_cwSet_ne (fun h => by have := pcAddr_inj h; omega), hnext]
    simp
  · rw [ht, carryOn_of_stop (h1.imp_right fun h => by rw [hchain]; exact h)]
    exact hu.words
end Written

/-! ### The census cleared (R382) -/

/-- Words cleared one after the other. -/
theorem cleared_spec (f : Nat → Nat) : ∀ (l : List Nat) (s : State), tabWf cwReset s.cw = true →
    let t := l.foldl (fun s n => cwSet (f n) 0 s) s
    CwWork (l.map f) s t ∧ ∀ a, a ∈ l.map f → cwGet t a = 0
  | [], _, hs => ⟨.refl hs, fun _ h => absurd h (by simp)⟩
  | n :: l, s, hs => by
    intro t
    obtain ⟨hw, hz⟩ := cleared_spec f l (cwSet (f n) 0 s) (cwSet_ok hs)
    refine ⟨((CwWork.refl hs).cwSet _ (by simp)).trans (hw.mono (by simp)), fun a ha => ?_⟩
    by_cases h : a ∈ l.map f
    · exact hz a h
    · obtain rfl : a = f n := by simpa [h] using ha
      exact (hw.words _ h).trans (cwGet_cwSet hs)

theorem cenAddr_inj {m n : Nat} (h : ctlAddr clsCen 0 m = ctlAddr clsCen 0 n) : m = n := by
  unfold ctlAddr at h
  omega

theorem clearCensus_spec {v : Word} {s : State} (hs : tabWf cwReset s.cw = true) :
    let t := clearCensus v s
    (∀ n, n < 56 → cwGet t (ctlAddr clsCen 0 n) = 0) ∧
      (∀ n, 56 ≤ n → n < 64 → cwGet t (ctlAddr clsCen 0 n) = if v.getLsbD 35 then 0 else cwGet s (ctlAddr clsCen 0 n)) ∧
      (∀ a, (∀ n, n < 64 → a ≠ ctlAddr clsCen 0 n) → cwGet t a = cwGet s a) ∧ t = { s with cw := t.cw } := by
  intro t
  obtain ⟨hw, hz⟩ := cleared_spec (ctlAddr clsCen 0) (List.range (if bit v 35 then 64 else 56)) s hs
  have hcount : 56 ≤ (if bit v 35 then 64 else 56) ∧ (if bit v 35 then 64 else 56) ≤ 64 := by split <;> decide
  refine ⟨fun n hn => hz _ (List.mem_map_of_mem (List.mem_range.2 (by omega))), fun n h1 h2 => ?_, fun a ha => hw.words a ?_,
    hw.rest⟩
  · by_cases hv : v.getLsbD 35 = true
    · rw [if_pos hv]
      exact hz _ (List.mem_map_of_mem (List.mem_range.2 (by simpa [hv] using h2)))
    · rw [if_neg hv]
      refine hw.words _ fun hm => ?_
      obtain ⟨m, hm, he⟩ := List.mem_map.1 hm
      rw [List.mem_range, bit_eq_getLsbD, if_neg hv] at hm
      have := cenAddr_inj he
      omega
  · intro hm
    obtain ⟨m, hm, he⟩ := List.mem_map.1 hm
    exact ha m (by have := List.mem_range.1 hm; omega) he.symm

theorem census_of_blank {t : State} (h : t.cw = []) : ∀ n, n < 64 → cwGet t (ctlAddr clsCen 0 n) = 0 := by
  intro n hn
  rw [cwGet, h]
  show cwReset (ctlAddr clsCen 0 n) = 0
  have hcls : ctlAddr clsCen 0 n / 2 ^ 18 = clsCen := ctlAddr_div (by decide) (by omega)
  rw [cwReset, hcls]
  rfl

/-- Settles O54: a write that wraps and one that does not, and the census where it is cleared or its power is lost. -/
theorem countersAreWrittenAndCleared : Obligations.CountersAreWrittenAndCleared := by
  unfold Obligations.CountersAreWrittenAndCleared
  intro e k v inc x s hs pc frozen chained sum cen
  have hcw := tablesOk_cw hs
  have hwrite : exec (.pcCounterWrite e k v inc) s = .next (writeCounter e.val k.val
      (if (cwGet s (pc 0x18)).getLsbD (28 + k.val) then 0 else inc.val) v s) := by
    rw [exec_pcCounterWrite, execPcCounterWrite, bit_eq_getLsbD]
  refine ⟨fun hf => ?_, fun hf hlt => ?_, fun hf hge => ?_, ⟨_, rfl, clearCensus_spec hcw⟩, fun h1 h2 => ?_, fun h1 => ?_,
    fun h1 => ?_⟩
  · rw [if_pos hf] at hwrite
    obtain ⟨hword, hw⟩ := writeCounter_of_lt (e := e.val) (k := k.val) (inc := 0) (v := v) hcw v.isLt
    exact ⟨_, hwrite, by rw [hword]; exact BitVec.ofNat_toNat .., hw.words, hw.rest⟩
  · rw [if_neg hf] at hwrite
    obtain ⟨hword, hw⟩ := writeCounter_of_lt (e := e.val) (k := k.val) (inc := inc.val) (v := v) hcw hlt
    exact ⟨_, hwrite, hword, hw.words, hw.rest⟩
  · rw [if_neg hf] at hwrite
    have hinc : inc.val ≤ 2 ^ 36 := by omega
    exact ⟨_, hwrite, writeCounter_wraps hcw k.isLt hge hinc⟩
  · exact ⟨_, by rw [exec_vinPowerOn, execVinPowerOn, if_pos (by simp [h1, h2])], census_of_blank rfl⟩
  · exact ⟨_, by rw [exec_vinUvlo, execVinUvlo, if_neg h1], census_of_blank rfl⟩
  · exact ⟨_, by rw [exec_dormantWake, execDormantWake, if_pos h1], census_of_blank rfl⟩

end Sys2Proof.Machine
end

section
/-! PROOFS. O60: no command takes a running package out of QUARANTINE but by a reset or by the loss of its power. -/

namespace Sys2Proof.Machine

theorem blindDomains_mode : BlindDomains State.mode := by constructor <;> exact fun _ _ => rfl

theorem cenInc_mode (n : Nat) (s : State) : (cenInc n s).mode = s.mode := by
  apply cenInc_frame (π := State.mode) (hk := rfl) <;> exact fun _ _ => rfl

/-! ### Operations that could change the mode, in QUARANTINE (R528) -/

section Held
variable {s : State} (h : s.mode = .quarantine)
include h

/-- No grant is taken. -/
theorem acceptGrant_of_quarantine : acceptGrant s = s := if_pos (by simp [grantMode, h])

/-- No takeover begins. -/
theorem holdIlk_mode_of_quarantine : (holdIlk s).mode = .quarantine := by
  unfold holdIlk
  dsimp only
  rw [if_neg (by simp [h])]
  exact h

theorem execGrantInChange_of_quarantine (level : Bool) : FrameR State.mode .quarantine (execGrantInChange level s) := by
  have hcen : (cenInc 9 (s.putRdn { s.rdn with grant := level })).mode = .quarantine := (cenInc_mode _ _).trans h
  refine frameR_next (frame_ite ?_ fun _ => h)
  refine frame_ite (π := State.mode) ?_ fun _ => ?_
  · apply releaseIlk_frame (hk := hcen) <;> exact fun _ _ => rfl
  · rw [acceptGrant_of_quarantine hcen]
    exact hcen

theorem execIlkResample_of_quarantine : FrameR State.mode .quarantine (execIlkResample s) := by
  exact frameR_next (frame_ite h fun _ => frame_ite (holdIlk_mode_of_quarantine h) fun _ => (cenInc_mode _ _).trans h)

theorem execTakeoverActive_of_quarantine (late : Bool) : FrameR State.mode .quarantine (execTakeoverActive late s) :=
  frameR_next ((congrArg State.mode (if_neg (by simp [h]))).trans h)

theorem execReleaseToStandby_of_quarantine : FrameR State.mode .quarantine (execReleaseToStandby s) :=
  frameR_next ((congrArg State.mode (if_neg (by simp [h]))).trans h)

theorem quarantine_of_quarantine (q c : Nat) (trip : Bool) : quarantine q c trip s = s := if_pos h

theorem modeReqStatus_of_quarantine (code : Nat) : modeReqStatus s code ≠ 0 := by
  unfold modeReqStatus
  split
  · decide
  · rw [if_pos (by simp [h])]
    decide

/-- A mode request and a request for DORMANT are refused; what else the word holds leaves the mode. -/
theorem applyPkgCtrl_of_quarantine (v : Word) : FrameE State.mode .quarantine (applyPkgCtrl v s) := by
  unfold applyPkgCtrl
  extract_lets st
  split
  · exact frameE_error
  rename_i deep s1 s2 s3 s4 hst
  have hreq : ¬ bit v 32 = true := fun hb => hst (by
    simp only [st, if_pos hb]
    exact modeReqStatus_of_quarantine h _)
  have h2 : s2.mode = .quarantine := frame_ite h (retarget_frame blindDomains_mode _ _ _)
  have h3 : s3.mode = .quarantine := frame_ite h2 fun k => k
  have h4 : s4.mode = .quarantine := (congrArg State.mode (if_neg hreq)).trans h3
  split
  · exact frameE_ok h4
  · rw [if_pos (by simp [dormantStatus, h4, St.modeState])]
    exact frameE_error

theorem writePwr_of_quarantine (a : Nat) (v : Word) : FrameE State.mode .quarantine (writePwr a v s) := by
  unfold writePwr
  dsimp only
  refine frameE_ite (applyReq_frame blindDomains_mode _ _ _ h) (frameE_ite (applyPkgCtrl_of_quarantine h v)
    (frameE_ite (frameE_ite ?_ (frameE_ok h)) (frameE_ite (frameE_ok h) (frameE_ite (frameE_ok h) (frameE_ok h)))))
  apply applyVloop_frame (hk := h) <;> exact fun _ _ => rfl

theorem applyWord_of_quarantine (src : Nat) (before plan : State) (a : Nat) (v : Word) :
    FrameE State.mode .quarantine (applyWord src before plan a v s) := by
  unfold applyWord
  dsimp only
  repeat' with_reducible apply frameE_ite
  · exact frameE_error
  · apply writeLane_frame (hk := h) <;> exact fun _ _ => rfl
  · apply writeFec_frame (hk := h); exact fun _ _ => rfl
  · apply writeFramer_frame (hk := h) <;> exact fun _ _ => rfl
  · apply writeOh_frame (hk := h) <;> exact fun _ _ => rfl
  · apply writeMap_frame (hk := h) <;> exact fun _ _ => rfl
  · apply writeDeck_frame (hk := h) <;> exact fun _ _ => rfl
  · apply applyBlk_frame (hk := h); exact fun _ _ => rfl
  · apply writeProof_frame (hk := h) <;> exact fun _ _ => rfl
  · exact frameE_ok (frame_ite h fun _ => h)
  · apply writeQueue_frame (hk := h) <;> exact fun _ _ => rfl
  · exact frameE_ok (frame_ite h fun _ => h)
  · apply writePc_frame (hk := h); exact fun _ _ => rfl
  · apply writeClk_frame (hk := h) <;> exact fun _ _ => rfl
  · apply writeAud_frame (hk := h) <;> exact fun _ _ => rfl
  · exact writePwr_of_quarantine h a v
  · apply applyMateCtrl_frame (hk := h) <;> exact fun _ _ => rfl
  · exact frameE_ok (frame_ite h fun _ => h)
  · apply writeHost_frame (hk := h) <;> exact fun _ _ => rfl
  · apply writeCen_frame (hk := h); exact fun _ _ => rfl
  · apply writePair_frame (hk := h) <;> exact fun _ _ => rfl
  · exact frameE_ok h

theorem settle_of_quarantine {o : Origin} {k : RefKind} {a : Nat} {x : Applied} (hx : FrameE State.mode .quarantine x) :
    (settle o k a s x).mode = .quarantine :=
  settle_frame (π := State.mode) (fun _ _ => rfl) (fun _ _ => rfl) (fun _ _ => rfl) (fun _ _ => rfl) (fun _ _ => rfl)
    (fun _ _ => rfl) o k a s x h hx

theorem pkgWrite_of_quarantine (w : CtlWrite) (v : Word) : FrameR State.mode .quarantine (pkgWrite w v s) :=
  frameR_next (settle_of_quarantine h (applyPkgCtrl_of_quarantine h v))

theorem execControlWordWrite_of_quarantine (o : Origin) (a : BitVec 24) (v : Word) :
    FrameR State.mode .quarantine (execControlWordWrite o a v s) :=
  frameR_next (settle_of_quarantine h (applyWord_of_quarantine h _ _ _ _ _))

/-- A fault lowers the domain and its dependants. -/
theorem execRegulatorFault_of_quarantine (d : Fin 56) : FrameR State.mode .quarantine (execRegulatorFault d s) := by
  have hevt : (cenInc 49 (pwrEvt d.val (domGet s d.val).st 3 5 s)).mode = .quarantine := (cenInc_mode _ _).trans h
  have hmove : ∀ (t : State) c, t.mode = .quarantine → (moveDomain c 3 5 t).mode = .quarantine := fun t c ht => by
    apply moveDomain_frame (π := State.mode) blindDomains_mode (hk := ht)
  unfold execRegulatorFault
  extract_lets e s1 s2
  have h2 : s2.mode = .quarantine :=
    frame_ite (π := State.mode) hevt fun _ => (congrArg State.mode (quarantine_of_quarantine hevt _ _ _)).trans hevt
  exact frameR_next (hmove _ _ (frame_foldl (π := State.mode) h2 hmove))

theorem execTamperTrip_of_quarantine (m : Tamper) : FrameR State.mode .quarantine (execTamperTrip m s) := by
  have hcen : (cenInc (tamperCodes m).2 s).mode = .quarantine := (cenInc_mode _ _).trans h
  refine frameR_next (frame_ite ?_ fun _ => h)
  rw [quarantine_of_quarantine hcen]
  exact hcen

theorem execCpmFailQuarantine_of_quarantine (r : RegionId) : FrameR State.mode .quarantine (execCpmFailQuarantine r s) :=
  frameR_next (frame_ite h fun _ => (congrArg State.mode (quarantine_of_quarantine h _ _ _)).trans h)

/-- The firmware is selected in the first stage of a start-up, and loads a starter in BOOT. -/
theorem execBootFwSelect_of_quarantine (hp : s.phase = .running) : FrameR State.mode .quarantine (execBootFwSelect s) :=
  frameR_next ((congrArg State.mode (if_pos (by simp [hp]))).trans h)
theorem execBootStarterLoad_of_quarantine (a b : Bool) : FrameR State.mode .quarantine (execBootStarterLoad a b s) :=
  frameR_next ((congrArg State.mode (if_pos (by simp [h]))).trans h)

theorem switchLoaf_of_quarantine : (switchLoaf s).mode = .quarantine := by
  unfold switchLoaf
  split
  · exact (congrArg State.mode (if_neg (by simp [h]))).trans h
  · exact h

/-- A loaf that runs from T0 on enters PROVISION from BOOT alone. -/
theorem tickBoundary_of_quarantine (m : Meas) : FrameR State.mode .quarantine (execTickBoundary m s) := by
  obtain ⟨-, -, hturned, -⟩ := tickTurned_spec m s
  have hv := tickBoundary_view m s
  simp only [snapView, t0View, Prod.mk.injEq] at hv
  obtain ⟨⟨-, -, hmode, -⟩, -⟩ := hv
  exact frameR_next (frame_ite h fun _ => hmode.trans (switchLoaf_of_quarantine (hturned.trans h)))

/-! ### The commit window -/

theorem applyEffect_of_quarantine (before : State) (f : Judged) : (applyEffect before s f).mode = .quarantine := by
  obtain ⟨⟨o, op⟩, plan⟩ := f
  cases op with
  | cfgW a v =>
    refine frame_ite (π := State.mode) ?_ fun _ => frame_ite (π := State.mode) h fun _ => ?_
    · exact settle_of_quarantine h (applyWord_of_quarantine h _ _ _ _ _)
    · apply applyTraceSel_frame (π := State.mode) (hk := h) <;> exact fun _ _ => rfl
  | deckW a v => exact settle_of_quarantine h (applyDeckW_frame (fun _ _ => rfl) a v s h)
  | deckSwap dies => apply landSwap_frame (π := State.mode) (hk := h) <;> exact fun _ _ => rfl
  | protReq op p => apply protLand_frame (π := State.mode) (hk := h) <;> exact fun _ _ => rfl
  | ohPut id field word v => apply applyOhPut_frame (π := State.mode) (hk := h) <;> exact fun _ _ => rfl
  | defSet id b => apply applyDef_frame (π := State.mode) (hk := h) <;> exact fun _ _ => rfl
  | defClr id b => apply applyDef_frame (π := State.mode) (hk := h) <;> exact fun _ _ => rfl
  | filtSet k w v =>
    refine settle_of_quarantine h ?_
    apply applyFilt_frame (hk := h) <;> exact fun _ _ => rfl
  | power d st =>
    apply landPower_frame (π := State.mode) blindDomains_mode (hk := h) <;> exact fun _ _ => rfl

theorem applyEffects_of_quarantine (before : State) (l : List Judged) : (applyEffects before l s).mode = .quarantine := by
  have hfold : ∀ (t : State) (l : List Judged), t.mode = .quarantine → (l.foldl (applyEffect before) t).mode = .quarantine :=
    fun t l ht => frame_foldl (π := State.mode) ht fun t f ht => applyEffect_of_quarantine ht before f
  exact frame_foldl (π := State.mode) h fun t rank ht => hfold _ _ (hfold _ _ ht)

theorem windowOpened_of_quarantine : (windowOpened s).mode = .quarantine := by
  unfold windowOpened
  apply sampleAll_frame (π := State.mode)
  case hk =>
    refine clearGot_frame (fun _ _ => rfl) _ (suspendBatch_frame (fun _ _ => rfl) (fun _ _ => rfl) _
      (reachAll_frame (fun _ _ => rfl) (fun _ _ => rfl) _ _ ?_))
    apply overrunAll_frame (hk := h) <;> exact fun _ _ => rfl
  all_goals exact fun _ _ => rfl

theorem windowEnded_of_quarantine : (windowEnded s).mode = .quarantine := by
  have hstaged : (clearStaged (windowOpened s)).mode = .quarantine := by
    apply clearStaged_frame (π := State.mode) (hk := windowOpened_of_quarantine h) <;> exact fun _ _ => rfl
  have happlied : (windowApplied s).mode = .quarantine := applyEffects_of_quarantine hstaged _ _
  have hchecks : (windowChecks (windowApplied s)).mode = .quarantine := by
    apply windowChecks_frame (π := State.mode) (hk := happlied) <;> exact fun _ _ => rfl
  have hrecords : (windowRecorded s).mode = .quarantine := by
    unfold windowRecorded
    apply windowRecords_frame (π := State.mode) (hk := hchecks) <;> exact fun _ _ => rfl
  have hdone : (placeCompletions (windowRecorded s)).mode = .quarantine := by
    apply placeCompletions_frame (π := State.mode) (hk := hrecords) <;> exact fun _ _ => rfl
  refine Eq.trans ?_ hdone
  unfold windowEnded
  apply takeSeal_placementPhase_frame (π := State.mode) <;> exact fun _ _ => rfl

/-! ### Every other command -/

/-- The commands that may end the volatile state of the package. -/
def mayWipe : Instr → Bool
  | .commitWindow | .recGo .. | .domainTransitionDone .. | .dormantWake .. | .vinUvlo .. | .vinPowerOn | .resetLAssert
  | .ovloRestart => true
  | _ => false

/-- No other command changes QUARANTINE: the frame of each that writes no mode, and the operations above. -/
theorem exec_of_quarantine (hp : s.phase = .running) {c : Instr} (hc : mayWipe c = false) :
    FrameR State.mode .quarantine (exec c s) := by
  cases c with
  | commitWindow | recGo | domainTransitionDone | dormantWake | vinUvlo | vinPowerOn | resetLAssert | ovloRestart => cases hc
  | tickBoundary m => exact tickBoundary_of_quarantine h m
  | controlWordWrite o a v => exact execControlWordWrite_of_quarantine h o a v
  | grantInChange l => exact execGrantInChange_of_quarantine h l
  | ilkResample => exact execIlkResample_of_quarantine h
  | takeoverActive l => exact execTakeoverActive_of_quarantine h l
  | releaseToStandby => exact execReleaseToStandby_of_quarantine h
  | modeReqProvision w => exact pkgWrite_of_quarantine h w _
  | modeReqStandby w => exact pkgWrite_of_quarantine h w _
  | modeReqTest w => exact pkgWrite_of_quarantine h w _
  | pkgResetReq w => exact pkgWrite_of_quarantine h w _
  | dormantEntry w => exact pkgWrite_of_quarantine h w _
  | cpmFailQuarantine r => exact execCpmFailQuarantine_of_quarantine h r
  | regulatorFault d => exact execRegulatorFault_of_quarantine h d
  | tamperTrip m => exact execTamperTrip_of_quarantine h m
  | bootFwSelect => exact execBootFwSelect_of_quarantine h hp
  | bootStarterLoad a b => exact execBootStarterLoad_of_quarantine h a b
  | passStart => apply execPassStart_frame (hk := h) <;> exact fun _ _ => rfl
  | passOverrun => apply execPassOverrun_frame (hk := h) <;> exact fun _ _ => rfl
  | tier1DeltaSeal => apply execTier1DeltaSeal_frame (hk := h) <;> exact fun _ _ => rfl
  | healthWordTx => apply execHealthWordTx_frame (hk := h) <;> exact fun _ _ => rfl
  | protReqClear => apply execProtReqClear_frame (hk := h) <;> exact fun _ _ => rfl
  | protReqLo => apply execProtReqLo_frame (hk := h) <;> exact fun _ _ => rfl
  | protReqFs => apply execProtReqFs_frame (hk := h) <;> exact fun _ _ => rfl
  | protReqMsP => apply execProtReqMsP_frame (hk := h) <;> exact fun _ _ => rfl
  | protReqMsW => apply execProtReqMsW_frame (hk := h) <;> exact fun _ _ => rfl
  | protReqExer => apply execProtReqExer_frame (hk := h) <;> exact fun _ _ => rfl
  | protReqWtr => apply execProtReqWtr_frame (hk := h) <;> exact fun _ _ => rfl
  | protReqDnr => apply execProtReqDnr_frame (hk := h) <;> exact fun _ _ => rfl
  | protReqNr => apply execProtReqNr_frame (hk := h) <;> exact fun _ _ => rfl
  | snapInEdge => apply execSnapInEdge_frame (hk := h); exact fun _ _ => rfl
  | snapCapture => apply execSnapCapture_frame (hk := h) <;> exact fun _ _ => rfl
  | storeComplete => apply execStoreComplete_frame (hk := h) <;> exact fun _ _ => rfl
  | cqBaseWrite => apply execCqBaseWrite_frame (hk := h) <;> exact fun _ _ => rfl
  | cqTail => apply execCqTail_frame (hk := h) <;> exact fun _ _ => rfl
  | commandFetch => apply execCommandFetch_frame (hk := h) <;> exact fun _ _ => rfl
  | cqBatch => apply execCqBatch_frame (hk := h) <;> exact fun _ _ => rfl
  | cqOpen => apply execCqOpen_frame (hk := h) <;> exact fun _ _ => rfl
  | cqProof => apply execCqProof_frame (hk := h) <;> exact fun _ _ => rfl
  | proofTimeout => apply execProofTimeout_frame (hk := h) <;> exact fun _ _ => rfl
  | batchStart => apply execBatchStart_frame (hk := h) <;> exact fun _ _ => rfl
  | hrHead => apply execHrHead_frame (hk := h) <;> exact fun _ _ => rfl
  | hqCredit => apply execHqCredit_frame (hk := h) <;> exact fun _ _ => rfl
  | hostRingWrite => apply execHostRingWrite_frame (hk := h) <;> exact fun _ _ => rfl
  | hrCoalTimeout => apply execHrCoalTimeout_frame (hk := h) <;> exact fun _ _ => rfl
  | intClr => apply execIntClr_frame (hk := h) <;> exact fun _ _ => rfl
  | bar0Violation => apply execBar0Violation_frame (hk := h) <;> exact fun _ _ => rfl
  | hostCtxCreate => apply execHostCtxCreate_frame (hk := h) <;> exact fun _ _ => rfl
  | hostCtxDelete => apply execHostCtxDelete_frame (hk := h) <;> exact fun _ _ => rfl
  | hostCtxSetKind => apply execHostCtxSetKind_frame (hk := h) <;> exact fun _ _ => rfl
  | hostCtxSetPin => apply execHostCtxSetPin_frame (hk := h) <;> exact fun _ _ => rfl
  | hostCtxClearPin => apply execHostCtxClearPin_frame (hk := h) <;> exact fun _ _ => rfl
  | laneCfg => apply execLaneCfg_frame (hk := h) <;> exact fun _ _ => rfl
  | vcoCalDone => apply execVcoCalDone_frame (hk := h) <;> exact fun _ _ => rfl
  | lanePllLock => apply execLanePllLock_frame (hk := h); exact fun _ _ => rfl
  | laneCdrLock => apply execLaneCdrLock_frame (hk := h); exact fun _ _ => rfl
  | laneAdaptDone => apply execLaneAdaptDone_frame (hk := h) <;> exact fun _ _ => rfl
  | laneDown => apply execLaneDown_frame (hk := h) <;> exact fun _ _ => rfl
  | fecCfg => apply execFecCfg_frame (hk := h) <;> exact fun _ _ => rfl
  | fecCntClr => apply execFecCntClr_frame (hk := h); exact fun _ _ => rfl
  | laneEqCtrl => apply execLaneEqCtrl_frame (hk := h) <;> exact fun _ _ => rfl
  | laneTxFfe => apply execLaneTxFfe_frame (hk := h) <;> exact fun _ _ => rfl
  | eqFenceHit => apply execEqFenceHit_frame (hk := h) <;> exact fun _ _ => rfl
  | eqMarginLow => apply execEqMarginLow_frame (hk := h) <;> exact fun _ _ => rfl
  | linkTrainDone => apply execLinkTrainDone_frame (hk := h); exact fun _ _ => rfl
  | linkTrainFail => apply execLinkTrainFail_frame (hk := h) <;> exact fun _ _ => rfl
  | prbsGenEn => apply execPrbsGenEn_frame (hk := h) <;> exact fun _ _ => rfl
  | prbsChkEn => apply execPrbsChkEn_frame (hk := h) <;> exact fun _ _ => rfl
  | prbsErrInj => apply execPrbsErrInj_frame (hk := h) <;> exact fun _ _ => rfl
  | prbsLock => apply execPrbsLock_frame (hk := h) <;> exact fun _ _ => rfl
  | prbsLockLoss => apply execPrbsLockLoss_frame (hk := h) <;> exact fun _ _ => rfl
  | laneLpbk => apply execLaneLpbk_frame (hk := h) <;> exact fun _ _ => rfl
  | clkRefCtrl => apply execClkRefCtrl_frame (hk := h) <;> exact fun _ _ => rfl
  | refclkLoss => apply execRefclkLoss_frame (hk := h) <;> exact fun _ _ => rfl
  | refclkRequalify => apply execRefclkRequalify_frame (hk := h) <;> exact fun _ _ => rfl
  | frmCfg => apply execFrmCfg_frame (hk := h) <;> exact fun _ _ => rfl
  | frmThr => apply execFrmThr_frame (hk := h) <;> exact fun _ _ => rfl
  | frmTime => apply execFrmTime_frame (hk := h) <;> exact fun _ _ => rfl
  | frmCntClr => apply execFrmCntClr_frame (hk := h); exact fun _ _ => rfl
  | candidateOpen => apply execCandidateOpen_frame (hk := h) <;> exact fun _ _ => rfl
  | candidateCheck => apply execCandidateCheck_frame (hk := h) <;> exact fun _ _ => rfl
  | framerWindowEnd => apply execFramerWindowEnd_frame (hk := h) <;> exact fun _ _ => rfl
  | oofDeclare => apply execOofDeclare_frame (hk := h) <;> exact fun _ _ => rfl
  | mfOom => apply execMfOom_frame (hk := h); exact fun _ _ => rfl
  | mfIm => apply execMfIm_frame (hk := h); exact fun _ _ => rfl
  | lofSet => apply execLofSet_frame (hk := h) <;> exact fun _ _ => rfl
  | lofClr => apply execLofClr_frame (hk := h) <;> exact fun _ _ => rfl
  | lomSet => apply execLomSet_frame (hk := h) <;> exact fun _ _ => rfl
  | lomClr => apply execLomClr_frame (hk := h) <;> exact fun _ _ => rfl
  | lolChange => apply execLolChange_frame (hk := h) <;> exact fun _ _ => rfl
  | frameReceive => apply execFrameReceive_frame (hk := h) <;> exact fun _ _ => rfl
  | filterOccurrence => apply execFilterOccurrence_frame (hk := h) <;> exact fun _ _ => rfl
  | filterUnstable => apply execFilterUnstable_frame (hk := h) <;> exact fun _ _ => rfl
  | fcCfg => apply execFcCfg_frame (hk := h) <;> exact fun _ _ => rfl
  | ohPmSet => apply execOhPmSet_frame (hk := h) <;> exact fun _ _ => rfl
  | ohErrClear => apply execOhErrClear_frame (hk := h); exact fun _ _ => rfl
  | losDeclare => apply execLosDeclare_frame (hk := h) <;> exact fun _ _ => rfl
  | losClear => apply execLosClear_frame (hk := h) <;> exact fun _ _ => rfl
  | defectDeclare => apply execDefectDeclare_frame (hk := h) <;> exact fun _ _ => rfl
  | defectClear => apply execDefectClear_frame (hk := h) <;> exact fun _ _ => rfl
  | consequentActionStart => apply execConsequentActionStart_frame (hk := h); exact fun _ _ => rfl
  | consequentActionEnd => apply execConsequentActionEnd_frame (hk := h); exact fun _ _ => rfl
  | mapCfg => apply execMapCfg_frame (hk := h) <;> exact fun _ _ => rfl
  | mapPortStart => apply execMapPortStart_frame (hk := h) <;> exact fun _ _ => rfl
  | mapTxRun => apply execMapTxRun_frame (hk := h) <;> exact fun _ _ => rfl
  | mapRxRun => apply execMapRxRun_frame (hk := h) <;> exact fun _ _ => rfl
  | mapCntClr => apply execMapCntClr_frame (hk := h); exact fun _ _ => rfl
  | clientReplacementStart => apply execClientReplacementStart_frame (hk := h); exact fun _ _ => rfl
  | clientReplacementEnd => apply execClientReplacementEnd_frame (hk := h); exact fun _ _ => rfl
  | gfpCsfSend => apply execGfpCsfSend_frame (hk := h); exact fun _ _ => rfl
  | csfRxTimeout => apply execCsfRxTimeout_frame (hk := h); exact fun _ _ => rfl
  | shimCalReq => apply execShimCalReq_frame (hk := h) <;> exact fun _ _ => rfl
  | flexeCalSwitch => apply execFlexeCalSwitch_frame (hk := h); exact fun _ _ => rfl
  | flexeCalTimeout => apply execFlexeCalTimeout_frame (hk := h) <;> exact fun _ _ => rfl
  | chanFrameRx => apply execChanFrameRx_frame (hk := h) <;> exact fun _ _ => rfl
  | chanFrameTx => apply execChanFrameTx_frame (hk := h) <;> exact fun _ _ => rfl
  | pauseMsgSend => apply execPauseMsgSend_frame (hk := h) <;> exact fun _ _ => rfl
  | gfpFrameRx => apply execGfpFrameRx_frame (hk := h); exact fun _ _ => rfl
  | gfpFrameStart => apply execGfpFrameStart_frame (hk := h) <;> exact fun _ _ => rfl
  | gfpUnderrun => apply execGfpUnderrun_frame (hk := h) <;> exact fun _ _ => rfl
  | cqCtrl => apply execCqCtrl_frame (hk := h) <;> exact fun _ _ => rfl
  | clientQueueFlush => apply execClientQueueFlush_frame (hk := h) <;> exact fun _ _ => rfl
  | queueAppend => apply execQueueAppend_frame (hk := h) <;> exact fun _ _ => rfl
  | queueWmWrite => apply execQueueWmWrite_frame (hk := h) <;> exact fun _ _ => rfl
  | hqCfg => apply execHqCfg_frame (hk := h) <;> exact fun _ _ => rfl
  | hostQueueFlush => apply execHostQueueFlush_frame (hk := h) <;> exact fun _ _ => rfl
  | deckOutputChange => apply execDeckOutputChange_frame (hk := h) <;> exact fun _ _ => rfl
  | deckSwapTimeout => apply execDeckSwapTimeout_frame (hk := h) <;> exact fun _ _ => rfl
  | deckCopyDone => apply execDeckCopyDone_frame (hk := h) <;> exact fun _ _ => rfl
  | deckPrbsGen => apply execDeckPrbsGen_frame (hk := h) <;> exact fun _ _ => rfl
  | deckPrbsChk => apply execDeckPrbsChk_frame (hk := h) <;> exact fun _ _ => rfl
  | fineBlk => apply execFineBlk_frame (hk := h) <;> exact fun _ _ => rfl
  | rszGo => apply execRszGo_frame (hk := h) <;> exact fun _ _ => rfl
  | rszAbortCmd => apply execRszAbortCmd_frame (hk := h) <;> exact fun _ _ => rfl
  | rszHandshakeAck => apply execRszHandshakeAck_frame (hk := h); exact fun _ _ => rfl
  | rszHandshakeTimeout => apply execRszHandshakeTimeout_frame (hk := h) <;> exact fun _ _ => rfl
  | rszRampEnd => apply execRszRampEnd_frame (hk := h) <;> exact fun _ _ => rfl
  | rszCfgDisable => apply execRszCfgDisable_frame (hk := h) <;> exact fun _ _ => rfl
  | grpCfg => apply execGrpCfg_frame (hk := h) <;> exact fun _ _ => rfl
  | hlCfg => apply execHlCfg_frame (hk := h) <;> exact fun _ _ => rfl
  | hlRecentre => apply execHlRecentre_frame (hk := h) <;> exact fun _ _ => rfl
  | hlCntClr => apply execHlCntClr_frame (hk := h); exact fun _ _ => rfl
  | prfCtrl => apply execPrfCtrl_frame (hk := h) <;> exact fun _ _ => rfl
  | ringStart => apply execRingStart_frame (hk := h); exact fun _ _ => rfl
  | ringLineRead => apply execRingLineRead_frame (hk := h) <;> exact fun _ _ => rfl
  | ringBreak => apply execRingBreak_frame (hk := h) <;> exact fun _ _ => rfl
  | hlAlignAttempt => apply execHlAlignAttempt_frame (hk := h) <;> exact fun _ _ => rfl
  | hlAlignConfirm => apply execHlAlignConfirm_frame (hk := h) <;> exact fun _ _ => rfl
  | hlSearchRange => apply execHlSearchRange_frame (hk := h) <;> exact fun _ _ => rfl
  | hlMisalign => apply execHlMisalign_frame (hk := h) <;> exact fun _ _ => rfl
  | hlSlackEval => apply execHlSlackEval_frame (hk := h) <;> exact fun _ _ => rfl
  | mlomDeclare => apply execMlomDeclare_frame (hk := h); exact fun _ _ => rfl
  | mlomClear => apply execMlomClear_frame (hk := h); exact fun _ _ => rfl
  | groupReaderPlace => apply execGroupReaderPlace_frame (hk := h); exact fun _ _ => rfl
  | groupRetime => apply execGroupRetime_frame (hk := h) <;> exact fun _ _ => rfl
  | loaChange => apply execLoaChange_frame (hk := h) <;> exact fun _ _ => rfl
  | lcasPacketRx => apply execLcasPacketRx_frame (hk := h) <;> exact fun _ _ => rfl
  | lcasPayloadChange => apply execLcasPayloadChange_frame (hk := h); exact fun _ _ => rfl
  | lcasTxChange => apply execLcasTxChange_frame (hk := h); exact fun _ _ => rfl
  | prtCfg => apply execPrtCfg_frame (hk := h) <;> exact fun _ _ => rfl
  | prtCntClr => apply execPrtCntClr_frame (hk := h); exact fun _ _ => rfl
  | holdoffStart => apply execHoldoffStart_frame (hk := h) <;> exact fun _ _ => rfl
  | holdoffExpire => apply execHoldoffExpire_frame (hk := h); exact fun _ _ => rfl
  | protFastpathEval => apply execProtFastpathEval_frame (hk := h) <;> exact fun _ _ => rfl
  | wtrExpire => apply execWtrExpire_frame (hk := h); exact fun _ _ => rfl
  | hlWaitExpire => apply execHlWaitExpire_frame (hk := h) <;> exact fun _ _ => rfl
  | fopNrDeclare => apply execFopNrDeclare_frame (hk := h) <;> exact fun _ _ => rfl
  | protHoldEnd => apply execProtHoldEnd_frame (hk := h) <;> exact fun _ _ => rfl
  | grantPulseReject => apply execGrantPulseReject_frame (hk := h) <;> exact fun _ _ => rfl
  | ilkInChange => apply execIlkInChange_frame (hk := h) <;> exact fun _ _ => rfl
  | ilkBlockedRetry => apply execIlkBlockedRetry_frame (hk := h); exact fun _ _ => rfl
  | roleConflictDeclare => apply execRoleConflictDeclare_frame (hk := h) <;> exact fun _ _ => rfl
  | roleConflictClear => apply execRoleConflictClear_frame (hk := h) <;> exact fun _ _ => rfl
  | starterApply => apply execStarterApply_frame (hk := h) <;> exact fun _ _ => rfl
  | polfenLock => apply execPolfenLock_frame (hk := h) <;> exact fun _ _ => rfl
  | polfenLockLoss => apply execPolfenLockLoss_frame (hk := h) <;> exact fun _ _ => rfl
  | polfenHello => apply execPolfenHello_frame (hk := h) <;> exact fun _ _ => rfl
  | polfenFrameRx => apply execPolfenFrameRx_frame (hk := h) <;> exact fun _ _ => rfl
  | polfenRetxTimeout => apply execPolfenRetxTimeout_frame (hk := h); exact fun _ _ => rfl
  | polfenHoldExpire => apply execPolfenHoldExpire_frame (hk := h); exact fun _ _ => rfl
  | polfenRekey => apply execPolfenRekey_frame (hk := h) <;> exact fun _ _ => rfl
  | polfenFrameTx => apply execPolfenFrameTx_frame (hk := h) <;> exact fun _ _ => rfl
  | statusMsgRx => apply execStatusMsgRx_frame (hk := h) <;> exact fun _ _ => rfl
  | tier1MsgRx => apply execTier1MsgRx_frame (hk := h) <;> exact fun _ _ => rfl
  | tier2MsgRx => apply execTier2MsgRx_frame (hk := h) <;> exact fun _ _ => rfl
  | resyncReqRx => apply execResyncReqRx_frame (hk := h) <;> exact fun _ _ => rfl
  | sweepStart => apply execSweepStart_frame (hk := h) <;> exact fun _ _ => rfl
  | sweepMsgRx => apply execSweepMsgRx_frame (hk := h) <;> exact fun _ _ => rfl
  | sweepComplete => apply execSweepComplete_frame (hk := h) <;> exact fun _ _ => rfl
  | mateMsgRx => apply execMateMsgRx_frame (hk := h); exact fun _ _ => rfl
  | mateLinkEn => apply execMateLinkEn_frame (hk := h) <;> exact fun _ _ => rfl
  | mateRestart => apply execMateRestart_frame (hk := h) <;> exact fun _ _ => rfl
  | mateResync => apply execMateResync_frame (hk := h) <;> exact fun _ _ => rfl
  | mateYield => apply execMateYield_frame (hk := h) <;> exact fun _ _ => rfl
  | mateConfirm => apply execMateConfirm_frame (hk := h) <;> exact fun _ _ => rfl
  | mateCntClr => apply execMateCntClr_frame (hk := h); exact fun _ _ => rfl
  | mateQueueFlush => apply execMateQueueFlush_frame (hk := h) <;> exact fun _ _ => rfl
  | selftestBurstStart => apply execSelftestBurstStart_frame blindDomains_mode (hk := h); exact fun _ _ => rfl
  | selftestBurstEnd => apply execSelftestBurstEnd_frame blindDomains_mode (hk := h) <;> exact fun _ _ => rfl
  | syncEdge => apply execSyncEdge_frame (hk := h) <;> exact fun _ _ => rfl
  | syncLoss => apply execSyncLoss_frame (hk := h) <;> exact fun _ _ => rfl
  | syncRequalify => apply execSyncRequalify_frame (hk := h) <;> exact fun _ _ => rfl
  | dpllSlewDone => apply execDpllSlewDone_frame (hk := h); exact fun _ _ => rfl
  | clkSyncCtrl => apply execClkSyncCtrl_frame (hk := h) <;> exact fun _ _ => rfl
  | recClkCfg => apply execRecClkCfg_frame (hk := h) <;> exact fun _ _ => rfl
  | recClkSquelch => apply execRecClkSquelch_frame (hk := h); exact fun _ _ => rfl
  | recClkResume => apply execRecClkResume_frame (hk := h); exact fun _ _ => rfl
  | audCfg => apply execAudCfg_frame (hk := h) <;> exact fun _ _ => rfl
  | owCfg => apply execOwCfg_frame (hk := h) <;> exact fun _ _ => rfl
  | audChangeLand => apply execAudChangeLand_frame (hk := h); exact fun _ _ => rfl
  | audChangeTimeout => apply execAudChangeTimeout_frame (hk := h) <;> exact fun _ _ => rfl
  | audSlip => apply execAudSlip_frame (hk := h) <;> exact fun _ _ => rfl
  | audForcedSlip => apply execAudForcedSlip_frame (hk := h) <;> exact fun _ _ => rfl
  | audPortFreeze => apply execAudPortFreeze_frame (hk := h) <;> exact fun _ _ => rfl
  | audPortResume => apply execAudPortResume_frame (hk := h) <;> exact fun _ _ => rfl
  | audMuteLift => apply execAudMuteLift_frame (hk := h) <;> exact fun _ _ => rfl
  | audSample => apply execAudSample_frame (hk := h) <;> exact fun _ _ => rfl
  | audCntClear => apply execAudCntClear_frame (hk := h); exact fun _ _ => rfl
  | pwrDomReq => apply execPwrDomReq_frame blindDomains_mode (hk := h) <;> exact fun _ _ => rfl
  | vloopCtrl => apply execVloopCtrl_frame (hk := h) <;> exact fun _ _ => rfl
  | vloopStep => apply execVloopStep_frame (hk := h) <;> exact fun _ _ => rfl
  | placeCtrl => apply execPlaceCtrl_frame (hk := h) <;> exact fun _ _ => rfl
  | tempAlarm => apply execTempAlarm_frame (hk := h) <;> exact fun _ _ => rfl
  | cenClr => apply execCenClr_frame (hk := h); exact fun _ _ => rfl
  | pcCounterWrite => apply execPcCounterWrite_frame (hk := h); exact fun _ _ => rfl
  | resetRelease => apply execResetRelease_frame (hk := h) <;> exact fun _ _ => rfl
  | pufKeysDerived => apply execPufKeysDerived_frame (hk := h); exact fun _ _ => rfl
  | fwStart => apply execFwStart_frame (hk := h); exact fun _ _ => rfl
  | perstLAssert => apply execPerstLAssert_frame (hk := h) <;> exact fun _ _ => rfl
  | guestAddr => apply execGuestAddr_frame (hk := h) <;> exact fun _ _ => rfl
  | guestAttNonce => apply execGuestAttNonce_frame (hk := h) <;> exact fun _ _ => rfl
  | guestAttStat => apply execGuestAttStat_frame (hk := h) <;> exact fun _ _ => rfl
  | guestAttOff => apply execGuestAttOff_frame (hk := h) <;> exact fun _ _ => rfl
  | guestSclTimeout => apply execGuestSclTimeout_frame (hk := h); exact fun _ _ => rfl
  | extest => apply execExtest_frame (hk := h) <;> exact fun _ _ => rfl
  | samplePreload => apply execSamplePreload_frame (hk := h) <;> exact fun _ _ => rfl
  | extestPulse => apply execExtestPulse_frame (hk := h) <;> exact fun _ _ => rfl
  | extestTrain => apply execExtestTrain_frame (hk := h) <;> exact fun _ _ => rfl
  | dbgNonce => apply execDbgNonce_frame (hk := h) <;> exact fun _ _ => rfl
  | dbgToken => apply execDbgToken_frame blindDomains_mode (hk := h) <;> exact fun _ _ => rfl
  | dbgCfg => apply execDbgCfg_frame (hk := h) <;> exact fun _ _ => rfl
  | dbgTrace => apply execDbgTrace_frame (hk := h) <;> exact fun _ _ => rfl
  | traceSel => apply execTraceSel_frame (hk := h) <;> exact fun _ _ => rfl
  | bypass => apply execBypass_frame (hk := h) <;> exact fun _ _ => rfl
  | pcsAlignStatus => apply execPcsAlignStatus_frame (hk := h) <;> exact fun _ _ => rfl
  | perstLRelease => apply execPerstLRelease_frame (hk := h); exact fun _ _ => rfl
  | loafLoadComplete => apply execLoafLoadComplete_frame (hk := h) <;> exact fun _ _ => rfl
  | attestComplete => apply execAttestComplete_frame (hk := h) <;> exact fun _ _ => rfl
  | pcieLinkRetrain => apply execPcieLinkRetrain_frame (hk := h) <;> exact fun _ _ => rfl
  | pcieError => apply execPcieError_frame (hk := h) <;> exact fun _ _ => rfl
  -- What is left are the engine instructions, which keep every role.
  | _ => exact fun t ht => (roles_eq_iff.1 (exec_roles rfl t ht)).1.trans h
end Held

/-- A package that begins a reset or loses its power is in the mode of a reset package. -/
theorem wipe_mode (ph : Phase) (kept : Bool) (s : State) : (wipe ph kept s).mode = .sealed ∧ (wipe ph kept s).phase = ph :=
  ⟨rfl, rfl⟩

/-- Settles O60: each command that may end the volatile state by what it needs, every other one by what it leaves. -/
theorem quarantineIsLeftOnlyThroughReset : Obligations.QuarantineIsLeftOnlyThroughReset := by
  unfold Obligations.QuarantineIsLeftOnlyThroughReset
  intro c s t hp h ht
  by_cases hc : mayWipe c = false
  · exact .inl (exec_of_quarantine h hp hc t ht)
  cases c with
  | commitWindow =>
    rw [commitWindow_next (by simp [powered, hp]), commitWindow_eq] at ht
    cases ht
    split
    · exact .inr ⟨.inl rfl, rfl⟩
    · exact .inl (windowEnded_of_quarantine h)
  | recGo a im ok =>
    rw [exec_recGo, execRecGo] at ht
    cases ht
    split
    · exact .inl h
    split
    · refine .inl ?_
      apply bar0Violation_frame (π := State.mode) (hk := h) <;> exact fun _ _ => rfl
    dsimp only
    split
    · exact .inr ⟨.inl rfl, rfl⟩
    · exact .inl ((cenInc_mode _ _).trans h)
  | domainTransitionDone d =>
    rw [exec_domainTransitionDone, execDomainTransitionDone] at ht
    cases ht
    have hphase : (landDomain d.val s).phase = .running := by
      apply landDomain_frame (π := State.phase) (by constructor <;> exact fun _ _ => rfl) (hk := hp) <;> exact fun _ _ => rfl
    have hmode : (landDomain d.val s).mode = .quarantine := by
      apply landDomain_frame (π := State.mode) blindDomains_mode (hk := h) <;> exact fun _ _ => rfl
    rw [if_neg (by simp [hphase])]
    exact .inl hmode
  | dormantWake g =>
    rw [exec_dormantWake, execDormantWake, if_neg (by simp [hp])] at ht
    cases ht
    exact .inl h
  | vinUvlo x =>
    rw [exec_vinUvlo, execVinUvlo, if_neg (by simp [hp])] at ht
    cases ht
    exact .inr ⟨.inr rfl, rfl⟩
  | vinPowerOn =>
    rw [exec_vinPowerOn, execVinPowerOn, if_neg (by simp [hp])] at ht
    cases ht
    exact .inl h
  | resetLAssert =>
    rw [exec_resetLAssert, execResetLAssert, if_neg (by simp [hp])] at ht
    cases ht
    exact .inr ⟨.inl rfl, rfl⟩
  | ovloRestart =>
    rw [exec_ovloRestart, execOvloRestart, if_neg (by simp [hp])] at ht
    cases ht
    exact .inl h
  | _ => exact absurd rfl hc

end Sys2Proof.Machine
end

section
/-! PROOFS. Modes: what a change of mode leaves, its record, and the census counts beside it. -/

namespace Sys2Proof.Machine

/-! ### Counts and records -/

/-- A census counter below CEN56 is one control word. -/
theorem cenInc_work {n : Nat} {s : State} (hn : n < 56) (hs : tabWf cwReset s.cw = true) :
    CwWork [ctlAddr clsCen 0 n] s (cenInc n s) := by
  have hcount : CwWork [ctlAddr clsCen 0 n] s (cwCount (ctlAddr clsCen 0 n) 1 s) := (CwWork.refl hs).cwSet _ (by simp)
  unfold cenInc
  dsimp only
  rw [if_neg (show ¬ n ≥ 56 by omega)]
  split
  · exact hcount
  · exact .refl hs

/-- Work on control words alone, as a new table of them. -/
theorem CwWork.exists_cw {as : List Nat} {s t : State} (h : CwWork as s t) : ∃ c, t = s.putCw c ∧
    ∀ a, a ∉ as → tabGet (cwReset a) c a = tabGet (cwReset a) s.cw a :=
  ⟨t.cw, h.rest, h.words⟩

theorem ne_cen_of_class {a n : Nat} (ha : a / 2 ^ 18 ≠ clsCen) (hn : n < 4096) : a ≠ ctlAddr clsCen 0 n :=
  ne_of_class (by rw [ctlAddr_div (by decide) hn]; exact ha)

/-- A bit that is set stays set as another is set. -/
theorem intSet_testBit (i j : Nat) (s : State) : (intSet i s).intPend.testBit j = (decide (j = i) || s.intPend.testBit j) := by
  have hpend : (intSet i s).intPend = if s.intPend.testBit i then s.intPend else s.intPend ||| 2 ^ i := by
    unfold intSet
    split
    · rfl
    · dsimp only
      split <;> rfl
  rw [hpend]
  by_cases hij : j = i
  · subst hij
    split
    next h => simp [h]
    next => simp [Nat.testBit_or, Nat.testBit_two_pow_self]
  · split
    · simp [hij]
    · rw [Nat.testBit_or, Nat.testBit_two_pow_of_ne (Ne.symm hij)]
      simp [hij]

/-- The fields that a bit of INT_PEND writes. -/
theorem intSet_eq (i : Nat) (s : State) : intSet i s =
    { s with intPend := (intSet i s).intPend, msixPba := (intSet i s).msixPba, out := (intSet i s).out } := by
  unfold intSet
  split
  · rfl
  · dsimp only
    split <;> rfl

/-- A bit set, as new values of the fields it writes. -/
theorem intSet_exists (i : Nat) (s : State) : ∃ p m o, intSet i s = { s with intPend := p, msixPba := m, out := o } ∧
    p.testBit i = true :=
  ⟨(intSet i s).intPend, (intSet i s).msixPba, (intSet i s).out, intSet_eq i s, by rw [intSet_testBit]; simp⟩

/-- A count in the census and a bit of INT_PEND, as new values of the fields they write. -/
theorem intSet_cenInc_exists (i : Nat) {n : Nat} {s : State} (hn : n < 56) (hs : tabWf cwReset s.cw = true) :
    ∃ c p m o, intSet i (cenInc n s) = { s with cw := c, intPend := p, msixPba := m, out := o } ∧ p.testBit i = true ∧
      ∀ a, a ∉ [ctlAddr clsCen 0 n] → tabGet (cwReset a) c a = tabGet (cwReset a) s.cw a := by
  obtain ⟨c, hc, hwords⟩ := (cenInc_work hn hs).exists_cw
  obtain ⟨p, m, o, hi, hbit⟩ := intSet_exists i (cenInc n s)
  exact ⟨c, p, m, o, by rw [hi, hc]; rfl, hbit, hwords⟩

/-! ### A change of mode (R528) -/

/-- The episode counters start again as a mode in which they run is entered. -/
def episodeCleared (new : Mode) (s : State) : State :=
  if runningMode new && !runningMode s.mode && cwFld s (ctlAddr clsCen 0 0x84) 34 34 == 1 then clearEpisode s else s

/-- Entries to BOOT and TAKEOVER are counted. -/
def entryCounted (new : Mode) (s : State) : State :=
  if new = .boot then cenInc 0 s else if new = .takeover then cenInc 8 s else s

/-- A self-test burst ends as STANDBY is left. -/
def standbyLeft (new old : Mode) (s : State) : State := if old = .standby then dropBurst (new == .takeover) s else s

/-- The rotation of self-tests starts again as STANDBY is entered. -/
def standbyEntered (new : Mode) (s : State) : State :=
  if new = .standby then s.putTest { failed := s.test.failed } else s

/-- The machine in its new mode, before the change is recorded. -/
def modeTaken (new : Mode) (cause : Nat) (s : State) : State :=
  standbyEntered new (standbyLeft new s.mode (entryCounted new (((episodeCleared new s).putMode new).putModeCause cause)))

/-- What follows the record of a new mode. -/
def modeSettled (new old : Mode) (s : State) : State :=
  let s := if new = .takeover || (new = .standby && old ≠ .takeover && old ≠ .active) then clearTests s else s
  let s := if new = .active then recheckReqs s else s
  retarget (if new = .takeover then 3 else 2) (fun _ => true) s

/-- The record of a change of mode (Table 16-10). -/
def modeRecord (s : State) (new : Mode) (cause : Nat) : Due :=
  { q := fld (cwGet s pkgCtrlAddr) 30 28, ty := 0x23,
    ws := [mkWord [(33, modeCode s.mode), (30, modeCode new), (26, cause), (22, s.sec.qcause), (21, b2n s.rdn.provisional)],
      s.tick] }

theorem setMode_eq {new : Mode} {s : State} (cause : Nat) (h : s.mode ≠ new) (hq : new ≠ .quarantine) :
    setMode new cause s =
      let u := modeTaken new cause s
      modeSettled new s.mode (intSet 20 (dueRecord (pwrHq u) 0x23 [modeEvtWord u (modeCode s.mode) (modeCode new) cause, u.tick] u)) := by
  unfold setMode
  rw [if_neg h]
  dsimp only
  rw [if_neg hq]
  rfl

/-- All but what counting and the end of a self-test burst may write. -/
def hideTaken (s : State) : State := { s with cw := [], doms := [], intPend := 0, msixPba := 0, out := [], test := {} }

theorem hideTaken_cenInc (n : Nat) (s : State) : hideTaken (cenInc n s) = hideTaken s := by
  apply cenInc_frame (π := hideTaken) (hk := rfl) <;> exact fun _ _ => rfl

theorem hideTaken_episodeCleared (new : Mode) (cause : Nat) (s : State) :
    hideTaken (((episodeCleared new s).putMode new).putModeCause cause) = hideTaken ((s.putMode new).putModeCause cause) := by
  unfold episodeCleared
  split
  · exact clearEpisode_frame (π := fun t => hideTaken ((t.putMode new).putModeCause cause)) (fun _ _ => rfl) s rfl
  · rfl

theorem hideTaken_entryCounted (new : Mode) (s : State) : hideTaken (entryCounted new s) = hideTaken s := by
  unfold entryCounted
  split
  · exact hideTaken_cenInc 0 s
  split
  · exact hideTaken_cenInc 8 s
  · rfl

theorem hideTaken_standbyLeft (new old : Mode) (s : State) : hideTaken (standbyLeft new old s) = hideTaken s := by
  unfold standbyLeft
  split
  · apply dropBurst_frame (π := hideTaken) (hk := rfl) <;> exact fun _ _ => rfl
  · rfl

theorem hideTaken_standbyEntered (new : Mode) (s : State) : hideTaken (standbyEntered new s) = hideTaken s := by
  unfold standbyEntered
  split <;> rfl

theorem modeTaken_hide (new : Mode) (cause : Nat) (s : State) :
    hideTaken (modeTaken new cause s) = hideTaken ((s.putMode new).putModeCause cause) := by
  rw [modeTaken, hideTaken_standbyEntered, hideTaken_standbyLeft, hideTaken_entryCounted, hideTaken_episodeCleared]

/-! ### Control words while a mode changes -/

section Words
variable {a : Nat} (ha : a / 2 ^ 18 ≠ clsCen)
include ha

theorem cwGet_cenInc_of_class {n : Nat} (hn : n < 4096) (s : State) : cwGet (cenInc n s) a = cwGet s a :=
  cwGet_cenInc_ne (ne_cen_of_class ha hn)

theorem cwGet_clearEpisode (s : State) : cwGet (clearEpisode s) a = cwGet s a := by
  have hwords : ∀ (l : List Nat) t, (∀ n ∈ l, n < 56) →
      cwGet (l.foldl (fun s n => if cenStanding n then s else cwSet (ctlAddr clsCen 0 n) 0 s) t) a = cwGet t a := by
    intro l
    induction l with
    | nil => exact fun _ _ => rfl
    | cons n l ih =>
      intro t hl
      rw [List.foldl_cons, ih _ fun m hm => hl m (List.mem_cons_of_mem n hm)]
      split
      · rfl
      · exact cwGet_cwSet_ne (ne_cen_of_class ha (by have := hl n List.mem_cons_self; omega))
  exact hwords _ s fun n hn => List.mem_range.1 hn

theorem cwGet_dropBurst (b : Bool) (s : State) : cwGet (dropBurst b s) a = cwGet s a := by
  have hdoms : ∀ (l : List Nat) t, (l.foldl (fun s d => domPut d { domGet s d with burst := false } s) t).cw = t.cw :=
    fun l t => frame_foldl (π := State.cw) rfl fun t _ ht => ht
  unfold dropBurst
  split
  · rfl
  next =>
    extract_lets s1 src s2
    have hs2 : s2.cw = s.cw := hdoms _ s
    split
    · rw [cwGet_cenInc_of_class ha (by decide)]
      exact cwGet_congr hs2 a
    · exact cwGet_congr hs2 a

theorem cwGet_entryCounted (new : Mode) (s : State) : cwGet (entryCounted new s) a = cwGet s a := by
  unfold entryCounted
  split
  · exact cwGet_cenInc_of_class ha (by decide) s
  split
  · exact cwGet_cenInc_of_class ha (by decide) s
  · rfl

/-- A change of mode counts in the census alone. -/
theorem cwGet_modeTaken (new : Mode) (cause : Nat) (s : State) : cwGet (modeTaken new cause s) a = cwGet s a := by
  have hin : ∀ t, cwGet (standbyEntered new t) a = cwGet t a := fun t => by
    unfold standbyEntered
    split <;> rfl
  have hout : ∀ old t, cwGet (standbyLeft new old t) a = cwGet t a := fun old t => by
    unfold standbyLeft
    split
    · exact cwGet_dropBurst ha _ t
    · rfl
  have hput : ∀ t : State, cwGet ((t.putMode new).putModeCause cause) a = cwGet t a := fun _ => rfl
  rw [modeTaken, hin, hout, cwGet_entryCounted ha, hput, episodeCleared]
  split
  · exact cwGet_clearEpisode ha s
  · rfl
end Words

/-! ### The record of a change -/

/-- The state, before what follows, in which a change of mode is recorded. -/
def modeRecorded (new : Mode) (cause : Nat) (s : State) : State :=
  let u := modeTaken new cause s
  intSet 20 (dueRecord (pwrHq u) 0x23 [modeEvtWord u (modeCode s.mode) (modeCode new) cause, u.tick] u)

theorem modeRecorded_spec (new : Mode) (cause : Nat) (s : State) :
    let t := modeRecorded new cause s
    t.mode = new ∧ t.modeCause = cause ∧ t.due = s.due ++ [modeRecord s new cause] ∧ t.intPend.testBit 20 = true := by
  intro t
  have hu := modeTaken_hide new cause s
  have hword : cwGet (modeTaken new cause s) pkgCtrlAddr = cwGet s pkgCtrlAddr := cwGet_modeTaken (by decide) new cause s
  have heq : t = intSet 20 (dueRecord (pwrHq (modeTaken new cause s)) 0x23
    [modeEvtWord (modeTaken new cause s) (modeCode s.mode) (modeCode new) cause, (modeTaken new cause s).tick]
    (modeTaken new cause s)) := rfl
  generalize modeTaken new cause s = u at hu hword heq
  have hview : (u.mode, u.modeCause, u.due, u.sec, u.rdn, u.tick) = (new, cause, s.due, s.sec, s.rdn, s.tick) :=
    congrArg (fun x : State => (x.mode, x.modeCause, x.due, x.sec, x.rdn, x.tick)) hu
  simp only [Prod.mk.injEq] at hview
  obtain ⟨h1, h2, h3, h4, h5, h6⟩ := hview
  have hint : ∀ v, (intSet 20 v).mode = v.mode ∧ (intSet 20 v).modeCause = v.modeCause ∧ (intSet 20 v).due = v.due :=
    fun v => by rw [intSet_eq]; exact ⟨rfl, rfl, rfl⟩
  rw [heq]
  refine ⟨(hint _).1.trans h1, (hint _).2.1.trans h2, (hint _).2.2.trans ?_, by rw [intSet_testBit]; simp⟩
  simp only [dueRecord, State.putDue, modeRecord, pwrHq, cwFld, modeEvtWord, hword, h3, h4, h5, h6]

theorem modeSettled_frame {β : Type} {π : State → β} (hD : BlindDomains π) (hDue : Blind π State.putDue) (new old : Mode)
    (s : State) : π (modeSettled new old s) = π s := by
  refine retarget_frame hD _ _ _ (frame_ite (frame_ite rfl fun _ => ?_) fun h => ?_)
  · exact clearTests_frame hD.cw hD.oh s rfl
  · exact recheckReqs_frame hD.cw hD.doms hDue _ h

/-- But for ACTIVE nothing more is recorded. -/
theorem modeSettled_frame_of_ne {β : Type} {π : State → β} (hD : BlindDomains π) {new : Mode} (ha : new ≠ .active)
    (old : Mode) (s : State) : π (modeSettled new old s) = π s := by
  unfold modeSettled
  dsimp only
  rw [if_neg ha]
  exact retarget_frame hD _ _ _ (frame_ite rfl fun _ => clearTests_frame hD.cw hD.oh s rfl)

/-- The mode, its cause and the records due. -/
def modeView (s : State) : Mode × Nat × List Due := (s.mode, s.modeCause, s.due)

theorem blindDomains_modeView : BlindDomains modeView := by constructor <;> exact fun _ _ => rfl

/-- A change to another mode but ACTIVE and QUARANTINE: the mode, its cause, and one record. -/
theorem setMode_spec {new : Mode} {s : State} (cause : Nat) (h : s.mode ≠ new) (hq : new ≠ .quarantine) (ha : new ≠ .active) :
    let t := setMode new cause s
    t.mode = new ∧ t.modeCause = cause ∧ t.due = s.due ++ [modeRecord s new cause] := by
  intro t
  obtain ⟨h1, h2, h3, -⟩ := modeRecorded_spec new cause s
  have ht : t = modeSettled new s.mode (modeRecorded new cause s) := setMode_eq cause h hq
  have hv : modeView t = modeView (modeRecorded new cause s) := by
    rw [ht]
    exact modeSettled_frame_of_ne blindDomains_modeView ha _ _
  simp only [modeView, Prod.mk.injEq] at hv
  obtain ⟨v1, v2, v3⟩ := hv
  exact ⟨v1.trans h1, v2.trans h2, v3.trans h3⟩

end Sys2Proof.Machine
end

section
/-! PROOFS. O47: the grant and the interlock (R385 to R392, R423, R432). -/

namespace Sys2Proof.Machine

/-! ### Records of the mate (R432) -/

/-- A record of the mate link and the roles (Table 12-13). -/
def mateRecord (s : State) (event detail element : Nat) : Due :=
  { q := fld (cwGet s (mateAddr 0)) 17 15, ty := 0x1B, ws := [mkWord [(31, event), (27, detail), (22, element)], s.tick] }

theorem mateEvt_eq (e d x : Nat) (s : State) : mateEvt e d x s = s.putDue (s.due ++ [mateRecord s e d x]) := rfl

theorem mateRecord_congr {s t : State} (hc : cwGet t (mateAddr 0) = cwGet s (mateAddr 0)) (ht : t.tick = s.tick) (e d x : Nat) :
    mateRecord t e d x = mateRecord s e d x := by
  unfold mateRecord
  rw [hc, ht]

theorem modeRecord_congr {s t : State} (hc : cwGet t pkgCtrlAddr = cwGet s pkgCtrlAddr) (hm : t.mode = s.mode) (ht : t.tick = s.tick)
    (hq : t.sec.qcause = s.sec.qcause) (hp : t.rdn.provisional = s.rdn.provisional) (new : Mode) (cause : Nat) :
    modeRecord t new cause = modeRecord s new cause := by
  unfold modeRecord
  rw [hc, hm, ht, hq, hp]

/-! ### HOLDING (R390, R423, R424) -/

/-- The machine holding, with what a takeover is to know (R423, R424). -/
def heldTakeover (s : State) : State :=
  (s.putIlk .holding).putRdn { s.rdn with
    leaving := false, since := tickCount s, late := (s.bank.valid && decide (starterAge s > maxAge s)) || !s.bank.valid,
    take := s.mode == .standby && s.bank.valid, applied := false, sweepRx := none }

/-- What taking the interlock leaves of s. -/
def tookHold (s t : State) : Prop :=
  t.ilk = .holding ∧ t.pending = s.pending ∧ t.rdn.leaving = false ∧
    (s.mode = .standby ∨ s.mode = .provision → t.mode = .takeover ∧ t.modeCause = 5 ∧ t.rdn.since = tickCount s ∧
      t.rdn.applied = false ∧ (t.rdn.take = true ↔ s.mode = .standby ∧ s.bank.valid = true) ∧
      (t.rdn.late = true ↔ (s.bank.valid = true ∧ maxAge s < starterAge s) ∨ s.bank.valid = false) ∧
      t.due = s.due ++ [mateRecord s 5 0 0, modeRecord s .takeover 5]) ∧
    (s.mode ≠ .standby → s.mode ≠ .provision → t.mode = s.mode ∧ t.due = s.due)

/-- Interlock, queue and the state of redundancy. -/
def roleView (s : State) : Ilk × List Instr × Rdn := (s.ilk, s.pending, s.rdn)

theorem blindDomains_roleView : BlindDomains roleView := by constructor <;> exact fun _ _ => rfl

theorem setMode_roleView (new : Mode) (cause : Nat) (s : State) : roleView (setMode new cause s) = roleView s := by
  apply setMode_frame blindDomains_roleView (hk := rfl) <;> exact fun _ _ => rfl

theorem cenInc_fields {n : Nat} (hn : n < 56) (s : State) : cenInc n s = { s with cw := (cenInc n s).cw } := by
  unfold cenInc
  dsimp only
  rw [if_neg (show ¬ n ≥ 56 by omega)]
  split <;> rfl

theorem holdIlk_of_entry {s : State} (h : s.mode = .standby ∨ s.mode = .provision) :
    holdIlk s = (let u := setMode .takeover 5 (mateEvt 5 0 0 (heldTakeover s))
      if (s.bank.valid && decide (starterAge s > maxAge s)) && u.rdn.take then cenInc 15 u else u) := by
  unfold holdIlk
  dsimp only
  exact if_pos (by simpa using h)

theorem holdIlk_of_other {s : State} (h : ¬ (s.mode = .standby ∨ s.mode = .provision)) :
    holdIlk s = { s with ilk := .holding, rdn := { s.rdn with leaving := false } } := by
  unfold holdIlk
  dsimp only
  exact if_neg (by simpa using h)

theorem holdIlk_spec (s : State) : tookHold s (holdIlk s) ∧ (holdIlk s).rdn.grant = s.rdn.grant := by
  by_cases h : s.mode = .standby ∨ s.mode = .provision
  · have hmode : (mateEvt 5 0 0 (heldTakeover s)).mode ≠ .takeover := by
      show s.mode ≠ .takeover
      obtain h | h := h <;> rw [h] <;> decide
    obtain ⟨h1, h2, h3⟩ := setMode_spec 5 hmode (by decide) (by decide)
    have hrole := setMode_roleView .takeover 5 (mateEvt 5 0 0 (heldTakeover s))
    rw [holdIlk_of_entry h]
    generalize setMode .takeover 5 (mateEvt 5 0 0 (heldTakeover s)) = u at h1 h2 h3 hrole
    simp only [roleView, Prod.mk.injEq] at hrole
    obtain ⟨h4, h5, h6⟩ := hrole
    have hdue : u.due = s.due ++ [mateRecord s 5 0 0, modeRecord s .takeover 5] := h3.trans (List.append_assoc ..)
    have hu : tookHold s u ∧ u.rdn.grant = s.rdn.grant := by
      refine ⟨⟨h4, h5, by rw [h6]; rfl, fun _ => ⟨h1, h2, by rw [h6]; rfl, by rw [h6]; rfl, ?_, ?_, hdue⟩, fun h7 h8 => ?_⟩, by rw [h6]; rfl⟩
      · rw [h6]
        simp [heldTakeover, mateEvt_eq, State.putDue]
      · rw [h6]
        simp [heldTakeover, mateEvt_eq, State.putDue]
      · exact absurd h (not_or.2 ⟨h7, h8⟩)
    dsimp only
    split
    · rw [cenInc_fields (by decide)]
      exact hu
    · exact hu
  · rw [holdIlk_of_other h]
    exact ⟨⟨rfl, rfl, rfl, fun h' => absurd h' h, fun _ _ => ⟨rfl, rfl⟩⟩, rfl⟩

/-- A new level of the grant, with other control words. -/
def grantLevel (l : Bool) (c : Tab Word) (s : State) : State := (s.putRdn { s.rdn with grant := l }).putCw c

/-- A new level of the grant and a count in the census are no matter to what holding leaves. -/
theorem tookHold_of_granted {s t : State} {g : Bool} {c : Tab Word}
    (hc : ∀ a, a ∉ [ctlAddr clsCen 0 9] → tabGet (cwReset a) c a = tabGet (cwReset a) s.cw a)
    (h : tookHold (grantLevel g c s) t) : tookHold s t := by
  have hword : ∀ a, a / 2 ^ 18 ≠ clsCen → cwGet (grantLevel g c s) a = cwGet s a := fun a ha =>
    hc a (by simpa using ne_cen_of_class ha (by decide))
  have hmate := hword (mateAddr 0) (by decide)
  have hpkg := hword pkgCtrlAddr (by decide)
  have hage : maxAge (grantLevel g c s) = maxAge s := by
    unfold maxAge mateCtrl
    rw [hmate]
  have hrec : mateRecord (grantLevel g c s) 5 0 0 = mateRecord s 5 0 0 := mateRecord_congr hmate rfl 5 0 0
  have hrec' : modeRecord (grantLevel g c s) .takeover 5 = modeRecord s .takeover 5 :=
    modeRecord_congr hpkg rfl rfl rfl rfl .takeover 5
  unfold tookHold at h
  rw [hage, hrec, hrec'] at h
  exact h

/-! ### The grant (R385, R386, R390) -/

theorem grantMode_iff (m : Mode) : grantMode m = true ↔ m = .provision ∨ m = .standby ∨ m = .active ∨ m = .takeover := by
  simp [grantMode, or_assoc]

section Accept
variable {s : State}

theorem acceptGrant_of_not_taken (h : ¬ (s.mode = .provision ∨ s.mode = .standby ∨ s.mode = .active ∨ s.mode = .takeover) ∨
    s.ilk ≠ .released) : acceptGrant s = s := by
  rw [← grantMode_iff] at h
  exact if_pos (by simpa using h)

variable (hm : s.mode = .provision ∨ s.mode = .standby ∨ s.mode = .active ∨ s.mode = .takeover) (hi : s.ilk = .released)
include hm hi

theorem acceptGrant_of_seat0 (h0 : s.straps.seat = 0) : acceptGrant s = holdIlk s := by
  rw [← grantMode_iff] at hm
  exact (if_neg (by simp [hm, hi])).trans (if_pos h0)

theorem acceptGrant_of_seat1 (h1 : s.straps.seat = 1) :
    acceptGrant s = s.putIlk (if s.rdn.mateIlk then .blocked else .arming) := by
  rw [← grantMode_iff] at hm
  refine (if_neg (by simp [hm, hi])).trans ((if_neg (by simp [h1])).trans ?_)
  cases s.rdn.mateIlk <;> rfl
end Accept

/-- An accepted level of the grant is counted before it acts. -/
theorem exec_grantInChange_eq {l : Bool} {s : State} (hs : tabWf cwReset s.cw = true) (hp : powered s = true)
    (hl : s.rdn.grant ≠ l) : ∃ c, (∀ a, a ∉ [ctlAddr clsCen 0 9] → tabGet (cwReset a) c a = tabGet (cwReset a) s.cw a) ∧
      exec (.grantInChange l) s = .next (if l then acceptGrant (grantLevel l c s) else releaseIlk 0 (grantLevel l c s)) := by
  obtain ⟨c, hc, hwords⟩ := (cenInc_work (n := 9) (s := s.putRdn { s.rdn with grant := l }) (by decide) hs).exists_cw
  refine ⟨c, hwords, ?_⟩
  rw [exec_grantInChange, execGrantInChange, if_neg (by simp [hp, hl])]
  dsimp only
  rw [hc]
  rfl

/-! ### The release (R389, R392) -/

theorem releaseIlk_eq (detail : Nat) (s : State) : releaseIlk detail s =
    { s with
      ilk := .released,
      rdn := if s.ilk = .holding then { s.rdn with leaving := s.mode == .takeover || s.mode == .active, sweepTx := none }
        else s.rdn,
      due := s.due ++ if s.ilk = .holding then [mateRecord s 7 detail 0] else [] } := by
  unfold releaseIlk
  dsimp only
  split
  · rfl
  · simp [State.putIlk]

/-! ### Conflicts (R392) -/

theorem conflictCauses_eq (l : Bool) (s : State) : conflictCauses l s =
    8 * (if l then 1 else 0) + 4 * (if s.ilk = .holding ∧ s.rdn.mateIlk = true then 1 else 0) +
      2 * (if s.ilk = .blocked ∧ s.rdn.grant = true then 1 else 0) +
      (if (s.mode = .takeover ∨ s.mode = .active) ∧ s.ilk ≠ .holding ∧ s.rdn.leaving = false then 1 else 0) := by
  simp [conflictCauses, b2n, or_comm, and_assoc]

theorem leavingMode_eq (s : State) : (s.mode == .takeover || s.mode == .active) = decide (s.mode = .takeover ∨ s.mode = .active) := by
  rw [Bool.decide_or, Bool.beq_eq_decide_eq, Bool.beq_eq_decide_eq]

section Grant
variable {s : State} (hs : tabWf cwReset s.cw = true) (hp : powered s = true)
include hs hp

/-- The grant comes to seat 0. -/
theorem grant_to_seat0 (hg : s.rdn.grant = false)
    (hm : s.mode = .provision ∨ s.mode = .standby ∨ s.mode = .active ∨ s.mode = .takeover) (hi : s.ilk = .released)
    (h0 : s.straps.seat = 0) :
    reaches (exec (.grantInChange true) s) fun t => tookHold s t ∧ t.rdn.grant = true := by
  obtain ⟨c, hc, he⟩ := exec_grantInChange_eq (l := true) hs hp (by rw [hg]; decide)
  refine ⟨_, he, ?_⟩
  rw [if_pos rfl, acceptGrant_of_seat0 (s := grantLevel true c s) hm hi h0]
  obtain ⟨hheld, hgrant⟩ := holdIlk_spec (grantLevel true c s)
  exact ⟨tookHold_of_granted hc hheld, hgrant⟩

/-- The grant comes to seat 1. -/
theorem grant_to_seat1 (hg : s.rdn.grant = false)
    (hm : s.mode = .provision ∨ s.mode = .standby ∨ s.mode = .active ∨ s.mode = .takeover) (hi : s.ilk = .released)
    (h1 : s.straps.seat = 1) :
    reaches (exec (.grantInChange true) s) fun t => t.ilk = (if s.rdn.mateIlk then .blocked else .arming) ∧
      t.rdn = { s.rdn with grant := true } ∧ cwKept s t [ctlAddr clsCen 0 9] ∧ t = { s with ilk := t.ilk, rdn := t.rdn, cw := t.cw } := by
  obtain ⟨c, hc, he⟩ := exec_grantInChange_eq (l := true) hs hp (by rw [hg]; decide)
  refine ⟨_, he, ?_⟩
  rw [if_pos rfl, acceptGrant_of_seat1 (s := grantLevel true c s) hm hi h1]
  exact ⟨rfl, rfl, hc, rfl⟩

/-- The grant comes where no one takes it. -/
theorem grant_not_taken (hg : s.rdn.grant = false)
    (h : ¬ (s.mode = .provision ∨ s.mode = .standby ∨ s.mode = .active ∨ s.mode = .takeover) ∨ s.ilk ≠ .released) :
    reaches (exec (.grantInChange true) s) fun t => t.rdn = { s.rdn with grant := true } ∧
      cwKept s t [ctlAddr clsCen 0 9] ∧ t = { s with rdn := t.rdn, cw := t.cw } := by
  obtain ⟨c, hc, he⟩ := exec_grantInChange_eq (l := true) hs hp (by rw [hg]; decide)
  refine ⟨_, he, ?_⟩
  rw [if_pos rfl, acceptGrant_of_not_taken (s := grantLevel true c s) h]
  exact ⟨rfl, hc, rfl⟩

/-- The grant goes: the interlock is released at once. -/
theorem grant_lost (hg : s.rdn.grant = true) :
    reaches (exec (.grantInChange false) s) fun t => t.ilk = .released ∧ drivesLine t = false ∧
      t.rdn = (if s.ilk = .holding then
          { s.rdn with grant := false, leaving := decide (s.mode = .takeover ∨ s.mode = .active), sweepTx := none }
        else { s.rdn with grant := false }) ∧
      t.due = s.due ++ (if s.ilk = .holding then [mateRecord s 7 0 0] else []) ∧ cwKept s t [ctlAddr clsCen 0 9] ∧
      t = { s with ilk := t.ilk, rdn := t.rdn, due := t.due, cw := t.cw } := by
  obtain ⟨c, hc, he⟩ := exec_grantInChange_eq (l := false) hs hp (by rw [hg]; decide)
  rw [if_neg Bool.false_ne_true, releaseIlk_eq] at he
  refine ⟨_, he, ?_⟩
  have hrec : mateRecord (grantLevel false c s) 7 0 0 = mateRecord s 7 0 0 :=
    mateRecord_congr (t := grantLevel false c s) (hc _ (by simpa using ne_cen_of_class (n := 9) (a := mateAddr 0) (by decide) (by decide))) rfl
      7 0 0
  rw [hrec]
  refine ⟨rfl, ?_, ?_, rfl, hc, rfl⟩
  · simp [drivesLine]
  · rw [← leavingMode_eq]
    split
    next h => exact (if_pos h).symm
    next h => exact (if_neg h).symm
end Grant

/-- Seat 1 gives way (R387). -/
theorem giveWay_eq (s : State) : giveWay s =
    { s with
      ilk := .blocked,
      rdn := { s.rdn with leaving := decide (s.mode = .takeover ∨ s.mode = .active), sweepTx := none },
      due := s.due ++ [mateRecord s 7 2 0] } := by
  rw [← leavingMode_eq]
  rfl

theorem exec_ilkInChange_giveWay {s : State} (hp : powered s = true) (hm : s.rdn.mateIlk = false) (hi : s.ilk = .holding)
    (h1 : s.straps.seat = 1) : exec (.ilkInChange true) s = .next { s with
      ilk := .blocked,
      rdn := { s.rdn with mateIlk := true, leaving := decide (s.mode = .takeover ∨ s.mode = .active), sweepTx := none },
      due := s.due ++ [mateRecord s 7 2 0] } := by
  have hrec : mateRecord (s.putRdn { s.rdn with mateIlk := true }) 7 2 0 = mateRecord s 7 2 0 := mateRecord_congr rfl rfl 7 2 0
  rw [exec_ilkInChange, execIlkInChange, if_neg (by simp [hp, hm])]
  dsimp only
  rw [if_pos (by simp [State.putRdn, hi, h1]), giveWay_eq, hrec]
  rfl

/-- A conflict declared stops the drivers, and is recorded, counted and signalled (R392). -/
theorem conflict_declared {s : State} (hs : tabWf cwReset s.cw = true) {l : Bool} (hc : conflictCauses l s ≠ 0)
    (hn : s.rdn.conflict = false) :
    reaches (exec (.roleConflictDeclare l) s) fun t => t.rdn = { s.rdn with conflict := true } ∧ drivesLine t = false ∧
      t.due = s.due ++ [mateRecord s 8 (conflictCauses l s) 0] ∧ t.intPend.testBit 21 = true ∧ cwKept s t [ctlAddr clsCen 0 12] ∧
      t = { s with rdn := t.rdn, due := t.due, cw := t.cw, intPend := t.intPend, msixPba := t.msixPba, out := t.out } := by
  have hrec : mateRecord (s.putRdn { s.rdn with conflict := true }) 8 (conflictCauses l s) 0 =
      mateRecord s 8 (conflictCauses l s) 0 := mateRecord_congr rfl rfl _ _ _
  obtain ⟨c, p, m, o, he, hbit, hwords⟩ := intSet_cenInc_exists 21 (n := 12)
    (s := mateEvt 8 (conflictCauses l s) 0 (s.putRdn { s.rdn with conflict := true })) (by decide) hs
  rw [mateEvt_eq, hrec] at he
  have hexec : exec (.roleConflictDeclare l) s = .next { s with
      rdn := { s.rdn with conflict := true }, due := s.due ++ [mateRecord s 8 (conflictCauses l s) 0], cw := c, intPend := p,
      msixPba := m, out := o } := by
    rw [exec_roleConflictDeclare, execRoleConflictDeclare, if_neg (by simp [hc, hn]), mateEvt_eq, hrec]
    exact congrArg _ he
  exact ⟨_, hexec, rfl, by simp [drivesLine], rfl, hbit, hwords, rfl⟩

/-- Settles O47: each change of a land by what it finds, then the two conflicts. -/
theorem theInterlockDecidesTheHolder : Obligations.TheInterlockDecidesTheHolder := by
  unfold Obligations.TheInterlockDecidesTheHolder
  intro l s hs n rec_ modeRec ctrl stale holds takes gone causes
  have hcw := tablesOk_cw hs
  have hcauses : conflictCauses l s = causes := conflictCauses_eq l s
  refine ⟨fun hp => ⟨?_, ?_, ?_⟩, fun hp => ⟨?_, fun hl => ?_, grant_to_seat0 hcw hp, grant_to_seat1 hcw hp,
    grant_not_taken hcw hp, grant_lost hcw hp, fun hl => ?_, exec_ilkInChange_giveWay hp, fun hm hn => ?_⟩, fun hi hm => ?_,
    fun hi hm => ?_, fun hi => ?_, fun hi hg hm => ?_, fun hn => ?_, fun h => ?_, fun h hc => ?_, fun hl h hc => ?_,
    fun hl h => ?_⟩
  · rw [exec_grantInChange, execGrantInChange, if_pos (by simp [hp])]
  · rw [exec_grantPulseReject, execGrantPulseReject, if_neg (by simp [hp])]
  · rw [exec_ilkInChange, execIlkInChange, if_pos (by simp [hp])]
  · rw [exec_grantPulseReject, execGrantPulseReject, if_pos hp]
  · rw [exec_grantInChange, execGrantInChange, if_pos (by simp [show s.rdn.grant = l from hl])]
  · rw [exec_ilkInChange, execIlkInChange, if_pos (by simp [show s.rdn.mateIlk = l from hl])]
  · have hm' : s.rdn.mateIlk ≠ l := hm
    rw [exec_ilkInChange, execIlkInChange, if_neg (by simp [hp, hm'])]
    refine congrArg _ (if_neg ?_)
    obtain rfl | hi | h0 := hn <;> simp [State.putRdn, *]
  · rw [exec_ilkResample, execIlkResample, if_pos hi, if_pos hm]
    rfl
  · rw [exec_ilkResample, execIlkResample, if_pos hi, if_neg (by simp [show s.rdn.mateIlk = false from hm])]
    exact ⟨_, rfl, (holdIlk_spec s).1⟩
  · rw [exec_ilkResample, execIlkResample, if_neg hi]
  · rw [exec_ilkBlockedRetry, execIlkBlockedRetry, if_pos (by simp [hi, show s.rdn.grant = true from hg, show s.rdn.mateIlk = false from hm])]
    rfl
  · rw [exec_ilkBlockedRetry, execIlkBlockedRetry]
    refine congrArg _ (if_neg ?_)
    obtain h | h | h := hn
    · simp [h]
    · simp [show s.rdn.grant = false from h]
    · simp [show s.rdn.mateIlk = true from h]
  · rw [exec_roleConflictDeclare, execRoleConflictDeclare, hcauses]
    refine congrArg _ (if_pos ?_)
    obtain h | h := h
    · simp [h]
    · simp [show s.rdn.conflict = true from h]
  · rw [← hcauses] at h ⊢
    exact conflict_declared hcw h hc
  · subst hl
    rw [exec_roleConflictClear, execRoleConflictClear, hcauses, if_pos (by simp [h, show s.rdn.conflict = true from hc])]
    rfl
  · subst hl
    rw [exec_roleConflictClear, execRoleConflictClear, hcauses]
    refine congrArg _ (if_neg ?_)
    obtain h | h := h
    · simp [h]
    · simp [show s.rdn.conflict = false from h]

end Sys2Proof.Machine
end

section
/-! PROOFS. O48: takeover, mode requests, DORMANT, and what quarantines (R389, R423 to R427, R450, R458, R526 to R540). -/

namespace Sys2Proof.Machine

theorem tablesOk_sess {s : State} (h : Safety.tablesOk s = true) : tabWf (fun _ => ({} : Session)) s.sess = true := by
  simp only [Safety.tablesOk, Safety.unitTables, Bool.and_eq_true] at h; tauto

/-! ### The starter of a takeover (R423) -/

section Held
variable {l : List Nat} {s : State}

theorem holdFold_ok (h : tabWf (fun _ => ({} : Pair)) s.pairs = true) :
    tabWf (fun _ => ({} : Pair)) (l.foldl (fun s p => prtPut p { prtGet s p with held := true } s) s).pairs = true := by
  induction l generalizing s with
  | nil => exact h
  | cons p l ih => exact ih (prtPut_ok h)

/-- A pair held stays held as others are held. -/
theorem holdFold_held (h : tabWf (fun _ => ({} : Pair)) s.pairs = true) {p : Nat}
    (hp : p ∈ l ∨ (prtGet s p).held = true) :
    (prtGet (l.foldl (fun s p => prtPut p { prtGet s p with held := true } s) s) p).held = true := by
  induction l generalizing s with
  | nil => simpa using hp
  | cons q l ih =>
    refine ih (prtPut_ok h) ?_
    by_cases hq : p = q
    · subst hq
      exact .inr (by rw [prtGet_prtPut h])
    · have hkeep : prtGet (prtPut q { prtGet s q with held := true } s) p = prtGet s p := keeps_prtPut p (by simpa using hq)
      rw [hkeep]
      simpa [hq] using hp
end Held

theorem holdPairs_held {s : State} (h : tabWf (fun _ => ({} : Pair)) s.pairs = true) {p : Nat} (hp : p ∈ livePairs s) :
    (prtGet (holdPairs s) p).held = true := holdFold_held h (.inl hp)

/-- All but the pairs and what the allocation of rings writes. -/
def hideHeld (s : State) : State := { s with rdn := {}, pairs := [], groups := [], hls := [], prfRings := [], due := [] }

/-- A takeover's starter applied: every pair held, the rings allocated. -/
def starterTaken (s : State) : State := (allotRings (holdPairs s)).putRdn { s.rdn with applied := true }

theorem starterTaken_spec {s : State} (hs : tabWf (fun _ => ({} : Pair)) s.pairs = true) :
    let t := starterTaken s
    (∀ p, p ∈ livePairs s → (prtGet t p).held = true) ∧
      t = { s with rdn := t.rdn, pairs := t.pairs, groups := t.groups, hls := t.hls, prfRings := t.prfRings, due := t.due } := by
  intro t
  have hpairs : (allotRings (holdPairs s)).pairs = (holdPairs s).pairs := by
    apply allotRings_frame (π := State.pairs) (hk := rfl) <;> exact fun _ _ => rfl
  have hhide : hideHeld (allotRings (holdPairs s)) = hideHeld s := by
    apply allotRings_frame (π := hideHeld) (hk := holdPairs_frame (π := hideHeld) (fun _ _ => rfl) s rfl) <;> exact fun _ _ => rfl
  refine ⟨fun p hp => ?_, ?_⟩
  · have hget : prtGet t p = prtGet (holdPairs s) p := congrArg (fun u => tabGet ({} : Pair) u p) hpairs
    rw [hget]
    exact holdPairs_held hs hp
  · exact congrArg (fun u : State => { u with
      rdn := t.rdn, pairs := t.pairs, groups := t.groups, hls := t.hls, prfRings := t.prfRings, due := t.due }) hhide

/-- What the starter of a takeover leaves. -/
def starterView (s : State) : Starter × Mode × Ilk × Word × Nvm × List Instr × Rdn :=
  (s.bank, s.mode, s.ilk, s.tick, s.nvm, s.pending, s.rdn)

theorem applyStarter_starterView (st : Starter) (s : State) : starterView (applyStarter st s) = starterView s := by
  apply applyStarter_frame (π := starterView) (hk := rfl) <;> exact fun _ _ => rfl

theorem allotRings_starterView (s : State) : starterView (allotRings (holdPairs s)) = starterView s := by
  apply allotRings_frame (π := starterView) (hk := holdPairs_frame (π := starterView) (fun _ _ => rfl) s rfl) <;>
    exact fun _ _ => rfl

section Apply
variable {s : State} (h : s.mode = .takeover ∧ s.ilk = .holding ∧ s.rdn.applied = false)
include h

theorem exec_starterApply_eq :
    exec .starterApply s = .next (starterTaken (if s.rdn.take then applyStarter s.bank s else s)) := by
  obtain ⟨hm, hi, ha⟩ := h
  exact congrArg _ (if_pos (by simp [hm, hi, ha]))

theorem exec_starterApply_of_own (ht : s.rdn.take = false) : exec .starterApply s = .next (starterTaken s) := by
  rw [exec_starterApply_eq h, if_neg (by simp [ht])]

theorem exec_starterApply_of_take (ht : s.rdn.take = true) :
    reaches (exec .starterApply s) fun t => t.rdn = { s.rdn with applied := true } ∧ t.bank = s.bank ∧ t.mode = .takeover ∧
      t.ilk = .holding ∧ t.tick = s.tick ∧ t.nvm = s.nvm ∧ t.pending = s.pending := by
  have hv := allotRings_starterView (applyStarter s.bank s)
  have hv' := applyStarter_starterView s.bank s
  refine ⟨_, exec_starterApply_eq h, ?_⟩
  rw [if_pos ht]
  generalize applyStarter s.bank s = u at hv hv' ⊢
  rw [hv'] at hv
  simp only [starterView, Prod.mk.injEq] at hv hv'
  obtain ⟨h1, h2, h3, h4, h5, h6, -⟩ := hv
  obtain ⟨-, -, -, -, -, -, h7⟩ := hv'
  obtain ⟨hm, hi, -⟩ := h
  exact ⟨by rw [← h7]; rfl, h1, h2.trans hm, h3.trans hi, h4, h5, h6⟩
end Apply

/-! ### The end of a takeover (R423, R424) -/

theorem due_prefix_foldl {α : Type} {f : State → α → State} (hf : ∀ t y, t.due <+: (f t y).due) (l : List α) (s : State) :
    s.due <+: (l.foldl f s).due := by
  induction l generalizing s with
  | nil => exact List.prefix_refl _
  | cons y l ih => exact (hf s y).trans (ih (f s y))

theorem due_unhold (lift : Nat → Bool) (s : State) : (unhold lift s).due = s.due :=
  unhold_frame (π := State.due) (fun _ _ => rfl) lift s rfl

/-- The request of a domain checked again on the entry to ACTIVE (R526). -/
def reqRechecked (s : State) (d : Nat) : State :=
  if domReq s d > 0 && reqStatus s d (domReq s d) ≠ 0 then
    pwrEvt d (domReq s d) 0 4 (cwPut (ctlAddr clsPwr d 0) 35 33 0 s)
  else s

theorem recheckReqs_eq (s : State) :
    recheckReqs s = (coreDomains ++ [51]).foldl reqRechecked (unhold (fun _ => true) s) := rfl

theorem due_prefix_pwrEvt (d old new cause : Nat) (s : State) : s.due <+: (pwrEvt d old new cause s).due :=
  List.prefix_append s.due _

theorem due_cwPut (a hi lo v : Nat) (s : State) : (cwPut a hi lo v s).due = s.due := rfl

theorem due_prefix_reqRechecked (s : State) (d : Nat) : s.due <+: (reqRechecked s d).due := by
  unfold reqRechecked
  split
  · rw [← due_cwPut (ctlAddr clsPwr d 0) 35 33 0 s]
    exact due_prefix_pwrEvt ..
  · exact List.prefix_refl _

theorem due_prefix_recheckReqs (s : State) : s.due <+: (recheckReqs s).due := by
  rw [recheckReqs_eq, ← due_unhold (fun _ => true) s]
  exact due_prefix_foldl due_prefix_reqRechecked _ _

/-- The records due grow as a new mode settles. -/
theorem due_prefix_modeSettled (new old : Mode) (s : State) : s.due <+: (modeSettled new old s).due := by
  have hD : BlindDomains State.due := by constructor <;> exact fun _ _ => rfl
  unfold modeSettled
  extract_lets u v
  have hu : u.due = s.due := frame_ite (π := State.due) rfl fun _ =>
    clearTests_frame (π := State.due) (fun _ _ => rfl) (fun _ _ => rfl) s rfl
  rw [retarget_frame hD _ _ _ rfl, ← hu]
  show u.due <+: (if new = .active then recheckReqs u else u).due
  split
  · exact due_prefix_recheckReqs u
  · exact List.prefix_refl _

/-- A package that leaves no STANDBY and enters none keeps its pending interrupts as it takes a mode. -/
theorem intPend_modeTaken_active {s : State} (h : s.mode = .takeover) (cause : Nat) :
    (modeTaken .active cause s).intPend = s.intPend := by
  have h1 : ∀ t, standbyEntered .active t = t := fun _ => rfl
  have h2 : ∀ t, standbyLeft .active s.mode t = t := fun t => if_neg (by simp [h])
  have h3 : ∀ t, entryCounted .active t = t := fun _ => rfl
  have h4 : episodeCleared .active s = s := rfl
  rw [modeTaken, h1, h2, h3, h4]
  rfl

/-- A change to ACTIVE. -/
theorem setMode_active {s : State} (h : s.mode = .takeover) (cause : Nat) :
    let t := setMode .active cause s
    t.mode = .active ∧ t.modeCause = cause ∧ (s.due ++ [modeRecord s .active cause]) <+: t.due ∧
      (∀ i, s.intPend.testBit i = true → t.intPend.testBit i = true) := by
  intro t
  obtain ⟨h1, h2, h3, -⟩ := modeRecorded_spec .active cause s
  have ht : t = modeSettled .active s.mode (modeRecorded .active cause s) := setMode_eq cause (by simp [h]) (by decide)
  have hmode : t.mode = (modeRecorded .active cause s).mode := by
    rw [ht]
    exact modeSettled_frame (π := State.mode) (by constructor <;> exact fun _ _ => rfl) (fun _ _ => rfl) _ _ _
  have hcause : t.modeCause = (modeRecorded .active cause s).modeCause := by
    rw [ht]
    exact modeSettled_frame (π := State.modeCause) (by constructor <;> exact fun _ _ => rfl) (fun _ _ => rfl) _ _ _
  have hpend : t.intPend = (modeRecorded .active cause s).intPend := by
    rw [ht]
    exact modeSettled_frame (π := State.intPend) (by constructor <;> exact fun _ _ => rfl) (fun _ _ => rfl) _ _ _
  refine ⟨hmode.trans h1, hcause.trans h2, ?_, fun i hi => ?_⟩
  · rw [← h3, ht]
    exact due_prefix_modeSettled _ _ _
  · have hkept : (modeTaken .active cause s).intPend.testBit i = true := by rw [intPend_modeTaken_active h]; exact hi
    rw [hpend]
    unfold modeRecorded
    dsimp only
    rw [intSet_testBit, dueRecord]
    simp only [State.putDue, hkept, Bool.or_true]

/-- What is signalled as a takeover ends (R424). -/
def takenOver (s : State) : State :=
  let u := s.putRdn { s.rdn with provisional := s.rdn.provisional || s.rdn.late }
  if s.rdn.late then intSet 22 u else u

theorem takenOver_exists (s : State) : ∃ p m o, takenOver s =
    { s with rdn := { s.rdn with provisional := s.rdn.provisional || s.rdn.late }, intPend := p, msixPba := m, out := o } ∧
      (s.rdn.late = true → p.testBit 22 = true) := by
  unfold takenOver
  dsimp only
  split
  · obtain ⟨p, m, o, h, hbit⟩ := intSet_exists 22 (s.putRdn { s.rdn with provisional := s.rdn.provisional || s.rdn.late })
    exact ⟨p, m, o, h, fun _ => hbit⟩
  next h => exact ⟨s.intPend, s.msixPba, s.out, rfl, fun hl => absurd hl h⟩

theorem takeoverActive_ends {s : State} {l : Bool} (hm : s.mode = .takeover) (hi : s.ilk = .holding) (ha : s.rdn.applied = true)
    (ht : l = true ∨ trafficUp s = true) :
    let prov := s.rdn.provisional || s.rdn.late
    reaches (exec (.takeoverActive l) s) fun t => t.mode = .active ∧ t.modeCause = 6 ∧
      t.rdn = { s.rdn with provisional := prov } ∧ t.ilk = .holding ∧ (s.rdn.late = true → t.intPend.testBit 22 = true) ∧
      (s.due ++ [mateRecord s 6 (b2n prov) 0, modeRecord (s.putRdn { s.rdn with provisional := prov }) .active 6]) <+: t.due := by
  intro prov
  obtain ⟨p, m, o, hu, hbit⟩ := takenOver_exists s
  have hexec : exec (.takeoverActive l) s =
      .next (setMode .active 6 (mateEvt 6 (b2n (takenOver s).rdn.provisional) 0 (takenOver s))) := by
    rw [exec_takeoverActive, execTakeoverActive, if_pos (by simpa [hm, hi, ha] using ht)]
    rfl
  refine ⟨_, hexec, ?_⟩
  rw [hu]
  generalize hv : mateEvt _ _ _ _ = v
  have hvdue : v.due = s.due ++ [mateRecord s 6 (b2n prov) 0] := by rw [← hv]; rfl
  have hvrec : modeRecord v .active 6 = modeRecord (s.putRdn { s.rdn with provisional := prov }) .active 6 := by rw [← hv]; rfl
  have hvmode : v.mode = .takeover := by rw [← hv]; exact hm
  obtain ⟨h1, h2, h3, h4⟩ := setMode_active hvmode 6
  have hrole := setMode_roleView .active 6 v
  simp only [roleView, Prod.mk.injEq] at hrole
  obtain ⟨h5, -, h6⟩ := hrole
  rw [hvdue, hvrec, List.append_assoc] at h3
  refine ⟨h1, h2, h6.trans (by rw [← hv]; rfl), h5.trans (by rw [← hv]; exact hi), fun hl => h4 22 ?_, h3⟩
  rw [← hv]
  exact hbit hl

/-! ### Modes entered by release or on request (R427, R529 to R531) -/

/-- What a resynchronisation leaves where no package holds. -/
def resyncView (s : State) : Mode × Nat × Rdn × Ilk × Starter × List Due :=
  (s.mode, s.modeCause, s.rdn, s.ilk, s.bank, s.due)

theorem resync_view (row : Nat) (s : State) : resyncView (resync row s) = resyncView (s.putRdn { s.rdn with want := row }) := by
  unfold resync
  dsimp only
  split
  · rfl
  · apply mateAppend_frame (π := resyncView) (hk := rfl) <;> exact fun _ _ => rfl

theorem setMode_bank (new : Mode) (cause : Nat) (s : State) : (setMode new cause s).bank = s.bank := by
  apply setMode_frame (π := State.bank) (by constructor <;> exact fun _ _ => rfl) (hk := rfl) <;> exact fun _ _ => rfl

theorem setMode_self {new : Mode} {s : State} (cause : Nat) (h : s.mode = new) : setMode new cause s = s := if_pos h

theorem enterMode_self {new : Mode} {s : State} (cause : Nat) (h : s.mode = new) : enterMode new cause s = s := by
  unfold enterMode
  dsimp only
  rw [if_pos (by simp [h]), setMode_self cause h]

section Enter
variable {s : State} (cause : Nat) (hg : s.rdn.grant = false) (hi : s.ilk ≠ .holding)

theorem enterMode_standby (hm : s.mode ≠ .standby) (hg : s.rdn.grant = false) :
    let t := enterMode .standby cause s
    t.mode = .standby ∧ t.modeCause = cause ∧ t.rdn = { s.rdn with want := 5 } ∧ t.ilk = s.ilk ∧ t.bank = s.bank ∧
      t.due = s.due ++ [modeRecord s .standby cause] := by
  intro t
  have hrole := setMode_roleView .standby cause s
  obtain ⟨h1, h2, h3⟩ := setMode_spec cause hm (by decide) (by decide)
  have hbank := setMode_bank .standby cause s
  have hview := resync_view 5 (setMode .standby cause s)
  have ht : t = if (resync 5 (setMode .standby cause s)).rdn.grant then acceptGrant (resync 5 (setMode .standby cause s))
      else resync 5 (setMode .standby cause s) := by
    show enterMode .standby cause s = _
    unfold enterMode
    dsimp only
    rw [if_neg (by simp [hm])]
    rfl
  generalize setMode .standby cause s = u at *
  generalize resync 5 u = v at *
  simp only [roleView, Prod.mk.injEq] at hrole
  simp only [resyncView, Prod.mk.injEq] at hview
  obtain ⟨r1, -, r3⟩ := hrole
  obtain ⟨v1, v2, v3, v4, v5, v6⟩ := hview
  have hgrant : v.rdn.grant = false := by rw [v3]; exact (congrArg Rdn.grant r3).trans hg
  rw [if_neg (by simp [hgrant])] at ht
  rw [ht]
  exact ⟨v1.trans h1, v2.trans h2, v3.trans (by rw [show (u.putRdn { u.rdn with want := 5 }).rdn = { u.rdn with want := 5 } from rfl, r3]),
    v4.trans r1, v5.trans hbank, v6.trans h3⟩

theorem enterMode_provision (hm : s.mode ≠ .provision) (hg : s.rdn.grant = false) :
    let t := enterMode .provision cause s
    t.mode = .provision ∧ t.modeCause = cause ∧ t.rdn = s.rdn ∧ t.ilk = s.ilk ∧
      t.due = s.due ++ [modeRecord s .provision cause] := by
  intro t
  have hrole := setMode_roleView .provision cause s
  obtain ⟨h1, h2, h3⟩ := setMode_spec cause hm (by decide) (by decide)
  have ht : t = if (setMode .provision cause s).rdn.grant then acceptGrant (setMode .provision cause s)
      else setMode .provision cause s := by
    show enterMode .provision cause s = _
    unfold enterMode
    dsimp only
    rw [if_neg (by simp [hm])]
    rfl
  simp only [roleView, Prod.mk.injEq] at hrole
  obtain ⟨r1, -, r3⟩ := hrole
  rw [r3, if_neg (by simp [hg])] at ht
  rw [ht]
  exact ⟨h1, h2, r3, r1, h3⟩

theorem enterMode_test (hm : s.mode ≠ .test) (hi : s.ilk ≠ .holding) :
    let t := enterMode .test cause s
    t.mode = .test ∧ t.modeCause = cause ∧ t.rdn = s.rdn ∧ t.ilk = .released ∧
      t.due = s.due ++ [modeRecord s .test cause] := by
  intro t
  have hrole := setMode_roleView .test cause s
  obtain ⟨h1, h2, h3⟩ := setMode_spec cause hm (by decide) (by decide)
  have ht : t = releaseIlk 0 (setMode .test cause s) := by
    show enterMode .test cause s = _
    unfold enterMode
    dsimp only
    rw [if_neg (by simp [hm])]
    rfl
  simp only [roleView, Prod.mk.injEq] at hrole
  obtain ⟨r1, -, r3⟩ := hrole
  rw [releaseIlk_eq, r1, if_neg hi, if_neg hi, List.append_nil] at ht
  rw [ht]
  exact ⟨h1, h2, r3, rfl, h3⟩
end Enter

end Sys2Proof.Machine
end

section
/-! PROOFS. O48 ended: writes to PWR_PKG_CTRL, DORMANT, QUARANTINE, and what no change of a domain touches. -/

namespace Sys2Proof.Machine

/-! ### Control words of no domain (R521) -/

/-- Classes with control words that stand in a domain. -/
def domainClasses : List Nat :=
  [clsFramer, clsOh, clsMap, clsPc, clsProt, clsChk, clsPair, clsLane, clsFec, clsClk, clsDeck, clsFine, clsQueue, clsProof, clsAud]

theorem cw_loseContents (d : Nat) (s : State) : (loseContents d s).cw = s.cw.filter fun e => !wordIn s d e.1 := by
  unfold loseContents
  dsimp only
  split
  · rfl
  split
  · rfl
  split
  · rfl
  split
  · rfl
  split
  · rfl
  split
  · rfl
  split <;> rfl

theorem cwGet_foldl {α : Type} {a : Nat} {f : State → α → State} (hf : ∀ t y, cwGet (f t y) a = cwGet t a) (l : List α)
    (s : State) : cwGet (l.foldl f s) a = cwGet s a := by
  induction l generalizing s with
  | nil => rfl
  | cons y l ih => exact (ih (f s y)).trans (hf s y)

theorem cwGet_ite {a : Nat} {c : Prop} [Decidable c] {x s t : State} (hs : cwGet s a = cwGet x a) (ht : cwGet t a = cwGet x a) :
    cwGet (if c then s else t) a = cwGet x a := by
  split
  · exact hs
  · exact ht

section Outside
variable {a : Nat} (ha : ctlClass a ∉ domainClasses)
include ha

theorem wordIn_of_class (s : State) (d : Nat) : wordIn s d a = false := by
  simp only [domainClasses, List.mem_cons, List.not_mem_nil, or_false, not_or] at ha
  simp [wordIn, ha]

theorem cwGet_loseContents (d : Nat) (s : State) : cwGet (loseContents d s) a = cwGet s a := by
  have h := tabGet_filter_key (cwReset a) (fun k => !wordIn s d k) a s.cw
  rw [wordIn_of_class ha, Bool.not_false, if_pos rfl, ← cw_loseContents] at h
  exact h

theorem cwGet_moveDomain (d goal cause : Nat) (s : State) : cwGet (moveDomain d goal cause s) a = cwGet s a := by
  have hstop : ∀ t, (stopIn d t).cw = t.cw := fun t =>
    stopIn_frame (π := State.cw) (fun _ _ => rfl) (fun _ _ => rfl) (fun _ _ => rfl) (fun _ _ => rfl) d t rfl
  have hstopped : ∀ t : State, cwGet (if goal > 0 && (domGet s d).st = 0 then stopIn d t else t) a = cwGet t a := fun t =>
    cwGet_ite (cwGet_congr (hstop t) a) rfl
  unfold moveDomain
  refine cwGet_ite rfl (cwGet_ite ?_ ?_)
  · exact (cwGet_loseContents ha d _).trans (hstopped _)
  · exact hstopped _

theorem cwGet_followDies (cause : Nat) (s : State) : cwGet (followDies cause s) a = cwGet s a :=
  cwGet_foldl (fun t _ => cwGet_ite rfl (cwGet_moveDomain ha _ _ _ t)) _ s

omit ha in
theorem cwGet_unhold (lift : Nat → Bool) (s : State) : cwGet (unhold lift s) a = cwGet s a :=
  cwGet_congr (unhold_frame (π := State.cw) (fun _ _ => rfl) lift s rfl) a

theorem cwGet_retarget (cause : Nat) (lift : Nat → Bool) (s : State) : cwGet (retarget cause lift s) a = cwGet s a := by
  unfold retarget
  rw [cwGet_followDies ha, cwGet_foldl (fun t _ => cwGet_moveDomain ha _ _ _ t), cwGet_unhold]
end Outside

/-! ### A write to PWR_PKG_CTRL (Table 16-9) -/

/-- The bits that PWR_PKG_CTRL keeps. -/
def pkgKept (v : Word) : Word := v &&& 0x0F0000000

/-- The word as written, with the depth of STANDBY that it asks for. -/
def pkgStored (v : Word) (s : State) : State :=
  let t := cwSet pkgCtrlAddr (pkgKept v) s
  if deepStandby t != deepStandby s && t.mode = .standby then retarget 2 (fun _ => false) t else t

theorem pkgStored_frame {β : Type} {π : State → β} (hD : BlindDomains π) (v : Word) (s : State) : π (pkgStored v s) = π s := by
  have hset : π (cwSet pkgCtrlAddr (pkgKept v) s) = π s := cwSet_frame hD.cw _ _ s rfl
  exact frame_ite hset fun h => retarget_frame hD _ _ _ h

theorem cwGet_pkgStored {s : State} (hs : tabWf cwReset s.cw = true) (v : Word) : cwGet (pkgStored v s) pkgCtrlAddr = pkgKept v := by
  have hset : cwGet (cwSet pkgCtrlAddr (pkgKept v) s) pkgCtrlAddr = pkgKept v := cwGet_cwSet hs
  unfold pkgStored
  dsimp only
  split
  · rw [cwGet_retarget (by decide), hset]
  · exact hset

theorem getLsbD_pkgKept (v : Word) (i : Nat) : (pkgKept v).getLsbD i = (decide (28 ≤ i ∧ i < 32) && v.getLsbD i) := by
  by_cases hi : i < 36
  · have hmask : ∀ j, j < 36 → (0x0F0000000 : Word).getLsbD j = decide (28 ≤ j ∧ j < 32) := by decide
    rw [pkgKept, BitVec.getLsbD_and, hmask i hi, Bool.and_comm]
  · rw [BitVec.getLsbD_of_ge _ _ (by omega), BitVec.getLsbD_of_ge _ _ (by omega), Bool.and_false]

theorem pkgKept_congr {v w : Word} (h : ∀ i, 28 ≤ i → i < 32 → v.getLsbD i = w.getLsbD i) : pkgKept v = pkgKept w := by
  refine BitVec.eq_of_getLsbD_eq fun i _ => ?_
  rw [getLsbD_pkgKept, getLsbD_pkgKept]
  by_cases hi : 28 ≤ i ∧ i < 32
  · rw [h i hi.1 hi.2]
  · rw [decide_eq_false hi, Bool.false_and, Bool.false_and]

theorem fld_pkgKept (v : Word) : fld (pkgKept v) 30 28 = fld v 30 28 :=
  fld_congr fun i h1 h2 => by rw [getLsbD_pkgKept, decide_eq_true (by omega), Bool.true_and]

theorem pkgKept_putFld {v : Word} {hi lo x : Nat} (h : lo ≤ hi) (hw : hi < 36) (hd : hi < 28 ∨ 32 ≤ lo) :
    pkgKept (putFld v hi lo x) = pkgKept v :=
  pkgKept_congr fun i h1 h2 => getLsbD_putFld_of_disjoint h hw (by omega)

/-! ### Modes on request (R529) -/

section Request
variable {v : Word} {code : Nat} {s : State}

theorem getLsbD_withModeReq {i : Nat} (hi : i < 32) : (withModeReq v code).getLsbD i = v.getLsbD i := by
  rw [withModeReq, getLsbD_putFld_of_disjoint (by omega) (by omega) (by omega),
    getLsbD_putFld_of_disjoint (by omega) (by omega) (by omega)]

theorem bit_withModeReq : bit (withModeReq v code) 32 = true := by
  rw [bit_eq_getLsbD, withModeReq, getLsbD_putFld_bit (by omega)]
  rfl

theorem fld_withModeReq (hc : code < 8) : fld (withModeReq v code) 35 33 = code := by
  rw [withModeReq, fld_putFld_of_disjoint (by omega) (by omega) (by omega), fld_putFld (by omega) (by omega) (by omega)]

theorem pkgKept_withModeReq : pkgKept (withModeReq v code) = pkgKept v :=
  pkgKept_congr fun _ _ h => getLsbD_withModeReq h

theorem modeReqStatus_refused (hc : code = 2 ∨ code = 4 ∨ code = 6)
    (h : ¬ ((s.mode = .provision ∨ s.mode = .standby ∨ s.mode = .test) ∧ s.sec.unlocked = false)) :
    modeReqStatus s code = St.modeState := by
  unfold modeReqStatus
  rw [if_neg (by obtain rfl | rfl | rfl := hc <;> decide), if_pos]
  by_contra hn
  exact h (by simpa [or_iff_not_imp_left] using hn)

theorem modeReqStatus_ok (hc : code = 2 ∨ code = 4 ∨ code = 6)
    (h : (s.mode = .provision ∨ s.mode = .standby ∨ s.mode = .test) ∧ s.sec.unlocked = false) : modeReqStatus s code = 0 := by
  unfold modeReqStatus
  rw [if_neg (by obtain rfl | rfl | rfl := hc <;> decide), if_neg]
  obtain ⟨hm, hu⟩ := h
  obtain hm | hm | hm := hm <;> simp [hm, hu]

theorem applyPkgCtrl_refused (hc : code = 2 ∨ code = 4 ∨ code = 6)
    (h : ¬ ((s.mode = .provision ∨ s.mode = .standby ∨ s.mode = .test) ∧ s.sec.unlocked = false)) :
    applyPkgCtrl (withModeReq v code) s = .error St.modeState := by
  unfold applyPkgCtrl
  dsimp only
  rw [if_pos bit_withModeReq, fld_withModeReq (by omega), modeReqStatus_refused hc h, if_pos (by decide)]

theorem applyPkgCtrl_mode (hc : code = 2 ∨ code = 4 ∨ code = 6)
    (h : (s.mode = .provision ∨ s.mode = .standby ∨ s.mode = .test) ∧ s.sec.unlocked = false)
    (hp : v.getLsbD 27 = false ∧ v.getLsbD 26 = false) :
    applyPkgCtrl (withModeReq v code) s = .ok (enterMode (reqModeOf code) 8 (pkgStored v s)) := by
  obtain ⟨h27, h26⟩ := hp
  have b27 : bit (withModeReq v code) 27 = false := by rw [bit_eq_getLsbD, getLsbD_withModeReq (by omega), h27]
  have b26 : bit (withModeReq v code) 26 = false := by rw [bit_eq_getLsbD, getLsbD_withModeReq (by omega), h26]
  unfold applyPkgCtrl pkgStored
  rw [← pkgKept_withModeReq (code := code)]
  dsimp only
  rw [if_pos bit_withModeReq, fld_withModeReq (by omega), modeReqStatus_ok hc h, if_neg (by decide), b26, b27,
    if_pos bit_withModeReq, if_pos (by decide), if_neg Bool.false_ne_true]
  rfl
end Request

section Entered
variable {v : Word} {o : Origin} {s : State} (hs : tabWf cwReset s.cw = true)
  (h : (s.mode = .provision ∨ s.mode = .standby ∨ s.mode = .test) ∧ s.sec.unlocked = false)
  (hp : v.getLsbD 27 = false ∧ v.getLsbD 26 = false) (hg : s.rdn.grant = false) (hi : s.ilk ≠ .holding)
include hs h hp

/-- What a requested mode is entered from. -/
def reqView (s : State) : Mode × Ilk × Rdn × List Due × Sec × Word := (s.mode, s.ilk, s.rdn, s.due, s.sec, s.tick)

omit h hp in
/-- The record of a requested mode, as the word written names its queue. -/
theorem modeRecord_pkgStored (new : Mode) : modeRecord (pkgStored v s) new 8 =
    { q := fld v 30 28, ty := 0x23,
      ws := [mkWord [(33, modeCode s.mode), (30, modeCode new), (26, 8), (22, s.sec.qcause), (21, b2n s.rdn.provisional)],
        s.tick] } := by
  have hview := pkgStored_frame (π := reqView) (by constructor <;> exact fun _ _ => rfl) v s
  have hword := cwGet_pkgStored hs v
  generalize pkgStored v s = u at hview hword ⊢
  simp only [reqView, Prod.mk.injEq] at hview
  obtain ⟨h1, -, h3, -, h5, h6⟩ := hview
  rw [modeRecord, hword, fld_pkgKept, h1, h3, h5, h6]

omit hs in
theorem modeReqStandby_enters (hg : s.rdn.grant = false) :
    applies o .word pkgCtrlAddr s (.next (settle o .word pkgCtrlAddr s (applyPkgCtrl (withModeReq v 4) s))) fun t =>
      t.mode = .standby ∧ t.ilk = s.ilk ∧ (s.mode ≠ .standby → t.modeCause = 8 ∧ t.rdn = { s.rdn with want := 5 } ∧
        t.due = s.due ++ [modeRecord (pkgStored v s) .standby 8]) := by
  have hview := pkgStored_frame (π := reqView) (by constructor <;> exact fun _ _ => rfl) v s
  rw [applyPkgCtrl_mode (by decide) h hp]
  refine applies_ok ?_
  generalize pkgStored v s = u at hview ⊢
  simp only [reqView, Prod.mk.injEq] at hview
  obtain ⟨v1, v2, v3, v4, -⟩ := hview
  rw [← v1, ← v2, ← v3, ← v4]
  by_cases hm : u.mode = .standby
  · rw [show enterMode (reqModeOf 4) 8 u = u from enterMode_self 8 hm]
    exact ⟨hm, rfl, fun hn => absurd hm hn⟩
  · obtain ⟨h1, h2, h3, h4, -, h6⟩ := enterMode_standby 8 hm (by rw [v3]; exact hg)
    exact ⟨h1, h4, fun _ => ⟨h2, h3, h6⟩⟩

omit hs in
theorem modeReqProvision_enters (hg : s.rdn.grant = false) :
    applies o .word pkgCtrlAddr s (.next (settle o .word pkgCtrlAddr s (applyPkgCtrl (withModeReq v 2) s))) fun t =>
      t.mode = .provision ∧ t.ilk = s.ilk ∧ t.rdn = s.rdn ∧ (s.mode ≠ .provision → t.modeCause = 8 ∧
        t.due = s.due ++ [modeRecord (pkgStored v s) .provision 8]) := by
  have hview := pkgStored_frame (π := reqView) (by constructor <;> exact fun _ _ => rfl) v s
  rw [applyPkgCtrl_mode (by decide) h hp]
  refine applies_ok ?_
  generalize pkgStored v s = u at hview ⊢
  simp only [reqView, Prod.mk.injEq] at hview
  obtain ⟨v1, v2, v3, v4, -⟩ := hview
  rw [← v1, ← v2, ← v3, ← v4]
  by_cases hm : u.mode = .provision
  · rw [show enterMode (reqModeOf 2) 8 u = u from enterMode_self 8 hm]
    exact ⟨hm, rfl, rfl, fun hn => absurd hm hn⟩
  · obtain ⟨h1, h2, h3, h4, h5⟩ := enterMode_provision 8 hm (by rw [v3]; exact hg)
    exact ⟨h1, h4, h3, fun _ => ⟨h2, h5⟩⟩

omit hs in
theorem modeReqTest_enters (hi : s.ilk ≠ .holding) :
    applies o .word pkgCtrlAddr s (.next (settle o .word pkgCtrlAddr s (applyPkgCtrl (withModeReq v 6) s))) fun t =>
      t.mode = .test ∧ t.rdn = s.rdn ∧ (s.mode ≠ .test → t.ilk = .released ∧ t.modeCause = 8 ∧
        t.due = s.due ++ [modeRecord (pkgStored v s) .test 8]) := by
  have hview := pkgStored_frame (π := reqView) (by constructor <;> exact fun _ _ => rfl) v s
  rw [applyPkgCtrl_mode (by decide) h hp]
  refine applies_ok ?_
  generalize pkgStored v s = u at hview ⊢
  simp only [reqView, Prod.mk.injEq] at hview
  obtain ⟨v1, v2, v3, v4, -⟩ := hview
  rw [← v1, ← v3, ← v4]
  by_cases hm : u.mode = .test
  · rw [show enterMode (reqModeOf 6) 8 u = u from enterMode_self 8 hm]
    exact ⟨hm, rfl, fun hn => absurd hm hn⟩
  · obtain ⟨h1, h2, h3, h4, h5⟩ := enterMode_test 8 hm (by rw [v2]; exact hi)
    exact ⟨h1, h3, fun _ => ⟨h4, h2, h5⟩⟩
end Entered

/-! ### Reset and DORMANT on request (R528, R535) -/

section Reset
variable {v : Word} {o : Origin} {s : State}

/-- Without a new depth the word alone is stored. -/
theorem pkgStored_of_depth (hs : tabWf cwReset s.cw = true) (h : v.getLsbD 31 = (cwGet s pkgCtrlAddr).getLsbD 31) :
    pkgStored v s = cwSet pkgCtrlAddr (pkgKept v) s := by
  have hdeep : ∀ t, deepStandby t = (cwGet t pkgCtrlAddr).getLsbD 31 := fun t => bit_eq_getLsbD _ 31
  have hset : cwGet (cwSet pkgCtrlAddr (pkgKept v) s) pkgCtrlAddr = pkgKept v := cwGet_cwSet hs
  unfold pkgStored
  dsimp only
  rw [if_neg]
  simp only [hdeep, hset, getLsbD_pkgKept, h]
  simp

theorem pkgStored_congr {w : Word} (h : pkgKept v = pkgKept w) : pkgStored v s = pkgStored w s := by
  unfold pkgStored
  rw [h]

/-- A write that asks for no mode. -/
theorem applyPkgCtrl_eq (h32 : bit v 32 = false) : applyPkgCtrl v s =
    (let u := if bit v 27 then (pkgStored v s).putResetDue true else pkgStored v s
      if !bit v 26 then .ok u else if dormantStatus u ≠ 0 then .error (dormantStatus u) else .ok (enterDormant u)) := by
  unfold applyPkgCtrl
  dsimp only
  rw [h32]
  rfl

theorem applyPkgCtrl_reset (h32 : v.getLsbD 32 = false) (h26 : v.getLsbD 26 = false) :
    applyPkgCtrl (putFld v 27 27 1) s = .ok ((pkgStored v s).putResetDue true) := by
  have b32 : bit (putFld v 27 27 1) 32 = false := by
    rw [bit_eq_getLsbD, getLsbD_putFld_of_disjoint (by omega) (by omega) (by omega), h32]
  have b26 : bit (putFld v 27 27 1) 26 = false := by
    rw [bit_eq_getLsbD, getLsbD_putFld_of_disjoint (by omega) (by omega) (by omega), h26]
  have b27 : bit (putFld v 27 27 1) 27 = true := by rw [bit_eq_getLsbD, getLsbD_putFld_bit (by omega)]; rfl
  rw [applyPkgCtrl_eq b32, pkgStored_congr (w := v) (pkgKept_putFld (by omega) (by omega) (by omega)), b26, b27, if_pos rfl]
  rfl

theorem pkgResetReq_noted (hs : tabWf cwReset s.cw = true) (h32 : v.getLsbD 32 = false) (h26 : v.getLsbD 26 = false)
    (h31 : v.getLsbD 31 = (cwGet s pkgCtrlAddr).getLsbD 31) :
    applies o .word pkgCtrlAddr s (.next (settle o .word pkgCtrlAddr s (applyPkgCtrl (putFld v 27 27 1) s))) fun t =>
      cwGet t pkgCtrlAddr = pkgKept v ∧ cwKept s t [pkgCtrlAddr] ∧ t = { s with cw := t.cw, resetDue := true } := by
  rw [applyPkgCtrl_reset h32 h26, pkgStored_of_depth hs h31]
  exact applies_ok ⟨cwGet_cwSet hs, fun b hb => cwGet_cwSet_ne (by simpa using hb), rfl⟩

theorem dormantStatus_eq (s : State) :
    dormantStatus s = if s.mode = .provision ∨ s.mode = .standby then 0 else St.modeState := by
  simp [dormantStatus]

section Dormant
variable (h32 : v.getLsbD 32 = false)
include h32

theorem bit_dormant : bit (putFld v 26 26 1) 32 = false ∧ bit (putFld v 26 26 1) 26 = true ∧
    bit (putFld v 26 26 1) 27 = v.getLsbD 27 := by
  refine ⟨?_, ?_, ?_⟩
  · rw [bit_eq_getLsbD, getLsbD_putFld_of_disjoint (by omega) (by omega) (by omega), h32]
  · rw [bit_eq_getLsbD, getLsbD_putFld_bit (by omega)]
    rfl
  · rw [bit_eq_getLsbD, getLsbD_putFld_of_disjoint (by omega) (by omega) (by omega)]

theorem applyPkgCtrl_dormant_refused (h : ¬ (s.mode = .provision ∨ s.mode = .standby)) :
    applyPkgCtrl (putFld v 26 26 1) s = .error St.modeState := by
  obtain ⟨b32, b26, -⟩ := bit_dormant h32
  have hmode : ∀ w, (pkgStored w s).mode = s.mode := fun w => pkgStored_frame blindDomains_mode w s
  have hnoted : ∀ (b : Bool) (t : State), (if b then t.putResetDue true else t).mode = t.mode := fun b t => by
    cases b <;> rfl
  have hnone : ∀ t : State, t.mode = s.mode → dormantStatus t = St.modeState := fun t ht => by
    rw [dormantStatus_eq, ht, if_neg h]
  rw [applyPkgCtrl_eq b32, b26]
  dsimp only
  rw [if_neg (by decide)]
  generalize hu : (if bit (putFld v 26 26 1) 27 then (pkgStored (putFld v 26 26 1) s).putResetDue true
    else pkgStored (putFld v 26 26 1) s) = u
  have hmu : u.mode = s.mode := by
    rw [← hu, hnoted, hmode]
  rw [hnone u hmu, if_pos (by decide)]

theorem applyPkgCtrl_dormant (h27 : v.getLsbD 27 = false) (h : s.mode = .provision ∨ s.mode = .standby) :
    applyPkgCtrl (putFld v 26 26 1) s = .ok (enterDormant (pkgStored v s)) := by
  obtain ⟨b32, b26, b27⟩ := bit_dormant h32
  have hmode : (pkgStored v s).mode = s.mode := pkgStored_frame blindDomains_mode v s
  rw [applyPkgCtrl_eq b32, pkgStored_congr (w := v) (pkgKept_putFld (by omega) (by omega) (by omega)), b26, b27, h27,
    if_neg Bool.false_ne_true]
  dsimp only
  rw [if_neg (by decide), dormantStatus_eq, hmode, if_pos h, if_neg (by decide)]
end Dormant
end Reset

/-! ### What ends with the sessions (R450, R451) -/

/-- The batch of a session stopped. -/
def batchEnded (q : Nat) (s : State) : State :=
  match s.batch with | some b => if b.batch.ring = q then stopBatch s else s | none => s

theorem sess_batchEnded (q : Nat) (s : State) : (batchEnded q s).sess = s.sess := by
  have hstop : (stopBatch s).sess = s.sess := by
    apply stopBatch_frame (π := State.sess) (hk := rfl) <;> exact fun _ _ => rfl
  unfold batchEnded
  split
  · exact frame_ite (π := State.sess) rfl fun _ => hstop
  · rfl

theorem sess_endSession (hard : Bool) (q : Nat) (s : State) : (endSession hard q s).sess = tabSet {} s.sess q {} := by
  rw [← sess_batchEnded q s]
  cases hard <;> rfl

section Sessions
variable {s : State} (h : tabWf (fun _ => ({} : Session)) s.sess = true) (hard : Bool)
include h

theorem sessFold_empty (l : List Nat) {i : Nat} (hi : i ∈ l ∨ sessGet s i = {}) :
    sessGet (l.foldl (fun s q => endSession hard q s) s) i = {} := by
  induction l generalizing s with
  | nil => simpa using hi
  | cons q l ih =>
    refine ih (by rw [sess_endSession]; exact tabSet_ok' h) ?_
    have hget : ∀ j, sessGet (endSession hard q s) j = tabGet {} (tabSet {} s.sess q {}) j := fun j =>
      congrArg (fun t => tabGet ({} : Session) t j) (sess_endSession hard q s)
    by_cases hq : i = q
    · subst hq
      exact .inr ((hget i).trans (tabGet_tabSet_same (d := fun _ => ({} : Session)) h))
    · rw [hget, tabGet_tabSet_ne hq]
      exact hi.imp_left fun hm => (List.mem_cons.1 hm).resolve_left hq

theorem sessGet_endSessions {i : Nat} (hi : i < 4) : sessGet (endSessions hard s) i = {} :=
  sessFold_empty h hard _ (.inl (by simp; omega))
end Sessions

theorem linkLeave_st (dest : Link) (detail : Nat) (s : State) : (linkLeave dest detail s).link.st = dest := by
  unfold linkLeave
  dsimp only
  split
  · rw [intSet_eq]
    rfl
  · rfl

/-! ### DORMANT entered (R535) -/

/-- What the entry to DORMANT leaves. -/
def dormantView (s : State) : Mode × Starter × Nvm := (s.mode, s.bank, s.nvm)

/-- The entry to DORMANT before the domains move. -/
def dormantBegun (s : State) : State :=
  linkLeave .down 0 (releaseIlk 0 (endSessions false (record (pwrHq s) 0x22 srcHardware
    [mkWord [(30, 63), (27, pkgLadder s), (24, 4), (20, 7)], s.tick] s)))

theorem enterDormant_eq (s : State) : enterDormant s =
    ((List.range 56).foldl (fun s d => moveDomain d 4 8 s) (dormantBegun s)).putPhase .dormant := rfl

theorem enterDormant_moves {β : Type} {π : State → β} (hD : BlindDomains π) (hPhase : Blind π State.putPhase) (s : State) :
    π (enterDormant s) = π (dormantBegun s) := by
  rw [enterDormant_eq, hPhase]
  exact frame_foldl rfl fun u d hu => moveDomain_frame hD d 4 8 u hu

theorem sess_releaseIlk (detail : Nat) (s : State) : (releaseIlk detail s).sess = s.sess := by rw [releaseIlk_eq]
theorem ilk_releaseIlk (detail : Nat) (s : State) : (releaseIlk detail s).ilk = .released := by rw [releaseIlk_eq]

theorem sess_dormantBegun (s : State) : ∃ t : State, t.sess = s.sess ∧ (dormantBegun s).sess = (endSessions false t).sess := by
  refine ⟨_, ?_, linkLeave_frame (π := State.sess) ?_ ?_ ?_ ?_ ?_ ?_ _ _ _ (sess_releaseIlk 0 _)⟩
  · apply record_frame (π := State.sess) (hk := rfl) <;> exact fun _ _ => rfl
  all_goals exact fun _ _ => rfl

theorem ilk_dormantBegun (s : State) : (dormantBegun s).ilk = .released := by
  unfold dormantBegun
  apply linkLeave_frame (π := State.ilk) (hk := ilk_releaseIlk 0 _) <;> exact fun _ _ => rfl

theorem enterDormant_spec {s : State} (h : tabWf (fun _ => ({} : Session)) s.sess = true) :
    let t := enterDormant s
    t.phase = .dormant ∧ t.link.st = .down ∧ t.ilk = .released ∧ (∀ q, q < 4 → sessGet t q = {}) ∧
      dormantView t = dormantView s := by
  have hview : dormantView (enterDormant s) = dormantView s := by
    apply enterDormant_frame (π := dormantView) (by constructor <;> exact fun _ _ => rfl) (hk := rfl) <;> exact fun _ _ => rfl
  have hsess := enterDormant_moves (π := State.sess) (by constructor <;> exact fun _ _ => rfl) (fun _ _ => rfl) s
  have hlink := enterDormant_moves (π := State.link) (by constructor <;> exact fun _ _ => rfl) (fun _ _ => rfl) s
  have hilk := enterDormant_moves (π := State.ilk) (by constructor <;> exact fun _ _ => rfl) (fun _ _ => rfl) s
  obtain ⟨u, hu, hended⟩ := sess_dormantBegun s
  intro t
  refine ⟨rfl, (congrArg Polfen.st hlink).trans (linkLeave_st ..), hilk.trans (ilk_dormantBegun s), fun q hq => ?_, hview⟩
  exact (congrArg (fun t => tabGet ({} : Session) t q) (hsess.trans hended)).trans
    (sessGet_endSessions (by rw [hu]; exact h) false hq)

/-! ### QUARANTINE (R389, R450, R458) -/

theorem setMode_quarantine_eq {s : State} (cause : Nat) (h : s.mode ≠ .quarantine) :
    setMode .quarantine cause s =
      let u := modeTaken .quarantine cause s
      modeSettled .quarantine s.mode (intSet 20 (record (pwrHq u) 0x23 srcHardware
        [modeEvtWord u (modeCode s.mode) (modeCode .quarantine) cause, u.tick] u)) := by
  unfold setMode
  rw [if_neg h]
  dsimp only
  rw [if_pos rfl]
  rfl

/-- The mode and its cause. -/
def causeView (s : State) : Mode × Nat := (s.mode, s.modeCause)

theorem setMode_quarantine {s : State} (cause : Nat) (h : s.mode ≠ .quarantine) :
    causeView (setMode .quarantine cause s) = (.quarantine, cause) := by
  have hu : causeView (modeTaken .quarantine cause s) = (.quarantine, cause) :=
    congrArg (fun x : State => (x.mode, x.modeCause)) (modeTaken_hide .quarantine cause s)
  rw [setMode_quarantine_eq cause h]
  generalize modeTaken .quarantine cause s = u at hu ⊢
  dsimp only
  rw [modeSettled_frame_of_ne (π := causeView) (by constructor <;> exact fun _ _ => rfl) (by decide), intSet_eq]
  refine Eq.trans ?_ hu
  apply record_frame (π := causeView) (hk := rfl) <;> exact fun _ _ => rfl

theorem setMode_sec (new : Mode) (cause : Nat) (s : State) : (setMode new cause s).sec = s.sec := by
  apply setMode_frame (π := State.sec) (by constructor <;> exact fun _ _ => rfl) (hk := rfl) <;> exact fun _ _ => rfl

theorem setMode_sess (new : Mode) (cause : Nat) (s : State) : (setMode new cause s).sess = s.sess := by
  apply setMode_frame (π := State.sess) (by constructor <;> exact fun _ _ => rfl) (hk := rfl) <;> exact fun _ _ => rfl

/-- QUARANTINE before the sessions, the starters and the link go. -/
def quarantineBegun (qcause cause : Nat) (s : State) : State :=
  releaseIlk 1 (setMode .quarantine cause (s.putSec { s.sec with qcause := qcause }))

/-- The starters and the keys gone. -/
def keysGone (trip : Bool) (s : State) : State :=
  ((s.putBank {}).putSpare {}).putSec { s.sec with sealed := none, slots := if trip then 0 else s.sec.slots }

theorem quarantine_eq {qcause cause : Nat} {trip : Bool} {s : State} (h : s.mode ≠ .quarantine) :
    quarantine qcause cause trip s = linkLeave .down 0 (keysGone trip (endSessions true (quarantineBegun qcause cause s))) := if_neg h

/-- Mode, cause, keys and interlock. -/
def lostView (s : State) : Mode × Nat × Sec × Ilk := (s.mode, s.modeCause, s.sec, s.ilk)

theorem endSessions_lostView (hard : Bool) (s : State) : lostView (endSessions hard s) = lostView s := by
  apply endSessions_frame (π := lostView) (hk := rfl) <;> exact fun _ _ => rfl

theorem quarantineBegun_spec (qcause cause : Nat) {s : State} (h : s.mode ≠ .quarantine) :
    let t := quarantineBegun qcause cause s
    t.mode = .quarantine ∧ t.modeCause = cause ∧ t.sec = { s.sec with qcause := qcause } ∧ t.ilk = .released ∧ t.sess = s.sess := by
  have hsec := setMode_sec .quarantine cause (s.putSec { s.sec with qcause := qcause })
  have hsess := setMode_sess .quarantine cause (s.putSec { s.sec with qcause := qcause })
  have hcause := setMode_quarantine (s := s.putSec { s.sec with qcause := qcause }) cause h
  simp only [causeView, Prod.mk.injEq] at hcause
  obtain ⟨h1, h2⟩ := hcause
  intro t
  have ht : t = releaseIlk 1 (setMode .quarantine cause (s.putSec { s.sec with qcause := qcause })) := rfl
  rw [releaseIlk_eq] at ht
  rw [ht]
  exact ⟨h1, h2, hsec, rfl, hsess⟩

/-- What stands before the link goes. -/
def sweptView (s : State) : Mode × Nat × Sec × Ilk × Starter × Starter × Tab Session :=
  (s.mode, s.modeCause, s.sec, s.ilk, s.bank, s.spare, s.sess)

theorem keysGone_view (trip : Bool) (s : State) : sweptView (keysGone trip s) =
    (s.mode, s.modeCause, { s.sec with sealed := none, slots := if trip then 0 else s.sec.slots }, s.ilk, {}, {}, s.sess) := rfl

/-- What QUARANTINE leaves. -/
theorem quarantine_spec (qcause cause : Nat) (trip : Bool) {s : State} (h : s.mode ≠ .quarantine)
    (hs : tabWf (fun _ => ({} : Session)) s.sess = true) :
    let t := quarantine qcause cause trip s
    t.mode = .quarantine ∧ t.modeCause = cause ∧ t.sec.qcause = qcause ∧ t.ilk = .released ∧ drivesLine t = false ∧
      t.bank = {} ∧ t.spare = {} ∧ t.link.st = .down ∧ (∀ i, i < 4 → sessGet t i = {}) ∧
      t.sec.slots = if trip then 0 else s.sec.slots := by
  obtain ⟨b1, b2, b3, b4, b5⟩ := quarantineBegun_spec qcause cause h
  intro t
  have ht : t = linkLeave .down 0 (keysGone trip (endSessions true (quarantineBegun qcause cause s))) := quarantine_eq h
  have hlink : t.link.st = .down := by rw [ht]; exact linkLeave_st ..
  have hview : sweptView t = sweptView (keysGone trip (endSessions true (quarantineBegun qcause cause s))) := by
    rw [ht]
    apply linkLeave_frame (π := sweptView) (hk := rfl) <;> exact fun _ _ => rfl
  clear_value t
  clear ht
  generalize quarantineBegun qcause cause s = u at *
  have hended := endSessions_lostView true u
  have hsess : ∀ i, i < 4 → sessGet (endSessions true u) i = {} := fun i hi => sessGet_endSessions (by rw [b5]; exact hs) true hi
  generalize endSessions true u = v at *
  rw [keysGone_view] at hview
  simp only [lostView, Prod.mk.injEq] at hended
  obtain ⟨e1, e2, e3, e4⟩ := hended
  rw [e1, e2, e3, e4] at hview
  simp only [sweptView, Prod.mk.injEq] at hview
  obtain ⟨v1, v2, v3, v4, v5, v6, v7⟩ := hview
  have hmode := v1.trans b1
  refine ⟨hmode, v2.trans b2, by rw [v3, b3], v4.trans b4, by simp [drivesLine, hmode], v5, v6, hlink, fun i hi => ?_, by rw [v3, b3]⟩
  exact (congrArg (fun t => tabGet ({} : Session) t i) v7).trans (hsess i hi)

end Sys2Proof.Machine
end

section
/-! PROOFS. O48: what is left of failures and trips, and the whole statement. -/

namespace Sys2Proof.Machine

/-- What a failure or a trip leaves: QUARANTINE, with nothing of the package's part in traffic. -/
def lostAll (t : State) (q : Nat) : Prop :=
  t.mode = .quarantine ∧ t.modeCause = 9 ∧ t.sec.qcause = q ∧ t.ilk = .released ∧ drivesLine t = false ∧ t.bank = {} ∧
    t.spare = {} ∧ t.link.st = .down ∧ ∀ i, i < 4 → sessGet t i = {}

theorem quarantine_lostAll (q : Nat) (trip : Bool) {s : State} (h : s.mode ≠ .quarantine)
    (hs : tabWf (fun _ => ({} : Session)) s.sess = true) :
    lostAll (quarantine q 9 trip s) q ∧ (quarantine q 9 trip s).sec.slots = if trip then 0 else s.sec.slots := by
  obtain ⟨h1, h2, h3, h4, h5, h6, h7, h8, h9, h10⟩ := quarantine_spec q 9 trip h hs
  exact ⟨⟨h1, h2, h3, h4, h5, h6, h7, h8, h9⟩, h10⟩

theorem tamperTrip_lostAll (m : Tamper) {s : State} (hp : s.phase ≠ .off) (h : s.mode ≠ .quarantine)
    (hs : tabWf (fun _ => ({} : Session)) s.sess = true) :
    reaches (exec (.tamperTrip m) s) fun t => lostAll t (tamperCodes m).1 ∧ t.sec.slots = 0 := by
  have hexec : exec (.tamperTrip m) s = .next (quarantine (tamperCodes m).1 9 true (cenInc (tamperCodes m).2 s)) :=
    congrArg _ (if_neg hp)
  have hsess : (cenInc (tamperCodes m).2 s).sess = s.sess := by
    apply cenInc_frame (π := State.sess) (hk := rfl) <;> exact fun _ _ => rfl
  exact ⟨_, hexec, quarantine_lostAll _ true (by rw [cenInc_mode]; exact h) (by rw [hsess]; exact hs)⟩

theorem cpmFail_lostAll (r : RegionId) {s : State} (hr : railOn s r.val = true) (hv : (vloopGet s r.val).vout = 850)
    (h : s.mode ≠ .quarantine) (hs : tabWf (fun _ => ({} : Session)) s.sess = true) :
    reaches (exec (.cpmFailQuarantine r) s) fun t => lostAll t 1 ∧ t.sec.slots = s.sec.slots := by
  have hexec : exec (.cpmFailQuarantine r) s = .next (quarantine 1 9 false s) := congrArg _ (if_pos (by simp [hr, hv]))
  exact ⟨_, hexec, quarantine_lostAll 1 false h hs⟩

theorem releaseToStandby_enters {s : State} (hl : s.rdn.leaving = true) (hi : s.ilk ≠ .holding)
    (hm : s.mode = .takeover ∨ s.mode = .active) (hg : s.rdn.grant = false) :
    reaches (exec .releaseToStandby s) fun t => t.mode = .standby ∧ t.modeCause = 7 ∧
      t.rdn = { s.rdn with leaving := false, want := 5 } ∧ t.ilk = s.ilk ∧ t.bank = s.bank ∧
      t.due = s.due ++ [modeRecord s .standby 7] := by
  have hexec : exec .releaseToStandby s = .next (enterMode .standby 7 (s.putRdn { s.rdn with leaving := false })) :=
    congrArg _ (if_pos (by simpa [hl, hi] using hm))
  have hne : (s.putRdn { s.rdn with leaving := false }).mode ≠ .standby := by
    show s.mode ≠ .standby
    obtain hm | hm := hm <;> rw [hm] <;> decide
  exact ⟨_, hexec, enterMode_standby 7 hne hg⟩

theorem dormantEntry_enters {v : Word} {o : Origin} {s : State} (hsess : tabWf (fun _ => ({} : Session)) s.sess = true)
    (h32 : v.getLsbD 32 = false) (h27 : v.getLsbD 27 = false) (h : s.mode = .provision ∨ s.mode = .standby) :
    applies o .word pkgCtrlAddr s (.next (settle o .word pkgCtrlAddr s (applyPkgCtrl (putFld v 26 26 1) s))) fun t =>
      t.phase = .dormant ∧ t.link.st = .down ∧ t.ilk = .released ∧ t.mode = s.mode ∧ (∀ q, q < 4 → sessGet t q = {}) ∧
        t.bank = s.bank ∧ t.nvm = s.nvm := by
  have hview := pkgStored_frame (π := dormantView) (by constructor <;> exact fun _ _ => rfl) v s
  have hstored := pkgStored_frame (π := State.sess) (by constructor <;> exact fun _ _ => rfl) v s
  rw [applyPkgCtrl_dormant h32 h27 h]
  refine applies_ok ?_
  generalize pkgStored v s = u at hview hstored ⊢
  obtain ⟨h1, h2, h3, h4, h5⟩ := enterDormant_spec (s := u) (by rw [hstored]; exact hsess)
  rw [hview] at h5
  simp only [dormantView, Prod.mk.injEq] at h5
  obtain ⟨h6, h7, h8⟩ := h5
  exact ⟨h1, h2, h3, h6, h4, h7, h8⟩

/-- Settles O48: the takeover's starter and its end, the release, the writes to PWR_PKG_CTRL, and what quarantines. -/
theorem takeoverEndsAndModesAreRequested : Obligations.TakeoverEndsAndModesAreRequested := by
  unfold Obligations.TakeoverEndsAndModesAreRequested
  intro l r w s hs n rec_ modeRec ctrl prov applying ending leaving v a allowed plain sleepy
  have hcw := tablesOk_cw hs
  have hsess := tablesOk_sess hs
  refine ⟨fun h ht => ⟨_, exec_starterApply_of_own h ht, rfl, starterTaken_spec (tablesOk_pairs hs)⟩,
    fun h ht => exec_starterApply_of_take h ht, fun h => ?_, fun h ht => ?_, fun h => ?_, fun h hg => ?_, fun h => ?_,
    fun h c hc => ?_, fun h hp hg hi => ⟨?_, ?_, ?_⟩, pkgResetReq_noted hcw, fun h32 h => ?_, fun h32 h27 h => ?_, fun h => ?_,
    fun h => congrArg _ (if_neg h), fun h => ⟨fun hr hv => cpmFail_lostAll r hr hv h hsess, fun hp => ⟨tamperTrip_lostAll _ hp h hsess,
      tamperTrip_lostAll _ hp h hsess, tamperTrip_lostAll _ hp h hsess, tamperTrip_lostAll _ hp h hsess,
      tamperTrip_lostAll _ hp h hsess⟩⟩, fun h => ?_, fun h => congrArg _ (if_pos h)⟩
  · refine congrArg _ (if_neg fun h' => h ?_)
    simpa [and_assoc] using h'
  · obtain ⟨hm, hi, ha⟩ := h
    obtain ⟨t, he, h1, h2, h3, h4, h5, h6⟩ := takeoverActive_ends hm hi ha ht
    rw [modeRecord, show (s.putRdn { s.rdn with provisional := s.rdn.provisional || s.rdn.late }).mode = .takeover from hm] at h6
    exact ⟨t, he, h1, h2, h3, h4, h5, h6⟩
  · refine congrArg _ (if_neg fun h' => ?_)
    have h' : ending ∧ (l = true ∨ trafficUp s = true) := by
      refine (and_assoc (c := l = true ∨ trafficUp s = true)).2 ?_
      simpa [and_assoc] using h'
    obtain ⟨he, ht⟩ := h'
    obtain h | ⟨h1, h2⟩ := h
    · exact h he
    · obtain rfl | ht := ht
      · exact absurd h1 (by decide)
      · rw [h2] at ht; exact absurd ht (by decide)
  · obtain ⟨hl, hi, hm⟩ := h
    exact releaseToStandby_enters hl hi hm hg
  · refine congrArg _ (if_neg fun h' => h ?_)
    simpa [and_assoc] using h'
  · simp only [List.mem_cons, List.not_mem_nil, or_false] at hc
    obtain rfl | rfl | rfl := hc
    · exact congrArg (fun x => Host.Outcome.next (settle w.origin .word a s x)) (applyPkgCtrl_refused (by decide) h)
    · exact congrArg (fun x => Host.Outcome.next (settle w.origin .word a s x)) (applyPkgCtrl_refused (by decide) h)
    · exact congrArg (fun x => Host.Outcome.next (settle w.origin .word a s x)) (applyPkgCtrl_refused (by decide) h)
  · have henter := modeReqStandby_enters (o := w.origin) h hp hg
    rw [modeRecord_pkgStored hcw] at henter
    exact henter
  · have henter := modeReqProvision_enters (o := w.origin) h hp hg
    rw [modeRecord_pkgStored hcw] at henter
    exact henter
  · have henter := modeReqTest_enters (o := w.origin) h hp hi
    rw [modeRecord_pkgStored hcw] at henter
    exact henter
  · exact congrArg (fun x => Host.Outcome.next (settle w.origin .word a s x)) (applyPkgCtrl_dormant_refused h32 h)
  · exact dormantEntry_enters hsess h32 h27 h
  · rw [show exec (.dormantWake l) s = .next ((wipe .inReset false s).putRdn { (wipe .inReset false s).rdn with grant := l })
      from congrArg _ (if_pos h)]
    exact ⟨_, rfl, rfl, rfl, rfl, rfl, rfl, rfl, rfl, rfl⟩
  · refine congrArg _ (if_neg ?_)
    obtain h | h := h <;> simp [h]

end Sys2Proof.Machine
end

section
/-! PROOFS. O43: the link locks, pairs, renews its keys and leaves (R412 to R414). -/

namespace Sys2Proof.Machine

/-- A state with other pending interrupts. -/
def signalled (p m : Nat) (o : List Out) (s : State) : State := { s with intPend := p, msixPba := m, out := o }

theorem intSet_signalled (i : Nat) (s : State) : ∃ p m o, intSet i s = signalled p m o s ∧ p.testBit i = true :=
  intSet_exists i s

/-! ### Leaving a state of the link (R412, R413) -/

/-- The link with nothing outstanding and no credit. -/
def linkLeft (dest : Link) (k : Polfen) : Polfen :=
  { k with st := dest, sent := [], again := [], nak := false, part := 0, cr := 0, grant := 0 }

/-- A package with its link left. -/
def linkOut (dest : Link) (s : State) : State :=
  { s with link := linkLeft dest s.link, rdn := { s.rdn with sweepRx := none, sweepTx := none } }

theorem linkLeave_eq (dest : Link) (d : Nat) (s : State) :
    linkLeave dest d s = if linkUp s then intSet 24 (mateEvt 2 d 0 (linkOut dest s)) else linkOut dest s := rfl

theorem mateEvt_linkOut (e d x : Nat) (dest : Link) (s : State) :
    mateEvt e d x (linkOut dest s) = (linkOut dest s).putDue (s.due ++ [mateRecord s e d x]) := rfl

theorem linkLeave_of_up {s : State} (h : s.link.st = .up) (dest : Link) (d : Nat) : ∃ p m o, linkLeave dest d s =
    signalled p m o ((linkOut dest s).putDue (s.due ++ [mateRecord s 2 d 0])) ∧ p.testBit 24 = true := by
  rw [linkLeave_eq, if_pos (by simp [linkUp, h]), mateEvt_linkOut]
  exact intSet_signalled 24 _

theorem linkLeave_of_not_up {s : State} (h : s.link.st ≠ .up) (dest : Link) (d : Nat) : linkLeave dest d s = linkOut dest s :=
  if_neg (by simp [linkUp, h])

theorem exec_lockLoss {s : State} (h : s.link.st = .key ∨ s.link.st = .up) :
    exec .polfenLockLoss s = .next (cenInc 46 (linkLeave .lock 0 s)) := congrArg _ (if_pos (by simpa using h))

theorem lockLoss_of_up {s : State} (hs : tabWf cwReset s.cw = true) (h : s.link.st = .up) :
    reaches (exec .polfenLockLoss s) fun t => t.link = linkLeft .lock s.link ∧
      t.rdn = { s.rdn with sweepRx := none, sweepTx := none } ∧ t.due = s.due ++ [mateRecord s 2 0 0] ∧
      t.intPend.testBit 24 = true ∧ cwKept s t [ctlAddr clsCen 0 46] ∧
      t = { s with link := t.link, rdn := t.rdn, due := t.due, intPend := t.intPend, msixPba := t.msixPba, out := t.out, cw := t.cw } := by
  obtain ⟨p, m, o, hleave, hbit⟩ := linkLeave_of_up h .lock 0
  obtain ⟨c, hc, hwords⟩ := (cenInc_work (n := 46)
    (s := signalled p m o ((linkOut .lock s).putDue (s.due ++ [mateRecord s 2 0 0]))) (by decide) hs).exists_cw
  have hexec : exec .polfenLockLoss s = .next { s with
      link := linkLeft .lock s.link, rdn := { s.rdn with sweepRx := none, sweepTx := none },
      due := s.due ++ [mateRecord s 2 0 0], intPend := p, msixPba := m, out := o, cw := c } := by
    rw [exec_lockLoss (.inr h), hleave, hc]
    rfl
  exact ⟨_, hexec, rfl, rfl, rfl, hbit, hwords, rfl⟩

theorem lockLoss_of_key {s : State} (hs : tabWf cwReset s.cw = true) (h : s.link.st = .key) :
    reaches (exec .polfenLockLoss s) fun t => t.link = linkLeft .lock s.link ∧
      t.rdn = { s.rdn with sweepRx := none, sweepTx := none } ∧ cwKept s t [ctlAddr clsCen 0 46] ∧
      t = { s with link := t.link, rdn := t.rdn, cw := t.cw } := by
  obtain ⟨c, hc, hwords⟩ := (cenInc_work (n := 46) (s := linkOut .lock s) (by decide) hs).exists_cw
  have hexec : exec .polfenLockLoss s = .next { s with
      link := linkLeft .lock s.link, rdn := { s.rdn with sweepRx := none, sweepTx := none }, cw := c } := by
    rw [exec_lockLoss (.inl h), linkLeave_of_not_up (by simp [h]), hc]
    rfl
  exact ⟨_, hexec, rfl, rfl, hwords, rfl⟩

/-! ### HELLO (R412, R414) -/

/-- The link UP with new keys and the whole buffer granted both ways. -/
def linkPaired (epoch : Nat) (k : Polfen) : Polfen :=
  { freshEpoch epoch k with st := .up, clash := false, cr := mateLines - mateFill k, grant := mateLines, part := 0 }

/-- A holder resynchronises; another package does not. -/
def holderResyncs (row : Nat) (s : State) : State := if s.ilk = .holding then resync row s else s

theorem resync_of_holding {s : State} (h : s.ilk = .holding) (row : Nat) : resync row s = s.putRdn { s.rdn with want := row } :=
  if_pos (by simp [State.putRdn, h])

theorem holderResyncs_eq (row : Nat) (s : State) :
    holderResyncs row s = if s.ilk = .holding then s.putRdn { s.rdn with want := row } else s := by
  unfold holderResyncs
  split
  next h => exact resync_of_holding h row
  · rfl

section Hello
variable {seat : Fin 2} {epoch : Nat} {s : State} (h : s.link.st = .key)
include h

theorem polfenHello_refused {paired : Bool} (hr : paired = false ∨ s.sec.unlocked = true) :
    exec (.polfenHello seat paired epoch) s = .next { s with due := s.due ++ [mateRecord s 2 2 0] } := by
  have hno : (!paired || s.sec.unlocked) = true := by obtain hr | hr := hr <;> simp [hr]
  exact congrArg _ ((if_pos h).trans (if_pos hno))

theorem polfenHello_clash (hu : s.sec.unlocked = false) : exec (.polfenHello s.straps.seat true epoch) s =
    .next { s with link := { s.link with clash := true }, due := s.due ++ [mateRecord s 2 3 0] } :=
  congrArg _ ((if_pos h).trans ((if_neg (by simp [hu])).trans (if_pos rfl)))

theorem polfenHello_pairs (hu : s.sec.unlocked = false) (hseat : seat ≠ s.straps.seat) :
    reaches (exec (.polfenHello seat true epoch) s) fun t => t.link = linkPaired epoch s.link ∧
      t.rdn = (if s.ilk = .holding then { s.rdn with want := 1 } else s.rdn) ∧ t.due = s.due ++ [mateRecord s 1 0 0] ∧
      t.intPend.testBit 24 = true ∧
      t = { s with link := t.link, rdn := t.rdn, due := t.due, intPend := t.intPend, msixPba := t.msixPba, out := t.out } := by
  obtain ⟨p, m, o, hint, hbit⟩ := intSet_signalled 24 (mateEvt 1 0 0 (s.putLink (linkPaired epoch s.link)))
  have hexec : exec (.polfenHello seat true epoch) s =
      .next (holderResyncs 1 (intSet 24 (mateEvt 1 0 0 (s.putLink (linkPaired epoch s.link))))) :=
    congrArg _ ((if_pos h).trans ((if_neg (by simp [hu])).trans (if_neg hseat)))
  have hflat : exec (.polfenHello seat true epoch) s = .next { s with
      link := linkPaired epoch s.link, rdn := if s.ilk = .holding then { s.rdn with want := 1 } else s.rdn,
      due := s.due ++ [mateRecord s 1 0 0], intPend := p, msixPba := m, out := o } := by
    rw [hexec, hint, holderResyncs_eq]
    by_cases hi : s.ilk = .holding
    · rw [if_pos hi]
      exact congrArg _ (if_pos hi)
    · rw [if_neg hi]
      exact congrArg _ (if_neg hi)
  exact ⟨_, hflat, rfl, rfl, rfl, hbit, rfl⟩
end Hello

/-- Where the link seeks lock. -/
theorem linkSeek_eq (s : State) : linkSeek s =
    if (cwGet s (mateAddr 0)).getLsbD 35 = true ∧ s.link.halted = false ∧ domRuns s 49 = true then .lock else .down := by
  simp [linkSeek, linkOn, mateCtrl, and_assoc]

/-- Settles O43: each event of the link by the state it finds. -/
theorem theLinkPairsAndLeaves : Obligations.TheLinkPairsAndLeaves := by
  unfold Obligations.TheLinkPairsAndLeaves
  intro seat epoch s hs k m rec_ left again
  have hcw := tablesOk_cw hs
  refine ⟨fun h => congrArg _ (if_pos h), fun h => congrArg _ (if_neg h), lockLoss_of_up hcw, lockLoss_of_key hcw,
    fun h1 h2 => congrArg _ (if_neg ?_), polfenHello_pairs, fun h => polfenHello_refused h (.inl rfl),
    fun h hu => polfenHello_refused h (.inr hu), polfenHello_clash, fun h => congrArg _ (if_neg h),
    fun h ht => congrArg _ (if_pos ?_), fun ht => congrArg _ (if_neg ?_), fun h => ?_, fun h => congrArg _ (if_neg h), fun h => ?_⟩
  · simpa using ⟨h1, h2⟩
  · simpa [linkUp] using ⟨h, ht⟩
  · simp only [linkUp, ge_iff_le, Bool.and_eq_true, decide_eq_true_eq, not_and, not_le]
    exact fun _ => ht
  · have hseek : linkSeek s =
        if m.getLsbD 35 = true ∧ k.halted = false ∧ domRuns s 49 = true then .lock else .down := linkSeek_eq s
    rw [← hseek]
    exact congrArg _ (if_pos h)
  · by_cases hn : s.link.sent = []
    · rw [if_pos hn]
      exact congrArg _ (if_neg (by simp [hn]))
    · rw [if_neg hn]
      exact congrArg _ (if_pos (by simpa [linkUp, hn] using h))

end Sys2Proof.Machine
end

section
/-! PROOFS. O44: frames of the link sent and taken (R405 to R415). -/

namespace Sys2Proof.Machine

/-! ### Counts beside the census -/

/-- A field counted up and a census counter, as a new table of control words. -/
theorem cenInc_cwCountFld_exists {n a hi lo : Nat} {s : State} (hn : n < 56) (hs : tabWf cwReset s.cw = true)
    (ha : a / 2 ^ 18 ≠ clsCen) (hlo : lo ≤ hi) (hhi : hi < 36) : ∃ c, cenInc n (cwCountFld a hi lo 1 s) = s.putCw c ∧
      fld (tabGet (cwReset a) c a) hi lo = min (fld (cwGet s a) hi lo + 1) (2 ^ (hi + 1 - lo) - 1) ∧
      ∀ b, b ∉ [a, ctlAddr clsCen 0 n] → tabGet (cwReset b) c b = cwGet s b := by
  obtain ⟨hfld, hkept, hrest⟩ := cwCountFld_spec (a := a) (n := 1) hs hlo hhi
  have hok : tabWf cwReset (cwCountFld a hi lo 1 s).cw = true := cwSet_ok hs
  obtain ⟨c, hc, hwords⟩ := (cenInc_work hn hok).exists_cw
  refine ⟨c, ?_, ?_, fun b hb => ?_⟩
  · rw [hc, hrest]
    rfl
  · rw [hwords a (by simpa using ne_cen_of_class ha (by omega))]
    exact hfld
  · rw [hwords b fun h => hb (List.mem_cons_of_mem _ h)]
    exact hkept b fun h => hb (by simp only [List.mem_singleton] at h; simp [h])

/-! ### A hostile frame (R413) -/

/-- The tear-downs of the last second, this one among them. -/
def recentDrops (s : State) : List Nat := tickCount s :: s.link.drops.filter fun x => decide (tickCount s < x + 8000)

/-- The link in HOLD after a tear-down. -/
def tornLink (s : State) : Polfen :=
  { linkLeft .hold s.link with drops := recentDrops s, halted := s.link.halted || decide ((recentDrops s).length ≥ 8) }

/-- A tear-down is sent as the link is left. -/
def tearDownSent (p m : Nat) (o : List Out) (s : State) : State :=
  { s with
    link := linkLeft .hold s.link, rdn := { s.rdn with sweepRx := none, sweepTx := none }, due := s.due ++ [mateRecord s 2 1 0],
    intPend := p, msixPba := m, out := .teardown :: o }

theorem tearDown_eq (s : State) : tearDown s =
    (let u := cenInc 45 (cwCountFld (mateAddr 8) 35 18 1 (emit .teardown (linkLeave .hold 1 s)));
      u.putLink { u.link with drops := recentDrops s, halted := u.link.halted || decide ((recentDrops s).length ≥ 8) }) := rfl

theorem emit_teardown_eq {s : State} (h : s.link.st = .up) : ∃ p m o,
    emit .teardown (linkLeave .hold 1 s) = tearDownSent p m o s := by
  obtain ⟨p, m, o, hleave, -⟩ := linkLeave_of_up h .hold 1
  exact ⟨p, m, o, by rw [hleave]; rfl⟩

theorem tearDown_flat {s : State} (hs : tabWf cwReset s.cw = true) (h : s.link.st = .up) : ∃ p m o c, tearDown s = { s with
      link := tornLink s, rdn := { s.rdn with sweepRx := none, sweepTx := none }, due := s.due ++ [mateRecord s 2 1 0],
      intPend := p, msixPba := m, out := .teardown :: o, cw := c } ∧
      fld (tabGet (cwReset (mateAddr 8)) c (mateAddr 8)) 35 18 = min (fld (cwGet s (mateAddr 8)) 35 18 + 1) 0x3FFFF ∧
      ∀ b, b ∉ [mateAddr 8, ctlAddr clsCen 0 45] → tabGet (cwReset b) c b = cwGet s b := by
  obtain ⟨p, m, o, hsent⟩ := emit_teardown_eq h
  obtain ⟨c, hc, hfld, hwords⟩ := cenInc_cwCountFld_exists (n := 45) (a := mateAddr 8) (hi := 35) (lo := 18)
    (s := tearDownSent p m o s) (by decide) hs (by decide) (by decide) (by decide)
  refine ⟨p, m, o, c, ?_, hfld, hwords⟩
  rw [tearDown_eq, hsent, hc]
  rfl

section Up
variable {f : PFrame} {s : State} (hs : tabWf cwReset s.cw = true) (h : s.link.st = .up)
include h

theorem linkUp_of_up : (!linkUp s) = false := by simp [linkUp, h]

theorem frameRx_of_bad_crc (tag : Bool) : exec (.polfenFrameRx f false tag) s =
    .next (cwCountFld (mateAddr 7) 17 0 1 { s with link := { s.link with nak := true } }) :=
  congrArg _ ((if_neg (by simp [linkUp_of_up h])).trans (if_pos rfl))

theorem frameRx_of_crc {tag : Bool} (ht : f.ty ≤ 8) : exec (.polfenFrameRx f true tag) s =
    .next (if !tag then tearDown s else if f.seq ≠ s.link.rxSeq then s else if f.ty = 8 then linkLeave .hold 1 s else frameIn f s) :=
  congrArg _ ((if_neg (by simp [linkUp_of_up h])).trans (if_neg (by simp; omega)))

include hs in
theorem frameRx_of_bad_tag (ht : f.ty ≤ 8) :
    reaches (exec (.polfenFrameRx f true false) s) fun t =>
      t.link = { linkLeft .hold s.link with drops := t.link.drops, halted := t.link.halted } ∧
      (t.link.halted = true ↔ s.link.halted = true ∨ 8 ≤ t.link.drops.length) ∧ t.link.drops = recentDrops s ∧
      t.due = s.due ++ [mateRecord s 2 1 0] ∧ t.out.head? = some .teardown ∧
      fld (cwGet t (mateAddr 8)) 35 18 = min (fld (cwGet s (mateAddr 8)) 35 18 + 1) 0x3FFFF ∧
      cwKept s t [mateAddr 8, ctlAddr clsCen 0 45] ∧ t.pending = s.pending ∧ t.ilk = s.ilk ∧ t.mode = s.mode := by
  obtain ⟨p, m, o, c, htorn, hfld, hwords⟩ := tearDown_flat hs h
  have hexec := frameRx_of_crc (tag := false) h ht
  rw [if_pos (by decide), htorn] at hexec
  exact ⟨_, hexec, rfl, by simp [tornLink], rfl, rfl, rfl, hfld, hwords, rfl, rfl, rfl⟩

theorem frameRx_of_teardown (ht : f.ty = 8) (hq : f.seq = s.link.rxSeq) :
    reaches (exec (.polfenFrameRx f true true) s) fun t => t.link = linkLeft .hold s.link ∧
      t.due = s.due ++ [mateRecord s 2 1 0] ∧ t.intPend.testBit 24 = true := by
  obtain ⟨p, m, o, hleave, hbit⟩ := linkLeave_of_up h .hold 1
  have hexec := frameRx_of_crc (f := f) (tag := true) h (by omega)
  rw [if_neg (by decide), if_neg (by simp [hq]), if_pos ht, hleave] at hexec
  exact ⟨_, hexec, rfl, rfl, hbit⟩
end Up

/-! ### A frame in sequence (R407, R410, R415) -/

/-- The link after an acknowledgement. -/
def acked (f : PFrame) (k : Polfen) : Polfen :=
  { k with
    rxSeq := f.seq + 1, sent := afterAck f.ack k.sent, again := if f.nak then afterAck f.ack k.sent else k.again }

/-- The link with credits of the mate, clipped at the room (R344). -/
def credited (crg : Nat) (k : Polfen) : Polfen :=
  { k with
    cr := min (k.cr + 64 * crg) (mateLines - mateFill k),
    clipped := k.clipped || decide (mateLines - mateFill k < k.cr + 64 * crg) }

theorem mateGrant_eq (crg : Nat) (s : State) : mateGrant crg s = s.putLink (credited crg s.link) := by
  unfold mateGrant
  dsimp only
  split
  next h => rw [credited, Nat.min_eq_right (Nat.le_of_lt h), decide_eq_true h, Bool.or_true]
  next h => rw [credited, Nat.min_eq_left (Nat.le_of_not_lt h), decide_eq_false h, Bool.or_false]

/-- Frames that carry starter data. -/
def starterFrame (f : PFrame) : Prop := f.ty = 3 ∨ f.ty = 4 ∨ f.ty = 5

/-- The package with the acknowledgement and the credits of a frame. -/
def frameTaken (f : PFrame) (s : State) : State := s.putLink (credited f.crg (acked f s.link))

/-- A frame given to the package: starter data is discarded by a holder, the last frame of a message completes it. -/
def frameDelivered (f : PFrame) (s : State) : State :=
  if s.ilk = .holding && (f.ty = 3 || f.ty = 4 || f.ty = 5) then
    cwCountFld (mateAddr 8) 17 0 1 (s.putLink { s.link with discarded := true, grant := s.link.grant + f.len })
  else
    match f.last, f.msg with
    | true, some m => s.putLink { s.link with inbox := s.link.inbox ++ [m] }
    | _, _ => s

section FrameIn
variable {f : PFrame} {s : State}

theorem frameIn_eq : frameIn f s = frameDelivered f (frameTaken f s) := by
  rw [show frameTaken f s = mateGrant f.crg (s.putLink (acked f s.link)) from (mateGrant_eq f.crg (s.putLink (acked f s.link))).symm]
  rfl

theorem frameIn_of_starter (h : s.ilk = .holding ∧ starterFrame f) :
    frameIn f s = cwCountFld (mateAddr 8) 17 0 1 { s with
      link := { credited f.crg (acked f s.link) with discarded := true, grant := s.link.grant + f.len } } := by
  obtain ⟨hi, ht⟩ := h
  rw [frameIn_eq]
  exact if_pos (by simpa [frameTaken, State.putLink, hi, starterFrame, or_assoc] using ht)

theorem frameIn_of_other (h : ¬ (s.ilk = .holding ∧ starterFrame f)) :
    frameIn f s = { s with link := { credited f.crg (acked f s.link) with
      inbox := s.link.inbox ++ if f.last then f.msg.toList else [] } } := by
  have hsame : frameTaken f s = { s with link := { credited f.crg (acked f s.link) with inbox := s.link.inbox ++ [] } } := by
    rw [List.append_nil]
    rfl
  have hno : ¬ (decide ((frameTaken f s).ilk = .holding) && (f.ty = 3 || f.ty = 4 || f.ty = 5)) = true := fun hyes =>
    h ⟨of_decide_eq_true (Bool.and_eq_true_iff.1 hyes).1,
      by simpa [starterFrame, or_assoc] using (Bool.and_eq_true_iff.1 hyes).2⟩
  rw [frameIn_eq]
  refine (if_neg hno).trans ?_
  cases f.last with
  | false => exact hsame
  | true =>
    cases f.msg with
    | none => exact hsame
    | some m => rfl
end FrameIn

section InSequence
variable {f : PFrame} {s : State} (h : s.link.st = .up) (hq : f.seq = s.link.rxSeq)
include h hq

theorem frameRx_in_sequence (ht : f.ty < 8) : exec (.polfenFrameRx f true true) s = .next (frameIn f s) := by
  rw [frameRx_of_crc h (by omega), if_neg (by decide), if_neg (by simp [hq]), if_neg (by omega)]

theorem frameRx_of_starter (hs : tabWf cwReset s.cw = true) (hst : s.ilk = .holding ∧ starterFrame f) :
    reaches (exec (.polfenFrameRx f true true) s) fun t =>
    t.link = { credited f.crg (acked f s.link) with discarded := true, grant := s.link.grant + f.len } ∧
      fld (cwGet t (mateAddr 8)) 17 0 = min (fld (cwGet s (mateAddr 8)) 17 0 + 1) 0x3FFFF ∧
      cwKept s t [mateAddr 8] ∧ t = { s with link := t.link, cw := t.cw } := by
  have ht : f.ty < 8 := by obtain ⟨-, h3 | h4 | h5⟩ := hst <;> omega
  have hexec := frameRx_in_sequence h hq ht
  rw [frameIn_of_starter hst] at hexec
  obtain ⟨hfld, hkept, -⟩ := cwCountFld_spec (a := mateAddr 8) (hi := 17) (lo := 0) (n := 1) (s := { s with
      link := { credited f.crg (acked f s.link) with discarded := true, grant := s.link.grant + f.len } }) hs (by decide) (by decide)
  exact ⟨_, hexec, rfl, hfld, hkept, rfl⟩
end InSequence

/-! ### Frames sent (R405, R409, R410) -/

theorem serveFirst_spec : ∀ l : List MateMsg, l ≠ [] → ∃ x rest, serveFirst l = x :: rest ∧ (x :: rest).Perm l ∧
    (∀ y ∈ rest, msgRank x ≤ msgRank y) ∧ (l.filter fun y => msgRank y == msgRank x).head? = some x
  | [], h => absurd rfl h
  | [m], _ => ⟨m, [], rfl, .refl _, by simp, by simp⟩
  | m :: n :: t, _ => by
    obtain ⟨b, r, hserve, hperm, hmin, hhead⟩ := serveFirst_spec (n :: t) (by simp)
    have hcase : serveFirst (m :: n :: t) = if msgRank b < msgRank m then b :: m :: r else m :: b :: r := by
      rw [serveFirst, hserve]
    rw [hcase]
    by_cases hlt : msgRank b < msgRank m
    · rw [if_pos hlt]
      refine ⟨b, m :: r, rfl, (List.Perm.swap m b r).trans (hperm.cons m), ?_, ?_⟩
      · simpa using ⟨Nat.le_of_lt hlt, hmin⟩
      · rw [List.filter_cons_of_neg (by simp; omega)]
        exact hhead
    · rw [if_neg hlt]
      refine ⟨m, b :: r, rfl, hperm.cons m, fun y hy => ?_, by simp⟩
      obtain rfl | hy := List.mem_cons.1 hy
      · omega
      · have := hmin y hy
        omega

/-- The frame that a package sends next, with its acknowledgement and credits. -/
def ownFrame (k : Polfen) (ty len : Nat) (first last : Bool) (msg : Option MateMsg) : PFrame :=
  { ty := ty, seq := k.txSeq, ack := (k.rxSeq + 65535) % 65536, nak := k.nak, first := first, last := last, len := len,
    crg := min 255 (k.grant / 64), msg := msg }

/-- The link with a frame sent. -/
def linkSent (g : PFrame) (k : Polfen) : Polfen :=
  { k with txSeq := k.txSeq + 1, sent := k.sent ++ [g], nak := false, grant := k.grant - 64 * g.crg }

/-- The frame of a message of which a part is sent. -/
def msgFrame (k : Polfen) (x : MateMsg) : PFrame :=
  ownFrame k (msgType x) (min 28 (msgLines x - k.part)) (k.part == 0) (decide (msgLines x - k.part ≤ 28))
    (if msgLines x - k.part ≤ 28 then some x else none)

/-- The link with a frame of a message sent. -/
def msgSent (x : MateMsg) (rest : List MateMsg) (k : Polfen) : Polfen :=
  { linkSent (msgFrame k x) k with
    queue := if msgLines x - k.part ≤ 28 then rest else x :: rest,
    part := if msgLines x - k.part ≤ 28 then 0 else k.part + 28 }

section MsgSent
variable {k : Polfen} {x : MateMsg} {rest : List MateMsg}

theorem msgFrame_of_last (h : msgLines x - k.part ≤ 28) : msgFrame k x =
    ownFrame k (msgType x) (min 28 (msgLines x - k.part)) (k.part == 0) (decide (msgLines x - k.part ≤ 28)) (some x) := by
  rw [msgFrame, if_pos h]
theorem msgFrame_of_more (h : ¬ msgLines x - k.part ≤ 28) : msgFrame k x =
    ownFrame k (msgType x) (min 28 (msgLines x - k.part)) (k.part == 0) (decide (msgLines x - k.part ≤ 28)) none := by
  rw [msgFrame, if_neg h]
theorem msgSent_of_last (h : msgLines x - k.part ≤ 28) :
    msgSent x rest k = { linkSent (msgFrame k x) k with queue := rest, part := 0 } := by
  rw [msgSent, if_pos h, if_pos h]
theorem msgSent_of_more (h : ¬ msgLines x - k.part ≤ 28) :
    msgSent x rest k = { linkSent (msgFrame k x) k with queue := x :: rest, part := k.part + 28 } := by
  rw [msgSent, if_neg h, if_neg h]

theorem msgFrame_of_start (h : k.part = 0) : msgFrame k x = ownFrame k (msgType x) (min 28 (msgLines x)) true
    (decide (msgLines x ≤ 28)) (if decide (msgLines x ≤ 28) then some x else none) := by
  simp [msgFrame, h]
theorem msgSent_of_start (h : k.part = 0) : msgSent x rest k = { linkSent (msgFrame k x) k with
    queue := if decide (msgLines x ≤ 28) then rest else x :: rest, part := if decide (msgLines x ≤ 28) then 0 else 28 } := by
  simp [msgSent, h]
theorem msgFrame_of_part (h : k.part ≠ 0) : msgFrame k x = ownFrame k (msgType x) (min 28 (msgLines x - k.part)) false
    (decide (msgLines x - k.part ≤ 28)) (if decide (msgLines x - k.part ≤ 28) then some x else none) := by
  simp [msgFrame, beq_false_of_ne h]
theorem msgSent_of_part : msgSent x rest k = { linkSent (msgFrame k x) k with
    queue := if decide (msgLines x - k.part ≤ 28) then rest else x :: rest,
    part := if decide (msgLines x - k.part ≤ 28) then 0 else k.part + 28 } := by
  simp [msgSent]
end MsgSent

theorem mateLevel_exists (s : State) : ∃ b, mateLevel s = s.putLink { s.link with high := b } := ⟨_, rfl⟩

section Tx
variable {s : State} (h : s.link.st = .up)
include h

theorem frameTx_again {g : PFrame} {rest : List PFrame} (hs : tabWf cwReset s.cw = true) (ha : s.link.again = g :: rest) :
    reaches (exec .polfenFrameTx s) fun t => t.link = { s.link with again := rest, nak := false } ∧ t.out = .frame g :: s.out ∧
      fld (cwGet t (mateAddr 7)) 35 18 = min (fld (cwGet s (mateAddr 7)) 35 18 + 1) 0x3FFFF ∧
      cwKept s t [mateAddr 7, ctlAddr clsCen 0 44] ∧ t = { s with link := t.link, out := t.out, cw := t.cw } := by
  obtain ⟨c, hc, hfld, hwords⟩ := cenInc_cwCountFld_exists (n := 44) (a := mateAddr 7) (hi := 35) (lo := 18)
    (s := emit (.frame g) (s.putLink { s.link with again := rest, nak := false })) (by decide) hs (by decide) (by decide) (by decide)
  have hexec : exec .polfenFrameTx s = .next { s with
      link := { s.link with again := rest, nak := false }, out := .frame g :: s.out, cw := c } := by
    rw [exec_polfenFrameTx, execPolfenFrameTx, if_neg (by simp [linkUp_of_up h])]
    simp only [ha]
    exact congrArg _ hc
  exact ⟨_, hexec, rfl, rfl, hfld, hwords, rfl⟩

variable (ha : s.link.again = [])
include ha

theorem frameTx_full (hn : 256 ≤ s.link.sent.length) : exec .polfenFrameTx s = .next s := by
  rw [exec_polfenFrameTx, execPolfenFrameTx, if_neg (by simp [linkUp_of_up h])]
  simp only [ha]
  exact congrArg _ (if_pos hn)

variable (hn : s.link.sent.length < 256)
include hn

theorem frameTx_idle (hp : s.link.part = 0) (hqueue : s.link.queue = []) :
    exec .polfenFrameTx s = .next { s with
      link := linkSent (ownFrame s.link 0 0 true true none) s.link, out := .frame (ownFrame s.link 0 0 true true none) :: s.out } := by
  rw [exec_polfenFrameTx, execPolfenFrameTx, if_neg (by simp [linkUp_of_up h])]
  simp only [ha]
  rw [if_neg (by omega), if_pos hp, hqueue]
  rfl

theorem frameTx_msg {x : MateMsg} {rest : List MateMsg}
    (hqueue : (if s.link.part = 0 then serveFirst s.link.queue else s.link.queue) = x :: rest) : ∃ b,
    exec .polfenFrameTx s = .next { s with
      link := { msgSent x rest s.link with high := b }, out := .frame (msgFrame s.link x) :: s.out } := by
  have hexec : exec .polfenFrameTx s = .next (mateLevel
      ((emit (.frame (msgFrame s.link x)) (s.putLink (linkSent (msgFrame s.link x) s.link))).putLink (msgSent x rest s.link))) := by
    rw [exec_polfenFrameTx, execPolfenFrameTx, if_neg (by simp [linkUp_of_up h])]
    simp only [ha]
    rw [if_neg (by omega), hqueue]
    refine congrArg (fun u => Host.Outcome.next (mateLevel u)) ?_
    by_cases hl : msgLines x - s.link.part ≤ 28
    · rw [msgSent_of_last hl, msgFrame_of_last hl]
      simp only [if_pos hl]
      rfl
    · rw [msgSent_of_more hl, msgFrame_of_more hl]
      simp only [if_neg hl]
      rfl
  obtain ⟨b, hb⟩ := mateLevel_exists
    ((emit (.frame (msgFrame s.link x)) (s.putLink (linkSent (msgFrame s.link x) s.link))).putLink (msgSent x rest s.link))
  rw [hb] at hexec
  exact ⟨b, hexec⟩
end Tx

/-- Settles O44: a frame taken by what is wrong with it, a transmission by what is due. -/
theorem linkFramesAreSentAndTaken : Obligations.LinkFramesAreSentAndTaken := by
  unfold Obligations.LinkFramesAreSentAndTaken
  intro f s hs k m rec_ left rx starter acks room own sent
  have hcw := tablesOk_cw hs
  refine ⟨fun h => ⟨fun crc tag => congrArg _ (if_pos (by simpa [linkUp] using h)), congrArg _ (if_pos (by simpa [linkUp] using h))⟩,
    fun h => ⟨frameRx_of_bad_crc h, frameRx_of_bad_tag hcw h, fun ht hq => ?_, frameRx_of_teardown h, fun ht hq hn => ?_,
      fun hq hst => ?_, fun g rest ha => frameTx_again h hcw ha, frameTx_full h, fun ha hn hp hqueue => frameTx_idle h ha hn hp hqueue,
      fun ha hn hp hqueue => ?_, fun x rest ha hn hp hqueue => ?_⟩⟩
  · rw [show rx true true = _ from frameRx_of_crc h ht, if_neg (by decide), if_pos hq]
  · rw [show rx true true = _ from frameRx_in_sequence h hq ht, frameIn_of_other hn, credited, acked, hq]
    rfl
  · obtain ⟨t, he, hlink, hrest⟩ := frameRx_of_starter h hq hcw hst
    refine ⟨t, he, ?_, hrest⟩
    rw [hlink, credited, acked, hq]
    rfl
  · obtain ⟨x, rest, hserve, hperm, hmin, hhead⟩ := serveFirst_spec k.queue hqueue
    have hp' : s.link.part = 0 := hp
    obtain ⟨b, hexec⟩ := frameTx_msg (x := x) (rest := rest) h ha hn (by rw [if_pos hp']; exact hserve)
    rw [msgSent_of_start hp', msgFrame_of_start hp'] at hexec
    exact ⟨_, hexec, x, rest, hperm, hmin, hhead, rfl, rfl⟩
  · have hp' : s.link.part ≠ 0 := hp
    obtain ⟨b, hexec⟩ := frameTx_msg (x := x) (rest := rest) h ha hn (by rw [if_neg hp']; exact hqueue)
    rw [msgSent_of_part, msgFrame_of_part hp'] at hexec
    exact ⟨_, hexec, rfl, rfl⟩

end Sys2Proof.Machine
end

section
/-! PROOFS. O45: messages of the mate (R397, R403, R404, R416, R417, R574). -/

namespace Sys2Proof.Machine

/-- A request for a sweep joins the queue of the mate. -/
theorem resync_of_mate {s : State} (hi : s.ilk ≠ .holding) (hu : s.link.st = .up) (hc : 1 ≤ s.link.cr) (row : Nat) :
    ∃ high, resync row s = { s with link := queued .resyncReq high s.link, rdn := { s.rdn with want := row } } := by
  obtain ⟨high, happend⟩ := mateAppend_of_credit (m := .resyncReq) (s := s.putRdn { s.rdn with want := row }) hu hc
  refine ⟨high, Eq.trans ?_ happend⟩
  exact if_neg (by simp [State.putRdn, hi, linkUp, hu])

section Messages
variable {r : List MateMsg} {s : State}

/-- The link with its oldest message taken. -/
def msgTaken (m : MateMsg) (k : Polfen) : Polfen := { k with inbox := k.inbox.drop 1, grant := k.grant + msgLines m }

theorem msgTaken_of_cons {m : MateMsg} {k : Polfen} (h : k.inbox = m :: r) :
    msgTaken m k = { k with inbox := r, grant := k.grant + msgLines m } := by
  rw [msgTaken, h]
  rfl

theorem exec_rx_of_empty (h : s.link.inbox = []) : exec .statusMsgRx s = .next s ∧ exec .tier1MsgRx s = .next s ∧
    exec .tier2MsgRx s = .next s ∧ exec .resyncReqRx s = .next s ∧ exec .sweepMsgRx s = .next s ∧
    exec .sweepComplete s = .next s ∧ exec .mateMsgRx s = .next s := by
  simp [exec_statusMsgRx, exec_tier1MsgRx, exec_tier2MsgRx, exec_resyncReqRx, exec_sweepMsgRx, exec_sweepComplete, exec_mateMsgRx,
    execStatusMsgRx, execTier1MsgRx, execTier2MsgRx, execResyncReqRx, execSweepMsgRx, execSweepComplete, execMateMsgRx, h]

theorem exec_statusMsgRx_of_status {h : BitVec 72} (hb : s.link.inbox = .status h :: r) : exec .statusMsgRx s =
    .next { s with link := msgTaken (.status h) s.link, rdn := { s.rdn with mate := h } } := by
  simp only [exec_statusMsgRx, execStatusMsgRx, hb]
  rfl

theorem exec_mateMsgRx_of_msg {ls : List (BitVec 288)} (hb : s.link.inbox = .msg ls :: r) : exec .mateMsgRx s =
    .next { s with link := msgTaken (.msg ls) s.link } := by
  simp only [exec_mateMsgRx, execMateMsgRx, hb]
  rfl

/-! ### Tier 1 and tier 2 (R403, R404) -/

section Tier
variable {tk wr : Word} {es : List (Nat × Word)}

theorem exec_tier1MsgRx_eq (hb : s.link.inbox = .tier1 tk wr es :: r) :
    exec .tier1MsgRx s = .next (tier1In tk wr es (s.putLink (msgTaken (.tier1 tk wr es) s.link))) := by
  simp only [exec_tier1MsgRx, execTier1MsgRx, hb]
  rfl

theorem tier1_inSequence (hv : s.bank.valid = true) (ht : tk = s.bank.tick + 1) :
    (s.bank.valid && tk == s.bank.tick + 1) = true := by simp [hv, ht]

theorem tier1In_of_sequence (hv : s.bank.valid = true) (ht : tk = s.bank.tick + 1) (hsw : s.rdn.sweepRx = none) :
    tier1In tk wr es s = s.putBank (starterStep tk wr es s.bank) := by
  unfold tier1In
  dsimp only
  rw [tier1_inSequence hv ht, if_pos rfl]
  split
  next sp hsp => exact absurd (hsw.symm.trans hsp) (by simp)
  · rfl

theorem tier1In_of_sweep {sp : Starter} (hv : s.bank.valid = true) (ht : tk = s.bank.tick + 1) (hsw : s.rdn.sweepRx = some sp)
    (hsp : tk = sp.tick + 1) : tier1In tk wr es s = (s.putBank (starterStep tk wr es s.bank)).putRdn { s.rdn with
      sweepRx := some (starterStep tk wr (es.filter fun e => decide (e.1 < s.rdn.swept)) sp) } := by
  unfold tier1In
  dsimp only
  rw [tier1_inSequence hv ht, if_pos rfl]
  split
  next sp' hsp' =>
    obtain rfl : sp = sp' := Option.some.inj (hsw.symm.trans hsp')
    rw [if_pos hsp]
    rfl
  next hsp' => exact absurd (hsw.symm.trans hsp') (by simp)

theorem tier1In_of_lost (h : s.bank.valid = false ∨ tk ≠ s.bank.tick + 1) (hsw : s.rdn.sweepRx = none) :
    tier1In tk wr es s = if s.rdn.want ≠ 0 then s else resync 2 s := by
  have hout : (s.bank.valid && tk == s.bank.tick + 1) = false := by
    obtain h | h := h
    · simp [h]
    · rw [beq_false_of_ne h, Bool.and_false]
  unfold tier1In
  dsimp only
  rw [hout, if_neg Bool.false_ne_true]
  split
  next sp hsp => exact absurd (hsw.symm.trans hsp) (by simp)
  · simp only [Bool.false_or, decide_eq_true_eq]

theorem exec_tier1MsgRx_asks (hb : s.link.inbox = .tier1 tk wr es :: r) (h : s.bank.valid = false ∨ tk ≠ s.bank.tick + 1)
    (hsw : s.rdn.sweepRx = none) (hw : s.rdn.want = 0) (hu : s.link.st = .up) (hi : s.ilk ≠ .holding) (hc : 1 ≤ s.link.cr) :
    reaches (exec .tier1MsgRx s) fun t =>
      t.link = { msgTaken (.tier1 tk wr es) s.link with
        queue := s.link.queue ++ [.resyncReq], cr := s.link.cr - 1, high := t.link.high } ∧
      t = { s with link := t.link, rdn := { s.rdn with want := 2 } } := by
  obtain ⟨high, hre⟩ := resync_of_mate (s := s.putLink (msgTaken (.tier1 tk wr es) s.link)) hi hu hc 2
  have hexec := exec_tier1MsgRx_eq hb
  rw [tier1In_of_lost (s := s.putLink (msgTaken (.tier1 tk wr es) s.link)) h hsw, if_neg (by simp [hw]), hre] at hexec
  exact ⟨_, hexec, rfl, rfl⟩

theorem exec_tier2MsgRx_eq (hb : s.link.inbox = .tier2 tk wr es :: r) : exec .tier2MsgRx s = .next { s with
    link := msgTaken (.tier2 tk wr es) s.link,
    bank := if s.bank.valid && decide (ticksOf tk wr ≤ ticksOf s.bank.tick s.bank.wrap) then es.foldl applyEntry s.bank
      else s.bank } := by
  simp only [exec_tier2MsgRx, execTier2MsgRx, hb]
  refine congrArg _ ?_
  by_cases h : (s.bank.valid && decide (ticksOf tk wr ≤ ticksOf s.bank.tick s.bank.wrap)) = true
  · rw [if_pos h]
    exact if_pos h
  · rw [if_neg h]
    exact if_neg h
end Tier
/-! ### Sweeps (R416, R417) -/

theorem exec_resyncReqRx_of_holder (hb : s.link.inbox = .resyncReq :: r) (hi : s.ilk = .holding) : exec .resyncReqRx s =
    .next { s with
      link := msgTaken .resyncReq s.link, rdn := { s.rdn with want := if s.rdn.want = 0 then 2 else s.rdn.want } } := by
  simp only [exec_resyncReqRx, execResyncReqRx, hb]
  refine congrArg _ ((if_pos hi).trans ?_)
  rw [resync_of_holding (s := takeMsg .resyncReq s) hi]
  rfl

theorem exec_resyncReqRx_of_other (hb : s.link.inbox = .resyncReq :: r) (hi : s.ilk ≠ .holding) : exec .resyncReqRx s =
    .next { s with link := msgTaken .resyncReq s.link } := by
  simp only [exec_resyncReqRx, execResyncReqRx, hb]
  exact congrArg _ (if_neg hi)

theorem exec_sweepStart_of_start {tk : Word} (hb : s.link.inbox = .resyncStart tk :: r) : exec .sweepStart s = .next { s with
    link := msgTaken (.resyncStart tk) s.link, due := s.due ++ [mateRecord s 3 s.rdn.want 0],
    rdn := { s.rdn with sweepRx := some { tick := tk, wrap := s.wrap }, swept := 0, want := 0 } } := by
  simp only [exec_sweepStart, execSweepStart, hb]
  rfl

section Send
variable (hb : s.link.inbox = [])
include hb

theorem exec_sweepStart_eq : exec .sweepStart s = .next (if sendsStarter s && linkUp s && s.rdn.want ≠ 0 then
    mateEvt 3 s.rdn.want 0 (mateAppend (.resyncStart s.bank.tick) (s.putRdn { s.rdn with sweepTx := some 0, want := 0 }))
    else s) := by
  simp only [exec_sweepStart, execSweepStart, hb]

theorem exec_sweepStart_sends (hi : s.ilk = .holding) (hm : s.mode = .active) (hu : s.link.st = .up) (hw : s.rdn.want ≠ 0)
    (hc : 1 ≤ s.link.cr) : reaches (exec .sweepStart s) fun t =>
      t.link = { s.link with queue := s.link.queue ++ [.resyncStart s.bank.tick], cr := s.link.cr - 1, high := t.link.high } ∧
      t = { s with
        link := t.link, due := s.due ++ [mateRecord s 3 s.rdn.want 0], rdn := { s.rdn with sweepTx := some 0, want := 0 } } := by
  obtain ⟨high, happend⟩ := mateAppend_of_credit (m := .resyncStart s.bank.tick)
    (s := s.putRdn { s.rdn with sweepTx := some 0, want := 0 }) hu hc
  have hexec : exec .sweepStart s = .next { s with
      link := queued (.resyncStart s.bank.tick) high s.link, due := s.due ++ [mateRecord s 3 s.rdn.want 0],
      rdn := { s.rdn with sweepTx := some 0, want := 0 } } := by
    rw [exec_sweepStart_eq hb, if_pos (by simp [sendsStarter, linkUp, hi, hm, hu, hw]), happend]
    rfl
  exact ⟨_, hexec, rfl, rfl⟩

theorem exec_sweepStart_idle (hw : s.rdn.want = 0) : exec .sweepStart s = .next s := by
  rw [exec_sweepStart_eq hb, if_neg (by simp [hw])]
end Send

section Sweep
variable {l : Option Loaf} {es : List (Nat × Word)} {sp : Starter}

/-- A starter with the entries and the loaf of a sweep message. -/
def sweptIn (l : Option Loaf) (es : List (Nat × Word)) (sp : Starter) : Starter :=
  { es.foldl applyEntry sp with loaf := if l.isSome then l else (es.foldl applyEntry sp).loaf }

/-- The starter that a sweep has filled. -/
def sweptOut (l : Option Loaf) (es : List (Nat × Word)) (sp : Starter) : Starter :=
  { es.foldl applyEntry sp with loaf := if l.isSome then l else (es.foldl applyEntry sp).loaf, valid := true }

theorem exec_sweepMsgRx_fills (hb : s.link.inbox = .sweep false l es :: r) (hsp : s.rdn.sweepRx = some sp) :
    exec .sweepMsgRx s = .next { s with link := msgTaken (.sweep false l es) s.link, rdn := { s.rdn with
      sweepRx := some (sweptIn l es sp), swept := es.foldl (fun b e => max b (e.1 + 1)) s.rdn.swept } } := by
  simp only [exec_sweepMsgRx, execSweepMsgRx, hb, hsp]
  rfl

theorem exec_sweepMsgRx_of_none (hb : s.link.inbox = .sweep false l es :: r) (hsp : s.rdn.sweepRx = none) :
    exec .sweepMsgRx s = .next { s with link := msgTaken (.sweep false l es) s.link } := by
  simp only [exec_sweepMsgRx, execSweepMsgRx, hb, hsp]
  rfl

/-- The record of a sweep that is complete. -/
theorem mateEvt_taken (k : Polfen) (b : Starter) (n : Rdn) (s : State) :
    mateEvt 4 0 0 (((s.putLink k).putBank b).putRdn n) =
      { s with link := k, bank := b, rdn := n, due := s.due ++ [mateRecord s 4 0 0] } := by
  have hrec : mateRecord (((s.putLink k).putBank b).putRdn n) 4 0 0 = mateRecord s 4 0 0 :=
    mateRecord_congr (cwGet_congr rfl _) rfl 4 0 0
  rw [mateEvt_eq, hrec]
  simp only [State.putDue, State.putRdn, State.putBank, State.putLink]

theorem exec_sweepComplete_ends (hb : s.link.inbox = .sweep true l es :: r) (hsp : s.rdn.sweepRx = some sp) :
    exec .sweepComplete s = .next { s with
      link := msgTaken (.sweep true l es) s.link, bank := sweptOut l es sp,
      rdn := { s.rdn with sweepRx := none, swept := 0, want := 0 }, due := s.due ++ [mateRecord s 4 0 0] } := by
  simp only [exec_sweepComplete, execSweepComplete, hb, hsp]
  exact congrArg _ (mateEvt_taken (msgTaken (.sweep true l es) s.link) (sweptOut l es sp)
    { s.rdn with sweepRx := none, swept := 0, want := 0 } s)
end Sweep
end Messages

/-- Settles O45: each message by what it finds. -/
theorem mateMessagesBringTheStarter : Obligations.MateMessagesBringTheStarter := by
  unfold Obligations.MateMessagesBringTheStarter
  intro h tk wr es l ls r s hs k n m rec_ took bank
  have htook : ∀ x, k.inbox = x :: r → msgTaken x s.link = took x := fun x hb => msgTaken_of_cons hb
  refine ⟨exec_rx_of_empty, fun hb => ?_, fun hb => ?_, fun hb hv ht hsw => ?_, fun sp hb hv ht hsw hsp => ?_,
    fun hb ht hsw hw => ?_, fun hb ht hsw hw hu hi hc => ?_, fun hb => ?_, fun hb hi => ?_, fun hb hi => ?_, fun hb => ?_,
    exec_sweepStart_sends, exec_sweepStart_idle, fun sp hb hsp => ?_, fun hb hsp => ?_, fun sp hb hsp => ?_⟩
  · rw [exec_statusMsgRx_of_status hb, htook _ hb]
  · rw [exec_mateMsgRx_of_msg hb, htook _ hb]
  · rw [exec_tier1MsgRx_eq hb, tier1In_of_sequence (s := s.putLink (msgTaken (.tier1 tk wr es) s.link)) hv ht hsw, htook _ hb]
    rfl
  · rw [exec_tier1MsgRx_eq hb, tier1In_of_sweep (s := s.putLink (msgTaken (.tier1 tk wr es) s.link)) hv ht hsw hsp, htook _ hb]
    rfl
  · have hw' : (s.putLink (msgTaken (.tier1 tk wr es) s.link)).rdn.want ≠ 0 := hw
    rw [exec_tier1MsgRx_eq hb, tier1In_of_lost (s := s.putLink (msgTaken (.tier1 tk wr es) s.link)) ht hsw, if_pos hw', htook _ hb]
    rfl
  · rw [← htook _ hb]
    exact exec_tier1MsgRx_asks hb ht hsw hw hu hi hc
  · rw [exec_tier2MsgRx_eq hb, htook _ hb]
  · rw [exec_resyncReqRx_of_holder hb hi, htook _ hb]
  · rw [exec_resyncReqRx_of_other hb hi, htook _ hb]
  · rw [exec_sweepStart_of_start hb, htook _ hb]
    rfl
  · rw [exec_sweepMsgRx_fills hb hsp, htook _ hb]
    rfl
  · rw [exec_sweepMsgRx_of_none hb hsp, htook _ hb]
  · rw [exec_sweepComplete_ends hb hsp, htook _ hb]
    rfl

end Sys2Proof.Machine
end

section
/-! PROOFS. O46: MATE_CTRL and the queue of the mate (R396, R413, R416, R425, R430 to R432). -/

namespace Sys2Proof.Machine

/-! ### A write to MATE_CTRL, step by step (Table 12-12) -/

/-- The bits that MATE_CTRL keeps. -/
def mateKept (v : Word) : Word := v &&& 0x97FFF8000

def mateStored (v : Word) (s : State) : State := cwSet (mateAddr 0) (mateKept v) s
/-- The link is left as LINK_EN is taken. -/
def mateDisabled (was : Bool) (v : Word) (s : State) : State := if was && !bit v 35 then linkLeave .down 4 s else s
/-- RESTART ends a halt. -/
def mateRestarted (v : Word) (s : State) : State :=
  if bit v 34 && s.link.halted then s.putLink { s.link with halted := false, drops := [] } else s
/-- A link that is down seeks lock. -/
def mateSought (s : State) : State := if s.link.st = .down then s.putLink { s.link with st := linkSeek s } else s
/-- RESYNC. -/
def mateAsked (v : Word) (s : State) : State := if bit v 33 then resync 6 s else s
/-- CONFIRM ends PROVISIONAL. -/
def mateConfirmed (v : Word) (s : State) : State :=
  if bit v 31 && s.rdn.provisional then mateEvt 0x0B 0 0 (s.putRdn { s.rdn with provisional := false }) else s

theorem applyMateCtrl_eq (v : Word) (s : State) : applyMateCtrl v s = if fld v 29 18 ≥ 4094 then .error St.thrRange
    else .ok (mateConfirmed v (mateAsked v (mateSought (mateRestarted v (mateDisabled (linkOn s) v (mateStored v s)))))) := rfl

section Steps
variable {v : Word} {s : State}

theorem mateDisabled_of_kept {was : Bool} (h : was = bit v 35) : mateDisabled was v s = s := if_neg (by rw [h]; cases bit v 35 <;> decide)
theorem mateDisabled_of_on (h : bit v 35 = true) (was : Bool) : mateDisabled was v s = s :=
  if_neg (by rw [h]; cases was <;> decide)
theorem mateRestarted_of_clear (h : bit v 34 = false) : mateRestarted v s = s := if_neg (by rw [h]; exact Bool.false_ne_true)
theorem mateSought_of_not_down (h : s.link.st ≠ .down) : mateSought s = s := if_neg h
theorem mateAsked_of_clear (h : bit v 33 = false) : mateAsked v s = s := if_neg (by rw [h]; exact Bool.false_ne_true)
theorem mateConfirmed_of_clear (h : bit v 31 = false) : mateConfirmed v s = s := if_neg (by rw [h]; exact Bool.false_ne_true)

theorem linkOn_eq (s : State) : linkOn s = (cwGet s (mateAddr 0)).getLsbD 35 := bit_eq_getLsbD _ _

theorem mateStored_spec (hs : tabWf cwReset s.cw = true) : cwGet (mateStored v s) (mateAddr 0) = mateKept v ∧
    cwKept s (mateStored v s) [mateAddr 0] ∧ mateStored v s = { s with cw := (mateStored v s).cw } :=
  ⟨cwGet_cwSet hs, fun _ hb => cwGet_cwSet_ne (by simpa using hb), rfl⟩
end Steps

theorem getLsbD_mateKept (v : Word) (i : Nat) :
    (mateKept v).getLsbD i = (decide (15 ≤ i ∧ i < 31 ∨ i = 32 ∨ i = 35) && v.getLsbD i) := by
  by_cases hi : i < 36
  · have hmask : ∀ j, j < 36 → (0x97FFF8000 : Word).getLsbD j = decide (15 ≤ j ∧ j < 31 ∨ j = 32 ∨ j = 35) := by decide
    rw [mateKept, BitVec.getLsbD_and, hmask i hi, Bool.and_comm]
  · rw [BitVec.getLsbD_of_ge _ _ (by omega), BitVec.getLsbD_of_ge _ _ (by omega), Bool.and_false]

/-- The operations of MATE_CTRL are not kept. -/
theorem mateKept_putFld {v : Word} {i x : Nat} (h : i = 31 ∨ i = 33 ∨ i = 34) : mateKept (putFld v i i x) = mateKept v := by
  refine BitVec.eq_of_getLsbD_eq fun j _ => ?_
  rw [getLsbD_mateKept, getLsbD_mateKept]
  by_cases hj : j = i
  · rw [decide_eq_false (by omega), Bool.false_and, Bool.false_and]
  · rw [getLsbD_putFld_of_disjoint (Nat.le_refl i) (by omega) (by omega)]

theorem mateStored_putFld {v : Word} {i x : Nat} {s : State} (h : i = 31 ∨ i = 33 ∨ i = 34) :
    mateStored (putFld v i i x) s = mateStored v s := by
  rw [mateStored, mateKept_putFld h, mateStored]

section Bits
variable {v : Word} {i j : Nat}

theorem bit_set (hi : i < 36) : bit (putFld v i i 1) i = true := by
  rw [bit_eq_getLsbD, getLsbD_putFld_bit hi]
  rfl

theorem bit_set_ne (hi : i < 36) (hj : j ≠ i) : bit (putFld v i i 1) j = bit v j := by
  rw [bit_eq_getLsbD, bit_eq_getLsbD, getLsbD_putFld_of_disjoint (Nat.le_refl i) hi (by omega)]
end Bits

section Writes
variable {o : Origin} {v : Word} {s : State} (hs : tabWf cwReset s.cw = true)

theorem applyMateCtrl_refused (h : 4094 ≤ fld v 29 18) : applyMateCtrl v s = .error St.thrRange := by
  rw [applyMateCtrl_eq, if_pos h]

theorem applyMateCtrl_ok (h : fld v 29 18 < 4094) : applyMateCtrl v s =
    .ok (mateConfirmed v (mateAsked v (mateSought (mateRestarted v (mateDisabled (linkOn s) v (mateStored v s)))))) := by
  rw [applyMateCtrl_eq, if_neg (by omega)]

include hs

section Calm
variable (h : fld v 29 18 < 4094) (hc : v.getLsbD 34 = false ∧ v.getLsbD 33 = false ∧ v.getLsbD 31 = false)
include h hc

omit hs in
/-- A write that asks for nothing. -/
theorem applyMateCtrl_calm :
    applyMateCtrl v s = .ok (mateSought (mateDisabled (linkOn s) v (mateStored v s))) := by
  simp only [← bit_eq_getLsbD] at hc
  obtain ⟨h34, h33, h31⟩ := hc
  rw [applyMateCtrl_ok h, mateRestarted_of_clear h34, mateAsked_of_clear h33, mateConfirmed_of_clear h31]

theorem mate_calm (hl : (cwGet s (mateAddr 0)).getLsbD 35 = v.getLsbD 35) (hd : s.link.st ≠ .down) :
    applies o .word (mateAddr 0) s (.next (settle o .word (mateAddr 0) s (applyMateCtrl v s))) fun t =>
      cwGet t (mateAddr 0) = mateKept v ∧ cwKept s t [mateAddr 0] ∧ t = { s with cw := t.cw } := by
  have hl' : linkOn s = bit v 35 := by rw [linkOn_eq, bit_eq_getLsbD]; exact hl
  rw [applyMateCtrl_calm h hc, mateDisabled_of_kept hl', mateSought_of_not_down (s := mateStored v s) hd]
  exact applies_ok (mateStored_spec hs)

/-- LINK_EN taken from a link that is up. -/
theorem mate_disabled (hl : (cwGet s (mateAddr 0)).getLsbD 35 = true) (hv : v.getLsbD 35 = false) (hu : s.link.st = .up) :
    applies o .word (mateAddr 0) s (.next (settle o .word (mateAddr 0) s (applyMateCtrl v s))) fun t =>
      cwGet t (mateAddr 0) = mateKept v ∧ cwKept s t [mateAddr 0] ∧ t.link = linkLeft .down s.link ∧
        t.due = s.due ++ [mateRecord (mateStored v s) 2 4 0] ∧ t.intPend.testBit 24 = true := by
  obtain ⟨hget, hkept, -⟩ := mateStored_spec (v := v) hs
  obtain ⟨p, m, i, hleave, hbit⟩ := linkLeave_of_up (s := mateStored v s) hu .down 4
  have hleft : mateDisabled (linkOn s) v (mateStored v s) =
      signalled p m i ((linkOut .down (mateStored v s)).putDue (s.due ++ [mateRecord (mateStored v s) 2 4 0])) := by
    refine (if_pos ?_).trans hleave
    rw [linkOn_eq, hl, bit_eq_getLsbD, hv]
    rfl
  rw [applyMateCtrl_calm h hc, hleft]
  refine applies_ok ?_
  generalize hx : signalled p m i ((linkOut .down (mateStored v s)).putDue (s.due ++ [mateRecord (mateStored v s) 2 4 0])) = x
  have hcw : x.cw = (mateStored v s).cw := by rw [← hx]; rfl
  have hlink : x.link = linkLeft .down s.link := by rw [← hx]; rfl
  have hseek : linkSeek x = .down := by
    rw [linkSeek_eq, cwGet_congr hcw, hget, getLsbD_mateKept, hv]
    exact if_neg (by simp)
  have hsought : mateSought x = x.putLink { x.link with st := .down } := by rw [← hseek]; exact if_pos (by rw [hlink]; rfl)
  rw [hsought]
  refine ⟨(cwGet_congr hcw _).trans hget, fun b hb => (cwGet_congr hcw b).trans (hkept b hb), ?_, ?_, ?_⟩
  · rw [hlink]
    rfl
  · rw [← hx]
    rfl
  · rw [← hx]
    exact hbit

/-- LINK_EN given to a link that is down. -/
theorem mate_enabled (hv : v.getLsbD 35 = true) (hd : s.link.st = .down) (hh : s.link.halted = false)
    (hr : domRuns s 49 = true) :
    applies o .word (mateAddr 0) s (.next (settle o .word (mateAddr 0) s (applyMateCtrl v s))) fun t =>
      cwGet t (mateAddr 0) = mateKept v ∧ cwKept s t [mateAddr 0] ∧
        t = { s with cw := t.cw, link := { s.link with st := .lock } } := by
  obtain ⟨hget, hkept, -⟩ := mateStored_spec (v := v) hs
  have hseek : linkSeek (mateStored v s) = .lock := by
    rw [linkSeek_eq, hget, getLsbD_mateKept, hv]
    exact if_pos ⟨rfl, hh, hr⟩
  have hsought : mateSought (mateStored v s) = (mateStored v s).putLink { s.link with st := .lock } := by
    rw [← hseek]
    exact if_pos hd
  rw [applyMateCtrl_calm h hc, mateDisabled_of_on (by rw [bit_eq_getLsbD, hv]), hsought]
  exact applies_ok ⟨hget, hkept, rfl⟩
end Calm

/-- RESTART of a halted link. -/
theorem mate_restarted (h : fld v 29 18 < 4094) (h33 : v.getLsbD 33 = false) (h31 : v.getLsbD 31 = false)
    (hv : v.getLsbD 35 = true) (hd : s.link.st = .down) (hh : s.link.halted = true) (hr : domRuns s 49 = true) :
    applies o .word (mateAddr 0) s (.next (settle o .word (mateAddr 0) s (applyMateCtrl (putFld v 34 34 1) s))) fun t =>
      cwGet t (mateAddr 0) = mateKept v ∧ cwKept s t [mateAddr 0] ∧
        t = { s with cw := t.cw, link := { s.link with st := .lock, halted := false, drops := [] } } := by
  obtain ⟨hget, hkept, -⟩ := mateStored_spec (v := v) hs
  have hrestart : mateRestarted (putFld v 34 34 1) (mateStored v s) =
      (mateStored v s).putLink { s.link with halted := false, drops := [] } := if_pos (by
    rw [bit_set (by omega)]
    exact hh)
  have hseek : linkSeek ((mateStored v s).putLink { s.link with halted := false, drops := [] }) = .lock := by
    have hword : cwGet ((mateStored v s).putLink { s.link with halted := false, drops := [] }) (mateAddr 0) = mateKept v := hget
    rw [linkSeek_eq, hword, getLsbD_mateKept, hv]
    exact if_pos ⟨rfl, rfl, hr⟩
  have hsought : mateSought ((mateStored v s).putLink { s.link with halted := false, drops := [] }) =
      (mateStored v s).putLink { s.link with st := .lock, halted := false, drops := [] } := by
    rw [← hseek]
    exact if_pos hd
  rw [applyMateCtrl_ok (by rw [fld_putFld_of_disjoint (by omega) (by omega) (by omega)]; exact h), mateStored_putFld (by omega),
    mateDisabled_of_on (by rw [bit_set_ne (by omega) (by omega), bit_eq_getLsbD, hv]), hrestart, hsought,
    mateAsked_of_clear (by rw [bit_set_ne (by omega) (by omega), bit_eq_getLsbD, h33]),
    mateConfirmed_of_clear (by rw [bit_set_ne (by omega) (by omega), bit_eq_getLsbD, h31])]
  exact applies_ok ⟨hget, hkept, rfl⟩

omit hs in
/-- RESYNC and CONFIRM act on a link that keeps its state. -/
theorem applyMateCtrl_op {i : Nat} (hi : i = 31 ∨ i = 33) (h : fld v 29 18 < 4094) (h34 : v.getLsbD 34 = false)
    (hl : (cwGet s (mateAddr 0)).getLsbD 35 = v.getLsbD 35) (hd : s.link.st ≠ .down) : applyMateCtrl (putFld v i i 1) s =
      .ok (mateConfirmed (putFld v i i 1) (mateAsked (putFld v i i 1) (mateStored v s))) := by
  have hl' : linkOn s = bit (putFld v i i 1) 35 := by rw [linkOn_eq, hl, bit_set_ne (by omega) (by omega), bit_eq_getLsbD]
  rw [applyMateCtrl_ok (by rw [fld_putFld_of_disjoint (by omega) (by omega) (by omega)]; exact h), mateStored_putFld (by omega),
    mateDisabled_of_kept hl', mateRestarted_of_clear (by rw [bit_set_ne (by omega) (by omega), bit_eq_getLsbD, h34]),
    mateSought_of_not_down (s := mateStored v s) hd]

omit hs in
theorem applyMateCtrl_resync (h : fld v 29 18 < 4094) (h34 : v.getLsbD 34 = false) (h31 : v.getLsbD 31 = false)
    (hl : (cwGet s (mateAddr 0)).getLsbD 35 = v.getLsbD 35) (hd : s.link.st ≠ .down) :
    applyMateCtrl (putFld v 33 33 1) s = .ok (resync 6 (mateStored v s)) := by
  rw [applyMateCtrl_op (by omega) h h34 hl hd, mateConfirmed_of_clear (by rw [bit_set_ne (by omega) (by omega), bit_eq_getLsbD, h31]),
    mateAsked, if_pos (bit_set (by omega))]

theorem mate_resync_of_holder (h : fld v 29 18 < 4094) (h34 : v.getLsbD 34 = false) (h31 : v.getLsbD 31 = false)
    (hl : (cwGet s (mateAddr 0)).getLsbD 35 = v.getLsbD 35) (hd : s.link.st ≠ .down) (hi : s.ilk = .holding) :
    applies o .word (mateAddr 0) s (.next (settle o .word (mateAddr 0) s (applyMateCtrl (putFld v 33 33 1) s))) fun t =>
      cwGet t (mateAddr 0) = mateKept v ∧ cwKept s t [mateAddr 0] ∧
        t = { s with cw := t.cw, rdn := { s.rdn with want := 6 } } := by
  obtain ⟨hget, hkept, -⟩ := mateStored_spec (v := v) hs
  rw [applyMateCtrl_resync h h34 h31 hl hd, resync_of_holding (s := mateStored v s) hi]
  exact applies_ok ⟨hget, hkept, rfl⟩

theorem mate_resync_of_mate (h : fld v 29 18 < 4094) (h34 : v.getLsbD 34 = false) (h31 : v.getLsbD 31 = false)
    (hl : (cwGet s (mateAddr 0)).getLsbD 35 = v.getLsbD 35) (hu : s.link.st = .up) (hi : s.ilk ≠ .holding) (hc : 1 ≤ s.link.cr) :
    applies o .word (mateAddr 0) s (.next (settle o .word (mateAddr 0) s (applyMateCtrl (putFld v 33 33 1) s))) fun t =>
      cwGet t (mateAddr 0) = mateKept v ∧ cwKept s t [mateAddr 0] ∧
        t.link = { s.link with queue := s.link.queue ++ [.resyncReq], cr := s.link.cr - 1, high := t.link.high } ∧
        t = { s with cw := t.cw, link := t.link, rdn := { s.rdn with want := 6 } } := by
  obtain ⟨hget, hkept, -⟩ := mateStored_spec (v := v) hs
  obtain ⟨high, hre⟩ := resync_of_mate (s := mateStored v s) hi hu hc 6
  rw [applyMateCtrl_resync h h34 h31 hl (by rw [hu]; decide), hre]
  exact applies_ok ⟨hget, hkept, rfl, rfl⟩

omit hs in
theorem provisional_self {n : Rdn} (h : n.provisional = false) : { n with provisional := false } = n := by
  cases n
  simp_all

theorem mate_confirmed (h : fld v 29 18 < 4094) (h34 : v.getLsbD 34 = false) (h33 : v.getLsbD 33 = false)
    (hl : (cwGet s (mateAddr 0)).getLsbD 35 = v.getLsbD 35) (hd : s.link.st ≠ .down) :
    applies o .word (mateAddr 0) s (.next (settle o .word (mateAddr 0) s (applyMateCtrl (putFld v 31 31 1) s))) fun t =>
      cwGet t (mateAddr 0) = mateKept v ∧ cwKept s t [mateAddr 0] ∧ t = { s with
        cw := t.cw, rdn := { s.rdn with provisional := false },
        due := s.due ++ if s.rdn.provisional then [mateRecord (mateStored v s) 0x0B 0 0] else [] } := by
  obtain ⟨hget, hkept, -⟩ := mateStored_spec (v := v) hs
  have hrec : mateRecord ((mateStored v s).putRdn { s.rdn with provisional := false }) 0x0B 0 0 =
      mateRecord (mateStored v s) 0x0B 0 0 := mateRecord_congr (cwGet_congr rfl _) rfl _ _ _
  rw [applyMateCtrl_op (by omega) h h34 hl hd, mateAsked_of_clear (by rw [bit_set_ne (by omega) (by omega), bit_eq_getLsbD, h33]),
    mateConfirmed, bit_set (by omega), Bool.true_and]
  by_cases hp : s.rdn.provisional = true
  · rw [if_pos (show (mateStored v s).rdn.provisional = true from hp), mateEvt_eq, show State.rdn (mateStored v s) = s.rdn from rfl,
      hrec, if_pos hp]
    exact applies_ok ⟨hget, hkept, rfl⟩
  · rw [if_neg (show ¬ (mateStored v s).rdn.provisional = true from hp), if_neg hp, List.append_nil,
      provisional_self (Bool.eq_false_iff.2 hp)]
    exact applies_ok ⟨hget, hkept, rfl⟩

theorem mateCntClr_clears : reaches (exec .mateCntClr s) fun t => cwGet t (mateAddr 7) = 0 ∧ cwGet t (mateAddr 8) = 0 ∧
    cwKept s t [mateAddr 7, mateAddr 8] ∧ t = { s with cw := t.cw } := by
  refine ⟨_, rfl, cwGet_cwSet (cwSet_ok hs), ?_, fun b hb => ?_, rfl⟩
  · rw [cwGet_cwSet_ne (by decide), cwGet_cwSet hs]
  · simp only [List.mem_cons, List.not_mem_nil, or_false, not_or] at hb
    rw [cwGet_cwSet_ne hb.1, cwGet_cwSet_ne hb.2]
end Writes

/-! ### The queue of the mate flushed (R349, R350, R431) -/

/-- The queue with the message being sent alone. -/
def queueKept (k : Polfen) : List MateMsg := if k.part = 0 then [] else k.queue.take 1

/-- The flush without its resynchronisation. -/
def mateFlushed (src : Nat) (s : State) : State :=
  flushRecord src 3 0 (s.link.queue.length - (queueKept s.link).length) 0
    (mateLevel (s.putLink { s.link with queue := queueKept s.link }))

theorem flushMate_eq (src : Nat) (s : State) : flushMate src s = holderResyncs 4 (mateFlushed src s) := rfl

/-- What a flush is to keep. -/
def flushView (s : State) : Polfen × Rdn × Mode × Ilk × List Due := (s.link, s.rdn, s.mode, s.ilk, s.due)

theorem mateFlushed_view (src : Nat) (s : State) : flushView (mateFlushed src s) =
    flushView (mateLevel (s.putLink { s.link with queue := queueKept s.link })) := by
  apply flushRecord_frame (π := flushView) (hk := rfl) <;> exact fun _ _ => rfl

theorem flushMate_leaves (src : Nat) (s : State) :
    let t := flushMate src s
    t.link.queue = queueKept s.link ∧ t.link.sent = s.link.sent ∧ t.link.st = s.link.st ∧ t.link.cr = s.link.cr ∧
      (s.ilk = .holding → t.rdn = { s.rdn with want := 4 }) ∧ t.mode = s.mode ∧ t.ilk = s.ilk ∧ t.due = s.due := by
  intro t
  have hview := mateFlushed_view src s
  have ht : t = holderResyncs 4 (mateFlushed src s) := flushMate_eq src s
  rw [holderResyncs_eq] at ht
  generalize mateFlushed src s = u at hview ht
  simp only [flushView, Prod.mk.injEq] at hview
  obtain ⟨h1, h2, h3, h4, h5⟩ := hview
  have hqueue : u.link.queue = queueKept s.link := congrArg Polfen.queue h1
  have hsent : u.link.sent = s.link.sent := (congrArg Polfen.sent h1).trans rfl
  have hst : u.link.st = s.link.st := (congrArg Polfen.st h1).trans rfl
  have hcr : u.link.cr = s.link.cr := (congrArg Polfen.cr h1).trans rfl
  rw [ht]
  split
  · exact ⟨hqueue, hsent, hst, hcr, fun _ => congrArg (fun n : Rdn => { n with want := 4 }) h2, h3, h4, h5⟩
  next hn => exact ⟨hqueue, hsent, hst, hcr, fun hi => absurd (h4.trans hi) hn, h3, h4, h5⟩

/-- Settles O46: a write by what it asks for, then the counts and the flush. -/
theorem mateControlAndQueue : Obligations.MateControlAndQueue := by
  unfold Obligations.MateControlAndQueue
  intro o w s hs k n a m rec_ v kept calm age
  have hcw := tablesOk_cw hs
  have hrec : ∀ e d x, mateRecord (mateStored v s) e d x = rec_ kept e d x := fun e d x => by
    rw [mateRecord, (mateStored_spec hcw).1]
    rfl
  have hfld : ∀ i, i = 31 ∨ i = 33 ∨ i = 34 → fld (putFld v i i 1) 29 18 = fld v 29 18 := fun i hi =>
    fld_putFld_of_disjoint (by omega) (by omega) (by omega)
  have hrefused : ∀ x, 4094 ≤ fld x 29 18 → mateWrite w x s = .next (refuse w.origin 0x05 .word a s) := fun x hx =>
    congrArg (fun r => Host.Outcome.next (settle w.origin .word a s r)) (applyMateCtrl_refused hx)
  refine ⟨fun h c hc => ?_, fun h hc hl hd c hcm => ?_, fun h hc hl hv hu => ?_, fun h hc hl hv hd hh hr => mate_enabled hcw h hc hv hd hh hr,
    fun h h33 h31 hl hv hd hh hr => mate_restarted hcw h h33 h31 hv hd hh hr, fun h h34 h31 hl hv hu => ⟨?_, ?_⟩,
    fun h h34 h33 hl hd => ?_, mateCntClr_clears hcw, applies_ok (flushMate_leaves _ s)⟩
  · simp only [List.mem_cons, List.not_mem_nil, or_false] at hc
    obtain rfl | rfl | rfl | rfl | rfl := hc
    · exact hrefused _ h
    · exact hrefused _ (by rw [hfld 34 (by omega)]; exact h)
    · exact hrefused _ (by rw [hfld 33 (by omega)]; exact h)
    · exact hrefused _ h
    · exact hrefused _ (by rw [hfld 31 (by omega)]; exact h)
  · simp only [List.mem_cons, List.not_mem_nil, or_false] at hcm
    obtain rfl | rfl := hcm
    · exact mate_calm hcw h hc hl hd
    · exact mate_calm hcw h hc hl hd
  · rw [← hrec]
    exact mate_disabled hcw h hc hl hv hu
  · exact mate_resync_of_holder hcw h h34 h31 (hl.trans hv.symm) (by rw [show s.link.st = _ from hu]; decide)
  · exact mate_resync_of_mate hcw h h34 h31 (hl.trans hv.symm) hu
  · rw [← hrec]
    exact mate_confirmed hcw h h34 h33 hl hd


end Sys2Proof.Machine
end

section
/-! PROOFS. O40: SYNC inputs, the tick DPLL and recovered clocks (R494 to R506). -/

namespace Sys2Proof.Machine

section Canonical
variable {s : State} (h : Safety.tablesOk s = true)
include h

theorem tablesOk_sync : tabWf (fun _ => ({} : SyncIn)) s.sync = true := by
  simp only [Safety.tablesOk, Safety.unitTables, Bool.and_eq_true] at h; tauto
theorem tablesOk_recClk : tabWf (fun _ => ({} : RecClk)) s.recClk = true := by
  simp only [Safety.tablesOk, Safety.lineTables, Bool.and_eq_true] at h; tauto
end Canonical

/-! ### Inputs (R494 to R498) -/

section Input
variable {n m : Nat} {c : SyncIn} {s : State}

theorem syncGet_syncPut (h : tabWf (fun _ => ({} : SyncIn)) s.sync = true) : syncGet (syncPut n c s) n = c :=
  tabGet_tabSet_same (d := fun _ => ({} : SyncIn)) h

theorem syncGet_syncPut_ne (h : m ≠ n) : syncGet (syncPut n c s) m = syncGet s m := tabGet_tabSet_ne h

theorem keeps_syncPut : keeps syncGet s (syncPut n c s) [n] := fun _ hm => syncGet_syncPut_ne (by simpa using hm)
end Input

theorem refNum_cases (x : RefName) : refNum x = 0 ∨ refNum x = 1 := by cases x <;> simp [refNum]

/-- An input in use that is valid stays in use while it is neither forced away nor left by a write. -/
theorem dpllChoice_of_valid {s : State} {i : Nat} (hi : i < 2) (hu : s.dpll.inUse = i) (hv : (syncGet s i).valid = true)
    (h33 : (cwGet s syncCtrlAddr).getLsbD 33 = false) (h34 : (cwGet s syncCtrlAddr).getLsbD 34 = false) :
    dpllChoice s false = i := by
  have hp : fld (cwGet s syncCtrlAddr) 35 35 < 2 := by
    rw [fld_eq]
    exact Nat.mod_lt _ (by decide)
  unfold dpllChoice
  dsimp only
  rw [bit_eq_getLsbD, bit_eq_getLsbD, h33, h34, if_neg Bool.false_ne_true, hu]
  by_cases hip : i = fld (cwGet s syncCtrlAddr) 35 35
  · rw [← hip, if_neg (by simp; omega), if_pos hv]
  · have hother : i = 1 - fld (cwGet s syncCtrlAddr) 35 35 := by omega
    rw [← hother, if_pos (by simp [hv])]

theorem dpllSelect_of_same {s : State} {fresh : Bool} (hlt : s.dpll.inUse < 2) (h : dpllChoice s fresh = s.dpll.inUse) :
    dpllSelect fresh s = s := by
  unfold dpllSelect
  dsimp only
  rw [h, if_neg (by omega), if_pos rfl]

/-- What an accepted edge makes of its input. -/
def edgeTaken (gap k : Nat) (c : SyncIn) : SyncIn :=
  let ps := if c.seen && k = 1 then (gap :: c.periods).take 64 else c.periods
  let out := rateOut ps
  { c with
    seen := true, lost := false, periods := ps,
    clean := if out then 0 else if c.seen && k = 1 then Nat.min (c.clean + 1) 8000 else 1, rateBad := c.rateBad || out,
    valid := c.valid && !out }

section Edge
variable {x : RefName} {gap : Nat} {phase : Int} {freq : BitVec 20} {s : State}

/-- Where an edge stands, in positions of 125 µs. -/
def edgePos (gap : Nat) : Nat := (gap + 62500) / 125000
/-- How far an edge lies from its position, ns. -/
def edgeOff (gap : Nat) : Nat := ((gap : Int) - edgePos gap * 125000).natAbs

theorem syncEdge_rejected (hs : Safety.tablesOk s = true)
    (h : ¬ ((syncGet s (refNum x)).seen = false ∨ (1 ≤ edgePos gap ∧ edgeOff gap ≤ 2500))) :
    ∃ y, exec (.syncEdge x gap phase freq) s = .next (cenInc 41 y) ∧
      syncGet y (refNum x) = { syncGet s (refNum x) with clean := 0 } ∧ keeps syncGet s y [refNum x] ∧
      (let hi := if refNum x = 0 then 35 else 17
       fld (cwGet y syncCntAddr) hi (hi - 17) = min (fld (cwGet s syncCntAddr) hi (hi - 17) + 1) 0x3FFFF) ∧
      cwKept s y [syncCntAddr] ∧ y = { s with sync := y.sync, cw := y.cw } := by
  obtain ⟨hseen, hpos⟩ := not_or.1 h
  have hexec : exec (.syncEdge x gap phase freq) s = .next (cenInc 41 (cwCountFld syncCntAddr (if refNum x = 0 then 35 else 17)
      (if refNum x = 0 then 18 else 0) 1 (syncPut (refNum x) { syncGet s (refNum x) with clean := 0 } s))) := by
    refine congrArg _ (if_pos ?_)
    rw [not_and_or] at hpos
    have hno : (decide (edgePos gap ≥ 1) && decide (edgeOff gap ≤ 2500)) = false := by
      obtain h | h := hpos <;> simp [h]
    rw [Bool.not_eq_false] at hseen
    rw [hseen]
    exact (Bool.true_and _).trans (congrArg (!·) hno)
  refine ⟨_, hexec, syncGet_syncPut (tablesOk_sync hs), keeps_syncPut, ?_⟩
  have hcw : tabWf cwReset s.cw = true := tablesOk_cw hs
  obtain h0 | h1 := refNum_cases x
  · rw [h0]
    obtain ⟨hfld, hkept, -⟩ := cwCountFld_spec (a := syncCntAddr) (hi := 35) (lo := 18) (n := 1)
      (s := syncPut 0 { syncGet s 0 with clean := 0 } s) hcw (by decide) (by decide)
    exact ⟨hfld, hkept, rfl⟩
  · rw [h1]
    obtain ⟨hfld, hkept, -⟩ := cwCountFld_spec (a := syncCntAddr) (hi := 17) (lo := 0) (n := 1)
      (s := syncPut 1 { syncGet s 1 with clean := 0 } s) hcw (by decide) (by decide)
    exact ⟨hfld, hkept, rfl⟩

/-- The part of an edge that its input does not show: a rate out of range, the selection, the phase. -/
def edgeSettled (n : Nat) (late : Bool) (phase : Int) (freq : BitVec 20) (s : State) : State :=
  let u := dpllSelect false (if late then clkEvt 2 n s else s)
  if u.dpll.inUse = n then u.putDpll { u.dpll with phase := phaseHeld phase, freq := freq.toNat } else u

theorem syncEdge_of_accepted
    (h : (syncGet s (refNum x)).seen = false ∨ (1 ≤ edgePos gap ∧ edgeOff gap ≤ 2500)) :
    exec (.syncEdge x gap phase freq) s = .next (edgeSettled (refNum x)
      (rateOut (if (syncGet s (refNum x)).seen && edgePos gap = 1 then (gap :: (syncGet s (refNum x)).periods).take 64
        else (syncGet s (refNum x)).periods) && !(syncGet s (refNum x)).rateBad) phase freq
      (syncPut (refNum x) (edgeTaken gap (edgePos gap) (syncGet s (refNum x))) s)) := by
  have hno : ¬ ((syncGet s (refNum x)).seen && !(decide (edgePos gap ≥ 1) && decide (edgeOff gap ≤ 2500))) = true := by
    obtain h | ⟨h1, h2⟩ := h
    · simp [h]
    · simp [h1, h2]
  exact congrArg _ (if_neg hno)

theorem edgeSettled_of_inUse {n : Nat} (hn : n < 2) (hu : s.dpll.inUse = n) (hv : (syncGet s n).valid = true)
    (h33 : (cwGet s syncCtrlAddr).getLsbD 33 = false) (h34 : (cwGet s syncCtrlAddr).getLsbD 34 = false) :
    edgeSettled n false phase freq s = s.putDpll { s.dpll with phase := phaseHeld phase, freq := freq.toNat } := by
  unfold edgeSettled
  dsimp only
  rw [if_neg Bool.false_ne_true,
    dpllSelect_of_same (by omega) ((dpllChoice_of_valid hn hu hv h33 h34).trans hu.symm), if_pos hu]
end Edge

/-- An edge of the input in use, in its place and at its rate (R500). -/
theorem syncEdge_accepted {x : RefName} {gap : Nat} {phase : Int} {freq : BitVec 20} {s : State} (hs : Safety.tablesOk s = true)
    (h : (syncGet s (refNum x)).seen = false ∨ (1 ≤ edgePos gap ∧ edgeOff gap ≤ 2500)) (hu : s.dpll.inUse = refNum x)
    (hv : (syncGet s (refNum x)).valid = true)
    (hrate : rateOut (if (syncGet s (refNum x)).seen = true ∧ edgePos gap = 1 then (gap :: (syncGet s (refNum x)).periods).take 64
      else (syncGet s (refNum x)).periods) = false)
    (h33 : (cwGet s syncCtrlAddr).getLsbD 33 = false) (h34 : (cwGet s syncCtrlAddr).getLsbD 34 = false) :
    reaches (exec (.syncEdge x gap phase freq) s) fun t => (syncGet t (refNum x)).seen = true ∧
      (syncGet t (refNum x)).lost = false ∧ (syncGet t (refNum x)).valid = true ∧
      (syncGet t (refNum x)).clean =
        (if (syncGet s (refNum x)).seen = true ∧ edgePos gap = 1 then min ((syncGet s (refNum x)).clean + 1) 8000 else 1) ∧
      keeps syncGet s t [refNum x] ∧ t.dpll = { s.dpll with phase := phaseHeld phase, freq := freq.toNat } ∧
      t = { s with sync := t.sync, dpll := t.dpll } := by
  have hlt : refNum x < 2 := by obtain h0 | h1 := refNum_cases x <;> omega
  have hget : syncGet (syncPut (refNum x) (edgeTaken gap (edgePos gap) (syncGet s (refNum x))) s) (refNum x) =
      edgeTaken gap (edgePos gap) (syncGet s (refNum x)) := syncGet_syncPut (tablesOk_sync hs)
  have hkeeps : keeps syncGet s (syncPut (refNum x) (edgeTaken gap (edgePos gap) (syncGet s (refNum x))) s) [refNum x] := keeps_syncPut
  have hexec := syncEdge_of_accepted (phase := phase) (freq := freq) h
  generalize syncGet s (refNum x) = c at *
  have hrate' : rateOut (if c.seen && edgePos gap = 1 then (gap :: c.periods).take 64 else c.periods) = false := by
    simpa using hrate
  have htaken : (edgeTaken gap (edgePos gap) c).valid = true ∧ (edgeTaken gap (edgePos gap) c).clean =
      if c.seen = true ∧ edgePos gap = 1 then min (c.clean + 1) 8000 else 1 := by
    unfold edgeTaken
    dsimp only
    rw [hrate']
    simp [hv]
  rw [hrate', Bool.false_and, edgeSettled_of_inUse (s := syncPut (refNum x) (edgeTaken gap (edgePos gap) c) s) hlt hu
    (by rw [hget]; exact htaken.1) h33 h34] at hexec
  refine ⟨_, hexec, ?_⟩
  obtain ⟨hvalid, hclean⟩ := htaken
  have hget' : syncGet ((syncPut (refNum x) (edgeTaken gap (edgePos gap) c) s).putDpll
      { s.dpll with phase := phaseHeld phase, freq := freq.toNat }) (refNum x) = edgeTaken gap (edgePos gap) c := hget
  refine ⟨congrArg SyncIn.seen hget', congrArg SyncIn.lost hget', (congrArg SyncIn.valid hget').trans hvalid,
    (congrArg SyncIn.clean hget').trans hclean, hkeeps, rfl, rfl⟩

/-! ### CLK_SYNC_CTRL (R499, R501) -/

/-- The bits that CLK_SYNC_CTRL keeps. -/
def syncKept (v : Word) : Word := v &&& 0xFFFFF0000

theorem getLsbD_syncKept {v : Word} {i : Nat} (h : 16 ≤ i) : (syncKept v).getLsbD i = v.getLsbD i := by
  by_cases hi : i < 36
  · have hmask : ∀ j, j < 36 → 16 ≤ j → (0xFFFFF0000 : Word).getLsbD j = true := by decide
    rw [syncKept, BitVec.getLsbD_and, hmask i hi h, Bool.and_true]
  · rw [BitVec.getLsbD_of_ge _ _ (by omega), BitVec.getLsbD_of_ge _ _ (by omega)]

/-- A new word selects, before a new phase offset slews. -/
def syncSelected (old v : Word) (s : State) : State :=
  dpllSelect (decide (fld old 35 35 ≠ fld v 35 35) || (bit old 33 && !bit v 33)) (cwSet syncCtrlAddr (syncKept v) s)

theorem applySyncCtrl_eq (v : Word) (s : State) : applySyncCtrl v s = if fld v 32 31 = 3 then .error St.cfgRange
    else .ok (let u := syncSelected (cwGet s syncCtrlAddr) v s
      if fld (cwGet s syncCtrlAddr) 30 19 ≠ fld v 30 19 && u.dpll.inUse < 2 then u.putDpll { u.dpll with slewing := true } else u) := rfl

theorem cwGet_dpllSelect {a : Nat} (ha : a / 2 ^ 18 ≠ clsCen) (fresh : Bool) (s : State) : cwGet (dpllSelect fresh s) a = cwGet s a := by
  have hentry : ∀ e i d, cwGet (clkEvt e i (cenInc 43 (s.putDpll d))) a = cwGet s a := fun e i d =>
    (cwGet_cenInc_of_class ha (by decide) (s.putDpll d)).trans rfl
  unfold dpllSelect
  dsimp only
  refine cwGet_ite (cwGet_ite rfl (cwGet_ite ?_ ?_)) (cwGet_ite rfl rfl)
  · exact hentry ..
  · exact hentry ..

section SyncCtrl
variable {v : Word} {s : State}

theorem keeps_sync_of_eq {t : State} (h : t.sync = s.sync) : keeps syncGet s t [] := fun n _ => by
  unfold syncGet
  rw [h]

theorem syncSelected_sync (old : Word) : (syncSelected old v s).sync = s.sync := by
  apply dpllSelect_frame (π := State.sync) (hk := rfl) <;> exact fun _ _ => rfl

theorem cwGet_syncSelected (hs : tabWf cwReset s.cw = true) (old : Word) :
    cwGet (syncSelected old v s) syncCtrlAddr = syncKept v := by
  rw [syncSelected, cwGet_dpllSelect (by decide), cwGet_cwSet hs]

/-- A write that moves neither preference nor force nor the choice selects nothing. -/
theorem syncSelected_of_same (hs : tabWf cwReset s.cw = true) (hp : fld (cwGet s syncCtrlAddr) 35 35 = fld v 35 35)
    (h33 : (cwGet s syncCtrlAddr).getLsbD 33 = v.getLsbD 33) (h34 : (cwGet s syncCtrlAddr).getLsbD 34 = v.getLsbD 34)
    (hu : s.dpll.inUse < 2) (hc : dpllChoice s false = s.dpll.inUse) :
    syncSelected (cwGet s syncCtrlAddr) v s = cwSet syncCtrlAddr (syncKept v) s := by
  have hfresh : (decide (fld (cwGet s syncCtrlAddr) 35 35 ≠ fld v 35 35) || (bit (cwGet s syncCtrlAddr) 33 && !bit v 33)) = false := by
    rw [bit_eq_getLsbD, bit_eq_getLsbD, h33, decide_eq_false (not_not.2 hp), Bool.false_or]
    cases v.getLsbD 33 <;> rfl
  have hset : cwGet (cwSet syncCtrlAddr (syncKept v) s) syncCtrlAddr = syncKept v := cwGet_cwSet hs
  have hbit : ∀ i, 16 ≤ i → (cwGet s syncCtrlAddr).getLsbD i = v.getLsbD i →
      bit (cwGet (cwSet syncCtrlAddr (syncKept v) s) syncCtrlAddr) i = bit (cwGet s syncCtrlAddr) i := fun i hi h => by
    rw [hset, bit_eq_getLsbD, bit_eq_getLsbD, getLsbD_syncKept hi, h]
  have hpref : fld (cwGet (cwSet syncCtrlAddr (syncKept v) s) syncCtrlAddr) 35 35 = fld (cwGet s syncCtrlAddr) 35 35 := by
    rw [hset, hp]
    exact fld_congr fun i h1 _ => getLsbD_syncKept (by omega)
  have hchoice : dpllChoice (cwSet syncCtrlAddr (syncKept v) s) false = dpllChoice s false := by
    unfold dpllChoice
    dsimp only
    rw [hbit 33 (by omega) h33, hbit 34 (by omega) h34, hpref]
    rfl
  rw [syncSelected, hfresh]
  exact dpllSelect_of_same hu (hchoice.trans hc)

theorem clkSyncCtrl_stored {o : Origin} (hs : tabWf cwReset s.cw = true) (h : fld v 32 31 ≠ 3) :
    applies o .word syncCtrlAddr s (.next (settle o .word syncCtrlAddr s (applySyncCtrl v s))) fun t =>
      cwGet t syncCtrlAddr = syncKept v ∧ keeps syncGet s t [] ∧
      (fld (cwGet s syncCtrlAddr) 35 35 = fld v 35 35 → (cwGet s syncCtrlAddr).getLsbD 33 = v.getLsbD 33 →
        (cwGet s syncCtrlAddr).getLsbD 34 = v.getLsbD 34 → fld (cwGet s syncCtrlAddr) 30 19 ≠ fld v 30 19 → s.dpll.inUse < 2 →
        dpllChoice s false = s.dpll.inUse →
        t.dpll = { s.dpll with slewing := true } ∧ cwKept s t [syncCtrlAddr] ∧ t = { s with cw := t.cw, dpll := t.dpll }) := by
  rw [applySyncCtrl_eq, if_neg h]
  refine applies_ok ?_
  dsimp only
  refine ⟨?_, keeps_sync_of_eq ?_, fun hp h33 h34 hofs hu hc => ?_⟩
  · refine Eq.trans ?_ (cwGet_syncSelected hs (cwGet s syncCtrlAddr))
    exact cwGet_ite rfl rfl
  · refine Eq.trans ?_ (syncSelected_sync (v := v) (cwGet s syncCtrlAddr))
    exact frame_ite (π := State.sync) rfl fun _ => rfl
  · have hu' : (cwSet syncCtrlAddr (syncKept v) s).dpll.inUse < 2 := hu
    rw [syncSelected_of_same hs hp h33 h34 hu hc, if_pos (Bool.and_eq_true_iff.2 ⟨decide_eq_true hofs, decide_eq_true hu'⟩)]
    exact ⟨rfl, fun b hb => cwGet_cwSet_ne (by simpa using hb), rfl⟩
end SyncCtrl

/-! ### Recovered clocks (R505, R506) -/

section Rec
variable {n : Nat} {w : Word} {s : State} {o : Origin}

section Written
variable {t : State} {c : RecClk} (ht : t.recClk = tabSet {} s.recClk n c)
include ht

theorem recGet_of_recClk (h : tabWf (fun _ => ({} : RecClk)) s.recClk = true) : recGet t n = c := by
  rw [recGet, ht]
  exact tabGet_tabSet_same (d := fun _ => ({} : RecClk)) h

theorem keeps_of_recClk : keeps recGet s t [n] := fun m hm => by
  rw [recGet, ht]
  exact tabGet_tabSet_ne (by simpa using hm)
end Written

/-- The bits that REC_CLKn_CFG keeps. -/
def recKept (w : Word) : Word := w &&& 0xFFF800000

theorem applyRecClk_of_on (h : (cwGet s (recCfgAddr n)).getLsbD 35 = true) (hv : putFld (recKept w) 35 35 1 ≠ cwGet s (recCfgAddr n)) :
    applyRecClk n w s = .error St.portEnabled :=
  if_pos (by
    rw [bit_eq_getLsbD, h, Bool.true_and]
    exact bne_iff_ne.2 hv)

section Off
variable (h : (cwGet s (recCfgAddr n)).getLsbD 35 = false)
include h

theorem applyRecClk_of_range (hv : 4 < fld (recKept w) 26 24) : applyRecClk n w s = .error St.cfgRange :=
  (if_neg (by rw [bit_eq_getLsbD, h]; simp)).trans (if_pos hv)

variable (hr : fld (recKept w) 26 24 ≤ 4)
include hr

theorem applyRecClk_of_off (hv : (recKept w).getLsbD 35 = false) : applyRecClk n w s = .ok (cwSet (recCfgAddr n) (recKept w) s) := by
  unfold applyRecClk
  dsimp only
  rw [show w &&& 0xFFF800000 = recKept w from rfl, bit_eq_getLsbD, bit_eq_getLsbD, h, hv, if_neg (by simp), if_neg (by omega),
    if_neg (by simp), if_neg (by simp)]

/-- The region of the lane that the written word names. -/
def recRegionOf (w : Word) : Nat := fld (recKept w) 32 27 / 16

variable (hs : tabWf cwReset s.cw = true) (hv : (recKept w).getLsbD 35 = true)
include hs hv

/-- The synthesiser that an output takes as it is enabled. -/
theorem applyRecClk_of_enabled : applyRecClk n w s =
    match flexFind s (recRegionOf w) (· == .free) with
    | some k => .ok (flexPut (recRegionOf w) k (.recClk n) (recPut n { on := true } (cwSet (recCfgAddr n) (recKept w) s)))
    | none => .error St.resConflict := by
  have hregion : recRegion (cwSet (recCfgAddr n) (recKept w) s) n = recRegionOf w := by
    rw [recRegion, cwFld, cwGet_cwSet hs, recRegionOf]
  unfold applyRecClk
  dsimp only
  rw [show w &&& 0xFFF800000 = recKept w from rfl, bit_eq_getLsbD, bit_eq_getLsbD, h, hv, if_neg (by simp), if_neg (by omega),
    if_pos (by simp), hregion]
  rfl

theorem applyRecClk_of_none (h0 : flexGet s (recRegionOf w) 0 ≠ .free) (h1 : flexGet s (recRegionOf w) 1 ≠ .free) :
    applyRecClk n w s = .error St.resConflict := by
  have hfind : flexFind s (recRegionOf w) (· == .free) = none := by
    rw [flexFind, if_neg (by simpa using h0), if_neg (by simpa using h1)]
  rw [applyRecClk_of_enabled h hr hs hv, hfind]

theorem recClk_enabled (hok : Safety.tablesOk s = true) (h0 : flexGet s (recRegionOf w) 0 = .free) :
    applies o .word (recCfgAddr n) s (.next (settle o .word (recCfgAddr n) s (applyRecClk n w s))) fun t =>
      cwGet t (recCfgAddr n) = recKept w ∧ cwKept s t [recCfgAddr n] ∧ flexGet t (recRegionOf w) 0 = .recClk n ∧
      recGet t n = { on := true } ∧ keeps recGet s t [n] ∧ t = { s with cw := t.cw, flex := t.flex, recClk := t.recClk } := by
  have hfind : flexFind s (recRegionOf w) (· == .free) = some 0 := by rw [flexFind, if_pos (by simpa using h0)]
  rw [applyRecClk_of_enabled h hr hs hv, hfind]
  have hflex := tablesOk_flex hok
  have hrec := tablesOk_recClk hok
  exact applies_ok ⟨cwGet_cwSet hs, fun b hb => cwGet_cwSet_ne (by simpa using hb),
    flexGet_flexPut (s := recPut n { on := true } (cwSet (recCfgAddr n) (recKept w) s)) hflex,
    recGet_of_recClk rfl hrec, keeps_of_recClk (c := { on := true }) rfl, rfl⟩
end Off
end Rec

/-- Settles O40: an edge by where it stands, then the DPLL, its control and the recovered clocks. -/
theorem syncInputsAndRecoveredClocks : Obligations.SyncInputsAndRecoveredClocks := by
  unfold Obligations.SyncInputsAndRecoveredClocks
  intro x gap phase freq n w s hs i c k off accepted d cnt ctrl old a v held edge
  have hcw := tablesOk_cw hs
  refine ⟨syncEdge_rejected hs, fun h hu hv hrate h33 h34 => syncEdge_accepted hs h hu hv hrate h33 h34, fun h1 h2 h3 => ?_, fun h => ?_,
    fun h1 h2 => ?_, fun h => ?_, fun h1 h2 h3 => ?_, fun h => ?_, fun h => ?_, clkSyncCtrl_stored hcw, fun h hv => ?_, fun h hv => ?_,
    fun h hr hv => ?_, fun h hr hv => ⟨fun h0 h1 => ?_, recClk_enabled h hr hcw hv hs⟩, fun h => congrArg _ (if_pos h),
    fun h => ⟨congrArg _ (if_neg (by simp [h])), congrArg _ (if_pos (by simp [h]))⟩, fun h => congrArg _ (if_neg (by simp [h]))⟩
  · exact congrArg _ (if_pos (by simp [show (syncGet s (refNum x)).seen = true from h1,
      show (syncGet s (refNum x)).lost = false from h2, h3]))
  · refine congrArg _ (if_neg ?_)
    obtain h | h | h := h
    · simp [show (syncGet s (refNum x)).seen = false from h]
    · simp [show (syncGet s (refNum x)).lost = true from h]
    · simp [h]
  · exact congrArg _ (if_pos (by simp [show (syncGet s (refNum x)).valid = false from h1,
      show 8000 ≤ (syncGet s (refNum x)).clean from h2]))
  · refine congrArg _ (if_neg ?_)
    obtain h | h := h
    · simp [show (syncGet s (refNum x)).valid = true from h]
    · simp [show (syncGet s (refNum x)).clean < 8000 from h]
  · exact congrArg _ (if_pos (by simp [show s.dpll.slewing = true from h1, show -20 ≤ s.dpll.phase from h2,
      show s.dpll.phase ≤ 20 from h3]))
  · refine congrArg _ (if_neg ?_)
    obtain h | h | h := h
    · simp [show s.dpll.slewing = false from h]
    · simp [show s.dpll.phase < -20 from h]
    · simp [show 20 < s.dpll.phase from h]
  · exact congrArg (fun r => Host.Outcome.next (settle w.origin .word ctrl s r)) (if_pos h)
  · exact congrArg (fun r => Host.Outcome.next (settle w.origin .word a s r)) (applyRecClk_of_on h hv)
  · exact congrArg (fun r => Host.Outcome.next (settle w.origin .word a s r)) (applyRecClk_of_range h hv)
  · refine ⟨cwSet a v s, ⟨cwGet_cwSet hcw, fun b hb => cwGet_cwSet_ne (by simpa using hb), rfl⟩, ?_⟩
    exact congrArg (fun r => Host.Outcome.next (settle w.origin .word a s r)) (applyRecClk_of_off h hr hv)
  · exact congrArg (fun r => Host.Outcome.next (settle w.origin .word a s r)) (applyRecClk_of_none h hr hcw hv h0 h1)

end Sys2Proof.Machine
end

section
/-! PROOFS. O41: orderwire samples, slip buffers and slips (R509 to R517). -/

namespace Sys2Proof.Machine

theorem tablesOk_audio {s : State} (h : Safety.tablesOk s = true) : tabWf (fun _ => ({} : Audio)) s.audio = true := by
  simp only [Safety.tablesOk, Safety.unitTables, Bool.and_eq_true] at h; tauto

/-! ### Channels after a put -/

section Channels
variable {n m p q : Nat} {k : Chan} {x : Audio} {s : State}

theorem audioGet_audioPut (h : tabWf (fun _ => ({} : Audio)) s.audio = true) : audioGet (audioPut p x s) p = x :=
  tabGet_tabSet_same (d := fun _ => ({} : Audio)) h

theorem audioGet_audioPut_ne (h : q ≠ p) : audioGet (audioPut p x s) q = audioGet s q := tabGet_tabSet_ne h

theorem keeps_audioPut : keeps audioGet s (audioPut p x s) [p] := fun _ h => audioGet_audioPut_ne (by simpa using h)

theorem audioPut_ok (h : tabWf (fun _ => ({} : Audio)) s.audio = true) : tabWf (fun _ => ({} : Audio)) (audioPut p x s).audio = true :=
  tabSet_ok' h

theorem chanPut_ok (h : tabWf (fun _ => ({} : Audio)) s.audio = true) : tabWf (fun _ => ({} : Audio)) (chanPut n k s).audio = true :=
  audioPut_ok h

theorem audioGet_chanPut_ne (h : q ≠ n / 2) : audioGet (chanPut n k s) q = audioGet s q := audioGet_audioPut_ne h

theorem chanGet_chanPut (h : tabWf (fun _ => ({} : Audio)) s.audio = true) : chanGet (chanPut n k s) n = k := by
  unfold chanGet chanPut
  rw [audioGet_audioPut h]
  by_cases hn : n % 2 = 0
  · rw [if_pos hn, if_pos hn]
  · rw [if_neg hn, if_neg hn]

theorem chanGet_chanPut_ne (h : tabWf (fun _ => ({} : Audio)) s.audio = true) (hm : m ≠ n) :
    chanGet (chanPut n k s) m = chanGet s m := by
  by_cases hp : m / 2 = n / 2
  · unfold chanGet chanPut
    rw [hp, audioGet_audioPut h]
    by_cases hn : n % 2 = 0
    · rw [if_pos hn, if_neg (by omega), if_neg (by omega)]
    · rw [if_neg hn, if_pos (by omega), if_pos (by omega)]
  · unfold chanGet
    rw [audioGet_chanPut_ne hp]

theorem keeps_chanPut (h : tabWf (fun _ => ({} : Audio)) s.audio = true) : keeps chanGet s (chanPut n k s) [n] :=
  fun _ hm => chanGet_chanPut_ne h (by simpa using hm)
end Channels

/-! ### Samples that move (R509, R510) -/

section Slip
variable {n : Nat} {s : State} {a : Fin 65536} {l : List (Fin 65536)}

theorem slipWrite_of_room {tx : Bool} {v : Fin 65536} (h : (bufOf (chanGet s n) tx).length < 32) : slipWrite n tx v s =
    chanPut n (bufPut tx (bufOf (chanGet s n) tx ++ [v]) (chanGet s n)) s := by
  unfold slipWrite
  dsimp only
  rw [if_neg (by omega)]

theorem slipRead_rx (h : (chanGet s n).rx = a :: l) :
    slipRead n false s = (a, chanPut n { chanGet s n with rx := l, rxLast := a } s) := by
  have hb : bufOf (chanGet s n) false = a :: l := h
  unfold slipRead
  dsimp only
  rw [hb, if_neg (by simp), hb]
  rfl

theorem slipRead_tx (h : (chanGet s n).tx = a :: l) :
    slipRead n true s = (a, chanPut n { chanGet s n with tx := l, txLast := a } s) := by
  have hb : bufOf (chanGet s n) true = a :: l := h
  unfold slipRead
  dsimp only
  rw [hb, if_neg (by simp), hb]
  rfl

theorem applyGain_zero {v : Fin 65536} : applyGain 0 v s = (v, s) := by simp [applyGain]

/-- The sample that a channel gives its card. -/
def cardSample (s : State) (n : Nat) (a : Fin 65536) : Fin 65536 :=
  let k := chanGet s n
  if k.rxCfg.getLsbD 15 = true ∨ k.rxHeld = true ∨ lineGone s k.rxCfg = true then silence s n else a

/-- The sample that a channel gives its line. -/
def lineSample (s : State) (n : Nat) (a : Fin 65536) : Fin 65536 :=
  let k := chanGet s n
  if k.txCfg.getLsbD 16 = true ∨ k.txHeld = true then silence s n else a

variable (hs : tabWf (fun _ => ({} : Audio)) s.audio = true) (hrun : audRuns s (n / 2) = true) (hon : (owCfg s n).getLsbD 35 = true)
include hs hrun hon

theorem cardTx_of_cons (h : (chanGet s n).rx = a :: l) (hg : fld (chanGet s n).rxCfg 8 3 = 0) :
    cardTx n s = emit (.audio (n / 2) (n % 2) (cardSample s n a)) (chanPut n
      { chanGet s n with rx := l, rxLast := a, rxOut := linearOf s n (cardSample s n a) }
      (chanPut n { chanGet s n with rx := l, rxLast := a } s)) := by
  have hget : chanGet (chanPut n { chanGet s n with rx := l, rxLast := a } s) n = { chanGet s n with rx := l, rxLast := a } :=
    chanGet_chanPut hs
  have hsample : (if mutedDir { chanGet s n with rx := l, rxLast := a } false || lineGone s (chanGet s n).rxCfg then silence s n else a) =
      cardSample s n a := by
    simp [mutedDir, cardSample, or_assoc]
  unfold cardTx
  rw [if_neg (by simp [hrun, hon]), slipRead_rx h]
  dsimp only
  rw [hget, show gainOf false _ = 0 from hg, applyGain_zero]
  dsimp only
  rw [hget, ← hsample]
  rfl

theorem lineTx_of_cons (h : (chanGet s n).tx = a :: l) (hg : fld (chanGet s n).txCfg 14 9 = 0)
    (hb : fld (chanGet s n).txCfg 34 33 ≠ 2) :
    lineTx n s = emit (.orderwire (fld (chanGet s n).txCfg 32 19) (fld (chanGet s n).txCfg 34 33)
      (compressSample s n (lineSample s n a))) (chanPut n
      { chanGet s n with tx := l, txLast := a, txOut := linearOf s n (lineSample s n a) }
      (chanPut n { chanGet s n with tx := l, txLast := a } s)) := by
  have hget : chanGet (chanPut n { chanGet s n with tx := l, txLast := a } s) n = { chanGet s n with tx := l, txLast := a } :=
    chanGet_chanPut hs
  have hsample : (if mutedDir { chanGet s n with tx := l, txLast := a } true then silence s n else a) = lineSample s n a := by
    simp [mutedDir, lineSample]
  unfold lineTx
  rw [if_neg (by simp [hon])]
  dsimp only
  rw [if_neg (by simp [hrun]), slipRead_tx h]
  dsimp only
  rw [hget, show gainOf true _ = 0 from hg, applyGain_zero]
  dsimp only
  rw [hget, ← hsample, insertOctet]
  dsimp only
  rw [if_neg hb]
  rfl
end Slip

/-- A routed F1 is written in its buffer word, which the line reads. -/
theorem insertOctet_of_f1 {w : Word} {o : Nat} {s : State} (h : fld w 34 33 = 2) : insertOctet w o s =
    emit (.orderwire (fld w 32 19) 2 o)
      (ohSet (fld w 32 19) 0x12 1 (putFld (putFld (ohWord s (fld w 32 19) 0x12 1) 16 9 o) 17 17 1) s) := by
  unfold insertOctet
  dsimp only
  rw [if_pos h, h]

theorem lineTx_of_stopped {n : Nat} {s : State} (hon : (owCfg s n).getLsbD 35 = true) (hrun : audRuns s (n / 2) = false) :
    lineTx n s = insertOctet (chanGet s n).txCfg (silenceOctet s n) s := by
  unfold lineTx
  rw [if_neg (by simp [hon])]
  dsimp only
  rw [if_pos (by simp [hrun])]

theorem silenceOctet_eq (s : State) (n : Nat) : silenceOctet s n = if (owCfg s n).getLsbD 18 then 0xD5 else 0xFF := by
  simp [silenceOctet, owALaw]

theorem ohWord_emit (x : Out) (s : State) (i f w : Nat) : ohWord (emit x s) i f w = ohWord s i f w := rfl

/-- An octet out after work on the overhead changes nothing else. -/
theorem only_oh_out {s u t : State} {x : Tab Word} {o : Out} (hu : u = s.putOh x) (ht : t = emit o u) :
    t = { s with oh := t.oh, out := o :: s.out } := by
  subst hu ht
  rfl

theorem lineTx_f1 {n : Nat} {s : State} (hoh : OhOk s) (hon : (owCfg s n).getLsbD 35 = true) (hrun : audRuns s (n / 2) = false)
    (hb : fld (chanGet s n).txCfg 34 33 = 2) :
    let id := fld (chanGet s n).txCfg 32 19
    let o := if (owCfg s n).getLsbD 18 then 0xD5 else 0xFF
    fld (ohWord (lineTx n s) id 0x12 1) 16 9 = o ∧
      (∀ i f x, ohKey i f x ≠ ohKey id 0x12 1 → ohWord (lineTx n s) i f x = ohWord s i f x) ∧
      lineTx n s = { s with oh := (lineTx n s).oh, out := .orderwire id 2 o :: s.out } := by
  intro id o
  have ho : o < 256 := by
    unfold o
    split <;> decide
  have ht : lineTx n s = emit (.orderwire id 2 o) (ohSet id 0x12 1 (putFld (putFld (ohWord s id 0x12 1) 16 9 o) 17 17 1) s) := by
    rw [lineTx_of_stopped hon hrun, insertOctet_of_f1 hb, silenceOctet_eq]
  generalize hw : putFld (putFld (ohWord s id 0x12 1) 16 9 o) 17 17 1 = w at ht
  have hword : ohWord (lineTx n s) id 0x12 1 = w := by
    rw [ht, ohWord_emit, ohWord_ohSet hoh]
  refine ⟨?_, fun i f x hne => by rw [ht, ohWord_emit, ohWord_ohSet_ne hne], only_oh_out rfl ht⟩
  rw [hword, ← hw, fld_putFld_of_disjoint (by omega) (by omega) (by omega), fld_putFld (by omega) (by omega) (by omega)]

/-! ### Slips (R513, R514) -/

/-- The other fields of a word that counts stay. -/
theorem fld_cwCountFld_of_disjoint {a hi lo n hi' lo' : Nat} {s : State} (h : tabWf cwReset s.cw = true) (hlo : lo ≤ hi) (hhi : hi < 36)
    (hd : hi' < lo ∨ hi < lo') : fld (cwGet (cwCountFld a hi lo n s) a) hi' lo' = fld (cwGet s a) hi' lo' := by
  rw [cwCountFld, cwPut, cwGet_cwSet h, fld_putFld_of_disjoint hlo hhi hd]

/-- A direction of a channel with its buffer restored to 16 samples. -/
def slipChan (n : Nat) (tx : Bool) (s : State) : State :=
  chanPut n (bufPut tx (slipped (lastOf (chanGet s n) tx) (bufOf (chanGet s n) tx)) (chanGet s n)) s

/-- The word that counts the slips of a direction. -/
def slipWordAddr (n : Nat) (tx : Bool) : Nat := slipAddr n (if tx then 2 else 1)

/-- Work on the channels and then on control words changes nothing else. -/
theorem only_audio_cw {s u t : State} {x : Tab Audio} {c : Tab Word} (h1 : u = s.putAudio x) (h2 : t = u.putCw c) :
    t = { s with audio := t.audio, cw := t.cw } := by
  subst h1 h2
  rfl

section Slips
variable {n : Nat} {tx : Bool} {s : State}

theorem makeSlip_of_low (h : (bufOf (chanGet s n) tx).length ≤ 8) :
    makeSlip n tx s = cwCountFld (slipWordAddr n tx) 35 18 1 (slipChan n tx s) := by
  unfold makeSlip
  dsimp only
  rw [if_pos h, slipChan, slipWordAddr]

theorem makeSlip_of_high (h : ¬ (bufOf (chanGet s n) tx).length ≤ 8) :
    makeSlip n tx s = cwCountFld (slipWordAddr n tx) 17 0 1 (slipChan n tx s) := by
  unfold makeSlip
  dsimp only
  rw [if_neg h, slipChan, slipWordAddr]

theorem slipped_of_low {a : Fin 65536} {l : List (Fin 65536)} (h : l.length ≤ 8) :
    slipped a l = List.replicate (16 - l.length) a ++ l := if_pos h
theorem slipped_of_high {a : Fin 65536} {l : List (Fin 65536)} (h : ¬ l.length ≤ 8) : slipped a l = l.drop (l.length - 16) := if_neg h

/-- What a slip does to its channel, counting in the field [hi:lo] of its word and not in the field [hi':lo']. -/
def slipMade (n : Nat) (tx : Bool) (s t : State) (hi lo hi' lo' : Nat) : Prop :=
  chanGet t n = bufPut tx (slipped (lastOf (chanGet s n) tx) (bufOf (chanGet s n) tx)) (chanGet s n) ∧ keeps chanGet s t [n] ∧
    fld (cwGet t (slipWordAddr n tx)) hi lo = min (fld (cwGet s (slipWordAddr n tx)) hi lo + 1) (2 ^ (hi + 1 - lo) - 1) ∧
    fld (cwGet t (slipWordAddr n tx)) hi' lo' = fld (cwGet s (slipWordAddr n tx)) hi' lo' ∧
    cwKept s t [slipWordAddr n tx] ∧ t = { s with audio := t.audio, cw := t.cw }

/-- A count on top of work on the channels. -/
theorem counted_of_audio {s u t : State} {x : Tab Audio} {a hi lo hi' lo' : Nat} (hu : u = s.putAudio x) (ht : t = cwCountFld a hi lo 1 u)
    (hcw : tabWf cwReset s.cw = true) (hlo : lo ≤ hi) (hhi : hi < 36) (hd : hi' < lo ∨ hi < lo') : t.audio = u.audio ∧
    fld (cwGet t a) hi lo = min (fld (cwGet s a) hi lo + 1) (2 ^ (hi + 1 - lo) - 1) ∧ fld (cwGet t a) hi' lo' = fld (cwGet s a) hi' lo' ∧
    cwKept s t [a] ∧ t = { s with audio := t.audio, cw := t.cw } := by
  have hcwu : tabWf cwReset u.cw = true := by rw [hu]; exact hcw
  obtain ⟨hfld, hkept, -⟩ := cwCountFld_spec (a := a) (hi := hi) (lo := lo) (n := 1) hcwu hlo hhi
  have hother := fld_cwCountFld_of_disjoint (a := a) (n := 1) (hi' := hi') (lo' := lo') hcwu hlo hhi hd
  rw [← ht] at hfld hkept hother
  subst hu
  exact ⟨by rw [ht]; rfl, hfld, hother, hkept, only_audio_cw rfl ht⟩

theorem chanGet_congr {s t : State} (h : t.audio = s.audio) (n : Nat) : chanGet t n = chanGet s n := by
  unfold chanGet audioGet
  rw [h]

theorem slipMade_of_count {hi lo hi' lo' : Nat} {t : State} (hs : Safety.tablesOk s = true)
    (ht : t = cwCountFld (slipWordAddr n tx) hi lo 1 (slipChan n tx s)) (hlo : lo ≤ hi) (hhi : hi < 36) (hd : hi' < lo ∨ hi < lo') :
    slipMade n tx s t hi lo hi' lo' := by
  have haudio := tablesOk_audio hs
  obtain ⟨haud, hfld, hother, hkept, hrest⟩ := counted_of_audio (u := slipChan n tx s) rfl ht (tablesOk_cw hs) hlo hhi hd
  refine ⟨?_, fun m hm => ?_, hfld, hother, hkept, hrest⟩
  · rw [chanGet_congr haud]
    exact chanGet_chanPut haudio
  · rw [chanGet_congr haud]
    exact keeps_chanPut haudio m hm

/-- A slip by repeats counts in [35:18] of its word (R513). -/
theorem makeSlip_repeats (hs : Safety.tablesOk s = true) (h : (bufOf (chanGet s n) tx).length ≤ 8) :
    slipMade n tx s (makeSlip n tx s) 35 18 17 0 :=
  slipMade_of_count hs (makeSlip_of_low h) (by decide) (by decide) (by decide)

/-- A slip by discards counts in [17:0] of its word (R513). -/
theorem makeSlip_deletes (hs : Safety.tablesOk s = true) (h : ¬ (bufOf (chanGet s n) tx).length ≤ 8) :
    slipMade n tx s (makeSlip n tx s) 17 0 35 18 :=
  slipMade_of_count hs (makeSlip_of_high h) (by decide) (by decide) (by decide)
end Slips

/-! ### AUD_EVT records (R518) -/

/-- The record of an event of a port. -/
def audRecord (s : State) (p slot e : Nat) : Due :=
  { q := fld (cwGet s (audCfgAddr p)) 25 23, ty := 0x21, ws := [mkWord [(34, p), (33, slot), (29, e)], s.tick] }

/-- The records due with an event of a port, once per tick. -/
def audDue (s : State) (p slot e : Nat) : List Due :=
  if audRecord s p slot e ∈ s.due then s.due else s.due ++ [audRecord s p slot e]

theorem audEvt_eq (p slot e : Nat) (s : State) : audEvt p slot e s = s.putDue (audDue s p slot e) := by
  unfold audDue
  by_cases h : audRecord s p slot e ∈ s.due
  · rw [if_pos h]
    exact if_pos h
  · rw [if_neg h]
    exact if_neg h

theorem audDue_congr {s t : State} {p : Nat} (hc : cwGet t (audCfgAddr p) = cwGet s (audCfgAddr p)) (ht : t.tick = s.tick)
    (hd : t.due = s.due) (slot e : Nat) : audDue t p slot e = audDue s p slot e := by
  unfold audDue audRecord
  rw [hc, ht, hd]

section Forced
variable {n : Nat} {tx : Bool} {s : State}

/-- What a forced slip counts and records beside its slip (R514). -/
def forcedLeft (n : Nat) (s t : State) : Prop :=
  fld (cwGet t (slipAddr n 3)) 35 18 = min (fld (cwGet s (slipAddr n 3)) 35 18 + 1) 0x3FFFF ∧
    t = { s with audio := t.audio, cw := t.cw, due := audDue s (n / 2) (n % 2) 4 }

theorem slipAddr_inj {i j : Nat} : slipAddr n i = slipAddr n j ↔ i = j := by
  unfold slipAddr ctlAddr
  omega

/-- The slip words stand in another class than the ports' own. -/
theorem audCfgAddr_ne_slip {p j : Nat} (hp : p < 4) (hn : n < 8) (hj : j < 4) : audCfgAddr p ≠ slipAddr n j := by
  unfold audCfgAddr slipAddr ctlAddr clsAud clsQueue
  omega

theorem slipWordAddr_ne : slipWordAddr n tx ≠ slipAddr n 3 := by
  unfold slipWordAddr
  rw [Ne, slipAddr_inj]
  split <;> decide

/-- A count and a record after work on channels and control words. -/
theorem only_audio_cw_due {s u x t : State} {d : List Due} (hu : u = { s with audio := u.audio, cw := u.cw })
    (hx : x = { u with cw := x.cw }) (ht : t = x.putDue d) :
    t.audio = u.audio ∧ t.cw = x.cw ∧ t = { s with audio := t.audio, cw := t.cw, due := d } := by
  obtain ⟨au, cu, rfl⟩ : ∃ au cu, u = { s with audio := au, cw := cu } := ⟨_, _, hu⟩
  obtain ⟨cx, rfl⟩ : ∃ cx, x = { s with audio := au, cw := cx } := ⟨_, hx⟩
  subst ht
  exact ⟨rfl, rfl, rfl⟩

/-- Work on channels and control words leaves the tick and the records due. -/
theorem tick_due_of_audio_cw {s u : State} (h : u = { s with audio := u.audio, cw := u.cw }) : u.tick = s.tick ∧ u.due = s.due := by
  obtain ⟨au, cu, rfl⟩ : ∃ au cu, u = { s with audio := au, cw := cu } := ⟨_, _, h⟩
  exact ⟨rfl, rfl⟩

theorem tick_due_of_cw {u x : State} (h : x = { u with cw := x.cw }) : x.tick = u.tick ∧ x.due = u.due := by
  obtain ⟨cx, rfl⟩ : ∃ cx, x = { u with cw := cx } := ⟨_, h⟩
  exact ⟨rfl, rfl⟩

/-- A count and a record on top of work on channels and control words. -/
theorem forced_of_counted {s u t : State} {a : Nat} (hn : n < 8) (ha : a ≠ slipAddr n 3) (hac : audCfgAddr (n / 2) ≠ a)
    (hu : u = { s with audio := u.audio, cw := u.cw }) (hok : tabWf cwReset u.cw = true) (hkept : cwKept s u [a])
    (ht : t = audEvt (n / 2) (n % 2) 4 (cwCountFld (slipAddr n 3) 35 18 1 u)) :
    forcedLeft n s t ∧ t.audio = u.audio ∧ cwGet t a = cwGet u a ∧ cwKept s t [a, slipAddr n 3] := by
  have hcfg : audCfgAddr (n / 2) ≠ slipAddr n 3 := audCfgAddr_ne_slip (by omega) hn (by decide)
  obtain ⟨hfld, hkeep, hcount⟩ := cwCountFld_spec (a := slipAddr n 3) (hi := 35) (lo := 18) (n := 1) hok (by decide) (by decide)
  generalize cwCountFld (slipAddr n 3) 35 18 1 u = x at hfld hkeep hcount ht
  rw [audEvt_eq] at ht
  have hbefore : cwGet u (slipAddr n 3) = cwGet s (slipAddr n 3) := hkept _ (by simpa using ha.symm)
  obtain ⟨htick, hdues⟩ := tick_due_of_audio_cw hu
  obtain ⟨htick', hdues'⟩ := tick_due_of_cw hcount
  have hdue : audDue x (n / 2) (n % 2) 4 = audDue s (n / 2) (n % 2) 4 :=
    audDue_congr ((hkeep _ (by simpa using hcfg)).trans (hkept _ (by simpa using hac))) (htick'.trans htick) (hdues'.trans hdues) _ _
  rw [hdue] at ht
  obtain ⟨haud, hcw, hrest⟩ := only_audio_cw_due hu hcount ht
  refine ⟨⟨?_, hrest⟩, haud, ?_, fun b hb => ?_⟩
  · rw [cwGet_congr hcw, ← hbefore]
    exact hfld
  · rw [cwGet_congr hcw]
    exact hkeep a (by simpa using ha)
  · simp only [List.mem_cons, List.not_mem_nil, or_false, not_or] at hb
    rw [cwGet_congr hcw]
    exact (hkeep b (by simpa using hb.2)).trans (hkept b (by simpa using hb.1))

/-- A forced slip: its slip, and its count and record. -/
theorem forceSlip_spec {hi lo hi' lo' : Nat} (hn : n < 8) (hs : Safety.tablesOk s = true)
    (h : slipMade n tx s (makeSlip n tx s) hi lo hi' lo') :
    let t := forceSlip n tx s
    chanGet t n = bufPut tx (slipped (lastOf (chanGet s n) tx) (bufOf (chanGet s n) tx)) (chanGet s n) ∧ keeps chanGet s t [n] ∧
      fld (cwGet t (slipWordAddr n tx)) hi lo = min (fld (cwGet s (slipWordAddr n tx)) hi lo + 1) (2 ^ (hi + 1 - lo) - 1) ∧
      cwKept s t [slipWordAddr n tx, slipAddr n 3] ∧ forcedLeft n s t := by
  have hok : tabWf cwReset (makeSlip n tx s).cw = true := by
    unfold makeSlip
    dsimp only
    have hcw := tablesOk_cw hs
    split <;> exact cwSet_ok hcw
  have hac : audCfgAddr (n / 2) ≠ slipWordAddr n tx := by
    unfold slipWordAddr
    exact audCfgAddr_ne_slip (by omega) hn (by split <;> decide)
  intro t
  have ht : t = audEvt (n / 2) (n % 2) 4 (cwCountFld (slipAddr n 3) 35 18 1 (makeSlip n tx s)) := rfl
  generalize makeSlip n tx s = u at h hok ht
  obtain ⟨hchan, hchans, hfld, -, hkept, hrest⟩ := h
  obtain ⟨hforced, haud, hword, hkeep⟩ := forced_of_counted hn slipWordAddr_ne hac hrest hok hkept ht
  exact ⟨(chanGet_congr haud n).trans hchan, fun m hm => (chanGet_congr haud m).trans (hchans m hm), by rw [hword]; exact hfld, hkeep, hforced⟩
end Forced

/-! ### The counts cleared (R517) -/

/-- Control words put one after the other change nothing else. -/
theorem only_cw_thrice {s u v t : State} {x y z : Tab Word} (hu : u = s.putCw x) (hv : v = u.putCw y) (ht : t = v.putCw z) :
    t = { s with cw := t.cw } := by
  subst hu hv ht
  rfl

/-- Three words that read 0. -/
theorem cwSet_thrice {s : State} {a b c : Nat} (h : tabWf cwReset s.cw = true) (hab : a ≠ b) (hac : a ≠ c) (hbc : b ≠ c) :
    let t := cwSet a 0 (cwSet b 0 (cwSet c 0 s))
    (cwGet t a = 0 ∧ cwGet t b = 0 ∧ cwGet t c = 0) ∧ cwKept s t [a, b, c] ∧ t = { s with cw := t.cw } := by
  have hc : tabWf cwReset (cwSet c 0 s).cw = true := cwSet_ok h
  have hb : tabWf cwReset (cwSet b 0 (cwSet c 0 s)).cw = true := cwSet_ok hc
  refine ⟨⟨cwGet_cwSet hb, ?_, ?_⟩, fun d hd => ?_, only_cw_thrice rfl rfl rfl⟩
  · rw [cwGet_cwSet_ne hab.symm, cwGet_cwSet hc]
  · rw [cwGet_cwSet_ne hac.symm, cwGet_cwSet_ne hbc.symm, cwGet_cwSet h]
  · simp only [List.mem_cons, List.not_mem_nil, or_false, not_or] at hd
    obtain ⟨hda, hdb, hdc⟩ := hd
    rw [cwGet_cwSet_ne hda, cwGet_cwSet_ne hdb, cwGet_cwSet_ne hdc]

theorem audCntClear_spec {c : Fin 8} {s : State} (hs : Safety.tablesOk s = true) :
    reaches (exec (.audCntClear c) s) fun t => (∀ j, 1 ≤ j → j ≤ 3 → cwGet t (slipAddr c.val j) = 0) ∧
      cwKept s t [slipAddr c.val 1, slipAddr c.val 2, slipAddr c.val 3] ∧ t = { s with cw := t.cw } := by
  obtain ⟨⟨h1, h2, h3⟩, hkept, hrest⟩ := cwSet_thrice (a := slipAddr c.val 1) (b := slipAddr c.val 2) (c := slipAddr c.val 3)
    (tablesOk_cw hs) (by simp [slipAddr_inj]) (by simp [slipAddr_inj]) (by simp [slipAddr_inj])
  refine ⟨_, rfl, fun j hlo hhi => ?_, hkept, hrest⟩
  obtain rfl | rfl | rfl : j = 1 ∨ j = 2 ∨ j = 3 := by omega
  · exact h1
  · exact h2
  · exact h3

/-! ### The moves of a channel -/

section Moves
variable {c : Fin 8} {s : State}

theorem audSample_of_running {m : AudioMove} {t : State} (h : audRuns s (c.val / 2) = true ∧ (owCfg s c.val).getLsbD 35 = true)
    (hm : (∃ o : Fin 256, m = .lineRx o ∧ t = slipWrite c.val false (expandOctet s c.val o.val) s) ∨
      ∃ v, m = .cardRx v ∧ t = slipWrite c.val true v s) : exec (.audSample c m) s = .next t := by
  have hrun : (audRuns s (c.val / 2) && bit (owCfg s c.val) 35) = true := by rw [bit_eq_getLsbD, h.1, h.2]; rfl
  obtain ⟨o, rfl, rfl⟩ | ⟨v, rfl, rfl⟩ := hm
  · exact congrArg Host.Outcome.next (if_pos hrun)
  · exact congrArg Host.Outcome.next (if_pos hrun)

theorem audSample_of_idle (h : ¬ (audRuns s (c.val / 2) = true ∧ (owCfg s c.val).getLsbD 35 = true)) (o : Fin 256) (v : Fin 65536) :
    exec (.audSample c (.lineRx o)) s = .next s ∧ exec (.audSample c (.cardRx v)) s = .next s ∧ exec (.audSample c .cardTx) s = .next s := by
  have hidle : ¬ (audRuns s (c.val / 2) && bit (owCfg s c.val) 35) = true := by
    rw [bit_eq_getLsbD, Bool.and_eq_true]
    exact h
  refine ⟨congrArg Host.Outcome.next (if_neg hidle), congrArg Host.Outcome.next (if_neg hidle), congrArg Host.Outcome.next ?_⟩
  rw [Bool.not_eq_true] at hidle
  exact if_pos (by rw [hidle]; rfl)

theorem lineTx_of_disabled {n : Nat} (h : (owCfg s n).getLsbD 35 = false) : lineTx n s = s := if_pos (by rw [bit_eq_getLsbD, h]; rfl)

theorem audSlip_of_due {tx : Bool} (hrun : audRuns s (c.val / 2) = true)
    (h : (bufOf (chanGet s c.val) tx).length ≤ 8 ∨ 24 ≤ (bufOf (chanGet s c.val) tx).length) :
    exec (.audSlip c tx) s = .next (makeSlip c.val tx s) := congrArg Host.Outcome.next (if_pos (by simp [hrun, h]))

theorem audForcedSlip_of_due {tx : Bool} (hrun : audRuns s (c.val / 2) = true)
    (h : (bufOf (chanGet s c.val) tx).length = 0 ∨ 32 ≤ (bufOf (chanGet s c.val) tx).length) :
    exec (.audForcedSlip c tx) s = .next (forceSlip c.val tx s) := congrArg Host.Outcome.next (if_pos (by
      rw [hrun, Bool.true_and, Bool.or_eq_true, decide_eq_true_eq, decide_eq_true_eq]
      exact h))

/-- A sample out to the card or the line: its buffer loses the oldest one. -/
theorem chan_of_two_puts {n : Nat} {k k' : Chan} {o : Out} (hs : tabWf (fun _ => ({} : Audio)) s.audio = true) :
    let t := emit o (chanPut n k' (chanPut n k s))
    chanGet t n = k' ∧ keeps chanGet s t [n] ∧ t = { s with audio := t.audio, out := o :: s.out } := by
  have hput : tabWf (fun _ => ({} : Audio)) (chanPut n k s).audio = true := chanPut_ok hs
  have hkept : keeps chanGet s (chanPut n k s) [n] := keeps_chanPut hs
  have hrest : ∃ x, chanPut n k s = s.putAudio x := ⟨_, rfl⟩
  generalize chanPut n k s = u at hput hkept hrest
  intro t
  have haud : t.audio = (chanPut n k' u).audio := rfl
  refine ⟨(chanGet_congr haud n).trans (chanGet_chanPut hput), fun m hm => ?_, ?_⟩
  · exact (chanGet_congr haud m).trans ((keeps_chanPut hput m hm).trans (hkept m hm))
  · obtain ⟨x, rfl⟩ := hrest
    rfl
end Moves

/-- Settles O41: one lemma for each move of a sample, the slip of a direction by what it counts, and the forced slip as a slip with a
count and a record on top. -/
theorem orderwireSamplesMove : Obligations.OrderwireSamplesMove := by
  unfold Obligations.OrderwireSamplesMove
  intro c o v a l hz s hs
  have haud := tablesOk_audio hs
  dsimp only
  refine ⟨fun h hroom => ?_, fun h hroom => ?_, fun h => audSample_of_idle h o v,
    fun h => congrArg Host.Outcome.next (lineTx_of_disabled h), fun h hcons hg => ?_, fun h hcons hg hb => ?_, fun hon hrun hb => ?_,
    fun hrun => congrArg Host.Outcome.next (if_pos hrun), fun hrun hlow => ?_, fun hrun hhigh => ?_, fun hrun hlo hhi => ?_,
    fun hrun hnil => ?_, fun hrun hfull => ?_, audCntClear_spec hs⟩
  case _ => exact audSample_of_running h (.inl ⟨o, rfl, (slipWrite_of_room (tx := false) hroom).symm⟩)
  case _ => exact audSample_of_running h (.inr ⟨v, rfl, (slipWrite_of_room (tx := true) hroom).symm⟩)
  case _ => exact ⟨_, congrArg Host.Outcome.next (cardTx_of_cons haud h.1 h.2 hcons hg), chan_of_two_puts haud⟩
  case _ => exact ⟨_, congrArg Host.Outcome.next (lineTx_of_cons haud h.1 h.2 hcons hg hb), chan_of_two_puts haud⟩
  case _ => exact ⟨_, rfl, lineTx_f1 (tablesOk_oh hs) hon hrun hb⟩
  case _ =>
    have h := makeSlip_repeats (n := c.val) (tx := false) hs hlow
    unfold slipMade at h
    rw [slipped_of_low (l := bufOf (chanGet s c.val) false) hlow] at h
    exact ⟨_, audSlip_of_due (tx := false) hrun (.inl hlow), h⟩
  case _ =>
    have hnot : ¬ (chanGet s c.val).tx.length ≤ 8 := by omega
    have h := makeSlip_deletes (n := c.val) (tx := true) hs hnot
    unfold slipMade at h
    rw [slipped_of_high (l := bufOf (chanGet s c.val) true) hnot] at h
    exact ⟨_, audSlip_of_due (tx := true) hrun (.inr hhigh), h⟩
  case _ =>
    have hmid : ¬ ((bufOf (chanGet s c.val) false).length ≤ 8 ∨ 24 ≤ (bufOf (chanGet s c.val) false).length) := by
      show ¬ ((chanGet s c.val).rx.length ≤ 8 ∨ 24 ≤ (chanGet s c.val).rx.length)
      omega
    exact congrArg Host.Outcome.next (if_neg (by simpa [hrun] using hmid))
  case _ =>
    have hlow : (bufOf (chanGet s c.val) true).length ≤ 8 := by
      show (chanGet s c.val).tx.length ≤ 8
      simp [hnil]
    have h := forceSlip_spec c.isLt hs (makeSlip_repeats (n := c.val) (tx := true) hs hlow)
    rw [slipped_of_low hlow, show bufOf (chanGet s c.val) true = [] from hnil, List.append_nil] at h
    exact ⟨_, audForcedSlip_of_due (tx := true) hrun (.inl (by rw [show bufOf (chanGet s c.val) true = [] from hnil]; rfl)), h⟩
  case _ =>
    have hnot : ¬ (chanGet s c.val).rx.length ≤ 8 := by omega
    have h := forceSlip_spec c.isLt hs (makeSlip_deletes (n := c.val) (tx := false) hs hnot)
    rw [slipped_of_high (l := bufOf (chanGet s c.val) false) hnot] at h
    exact ⟨_, audForcedSlip_of_due (tx := false) hrun (.inr hfull), h⟩

end Sys2Proof.Machine
end

section
/-! PROOFS. O42: orderwire set-ups, changes that wait, and ports that freeze and resume (R508, R512, R515, R516). -/

namespace Sys2Proof.Machine

/-! ### Channels that start -/

/-- A channel as it takes its set-up whole. -/
def freshChan (s : State) (n : Nat) : Chan :=
  { rxCfg := owCfg s n, txCfg := owCfg s n, rx := List.replicate 16 (silence s n), tx := List.replicate 16 (silence s n),
    rxLast := silence s n, txLast := silence s n }

theorem startChan_eq (n : Nat) (s : State) : startChan n s = chanPut n (freshChan s n) s := rfl

theorem owCfg_congr {s t : State} (h : t.cw = s.cw) (n : Nat) : owCfg t n = owCfg s n := cwGet_congr h _

theorem silence_congr {s t : State} (h : t.cw = s.cw) (n : Nat) : silence t n = silence s n := by
  unfold silence owExpand silenceOctet owALaw
  rw [owCfg_congr h]

theorem freshChan_congr {s t : State} (h : t.cw = s.cw) (n : Nat) : freshChan t n = freshChan s n := by
  unfold freshChan
  rw [owCfg_congr h, silence_congr h]

theorem frozen_chanPut {n p : Nat} {k : Chan} {s : State} (h : tabWf (fun _ => ({} : Audio)) s.audio = true) :
    (audioGet (chanPut n k s) p).frozen = (audioGet s p).frozen := by
  by_cases hp : p = n / 2
  · subst hp
    unfold chanPut
    rw [audioGet_audioPut h]
    split <;> rfl
  · rw [audioGet_chanPut_ne hp]

theorem only_cw_audio {s u t : State} {c : Tab Word} {x : Tab Audio} (hu : u = s.putCw c) (ht : t = u.putAudio x) :
    t = { s with cw := t.cw, audio := t.audio } := by
  subst hu ht
  rfl

/-- Both channels of a port start. -/
theorem startChans_spec {p : Nat} {s t : State} (h : tabWf (fun _ => ({} : Audio)) s.audio = true)
    (ht : t = startChan (2 * p + 1) (startChan (2 * p) s)) :
    t.cw = s.cw ∧ (audioGet t p).frozen = (audioGet s p).frozen ∧ keeps audioGet s t [p] ∧
      chanGet t (2 * p) = freshChan t (2 * p) ∧ chanGet t (2 * p + 1) = freshChan t (2 * p + 1) ∧ ∃ x, t = s.putAudio x := by
  have hcw : (startChan (2 * p) s).cw = s.cw := rfl
  have hput : ∃ x, startChan (2 * p) s = s.putAudio x := ⟨_, rfl⟩
  have hok : tabWf (fun _ => ({} : Audio)) (startChan (2 * p) s).audio = true := chanPut_ok h
  have hfrozen : (audioGet (startChan (2 * p) s) p).frozen = (audioGet s p).frozen := frozen_chanPut h
  have hkept : keeps audioGet s (startChan (2 * p) s) [p] := fun q hq => audioGet_chanPut_ne (by simp at hq; omega)
  have hleft : chanGet (startChan (2 * p) s) (2 * p) = freshChan s (2 * p) := chanGet_chanPut h
  generalize startChan (2 * p) s = u at hcw hput hok hfrozen hkept hleft ht
  rw [startChan_eq] at ht
  have hcw' : t.cw = u.cw := by rw [ht]; rfl
  refine ⟨hcw'.trans hcw, by rw [ht, frozen_chanPut hok, hfrozen], fun q hq => ?_, ?_, ?_, ?_⟩
  · rw [ht, audioGet_chanPut_ne (by simp at hq; omega)]
    exact hkept q hq
  · rw [freshChan_congr (hcw'.trans hcw), ht, chanGet_chanPut_ne hok (by omega), hleft]
  · rw [freshChan_congr hcw', ht, chanGet_chanPut hok]
  · obtain ⟨x, rfl⟩ := hput
    exact ⟨_, ht⟩

/-! ### AUD_CFG (R508) -/

section AudCfg
variable {p : Fin 4} {w : CtlWrite} {s : State}

/-- The bits of AUD_CFG that are stored. -/
def audCfgWord (w : CtlWrite) : Word := w.value &&& 0xFFF800000

theorem audCfg_of_error {st : Nat} (h : applyAudCfg p.val w.value s = .error st) :
    exec (.audCfg p w) s = .next (refuse w.origin st .word (audCfgAddr p.val) s) :=
  congrArg (fun r => Host.Outcome.next (settle w.origin .word (audCfgAddr p.val) s r)) h

theorem audCfg_of_ok {t : State} {P : State → Prop} (h : applyAudCfg p.val w.value s = .ok t) (ht : P t) :
    applies w.origin .word (audCfgAddr p.val) s (exec (.audCfg p w) s) P := by
  have hexec : exec (.audCfg p w) s = .next (settle w.origin .word (audCfgAddr p.val) s (.ok t)) :=
    congrArg (fun r => Host.Outcome.next (settle w.origin .word (audCfgAddr p.val) s r)) h
  rw [hexec]
  exact applies_ok ht

theorem audCfg_timeout (h : 16 < fld (audCfgWord w) 30 26) :
    exec (.audCfg p w) s = .next (refuse w.origin 0x05 .word (audCfgAddr p.val) s) := audCfg_of_error (if_pos h)

variable (htime : fld (audCfgWord w) 30 26 ≤ 16)
include htime

theorem audCfg_format (hold : (cwGet s (audCfgAddr p.val)).getLsbD 35 = true) (hv : (audCfgWord w).getLsbD 35 = true)
    (hne : fld (cwGet s (audCfgAddr p.val)) 34 31 ≠ fld (audCfgWord w) 34 31) :
    exec (.audCfg p w) s = .next (refuse w.origin 0x08 .word (audCfgAddr p.val) s) := by
  refine audCfg_of_error ((if_neg (Nat.not_lt.mpr htime)).trans (if_pos ?_))
  rw [bit_eq_getLsbD, hold, bit_eq_getLsbD]
  show (true && (audCfgWord w).getLsbD 35 && decide _) = true
  rw [hv]
  exact decide_eq_true hne

variable (hfmt : fld (audCfgWord w) 34 33 ≠ 3)
include hfmt

theorem applyAudCfg_start (hold : (cwGet s (audCfgAddr p.val)).getLsbD 35 = false) (hv : (audCfgWord w).getLsbD 35 = true)
    (hp : p.val ≠ 3) : applyAudCfg p.val w.value s = .ok (startChan (2 * p.val + 1) (startChan (2 * p.val)
      (audioPut p.val {} (cwSet (audCfgAddr p.val) (audCfgWord w) s)))) := by
  have hold' : bit (cwGet s (audCfgAddr p.val)) 35 = false := by rw [bit_eq_getLsbD, hold]
  have hv' : bit (audCfgWord w) 35 = true := by rw [bit_eq_getLsbD, hv]
  unfold applyAudCfg
  dsimp only
  rw [← audCfgWord, if_neg (Nat.not_lt.mpr htime), if_neg (by rw [hold', Bool.false_and, Bool.false_and]; decide), if_neg hfmt,
    if_neg (by rw [decide_eq_false hp, Bool.and_false, Bool.false_and]; decide), if_pos (by rw [hold', hv']; rfl)]

theorem applyAudCfg_stop (hold : (cwGet s (audCfgAddr p.val)).getLsbD 35 = true) (hv : (audCfgWord w).getLsbD 35 = false) :
    applyAudCfg p.val w.value s = .ok (audioPut p.val {} (cwSet (audCfgAddr p.val) (audCfgWord w) s)) := by
  have hold' : bit (cwGet s (audCfgAddr p.val)) 35 = true := by rw [bit_eq_getLsbD, hold]
  have hv' : bit (audCfgWord w) 35 = false := by rw [bit_eq_getLsbD, hv]
  unfold applyAudCfg
  dsimp only
  rw [← audCfgWord, if_neg (Nat.not_lt.mpr htime), if_neg (by rw [hv', Bool.and_false, Bool.false_and]; decide), if_neg hfmt,
    if_neg (by rw [hv', Bool.false_and, Bool.false_and]; decide), if_neg (by rw [hv', Bool.false_and]; decide), if_pos (by rw [hold', hv']; rfl)]
end AudCfg

/-- A port whose word is written and whose state starts afresh. -/
theorem portCleared_spec {p a : Nat} {v : Word} {s u : State} (hs : Safety.tablesOk s = true) (hu : u = audioPut p {} (cwSet a v s)) :
    cwGet u a = v ∧ cwKept s u [a] ∧ audioGet u p = {} ∧ keeps audioGet s u [p] ∧ tabWf (fun _ => ({} : Audio)) u.audio = true ∧
      ∃ c x, u = (s.putCw c).putAudio x := by
  have haud := tablesOk_audio hs
  subst hu
  refine ⟨cwGet_cwSet (tablesOk_cw hs), cwKept_cwSet, audioGet_audioPut haud, keeps_audioPut, audioPut_ok haud, _, _, rfl⟩

/-! ### OW_CFG (R508, R512) -/

section OwCfg
variable {c : Fin 8} {w : CtlWrite} {s : State}

/-- The bits of OW_CFG that are stored. -/
def owCfgWord (w : CtlWrite) : Word := w.value &&& 0xFFFFFFFF8

theorem owCfg_refused {st : Nat} (h : owStatus s c.val (owCfgWord w) = st + 1) :
    exec (.owCfg c w) s = .next (refuse w.origin (st + 1) .word (owCfgAddr c.val) s) := by
  have hap : applyOw c.val w.value s = .error (st + 1) := by
    unfold applyOw
    dsimp only
    rw [← owCfgWord, h]
    rfl
  exact congrArg (fun r => Host.Outcome.next (settle w.origin .word (owCfgAddr c.val) s r)) hap

/-- A gain on octets that stay companded. -/
def owGain (v : Word) : Prop := v.getLsbD 17 = false ∧ (fld v 14 9 ≠ 0 ∨ fld v 8 3 ≠ 0)

/-- The context named carries the byte named. -/
def owRouted (s : State) (v : Word) : Prop :=
  terminates (monGet s (fld v 32 19)) = true ∧ monLayer (monGet s (fld v 32 19)) = if fld v 34 33 = 1 then 0xB else 0xA

/-- The byte is routed to another channel. -/
def owTaken (s : State) (n : Nat) (v : Word) : Prop :=
  ∃ x, x < 8 ∧ x ≠ n ∧ (owCfg s x).getLsbD 35 = true ∧ fld (owCfg s x) 34 19 = fld v 34 19

section Status
variable {n : Nat} {v : Word}

theorem owGain_iff : owGain v ↔ (!bit v 17 && (decide (fld v 14 9 ≠ 0) || decide (fld v 8 3 ≠ 0))) = true := by
  rw [bit_eq_getLsbD]
  unfold owGain
  generalize v.getLsbD 17 = b
  simp

theorem owRouted_iff : owRouted s v ↔
    (terminates (monGet s (fld v 32 19)) && monLayer (monGet s (fld v 32 19)) == owLayer (fld v 34 33)) = true := by
  simp [owRouted, owLayer]

theorem owTaken_iff : owTaken s n v ↔
    ((List.range 8).any fun o => o != n && bit (owCfg s o) 35 && fld (owCfg s o) 34 19 == fld v 34 19) = true := by
  simp only [owTaken, List.any_eq_true, List.mem_range, Bool.and_eq_true, bne_iff_ne, beq_iff_eq, bit_eq_getLsbD]
  constructor
  · rintro ⟨x, hx, hne, hon, hbyte⟩
    exact ⟨x, hx, ⟨hne, hon⟩, hbyte⟩
  · rintro ⟨x, hx, ⟨hne, hon⟩, hbyte⟩
    exact ⟨x, hx, hne, hon, hbyte⟩

theorem owStatus_of_gain (h : owGain v) : owStatus s n v = 5 := if_pos (owGain_iff.mp h)

variable (hgain : ¬ owGain v) (hon : v.getLsbD 35 = true) (hbyte : fld v 34 33 ≠ 3)
include hgain hon hbyte

/-- What is left to judge of an enabled route. -/
theorem owStatus_enabled : owStatus s n v =
    if !(terminates (monGet s (fld v 32 19)) && monLayer (monGet s (fld v 32 19)) == owLayer (fld v 34 33)) then St.mapRef
    else if (List.range 8).any fun o => o != n && bit (owCfg s o) 35 && fld (owCfg s o) 34 19 == fld v 34 19 then St.slotOverlap
    else 0 := by
  have hon' : ¬ (!bit v 35) = true := by rw [bit_eq_getLsbD, hon]; decide
  unfold owStatus
  dsimp only
  rw [if_neg (fun h => hgain (owGain_iff.mpr h)), if_neg hon', if_neg hbyte]

theorem owStatus_of_unrouted (h : ¬ owRouted s v) : owStatus s n v = 0x30 := by
  rw [owRouted_iff, Bool.not_eq_true] at h
  rw [owStatus_enabled hgain hon hbyte, h]
  rfl

theorem owStatus_of_taken (hr : owRouted s v) (h : owTaken s n v) : owStatus s n v = 0x32 := by
  rw [owStatus_enabled hgain hon hbyte, owRouted_iff.mp hr, owTaken_iff.mp h]
  rfl

theorem owStatus_of_free (hr : owRouted s v) (h : ¬ owTaken s n v) : owStatus s n v = 0 := by
  rw [owTaken_iff, Bool.not_eq_true] at h
  rw [owStatus_enabled hgain hon hbyte, owRouted_iff.mp hr, h]
  rfl
end Status

theorem owCfgAddr_ne_audCfgAddr {n p : Nat} : owCfgAddr n ≠ audCfgAddr p := by
  unfold owCfgAddr audCfgAddr ctlAddr
  omega

/-- The changes of a set-up that wait, direction by direction (R512). -/
def waitingChan (v : Word) (k : Chan) : Chan :=
  { k with txPend := decide (waitBits true v ≠ waitBits true k.txCfg), rxPend := decide (waitBits false v ≠ waitBits false k.rxCfg) }

/-- What a channel is after an accepted write that enables it. -/
def setUpChan (s t : State) (n : Nat) (v : Word) : Chan :=
  if (owCfg s n).getLsbD 35 then waitingChan v (chanGet s n) else freshChan t n

theorem setUpChan_congr {t u : State} {n : Nat} {v : Word} (h : t.cw = u.cw) : setUpChan s t n v = setUpChan s u n v := by
  unfold setUpChan
  rw [freshChan_congr h]

theorem applyOw_enabled (hok : owStatus s c.val (owCfgWord w) = 0) (hon : (owCfgWord w).getLsbD 35 = true)
    (hport : portAudOn s (c.val / 2) = true) :
    let t := cwSet (owCfgAddr c.val) (owCfgWord w) s
    applyOw c.val w.value s = .ok (chanPut c.val (setUpChan s t c.val (owCfgWord w)) t) := by
  intro t
  have hport' : portAudOn t (c.val / 2) = true := by
    rw [← hport]
    unfold portAudOn cwFld
    rw [cwGet_cwSet_ne owCfgAddr_ne_audCfgAddr.symm]
  have hon' : bit (owCfgWord w) 35 = true := by rw [bit_eq_getLsbD, hon]
  have hchan : chanGet t c.val = chanGet s c.val := chanGet_congr rfl _
  unfold applyOw setUpChan
  dsimp only
  rw [← owCfgWord, hok]
  rw [if_neg (by rw [hport']; decide), hon', bit_eq_getLsbD, hchan]
  cases (owCfg s c.val).getLsbD 35
  · exact congrArg Except.ok (startChan_eq _ _)
  · rfl

/-- An accepted write to OW_CFG. -/
theorem owCfg_enabled {P : State → Prop} (hok : owStatus s c.val (owCfgWord w) = 0) (hon : (owCfgWord w).getLsbD 35 = true)
    (hport : portAudOn s (c.val / 2) = true) (hs : Safety.tablesOk s = true)
    (hP : ∀ t, cwGet t (owCfgAddr c.val) = owCfgWord w → cwKept s t [owCfgAddr c.val] → keeps chanGet s t [c.val] →
      t = { s with cw := t.cw, audio := t.audio } → chanGet t c.val = setUpChan s t c.val (owCfgWord w) → P t) :
    applies w.origin .word (owCfgAddr c.val) s (exec (.owCfg c w) s) P := by
  have hexec : exec (.owCfg c w) s = .next (settle w.origin .word (owCfgAddr c.val) s (.ok _)) :=
    congrArg (fun r => Host.Outcome.next (settle w.origin .word (owCfgAddr c.val) s r)) (applyOw_enabled hok hon hport)
  have hword : cwGet (cwSet (owCfgAddr c.val) (owCfgWord w) s) (owCfgAddr c.val) = owCfgWord w := cwGet_cwSet (tablesOk_cw hs)
  have hkept : cwKept s (cwSet (owCfgAddr c.val) (owCfgWord w) s) [owCfgAddr c.val] := cwKept_cwSet
  have hcw : ∃ x, cwSet (owCfgAddr c.val) (owCfgWord w) s = s.putCw x := ⟨_, rfl⟩
  rw [hexec]
  generalize cwSet (owCfgAddr c.val) (owCfgWord w) s = u at hword hkept hcw
  have haud : tabWf (fun _ => ({} : Audio)) u.audio = true := by
    obtain ⟨x, rfl⟩ := hcw
    exact tablesOk_audio (s := s) hs
  have hchan : ∀ m, chanGet u m = chanGet s m := by
    obtain ⟨x, rfl⟩ := hcw
    exact fun m => chanGet_congr rfl m
  have hcw' : (chanPut c.val (setUpChan s u c.val (owCfgWord w)) u).cw = u.cw := rfl
  obtain ⟨x, hx⟩ := hcw
  refine applies_ok (hP _ ?_ ?_ (fun m hm => ?_) (only_cw_audio hx rfl) ?_)
  · rw [cwGet_congr hcw', hword]
  · exact fun b hb => (cwGet_congr hcw' b).trans (hkept b hb)
  · exact (keeps_chanPut haud m hm).trans (hchan m)
  · rw [setUpChan_congr hcw', chanGet_chanPut haud]
end OwCfg

/-! ### Changes that land (R512) -/

section Changes
variable {c : Fin 8} {tx : Bool} {s : State}

theorem audChangeLand_of_crossing (hw : changeWaits s c.val tx = true) (hx : crossing s c.val tx = true) :
    exec (.audChangeLand c tx) s = .next (landChange c.val tx s) := congrArg Host.Outcome.next (if_pos (by rw [hw, hx]; rfl))

theorem audChangeLand_of_not (h : changeWaits s c.val tx = false ∨ crossing s c.val tx = false) :
    exec (.audChangeLand c tx) s = .next s := congrArg Host.Outcome.next (if_neg (by rcases h with h | h <;> simp [h]))

/-- An event of a port after work on its channels. -/
theorem audEvt_of_audio {s u : State} {x : Tab Audio} (hu : u = s.putAudio x) (p slot e : Nat) :
    audEvt p slot e u = { u with due := audDue s p slot e } := by
  subst hu
  rw [audEvt_eq, audDue_congr (s := s) rfl rfl rfl]
  rfl

theorem audChangeTimeout_of_waiting (hw : changeWaits s c.val tx = true) :
    exec (.audChangeTimeout c tx) s = .next { landChange c.val tx s with due := audDue s (c.val / 2) (c.val % 2) 5 } :=
  congrArg Host.Outcome.next ((if_pos hw).trans (audEvt_of_audio (s := s) rfl _ _ _))

theorem audChangeTimeout_of_not (hw : changeWaits s c.val tx = false) : exec (.audChangeTimeout c tx) s = .next s :=
  congrArg Host.Outcome.next (if_neg (by rw [hw]; decide))
end Changes

/-! ### Port clocks (R515, R516) -/

section Ports
variable {p : Fin 4} {s : State}

/-- A port that freezes. -/
def frozenPort (x : Audio) : Audio :=
  { x with frozen := true, good := 0, left := { x.left with rx := [], tx := [] }, right := { x.right with rx := [], tx := [] } }

/-- A port that resumes. -/
def resumedPort (s : State) (p hz : Nat) : Audio :=
  { audioGet s p with frozen := false, good := 1, fsHz := hz, left := resumeChan s (2 * p) (audioGet s p).left,
                      right := resumeChan s (2 * p + 1) (audioGet s p).right }

/-- A count and a record on top of work on the channels. -/
theorem countedEvt_of_audio {s u v t : State} {x : Tab Audio} {a p slot e : Nat} (hu : u = s.putAudio x) (hcw : tabWf cwReset s.cw = true)
    (ha : audCfgAddr p ≠ a) (hv : v = cwCount a 1 u) (ht : t = audEvt p slot e v) :
    cwGet t a = satAdd (cwGet s a) 1 ∧ cwKept s t [a] ∧ t.audio = x ∧ t = { s with audio := t.audio, cw := t.cw, due := audDue s p slot e } := by
  have hword : cwGet v a = satAdd (cwGet s a) 1 := by
    rw [hv, hu]
    exact cwGet_cwSet hcw
  have hkept : cwKept s v [a] := by
    rw [hv, hu]
    exact cwKept_cwSet
  obtain ⟨y, hy⟩ : ∃ y, v = u.putCw y := ⟨_, hv⟩
  subst hu hy
  rw [audEvt_eq, audDue_congr (s := s) (hkept _ (by simpa using ha)) rfl rfl] at ht
  generalize audDue s p slot e = d at ht ⊢
  subst ht
  exact ⟨hword, hkept, rfl, rfl⟩

theorem audioGet_congr {s t : State} (h : t.audio = s.audio) (q : Nat) : audioGet t q = audioGet s q := by
  unfold audioGet
  rw [h]

theorem audPortFreeze_spec (hs : Safety.tablesOk s = true) (hon : portAudOn s p.val = true) (hrun : (audioGet s p.val).frozen = false) :
    reaches (exec (.audPortFreeze p) s) fun t => audioGet t p.val = frozenPort (audioGet s p.val) ∧ keeps audioGet s t [p.val] ∧
      cwGet t (ctlAddr 0x0D p.val 2) = satAdd (cwGet s (ctlAddr 0x0D p.val 2)) 1 ∧ cwKept s t [ctlAddr 0x0D p.val 2] ∧
      t = { s with audio := t.audio, cw := t.cw, due := audDue s p.val 0 1 } := by
  have hexec : exec (.audPortFreeze p) s = .next (audEvt p.val 0 1 (cwCount (ctlAddr 0x0D p.val 2) 1
      (audioPut p.val (frozenPort (audioGet s p.val)) s))) := congrArg Host.Outcome.next (if_pos (by rw [hon, hrun]; rfl))
  have haddr : audCfgAddr p.val ≠ ctlAddr 0x0D p.val 2 := by
    unfold audCfgAddr ctlAddr clsAud
    omega
  obtain ⟨hword, hkept, haud, hrest⟩ := countedEvt_of_audio (s := s) (a := ctlAddr 0x0D p.val 2) (p := p.val) (slot := 0) (e := 1)
    (u := audioPut p.val (frozenPort (audioGet s p.val)) s) rfl (tablesOk_cw hs) haddr rfl rfl
  refine ⟨_, hexec, ?_, fun q hq => ?_, hword, hkept, hrest⟩
  · exact (audioGet_congr (s := audioPut p.val (frozenPort (audioGet s p.val)) s) haud p.val).trans (audioGet_audioPut (tablesOk_audio hs))
  · exact (audioGet_congr (s := audioPut p.val (frozenPort (audioGet s p.val)) s) haud q).trans (audioGet_audioPut_ne (by simpa using hq))

theorem audPortResume_eq {hz : Fin 16384} (hon : portAudOn s p.val = true) (hf : (audioGet s p.val).frozen = true) :
    exec (.audPortResume p hz) s = .next { audioPut p.val (resumedPort s p.val hz.val) s with due := audDue s p.val 0 2 } :=
  congrArg Host.Outcome.next ((if_pos (by rw [hon, hf]; rfl)).trans
    (audEvt_of_audio (u := audioPut p.val (resumedPort s p.val hz.val) s) (s := s) rfl _ _ _))

/-- A port that is put, with records due. -/
theorem audioPut_due_spec {x : Audio} {d : List Due} (hs : tabWf (fun _ => ({} : Audio)) s.audio = true) {q : Nat} :
    let t := { audioPut q x s with due := d }
    audioGet t q = x ∧ keeps audioGet s t [q] ∧ t = { s with audio := t.audio, due := d } :=
  ⟨audioGet_audioPut (s := s) hs, keeps_audioPut (s := s), rfl⟩

theorem audPortResume_spec {hz : Fin 16384} (hs : Safety.tablesOk s = true) (hon : portAudOn s p.val = true)
    (hf : (audioGet s p.val).frozen = true) : reaches (exec (.audPortResume p hz) s) fun t =>
      (audioGet t p.val).frozen = false ∧ (audioGet t p.val).good = 1 ∧ (audioGet t p.val).fsHz = hz.val ∧
      (∀ x, x = 2 * p.val ∨ x = 2 * p.val + 1 → chanGet t x = resumeChan s x (chanGet s x)) ∧
      keeps audioGet s t [p.val] ∧ t = { s with audio := t.audio, due := audDue s p.val 0 2 } := by
  obtain ⟨hport, hkept, hrest⟩ := audioPut_due_spec (s := s) (x := resumedPort s p.val hz.val) (d := audDue s p.val 0 2) (q := p.val)
    (tablesOk_audio hs)
  refine ⟨_, audPortResume_eq hon hf, ?_, ?_, ?_, ?_, hkept, hrest⟩
  · rw [hport, resumedPort]
  · rw [hport, resumedPort]
  · rw [hport, resumedPort]
  · rintro x (rfl | rfl)
    · unfold chanGet
      rw [if_pos (by omega), if_pos (by omega), show 2 * p.val / 2 = p.val by omega, hport, resumedPort]
    · unfold chanGet
      rw [if_neg (by omega), if_neg (by omega), show (2 * p.val + 1) / 2 = p.val by omega, hport, resumedPort]

theorem audPortResume_of_running {hz : Fin 16384} (hf : (audioGet s p.val).frozen = false) : exec (.audPortResume p hz) s = .next s :=
  congrArg Host.Outcome.next (if_neg (by rw [hf]; simp))

/-- A port that carries again. -/
def liftedPort (x : Audio) : Audio :=
  { x with left := { x.left with rxHeld := false, txHeld := false }, right := { x.right with rxHeld := false, txHeld := false } }

theorem audMuteLift_eq (hrun : audRuns s p.val = true) (hgood : 8 ≤ (audioGet s p.val).good) (hheld : (audioGet s p.val).left.rxHeld = true) :
    exec (.audMuteLift p) s = .next { audioPut p.val (liftedPort (audioGet s p.val)) s with due := audDue s p.val 0 3 } :=
  congrArg Host.Outcome.next ((if_pos (by rw [hrun, decide_eq_true hgood, hheld]; rfl)).trans
    (audEvt_of_audio (u := audioPut p.val (liftedPort (audioGet s p.val)) s) (s := s) rfl _ _ _))

theorem audMuteLift_of_few (hgood : (audioGet s p.val).good < 8) : exec (.audMuteLift p) s = .next s :=
  congrArg Host.Outcome.next (if_neg (by rw [decide_eq_false (Nat.not_le.mpr hgood)]; simp))
end Ports

/-- Settles O42: the judgement of each word, one lemma for a channel that starts, and each event of a port as work on the channels with a
record. -/
theorem orderwireSetUpsAndPorts : Obligations.OrderwireSetUpsAndPorts := by
  unfold Obligations.OrderwireSetUpsAndPorts
  intro c p tx hz w s hs
  dsimp only
  refine ⟨audCfg_timeout, fun htime hold hv hne => audCfg_format htime hold hv hne, fun htime hold hv hfmt hp => ?_,
    fun htime hold hv hfmt => ?_, fun h => owCfg_refused (owStatus_of_gain h),
    fun hgain hon hbyte hr => owCfg_refused (owStatus_of_unrouted hgain hon hbyte hr),
    fun hgain hon hbyte hr ht => owCfg_refused (owStatus_of_taken hgain hon hbyte hr ht), fun hgain hon hbyte hr ht hport => ?_,
    fun hw hx => audChangeLand_of_crossing hw hx, fun h => audChangeLand_of_not h, fun hw => audChangeTimeout_of_waiting hw,
    fun hw => audChangeTimeout_of_not hw, fun hon hrun => audPortFreeze_spec hs hon hrun, fun hon hf => audPortResume_spec hs hon hf,
    fun _ hf => audPortResume_of_running hf, fun hrun hgood hheld => audMuteLift_eq hrun hgood hheld, fun h => audMuteLift_of_few h⟩
  case _ =>
    obtain ⟨hword, hkept, hclear, hports, haud, x, y, hrest⟩ := portCleared_spec (p := p.val) (a := audCfgAddr p.val) (v := audCfgWord w) hs rfl
    obtain ⟨hcw, hfrozen, hports', hleft, hright, z, hput⟩ := startChans_spec (p := p.val) haud rfl
    refine audCfg_of_ok (applyAudCfg_start htime hfmt hold hv hp) ⟨?_, ?_, ?_, ?_, hleft, hright, ?_⟩
    · rw [cwGet_congr hcw]
      exact hword
    · exact fun b hb => (cwGet_congr hcw b).trans (hkept b hb)
    · exact fun q hq => (hports' q hq).trans (hports q hq)
    · rw [hfrozen, hclear]
    · rw [hput, hrest]
      rfl
  case _ =>
    obtain ⟨hword, hkept, hclear, hports, -, x, y, hrest⟩ := portCleared_spec (p := p.val) (a := audCfgAddr p.val) (v := audCfgWord w) hs rfl
    refine audCfg_of_ok (applyAudCfg_stop htime hfmt hold hv) ⟨hword, hkept, hclear, hports, ?_⟩
    exact only_cw_audio rfl rfl
  case _ =>
    exact owCfg_enabled (owStatus_of_free hgain hon hbyte hr ht) hon hport hs fun t hword hkept hchans hrest hchan =>
      ⟨hword, hkept, hchans, hrest, hchan⟩

end Sys2Proof.Machine
end

section
/-! PROOFS. Power domains: what a change of domains moves and what it keeps (R520, R521, R524). -/

namespace Sys2Proof.Machine

theorem tablesOk_doms {s : State} (h : Safety.tablesOk s = true) : tabWf domReset s.doms = true := by
  simp only [Safety.tablesOk, Safety.coreTables, Bool.and_eq_true] at h; tauto

/-! ### One domain -/

section One
variable {d e : Nat} {k : Dom} {s : State}

theorem domGet_congr {s t : State} (h : t.doms = s.doms) (d : Nat) : domGet t d = domGet s d := by
  unfold domGet
  rw [h]

theorem domGet_domPut (h : tabWf domReset s.doms = true) : domGet (domPut d k s) d = k := tabGet_tabSet_same h

theorem domGet_domPut_ne (h : e ≠ d) : domGet (domPut d k s) e = domGet s e := tabGet_tabSet_ne h

theorem domPut_ok (h : tabWf domReset s.doms = true) : tabWf domReset (domPut d k s).doms = true := tabSet_ok h
end One

/-- What no change of domains touches, beside the control words of no domain. -/
def domRest (s : State) : Mode × Sec × List Due × SelfTest × Phase × BitVec 36 × Ilk :=
  (s.mode, s.sec, s.due, s.test, s.phase, s.tick, s.ilk)

theorem blindDomains_domRest : BlindDomains domRest := by constructor <;> exact fun _ _ => rfl

theorem blindDomains_tick : BlindDomains State.tick := by constructor <;> exact fun _ _ => rfl

/-- Work on domains of a list. -/
structure DomWork (ds : List Nat) (s t : State) : Prop where
  ok : tabWf domReset s.doms = true → tabWf domReset t.doms = true
  others : ∀ e, e ∉ ds → domGet t e = domGet s e
  rest : domRest t = domRest s
  words : ∀ a, ctlClass a ∉ domainClasses → cwGet t a = cwGet s a

theorem DomWork.refl (ds : List Nat) (s : State) : DomWork ds s s := ⟨id, fun _ _ => rfl, rfl, fun _ _ => rfl⟩

theorem DomWork.trans {ds es : List Nat} {s t u : State} (h : DomWork ds s t) (k : DomWork es t u) : DomWork (ds ++ es) s u where
  ok := k.ok ∘ h.ok
  others e he := by
    rw [List.mem_append, not_or] at he
    exact (k.others e he.2).trans (h.others e he.1)
  rest := k.rest.trans h.rest
  words a ha := (k.words a ha).trans (h.words a ha)

theorem DomWork.of_put (d : Nat) (k : Dom) (s : State) : DomWork [d] s (domPut d k s) where
  ok := domPut_ok
  others e he := domGet_domPut_ne (by simpa using he)
  rest := rfl
  words _ _ := rfl

/-- A condition that each step of a walk over domains brings about at its own domain, and no other step ends. -/
theorem DomWork.foldl {f : State → Nat → State} {P : Dom → Prop} (hf : ∀ s d, DomWork [d] s (f s d))
    (hP : ∀ s d, tabWf domReset s.doms = true → P (domGet (f s d) d)) (l : List Nat) (s : State) :
    DomWork l s (l.foldl f s) ∧ (tabWf domReset s.doms = true → ∀ d, d ∈ l → P (domGet (l.foldl f s) d)) := by
  induction l generalizing s with
  | nil => exact ⟨.refl _ s, fun _ d hd => absurd hd List.not_mem_nil⟩
  | cons x l ih =>
    obtain ⟨hwork, hall⟩ := ih (f s x)
    refine ⟨(hf s x).trans hwork, fun hs d hd => ?_⟩
    by_cases hl : d ∈ l
    · exact hall ((hf s x).ok hs) d hl
    · obtain rfl : d = x := (List.mem_cons.mp hd).resolve_right hl
      rw [List.foldl_cons, hwork.others d hl]
      exact hP s d hs

/-! ### Domains that move (R521) -/

theorem doms_moveDomain (d goal cause : Nat) (s : State) : (moveDomain d goal cause s).doms =
    if (domGet s d).goal = goal then s.doms else tabSet (domReset d) s.doms d { domGet s d with goal := goal, cause := cause } := by
  have hstop : ∀ t : State, (stopIn d t).doms = t.doms := fun t => by
    apply stopIn_frame (π := State.doms) (hk := rfl) <;> exact fun _ _ => rfl
  have hlose : ∀ t : State, (loseContents d t).doms = t.doms := fun t => by
    apply loseContents_frame (π := State.doms) (hk := rfl) <;> exact fun _ _ => rfl
  have hput : (domPut d { domGet s d with goal := goal, cause := cause } s).doms =
    tabSet (domReset d) s.doms d { domGet s d with goal := goal, cause := cause } := rfl
  unfold moveDomain
  dsimp only
  split
  · rfl
  · generalize domPut d { domGet s d with goal := goal, cause := cause } s = u at hput ⊢
    rw [← hput]
    have hmid : (if goal > 0 && (domGet s d).st = 0 then stopIn d u else u).doms = u.doms := by
      split
      · exact hstop u
      · rfl
    split
    · exact (hlose _).trans hmid
    · exact hmid

/-- What a change of goal leaves of a domain. -/
def domStands (k : Dom) : Nat × Bool × Bool × Bool := (k.st, k.burst, k.fault, k.held)

section Move
variable {d goal cause : Nat} {s : State}

theorem DomWork.of_move : DomWork [d] s (moveDomain d goal cause s) where
  ok h := by
    rw [doms_moveDomain]
    split
    · exact h
    · exact tabSet_ok h
  others e he := by
    unfold domGet
    rw [doms_moveDomain]
    split
    · rfl
    · exact tabGet_tabSet_ne (by simpa using he)
  rest := moveDomain_frame blindDomains_domRest d goal cause s rfl
  words _ ha := cwGet_moveDomain ha d goal cause s

variable (h : tabWf domReset s.doms = true)
include h

theorem domGet_moveDomain : domGet (moveDomain d goal cause s) d =
    if (domGet s d).goal = goal then domGet s d else { domGet s d with goal := goal, cause := cause } := by
  conv_lhs => unfold domGet
  rw [doms_moveDomain]
  split
  · rfl
  · exact tabGet_tabSet_same h

theorem goal_moveDomain : (domGet (moveDomain d goal cause s) d).goal = goal := by
  rw [domGet_moveDomain h]
  split
  · assumption
  · rfl

theorem domStands_moveDomain (e : Nat) : domStands (domGet (moveDomain d goal cause s) e) = domStands (domGet s e) := by
  by_cases he : e = d
  · subst he
    rw [domGet_moveDomain h]
    split <;> rfl
  · rw [(DomWork.of_move (d := d) (goal := goal) (cause := cause) (s := s)).others e (by simpa using he)]
end Move

/-- Goals of domains of a list have moved, and nothing else of any domain. -/
structure DomMoved (ds : List Nat) (s t : State) : Prop extends DomWork ds s t where
  stands : tabWf domReset s.doms = true → ∀ e, domStands (domGet t e) = domStands (domGet s e)

theorem DomMoved.refl (ds : List Nat) (s : State) : DomMoved ds s s := ⟨.refl ds s, fun _ _ => rfl⟩

theorem DomMoved.trans {ds es : List Nat} {s t u : State} (h : DomMoved ds s t) (k : DomMoved es t u) : DomMoved (ds ++ es) s u :=
  ⟨h.toDomWork.trans k.toDomWork, fun hs e => (k.stands (h.ok hs) e).trans (h.stands hs e)⟩

theorem DomMoved.of_move {d goal cause : Nat} {s : State} : DomMoved [d] s (moveDomain d goal cause s) :=
  ⟨.of_move, fun hs e => domStands_moveDomain hs e⟩

/-- A walk of moves whose goals other moves do not change. -/
theorem DomMoved.foldl {g : State → Nat → Nat} {cause : Nat}
    (hg : ∀ s t ds d, d < 64 → DomMoved ds s t → tabWf domReset s.doms = true → g t d = g s d) (l : List Nat) (s : State) :
    let t := l.foldl (fun s d => moveDomain d (g s d) cause s) s
    DomMoved l s t ∧ (tabWf domReset s.doms = true → ∀ d, d ∈ l → d < 64 → (domGet t d).goal = g s d) := by
  induction l generalizing s with
  | nil => exact ⟨.refl _ s, fun _ d hd _ => absurd hd List.not_mem_nil⟩
  | cons x l ih =>
    obtain ⟨hmoved, hall⟩ := ih (moveDomain x (g s x) cause s)
    have hstep : DomMoved [x] s (moveDomain x (g s x) cause s) := .of_move
    refine ⟨hstep.trans hmoved, fun hs d hd hlt => ?_⟩
    by_cases hl : d ∈ l
    · exact (hall (hstep.ok hs) d hl hlt).trans (hg _ _ _ d hlt hstep hs)
    · obtain rfl : d = x := (List.mem_cons.mp hd).resolve_right hl
      rw [List.foldl_cons, hmoved.others d hl]
      exact goal_moveDomain hs

theorem DomMoved.of_followDies (cause : Nat) (s : State) : DomMoved [52, 53] s (followDies cause s) := by
  have hstep : ∀ (d : Nat) (t : State), DomMoved [d] t (if (domGet t d).held then t else moveDomain d (regTarget t d) cause t) :=
    fun d t => by
      split
      · exact .refl _ t
      · exact .of_move
  exact (hstep 52 s).trans (hstep 53 _)

/-! ### The state a domain is to take (R520, R524) -/

/-- The words of the domains stand in no domain. -/
theorem pwrClass_ctlAddr {d : Nat} (hd : d < 64) : ctlClass (ctlAddr clsPwr d 0) ∉ domainClasses := by
  rw [ctlClass_ctlAddr (by decide) hd (by decide)]
  decide

theorem dependants_lt {c d : Nat} (h : c ∈ dependants d) : c < 64 ∧ c ≠ d := by
  unfold dependants at h
  split at h
  next hd =>
    simp only [Bool.and_eq_true, decide_eq_true_eq] at hd
    simp only [List.mem_append, List.mem_map, List.mem_range, List.mem_cons, List.not_mem_nil, or_false] at h
    rcases h with ⟨i, hi, rfl⟩ | rfl | rfl | rfl <;> omega
  next =>
    split at h
    next hd =>
      simp only [Bool.or_eq_true, decide_eq_true_eq] at hd
      simp only [List.mem_cons, List.not_mem_nil, or_false] at h
      omega
    next => exact absurd h List.not_mem_nil

section Target
variable {s t : State} {ds : List Nat} (h : DomMoved ds s t) (hs : tabWf domReset s.doms = true)
include h hs

theorem ownTarget_of_moved {d : Nat} (hd : d < 64) : ownTarget t d = ownTarget s d := by
  have hheld : ∀ e, (domGet t e).held = (domGet s e).held := fun e => congrArg (fun k : Nat × Bool × Bool × Bool => k.2.2.2) (h.stands hs e)
  have hburst : ∀ e, (domGet t e).burst = (domGet s e).burst := fun e => congrArg (fun k : Nat × Bool × Bool × Bool => k.2.1) (h.stands hs e)
  have hrest := h.rest
  simp only [domRest, Prod.mk.injEq] at hrest
  obtain ⟨hmode, hsec, -⟩ := hrest
  have hreq : domReq t d = domReq s d := congrArg (fun w => fld w 35 33) (h.words _ (pwrClass_ctlAddr hd))
  have hdeep : deepStandby t = deepStandby s := congrArg (fun w => fld w 31 31 == 1) (h.words pkgCtrlAddr (by decide))
  unfold ownTarget governing
  rw [hburst, hmode, hsec, hreq, hdeep]
  simp only [hheld]

theorem domTarget_of_moved {d : Nat} (hd : d < 64) : domTarget t d = domTarget s d := by
  unfold domTarget
  rw [ownTarget_of_moved h hs hd]
  exact List.foldl_ext _ _ _ fun n c hc => by rw [ownTarget_of_moved h hs (dependants_lt hc).1]
end Target

/-! ### Every domain toward the state it is due (R520, R524) -/

/-- A part of every domain that no step of a walk changes. -/
theorem domKept_foldl {α β : Type} {p : Dom → β} {f : State → α → State}
    (hf : ∀ s x, tabWf domReset s.doms = true → tabWf domReset (f s x).doms = true ∧ ∀ e, p (domGet (f s x) e) = p (domGet s e))
    (l : List α) (s : State) (hs : tabWf domReset s.doms = true) :
    tabWf domReset (l.foldl f s).doms = true ∧ ∀ e, p (domGet (l.foldl f s) e) = p (domGet s e) := by
  induction l generalizing s with
  | nil => exact ⟨hs, fun _ => rfl⟩
  | cons x l ih =>
    obtain ⟨hok, hkept⟩ := hf s x hs
    obtain ⟨hok', hkept'⟩ := ih (f s x) hok
    exact ⟨hok', fun e => (hkept' e).trans (hkept e)⟩

/-- A part of every domain that a put leaves. -/
theorem domKept_put {β : Type} {p : Dom → β} {d : Nat} {k : Dom} {s : State} (hs : tabWf domReset s.doms = true)
    (hk : p k = p (domGet s d)) : ∀ e, p (domGet (domPut d k s) e) = p (domGet s e) := fun e => by
  by_cases he : e = d
  · rw [he, domGet_domPut hs, hk]
  · rw [domGet_domPut_ne he]

theorem st_unhold (lift : Nat → Bool) {s : State} (hs : tabWf domReset s.doms = true) :
    tabWf domReset (unhold lift s).doms = true ∧ ∀ e, (domGet (unhold lift s) e).st = (domGet s e).st :=
  domKept_foldl (p := Dom.st) (fun t d ht => by
    split
    · exact ⟨domPut_ok ht, domKept_put ht rfl⟩
    · exact ⟨ht, fun _ => rfl⟩) _ s hs

/-- Every domain that is moved by its own target takes it, and stands where it stood. -/
theorem retarget_spec (cause : Nat) (lift : Nat → Bool) {s : State} (hs : tabWf domReset s.doms = true) :
    let t := retarget cause lift s
    (∀ d, d ∈ coreDomains ++ [49, 51] → (domGet t d).goal = domTarget t d) ∧ (∀ d, (domGet t d).st = (domGet s d).st) ∧
      domRest t = domRest s ∧ tabWf domReset t.doms = true := by
  intro t
  obtain ⟨hok, hst⟩ := st_unhold lift hs
  have hrest : domRest (unhold lift s) = domRest s := unhold_frame (fun _ _ => rfl) lift s rfl
  have ht : t = followDies cause ((coreDomains ++ [49, 51]).foldl (fun s d => moveDomain d (domTarget s d) cause s) (unhold lift s)) := rfl
  clear_value t
  generalize unhold lift s = u at hok hst hrest ht
  obtain ⟨hmoved, hgoal⟩ := DomMoved.foldl (g := domTarget) (cause := cause)
    (fun s t ds d hd h hs => domTarget_of_moved h hs hd) (coreDomains ++ [49, 51]) u
  generalize (coreDomains ++ [49, 51]).foldl (fun s d => moveDomain d (domTarget s d) cause s) u = v at hmoved hgoal ht
  have hdies : DomMoved [52, 53] v t := ht ▸ .of_followDies cause v
  have hall := hmoved.trans hdies
  refine ⟨fun d hd => ?_, fun d => ?_, hall.rest.trans hrest, hall.ok hok⟩
  · obtain ⟨hlt, hdie⟩ : d < 64 ∧ d ∉ [52, 53] := by
      simp only [coreDomains, List.mem_append, List.mem_range, List.mem_cons, List.not_mem_nil, or_false] at hd ⊢
      omega
    rw [domTarget_of_moved hall hok hlt, hdies.others d hdie]
    exact hgoal hok d hd hlt
  · exact (congrArg Prod.fst (hall.stands hok d)).trans (hst d)

/-! ### Requests (R525, Table 16-4) -/

section Requests
variable {d : Fin 56} {w : CtlWrite} {s : State}

/-- A domain that the owner may lower. -/
def ownerLowers (d : Nat) : Prop := d ≤ 39 ∨ d = 51

/-- What forbids a request: what the domain holds, carries or supports. -/
def reqBlocked (s : State) (d st : Nat) : Prop :=
  (st = 3 ∧ domHolds s d = true) ∨ (s.mode = .active ∧ 0 < st ∧ domCarries s d = true) ∨
    ∃ c, c ∈ dependants d ∧ ownTarget (unhold (fun e => e == d) s) c < st

theorem lowerable_iff {n : Nat} : lowerable n = true ↔ ownerLowers n := by
  simp [lowerable, ownerLowers]

theorem reqStatus_of_range {n st : Nat} (h : ¬ ownerLowers n ∨ 3 < st) : reqStatus s n st = 2 := by
  rw [← lowerable_iff] at h
  refine if_pos ?_
  rcases h with h | h
  · simp [h]
  · simp [h]

theorem reqStatus_of_lowerable {n st : Nat} (h : ownerLowers n) (hst : st ≤ 3) : reqStatus s n st =
    if st = 3 && domHolds s n then St.portInUse
    else if s.mode = .active && st > 0 && domCarries s n then St.portInUse
    else if (dependants n).any fun c => decide (ownTarget (unhold (fun k => k == n) s) c < st) then St.portInUse
    else 0 := if_neg (by simp [lowerable_iff.mpr h, hst])

theorem reqStatus_of_blocked {n st : Nat} (h : ownerLowers n) (hst : st ≤ 3) (hb : reqBlocked s n st) : reqStatus s n st = 9 := by
  rw [reqStatus_of_lowerable h hst]
  split
  · rfl
  next h1 =>
    split
    · rfl
    next h2 =>
      refine if_pos (List.any_eq_true.mpr ?_)
      rcases hb with ⟨h3, hold⟩ | ⟨hm, hpos, hcar⟩ | ⟨c, hc, hlt⟩
      · exact absurd (by simp [h3, hold]) h1
      · exact absurd (by simp [hm, hpos, hcar]) h2
      · exact ⟨c, hc, decide_eq_true hlt⟩

theorem reqStatus_of_free {n st : Nat} (h : ownerLowers n) (hst : st ≤ 3) (hb : ¬ reqBlocked s n st) : reqStatus s n st = 0 := by
  unfold reqBlocked at hb
  rw [not_or, not_or] at hb
  obtain ⟨hold, hcar, hdep⟩ := hb
  rw [reqStatus_of_lowerable h hst, if_neg (by simpa using hold), if_neg (by simpa [and_assoc] using hcar), if_neg]
  rw [List.any_eq_true]
  rintro ⟨c, hc, hlt⟩
  exact hdep ⟨c, hc, of_decide_eq_true hlt⟩

theorem pwrDomReq_refused {st : Nat} (h : reqStatus s d.val (fld w.value 35 33) = st + 1) :
    exec (.pwrDomReq d w) s = .next (refuse w.origin (st + 1) .word (ctlAddr clsPwr d.val 0) s) := by
  have happ : applyReq d.val (fld w.value 35 33) s = .error (st + 1) := by
    unfold applyReq
    rw [h]
    rfl
  exact congrArg (fun r => Host.Outcome.next (settle w.origin .word (ctlAddr clsPwr d.val 0) s r)) happ

/-- The state in which a request is kept. -/
def reqKept (d : Nat) (w : CtlWrite) (s : State) : State := cwPut (ctlAddr clsPwr d 0) 35 33 (fld w.value 35 33) s

theorem reqKept_spec (hs : Safety.tablesOk s = true) : let t := reqKept d.val w s
    fld (cwGet t (ctlAddr clsPwr d.val 0)) 35 33 = fld w.value 35 33 ∧ cwKept s t [ctlAddr clsPwr d.val 0] ∧ t = { s with cw := t.cw } := by
  refine ⟨?_, cwKept_cwSet, rfl⟩
  have hlt : fld w.value 35 33 < 8 := by
    rw [fld_eq]
    exact Nat.mod_lt _ (by decide)
  rw [reqKept, cwPut, cwGet_cwSet (tablesOk_cw hs), fld_putFld (by decide) (by decide) hlt]

theorem applyReq_of_ok {n st : Nat} {s u : State} (h : reqStatus s n st = 0) (hu : cwPut (ctlAddr clsPwr n 0) 35 33 st s = u) :
    applyReq n st s = .ok (if reqMode u.mode then retarget 1 (fun c => c == n) u else u) := by
  unfold applyReq
  rw [h]
  dsimp only
  rw [hu]
  rfl

theorem pwrDomReq_kept {P : State → Prop} (h : reqStatus s d.val (fld w.value 35 33) = 0)
    (hP : ∀ u, u = reqKept d.val w s → P (if reqMode u.mode then retarget 1 (fun c => c == d.val) u else u)) :
    applies w.origin .word (ctlAddr clsPwr d.val 0) s (exec (.pwrDomReq d w) s) P := by
  obtain ⟨u, hu⟩ : ∃ u, u = reqKept d.val w s := ⟨_, rfl⟩
  have happ := applyReq_of_ok h hu.symm
  have hexec : exec (.pwrDomReq d w) s = .next (settle w.origin .word (ctlAddr clsPwr d.val 0) s
      (.ok (if reqMode u.mode then retarget 1 (fun c => c == d.val) u else u))) :=
    congrArg (fun r => Host.Outcome.next (settle w.origin .word (ctlAddr clsPwr d.val 0) s r)) happ
  rw [hexec]
  exact applies_ok (hP u hu)

/-- A request in a mode that applies it. -/
theorem pwrDomReq_applied (hs : Safety.tablesOk s = true) (hlow : ownerLowers d.val) (hst : fld w.value 35 33 ≤ 3)
    (hb : ¬ reqBlocked s d.val (fld w.value 35 33)) (hm : reqMode s.mode = true) :
    applies w.origin .word (ctlAddr clsPwr d.val 0) s (exec (.pwrDomReq d w) s) fun t =>
      fld (cwGet t (ctlAddr clsPwr d.val 0)) 35 33 = fld w.value 35 33 ∧ (domGet t d.val).goal = domTarget t d.val ∧
        (domGet t d.val).st = (domGet s d.val).st ∧ t.mode = s.mode ∧ t.due = s.due := by
  obtain ⟨hword, -, hrest⟩ := reqKept_spec (d := d) (w := w) hs
  obtain ⟨x, hx⟩ : ∃ x, reqKept d.val w s = s.putCw x := ⟨_, hrest⟩
  refine pwrDomReq_kept (reqStatus_of_free hlow hst hb) fun u hu => ?_
  rw [← hu] at hword hx
  rw [if_pos (show reqMode u.mode = true by rw [hx]; exact hm)]
  have hdoms : u.doms = s.doms := by rw [hx]; rfl
  have hview : domRest u = domRest s := by rw [hx]; rfl
  obtain ⟨hgoal, hsame, hkept, -⟩ := retarget_spec 1 (fun c => c == d.val) (s := u) (by rw [hdoms]; exact tablesOk_doms hs)
  have hwords := cwGet_retarget (pwrClass_ctlAddr (d := d.val) (by omega)) 1 (fun c => c == d.val) u
  generalize retarget 1 (fun c => c == d.val) u = t at hgoal hsame hkept hwords
  have hcore : d.val ∈ coreDomains ++ [49, 51] := by
    rcases hlow with hlow | hlow
    · exact List.mem_append_left _ (List.mem_range.mpr (by omega))
    · rw [hlow]; decide
  rw [hview] at hkept
  simp only [domRest, Prod.mk.injEq] at hkept
  obtain ⟨hmode, -, hdue, -⟩ := hkept
  exact ⟨by rw [hwords, hword], hgoal d.val hcore, by rw [hsame, domGet_congr hdoms], hmode, hdue⟩
end Requests

/-! ### Changes completed (R521, R546) -/

/-- A PWR_EVT record. -/
def pwrRecord (s : State) (d old new cause : Nat) : Due :=
  { q := fld (cwGet s pkgCtrlAddr) 30 28, ty := 0x22, ws := [mkWord [(30, d), (27, old), (24, new), (20, cause)], s.tick] }

theorem pwrEvt_eq (d old new cause : Nat) (s : State) : pwrEvt d old new cause s = s.putDue (s.due ++ [pwrRecord s d old new cause]) := rfl

theorem pwrRecord_congr {s t : State} (hc : cwGet t pkgCtrlAddr = cwGet s pkgCtrlAddr) (ht : t.tick = s.tick) (d old new cause : Nat) :
    pwrRecord t d old new cause = pwrRecord s d old new cause := by
  unfold pwrRecord
  rw [hc, ht]

/-- What the completion of a change leaves beside its domain: domains, mode, phase, records, their queue and their tick. -/
def landView (s : State) : Tab Dom × Mode × Phase × List Due × Word × BitVec 36 :=
  (s.doms, s.mode, s.phase, s.due, cwGet s pkgCtrlAddr, s.tick)

/-- The region of a domain of clusters or of a region. -/
def landRegion (d : Nat) : Nat := if d < 16 then d / 4 else d % 4

/-- A region's rail starts where the domain is the first to return. -/
def landRail (before : Bool) (d : Nat) (s : State) : State :=
  if !before && (if d < 32 then railOn s (landRegion d) else true) then startRail (landRegion d) s else s

/-- A change to L1, L2 or L3 completes. -/
def landed (d : Nat) (s : State) : State :=
  let k := domGet s d
  let u := landRail (if d < 32 then railOn s (landRegion d) else true) d
    (domPut d { k with st := k.goal, fault := k.fault && decide (k.goal ≠ 0) } s)
  let v := if decide (k.goal < k.st) then cenInc 48 u else u
  followDies k.cause (if k.burst || k.cause = 8 then v else pwrEvt d k.st k.goal k.cause v)

section Land
variable {d : Nat} {s : State}

theorem landDomain_eq (hne : (domGet s d).st ≠ (domGet s d).goal) (hpos : 0 < (domGet s d).goal) (hlt : (domGet s d).goal < 4) :
    landDomain d s = landed d s := by
  unfold landDomain
  dsimp only
  rw [if_neg hne, if_neg (show ¬ (domGet s d).goal = 4 by omega)]
  unfold landed
  dsimp only
  generalize domPut d _ s = u
  have hgoal : ¬ (domGet s d).goal = 0 := by omega
  rw [if_neg hgoal, if_neg (c := (decide (d = 49) && decide ((domGet s d).goal = 0) && _) = true) (by simp [hgoal])]
  rfl

theorem landView_landRail (b : Bool) (d : Nat) (s : State) : landView (landRail b d s) = landView s := by
  unfold landRail
  generalize (!b && _) = c
  cases c <;> rfl

theorem landView_cenInc (n : Nat) (hn : n < 56) (s : State) : landView (cenInc n s) = landView s := by
  have hword : cwGet (cenInc n s) pkgCtrlAddr = cwGet s pkgCtrlAddr := cwGet_cenInc_of_class (by decide) (by omega) s
  have hrest := cenInc_fields hn s
  generalize cenInc n s = t at hword hrest
  unfold landView
  rw [hword, hrest]

/-- What stands as the domains of the dies follow. -/
theorem landed_begun (d : Nat) (s : State) : ∃ v, landView v = landView (domPut d
      { domGet s d with st := (domGet s d).goal, fault := (domGet s d).fault && decide ((domGet s d).goal ≠ 0) } s) ∧
    landed d s = followDies (domGet s d).cause (if (domGet s d).burst || (domGet s d).cause = 8 then v else
      pwrEvt d (domGet s d).st (domGet s d).goal (domGet s d).cause v) := by
  refine ⟨_, ?_, rfl⟩
  split
  · rw [landView_cenInc 48 (by decide), landView_landRail]
  · rw [landView_landRail]

theorem landed_spec (hs : tabWf domReset s.doms = true) :
    let k := domGet s d
    let t := landed d s
    (domGet t d).st = k.goal ∧ (∀ e, e ≠ d → (domGet t e).st = (domGet s e).st) ∧
      t.due = s.due ++ (if k.burst = true ∨ k.cause = 8 then [] else [pwrRecord s d k.st k.goal k.cause]) ∧ t.mode = s.mode ∧
      t.phase = s.phase := by
  intro k t
  obtain ⟨v, hview, ht⟩ := landed_begun d s
  simp only [landView, Prod.mk.injEq] at hview
  obtain ⟨hdoms, hmode, hphase, hdue, hword, htick⟩ := hview
  have hok : tabWf domReset v.doms = true := by
    rw [hdoms]
    exact domPut_ok hs
  have hhere : domGet v d = { k with st := k.goal, fault := k.fault && decide (k.goal ≠ 0) } :=
    (domGet_congr hdoms d).trans (domGet_domPut hs)
  have hthere : ∀ e, e ≠ d → domGet v e = domGet s e := fun e he => (domGet_congr hdoms e).trans (domGet_domPut_ne he)
  have hrecord : pwrRecord v d k.st k.goal k.cause = pwrRecord s d k.st k.goal k.cause := pwrRecord_congr hword htick _ _ _ _
  obtain ⟨u, hu, hudue, hudoms, humode, huphase⟩ : ∃ u, t = followDies k.cause u ∧
      u.due = v.due ++ (if k.burst = true ∨ k.cause = 8 then [] else [pwrRecord v d k.st k.goal k.cause]) ∧ u.doms = v.doms ∧
      u.mode = v.mode ∧ u.phase = v.phase := by
    refine ⟨_, ht, ?_⟩
    by_cases hq : k.burst = true ∨ k.cause = 8
    · rw [if_pos hq, if_pos (by simpa using hq), List.append_nil]
      exact ⟨rfl, rfl, rfl, rfl⟩
    · rw [if_neg hq, if_neg (by simpa using hq), pwrEvt_eq]
      exact ⟨rfl, rfl, rfl, rfl⟩
  have hmoved : DomMoved [52, 53] u t := hu ▸ .of_followDies k.cause u
  have hstands : ∀ e, (domGet t e).st = (domGet v e).st := fun e =>
    (congrArg Prod.fst (hmoved.stands (by rw [hudoms]; exact hok) e)).trans (congrArg Dom.st (domGet_congr hudoms e))
  have hrest := hmoved.rest
  simp only [domRest, Prod.mk.injEq] at hrest
  obtain ⟨htmode, -, htdue, -, htphase, -⟩ := hrest
  refine ⟨by rw [hstands, hhere], fun e he => by rw [hstands, hthere e he], ?_, htmode.trans (humode.trans hmode),
    htphase.trans (huphase.trans hphase)⟩
  rw [htdue, hudue, hrecord, hdue]
  rfl
end Land

end Sys2Proof.Machine
end

section
/-! PROOFS. O49: requests for domains, voltage loops, faults, the self-test and the health word (R393, R419, R525, R538 to R543). -/

namespace Sys2Proof.Machine

theorem tablesOk_vloops {s : State} (h : Safety.tablesOk s = true) : tabWf (fun _ => ({} : Vloop)) s.vloops = true := by
  simp only [Safety.tablesOk, Safety.unitTables, Bool.and_eq_true] at h; tauto

/-! ### Voltage loops (R542, R543) -/

/-- A word of a domain or of the package is no count of the census. -/
theorem vloopAddr_ne_cen {r : Nat} (hr : r < 4) : vloopAddr r 0 ∉ [ctlAddr clsCen 0 50] := by
  rw [List.mem_singleton]
  refine ne_cen_of_class ?_ (by decide)
  unfold vloopAddr
  rw [ctlAddr_div (by decide) (by omega)]
  decide

/-- FLOOR stands above VMAX. -/
def beyondMax (s : State) (r : Nat) : Bool := decide (fld (cwGet s (vloopAddr r 0)) 25 16 < (vloopGet s r).floor)

/-- The POLICY_EVT record of a floor. -/
def floorRecord (s : State) (r : Nat) : Due :=
  { q := fld (cwGet s pkgCtrlAddr) 30 28, ty := 0x24, ws := [mkWord [(32, 1), (26, r), (16, (vloopGet s r).floor)], s.tick] }

/-- The record of a floor that overrides VMAX, at most once a second. -/
def overRecord (s : State) (r : Nat) : List Due :=
  if (vloopGet s r).overridden = false ∧ fld (cwGet s (vloopAddr r 0)) 25 16 < (vloopGet s r).floor ∧ (vloopGet s r).quiet ≤ tickCount s then
    [floorRecord s r]
  else []

/-- What the judgement of a floor leaves: the loops with one of them judged, the census with one count. -/
structure FloorJudged (r : Nat) (s t : State) (v : Tab Vloop) (c : Tab Word) : Prop where
  state : t = { s with vloops := v, cw := c, due := s.due ++ overRecord s r }
  ok : tabWf (fun _ => ({} : Vloop)) v = true
  loop : { tabGet {} v r with quiet := 0 } = { vloopGet s r with overridden := beyondMax s r, quiet := 0 }
  others : ∀ q, q ≠ r → tabGet {} v q = vloopGet s q
  words : ∀ a, a ∉ [ctlAddr clsCen 0 50] → tabGet (cwReset a) c a = cwGet s a

section Loop
variable {r : Nat} {s : State}

/-- The loop judged, before its count and its record. -/
def floorSet (r : Nat) (s : State) : State := vloopPut r { vloopGet s r with overridden := beyondMax s r } s

theorem vloopOver_eq (r : Nat) (s : State) : vloopOver r s =
    if beyondMax s r && !(vloopGet s r).overridden then
      let u := cenInc 50 (floorSet r s)
      if tickCount u ≥ (vloopGet s r).quiet then
        dueRecord (pwrHq u) 0x24 [mkWord [(32, 1), (26, r), (16, (vloopGet s r).floor)], u.tick]
          (vloopPut r { vloopGet u r with quiet := tickCount u + ticksPerSecond } u)
      else u
    else floorSet r s := rfl

variable (hcw : tabWf cwReset s.cw = true) (hv : tabWf (fun _ => ({} : Vloop)) s.vloops = true)
include hcw hv

theorem vloopOver_judged : ∃ v c, FloorJudged r s (vloopOver r s) v c := by
  have hset : floorSet r s = s.putVloops (tabSet {} s.vloops r { vloopGet s r with overridden := beyondMax s r }) := rfl
  have hput : tabWf (fun _ => ({} : Vloop)) (tabSet {} s.vloops r { vloopGet s r with overridden := beyondMax s r }) = true := tabSet_ok' hv
  have hsame : tabGet {} (tabSet {} s.vloops r { vloopGet s r with overridden := beyondMax s r }) r =
    { vloopGet s r with overridden := beyondMax s r } := tabGet_tabSet_same (d := fun _ => ({} : Vloop)) hv
  have hne : ∀ q, q ≠ r → tabGet {} (tabSet {} s.vloops r { vloopGet s r with overridden := beyondMax s r }) q = vloopGet s q :=
    fun q hq => tabGet_tabSet_ne hq
  rw [vloopOver_eq]
  generalize tabSet {} s.vloops r { vloopGet s r with overridden := beyondMax s r } = v at hset hput hsame hne
  rw [hset]
  by_cases hset : (beyondMax s r && !(vloopGet s r).overridden) = true
  · obtain ⟨c, hc, hwords⟩ := (cenInc_work (n := 50) (s := s.putVloops v) (by decide) hcw).exists_cw
    have hfloor : fld (cwGet s (vloopAddr r 0)) 25 16 < (vloopGet s r).floor ∧ (vloopGet s r).overridden = false := by
      simpa [beyondMax] using hset
    rw [if_pos hset, hc]
    dsimp only
    by_cases hq : (vloopGet s r).quiet ≤ tickCount s
    · have hrec : overRecord s r = [floorRecord s r] := if_pos ⟨hfloor.2, hfloor.1, hq⟩
      have hhq : cwGet ((s.putVloops v).putCw c) pkgCtrlAddr = cwGet s pkgCtrlAddr := hwords _ (by decide)
      rw [if_pos (show tickCount ((s.putVloops v).putCw c) ≥ _ from hq)]
      refine ⟨tabSet {} v r { tabGet {} v r with quiet := tickCount s + ticksPerSecond }, c, ?_, tabSet_ok' hput, ?_, ?_, hwords⟩
      · rw [hrec, dueRecord, pwrHq, cwFld, hhq]
        rfl
      · rw [tabGet_tabSet_same (d := fun _ => ({} : Vloop)) hput, hsame]
      · intro q hne'
        rw [tabGet_tabSet_ne hne', hne q hne']
    · have hrec : overRecord s r = [] := if_neg fun h => hq h.2.2
      rw [if_neg (show ¬ tickCount ((s.putVloops v).putCw c) ≥ _ from hq)]
      refine ⟨v, c, ?_, hput, by rw [hsame], hne, hwords⟩
      rw [hrec, List.append_nil]
      rfl
  · have hrec : overRecord s r = [] := if_neg fun h => hset (by simp [beyondMax, h.1, h.2.1])
    rw [if_neg hset]
    refine ⟨v, s.cw, ?_, hput, by rw [hsame], hne, fun _ _ => rfl⟩
    rw [hrec, List.append_nil]
    rfl
end Loop

section Ctrl
variable {r : RegionId} {w : CtlWrite} {s : State}

theorem vloopCtrl_refused (h : fld w.value 35 26 > fld w.value 25 16 ∨ fld w.value 35 26 < 600 ∨ 850 < fld w.value 25 16) :
    exec (.vloopCtrl r w) s = .next (refuse w.origin 0x05 .word (vloopAddr r.val 0) s) := by
  have happ : applyVloop r.val w.value s = .error 5 := if_pos (by simpa [or_assoc] using h)
  exact congrArg (fun x => Host.Outcome.next (settle w.origin .word (vloopAddr r.val 0) s x)) happ

/-- Limits above the floor are kept, and the floor overrides no more. -/
theorem vloopCtrl_kept (hs : Safety.tablesOk s = true) (h1 : fld w.value 35 26 ≤ fld w.value 25 16) (h2 : 600 ≤ fld w.value 35 26)
    (h3 : fld w.value 25 16 ≤ 850) (hfloor : (vloopGet s r.val).floor ≤ fld w.value 25 16) :
    applies w.origin .word (vloopAddr r.val 0) s (exec (.vloopCtrl r w) s) fun t =>
      cwGet t (vloopAddr r.val 0) = (w.value &&& 0xFFFFFF800) ∧ cwKept s t [vloopAddr r.val 0] ∧
      vloopGet t r.val = { vloopGet s r.val with overridden := false } ∧ keeps vloopGet s t [r.val] ∧
      t = { s with cw := t.cw, vloops := t.vloops } := by
  have happ : applyVloop r.val w.value s = .ok (vloopOver r.val (cwSet (vloopAddr r.val 0) (w.value &&& 0xFFFFFF800) s)) :=
    if_neg (by simp; omega)
  have hexec : exec (.vloopCtrl r w) s = .next (settle w.origin .word (vloopAddr r.val 0) s (.ok _)) :=
    congrArg (fun x => Host.Outcome.next (settle w.origin .word (vloopAddr r.val 0) s x)) happ
  have hword : cwGet (cwSet (vloopAddr r.val 0) (w.value &&& 0xFFFFFF800) s) (vloopAddr r.val 0) = (w.value &&& 0xFFFFFF800) :=
    cwGet_cwSet (tablesOk_cw hs)
  have hkept : cwKept s (cwSet (vloopAddr r.val 0) (w.value &&& 0xFFFFFF800) s) [vloopAddr r.val 0] := cwKept_cwSet
  obtain ⟨x, hx⟩ : ∃ x, cwSet (vloopAddr r.val 0) (w.value &&& 0xFFFFFF800) s = s.putCw x := ⟨_, rfl⟩
  rw [hexec]
  generalize cwSet (vloopAddr r.val 0) (w.value &&& 0xFFFFFF800) s = u at hword hkept hx
  have hmax : fld (w.value &&& 0xFFFFFF800) 25 16 = fld w.value 25 16 := by
    exact fld_and (by decide)
  have hwithin : beyondMax u r.val = false := by
    unfold beyondMax
    rw [hword, hmax, hx]
    exact decide_eq_false (Nat.not_lt.mpr hfloor)
  have hover : vloopOver r.val u = floorSet r.val u := by rw [vloopOver_eq, hwithin]; rfl
  have hv := tablesOk_vloops hs
  subst hx
  rw [hover]
  refine applies_ok ⟨hword, hkept, ?_, fun q hq => tabGet_tabSet_ne (by simpa using hq), rfl⟩
  unfold floorSet
  rw [hwithin]
  exact tabGet_tabSet_same (d := fun _ => ({} : Vloop)) hv
end Ctrl

/-! ### One step of a rail (R542) -/

/-- The target of a loop with a floor and limits given. -/
def railTarget (f : Nat) (w : Word) : Nat :=
  max 600 (min 850 (max f (min (fld w 25 16) (max (fld w 35 26) (f + if fld w 15 11 = 0 then 10 else fld w 15 11)))))

theorem vloopTarget_eq (s : State) (r : Nat) : vloopTarget s r = railTarget (vloopGet s r).floor (cwGet s (vloopAddr r 0)) := by
  unfold vloopTarget railTarget
  dsimp only
  generalize fld (cwGet s (vloopAddr r 0)) 15 11 = m
  cases m <;> rfl

/-- One step of 1 mV toward a target. -/
def stepToward (v t : Nat) : Nat := if v < t then v + 1 else if t < v then v - 1 else v

/-- The record of a step whose floor overrides VMAX. -/
def stepRecord (s : State) (r f : Nat) : List Due :=
  if (vloopGet s r).overridden = false ∧ fld (cwGet s (vloopAddr r 0)) 25 16 < f ∧ (vloopGet s r).quiet ≤ tickCount s then
    [{ q := fld (cwGet s pkgCtrlAddr) 30 28, ty := 0x24, ws := [mkWord [(32, 1), (26, r), (16, f)], s.tick] }]
  else []

section Step
variable {r : RegionId} {f : Fin 1004} {g : Fin 256} {s : State}

theorem vloopStep_of_off (h : railOn s r.val = false) : exec (.vloopStep r f g) s = .next s :=
  congrArg Host.Outcome.next (if_neg (by rw [h]; decide))

/-- A reading of the monitors, judged. -/
def stepJudged (r f g : Nat) (s : State) : State := vloopOver r (vloopPut r { vloopGet s r with floor := f, aging := g } s)

theorem vloopStep_of_on (h : railOn s r.val = true) : exec (.vloopStep r f g) s =
    .next (vloopPut r.val { vloopGet (stepJudged r.val (f.val + 20) g.val s) r.val with
      vout := stepToward (vloopGet (stepJudged r.val (f.val + 20) g.val s) r.val).vout
        (vloopTarget (stepJudged r.val (f.val + 20) g.val s) r.val) } (stepJudged r.val (f.val + 20) g.val s)) :=
  congrArg Host.Outcome.next (if_pos h)

/-- A floor with no more than its time changed is judged by the rest. -/
theorem judged_fields {x k : Vloop} {b : Bool} (h : { x with quiet := 0 } = { k with overridden := b, quiet := 0 }) :
    x.vout = k.vout ∧ x.floor = k.floor ∧ x.aging = k.aging ∧ x.overridden = b := by
  simp only [Vloop.mk.injEq] at h
  obtain ⟨h1, h2, h3, h4, -⟩ := h
  exact ⟨h1, h2, h3, h4⟩

theorem vloopStep_spec (hs : Safety.tablesOk s = true) (h : railOn s r.val = true) :
    reaches (exec (.vloopStep r f g) s) fun t =>
      let k := vloopGet s r.val
      let w := cwGet s (vloopAddr r.val 0)
      let x := vloopGet t r.val
      x.floor = f.val + 20 ∧ x.aging = g.val ∧ (x.overridden = true ↔ fld w 25 16 < f.val + 20) ∧
      x.vout = stepToward k.vout (railTarget (f.val + 20) w) ∧ keeps vloopGet s t [r.val] ∧ cwKept s t [ctlAddr clsCen 0 50] ∧
      t.due = s.due ++ stepRecord s r.val (f.val + 20) ∧
      t = { s with vloops := t.vloops, cw := t.cw, due := t.due } := by
  have hv := tablesOk_vloops hs
  have hget : vloopGet (vloopPut r.val { vloopGet s r.val with floor := f.val + 20, aging := g.val } s) r.val =
    { vloopGet s r.val with floor := f.val + 20, aging := g.val } := tabGet_tabSet_same (d := fun _ => ({} : Vloop)) hv
  have hgets : ∀ q, q ≠ r.val → vloopGet (vloopPut r.val { vloopGet s r.val with floor := f.val + 20, aging := g.val } s) q = vloopGet s q :=
    fun q hq => tabGet_tabSet_ne hq
  have hok : tabWf (fun _ => ({} : Vloop)) (vloopPut r.val { vloopGet s r.val with floor := f.val + 20, aging := g.val } s).vloops = true :=
    tabSet_ok' hv
  obtain ⟨y, hy⟩ : ∃ y, vloopPut r.val { vloopGet s r.val with floor := f.val + 20, aging := g.val } s = s.putVloops y := ⟨_, rfl⟩
  have hstep := vloopStep_of_on (f := f) (g := g) h
  unfold stepJudged at hstep
  rw [hy] at hget hgets hok hstep
  obtain ⟨v, c, hstate, hvok, hloop, hothers, hwords⟩ := vloopOver_judged (r := r.val) (s := s.putVloops y) (tablesOk_cw (s := s) hs) hok
  rw [hget] at hloop
  obtain ⟨h1, h2, h3, h4⟩ := judged_fields hloop
  have hover : overRecord (s.putVloops y) r.val = stepRecord s r.val (f.val + 20) := by
    unfold overRecord floorRecord
    rw [hget]
    rfl
  have hbeyond : (beyondMax (s.putVloops y) r.val = true ↔ fld (cwGet s (vloopAddr r.val 0)) 25 16 < f.val + 20) := by
    unfold beyondMax
    rw [hget, decide_eq_true_eq]
    rfl
  have hword : tabGet (cwReset (vloopAddr r.val 0)) c (vloopAddr r.val 0) = cwGet s (vloopAddr r.val 0) := hwords _ (vloopAddr_ne_cen r.isLt)
  generalize vloopOver r.val (s.putVloops y) = u at hstate hstep
  have hutarget : vloopTarget u r.val = railTarget (f.val + 20) (cwGet s (vloopAddr r.val 0)) := by
    rw [vloopTarget_eq, hstate]
    show railTarget (tabGet {} v r.val).floor (tabGet (cwReset (vloopAddr r.val 0)) c (vloopAddr r.val 0)) = _
    rw [h2, hword]
  have huloop : vloopGet u r.val = tabGet {} v r.val := by rw [hstate]; rfl
  rw [hutarget, huloop, h1] at hstep
  refine ⟨_, hstep, ?_⟩
  rw [hover] at hstate
  generalize stepRecord s r.val (f.val + 20) = d at hstate ⊢
  generalize hx : ({ tabGet {} v r.val with vout := stepToward (vloopGet s r.val).vout (railTarget (f.val + 20) (cwGet s (vloopAddr r.val 0))) } : Vloop) = x
  have huv : u.vloops = v := by rw [hstate]
  have hlast : vloopGet (vloopPut r.val x u) r.val = x :=
    tabGet_tabSet_same (d := fun _ => ({} : Vloop)) (by rw [huv]; exact hvok)
  dsimp only
  rw [hlast]
  refine ⟨?_, ?_, ?_, ?_, fun q hq => ?_, fun a ha => ?_, by rw [hstate]; rfl, by rw [hstate]; rfl⟩
  · rw [← hx, h2]
  · rw [← hx, h3]
  · rw [← hx, ← hbeyond]
    exact Eq.to_iff (congrArg (· = true) h4)
  · rw [← hx]
  · have hq' : q ≠ r.val := by simpa using hq
    have hu : vloopGet u q = tabGet {} v q := by
      unfold vloopGet
      rw [huv]
    exact (tabGet_tabSet_ne hq').trans (hu.trans ((hothers q hq').trans (hgets q hq')))
  · have hu : cwGet u a = tabGet (cwReset a) c a := by rw [hstate]; rfl
    exact hu.trans (hwords a ha)
end Step

end Sys2Proof.Machine
end

section
/-! PROOFS. O49 ended: faults, the self-test, the health word, and the whole statement (R393, R419, R538, R539). -/

namespace Sys2Proof.Machine

/-! ### Faults of regulators (R538) -/

/-- A fault counted and recorded. -/
def faultCounted (d : Nat) (s : State) : State := cenInc 49 (pwrEvt d (domGet s d).st 3 5 s)

/-- What a fault does to its domain and to what it takes down. -/
def faultMoved (d : Nat) (s : State) : State :=
  moveDomain d 3 5 (domPut d { domGet s d with fault := true, held := true } ((faultSet d).foldl (fun s c => moveDomain c 3 5 s) s))

theorem faultCounted_spec (d : Nat) (s : State) : (faultCounted d s).doms = s.doms ∧ (faultCounted d s).mode = s.mode ∧
    (faultCounted d s).due = s.due ++ [pwrRecord s d (domGet s d).st 3 5] ∧ (faultCounted d s).sess = s.sess := by
  unfold faultCounted
  rw [cenInc_fields (by decide), pwrEvt_eq]
  exact ⟨rfl, rfl, rfl, rfl⟩

theorem faultMoved_spec {d : Nat} {s : State} (hs : tabWf domReset s.doms = true) (hself : d ∉ faultSet d) (hlt : ∀ c, c ∈ faultSet d → c < 64) :
    let t := faultMoved d s
    (domGet t d).fault = true ∧ (domGet t d).goal = 3 ∧ (∀ c, c ∈ faultSet d → (domGet t c).goal = 3) ∧ domRest t = domRest s := by
  intro t
  have ht : t = faultMoved d s := rfl
  unfold faultMoved at ht
  clear_value t
  obtain ⟨hmoved, hgoal⟩ := DomMoved.foldl (g := fun _ _ => 3) (cause := 5) (fun _ _ _ _ _ _ _ => rfl) (faultSet d) s
  generalize (faultSet d).foldl (fun s c => moveDomain c 3 5 s) s = u at hmoved hgoal ht
  have hput := DomWork.of_put d { domGet s d with fault := true, held := true } u
  have hfault : (domGet (domPut d { domGet s d with fault := true, held := true } u) d).fault = true := by
    rw [domGet_domPut (hmoved.ok hs)]
  generalize domPut d { domGet s d with fault := true, held := true } u = v at hput hfault ht
  have hok := hput.ok (hmoved.ok hs)
  have hlast : DomMoved [d] v t := ht ▸ .of_move
  refine ⟨?_, ?_, fun c hc => ?_, hlast.rest.trans (hput.rest.trans hmoved.rest)⟩
  · exact (congrArg (fun k : Nat × Bool × Bool × Bool => k.2.2.1) (hlast.stands hok d)).trans hfault
  · rw [ht]
    exact goal_moveDomain hok
  · have hne : c ≠ d := fun h => hself (h ▸ hc)
    rw [hlast.others c (by simpa using hne), hput.others c (by simpa using hne)]
    exact hgoal hs c hc (hlt c hc)

section Fault
variable {d : Fin 56} {s : State}

theorem faultSet_of_ne {n : Nat} (h : n ≠ 52 ∧ n ≠ 53) : faultSet n = dependants n := if_neg (by simpa using h)

theorem not_mem_dependants {n : Nat} : n ∉ dependants n := fun h => (dependants_lt h).2 rfl

theorem regulatorFault_of_core (h : d.val < 42) : exec (.regulatorFault d) s = .next (faultMoved d.val (faultCounted d.val s)) := by
  have hcore : ¬ (42 ≤ d.val && d.val ≠ 49 && d.val ≠ 51 && d.val ≠ 52 && d.val ≠ 53) = true := by simp; omega
  rw [exec_regulatorFault, execRegulatorFault, if_neg hcore]
  rfl

theorem regulatorFault_of_package (h : 42 ≤ d.val) (h49 : d.val ≠ 49) (h' : d.val < 51 ∨ 53 < d.val) :
    exec (.regulatorFault d) s = .next (faultMoved d.val (quarantine 1 9 false (faultCounted d.val s))) := by
  have hpkg : (42 ≤ d.val && d.val ≠ 49 && d.val ≠ 51 && d.val ≠ 52 && d.val ≠ 53) = true := by simp; omega
  rw [exec_regulatorFault, execRegulatorFault, if_pos hpkg]
  rfl

theorem regulatorFault_core_spec (hs : Safety.tablesOk s = true) (h : d.val < 42) :
    reaches (exec (.regulatorFault d) s) fun t => (domGet t d.val).fault = true ∧ (domGet t d.val).goal = 3 ∧
      (∀ c, c ∈ dependants d.val → (domGet t c).goal = 3) ∧ t.due = s.due ++ [pwrRecord s d.val (domGet s d.val).st 3 5] ∧
      t.mode = s.mode := by
  obtain ⟨hdoms, hmode, hdue, -⟩ := faultCounted_spec d.val s
  have hset := faultSet_of_ne (n := d.val) (by omega)
  refine ⟨_, regulatorFault_of_core h, ?_⟩
  generalize faultCounted d.val s = u at hdoms hmode hdue ⊢
  obtain ⟨hfault, hgoal, hgoals, hrest⟩ := faultMoved_spec (d := d.val) (s := u) (by rw [hdoms]; exact tablesOk_doms hs)
    (by rw [hset]; exact not_mem_dependants) (by rw [hset]; exact fun c hc => (dependants_lt hc).1)
  rw [hset] at hgoals
  simp only [domRest, Prod.mk.injEq] at hrest
  obtain ⟨hrmode, -, hrdue, -⟩ := hrest
  exact ⟨hfault, hgoal, hgoals, hrdue.trans hdue, hrmode.trans hmode⟩

/-- Domains stay in canonical form as bursts end with their mode. -/
theorem doms_ok_dropBurst (b : Bool) (h : tabWf domReset s.doms = true) : tabWf domReset (dropBurst b s).doms = true := by
  have hfold : ∀ l : List Nat, tabWf domReset (l.foldl (fun s d => domPut d { domGet s d with burst := false } s) s).doms = true :=
    fun l => (domKept_foldl (p := Dom.st) (f := fun s d => domPut d { domGet s d with burst := false } s) (fun t d ht => ⟨domPut_ok ht, domKept_put ht rfl⟩) l s h).1
  unfold dropBurst
  split
  · exact h
  next =>
    dsimp only
    split
    · rw [cenInc_fields (by decide)]
      exact hfold _
    · exact hfold _

theorem doms_ok_modeTaken (new : Mode) (c : Nat) (h : tabWf domReset s.doms = true) : tabWf domReset (modeTaken new c s).doms = true := by
  have hepisode : (episodeCleared new s).doms = s.doms := by
    unfold episodeCleared
    exact frame_ite (π := State.doms) rfl fun _ => clearEpisode_frame (π := State.doms) (fun _ _ => rfl) s rfl
  have hcount : ∀ t, (entryCounted new t).doms = t.doms := fun t => by
    unfold entryCounted
    split
    · rw [cenInc_fields (by decide)]
    split
    · rw [cenInc_fields (by decide)]
    · rfl
  have hin : ∀ t, (standbyEntered new t).doms = t.doms := fun t => by
    unfold standbyEntered
    split <;> rfl
  rw [modeTaken, hin, standbyLeft]
  have hbase : tabWf domReset (entryCounted new (((episodeCleared new s).putMode new).putModeCause c)).doms = true := by
    rw [hcount]
    exact hepisode ▸ h
  split
  · exact doms_ok_dropBurst _ hbase
  · exact hbase

theorem doms_ok_modeSettled {new old : Mode} (hn : new ≠ .active) (h : tabWf domReset s.doms = true) :
    tabWf domReset (modeSettled new old s).doms = true := by
  have htests : (clearTests s).doms = s.doms := clearTests_frame (π := State.doms) (fun _ _ => rfl) (fun _ _ => rfl) s rfl
  unfold modeSettled
  dsimp only
  rw [if_neg hn]
  refine (retarget_spec _ _ ?_).2.2.2
  split
  · rw [htests]
    exact h
  · exact h

theorem doms_ok_quarantine {q c : Nat} {trip : Bool} (hm : s.mode ≠ .quarantine) (h : tabWf domReset s.doms = true) :
    tabWf domReset (quarantine q c trip s).doms = true := by
  have hlink : ∀ t, (linkLeave .down 0 t).doms = t.doms := fun t => by
    apply linkLeave_frame (π := State.doms) (hk := rfl) <;> exact fun _ _ => rfl
  have hsess : ∀ t, (endSessions true t).doms = t.doms := fun t => by
    apply endSessions_frame (π := State.doms) (hk := rfl) <;> exact fun _ _ => rfl
  have hilk : ∀ t, (releaseIlk 1 t).doms = t.doms := fun t => by
    apply releaseIlk_frame (π := State.doms) (hk := rfl) <;> exact fun _ _ => rfl
  have hrecord : ∀ q y ws t, (record q 0x23 y ws t).doms = t.doms := fun q y ws t => by
    apply record_frame (π := State.doms) (hk := rfl) <;> exact fun _ _ => rfl
  have hint : ∀ t, (intSet 20 t).doms = t.doms := fun t => by rw [intSet_eq]
  have hkeys : ∀ t, (keysGone trip t).doms = t.doms := fun _ => rfl
  have htaken := doms_ok_modeTaken .quarantine c (s := s.putSec { s.sec with qcause := q }) h
  rw [quarantine_eq hm, hlink, hkeys, hsess, quarantineBegun, hilk,
    setMode_quarantine_eq (s := s.putSec { s.sec with qcause := q }) c hm]
  generalize modeTaken .quarantine c (s.putSec { s.sec with qcause := q }) = u at htaken ⊢
  dsimp only
  refine doms_ok_modeSettled (by decide) ?_
  rw [hint, hrecord]
  exact htaken

theorem regulatorFault_package_spec (hs : Safety.tablesOk s = true) (h : 42 ≤ d.val) (h49 : d.val ≠ 49) (h' : d.val < 51 ∨ 53 < d.val)
    (hm : s.mode ≠ .quarantine) : reaches (exec (.regulatorFault d) s) fun t =>
      (domGet t d.val).fault = true ∧ (domGet t d.val).goal = 3 ∧ t.mode = .quarantine ∧ t.sec.qcause = 1 ∧ t.ilk = .released := by
  obtain ⟨hdoms, hmode, -, hsess⟩ := faultCounted_spec d.val s
  have hset : faultSet d.val = [] := by
    rw [faultSet_of_ne (by omega), dependants, if_neg (by simp; omega), if_neg (by simp; omega)]
  refine ⟨_, regulatorFault_of_package h h49 h', ?_⟩
  generalize faultCounted d.val s = u at hdoms hmode hsess ⊢
  have hum : u.mode ≠ .quarantine := by rw [hmode]; exact hm
  have hok : tabWf domReset (quarantine 1 9 false u).doms = true := doms_ok_quarantine hum (by rw [hdoms]; exact tablesOk_doms hs)
  obtain ⟨h1, -, h3, h4, -⟩ := quarantine_spec 1 9 false hum (by rw [hsess]; exact tablesOk_sess hs)
  generalize quarantine 1 9 false u = v at hok h1 h3 h4
  obtain ⟨hfault, hgoal, -, hrest⟩ := faultMoved_spec (d := d.val) hok (by rw [hset]; exact List.not_mem_nil)
    (by rw [hset]; exact fun c hc => absurd hc List.not_mem_nil)
  simp only [domRest, Prod.mk.injEq] at hrest
  obtain ⟨hrmode, hrsec, -, -, -, -, hrilk⟩ := hrest
  exact ⟨hfault, hgoal, hrmode.trans h1, by rw [hrsec]; exact h3, hrilk.trans h4⟩
end Fault

/-! ### The hot junction (R539) -/

section Hot
variable {s : State}

theorem tempAlarm_of_hot (h : s.hot = true) : exec .tempAlarm s = .next s := congrArg Host.Outcome.next (if_pos h)

theorem tempAlarm_spec (hs : Safety.tablesOk s = true) (h : s.hot = false) : reaches (exec .tempAlarm s) fun t =>
    t.hot = true ∧ t.intPend.testBit 23 = true ∧ t.due = s.due ++ [pwrRecord s 63 (pkgLadder s) (pkgLadder s) 6] ∧
      cwKept s t [ctlAddr clsCen 0 51] ∧
      t = { s with hot := t.hot, due := t.due, cw := t.cw, intPend := t.intPend, msixPba := t.msixPba, out := t.out } := by
  have hexec : exec .tempAlarm s = .next (intSet 23 (cenInc 51 (pwrEvt 63 (pkgLadder s) (pkgLadder s) 6 (s.putHot true)))) :=
    congrArg Host.Outcome.next (if_neg (by rw [h]; decide))
  obtain ⟨c, p, m, o, he, hbit, hwords⟩ := intSet_cenInc_exists 23 (n := 51)
    (s := pwrEvt 63 (pkgLadder s) (pkgLadder s) 6 (s.putHot true)) (by decide) (tablesOk_cw hs)
  refine ⟨_, hexec, ?_⟩
  rw [he, pwrEvt_eq]
  exact ⟨rfl, hbit, rfl, hwords, rfl⟩
end Hot

/-! ### Self-test bursts (R419, R421) -/

theorem DomWork.mono {ds es : List Nat} {s t : State} (h : DomWork ds s t) (hsub : ∀ d, d ∈ ds → d ∈ es) : DomWork es s t :=
  ⟨h.ok, fun e he => h.others e fun hd => he (hsub e hd), h.rest, h.words⟩

/-- A domain raised by a burst. -/
def burstRaised (s : State) (d : Nat) : State := moveDomain d 0 8 (domPut d { domGet s d with burst := true } s)

theorem burstRaised_work (s : State) (d : Nat) : DomWork [d] s (burstRaised s d) :=
  ((DomWork.of_put d _ s).trans .of_move).mono (by simp)

theorem burstRaised_raised (s : State) (d : Nat) (hs : tabWf domReset s.doms = true) :
    (domGet (burstRaised s d) d).burst = true ∧ (domGet (burstRaised s d) d).goal = 0 := by
  have hput : domGet (domPut d { domGet s d with burst := true } s) d = { domGet s d with burst := true } := domGet_domPut hs
  have hok : tabWf domReset (domPut d { domGet s d with burst := true } s).doms = true := domPut_ok hs
  unfold burstRaised
  generalize domPut d { domGet s d with burst := true } s = u at hput hok
  refine ⟨?_, goal_moveDomain hok⟩
  exact (congrArg (fun k : Nat × Bool × Bool × Bool => k.2.1) (domStands_moveDomain hok d)).trans (by rw [domStands, hput])

/-- No element tests the domains of the dies. -/
theorem elementDomains_lt {e x : Nat} (h : x ∈ elementDomains e) : x < 42 := by
  unfold elementDomains at h
  split at h
  · simp only [List.mem_cons, List.not_mem_nil, or_false] at h
    omega
  split at h
  · simp only [List.mem_cons, List.not_mem_nil, or_false] at h
    omega
  split at h
  · simp only [List.mem_cons, List.not_mem_nil, or_false] at h
    omega
  split at h
  · simp only [List.mem_cons, List.not_mem_nil, or_false] at h
    omega
  split at h
  · simp only [List.mem_cons, List.not_mem_nil, or_false] at h
    omega
  split at h
  · simp only [List.mem_cons, List.not_mem_nil, or_false] at h
    omega
  · exact absurd h List.not_mem_nil

section Bursts
variable {p : Bool} {s : State}

/-- The test of an element begun. -/
def burstBegun (e : Nat) (s : State) : State :=
  s.putTest { s.test with
    burst := some e, aborted := false, passed := if e = 0 then 0 else s.test.passed,
    returns := (elementDomains e).foldl (fun t d => tabSet 0 t d (domGet s d).st) [] }

/-- The domains of the dies stand while one of theirs is to stand. -/
def diesMoved (s : State) : State := [52, 53].foldl (fun s d => moveDomain d (regTarget s d) 8 s) s

theorem diesMoved_moved (s : State) : DomMoved [52, 53] s (diesMoved s) :=
  (DomMoved.of_move (d := 52) (s := s)).trans (.of_move (d := 53))

theorem burstStart_eq (hr : rotates s = true) (hb : s.test.burst = none) (hq : s.binQ % 8000 = 0) :
    exec .selftestBurstStart s = .next (diesMoved ((elementDomains (s.test.secs % 30)).foldl burstRaised (burstBegun (s.test.secs % 30) s))) :=
  congrArg Host.Outcome.next (if_pos (by rw [hr, hb, decide_eq_true hq]; rfl))

theorem burstStart_of_not (h : rotates s = false ∨ s.test.burst ≠ none ∨ s.binQ % 8000 ≠ 0) : exec .selftestBurstStart s = .next s := by
  refine congrArg Host.Outcome.next (if_neg ?_)
  rcases h with h | h | h
  · simp [h]
  · simp [h]
  · simp [h]

theorem burstStart_spec (hs : Safety.tablesOk s = true) (hr : rotates s = true) (hb : s.test.burst = none) (hq : s.binQ % 8000 = 0) :
    reaches (exec .selftestBurstStart s) fun t =>
      let e := s.test.secs % 30
      t.test.burst = some e ∧ t.test.aborted = false ∧ t.test.failed = s.test.failed ∧
      (∀ x, x ∈ elementDomains e → (domGet t x).burst = true ∧ (domGet t x).goal = 0) ∧ t.mode = s.mode ∧ t.due = s.due := by
  refine ⟨_, burstStart_eq hr hb hq, ?_⟩
  dsimp only
  generalize s.test.secs % 30 = e
  have hok : tabWf domReset (burstBegun e s).doms = true := tablesOk_doms (s := s) hs
  have htest : (burstBegun e s).test.burst = some e ∧ (burstBegun e s).test.aborted = false ∧
    (burstBegun e s).test.failed = s.test.failed ∧ (burstBegun e s).mode = s.mode ∧ (burstBegun e s).due = s.due := ⟨rfl, rfl, rfl, rfl, rfl⟩
  generalize burstBegun e s = u at hok htest
  obtain ⟨hwork, hall⟩ := DomWork.foldl (f := burstRaised) (P := fun k => k.burst = true ∧ k.goal = 0) burstRaised_work burstRaised_raised
    (elementDomains e) u
  generalize (elementDomains e).foldl burstRaised u = v at hwork hall
  have hlast := diesMoved_moved v
  generalize diesMoved v = t at hlast
  have hrest : domRest t = domRest u := hlast.rest.trans hwork.rest
  simp only [domRest, Prod.mk.injEq] at hrest
  obtain ⟨hmode, -, hdue, htst, -⟩ := hrest
  obtain ⟨h1, h2, h3, h4, h5⟩ := htest
  rw [htst, hmode, hdue]
  refine ⟨h1, h2, h3, fun x hx => ?_, h4, h5⟩
  have hlt := elementDomains_lt hx
  rw [hlast.others x (by simp; omega)]
  exact hall hok x hx

/-! ### One other bit of a mask -/

theorem testBit_add_two_pow_ne {m i j : Nat} (hi : m.testBit i = false) (hj : j ≠ i) : (m + 2 ^ i).testBit j = m.testBit j := by
  rcases Nat.lt_or_gt_of_ne hj with hlt | hgt
  · rw [Nat.add_comm, Nat.testBit_two_pow_add_gt hlt]
  · have heven : m / 2 ^ i % 2 = 0 := by
      rw [Nat.testBit_eq_decide_div_mod_eq, decide_eq_false_iff_not] at hi
      omega
    have hdiv : (m + 2 ^ i) / 2 ^ (i + 1) = m / 2 ^ (i + 1) := by
      rw [Nat.pow_succ, ← Nat.div_div_eq_div_mul, ← Nat.div_div_eq_div_mul, Nat.add_div_right _ (by positivity)]
      omega
    obtain ⟨k, rfl⟩ : ∃ k, j = k + (i + 1) := ⟨j - (i + 1), by omega⟩
    rw [Nat.testBit_add, Nat.testBit_add, hdiv]

theorem testBit_maskSet_ne {m i j : Nat} {v : Bool} (hj : j ≠ i) : (maskSet m i v).testBit j = m.testBit j := by
  unfold maskSet
  split
  · rfl
  next h =>
    cases v with
    | true => exact testBit_add_two_pow_ne (by simpa using h) hj
    | false =>
      have hset : m.testBit i = true := by simpa using h
      have hle : 2 ^ i ≤ m := Nat.ge_two_pow_of_testBit hset
      have hwithout : (m - 2 ^ i).testBit i = false := by
        have := testBit_without m i
        rwa [if_pos hset] at this
      have hback := testBit_add_two_pow_ne hwithout hj
      rw [Nat.sub_add_cancel hle] at hback
      exact hback.symm

/-- The result of an element noted. -/
def burstNoted (e : Nat) (p : Bool) (s : State) : State :=
  s.putTest { s.test with
    burst := none, passed := if p then maskSet s.test.passed e true else s.test.passed, failed := maskSet s.test.failed e (!p) }

/-- A failure told to the mate and to the owner. -/
def burstTold (e : Nat) (p : Bool) (failed : Nat) (s : State) : State :=
  if p then s else (if failed = 0 then intSet 25 else id) (mateEvt 0x0A (e % 16) e s)

/-- The clocks of the lanes calibrated by their element. -/
def burstCalibrated (e : Nat) (s : State) : State := if e = 28 then calibrateBanks s else s

/-- The burst is off a domain. -/
def burstLowered (s : State) (d : Nat) : State := domPut d { domGet s d with burst := false } s

theorem burstEnd_eq {e : Nat} (h : s.test.burst = some e) : exec (.selftestBurstEnd p) s =
    (let t := (elementDomains e).foldl (fun s d => moveDomain d (domTarget s d) 8 s)
      ((elementDomains e).foldl burstLowered (burstCalibrated e (burstTold e p s.test.failed (burstNoted e p s))))
    .next (t.putTest { t.test with returns := [] })) := by
  rw [exec_selftestBurstEnd, execSelftestBurstEnd, h]
  rfl

theorem burstEnd_of_none (h : s.test.burst = none) : exec (.selftestBurstEnd p) s = .next s := by
  rw [exec_selftestBurstEnd, execSelftestBurstEnd, h]

/-- What a failure told leaves. -/
def toldView (s : State) : Mode × SelfTest × Tab Dom := (s.mode, s.test, s.doms)

theorem burstTold_spec (e f : Nat) (s : State) : toldView (burstTold e p f s) = toldView s ∧
    (burstTold e p f s).due = s.due ++ if p then [] else [mateRecord s 0x0A (e % 16) e] := by
  unfold burstTold
  cases p with
  | true => exact ⟨rfl, (List.append_nil _).symm⟩
  | false =>
    simp only [Bool.false_eq_true, if_false, mateEvt_eq]
    split
    · rw [intSet_eq]
      exact ⟨rfl, rfl⟩
    · exact ⟨rfl, rfl⟩

theorem burstEnd_spec {e : Nat} (hs : Safety.tablesOk s = true) (h : s.test.burst = some e) :
    reaches (exec (.selftestBurstEnd p) s) fun t => t.test.burst = none ∧
      t.test.failed.testBit e = !p ∧ (p = true → t.test.passed.testBit e = true) ∧
      (∀ i, i ≠ e → t.test.failed.testBit i = s.test.failed.testBit i) ∧
      (∀ x, x ∈ elementDomains e → (domGet t x).burst = false) ∧
      t.due = s.due ++ (if p then [] else [mateRecord s 0x0A (e % 16) e]) ∧ t.mode = s.mode := by
  refine ⟨_, burstEnd_eq h, ?_⟩
  have hnoted : (burstNoted e p s).test.burst = none ∧ (burstNoted e p s).test.failed = maskSet s.test.failed e (!p) ∧
    (burstNoted e p s).test.passed = (if p then maskSet s.test.passed e true else s.test.passed) ∧ (burstNoted e p s).mode = s.mode ∧
    (burstNoted e p s).due = s.due ∧ (burstNoted e p s).doms = s.doms ∧
    mateRecord (burstNoted e p s) 0x0A (e % 16) e = mateRecord s 0x0A (e % 16) e := ⟨rfl, rfl, rfl, rfl, rfl, rfl, rfl⟩
  generalize burstNoted e p s = u1 at hnoted
  obtain ⟨htold, hdue2⟩ := burstTold_spec (p := p) e s.test.failed u1
  generalize burstTold e p s.test.failed u1 = u2 at htold hdue2
  have hcal : (toldView (burstCalibrated e u2), (burstCalibrated e u2).due) = (toldView u2, u2.due) := by
    unfold burstCalibrated
    exact frame_ite (π := fun s => (toldView s, s.due)) rfl fun _ => calibrateBanks_frame (π := fun s => (toldView s, s.due)) (fun _ _ => rfl) u2 rfl
  generalize burstCalibrated e u2 = u3 at hcal
  simp only [Prod.mk.injEq] at hcal
  obtain ⟨hview3, hdue3⟩ := hcal
  rw [htold] at hview3
  simp only [toldView, Prod.mk.injEq] at hview3
  obtain ⟨hmode3, htest3, hdoms3⟩ := hview3
  obtain ⟨n1, n2, n3, n4, n5, n6, n7⟩ := hnoted
  have hok3 : tabWf domReset u3.doms = true := by
    rw [hdoms3, n6]
    exact tablesOk_doms hs
  obtain ⟨hwork4, hall4⟩ := DomWork.foldl (f := burstLowered) (P := fun k => k.burst = false) (fun s d => .of_put d _ s)
    (fun s d hs => by rw [burstLowered, domGet_domPut hs]) (elementDomains e) u3
  generalize (elementDomains e).foldl burstLowered u3 = u4 at hwork4 hall4
  obtain ⟨hmoved5, -⟩ := DomMoved.foldl (g := domTarget) (cause := 8)
    (fun s t ds d hd h hs => domTarget_of_moved h hs hd) (elementDomains e) u4
  dsimp only
  generalize (elementDomains e).foldl (fun s d => moveDomain d (domTarget s d) 8 s) u4 = u5 at hmoved5
  have hrest : domRest u5 = domRest u3 := hmoved5.rest.trans hwork4.rest
  simp only [domRest, Prod.mk.injEq] at hrest
  obtain ⟨hmode, -, hdue, htest, -⟩ := hrest
  have hburst : ∀ x, x ∈ elementDomains e → (domGet u5 x).burst = false := fun x hx =>
    (congrArg (fun k : Nat × Bool × Bool × Bool => k.2.1) (hmoved5.stands (hwork4.ok hok3) x)).trans (hall4 hok3 x hx)
  have hfailed : u5.test.failed = maskSet s.test.failed e (!p) := by rw [htest, htest3, n2]
  have hpassed : u5.test.passed = if p then maskSet s.test.passed e true else s.test.passed := by rw [htest, htest3, n3]
  refine ⟨?_, ?_, fun hp => ?_, fun i hi => ?_, hburst, ?_, ?_⟩
  · show u5.test.burst = none
    rw [htest, htest3, n1]
  · show u5.test.failed.testBit e = !p
    rw [hfailed, testBit_maskSet]
  · show u5.test.passed.testBit e = true
    rw [hpassed, if_pos hp, testBit_maskSet]
  · show u5.test.failed.testBit i = _
    rw [hfailed, testBit_maskSet_ne hi]
  · show u5.due = _
    rw [hdue, hdue3, hdue2, n5, n7]
  · show u5.mode = _
    rw [hmode, hmode3, n4]
end Bursts

/-! ### The health word (R393, R397) -/

section Health
variable {s : State}

theorem healthWordTx_of_unpowered (h : powered s = false) : exec .healthWordTx s = .next s :=
  congrArg Host.Outcome.next (if_neg (by rw [h]; decide))

/-- The health word at the land. -/
def healthTold (s : State) : State := emit (.health s.rdn.next) (s.putRdn { s.rdn with own := s.rdn.next })

theorem healthWordTx_eq (h : powered s = true) : exec .healthWordTx s =
    .next (if linkOn (healthTold s) then mateAppend (.status s.rdn.next) (healthTold s) else healthTold s) :=
  congrArg Host.Outcome.next (if_pos h)

theorem healthWordTx_unlinked (h : powered s = true) (hl : linkOn s = false) : exec .healthWordTx s =
    .next { s with rdn := { s.rdn with own := s.rdn.next }, out := .health s.rdn.next :: s.out } := by
  have hl' : linkOn (healthTold s) = false := hl
  rw [healthWordTx_eq h, hl']
  rfl

theorem healthWordTx_linked (h : powered s = true) (hl : linkOn s = true) (hu : s.link.st = .up) (hc : 2 ≤ s.link.cr) :
    reaches (exec .healthWordTx s) fun t =>
      t.link = { s.link with queue := s.link.queue ++ [.status s.rdn.next], cr := s.link.cr - 2, high := t.link.high } ∧
      t = { s with rdn := { s.rdn with own := s.rdn.next }, out := .health s.rdn.next :: s.out, link := t.link } := by
  have hl' : linkOn (healthTold s) = true := hl
  obtain ⟨high, hq⟩ := mateAppend_of_credit (m := .status s.rdn.next) (s := healthTold s) hu hc
  rw [healthWordTx_eq h, if_pos hl', hq]
  exact ⟨_, rfl, rfl, rfl⟩
end Health

/-- A request in a mode that does not apply it. -/
theorem pwrDomReq_stored {d : Fin 56} {w : CtlWrite} {s : State} (hs : Safety.tablesOk s = true) (hlow : ownerLowers d.val)
    (hst : fld w.value 35 33 ≤ 3) (hb : ¬ reqBlocked s d.val (fld w.value 35 33)) (hm : reqMode s.mode = false) :
    applies w.origin .word (ctlAddr clsPwr d.val 0) s (exec (.pwrDomReq d w) s) fun t =>
      fld (cwGet t (ctlAddr clsPwr d.val 0)) 35 33 = fld w.value 35 33 ∧ cwKept s t [ctlAddr clsPwr d.val 0] ∧ t = { s with cw := t.cw } := by
  refine pwrDomReq_kept (reqStatus_of_free hlow hst hb) fun u hu => ?_
  obtain ⟨hword, hkept, hrest⟩ := reqKept_spec (d := d) (w := w) hs
  rw [← hu] at hword hkept hrest
  have hmode : u.mode = s.mode := by rw [hrest]
  rw [hmode, if_neg (by rw [hm]; decide)]
  exact ⟨hword, hkept, hrest⟩

/-- Settles O49: requests by what judges them, the walks over the domains by what every move keeps, the loops by the judgement of their
floor. -/
theorem domainsLoopsAndSelfTest : Obligations.DomainsLoopsAndSelfTest := by
  unfold Obligations.DomainsLoopsAndSelfTest
  intro d r f g p w s hs
  have hdoms := tablesOk_doms hs
  dsimp only
  refine ⟨fun h => pwrDomReq_refused (reqStatus_of_range h), fun hl hst hb => pwrDomReq_refused (reqStatus_of_blocked hl hst hb),
    fun hl hst hb hm => pwrDomReq_stored hs hl hst hb hm, fun hl hst hb hm => pwrDomReq_applied hs hl hst hb hm,
    fun hp h => ?_, fun hp hne hpos hlt => ?_, vloopCtrl_refused, fun h1 h2 h3 h4 => vloopCtrl_kept hs h1 h2 h3 h4,
    fun h => vloopStep_spec hs h, vloopStep_of_off, ?_, fun h => regulatorFault_core_spec hs h,
    fun h h49 h' hm => regulatorFault_package_spec hs h h49 h' hm, tempAlarm_of_hot, fun h => tempAlarm_spec hs h,
    fun hr hb hq => burstStart_spec hs hr hb hq, burstStart_of_not, burstEnd_of_none, fun e h => burstEnd_spec hs h,
    healthWordTx_of_unpowered, healthWordTx_unlinked, healthWordTx_linked⟩
  case _ =>
    have hland : landDomain d.val s = s := if_pos h
    rw [exec_domainTransitionDone, execDomainTransitionDone, hland]
    exact congrArg Host.Outcome.next (if_neg (by simp [hp]))
  case _ =>
    obtain ⟨h1, h2, h3, h4, h5⟩ := landed_spec (d := d.val) hdoms
    have hphase : (landed d.val s).phase ≠ .dormant := by rw [h5]; exact hp
    have hexec : exec (.domainTransitionDone d) s = .next (landed d.val s) := by
      rw [exec_domainTransitionDone, execDomainTransitionDone, landDomain_eq hne hpos hlt]
      exact congrArg Host.Outcome.next (if_neg (by simp [hphase]))
    exact ⟨_, hexec, h1, h2, h3, h4⟩
  case _ =>
    exact applies_ok ⟨cwGet_cwSet (tablesOk_cw hs), cwKept_cwSet, rfl⟩

end Sys2Proof.Machine
end

section
/-! PROOFS. O50: doorbells, command fetches, host rings, interrupts, recovery and PERST_L (R439, R470, R471, R482, R488, R557). -/

namespace Sys2Proof.Machine

/-! ### Rings as tables -/

section Rings
variable {s : State} {q i : Nat}

theorem tablesOk_rings (h : Safety.tablesOk s = true) : tabWf (fun _ => ({} : CmdRing)) s.rings = true := by
  simp only [Safety.tablesOk, Safety.unitTables, Bool.and_eq_true] at h; tauto

theorem tablesOk_hostRing (h : Safety.tablesOk s = true) : tabWf (fun _ => ({} : HostRing)) s.hostRing = true := by
  simp only [Safety.tablesOk, Safety.unitTables, Bool.and_eq_true] at h; tauto

theorem ringCmd_ringCmdPut {k : CmdRing} (h : tabWf (fun _ => ({} : CmdRing)) s.rings = true) : ringCmd (ringCmdPut q k s) q = k :=
  tabGet_tabSet_same (d := fun _ => ({} : CmdRing)) h

theorem ringCmd_ringCmdPut_ne {k : CmdRing} (h : i ≠ q) : ringCmd (ringCmdPut q k s) i = ringCmd s i := tabGet_tabSet_ne h

theorem ringOf_ringPut {k : HostRing} (h : tabWf (fun _ => ({} : HostRing)) s.hostRing = true) : ringOf (ringPut_ q k s) q = k :=
  tabGet_tabSet_same (d := fun _ => ({} : HostRing)) h

theorem ringOf_ringPut_ne {k : HostRing} (h : i ≠ q) : ringOf (ringPut_ q k s) i = ringOf s i := tabGet_tabSet_ne h
end Rings

/-! ### Doorbells (R470, R471) -/

/-- BAR0 answers. -/
def bar0Answers (s : State) : Prop := powered s = true ∧ s.perst = false

theorem bar0Up_iff {s : State} : bar0Up s = true ↔ bar0Answers s := by simp [bar0Up, bar0Answers]

theorem not_bar0Up {s : State} (h : bar0Answers s) : ¬ (!bar0Up s) = true := by
  rw [bar0Up_iff.mpr h]
  decide

/-- Where BAR0 does not answer, nothing happens. -/
theorem bar0_silent {q : CmdRingId} {h : HqId} {f : Fin 3} {off : BitVec 24} {v : BitVec 32} {a : BitVec 64} {e : CmdEntry}
    {im : List (BitVec 288)} {s : State} (hd : ¬ bar0Answers s) : ∀ c, c ∈ [Instr.bar0Violation off, .cqBaseWrite q f v, .cqTail q v,
      .commandFetch q e, .hostRingWrite h, .hrHead h v, .hqCredit h v, .intClr v, .recGo a im true] → exec c s = .next s := by
  have hup : bar0Up s = false := by
    rw [← bar0Up_iff, Bool.not_eq_true] at hd
    exact hd
  have hdown : (!bar0Up s) = true := by rw [hup]; rfl
  simp only [List.mem_cons, List.not_mem_nil, or_false]
  rintro c (rfl | rfl | rfl | rfl | rfl | rfl | rfl | rfl | rfl)
  · exact congrArg Host.Outcome.next (if_neg (by rw [hup]; decide))
  · exact congrArg Host.Outcome.next (if_pos hdown)
  · exact congrArg Host.Outcome.next (if_pos hdown)
  · exact congrArg Host.Outcome.next (if_pos (by rw [hup]; rfl))
  · rw [exec_hostRingWrite, execHostRingWrite]
    split
    · rfl
    · exact congrArg Host.Outcome.next (if_pos (by rw [hup]; rfl))
  · exact congrArg Host.Outcome.next (if_pos hdown)
  · exact congrArg Host.Outcome.next (if_pos hdown)
  · exact congrArg Host.Outcome.next (if_pos hdown)
  · exact congrArg Host.Outcome.next (if_pos hdown)

section Doorbells
variable {q : CmdRingId} {f : Fin 3} {v : BitVec 32} {e : CmdEntry} {s : State}

theorem bar0Violation_taken {off : BitVec 24} (hup : bar0Answers s) : exec (.bar0Violation off) s = .next (violation 0 70 off.toNat s) :=
  congrArg Host.Outcome.next (if_pos (bar0Up_iff.mpr hup))

/-- A ring whose base or size may move. -/
def ringOpenTo (s : State) (q : Nat) : Prop := (sessGet s q).opened = false ∧ (sessGet s q).mid = false

/-- A size in its range. -/
def sizeFits (f v : Nat) : Prop := f = 2 → 2 ≤ v ∧ v ≤ 4096

theorem ringFree_iff {n : Nat} : ringFree s n = true ↔ ringOpenTo s n := by simp [ringFree, ringOpenTo]

theorem cqBase_iff : (!ringFree s q.val || (f = 2 && (v.toNat < 2 || v.toNat > 4096))) = true ↔
    ¬ (ringOpenTo s q.val ∧ sizeFits f.val v.toNat) := by
  have hf : f = 2 ↔ f.val = 2 := by omega
  rw [← ringFree_iff]
  simp only [sizeFits, Bool.or_eq_true, Bool.and_eq_true, Bool.not_eq_true', decide_eq_true_eq, hf]
  generalize ringFree s q.val = b
  cases b
  · simp
  · simp
    omega

theorem cqBaseWrite_taken (hup : bar0Answers s) (hfree : ringOpenTo s q.val) (hfit : sizeFits f.val v.toNat) :
    exec (.cqBaseWrite q f v) s = .next (ringCmdPut q.val (ringSetUp f.val v.toNat (ringCmd s q.val)) s) :=
  congrArg Host.Outcome.next ((if_neg (not_bar0Up hup)).trans (if_neg fun h => cqBase_iff.mp h ⟨hfree, hfit⟩))

theorem cqBaseWrite_violates (hup : bar0Answers s) (h : ¬ (ringOpenTo s q.val ∧ sizeFits f.val v.toNat)) :
    exec (.cqBaseWrite q f v) s = .next (violation 0 70 (0x40 * q.val + 4 * f.val) s) :=
  congrArg Host.Outcome.next ((if_neg (not_bar0Up hup)).trans (if_pos (cqBase_iff.mpr h)))

theorem cqTail_taken (hup : bar0Answers s) (h : v.toNat < (ringCmd s q.val).size) :
    exec (.cqTail q v) s = .next (ringCmdPut q.val { ringCmd s q.val with tail := v.toNat } s) :=
  congrArg Host.Outcome.next ((if_neg (not_bar0Up hup)).trans (if_pos h))

theorem cqTail_violates (hup : bar0Answers s) (h : (ringCmd s q.val).size ≤ v.toNat) :
    exec (.cqTail q v) s = .next (violation 0 70 (0x40 * q.val + 0xC) s) :=
  congrArg Host.Outcome.next ((if_neg (not_bar0Up hup)).trans (if_neg (Nat.not_lt.mpr h)))

theorem commandFetch_of_empty (h : (ringCmd s q.val).head = (ringCmd s q.val).tail) : exec (.commandFetch q e) s = .next s :=
  congrArg Host.Outcome.next (if_pos (by simp [h]))

/-- A ring with one entry fetched. -/
def ringFetched (e : CmdEntry) (k : CmdRing) : CmdRing := { k with head := (k.head + 1) % k.size, fetched := k.fetched ++ [e] }

theorem commandFetch_eq (hup : bar0Answers s) (h : (ringCmd s q.val).head ≠ (ringCmd s q.val).tail) :
    exec (.commandFetch q e) s = .next (if ((ringCmd s q.val).head + 1) % (ringCmd s q.val).size = (ringCmd s q.val).tail then
      intSet (16 + q.val) (ringCmdPut q.val (ringFetched e (ringCmd s q.val)) s)
      else ringCmdPut q.val (ringFetched e (ringCmd s q.val)) s) :=
  congrArg Host.Outcome.next (if_neg (by simp [bar0Up_iff.mpr hup, h]))

theorem commandFetch_spec (hs : Safety.tablesOk s = true) (hup : bar0Answers s) (h : (ringCmd s q.val).head ≠ (ringCmd s q.val).tail) :
    reaches (exec (.commandFetch q e) s) fun t =>
      let k := ringCmd s q.val
      ringCmd t q.val = ringFetched e k ∧ keeps ringCmd s t [q.val] ∧
      ((k.head + 1) % k.size = k.tail → t.intPend.testBit (16 + q.val) = true) ∧
      ((k.head + 1) % k.size ≠ k.tail → t.intPend = s.intPend) ∧
      t = { s with rings := t.rings, intPend := t.intPend, msixPba := t.msixPba, out := t.out } := by
  refine ⟨_, commandFetch_eq hup h, ?_⟩
  have hget : ringCmd (ringCmdPut q.val (ringFetched e (ringCmd s q.val)) s) q.val = ringFetched e (ringCmd s q.val) :=
    ringCmd_ringCmdPut (tablesOk_rings hs)
  have hgets : keeps ringCmd s (ringCmdPut q.val (ringFetched e (ringCmd s q.val)) s) [q.val] := fun i hi =>
    ringCmd_ringCmdPut_ne (by simpa using hi)
  obtain ⟨x, hx⟩ : ∃ x, ringCmdPut q.val (ringFetched e (ringCmd s q.val)) s = s.putRings x := ⟨_, rfl⟩
  dsimp only
  rw [hx] at hget hgets ⊢
  by_cases htail : ((ringCmd s q.val).head + 1) % (ringCmd s q.val).size = (ringCmd s q.val).tail
  · obtain ⟨p, m, o, hint, hbit⟩ := intSet_exists (16 + q.val) (s.putRings x)
    rw [if_pos htail, hint]
    exact ⟨hget, hgets, fun _ => hbit, fun h => absurd htail h, rfl⟩
  · rw [if_neg htail]
    exact ⟨hget, hgets, fun h => absurd h htail, fun _ => rfl, rfl⟩
end Doorbells

/-! ### Host rings (R482 to R484) -/

section HostRings
variable {h : HqId} {v : BitVec 32} {s : State}

theorem mem_out_intSet {x : Out} {s : State} (i : Nat) (hx : x ∈ s.out) : x ∈ (intSet i s).out := by
  unfold intSet
  split
  · exact hx
  · dsimp only
    split
    · exact hx
    · exact List.mem_cons_of_mem _ hx

/-- A queue put and its high state judged: the queue with that state, and perhaps an interrupt. -/
theorem hqLevel_hqPut_exists {n : Nat} {k : HostQueue} {s : State} (hs : tabWf (fun _ => ({} : HostQueue)) s.hq = true) :
    ∃ z b p m o, hqLevel n (hqPut n k s) = { s with hq := z, intPend := p, msixPba := m, out := o } ∧
      tabGet {} z n = { k with high := b } ∧ ∀ i, i ≠ n → tabGet {} z i = hqGet s i := by
  have hget : hqGet (hqPut n k s) n = k := tabGet_tabSet_same (d := fun _ => ({} : HostQueue)) hs
  unfold hqLevel
  dsimp only
  rw [hget]
  generalize highAfter k.high _ _ _ = b
  have hlast : tabGet {} (hqPut n { k with high := b } (hqPut n k s)).hq n = { k with high := b } :=
    tabGet_tabSet_same (d := fun _ => ({} : HostQueue)) (tabSet_ok' hs)
  have hothers : ∀ i, i ≠ n → tabGet {} (hqPut n { k with high := b } (hqPut n k s)).hq i = hqGet s i := fun i hi =>
    (tabGet_tabSet_ne hi).trans (tabGet_tabSet_ne hi)
  obtain ⟨z, hz⟩ : ∃ z, hqPut n { k with high := b } (hqPut n k s) = s.putHq z := ⟨_, rfl⟩
  rw [hz] at hlast hothers ⊢
  obtain ⟨p, m, o, hint, -⟩ := intSet_exists (8 + n) (s.putHq z)
  split
  · exact ⟨z, b, p, m, o, hint, hlast, hothers⟩
  · exact ⟨z, b, s.intPend, s.msixPba, s.out, rfl, hlast, hothers⟩

theorem hostRingWrite_of_empty (hx : (hqGet s h.val).items = []) : exec (.hostRingWrite h) s = .next s := by
  rw [exec_hostRingWrite, execHostRingWrite, hx]

theorem hostRingWrite_of_full {ws : List Word} {rest : List (List Word)} (hx : (hqGet s h.val).items = ws :: rest)
    (hf : hrOn s h.val = false ∨ ringFreeLines s h.val < itemLines ws) : exec (.hostRingWrite h) s = .next s := by
  rw [exec_hostRingWrite, execHostRingWrite, hx]
  refine congrArg Host.Outcome.next (if_pos ?_)
  rcases hf with hf | hf
  · simp [hf]
  · simp [hf]

/-- A host queue without its oldest item. -/
def hqTaken (n : Nat) (x : HostQueue) (rest : List (List Word)) (lines : Nat) : HostQueue :=
  { x with items := rest, rp := ptrAdvance n x.rp lines }

/-- A host ring with one item more. -/
def ringFilled (size lines t : Nat) (r : HostRing) : HostRing :=
  { r with tail := (r.tail + lines) % size, items := r.items + 1, timer := decide (t ≠ 0) }

/-- A ring put, and its interrupt set where it is due. -/
def ringPlaced (i : Nat) (k : HostRing) (c : Bool) (u : State) : State :=
  if c then intSet i (ringPut_ i k u) else ringPut_ i k u

theorem ringPlaced_spec {i p m : Nat} {k : HostRing} {c : Bool} {z : Tab HostQueue} {x : Out} {o : List Out} {u : State}
    (hs : tabWf (fun _ => ({} : HostRing)) s.hostRing = true)
    (hu : u = { s with hq := z, intPend := p, msixPba := m, out := x :: o }) :
    let t := ringPlaced i k c u
    x ∈ t.out ∧ t.hq = z ∧ ringOf t i = k ∧ keeps ringOf s t [i] ∧ (c = true → t.intPend.testBit i = true) ∧
      t = { s with hq := t.hq, hostRing := t.hostRing, intPend := t.intPend, msixPba := t.msixPba, out := t.out } := by
  have hsu : tabWf (fun _ => ({} : HostRing)) u.hostRing = true := by rw [hu]; exact hs
  have hget : ringOf (ringPut_ i k u) i = k := ringOf_ringPut hsu
  have hgets : keeps ringOf s (ringPut_ i k u) [i] := fun j hj => by
    rw [ringOf_ringPut_ne (by simpa using hj), hu]
    rfl
  obtain ⟨w, hw⟩ : ∃ w, ringPut_ i k u = u.putHostRing w := ⟨_, rfl⟩
  unfold ringPlaced
  rw [hw] at hget hgets ⊢
  subst hu
  cases c with
  | false => exact ⟨List.mem_cons_self, rfl, hget, hgets, fun h => absurd h (by decide), rfl⟩
  | true =>
    rw [if_pos rfl]
    obtain ⟨p', m', o', hint, hbit⟩ := intSet_exists i
      (({ s with hq := z, intPend := p, msixPba := m, out := x :: o } : State).putHostRing w)
    have hmem := mem_out_intSet (x := x) (s := ({ s with hq := z, intPend := p, msixPba := m, out := x :: o } : State).putHostRing w) i
      List.mem_cons_self
    rw [hint] at hmem ⊢
    exact ⟨hmem, rfl, hget, hgets, fun _ => hbit, rfl⟩

theorem ringPlaced_decide {i : Nat} {k : HostRing} {c : Prop} [Decidable c] {u : State} :
    (if c then intSet i (ringPut_ i k u) else ringPut_ i k u) = ringPlaced i k (decide c) u := by
  unfold ringPlaced
  by_cases hc : c
  · rw [if_pos hc, decide_eq_true hc]
    rfl
  · rw [if_neg hc, decide_eq_false hc]
    rfl

theorem hostRingWrite_eq {ws : List Word} {rest : List (List Word)} {u : State} (hup : bar0Answers s)
    (hx : (hqGet s h.val).items = ws :: rest) (hon : hrOn s h.val = true) (hroom : itemLines ws ≤ ringFreeLines s h.val)
    (hu : emit (.hostRing h.val (ringOf s h.val).tail ws)
      (hqLevel h.val (hqPut h.val (hqTaken (hqSize s h.val) (hqGet s h.val) rest (itemLines ws)) s)) = u) :
    exec (.hostRingWrite h) s =
      .next (ringPlaced h.val (ringFilled (hrSize u h.val) (itemLines ws) (coalT u h.val) (ringOf s h.val))
        (decide ((ringOf s h.val).items + 1 ≥ coalN u h.val)) u) := by
  subst hu
  rw [exec_hostRingWrite, execHostRingWrite, hx]
  refine congrArg Host.Outcome.next ((if_neg (by simp [bar0Up_iff.mpr hup, hon, Nat.not_lt.mpr hroom])).trans ?_)
  exact ringPlaced_decide

theorem hostRingWrite_spec {ws : List Word} {rest : List (List Word)} (hs : Safety.tablesOk s = true) (hup : bar0Answers s)
    (hx : (hqGet s h.val).items = ws :: rest) (hon : hrOn s h.val = true) (hroom : itemLines ws ≤ ringFreeLines s h.val) :
    reaches (exec (.hostRingWrite h) s) fun t =>
      let x := hqGet s h.val
      let r := ringOf s h.val
      .hostRing h.val r.tail ws ∈ t.out ∧ (hqGet t h.val).items = rest ∧
        (hqGet t h.val).rp = ptrAdvance (hqSize s h.val) x.rp (itemLines ws) ∧ keeps hqGet s t [h.val] ∧
        ringOf t h.val = ringFilled (hrSize s h.val) (itemLines ws) (coalT s h.val) r ∧
        keeps ringOf s t [h.val] ∧ (coalN s h.val ≤ r.items + 1 → t.intPend.testBit h.val = true) ∧
        t = { s with hq := t.hq, hostRing := t.hostRing, intPend := t.intPend, msixPba := t.msixPba, out := t.out } := by
  obtain ⟨z, b, p, m, o, hlevel, hget, hgets⟩ := hqLevel_hqPut_exists (n := h.val)
    (k := hqTaken (hqSize s h.val) (hqGet s h.val) rest (itemLines ws)) (tablesOk_hq hs)
  obtain ⟨u, hu⟩ : ∃ u : State, u = { s with hq := z, intPend := p, msixPba := m, out := .hostRing h.val (ringOf s h.val).tail ws :: o } := ⟨_, rfl⟩
  have hexec := hostRingWrite_eq (u := u) hup hx hon hroom (by rw [hlevel, hu]; rfl)
  have hsize : hrSize u h.val = hrSize s h.val := by rw [hu]; rfl
  have hcoal : coalT u h.val = coalT s h.val ∧ coalN u h.val = coalN s h.val := by rw [hu]; exact ⟨rfl, rfl⟩
  rw [hsize, hcoal.1, hcoal.2] at hexec
  obtain ⟨h1, h2, h3, h4, h5, h6⟩ := ringPlaced_spec (i := h.val)
    (k := ringFilled (hrSize s h.val) (itemLines ws) (coalT s h.val) (ringOf s h.val))
    (c := decide ((ringOf s h.val).items + 1 ≥ coalN s h.val)) (tablesOk_hostRing hs) hu
  refine ⟨_, hexec, ?_⟩
  generalize ringPlaced h.val _ _ u = t at h1 h2 h3 h4 h5 h6 ⊢
  have hqueue : ∀ i, hqGet t i = tabGet {} z i := fun i => by
    unfold hqGet
    rw [h2]
  exact ⟨h1, by rw [hqueue, hget]; rfl, by rw [hqueue, hget]; rfl,
    fun i hi => (hqueue i).trans (hgets i (by simpa using hi)), h3, h4, fun hn => h5 (decide_eq_true hn), h6⟩

theorem hrCoalTimeout_of_due (ht : (ringOf s h.val).timer = true) (hi : 0 < (ringOf s h.val).items) :
    exec (.hrCoalTimeout h) s = .next (intSet h.val (ringPut_ h.val { ringOf s h.val with timer := false } s)) :=
  congrArg Host.Outcome.next (if_pos (by simp [ht, hi]))

theorem hrCoalTimeout_of_not (hn : (ringOf s h.val).timer = false ∨ (ringOf s h.val).items = 0) :
    exec (.hrCoalTimeout h) s = .next s := by
  refine congrArg Host.Outcome.next (if_neg ?_)
  rcases hn with hn | hn
  · simp [hn]
  · simp [hn]

theorem hrHead_taken (hup : bar0Answers s) (hv : v.toNat < hrSize s h.val) :
    exec (.hrHead h v) s = .next (ringPut_ h.val { ringOf s h.val with head := v.toNat } s) :=
  congrArg Host.Outcome.next ((if_neg (not_bar0Up hup)).trans (if_pos hv))

theorem hrHead_violates (hup : bar0Answers s) (hv : hrSize s h.val ≤ v.toNat) :
    exec (.hrHead h v) s = .next (violation 0 70 (0x100 + 0x20 * h.val) s) :=
  congrArg Host.Outcome.next ((if_neg (not_bar0Up hup)).trans (if_neg (Nat.not_lt.mpr hv)))

/-- A queue that takes credit. -/
def takesCredit (s : State) (n : Nat) : Prop := hqOn s n = true ∧ fld (cwGet s (hqCfgAddr n)) 34 34 = 1

/-- The lines free in a queue. -/
def hqRoom (s : State) (n : Nat) : Nat := hqSize s n - ptrFill (hqSize s n) (hqGet s n).rp (hqGet s n).wp

theorem takesCredit_iff {n : Nat} : (hqOn s n && cwFld s (hqCfgAddr n) 34 34 = 1) = true ↔ takesCredit s n := by
  rw [Bool.and_eq_true, decide_eq_true_eq]
  rfl

theorem hqCredit_fits (hup : bar0Answers s) (hc : takesCredit s h.val) (hf : (hqGet s h.val).cr + v.toNat ≤ hqRoom s h.val) :
    exec (.hqCredit h v) s = .next (hqPut h.val { hqGet s h.val with cr := (hqGet s h.val).cr + v.toNat } s) :=
  congrArg Host.Outcome.next (((if_neg (not_bar0Up hup)).trans (if_pos (takesCredit_iff.mpr hc))).trans (if_neg (Nat.not_lt.mpr hf)))

theorem hqCredit_clipped (hup : bar0Answers s) (hc : takesCredit s h.val) (hf : hqRoom s h.val < (hqGet s h.val).cr + v.toNat) :
    exec (.hqCredit h v) s = .next (hqPut h.val { hqGet s h.val with cr := hqRoom s h.val, clipped := true } s) :=
  congrArg Host.Outcome.next (((if_neg (not_bar0Up hup)).trans (if_pos (takesCredit_iff.mpr hc))).trans (if_pos hf))

theorem hqCredit_violates (hup : bar0Answers s) (hc : ¬ takesCredit s h.val) :
    exec (.hqCredit h v) s = .next (violation 0 70 (0x104 + 0x20 * h.val) s) :=
  congrArg Host.Outcome.next ((if_neg (not_bar0Up hup)).trans (if_neg fun hh => hc (takesCredit_iff.mp hh)))
end HostRings

/-! ### INT_CLR (R488) -/

section IntClr
variable {v : BitVec 32} {s : State}

/-- The count of a ring whose bit is cleared starts again. -/
def ringCleared (v : Nat) (s : State) (q : Nat) : State :=
  if v.testBit q then ringPut_ q { ringOf s q with items := 0, timer := false } s else s

/-- What the cleared bits of INT_PEND read. -/
theorem intClr_bits (p : Nat) (v : BitVec 32) (i : Nat) :
    (p &&& Nat.xor 0xFFFFFFFF v.toNat).testBit i = (p.testBit i && decide (i < 32) && !v.toNat.testBit i) := by
  have hmask : (0xFFFFFFFF : Nat).testBit i = decide (i < 32) := Nat.testBit_two_pow_sub_one 32 i
  have hxor : (Nat.xor 0xFFFFFFFF v.toNat).testBit i = ((0xFFFFFFFF : Nat).testBit i != v.toNat.testBit i) := Nat.testBit_xor _ _ _
  rw [Nat.testBit_and, hxor, hmask]
  by_cases hi : i < 32
  · simp [hi]
  · have hv : v.toNat.testBit i = false :=
      Nat.testBit_lt_two_pow (lt_of_lt_of_le v.isLt (Nat.pow_le_pow_right (by decide) (Nat.not_lt.mp hi)))
    simp [hi, hv]

/-- A walk over rings clears those of its list whose bits are set. -/
theorem ringsCleared (n : Nat) (l : List Nat) (hl : l.Nodup) (s : State) (hs : tabWf (fun _ => ({} : HostRing)) s.hostRing = true) :
    let t := l.foldl (ringCleared n) s
    (∀ i, ringOf t i = if i ∈ l ∧ n.testBit i = true then { ringOf s i with items := 0, timer := false } else ringOf s i) ∧
      t = { s with hostRing := t.hostRing } := by
  induction l generalizing s with
  | nil => exact ⟨fun i => (if_neg (by simp)).symm, rfl⟩
  | cons q l ih =>
    obtain ⟨hq, hnodup⟩ := List.nodup_cons.mp hl
    have hstep : ∃ x, ringCleared n s q = s.putHostRing x ∧ tabWf (fun _ => ({} : HostRing)) x = true ∧
        (∀ i, tabGet {} x i = if i = q ∧ n.testBit i = true then { ringOf s i with items := 0, timer := false } else ringOf s i) := by
      unfold ringCleared
      by_cases hb : n.testBit q = true
      · rw [if_pos hb]
        refine ⟨_, rfl, tabSet_ok' hs, fun i => ?_⟩
        by_cases hi : i = q
        · subst hi
          rw [if_pos ⟨rfl, hb⟩]
          exact tabGet_tabSet_same (d := fun _ => ({} : HostRing)) hs
        · rw [if_neg fun h => hi h.1]
          exact tabGet_tabSet_ne hi
      · rw [if_neg hb]
        exact ⟨s.hostRing, rfl, hs, fun i => (if_neg (by rintro ⟨rfl, h⟩; exact hb h)).symm⟩
    obtain ⟨x, hx, hok, hget⟩ := hstep
    intro t
    have ht : t = l.foldl (ringCleared n) (s.putHostRing x) := by
      show List.foldl (ringCleared n) (ringCleared n s q) l = _
      rw [hx]
    obtain ⟨hall, hrest⟩ := ih hnodup (s.putHostRing x) hok
    rw [← ht] at hall hrest
    clear_value t
    refine ⟨fun i => ?_, hrest⟩
    have hbase : ringOf (s.putHostRing x) i = tabGet {} x i := rfl
    rw [hall i, hbase, hget i]
    by_cases hi : i = q
    · subst hi
      simp [hq]
    · simp [hi]

theorem intClr_eq (hup : bar0Answers s) : exec (.intClr v) s =
    .next ((List.range 8).foldl (ringCleared v.toNat) (s.putIntPend (s.intPend &&& Nat.xor 0xFFFFFFFF v.toNat))) :=
  congrArg Host.Outcome.next (if_neg (not_bar0Up hup))

theorem intClr_spec (hs : Safety.tablesOk s = true) (hup : bar0Answers s) : reaches (exec (.intClr v) s) fun t =>
    (∀ i, t.intPend.testBit i = (s.intPend.testBit i && decide (i < 32) && !v.toNat.testBit i)) ∧
    (∀ i, i < 8 → ringOf t i = if v.toNat.testBit i then { ringOf s i with items := 0, timer := false } else ringOf s i) ∧
    t = { s with intPend := t.intPend, hostRing := t.hostRing } := by
  refine ⟨_, intClr_eq hup, ?_⟩
  obtain ⟨hall, hrest⟩ := ringsCleared v.toNat (List.range 8) List.nodup_range
    (s.putIntPend (s.intPend &&& Nat.xor 0xFFFFFFFF v.toNat)) (tablesOk_hostRing hs)
  generalize (List.range 8).foldl (ringCleared v.toNat) (s.putIntPend (s.intPend &&& Nat.xor 0xFFFFFFFF v.toNat)) = t at hall hrest ⊢
  have hpend : t.intPend = s.intPend &&& Nat.xor 0xFFFFFFFF v.toNat := by rw [hrest]; rfl
  refine ⟨fun i => by rw [hpend]; exact intClr_bits _ v i, fun i hi => ?_, by rw [hpend]; exact hrest⟩
  have hmem : i ∈ List.range 8 := List.mem_range.mpr hi
  by_cases hb : v.toNat.testBit i = true
  · rw [hall i, if_pos ⟨hmem, hb⟩, if_pos hb]
    rfl
  · rw [hall i, if_neg fun h => hb h.2, if_neg hb]
    rfl
end IntClr

/-! ### Recovery (R439) -/

section Recovery
variable {a : BitVec 64} {im : List (BitVec 288)} {s : State}

theorem recGo_violates (hup : bar0Answers s) (h : s.mode ≠ .quarantine ∨ s.sec.qcause ≠ 6) :
    exec (.recGo a im true) s = .next (violation 0 70 0x208 s) :=
  congrArg Host.Outcome.next ((if_neg (not_bar0Up hup)).trans (if_pos (by simpa using h)))

/-- The address of a recovery image noted. -/
def recNoted (a : BitVec 64) (s : State) : State :=
  s.putSec { s.sec with recLo := a.toNat % 2 ^ 32, recHi := a.toNat / 2 ^ 32 }

theorem recGo_eq {ok : Bool} (hup : bar0Answers s) (hm : s.mode = .quarantine) (hq : s.sec.qcause = 6) : exec (.recGo a im ok) s =
    .next (if ok && firmwareOk im && lineNat im 2 2 ≥ (floors (recNoted a s)).fw then
      wipe .inReset true ((recNoted a s).putNvm
        { (recNoted a s).nvm with fwA := some { svn := lineNat im 2 2, lines := im, valid := true } })
      else cenInc 1 (recNoted a s)) :=
  congrArg Host.Outcome.next ((if_neg (not_bar0Up hup)).trans (if_neg (by simp [hm, hq])))

theorem recGo_taken (hup : bar0Answers s) (hm : s.mode = .quarantine) (hq : s.sec.qcause = 6) (hok : firmwareOk im = true)
    (hfloor : (floors s).fw ≤ lineNat im 2 2) : reaches (exec (.recGo a im true) s) fun t =>
      t.phase = .inReset ∧ t.nvm.starter = s.nvm.starter ∧
        t.nvm.fwA = some { svn := lineNat im 2 2, lines := im, valid := true } ∧ t.nvm.fwB = s.nvm.fwB ∧ t.pending = s.pending := by
  have hc : (true && firmwareOk im && lineNat im 2 2 ≥ (floors (recNoted a s)).fw) = true := by
    rw [hok, Bool.true_and, Bool.true_and]
    exact decide_eq_true hfloor
  exact ⟨_, (recGo_eq hup hm hq).trans (congrArg Host.Outcome.next (if_pos hc)), rfl, rfl, rfl, rfl, rfl⟩

theorem recGo_counts (hup : bar0Answers s) (hm : s.mode = .quarantine) (hq : s.sec.qcause = 6) :
    exec (.recGo a im false) s = .next (cenInc 1 (recNoted a s)) :=
  (recGo_eq hup hm hq).trans (congrArg Host.Outcome.next (if_neg (by rw [Bool.false_and, Bool.false_and]; decide)))
end Recovery

/-! ### PERST_L (R557) -/

section Perst
variable {s : State}

/-- The rings beside a batch under way. -/
theorem rings_batchEnded (q : Nat) (s : State) : (batchEnded q s).rings = s.rings := by
  have hstop : (stopBatch s).rings = s.rings := by
    apply stopBatch_frame (π := State.rings) (hk := rfl) <;> exact fun _ _ => rfl
  unfold batchEnded
  split
  · exact frame_ite (π := State.rings) rfl fun _ => hstop
  · rfl

theorem rings_endSession (q : Nat) (s : State) : (endSession false q s).rings =
    tabSet {} s.rings q { ringCmd s q with fetched := [], waiting := [] } := by
  have h : (endSession false q s).rings = tabSet {} (batchEnded q s).rings q { ringCmd (batchEnded q s) q with fetched := [], waiting := [] } := rfl
  rw [h]
  unfold ringCmd
  rw [rings_batchEnded]

/-- A ring that a walk of ended sessions has met is empty. -/
theorem ringsEnded (l : List Nat) {i : Nat} (s : State) (hs : tabWf (fun _ => ({} : CmdRing)) s.rings = true)
    (hi : i ∈ l ∨ ((ringCmd s i).fetched = [] ∧ (ringCmd s i).waiting = [])) :
    (ringCmd (l.foldl (fun s q => endSession false q s) s) i).fetched = [] ∧
      (ringCmd (l.foldl (fun s q => endSession false q s) s) i).waiting = [] := by
  induction l generalizing s with
  | nil => simpa using hi
  | cons q l ih =>
    have hget : ∀ j, ringCmd (endSession false q s) j =
        tabGet {} (tabSet {} s.rings q { ringCmd s q with fetched := [], waiting := [] }) j := fun j =>
      congrArg (fun t => tabGet ({} : CmdRing) t j) (rings_endSession q s)
    refine ih _ (by rw [rings_endSession]; exact tabSet_ok' hs) ?_
    by_cases hq : i = q
    · subst hq
      right
      rw [hget, tabGet_tabSet_same (d := fun _ => ({} : CmdRing)) hs]
      exact ⟨rfl, rfl⟩
    · rw [hget, tabGet_tabSet_ne hq]
      exact hi.imp_left fun hm => (List.mem_cons.1 hm).resolve_left hq

/-- Mode, interlock, control words, records and the land of the endpoint. -/
def perstView (s : State) : Mode × Ilk × Tab Word × List Due × Bool := (s.mode, s.ilk, s.cw, s.due, s.perst)

theorem perstAssert_spec (hs : Safety.tablesOk s = true) : reaches (exec .perstLAssert s) fun t => t.perst = true ∧
    (∀ i, i < 4 → sessGet t i = {} ∧ (ringCmd t i).fetched = [] ∧ (ringCmd t i).waiting = []) ∧
    t.mode = s.mode ∧ t.ilk = s.ilk ∧ t.cw = s.cw ∧ t.due = s.due := by
  have hview : perstView (endSessions false (s.putPerst true)) = perstView (s.putPerst true) := by
    apply endSessions_frame (π := perstView) (hk := rfl) <;> exact fun _ _ => rfl
  have hsess : ∀ i, i < 4 → sessGet (endSessions false (s.putPerst true)) i = {} := fun i hi =>
    sessGet_endSessions (s := s.putPerst true) (tablesOk_sess (s := s) hs) false hi
  have hrings : ∀ i, i < 4 → (ringCmd (endSessions false (s.putPerst true)) i).fetched = [] ∧
      (ringCmd (endSessions false (s.putPerst true)) i).waiting = [] := fun i hi =>
    ringsEnded [0, 1, 2, 3] (s.putPerst true) (tablesOk_rings (s := s) hs) (.inl (by simp; omega))
  refine ⟨endSessions false (s.putPerst true), rfl, ?_⟩
  generalize endSessions false (s.putPerst true) = t at hview hsess hrings ⊢
  simp only [perstView, Prod.mk.injEq] at hview
  obtain ⟨h1, h2, h3, h4, h5⟩ := hview
  exact ⟨h5, fun i hi => ⟨hsess i hi, hrings i hi⟩, h1, h2, h3, h4⟩
end Perst

/-- Settles O50: where BAR0 answers each access is judged by its own condition; the rings by what a walk over them leaves. -/
theorem hostRingsAndDoorbells : Obligations.HostRingsAndDoorbells := by
  unfold Obligations.HostRingsAndDoorbells
  intro q h f off v a e im s hs
  dsimp only
  refine ⟨bar0_silent, fun hup => ⟨bar0Violation_taken hup, fun hfree hfit => ?_, fun hn => cqBaseWrite_violates hup hn,
    fun hv => cqTail_taken hup hv, fun hv => cqTail_violates hup hv, commandFetch_of_empty, fun hne => commandFetch_spec hs hup hne,
    fun ws rest hx hon hroom => hostRingWrite_spec hs hup hx hon hroom, fun ws rest hx hf => hostRingWrite_of_full hx hf,
    fun hv => hrHead_taken hup hv, fun hv => hrHead_violates hup hv, fun hc hf => hqCredit_fits hup hc hf,
    fun hc hf => hqCredit_clipped hup hc hf, fun hc => hqCredit_violates hup hc, intClr_spec hs hup, fun hn => recGo_violates hup hn,
    fun hm hq hok hfl => recGo_taken hup hm hq hok hfl, fun hm hq => recGo_counts hup hm hq⟩, hostRingWrite_of_empty,
    fun ht hi => hrCoalTimeout_of_due ht hi, hrCoalTimeout_of_not, perstAssert_spec hs, rfl⟩
  rw [cqBaseWrite_taken hup hfree hfit]
  rfl

end Sys2Proof.Machine
end

section
/-! PROOFS. O53: supply, reset, start-up and finished stores (R438 to R443, R463, R532, R533, R549, R556, R557). -/

namespace Sys2Proof.Machine

/-! ### Supply and reset lands (R532, R549, R557) -/

/-- What a loss of power or a reset leaves of a state. -/
def volatileLost (s t : State) : Prop :=
  t.mode = .sealed ∧ t.ilk = .released ∧ t.ctxAt = [] ∧ t.ctx = [] ∧ t.loaf = none ∧ t.bank = {} ∧
    t.engines = [] ∧ t.sess = [] ∧ t.pending = s.pending ∧ t.nvm.busy = none ∧
    t.nvm.result = (if s.nvm.busy.isSome then 4 else s.nvm.result) ∧ t.nvm.starter = s.nvm.starter ∧ t.nvm.owner = s.nvm.owner ∧
    t.nvm.fwA = s.nvm.fwA ∧ t.nvm.fwB = s.nvm.fwB ∧ t.nvm.floors = s.nvm.floors ∧ t.nvm.pair = s.nvm.pair

theorem volatileLost_wipe (p : Phase) (kept : Bool) (s : State) : volatileLost s (wipe p kept s) := by
  refine ⟨rfl, rfl, rfl, rfl, rfl, rfl, rfl, rfl, rfl, rfl, rfl, rfl, rfl, rfl, rfl, rfl, rfl⟩

section Lands
variable {c : VinStop} {st : Straps} {s : State}

theorem vinUvlo_of_off (h : s.phase = .off) : exec (.vinUvlo c) s = .next s := congrArg Host.Outcome.next (if_pos h)

theorem vinUvlo_of_on (h : s.phase ≠ .off) : reaches (exec (.vinUvlo c) s) fun t =>
    t.phase = .off ∧ t.vinHigh = decide (c = .ovlo) ∧ volatileLost s t ∧ t.cw = [] :=
  ⟨_, congrArg Host.Outcome.next (if_neg h), rfl, rfl, volatileLost_wipe .off false s, rfl⟩

theorem startSupply_lost (s : State) : (startSupply s).phase = .inReset ∧ (startSupply s).vinHigh = false ∧
    volatileLost s (startSupply s) ∧ (startSupply s).cw = [] := ⟨rfl, rfl, volatileLost_wipe .inReset false s, rfl⟩

theorem vinPowerOn_of_off (h : s.phase = .off) (hv : s.vinHigh = false) : exec .vinPowerOn s = .next (startSupply s) :=
  congrArg Host.Outcome.next (if_pos (by simp [h, hv]))

theorem vinPowerOn_of_not (h : s.phase ≠ .off ∨ s.vinHigh = true) : exec .vinPowerOn s = .next s :=
  congrArg Host.Outcome.next (if_neg (by rcases h with h | h <;> simp [h]))

theorem ovloRestart_of_stopped (h : s.phase = .off) (hv : s.vinHigh = true) : exec .ovloRestart s = .next (startSupply s) :=
  congrArg Host.Outcome.next (if_pos (by simp [h, hv]))

theorem ovloRestart_of_not (h : s.phase ≠ .off ∨ s.vinHigh = false) : exec .ovloRestart s = .next s :=
  congrArg Host.Outcome.next (if_neg (by rcases h with h | h <;> simp [h]))

theorem resetLAssert_of_powered (h : s.phase ≠ .off) (hd : s.phase ≠ .dormant) : reaches (exec .resetLAssert s) fun t =>
    t.phase = .inReset ∧ volatileLost s t ∧ ∀ a, cwGet t a = if censusWord a then cwGet s a else cwReset a :=
  ⟨_, congrArg Host.Outcome.next (if_neg (by simp [h, hd])), rfl, volatileLost_wipe .inReset true s,
    fun a => tabGet_filter_key (cwReset a) censusWord a s.cw⟩

theorem resetLAssert_of_not (h : s.phase = .off ∨ s.phase = .dormant) : exec .resetLAssert s = .next s :=
  congrArg Host.Outcome.next (if_pos (by simpa using h))
end Lands

/-! ### The boot ROM (R438, R439) -/

/-- What the start of the firmware judges: the NVM. -/
theorem bootBank_congr {s t : State} (h : t.nvm = s.nvm) : bootBank t = bootBank s := by
  unfold bootBank candidate floors
  rw [h]

theorem bootBank_of_two {s : State} {u v : FwImage} (ha : candidate s s.nvm.fwA = some u) (hb : candidate s s.nvm.fwB = some v) :
    bootBank s = some (if (floors s).pin = 2 ∨ ((floors s).pin ≠ 1 ∧ u.svn < v.svn) then (true, v.svn) else (false, u.svn)) := by
  unfold bootBank
  dsimp only
  rw [ha, hb]
  dsimp only
  by_cases h : (floors s).pin = 2 ∨ ((floors s).pin ≠ 1 ∧ u.svn < v.svn)
  · rw [if_pos h, if_pos (by simpa using h)]
  · rw [if_neg h, if_neg (by simpa using h)]

section Boot
variable {s : State}

/-- The package runs and its claim is answered. -/
def romEntered (s : State) : State := (s.putPhase .running).putClaimed false

/-- Banks that are no candidates counted. -/
def banksCounted (s : State) : State :=
  let s := if (candidate s s.nvm.fwA).isNone then cenInc 1 s else s
  if (candidate s s.nvm.fwB).isNone then cenInc 1 s else s

/-- What the boot ROM does with the bank chosen. -/
def bankTaken (s : State) : State :=
  match bootBank s with
  | some f => s.putSec { s.sec with fw := some f }
  | none => quarantine 6 0xA false s

/-- The cause of the first mode with an owner. -/
def bootCause (s : State) : Nat := if s.claimed then 2 else 1

theorem bootFwSelect_of_not (h : ¬ (s.phase = .released ∧ s.sec.keyed = true)) : exec .bootFwSelect s = .next s := by
  refine congrArg Host.Outcome.next (if_pos ?_)
  by_cases hp : s.phase = .released
  · have hk : s.sec.keyed = false := by simpa [hp] using h
    simp [hk]
  · simp [hp]

theorem bootFwSelect_unowned (hp : s.phase = .released) (hk : s.sec.keyed = true) (ho : ownerKey s = none) :
    exec .bootFwSelect s = .next (firstMode .sealed 1 (romEntered s)) :=
  congrArg Host.Outcome.next ((if_neg (by simp [hp, hk])).trans (if_pos (by rw [ho]; rfl)))

theorem bootFwSelect_owned (hp : s.phase = .released) (hk : s.sec.keyed = true) (ho : (ownerKey s).isSome = true) :
    exec .bootFwSelect s = .next (bankTaken (banksCounted (firstMode .boot (bootCause s) (romEntered s)))) := by
  have hnone : ¬ (ownerKey s).isNone = true := by
    cases hkey : ownerKey s with
    | none => rw [hkey] at ho; exact absurd ho (by decide)
    | some k => simp
  exact congrArg Host.Outcome.next ((if_neg (by simp [hp, hk])).trans (if_neg hnone))

/-- The record of a first mode SEALED. -/
def sealedRecord (s : State) (cause : Nat) : Due :=
  { q := fld (cwGet s pkgCtrlAddr) 30 28, ty := 0x23,
    ws := [mkWord [(33, 0), (30, 0), (26, cause), (22, s.sec.qcause), (21, b2n s.rdn.provisional)], s.tick] }

/-- The first mode without an owner: SEALED, recorded. -/
theorem firstMode_sealed (cause : Nat) (hm : s.mode = .sealed) : ∃ p m o, firstMode .sealed cause s =
    { s with modeCause := cause, due := s.due ++ [sealedRecord s cause], intPend := p, msixPba := m, out := o } ∧ p.testBit 20 = true := by
  have hset : setMode .sealed cause s = s := if_pos hm
  obtain ⟨p, m, o, hint, hbit⟩ := intSet_exists 20 (dueRecord (pwrHq s) 0x23 [modeEvtWord s 0 0 cause, s.tick] (s.putModeCause cause))
  refine ⟨p, m, o, ?_, hbit⟩
  unfold firstMode
  dsimp only
  rw [if_pos rfl, hset, hint]
  rfl

theorem bootFwSelect_sealed (hp : s.phase = .released) (hk : s.sec.keyed = true) (hm : s.mode = .sealed) (ho : ownerKey s = none) :
    reaches (exec .bootFwSelect s) fun t => t.mode = .sealed ∧ t.phase = .running ∧ t.modeCause = 1 ∧ t.claimed = false ∧
      t.due = s.due ++ [sealedRecord s 1] ∧ t.intPend.testBit 20 = true := by
  obtain ⟨p, m, o, hfirst, hbit⟩ := firstMode_sealed 1 (s := romEntered s) hm
  refine ⟨_, bootFwSelect_unowned hp hk ho, ?_⟩
  rw [hfirst]
  exact ⟨hm, rfl, rfl, rfl, rfl, hbit⟩

/-- What counting banks leaves. -/
def romView (s : State) : Mode × Nat × Phase × List Due × Nvm × Tab Session × Sec :=
  (s.mode, s.modeCause, s.phase, s.due, s.nvm, s.sess, s.sec)

theorem romView_banksCounted (s : State) : romView (banksCounted s) = romView s := by
  have hcen : ∀ t, romView (cenInc 1 t) = romView t := fun t => by
    rw [cenInc_fields (by decide)]
    rfl
  have hstep : ∀ (c : Bool) t, romView (if c then cenInc 1 t else t) = romView t := fun c t => by
    cases c with
    | false => rfl
    | true => exact hcen t
  exact (hstep _ _).trans (hstep _ _)

/-- Phase, NVM and sessions as the mode changes. -/
def nvmView (s : State) : Phase × Nvm × Tab Session × Sec := (s.phase, s.nvm, s.sess, s.sec)

theorem firstMode_boot (cause : Nat) (hm : s.mode = .sealed) : romView (firstMode .boot cause s) =
    (.boot, cause, s.phase, s.due ++ [modeRecord s .boot cause], s.nvm, s.sess, s.sec) := by
  have hfirst : firstMode .boot cause s = setMode .boot cause s := rfl
  obtain ⟨h1, h2, h3⟩ := setMode_spec (new := .boot) cause (s := s) (by rw [hm]; decide) (by decide) (by decide)
  have hview : nvmView (setMode .boot cause s) = nvmView s := by
    apply setMode_frame (π := nvmView) (by constructor <;> exact fun _ _ => rfl) (hk := rfl) <;> exact fun _ _ => rfl
  rw [hfirst]
  simp only [nvmView, Prod.mk.injEq] at hview
  obtain ⟨v1, v2, v3, v4⟩ := hview
  unfold romView
  rw [h1, h2, h3, v1, v2, v3, v4]

/-- The state in which a bank is chosen. -/
theorem romView_bankJudged (hm : s.mode = .sealed) : romView (banksCounted (firstMode .boot (bootCause s) (romEntered s))) =
    (.boot, bootCause s, .running, s.due ++ [modeRecord s .boot (bootCause s)], s.nvm, s.sess, s.sec) := by
  rw [romView_banksCounted, firstMode_boot (s := romEntered s) _ hm]
  rfl

theorem bootFwSelect_boots {f : Bool × Nat} (hp : s.phase = .released) (hk : s.sec.keyed = true) (hm : s.mode = .sealed)
    (ho : (ownerKey s).isSome = true) (hf : bootBank s = some f) : reaches (exec .bootFwSelect s) fun t =>
      t.mode = .boot ∧ t.phase = .running ∧ t.modeCause = bootCause s ∧ t.sec.fw = some f ∧
      t.due = s.due ++ [modeRecord s .boot (bootCause s)] := by
  refine ⟨_, bootFwSelect_owned hp hk ho, ?_⟩
  have hview := romView_bankJudged hm
  generalize banksCounted (firstMode .boot (bootCause s) (romEntered s)) = u at hview ⊢
  simp only [romView, Prod.mk.injEq] at hview
  obtain ⟨h1, h2, h3, h4, h5, -⟩ := hview
  unfold bankTaken
  rw [bootBank_congr h5, hf]
  exact ⟨h1, h3, h2, rfl, h4⟩

theorem bootFwSelect_quarantines (hs : Safety.tablesOk s = true) (hp : s.phase = .released) (hk : s.sec.keyed = true)
    (hm : s.mode = .sealed) (ho : (ownerKey s).isSome = true) (hf : bootBank s = none) : reaches (exec .bootFwSelect s) fun t =>
      t.mode = .quarantine ∧ t.modeCause = 0xA ∧ t.sec.qcause = 6 ∧ t.ilk = .released := by
  refine ⟨_, bootFwSelect_owned hp hk ho, ?_⟩
  have hview := romView_bankJudged hm
  generalize banksCounted (firstMode .boot (bootCause s) (romEntered s)) = u at hview ⊢
  simp only [romView, Prod.mk.injEq] at hview
  obtain ⟨h1, -, -, -, h5, h6, -⟩ := hview
  unfold bankTaken
  rw [bootBank_congr h5, hf]
  obtain ⟨q1, q2, q3, q4, -⟩ := quarantine_spec 6 0xA false (s := u) (by rw [h1]; decide) (by rw [h6]; exact tablesOk_sess hs)
  exact ⟨q1, q2, q3, q4⟩

theorem fwStart_of_boot (hm : s.mode = .boot) (hf : s.sec.fw.isSome = true) :
    exec .fwStart s = .next { s with sec := { s.sec with started := true } } := congrArg Host.Outcome.next (if_pos (by simp [hm, hf]))

theorem fwStart_of_not (h : s.mode ≠ .boot ∨ s.sec.fw = none) : exec .fwStart s = .next s :=
  congrArg Host.Outcome.next (if_neg (by rcases h with h | h <;> simp [h]))
end Boot

/-! ### The NVM starter (R440, R533) -/

section NvmStarter
variable {b : Bool} {m : Nat} {y : Starter} {l : Loaf} {s : State}

theorem bootStarterLoad_of_not {p q : Bool} (h : s.mode ≠ .boot ∨ s.sec.started = false ∨ s.nvm.starter.current = none) :
    exec (.bootStarterLoad p q) s = .next s := by
  refine congrArg Host.Outcome.next ?_
  by_cases hboot : (s.mode ≠ .boot || !s.sec.started) = true
  · exact if_pos hboot
  · have hnone : s.nvm.starter.current = none := by
      rcases h with h | h | h
      · exact absurd (by simp [h]) hboot
      · exact absurd (by simp [h]) hboot
      · exact h
    rw [if_neg hboot, hnone]

variable (hm : s.mode = .boot) (hst : s.sec.started = true) (hc : s.nvm.starter.current = some (m, y))
include hm hst hc

/-- The firmware finds a starter in the NVM. -/
theorem bootStarterLoad_eq (p q : Bool) : exec (.bootStarterLoad p q) s =
    .next (if !p then cenInc 6 s
      else match y.loaf with
        | some l =>
          if q && starterLoafOk s y l then
            enterMode .standby 3 (calibrateBanks ((s.putBank { y with valid := true, fromNvm := true }).putLoaf (some l)))
          else cenInc 2 s
        | none => s) := by
  rw [exec_bootStarterLoad, execBootStarterLoad, if_neg (by simp [hm, hst]), hc] <;> rfl

theorem bootStarterLoad_closed : exec (.bootStarterLoad false b) s = .next (cenInc 6 s) := bootStarterLoad_eq hm hst hc false b

theorem bootStarterLoad_refused {q : Bool} (hl : y.loaf = some l) (h : (q && starterLoafOk s y l) = false) :
    exec (.bootStarterLoad true q) s = .next (cenInc 2 s) := by
  rw [bootStarterLoad_eq hm hst hc, hl]
  exact congrArg Host.Outcome.next (if_neg (c := (q && starterLoafOk s y l) = true) (by rw [h]; decide))

theorem bootStarterLoad_taken (hl : y.loaf = some l) (hok : starterLoafOk s y l = true) (hg : s.rdn.grant = false) :
    reaches (exec (.bootStarterLoad true true) s) fun t => t.mode = .standby ∧ t.modeCause = 3 ∧ t.loaf = some l ∧
      t.bank = { y with valid := true, fromNvm := true } ∧ t.rdn = { s.rdn with want := 5 } := by
  have hexec : exec (.bootStarterLoad true true) s = .next (enterMode .standby 3 (calibrateBanks
      ((s.putBank { y with valid := true, fromNvm := true }).putLoaf (some l)))) := by
    rw [bootStarterLoad_eq hm hst hc, hl]
    exact congrArg Host.Outcome.next (if_pos (c := (true && starterLoafOk s y l) = true) (by rw [hok]; rfl))
  refine ⟨_, hexec, ?_⟩
  have hview : ∀ t, (fun t : State => (t.mode, t.rdn, t.bank, t.loaf)) (calibrateBanks t) = (t.mode, t.rdn, t.bank, t.loaf) := fun t =>
    calibrateBanks_frame (π := fun t : State => (t.mode, t.rdn, t.bank, t.loaf)) (fun _ _ => rfl) t rfl
  have hput := hview ((s.putBank { y with valid := true, fromNvm := true }).putLoaf (some l))
  generalize calibrateBanks ((s.putBank { y with valid := true, fromNvm := true }).putLoaf (some l)) = u at hput ⊢
  simp only [Prod.mk.injEq] at hput
  obtain ⟨u1, u2, u3, u4⟩ := hput
  have hmode : u.mode = .boot := u1.trans hm
  have hgrant : u.rdn.grant = false := (congrArg Rdn.grant u2).trans hg
  obtain ⟨h1, h2, h3, -, h5, -⟩ := enterMode_standby 3 (s := u) (by rw [hmode]; decide) hgrant
  have hloaf : (enterMode .standby 3 u).loaf = u.loaf := by
    apply enterMode_frame (π := State.loaf) (by constructor <;> exact fun _ _ => rfl) (hk := rfl) <;> exact fun _ _ => rfl
  exact ⟨h1, h2, hloaf.trans u4, h5.trans u3, by rw [h3, u2]; rfl⟩
end NvmStarter

/-! ### Events of the link to the host (R380) -/

section Pcie
variable {x : PcieErr} {s : State}

theorem pcie_counted (hup : bar0Answers s) : exec .pcieLinkRetrain s = .next (cenInc 52 s) ∧
    exec (.pcieError x) s = .next (cenInc (if x = .correctable then 53 else 54) s) := by
  refine ⟨congrArg Host.Outcome.next (if_pos (bar0Up_iff.mpr hup)), ?_⟩
  cases x with
  | correctable => exact congrArg Host.Outcome.next (if_pos (bar0Up_iff.mpr hup))
  | uncorrectable => exact congrArg Host.Outcome.next (if_pos (bar0Up_iff.mpr hup))

theorem pcie_silent (h : powered s = false ∨ s.perst = true) : exec .pcieLinkRetrain s = .next s ∧ exec (.pcieError x) s = .next s := by
  have hdown : ¬ bar0Up s = true := by
    rw [bar0Up_iff, bar0Answers]
    rcases h with h | h <;> simp [h]
  exact ⟨congrArg Host.Outcome.next (if_neg hdown), congrArg Host.Outcome.next (if_neg hdown)⟩
end Pcie

/-! ### Finished stores (R463) -/

/-- A store makes the copy that was not current the current one. -/
theorem newCopy_store {α : Type} (c : Copies α) (v : α) : newCopy c (Copies.store c v) v := by
  obtain ⟨a, b⟩ := c
  rcases a with _ | ⟨i, x⟩ <;> rcases b with _ | ⟨j, y⟩
  · exact ⟨fun _ _ h => by simp [Copies.current] at h, fun _ => rfl⟩
  · refine ⟨fun m z h => ?_, fun h => by simp [Copies.current] at h⟩
    simp only [Copies.current, Option.some.injEq, Prod.mk.injEq] at h
    obtain ⟨rfl, rfl⟩ := h
    simp [Copies.store, Copies.current, Copies.atB]
  · refine ⟨fun m z h => ?_, fun h => by simp [Copies.current] at h⟩
    simp only [Copies.current, Option.some.injEq, Prod.mk.injEq] at h
    obtain ⟨rfl, rfl⟩ := h
    simp [Copies.store, Copies.current, Copies.atB]
  · by_cases hij : i ≥ j
    · refine ⟨fun m z h => ?_, fun h => by simp [Copies.current, hij] at h⟩
      simp only [Copies.current, if_pos hij, Option.some.injEq, Prod.mk.injEq] at h
      obtain ⟨rfl, rfl⟩ := h
      have hlt : ¬ i < j := Nat.not_lt.mpr hij
      simp [Copies.store, Copies.current, Copies.atB, hij, hlt]
    · refine ⟨fun m z h => ?_, fun h => by simp [Copies.current, hij] at h⟩
      simp only [Copies.current, if_neg hij, Option.some.injEq, Prod.mk.injEq] at h
      obtain ⟨rfl, rfl⟩ := h
      have hlt : i < j := Nat.lt_of_not_le hij
      simp [Copies.store, Copies.current, Copies.atB, hij, hlt]

section Store
variable {j : StoreJob} {s : State}

/-- The record of a store under way closed. -/
def storeClosed (s : State) : State :=
  s.putNvm { s.nvm with
    busy := none, result := 0, stores := min (s.nvm.stores + 1) 0xFFFFFF,
    lastAt := tabSet 0 s.nvm.lastAt s.nvm.target (tickCount s + storeInterval s.nvm.target) }

theorem storeComplete_eq (h : s.nvm.busy = some j) : exec .storeComplete s = .next (endLong 0 (storeClosed (cenInc 7 (storeJob j s)))) := by
  rw [exec_storeComplete, execStoreComplete, h]
  rfl

theorem storeComplete_of_idle (h : s.nvm.busy = none) : exec .storeComplete s = .next s := by
  rw [exec_storeComplete, execStoreComplete, h]

/-- The objects of the NVM, a reset due and a claim. -/
def storeView (s : State) : Copies Starter × Option FwImage × Option FwImage × Copies OwnerRec × Copies Floors × Copies (List (BitVec 288)) ×
    Bool × Bool :=
  (s.nvm.starter, s.nvm.fwA, s.nvm.fwB, s.nvm.owner, s.nvm.floors, s.nvm.pair, s.resetDue, s.claimed)

/-- A finished store closes its record and leaves what its job wrote. -/
theorem storeComplete_spec (h : s.nvm.busy = some j) : reaches (exec .storeComplete s) fun t =>
    t.nvm.busy = none ∧ t.nvm.result = 0 ∧ t.nvm.stores = min (s.nvm.stores + 1) 0xFFFFFF ∧ storeView t = storeView (storeJob j s) := by
  refine ⟨_, storeComplete_eq h, ?_⟩
  have hstores : (storeJob j s).nvm.stores = s.nvm.stores := by
    unfold storeJob
    split
    · rfl
    · split <;> rfl
    · split <;> rfl
    · rfl
    · rfl
  have hcen : (fun s : State => (s.nvm.stores, storeView s)) (cenInc 7 (storeJob j s)) = ((storeJob j s).nvm.stores, storeView (storeJob j s)) := by
    rw [cenInc_fields (by decide)]
    rfl
  generalize storeJob j s = u at hstores hcen ⊢
  generalize cenInc 7 u = v at hcen ⊢
  simp only [Prod.mk.injEq] at hcen
  obtain ⟨hv1, hv2⟩ := hcen
  have hend : (fun s : State => (s.nvm, s.resetDue, s.claimed)) (endLong 0 (storeClosed v)) = ((storeClosed v).nvm, v.resetDue, v.claimed) :=
    endLong_frame (π := fun s : State => (s.nvm, s.resetDue, s.claimed)) (fun _ _ => rfl) (fun _ _ => rfl) (fun _ _ => rfl) 0 _ rfl
  generalize endLong 0 (storeClosed v) = t at hend ⊢
  simp only [Prod.mk.injEq] at hend
  obtain ⟨h1, h2, h3⟩ := hend
  dsimp only
  rw [← hv2, storeView, h1, h2, h3]
  exact ⟨rfl, rfl, by rw [← hstores, ← hv1]; rfl, rfl⟩
end Store

/-- Settles O53: losses by the wipe they are, start-up by what the boot ROM finds, and a finished store by the copy it writes. -/
theorem powerResetAndStart : Obligations.PowerResetAndStart := by
  unfold Obligations.PowerResetAndStart
  intro c st x b s hs
  dsimp only
  refine ⟨vinUvlo_of_off, vinUvlo_of_on, fun h hv => ?_, vinPowerOn_of_not, fun h hv => ?_, ovloRestart_of_not,
    fun h hd => resetLAssert_of_powered h hd, resetLAssert_of_not, fun h => congrArg Host.Outcome.next (if_pos h),
    fun h => congrArg Host.Outcome.next (if_neg h), fun h => congrArg Host.Outcome.next (if_pos h),
    fun h => congrArg Host.Outcome.next (if_neg h), bootFwSelect_of_not, fun hr hm ho => bootFwSelect_sealed hr.1 hr.2 hm ho,
    fun f hr hm ho hf => ?_, fun hr hm ho hf => bootFwSelect_quarantines hs hr.1 hr.2 hm ho hf, fun u v ha hb => bootBank_of_two ha hb,
    fwStart_of_boot, fwStart_of_not, bootStarterLoad_of_not, fun m y l hm hst hc => ⟨bootStarterLoad_closed hm hst hc,
      fun hl hok => bootStarterLoad_refused hm hst hc hl (by rw [hok, Bool.and_false]), fun hl => bootStarterLoad_refused hm hst hc hl rfl,
      fun hl hok hg => bootStarterLoad_taken hm hst hc hl hok hg⟩, fun hp hr => pcie_counted ⟨hp, hr⟩, pcie_silent, storeComplete_of_idle,
    fun j h => ?_⟩
  case _ =>
    obtain ⟨h1, -, h3, h4⟩ := startSupply_lost s
    exact ⟨_, vinPowerOn_of_off h hv, h1, h3, h4⟩
  case _ =>
    obtain ⟨h1, h2, h3, -⟩ := startSupply_lost s
    exact ⟨_, ovloRestart_of_stopped h hv, h1, h2, h3⟩
  case _ =>
    obtain ⟨t, ht, h1, h2, h3, h4, h5⟩ := bootFwSelect_boots hr.1 hr.2 hm ho hf
    refine ⟨t, ht, h1, h2, h3, h4, ?_⟩
    rw [h5, modeRecord, hm]
    rfl
  case _ =>
    obtain ⟨t, ht, h1, h2, h3, hview⟩ := storeComplete_spec h
    simp only [storeView, Prod.mk.injEq] at hview
    obtain ⟨v1, v2, v3, v4, v5, v6, v7, v8⟩ := hview
    refine ⟨t, ht, h1, h2, h3, ?_, ?_, ?_, ?_, ?_⟩
    · rintro y rfl
      rw [v1, v2, v4]
      exact ⟨newCopy_store _ y, rfl, rfl⟩
    · rintro f rfl
      rw [v1, v4, v5]
      exact ⟨newCopy_store _ f, rfl, rfl⟩
    · rintro l rfl
      rw [v1, v4, v6]
      exact ⟨newCopy_store _ l, rfl, rfl⟩
    · rintro r rfl
      rw [v1, v4, v7, v8]
      exact ⟨newCopy_store _ r, rfl, rfl, rfl⟩
    · rintro im rfl
      rw [v1, v2, v3]
      unfold storeJob
      dsimp only
      refine ⟨?_, fun v hv => ?_, fun v hv => ?_⟩
      · split <;> rfl
      · rw [hv]
        exact ⟨rfl, rfl⟩
      · rw [hv]
        exact ⟨rfl, rfl⟩

end Sys2Proof.Machine
end

section
/-! PROOFS. O14: STOREs start, or are refused (R437, R441, R442, R457, R459, R461, R463). -/

namespace Sys2Proof.Machine

/-! ### Hub-only instructions of a batch -/

/-- The NVM changes alike before and after the bookkeeping of an issue. -/
theorem ranOn.putNvm {s t : State} {e : Nat} {E : Engine} (h : ranOn s t e E) (n : Nvm) :
    ranOn (s.putNvm n) (t.putNvm n) e E := by
  obtain ⟨heng, hothers, hcw, ht⟩ := h
  refine ⟨heng, hothers, hcw, ?_⟩
  rw [ht]
  rfl

/-- The wait of a batch changes alike before and after the bookkeeping of an issue. -/
theorem ranOn.putLong {s t : State} {e : Nat} {E : Engine} (h : ranOn s t e E) (l : Option (LongOp × Nat)) :
    ranOn (s.putLong l) (t.putLong l) e E := by
  obtain ⟨heng, hothers, hcw, ht⟩ := h
  refine ⟨heng, hothers, hcw, ?_⟩
  rw [ht]
  rfl

theorem sameRun_waits {E F : Engine} (h : sameRun E F) :
    sameRun { E with running := .waits } { F with running := .waits } := by
  unfold sameRun at h ⊢
  rw [h]

section
variable {s o : State} {i : IssA} (ho : opened s o i)
include ho

theorem opened_unlocked : o.sec.unlocked = s.sec.unlocked :=
  opened_blind (π := fun s => s.sec.unlocked) ho (fun _ _ => rfl) (fun _ _ => rfl) fun _ _ => rfl

theorem opened_nvm : o.nvm = s.nvm :=
  opened_blind (π := State.nvm) ho (fun _ _ => rfl) (fun _ _ => rfl) fun _ _ => rfl

theorem opened_tickCount : tickCount o = tickCount s :=
  opened_blind (π := tickCount) ho (fun _ _ => rfl) (fun _ _ => rfl) fun _ _ => rfl

theorem opened_scratchLines (a n : Nat) : scratchLines o a n = scratchLines s a n :=
  opened_blind (π := fun s => scratchLines s a n) ho (fun _ _ => rfl) (fun _ _ => rfl) fun _ _ => rfl

theorem opened_floors : floors o = floors s :=
  opened_blind (π := floors) ho (fun _ _ => rfl) (fun _ _ => rfl) fun _ _ => rfl

end

theorem hubTakes_iff {s : State} {i : IssA} :
    hubTakes s i = true ↔ i.eng.val = 64 ∧ inBatch s 64 = true ∧ takesEffect s (issueOfA i) = true := by
  simp [hubTakes, and_assoc]

theorem lineBytes_head {ls : List (BitVec 288)} (h : lineBytes ls 0 8 = [1, 1, 0, 0, 0, 0, 0, 0]) :
    lineByte ls 0 = 1 ∧ lineByte ls 1 = 1 ∧ lineBytes ls 2 6 = List.replicate 6 0 := by
  have hmap : [lineByte ls 0, lineByte ls 1] ++ lineBytes ls 2 6 = [1, 1] ++ List.replicate 6 0 := h
  obtain ⟨htwo, hsix⟩ := List.append_inj hmap rfl
  injection htwo with h0 htwo
  injection htwo with h1
  exact ⟨h0, h1, hsix⟩

section Hub
variable {s : State} {i : IssA} (hh : hubTakes s i = true)
include hh

theorem hubTakes_running : (engGet s 64).running ≠ .idle := by
  obtain ⟨h64, -, ht⟩ := hubTakes_iff.mp hh
  exact h64 ▸ takes_running (i := issueOfA i) ht

/-- A hub-only instruction does what its body does on the opened slot. -/
theorem issueHub_does {u : Use} {body f : State → State} (hb : ∀ o, opened s o i → body o = f o) :
    ∃ o, opened s o i ∧ (.next (issueHub i u body s) : Result) = .next (f o) := by
  obtain ⟨h64, hb64, ht⟩ := hubTakes_iff.mp hh
  have hissue : issueHub i u body s = issue (issueOfA i) u body s := if_pos (by simp [h64, hb64])
  rw [hissue]
  exact issueA_does ht hb

theorem opened_operand64 {o : State} (ho : opened s o i) (g : Reg) : operand o 64 g.val = source s (issueOfA i) g := by
  obtain ⟨h64, -⟩ := hubTakes_iff.mp hh
  rw [← opened_operand ho, h64]

theorem opened_ran64 {o : State} (ho : opened s o i) : ranOn s o 64 (engGet s 64) := by
  obtain ⟨h64, -⟩ := hubTakes_iff.mp hh
  exact h64 ▸ ho.1

/-- A hub-only instruction whose body ends in a status, the NVM as `n` says. -/
theorem issueHub_status {u : Use} {body : State → State} {gD : Reg} {st : Nat} {n : Nvm}
    (hb : ∀ o, opened s o i → body o = status gD.val st (o.putNvm n)) :
    hubStatus (s.putNvm n) (.next (issueHub i u body s)) gD st := by
  obtain ⟨o, ho, h⟩ := issueHub_does (u := u) hh hb
  exact ⟨_, h, (ran_setReg ((opened_ran64 hh ho).putNvm n) (hubTakes_running hh)).1⟩

/-- A hub-only instruction whose body leaves the batch waiting, the NVM as `n` says. -/
theorem issueHub_waits {u : Use} {body : State → State} {gD : Reg} {op : LongOp} {n : Nvm}
    (hb : ∀ o, opened s o i → body o = waitAt op gD.val (o.putNvm n)) :
    hubWaits (s.putNvm n) (.next (issueHub i u body s)) op gD := by
  obtain ⟨o, ho, h⟩ := issueHub_does (u := u) hh hb
  have hran := ((opened_ran64 hh ho).putNvm n).putLong (some (op, gD.val))
  exact ⟨_, h, ranOn_engPut hran (F := { engGet (o.putNvm n) 64 with running := .waits }) (by simp)
    (sameRun_waits hran.1)⟩

/-! ### The common part of STORE (R457, R461) -/

section Store
variable {target : Nat} {gD gA gB : Reg} {job : State → List (BitVec 288) → Except Nat StoreJob}

theorem execStore_unlocked (hu : s.sec.unlocked = true) : hubStatus s (execStore target i gD gA gB job s) gD 0x04 :=
  issueHub_status hh (n := s.nvm) fun o ho => by
    have hput : o.putNvm s.nvm = o := by rw [← opened_nvm ho]; rfl
    rw [hput]
    exact if_pos ((opened_unlocked ho).trans hu)

/-- Within its interval a STORE is refused with result 1. -/
theorem execStore_early (hu : s.sec.unlocked = false) (he : tickCount s < tabGet 0 s.nvm.lastAt target) :
    hubStatus { s with nvm := { s.nvm with target := target, result := 1 } } (execStore target i gD gA gB job s) gD 0x58 :=
  issueHub_status hh (n := { s.nvm with target := target, result := 1 }) fun o ho => by
    have hearly : tickCount o < tabGet 0 o.nvm.lastAt target := by rwa [opened_tickCount ho, opened_nvm ho]
    dsimp only
    rw [opened_unlocked ho, hu, if_neg Bool.false_ne_true, if_pos hearly, ← opened_nvm ho]
    rfl

/-- The lines that a STORE of a target reads. -/
def storeLines (s : State) (i : IssA) (target : Nat) (gA gB : Reg) : List (BitVec 288) :=
  if target = 0 then [] else scratchLines s (source s (issueOfA i) gA).toNat (source s (issueOfA i) gB).toNat

/-- A STORE is due: debug is locked, its interval has passed, and its lines lie in the window. -/
structure StoreDue (s : State) (i : IssA) (target : Nat) (gA gB : Reg) : Prop where
  locked : s.sec.unlocked = false
  interval : tabGet 0 s.nvm.lastAt target ≤ tickCount s
  window : target = 0 ∨ 1 ≤ (source s (issueOfA i) gB).toNat ∧
    inWindow (source s (issueOfA i) gA).toNat (source s (issueOfA i) gB).toNat = true

section Due
variable (hd : StoreDue s i target gA gB)
include hd

/-- A STORE that is due does what its target makes of the lines. -/
theorem execStore_due : ∃ body u, execStore target i gD gA gB job s = .next (issueHub i u body s) ∧
    ∀ o, opened s o i → body o = match job o (storeLines s i target gA gB) with
      | .error st => refuseStore target gD.val st o
      | .ok j => waitAt .store gD.val (o.putNvm { o.nvm with busy := some j, target := target }) := by
  refine ⟨_, _, rfl, fun o ho => ?_⟩
  obtain ⟨hlocked, hinterval, hwindow⟩ := hd
  have hlate : ¬ tickCount o < tabGet 0 o.nvm.lastAt target := by
    rw [opened_tickCount ho, opened_nvm ho]
    exact Nat.not_lt.mpr hinterval
  have hin : ¬ (target ≠ 0 && !(1 ≤ (source s (issueOfA i) gB).toNat &&
      inWindow (source s (issueOfA i) gA).toNat (source s (issueOfA i) gB).toNat)) = true := by
    rcases hwindow with h0 | ⟨h1, hw⟩
    · simp [h0]
    · simp [h1, hw]
  dsimp only
  rw [opened_unlocked ho, hlocked, if_neg Bool.false_ne_true, if_neg hlate, opened_operand64 hh ho,
    opened_operand64 hh ho, opened_scratchLines ho, if_neg hin] <;> rfl

theorem execStore_starts {j : StoreJob} (hj : ∀ o, opened s o i → job o (storeLines s i target gA gB) = .ok j) :
    hubWaits (storing s j target) (execStore target i gD gA gB job s) .store gD := by
  obtain ⟨body, u, hexec, hbody⟩ := execStore_due (gD := gD) (job := job) hh hd
  rw [hexec]
  exact issueHub_waits hh (n := { s.nvm with busy := some j, target := target }) fun o ho => by
    rw [hbody o ho, hj o ho, opened_nvm ho]

/-- A STORE whose signature block fails is refused with result 2. -/
theorem execStore_unsigned (hj : ∀ o, opened s o i → job o (storeLines s i target gA gB) = .error St.storeAuth) :
    hubStatus { s with nvm := { s.nvm with target := target, result := 2 } } (execStore target i gD gA gB job s) gD
      0x59 := by
  obtain ⟨body, u, hexec, hbody⟩ := execStore_due (gD := gD) (job := job) hh hd
  rw [hexec]
  exact issueHub_status hh (n := { s.nvm with target := target, result := 2 }) fun o ho => by
    rw [hbody o ho, hj o ho, ← opened_nvm ho]
    rfl

end Due

/-! ### The five targets -/

section Targets
variable {sigOk bindOk : Bool} {ls : List (BitVec 288)}

theorem execStoreStarter_starts {b : BatchRun} {st : Starter} (hd : StoreDue s i 0 gA gB) (hb : s.batch = some b)
    (hsealed : b.sealed = true) (hst : s.sec.sealed = some st) :
    hubWaits (storing s (.starter st) 0) (execStoreStarter i gD gA gB s) .store gD :=
  execStore_starts hh hd fun o ho => by
    have hbatch : o.batch = some b :=
      (opened_blind (π := State.batch) ho (fun _ _ => rfl) (fun _ _ => rfl) fun _ _ => rfl).trans hb
    have hseal : o.sec.sealed = some st :=
      (opened_blind (π := fun s => s.sec.sealed) ho (fun _ _ => rfl) (fun _ _ => rfl) fun _ _ => rfl).trans hst
    rw [hbatch, hseal]
    exact if_pos hsealed

theorem execStoreFw_starts (hd : StoreDue s i 1 gA gB) (hls : storeLines s i 1 gA gB = ls) (hsig : sigOk = true)
    (hform : firmwareOk ls = true) (hsvn : (floors s).fw ≤ lineNat ls 2 2) :
    hubWaits (storing s (.fw { svn := lineNat ls 2 2, lines := ls, valid := true }) 1)
      (execStoreFw i gD gA gB sigOk s) .store gD :=
  execStore_starts hh hd fun o ho => by
    rw [opened_floors ho, hls, hsig, hform, if_neg (by decide), if_neg (by simpa using hsvn)]

/-- The job of an owner document. -/
def ownerJob (ls : List (BitVec 288)) : StoreJob :=
  .owner (lineByte ls 0)
    { seq := lineNat ls 8 8, key := if lineByte ls 0 = 3 then none else some (lineBytes ls 64 96) }

theorem execStoreOwner_starts (hd : StoreDue s i 2 gA gB) (hls : storeLines s i 2 gA gB = ls) (hsig : sigOk = true)
    (hdoc : ownerDocOk ls = true) (hright : claimOk s bindOk ls = true ∨ transferOk s ls = true) :
    hubWaits (storing s (ownerJob ls) 2) (execStoreOwner i gD gA gB sigOk bindOk s) .store gD :=
  execStore_starts hh hd fun o ho => by
    have hclaim : claimOk o bindOk ls = claimOk s bindOk ls :=
      opened_blind (π := fun s => claimOk s bindOk ls) ho (fun _ _ => rfl) (fun _ _ => rfl) fun _ _ => rfl
    have htransfer : transferOk o ls = transferOk s ls :=
      opened_blind (π := fun s => transferOk s ls) ho (fun _ _ => rfl) (fun _ _ => rfl) fun _ _ => rfl
    rw [hls, hclaim, htransfer, hsig, hdoc, if_neg (by decide), if_pos (by simpa using hright)]
    rfl

theorem execStoreOwner_unsigned (hd : StoreDue s i 2 gA gB) (hsig : sigOk = false) :
    hubStatus { s with nvm := { s.nvm with target := 2, result := 2 } } (execStoreOwner i gD gA gB sigOk bindOk s) gD
      0x59 :=
  execStore_unsigned hh hd fun o ho => if_pos (by rw [hsig]; rfl)

theorem execStoreFloors_starts (hd : StoreDue s i 3 gA gB) (hls : storeLines s i 3 gA gB = ls) (hlen : ls.length = 1)
    (hpin : fld (lineWord ls 0) 1 0 ≠ 3) (hfw : (floors s).fw = fld (lineWord ls 0) 35 20)
    (hloaf : (floors s).loaf = (lineWord ls 1).toNat) :
    hubWaits (storing s (.floors { fw := (floors s).fw, pin := fld (lineWord ls 0) 1 0, loaf := (floors s).loaf }) 3)
      (execStoreFloors i gD gA gB s) .store gD :=
  execStore_starts hh hd fun o ho => by
    dsimp only
    rw [opened_floors ho, hls, ← hfw, ← hloaf, if_neg (by simp [hlen, hpin])]

theorem execStorePair_starts (hd : StoreDue s i 4 gA gB) (hls : storeLines s i 4 gA gB = ls) (hsig : sigOk = true)
    (hlen : ls.length = 11) (hhead : lineBytes ls 0 8 = [1, 1, 0, 0, 0, 0, 0, 0])
    (hpad : lineBytes ls 200 16 = List.replicate 16 0)
    (hid : BitVec.ofNat 768 (lineNat ls (if s.straps.seat = 0 then 8 else 104) 96) = Config.identityKey) :
    hubWaits (storing s (.pair ls) 4) (execStorePair i gD gA gB sigOk s) .store gD :=
  execStore_starts hh hd fun o ho => by
    have hstraps : o.straps = s.straps :=
      opened_blind (π := State.straps) ho (fun _ _ => rfl) (fun _ _ => rfl) fun _ _ => rfl
    obtain ⟨h0, h1, hsix⟩ := lineBytes_head hhead
    dsimp only
    rw [hls, hstraps, hsig, if_neg (by decide), if_pos (by simp [hid, hlen, h0, h1, hsix, hpad])]

end Targets
end Store
end Hub

/-- Settles O14, by what a STORE that is due makes of its lines on the opened slot. -/
theorem storesStart : Obligations.StoresStart := by
  unfold Obligations.StoresStart
  intro i gD gA gB sigOk bindOk s hh at_ n ls due
  simp only [exec_storeStarter, exec_storeFw, exec_storeOwner, exec_storeFloors, exec_storePair]
  have hunlocked {target : Nat} {job} (hu : s.sec.unlocked = true) :=
    execStore_unlocked (target := target) (gD := gD) (gA := gA) (gB := gB) (job := job) hh hu
  refine ⟨fun hu => ⟨hunlocked hu, hunlocked hu, hunlocked hu, hunlocked hu, hunlocked hu⟩, execStore_early hh, ?_, ?_⟩
  · intro b st hdue hb hsealed hst
    obtain ⟨hlocked, hinterval⟩ := hdue
    exact execStoreStarter_starts hh ⟨hlocked, hinterval, .inl rfl⟩ hb hsealed hst
  · intro hn hlo hhi
    have hin : inWindow at_ n = true := by simp [inWindow, hlo, hhi]
    have hdue {target : Nat} (h : due target) : StoreDue s i target gA gB := ⟨h.1, h.2, .inr ⟨hn, hin⟩⟩
    have hlen : ls.length = n := (List.length_map ..).trans List.length_range
    exact ⟨fun h hsig hform hsvn => execStoreFw_starts hh (hdue h) rfl hsig hform hsvn,
      fun h hsig hdoc hright => execStoreOwner_starts hh (hdue h) rfl hsig hdoc hright,
      fun h hsig => execStoreOwner_unsigned hh (hdue h) hsig,
      fun h hone hpin hfw hloaf => execStoreFloors_starts hh (hdue h) rfl (hlen.trans hone) hpin hfw hloaf,
      fun h hsig heleven hhead hpad hid =>
        execStorePair_starts hh (hdue h) rfl hsig (hlen.trans heleven) hhead hpad hid⟩

end Sys2Proof.Machine
end

section
/-! PROOFS. O55: the guest port, boundary scan and the debug port (R453, R456, R457, R489 to R493). -/

namespace Sys2Proof.Machine

/-! ### Transactions of the guest port (R489) -/

theorem guestUp_iff {s : State} : guestUp s = true ↔ powered s = true ∧ domRuns s 48 = true := by
  simp [guestUp]

section Io
variable {s : State} {cmd params n : Nat} {io : GuestIo} {bs : List (Fin 256)} {take : List Nat → State → State}
  {give : Nat → State → State}

theorem guestIo_down (hup : ¬ guestUp s = true) : guestIo cmd params io take give s = .next s :=
  congrArg Host.Outcome.next (if_pos (by simpa using hup))

section Up
variable (hup : guestUp s = true)
include hup

theorem guestIo_write (hlen : bs.length = params) : guestIo cmd params (.write bs) take give s =
    .next (take (bs.map (·.val)) (guestPut { s.guest with cmd := cmd } s)) :=
  congrArg Host.Outcome.next ((if_neg (by simp [hup])).trans (if_pos hlen))

theorem guestIo_wrongLength (hlen : bs.length ≠ params) :
    guestIo cmd params (.write bs) take give s = .next (emit .guestNak s) :=
  congrArg Host.Outcome.next ((if_neg (by simp [hup])).trans (if_neg hlen))

theorem guestIo_read (hcmd : s.guest.cmd = cmd) : guestIo cmd params (.read n) take give s = .next (give n s) :=
  congrArg Host.Outcome.next ((if_neg (by simp [hup])).trans (if_pos hcmd))

theorem guestIo_stale (hcmd : s.guest.cmd ≠ cmd) : guestIo cmd params (.read n) take give s = .next s :=
  congrArg Host.Outcome.next ((if_neg (by simp [hup])).trans (if_neg hcmd))

end Up
end Io

/-! ### GUEST_ADDR, GUEST_ATT_NONCE and the report (R490, R491) -/

theorem guestWords_marked {s : State} {a : Nat} (h : guestMay s (a % 2 ^ 24) = true) :
    guestWords a 1 s = (leBytes 5 (guestWord s (a % 2 ^ 24)).toNat, s) := by
  simp only [guestWords, h, if_true, List.append_nil]

theorem guestWords_unmarked {s : State} {a : Nat} (h : guestMay s (a % 2 ^ 24) = false) :
    guestWords a 1 s = (leBytes 5 0, violation 5 68 (a % 2 ^ 24) s) := by
  simp only [guestWords, h, Bool.false_eq_true, if_false, List.append_nil]

/-- What a violation leaves for the guest port. -/
def portView (s : State) : Guest × Straps := (s.guest, s.straps)

theorem violation_portView (kind source a : Nat) (s : State) : portView (violation kind source a s) = portView s := by
  apply violation_frame (π := portView) (hk := rfl) <;> exact fun _ _ => rfl

theorem mem_violated (kind source a : Nat) (s : State) : kind ∈ (violation kind source a s).violated := by
  have hcount : (cenInc (56 + kind) s).violated = s.violated := by
    apply cenInc_frame (π := State.violated) (hk := rfl) <;> exact fun _ _ => rfl
  unfold violation
  dsimp only
  split
  next h => exact h
  next h =>
    have hkept : ∀ u : State, (record0 0x1C (violCauser kind source) (mkWord [(33, kind), (26, source), (2, a)]) u).violated =
        u.violated := fun u => by
      apply record0_frame (π := State.violated) (hk := rfl) <;> exact fun _ _ => rfl
    rw [hkept]
    exact List.mem_cons_self

section Port
variable {s : State} (hup : guestUp s = true)
include hup

theorem guestAddr_written (x y z : Fin 256) : exec (.guestAddr (.write [x, y, z])) s = .next (guestPut { s.guest with
    cmd := 1, addr := x.val + 256 * y.val + 65536 * z.val } s) := by
  have haddr : leNat [x.val, y.val, z.val] = x.val + 256 * y.val + 65536 * z.val := by
    simp only [leNat, List.foldr_cons, List.foldr_nil]
    omega
  rw [exec_guestAddr, execGuestAddr, guestIo_write (params := 3) hup rfl, ← haddr]
  rfl

theorem guestAttOff_written (x y : Fin 256) : exec (.guestAttOff (.write [x, y])) s =
    .next (guestPut { s.guest with cmd := 0x12, off := x.val + 256 * y.val } s) := by
  rw [exec_guestAttOff, execGuestAttOff, guestIo_write (params := 2) hup rfl]
  rfl

theorem guestAttNonce_refused {bs : List (Fin 256)} (hlen : bs.length = 32) (hsoon : tickCount s < s.guest.lastAt) :
    exec (.guestAttNonce (.write bs)) s = .next (guestPut { s.guest with cmd := 0x10, stat := 3 } s) := by
  rw [exec_guestAttNonce, execGuestAttNonce, guestIo_write hup hlen]
  exact congrArg Host.Outcome.next (if_pos hsoon)

theorem guestAttNonce_taken {bs : List (Fin 256)} (hlen : bs.length = 32) (hlate : s.guest.lastAt ≤ tickCount s) :
    exec (.guestAttNonce (.write bs)) s = .next (guestPut { s.guest with
      cmd := 0x10, stat := 1, report := [], nonce := bs.map (·.val), lastAt := tickCount s + 8000 } s) := by
  rw [exec_guestAttNonce, execGuestAttNonce, guestIo_write hup hlen]
  exact congrArg Host.Outcome.next (if_neg (Nat.not_lt.mpr hlate))

theorem guestAttStat_parameters {bs : List (Fin 256)} (h : bs ≠ []) :
    exec (.guestAttStat (.write bs)) s = .next (emit .guestNak s) := by
  rw [exec_guestAttStat, execGuestAttStat]
  exact guestIo_wrongLength hup (mt List.length_eq_zero_iff.mp h)

theorem guestAddr_wrongLength {bs : List (Fin 256)} (h : bs.length ≠ 3) :
    exec (.guestAddr (.write bs)) s = .next (emit .guestNak s) := by
  rw [exec_guestAddr, execGuestAddr, guestIo_wrongLength hup h]

theorem guestAttNonce_wrongLength {bs : List (Fin 256)} (h : bs.length ≠ 32) :
    exec (.guestAttNonce (.write bs)) s = .next (emit .guestNak s) := by
  rw [exec_guestAttNonce, execGuestAttNonce, guestIo_wrongLength hup h]

theorem guestAttOff_wrongLength {bs : List (Fin 256)} (h : bs.length ≠ 2) :
    exec (.guestAttOff (.write bs)) s = .next (emit .guestNak s) := by
  rw [exec_guestAttOff, execGuestAttOff, guestIo_wrongLength hup h]

theorem guestAttStat_written : exec (.guestAttStat (.write [])) s = .next (guestPut { s.guest with cmd := 0x11 } s) := by
  rw [exec_guestAttStat, execGuestAttStat, guestIo_write (params := 0) hup rfl]

theorem guestAttStat_read (hcmd : s.guest.cmd = 0x11) :
    exec (.guestAttStat (.read 1)) s = .next (guestReply [s.guest.stat] s) := by
  rw [exec_guestAttStat, execGuestAttStat, guestIo_read hup hcmd]
  rfl

theorem guestAttOff_read {m : Nat} (hcmd : s.guest.cmd = 0x12) : exec (.guestAttOff (.read m)) s =
    .next (guestReply ((List.range m).map fun i => s.guest.report.getD (s.guest.off + i) 0) s) := by
  rw [exec_guestAttOff, execGuestAttOff, guestIo_read hup hcmd]

theorem guestAttOff_stale {m : Nat} (hcmd : s.guest.cmd ≠ 0x12) : exec (.guestAttOff (.read m)) s = .next s := by
  rw [exec_guestAttOff, execGuestAttOff, guestIo_stale hup hcmd]

/-- GUEST_ADDR reads one word. -/
theorem guestAddr_read (hcmd : s.guest.cmd = 1) : exec (.guestAddr (.read 5)) s =
    .next (guestReply ((guestWords s.guest.addr 1 s).1.take 5)
      (guestPut { (guestWords s.guest.addr 1 s).2.guest with addr := (s.guest.addr + 1) % 2 ^ 24 }
        (guestWords s.guest.addr 1 s).2)) := by
  rw [exec_guestAddr, execGuestAddr, guestIo_read hup hcmd]
  rfl

theorem guestAddr_marked (hcmd : s.guest.cmd = 1) (hmay : guestMay s (s.guest.addr % 2 ^ 24) = true) :
    exec (.guestAddr (.read 5)) s = .next (guestReply (leBytes 5 (guestWord s (s.guest.addr % 2 ^ 24)).toNat)
      (guestPut { s.guest with addr := (s.guest.addr + 1) % 2 ^ 24 } s)) := by
  rw [guestAddr_read hup hcmd, guestWords_marked hmay]
  rfl

theorem guestAddr_unmarked (hcmd : s.guest.cmd = 1) (hmay : guestMay s (s.guest.addr % 2 ^ 24) = false) :
    reaches (exec (.guestAddr (.read 5)) s) fun t =>
      t.guest = { s.guest with addr := (s.guest.addr + 1) % 2 ^ 24 } ∧ 5 ∈ t.violated ∧
      t.out.head? = some (.guest ([0, 0, 0, 0, 0] ++ [checkOf 3 [guestReadByte s, 0, 0, 0, 0, 0]])) := by
  rw [guestAddr_read hup hcmd, guestWords_unmarked hmay]
  have hview := violation_portView 5 68 (s.guest.addr % 2 ^ 24) s
  have hmem := mem_violated 5 68 (s.guest.addr % 2 ^ 24) s
  generalize violation 5 68 (s.guest.addr % 2 ^ 24) s = t at hview hmem
  simp only [portView, Prod.mk.injEq] at hview
  obtain ⟨hguest, hstraps⟩ := hview
  rw [hguest, guestReadByte, ← hstraps]
  exact ⟨_, rfl, rfl, hmem, rfl⟩

end Port

theorem sigBlock_length {kind : Nat} {keyId rs : List Nat} :
    (sigBlock kind keyId rs).length = 36 + keyId.length + rs.length := by
  simp only [sigBlock, List.length_append, List.length_cons, List.length_replicate]
  omega

/-- A report with its signature block has 540 octets (R453). -/
theorem report_length (guest : Bool) (nonce : List Nat) (s : State) : (report guest nonce s).length = 540 := by
  simp only [report, List.length_append, List.length_map, List.length_range, sigBlock_length, digestBytes, freeBytes]

theorem attestComplete_reports {s : State} (h : s.guest.stat = 1) : reaches (exec .attestComplete s) fun t =>
    t.guest = { s.guest with stat := 2, report := t.guest.report } ∧ t.guest.report.length = 540 ∧
      t = { s with guest := t.guest, freeUses := t.freeUses } :=
  ⟨_, congrArg Host.Outcome.next (if_pos h), rfl, report_length true s.guest.nonce s, rfl⟩

/-! ### Debug tokens (R456, R457) -/

/-- What an accepted token takes away or keeps, the sessions and the link apart. -/
def debugView (s : State) : Sec × Starter × Starter × Mode := (s.sec, s.bank, s.spare, s.mode)

theorem blindDomains_debugView : BlindDomains debugView := by constructor <;> exact fun _ _ => rfl
theorem blindDomains_link : BlindDomains State.link := by constructor <;> exact fun _ _ => rfl
theorem blindDomains_sess : BlindDomains State.sess := by constructor <;> exact fun _ _ => rfl

/-- The starters gone as a token is accepted. -/
def startersGone (s : State) : State := ((s.putJtag { s.jtag with ir := 0x11 }).putBank {}).putSpare {}

/-- A package that an accepted token finds, its starters gone and its sessions ended. -/
def tokenErased (s : State) : State := endSessions true (startersGone s)

/-- Debug is unlocked in a scope, keys and the sealed starter gone. -/
def unlockedSec (scope : Nat) (c : Sec) : Sec := { c with slots := 0, sealed := none, unlocked := true, scope := scope }

theorem debugView_endSessions (hard : Bool) (s : State) : debugView (endSessions hard s) = debugView s := by
  apply endSessions_frame (π := debugView) (hk := rfl) <;> exact fun _ _ => rfl

theorem debugView_tokenErased (s : State) : debugView (tokenErased s) = (s.sec, {}, {}, s.mode) := by
  rw [tokenErased, debugView_endSessions]
  simp [debugView, startersGone]

theorem sessGet_tokenErased {s : State} (hs : tabWf (fun _ => ({} : Session)) s.sess = true) {q : Nat} (hq : q < 4) :
    sessGet (tokenErased s) q = {} := by
  have hgone : tabWf (fun _ => ({} : Session)) (startersGone s).sess = true := by simpa [startersGone] using hs
  rw [tokenErased]
  exact sessGet_endSessions hgone true hq

/-- The link goes down and the domains take the states due to them. -/
def linkDropped (s : State) : State := retarget 2 (fun _ => false) (linkLeave .down 0 s)

theorem linkDropped_spec (s : State) :
    debugView (linkDropped s) = debugView s ∧ (linkDropped s).sess = s.sess ∧ (linkDropped s).link.st = .down := by
  have hdebug : debugView (linkLeave .down 0 s) = debugView s := by
    apply linkLeave_frame (π := debugView) (hk := rfl) <;> exact fun _ _ => rfl
  have hsess : (linkLeave .down 0 s).sess = s.sess := by
    apply linkLeave_frame (π := State.sess) (hk := rfl) <;> exact fun _ _ => rfl
  have hlink := linkLeave_st .down 0 s
  unfold linkDropped
  generalize linkLeave .down 0 s = u at hdebug hsess hlink
  exact ⟨retarget_frame blindDomains_debugView _ _ _ hdebug, retarget_frame blindDomains_sess _ _ _ hsess,
    (congrArg Polfen.st (retarget_frame blindDomains_link _ _ u rfl)).trans hlink⟩

section Token
variable {s : State} {ls : List (BitVec 288)} (hp : powered s = true)
include hp

theorem dbgToken_unlocks (hmode : s.mode = .test ∨ s.mode = .quarantine) (hown : (ownerKey s).isSome = true)
    (hbody : tokenBodyOk s ls = true) : exec (.dbgToken ls true) s = .next
      (linkDropped ((tokenErased s).putSec (unlockedSec (lineByte ls 2) (tokenErased s).sec))) :=
  congrArg Host.Outcome.next ((if_neg (by simp [hp])).trans (if_pos (by
    show ((s.mode == .test || s.mode == .quarantine) && true && (ownerKey s).isSome && tokenBodyOk s ls) = true
    rcases hmode with h | h <;> simp [h, hown, hbody])))

/-- An accepted token unlocks and erases. -/
theorem dbgToken_accepted (hs : tabWf (fun _ => ({} : Session)) s.sess = true)
    (hmode : s.mode = .test ∨ s.mode = .quarantine) (hown : (ownerKey s).isSome = true)
    (hbody : tokenBodyOk s ls = true) : reaches (exec (.dbgToken ls true) s) fun t => t.sec.unlocked = true ∧
      t.sec.scope = lineByte ls 2 ∧ t.sec.slots = 0 ∧ t.sec.sealed = none ∧ t.bank = {} ∧ t.spare = {} ∧
      t.link.st = .down ∧ (∀ q, q < 4 → sessGet t q = {}) ∧ t.mode = s.mode := by
  refine ⟨_, dbgToken_unlocks hp hmode hown hbody, ?_⟩
  have hview := debugView_tokenErased s
  have hended : ∀ q, q < 4 → sessGet (tokenErased s) q = {} := fun q hq => sessGet_tokenErased hs hq
  generalize tokenErased s = u at hview hended
  simp only [debugView, Prod.mk.injEq] at hview
  obtain ⟨-, hbank, hspare, hm⟩ := hview
  obtain ⟨hdebug, hsess, hlink⟩ := linkDropped_spec (u.putSec (unlockedSec (lineByte ls 2) u.sec))
  generalize linkDropped (u.putSec (unlockedSec (lineByte ls 2) u.sec)) = t at hdebug hsess hlink
  simp only [debugView, Prod.mk.injEq] at hdebug
  obtain ⟨hsec, hb, hsp, hkept⟩ := hdebug
  refine ⟨by rw [hsec]; rfl, by rw [hsec]; rfl, by rw [hsec]; rfl, by rw [hsec]; rfl, hb.trans hbank, hsp.trans hspare,
    hlink, fun q hq => ?_, hkept.trans hm⟩
  rw [sessGet, hsess]
  exact hended q hq

/-- A rejected token is a violation; the nonce alone changes. -/
theorem dbgToken_rejected (hbad : s.mode ≠ .test ∧ s.mode ≠ .quarantine ∨ tokenBodyOk s ls = false) :
    reaches (exec (.dbgToken ls true) s) fun t => t.sec.unlocked = s.sec.unlocked ∧ t.sec.slots = s.sec.slots ∧
      t.bank = s.bank ∧ 6 ∈ t.violated ∧ t.mode = s.mode := by
  have hrejected : ¬ ((s.mode == .test || s.mode == .quarantine) && true && (ownerKey s).isSome && tokenBodyOk s ls) = true := by
    rcases hbad with ⟨ht, hq⟩ | h
    · simp [ht, hq]
    · simp [h]
  refine ⟨_, congrArg Host.Outcome.next ((if_neg (by simp [hp])).trans (if_neg hrejected)), ?_⟩
  have hview : debugView (violation 6 69 0 (s.putJtag { s.jtag with ir := 0x11 })) = debugView s := by
    apply violation_frame (π := debugView) (hk := rfl) <;> exact fun _ _ => rfl
  have hmem := mem_violated 6 69 0 (s.putJtag { s.jtag with ir := 0x11 })
  dsimp only
  generalize violation 6 69 0 (s.putJtag { s.jtag with ir := 0x11 }) = t at hview hmem
  simp only [debugView, Prod.mk.injEq] at hview
  obtain ⟨hsec, hbank, -, hmode⟩ := hview
  exact ⟨congrArg (·.unlocked) hsec, congrArg (·.slots) hsec, hbank, hmem, hmode⟩

end Token

/-! ### Boundary scan and DBG_NONCE (R456, R492) -/

section Scan
variable {w d : List Bool} {s : State}

theorem jtag_of_off (hoff : s.phase = .off) : ∀ c, c ∈ [Instr.extest w d, .samplePreload w d, .extestPulse w d,
    .extestTrain w d, .bypass d, .dbgNonce] → exec c s = .next s := by
  simp only [List.mem_cons, List.not_mem_nil, or_false, forall_eq_or_imp, forall_eq]
  exact ⟨congrArg Host.Outcome.next (if_pos hoff), congrArg Host.Outcome.next (if_pos hoff),
    congrArg Host.Outcome.next (if_pos hoff), congrArg Host.Outcome.next (if_pos hoff),
    congrArg Host.Outcome.next (if_pos hoff), congrArg Host.Outcome.next (if_pos hoff)⟩

variable (hon : s.phase ≠ .off)
include hon

theorem extest_scans : exec (.extest w d) s = .next (driveLands 0 (scan 0 w d s)) :=
  congrArg Host.Outcome.next (if_neg hon)

theorem samplePreload_scans : exec (.samplePreload w d) s = .next (scan 1 w d s) :=
  congrArg Host.Outcome.next (if_neg hon)

theorem extestPulse_scans : exec (.extestPulse w d) s = .next (driveLands 2 (scan 2 w d s)) :=
  congrArg Host.Outcome.next (if_neg hon)

theorem extestTrain_scans : exec (.extestTrain w d) s = .next (driveLands 3 (scan 3 w d s)) :=
  congrArg Host.Outcome.next (if_neg hon)

theorem bypass_shifts : exec (.bypass d) s =
    .next (emit (.jtag (throughBypass d)) (s.putJtag { s.jtag with ir := 0xFF })) :=
  congrArg Host.Outcome.next (if_neg hon)

theorem dbgNonce_shifts : exec .dbgNonce s =
    .next (emit (.jtag (bitList 256 s.sec.nonce.toNat)) (s.putJtag { s.jtag with ir := 0x10 })) :=
  congrArg Host.Outcome.next (if_neg hon)

end Scan

/-! ### No control word reads the debug port -/

section Jtag
variable {s : State} {j : Jtag}

theorem cwGet_putJtag : cwGet (s.putJtag j) = cwGet s := rfl
theorem mapCfg_putJtag : mapCfg (s.putJtag j) = mapCfg s := rfl

theorem ethSpeed_putJtag : ethSpeed (s.putJtag j) = ethSpeed s := by
  have hcfg : frmCfg (s.putJtag j) = frmCfg s := rfl
  have hlanes : frmLanes (s.putJtag j) = frmLanes s := rfl
  have hrate : commonRate (s.putJtag j) = commonRate s := rfl
  unfold ethSpeed
  rw [hcfg, hlanes, hrate]

theorem portK_putJtag : portK (s.putJtag j) = portK s := by
  have hunit : mapRefUnit (s.putJtag j) = mapRefUnit s := rfl
  have hnum : mapRefNum (s.putJtag j) = mapRefNum s := rfl
  have hserver : serverTs (s.putJtag j) = serverTs s := rfl
  have hrate : sizingRate (s.putJtag j) = sizingRate s := rfl
  have hslots : flexeSlots (s.putJtag j) = flexeSlots s := rfl
  have hgrains : groupGrains (s.putJtag j) = groupGrains s := rfl
  unfold portK
  rw [cwGet_putJtag, mapCfg_putJtag, hunit, hnum, hserver, hrate, hslots, hgrains, ethSpeed_putJtag]

theorem mapSlotWord_putJtag : mapSlotWord (s.putJtag j) = mapSlotWord s := by
  unfold mapSlotWord
  rw [cwGet_putJtag, mapCfg_putJtag, portK_putJtag]

theorem readWord_putJtag (a : Nat) : readWord (s.putJtag j) a = readWord s a := by
  unfold readWord
  rw [mapSlotWord_putJtag]
  rfl

end Jtag

/-! ### DBG_CFG, DBG_TRACE and TRACE_SEL (R492, R493) -/

/-- The scope bit of a debug access. -/
def scopeBit (a : Nat) : Nat := if a = traceSelAddr then 1 else 0

section Debug
variable {write : Bool} {ad : BitVec 24} {v : Word} {ls : List (BitVec 288)} {s : State}

theorem debug_unpowered (hp : powered s = false) : ∀ c, c ∈ [Instr.dbgToken ls true, .dbgCfg true ad v, .dbgTrace] →
    exec c s = .next s := by
  have hno : (!powered s) = true := by rw [hp]; rfl
  simp only [List.mem_cons, List.not_mem_nil, or_false, forall_eq_or_imp, forall_eq]
  exact ⟨congrArg Host.Outcome.next (if_pos hno), congrArg Host.Outcome.next (if_pos hno),
    congrArg Host.Outcome.next (if_pos hno)⟩

theorem traceSel_lands (hopen : debugOpen s 1 = true) (heng : fld v 35 29 ≤ 64) : exec (.traceSel v) s = .next { s with
    jtag := { s.jtag with sel := v &&& 0xFF0000000 }, trace := if v.getLsbD 28 then [] else s.trace } := by
  rw [← bit_eq_getLsbD]
  exact congrArg Host.Outcome.next ((if_pos hopen).trans (if_neg (Nat.not_lt.mpr heng)))

theorem traceSel_without (h : debugOpen s 1 = false ∨ 64 < fld v 35 29) : exec (.traceSel v) s = .next s := by
  refine congrArg Host.Outcome.next ?_
  rcases h with hshut | heng
  · exact if_neg (by simp [hshut])
  · split
    · exact if_pos heng
    · rfl

variable (hp : powered s = true)
include hp

theorem dbgCfg_barred (hshut : debugOpen s (scopeBit ad.toNat) = false) :
    exec (.dbgCfg write ad v) s = .next (debugBarred s) := by
  refine congrArg Host.Outcome.next ((if_neg (by simp [hp])).trans (if_pos ?_))
  show (!debugOpen s (scopeBit ad.toNat)) = true
  rw [hshut]
  rfl

/-- An access in its scope to a word that its level may reach: a write waits for the window, a read shifts out. -/
theorem dbgCfg_open (hopen : debugOpen s (scopeBit ad.toNat) = true)
    (hroot : ad.toNat = traceSelAddr ∨ rootOnly ad.toNat = false) :
    (exec (.dbgCfg true ad v) s =
      .next (s.putJtag { s.jtag with ir := 0x12, staged := s.jtag.staged ++ [(ad.toNat, v)] })) ∧
    (ad.toNat ≠ traceSelAddr → (wordStore ad.toNat).isSome = true → exec (.dbgCfg false ad v) s =
      .next (emit (.jtag (bitList 36 (readWord s ad.toNat).toNat)) (s.putJtag { s.jtag with ir := 0x12 }))) := by
  have hpowered : ¬ (!powered s) = true := by simp [hp]
  have hscope : ¬ (!debugOpen s (if ad.toNat = traceSelAddr then 1 else 0)) = true := by
    rw [scopeBit] at hopen
    simp [hopen]
  have hlevel : ¬ (ad.toNat != traceSelAddr && rootOnly ad.toNat) = true := by rcases hroot with h | h <;> simp [h]
  simp only [exec_dbgCfg, execDbgCfg]
  refine ⟨?_, fun hsel hstored => ?_⟩
  · rw [if_neg hpowered, if_neg hscope, if_neg hlevel, if_pos trivial]
    rfl
  · rw [if_neg hpowered, if_neg hscope, if_neg hlevel, if_neg Bool.false_ne_true, if_neg hsel, if_pos hstored,
      readWord_putJtag]

theorem dbgTrace_barred (hshut : debugOpen s 1 = false) : exec .dbgTrace s = .next (debugBarred s) :=
  congrArg Host.Outcome.next ((if_neg (by simp [hp])).trans (if_pos (by simp [hshut])))

theorem dbgTrace_shifts (hopen : debugOpen s 1 = true) : exec .dbgTrace s =
    .next (emit (.jtag (s.trace.flatMap (bitList 16))) (s.putJtag { s.jtag with ir := 0x13 })) :=
  congrArg Host.Outcome.next ((if_neg (by simp [hp])).trans (if_neg (by simp [hopen])))

end Debug

/-- Settles O55, port by port: the guest's transactions, boundary scan, tokens, and the debug accesses. -/
theorem guestAndDebugPorts : Obligations.GuestAndDebugPorts := by
  unfold Obligations.GuestAndDebugPorts
  intro bs m w d ad v ls s hs up g bytes nak reply a bit barred
  refine ⟨fun hdown => ?_, fun hup => ?_, rfl, attestComplete_reports, fun h => congrArg Host.Outcome.next (if_neg h),
    jtag_of_off, fun hon => ⟨⟨extest_scans hon, samplePreload_scans hon, extestPulse_scans hon, extestTrain_scans hon⟩,
      bypass_shifts hon, dbgNonce_shifts hon⟩, debug_unpowered, fun hp => ?_, traceSel_lands, traceSel_without⟩
  · have hdown : ¬ guestUp s = true := fun h => hdown (guestUp_iff.mp h)
    simp only [List.mem_cons, List.not_mem_nil, or_false, forall_eq_or_imp, forall_eq, exec_guestAddr, exec_guestAttNonce,
      exec_guestAttStat, exec_guestAttOff]
    exact ⟨guestIo_down hdown, guestIo_down hdown, guestIo_down hdown, guestIo_down hdown⟩
  · have hup : guestUp s = true := guestUp_iff.mpr hup
    exact ⟨guestAddr_wrongLength hup, guestAttNonce_wrongLength hup, guestAttStat_parameters hup, guestAttOff_wrongLength hup,
      guestAddr_written hup, guestAttOff_written hup, guestAttStat_written hup, guestAttNonce_refused hup,
      guestAttNonce_taken hup, guestAddr_marked hup, guestAddr_unmarked hup, guestAttStat_read hup, guestAttOff_read hup,
      guestAttOff_stale hup⟩
  · exact ⟨dbgToken_accepted hp (tablesOk_sess hs), dbgToken_rejected hp, dbgCfg_barred hp,
      fun hopen hroot => (dbgCfg_open hp hopen hroot).1,
      fun hopen hsel hroot hstored =>
        (dbgCfg_open (v := v) hp ((congrArg (debugOpen s) (if_neg hsel)).trans hopen) (.inr hroot)).2 hsel hstored,
      dbgTrace_shifts hp, dbgTrace_barred hp⟩

end Sys2Proof.Machine
end
